-- ==== Sys2Proof/Word.lean ====
section
/-! DEFINITION. The plain number types of the module's formats (R2, R5, R29) and the sparse table type that
holds numbered arrays (slots, ports, keys, map entries) as plain data. -/

namespace Sys2Proof

/-- One byte of a payload, packet or register file. -/
abbrev Byte := BitVec 8

/-- A sparse numbered array: index and value pairs, indices strictly rising, no value equal to the array's default
(`Machine.Tbl.wf`). Reading an index that is not listed gives the default. -/
abbrev Tbl (α : Type) := List (Nat × α)

/-- A field time as one number: TAI nanoseconds since 1970-01-01 (R2), in units of 2^-32 ns (R29: the four words read
as one 128-bit integer differ from this only in where the nanoseconds carry, R3). -/
abbrev FieldTime := Nat

/-- A bound word: LSB 1/64 ns, 0xFFFFFFFF unbounded (R2, R4). -/
abbrev Bound := Nat

/-- An interval with a value: LSB 2^-16 ns, signed (R30); the word 0x8000000000000000, no value, is `none` of an
`Option Interval`. -/
abbrev Interval := Int

/-- A fractional frequency: signed, LSB 2^-48 (R2, R32). -/
abbrev Freq := Int

end Sys2Proof
end

