-- ==== Sys2Proof/Syntax/Kcp.lean ====
section
/-! DEFINITION. Requests of the command protocol as the table's command rows carry them (R469, R471). -/

namespace Sys2Proof

/-- A source of commands (R471): a host ring, the plain sideband, an SPDM session on the sideband with or without
mutual authentication; and the command processor's own use, which is none of the module's masters (R18). -/
inductive Source where
  | ring (r : Nat)
  | sideband
  | session (mutualAuth : Bool)
  | internal
  deriving DecidableEq, Repr

/-- The fields of a request that its executor sees (R469); `payload` is its LENGTH bytes. -/
structure Request where
  src : Source
  tag : Nat
  flags : Nat
  priv : Nat
  expGen : Nat
  payload : List Byte
  deriving DecidableEq, Repr

/-- A request packet as fetched or received (R469, R470): `received` is the bytes received, `length` its LENGTH field. -/
structure Packet where
  received : Nat
  opcode : Nat
  length : Nat
  req : Request
  deriving DecidableEq, Repr

end Sys2Proof
end

