-- ==== Sys2Proof/Syntax/Net.lean ====
section
/-! DEFINITION. The received frames and messages that the packet service's commands carry, as the MAC and the parsers
of a sower engine hand them on (spec/11_packet_time_service.md). The wire layouts of IEEE 1588, RFC 5905 and RFC 8915
are not in the spec; a message stands here by its fields, beside the bytes an ICV or an AEAD covers. -/

namespace Sys2Proof

/-- The key of a Granary entry (R279): ADDRESS as its 16 wire-order bytes read as one number, PORT and DOMAIN. -/
structure GKey where
  address : Nat
  port : Nat
  domain : Nat
  deriving DecidableEq, Repr

/-- The PTP message a grant is for (R281). -/
inductive GrantKind where
  | announce | sync | delayResp
  deriving DecidableEq, Repr

/-- The AUTHENTICATION TLV of a received message (R284). -/
structure AuthTlv where
  spp : Nat
  secParam : Nat
  keyId : Nat
  icv : List Byte
  deriving DecidableEq, Repr

/-- The dataset of an Announce, as the comparison of IEEE 1588 orders it (R296). -/
structure Announce where
  priority1 : Nat
  clockClass : Nat
  accuracy : Nat
  variance : Nat
  priority2 : Nat
  gmIdentity : Nat
  stepsRemoved : Nat
  utcOffset : Int
  utcValid : Bool
  leap61 : Bool
  leap59 : Bool
  logInterval : Int
  deriving DecidableEq, Repr

/-- The unicast negotiation TLVs (R281, R282, R296). -/
inductive SigTlv where
  | request (kind : GrantKind) (logPeriod : Int) (duration : Nat)
  | grant (kind : GrantKind) (logPeriod : Int) (duration : Nat)
  | cancel (kind : GrantKind)
  | ackCancel (kind : GrantKind)
  deriving DecidableEq, Repr

/-- The body of a PTP message. Timestamps are field times. -/
inductive PtpBody where
  | sync (oneStep : Bool) (origin : FieldTime)
  | followUp (precise : FieldTime)
  | delayReq
  | delayResp (receive : FieldTime) (toClock : Nat)
  | announce (a : Announce)
  | signaling (tlv : SigTlv)
  | management
  | other
  deriving DecidableEq, Repr

/-- A PTP message. `covered` is the message from its first header byte to the byte before the ICV (R284); `correction`
is correctionField in 2^-16 ns; `clock` and `portNumber` are sourcePortIdentity; `bound` is BOUND of a bound TLV, when it
carries one (R286). -/
structure PtpMsg where
  version : Nat
  minor : Nat
  domain : Nat
  clock : Nat
  portNumber : Nat
  seq : Nat
  correction : Int
  auth : Option AuthTlv
  bound : Option Nat
  covered : List Byte
  body : PtpBody
  deriving DecidableEq, Repr

/-- The Authenticator and Encrypted Extension Fields field of an NTS request (R293); `ad` is the header and every field
before it. -/
structure NtsAuth where
  nonce : List Byte
  siv : List Byte
  ciphertext : List Byte
  ad : List Byte
  last : Bool
  deriving DecidableEq, Repr

/-- An NTP or NTS request (R290, R293). -/
structure NtpMsg where
  version : Nat
  mode : Nat
  poll : Nat
  txTimestamp : Nat
  mac : Bool
  length : Nat
  nts : Bool
  uniqueIds : List (List Byte)
  cookies : List (List Byte)
  placeholders : Nat
  auth : Option NtsAuth
  deriving DecidableEq, Repr

/-- What a frame carries above its tags. Addresses are numbers in wire order. -/
inductive NetBody where
  | ptpL2 (m : PtpMsg)
  | ptpUdp (v6 : Bool) (src dst : Nat) (sport : Nat) (m : PtpMsg)
  | ntpUdp (v6 : Bool) (src dst : Nat) (sport : Nat) (m : NtpMsg)
  | arp (target : Nat) (sender : Nat)
  | neighborSolicitation (target : Nat) (sender : Nat)
  | icmp (v6 : Bool) (src dst : Nat)
  | otherIp (v6 : Bool) (src dst : Nat)
  | pauseFrame
  | unknown
  deriving DecidableEq, Repr

/-- A received Ethernet frame (R276): `tags` are its VLAN tags outermost first (TPID, VID), `pcp` the PCP of the outermost, 0 where
there is none; `fragment` says the IP packet is a fragment, `options` that an IPv4 packet has options. -/
structure RxFrame where
  good : Bool
  dst : Nat
  src : Nat
  length : Nat
  tags : List (Nat × Nat)
  fragment : Bool
  options : Bool
  body : NetBody
  pcp : Nat
  deriving DecidableEq, Repr

end Sys2Proof
end

