-- ==== Sys2Proof/Syntax/Events.lean ====
section
/-! DEFINITION. What the table's event rows carry: the values the part measures, receives or finds at the event, which
the spec's rules take as given (an edge's instant, a solution, a received burst, a drive's answer). -/

namespace Sys2Proof

/-- A sideband SMBus MCTP packet (R479): `pec` says its PEC verifies; `bytes` are the packet's message bytes. -/
structure MctpPacket where
  dest : Nat
  tag : Nat
  seq : Nat
  som : Bool
  eom : Bool
  pec : Bool
  bytes : List Byte
  deriving DecidableEq, Repr

/-- What a ROM finds when it checks an image (R540): its header fields and whether digest and vendor signature verify. -/
structure ImageFile where
  verifies : Bool
  kind : Nat
  svn : Nat
  version : Nat
  countersigned : Bool
  ownerOk : List Byte
  digest : List Byte
  deriving DecidableEq, Repr

/-- What a boot finds of the sealed store and of the seal-break count (R195, R200): which copies and whether L verify. -/
structure StoreCheck where
  newerOk : Bool
  olderOk : Bool
  lowOk : Bool
  deriving DecidableEq, Repr

/-- What the M tile measures of GNSS_IF_CLK (R84): its longest time without an edge in ns, its frequency over 10 ms in mHz. -/
structure ClkSeen where
  gapNs : Nat
  freq : Nat
  deriving DecidableEq, Repr

/-- A received LNAV subframe (R81): its ten words and the last two bits of the word before. -/
structure LnavWords where
  words : List Nat
  d29 : Bool
  d30 : Bool
  deriving DecidableEq, Repr

/-- What a window of 100 us shows (R22, R533): L in 10 ns steps and the six tiles' completion margins. -/
structure WindowReport where
  p99 : Nat
  margins : List Nat
  deriving DecidableEq, Repr

/-- The levels of GNSS_IF_I3 to I0 and GNSS_IF_Q3 to Q0 at one edge of the sample clock (R83). -/
structure IqLevels where
  i : Nat
  q : Nat
  deriving DecidableEq, Repr

/-- The largest cell of an acquisition dwell (R85): its half-chip code phase, its Doppler bin, its power and the mean power. -/
structure AcqCell where
  code : Nat
  bin : Int
  power : Nat
  mean : Nat
  deriving DecidableEq, Repr

/-- The levels of the sample inputs over a span of GNSS_IF_CLK (R83): at its rising edges and at its falling edges. -/
structure IfSpan where
  rise : List IqLevels
  fall : List IqLevels
  deriving DecidableEq, Repr

/-- A channel's correlator outputs over 20 ms (R86 to R88): early and late power, prompt, the Costas product, N0 to N7. -/
structure Correlation where
  early : Nat
  late : Nat
  prompt : Int
  costas : Int
  narrow : List Int
  deriving DecidableEq, Repr

/-- One satellite's measurement in a second (R90): its tracking channel, its pseudorange divided by c in 2^-16 ns, its C/N0
in 0.1 dB-Hz. -/
structure GnssFix where
  chan : Nat
  pseudo : Interval
  cn0 : Nat
  deriving DecidableEq, Repr

/-- A second's measurements by the baseband (R90 to R97): the satellites', the sample clock's frequency in mHz, the instant of
one of its edges against the receiver's own second in ps, the front-end frequency offset in Hz, and a position-and-time fix
for a self-survey: X, Y, Z in mm and PDOP in 0.1. -/
structure GnssSecond where
  fixes : List GnssFix
  clock : Nat
  grid : Int
  ifOffset : Int
  fix : Option (Int × Int × Int × Nat)
  deriving DecidableEq, Repr

/-- What an event's source says of UTC (R18, R127): an offset when it supplies one, and its leap announcement, as the UTC
day (counted from 1970-01-01) that begins after it and whether it is positive. -/
structure TodFields where
  offset : Option Int
  leap : Option (Nat × Bool)
  deriving DecidableEq, Repr

/-- A measurement event at a reference slot (R107, R108): its instant on the timescale, its record's flags, the upstream
bound it carries, and for slots 9 to 18 the ToD fields, HOPS and ORIGIN_ID received with it (R18). -/
structure SlotEvent where
  at_ : FieldTime
  prov : Bool
  unlock : Bool
  stale : Bool
  invalid : Bool
  phase : Option Interval
  ub : Bound
  tod : Option TodFields := none
  hops : Nat := 0
  originId : Nat := 0
  deriving DecidableEq, Repr

/-- A message on a ToD UART (R124 to R126), by its contents: whether its check sums and fields are valid, the second it
labels, and what it says of UTC. -/
structure TodMsg where
  firstStop : FieldTime
  lastStop : FieldTime
  valid : Bool
  second : Nat
  utcOffset : Option Int
  leap : Nat
  deriving DecidableEq, Repr

/-- A received furrow burst (R216, R237, R239): its code groups from the first preamble symbol to the last tail symbol, each
ten bits with bit a at the top, the arrival instant of its timing edge on the time base in 2^-16 ns, the line rate, and the
STALE and MISSED flags of the edge's record. -/
structure RxBurst where
  groups : List Nat
  arrival : Int
  lean : Bool
  stale : Bool
  missed : Bool
  invalid : Bool
  deriving DecidableEq, Repr

/-- What the transmit scheduler does (R309): a message falls due, or its task runs on a thread. -/
inductive Sched where
  | unicast (entry : Nat) (kind : GrantKind)
  | multicast (domain port : Nat) (kind : GrantKind)
  | run (thread : Nat)
  deriving DecidableEq, Repr

/-- A fault of a committed frame (R289): the port, and which frame: 0 the one in progress, n + 1 the n-th committed and not
started. -/
structure FrameFault where
  port : Nat
  frame : Nat
  deriving DecidableEq, Repr

/-- A namespace that enumeration finds (R374, R377). -/
structure NvmeFound where
  nsid : Nat
  serial : Nat
  lbas : Nat
  lbaBytes : Nat
  metadata : Bool
  superOk : Bool
  deriving DecidableEq, Repr

/-- An operation on the drives that ends: its place among those in the queue pairs, oldest first, and whether it succeeded. -/
structure NvmeDone where
  ok : Bool
  nth : Nat
  deriving DecidableEq, Repr

/-- A CLAIM_FRAME on the tandem link (R423). -/
structure ClaimFrame where
  claim : Nat
  echo : Nat
  deriving DecidableEq, Repr

/-- The phase errors at an APLL's latest reference cycles, oldest first, as runs of cycles of one error (R447). -/
structure ApllCycles where
  apll : Nat
  runs : List (Nat × Interval)
  deriving DecidableEq, Repr

/-- Why an APLL may lose its lock (R447): its input is lost, or the phase errors at its latest reference cycles, oldest first. -/
inductive ApllLoss where
  | input
  | errors (l : List Interval)
  deriving DecidableEq, Repr

end Sys2Proof
end

