-- ==== Sys2Proof/Syntax.lean ====
section
/-! DEFINITION. The commands and events of the module: one constructor per row of spec/opcode_table.json (operands: what the
command carries or the part measures). -/

namespace Sys2Proof

/-- The rows of the table of operations and events. -/
inductive Instr where
  /-- IDENTIFY (R493): Returns the part, serial, versions, ownership and sideband counters of the module. -/
  | identify (rq : Request)
  /-- SNAPSHOT (R496): Accepts a request for an atomic capture of time and selected status sections at the next
  epoch marker. -/
  | snapshot (rq : Request)
  /-- SNAPSHOT_CAPTURE (R50): At the first epoch marker after acceptance, captures the time section and latches the
  requested sections, then replies. -/
  | snapshotCapture
  /-- ECHO (R494): Returns the request payload unchanged. -/
  | echo (rq : Request)
  /-- RESET_BLOCK (R497): Returns one block instance to its hardware reset state, clears its sticky bits and
  counters, and aborts its queued commands. -/
  | resetBlock (rq : Request)
  /-- GET_GENERATION (R495): Returns the module state generation and every group generation. -/
  | getGeneration (rq : Request)
  /-- IMAGE_STAGE (R555): Takes one fragment of a Nuheif image, S-tile boot image or provisioning record, and
  checks the whole at LAST. -/
  | imageStage (rq : Request)
  /-- IMAGE_ACTIVATE (R556): Action 0: makes the staged copy preferred, on trial, from the next start of its tile. -/
  | imageActivate (rq : Request)
  /-- IMAGE_ACTIVATE_S_RESTART (R556): Action 1: makes the staged copy preferred on trial, then restarts the S
  tile. -/
  | imageActivateSRestart (rq : Request)
  /-- IMAGE_ACTIVATE_MODULE_RESTART (R556): Action 2: makes the staged copy preferred on trial, then restarts the
  whole module from reset. -/
  | imageActivateModuleRestart (rq : Request)
  /-- IMAGE_SVN_RAISE (R556): Action 3: raises the OTP minimum SVN of a KIND to the SVN of the active image. -/
  | imageSvnRaise (rq : Request)
  /-- TB_STATUS (R72): Returns the time-base, warm-up, OSC0 and privileged-channel status. -/
  | tbStatus (rq : Request)
  /-- TIM_CONFIG (R73): Reads or writes the warm-up drift limit, window count and hold time, with sealed-field
  checks. -/
  | timConfig (rq : Request)
  /-- TIM_MEASURE (R74): Accepts a request to time two sources and takes it off the mailbox until its records
  arrive. -/
  | timMeasure (rq : Request)
  /-- TIM_MEASURE_RESULT (R74): When both records have arrived, or at TIMEOUT, writes the interval reply of a held
  TIM_MEASURE. -/
  | timMeasureResult
  /-- TIM_CAL_STATUS (R76): Returns lock, replica errors and the last verification result of the named privileged
  channels. -/
  | timCalStatus (rq : Request)
  /-- TIM_CAL_RUN (R75): Starts a code-density linearity verification of the named privileged channels. -/
  | timCalRun (rq : Request)
  /-- TIM_CAL_VERIFY_END (R75): After 2^18 hits, computes DNL and INL, reconnects the channel and releases the held
  slot. -/
  | timCalVerifyEnd (chan : Nat) (hist : List Nat)
  /-- GNSS_CONFIG (R100): Reads or writes the GNSS baseband configuration, restarting channels on a format or rate
  change. -/
  | gnssConfig (rq : Request)
  /-- GNSS_STATUS (R101): Returns the GNSS timing mode, solution, thresholds and declared uncertainty. -/
  | gnssStatus (rq : Request)
  /-- GNSS_CHANNELS (R102): Returns the state of all 32 tracking channels. -/
  | gnssChannels (rq : Request)
  /-- GNSS_SET_POSITION (R103): Writes a held antenna position, aborts any survey and sets HOLD. -/
  | gnssSetPosition (rq : Request)
  /-- GNSS_SURVEY_STATUS (R104): Action 0 of GNSS_SURVEY: returns the survey status. -/
  | gnssSurveyStatus (rq : Request)
  /-- GNSS_SURVEY_START (R104): Action 1 of GNSS_SURVEY: starts or restarts a self-survey. -/
  | gnssSurveyStart (rq : Request)
  /-- GNSS_SURVEY_ABORT (R104): Action 2 of GNSS_SURVEY: aborts the survey and returns to HOLD or NO_POSITION. -/
  | gnssSurveyAbort (rq : Request)
  /-- GNSS_PPS_MSG (R105): Returns up to 16 recent quantisation messages. -/
  | gnssPpsMsg (rq : Request)
  /-- REF_CONFIG (R129): Reads or writes a reference slot record; ENABLE takes effect at once. -/
  | refConfig (rq : Request)
  /-- REF_STATUS (R133): Returns UTC state and the qualification records of the named slots. -/
  | refStatus (rq : Request)
  /-- REF_LIMITS (R130): Reads or writes a slot's monitor limits, effective at its next evaluation. -/
  | refLimits (rq : Request)
  /-- REF_DUPLEX (R131): Reads, binds, unbinds or reconfigures a duplex REFIN pair. -/
  | refDuplex (rq : Request)
  /-- TOD_CONFIG (R132): Reads or writes the labelling sources, UTC source list, UART formats and host UTC state. -/
  | todConfig (rq : Request)
  /-- SEL_POLICY (R156): Reads or writes the wait-to-restore, margin, step alarm, step detect and revertive policy. -/
  | selPolicy (rq : Request)
  /-- SEL_STATUS (R157): Returns the selection, switch, step and score status. -/
  | selStatus (rq : Request)
  /-- SEL_FORCE (R158): Forces selection to one slot, with or without STRICT. -/
  | selForce (rq : Request)
  /-- SEL_CLEAR_FORCE (R158): Returns selection to automatic ranking. -/
  | selClearForce (rq : Request)
  /-- DPLL_CONFIG (R159): Reads or writes the clean-up DPLL bandwidth and damping. -/
  | dpllConfig (rq : Request)
  /-- TIME_SET_MODE0 (R160): Accepts the step waiting under STEP_WAIT and runs its switch transaction, replying at
  commit. -/
  | timeSetMode0 (rq : Request)
  /-- TIME_SET_MODE1 (R160): Sets the field-time seconds as an operator step at the first allowed boundary. -/
  | timeSetMode1 (rq : Request)
  /-- TIME_ADJUST (R161): Applies an operator interval step at the first allowed boundary. -/
  | timeAdjust (rq : Request)
  /-- OSC_CONFIG (R179): Reads or writes an oscillator member record or the ensemble record. -/
  | oscConfig (rq : Request)
  /-- ENSEMBLE_STATUS (R180): Returns the ensemble rates, holdover state and member records. -/
  | ensembleStatus (rq : Request)
  /-- HOLDOVER_MODEL (R181): Reads a model view, or writes or discards an override model as a sealed change. -/
  | holdoverModel (rq : Request)
  /-- HOLDOVER_LEARN (R182): Reads or writes the learning mode, lookback and period. -/
  | holdoverLearn (rq : Request)
  /-- HOLDOVER_LEARN_FIT (R182): Action 1: starts a fit of every member now. -/
  | holdoverLearnFit (rq : Request)
  /-- HOLDOVER_LEARN_DISCARD (R182): Action 2: discards all learning samples. -/
  | holdoverLearnDiscard (rq : Request)
  /-- BOUND_STATUS (R209): Returns the bound and each of its terms from the last computation. -/
  | boundStatus (rq : Request)
  /-- BOUND_PARAMS (R210): Reads or writes the sealed warm-up term and slope. -/
  | boundParams (rq : Request)
  /-- SEAL_BREAK_OPEN (R198): Opens a seal-break window from a keeper session while ARMED, incrementing the counter
  and logging SEAL_OPEN. -/
  | sealBreakOpen (rq : Request)
  /-- SEAL_CLOSE (R211): Closes the seal-break window and logs SEAL_CLOSE with the new digest. -/
  | sealClose (rq : Request)
  /-- LOG_READ (R212): Returns sealed event log entries and optionally acknowledges earlier ones as archived. -/
  | logRead (rq : Request)
  /-- METROLOGY_ID (R213): Returns the metrology identification, or the latched one after a VERIFY_N press. -/
  | metrologyId (rq : Request)
  /-- FUR_PORT_CONFIG (R269): Reads or writes a furrow port record, effective at its next bout boundary. -/
  | furPortConfig (rq : Request)
  /-- FUR_PORT_STATUS (R270): Returns a port's status, calibration record and mailbox counters, optionally clearing
  counters. -/
  | furPortStatus (rq : Request)
  /-- FUR_RATE_POLICY (R271): Reads or writes rate floors and ceilings for a port range, replying after the next
  bout boundary. -/
  | furRatePolicy (rq : Request)
  /-- FUR_CALIBRATE (R272): Starts a calibration run on each named port, or returns them to CAL with INITIAL. -/
  | furCalibrate (rq : Request)
  /-- FUR_MAILBOX_SEND (R273): Queues one outbound mailbox message on a port. -/
  | furMailboxSend (rq : Request)
  /-- FUR_MAILBOX_RECV (R273): Returns and removes the oldest received mailbox message of a port. -/
  | furMailboxRecv (rq : Request)
  /-- FUR_BULK_STATUS (R274): Returns compact status of up to 256 ports from one rewrite. -/
  | furBulkStatus (rq : Request)
  /-- ETH_PORT_CONFIG (R400): Reads or writes an Ethernet port record, restarting the link on a rate, PMD, AN or
  FEC change. -/
  | ethPortConfig (rq : Request)
  /-- ETH_PORT_STATUS (R401): Returns an Ethernet port's state, corrections and counters, optionally clearing them. -/
  | ethPortStatus (rq : Request)
  /-- ETH_TAG_CONFIG (R402): Reads or writes the VLAN tag entry of a port and service domain. -/
  | ethTagConfig (rq : Request)
  /-- ETH_PAUSE_CONFIG (R403): Reads or writes PAUSE and PFC enables and the pause watchdog. -/
  | ethPauseConfig (rq : Request)
  /-- ETH_ASYM_CAL (R397): Actions 0 and 1: reads or writes a sealed asymmetry row and LINK_ASYM. -/
  | ethAsymCal (rq : Request)
  /-- LOOP_MEASURE (R398): Action 2: starts 4,096 test frames through an external loop of known delay. -/
  | loopMeasure (rq : Request)
  /-- LOOP_MEASURE_END (R398): After the last test frame, computes mean, deviation and residual of the loop. -/
  | loopMeasureEnd (port : Nat) (samples : List (Option Interval))
  /-- LOOP_RESULT_READ (R404): Action 3: returns the last loop measurement result. -/
  | loopResultRead (rq : Request)
  /-- SVC_PROFILE (R301): Reads or writes a port's service profile and addresses. -/
  | svcProfile (rq : Request)
  /-- SVC_DOMAIN (R302): Reads or writes an outbound PTP domain record. -/
  | svcDomain (rq : Request)
  /-- SVC_CLIENT_ADD (R303): Inserts or updates a static Granary entry as a task on its owning engine. -/
  | svcClientAdd (rq : Request)
  /-- SVC_CLIENT_REMOVE (R304): Removes Granary entries by key, tenant or domain, cancelling their grants. -/
  | svcClientRemove (rq : Request)
  /-- SVC_CLIENT_QUERY (R305): Returns Granary entries by key or by index range. -/
  | svcClientQuery (rq : Request)
  /-- SVC_LIMITS (R306): Reads or writes the rate-limit bucket parameters. -/
  | svcLimits (rq : Request)
  /-- UPSTREAM_CONFIG (R307): Reads or writes upstream PTP domain A or B, restarting negotiation on a change. -/
  | upstreamConfig (rq : Request)
  /-- ENG_STATUS (R327): Returns engine, activation and drop status. -/
  | engStatus (rq : Request)
  /-- PROG_STAGE (R328): Takes one fragment of a sower image and verifies it at LAST. -/
  | progStage (rq : Request)
  /-- PROG_ACTIVATE (R319): Starts switching the engines to the staged sower image. -/
  | progActivate (rq : Request)
  /-- ENG_PLACEMENT_POLICY (R330): Reads or writes rebalancing, awake floor and pins, replying once in force. -/
  | engPlacementPolicy (rq : Request)
  /-- ENG_CENSUS (R331): Returns the thread wait census taken at one sample. -/
  | engCensus (rq : Request)
  /-- KEY_WRITE (R336): Writes a tenant, link master or NTS key into an empty slot, commits the wrapped store and
  replies with its check value. -/
  | keyWrite (rq : Request)
  /-- KEY_INVALIDATE (R347): Empties up to 64 slots with their descendants and advances WRAP_GEN. -/
  | keyInvalidate (rq : Request)
  /-- KEY_STATUS (R354): Returns key-store header and slot records without any key material. -/
  | keyStatus (rq : Request)
  /-- KEY_ATTR (R355): Narrows a slot's recipients and assigns a link KEY_INDEX to a port range. -/
  | keyAttr (rq : Request)
  /-- HARROW_STATUS (R356): Returns the harrow cycle progress. -/
  | harrowStatus (rq : Request)
  /-- NTS_MASTER_ROTATE (R344): Names the CURRENT NTS master slot and optionally invalidates one. -/
  | ntsMasterRotate (rq : Request)
  /-- EVD_STORE_CONFIG (R383): Reads or writes the evidence store configuration with ACTION 0. -/
  | evdStoreConfig (rq : Request)
  /-- EVD_FORMAT (R377): FORMAT: draws a STORE_ID and writes superblocks, leaving the store STOPPED. -/
  | evdFormat (rq : Request)
  /-- EVD_START (R383): START: makes a STOPPED store RUNNING. -/
  | evdStart (rq : Request)
  /-- EVD_STOP (R383): STOP: closes the FILLING sheaf and stops once staging is written. -/
  | evdStop (rq : Request)
  /-- EVD_FLUSH (R368): FLUSH: closes the FILLING sheaf. -/
  | evdFlush (rq : Request)
  /-- EVD_RELEASE (R383): RELEASE: makes a STOPPED store UNFORMATTED and empties its namespace list. -/
  | evdRelease (rq : Request)
  /-- EVD_STATUS (R385): Returns the evidence store state, counters and discovered namespaces. -/
  | evdStatus (rq : Request)
  /-- EVD_NAMESPACE_ADD (R384): Adds a discovered namespace to an unformatted store. -/
  | evdNamespaceAdd (rq : Request)
  /-- EVD_RETENTION (R386): Reads or writes MIN_RETAIN and HOLD_FROM. -/
  | evdRetention (rq : Request)
  /-- EVD_SHEAF_READ (R387): Reads part of a sheaf, optionally verified and decrypted. -/
  | evdSheafRead (rq : Request)
  /-- TAN_CONFIG (R441): Reads or writes the tandem configuration. -/
  | tanConfig (rq : Request)
  /-- TAN_STATUS (R442): Returns the tandem role, claims and partner state. -/
  | tanStatus (rq : Request)
  /-- TAN_CLAIM_AUTO (R443): Mode AUTO: ends RELEASE or MAINTENANCE. -/
  | tanClaimAuto (rq : Request)
  /-- TAN_CLAIM_RELEASE (R443): Mode RELEASE: drops the own claim to 0. -/
  | tanClaimRelease (rq : Request)
  /-- TAN_CLAIM_MAINTENANCE (R443): Mode MAINTENANCE: raises the own claim to 255. -/
  | tanClaimMaintenance (rq : Request)
  /-- TAN_COMPARE_LIMITS (R444): Reads or writes the tandem comparison threshold and T_DISC. -/
  | tanCompareLimits (rq : Request)
  /-- SYN_CONFIG (R464): Reads or writes an output APLL record, restarting it on a VCO, bandwidth or seed change. -/
  | synConfig (rq : Request)
  /-- SYNC_IN_ARM (R459): Action 1 of SYN_CONFIG: arms SYNC_IN for one edge. -/
  | syncInArm (rq : Request)
  /-- SYN_STATUS (R465): Returns APLL and output status. -/
  | synStatus (rq : Request)
  /-- OUT_PPS_CONFIG (R466): Reads or writes a PPS or FOUT output record. -/
  | outPpsConfig (rq : Request)
  /-- OUT_SAMPLE_CLOCK (R467): Reads or writes a sample-clock record. -/
  | outSampleClock (rq : Request)
  /-- REFCLK_SPREAD (R468): Reads or writes the NVME_REFCLK and AUXCLK spread and AUXCLK enable. -/
  | refclkSpread (rq : Request)
  /-- PWR_POLICY (R557): Reads or writes the VDD_S floor, ceiling and latency target. -/
  | pwrPolicy (rq : Request)
  /-- PWR_POLICY_ARBITRATION (R416): SELECT 0x02 of PWR_POLICY: reads or writes the arbiter weights and BURST. -/
  | pwrPolicyArbitration (rq : Request)
  /-- PWR_STATUS (R558): Returns voltage loop, temperature, margin and energy status. -/
  | pwrStatus (rq : Request)
  /-- PERF_FILTER (R528): Reads or writes a filtered counter's filter, clearing the counter. -/
  | perfFilter (rq : Request)
  /-- PERF_READ (R529): Samples named performance counters at one instant, optionally clearing them. -/
  | perfRead (rq : Request)
  /-- LOOPBACK_SET (R571): Sets a loop-back of an interface at a depth for a duration. -/
  | loopbackSet (rq : Request)
  /-- LOOPBACK_CLEAR (R572): Reports a loop-back's results and ends it unless KEEP is set. -/
  | loopbackClear (rq : Request)
  /-- BIST_REPORT (R573): TEST 0x00 of BIST_RUN: returns the outcome of a self-test. -/
  | bistReport (rq : Request)
  /-- BIST_KAT (R565): TEST 0x01: runs known-answer tests of every algorithm. -/
  | bistKat (rq : Request)
  /-- BIST_MARCH (R565): TEST 0x02: runs a march test of a fallow cluster's memories. -/
  | bistMarch (rq : Request)
  /-- BIST_RNG (R565): TEST 0x03: runs the random source start-up tests. -/
  | bistRng (rq : Request)
  /-- BIST_PRBS (R565): TEST 0x04: runs a PRBS31 bit-error test of a disabled Ethernet lane. -/
  | bistPrbs (rq : Request)
  /-- BIST_REPLICA (R565): TEST 0x05: checks an F-tile replica against the S-tile replica at 1,000 markers. -/
  | bistReplica (rq : Request)
  /-- BIST_END (R565): A running self-test ends and records pass or fail. -/
  | bistEnd (test : Nat) (errors : Nat)
  /-- TEST_UNLOCK_CHALLENGE (R568): Action 1: returns a 52-byte unlock challenge. -/
  | testUnlockChallenge (rq : Request)
  /-- TEST_UNLOCK_RESPONSE (R568): Action 2: verifies the signed challenge and reports the unlock to Nuheif. -/
  | testUnlockResponse (rq : Request)
  /-- TEST_UNLOCK_END (R569): Action 3: ends the test unlock. -/
  | testUnlockEnd (rq : Request)
  /-- FAULT_READ (R524): Returns fault block words read at one instant. -/
  | faultRead (rq : Request)
  /-- FAULT_CLEAR (R525): Clears sticky fault bits whose conditions no longer hold. -/
  | faultClear (rq : Request)
  /-- IRQ_GROUP_CONFIG (R526): Action 0: reads or configures an interrupt group. -/
  | irqGroupConfig (rq : Request)
  /-- IRQ_GROUP_ACK (R517): Action 1 of IRQ_GROUP_CONFIG: acknowledges the named sources. -/
  | irqGroupAck (rq : Request)
  /-- FLT_PIN_MASK (R527): Reads or writes the severe-line mask of a fault word. -/
  | fltPinMask (rq : Request)
  /-- CMD_SQ_TAIL_WRITE (R475): Host doorbell write that makes submission slots available for fetching. -/
  | cmdSqTailWrite (ring value : Nat)
  /-- CMD_CQ_HEAD_WRITE (R475): Host write of the completion head that frees completion-ring space. -/
  | cmdCqHeadWrite (ring value : Nat)
  /-- CMD_RING_CFG_WRITE (R473): Write of a ring's enable, depth, class or vector. -/
  | cmdRingCfgWrite (ring value : Nat)
  /-- CLASS_LOCK (R473): Writing CLASS_LOCK 1 freezes the ring's class until module reset. -/
  | classLock (ring : Nat)
  /-- RING_QUIESCE (R476): When ENABLE is clear and the ring's last accepted command has ended, QUIESCED sets. -/
  | ringQuiesce (ring : Nat)
  /-- CMD_RING_STAT_CLEAR (R6): W1C write clearing sticky ring status bits. -/
  | cmdRingStatClear (ring value : Nat)
  /-- IRQ_INSVC_ACK (R517): W1C of an IRQ_INSVC bit acknowledges an interrupt source. -/
  | irqInsvcAck (group word value : Nat)
  /-- FLT_STATUS_CLEAR (R512): W1C of FLT_STATUS bits clears sticky faults whose conditions no longer hold. -/
  | fltStatusClear (block word value : Nat)
  /-- PERF_OVF_CLEAR (R520): W1C of PERF_HI bit 31 clears a counter's overflow flag. -/
  | perfOvfClear (event value : Nat)
  /-- TIME_NS_READ (R46): A read of TIME_NS captures the replica and latches the other live-time registers. -/
  | timeNsRead
  /-- SLOW_TIMEOUT (R502): A slow-domain access unanswered in 2 µs completes with all ones and sets SLOW_TIMEOUT. -/
  | slowTimeout (offset : Nat) (write : Bool)
  /-- REGISTER_WRITE (R6): Write to a register with no behaviour of its own sets the field or is ignored. -/
  | registerWrite (offset value byteEnables : Nat)
  /-- COMMAND_ACCEPT (R477): A waiting request is checked and, when a command slot is free, accepted or rejected
  with a reply. -/
  | commandAccept (packet : Packet) (dmaOk : Bool)
  /-- COMMAND_EXECUTE (R484): The group's executor takes the next accepted command in order and checks its
  generation condition. -/
  | commandExecute (group : Nat)
  /-- REPLY_DELIVER (R475): A built reply is written to the completion ring or sideband once space exists, then the
  ring interrupt arrives. -/
  | replyDeliver (src : Source) (ok : Bool)
  /-- RELAY_COMMAND (R16): The command processor relays the next queued M-tile command into the free mailbox. -/
  | relayCommand
  /-- RELAY_TIMEOUT (R16): A queued M-tile command not relayed within 200 ms is answered TIMEOUT. -/
  | relayTimeout
  /-- MAILBOX_SERVICE (R16): Nuheif serves the mailbox for up to 8 µs in a 1 ms interval and writes any complete
  reply. -/
  | mailboxService
  /-- PENDING_REPLY (R16): A relayed command not complete within 10 ms is answered PENDING and continues in the
  background. -/
  | pendingReply
  /-- MCTP_PACKET (R479): A sideband SMBus MCTP packet is received and reassembled into a message. -/
  | mctpPacket (p : MctpPacket)
  /-- MCTP_REASSEMBLY_TIMEOUT (R479): A partial message without its next packet for 100 ms is discarded. -/
  | mctpReassemblyTimeout
  /-- SB_REPLY_RETRY (R479): An unacknowledged sideband reply packet is retried every 10 ms and discarded after 1
  s. -/
  | sbReplyRetry (acked : Bool)
  /-- SET_ENDPOINT_ID (R480): MCTP control message assigning the endpoint ID. -/
  | setEndpointId (operation eid : Nat)
  /-- GET_ENDPOINT_ID (R480): MCTP control message returning the endpoint ID. -/
  | getEndpointId
  /-- GET_MCTP_VERSION_SUPPORT (R480): MCTP control message returning supported versions. -/
  | getMctpVersionSupport (messageType : Nat)
  /-- GET_MESSAGE_TYPE_SUPPORT (R480): MCTP control message returning supported message types. -/
  | getMessageTypeSupport
  /-- GET_VENDOR_DEFINED_MSG_SUPPORT (R480): MCTP control message returning vendor-defined support. -/
  | getVendorDefinedMsgSupport (selector : Nat)
  /-- GET_VERSION (R481): SPDM request returning the version. -/
  | getVersion (doe : Bool)
  /-- GET_CAPABILITIES (R481): SPDM request returning capabilities. -/
  | getCapabilities (doe : Bool)
  /-- NEGOTIATE_ALGORITHMS (R481): SPDM request negotiating algorithms. -/
  | negotiateAlgorithms (doe : Bool) (supported : Bool)
  /-- GET_DIGESTS (R481): SPDM request returning certificate digests. -/
  | getDigests (doe : Bool)
  /-- GET_CERTIFICATE (R481): SPDM request returning a certificate chain. -/
  | getCertificate (doe : Bool) (slot offset length : Nat)
  /-- CHALLENGE (R481): SPDM challenge signed under the device identity. -/
  | challenge (doe : Bool) (nonce : List Byte)
  /-- GET_MEASUREMENTS (R482): SPDM request returning the measurement digests. -/
  | getMeasurements (doe : Bool) (op : Nat) (nonce : List Byte)
  /-- KEY_EXCHANGE (R481): SPDM request opening a session key exchange. -/
  | keyExchange (doe : Bool) (exchange : List Byte)
  /-- FINISH (R483): SPDM request completing a session and granting its class. -/
  | finish (doe : Bool) (macOk : Bool) (cert : Option (List Byte))
  /-- HEARTBEAT (R483): SPDM session heartbeat. -/
  | heartbeat (doe : Bool)
  /-- KEY_UPDATE (R481): SPDM session key update. -/
  | keyUpdate (doe : Bool)
  /-- END_SESSION (R483): SPDM request ending the session and abandoning its unexecuted commands. -/
  | endSession (doe : Bool)
  /-- HEARTBEAT_TIMEOUT (R483): Two missed heartbeats end the SPDM session. -/
  | heartbeatTimeout (doe : Bool)
  /-- POWER_ON_RESET_RELEASE (R531): All supplies in range for 10 ms release reset and start M-BOOT. -/
  | powerOnResetRelease
  /-- SUPPLY_LOSS (R531): A supply out of range for over 10 µs returns the module to reset. -/
  | supplyLoss
  /-- NUHEIF_BOOT (R543): M-tile ROM checks and starts Nuheif, which loads sealed parameters and writes the BOOT
  entry. -/
  | nuheifBoot (found : StoreCheck)
  /-- BOOT_IMAGE_VERDICT (R544): The M-tile ROM checks the S-tile boot image passed through the mailbox and returns
  a verdict. -/
  | bootImageVerdict
  /-- M_BOOT_END (R543): With the S-tile image accepted and the APLL locked, the M tile enters WARM-UP and starts
  the time bus. -/
  | mBootEnd
  /-- S_TILE_BOOT (R544): On an accepted image, the S tile unwraps keys, applies provisioning, loads sower engines
  and enters READY. -/
  | sTileBoot
  /-- TRIAL_FALLBACK (R541): A trial image not reaching its end point in 2 s restarts on the other copy. -/
  | trialFallback (tileS : Bool)
  /-- RECOVERY_RESPONDER (R551): With both S-tile images failed, the ROM serves recovery commands in BOOT. -/
  | recoveryResponder
  /-- NUHEIF_RECOVERY (R552): With both Nuheif copies failed, the ROM accepts a keeper-armed KIND 0 image. -/
  | nuheifRecovery (image : ImageFile)
  /-- PERST_ASSERT (R476): PCIe link down or PERST_N stops host ring fetching and discards host replies. -/
  | perstAssert
  /-- PCIE_LINK_UP (R518): Link-up after PERST_N resets ring registers and MSI-X and returns IN_SERVICE sources to
  PENDING. -/
  | pcieLinkUp
  /-- MSIX_UNMASK (R518): Unmasking a vector or enabling MSI-X lets waiting deliveries be sent. -/
  | msixUnmask (vector : Option Nat)
  /-- APLL_FIRST_LOCK (R52): The time-base APLL first locks and the tick counter starts at zero. -/
  | apllFirstLock
  /-- OSC0_LOSS (R54): No OSC0 edge for 1 µs or APLL unlock declares OSC0 loss, holds the VCO and unbinds the
  bound. -/
  | osc0Loss (lockDetector : Bool)
  /-- OSC0_RELOCK (R54): OSC0 present 10 ms relocks the APLL and re-enters WARM-UP. -/
  | osc0Relock
  /-- OVEN_RDY_HIGH (R55): OVEN_RDY high for 1 s counts as high. -/
  | ovenRdyHigh
  /-- OVEN_RDY_LOW (R55): OVEN_RDY low for 100 ms counts as low, restarting warm-up and returning to WARM-UP. -/
  | ovenRdyLow
  /-- WARMUP_WINDOW_END (R56): At the end of each 10 s window, judges OSC0 drift against the comparison source and
  may clear the warm-up flag. -/
  | warmupWindowEnd (source : Nat) (freq : Freq)
  /-- MEASURED_EDGE (R59): An edge at an interpolator starts a vernier conversion, or is counted missed in dead
  time. -/
  | measuredEdge (priv : Bool) (index edgePs : Nat) (hit : Option Nat)
  /-- CONVERSION_END (R61): Coincidence ends a conversion and yields a measurement record. -/
  | conversionEnd (priv : Bool) (index : Nat) (code : Option Nat) (endPs : Nat)
  /-- CHANNEL_LOCK_WINDOW (R63): Each 10 ms replica count window updates a privileged channel's lock state. -/
  | channelLockWindow (chan : Nat) (fast slow : Freq)
  /-- REFRESH_START (R67): Every 64 s starts a code-density refresh, abandoning an unfinished one. -/
  | refreshStart (interp : Nat)
  /-- REFRESH_COMPLETE (R68): A refresh with 2^18 hits is judged, accepted or rejected. -/
  | refreshComplete (interp : Nat) (hist : List Nat)
  /-- TABLE_REPLACE (R68): An accepted width table replaces the one in use at the next epoch marker. -/
  | tableReplace (interp : Nat)
  /-- INTERPOLATOR_SELFCHECK (R71): An Ethernet interpolator and its spare time a common test edge and compare. -/
  | interpolatorSelfcheck (port : Nat) (diff : Interval)
  /-- GNSS_CLK_FAULT (R84): Missing or off-frequency GNSS sample clock declares a sample-clock fault. -/
  | gnssClkFault (clock : ClkSeen)
  /-- GNSS_CLK_CLEAR (R84): 100 ms of clean sample clock clears the fault and restarts tracking. -/
  | gnssClkClear (clock : ClkSeen)
  /-- ACQUISITION_DWELL (R85): Completion of a dwell over a PRN's search grid, with verify and hand-off to a
  tracking channel. -/
  | acquisitionDwell (prn : Nat) (rise fall checkRise checkFall : List IqLevels)
  /-- TRACKING_LOSS (R87): A channel whose 1 s C/N0 falls below the loss threshold returns to IDLE. -/
  | trackingLoss (chan : Nat) (cn0 : List Nat)
  /-- MULTIPATH_FIT (R88): Every 20 ms a channel fits its direct-path and reflection model. -/
  | multipathFit (chan : Nat) (span : IfSpan)
  /-- EPHEMERIS_ADOPT (R82): Consistent IODE and IODC adopt a new ephemeris. -/
  | ephemerisAdopt (prn : Nat)
  /-- GNSS_SOLUTION (R90): Once per second forms the weighted timing solution with residual exclusion and issues
  the quantisation message. -/
  | gnssSolution (sol : GnssSecond)
  /-- QUANTISATION_PAIRING (R95): Pairs a channel 8 record with its quantisation message and yields slot 8's
  instant. -/
  | quantisationPairing (second : Nat) (instant : Option FieldTime)
  /-- REF_EVENT (R108): A slot measurement event yields a phase for the monitors. -/
  | refEvent (slot : Nat) (ev : SlotEvent)
  /-- ACTIVITY_WINDOW_CLOSE (R111): A prediction window closes without an event, counting it missing and possibly
  failing the monitor. -/
  | activityWindowClose (slot : Nat)
  /-- FREQ_EVALUATION (R116): 500 ms after each second, estimates each slot's offset and applies qualification
  transitions. -/
  | freqEvaluation
  /-- UART_MESSAGE (R124): A complete ToD message on a UART labels an edge or is discarded. -/
  | uartMessage (uart : Nat) (bytes : List Byte) (stop : FieldTime)
  /-- UART_LABEL_TIMEOUT (R123): 3 s without a label makes a UART source invalid. -/
  | uartLabelTimeout (uart : Nat)
  /-- UTC_HOLD_EXPIRY (R127): No offset from any listed source for UTC_HOLD clears UTC_VALID. -/
  | utcHoldExpiry
  /-- LEAP_SECOND (R38): At the leap epoch marker the UTC offset changes and the indicator clears. -/
  | leapSecond
  /-- COMPUTATION (R183): The 1 ms M-tile computation: ensemble rate, selection, DPLL, holdover decisions,
  clockClass and bound. -/
  | computation (tempM : Int)
  /-- STEP_EFFECTIVE (R593): At the effective marker the step is added to the accumulator and every replica, and
  grids move. -/
  | stepEffective
  /-- STEP_MIRROR (R433): A standby commits the partner's announced step as soon as its TIME_WORD is relayed. -/
  | stepMirror
  /-- SETTLE_END (R152): Settle ends after 32 time constants; LOCKED and time-uncertain clear as applicable. -/
  | settleEnd
  /-- GUARD_EXPIRY (R144): The step guard expires and automatic switches are allowed again. -/
  | guardExpiry
  /-- WTR_EXPIRY (R135): A slot's wait-to-restore timer expires. -/
  | wtrExpiry (slot : Nat)
  /-- MEMBER_JOIN (R164): An ABSENT member present 1 s enters JOINING. -/
  | memberJoin (osc : Nat)
  /-- ENSEMBLE_TEST (R169): Every 1,024 s tests members for outliers, admits joiners and recomputes weights. -/
  | ensembleTest
  /-- LEARNING_SAMPLE (R171): Every 256 s forms a learning sample per ACTIVE member. -/
  | learningSample
  /-- HOLDOVER_FIT (R171): Every LEARN_PERIOD, or on demand, fits the holdover model. -/
  | holdoverFit
  /-- TEMP_READ (R172): Each second reads an oscillator temperature sensor over I2C and updates its validity. -/
  | tempRead (osc : Nat) (raw : Option Nat)
  /-- TIME_BUS_FRAME (R11): Each microsecond the M tile sends a time-bus frame ending at the epoch marker. -/
  | timeBusFrame
  /-- FRAME_RECEIVE (R12): A die checks a time-bus frame's CRC and sets its replica, tracking loss. -/
  | frameReceive (die : Nat) (noise : Option Nat)
  /-- CLAIM_WORD (R15): At each marker the S tile sends a claim word to each F tile, which checks it. -/
  | claimWord (tile : Nat) (noise : Option Nat)
  /-- SLOT_MEASUREMENT_REPORT (R18): The command processor delivers slot measurement reports to Nuheif per
  computation. -/
  | slotMeasurementReport (slot : Nat) (upTo : FieldTime)
  /-- FAULT_REPLICA_UPDATE (R510): Nuheif publishes a change of fault block 0 to its BAR0 replica. -/
  | faultReplicaUpdate
  /-- SEALED_PORT_FIELDS (R196): Nuheif delivers sealed port fields to the S and F tiles after a change. -/
  | sealedPortFields
  /-- SEAL_PRESS (R201): A SEAL_N press held 5 s counts and arms the module for 60 s. -/
  | sealPress
  /-- ARMED_EXPIRY (R198): 60 s after the last counted SEAL_N press the module is no longer ARMED. -/
  | armedExpiry
  /-- VERIFY_PRESS (R202): A counted VERIFY_N press latches the metrology identification and alerts. -/
  | verifyPress
  /-- PRESS_STUCK (R201): A press held 30 s sets STUCK for its input. -/
  | pressStuck (verify : Bool)
  /-- SEAL_WINDOW_TIMEOUT (R198): 30 min after opening, the seal-break window closes and logs SEAL_CLOSE. -/
  | sealWindowTimeout
  /-- LOG_WRITE (R204): Nuheif writes a chained sealed event log entry. -/
  | logWrite (type detail id value : Nat) (flashOk : Bool)
  /-- LOG_FLUSH (R205): When the flash recovers, queued entries are written. -/
  | logFlush (flashOk : Bool)
  /-- BOUT_EPOCH (R221): At each bout epoch the head end launches the downstream burst or keeps a dark epoch
  silent. -/
  | boutEpoch (port : Nat)
  /-- BURST_BUILD (R226): At E − 1 µs the head end builds a burst from the frame and claim in force. -/
  | burstBuild (port : Nat)
  /-- DOWNSTREAM_BURST (R237): A leaf receives a downstream burst, checks it and takes time under R262. -/
  | downstreamBurst (port : Nat) (b : RxBurst)
  /-- UPSTREAM_LAUNCH (R263): A leaf launches its upstream burst at the turnaround. -/
  | upstreamLaunch (port : Nat)
  /-- UPSTREAM_BURST (R239): The head end receives an upstream burst and forms a delay sample. -/
  | upstreamBurst (port : Nat) (b : RxBurst)
  /-- LEAF_DECISION (R246): A dual-homed leaf chooses a burst once both arrive or P/4 after the missing one was
  due. -/
  | leafDecision (portA portB : Nat)
  /-- SEARCH_TIMEOUT (R248): 256 bouts without a delay sample return a head end to SEARCHING. -/
  | searchTimeout (port : Nat)
  /-- LISTEN_TIMEOUT (R248): 1,024 bouts without an accepted burst return a leaf to LISTEN. -/
  | listenTimeout (port : Nat)
  /-- LEAN_AFTER_IDLE (R244): 4,096 bouts without mailbox traffic set NEXT_LEAN. -/
  | leanAfterIdle (port : Nat)
  /-- CAL_RUN_START (R251): An in-service calibration run starts on period, temperature change or command. -/
  | calRunStart (port : Nat)
  /-- CAL_MEASUREMENT (R250): One TAP or LOOP calibration burst is timed. -/
  | calMeasurement (port : Nat) (interval : Interval)
  /-- CAL_RUN_END (R252): A completed calibration run is accepted or rejected. -/
  | calRunEnd (port : Nat)
  /-- CAL_APPLY (R253): An accepted run takes effect at the next bout boundary, shifting filter samples. -/
  | calApply (port : Nat)
  /-- MAILBOX_TLV (R234): A received MAILBOX TLV is accepted or discarded by sequence and assembled. -/
  | mailboxTlv (port : Nat) (channel flags seq : Nat) (data : List Byte)
  /-- MAILBOX_RESEND (R234): 8 bouts without acknowledgement resend every unacknowledged TLV. -/
  | mailboxResend (port : Nat)
  /-- STATUS_ARRAY_REWRITE (R265): Each 1 ms the F tile rewrites every port status record. -/
  | statusArrayRewrite
  /-- ETH_FRAME_RECEIVE (R276): A received Ethernet frame is filtered, untagged, timestamped and classified to a
  task. -/
  | ethFrameReceive (port : Nat) (f : RxFrame)
  /-- TASK_ADMIT (R311): A waiting message is admitted to its engine when a thread, the bucket and output credit
  allow. -/
  | taskAdmit (engine : Nat) (wait : Option (Nat × Nat))
  /-- ARP_REQUEST (R276): An ARP request or Neighbor Solicitation for a configured address is answered. -/
  | arpRequest (thread : Nat)
  /-- REQUEST_UNICAST_TRANSMISSION (R281): A unicast grant request is authenticated, admitted and answered with a
  GRANT. -/
  | requestUnicastTransmission (thread : Nat)
  /-- CANCEL_UNICAST_TRANSMISSION (R282): A cancel is acknowledged and clears its grant bit. -/
  | cancelUnicastTransmission (thread : Nat)
  /-- DELAY_REQ (R282): A Delay_Req from a granted client is answered with a Delay_Resp. -/
  | delayReq (thread : Nat)
  /-- ANNOUNCE_RECEIVED (R278): An Announce on an outbound domain is discarded and counted. -/
  | announceReceived (thread : Nat)
  /-- GRANT_EXPIRY (R282): At EXPIRY an entry's grants end and a non-static entry is freed. -/
  | grantExpiry (entry : Nat)
  /-- SCHEDULED_MESSAGE (R309): A granted or multicast Sync, Announce or Follow_Up falls due as a task. -/
  | scheduledMessage (what : Sched)
  /-- NTP_REQUEST (R291): An NTP mode 3 request is answered with a mode 4 response or a kiss. -/
  | ntpRequest (thread : Nat)
  /-- NTS_REQUEST (R293): An NTS request is checked, decrypted and answered or NAKed. -/
  | ntsRequest (thread : Nat)
  /-- UPSTREAM_MESSAGE (R297): An upstream Sync, Follow_Up or Delay_Resp completes an exchange and gives a slot
  event. -/
  | upstreamMessage (thread : Nat)
  /-- UPSTREAM_ANNOUNCE (R296): An upstream Announce updates the candidate masters and the chosen master. -/
  | upstreamAnnounce (thread : Nat)
  /-- UPSTREAM_RENEWAL (R296): At half its duration an upstream grant is renewed. -/
  | upstreamRenewal (up cand : Nat)
  /-- LAUNCH_COMMIT (R287): The MAC commits a frame carrying its own transmit instant and fills its fields. -/
  | launchCommit (port : Nat)
  /-- START_OF_FRAME (R288): A committed or plain frame starts on the wire, returning credit as it goes. -/
  | startOfFrame (port queue : Nat)
  /-- FRAME_STOMP (R289): A fault withdraws or stomps a committed frame and voids its record. -/
  | frameStomp (w : FrameFault)
  /-- TX_DOWN_DROP (R418): A frame at the head of a queue of a down port is discarded. -/
  | txDownDrop (port queue : Nat)
  /-- WAIT_EVENT (R314): An event of its class ends a thread's wait. -/
  | waitEvent (thread cls : Nat) (next : Option (Nat × Nat))
  /-- WAIT_TIMEOUT (R314): A wait reaches its deadline and ends with TIMEOUT. -/
  | waitTimeout (thread : Nat) (next : Option (Nat × Nat))
  /-- TASK_ABORT (R315): A task 2^22 ns after admission is aborted and cleared. -/
  | taskAbort (thread : Nat)
  /-- STALL_CENSUS (R316): At each marker the stall census samples the threads. -/
  | stallCensus
  /-- ENGINE_SWITCH (R319): An engine with no task left loads the new image and resumes admission. -/
  | engineSwitch (engine : Nat)
  /-- BUCKET_MOVE (R322): A bucket with no task in flight moves to its new engine. -/
  | bucketMove (bucket : Nat)
  /-- REBALANCE (R323): Every 1 ms moves unpinned buckets from busy to idle engines. -/
  | rebalance (moves : List (Nat × Nat)) (occ : List Nat)
  /-- CLUSTER_WAKE (R325): High occupancy over 100 µs wakes a fallow cluster. -/
  | clusterWake (cluster occupancy : Nat)
  /-- CLUSTER_FALLOW (R325): Low occupancy for 10 ms moves a cluster's buckets out and power-gates it. -/
  | clusterFallow (cluster occupancy : Nat)
  /-- EPOCH_ROLL (R338): At a marker where the key epoch changes, epoch keys are rolled or rederived. -/
  | epochRoll
  /-- HARROW_VISIT (R348): Every 15,625 µs re-masks the shares of one key-store position. -/
  | harrowVisit
  /-- RNG_HEALTH_FAIL (R349): A failed entropy health test sets RNG_FAULT and pauses the harrow. -/
  | rngHealthFail
  /-- RECORD_CREATE (R295): A served exchange allocates and encrypts a SERVED record or drops it. -/
  | recordCreate (thread : Nat)
  /-- RECORD_RESOLVE (R362): A PENDING record's message is reported started, or the record becomes VOID. -/
  | recordResolve (sheaf slot : Nat)
  /-- MARK_WRITE (R365): After a discovery, the sealer reads the log entry and writes a MARK record. -/
  | markWrite
  /-- SHEAF_CLOSE (R368): A sheaf closes when full and fills its remaining slots. -/
  | sheafClose
  /-- SHEAF_AGE_CLOSE (R368): A sheaf closes when SEAL_AGE passes since its first allocation. -/
  | sheafAgeClose
  /-- SHEAF_SEAL (R368): A closed sheaf with no PENDING record is hashed, chained and signed. -/
  | sheafSeal
  /-- SHEAF_WRITE (R373): A sealed sheaf is written to its ring position, header last, when not retained. -/
  | sheafWrite
  /-- NVME_COMPLETION (R375): Completion of an NVMe write or read frees its staging buffer or queue entry. -/
  | nvmeCompletion (done : NvmeDone)
  /-- NVME_WRITE_TIMEOUT (R375): A write past 1 s is retried once, then the store enters FAULT. -/
  | nvmeWriteTimeout
  /-- NVME_ENUMERATE (R374): At store start or reset, controllers are enumerated and queues set up. -/
  | nvmeEnumerate (found : List NvmeFound)
  /-- SCRUB_READ (R380): The scrubber reads and verifies one sheaf position. -/
  | scrubRead (corrupt : Bool)
  /-- ETH_LINK_UP (R389): Alignment and FEC lock move a port to UP. -/
  | ethLinkUp (port : Nat) (alignRx alignTx : Interval)
  /-- ETH_LINK_DOWN (R389): Loss of lock returns a port to DOWN. -/
  | ethLinkDown (port : Nat)
  /-- AUTO_NEGOTIATION (R389): A Clause 73 negotiation completes or fails. -/
  | autoNegotiation (port : Nat) (agreed : Option (Nat × Bool))
  /-- LPI_RECEIVED (R390): Received LPI sets LPI_SEEN and discards frames for 100 µs after it. -/
  | lpiReceived (port : Nat)
  /-- PAUSE_FRAME (R392): A received PAUSE or PFC frame pauses queues or is counted and ignored. -/
  | pauseFrame (port : Nat) (pfc : Bool) (enables : Nat) (quanta : List Nat)
  /-- PAUSE_WDOG (R393): A queue paused for PAUSE_WDOG unpauses all queues and enters PAUSE_IGNORE. -/
  | pauseWdog (port : Nat)
  /-- PAUSE_IGNORE_EXIT (R393): 10 ms without flow-control frames ends PAUSE_IGNORE. -/
  | pauseIgnoreExit (port : Nat)
  /-- PHASE_SAMPLE (R394): At 0 ns and 500 ns after each marker an Ethernet interpolator samples its SerDes clocks. -/
  | phaseSample (port : Nat) (tx : Bool) (good : Bool)
  /-- ARBITER_WINDOW (R408): At each 1 µs window start, tallies are refilled and renormalised. -/
  | arbiterWindow
  /-- ARBITER_GRANT (R409): A free unit is granted to the waiting requester with the highest tally. -/
  | arbiterGrant (resource : Nat) (waiting : List (Nat × Nat × Nat))
  /-- SCRUB_BURST (R414): The SRAM scrubber takes one bank for up to 128 ns every 10 µs. -/
  | scrubBurst (bank : Nat)
  /-- CLAIM_SEND (R420): At each marker the unit sends a claim word on CLAIM_OUT and a CLAIM_FRAME. -/
  | claimSend
  /-- CLAIM_DECISION (R425): Each microsecond the own claim is decided from faults, verdicts, modes and promotion. -/
  | claimDecision
  /-- CLAIM_CHECK (R421): At each check instant the partner's claim is judged, with timeouts, promotion and driver
  gating. -/
  | claimCheck (words : List (List Nat))
  /-- SHARED_DRIVER_ENABLE (R428): At marker M_k+2 a shared output driver enables. -/
  | sharedDriverEnable
  /-- CLAIM_FRAME (R423): A CLAIM_FRAME is received on the tandem link. -/
  | claimFrame (bytes : Option (List Byte))
  /-- TIME_WORD (R424): A partner TIME_WORD is received and relayed to Nuheif. -/
  | timeWord (bytes : Option (List Byte))
  /-- MIRROR (R423): A partner MIRROR frame is received. -/
  | mirror (bytes : Option (List Byte))
  /-- TANDEM_REPORT (R424): Nuheif writes the tandem report by B + 100 µs each computation. -/
  | tandemReport
  /-- REJOIN_HOLD_EXPIRY (R437): REJOIN_HOLD after the latch clears returns the claim to STANDBY_CLAIM. -/
  | rejoinHoldExpiry
  /-- APLL_LOCK (R447): An output APLL declares lock after LOCK_N cycles within LOCK_WIN. -/
  | apllLock (cycles : ApllCycles)
  /-- APLL_UNLOCK (R447): Phase error or lost input unlocks an output APLL and gates its outputs. -/
  | apllUnlock (apll : Nat) (loss : ApllLoss)
  /-- OUTPUT_RESUME (R448): At the resume instant gated outputs restart on their grids. -/
  | outputResume (apll : Nat)
  /-- PPS_EDGE (R452): A PPS output emits its pulse at second plus OFFSET. -/
  | ppsEdge (output : Nat)
  /-- LOOP_CHECK (R454): Each second compares the PPS0 and PPS1 loop-back edges and may set OUT_PATH. -/
  | loopCheck (edge0 edge1 : Option FieldTime)
  /-- SAMPLE_CLOCK_START (R457): At the start instant BCLK and FCLK begin. -/
  | sampleClockStart (clock : Nat)
  /-- EPOCH_START_MARKER (R458): At EPOCH_START the marker pulse is emitted on its PPS output. -/
  | epochStartMarker (clock : Nat)
  /-- SYNC_IN_EDGE (R459): A rising SYNC_IN edge after arming restarts SYNC_EN outputs. -/
  | syncInEdge (wide : Bool)
  /-- IRQ_DELIVERY (R516): After HOLDOFF, a group with PENDING sources delivers one message. -/
  | irqDelivery (group : Nat)
  /-- PARITY_CHECK (R508): A configuration word failing parity sets CFG_PARITY and enters the safe state. -/
  | parityCheck (fn : Nat)
  /-- MIRROR_WRITE (R507): A status mirror entry is rewritten after a change or 200 µs after each boundary. -/
  | mirrorWrite (entry : Nat)
  /-- VOLTAGE_WINDOW (R533): After each 100 µs window the voltage loop raises or lowers VDD_S. -/
  | voltageWindow (seen : WindowReport) (avsOk : Bool)
  /-- AVS_FAULT (R534): Three failed AVSBus transactions or a regulator alert set AVS_FAULT. -/
  | avsFault (alert : Bool)
  /-- TEMP_CRIT (R535): A die sensor above 110 °C sets TEMP_CRIT. -/
  | tempCrit (die : Nat) (temp : Int)
  /-- UNLOCK_EFFECTIVE (R569): The test unlock takes effect at the first marker carrying TEST_UNLOCK. -/
  | unlockEffective
  /-- UNLOCK_EXPIRY (R569): At DURATION the test unlock ends. -/
  | unlockExpiry
  /-- LOOPBACK_EXPIRY (R571): A loop-back ends itself at the end of its DURATION. -/
  | loopbackExpiry (iface inst : Nat)
  /-- LOOPBACK_TEST_UNIT (R561): Every 10 µs a looped port sends and checks one test frame or burst. -/
  | loopbackTestUnit (iface inst : Nat) (back : Option Interval) (good : Bool)
  /-- BYPASS (R566): JTAG instruction selecting the bypass register. -/
  | bypass
  /-- IDCODE (R566): JTAG instruction selecting the identification code. -/
  | idcode
  /-- SAMPLE_PRELOAD (R566): JTAG instruction sampling or preloading the boundary register. -/
  | samplePreload (pins : List Byte) (preload : List Byte)
  /-- EXTEST (R567): JTAG instruction driving pins from the boundary register. -/
  | extest
  /-- CLAMP (R567): JTAG instruction clamping pins from the boundary register. -/
  | clamp
  /-- HIGHZ (R567): JTAG instruction placing outputs in high impedance. -/
  | highz
  /-- EXTEST_PULSE (R566): IEEE 1149.6 pulse test of AC-coupled pairs. -/
  | extestPulse
  /-- EXTEST_TRAIN (R566): IEEE 1149.6 train test of AC-coupled pairs. -/
  | extestTrain
  /-- LNAV_SUBFRAME (R92): A decoded LNAV subframe, such as subframe 4 page 18, supplies the UTC offset, leap
  announcement, health or almanac. -/
  | lnavSubframe (prn : Nat) (sub : LnavWords)
  /-- BIT_SYNCHRONISATION (R87): A tracking channel gains its footing in the signal and moves on through PULL_IN,
  TRACK, BIT_SYNC and NAV. -/
  | bitSynchronisation (chan : Nat)
  /-- INPUT_RELEASED (R201): A debounced release of SEAL_N or VERIFY_N ends its STUCK condition and lets later
  presses count. -/
  | inputReleased (verify : Bool)
  /-- SMB_ALERT_ACKNOWLEDGE (R202): The management controller acknowledges SMB_ALERT_N under SMBus, releasing the
  alert raised by a VERIFY_N press. -/
  | smbAlertAcknowledge
  /-- PCIE_LINK_LOOPBACK (R559): The host's port directs the PCIe endpoint into link loopback as follower, and the
  module complies. -/
  | pcieLinkLoopback
  /-- TEMP_CRIT_CLEAR (R535): TEMP_CRIT clears once every die sensor reads below 100 °C. -/
  | tempCritClear (temps : List Int)
  /-- TAP_RESET (R566): TRST_N asserted, or the TAP otherwise reset, returns the JTAG TAP to reset and the pins to
  their functional values. -/
  | tapReset
  /-- COMPLETION_LIMIT_EXPIRY (R491): A command whose reply has not come within its completion limit, from a silent
  outside party or a starved requester, is answered with TIMEOUT. -/
  | completionLimitExpiry (id : Nat)
  /-- WRAPPED_STORE_WRITTEN (R347): The flash write of the new wrapped image completes, the OTP bit burns to
  advance WRAP_GEN, the old area is erased and KEY_INVALIDATE replies. -/
  | wrappedStoreWritten
  /-- RESTART_COMPLETE (R317): The restart of the engines after ENG_DEADLOCK completes and admission resumes. -/
  | restartComplete
  /-- WAKE_COMPLETE (R325): A waking cluster finishes powering up within 20 µs, restores its retained interrupt
  state and begins admitting tasks. -/
  | wakeComplete (cluster : Nat)
  /-- ANNOUNCE_TIMEOUT (R296): A candidate master's Announce stops being current three announce intervals after its
  last one, and the chosen master is chosen again. -/
  | announceTimeout (up cand : Nat)
  /-- UPSTREAM_GRANT (R296): A GRANT signalling message from a candidate master is received on an upstream domain,
  granting or denying the requested service. -/
  | upstreamGrant (thread : Nat)
  /-- PAUSE_EXPIRY (R392): The quanta of a received PAUSE or PFC frame run out and the paused queue resumes. -/
  | pauseExpiry (port queue : Nat)
  /-- ACTIVATION_RESTART (R556): 10 ms after the reply to IMAGE_ACTIVATE action 1 or 2, the S tile or the whole
  module restarts. -/
  | activationRestart
  deriving DecidableEq, Repr

end Sys2Proof
end

