-- ==== Sys2Proof/Decode.lean ====
section
/-! DEFINITION. The table of operations and events gives no row an encoding: no word spells a command. -/

namespace Sys2Proof

/-- The command a word of the table's bits spells: none, for the table gives bits to no row (log entry 2). -/
def decodeTableWord (_nbits _w : Nat) : Option Instr := none

end Sys2Proof
end

