-- ==== Sys2Proof/Machine/Bytes.lean ====
section
/-! DEFINITION. Bytes of payloads and frames: little-endian and network-order fields, CRCs, bit sets, roundings. -/

namespace Sys2Proof.Machine
open Sys2Proof

/-- The `n` low bytes of a number, little-endian. -/
def le : Nat → Nat → List Byte
  | 0, _ => []
  | n + 1, v => BitVec.ofNat 8 v :: le n (v / 256)

/-- The `n` low bytes of an integer in two's complement, little-endian. -/
def leI (n : Nat) (v : Int) : List Byte := le n (v % (256 ^ n : Int)).toNat

/-- The `n` low bytes of a number, most significant first. -/
def be (n v : Nat) : List Byte := (le n v).reverse

/-- The `n` low bytes of an integer, most significant first. -/
def beI (n : Nat) (v : Int) : List Byte := (leI n v).reverse

/-- The number that bytes spell, least significant first. -/
def leVal : List Byte → Nat
  | [] => 0
  | b :: t => b.toNat + 256 * leVal t

/-- `n` bytes at an offset, little-endian. -/
def rd (p : List Byte) (off n : Nat) : Nat := leVal ((p.drop off).take n)

/-- A two's complement number of `n` bytes. -/
def signed (n v : Nat) : Int := if v < 256 ^ n / 2 then v else (v : Int) - 256 ^ n

/-- `n` bytes at an offset, little-endian and signed. -/
def rdI (p : List Byte) (off n : Nat) : Int := signed n (rd p off n)

/-- `n` bytes at an offset, most significant first. -/
def rdBe (p : List Byte) (off n : Nat) : Nat := leVal ((p.drop off).take n).reverse

/-- `n` bytes at an offset, most significant first and signed. -/
def rdBeI (p : List Byte) (off n : Nat) : Int := signed n (rdBe p off n)

/-- `n` zero bytes. -/
def zeros (n : Nat) : List Byte := List.replicate n 0

/-- Exactly `n` bytes: cut, or padded with zeros. -/
def fit (n : Nat) (l : List Byte) : List Byte := (l ++ zeros n).take n

/-- ASCII text padded with zeros to `n` bytes. -/
def ascii (n : Nat) (t : String) : List Byte := fit n (t.toList.map (fun c => BitVec.ofNat 8 c.toNat))

/-- Bit `i` of a bit set. -/
def bit (m i : Nat) : Bool := m.testBit i

/-- The bit set with bit `i` set. -/
def setBit (m i : Nat) : Nat := if m.testBit i then m else m + 2 ^ i

/-- The bit set with bit `i` clear. -/
def clrBit (m i : Nat) : Nat := if m.testBit i then m - 2 ^ i else m

/-- Word `w` of a bit set. -/
def wordOf (m w : Nat) : Nat := m / 2 ^ (32 * w) % 2 ^ 32

/-- One bit of a flag byte. -/
def flag (i : Nat) (b : Bool) : Nat := if b then 2 ^ i else 0

/-- Bits of a number from `lo`, `n` of them. -/
def bitsAt (m lo n : Nat) : Nat := m / 2 ^ lo % 2 ^ n

/-- Saturating increment at `max`. -/
def satInc (max v : Nat) : Nat := if v < max then v + 1 else max

/-- The largest 16-bit count. -/
def sat16 : Nat := 0xFFFF
/-- The largest 32-bit count. -/
def sat32 : Nat := 0xFFFFFFFF

/-- Division rounded up. -/
def divUp (a b : Nat) : Nat := (a + b - 1) / b

/-- Division rounded to nearest, a half up. -/
def divNear (a b : Nat) : Nat := (2 * a + b) / (2 * b)

/-- Integer division rounded to nearest, a half away from zero (R32: fields rounded to their LSB). -/
def divNearI (a : Int) (b : Nat) : Int :=
  if 0 ≤ a then ((divNear a.toNat b : Nat) : Int) else -((divNear (-a).toNat b : Nat) : Int)

/-- Integer division truncated toward zero (R34). -/
def divTrunc (a : Int) (b : Nat) : Int := Int.tdiv a b

/-- A natural's square root from below, bit by bit. -/
def isqrtGo : Nat → Nat → Nat → Nat
  | 0, _, r => r
  | k + 1, n, r => if (r + 2 ^ k) * (r + 2 ^ k) ≤ n then isqrtGo k n (r + 2 ^ k) else isqrtGo k n r

/-- The integer square root. -/
def isqrt (n : Nat) : Nat := isqrtGo (n.log2 / 2 + 1) n 0

/-- The least number whose square is at least `n`. -/
def isqrtUp (n : Nat) : Nat := if isqrt n * isqrt n = n then isqrt n else isqrt n + 1

/-- One bit into a CRC register of `w` bits with polynomial `poly`, most significant bit first. -/
def crcBit (w poly c : Nat) (b : Bool) : Nat :=
  let top := c.testBit (w - 1) != b
  let c' := c * 2 % 2 ^ w
  if top then c' ^^^ poly else c'

/-- The bits of a byte, most significant first. -/
def bitsMsb (b : Byte) : List Bool := [7, 6, 5, 4, 3, 2, 1, 0].map (fun i => b.toNat.testBit i)

/-- The bits of a byte, least significant first. -/
def bitsLsb (b : Byte) : List Bool := [0, 1, 2, 3, 4, 5, 6, 7].map (fun i => b.toNat.testBit i)

/-- A CRC register over bits; the match has the kernel evaluate it bit by bit. -/
def crcFold (w poly : Nat) : Nat → List Bool → Nat
  | c, [] => c
  | c, b :: t =>
    match crcBit w poly c b with
    | 0 => crcFold w poly 0 t
    | n + 1 => crcFold w poly (n + 1) t

/-- CRC-16, polynomial 0x1021, initial value 0xFFFF (R11, R423). -/
def crc16 (l : List Byte) : Nat := crcFold 16 0x1021 0xFFFF (l.flatMap bitsMsb)

/-- A 32-bit number bit-reversed. -/
def reverse32 (v : Nat) : Nat := (List.range 32).foldl (fun a i => a + flag (31 - i) (v.testBit i)) 0

/-- CRC-32 of IEEE 802.3: polynomial 0x04C11DB7, reflected, initial value and final exclusive-or all ones. -/
def crc32 (l : List Byte) : Nat :=
  reverse32 (crcFold 32 0x04C11DB7 0xFFFFFFFF (l.flatMap bitsLsb)) ^^^ 0xFFFFFFFF

/-- Exclusive-or of two byte strings. -/
def xorBytes (a b : List Byte) : List Byte := List.zipWith (fun x y => x ^^^ y) a b

end Sys2Proof.Machine
end

