-- ==== Sys2Proof/Machine/StateGnss.lean ====
section
/-! DEFINITION. State of the GNSS baseband (spec/04_gnss_baseband.md). -/

namespace Sys2Proof.Machine
open Sys2Proof

/-- The GNSS_CONFIG record (R100). -/
structure GnssCfg where
  sampleRate : Nat := 16368000    -- [R100] 32-bit SAMPLE_RATE, Hz
  ifFreq : Int := 4092000         -- [R100] signed 32-bit IF_FREQ, Hz
  format : Nat := 0               -- [R100] 8-bit FORMAT
  elSpacing : Nat := 8            -- [R100] 8-bit EL_SPACING
  mpMode : Nat := 1               -- [R100] 8-bit MP_MODE
  minSv : Nat := 4                -- [R100] 8-bit MIN_SV
  elevMask : Nat := 10            -- [R100] 8-bit ELEV_MASK
  acqDwell : Nat := 8             -- [R100] 8-bit ACQ_DWELL
  cn0Mask : Nat := 300            -- [R100] 16-bit CN0_MASK
  pllBw : Nat := 10               -- [R100] 8-bit PLL_BW
  dllBw : Nat := 10               -- [R100] 16-bit DLL_BW
  thrFloor : Nat := 220           -- [R100] 16-bit THR_FLOOR
  thrCeil : Nat := 350            -- [R100] 16-bit THR_CEIL
  residLimit : Nat := 50000       -- [R100] 32-bit RESID_LIMIT, ps
  wnBase : Nat := 0               -- [R100] 16-bit WN_BASE, sealed !D set at manufacture
  autoSurvey : Nat := 1           -- [R100] 8-bit AUTO_SURVEY
  antDelay : Interval := 0        -- [R100] 64-bit ANT_DELAY, sealed
  antDelayUnc : Bound := 0x40     -- [R100] 32-bit ANT_DELAY_UNC, sealed
  ionoTerm : Bound := 0x500       -- [R100] 32-bit IONO_TERM, sealed
  tropoTerm : Bound := 0x80       -- [R100] 32-bit TROPO_TERM, sealed
  sisTerm : Bound := 0x280        -- [R100] 32-bit SIS_TERM, sealed
  surveyPosTerm : Bound := 0x1900 -- [R100] 32-bit SURVEY_POS_TERM, sealed
  deriving DecidableEq, Repr

/-- A held antenna position (R94, R103), sealed. -/
structure Position where
  x : Int := 0                    -- [R103] 64-bit ECEF X, mm
  y : Int := 0                    -- [R103] 64-bit ECEF Y, mm
  z : Int := 0                    -- [R103] 64-bit ECEF Z, mm
  unc : Nat := 0                  -- [R103] 32-bit uncertainty, mm
  deriving DecidableEq, Repr

/-- GNSS timing mode (R89). -/
inductive GnssMode where
  | noPosition | survey | hold
  deriving DecidableEq, Repr

/-- A tracking-channel state (R102). -/
inductive ChanState where
  | idle | verify | pullIn | track | bitSync | nav
  deriving DecidableEq, Repr

/-- One of the 32 tracking channels (R86, R87, R102). -/
structure GnssChan where
  prn : Nat := 0                  -- [R102] 8-bit PRN, 0 when IDLE
  state : ChanState := .idle      -- [R102] 8-bit STATE
  cn0 : Nat := 0                  -- [R102] 16-bit CN0, 0.1 dB-Hz
  elev : Nat := 0xFF              -- [R102] 8-bit ELEVATION
  healthy : Bool := false         -- [R102] FLAGS bit 0
  used : Bool := false            -- [R102] FLAGS bit 1
  excluded : Bool := false        -- [R102] FLAGS bit 2
  mpActive : Bool := false        -- [R102] FLAGS bit 3
  azim : Nat := 0xFFFF            -- [R102] 16-bit AZIMUTH
  doppler : Int := 0              -- [R102] signed 32-bit DOPPLER, mHz
  carrier : Int := 0              -- [R85, R87] the carrier NCO's frequency, mHz
  carrierPhase : Nat := 0         -- [R87] the carrier NCO's phase, 2^-32 turn
  codePhase : Nat := 0            -- [R85, R87] the code NCO's phase, 2^-20 chip
  codeError : Int := 0            -- [R88] the discriminator's output that the DLL steers to zero
  coherent : Nat := 1             -- [R87] coherent correlation, ms: 20 after bit synchronisation
  residual : Int := 0             -- [R102] signed 32-bit RESIDUAL, ps
  mpDelay : Nat := 0              -- [R102] 16-bit MP_DELAY
  mpAmpl : Nat := 0               -- [R102] 16-bit MP_AMPL
  mpFitFail : Nat := 0            -- [R102] 16-bit MP_FIT_FAIL, saturating
  lockedAt : Nat := 0             -- [R102] ns of `now` at TRACK (LOCK_TIME)
  deriving DecidableEq, Repr

/-- What the baseband has decoded from one satellite's LNAV message (R81, R82). A subframe's words are its words 3 to 10, 24
data bits each; a word that failed parity is none. -/
structure SvNav where
  health : Nat := 0               -- [R81] subframe 1 health
  sub1 : List (Option Nat) := []  -- [R81] the last subframe 1
  sub2 : List (Option Nat) := []  -- [R81] the last subframe 2
  sub3 : List (Option Nat) := []  -- [R81] the last subframe 3
  adopted : Option (List Nat) := none -- [R82] the ephemeris in force: words 3 to 10 of subframes 1, 2 and 3
  almanac : Option (List Nat) := none -- [R81] its almanac page's words 3 to 10
  deriving DecidableEq, Repr

/-- Subframe 4 page 18's ionospheric and UTC parameters (R81, R91, R92). -/
structure Page18 where
  alpha : List Int := []          -- [R81] α0 to α3
  beta : List Int := []           -- [R81] β0 to β3
  a0 : Int := 0                   -- [R91] A0, 2^-30 s
  a1 : Int := 0                   -- [R91] A1, 2^-50 s/s
  tot : Nat := 0                  -- [R91] t_ot, 2^12 s
  wnT : Nat := 0                  -- [R91] WN_t, 8 bits
  dtLs : Int := 0                 -- [R92] DeltatLS, s
  dtLsf : Int := 0                -- [R92] DeltatLSF, s
  wnLsf : Nat := 0                -- [R92] WN_LSF resolved to the full week
  dn : Nat := 1                   -- [R92] DN, 1 to 7
  deriving DecidableEq, Repr

/-- A self-survey (R93, R104). -/
structure Survey where
  start : Nat := 0                -- [R93] ns of `now` at the start
  time : Nat := 86400             -- [R93] SURVEY_TIME, s
  sigma : Nat := 1000             -- [R93] SURVEY_SIGMA, mm
  n : Nat := 0                    -- [R93] fixes averaged
  sx : Int := 0                   -- [R93] sum of X, mm
  sy : Int := 0                   -- [R93] sum of Y, mm
  sz : Int := 0                   -- [R93] sum of Z, mm
  sq : Nat := 0                   -- [R93] sum of squared coordinates, mm^2
  deriving DecidableEq, Repr

/-- One quantisation message (R97). -/
structure QuantMsg where
  second : Nat := 0               -- [R97] 64-bit SECOND
  q : Int := 0                    -- [R97] signed 32-bit Q, ps
  period : Nat := 0               -- [R97] 32-bit SAMPLE_PERIOD, ps
  valid : Bool := false           -- [R97] FLAGS bit 0
  hold : Bool := false            -- [R97] FLAGS bit 1
  survey : Bool := false          -- [R97] FLAGS bit 2
  excluded : Bool := false        -- [R97] FLAGS bit 3
  prov : Bool := false            -- [R97] FLAGS bit 4
  mp : Bool := false              -- [R97] FLAGS bit 5
  applied : Bool := false         -- [R97] FLAGS bit 6
  svUsed : Nat := 0               -- [R97] 8-bit SV_USED
  svExcluded : Nat := 0           -- [R97] 8-bit SV_EXCLUDED
  residRms : Nat := 0             -- [R97] 32-bit RESID_RMS, ps
  offset : Option Interval := none -- [R97] 64-bit OFFSET
  deriving DecidableEq, Repr

/-- The GNSS baseband. -/
structure Gnss where
  cfg : GnssCfg := {}             -- [R100]
  terms : GnssCfg := {}           -- [R199] the record whose sealed fields are in force: that of the last computation
  position : Option Position := none -- [R89] sealed held position
  surveyDone : Bool := false      -- [R93] a completed survey is adopted at the next second boundary
  mode : GnssMode := .noPosition  -- [R89]
  survey : Survey := {}           -- [R93]
  clkFault : Bool := false        -- [R84] sample-clock fault in force
  faultAt : Nat := 0              -- [R84] ns of `now` at the last sign of a fault of the sample clock
  clock : Option Nat := none      -- [R84] last measured sample-clock frequency, mHz
  acqThr : Nat := 320             -- [R101] 16-bit ACQ_THR !D the spec gives no starting threshold; 32.0 dB-Hz is its typical sensitivity (R106)
  lossThr : Nat := 220            -- [R101] 16-bit LOSS_THR !D starts at THR_FLOOR
  targetUnmet : Bool := false     -- [R85] target-unmet status
  unmetMs : Nat := 0              -- [R26] ms in which the target stayed unmet
  chans : Tbl GnssChan := []      -- [R102] 32 channels
  navs : Tbl SvNav := []          -- [R82] per PRN 1 to 32
  page18 : Option Page18 := none  -- [R92] received since reset
  ionoValid : Bool := false       -- [R101] IONO_VALID
  gpsAt : Option (Nat × Nat) := none -- [R91] GPS second, 604,800 W + s, and the ns of `now` at which it stood
  ifOffset : Int := 0             -- [R85] front-end frequency offset last estimated, Hz
  searched : List Nat := []       -- [R85] PRNs searched in the present pass
  svUsed : Nat := 0               -- [R101] 8-bit SV_USED of the last solution
  history : List QuantMsg := []   -- [R105] the last 16 messages, newest first
  lastSecond : Nat := 0           -- [R101] 64-bit LAST_SECOND
  unpaired : Nat := 0             -- [R101] 16-bit UNPAIRED, saturating
  ppsAt : Option Nat := none      -- [R96] ns of `now` at which GNSS_PPS last rose
  deriving DecidableEq, Repr

end Sys2Proof.Machine
end

