-- ==== Sys2Proof/Machine/Time.lean ====
section
/-! DEFINITION. Arithmetic on field times, intervals and bounds (R2 to R5, R29 to R35). -/

namespace Sys2Proof.Machine
open Sys2Proof

/-- One nanosecond of field time. -/
def ns1 : Nat := 2 ^ 32
/-- One microsecond of field time. -/
def us1 : Nat := 1000 * 2 ^ 32
/-- One millisecond of field time. -/
def ms1 : Nat := 1000000 * 2 ^ 32
/-- One second of field time. -/
def s1 : Nat := 1000000000 * 2 ^ 32

/-- A field time from seconds and nanoseconds. -/
def ft (sec ns : Nat) : FieldTime := sec * s1 + ns * ns1
/-- Seconds of a field time. -/
def ftSec (t : FieldTime) : Nat := t / s1
/-- Nanoseconds within the second. -/
def ftNs (t : FieldTime) : Nat := t % s1 / ns1
/-- Fraction of the nanosecond, 2^-32. -/
def ftFrac (t : FieldTime) : Nat := t % ns1
/-- Whole microseconds of a field time. -/
def ftUs (t : FieldTime) : Nat := t / us1

/-- A field time in a KCP payload (R29): FRAC, NS, seconds, little-endian. -/
def leTime (t : FieldTime) : List Byte := le 4 (ftFrac t) ++ le 4 (ftNs t) ++ le 8 (ftSec t)
/-- A field time in network order (R29). -/
def beTime (t : FieldTime) : List Byte := be 8 (ftSec t) ++ be 4 (ftNs t) ++ be 4 (ftFrac t)
/-- Read a field time in network order. -/
def rdBeTime (p : List Byte) (off : Nat) : FieldTime :=
  rdBe p off 8 * s1 + rdBe p (off + 8) 4 * ns1 + rdBe p (off + 12) 4
/-- Read a field time of a KCP payload. -/
def rdTime (p : List Byte) (off : Nat) : FieldTime := rd p (off + 8) 8 * s1 + rd p (off + 4) 4 * ns1 + rd p off 4

/-- No value, as an interval word (R30). -/
def noInterval : Nat := 0x8000000000000000

/-- Saturation to the interval range (R30). -/
def satI (v : Int) : Interval :=
  if v > 0x7FFFFFFFFFFFFFFF then 0x7FFFFFFFFFFFFFFF else if v < -0x7FFFFFFFFFFFFFFF then -0x7FFFFFFFFFFFFFFF else v

/-- An interval in a payload. -/
def leIv (v : Interval) : List Byte := leI 8 (satI v)
/-- An interval or no value in a payload. -/
def leOptIv (v : Option Interval) : List Byte := match v with | some x => leIv x | none => le 8 noInterval
/-- An interval in network order. -/
def beOptIv (v : Option Interval) : List Byte := (leOptIv v).reverse
/-- Read an interval; the word of no value gives none. -/
def rdOptIv (p : List Byte) (off : Nat) : Option Interval :=
  if rd p off 8 = noInterval then none else some (rdI p off 8)

/-- A fractional frequency in a payload. -/
def leF (v : Freq) : List Byte := leI 8 v

/-- A fractional frequency of which a field carries the low 32 bits (R32): held to its range. -/
def frameRate (r : Freq) : Freq := max (-(2 ^ 31)) (min (2 ^ 31 - 1) r)

/-- Field time plus an interval (R33): an integer, negative when out of range. -/
def ftAdd (t : FieldTime) (v : Interval) : Int := (t : Int) + v * 2 ^ 16

/-- A sum is inside the field-time range (R33). -/
def ftOk (t : Int) : Bool := decide (0 ≤ t) && decide (t < (2 ^ 64 * s1 : Nat))

/-- Field time difference a − b as an interval, truncated toward zero and saturated (R34). -/
def ftDiff (a b : FieldTime) : Interval := satI (divTrunc ((a : Int) - b) (2 ^ 16))

/-- Unbounded (R4). -/
def unbounded : Bound := 0xFFFFFFFF

/-- Saturating bound addition (R35). -/
def addB (a b : Bound) : Bound :=
  if a = unbounded ∨ b = unbounded ∨ a + b > 0xFFFFFFFE then unbounded else a + b

/-- An interval term rounded up to a bound word (R4): 1/64 ns is 1,024 interval LSBs. -/
def ivToBound (v : Nat) : Bound := if divUp v 1024 > 0xFFFFFFFE then unbounded else divUp v 1024

/-- A bound word as interval LSBs; none when unbounded. -/
def boundIv (b : Bound) : Option Nat := if b = unbounded then none else some (b * 1024)

/-- The larger of two bounds, unbounded largest. -/
def maxB (a b : Bound) : Bound := if a < b then b else a

/-- Civil date (year, month, day) of a day counted from 1970-01-01 (proleptic Gregorian). -/
def civil (days : Nat) : Nat × Nat × Nat :=
  let z := days + 719468
  let era := z / 146097
  let doe := z % 146097
  let yoe := (doe - doe / 1460 + doe / 36524 - doe / 146096) / 365
  let doy := doe - (365 * yoe + yoe / 4 - yoe / 100)
  let mp := (5 * doy + 2) / 153
  let d := doy - (153 * mp + 2) / 5 + 1
  let m := if mp < 10 then mp + 3 else mp - 9
  (yoe + era * 400 + (if m ≤ 2 then 1 else 0), m, d)

/-- The day counted from 1970-01-01 of a civil date from 1970 on. -/
def daysOf (y m d : Nat) : Nat :=
  let y' := if m ≤ 2 then y - 1 else y
  let era := y' / 400
  let yoe := y' % 400
  let doy := (153 * (if m > 2 then m - 3 else m + 9) + 2) / 5 + d - 1
  era * 146097 + (yoe * 365 + yoe / 4 - yoe / 100 + doy) - 719468

end Sys2Proof.Machine
end

