-- ==== Sys2Proof/Machine/Trig.lean ====
section
/-! DEFINITION. Angles in fixed point: sine and cosine of a phase in turns, and the phase of a vector. The spec states no
precision for them; 64 bits stand for the exact values (DESIGN CHOICE, log entry 20). -/

namespace Sys2Proof.Machine
open Sys2Proof

/-- 2π × 10^24. -/
def twoPi : Nat := 6283185307179586476925287

/-- One turn, and the value 1, in 2^-64. -/
def one64 : Nat := 2 ^ 64

/-- The power series of sine or cosine from its present term: z² in 2^-64, the term, its order. -/
def trigSeries : Nat → Nat → Int → Nat → Int
  | 0, _, _, _ => 0
  | n + 1, z2, term, k => term + trigSeries n z2 (-(term * z2) / ((k + 1) * (k + 2) * one64 : Nat)) (k + 2)

/-- A phase of 2^-64 turn, at most an eighth of a turn, in radians of 2^-64. -/
def radians (x : Nat) : Nat := x * twoPi / 10 ^ 24

/-- Sine and cosine, 2^-64, of a phase from 0 to an eighth of a turn. -/
def octant (x : Nat) : Int × Int :=
  let z := radians x
  let z2 := z * z / one64
  (trigSeries 14 z2 z 1, trigSeries 14 z2 one64 0)

/-- Sine and cosine, 2^-64, of a phase from 0 to a quarter of a turn. -/
def quadrant (x : Nat) : Int × Int :=
  if x ≤ 2 ^ 61 then octant x
  else
    let v := octant (2 ^ 62 - x)
    (v.2, v.1)

/-- Sine and cosine, 2^-64, of a phase in 2^-64 turn. -/
def sinCos (phase : Int) : Int × Int :=
  let p := (phase % (one64 : Int)).toNat
  let v := quadrant (p % 2 ^ 62)
  match p / 2 ^ 62 with
  | 0 => v
  | 1 => (v.2, -v.1)
  | 2 => (-v.1, -v.2)
  | _ => (-v.2, v.1)

/-- Sine of a phase in 2^-64 turn. -/
def sin64 (phase : Int) : Int := (sinCos phase).1
/-- Cosine of a phase in 2^-64 turn. -/
def cos64 (phase : Int) : Int := (sinCos phase).2

/-- Halving of the range in which a vector's phase lies: `lo` is at or below it by less than `2 * step`. -/
def phaseSearch (x y : Int) : Nat → Nat → Nat → Nat
  | 0, _, lo => lo
  | n + 1, step, lo =>
    let v := sinCos (lo + step : Nat)
    phaseSearch x y n (step / 2) (if y * v.2 - x * v.1 ≥ 0 then lo + step else lo)

/-- The phase of a vector, in 2^-64 turn from the x axis, rounded down to 2^-48 turn. -/
def phaseOf (x y : Int) : Nat :=
  let quarter := fun (a b : Int) => phaseSearch a b 46 (2 ^ 61) 0
  if 0 < x ∧ 0 ≤ y then quarter x y
  else if x ≤ 0 ∧ 0 < y then 2 ^ 62 + quarter y (-x)
  else if x < 0 ∧ y ≤ 0 then 2 ^ 63 + quarter (-x) (-y)
  else if 0 ≤ x ∧ y < 0 then 3 * 2 ^ 62 + quarter (-y) x
  else 0

end Sys2Proof.Machine
end

