-- ==== Sys2Proof/Machine/Code.lean ====
section
/-! DEFINITION. The baseband's signal processing (R81, R83, R85 to R88): the C/A code, the samples, the cells of an acquisition
dwell, the correlators of a tracking channel and the fit of a direct path and one reflection. The code generator is that of
IS-GPS-200 (PRESUMED, log entry 20); how the numeric oscillators round is DESIGN CHOICE (log entry 20). -/

namespace Sys2Proof.Machine
open Sys2Proof

/-- The two stages of the G2 register that a PRN's code adds (IS-GPS-200), PRN 1 first. -/
def caTaps : List (Nat × Nat) :=
  [(2, 6), (3, 7), (4, 8), (5, 9), (1, 9), (2, 10), (1, 8), (2, 9), (3, 10), (2, 3), (3, 4), (5, 6), (6, 7), (7, 8), (8, 9),
   (9, 10), (1, 4), (2, 5), (3, 6), (4, 7), (5, 8), (6, 9), (1, 3), (4, 6), (5, 7), (6, 8), (7, 9), (8, 10), (1, 6), (2, 7),
   (3, 8), (4, 9)]

/-- Stage `k` (1 to 10) of a code register, stage 1 the least significant bit. -/
def stage (g k : Nat) : Bool := g.testBit (k - 1)

/-- A code register after one chip: the sum of its feedback stages enters stage 1. -/
def shiftCode (taps : List Nat) (g : Nat) : Nat := (g * 2 + (if taps.foldl (fun a k => a != stage g k) false then 1 else 0)) % 1024

/-- The chips from two states of the registers G1 and G2 on. -/
def caFrom (tap : Nat × Nat) : Nat → Nat → Nat → List Bool
  | 0, _, _ => []
  | n + 1, a, b =>
    (stage a 10 != (stage b tap.1 != stage b tap.2)) :: caFrom tap n (shiftCode [3, 10] a) (shiftCode [2, 3, 6, 8, 9, 10] b)

/-- The C/A code of a PRN (R81): its 1,023 chips. -/
def caCode (prn : Nat) : List Bool := caFrom (caTaps.getD (prn - 1) (2, 6)) 1023 1023 1023

/-- The value of a sample's code on one of the two axes (R83): sign-magnitude 2-bit or two's complement 4-bit, 2v + 1. -/
def sampleValue (wide : Bool) (code : Nat) : Int :=
  if wide then 2 * (if bit code 3 then (code % 16 : Int) - 16 else code % 16) + 1
  else (if bit code 1 then -1 else 1) * (if bit code 0 then 3 else 1)

/-- The sample that a clock cycle gives (R83): captured on the edge that FORMAT bit 2 selects; real mode ignores Q. -/
def captureSample (format : Nat) (rise fall : IqLevels) : Int × Int :=
  let l := if bit format 2 then fall else rise
  (sampleValue (bit format 1) l.i, if bit format 0 then sampleValue (bit format 1) l.q else 0)

/-- The samples of a span of GNSS_IF_CLK (R83): one per cycle, in order. -/
def captureSpan (format : Nat) (rise fall : List IqLevels) : List (Int × Int) := List.zipWith (captureSample format) rise fall

/-- A sample brought down by a local carrier at a phase of 2^-64 turn; the carrier in 2^-16. -/
def mixDown (x : Int × Int) (phase : Int) : Int × Int :=
  let v := sinCos phase
  let s := v.1 / 2 ^ 48
  let c := v.2 / 2 ^ 48
  (x.1 * c + x.2 * s, x.2 * c - x.1 * s)

/-- Phase of a local oscillator of `f` mHz at sample `n`, 2^-64 turn. -/
def carrierPhaseAt (rate : Nat) (f : Int) (n : Nat) : Int := f * n * (one64 : Int) / (1000 * rate : Nat)

/-- Correlation of samples, each with its number, against a code and a local carrier: chip and phase of a sample's number. -/
def correlate (code : Array Bool) (chip : Nat → Nat) (phase : Nat → Int) (l : List (Nat × (Int × Int))) : Int × Int :=
  l.foldl (fun a x =>
    let m := mixDown x.2 (phase x.1)
    if code.getD (chip x.1 % 1023) false then (a.1 - m.1, a.2 - m.2) else (a.1 + m.1, a.2 + m.2)) (0, 0)

/-- The samples of millisecond `m` of a span, with their numbers. -/
def msOf (rate m : Nat) (l : List (Int × Int)) : List (Nat × (Int × Int)) :=
  let a := m * rate / 1000
  let b := (m + 1) * rate / 1000
  ((List.range l.length).zip l).drop a |>.take (b - a)

/-- The power of a cell (R85): coherent over each 1 ms, summed over the dwell of `ms`. The cell's code phase, in half chips, is that
of the first sample. -/
def cellPower (g : GnssCfg) (ifOffset : Int) (prn ms : Nat) (l : List (Int × Int)) (code : Nat) (bin : Int) : Nat :=
  let c := (caCode prn).toArray
  let f := 1000 * (g.ifFreq + ifOffset + 500 * bin)
  (List.range ms).foldl (fun a m =>
    let v := correlate c (fun n => (code * g.sampleRate + 2 * n * 1023000) / (2 * g.sampleRate)) (carrierPhaseAt g.sampleRate f)
      (msOf g.sampleRate m l)
    a + (v.1 ^ 2 + v.2 ^ 2).toNat) 0

/-- The Doppler bins (R85): 41, from −20 to 20 times 500 Hz. -/
def dopplerBins : List Int := (List.range 41).map (fun i => (i : Int) - 20)

/-- The cells of the grid (R85): 2,046 code phases by 41 bins. -/
def gridCells : List (Nat × Int) := (List.range 2046).flatMap (fun c => dopplerBins.map (fun b => (c, b)))

/-- A cell and its neighbours in the grid (R85). -/
def neighbours (c : Nat) (b : Int) : List (Nat × Int) :=
  ([0, 1, 2045].flatMap (fun d => [0, 1, -1].map (fun e => ((c + d) % 2046, b + e)))).filter (fun x => decide (x.2.natAbs ≤ 20))

/-- The strongest of some cells under a power, the first of equals. -/
def strongest (power : Nat → Int → Nat) (l : List (Nat × Int)) : AcqCell :=
  l.foldl (fun a x => if a.power < power x.1 x.2 then ⟨x.1, x.2, power x.1 x.2, a.mean⟩ else a) ⟨0, 0, 0, 0⟩

/-- The first dwell of a PRN (R85): the strongest cell of the grid, with the grid's mean power. -/
def dwellPeak (g : GnssCfg) (ifOffset : Int) (prn : Nat) (l : List (Int × Int)) : AcqCell :=
  let p := cellPower g ifOffset prn g.acqDwell l
  { strongest p gridCells with mean := gridCells.foldl (fun a x => a + p x.1 x.2) 0 / gridCells.length }

/-- The second dwell (R85): the strongest of a cell and its neighbours, against the mean of the first dwell's grid. -/
def dwellCheck (g : GnssCfg) (ifOffset : Int) (prn : Nat) (first : AcqCell) (l : List (Int × Int)) : AcqCell :=
  { strongest (cellPower g ifOffset prn g.acqDwell l) (neighbours first.code first.bin) with mean := first.mean }

/-- A cell's peak-to-mean ratio exceeds a threshold of 0.1 dB-Hz (R85): C/N0 is taken as 1,000 × (peak/mean − 1) Hz, the excess of
a 1 ms integration over the noise (DESIGN CHOICE, log entry 20: the rule gives the ratio no scale). -/
def overThreshold (thr : Nat) (c : AcqCell) : Bool :=
  decide (c.mean ≠ 0) && decide (c.mean < c.power) && decide (10 ^ thr * c.mean ^ 100 < (1000 * (c.power - c.mean)) ^ 100)

/-- The correlators' offsets from prompt in 1/128 chip (R86): early, prompt and late at ∓S/2 with S = k/32 chip, and N0 to N7
at (2i − 7)/128. -/
def correlatorOffsets (c : GnssCfg) : List Int × List Int :=
  ([-(2 * c.elSpacing), 0, 2 * c.elSpacing], (List.range 8).map (fun i => 2 * (i : Int) - 7))

/-- The rate of a channel's code NCO (R87), 2^-20 chip in a second: 1.023 MHz, aided by the carrier's Doppler in mHz over 1,540. -/
def codeRate (doppler : Int) : Nat := ((1023000 * 2 ^ 20 : Nat) + doppler * 2 ^ 20 / 1540000 : Int).toNat

/-- The chip of a correlator `o` (1/128 chip) from prompt, at sample `n`: negative is early, so ahead (R86). -/
def chipAt (g : GnssCfg) (x : GnssChan) (o : Int) (n : Nat) : Nat :=
  (((x.codePhase : Int) + (codeRate x.doppler * n / g.sampleRate : Nat) - o * 2 ^ 13) / 2 ^ 20 % 1023).toNat

/-- One coherent sum of a correlator. -/
def correlatorSum (g : GnssCfg) (x : GnssChan) (o : Int) (l : List (Nat × (Int × Int))) : Int × Int :=
  correlate (caCode x.prn).toArray (chipAt g x o) (fun n => x.carrierPhase * 2 ^ 32 + carrierPhaseAt g.sampleRate x.carrier n) l

/-- The coherent spans of 20 ms (R87): twenty of 1 ms, or one of 20 ms after bit synchronisation. -/
def coherentSpans (g : GnssCfg) (x : GnssChan) (l : List (Int × Int)) : List (List (Nat × (Int × Int))) :=
  (List.range (20 / max 1 x.coherent)).map (fun k =>
    (List.range x.coherent).flatMap (fun m => msOf g.sampleRate (k * x.coherent + m) l))

/-- A channel's correlator outputs over 20 ms (R86 to R88): of each coherent span the early, prompt, late and narrow sums; powers add,
and in-phase parts add with the sign of the prompt, so that data bits do not cancel. -/
def channelOutputs (g : GnssCfg) (x : GnssChan) (l : List (Int × Int)) : Correlation :=
  let o := correlatorOffsets g
  (coherentSpans g x l).foldl (fun a w =>
    let c := fun d => correlatorSum g x d w
    let e := c (o.1.getD 0 0)
    let p := c 0
    let t := c (o.1.getD 2 0)
    let sg : Int := if p.1 < 0 then -1 else 1
    { early := a.early + (e.1 ^ 2 + e.2 ^ 2).toNat, late := a.late + (t.1 ^ 2 + t.2 ^ 2).toNat
      prompt := a.prompt + sg * p.1, costas := a.costas + p.1 * p.2
      narrow := List.zipWith (fun y d => y + sg * (c d).1) a.narrow o.2 }) ⟨0, 0, 0, 0, [0, 0, 0, 0, 0, 0, 0, 0]⟩

/-- The correlation of a chip with itself `d` (1/1,024 chip) apart, in 1/1,024. -/
def chipCorrelation (d : Int) : Int := if d.natAbs < 1024 then 1024 - d.natAbs else 0

/-- A two-path fit (R88): direct-path delay and reflection delay in 1/1,024 chip, relative amplitude in 1/256; the squared residual
over the nine outputs as a fraction. -/
structure PathFit where
  direct : Int := 0
  delay : Nat := 16
  ampl : Nat := 0
  num : Nat := 0
  den : Nat := 1
  deriving DecidableEq, Repr

/-- The prompt and narrow outputs with their offsets in 1/1,024 chip. -/
def fitPoints (g : GnssCfg) (r : Correlation) : List (Int × Int) :=
  (0, r.prompt) :: List.zip ((correlatorOffsets g).2.map (· * 8)) r.narrow

/-- Sum over points of a product. -/
def sumOf (l : List (Int × Int)) (f : Int × Int → Int) : Int := l.foldl (fun a x => a + f x) 0

/-- The fit for a direct delay and a reflection's delay behind it: least squares for the two amplitudes, the relative one held to 0
to 0.9 (R88). -/
def fitAt (l : List (Int × Int)) (d : Int) (k : Nat) : PathFit :=
  let m1 := fun (x : Int × Int) => chipCorrelation (x.1 - d)
  let m2 := fun (x : Int × Int) => chipCorrelation (x.1 - d - k)
  let s11 := sumOf l (fun x => m1 x * m1 x)
  let s12 := sumOf l (fun x => m1 x * m2 x)
  let s22 := sumOf l (fun x => m2 x * m2 x)
  let y1 := sumOf l (fun x => x.2 * m1 x)
  let y2 := sumOf l (fun x => x.2 * m2 x)
  let a := y1 * s22 - y2 * s12
  let b := y2 * s11 - y1 * s12
  let ampl : Nat := if a ≤ 0 ∨ b ≤ 0 then 0 else min 230 (b * 256 / a).toNat
  let m := fun x => 256 * m1 x + ampl * m2 x
  let mm := sumOf l (fun x => m x * m x)
  let ym := sumOf l (fun x => x.2 * m x)
  let yy := sumOf l (fun x => x.2 * x.2)
  ⟨d, k, ampl, if 0 < ym then (yy * mm - ym * ym).toNat else (yy * mm).toNat, mm.toNat⟩

/-- The better of two fits: the smaller residual. -/
def betterFit (a b : PathFit) : PathFit := if b.num * a.den < a.num * b.den then b else a

/-- The delays that the fit tries: the direct path within the narrow correlators' span, the reflection 1/64 to 1.5 chips behind it
(R88). -/
def fitDelays : List (Int × Nat) :=
  (List.range 113).flatMap (fun i => (List.range 1521).map (fun k => ((i : Int) - 56, k + 16)))

/-- The fit of a direct path and one reflection to the prompt and narrow outputs (R88): least squares over the delays. -/
def pathFit (g : GnssCfg) (r : Correlation) : PathFit :=
  let l := fitPoints g r
  fitDelays.foldl (fun a x => betterFit a (fitAt l x.1 x.2)) (fitAt l 0 16)

/-- The fit's residual is within 10 % of the prompt amplitude (R88): its rms over the nine outputs. -/
def fitOk (r : Correlation) (f : PathFit) : Bool := decide (100 * f.num ≤ 9 * (r.prompt ^ 2).toNat * f.den)

end Sys2Proof.Machine
end

