-- ==== Sys2Proof/Config.lean ====
section
/-! DEFINITION. What one module fixes (its identity) and what the spec leaves free (signatures, random draws, values no rule states). None of these has a body: nothing can be proved of their values. -/

namespace Sys2Proof.Config
open Sys2Proof

/-- The n-th free value a run draws: a result that no rule states (log entry 3). -/
opaque freeValue : Nat → Nat

/-- Module serial number (R493), 64 bits. -/
opaque serial : Nat
/-- The EUI-64 clock identity (R278, R493), 8 bytes in wire order. -/
opaque clockIdentity : List Byte
/-- The organisation identifier of R286, 3 bytes in wire order. -/
opaque orgId : List Byte
/-- Silicon stepping (R493). -/
opaque stepping : Nat
/-- IANA enterprise number (R478). -/
opaque enterprise : Nat

/-- The Ed25519 public key of a 32-byte seed (R337), 32 bytes. -/
opaque ed25519Public : List Byte → List Byte
/-- The Ed25519 signature under a 32-byte seed (R367): seed, message; 64 bytes. -/
opaque ed25519Sign : List Byte → List Byte → List Byte
/-- ECDSA P-384 verification (R549, R568): public key, message, signature. -/
opaque ecdsaVerify : List Byte → List Byte → List Byte → Bool
/-- The vendor's signature on an image (R318, R540) verifies: the image's bytes. -/
opaque vendorVerify : List Byte → Bool
/-- The owner image key under which an image's countersignature verifies; empty when under none (R540). -/
opaque countersigner : List Byte → List Byte
/-- The vendor test key in the S-tile ROM (R568), 96 bytes. -/
opaque vendorTestKey : List Byte
/-- The manufacturer identity code of IDCODE (R566), 11 bits. -/
opaque manufacturer : Nat
/-- The levels a boundary register drives on FLT_P (bit 0) and FLT_N (bit 1); its layout is in the BSDL file (R566). -/
opaque boundaryPins : List Byte → Nat
/-- The n-th draw from the random source (R349), 64 bytes. -/
opaque random : Nat → List Byte
/-- The first counter block of the wrapped store's AES-CTR under a WRAP_GEN (R334), which no rule states. -/
opaque wrapCounter : Nat → List Byte
/-- The fused device root (R332), 16 bytes. -/
opaque deviceRoot : List Byte
/-- Granary bucket hash (R279): hash key, entry key, which of the two; the set number. -/
opaque granaryHash : Nat → List Byte → Nat → Nat
/-- Rate-bucket hash (R294). -/
opaque bucketHash : Nat → List Byte → Nat
/-- Flow hash (R310), 16 bits. -/
opaque flowHash : List Byte → Nat
/-- The factory calibration of the GNSS receiver's delay (R90), 2^-16 ns. -/
opaque receiverDelay : Int
/-- The factory loop-path delay of PPS0 and PPS1 in OTP (R454), interval LSBs. -/
opaque loopPath : Nat → Int
/-- The step of a tracking loop of a bandwidth on its discriminator's output (R87): 0 the carrier PLL, 1 the code DLL. -/
opaque loopStep : Nat → Nat → Int → Int
/-- A module's factory delays, set at manufacture (R250, R396): port, direction; 2^-16 ns. -/
opaque factoryDelay : Nat → Nat → Int
/-- Latency of a FEC coder (R394): row 2 × RATE + FEC, 0 encoder or 1 decoder; 2^-16 ns. -/
opaque fecLatency : Nat → Nat → Int
/-- The output a sower image declares for a message kind (R311): version, kind; 64-byte units. -/
opaque declaredOutput : Nat → Nat → Nat
/-- The state-format number an image declares (R321): the image's bytes. -/
opaque stateFormat : List Byte → Nat
/-- The sower image inside an S-tile boot image (R318, R538), by the boot image's digest: version, state format, SVN. -/
opaque sowerIn : List Byte → Nat × Nat × Nat
/-- SHA-384 of that sower image (R482). -/
opaque sowerDigest : List Byte → List Byte
/-- Type of service, identification and time to live of the IP packets the module sends, which no rule states. -/
opaque ipTos : Nat
opaque ipIdent : Nat
opaque ipTtl : Nat
/-- The MAC address of a port, set at manufacture (R400). -/
opaque macAddress : Nat → Nat
/-- SPDM message bodies the spec does not lay out (R481): request number, state of the exchange. -/
opaque spdmBody : Nat → List Byte → List Byte

end Sys2Proof.Config
end

