-- ==== Sys2Proof/Machine/Crypto.lean ====
section
/-! DEFINITION. AES (FIPS 197), AES-CMAC (NIST SP 800-38B, R235), AES-CTR (NIST SP 800-38A, R361), AES-SIV-CMAC-256 (RFC 5297,
R292), SHA-256 and SHA-384 (FIPS 180-4, R197, R292), HMAC-SHA256-128 (RFC 2104, R284). -/

namespace Sys2Proof.Machine
open Sys2Proof

/-- The S-box of AES, 16 bytes to a row, the first lowest. -/
def sboxRows : List Nat :=
  [0x76ABD7FE2B670130C56F6BF27B777C63, 0xC072A49CAFA2D4ADF04759FA7DC982CA, 0x1531D871F1E5A534CCF73F362693FDB7,
   0x75B227EBE28012079A059618C323C704, 0x842FE329B3D63B52A05A6E1B1A2C8309, 0xCF584C4A39BECB6A5BB1FC20ED00D153,
   0xA89F3C507F02F94585334D43FBAAEFD0, 0xD2F3FF1021DAB6BCF5389D928F40A351, 0x73195D643D7EA7C41744975FEC130CCD,
   0xDB0B5EDE14B8EE4688902A22DC4F8160, 0x79E4959162ACD3C25C2406490A3A32E0, 0x08AE7A65EAF4566CA94ED58D6D37C8E7,
   0x8A8BBD4B1F74DDE8C6B4A61C2E2578BA, 0x9E1DC186B95735610EF6034866B53E70, 0xDF2855CEE9871E9B948ED9691198F8E1,
   0x16BB54B00F2D99416842E6BF0D89A18C]

/-- A byte through the S-box. -/
def subByte (b : Nat) : Nat := (sboxRows.getD (b / 16) 0 >>> (8 * (b % 16))) % 256

/-- A byte times x in the field of AES. -/
def xtime (b : Nat) : Nat := if b < 128 then 2 * b else (2 * b) ^^^ 0x11B

/-- Bytes xored one by one. -/
def xorNats (a b : List Nat) : List Nat := List.zipWith (· ^^^ ·) a b

/-- One column mixed. -/
def mixColumn : List Nat → List Nat
  | [a, b, c, d] =>
    let t := a ^^^ b ^^^ c ^^^ d
    [a ^^^ t ^^^ xtime (a ^^^ b), b ^^^ t ^^^ xtime (b ^^^ c), c ^^^ t ^^^ xtime (c ^^^ d), d ^^^ t ^^^ xtime (d ^^^ a)]
  | l => l

/-- The rows of a block shifted: byte i comes from place i + 4 (i mod 4). -/
def shiftRows (s : List Nat) : List Nat := (List.range 16).map (fun i => s.getD ((i + 4 * (i % 4)) % 16) 0)

/-- The columns of a block mixed. -/
def mixColumns (s : List Nat) : List Nat := [0, 4, 8, 12].flatMap (fun c => mixColumn ((s.drop c).take 4))

/-- The round keys' words, newest first: `nk` words of key, `n` words to go, word number `i`, the round constant. -/
def expandKey (nk : Nat) : Nat → Nat → Nat → List (List Nat) → List (List Nat)
  | 0, _, _, acc => acc
  | n + 1, i, rc, acc =>
    let p := acc.headD []
    let t :=
      if i % nk = 0 then xorNats ((p.drop 1 ++ p.take 1).map subByte) [rc, 0, 0, 0]
      else if nk = 8 ∧ i % 8 = 4 then p.map subByte
      else p
    expandKey nk n (i + 1) (if i % nk = 0 then xtime rc else rc) (xorNats (acc.getD (nk - 1) []) t :: acc)

/-- The words of a key. -/
def keyWords : Nat → List Nat → List (List Nat)
  | 0, _ => []
  | n + 1, l => l.take 4 :: keyWords n (l.drop 4)

/-- The round keys of a key of `nk` words, first to last. -/
def roundKeys (nk : Nat) (key : List Nat) : List (List Nat) :=
  let w := (expandKey nk (4 * (nk + 7) - nk) nk 1 (keyWords nk key).reverse).reverse
  (List.range (nk + 7)).map (fun r => ((w.drop (4 * r)).take 4).flatten)

/-- The rounds of AES after the first key addition. -/
def aesRounds : List (List Nat) → List Nat → List Nat
  | [], s => s
  | [k], s => xorNats (shiftRows (s.map subByte)) k
  | k :: ks, s => aesRounds ks (xorNats (mixColumns (shiftRows (s.map subByte))) k)

/-- The block cipher under expanded keys. -/
def aesBlock (ks : List (List Nat)) (block : List Nat) : List Nat := aesRounds (ks.drop 1) (xorNats block (ks.headD []))

/-- Bytes as numbers. -/
def toNats (l : List Byte) : List Nat := l.map BitVec.toNat
/-- Numbers as bytes. -/
def toBytes (l : List Nat) : List Byte := l.map (BitVec.ofNat 8)

/-- The round keys of a 128-bit key. -/
def aesKey (k : List Byte) : List (List Nat) := roundKeys 4 (toNats (fit 16 k))

/-- 16 bytes doubled in the field of CMAC and SIV. -/
def dbl (l : List Nat) : List Nat :=
  let v := l.foldl (fun a b => a * 256 + b) 0
  let d := (2 * v % 2 ^ 128) ^^^ (if v < 2 ^ 127 then 0 else 0x87)
  (List.range 16).map (fun i => d / 256 ^ (15 - i) % 256)

/-- The chain of CMAC: `n` bounds the blocks; `m` what is left; the last block is combined with a subkey. -/
def cmacGo (ks : List (List Nat)) (k1 k2 : List Nat) : Nat → List Nat → List Nat → List Nat
  | 0, m, c =>
    let last :=
      if m.length = 16 then xorNats m k1 else xorNats ((m ++ [0x80] ++ List.replicate 16 0).take 16) k2
    aesBlock ks (xorNats c last)
  | n + 1, m, c => cmacGo ks k1 k2 n (m.drop 16) (aesBlock ks (xorNats c (m.take 16)))

/-- AES-CMAC over numbers under expanded keys. -/
def cmacNats (ks : List (List Nat)) (m : List Nat) : List Nat :=
  let k1 := dbl (aesBlock ks (List.replicate 16 0))
  cmacGo ks k1 (dbl k1) ((m.length - 1) / 16) m (List.replicate 16 0)

/-- AES-CMAC under a 128-bit key, 16 bytes. -/
@[irreducible] def cmac (k m : List Byte) : List Byte := toBytes (cmacNats (aesKey k) (toNats m))

/-- The 16 bytes of a counter block that holds a number. -/
def counterBlock (v : Nat) : List Nat := (List.range 16).map (fun i => v / 256 ^ (15 - i) % 256)

/-- The keystream of AES-CTR: `n` blocks from counter `v`. -/
def ctrStream (ks : List (List Nat)) : Nat → Nat → List Nat
  | 0, _ => []
  | n + 1, v => aesBlock ks (counterBlock v) ++ ctrStream ks n ((v + 1) % 2 ^ 128)

/-- AES-CTR under a 128-bit key from a first counter block: plaintext or ciphertext. -/
@[irreducible] def aesCtr (k iv m : List Byte) : List Byte :=
  let v := (toNats iv).foldl (fun a b => a * 256 + b) 0
  toBytes (xorNats (toNats m) (ctrStream (aesKey k) ((m.length + 15) / 16) v))

/-- S2V of RFC 5297 over its associated data in order and the plaintext. -/
def s2v (ks : List (List Nat)) (ad : List (List Nat)) (m : List Nat) : List Nat :=
  let d := ad.foldl (fun d x => xorNats (dbl d) (cmacNats ks x)) (cmacNats ks (List.replicate 16 0))
  if 16 ≤ m.length then cmacNats ks (m.take (m.length - 16) ++ xorNats (m.drop (m.length - 16)) d)
  else cmacNats ks (xorNats (dbl d) ((m ++ [0x80] ++ List.replicate 16 0).take 16))

/-- The counter of SIV: two bits of the synthetic IV are cleared. -/
def sivCounter (v : List Nat) : Nat :=
  let n := v.foldl (fun a b => a * 256 + b) 0
  n - (if n.testBit 63 then 2 ^ 63 else 0) - (if n.testBit 31 then 2 ^ 31 else 0)

/-- AES-SIV-CMAC-256 sealing: a 32-byte key, associated data with the nonce last, plaintext; synthetic IV and ciphertext. -/
@[irreducible] def sivSeal (k : List Byte) (ad : List (List Byte)) (m : List Byte) : List Byte × List Byte :=
  let v := s2v (aesKey (k.take 16)) (ad.map toNats) (toNats m)
  (toBytes v, toBytes (xorNats (toNats m) (ctrStream (aesKey (k.drop 16)) ((m.length + 15) / 16) (sivCounter v))))

/-- AES-SIV-CMAC-256 opening: key, associated data, synthetic IV, ciphertext; none when it does not verify. -/
@[irreducible] def sivOpen (k : List Byte) (ad : List (List Byte)) (iv c : List Byte) : Option (List Byte) :=
  let m := xorNats (toNats c) (ctrStream (aesKey (k.drop 16)) ((c.length + 15) / 16) (sivCounter (toNats iv)))
  if s2v (aesKey (k.take 16)) (ad.map toNats) m = toNats iv then some (toBytes m) else none

/-- The word size, rotations and shifts of a SHA-2 function. -/
structure ShaKind where
  w : Nat
  big0 : List Nat
  big1 : List Nat
  small0 : List Nat
  small1 : List Nat
  deriving DecidableEq, Repr

/-- SHA-256's. -/
def sha256Kind : ShaKind := ⟨32, [2, 13, 22], [6, 11, 25], [7, 18, 3], [17, 19, 10]⟩
/-- SHA-384's. -/
def sha384Kind : ShaKind := ⟨64, [28, 34, 39], [14, 18, 41], [1, 8, 7], [19, 61, 6]⟩

/-- The round constants of SHA-384; SHA-256 has the top 32 bits of the first 64. -/
def shaConst : List Nat :=
  [0x428A2F98D728AE22, 0x7137449123EF65CD, 0xB5C0FBCFEC4D3B2F, 0xE9B5DBA58189DBBC,
   0x3956C25BF348B538, 0x59F111F1B605D019, 0x923F82A4AF194F9B, 0xAB1C5ED5DA6D8118,
   0xD807AA98A3030242, 0x12835B0145706FBE, 0x243185BE4EE4B28C, 0x550C7DC3D5FFB4E2,
   0x72BE5D74F27B896F, 0x80DEB1FE3B1696B1, 0x9BDC06A725C71235, 0xC19BF174CF692694,
   0xE49B69C19EF14AD2, 0xEFBE4786384F25E3, 0x0FC19DC68B8CD5B5, 0x240CA1CC77AC9C65] ++
  [0x2DE92C6F592B0275, 0x4A7484AA6EA6E483, 0x5CB0A9DCBD41FBD4, 0x76F988DA831153B5,
   0x983E5152EE66DFAB, 0xA831C66D2DB43210, 0xB00327C898FB213F, 0xBF597FC7BEEF0EE4,
   0xC6E00BF33DA88FC2, 0xD5A79147930AA725, 0x06CA6351E003826F, 0x142929670A0E6E70,
   0x27B70A8546D22FFC, 0x2E1B21385C26C926, 0x4D2C6DFC5AC42AED, 0x53380D139D95B3DF,
   0x650A73548BAF63DE, 0x766A0ABB3C77B2A8, 0x81C2C92E47EDAEE6, 0x92722C851482353B] ++
  [0xA2BFE8A14CF10364, 0xA81A664BBC423001, 0xC24B8B70D0F89791, 0xC76C51A30654BE30,
   0xD192E819D6EF5218, 0xD69906245565A910, 0xF40E35855771202A, 0x106AA07032BBD1B8,
   0x19A4C116B8D2D0C8, 0x1E376C085141AB53, 0x2748774CDF8EEB99, 0x34B0BCB5E19B48A8,
   0x391C0CB3C5C95A63, 0x4ED8AA4AE3418ACB, 0x5B9CCA4F7763E373, 0x682E6FF3D6B2B8A3,
   0x748F82EE5DEFB2FC, 0x78A5636F43172F60, 0x84C87814A1F0AB72, 0x8CC702081A6439EC] ++
  [0x90BEFFFA23631E28, 0xA4506CEBDE82BDE9, 0xBEF9A3F7B2C67915, 0xC67178F2E372532B,
   0xCA273ECEEA26619C, 0xD186B8C721C0C207, 0xEADA7DD6CDE0EB1E, 0xF57D4F7FEE6ED178,
   0x06F067AA72176FBA, 0x0A637DC5A2C898A6, 0x113F9804BEF90DAE, 0x1B710B35131C471B,
   0x28DB77F523047D84, 0x32CAAB7B40C72493, 0x3C9EBE0A15C9BEBC, 0x431D67C49C100D4C,
   0x4CC5D4BECB3E42B6, 0x597F299CFC657E2A, 0x5FCB6FAB3AD6FAEC, 0x6C44198C4A475817]

/-- The initial state of SHA-256. -/
def sha256Init : List Nat :=
  [0x6A09E667, 0xBB67AE85, 0x3C6EF372, 0xA54FF53A,
   0x510E527F, 0x9B05688C, 0x1F83D9AB, 0x5BE0CD19]

/-- The initial state of SHA-384. -/
def sha384Init : List Nat :=
  [0xCBBB9D5DC1059ED8, 0x629A292A367CD507, 0x9159015A3070DD17, 0x152FECD8F70E5939,
   0x67332667FFC00B31, 0x8EB44A8768581511, 0xDB0C2E0D64F98FA7, 0x47B5481DBEFA4FA4]

/-- A word rotated right. -/
def rotR (w x n : Nat) : Nat := (x >>> n) ||| ((x <<< (w - n)) % 2 ^ w)
/-- A capital sigma of SHA-2: three rotations xored. -/
def bigSigma (w : Nat) (r : List Nat) (x : Nat) : Nat := (r.map (rotR w x)).foldl (· ^^^ ·) 0
/-- A small sigma of SHA-2: two rotations and a shift xored. -/
def smallSigma (w : Nat) (r : List Nat) (x : Nat) : Nat :=
  rotR w x (r.getD 0 0) ^^^ rotR w x (r.getD 1 0) ^^^ (x >>> r.getD 2 0)

/-- The rounds of a block: constants left, the next 16 words of the schedule, the eight working variables. -/
def shaRounds (k : ShaKind) : List Nat → List Nat → List Nat → List Nat
  | c :: cs, ws, [a, b, cc, d, e, f, g, h] =>
    let m := 2 ^ k.w
    let w0 := ws.headD 0
    let next := (smallSigma k.w k.small1 (ws.getD 14 0) + ws.getD 9 0 + smallSigma k.w k.small0 (ws.getD 1 0) + w0) % m
    let t1 := (h + bigSigma k.w k.big1 e + ((e &&& f) ^^^ ((m - 1 - e) &&& g)) + c + w0) % m
    let t2 := bigSigma k.w k.big0 a + ((a &&& b) ^^^ (a &&& cc) ^^^ (b &&& cc))
    shaRounds k cs (ws.drop 1 ++ [next]) [(t1 + t2) % m, a, b, cc, (d + t1) % m, e, f, g]
  | _, _, v => v

/-- The words of a block of bytes. -/
def shaWords (bytes : Nat) : Nat → List Nat → List Nat
  | 0, _ => []
  | n + 1, l => (l.take bytes).foldl (fun a b => a * 256 + b) 0 :: shaWords bytes n (l.drop bytes)

/-- The blocks of a padded message into the state. -/
def shaBlocks (k : ShaKind) (cs : List Nat) : Nat → List Nat → List Nat → List Nat
  | 0, _, st => st
  | n + 1, l, st =>
    let v := shaRounds k cs (shaWords (k.w / 8) 16 l) st
    shaBlocks k cs n (l.drop (2 * k.w)) (List.zipWith (fun a b => (a + b) % 2 ^ k.w) st v)

/-- SHA-2 of a message: padding, blocks, the first `out` bytes of the state. -/
def sha2 (k : ShaKind) (cs init : List Nat) (out : Nat) (m : List Byte) : List Byte :=
  let block := 2 * k.w
  let len := block / 8
  let n := (m.length + 1 + len + block - 1) / block
  let pad := [0x80] ++ List.replicate (n * block - m.length - 1 - len) 0 ++ (counterBlock (8 * m.length)).drop (16 - len)
  ((shaBlocks k cs n (toNats m ++ pad) init).flatMap (fun w => be (k.w / 8) w)).take out

/-- SHA-256, 32 bytes. -/
@[irreducible] def sha256 (m : List Byte) : List Byte :=
  sha2 sha256Kind ((shaConst.take 64).map (fun c => c / 2 ^ 32)) sha256Init 32 m
/-- SHA-384, 48 bytes. -/
@[irreducible] def sha384 (m : List Byte) : List Byte := sha2 sha384Kind shaConst sha384Init 48 m

/-- HMAC-SHA-256 under a key of at most 64 bytes, 32 bytes. -/
def hmacSha256 (k m : List Byte) : List Byte :=
  let p := fit 64 k
  sha256 (p.map (· ^^^ 0x5C) ++ sha256 (p.map (· ^^^ 0x36) ++ m))

end Sys2Proof.Machine
end

