-- ==== Sys2Proof/Machine/StateBus.lean ====
section
/-! DEFINITION. State of the paths between the tiles: the time bus and its replicas, the claim path, the mailbox's
message areas, the live-time latches (spec/01_module_and_time_flow.md, spec/02_field_time_formats.md). -/

namespace Sys2Proof.Machine
open Sys2Proof

/-- A step announcement (R11, R14): the size and the field time of the effective marker. -/
structure StepAnn where
  size : Interval := 0            -- [R11] 64-bit interval
  effective : FieldTime := 0      -- [R11] 96-bit field time of the effective marker
  deriving DecidableEq, Repr

/-- The contents of one time-bus frame (R11); they describe the marker that ends the frame. -/
structure Frame where
  marker : FieldTime := 0         -- [R11] 96-bit field time of the marker (whole microsecond)
  phase : Nat := 0                -- [R11] 20-bit marker phase, 2^-16 ns
  rate : Freq := 0                -- [R11] 32-bit rate of the timescale against the time base
  bound : Bound := 0xFFFFFFFF     -- [R11] 32-bit bound word
  mState : Nat := 0               -- [R11] 4-bit M-tile state, encoding of R47
  clockClass : Nat := 248         -- [R11] 8-bit clockClass
  warmup : Bool := false          -- [R11] clock-state flag WARMUP
  uncertain : Bool := false       -- [R11] clock-state flag TIME_UNCERTAIN
  utcValid : Bool := false        -- [R11] clock-state flag UTC_VALID
  leap61 : Bool := false          -- [R11] clock-state flag LEAP61
  leap59 : Bool := false          -- [R11] clock-state flag LEAP59
  testUnlock : Bool := false      -- [R11] clock-state flag TEST_UNLOCK
  utcOffset : Int := 37           -- [R11] 16-bit signed seconds
  generation : Nat := 0           -- [R11] low 32 bits of the M-tile state generation
  step : Option StepAnn := none   -- [R11] 168-bit step announcement
  selSlot : Nat := 0xFF           -- [R11] 8-bit selected slot, 0xFF none
  selKind : Nat := 0              -- [R11] 2-bit kind of the selected slot
  primary : Bool := false         -- [R11] PRIMARY of the selected slot
  hops : Nat := 0                 -- [R11] 8-bit HOPS of the selected furrow slot
  originId : Nat := 0             -- [R11] 64-bit ORIGIN_ID of the selected furrow slot
  evNewSticky : Bool := false     -- [R11] event summary bit 0
  evViolation : Bool := false     -- [R11] event summary bit 1
  evNewLog : Bool := false        -- [R11] event summary bit 2
  deriving DecidableEq, Repr

/-- The replica of one receiving die: S tile (0) and F0 to F3 (1 to 4). -/
structure Replica where
  frame : Frame := {}             -- [R12] the last good frame
  at_ : Int := 0                  -- [R12] instant of that frame's marker on `now`, 2^-16 ns: its edge plus the marker phase
  past : Option (Int × StepAnn) := none -- [R20] the last step taken, and its marker's instant (2^-16 ns of `now`)
  holdAt : FieldTime := 0         -- [R43] entry instant of the holdover its frames show
  anyGood : Bool := false         -- [R50] a good frame has been received since reset
  heard : Nat := 0                -- [R12] number of the last frame received (of Bus.frames)
  missed : Nat := 0               -- [R13] consecutive missing or failed frames
  goodRun : Nat := 0              -- [R13] consecutive good frames
  inLoss : Bool := true           -- [R13] in time-bus loss; also from reset until first left
  everLeft : Bool := false        -- [R13] the die has once left time-bus loss
  unserved : Bool := true         -- [R13] the die serves the bound 0xFFFFFFFF and clockClass 248
  lastSel : Nat := 0xFF           -- [R291] the last selected slot its frames named; 0xFF none
  lastKind : Nat := 0             -- [R291] its kind
  lastComp : FieldTime := 0       -- [R291] field time of the last 1 ms computation with a selected slot
  deriving DecidableEq, Repr

/-- The claim path's receiver in one F tile (R15). -/
structure ClaimPath where
  claim : Nat := 0                -- [R15] 8-bit claim of the last good word
  prevClaim : Nat := 0            -- [R15] the claim in force one microsecond earlier (for the burst of epoch E − 1 µs)
  missed : Nat := 0               -- [R15] consecutive markers without a good word
  goodRun : Nat := 0              -- [R15] consecutive good words
  down : Bool := false            -- [R15] CLAIM 0 is sent in every burst
  count : Option Nat := none      -- [R15] 4-bit count of the word received at the last marker; none without one
  deriving DecidableEq, Repr

/-- One measurement event of a slot as its tile gathers it for the next report (R18). -/
structure SlotPhase where
  at_ : FieldTime := 0            -- [R18] the event's instant
  phase : Interval := 0           -- [R18] its phase, against the reporting tile's replica
  ub : Bound := 0                 -- [R18] its upstream bound
  tod : Option TodFields := none  -- [R18] its ToD fields
  prov : Bool := false            -- [R58] its record carries PROV
  hops : Nat := 0                 -- [R18] HOPS received (slots 11 to 18)
  originId : Nat := 0             -- [R18] ORIGIN_ID received (slots 11 to 18)
  past : Bool := false            -- [R152] taken before an effective marker that has come since
  deriving DecidableEq, Repr

/-- One slot measurement report of the mailbox's inbound area (R18). -/
structure SlotReport where
  slot : Nat := 9                 -- [R18] slot 9 to 19
  count : Nat := 0                -- [R18] events in the 1 ms before the computation
  mean : Interval := 0            -- [R18] mean phase of all the events
  latest : List SlotPhase := []   -- [R18] latest 16 phases, each with its upstream bound and ToD fields, oldest first
  hops : Nat := 0                 -- [R18] HOPS received (slots 11 to 18)
  originId : Nat := 0             -- [R18] ORIGIN_ID received (slots 11 to 18)
  deriving DecidableEq, Repr

/-- The live-time latched registers (R45, R46). TIME_NS, TIME_SEC_LO and TIME_SEC_HI are live and computed from the
replica. -/
structure LiveTime where
  frac : Nat := 0                 -- [R45] 32-bit TIME_FRAC
  ns : Nat := 0                   -- [R45] 32-bit NS of the last capture (what the read returned)
  bound : Bound := 0xFFFFFFFF     -- [R45] 32-bit TIME_BOUND
  state : Nat := 0xF8000000       -- [R45] 32-bit TIME_STATE
  utc : Nat := 0x25               -- [R45] 32-bit TIME_UTC
  gen : Nat := 0                  -- [R45] 32-bit TIME_GEN
  deriving DecidableEq, Repr

/-- An accepted leap announcement (R37). -/
structure LeapAnn where
  day : Nat := 0                  -- [R37] UTC day, from 1970-01-01, that begins after the leap second
  positive : Bool := true         -- [R37] positive or negative leap second
  deriving DecidableEq, Repr

/-- The module's UTC state (R36). -/
structure Utc where
  offset : Int := 37              -- [R36] 16-bit signed; 37 s as shipped
  valid : Bool := false           -- [R36] UTC_VALID
  leap61 : Bool := false          -- [R36] LEAP61
  leap59 : Bool := false          -- [R36] LEAP59
  stored : Int := 37              -- [R36] the sealed stored offset
  announced : Option LeapAnn := none       -- [R37] accepted announcement

  refused : Nat := 0              -- [R37] refused announcements counted
  source : Nat := 0               -- [R127] source now supplying the offset (code of R127)
  lastSupplied : Nat := 0         -- [R127] ns of `now` at the last supplied offset
  conflict : Bool := false        -- [R127] valid sources differ (UTC_CONFLICT)
  differing : Nat := 0            -- [R127] the set of sources that differ, one bit per code
  offers : Tbl (Int × Nat) := []  -- [R127] per source code: offset and ns of `now` when last supplied
  leapOffers : Tbl LeapAnn := []  -- [R37] per source code: its announcement
  deriving DecidableEq, Repr

/-- The paths between the tiles. -/
structure Bus where
  nextMarker : FieldTime := 0     -- [R593] field time of the next epoch marker
  sent : Frame := {}              -- [R11] the last frame sent on the time bus
  sentEdge : Int := 0             -- [R11] instant of the 250 MHz edge on which its marker is sent, 2^-16 ns of `now`
  frames : Nat := 0               -- [R11] frames sent
  replicas : Tbl Replica := []    -- [R12] dies S, F0 to F3 (0 to 4)
  claimCount : Nat := 0           -- [R15] 4-bit count of the last claim word sent
  claims : Tbl ClaimPath := []    -- [R15] F0 to F3 (0 to 3)
  live : LiveTime := {}           -- [R45] live-time latches
  gathered : List (Nat × SlotPhase) := [] -- [R18] events of slots 9 to 19 that the tiles have gathered for the next report
  reports : List SlotReport := [] -- [R18] inbound area: slot measurement reports
  tandemReport : List Byte := []  -- [R18] outbound area: tandem report of R424
  portCopies : List (Nat × Nat × Nat × List Byte) := [] -- [R196] sealed port fields as the tiles hold them: opcode, port, offset, value
  newSticky : Bool := false       -- [R11] a new sticky bit of fault block 0 since the last frame
  newViolation : Bool := false    -- [R11] a bound-violation discovery since the last frame
  newLog : Bool := false          -- [R11] a new sealed log entry since the last frame
  deriving DecidableEq, Repr

end Sys2Proof.Machine
end

