-- ==== Sys2Proof/Machine/StateEth.lean ====
section
/-! DEFINITION. State of the 16 Ethernet ports: records, tags, pause, transmit queues and credit, asymmetry and loop
measurement (spec/15_ethernet_ports.md, R405). -/

namespace Sys2Proof.Machine
open Sys2Proof

/-- ETH_PORT_CONFIG (R400). -/
structure EthCfg where
  flags : Nat := 4                -- [R400] 8-bit FLAGS: ENABLE, AN, FEC
  rate : Nat := 3                 -- [R400] 8-bit RATE
  pmd : Nat := 0                  -- [R400] 8-bit PMD
  maxFrame : Nat := 1522          -- [R400] 16-bit MAX_FRAME
  mac : Option Nat := none        -- [R400] 48-bit MAC, wire order; none: the one set at manufacture
  deriving DecidableEq, Repr

/-- One VLAN tag entry (R402). -/
structure TagCfg where
  mode : Nat := 0                 -- [R402] 8-bit MODE
  pcp : Nat := 0                  -- [R402] 8-bit PCP
  cvid : Nat := 0                 -- [R402] 16-bit C_VID
  svid : Nat := 0                 -- [R402] 16-bit S_VID
  deriving DecidableEq, Repr

/-- ETH_PAUSE_CONFIG (R403). -/
structure PauseCfg where
  flags : Nat := 3                -- [R403] 8-bit FLAGS: PAUSE_EN, PFC_EN
  wdog : Nat := 2000              -- [R403] 32-bit PAUSE_WDOG, us
  deriving DecidableEq, Repr

/-- One sealed asymmetry row (R397). -/
structure AsymRow where
  unc : Bound := 0                -- [R404] 32-bit ASYM_UNC !D the spec gives no default of a row
  boardTx : Interval := 0         -- [R404] 64-bit BOARD_TX !D the spec gives no default of a row
  boardRx : Interval := 0         -- [R404] 64-bit BOARD_RX !D the spec gives no default of a row
  deriving DecidableEq, Repr

/-- The message of a transmitted frame. -/
inductive TxMsg where
  | sync (seq : Nat) (oneStep : Bool)
  | followUp (seq : Nat)
  | announce (seq : Nat)
  | delayResp (seq : Nat)
  | signaling (tlv : SigTlv)
  | delayReq (seq : Nat)
  | ntp (request : NtpMsg) (kiss : Bool)
  | nts (request : NtpMsg) (cookies : Nat)
  | ntsNak (request : NtpMsg) (uniqueId : List Byte)
  | arpReply (target : Nat)
  | neighborAdvertisement (target : Nat)
  deriving DecidableEq, Repr

/-- What a transmitted frame's headers carry (R276, R277, R284, R301, R391). -/
structure TxHead where
  srcMac : Nat := 0               -- [R276] source MAC address
  tags : List (Nat × Nat) := []   -- [R391] tags outermost first: TPID and TCI
  srcIp : Nat := 0                -- [R301] source IP address
  dstIp : Nat := 0                -- [R276] destination IP address
  dport : Nat := 0                -- [R290] destination UDP port of an NTP response
  checksum : Bool := false        -- [R288] the UDP checksum is carried
  number : Nat := 0               -- [R302] domainNumber
  unicast : Bool := false         -- [R277] unicastFlag
  log : Int := 127                -- [R277] logMessageInterval
  priority1 : Nat := 128          -- [R277] grandmasterPriority1
  priority2 : Nat := 128          -- [R277] grandmasterPriority2
  spp : Nat := 0                  -- [R284] SPP
  target : Nat := 2 ^ 80 - 1      -- [R277] targetPortIdentity or requestingPortIdentity: clockIdentity and portNumber
  sigSeq : Nat := 0               -- [R277] sequenceId of a signalling message
  deriving DecidableEq, Repr

/-- The time fields of a transmitted message (R278, R286, R291). -/
structure TxFields where
  time : FieldTime := 0           -- [R288] the timestamp it carries
  correction : Int := 0           -- [R39] correctionField, 2^-16 ns
  bound : Bound := 0xFFFFFFFF     -- [R286] served bound of that timestamp
  tlvFlags : Nat := 0             -- [R286] FLAGS of the bound TLV
  evidence : Nat := 0             -- [R286] EVIDENCE
  hasBound : Bool := false        -- [R286] the bound TLV is carried
  clockClass : Nat := 248         -- [R278] clockClass
  accuracy : Nat := 0xFE          -- [R278] clockAccuracy
  variance : Nat := 0xFFFF        -- [R278] offsetScaledLogVariance
  timeSource : Nat := 0           -- [R278] timeSource
  utcOffset : Int := 37           -- [R278] currentUtcOffset
  flags : Nat := 0                -- [R39] bits: LEAP61, LEAP59, UTC_VALID, ptpTimescale, timeTraceable, frequencyTraceable, TIME_UNCERTAIN
  keyId : Nat := 0                -- [R285] keyID
  icv : List Byte := []           -- [R284] ICV or NTS authenticator; empty when none
  leap : Nat := 3                 -- [R43] NTP LI
  stratum : Nat := 16             -- [R43] NTP stratum
  poll : Nat := 0                 -- [R291] NTP poll
  rootDelay : Nat := 0            -- [R41] NTP root delay
  rootDisp : Nat := 0             -- [R41] NTP root dispersion
  refId : Nat := 0                -- [R291] NTP reference ID
  refTime : Option FieldTime := none -- [R291] field time behind the NTP reference timestamp; none where it is zero
  rxTime : FieldTime := 0         -- [R291] field time behind the NTP receive timestamp
  cookies : List (List Byte) := []         -- [R293] new cookies of an NTS response
  ntp64 : Nat := 0                -- [R40] the timestamp `time` in NTP form
  rx64 : Nat := 0                 -- [R291] NTP receive timestamp
  ref64 : Nat := 0                -- [R291] NTP reference timestamp
  deriving DecidableEq, Repr

/-- What an evidence record is to say of a served exchange (R295, R359, R360). -/
structure EvData where
  exchange : Nat := 0             -- [R359] bits 7:4 of SOURCE
  svcDomain : Nat := 0            -- [R359] bits 3:0 of SOURCE
  port : Nat := 0                 -- [R359] PORT
  tenant : Nat := 0               -- [R358] TENANT
  client : List Byte := []        -- [R360] the 18-byte client identity
  time : Option FieldTime := none -- [R295] served time; none for a one-step Sync before its commit
  bound : Bound := 0xFFFFFFFF     -- [R359] BOUND
  clockClass : Nat := 248         -- [R359] CLOCK_CLASS
  flags : Nat := 0                -- [R359] FLAGS
  seq : Nat := 0                  -- [R359] SEQ
  deriving DecidableEq, Repr

/-- A frame in a transmit queue (R287, R392). -/
structure TxFrame where
  port : Nat := 0                 -- [R388] the Ethernet port it leaves by
  msg : TxMsg := .arpReply 0      -- [R287] what it carries
  svcDomain : Nat := 8            -- [R275] service domain
  queue : Nat := 0                -- [R392] transmit queue
  bytes : Nat := 64               -- [R288] frame length with tags and FCS
  credit : Nat := 1               -- [R405] 64-byte units it holds
  own : Bool := false             -- [R287] it carries its own transmit instant
  tag : Nat := 0                  -- [R315] tag of its task
  wants : Option EvData := none   -- [R295] it is sampled and its record is not created yet
  record : Option (Nat × Nat) := none      -- [R362] its evidence record: sheaf index and slot
  recorded : Option EvData := none         -- [R295] what that record says
  entry : Option GKey := none     -- [R305, R310] the key of its Granary entry
  grant : Option (GKey × GrantKind) := none       -- [R282] the grant under which it is sent
  tenant : Nat := 0               -- [R285] tenant of its ICV
  key : GKey := ⟨0, 0, 0⟩         -- [R285] client identity of its ICV
  s2c : List Byte := []           -- [R293] S2C key of an NTS response
  transport : Nat := 0            -- [R280] TRANSPORT
  dstMac : Nat := 0               -- [R276] destination MAC address
  head : TxHead := {}             -- [R276, R277] what its headers carry
  wire : List Byte := []          -- [R288] its bytes from the destination address to the FCS, once they are fixed
  fields : TxFields := {}         -- [R288] its time fields
  committed : Option Nat := none  -- [R287] ps of `now`·1000 of its predicted start t_p, once launch-committed
  alg : Nat := 0                  -- [R284] 0 no AUTHENTICATION TLV, 1 AES-CMAC-128, 2 HMAC-SHA-256-128
  ends : Nat := 0                 -- [R287] ps of `now`·1000 at which its last byte leaves, once started
  stomped : Bool := false         -- [R289] sent with its FCS inverted
  deriving DecidableEq, Repr

/-- A LOOP_MEASURE in progress and its last result (R398, R404). -/
structure LoopMeas where
  running : Bool := false         -- [R398] test frames are being sent
  delay : Interval := 0           -- [R404] LOOP_DELAY
  startAt : Nat := 0              -- [R398] ns of `now` at its start
  mean : Interval := 0            -- [R404] MEAN
  stddev : Interval := 0          -- [R404] STDDEV
  residual : Interval := 0        -- [R404] RESIDUAL
  frames : Nat := 0               -- [R404] FRAMES
  deriving DecidableEq, Repr

/-- One Ethernet port. -/
structure Eth where
  cfg : EthCfg := {}              -- [R400]
  cfgNext : Option EthCfg := none -- [R389] a written record that waits for the end of the frame in progress
  tags : Tbl TagCfg := []         -- [R402] per service domain 0 to 10
  pause : PauseCfg := {}          -- [R403]
  rows : Tbl AsymRow := []        -- [R397] row 2 × RATE + FEC
  linkAsym : Interval := 0        -- [R397] LINK_ASYM, sealed !D the spec gives no default
  rowUsed : AsymRow := {}         -- [R397] the row in effect since the last alignment lock
  state : Nat := 0                -- [R401] STATE: 0 DISABLED, 1 DOWN, 2 ALIGNING, 3 UP
  anDone : Bool := false          -- [R401] AN_DONE
  lpiSeen : Bool := false         -- [R401] LPI_SEEN
  lpiUntil : Nat := 0             -- [R390] ns of `now` until which frames are discarded
  alignRx : Interval := 0         -- [R401] ALIGN_RX
  alignTx : Interval := 0         -- [R394] ALIGN_TX
  txSampleAt : Option Nat := none -- [R395] ns of `now` of the last good transmit-clock sample
  rxSampleAt : Option Nat := none -- [R395] ns of `now` of the last good receive-clock sample
  queues : Tbl (List TxFrame) := []        -- [R392] eight transmit queues, oldest first
  inFlight : Option TxFrame := none        -- [R287] the frame in progress, or the last one started
  committedQ : List TxFrame := [] -- [R287] committed frames not yet started, in order
  wireFree : Nat := 0             -- [R287] ps of `now`·1000 at which the last fixed frame ends
  creditUsed : Nat := 0           -- [R405] of 6,144 credits, those taken
  descUsed : Tbl Nat := []        -- [R405] per queue: of 128 descriptors, those taken
  rxUsed : Nat := 0               -- [R405] bytes taken of the 384 KiB receive buffer
  pausedAny : Nat := 0            -- [R521] ns of `now` since which any queue has been paused; 0 none is
  pausedUntil : Tbl Nat := []     -- [R392] per queue: ns of `now` at which its pause ends; 0 not paused
  pausedSince : Tbl Nat := []     -- [R393] per queue: ns of `now` since which it has been paused
  pauseIgnore : Bool := false     -- [R401] PAUSE_IGNORE
  lastFlow : Nat := 0             -- [R393] ns of `now` of the last flow-control frame
  lm : LoopMeas := {}             -- [R398]
  ups : Nat := 0                  -- [R401] 32-bit LINK_UPS
  fecCorr : Nat := 0              -- [R401] 32-bit FEC_CORRECTED
  fecUncorr : Nat := 0            -- [R401] 32-bit FEC_UNCORRECTED
  fcsErr : Nat := 0               -- [R401] 32-bit FCS_ERRORS
  tagMiss : Nat := 0              -- [R401] 32-bit TAG_MISMATCH
  pauseRx : Nat := 0              -- [R401] 32-bit PAUSE_RX
  pfcRx : Nat := 0                -- [R401] 32-bit PFC_RX
  wdogTrips : Nat := 0            -- [R401] 32-bit WDOG_TRIPS
  lpiDiscard : Nat := 0           -- [R401] 32-bit LPI_DISCARD
  anFail : Nat := 0               -- [R401] 32-bit AN_FAIL
  addrDrops : Nat := 0            -- [R401] 32-bit ADDR_DROPS
  rxOverflow : Nat := 0           -- [R405] RX_OVERFLOW
  txDownDrops : Nat := 0          -- [R418] TX_DOWN_DROPS
  deriving DecidableEq, Repr

end Sys2Proof.Machine
end

