-- ==== Sys2Proof/Machine/StateSvc.lean ====
section
/-! DEFINITION. State of the packet time service: port profiles, outbound domains, the Granary, the rate buckets and
the upstream domains (spec/11_packet_time_service.md). -/

namespace Sys2Proof.Machine
open Sys2Proof

/-- SVC_PROFILE of one port (R301). -/
structure ProfCfg where
  flags : Nat := 0                -- [R301] 8-bit FLAGS: PTP, NTP, NTS, IPV4, IPV6, UDP4_CSUM
  tenant : Nat := 0               -- [R301] 16-bit NTP_TENANT
  ipv4 : Nat := 0                 -- [R301] 32-bit IPV4_ADDR, wire order
  sampleLog : Nat := 0            -- [R301] 8-bit NTP_SAMPLE_LOG
  nextHop : Nat := 0              -- [R301] 48-bit NEXT_HOP_MAC, wire order
  ipv6 : Nat := 0                 -- [R301] 128-bit IPV6_ADDR, wire order
  deriving DecidableEq, Repr

/-- One port's service: its profile and counters. -/
structure Prof where
  cfg : ProfCfg := {}             -- [R301]
  ntpServed : Nat := 0            -- [R301] 32-bit counter
  ntsServed : Nat := 0            -- [R301] 32-bit counter
  ntsNak : Nat := 0               -- [R301] 32-bit counter
  rateDropped : Nat := 0          -- [R294] 32-bit counter
  kodSent : Nat := 0              -- [R301] 32-bit counter
  stomped : Nat := 0              -- [R289] 32-bit counter
  authFail : Nat := 0             -- [R284] 32-bit counter
  noGrant : Nat := 0              -- [R282] 32-bit counter
  malformed : Nat := 0            -- [R293] discarded NTS requests counted
  deriving DecidableEq, Repr

/-- SVC_DOMAIN record of one outbound domain (R302). -/
structure DomCfg where
  flags : Nat := 0                -- [R302] 8-bit FLAGS: ENABLE, ONE_STEP, BOUND_TLV, RECORD_SYNC, MULTICAST, UNICAST, LISTED, ALT_MCAST
  profile : Nat := 0              -- [R302] 8-bit PROFILE
  domain : Nat := 0               -- [R302] 8-bit DOMAIN_NUMBER (0, 24, 44 by profile)
  ports : Nat := 0                -- [R302] 16-bit PORTS
  tenant : Nat := 0               -- [R302] 16-bit TENANT
  transport : Nat := 1            -- [R302] 8-bit TRANSPORT
  priority1 : Nat := 128          -- [R302] 8-bit PRIORITY1
  priority2 : Nat := 128          -- [R302] 8-bit PRIORITY2
  auth : Nat := 0                 -- [R302] 8-bit AUTH
  spp : Nat := 0                  -- [R302] 8-bit SPP
  sampleLog : Nat := 0            -- [R302] 8-bit SAMPLE_LOG
  mcastSync : Int := 0            -- [R302] 8-bit signed MCAST_SYNC_LOG
  mcastAnn : Int := 1             -- [R302] 8-bit signed MCAST_ANNOUNCE_LOG
  mcastDelay : Int := 0           -- [R302] 8-bit signed MCAST_DELAY_LOG
  minLog : Int := -7              -- [R302] 8-bit signed MIN_LOG
  maxLog : Int := 0               -- [R302] 8-bit signed MAX_LOG
  durationMax : Nat := 300        -- [R302] 32-bit DURATION_MAX, s
  maxClients : Nat := 1048576     -- [R302] 32-bit MAX_CLIENTS
  deriving DecidableEq, Repr

/-- One outbound domain: its record and counters. -/
structure Dom where
  cfg : DomCfg := {}              -- [R302]
  grantsDenied : Nat := 0         -- [R281] 32-bit counter
  setFull : Nat := 0              -- [R279] 32-bit counter
  syncSent : Nat := 0             -- [R302] 32-bit counter
  delayRespSent : Nat := 0        -- [R302] 32-bit counter
  authFail : Nat := 0             -- [R284] 32-bit counter
  announceIgnored : Nat := 0      -- [R278] 32-bit counter
  stomped : Nat := 0              -- [R289] 32-bit counter
  exchanges : Nat := 0            -- [R295] served exchanges counted for SAMPLE_LOG
  mcastSyncSeq : Tbl Nat := []    -- [R309] per port: sequenceId of the next multicast Sync
  mcastAnnSeq : Tbl Nat := []     -- [R309] per port: sequenceId of the next multicast Announce
  deriving DecidableEq, Repr

/-- A Granary entry (R280) with its last-transmit report (R305). -/
structure Entry where
  valid : Bool := false           -- [R280] FLAGS bit 0 VALID
  key : GKey := ⟨0, 0, 0⟩         -- [R280] ADDRESS (128 bits), PORT (4), DOMAIN (3)
  transport : Nat := 0            -- [R280] FLAGS bits 2:1
  authRequired : Bool := false    -- [R280] FLAGS bit 3
  boundTlv : Bool := false        -- [R280] FLAGS bit 4
  isStatic : Bool := false        -- [R280] FLAGS bit 5
  tenant : Nat := 0               -- [R280] 12-bit TENANT
  syncLog : Int := 0              -- [R280] 8-bit signed SYNC_LOG
  annLog : Int := 0               -- [R280] 8-bit signed ANNOUNCE_LOG
  delayLog : Int := 0             -- [R280] 8-bit signed DELAY_LOG
  grants : Nat := 0               -- [R280] 8-bit GRANTS
  syncSeq : Nat := 0              -- [R280] 16-bit SYNC_SEQ
  annSeq : Nat := 0               -- [R280] 16-bit ANNOUNCE_SEQ
  expiry : Nat := 0               -- [R280] 32-bit EXPIRY
  lastTxSeq : Nat := 0            -- [R305] 16-bit LAST_TX_SEQ
  committed : Bool := false       -- [R305] LAST_TX_FLAGS bit 0 COMMITTED
  stomped : Bool := false         -- [R305] LAST_TX_FLAGS bit 1 STOMPED
  gen : Nat := 0                  -- [R305] 64-bit GEN of the last write
  delaySecond : Nat := 0          -- [R282] the second whose Delay_Req messages are counted
  delayCount : Nat := 0           -- [R282] Delay_Req messages of that second
  deriving DecidableEq, Repr

/-- One rate bucket (R294). Tokens are held in 10^-9 tokens. -/
structure Bucket where
  used : Bool := false            -- [R294] the bucket has been used since reset (a fresh bucket is full)
  ntp : Nat := 0                  -- [R294] NTP and NTS tokens at `at_`
  sig : Nat := 0                  -- [R294] negotiation tokens at `at_`
  at_ : Nat := 0                  -- [R294] ns of `now` of the last refill
  kodAt : Option Nat := none      -- [R294] ns of `now` of the bucket's last RATE kiss
  deriving DecidableEq, Repr

/-- SVC_LIMITS (R306). -/
structure LimitsCfg where
  ntpRate : Nat := 64             -- [R306] 32-bit NTP_RATE
  ntpBurst : Nat := 256           -- [R306] 32-bit NTP_BURST
  v4Prefix : Nat := 32            -- [R306] 8-bit V4_PREFIX
  v6Prefix : Nat := 64            -- [R306] 8-bit V6_PREFIX
  kodMode : Nat := 1              -- [R306] 8-bit KOD_MODE
  minPoll : Nat := 4              -- [R306] 8-bit MIN_POLL
  sigRate : Nat := 8              -- [R306] 16-bit SIG_RATE
  deriving DecidableEq, Repr

/-- UPSTREAM_CONFIG record (R307). -/
structure UpCfg where
  flags : Nat := 0                -- [R307] 8-bit FLAGS: ENABLE, UNICAST, ALT_MCAST
  profile : Nat := 0              -- [R307] 8-bit PROFILE
  domain : Nat := 0               -- [R307] 8-bit DOMAIN_NUMBER (0, 24, 44 by profile)
  port : Nat := 0                 -- [R307] 8-bit PORT
  transport : Nat := 1            -- [R307] 8-bit TRANSPORT
  syncLog : Int := -4             -- [R307] 8-bit signed SYNC_LOG
  delayLog : Int := -4            -- [R307] 8-bit signed DELAY_LOG
  annLog : Int := -3              -- [R307] 8-bit signed ANNOUNCE_LOG
  auth : Nat := 0                 -- [R307] 8-bit AUTH
  spp : Nat := 0                  -- [R307] 8-bit SPP
  maxClass : Nat := 7             -- [R307] 8-bit MAX_CLASS
  tenant : Nat := 0               -- [R307] 16-bit TENANT
  duration : Nat := 300           -- [R307] 16-bit DURATION, s
  masters : List Nat := [0, 0, 0, 0]       -- [R307] 4 × 128-bit MASTER
  prio : List Nat := [0, 0, 0, 0]          -- [R307] 4 × 8-bit LOCAL_PRIO
  nextHop : Nat := 0              -- [R307] 48-bit NEXT_HOP_MAC
  deriving DecidableEq, Repr

/-- What the module knows of one candidate master (R296). -/
structure Candidate where
  clock : Nat := 0                -- [R296] clockIdentity of the master, as its messages carry it
  announce : Option Announce := none       -- [R296] its latest Announce
  annAt : Nat := 0                -- [R296] ns of `now` at which it came
  grants : Nat := 0               -- [R296] grants held: bit 0 Announce, 1 Sync, 2 Delay_Resp
  grantedAt : Tbl Nat := []       -- [R296] per grant: ns of `now` at which it was granted or renewed
  granted : Tbl Nat := []         -- [R296] per grant: its duration, s
  denied : Bool := false          -- [R307] the last answer was a durationField of 0
  deriving DecidableEq, Repr

/-- One upstream domain (R296 to R298). -/
structure Up where
  cfg : UpCfg := {}               -- [R307]
  cands : Tbl Candidate := []     -- [R296] candidates 0 to 3
  chosen : Option Nat := none     -- [R307] MASTER, index of the chosen candidate
  upBound : Bound := 0xFFFFFFFF   -- [R307] 32-bit UPSTREAM_BOUND of the last event
  exchanges : Nat := 0            -- [R307] 32-bit counter
  authFail : Nat := 0             -- [R307] 32-bit counter
  grantsDenied : Nat := 0         -- [R307] 32-bit counter
  masterChanges : Nat := 0        -- [R307] 32-bit counter
  pendingSync : Option (Nat × Int × FieldTime × Option Nat × Nat) := none  -- [R297] two-step Sync waiting for Follow_Up: seq, correction, t2, bound TLV, ns of `now`
  lastSync : Option (Int × Option Nat) := none   -- [R297] t2 − t1 of the last Sync (2^-32 ns) and its bound TLV
  delayReqSeq : Nat := 0          -- [R297] sequenceId of the next Delay_Req
  delayReqOut : Option (Nat × FieldTime) := none -- [R297] Delay_Req awaiting its Delay_Resp: seq and t3
  lastDelay : Option (Int × Option Nat × Nat) := none  -- [R297] t4 − t3 of the last exchange (2^-32 ns), bound TLV, ns of `now`
  deriving DecidableEq, Repr

/-- A SVC_CLIENT_REMOVE whose tasks are not all done (R283, R300). -/
structure Removal where
  id : Nat := 0                   -- [R300] the held command
  left : Nat := 0                 -- [R310] tasks still to run
  removed : Nat := 0              -- [R304] entries removed so far
  deriving DecidableEq, Repr

/-- The packet service. -/
structure Svc where
  prof : Tbl Prof := []           -- [R301] ports 0 to 15
  dom : Tbl Dom := []             -- [R302] outbound domains 0 to 7
  limits : LimitsCfg := {}        -- [R306]
  up : Tbl Up := []               -- [R307] A (0) and B (1)
  granary : Tbl Entry := []       -- [R279] 1,048,576 entries
  buckets : Tbl Bucket := []      -- [R294] 131,072 buckets
  ntpExchanges : Nat := 0         -- [R295] NTP and NTS exchanges counted for SAMPLE_LOG (service domain 8)
  sigSeq : Nat := 0               -- [R277] sequenceId of the next signalling message (16 bits)
  removals : List Removal := []   -- [R300] SVC_CLIENT_REMOVE commands whose tasks run
  touched : Nat := 0             -- the model's own count of client-table changes and superseded reports that raise G (R283, R289)
  hashKey : Nat := 0              -- [R279] the hash keys drawn at this reset, as the number of the draw !D a draw has no value before the release from reset
  deriving DecidableEq, Repr

end Sys2Proof.Machine
end

