-- ==== Sys2Proof/Machine/StateEng.lean ====
section
/-! DEFINITION. State of the sower engines: images, threads, tasks, input queues, placement, fallowing and the stall
census (spec/12_sower_engines.md). -/

namespace Sys2Proof.Machine
open Sys2Proof

/-- A message the transmit scheduler makes due (R309). -/
inductive SchedKey where
  | unicast (key : GKey) (kind : GrantKind)
  | multicast (domain port : Nat) (kind : GrantKind)
  | followUp (sync : TxFrame)
  deriving DecidableEq, Repr

/-- A command that runs as tasks (R283, R309): the entry to add; the mode, key and tenant of those to remove. -/
inductive ClientCmd where
  | add (e : Entry)
  | remove (mode : Nat) (key : GKey) (tenant : Nat)
  deriving DecidableEq, Repr

/-- What a task works on (R309). -/
inductive TaskMsg where
  | rx (port : Nat) (svcDomain : Nat) (rxTime : FieldTime) (rxBound : Bound) (frame : RxFrame)
  | sched (key : SchedKey)
  | cmd (id : Nat) (c : ClientCmd)
  deriving DecidableEq, Repr

/-- A wait of a thread (R313, R314). -/
structure Wait where
  cls : Nat := 7                  -- [R313] event class code 0x0 to 0x9
  since : Nat := 0                -- [R316] ns of `now` at which the wait began
  deadline : Nat := 0             -- [R314] ns of `now`
  deriving DecidableEq, Repr

/-- A task in flight (R309 to R315). -/
structure Task where
  msg : TaskMsg := .sched (.multicast 0 0 .sync)  -- [R309] what it works on
  bucket : Nat := 0               -- [R310] flow bucket 0 to 65,535
  port : Nat := 0                 -- [R311] the port whose transmit buffer's credit it reserved
  credit : Nat := 0               -- [R311] output credit still reserved, 64-byte units
  desc : Option Nat := none       -- [R405] the transmit queue in which it holds a descriptor
  admitted : Nat := 0             -- [R315] ns of `now` at admission
  counted : Nat := 0              -- [R521] ns of `now` up to which its time is counted
  tag : Nat := 0                  -- [R315] number that marks its queued frames and records
  ntsSlot : Option (Nat × Nat) := none     -- [R344] the CURRENT NTS slot at its admission and its GENERATION
  done : Bool := false            -- [R309] its message has been handled
  deriving DecidableEq, Repr

/-- One hardware thread. -/
structure Thread where
  task : Option Task := none      -- [R309] the task it holds
  wait : Option Wait := none      -- [R313] the wait it is in
  internalSince : Nat := 0        -- [R316] ns of `now` at which it last entered the idle-or-internal-wait state
  late : List Nat := []           -- [R314] classes of waits that ended with TIMEOUT and whose events have not come
  deriving DecidableEq, Repr

/-- What the model keeps of a sower image (R318, R321). -/
structure SowerImage where
  version : Nat := 0              -- [R327] 32-bit version !D no rule states the version in the S-tile boot image; from the S tile's start it is that of the running boot image
  stateFormat : Nat := 0          -- [R321] state-format number !D no rule states that of the boot image
  svn : Nat := 0                  -- [R318] security version !D no rule states that of the boot image
  digest : List Byte := []        -- [R482] SHA-384 of the image !D no rule states that of the boot image
  deriving DecidableEq, Repr

/-- A message waiting for admission. -/
structure Waiting where
  msg : TaskMsg := .sched (.multicast 0 0 .sync)  -- [R311] the message
  bucket : Nat := 0               -- [R310] its bucket
  deriving DecidableEq, Repr

/-- One engine. -/
structure Engine where
  state : Nat := 2                -- [R327] STATE: 0 FALLOW, 1 WAKING, 2 RUNNING, 3 SWITCHING, 4 RESTARTING !D no rule states which clusters are awake at reset
  bank : Nat := 0                 -- [R327] BANK
  image : SowerImage := {}        -- [R308] image of the active bank
  other : Option SowerImage := none        -- [R308, R319] image of the other bank
  threads : Tbl Thread := []      -- [R308] eight threads
  input : List Waiting := []      -- [R311] the engine's input queue, oldest first
  completed : Nat := 0            -- [R327] 32-bit COMPLETED, saturating
  longest : Nat := 0              -- [R327] 32-bit LONGEST, ns
  deriving DecidableEq, Repr

/-- One pin of ENG_PLACEMENT_POLICY (R330). -/
structure Pin where
  first : Nat := 0                -- [R330] 16-bit FIRST
  count : Nat := 1                -- [R330] COUNT
  engine : Nat := 0               -- [R330] 8-bit ENGINE
  deriving DecidableEq, Repr

/-- The placement policy (R330). -/
structure PlaceCfg where
  rebalance : Bool := true        -- [R330] FLAGS bit 0 REBALANCE
  minAwake : Nat := 2             -- [R330] 8-bit MIN_AWAKE
  pinnedAwake : Nat := 0          -- [R330] 16-bit PINNED_AWAKE
  pins : List Pin := []           -- [R330] up to 32 pins
  deriving DecidableEq, Repr

/-- The staging area of PROG_STAGE (R318, R328). -/
structure Staging where
  total : Nat := 0                -- [R328] 32-bit TOTAL
  bytes : List Byte := []         -- [R318] fragments received so far, at most 24 KiB
  verified : Option SowerImage := none     -- [R318] the verified staged image
  deriving DecidableEq, Repr

/-- One cluster of eight engines (R325, R345). -/
structure Cluster where
  wakeAt : Option Nat := none     -- [R325] ns of `now` at which a wake began
  fallowing : Bool := false       -- [R325] it moves its buckets out before it goes fallow
  deriving DecidableEq, Repr

/-- The sower engines. -/
structure Eng where
  engines : Tbl Engine := []      -- [R308] engines 0 to 95
  clusters : Tbl Cluster := []    -- [R308] clusters 0 to 11
  placement : Tbl Nat := []       -- [R310] bucket 0 to 65,535 to engine; a bucket not listed is on engine bucket mod 96 !D no rule states the placement at reset
  moving : Tbl Nat := []          -- [R322] buckets on the move and the engine each goes to (stored plus 1)
  policy : PlaceCfg := {}         -- [R330]
  policyHeld : Option Nat := none -- [R330] the held ENG_PLACEMENT_POLICY command
  active : SowerImage := {}       -- [R327] ACTIVE_VERSION's image
  staging : Staging := {}         -- [R318]
  activation : Option SowerImage := none   -- [R319] the image an activation in progress switches to
  restarting : Option Nat := none -- [R317] ns of `now` at which the restart began
  loadUnmet : Bool := false       -- [R325, R327] FALLOW_TARGET_UNMET because load needs more clusters
  floorUnmet : Bool := false      -- [R325, R327] FALLOW_TARGET_UNMET because the floor and the pins keep clusters awake
  placementUnmet : Bool := false  -- [R327] PLACEMENT_TARGET_UNMET
  deadlocks : Nat := 0            -- [R327] 32-bit counter
  deadlockDrops : Nat := 0        -- [R327] 32-bit counter
  admitDrops : Nat := 0           -- [R327] 32-bit counter
  inputDrops : Nat := 0           -- [R327] 32-bit counter
  taskAborts : Nat := 0           -- [R327] 32-bit counter
  waitTimeouts : Nat := 0         -- [R327] 32-bit counter
  lateEvents : Nat := 0           -- [R327] 32-bit counter
  bucketMoves : Nat := 0          -- [R327] 32-bit counter
  fallowUnmetMs : Nat := 0        -- [R327] 32-bit counter
  placementUnmetMs : Nat := 0     -- [R327] 32-bit counter
  censusTick : Nat := 0           -- [R331] 64-bit SAMPLE_TICK
  censusLongest : Nat := 0        -- [R331] 32-bit LONGEST_INTERNAL
  censusIdle : Nat := 0           -- [R331] 16-bit IDLE
  censusWaiting : List Nat := []  -- [R331] 120 × 8-bit WAITING[c][k] (empty until the first sample)
  lastDeadlock : Nat := 0         -- [R331] 64-bit LAST_DEADLOCK
  sched : List (SchedKey × Nat) := []      -- [R309] transmit scheduler: ns of `now` of each message's last due instant
  loopAt : Nat := 0               -- [R26, R323] ns of `now` at which the rebalancing loop last ran
  nextTag : Nat := 1              -- the model's own count that marks tasks
  deriving DecidableEq, Repr

end Sys2Proof.Machine
end

