-- ==== Sys2Proof/Machine/StateOsc.lean ====
section
/-! DEFINITION. State of the oscillator ensemble, holdover, the bound computer, the sealed event log
(spec/07_holdover_ensemble.md, spec/08_bound_traceability_seal.md). -/

namespace Sys2Proof.Machine
open Sys2Proof

/-- A member's OSC_CONFIG record (R179), sealed. A field still at `none` has the default of R163 or R179 for the member. -/
structure OscCfg where
  enable : Option Bool := none    -- [R179] FLAGS bit 0; default 1 for OSC0, 0 otherwise
  cls : Option Nat := none        -- [R179] 8-bit CLASS; default under R163
  tempSource : Nat := 1           -- [R179] 8-bit TEMP_SOURCE
  i2cAddr : Option Nat := none    -- [R179] 8-bit I2C_ADDR; default 0x48 + OSC
  i2cReg : Nat := 0               -- [R179] 8-bit I2C_REG
  format : Nat := 2               -- [R179] 8-bit SENSOR_FORMAT
  tempUnc : Nat := 64             -- [R179] 16-bit TEMP_UNC
  rangeLo : Int := -5120          -- [R179] 16-bit TEMP_RANGE_LO
  rangeHi : Int := 10880          -- [R179] 16-bit TEMP_RANGE_HI
  deriving DecidableEq, Repr

/-- The ensemble record of OSC_CONFIG index 0xFF (R179). -/
structure EnsCfg where
  horizon : Nat := 16             -- [R179] 8-bit HORIZON, sealed
  i2cSpeed : Nat := 1             -- [R179] 8-bit I2C_SPEED
  rejoin : Nat := 1               -- [R179] 8-bit REJOIN, units of 1,024 s, sealed
  spec : Bound := 0xFA00          -- [R179] 32-bit HOLDOVER_SPEC
  holdAvg : Nat := 60             -- [R179] 16-bit HOLD_AVG, s, sealed
  holdGuard : Nat := 10           -- [R179] 16-bit HOLD_GUARD, s, sealed
  deriving DecidableEq, Repr

/-- A holdover model of one member (R170, R181). -/
structure Model where
  valid : Bool := false           -- [R181] FLAGS bit 0
  ageFit : Bool := false          -- [R181] FLAGS bit 1
  tempFit : Bool := false         -- [R181] FLAGS bit 2
  override : Bool := false        -- [R181] FLAGS bit 3
  sigmaMeas : Bool := false       -- [R181] FLAGS bit 4
  samples : Nat := 0              -- [R181] 16-bit SAMPLES
  freq : Freq := 0                -- [R181] 64-bit FREQ
  freqHw : Option Freq := none    -- [R181] 64-bit FREQ_HW; none: the accepted offset of R163 (R171)
  ageing : Freq := 0              -- [R181] 64-bit AGEING
  ageingHw : Option Freq := none  -- [R181] 64-bit AGEING_HW; none: the class default of R166 (R171)
  tempco : Freq := 0              -- [R181] 64-bit TEMPCO
  tempcoHw : Option Freq := none  -- [R181] 64-bit TEMPCO_HW; none: the class default of R166 (R171)
  tRef : Int := 0                 -- [R181] 16-bit T_REF !D no reading behind a model that has no fit
  epoch : Nat := 0                -- [R181] 64-bit EPOCH, field-time second !D no fit yet
  deriving DecidableEq, Repr

/-- A learning sample (R171). -/
structure LearnSample where
  endSec : Nat := 0               -- [R171] field-time second at which its 256 s interval ended
  y : Freq := 0                   -- [R171] mean y over the interval
  temp : Option Int := none       -- [R171] mean temperature
  deriving DecidableEq, Repr

/-- Ensemble membership (R164). -/
inductive MemberState where
  | disabled | absent | joining | active | excluded
  deriving DecidableEq, Repr

/-- An oscillator's temperature sensor (R172, R173). -/
structure Sensor where
  valid : Bool := false           -- [R173] invalid from module reset
  good : Nat := 0                 -- [R173] consecutive good reads
  bad : Nat := 0                  -- [R173] consecutive failed reads
  last : Option Int := none       -- [R173] last valid temperature since reset
  fails : Nat := 0                -- [R180] 16-bit SENSOR_FAIL, saturating
  deriving DecidableEq, Repr

/-- An ensemble member OSC0 to OSC3. -/
structure Member where
  cfg : OscCfg := {}              -- [R179]
  state : MemberState := .absent  -- [R164] DISABLED when ENABLE is clear
  presentSince : Option Nat := none -- [R164] ns of `now` since when an ABSENT member has been present
  joinEnd : Nat := 0              -- [R164] ns of `now` at which REJOIN ends
  outlier : Nat := 0              -- [R180] 16-bit OUTLIER_COUNT, saturating
  losses : Nat := 0               -- [R180] 32-bit LOSS_COUNT, saturating
  m : Freq := 0                   -- [R165] m_i over the last 1 ms
  mark : Option (Nat × Int) := none -- [R164] phase origin: its counted cycles and the instant (fifths of an interval LSB) at the last computation
  mSum : Int := 0                 -- [R180] sum of m_i over the running second
  mCount : Nat := 0               -- [R180] values in that sum
  mAvg : Freq := 0                -- [R180] 64-bit MEASURED
  yhat : Freq := 0                -- [R180] 64-bit PREDICTED
  w : Nat := 0                    -- [R167] weight, numerator over the ensemble's denominator
  eSum : Int := 0                 -- [R169] sum of e_i over the running 1,024 s interval
  eCount : Nat := 0               -- [R169] computations in that sum
  ePassed : Freq := 0             -- [R168] mean e_i of the last interval in which it passed the test
  ys : List Freq := []            -- [R166] 1 s frequency values taken under the learning conditions, newest first
  sensor : Sensor := {}           -- [R173]
  inForce : Model := {}           -- [R181] the model in force
  learned : Model := {}           -- [R181] the latest learned fit
  samples : List LearnSample := [] -- [R171] samples held, newest first
  ySum : Int := 0                 -- [R171] sum of y over the running 256 s interval
  yCount : Nat := 0               -- [R171] values in that sum
  tSum : Int := 0                 -- [R171] sum of temperatures over the running 256 s interval
  tCount : Nat := 0               -- [R171] values in that sum
  secClean : Bool := false        -- [R166] the learning conditions have held throughout the running second
  written : List Byte := []       -- [R197] the HOLDOVER_MODEL record written last, sealed; empty: none
  clean : Bool := false           -- [R171] the learning conditions have held throughout the interval for this member
  deriving DecidableEq, Repr

/-- The HOLDOVER_LEARN record (R182). -/
structure LearnCfg where
  mode : Nat := 0                 -- [R182] 8-bit MODE, sealed
  lookback : Nat := 7             -- [R182] 16-bit LOOKBACK, days, sealed
  period : Nat := 14              -- [R182] 32-bit LEARN_PERIOD, units of 256 s
  deriving DecidableEq, Repr

/-- One computation's rates, kept for the window of R174 and for H_0 of R190. -/
structure RatePt where
  at_ : FieldTime := 0            -- [R190] field time of the computation
  integ : Freq := 0               -- [R174] DPLL integrator
  rSteer : Freq := 0              -- [R190] r_steer
  bound : Bound := 0xFFFFFFFF     -- [R190] bound reported
  temps : List (Option Int) := [] -- [R191] valid temperature readings of the members
  locked : Bool := false          -- [R174] the M tile was LOCKED
  steered : Option Nat := none    -- [R190] the selected slot, with no freeze in force
  deriving DecidableEq, Repr

/-- Which state ACQUIRING was entered from (R174). -/
inductive AcqFrom where
  | holdover | freeRun | warmUp
  deriving DecidableEq, Repr

/-- M-tile states (R47). -/
inductive MState where
  | cold | mBoot | warmUp | freeRun | acquiring | locked | holdover
  deriving DecidableEq, Repr

/-- One symbol on the oscillator I²C bus (R172): a start or repeated start, a byte with its acknowledgement, a stop. -/
inductive I2cSym where
  | start | byte (v : Nat) (ack : Bool) | stop
  deriving DecidableEq, Repr

/-- The ensemble and holdover. -/
structure Osc where
  members : Tbl Member := []      -- [R163] OSC0 to OSC3
  ens : EnsCfg := {}              -- [R179]
  learn : LearnCfg := {}          -- [R182]
  mState : MState := .cold        -- [R47] M-tile state; COLD at reset
  acqFrom : AcqFrom := .freeRun   -- [R174] where ACQUIRING was entered from !D read only in ACQUIRING
  wDen : Nat := 0                 -- [R167] denominator of the weights
  rEns : Freq := 0                -- [R180] 64-bit R_ENS
  rBias : Freq := 0               -- [R180] 64-bit R_BIAS
  rate : Freq := 0                -- [R165] timescale's rate against the time base, clamped
  rReq : Freq := 0                -- [R191] r before the clamp
  conflict : Bool := false        -- [R180] ENS_CONFLICT
  conflictBy : Nat := 0           -- [R191] |e_i - e_o| of the test that set it
  fromModel : Bool := false       -- [R180] HOLD_FROM_MODEL
  learning : Bool := false        -- [R180] LEARNING
  entryAt : Option FieldTime := none -- [R180] holdover entry instant
  entryNow : Nat := 0             -- [R176] ns of `now` at entry
  frozen : Freq := 0              -- [R174] frozen estimate of the holdover
  count : Nat := 0                -- [R180] 32-bit HOLDOVER_COUNT, saturating
  hist : List RatePt := []        -- [R174] rates of past computations, newest first
  lastFit : Option Nat := none    -- [R182] ns of `now` of the last fit
  fitDemand : Bool := false       -- [R182] ACTION 1 waits for its fit
  rSum : Int := 0                 -- [R166] sum of r over the running second
  secCount : Nat := 0             -- [R180] computations in the running second
  second : Nat := 0               -- [R180] that second of field time
  interval : Nat := 0             -- [R171] number of the running 256 s interval
  test : Nat := 0                 -- [R169] number of the running 1,024 s interval
  tempM : Int := -32768           -- [R170] the M-tile die sensor's sample of the running second; 0x8000 none (R31)
  readSec : Nat := 0              -- [R172] the second in which the last sensor read was made
  readNext : Nat := 0             -- [R172] the least member that may still be read in that second
  i2c : List I2cSym := []         -- [R172] the last sequence on OSC_I2C_SCL and OSC_I2C_SDA
  i2cKhz : Nat := 400             -- [R172] its clock, kHz
  deriving DecidableEq, Repr

/-- The BOUND_PARAMS record (R210), sealed. -/
structure BoundCfg where
  warmTerm : Bound := 0x1900      -- [R210] 32-bit WARMUP_TERM
  warmSlope : Freq := 2814750     -- [R210] 64-bit WARMUP_SLOPE
  deriving DecidableEq, Repr

/-- The terms of the last computation (R209); `none` is unbounded. Interval LSBs, rounded up. -/
structure Terms where
  ref : Option Nat := some 0      -- [R209] 64-bit B_REF
  meas : Option Nat := some 0     -- [R209] 64-bit B_MEAS
  off : Option Nat := some 0      -- [R209] 64-bit B_OFF
  noise : Option Nat := some 0    -- [R209] 64-bit B_NOISE
  step : Option Nat := some 0     -- [R209] 64-bit B_STEP
  entry : Option Nat := some 0    -- [R209] 64-bit B_ENTRY
  growth : Option Nat := some 0   -- [R209] 64-bit G
  warm : Option Nat := some 0     -- [R209] 64-bit B_WARM
  deriving DecidableEq, Repr

/-- The growth integral of a holdover or freeze (R190, R191). -/
structure Growth where
  te : FieldTime := 0             -- [R190] entry instant t_e
  bEntry : Bound := 0xFFFFFFFF    -- [R190] B_entry
  integral : Nat := 0             -- [R190] accumulated part of the integral, 2^-112 ns
  upTo : FieldTime := 0           -- [R190] look-ahead instant it reaches
  lastW : Nat := 0                -- [R190] W at that instant, 2^-80
  h0 : Nat := 0                   -- [R190] H_0, 2^-80
  temps : List (Option Int) := [] -- [R191] T_i(t_e) per member, none when the sensor was not valid
  deriving DecidableEq, Repr

/-- The conditions of a bound (R185). -/
structure BndCond where
  mState : MState := .cold        -- [R185] M-tile state
  selected : Option Nat := none   -- [R185] the selected slot
  frozen : Bool := false          -- [R185] a freeze is in force
  origin : Interval := 0          -- [R188] phase origin of a FREQUENCY slot
  carry : Bound := 0xFFFFFFFF     -- [R186] B_carry of a selected FREQUENCY slot
  stepTerm : Nat := 0             -- [R189] B_step carried until its settle ends, interval LSBs
  timeNotSet : Bool := true       -- [R186] TIME_NOT_SET
  hold : Option Growth := none    -- [R190] growth of the holdover, kept while it can resume (R174)
  freezeG : Option Growth := none -- [R190] growth of the freeze
  deriving DecidableEq, Repr

/-- A step that a discovery may concern (R206). -/
structure Judged where
  slot : Nat := 0                 -- [R206] its slot
  size : Interval := 0            -- [R206] Δ
  effective : FieldTime := 0      -- [R365] its effective marker
  te : FieldTime := 0             -- [R365] t_e of the holdover or freeze it ends
  deriving DecidableEq, Repr

/-- A discovery to be marked (R365). -/
structure MarkDue where
  fromUs : Nat := 0               -- [R365] FROM_US
  toUs : Nat := 0                 -- [R365] TO_US
  excess : Nat := 0               -- [R365] EXCESS
  logSeq : Nat := 0               -- [R365] LOG_SEQ
  deriving DecidableEq, Repr

/-- The bound computer. -/
structure Bnd where
  cfg : BoundCfg := {}            -- [R210]
  bound : Bound := 0xFFFFFFFF     -- [R209] 32-bit BOUND
  clockClass : Nat := 248         -- [R42] 8-bit clockClass
  terms : Terms := {}             -- [R209]
  transition : Bool := false      -- [R209] FLAGS bit 0 TRANSITION
  warmTerm : Bool := true         -- [R209] FLAGS bit 4 WARMUP
  tempInterval : Bool := false    -- [R209] FLAGS bit 2 TEMP_INTERVAL
  cause : Nat := 1                -- [R193] 8-bit UNBOUNDED_CAUSE
  violations : Nat := 0           -- [R209] 32-bit VIOLATIONS, saturating
  hold : Option Growth := none    -- [R190] growth of the holdover, kept while it can resume (R174)
  freezeG : Option Growth := none -- [R190] growth of the freeze
  carry : Bound := 0xFFFFFFFF     -- [R186] B_carry of a selected FREQUENCY slot
  stepTerms : List (Nat × Nat) := []       -- [R189] the B_step of each step, interval LSBs, and ns of `now` at which its settle ends
  marked : Bool := false          -- [R185] an effective marker has fallen since the last computation
  last : BndCond := {}            -- [R185] the conditions after the last computation
  shown : BndCond := {}           -- [R209] the conditions of the bound reported
  stepSince : Interval := 0       -- [R185] steps taken at markers since the last computation
  judged : List Judged := []      -- [R206] steps committed at this computation that a discovery may concern
  found : List MarkDue := []      -- [R365] discoveries whose announcement the S tile has not received yet
  fieldRange : Bool := false      -- [R33] an M-tile result out of the field-time range
  nextComp : FieldTime := 0       -- [R593] field time of the next 1 ms computation
  computations : Nat := 0         -- [R184] computations made since the timescale started
  deriving DecidableEq, Repr

/-- One entry of the sealed event log (R203). -/
structure LogEntry where
  seq : Nat := 0                  -- [R203] 32-bit SEQ
  type : Nat := 0                 -- [R203] 8-bit TYPE
  detail : Nat := 0               -- [R203] 8-bit DETAIL
  id : Nat := 0                   -- [R203] 16-bit ID
  timeUs : Nat := 0               -- [R203] 64-bit TIME_US
  value : Nat := 0                -- [R203] 64-bit VALUE
  hash : List Byte := []          -- [R203] H_n, 48 bytes; CHAIN is its first 8
  deriving DecidableEq, Repr

/-- An event waiting to be written to the log (R205). -/
structure LogWait where
  type : Nat := 0                 -- [R205] 8-bit TYPE
  detail : Nat := 0               -- [R205] 8-bit DETAIL
  id : Nat := 0                   -- [R205] 16-bit ID
  timeUs : Nat := 0               -- [R205] 64-bit TIME_US
  value : Nat := 0                -- [R205] 64-bit VALUE
  deriving DecidableEq, Repr

/-- The sealed event log (R203 to R205). -/
structure EventLog where
  entries : List LogEntry := []   -- [R203] retained entries, newest first, at most 65,536
  anchor : List Byte := []        -- [R203] ANCHOR: H of the entry before the oldest retained; empty: H_0
  head : Option (List Byte) := none -- [R203] H of the head entry; none: H_0
  nextSeq : Nat := 1              -- [R203] SEQ of the next entry !D the first entry follows H_0 and is entry 1
  fault : Bool := false           -- [R205] LOG_FAULT condition: an entry could not be written
  queue : List LogWait := []      -- [R205] 256-entry queue of pending entries, oldest first
  overflow : Bool := false        -- [R205] the queue has overflowed; bound unbounded until reset
  sinceAck : Nat := 0             -- [R205] entries written since the last acknowledgement
  torn : Bool := false            -- [R205] the newest stored entry was torn by power loss
  refuses : Bool := false         -- [R205] the flash cannot be written at present; the LOG_WRITE and LOG_FLUSH rows say when !D no entry has failed
  deriving DecidableEq, Repr

end Sys2Proof.Machine
end

