-- ==== Sys2Proof/Machine/StateEvd.lean ====
section
/-! DEFINITION. State of the evidence sealer and the evidence store (spec/14_evidence_store.md). -/

namespace Sys2Proof.Machine
open Sys2Proof

/-- One record slot of a sheaf (R358). -/
structure EvRec where
  kind : Nat := 0                 -- [R358] 4-bit KIND: 0 FILL, 1 SERVED, 2 VOID, 3 GAP, 4 MARK
  tenant : Nat := 0               -- [R358] 12-bit TENANT
  body : List Byte := []          -- [R358] bytes 2 to 31 as stored (ciphertext for SERVED and VOID)
  pending : Option Nat := none    -- [R362] PENDING: the tag of the task whose report is awaited
  started : Bool := false         -- [R362] its message has started
  draft : Option (List Byte × List Byte) := none  -- [R361] before a one-step Sync's commit: what its plaintext is so far, and its keystream
  deriving DecidableEq, Repr

/-- The state of a sheaf buffer that is not FREE (R369). -/
inductive SheafPhase where
  | filling | closed | sealed | writing
  deriving DecidableEq, Repr

/-- A sheaf (R366). -/
structure Sheaf where
  index : Nat := 0                -- [R370] 64-bit SHEAF_INDEX
  phase : SheafPhase := .filling  -- [R369] buffer state
  close : Nat := 0                -- [R366] CLOSE: 0 full, 1 age, 2 flush, 3 stop
  records : List EvRec := []      -- [R366] up to 4,064 slots in allocation order; FILL slots after the last are not listed
  firstAt : Option Nat := none    -- [R368] ns of `now` of its first allocation
  firstTime : Option FieldTime := none     -- [R366] FIRST_TIME
  lastTime : Option FieldTime := none      -- [R366] LAST_TIME
  header : List Byte := []        -- [R366] the 1,024 header bytes, once sealed
  sealedAt : FieldTime := 0       -- [R366] SEALED_AT
  restart : Bool := false         -- [R366] FLAGS bit 0 RESTART
  deriving DecidableEq, Repr

/-- A drop cause's account (R364). -/
structure DropAcc where
  count : Nat := 0                -- [R364] 64-bit COUNT since the last GAP record
  firstUs : Nat := 0              -- [R364] FIRST_US
  lastUs : Nat := 0               -- [R364] LAST_US
  lastGap : Option Nat := none    -- [R364] ns of `now` of the cause's previous GAP record
  total : Nat := 0                -- [R385] total of the cause, saturating
  deriving DecidableEq, Repr

/-- What a superblock copy holds (R376), and the recorded state (R377). -/
structure Super where
  store : Nat := 0                -- [R376] 64-bit STORE_ID
  ordinal : Nat := 0              -- [R376] the namespace's ordinal
  n : Nat := 0                    -- [R376] n, 1 to 32
  depth : Nat := 0                -- [R376] S
  reserved : Nat := 0             -- [R376] 64-bit RESERVED_UPTO
  running : Bool := false         -- [R377] the recorded state: RUNNING
  retain : Nat := 0               -- [R376] MIN_RETAIN
  hold : Nat := 0xFFFFFFFFFFFFFFFF  -- [R376] HOLD_FROM
  epoch : Nat := 0                -- [R376] RETENTION_EPOCH
  seq : Nat := 0                  -- [R376] write sequence
  deriving DecidableEq, Repr

/-- A superblock copy as it stands on a drive (R376). -/
structure SuperCopy where
  body : Super := {}              -- [R376] its fields
  digest : List Byte := []        -- [R376] its SHA-384 digest
  deriving DecidableEq, Repr

/-- What stands at a sheaf position of a namespace (R373). -/
structure DriveSheaf where
  header : List Byte := []        -- [R373] LBA 0: the header
  low : List EvRec := []          -- [R373] LBA 0: slots 0 to 95
  high : List EvRec := []         -- [R373] LBAs 1 to 31: the slots from 96 on
  deriving DecidableEq, Repr

/-- A discovered namespace (R385). -/
structure Ns where
  ordinal : Option Nat := none    -- [R385] ORDINAL in the store
  nsid : Nat := 0                 -- [R385] 32-bit NSID
  lbas : Nat := 0                 -- [R385] 64-bit LBAS
  serial : Nat := 0               -- [R385] 64-bit CTRL_SERIAL
  lbaBytes : Nat := 4096          -- [R375] LBA size
  metadata : Bool := false        -- [R375] the format carries metadata or protection information
  critical : Bool := false        -- [R385] CRITICAL_WARNING
  mediaErrors : Nat := 0          -- [R385] 32-bit MEDIA_ERRORS
  percent : Nat := 0              -- [R385] 8-bit PERCENT_USED
  copyA : Option SuperCopy := none  -- [R376] the superblock copy at LBA 0; none: the LBA holds no MAGIC
  copyB : Option SuperCopy := none  -- [R376] the superblock copy at LBA 128
  sheaves : Tbl DriveSheaf := []  -- [R371] by starting LBA: what the module has written at its sheaf positions
  deriving DecidableEq, Repr

/-- EVD_STORE_CONFIG (R383). -/
structure EvdCfg where
  flags : Nat := 0                -- [R383] 8-bit FLAGS: FURROW_RECORDS
  furTenant : Nat := 0            -- [R383] 16-bit FURROW_TENANT
  furSample : Nat := 12           -- [R383] 8-bit FURROW_SAMPLE_LOG
  scrubRate : Nat := 1024         -- [R383] 16-bit SCRUB_RATE
  sealAge : Nat := 1000           -- [R383] 32-bit SEAL_AGE, ms
  deriving DecidableEq, Repr

/-- What an operation on the drives does: write LBAs 1 to 31 of a sheaf, or its LBA 0 (R373); write the superblock of a
namespace (R376); read for a command (R387). -/
inductive NvKind where
  | sheaf (index : Nat) (head : Bool)
  | super (ordinal : Nat) (body : Super)
  | read (command index : Nat)
  deriving DecidableEq, Repr

/-- An operation on the drives in progress (R373, R375, R376, R387). -/
structure NvOp where
  kind : NvKind := .read 0 0      -- [R374] what it does
  issued : Bool := false          -- [R374] it is in its namespace's queue pair; else it waits for an entry
  retried : Bool := false         -- [R375] its one retry is used
  since : Nat := 0                -- [R375] ns of `now` at which it was issued
  deriving DecidableEq, Repr

/-- The evidence store. -/
structure Evd where
  cfg : EvdCfg := {}              -- [R383]
  minRetain : Nat := 0            -- [R386] 32-bit MIN_RETAIN, s
  holdFrom : Nat := 0xFFFFFFFFFFFFFFFF  -- [R386] 64-bit HOLD_FROM
  retEpoch : Nat := 0             -- [R379] 32-bit RETENTION_EPOCH
  store : Nat := 0                -- [R385] STATE: 0 UNFORMATTED, 1 STOPPED, 2 RUNNING, 3 FAULT
  storeId : Nat := 0              -- [R377] 64-bit STORE_ID
  stopping : Bool := false        -- [R383] STOP waits for staging to be written
  starting : Bool := false        -- [R382] a START is under way
  ns : List Ns := []              -- [R385] discovered namespaces, at most 62
  away : List Ns := []            -- [R374] drives enumerated before that the last enumeration did not find
  staged : List Sheaf := []       -- [R369] sheaf buffers that are not FREE (of 64), oldest first
  nextIndex : Nat := 0            -- [R370] 64-bit index of the next sheaf to open; NEXT_INDEX is that of the oldest sheaf not sealed
  enumDue : Bool := false         -- [R374] the enumeration of a module reset is due
  reservedUpto : Nat := 0         -- [R370] 64-bit RESERVED_UPTO that every superblock holds
  reserveTo : Nat := 0            -- [R370] the RESERVED_UPTO being written
  recordRunning : Bool := false   -- [R377] the state that the superblocks are to record: RUNNING
  superDue : Bool := false        -- [R376] the superblocks are written again when the write in progress is done
  prevIndex : Option Nat := none  -- [R366] index of the sheaf sealed before, for PREV_INDEX
  prevHash : List Byte := []      -- [R366] its SHEAF_HASH
  restart : Bool := true          -- [R366] the next sheaf carries RESTART
  ops : List NvOp := []           -- [R374] operations on the drives in progress, oldest first
  noStaging : DropAcc := {}       -- [R363] cause 0x01
  noKey : DropAcc := {}           -- [R363] cause 0x02
  announced : Bool := false       -- [R365] a discovery is announced whose log entry is not read yet
  marksDue : List MarkDue := []   -- [R365] announced discoveries not yet marked
  furBouts : Tbl Nat := []        -- [R360] per furrow port: bouts with a bound since the last summary
  served : Nat := 0               -- [R385] 64-bit SERVED_RECORDS
  voids : Nat := 0                -- [R385] 64-bit VOID_RECORDS
  sheaves : Nat := 0              -- [R385] 64-bit SHEAVES_SEALED
  marks : Nat := 0                -- [R385] 64-bit MARKS
  scrubbed : Nat := 0             -- [R385] 64-bit SCRUBBED
  scrubFail : Nat := 0            -- [R385] 64-bit SCRUB_FAIL
  scrubLast : Nat := 0xFFFFFFFFFFFFFFFF  -- [R385] 64-bit SCRUB_LAST_FAIL
  scrubPos : Nat := 0             -- [R380] next ring position to scrub
  scrubAt : Nat := 0              -- [R380] ns of `now` of the last scrub read
  retries : Nat := 0              -- [R385] 64-bit WRITE_RETRIES
  rateSec : Nat := 0              -- [R369] the second of `now` whose records are counted
  rateCount : Nat := 0            -- [R369] records created in that second
  deriving DecidableEq, Repr

end Sys2Proof.Machine
end

