-- ==== Sys2Proof/Machine/StateFur.lean ====
section
/-! DEFINITION. State of the furrow ports: link, calibration, delay filter, mailboxes, status array
(spec/09_furrow_link_protocol.md, spec/10_furrow_port_operation.md). -/

namespace Sys2Proof.Machine
open Sys2Proof

/-- A port's FUR_PORT_CONFIG record (R269); PORT is the index. -/
structure FurCfg where
  enable : Bool := false          -- [R269] FLAGS bit 0
  leaf : Bool := false            -- [R269] FLAGS bit 1
  optical : Bool := false         -- [R269] FLAGS bit 2
  driftUnbound : Bool := false    -- [R269] FLAGS bit 3
  slot : Nat := 0xFF              -- [R269] 8-bit SLOT
  period : Nat := 4               -- [R269] 8-bit BOUT_PERIOD, us
  benLead : Nat := 3              -- [R269] 8-bit BEN_LEAD, 8 ns
  headland : Nat := 4             -- [R269] 16-bit HEADLAND, 16 ns
  mbMax : Nat := 256              -- [R269] 16-bit MB_MAX, bytes
  filterLog2 : Nat := 6           -- [R269] 8-bit FILTER_LOG2
  linkId : Option Nat := none     -- [R269] 32-bit LINK_ID; none: the port number
  maxDelay : Nat := 75            -- [R269] 32-bit MAX_DELAY, ns
  delayGate : Bound := 0x20       -- [R269] 32-bit DELAY_GATE
  driftLimit : Bound := 0x140     -- [R269] 32-bit DRIFT_LIMIT
  calPeriod : Nat := 64           -- [R269] 32-bit CAL_PERIOD, s
  delayRef : Option Interval := none -- [R269] 64-bit DELAY_REF
  boardTx : Interval := 0         -- [R269] 64-bit BOARD_TX_DELAY, sealed
  boardRx : Interval := 0         -- [R269] 64-bit BOARD_RX_DELAY, sealed
  boardUnc : Bound := 0           -- [R269] 32-bit BOARD_UNC, sealed
  deriving DecidableEq, Repr

/-- Port states (R248). -/
inductive PortState where
  | disabled | cal | searching | ranging | serving | listen | tracking | fault
  deriving DecidableEq, Repr

/-- A delay sample held in the filter (R254). -/
structure DelaySample where
  d : Interval := 0               -- [R254] the sample
  lean : Bool := false            -- [R253] rate of its bout
  stale : Bool := false           -- [R257] taken with a STALE record
  deriving DecidableEq, Repr

/-- Internal delays of one rate from an accepted calibration run (R250), 2^-16 ns. -/
structure CalResult where
  tap : Interval := 0             -- [R250] TAP
  loop : Interval := 0            -- [R250] LOOP
  deriving DecidableEq, Repr

/-- A calibration run (R250 to R252). -/
structure CalRun where
  running : Bool := false         -- [R251] a run is in progress
  meas : List Interval := []      -- [R250] measurements k = 0 onwards, in order
  startedAt : Nat := 0            -- [R251] ns of `now` at its start
  initial : Bool := false         -- [R252] a run in CAL
  full : Option CalResult := none -- [R250] last accepted values at full rate
  lean : Option CalResult := none -- [R250] last accepted values at lean rate
  waiting : Option (CalResult × CalResult) := none -- [R253] accepted run waiting for the next bout boundary
  rejectRun : Nat := 0            -- [R252] consecutive rejections
  rejects : Nat := 0              -- [R270] 32-bit CAL_REJECT, saturating
  temp : Int := -32768            -- [R251] F-tile temperature at the last accepted run
  deriving DecidableEq, Repr

/-- A mailbox TLV waiting for its acknowledgement (R233, R234). -/
structure MbTlv where
  channel : Nat := 0              -- [R233] 8-bit CHANNEL
  first : Bool := false           -- [R233] FLAGS bit 0
  last : Bool := false            -- [R233] FLAGS bit 1
  seq : Nat := 0                  -- [R233] 16-bit SEQ
  data : List Byte := []          -- [R233] DATA
  sent : Option Nat := none       -- [R234] bout number when last sent
  was : Bool := false             -- [R234] it has been sent at least once
  deriving DecidableEq, Repr

/-- A mailbox message (R259, R260). -/
structure MbMsg where
  channel : Nat := 0              -- [R273] 8-bit CHANNEL
  data : List Byte := []          -- [R259] 1 to 1,984 bytes
  deriving DecidableEq, Repr

/-- A port's mailbox (R234, R259, R260). -/
structure Mailbox where
  txLens : List Nat := []         -- [R259] lengths of the outbound messages not fully acknowledged, oldest first
  tx : List MbTlv := []           -- [R234] TLVs not yet acknowledged, in order; unsent ones have `sent` none
  txSeq : Nat := 0                -- [R234] 16-bit SEQ of the next TLV
  rxSeq : Option Nat := none      -- [R234] last accepted SEQ; none after enable
  ackDue : Bool := false          -- [R234] an acknowledgement waits to be sent
  asm : Option MbMsg := none      -- [R260] message in assembly
  rx : List MbMsg := []           -- [R260] complete messages, oldest first, at most four
  delivered : Nat := 0            -- [R270] 32-bit TX_DELIVERED
  messages : Nat := 0             -- [R270] 32-bit RX_MESSAGES
  discards : Nat := 0             -- [R270] 32-bit MB_DISCARD
  deriving DecidableEq, Repr

/-- A downstream burst as built (R225, R226). -/
structure Burst where
  epoch : Nat := 0                -- [R221] microseconds of field time of its bout epoch
  bytes : List Byte := []         -- [R225] frame, tag and CRC
  skip : Bool := false            -- [R225] UPSTREAM_SKIP
  nextLean : Bool := false        -- [R225] NEXT_LEAN
  bout : Nat := 0                 -- [R225] 48-bit BOUT
  keyIndex : Nat := 0             -- [R225] KEY_INDEX
  turn : Nat := 0                 -- [R225] TURNAROUND
  lean : Bool := false            -- [R225] RATE
  bound : Bound := 0xFFFFFFFF     -- [R225] BOUND
  seqs : List Nat := []           -- [R259] SEQ of the MAILBOX TLVs it carries
  acks : Option Nat := none       -- [R234] ACK_SEQ of the MB_ACK it carries
  mail : List Byte := []          -- [R229] its MB_ACK and MAILBOX TLVs
  keyed : Bool := false           -- [R342] a key exists for its tag
  claim : Nat := 0                -- [R226] the claim word in force 1 us before the epoch
  src : Replica := {}             -- [R226] the replica that its contents come from
  ann : Option StepAnn := none    -- [R226] the announcement it carries
  deriving DecidableEq, Repr

/-- What a leaf keeps of a downstream burst that passed its checks (R237, R246). -/
structure LeafRx where
  time : FieldTime := 0           -- [R225] TIME
  claim : Nat := 0                -- [R225] CLAIM
  delay : Option Interval := none -- [R225] DELAY
  bound : Bound := 0xFFFFFFFF     -- [R225] BOUND
  linkId : Nat := 0               -- [R225] LINK_ID
  arr : Int := 0                  -- [R262] t_arr - T_RX on the timescale, 2^-32 ns
  lean : Bool := false            -- [R225] RATE
  hops : Nat := 0                 -- [R230] HOPS
  originId : Nat := 0             -- [R231] ORIGIN_ID
  utcOffset : Int := 0            -- [R230] UTC_OFFSET
  utcValid : Bool := false        -- [R230] UTC_VALID
  leap61 : Bool := false          -- [R230] LEAP61
  leap59 : Bool := false          -- [R230] LEAP59
  step : Option (Interval × FieldTime) := none     -- [R232] STEP_ANNOUNCE
  answered : Bool := false        -- [R242] passed checks 1 to 5; to be answered
  ok : Bool := false              -- [R237] passed all seven checks
  bout : Nat := 0                 -- [R225] BOUT
  keyIndex : Nat := 0             -- [R225] KEY_INDEX
  turnaround : Nat := 0           -- [R225] TURNAROUND, symbols
  skip : Bool := false            -- [R225] UPSTREAM_SKIP
  echo : Bool := false            -- [R225] ECHO_REQ
  stale : Bool := false           -- [R59] STALE of the record of its timing edge
  timed : Bool := false           -- [R227] the interpolator timed its edge
  launched : Bool := false        -- [R242] the upstream burst has been launched
  decided : Bool := false         -- [R246] the leaf has decided which burst it accepts
  deriving DecidableEq, Repr

/-- What the leaf reported (R227, R266). -/
structure LeafRep where
  state : Nat := 0                -- [R266] 8-bit LEAF_STATE
  claim : Nat := 0                -- [R266] 8-bit ACCEPTED_CLAIM
  alarms : Nat := 0               -- [R266] 16-bit LEAF_ALARMS
  turn : Interval := 0            -- [R266] FUR_ST_TURN
  freq : Option Freq := none      -- [R227] LEAF_FREQ
  temp : Int := -32768            -- [R227] LEAF_TEMP
  deriving DecidableEq, Repr

/-- Error counters of a port (R237, R266), each 16 bits, saturating. -/
structure FurErr where
  code : Nat := 0                 -- [R266] CODE_ERR
  crc : Nat := 0                  -- [R266] CRC_ERR
  format : Nat := 0               -- [R266] FORMAT_ERR
  auth : Nat := 0                 -- [R266] AUTH_ERR
  link : Nat := 0                 -- [R266] LINK_ERR
  replay : Nat := 0               -- [R266] REPLAY
  delayReject : Nat := 0          -- [R266] DELAY_REJECT
  delayJumps : Nat := 0           -- [R266] DELAY_JUMPS
  deriving DecidableEq, Repr

/-- A port's running state beside its configuration. -/
structure FurRun where
  state : PortState := .disabled  -- [R267] STATE
  lean : Bool := false            -- [R267] RATE of the last bout
  nextLean : Bool := false        -- [R267] NEXT_LEAN of the last burst
  targetUnmet : Bool := false     -- [R267] TARGET_UNMET
  drift : Bool := false           -- [R267] DRIFT condition
  calFault : Bool := false        -- [R267] port in FAULT under R252 or R69
  ref : Option Interval := none   -- [R256] DELAY_REF in force
  delay : Option Interval := none -- [R266] DELAY
  bound : Bound := 0xFFFFFFFF     -- [R266] BOUND last sent, or last accepted in leaf mode
  term : Bound := 0               -- [R266] furrow term
  deriving DecidableEq, Repr

/-- One furrow port. -/
structure FurPort where
  cfg : FurCfg := {}              -- [R269] record in force
  cfgNext : Option FurCfg := none -- [R269] written record, effective at the next bout boundary
  floor : Nat := 0                -- [R258] FLOOR
  ceiling : Nat := 1              -- [R258] CEILING
  st : FurRun := {}               -- [R267]
  bout : Nat := 0                 -- [R225] 48-bit BOUT of the next bout
  lastBout : Nat := 0             -- [R266] BOUT of the last bout sent or answered
  lastEpoch : Option Nat := none  -- [R224] microseconds of field time of the bout in progress
  lastEpochAt : Nat := 0          -- [R224] ns of `now` at that epoch
  built : Option Burst := none    -- [R226] burst built for the next epoch
  sent : Option Burst := none     -- [R239] burst of the bout in progress, answered or to be answered
  launch : Int := 0               -- [R239] t_L on the time base, 2^-16 ns
  dark : Option Nat := none       -- [R224] microseconds of field time of the last dark epoch
  idle : Nat := 0                 -- [R244] consecutive completed bouts without mailbox traffic
  traffic : Bool := false         -- [R244] the bout in progress has had mailbox traffic
  wantLean : Bool := false        -- [R244] the rate target is lean
  sampled : Bool := false         -- [R248] the bout in progress has given a sample (head end) or an accepted burst (leaf)
  noPass : Nat := 0               -- [R238] consecutive bouts without a burst that passes all checks (leaf)
  filter : List DelaySample := [] -- [R254] accepted samples, newest first
  rejectRun : Nat := 0            -- [R255] consecutive valid but rejected samples
  noSample : Nat := 0             -- [R248] consecutive bouts without a delay sample
  noAccept : Nat := 0             -- [R248] consecutive bouts without an accepted burst (leaf)
  boutsSinceCal : Nat := 0        -- [R251] bouts since the last in-service measurement
  cal : CalRun := {}              -- [R250]
  mb : Mailbox := {}              -- [R259]
  err : FurErr := {}              -- [R266]
  leaf : LeafRep := {}            -- [R266]
  last : Option Nat := none       -- [R238] LAST of a leaf-mode port
  rx : Option LeafRx := none      -- [R237] burst of the present bout at a leaf-mode port
  accepted : Nat := 0             -- [R246] CLAIM of the burst accepted in the latest decided bout
  deriving DecidableEq, Repr

/-- A burst that a port puts on the line (R215, R216). Instants stand on the time base, 2^-16 ns. -/
structure LineBurst where
  groups : List Nat := []         -- [R216] its code groups
  at_ : Int := 0                  -- [R221] its first preamble symbol at the reference plane
  lean : Bool := false            -- [R216] it runs at lean rate
  rise : Int := 0                 -- [R215] FURnnnn_BEN rises for it
  fall : Int := 0                 -- [R215] FURnnnn_BEN falls after it
  deriving DecidableEq, Repr

/-- Leaf decision state and links of a port kept apart from FurPort (R246, R341). -/
structure FurAux where
  acceptedLink : Bool := false    -- [R246] this link's burst was accepted in the previous bout
  prevAuthFail : Bool := false    -- [R227] PREV_AUTH_FAIL due in the next upstream burst
  prevMissed : Bool := false      -- [R227] PREV_MISSED due in the next upstream burst
  seen : Bool := false            -- [R227] the bout in progress has brought a downstream burst, whatever its checks
  lines : List LineBurst := []    -- [R216] the last bursts put on the line, oldest first, at most three
  calDue : Bool := false          -- [R251] a calibration burst of the bout in progress waits to be timed
  decided : Bool := false         -- [R246] the leaf's decision on the bout in progress is complete
  expect : Option (FieldTime × Int) := none -- [R241] TIME that the leaf predicts for the next burst, and its expected t_arr - T_RX on the leaf's timescale, 2^-32 ns
  arrive : Option (Int × Int) := none       -- [R67] expected arrival window, widened by 200 ns on each side, on the time base, 2^-16 ns
  turnUsed : Interval := 0        -- [R263] TURN_USED last sent
  upFrame : List Byte := []       -- [R227] upstream frame last launched
  record : List Byte := []        -- [R266] 64-byte record as last rewritten; empty until the first rewrite: the reset values
  unmetMs : Nat := 0              -- [R26] ms of target unmet
  deriving DecidableEq, Repr

/-- The furrow tiles. -/
structure Fur where
  ports : Tbl FurPort := []       -- [R248] ports 0 to 1023
  aux : Tbl FurAux := []          -- [R246]
  tileTemp : Tbl Int := []        -- [R251] die temperature of F0 to F3 (default 0x8000, no reading)
  rewriteMs : Nat := 0            -- [R265] millisecond of field time of the last rewrite
  upd : Nat := 0                  -- [R267] 4-bit UPD
  slotFreqs : Tbl (Option Freq) := [] -- [R263] FREQ_OFFSET of slots 11 to 18 as the tiles last read it over the mailbox
  policyWait : List (Nat × Nat × Nat × List Nat) := []  -- [R271] FUR_RATE_POLICY commands held: id, FIRST, COUNT, ports still to pass a boundary
  deriving DecidableEq, Repr

end Sys2Proof.Machine
end

