-- ==== Sys2Proof/Machine/StateKcp.lean ====
section
/-! DEFINITION. State of the command protocol: rings, command slots, the relay queue and mailbox, the sideband, SPDM and
the state generations (spec/19_command_protocol.md, R16). -/

namespace Sys2Proof.Machine
open Sys2Proof

/-- One host ring pair (R472 to R474). Indices are 16-bit. -/
structure Ring where
  sqBase : Nat := 0               -- [R472] 64-bit CMD_SQ_BASE
  cqBase : Nat := 0               -- [R472] 64-bit CMD_CQ_BASE
  shadow : Nat := 0               -- [R472] 64-bit CMD_SHADOW
  enable : Bool := false          -- [R473] ENABLE
  log2 : Nat := 0                 -- [R473] 4-bit LOG2_DEPTH
  cls : Option Nat := none        -- [R473] CLASS once written; none reads as CLASS_MAX
  lock : Bool := false            -- [R473] CLASS_LOCK
  vector : Nat := 0               -- [R473] 8-bit VECTOR
  quiesced : Bool := true         -- [R474] QUIESCED
  sqErr : Bool := false           -- [R474] SQ_DMA_ERR
  cqErr : Bool := false           -- [R474] CQ_DMA_ERR
  badBell : Bool := false         -- [R474] BAD_DOORBELL
  cqFull : Bool := false          -- [R474] CQ_FULL
  cfgErr : Bool := false          -- [R474] CFG_ERR
  sqTail : Nat := 0               -- [R472] CMD_SQ_TAIL
  sqHead : Nat := 0               -- [R472] CMD_SQ_HEAD
  cqTail : Nat := 0               -- [R472] CMD_CQ_TAIL
  cqHead : Nat := 0               -- [R472] CMD_CQ_HEAD
  deriving DecidableEq, Repr

/-- How far an accepted command has come (R16, R477, R484). -/
inductive Phase where
  | accepted
  | relayQueue
  | mailbox
  | waiting
  | background
  | held
  deriving DecidableEq, Repr

/-- An accepted command in its slot (R477). -/
structure Cmd where
  id : Nat := 0                   -- the model's own number of the command
  opcode : Nat := 0               -- [R469] 16-bit OPCODE
  req : Request := ⟨.sideband, 0, 0, 0, 0, []⟩  -- [R469] the request
  phase : Phase := .accepted      -- [R484] how far it has come
  since : Nat := 0                -- [R491] ns of `now` at which it entered the phase
  first : Nat := 0                -- [R491] ns of `now` at which it was first in its group's order
  answered : Bool := false        -- [R16] PENDING has been answered
  accAt : Nat := 0                -- [R160] ns of `now` at acceptance
  accGen : Nat := 0               -- [R488] 64-bit G at acceptance
  lost : Bool := false            -- [R476] its link or session has ended since: its reply is discarded
  deriving DecidableEq, Repr

/-- A reply waiting for delivery (R469, R475). -/
structure Reply where
  id : Nat := 0                   -- the model's own number of its command
  src : Source := .sideband       -- [R471] the master it goes to
  opcode : Nat := 0               -- [R469] 16-bit OPCODE, echoed
  tag : Nat := 0                  -- [R469] 16-bit TAG, echoed
  status : Nat := 0               -- [R489] 8-bit STATUS
  detail : Nat := 0               -- [R489] 8-bit DETAIL
  gen : Nat := 0                  -- [R488] 64-bit GEN_AFTER
  payload : List Byte := []       -- [R469] up to 4,080 bytes
  builtAt : Nat := 0              -- [R479] ns of `now` at which it was built
  deriving DecidableEq, Repr

/-- An MCTP request message in assembly or awaiting acceptance (R479). -/
structure Assembly where
  tag : Nat := 0                  -- [R479] 3-bit message tag
  seq : Nat := 0                  -- [R479] 2-bit packet sequence expected next
  bytes : List Byte := []         -- [R479] bytes received
  complete : Bool := false        -- [R479] EOM received; awaits acceptance
  lastAt : Nat := 0               -- [R479] ns of `now` of its last packet
  deriving DecidableEq, Repr

/-- SPDM on one transport (R481, R483). -/
structure Spdm where
  version : Bool := false         -- [R481] GET_VERSION answered
  caps : Bool := false            -- [R481] GET_CAPABILITIES answered
  algos : Bool := false           -- [R481] NEGOTIATE_ALGORITHMS answered
  keyed : Bool := false           -- [R481] KEY_EXCHANGE answered, FINISH awaited
  session : Bool := false         -- [R483] a session is open
  mutual_ : Bool := false         -- [R483] mutual authentication to OWNER_SB_ROOT
  heard : Nat := 0                -- [R483] ns of `now` of the last heartbeat or message of the session
  keyUpdates : Nat := 0           -- [R481] KEY_UPDATEs of the session
  lastReply : Option Nat := none  -- [R481] number of the last request answered (R481's order), 0 GET_VERSION
  lastBytes : List Byte := []     -- [R482] body of the last response the spec fixes (measurement digests)
  deriving DecidableEq, Repr

/-- The capture of a SNAPSHOT that has not been answered (R50, R496). -/
structure Snap where
  id : Nat := 0                   -- [R50] the command
  gen : Nat := 0                  -- [R50] 64-bit G at the capture
  payload : List Byte := []       -- [R496] the reply's bytes
  deriving DecidableEq, Repr

/-- The command processor. -/
structure Kcp where
  rings : Tbl Ring := []          -- [R472] ring pairs 0 to 7
  slots : List Cmd := []          -- [R477] commands in the 32 command slots, in order of acceptance
  replies : List Reply := []      -- [R475] replies built and not yet delivered, in order
  nextId : Nat := 1               -- the model's own count of commands
  turn : Nat := 0                 -- [R477] source whose turn is next: rings 0 to 7, 8 sideband
  g : Nat := 0                    -- [R486] 64-bit state generation G
  gg : Tbl Nat := []              -- [R487] group generations GG[0x00] to GG[0x11]
  metroGen : Nat := 0             -- [R486] M-tile metrology generation
  mbServed : Nat := 0             -- [R16] ns of Nuheif time used in the present 1 ms interval
  mbInterval : Nat := 0           -- [R16] field time of the boundary that ends that interval (number of the ms before the bound computer runs)
  snaps : List Snap := []         -- [R50] captures taken and not yet answered
  eid : Option Nat := none        -- [R478] endpoint ID, once assigned
  assembly : List Assembly := []  -- [R479] at most two request messages
  sbDiscards : Nat := 0           -- [R493] 16-bit SB_DISCARDS
  sbReplyLost : Nat := 0          -- [R493] 16-bit SB_REPLY_LOST
  mctpReply : List Byte := []     -- [R480] body of the last MCTP control response
  sb : Spdm := {}                 -- [R481] SPDM on the sideband
  doe : Spdm := {}                -- [R481] SPDM on the DOE mailbox
  linkUp : Bool := false          -- [R476] the PCIe link is up
  perst : Bool := true            -- [R476] PERST_N is asserted or has been since the last link-up
  lastComplete : Option (Nat × Nat) := none  -- [R475] the completion written last: ring and slot index
  deriving DecidableEq, Repr

end Sys2Proof.Machine
end

