-- ==== Sys2Proof/Machine/Wrap.lean ====
section
/-! DEFINITION. The KDF (R337) and the envelope of the wrapped store (R334, R335). -/

namespace Sys2Proof.Machine
open Sys2Proof

/-- The text of a label. -/
def label (t : String) : List Byte := t.toList.map (fun c => BitVec.ofNat 8 c.toNat)

/-- One block of the KDF (R337). -/
def kdfBlock (k : List Byte) (lab : String) (ctx : List Byte) (bits i : Nat) : List Byte :=
  cmac k (be 1 i ++ label lab ++ zeros 1 ++ ctx ++ be 2 bits)

/-- The KDF in counter mode (R337). -/
def kdf (k : List Byte) (lab : String) (ctx : List Byte) (bits : Nat) : List Byte :=
  fit (bits / 8) (kdfBlock k lab ctx bits 1 ++ kdfBlock k lab ctx bits 2)

/-- The store wrap key of a WRAP_GEN (R335, R337). -/
def storeWrap (gen : Nat) : List Byte := kdf (fit 16 Config.deviceRoot) "KTG STORE WRAP" (be 4 gen) 256

/-- A wrapped image in an area of FLASH_S (R334). -/
structure Wrapped where
  cipher : List Byte := []        -- [R334] the image under AES-CTR
  tag : List Byte := []           -- [R334] AES-CMAC over the ciphertext and WRAP_GEN
  deriving DecidableEq, Repr

/-- The AES-CMAC of a ciphertext under a WRAP_GEN (R334). -/
def wrapTag (gen : Nat) (cipher : List Byte) : List Byte := cmac ((storeWrap gen).drop 16) (cipher ++ be 4 gen)

/-- An image wrapped under a WRAP_GEN (R334, R350). -/
def wrapStore (gen : Nat) (plain : List Byte) : Wrapped :=
  let c := aesCtr ((storeWrap gen).take 16) (Config.wrapCounter gen) plain
  ⟨c, wrapTag gen c⟩

/-- What an area unwraps to under a WRAP_GEN: nothing unless its CMAC verifies (R334, R335). -/
def openStore (gen : Nat) (w : Wrapped) : Option (List Byte) :=
  if w.tag = wrapTag gen w.cipher then some (aesCtr ((storeWrap gen).take 16) (Config.wrapCounter gen) w.cipher) else none

end Sys2Proof.Machine
end

