-- ==== Sys2Proof/Machine/StateKey.lean ====
section
/-! DEFINITION. State of the key store, the harrow cycle, the random source and the NTS masters
(spec/13_keys_and_authentication.md). -/

namespace Sys2Proof.Machine
open Sys2Proof

/-- A stored key as its two shares (R348): S1 = K xor M and S2 = M. -/
structure Shares where
  s1 : List Byte := []            -- [R348] K xor M
  s2 : List Byte := []            -- [R348] M
  deriving DecidableEq, Repr

/-- A slot of the tenant, link master or NTS class (R333, R340, R341, R343). -/
structure KeySlot where
  valid : Bool := false           -- [R333] EMPTY or VALID
  shares : Shares := {}           -- [R332] the key
  recipients : Nat := 0           -- [R340] 4-bit RECIPIENTS
  inst : List Byte := []          -- [R336] 16-byte INSTANCE (tenant class)
  check : List Byte := []         -- [R336] 3-byte check value
  indexGen : Nat := 0             -- [R354] KEY_INDEX (link) or GENERATION (NTS)
  role : Nat := 0                 -- [R343] 0 EMPTY, 1 ACCEPT, 2 CURRENT (NTS)
  epochCur : Shares := {}         -- [R338] epoch key E(t, n) (tenant)
  epochNext : Shares := {}        -- [R338] epoch key E(t, n + 1) (tenant)
  lastGen : Nat := 0              -- [R334] last GENERATION written to the slot, kept by the wrapped store
  deriving DecidableEq, Repr

/-- The link keys of one port (R341, R342). Indices are stored plus 1; 0 is none. -/
structure PortKeys where
  sendIdx : Nat := 0              -- [R341] KEY_INDEX of SEND plus 1
  prevIdx : Nat := 0              -- [R341] KEY_INDEX of PREV plus 1
  send : Option Shares := none    -- [R342] SEND key
  prev : Option Shares := none    -- [R342] PREV key
  nextIdx : List Nat := []        -- [R341] assignments waiting for the bout boundary, oldest first
  deriving DecidableEq, Repr

/-- A KEY_INVALIDATE or retiring NTS_MASTER_ROTATE waiting for its flash write (R347). -/
structure Invalidation where
  slotId : Nat := 0               -- [R347] the held command
  rotate : Bool := false          -- [R344] the command is NTS_MASTER_ROTATE
  slots : List (Nat × Nat × KeySlot) := []   -- [R347] the slots it emptied: class, number, slot
  deriving DecidableEq, Repr

/-- The key store. -/
structure Key where
  tenants : Tbl KeySlot := []     -- [R332] 4,096 tenant slots
  links : Tbl KeySlot := []       -- [R332] 16 link master slots
  nts : Tbl KeySlot := []         -- [R332] 16 NTS cookie master slots
  portKeys : Tbl PortKeys := []   -- [R341] per furrow port 0 to 1023
  evCache : List (Nat × Shares) := []      -- [R332] cached evidence keys with their tenants, at most 64, oldest first
  evEmpty : Tbl Shares := []      -- [R348] shares of the cache's EMPTY records, by position
  device : List Shares := []      -- [R332] device root, DEVICE_BIND, store wrap key, sheaf-signing seed; loaded at boot
  epoch : Nat := 0                -- [R338] CURRENT_EPOCH n
  wrapGen : Nat := 0              -- [R335] burned bits of the 65,536-bit OTP field
  areaA : Option Wrapped := some (wrapStore 0 [])  -- [R334] FLASH_S area A !D the factory's store, every slot EMPTY
  areaB : Option Wrapped := none  -- [R334] FLASH_S area B
  storeFault : Bool := false      -- [R354] FLAGS bit 0 STORE_FAULT
  rngFault : Bool := false        -- [R349] FLAGS bit 1 RNG_FAULT
  recipientDenied : Nat := 0      -- [R340] 32-bit counter
  noKey : Nat := 0                -- [R342] 32-bit counter, summed over ports
  cycles : Nat := 0               -- [R356] 32-bit CYCLES
  position : Nat := 0             -- [R356] 14-bit POSITION
  paused : Bool := false          -- [R356] PAUSED
  fCycles : List Nat := [0, 0, 0, 0]       -- [R356] 4 × 32-bit F_CYCLES
  delayed : Nat := 0              -- [R356] 32-bit DELAYED_VISITS
  lastVisit : Nat := 0            -- [R348] ns of `now` at which the last visit was due
  rolesNext : Option Nat := none  -- [R344] the slot that becomes CURRENT at the next epoch marker
  invalidating : List Invalidation := []   -- [R347] flash writes in progress, first in first out
  ntsNotSent : Nat := 0           -- [R349] NTS responses not sent under RNG_FAULT, counted
  deriving DecidableEq, Repr

end Sys2Proof.Machine
end

