-- ==== Sys2Proof/Machine/StatePwr.lean ====
section
/-! DEFINITION. State of power, start-up, flash images and ownership (spec/21_power_startup_trust.md). -/

namespace Sys2Proof.Machine
open Sys2Proof

/-- A stored image (R539), as far as any rule reads it. -/
structure Image where
  present : Bool := false         -- [R538] the copy holds an image
  passes : Bool := false          -- [R540] it passes the checks that do not change (magic, digest, vendor signature)
  svn : Nat := 0                  -- [R539] 8-bit SVN
  version : Nat := 0              -- [R539] 32-bit VERSION
  countersigned : Bool := false   -- [R539] COUNTERSIGNED
  ownerOk : List Byte := []       -- [R540] OWNER_IMAGE_KEY its countersignature verifies under
  digest : List Byte := []        -- [R482] SHA-384 of the image
  deriving DecidableEq, Repr

/-- The two copies of a tile's image and its boot control (R538, R541). -/
structure Copies where
  a : Image := {}                 -- [R538] copy A
  b : Image := {}                 -- [R538] copy B
  preferB : Bool := false         -- [R541] the preferred copy is B
  trial : Bool := false           -- [R541] TRIAL
  run : Image := {}               -- [R541] the image that runs; none before the tile's start
  startAt : Nat := 0              -- [R541] ns of `now` of the tile's start
  staged : Bool := false          -- [R555] the copy that is not preferred holds a staged image
  deriving DecidableEq, Repr

/-- Fragments of an IMAGE_STAGE or the like (R555). -/
structure Frag where
  open_ : Bool := false           -- [R555] a FIRST has been taken and no LAST yet
  total : Nat := 0                -- [R555] TOTAL
  bytes : List Byte := []         -- [R555] the bytes received so far
  deriving DecidableEq, Repr

/-- A provisioning record (R548). -/
structure Prov where
  ownerGen : Nat := 0             -- [R548] 32-bit OWNER_GEN
  hostKeeper : Bool := false      -- [R548] HOST_KEEPER
  plainClass : Nat := 0           -- [R548] SIDEBAND_PLAIN_CLASS
  sessionClass : Nat := 2         -- [R548] SESSION_CLASS
  smbAddr : Nat := 0x1D           -- [R548] SMB_ADDR
  ownerKey : List Byte := []      -- [R548] 96-byte OWNER_KEY; empty: none
  imageKey : List Byte := []      -- [R548] 96-byte OWNER_IMAGE_KEY; empty: all zero
  sbRoot : List Byte := []        -- [R548] 48-byte OWNER_SB_ROOT; empty: none
  deriving DecidableEq, Repr

/-- A staged provisioning record (R549, R555). -/
structure ProvStage where
  prov : Prov := {}               -- [R549] the record
  newOwner : Bool := false        -- [R549] it enrols the module or transfers its ownership
  deriving DecidableEq, Repr

/-- The image the factory left in copy A of a tile: it passes R540, whatever its bytes are. -/
def factoryImage : Image := { present := true, passes := true }

/-- Power, start-up and trust. -/
structure Pwr where
  released : Bool := false        -- [R531] power-on reset has been released
  sState : Nat := 0               -- [R545] 0 BOOT, 1 READY, 2 SERVING
  sImageOk : Bool := false        -- [R544] the M-tile ROM has accepted the S-tile image
  nuheifUp : Bool := false        -- [R543] Nuheif has started
  recovery : Bool := false        -- [R551] the S tile runs its ROM's recovery responder
  mRecovery : Bool := false       -- [R552] both Nuheif copies failed
  recoveredLog : Bool := false    -- [R552] the next Nuheif start writes SEAL_OPEN, IMAGE and SEAL_CLOSE
  m : Copies := { a := factoryImage }     -- [R538] FLASH_M images (KIND 0) !D the factory's image is in copy A
  st : Copies := { a := factoryImage }    -- [R538] FLASH_S boot images (KIND 1) !D the factory's image is in copy A
  fallback : Bool := false        -- [R558] FALLBACK
  minSvn : List Nat := [0, 0, 0]  -- [R542] minimum SVN of KIND 0, 1, 2 (OTP)
  frag0 : Frag := {}              -- [R555] KIND 0 fragments
  frag1 : Frag := {}              -- [R555] KIND 1 fragments
  frag3 : Frag := {}              -- [R555] KIND 3 fragments, in SRAM
  prov : Prov := {}               -- [R548] the provisioning record in force
  provNext : Option Prov := none  -- [R550] the record that takes effect at the next start of the S tile
  provB : Bool := false           -- [R538] the record in force stands in copy B !D no rule says where the factory's stands
  provStaged : Option ProvStage := none    -- [R555] the staged record
  ownerBits : Nat := 0            -- [R549] burned bits of the 16-bit OWNER_GEN field
  lastOwner : Nat := 0            -- [R550] the OWNER_GEN of the S tile's last start
  restartAt : Option (Nat × Nat) := none   -- [R556] a restart due: action 1 or 2, and ns of `now`
  floor : Nat := 650              -- [R557] 16-bit FLOOR, mV
  ceiling : Nat := 850            -- [R557] 16-bit CEILING, mV
  target : Nat := 40              -- [R557] 16-bit LATENCY_TARGET, 100 ns
  bootMv : Nat := 800             -- [R531] boot voltage of the regulator !D the regulator's, 750 to 850 mV
  vset : Nat := 0                 -- [R558] VDD_S_SET, mV; 0 before the first write !D no rule states it before the first write
  p99 : Nat := 0                  -- [R558] 16-bit LATENCY_P99, 10 ns
  belowRun : Nat := 0             -- [R533] consecutive windows below 0.7 of the target
  unmet : Bool := false           -- [R558] TARGET_UNMET
  unmetMs : Nat := 0              -- [R558] 32-bit UNMET_MS
  unmetLast : Option Nat := none  -- [R533] the millisecond counted last
  avsWrites : Nat := 0            -- [R558] 32-bit AVS_WRITES
  avsFail : Nat := 0              -- [R534] consecutive failed transactions
  avsGood : Nat := 0              -- [R534] consecutive good transactions
  avsFault : Bool := false        -- [R534] AVS_FAULT holds
  intended : Nat := 0             -- [R534] the last intended write, mV !D none before the first write
  avsRetryAt : Nat := 0           -- [R534] ns of `now` of the last retry, or of the fault's start
  lastWindow : Nat := 0           -- [R533] ns of `now` of the last window's end
  margins : List (Nat × List Nat) := []    -- [R558] ns of `now` and the six tiles' completion margins (R22), of the last 1 ms
  tempS : Int := -32768           -- [R558] 16-bit TEMP of the S tile; 0x8000 no reading
  tempCrit : Bool := false        -- [R535] TEMP_CRIT holds
  handled : Nat := 0              -- [R536] messages handled in the last full 1 s
  handledRun : Nat := 0           -- [R536] messages handled in the running 1 s
  handledAt : Nat := 0            -- [R536] ns of `now` at which it began
  held : List Nat := []           -- [R557] PWR_POLICY commands whose reply waits for the voltage loop
  deriving DecidableEq, Repr

end Sys2Proof.Machine
end

