-- ==== Sys2Proof/Machine/StateRef.lean ====
section
/-! DEFINITION. State of the reference slots, duplex pairs, time-of-day sources, selection and the clean-up DPLL
(spec/05_reference_qualification.md, spec/06_selection_switching_cleanup.md). -/

namespace Sys2Proof.Machine
open Sys2Proof

/-- A slot's REF_CONFIG record (R129); SLOT is the index, PRIORITY's default is the slot number. -/
structure RefCfg where
  enable : Bool := false          -- [R129] FLAGS bit 0
  primary : Bool := false         -- [R129] FLAGS bit 1, sealed
  kind : Option Nat := none       -- [R129] 8-bit KIND as written; none: the default of R129 for the slot
  edge : Nat := 0                 -- [R129] 8-bit EDGE
  nomFreq : Nat := 10000000       -- [R129] 32-bit NOMINAL_FREQ, Hz
  priority : Option Nat := none   -- [R129] 8-bit PRIORITY as written; none: the slot number
  input : Nat := 1                -- [R129] 8-bit INPUT
  declaredUnc : Bound := 0xFFFFFFFF -- [R129] 32-bit DECLARED_UNC, sealed
  calDelay : Interval := 0        -- [R129] 64-bit CAL_DELAY, sealed
  deriving DecidableEq, Repr

/-- A slot's REF_LIMITS record (R130). -/
structure RefLimits where
  actMiss : Nat := 2              -- [R130] 8-bit ACT_MISS
  accept : Nat := 50              -- [R130] 16-bit ACCEPT, 0.01 ppm
  reject : Nat := 100             -- [R130] 16-bit REJECT, 0.01 ppm
  qualPeriod : Nat := 10          -- [R130] 16-bit QUAL_PERIOD, s
  warmupAllow : Nat := 20         -- [R130] 8-bit WARMUP_ALLOW, 0.01 ppm
  freqWindow : Nat := 4           -- [R130] 8-bit FREQ_WINDOW, s
  phaseAlarm : Bound := 0xFA00    -- [R130] 32-bit PHASE_ALARM
  deriving DecidableEq, Repr

/-- Qualification state (R114). -/
inductive QualState where
  | disabled | unqualified | qualifying | qualified
  deriving DecidableEq, Repr

/-- A stored phase of a slot (R108, R141). -/
structure PhasePt where
  at_ : FieldTime := 0            -- [R108] the event's instant on the timescale
  phase : Interval := 0           -- [R108] 64-bit phase
  ub : Bound := 0                 -- [R109] upstream bound carried with the event
  deriving DecidableEq, Repr

/-- The activity monitor of a slot (R111). Instants in 2^-32 ns of the timescale. -/
structure Activity where
  predict : Option FieldTime := none       -- [R111] the next predicted event
  base : List FieldTime := []     -- [R111] while failed: the further predictions, one period after each extra event
  missRun : Nat := 0              -- [R111] events in a row missing
  failed : Bool := false          -- [R111] the monitor has failed
  byUnlock : Bool := false        -- [R134] it failed while the slot's channel was unlocked
  goodFrom : Option Nat := none   -- [R56] ns of `now` since when it has passed with events; none while it has not
  missed : Nat := 0               -- [R133] 32-bit MISSED, saturating
  extra : Nat := 0                -- [R133] 32-bit EXTRA, saturating
  deriving DecidableEq, Repr

/-- What a slot reports beside its configuration (R133). -/
structure SlotSt where
  state : QualState := .unqualified        -- [R114] UNQUALIFIED from module reset until the first evaluation
  evaluated : Bool := false       -- [R134] evaluated since reset or enable (RESET cause otherwise)
  rejected : Bool := false        -- [R134] FREQ_REJECT: disqualified beyond J, not yet back within A
  outsideA : Bool := false        -- [R134] the last evaluation counted as outside A
  inBand : Bool := false          -- [R133] FLAGS bit 0
  widened : Bool := false         -- [R133] FLAGS bit 1
  phaseAlarm : Bool := false      -- [R133] FLAGS bit 2
  held : Bool := false            -- [R133] FLAGS bit 3
  prov : Bool := false            -- [R133] FLAGS bit 6
  timer : Nat := 0                -- [R133] 16-bit QUAL_TIMER
  disqual : Nat := 0              -- [R133] 16-bit DISQUAL_COUNT, saturating
  phaseHits : Nat := 0            -- [R133] 16-bit PHASE_HITS, saturating
  transients : Nat := 0           -- [R133] 16-bit TRANSIENTS, saturating
  deriving DecidableEq, Repr

/-- One reference slot. -/
structure Slot where
  cfg : RefCfg := {}              -- [R129] record in force
  cfgNext : Option RefCfg := none -- [R128] written record, effective at the next evaluation
  lim : RefLimits := {}           -- [R130] limits in force
  limNext : Option RefLimits := none -- [R119] written limits, effective at the next evaluation
  st : SlotSt := {}               -- [R133]
  act : Activity := {}            -- [R111]
  freq : Option Freq := none      -- [R133] 64-bit FREQ_OFFSET
  phase : Option Interval := none -- [R133] 64-bit PHASE
  pts : List PhasePt := []        -- [R141] stored phases, newest first
  undelivered : List PhasePt := [] -- [R124] phases of labelled edges not yet delivered
  edges : List FieldTime := []    -- [R124] instants of the last second's edges not labelled yet (PHASE slot), newest first
  nextLabel : Option (Nat × FieldTime) := none -- [R124] NEXT mode: label and instant of its last stop bit
  sinceQual : Nat := 0            -- [R135] phases delivered since it entered QUALIFYING
  qualAt : FieldTime := 0         -- [R135] instant it last entered QUALIFYING
  changedAt : Nat := 0            -- [R133] ns of `now` of the last change of STATE
  ub : Bound := 0                 -- [R109] upstream bound of the last event
  wtrEnd : Option Nat := none     -- [R135] ns of `now` at which wait-to-restore expires, once it has started
  wtrRun : Bool := false          -- [R135] the wait-to-restore timer runs
  originPhase : Option Interval := none    -- [R142] phase origin of a FREQUENCY slot
  hops : Nat := 0                 -- [R18] HOPS received (slots 11 to 18), of the last report
  originId : Nat := 0             -- [R18] ORIGIN_ID received (slots 11 to 18), of the last report
  disagreed : Bool := false       -- [R115] its pair has disagreed since it entered QUALIFYING
  deriving DecidableEq, Repr

/-- A duplex pair's REF_DUPLEX record (R131). -/
structure DuplexCfg where
  bind : Bool := false            -- [R131] 8-bit BIND
  limit : Nat := 10000            -- [R131] 32-bit DUPLEX_LIMIT, ps
  tDisc : Nat := 3000             -- [R131] 32-bit T_DISC, ms
  offset : Interval := 0          -- [R131] 64-bit DUPLEX_OFFSET, sealed
  deriving DecidableEq, Repr

/-- A duplex pair (R120 to R122). -/
structure Duplex where
  cfg : DuplexCfg := {}           -- [R131] record in force
  cfgNext : Option DuplexCfg := none -- [R128] written record, effective at the next evaluation
  run : Nat := 0                  -- [R131] 32-bit RUN
  nearMiss : Nat := 0             -- [R131] 32-bit NEAR_MISS, saturating
  discCount : Nat := 0            -- [R131] 16-bit DISC_COUNT, saturating
  latched : Bool := false         -- [R131] FLAGS bit 0
  unchecked : Bool := false       -- [R131] FLAGS bit 1
  waiting : Option (Bool × FieldTime × Interval) := none -- [R120] an edge waiting for its partner: odd?, instant, phase
  deriving DecidableEq, Repr

/-- The TOD_CONFIG record (R132). -/
structure TodCfg where
  labelSrc : List Nat := [8, 8, 8, 8, 8, 8, 8, 8]  -- [R132] 8 x 8-bit LABEL_SRC
  utcList : List Nat := [8, 9, 10, 0, 0, 0, 0, 0]  -- [R132] 8 x 8-bit UTC_LIST
  fmt0 : Nat := 0                 -- [R132] 8-bit UART0_FMT
  fmt1 : Nat := 0                 -- [R132] 8-bit UART1_FMT
  baud0 : Nat := 115200           -- [R132] 32-bit UART0_BAUD
  baud1 : Nat := 115200           -- [R132] 32-bit UART1_BAUD
  hostOffset : Int := 37          -- [R132] signed 16-bit HOST_UTC_OFFSET, sealed
  hostLeap : Nat := 0             -- [R132] 8-bit HOST_LEAP
  utcHold : Nat := 86400          -- [R132] 32-bit UTC_HOLD, s
  deriving DecidableEq, Repr

/-- A NEXT-mode message that has labelled no edge yet (R124). -/
structure TodWait where
  second : Nat := 0               -- [R124] the second it labels
  stop : FieldTime := 0           -- [R124] instant of its last stop bit
  offset : Option Int := none     -- [R126] the UTC offset it carries
  leap : Option LeapAnn := none   -- [R126] its leap announcement
  deriving DecidableEq, Repr

/-- A UART source (R123, R124). -/
structure Uart where
  waiting : Option TodWait := none -- [R124] a NEXT-mode message whose edge has not come
  run : Nat := 0                  -- [R123] consecutive labels, each 1 s above the last
  valid : Bool := false           -- [R123] valid source
  last : Option Nat := none       -- [R123] the last label, field-time second
  lastAt : Nat := 0               -- [R123] ns of `now` of the last label
  deriving DecidableEq, Repr

/-- The SEL_POLICY record (R156). -/
structure SelPolicy where
  wtr : Nat := 60                 -- [R156] 32-bit WTR, s
  wtrHoldover : Nat := 300        -- [R156] 32-bit WTR_HOLDOVER, s
  margin : Bound := 0x40          -- [R156] 32-bit SEL_MARGIN
  stepAlarm : Bound := 0x500      -- [R156] 32-bit STEP_ALARM
  revertive : Bool := true        -- [R156] FLAGS bit 0
  stepDetect : Bound := 0x500     -- [R156] 32-bit STEP_DETECT
  deriving DecidableEq, Repr

/-- The DPLL_CONFIG record (R159). -/
structure DpllCfg where
  bandwidth : Nat := 100          -- [R159] 32-bit BANDWIDTH, 0.1 mHz
  damping : Nat := 10             -- [R159] 16-bit DAMPING, 0.1
  deriving DecidableEq, Repr

/-- Why a step is pending (R142, R149, R160, R161, R433). -/
inductive StepKind where
  | switch (slot : Nat)           -- a switch transaction to a slot (R141)
  | operator                      -- TIME_SET mode 1 or TIME_ADJUST (R160, R161)
  | mirrored                      -- the partner's step (R433)
  deriving DecidableEq, Repr

/-- A committed step waiting for its effective marker (R142, R143). -/
structure PendingStep where
  size : Interval := 0            -- [R142] committed step
  effective : FieldTime := 0      -- [R143] effective marker, field time in force before the step
  kind : StepKind := .operator    -- [R142] what committed it
  setsTime : Bool := false        -- [R148] clears TIME_NOT_SET at its marker
  initial : Bool := false         -- [R148] initial jam
  bStep : Nat := 0                -- [R189] B_step it carries from its marker, interval LSBs
  origin : Option Interval := none -- [R142] the phase origin it gives a FREQUENCY slot
  frozen : Bool := false          -- [R206] it ends a freeze
  cleared : Bool := false         -- [R149] its commit ended the bound's cause 0x04
  setsSeconds : Bool := false     -- [R123] a TIME_SET, or a switch to a TIME slot
  deriving DecidableEq, Repr

/-- Phase of the switch transaction (R141, R157). -/
inductive SwitchPhase where
  | idle | measure | commit | settle | frozen
  deriving DecidableEq, Repr

/-- A switch being measured (R141). -/
structure Switching where
  slot : Nat := 0                 -- [R141] the new slot
  decidedAt : FieldTime := 0      -- [R141] field time of t_D
  commitAt : FieldTime := 0       -- [R141] field time of t_C
  exempt : Bool := false          -- [R160] TIME_SET mode 0: exempt from the jam limit and the guard
  fromFreeze : Bool := false      -- [R151] a switch from the slot to itself that ends a freeze
  snap : List PhasePt := []       -- [R141] the phases measured at t_D (PHASE and TIME slots)
  elig : Nat := 0                 -- [R145] the slots eligible at t_D
  cmd : Option Nat := none        -- [R160] the TIME_SET mode 0 it answers
  deriving DecidableEq, Repr

/-- A freeze of the selected slot (R150, R151). -/
structure Freeze where
  first : FieldTime := 0          -- [R150] instant of the first detecting phase
  linePts : List PhasePt := []    -- [R150] the 16 phases of the predicted line
  phases : Nat := 0               -- [R151] phases since the first detecting phase
  good : Nat := 0                 -- [R151] consecutive phases within STEP_DETECT of the prediction
  pts : List PhasePt := []        -- [R151] the first 16 phases from the first detecting phase on, newest first
  waited : Bool := false          -- [R151] the guard ran when 16 phases had been collected
  deriving DecidableEq, Repr

/-- What selection reports (R157). -/
structure SelSt where
  selected : Option Nat := none   -- [R157] SELECTED
  forced : Option Nat := none     -- [R157] FORCED
  strict : Bool := false          -- [R157] FLAGS bit 0
  waitSlot : Option Nat := none   -- [R157] WAIT_SLOT; STEP_WAIT while present
  waitStep : Interval := 0        -- [R157] WAIT_STEP
  rateClamp : Bool := false       -- [R157] FLAGS bit 4 RATE_CLAMP
  bwLimited : Bool := false       -- [R157] FLAGS bit 5 BW_LIMITED
  timeNotSet : Bool := true       -- [R148] TIME_NOT_SET, set at reset
  candidate : Option Nat := none  -- [R157] CANDIDATE
  switchCount : Nat := 0          -- [R157] 32-bit SWITCH_COUNT, saturating
  abortCount : Nat := 0           -- [R157] 32-bit ABORT_COUNT, saturating
  stepAlarms : Nat := 0           -- [R157] 32-bit STEP_ALARM_COUNT, saturating
  deferred : Nat := 0             -- [R157] 32-bit DEFERRED_COUNT, saturating
  deriving DecidableEq, Repr

/-- Selection, switching and the clean-up DPLL. -/
structure Sel where
  policy : SelPolicy := {}        -- [R156]
  dpll : DpllCfg := {}            -- [R159]
  st : SelSt := {}                -- [R157]
  switching : Option Switching := none     -- [R141] a switch between decide and commit
  steps : List PendingStep := []  -- [R143] committed steps, in the order of their markers
  guardEnd : Nat := 0             -- [R144] ns of `now` at which the step guard expires
  guardRun : Bool := false        -- [R144] the step guard runs
  settleEnd : Nat := 0            -- [R152] ns of `now` at which settle ends
  settling : Bool := false        -- [R152] settle runs
  lockEnd : Nat := 0              -- [R139] ns of `now` at which every settle that LOCKED waits for has ended
  uncertainEnd : Option Nat := none        -- [R149] ns of `now` at which the settle of the last non-zero step ends, while it runs
  justSwitched : Bool := false    -- [R146] a switch's marker has fallen since the last computation
  freeze : Option Freeze := none  -- [R150]
  deferring : Bool := false       -- [R138] the present deferral has been counted
  integ : Freq := 0               -- [R154] integrator of the DPLL
  rSteer : Freq := 0              -- [R152] steering rate
  lastUpdate : Option FieldTime := none    -- [R152] computation at which a phase last entered
  entering : List Interval := []  -- [R152] phases of the selected slot since the last computation, those of a report as their mean
  fresh : Nat := 0                -- [R150] stored phases of the selected slot since the last computation
  sinceStep : Nat := 16           -- [R150] stored phases of the selected slot since the last marker or new origin
  scores : Tbl Bound := []        -- [R157] SCORE[0..19]; 0xFFFFFFFF where none is listed (R136: no slot is eligible before the first computation)
  operatorUnbounded : Bool := false        -- [R149] an operator step was taken with no slot selected
  timeSet : Option (Nat × Nat) := none     -- [R160] a TIME_SET mode 0 waiting to be decided: its command and WAIT_SLOT
  timeDone : Option (Nat × Option (Interval × FieldTime)) := none -- [R160] a TIME_SET mode 0 to answer: step and marker, or aborted
  dpllWritten : Bool := false     -- [R154] DPLL_CONFIG has been written since the last computation
  secondsSet : Bool := false      -- [R123] the timescale's seconds have been set since reset: by TIME_SET, or by a TIME slot selected

  deriving DecidableEq, Repr

/-- The reference slots and their sources of time of day. -/
structure Ref where
  slots : Tbl Slot := []          -- [R107] slots 0 to 19
  duplex : Tbl Duplex := []       -- [R120] pairs 0 to 3
  tod : TodCfg := {}              -- [R132] record in force
  todNext : Option TodCfg := none -- [R128] written record, effective at the next evaluation
  uarts : Tbl Uart := []          -- [R124] UART0, UART1
  discarded : Nat := 0            -- [R133] 32-bit TOD_DISCARDED, saturating
  conflicts : Nat := 0            -- [R133] 32-bit UTC_CONFLICT, saturating
  nextEval : FieldTime := 0       -- [R111] field time of the next evaluation (500 ms after a second)
  since : Nat := 0                -- [R133] ns of `now` of the last module reset
  deriving DecidableEq, Repr

end Sys2Proof.Machine
end

