-- ==== Sys2Proof/Machine/StateRegs.lean ====
section
/-! DEFINITION. State of the BAR0 registers, the status mirror, the fault blocks, the interrupt controller and the
performance counters (spec/20_registers_interrupts_faults.md). Maps of numbered bits are naturals: bit s is source s. -/

namespace Sys2Proof.Machine
open Sys2Proof

/-- One status mirror entry (R506). -/
structure Mir where
  gen : Nat := 0                  -- [R506] 64-bit MIR_GEN
  data : List Byte := []          -- [R506] 48 content bytes (empty reads as zeros)
  chk : Nat := 0                  -- [R506] 32-bit MIR_GEN_CHK
  deriving DecidableEq, Repr

/-- One fault block (R510 to R512). -/
structure Flt where
  status : Nat := 0               -- [R510] sticky bits, 2,048 sources
  cond : Nat := 0                 -- [R512] kind C conditions that hold
  mask : Nat := 0                 -- [R510] FLT_PINMASK bits
  safe : Nat := 0                 -- [R510] FLT_SAFE_MAP bits
  parity : List Nat := []         -- [R509] functions in their safe state whose word has not been written again
  deriving DecidableEq, Repr

/-- One interrupt group (R514 to R518, R526). -/
structure Irq where
  enable : Bool := true           -- [R526] FLAGS bit 0 ENABLE
  sideband : Bool := false        -- [R526] FLAGS bit 1 SIDEBAND
  vectorDelta : Nat := 0          -- [R526] 8-bit VECTOR xor the group number
  holdoff : Nat := 10             -- [R526] 10-bit HOLDOFF, us
  disabled : Nat := 0             -- [R526] sources whose enable bit is clear
  pend : Nat := 0                 -- [R516] sources PENDING
  insvc : Nat := 0                -- [R516] sources IN_SERVICE
  count : Tbl Nat := []           -- [R516] 8-bit event counters
  readyAt : Nat := 0              -- [R516] ns of `now` at which HOLDOFF has passed since the previous delivery
  delivAt : Option Nat := none    -- [R516] ns of `now` of the last delivery, none before one
  takes : Nat := 0                -- [R516] sources whose arrivals in that nanosecond the delivery includes
  retained : Nat := 0             -- [R519] sources held in retention registers (group 4, fallow clusters)
  deriving DecidableEq, Repr

/-- One MSI-X table entry (R499, R518). -/
structure Msix where
  addr : Nat := 0                 -- [R499] 64-bit message address
  data : Nat := 0                 -- [R499] 32-bit message data
  masked : Bool := true           -- [R518] vector mask bit
  pending : Bool := false         -- [R518] pending bit
  sent : Nat := 0                 -- the model's own count of messages sent on the vector
  deriving DecidableEq, Repr

/-- One performance counter (R520). -/
structure Perf where
  count : Nat := 0                -- [R520] 48-bit count
  ovf : Bool := false             -- [R520] OVF
  deriving DecidableEq, Repr

/-- One counter filter (R528). -/
structure Filter where
  family : Nat := 0xFF            -- [R528] 8-bit FAMILY
  dir : Nat := 3                  -- [R528] 8-bit DIR
  tc : Nat := 0xFF                -- [R528] 8-bit TC
  priv : Nat := 7                 -- [R528] 8-bit PRIV
  ports : Nat := 0xFFFF           -- [R528] 16-bit PORTS
  sources : Nat := 0x1FF          -- [R528] 16-bit SOURCES
  req : Nat := 0x1FFFF            -- [R528] 32-bit REQ
  resource : Nat := 3             -- [R528] 8-bit RESOURCE
  lo : Nat := 0                   -- [R528] 32-bit LO
  hi : Nat := 0x1000000           -- [R528] 32-bit HI
  deriving DecidableEq, Repr

/-- The registers. -/
structure Regs where
  scratch : Nat := 0              -- [R503] 32-bit GLB_SCRATCH
  mir : Tbl Mir := []             -- [R506] entries 0 to 15
  flt : Tbl Flt := []             -- [R510] fault blocks 0 to 12 (block 0: the M tile's own)
  replica : Nat := 0              -- [R510] sticky bits of the BAR0 replica of block 0
  irq : Tbl Irq := []             -- [R514] groups 0 to 8
  irqSb : Bool := false           -- [R518] IRQ_SB_N is asserted
  msix : Tbl Msix := []           -- [R499] 256 entries
  msixEnable : Bool := false      -- [R518] MSI-X enable !D PCI Express configuration, the spec gives no reset value
  msixMask : Bool := false        -- [R518] function mask !D PCI Express configuration, the spec gives no reset value
  perf : Tbl Perf := []           -- [R520] events 0x0000 to 0x083F
  filters : Tbl Filter := []      -- [R528] 64 filters
  lastRead : Nat := 0             -- [R502] what the last slow-domain read completed with
  deriving DecidableEq, Repr

end Sys2Proof.Machine
end

