-- ==== Sys2Proof/Machine/StateTim.lean ====
section
/-! DEFINITION. State of the time base, the warm-up procedure and the interpolators
(spec/03_interval_measurement.md). -/

namespace Sys2Proof.Machine
open Sys2Proof

/-- One measurement record (R59). -/
structure Rec where
  tick : Nat := 0                 -- [R59] 64-bit tick count T of the stop tick
  d : Interval := 0               -- [R59] interval from the edge to that tick
  prov : Bool := false            -- [R59] flag PROV
  unlock : Bool := false          -- [R59] flag UNLOCK
  stale : Bool := false           -- [R59] flag STALE
  invalid : Bool := false         -- [R59] flag INVALID
  missed : Bool := false          -- [R59] flag MISSED
  deriving DecidableEq, Repr

/-- The sealed warm-up configuration of TIM_CONFIG (R73). -/
structure TimCfg where
  driftLimit : Freq := 281475     -- [R73] 64-bit DRIFT_LIMIT, 1 ppb
  windowCount : Nat := 6          -- [R73] 16-bit WINDOW_COUNT
  holdTime : Nat := 1800          -- [R73] 32-bit HOLD_TIME, s
  deriving DecidableEq, Repr

/-- The time base and the warm-up procedure (R52 to R57). OSC0_FREQ and LAST_CHANGE read 0 before the first window and the
first change (DESIGN CHOICE, log entry 18: R72 gives them no value). -/
structure TimeBase where
  running : Bool := false         -- [R52] the APLL has locked once since module reset; the tick counter counts
  aplLock : Bool := false         -- [R72] APLL_LOCK
  oscPresent : Bool := false      -- [R54] OSC0 shows edges within 1 us
  oscLoss : Bool := false         -- [R54] OSC0 loss in force
  oscSince : Option Nat := none   -- [R54] ns of `now` since when OSC0 has been present without a break
  lossCount : Nat := 0            -- [R72] 32-bit OSC0_LOSS_COUNT
  ovenHigh : Bool := false        -- [R55] OVEN_RDY counts as high
  ovenPin : Bool := false         -- [R55] level at the OVEN_RDY pin
  ovenSince : Nat := 0            -- [R72] ns of `now` at which OVEN_RDY counted high
  warmup : Bool := true           -- [R56] warm-up flag
  run : Nat := 0                  -- [R72] 16-bit WINDOWS_MET
  prevFreq : Freq := 0            -- [R56] OSC0_FREQ of the window before
  prevSource : Nat := 0           -- [R56] COMP_SOURCE of the window before; 0 none
  lastChange : Freq := 0          -- [R72] 64-bit LAST_CHANGE
  source : Nat := 0               -- [R72] COMP_SOURCE
  freq : Freq := 0                -- [R72] OSC0_FREQ
  holdStart : Option Nat := none  -- [R56] ns of `now` of the hold start
  windowStart : Nat := 0          -- [R56] ns of `now` at the start of the 10 s window
  oscGood : List (Option Nat) := [none, none, none] -- [R56] OSC1 to OSC3: ns of `now` since when present; none while not
  driftMet : Bool := false        -- [R72] DRIFT_MET
  holdTimer : Bool := false       -- [R72] HOLD_TIMER
  tempM : Int := -32768           -- [R72] 16-bit M-tile die temperature; 0x8000 no reading (R31)
  deriving DecidableEq, Repr

/-- One privileged channel (R61 to R65, R75, R76). FAST_ERROR and SLOW_ERROR read 0 before the first window, DNL_MAX and
INL_MAX before the first verification (DESIGN CHOICE, log entry 19: R76 gives them no value). -/
structure PrivChan where
  lock : Bool := false            -- [R63] LOCK
  lockWindows : Nat := 0          -- [R76] 16-bit LOCK_WINDOWS, saturating
  unlocks : Nat := 0              -- [R72] 16-bit unlock count, saturating
  missed : Nat := 0               -- [R72] 32-bit missed-edge count, saturating
  missedPending : Bool := false   -- [R60] MISSED is due in the next record
  converting : Option Nat := none -- [R61] tick of the stop of the conversion in progress
  freeAt : Nat := 0               -- [R60] ps on the time base from which a start is accepted
  fastErr : Freq := 0             -- [R76] FAST_ERROR
  slowErr : Freq := 0             -- [R76] SLOW_ERROR
  checking : Bool := false        -- [R76] CHECK_RUNNING
  pass : Bool := false            -- [R76] CHECK_PASS
  fail : Bool := false            -- [R76] CHECK_FAIL
  dnlMax : Nat := 0               -- [R76] 16-bit DNL_MAX
  inlMax : Nat := 0               -- [R76] 16-bit INL_MAX
  last : Option Rec := none       -- [R59] the last record
  edges : Nat := 0                -- [R65] input cycles since the last passed edge
  cycles : Nat := 0               -- [R65] count of all input cycles
  passedPs : Option Nat := none   -- [R164] time-base instant of the last passed edge, ps
  startCycles : Nat := 0          -- [R65] that count at the edge being converted
  recCycles : Nat := 0            -- [R65] that count at the edge of the last record
  deriving DecidableEq, Repr

/-- One general interpolator (R66 to R71, R77): 0 to 1023 furrow, 1024 to 1039 Ethernet, 1040 to 1047 spares. -/
structure GenInterp where
  enabled : Bool := false         -- [R70] the port is enabled (tables are taken from then on)
  table : Option (List Nat) := none        -- [R66] histogram of the table in use (128 counts)
  tableStart : Nat := 0           -- [R77] ns of `now` at the start of the refresh that built it
  accepted : Option (List Nat) := none     -- [R68] accepted histogram waiting for the next marker
  acceptedStart : Nat := 0        -- [R68] its refresh's start
  running : Bool := false         -- [R77] REFRESH_RUNNING
  start : Nat := 0                -- [R67] ns of `now` at the start of the refresh in progress
  started : Bool := false         -- [R67] a refresh has started since reset or port enable
  discards : Nat := 0             -- [R67] hits of the refresh in progress that an edge discarded
  hits : Nat := 0                 -- [R77] hits of the last completed refresh
  rejects : Nat := 0              -- [R77] 16-bit REJECTS, saturating
  rejectRun : Nat := 0            -- [R69] consecutive rejections
  calFault : Bool := false        -- [R77] CAL_FAULT
  abandoned : Nat := 0            -- [R77] 16-bit ABANDONED, saturating
  selfFail : Bool := false        -- [R77] SELFCHECK_FAIL
  selfPassed : Bool := false      -- [R71] a self-check has passed since reset or port enable
  selfAt : Option Nat := none     -- [R71] ns of `now` of the last self-check
  missed : Nat := 0               -- [R60] missed-edge count
  missedPending : Bool := false   -- [R60] MISSED is due in the next record
  converting : Option Nat := none -- [R59] tick of the stop of the conversion in progress
  convTable : Option (List Nat) := none    -- [R68] the table the conversion in progress uses
  convStart : Nat := 0            -- [R69] ns of `now` at the start of the refresh that built that table
  freeAt : Nat := 0               -- [R60] ps on the time base from which a start is accepted
  last : Option Rec := none       -- [R59] the last record
  deriving DecidableEq, Repr

/-- A TIM_MEASURE that Nuheif holds off the mailbox (R16, R74). -/
structure Measure where
  id : Nat := 0                   -- the model's own number of the command it answers
  srcA : Nat := 0                 -- [R74] 16-bit SOURCE_A
  srcB : Nat := 0                 -- [R74] 16-bit SOURCE_B
  acceptedPs : Nat := 0           -- [R74] instant of acceptance on the time base, ps
  deadlinePs : Nat := 0           -- [R74] instant of the timeout on the time base, ps
  deadline : Nat := 0             -- [R74] ns of `now` at TIMEOUT
  recA : Option Rec := none       -- [R74] the first record of source A
  recB : Option Rec := none       -- [R74] the first record of source B
  early : List Rec := []          -- [R74] records of source B that came before A's record is known
  deriving DecidableEq, Repr

/-- The time base and measuring hardware. -/
structure Tim where
  tick : Nat := 0                 -- [R52] 64-bit tick count
  cfg : TimCfg := {}              -- [R73] sealed
  judging : TimCfg := {}          -- [R56] the configuration that windows are judged against, from the last computation
  tb : TimeBase := {}             -- [R72]
  chans : Tbl PrivChan := []      -- [R62] privileged channels 0 to 15
  interps : Tbl GenInterp := []   -- [R66] general interpolators 0 to 1047
  measures : List Measure := []   -- [R16] TIM_MEASURE commands that Nuheif holds, at most four
  deriving DecidableEq, Repr

end Sys2Proof.Machine
end

