-- ==== Sys2Proof/Machine/StateSeal.lean ====
section
/-! DEFINITION. State of the seal: the sealed parameter store, the seal-break window, the metrology identification
(spec/08_bound_traceability_seal.md). -/

namespace Sys2Proof.Machine
open Sys2Proof

/-- One copy of the sealed parameter store (R195): records hold their sealed fields, every other field at its default. -/
structure SealedStore where
  utc : Int := 37                 -- [R195] the stored UTC offset
  tim : TimCfg := {}              -- [R195] TIM_CONFIG
  gnss : GnssCfg := {}            -- [R195] GNSS_CONFIG
  position : Option Position := none -- [R195] the held GNSS position and its uncertainty
  slots : Tbl RefCfg := []        -- [R195] REF_CONFIG
  duplex : Tbl Interval := []     -- [R195] REF_DUPLEX: DUPLEX_OFFSET of each pair
  hostOffset : Int := 37          -- [R195] TOD_CONFIG
  members : Tbl (OscCfg × List Byte) := [] -- [R195] OSC_CONFIG and the HOLDOVER_MODEL record written last, of each member
  ens : EnsCfg := {}              -- [R195] OSC_CONFIG index 0xFF
  learn : LearnCfg := {}          -- [R195] HOLDOVER_LEARN
  bound : BoundCfg := {}          -- [R195] BOUND_PARAMS
  boards : Tbl FurCfg := []       -- [R195] the furrow ports' calibration fields
  asym : Tbl (Tbl AsymRow × Interval) := [] -- [R195] the Ethernet ports' asymmetry rows and LINK_ASYM
  deriving DecidableEq, Repr

/-- One debounced input: SEAL_N or VERIFY_N (R201). -/
structure Press where
  released : Bool := false        -- [R201] seen released for 100 ms since module reset
  lowSince : Option Nat := some 0 -- [R201] ns of `now` at the start of the low level; before a release, the module reset's
  counted : Bool := false         -- [R201] the present press has counted
  stuck : Bool := false           -- [R201] STUCK status
  deriving DecidableEq, Repr

/-- The seal and the metrology identification. -/
structure Seal where
  armedUntil : Option Nat := none -- [R198] ns of `now` at which ARMED ends
  windowAt : Option Nat := none   -- [R198] ns of `now` at which the open seal-break window opened
  windowFault : Bool := false     -- [R195] the window was opened while PARAM_FAULT holds
  otpBits : Nat := 0              -- [R200] B, OTP bits burned of 65,536
  low : Nat := 0                  -- [R200] 16-bit L held in FLASH_M
  paramFault : Bool := false      -- [R195] PARAM_FAULT condition
  newer : SealedStore := {}       -- [R195] the newer copy of the sealed parameter store, as the last module reset left it
  older : SealedStore := {}       -- [R195] the older copy
  sealN : Press := {}             -- [R201]
  verifyN : Press := {}           -- [R201]
  latch : Option (List Byte) := none -- [R202] latched metrology identification, 184 bytes
  latchHost : Bool := false       -- [R202] the host's next METROLOGY_ID returns the latch
  latchSb : Bool := false         -- [R202] the sideband's next METROLOGY_ID returns the latch
  smbAlert : Bool := false        -- [R202] SMB_ALERT_N asserted by a VERIFY_N press
  deriving DecidableEq, Repr

end Sys2Proof.Machine
end

