-- ==== Sys2Proof/Machine/StateSyn.lean ====
section
/-! DEFINITION. State of the output APLLs, the precision outputs and the reference clocks
(spec/18_synthesizers_outputs.md). -/

namespace Sys2Proof.Machine
open Sys2Proof

/-- SYN_CONFIG record of one APLL (R464); SEED's default is 0x5A5A0000 + APLL. -/
structure SynCfg where
  enable : Bool := true           -- [R464] FLAGS bit 0 ENABLE
  fvco : Nat := 10000             -- [R464] 32-bit F_VCO, MHz
  bw : Nat := 500                 -- [R464] 32-bit LOOP_BW, kHz
  seedDelta : Nat := 0            -- [R464] 32-bit SEED xor (0x5A5A0000 + APLL)
  lockWin : Nat := 50             -- [R464] 16-bit LOCK_WIN, ps
  lockN : Nat := 4096             -- [R464] 32-bit LOCK_N
  deriving DecidableEq, Repr

/-- One output APLL. -/
structure Apll where
  cfg : SynCfg := {}              -- [R464]
  locked : Bool := false          -- [R447] lock declared
  inputLost : Bool := false       -- [R447] its input was lost and has not been present since
  unlocks : Nat := 0              -- [R465] 32-bit UNLOCKS
  lockedAt : Nat := 0             -- [R465] ns of `now` of the last lock
  resumeAt : Option FieldTime := none      -- [R448] resume instant R not yet passed
  resumed : Bool := false         -- [R448] the resume instant has passed since the last lock
  deriving DecidableEq, Repr

/-- OUT_PPS_CONFIG record (R466): index 0 to 3 PPS, 4 to 7 FOUT; WIDTH and DIVIDER of an index not yet written are
given by `ppsRec` in Machine/OutCore.lean. -/
structure PpsCfg where
  written : Bool := false         -- the model's own mark: the record has been written
  flags : Nat := 0                -- [R466] 8-bit FLAGS: ENABLE, SYNC_EN, MARKER
  src : Nat := 0                  -- [R466] 8-bit SRC
  offset : Interval := 0          -- [R466] 64-bit OFFSET
  width : Nat := 100000000        -- [R466] 32-bit WIDTH, ns (PPS; 0 for FOUT)
  divider : Nat := 0              -- [R466] 64-bit DIVIDER (FOUT: 1,000; 0 for PPS)
  deriving DecidableEq, Repr

/-- OUT_SAMPLE_CLOCK record (R467). -/
structure SclkCfg where
  flags : Nat := 0                -- [R467] 8-bit FLAGS: ENABLE, SYNC_EN
  src : Nat := 0                  -- [R467] 8-bit SRC
  markerOut : Nat := 0xFF         -- [R467] 8-bit MARKER_OUT
  bclkDiv : Nat := 100            -- [R467] 32-bit BCLK_DIV
  frameA : Nat := 1               -- [R467] 32-bit FRAME_A
  frameB : Nat := 1024            -- [R467] 32-bit FRAME_B
  epochStart : FieldTime := 0     -- [R467] 128-bit EPOCH_START
  lead : Nat := 1024              -- [R467] 32-bit LEAD
  deriving DecidableEq, Repr

/-- What an output is doing (R465); outputs 0 to 15: PPS0 to 3, FOUT0 to 3, SCLK0 to 7. -/
structure OutSt where
  synced : Bool := false          -- [R459] restarted by SYNC_IN
  started : Bool := false         -- [R457] SCLK: the start instant has passed
  markerMissed : Bool := false    -- [R458] MARKER_MISSED
  steps : Nat := 0                -- [R465] 32-bit STEPS_APPLIED
  skipped : Nat := 0              -- [R465] 32-bit SKIPPED
  suppressed : Nat := 0           -- [R465] 32-bit SUPPRESSED
  labels : List (Nat × Nat) := []  -- [R451] ranges of second labels whose pulses were emitted, newest first
  prevOffset : Interval := 0      -- [R452] PPS OFFSET in force until `offsetFrom`
  offsetFrom : FieldTime := 0     -- [R452] from this field time the written OFFSET applies
  pulseAt : FieldTime := 0        -- [R452] leading edge of the last pulse
  pulseEnd : FieldTime := 0       -- [R452] its trailing edge, WIDTH later, rounded to the nearest VCO period
  drove : Bool := false           -- [R454] the unit's own driver drove that edge
  lowUntil : FieldTime := 0       -- [R428] a shared output enabled while its signal was high drives low until this instant
  lengthen : Interval := 0        -- [R451] lengthening of the cycle in progress at the last step: FOUT, FCLK
  lengthenB : Interval := 0       -- [R451] that of BCLK
  syncEdge : Nat := 0             -- [R459] the first rising edge after SYNC_IN, in VCO periods of field time
  stopAt : FieldTime := 0         -- [R457] SCLK: end of the frame in progress when ENABLE was cleared
  syncGate : Bool := false        -- [R459] gated by clearing SYNC_EN until the next resume instant
  deriving DecidableEq, Repr

/-- The synthesisers and outputs. -/
structure Syn where
  apll : Tbl Apll := []           -- [R445] APLL 0 to 3
  pps : Tbl PpsCfg := []          -- [R466] PPS0 to 3, FOUT0 to 3
  sclk : Tbl SclkCfg := []        -- [R467] SCLK0 to 7
  out : Tbl OutSt := []           -- [R465] outputs 0 to 15
  checkLimit : Nat := 1000        -- [R464] 16-bit OUT_CHECK_LIMIT, ps
  syncArmed : Bool := false       -- [R465] SYNC_ARMED
  nvmeDown : Nat := 0             -- [R468] 8-bit NVME_DOWN
  nvmeDownUsed : Nat := 0         -- [R461] NVME_REFCLK spread in effect since the last start of the store
  auxCentre : Nat := 0            -- [R468] 8-bit AUX_CENTRE
  auxEnable : Bool := true        -- [R468] AUX_ENABLE
  auxFreq : Nat := 25000          -- [R468] 32-bit AUX_FREQ, kHz
  loopErr : Tbl (Option Interval) := []    -- [R465] LOOP_ERR0, LOOP_ERR1; none when not compared
  loopBad : Tbl Nat := []         -- [R454] consecutive compared seconds out of the limit, per PPS
  loopGood : Tbl Nat := []        -- [R454] consecutive compared seconds within the limit, per PPS
  deriving DecidableEq, Repr

end Sys2Proof.Machine
end

