-- ==== Sys2Proof/Machine/StateTan.lean ====
section
/-! DEFINITION. State of the tally arbiter (spec/16_queues_arbitration_drain.md) and of the tandem pair
(spec/17_tandem_pairs.md). -/

namespace Sys2Proof.Machine
open Sys2Proof

/-- The tally arbiter. -/
structure Arb where
  burst : Nat := 4                -- [R416] 8-bit BURST
  cryptoW : List Nat := [880, 880, 880, 880, 880, 880, 880, 880, 880, 880, 880, 880, 320, 32, 64, 0, 0]  -- [R407] 17 × 12-bit CRYPTO_W
  granW : List Nat := [4, 4, 4, 4, 4, 4, 4, 4, 4, 4, 4, 4, 0, 0, 0, 4, 1]  -- [R407] 17 × 6-bit GRANARY_W
  next : Option (Nat × List Nat × List Nat) := none  -- [R416] BURST and weights that take effect at the next window
  tallies : Tbl Int := []         -- [R408] 24-bit signed; resource 0 crypto, 1 to 16 Granary banks; key 17 × resource + requester !D no rule states a tally at reset
  window : Option Nat := none     -- [R408] the epoch marker, in µs of field time, at which the present window began
  held : List Nat := []           -- [R416] PWR_POLICY commands whose reply waits for the next window
  scrubbing : Tbl Nat := []       -- [R414] per bank (96 packet banks, then 16 Granary banks): ns of `now` of the last burst
  deriving DecidableEq, Repr

/-- TAN_CONFIG (R441). -/
structure TanCfg where
  flags : Nat := 0                -- [R441] 8-bit FLAGS: ENABLE, PREFER
  active : Nat := 200             -- [R441] 8-bit ACTIVE_CLAIM
  standby : Nat := 100            -- [R441] 8-bit STANDBY_CLAIM
  shared : Nat := 0               -- [R441] 16-bit SHARED
  slaveBw : Nat := 10000          -- [R441] 32-bit SLAVE_BW, 0.1 mHz
  rejoin : Nat := 300             -- [R441] 32-bit REJOIN_HOLD, s
  common : Nat := 0x100           -- [R441] 32-bit COMMON_SLOTS
  deriving DecidableEq, Repr

/-- TAN_COMPARE_LIMITS (R444). -/
structure TanLim where
  threshold : Bound := 0x140      -- [R444] 32-bit TAN_THRESHOLD
  tDisc : Nat := 20               -- [R444] 32-bit T_DISC, ms
  deriving DecidableEq, Repr

/-- The fields of a TIME_WORD (R423). -/
structure TimeWord where
  boundary : FieldTime := 0       -- [R423] field time of B
  bound : Bound := 0xFFFFFFFF     -- [R423] BOUND
  clockClass : Nat := 248         -- [R423] CLOCK_CLASS
  mState : Nat := 0               -- [R423] M_STATE
  selected : Nat := 0xFF          -- [R423] SELECTED
  flags : Nat := 0                -- [R423] FLAGS
  utcOffset : Int := 37           -- [R423] UTC_OFFSET
  step : Interval := 0            -- [R423] STEP
  effective : FieldTime := 0      -- [R423] EFFECTIVE_AT
  phases : List (Option Interval) := []    -- [R423] PHASE[0..19]
  verdict : Nat := 0              -- [R423] VERDICT
  serial : Nat := 0               -- [R423] SERIAL
  deriving DecidableEq, Repr

/-- The tandem comparison in Nuheif (R435, R121, R122). -/
structure TanCmp where
  run : Nat := 0                  -- [R444] RUN
  nearMiss : Nat := 0             -- [R444] 32-bit NEAR_MISS
  discCount : Nat := 0            -- [R444] 16-bit DISC_COUNT
  latched : Bool := false         -- [R444] FLAGS bit 0
  unchecked : Bool := false       -- [R444] FLAGS bit 1 UNCHECKED
  verdict : Nat := 0              -- [R423] VERDICT of the last computation
  settled : Bool := false         -- [R435] SLAVED_SETTLED
  partnerSettled : Bool := false  -- [R423] the partner's SLAVED_SETTLED flag
  deriving DecidableEq, Repr

/-- The tandem pair. -/
structure Tan where
  cfg : TanCfg := {}              -- [R441]
  lim : TanLim := {}              -- [R444]
  own : Nat := 0                  -- [R442] OWN_CLAIM
  promoted : Bool := false        -- [R426] promoted
  release : Bool := false         -- [R443] RELEASE in force
  maintenance : Bool := false     -- [R443] MAINTENANCE in force
  dropped : Bool := false         -- [R425] dropped by a verdict and not yet rejoined
  dropCause : Nat := 0            -- [R442] DROP_CAUSE
  rejoinAt : Option Nat := none   -- [R437] ns of `now` at which the latch cleared (REJOIN_HOLD runs)
  partner : Nat := 0              -- [R442] PARTNER_CLAIM, the last-seen claim
  missedRun : Nat := 0            -- [R421] consecutive missed k
  lineMissRun : Nat := 0          -- [R421] consecutive check instants without a valid word on CLAIM_IN
  lineGoodRun : Nat := 0          -- [R421] consecutive check instants with one
  lineOk : Bool := false          -- [R442] CLAIM_LINE_OK
  zeroRun : Nat := 0              -- [R426] check instants with the partner at 0 and the own claim not 0
  standbyRun : Nat := 0           -- [R426] check instants with both claims at STANDBY_CLAIM
  activeRun : Nat := 0            -- [R426] check instants with both claims at ACTIVE_CLAIM
  tieStall : Bool := false        -- [R442] TIE_STALL
  role : Nat := 0                 -- [R442] ROLE: 0 DISABLED, 1 STANDBY, 2 ACTIVE, 3 TIE, 4 RELEASED
  echo : Nat := 0                 -- [R442] ECHO
  linkUp : Bool := false          -- [R442] LINK_UP
  linkGood : Nat := 0             -- [R422] consecutive good CLAIM_FRAMEs
  linkBad : Nat := 0              -- [R422] consecutive missing or failed CLAIM_FRAMEs
  frameClaim : Option Nat := none -- [R421] CLAIM of the first valid CLAIM_FRAME since the last check instant
  sentValid : Bool := false       -- [R428] a valid word was sent at the latest marker
  sentClaim : Nat := 0            -- [R428] the claim sent in the latest word
  condRun : Nat := 0              -- [R428] consecutive check instants at which the enable condition held
  armedAt : Option FieldTime := none       -- [R428] marker at which the shared drivers enable
  driving : Bool := false         -- [R442] DRIVING
  missedWords : Nat := 0          -- [R442] 32-bit MISSED_WORDS
  timeouts : Nat := 0             -- [R442] 32-bit TIMEOUTS
  handovers : Nat := 0            -- [R442] 32-bit HANDOVERS
  verdicts : Nat := 0             -- [R442] 32-bit VERDICTS
  lastHandover : Nat := 0         -- [R442] 64-bit LAST_HANDOVER, field-time seconds
  word : Option TimeWord := none  -- [R424] the latest relayed TIME_WORD
  edge13 : Option (FieldTime × Bool) := none -- [R432] instant of the channel 13 passed edge identified last, and its PROV; waits for its TIME_WORD
  outGroups : List Nat := []      -- [R420] code groups of the last microsecond on CLAIM_OUT
  lineRd : Bool := false          -- [R420] running disparity on CLAIM_OUT after them !D no rule states that of the first symbol
  ppsOut : Bool := false          -- [R419] level of TAN_PPS_OUT
  tenOut : Bool := false          -- [R419] TAN_10M_OUT is driven: it rises at each 100 ns of field time
  outFrame : List Byte := []      -- [R423] the last CLAIM_FRAME sent
  outWord : List Byte := []       -- [R423] the last TIME_WORD sent
  outMirror : List Byte := []     -- [R423] the last MIRROR sent
  wordFresh : Bool := false       -- [R435] it is that of the computation now due
  partnerGen : Nat := 0           -- [R442] 64-bit PARTNER_GEN
  mirror : List Byte := []        -- [R423] bytes 0 to 63 of the latest MIRROR
  claimsHeld : List Nat := []     -- [R443] held TAN_CLAIM_SET commands
  cmp : TanCmp := {}              -- [R435]
  forced19 : Bool := false        -- [R431] slot 19 is treated as forced
  deriving DecidableEq, Repr

end Sys2Proof.Machine
end

