-- ==== Sys2Proof/Machine/StateTst.lean ====
section
/-! DEFINITION. State of the loop-backs, self-tests, test unlock and the JTAG TAP (spec/22_loopback_test.md). -/

namespace Sys2Proof.Machine
open Sys2Proof

/-- A loop-back an instance holds (R559 to R564, R571, R572). -/
structure Loop where
  depth : Nat := 0                -- [R571] DEPTH; 0: the instance holds none
  endsAt : Nat := 0               -- [R571] ns of `now` at which it ends by itself
  offset : Interval := 0          -- [R571] OFFSET
  prns : List Nat := []           -- [R571] 8 × PRN
  cn0s : List Nat := []           -- [R571] 8 × CN0
  sent : Nat := 0                 -- [R572] 32-bit SENT
  good : Nat := 0                 -- [R572] 32-bit RECEIVED_GOOD
  errors : Nat := 0               -- [R572] 32-bit ERRORS
  echoed : Nat := 0               -- [R572] 32-bit ECHOED
  n : Nat := 0                    -- [R572] instants recorded
  sum : Int := 0                  -- [R572] their sum
  sumSq : Nat := 0                -- [R572] the sum of their squares
  lastUnit : Nat := 0             -- [R561] ns of `now` of the last test unit
  deriving DecidableEq, Repr

/-- A self-test (R565, R573). -/
structure Bist where
  state : Nat := 0                -- [R573] STATE: 0 never run, 1 running, 2 pass, 3 fail
  instance_ : Nat := 0            -- [R573] INSTANCE it runs on
  errors : Nat := 0               -- [R573] 16-bit ERRORS
  elapsed : Nat := 0              -- [R573] 32-bit ELAPSED_MS
  startAt : Nat := 0              -- [R573] ns of `now` at its start
  deriving DecidableEq, Repr

/-- The instructions of the TAP (R566). -/
inductive TapInstr where
  | idcode | bypass | samplePreload | extest | clamp | highz | extestPulse | extestTrain
  deriving DecidableEq, Repr

/-- Test access. -/
structure Tst where
  loops : Tbl Loop := []          -- [R559] key 4,096 × INTERFACE + INSTANCE
  bist : Tbl Bist := []           -- [R573] tests 1 to 5
  challenge : List Byte := []     -- [R568] the outstanding 52-byte challenge; empty: none
  challengeAt : Nat := 0          -- [R568] ns of `now` at which it was issued
  fails : Nat := 0                -- [R568] failed responses
  deniedUntil : Nat := 0          -- [R568] ns of `now` until which TEST_UNLOCK is denied
  scope : Nat := 0                -- [R568] SCOPE of the unlock reported or in force; 0 none
  reported : Option Nat := none   -- [R569] an unlock is reported to Nuheif: ns of `now` of its end
  inForce : Bool := false         -- [R569] the unlock is in force (GLB_STATE TEST_UNLOCK)
  tap : TapInstr := .idcode       -- [R566] instruction in force !D IEEE 1149.1 selects IDCODE at reset; R566 does not say
  boundary : List Byte := []      -- [R566] the boundary register !D no rule states its contents at reset
  shifted : List Byte := []       -- [R566] what the last scan shifted out on TDO
  pinsHeld : Bool := false        -- [R567] the pins take their values from the boundary register
  pinsOff : Bool := false         -- [R567] the outputs are in high impedance
  tapReset : Bool := true         -- [R566] the TAP is held in reset
  deriving DecidableEq, Repr

end Sys2Proof.Machine
end

