-- ==== Sys2Proof/Machine/State.lean ====
section
/-! DEFINITION. The module's state: every block's state, the two clocks of the model, the queue of waiting commands; the
reasons a step can stop; the state after reset. -/

namespace Sys2Proof.Machine
open Sys2Proof

/-- The state of the timing engine. -/
structure State where
  now : Nat := 0                  -- the model's own clock: ns since the model's start (R531 and every rule with a duration)
  acc : FieldTime := 0            -- [R593] field time of the phase accumulator, 2^-32 ns
  free : Nat := 0                 -- the model's own count of free values drawn
  utc : Utc := {}                 -- [R36]
  bus : Bus := {}                 -- [R11]
  tim : Tim := {}                 -- [R52]
  gnss : Gnss := {}               -- [R89]
  ref : Ref := {}                 -- [R107]
  sel : Sel := {}                 -- [R139]
  osc : Osc := {}                 -- [R163]
  bnd : Bnd := {}                 -- [R183]
  log : EventLog := {}            -- [R203]
  sealing : Seal := {}            -- [R195]
  fur : Fur := {}                 -- [R248]
  svc : Svc := {}                 -- [R275]
  eng : Eng := {}                 -- [R308]
  key : Key := {}                 -- [R332]
  evd : Evd := {}                 -- [R358]
  eth : Tbl Eth := []             -- [R388] ports 0 to 15
  arb : Arb := {}                 -- [R406]
  tan : Tan := {}                 -- [R419]
  syn : Syn := {}                 -- [R445]
  kcp : Kcp := {}                 -- [R469]
  regs : Regs := {}               -- [R499]
  pwr : Pwr := {}                 -- [R531]
  tst : Tst := {}                 -- [R559]
  pending : List Instr := []      -- commands waiting, first in, first out
  deriving DecidableEq, Repr

/-- Why a step stops with a fault: the spec stops no command (log entry 5), so there is no such reason. -/
inductive Fault where
  deriving DecidableEq, Repr

/-- Why a step refuses a command. -/
inductive Refusal where
  /-- Raised by `exec` for a row that has no meaning yet, with its mnemonic. Safe: nothing is claimed of such a row. -/
  | notModelled (mnemonic : String)
  deriving DecidableEq, Repr

/-- The module after reset, before power-on reset is released (R531): every field at the value its declaration gives. -/
def State.reset : State := {}

end Sys2Proof.Machine
end

