-- ==== Sys2Proof/Machine/Tbl.lean ====
section
/-! DEFINITION. Sparse numbered arrays as lists of index and value pairs in one canonical form. -/

namespace Sys2Proof.Machine
open Sys2Proof

/-- The value at an index; the default `d` when it is not listed. -/
def tget {α : Type} (d : α) : Tbl α → Nat → α
  | [], _ => d
  | (k, v) :: t, i => if k = i then v else tget d t i

/-- The array without an index. -/
def terase {α : Type} : Tbl α → Nat → Tbl α
  | [], _ => []
  | (k, v) :: t, i => if k = i then terase t i else (k, v) :: terase t i

/-- Insert a pair before the first greater index. -/
def tinsert {α : Type} (i : Nat) (x : α) : Tbl α → Tbl α
  | [] => [(i, x)]
  | (k, v) :: t => if i < k then (i, x) :: (k, v) :: t else (k, v) :: tinsert i x t

/-- The array with a new value at an index; writing the default removes the entry. -/
def tset {α : Type} [DecidableEq α] (d : α) (t : Tbl α) (i : Nat) (x : α) : Tbl α :=
  if x = d then terase t i else tinsert i x (terase t i)

/-- Canonical form: indices strictly rising above `lo`, no value equal to the default. -/
def twfFrom {α : Type} [DecidableEq α] (d : α) : Nat → Tbl α → Bool
  | _, [] => true
  | lo, (k, v) :: t => decide (lo ≤ k) && decide (v ≠ d) && twfFrom d (k + 1) t

/-- Canonical form of a whole array. -/
def twf {α : Type} [DecidableEq α] (d : α) (t : Tbl α) : Bool := twfFrom d 0 t

/-- Apply `f` at an index. -/
def tmod {α : Type} [DecidableEq α] (d : α) (t : Tbl α) (i : Nat) (f : α → α) : Tbl α := tset d t i (f (tget d t i))

/-- What a view `f` shows of an array: the listed indices whose view differs from that of the default. -/
def tview {α β : Type} [DecidableEq β] (d : α) (f : α → β) (t : Tbl α) : List (Nat × β) :=
  (t.map (fun e => (e.1, f e.2))).filter (fun e => e.2 ≠ f d)

end Sys2Proof.Machine
end

