-- ==== Sys2Proof/Machine/Flags.lean ====
section
/-! DEFINITION. Fault bits, severe lines, the fault pins and interrupt arrivals (R509 to R519). -/

namespace Sys2Proof.Machine
open Sys2Proof

/-- Fault block `b`. -/
def State.flt (s : State) (b : Nat) : Flt := tget {} s.regs.flt b
/-- The state with a fault block replaced. -/
def State.setFlt (s : State) (b : Nat) (f : Flt) : State := { s with regs := { s.regs with flt := tset {} s.regs.flt b f } }
/-- Interrupt group `g`. -/
def State.irqG (s : State) (g : Nat) : Irq := tget {} s.regs.irq g
/-- The state with an interrupt group replaced. -/
def State.setIrq (s : State) (g : Nat) (x : Irq) : State := { s with regs := { s.regs with irq := tset {} s.regs.irq g x } }

/-- The number of sources of an interrupt group (R514). -/
def irqSources (g : Nat) : Nat :=
  match g with
  | 0 => 8 | 1 => 2 | 2 => 8 | 3 => 4 | 4 => 12 | 5 => 256 | 6 => 256 | 7 => 256 | 8 => 256 | _ => 0

/-- An arrival at a source of a group at `now` (R516); one in the nanosecond of a delivery is included in it. -/
def arrival (now : Nat) (x : Irq) (src : Nat) : Irq :=
  if bit x.disabled src then x
  else if x.delivAt = some now ∧ bit x.takes src = true then { x with insvc := setBit x.insvc src }
  else if bit x.pend src then x
  else if bit x.insvc src then { x with count := tset 0 x.count src (satInc 255 (tget 0 x.count src)) }
  else { x with pend := setBit x.pend src }

/-- An arrival at a source of group `g`. -/
def irqArrive (g src : Nat) (s : State) : State := s.setIrq g (arrival s.now (s.irqG g) src)

/-- The acknowledgement of one source (R517): what arrives in the same nanosecond comes after it. -/
def acknowledge (x : Irq) (src : Nat) : Irq :=
  if bit x.insvc src then
    { x with
      takes := clrBit x.takes src
      insvc := clrBit x.insvc src
      pend := if tget 0 x.count src = 0 then x.pend else setBit x.pend src
      count := tset 0 x.count src 0 }
  else x

/-- Acknowledge every source of a bit set. -/
def acknowledgeAll (x : Irq) (n bits : Nat) : Irq :=
  (List.range n).foldl (fun x i => if bit bits i then acknowledge x i else x) x

/-- Classes of fault sources (R511). -/
inductive FltClass where
  | none | n | s | f
  deriving DecidableEq, Repr

/-- The SHARED bit of an output (R441): bit of OUT 0 to 15. -/
def shared (s : State) (out : Nat) : Bool := bit s.tan.cfg.shared out

/-- The APLL that feeds a precision output: SRC of its record (R464, R466, R467). -/
def outApll (s : State) (out : Nat) : Nat :=
  if out < 8 then (tget {} s.syn.pps out).src else (tget {} s.syn.sclk (out - 8)).src

/-- An APLL feeds an output named in SHARED (R447). -/
def apllShared (s : State) (a : Nat) : Bool := (List.range 16).any (fun o => shared s o && outApll s o == a)

/-- Sources of a furrow tile's local ports (R511). -/
def fltLocal (n : Nat) : FltClass := if 16 ≤ n ∧ n < 16 + 4 * 256 then .n else .none

/-- The class of source `n` of block `b` (R511). -/
def fltClass (s : State) (b n : Nat) : FltClass :=
  match b with
  | 0 => match n with
    | 0 => .f | 1 => .f | 2 => .n | 3 => .n | 4 => .f | 5 => .s | 6 => .n | 7 => .n | 8 => .f | 9 => .n | 10 => .n
    | _ => if 16 ≤ n ∧ n < 32 then .n else .none
  | 1 => match n with
    | 0 => .s | 1 => .f | _ => if 16 ≤ n ∧ n < 56 then .n else .none
  | 2 => match n with
    | 0 => .s | 1 => .n | 2 => .s | _ => .none
  | 3 => match n with
    | 0 => .s | 1 => .s | 2 => .f | _ => .none
  | 4 => match n with
    | 0 => .s | 1 => .n | _ => .none
  | 5 => match n with
    | 0 => .s | _ => if 16 ≤ n ∧ n < 32 then .n else .none
  | 6 => match n with
    | 0 => .s | _ => if 16 ≤ n ∧ n < 20 then (if apllShared s (n - 16) then .f else .n) else .none
  | 7 => match n with
    | 0 => .s | 1 => .s | 2 => .n | 3 => .n | 4 => .s | 5 => .f | _ => .none
  | 8 => match n with
    | 0 => .s | 1 => .n | 2 => .n | 3 => .n | _ => .none
  | 9 | 10 | 11 | 12 => match n with
    | 0 => .s | 1 => .f | 2 => .s | 3 => .n | _ => fltLocal n
  | _ => .none

/-- How many source numbers a block spans (R510, R511). -/
def fltSources (b : Nat) : Nat :=
  match b with
  | 0 => 32 | 1 => 56 | 2 => 3 | 3 => 3 | 4 => 2 | 5 => 32 | 6 => 20 | 7 => 6 | 8 => 4 | 9 => 1040 | 10 => 1040 | 11 => 1040
  | 12 => 1040 | _ => 0

/-- The die of a fault block (R510): 0 M, 1 S, 2 to 5 F0 to F3. -/
def fltDie (b : Nat) : Nat := if b = 0 then 0 else if b < 9 then 1 else b - 7

/-- FLT_BLOCK_ID (R510). -/
def fltBlockId (b : Nat) : Nat := fltDie b * 2 ^ 24 + b * 2 ^ 16 + fltSources b

/-- A set bit of this source asserts the block's severe line (R513). -/
def severeSource (s : State) (b n : Nat) : Bool :=
  match fltClass s b n with
  | .f => true
  | .s => !bit (s.flt b).mask n
  | _ => false

/-- The severe line of a block (R513). -/
def severe (s : State) (b : Nat) : Bool :=
  (List.range (fltSources b)).any (fun n => bit (s.flt b).status n && severeSource s b n)

/-- The module drives the fault state of FLT_P and FLT_N (R513). -/
def faultDriven (s : State) : Bool := decide (s.pwr.sState = 0) || (List.range 13).any (severe s)

/-- FLT_CLASS word (R510). -/
def fltClassWord (s : State) (b w : Nat) : Nat :=
  (List.range 32).foldl (fun a i =>
    a + flag i (decide (fltClass s b (32 * w + i) = .s) || decide (fltClass s b (32 * w + i) = .f))) 0

/-- FLT_SEVERE (R510). -/
def fltSevereWord (s : State) (b : Nat) : Nat := flag 0 (severe s b) + flag 1 (decide ((s.flt b).safe ≠ 0))

/-- GLB_FAULT_SUMMARY (R503); bit 0 follows the replica of block 0. -/
def faultSummary (s : State) : Nat :=
  flag 0 (decide (s.regs.replica ≠ 0)) +
  (List.range 12).foldl (fun a i => a + flag (i + 1) (decide ((s.flt (i + 1)).status ≠ 0))) 0

/-- GLB_SAFE_SUMMARY (R503). -/
def safeSummary (s : State) : Nat := (List.range 13).foldl (fun a i => a + flag i (decide ((s.flt i).safe ≠ 0))) 0

/-- The level of FLT_P (R513, R567): pulled low by a die in fault, else high; that of the boundary register under boundary
scan, that of the board's pull-up in high impedance. -/
def fltP (s : State) : Bool :=
  if s.tst.pinsOff then true else if s.tst.pinsHeld then bit (Config.boundaryPins s.tst.boundary) 0 else !faultDriven s
/-- The level of FLT_N (R513, R567). -/
def fltN (s : State) : Bool :=
  if s.tst.pinsOff then false else if s.tst.pinsHeld then bit (Config.boundaryPins s.tst.boundary) 1 else faultDriven s
/-- The pins read as healthy (R513). -/
def pinsHealthy (s : State) : Bool := fltP s && !fltN s

/-- GLB_FLT_PINS (R505). -/
def fltPins (s : State) : Nat :=
  (List.range 13).foldl (fun a i => a + flag (16 + i) (severe s i)) 0 +
  flag 3 (fltP s == fltN s) + flag 2 (faultDriven s) + flag 1 (fltN s) + flag 0 (fltP s)

/-- The interrupt arrival of a sticky bit of block `b` that changes from 0 to 1 (R514); block 0's comes with its replica. -/
def fltArrive (b : Nat) (s : State) : State :=
  if b = 0 then { s with bus := { s.bus with newSticky := true } }
  else if b ≤ 8 then irqArrive 2 (b - 1) s
  else irqArrive 3 (b - 9) s

/-- Set the sticky bit of a source (R512, R516). -/
def setSticky (b n : Nat) (s : State) : State :=
  if bit (s.flt b).status n then s
  else fltArrive b (s.setFlt b { s.flt b with status := setBit (s.flt b).status n })

/-- A kind C source's condition begins or ends (R512). -/
def setCond (b n : Nat) (v : Bool) (s : State) : State :=
  if v then setSticky b n (s.setFlt b { s.flt b with cond := setBit (s.flt b).cond n })
  else s.setFlt b { s.flt b with cond := clrBit (s.flt b).cond n }

/-- The functions of a block that leave their safe state once CFG_PARITY is clear (R509). -/
def safeAfter (f : Flt) : Nat := f.parity.foldl (fun a i => setBit a i) 0

/-- Clear the bits of one word whose conditions do not hold (R512); a cleared CFG_PARITY ends safe states (R509). -/
def clearWord (b w bits : Nat) (s : State) : State :=
  let f := s.flt b
  let st := (List.range 32).foldl (fun a i =>
    if bit bits i && !bit f.cond (32 * w + i) then clrBit a (32 * w + i) else a) f.status
  let f1 := { f with status := st }
  s.setFlt b (if bit f.status 0 && !bit st 0 then { f1 with safe := safeAfter f1 } else f1)

/-- A function's configuration word has been written again (R509). -/
def rewriteWord (b i : Nat) (s : State) : State :=
  let f := s.flt b
  let f1 := { f with parity := f.parity.filter (· ≠ i) }
  s.setFlt b (if bit f.status 0 then f1 else { f1 with safe := clrBit f1.safe i })

/-- A word of function `i` fails its parity check (R508). -/
def parityFail (b i : Nat) (s : State) : State :=
  let f := s.flt b
  setSticky b 0 (s.setFlt b { f with
    safe := setBit f.safe i
    parity := if f.parity.contains i then f.parity else i :: f.parity })

/-- Function `i` of block `b` is in its safe state. -/
def inSafe (s : State) (b i : Nat) : Bool := bit (s.flt b).safe i

end Sys2Proof.Machine
end

