-- ==== Sys2Proof/Machine/Gen.lean ====
section
/-! DEFINITION. The state generations (R486, R487): for each group the configuration and the state and flag fields that its
commands write or report, and the increment of G at a step that changes any of them. Counters and measured values stand
in no view. Which flags a view holds is read from the status records and the status mirror (log entry 6). -/

namespace Sys2Proof.Machine
open Sys2Proof

/-- Two states agree on what `f` shows. -/
def sameOn {β : Type} [DecidableEq β] (f : State → β) (a b : State) : Bool := decide (f a = f b)

/-- The time-uncertain flag (R149, R150): a step's settle has not ended, or a freeze is in force. -/
def State.uncertain (s : State) : Bool := s.sel.uncertainEnd.isSome || s.sel.freeze.isSome

/-- Nothing that group 0x00 writes or reports differs: boot control, provisioning and staged images. -/
def same00 (a b : State) : Bool :=
    sameOn (fun s => s.pwr.m.preferB) a b &&
    sameOn (fun s => s.pwr.m.trial) a b &&
    sameOn (fun s => s.pwr.m.staged) a b &&
    sameOn (fun s => s.pwr.st.preferB) a b &&
    sameOn (fun s => s.pwr.st.trial) a b &&
    sameOn (fun s => s.pwr.st.staged) a b &&
    sameOn (fun s => s.pwr.minSvn) a b &&
    sameOn (fun s => s.pwr.prov) a b &&
    sameOn (fun s => s.pwr.provStaged) a b &&
    sameOn (fun s => s.pwr.ownerBits) a b

/-- Nothing that group 0x01 writes or reports differs. -/
def same01 (a b : State) : Bool :=
    sameOn (fun s => s.tim.cfg) a b &&
    sameOn (fun s => s.tim.tb.running) a b &&
    sameOn (fun s => s.tim.tb.aplLock) a b &&
    sameOn (fun s => s.tim.tb.oscLoss) a b &&
    sameOn (fun s => s.tim.tb.ovenHigh) a b &&
    sameOn (fun s => s.tim.tb.warmup) a b &&
    sameOn (fun s => s.tim.tb.driftMet) a b &&
    sameOn (fun s => s.tim.tb.holdTimer) a b &&
    sameOn (fun s => s.tim.tb.source) a b &&
    sameOn (fun s => tview {} (fun c : PrivChan => (c.lock, c.checking, c.pass, c.fail)) s.tim.chans) a b

/-- Nothing that group 0x02 writes or reports differs. -/
def same02 (a b : State) : Bool :=
    sameOn (fun s => s.gnss.cfg) a b &&
    sameOn (fun s => s.gnss.position) a b &&
    sameOn (fun s => s.gnss.mode) a b &&
    sameOn (fun s => s.gnss.clkFault) a b &&
    sameOn (fun s => s.gnss.targetUnmet) a b &&
    sameOn (fun s => s.gnss.ionoValid) a b &&
    sameOn (fun s => s.gnss.survey.start) a b &&
    sameOn (fun s => s.gnss.survey.time) a b &&
    sameOn (fun s => s.gnss.survey.sigma) a b &&
    sameOn (fun s => tview {} (fun c : GnssChan => (c.prn, c.state, c.healthy, c.used)) s.gnss.chans) a b &&
    sameOn (fun s => tview {} (fun c : GnssChan => (c.excluded, c.mpActive)) s.gnss.chans) a b

/-- Nothing that group 0x03 writes or reports differs. -/
def same03 (a b : State) : Bool :=
    sameOn (fun s => tview {} (fun x : Slot => (x.cfgNext.getD x.cfg, x.limNext.getD x.lim, x.st.state, x.st.rejected)) s.ref.slots) a b &&
    sameOn (fun s => tview {} (fun x : Slot => (x.st.inBand, x.st.widened, x.st.phaseAlarm, x.st.held)) s.ref.slots) a b &&
    sameOn (fun s => tview {} (fun x : Slot => (x.st.prov, x.act.failed)) s.ref.slots) a b &&
    sameOn (fun s => tview {} (fun d : Duplex => (d.cfgNext.getD d.cfg, d.latched, d.unchecked)) s.ref.duplex) a b &&
    sameOn (fun s => s.ref.todNext.getD s.ref.tod) a b &&
    sameOn (fun s => tview {} (fun u : Uart => u.valid) s.ref.uarts) a b &&
    sameOn (fun s => s.utc.offset) a b &&
    sameOn (fun s => s.utc.valid) a b &&
    sameOn (fun s => s.utc.leap61) a b &&
    sameOn (fun s => s.utc.leap59) a b &&
    sameOn (fun s => s.utc.conflict) a b &&
    sameOn (fun s => s.utc.source) a b

/-- Nothing that group 0x04 writes or reports differs. -/
def same04 (a b : State) : Bool :=
    sameOn (fun s => s.sel.policy) a b &&
    sameOn (fun s => s.sel.dpll) a b &&
    sameOn (fun s => s.sel.st.selected) a b &&
    sameOn (fun s => s.sel.st.forced) a b &&
    sameOn (fun s => s.sel.st.strict) a b &&
    sameOn (fun s => s.sel.st.waitSlot) a b &&
    sameOn State.uncertain a b &&
    sameOn (fun s => s.sel.st.rateClamp) a b &&
    sameOn (fun s => s.sel.st.bwLimited) a b &&
    sameOn (fun s => s.sel.st.timeNotSet) a b &&
    sameOn (fun s => s.sel.st.candidate) a b &&
    sameOn (fun s => s.sel.switching.isSome) a b &&
    sameOn (fun s => s.sel.steps) a b &&
    sameOn (fun s => s.sel.guardRun) a b &&
    sameOn (fun s => s.sel.settling) a b &&
    sameOn (fun s => s.sel.freeze.isSome) a b

/-- Nothing that group 0x05 writes or reports differs. -/
def same05 (a b : State) : Bool :=
    sameOn (fun s => tview {} (fun m : Member => (m.cfg, m.state, m.sensor.valid, m.inForce)) s.osc.members) a b &&
    sameOn (fun s => s.osc.ens) a b &&
    sameOn (fun s => s.osc.learn) a b &&
    sameOn (fun s => s.osc.mState) a b &&
    sameOn (fun s => s.osc.conflict) a b &&
    sameOn (fun s => s.osc.fromModel) a b &&
    sameOn (fun s => s.osc.learning) a b

/-- Nothing that group 0x06 writes or reports differs. -/
def same06 (a b : State) : Bool :=
    sameOn (fun s => s.bnd.cfg) a b &&
    sameOn (fun s => s.bnd.transition) a b &&
    sameOn (fun s => s.bnd.tempInterval) a b &&
    sameOn (fun s => s.bnd.cause) a b &&
    sameOn (fun s => s.bnd.clockClass) a b &&
    sameOn (fun s => s.sealing.windowAt.isSome) a b &&
    sameOn (fun s => s.sealing.armedUntil.isSome) a b &&
    sameOn (fun s => s.sealing.paramFault) a b &&
    sameOn (fun s => s.sealing.sealN.stuck) a b &&
    sameOn (fun s => s.sealing.verifyN.stuck) a b &&
    sameOn (fun s => s.log.fault) a b &&
    sameOn (fun s => decide (s.log.sinceAck > 57344)) a b

/-- Nothing that group 0x07 writes or reports differs. -/
def same07 (a b : State) : Bool :=
    sameOn (fun s => tview {} (fun p : FurPort => (p.cfg, p.floor, p.ceiling, p.st.state)) s.fur.ports) a b &&
    sameOn (fun s => tview {} (fun p : FurPort => (p.st.lean, p.st.nextLean, p.st.targetUnmet, p.st.drift)) s.fur.ports) a b &&
    sameOn (fun s => tview {} (fun p : FurPort => (p.st.calFault, p.cal.running, p.leaf.state, p.leaf.claim)) s.fur.ports) a b &&
    sameOn (fun s => tview {} (fun p : FurPort => p.leaf.alarms) s.fur.ports) a b &&
    sameOn (fun s => (tview {} (fun g : GenInterp => (g.calFault, g.running)) s.tim.interps).filter (fun e => e.1 < 1024)) a b

/-- Nothing that group 0x08 writes or reports differs. -/
def same08 (a b : State) : Bool :=
    sameOn (fun s => tview {} (fun e : Eth => (e.cfgNext.getD e.cfg, e.pause)) s.eth) a b &&
    sameOn (fun s => tview {} (fun e : Eth => e.tags) s.eth) a b &&
    sameOn (fun s => tview {} (fun e : Eth => e.rows) s.eth) a b &&
    sameOn (fun s => tview {} (fun e : Eth => (e.linkAsym, e.state, e.anDone, e.lpiSeen)) s.eth) a b &&
    sameOn (fun s => tview {} (fun e : Eth => (e.pauseIgnore, e.lm.running)) s.eth) a b &&
    sameOn (fun s => (tview {} (fun g : GenInterp => (g.calFault, g.running, g.selfFail)) s.tim.interps).filter (fun e => 1024 ≤ e.1)) a b

/-- Nothing that group 0x09 writes or reports differs. -/
def same09 (a b : State) : Bool :=
    sameOn (fun s => tview {} (fun p : Prof => p.cfg) s.svc.prof) a b &&
    sameOn (fun s => tview {} (fun d : Dom => d.cfg) s.svc.dom) a b &&
    sameOn (fun s => s.svc.limits) a b &&
    sameOn (fun s => tview {} (fun u : Up => (u.cfg, u.chosen)) s.svc.up) a b &&
    sameOn (fun s => s.svc.up.map (fun u => tview {} (fun c : Candidate => (c.grants, c.denied)) u.2.cands)) a b &&
    sameOn (fun s => s.svc.touched) a b

/-- Nothing that group 0x0A writes or reports differs. -/
def same0A (a b : State) : Bool :=
    sameOn (fun s => tview {} (fun e : Engine => (e.state, e.bank, e.image)) s.eng.engines) a b &&
    sameOn (fun s => s.eng.policy) a b &&
    sameOn (fun s => s.eng.active) a b &&
    sameOn (fun s => s.eng.activation) a b &&
    sameOn (fun s => s.eng.staging.verified) a b &&
    sameOn (fun s => s.eng.staging.total) a b &&
    sameOn (fun s => s.eng.restarting.isSome) a b &&
    sameOn (fun s => s.eng.loadUnmet || s.eng.floorUnmet) a b &&
    sameOn (fun s => s.eng.placementUnmet) a b

/-- What a key slot shows. -/
def slotView (k : KeySlot) := (k.valid, k.recipients, k.indexGen, k.role)

/-- Nothing that group 0x0B writes or reports differs. -/
def same0B (a b : State) : Bool :=
    sameOn (fun s => tview {} slotView s.key.tenants) a b &&
    sameOn (fun s => tview {} (fun k : KeySlot => (k.inst, k.check)) s.key.tenants) a b &&
    sameOn (fun s => tview {} slotView s.key.links) a b &&
    sameOn (fun s => tview {} (fun k : KeySlot => (k.inst, k.check)) s.key.links) a b &&
    sameOn (fun s => tview {} slotView s.key.nts) a b &&
    sameOn (fun s => tview {} (fun k : KeySlot => (k.inst, k.check)) s.key.nts) a b &&
    sameOn (fun s => tview {} (fun p : PortKeys => (p.sendIdx, p.nextIdx)) s.key.portKeys) a b &&
    sameOn (fun s => s.key.storeFault) a b &&
    sameOn (fun s => s.key.rngFault) a b &&
    sameOn (fun s => s.key.paused) a b &&
    sameOn (fun s => s.key.epoch) a b

/-- Nothing that group 0x0C writes or reports differs. -/
def same0C (a b : State) : Bool :=
    sameOn (fun s => s.evd.cfg) a b &&
    sameOn (fun s => s.evd.minRetain) a b &&
    sameOn (fun s => s.evd.holdFrom) a b &&
    sameOn (fun s => s.evd.retEpoch) a b &&
    sameOn (fun s => s.evd.store) a b &&
    sameOn (fun s => s.evd.storeId) a b &&
    sameOn (fun s => s.evd.stopping) a b &&
    sameOn (fun s => s.evd.ns.map (fun n => (n.ordinal, n.nsid, n.lbas, n.serial, n.critical))) a b &&
    sameOn (fun s => s.evd.staged.map (fun f => (f.index, f.phase))) a b

/-- Nothing that group 0x0D writes or reports differs. -/
def same0D (a b : State) : Bool :=
    sameOn (fun s => s.tan.cfg) a b &&
    sameOn (fun s => s.tan.lim) a b &&
    sameOn (fun s => s.tan.own) a b &&
    sameOn (fun s => s.tan.promoted) a b &&
    sameOn (fun s => s.tan.release) a b &&
    sameOn (fun s => s.tan.maintenance) a b &&
    sameOn (fun s => s.tan.dropCause) a b &&
    sameOn (fun s => s.tan.partner) a b &&
    sameOn (fun s => s.tan.lineOk) a b &&
    sameOn (fun s => s.tan.tieStall) a b &&
    sameOn (fun s => s.tan.role) a b &&
    sameOn (fun s => s.tan.linkUp) a b &&
    sameOn (fun s => s.tan.driving) a b &&
    sameOn (fun s => s.tan.cmp.latched) a b &&
    sameOn (fun s => s.tan.cmp.unchecked) a b

/-- Nothing that group 0x0E writes or reports differs. -/
def same0E (a b : State) : Bool :=
    sameOn (fun s => tview {} (fun a : Apll => (a.cfg, a.locked, a.inputLost)) s.syn.apll) a b &&
    sameOn (fun s => s.syn.pps) a b &&
    sameOn (fun s => s.syn.sclk) a b &&
    sameOn (fun s => tview {} (fun o : OutSt => (o.synced, o.started, o.markerMissed, o.syncGate)) s.syn.out) a b &&
    sameOn (fun s => s.syn.checkLimit) a b &&
    sameOn (fun s => s.syn.syncArmed) a b &&
    sameOn (fun s => s.syn.nvmeDown) a b &&
    sameOn (fun s => s.syn.auxCentre) a b &&
    sameOn (fun s => s.syn.auxEnable) a b

/-- Nothing that group 0x0F writes or reports differs. -/
def same0F (a b : State) : Bool :=
    sameOn (fun s => s.pwr.floor) a b &&
    sameOn (fun s => s.pwr.ceiling) a b &&
    sameOn (fun s => s.pwr.target) a b &&
    sameOn (fun s => s.pwr.unmet) a b &&
    sameOn (fun s => s.pwr.avsFault) a b &&
    sameOn (fun s => s.pwr.tempCrit) a b &&
    sameOn (fun s => s.pwr.fallback) a b &&
    sameOn (fun s => s.pwr.sState) a b &&
    sameOn (fun s => (decide (s.pwr.vset = s.pwr.floor), decide (s.pwr.vset = s.pwr.ceiling))) a b &&
    sameOn (fun s => s.arb.burst) a b &&
    sameOn (fun s => s.arb.cryptoW) a b &&
    sameOn (fun s => s.arb.granW) a b &&
    sameOn (fun s => s.regs.filters) a b

/-- Nothing that group 0x10 writes or reports differs. -/
def same10 (a b : State) : Bool :=
    sameOn (fun s => tview {} (fun l : Loop => (l.depth, l.endsAt, l.offset)) s.tst.loops) a b &&
    sameOn (fun s => tview {} (fun l : Loop => (l.prns, l.cn0s)) s.tst.loops) a b &&
    sameOn (fun s => tview {} (fun b : Bist => (b.state, b.instance_)) s.tst.bist) a b &&
    sameOn (fun s => s.tst.challenge) a b &&
    sameOn (fun s => s.tst.reported.isSome) a b &&
    sameOn (fun s => s.tst.inForce) a b

/-- Nothing that group 0x11 writes or reports differs: fault bits, masks and safe states; the interrupt groups' configuration. -/
def same11 (a b : State) : Bool :=
    sameOn (fun s => tview {} (fun f : Flt => (f.status, f.mask, f.safe)) s.regs.flt) a b &&
    sameOn (fun s => tview {} (fun g : Irq => (g.enable, g.sideband, g.vectorDelta, g.holdoff)) s.regs.irq) a b &&
    sameOn (fun s => tview {} (fun g : Irq => g.disabled) s.regs.irq) a b

/-- M-tile state changed: a new metrology generation (R486). -/
def metroChanged (a b : State) : Bool :=
  !same01 a b || !same02 a b || !same03 a b ||
  !same04 a b || !same05 a b || !same06 a b

/-- The groups whose state differs (groups 0x01 to 0x06 together, R487). -/
def changedGroups (a b : State) : List Nat :=
  (if same00 a b then [] else [0x00]) ++
  (if metroChanged a b then [0x01, 0x02, 0x03, 0x04, 0x05, 0x06] else []) ++
  (if same07 a b then [] else [0x07]) ++ (if same08 a b then [] else [0x08]) ++
  (if same09 a b then [] else [0x09]) ++ (if same0A a b then [] else [0x0A]) ++
  (if same0B a b then [] else [0x0B]) ++ (if same0C a b then [] else [0x0C]) ++
  (if same0D a b then [] else [0x0D]) ++ (if same0E a b then [] else [0x0E]) ++
  (if same0F a b then [] else [0x0F]) ++ (if same10 a b then [] else [0x10]) ++
  (if same11 a b then [] else [0x11])

/-- The command processor after a step from `a` to `b`: one increment of G for all changes of the instant (R486), and
the group generations of the groups that changed (R487). -/
def genKcp (a b : State) : Kcp :=
  if changedGroups a b = [] then b.kcp
  else { b.kcp with
    g := b.kcp.g + 1
    gg := (changedGroups a b).foldl (fun t g => tset 0 t g (b.kcp.g + 1)) b.kcp.gg
    metroGen := if metroChanged a b then b.kcp.metroGen + 1 else b.kcp.metroGen }

/-- Raise the generations for what changed from `a` to `b`. -/
def commitG (a b : State) : State := { b with kcp := genKcp a b }

end Sys2Proof.Machine
end

