-- ==== Sys2Proof/Machine/Ops.lean ====
section
/-! DEFINITION. Named operations over the state that the families share: numbered units, the sealed event log, sealed
writes, free values, the shape of an event's meaning. -/

namespace Sys2Proof.Machine
open Sys2Proof

/-- What a meaning answers. -/
abbrev Out := Host.Outcome State Fault Refusal

/-- An event at a numbered unit. The module has no event at a unit that it does not have, so nothing changes there (DESIGN
CHOICE, log entry 5). -/
def guardUnit (ok : Bool) (s : State) (r : Out) : Out := if ok then r else .next s

/-- The next state with the generations raised for what changed (R486). -/
def done (s s' : State) : Out := .next (commitG s s')

/-- A free value in 0 to n − 1 and the state that has used it up. -/
def drawBelow (n : Nat) (s : State) : Nat × State := (Config.freeValue s.free % n, { s with free := s.free + 1 })

/-- The next 64 bytes of the random source (R349). -/
def drawRandom (n : Nat) (s : State) : List Byte × State :=
  (fit n (Config.random s.free), { s with free := s.free + 1 })


/-- Channel `i` of the privileged channels. -/
def State.chan (s : State) (i : Nat) : PrivChan := tget {} s.tim.chans i
/-- Replace a privileged channel. -/
def State.setChan (s : State) (i : Nat) (x : PrivChan) : State :=
  { s with tim := { s.tim with chans := tset {} s.tim.chans i x } }
/-- General interpolator `i`. -/
def State.interp (s : State) (i : Nat) : GenInterp := tget {} s.tim.interps i
/-- Replace a general interpolator. -/
def State.setInterp (s : State) (i : Nat) (x : GenInterp) : State :=
  { s with tim := { s.tim with interps := tset {} s.tim.interps i x } }
/-- Reference slot `i`. -/
def State.slot (s : State) (i : Nat) : Slot := tget {} s.ref.slots i
/-- Replace a reference slot. -/
def State.setSlot (s : State) (i : Nat) (x : Slot) : State :=
  { s with ref := { s.ref with slots := tset {} s.ref.slots i x } }
/-- Duplex pair `i`. -/
def State.dup (s : State) (i : Nat) : Duplex := tget {} s.ref.duplex i
/-- Replace a duplex pair. -/
def State.setDup (s : State) (i : Nat) (x : Duplex) : State :=
  { s with ref := { s.ref with duplex := tset {} s.ref.duplex i x } }
/-- Ensemble member `i`. -/
def State.osci (s : State) (i : Nat) : Member := tget {} s.osc.members i
/-- Replace an ensemble member. -/
def State.setOsci (s : State) (i : Nat) (x : Member) : State :=
  { s with osc := { s.osc with members := tset {} s.osc.members i x } }
/-- Furrow port `i`. -/
def State.port (s : State) (i : Nat) : FurPort := tget {} s.fur.ports i
/-- Replace a furrow port. -/
def State.setPort (s : State) (i : Nat) (x : FurPort) : State :=
  { s with fur := { s.fur with ports := tset {} s.fur.ports i x } }
/-- The side state of furrow port `i`. -/
def State.paux (s : State) (i : Nat) : FurAux := tget {} s.fur.aux i
/-- Replace the side state of a furrow port. -/
def State.setPaux (s : State) (i : Nat) (x : FurAux) : State :=
  { s with fur := { s.fur with aux := tset {} s.fur.aux i x } }
/-- Ethernet port `i`. -/
def State.ethP (s : State) (i : Nat) : Eth := tget {} s.eth i
/-- Replace an Ethernet port. -/
def State.setEthP (s : State) (i : Nat) (x : Eth) : State := { s with eth := tset {} s.eth i x }
/-- The replica of die `i` (S tile 0, F0 to F3 1 to 4). -/
def State.replica (s : State) (i : Nat) : Replica := tget {} s.bus.replicas i

/-- The field time of a replica at an instant of `now` in 2^-16 ns, its frame's step left out: the frame's marker,
interpolated at its rate (R12). -/
def rawTime (r : Replica) (t : Int) : Int :=
  let el : Int := (t - r.at_) * 2 ^ 16
  r.frame.marker + el + el * r.frame.rate / 2 ^ 48

/-- The field time of a replica at an instant of `now` in 2^-16 ns (R12, R20): interpolated from its frame, with an announced
step from its effective marker on; before the marker of a step already taken, the time before that step. -/
def timeAt (r : Replica) (t : Int) : FieldTime :=
  if !r.anyGood then 0
  else
    let u := rawTime r t
    let v := match r.frame.step with
      | some a => if (a.effective : Int) ≤ u then u + a.size * 2 ^ 16 else u
      | none => u
    (match r.past with | some (m, a) => if t < m then v - a.size * 2 ^ 16 else v | none => v).toNat

/-- The field time of a die's replica at an instant of `now` in ps (R12, R20). -/
def replicaAt (s : State) (die : Nat) (ps : Int) : FieldTime := timeAt (s.replica die) (ps * 65536 / 1000)

/-- The field time of a die's replica at `now` = `t`. -/
def replicaTimeAt (s : State) (die t : Nat) : FieldTime := timeAt (s.replica die) (t * 65536 : Nat)

/-- The field time of a die's replica now. -/
def replicaTime (s : State) (die : Nat) : FieldTime := replicaTimeAt s die s.now

/-- The module's own instant on the time base now, times 5, in 2^-16 ns (R52). -/
def baseNow5 (s : State) : Int := (s.tim.tick * 262144 : Nat)

/-- The field time of a time-base instant (2^-16 ns) at a die, in 2^-32 ns, before a step or after it as the instant lies
(R12, R20, R239). -/
def fieldOfBase (s : State) (die : Nat) (a : Int) : Int :=
  timeAt (s.replica die) ((s.now : Int) * 65536 + (5 * a - baseNow5 s) / 5)

/-- The time-base instant, 2^-16 ns, of a field time at a die. -/
def baseOfField (s : State) (die : Nat) (t : Int) : Int :=
  let d := t - replicaTime s die
  baseNow5 s / 5 + d * 2 ^ 48 / ((2 ^ 48 + (s.replica die).frame.rate) * 2 ^ 16)

/-- H_0 of the sealed event log (R203). -/
def logH0 : List Byte := sha384 (ascii 16 "KORIDE-KTG1024-M" ++ le 8 Config.serial)

/-- H of the log's head entry. -/
def EventLog.headHash (l : EventLog) : List Byte := l.head.getD logH0

/-- Bytes 0 to 23 of an entry (R203). -/
def entryBytes (seq : Nat) (w : LogWait) : List Byte :=
  le 4 seq ++ le 1 w.type ++ le 1 w.detail ++ le 2 w.id ++ le 8 w.timeUs ++ le 8 w.value

/-- Write one entry at the head of the ring of 65,536 (R203). -/
def logAppend (l : EventLog) (w : LogWait) : EventLog :=
  let h := sha384 (l.headHash ++ entryBytes l.nextSeq w)
  let e : LogEntry := ⟨l.nextSeq, w.type, w.detail, w.id, w.timeUs, w.value, h⟩
  { l with
    entries := (e :: l.entries).take 65536
    anchor := if l.entries.length < 65536 then l.anchor else ((l.entries.drop 65535).head?.map (·.hash)).getD l.anchor
    head := some h
    nextSeq := l.nextSeq + 1
    sinceAck := l.sinceAck + 1 }

/-- Write an entry, with a LOG_WRAP before it at each non-zero multiple of 65,536 (R204). -/
def logWrite (l : EventLog) (w : LogWait) : EventLog :=
  if l.nextSeq % 65536 = 0 ∧ l.nextSeq ≠ 0 then
    logAppend (logAppend l ⟨0x0C, 0, 0, w.timeUs, l.nextSeq / 65536⟩) w
  else logAppend l w

/-- Hold an entry in the 256-entry queue under LOG_FAULT; its overflow unbinds the bound until reset (R205). -/
def logQueue (l : EventLog) (w : LogWait) : EventLog :=
  if l.queue.length < 256 then { l with queue := l.queue ++ [w] } else { l with overflow := true }

/-- An entry can be written now: no LOG_FAULT holds and the flash takes it (R205). -/
def logTakes (l : EventLog) : Bool := !l.fault && !l.refuses

/-- The log after an event (R205): written at once, or queued under LOG_FAULT. -/
def logEvent (l : EventLog) (w : LogWait) : EventLog :=
  if logTakes l then logWrite l w else logQueue { l with fault := true } w

/-- The entry of an event at field time `us` microseconds; one that cannot be written sets LOG_FAULT (R205). -/
def logAt (us type detail id value : Nat) (s : State) : State :=
  let t := { s with
    log := logEvent s.log ⟨type, detail, id, us, value⟩
    bus := { s.bus with newLog := s.bus.newLog || logTakes s.log } }
  if s.log.fault || !s.log.refuses then t else setCond 0 5 true t

/-- The entry of an event at the present field time. -/
def logPut (type detail id value : Nat) (s : State) : State := logAt (ftUs s.acc) type detail id value s

/-- A 64-bit two's complement word. -/
def word64 (v : Int) : Nat := (v % 2 ^ 64).toNat

/-- The M tile leaves HOLDOVER (R176): logged with the row of R176 and the duration in microseconds. -/
def holdoverExit (row : Nat) (s : State) : State :=
  if s.osc.mState = .holdover then logPut 0x06 row 0 ((s.now - s.osc.entryNow) / 1000) s else s

/-- A step of a switch transaction. -/
def StepKind.isSwitch : StepKind → Bool
  | .switch _ => true
  | _ => false

/-- The committed steps whose announcement has begun by a field time: each marker is counted in the time that follows the steps
before it (R143). -/
def announcedSteps : Int → List PendingStep → List PendingStep
  | _, [] => []
  | t, p :: r => if t + (192 * us1 : Nat) < p.effective then [] else p :: announcedSteps (t + p.size * 2 ^ 16) r

/-- OSC0 loss drops committed steps whose first announcement frame lies ahead (R146). -/
def dropSteps (s : State) : State :=
  let kept := announcedSteps s.acc s.sel.steps
  let gone := s.sel.steps.drop kept.length
  { s with sel := { s.sel with
      steps := kept
      operatorUnbounded := s.sel.operatorUnbounded || gone.any (·.cleared)
      st := { s.sel.st with
        abortCount := min sat32 (s.sel.st.abortCount + (gone.filter (fun p => p.kind.isSwitch)).length)
        switchCount := s.sel.st.switchCount - (gone.filter (fun p => p.kind.isSwitch)).length } } }

/-- LOG_NEAR_WRAP (R205). -/
def logNearWrap (s : State) : Bool := decide (s.log.sinceAck > 57344)

/-- A seal-break window is open (R198). -/
def windowOpen (s : State) : Bool := s.sealing.windowAt.isSome

/-- The module is ARMED (R198). -/
def armed (s : State) : Bool := s.sealing.armedUntil.isSome

/-- The seal-break counter (R200). -/
def sealCount (s : State) : Nat := s.sealing.otpBits * 65536 + s.sealing.low

/-- One sealed field of a write: writing opcode, index, offset, and the value's bytes before and after (R197, R204). -/
structure SealedWrite where
  opcode : Nat
  index : Nat
  offset : Nat
  old : List Byte
  new : List Byte
  deriving DecidableEq, Repr

/-- The status of a write to sealed fields after its ranges are checked (R73, R195, R205): 0x00, SEALED or INTEGRITY. -/
def sealedStatus (s : State) (ws : List SealedWrite) : Nat :=
  if s.sealing.paramFault && !windowOpen s then (if ws = [] then 0 else 0x05)
  else if ws.all (fun w => w.old = w.new) then 0
  else if !windowOpen s then 0x05
  else if s.log.fault then 0x0A
  else 0

/-- The class ceiling CLASS_MAX of a host ring (R471). -/
def ringMax (s : State) (r : Nat) : Nat := if r = 0 ∧ s.pwr.prov.hostKeeper then 2 else 1

/-- Ring pair `r`. -/
def State.ring (s : State) (r : Nat) : Ring := tget {} s.kcp.rings r
/-- Replace a ring pair. -/
def State.setRing (s : State) (r : Nat) (x : Ring) : State :=
  { s with kcp := { s.kcp with rings := tset {} s.kcp.rings r x } }

/-- The module is owned (R548): OWNER_GEN 0 is the factory's. -/
def owned (s : State) : Bool := decide (s.pwr.prov.ownerGen ≠ 0)

/-- The class ceiling of a source (R471): 0 observer, 1 operator, 2 keeper. -/
def ceiling (s : State) (src : Source) : Nat :=
  match src with
  | .ring r => ((s.ring r).cls).getD (ringMax s r)
  | .sideband => s.pwr.prov.plainClass
  | .session true => if owned s ∧ s.kcp.sb.session ∧ s.kcp.sb.mutual_ then s.pwr.prov.sessionClass else 0
  | .session false => 0
  | .internal => 0

/-- Replace the time base. -/
def State.setTb (s : State) (x : TimeBase) : State := { s with tim := { s.tim with tb := x } }
/-- Replace what selection reports. -/
def State.setSel (s : State) (x : SelSt) : State := { s with sel := { s.sel with st := x } }

end Sys2Proof.Machine
end

