-- ==== Sys2Proof/Machine/Exec.lean ====
section
/-! DEFINITION. How a command of the protocol runs: the checks of R470, the condition of R487, its effect, the generations
and its reply (R469, R486 to R490). -/

namespace Sys2Proof.Machine
open Sys2Proof

/-- Status codes (R489). -/
def stOK : Nat := 0x00
def stPENDING : Nat := 0x01
def stBUSY : Nat := 0x02
def stGEN : Nat := 0x03
def stDENIED : Nat := 0x04
def stSEALED : Nat := 0x05
def stBAD : Nat := 0x06
def stNORES : Nat := 0x07
def stUNSUP : Nat := 0x08
def stTIMEOUT : Nat := 0x09
def stINTEGRITY : Nat := 0x0A
def stSTATE : Nat := 0x0B
def stABORTED : Nat := 0x0C

/-- What a command's effect answers: the state it leaves, and its reply's status, detail and payload; `hold` when the reply
comes at a later event off the mailbox, `wait` when it occupies the mailbox until then, `keep` when a status other than OK
and PENDING leaves a state the rules name (R555), `gen` the generation at which the reply's values were read where that is
not the present one (R488). -/
structure Res where
  st : State
  status : Nat := 0
  detail : Nat := 0
  payload : List Byte := []
  hold : Bool := false
  wait : Bool := false
  keep : Bool := false
  gen : Option Nat := none
  deriving DecidableEq, Repr

/-- OK with a reply payload. -/
def ok (s : State) (p : List Byte) : Res := { st := s, payload := p }
/-- A status other than OK: nothing changed (R489). -/
def err (s : State) (status : Nat) : Res := { st := s, status := status }
/-- BAD_PARAM at a payload offset (R489). -/
def bad (s : State) (off : Nat) : Res := { st := s, status := stBAD, detail := if off ≤ 253 then off else 0xFE }
/-- BAD_PARAM for a LENGTH that matches no form (R489). -/
def badLen (s : State) : Res := { st := s, status := stBAD, detail := 0xFF }
/-- BUSY because an operation of the same kind is in progress (R489). -/
def busy (s : State) : Res := { st := s, status := stBUSY, detail := 0x02 }
/-- PENDING (R489). -/
def pend (s : State) (p : List Byte) : Res := { st := s, status := stPENDING, payload := p }
/-- The reply comes at a later event. -/
def held (s : State) : Res := { st := s, hold := true }
/-- The reply comes at a later event, and the command occupies the mailbox until then (R16). -/
def waits (s : State) : Res := { st := s, hold := true, wait := true }

/-- The effect of an opcode. -/
abbrev Body := Cmd → State → Res

/-- The bytes of a request's payload that no rule bounds are within a list of (offset, range test) checks: the offset of
the first that fails (R489). -/
def firstBad : List (Nat × Bool) → Option Nat
  | [] => none
  | (off, good) :: t => if good then firstBad t else some off

/-- Answer BAD_PARAM at the first failing check, else go on. -/
def checked (s : State) (cs : List (Nat × Bool)) (k : Res) : Res :=
  match firstBad cs with
  | some off => bad s off
  | none => k

/-- Bytes `off` to `off + n − 1` are zero. -/
def zeroAt (p : List Byte) (off n : Nat) : Nat × Bool := (off, rd p off n == 0)

/-- Group of an opcode (R498). -/
def groupOf (opcode : Nat) : Nat := opcode / 256

/-- FLAGS bit 0 (R469). -/
def Cmd.conditional (c : Cmd) : Bool := bit c.req.flags 0
/-- FLAGS bit 1 (R469). -/
def Cmd.noReply (c : Cmd) : Bool := bit c.req.flags 1
/-- FLAGS bit 2 (R469). -/
def Cmd.fence (c : Cmd) : Bool := bit c.req.flags 2

/-- GG of a group (R487). -/
def groupGen (s : State) (g : Nat) : Nat := tget 0 s.kcp.gg g

/-- The reply of a command. -/
def mkReply (c : Cmd) (now status detail gen : Nat) (p : List Byte) : Reply :=
  ⟨c.id, c.req.src, c.opcode, c.req.tag, status, detail, gen, p, now⟩

/-- Build the reply in the command's slot; NO_REPLY delivers none whose status is OK (R490), and a command whose link or
session has ended has its reply discarded (R476, R483). -/
def addReply (c : Cmd) (status detail gen : Nat) (p : List Byte) (s : State) : State :=
  if c.lost || (c.noReply && status == stOK) then s
  else { s with kcp := { s.kcp with replies := s.kcp.replies ++ [mkReply c s.now status detail gen p] } }

/-- End a command that ran from `s0`: the generations (R486), then its reply with GEN_AFTER (R488). -/
def conclude (c : Cmd) (s0 : State) (r : Res) : State :=
  if r.hold then
    let s1 := commitG s0 r.st
    { s1 with kcp := { s1.kcp with
      slots := s1.kcp.slots ++ [if r.wait then { c with phase := .waiting } else { c with phase := .held, since := s1.now }] } }
  else if r.status = stOK then
    addReply c r.status r.detail (r.gen.getD (commitG s0 r.st).kcp.g) r.payload (commitG s0 r.st)
  else if r.status = stPENDING then
    addReply c r.status r.detail c.accGen r.payload (commitG s0 r.st)
  else addReply c r.status r.detail s0.kcp.g r.payload (if r.keep then r.st else s0)

/-- Run an accepted command: the generation condition of R487, then its effect. -/
def runCmd (body : Body) (c : Cmd) (s : State) : State :=
  if c.conditional && decide (c.req.expGen < groupGen s (groupOf c.opcode)) then
    addReply c stGEN (groupOf c.opcode) s.kcp.g [] s
  else conclude c s (body c s)

/-- The command processor serves requests: the S tile has left BOOT, or its ROM's recovery responder runs (R545, R551). -/
def serving (s : State) : Bool := decide (s.pwr.sState ≠ 0) || s.pwr.recovery

/-- The recovery responder answers in place of the command processor (R551). -/
def inRecovery (s : State) : Bool := decide (s.pwr.sState = 0) && s.pwr.recovery

/-- What the recovery responder serves: IDENTIFY, ECHO, GET_GENERATION, IMAGE_STAGE and IMAGE_ACTIVATE of KIND 1 (R551). -/
def recoveryServes (opcode : Nat) (p : List Byte) : Bool :=
  match opcode with
  | 0x0001 => true
  | 0x0003 => true
  | 0x0006 => true
  | 0x0008 => rd p 0 1 == 1
  | 0x0009 => rd p 0 1 == 1
  | _ => false

/-- Commands relayed to Nuheif (R196, R498, R554): groups 0x01 to 0x06, writes of FUR_PORT_CONFIG and ETH_ASYM_CAL that carry
sealed fields, TAN_COMPARE_LIMITS, images of KIND 0, loop-backs of the GNSS baseband and of REFIN inputs (INTERFACE 5 and 6),
fault block 0. -/
def relayed (opcode : Nat) (p : List Byte) : Bool :=
  match opcode with
  | 0x0008 => rd p 0 1 == 0
  | 0x0009 => rd p 0 1 == 0
  | 0x0701 => decide (p.length = 64)
  | 0x0805 => rd p 0 1 == 1
  | 0x0D04 => true
  | 0x1001 => rd p 0 1 == 5 || rd p 0 1 == 6
  | 0x1002 => rd p 0 1 == 5 || rd p 0 1 == 6
  | 0x1101 => rd p 0 1 == 0
  | 0x1102 => rd p 0 1 == 0
  | _ => decide (1 ≤ groupOf opcode) && decide (groupOf opcode ≤ 6)

/-- A relayed command finds no one to run it: Nuheif is not up, nor its ROM for an image (R552). -/
def unreached (s : State) (opcode : Nat) (p : List Byte) : Bool :=
  relayed opcode p && !s.pwr.nuheifUp && !(s.pwr.mRecovery && (opcode == 0x0008 || opcode == 0x0009))

/-- Checks 2 to 5 of R470, or the recovery responder's (R551): the status and detail of the first that fails. -/
def classChecks (s : State) (c : Cmd) (least : Nat) : Option (Nat × Nat) :=
  if c.req.flags ≥ 8 ∨ c.req.priv > 2 then some (stBAD, 0xFF)
  else if inRecovery s then (if recoveryServes c.opcode c.req.payload then none else some (stUNSUP, 0))
  else if c.req.priv > ceiling s c.req.src then some (stDENIED, 0xFF)
  else if c.req.priv < least then some (stDENIED, least)
  else none

/-- The command of a row: its number, opcode and request. -/
def rowCmd (opcode : Nat) (rq : Request) (s : State) : Cmd :=
  { id := s.kcp.nextId, opcode := opcode, req := rq, since := s.now, first := s.now, accAt := s.now, accGen := s.kcp.g }

/-- The next command number is used up. -/
def takeId (s : State) : State := { s with kcp := { s.kcp with nextId := s.kcp.nextId + 1 } }

/-- A command row: the checks of R470, then the command runs. Nothing serves it in BOOT (R545); a relayed one that reaches
no one is answered TIMEOUT (R489). -/
def runRow (opcode least : Nat) (body : Body) (rq : Request) (s : State) : State :=
  if !serving s then s
  else match classChecks s (rowCmd opcode rq s) least with
    | some (st, d) => addReply (rowCmd opcode rq s) st d s.kcp.g [] (takeId s)
    | none =>
      if unreached s opcode rq.payload then addReply (rowCmd opcode rq s) stTIMEOUT 0 s.kcp.g [] (takeId s)
      else runCmd body (rowCmd opcode rq s) (takeId s)

/-- The meaning of a command row. -/
def kcpRow (opcode least : Nat) (body : Body) (rq : Request) (s : State) : Out := .next (runRow opcode least body rq s)

/-- A request whose byte at `off` is `v`: a row that is one ACTION of an opcode (spec/opcode_table.json) carries it. -/
def withByte (off v : Nat) (rq : Request) : Request :=
  { rq with payload := rq.payload.set off (BitVec.ofNat 8 v) }

/-- Answer a held command: its slot becomes its reply. -/
def answerHeld (id : Nat) (f : Cmd → State → Res) (s : State) : State :=
  match s.kcp.slots.find? (fun c => c.id == id) with
  | none => s
  | some c =>
    let s1 := { s with kcp := { s.kcp with slots := s.kcp.slots.filter (fun x => x.id != id) } }
    conclude c s1 (f c s1)

/-- The OK replies that a row adds bear G with the row's own increment (R488). -/
def stampReplies (s t : State) : State :=
  let n := s.kcp.replies.length
  { t with kcp := { t.kcp with
      replies := t.kcp.replies.take n ++ (t.kcp.replies.drop n).map (fun r => if r.status = stOK then { r with gen := t.kcp.g } else r) } }

/-- A row that goes on and may answer held commands. -/
def doneHeld (s s' : State) : Out := .next (stampReplies s (commitG s s'))

/-- Count an event of a performance counter (R520): 48 bits, OVF at the wrap. -/
def perfAdd (e n : Nat) (s : State) : State :=
  let x := tget {} s.regs.perf e
  let y : Perf := ⟨(x.count + n) % 2 ^ 48, x.ovf || decide (x.count + n ≥ 2 ^ 48)⟩
  { s with regs := { s.regs with perf := tset {} s.regs.perf e y } }

end Sys2Proof.Machine
end

