-- ==== Sys2Proof/Machine/Qual.lean ====
section
/-! DEFINITION. Qualification of reference slots as several blocks' events act on it: effective uncertainty (R98, R109),
labels (R123), prerequisites and their loss (R115, R116), the activity and phase monitors (R111, R113), phases (R108),
duplex comparison (R120, R121), UTC offers (R127). -/

namespace Sys2Proof.Machine
open Sys2Proof

/-- Number of reference slots (R107). -/
def numSlots : Nat := 20

/-- KIND of a slot (R107, R129): 0 PHASE, 1 FREQUENCY, 2 TIME. -/
def kindOf (i : Nat) (c : RefCfg) : Nat := if i ≥ 8 then 2 else c.kind.getD 0
/-- KIND of slot `i` in force. -/
def slotKind (s : State) (i : Nat) : Nat := kindOf i (s.slot i).cfg
/-- PRIORITY of slot `i` in force (R129). -/
def slotPriority (s : State) (i : Nat) : Nat := (s.slot i).cfg.priority.getD i

/-- Prescaler N of a nominal frequency (R65). -/
def prescalerN (f : Nat) : Nat := divUp f 1000000

/-- The furrow port in leaf mode that feeds slot `i` (R107, R269). -/
def leafPort (s : State) (i : Nat) : Option Nat :=
  (s.fur.ports.find? (fun e => e.2.cfg.leaf && e.2.cfg.slot == i)).map (·.1)

/-- A slot's nominal event period as a fraction of 2^-32 ns: numerator and denominator (R107). -/
def slotPeriod (s : State) (i : Nat) : Nat × Nat :=
  if i < 8 then
    if slotKind s i = 1 then (prescalerN (s.slot i).cfg.nomFreq * s1, (s.slot i).cfg.nomFreq) else (s1, 1)
  else if i = 8 then (s1, 1)
  else if i ≤ 10 then
    let l := (tget {} s.svc.up (i - 9)).cfg.syncLog
    if 0 ≤ l then (s1 * 2 ^ l.toNat, 1) else (s1, 2 ^ (-l).toNat)
  else if i ≤ 18 then
    match leafPort s i with
    | some p => ((s.port p).cfg.period * us1, 1)
    | none => (us1, 1)
  else (ms1, 1)

/-- The period rounded down to 2^-32 ns. -/
def slotPeriodFt (s : State) (i : Nat) : FieldTime := (slotPeriod s i).1 / (slotPeriod s i).2

/-- The position term of slot 8 in 2^-64 … as picoseconds rounded up, none in NO_POSITION (R89): uncertainty in mm over c. -/
def posTermPs (s : State) : Option Nat :=
  match s.gnss.mode with
  | .noPosition => none
  | .survey => some 0
  | .hold => some (divUp ((s.gnss.position.getD {}).unc * 1000000000) 299792458)

/-- Declared uncertainty of slot 8 (R98): the saturating sum, rounded up once. The receiver delay is 0.5 ns. -/
def gnssUnc (s : State) : Bound :=
  let c := s.gnss.terms
  let base := [c.ionoTerm, c.tropoTerm, c.sisTerm, c.antDelayUnc, 0x20].foldl addB 0
  if (tget {} s.tst.loops (4096 * 5)).depth ≠ 0 then unbounded
  else match s.gnss.mode with
  | .noPosition => unbounded
  | .survey => addB base c.surveyPosTerm
  | .hold => addB base (divUp ((posTermPs s).getD 0 * 64) 1000)

/-- Effective declared uncertainty of a slot (R109). -/
def effUnc (s : State) (i : Nat) : Bound :=
  if i = 8 then gnssUnc s
  else if i ≥ 9 then addB (s.slot i).cfg.declaredUnc (s.slot i).ub
  else (s.slot i).cfg.declaredUnc

/-- The privileged channel that times a slot (R62, R107, R432). -/
def slotChan (i : Nat) : Option Nat := if i ≤ 8 then some i else if i = 19 then some 13 else none
/-- The slot that a privileged channel times. -/
def chanSlot (n : Nat) : Option Nat := if n ≤ 8 then some n else if n = 13 then some 19 else none

/-- A slot's privileged channel, where it has one, is locked. -/
def chanOk (s : State) (i : Nat) : Bool := match slotChan i with | some n => (s.chan n).lock | none => true

/-- LABEL_SRC of a PHASE slot in force (R132). -/
def labelSrc (s : State) (i : Nat) : Nat := s.ref.tod.labelSrc.getD i 0

/-- A labelling source is valid (R123, R125). A disabled TIME slot's monitor has not failed: it stays valid on its former
phase (DESIGN CHOICE, log entry 21: the rule speaks of no disabled source). -/
def labelValid (s : State) (i : Nat) : Bool :=
  let c := labelSrc s i
  if c = 0 then false
  else if c ≤ 2 then
    (tget {} s.ref.uarts (c - 1)).valid &&
      (!bit (if c = 1 then s.ref.tod.fmt0 else s.ref.tod.fmt1) 0 || s.utc.valid)
  else if c = 0x20 then s.sel.secondsSet
  else (s.slot c).phase.isSome && !(s.slot c).act.failed

/-- The pair a slot belongs to, when bound (R120). -/
def boundPair (s : State) (i : Nat) : Option Nat := if i < 8 ∧ (s.dup (i / 2)).cfg.bind then some (i / 2) else none

/-- The slot is a member of a bound pair whose discrepancy is latched (R115). -/
def pairLatched (s : State) (i : Nat) : Bool := match boundPair s i with | some p => (s.dup p).latched | none => false

/-- Prerequisites that hold a QUALIFIED slot (R116): all of R115 but OVEN_RDY and the pair's agreement. -/
def keeps (s : State) (i : Nat) : Bool :=
  !(s.slot i).act.failed && chanOk s i && !pairLatched s i &&
    (slotKind s i != 0 || labelValid s i) && effUnc s i != unbounded

/-- All prerequisites of R115; `qual` says the slot is QUALIFYING. -/
def prereqs (s : State) (i : Nat) (qual : Bool) : Bool :=
  s.tim.tb.ovenHigh && keeps s i && !(qual && (s.slot i).disagreed)

/-- A slot's state changes (R133): its timer is cleared; entering QUALIFYING opens a new span of agreement and phases, and a
wait-to-restore timer ends with QUALIFIED (R135, R157). -/
def toState (now : Nat) (acc : FieldTime) (x : Slot) (q : QualState) : Slot :=
  if x.st.state = q then x
  else
    { x with
      st := { x.st with state := q, timer := 0, inBand := x.st.inBand && q == .qualified }
      changedAt := now
      qualAt := if q = .qualifying then acc else x.qualAt
      sinceQual := if q = .qualifying then 0 else x.sinceQual
      disagreed := if q = .qualifying then false else x.disagreed
      wtrEnd := none, wtrRun := false }

/-- Leave QUALIFIED or QUALIFYING for a lost prerequisite (R116). -/
def dropSlot (now : Nat) (acc : FieldTime) (x : Slot) : Slot :=
  let x' := toState now acc x .unqualified
  if x.st.state = .qualified then { x' with st := { x'.st with disqual := satInc sat16 x'.st.disqual } } else x'

/-- One slot after prerequisites may have been lost (R116); a held slot is frozen (R118). -/
def dropOne (s : State) (i : Nat) : State :=
  let x := s.slot i
  if x.st.held then s
  else match x.st.state with
    | .qualified => if keeps s i then s else s.setSlot i (dropSlot s.now s.acc x)
    | .qualifying => if prereqs s i true then s else s.setSlot i (dropSlot s.now s.acc x)
    | _ => s

/-- Every slot after prerequisites may have been lost. -/
def dropLost (s : State) : State := (List.range numSlots).foldl dropOne s

/-- UNCHECKED of every bound pair: either slot's activity monitor has failed (R120). -/
def refreshUnchecked (s : State) : State :=
  (List.range 4).foldl (fun s p =>
    s.setDup p { s.dup p with
      unchecked := (s.dup p).cfg.bind && ((s.slot (2 * p)).act.failed || (s.slot (2 * p + 1)).act.failed) }) s

/-- |a − b| ≤ w. -/
def within (a b w : Nat) : Bool := decide (a ≤ b + w) && decide (b ≤ a + w)

/-- The activity monitor at an event (R111). The first event of a slot without a prediction is neither expected nor extra:
it is the base of the predictions (DESIGN CHOICE, log entry 21). -/
def activityEvent (now p : Nat) (t : FieldTime) (a : Activity) : Activity :=
  match a.predict with
  | none => { a with predict := some (t + p), missRun := 0, goodFrom := if a.failed then none else a.goodFrom.or (some now) }
  | some q =>
    if within t q (p / 4) || a.base.any (fun b => within t b (p / 4)) then
      { a with predict := some (t + p), missRun := 0, failed := false, byUnlock := false, base := []
               goodFrom := a.goodFrom.or (some now) }
    else
      { a with
        extra := satInc sat32 a.extra
        base := if a.failed then (t + p) :: a.base.filter (fun b => decide (t ≤ b + p / 4)) else [] }

/-- The activity monitor when its prediction window closes without an event (R111); `unlocked` says that the slot's channel
is unlocked then (R134). -/
def activityMiss (p miss : Nat) (unlocked : Bool) (a : Activity) : Activity :=
  let fails := decide (a.missRun + 1 ≥ miss)
  { a with
    predict := a.predict.map (· + p)
    missed := satInc sat32 a.missed
    missRun := a.missRun + 1
    failed := a.failed || fails
    byUnlock := if a.failed then a.byUnlock else fails && unlocked
    goodFrom := if fails then none else a.goodFrom }

/-- The latest phase of a TIME slot on the timescale in force: its newest stored phase, which follows steps, else the last
phase it reports. -/
def timePhase (x : Slot) : Option Interval := ((x.pts.head?).map (·.phase)).or x.phase

/-- The corresponding instant of the timescale for a PHASE slot (R108, R123): the second a source labels the edge with. A TIME
source whose activity monitor has failed labels none. -/
def labelOf (s : State) (i : Nat) (t : FieldTime) : Option Nat :=
  let c := labelSrc s i
  if c = 0x20 then some (divNear t s1)
  else if 8 ≤ c ∧ c ≤ 19 then
    (if (s.slot c).act.failed then none else timePhase (s.slot c)).map (fun ph => ((((t : Int) - ph * 2 ^ 16) * 2 + s1) / (2 * s1)).toNat)
  else if c = 1 ∨ c = 2 then
    match (s.slot i).nextLabel with
    | some (l, stop) => if stop + 10 * ms1 < t ∧ t ≤ stop + 990 * ms1 then some l else none
    | none => none
  else none

/-- The phase of an event at slot `i` (R108), less CAL_DELAY: for a TIME slot what its source measured. -/
def eventPhase (s : State) (i : Nat) (t : FieldTime) (measured : Option Interval) : Option Interval :=
  let cal := (s.slot i).cfg.calDelay
  match slotKind s i with
  | 0 => (labelOf s i t).map (fun l => satI (divTrunc ((t : Int) - (l * s1 : Nat)) (2 ^ 16) - cal))
  | 1 =>
    let f := (s.slot i).cfg.nomFreq
    let n := prescalerN f * s1
    let k := divNear (t * f) n
    some (satI (divTrunc (((t * f : Nat) : Int) - (k * n : Nat)) (f * 2 ^ 16) - cal))
  | _ => measured.map (fun m => satI (m - cal))

/-- |phase| is above a bound (R113). -/
def above (v : Interval) (b : Bound) : Bool := b != unbounded && decide (v.natAbs > b * 1024)

/-- Put a phase among the stored phases by its instant, newest first; what the monitors and selection can use is kept:
the last 64 s and at least 16 phases (R112, R141). -/
def storePhase (pt : PhasePt) (l : List PhasePt) : List PhasePt :=
  let l1 := l.takeWhile (fun x => decide (x.at_ > pt.at_)) ++ pt :: l.dropWhile (fun x => decide (x.at_ > pt.at_))
  let newest := (l1.head?.map (·.at_)).getD 0
  l1.take 16 ++ (l1.drop 16).takeWhile (fun x => decide (newest ≤ x.at_ + 64 * s1))

/-- A phase reaches the monitors and the stored phases (R108, R113). -/
def takePhase (i : Nat) (pt : PhasePt) (s : State) : State :=
  let x := s.slot i
  s.setSlot i { x with
    phase := some pt.phase
    pts := storePhase pt x.pts
    st := { x.st with phaseAlarm := above pt.phase x.lim.phaseAlarm } }

/-- `n` phases of slot `i` count for selection (R135); the mean of those that enter the DPLL is `m`, and `k` of them are stored
for the detection of phase changes (R150, R152). -/
def enterPhases (i n k : Nat) (m : Option Interval) (s : State) : State :=
  let x := s.slot i
  let s1 := s.setSlot i { x with
    sinceQual := if x.st.state = .qualifying ∨ x.st.state = .qualified then x.sinceQual + n else x.sinceQual }
  if s.sel.st.selected = some i then
    { s1 with sel := { s1.sel with
      entering := s1.sel.entering ++ m.toList, fresh := s1.sel.fresh + k, sinceStep := s1.sel.sinceStep + k } }
  else s1

/-- Deliver a phase to the monitors and to selection (R108, R113, R135, R154). -/
def deliver (i : Nat) (pt : PhasePt) (s : State) : State := enterPhases i 1 1 (some pt.phase) (takePhase i pt s)

/-- N of a duplex pair (R121): T_DISC over the passed-edge period. -/
def dupN (s : State) (p : Nat) : Nat :=
  let t := (s.dup p).cfg.tDisc
  if slotKind s (2 * p) = 1 then
    divUp (t * (s.slot (2 * p)).cfg.nomFreq) (1000 * prescalerN (s.slot (2 * p)).cfg.nomFreq)
  else divUp t 1000

/-- A compared edge pair (R121): the run extends, or ends. -/
def dupCompare (n : Nat) (disagree : Bool) (d : Duplex) : Duplex × Bool :=
  if disagree then
    if d.run + 1 ≥ n ∧ !d.latched then
      ({ d with run := d.run + 1, discCount := satInc sat16 d.discCount, latched := true }, true)
    else ({ d with run := d.run + 1 }, false)
  else
    ({ d with
      run := 0
      nearMiss := if d.run ≠ 0 ∧ d.run + 1 = n then satInc sat32 d.nearMiss else d.nearMiss
      latched := false }, false)

/-- One disagreeing edge while a slot of the pair is QUALIFYING (R115, R121). -/
def markDisagreed (i : Nat) (s : State) : State :=
  if (s.slot i).st.state = .qualifying then s.setSlot i { s.slot i with disagreed := true } else s

/-- The duplex check of an edge at slot `i` (R120, R121). -/
def duplexEdge (i : Nat) (t : FieldTime) (phase : Interval) (s : State) : State :=
  match boundPair s i with
  | none => s
  | some p =>
    let d := s.dup p
    let odd := i % 2 == 1
    match d.waiting with
    | some (o, t', ph) =>
      if o != odd && within t t' (slotPeriodFt s i / 4) then
        let pe := if odd then ph else phase
        let po := if odd then phase else ph
        let disagree := decide ((pe - d.cfg.offset - po).natAbs * 1000 > d.cfg.limit * 65536)
        let r := dupCompare (dupN s p) disagree { d with waiting := none }
        let s1 := s.setDup p r.1
        let s2 := if disagree then markDisagreed (2 * p) (markDisagreed (2 * p + 1) s1) else s1
        dropLost (if r.2 then setSticky 0 7 s2 else s2)
      else s.setDup p { d with waiting := some (odd, t, phase) }
    | none => s.setDup p { d with waiting := some (odd, t, phase) }

/-- The nearest second's phase of an edge: R120 compares phases and says nothing of an edge whose label is not known when it
comes, so such edges are compared by this one (DESIGN CHOICE, log entry 21). -/
def rawPhase (s : State) (i : Nat) (t : FieldTime) : Interval :=
  satI (divTrunc ((t : Int) - (divNear t s1 * s1 : Nat)) (2 ^ 16) - (s.slot i).cfg.calDelay)

/-- The internal edge generator drives a REFIN slot (R564). -/
def edgeGen (s : State) (i : Nat) : Bool := decide (i < 8) && decide ((tget {} s.tst.loops (4096 * 6 + i)).depth ≠ 0)

/-- An edge of the generator (R564): the held slot's phase monitor goes on, and the duplex check takes the edge. -/
def generatedEdge (i : Nat) (ev : SlotEvent) (s : State) : State :=
  let x := s.slot i
  if ev.invalid || ev.unlock then s
  else
    let ph := eventPhase s i ev.at_ ev.phase
    let s1 := match ph with
      | none => s
      | some v => s.setSlot i { x with phase := some v, st := { x.st with phaseAlarm := above v x.lim.phaseAlarm } }
    duplexEdge i ev.at_ (ph.getD (rawPhase s i ev.at_)) s1

/-- A source supplies a UTC offset (R127). -/
def offerUtc (code : Nat) (offset : Int) (s : State) : State :=
  { s with utc := { s.utc with offers := tset (0, 0) s.utc.offers code (offset, s.now + 1) } }

/-- The TAI second of the marker at which a leap second at the start of UTC day `day` takes effect (R38). -/
def leapSecondAt (day : Nat) (offset : Int) (positive : Bool) : Nat :=
  (((day * 86400 : Nat) : Int) + offset + (if positive then 1 else -1)).toNat

/-- The announcement is for the end of the last UTC day of a month (R37). -/
def leapAllowed (a : LeapAnn) : Bool := decide ((civil a.day).2.2 = 1)

/-- The TAI second of an announcement's marker under the offset in force (R38). -/
def leapSec (s : State) (a : LeapAnn) : Nat := leapSecondAt a.day s.utc.offset a.positive

/-- A source announces or withdraws a leap second (R37, R127); each refused announcement is counted. -/
def offerLeap (code : Nat) (a : Option LeapAnn) (s : State) : State :=
  let d : LeapAnn := ⟨0, true⟩
  match a with
  | none => { s with utc := { s.utc with leapOffers := terase s.utc.leapOffers code } }
  | some x =>
    if leapAllowed x then
      { s with utc := { s.utc with leapOffers := tset d s.utc.leapOffers code x } }
    else { s with utc := { s.utc with refused := satInc sat32 s.utc.refused } }

/-- The leap announcement of page 18 (R92), while Δt_LSF differs from Δt_LS: day DN of week WN_LSF ends as the UTC day begins
that stands 3,657 + 7 WN_LSF + DN days after 1970-01-01. -/
def page18Leap (q : Page18) : Option LeapAnn :=
  if q.dtLs = q.dtLsf then none else some ⟨3657 + 7 * q.wnLsf + q.dn, decide (q.dtLs < q.dtLsf)⟩

/-- The TAI second of the marker of page 18's event. -/
def page18Sec (q : Page18) (a : LeapAnn) : Nat := leapSecondAt a.day (q.dtLs + 19) a.positive

/-- The UTC offset of page 18 (R92): Δt_LS + 19 s, and Δt_LSF + 19 s once the announced event has passed, so that the leap
second of R38 stands until the next page 18 (DEDUCED, log entry 20). -/
def page18Offset (sec : Nat) (q : Page18) : Int :=
  match page18Leap q with
  | some a => if page18Sec q a ≤ sec then q.dtLsf + 19 else q.dtLs + 19
  | none => q.dtLs + 19

/-- The ToD fields of a furrow or tandem source at TAI second `sec` (R127, R230, R422): a leap indicator announces the leap at
the end of the UTC day then in progress by the source's own offset (R37); LEAP61 at a day's first second is 23:59:60, which is of
the day before. -/
def todFlags (sec : Nat) (offset : Int) (valid leap61 leap59 : Bool) : TodFields :=
  { offset := if valid then some offset else none
    leap := if valid && (leap61 || leap59) then some ((((sec : Int) - offset - (if leap61 then 1 else 0)) / 86400 + 1).toNat, leap61) else none }

/-- What a source's ToD fields say (R18, R127). -/
def offerTod (code : Nat) (t : TodFields) (s : State) : State :=
  offerLeap code (t.leap.map (fun l => ⟨l.1, l.2⟩)) (match t.offset with | some o => offerUtc code o s | none => s)

/-- A UART source after a label (R123): valid after three, each 1 s above the last. -/
def uartLabel (now second : Nat) (u : Uart) : Uart :=
  if u.last.map (· + 1) = some second then
    { u with run := u.run + 1, valid := u.valid || decide (u.run + 1 ≥ 3), last := some second, lastAt := now }
  else { u with run := 1, valid := false, last := some second, lastAt := now }

/-- UART `u`. -/
def State.uart (s : State) (u : Nat) : Uart := tget {} s.ref.uarts u
/-- Replace a UART. -/
def State.setUart (s : State) (u : Nat) (x : Uart) : State := { s with ref := { s.ref with uarts := tset {} s.ref.uarts u x } }

/-- A UART's message has labelled an edge (R123, R124): the label counts for the source's validity, and what the message
says of UTC is offered. -/
def todTaken (u second : Nat) (offset : Option Int) (leap : Option LeapAnn) (s : State) : State :=
  let fmt := if u = 0 then s.ref.tod.fmt0 else s.ref.tod.fmt1
  let s1 := s.setUart u (uartLabel s.now second (s.uart u))
  let s2 := match offset with | some o => offerUtc (u + 1) o s1 | none => s1
  if bit fmt 0 then s2 else offerLeap (u + 1) leap s2

/-- The first edge that a waiting NEXT-mode message labels (R124); a further slot's edge changes nothing more. -/
def nextTaken (u : Nat) (s : State) : State :=
  match (s.uart u).waiting with
  | some w => todTaken u w.second w.offset w.leap (s.setUart u { s.uart u with waiting := none })
  | none => s

/-- A measurement event of a slot (R107, R108, R111): a record with INVALID is a missing event, and so is one of a channel
that is unlocked (R64). -/
def slotEvent (i : Nat) (ev : SlotEvent) (s : State) : State :=
  let x := s.slot i
  if ev.invalid || ev.unlock || !chanOk s i then s
  else if edgeGen s i then generatedEdge i ev s
  else if !x.cfg.enable || x.st.held || inSafe s 0 i then s
  else
    let ph := eventPhase s i ev.at_ ev.phase
    let a := activityEvent s.now (slotPeriodFt s i) ev.at_ x.act
    let uart := decide (slotKind s i = 0) && (labelSrc s i == 1 || labelSrc s i == 2)
    let s1 := s.setSlot i { x with
      act := a
      ub := ev.ub
      edges := if uart && ph.isNone then ev.at_ :: x.edges.filter (fun t => decide (ev.at_ < t + s1)) else x.edges
      nextLabel := if ph.isSome then none else x.nextLabel
      st := { x.st with prov := ev.prov } }
    let s2 := match ph with
      | none => s1
      | some v =>
        if uart then
          nextTaken (labelSrc s i - 1)
            (s1.setSlot i { s1.slot i with undelivered := (s1.slot i).undelivered ++ [⟨ev.at_, v, ev.ub⟩] })
        else deliver i ⟨ev.at_, v, ev.ub⟩ s1
    dropLost (refreshUnchecked (duplexEdge i ev.at_ (ph.getD (rawPhase s i ev.at_)) s2))

/-- An event of a slot that reaches Nuheif in measurement reports (R18, R107, R108): the activity monitor acts at its instant,
and its phase waits for the slot's next measurement report. -/
def tileEvent (i : Nat) (ev : SlotEvent) (s : State) : State :=
  let x := s.slot i
  if ev.invalid || ev.unlock || !x.cfg.enable || x.st.held || inSafe s 0 i then s
  else
    let s1 := s.setSlot i { x with act := activityEvent s.now (slotPeriodFt s i) ev.at_ x.act }
    match eventPhase s i ev.at_ ev.phase with
    | none => s1
    | some v =>
      { s1 with bus := { s1.bus with
        gathered := s1.bus.gathered ++ [(i, ⟨ev.at_, v, ev.ub, ev.tod, ev.prov, ev.hops, ev.originId, false⟩)] } }

/-- REF_EVENT (R107, R108): slots 9 to 18 are the tiles', and the channel 13 edge that gives slot 19 its event waits for the
partner's TIME_WORD (R432). -/
def refEvent (i : Nat) (ev : SlotEvent) (s : State) : State :=
  if i = 19 then
    if ev.invalid || ev.unlock || !chanOk s 19 then s
    else { s with tan := { s.tan with edge13 := some (ev.at_, ev.prov) } }
  else if 9 ≤ i then tileEvent i ev s
  else slotEvent i ev s


/-- Nuheif reads one slot measurement report (R18): its latest phases, their bounds and ToD fields, HOPS and ORIGIN_ID. The
source code of a slot is its number (R127). Phases taken before an effective marker that has come since are stored, moved with
the timescale, and enter neither the loop nor the detection of R150, as those of slots 0 to 8 (DEDUCED, log entry 23). -/
def readReport (r : SlotReport) (s : State) : State :=
  let x := s.slot r.slot
  let last := r.latest.getLast?
  let s1 := s.setSlot r.slot { x with
    hops := r.hops, originId := r.originId, ub := (last.map (·.ub)).getD x.ub
    st := { x.st with prov := (last.map (·.prov)).getD x.st.prov } }
  let s2 := r.latest.foldl (fun t q => takePhase r.slot ⟨q.at_, q.phase, q.ub⟩ t) s1
  let new := (r.latest.filter (fun q => !q.past)).map (·.phase)
  let m := if new.length = r.latest.length then r.mean else divNearI new.sum new.length
  let s3 := enterPhases r.slot r.count new.length (if new = [] then none else some m) s2
  match last.bind (·.tod) with
  | some t => offerTod r.slot t s3
  | none => s3

/-- Nuheif reads the reports of the computation (R18). -/
def readReports (s : State) : State :=
  dropLost (s.bus.reports.foldl (fun t r => readReport r t) { s with bus := { s.bus with reports := [] } })

end Sys2Proof.Machine
end

