-- ==== Sys2Proof/Machine/Lnav.lean ====
section
/-! DEFINITION. The LNAV message (R81, R82, R91, R92): word parity, TLM and HOW, the fields of the subframes the module uses.
The parity equations and the places of the fields are those of IS-GPS-200 (PRESUMED, log entry 20: the manual names the
standard's parts and does not repeat them). -/

namespace Sys2Proof.Machine
open Sys2Proof

/-- The parity bits D25 to D30 of a word (R81): whether each takes D29* (else D30*), and the data bits it adds, as a mask over
d1 to d24 with d1 the most significant. -/
def parityRows : List (Bool × Nat) :=
  [(true, 0xEC7CD2), (false, 0x763E69), (true, 0xBB1F34), (false, 0x5D8F9A), (false, 0xAEC7CD), (true, 0x2DEA27)]

/-- Exclusive-or of the low `n` bits of a number. -/
def oddBits (n v : Nat) : Bool := (List.range n).foldl (fun a i => a != bit v i) false

/-- The 24 data bits of a received 30-bit word, after the last two bits of the word before: D30* inverts them. -/
def wordData (d30 : Bool) (w : Nat) : Nat := if d30 then 0xFFFFFF - w / 64 % 2 ^ 24 else w / 64 % 2 ^ 24

/-- A word passes the parity algorithm. -/
def wordOk (d29 d30 : Bool) (w : Nat) : Bool :=
  let d := wordData d30 w
  let p := parityRows.map (fun r => oddBits 24 (d &&& r.2) != (if r.1 then d29 else d30))
  p == (List.range 6).map (fun i => bit w (5 - i))

/-- The data of successive words; one that fails parity is discarded. -/
def wordsOf : Bool → Bool → List Nat → List (Option Nat)
  | _, _, [] => []
  | a, b, w :: t => (if wordOk a b w then some (wordData b w) else none) :: wordsOf (bit w 1) (bit w 0) t

/-- Bits `lo` to `lo + n − 1` of a word's data, bit 1 the most significant. -/
def navBits (d lo n : Nat) : Nat := bitsAt d (25 - lo - n) n

/-- A two's complement number of `n` bits. -/
def signBits (n v : Nat) : Int := if v < 2 ^ (n - 1) then v else (v : Int) - 2 ^ n

/-- Word `k` (3 to 10) of a stored subframe. -/
def navWord (l : List (Option Nat)) (k : Nat) : Option Nat := (l.getD (k - 3) none)

/-- Every word of a stored subframe. -/
def allWords (l : List (Option Nat)) : Option (List Nat) :=
  if l.length = 8 ∧ l.all (·.isSome) then some (l.filterMap id) else none

/-- Word `k` of subframe `f` (1 to 3) of an ephemeris in force. -/
def ephWord (e : List Nat) (f k : Nat) : Nat := e.getD (8 * (f - 1) + (k - 3)) 0

/-- IODC of a subframe 1. -/
def iodcOf (l : List (Option Nat)) : Option Nat :=
  match navWord l 3, navWord l 8 with
  | some a, some b => some (navBits a 23 2 * 256 + navBits b 1 8)
  | _, _ => none

/-- The ephemeris that may be adopted (R82): subframes 2 and 3 with equal IODE, those the low 8 bits of IODC. -/
def consistent (v : SvNav) : Option (List Nat) :=
  match allWords v.sub1, allWords v.sub2, allWords v.sub3, iodcOf v.sub1 with
  | some a, some b, some c, some i =>
    if navBits (b.getD 0 0) 1 8 = navBits (c.getD 7 0) 1 8 ∧ navBits (b.getD 0 0) 1 8 = i % 256 then some (a ++ b ++ c) else none
  | _, _, _, _ => none

/-- Seconds between a GPS second and a time of week, within half a week (IS-GPS-200). -/
def weekWrap (d : Int) : Int := (d + 302400) % 604800 - 302400

/-- The clock correction of an ephemeris at a GPS second without relativity (R90), 2^-16 ns: a_f0, a_f1 and a_f2 less T_GD. -/
def satClock (e : List Nat) (gps : Nat) : Int :=
  let toc := navBits (ephWord e 1 8) 9 16 * 16
  let dt := weekWrap ((gps % 604800 : Nat) - (toc : Int))
  let f0 := signBits 22 (navBits (ephWord e 1 10) 1 22)
  let f1 := signBits 16 (navBits (ephWord e 1 9) 9 16)
  let f2 := signBits 8 (navBits (ephWord e 1 9) 1 8)
  let tgd := signBits 8 (navBits (ephWord e 1 7) 17 8)
  divNearI ((f0 * 2 ^ 24 + f1 * dt * 2 ^ 12 + f2 * dt * dt - tgd * 2 ^ 24) * (65536 * 10 ^ 9)) (2 ^ 55)

/-- The parameters of subframe 4 page 18 (R81); `week` is the full week in force, which resolves WN_LSF. -/
def page18Of (week : Nat) (w : List Nat) : Page18 :=
  let b (k lo : Nat) : Int := signBits 8 (navBits (w.getD (k - 3) 0) lo 8)
  let lsf := navBits (w.getD 6 0) 9 8
  { alpha := [b 3 9, b 3 17, b 4 1, b 4 9], beta := [b 4 17, b 5 1, b 5 9, b 5 17]
    a1 := signBits 24 (w.getD 3 0), a0 := signBits 32 (w.getD 4 0 * 256 + navBits (w.getD 5 0) 1 8)
    tot := navBits (w.getD 5 0) 9 8, wnT := navBits (w.getD 5 0) 17 8
    dtLs := b 9 1, wnLsf := week + (lsf + 384 - week % 256) % 256 - 128, dn := navBits (w.getD 6 0) 17 8, dtLsf := b 10 1 }

/-- A0 + A1 (t − t_ot) at a GPS second (R91), 2^-16 ns. -/
def utcCorrection (q : Page18) (gps : Nat) : Int :=
  let wn : Int := (((gps / 604800 : Nat) : Int) - q.wnT + 128) % 256 - 128
  let dt : Int := (gps % 604800 : Nat) - (q.tot * 4096 : Nat) + 604800 * wn
  divNearI ((q.a0 * 2 ^ 20 + q.a1 * dt) * (65536 * 10 ^ 9)) (2 ^ 50)

/-- The full week congruent to a broadcast week within WN_BASE to WN_BASE + 1,023 (R91). -/
def fullWeek (base wn : Nat) : Nat := base + (wn + 1024 - base % 1024) % 1024

end Sys2Proof.Machine
end

