-- ==== Sys2Proof/Machine/Orbit.lean ====
section
/-! DEFINITION. A satellite's place as IS-GPS-200 computes it from its ephemeris or almanac, the range to it with the Earth's
rotation, its elevation and azimuth, the relativistic correction and the broadcast ionospheric model (R81, R85, R90). The
algorithms and constants are those of IS-GPS-200 (PRESUMED, log entry 20: the manual names its parts and does not repeat
them). Phases are in 2^-64 turn, lengths in 2^-20 m, times in 2^-30 s of the GPS week. -/

namespace Sys2Proof.Machine
open Sys2Proof

/-- A satellite's orbit parameters. -/
structure Orbit where
  sqrtA : Nat                     -- square root of the semi-major axis, 2^-19 m^(1/2)
  ecc : Nat                       -- eccentricity, 2^-33
  m0 : Int                        -- mean anomaly at toe, 2^-64 turn
  dn : Int                        -- correction of the mean motion, 2^-76 turn/s
  perigee : Int                   -- argument of perigee, 2^-64 turn
  node : Int                      -- longitude of the ascending node at the week's start, 2^-64 turn
  nodeRate : Int                  -- its rate, 2^-76 turn/s
  incl : Int                      -- inclination at toe, 2^-64 turn
  inclRate : Int                  -- its rate, 2^-76 turn/s
  crs : Int := 0                  -- harmonic corrections: of the radius, 2^-5 m
  crc : Int := 0
  cus : Int := 0                  -- of the latitude, 2^-29 rad
  cuc : Int := 0
  cis : Int := 0                  -- of the inclination, 2^-29 rad
  cic : Int := 0
  toe : Nat                       -- reference time, s of the week
  deriving DecidableEq, Repr

/-- A number of 32 bits over two words: the last 8 bits of one and the 24 of the next. -/
def twoWords (hi lo : Nat) : Nat := navBits hi 17 8 * 2 ^ 24 + lo % 2 ^ 24

/-- Semicircles of 2^-k in 2^-64 turn. -/
def semi (k : Nat) (v : Int) : Int := v * 2 ^ (63 - k)

/-- The orbit of an ephemeris in force (R82). -/
def ephOrbit (e : List Nat) : Orbit :=
  let w := fun f k => ephWord e f k
  let s16 := fun (v lo : Nat) => signBits 16 (navBits v lo 16)
  { sqrtA := twoWords (w 2 8) (w 2 9), ecc := twoWords (w 2 6) (w 2 7), m0 := semi 31 (signBits 32 (twoWords (w 2 4) (w 2 5)))
    dn := s16 (w 2 4) 1 * 2 ^ 32, perigee := semi 31 (signBits 32 (twoWords (w 3 7) (w 3 8)))
    node := semi 31 (signBits 32 (twoWords (w 3 3) (w 3 4))), nodeRate := signBits 24 (w 3 9) * 2 ^ 32
    incl := semi 31 (signBits 32 (twoWords (w 3 5) (w 3 6))), inclRate := signBits 14 (navBits (w 3 10) 9 14) * 2 ^ 32
    crs := s16 (w 2 3) 9, crc := s16 (w 3 7) 1, cus := s16 (w 2 8) 1, cuc := s16 (w 2 6) 1, cis := s16 (w 3 5) 1
    cic := s16 (w 3 3) 1, toe := navBits (w 2 10) 1 16 * 16 }

/-- The orbit of an almanac page: its inclination is counted from 0.30 semicircle. -/
def almOrbit (a : List Nat) : Orbit :=
  let w := fun k => a.getD (k - 3) 0
  { sqrtA := w 6 * 2 ^ 8, ecc := navBits (w 3) 9 16 * 2 ^ 12, m0 := semi 23 (signBits 24 (w 9)), dn := 0
    perigee := semi 23 (signBits 24 (w 8)), node := semi 23 (signBits 24 (w 7))
    nodeRate := signBits 16 (navBits (w 5) 1 16) * 2 ^ 37
    incl := 3 * 2 ^ 63 / 10 + semi 19 (signBits 16 (navBits (w 4) 9 16)), inclRate := 0, toe := navBits (w 4) 1 8 * 4096 }

/-- The Earth's rotation rate, 7.2921151467 × 10^-5 rad/s, in 2^-76 turn/s. -/
def earthRate : Int := (72921151467 * 2 ^ 76 * 10 ^ 24 / (10 ^ 15 * twoPi) : Nat)

/-- The mean motion √(μ/A³), μ = 3.986005 × 10^14 m³/s², in 2^-76 turn/s. -/
def meanMotion (o : Orbit) : Nat :=
  let a3 := o.sqrtA ^ 6
  if a3 = 0 then 0 else isqrt (398600500000000 * 2 ^ 114 * 2 ^ 152 * 10 ^ 48 / (a3 * twoPi ^ 2))

/-- What a rate in 2^-76 turn/s makes of a time in 2^-30 s, in 2^-64 turn. -/
def turned (rate t : Int) : Int := rate * t / 2 ^ 42

/-- Kepler's equation: E = M + e sin E, by repeated substitution. -/
def kepler (o : Orbit) (m : Int) : Nat → Int → Int
  | 0, x => x
  | n + 1, x => kepler o m n (m + o.ecc * sin64 x * 10 ^ 24 / (2 ^ 33 * twoPi : Nat))

/-- Seconds since toe of a time of the week, within half a week, in 2^-30 s. -/
def sinceToe (o : Orbit) (t : Int) : Int := (t - (o.toe : Int) * 2 ^ 30 + 302400 * 2 ^ 30) % (604800 * 2 ^ 30) - 302400 * 2 ^ 30

/-- The eccentric anomaly at a time of the week. -/
def anomaly (o : Orbit) (t : Int) : Int :=
  let m := o.m0 + turned (meanMotion o + o.dn) (sinceToe o t)
  kepler o m 16 m

/-- A phase of radians in 2^-29, in 2^-64 turn. -/
def radTurn (v : Int) : Int := v * 2 ^ 35 * 10 ^ 24 / twoPi

/-- A satellite's place at a time of the week, Earth-fixed at that time. -/
def satPlace (o : Orbit) (t : Int) : Int × Int × Int :=
  let tk := sinceToe o t
  let e := sinCos (anomaly o t)
  -- 1 − e cos E, and sine and cosine of the true anomaly plus the argument of perigee, in 2^-64
  let k : Int := one64 - o.ecc * e.2 / 2 ^ 33
  let root : Int := isqrt (2 ^ 66 - o.ecc ^ 2)
  let sv : Int := if k = 0 then 0 else root * e.1 * 2 ^ 31 / k
  let cv : Int := if k = 0 then 0 else (e.2 - (o.ecc : Int) * 2 ^ 31) * one64 / k
  let p := sinCos o.perigee
  let sp := (sv * p.2 + cv * p.1) / one64
  let cp := (cv * p.2 - sv * p.1) / one64
  -- of twice that argument
  let s2 := 2 * sp * cp / one64
  let c2 := (cp * cp - sp * sp) / one64
  let du := sinCos (radTurn ((o.cus * s2 + o.cuc * c2) / 2 ^ 30) / 2 ^ 34)
  let su := (sp * du.2 + cp * du.1) / one64
  let cu := (cp * du.2 - sp * du.1) / one64
  -- the radius in 2^-20 m
  let r := (o.sqrtA : Int) ^ 2 * k / 2 ^ 82 + (o.crs * s2 + o.crc * c2) / 2 ^ 49
  let i := sinCos (o.incl + radTurn ((o.cis * s2 + o.cic * c2) / 2 ^ 30) / 2 ^ 34 + turned o.inclRate tk)
  let n := sinCos (o.node + turned (o.nodeRate - earthRate) tk - turned earthRate ((o.toe : Int) * 2 ^ 30))
  let x := r * cu / one64
  let y := r * su / one64
  let yc := y * i.2 / one64
  ((x * n.2 - yc * n.1) / one64, (x * n.1 + yc * n.2) / one64, y * i.1 / one64)

/-- The length of a vector, rounded down. -/
def length3 (v : Int × Int × Int) : Nat := isqrt (v.1 ^ 2 + v.2.1 ^ 2 + v.2.2 ^ 2).toNat

/-- A receiver position of X, Y, Z in mm, in 2^-20 m. -/
def receiverPlace (p : Int × Int × Int) : Int × Int × Int := (p.1 * 2 ^ 20 / 1000, p.2.1 * 2 ^ 20 / 1000, p.2.2 * 2 ^ 20 / 1000)

/-- The line from a receiver to a satellite, seen as the signal travels for `tau` (2^-30 s): the satellite where it was then, in
the Earth's frame of now (R90). -/
def lineOfSight (o : Orbit) (p : Int × Int × Int) (t tau : Int) : Int × Int × Int :=
  let q := satPlace o (t - tau)
  let a := sinCos (turned earthRate tau)
  let r := receiverPlace p
  ((q.1 * a.2 + q.2.1 * a.1) / one64 - r.1, (q.2.1 * a.2 - q.1 * a.1) / one64 - r.2.1, q.2.2 - r.2.2)

/-- The time a length in 2^-20 m takes at c, in 2^-30 s. -/
def travel (d : Nat) : Nat := d * 2 ^ 10 / 299792458

/-- The line of sight of a signal received at a time of the week: its travel by repeated substitution from 72 ms. -/
def sightAt (o : Orbit) (p : Int × Int × Int) (t : Int) : Nat → Int → Int × Int × Int
  | 0, tau => lineOfSight o p t tau
  | n + 1, tau => sightAt o p t n (travel (length3 (lineOfSight o p t tau)))

/-- The line of sight of a signal received at a GPS second. -/
def sight (o : Orbit) (p : Int × Int × Int) (gps : Nat) : Int × Int × Int :=
  sightAt o p ((gps % 604800 : Nat) * 2 ^ 30) 4 (72 * 2 ^ 30 / 1000)

/-- The components of a line of sight at a receiver: east, north, and up along the normal of the ellipsoid of WGS 84. -/
def localAxes (p v : Int × Int × Int) : Int × Int × Int :=
  -- the normal has z over 1 − e², e² = 0.00669437999014
  let z := p.2.2 * 10 ^ 14 / 99330562000986
  let h := isqrt (p.1 ^ 2 + p.2.1 ^ 2).toNat
  let n := isqrt (p.1 ^ 2 + p.2.1 ^ 2 + z ^ 2).toNat
  let along := p.1 * v.1 + p.2.1 * v.2.1
  if h = 0 ∨ n = 0 then (v.2.1, if 0 ≤ z then -v.1 else v.1, if 0 ≤ z then v.2.2 else -v.2.2)
  else ((p.1 * v.2.1 - p.2.1 * v.1) / h, (h * v.2.2 * h - z * along) / (h * n : Nat), (along + z * v.2.2) / n)

/-- Elevation of a line of sight, in 2^-64 turn; below the horizon negative. -/
def elevation (p v : Int × Int × Int) : Int :=
  let a := localAxes p v
  let h := isqrt (a.1 ^ 2 + a.2.1 ^ 2).toNat
  if 0 ≤ a.2.2 then phaseOf h a.2.2 else -(phaseOf h (-a.2.2) : Int)

/-- Whole degrees of a phase, rounded down (DESIGN CHOICE, log entry 20). -/
def degrees (x : Int) : Int := x * 360 / one64

/-- A satellite as a solution uses it (R90): propagation time and relativistic correction in 2^-16 ns, the sine of the
elevation in 2^-16, elevation and azimuth as phases. -/
structure SatView where
  range : Int
  relativity : Int
  sine : Nat
  elev : Int
  azim : Nat
  deriving DecidableEq, Repr

/-- The view of a satellite from a receiver position of X, Y, Z in mm at a GPS second (R90). The relativistic correction is
F e √A sin E with F = −4.442807633 × 10^-10 s/m^(1/2). -/
def satView (e : List Nat) (p : Int × Int × Int) (gps : Nat) : SatView :=
  let o := ephOrbit e
  let v := sight o p gps
  let a := localAxes p v
  let x := sin64 (anomaly o ((gps % 604800 : Nat) * 2 ^ 30))
  { range := (length3 v : Int) * 10 ^ 9 / (299792458 * 16)
    relativity := -(4442807633 * (o.ecc * o.sqrtA : Nat) * x * 65536) / (10 ^ 10 * 2 ^ 116)
    sine := (a.2.2.toNat * 65536) / max 1 (length3 a)
    elev := elevation p v, azim := phaseOf a.2.1 a.1 }

/-- The elevation in degrees that an almanac predicts (R85). -/
def almanacElevation (a : List Nat) (p : Int × Int × Int) (gps : Nat) : Int :=
  degrees (elevation p (sight (almOrbit a) p gps))

/-- The broadcast ionospheric delay in 2^-16 ns (R81, R90), by the model of IS-GPS-200 (Klobuchar): phases there are in
semicircles, here in 2^-32 semicircle. -/
def ionoDelay (alpha beta : List Int) (p : Int × Int × Int) (elev : Int) (azim : Nat) (gps : Nat) : Int :=
  let e : Int := elev / 2 ^ 31
  let lat : Int :=
    let z := p.2.2 * 10 ^ 14 / 99330562000986
    let h := isqrt (p.1 ^ 2 + p.2.1 ^ 2).toNat
    if 0 ≤ z then (phaseOf h z / 2 ^ 31 : Nat) else -(phaseOf h (-z) / 2 ^ 31 : Nat)
  let lon : Int := (phaseOf p.1 p.2.1 / 2 ^ 31 : Nat)
  let psi : Int := 137 * 2 ^ 64 / (10000 * (e + 11 * 2 ^ 32 / 100)) - 22 * 2 ^ 32 / 1000
  let az := sinCos azim
  let lim : Int := 416 * 2 ^ 32 / 1000
  let phi := max (-lim) (min lim (lat + psi * az.2 / one64))
  let cphi := cos64 (phi * 2 ^ 31)
  let lam := if cphi = 0 then lon else lon + psi * az.1 / cphi
  let mag := phi + 64 * 2 ^ 32 / 1000 * cos64 ((lam - 1617 * 2 ^ 32 / 1000) * 2 ^ 31) / one64
  -- local time in s, 2^-32
  let t := (43200 * lam + (gps % 604800 : Nat) * 2 ^ 32) % (86400 * 2 ^ 32)
  let f : Int := 53 * 2 ^ 32 / 100 - e
  let obl : Int := 2 ^ 32 + 16 * f ^ 3 / 2 ^ 64
  -- period in s of 2^-32; amplitude in s of 2^-64
  let per := max (72000 * 2 ^ 32) ((beta.zip [11, 14, 16, 16]).foldl
    (fun (a : Int × Int) y => (a.1 + y.1 * 2 ^ y.2 * a.2, a.2 * mag / 2 ^ 32)) (0, 2 ^ 32)).1
  let amp := max 0 ((alpha.zip [30, 27, 24, 24]).foldl
    (fun (a : Int × Int) y => (a.1 + y.1 * a.2 * 2 ^ (32 - y.2), a.2 * mag / 2 ^ 32)) (0, 2 ^ 32)).1
  -- the phase x of the cosine, 2^-32 rad
  let x := (t - 50400 * 2 ^ 32) * twoPi / (10 ^ 24 * per / 2 ^ 32)
  let x2 := x * x / 2 ^ 32
  let c : Int := 2 ^ 32 - x2 / 2 + x2 * x2 / (24 * 2 ^ 32)
  let base : Int := 5 * 2 ^ 64 / 10 ^ 9
  let d := if 100 * (x.natAbs : Int) < 157 * 2 ^ 32 then base + amp * c / 2 ^ 32 else base
  d * obl * (10 ^ 9 * 65536) / 2 ^ 96

end Sys2Proof.Machine
end

