-- ==== Sys2Proof/Machine/Store.lean ====
section
/-! DEFINITION. The sealed parameter store (R195): the copies that survive a module reset, what a boot loads from them, and
the entries of a sealed write. -/

namespace Sys2Proof.Machine
open Sys2Proof

/-- A table whose values pass through `f`, in canonical form. -/
def tkeep {α β : Type} [DecidableEq β] (d : β) (f : α → β) (t : Tbl α) : Tbl β :=
  t.foldl (fun a e => tset d a e.1 (f e.2)) []

/-- The sealed fields of GNSS_CONFIG (R100). -/
def sealedGnss (c : GnssCfg) : GnssCfg :=
  { wnBase := c.wnBase, antDelay := c.antDelay, antDelayUnc := c.antDelayUnc, ionoTerm := c.ionoTerm
    tropoTerm := c.tropoTerm, sisTerm := c.sisTerm, surveyPosTerm := c.surveyPosTerm }

/-- The sealed fields of a reference slot (R129). -/
def sealedSlot (x : Slot) : RefCfg :=
  let c := x.cfgNext.getD x.cfg
  { primary := c.primary, declaredUnc := c.declaredUnc, calDelay := c.calDelay }

/-- The sealed fields of the ensemble record (R179). -/
def sealedEns (c : EnsCfg) : EnsCfg := { horizon := c.horizon, rejoin := c.rejoin, holdAvg := c.holdAvg, holdGuard := c.holdGuard }

/-- The sealed fields of a furrow port (R269). -/
def sealedPort (x : FurPort) : FurCfg :=
  let c := x.cfgNext.getD x.cfg
  { boardTx := c.boardTx, boardRx := c.boardRx, boardUnc := c.boardUnc }

/-- The model a HOLDOVER_MODEL record writes (R181). -/
def modelParse (p : List Byte) : Model :=
  { valid := bit (rd p 1 1) 0, ageFit := bit (rd p 1 1) 1, tempFit := bit (rd p 1 1) 2, override := bit (rd p 1 1) 3
    sigmaMeas := bit (rd p 1 1) 4, samples := rd p 2 2, freq := rdI p 8 8, freqHw := some (rdI p 16 8)
    ageing := rdI p 24 8, ageingHw := some (rdI p 32 8), tempco := rdI p 40 8, tempcoHw := some (rdI p 48 8)
    tRef := rdI p 56 2, epoch := rd p 64 8 }

/-- The sealed parameters in force, as a copy of the store holds them (R195). -/
def storeOf (s : State) : SealedStore :=
  { utc := s.utc.stored
    tim := s.tim.cfg
    gnss := sealedGnss s.gnss.cfg
    position := s.gnss.position
    slots := tkeep {} sealedSlot s.ref.slots
    duplex := tkeep 0 (fun x => (x.cfgNext.getD x.cfg).offset) s.ref.duplex
    hostOffset := (s.ref.todNext.getD s.ref.tod).hostOffset
    members := tkeep ({}, []) (fun x => (x.cfg, x.written)) s.osc.members
    ens := sealedEns s.osc.ens
    learn := { mode := s.osc.learn.mode, lookback := s.osc.learn.lookback }
    bound := s.bnd.cfg
    boards := tkeep {} sealedPort s.fur.ports
    asym := tkeep ([], 0) (fun x => (x.rows, x.linkAsym)) s.eth }

/-- The newer copy as a module reset leaves it: while PARAM_FAULT holds nothing has been written (R195). -/
def keptStore (s : State) : SealedStore := if s.sealing.paramFault then s.sealing.newer else storeOf s

/-- A boot runs on the parameters of a copy (R195); fields that are not sealed stay. -/
def loadStore (x : SealedStore) (s : State) : State :=
  let a := { s with
    utc := { s.utc with stored := x.utc, offset := x.utc }
    tim := { s.tim with cfg := x.tim }
    gnss := { s.gnss with cfg := x.gnss, terms := x.gnss, position := x.position }
    ref := { s.ref with
      slots := tkeep {} (fun c => ({ cfg := c } : Slot)) x.slots
      duplex := tkeep {} (fun o => ({ cfg := { offset := o } } : Duplex)) x.duplex
      tod := { hostOffset := x.hostOffset } }
    osc := { s.osc with
      members := tkeep {} (fun c => ({ cfg := c.1, written := c.2, inForce := if c.2 = [] then {} else modelParse c.2 } : Member)) x.members
      ens := x.ens, learn := x.learn }
    bnd := { s.bnd with cfg := x.bound } }
  let b := x.boards.foldl (fun t e => t.setPort e.1 { t.port e.1 with
    cfg := { (t.port e.1).cfg with boardTx := e.2.boardTx, boardRx := e.2.boardRx, boardUnc := e.2.boardUnc } }) a
  x.asym.foldl (fun t e => t.setEthP e.1 { t.ethP e.1 with rows := e.2.1, linkAsym := e.2.2 }) b

/-- The PARAM_CHANGE entries of a sealed write, logged before it takes effect (R199, R204); the values before it are then the
older copy of the store (R195). -/
def sealedLog (ws : List SealedWrite) (s : State) : State :=
  let changed := ws.filter (fun w => w.old ≠ w.new)
  let t := if changed = [] || s.sealing.paramFault then s else { s with sealing := { s.sealing with older := storeOf s } }
  changed.foldl (fun s w => logPut 0x03 0 w.opcode (leVal (le 2 w.index ++ le 1 w.offset ++ (sha384 w.new).take 5)) s) t

end Sys2Proof.Machine
end

