-- ==== Sys2Proof/Machine/Priv.lean ====
section
/-! DEFINITION. The least privilege of each opcode's request forms (R470 check 5): 0 observer, 1 operator, 2 keeper. A
request of none of an opcode's forms is an observer's, and its meaning answers BAD_PARAM. -/

namespace Sys2Proof.Machine
open Sys2Proof

/-- A write form: operator. -/
def wr (b : Bool) : Nat := if b then 1 else 0

/-- Least privilege of IMAGE_STAGE and IMAGE_ACTIVATE by KIND (R552, R554). -/
def imagePriv (s : State) (kind : Nat) : Nat :=
  match kind with
  | 0 => if s.pwr.mRecovery ∧ !owned s then 0 else 2
  | 1 => if owned s then 2 else 1
  | 3 => if owned s then 2 else 0
  | _ => 0

/-- The class a request needs (R72, R99, R128, R155, R178, R208, R268, R300, R326, R351, R382, R399, R440, R463, R492,
R523, R554, R570). -/
def leastPriv (s : State) (opcode : Nat) (p : List Byte) : Nat :=
  let n := p.length
  match opcode with
  | 0x0004 => 1
  | 0x0008 => imagePriv s (rd p 0 1)
  | 0x0009 => if rd p 1 1 = 3 then 2 else imagePriv s (rd p 0 1)
  | 0x0102 => wr (n == 16)
  | 0x0105 => 1
  | 0x0201 => wr (n == 60)
  | 0x0204 => 1
  | 0x0205 => wr (rd p 0 1 != 0)
  | 0x0301 => wr (n == 24)
  | 0x0303 => wr (n == 16)
  | 0x0304 => wr (n == 20)
  | 0x0305 => wr (n == 36)
  | 0x0401 => wr (n != 0)
  | 0x0403 => 1
  | 0x0404 => 1
  | 0x0405 => wr (n != 0)
  | 0x0406 => 1
  | 0x0407 => 1
  | 0x0501 => wr (n == 16)
  | 0x0503 => wr (n == 72)
  | 0x0504 => wr (n == 16)
  | 0x0602 => wr (n == 16)
  | 0x0603 => 2
  | 0x0604 => 2
  | 0x0701 => wr (n == 64)
  | 0x0702 => wr (n == 4 && bit (rd p 2 1) 0)
  | 0x0703 => wr (n == 8)
  | 0x0704 => 1
  | 0x0705 => 1
  | 0x0706 => 1
  | 0x0801 => wr (n == 16)
  | 0x0802 => wr (n == 2 && bit (rd p 1 1) 0)
  | 0x0803 => wr (n == 12)
  | 0x0804 => wr (n == 8)
  | 0x0805 => wr (n == 48 && rd p 0 1 != 0 && rd p 0 1 != 3)
  | 0x0901 => wr (n == 32)
  | 0x0902 => wr (n == 32)
  | 0x0903 => 1
  | 0x0904 => 1
  | 0x0906 => wr (n == 16)
  | 0x0907 => wr (n == 96)
  | 0x0A02 => 2
  | 0x0A03 => 2
  | 0x0A04 => wr (n != 0)
  | 0x0B01 => 2
  | 0x0B02 => 2
  | 0x0B04 => 2
  | 0x0B06 => 2
  | 0x0C01 => if n = 24 then (if rd p 0 1 = 1 ∨ rd p 0 1 = 5 then 2 else 1) else 0
  | 0x0C03 => 1
  | 0x0C04 => wr (n == 16)
  | 0x0C05 => if n = 16 ∧ bit (rd p 14 1) 0 then 2 else 0
  | 0x0D01 => wr (n == 24)
  | 0x0D03 => 1
  | 0x0D04 => wr (n == 16)
  | 0x0E01 => wr (n == 24)
  | 0x0E03 => wr (n == 24)
  | 0x0E04 => wr (n == 48)
  | 0x0E05 => wr (n == 8)
  | 0x0F01 => wr (n == 16 || n == 72)
  | 0x0F03 => wr (n == 32)
  | 0x0F04 => wr (n == 8 && bit (rd p 4 1) 0)
  | 0x1001 => 1
  | 0x1002 => wr (n == 4 && !bit (rd p 1 1) 0)
  | 0x1003 => wr (n == 4 && rd p 0 1 != 0)
  | 0x1004 => 2
  | 0x1102 => 1
  | 0x1103 => wr (n == 48)
  | 0x1104 => if n = 8 then 2 else 0
  | _ => 0

end Sys2Proof.Machine
end

