-- ==== Sys2Proof/Machine/Gnss.lean ====
section
/-! DEFINITION. The GNSS baseband and group 0x02 (spec/04_gnss_baseband.md). -/

namespace Sys2Proof.Machine
open Sys2Proof

/-- Tracking channel `i`. -/
def State.gch (s : State) (i : Nat) : GnssChan := tget {} s.gnss.chans i
/-- Replace a tracking channel. -/
def State.setGch (s : State) (i : Nat) (x : GnssChan) : State :=
  { s with gnss := { s.gnss with chans := tset {} s.gnss.chans i x } }
/-- What PRN `p` has sent. -/
def State.nav (s : State) (p : Nat) : SvNav := tget {} s.gnss.navs p
/-- Replace what a PRN has sent. -/
def State.setNav (s : State) (p : Nat) (x : SvNav) : State :=
  { s with gnss := { s.gnss with navs := tset {} s.gnss.navs p x } }

/-- GNSS_CONFIG's record (R100). -/
def gnssRecord (c : GnssCfg) : List Byte :=
  le 4 c.sampleRate ++ leI 4 c.ifFreq ++ le 1 c.format ++ le 1 c.elSpacing ++ le 1 c.mpMode ++ le 1 c.minSv ++
  le 1 c.elevMask ++ le 1 c.acqDwell ++ le 2 c.cn0Mask ++ le 1 c.pllBw ++ zeros 1 ++ le 2 c.dllBw ++ le 2 c.thrFloor ++
  le 2 c.thrCeil ++ le 4 c.residLimit ++ le 2 c.wnBase ++ le 1 c.autoSurvey ++ zeros 1 ++ leIv c.antDelay ++
  le 4 c.antDelayUnc ++ le 4 c.ionoTerm ++ le 4 c.tropoTerm ++ le 4 c.sisTerm ++ le 4 c.surveyPosTerm

/-- The record of a GNSS_CONFIG payload (R100). -/
def gnssParse (p : List Byte) : GnssCfg :=
  { sampleRate := rd p 0 4, ifFreq := rdI p 4 4, format := rd p 8 1, elSpacing := rd p 9 1, mpMode := rd p 10 1
    minSv := rd p 11 1, elevMask := rd p 12 1, acqDwell := rd p 13 1, cn0Mask := rd p 14 2, pllBw := rd p 16 1
    dllBw := rd p 18 2, thrFloor := rd p 20 2, thrCeil := rd p 22 2, residLimit := rd p 24 4, wnBase := rd p 28 2
    autoSurvey := rd p 30 1, antDelay := rdI p 32 8, antDelayUnc := rd p 40 4, ionoTerm := rd p 44 4
    tropoTerm := rd p 48 4, sisTerm := rd p 52 4, surveyPosTerm := rd p 56 4 }

/-- IF_FREQ's range (R100): complex −rate/2 to +rate/2, real 0 to rate/2. -/
def ifOk (c : GnssCfg) : Bool :=
  let r : Int := c.sampleRate
  decide (2 * c.ifFreq ≤ r) && (if bit c.format 0 then decide (-r ≤ 2 * c.ifFreq) else decide (0 ≤ c.ifFreq))

/-- 10 µs in interval LSBs. -/
def us10 : Int := 655360000

/-- The sealed fields of GNSS_CONFIG (R100). -/
def gnssSealed (c : GnssCfg) : List (Nat × List Byte) :=
  [(28, le 2 c.wnBase), (32, leIv c.antDelay), (40, le 4 c.antDelayUnc), (44, le 4 c.ionoTerm), (48, le 4 c.tropoTerm),
   (52, le 4 c.sisTerm), (56, le 4 c.surveyPosTerm)]

/-- Pair the sealed fields before and after a write. -/
def sealedPairs (opcode index : Nat) (old new : List (Nat × List Byte)) : List SealedWrite :=
  List.zipWith (fun a b => ⟨opcode, index, a.1, a.2, b.2⟩) old new

/-- All tracking channels restart: IDLE, and acquisition begins a new pass (R84, R85, R100). -/
def restartChans (g : Gnss) : Gnss := { g with chans := [], searched := [] }

/-- Every channel uses the standard discriminator (R88). -/
def standardChans (s : State) : State :=
  (List.range 32).foldl (fun t i => t.setGch i { t.gch i with mpActive := false }) s

/-- The multipath-estimating discriminator is available (R88). -/
def mpAvailable (c : GnssCfg) : Bool := decide (c.mpMode = 1) && decide (c.sampleRate ≥ 32736000)

/-- Clamp a threshold into THR_FLOOR to THR_CEIL (R85). -/
def clampThr (c : GnssCfg) (v : Nat) : Nat := max c.thrFloor (min c.thrCeil v)

/-- GNSS_CONFIG takes effect (R85, R88, R100); its sealed fields wait for the next computation (R199). -/
def gnssApply (new : GnssCfg) (s : State) : State :=
  let old := s.gnss.cfg
  let g := { s.gnss with cfg := new, acqThr := clampThr new s.gnss.acqThr, lossThr := clampThr new s.gnss.lossThr }
  let restart := old.format ≠ new.format ∨ old.sampleRate ≠ new.sampleRate ∨ old.ifFreq ≠ new.ifFreq
  let s1 := { s with gnss := if restart then restartChans g else g }
  if mpAvailable new then s1 else standardChans s1

/-- GNSS_CONFIG (R100). -/
def bodyGnssConfig : Body := fun c s =>
  let p := c.req.payload
  if p = [] then ok s (gnssRecord s.gnss.cfg)
  else if p.length ≠ 60 then badLen s
  else
    let new := gnssParse p
    checked s
      [(0, 16368000 ≤ new.sampleRate ∧ new.sampleRate ≤ 65472000), (4, ifOk new), (8, new.format < 16),
       (9, 1 ≤ new.elSpacing ∧ new.elSpacing ≤ 32), (10, new.mpMode ≤ 1), (11, 1 ≤ new.minSv ∧ new.minSv ≤ 12),
       (12, new.elevMask ≤ 60), (13, 1 ≤ new.acqDwell ∧ new.acqDwell ≤ 64), (14, 200 ≤ new.cn0Mask ∧ new.cn0Mask ≤ 450),
       (16, 2 ≤ new.pllBw ∧ new.pllBw ≤ 20), zeroAt p 17 1, (18, 1 ≤ new.dllBw ∧ new.dllBw ≤ 200),
       (20, 180 ≤ new.thrFloor ∧ new.thrFloor ≤ 400 ∧ new.thrFloor ≤ new.thrCeil),
       (22, 180 ≤ new.thrCeil ∧ new.thrCeil ≤ 400), (24, 10000 ≤ new.residLimit ∧ new.residLimit ≤ 1000000),
       (30, new.autoSurvey ≤ 1), zeroAt p 31 1, (32, 0 ≤ new.antDelay ∧ new.antDelay ≤ us10),
       (56, 0x280 ≤ new.surveyPosTerm ∧ new.surveyPosTerm ≤ 0xFA00)]
      (let ws := sealedPairs 0x0201 0 (gnssSealed s.gnss.cfg) (gnssSealed new)
       if sealedStatus s ws ≠ 0 then err s (sealedStatus s ws)
       else ok (gnssApply new (sealedLog ws s)) (gnssRecord new))

/-- Channels in TRACK or later (R101). -/
def tracking (c : ChanState) : Bool := match c with | .track => true | .bitSync => true | .nav => true | _ => false

/-- MODE (R101). -/
def gnssModeCode (m : GnssMode) : Nat := match m with | .noPosition => 0 | .survey => 1 | .hold => 2

/-- The survey's squared spread N Σ|p|² − |Σp|² in mm² (R93). -/
def surveySpread (v : Survey) : Nat := ((v.n * v.sq : Nat) - (v.sx ^ 2 + v.sy ^ 2 + v.sz ^ 2) : Int).toNat

/-- The survey's squared standard error as a fraction: 300 V over N² (N − 1) (R93). -/
def surveyErr2 (v : Survey) : Nat × Nat := (300 * surveySpread v, v.n * v.n * (v.n - 1))

/-- The survey's standard error in mm, rounded up; without two fixes it has none. -/
def surveyErrMm (v : Survey) : Nat :=
  let e := surveyErr2 v
  if e.2 = 0 then 0xFFFFFFFF else isqrtUp (divUp e.1 e.2)

/-- SURVEY_ELAPSED (R101): 0 while no survey is in progress (DESIGN CHOICE, log entry 20: the spec gives no value). -/
def surveyElapsed (s : State) : Nat :=
  if s.gnss.mode = .survey then (s.now - s.gnss.survey.start) / 1000000000 else 0

/-- The GPS second now, 604,800 W + s, once a subframe has given it (R91). -/
def gpsNow (s : State) : Option Nat := s.gnss.gpsAt.map (fun p => p.1 + (s.now - p.2) / 1000000000)

/-- RATE_ERROR (R101): the measured sample rate against SAMPLE_RATE; 0 before a first measurement (DESIGN CHOICE, log entry
20: the spec gives no value). -/
def rateError (g : Gnss) : Freq :=
  match g.clock with
  | some f => frameRate <| divTrunc (((f : Int) - g.cfg.sampleRate * 1000) * 2 ^ 48) (g.cfg.sampleRate * 1000)
  | none => 0

/-- ALMANAC_VALID: an almanac page has been received since reset (DESIGN CHOICE, log entry 20: the spec does not define it). -/
def almanacValid (g : Gnss) : Bool := g.navs.any (fun e => e.2.almanac.isSome)

/-- A leap announcement of page 18 lies in the future (R92). -/
def page18Pending (s : State) : Option LeapAnn :=
  s.gnss.page18.bind (fun q => (page18Leap q).filter (fun a => decide (ftSec s.acc < page18Sec q a)))

/-- Bytes 0 to 3 of GNSS_STATUS (R101). -/
def gnssHead (s : State) : List Byte :=
  let g := s.gnss
  le 1 (gnssModeCode g.mode) ++ le 1 (g.chans.filter (fun e => tracking e.2.state)).length ++ le 1 g.svUsed ++
  le 1 (flag 0 (!g.clkFault) + flag 1 g.ionoValid + flag 2 g.page18.isSome + flag 3 (page18Pending s).isSome +
    flag 4 g.targetUnmet + flag 5 (mpAvailable g.cfg) + flag 6 (almanacValid g))

/-- Bytes 24 to 31 of GNSS_STATUS (R101): SURVEY_ERROR is 0 while no survey is in progress (DESIGN CHOICE, log entry 20). -/
def gnssSurveyPart (s : State) : List Byte :=
  le 4 (surveyElapsed s) ++ le 4 (if s.gnss.mode = .survey then surveyErrMm s.gnss.survey else 0)

/-- GNSS_STATUS's reply (R101). WEEK and TOW before a subframe has given them, and UTC_OFFSET before page 18, read 0
(DESIGN CHOICE, log entry 20: the spec gives no value). -/
def gnssStatus (s : State) : List Byte :=
  let g := s.gnss
  let t := (gpsNow s).getD 0
  gnssHead s ++ le 2 (t / 604800) ++ zeros 2 ++ le 4 (t % 604800) ++ leI 4 (rateError g) ++ le 2 g.acqThr ++ le 2 g.lossThr ++
  le 4 (gnssUnc s) ++ gnssSurveyPart s ++ le 8 g.lastSecond ++
  leI 2 ((g.page18.map (page18Offset (ftSec s.acc))).getD 0) ++ le 2 g.unpaired

/-- GNSS_STATUS (R101). -/
def bodyGnssStatus : Body := fun c s => if c.req.payload = [] then ok s (gnssStatus s) else badLen s

/-- STATE of a tracking channel (R102). -/
def chanStateCode (c : ChanState) : Nat :=
  match c with | .idle => 0 | .verify => 1 | .pullIn => 2 | .track => 3 | .bitSync => 4 | .nav => 5

/-- A channel's record (R102). -/
def gnssChanRecord (s : State) (x : GnssChan) : List Byte :=
  le 1 x.prn ++ le 1 (chanStateCode x.state) ++ le 2 x.cn0 ++ le 1 x.elev ++
  le 1 (flag 0 x.healthy + flag 1 x.used + flag 2 x.excluded + flag 3 x.mpActive) ++ le 2 x.azim ++ leI 4 x.doppler ++
  leI 4 x.residual ++ le 2 x.mpDelay ++ le 2 x.mpAmpl ++ le 2 x.mpFitFail ++
  le 2 (if tracking x.state then min sat16 ((s.now - x.lockedAt) / 1000000000) else 0)

/-- GNSS_CHANNELS (R102). -/
def bodyGnssChannels : Body := fun c s =>
  if c.req.payload = [] then ok s ((List.range 32).flatMap (fun i => gnssChanRecord s (s.gch i))) else badLen s

/-- The held position's sealed fields as GNSS_SET_POSITION writes them (R103, R197). -/
def positionFields (p : Option Position) : List (Nat × List Byte) :=
  match p with
  | none => [(0, []), (8, []), (16, []), (24, [])]
  | some q => [(0, leI 8 q.x), (8, leI 8 q.y), (16, leI 8 q.z), (24, le 4 q.unc)]

/-- A position's distance from the Earth's centre is within 6,300 km to 6,400 km (R103). -/
def radiusOk (x y z : Int) : Bool :=
  let r2 := x ^ 2 + y ^ 2 + z ^ 2
  decide (6300000000 ^ 2 ≤ r2) && decide (r2 ≤ 6400000000 ^ 2)

/-- Adopt a held position: HOLD, logged as a parameter change (R93, R94, R103). -/
def adoptPosition (q : Position) (s : State) : State :=
  let s1 := sealedLog (sealedPairs 0x0204 0 (positionFields s.gnss.position) (positionFields (some q))) s
  dropLost { s1 with gnss := { s1.gnss with position := some q, mode := .hold, survey := {}, surveyDone := false } }

/-- The status of a change that replaces a held position (R94); in NO_POSITION it needs no window. -/
def positionStatus (s : State) (ws : List SealedWrite) : Nat :=
  if s.gnss.position.isSome || s.sealing.paramFault then sealedStatus s ws else if s.log.fault then stINTEGRITY else 0

/-- GNSS_SET_POSITION (R103). -/
def bodyGnssSetPosition : Body := fun c s =>
  let p := c.req.payload
  if p.length ≠ 32 then badLen s
  else
    let q : Position := ⟨rdI p 0 8, rdI p 8 8, rdI p 16 8, rd p 24 4⟩
    checked s [(0, radiusOk q.x q.y q.z), (24, 1 ≤ q.unc ∧ q.unc ≤ 100000), zeroAt p 28 4]
      (let ws := sealedPairs 0x0204 0 (positionFields s.gnss.position) (positionFields (some q))
       let st := positionStatus s ws
       if st ≠ 0 then err s st else ok (adoptPosition q s) [])

/-- GNSS_SURVEY's reply (R104). -/
def surveyReply (s : State) : List Byte := gnssHead s ++ gnssSurveyPart s

/-- Start or restart a survey (R93, R94, R104). -/
def startSurvey (time sigma : Nat) (s : State) : State :=
  { s with gnss := { s.gnss with mode := .survey, survey := { start := s.now, time := time, sigma := sigma }
                                 surveyDone := false } }

/-- GNSS_SURVEY (R104). -/
def bodyGnssSurvey : Body := fun c s =>
  let p := c.req.payload
  if p.length ≠ 8 then badLen s
  else
    checked s [(0, rd p 0 1 ≤ 2), zeroAt p 1 1,
        (2, rd p 0 1 != 1 || (decide (30 ≤ rd p 2 2) && decide (rd p 2 2 ≤ 2880))),
        (4, rd p 0 1 != 1 || (decide (100 ≤ rd p 4 2) && decide (rd p 4 2 ≤ 10000) && decide (rd p 4 2 % 100 = 0))),
        zeroAt p 6 2]
      (match rd p 0 1 with
       | 0 => ok s (surveyReply s)
       | 1 =>
         let ws : List SealedWrite := [⟨0x0204, 0, 0, [], [0]⟩]
         let st := if s.gnss.position.isSome then sealedStatus s ws else 0
         if st ≠ 0 then err s st
         else
           let s1 := startSurvey (rd p 2 2 * 60) (rd p 4 2) s
           ok s1 (surveyReply s1)
       | _ =>
         let m : GnssMode := if s.gnss.position.isSome then .hold else .noPosition
         let s1 := if s.gnss.mode = .survey then
             dropLost { s with gnss := { s.gnss with mode := m, survey := {}, surveyDone := false } } else s
         ok s1 (surveyReply s1))

/-- A quantisation message's record (R97). -/
def quantRecord (m : QuantMsg) : List Byte :=
  le 8 m.second ++ leI 4 m.q ++ le 4 m.period ++
  le 2 (flag 0 m.valid + flag 1 m.hold + flag 2 m.survey + flag 3 m.excluded + flag 4 m.prov + flag 5 m.mp + flag 6 m.applied) ++
  le 1 m.svUsed ++ le 1 m.svExcluded ++ le 4 m.residRms ++ leOptIv m.offset

/-- GNSS_PPS_MSG (R105). -/
def bodyGnssPpsMsg : Body := fun c s =>
  let p := c.req.payload
  if p.length ≠ 1 then badLen s
  else checked s [(0, 1 ≤ rd p 0 1 ∧ rd p 0 1 ≤ 16)]
    (ok s ((s.gnss.history.take (rd p 0 1)).flatMap quantRecord))

/-- GNSS_IF_CLK is out of order (R84): no edge for 1 µs, or more than 50 ppm from SAMPLE_RATE over 10 ms (in mHz). -/
def clkOut (c : GnssCfg) (x : ClkSeen) : Bool :=
  decide (1000 ≤ x.gapNs) || decide (((x.freq : Int) - c.sampleRate * 1000).natAbs * 20000 > c.sampleRate * 1000)

/-- GNSS_CLK_FAULT (R84): what the M tile measures of GNSS_IF_CLK, its longest time without an edge and its frequency over
10 ms; a fault is declared when that is out of order. -/
def gnssClkFault (c : ClkSeen) (s : State) : State :=
  let s1 := { s with gnss := { s.gnss with clock := some c.freq } }
  if clkOut s.gnss.cfg c then
    setCond 0 2 true { s1 with gnss := { s1.gnss with clkFault := true, faultAt := s.now } }
  else s1

/-- GNSS_CLK_CLEAR (R84): after 100 ms of clean clock the fault clears and tracking restarts. -/
def gnssClkClear (c : ClkSeen) (s : State) : State :=
  let s1 := { s with gnss := { s.gnss with clock := some c.freq } }
  if clkOut s.gnss.cfg c then { s1 with gnss := { s1.gnss with faultAt := s.now } }
  else if s.gnss.clkFault && decide (s.gnss.faultAt + 100 * 1000000 ≤ s.now) then
    setCond 0 2 false { s1 with gnss := restartChans { s1.gnss with clkFault := false } }
  else s1

/-- Both thresholds move by a free amount up towards the ceiling or down towards the floor (R26, R85); off the floor the target is
no longer reported unmet. -/
def moveThr (up : Bool) (s : State) : State :=
  let c := s.gnss.cfg
  let move (v : Nat) (f : Nat) : Nat :=
    if up then (if v < c.thrCeil then v + 1 + f % (c.thrCeil - v) else v)
    else (if c.thrFloor < v then v - 1 - f % (v - c.thrFloor) else v)
  let a := move s.gnss.acqThr (Config.freeValue s.free)
  let l := move s.gnss.lossThr (Config.freeValue (s.free + 1))
  { s with
    free := s.free + 2
    gnss := { s.gnss with
      acqThr := a, lossThr := l
      targetUnmet := s.gnss.targetUnmet && decide (a ≤ c.thrFloor) && decide (l ≤ c.thrFloor) } }

/-- The first IDLE tracking channel. -/
def freeChan (s : State) : Option Nat := (List.range 32).find? (fun i => decide ((s.gch i).state = .idle))

/-- A PRN is predicted above the elevation mask (R85). -/
def predictedVisible (s : State) (p : Position) (t prn : Nat) : Bool :=
  match (s.nav prn).almanac with
  | some a => decide ((s.gnss.cfg.elevMask : Int) < almanacElevation a (p.x, p.y, p.z) t)
  | none => false

/-- The PRNs that the acquisition engine searches, ascending (R85): those that no channel holds, and with a valid almanac, a
held position and the time only those predicted above the elevation mask. -/
def searchSet (s : State) : List Nat :=
  let free := ((List.range 32).map (· + 1)).filter (fun p => !s.gnss.chans.any (fun e => e.2.prn == p))
  match s.gnss.position, gpsNow s with
  | some q, some t => if almanacValid s.gnss then free.filter (predictedVisible s q t) else free
  | _, _ => free

/-- The four PRNs searched in parallel (R85). -/
def searching (s : State) : List Nat := ((searchSet s).filter (fun p => !s.gnss.searched.contains p)).take 4

/-- A PRN's grid has been searched; after the last of a pass the next pass begins (R85). -/
def markSearched (prn : Nat) (s : State) : State :=
  let l := prn :: s.gnss.searched
  { s with gnss := { s.gnss with searched := if (searchSet s).all (fun p => l.contains p) then [] else l } }

/-- Hand a PRN to a free tracking channel with the cell's code phase and frequency (R85); spectral inversion turns the
Doppler's sign (R100). -/
def handOff (prn : Nat) (c : AcqCell) (s : State) : State :=
  match freeChan s with
  | some i =>
    let g := s.gnss
    s.setGch i { prn := prn, state := .verify, codePhase := c.code * 2 ^ 19, carrier := 1000 * (g.cfg.ifFreq + g.ifOffset + 500 * c.bin),
                 doppler := (if bit g.cfg.format 3 then -1 else 1) * (500000 * c.bin),
                 healthy := decide ((s.nav prn).health = 0) }
  | none => s

/-- What the cells of a PRN's two dwells lead to (R85): a cell above the threshold that its second dwell confirms hands the PRN to a
free channel; one that fails is a false acquisition (DEDUCED, log entry 20), which raises the thresholds. -/
def judgeCells (prn : Nat) (first second : AcqCell) (s : State) : State :=
  let s1 := markSearched prn s
  if !overThreshold s.gnss.acqThr first then s1
  else if overThreshold s.gnss.acqThr second then handOff prn second s1
  else moveThr true s1

/-- ACQUISITION_DWELL (R83, R85): the samples of a PRN's dwell and of its second dwell. The baseband takes one sample per cycle and
searches the grid; the strongest cell is judged. -/
def acquisitionDwell (prn : Nat) (rise fall checkRise checkFall : List IqLevels) (s : State) : State :=
  let c := s.gnss.cfg
  if s.gnss.clkFault || !(searching s).contains prn then s
  else
    let first := dwellPeak c s.gnss.ifOffset prn (captureSpan c.format rise fall)
    judgeCells prn first (dwellCheck c s.gnss.ifOffset prn first (captureSpan c.format checkRise checkFall)) s

/-- The mean of a second's C/N0 measurements. -/
def meanCn0 (l : List Nat) : Nat := if l = [] then 0 else divNear l.sum l.length

/-- TRACKING_LOSS (R87): a second's C/N0 measurements of a channel; a mean below the loss threshold sends it to IDLE and its
PRN back to the search. -/
def trackingLoss (i : Nat) (cn0 : List Nat) (s : State) : State :=
  let x := s.gch i
  if x.state = .idle then s
  else if meanCn0 cn0 < s.gnss.lossThr then
    let s1 := s.setGch i {}
    { s1 with gnss := { s1.gnss with searched := s1.gnss.searched.filter (· ≠ x.prn) } }
  else s.setGch i { x with cn0 := meanCn0 cn0 }

/-- BIT_SYNCHRONISATION (R87): the channel's next state; after bit synchronisation correlation is coherent over 20 ms. -/
def bitSynchronisation (i : Nat) (s : State) : State :=
  let x := s.gch i
  match x.state with
  | .verify => s.setGch i { x with state := .pullIn }
  | .pullIn => s.setGch i { x with state := .track, lockedAt := s.now }
  | .track => s.setGch i { x with state := .bitSync, coherent := 20 }
  | .bitSync => s.setGch i { x with state := .nav }
  | _ => s

/-- The loops of a channel run (R87): it holds a PRN whose acquisition has been verified. -/
def loopsRun (c : ChanState) : Bool := match c with | .idle => false | .verify => false | _ => true

/-- The NCOs at the end of 20 ms (R86, R87): the code runs at its aided rate, the carrier at its frequency. -/
def advanceNcos (x : GnssChan) : GnssChan :=
  { x with
    codePhase := (x.codePhase + codeRate x.doppler / 50) % (1023 * 2 ^ 20)
    carrierPhase := (((x.carrierPhase : Int) + x.carrier * 2 ^ 32 / 50000) % 2 ^ 32).toNat }

/-- The loops of a channel after 20 ms of correlator outputs (R87, R88). The carrier PLL takes the Costas product; the code DLL, aided
by the carrier, the fitted direct-path delay or the early-late difference. -/
def steerChannel (i : Nat) (r : Correlation) (fit : Option PathFit) (s : State) : State :=
  let c := s.gnss.cfg
  let x := s.gch i
  let good := fit.filter (fitOk r)
  let err : Int := match good with | some f => f.direct | none => (r.late : Int) - r.early
  let df := Config.loopStep 0 c.pllBw r.costas
  let y := advanceNcos x
  let z := { y with
    carrier := x.carrier + df, doppler := x.doppler + (if bit c.format 3 then -df else df), codeError := err
    codePhase := (((y.codePhase : Int) - Config.loopStep 1 c.dllBw err) % (1023 * 2 ^ 20)).toNat, mpActive := good.isSome }
  match good with
  | some f => s.setGch i { z with mpDelay := f.delay, mpAmpl := f.ampl }
  | none => s.setGch i { z with mpFitFail := if fit.isSome then satInc sat16 x.mpFitFail else x.mpFitFail }

/-- MULTIPATH_FIT (R83, R86 to R88): 20 ms of samples on a channel whose loops run: correlation, the fit where the discriminator is
available, the loops. -/
def multipathFit (i : Nat) (w : IfSpan) (s : State) : State :=
  let c := s.gnss.cfg
  let x := s.gch i
  if s.gnss.clkFault || !loopsRun x.state then s
  else
    let r := channelOutputs c x (captureSpan c.format w.rise w.fall)
    steerChannel i r (if mpAvailable c then some (pathFit c r) else none) s

/-- EPHEMERIS_ADOPT (R82). -/
def ephemerisAdopt (prn : Nat) (s : State) : State :=
  match consistent (s.nav prn) with
  | some e => s.setNav prn { s.nav prn with adopted := some e }
  | none => s

/-- Health of a PRN shows on its channel (R81, R102). -/
def showHealth (prn : Nat) (h : Bool) (s : State) : State :=
  match s.gnss.chans.find? (fun e => e.2.prn == prn) with
  | some (i, x) => s.setGch i { x with healthy := h }
  | none => s

/-- The time a healthy satellite's HOW gives: the next subframe begins as the row runs, at 6 s × TOW of the week nearest to
the time in force (R81, R91). The signal's travel is left to the solution (DESIGN CHOICE, log entry 20). -/
def howTime (tow : Nat) (s : State) : State :=
  match gpsNow s with
  | some t => { s with gnss := { s.gnss with gpsAt := some ((t + 302400 - 6 * tow) / 604800 * 604800 + 6 * tow, s.now) } }
  | none => s

/-- Subframe 1 (R81, R91): health and week; a healthy satellite's week and TOW set the time. -/
def subframe1 (prn tow : Nat) (l : List (Option Nat)) (s : State) : State :=
  match navWord l 3 with
  | none => s.setNav prn { s.nav prn with sub1 := l }
  | some w =>
    let h := navBits w 17 6
    let s1 := showHealth prn (decide (h = 0)) (s.setNav prn { s.nav prn with sub1 := l, health := h })
    if h = 0 then
      { s1 with gnss := { s1.gnss with gpsAt := some (604800 * fullWeek s.gnss.terms.wnBase (navBits w 1 10) + 6 * tow, s.now) } }
    else s1

/-- Subframe 4 page 18 (R81, R91, R92). IONO_VALID stands from a first page 18 until reset (DESIGN CHOICE, log entry 20: the
spec does not define it). -/
def subframe18 (w : List Nat) (s : State) : State :=
  let q := page18Of ((gpsNow s).getD (604800 * s.gnss.terms.wnBase) / 604800) w
  let s1 := { s with gnss := { s.gnss with page18 := some q, ionoValid := true } }
  offerLeap 0x08 (page18Pending s1) s1

/-- A page of subframe 4 or 5 (R81): page 18, or an almanac page. -/
def subframePage (five : Bool) (l : List (Option Nat)) (s : State) : State :=
  match allWords l with
  | none => s
  | some w =>
    let id := navBits (w.getD 0 0) 3 6
    if !five && id == 56 then subframe18 w s
    else if (five && decide (1 ≤ id) && decide (id ≤ 24)) || (!five && decide (25 ≤ id) && decide (id ≤ 32)) then
      s.setNav id { s.nav id with almanac := some w }
    else s

/-- LNAV_SUBFRAME (R81, R82, R91, R92): ten received words after the last two bits of the word before. A word that fails
parity is discarded; without the TLM's preamble and a good HOW there is no subframe. -/
def lnavSubframe (prn : Nat) (x : LnavWords) (s0 : State) : State :=
  match wordsOf x.d29 x.d30 x.words with
  | some tlm :: some how :: l =>
    if navBits tlm 1 8 ≠ 0x8B ∨ l.length ≠ 8 then s0
    else
      let tow := navBits how 1 17
      let s := if (s0.nav prn).health = 0 then howTime tow s0 else s0
      match navBits how 20 3 with
      | 1 => subframe1 prn tow l s
      | 2 => s.setNav prn { s.nav prn with sub2 := l }
      | 3 => s.setNav prn { s.nav prn with sub3 := l }
      | 4 => subframePage false l s
      | 5 => subframePage true l s
      | _ => s
  | _ => s0

/-- A satellite's corrected time offset (R90), in 2^-16 ns, with its weight sin²(elevation) in 2^-32. -/
structure FixTerm where
  chan : Nat
  offset : Int
  weight : Nat
  elev : Int
  azim : Nat
  cn0 : Nat
  deriving DecidableEq, Repr

/-- The position a solution uses (R90): the held one; in a survey the mean of its fixes so far, none before the first (DESIGN CHOICE,
log entry 20: the rule does not define the current survey position). -/
def solutionPosition (g : Gnss) : Option (Int × Int × Int) :=
  match g.mode with
  | .hold => g.position.map (fun p => (p.x, p.y, p.z))
  | .survey =>
    let v := g.survey
    if v.n = 0 then none else some (divNearI v.sx v.n, divNearI v.sy v.n, divNearI v.sz v.n)
  | .noPosition => none

/-- The troposphere: 2.4 m zenith delay over sin(elevation), in 2^-16 ns (R90). -/
def tropoDelay (sine : Nat) : Int := divNear (2400000000 * 65536 * 65536) (299792458 * sine)

/-- The broadcast ionospheric delay (R81, R90): 0 until page 18 has given its parameters, and messages may be valid meanwhile
(DESIGN CHOICE, log entry 20: the rule does not say which correction applies then). -/
def ionoTermOf (s : State) (p : Int × Int × Int) (v : SatView) (t : Nat) : Int :=
  match s.gnss.page18 with
  | some q => ionoDelay q.alpha q.beta p v.elev v.azim t
  | none => 0

/-- A measurement's offset with the corrections of R90, where the satellite has an ephemeris in force (R82). -/
def fixTerm (s : State) (p : Int × Int × Int) (t : Nat) (f : GnssFix) : Option FixTerm :=
  (s.nav (s.gch f.chan).prn).adopted.map (fun e =>
    let v := satView e p t
    ⟨f.chan, f.pseudo + satClock e t + v.relativity - v.range - ionoTermOf s p v t - tropoDelay v.sine - s.gnss.terms.antDelay -
       Config.receiverDelay, v.sine * v.sine, degrees v.elev, (degrees v.azim).toNat, f.cn0⟩)

/-- A channel's satellite is in NAV, healthy and has an ephemeris in force (R81, R82). -/
def navHealthy (s : State) (i : Nat) : Bool :=
  let x := s.gch i
  decide (x.state = .nav) && decide ((s.nav x.prn).health = 0) && (s.nav x.prn).adopted.isSome

/-- A fix is of a usable satellite (R90). -/
def fixUsable (s : State) (f : FixTerm) : Bool :=
  navHealthy s f.chan && decide ((s.gnss.cfg.elevMask : Int) ≤ f.elev) && decide (f.cn0 ≥ s.gnss.cfg.cn0Mask)

/-- Weighted sum and weight of a set of fixes (R90). -/
def fixSums (l : List FixTerm) : Int × Nat := (l.foldl (fun a f => a + f.weight * f.offset) 0, l.foldl (fun a f => a + f.weight) 0)

/-- A fix's residual times the total weight. -/
def residualW (l : List FixTerm) (f : FixTerm) : Int := f.offset * (fixSums l).2 - (fixSums l).1

/-- The fix with the largest residual. -/
def worstFix (l : List FixTerm) : Option FixTerm :=
  l.foldl (fun w f => match w with
    | none => some f
    | some g => if (residualW l f).natAbs > (residualW l g).natAbs then some f else some g) none

/-- The residual check (R90): while a residual exceeds RESID_LIMIT the satellite with the largest is excluded. -/
def excludeWorst (limit : Nat) : Nat → List FixTerm → List FixTerm
  | 0, l => l
  | n + 1, l =>
    match worstFix l with
    | none => l
    | some w =>
      if (residualW l w).natAbs * 1000 > limit * 65536 * (fixSums l).2 then
        excludeWorst limit n (l.filter (fun f => f.chan ≠ w.chan))
      else l

/-- The offsets of a second's measurements at GPS second `t`, once a position gives them (R90). -/
def solutionFixes (s : State) (t : Nat) (l : List GnssFix) : List FixTerm :=
  match solutionPosition s.gnss with
  | some p => l.filterMap (fixTerm s p t)
  | none => []

/-- The fixes of a solution: the usable ones that the residual check leaves (R90). -/
def usedFixes (s : State) (all : List FixTerm) : List FixTerm :=
  let usable := all.filter (fixUsable s)
  excludeWorst s.gnss.cfg.residLimit usable.length usable

/-- A residual in ps, to nearest. -/
def residualPs (l : List FixTerm) (f : FixTerm) : Int :=
  if (fixSums l).2 = 0 then 0 else divNearI (residualW l f * 1000) (65536 * (fixSums l).2)

/-- Rms of the residuals in ps, rounded to nearest. -/
def residRms (l : List FixTerm) : Nat :=
  if l = [] then 0 else isqrt (divNear (l.foldl (fun a f => a + (residualPs l f).natAbs ^ 2) 0) l.length)

/-- A channel after a second's solution (R102): one without a fix is neither used nor excluded and has no residual. -/
def showFix (all used : List FixTerm) (s : State) (i : Nat) : State :=
  let x := s.gch i
  match all.find? (fun f => f.chan == i) with
  | some f =>
    let u := used.any (fun g => g.chan == i)
    s.setGch i { x with
      used := u, excluded := fixUsable s f && !u, elev := f.elev.toNat, azim := f.azim, cn0 := f.cn0, residual := residualPs used f }
  | none => s.setGch i { x with used := false, excluded := false, residual := 0 }

/-- A survey takes one fix (R93). -/
def surveyAdd (v : Survey) (x y z : Int) : Survey :=
  { v with n := v.n + 1, sx := v.sx + x, sy := v.sy + y, sz := v.sz + z
           sq := v.sq + (x ^ 2 + y ^ 2 + z ^ 2).toNat }

/-- A survey's two end conditions (R93). -/
def surveyComplete (now : Nat) (v : Survey) : Bool :=
  let e := surveyErr2 v
  decide (now ≥ v.start + v.time * 1000000000) && decide (e.2 ≠ 0) && decide (e.1 ≤ v.sigma ^ 2 * e.2)

/-- The position a completed survey adopts (R93): the mean, each coordinate to the nearest millimetre (DESIGN CHOICE, log entry
20: the rule rounds only the uncertainty), and the larger of 6 standard errors and 0.1 m, rounded up to 1 mm. -/
def surveyPosition (v : Survey) : Position :=
  let e := surveyErr2 v
  ⟨divNearI v.sx v.n, divNearI v.sy v.n, divNearI v.sz v.n, max 100 (isqrtUp (divUp (36 * e.1) e.2))⟩

/-- SURVEY_END at a second boundary (R93). -/
def surveyEnd (s : State) : State :=
  if s.gnss.mode = .survey ∧ s.gnss.surveyDone then adoptPosition (surveyPosition s.gnss.survey) s else s

/-- A survey's progress in a second (R93): a fix from at least four satellites with PDOP at most 6 counts. -/
def surveyStep (sv : Nat) (fix : Option (Int × Int × Int × Nat)) (s : State) : State :=
  if s.gnss.mode = .survey then
    let v := match fix with
      | some (x, y, z, pdop) => if 4 ≤ sv ∧ pdop ≤ 60 then surveyAdd s.gnss.survey x y z else s.gnss.survey
      | none => s.gnss.survey
    { s with gnss := { s.gnss with survey := v, surveyDone := s.gnss.surveyDone || surveyComplete s.now v } }
  else s

/-- The satellites usable in a second (R85, R90): those of its offsets; without a position, where no elevation is known, those in NAV,
healthy and at or above the C/N0 mask (DESIGN CHOICE, log entry 20). -/
def usableCount (s : State) (all : List FixTerm) (l : List GnssFix) : Nat :=
  if (solutionPosition s.gnss).isSome then (all.filter (fixUsable s)).length
  else (l.filter (fun f => navHealthy s f.chan && decide (f.cn0 ≥ s.gnss.cfg.cn0Mask))).length

/-- The threshold loop after a solution (R85). -/
def thresholdLoop (usable : Nat) (s : State) : State :=
  let c := s.gnss.cfg
  if usable < c.minSv then
    if s.gnss.acqThr ≤ c.thrFloor ∧ s.gnss.lossThr ≤ c.thrFloor then { s with gnss := { s.gnss with targetUnmet := true } }
    else moveThr false s
  else { s with gnss := { s.gnss with targetUnmet := false } }

/-- The second whose message is due (R95): the next one, 800 ms to 200 ms ahead on the receiver's time, without a message yet;
none before a subframe has given the time. -/
def dueSecond (s : State) : Option Nat :=
  match s.gnss.gpsAt with
  | none => none
  | some (g, at_) =>
    let lead := 1000000000 - (s.now - at_) % 1000000000
    let second := 315964819 + g + (s.now - at_) / 1000000000 + 1
    if 200000000 ≤ lead ∧ lead ≤ 800000000 ∧ (s.gnss.history.head?.map (·.second)) ≠ some second then some second else none

/-- The instant of the solution's second against the receiver's own, in ps (R90, R91): the mean of the offsets and A0, A1, which are
taken as 0 until page 18 has given them (DESIGN CHOICE, log entry 20: the rule does not say what applies then). -/
def solutionPs (s : State) (t : Nat) (used : List FixTerm) : Int :=
  let w := (fixSums used).2
  let u := (s.gnss.page18.map (fun q => utcCorrection q t)).getD 0
  divNearI (((fixSums used).1 + u * w) * 1000) (65536 * w)

/-- Q (R95): the sample-clock edge nearest to the second at `target`, less that second; edges stand at `grid` and every period
of a clock of `clock` mHz, all in ps. -/
def quantQ (grid target : Int) (clock : Nat) : Int :=
  let r := ((grid - target) * clock) % (10 ^ 15 : Int)
  if 2 * r > 10 ^ 15 then divTrunc (r - 10 ^ 15) clock else divTrunc r clock

/-- SAMPLE_PERIOD in ps, to nearest (R97). -/
def samplePeriod (clock : Nat) : Nat := divNear (10 ^ 15) clock

/-- GNSS_SOLUTION (R85, R90, R93, R95 to R97): a due second's message; before a subframe has given the time, only the threshold loop
acts. Without a satellite in the solution Q is a free value of at
most a sample period. -/
def gnssSolution (g : GnssSecond) (s0 : State) : State :=
  match dueSecond s0 with
  | none => if s0.gnss.gpsAt.isNone then thresholdLoop (usableCount s0 [] g.fixes) s0 else s0
  | some second =>
    let a := surveyEnd s0
    let s := surveyStep (g.fixes.filter (fun f => navHealthy a f.chan)).length g.fix
      { a with gnss := { a.gnss with clock := some g.clock, ifOffset := g.ifOffset } }
    let t := second - 315964819
    let all := solutionFixes s t g.fixes
    let usable := all.filter (fixUsable s)
    let used := usedFixes s all
    let valid := decide (s.gnss.mode ≠ .noPosition) && !s.gnss.clkFault && decide (used.length ≥ s.gnss.cfg.minSv)
    let per := samplePeriod g.clock
    let m : QuantMsg :=
      { second := second
        q := if used = [] then (Config.freeValue s.free % (2 * per + 1) : Nat) - (per : Int)
             else quantQ g.grid (solutionPs s t used) g.clock
        period := per, valid := valid, hold := decide (s.gnss.mode = .hold)
        survey := decide (s.gnss.mode = .survey), excluded := decide (used.length < usable.length)
        prov := s.tim.tb.warmup, mp := decide (used ≠ []) && used.all (fun f => (s.gch f.chan).mpActive)
        svUsed := used.length, svExcluded := usable.length - used.length, residRms := residRms used }
    let s1 := (List.range 32).foldl (showFix all used) s
    let s2 := { s1 with
      free := s1.free + 1
      gnss := { s1.gnss with
        history := (m :: s1.gnss.history).take 16
        svUsed := used.length
        lastSecond := if valid then second else s1.gnss.lastSecond } }
    dropLost (thresholdLoop (usableCount s all g.fixes) s2)

/-- The message of a second in the history. -/
def messageOf (s : State) (second : Nat) : Option QuantMsg := s.gnss.history.find? (fun m => m.second == second)

/-- Mark a second's message as applied (R97). -/
def markApplied (second : Nat) (off : Interval) (s : State) : State :=
  { s with gnss := { s.gnss with history := s.gnss.history.map (fun m =>
      if m.second = second then { m with applied := true, offset := some off } else m) } }

/-- Count a message or a record without its partner (R95). -/
def countUnpaired (s : State) : State := { s with gnss := { s.gnss with unpaired := satInc sat16 s.gnss.unpaired } }

/-- QUANTISATION_PAIRING (R95): `instant` is the instant on the timescale of the channel 8 record nearest to the second. A
record outside the window leaves a message and a record without their partners. -/
def quantisationPairing (second : Nat) (instant : Option FieldTime) (s : State) : State :=
  let rec8 := (s.chan 8).last
  match messageOf s second, instant with
  | some m, some t =>
    if !within t (second * s1) (500 * ms1) then countUnpaired (countUnpaired s)
    else if !m.valid || (rec8.map (·.invalid)).getD true then s
    else
      let t5 : Int := (t : Int) * 1000 - m.q * 2 ^ 32
      let off := satI (divTrunc (t5 - (second * s1 * 1000 : Nat)) (1000 * 2 ^ 16))
      let r := rec8.getD {}
      refEvent 8 { at_ := (t5 / 1000).toNat, prov := r.prov, unlock := r.unlock, stale := r.stale, invalid := r.invalid,
                   phase := some off, ub := 0 } (markApplied second off s)
  | none, none => s
  | _, _ => countUnpaired s

/-- The internal PPS edge of a second (R96): GNSS_PPS rises with it when the second's message is valid. The edge is that of the
newest message when the receiver's time is within 500 ms of its second. -/
def gnssPpsEdge (s : State) : State :=
  match s.gnss.history.head?, s.gnss.gpsAt with
  | some m, some (g, at_) =>
    if m.valid && decide (315964819 + g + (s.now - at_ + 500000000) / 1000000000 = m.second) then
      { s with gnss := { s.gnss with ppsAt := some s.now } }
    else s
  | _, _ => s

/-- The GNSS_PPS output (R96): high for 100 ms, else held low. -/
def gnssPps (s : State) : Bool := s.gnss.ppsAt.any (fun t => decide (s.now < t + 100 * 1000000))

/-- GNSS_CONFIG (R100). -/
def execGnssConfig (rq : Request) (s : State) : Out := kcpRow 0x0201 (leastPriv s 0x0201 rq.payload) bodyGnssConfig rq s
/-- GNSS_STATUS (R101). -/
def execGnssStatus (rq : Request) (s : State) : Out := kcpRow 0x0202 (leastPriv s 0x0202 rq.payload) bodyGnssStatus rq s
/-- GNSS_CHANNELS (R102). -/
def execGnssChannels (rq : Request) (s : State) : Out := kcpRow 0x0203 (leastPriv s 0x0203 rq.payload) bodyGnssChannels rq s
/-- GNSS_SET_POSITION (R103). -/
def execGnssSetPosition (rq : Request) (s : State) : Out := kcpRow 0x0204 (leastPriv s 0x0204 rq.payload) bodyGnssSetPosition rq s
/-- Action 0 of GNSS_SURVEY (R104). -/
def execGnssSurveyStatus (rq : Request) (s : State) : Out := kcpRow 0x0205 (leastPriv s 0x0205 (withByte 0 0 rq).payload) bodyGnssSurvey (withByte 0 0 rq) s
/-- Action 1 of GNSS_SURVEY (R104). -/
def execGnssSurveyStart (rq : Request) (s : State) : Out := kcpRow 0x0205 (leastPriv s 0x0205 (withByte 0 1 rq).payload) bodyGnssSurvey (withByte 0 1 rq) s
/-- Action 2 of GNSS_SURVEY (R104). -/
def execGnssSurveyAbort (rq : Request) (s : State) : Out := kcpRow 0x0205 (leastPriv s 0x0205 (withByte 0 2 rq).payload) bodyGnssSurvey (withByte 0 2 rq) s
/-- GNSS_PPS_MSG (R105). -/
def execGnssPpsMsg (rq : Request) (s : State) : Out := kcpRow 0x0206 (leastPriv s 0x0206 rq.payload) bodyGnssPpsMsg rq s
/-- GNSS_CLK_FAULT (R84). -/
def execGnssClkFault (clock : ClkSeen) (s : State) : Out := done s (gnssClkFault clock s)
/-- GNSS_CLK_CLEAR (R84). -/
def execGnssClkClear (clock : ClkSeen) (s : State) : Out := done s (gnssClkClear clock s)
/-- ACQUISITION_DWELL (R85). -/
def execAcquisitionDwell (prn : Nat) (rise fall checkRise checkFall : List IqLevels) (s : State) : Out :=
  guardUnit (1 ≤ prn ∧ prn ≤ 32) s (done s (acquisitionDwell prn rise fall checkRise checkFall s))
/-- TRACKING_LOSS (R87). -/
def execTrackingLoss (chan : Nat) (cn0 : List Nat) (s : State) : Out :=
  guardUnit (chan < 32) s (done s (trackingLoss chan cn0 s))
/-- BIT_SYNCHRONISATION (R87). -/
def execBitSynchronisation (chan : Nat) (s : State) : Out := guardUnit (chan < 32) s (done s (bitSynchronisation chan s))
/-- MULTIPATH_FIT (R88). -/
def execMultipathFit (chan : Nat) (span : IfSpan) (s : State) : Out :=
  guardUnit (chan < 32) s (done s (multipathFit chan span s))
/-- EPHEMERIS_ADOPT (R82). -/
def execEphemerisAdopt (prn : Nat) (s : State) : Out := guardUnit (1 ≤ prn ∧ prn ≤ 32) s (done s (ephemerisAdopt prn s))
/-- LNAV_SUBFRAME (R92). -/
def execLnavSubframe (prn : Nat) (sub : LnavWords) (s : State) : Out :=
  guardUnit (1 ≤ prn ∧ prn ≤ 32) s (done s (lnavSubframe prn sub s))
/-- GNSS_SOLUTION (R90). -/
def execGnssSolution (sol : GnssSecond) (s : State) : Out := done s (gnssSolution sol s)
/-- QUANTISATION_PAIRING (R95). -/
def execQuantisationPairing (second : Nat) (instant : Option FieldTime) (s : State) : Out :=
  done s (quantisationPairing second instant s)

end Sys2Proof.Machine
end

