-- ==== Sys2Proof/Machine/Fit.lean ====
section
/-! DEFINITION. Least-squares lines as exact fractions (R112, R142, R171, R188). -/

namespace Sys2Proof.Machine
open Sys2Proof

/-- The sums of a least-squares line over points (x, y). -/
structure Line where
  n : Nat := 0
  sx : Int := 0
  sy : Int := 0
  sxx : Int := 0
  sxy : Int := 0
  syy : Int := 0
  deriving DecidableEq, Repr

/-- The sums with one more point. -/
def Line.add (l : Line) (p : Int × Int) : Line :=
  ⟨l.n + 1, l.sx + p.1, l.sy + p.2, l.sxx + p.1 * p.1, l.sxy + p.1 * p.2, l.syy + p.2 * p.2⟩

/-- The sums of a list of points. -/
def lineOf (ps : List (Int × Int)) : Line := ps.foldl Line.add {}

/-- n Σx² − (Σx)². -/
def Line.den (l : Line) : Int := l.n * l.sxx - l.sx * l.sx
/-- n Σxy − Σx Σy; the slope is this over `den`. -/
def Line.slopeNum (l : Line) : Int := l.n * l.sxy - l.sx * l.sy

/-- The line's value at x as a fraction: numerator and denominator. -/
def Line.at_ (l : Line) (x : Int) : Int × Nat :=
  (l.sy * l.den + l.slopeNum * (l.n * x - l.sx), (l.n * l.den).toNat)

/-- The sum of squared residuals about the line as a fraction. -/
def Line.ss (l : Line) : Nat × Nat :=
  (((l.n * l.syy - l.sy * l.sy) * l.den - l.slopeNum * l.slopeNum).toNat, (l.n * l.den).toNat)

/-- A fraction's square root rounded up to an integer. -/
def sqrtUp (a b : Nat) : Nat := if b = 0 then 0 else isqrtUp (divUp a b)

/-- A fraction of integers rounded up in magnitude. -/
def absUp (a : Int) (b : Nat) : Nat := if b = 0 then 0 else divUp a.natAbs b

end Sys2Proof.Machine
end

