-- ==== Sys2Proof/Machine/OutCore.lean ====
section
/-! DEFINITION. The precision outputs: their records, gating and what a step does to them (R450, R451, R460). Outputs 0 to
15 are PPS0 to PPS3, FOUT0 to FOUT3, SCLK0 to SCLK7. -/

namespace Sys2Proof.Machine
open Sys2Proof

/-- APLL `i`. -/
def State.apll (s : State) (i : Nat) : Apll := tget {} s.syn.apll i
/-- Replace an APLL. -/
def State.setApll (s : State) (i : Nat) (x : Apll) : State := { s with syn := { s.syn with apll := tset {} s.syn.apll i x } }
/-- What output `o` does. -/
def State.outp (s : State) (o : Nat) : OutSt := tget {} s.syn.out o
/-- Replace what an output does. -/
def State.setOutp (s : State) (o : Nat) (x : OutSt) : State := { s with syn := { s.syn with out := tset {} s.syn.out o x } }

/-- The OUT_PPS_CONFIG record of PPS0 to PPS3 and FOUT0 to FOUT3 (R466), with the defaults of one not yet written. -/
def ppsRec (s : State) (i : Nat) : PpsCfg :=
  let c := tget {} s.syn.pps i
  if c.written then c else { c with width := if i < 4 then 100000000 else 0, divider := if i < 4 then 0 else 1000 }

/-- The OUT_SAMPLE_CLOCK record of a sample clock. -/
def sclkRec (s : State) (i : Nat) : SclkCfg := tget {} s.syn.sclk i

/-- ENABLE of an output. -/
def outEnabled (s : State) (o : Nat) : Bool := if o < 8 then bit (ppsRec s o).flags 0 else bit (sclkRec s (o - 8)).flags 0
/-- SYNC_EN of an output. -/
def outSyncEn (s : State) (o : Nat) : Bool := if o < 8 then bit (ppsRec s o).flags 1 else bit (sclkRec s (o - 8)).flags 1
/-- MARKER of a PPS output. -/
def outMarker (s : State) (o : Nat) : Bool := decide (o < 4) && bit (ppsRec s o).flags 2

/-- An output is in a CFG_PARITY safe state, or its APLL is (R460, R509). -/
def outSafe (s : State) (o : Nat) : Bool := inSafe s 6 (4 + o) || inSafe s 6 (outApll s o)

/-- An output's ENABLE holds; a sample clock goes on to the end of the frame in progress (R457). -/
def outOn (s : State) (o : Nat) : Bool := outEnabled s o || (decide (8 ≤ o) && decide (replicaTime s 0 < (s.outp o).stopAt))

/-- An output drives (R460). -/
def outDrives (s : State) (o : Nat) : Bool :=
  let a := s.apll (outApll s o)
  outOn s o && a.cfg.enable && a.locked && a.resumed && !(s.outp o).syncGate && !outSafe s o &&
  (decide (o < 8) || (s.outp o).started) && (!shared s o || s.tan.driving)

/-- F_VCO of an output's APLL in MHz. -/
def outFvco (s : State) (o : Nat) : Nat := (s.apll (outApll s o)).cfg.fvco

/-- The period of a continuous output as a fraction of 2^-32 ns (R453, R457): FOUT, and BCLK and FCLK of a sample clock. -/
def outPeriod (s : State) (o : Nat) (frame : Bool) : Nat × Nat :=
  if o < 8 then ((ppsRec s o).divider * us1, outFvco s o)
  else
    let c := sclkRec s (o - 8)
    if frame then (c.bclkDiv * c.frameB * us1, outFvco s o * c.frameA) else (c.bclkDiv * us1, outFvco s o)

/-- The instant from which the rising edges of a continuous output are counted (R450, R457, R459), as a fraction of 2^-32 ns. -/
def outAnchor (s : State) (o : Nat) : Int × Nat :=
  let x := s.outp o
  if x.synced then ((x.syncEdge * us1 : Nat), outFvco s o)
  else if o < 8 then ((ppsRec s o).offset * 65536, 1) else (((sclkRec s (o - 8)).epochStart : Nat), 1)

/-- Time since the last rising edge of a continuous output, over the product of the two denominators (R450). -/
def cyclePhase (a : Int × Nat) (p : Nat × Nat) (t : FieldTime) : Nat :=
  (((t : Int) * a.2 - a.1) * p.2 % ((p.1 : Int) * a.2)).toNat

/-- The high phase of a continuous output (R453: floor(D/2) VCO periods); no rule gives that of a sample clock, for which the
model takes half a cycle (DESIGN CHOICE, log entry 38). -/
def highPhase (s : State) (o : Nat) (frame : Bool) : Nat × Nat :=
  let p := outPeriod s o frame
  if o < 8 then ((ppsRec s o).divider / 2 * us1, p.2) else (p.1 / 2, p.2)

/-- When a high signal of a continuous output falls; 0 when it is low. -/
def legFall (s : State) (o : Nat) (frame : Bool) (t : FieldTime) : FieldTime :=
  let a := outAnchor s o
  let p := outPeriod s o frame
  let h := (highPhase s o frame).1 * a.2
  let x := cyclePhase a p t
  if x < h then t + divUp (h - x) (a.2 * p.2) else 0

/-- When the own signal of an output, high now, falls (R428); 0 when it is low. -/
def signalFall (s : State) (o : Nat) : FieldTime :=
  let t := replicaTime s 0
  if o < 4 then (if t < (s.outp o).pulseEnd then (s.outp o).pulseEnd else 0)
  else if o < 8 then legFall s o false t else max (legFall s o false t) (legFall s o true t)

/-- The end of a sample clock's frame in progress (R457). -/
def frameEnd (s : State) (o : Nat) : FieldTime :=
  let a := outAnchor s o
  let p := outPeriod s o true
  let t := replicaTime s 0
  t + divUp (p.1 * a.2 - cyclePhase a p t) (a.2 * p.2)

/-- WIDTH of a PPS pulse, rounded to the nearest VCO period (R452). -/
def pulseWidth (s : State) (o : Nat) : Nat :=
  divNear ((divNear ((ppsRec s o).width * outFvco s o) 1000) * us1) (outFvco s o)

/-- A shared output that becomes enabled while its own signal is high drives low until that signal next falls (R428). -/
def holdLow (s : State) (o : Nat) : State := if shared s o then s.setOutp o { s.outp o with lowUntil := signalFall s o } else s

/-- (−Δ) mod P in 2^-32 ns, rounded down (R451). -/
def lengthening (d : Interval) (p : Nat × Nat) : Nat :=
  if p.1 = 0 then 0 else ((0 - d * 65536 * p.2) % (p.1 : Int)).toNat / p.2

/-- Labels of a range not in the emitted ranges. -/
def labelsNotIn (l : List (Nat × Nat)) (lo hi : Nat) : Nat :=
  l.foldl (fun n r => n - (min hi r.2 + 1 - max lo r.1)) (hi + 1 - lo)

/-- A label has been emitted (R451). -/
def labelEmitted (l : List (Nat × Nat)) (v : Nat) : Bool := l.any (fun r => decide (r.1 ≤ v) && decide (v ≤ r.2))

/-- Add an emitted label. -/
def addLabel (l : List (Nat × Nat)) (v : Nat) : List (Nat × Nat) :=
  match l with
  | (a, b) :: t => if v = b + 1 then (a, v) :: t else (v, v) :: (a, b) :: t
  | [] => [(v, v)]

/-- The second whose leading edge under an offset is at or before a field time; none before second 0's. -/
def labelAt (t : Int) (off : Interval) : Option Nat :=
  let k := (t - off * 65536) / (s1 : Int)
  if k < 0 then none else some k.toNat

/-- One output at a step of `d` whose marker moves from `e` to `m` (R451, R459). -/
def stepOutput (d : Interval) (e m : FieldTime) (s : State) (o : Nat) : State :=
  let x := s.outp o
  if x.synced then s
  else if 4 ≤ o then
    s.setOutp o { x with
      steps := satInc sat32 x.steps
      lengthen := if outDrives s o then ((lengthening d (outPeriod s o (decide (8 ≤ o))) / 65536 : Nat) : Int) else x.lengthen
      lengthenB := if outDrives s o ∧ 8 ≤ o then ((lengthening d (outPeriod s o false) / 65536 : Nat) : Int) else x.lengthenB }
  else
    let off := (ppsRec s o).offset
    let lo := match labelAt e off with | some k => k + 1 | none => 0
    let n := match labelAt m off with | some hi => if lo ≤ hi then labelsNotIn x.labels lo hi else 0 | none => 0
    s.setOutp o { x with
      steps := satInc sat32 x.steps, pulseAt := m
      skipped := if outDrives s o && !outMarker s o && decide (0 < d) then min sat32 (x.skipped + n) else x.skipped }

/-- Every output at a step (R451). -/
def outputStep (d : Interval) (e m : FieldTime) (s : State) : State := (List.range 16).foldl (stepOutput d e m) s

end Sys2Proof.Machine
end

