-- ==== Sys2Proof/Machine/Tim.lean ====
section
/-! DEFINITION. The time base, warm-up, the interpolators and group 0x01 (spec/03_interval_measurement.md). -/

namespace Sys2Proof.Machine
open Sys2Proof

/-- Encoding of the M-tile state (R47). -/
def mStateCode (m : MState) : Nat :=
  match m with
  | .cold => 0 | .mBoot => 1 | .warmUp => 2 | .freeRun => 3 | .acquiring => 4 | .locked => 5 | .holdover => 6

/-- Number of privileged channels (R62). -/
def numChans : Nat := 16
/-- Number of general interpolators (R66). -/
def numInterps : Nat := 1048

/-- LOCK_MAP (R72). -/
def lockMap (s : State) : Nat := (List.range numChans).foldl (fun a i => a + flag i (s.chan i).lock) 0

/-- TB_STATUS's reply with a given tick (R72, R496). -/
def tbStatus (s : State) (tick : Nat) : List Byte :=
  let b := s.tim.tb
  le 4 (flag 0 b.ovenHigh + flag 1 b.warmup + flag 2 b.aplLock + flag 3 b.oscLoss + flag 4 b.driftMet + flag 5 b.holdTimer) ++
  le 1 (mStateCode s.osc.mState) ++ le 1 b.source ++ le 2 b.run ++
  le 4 (if b.ovenHigh then (s.now - b.ovenSince) / 1000000000 else 0xFFFFFFFF) ++ le 4 b.lossCount ++
  leF b.freq ++ leF b.lastChange ++ le 8 tick ++ leI 2 b.tempM ++ le 2 (lockMap s) ++ zeros 4 ++
  (List.range numChans).flatMap (fun i => le 1 (flag 0 (s.chan i).lock) ++ zeros 1 ++ le 2 (s.chan i).unlocks ++
    le 4 (s.chan i).missed)

/-- TB_STATUS (R72). -/
def bodyTbStatus : Body := fun c s => if c.req.payload = [] then ok s (tbStatus s s.tim.tick) else badLen s

/-- TIM_CONFIG's record (R73). -/
def timRecord (t : TimCfg) : List Byte := leF t.driftLimit ++ le 2 t.windowCount ++ zeros 2 ++ le 4 t.holdTime

/-- DRIFT_LIMIT is 0.01 ppb to 100 ppb in 0.01 ppb steps, rounded to the nearest LSB (R73). -/
def driftLimitOk (v : Int) : Bool :=
  let n := divNear (v.toNat * 10 ^ 11) (2 ^ 48)
  decide (0 < v) && decide (1 ≤ n) && decide (n ≤ 10000) && decide (divNear (n * 2 ^ 48) (10 ^ 11) = v.toNat)

/-- TIM_CONFIG (R73). -/
def bodyTimConfig : Body := fun c s =>
  let p := c.req.payload
  if p = [] then ok s (timRecord s.tim.cfg)
  else if p.length ≠ 16 then badLen s
  else
    checked s [(0, driftLimitOk (rdI p 0 8)), (8, 1 ≤ rd p 8 2 ∧ rd p 8 2 ≤ 60), zeroAt p 10 2, (12, rd p 12 4 ≤ 14400)]
      (let new : TimCfg := ⟨rdI p 0 8, rd p 8 2, rd p 12 4⟩
       let old := s.tim.cfg
       let ws : List SealedWrite :=
         [⟨0x0102, 0, 0, leF old.driftLimit, leF new.driftLimit⟩, ⟨0x0102, 0, 8, le 2 old.windowCount, le 2 new.windowCount⟩,
          ⟨0x0102, 0, 12, le 4 old.holdTime, le 4 new.holdTime⟩]
       if sealedStatus s ws ≠ 0 then err s (sealedStatus s ws)
       else
         let s1 := sealedLog ws s
         ok { s1 with tim := { s1.tim with cfg := new } } (timRecord new))

/-- TIM_MEASURE (R74): Nuheif takes it off the mailbox and holds it; a fifth is BUSY (R16). -/
def bodyTimMeasure : Body := fun c s =>
  let p := c.req.payload
  if p.length ≠ 8 then badLen s
  else
    checked s [(0, rd p 0 2 ≤ 0x10), (2, rd p 2 2 ≤ 0x10), (4, 1 ≤ rd p 4 2 ∧ rd p 4 2 ≤ 2000), zeroAt p 6 2]
      (if s.tim.measures.length ≥ 4 then busy s
       else
         let at_ := s.tim.tick * 800 - (s.now - c.accAt) * 1000
         let m : Measure := { id := c.id, srcA := rd p 0 2, srcB := rd p 2 2, acceptedPs := at_,
                              deadlinePs := at_ + rd p 4 2 * 1000000000, deadline := c.accAt + rd p 4 2 * 1000000 }
         held { s with tim := { s.tim with measures := s.tim.measures ++ [m] } })

/-- A record's edge on the time base in fifths of an interval LSB: a tick is 262,144 of them (R59). -/
def edge5 (r : Rec) : Int := (r.tick * 262144 : Nat) - r.d * 5

/-- The record of the time-base microsecond at a tick (R74). -/
def usRec (tick : Nat) (warm : Bool) : Rec := { tick := tick, d := 0, prov := warm }

/-- The time-base microsecond at tick `t`, once it has come within TIMEOUT (R74). Its PROV is the warm-up flag when the
reply is formed (DESIGN CHOICE, log entry 19: the rules place no record of it at the tick). -/
def usAt (s : State) (m : Measure) (t : Nat) : Option Rec :=
  if t ≤ s.tim.tick ∧ t * 800 ≤ m.deadlinePs then some (usRec t s.tim.tb.warmup) else none

/-- Source A's record, once it exists (R74). -/
def measA (s : State) (m : Measure) : Option Rec :=
  if m.srcA = 0x10 then usAt s m ((m.acceptedPs / 1000000 + 1) * 1250) else m.recA

/-- Source B's record, once it exists (R74): the first whose edge is at or after A's. -/
def measB (s : State) (m : Measure) (a : Rec) : Option Rec :=
  if m.srcB = 0x10 then usAt s m (divUp (edge5 a).toNat (1250 * 262144) * 1250)
  else m.recB.or (m.early.find? (fun r => decide (edge5 a ≤ edge5 r)))

/-- FLAGS of a record in TIM_MEASURE's reply (R74). -/
def recFlags (r : Rec) : Nat := flag 0 r.prov + flag 1 r.unlock + flag 2 r.stale + flag 3 r.invalid + flag 4 r.missed

/-- TIM_MEASURE's reply (R74). -/
def measureReply (a b : Rec) : List Byte :=
  (if a.invalid || b.invalid then le 8 noInterval else leIv (satI (divTrunc (edge5 b - edge5 a) 5))) ++
  le 8 a.tick ++ le 8 b.tick ++ leI 4 a.d ++ leI 4 b.d ++ le 2 (recFlags a) ++ le 2 (recFlags b) ++ zeros 4

/-- The reply due to a held TIM_MEASURE: its pair of records, or TIMEOUT. -/
def measureDue (s : State) (m : Measure) : Option (Nat × List Byte) :=
  match (measA s m).bind (fun a => (measB s m a).map (fun b => (a, b))) with
  | some (a, b) => some (stOK, measureReply a b)
  | none => if m.deadline ≤ s.now then some (stTIMEOUT, []) else none

/-- TIM_MEASURE_RESULT (R74): the first held TIM_MEASURE that is due is answered. -/
def timMeasureResult (s : State) : State :=
  match s.tim.measures.find? (fun m => (measureDue s m).isSome) with
  | none => s
  | some m =>
    let r := (measureDue s m).getD (stTIMEOUT, [])
    let s1 := { s with tim := { s.tim with measures := s.tim.measures.filter (fun x => x.id != m.id) } }
    answerHeld m.id (fun _ s => { st := s, status := r.1, payload := r.2 }) s1

/-- A new record of a privileged channel at `now`, offered to the held TIM_MEASUREs (R74); none arrives after TIMEOUT. -/
def offerRec (now chan : Nat) (r : Rec) (m : Measure) : Measure :=
  let after := decide ((m.acceptedPs : Int) * 262144 < edge5 r * 800) && decide (now ≤ m.deadline)
  let m1 := if m.srcA = chan ∧ m.recA = none ∧ after then { m with recA := some r } else m
  if m1.srcB = chan ∧ m1.recB = none ∧ after then { m1 with early := m1.early ++ [r] } else m1

/-- The channels a bitmap names. -/
def chanList (map : Nat) : List Nat := (List.range numChans).filter (fun i => bit map i)

/-- A channel feeds the selected reference (R75). -/
def feedsSelected (s : State) (n : Nat) : Bool :=
  match s.sel.st.selected with | some i => slotChan i == some n || (i == 19 && (n == 12 || n == 13)) | none => false

/-- A channel feeds a tandem comparison in force (R75, R435): the partner's edges and the common slots' channels. -/
def feedsTandem (s : State) (n : Nat) : Bool :=
  bit s.tan.cfg.flags 0 && (n == 12 || n == 13 || (decide (n ≤ 8) && bit s.tan.cfg.common n))

/-- TIM_CAL_STATUS's record of a channel (R76). -/
def calRecord (x : PrivChan) : List Byte :=
  le 1 (flag 0 x.lock + flag 1 x.checking + flag 2 x.pass + flag 3 x.fail) ++ zeros 1 ++ le 2 x.lockWindows ++
  leI 4 (frameRate x.fastErr) ++ leI 4 (frameRate x.slowErr) ++ le 2 x.dnlMax ++ le 2 x.inlMax

/-- TIM_CAL_STATUS (R76). -/
def bodyTimCalStatus : Body := fun c s =>
  let p := c.req.payload
  if p.length ≠ 4 then badLen s
  else checked s [zeroAt p 2 2] (ok s ((chanList (rd p 0 2)).flatMap (fun i => calRecord (s.chan i))))

/-- Slot `i` is held while its channel is verified, or its edge generator runs (R118, R564): the hold begins with the first
of them and ends with the last. -/
def holdSlot (i : Nat) (s : State) : State :=
  let x := s.slot i
  let v := (slotChan i).any (fun n => (s.chan n).checking) || edgeGen s i
  if v = x.st.held then s
  else s.setSlot i { x with
    st := { x.st with held := v, timer := if !v && x.st.state == .qualifying then 0 else x.st.timer }
    act := if v then x.act else { x.act with predict := none } }

/-- Hold or release the slot that a channel times, where it times one. -/
def holdChan (n : Nat) (s : State) : State := match chanSlot n with | some i => holdSlot i s | none => s

/-- Start one channel's verification (R75). -/
def startVerify (s : State) (n : Nat) : State :=
  holdChan n (s.setChan n { s.chan n with checking := true, converting := none })

/-- TIM_CAL_RUN (R75). -/
def bodyTimCalRun : Body := fun c s =>
  let p := c.req.payload
  if p.length ≠ 4 then badLen s
  else checked s [zeroAt p 2 2]
    (let l := chanList (rd p 0 2)
     if l.any (fun n => feedsSelected s n || feedsTandem s n || !(s.chan n).lock) then err s stSTATE
     else if l.any (fun n => (s.chan n).checking) then busy s
     else pend (l.foldl startVerify s) [])

/-- The running sums of the hits of codes against 1,024 each. -/
def inlSums : List Nat → Int → List Int
  | [], _ => []
  | h :: t, a => (a + (h : Int) - 1024) :: inlSums t (a + h - 1024)

/-- The largest absolute value of a list. -/
def maxAbs (l : List Int) : Nat := l.foldl (fun m x => max m x.natAbs) 0

/-- TIM_CAL_VERIFY_END (R75): one hit of 2^18 is a fifth of an interval LSB; the limits are 256 hits (0.25 step) and 512
hits (1.5625 ps). -/
def timCalVerifyEnd (n : Nat) (hist : List Nat) (s : State) : State :=
  let x := s.chan n
  if !x.checking || hist.length ≠ 256 || hist.sum ≠ 2 ^ 18 then s
  else
    let dnl := maxAbs (hist.map (fun h : Nat => (h : Int) - 1024))
    let inl := maxAbs (inlSums hist 0)
    let good := decide (dnl ≤ 256) && decide (inl ≤ 512)
    holdChan n (s.setChan n { x with
      checking := false, pass := good, fail := !good, dnlMax := min sat16 dnl, inlMax := min sat16 (divNear inl 5) })

/-- N of the prescaler of a channel (R65): channels 9 to 11 and 13 carry 10 MHz. -/
def chanPrescale (s : State) (n : Nat) : Nat :=
  if n < 8 then (if slotKind s n = 1 then prescalerN (s.slot n).cfg.nomFreq else 1)
  else if (9 ≤ n ∧ n ≤ 11) ∨ n = 13 then 10
  else 1

/-- The stop tick of an edge: the first tick after it (R59). -/
def stopTick (edgePs : Nat) : Nat := edgePs / 800 + 1

/-- MEASURED_EDGE at a privileged channel (R59, R60, R65): its prescaler counts every cycle; a channel under verification is
disconnected from it (R75). -/
def chanEdge (n edgePs : Nat) (s : State) : State :=
  let x0 := s.chan n
  let pass := decide (chanPrescale s n ≤ x0.edges + 1)
  let x := { x0 with
    cycles := x0.cycles + 1, edges := if pass then 0 else x0.edges + 1
    passedPs := if pass && !x0.checking then some edgePs else x0.passedPs }
  if x.checking || !pass then s.setChan n x
  else if x.converting.isSome || edgePs < x.freeAt then
    s.setChan n { x with missed := satInc sat32 x.missed, missedPending := true }
  else s.setChan n { x with converting := some (stopTick edgePs), startCycles := x.cycles }

/-- An edge at a privileged channel (R59); channel 8's is the internal PPS, with which GNSS_PPS rises whatever the channel does (R96). -/
def privEdge (n edgePs : Nat) (s : State) : State := if n = 8 then gnssPpsEdge (chanEdge n edgePs s) else chanEdge n edgePs s

/-- A furrow port takes a hit (R67) in the headland only, outside the widened arrival window: none of its bursts and no edge it
must measure falls within the 150 ns from an instant on the time base, 2^-16 ns. -/
def furHit (a : FurAux) (t : Int) : Bool :=
  let e := t + 150 * 65536
  a.lines.all (fun b => decide (e ≤ b.at_) || decide (b.fall - 8 * 65536 ≤ t)) &&
  a.arrive.all (fun w => decide (e ≤ w.1) || decide (w.2 ≤ t))

/-- Where an interpolator starts a hit (R67), `hitPs` on the time base: a furrow port in the headland, an Ethernet port 250 ns
or 750 ns after an epoch marker of the S-tile replica (at the tick there), a spare at any time. -/
def hitStart (s : State) (n hitPs : Nat) : Bool :=
  let at_ : Int := (hitPs * 65536 / 1000 : Nat)
  let off := fieldOfBase s 0 at_ % us1
  let near := fun (ns : Nat) => decide ((ns * ns1 : Nat) ≤ off) && decide (off * 5 < ((5 * ns + 4) * ns1 : Nat))
  if n < 1024 then furHit (s.paux n) at_ else decide (1040 ≤ n) || near 250 || near 750

/-- A hit conversion of the refresh in progress is under way at an edge (R67): it started within the 150 ns before, at an
instant at which its port's rule lets it start. -/
def hitRuns (s : State) (n edgePs : Nat) (hit : Option Nat) : Bool :=
  match hit with
  | some t => (s.interp n).running && decide (t ≤ edgePs) && decide (edgePs < t + 150000) && hitStart s n t
  | none => false

/-- MEASURED_EDGE at a general interpolator (R59, R60, R67, R68): an edge during a hit conversion is missed, and the hit is
discarded. -/
def genEdge (n edgePs : Nat) (hit : Option Nat) (s : State) : State :=
  let x := s.interp n
  let h := hitRuns s n edgePs hit
  if h || x.converting.isSome || edgePs < x.freeAt then
    s.setInterp n { x with missed := satInc sat32 x.missed, missedPending := true, discards := if h then x.discards + 1 else x.discards }
  else s.setInterp n { x with converting := some (stopTick edgePs), convTable := x.table, convStart := x.tableStart }

/-- MEASURED_EDGE (R59). -/
def measuredEdge (priv : Bool) (n edgePs : Nat) (hit : Option Nat) (s : State) : State :=
  if !s.tim.tb.running then s else if priv then privEdge n edgePs s else genEdge n edgePs hit s

/-- D of a privileged conversion that ends at cycle k (R61). -/
def privD (k : Nat) : Interval := divNear ((2 * k - 1) * 512) 5

/-- The end of a privileged conversion (R59 to R61, R64). -/
def privEnd (n k tick : Nat) (s : State) : State :=
  let x := s.chan n
  let r : Rec := { tick := tick, d := privD k, prov := s.tim.tb.warmup, unlock := !x.lock, invalid := !x.lock,
                   missed := x.missedPending }
  let s1 := s.setChan n { x with converting := none, freeAt := (tick + k) * 800 + 40000, missedPending := false,
                                 last := some r, recCycles := x.startCycles }
  { s1 with tim := { s1.tim with measures := s1.tim.measures.map (offerRec s1.now n r) } }

/-- M(c) of a table, in interval LSBs rounded to nearest with a half up (R66): a hit is a fifth of an LSB. -/
def midpoint (h : List Nat) (c : Nat) : Nat := divNear (2 * (h.take c).sum + h.getD c 0) 10

/-- A table whose refresh started at `start` is older than 256 s (R69). -/
def olderTable (s : State) (start : Nat) : Bool := decide (s.now > start + 256 * 1000000000)
/-- The table in use is older than 256 s (R69). -/
def tableStale (s : State) (x : GenInterp) : Bool := olderTable s x.tableStart

/-- The end of a general conversion (R66, R69): without a coincidence, or without a table, D is a free value. -/
def genEnd (n tick : Nat) (code : Option Nat) (endPs : Nat) (s : State) : State :=
  let x := s.interp n
  let v : Option Interval := code.bind (fun c => x.convTable.map (fun h => (midpoint h c : Int)))
  let fr := drawBelow 52428 s
  let s0 := if v.isSome then s else fr.2
  let r : Rec := { tick := tick, d := v.getD (fr.1 + 1), prov := s.tim.tb.warmup,
                   stale := x.convTable.isSome && olderTable s x.convStart,
                   invalid := v.isNone || x.calFault, missed := x.missedPending }
  s0.setInterp n { x with converting := none, convTable := none, freeAt := endPs + 40000, missedPending := false,
                          last := some r }

/-- CONVERSION_END (R60, R61, R66). -/
def conversionEnd (priv : Bool) (n : Nat) (code : Option Nat) (endPs : Nat) (s : State) : State :=
  if priv then
    match (s.chan n).converting, code with
    | some t, some k => if 1 ≤ k ∧ k ≤ 256 then privEnd n k t s else s
    | _, _ => s
  else
    match (s.interp n).converting with
    | some t => if code.all (fun c => decide (c < 128)) then genEnd n t code endPs s else s
    | none => s

/-- |x| is at most n parts per million (R63). -/
def withinPpm (n : Nat) (x : Freq) : Bool := decide (x.natAbs * 1000000 ≤ n * 2 ^ 48)

/-- A channel unlocks (R63): the transition is counted once. -/
def unlockChan (n : Nat) (s : State) : State :=
  let x := s.chan n
  setCond 0 (16 + n) true (s.setChan n { x with
    lock := false, lockWindows := 0, unlocks := if x.lock then satInc sat16 x.unlocks else x.unlocks })

/-- CHANNEL_LOCK_WINDOW (R63). -/
def channelLockWindow (n : Nat) (fast slow : Freq) (s : State) : State :=
  let s0 := s.setChan n { s.chan n with fastErr := fast, slowErr := slow }
  let x := s0.chan n
  if !s.tim.tb.aplLock || !(withinPpm 5 fast && withinPpm 5 slow) then dropLost (unlockChan n s0)
  else if withinPpm 2 fast && withinPpm 2 slow then
    let w := satInc sat16 x.lockWindows
    let s1 := s0.setChan n { x with lockWindows := w, lock := x.lock || decide (w ≥ 16) }
    if w ≥ 16 then setCond 0 (16 + n) false s1 else s1
  else s0.setChan n { x with lockWindows := 0 }

/-- Codes that received hits. -/
def codesUsed (h : List Nat) : Nat := (h.filter (· ≠ 0)).length

/-- A completed refresh is accepted (R68): 2^18 hits over 128 codes, at least 107 codes, no code beyond three times the
mean, and M(64) within 50 ps of the table in use (50 ps is 32,768 tenths of an LSB). -/
def refreshOk (x : GenInterp) (h : List Nat) : Bool :=
  decide (h.length = 128) && decide (h.sum = 2 ^ 18) && decide (codesUsed h ≥ 107) &&
  h.all (fun n => decide (n * codesUsed h ≤ 3 * 2 ^ 18)) &&
  (match x.table with
   | none => true
   | some t =>
     decide (((2 * (h.take 64).sum + h.getD 64 0 : Nat) - (2 * (t.take 64).sum + t.getD 64 0 : Nat) : Int).natAbs ≤ 32768))

/-- A refresh may follow at once where none runs (R70, R71): before the first accepted table hits are taken in every
available interval, and the spares refresh continuously. -/
def refreshAtOnce (n : Nat) (x : GenInterp) : Bool :=
  !x.running && (decide (1040 ≤ n) || (x.table.isNone && x.accepted.isNone))

/-- REFRESH_START (R67): one starts every 64 s; an unfinished one is abandoned. -/
def refreshStart (n : Nat) (s : State) : State :=
  let x := s.interp n
  if x.started && decide (s.now < x.start + 64 * 1000000000) && !refreshAtOnce n x then s
  else s.setInterp n { x with
    running := true, started := true, start := s.now, hits := 0, discards := 0
    abandoned := if x.running then satInc sat16 x.abandoned else x.abandoned }

/-- The fault source of an interpolator's CAL_FAULT (R511): block and source number. -/
def calFaultSource (n : Nat) : Nat × Nat :=
  if n < 1024 then (9 + n / 256, 17 + 4 * (n % 256)) else if n < 1040 then (1, 32 + (n - 1024)) else (1, 48 + (n - 1040))

/-- A furrow port whose interpolator is in calibration fault enters FAULT (R248, R69); a run of CAL ends with that state. -/
def interpFaultPort (n : Nat) (s : State) : State :=
  if n < 1024 then
    let p := s.port n
    if p.st.state = .disabled then s
    else s.setPort n { p with
      st := { p.st with state := .fault, calFault := true }
      cal := if p.cal.initial then { p.cal with running := false, meas := [] } else p.cal }
  else s

/-- REFRESH_COMPLETE (R68, R69). A histogram shorter of hits than 2^18 in its 128 codes had a hit that reached 128 cycles. -/
def refreshComplete (n : Nat) (h : List Nat) (s : State) : State :=
  let x := s.interp n
  if !x.running then s
  else if refreshOk x h then
    s.setInterp n { x with
      running := false, hits := 2 ^ 18, accepted := some h, acceptedStart := x.start, rejectRun := 0, calFault := false }
  else
    let fault := decide (x.rejectRun + 1 ≥ 4)
    let s1 := s.setInterp n { x with
      running := false, hits := 2 ^ 18, rejects := satInc sat16 x.rejects, rejectRun := x.rejectRun + 1
      calFault := x.calFault || fault }
    if fault then interpFaultPort n (setSticky (calFaultSource n).1 (calFaultSource n).2 s1) else s1

/-- TABLE_REPLACE (R68). -/
def tableReplace (n : Nat) (s : State) : State :=
  let x := s.interp n
  match x.accepted with
  | none => s
  | some t => s.setInterp n { x with table := some t, tableStart := x.acceptedStart, accepted := none }

/-- A spare takes part in self-checks (R71). -/
def spareOk (s : State) (k : Nat) : Bool := (s.interp k).table.isSome && !(s.interp k).calFault

/-- The spare that checks ETHn: its own, or the next above that is usable (R71). -/
def spareFor (s : State) (p : Nat) : Option Nat :=
  ((List.range 8).map (fun j => 1040 + (p + j) % 8)).find? (spareOk s)

/-- A self-check of ETHp is due (R71). -/
def selfcheckDue (s : State) (p : Nat) : Bool :=
  let x := s.interp (1024 + p)
  x.table.isSome && (match x.selfAt with | none => true | some t => decide (t + 64 * 1000000000 ≤ s.now))

/-- INTERPOLATOR_SELFCHECK (R71): 10 ps is 655.36 LSB. -/
def interpolatorSelfcheck (p : Nat) (diff : Interval) (s : State) : State :=
  if selfcheckDue s p && (spareFor s p).isSome then
    let x := s.interp (1024 + p)
    let fail := decide (diff.natAbs * 1000 > 10 * 65536)
    let s1 := s.setInterp (1024 + p) { x with
      selfAt := some s.now, selfFail := fail, selfPassed := x.selfPassed || !fail }
    if fail then setSticky 1 (16 + p) s1 else s1
  else s

/-- Hits that the refresh in progress has collected (R67, R77): two a microsecond at an Ethernet interpolator, one a bout at
a furrow port's, less the discarded ones; a spare's, which no rule paces, stand at one a microsecond (DESIGN CHOICE, log
entry 19). -/
def hitsNow (s : State) (n : Nat) : Nat :=
  let x := s.interp n
  let us := (s.now - x.start) / 1000
  let taken := if n < 1024 then us / max 1 (s.port n).cfg.period else if n < 1040 then 2 * us else us
  min (2 ^ 18) (taken - x.discards)

/-- An interpolator that starts again at a port's enable or disable (R70): what counts since reset stays (R77). -/
def GenInterp.fresh (x : GenInterp) : GenInterp := { rejects := x.rejects, abandoned := x.abandoned, missed := x.missed }

/-- The calibration record of a general interpolator (R77). HITS with no refresh in progress is that of the last completed
one, and TABLE_AGE and MEAN_STEP read 0 while no table is held (DESIGN CHOICE, log entry 19: the rule gives none a value). -/
def interpRecord (s : State) (n : Nat) : List Byte :=
  let x := s.interp n
  let used := codesUsed (x.table.getD [])
  le 1 (flag 0 x.table.isSome + flag 1 (x.table.isSome && tableStale s x) + flag 2 x.calFault + flag 3 x.running +
    flag 4 x.selfFail) ++
  le 1 used ++ le 2 x.rejects ++
  le 4 (if x.table.isSome then (s.now - x.tableStart) / 1000000000 else 0) ++
  le 4 (if x.running then hitsNow s n else x.hits) ++
  le 2 (if used = 0 then 0 else divNear 262144 (5 * used)) ++ le 2 x.abandoned

/-- APLL_FIRST_LOCK (R52): the tick counter starts at zero. -/
def apllFirstLock (s : State) : State :=
  if s.tim.tb.running || !s.pwr.released then s
  else { s with tim := { s.tim with tick := 0, tb := { s.tim.tb with running := true, aplLock := true, oscPresent := true } } }

/-- The warm-up procedure restarts (R56). -/
def restartWarmup (s : State) (b : TimeBase) : TimeBase :=
  { b with
    run := 0, prevSource := 0, driftMet := false, holdTimer := false, windowStart := s.now
    holdStart := if b.ovenHigh then some s.now else none }

/-- OSC0_LOSS (R53, R54, R63): edges gone, or the lock detector while edges are present. -/
def osc0Loss (lockDetector : Bool) (s : State) : State :=
  if !s.tim.tb.running || s.tim.tb.oscLoss then s
  else
    let b := s.tim.tb
    let s1 := s.setTb { b with
      oscLoss := true, aplLock := false, oscPresent := lockDetector, warmup := true, lossCount := satInc sat32 b.lossCount }
    let s2 := logPut 0x09 0 0 s.tim.tick (setCond 0 1 true s1)
    dropSteps (dropLost ((List.range numChans).foldl (fun s n => unlockChan n s) s2))

/-- The M tile is past WARM-UP (R57). -/
def laterState (m : MState) : Bool :=
  match m with | .cold => false | .mBoot => false | .warmUp => false | _ => true

/-- OSC0_RELOCK (R54, R56, R57): WARM-UP, but for an M tile that has not left M-BOOT. -/
def osc0Relock (s : State) : State :=
  if !s.tim.tb.oscLoss then s
  else
    let b := { s.tim.tb with oscLoss := false, aplLock := true, oscPresent := true, warmup := true }
    let s1 := holdoverExit 3 (setCond 0 1 false (s.setTb (restartWarmup s b)))
    if laterState s.osc.mState then { s1 with osc := { s1.osc with mState := .warmUp } } else s1

/-- OVEN_RDY_HIGH (R55, R56). -/
def ovenRdyHigh (s : State) : State :=
  let b := s.tim.tb
  if b.ovenHigh then s
  else s.setTb { b with ovenHigh := true, ovenPin := true, ovenSince := s.now, holdStart := b.holdStart.or (some s.now)
                        warmup := b.warmup && !b.driftMet }


/-- OVEN_RDY_LOW (R55 to R57, R117, R176): warm-up restarts, the M tile returns to WARM-UP, slots drop from QUALIFYING. -/
def ovenRdyLow (s : State) : State :=
  let b := s.tim.tb
  if !b.ovenHigh then s
  else
    let b1 := { b with ovenHigh := false, ovenPin := false, warmup := true }
    let s1 := holdoverExit 2 (s.setTb (restartWarmup s b1))
    let s2 := if laterState s.osc.mState then { s1 with osc := { s1.osc with mState := .warmUp } } else s1
    dropLost s2

/-- A source has passed its activity monitor with events since before the window began (R56). -/
def wholeWindow (s : State) (good : Option Nat) : Bool := good.any (fun t => decide (t ≤ s.tim.tb.windowStart))

/-- Slot `i` was present for the whole window (R56): enabled, its activity monitor passing. -/
def slotWhole (s : State) (i : Nat) : Bool :=
  (s.slot i).cfg.enable && !(s.slot i).act.failed && wholeWindow s (s.slot i).act.goodFrom

/-- The comparison source of the window that ends (R56, R72): OSC3, OSC2, OSC1, GNSS, then REFIN0 to REFIN7; 0 none. -/
def comparisonSource (s : State) : Nat :=
  let osc := [3, 2, 1].find? (fun i => wholeWindow s (s.tim.tb.oscGood.getD (i - 1) none))
  match osc with
  | some i => i
  | none =>
    if slotWhole s 8 then 0x08
    else match (List.range 8).find? (slotWhole s) with
      | some i => 0x10 + i
      | none => 0

/-- WARMUP_WINDOW_END (R56): the comparison source of the window and OSC0's frequency against it as measured over it. -/
def warmupWindowEnd (source : Nat) (freq : Freq) (s : State) : State :=
  let b := s.tim.tb
  if !b.running || b.oscLoss || decide (s.now < b.windowStart + 10000000000) || decide (source ≠ comparisonSource s) then s
  else
    let b0 := { b with windowStart := s.now, source := source, prevSource := source, prevFreq := freq }
    if source = 0 then
      let met := match b.holdStart with
        | some h => decide (s.now ≥ h + s.tim.judging.holdTime * 1000000000)
        | none => false
      s.setTb { b0 with run := 0, holdTimer := true, driftMet := met, warmup := b.warmup && !(met && b.ovenHigh) }
    else if b.prevSource = source then
      let ch := freq - b.prevFreq
      let run := if ch.natAbs ≤ s.tim.judging.driftLimit.toNat then satInc sat16 b.run else 0
      let met := decide (run ≥ s.tim.judging.windowCount)
      s.setTb { b0 with
        run := run, holdTimer := false, freq := freq, lastChange := ch, driftMet := met
        warmup := b.warmup && !(met && b.ovenHigh) }
    else s.setTb { b0 with run := 0, holdTimer := false, freq := freq, driftMet := false }

/-- TB_STATUS (R72). -/
def execTbStatus (rq : Request) (s : State) : Out := kcpRow 0x0101 (leastPriv s 0x0101 rq.payload) bodyTbStatus rq s
/-- TIM_CONFIG (R73). -/
def execTimConfig (rq : Request) (s : State) : Out := kcpRow 0x0102 (leastPriv s 0x0102 rq.payload) bodyTimConfig rq s
/-- TIM_MEASURE (R74). -/
def execTimMeasure (rq : Request) (s : State) : Out := kcpRow 0x0103 (leastPriv s 0x0103 rq.payload) bodyTimMeasure rq s
/-- TIM_CAL_STATUS (R76). -/
def execTimCalStatus (rq : Request) (s : State) : Out := kcpRow 0x0104 (leastPriv s 0x0104 rq.payload) bodyTimCalStatus rq s
/-- TIM_CAL_RUN (R75). -/
def execTimCalRun (rq : Request) (s : State) : Out := kcpRow 0x0105 (leastPriv s 0x0105 rq.payload) bodyTimCalRun rq s
/-- TIM_MEASURE_RESULT (R74). -/
def execTimMeasureResult (s : State) : Out := done s (timMeasureResult s)
/-- TIM_CAL_VERIFY_END (R75). -/
def execTimCalVerifyEnd (chan : Nat) (hist : List Nat) (s : State) : Out :=
  guardUnit (chan < numChans) s (done s (timCalVerifyEnd chan hist s))
/-- APLL_FIRST_LOCK (R52). -/
def execApllFirstLock (s : State) : Out := done s (apllFirstLock s)
/-- OSC0_LOSS (R54). -/
def execOsc0Loss (lockDetector : Bool) (s : State) : Out := done s (osc0Loss lockDetector s)
/-- OSC0_RELOCK (R54). -/
def execOsc0Relock (s : State) : Out := done s (osc0Relock s)
/-- OVEN_RDY_HIGH (R55). -/
def execOvenRdyHigh (s : State) : Out := done s (ovenRdyHigh s)
/-- OVEN_RDY_LOW (R55). -/
def execOvenRdyLow (s : State) : Out := done s (ovenRdyLow s)
/-- WARMUP_WINDOW_END (R56). -/
def execWarmupWindowEnd (source : Nat) (freq : Freq) (s : State) : Out := done s (warmupWindowEnd source freq s)
/-- MEASURED_EDGE (R59). -/
def execMeasuredEdge (priv : Bool) (index edgePs : Nat) (hit : Option Nat) (s : State) : Out :=
  guardUnit (index < if priv then numChans else numInterps) s (done s (measuredEdge priv index edgePs hit s))
/-- CONVERSION_END (R61). -/
def execConversionEnd (priv : Bool) (index : Nat) (code : Option Nat) (endPs : Nat) (s : State) : Out :=
  guardUnit (index < if priv then numChans else numInterps) s (done s (conversionEnd priv index code endPs s))
/-- CHANNEL_LOCK_WINDOW (R63). -/
def execChannelLockWindow (chan : Nat) (fast slow : Freq) (s : State) : Out :=
  guardUnit (chan < numChans) s (done s (channelLockWindow chan fast slow s))
/-- REFRESH_START (R67). -/
def execRefreshStart (interp : Nat) (s : State) : Out :=
  guardUnit (interp < numInterps) s (done s (refreshStart interp s))
/-- REFRESH_COMPLETE (R68). -/
def execRefreshComplete (interp : Nat) (hist : List Nat) (s : State) : Out :=
  guardUnit (interp < numInterps) s (done s (refreshComplete interp hist s))
/-- TABLE_REPLACE (R68). -/
def execTableReplace (interp : Nat) (s : State) : Out :=
  guardUnit (interp < numInterps) s (done s (tableReplace interp s))
/-- INTERPOLATOR_SELFCHECK (R71). -/
def execInterpolatorSelfcheck (port : Nat) (diff : Interval) (s : State) : Out :=
  guardUnit (port < 16) s (done s (interpolatorSelfcheck port diff s))

end Sys2Proof.Machine
end

