-- ==== Sys2Proof/Machine/Sel.lean ====
section
/-! DEFINITION. Selection, the switch transaction, steps, phase changes, the clean-up DPLL and group 0x04
(spec/06_selection_switching_cleanup.md). -/

namespace Sys2Proof.Machine
open Sys2Proof

/-- The jam limit of 1 ms in interval LSBs (R147). -/
def jam : Nat := 10 ^ 6 * 65536
/-- The clamp of ±7.5 ppm (R153). -/
def rateClamp : Int := 2111062325

/-- The slot treated as forced and its STRICT flag (R140, R431). -/
def forcedSlot (s : State) : Option Nat × Bool :=
  match s.sel.st.forced with
  | some n => (some n, s.sel.st.strict)
  | none => if s.tan.forced19 then (some 19, false) else (none, false)

/-- The slot is QUALIFIED. -/
def qualified (s : State) (i : Nat) : Bool := decide ((s.slot i).st.state = .qualified)

/-- The line through phases, against instants from `o`. -/
def phaseLine (o : FieldTime) (pts : List PhasePt) : Line := lineOf (pts.map (fun p => ((p.at_ : Int) - o, p.phase)))

/-- The line's value at `t`, a fraction of interval LSBs; none without a line. -/
def lineValue (pts : List PhasePt) (t : FieldTime) : Option (Int × Nat) :=
  let l := phaseLine t pts
  if l.n < 2 ∨ l.den = 0 then none else some (l.at_ 0)

/-- 6 s of 16 phases about their line, on 14 degrees of freedom, rounded up to the interval LSB (R136, R188). -/
def spread6 (pts : List PhasePt) : Nat :=
  let l := phaseLine ((pts.head?.map (·.at_)).getD 0) pts
  sqrtUp (36 * l.ss.1) (14 * l.ss.2)

/-- The slot has delivered the phases R135 requires. -/
def enoughPhases (s : State) (i : Nat) : Bool :=
  let x := s.slot i
  if slotKind s i = 1 then
    match x.pts.head? with | some p => decide (x.qualAt + 16 * ms1 ≤ p.at_) && decide (x.sinceQual ≠ 0) | none => false
  else decide (16 ≤ x.sinceQual)

/-- Wait-to-restore has expired (R135). -/
def wtrDone (s : State) (i : Nat) : Bool := !(s.slot i).wtrRun || (s.slot i).wtrEnd.any (fun t => decide (t ≤ s.now))

/-- All of R135 but the step estimate. -/
def ready (s : State) (i : Nat) : Bool := qualified s i && wtrDone s i && enoughPhases s i

/-- The step estimate of a slot that is not selected (R142, R147). -/
def estimate (s : State) (tk : FieldTime) (i : Nat) : Option Interval :=
  if s.sel.st.selected = some i ∨ !qualified s i then none
  else if slotKind s i = 1 then some 0
  else (lineValue ((s.slot i).pts.take 16) tk).map (fun v => satI (divTrunc (-v.1) v.2))

/-- The step estimate is within the jam limit, or the timescale is not set (R135, R148). -/
def jamOk (s : State) (tk : FieldTime) (i : Nat) : Bool :=
  s.sel.st.timeNotSet || match estimate s tk i with | some e => decide (e.natAbs ≤ jam) | none => true

/-- Eligible for automatic selection (R135). -/
def eligible (s : State) (tk : FieldTime) (i : Nat) : Bool := ready s i && jamOk s tk i

/-- The sum of R136's two terms. -/
def rawScore (s : State) (i : Nat) : Bound :=
  let x := s.slot i
  if x.sinceQual < 16 ∨ x.pts.length < 16 then unbounded
  else addB (effUnc s i) (ivToBound (spread6 (x.pts.take 16)))

/-- The score of a slot (R136). -/
def scoreOf (s : State) (tk : FieldTime) (i : Nat) : Bound := if eligible s tk i then rawScore s i else unbounded

/-- Rank of a slot under R137: FREQUENCY group, score, PRIORITY, number. -/
def rankOf (s : State) (score : Bound) (i : Nat) : Nat × Nat × Nat × Nat :=
  (if slotKind s i = 1 then 1 else 0, score, slotPriority s i, i)

/-- One rank before another (R137). -/
def rankLt (a b : Nat × Nat × Nat × Nat) : Bool :=
  decide (a.1 < b.1) || (decide (a.1 = b.1) && (decide (a.2.1 < b.2.1) || (decide (a.2.1 = b.2.1) &&
    (decide (a.2.2.1 < b.2.2.1) || (decide (a.2.2.1 = b.2.2.1) && decide (a.2.2.2 < b.2.2.2))))))

/-- The first-ranked slot of a list under a score. -/
def firstRanked (s : State) (score : Nat → Bound) (l : List Nat) : Option Nat :=
  l.foldl (fun a i => match a with
    | none => some i
    | some j => if rankLt (rankOf s (score i) i) (rankOf s (score j) j) then some i else a) none

/-- The candidate (R137, R140). -/
def candidateOf (s : State) (tk : FieldTime) : Option Nat :=
  let pool := firstRanked s (scoreOf s tk) ((List.range numSlots).filter (eligible s tk))
  match forcedSlot s with
  | (some n, strict) =>
    if qualified s n then (if enoughPhases s n && jamOk s tk n then some n else none)
    else if strict then none else pool
  | (none, _) => pool

/-- CANDIDATE as SEL_STATUS shows it (R140, R157): a forced slot that is QUALIFIED replaces the candidate before it has delivered
the phases that a switch to it needs. -/
def candidateShown (s : State) (tk : FieldTime) : Option Nat :=
  match forcedSlot s with
  | (some n, _) => if qualified s n then some n else candidateOf s tk
  | (none, _) => candidateOf s tk

/-- The slot STEP_WAIT reports (R147): the first-ranked QUALIFIED slot whose estimate exceeds the jam limit. -/
def waitSlotOf (s : State) (tk : FieldTime) : Option Nat :=
  firstRanked s (scoreOf s tk) ((List.range numSlots).filter (fun i => qualified s i && !jamOk s tk i))

/-- Is a step of a switch transaction pending (R146)? -/
def commitPhase (s : State) : Bool := s.sel.steps.any (fun p => p.kind.isSwitch)

/-- The step guard runs (R144). -/
def guardRuns (s : State) : Bool := s.sel.guardRun && decide (s.now < s.sel.guardEnd)

/-- Selection would switch to `c` (R138, R140): wanted, and held by the guard. -/
def wantsSwitch (s : State) (tk : FieldTime) (c : Nat) : Bool × Bool :=
  if s.sel.st.selected = some c then (false, false)
  else if (forcedSlot s).1 = some c then (true, false)
  else match s.sel.st.selected with
    | none => (true, true)
    | some j =>
      let a := rankOf s (scoreOf s tk c) c
      let b := rankOf s (scoreOf s tk j) j
      (s.sel.policy.revertive &&
        (decide (a.1 < b.1) || (decide (a.1 = b.1) && decide (addB a.2.1 s.sel.policy.margin < b.2.1))), true)

/-- Replace the selection state's freeze. -/
def State.setFreeze (s : State) (f : Option Freeze) : State := { s with sel := { s.sel with freeze := f } }

/-- The selected slot is dropped (R138, R151). -/
def dropSelected (s : State) : State :=
  { s with sel := { s.sel with
      st := { s.sel.st with selected := none }, freeze := none, entering := [], fresh := 0, lastUpdate := none } }

/-- The selected slot must be dropped at once (R138, R140). A force accepted after a commit waits for its marker (R158), and
a slot that a marker has selected stays until the first computation after it (R146). -/
def mustDrop (s : State) : Bool :=
  match s.sel.st.selected with
  | none => false
  | some i =>
    !s.sel.justSwitched && (!qualified s i || match forcedSlot s with
      | (some n, true) => decide (n ≠ i) && !qualified s n && !commitPhase s
      | _ => false)

/-- The phase differs from the line through `base` by more than STEP_DETECT; its sign (R150). -/
def jumpSign (s : State) (base : List PhasePt) (p : PhasePt) : Int :=
  match lineValue base p.at_ with
  | none => 0
  | some v =>
    let d := p.phase * v.2 - v.1
    if d.natAbs > s.sel.policy.stepDetect * 1024 * v.2 then d.sign else 0

/-- Three consecutive phases that a phase change shows (R150): the newest of `pts` and the two before it. -/
def phaseChange (s : State) (pts : List PhasePt) : Bool :=
  let base := (pts.drop 3).take 16
  let g := (pts.take 3).map (jumpSign s base)
  decide (base.length = 16) && (decide (g = [1, 1, 1]) || decide (g = [-1, -1, -1]))

/-- A phase of a FREQUENCY slot brought back within half a period after a step or against its origin (R108). -/
def wrapPhase (s : State) (i : Nat) (v : Interval) : Interval :=
  if slotKind s i = 1 then
    let p := slotPeriod s i
    let k := (2 * v * 2 ^ 16 * p.2 + p.1) / (2 * p.1)
    v - divTrunc (k * p.1) (p.2 * 2 ^ 16)
  else v

/-- Phases as R150 compares them: those of a FREQUENCY slot against its phase origin. -/
def relPhases (s : State) (i : Nat) (pts : List PhasePt) : List PhasePt :=
  if slotKind s i = 1 then
    pts.map (fun p => { p with phase := wrapPhase s i (p.phase - (s.slot i).originPhase.getD 0) })
  else pts

/-- One new phase of the selected slot (R150, R151): `j` newer phases of it follow at this computation. -/
def trackPhase (i : Nat) (s : State) (j : Nat) : State :=
  let x := s.slot i
  let pts := relPhases s i (x.pts.drop j)
  match s.sel.freeze with
  | some f =>
    let good := match pts.head? with
      | some p => decide (jumpSign s f.linePts p = 0)
      | none => false
    let f1 := { f with
      phases := f.phases + 1, good := if good then f.good + 1 else 0
      pts := if f.phases < 16 then pts.take 1 ++ f.pts else f.pts }
    if f1.good ≥ 3 ∧ f1.phases < 16 then
      (s.setFreeze none).setSlot i { x with st := { x.st with transients := satInc sat16 x.st.transients } }
    else s.setFreeze (some f1)
  | none =>
    if s.sel.sinceStep < j + 19 ∨ !phaseChange s pts then s
    else if slotKind s i = 1 then
      let s1 := s.setSlot i { x with
        originPhase := (x.pts.drop j).head?.map (·.phase), st := { x.st with phaseHits := satInc sat16 x.st.phaseHits } }
      { s1 with sel := { s1.sel with sinceStep := j } }
    else
      s.setFreeze (some { first := ((pts.drop 2).head?.map (·.at_)).getD 0, linePts := (pts.drop 3).take 16, phases := 3
                          pts := pts.take 3 })

/-- The event rate of a slot in Hz, as a fraction (R152). -/
def eventRate (s : State) (i : Nat) : Nat × Nat := (s1 * (slotPeriod s i).2, (slotPeriod s i).1)

/-- The configured bandwidth, or SLAVE_BW on slot 19, in Hz (R152, R431). -/
def bwConfigured (s : State) (i : Nat) : Nat × Nat := (if i = 19 then s.tan.cfg.slaveBw else s.sel.dpll.bandwidth, 10000)

/-- The lesser of two fractions. -/
def minFrac (a b : Nat × Nat) : Nat × Nat := if a.1 * b.2 ≤ b.1 * a.2 then a else b

/-- One twentieth of the event rate (R152). -/
def bwCap (s : State) (i : Nat) : Nat × Nat := ((eventRate s i).1, 20 * (eventRate s i).2)

/-- The bandwidth in use (R152). -/
def bwInUse (s : State) (i : Nat) : Nat × Nat := minFrac (bwConfigured s i) (bwCap s i)

/-- The event rate limits the bandwidth (R152). -/
def bwLimited (s : State) (i : Nat) : Bool :=
  decide ((bwCap s i).1 * (bwConfigured s i).2 < (bwConfigured s i).1 * (bwCap s i).2)

/-- The loop's bandwidth now: four times during settle, capped again (R152). -/
def bwLoop (s : State) (i : Nat) : Nat × Nat :=
  if s.sel.settling then minFrac (4 * (bwInUse s i).1, (bwInUse s i).2) (bwCap s i) else bwInUse s i

/-- Length of settle, 32 time constants, in ns rounded up (R152). -/
def settleNs (s : State) (i : Nat) : Nat :=
  divUp (32 * 10 ^ 9 * 10 ^ 24 * (bwInUse s i).2) (twoPi * (bwInUse s i).1)

/-- Settle starts (R141). LOCKED waits for the settle of the latest switch; in an ACQUIRING entered from WARM-UP, for every
settle since (R139). -/
def startSettle (i : Nat) (s : State) : State :=
  let e := s.now + settleNs s i
  let all := decide (s.osc.mState = .acquiring) && decide (s.osc.acqFrom = .warmUp)
  { s with sel := { s.sel with settling := true, settleEnd := e, lockEnd := if all then max s.sel.lockEnd e else e } }

/-- The settle of a step starts (R149, R189): TIME_UNCERTAIN and the step's B_step last until it ends. -/
def settleStep (i : Nat) (size : Interval) (bStep : Nat) (s : State) : State :=
  let t := startSettle i s
  if size = 0 then t
  else { t with
    sel := { t.sel with uncertainEnd := some t.sel.settleEnd }
    bnd := { t.bnd with stepTerms := t.bnd.stepTerms ++ [(bStep, t.sel.settleEnd)] } }

/-- Settle restarts with new time constants (R154): what waits for the present settle, LOCKED too, waits for the new one. -/
def restartSettle (i : Nat) (s : State) : State :=
  let e := s.sel.settleEnd
  let t := startSettle i s
  { t with
    sel := { t.sel with
      lockEnd := if s.sel.lockEnd = e then t.sel.settleEnd else t.sel.lockEnd
      uncertainEnd := s.sel.uncertainEnd.map (fun u => if u = e then t.sel.settleEnd else u) }
    bnd := { t.bnd with stepTerms := t.bnd.stepTerms.map (fun x => if x.2 = e then (x.1, t.sel.settleEnd) else x) } }

/-- The integrator's step and the proportional part for a mean phase `sum / n` after `dt` (R152), 2^-48. -/
def loopParts (s : State) (i : Nat) (sum : Int) (n dt : Nat) : Freq × Freq :=
  let b := bwLoop s i
  (divNearI (-(twoPi * twoPi * b.1 * b.1 * dt : Nat) * sum) (10 ^ 66 * b.2 * b.2 * n),
   divNearI ((2 * s.sel.dpll.damping * twoPi * b.1 * 2 ^ 32 : Nat) * sum) (10 * 10 ^ 24 * b.2 * 10 ^ 9 * n))

/-- The phases that enter the loop (R142, R150): those of a FREQUENCY slot against its phase origin. -/
def enteringPhases (s : State) (i : Nat) : List Interval :=
  if slotKind s i = 1 then s.sel.entering.map (fun v => wrapPhase s i (v - (s.slot i).originPhase.getD 0)) else s.sel.entering

/-- The clean-up DPLL at a computation (R152, R153). -/
def dpllUpdate (i : Nat) (tk : FieldTime) (s : State) : State :=
  let l := enteringPhases s i
  let lim := { s.sel.st with bwLimited := bwLimited s i }
  if l = [] then { s with sel := { s.sel with st := lim } }
  else if s.sel.freeze.isSome then { s with sel := { s.sel with st := lim, entering := [], lastUpdate := some tk } }
  else
    let dt := match s.sel.lastUpdate with | some t => tk - t | none => ms1
    let v := loopParts s i l.sum l.length dt
    let req := s.osc.rEns + s.osc.rBias + (s.sel.integ + v.1 - v.2)
    let hold := (decide (rateClamp ≤ req) && decide (0 < v.1)) || (decide (req ≤ -rateClamp) && decide (v.1 < 0))
    let integ := if hold then s.sel.integ else s.sel.integ + v.1
    { s with sel := { s.sel with
        st := lim, entering := [], lastUpdate := some tk, integ := integ, rSteer := integ - v.2 } }

/-- The phases of a freeze that its step uses (R151): the 16 from the first detecting phase on, or the latest 16 once it has
waited for the guard. -/
def freezePts (s : State) (i : Nat) (f : Freeze) : List PhasePt := if f.waited then (s.slot i).pts.take 16 else f.pts

/-- The step estimate of a freeze with 16 phases exceeds the jam limit (R151). -/
def frozenFar (s : State) (i : Nat) (tk : FieldTime) : Bool :=
  match s.sel.freeze with
  | some f =>
    decide (16 ≤ f.phases) && (lineValue (freezePts s i f) tk).any (fun v => decide (v.1.natAbs > jam * v.2))
  | none => false

/-- The selected slot at a computation: its new phases, a freeze that its estimate ends, the DPLL (R150 to R152). -/
def trackSelected (tk : FieldTime) (s : State) : State :=
  match s.sel.st.selected with
  | none => s
  | some i =>
    let s0 := ((List.range s.sel.fresh).reverse).foldl (trackPhase i) s
    let s1 := { s0 with sel := { s0.sel with fresh := 0 } }
    let s2 := s1.setFreeze (s1.sel.freeze.map (fun f => { f with waited := f.waited || (decide (16 ≤ f.phases) && guardRuns s1) }))
    if frozenFar s2 i tk then dropSelected s2 else dpllUpdate i tk s2

/-- A whole millisecond of field time that R143 allows for a marker. -/
def markerAllowed (k : Nat) : Bool := decide (2 ≤ k % 1000) && decide (k % 1000 ≤ 998)

/-- The first allowed boundary at or after `t` (R143). -/
def allowedFrom (t : FieldTime) : FieldTime :=
  let k := divUp t ms1
  ((([k, k + 1, k + 2, k + 3].find? markerAllowed)).getD k) * ms1

/-- The effective marker of a step whose own earliest instant is `t` (R143): after every pending step, counted in the
field time that follows them. -/
def markerFor (s : State) (t : FieldTime) : FieldTime :=
  match s.sel.steps.getLast? with
  | none => allowedFrom t
  | some p =>
    let own := ((t : Int) + (s.sel.steps.map (fun (q : PendingStep) => q.size)).sum * 2 ^ 16).toNat
    let after := (ftAdd p.effective p.size + (ms1 / 2 : Nat)).toNat
    allowedFrom (max own after)


/-- The slots eligible now, one bit each. -/
def eligSet (s : State) (tk : FieldTime) : Nat := (List.range numSlots).foldl (fun a i => a + flag i (eligible s tk i)) 0

/-- Decide a switch (R141). -/
def decideSwitch (tk : FieldTime) (slot : Nat) (exempt freeze : Bool) (cmd : Option Nat) (s : State) : State :=
  { s with sel := { s.sel with
      switching := some
        { slot := slot, decidedAt := tk, exempt := exempt, fromFreeze := freeze, cmd := cmd
          snap := match s.sel.freeze with
            | some f => if freeze then freezePts s slot f else (s.slot slot).pts.take 16
            | none => (s.slot slot).pts.take 16
          elig := eligSet s tk }
      deferring := false } }

/-- Abort a switch before its commit (R145). -/
def abortSwitch (s : State) : State :=
  match s.sel.switching with
  | none => s
  | some w =>
    { s with sel := { s.sel with
        switching := none
        timeDone := match w.cmd with | some id => some (id, none) | none => s.sel.timeDone
        st := { s.sel.st with abortCount := satInc sat32 s.sel.st.abortCount } } }

/-- A reason of R145 to abort the switch being measured. -/
def abortReason (s : State) (tk : FieldTime) (w : Switching) : Bool :=
  !qualified s w.slot ||
    (List.range numSlots).any (fun i => eligible s tk i && !bit w.elig i &&
      rankLt (rankOf s (scoreOf s tk i) i) (rankOf s (scoreOf s tk w.slot) w.slot))

/-- B_step of a step measured by `pts` with its marker at `m` (R189), interval LSBs: x in nominal event periods. -/
def residue (s : State) (i : Nat) (pts : List PhasePt) (m : FieldTime) : Nat :=
  let l := phaseLine m pts
  let p := slotPeriod s i
  -- 36 s² (1/n + (n·0 − Σx)² / (n (n Σxx − (Σx)²))): the period cancels
  if l.den = 0 ∨ l.n < 3 ∨ p.1 = 0 then 0
  else sqrtUp (36 * l.ss.1 * ((l.den + l.sx * l.sx).toNat)) ((l.n - 2) * l.ss.2 * (l.n * l.den).toNat)

/-- Enter a committed step as pending, logged with the field time of its marker (R141, R149, R204). -/
def commitStep (p : PendingStep) (detail id : Nat) (s : State) : State :=
  let s1 := logAt (p.effective / us1) 0x04 detail id (word64 (satI p.size)) s
  { s1 with sel := { s1.sel with steps := s1.sel.steps ++ [p] } }

/-- A step judged against STEP_ALARM (R147). -/
def judgeAlarm (size : Interval) (s : State) : State :=
  if size.natAbs > s.sel.policy.stepAlarm * 1024 then
    setSticky 0 3 { s with sel := { s.sel with st := { s.sel.st with stepAlarms := satInc sat32 s.sel.st.stepAlarms } } }
  else s

/-- A stored phase after a step: taken before it, it moves with the timescale (R112, R189). -/
def shiftPt (s : State) (i : Nat) (d : Interval) (phase : Bool) (p : PhasePt) : PhasePt :=
  { p with at_ := (ftAdd p.at_ d).toNat, phase := if phase then wrapPhase s i (p.phase + d) else p.phase }

/-- The step and phase origin of a switch at its commit, with B_step (R142, R189). Phases and marker are counted in the field
time that follows the steps still pending (R143). -/
def measureSwitch (eff : FieldTime) (w : Switching) (s : State) : Interval × Option Interval × Nat :=
  let x := s.slot w.slot
  let d := (s.sel.steps.map (fun (q : PendingStep) => q.size)).sum
  if slotKind s w.slot = 1 then
    let l := x.pts.filter (fun p => decide (w.decidedAt ≤ p.at_) && decide (p.at_ ≤ w.decidedAt + 16 * ms1))
    let o := if l = [] then x.phase.getD 0 else divNearI (l.map (·.phase)).sum l.length
    (0, some (wrapPhase s w.slot (o + d)), 0)
  else
    let pts := (if w.exempt then x.pts.take 16 else w.snap).map (shiftPt s w.slot d true)
    let d := match lineValue pts eff with
      | some v => satI (divTrunc (-v.1) v.2)
      | none => -((pts.head?.map (·.phase)).getD 0)
    (d, none, if d = 0 then 0 else residue s w.slot pts eff)

/-- t_e of the holdover or freeze that a switch ends (R190, R365). -/
def entryOf (s : State) (freeze : Bool) : FieldTime :=
  ((if freeze then s.bnd.freezeG else s.bnd.hold).map (·.te)).getD 0

/-- Commit a switch (R141, R145 to R149, R206). -/
def commitSwitch (tk : FieldTime) (w : Switching) (s : State) : State :=
  let eff := markerFor s (tk + ms1)
  let m := measureSwitch eff w s
  let initial := s.sel.st.timeNotSet && decide (slotKind s w.slot ≠ 1) && !w.exempt
  if decide (m.1.natAbs > jam) && !(w.exempt || s.sel.st.timeNotSet) then abortSwitch s
  else
    let detail := if initial then 1 else if w.exempt then 2 else if w.fromFreeze then 5 else 0
    let frozen := s.sel.freeze.isSome
    let judged := decide (s.osc.mState = .holdover) || (decide (s.osc.mState = .acquiring) && decide (s.osc.acqFrom = .holdover)) ||
      frozen
    let p : PendingStep := { size := m.1, effective := eff, kind := .switch w.slot, initial := initial, bStep := m.2.2
                             setsTime := decide (slotKind s w.slot ≠ 1)
                             setsSeconds := w.exempt || decide (slotKind s w.slot = 2), origin := m.2.1, frozen := frozen
                             cleared := s.sel.operatorUnbounded }
    let s1 := commitStep p detail w.slot s
    let s2 := if initial then s1 else judgeAlarm m.1 s1
    { s2 with
      sel := { s2.sel with
        switching := none, operatorUnbounded := false
        timeDone := match w.cmd with | some id => some (id, some (m.1, eff)) | none => s2.sel.timeDone
        st := { s2.sel.st with switchCount := satInc sat32 s2.sel.st.switchCount } }
      bnd := { s2.bnd with judged := if judged then s2.bnd.judged ++ [⟨w.slot, m.1, eff, entryOf s frozen⟩] else s2.bnd.judged } }

/-- Measure has ended at this computation (R141). -/
def measured (s : State) (tk : FieldTime) (w : Switching) : Bool :=
  decide (w.decidedAt + (if slotKind s w.slot = 1 then 16 * ms1 else 0) < tk)

/-- An automatic switch, or the transaction that ends a freeze, starts when the guard allows (R138, R144, R151). A freeze's own
transaction held by the guard is no deferral and is not counted (DESIGN CHOICE, log entry 22). -/
def startSwitch (tk : FieldTime) (cand : Option Nat) (s : State) : State :=
  let want := match cand with | some c => wantsSwitch s tk c | none => (false, false)
  if want.1 && !(want.2 && guardRuns s) then decideSwitch tk (cand.getD 0) false false none s
  else if want.1 then
    if s.sel.deferring then s
    else { s with sel := { s.sel with
      deferring := true, st := { s.sel.st with deferred := satInc sat32 s.sel.st.deferred } } }
  else
    let s1 := { s with sel := { s.sel with deferring := false } }
    match s1.sel.freeze, s1.sel.st.selected with
    | some f, some i => if f.phases ≥ 16 && !guardRuns s1 then decideSwitch tk i false true none s1 else s1
    | _, _ => s1

/-- The switch transaction at a computation (R141, R145, R146, R160). -/
def transaction (tk : FieldTime) (s : State) : State :=
  if commitPhase s then s
  else match s.sel.switching with
    | some w =>
      if abortReason s tk w then abortSwitch s
      else if measured s tk w then commitSwitch tk w s
      else s
    | none =>
      match s.sel.timeSet with
      | some (id, slot) =>
        let s1 := { s with sel := { s.sel with timeSet := none } }
        if qualified s slot then decideSwitch tk slot true false (some id) s1
        else { s1 with sel := { s1.sel with timeDone := some (id, none) } }
      | none => startSwitch tk (candidateOf s tk) s

/-- What SEL_STATUS reports of a computation (R157). -/
def selReport (tk : FieldTime) (s : State) : State :=
  let w := waitSlotOf s tk
  { s with sel := { s.sel with
      scores := (List.range numSlots).foldl (fun t i => tset unbounded t i (scoreOf s tk i)) s.sel.scores
      st := { s.sel.st with
        candidate := candidateShown s tk, waitSlot := w
        waitStep := match w with | some i => (estimate s tk i).getD 0 | none => 0 } } }

/-- DPLL_CONFIG's write takes effect: during settle it restarts settle (R154). -/
def dpllApply (s : State) : State :=
  let s1 := { s with sel := { s.sel with dpllWritten := false } }
  match s.sel.dpllWritten, s.sel.settling, s.sel.st.selected with
  | true, true, some i => restartSettle i s1
  | _, _, _ => s1

/-- Selection, switching and the DPLL at a computation. -/
def selCompute (tk : FieldTime) (s : State) : State :=
  let s0 := dpllApply s
  let s1 := if mustDrop s0 then dropSelected s0 else s0
  let s2 := trackSelected tk s1
  transaction tk (selReport tk { s2 with sel := { s2.sel with justSwitched := false } })

/-- A slot's stored instants and phases after a step of `d`; `phase` clear leaves its phases as they stand (R433). -/
def shiftSlot (s : State) (i : Nat) (d : Interval) (phase : Bool) : Slot :=
  let x := s.slot i
  let mv := fun (t : FieldTime) => (ftAdd t d).toNat
  { x with
    pts := x.pts.map (shiftPt s i d phase), undelivered := x.undelivered.map (shiftPt s i d phase)
    edges := x.edges.map mv, nextLabel := x.nextLabel.map (fun l => (l.1, mv l.2)), qualAt := mv x.qualAt
    act := { x.act with predict := x.act.predict.map mv, base := x.act.base.map mv } }

/-- What selection holds of phases after a step: the switch being measured, and a freeze of the selected slot. -/
def shiftSel (s : State) (d : Interval) (mirrored : Bool) : Sel :=
  let i := s.sel.st.selected.getD 0
  let mv := fun (l : List PhasePt) => l.map (shiftPt s i d (!mirrored))
  { s.sel with
    switching := s.sel.switching.map (fun w =>
      { w with decidedAt := (ftAdd w.decidedAt d).toNat, snap := w.snap.map (shiftPt s w.slot d true) })
    freeze := s.sel.freeze.map (fun f =>
      { f with first := (ftAdd f.first d).toNat, linePts := mv f.linePts, pts := mv f.pts }) }

/-- The UARTs' waiting messages after a step (R124). -/
def shiftUarts (d : Interval) (s : State) : State :=
  [0, 1].foldl (fun t u => t.setUart u { t.uart u with
    waiting := (t.uart u).waiting.map (fun w => { w with stop := (ftAdd w.stop d).toNat }) }) s

/-- A reported phase after a step, as Nuheif reads it: taken before the marker, it moves with the timescale (R20, R152). -/
def shiftSlotPhase (d : Interval) (mirrored : Bool) (i : Nat) (q : SlotPhase) : SlotPhase :=
  { q with at_ := (ftAdd q.at_ d).toNat, phase := if mirrored && decide (i = 19) then q.phase else q.phase + d }

/-- The events gathered and reported before a step. -/
def shiftReports (d : Interval) (mirrored : Bool) (s : State) : State :=
  { s with bus := { s.bus with
      gathered := s.bus.gathered.map (fun g => (g.1, shiftSlotPhase d mirrored g.1 g.2))
      reports := s.bus.reports.map (fun r => { r with
        mean := if mirrored && decide (r.slot = 19) then r.mean else r.mean + d
        latest := r.latest.map (shiftSlotPhase d mirrored r.slot) }) } }

/-- Every slot and pair after a step, the UARTs and the reports. -/
def shiftAll (d : Interval) (mirrored : Bool) (s : State) : State :=
  let s1 := (List.range numSlots).foldl (fun t i => t.setSlot i (shiftSlot s i d (!(mirrored && decide (i = 19))))) s
  let s2 := { s1 with sel := shiftSel s d mirrored }
  (List.range 4).foldl (fun t i => t.setDup i { t.dup i with
    waiting := (t.dup i).waiting.map (fun w => (w.1, (ftAdd w.2.1 d).toNat, w.2.2 + d)) })
    (shiftReports d mirrored (shiftUarts d s2))

/-- The first whole multiple of `g` at or after `t`. -/
def gridFrom (g t : Nat) : Nat := divUp t g * g

/-- The accumulator takes a step at its marker and every grid follows the new field time (R20, R33, R593). -/
def applyStep (p : PendingStep) (s : State) : State :=
  let m := ftAdd p.effective p.size
  if !ftOk (ftAdd s.acc p.size) || !ftOk m then { s with bnd := { s.bnd with fieldRange := true } }
  else
    let s1 := shiftAll p.size (decide (p.kind = .mirrored)) s
    let acc := (ftAdd s.acc p.size).toNat
    outputStep p.size p.effective m.toNat { s1 with
      acc := acc
      bnd := { s1.bnd with
        fieldRange := false
        stepSince := s1.bnd.stepSince + (if p.kind = .mirrored then 0 else p.size)
        nextComp := if s.bnd.nextComp ≤ p.effective then m.toNat else gridFrom ms1 (m.toNat + ms1 / 2) }
      kcp := { s1.kcp with
        mbInterval := if s.kcp.mbInterval = s.bnd.nextComp ∧ p.effective < s.bnd.nextComp then gridFrom ms1 (m.toNat + ms1 / 2)
          else s.kcp.mbInterval }
      ref := { s1.ref with nextEval := (acc + 500 * ms1) / Machine.s1 * Machine.s1 + 500 * ms1 }
      bus := { s1.bus with nextMarker := gridFrom us1 (m.toNat + us1) } }

/-- Selection after a switch's marker (R139, R144, R148, R176, R186). R152 gives Δt from the last update, which a step of the same
slot or a mirrored step leaves where it was (DESIGN CHOICE, log entry 23). -/
def selectAt (i : Nat) (p : PendingStep) (s : State) : State :=
  let same := decide (s.sel.st.selected = some i)
  let integ := if s.sel.st.selected.isNone then s.sel.rSteer else s.sel.integ
  let x := s.slot i
  let s1 := s.setSlot i { x with originPhase := if p.origin.isSome then p.origin else x.originPhase }
  let s2 := { s1 with
    sel := { s1.sel with
      st := { s1.sel.st with selected := some i, timeNotSet := s1.sel.st.timeNotSet && !p.setsTime }
      secondsSet := s1.sel.secondsSet || p.setsSeconds
      freeze := none, integ := integ, lastUpdate := if same then s1.sel.lastUpdate else none }
    bnd := { s1.bnd with carry := if slotKind s i = 1 then s.bnd.bound else s1.bnd.carry } }
  match s.osc.mState with
  | .freeRun => { s2 with osc := { s2.osc with mState := .acquiring, acqFrom := .freeRun } }
  | .holdover =>
    let s3 := holdoverExit 0 s2
    { s3 with osc := { s3.osc with mState := .acquiring, acqFrom := .holdover } }
  | _ => s2

/-- A marker: phases before it enter nothing any more (DEDUCED, log entry 23), and the bound's conditions change (R152, R185). -/
def atMarker (s : State) : State :=
  { s with
    sel := { s.sel with sinceStep := 0, entering := [], fresh := 0 }
    bnd := { s.bnd with marked := true }
    bus := { s.bus with
      gathered := s.bus.gathered.map (fun g => (g.1, { g.2 with past := true }))
      reports := s.bus.reports.map (fun r => { r with latest := r.latest.map (fun q => { q with past := true }) }) } }

/-- The step guard starts (R144). -/
def startGuard (s : State) : State :=
  { s with sel := { s.sel with guardRun := true, guardEnd := s.now + s.sel.policy.wtr * 1000000000 } }

/-- A switch's marker has fallen since the last computation (R146). -/
def noteSwitched (s : State) : State := { s with sel := { s.sel with justSwitched := true } }

/-- An operator's step leaves the bound unbounded, and TIME_SET sets the time (R148, R193). -/
def operatorMarked (setsTime : Bool) (s : State) : State :=
  { s with sel := { s.sel with
      operatorUnbounded := true, secondsSet := s.sel.secondsSet || setsTime, st := { s.sel.st with timeNotSet := s.sel.st.timeNotSet && !setsTime } } }

/-- What a marker does beside the step itself (R139, R144, R149, R152, R189, R433). -/
def markerEffects (p : PendingStep) (s : State) : State :=
  match p.kind with
  | .switch i => noteSwitched (settleStep i p.size p.bStep (selectAt i p (startGuard (atMarker s))))
  | .operator => operatorMarked p.setsTime (startGuard (atMarker s))
  | .mirrored => settleStep 19 p.size p.bStep (atMarker s)

/-- STEP_EFFECTIVE (R20, R593): the first pending step at its marker. -/
def stepEffective (s : State) : State :=
  match s.sel.steps with
  | [] => s
  | p :: rest =>
    if s.acc < p.effective then s
    else
      let s1 := { s with sel := { s.sel with steps := rest } }
      markerEffects p (if p.size = 0 then s1 else applyStep p s1)

/-- A committed step of non-zero size waits for its marker: its settle is still to come (R149). -/
def stepAhead (s : State) : Bool := s.sel.steps.any (fun p => p.kind != .operator && decide (p.size ≠ 0))

/-- SETTLE_END (R139, R149, R152, R189): the loop's settle ends; TIME_UNCERTAIN and each B_step end with the settle of their
step; LOCKED follows the last settle it waits for. -/
def settleEnd (s : State) : State :=
  let s1 := { s with
    sel := { s.sel with
      settling := s.sel.settling && decide (s.now < s.sel.settleEnd)
      uncertainEnd := if stepAhead s then s.sel.uncertainEnd else s.sel.uncertainEnd.filter (fun t => decide (s.now < t)) }
    bnd := { s.bnd with stepTerms := s.bnd.stepTerms.filter (fun x => decide (s.now < x.2)) } }
  if decide (s.sel.lockEnd ≤ s.now) && !s1.sel.settling && !commitPhase s && decide (s.osc.mState = .acquiring) &&
      s.sel.st.selected.isSome then
    { s1 with osc := { s1.osc with mState := .locked, entryAt := none }, bnd := { s1.bnd with hold := none } }
  else s1

/-- GUARD_EXPIRY (R144). -/
def guardExpiry (s : State) : State :=
  if s.sel.guardRun && decide (s.sel.guardEnd ≤ s.now) then { s with sel := { s.sel with guardRun := false } } else s

/-- WTR_EXPIRY (R135). -/
def wtrExpiry (i : Nat) (s : State) : State :=
  if (s.slot i).wtrRun && wtrDone s i then s.setSlot i { s.slot i with wtrRun := false } else s

/-- SEL_POLICY's record (R156). -/
def policyRecord (p : SelPolicy) : List Byte :=
  le 4 p.wtr ++ le 4 p.wtrHoldover ++ le 4 p.margin ++ le 4 p.stepAlarm ++ le 1 (flag 0 p.revertive) ++ zeros 3 ++
  le 4 p.stepDetect

/-- SEL_POLICY (R156). -/
def bodySelPolicy : Body := fun c s =>
  let p := c.req.payload
  if p = [] then ok s (policyRecord s.sel.policy)
  else if p.length ≠ 24 then badLen s
  else
    let new : SelPolicy := ⟨rd p 0 4, rd p 4 4, rd p 8 4, rd p 12 4, bit (rd p 16 1) 0, rd p 20 4⟩
    checked s
      [(0, new.wtr ≤ 3600), (4, new.wtrHoldover ≤ 3600), (8, new.margin ≤ 0xFA00),
       (12, 0x40 ≤ new.stepAlarm ∧ new.stepAlarm ≤ 0x3D09000), (16, rd p 16 1 ≤ 1), zeroAt p 17 3,
       (20, 0x40 ≤ new.stepDetect ∧ new.stepDetect ≤ 0x3D09000)]
      (ok { s with sel := { s.sel with policy := new } } (policyRecord new))

/-- PHASE of SEL_STATUS (R157); a decision ends in the computation that makes it. -/
def selPhase (s : State) : Nat :=
  if s.sel.switching.isSome then 2
  else if commitPhase s then 3
  else if s.sel.freeze.isSome then 5
  else if s.sel.settling then 4 else 0

/-- Milliseconds left until an instant of `now`, rounded up. -/
def msLeft (s : State) (t : Nat) : Nat := min sat32 (divUp (t - s.now) 1000000)

/-- SEL_STATUS's reply (R157). -/
def selStatus (s : State) : List Byte :=
  let t := s.sel.st
  let p := s.sel.steps.head?
  le 1 (t.selected.getD 0xFF) ++ le 1 (selPhase s) ++ le 1 ((forcedSlot s).1.getD 0xFF) ++
  le 1 (flag 0 t.strict + flag 1 t.waitSlot.isSome + flag 2 (guardRuns s) + flag 3 s.uncertain + flag 4 t.rateClamp +
    flag 5 t.bwLimited + flag 6 t.timeNotSet + flag 7 s.sel.policy.revertive) ++
  le 1 (t.candidate.getD 0xFF) ++ le 1 (mStateCode s.osc.mState) ++ le 1 (t.waitSlot.getD 0xFF) ++ zeros 1 ++
  leOptIv (p.map (·.size)) ++ (match p with | some q => leTime q.effective | none => zeros 16) ++
  leOptIv (if t.waitSlot.isSome then some t.waitStep else none) ++
  le 4 (if guardRuns s then msLeft s s.sel.guardEnd else 0) ++ le 4 (if s.sel.settling then msLeft s s.sel.settleEnd else 0) ++
  le 4 t.switchCount ++ le 4 t.abortCount ++ le 4 t.stepAlarms ++ le 4 t.deferred ++
  (List.range numSlots).flatMap (fun i => le 4 (tget unbounded s.sel.scores i)) ++
  (List.range numSlots).flatMap (fun i =>
    le 2 (if qualified s i && !wtrDone s i then divUp (((s.slot i).wtrEnd.getD 0) - s.now) 1000000000 else 0))

/-- SEL_STATUS (R157). -/
def bodySelStatus : Body := fun c s => if c.req.payload = [] then ok s (selStatus s) else badLen s

/-- A force accepted during measure aborts the switch (R145, R158). -/
def abortByForce (s : State) : State := if s.sel.switching.isSome then abortSwitch s else s

/-- SEL_FORCE (R158). -/
def bodySelForce : Body := fun c s =>
  let p := c.req.payload
  let i := rd p 0 1
  if p.length ≠ 4 then badLen s
  else checked s [(0, i < 20), (1, rd p 1 1 ≤ 1), zeroAt p 2 2]
    (if !(refCfgEnabled s i) || slotLooped s i then err s stSTATE
     else
       let s1 := abortByForce s
       ok { s1 with sel := { s1.sel with st := { s1.sel.st with forced := some i, strict := bit (rd p 1 1) 0 } } } [])
where
  /-- ENABLE of a slot (R129). -/
  refCfgEnabled (s : State) (i : Nat) : Bool := (s.slot i).cfg.enable
  /-- A loop-back or generator is held on a slot (R560). -/
  slotLooped (s : State) (i : Nat) : Bool :=
    (decide (i = 8) && decide ((tget {} s.tst.loops (4096 * 5)).depth ≠ 0)) || decide ((tget {} s.tst.loops (4096 * 6 + i)).depth ≠ 0)

/-- SEL_CLEAR_FORCE (R158). -/
def bodySelClearForce : Body := fun c s =>
  if c.req.payload ≠ [] then badLen s
  else
    let s1 := abortByForce s
    ok { s1 with sel := { s1.sel with st := { s1.sel.st with forced := none, strict := false } } } []

/-- DPLL_CONFIG's record (R159). -/
def dpllRecord (d : DpllCfg) : List Byte := le 4 d.bandwidth ++ le 2 d.damping ++ zeros 2

/-- DPLL_CONFIG (R159). -/
def bodyDpllConfig : Body := fun c s =>
  let p := c.req.payload
  if p = [] then ok s (dpllRecord s.sel.dpll)
  else if p.length ≠ 8 then badLen s
  else
    let new : DpllCfg := ⟨rd p 0 4, rd p 4 2⟩
    checked s [(0, 1 ≤ new.bandwidth ∧ new.bandwidth ≤ 100000), (4, 5 ≤ new.damping ∧ new.damping ≤ 50), zeroAt p 6 2]
      (ok { s with sel := { s.sel with dpll := new, dpllWritten := true } } (dpllRecord new))

/-- The reply of a committed step (R162). -/
def stepReply (size : Interval) (eff : FieldTime) : List Byte := leIv size ++ leTime eff

/-- Field time at a command's acceptance (R160). -/
def acceptedAt (c : Cmd) (s : State) : FieldTime := s.acc - (s.now - c.accAt) * ns1

/-- Commit an operator step (R149, R160 to R162). One executed more than 1 ms after its acceptance takes a boundary at least 1 ms
after its execution (DESIGN CHOICE, log entry 23: the rules name only 2 ms after acceptance). -/
def operatorStep (off detail : Nat) (size : Interval) (setsTime : Bool) (c : Cmd) (s : State) : Res :=
  let eff := markerFor s (max (acceptedAt c s + 2 * ms1) (s.acc + ms1))
  if !ftOk (ftAdd eff size) then bad s off
  else
    ok (commitStep { size := size, effective := eff, kind := .operator, setsTime := setsTime } detail 0xFF s)
      (stepReply size eff)

/-- TIME_SET (R160). -/
def bodyTimeSet : Body := fun c s =>
  let p := c.req.payload
  if p.length ≠ 16 then badLen s
  else checked s [(0, rd p 0 1 ≤ 1), zeroAt p 1 7]
    (if rd p 0 1 = 0 then
       match s.sel.st.waitSlot with
       | none => err s stSTATE
       | some i =>
         if s.sel.timeSet.isSome || (s.sel.switching.bind (·.cmd)).isSome then busy s
         else waits { s with sel := { s.sel with timeSet := some (c.id, i) } }
     else if s.sel.st.selected.isSome then err s stSTATE
     else operatorStep 8 3 (((rd p 8 8 : Int) - ftSec (acceptedAt c s)) * 1000000000 * 65536) true c s)

/-- TIME_ADJUST (R161). -/
def bodyTimeAdjust : Body := fun c s =>
  let p := c.req.payload
  let d := rdI p 0 8
  if p.length ≠ 8 then badLen s
  else checked s [(0, d ≠ 0 ∧ d.natAbs ≤ 1000 * 1000000000 * 65536)]
    (if s.sel.st.selected.isSome then err s stSTATE else operatorStep 0 4 d false c s)

/-- Answer the TIME_SET mode 0 that a computation committed or aborted (R160, R162). -/
def answerTimeSet (s : State) : State :=
  match s.sel.timeDone with
  | none => s
  | some (id, r) =>
    let s1 := { s with sel := { s.sel with timeDone := none } }
    answerHeld id (fun _ t => match r with | some v => ok t (stepReply v.1 v.2) | none => err t stSTATE) s1

/-- One judged step against the reported bound (R206). -/
def discoverOne (s : State) (j : Judged) : State :=
  if s.bnd.bound ≠ unbounded ∧ s.bnd.bound * 1024 < j.size.natAbs then
    let v := word64 (satI (j.size.natAbs - s.bnd.bound * 1024))
    let t := setSticky 0 6 (logPut 0x07 0 j.slot v s)
    { t with
      bnd := { t.bnd with
        violations := satInc sat32 t.bnd.violations
        found := t.bnd.found ++ [⟨j.te / us1, j.effective / us1, v, t.log.nextSeq + t.log.queue.length - 1⟩] }
      bus := { t.bus with newViolation := true } }
  else s

/-- A mirrored step in ACQUIRING entered from HOLDOVER is judged under R206, against the bound last reported. -/
def judgeMirrored (size : Interval) (eff : FieldTime) (s : State) : State :=
  if s.osc.mState = .acquiring ∧ s.osc.acqFrom = .holdover then discoverOne s ⟨19, size, eff, entryOf s false⟩ else s

/-- STEP_MIRROR (R433): commit the step that the latest relayed TIME_WORD announces. -/
def stepMirror (s : State) : State :=
  match s.tan.word with
  | none => s
  | some w =>
    if s.sel.st.selected ≠ some 19 || !bit w.flags 5 || decide (w.step = 0) || decide (s.sel.steps ≠ []) ||
        decide (w.effective ≤ s.acc + 192 * us1) then s
    else
      let pts := (s.slot 19).pts.take 16
      let s1 := commitStep { size := w.step, effective := w.effective, kind := .mirrored, bStep := residue s 19 pts w.effective } 0 19 s
      judgeMirrored w.step w.effective (judgeAlarm w.step s1)

/-- SEL_POLICY (R156). -/
def execSelPolicy (rq : Request) (s : State) : Out := kcpRow 0x0401 (leastPriv s 0x0401 rq.payload) bodySelPolicy rq s
/-- SEL_STATUS (R157). -/
def execSelStatus (rq : Request) (s : State) : Out := kcpRow 0x0402 (leastPriv s 0x0402 rq.payload) bodySelStatus rq s
/-- SEL_FORCE (R158). -/
def execSelForce (rq : Request) (s : State) : Out := kcpRow 0x0403 (leastPriv s 0x0403 rq.payload) bodySelForce rq s
/-- SEL_CLEAR_FORCE (R158). -/
def execSelClearForce (rq : Request) (s : State) : Out := kcpRow 0x0404 (leastPriv s 0x0404 rq.payload) bodySelClearForce rq s
/-- DPLL_CONFIG (R159). -/
def execDpllConfig (rq : Request) (s : State) : Out := kcpRow 0x0405 (leastPriv s 0x0405 rq.payload) bodyDpllConfig rq s
/-- TIME_SET mode 0 (R160). -/
def execTimeSetMode0 (rq : Request) (s : State) : Out := kcpRow 0x0406 (leastPriv s 0x0406 (withByte 0 0 rq).payload) bodyTimeSet (withByte 0 0 rq) s
/-- TIME_SET mode 1 (R160). -/
def execTimeSetMode1 (rq : Request) (s : State) : Out := kcpRow 0x0406 (leastPriv s 0x0406 (withByte 0 1 rq).payload) bodyTimeSet (withByte 0 1 rq) s
/-- TIME_ADJUST (R161). -/
def execTimeAdjust (rq : Request) (s : State) : Out := kcpRow 0x0407 (leastPriv s 0x0407 rq.payload) bodyTimeAdjust rq s
/-- STEP_EFFECTIVE (R593). -/
def execStepEffective (s : State) : Out := done s (stepEffective s)
/-- STEP_MIRROR (R433). -/
def execStepMirror (s : State) : Out := done s (stepMirror s)
/-- SETTLE_END (R152). -/
def execSettleEnd (s : State) : Out := done s (settleEnd s)
/-- GUARD_EXPIRY (R144). -/
def execGuardExpiry (s : State) : Out := done s (guardExpiry s)
/-- WTR_EXPIRY (R135). -/
def execWtrExpiry (slot : Nat) (s : State) : Out := guardUnit (slot < numSlots) s (done s (wtrExpiry slot s))

end Sys2Proof.Machine
end

