-- ==== Sys2Proof/Machine/Osc.lean ====
section
/-! DEFINITION. The oscillator ensemble, holdover models, learning and group 0x05 (spec/07_holdover_ensemble.md). -/

namespace Sys2Proof.Machine
open Sys2Proof

/-- Number of oscillators (R163). -/
def numOsc : Nat := 4

/-- A member is enabled (R179). -/
def oscEnabled (s : State) (i : Nat) : Bool := (s.osci i).cfg.enable.getD (decide (i = 0))
/-- CLASS of a record for a member (R163). -/
def classOf (i : Nat) (c : OscCfg) : Nat := c.cls.getD (if i = 2 then 1 else if i = 3 then 2 else 0)
/-- CLASS of a member. -/
def oscClass (s : State) (i : Nat) : Nat := classOf i (s.osci i).cfg
/-- Accepted offset from nominal in 2^-48, rounded up (R163). -/
def oscAccepted (i : Nat) : Nat := divUp ((if i = 0 then 20 else 10) * 2 ^ 48) (10 ^ 6)

/-- Default σ of a class, LSB 2^-64 rounded up (R166). -/
def classSigma (c : Nat) : Nat :=
  match c with
  | 0 => divUp (2 ^ 64) (10 ^ 11) | 1 => divUp (2 * 2 ^ 64) (10 ^ 13) | 2 => divUp (2 ^ 64) (10 ^ 13) | _ => divUp (2 * 2 ^ 64) (10 ^ 15)
/-- Default ageing half-width of a class per day, 2^-48 rounded up (R166). -/
def classAgeing (c : Nat) : Nat :=
  match c with
  | 0 => divUp (2 ^ 48) (10 ^ 10) | 1 => divUp (5 * 2 ^ 48) (10 ^ 12) | 2 => divUp (2 ^ 48) (10 ^ 14) | _ => divUp (2 ^ 48) (10 ^ 15)
/-- Default temperature-coefficient half-width of a class per °C, 2^-48 rounded up (R166). -/
def classTempco (c : Nat) : Nat :=
  match c with
  | 0 => divUp (2 * 2 ^ 48) (10 ^ 11) | 1 => divUp (2 ^ 48) (10 ^ 12) | 2 => divUp (2 ^ 48) (10 ^ 14) | _ => divUp (2 ^ 48) (10 ^ 15)

/-- Half-width of a_i (R171). -/
def freqHw (i : Nat) (m : Model) : Freq := m.freqHw.getD (oscAccepted i)
/-- Half-width of b_i. -/
def ageingHw (s : State) (i : Nat) (m : Model) : Freq := m.ageingHw.getD (classAgeing (oscClass s i))
/-- Half-width of c_i. -/
def tempcoHw (s : State) (i : Nat) (m : Model) : Freq := m.tempcoHw.getD (classTempco (oscClass s i))

/-- OSCn, 1 to 3, shows passed edges and valid records on its channel (R163, R164): the last passed edge lies within 10 µs, its
channel is locked, the last record is valid. R56 speaks of the activity monitor of a comparison source and gives none of an
oscillator: this stands for it, sampled at each computation, whatever the member's ENABLE (DESIGN CHOICE, log entry 25). -/
def oscShown (s : State) (i : Nat) : Bool :=
  let x := s.chan (8 + i)
  x.lock && x.passedPs.any (fun t => decide (s.tim.tick * 800 ≤ t + 10000000)) && x.last.any (fun r => !r.invalid)

/-- Since when each of OSC1 to OSC3 has shown itself (R56). -/
def oscPresence (s : State) : TimeBase :=
  let b := s.tim.tb
  { b with oscGood := [1, 2, 3].map (fun i => if oscShown s i then some ((b.oscGood.getD (i - 1) none).getD s.now) else none) }

/-- A member's valid temperature reading (R172, R173). -/
def tempReading (s : State) (i : Nat) : Option Int :=
  let x := s.osci i
  match x.cfg.tempSource with
  | 0 => none
  | 1 => if s.tim.tb.tempM = -32768 then none else some s.tim.tb.tempM
  | _ => if x.sensor.valid then x.sensor.last else none

/-- T_i: the latest temperature sample, taken once per second (R170). -/
def tempSample (s : State) (i : Nat) : Option Int :=
  if (s.osci i).cfg.tempSource = 1 then (if s.osc.tempM = -32768 then none else some s.osc.tempM) else tempReading s i

/-- The temperature the model uses (R173): the last valid one, else T_REF. -/
def tempModel (s : State) (i : Nat) : Int :=
  let x := s.osci i
  match x.cfg.tempSource with
  | 1 => (tempSample s i).getD x.inForce.tRef
  | 2 => x.sensor.last.getD x.inForce.tRef
  | _ => x.inForce.tRef

/-- ŷ_i at field time `t` (R170), rounded to the LSB. -/
def predicted (s : State) (i : Nat) (t : FieldTime) : Freq :=
  let m := (s.osci i).inForce
  let d : Nat := 86400 * s1 * 128
  divNearI (m.freq * d + m.ageing * ((t : Int) - (m.epoch * s1 : Nat)) * 128 +
    m.tempco * (tempModel s i - m.tRef) * (86400 * s1 : Nat)) d

/-- e_i of a member (R165). -/
def oscE (s : State) (i : Nat) : Freq := (s.osci i).yhat - (if i = 0 then 0 else (s.osci i).m)

/-- Sum of the first `m` values. -/
def sumTake (m : Nat) (l : List Freq) : Int := (l.take m).sum

/-- The sum of squared differences of adjacent `m`-sums, the window moving one value at a time (R166): `a` and `b` the
sums of the two windows at the head of `l`; l, l after m and l after 2m values. -/
def adevGo : List Freq → List Freq → List Freq → Int → Int → Nat → Nat
  | x :: l, y :: lm, z :: l2m, a, b, acc => adevGo l lm l2m (a - x + y) (b - y + z) (acc + (b - a).natAbs ^ 2)
  | _, _, _, a, b, acc => acc + (b - a).natAbs ^ 2

/-- The overlapping Allan deviation at 2^k s in LSB 2^-64, valid once the data cover 8τ (R166). -/
def adev (ys : List Freq) (k : Nat) : Option Nat :=
  let m := 2 ^ k
  if ys.length < 8 * m then none
  else
    let d := adevGo ys (ys.drop m) (ys.drop (2 * m)) (sumTake m ys) (sumTake m (ys.drop m)) 0
    some (sqrtUp (d * 2 ^ 32) (2 * (ys.length - 2 * m + 1) * m * m))

/-- σ_i(2^k s), or the class default where no estimate is valid (R166). -/
def sigmaK (s : State) (i k : Nat) : Nat := max 1 ((adev (s.osci i).ys k).getD (classSigma (oscClass s i)))

/-- The ACTIVE members. -/
def activeSet (s : State) : List Nat := (List.range numOsc).filter (fun i => decide ((s.osci i).state = .active))
/-- The members that carry weight. -/
def weightedSet (s : State) : List Nat := (List.range numOsc).filter (fun i => (s.osci i).w != 0)

/-- r_ens for given numerators and e_i (R165), rounded to the LSB. -/
def rEnsOf (s : State) (e : Nat → Freq) : Freq :=
  if s.osc.wDen = 0 then 0
  else -(divNearI ((List.range numOsc).map (fun i => ((s.osci i).w : Int) * e i)).sum s.osc.wDen)

/-- w_i of the ACTIVE members as numerators over their sum (R167): the product of the others' σ². -/
def newWeights (s : State) : State :=
  let act := activeSet s
  let sig := fun i => sigmaK s i s.osc.ens.horizon
  let num := fun i => if act.contains i then (act.filter (· ≠ i)).foldl (fun a j => a * (sig j * sig j)) 1 else 0
  let s1 := (List.range numOsc).foldl (fun t i => t.setOsci i { t.osci i with w := num i }) s
  { s1 with osc := { s1.osc with wDen := (act.map num).sum } }

/-- New weights, with the difference of r_ens added to r_bias (R168); `e` gives a leaving member's estimate. -/
def reweigh (e : Nat → Freq) (s : State) : State :=
  let old := rEnsOf s e
  let s1 := newWeights s
  let new := rEnsOf s1 (oscE s1)
  { s1 with osc := { s1.osc with rBias := s1.osc.rBias + old - new, rEns := new } }

/-- The phase of a member now (R163): the cycles counted at the edge of the channel's last record, and that edge. -/
def memberPhase (s : State) (i : Nat) : Option (Nat × Int) :=
  let x := s.chan (8 + i)
  x.last.map (fun r => (x.recCycles, edge5 r))

/-- m_i between two phases of a member (R165): its cycles of 100 ns against the time base, nearest LSB. -/
def memberRate (a b : Nat × Int) : Option Freq :=
  let dt := b.2 - a.2
  if dt ≤ 0 then none
  else some (divNearI ((((b.1 : Int) - a.1) * (100 * 65536 * 5) - dt) * 2 ^ 48) dt.toNat)

/-- A JOINING member becomes ACTIVE after REJOIN (R164). -/
def joined (s : State) (x : Member) (st : MemberState) : MemberState :=
  if st = .joining ∧ x.joinEnd ≤ s.now then .active else st

/-- Loss (R164): the phase origin is `mark` when it is present again. -/
def loseMember (s : State) (i : Nat) (st : MemberState) (mark : Option (Nat × Int)) : State :=
  let x := s.osci i
  s.setOsci i { x with
    state := .absent, presentSince := none, mark := mark
    losses := if st = .absent then x.losses else satInc sat32 x.losses }

/-- A member at a computation: presence, m_i, loss, joining (R164, R165). -/
def memberStep (s : State) (i : Nat) : State :=
  let x := s.osci i
  if !oscEnabled s i then s.setOsci i { x with state := .disabled, presentSince := none, mark := none }
  else if i = 0 then
    s.setOsci 0 { x with
      m := 0, state := if x.state = .excluded ∨ x.state = .joining then joined s x x.state else .active }
  else
    let st := if x.state = .disabled then MemberState.absent else x.state
    let here := memberPhase s i
    if !oscShown s i then loseMember s i st none
    else match (x.mark.bind (fun a => here.bind (memberRate a))) with
      | some v =>
        if v.natAbs ≤ oscAccepted i then
          s.setOsci i { x with
            m := v, presentSince := some (x.presentSince.getD s.now), mark := here, state := joined s x st }
        else loseMember s i st here
      | none => s.setOsci i { x with presentSince := some (x.presentSince.getD s.now), mark := here, state := st }

/-- The conditions of R171 that concern the M tile. -/
def learnOk (s : State) : Bool := decide (s.osc.mState = .locked) && !s.uncertain && !s.tim.tb.warmup

/-- The conditions of R171 for one member. -/
def learnMember (s : State) (i : Nat) : Bool :=
  learnOk s && decide ((s.osci i).state = .active) &&
    (decide ((s.osci i).cfg.tempSource = 0) || (tempReading s i).isSome)

/-- A second ends (R166, R170, R171, R180): MEASURED, which keeps its last value where the member showed nothing in the second; the 1 s
frequency value, of which the latest 2^20 are kept and stand next to one another across seconds outside the learning
conditions; the temperature sample. The rules say none of these three (DESIGN CHOICE, log entry 25). -/
def secondEnd (s : State) (i : Nat) : State :=
  let x := s.osci i
  let avg := if x.mCount = 0 then x.mAvg else divNearI x.mSum x.mCount
  let y := divNearI (x.mSum - s.osc.rSum) s.osc.secCount
  let t := tempSample s i
  s.setOsci i { x with
    mAvg := avg, mSum := 0, mCount := 0, secClean := true
    ys := if x.secClean then (y :: x.ys).take (2 ^ 20) else x.ys
    tSum := x.tSum + t.getD 0, tCount := if t.isSome then x.tCount + 1 else x.tCount }

/-- A member's running sums at a computation: `r` is the rate over the last 1 ms (R166, R169, R171). A member that is
DISABLED or ABSENT adds nothing. -/
def memberSums (r : Freq) (s : State) (i : Nat) : State :=
  let x := s.osci i
  let okNow := learnMember s i
  let there := decide (x.state ≠ .disabled) && decide (x.state ≠ .absent)
  let y := { x with clean := x.clean && okNow, secClean := x.secClean && okNow }
  s.setOsci i (if there then { y with
      mSum := x.mSum + x.m, mCount := x.mCount + 1, ySum := x.ySum + (x.m - r), yCount := x.yCount + 1
      eSum := x.eSum + oscE s i, eCount := x.eCount + 1 }
    else y)

/-- The ensemble at a computation (R164, R165, R168). -/
def ensCompute (tk : FieldTime) (s : State) : State :=
  let r := s.osc.rate
  let s1 := (List.range numOsc).foldl memberStep s
  let s2 := (List.range numOsc).foldl (fun t i => t.setOsci i { t.osci i with yhat := predicted t i tk }) s1
  let s3 := if activeSet s2 = weightedSet s2 then
      { s2 with osc := { s2.osc with rEns := rEnsOf s2 (oscE s2) } }
    else reweigh (oscE s2) s2
  let s4 := (List.range numOsc).foldl (memberSums r) s3
  let s5 := { s4 with osc := { s4.osc with
    rSum := s4.osc.rSum + r, secCount := s4.osc.secCount + 1, learning := s4.osc.learning && learnOk s4 } }
  if ftSec tk = s5.osc.second then s5
  else
    let s6 := (List.range numOsc).foldl secondEnd { s5 with osc := { s5.osc with tempM := s5.tim.tb.tempM } }
    { s6 with osc := { s6.osc with rSum := 0, secCount := 0, second := ftSec tk } }

/-- The rate of the timescale, clamped (R153, R165). -/
def rateCompute (s : State) : State :=
  let req := s.osc.rEns + s.osc.rBias + s.sel.rSteer
  let r := max (-rateClamp) (min rateClamp req)
  { s with
    osc := { s.osc with rate := r, rReq := req }
    sel := { s.sel with st := { s.sel.st with rateClamp := decide (rateClamp ≤ req.natAbs) } } }

/-- MEMBER_JOIN (R164). -/
def memberJoin (i : Nat) (s : State) : State :=
  let x := s.osci i
  match x.state, x.presentSince with
  | .absent, some t =>
    if t + 1000000000 ≤ s.now then
      s.setOsci i { x with state := .joining, joinEnd := s.now + s.osc.ens.rejoin * 1024 * 1000000000 }
    else s
  | _, _ => s

/-- ē_i of a member over the running interval (R169). -/
def meanE (s : State) (i : Nat) : Freq := divNearI (s.osci i).eSum (max 1 (s.osci i).eCount)

/-- The ACTIVE members other than `i` with a weight, and the sum of their weights. -/
def otherWeights (s : State) (i : Nat) : List Nat × Nat :=
  let l := (activeSet s).filter (fun j => decide (j ≠ i) && (s.osci j).w != 0)
  (l, (l.map (fun j => (s.osci j).w)).sum)

/-- |ē_i − ē_o| of a test, and whether it is beyond L (R169). -/
def outlierTest (s : State) (i : Nat) : Nat × Bool :=
  let o := otherWeights s i
  if o.2 = 0 then (0, false)
  else
    let e := divNearI (o.1.map (fun j => ((s.osci j).w : Int) * meanE s j)).sum o.2
    let sig := divUp (o.1.map (fun j => (s.osci j).w * sigmaK s j 10)).sum o.2
    let d := (meanE s i - e).natAbs
    (d, decide (6 * (sigmaK s i 10 + sig) < d * 2 ^ 16))

/-- One member after its test (R169); `three` says three or more members are ACTIVE. A JOINING member beyond L restarts REJOIN, as R164
says of a failed test, and is neither EXCLUDED nor counted, as R169 says of a member (DEDUCED, log entry 25). -/
def afterTest (s0 : State) (three : Bool) (s : State) (i : Nat) : State :=
  let x := s.osci i
  let fail := (outlierTest s0 i).2
  let y := { x with eSum := 0, eCount := 0, ePassed := if fail then x.ePassed else meanE s0 i }
  let rejoin := s.now + s.osc.ens.rejoin * 1024 * 1000000000
  s.setOsci i (match x.state with
    | .active => if fail && three then { y with state := .excluded, outlier := satInc sat16 x.outlier } else y
    | .joining => if fail then { y with joinEnd := rejoin } else y
    | .excluded => if fail then y else { y with state := .joining, joinEnd := rejoin }
    | _ => { y with ePassed := x.ePassed })

/-- ENSEMBLE_TEST (R167 to R169): at each multiple of 1,024 s of field time. -/
def ensembleTest (s : State) : State :=
  let k := ftSec s.acc / 1024
  if k = s.osc.test then s
  else
    let act := activeSet s
    let s1 := (List.range numOsc).foldl (afterTest s (decide (3 ≤ act.length))) s
    let two := decide (act.length = 2)
    let t := outlierTest s (act.headD 0)
    let s2 := { s1 with osc := { s1.osc with
      test := k, conflict := two && t.2, conflictBy := if two && t.2 then t.1 else 0 } }
    let leave := fun i => if (s2.osci i).state = .excluded then (s2.osci i).ePassed else oscE s2 i
    if decide (s.osc.mState = .holdover) && decide (activeSet s2 = act) then s2 else reweigh leave s2

/-- LEARNING_SAMPLE of one member (R171): a sample is held for at most 30 days. -/
def sampleMember (endSec : Nat) (keep : Bool) (s : State) (i : Nat) : State :=
  let x := s.osci i
  let smp : LearnSample :=
    { endSec := endSec, y := divNearI x.ySum (max 1 x.yCount)
      temp := if x.tCount = 0 then none else some (divNearI x.tSum x.tCount) }
  let old := x.samples.filter (fun q => decide (endSec ≤ q.endSec + 30 * 86400))
  s.setOsci i { x with
    samples := if keep && x.clean && decide (x.yCount ≠ 0) then (smp :: old).take 10125 else old
    ySum := 0, yCount := 0, tSum := 0, tCount := 0, clean := true }

/-- LEARNING_SAMPLE (R171): at each multiple of 256 s of field time. -/
def learningSample (s : State) : State :=
  let k := ftSec s.acc / 256
  if k = s.osc.interval then s
  else
    let s1 := (List.range numOsc).foldl (sampleMember (k * 256) (decide (k = s.osc.interval + 1))) s
    { s1 with osc := { s1.osc with interval := k, learning := learnOk s1 } }

/-- The determinant of a square matrix of at most three rows. -/
def det : List (List Int) → Int
  | [[a]] => a
  | [[a, b], [c, d]] => a * d - b * c
  | [[a, b, c], [d, e, f], [g, h, i]] => a * (e * i - f * h) - b * (d * i - f * g) + c * (d * h - e * g)
  | _ => 1

/-- A matrix without row `r` and column `c`. -/
def minor (m : List (List Int)) (r c : Nat) : List (List Int) := (m.eraseIdx r).map (fun row => row.eraseIdx c)

/-- Entry (r, c) of the adjugate of a symmetric matrix. -/
def adj (m : List (List Int)) (r c : Nat) : Int := (if (r + c) % 2 = 0 then 1 else -1) * det (minor m r c)

/-- A least-squares fit on basis rows: coefficients as fractions over a determinant, and the squared standard errors. -/
structure LsFit where
  den : Int := 0
  num : List Int := []
  errNum : List Int := []
  errDen : Int := 1
  deriving DecidableEq, Repr

/-- The normal equations' solution for rows (basis, y). -/
def leastSquares (p : Nat) (rows : List (List Int × Int)) : LsFit :=
  let at_ := fun (l : List Int) (j : Nat) => l.getD j 0
  let m := (List.range p).map (fun j => (List.range p).map (fun k => (rows.map (fun r => at_ r.1 j * at_ r.1 k)).sum))
  let v := (List.range p).map (fun j => (rows.map (fun r => at_ r.1 j * r.2)).sum)
  let d := det m
  let num := (List.range p).map (fun j => ((List.range p).map (fun k => adj m j k * at_ v k)).sum)
  let yy := (rows.map (fun r => r.2 * r.2)).sum
  -- RSS = Σy² − β·v = (yy d − num·v) / d; s² = RSS / (n − p); se_j² = s² adj_jj / d
  let rss := yy * d - (List.zipWith (· * ·) num v).sum
  { den := d, num := num, errNum := (List.range p).map (fun j => rss * adj m j j), errDen := d * d * ((rows.length : Int) - p) }

/-- Six standard errors of coefficient `j` scaled by `k`, rounded up (R171). -/
def hw6 (f : LsFit) (j k : Nat) : Nat := sqrtUp ((36 * k * k : Nat) * (f.errNum.getD j 0)).toNat f.errDen.toNat

/-- Coefficient `j` scaled by `k`, rounded. -/
def coef (f : LsFit) (j k : Nat) : Freq := if f.den = 0 then 0 else divNearI (f.num.getD j 0 * k * f.den.sign) f.den.natAbs

/-- The holdover model of a member's samples (R171). -/
def fitModel (s : State) (i : Nat) : Model :=
  let x := s.osci i
  let l := x.samples
  let sm := (adev x.ys s.osc.ens.horizon).isSome
  if l.length < 14 then { sigmaMeas := sm, samples := l.length }
  else
    let n := l.length
    let epoch : Nat := (l.head?.map (fun (q : LearnSample) => q.endSec)).getD 0
    let first : Nat := (l.getLast?.map (fun (q : LearnSample) => q.endSec)).getD 0
    let temps := l.filterMap (·.temp)
    let tSum := temps.sum
    let hot := temps.foldl max (temps.headD 0)
    let cold := temps.foldl min (temps.headD 0)
    let useB := decide (86400 ≤ epoch + 256 - first)
    let useC := decide (x.cfg.tempSource ≠ 0) && decide (temps.length = n) && decide (64 ≤ hot - cold)
    let row := fun (q : LearnSample) =>
      ([1] ++ (if useB then [(q.endSec : Int) - 128 - epoch] else []) ++
        (if useC then [(q.temp.getD 0) * n - tSum] else []), q.y)
    let f := leastSquares (1 + (if useB then 1 else 0) + (if useC then 1 else 0)) (l.map row)
    let jc := if useB then 2 else 1
    { valid := true, ageFit := useB, tempFit := useC, sigmaMeas := sm, samples := n
      freq := coef f 0 1, freqHw := some (hw6 f 0 1)
      ageing := if useB then coef f 1 86400 else 0, ageingHw := if useB then some (hw6 f 1 86400) else none
      tempco := if useC then coef f jc (n * 128) else 0, tempcoHw := if useC then some (hw6 f jc (n * 128)) else none
      tRef := if temps = [] then 0 else divNearI tSum temps.length, epoch := epoch }

/-- A member's fit: samples older than LOOKBACK are discarded; an override stays in force (R171, R181, R182). -/
def fitMember (s : State) (i : Nat) : State :=
  let x := s.osci i
  let keep := x.samples.filter (fun q => decide (ftSec s.acc ≤ q.endSec + s.osc.learn.lookback * 86400))
  let s1 := s.setOsci i { x with samples := keep }
  let m := fitModel s1 i
  s1.setOsci i { s1.osci i with learned := m, inForce := if x.inForce.override then x.inForce else m }

/-- HOLDOVER_FIT (R171, R182): every LEARN_PERIOD in AUTO, or on demand; none in HOLDOVER. -/
def holdoverFit (s : State) : State :=
  let due := decide (s.osc.learn.mode = 0) &&
    decide ((s.osc.lastFit.getD 0) + s.osc.learn.period * 256 * 1000000000 ≤ s.now)
  if decide (s.osc.mState = .holdover) || !(due || s.osc.fitDemand) then s
  else
    let s1 := (List.range numOsc).foldl fitMember s
    { s1 with osc := { s1.osc with lastFit := some s1.now, fitDemand := false } }

/-- A raw sensor value in the temperature format (R172). -/
def convertTemp (fmt raw : Nat) : Int :=
  let v := signed 2 (raw % 65536)
  match fmt with
  | 0 => v
  | 1 => (v + 1) / 2
  | _ => v / 16 * 8

/-- A sensor after a read (R173). -/
def sensorRead (x : Sensor) (v : Option Int) : Sensor :=
  let good := match v, x.last with
    | some a, some l => decide ((a - l).natAbs ≤ 640)
    | some _, none => true
    | none, _ => false
  if good then
    if x.valid ∨ x.good + 1 ≥ 3 then { x with valid := true, good := x.good + 1, bad := 0, last := v }
    else { x with good := x.good + 1, bad := 0 }
  else if x.valid ∧ x.bad + 1 ≥ 3 then
    { x with valid := false, good := 0, bad := x.bad + 1, fails := satInc sat16 x.fails }
  else { x with good := 0, bad := x.bad + 1 }

/-- A member whose temperature the module reads on the oscillator I²C bus (R172). -/
def onI2c (s : State) (i : Nat) : Bool := oscEnabled s i && decide ((s.osci i).cfg.tempSource = 2)

/-- The sequence of a read on the oscillator I²C bus (R172); a device that does not answer leaves its address
unacknowledged. -/
def i2cRead (addr reg : Nat) (raw : Option Nat) : List I2cSym :=
  match raw with
  | none => [.start, .byte (2 * addr) false, .stop]
  | some v =>
    [.start, .byte (2 * addr) true, .byte reg true, .start, .byte (2 * addr + 1) true, .byte (v / 256 % 256) true,
     .byte (v % 256) false, .stop]

/-- The sensor reads of a second are due from 100 ms after it, in the order OSC0 to OSC3, one of each (R172). -/
def readDue (s : State) (i : Nat) : Bool :=
  let done := if s.osc.readSec = ftSec s.acc then s.osc.readNext else 0
  onI2c s i && decide (done ≤ i) && decide (100 * ms1 ≤ s.acc % s1) &&
    (List.range i).all (fun j => decide (j < done) || !onI2c s j)

/-- TEMP_READ (R172, R173): `raw` the two bytes read, none when the read failed on the bus. -/
def tempRead (i : Nat) (raw : Option Nat) (s : State) : State :=
  let x := s.osci i
  if !readDue s i then s
  else
    let t := s.setOsci i { x with sensor := sensorRead x.sensor (raw.map (convertTemp x.cfg.format)) }
    { t with osc := { t.osc with
      readSec := ftSec s.acc, readNext := i + 1, i2c := i2cRead (x.cfg.i2cAddr.getD (0x48 + i)) x.cfg.i2cReg raw
      i2cKhz := if s.osc.ens.i2cSpeed = 0 then 100 else 400 } }

/-- OSC_CONFIG's member record (R179). -/
def oscRecord (i : Nat) (c : OscCfg) : List Byte :=
  le 1 i ++ le 1 (flag 0 (c.enable.getD (decide (i = 0)))) ++ le 1 (classOf i c) ++ le 1 c.tempSource ++
  le 1 (c.i2cAddr.getD (0x48 + i)) ++ le 1 c.i2cReg ++ le 1 c.format ++ zeros 1 ++ le 2 c.tempUnc ++ leI 2 c.rangeLo ++
  leI 2 c.rangeHi ++ zeros 2

/-- OSC_CONFIG's ensemble record (R179). -/
def ensRecord (e : EnsCfg) : List Byte :=
  le 1 0xFF ++ le 1 e.horizon ++ le 1 e.i2cSpeed ++ le 1 e.rejoin ++ le 4 e.spec ++ le 2 e.holdAvg ++ le 2 e.holdGuard ++
  zeros 4

/-- The sealed fields of a record at given offsets and widths, from two serialisations of it. -/
def sealedOf (op idx : Nat) (fields : List (Nat × Nat)) (old new : List Byte) : List SealedWrite :=
  fields.map (fun f => ⟨op, idx, f.1, (old.drop f.1).take f.2, (new.drop f.1).take f.2⟩)

/-- Sealed fields of a member record (R179). -/
def oscSealed : List (Nat × Nat) := [(1, 1), (2, 1), (3, 1), (4, 1), (5, 1), (6, 1), (8, 2), (10, 2), (12, 2)]
/-- Sealed fields of the ensemble record (R179). -/
def ensSealed : List (Nat × Nat) := [(1, 1), (3, 1), (8, 2), (10, 2)]

/-- Write a record whose sealed fields are given (R73, R178): OK with the record, or SEALED or INTEGRITY. -/
def sealedWrite (ws : List SealedWrite) (s : State) (k : State → Res) : Res :=
  if sealedStatus s ws ≠ 0 then err s (sealedStatus s ws) else k (sealedLog ws s)

/-- A sensor from a write that sets TEMP_SOURCE to 2 on (R173): invalid, a transition from valid counted. -/
def sensorAfresh (x : Sensor) : Sensor :=
  { x with valid := false, good := 0, bad := 0, fails := if x.valid then satInc sat16 x.fails else x.fails }

/-- OSC_CONFIG of a member (R179); a write of TEMP_SOURCE 2 makes its sensor invalid (R173). -/
def writeOsc (i : Nat) (p : List Byte) (s : State) : Res :=
  let x := s.osci i
  let new : OscCfg := ⟨some (bit (rd p 1 1) 0), some (rd p 2 1), rd p 3 1, some (rd p 4 1), rd p 5 1, rd p 6 1, rd p 8 2,
    rdI p 10 2, rdI p 12 2⟩
  sealedWrite (sealedOf 0x0501 i oscSealed (oscRecord i x.cfg) p) s (fun t =>
    ok (t.setOsci i { x with
      cfg := new
      sensor := if new.tempSource = 2 then sensorAfresh x.sensor else x.sensor }) p)

/-- OSC_CONFIG (R179). -/
def bodyOscConfig : Body := fun c s =>
  let p := c.req.payload
  let i := rd p 0 1
  if p.length = 1 then
    checked s [(0, i < 4 ∨ i = 0xFF)] (ok s (if i = 0xFF then ensRecord s.osc.ens else oscRecord i (s.osci i).cfg))
  else if p.length ≠ 16 then badLen s
  else if i = 0xFF then
    let new : EnsCfg := ⟨rd p 1 1, rd p 2 1, rd p 3 1, rd p 4 4, rd p 8 2, rd p 10 2⟩
    checked s
      [(1, 10 ≤ new.horizon ∧ new.horizon ≤ 17), (2, new.i2cSpeed ≤ 1), (3, 1 ≤ new.rejoin ∧ new.rejoin ≤ 84),
       (4, 0x40 ≤ new.spec ∧ new.spec ≤ 0x3D09000), (8, 1 ≤ new.holdAvg ∧ new.holdAvg ≤ 3600), (10, new.holdGuard ≤ 600),
       zeroAt p 12 4]
      (sealedWrite (sealedOf 0x0501 0xFF ensSealed (ensRecord s.osc.ens) p) s
        (fun t => ok { t with osc := { t.osc with ens := new } } p))
  else
    checked s
      [(0, i < 4), (1, rd p 1 1 ≤ 1 ∧ (i ≠ 0 ∨ rd p 1 1 = 1)), (2, rd p 2 1 ≤ 3), (3, rd p 3 1 ≤ 2),
       (4, 8 ≤ rd p 4 1 ∧ rd p 4 1 ≤ 0x77), (6, rd p 6 1 ≤ 2), zeroAt p 7 1, (8, 1 ≤ rd p 8 2 ∧ rd p 8 2 ≤ 1280),
       (12, rdI p 10 2 < rdI p 12 2), zeroAt p 14 2]
      (writeOsc i p s)

/-- Code of a member's state (R180). -/
def memberCode (m : MemberState) : Nat :=
  match m with | .disabled => 0 | .absent => 1 | .joining => 2 | .active => 3 | .excluded => 4

/-- ENSEMBLE_STATUS's record of a member (R180). -/
def memberRecord (s : State) (i : Nat) : List Byte :=
  let x := s.osci i
  le 1 i ++ le 1 (memberCode x.state) ++ le 2 (if s.osc.wDen = 0 then 0 else divNear (x.w * 32768) s.osc.wDen) ++
  leI 2 ((tempReading s i).getD (-32768)) ++ le 2 x.sensor.fails ++ leF x.mAvg ++ leF x.yhat ++
  le 4 (min sat32 (sigmaK s i s.osc.ens.horizon)) ++ le 2 x.outlier ++
  le 2 (if x.state = .joining then min sat16 (divUp (x.joinEnd - s.now) 1000000000) else 0) ++ le 4 x.losses ++
  le 1 ((List.range 8).foldl (fun a k => a + flag k (adev x.ys (10 + k)).isSome) 0) ++ zeros 3

/-- ENSEMBLE_STATUS's reply (R180). -/
def ensembleStatus (s : State) : List Byte :=
  let map := fun (f : MemberState → Bool) => (List.range numOsc).foldl (fun a i => a + flag i (f (s.osci i).state)) 0
  le 1 (mStateCode s.osc.mState) ++
  le 1 (flag 0 s.osc.conflict + flag 1 s.osc.fromModel + flag 2 s.osc.learning + flag 3 (decide (s.bnd.bound ≤ s.osc.ens.spec))) ++
  le 1 (map (fun m => decide (m ≠ .disabled) && decide (m ≠ .absent))) ++ le 1 (map (fun m => decide (m = .active))) ++
  le 4 (if s.osc.mState = .holdover then min sat32 ((s.now - s.osc.entryNow) / 1000000000) else 0) ++
  leF s.sel.rSteer ++ leF s.osc.rEns ++ leF s.osc.rBias ++ le 4 s.osc.count ++ zeros 4 ++
  (List.range numOsc).flatMap (memberRecord s)

/-- ENSEMBLE_STATUS (R180). -/
def bodyEnsembleStatus : Body := fun c s => if c.req.payload = [] then ok s (ensembleStatus s) else badLen s

/-- HOLDOVER_MODEL's record without FIT_AGE (R181). -/
def modelRecord (s : State) (i : Nat) (m : Model) (age : Nat) : List Byte :=
  le 1 i ++ le 1 (flag 0 m.valid + flag 1 m.ageFit + flag 2 m.tempFit + flag 3 m.override + flag 4 m.sigmaMeas) ++
  le 2 m.samples ++ le 4 age ++ leF m.freq ++ leF (freqHw i m) ++ leF m.ageing ++ leF (ageingHw s i m) ++ leF m.tempco ++
  leF (tempcoHw s i m) ++ leI 2 m.tRef ++ zeros 6 ++ le 8 m.epoch

/-- FIT_AGE (R181). -/
def fitAge (s : State) (m : Model) : Nat := min sat32 (ftSec s.acc - m.epoch)

/-- A HOLDOVER_MODEL write after its ranges (R178, R181, R195): every write is a change of one sealed field, the record
without FIT_AGE, whatever was in force. -/
def writeModel (i : Nat) (p : List Byte) (s : State) : Res :=
  let x := s.osci i
  let parsed := modelParse p
  let m := if parsed.override then parsed else x.learned
  let rec_ := modelRecord s i parsed 0
  let new := if parsed.override then rec_ else []
  sealedWrite [⟨0x0503, i, 0, [], rec_⟩] s (fun t =>
    let t1 := t.setOsci i { x with inForce := { m with override := parsed.override }, written := new }
    ok t1 (modelRecord t1 i (t1.osci i).inForce (fitAge t1 m)))

/-- HOLDOVER_MODEL (R181). -/
def bodyHoldoverModel : Body := fun c s =>
  let p := c.req.payload
  let i := rd p 0 1
  if p.length = 2 then
    checked s [(0, i < 4), (1, rd p 1 1 ≤ 1)]
      (let m := if rd p 1 1 = 0 then (s.osci i).inForce else (s.osci i).learned
       ok s (modelRecord s i m (fitAge s m)))
  else if p.length ≠ 72 then badLen s
  else
    checked s
      [(0, i < 4), (1, rd p 1 1 < 32), (16, 0 ≤ rdI p 16 8), (32, 0 ≤ rdI p 32 8), (48, 0 ≤ rdI p 48 8), zeroAt p 58 6,
       (64, rd p 64 8 ≤ ftSec s.acc)]
      (writeModel i p s)

/-- HOLDOVER_LEARN's record (R182). -/
def learnRecord (s : State) (action : Nat) : List Byte :=
  le 1 action ++ le 1 s.osc.learn.mode ++ le 2 s.osc.learn.lookback ++ le 4 s.osc.learn.period ++
  le 4 ((List.range numOsc).map (fun i => (s.osci i).samples.length)).sum ++
  le 4 (match s.osc.lastFit with | some t => min (sat32 - 1) ((s.now - t) / 1000000000) | none => sat32)

/-- HOLDOVER_LEARN's write after its ranges (R182). -/
def writeLearn (p : List Byte) (s : State) : Res :=
  let a := rd p 0 1
  let new : LearnCfg := ⟨rd p 1 1, rd p 2 2, rd p 4 4⟩
  let ws := sealedOf 0x0504 0 [(1, 1), (2, 2)] (learnRecord s 0) p ++
    (if a = 2 then [(⟨0x0504, 0, 0, [0], [2]⟩ : SealedWrite)] else [])
  if a = 1 ∧ (s.osc.mState = .holdover ∨ s.osc.mState = .freeRun) then err s stSTATE
  else sealedWrite ws s (fun t =>
    let t1 := { t with osc := { t.osc with learn := new, fitDemand := t.osc.fitDemand || decide (a = 1) } }
    let t2 := if a = 2 then
        (List.range numOsc).foldl (fun u i => u.setOsci i { u.osci i with samples := [] }) t1
      else t1
    if a = 1 then pend t2 (learnRecord t2 1) else ok t2 (learnRecord t2 a))

/-- HOLDOVER_LEARN (R182). -/
def bodyHoldoverLearn : Body := fun c s =>
  let p := c.req.payload
  if p = [] then ok s (learnRecord s 0)
  else if p.length ≠ 16 then badLen s
  else
    checked s
      [(0, rd p 0 1 ≤ 2), (1, rd p 1 1 ≤ 1), (2, 1 ≤ rd p 2 2 ∧ rd p 2 2 ≤ 30), (4, 1 ≤ rd p 4 4 ∧ rd p 4 4 ≤ 336),
       zeroAt p 8 8]
      (writeLearn p s)

/-- OSC_CONFIG (R179). -/
def execOscConfig (rq : Request) (s : State) : Out := kcpRow 0x0501 (leastPriv s 0x0501 rq.payload) bodyOscConfig rq s
/-- ENSEMBLE_STATUS (R180). -/
def execEnsembleStatus (rq : Request) (s : State) : Out := kcpRow 0x0502 (leastPriv s 0x0502 rq.payload) bodyEnsembleStatus rq s
/-- HOLDOVER_MODEL (R181). -/
def execHoldoverModel (rq : Request) (s : State) : Out :=
  kcpRow 0x0503 (leastPriv s 0x0503 rq.payload) bodyHoldoverModel rq s
/-- HOLDOVER_LEARN (R182). -/
def execHoldoverLearn (rq : Request) (s : State) : Out :=
  kcpRow 0x0504 (leastPriv s 0x0504 rq.payload) bodyHoldoverLearn rq s
/-- HOLDOVER_LEARN with ACTION 1 (R182). -/
def execHoldoverLearnFit (rq : Request) (s : State) : Out := kcpRow 0x0504 (leastPriv s 0x0504 (withByte 0 1 rq).payload) bodyHoldoverLearn (withByte 0 1 rq) s
/-- HOLDOVER_LEARN with ACTION 2 (R182). -/
def execHoldoverLearnDiscard (rq : Request) (s : State) : Out := kcpRow 0x0504 (leastPriv s 0x0504 (withByte 0 2 rq).payload) bodyHoldoverLearn (withByte 0 2 rq) s
/-- MEMBER_JOIN (R164). -/
def execMemberJoin (osc : Nat) (s : State) : Out := guardUnit (osc < numOsc) s (done s (memberJoin osc s))
/-- ENSEMBLE_TEST (R169). -/
def execEnsembleTest (s : State) : Out := done s (ensembleTest s)
/-- LEARNING_SAMPLE (R171). -/
def execLearningSample (s : State) : Out := done s (learningSample s)
/-- HOLDOVER_FIT (R171). -/
def execHoldoverFit (s : State) : Out := done s (holdoverFit s)
/-- TEMP_READ (R172). -/
def execTempRead (osc : Nat) (raw : Option Nat) (s : State) : Out := guardUnit (osc < numOsc) s (done s (tempRead osc raw s))

end Sys2Proof.Machine
end

