-- ==== Sys2Proof/Machine/Ref.lean ====
section
/-! DEFINITION. Reference slots, time of day and group 0x03 (spec/05_reference_qualification.md). -/

namespace Sys2Proof.Machine
open Sys2Proof

/-- REF_CONFIG's record of a slot (R129, R594): slot 8's DECLARED_UNC is the value of R98. -/
def refRecord (s : State) (i : Nat) (c : RefCfg) : List Byte :=
  le 1 i ++ le 1 (flag 0 c.enable + flag 1 c.primary) ++ le 1 (kindOf i c) ++ le 1 c.edge ++ le 4 c.nomFreq ++
  le 1 (c.priority.getD i) ++ le 1 c.input ++ zeros 2 ++ le 4 (if i = 8 then gnssUnc s else c.declaredUnc) ++ leIv c.calDelay

/-- A slot's record as configuration (R594). -/
def refCfgOf (s : State) (i : Nat) : RefCfg := (s.slot i).cfgNext.getD (s.slot i).cfg

/-- The record a REF_CONFIG payload writes over the one in force: slots 8 to 19 ignore EDGE, NOMINAL_FREQ and INPUT, and
slot 8 DECLARED_UNC (R129). -/
def refParse (p : List Byte) (i : Nat) (old : RefCfg) : RefCfg :=
  let low := decide (i < 8)
  { enable := bit (rd p 1 1) 0, primary := bit (rd p 1 1) 1, kind := some (rd p 2 1)
    edge := if low then rd p 3 1 else old.edge, nomFreq := if low then rd p 4 4 else old.nomFreq
    priority := some (rd p 8 1), input := if low then rd p 9 1 else old.input
    declaredUnc := if i = 8 then old.declaredUnc else rd p 12 4, calDelay := rdI p 16 8 }

/-- The sealed fields of REF_CONFIG (R128): PRIMARY, DECLARED_UNC, CAL_DELAY. -/
def refSealed (c : RefCfg) : List (Nat × List Byte) :=
  [(1, le 1 (flag 0 c.primary)), (12, le 4 c.declaredUnc), (16, leIv c.calDelay)]

/-- A slot is enabled or disabled at once (R114, R116); the rest waits for the next evaluation (R128). -/
def refEnable (s : State) (i : Nat) (new : RefCfg) : State :=
  let x := s.slot i
  let x1 := { x with cfgNext := some new, cfg := { x.cfg with enable := new.enable } }
  if new.enable = x.cfg.enable then s.setSlot i x1
  else if new.enable then
    refreshUnchecked (s.setSlot i { toState s.now s.acc x1 .unqualified with
      act := { x1.act with predict := none, base := [], missRun := 0, failed := false, byUnlock := false, goodFrom := none }
      st := { (toState s.now s.acc x1 .unqualified).st with evaluated := false, rejected := false, outsideA := false } })
  else s.setSlot i { toState s.now s.acc x1 .disabled with act := { x1.act with goodFrom := none } }

/-- REF_CONFIG (R129). A write that makes the slots of a bound pair differ in KIND, EDGE or NOMINAL_FREQ is accepted and the pair
stays bound (DESIGN CHOICE, log entry 21: R120 judges the pair at its binding only). -/
def bodyRefConfig : Body := fun c s =>
  let p := c.req.payload
  let i := rd p 0 1
  if p.length = 1 then checked s [(0, i < 20)] (ok s (refRecord s i (refCfgOf s i)))
  else if p.length ≠ 24 then badLen s
  else
    let low := decide (i < 8)
    checked s
      [(0, i < 20), (1, rd p 1 1 < 4), (2, if low then rd p 2 1 ≤ 1 else rd p 2 1 = 2), (3, !low || rd p 3 1 ≤ 1),
       (4, !low || (decide (1000 ≤ rd p 4 4) && decide (rd p 4 4 ≤ 250000000))), (9, !low || rd p 9 1 < 4), zeroAt p 10 2,
       (16, -us10i ≤ rdI p 16 8 ∧ rdI p 16 8 ≤ us10i)]
      (let old := refCfgOf s i
       let new := refParse p i old
       let ws := List.zipWith (fun a b => (⟨0x0301, i, a.1, a.2, b.2⟩ : SealedWrite)) (refSealed old) (refSealed new)
       if sealedStatus s ws ≠ 0 then err s (sealedStatus s ws)
       else
         let s1 := refEnable (rewriteWord 0 i (sealedLog ws s)) i new
         ok s1 (refRecord s1 i new))
where
  /-- 10 µs in interval LSBs. -/
  us10i : Int := 655360000

/-- REF_LIMITS' record (R130). -/
def limRecord (i : Nat) (l : RefLimits) : List Byte :=
  le 1 i ++ le 1 l.actMiss ++ le 2 l.accept ++ le 2 l.reject ++ le 2 l.qualPeriod ++ le 1 l.warmupAllow ++
  le 1 l.freqWindow ++ zeros 2 ++ le 4 l.phaseAlarm

/-- A slot's limits as configuration (R594). -/
def limOf (s : State) (i : Nat) : RefLimits := (s.slot i).limNext.getD (s.slot i).lim

/-- REF_LIMITS (R119, R130). -/
def bodyRefLimits : Body := fun c s =>
  let p := c.req.payload
  let i := rd p 0 1
  if p.length = 1 then checked s [(0, i < 20)] (ok s (limRecord i (limOf s i)))
  else if p.length ≠ 16 then badLen s
  else
    let new : RefLimits := ⟨rd p 1 1, rd p 2 2, rd p 4 2, rd p 6 2, rd p 8 1, rd p 9 1, rd p 12 4⟩
    checked s
      [(0, i < 20), (1, 1 ≤ new.actMiss), (2, 1 ≤ new.accept ∧ new.accept ≤ 10000),
       (4, 2 ≤ new.reject ∧ new.reject ≤ 20000 ∧ new.accept < new.reject), (6, 1 ≤ new.qualPeriod ∧ new.qualPeriod ≤ 3600),
       (8, new.warmupAllow ≤ 100), (9, 2 ≤ new.freqWindow ∧ new.freqWindow ≤ 64), zeroAt p 10 2,
       (12, 64 ≤ new.phaseAlarm ∧ new.phaseAlarm ≤ 64000000)]
      (ok ((rewriteWord 0 i s).setSlot i { s.slot i with limNext := some new }) (limRecord i new))

/-- A pair's record as configuration (R594). -/
def dupOf (s : State) (i : Nat) : DuplexCfg := (s.dup i).cfgNext.getD (s.dup i).cfg

/-- REF_DUPLEX's record and status (R131). -/
def dupRecord (s : State) (i : Nat) (c : DuplexCfg) : List Byte :=
  let d := s.dup i
  le 1 i ++ le 1 (flag 0 c.bind) ++ zeros 2 ++ le 4 c.limit ++ le 4 c.tDisc ++ leIv c.offset ++
  le 4 (dupN s i) ++ le 4 d.run ++ le 4 d.nearMiss ++ le 2 d.discCount ++ le 1 (flag 0 d.latched + flag 1 d.unchecked) ++
  zeros 1

/-- A pair can be bound (R120). -/
def bindable (s : State) (i : Nat) : Bool :=
  let a := refCfgOf s (2 * i)
  let b := refCfgOf s (2 * i + 1)
  decide (kindOf (2 * i) a = kindOf (2 * i + 1) b) && decide (a.edge = b.edge) &&
    (decide (kindOf (2 * i) a ≠ 1) || decide (a.nomFreq = b.nomFreq))

/-- REF_DUPLEX (R120, R122, R131). -/
def bodyRefDuplex : Body := fun c s =>
  let p := c.req.payload
  let i := rd p 0 1
  if p.length = 1 then checked s [(0, i < 4)] (ok s (dupRecord s i (dupOf s i)))
  else if p.length ≠ 20 then badLen s
  else
    let new : DuplexCfg := ⟨bit (rd p 1 1) 0, rd p 4 4, rd p 8 4, rdI p 12 8⟩
    checked s
      [(0, i < 4), (1, rd p 1 1 ≤ 1 ∧ (!new.bind || bindable s i)), zeroAt p 2 2,
       (4, 100 ≤ new.limit ∧ new.limit ≤ 1000000), (8, 1 ≤ new.tDisc ∧ new.tDisc ≤ 60000),
       (12, -65536000 ≤ new.offset ∧ new.offset ≤ 65536000)]
      (let old := dupOf s i
       let ws : List SealedWrite := [⟨0x0304, i, 12, leIv old.offset, leIv new.offset⟩]
       if sealedStatus s ws ≠ 0 then err s (sealedStatus s ws)
       else
         let s1 := sealedLog ws s
         let s2 := s1.setDup i { s1.dup i with cfgNext := some new }
         ok s2 (dupRecord s2 i new))

/-- TOD_CONFIG's record (R132). -/
def todRecord (t : TodCfg) : List Byte :=
  t.labelSrc.flatMap (le 1) ++ t.utcList.flatMap (le 1) ++ le 1 t.fmt0 ++ le 1 t.fmt1 ++ zeros 2 ++ le 4 t.baud0 ++
  le 4 t.baud1 ++ leI 2 t.hostOffset ++ le 1 t.hostLeap ++ zeros 1 ++ le 4 t.utcHold

/-- A ToD source code: UART, TIME slot or host. -/
def todCode (c : Nat) : Bool := (decide (1 ≤ c) && decide (c ≤ 2)) || (decide (8 ≤ c) && decide (c ≤ 0x13)) || decide (c = 0x20)

/-- UTC_LIST as written: 0x00 ends the list (R132). -/
def utcListOf (l : List Nat) : List Nat := l.takeWhile (· ≠ 0)

/-- The record of a TOD_CONFIG payload (R132). -/
def todParse (p : List Byte) : TodCfg :=
  { labelSrc := (List.range 8).map (fun i => rd p i 1), utcList := (List.range 8).map (fun i => rd p (8 + i) 1)
    fmt0 := rd p 16 1, fmt1 := rd p 17 1, baud0 := rd p 20 4, baud1 := rd p 24 4, hostOffset := rdI p 28 2
    hostLeap := rd p 30 1, utcHold := rd p 32 4 }

/-- The TOD_CONFIG record as configuration (R594). -/
def todOf (s : State) : TodCfg := s.ref.todNext.getD s.ref.tod

/-- TOD_CONFIG (R132). -/
def bodyTodConfig : Body := fun c s =>
  let p := c.req.payload
  if p = [] then ok s (todRecord (todOf s))
  else if p.length ≠ 36 then badLen s
  else
    let new := todParse p
    let n := (utcListOf new.utcList).length
    checked s
      ((List.range 8).map (fun i => (i, rd p i 1 == 0 || todCode (rd p i 1))) ++
       (List.range n).map (fun i => (8 + i, todCode (rd p (8 + i) 1))) ++
       [(16, decide (new.fmt0 < 4)), (17, decide (new.fmt1 < 4)), zeroAt p 18 2,
        (20, decide (9600 ≤ new.baud0 ∧ new.baud0 ≤ 921600)), (24, decide (9600 ≤ new.baud1 ∧ new.baud1 ≤ 921600)),
        (30, decide (new.hostLeap ≤ 2)), zeroAt p 31 1, (32, decide (new.utcHold ≤ 2592000))])
      (let old := todOf s
       let ws : List SealedWrite := [⟨0x0305, 0, 28, leI 2 old.hostOffset, leI 2 new.hostOffset⟩]
       if sealedStatus s ws ≠ 0 then err s (sealedStatus s ws)
       else
         let s1 := sealedLog ws s
         ok { s1 with ref := { s1.ref with todNext := some new } } (todRecord new))

/-- Code of a slot's state (R133). -/
def qualCode (q : QualState) : Nat :=
  match q with | .disabled => 0 | .unqualified => 1 | .qualifying => 2 | .qualified => 3

/-- CAUSE of a slot (R134): the lowest code that holds. An activity failure of the time its channel was unlocked is 0x05
while the channel is. A slot that one disagreeing edge returned to UNQUALIFIED (R121) shows DUPLEX_DISC until it is
QUALIFYING again (DEDUCED). An UNQUALIFIED slot whose lost prerequisite has returned before its next evaluation fits no code:
the model reports 0x00 (DESIGN CHOICE). Log entry 21. -/
def causeOf (s : State) (i : Nat) : Nat :=
  let x := s.slot i
  if x.st.state = .disabled then 1
  else if x.st.state = .qualified then 0
  else if !x.st.evaluated then 2
  else if !s.tim.tb.ovenHigh then 3
  else if x.act.failed && (chanOk s i || !x.act.byUnlock) then 4
  else if !chanOk s i then 5
  else if pairLatched s i || (x.disagreed && (boundPair s i).isSome) then 6
  else if slotKind s i = 0 && !labelValid s i then 7
  else if effUnc s i = unbounded then 8
  else if x.st.rejected then 9
  else if x.st.outsideA then 0x0A
  else 0

/-- A slot's record in REF_STATUS (R133). -/
def refStatusSlot (s : State) (i : Nat) : List Byte :=
  let x := s.slot i
  le 1 i ++ le 1 (qualCode x.st.state) ++ le 1 (causeOf s i) ++
  le 1 (flag 0 x.st.inBand + flag 1 x.st.widened + flag 2 x.st.phaseAlarm + flag 3 x.st.held +
    flag 4 (decide (i < 8) && (s.dup (i / 2)).unchecked) + flag 5 (decide (slotKind s i = 0) && labelValid s i) +
    flag 6 x.st.prov + flag 7 (decide (s.sel.st.selected = some i))) ++
  le 2 x.st.timer ++ le 2 x.st.disqual ++
  (match x.freq with | some f => leF f | none => le 8 noInterval) ++ leOptIv x.phase ++ le 4 (effUnc s i) ++
  le 4 x.act.missed ++ le 4 x.act.extra ++ le 4 (min sat32 ((s.now - max x.changedAt s.ref.since) / 1000000000)) ++
  le 2 x.st.phaseHits ++ le 2 x.st.transients

/-- REF_STATUS's reply for a bitmap (R133). -/
def refStatus (s : State) (map : Nat) : List Byte :=
  leI 2 s.utc.offset ++ le 1 (flag 0 s.utc.valid + flag 1 s.utc.leap61 + flag 2 s.utc.leap59) ++ le 1 s.utc.source ++
  le 4 s.utc.refused ++ le 4 s.ref.conflicts ++ le 4 s.ref.discarded ++
  ((List.range numSlots).filter (fun i => bit map i)).flatMap (refStatusSlot s)

/-- REF_STATUS (R133). -/
def bodyRefStatus : Body := fun c s =>
  let p := c.req.payload
  if p.length ≠ 4 then badLen s else checked s [(0, rd p 0 4 < 2 ^ 20)] (ok s (refStatus s (rd p 0 4)))

/-- ACTIVITY_WINDOW_CLOSE (R111): the prediction's window has closed without an event. -/
def activityWindowClose (i : Nat) (s : State) : State :=
  let x := s.slot i
  match x.act.predict with
  | none => s
  | some q =>
    if !x.cfg.enable || x.st.held || decide (s.acc ≤ q + slotPeriodFt s i / 4) then s
    else
      dropLost (refreshUnchecked (s.setSlot i { x with
        act := activityMiss (slotPeriodFt s i) x.lim.actMiss (!chanOk s i) x.act }))

/-- A slot's written configuration takes effect at its evaluation (R119, R128). -/
def applyWritten (i : Nat) (s : State) : State :=
  let x := s.slot i
  s.setSlot i { x with cfg := x.cfgNext.getD x.cfg, cfgNext := none, lim := x.limNext.getD x.lim, limNext := none }

/-- A pair's written record takes effect (R120, R122). -/
def applyDuplex (s : State) (i : Nat) : State :=
  let d := s.dup i
  match d.cfgNext with
  | none => s
  | some n =>
    let d1 := { d with cfg := n, cfgNext := none }
    if n.bind = d.cfg.bind then s.setDup i d1
    else
      let s1 := refreshUnchecked (s.setDup i { d1 with run := 0, latched := false, waiting := none })
      if n.bind then
        (s1.setChan (2 * i) { s1.chan (2 * i) with edges := 0 }).setChan (2 * i + 1) { s1.chan (2 * i + 1) with edges := 0 }
      else s1

/-- TOD_CONFIG takes effect. -/
def applyTod (s : State) : State := { s with ref := { s.ref with tod := s.ref.todNext.getD s.ref.tod, todNext := none } }

/-- The frequency monitor's estimate at an evaluation (R112): the slope of the phases of the last FREQ_WINDOW seconds, as
a fraction; a fast reference's phase falls. -/
def freqEstimate (x : Slot) (at_ : FieldTime) : Option (Int × Nat) :=
  let pts := x.pts.filter (fun p => decide (at_ ≤ p.at_ + x.lim.freqWindow * s1) && decide (p.at_ ≤ at_))
  let l := lineOf (pts.map (fun p => ((p.at_ : Int) - at_, p.phase * 2 ^ 16)))
  if l.n < 2 ∨ l.den = 0 then none else some (-l.slopeNum, l.den.toNat)

/-- |offset| is at most n units of 0.01 ppm. -/
def withinLimit (e : Int × Nat) (n : Nat) : Bool := decide (e.1.natAbs * 10 ^ 8 ≤ n * e.2)

/-- Wait-to-restore starts as a slot becomes QUALIFIED (R135): its length is fixed then, and later policy leaves it (R156). -/
def startWtr (s : State) (x : Slot) : Slot :=
  let w := if s.osc.mState = .holdover then s.sel.policy.wtrHoldover else s.sel.policy.wtr
  { x with wtrEnd := some (s.now + w * 1000000000), wtrRun := true }

/-- One slot's evaluation (R112, R114, R116 to R119). `restart` says a write restarts a QUALIFYING slot's timer. -/
def evaluate (restart : Bool) (s : State) (i : Nat) : State :=
  let x := s.slot i
  if !x.cfg.enable || inSafe s 0 i then s.setSlot i (toState s.now s.acc x .disabled)
  else if x.st.held then s
  else
    let e := freqEstimate x s.acc
    let warm := s.tim.tb.warmup
    let wide := if warm then x.lim.warmupAllow else 0
    let inA := match e with | some v => withinLimit v (x.lim.accept + wide) | none => false
    let inJ := match e with | some v => withinLimit v (x.lim.reject + wide) | none => true
    let x1 := { x with
      freq := e.map (fun v => divNearI (v.1 * 2 ^ 48) v.2)
      st := { x.st with evaluated := true, widened := warm, outsideA := !inA, rejected := x.st.rejected && !inA } }
    let s1 := s.setSlot i x1
    match x.st.state with
    | .unqualified =>
      if prereqs s1 i false && inA then s.setSlot i (toState s.now s.acc x1 .qualifying) else s1
    | .qualifying =>
      if prereqs s1 i true && inA then
        let t := if restart then 0 else x1.st.timer + 1
        if t ≥ x1.lim.qualPeriod then s.setSlot i (startWtr s (toState s.now s.acc x1 .qualified))
        else s.setSlot i { x1 with st := { x1.st with timer := t } }
      else s.setSlot i (dropSlot s.now s.acc x1)
    | .qualified =>
      if !keeps s1 i then s.setSlot i (dropSlot s.now s.acc x1)
      else if !inJ then
        let y := dropSlot s.now s.acc x1
        s.setSlot i { y with st := { y.st with rejected := true } }
      else s.setSlot i { x1 with st := { x1.st with inBand := !inA } }
    | .disabled => s.setSlot i (toState s.now s.acc x1 .unqualified)

/-- A write restarts a QUALIFYING slot's timer (R119). -/
def timerRestart (x : Slot) : Bool :=
  match x.limNext with
  | some l => decide (l.accept ≠ x.lim.accept) || decide (l.qualPeriod ≠ x.lim.qualPeriod) ||
      decide (l.warmupAllow ≠ x.lim.warmupAllow)
  | none => false

/-- FREQ_EVALUATION (R111, R112, R116): 500 ms after each second. -/
def freqEvaluation (s : State) : State :=
  if s.acc < s.ref.nextEval then s
  else
    let restarts := (List.range numSlots).map (fun i => timerRestart (s.slot i))
    let s1 := (List.range 4).foldl applyDuplex ((List.range numSlots).foldl (fun s i => applyWritten i s) (applyTod s))
    let s2 := (List.range numSlots).foldl (fun s i => evaluate (restarts.getD i false) s i) s1
    { s2 with ref := { s2.ref with nextEval := (s.acc + s1half) / s1ft * s1ft + s1half } }
where
  /-- Half a second of field time. -/
  s1half : FieldTime := 500 * ms1
  /-- One second of field time. -/
  s1ft : FieldTime := 1000 * ms1

/-- What a ToD message says (R125, R126): the second it labels, a UTC offset, a leap announcement. -/
structure TodParsed where
  second : Nat
  offset : Option Int
  leap : Option LeapAnn
  deriving DecidableEq, Repr

/-- The module's binary ToD frame (R126). -/
def parseBinary (p : List Byte) : Option TodParsed :=
  if p.length ≠ 24 ∨ rdBe p 0 2 ≠ 0xA54B ∨ rd p 2 1 ≠ 1 ∨ rd p 3 1 ≠ 24 ∨ rdBe p 22 2 ≠ crc16 (p.take 22) then none
  else
    let off := rdBeI p 12 2
    let f := rd p 14 1
    let mjd := rdBe p 16 4
    let ann : Option LeapAnn :=
      if (bit f 1 || bit f 2) && mjd != 0 then some ⟨mjd - 40587 + 1, bit f 1⟩ else none
    some ⟨rdBe p 4 8, if bit f 0 then some off else none, ann⟩

/-- A decimal digit of an ASCII byte. -/
def digit (b : Byte) : Option Nat := if 0x30 ≤ b.toNat ∧ b.toNat ≤ 0x39 then some (b.toNat - 0x30) else none

/-- A decimal number of ASCII bytes, all digits. -/
def decimal (l : List Byte) : Option Nat :=
  if l = [] then none else l.foldl (fun a b => match a, digit b with | some n, some d => some (10 * n + d) | _, _ => none) (some 0)

/-- A hexadecimal digit of an ASCII byte. -/
def hexDigit (b : Byte) : Option Nat :=
  if 0x30 ≤ b.toNat ∧ b.toNat ≤ 0x39 then some (b.toNat - 0x30)
  else if 0x41 ≤ b.toNat ∧ b.toNat ≤ 0x46 then some (b.toNat - 0x37)
  else if 0x61 ≤ b.toNat ∧ b.toNat ≤ 0x66 then some (b.toNat - 0x57) else none

/-- Split at a separator byte. -/
def splitOn (sep : Byte) : List Byte → List (List Byte)
  | [] => [[]]
  | b :: t => if b = sep then [] :: splitOn sep t else match splitOn sep t with
    | [] => [[b]]
    | h :: r => (b :: h) :: r

/-- An upper-case letter. -/
def letter (b : Byte) : Bool := decide (0x41 ≤ b.toNat) && decide (b.toNat ≤ 0x5A)

/-- The part .ss of hhmmss.ss (R125): a point and two digits, which label no part of a second. -/
def fractionOk (l : List Byte) : Bool :=
  match l with
  | [0x2E, a, b] => (digit a).isSome && (digit b).isSome
  | _ => false

/-- Days of a month. -/
def monthDays (y m : Nat) : Nat := (if m = 12 then daysOf (y + 1) 1 1 else daysOf y (m + 1) 1) - daysOf y m 1

/-- A ZDA sentence (R125): `$ttZDA,hhmmss.ss,dd,mm,yyyy,…*hh`, its checksum over the bytes between `$` and `*`. -/
def parseZda (utcOffset : Int) (leap61 : Bool) (p : List Byte) : Option TodParsed :=
  match p with
  | 0x24 :: rest =>
    let body := rest.takeWhile (· ≠ 0x2A)
    let sum := rest.drop (body.length + 1)
    let x := body.foldl (fun a b => a ^^^ b) 0
    match sum with
    | h :: l :: _ =>
      if hexDigit h = some (x.toNat / 16) ∧ hexDigit l = some (x.toNat % 16) then
        match splitOn 0x2C body with
        | tag :: tm :: dd :: mm :: yy :: _ =>
          match decimal (tm.take 2), decimal ((tm.drop 2).take 2), decimal ((tm.drop 4).take 2), decimal dd, decimal mm,
              decimal yy with
          | some hh, some mi, some ss, some d, some m, some y =>
            if tag.drop 2 = [0x5A, 0x44, 0x41] ∧ tag.length = 5 ∧ (tag.take 2).all letter ∧ fractionOk (tm.drop 6) ∧
                dd.length = 2 ∧ mm.length = 2 ∧ yy.length = 4 ∧ hh < 24 ∧ mi < 60 ∧ (ss < 60 ∨ (ss = 60 ∧ leap61)) ∧
                1 ≤ d ∧ 1 ≤ m ∧ m ≤ 12 ∧ 1970 ≤ y ∧ d ≤ monthDays y m then
              some ⟨((daysOf y m d * 86400 + hh * 3600 + mi * 60 + ss : Nat) + utcOffset).toNat, none, none⟩
            else none
          | _, _, _, _, _, _ => none
        | _ => none
      else none
    | _ => none
  | _ => none

/-- A discarded ToD message is counted (R124). -/
def discardTod (s : State) : State := { s with ref := { s.ref with discarded := satInc sat32 s.ref.discarded } }


/-- The PHASE slots that a UART labels. -/
def uartSlots (s : State) (u : Nat) : List Nat :=
  (List.range 8).filter (fun i => decide (slotKind s i = 0) && decide (labelSrc s i = u + 1))

/-- PRECEDING mode (R124): the slot's last edge at least 10 ms and less than 990 ms before the message's last stop bit. -/
def precedingEdge (x : Slot) (stop : FieldTime) : Option FieldTime :=
  (x.edges.find? (fun t => decide (t + 10 * ms1 ≤ stop))).filter (fun t => decide (stop < t + 990 * ms1))

/-- Label one slot's edge from a PRECEDING-mode message (R124). -/
def labelPreceding (second : Nat) (stop : FieldTime) (s : State) (i : Nat) : State :=
  let x := s.slot i
  match precedingEdge x stop with
  | some t =>
    let ph := satI (divTrunc ((t : Int) - (second * s1 : Nat)) (2 ^ 16) - x.cfg.calDelay)
    s.setSlot i { x with edges := x.edges.filter (· ≠ t), undelivered := x.undelivered ++ [⟨t, ph, x.ub⟩] }
  | none => s

/-- A NEXT-mode message waits for the first edge of each of its slots (R124). -/
def labelNext (second : Nat) (stop : FieldTime) (s : State) (i : Nat) : State :=
  s.setSlot i { s.slot i with nextLabel := some (second, stop) }

/-- A NEXT-mode message that has labelled no edge is discarded and counted (R124). -/
def dropWaiting (u : Nat) (s : State) : State :=
  if (s.uart u).waiting.isSome then discardTod (s.setUart u { s.uart u with waiting := none }) else s

/-- A NEXT-mode message whose 990 ms have passed without an edge (R124). -/
def nextLapsed (s : State) (u : Nat) : State :=
  match (s.uart u).waiting with
  | some w => if w.stop + 990 * ms1 < s.acc then dropWaiting u s else s
  | none => s

/-- UART_MESSAGE (R123 to R126): `stop` is the instant of the message's last stop bit. -/
def uartMessage (u : Nat) (bytes : List Byte) (stop : FieldTime) (s : State) : State :=
  let fmt := if u = 0 then s.ref.tod.fmt0 else s.ref.tod.fmt1
  let parsed := if bit fmt 0 then parseZda s.utc.offset s.utc.leap61 bytes else parseBinary bytes
  let slots := uartSlots s u
  match parsed with
  | none => discardTod s
  | some m =>
    if bit fmt 1 then
      if slots.any (fun i => (precedingEdge (s.slot i) stop).isSome) then
        dropLost (todTaken u m.second m.offset m.leap (slots.foldl (labelPreceding m.second stop) s))
      else discardTod s
    else if slots = [] then discardTod s
    else
      let t := slots.foldl (labelNext m.second stop) (dropWaiting u s)
      t.setUart u { t.uart u with waiting := some ⟨m.second, stop, m.offset, m.leap⟩ }

/-- UART_LABEL_TIMEOUT (R123). -/
def uartLabelTimeout (u : Nat) (s : State) : State :=
  let x := s.uart u
  if x.last.isSome ∧ x.lastAt + 3000000000 ≤ s.now then
    dropLost (s.setUart u { x with valid := false, run := 0, last := none })
  else s

/-- UTC_HOLD_EXPIRY (R127): the last offset is kept. -/
def utcHoldExpiry (s : State) : State :=
  if s.utc.valid ∧ s.utc.lastSupplied + s.ref.tod.utcHold * 1000000000 ≤ s.now then
    dropLost { s with utc := { s.utc with valid := false, source := 0 } }
  else s

/-- Nuheif keeps the stored offset (R36): logged as a parameter change of opcode 0x0305, index 0xFFFF. -/
def storeOffset (s : State) : State :=
  let ws : List SealedWrite := [⟨0x0305, 0xFFFF, 0, leI 2 s.utc.stored, leI 2 s.utc.offset⟩]
  let s1 := sealedLog ws s
  { s1 with utc := { s1.utc with stored := s1.utc.offset } }

/-- LEAP_SECOND (R38): at its marker the offset changes and the indicator clears. -/
def leapSecond (s : State) : State :=
  match s.utc.announced with
  | none => s
  | some a =>
    if (s.utc.leap61 || s.utc.leap59) && decide (leapSec s a * s1 ≤ s.acc) then
      let s1 := { s with utc := { s.utc with
        offset := s.utc.offset + (if a.positive then 1 else -1)
        leap61 := false, leap59 := false, announced := none, offers := [], leapOffers := [] } }
      if s.utc.valid then storeOffset s1 else s1
    else s

/-- A ToD source is valid for UTC (R123, R127). -/
def todValid (s : State) (code : Nat) : Bool :=
  if code = 1 ∨ code = 2 then (tget {} s.ref.uarts (code - 1)).valid
  else if code = 0x20 then s.sel.secondsSet
  else !(s.slot code).act.failed


/-- A source is a UART that receives ZDA, which carries neither an offset nor a leap announcement (R125). -/
def zdaSource (s : State) (code : Nat) : Bool :=
  (code == 1 && bit s.ref.tod.fmt0 0) || (code == 2 && bit s.ref.tod.fmt1 0)

/-- The offset a valid source has supplied within UTC_HOLD, with when; the host's is HOST_UTC_OFFSET, and GNSS supplies its
own once page 18 has been received (R92, R127, R132). -/
def utcOffer (s : State) (code : Nat) : Option (Int × Nat) :=
  if !todValid s code || zdaSource s code then none
  else if code = 0x20 then some (s.ref.tod.hostOffset, s.now)
  else if code = 0x08 then s.gnss.page18.map (fun q => (page18Offset (ftSec s.acc) q, s.now))
  else
    let o := tget ((0 : Int), 0) s.utc.offers code
    if o.2 = 0 ∨ o.2 - 1 + s.ref.tod.utcHold * 1000000000 < s.now then none else some (o.1, o.2 - 1)

/-- The UTC day in progress: in the second 23:59:60 of the announced leap it is still the day before the event (R38). -/
def utcDay (s : State) : Nat :=
  let d := (((ftSec s.acc : Int) - s.utc.offset) / 86400).toNat
  match s.utc.announced with
  | some a => if s.utc.leap61 && a.positive && decide (d = a.day) && decide (ftSec s.acc < leapSec s a) then d - 1 else d
  | none => d

/-- The end of the UTC month of a field time, as a leap announcement of the host (R132). -/
def hostLeap (s : State) : Option LeapAnn :=
  if s.ref.tod.hostLeap = 0 then none
  else
    let positive := decide (s.ref.tod.hostLeap = 1)
    let d := civil (utcDay s)
    let next := if d.2.1 = 12 then daysOf (d.1 + 1) 1 1 else daysOf d.1 (d.2.1 + 1) 1
    some ⟨next, positive⟩

/-- A valid source's leap announcement (R37, R127). -/
def leapOf (s : State) (code : Nat) : Option LeapAnn :=
  if !todValid s code || zdaSource s code then none
  else if code = 0x20 then hostLeap s
  else (s.utc.leapOffers.find? (fun e => e.1 == code)).map (·.2)

/-- The field-time second of 12:00:00 UTC on the day of a leap event (R37). -/
def leapNoon (a : LeapAnn) (offset : Int) : Int := ((a.day * 86400 : Nat) : Int) + offset - 43200

/-- The announcement whose marker comes first; of two at one marker the one named first. -/
def nearestLeap (s : State) (l : List LeapAnn) : Option LeapAnn :=
  l.foldl (fun a x => match a with | none => some x | some y => if leapSec s x < leapSec s y then some x else a) none

/-- UTC state at a computation (R36, R37, R127); a leap second whose marker has come is made first (R38). -/
def utcCompute (s0 : State) : State :=
  let s := leapSecond (nextLapsed (nextLapsed s0 0) 1)
  let l := utcListOf s.ref.tod.utcList
  let src := l.find? (fun c => (utcOffer s c).isSome)
  let s1 := match src.bind (fun c => (utcOffer s c).map (fun o => (c, o))) with
    | none => { s with utc := { s.utc with source := 0 } }
    | some (c, o) =>
      let newest := l.foldl (fun a k => match utcOffer s k with | some v => max a v.2 | none => a) 0
      let u := { s.utc with offset := o.1, valid := true, source := c, lastSupplied := newest }
      let s1 := { s with utc := u }
      if !s.utc.valid && decide (o.1 ≠ s.utc.stored) then storeOffset s1 else s1
  let later := match src with | some c => (l.dropWhile (· ≠ c)).drop 1 | none => []
  let diff := later.filter (fun c => match utcOffer s c with | some o => decide (o.1 ≠ s1.utc.offset) | none => false)
  let fresh := diff.filter (fun c => !bit s.utc.differing c)
  let ann := nearestLeap s1 ((l.filterMap (leapOf s)).filter (fun a => decide (ftSec s.acc < leapSec s1 a)))
  let due := match ann with | some a => decide (leapNoon a s1.utc.offset ≤ ftSec s.acc) | none => false
  { s1 with
    utc := { s1.utc with
      announced := ann, differing := diff.foldl setBit 0, conflict := !diff.isEmpty
      leap61 := due && (ann.map (·.positive)).getD false, leap59 := due && !(ann.map (·.positive)).getD true }
    ref := { s1.ref with conflicts := min sat32 (s1.ref.conflicts + fresh.length) } }

/-- REF_CONFIG (R129). -/
def execRefConfig (rq : Request) (s : State) : Out := kcpRow 0x0301 (leastPriv s 0x0301 rq.payload) bodyRefConfig rq s
/-- REF_STATUS (R133). -/
def execRefStatus (rq : Request) (s : State) : Out := kcpRow 0x0302 (leastPriv s 0x0302 rq.payload) bodyRefStatus rq s
/-- REF_LIMITS (R130). -/
def execRefLimits (rq : Request) (s : State) : Out := kcpRow 0x0303 (leastPriv s 0x0303 rq.payload) bodyRefLimits rq s
/-- REF_DUPLEX (R131). -/
def execRefDuplex (rq : Request) (s : State) : Out := kcpRow 0x0304 (leastPriv s 0x0304 rq.payload) bodyRefDuplex rq s
/-- TOD_CONFIG (R132). -/
def execTodConfig (rq : Request) (s : State) : Out := kcpRow 0x0305 (leastPriv s 0x0305 rq.payload) bodyTodConfig rq s
/-- REF_EVENT (R108). -/
def execRefEvent (slot : Nat) (ev : SlotEvent) (s : State) : Out := guardUnit (slot < numSlots) s (done s (refEvent slot ev s))
/-- ACTIVITY_WINDOW_CLOSE (R111). -/
def execActivityWindowClose (slot : Nat) (s : State) : Out :=
  guardUnit (slot < numSlots) s (done s (activityWindowClose slot s))
/-- FREQ_EVALUATION (R116). -/
def execFreqEvaluation (s : State) : Out := done s (freqEvaluation s)
/-- UART_MESSAGE (R124). -/
def execUartMessage (uart : Nat) (bytes : List Byte) (stop : FieldTime) (s : State) : Out :=
  guardUnit (uart < 2) s (done s (uartMessage uart bytes stop s))
/-- UART_LABEL_TIMEOUT (R123). -/
def execUartLabelTimeout (uart : Nat) (s : State) : Out := guardUnit (uart < 2) s (done s (uartLabelTimeout uart s))
/-- UTC_HOLD_EXPIRY (R127). -/
def execUtcHoldExpiry (s : State) : Out := done s (utcHoldExpiry s)
/-- LEAP_SECOND (R38). -/
def execLeapSecond (s : State) : Out := done s (leapSecond s)

end Sys2Proof.Machine
end

