-- ==== Sys2Proof/Machine/Sealed.lean ====
section
/-! DEFINITION. The sealed parameters in canonical order and their digest (R195, R197), the seal-break window's closing
(R198), the metrology identification (R207). -/

namespace Sys2Proof.Machine
open Sys2Proof

/-- One sealed field: writing opcode, index, offset, value (R197). -/
abbrev SealedField := Nat × Nat × Nat × List Byte

/-- Sealed fields of one record from offset and value pairs. -/
def fieldsAt (op idx : Nat) (l : List (Nat × List Byte)) : List SealedField := l.map (fun f => (op, idx, f.1, f.2))

/-- Sealed fields cut from a record. -/
def fieldsOf (op idx : Nat) (fields : List (Nat × Nat)) (rec_ : List Byte) : List SealedField :=
  fields.map (fun f => (op, idx, f.1, (rec_.drop f.1).take f.2))

/-- Sealed fields of a furrow port (R269). -/
def furSealed (c : FurCfg) : List (Nat × List Byte) :=
  [(40, leIv c.boardTx), (48, leIv c.boardRx), (56, le 4 c.boardUnc)]

/-- A furrow port's record as configuration (R594). -/
def furCfgOf (s : State) (i : Nat) : FurCfg := (s.port i).cfgNext.getD (s.port i).cfg

/-- The asymmetry rows a port has, 2 × RATE + FEC (R388, R404): 10G without FEC, 25G with either, 50G and 100G with. -/
def asymRows : List Nat := [0, 2, 3, 5, 7]

/-- Sealed fields of an Ethernet port, its rows in ascending order at each offset (R397, R404). -/
def ethSealed (x : Eth) : List (Nat × List Byte) :=
  asymRows.map (fun r => (4, le 4 (tget {} x.rows r).unc)) ++
  asymRows.map (fun r => (8, leIv (tget {} x.rows r).boardTx)) ++
  asymRows.map (fun r => (16, leIv (tget {} x.rows r).boardRx)) ++ [(24, leIv x.linkAsym)]

/-- The sealed port fields that Nuheif delivers to the S and F tiles (R196). -/
def portSealedFields (s : State) : List SealedField :=
  (List.range 1024).flatMap (fun i => fieldsAt 0x0701 i (furSealed (furCfgOf s i))) ++
  (List.range 16).flatMap (fun i => fieldsAt 0x0805 i (ethSealed (s.ethP i)))

/-- The sealed fields of the M tile's own groups in canonical order (R195, R197). -/
def mSealedFields (s : State) : List SealedField :=
  fieldsOf 0x0102 0 [(0, 8), (8, 2), (12, 4)] (leF s.tim.cfg.driftLimit ++ le 2 s.tim.cfg.windowCount ++ zeros 2 ++ le 4 s.tim.cfg.holdTime) ++
  fieldsAt 0x0201 0 (gnssSealed s.gnss.cfg) ++ fieldsAt 0x0204 0 (positionFields s.gnss.position) ++
  (List.range numSlots).flatMap (fun i => fieldsAt 0x0301 i (refSealed (refCfgOf s i))) ++
  (List.range 4).flatMap (fun i => fieldsAt 0x0304 i [(12, leIv (dupOf s i).offset)]) ++
  fieldsAt 0x0305 0 [(28, leI 2 (todOf s).hostOffset)] ++ fieldsAt 0x0305 0xFFFF [(0, leI 2 s.utc.stored)] ++
  (List.range numOsc).flatMap (fun i => fieldsOf 0x0501 i oscSealed (oscRecord i (s.osci i).cfg)) ++
  fieldsOf 0x0501 0xFF ensSealed (ensRecord s.osc.ens) ++
  (List.range numOsc).flatMap (fun i =>
    if (s.osci i).written = [] then [] else fieldsAt 0x0503 i [(0, (s.osci i).written)]) ++
  fieldsAt 0x0504 0 [(1, le 1 s.osc.learn.mode), (2, le 2 s.osc.learn.lookback)] ++
  fieldsAt 0x0602 0 [(0, le 4 s.bnd.cfg.warmTerm), (8, leF s.bnd.cfg.warmSlope)]

/-- A field as the digest takes it (R197). -/
def fieldBytes (f : SealedField) : List Byte :=
  le 2 f.1 ++ le 2 f.2.1 ++ le 1 f.2.2.1 ++ le 1 f.2.2.2.length ++ f.2.2.2

/-- The sealed-parameter digest (R197). -/
def sealedDigest (s : State) : List Byte := sha384 ((mSealedFields s ++ portSealedFields s).flatMap fieldBytes)

/-- Close the seal-break window, with its SEAL_CLOSE entry (R198); a window opened while PARAM_FAULT holds ends the
condition with its complete copy, from then on the parameters in force (R195). -/
def closeWindow (detail : Nat) (s : State) : State :=
  let s1 := logPut 0x02 detail 0 (leVal ((sealedDigest s).take 8)) s
  let s2 := if s.sealing.windowFault then setCond 0 4 false s1 else s1
  { s2 with sealing := { s2.sealing with
      windowAt := none, windowFault := false, paramFault := s.sealing.paramFault && !s.sealing.windowFault } }

/-- The running Nuheif image (R541). -/
def nuheifImage (s : State) : Image := s.pwr.m.run

/-- SEQ of the head entry; 0 before the first. -/
def logNewest (s : State) : Nat := s.log.nextSeq - 1

/-- The metrology identification (R207, R213). -/
def metrologyId (s : State) (verified : Bool) : List Byte :=
  ascii 16 "KORIDE-KTG1024-M" ++ le 4 (nuheifImage s).version ++ le 4 (sealCount s) ++ fit 48 (nuheifImage s).digest ++
  sealedDigest s ++ le 4 (logNewest s) ++
  le 4 (flag 0 (windowOpen s) + flag 1 (armed s) + flag 2 s.log.fault + flag 3 s.sealing.verifyN.stuck +
    flag 4 s.sealing.sealN.stuck + flag 5 verified + flag 6 s.sealing.paramFault) ++
  s.log.headHash ++ le 8 Config.serial

/-- SEALED_PORT_FIELDS (R196): the tiles' read-only copies are those of the store. -/
def sealedPortFields (s : State) : State := { s with bus := { s.bus with portCopies := portSealedFields s } }

/-- SEALED_PORT_FIELDS (R196). -/
def execSealedPortFields (s : State) : Out := done s (sealedPortFields s)

end Sys2Proof.Machine
end

