-- ==== Sys2Proof/Machine/Bnd.lean ====
section
/-! DEFINITION. The bound computer, the M-tile state at a computation, clockClass, holdover entry and growth
(R174 to R176, R183 to R194, R206, R42). -/

namespace Sys2Proof.Machine
open Sys2Proof

/-- Bits of a base-2 logarithm's fraction, one squaring each; the mantissa has 63 fraction bits. -/
def log2Go : Nat → Nat → Nat → Nat
  | 0, _, acc => acc
  | k + 1, m, acc =>
    let q := m * m / 2 ^ 63
    if q ≥ 2 ^ 64 then log2Go k (q / 2) (2 * acc + 1) else log2Go k q (2 * acc)

/-- The base-2 logarithm of a number, 32 fraction bits. -/
def log2Fx (n : Nat) : Nat := n.log2 * 2 ^ 32 + log2Go 32 (n * 2 ^ 63 / 2 ^ n.log2) 0

/-- 2 to the power of 32 fraction bits, taken from the top one; `root` is the square root of the last factor (2^64). -/
def exp2Go : Nat → Nat → Nat → Nat → Nat
  | 0, _, _, acc => acc
  | k + 1, f, root, acc =>
    let r := isqrtUp (root * 2 ^ 64)
    exp2Go k f r (if f.testBit k then divUp (acc * r) (2 ^ 64) else acc)

/-- 2 to the power of a number with 32 fraction bits, rounded up. -/
def exp2Fx (x : Nat) : Nat := divUp (exp2Go 32 (x % 2 ^ 32) (2 * 2 ^ 64) (2 ^ 64) * 2 ^ (x / 2 ^ 32)) (2 ^ 64)

/-- σ_i(τ), log-log between the estimates at 2^k s (R190), LSB 2^-64; τ in 2^-32 ns. -/
def sigmaAt (s : State) (i : Nat) (tau : FieldTime) : Nat :=
  if tau ≤ s1 then sigmaK s i 0
  else if tau ≥ 2 ^ 17 * s1 then sqrtUp (sigmaK s i 17 * sigmaK s i 17 * tau) (2 ^ 17 * s1)
  else
    let k := (tau / s1).log2
    let a := log2Fx (sigmaK s i k)
    let b := log2Fx (sigmaK s i (k + 1))
    let f := log2Fx tau - log2Fx (2 ^ k * s1)
    -- the truncations of the three logarithms are made good, so that the estimate is never low (R183)
    exp2Fx ((a : Int) + ((b : Int) - a) * f / 2 ^ 32 + 4 + (((b : Int) - a).natAbs * 4 / 2 ^ 32 + 1 : Nat)).toNat

/-- The part of a holdover's growth that the stability gives: 6 σ_ens(τ) τ in 2^-96 ns (R190). -/
def noiseGrowth (s : State) (tau : FieldTime) : Nat :=
  let v := ((List.range numOsc).map (fun i => ((s.osci i).w * sigmaAt s i tau) ^ 2)).sum
  sqrtUp (36 * v * tau * tau) (s.osc.wDen * s.osc.wDen)

/-- ΔT_i for a member (R190, R191) in 1/128 °C, and whether the range stands in for a reading. -/
def deltaTemp (s : State) (g : Growth) (i : Nat) : Nat × Bool :=
  let c := (s.osci i).cfg
  if c.tempSource = 0 then (0, false)
  else match g.temps.getD i none, tempSample s i with
    | none, _ => ((c.rangeHi - c.rangeLo).toNat, true)
    | some t, none => (max (c.rangeLo - t).natAbs (c.rangeHi - t).natAbs, true)
    | some t, some v => ((v - t).natAbs, false)

/-- One member's share of W before its weight: hw_b (v − t_e) + hw_c ΔT + 2 (|c| + hw_c) TEMP_UNC, over
86,400 s × 128 (R190). -/
def memberW (s : State) (g : Growth) (v : FieldTime) (i : Nat) : Nat :=
  let m := (s.osci i).inForce
  let hb := (ageingHw s i m).toNat
  let hc := (tempcoHw s i m).toNat
  let c := (s.osci i).cfg
  hb * (v - g.te) * 128 +
    (if c.tempSource = 0 then 0 else (hc * (deltaTemp s g i).1 + 2 * (m.tempco.natAbs + hc) * c.tempUnc) * 86400 * s1)

/-- W(v) in 2^-80, rounded up (R190, R191). -/
def growthW (s : State) (g : Growth) (v : FieldTime) : Nat :=
  let members := ((List.range numOsc).map (fun i => (s.osci i).w * memberW s g v i)).sum
  g.h0 + divUp (members * 2 ^ 32) (s.osc.wDen * (86400 * s1 * 128)) +
    ((if s.osc.conflict then s.osc.conflictBy else 0) +
      (if s.sel.st.rateClamp then (s.osc.rReq - s.osc.rate).natAbs else 0)) * 2 ^ 32

/-- The integral advances to the look-ahead instant with the larger of W at both ends (R190). -/
def advanceGrowth (s : State) (look : FieldTime) (g : Growth) : Growth :=
  if look ≤ g.upTo then g
  else
    let w := growthW s g look
    { g with integral := g.integral + max g.lastW w * (look - g.upTo), upTo := look, lastW := w }

/-- G in interval LSBs, rounded up (R190). -/
def growthG (s : State) (look : FieldTime) (g : Growth) : Nat :=
  divUp (g.integral + noiseGrowth s (look - g.te) * 2 ^ 16) (2 ^ 96)

/-- Successive spans of `n` values. -/
def spans (n : Nat) : Nat → List Freq → List (List Freq)
  | 0, _ => []
  | k + 1, l => l.take n :: spans n k (l.drop n)

/-- Six standard errors of the mean over spans of 1,000 values, in 2^-80 rounded up (R174, R190). -/
def stdErr6 (avg : Nat) (l : List Freq) : Nat :=
  let v := if avg ≤ 1 then l else (spans 1000 avg l).map (fun q => q.sum)
  let n := v.length
  let d := (n : Int) * (v.map (fun x => x * x)).sum - v.sum * v.sum
  sqrtUp (36 * d.toNat * 2 ^ 64) (n * n * (n - 1) * (if avg ≤ 1 then 1 else 10 ^ 6))

/-- Σ w_i hw_a,i in 2^-80, rounded up (R190). -/
def modelH0 (s : State) : Nat :=
  if s.osc.wDen = 0 then 0
  else divUp (((List.range numOsc).map (fun i => (s.osci i).w * (freqHw i (s.osci i).inForce).toNat)).sum * 2 ^ 32) s.osc.wDen

/-- The readings T_i(t_e) now. -/
def readings (s : State) : List (Option Int) := (List.range numOsc).map (tempSample s)

/-- A growth from `te` (R190). -/
def beginGrowth (s : State) (te : FieldTime) (b : Bound) (h0 : Nat) (temps : List (Option Int)) : Growth :=
  let g : Growth := { te := te, bEntry := b, upTo := te, h0 := h0, temps := temps }
  { g with lastW := growthW s g te }

/-- The window of R174: HOLD_AVG spans that end with the last computation HOLD_GUARD before the loss. -/
def lossWindow (s : State) : List RatePt :=
  (s.osc.hist.drop (s.osc.ens.holdGuard * 1000 - 1)).take (s.osc.ens.holdAvg * 1000)

/-- LOCKED throughout the window (R174). -/
def windowMet (s : State) : Bool :=
  decide ((lossWindow s).length = s.osc.ens.holdAvg * 1000) && (lossWindow s).all (·.locked)

/-- Enter HOLDOVER (R174, R175). -/
def enterHoldover (tk : FieldTime) (frozen : Freq) (fromModel : Bool) (h0 : Nat) (s : State) : State :=
  let s1 := logAt (tk / us1) 0x05 (if fromModel then 1 else 0) 0 (word64 frozen) s
  let g := beginGrowth s1 tk s.bnd.bound h0 (readings s1)
  { s1 with
    sel := { s1.sel with rSteer := frozen }
    osc := { s1.osc with
      mState := .holdover, entryAt := some tk, entryNow := s1.now, frozen := frozen, fromModel := fromModel
      count := satInc sat32 s1.osc.count }
    bnd := { s1.bnd with hold := some g } }

/-- Enter FREE-RUN (R174, R175): `b` is the bound of the entry. From HOLDOVER the rate goes on unchanged. -/
def enterFreeRun (b : Bound) (s : State) : State :=
  let s1 := logPut 0x08 0 0 b s
  { s1 with
    sel := { s1.sel with rSteer := 0 }
    osc := { s1.osc with
      mState := .freeRun, entryAt := none
      rBias := if s.osc.mState = .holdover then s1.osc.rBias + s1.sel.rSteer else s1.osc.rBias }
    bnd := { s1.bnd with hold := none } }

/-- The loss of the selected slot in LOCKED or ACQUIRING (R174). -/
def lossState (tk : FieldTime) (s : State) : State :=
  match s.osc.mState with
  | .locked =>
    if windowMet s then
      let l := (lossWindow s).map (·.integ)
      enterHoldover tk (divNearI l.sum l.length) false (stdErr6 s.osc.ens.holdAvg l) s
    else if (activeSet s).any (fun i => (s.osci i).inForce.valid) then enterHoldover tk 0 true (modelH0 s) s
    else enterFreeRun s.bnd.bound s
  | .acquiring =>
    if s.osc.acqFrom = .holdover then
      { s with sel := { s.sel with rSteer := s.osc.frozen }, osc := { s.osc with mState := .holdover } }
    else enterFreeRun s.bnd.bound s
  | _ => s

/-- The M-tile state at a computation (R57, R139, R174). -/
def mStateCompute (tk : FieldTime) (s : State) : State :=
  if s.osc.mState = .warmUp then
    if s.tim.tb.aplLock && s.tim.tb.ovenHigh then
      match s.sel.st.selected with
      | none => enterFreeRun s.bnd.bound s
      | some i => startSettle i { s with
          osc := { s.osc with mState := .acquiring, acqFrom := .warmUp }, sel := { s.sel with lockEnd := 0 } }
    else s
  else if s.sel.st.selected.isNone then lossState tk s
  else s

/-- The conditions of the bound now (R185). -/
def condNow (s : State) : BndCond :=
  { mState := s.osc.mState, selected := s.sel.st.selected, frozen := s.sel.freeze.isSome
    origin := match s.sel.st.selected with | some i => ((s.slot i).originPhase).getD 0 | none => 0
    carry := s.bnd.carry, stepTerm := ((s.bnd.stepTerms.filter (fun x => decide (s.now < x.2))).map (·.1)).sum
    timeNotSet := s.sel.st.timeNotSet
    hold := s.bnd.hold, freezeG := s.bnd.freezeG }

/-- B_meas of a slot in interval LSBs, rounded up (R187). -/
def measTerm (i : Nat) : Nat :=
  let fs := if i < 8 then 405625 else if i = 8 then 160625 else if i ≤ 10 then 3320000 else if i ≤ 18 then 2420000 else 2155625
  divUp (fs * 65536) 10000000

/-- B_ref of the selected slot (R186). -/
def refTerm (s : State) (c : BndCond) (i : Nat) : Option Nat :=
  if c.timeNotSet then none
  else boundIv (if slotKind s i = 1 then addB c.carry (s.slot i).cfg.declaredUnc else effUnc s i)

/-- B_off and B_noise (R188): `d` is a step since the conditions held. -/
def trackTerms (s : State) (c : BndCond) (i : Nat) (d : Interval) (look : FieldTime) : Option Nat × Option Nat :=
  let pts := (s.slot i).pts.take 16
  if pts.length < 16 then (none, none)
  else match lineValue pts look with
    | none => (none, none)
    | some v =>
      let o := (if slotKind s i = 1 then c.origin else 0) + d
      (some (absUp (v.1 - o * v.2) v.2), some (spread6 pts))

/-- The terms under conditions `c` (R183). -/
def termsOf (s : State) (c : BndCond) (d : Interval) (look : FieldTime) : Terms :=
  let warm := if s.tim.tb.warmup then s.bnd.cfg.warmTerm * 1024 else 0
  let grow := fun (g : Growth) =>
    { entry := boundIv g.bEntry, growth := some (growthG s look g)
      warm := some (warm + if s.tim.tb.warmup then divUp (s.bnd.cfg.warmSlope.toNat * (look - g.te)) (2 ^ 64) else 0) : Terms }
  match (if c.mState = .holdover then c.hold else if c.frozen then c.freezeG else none), c.selected with
  | some g, _ => grow g
  | none, some i =>
    let t := trackTerms s c i d look
    { ref := refTerm s c i, meas := some (measTerm i), off := t.1, noise := t.2, step := some c.stepTerm, warm := some warm }
  | none, none => { warm := some warm }

/-- The sum of terms; none when one is unbounded. -/
def termSum (t : Terms) : Option Nat :=
  [t.ref, t.meas, t.off, t.noise, t.step, t.entry, t.growth, t.warm].foldl
    (fun a x => match a, x with | some p, some q => some (p + q) | _, _ => none) (some 0)

/-- The causes of R193 that hold under conditions `c` before the sum. -/
def causes (s : State) (c : BndCond) : List Nat :=
  (if c.mState = .cold ∨ c.mState = .mBoot ∨ c.mState = .warmUp ∨ c.mState = .freeRun then [1] else []) ++
  (if s.tim.tb.oscLoss then [2] else []) ++ (if c.timeNotSet then [3] else []) ++
  (if s.sel.operatorUnbounded then [4] else []) ++
  (if s.bnd.fieldRange ∨ s.osc.rate < -(2 ^ 31) ∨ 2 ^ 31 - 1 < s.osc.rate then [5] else [])

/-- The bound under conditions `c` with its cause (R183, R193). -/
def boundOf (s : State) (c : BndCond) (t : Terms) : Bound × Nat :=
  let b := match termSum t with | some v => ivToBound v | none => unbounded
  let all := causes s c ++ (if b = unbounded then [6] else []) ++ (if s.log.overflow then [7] else []) ++
    (if s.sealing.paramFault then [8] else [])
  match all with
  | [] => (b, 0)
  | k :: _ => (unbounded, k)

/-- The growth of a freeze from its first detecting phase (R190). -/
def freezeGrowth (s : State) (f : Freeze) : Growth :=
  let before : List RatePt := s.osc.hist.dropWhile (fun (r : RatePt) => decide (f.first ≤ r.at_))
  let w := before.take (s.osc.ens.holdAvg * 1000)
  let h0 := if w.length = s.osc.ens.holdAvg * 1000 ∧ w.all (fun (r : RatePt) => r.steered.isSome && r.steered == s.sel.st.selected) then
      stdErr6 s.osc.ens.holdAvg (w.map (fun (r : RatePt) => r.rSteer))
    else modelH0 s
  match before with
  | [] => beginGrowth s f.first unbounded h0 (readings s)
  | r :: _ => beginGrowth s f.first r.bound h0 r.temps

/-- The growths of a freeze and of conditions kept from the last computation follow (R190). -/
def growthCompute (look : FieldTime) (s : State) : State :=
  let fz : Option Growth := s.sel.freeze.map (fun f => s.bnd.freezeG.getD (freezeGrowth s f))
  { s with bnd := { s.bnd with
      hold := s.bnd.hold.map (advanceGrowth s look), freezeG := fz.map (advanceGrowth s look)
      last := { s.bnd.last with
        hold := s.bnd.last.hold.map (advanceGrowth s look), freezeG := s.bnd.last.freezeG.map (advanceGrowth s look) } } }

/-- ΔT of some weighted member comes from its range (R191, R209). -/
def tempInterval (s : State) (c : BndCond) : Bool :=
  match (if c.mState = .holdover then c.hold else if c.frozen then c.freezeG else none) with
  | some g => (List.range numOsc).any (fun i => (s.osci i).w != 0 && (deltaTemp s g i).2)
  | none => false

/-- The bound of a computation (R183 to R185): the larger of two where the conditions change. -/
def boundCompute (tk : FieldTime) (s : State) : State :=
  let look := tk + 2 * ms1
  let s1 := growthCompute look s
  let new := condNow s1
  let old := s1.bnd.last
  let change := s1.bnd.marked || decide ((new.mState, new.selected, new.frozen) ≠ (old.mState, old.selected, old.frozen))
  let tn := termsOf s1 new 0 look
  let bn := boundOf s1 new tn
  let tOld := termsOf s1 old s1.bnd.stepSince look
  let bo := boundOf s1 old tOld
  let useOld := change && decide (bn.1 < bo.1)
  let c := if useOld then old else new
  { s1 with bnd := { s1.bnd with
      bound := if useOld then bo.1 else bn.1, cause := if useOld then bo.2 else bn.2
      terms := if useOld then tOld else tn, transition := change, warmTerm := s1.tim.tb.warmup
      tempInterval := tempInterval s1 c, shown := c, last := new, stepSince := 0, marked := false } }

/-- Bound-violation discoveries of the steps committed at this computation (R206). -/
def discover (s : State) : State :=
  s.bnd.judged.foldl discoverOne { s with bnd := { s.bnd with judged := [] } }

/-- The selected reference is declared primary (R42, R434). -/
def primaryNow (s : State) : Bool :=
  match s.sel.st.selected with
  | some i => (s.slot i).cfg.primary && (decide (i ≠ 19) || decide (s.tan.word.map (·.clockClass) = some 6))
  | none => false

/-- clockClass of the M tile (R42), apart from a test unlock. -/
def clockClassOf (s : State) : Nat :=
  if s.bnd.bound = unbounded then 248
  else match s.osc.mState with
    | .locked => if primaryNow s then 6 else 187
    | .holdover => if s.bnd.bound ≤ s.osc.ens.spec then 7 else 52
    | .acquiring => 187
    | _ => 248

/-- The record of a computation for later windows (R174, R190). -/
def ratePoint (tk : FieldTime) (s : State) : RatePt :=
  { at_ := tk, integ := s.sel.integ, rSteer := s.sel.rSteer, bound := s.bnd.bound, temps := readings s
    locked := decide (s.osc.mState = .locked), steered := if s.sel.freeze.isNone then s.sel.st.selected else none }

/-- HOLDOVER whose bound has reached unbounded ends in FREE-RUN, a change of state (R185); OSC0 loss waits for its relock (R175,
R176). -/
def holdoverEnd (prev : Bound) (s : State) : State :=
  if s.osc.mState = .holdover && decide (s.bnd.bound = unbounded) && !s.tim.tb.oscLoss then
    let s1 := enterFreeRun prev (holdoverExit 1 s)
    { s1 with bnd := { s1.bnd with transition := true, last := { s1.bnd.last with mState := .freeRun } } }
  else s

/-- Deliver the labelled phases that wait for the computation (R124). -/
def deliverWaiting (s : State) (i : Nat) : State :=
  let l := (s.slot i).undelivered
  let s1 := s.setSlot i { s.slot i with undelivered := [] }
  l.foldl (fun t p => deliver i p t) s1

/-- The instant of the computation now due. -/
def computationAt (s : State) : FieldTime := if s.acc < s.bnd.nextComp + ms1 then s.bnd.nextComp else s.acc / ms1 * ms1

/-- The M tile makes computations: its clock runs and Nuheif has started. -/
def computing (s : State) : Bool := s.tim.tb.running && decide (s.osc.mState ≠ .cold) && decide (s.osc.mState ≠ .mBoot)

/-- A sealed parameter word that failed its parity check is loaded again from the copy in force (R509). -/
def reloadSealed (s : State) : State := if inSafe s 0 32 then rewriteWord 0 32 s else s

/-- What a computation takes note of first: the configuration that windows are judged against (R56, R73), the millisecond in
which the thresholds' target stays unmet (R26), when each oscillator became measurable (R56), GNSS_CONFIG's sealed fields (R199). -/
def computeStart (s : State) : State :=
  { s with
    tim := { s.tim with judging := s.tim.cfg, tb := oscPresence s }
    gnss := { s.gnss with
      terms := s.gnss.cfg
      unmetMs := if s.gnss.targetUnmet then satInc sat32 s.gnss.unmetMs else s.gnss.unmetMs } }

/-- The computation's work from UTC to clockClass. -/
def computeAt (tk : FieldTime) (s0 : State) : State :=
  let s := dropLost (computeStart (reloadSealed s0))
  let s1 := utcCompute (readReports ((List.range numSlots).foldl deliverWaiting s))
  let s2 := rateCompute (mStateCompute tk (selCompute tk (ensCompute tk s1)))
  let s3 := holdoverEnd s2.bnd.bound (discover (boundCompute tk s2))
  { s3 with
    osc := { s3.osc with hist := (ratePoint tk s3 :: s3.osc.hist).take 4200000 }
    bnd := { s3.bnd with
      clockClass := clockClassOf s3, nextComp := gridFrom ms1 (tk + ms1 / 2), computations := s3.bnd.computations + 1 } }

/-- BOUND_STATUS: a term as reported (R209). -/
def leTerm (t : Option Nat) : List Byte := leIv (match t with | some v => satI v | none => 0x7FFFFFFFFFFFFFFF)

/-- BOUND_STATUS's reply (R209). -/
def boundStatus (s : State) : List Byte :=
  let b := s.bnd
  let grown := (b.shown.mState == .holdover && b.shown.hold.isSome) || (b.shown.frozen && b.shown.freezeG.isSome)
  let g := if b.shown.mState = .holdover then b.shown.hold else b.shown.freezeG
  let t := b.terms
  le 4 b.bound ++ le 1 (mStateCode s.osc.mState) ++ le 1 (s.sel.st.selected.getD 0xFF) ++
  le 1 (flag 0 b.transition + flag 1 b.shown.frozen + flag 2 b.tempInterval + flag 3 (grown && s.osc.conflict) +
    flag 4 b.warmTerm + flag 5 s.log.fault) ++
  le 1 b.cause ++ leTerm t.ref ++ leTerm t.meas ++ leTerm t.off ++ leTerm t.noise ++ leTerm t.step ++ leTerm t.entry ++
  leTerm t.growth ++ leTerm t.warm ++ le 8 (if grown then (g.map (fun x => ftSec x.te)).getD 0 else 0) ++ le 4 b.violations ++
  zeros 4

/-- BOUND_STATUS (R209). -/
def bodyBoundStatus : Body := fun c s => if c.req.payload = [] then ok s (boundStatus s) else badLen s

/-- BOUND_PARAMS's record (R210). -/
def boundRecord (c : BoundCfg) : List Byte := le 4 c.warmTerm ++ zeros 4 ++ leF c.warmSlope

/-- BOUND_PARAMS (R210). -/
def bodyBoundParams : Body := fun c s =>
  let p := c.req.payload
  if p = [] then ok s (boundRecord s.bnd.cfg)
  else if p.length ≠ 16 then badLen s
  else checked s [(0, rd p 0 4 ≤ 0x3D09000), zeroAt p 4 4, (8, 0 ≤ rdI p 8 8 ∧ rdI p 8 8 ≤ 281474977)]
    (sealedWrite (sealedOf 0x0602 0 [(0, 4), (8, 8)] (boundRecord s.bnd.cfg) p) s (fun t =>
      ok { t with bnd := { t.bnd with cfg := ⟨rd p 0 4, rdI p 8 8⟩ } } p))

/-- Seconds left in the window (R211). -/
def windowLeft (s : State) : Nat :=
  match s.sealing.windowAt with | some t => divUp (t + 1800 * 1000000000 - s.now) 1000000000 | none => 0

/-- The reply of SEAL_BREAK_OPEN and SEAL_CLOSE (R211). -/
def sealReply (s : State) : List Byte := le 4 (sealCount s) ++ le 4 (windowLeft s) ++ sealedDigest s

/-- The seal-break counter advances: a wrap of L burns the next OTP bit first; at 0xFFFF_FFFF it stays (R200). -/
def sealAdvance (x : Seal) : Seal :=
  if sat32 ≤ x.otpBits * 65536 + x.low then x
  else if x.low = 0xFFFF then { x with otpBits := x.otpBits + 1, low := 0 } else { x with low := x.low + 1 }

/-- SEAL_BREAK_OPEN (R198, R211). -/
def bodySealBreakOpen : Body := fun c s =>
  if c.req.payload ≠ [] then badLen s
  else if !armed s || windowOpen s then err s stSTATE
  else if sealCount s ≥ sat32 then err s stNORES
  else if s.log.fault then err s stINTEGRITY
  else
    let s1 := { s with sealing := sealAdvance s.sealing }
    let s2 := logPut 0x01 0 0 (sealCount s1) s1
    let s3 := { s2 with sealing := { s2.sealing with windowAt := some s2.now, windowFault := s2.sealing.paramFault } }
    ok s3 (sealReply s3)

/-- SEAL_CLOSE (R198, R211). -/
def bodySealClose : Body := fun c s =>
  if c.req.payload ≠ [] then badLen s
  else if !windowOpen s then err s stSTATE
  else ok (closeWindow 0 s) (sealReply (closeWindow 0 s))

/-- An entry as LOG_READ returns it (R203). -/
def logEntryBytes (e : LogEntry) : List Byte :=
  entryBytes e.seq ⟨e.type, e.detail, e.id, e.timeUs, e.value⟩ ++ e.hash.take 8

/-- SEQ of the oldest retained entry. -/
def logOldest (s : State) : Nat := (s.log.entries.getLast?.map (·.seq)).getD (logNewest s)

/-- H of the entry before `start`, or ANCHOR (R212). -/
def priorHash (s : State) (start : Nat) : List Byte :=
  match s.log.entries.find? (fun e => e.seq + 1 == start) with
  | some e => e.hash
  | none => if s.log.anchor = [] then logH0 else s.log.anchor

/-- LOG_READ (R205, R212). -/
def bodyLogRead : Body := fun c s =>
  let p := c.req.payload
  let start := rd p 0 4
  if p.length ≠ 8 then badLen s
  else checked s
    [(0, logOldest s ≤ start ∧ start ≤ logNewest s), (4, 1 ≤ rd p 4 2 ∧ rd p 4 2 ≤ 125), (6, rd p 6 1 ≤ 1), zeroAt p 7 1]
    (let s1 := if bit (rd p 6 1) 0 then
        { s with log := { s.log with sinceAck := min s.log.sinceAck (s.log.nextSeq - start) } }
      else s
     let es := ((s.log.entries.filter (fun e => decide (start ≤ e.seq))).reverse).take (rd p 4 2)
     ok s1 (le 4 (logOldest s) ++ le 4 (logNewest s) ++ le 2 es.length ++
       le 1 (flag 0 (logNearWrap s1) + flag 1 s.log.fault) ++ zeros 5 ++ priorHash s start ++ es.flatMap logEntryBytes))

/-- The request came from a host ring. -/
def fromHost (src : Source) : Bool := match src with | .ring _ => true | _ => false

/-- METROLOGY_ID (R202, R213): the host's rings are one master, the sideband the other. -/
def bodyMetrologyId : Body := fun c s =>
  if c.req.payload ≠ [] then badLen s
  else
    let h := fromHost c.req.src
    match (if h then s.sealing.latchHost else s.sealing.latchSb), s.sealing.latch with
    | true, some l =>
      ok { s with sealing := { s.sealing with
        latchHost := s.sealing.latchHost && !h, latchSb := s.sealing.latchSb && h } } l
    | _, _ => ok s (metrologyId s false)

/-- SEAL_PRESS (R198, R201): a SEAL_N press that has been held for 5 s counts. -/
def sealPress (s : State) : State :=
  let x := s.sealing.sealN
  if !x.released || x.counted || x.stuck then s
  else { s with sealing := { s.sealing with
    armedUntil := some (s.now + 60 * 1000000000)
    sealN := { x with counted := true, lowSince := some (s.now - 5 * 1000000000) } } }

/-- ARMED_EXPIRY (R198). -/
def armedExpiry (s : State) : State :=
  match s.sealing.armedUntil with
  | some t => if t ≤ s.now then { s with sealing := { s.sealing with armedUntil := none } } else s
  | none => s

/-- VERIFY_PRESS (R201, R202). -/
def verifyPress (s : State) : State :=
  let x := s.sealing.verifyN
  if !x.released || x.counted || x.stuck then s
  else irqArrive 1 1 { s with sealing := { s.sealing with
    verifyN := { x with counted := true, lowSince := some (s.now - 20 * 1000000) }
    latch := some (metrologyId s true), latchHost := true, latchSb := true, smbAlert := true } }

/-- PRESS_STUCK (R201): a press held for over 30 s, one held since the module reset too. -/
def pressStuck (verify : Bool) (s : State) : State :=
  let x := if verify then s.sealing.verifyN else s.sealing.sealN
  match x.lowSince with
  | some t =>
    if t + 30 * 1000000000 ≤ s.now then
      setCond 0 (if verify then 9 else 10) true { s with sealing :=
        if verify then { s.sealing with verifyN := { x with stuck := true, released := false } }
        else { s.sealing with sealN := { x with stuck := true, released := false } } }
    else s
  | none => s

/-- INPUT_RELEASED (R201): the input has been seen released. -/
def inputReleased (verify : Bool) (s : State) : State :=
  let x : Press := { released := true, lowSince := none }
  setCond 0 (if verify then 9 else 10) false { s with sealing :=
    if verify then { s.sealing with verifyN := x } else { s.sealing with sealN := x } }

/-- SMB_ALERT_ACKNOWLEDGE (R202). -/
def smbAlertAcknowledge (s : State) : State := { s with sealing := { s.sealing with smbAlert := false } }

/-- SEAL_WINDOW_TIMEOUT (R198): 30 min after opening. -/
def sealWindowTimeout (s : State) : State :=
  match s.sealing.windowAt with
  | some t => if t + 1800 * 1000000000 ≤ s.now then closeWindow 1 s else s
  | none => s

/-- LOG_WRITE (R204, R205): Nuheif writes an entry; the row says whether the flash takes it, now and until a row says
otherwise. -/
def logWriteEvent (type detail id value : Nat) (flashOk : Bool) (s : State) : State :=
  logPut type detail id value { s with log := { s.log with refuses := !flashOk } }

/-- LOG_FLUSH (R205): the flash recovers and the queue is written. -/
def logFlush (flashOk : Bool) (s : State) : State :=
  if !s.log.fault || !flashOk then s
  else
    let l := s.log.queue.foldl logWrite { s.log with fault := false, queue := [], refuses := false }
    setCond 0 5 false { s with log := l, bus := { s.bus with newLog := s.bus.newLog || decide (s.log.queue ≠ []) } }

/-- BOUND_STATUS (R209). -/
def execBoundStatus (rq : Request) (s : State) : Out := kcpRow 0x0601 (leastPriv s 0x0601 rq.payload) bodyBoundStatus rq s
/-- BOUND_PARAMS (R210). -/
def execBoundParams (rq : Request) (s : State) : Out := kcpRow 0x0602 (leastPriv s 0x0602 rq.payload) bodyBoundParams rq s
/-- SEAL_BREAK_OPEN (R211). -/
def execSealBreakOpen (rq : Request) (s : State) : Out := kcpRow 0x0603 (leastPriv s 0x0603 rq.payload) bodySealBreakOpen rq s
/-- SEAL_CLOSE (R211). -/
def execSealClose (rq : Request) (s : State) : Out := kcpRow 0x0604 (leastPriv s 0x0604 rq.payload) bodySealClose rq s
/-- LOG_READ (R212). -/
def execLogRead (rq : Request) (s : State) : Out := kcpRow 0x0605 (leastPriv s 0x0605 rq.payload) bodyLogRead rq s
/-- METROLOGY_ID (R213). -/
def execMetrologyId (rq : Request) (s : State) : Out := kcpRow 0x0606 (leastPriv s 0x0606 rq.payload) bodyMetrologyId rq s
/-- SEAL_PRESS (R201). -/
def execSealPress (s : State) : Out := done s (sealPress s)
/-- ARMED_EXPIRY (R198). -/
def execArmedExpiry (s : State) : Out := done s (armedExpiry s)
/-- VERIFY_PRESS (R202). -/
def execVerifyPress (s : State) : Out := done s (verifyPress s)
/-- PRESS_STUCK (R201). -/
def execPressStuck (verify : Bool) (s : State) : Out := done s (pressStuck verify s)
/-- INPUT_RELEASED (R201). -/
def execInputReleased (verify : Bool) (s : State) : Out := done s (inputReleased verify s)
/-- SMB_ALERT_ACKNOWLEDGE (R202). -/
def execSmbAlertAcknowledge (s : State) : Out := done s (smbAlertAcknowledge s)
/-- SEAL_WINDOW_TIMEOUT (R198). -/
def execSealWindowTimeout (s : State) : Out := done s (sealWindowTimeout s)
/-- LOG_WRITE (R204). -/
def execLogWrite (type detail id value : Nat) (flashOk : Bool) (s : State) : Out :=
  done s (logWriteEvent type detail id value flashOk s)
/-- LOG_FLUSH (R205). -/
def execLogFlush (flashOk : Bool) (s : State) : Out := done s (logFlush flashOk s)

end Sys2Proof.Machine
end

