-- ==== Sys2Proof/Machine/Slots.lean ====
section
/-! DEFINITION. The key store's slots, their shares and the wrapped store that keeps them (R332 to R335, R348). -/

namespace Sys2Proof.Machine
open Sys2Proof

/-- A key from its two shares (R348). -/
def Shares.open_ (x : Shares) : List Byte := xorBytes x.s1 x.s2

/-- A key split with a fresh mask (R336, R349). -/
def split (k : List Byte) (s : State) : Shares × State :=
  let r := drawRandom k.length s
  (⟨xorBytes k r.1, r.1⟩, r.2)

/-- A visit's atomic update of two shares (R348): S1 xor M xor M′, and M′. -/
def remask (x : Shares) (m : List Byte) : Shares := ⟨xorBytes (xorBytes x.s1 x.s2) m, m⟩

/-- Tenant slot `t`. -/
def State.tenant (s : State) (t : Nat) : KeySlot := tget {} s.key.tenants t
/-- Replace a tenant slot. -/
def State.setTenant (s : State) (t : Nat) (x : KeySlot) : State :=
  { s with key := { s.key with tenants := tset {} s.key.tenants t x } }
/-- The slots of a class (R351: 1 tenant, 2 link master, 3 NTS master). -/
def slotsOf (s : State) (cls : Nat) : Tbl KeySlot :=
  if cls = 1 then s.key.tenants else if cls = 2 then s.key.links else s.key.nts
/-- A slot of a class. -/
def keySlot (s : State) (cls i : Nat) : KeySlot := tget {} (slotsOf s cls) i
/-- Replace a slot of a class. -/
def setKeySlot (cls i : Nat) (x : KeySlot) (s : State) : State :=
  if cls = 1 then { s with key := { s.key with tenants := tset {} s.key.tenants i x } }
  else if cls = 2 then { s with key := { s.key with links := tset {} s.key.links i x } }
  else { s with key := { s.key with nts := tset {} s.key.nts i x } }
/-- How many slots a class has (R332). -/
def slotCount (cls : Nat) : Nat := if cls = 1 then 4096 else 16
/-- The recipients a class's mask may name (R332, R340). -/
def maskAllowed (cls : Nat) : Nat := if cls = 1 then 5 else if cls = 2 then 2 else 8
/-- Key bytes of a class. -/
def keyLen (cls : Nat) : Nat := if cls = 3 then 32 else 16

/-- A slot's record in the wrapped store (R334): class, number, descriptor, last generation, key. The record's layout is the
model's (DESIGN CHOICE, log entry 33). -/
def slotRecord (cls i : Nat) (k : KeySlot) : List Byte :=
  be 1 cls ++ be 2 i ++ be 1 (flag 0 k.valid) ++ be 1 k.recipients ++ fit 16 k.inst ++ fit 3 k.check ++ be 4 k.indexGen ++
  be 1 k.role ++ be 4 k.lastGen ++ fit (keyLen cls) (if k.valid then k.shares.open_ else [])

/-- The slots as an image for the wrapped store (R334): those that are VALID or have a last generation. -/
def storeImage (s : State) : List Byte :=
  [1, 2, 3].flatMap (fun cls =>
    ((slotsOf s cls).filter (fun e => e.2.valid || decide (e.2.lastGen ≠ 0))).flatMap (fun e => slotRecord cls e.1 e.2))

/-- The slots that invalidations in progress have emptied are VALID again in an image of the generation before (R347). -/
def withHeld (s : State) : State :=
  (s.key.invalidating.flatMap (·.slots)).foldl (fun t x =>
    if (keySlot t x.1 x.2.1).valid then t else setKeySlot x.1 x.2.1 x.2.2 t) s

/-- The wrapped image of the slots under a WRAP_GEN (R334). -/
def wrapImage (s : State) (gen : Nat) : Wrapped := wrapStore gen (storeImage (withHeld s))

/-- The slots of an unwrapped image, each key split with a fresh mask (R334, R336): `n` bounds the records. -/
def readSlots : Nat → List Byte → State → State
  | 0, _, s => s
  | n + 1, b, s =>
    let cls := rdBe b 0 1
    if b = [] then s
    else
      let x := if bit (rdBe b 3 1) 0 then split ((b.drop 33).take (keyLen cls)) s else ({}, s)
      let k : KeySlot :=
        { valid := bit (rdBe b 3 1) 0, shares := x.1, recipients := rdBe b 4 1, inst := if cls = 1 then (b.drop 5).take 16 else []
          check := (b.drop 21).take 3, indexGen := rdBe b 24 4, role := rdBe b 28 1, lastGen := rdBe b 29 4 }
      readSlots n (b.drop (33 + keyLen cls)) (setKeySlot cls (rdBe b 1 2) k x.2)

/-- The STORE_FAULT condition ends once an area verifies again (R334, R511). -/
def storeSound (s : State) : State :=
  if s.key.storeFault then setCond 3 1 false { s with key := { s.key with storeFault := false } } else s

/-- Write an image into the alternate area and drop the other (R334). -/
def writeArea (w : Wrapped) (s : State) : State :=
  storeSound (if s.key.areaA.isSome then { s with key := { s.key with areaB := some w, areaA := none } }
    else { s with key := { s.key with areaA := some w, areaB := none } })

/-- A change of a descriptor goes into the wrapped store (R334); one made during an invalidation goes with its image (R347). -/
def keepSlots (s : State) : State :=
  if s.key.invalidating = [] then writeArea (wrapImage s s.key.wrapGen) s else s

end Sys2Proof.Machine
end

