-- ==== Sys2Proof/Machine/Bus.lean ====
section
/-! DEFINITION. The paths between the dies: time-bus frames and replicas, the claim path, slot measurement reports, the
fault replica, the live-time registers; how a die serves time (R10 to R20, R36 to R51). -/

namespace Sys2Proof.Machine
open Sys2Proof

/-- Replace the replica of die `i`. -/
def State.setReplica (s : State) (i : Nat) (x : Replica) : State :=
  { s with bus := { s.bus with replicas := tset {} s.bus.replicas i x } }

/-- The claim path's receiver of F tile `t`. -/
def State.claimPath (s : State) (t : Nat) : ClaimPath := tget {} s.bus.claims t
/-- Replace the claim path's receiver of F tile `t`. -/
def State.setClaimPath (s : State) (t : Nat) (x : ClaimPath) : State :=
  { s with bus := { s.bus with claims := tset {} s.bus.claims t x } }

/-- The step announced in the frame that ends at marker `m` (R14): from 192 µs before its effective marker to it. Its size is
the nearest interval of the format (R30). -/
def announced (s : State) (m : FieldTime) : Option StepAnn :=
  match s.sel.steps with
  | p :: _ => if p.effective ≤ m + 192 * us1 ∧ m ≤ p.effective then some ⟨satI p.size, p.effective⟩ else none
  | [] => none

/-- Time-base time since marker `m`, in 2^-16 ns rounded up: the field time since it at the timescale's rate. -/
def sinceMarker (s : State) (m : FieldTime) : Nat :=
  divUp ((s.acc - m) * 2 ^ 48) ((2 ^ 48 + s.osc.rate).toNat * 2 ^ 16)

/-- Units of 2^-16 ns in 4 ns, a period of the forwarded 250 MHz. -/
def edge250 : Nat := 262144

/-- Marker phase (R11): from the 250 MHz edge to the true instant of marker `m`, 2^-16 ns, 0 to 4 ns. -/
def markerPhase (s : State) (m : FieldTime) : Nat :=
  (((s.tim.tick * 262144 / 5 : Nat) : Int) - sinceMarker s m).emod edge250 |>.toNat

/-- The frame that ends at marker `m` (R11), with a reported test unlock (R569). -/
def frameAt (s : State) (m : FieldTime) : Frame :=
  let sel := s.sel.st.selected
  let leaf := match sel with | some i => 11 ≤ i && i ≤ 18 | none => false
  { marker := m, phase := markerPhase s m, rate := frameRate s.osc.rate, bound := s.bnd.bound
    mState := mStateCode s.osc.mState, clockClass := if s.tst.reported.isSome then 248 else s.bnd.clockClass, warmup := s.tim.tb.warmup
    uncertain := s.uncertain, utcValid := s.utc.valid, leap61 := s.utc.leap61, leap59 := s.utc.leap59
    testUnlock := s.tst.reported.isSome, utcOffset := s.utc.offset, generation := s.kcp.metroGen % 2 ^ 32
    step := announced s m, selSlot := sel.getD 0xFF
    selKind := (sel.map (fun i => match slotKind s i with | 0 => 0 | 1 => 1 | _ => 2)).getD 0
    primary := primaryNow s
    hops := if leaf then (sel.map (fun i => (s.slot i).hops)).getD 0 else 0
    originId := if leaf then (sel.map (fun i => (s.slot i).originId)).getD 0 else 0
    evNewSticky := s.bus.newSticky, evViolation := s.bus.newViolation, evNewLog := s.bus.newLog }

/-- The epoch marker that falls now: the next due, or the last whole microsecond. -/
def markerNow (s : State) : FieldTime := if s.acc < s.bus.nextMarker + us1 then s.bus.nextMarker else s.acc / us1 * us1

/-- The fields of a frame with their widths, in the order of R11. -/
def frameFields (f : Frame) : List (Nat × Nat) :=
  let a := f.step.getD {}
  let v : Bool := f.step.isSome
  [(64, ftSec f.marker), (32, ftNs f.marker), (20, f.phase), (32, (f.rate % 2 ^ 32).toNat), (32, f.bound),
   (4, f.mState), (8, f.clockClass), (1, flag 0 f.warmup), (1, flag 0 f.uncertain), (1, flag 0 f.utcValid), (1, flag 0 f.leap61),
   (1, flag 0 f.leap59), (1, flag 0 f.testUnlock), (2, 0), (16, (f.utcOffset % 2 ^ 16).toNat), (4, 0), (32, f.generation),
   (1, flag 0 v), (64, if v then (a.size % 2 ^ 64).toNat else 0), (64, if v then ftSec a.effective else 0),
   (32, if v then ftNs a.effective else 0), (7, 0), (8, f.selSlot), (2, f.selKind), (1, flag 0 f.primary), (5, 0), (8, f.hops),
   (64, f.originId), (13, 0), (1, flag 0 f.evNewLog), (1, flag 0 f.evViolation), (1, flag 0 f.evNewSticky), (460, 0)]

/-- Fields packed into one number, the first at the top (R11). -/
def packFields (l : List (Nat × Nat)) : Nat := l.foldl (fun a x => a * 2 ^ x.1 + x.2 % 2 ^ x.1) 0

/-- The 1,000 bits of a frame (R11): 984 bits and their CRC-16. -/
def frameWord (f : Frame) : Nat :=
  let w := packFields (frameFields f)
  w * 65536 + crc16 (be 123 w)

/-- The bits of a frame that serial line `k` carries (R11): striped bit by bit over the four lines, line 0 first. -/
def frameLine (w k : Nat) : List Bool := (List.range 250).map (fun i => bit w (999 - (4 * i + k)))

/-- Fields unpacked by their widths, the first at the top. -/
def unpackFields : List Nat → Nat → List Nat
  | [], _ => []
  | n :: t, w => w / 2 ^ t.sum % 2 ^ n :: unpackFields t w

/-- A field of a received frame, by its place in `frameFields`. -/
def frameField (w i : Nat) : Nat := (unpackFields ((frameFields {}).map (·.1)) (w / 65536)).getD i 0

/-- The contents of a received frame. -/
def decodeFrame (w : Nat) : Frame :=
  let g := frameField w
  { marker := ft (g 0) (g 1), phase := g 2, rate := signed 4 (g 3), bound := g 4, mState := g 5, clockClass := g 6
    warmup := g 7 == 1, uncertain := g 8 == 1, utcValid := g 9 == 1, leap61 := g 10 == 1, leap59 := g 11 == 1
    testUnlock := g 12 == 1, utcOffset := signed 2 (g 14), generation := g 16
    step := if g 17 = 1 then some ⟨signed 8 (g 18), ft (g 19) (g 20)⟩ else none
    selSlot := g 22, selKind := g 23, primary := g 24 == 1, hops := g 26, originId := g 27
    evNewLog := g 29 == 1, evViolation := g 30 == 1, evNewSticky := g 31 == 1 }

/-- A received frame passes its CRC (R12, R13). -/
def frameOk (w : Nat) : Bool := decide (crc16 (be 123 (w / 65536)) = w % 65536)

/-- TIME_BUS_FRAME (R11): one frame per epoch marker. -/
def timeBusFrame (s : State) : State :=
  if !computing s || s.acc < s.bus.nextMarker then s
  else
    let m := markerNow s
    let f := frameAt s m
    { s with bus := { s.bus with
        sent := f, sentEdge := (s.now * 65536 : Nat) - (sinceMarker s m : Int) - f.phase, nextMarker := m + us1
        frames := s.bus.frames + 1, newSticky := false, newViolation := false, newLog := false } }

/-- The fault block of a receiving die (R511): S tile 1, F0 to F3 9 to 12. -/
def dieBlock (die : Nat) : Nat := if die = 0 then 1 else 8 + die

/-- The instant of `now` in 2^-16 ns at which a step announced in a replica's frame takes effect. -/
def stepInstant (r : Replica) (a : StepAnn) : Int :=
  r.at_ + divTrunc (((a.effective : Int) - r.frame.marker) * 2 ^ 32) ((2 ^ 48 + r.frame.rate).toNat)

/-- The last step that a replica has taken by an instant, with the instant of its marker. -/
def taken (r : Replica) (t : Int) : Option (Int × StepAnn) :=
  match r.frame.step with
  | some a => if (a.effective : Int) ≤ rawTime r t then some (stepInstant r a, a) else r.past
  | none => r.past

/-- The last step taken by the instant of a new frame (R20): a step that the new frame still announces is counted with that
frame. -/
def takenBefore (r : Replica) (f : Frame) (t : Int) : Option (Int × StepAnn) :=
  match taken r t with
  | some (i, a) => if f.step = some a then r.past else some (i, a)
  | none => none

/-- The step that a replica's frame announces and that is still to come at an instant. -/
def stepToCome (r : Replica) (t : Int) : Option StepAnn :=
  r.frame.step.filter (fun a => decide (rawTime r t < (a.effective : Int)))

/-- A good frame at a die (R12, R13): the replica is set from the frame's field time and marker phase. -/
def goodFrame (die : Nat) (f : Frame) (s : State) : State :=
  let r := s.replica die
  let run := min 1000 (r.goodRun + 1)
  let leave := r.inLoss && decide (1000 ≤ run)
  let sel := decide (f.selSlot ≠ 0xFF)
  let at_ : Int := s.bus.sentEdge + f.phase
  let s1 := s.setReplica die { r with
    lastSel := if sel then f.selSlot else r.lastSel, lastKind := if sel then f.selKind else r.lastKind
    lastComp := if sel then f.marker / ms1 * ms1 else r.lastComp
    holdAt := if f.mState = 6 ∧ (!r.anyGood ∨ (r.frame.mState ≠ 6 ∧ r.frame.mState ≠ 4)) then f.marker / ms1 * ms1 else r.holdAt
    frame := f, at_ := at_, past := takenBefore r f at_, anyGood := true, missed := 0, goodRun := run
    inLoss := r.inLoss && !leave, everLeft := r.everLeft || leave, unserved := r.inLoss, heard := s.bus.frames }
  if leave && r.everLeft then setCond (dieBlock die) 1 false s1 else s1

/-- A missing or failed frame at a die (R13). -/
def badFrame (die : Nat) (s : State) : State :=
  let r := s.replica die
  let declare := decide (3 ≤ r.missed) && !r.inLoss
  let s1 := s.setReplica die { r with
    missed := min 4 (r.missed + 1), goodRun := 0, inLoss := r.inLoss || declare, unserved := r.inLoss || r.unserved }
  if declare then setCond (dieBlock die) 1 true s1 else s1

/-- The die has not received the last frame yet. -/
def frameWaits (s : State) (die : Nat) : Bool := decide ((s.replica die).heard ≠ s.bus.frames)

/-- The named NTS slot becomes CURRENT at an epoch marker, the others that are VALID ACCEPT (R343, R344). -/
def applyRoles (s : State) : State :=
  match s.key.rolesNext with
  | none => s
  | some new =>
    let put := fun (t : Tbl KeySlot) i =>
      let k : KeySlot := tget {} t i
      tset {} t i { k with role := if !k.valid then 0 else if i = new then 2 else 1 }
    keepSlots { s with key := { s.key with rolesNext := none, nts := (List.range 16).foldl put s.key.nts } }

/-- SERVING from the first marker at which the S tile is READY and its replica out of loss (R545). -/
def enterServing (s : State) : State :=
  if s.pwr.sState = 1 ∧ !(s.replica 0).inLoss then { s with pwr := { s.pwr with sState := 2 } } else s

/-- A command that the command processor itself relays (R18). -/
def ownCommand (opcode : Nat) (p : List Byte) (s : State) : Cmd :=
  { id := s.kcp.nextId, opcode := opcode, req := ⟨.internal, 0, 0, 0, 0, p⟩, phase := .relayQueue, since := s.now, first := s.now
    accAt := s.now, accGen := s.kcp.g }

/-- Commands outstanding at the M tile (R16). -/
def relayedOut (s : State) : Nat :=
  (s.kcp.slots.filter (fun c => c.phase == .relayQueue || c.phase == .mailbox || c.phase == .waiting)).length

/-- The S tile hears of a discovery in the event summary (R206, R365), and reads its entry of the sealed event log by an
ordinary relayed LOG_READ (R18). No rule says how it learns the SEQ: the model gives it that of the oldest discovery not yet
read (DESIGN CHOICE, log entry 26). -/
def hearViolation (s : State) : State :=
  let s1 := if (s.replica 0).frame.evViolation then { s with evd := { s.evd with announced := true } } else s
  if s1.evd.announced && decide (s1.bnd.found ≠ []) && decide (relayedOut s1 < 17) then
    { s1 with
      evd := { s1.evd with announced := false }
      kcp := { s1.kcp with
        nextId := s1.kcp.nextId + 1
        slots := s1.kcp.slots ++ [ownCommand 0x0605 (le 4 ((s1.bnd.found.head?.map (·.logSeq)).getD 1) ++ le 2 1 ++ zeros 2) s1] } }
  else s1

/-- The claim the S tile sends (R15). -/
def claimSent (s : State) : Nat := if bit s.tan.cfg.flags 0 then s.tan.own else 200

/-- A claim word (R15): claim, its complement, 4-bit count. -/
def claimWordOf (claim count : Nat) : Nat := (claim % 256) * 4096 + (255 - claim % 256) * 16 + count % 16

/-- A received claim word whose complement matches, and that is no repetition of the last count: claim and count (R15). -/
def goodClaim (x : ClaimPath) (w : Nat) : Option (Nat × Nat) :=
  let c := w / 4096 % 256
  if w / 16 % 256 = 255 - c ∧ x.count ≠ some (w % 16) then some (c, w % 16) else none

/-- The S tile's marker (R15, R344, R545): its next claim word, its state, the roles of keys, what the frame announces. -/
def sMarker (good : Bool) (s : State) : State :=
  let s1 := { s with bus := { s.bus with claimCount := (s.bus.claimCount + 1) % 16 } }
  enterServing (applyRoles (if good then hearViolation s1 else s1))

/-- FRAME_RECEIVE (R12, R13): the last frame with an error pattern on the lines, or no frame. -/
def frameReceive (die : Nat) (noise : Option Nat) (s : State) : State :=
  match noise with
  | some e =>
    let w := frameWord s.bus.sent ^^^ (e % 2 ^ 1000)
    if !frameWaits s die || s.bus.frames = 0 then s
    else
      let good := frameOk w
      let s1 := if good then goodFrame die (decodeFrame w) s else badFrame die s
      if die = 0 then sMarker good s1 else s1
  | none => if die = 0 then sMarker false (badFrame die s) else badFrame die s

/-- CLAIM_WORD (R15): a marker at F tile `t`, with the S tile's claim word and an error pattern on it, or without a word. -/
def claimWord (t : Nat) (noise : Option Nat) (s : State) : State :=
  let x := s.claimPath t
  let got := noise.bind (fun e => goodClaim x (claimWordOf (claimSent s) s.bus.claimCount ^^^ (e % 2 ^ 20)))
  let run := if got.isSome then min 1000 (x.goodRun + 1) else 0
  let missed := if got.isSome then 0 else min 4 (x.missed + 1)
  let falls := !x.down && decide (4 ≤ missed)
  let rises := x.down && decide (1000 ≤ run)
  let s1 := s.setClaimPath t { x with
    claim := (got.map (·.1)).getD x.claim, prevClaim := x.claim, missed := missed, goodRun := run
    down := (x.down || falls) && !rises, count := (got.map (·.2)).or x.count }
  if falls then setCond (9 + t) 3 true s1 else if rises then setCond (9 + t) 3 false s1 else s1

/-- CLAIM of the bursts of an F tile (R15). -/
def claimFor (s : State) (t : Nat) : Nat := if (s.claimPath t).down then 0 else (s.claimPath t).claim

/-- A gathered event belongs to a slot's report up to an instant (R18). -/
def reportable (i : Nat) (upTo : FieldTime) (g : Nat × SlotPhase) : Bool := g.1 == i && decide (g.2.at_ ≤ upTo)

/-- SLOT_MEASUREMENT_REPORT (R18): the tiles' events of a slot up to an instant go into the inbound area; later
ones stay for the next report. -/
def slotReport (i : Nat) (upTo : FieldTime) (s : State) : State :=
  let l := (s.bus.gathered.filter (reportable i upTo)).map (·.2)
  match l.getLast? with
  | none => s
  | some z =>
    let r : SlotReport :=
      ⟨i, l.length, divNearI (l.map (·.phase)).sum l.length, l.drop (l.length - 16), z.hops, z.originId⟩
    { s with bus := { s.bus with
      gathered := s.bus.gathered.filter (fun g => !reportable i upTo g)
      reports := s.bus.reports.filter (fun q => q.slot != i) ++ [r] } }

/-- FAULT_REPLICA_UPDATE (R510, R514): each bit that the replica newly shows is an arrival. -/
def faultReplicaUpdate (s : State) : State :=
  let now := (s.flt 0).status
  let new := (List.range (fltSources 0)).filter (fun i => bit now i && !bit s.regs.replica i)
  new.foldl (fun t _ => irqArrive 1 0 t) { s with regs := { s.regs with replica := now } }

/-- The bound a die serves without a term of its own (R13, R19, R25). -/
def dieBound (s : State) (die : Nat) : Bound := if (s.replica die).unserved then unbounded else (s.replica die).frame.bound

/-- The clockClass of a served bound (R13, R42). -/
def servedClass (s : State) (die : Nat) (b : Bound) : Nat :=
  if b = unbounded ∨ (s.replica die).unserved then 248 else (s.replica die).frame.clockClass

/-- NTP stratum and leap indicator of a served clockClass (R42, R43). -/
def stratumLi (s : State) (die cls : Nat) : Nat × Nat :=
  let f := (s.replica die).frame
  if cls = 248 ∨ !f.utcValid then (16, 3)
  else (if cls = 6 ∨ cls = 7 then 1 else 2, if f.leap61 then 1 else if f.leap59 then 2 else 0)

/-- clockAccuracy enumerations from 0x17 on, in ps (R41, IEEE 1588-2019); 2.5 ps stands as 3, which no bound tells apart. -/
def accuracyPs : List Nat :=
  [1, 3, 10, 25, 100, 250, 1000, 2500, 10000, 25000, 100000, 250000, 1000000, 2500000, 10000000, 25000000, 100000000,
   250000000, 1000000000, 2500000000, 10000000000, 25000000000, 100000000000, 250000000000, 1000000000000, 10000000000000]

/-- clockAccuracy of a bound (R41). -/
def clockAccuracy (b : Bound) : Nat :=
  if b = unbounded then 0xFE
  else 0x17 + (accuracyPs.takeWhile (fun p => decide (p * 64 < b * 1000))).length

/-- NTP root dispersion of a bound (R41). -/
def rootDispersion (b : Bound) : Nat := if b = unbounded then 0xFFFFFFFF else divUp (b * 65536) (64 * 10 ^ 9)

/-- An NTPv4 timestamp, seconds and fraction (R40): `off` is the UTC offset, `leap61` the indicator. -/
def ntpTime (off : Int) (leap61 : Bool) (t : FieldTime) : Nat × Nat :=
  let utc : Int := (ftSec t : Int) - off
  let rep : Int := if leap61 && decide (utc % 86400 = 0) then 1 else 0
  let f := divNear (t % s1) (10 ^ 9)
  let sec := utc - rep + 2208988800 + (if f = 2 ^ 32 then 1 else 0)
  ((sec % 2 ^ 32).toNat, f % 2 ^ 32)

/-- A PTP timestamp (R39): secondsField, nanosecondsField, and what is added to correctionField in 2^-16 ns. -/
def ptpTime (t : FieldTime) : Nat × Nat × Nat := (ftSec t % 2 ^ 48, ftNs t, ftFrac t / 2 ^ 16)

/-- TIME_SOURCE (R230). -/
def timeSource (sel : Nat) : Nat := if sel = 8 then 0x20 else if sel = 9 ∨ sel = 10 then 0x40 else if sel ≤ 19 then 0x90 else 0xA0

/-- A field time that may be served: seconds bits 63:48 are clear (R39). -/
def servable (t : FieldTime) : Bool := decide (ftSec t < 2 ^ 48)

/-- A field time as an NTP timestamp of 64 bits (R40); zero while UTC_VALID is clear, when none is served. -/
def ntpWord (s : State) (t : FieldTime) : Nat :=
  let f := (s.replica 0).frame
  let n := ntpTime f.utcOffset f.leap61 t
  if f.utcValid then n.1 * 2 ^ 32 + n.2 else 0

/-- The clock state as TIME_STATE lays it out (R47), as the S tile's replica serves it. -/
def timeState (s : State) : Nat :=
  let r := s.replica 0
  let f := r.frame
  servedClass s 0 (dieBound s 0) * 2 ^ 24 + f.mState * 2 ^ 20 + flag 19 f.warmup + flag 18 f.uncertain + flag 17 f.leap61 +
  flag 16 f.leap59 + flag 15 f.utcValid + flag 14 f.testUnlock + flag 13 r.inLoss +
  flag 12 (match f.step with | some a => decide (replicaTime s 0 < a.effective) | none => false)

/-- TIME_UTC (R48). -/
def timeUtc (s : State) : Nat := ((s.replica 0).frame.utcOffset % 2 ^ 16).toNat

/-- TIME_NS_READ (R46): a read of TIME_NS captures the replica and loads the latched registers. -/
def timeNsRead (s : State) : State :=
  let t := replicaTime s 0
  { s with bus := { s.bus with live :=
      { frac := ftFrac t, ns := ftNs t, bound := dieBound s 0, state := timeState s, utc := timeUtc s
        gen := s.kcp.g % 2 ^ 32 } } }

/-- The time section of SNAPSHOT (R51) at marker `m`. -/
def timeSection (s : State) (m : FieldTime) : List Byte :=
  leTime m ++ le 4 (dieBound s 0) ++ le 4 (timeState s) ++ le 2 (timeUtc s) ++ zeros 2 ++ leI 4 (s.replica 0).frame.rate

/-- TIME_BUS_FRAME (R11). -/
def execTimeBusFrame (s : State) : Out := done s (timeBusFrame s)
/-- FRAME_RECEIVE (R12). -/
def execFrameReceive (die : Nat) (noise : Option Nat) (s : State) : Out :=
  guardUnit (die < 5) s (done s (frameReceive die noise s))
/-- CLAIM_WORD (R15). -/
def execClaimWord (tile : Nat) (noise : Option Nat) (s : State) : Out :=
  guardUnit (tile < 4) s (done s (claimWord tile noise s))
/-- SLOT_MEASUREMENT_REPORT (R18). -/
def execSlotMeasurementReport (slot : Nat) (upTo : FieldTime) (s : State) : Out :=
  guardUnit (9 ≤ slot ∧ slot < 20) s (done s (slotReport slot upTo s))
/-- FAULT_REPLICA_UPDATE (R510). -/
def execFaultReplicaUpdate (s : State) : Out := done s (faultReplicaUpdate s)

end Sys2Proof.Machine
end

