-- ==== Sys2Proof/Machine/Key.lean ====
section
/-! DEFINITION. Keys: the key store, derivations, link keys, NTS masters, destruction, the harrow cycle
(R332 to R357). -/

namespace Sys2Proof.Machine
open Sys2Proof

/-- DEVICE_BIND of an ownership generation (R337). -/
def deviceBind (gen : Nat) : List Byte := kdf (fit 16 Config.deviceRoot) "KTG DEVICE BIND" (be 4 gen) 128
/-- The sheaf-signing seed of an ownership generation (R337). -/
def sheafSeed (gen : Nat) : List Byte := kdf (fit 16 Config.deviceRoot) "KTG SHEAF SIGN" (be 4 gen) 256
/-- The sheaf-signing public key in force (R337). -/
def signPublic (s : State) : List Byte := fit 32 (Config.ed25519Public (sheafSeed s.pwr.prov.ownerGen))

/-- The device keys held at boot (R332). -/
def loadDevice (s : State) : State :=
  let ks := [fit 16 Config.deviceRoot, deviceBind s.pwr.prov.ownerGen, storeWrap s.key.wrapGen, sheafSeed s.pwr.prov.ownerGen]
  let r := ks.foldl (fun (a : List Shares × State) k => let x := split k a.2; (a.1 ++ [x.1], x.2)) ([], s)
  { r.2 with key := { r.2.key with device := r.1 } }

/-- E(t, n) (R337). -/
def epochKey (s : State) (t n : Nat) : List Byte :=
  kdf (s.tenant t).shares.open_ "KTG EPOCH" (be 2 t ++ be 4 (n % 2 ^ 32)) 128

/-- Derive both epoch keys of a tenant slot (R338). -/
def deriveEpochs (s : State) (t : Nat) : State :=
  if !(s.tenant t).valid then s
  else
    let a := split (epochKey s t s.key.epoch) s
    let b := split (epochKey s t (s.key.epoch + 1)) a.2
    b.2.setTenant t { b.2.tenant t with epochCur := a.1, epochNext := b.1 }

/-- The next key becomes current and the one after it is derived (R338); `n` is the new epoch. -/
def rollEpoch (s : State) (t : Nat) : State :=
  if !(s.tenant t).valid then s
  else
    let b := split (epochKey s t (s.key.epoch + 1)) s
    b.2.setTenant t { b.2.tenant t with epochCur := (s.tenant t).epochNext, epochNext := b.1 }

/-- n of R338 by the S tile's replica. -/
def epochNow (s : State) : Nat := ftSec (replicaTime s 0) / 65536 % 2 ^ 32

/-- EPOCH_ROLL (R338). -/
def epochRoll (s : State) : State :=
  let n := epochNow s
  let ts := s.key.tenants.map (·.1)
  let s1 := { s with key := { s.key with epoch := n } }
  if n = s.key.epoch then s
  else if n = (s.key.epoch + 1) % 2 ^ 32 then ts.foldl rollEpoch s1
  else ts.foldl deriveEpochs s1

/-- A refused request for a derived key (R340). -/
def countDenied (s : State) : State := { s with key := { s.key with recipientDenied := satInc sat32 s.key.recipientDenied } }

/-- The epoch keys are not in place yet for the epoch of the latest marker (R338). -/
def keysAwaited (s : State) : Bool := decide (epochNow s ≠ s.key.epoch)

/-- A tenant's per-client keys are refused to the crypto pool by its mask (R340). -/
def clientDenied (s : State) (t : Nat) : Bool := (s.tenant t).valid && !bit (s.tenant t).recipients 0

/-- The per-client key of a message (R285, R337, R339): tenant, keyID, client identity, algorithm 1 or 2. -/
def clientKey (s : State) (t keyId : Nat) (client : List Byte) (alg : Nat) : Option (List Byte) :=
  let k := s.tenant t
  if !k.valid || !bit k.recipients 0 then none
  else
    let e := if keyId = s.key.epoch then some k.epochCur
      else if keyId = (s.key.epoch + 1) % 2 ^ 32 then some k.epochNext else none
    e.map (fun x => kdf x.open_ "KTG CLIENT" (client ++ be 1 alg) (if alg = 2 then 256 else 128))

/-- The evidence key of a tenant slot (R337). -/
def evidenceKeyOf (s : State) (t : Nat) : List Byte :=
  kdf (s.tenant t).shares.open_ "KTG EVIDENCE" (be 2 t ++ fit 16 (s.tenant t).inst ++ deviceBind s.pwr.prov.ownerGen) 128

/-- The evidence key for the sealer, cached on first use (R332, R340). -/
def evidenceKey (t : Nat) (s : State) : Option (List Byte) × State :=
  if !(s.tenant t).valid then (none, s)
  else if !bit (s.tenant t).recipients 2 then (none, countDenied s)
  else match s.key.evCache.find? (fun e => e.1 == t) with
    | some e => (some e.2.open_, s)
    | none =>
      let x := split (evidenceKeyOf s t) s
      let c := x.2.key.evCache ++ [(t, x.1)]
      (some x.1.open_, { x.2 with key := { x.2.key with evCache := c.drop (c.length - 64) } })

/-- The link master slot that serves an index (R341). -/
def linkMaster (s : State) (idx : Nat) : Option Nat :=
  (s.key.links.find? (fun e => e.2.valid && e.2.indexGen == idx)).map (·.1)

/-- Replace the link keys of a port. -/
def State.setPk (s : State) (p : Nat) (x : PortKeys) : State :=
  { s with key := { s.key with portKeys := tset {} s.key.portKeys p x } }
/-- The link keys of a port. -/
def State.pk (s : State) (p : Nat) : PortKeys := tget {} s.key.portKeys p

/-- A port's LINK_ID (R269). -/
def linkIdOf (s : State) (p : Nat) : Nat := (s.port p).cfg.linkId.getD p

/-- Derive a port's link key for an index plus 1 (R337, R340, R341). -/
def deriveLink (p ix : Nat) (s : State) : Option Shares × State :=
  if ix = 0 then (none, s)
  else match linkMaster s (ix - 1) with
    | none => (none, s)
    | some m =>
      let k : KeySlot := tget {} s.key.links m
      if !bit k.recipients 1 then (none, countDenied s)
      else
        let x := split (kdf k.shares.open_ "KTG LINK" (be 4 (linkIdOf s p) ++ be 1 (ix - 1)) 128) s
        (some x.1, x.2)

/-- One assignment of an index (plus 1) takes effect at a port: SEND becomes PREV (R341). -/
def assignNow (p : Nat) (s : State) (ix : Nat) : State :=
  let k := s.pk p
  let x := deriveLink p ix s
  x.2.setPk p { k with sendIdx := ix, send := x.1, prevIdx := k.sendIdx, prev := k.send }

/-- A port's assignments waiting for its bout boundary take effect in their order (R341). -/
def applyLinkIndex (p : Nat) (s : State) : State :=
  let k := s.pk p
  k.nextIdx.foldl (assignNow p) (s.setPk p { k with nextIdx := [] })

/-- A changed LINK_ID derives both link keys again (R341). -/
def rederiveLinks (p : Nat) (s : State) : State :=
  let k := s.pk p
  let a := deriveLink p k.sendIdx s
  let b := deriveLink p k.prevIdx a.2
  b.2.setPk p { k with send := a.1, prev := b.1 }

/-- The link key of a port under a KEY_INDEX: SEND or PREV (R341). -/
def linkKey (s : State) (p idx : Nat) : Option (List Byte) :=
  let k := s.pk p
  if k.sendIdx = idx + 1 ∧ k.send.isSome then k.send.map Shares.open_
  else if k.prevIdx = idx + 1 then k.prev.map Shares.open_ else none

/-- A burst sent without a key is counted (R342). -/
def countNoKey (s : State) : State := { s with key := { s.key with noKey := satInc sat32 s.key.noKey } }

/-- Generations left (R347). -/
def gensLeft (s : State) : Nat := 65535 - s.key.wrapGen

/-- A slot number of a list names an EMPTY slot: its place. -/
def emptyAt (s : State) (cls : Nat) : Nat → List Nat → Option Nat
  | _, [] => none
  | i, x :: t => if (keySlot s cls x).valid then emptyAt s cls (i + 1) t else some i

/-- Destroy one slot and its descendants (R345). -/
def destroySlot (cls : Nat) (s : State) (i : Nat) : State :=
  let k := keySlot s cls i
  let s1 := setKeySlot cls i { lastGen := k.lastGen } s
  if !k.valid then s
  else if cls = 1 then { s1 with key := { s1.key with evCache := s1.key.evCache.filter (fun e => e.1 != i) } }
  else if cls = 2 then
    let gone := k.indexGen + 1
    let strip := fun (x : PortKeys) =>
      { x with send := if x.sendIdx = gone then none else x.send, prev := if x.prevIdx = gone then none else x.prev }
    { s1 with key := { s1.key with portKeys := s1.key.portKeys.map (fun e => (e.1, strip e.2)) } }
  else s1

/-- Slots of a class are emptied with their descendants, and the command waits for its flash write (R345, R347). -/
def startInvalidation (id : Nat) (rotate : Bool) (cls : Nat) (slots : List Nat) (s : State) : State :=
  let t := slots.foldl (destroySlot cls) s
  { t with key := { t.key with
      invalidating := t.key.invalidating ++ [⟨id, rotate, slots.map (fun i => (cls, i, keySlot s cls i))⟩] } }

/-- No generation is left for another invalidation (R347). -/
def gensOut (s : State) : Bool := decide (65535 ≤ s.key.wrapGen + s.key.invalidating.length)

/-- Check value of a key (R336). -/
def checkValue (k : List Byte) : List Byte := (cmac (k.take 16) (zeros 16)).take 3

/-- A KEY_WRITE's INDEX_GEN breaks R341 or R343. -/
def indexGenOk (s : State) (cls slot ig : Nat) : Bool :=
  if cls = 2 then (linkMaster s ig).isNone
  else if cls = 3 then decide ((keySlot s 3 slot).lastGen < ig) else true

/-- KEY_WRITE's effect (R336). -/
def writeKey (cls slot recipients ig : Nat) (k : List Byte) (s : State) : State :=
  let x := split k s
  let r := if cls = 1 then drawRandom 16 x.2 else ([], x.2)
  let w : KeySlot :=
    { valid := true, shares := x.1, recipients := recipients, inst := r.1, check := checkValue k, indexGen := ig
      role := if cls = 3 then 1 else 0, lastGen := if cls = 3 then ig else 0 }
  let s1 := setKeySlot cls slot w r.2
  let s2 := writeArea (wrapImage s1 s1.key.wrapGen) s1
  if cls = 1 then deriveEpochs s2 slot else s2

/-- KEY_WRITE (R336, R352). -/
def bodyKeyWrite : Body := fun c s =>
  let p := c.req.payload
  let cls := rd p 0 1
  let slot := rd p 2 2
  let ig := rd p 4 4
  if p.length ≠ 28 ∧ p.length ≠ 44 then badLen s
  else checked s [(0, 1 ≤ cls ∧ cls ≤ 3)]
    (if p.length ≠ 12 + keyLen cls then badLen s
     else checked s
       [(1, rd p 1 1 &&& maskAllowed cls == rd p 1 1), (2, slot < slotCount cls),
        (4, if cls = 1 then ig = 0 else if cls = 2 then ig ≤ 254 else 1 ≤ ig ∧ ig < 2 ^ 28), zeroAt p 8 4]
       (if (keySlot s cls slot).valid then err s stSTATE
        else if !indexGenOk s cls slot ig then bad s 4
        else if s.key.rngFault then err s stINTEGRITY
        else
          let s1 := writeKey cls slot (rd p 1 1) ig (p.drop 12) s
          ok s1 (fit 3 (keySlot s1 cls slot).check ++ zeros 1 ++ le 4 s1.key.wrapGen)))

/-- KEY_INVALIDATE (R345, R347, R353). -/
def bodyKeyInvalidate : Body := fun c s =>
  let p := c.req.payload
  let cls := rd p 0 1
  let n := rd p 1 1
  let slots := (List.range n).map (fun i => rd p (4 + 2 * i) 2)
  if p.length < 4 ∨ p.length ≠ 4 + 2 * n then badLen s
  else checked s
    ([(0, decide (1 ≤ cls ∧ cls ≤ 3)), (1, decide (1 ≤ n ∧ n ≤ 64)), zeroAt p 2 2] ++
      (List.range n).map (fun i => (4 + 2 * i, decide (rd p (4 + 2 * i) 2 < slotCount cls))))
    (match emptyAt s cls 0 slots with
     | some i => bad s (4 + 2 * i)
     | none =>
       if gensOut s then err s stNORES
       else held (startInvalidation c.id false cls slots s))

/-- The NTS roles as they stand after the marker (R344): `new` is CURRENT, the other VALID slots ACCEPT. -/
def rolesAfter (s : State) (new : Nat) : List Nat :=
  (List.range 16).map (fun i => if !(keySlot s 3 i).valid then 0 else if i = new then 2 else 1)

/-- WRAPPED_STORE_WRITTEN (R347): the new image is written, WRAP_GEN advances, the old area is erased, the command replies. -/
def wrappedStoreWritten (s : State) : State :=
  match s.key.invalidating with
  | [] => s
  | x :: rest =>
    let g := s.key.wrapGen + 1
    let t := { s with key := { s.key with wrapGen := g, invalidating := rest } }
    let s1 := writeArea (wrapImage t g) t
    let roles := fun (t : State) => match t.key.rolesNext with
      | some new => rolesAfter t new
      | none => (List.range 16).map (fun i => (keySlot t 3 i).role)
    answerHeld x.slotId (fun _ t =>
      ok t (if x.rotate then (roles t).flatMap (fun r => le 1 r) else le 4 t.key.wrapGen ++ le 4 (gensLeft t))) s1

/-- A slot's record (R354). -/
def keyRecord (s : State) (cls i : Nat) : List Byte :=
  let k := keySlot s cls i
  let sending := (s.key.portKeys.filter (fun e => e.2.sendIdx == k.indexGen + 1 && e.2.send.isSome)).length
  le 2 i ++ le 1 (flag 0 k.valid) ++ le 1 k.recipients ++ fit 3 (if k.valid then k.check else []) ++
  le 1 (if cls = 3 then k.role else 0) ++ le 4 (if cls = 1 then 0 else k.indexGen) ++
  (if cls = 1 then fit 4 k.inst else if cls = 2 ∧ k.valid then le 4 sending else zeros 4)

/-- KEY_STATUS (R354). -/
def bodyKeyStatus : Body := fun c s =>
  let p := c.req.payload
  let cls := rd p 0 1
  let first := rd p 2 2
  let n := rd p 4 2
  if p.length ≠ 8 then badLen s
  else checked s
    [(0, 1 ≤ cls ∧ cls ≤ 3), zeroAt p 1 1, (2, first < slotCount cls),
     (4, 1 ≤ n ∧ n ≤ (if cls = 1 then 128 else 16) ∧ first + n ≤ slotCount cls), zeroAt p 6 2]
    (ok s (le 4 s.key.wrapGen ++ le 4 (gensLeft s) ++ le 4 s.key.epoch ++
      le 1 (flag 0 s.key.storeFault + flag 1 s.key.rngFault) ++ zeros 3 ++ le 4 s.key.recipientDenied ++ le 4 s.key.noKey ++
      signPublic s ++ zeros 8 ++ (List.range n).flatMap (fun i => keyRecord s cls (first + i))))

/-- Assign an index to a port (R341): at its next bout boundary, at once while it has no bouts. -/
def assignIndex (idx : Nat) (s : State) (p : Nat) : State :=
  let s1 := s.setPk p { s.pk p with nextIdx := (s.pk p).nextIdx ++ [idx + 1] }
  if (s.port p).st.state = .disabled then applyLinkIndex p s1 else s1

/-- KEY_ATTR (R340, R341, R355). -/
def bodyKeyAttr : Body := fun c s =>
  let p := c.req.payload
  let cls := rd p 0 1
  let slot := rd p 2 2
  let first := rd p 4 2
  let n := rd p 6 2
  if p.length ≠ 12 then badLen s
  else checked s
    [(0, 1 ≤ cls ∧ cls ≤ 3), (2, slot < slotCount cls), (4, first < 1024), (6, n ≤ 1024 ∧ first + n ≤ 1024), zeroAt p 8 4]
    (let k := keySlot s cls slot
     if !k.valid then err s stSTATE
     else checked s [(1, rd p 1 1 &&& k.recipients == rd p 1 1)]
       (let s1 := keepSlots (setKeySlot cls slot { k with recipients := rd p 1 1 } s)
        let s2 := if cls = 2 then ((List.range n).map (first + ·)).foldl (assignIndex k.indexGen) s1 else s1
        ok s2 (keyRecord s2 cls slot)))

/-- HARROW_STATUS (R356). -/
def bodyHarrowStatus : Body := fun c s =>
  if c.req.payload ≠ [] then badLen s
  else ok s (le 4 s.key.cycles ++ le 2 s.key.position ++ le 1 (flag 0 s.key.paused) ++ zeros 1 ++
    s.key.fCycles.flatMap (fun x => le 4 x) ++ le 4 s.key.delayed ++ zeros 4)

/-- NTS_MASTER_ROTATE (R344, R357). -/
def bodyNtsMasterRotate : Body := fun c s =>
  let p := c.req.payload
  let new := rd p 0 1
  let retire := rd p 1 1
  if p.length ≠ 4 then badLen s
  else checked s
    [(0, new < 16), (1, (retire < 16 ∨ retire = 0xFF) ∧ retire ≠ new), zeroAt p 2 2]
    (if !(keySlot s 3 new).valid then err s stSTATE
     else if retire < 16 ∧ ((keySlot s 3 retire).role = 2 ∨ !(keySlot s 3 retire).valid) then bad s 1
     else if s.key.rngFault then err s stINTEGRITY
     else if retire < 16 ∧ gensOut s then err s stNORES
     else
       let s1 := { s with key := { s.key with rolesNext := some new } }
       if retire < 16 then held (startInvalidation c.id true 3 [retire] s1)
       else ok s1 ((rolesAfter s new).flatMap (fun r => le 1 r)))

/-- Fresh shares for the record of a slot (R348). -/
def visitShares (x : Shares) (valid : Bool) (n : Nat) (s : State) : Shares × State :=
  let r := drawRandom n s
  if valid then (remask x r.1, r.2)
  else
    let q := drawRandom n r.2
    (⟨r.1, q.1⟩, q.2)

/-- One position of the key store is visited (R348): the regions in the order of their table. -/
def visitPosition (n : Nat) (s : State) : State :=
  if n < 4096 then
    let k := s.tenant n
    let x := visitShares k.shares k.valid 16 s
    x.2.setTenant n { k with shares := x.1 }
  else if n < 12288 then
    let t := (n - 4096) / 2
    let k := s.tenant t
    let x := visitShares (if n % 2 = 0 then k.epochCur else k.epochNext) k.valid 16 s
    x.2.setTenant t (if n % 2 = 0 then { k with epochCur := x.1 } else { k with epochNext := x.1 })
  else if n < 12352 then
    match s.key.evCache[n - 12288]? with
    | some e =>
      let x := visitShares e.2 true 16 s
      { x.2 with key := { x.2.key with evCache := x.2.key.evCache.set (n - 12288) (e.1, x.1) } }
    | none =>
      let x := visitShares {} false 16 s
      { x.2 with key := { x.2.key with evEmpty := tset {} x.2.key.evEmpty (n - 12288) x.1 } }
  else if n < 12384 then
    let cls := if n < 12368 then 2 else 3
    let i := (n - 12352) % 16
    let k := keySlot s cls i
    let x := visitShares k.shares k.valid (keyLen cls) s
    setKeySlot cls i { k with shares := x.1 } x.2
  else if n < 12388 then
    match s.key.device[n - 12384]? with
    | some e =>
      let x := visitShares e true (if n < 12386 then 16 else 32) s
      { x.2 with key := { x.2.key with device := x.2.key.device.set (n - 12384) x.1 } }
    | none => s
  else s

/-- The link keys of one port are re-masked in its F tile (R342). -/
def visitPort (s : State) (p : Nat) : State :=
  let k := s.pk p
  let a := match k.send with
    | some x => let y := visitShares x true 16 s; (some y.1, y.2)
    | none => (none, s)
  let b := match k.prev with
    | some x => let y := visitShares x true 16 a.2; (some y.1, y.2)
    | none => (none, a.2)
  b.2.setPk p { k with send := a.1, prev := b.1 }

/-- The interval between visits, 15,625 µs in ns (R348). -/
def visitNs : Nat := 15625000

/-- HARROW_VISIT (R342, R348, R349): each F tile visits the keys of one port at every 64th position. -/
def harrowVisit (s : State) : State :=
  let due := s.key.lastVisit + visitNs
  if s.key.paused || decide (s.pwr.sState = 0) || decide (s.now < due) then s
  else
    let n := s.key.position
    let s1 := visitPosition n s
    let s2 := if n % 64 = 0 then [0, 1, 2, 3].foldl (fun t f => visitPort t (f * 256 + n / 64)) s1 else s1
    let wrap := decide (n = 16383)
    { s2 with key := { s2.key with
        position := (n + 1) % 16384, lastVisit := due
        cycles := if wrap then satInc sat32 s2.key.cycles else s2.key.cycles
        fCycles := if wrap then s2.key.fCycles.map (satInc sat32) else s2.key.fCycles
        delayed := if due + 1000 < s.now then satInc sat32 s2.key.delayed else s2.key.delayed } }

/-- RNG_HEALTH_FAIL (R349). -/
def rngHealthFail (s : State) : State :=
  setCond 3 2 true { s with key := { s.key with rngFault := true, paused := true } }

/-- The source passes its start-up tests again (R349); the visits go on from now. -/
def rngRecover (s : State) : State :=
  setCond 3 2 false { s with key := { s.key with rngFault := false, paused := false, lastVisit := s.now } }

/-- KEY_WRITE (R352). -/
def execKeyWrite (rq : Request) (s : State) : Out := kcpRow 0x0B01 (leastPriv s 0x0B01 rq.payload) bodyKeyWrite rq s
/-- KEY_INVALIDATE (R353). -/
def execKeyInvalidate (rq : Request) (s : State) : Out := kcpRow 0x0B02 (leastPriv s 0x0B02 rq.payload) bodyKeyInvalidate rq s
/-- KEY_STATUS (R354). -/
def execKeyStatus (rq : Request) (s : State) : Out := kcpRow 0x0B03 (leastPriv s 0x0B03 rq.payload) bodyKeyStatus rq s
/-- KEY_ATTR (R355). -/
def execKeyAttr (rq : Request) (s : State) : Out := kcpRow 0x0B04 (leastPriv s 0x0B04 rq.payload) bodyKeyAttr rq s
/-- HARROW_STATUS (R356). -/
def execHarrowStatus (rq : Request) (s : State) : Out := kcpRow 0x0B05 (leastPriv s 0x0B05 rq.payload) bodyHarrowStatus rq s
/-- NTS_MASTER_ROTATE (R357). -/
def execNtsMasterRotate (rq : Request) (s : State) : Out := kcpRow 0x0B06 (leastPriv s 0x0B06 rq.payload) bodyNtsMasterRotate rq s
/-- EPOCH_ROLL (R338). -/
def execEpochRoll (s : State) : Out := done s (epochRoll s)
/-- HARROW_VISIT (R348). -/
def execHarrowVisit (s : State) : Out := done s (harrowVisit s)
/-- RNG_HEALTH_FAIL (R349). -/
def execRngHealthFail (s : State) : Out := done s (rngHealthFail s)
/-- WRAPPED_STORE_WRITTEN (R347). -/
def execWrappedStoreWritten (s : State) : Out := doneHeld s (wrappedStoreWritten s)

end Sys2Proof.Machine
end

