-- ==== Sys2Proof/Machine/Evd.lean ====
section
/-! DEFINITION. Evidence: records, drops, gaps and marks, sheaves, staging, the store on NVMe drives, the commands of
group 0x0C (R358 to R387). -/

namespace Sys2Proof.Machine
open Sys2Proof

/-- The largest 64-bit count. -/
def sat64 : Nat := 0xFFFFFFFFFFFFFFFF
/-- Record slots of a sheaf (R366). -/
def sheafSlots : Nat := 4064

/-- The FILLING sheaf (R368). -/
def filling (s : State) : Option Sheaf := s.evd.staged.find? (fun x => x.phase == .filling)

/-- Change a staged sheaf. -/
def updSheaf (i : Nat) (f : Sheaf → Sheaf) (s : State) : State :=
  { s with evd := { s.evd with staged := s.evd.staged.map (fun x => if x.index = i then f x else x) } }

/-- Namespaces of the store, in the order of their ordinals (R371). -/
def storeNs (s : State) : List Ns :=
  (List.range 32).filterMap (fun o => s.evd.ns.find? (fun n => n.ordinal == some o))

/-- n of the store (R371). -/
def ringWidth (s : State) : Nat := (s.evd.ns.filter (fun n => n.ordinal.isSome)).length

/-- Sheaf positions of a namespace (R371). -/
def nsPositions (n : Ns) : Nat := (n.lbas * 4096 - 1048576) / 131072

/-- S of the store (R371). -/
def ringDepth (s : State) : Nat :=
  match storeNs s with
  | [] => 0
  | a :: t => min (t.foldl (fun m n => min m (nsPositions n)) (nsPositions a)) (2 ^ 35 / ringWidth s)

/-- N of the store (R371). -/
def ringSize (s : State) : Nat := ringWidth s * ringDepth s

/-- The ring position of sheaf `i` (R371). -/
def ringPos (s : State) (i : Nat) : Nat := i % ringSize s
/-- The ordinal of the namespace of a ring position (R371). -/
def posOrdinal (s : State) (p : Nat) : Nat := p % ringWidth s
/-- The starting LBA of a ring position (R371). -/
def posLba (s : State) (p : Nat) : Nat := 256 + 32 * (p / ringWidth s)

/-- Change the namespace of an ordinal. -/
def updNs (o : Nat) (f : Ns → Ns) (s : State) : State :=
  { s with evd := { s.evd with ns := s.evd.ns.map (fun n => if n.ordinal = some o then f n else n) } }

/-- The namespace whose queue pair an operation goes to. -/
def opOrdinal (s : State) : NvKind → Nat
  | .sheaf i _ => posOrdinal s (ringPos s i)
  | .super o _ => o
  | .read _ i => posOrdinal s (ringPos s i)

/-- A namespace's queue pair of depth 64 has a free entry (R374). -/
def queueFree64 (s : State) (o : Nat) : Bool :=
  decide ((s.evd.ops.filter (fun x => x.issued && decide (opOrdinal s x.kind = o))).length < 64)

/-- Issue an operation to the drives, or let it wait for an entry of its queue pair (R374). -/
def issue (k : NvKind) (s : State) : State :=
  { s with evd := { s.evd with ops := s.evd.ops ++ [⟨k, queueFree64 s (opOrdinal s k), false, s.now⟩] } }

/-- An operation is over: its queue entry goes to the oldest one that waits for it (R374). -/
def retire (x : NvOp) (s : State) : State :=
  let o := opOrdinal s x.kind
  let l := s.evd.ops.erase x
  let k := l.findIdx (fun y => !y.issued && decide (opOrdinal s y.kind = o))
  { s with evd := { s.evd with ops := l.modify k (fun y => { y with issued := true, since := s.now }) } }

/-- The fields of a superblock copy that its digest is over (R376); no rule gives their layout (DESIGN CHOICE, log entry 34). -/
def superBytes (b : Super) : List Byte :=
  ascii 8 "KTGSTORE" ++ le 8 b.store ++ le 1 b.ordinal ++ le 1 b.n ++ le 8 b.depth ++ le 8 b.reserved ++ le 1 b.running.toNat ++
  le 4 b.retain ++ le 8 b.hold ++ le 4 b.epoch ++ le 8 b.seq

/-- A copy with its digest (R376). -/
def superCopy (b : Super) : SuperCopy := ⟨b, sha384 (superBytes b)⟩

/-- A copy whose digest verifies (R376). -/
def verifiedCopy (c : Option SuperCopy) : Option Super :=
  match c with
  | some x => if x.digest = sha384 (superBytes x.body) then some x.body else none
  | none => none

/-- Whether the copy at LBA 0 is in force (R376). -/
def copyAInForce (n : Ns) : Bool :=
  match verifiedCopy n.copyA, verifiedCopy n.copyB with
  | some a, some b => decide (b.seq < a.seq)
  | some _, none => true
  | none, _ => false

/-- The superblock in force (R376): the copy with the higher sequence whose digest verifies. -/
def superOf (n : Ns) : Option Super := if copyAInForce n then verifiedCopy n.copyA else verifiedCopy n.copyB

/-- A write of the superblocks is in progress. -/
def writingSupers (s : State) : Bool := s.evd.ops.any (fun o => match o.kind with | .super _ _ => true | _ => false)

/-- The superblock to be written to a namespace (R376). -/
def superNow (s : State) (n : Ns) : Super :=
  { store := s.evd.storeId, ordinal := n.ordinal.getD 0, n := ringWidth s, depth := ringDepth s, reserved := s.evd.reserveTo
    running := s.evd.recordRunning, retain := s.evd.minRetain, hold := s.evd.holdFrom, epoch := s.evd.retEpoch
    seq := ((superOf n).map (fun b => b.seq + 1)).getD 1 }

/-- Write the superblock of every namespace of the store (R376), once a write of them in progress is done. -/
def writeSupers (s : State) : State :=
  if writingSupers s then { s with evd := { s.evd with superDue := true } }
  else (storeNs s).foldl (fun t n => issue (.super (n.ordinal.getD 0) (superNow s n)) t)
    { s with evd := { s.evd with superDue := false } }

/-- RESERVED_UPTO advanced by 65,536 as often as index `i` asks (R370). -/
def reserveFor (r i : Nat) : Nat := if i < r then r else r + 65536 * ((i - r) / 65536 + 1)

/-- RESERVED_UPTO is advanced before an index at or above it is used (R370): one staging of 64 sheaves ahead, so that no record
waits for the write. -/
def reserve (s : State) : State :=
  let u := reserveFor s.evd.reservedUpto (s.evd.nextIndex + 64)
  if s.evd.store = 0 ∨ s.evd.store = 3 ∨ u ≤ s.evd.reserveTo then s
  else writeSupers { s with evd := { s.evd with reserveTo := u } }

/-- The next index may be used (R370): every superblock holds a RESERVED_UPTO above it, or there is no store. Before the
enumeration of a module reset it is not known (DESIGN CHOICE, log entry 34). -/
def indexReady (s : State) : Bool :=
  if s.evd.store = 0 then !s.evd.enumDue else decide (s.evd.nextIndex < s.evd.reservedUpto)

/-- A FREE buffer becomes FILLING (R369) with the next index. -/
def openSheaf (s : State) : State :=
  let t := reserve s
  if indexReady t then
    { t with evd := { t.evd with
        staged := t.evd.staged ++ [{ index := t.evd.nextIndex }], nextIndex := t.evd.nextIndex + 1 } }
  else t

/-- A full sheaf closes (R368). -/
def closeFull (s : State) : State :=
  match filling s with
  | some x =>
    if sheafSlots ≤ x.records.length then updSheaf x.index (fun y => { y with phase := .closed, close := 0 }) s else s
  | none => s

/-- A buffer with a free slot, when one can be had (R369). -/
def rotateSheaf (s : State) : State :=
  let t := closeFull s
  if (filling t).isNone && decide (t.evd.staged.length < 64) then openSheaf t else t

/-- Allocate the next slot (R368): its record is made from its sheaf index and slot. -/
def pushRec (mk : Nat → Nat → EvRec) (s : State) : Option (Nat × Nat) × State :=
  let t := rotateSheaf s
  match filling t with
  | none => (none, t)
  | some x =>
    let k := x.records.length
    (some (x.index, k), updSheaf x.index
      (fun y => { y with records := y.records ++ [mk x.index k], firstAt := some (y.firstAt.getD t.now) }) t)

/-- The account of a drop cause (R363): 1 NO_STAGING, 2 NO_KEY. -/
def dropAcc (s : State) (cause : Nat) : DropAcc := if cause = 1 then s.evd.noStaging else s.evd.noKey
/-- Replace the account of a drop cause. -/
def setDropAcc (cause : Nat) (a : DropAcc) (s : State) : State :=
  if cause = 1 then { s with evd := { s.evd with noStaging := a } } else { s with evd := { s.evd with noKey := a } }

/-- The S tile's field time in whole microseconds. -/
def nowUs (s : State) : Nat := ftUs (replicaTime s 0)

/-- A record is dropped (R363, R364). -/
def evDrop (cause : Nat) (s : State) : State :=
  let a := dropAcc s cause
  setDropAcc cause { a with
    count := satInc sat64 a.count, firstUs := if a.count = 0 then nowUs s else a.firstUs, lastUs := nowUs s
    total := satInc sat64 a.total } s

/-- Bytes 2 to 31 of a GAP record (R364). -/
def gapBody (cause : Nat) (a : DropAcc) : List Byte :=
  le 1 cause ++ zeros 1 ++ le 8 a.count ++ le 8 a.firstUs ++ le 8 a.lastUs ++ zeros 4

/-- Write the GAP record of a cause (R364). -/
def writeGap (s : State) (cause : Nat) : State :=
  let a := dropAcc s cause
  match pushRec (fun _ _ => { kind := 3, body := gapBody cause a }) s with
  | (none, t) => t
  | (some _, t) => perfAdd 0x0502 1 (setDropAcc cause { a with count := 0, lastGap := some s.now } t)

/-- A GAP record is due at a slot allocation (R364). -/
def gapDue (s : State) (cause : Nat) : Bool :=
  let a := dropAcc s cause
  decide (a.count ≠ 0) && (match a.lastGap with | none => true | some t => decide (t + 1000000 ≤ s.now))

/-- The GAP records due, before the record that asks for a slot (R364). -/
def dueGaps (s : State) : State := [1, 2].foldl (fun t c => if gapDue t c then writeGap t c else t) s

/-- Bytes 2 to 31 of a SERVED record in plaintext (R359). -/
def servedPlain (d : EvData) : List Byte :=
  let t := d.time.getD 0
  le 2 0x4B54 ++ (sha384 d.client).take 8 ++ le 4 (ftSec t) ++ le 4 (ftNs t) ++ le 1 (ftFrac t / 2 ^ 24) ++
  le 1 (d.exchange * 16 + d.svcDomain) ++ le 2 d.port ++ le 4 d.bound ++ le 1 d.clockClass ++ le 1 d.flags ++ le 2 d.seq

/-- The cipher of a slot (R361): ciphertext of plaintext and back. -/
def slotCipher (k : List Byte) (index slot : Nat) (b : List Byte) : List Byte :=
  fit 30 (aesCtr k (be 8 index ++ be 2 slot ++ zeros 6) b)

/-- The first 30 bytes of a slot's keystream (R361). -/
def slotStream (k : List Byte) (index slot : Nat) : List Byte := slotCipher k index slot (zeros 30)

/-- Bytes under a keystream (R361). -/
def underStream (plain stream : List Byte) : List Byte := fit 30 (toBytes (xorNats (toNats plain) (toNats stream)))

/-- Records were created up to 2^24 in this second (R369). -/
def rateOk (s : State) : Bool := !(decide (s.evd.rateSec = s.now / 1000000000) && decide (2 ^ 24 ≤ s.evd.rateCount))

/-- One record more in this second. -/
def countRate (s : State) : State :=
  let sec := s.now / 1000000000
  { s with evd := { s.evd with rateSec := sec, rateCount := if s.evd.rateSec = sec then s.evd.rateCount + 1 else 1 } }

/-- A served time of a sheaf (R366). -/
def noteTime (index : Nat) (t : Option FieldTime) (s : State) : State :=
  match t with
  | none => s
  | some u => updSheaf index (fun x => { x with
      firstTime := some (min u (x.firstTime.getD u)), lastTime := some (max u (x.lastTime.getD u)) }) s

/-- A new SERVED record in its slot (R361). A one-step Sync's, whose time is not known yet, is encrypted once, at its commit. -/
def servedRecord (k : List Byte) (d : EvData) (tag i n : Nat) : EvRec :=
  if d.time.isNone then { kind := 1, tenant := d.tenant, pending := some tag, draft := some (servedPlain d, slotStream k i n) }
  else { kind := 1, tenant := d.tenant, pending := some tag, body := slotCipher k i n (servedPlain d) }

/-- Create the record of a served exchange of task `tag` (R295, R361 to R364); no place: dropped and counted. -/
def createRecord (d : EvData) (tag : Nat) (s : State) : Option (Nat × Nat) × State :=
  match evidenceKey d.tenant s with
  | (none, t) => (none, evDrop 2 t)
  | (some k, t) =>
    if !rateOk t then (none, evDrop 1 t)
    else
      match pushRec (servedRecord k d tag) (dueGaps t) with
      | (none, u) => (none, evDrop 1 u)
      | (some p, u) =>
        let v := noteTime p.1 d.time (countRate u)
        (some p, perfAdd 0x0500 1 { v with evd := { v.evd with served := satInc sat64 v.evd.served } })

/-- Change the record of a slot. -/
def updRec (p : Nat × Nat) (f : EvRec → EvRec) (s : State) : State :=
  updSheaf p.1 (fun x => { x with records := x.records.modify p.2 f }) s

/-- The record of a slot of a staged sheaf. -/
def recordAt (s : State) (p : Nat × Nat) : Option EvRec :=
  (s.evd.staged.find? (fun x => x.index == p.1)).bind (fun x => x.records[p.2]?)

/-- A drafted record is encrypted, its one time under its pair of index and slot (R361). -/
def encryptDraft (plain : List Byte → List Byte) (r : EvRec) : EvRec :=
  match r.draft with
  | some x => { r with body := underStream (plain x.1) x.2, draft := none }
  | none => r

/-- The time and bound of a one-step Sync are fixed at its commit (R288, R295). -/
def completeRecord (p : Nat × Nat) (d : EvData) (s : State) : State :=
  noteTime p.1 d.time (updRec p (encryptDraft (fun _ => servedPlain d)) s)

/-- The record of a message withdrawn, stomped or not sent becomes a void record (R362), in a sheaf not sealed yet. -/
def voidRecord (p : Nat × Nat) (s : State) : State :=
  match recordAt s p with
  | some r =>
    if r.kind = 1 ∧ (r.pending.isSome ∨ r.started) then
      let t := updRec p (fun r => { encryptDraft id r with kind := 2, pending := none, started := false }) s
      perfAdd 0x0501 1 { t with evd := { t.evd with voids := satInc sat64 t.evd.voids } }
    else s
  | none => s

/-- The message of a record has started (R362). -/
def startRecord (p : Nat × Nat) (s : State) : State := updRec p (fun r => { r with started := true }) s

/-- The frame of a record is still on the wire. -/
def onWire (s : State) (p : Nat × Nat) : Bool :=
  s.eth.any (fun e => e.2.inFlight.any (fun f => f.record == some p && decide (s.now * 1000 < f.ends)))

/-- A record is neither started nor of a message still to be sent. -/
def messageGone (s : State) (p : Nat × Nat) (tag : Nat) : Bool :=
  s.eth.all (fun e =>
    !e.2.queues.any (fun q => q.2.any (fun f => f.record == some p)) && !e.2.committedQ.any (fun f => f.record == some p)) &&
  !s.eng.engines.any (fun e => e.2.threads.any (fun t => t.2.task.any (fun k => k.tag == tag)))

/-- RECORD_RESOLVE (R362): a started message is reported once its frame has left the wire, where it can still be stomped. -/
def recordResolve (p : Nat × Nat) (s : State) : State :=
  match recordAt s p with
  | some r =>
    match r.pending with
    | some tag =>
      if r.started then (if onWire s p then s else updRec p (fun r => { r with pending := none, started := false }) s)
      else if messageGone s p tag then voidRecord p s else s
    | none => s
  | none => s

/-- Bytes 2 to 31 of a MARK record (R365). -/
def markBody (m : MarkDue) : List Byte := zeros 2 ++ le 8 m.fromUs ++ le 8 m.toUs ++ le 8 m.excess ++ le 4 m.logSeq

/-- Write the oldest MARK record due (R365). -/
def markWrite (s : State) : State :=
  match s.evd.marksDue with
  | [] => s
  | m :: rest =>
    match pushRec (fun _ _ => { kind := 4, body := markBody m }) (dueGaps s) with
    | (none, t) => t
    | (some _, t) => perfAdd 0x0503 1 { t with evd := { t.evd with marksDue := rest, marks := satInc sat64 t.evd.marks } }

/-- The FILLING sheaf has a free slot. -/
def roomLeft (s : State) : Bool := (filling s).any (fun x => decide (x.records.length < sheafSlots))

/-- Before a sheaf is closed, the counts and marks due go into its free slots (R364, R368). -/
def fillDue (s : State) : State :=
  let a := [1, 2].foldl (fun t c => if roomLeft t && decide ((dropAcc t c).count ≠ 0) then writeGap t c else t) s
  a.evd.marksDue.foldl (fun t _ => if roomLeft t then markWrite t else t) a

/-- Close the FILLING sheaf (R368): 0 full, 1 age, 2 flush, 3 stop. -/
def closeSheaf (why : Nat) (s : State) : State :=
  match filling s with
  | none => s
  | some x =>
    if sheafSlots ≤ x.records.length then closeFull s
    else updSheaf x.index (fun y => { y with phase := .closed, close := why }) (fillDue s)

/-- SHEAF_CLOSE (R368): the last slot is allocated. -/
def sheafClose (s : State) : State := closeFull s

/-- SHEAF_AGE_CLOSE (R368). -/
def sheafAgeClose (s : State) : State :=
  match filling s with
  | some x =>
    if x.firstAt.any (fun t => decide (t + s.evd.cfg.sealAge * 1000000 ≤ s.now)) then closeSheaf 1 s else s
  | none => s

/-- A record slot as stored (R358). -/
def slotBytes (r : EvRec) : List Byte := le 2 (r.kind * 4096 + r.tenant) ++ fit 30 r.body

/-- One level of the Merkle tree up (R367). -/
def merkleUp : List (List Byte) → List (List Byte)
  | a :: b :: t => sha384 (le 1 1 ++ a ++ b) :: merkleUp t
  | l => l

/-- MERKLE_ROOT of the slots (R367). -/
def merkleRoot (l : List EvRec) : List Byte :=
  let leaves := (l.map slotBytes ++ List.replicate (4096 - l.length) (zeros 32)).map (fun b => sha384 (zeros 1 ++ b))
  ((List.range 12).foldl (fun x _ => merkleUp x) leaves).headD []

/-- Header bytes 0 to 447 of a sheaf (R366). -/
def headerBody (s : State) (x : Sheaf) : List Byte :=
  let n := fun k => (x.records.filter (fun r => r.kind == k)).length
  ascii 8 "KTGSHEAF" ++ le 1 1 ++ le 1 x.close ++ le 2 x.records.length ++ le 4 s.pwr.prov.ownerGen ++ le 8 x.index ++
  le 8 Config.serial ++ le 8 s.evd.storeId ++ le 8 (s.evd.prevIndex.getD sat64) ++ leTime (x.firstTime.getD 0) ++
  leTime (x.lastTime.getD 0) ++ leTime x.sealedAt ++ le 2 (n 1) ++ le 2 (n 2) ++ le 2 (n 3) ++ le 2 (n 4) ++
  le 4 s.evd.retEpoch ++ le 1 (flag 0 x.restart) ++ zeros 3 ++ fit 48 s.evd.prevHash ++ fit 48 (merkleRoot x.records) ++
  zeros 240

/-- The signature over a header's bytes 0 to 447 (R366, R367). -/
def sheafSign (ownerGen : Nat) (b : List Byte) : List Byte := fit 64 (Config.ed25519Sign (sheafSeed ownerGen) b)

/-- SHEAF_HASH (R366). -/
def sheafHash (header : List Byte) : List Byte := sha384 (header.take 512)

/-- SHEAF_SEAL (R368): the oldest sheaf not sealed, once it is closed and none of its records is PENDING. -/
def sheafSeal (s : State) : State :=
  match s.evd.staged.find? (fun x => x.phase == .filling || x.phase == .closed) with
  | none => s
  | some x =>
    if x.phase = .closed ∧ x.records.all (fun r => r.pending.isNone) then
      let y := { x with sealedAt := replicaTime s 0, restart := s.evd.restart }
      let b := headerBody s y
      let h := b ++ sheafSign s.pwr.prov.ownerGen b ++ zeros 512
      let t := updSheaf x.index (fun _ => { y with header := h, phase := .sealed }) s
      { t with evd := { t.evd with
          prevIndex := some x.index, prevHash := sheafHash h, restart := false, sheaves := satInc sat64 t.evd.sheaves } }
    else s

/-- A header's signature verifies (R366, R373). -/
def sigOk (header : List Byte) : Bool :=
  decide ((header.drop 448).take 64 = sheafSign (rd header 12 4) (header.take 448))

/-- What stands at a ring position (R371). -/
def driveAt (s : State) (p : Nat) : Option DriveSheaf :=
  (s.evd.ns.find? (fun n => n.ordinal == some (posOrdinal s p))).map (fun n => tget {} n.sheaves (posLba s p))

/-- A position holds a sheaf (R373): MAGIC, STORE_ID, a SHEAF_INDEX of the position, the signature. -/
def holdsSheaf (s : State) (p : Nat) (d : DriveSheaf) : Bool :=
  decide (d.header.take 8 = ascii 8 "KTGSHEAF") && decide (rd d.header 32 8 = s.evd.storeId) &&
  decide (ringPos s (rd d.header 16 8) = p) && sigOk d.header

/-- The slots that stand at a position. -/
def driveSlots (d : DriveSheaf) : List EvRec :=
  if d.high = [] then d.low else d.low ++ List.replicate (96 - d.low.length) ({} : EvRec) ++ d.high

/-- A sheaf read from a drive: its index, its slots and its header. -/
def readSheaf (d : DriveSheaf) : Sheaf := { index := rd d.header 16 8, records := driveSlots d, header := d.header }

/-- The sheaf at a ring position, when the position holds one (R373). -/
def storedAt (s : State) (p : Nat) : Option Sheaf :=
  match driveAt s p with
  | some d => if holdsSheaf s p d then some (readSheaf d) else none
  | none => none

/-- Every position of the store that has been written, and what stands there. -/
def written (s : State) : List (Nat × DriveSheaf) :=
  (storeNs s).flatMap (fun n => n.sheaves.map (fun e => ((e.1 - 256) / 32 * ringWidth s + n.ordinal.getD 0, e.2)))

/-- The sheaves in the ring (R373). -/
def ringSheaves (s : State) : List (Nat × Sheaf) :=
  ((written s).filter (fun e => holdsSheaf s e.1 e.2)).map (fun e => (e.1, readSheaf e.2))

/-- A stored sheaf is retained (R379). -/
def retained (s : State) (x : Sheaf) : Bool :=
  decide (s.evd.holdFrom ≤ x.index) || decide (replicaTime s 0 < rdTime x.header 80 + s.evd.minRetain * s1)

/-- A write to a ring position is in progress. -/
def writingAt (s : State) (p : Nat) : Bool :=
  s.evd.ops.any (fun o => match o.kind with | .sheaf i _ => ringPos s i == p | _ => false)

/-- SHEAF_WRITE (R373, R379): the oldest SEALED sheaf, when the sheaf at its position is not retained and none is being written
there. Its LBAs 1 to 31 are written first. -/
def sheafWrite (s : State) : State :=
  match s.evd.staged.find? (fun x => x.phase == .sealed) with
  | none => s
  | some x =>
    let p := ringPos s x.index
    if s.evd.store ≠ 2 ∨ ringSize s = 0 ∨ (storedAt s p).any (retained s) ∨ writingAt s p then s
    else issue (.sheaf x.index false) (updSheaf x.index (fun y => { y with phase := .writing }) s)

/-- Staging is written (R383). -/
def stagingWritten (s : State) : Bool := s.evd.staged.all (fun x => x.phase == .filling)

/-- STOP ends once staging is written and the superblocks record it (R377, R383). -/
def stopCheck (s : State) : State :=
  if s.evd.stopping && stagingWritten s && s.evd.recordRunning then
    writeSupers { s with evd := { s.evd with recordRunning := false } }
  else s

/-- Change what stands at the ring position of sheaf `i`. -/
def onDrive (i : Nat) (f : DriveSheaf → DriveSheaf) (s : State) : State :=
  let p := ringPos s i
  updNs (posOrdinal s p) (fun n => { n with sheaves := tmod {} n.sheaves (posLba s p) f }) s

/-- A write of a sheaf is done (R369, R373): after LBAs 1 to 31 its LBA 0 is written; with that the sheaf is stored and its
buffer FREE. -/
def sheafWritten (i : Nat) (head : Bool) (s : State) : State :=
  match s.evd.staged.find? (fun x => x.index == i) with
  | none => s
  | some x =>
    if head then
      let t := onDrive i (fun d => { d with header := x.header, low := x.records.take 96 }) s
      stopCheck (perfAdd 0x0504 1 (perfAdd 0x0505 1
        { t with evd := { t.evd with staged := t.evd.staged.filter (fun y => y.index != i) } }))
    else issue (.sheaf i true) (perfAdd 0x0505 31 (onDrive i (fun d => { d with high := x.records.drop 96 }) s))

/-- A superblock is written, in turn (R376): over the copy that is not in force. -/
def placeSuper (b : Super) (n : Ns) : Ns :=
  if copyAInForce n then { n with copyB := some (superCopy b) } else { n with copyA := some (superCopy b) }

/-- Every superblock holds what was written (R370, R376, R377): the reservation is in force; FORMAT leaves the store STOPPED,
START leaves it RUNNING, STOP leaves it STOPPED. -/
def supersDone (b : Super) (s : State) : State :=
  if s.evd.store = 3 then s
  else
    let e := { s.evd with reservedUpto := b.reserved }
    let f :=
      if s.evd.store = 0 ∧ b.store = s.evd.storeId then
        { e with store := 1, prevIndex := none, prevHash := [], nextIndex := if e.staged = [] then 0 else e.nextIndex }
      else if s.evd.starting ∧ b.running then { e with store := 2, starting := false }
      else if s.evd.stopping ∧ !b.running then { e with store := 1, stopping := false }
      else e
    let t := { s with evd := f }
    if f.superDue then writeSupers t else t

/-- The superblock of a namespace is written (R376). -/
def superWritten (o : Nat) (b : Super) (s : State) : State :=
  let t := perfAdd 0x0505 1 (updNs o (placeSuper b) s)
  if writingSupers t then t else supersDone b t

/-- An operation is issued once more (R375, R491). -/
def retryOp (o : NvOp) (s : State) : State :=
  { s with evd := { s.evd with ops := s.evd.ops.map (fun x => if x = o then { x with retried := true, since := s.now } else x) } }

/-- A failed write (R375): retried once; a second failure puts the store in FAULT. -/
def writeFailed (o : NvOp) (s : State) : State :=
  if o.retried then
    let r := retire o s
    let t := { r with evd := { r.evd with store := 3, stopping := false, starting := false } }
    setCond 4 1 true (match o.kind with
      | .sheaf i _ => updSheaf i (fun y => { y with phase := .sealed }) t
      | _ => t)
  else
    let t := retryOp o s
    { t with evd := { t.evd with retries := satInc sat64 t.evd.retries } }

/-- Bytes of a sheaf (R366). -/
def sheafBytes (x : Sheaf) : List Byte :=
  fit 1024 x.header ++ x.records.flatMap slotBytes ++ zeros (32 * (sheafSlots - x.records.length))

/-- One unit of EVD_SHEAF_READ: as stored, or decrypted under its tenant's evidence key (R387). -/
def readUnit (decrypt : Bool) (x : Sheaf) (a : List Byte × Nat × State) (k u : Nat) : List Byte × Nat × State :=
  let raw := ((sheafBytes x).drop (32 * u)).take 32
  let r := x.records.getD (u - 32) {}
  if !decrypt || decide (u < 32) || !(decide (r.kind = 1) || decide (r.kind = 2)) then (a.1 ++ raw, a.2.1, a.2.2)
  else
    match evidenceKey r.tenant a.2.2 with
    | (none, t) => (a.1 ++ raw, a.2.1, t)
    | (some key, t) =>
      let plain := slotCipher key x.index (u - 32) r.body
      if rd plain 0 2 = 0x4B54 then (a.1 ++ raw.take 2 ++ plain, a.2.1 + 2 ^ k, t) else (a.1 ++ raw, a.2.1, t)

/-- The sheaf's records give its MERKLE_ROOT (R367). -/
def rootOk (x : Sheaf) : Bool := decide ((x.header.drop 160).take 48 = fit 48 (merkleRoot x.records))

/-- The reply of EVD_SHEAF_READ from a sheaf (R387). -/
def sheafReply (p : List Byte) (x : Sheaf) (staging : Bool) (s : State) : Res :=
  let n := rd p 12 2 / 32
  let first := rd p 8 4 / 32
  let f := rd p 14 1
  let r := (List.range n).foldl (fun a k => readUnit (bit f 0) x a k (first + k)) ([], 0, s)
  ok r.2.2 (le 8 x.index ++
    le 1 (flag 0 (bit f 1 && sigOk x.header) + flag 1 (bit f 1 && rootOk x) + flag 2 staging) ++ zeros 1 ++ le 2 n ++ zeros 4 ++
    le 16 r.2.1 ++ r.1)

/-- The answer of an EVD_SHEAF_READ whose drive reads are done (R387). -/
def readAnswer (good : Bool) (c : Cmd) (s : State) : Res :=
  let i := rd c.req.payload 0 8
  match if good then storedAt s (ringPos s i) else none with
  | some x => if x.index = i then sheafReply c.req.payload x false s else err s stINTEGRITY
  | none => err s stINTEGRITY

/-- NVME_COMPLETION (R374, R375): an operation on the drives completes, or fails. -/
def nvmeCompletion (w : NvmeDone) (s : State) : State :=
  match (s.evd.ops.filter (fun o => o.issued))[w.nth]? with
  | none => s
  | some o =>
    match o.kind with
    | .read id _ => if w.ok || o.retried then answerHeld id (readAnswer w.ok) (retire o s) else retryOp o s
    | .sheaf i head => if w.ok then sheafWritten i head (retire o s) else writeFailed o s
    | .super n b => if w.ok then superWritten n b (retire o s) else writeFailed o s

/-- An operation past its 1 s (R374, R375). -/
def opLate (s : State) (o : NvOp) : Bool := o.issued && decide (o.since + 1000000000 ≤ s.now)

/-- NVME_WRITE_TIMEOUT (R374, R375, R491): the command is aborted; a write has failed; a read is made once more, then its
command answers TIMEOUT. -/
def nvmeWriteTimeout (s : State) : State :=
  match s.evd.ops.find? (opLate s) with
  | some o =>
    match o.kind with
    | .read id _ => if o.retried then answerHeld id (fun _ t => err t stTIMEOUT) (retire o s) else retryOp o s
    | _ => writeFailed o s
  | none => s

/-- A namespace is usable (R375). -/
def usable (n : Ns) : Bool := decide (n.lbaBytes = 4096) && !n.metadata && decide (1048576 + 131072 ≤ n.lbas * 4096)

/-- The superblock of a drive the module has not seen: whatever it holds. -/
def unknownSuper (good : Bool) (n : Ns) (s : State) : Ns × State :=
  if !good then (n, s)
  else
    let a := drawBelow (2 ^ 64) s
    let b := drawBelow 32 a.2
    let c := drawBelow 33 b.2
    let d := drawBelow (2 ^ 64) c.2
    let e := drawBelow (2 ^ 31) d.2
    let f := drawBelow (2 ^ 64) e.2
    let g := drawBelow (2 ^ 32) f.2
    let h := drawBelow 2 g.2
    let i := drawBelow (2 ^ 64) h.2
    let j := drawBelow (2 ^ 35) i.2
    ({ n with
      copyA := some (superCopy { store := a.1, ordinal := b.1, n := c.1, depth := j.1, reserved := d.1
                                 running := decide (h.1 = 1), retain := e.1, hold := f.1, epoch := g.1, seq := i.1 }) }, j.2)

/-- One namespace that enumeration finds, with its SMART/Health readings (R374, R385). -/
def foundOne (old : List Ns) (a : List Ns × State) (f : NvmeFound) : List Ns × State :=
  let r := match old.find? (fun n => decide (n.serial = f.serial) && decide (n.nsid = f.nsid)) with
    | some n => (if f.superOk then n else { n with copyA := none, copyB := none }, a.2)
    | none => unknownSuper f.superOk { nsid := f.nsid, serial := f.serial } a.2
  let m := drawBelow (2 ^ 32) r.2
  let p := drawBelow 256 m.2
  let w := drawBelow 2 p.2
  (a.1 ++ [{ r.1 with
      lbas := f.lbas, lbaBytes := f.lbaBytes, metadata := f.metadata, mediaErrors := m.1, percent := p.1
      critical := decide (w.1 = 1) }], w.2)

/-- The discovered namespaces after an enumeration (R374). -/
def enumerated (found : List NvmeFound) (s : State) : State :=
  let r := (found.take 62).foldl (foundOne (s.evd.ns ++ s.evd.away)) ([], s)
  let gone := (s.evd.ns ++ s.evd.away).filter (fun n => !r.1.any (fun m => m.serial == n.serial && m.nsid == n.nsid))
  { r.2 with evd := { r.2.evd with ns := r.1, away := gone } }

/-- STORE_ID of a namespace's superblock in force (R376), 0 when none verifies. -/
def superStore (n : Ns) : Nat := ((superOf n).map (·.store)).getD 0

/-- The namespaces of a STORE_ID are complete (R377). -/
def completeSet (s : State) (id : Nat) : Bool :=
  let l := (s.evd.ns.filter (fun n => superStore n == id)).filterMap superOf
  let k := (l.head?.map (·.n)).getD 0
  decide (id ≠ 0) && decide (l.length = k) && l.all (fun b => b.n == k) &&
  (List.range k).all (fun o => l.any (fun b => b.ordinal == o))

/-- The newest sheaf at the 65,536 positions from that of RESERVED_UPTO − 1 downward (R370). -/
def newestStored (s : State) : Option Sheaf :=
  let u := s.evd.reservedUpto
  ((ringSheaves s).filter (fun e => decide (u ≠ 0) && decide ((ringPos s (u - 1) + ringSize s - e.1) % ringSize s < 65536))).foldl
    (fun (b : Option Sheaf) e => if b.all (fun x => decide (x.index < e.2.index)) then some e.2 else b) none

/-- The first index used after a start (R370): the RESERVED_UPTO held, advanced first past the sheaves still in staging, whose
indices the store takes too (DEDUCED, log entry 34). -/
def startIndex (s : State) : Nat :=
  match s.evd.staged.getLast? with
  | some x => reserveFor s.evd.reservedUpto x.index
  | none => s.evd.reservedUpto

/-- A start of the store (R370, R377): the first sheaf after it chains to the newest one stored; the reservation of the first
index and the recorded state go to the superblocks. -/
def startStore (s : State) : State :=
  let i := startIndex s
  let c := newestStored s
  writeSupers { s with
    syn := { s.syn with nvmeDownUsed := s.syn.nvmeDown }
    evd := { s.evd with
      nextIndex := i, reserveTo := i + 65536, recordRunning := true, restart := true
      prevIndex := c.map (·.index), prevHash := (c.map (fun x => sheafHash x.header)).getD [] } }

/-- The store is found at reset (R377), or none is. It resumes in the state recorded. -/
def findStore (s : State) : State :=
  let none_ := { s with evd := { s.evd with store := 0, storeId := 0, ns := s.evd.ns.map (fun n => { n with ordinal := none }) } }
  match (s.evd.ns.find? (fun n => completeSet s (superStore n))).bind superOf with
  | none => none_
  | some h =>
    let t := { s with evd := { s.evd with
      storeId := h.store, store := if h.running then 2 else 1, reservedUpto := h.reserved, reserveTo := h.reserved
      nextIndex := h.reserved, recordRunning := h.running, minRetain := h.retain, holdFrom := h.hold, retEpoch := h.epoch
      ns := s.evd.ns.map (fun n => { n with
        ordinal := if superStore n = h.store then (superOf n).map (·.ordinal) else none }) } }
    if h.running then startStore t else t

/-- Every namespace of the store was found again and is usable (R375, R377). -/
def allThere (s : State) : Bool :=
  !s.evd.away.any (fun n => n.ordinal.isSome) && s.evd.ns.all (fun n => n.ordinal.isNone || usable n)

/-- NVME_ENUMERATE (R374, R377): at a start of the store and at module reset. -/
def nvmeEnumerate (found : List NvmeFound) (s : State) : State :=
  if s.evd.enumDue then
    let t := enumerated found s
    findStore { t with evd := { t.evd with enumDue := false } }
  else if s.evd.starting then
    let t := enumerated found s
    if t.evd.store = 1 ∧ allThere t then startStore t else { t with evd := { t.evd with starting := false } }
  else s

/-- The position of lowest number in a list. -/
def lowestPos (l : List (Nat × DriveSheaf)) : Option (Nat × DriveSheaf) :=
  l.foldl (fun (b : Option (Nat × DriveSheaf)) e => if b.all (fun x => decide (e.1 < x.1)) then some e else b) none

/-- The next position the scrubber comes to (R380), of those that have been written. -/
def scrubNext (s : State) : Option (Nat × DriveSheaf) :=
  match lowestPos ((written s).filter (fun e => decide (s.evd.scrubPos ≤ e.1))) with
  | some e => some e
  | none => lowestPos (written s)

/-- PREV_HASH agrees with the sheaf before it, where that is in the ring (R380). -/
def chainOk (s : State) (x : Sheaf) : Bool :=
  match storedAt s (ringPos s (rd x.header 40 8)) with
  | some e => if e.index = rd x.header 40 8 then decide ((x.header.drop 112).take 48 = sheafHash e.header) else true
  | none => true

/-- The scrubber's checks of a position (R373, R380). -/
def scrubOk (s : State) (e : Nat × DriveSheaf) : Bool :=
  holdsSheaf s e.1 e.2 && rootOk (readSheaf e.2) && chainOk s (readSheaf e.2)

/-- SCRUB_READ (R380). -/
def scrubRead (corrupt : Bool) (s : State) : State :=
  if s.evd.store ≠ 2 ∨ s.evd.cfg.scrubRate = 0 ∨ s.now < s.evd.scrubAt + 1000000000 / s.evd.cfg.scrubRate then s
  else match scrubNext s with
    | none => s
    | some e =>
      let fail := corrupt || !scrubOk s e
      { s with evd := { s.evd with
          scrubPos := e.1 + 1, scrubAt := s.now, scrubbed := satInc sat64 s.evd.scrubbed
          scrubFail := if fail then satInc sat64 s.evd.scrubFail else s.evd.scrubFail
          scrubLast := if fail then rd e.2.header 16 8 else s.evd.scrubLast } }

/-- The configuration in force (R383). -/
def evdRecord (s : State) (action : Nat) : List Byte :=
  le 1 action ++ le 1 s.evd.cfg.flags ++ le 2 s.evd.cfg.furTenant ++ le 1 s.evd.cfg.furSample ++ zeros 1 ++
  le 2 s.evd.cfg.scrubRate ++ le 4 s.evd.cfg.sealAge ++ zeros 4 ++ le 8 (if s.evd.store = 0 then 0 else s.evd.storeId)

/-- FORMAT (R377): the STORE_ID is drawn and the superblocks are written, with RESERVED_UPTO 0. -/
def startFormat (s : State) : State :=
  let r := drawRandom 8 s
  writeSupers { r.2 with evd := { r.2.evd with storeId := leVal r.1, reserveTo := 0, recordRunning := false } }

/-- The status that an ACTION returns before it runs (R383). -/
def actionStatus (s : State) (a : Nat) : Option Nat :=
  match a with
  | 1 => if s.evd.store ≠ 0 ∨ ringWidth s = 0 then some stSTATE else if writingSupers s then some stBUSY else none
  | 2 => if s.evd.store ≠ 1 ∨ (tget {} s.tst.loops (4096 * 4)).depth ≠ 0 then some stSTATE else if s.evd.starting then some stBUSY else none
  | 3 => if s.evd.store ≠ 2 then some stSTATE else none
  | 5 => if s.evd.store ≠ 1 then some stSTATE else none
  | _ => none

/-- An ACTION runs (R383). -/
def runAction (a : Nat) (s : State) : State :=
  match a with
  | 1 => startFormat s
  | 2 => { s with evd := { s.evd with starting := true } }
  | 3 => let t := closeSheaf 3 s; stopCheck { t with evd := { t.evd with stopping := true } }
  | 4 => closeSheaf 2 s
  | 5 => { s with evd := { s.evd with
      store := 0, storeId := 0, starting := false, superDue := false, ns := s.evd.ns.map (fun n => { n with ordinal := none }) } }
  | _ => s

/-- EVD_STORE_CONFIG (R383). -/
def bodyEvdStoreConfig : Body := fun c s =>
  let p := c.req.payload
  let a := rd p 0 1
  if p.length ≠ 0 ∧ p.length ≠ 24 then badLen s
  else if p = [] then ok s (evdRecord s 0)
  else checked s
    [(0, a ≤ 5), (1, rd p 1 1 < 2), (2, rd p 2 2 < 4096), (4, rd p 4 1 ≤ 20), zeroAt p 5 1, (6, rd p 6 2 ≤ 8192),
     (8, 10 ≤ rd p 8 4 ∧ rd p 8 4 ≤ 60000), zeroAt p 12 4]
    (match actionStatus s a with
     | some st => if st = stBUSY then busy s else err s st
     | none =>
       let cfg : EvdCfg := ⟨rd p 1 1, rd p 2 2, rd p 4 1, rd p 6 2, rd p 8 4⟩
       let t := runAction a { s with evd := { s.evd with cfg := cfg } }
       if a = 1 ∨ a = 2 then pend t (evdRecord t a) else ok t (evdRecord t a))

/-- The index of the next sheaf to seal (R385). -/
def nextSeal (s : State) : Nat :=
  match s.evd.staged.find? (fun x => x.phase == .filling || x.phase == .closed) with
  | some x => x.index
  | none => s.evd.nextIndex

/-- OLDEST_INDEX (R385): the oldest sheaf in the ring or sealed in staging. -/
def oldestIndex (s : State) : Nat :=
  ((ringSheaves s).map (fun e => e.2.index) ++
    (s.evd.staged.filter (fun x => x.phase == .sealed || x.phase == .writing)).map (·.index)).foldl min (nextSeal s)

/-- A namespace's record (R385). -/
def nsRecord (s : State) (i : Nat) (n : Ns) : List Byte :=
  le 2 i ++ le 1 (n.ordinal.getD 0xFF) ++
  le 1 (flag 0 (usable n) + flag 1 (decide (superStore n ≠ 0) && decide (superStore n ≠ s.evd.storeId)) + flag 2 n.critical) ++
  le 4 n.nsid ++ le 8 n.lbas ++ le 8 n.serial ++ le 4 n.mediaErrors ++ le 1 n.percent ++ zeros 3

/-- EVD_STATUS (R385). -/
def bodyEvdStatus : Body := fun c s =>
  let e := s.evd
  if c.req.payload ≠ [] then badLen s
  else ok s (le 1 e.store ++ le 1 (ringWidth s) ++ le 1 (64 - e.staged.length) ++ le 1 e.ns.length ++ le 4 (ringDepth s) ++
    le 8 (nextSeal s) ++ le 8 (oldestIndex s) ++ le 8 e.reservedUpto ++ le 8 e.served ++ le 8 e.voids ++ le 8 e.noStaging.total ++
    le 8 e.noKey.total ++ le 8 e.sheaves ++ le 8 e.marks ++ le 8 e.scrubbed ++ le 8 e.scrubFail ++ le 8 e.scrubLast ++
    le 8 e.retries ++ zeros 16 ++ e.ns.zipIdx.flatMap (fun x => nsRecord s x.2 x.1))

/-- EVD_NAMESPACE_ADD (R384). -/
def bodyEvdNamespaceAdd : Body := fun c s =>
  let p := c.req.payload
  let i := rd p 0 2
  let o := ringWidth s
  if p.length ≠ 4 then badLen s
  else checked s [(0, i < s.evd.ns.length), zeroAt p 2 2]
    (match s.evd.ns[i]? with
     | none => bad s 0
     | some n =>
       if s.evd.store ≠ 0 ∨ writingSupers s then err s stSTATE
       else if !usable n || n.ordinal.isSome then bad s 0
       else if 32 ≤ o then err s stNORES
       else ok { s with evd := { s.evd with ns := s.evd.ns.set i { n with ordinal := some o } } } (le 1 o))

/-- The retention policy in force (R386). -/
def retentionRecord (s : State) : List Byte := le 4 s.evd.minRetain ++ zeros 4 ++ le 8 s.evd.holdFrom ++ le 4 s.evd.retEpoch

/-- The retention policy changes (R379). -/
def setRetention (m h : Nat) (s : State) : State :=
  if m = s.evd.minRetain ∧ h = s.evd.holdFrom then s
  else
    let e := (s.evd.retEpoch + 1) % 2 ^ 32
    let t := { s with evd := { s.evd with minRetain := m, holdFrom := h, retEpoch := e } }
    if s.evd.store = 1 ∨ s.evd.store = 2 then writeSupers t else t

/-- EVD_RETENTION (R386). -/
def bodyEvdRetention : Body := fun c s =>
  let p := c.req.payload
  let m := rd p 0 4
  let h := rd p 8 8
  if p.length ≠ 0 ∧ p.length ≠ 16 then badLen s
  else if p = [] then ok s (retentionRecord s)
  else checked s [(0, m < 2 ^ 31), zeroAt p 4 4]
    (if (m < s.evd.minRetain ∨ s.evd.holdFrom < h) ∧ c.req.priv < 2 then { st := s, status := stDENIED, detail := 2 }
     else let t := setRetention m h s; ok t (retentionRecord t))

/-- EVD_SHEAF_READ (R387). -/
def bodyEvdSheafRead : Body := fun c s =>
  let p := c.req.payload
  let i := rd p 0 8
  let off := rd p 8 4
  let n := rd p 12 2
  if p.length ≠ 16 then badLen s
  else checked s
    [(0, oldestIndex s ≤ i ∧ i < nextSeal s), (8, off % 32 = 0 ∧ off < 131072),
     (12, n % 32 = 0 ∧ 32 ≤ n ∧ n ≤ 4032 ∧ off + n ≤ 131072), (14, rd p 14 1 < 4), zeroAt p 15 1]
    (match s.evd.staged.find? (fun x => x.index == i) with
     | some x => sheafReply p x true s
     | none => if ringSize s = 0 then err s stINTEGRITY else held (issue (.read c.id i) s))

/-- FLAGS of a SERVED record of a die's replica at field time `t` (R359). -/
def evFlags (s : State) (die : Nat) (t : FieldTime) (auth : Bool) : Nat :=
  let f := (s.replica die).frame
  flag 0 f.uncertain + flag 1 (decide (f.mState = mStateCode .holdover)) +
  flag 2 (match f.step with | some a => decide (t < a.effective) | none => false) + flag 3 auth + flag 4 f.warmup

/-- A furrow bout summary is due (R360): the port's bouts with a bound, one in 2^FURROW_SAMPLE_LOG. -/
def furBoutRecord (port : Nat) (d : EvData) (s : State) : State :=
  if !bit s.evd.cfg.flags 0 || decide (d.bound = unbounded) then s
  else
    let n := tget 0 s.evd.furBouts port + 1
    if n < 2 ^ s.evd.cfg.furSample then { s with evd := { s.evd with furBouts := tset 0 s.evd.furBouts port n } }
    else
      let t := { s with evd := { s.evd with furBouts := tset 0 s.evd.furBouts port 0 } }
      match createRecord { d with tenant := s.evd.cfg.furTenant } 0 t with
      | (some p, u) => updRec p (fun r => { r with pending := none }) u
      | (none, u) => u

/-- EVD_STORE_CONFIG (R383). -/
def execEvdStoreConfig (rq : Request) (s : State) : Out :=
  kcpRow 0x0C01 (leastPriv s 0x0C01 rq.payload) bodyEvdStoreConfig rq s
/-- FORMAT of EVD_STORE_CONFIG (R377). -/
def execEvdFormat (rq : Request) (s : State) : Out :=
  kcpRow 0x0C01 (leastPriv s 0x0C01 (withByte 0 1 rq).payload) bodyEvdStoreConfig (withByte 0 1 rq) s
/-- START of EVD_STORE_CONFIG (R383). -/
def execEvdStart (rq : Request) (s : State) : Out :=
  kcpRow 0x0C01 (leastPriv s 0x0C01 (withByte 0 2 rq).payload) bodyEvdStoreConfig (withByte 0 2 rq) s
/-- STOP of EVD_STORE_CONFIG (R383). -/
def execEvdStop (rq : Request) (s : State) : Out :=
  kcpRow 0x0C01 (leastPriv s 0x0C01 (withByte 0 3 rq).payload) bodyEvdStoreConfig (withByte 0 3 rq) s
/-- FLUSH of EVD_STORE_CONFIG (R368). -/
def execEvdFlush (rq : Request) (s : State) : Out :=
  kcpRow 0x0C01 (leastPriv s 0x0C01 (withByte 0 4 rq).payload) bodyEvdStoreConfig (withByte 0 4 rq) s
/-- RELEASE of EVD_STORE_CONFIG (R383). -/
def execEvdRelease (rq : Request) (s : State) : Out :=
  kcpRow 0x0C01 (leastPriv s 0x0C01 (withByte 0 5 rq).payload) bodyEvdStoreConfig (withByte 0 5 rq) s
/-- EVD_STATUS (R385). -/
def execEvdStatus (rq : Request) (s : State) : Out := kcpRow 0x0C02 (leastPriv s 0x0C02 rq.payload) bodyEvdStatus rq s
/-- EVD_NAMESPACE_ADD (R384). -/
def execEvdNamespaceAdd (rq : Request) (s : State) : Out := kcpRow 0x0C03 (leastPriv s 0x0C03 rq.payload) bodyEvdNamespaceAdd rq s
/-- EVD_RETENTION (R386). -/
def execEvdRetention (rq : Request) (s : State) : Out := kcpRow 0x0C04 (leastPriv s 0x0C04 rq.payload) bodyEvdRetention rq s
/-- EVD_SHEAF_READ (R387). -/
def execEvdSheafRead (rq : Request) (s : State) : Out := kcpRow 0x0C05 (leastPriv s 0x0C05 rq.payload) bodyEvdSheafRead rq s
/-- RECORD_RESOLVE (R362). -/
def execRecordResolve (sheaf slot : Nat) (s : State) : Out := guardUnit (slot < sheafSlots) s (done s (recordResolve (sheaf, slot) s))
/-- MARK_WRITE (R365). -/
def execMarkWrite (s : State) : Out := done s (markWrite s)
/-- SHEAF_CLOSE (R368). -/
def execSheafClose (s : State) : Out := done s (sheafClose s)
/-- SHEAF_AGE_CLOSE (R368). -/
def execSheafAgeClose (s : State) : Out := done s (sheafAgeClose s)
/-- SHEAF_SEAL (R368). -/
def execSheafSeal (s : State) : Out := done s (sheafSeal s)
/-- SHEAF_WRITE (R373). -/
def execSheafWrite (s : State) : Out := done s (sheafWrite s)
/-- NVME_COMPLETION (R375). -/
def execNvmeCompletion (w : NvmeDone) (s : State) : Out := done s (nvmeCompletion w s)
/-- NVME_WRITE_TIMEOUT (R375). -/
def execNvmeWriteTimeout (s : State) : Out := done s (nvmeWriteTimeout s)
/-- NVME_ENUMERATE (R374). -/
def execNvmeEnumerate (found : List NvmeFound) (s : State) : Out := done s (nvmeEnumerate found s)
/-- SCRUB_READ (R380). -/
def execScrubRead (corrupt : Bool) (s : State) : Out := done s (scrubRead corrupt s)

end Sys2Proof.Machine
end

