-- ==== Sys2Proof/Machine/Filter.lean ====
section
/-! DEFINITION. Filtered performance counters (R522). -/

namespace Sys2Proof.Machine
open Sys2Proof

/-- An event that a filter may count (R522): its family and what its predicates test. -/
structure FEvent where
  family : Nat
  dir : Nat := 0
  tc : Nat := 0
  priv : Nat := 0
  port : Nat := 0
  source : Nat := 0
  req : Nat := 0
  resource : Nat := 0
  value : Nat := 0
  deriving DecidableEq, Repr

/-- Every predicate of the family holds (R522). -/
def filterHit (f : Filter) (e : FEvent) : Bool :=
  decide (f.family = e.family) &&
  match e.family with
  | 0 => bit f.dir e.dir && decide (f.lo ≤ e.value) && decide (e.value < f.hi)
  | 1 => bit f.priv e.priv && bit f.sources e.source && decide (f.lo ≤ e.value) && decide (e.value < f.hi)
  | 2 => bit f.req e.req && bit f.resource e.resource
  | 3 => bit f.ports e.port && bit f.dir e.dir && bit f.tc e.tc
  | _ => false

/-- Count an event in every filtered counter whose filter it satisfies, in the unit of its family. -/
def filterCount (e : FEvent) (n : Nat) (s : State) : State :=
  s.regs.filters.foldl (fun t f => if filterHit f.2 e then perfAdd (0x0800 + f.1) n t else t) s

end Sys2Proof.Machine
end

