-- ==== Sys2Proof/Machine/Ring.lean ====
section
/-! DEFINITION. The registers of the host command rings (R472 to R476). -/

namespace Sys2Proof.Machine
open Sys2Proof

/-- A reply or command of host ring `r`. -/
def isRing (r : Nat) (x : Source) : Bool := match x with | .ring k => k == r | _ => false

/-- A command of the ring is outstanding (R474). -/
def outstanding (s : State) (r : Nat) : Bool :=
  s.kcp.slots.any (fun c => isRing r c.req.src && !c.lost) || s.kcp.replies.any (fun p => isRing r p.src)

/-- Depth of a ring (R473). -/
def ringSlots (x : Ring) : Nat := 2 ^ x.log2

/-- A reply finds space (R475). -/
def ringSpace (x : Ring) : Bool := decide ((x.cqTail + 65536 - x.cqHead) % 65536 < ringSlots x)

/-- Commands waiting in the submission ring exceed the depth (R474). -/
def overrun (x : Ring) : Bool := decide (ringSlots x < (x.sqTail + 65536 - x.sqHead) % 65536)

/-- A host access of BAR0 happens while the S tile serves it (R545). -/
def hostAccess (f : State → State) (s : State) : State := if serving s then f s else s

/-- A host access counts in the filters of family 0 (R522). -/
def countAccess (write : Bool) (offset : Nat) (s : State) : State :=
  filterCount { family := 0, dir := if write then 1 else 0, value := offset } 1 s

/-- A host write of the BAR0 word at `offset` (R522). -/
def hostWrite (offset : Nat) (f : State → State) (s : State) : State := hostAccess (fun t => f (countAccess true offset t)) s

/-- BAR0 offset of a register of ring `r` (R472). -/
def ringOffset (r off : Nat) : Nat := 0x1000 + 0x40 * r + off

/-- CMD_RING_CFG written (R473, R475, R509). -/
def cfgWrite (r v : Nat) (s0 : State) : State :=
  let s := rewriteWord 7 r s0
  let x := s.ring r
  let cls := if x.lock then x.cls else some (min (v / 2 ^ 20 % 4) (ringMax s r))
  let log2 := v / 2 ^ 24 % 16
  let en := bit v 31 && !inSafe s 7 r
  let y := { x with cls := cls, lock := x.lock || bit v 16, vector := v % 256 }
  if x.enable then
    (if log2 ≠ x.log2 then s.setRing r { y with cfgErr := true, enable := false }
     else s.setRing r { y with enable := en })
  else
    let z := { y with log2 := log2 }
    if !en then s.setRing r z
    else if log2 = 0 ∨ 8 < log2 then s.setRing r { z with cfgErr := true }
    else if overrun z then s.setRing r { z with badBell := true }
    else s.setRing r { z with enable := true, quiesced := false }

/-- The meaning of CMD_RING_CFG_WRITE. -/
def execCmdRingCfgWrite (ring value : Nat) (s : State) : Out :=
  guardUnit (decide (ring < 8)) s (done s (hostWrite (ringOffset ring 0x18) (cfgWrite ring value) s))

/-- CLASS_LOCK written 1 (R473). -/
def classLock (r : Nat) (s0 : State) : State :=
  let s := rewriteWord 7 r s0
  let x := s.ring r
  s.setRing r { x with cls := some (x.cls.getD (ringMax s r)), lock := true }

/-- The meaning of CLASS_LOCK. -/
def execClassLock (ring : Nat) (s : State) : Out := guardUnit (decide (ring < 8)) s (done s (hostWrite (ringOffset ring 0x18) (classLock ring) s))

/-- The doorbell (R474, R475). -/
def tailWrite (r v : Nat) (s : State) : State :=
  let x := { s.ring r with sqTail := v % 65536 }
  s.setRing r (if x.enable && overrun x then { x with badBell := true, enable := false } else x)

/-- The meaning of CMD_SQ_TAIL_WRITE. -/
def execCmdSqTailWrite (ring value : Nat) (s : State) : Out :=
  guardUnit (decide (ring < 8)) s (done s (hostWrite (ringOffset ring 0x20) (tailWrite ring value) s))

/-- The completion head (R474, R475): it may not pass the tail. -/
def headWrite (r v : Nat) (s : State) : State :=
  let x := s.ring r
  let h := v % 65536
  let y := { x with cqHead := h }
  if (x.cqTail + 65536 - x.cqHead) % 65536 < (h + 65536 - x.cqHead) % 65536 then
    s.setRing r { y with badBell := true, enable := false }
  else s.setRing r { y with cqFull := y.cqFull && !ringSpace y }

/-- The meaning of CMD_CQ_HEAD_WRITE. -/
def execCmdCqHeadWrite (ring value : Nat) (s : State) : Out :=
  guardUnit (decide (ring < 8)) s (done s (hostWrite (ringOffset ring 0x2C) (headWrite ring value) s))

/-- RING_QUIESCE (R474, R476). -/
def ringQuiesce (r : Nat) (s : State) : State :=
  if (s.ring r).enable || outstanding s r then s else s.setRing r { s.ring r with quiesced := true }

/-- The meaning of RING_QUIESCE. -/
def execRingQuiesce (ring : Nat) (s : State) : Out := guardUnit (decide (ring < 8)) s (done s (ringQuiesce ring s))

/-- W1C of CMD_RING_STAT (R474). -/
def statClear (r v : Nat) (s : State) : State :=
  let x := s.ring r
  s.setRing r { x with
    sqErr := x.sqErr && !bit v 7, cqErr := x.cqErr && !bit v 6, badBell := x.badBell && !bit v 5, cfgErr := x.cfgErr && !bit v 3 }

/-- The meaning of CMD_RING_STAT_CLEAR. -/
def execCmdRingStatClear (ring value : Nat) (s : State) : Out :=
  guardUnit (decide (ring < 8)) s (done s (hostWrite (ringOffset ring 0x1C) (statClear ring value) s))

/-- A 64-bit value with one half written. -/
def half (hi : Bool) (old v : Nat) : Nat :=
  if hi then v * 2 ^ 32 + old % 2 ^ 32 else old / 2 ^ 32 * 2 ^ 32 + v

/-- A base or shadow address written (R472, R475): ignored while ENABLE is set, with CFG_ERR. -/
def baseWrite (r off v : Nat) (s0 : State) : State :=
  let s := rewriteWord 7 r s0
  let x := s.ring r
  if x.enable then s.setRing r { x with cfgErr := true, enable := false }
  else match off with
    | 0x00 => s.setRing r { x with sqBase := half false x.sqBase (v / 4096 * 4096) }
    | 0x04 => s.setRing r { x with sqBase := half true x.sqBase v }
    | 0x08 => s.setRing r { x with cqBase := half false x.cqBase (v / 4096 * 4096) }
    | 0x0C => s.setRing r { x with cqBase := half true x.cqBase v }
    | 0x10 => s.setRing r { x with shadow := half false x.shadow (v / 64 * 64) }
    | _ => s.setRing r { x with shadow := half true x.shadow v }

/-- A write of a register of ring `r` (R472); read-only ones ignore it. -/
def ringWrite (r off v : Nat) (s : State) : State :=
  if off < 0x18 then baseWrite r off v s
  else match off with
    | 0x18 => cfgWrite r v s
    | 0x1C => statClear r v s
    | 0x20 => tailWrite r v s
    | 0x2C => headWrite r v s
    | _ => s

/-- CMD_RING_CFG as read (R473). -/
def ringCfgWord (s : State) (r : Nat) : Nat :=
  let x := s.ring r
  flag 31 x.enable + x.log2 * 2 ^ 24 + (x.cls.getD (ringMax s r)) * 2 ^ 20 + ringMax s r * 2 ^ 18 + flag 16 x.lock + x.vector

/-- CMD_RING_STAT as read (R474). -/
def ringStatWord (s : State) (r : Nat) : Nat :=
  let x := s.ring r
  flag 15 x.quiesced + flag 7 x.sqErr + flag 6 x.cqErr + flag 5 x.badBell + flag 4 x.cqFull + flag 3 x.cfgErr

/-- A register of ring `r` as read (R472). -/
def ringRead (s : State) (r off : Nat) : Nat :=
  let x := s.ring r
  match off with
  | 0x00 => x.sqBase % 2 ^ 32 | 0x04 => x.sqBase / 2 ^ 32
  | 0x08 => x.cqBase % 2 ^ 32 | 0x0C => x.cqBase / 2 ^ 32
  | 0x10 => x.shadow % 2 ^ 32 | 0x14 => x.shadow / 2 ^ 32
  | 0x18 => ringCfgWord s r | 0x1C => ringStatWord s r
  | 0x20 => x.sqTail | 0x24 => x.sqHead | 0x28 => x.cqTail | 0x2C => x.cqHead
  | _ => 0

end Sys2Proof.Machine
end

