-- ==== Sys2Proof/Machine/Images.lean ====
section
/-! DEFINITION. The form of an image and the conditions under which it is accepted (R539, R540). -/

namespace Sys2Proof.Machine
open Sys2Proof

/-- The largest body of a KIND (R318, R539): 4 MiB and 8 MiB for the whole image, 16 KiB of instructions. -/
def imageFits (kind len body : Nat) : Bool :=
  match kind with
  | 0 => decide (len ≤ 4 * 2 ^ 20)
  | 1 => decide (len ≤ 8 * 2 ^ 20)
  | _ => decide (len ≤ 24576) && decide (body ≤ 16384)

/-- An image read from its bytes (R539); `passes` when the checks of R540 that do not change hold. -/
def parseImage (kind : Nat) (b : List Byte) : Image :=
  let body := rd b 12 4
  let counter := bit (rd b 6 2) 0
  let whole := decide (b.length = 64 + body + 96 + (if counter then 96 else 0))
  let magic := decide (b.take 4 = ascii 4 "KTGI") && decide (rd b 4 1 = kind) && decide (rd b 5 1 ≤ 64) && decide (rd b 6 2 < 2)
  let digest := decide ((b.drop 16).take 48 = sha384 ((b.drop 64).take body))
  { present := true
    passes := whole && magic && digest && imageFits kind b.length body && Config.vendorVerify b
    svn := rd b 5 1, version := rd b 8 4, countersigned := counter
    ownerOk := if counter then Config.countersigner b else [], digest := sha384 b }

/-- An image is accepted (R540): `svnMin` is the minimum held for its KIND. -/
def imageAccepted (s : State) (svnMin : Nat) (i : Image) : Bool :=
  i.present && i.passes && decide (svnMin ≤ i.svn) &&
  (decide (s.pwr.prov.imageKey = []) || (i.countersigned && decide (i.ownerOk = s.pwr.prov.imageKey)))

end Sys2Proof.Machine
end

