-- ==== Sys2Proof/Machine/Line.lean ====
section
/-! DEFINITION. The line code of the furrow link: 8b/10b (IEEE 802.3 Clause 36), bursts as code groups (R216 to R219). A code
group is a number of ten bits abcdei fghj, bit a at the top and sent first. -/

namespace Sys2Proof.Machine
open Sys2Proof

/-- The 5b/6b table at negative running disparity, data 0 to 31. -/
def sixNeg : List Nat :=
  [0b100111, 0b011101, 0b101101, 0b110001, 0b110101, 0b101001, 0b011001, 0b111000, 0b111001, 0b100101, 0b010101, 0b110100,
   0b001101, 0b101100, 0b011100, 0b010111] ++
  [0b011011, 0b100011, 0b010011, 0b110010, 0b001011, 0b101010, 0b011010, 0b111010, 0b110011, 0b100110, 0b010110, 0b110110,
   0b001110, 0b101110, 0b011110, 0b101011]

/-- The 3b/4b table of data at negative running disparity; place 7 is the primary form. -/
def fourNeg : List Nat := [0b1011, 0b1001, 0b0101, 0b1100, 0b1101, 0b1010, 0b0110, 0b1110]

/-- The number of ones of `n` bits. -/
def onesOf (n v : Nat) : Nat := (List.range n).foldl (fun a i => a + (v.testBit i).toNat) 0

/-- A sub-block of `n` bits at a running disparity, from its form at the negative one: one that is unbalanced, or all ones
then zeros, is complemented. -/
def subBlock (n v : Nat) (pos : Bool) : Nat :=
  if pos && (decide (onesOf n v * 2 ≠ n) || decide (v = 0b111000 ∧ n = 6) || decide (v = 0b1100 ∧ n = 4)) then 2 ^ n - 1 - v
  else v

/-- The running disparity after a sub-block: an unbalanced one reverses it. -/
def afterBlock (n v : Nat) (pos : Bool) : Bool := if onesOf n v * 2 = n then pos else !pos

/-- A code group of a byte, HGF EDCBA, and the disparity after it (R216): `k` says control, of which the link uses K28.2,
K28.5, K27.7, K29.7 and K30.7 (R217). -/
def encGroup (k : Bool) (b : Nat) (pos : Bool) : Nat × Bool :=
  let x := b % 32
  let y := b / 32
  let six := subBlock 6 (if k && decide (x = 28) then 0b001111 else sixNeg.getD x 0) pos
  let p1 := afterBlock 6 six pos
  let alt := decide (y = 7) && (k || (if p1 then decide (x = 11 ∨ x = 13 ∨ x = 14) else decide (x = 17 ∨ x = 18 ∨ x = 20)))
  let four :=
    if k && decide (x = 28) then (if p1 then 0b1111 - (if y = 2 then 0b1010 else 0b0101) else (if y = 2 then 0b1010 else 0b0101))
    else if alt then (if p1 then 0b1000 else 0b0111)
    else subBlock 4 (fourNeg.getD y 0) p1
  (six * 16 + four, afterBlock 4 four p1)

/-- Bytes of the control code groups of the link (R217). -/
def k28_5 : Nat := 0xBC
/-- Downstream start. -/
def k27_7 : Nat := 0xFB
/-- Upstream start. -/
def k28_2 : Nat := 0x5C
/-- End of burst. -/
def k29_7 : Nat := 0xFD
/-- Abort. -/
def k30_7 : Nat := 0xFE
/-- Preamble and tail. -/
def d21_5 : Nat := 0xB5

/-- The place of a value in a list. -/
def placeOf (v : Nat) : List Nat → Nat → Option Nat
  | [], _ => none
  | x :: t, i => if x = v then some i else placeOf v t (i + 1)

/-- The byte that a code group spells at a running disparity, with whether it is control; none for an invalid code group, one
of the wrong disparity, or a control code group the link does not use (R217). -/
def decGroup (g : Nat) (pos : Bool) : Option (Bool × Nat) :=
  let six := g / 16 % 64
  let six0 := if pos && sixNeg.all (fun v => subBlock 6 v true ≠ six) then 64 else six
  let x := if pos then placeOf six0 (sixNeg.map (fun v => subBlock 6 v true)) 0 else placeOf six0 sixNeg 0
  let ctl := [k28_5, k27_7, k28_2, k29_7, k30_7].find? (fun b => (encGroup true b pos).1 == g)
  match ctl with
  | some b => some (true, b)
  | none => x.bind (fun i => ((List.range 8).find? (fun y => (encGroup false (32 * y + i) pos).1 == g)).map (fun y => (false, 32 * y + i)))

/-- The code groups of symbols from a running disparity (R216). -/
def encSymbols : List (Bool × Nat) → Bool → List Nat
  | [], _ => []
  | s :: t, pos => let r := encGroup s.1 s.2 pos; r.1 :: encSymbols t r.2

/-- The running disparity after symbols. -/
def disparityAfter : List (Bool × Nat) → Bool → Bool
  | [], pos => pos
  | s :: t, pos => disparityAfter t (encGroup s.1 s.2 pos).2

/-- The symbols that code groups spell from a running disparity; none at a code error (R217). -/
def decSymbols : List Nat → Bool → Option (List (Bool × Nat))
  | [], _ => some []
  | g :: t, pos =>
    match decGroup g pos with
    | none => none
    | some s => (decSymbols t (encGroup s.1 s.2 pos).2).map (fun l => s :: l)

/-- PRE (R219). -/
def preSym (lean : Bool) : Nat := if lean then 8 else 16

/-- The symbols of a burst before its end (R218): preamble, start delimiter, frame bytes. -/
def burstHead (lean up : Bool) (frame : List Byte) : List (Bool × Nat) :=
  List.replicate (preSym lean) (false, d21_5) ++ [(true, k28_5), (true, if up then k28_2 else k27_7)] ++
  frame.map (fun b => (false, b.toNat))

/-- What follows the frame bytes: end of burst and two tail symbols (R218). -/
def burstEnd : List (Bool × Nat) := [(true, k29_7), (false, d21_5), (false, d21_5)]

/-- A burst on the line (R216, R218): it starts at negative running disparity. -/
def lineBurst (lean up : Bool) (frame : List Byte) : List Nat := encSymbols (burstHead lean up frame ++ burstEnd) false

/-- A burst on the line that a fault disturbs after `n` symbols (R218): K30.7, then K29.7 and the tail. -/
def abortBurst (line : List Nat) (n : Nat) : List Nat :=
  encSymbols (((decSymbols line false).getD []).take n ++ [(true, k30_7)] ++ burstEnd) false

/-- A calibration burst (R250): it is an aborted burst. -/
def calBurst (lean : Bool) : List Nat :=
  encSymbols (List.replicate (preSym lean) (false, d21_5) ++ [(true, k28_5), (true, k30_7)] ++ burstEnd) false

/-- The frame bytes of symbols after the start delimiter: data up to K29.7. -/
def frameOf : List (Bool × Nat) → Option (List Byte)
  | [] => none
  | (k, b) :: t =>
    if k then (if b = k29_7 then some [] else none)
    else (frameOf t).map (fun l => BitVec.ofNat 8 b :: l)

/-- The frame of a received burst (R217, R218, R237): none at a code error, without the start delimiter of its direction, with
an abort wherever it stands, or without K29.7 within `most` symbols. -/
def lineFrame (lean up : Bool) (most : Nat) (groups : List Nat) : Option (List Byte) :=
  match decSymbols groups false with
  | none => none
  | some l =>
    let n := preSym lean
    if !l.contains (true, k30_7) ∧ l.take n = List.replicate n (false, d21_5) ∧ (l.drop n).take 2 = [(true, k28_5), (true, if up then k28_2 else k27_7)] then
      frameOf ((l.take most).drop (n + 2))
    else none

end Sys2Proof.Machine
end

