-- ==== Sys2Proof/Machine/Fur.lean ====
section
/-! DEFINITION. The furrow link: bouts, bursts, checks, mailboxes (R214 to R247, R259, R260, R262, R263). -/

namespace Sys2Proof.Machine
open Sys2Proof

/-- How many furrow ports the module has (R8). -/
def numPorts : Nat := 1024
/-- The F tile of a port, as a receiving die (F0 to F3 1 to 4). -/
def portDie (p : Nat) : Nat := 1 + p / 256
/-- A port's fault block (R511). -/
def portBlock (p : Nat) : Nat := 9 + p / 256
/-- Symbol time in ns (R219). -/
def symNs (lean : Bool) : Nat := if lean then 16 else 4

/-- T_mark in 2^-32 ns: 64.8 ns or 131.2 ns (R219). -/
def tMark (lean : Bool) : Nat := divNear ((if lean then 1312 else 648) * ns1) 10
/-- MB_MAX in force: 0 at lean rate and under CEILING 0 (R222, R258). -/
def mbMaxOf (x : FurPort) (lean : Bool) : Nat := if lean ∨ x.ceiling = 0 then 0 else x.cfg.mbMax
/-- S_Dmax in symbols (R222). -/
def sdMax (lean : Bool) (mb : Nat) : Nat := preSym lean + 5 + 114 + mb
/-- S_Umax in symbols (R222). -/
def suMax (lean : Bool) (mb : Nat) : Nat := preSym lean + 5 + 56 + mb
/-- H_sym (R222): HEADLAND, in 16 ns, over the symbol time. -/
def hSym (c : FurCfg) (lean : Bool) : Nat := c.headland * 16 / symNs lean
/-- TURNAROUND in symbols (R222). -/
def turnSym (c : FurCfg) (lean : Bool) (mb : Nat) : Nat := sdMax lean mb + hSym c lean
/-- P_min in µs (R223). -/
def pMin (c : FurCfg) (lean : Bool) (mb : Nat) : Nat :=
  divUp ((sdMax lean mb + suMax lean mb + 2 * hSym c lean) * symNs lean + 2 * c.maxDelay) 1000
/-- P_min of a configuration at a rate. -/
def pMinOf (c : FurCfg) (lean : Bool) : Nat := pMin c lean (if lean then 0 else c.mbMax)

/-- T_MON of a port, fixed at manufacture (R250). -/
def tMon (p : Nat) : Interval := Config.factoryDelay p 0
/-- A port's last accepted calibration at a rate. -/
def calOf (x : FurPort) (lean : Bool) : CalResult := ((if lean then x.cal.lean else x.cal.full).getD {})
/-- T_TX at a rate (R250). -/
def tTx (p : Nat) (x : FurPort) (lean : Bool) : Interval := (calOf x lean).tap - tMon p + x.cfg.boardTx
/-- T_RX at a rate (R250). -/
def tRx (p : Nat) (x : FurPort) (lean : Bool) : Interval :=
  (calOf x lean).loop - ((calOf x lean).tap - tMon p) + x.cfg.boardRx

/-- The port is held at a FUR_LOOPBACK depth (R559). -/
def furLoop (s : State) (p : Nat) : Loop := tget {} s.tst.loops (4096 * 2 + p)

/-- The mean of a filter's samples. -/
def filterMean (l : List DelaySample) : Interval := divNearI (l.map (·.d)).sum (max 1 l.length)

/-- DRIFT follows DELAY and DELAY_REF (R256). -/
def driftUpdate (p : Nat) (s : State) : State :=
  let x := s.port p
  let c := match x.st.delay, x.st.ref with
    | some d, some r => decide (x.cfg.driftLimit * 1024 < (d - r).natAbs)
    | _, _ => false
  let s1 := s.setPort p { x with st := { x.st with drift := c } }
  if c && !x.st.drift then setSticky (portBlock p) (19 + 4 * (p % 256)) s1 else if c = x.st.drift then s else s1

/-- Leave every delay measurement behind (R248, R255). -/
def clearFilter (x : FurPort) : FurPort :=
  { x with filter := [], rejectRun := 0, st := { x.st with delay := none } }

/-- A filter that holds 2^F samples ends RANGING (R254): DELAY takes its value, and DELAY_REF where the record has none (R256). -/
def rangeDone (x : FurPort) : FurPort :=
  if x.st.state = .ranging ∧ 2 ^ x.cfg.filterLog2 ≤ x.filter.length then
    let d := some (filterMean x.filter)
    { x with st := { x.st with state := .serving, delay := d, ref := if x.cfg.delayRef.isNone then d else x.st.ref } }
  else x

/-- A calibration run starts at k = 0 (R250, R251); a run accepted before it still waits for its boundary (R253). -/
def startRun (now : Nat) (initial : Bool) (x : FurPort) : FurPort :=
  { x with boutsSinceCal := 0, cal := { x.cal with running := true, meas := [], startedAt := now, initial := initial } }

/-- To CAL (R248): an initial run starts. -/
def enterCal (p : Nat) (s : State) : State :=
  let x := startRun s.now true (clearFilter (s.port p))
  driftUpdate p (s.setPort p { x with
    built := none, sent := none, rx := none
    st := { x.st with state := .cal, calFault := false }, cal := { x.cal with rejectRun := 0 } })

/-- A port is enabled (R248, R249, R70): counters clear, SEQ and BOUT start again. -/
def enablePort (p : Nat) (s : State) : State :=
  let x := s.port p
  let y : FurPort := { cfg := x.cfg, floor := x.floor, ceiling := x.ceiling, cal := { temp := x.cal.temp } }
  let y := { y with st := { y.st with ref := x.cfg.delayRef } }
  enterCal p ((s.setPort p y).setInterp p { (s.interp p).fresh with enabled := true })

/-- A port is DISABLED (R248, R260): both mailbox queues are discarded and counted. -/
def disablePort (p : Nat) (s : State) : State :=
  let x := s.port p
  let n := x.mb.txLens.length + x.mb.rx.length + (if x.mb.asm.isSome then 1 else 0)
  let y := clearFilter x
  let s1 := s.setPort p { y with
    built := none, sent := none, rx := none, lastEpoch := none, dark := none
    st := { y.st with state := .disabled, calFault := false, lean := false, nextLean := false, targetUnmet := false }
    mb := { y.mb with tx := [], txLens := [], rx := [], asm := none, discards := min sat32 (y.mb.discards + n) }
    cal := { y.cal with running := false, meas := [], waiting := none } }
  applyLinkIndex p (driftUpdate p (s1.setInterp p (s1.interp p).fresh))

/-- Half a change of T_TX and T_RX, by which a sample moves (R253). -/
def moveBy (dt : Interval) (d : DelaySample) : DelaySample := { d with d := d.d - divTrunc dt 2 }

/-- The filter's samples move with a change of the port's delays (R253); a leaf's DELAY is the one it received. -/
def moveFilter (p : Nat) (old new : FurPort) : FurPort :=
  let dt := fun (lean : Bool) => tTx p new lean - tTx p old lean + (tRx p new lean - tRx p old lean)
  let f := new.filter.map (fun q => moveBy (dt q.lean) q)
  { new with filter := f, st := { new.st with delay := if f = [] then new.st.delay else new.st.delay.map (fun _ => filterMean f) } }

/-- CAL_APPLY (R253): an accepted run takes effect. -/
def calApply (p : Nat) (s : State) : State :=
  let x := s.port p
  match x.cal.waiting with
  | none => s
  | some w =>
    driftUpdate p (s.setPort p (moveFilter p x { x with cal := { x.cal with full := some w.1, lean := some w.2, waiting := none } }))

/-- Data bytes that one MAILBOX TLV may carry under an MB_MAX (R233, R259): an MB_MAX with room for none leaves the full 248. -/
def mbChunk (mbMax : Nat) : Nat := if mbMax < 7 then 248 else min 248 (mbMax - 6)

/-- A message cut into MAILBOX TLVs of at most `n` data bytes (R259): `k` bounds their number. -/
def cutMessage (n : Nat) : Nat → Nat → Nat → Bool → Bool → List Byte → List MbTlv
  | 0, _, _, _, _, _ => []
  | k + 1, ch, seq, first, last, d =>
    let end_ := decide (d.length ≤ n)
    ⟨ch, first, last && end_, seq % 65536, d.take n, none, false⟩ ::
      (if end_ then [] else cutMessage n k ch (seq + 1) false last (d.drop n))

/-- TLVs of one message joined again. -/
def joinTlvs : List MbTlv → List MbTlv
  | [] => []
  | t :: rest =>
    match joinTlvs rest with
    | [] => [t]
    | u :: us => if t.last then t :: u :: us else { t with last := u.last, data := t.data ++ u.data } :: us

/-- Messages cut one after another from a SEQ on. -/
def cutAll (n : Nat) : Nat → List MbTlv → List MbTlv
  | _, [] => []
  | seq, t :: rest =>
    let l := cutMessage n (t.data.length + 1) t.channel seq t.first t.last t.data
    l ++ cutAll n (seq + l.length) rest

/-- What has never been sent is cut for a changed MB_MAX (R259); a TLV sent before keeps its SEQ and data (R234). -/
def recut (mbMax : Nat) (m : Mailbox) : Mailbox :=
  let old := m.tx.filter (fun t => !t.was)
  let seq := (old.head?.map (·.seq)).getD m.txSeq
  let new := cutAll (mbChunk mbMax) seq (joinTlvs old)
  { m with tx := m.tx.filter (·.was) ++ new, txSeq := (seq + new.length) % 65536 }

/-- A written record takes effect at a bout boundary (R253, R254, R256, R259, R269). -/
def applyFurCfg (p : Nat) (s : State) : State :=
  let x := s.port p
  match x.cfgNext with
  | none => s
  | some c =>
    let y := moveFilter p x { x with cfg := c, cfgNext := none }
    let f := y.filter.take (2 ^ c.filterLog2)
    let y := rangeDone { y with
      filter := f
      mb := if c.mbMax ≠ x.cfg.mbMax then recut c.mbMax y.mb else y.mb
      st := { y.st with
        delay := if f = [] then y.st.delay else y.st.delay.map (fun _ => filterMean f)
        ref := if c.delayRef ≠ x.cfg.delayRef then c.delayRef else y.st.ref }
      cal := if c.period ≠ x.cfg.period then { y.cal with meas := [] } else y.cal }
    let s1 := driftUpdate p (s.setPort p y)
    let s2 := if c.linkId ≠ x.cfg.linkId then rederiveLinks p s1 else s1
    if c.enable then s2 else disablePort p s2

/-- What a bout boundary makes effective: record, KEY_INDEX, calibration, rate (R243, R253, R269, R341). Before the first burst
of an enabled port only the ceiling sets the rate (R258). -/
def boundary (p : Nat) (s : State) : State :=
  let s1 := calApply p (applyLinkIndex p (applyFurCfg p s))
  let x := s1.port p
  if x.st.state = .disabled ∨ x.cfg.leaf then s1
  else s1.setPort p { x with st := { x.st with lean := if x.bout = 0 then decide (x.ceiling = 0) else x.st.nextLean } }

/-- The next bout epoch of period `per` after the present instant (R221, R224): in µs of the field time then in force, its
distance in 2^-32 ns, and the announcement whose effective marker lies after it (R226). -/
def nextEpoch (s : State) (die per : Nat) : Nat × Nat × Option StepAnn :=
  let t := replicaTime s die
  let e := (t / us1 / per + 1) * per
  match stepToCome (s.replica die) (s.now * 65536 : Nat) with
  | some a =>
    if a.effective ≤ e * us1 then
      let m := (ftAdd a.effective a.size).toNat
      let e' := divUp m (per * us1) * per
      (e', e' * us1 - m + (a.effective - t), none)
    else (e, e * us1 - t, some a)
  | none => (e, e * us1 - t, none)

/-- Head end states that send downstream bursts (R248). -/
def sends (x : PortState) : Bool :=
  match x with | .searching => true | .ranging => true | .serving => true | .fault => true | _ => false

/-- A port has mailbox traffic of its own to send (R244). -/
def mbTraffic (x : FurPort) : Bool := decide (x.mb.tx ≠ []) || x.mb.ackDue

/-- NEXT_LEAN (R244). -/
def nextLeanOf (x : FurPort) : Bool :=
  decide (x.ceiling = 0) || (decide (x.floor = 0) && decide (pMinOf x.cfg true ≤ x.cfg.period) && x.wantLean)

/-- A MAILBOX TLV (R229, R233). -/
def tlvBytes (t : MbTlv) : List Byte :=
  be 1 0x10 ++ be 1 (4 + t.data.length) ++ be 1 t.channel ++ be 1 (flag 0 t.first + flag 1 t.last) ++ be 2 t.seq ++ t.data

/-- The unsent MAILBOX TLVs that fit a budget of bytes, in order (R234, R259); `room` is how many more may stand unacknowledged. -/
def fitTlvs : Nat → Nat → List MbTlv → List MbTlv
  | _, _, [] => []
  | room, budget, t :: rest =>
    if t.sent.isSome then fitTlvs room budget rest
    else if (t.was || decide (0 < room)) && decide (6 + t.data.length ≤ budget) then
      t :: fitTlvs (if t.was then room else room - 1) (budget - (6 + t.data.length)) rest
    else []

/-- MB_ACK and the MAILBOX TLVs of one burst (R229, R234). -/
def mbArea (x : FurPort) (mbMax : Nat) : Option Nat × List MbTlv × List Byte :=
  let ack := if x.mb.ackDue ∧ 4 ≤ mbMax then x.mb.rxSeq else none
  let a := match ack with | some q => be 1 0x11 ++ be 1 2 ++ be 2 q | none => []
  let l := fitTlvs (64 - (x.mb.tx.filter (·.was)).length) (mbMax - a.length) x.mb.tx
  (ack, l, a ++ l.flatMap tlvBytes)

/-- Tag and CRC behind a frame (R235, R236, R342). -/
def sealFrame (key : Option (List Byte)) (body : List Byte) : List Byte :=
  let t := match key with | some k => (cmac k body).take 12 | none => zeros 12
  body ++ t ++ be 4 (crc32 (body ++ t))

/-- CLOCK_STATE's value (R230). -/
def clockState (s : State) (die : Nat) (b : Bound) : List Byte :=
  let f := (s.replica die).frame
  let c := servedClass s die b
  let tr := decide (c = 6) || decide (c = 7)
  be 1 c ++
  be 1 (flag 7 (tr && !f.uncertain) + flag 6 tr + flag 5 f.utcValid + flag 4 f.leap61 + flag 3 f.leap59 + flag 2 f.uncertain +
    flag 1 f.warmup + flag 0 (decide (f.mState = 6))) ++
  beI 2 f.utcOffset ++ be 1 (timeSource f.selSlot) ++
  be 1 (if 11 ≤ f.selSlot ∧ f.selSlot ≤ 18 then f.hops + 1 else 0) ++ be 2 (f.generation % 65536)

/-- TRACEABILITY's value (R231). -/
def traceability (s : State) (die : Nat) : List Byte :=
  let f := (s.replica die).frame
  (if 11 ≤ f.selSlot ∧ f.selSlot ≤ 18 then be 8 f.originId else fit 8 Config.clockIdentity) ++
  be 1 f.selSlot ++ be 1 (if f.selSlot = 0xFF then 0xFF else f.selKind) ++ be 1 (flag 0 f.primary) ++ zeros 1

/-- The furrow term (R257). -/
def furTerm (x : FurPort) (lean : Bool) : Bound :=
  let ps := 62 + 6 * (if lean then 30 else 12) + (if x.filter.any (·.stale) then 30 else 0)
  divUp (ps * 64 + x.cfg.boardUnc * 1000) 1000

/-- The port's interpolator has an accepted table (R70, R267). -/
def tableValid (s : State) (p : Nat) : Bool := (s.interp p).table.isSome

/-- Its records carry no INVALID of R69 or R70. -/
def recordsValid (s : State) (p : Nat) : Bool := tableValid s p && !(s.interp p).calFault

/-- BOUND of a downstream burst (R240, R256). -/
def burstBound (s : State) (p : Nat) (lean : Bool) : Bound :=
  let x := s.port p
  if x.st.state ≠ .serving ∨ x.st.delay.isNone ∨ !tableValid s p ∨ (x.st.drift ∧ x.cfg.driftUnbound) then unbounded
  else addB (dieBound s (portDie p)) (furTerm x lean)

/-- The STEP_ANNOUNCE TLV of a burst (R232). -/
def stepTlv (a : Option StepAnn) : List Byte :=
  match a with
  | some a => be 1 3 ++ be 1 24 ++ beI 8 a.size ++ beTime a.effective
  | none => []

/-- The downstream frame's bytes before tag and CRC (R225, R226), where the frame of `b.src` serves. -/
def downBody (s : State) (p : Nat) (b : Burst) : List Byte :=
  let x := s.port p
  let die := portDie p
  let bd := burstBound s p b.lean
  let tlvs := be 1 1 ++ be 1 8 ++ clockState s die bd ++ be 1 2 ++ be 1 12 ++ traceability s die ++ stepTlv b.ann ++ b.mail
  be 1 1 ++ be 1 1 ++ be 6 b.bout ++ be 1 b.claim ++ be 1 (flag 0 b.lean) ++
  be 1 (flag 0 b.nextLean + flag 1 b.skip + flag 2 (decide ((furLoop s p).depth = 3))) ++ be 1 b.keyIndex ++ be 2 tlvs.length ++
  be 2 b.turn ++ be 4 (linkIdOf s p) ++ beTime (b.epoch * us1) ++ beOptIv x.st.delay ++ be 4 bd ++ tlvs

/-- A burst with its BOUND and its bytes, from the frame it was built from and the filtered delay now (R226, R239). -/
def withBytes (s : State) (p : Nat) (key : Option (List Byte)) (b : Burst) : Burst :=
  let v := s.setReplica (portDie p) b.src
  { b with bound := burstBound v p b.lean, bytes := sealFrame key (downBody v p b) }

/-- The summary of a furrow bout (R359, R360). -/
def boutData (s : State) (p : Nat) (b : Burst) (auth : Bool) : EvData :=
  { exchange := 6, svcDomain := 15, port := p, client := zeros 12 ++ be 4 (linkIdOf s p) ++ be 1 0xFF ++ be 1 3
    time := some (b.epoch * us1), bound := b.bound, clockClass := servedClass s (portDie p) b.bound
    flags := evFlags s (portDie p) (b.epoch * us1) auth, seq := b.bout % 65536 }

/-- The key a head end tags a port's bursts under (R341, R342): SEND, or none. -/
def sendKey (k : PortKeys) : Option (List Byte) := if k.sendIdx = 0 then none else k.send.map Shares.open_

/-- BURST_BUILD (R226): the burst of the epoch that falls within 1 µs, under what its bout boundary makes effective; a TIME that
is never served has no burst (R39). -/
def burstBuild (p : Nat) (s : State) : State :=
  let v := boundary p s
  let x := v.port p
  let ep := nextEpoch s (portDie p) x.cfg.period
  if x.cfg.leaf || !sends x.st.state || decide (us1 < ep.2.1) ||
      decide ((s.port p).built.map (·.epoch) = some ep.1) || !servable (ep.1 * us1) then s
  else
    let x0 := s.port p
    let want := x0.wantLean && !mbTraffic x0
    let v1 := v.setPort p { x with wantLean := want }
    let nl := nextLeanOf (v1.port p)
    let skip := x.cal.running && !x.cal.initial && decide (63 ≤ x.boutsSinceCal)
    let k := v.pk p
    let key := sendKey k
    let free := drawBelow 256 s
    let idx := if k.sendIdx = 0 then free.1 else k.sendIdx - 1
    let s1 := if k.sendIdx = 0 then free.2 else s
    let area := mbArea x (mbMaxOf x x.st.lean)
    let b : Burst :=
      { epoch := ep.1, skip := skip, nextLean := nl, bout := x.bout
        keyIndex := idx, turn := turnSym x.cfg x.st.lean (mbMaxOf x x.st.lean), lean := x.st.lean
        seqs := area.2.1.map (·.seq), acks := area.1, mail := area.2.2, keyed := key.isSome
        claim := claimFor v (p / 256), src := v.replica (portDie p), ann := ep.2.2 }
    s1.setPort p { x0 with built := some (withBytes v1 p key b), wantLean := want }

/-- The MAILBOX TLVs of a burst have been sent in bout `n`; its MB_ACK leaves none due where nothing was accepted since it was
built (R234). -/
def markSent (seqs : List Nat) (acks : Option Nat) (n : Nat) (m : Mailbox) : Mailbox :=
  { m with
    tx := m.tx.map (fun t => if seqs.contains t.seq && t.sent.isNone then { t with sent := some n, was := true } else t)
    ackDue := m.ackDue && (acks.isNone || decide (acks ≠ m.rxSeq)) }

/-- Close the bout in progress at its end (R238, R244, R248). -/
def closeBout (x : FurPort) : FurPort :=
  if x.lastEpoch.isNone then x
  else if x.cfg.leaf then
    let passed := match x.rx with | some r => r.ok | none => false
    let np := if passed then 0 else x.noPass + 1
    { x with
      noPass := np, last := if 1024 ≤ np then none else x.last
      noAccept := if x.sampled then 0 else x.noAccept + 1, sampled := false, rx := none }
  else
    { x with
      idle := if x.traffic || mbTraffic x then 0 else x.idle + 1, traffic := false
      noSample := if x.sampled then 0 else x.noSample + 1, sampled := false }

/-- A port's rate lies within its policy (R27, R258). -/
def withinPolicy (x : FurPort) : Bool :=
  !sends x.st.state || ((decide (x.floor = 0) || !x.st.lean) && (decide (x.ceiling = 1) || x.st.lean))

/-- FUR_RATE_POLICY's reply (R271). -/
def policyBytes (s : State) (first n : Nat) : List Byte :=
  (List.range n).flatMap (fun i =>
    let x := s.port (first + i)
    le 1 (flag 0 (decide (x.floor = 1)) + flag 1 (decide (x.ceiling = 1)) + flag 2 x.st.targetUnmet))

/-- Held FUR_RATE_POLICY commands after a boundary of port `p` (R27, R271). -/
def policyPass (p : Nat) (s : State) : State :=
  if !withinPolicy (s.port p) then s
  else
    let l := s.fur.policyWait.map (fun w => (w.1, w.2.1, w.2.2.1, w.2.2.2.filter (· ≠ p)))
    let ready := l.filter (fun w => w.2.2.2 = [])
    ready.foldl (fun t w => answerHeld w.1 (fun _ u => ok u (policyBytes u w.2.1 w.2.2.1)) t)
      { s with fur := { s.fur with policyWait := l.filter (fun w => w.2.2.2 ≠ []) } }

/-- TARGET_UNMET follows the target and the policy (R223, R258). -/
def unmetUpdate (x : FurPort) : FurPort :=
  { x with st := { x.st with
    targetUnmet := sends x.st.state && x.wantLean && !nextLeanOf x } }

/-- The bout epoch that falls now, with its instant in ns of `now`; none when no epoch falls now or it is done (R221). -/
def epochDue (s : State) (p : Nat) : Option (Nat × Nat) :=
  let x := s.port p
  let c := x.cfgNext.getD x.cfg
  let t := replicaTime s (portDie p)
  let u := t / us1
  let at_ := s.now - (t - u * us1) / ns1
  let seen := decide (x.lastEpoch = some u) && decide (s.now < x.lastEpochAt + 1000)
  let early := decide (c.period ≠ x.cfg.period) && x.lastEpoch.isSome && decide (at_ + 1 < x.lastEpochAt + x.cfg.period * 1000)
  let before := match taken (s.replica (portDie p)) (s.now * 65536 : Nat) with
    | some (_, a) => decide ((u * us1 : Int) < ftAdd a.effective a.size)
    | none => false
  if decide (u % c.period ≠ 0) || seen || early || before || decide (x.dark = some u) || !(s.replica (portDie p)).anyGood then none
  else some (u, at_)

/-- The epoch `e` is dark (R224): the bout in progress began before the marker of the last step, and without the step it
would be shorter than P_min. Its length is counted in field time (DEDUCED, log entry 27: the rule calls a bout of P, at any
rate of the timescale, never dark). -/
def isDark (s : State) (p e : Nat) : Bool :=
  let x := s.port p
  match x.lastEpoch, taken (s.replica (portDie p)) (s.now * 65536 : Nat) with
  | some l, some (m, a) =>
    decide (((x.lastEpochAt + 500) * 65536 : Nat) < m) &&
      decide (((e : Int) - l) * us1 - a.size * 2 ^ 16 < (pMinOf x.cfg x.st.lean * us1 : Nat))
  | _, _ => false

/-- Symbols of a burst as an interval of the timescale, 2^-32 ns. -/
def symTime (lean : Bool) (n : Nat) : Nat := n * symNs lean * ns1

/-- A burst whose first preamble symbol leaves the plane at field time `t` goes on the line (R215, R218, R221): its code
groups, and FURnnnn_BEN around them. -/
def onLine (p : Nat) (lean : Bool) (groups : List Nat) (t : Int) (s : State) : State :=
  let at_ := baseOfField s (portDie p) t
  let a := s.paux p
  let b : LineBurst :=
    { groups := groups, at_ := at_, lean := lean, rise := at_ - (s.port p).cfg.benLead * 8 * 65536
      fall := baseOfField s (portDie p) (t + symTime lean groups.length) + 8 * 65536 }
  s.setPaux p { a with lines := a.lines.drop (a.lines.length - 2) ++ [b] }

/-- What a fault leaves of a burst on the line (R218): one in progress is aborted from its next symbol on, and FURnnnn_BEN
follows its end; one still to come is not sent. -/
def disturbed (now5 : Int) (b : LineBurst) : Option LineBurst :=
  let n := divUp (now5 - 5 * b.at_).toNat (5 * 65536 * symNs b.lean)
  if now5 ≤ 5 * b.at_ then none
  else if n < b.groups.length then
    let l := abortBurst b.groups n
    some { b with groups := l, fall := b.fall + ((l.length : Int) - b.groups.length) * symNs b.lean * 65536 }
  else some b

/-- A fault disturbs what a port has on the line (R218). -/
def disturbLine (p : Nat) (s : State) : State :=
  let a := s.paux p
  s.setPaux p { a with lines := a.lines.filterMap (disturbed (baseNow5 s)) }

/-- The internal instant of a leaf's upstream timing edge on the time base, 2^-16 ns (R263, R21): the tick of 0.8 ns nearest to
t_arr + TURNAROUND × T_sym − T_TX − T_RX. -/
def upLaunch (s : State) (p : Nat) (r : LeafRx) : Int :=
  let t := r.arr + symTime r.lean r.turnaround - tTx p (s.port p) r.lean * 2 ^ 16
  divNearI (5 * baseOfField s (portDie p) t) 262144 * 262144 / 5

/-- Its instant at the reference plane on the timescale, 2^-32 ns. -/
def upEdge (s : State) (p : Nat) (r : LeafRx) : Int :=
  fieldOfBase s (portDie p) (upLaunch s p r) + tTx p (s.port p) r.lean * 2 ^ 16

/-- The start of measurement k of a leaf-mode port in CAL on the time base, 2^-16 ns: one every 1 µs from the start of its run
(R251). -/
def leafCalAt (s : State) (x : FurPort) : Int :=
  baseNow5 s / 5 + ((x.cal.startedAt : Int) + 1000 * x.cal.meas.length - s.now) * 65536

/-- A measurement of the run of CAL is still to be made. -/
def calOpen (x : FurPort) : Bool := decide (x.st.state = .cal) && x.cal.running && decide (x.cal.meas.length < 16)

/-- The first preamble symbol of the next burst that a port has before it, at its plane on the time base, 2^-16 ns: built, to be
answered, or of a calibration run in CAL. -/
def nextOnLine (s : State) (p : Nat) : Option Int :=
  let x := s.port p
  let die := portDie p
  if x.cfg.leaf then
    if calOpen x then some (leafCalAt s x)
    else x.rx.bind (fun r =>
      if r.answered ∧ !r.launched ∧ !r.skip then some (baseOfField s die (upEdge s p r - tMark r.lean)) else none)
  else if calOpen x then some (baseOfField s die (replicaTime s die + (nextEpoch s die x.cfg.period).2.1))
  else x.built.bind (fun b =>
    if sends x.st.state ∧ !isDark s p b.epoch then some (baseOfField s die (b.epoch * us1 : Nat)) else none)

/-- FURnnnn_BEN of a port now (R214, R215): around each burst on the line, and BEN_LEAD before the next. -/
def benLevel (s : State) (p : Nat) : Bool :=
  decide ((s.port p).st.state ≠ .disabled) &&
  ((s.paux p).lines.any (fun b => decide (b.rise * 5 ≤ baseNow5 s) && decide (baseNow5 s < b.fall * 5)) ||
    (nextOnLine s p).any (fun t => decide ((t - (s.port p).cfg.benLead * 8 * 65536) * 5 ≤ baseNow5 s)))

/-- The calibration burst of a bout goes on the line (R250, R251): at lean rate for an odd k. -/
def calOnLine (p : Nat) (t : Int) (s : State) : State :=
  let lean := decide ((s.port p).cal.meas.length % 2 = 1)
  let s1 := onLine p lean (calBurst lean) t s
  s1.setPaux p { s1.paux p with calDue := true }

/-- A window of arrival from `lo` to `hi` at the plane, field time in 2^-32 ns, widened by 200 ns on each side (R67). -/
def setArrive (p : Nat) (lean : Bool) (lo hi : Int) (s : State) : State :=
  let rx := tRx p (s.port p) lean
  let w := fun (t : Int) => baseOfField s (portDie p) t + rx
  s.setPaux p { s.paux p with arrive := some (w lo - 200 * 65536, w hi + 200 * 65536) }

/-- The key of a burst's tag. -/
def burstKey (s : State) (p : Nat) (b : Burst) : Option (List Byte) := if b.keyed then linkKey s p b.keyIndex else none

/-- Launch the built burst at its epoch (R221, R226, R239), with the delay filtered after the bout before; a bout with
UPSTREAM_SKIP has its calibration burst HEADLAND after it (R251), any other its arrival window (R67). -/
def launchBurst (p : Nat) (b0 : Burst) (s0 : State) : State :=
  let key := burstKey s0 p b0
  let b := withBytes s0 p key b0
  let r := furBoutRecord p (boutData (s0.setReplica (portDie p) b.src) p b key.isSome) s0
  let g := lineBurst b.lean false b.bytes
  let s := onLine p b.lean g (b.epoch * us1 : Nat) (if key.isNone then countNoKey r else r)
  let x := s.port p
  let t : Int := (b.epoch * us1 : Nat)
  let l := baseOfField s (portDie p) (t + tMark b.lean) - tTx p x b.lean
  let lp := furLoop s p
  let s1 := s.setPort p { x with
    built := none, sent := some b, launch := l, lastBout := b.bout, bout := (x.bout + 1) % 2 ^ 48
    boutsSinceCal := if b.skip then 0 else x.boutsSinceCal + 1
    mb := markSent b.seqs b.acks b.bout x.mb
    st := { x.st with nextLean := b.nextLean, bound := b.bound, term := furTerm x b.lean } }
  let s2 := if lp.depth = 3 then
      { s1 with tst := { s1.tst with loops := tset {} s1.tst.loops (8192 + p) { lp with sent := satInc sat32 lp.sent } } }
    else s1
  let up := t + symTime b.lean b.turn
  let s3 :=
    if b.skip then
      calOnLine p (t + symTime b.lean g.length + x.cfg.headland * 16 * ns1) s2
    else
      setArrive p b.lean (up + 2 * (x.st.delay.getD 0) * 2 ^ 16)
        (up + symTime b.lean (suMax b.lean 0) + 2 * (x.st.delay.getD (x.cfg.maxDelay * 65536)) * 2 ^ 16) s2
  perfAdd (0x0700 + 4 * (p / 256) + (if b.lean then 3 else 2)) 1 (perfAdd (0x0700 + 4 * (p / 256)) 1 s3)

/-- A leaf's bout ends with no decision (R246): no burst of it was accepted. -/
def undecided (p : Nat) (s : State) : State :=
  let x := s.port p
  if !x.cfg.leaf || (s.paux p).decided || x.lastEpoch.isNone then s
  else
    let s1 := s.setPort p { x with accepted := 0 }
    s1.setPaux p { s1.paux p with acceptedLink := false }

/-- BOUT_EPOCH (R221, R224, R243): the bout in progress ends, what waits for the boundary takes effect, a head end launches
its burst or keeps a dark epoch silent, and in CAL sends a calibration burst in its place (R251). -/
def boutEpoch (p : Nat) (s : State) : State :=
  match epochDue s p with
  | none => s
  | some (e, at_) =>
    let x := s.port p
    if x.st.state = .disabled then s
    else if !x.cfg.leaf && (sends x.st.state || decide (x.st.state = .cal)) && isDark s p e then
      s.setPort p { x with dark := some e, built := none, bout := if sends x.st.state then (x.bout + 1) % 2 ^ 48 else x.bout }
    else
      let due := match (s.paux p).expect with | some (_, a) => decide (a ≤ (e * us1 : Nat)) | none => true
      let missed := x.cfg.leaf && x.lastEpoch.isSome && !(s.paux p).seen && due
      let s0 := undecided p s
      let s1 := boundary p (s0.setPort p (closeBout (s0.port p)))
      let y := s1.port p
      if y.st.state = .disabled then policyPass p s1
      else
        let y := unmetUpdate { y with lastEpoch := some e, lastEpochAt := at_, sent := none, dark := none }
        let s2 := (s1.setPort p y).setPaux p { s1.paux p with prevMissed := missed, seen := false, decided := false, calDue := false }
        let s3 :=
          if y.cfg.leaf then s2
          else if calOpen y then calOnLine p (e * us1 : Nat) s2
          else match y.built with
            | some b => if b.epoch = e ∧ sends y.st.state then launchBurst p b s2 else s2
            | none => s2
        policyPass p s3

/-- TLVs of an area; none when one overruns it (R228): `k` bounds their number. -/
def parseTlvs : Nat → List Byte → Option (List (Nat × List Byte))
  | _, [] => some []
  | 0, _ => none
  | k + 1, t :: l =>
    match l with
    | [] => none
    | n :: rest =>
      if rest.length < n.toNat then none
      else (parseTlvs k (rest.drop n.toNat)).map (fun q => (t.toNat, rest.take n.toNat) :: q)

/-- The value of the first TLV of a type. -/
def tlvOf (l : List (Nat × List Byte)) (ty : Nat) : Option (List Byte) := (l.find? (fun t => t.1 == ty)).map (·.2)

/-- Units of 256 bytes that a message takes in the pool (R259). -/
def units (n : Nat) : Nat := divUp n 256
/-- Units of the mailbox pool in use (R259, R405). -/
def poolUsed (s : State) : Nat :=
  (s.fur.ports.map (fun e => (e.2.mb.txLens.map units).sum + (e.2.mb.rx.map (fun m => units m.data.length)).sum +
    (match e.2.mb.asm with | some m => units m.data.length | none => 0))).sum
/-- Units of the mailbox pool (R405). -/
def poolUnits : Nat := 2048

/-- A received MAILBOX TLV in the assembly of its message (R260). -/
def assemble (t : MbTlv) (m : Mailbox) : Mailbox × Bool :=
  let lost := t.first && m.asm.isSome
  let start : Option MbMsg := if t.first then some ⟨t.channel, []⟩ else m.asm
  let m := if lost then { m with discards := satInc sat32 m.discards } else m
  match start with
  | none => ({ m with asm := none }, false)
  | some a =>
    let d := a.data ++ t.data
    if 1984 < d.length then ({ m with asm := none, discards := satInc sat32 m.discards }, false)
    else if t.last then
      ({ m with asm := none, rx := m.rx ++ [⟨a.channel, d⟩], messages := satInc sat32 m.messages }, true)
    else ({ m with asm := some ⟨a.channel, d⟩ }, false)

/-- A received MAILBOX TLV (R234, R260). -/
def mailboxTlv (p : Nat) (t : MbTlv) (s : State) : State :=
  let x := s.port p
  let want := match x.mb.rxSeq with | some q => (q + 1) % 65536 | none => 0
  let y := { x with traffic := true, wantLean := false }
  if x.st.state = .disabled then s
  else if t.seq ≠ want then s.setPort p { y with mb := { x.mb with ackDue := x.mb.ackDue || x.mb.rxSeq.isSome } }
  else if t.first ∧ (4 ≤ x.mb.rx.length ∨ poolUnits ≤ poolUsed s) then s.setPort p y
  else
    let r := assemble t { x.mb with rxSeq := some t.seq, ackDue := true }
    let s1 := s.setPort p { y with mb := r.1 }
    if r.2 then irqArrive (5 + p / 256) (p % 256) s1 else s1

/-- A MAILBOX TLV from its value (R233). -/
def tlvMailbox (v : List Byte) : MbTlv :=
  { channel := rd v 0 1, first := bit (rd v 1 1) 0, last := bit (rd v 1 1) 1, seq := rdBe v 2 2, data := v.drop 4 }

/-- MB_ACK: every TLV up to the acknowledged one is delivered (R234, R259). -/
def mailboxAck (p ack : Nat) (s : State) : State :=
  let x := s.port p
  let y := { x with traffic := true, wantLean := false }
  if x.mb.tx.any (fun t => t.seq == ack && t.was) then
    let upTo := x.mb.tx.takeWhile (fun t => t.seq != ack) ++ x.mb.tx.filter (fun t => t.seq == ack)
    let n := (upTo.filter (·.last)).length
    s.setPort p { y with mb := { x.mb with
      tx := x.mb.tx.drop upTo.length, txLens := x.mb.txLens.drop n, delivered := min sat32 (x.mb.delivered + n) } }
  else s.setPort p y

/-- The mailbox TLVs of a burst that passed its checks. -/
def burstMail (p : Nat) (l : List (Nat × List Byte)) (s : State) : State :=
  l.foldl (fun t q =>
    if q.1 = 0x11 then mailboxAck p (rdBe q.2 0 2) t
    else if q.1 = 0x10 ∧ 5 ≤ q.2.length ∧ q.2.length ≤ 252 then mailboxTlv p (tlvMailbox q.2) t else t) s

/-- The checks of R237 in order. -/
inductive FurCheck where
  | code | format | link | crc | replay | tlv | auth | pass
  deriving DecidableEq, Repr

/-- Count a burst that fails (R237). -/
def countErr (c : FurCheck) (e : FurErr) : FurErr :=
  match c with
  | .code => { e with code := satInc sat16 e.code }
  | .format => { e with format := satInc sat16 e.format }
  | .link => { e with link := satInc sat16 e.link }
  | .crc => { e with crc := satInc sat16 e.crc }
  | .replay => { e with replay := satInc sat16 e.replay }
  | .tlv => { e with format := satInc sat16 e.format }
  | .auth => { e with auth := satInc sat16 e.auth }
  | .pass => e

/-- Checks 2 to 4 of R237 on a frame with `head` bytes before its TLV area. -/
def frontChecks (f : List Byte) (ty head link : Nat) : Option FurCheck :=
  if f.length < head + 16 ∨ rd f 0 1 ≠ ty ∨ rd f 1 1 ≠ 1 then some .format
  else if rdBe f 16 4 ≠ link then some .link
  else if rdBe f (f.length - 4) 4 ≠ crc32 (f.take (f.length - 4)) then some .crc
  else none

/-- The TLVs of a frame whose area fits exactly (R228). -/
def frameTlvs (f : List Byte) (head : Nat) : Option (List (Nat × List Byte)) :=
  if rdBe f 12 2 + head + 16 = f.length then parseTlvs f.length ((f.drop head).take (f.length - head - 16)) else none

/-- The tag of a frame verifies under a key (R235). -/
def tagOk (key : Option (List Byte)) (f : List Byte) : Bool :=
  match key with
  | some k => decide ((cmac k (f.take (f.length - 16))).take 12 = (f.drop (f.length - 16)).take 12)
  | none => false

/-- Freshness of a downstream BOUT (R238). -/
def fresh (last : Option Nat) (bout : Nat) : Bool :=
  match last with
  | none => true
  | some l => let d := (bout + 2 ^ 48 - l) % 2 ^ 48; decide (1 ≤ d) && decide (d ≤ 2 ^ 47 - 1)

/-- What a leaf keeps of a downstream burst with frame `f` (R262). -/
def leafRx (s : State) (p : Nat) (b : RxBurst) (f : List Byte) (tlvs : List (Nat × List Byte)) (ok_ : Bool) : LeafRx :=
  let cs := (tlvOf tlvs 1).getD []
  { time := rdBeTime f 20, claim := rd f 8 1
    delay := if rdBe f 36 8 = noInterval then none else some (rdBeI f 36 8)
    bound := rdBe f 44 4, linkId := rdBe f 16 4
    arr := fieldOfBase s (portDie p) b.arrival - tRx p (s.port p) b.lean * 2 ^ 16, lean := b.lean
    hops := rd cs 5 1, originId := rdBe ((tlvOf tlvs 2).getD []) 0 8
    utcOffset := rdBeI cs 2 2, utcValid := bit (rd cs 1 1) 5, leap61 := bit (rd cs 1 1) 4, leap59 := bit (rd cs 1 1) 3
    step := (tlvOf tlvs 3).map (fun v => (rdBeI v 0 8, rdBeTime v 8))
    answered := true, ok := ok_, bout := rdBe f 2 6, keyIndex := rd f 11 1, turnaround := rdBe f 14 2
    skip := bit (rd f 10 1) 1, echo := bit (rd f 10 1) 2, stale := b.stale, timed := recordsValid s p && !b.missed && !b.invalid }

/-- Time may be taken from the burst (R240, R246). -/
def takeable (r : LeafRx) : Bool := r.ok && decide (r.claim ≠ 0) && r.delay.isSome && decide (r.bound ≠ unbounded)

/-- The phase of an accepted burst (R262), before CAL_DELAY. -/
def leafPhase (r : LeafRx) : Interval :=
  satI (divTrunc (r.arr - ((r.time : Int) + tMark r.lean + (r.delay.getD 0) * 2 ^ 16)) (2 ^ 16))

/-- A leaf accepts a port's burst (R246, R248, R262): the slot has one measurement event. -/
def acceptBurst (p : Nat) (r : LeafRx) (s : State) : State :=
  let x := s.port p
  let st := if x.st.state = .listen then PortState.tracking else x.st.state
  let s1 := s.setPort p { x with
    rx := some { r with decided := true }, sampled := true, noAccept := 0, accepted := r.claim
    st := { x.st with state := st, bound := r.bound, delay := r.delay } }
  let s2 := s1.setPaux p { s1.paux p with acceptedLink := true, decided := true }
  if st = .tracking ∧ 11 ≤ x.cfg.slot ∧ x.cfg.slot ≤ 18 then
    refEvent x.cfg.slot
      { at_ := r.arr.toNat, prov := (s.replica (portDie p)).frame.warmup, unlock := false, stale := r.stale
        invalid := !r.timed, phase := some (leafPhase r), ub := r.bound
        tod := some (todFlags (ftSec r.time) r.utcOffset r.utcValid r.leap61 r.leap59), hops := r.hops, originId := r.originId } s2
  else s2

/-- A leaf takes no burst of a port in this bout (R246). -/
def passOver (p accepted : Nat) (s : State) : State :=
  let x := s.port p
  let s1 := s.setPort p { x with accepted := accepted, rx := x.rx.map (fun r => { r with decided := true }) }
  s1.setPaux p { s1.paux p with acceptedLink := false, decided := true }

/-- The other leaf-mode port of a port's slot (R261). -/
def partnerPort (s : State) (p : Nat) : Option Nat :=
  (s.fur.ports.find? (fun e => e.2.cfg.leaf && e.2.cfg.slot == (s.port p).cfg.slot && e.1 != p)).map (·.1)

/-- A single link's leaf decides on its burst at once (R246). -/
def decideSingle (p : Nat) (s : State) : State :=
  match (s.port p).rx, partnerPort s p with
  | some r, none => if takeable r then acceptBurst p r s else passOver p 0 s
  | _, _ => s

/-- What a leaf predicts after a burst (R241): the TIME of the next one and its arrival, less T_RX, on the leaf's timescale. A
step announced for the way there puts it at the first epoch of the new grid that is not dark (R224). -/
def predictNext (c : FurCfg) (r : LeafRx) : FieldTime × Int :=
  let per := c.period * us1
  let plain := (r.time + per, r.arr + per)
  match r.step with
  | none => plain
  | some (size, eff) =>
    if r.time < eff ∧ eff ≤ r.time + per then
      let m := (ftAdd eff size).toNat
      let e := divUp m per * per
      let d := eff - r.time + (e - m)
      if d < pMinOf c r.lean * us1 then (e + per, r.arr + d + per) else (e, r.arr + d)
    else plain

/-- A burst that passed its checks: NEXT_LEAN is kept (R243, R267), the next burst predicted, and its arrival window set. -/
def foretell (p : Nat) (r : LeafRx) (nextLean : Bool) (s : State) : State :=
  let x := s.port p
  let n := predictNext x.cfg r
  let s1 := s.setPort p { x with st := { x.st with nextLean := nextLean } }
  let lo := n.2 - tMark nextLean
  setArrive p nextLean lo (lo + symTime nextLean (sdMax nextLean 0)) (s1.setPaux p { s1.paux p with expect := some n })

/-- DOWNSTREAM_BURST (R237, R238, R262). -/
def downstreamBurst (p : Nat) (b : RxBurst) (s0 : State) : State :=
  let s := s0.setPaux p { s0.paux p with seen := true }
  let x := s.port p
  let fail := fun (c : FurCheck) => s.setPort p { x with err := countErr c x.err }
  let leafOn := match x.st.state with | .listen => true | .tracking => true | .fault => true | _ => false
  if !x.cfg.leaf || !leafOn then s0
  else
    match lineFrame b.lean false (sdMax b.lean (if b.lean then 0 else x.cfg.mbMax)) b.groups with
    | none => fail .code
    | some f =>
      let back := fun (c : FurCheck) =>
        decideSingle p (s.setPort p { x with err := countErr c x.err, rx := some (leafRx s p b f [] false) })
      match frontChecks f 1 48 (linkIdOf s p) with
      | some c => fail c
      | none =>
        if !fresh x.last (rdBe f 2 6) then fail .replay
        else match frameTlvs f 48 with
          | none => back .tlv
          | some l =>
            if !tagOk (linkKey s p (rd f 11 1)) f then back .auth
            else
              let r := leafRx s p b f l true
              let s1 := s.setPort p { x with last := some (rdBe f 2 6), rx := some r }
              decideSingle p (perfAdd (0x0701 + 4 * (p / 256)) 1 (burstMail p l (foretell p r (bit (rd f 10 1) 0) s1)))

/-- Of two bursts, whether the first is accepted (R246). -/
def firstWins (s : State) (a b : Nat) (ra rb : LeafRx) : Bool :=
  if ra.claim ≠ rb.claim then decide (rb.claim < ra.claim)
  else if (s.paux a).acceptedLink then true
  else if (s.paux b).acceptedLink then false
  else decide (ra.linkId ≤ rb.linkId)

/-- The expected arrival of a port's burst of the bout of `r`, received on the other link, has passed by P/4 (R246): as
predicted, else as much after `r` as the links' delays differ. -/
def overdue (s : State) (p : Nat) (r : LeafRx) : Bool :=
  let x := s.port p
  let other := r.arr - tMark r.lean - (r.delay.getD 0) * 2 ^ 16 + tMark x.st.lean + (x.st.delay.getD 0) * 2 ^ 16
  let at_ : Int := match (s.paux p).expect with | some (t, a) => if t = r.time then a else other | none => other
  decide (at_ + (x.cfg.period * us1 / 4 : Nat) ≤ replicaTime s (portDie p))

/-- LEAF_DECISION (R246): both bursts of a bout, or one once the other is overdue. -/
def leafDecision (a b : Nat) (s : State) : State :=
  let pair := (s.port a).cfg.leaf && (s.port b).cfg.leaf && decide (a ≠ b) && decide ((s.port a).cfg.slot = (s.port b).cfg.slot)
  let ra := (s.port a).rx.filter (fun r => !r.decided)
  let rb := (s.port b).rx.filter (fun r => !r.decided)
  let one := fun (p q : Nat) (r : LeafRx) =>
    if !overdue s q r then s
    else if takeable r then passOver q r.claim (acceptBurst p r s) else passOver q 0 (passOver p 0 s)
  if !pair then s
  else match ra, rb with
    | none, none => s
    | some r, none => one a b r
    | none, some r => one b a r
    | some x, some y =>
      if x.time < y.time then one b a y
      else if y.time < x.time then one a b x
      else if takeable x && (!takeable y || firstWins s a b x y) then passOver b x.claim (acceptBurst a x s)
      else if takeable y then passOver a y.claim (acceptBurst b y s)
      else passOver b 0 (passOver a 0 s)

/-- LEAF_STATE of a port (R263). -/
def leafState (s : State) (p : Nat) : Nat :=
  if (s.port p).st.state = .fault then 4
  else
    let m := (s.replica (portDie p)).frame.mState
    if m ≤ 2 then 0 else if m ≤ 4 then 1 else if m = 5 then 2 else 3

/-- The F tile's die temperature (R251). -/
def tileTemp (s : State) (p : Nat) : Int := tget (-32768) s.fur.tileTemp (p / 256)

/-- LEAF_ALARMS (R227). OSC_FAULT is OSC0_LOSS of the fault replica (DESIGN CHOICE, log entry 27: the field has the leaf's own
condition and no rule names its source). -/
def leafAlarms (s : State) (p : Nat) : Nat :=
  flag 0 (s.paux p).prevAuthFail + flag 1 (s.paux p).prevMissed + flag 2 (bit s.regs.replica 1) +
  flag 3 (decide (4 ≤ (s.port p).mb.rx.length)) + flag 4 (decide (tileTemp s p = -32768))

/-- The upstream frame's bytes before tag and CRC (R227). -/
def upBody (s : State) (p : Nat) (r : LeafRx) (turn : Interval) : List Byte :=
  let x := s.port p
  let mail := if r.lean ∨ r.echo then [] else (mbArea x x.cfg.mbMax).2.2
  be 1 2 ++ be 1 1 ++ be 6 r.bout ++ be 1 (leafState s p) ++ be 1 (flag 0 r.lean) ++
  be 1 (flag 0 r.timed + flag 1 (mbTraffic x && !r.echo) + flag 2 r.echo) ++ be 1 r.keyIndex ++ be 2 mail.length ++
  be 1 x.accepted ++ zeros 1 ++ be 4 r.linkId ++ beI 8 turn ++
  (match tget none s.fur.slotFreqs x.cfg.slot with | some v => beI 8 (-v) | none => be 8 noInterval) ++
  beI 2 (tileTemp s p) ++ be 2 (leafAlarms s p) ++ mail

/-- UPSTREAM_LAUNCH (R227, R242, R263): on the clocked instant nearest to the turnaround; in one burst of every 64 of a run in
service the port's own edge is measured (R251). -/
def upstreamLaunch (p : Nat) (s : State) : State :=
  let x := s.port p
  match x.rx with
  | none => s
  | some r =>
    if !x.cfg.leaf || r.launched || r.skip || !r.answered || decide (x.st.state = .disabled) then s
    else
      let edge := upEdge s p r
      let turn : Interval := satI (divTrunc (edge - r.arr) (2 ^ 16))
      let cal := x.cal.running && !x.cal.initial && decide (63 ≤ x.boutsSinceCal)
      let key := linkKey s p r.keyIndex
      let area := if r.lean ∨ r.echo then (none, [], []) else mbArea x x.cfg.mbMax
      let f := sealFrame key (upBody s p r turn)
      let s1 := s.setPort p { x with
        rx := some { r with launched := true }, lastBout := r.bout, boutsSinceCal := if cal then 0 else x.boutsSinceCal + 1
        mb := markSent (area.2.1.map (·.seq)) area.1 r.bout x.mb
        st := { x.st with lean := r.lean }
        leaf := { x.leaf with state := leafState s p, claim := x.accepted, alarms := leafAlarms s p, turn := turn } }
      let s2 := s1.setPaux p { s1.paux p with prevAuthFail := !r.ok, prevMissed := false, turnUsed := turn, upFrame := f, calDue := cal }
      let s2 := onLine p r.lean (lineBurst r.lean true f) (edge - tMark r.lean) s2
      let s3 := if key.isNone then countNoKey s2 else s2
      perfAdd (0x0700 + 4 * (p / 256) + (if r.lean then 3 else 2)) 1 (perfAdd (0x0700 + 4 * (p / 256)) 1 s3)

/-- The delay sample of a bout (R239): RT_raw scaled, less the delays and TURN_USED, halved and truncated. -/
def delaySample (p : Nat) (x : FurPort) (rate : Freq) (lean : Bool) (rtRaw turn : Interval) : Interval :=
  satI (divTrunc (rtRaw * (2 ^ 48 + rate) - (tTx p x lean + tRx p x lean + turn) * 2 ^ 48) (2 * 2 ^ 48))

/-- The timing edge lies within ±200 ns of its expected instant (R239). -/
def inWindow (x : FurPort) (b : Burst) (rtRaw : Interval) : Bool :=
  match x.st.delay with
  | some d => decide ((rtRaw - ((b.turn * symNs b.lean * 65536 : Nat) + 2 * d)).natAbs ≤ 200 * 65536)
  | none => true

/-- A sample into the filter (R254, R255, R256). -/
def filterSample (p : Nat) (d : DelaySample) (s : State) : State :=
  let x := s.port p
  let size := 2 ^ x.cfg.filterLog2
  let push := (d :: x.filter).take size
  let x := { x with sampled := true, noSample := 0 }
  match x.st.state with
  | .searching | .ranging =>
    driftUpdate p (s.setPort p (rangeDone { x with
      filter := push, rejectRun := 0, st := { x.st with state := .ranging, delay := none } }))
  | .serving =>
    if (d.d - x.st.delay.getD 0).natAbs ≤ x.cfg.delayGate * 1024 then
      driftUpdate p (s.setPort p { x with
        filter := push, rejectRun := 0, st := { x.st with delay := some (filterMean push) } })
    else
      let x := { x with err := { x.err with delayReject := satInc sat16 x.err.delayReject }, rejectRun := x.rejectRun + 1 }
      if size ≤ x.rejectRun then
        let y := clearFilter { x with err := { x.err with delayJumps := satInc sat16 x.err.delayJumps } }
        setSticky (portBlock p) (18 + 4 * (p % 256))
          (driftUpdate p (s.setPort p { y with st := { y.st with state := .ranging } }))
      else s.setPort p x
  | _ => s.setPort p x

/-- A remote leaf echo's counts of an answer (R562, R572). -/
def echoCount (p : Nat) (echo authFail : Bool) (d : Option Interval) (s : State) : State :=
  let l := furLoop s p
  if l.depth ≠ 3 then s
  else
    let l := { l with
      good := satInc sat32 l.good, echoed := if echo then satInc sat32 l.echoed else l.echoed
      errors := if authFail then satInc sat32 l.errors else l.errors }
    let l := match d with
      | some v => { l with n := l.n + 1, sum := l.sum + v, sumSq := l.sumSq + v.natAbs * v.natAbs }
      | none => l
    { s with tst := { s.tst with loops := tset {} s.tst.loops (8192 + p) l } }

/-- UPSTREAM_BURST (R237, R239, R254 to R256). -/
def upstreamBurst (p : Nat) (b : RxBurst) (s : State) : State :=
  let x := s.port p
  match x.sent with
  | none => s
  | some d =>
    let fail := fun (c : FurCheck) => s.setPort p { x with err := countErr c x.err }
    if x.cfg.leaf || d.skip then s
    else match lineFrame b.lean true (suMax d.lean (mbMaxOf x d.lean)) b.groups with
     | none => fail .code
     | some f => match frontChecks f 2 40 (linkIdOf s p) with
      | some c => fail c
      | none =>
        if rdBe f 2 6 ≠ d.bout then fail .replay
        else match frameTlvs f 40 with
          | none => fail .tlv
          | some l =>
            if !tagOk (linkKey s p d.keyIndex) f then fail .auth
            else
              let turn := rdBeI f 20 8
              let pend_ := bit (rd f 10 1) 1
              let rt := b.arrival - x.launch
              let dl := delaySample p x (s.replica (portDie p)).frame.rate d.lean rt turn
              let good := bit (rd f 10 1) 0 && inWindow x d rt && recordsValid s p && !b.missed && !b.invalid
              let s1 := s.setPort p { x with
                sent := none, traffic := x.traffic || pend_, wantLean := x.wantLean && !pend_
                leaf := ⟨rd f 8 1, rd f 14 1, rdBe f 38 2, turn,
                  if rdBe f 28 8 = noInterval then none else some (rdBeI f 28 8), rdBeI f 36 2⟩ }
              let s2 := perfAdd (0x0701 + 4 * (p / 256)) 1 (burstMail p l s1)
              let s3 := echoCount p (bit (rd f 10 1) 2) (bit (rdBe f 38 2) 0) (if good then some dl else none) s2
              if good then filterSample p ⟨dl, d.lean, b.stale⟩ s3 else s3

/-- SEARCH_TIMEOUT (R248): 256 bouts without a sample. -/
def searchTimeout (p : Nat) (s : State) : State :=
  let x := s.port p
  if (x.st.state = .serving ∨ x.st.state = .ranging) ∧ 256 ≤ x.noSample then
    let y := clearFilter x
    driftUpdate p (s.setPort p { y with st := { y.st with state := .searching } })
  else s

/-- LISTEN_TIMEOUT (R248, R238): 1,024 bouts without an accepted burst. -/
def listenTimeout (p : Nat) (s : State) : State :=
  let x := s.port p
  if x.st.state = .tracking ∧ 1024 ≤ x.noAccept then
    s.setPort p { x with st := { x.st with state := .listen, delay := none } }
  else s

/-- LEAN_AFTER_IDLE (R244): 4,096 bouts without mailbox traffic. -/
def leanAfterIdle (p : Nat) (s : State) : State :=
  let x := s.port p
  if !x.cfg.leaf ∧ sends x.st.state ∧ 4096 ≤ x.idle ∧ !x.traffic ∧ !mbTraffic x then
    s.setPort p (unmetUpdate { x with wantLean := true })
  else s

/-- MAILBOX_RESEND (R234): 8 bouts without an acknowledgement of the oldest TLV. -/
def mailboxResend (p : Nat) (s : State) : State :=
  let x := s.port p
  match x.mb.tx with
  | [] => s
  | t :: _ =>
    match t.sent with
    | none => s
    | some n =>
      if 8 ≤ (x.lastBout + 2 ^ 48 - n) % 2 ^ 48 then
        s.setPort p { x with mb := { x.mb with tx := x.mb.tx.map (fun q => { q with sent := none }) } }
      else s

/-- BOUT_EPOCH (R221). -/
def execBoutEpoch (port : Nat) (s : State) : Out := guardUnit (port < numPorts) s (doneHeld s (boutEpoch port s))
/-- BURST_BUILD (R226). -/
def execBurstBuild (port : Nat) (s : State) : Out := guardUnit (port < numPorts) s (done s (burstBuild port s))
/-- DOWNSTREAM_BURST (R237). -/
def execDownstreamBurst (port : Nat) (b : RxBurst) (s : State) : Out :=
  guardUnit (port < numPorts) s (done s (downstreamBurst port b s))
/-- UPSTREAM_LAUNCH (R263). -/
def execUpstreamLaunch (port : Nat) (s : State) : Out := guardUnit (port < numPorts) s (done s (upstreamLaunch port s))
/-- UPSTREAM_BURST (R239). -/
def execUpstreamBurst (port : Nat) (b : RxBurst) (s : State) : Out :=
  guardUnit (port < numPorts) s (done s (upstreamBurst port b s))
/-- LEAF_DECISION (R246). -/
def execLeafDecision (portA portB : Nat) (s : State) : Out :=
  guardUnit (portA < numPorts ∧ portB < numPorts) s (done s (leafDecision portA portB s))
/-- SEARCH_TIMEOUT (R248). -/
def execSearchTimeout (port : Nat) (s : State) : Out := guardUnit (port < numPorts) s (done s (searchTimeout port s))
/-- LISTEN_TIMEOUT (R248). -/
def execListenTimeout (port : Nat) (s : State) : Out := guardUnit (port < numPorts) s (done s (listenTimeout port s))
/-- LEAN_AFTER_IDLE (R244). -/
def execLeanAfterIdle (port : Nat) (s : State) : Out := guardUnit (port < numPorts) s (done s (leanAfterIdle port s))
/-- MAILBOX_TLV (R234). -/
def execMailboxTlv (port channel flags seq : Nat) (data : List Byte) (s : State) : Out :=
  guardUnit (port < numPorts) s (done s (mailboxTlv port ⟨channel, bit flags 0, bit flags 1, seq, data, none, false⟩ s))
/-- MAILBOX_RESEND (R234). -/
def execMailboxResend (port : Nat) (s : State) : Out := guardUnit (port < numPorts) s (done s (mailboxResend port s))
/-- CAL_APPLY (R253). -/
def execCalApply (port : Nat) (s : State) : Out := guardUnit (port < numPorts) s (done s (calApply port s))

end Sys2Proof.Machine
end

