-- ==== Sys2Proof/Machine/FurOp.lean ====
section
/-! DEFINITION. Furrow port operation: calibration, rate policy, mailboxes, the status array, the commands of group 0x07
(R248 to R274). -/

namespace Sys2Proof.Machine
open Sys2Proof

/-- States in which a port is in service (R251). -/
def inService (x : PortState) : Bool := match x with | .disabled => false | .cal => false | _ => true

/-- CAL_RUN_START (R251): CAL_PERIOD after the previous start, or 2 °C from the last accepted run. -/
def calRunStart (p : Nat) (s : State) : State :=
  let x := s.port p
  let t := tileTemp s p
  let due := decide (x.cal.startedAt + x.cfg.calPeriod * 1000000000 ≤ s.now)
  let moved := decide (t ≠ -32768) && decide (x.cal.temp ≠ -32768) && decide (256 ≤ (t - x.cal.temp).natAbs)
  if inService x.st.state && !x.cal.running && (due || moved) then s.setPort p (startRun s.now false x) else s

/-- CAL_MEASUREMENT (R250, R251): measurement k of the run in progress, of the bout's calibration burst; a leaf-mode port in CAL
makes one every 1 µs, on a burst that goes on the line. -/
def calMeasurement (p : Nat) (v : Interval) (s : State) : State :=
  let x := s.port p
  let y := { x with cal := { x.cal with meas := x.cal.meas ++ [v] } }
  if !x.cal.running || decide (16 ≤ x.cal.meas.length) then s
  else if x.cfg.leaf && decide (x.st.state = .cal) then
    if s.now < x.cal.startedAt + 1000 * x.cal.meas.length then s
    else
      let lean := decide (x.cal.meas.length % 2 = 1)
      onLine p lean (calBurst lean) (fieldOfBase s (portDie p) (leafCalAt s x)) (s.setPort p y)
  else if (s.paux p).calDue then
    let s1 := s.setPort p y
    s1.setPaux p { s1.paux p with calDue := false }
  else s

/-- The four measurements of a quantity (R250): 0 TAP full, 1 TAP lean, 2 LOOP full, 3 LOOP lean. -/
def calQuantity (m : List Interval) (q : Nat) : List Interval := [0, 4, 8, 12].map (fun i => m.getD (i + q) 0)

/-- They lie within 20 ps of one another (R252). -/
def calTight (l : List Interval) : Bool :=
  l.all (fun a => l.all (fun b => decide ((a - b) * 1000 ≤ 20 * 65536)))

/-- Their mean. -/
def calMean (l : List Interval) : Interval := divNearI l.sum 4

/-- A result differs by at most 50 ps from the last accepted value (R252). -/
def calNear (new old : Interval) : Bool := decide ((new - old).natAbs * 1000 ≤ 50 * 65536)

/-- Both results of a rate lie near the last accepted ones. -/
def calClose (new : CalResult) (old : Option CalResult) : Bool :=
  match old with | none => true | some o => calNear new.tap o.tap && calNear new.loop o.loop

/-- CAL_RUN_END (R252): the run is accepted, or rejected and repeated; four rejections end in FAULT. -/
def calRunEnd (p : Nat) (s : State) : State :=
  let x := s.port p
  let q := calQuantity x.cal.meas
  let f : CalResult := ⟨calMean (q 0), calMean (q 2)⟩
  let l : CalResult := ⟨calMean (q 1), calMean (q 3)⟩
  let good := [0, 1, 2, 3].all (fun i => calTight (q i)) &&
    (x.cal.initial || (calClose f x.cal.full && calClose l x.cal.lean))
  if !x.cal.running || decide (x.cal.meas.length ≠ 16) || (x.cal.initial && decide (x.st.state ≠ .cal)) then s
  else if good then
    let c := { x.cal with running := false, meas := [], rejectRun := 0, temp := tileTemp s p }
    if x.cal.initial then
      s.setPort p { x with
        cal := { c with initial := false, full := some f, lean := some l }, noSample := 0, noAccept := 0
        st := { x.st with state := if x.cfg.leaf then .listen else .searching } }
    else s.setPort p { x with cal := { c with waiting := some (f, l) } }
  else
    let y := { x with cal := { x.cal with rejects := satInc sat32 x.cal.rejects, rejectRun := x.cal.rejectRun + 1 } }
    if 4 ≤ y.cal.rejectRun then
      let z := clearFilter { y with cal := { y.cal with running := false, meas := [] } }
      setSticky (portBlock p) (16 + 4 * (p % 256))
        (driftUpdate p (s.setPort p { z with st := { z.st with state := .fault, calFault := true } }))
    else s.setPort p (startRun s.now x.cal.initial y)

/-- The fault of a port is cleared (R248, R252): to CAL. -/
def furFaultCleared (p : Nat) (s : State) : State :=
  if (s.port p).st.state = .fault then enterCal p s else s

/-- A port's function enters its safe state (R509): DISABLED. -/
def furSafe (p : Nat) (s : State) : State :=
  if (s.port p).st.state = .disabled then s else disablePort p (disturbLine p s)

/-- A port's function leaves its safe state (R509). -/
def furLeaveSafe (p : Nat) (s : State) : State :=
  if (s.port p).st.state = .disabled ∧ (s.port p).cfg.enable then enablePort p s else s

/-- FUR_PORT_CONFIG's record (R269). -/
def furRecordOf (p : Nat) (c : FurCfg) : List Byte :=
  le 2 p ++ le 1 (flag 0 c.enable + flag 1 c.leaf + flag 2 c.optical + flag 3 c.driftUnbound) ++ le 1 c.slot ++ le 1 c.period ++
  le 1 c.benLead ++ le 2 c.headland ++ le 2 c.mbMax ++ le 1 c.filterLog2 ++ zeros 1 ++ le 4 (c.linkId.getD p) ++ le 4 c.maxDelay ++
  le 4 c.delayGate ++ le 4 c.driftLimit ++ le 4 c.calPeriod ++ leOptIv c.delayRef ++ leIv c.boardTx ++ leIv c.boardRx ++
  le 4 c.boardUnc ++ zeros 4

/-- The record a write asks for (R269). -/
def furParse (r : List Byte) : FurCfg :=
  let f := rd r 2 1
  { enable := bit f 0, leaf := bit f 1, optical := bit f 2, driftUnbound := bit f 3, slot := rd r 3 1, period := rd r 4 1
    benLead := rd r 5 1, headland := rd r 6 2, mbMax := rd r 8 2, filterLog2 := rd r 10 1, linkId := some (rd r 12 4)
    maxDelay := rd r 16 4, delayGate := rd r 20 4, driftLimit := rd r 24 4, calPeriod := rd r 28 4, delayRef := rdOptIv r 32
    boardTx := rdI r 40 8, boardRx := rdI r 48 8, boardUnc := rd r 56 4 }

/-- LINK_ID as kept: the port number is the default (R269). -/
def furNorm (p : Nat) (c : FurCfg) : FurCfg := if c.linkId = some p then { c with linkId := none } else c

/-- Leaf-mode ports of a slot other than `p`, as configured (R261). -/
def slotPorts (s : State) (p slot : Nat) : Nat :=
  (s.fur.ports.filter (fun e => let c := e.2.cfgNext.getD e.2.cfg; c.leaf && c.slot == slot && e.1 != p)).length

/-- The ranges of a written record (R215, R223, R254, R256, R261, R269). -/
def furChecks (s : State) (p : Nat) (r : List Byte) : List (Nat × Bool) :=
  let c := furParse r
  [(2, rd r 2 1 < 16), (3, (11 ≤ c.slot ∧ c.slot ≤ 18) ∨ c.slot = 0xFF),
   (3, !c.leaf || (decide (c.slot ≠ 0xFF) && decide (slotPorts s p c.slot < 2))),
   (4, 1 ≤ c.period ∧ c.period ≤ 64), (5, c.benLead ≤ 24), (6, 4 ≤ c.headland ∧ c.headland ≤ 256),
   (6, c.benLead * 8 + 40 ≤ c.headland * 16), (8, c.mbMax ≤ 256 ∧ c.mbMax % 4 = 0), (10, c.filterLog2 ≤ 6), zeroAt r 11 1,
   (16, 1 ≤ c.maxDelay ∧ c.maxDelay ≤ 10000), (4, pMinOf c false ≤ c.period),
   (4, decide ((s.port p).ceiling = 1) || decide (pMinOf c true ≤ c.period)),
   (20, 2 ≤ c.delayGate ∧ c.delayGate ≤ 0xFA00), (24, 2 ≤ c.driftLimit ∧ c.driftLimit ≤ 0xFA00),
   (28, 1 ≤ c.calPeriod ∧ c.calPeriod ≤ 3600), (40, 0 ≤ c.boardTx ∧ c.boardTx ≤ 6553600),
   (48, 0 ≤ c.boardRx ∧ c.boardRx ≤ 6553600), (56, c.boardUnc ≤ 0xFA00), zeroAt r 60 4]

/-- A record written to a port (R248, R269): at its next bout boundary while it is enabled. -/
def furWrite (p : Nat) (c : FurCfg) (s : State) : State :=
  let s1 := rewriteWord (portBlock p) (p % 256) s
  let x := s1.port p
  if x.st.state = .disabled then
    let s2 := s1.setPort p { x with cfg := c, cfgNext := none }
    let s3 := if c.linkId ≠ x.cfg.linkId then rederiveLinks p s2 else s2
    if c.enable && !inSafe s3 (portBlock p) (p % 256) then enablePort p s3 else s3
  else s1.setPort p { x with cfgNext := some c }

/-- FUR_PORT_CONFIG (R261, R269, R560). -/
def bodyFurPortConfig : Body := fun c s =>
  let r := c.req.payload
  let p := rd r 0 2
  if r.length ≠ 2 ∧ r.length ≠ 64 then badLen s
  else checked s [(0, p < numPorts)]
    (if r.length = 2 then ok s (furRecordOf p (furCfgOf s p))
     else checked s (furChecks s p r)
       (let new := furNorm p (furParse r)
        let old := furCfgOf s p
        if new.leaf ≠ old.leaf ∧ ((s.port p).st.state ≠ .disabled ∨ (new.enable ∧ old.enable)) then err s stSTATE
        else if new.enable ∧ !old.enable ∧ (furLoop s p).depth ≠ 0 then err s stSTATE
        else sealedWrite (sealedOf 0x0701 p [(40, 8), (48, 8), (56, 4)] (furRecordOf p old) r) s (fun t =>
          ok (furWrite p new t) (furRecordOf p new))))

/-- STATE's code (R267). -/
def portCode (x : PortState) : Nat :=
  match x with
  | .disabled => 0 | .cal => 1 | .searching => 2 | .ranging => 3 | .serving => 4 | .listen => 5 | .tracking => 6 | .fault => 7

/-- FUR_ST_STATE (R267). -/
def furStWord (s : State) (p upd : Nat) : Nat :=
  let x := s.port p
  upd * 2 ^ 28 + portCode x.st.state * 2 ^ 24 + flag 23 x.cfg.leaf + flag 22 x.st.lean + flag 21 x.st.nextLean +
  flag 20 x.st.targetUnmet + flag 19 x.st.drift + flag 18 x.st.calFault + flag 17 (tableValid s p) +
  flag 16 (x.filter.any (·.stale)) + flag 15 (decide (x.st.bound = unbounded)) + flag 14 (decide (x.mb.rx ≠ [])) +
  flag 13 (decide (4 ≤ x.mb.txLens.length)) + flag 12 x.cfg.optical + (if x.cfg.leaf then x.cfg.slot else 0xFF)

/-- A port's record as a rewrite makes it (R266). -/
def furStatus (s : State) (p upd : Nat) : List Byte :=
  let x := s.port p
  let e := x.err
  le 4 (furStWord s p upd) ++ le 4 (linkIdOf s p) ++ le 8 x.lastBout ++ leOptIv x.st.delay ++ le 4 x.st.bound ++ le 4 x.st.term ++
  leI 4 (if x.cal.full.isSome then tTx p x x.st.lean else 0) ++ leI 4 (if x.cal.full.isSome then tRx p x x.st.lean else 0) ++
  leI 4 x.leaf.turn ++
  le 2 e.crc ++ le 2 e.code ++ le 2 e.auth ++ le 2 e.format ++ le 2 e.replay ++ le 2 e.link ++
  le 2 x.leaf.alarms ++ le 1 x.leaf.claim ++ le 1 x.leaf.state ++ le 2 e.delayJumps ++ le 2 e.delayReject

/-- A port's record before the first rewrite (R266). -/
def furReset (p : Nat) : List Byte :=
  le 4 0x80FF ++ le 4 p ++ zeros 8 ++ le 8 noInterval ++ le 4 unbounded ++ zeros 36

/-- A port's record in the status array (R265, R266). -/
def furArray (s : State) (p : Nat) : List Byte := if (s.paux p).record = [] then furReset p else (s.paux p).record

/-- STATUS_ARRAY_REWRITE (R265, R26): every record, once per millisecond of field time. -/
def statusArrayRewrite (s : State) : State :=
  let ms := replicaTime s 1 / ms1
  if ms = s.fur.rewriteMs ∨ !(s.replica 1).anyGood then s
  else
    let upd := (s.fur.upd + 1) % 16
    let row := fun p =>
      let a := s.paux p
      (p, { a with record := furStatus s p upd, unmetMs := if (s.port p).st.targetUnmet then a.unmetMs + 1 else a.unmetMs })
    { s with fur := { s.fur with rewriteMs := ms, upd := upd, aux := (List.range numPorts).map row } }

/-- The counters of a port clear (R265, R270). -/
def clearCounters (p : Nat) (s : State) : State :=
  let x := s.port p
  s.setPort p { x with
    err := {}, mb := { x.mb with delivered := 0, messages := 0, discards := 0 }, cal := { x.cal with rejects := 0 } }

/-- FUR_PORT_STATUS (R270). -/
def bodyFurPortStatus : Body := fun c s =>
  let r := c.req.payload
  let p := rd r 0 2
  if r.length ≠ 4 then badLen s
  else checked s [(0, p < numPorts), (2, rd r 2 1 ≤ 1), zeroAt r 3 1]
    (let x := s.port p
     let out := furArray s p ++ interpRecord s p ++ le 4 x.mb.delivered ++ le 4 x.mb.messages ++ le 4 x.mb.discards ++ le 4 x.cal.rejects
     ok (if bit (rd r 2 1) 0 then clearCounters p s else s) out)

/-- Ports FIRST to FIRST + COUNT − 1. -/
def portRange (first n : Nat) : List Nat := (List.range n).map (first + ·)

/-- FUR_RATE_POLICY (R258, R271): a write replies after the next bout boundary of each port that runs bouts (R27). -/
def bodyFurRatePolicy : Body := fun c s =>
  let r := c.req.payload
  let first := rd r 0 2
  let n := rd r 2 2
  let fl := rd r 4 1
  let ce := rd r 5 1
  if r.length ≠ 4 ∧ r.length ≠ 8 then badLen s
  else checked s [(0, first < numPorts), (2, 1 ≤ n ∧ n ≤ 1024 ∧ first + n ≤ numPorts)]
    (if r.length = 4 then ok s (policyBytes s first n)
     else checked s
       [(4, fl ≤ 1), (5, ce ≤ 1), (4, fl ≤ ce), zeroAt r 6 2,
        (5, decide (ce = 1) || (portRange first n).all (fun p =>
          decide (pMinOf (furCfgOf s p) true ≤ (furCfgOf s p).period)))]
       (let s1 := (portRange first n).foldl (fun (t : State) p => t.setPort p (unmetUpdate { t.port p with floor := fl, ceiling := ce })) s
        let wait := (portRange first n).filter (fun p => sends (s1.port p).st.state && !(s1.port p).cfg.leaf)
        if wait = [] then ok s1 (policyBytes s1 first n)
        else held { s1 with fur := { s1.fur with policyWait := s1.fur.policyWait ++ [(c.id, first, n, wait)] } }))

/-- FUR_CALIBRATE on one port (R272). -/
def furCalibrate (initial : Bool) (s : State) (p : Nat) : State :=
  let x := s.port p
  if x.st.state = .disabled then s
  else if initial then (if x.st.state = .cal ∧ x.cal.running then s else enterCal p s)
  else if x.cal.running then s
  else s.setPort p (startRun s.now (decide (x.st.state = .cal)) x)

/-- FUR_CALIBRATE (R272). -/
def bodyFurCalibrate : Body := fun c s =>
  let r := c.req.payload
  let first := rd r 0 2
  let n := rd r 2 2
  if r.length ≠ 8 then badLen s
  else checked s
    [(0, first < numPorts), (2, 1 ≤ n ∧ n ≤ 1024 ∧ first + n ≤ numPorts), (4, rd r 4 1 ≤ 1), zeroAt r 5 3]
    (pend ((portRange first n).foldl (furCalibrate (bit (rd r 4 1) 0)) s) [])

/-- FUR_MAILBOX_SEND (R259, R273). -/
def bodyFurMailboxSend : Body := fun c s =>
  let r := c.req.payload
  let p := rd r 0 2
  let n := rd r 4 2
  if r.length < 8 ∨ r.length ≠ 8 + n then badLen s
  else checked s [(0, p < numPorts), (2, rd r 2 1 ≤ 15), zeroAt r 3 1, (4, 1 ≤ n ∧ n ≤ 1984), zeroAt r 6 2]
    (let x := s.port p
     if x.st.state = .disabled ∨ x.ceiling = 0 then err s stSTATE
     else if 4 ≤ x.mb.txLens.length ∨ poolUnits < poolUsed s + units n then err s stNORES
     else
       let l := cutMessage (mbChunk x.cfg.mbMax) (n + 1) (rd r 2 1) x.mb.txSeq true true (r.drop 8)
       let y := { x with
         wantLean := false
         mb := { x.mb with
           tx := x.mb.tx ++ l, txLens := x.mb.txLens ++ [n], txSeq := (x.mb.txSeq + l.length) % 65536 } }
       ok (s.setPort p (unmetUpdate y)) (le 4 (4 - y.mb.txLens.length)))

/-- FUR_MAILBOX_RECV (R260, R273). -/
def bodyFurMailboxRecv : Body := fun c s =>
  let r := c.req.payload
  let p := rd r 0 2
  if r.length ≠ 4 then badLen s
  else checked s [(0, p < numPorts), zeroAt r 2 2]
    (let x := s.port p
     if x.st.state = .disabled then err s stSTATE
     else match x.mb.rx with
       | [] => ok s (zeros 4)
       | m :: rest =>
         ok (s.setPort p { x with mb := { x.mb with rx := rest } })
           (le 1 m.channel ++ le 1 (flag 0 (decide (rest ≠ []))) ++ le 2 m.data.length ++ m.data))

/-- One port of FUR_BULK_STATUS (R274). -/
def bulkRecord (s : State) (p : Nat) : List Byte :=
  let r := furArray s p
  let w := rd r 0 4
  let d := rdOptIv r 0x10
  let q := match d with | some v => if 65534 * 16384 < v then 0xFFFF else (max 0 (v / 16384)).toNat | none => 0xFFFF
  let errs := [0x2C, 0x2E, 0x30, 0x32, 0x34, 0x36].map (fun o => rd r o 2)
  le 1 (bitsAt w 24 4 + flag 4 (bit w 23) + flag 5 (bit w 22)) ++ le 1 (bitsAt w 16 8) ++ le 1 (rd r 0x3B 1) ++ le 1 (rd r 0x3A 1) ++
  le 2 q ++ le 2 (min sat16 errs.sum)

/-- FUR_BULK_STATUS (R274). -/
def bodyFurBulkStatus : Body := fun c s =>
  let r := c.req.payload
  let first := rd r 0 2
  let n := rd r 2 2
  if r.length ≠ 4 then badLen s
  else checked s [(0, first < numPorts), (2, 1 ≤ n ∧ n ≤ 256 ∧ first + n ≤ numPorts)]
    (ok s ((portRange first n).flatMap (bulkRecord s)))

/-- FUR_PORT_CONFIG (R269). -/
def execFurPortConfig (rq : Request) (s : State) : Out := kcpRow 0x0701 (leastPriv s 0x0701 rq.payload) bodyFurPortConfig rq s
/-- FUR_PORT_STATUS (R270). -/
def execFurPortStatus (rq : Request) (s : State) : Out := kcpRow 0x0702 (leastPriv s 0x0702 rq.payload) bodyFurPortStatus rq s
/-- FUR_RATE_POLICY (R271). -/
def execFurRatePolicy (rq : Request) (s : State) : Out := kcpRow 0x0703 (leastPriv s 0x0703 rq.payload) bodyFurRatePolicy rq s
/-- FUR_CALIBRATE (R272). -/
def execFurCalibrate (rq : Request) (s : State) : Out := kcpRow 0x0704 (leastPriv s 0x0704 rq.payload) bodyFurCalibrate rq s
/-- FUR_MAILBOX_SEND (R273). -/
def execFurMailboxSend (rq : Request) (s : State) : Out := kcpRow 0x0705 (leastPriv s 0x0705 rq.payload) bodyFurMailboxSend rq s
/-- FUR_MAILBOX_RECV (R273). -/
def execFurMailboxRecv (rq : Request) (s : State) : Out := kcpRow 0x0706 (leastPriv s 0x0706 rq.payload) bodyFurMailboxRecv rq s
/-- FUR_BULK_STATUS (R274). -/
def execFurBulkStatus (rq : Request) (s : State) : Out := kcpRow 0x0707 (leastPriv s 0x0707 rq.payload) bodyFurBulkStatus rq s
/-- CAL_RUN_START (R251). -/
def execCalRunStart (port : Nat) (s : State) : Out := guardUnit (port < numPorts) s (done s (calRunStart port s))
/-- CAL_MEASUREMENT (R250). -/
def execCalMeasurement (port : Nat) (interval : Interval) (s : State) : Out :=
  guardUnit (port < numPorts) s (done s (calMeasurement port interval s))
/-- CAL_RUN_END (R252). -/
def execCalRunEnd (port : Nat) (s : State) : Out := guardUnit (port < numPorts) s (done s (calRunEnd port s))
/-- STATUS_ARRAY_REWRITE (R265). -/
def execStatusArrayRewrite (s : State) : Out := done s (statusArrayRewrite s)

end Sys2Proof.Machine
end

