-- ==== Sys2Proof/Machine/EngCore.lean ====
section
/-! DEFINITION. Flow buckets, placement, input queues, threads and the ends of tasks (R308 to R312). -/

namespace Sys2Proof.Machine
open Sys2Proof

/-- How many engines the module has (R308). -/
def numEngines : Nat := 96
/-- How many hardware threads it has. -/
def numThreads : Nat := 768

/-- Engine `e`. -/
def State.engine (s : State) (e : Nat) : Engine := tget {} s.eng.engines e
/-- Replace an engine. -/
def State.setEngine (s : State) (e : Nat) (x : Engine) : State :=
  { s with eng := { s.eng with engines := tset {} s.eng.engines e x } }
/-- Thread `n` of the module: engine n / 8, thread n mod 8. -/
def State.thread (s : State) (n : Nat) : Thread := tget {} (s.engine (n / 8)).threads (n % 8)
/-- Replace a thread. -/
def State.setThread (s : State) (n : Nat) (x : Thread) : State :=
  s.setEngine (n / 8) { s.engine (n / 8) with threads := tset {} (s.engine (n / 8)).threads (n % 8) x }

/-- The bucket of a flow key (R310): a keyed hash modulo 65,536. -/
def bucketOf (s : State) (key : List Byte) : Nat := Config.flowHash (le 8 s.svc.hashKey ++ key) % 65536

/-- Flow key of a Granary entry (R310). -/
def flowEntry (k : GKey) : List Byte := be 1 0 ++ be 16 k.address ++ be 1 k.port ++ be 1 k.domain
/-- Flow key of a multicast message of an outbound domain (R310). -/
def flowMulticast (domain port : Nat) : List Byte := be 1 1 ++ be 1 domain ++ be 1 port
/-- Flow key of an NTP or NTS request (R310). -/
def flowNtp (address sport port : Nat) : List Byte := be 1 2 ++ be 16 address ++ be 2 sport ++ be 1 port
/-- Flow key of a message of an upstream domain (R310). -/
def flowUpstream (index : Nat) : List Byte := be 1 3 ++ be 1 index
/-- Flow key of ARP and Neighbor Solicitation (R310). -/
def flowArp (port : Nat) : List Byte := be 1 4 ++ be 1 port

/-- The engine of a bucket (R310). -/
def placed (s : State) (b : Nat) : Nat :=
  match s.eng.placement.find? (fun e => e.1 == b) with
  | some e => e.2
  | none => b % numEngines

/-- Map a bucket to an engine. -/
def place (b e : Nat) (s : State) : State :=
  { s with eng := { s.eng with
      placement := if e = b % numEngines then terase s.eng.placement b else tinsert b e (terase s.eng.placement b) } }

/-- The receive buffer a message holds (R405). -/
def rxBytes : TaskMsg → Option (Nat × Nat)
  | .rx port _ _ _ f => some (port, f.length)
  | _ => none

/-- A message's receive buffer is freed (R405). -/
def freeRx (m : TaskMsg) (s : State) : State :=
  match rxBytes m with
  | some (p, n) => s.setEthP p { s.ethP p with rxUsed := (s.ethP p).rxUsed - n }
  | none => s

/-- A message joins the input queue of its bucket's engine (R311). -/
def pushInput (w : Waiting) (s : State) : State :=
  let e := placed s w.bucket
  let x := s.engine e
  if 192 ≤ x.input.length then
    freeRx w.msg { s with eng := { s.eng with inputDrops := satInc sat32 s.eng.inputDrops } }
  else s.setEngine e { x with input := x.input ++ [w] }

/-- Output credit and a descriptor return (R311, R405). -/
def returnCredit (port credit : Nat) (desc : Option Nat) (s : State) : State :=
  let x := s.ethP port
  s.setEthP port { x with
    creditUsed := x.creditUsed - credit
    descUsed := match desc with | some q => tset 0 x.descUsed q (tget 0 x.descUsed q - 1) | none => x.descUsed }

/-- A thread becomes free (R316); events of waits that timed out may still come (R314). -/
def idleThread (now : Nat) (late : List Nat) : Thread := { internalSince := now, late := late }

/-- A task ends by completion (R309, R311): its credit and receive buffer return. -/
def endTask (n : Nat) (s : State) : State :=
  match (s.thread n).task with
  | none => s
  | some k =>
    let t := freeRx k.msg (returnCredit k.port k.credit k.desc s)
    let u := t.setThread n (idleThread t.now (t.thread n).late)
    let e := u.engine (n / 8)
    perfAdd (0x0100 + n / 8) 1 (perfAdd (0x0200 + n / 8) (s.now - k.counted)
      (u.setEngine (n / 8) { e with
        completed := satInc sat32 e.completed, longest := max e.longest (min sat32 (s.now - k.admitted)) }))

/-- Change the task of a thread. -/
def setTask (n : Nat) (k : Task) (s : State) : State := s.setThread n { s.thread n with task := some k }

/-- A message has been handled; its task waits for its evidence record where a frame of it wants one (R295). -/
def finishTask (n : Nat) (s : State) : State :=
  match (s.thread n).task with
  | none => s
  | some k =>
    let wants := s.eth.any (fun e => e.2.queues.any (fun q => q.2.any (fun f => f.tag == k.tag && f.wants.isSome)))
    if wants then setTask n { k with done := true } s else endTask n s

/-- Queue a frame for its port (R392) from the task of thread `n`: it takes its units of the task's credit, and the
difference returns (R311). -/
def queueFrame (n : Nat) (f : TxFrame) (s : State) : State :=
  match (s.thread n).task with
  | none => s
  | some k =>
    let units := divUp f.bytes 64
    let g := { f with tag := k.tag, credit := units }
    let x := s.ethP f.port
    let have_ := k.port = f.port ∧ units ≤ k.credit
    let used := if have_ then x.creditUsed - (k.credit - units) else x.creditUsed + units
    let desc := match k.desc with
      | some q => if k.port = f.port ∧ q = f.queue then x.descUsed else tset 0 x.descUsed f.queue (tget 0 x.descUsed f.queue + 1)
      | none => tset 0 x.descUsed f.queue (tget 0 x.descUsed f.queue + 1)
    let t := s.setEthP f.port { x with
      creditUsed := used, descUsed := desc, queues := tset [] x.queues f.queue (tget [] x.queues f.queue ++ [g]) }
    setTask n { k with
      credit := if have_ then 0 else k.credit
      desc := match k.desc with | some q => if k.port = f.port ∧ q = f.queue then none else some q | none => none } t

end Sys2Proof.Machine
end

