-- ==== Sys2Proof/Machine/Wire.lean ====
section
/-! DEFINITION. The bytes of a transmitted frame, from its destination address to its FCS (R276 to R278, R284, R286, R288,
R290, R291, R293). Where the spec names a standard and not its layout the layout is the standard's (log entry 51): IEEE
1588-2019, RFC 5905, RFC 8915, RFC 768, RFC 791, RFC 8200, RFC 826, RFC 4861, IEEE 802.3. -/

namespace Sys2Proof.Machine
open Sys2Proof

/-- messageType of a PTP message. -/
def ptpType : TxMsg → Nat
  | .delayReq _ => 1
  | .followUp _ => 8
  | .delayResp _ => 9
  | .announce _ => 11
  | .signaling _ => 12
  | _ => 0

/-- controlField of a PTP message. -/
def ptpControl : TxMsg → Nat
  | .sync _ _ => 0
  | .delayReq _ => 1
  | .followUp _ => 2
  | .delayResp _ => 3
  | _ => 5

/-- sequenceId of a PTP message. -/
def ptpSeq (f : TxFrame) : Nat :=
  match f.msg with
  | .sync n _ => n
  | .followUp n => n
  | .announce n => n
  | .delayResp n => n
  | .delayReq n => n
  | .signaling _ => f.head.sigSeq
  | _ => 0

/-- A field time as a PTP timestamp of ten bytes (R39). -/
def ptpStamp (t : FieldTime) : List Byte := be 6 (ptpTime t).1 ++ be 4 (ptpTime t).2.1

/-- The module's clockIdentity (R278). -/
def ownClock : List Byte := fit 8 Config.clockIdentity

/-- messageType of the message a grant is for. -/
def grantType : GrantKind → Nat
  | .announce => 11
  | .sync => 0
  | .delayResp => 9

/-- A unicast negotiation TLV. -/
def sigBytes : SigTlv → List Byte
  | .request k log dur => be 2 4 ++ be 2 6 ++ be 1 (16 * grantType k) ++ beI 1 log ++ be 4 dur
  | .grant k log dur => be 2 5 ++ be 2 8 ++ be 1 (16 * grantType k) ++ beI 1 log ++ be 4 dur ++ zeros 1 ++ be 1 (flag 0 (dur ≠ 0))
  | .cancel k => be 2 6 ++ be 2 2 ++ be 1 (16 * grantType k) ++ zeros 1
  | .ackCancel k => be 2 7 ++ be 2 2 ++ be 1 (16 * grantType k) ++ zeros 1

/-- The body of a PTP message (R39, R278). -/
def ptpBytes (f : TxFrame) : List Byte :=
  let x := f.fields
  match f.msg with
  | .sync _ oneStep => if oneStep then ptpStamp x.time else zeros 10
  | .delayReq _ => zeros 10
  | .followUp _ => ptpStamp x.time
  | .delayResp _ => ptpStamp x.time ++ be 10 f.head.target
  | .announce _ =>
    zeros 10 ++ beI 2 x.utcOffset ++ zeros 1 ++ be 1 f.head.priority1 ++ be 1 x.clockClass ++ be 1 x.accuracy ++ be 2 x.variance ++
    be 1 f.head.priority2 ++ ownClock ++ zeros 2 ++ be 1 x.timeSource
  | .signaling tlv => be 10 f.head.target ++ sigBytes tlv
  | _ => []

/-- The flagField of a PTP message: twoStepFlag and unicastFlag; the flags of an Announce (R39, R278). -/
def ptpFlags (f : TxFrame) : List Byte :=
  let two := match f.msg with | .sync _ one => !one | _ => false
  let ann := match f.msg with | .announce _ => true | _ => false
  be 1 (flag 1 two + flag 2 f.head.unicast) ++ be 1 (if ann then f.fields.flags else 0)

/-- The bound TLV (R286). -/
def boundTlvBytes (x : TxFields) : List Byte :=
  be 2 0x8000 ++ be 2 18 ++ fit 3 Config.orgId ++ be 3 1 ++ be 1 1 ++ be 1 x.tlvFlags ++ be 4 x.bound ++ be 6 x.evidence

/-- The AUTHENTICATION TLV before its ICV (R284). -/
def authHead (f : TxFrame) : List Byte := be 2 0x8009 ++ be 2 22 ++ be 1 f.head.spp ++ be 1 0 ++ be 4 f.fields.keyId

/-- A PTP message from its first header byte to the byte before its ICV (R277, R278, R284, R286). -/
def ptpCovered (f : TxFrame) : List Byte :=
  let body := ptpBytes f ++ (if f.fields.hasBound then boundTlvBytes f.fields else [])
  let auth := if f.alg = 0 then [] else authHead f
  let len := 34 + body.length + (if f.alg = 0 then 0 else 26)
  be 1 (ptpType f.msg) ++ be 1 0x12 ++ be 2 len ++ be 1 f.head.number ++ zeros 1 ++ ptpFlags f ++ beI 8 f.fields.correction ++ zeros 4 ++
  ownClock ++ be 2 (f.port + 1) ++ be 2 (ptpSeq f) ++ be 1 (ptpControl f.msg) ++ beI 1 f.head.log ++ body ++ auth

/-- A PTP message. -/
def ptpMessage (f : TxFrame) : List Byte := ptpCovered f ++ (if f.alg = 0 then [] else fit 16 f.fields.icv)

/-- The 48 bytes of an NTP response to a request (R290, R291). -/
def ntpHeader (m : NtpMsg) (x : TxFields) : List Byte :=
  be 1 (64 * x.leap + 8 * m.version + 4) ++ be 1 x.stratum ++ be 1 x.poll ++ beI 1 (-34) ++ be 4 x.rootDelay ++ be 4 x.rootDisp ++
  be 4 x.refId ++ be 8 x.ref64 ++ be 8 m.txTimestamp ++ be 8 x.rx64 ++ be 8 x.ntp64

/-- A Unique Identifier field (R293), padded to four bytes. -/
def uidField (uid : List Byte) : List Byte :=
  let n := divUp uid.length 4 * 4
  be 2 0x0104 ++ be 2 (4 + n) ++ fit n uid

/-- The cookie fields that an NTS response encrypts (R293). -/
def cookieFields (l : List (List Byte)) : List Byte := l.flatMap (fun c => be 2 0x0204 ++ be 2 (4 + c.length) ++ c)

/-- An Authenticator and Encrypted Extension Fields field: a nonce of 16 bytes, synthetic IV and ciphertext (R293). -/
def ntsAuthField (x : List Byte) : List Byte := be 2 0x0404 ++ be 2 (8 + x.length) ++ be 2 16 ++ be 2 (x.length - 16) ++ x

/-- An NTP or NTS message up to its Authenticator (R291, R293). -/
def ntpCovered (f : TxFrame) : List Byte :=
  match f.msg with
  | .ntp m _ => ntpHeader m f.fields
  | .nts m _ => ntpHeader m f.fields ++ uidField (m.uniqueIds.headD [])
  | .ntsNak m uid => ntpHeader m f.fields ++ uidField uid
  | _ => []

/-- An NTP or NTS message. -/
def ntpMessage (f : TxFrame) : List Byte :=
  ntpCovered f ++ (match f.msg with | .nts _ _ => ntsAuthField f.fields.icv | _ => [])

/-- A message carries an NTP header. -/
def overNtp : TxMsg → Bool
  | .ntp _ _ => true
  | .nts _ _ => true
  | .ntsNak _ _ => true
  | _ => false

/-- The 16-bit words of some bytes, added up. -/
def sum16 : List Byte → Nat
  | a :: b :: t => a.toNat * 256 + b.toNat + sum16 t
  | [a] => a.toNat * 256
  | [] => 0

/-- The Internet checksum. -/
def inetSum (l : List Byte) : Nat :=
  let a := sum16 l
  let b := a % 65536 + a / 65536
  65535 - (b % 65536 + b / 65536)

/-- An address of an IP version in wire order. -/
def ipBytes (v6 : Bool) (a : Nat) : List Byte := if v6 then be 16 a else be 4 a

/-- A checksum over an IP payload with its pseudo-header. -/
def pseudoSum (v6 : Bool) (src dst proto : Nat) (l : List Byte) : Nat :=
  inetSum (ipBytes v6 src ++ ipBytes v6 dst ++ (if v6 then be 4 l.length ++ be 4 proto else be 2 proto ++ be 2 l.length) ++ l)

/-- A UDP datagram (R288): the checksum where it is carried. -/
def udpBytes (f : TxFrame) (v6 : Bool) (sport dport : Nat) (l : List Byte) : List Byte :=
  let h := be 2 sport ++ be 2 dport ++ be 2 (8 + l.length)
  let c := pseudoSum v6 f.head.srcIp f.head.dstIp 17 (h ++ zeros 2 ++ l)
  h ++ be 2 (if !f.head.checksum then 0 else if c = 0 then 65535 else c) ++ l

/-- An IP packet of a protocol and hop limit. -/
def ipPacket (f : TxFrame) (v6 : Bool) (proto hops : Nat) (l : List Byte) : List Byte :=
  if v6 then
    be 4 (6 * 2 ^ 28 + Config.ipTos % 256 * 2 ^ 20) ++ be 2 l.length ++ be 1 proto ++ be 1 hops ++ be 16 f.head.srcIp ++ be 16 f.head.dstIp ++ l
  else
    let a := be 1 0x45 ++ be 1 Config.ipTos ++ be 2 (20 + l.length) ++ be 2 Config.ipIdent ++ be 2 0x4000 ++ be 1 hops ++ be 1 proto
    let b := be 4 f.head.srcIp ++ be 4 f.head.dstIp
    a ++ be 2 (inetSum (a ++ zeros 2 ++ b)) ++ b ++ l

/-- An ARP reply (R276): the port's MAC address for an IPv4 address, to its requester. -/
def arpBytes (f : TxFrame) (target : Nat) : List Byte :=
  be 2 1 ++ be 2 0x0800 ++ be 1 6 ++ be 1 4 ++ be 2 2 ++ be 6 f.head.srcMac ++ be 4 target ++ be 6 f.dstMac ++ be 4 f.head.dstIp

/-- A Neighbor Advertisement (R276): Solicited and Override, with the target link-layer address. -/
def advertisement (f : TxFrame) (target : Nat) : List Byte :=
  let a := be 1 136 ++ be 1 0
  let b := be 4 0x60000000 ++ be 16 target ++ be 1 2 ++ be 1 1 ++ be 6 f.head.srcMac
  a ++ be 2 (pseudoSum true f.head.srcIp f.head.dstIp 58 (a ++ zeros 2 ++ b)) ++ b

/-- A PTP event message is sent on port 319, a general one on port 320. -/
def ptpPort : TxMsg → Nat
  | .sync _ _ => 319
  | .delayReq _ => 319
  | _ => 320

/-- EtherType and payload of a frame. -/
def framePayload (f : TxFrame) : Nat × List Byte :=
  let v6 := decide (f.transport = 2)
  let ip (l : List Byte) : Nat × List Byte := (if v6 then 0x86DD else 0x0800, ipPacket f v6 17 Config.ipTtl l)
  match f.msg with
  | .arpReply t => (0x0806, arpBytes f t)
  | .neighborAdvertisement t => (0x86DD, ipPacket f true 58 255 (advertisement f t))
  | m =>
    if overNtp m then ip (udpBytes f v6 123 f.head.dport (ntpMessage f))
    else if f.transport = 0 then (0x88F7, ptpMessage f)
    else ip (udpBytes f v6 (ptpPort m) (ptpPort m) (ptpMessage f))

/-- A frame from its destination address to its FCS (R288, R391); a short one is padded to 64 bytes. -/
def frameBytes (f : TxFrame) : List Byte :=
  let p := framePayload f
  let l := be 6 f.dstMac ++ be 6 f.head.srcMac ++ f.head.tags.flatMap (fun t => be 2 t.1 ++ be 2 t.2) ++ be 2 p.1 ++ p.2
  let m := l ++ zeros (60 - l.length)
  m ++ le 4 (crc32 m)

/-- The bytes of a stomped frame: the last four, its FCS, inverted (R289). -/
def invertFcs (l : List Byte) : List Byte := l.take (l.length - 4) ++ (l.drop (l.length - 4)).map (fun b => ~~~b)

end Sys2Proof.Machine
end

