-- ==== Sys2Proof/Machine/Tx.lean ====
section
/-! DEFINITION. Transmission on the Ethernet ports: terms and validity of timestamps, transmit queues, launch commit,
start of frame, stomped and withdrawn frames (R287 to R289, R392, R394 to R396, R405, R418). -/

namespace Sys2Proof.Machine
open Sys2Proof

/-- How many Ethernet ports the module has (R388). -/
def numEth : Nat := 16

/-- Picoseconds of one byte on the wire at a RATE (R388). -/
def wirePs (rate : Nat) : Nat := match rate with | 0 => 800 | 1 => 320 | 2 => 160 | _ => 80

/-- FEC is in use (R388, R400). -/
def fecOn (c : EthCfg) : Bool := match c.rate with | 0 => false | 1 => bit c.flags 2 | _ => true

/-- The asymmetry row of the configured rate and FEC (R397). -/
def rowOf (c : EthCfg) : Nat := 2 * c.rate + (if fecOn c then 1 else 0)

/-- The egress correction (R288, R394). -/
def egressCorr (s : State) (p : Nat) : Interval :=
  let x := s.ethP p
  x.alignTx + Config.fecLatency (rowOf x.cfg) 0 + Config.factoryDelay (1024 + p) (2 * rowOf x.cfg) + x.rowUsed.boardTx

/-- The ingress components other than position (R394, R401). -/
def ingressCorr (s : State) (p : Nat) : Interval :=
  let x := s.ethP p
  let y := x.alignRx + Config.fecLatency (rowOf x.cfg) 1 + Config.factoryDelay (1024 + p) (2 * rowOf x.cfg + 1) + x.rowUsed.boardRx
  0 - y

/-- The port's Ethernet term (R396): 302 ps, 6 × 5 ps and 30 ps while STALE, with ASYM_UNC. -/
def ethTerm (s : State) (p : Nat) : Bound :=
  let ps := if tableStale s (s.interp (1024 + p)) then 362 else 332
  addB (divUp (ps * 64) 1000) (s.ethP p).rowUsed.unc

/-- A good clock sample was taken within the last four epoch markers (R395). -/
def sampleFresh (s : State) (a : Option Nat) : Bool := match a with | none => false | some t => decide (s.now < t + 4000)

/-- A timestamp of the port is valid (R395). -/
def tsGood (s : State) (p : Nat) (tx : Bool) : Bool :=
  let x := s.ethP p
  let g := s.interp (1024 + p)
  decide (x.state = 3) && g.table.isSome && g.selfPassed && !g.selfFail &&
  sampleFresh s (if tx then x.txSampleAt else x.rxSampleAt)

/-- The served bound of a timestamp of the port (R19, R25, R395). -/
def servedBound (s : State) (p : Nat) (tx : Bool) : Bound :=
  if tsGood s p tx && !(s.replica 0).frame.testUnlock then addB (dieBound s 0) (ethTerm s p) else unbounded

/-- Rounding of a timestamp to 15.625 ps, a half up (R394). -/
def roundStamp (t : FieldTime) : FieldTime := (t + 2 ^ 25) / 2 ^ 26 * 2 ^ 26

/-- The S-tile replica's field time at `ps` picoseconds of `now`·1000. -/
def replicaAtPs (s : State) (ps : Nat) : FieldTime := replicaAt s 0 ps

/-- The egress timestamp of a frame that starts at `ps` picoseconds of `now`·1000 (R288, R394). -/
def egressStamp (s : State) (p ps : Nat) : FieldTime :=
  roundStamp ((replicaAtPs s ps : Int) + egressCorr s p * 2 ^ 16).toNat

/-- The entry of a key (R279). -/
def findEntry (s : State) (k : GKey) : Option Nat :=
  (s.svc.granary.find? (fun e => e.2.valid && decide (e.2.key = k))).map (·.1)

/-- An EXPIRY is reached at `sec` (R280). -/
def reached (sec expiry : Nat) : Bool := decide ((sec + 2 ^ 32 - expiry % 2 ^ 32) % 2 ^ 32 < 2 ^ 31)

/-- The number of a grant kind, its bit in GRANTS (R280). -/
def kindBit : GrantKind → Nat
  | .announce => 0
  | .sync => 1
  | .delayResp => 2

/-- A queue is paused (R392). -/
def paused (s : State) (x : Eth) (q : Nat) : Bool := decide (s.now < tget 0 x.pausedUntil q)

/-- The highest-numbered unpaused queue whose frames meet `f` (R392). -/
def topQueue (s : State) (x : Eth) (f : List TxFrame → Bool) : Option Nat :=
  [7, 6, 5, 4, 3, 2, 1, 0].find? (fun q => !paused s x q && f (tget [] x.queues q))

/-- A frame that carries no own instant and waits for no evidence record. -/
def plain (f : TxFrame) : Bool := !f.own && f.wants.isNone

/-- A Granary entry. -/
def State.entry (s : State) (i : Nat) : Entry := tget {} s.svc.granary i
/-- Replace a Granary entry. -/
def State.setEntry (s : State) (i : Nat) (x : Entry) : State :=
  { s with svc := { s.svc with granary := tset {} s.svc.granary i x } }

/-- The grant under which a frame is sent holds at second `sec` (R282); a frame sent under none is bound by none. -/
def grantHolds (s : State) (f : TxFrame) (sec : Nat) : Bool :=
  match f.grant with
  | some (key, k) => (findEntry s key).any (fun i => bit (s.entry i).grants (kindBit k) && !reached sec (s.entry i).expiry)
  | none => true

/-- The credit of the last frame returns with its last byte (R405). -/
def settleWire (p : Nat) (s : State) : State :=
  let x := s.ethP p
  match x.inFlight with
  | some f => if f.ends ≤ s.now * 1000 then returnCredit p f.credit none (s.setEthP p { x with inFlight := none }) else s
  | none => s

/-- Picoseconds to the next epoch marker of the S-tile replica. -/
def toMarker (s : State) : Nat := (us1 - replicaTime s 0 % us1) * 1000 / 2 ^ 32

/-- The frame of the last marker is in force (R287); under loss no frame is awaited. -/
def frameInForce (s : State) : Bool :=
  let r := s.replica 0
  r.inLoss || decide (replicaTime s 0 < r.frame.marker + us1)

/-- A cycle of the line clock, 16 bytes on the wire: 1.28 ns at 100GbE (DEDUCED, R288's worked example), in ps. -/
def lineCycle (rate : Nat) : Nat := 16 * wirePs rate

/-- The predicted start of frame t_p (R287, R288): the gap and the preamble of 20 bytes after the fixed end of the frame before,
and whole line-clock cycles more until it lies 160 ns after the commit. -/
def predictedStart (s : State) (x : Eth) : Nat :=
  let e := x.wireFree + 20 * wirePs x.cfg.rate
  let m := s.now * 1000 + 160000
  if m ≤ e then e else e + divUp (m - e) (lineCycle x.cfg.rate) * lineCycle x.cfg.rate

/-- The frame that could be launch-committed now, its queue and its predicted start t_p (R287, R288); an ICV waits for the epoch
keys (R338). -/
def commitCandidate (s : State) (p : Nat) : Option (Nat × TxFrame × Nat) :=
  let x := s.ethP p
  match topQueue s x (fun l => l ≠ []) with
  | none => none
  | some q =>
    match tget [] x.queues q with
    | f :: _ =>
      let tp := predictedStart s x
      if x.cfgNext.isNone && f.own && f.wants.isNone && (decide (f.alg = 0) || !keysAwaited s) && decide (x.state = 3) && decide (tp < s.now * 1000 + toMarker s) && frameInForce s
      then some (q, f, tp) else none
    | [] => none

/-- A change of the client table or of a report that raises G (R283, R289). -/
def touch (s : State) : State := { s with svc := { s.svc with touched := s.svc.touched + 1 } }
/-- Write an entry under the state generation that the write makes (R283). -/
def writeEntry (i : Nat) (x : Entry) (s : State) : State := touch (s.setEntry i { x with gen := s.kcp.g + 1 })

/-- A port's service. -/
def State.prof (s : State) (p : Nat) : Prof := tget {} s.svc.prof p
/-- Replace a port's service. -/
def State.setProf (s : State) (p : Nat) (x : Prof) : State := { s with svc := { s.svc with prof := tset {} s.svc.prof p x } }
/-- Outbound domain `d`. -/
def State.dom (s : State) (d : Nat) : Dom := tget {} s.svc.dom d
/-- Replace an outbound domain. -/
def State.setDom (s : State) (d : Nat) (x : Dom) : State := { s with svc := { s.svc with dom := tset {} s.svc.dom d x } }
/-- Upstream domain `u`: 0 A, 1 B. -/
def State.upD (s : State) (u : Nat) : Up := tget {} s.svc.up u
/-- Replace an upstream domain. -/
def State.setUpD (s : State) (u : Nat) (x : Up) : State := { s with svc := { s.svc with up := tset {} s.svc.up u x } }

/-- What follows for a frame that is withdrawn or stomped (R289). -/
def stompFrame (s : State) (f : TxFrame) : State :=
  let a := match f.record with | some p => voidRecord p s | none => s
  let b := a.setProf f.port { a.prof f.port with stomped := satInc sat32 (a.prof f.port).stomped }
  let c := if f.svcDomain < 8 then
      b.setDom f.svcDomain { b.dom f.svcDomain with stomped := satInc sat32 (b.dom f.svcDomain).stomped } else b
  match f.entry.bind (findEntry c) with
  | some i => writeEntry i { c.entry i with stomped := true } c
  | none => c

/-- Withdraw a frame that has not started (R289): its credit and descriptor return. -/
def withdraw (s : State) (f : TxFrame) : State := returnCredit f.port f.credit (some f.queue) (stompFrame s f)

/-- A frame that is not committed is not sent (R282, R315, R349): its credit and descriptor return, its record is void. -/
def dropFrame (s : State) (f : TxFrame) : State :=
  returnCredit f.port f.credit (some f.queue) (match f.record with | some p => voidRecord p s | none => s)

/-- A message that fails authentication, or one whose key is not delivered, is counted (R284, R345). -/
def countAuthFail (p d : Nat) (s : State) : State :=
  let t := s.setProf p { s.prof p with authFail := satInc sat32 (s.prof p).authFail }
  if d < 8 then t.setDom d { t.dom d with authFail := satInc sat32 (t.dom d).authFail }
  else t.setUpD (d - 9) { t.upD (d - 9) with authFail := satInc sat32 (t.upD (d - 9)).authFail }

/-- Every frame queued or committed and not started is withdrawn (R289, R389, R509). -/
def withdrawAll (p : Nat) (s : State) : State :=
  let x := s.ethP p
  let l := x.committedQ ++ x.queues.flatMap (·.2)
  l.foldl withdraw (s.setEthP p { x with
    committedQ := [], queues := [], wireFree := match x.inFlight with | some f => f.ends | none => s.now * 1000 })

/-- The frame in progress is completed with its FCS inverted (R289). -/
def stompInFlight (p : Nat) (s : State) : State :=
  let x := s.ethP p
  match x.inFlight with
  | some f =>
    if s.now * 1000 < f.ends ∧ f.committed.isSome ∧ !f.stomped then
      stompFrame (s.setEthP p { x with inFlight := some { f with stomped := true, wire := invertFcs f.wire } }) f
    else s
  | none => s

/-- Bits of FLAGS in a bound TLV (R286). -/
def tlvFlagsAt (s : State) (t : FieldTime) (recorded : Bool) : Nat :=
  let f := (s.replica 0).frame
  flag 0 f.uncertain + flag 1 (match f.step with | some a => decide (t < a.effective) | none => false) +
  flag 2 (decide (f.mState = mStateCode .holdover)) + flag 3 recorded

/-- EVIDENCE of a record (R286). -/
def evidenceField (r : Option (Nat × Nat)) : Nat := match r with | some p => p.1 % 2 ^ 35 * 4096 + p.2 | none => 0

/-- The 18-byte client identity (R285): ADDRESS, domainNumber, TRANSPORT. -/
def clientId (k : GKey) (transport : Nat) : List Byte := be 16 k.address ++ be 1 k.domain ++ be 1 transport

/-- An ICV over a frame's bytes (R284). -/
def icvOf (alg : Nat) (key bytes : List Byte) : List Byte :=
  fit 16 (if alg = 2 then hmacSha256 key bytes else cmac key bytes)

/-- A verified or a signed message is one message handled (R536). -/
def countHandled (s : State) : State := { s with pwr := { s.pwr with handledRun := s.pwr.handledRun + 1 } }

/-- A frame with its ICV under a key epoch and a per-client key (R284). -/
def withIcv (f : TxFrame) (epoch : Nat) (key : List Byte) : TxFrame :=
  let g := { f with fields := { f.fields with keyId := epoch } }
  { g with fields := { g.fields with icv := icvOf f.alg key (ptpCovered g) } }

/-- Put the ICV on a frame that has a TLV (R284, R285), under the key epoch now; none when no key is delivered, a refusal by the
tenant's mask counted (R340). A message no task sends has the epoch keys put in place first (R338). `f.key` holds the address and
the domainNumber of the client identity. -/
def signFrame (f : TxFrame) (s0 : State) : Option TxFrame × State :=
  if f.alg = 0 then (some f, s0)
  else
    let s := if keysAwaited s0 then epochRoll s0 else s0
    match clientKey s f.tenant (epochNow s) (clientId f.key f.transport) f.alg with
    | none => (none, if clientDenied s f.tenant then countDenied s else s)
    | some k => (some (withIcv f (epochNow s) k), countHandled s)

/-- An NTS Authenticator under S2C over the header and the Unique Identifier, with the cookie fields encrypted (R293). -/
def sealNts (f : TxFrame) (s : State) : TxFrame × State :=
  if f.s2c = [] then (f, s)
  else
    let n := drawRandom 16 s
    let c := sivSeal f.s2c [ntpCovered f, n.1] (cookieFields f.fields.cookies)
    ({ f with fields := { f.fields with icv := n.1 ++ c.1 ++ c.2 } }, countHandled n.2)

/-- The bound with which a port serves now: the M-tile bound and the Ethernet term, none under test unlock (R25, R278). -/
def portBound (s : State) (p : Nat) : Bound :=
  if (s.replica 0).frame.testUnlock then unbounded else addB (dieBound s 0) (ethTerm s p)

/-- The dataset that served messages carry (R39, R41 to R44, R278). -/
def serveFields (s : State) (b : Bound) : TxFields :=
  let f := (s.replica 0).frame
  let c := servedClass s 0 b
  let tr := decide (c = 6) || decide (c = 7)
  let sl := stratumLi s 0 c
  { bound := b, clockClass := c, accuracy := clockAccuracy b, variance := if b = unbounded then 0xFFFF else 0x4E5D
    timeSource := timeSource f.selSlot, utcOffset := f.utcOffset
    flags := flag 0 f.leap61 + flag 1 f.leap59 + flag 2 f.utcValid + flag 3 true + flag 4 (tr && !f.uncertain) + flag 5 tr +
      flag 6 f.uncertain
    leap := sl.2, stratum := sl.1, rootDisp := rootDispersion b }

/-- ASCII of a reference ID (R291). -/
def refIdOf (t : String) : Nat := rdBe (ascii 4 t) 0 4

/-- The reference ID of a slot and its kind (R291). -/
def slotRefId (slot kind : Nat) : Nat :=
  if slot = 0xFF then refIdOf "INIT"
  else if slot < 8 then (if kind = 1 then refIdOf "FREQ" else refIdOf "PPS")
  else if slot = 8 then refIdOf "GPS" else if slot ≤ 10 then refIdOf "PTP" else if slot ≤ 18 then refIdOf "FURW" else refIdOf "TNDM"

/-- The reference ID and the reference timestamp of an NTP response of its stratum (R40, R291). -/
def ntpReference (s : State) (f : TxFields) : TxFields :=
  let r := s.replica 0
  let at_ := if r.frame.mState = mStateCode .holdover then r.holdAt else r.lastComp
  if f.stratum = 16 then { f with refId := refIdOf "INIT", refTime := none, ref64 := 0 }
  else { f with
    refId := if r.frame.selSlot ≠ 0xFF then slotRefId r.frame.selSlot r.frame.selKind else slotRefId r.lastSel r.lastKind
    refTime := some at_, ref64 := ntpWord s at_ }

/-- A message that carries an NTP timestamp (R290, R293). -/
def isNtp : TxMsg → Bool
  | .ntp _ _ => true
  | .nts _ _ => true
  | _ => false

/-- The fields a committed frame carries (R288): the replica time at t_p with the egress correction, its bound and the
dataset of that bound (R41, R42), its evidence record. -/
def commitFields (s : State) (p : Nat) (f : TxFrame) (tp : Nat) : TxFrame :=
  let t := egressStamp s p tp
  let b := servedBound s p true
  let d := serveFields s b
  let g := { f.fields with
    time := t, correction := ((ptpTime t).2.2 : Nat), bound := b, ntp64 := ntpWord s t
    clockClass := d.clockClass, accuracy := d.accuracy, variance := d.variance, timeSource := d.timeSource
    utcOffset := d.utcOffset, flags := d.flags, leap := d.leap, stratum := d.stratum, rootDisp := d.rootDisp
    tlvFlags := tlvFlagsAt s t f.record.isSome, evidence := evidenceField f.record }
  { f with
    committed := some tp
    fields := if isNtp f.msg then ntpReference s { g with rx64 := ntpWord s g.rxTime } else g }

/-- A one-step Sync. -/
def isOneStep : TxMsg → Bool
  | .sync _ b => b
  | _ => false

/-- sequenceId of a Sync. -/
def syncSeqOf : TxMsg → Option Nat
  | .sync n _ => some n
  | _ => none

/-- The last-transmit report of a committed Sync's entry (R305). -/
def reportCommit (f : TxFrame) (s : State) : State :=
  match f.entry.bind (findEntry s), syncSeqOf f.msg with
  | some i, some n => s.setEntry i { s.entry i with lastTxSeq := n, committed := true, stomped := false, gen := s.kcp.g }
  | _, _ => s

/-- The record of a one-step Sync takes the committed instant, its bound, class and flags (R288, R295, R359). -/
def recordCommit (f : TxFrame) (s : State) : State :=
  match f.record, f.recorded with
  | some p, some d =>
    if isOneStep f.msg then
      completeRecord p { d with
        time := some f.fields.time, bound := f.fields.bound, clockClass := f.fields.clockClass
        flags := evFlags s 0 f.fields.time (bit d.flags 3) } s
    else s
  | _, _ => s

/-- An NTS response is not sent while the random source has failed, and is counted (R349). -/
def ntsStopped (s : State) (f : TxFrame) : Bool := s.key.rngFault && decide (f.s2c ≠ [])

/-- The count of NTS responses not sent (R349). -/
def countNotSent (s : State) : State := { s with key := { s.key with ntsNotSent := satInc sat32 s.key.ntsNotSent } }

/-- LAUNCH_COMMIT (R287, R288): the frame is complete from here on. A time that R39 does not serve is not sent, nor a message
whose grant has ended at t_p (R282), nor an NTS response without a random source (R349). -/
def launchCommit (p : Nat) (s : State) : State :=
  let s0 := settleWire p s
  match commitCandidate s0 p with
  | none => s0
  | some (q, f, tp) =>
    let x := s0.ethP p
    let a := s0.setEthP p { x with queues := tset [] x.queues q ((tget [] x.queues q).drop 1) }
    let g := commitFields a p f tp
    if ntsStopped a f then countNotSent (dropFrame a f)
    else if !servable g.fields.time || !grantHolds a f (ftSec (replicaAtPs a tp)) then dropFrame a f
    else match signFrame g a with
    | (none, b) => countAuthFail f.port f.svcDomain (dropFrame b f)
    | (some h0, b) =>
      let r := sealNts h0 b
      let h := { r.1 with wire := frameBytes r.1 }
      let c := reportCommit h (recordCommit h r.2)
      let y := c.ethP p
      c.setEthP p { y with committedQ := y.committedQ ++ [h], wireFree := tp + h.bytes * wirePs y.cfg.rate }

/-- Counts of a message that starts (R301, R302). -/
def countStart (f : TxFrame) (s : State) : State :=
  let d := s.dom f.svcDomain
  let p := s.prof f.port
  match f.msg with
  | .sync _ _ => if f.svcDomain < 8 then s.setDom f.svcDomain { d with syncSent := satInc sat32 d.syncSent } else s
  | .delayResp _ => s.setDom f.svcDomain { d with delayRespSent := satInc sat32 d.delayRespSent }
  | .ntp _ kiss =>
    if kiss then s.setProf f.port { p with kodSent := satInc sat32 p.kodSent }
    else s.setProf f.port { p with ntpServed := satInc sat32 p.ntpServed }
  | .nts _ _ => s.setProf f.port { p with ntsServed := satInc sat32 p.ntsServed }
  | .ntsNak _ _ => s.setProf f.port { p with ntsNak := satInc sat32 p.ntsNak }
  | _ => s

/-- An event message, whose egress instant is captured (R287). -/
def isEvent : TxMsg → Bool
  | .sync _ _ => true
  | .delayReq _ => true
  | .ntp _ k => !k
  | .nts _ _ => true
  | _ => false

/-- What a captured egress instant is used for (R297, R309): the Follow_Up of a two-step Sync, t3 of a Delay_Req. -/
def afterStart (f : TxFrame) (s : State) : State :=
  match f.msg with
  | .sync _ false =>
    let b := match f.entry with
      | some k => bucketOf s (flowEntry k)
      | none => bucketOf s (flowMulticast f.svcDomain f.port)
    pushInput ⟨.sched (.followUp f), b⟩ s
  | .delayReq n =>
    let u := f.svcDomain - 9
    s.setUpD u { s.upD u with delayReqOut := some (n, f.fields.time) }
  | _ => s

/-- A frame starts on the wire at `ps` (R288, R392, R405): its descriptor returns, its record is of a started message. -/
def startFrame (p : Nat) (f : TxFrame) (ps : Nat) (s : State) : State :=
  let x := s.ethP p
  let stop := ps + f.bytes * wirePs x.cfg.rate
  let good := tsGood s p true
  let g : TxFrame := if f.committed.isSome then { f with ends := stop }
    else { f with ends := stop, wire := frameBytes f, fields := { f.fields with
      time := if isEvent f.msg then egressStamp s p ps else f.fields.time
      bound := if isEvent f.msg then servedBound s p true else f.fields.bound } }
  let a := s.setEthP p { x with
    inFlight := some g, wireFree := max x.wireFree stop, descUsed := tset 0 x.descUsed f.queue (tget 0 x.descUsed f.queue - 1) }
  let b := match f.record with | some r => startRecord r a | none => a
  let c := perfAdd (8 * p + 3) f.bytes (perfAdd (8 * p + 1) 1 (if isEvent f.msg && good then perfAdd (8 * p + 5) 1 b else b))
  afterStart g (countStart g (filterCount { family := 3, dir := 1, tc := f.queue, port := p } 1 c))

/-- START_OF_FRAME (R288, R392): the oldest committed frame at its t_p, or a plain frame of a queue while none is committed
and the wire is free; one whose grant has ended is not sent (R282). -/
def startOfFrame (p q : Nat) (s : State) : State :=
  let s0 := settleWire p s
  let x := s0.ethP p
  match x.committedQ with
  | f :: rest =>
    let tp := f.committed.getD 0
    if f.queue = q ∧ tp ≤ s0.now * 1000 then startFrame p f tp (s0.setEthP p { x with committedQ := rest }) else s0
  | [] =>
    if x.cfgNext.isSome ∨ x.state ≠ 3 ∨ s0.now * 1000 < x.wireFree + 20 * wirePs x.cfg.rate ∨ (commitCandidate s0 p).isSome ∨
        topQueue s0 x (fun l => l.any plain) ≠ some q then s0
    else
      match (tget [] x.queues q).find? plain with
      | none => s0
      | some f =>
        let a := s0.setEthP p { x with queues := tset [] x.queues q ((tget [] x.queues q).erase f) }
        if grantHolds s0 f (ftSec (replicaTime s0 0)) then startFrame p f (s0.now * 1000) a else dropFrame a f

/-- The end of the last fixed frame (R287), in ps: of the committed ones, else of the one in progress. -/
def fixedEnd (x : Eth) (l : List TxFrame) : Nat :=
  match l.getLast? with
  | some f => f.committed.getD 0 + f.bytes * wirePs x.cfg.rate
  | none => match x.inFlight with | some f => f.ends | none => 0

/-- FRAME_STOMP (R289): the committed frame in progress is stomped, or the one that has not started is withdrawn. -/
def frameStomp (w : FrameFault) (s : State) : State :=
  let x := s.ethP w.port
  match w.frame with
  | 0 => stompInFlight w.port s
  | n + 1 => match x.committedQ[n]? with
    | some f =>
      let l := x.committedQ.eraseIdx n
      withdraw (s.setEthP w.port { x with committedQ := l, wireFree := fixedEnd x l }) f
    | none => s

/-- TX_DOWN_DROP (R418): a port that is not UP discards the frame at the head of a queue. -/
def txDownDrop (p q : Nat) (s : State) : State :=
  let x := s.ethP p
  match tget [] x.queues q with
  | f :: rest =>
    if x.state = 3 then s
    else
      let a := s.setEthP p { x with queues := tset [] x.queues q rest, txDownDrops := satInc sat32 x.txDownDrops }
      let b := match f.record with | some r => voidRecord r a | none => a
      perfAdd (8 * p + 7) 1 (returnCredit p f.credit (some q) b)
  | [] => s

/-- Output credit of a port for `units` more, with a descriptor in a queue (R311, R405). -/
def creditFor (s : State) (p units q : Nat) : Bool :=
  decide ((s.ethP p).creditUsed + units ≤ 6144) && decide (tget 0 (s.ethP p).descUsed q < 128)

/-- Queue a frame that no thread's task sends: it needs credit of its own, or it is dropped (R311). -/
def queueFree (f : TxFrame) (s : State) : State :=
  let t := settleWire f.port s
  let units := divUp f.bytes 64
  if creditFor t f.port units f.queue then
    let x := t.ethP f.port
    t.setEthP f.port { x with
      creditUsed := x.creditUsed + units, descUsed := tset 0 x.descUsed f.queue (tget 0 x.descUsed f.queue + 1)
      queues := tset [] x.queues f.queue (tget [] x.queues f.queue ++ [{ f with credit := units }]) }
  else { t with eng := { t.eng with admitDrops := satInc sat32 t.eng.admitDrops } }

/-- LAUNCH_COMMIT (R287). -/
def execLaunchCommit (port : Nat) (s : State) : Out := guardUnit (port < numEth) s (done s (launchCommit port s))
/-- START_OF_FRAME (R288). -/
def execStartOfFrame (port queue : Nat) (s : State) : Out :=
  guardUnit (port < numEth ∧ queue < 8) s (done s (startOfFrame port queue s))
/-- FRAME_STOMP (R289). -/
def execFrameStomp (w : FrameFault) (s : State) : Out := guardUnit (w.port < numEth) s (done s (frameStomp w s))
/-- TX_DOWN_DROP (R418). -/
def execTxDownDrop (port queue : Nat) (s : State) : Out :=
  guardUnit (port < numEth ∧ queue < 8) s (done s (txDownDrop port queue s))

end Sys2Proof.Machine
end

