-- ==== Sys2Proof/Machine/Eth.lean ====
section
/-! DEFINITION. Ethernet ports: link states, low-power idle, pause, tags, asymmetry rows, the loop measurement, the
commands of group 0x08 (R388 to R404). -/

namespace Sys2Proof.Machine
open Sys2Proof

/-- The MAC address of a port in force (R400). -/
def macOf (s : State) (p : Nat) : Nat := (s.ethP p).cfg.mac.getD (Config.macAddress p % 2 ^ 48)

/-- The loop-back of an Ethernet port (R560). -/
def ethLoop (s : State) (p : Nat) : Loop := tget {} s.tst.loops (4096 * 1 + p)

/-- An enabled service domain uses a port (R398, R559). -/
def portServes (s : State) (p : Nat) : Bool :=
  (List.range 8).any (fun d => bit (s.dom d).cfg.flags 0 && bit (s.dom d).cfg.ports p) || bit (s.prof p).cfg.flags 1 ||
  [0, 1].any (fun u => bit (s.upD u).cfg.flags 0 && decide ((s.upD u).cfg.port = p))

/-- The counters of a port clear (R399). -/
def clearEth (x : Eth) : Eth :=
  { x with
    ups := 0, fecCorr := 0, fecUncorr := 0, fcsErr := 0, tagMiss := 0, pauseRx := 0, pfcRx := 0, wdogTrips := 0
    lpiDiscard := 0, anFail := 0, addrDrops := 0 }

/-- The pause of a queue ends (R392). -/
def unpause (p : Nat) (s : State) (q : Nat) : State :=
  let x := s.ethP p
  let y := { x with pausedUntil := tset 0 x.pausedUntil q 0, pausedSince := tset 0 x.pausedSince q 0 }
  if x.pausedUntil ≠ [] ∧ y.pausedUntil = [] then
    perfAdd (8 * p + 6) (s.now - x.pausedAny) (s.setEthP p { y with pausedAny := 0 })
  else s.setEthP p y

/-- Every queue of a port is unpaused. -/
def unpauseAll (p : Nat) (s : State) : State := (List.range 8).foldl (unpause p) s

/-- A queue is paused for some quanta of 512 bit times (R392); zero ends its pause. -/
def pauseQueue (p quanta : Nat) (s : State) (q : Nat) : State :=
  let x := s.ethP p
  if quanta = 0 then unpause p s q
  else
    s.setEthP p { x with
      pausedAny := if x.pausedUntil = [] then s.now else x.pausedAny
      pausedUntil := tset 0 x.pausedUntil q (s.now + divUp (quanta * 64 * wirePs x.cfg.rate) 1000)
      pausedSince := if paused s x q then x.pausedSince else tset 0 x.pausedSince q s.now }

/-- PAUSE_FRAME (R392, R393): obeyed where its enable is set and outside PAUSE_IGNORE, counted always. -/
def pauseFrame (p : Nat) (pfc : Bool) (enables : Nat) (quanta : List Nat) (s : State) : State :=
  let x := s.ethP p
  if x.state ≠ 3 then s
  else if s.now < x.lpiUntil then s.setEthP p { x with lpiDiscard := satInc sat32 x.lpiDiscard }
  else
    let y := if pfc then { x with pfcRx := satInc sat32 x.pfcRx, lastFlow := s.now }
      else { x with pauseRx := satInc sat32 x.pauseRx, lastFlow := s.now }
    let t := s.setEthP p y
    if x.pauseIgnore || !bit x.pause.flags (if pfc then 1 else 0) then t
    else if pfc then
      (List.range 8).foldl (fun u q => if bit enables q then pauseQueue p (quanta.getD q 0 % 65536) u q else u) t
    else (List.range 8).foldl (pauseQueue p (quanta.getD 0 0 % 65536)) t

/-- PAUSE_EXPIRY (R392). -/
def pauseExpiry (p q : Nat) (s : State) : State :=
  let u := tget 0 (s.ethP p).pausedUntil q
  if u ≠ 0 ∧ u ≤ s.now then unpause p s q else s

/-- PAUSE_WDOG (R393): a queue has been paused for PAUSE_WDOG. -/
def pauseWdog (p : Nat) (s : State) : State :=
  let x := s.ethP p
  let late := (List.range 8).any (fun q =>
    paused s x q && decide (tget 0 x.pausedSince q + x.pause.wdog * 1000 ≤ s.now))
  if late then
    let t := unpauseAll p s
    setSticky 5 (16 + p) (t.setEthP p { t.ethP p with wdogTrips := satInc sat32 x.wdogTrips, pauseIgnore := true })
  else s

/-- PAUSE_IGNORE_EXIT (R393): 10 ms without a flow-control frame. -/
def pauseIgnoreExit (p : Nat) (s : State) : State :=
  let x := s.ethP p
  if x.pauseIgnore ∧ x.lastFlow + 10000000 ≤ s.now then s.setEthP p { x with pauseIgnore := false } else s

/-- The link goes down (R389, R418): committed frames are withdrawn or stomped. -/
def linkDown (p : Nat) (s : State) : State :=
  let x := s.ethP p
  let a := x.committedQ.foldl withdraw (s.setEthP p { x with committedQ := [], wireFree := s.now * 1000 })
  let b := stompInFlight p a
  b.setEthP p { b.ethP p with state := 1, anDone := false, lm := { x.lm with running := false } }

/-- ETH_LINK_DOWN (R389). -/
def ethLinkDown (p : Nat) (s : State) : State := if (s.ethP p).state < 2 then s else linkDown p s

/-- ETH_LINK_UP (R389, R394, R397): alignment and FEC lock. -/
def ethLinkUp (p : Nat) (alignRx alignTx : Interval) (s : State) : State :=
  let x := s.ethP p
  if (x.state = 1 ∧ !bit x.cfg.flags 1) ∨ x.state = 2 then
    s.setEthP p { x with
      state := 3, ups := satInc sat32 x.ups, alignRx := alignRx, alignTx := alignTx
      rowUsed := tget {} x.rows (rowOf x.cfg) }
  else s

/-- AUTO_NEGOTIATION (R389): the partner takes the configured rate and FEC, or the attempt is counted. -/
def autoNegotiation (p : Nat) (agreed : Option (Nat × Bool)) (s : State) : State :=
  let x := s.ethP p
  if x.state ≠ 1 ∨ !bit x.cfg.flags 1 then s
  else if agreed = some (x.cfg.rate, fecOn x.cfg) then s.setEthP p { x with state := 2, anDone := true }
  else s.setEthP p { x with anFail := satInc sat32 x.anFail }

/-- LPI_RECEIVED (R390): received LPI ends. -/
def lpiReceived (p : Nat) (s : State) : State :=
  let x := s.ethP p
  if x.state = 3 then s.setEthP p { x with lpiSeen := true, lpiUntil := s.now + 100000 } else s

/-- PHASE_SAMPLE (R394, R395): a sample of the transmit or receive clock, without INVALID or MISSED. -/
def phaseSample (p : Nat) (tx good : Bool) (s : State) : State :=
  let x := s.ethP p
  if x.state = 0 ∨ !good then s
  else if tx then s.setEthP p { x with txSampleAt := some s.now }
  else s.setEthP p { x with rxSampleAt := some s.now }

/-- A port is enabled (R389, R399, R70). -/
def enableEth (p : Nat) (s : State) : State :=
  (s.setEthP p { clearEth (s.ethP p) with state := 1, lpiSeen := false, txSampleAt := none, rxSampleAt := none }).setInterp
    (1024 + p) { (s.interp (1024 + p)).fresh with enabled := true }

/-- A port is disabled: its frames are withdrawn or stomped (R289, R509). -/
def disableEth (p : Nat) (s : State) : State :=
  let a := withdrawAll p (stompInFlight p (unpauseAll p s))
  (a.setEthP p { a.ethP p with
    state := 0, cfgNext := none, anDone := false, pauseIgnore := false, lm := { (a.ethP p).lm with running := false } }).setInterp (1024 + p)
    (a.interp (1024 + p)).fresh

/-- The port's function enters its safe state (R509). -/
def ethSafe (p : Nat) (s : State) : State := if (s.ethP p).state = 0 then s else disableEth p s
/-- The port's function leaves its safe state (R509). -/
def ethLeaveSafe (p : Nat) (s : State) : State :=
  if (s.ethP p).state = 0 ∧ bit (s.ethP p).cfg.flags 0 then enableEth p s else s

/-- The record in force, or the one that waits for the end of the frame in progress (R389, R400). -/
def ethRecord (s : State) (p : Nat) : List Byte :=
  let c := (s.ethP p).cfgNext.getD (s.ethP p).cfg
  le 1 p ++ le 1 c.flags ++ le 1 c.rate ++ le 1 c.pmd ++ le 2 c.maxFrame ++ zeros 2 ++ be 6 (macOf s p) ++ zeros 2

/-- The record a write asks for; the FEC flag is kept as written (R400). -/
def ethParse (s : State) (p : Nat) (r : List Byte) : EthCfg :=
  { flags := rd r 1 1, rate := rd r 2 1, pmd := rd r 3 1, maxFrame := rd r 4 2
    mac := if rdBe r 8 6 = macOf s p then (s.ethP p).cfg.mac else some (rdBe r 8 6) }

/-- A write changes what the link of an enabled port runs on (R389). -/
def relinks (c o : EthCfg) : Bool :=
  bit c.flags 0 && (decide (c.rate ≠ o.rate) || decide (c.pmd ≠ o.pmd) || (bit c.flags 1 != bit o.flags 1) || (fecOn c != fecOn o))

/-- A frame of the port is in progress. -/
def sending (s : State) (p : Nat) : Bool := (s.ethP p).inFlight.any (fun f => decide (s.now * 1000 < f.ends))

/-- The link restarts from DOWN with a new record (R389). -/
def relink (p : Nat) (c : EthCfg) (s : State) : State :=
  let x := s.ethP p
  s.setEthP p { x with cfg := c, cfgNext := none, state := 1, anDone := false, lm := { x.lm with running := false } }

/-- A port has something to do by itself as time goes on (R389): a written record takes effect after the frame in progress; a
port that is DOWN without auto-negotiation starts to align (DESIGN CHOICE, log entry 35: within a microsecond). -/
def portDue (s : State) (p : Nat) : Bool :=
  let x := s.ethP p
  (x.cfgNext.isSome && !sending s p) || (x.cfgNext.isNone && decide (x.state = 1) && !bit x.cfg.flags 1)

/-- What a port does by itself (R389). -/
def portTick (s : State) (p : Nat) : State :=
  let x := s.ethP p
  if portDue s p then (match x.cfgNext with | some c => relink p c s | none => s.setEthP p { x with state := 2 }) else s

/-- The ports as time goes on, with the generations of what changes (R486). -/
def portTicks (s : State) : State :=
  let l := (List.range numEth).filter (portDue s)
  if l = [] then s else commitG s (l.foldl portTick s)

/-- A write of ETH_PORT_CONFIG takes effect (R389, R400): what restarts the link, after the frame in progress. -/
def ethWrite (p : Nat) (c : EthCfg) (s : State) : State :=
  let o := (s.ethP p).cfg
  let t := rewriteWord 5 p s
  let put := fun (u : State) => u.setEthP p { u.ethP p with cfg := c, cfgNext := none }
  if inSafe t 5 p then put t
  else if bit c.flags 0 && !bit o.flags 0 then enableEth p (put t)
  else if !bit c.flags 0 && bit o.flags 0 then put (disableEth p t)
  else if relinks c o then
    let u := withdrawAll p t
    if sending u p then u.setEthP p { u.ethP p with cfgNext := some c } else relink p c u
  else put t

/-- ETH_PORT_CONFIG (R389, R400, R560). -/
def bodyEthPortConfig : Body := fun c s =>
  let r := c.req.payload
  let p := rd r 0 1
  if r.length ≠ 1 ∧ r.length ≠ 16 then badLen s
  else checked s [(0, p < numEth)]
    (if r.length = 1 then ok s (ethRecord s p)
     else checked s
       [(1, rd r 1 1 < 8), (2, rd r 2 1 ≤ 3), (3, rd r 3 1 ≤ 1), (4, 1518 ≤ rd r 4 2 ∧ rd r 4 2 ≤ 9216), zeroAt r 6 2,
        (8, !bit (rd r 8 1) 0), zeroAt r 14 2]
       (if bit (rd r 1 1) 0 && !bit (s.ethP p).cfg.flags 0 && decide ((ethLoop s p).depth ≠ 0) then err s stSTATE
        else let t := ethWrite p (ethParse s p r) s; ok t (ethRecord t p)))

/-- A port's status (R401). -/
def ethStatus (s : State) (p : Nat) : List Byte :=
  let x := s.ethP p
  le 1 x.state ++
  le 1 (flag 0 (tsGood s p true && tsGood s p false) + flag 1 x.pauseIgnore + flag 2 x.lpiSeen +
    flag 3 (fecOn x.cfg && decide (x.state = 3)) + flag 4 x.anDone + flag 5 (s.interp (1024 + p)).selfFail) ++
  le 1 ((List.range 8).foldl (fun a q => a + flag q (paused s x q)) 0) ++ zeros 1 ++
  leI 4 x.alignRx ++ leI 4 (egressCorr s p) ++ leI 4 (ingressCorr s p) ++ le 4 (ethTerm s p) ++ le 4 x.ups ++ le 4 x.fecCorr ++
  le 4 x.fecUncorr ++ le 4 x.fcsErr ++ le 4 x.tagMiss ++ le 4 x.pauseRx ++ le 4 x.pfcRx ++ le 4 x.wdogTrips ++
  le 4 x.lpiDiscard ++ le 4 x.anFail ++ le 4 x.addrDrops ++ interpRecord s (1024 + p)

/-- ETH_PORT_STATUS (R401). -/
def bodyEthPortStatus : Body := fun c s =>
  let r := c.req.payload
  let p := rd r 0 1
  if r.length ≠ 2 then badLen s
  else checked s [(0, p < numEth), (1, rd r 1 1 ≤ 1)]
    (ok (if bit (rd r 1 1) 0 then s.setEthP p (clearEth (s.ethP p)) else s) (ethStatus s p))

/-- A tag entry (R402). -/
def tagRecord (s : State) (p d : Nat) : List Byte :=
  let g : TagCfg := tget {} (s.ethP p).tags d
  le 1 p ++ le 1 d ++ le 1 g.mode ++ le 1 g.pcp ++ le 2 g.cvid ++ le 2 g.svid ++ zeros 4

/-- ETH_TAG_CONFIG (R402). -/
def bodyEthTagConfig : Body := fun c s =>
  let r := c.req.payload
  let p := rd r 0 1
  let d := rd r 1 1
  if r.length ≠ 2 ∧ r.length ≠ 12 then badLen s
  else checked s [(0, p < numEth), (1, d ≤ 10)]
    (if r.length = 2 then ok s (tagRecord s p d)
     else checked s [(2, rd r 2 1 ≤ 3), (3, rd r 3 1 ≤ 7), (4, rd r 4 2 ≤ 4094), (6, rd r 6 2 ≤ 4094), zeroAt r 8 4]
       (let x := s.ethP p
        let t := s.setEthP p { x with tags := tset {} x.tags d ⟨rd r 2 1, rd r 3 1, rd r 4 2, rd r 6 2⟩ }
        ok t (tagRecord t p d)))

/-- ETH_PAUSE_CONFIG's record (R403). -/
def pauseRecord (s : State) (p : Nat) : List Byte :=
  le 1 p ++ le 1 (s.ethP p).pause.flags ++ zeros 2 ++ le 4 (s.ethP p).pause.wdog

/-- ETH_PAUSE_CONFIG (R403). -/
def bodyEthPauseConfig : Body := fun c s =>
  let r := c.req.payload
  let p := rd r 0 1
  if r.length ≠ 1 ∧ r.length ≠ 8 then badLen s
  else checked s [(0, p < numEth)]
    (if r.length = 1 then ok s (pauseRecord s p)
     else checked s
       [(1, rd r 1 1 < 4), zeroAt r 2 2, (4, 100 ≤ rd r 4 4 ∧ rd r 4 4 ≤ 1000000 ∧ rd r 4 4 % 10 = 0)]
       (let t := s.setEthP p { s.ethP p with pause := ⟨rd r 1 1, rd r 4 4⟩ }
        ok t (pauseRecord t p)))

/-- A rate has a FEC mode (R388). -/
def fecFits (rate fec : Nat) : Bool := match rate with | 0 => fec == 0 | 1 => fec ≤ 1 | _ => fec == 1

/-- An asymmetry row (R404). -/
def asymRecord (s : State) (action p row : Nat) : List Byte :=
  let g : AsymRow := tget {} (s.ethP p).rows row
  le 1 action ++ le 1 p ++ le 1 (row / 2) ++ le 1 (row % 2) ++ le 4 g.unc ++ leIv g.boardTx ++ leIv g.boardRx ++
  leIv (s.ethP p).linkAsym ++ zeros 16

/-- A row and LINK_ASYM are written (R397). -/
def asymWrite (p row : Nat) (g : AsymRow) (link : Interval) (s : State) : State :=
  let x := s.ethP p
  s.setEthP p { x with
    rows := tset {} x.rows row g, linkAsym := link
    rowUsed := if x.state = 3 ∧ rowOf x.cfg = row then g else x.rowUsed }

/-- The last loop measurement (R404). -/
def loopRecord (s : State) (p : Nat) : List Byte :=
  let m := (s.ethP p).lm
  leIv m.mean ++ leIv m.stddev ++ leIv m.residual ++ le 4 m.frames ++ zeros 4

/-- ETH_ASYM_CAL (R397, R398, R404). -/
def bodyEthAsymCal : Body := fun c s =>
  let r := c.req.payload
  let a := rd r 0 1
  let p := rd r 1 1
  let row := 2 * rd r 2 1 + rd r 3 1
  if r.length ≠ 48 then badLen s
  else checked s [(0, a ≤ 3), (1, p < numEth), (2, rd r 2 1 ≤ 3), (3, rd r 3 1 ≤ 1 ∧ fecFits (rd r 2 1) (rd r 3 1) = true)]
    (match a with
     | 0 => ok s (asymRecord s 0 p row)
     | 3 => ok s (loopRecord s p)
     | 1 =>
       checked s
         [(4, rd r 4 4 ≤ 0xFA00), (8, 0 ≤ rdI r 8 8 ∧ rdI r 8 8 ≤ 6553600), (16, 0 ≤ rdI r 16 8 ∧ rdI r 16 8 ≤ 6553600),
          (24, -65536000 ≤ rdI r 24 8 ∧ rdI r 24 8 ≤ 65536000), zeroAt r 40 8]
         (sealedWrite (sealedOf 0x0805 p [(4, 4), (8, 8), (16, 8), (24, 8)] (asymRecord s 1 p row) r) s (fun t =>
           let u := asymWrite p row ⟨rd r 4 4, rdI r 8 8, rdI r 16 8⟩ (rdI r 24 8) t
           ok u (asymRecord u 1 p row)))
     | _ =>
       checked s [(32, 0 ≤ rdI r 32 8 ∧ rdI r 32 8 ≤ 6553600000), zeroAt r 40 8]
         (let x := s.ethP p
          if portServes s p ∨ x.state ≠ 3 then err s stSTATE
          else if x.lm.running then busy s
          else pend (s.setEthP p { x with lm := { x.lm with running := true, delay := rdI r 32 8, startAt := s.now } }) []))

/-- LOOP_MEASURE_END (R398): after 4,096 test frames, one every 10 µs; a lost frame gives no sample. -/
def loopMeasureEnd (p : Nat) (samples : List (Option Interval)) (s : State) : State :=
  let x := s.ethP p
  if !x.lm.running || decide (s.now < x.lm.startAt + 4096 * 10000) || decide (samples.length ≠ 4096) then s
  else
    let l := samples.filterMap id
    let n := l.length
    let mean := divNearI l.sum (max 1 n)
    let sq := (l.map (fun v => ((v * n - l.sum).natAbs) ^ 2)).sum
    let dev := if n = 0 then 0 else isqrt (divNear sq (n * n * n))
    s.setEthP p { x with lm := { x.lm with
      running := false, mean := mean, stddev := dev, residual := if n = 0 then 0 else mean - x.lm.delay, frames := n } }

/-- ETH_PORT_CONFIG (R400). -/
def execEthPortConfig (rq : Request) (s : State) : Out := kcpRow 0x0801 (leastPriv s 0x0801 rq.payload) bodyEthPortConfig rq s
/-- ETH_PORT_STATUS (R401). -/
def execEthPortStatus (rq : Request) (s : State) : Out := kcpRow 0x0802 (leastPriv s 0x0802 rq.payload) bodyEthPortStatus rq s
/-- ETH_TAG_CONFIG (R402). -/
def execEthTagConfig (rq : Request) (s : State) : Out := kcpRow 0x0803 (leastPriv s 0x0803 rq.payload) bodyEthTagConfig rq s
/-- ETH_PAUSE_CONFIG (R403). -/
def execEthPauseConfig (rq : Request) (s : State) : Out := kcpRow 0x0804 (leastPriv s 0x0804 rq.payload) bodyEthPauseConfig rq s
/-- ETH_ASYM_CAL (R397). -/
def execEthAsymCal (rq : Request) (s : State) : Out := kcpRow 0x0805 (leastPriv s 0x0805 rq.payload) bodyEthAsymCal rq s
/-- LOOP_MEASURE, ACTION 2 of ETH_ASYM_CAL (R398). -/
def execLoopMeasure (rq : Request) (s : State) : Out := kcpRow 0x0805 (leastPriv s 0x0805 (withByte 0 2 rq).payload) bodyEthAsymCal (withByte 0 2 rq) s
/-- LOOP_RESULT_READ, ACTION 3 of ETH_ASYM_CAL (R404). -/
def execLoopResultRead (rq : Request) (s : State) : Out := kcpRow 0x0805 (leastPriv s 0x0805 (withByte 0 3 rq).payload) bodyEthAsymCal (withByte 0 3 rq) s
/-- LOOP_MEASURE_END (R398). -/
def execLoopMeasureEnd (port : Nat) (samples : List (Option Interval)) (s : State) : Out :=
  guardUnit (port < numEth) s (done s (loopMeasureEnd port samples s))
/-- ETH_LINK_UP (R389). -/
def execEthLinkUp (port : Nat) (alignRx alignTx : Interval) (s : State) : Out :=
  guardUnit (port < numEth) s (done s (ethLinkUp port alignRx alignTx s))
/-- ETH_LINK_DOWN (R389). -/
def execEthLinkDown (port : Nat) (s : State) : Out := guardUnit (port < numEth) s (done s (ethLinkDown port s))
/-- AUTO_NEGOTIATION (R389). -/
def execAutoNegotiation (port : Nat) (agreed : Option (Nat × Bool)) (s : State) : Out :=
  guardUnit (port < numEth) s (done s (autoNegotiation port agreed s))
/-- LPI_RECEIVED (R390). -/
def execLpiReceived (port : Nat) (s : State) : Out := guardUnit (port < numEth) s (done s (lpiReceived port s))
/-- PAUSE_FRAME (R392). -/
def execPauseFrame (port : Nat) (pfc : Bool) (enables : Nat) (quanta : List Nat) (s : State) : Out :=
  guardUnit (port < numEth) s (done s (pauseFrame port pfc enables quanta s))
/-- PAUSE_WDOG (R393). -/
def execPauseWdog (port : Nat) (s : State) : Out := guardUnit (port < numEth) s (done s (pauseWdog port s))
/-- PAUSE_IGNORE_EXIT (R393). -/
def execPauseIgnoreExit (port : Nat) (s : State) : Out := guardUnit (port < numEth) s (done s (pauseIgnoreExit port s))
/-- PHASE_SAMPLE (R394). -/
def execPhaseSample (port : Nat) (tx good : Bool) (s : State) : Out := guardUnit (port < numEth) s (done s (phaseSample port tx good s))
/-- PAUSE_EXPIRY (R392). -/
def execPauseExpiry (port queue : Nat) (s : State) : Out :=
  guardUnit (port < numEth ∧ queue < 8) s (done s (pauseExpiry port queue s))

end Sys2Proof.Machine
end

