-- ==== Sys2Proof/Machine/Gran.lean ====
section
/-! DEFINITION. The Granary, the rate buckets, and which service a port and a frame belong to (R275 to R280, R294, R391). -/

namespace Sys2Proof.Machine
open Sys2Proof

/-- Bytes of an entry's key (R279, R280). -/
def keyBytes (k : GKey) : List Byte := be 16 k.address ++ be 1 (k.port * 16 + k.domain)

/-- The two candidate sets of a key, of 131,072 (R279). -/
def candidateSet (s : State) (k : GKey) (which : Nat) : Nat := Config.granaryHash s.svc.hashKey (keyBytes k) which % 131072

/-- A free entry of a set: the lowest. -/
def freeIn (t : Tbl Entry) (set : Nat) : Option Nat :=
  ((List.range 8).map (8 * set + ·)).find? (fun i => !(tget {} t i).valid)

/-- Free a place in a set by at most `n` moves of entries to their other candidate sets (R279). -/
def makeRoom (other : Entry → Nat → Nat) : Nat → Nat → Tbl Entry → Option (Tbl Entry × Nat)
  | 0, set, t => (freeIn t set).map (fun i => (t, i))
  | n + 1, set, t =>
    match freeIn t set with
    | some i => some (t, i)
    | none =>
      ((List.range 8).map (8 * set + ·)).findSome? (fun i =>
        let e : Entry := tget {} t i
        (makeRoom other n (other e set) t).map (fun r => (tset {} (tset {} r.1 r.2 (tget {} r.1 i)) i {}, i)))

/-- An entry's other candidate set. -/
def otherSet (s : State) (e : Entry) (set : Nat) : Nat :=
  if candidateSet s e.key 0 = set then candidateSet s e.key 1 else candidateSet s e.key 0

/-- The place of a new entry (R279): a free one of either candidate set, else one freed by moves; none when that fails. -/
def placeFor (s : State) (k : GKey) : Option (Tbl Entry × Nat) :=
  let t := s.svc.granary
  match freeIn t (candidateSet s k 0) with
  | some i => some (t, i)
  | none => match freeIn t (candidateSet s k 1) with
    | some i => some (t, i)
    | none => match makeRoom (otherSet s) 4 (candidateSet s k 0) t with
      | some r => some r
      | none => makeRoom (otherSet s) 4 (candidateSet s k 1) t

/-- Entries of an outbound domain. -/
def entriesOf (s : State) (d : Nat) : Nat := (s.svc.granary.filter (fun e => e.2.valid && e.2.key.domain == d)).length

/-- Insert an entry (R279, R281): none when its sets are full, counted, or at the domain's MAX_CLIENTS. -/
def insertEntry (e : Entry) (s : State) : Option Nat × State :=
  let d := e.key.domain
  if (s.dom d).cfg.maxClients ≤ entriesOf s d then (none, s)
  else match placeFor s e.key with
    | some (t, i) => (some i, writeEntry i { e with valid := true } { s with svc := { s.svc with granary := t } })
    | none => (none, s.setDom d { s.dom d with setFull := satInc sat32 (s.dom d).setFull })

/-- Free an entry. -/
def freeEntry (i : Nat) (s : State) : State := touch (s.setEntry i {})

/-- Tokens are held in 10^-9 tokens: one. -/
def token : Nat := 1000000000

/-- A bucket refilled to now (R294). -/
def refill (s : State) (b : Bucket) : Bucket :=
  let l := s.svc.limits
  if !b.used then { used := true, ntp := l.ntpBurst * token, sig := 4 * l.sigRate * token, at_ := s.now }
  else
    let dt := s.now - b.at_
    { b with
      ntp := min (l.ntpBurst * token) (b.ntp + dt * l.ntpRate), sig := min (4 * l.sigRate * token) (b.sig + dt * l.sigRate)
      at_ := s.now }

/-- The bucket of a source address (R294). -/
def bucketIdx (s : State) (v6 : Bool) (address : Nat) : Nat :=
  let l := s.svc.limits
  let p := if v6 then be 16 (address / 2 ^ (128 - l.v6Prefix)) else be 4 (address / 2 ^ (32 - l.v4Prefix))
  Config.bucketHash s.svc.hashKey (be 1 (if v6 then 6 else 4) ++ p) % 131072

/-- Replace a bucket. -/
def State.setBucket (s : State) (i : Nat) (x : Bucket) : State :=
  { s with svc := { s.svc with buckets := tset {} s.svc.buckets i x } }

/-- Take a token of a source's bucket, an NTP or NTS one or a negotiation one (R294). -/
def takeToken (sig v6 : Bool) (address : Nat) (s : State) : Bool × State :=
  let i := bucketIdx s v6 address
  let b := refill s (tget {} s.svc.buckets i)
  if sig then (decide (token ≤ b.sig), s.setBucket i (if token ≤ b.sig then { b with sig := b.sig - token } else b))
  else (decide (token ≤ b.ntp), s.setBucket i (if token ≤ b.ntp then { b with ntp := b.ntp - token } else b))

/-- An outbound domain is enabled on a port and not stopped (R276, R301, R509). -/
def domOn (s : State) (d p : Nat) : Bool :=
  let c := (s.dom d).cfg
  bit c.flags 0 && bit c.ports p && bit (s.prof p).cfg.flags 0 && !inSafe s 2 d

/-- NTP is enabled on a port and not stopped (R301, R509). -/
def ntpOn (s : State) (p : Nat) : Bool := bit (s.prof p).cfg.flags 1 && !inSafe s 2 (16 + p)

/-- An upstream domain runs (R296, R509). -/
def upOn (s : State) (u : Nat) : Bool := bit (s.upD u).cfg.flags 0 && !inSafe s 2 (32 + u)

/-- The service domains enabled on a port (R275). -/
def domainsOn (s : State) (p : Nat) : List Nat :=
  (List.range 8).filter (fun d => domOn s d p) ++ (if ntpOn s p then [8] else []) ++
  ([0, 1].filter (fun u => upOn s u && decide ((s.upD u).cfg.port = p))).map (9 + ·)

/-- The tag stack of an entry, outermost first (R391). -/
def tagStack (g : TagCfg) : List (Nat × Nat) :=
  match g.mode with
  | 0 => []
  | 1 => [(0x8100, g.cvid)]
  | 2 => [(0x88A8, g.svid), (0x8100, g.cvid)]
  | _ => [(0x88A8, g.svid)]

/-- The tag entry of a domain on a port. -/
def tagOf (s : State) (p d : Nat) : TagCfg := tget {} (s.ethP p).tags d

/-- The address of an IPv4 host as ADDRESS holds it (R280). -/
def v4Address (a : Nat) : Nat := 0xFFFF * 2 ^ 32 + a

/-- ADDRESS of an IP host (R280). -/
def ipAddress (v6 : Bool) (a : Nat) : Nat := if v6 then a else v4Address a

/-- The IPv4 or IPv6 address set for a port, where its flag is set (R276, R301). -/
def ownIp (s : State) (p : Nat) (v6 : Bool) : Option Nat :=
  let c := (s.prof p).cfg
  if bit c.flags (if v6 then 4 else 3) then some (if v6 then c.ipv6 else c.ipv4) else none

/-- The port's own ADDRESS in the encoding of R280 for a TRANSPORT. -/
def ownAddress (s : State) (p transport : Nat) : Nat :=
  match transport with
  | 0 => macOf s p
  | 1 => v4Address (s.prof p).cfg.ipv4
  | _ => (s.prof p).cfg.ipv6

/-- A service domain uses IP of a version on a port (R391). -/
def usesIp (s : State) (d : Nat) (v6 : Bool) : Bool :=
  if d < 8 then bit (s.dom d).cfg.transport (if v6 then 2 else 1)
  else if d = 8 then true
  else decide ((s.upD (d - 9)).cfg.transport = (if v6 then 2 else 1))

/-- PTP group MAC addresses (R277, IEEE 1588 Annex E): forwardable, and the other with ALT_MCAST. -/
def ptpGroupMac (alt : Bool) : Nat := if alt then 0x0180C200000E else 0x011B19000000
/-- PTP group IP addresses (IEEE 1588 Annexes C and D). -/
def ptpGroupIp (v6 : Bool) : Nat := if v6 then 0xFF0E0000000000000000000000000181 else 0xE0000181

/-- ALT_MCAST of a service domain. -/
def altMcast (s : State) (d : Nat) : Bool := if d < 8 then bit (s.dom d).cfg.flags 7 else bit (s.upD (d - 9)).cfg.flags 2

/-- A PTP message belongs to a service domain by its transport and domainNumber (R277). -/
def ptpFits (s : State) (d transport number : Nat) : Bool :=
  if d < 8 then bit (s.dom d).cfg.transport transport && decide ((s.dom d).cfg.domain = number)
  else if d = 8 then false
  else decide ((s.upD (d - 9)).cfg.transport = transport) && decide ((s.upD (d - 9)).cfg.domain = number)

/-- A frame's body is of a service domain on a port (R276, R290). -/
def bodyFits (s : State) (p : Nat) (f : RxFrame) (d : Nat) : Bool :=
  match f.body with
  | .ptpL2 m => ptpFits s d 0 m.domain
  | .ptpUdp v6 _ _ _ m => ptpFits s d (if v6 then 2 else 1) m.domain
  | .ntpUdp _ _ _ _ _ => decide (d = 8)
  | .arp _ _ => usesIp s d false && (ownIp s p false).isSome
  | .neighborSolicitation _ _ => usesIp s d true && (ownIp s p true).isSome
  | _ => false

/-- The frame is one that the port accepts for a service domain (R276). -/
def addressed (s : State) (p : Nat) (f : RxFrame) (d : Nat) : Bool :=
  let mac := decide (f.dst = macOf s p)
  match f.body with
  | .ptpL2 _ => mac || decide (f.dst = ptpGroupMac (altMcast s d))
  | .ptpUdp v6 _ dst _ _ => mac || decide (ownIp s p v6 = some dst) || decide (dst = ptpGroupIp v6)
  | .ntpUdp v6 _ dst _ _ => mac || decide (ownIp s p v6 = some dst)
  | .arp target _ => decide (ownIp s p false = some target)
  | .neighborSolicitation target _ => decide (ownIp s p true = some target)
  | _ => false

/-- The frame came to a group address. -/
def isGroup (s : State) (p : Nat) (f : RxFrame) : Bool :=
  match f.body with
  | .ptpL2 _ => bit f.dst 40
  | .ptpUdp v6 _ dst _ _ => decide (dst = ptpGroupIp v6) && !decide (ownIp s p v6 = some dst)
  | _ => false

/-- ADDRESS and TRANSPORT of a frame's sender (R280). -/
def senderOf (f : RxFrame) : Nat × Nat :=
  match f.body with
  | .ptpUdp v6 src _ _ _ => (ipAddress v6 src, if v6 then 2 else 1)
  | .ntpUdp v6 src _ _ _ => (ipAddress v6 src, if v6 then 2 else 1)
  | _ => (f.src, 0)

/-- The PTP message of a frame. -/
def ptpOf (f : RxFrame) : Option PtpMsg :=
  match f.body with
  | .ptpL2 m => some m
  | .ptpUdp _ _ _ _ m => some m
  | _ => none

/-- The flow bucket of a received message (R310). -/
def rxBucket (s : State) (p d : Nat) (f : RxFrame) : Nat :=
  bucketOf s (match f.body with
    | .ntpUdp v6 src _ sport _ => flowNtp (ipAddress v6 src) sport p
    | .arp _ _ => flowArp p
    | .neighborSolicitation _ _ => flowArp p
    | _ =>
      if 9 ≤ d then flowUpstream d
      else if isGroup s p f then flowMulticast d p
      else flowEntry ⟨(senderOf f).1, p, d⟩)

/-- The service domain of a frame whose tags match, or the counter that its discard increments: true TAG_MISMATCH,
false ADDR_DROPS (R276, R391). -/
def classify (s : State) (p : Nat) (f : RxFrame) : Except Bool Nat :=
  let tagged := (domainsOn s p).filter (fun d => decide (tagStack (tagOf s p d) = f.tags))
  if tagged = [] then .error true
  else if f.fragment || f.options then .error false
  else match tagged.find? (fun d => bodyFits s p f d && addressed s p f d) with
    | some d => .ok d
    | none => .error false

/-- ETH_FRAME_RECEIVE (R276, R311, R390, R391, R394, R405): the event is the frame's timestamp point at the MDI. -/
def ethFrameReceive (p : Nat) (f : RxFrame) (s0 : State) : State :=
  let x := s0.ethP p
  let s := perfAdd (8 * p + 2) f.length (perfAdd (8 * p) 1
    (filterCount { family := 3, dir := 0, tc := f.pcp, port := p } 1 s0))
  if x.state ≠ 3 then s0
  else if !f.good then s.setEthP p { x with fcsErr := satInc sat32 x.fcsErr }
  else if s.now < x.lpiUntil then s.setEthP p { x with lpiDiscard := satInc sat32 x.lpiDiscard }
  else if x.cfg.maxFrame < f.length ∨ f.body = .pauseFrame then s
  else if 393216 < x.rxUsed + f.length then s.setEthP p { x with rxOverflow := satInc sat32 x.rxOverflow }
  else match classify s p f with
    | .error true => s.setEthP p { x with tagMiss := satInc sat32 x.tagMiss }
    | .error false => s.setEthP p { x with addrDrops := satInc sat32 x.addrDrops }
    | .ok d =>
      let good := tsGood s p false
      let t := s.setEthP p { x with rxUsed := x.rxUsed + f.length }
      pushInput ⟨.rx p d (roundStamp (replicaTime s 0)) (servedBound s p false) f, rxBucket s p d f⟩
        (if good then perfAdd (8 * p + 4) 1 t else t)

/-- ETH_FRAME_RECEIVE (R276). -/
def execEthFrameReceive (port : Nat) (f : RxFrame) (s : State) : Out := guardUnit (port < numEth) s (done s (ethFrameReceive port f s))

end Sys2Proof.Machine
end

