-- ==== Sys2Proof/Machine/Svc.lean ====
section
/-! DEFINITION. The packet time service: grants, Delay_Req, scheduled messages, NTP and NTS, evidence of served
exchanges (R276 to R295). -/

namespace Sys2Proof.Machine
open Sys2Proof

/-- PTP header versions the module accepts (R277). -/
def versionOk (m : PtpMsg) : Bool := decide (m.version = 2) && decide (m.minor ≤ 1)

/-- The authentication of a service domain (R284): mode, algorithm number of the KDF, SPP. -/
def authCfg (s : State) (d : Nat) : Nat × Nat × Nat :=
  let a := if d < 8 then (s.dom d).cfg.auth else (s.upD (d - 9)).cfg.auth
  (a % 4, if bit a 2 then 2 else 1, if d < 8 then (s.dom d).cfg.spp else (s.upD (d - 9)).cfg.spp)

/-- The algorithm of a TLV that a domain sends; 0 none (R284). -/
def algOf (s : State) (d : Nat) (required : Bool) : Nat :=
  let a := authCfg s d
  if a.1 = 0 ∧ !required then 0 else a.2.1

/-- A service domain authenticates its messages (R284). -/
def authOn (s : State) (d : Nat) : Bool := decide (d ≠ 8) && decide ((authCfg s d).1 ≠ 0)

/-- The entry of a key requires authentication (R280). -/
def entryAuth (s : State) (k : GKey) : Bool := (findEntry s k).any (fun i => (s.entry i).authRequired)

/-- A task may need a per-client key (R284, R285). -/
def keyUser (s : State) : TaskMsg → Bool
  | .rx p d _ _ f => authOn s d || (decide (d < 8) && entryAuth s ⟨(senderOf f).1, p, d⟩)
  | .sched (.unicast k _) => authOn s k.domain || entryAuth s k
  | .sched (.multicast d _ _) => authOn s d
  | .sched (.followUp f) => decide (f.alg ≠ 0)
  | .cmd _ _ => false

/-- The unfinished task of a thread that is in no wait; one that needs an epoch key waits until it is in place (R338). -/
def taskOf (s : State) (n : Nat) : Option Task :=
  match (s.thread n).task with
  | some k => if k.done || (s.thread n).wait.isSome || (keysAwaited s && keyUser s k.msg) then none else some k
  | none => none

/-- The received message of a task: port, service domain, receive timestamp and its bound, the frame. -/
def rxOf (k : Task) : Option (Nat × Nat × FieldTime × Bound × RxFrame) :=
  match k.msg with
  | .rx p d t b f => some (p, d, t, b, f)
  | _ => none

/-- The key epoch of a field time (R285). -/
def keyEpoch (t : FieldTime) : Nat := ftSec t / 65536 % 2 ^ 32

/-- The authentication TLV of a message received at `at_` is of the form the domain takes (R284, R285): its secParamIndicator, its
SPP, and its keyID of the current or the next epoch. -/
def tlvFits (s : State) (d : Nat) (at_ : FieldTime) (t : AuthTlv) : Bool :=
  decide (t.secParam = 0) && decide (t.spp = (authCfg s d).2.2) &&
  (decide (t.keyId = keyEpoch at_) || decide (t.keyId = (keyEpoch at_ + 1) % 2 ^ 32))

/-- A message received at `at_` passes authentication (R284, R285); `required` is the entry's AUTH_REQUIRED. -/
def authPass (s : State) (d tenant : Nat) (id : List Byte) (required : Bool) (at_ : FieldTime) (m : PtpMsg) : Bool :=
  let a := authCfg s d
  if a.1 = 0 ∧ !required then true
  else match m.auth with
    | none => decide (a.1 ≠ 2) && !required
    | some t =>
      tlvFits s d at_ t &&
      match clientKey s tenant t.keyId id a.2.1 with
      | some k => decide (t.icv = icvOf a.2.1 k m.covered)
      | none => false

/-- A received message fails authentication (R284): it is counted, and so is the request for a key that its tenant's mask refuses
(R340). -/
def failAuth (p d tenant : Nat) (at_ : FieldTime) (m : PtpMsg) (s : State) : State :=
  countAuthFail p d (if m.auth.any (tlvFits s d at_) && clientDenied s tenant then countDenied s else s)

/-- Length of a frame with its tags and FCS (R288): `n` bytes of message above the transport (0 L2, 1 IPv4, 2 IPv6). -/
def frameLen (s : State) (p d transport n : Nat) : Nat :=
  max 64 (14 + 4 * (tagStack (tagOf s p d)).length + (match transport with | 0 => 0 | 1 => 28 | _ => 48) + n + 4)

/-- domainNumber of a service domain. -/
def numberOf (s : State) (d : Nat) : Nat := if d < 8 then (s.dom d).cfg.domain else (s.upD (d - 9)).cfg.domain

/-- The link and IP headers of a frame of a service domain to an ADDRESS of R280; 0 is the PTP group (R276, R288, R301, R391). -/
def netHead (s : State) (p d transport dest : Nat) : TxHead :=
  let v6 := decide (transport = 2)
  { srcMac := macOf s p, tags := (tagStack (tagOf s p d)).map (fun t => (t.1, (tagOf s p d).pcp * 8192 + t.2))
    srcIp := (ownIp s p v6).getD 0, checksum := v6 || bit (s.prof p).cfg.flags 5
    dstIp := if transport = 0 then 0 else if dest = 0 then ptpGroupIp v6 else if v6 then dest else dest % 2 ^ 32 }

/-- What the header of a PTP message of a service domain carries (R277, R284, R302). -/
def ptpHead (s : State) (p d transport dest : Nat) : TxHead :=
  { netHead s p d transport dest with
    number := numberOf s d, unicast := decide (dest ≠ 0), spp := (authCfg s d).2.2
    priority1 := (s.dom d).cfg.priority1, priority2 := (s.dom d).cfg.priority2 }

/-- A PTP frame of a service domain to an ADDRESS, 0 the group (R276, R277, R284, R286): `n` bytes of message before its TLVs. -/
def ptpFrame (s : State) (p d transport mac dest n : Nat) (m : TxMsg) (hasBound : Bool) (alg tenant : Nat) (key : GKey) : TxFrame :=
  { port := p, msg := m, svcDomain := d, queue := (tagOf s p d).pcp
    bytes := frameLen s p d transport (n + (if hasBound then 22 else 0) + (if alg = 0 then 0 else 26))
    alg := alg, tenant := tenant, key := key, transport := transport, dstMac := mac, head := ptpHead s p d transport dest
    fields := { serveFields s (portBound s p) with hasBound := hasBound } }

/-- A signalling message takes the next sequenceId. -/
def numbered (f : TxFrame) (s : State) : TxFrame × State :=
  ({ f with head := { f.head with sigSeq := s.svc.sigSeq } },
   { s with svc := { s.svc with sigSeq := (s.svc.sigSeq + 1) % 65536 } })

/-- Whether the n-th served exchange of a service domain is sampled for a record (R295), with the count it leaves. -/
def sampled (count log : Nat) : Bool × Nat := if 2 ^ log ≤ count + 1 then (true, 0) else (false, count + 1)

/-- Count a served exchange of a PTP domain (R295). -/
def sampleDom (d : Nat) (s : State) : Bool × State :=
  let r := sampled (s.dom d).exchanges (s.dom d).cfg.sampleLog
  (r.1, s.setDom d { s.dom d with exchanges := r.2 })

/-- Count an NTP or NTS exchange (R295). -/
def sampleNtp (p : Nat) (s : State) : Bool × State :=
  let r := sampled s.svc.ntpExchanges (s.prof p).cfg.sampleLog
  (r.1, { s with svc := { s.svc with ntpExchanges := r.2 } })

/-- What a record says of an exchange (R295, R359, R360). -/
def evOf (s : State) (exchange d p tenant : Nat) (client : List Byte) (t : Option FieldTime) (b : Bound) (auth : Bool) (seq : Nat) :
    EvData :=
  { exchange := exchange, svcDomain := d, port := 1024 + p, tenant := tenant, client := client, time := t, bound := b
    clockClass := servedClass s 0 b, flags := evFlags s 0 (t.getD (replicaTime s 0)) auth, seq := seq }

/-- Send a frame of a thread's task (R285, R295): one that waits for its record or carries its own instant is signed later;
one whose key is not delivered is not sent. -/
def sendFrame (n : Nat) (f : TxFrame) (s : State) : State :=
  if f.own || f.wants.isSome then finishTask n (queueFrame n f s)
  else match signFrame f s with
    | (some g, t) => finishTask n (queueFrame n g t)
    | (none, t) => finishTask n (countAuthFail f.port f.svcDomain t)

/-- Sign the task's frame whose record has been decided, and queue it as it is now (R285, R295). -/
def settleFrame (f : TxFrame) (r : Option (Nat × Nat)) (s : State) : Option TxFrame × State :=
  let g := { f with
    wants := none, recorded := if r.isSome then f.wants else none, record := r
    fields := { f.fields with
      tlvFlags := tlvFlagsAt s f.fields.time r.isSome, evidence := evidenceField r } }
  if f.own then (some g, s) else signFrame g s

/-- RECORD_CREATE (R295, R362, R363): the record of the frame that the thread's task has queued, before it is committed or
sent. -/
def recordCreate (n : Nat) (s : State) : State :=
  match (s.thread n).task with
  | none => s
  | some k =>
    let x := s.ethP k.port
    match (x.queues.flatMap (·.2)).find? (fun f => f.tag == k.tag && f.wants.isSome && (f.own || f.alg == 0 || !keysAwaited s)) with
    | none => s
    | some f =>
      match f.wants with
      | none => s
      | some d =>
        let a := createRecord d k.tag s
        let b := settleFrame f a.1 a.2
        let y := b.2.ethP f.port
        let q := tget [] y.queues f.queue
        match b.1 with
        | some g =>
          finishTask n (b.2.setEthP f.port { y with
            queues := tset [] y.queues f.queue (q.map (fun h => if h.tag = f.tag ∧ h.wants.isSome then g else h)) })
        | none =>
          let c := b.2.setEthP f.port { y with queues := tset [] y.queues f.queue (q.erase f) }
          let e := match a.1 with | some p => voidRecord p c | none => c
          finishTask n (countAuthFail f.port f.svcDomain (returnCredit f.port f.credit (some f.queue) e))

/-- ARP_REQUEST (R276, R391). -/
def arpRequest (n : Nat) (s : State) : State :=
  match (taskOf s n).bind rxOf with
  | some (p, d, _, _, f) =>
    match f.body with
    | .arp target sender =>
      sendFrame n { port := p, msg := .arpReply target, svcDomain := d, queue := (tagOf s p d).pcp, dstMac := f.src
                    bytes := frameLen s p d 0 28, head := { netHead s p d 0 0 with srcIp := target, dstIp := sender } } s
    | .neighborSolicitation target sender =>
      sendFrame n { port := p, msg := .neighborAdvertisement target, svcDomain := d, queue := (tagOf s p d).pcp, dstMac := f.src
                    bytes := frameLen s p d 0 72, head := { netHead s p d 2 sender with srcIp := target, dstIp := sender } } s
    | _ => s
  | none => s

/-- A PTP message of an outbound domain: its task's data, its Granary key, its entry, its tenant and its client identity. -/
structure PtpIn where
  port : Nat
  d : Nat
  time : FieldTime
  bound : Bound
  frame : RxFrame
  m : PtpMsg
  key : GKey
  entry : Option Nat
  tenant : Nat
  required : Bool
  transport : Nat
  id : List Byte
  deriving DecidableEq, Repr

/-- The PTP message of a thread's task on an outbound domain. -/
def ptpIn (s : State) (n : Nat) : Option PtpIn :=
  match (taskOf s n).bind rxOf with
  | some (p, d, t, b, f) =>
    match ptpOf f with
    | some m =>
      if d < 8 then
        let w := senderOf f
        let k : GKey := ⟨w.1, p, d⟩
        let e := findEntry s k
        some { port := p, d := d, time := t, bound := b, frame := f, m := m, key := k, entry := e
               tenant := (e.map (fun i => (s.entry i).tenant)).getD (s.dom d).cfg.tenant
               required := e.any (fun i => (s.entry i).authRequired), transport := w.2
               id := clientId ⟨w.1, p, m.domain⟩ w.2 }
      else none
    | none => none
  | none => none

/-- The client identity's address and domainNumber, for the ICV of an answer. -/
def idKey (x : PtpIn) : GKey := ⟨x.key.address, x.port, x.m.domain⟩

/-- The profile range of a logInterval (R277): 0 Announce, 1 Sync, 2 Delay_Resp. -/
def logRange (profile kind : Nat) (v : Int) : Bool :=
  match profile, kind with
  | 0, 0 => decide (-3 ≤ v ∧ v ≤ 4)
  | 0, _ => decide (-7 ≤ v ∧ v ≤ 1)
  | 1, 0 => decide (v = -3)
  | 1, _ => decide (v = -4)
  | _, 0 => decide (-3 ≤ v ∧ v ≤ 0)
  | _, _ => decide (-7 ≤ v ∧ v ≤ 0)

/-- A grant on an entry by a request received in second `sec` (R281); grants whose EXPIRY has come are ended (R282). -/
def grantOn (e : Entry) (kind : GrantKind) (log : Int) (sec expiry : Nat) : Entry :=
  let held := if reached sec e.expiry then 0 else e.grants
  let g := { e with grants := setBit held (kindBit kind), expiry := expiry }
  match kind with
  | .announce => { g with annLog := log }
  | .sync => { g with syncLog := log }
  | .delayResp => { g with delayLog := log }

/-- Whether a request is granted for `d` seconds (R281): the entry granted, or none. -/
def tryGrant (x : PtpIn) (kind : GrantKind) (log : Int) (d : Nat) (s : State) : Bool × State :=
  let c := (s.dom x.d).cfg
  let sec := ftSec x.time
  let expiry := (sec + d) % 2 ^ 32
  let a := takeToken true (decide (x.transport = 2)) (if x.transport = 1 then x.key.address % 2 ^ 32 else x.key.address) s
  let logOk := decide (c.minLog ≤ log) && decide (log ≤ c.maxLog) && logRange c.profile (kindBit kind) log
  let listed := !bit c.flags 6 || x.entry.any (fun i => (s.entry i).isStatic)
  if !a.1 then (false, a.2.setProf x.port { a.2.prof x.port with rateDropped := satInc sat32 (a.2.prof x.port).rateDropped })
  else if !logOk || !listed then (false, a.2)
  else match x.entry with
    | some i => (true, writeEntry i (grantOn (a.2.entry i) kind log sec expiry) a.2)
    | none =>
      let e : Entry := { key := x.key, transport := x.transport, tenant := c.tenant }
      match insertEntry (grantOn e kind log sec expiry) a.2 with
      | (some _, t) => (true, t)
      | (none, t) => (false, t)

/-- An answer in unicast to a PTP message of an outbound domain, to its sender's port. -/
def answerPtp (s : State) (x : PtpIn) (len : Nat) (m : TxMsg) (hasBound : Bool) : TxFrame :=
  let f := ptpFrame s x.port x.d x.transport x.frame.src x.key.address len m hasBound (algOf s x.d x.required) x.tenant (idKey x)
  { f with head := { f.head with target := x.m.clock * 65536 + x.m.portNumber } }

/-- What a PTP message is, for the count of verified messages. -/
def bodyKind (m : PtpMsg) : Nat :=
  match m.body with
  | .signaling (.request _ _ _) => 1
  | .signaling (.cancel _) => 2
  | .delayReq => 3
  | .announce _ => 4
  | .signaling _ => 5
  | _ => 0

/-- A message of the kind now handled that carries an authentication TLV and passes is a verified message (R536). -/
def noteVerified (kind n : Nat) (s : State) : State :=
  match ptpIn s n with
  | some x =>
    if bodyKind x.m = kind ∧ versionOk x.m ∧ x.m.auth.isSome ∧ ((authCfg s x.d).1 ≠ 0 ∨ x.required) ∧
        authPass s x.d x.tenant x.id x.required x.time x.m then countHandled s else s
  | none => s

/-- REQUEST_UNICAST_TRANSMISSION (R281). -/
def requestUnicast (n : Nat) (s : State) : State :=
  match ptpIn s n with
  | none => s
  | some x =>
    match x.m.body with
    | .signaling (.request kind log dur) =>
      if !versionOk x.m || !bit (s.dom x.d).cfg.flags 5 then finishTask n s
      else if !authPass s x.d x.tenant x.id x.required x.time x.m then finishTask n (failAuth x.port x.d x.tenant x.time x.m s)
      else
        let d := min dur (s.dom x.d).cfg.durationMax
        let r := tryGrant x kind log d s
        let t := if r.1 then r.2 else
          r.2.setDom x.d { r.2.dom x.d with grantsDenied := satInc sat32 (r.2.dom x.d).grantsDenied }
        let f := numbered (answerPtp t x 56 (.signaling (.grant kind log (if r.1 then d else 0))) false) t
        sendFrame n f.1 f.2
    | _ => s

/-- A grant of an entry ends (R282); an entry without grants is freed unless STATIC. -/
def clearGrant (i bits : Nat) (s : State) : State :=
  let e := s.entry i
  let g := e.grants - (e.grants &&& bits)
  if g = 0 ∧ !e.isStatic then freeEntry i s else writeEntry i { e with grants := g } s

/-- CANCEL_UNICAST_TRANSMISSION (R282). -/
def cancelUnicast (n : Nat) (s : State) : State :=
  match ptpIn s n with
  | none => s
  | some x =>
    match x.m.body with
    | .signaling (.cancel kind) =>
      if !versionOk x.m then finishTask n s
      else if !authPass s x.d x.tenant x.id x.required x.time x.m then finishTask n (failAuth x.port x.d x.tenant x.time x.m s)
      else
        let f := numbered (answerPtp s x 50 (.signaling (.ackCancel kind)) false) s
        sendFrame n f.1 (match x.entry with | some i => clearGrant i (2 ^ kindBit kind) f.2 | none => f.2)
    | .signaling (.ackCancel _) => finishTask n s
    | _ => s

/-- Delay_Req messages allowed in a second: twice the granted rate (R282). -/
def delayAllowed (log : Int) : Nat := if 0 < log then 2 / 2 ^ log.toNat else 2 * 2 ^ (-log).toNat

/-- A client's Delay_Req in its second (R282): admitted or not, and the entry's count. -/
def delayCount (e : Entry) (sec : Nat) : Bool × Entry :=
  let n := if e.delaySecond = sec then e.delayCount else 0
  if n < delayAllowed e.delayLog then (true, { e with delaySecond := sec, delayCount := n + 1 })
  else (false, { e with delaySecond := sec, delayCount := n })

/-- A Delay_Resp (R278, R286, R295); a receiveTimestamp that R39 does not serve gives none. -/
def delayResp (n : Nat) (x : PtpIn) (s : State) : State :=
  if !servable x.time then finishTask n s else
  let a := sampleDom x.d s
  let hasBound := bit (s.dom x.d).cfg.flags 2 || x.entry.any (fun i => (s.entry i).boundTlv)
  let group := isGroup s x.port x.frame
  let f := answerPtp a.2 x 54 (.delayResp x.m.seq) hasBound
  let verified := x.m.auth.isSome && (authOn s x.d || x.required)
  sendFrame n { f with
    grant := if group then none else some (x.key, .delayResp)
    head := { f.head with log := if group then (s.dom x.d).cfg.mcastDelay else 127 }
    fields := { f.fields with
      time := x.time, correction := x.m.correction + ((ptpTime x.time).2.2 : Nat), bound := x.bound
      tlvFlags := tlvFlagsAt a.2 x.time false }
    wants := if a.1 then some (evOf a.2 1 x.d x.port x.tenant x.id (some x.time) x.bound verified x.m.seq) else none } a.2

/-- DELAY_REQ (R282). -/
def delayReq (n : Nat) (s : State) : State :=
  match ptpIn s n with
  | none => s
  | some x =>
    match x.m.body with
    | .delayReq =>
      let pr := s.prof x.port
      if !versionOk x.m then finishTask n s
      else if !authPass s x.d x.tenant x.id x.required x.time x.m then finishTask n (failAuth x.port x.d x.tenant x.time x.m s)
      else if isGroup s x.port x.frame then
        if bit (s.dom x.d).cfg.flags 4 then delayResp n x s
        else finishTask n (s.setProf x.port { pr with noGrant := satInc sat32 pr.noGrant })
      else
        match x.entry.filter (fun i => bit (s.entry i).grants 2 && !reached (ftSec x.time) (s.entry i).expiry) with
        | none => finishTask n (s.setProf x.port { pr with noGrant := satInc sat32 pr.noGrant })
        | some i =>
          let r := delayCount (s.entry i) (ftSec x.time)
          let t := s.setEntry i r.2
          if r.1 then delayResp n x t
          else finishTask n (t.setProf x.port { pr with rateDropped := satInc sat32 pr.rateDropped })
    | _ => s

/-- ANNOUNCE_RECEIVED (R278): an Announce on an outbound domain is discarded and counted; a message the domain has no use
for is discarded (R277). -/
def announceReceived (n : Nat) (s : State) : State :=
  match ptpIn s n with
  | none => s
  | some x =>
    match x.m.body with
    | .announce _ =>
      if authPass s x.d x.tenant x.id x.required x.time x.m then
        finishTask n (s.setDom x.d { s.dom x.d with announceIgnored := satInc sat32 (s.dom x.d).announceIgnored })
      else finishTask n (failAuth x.port x.d x.tenant x.time x.m s)
    | .delayReq => s
    | .signaling (.request _ _ _) => s
    | .signaling (.cancel _) => s
    | .signaling (.ackCancel _) => s
    | _ => finishTask n s

/-- GRANT_EXPIRY (R282). -/
def grantExpiry (i : Nat) (s : State) : State :=
  let e := s.entry i
  if e.valid ∧ e.grants ≠ 0 ∧ reached (ftSec (replicaTime s 0)) e.expiry then clearGrant i 7 s else s

/-- 2^log seconds in ns. -/
def logNs (log : Int) : Nat := if 0 ≤ log then 1000000000 * 2 ^ log.toNat else 1000000000 / 2 ^ (-log).toNat

/-- The granted interval of a message kind of an entry. -/
def entryLog (e : Entry) : GrantKind → Int
  | .announce => e.annLog
  | .sync => e.syncLog
  | .delayResp => e.delayLog

/-- The interval of a multicast message (R302), of an upstream Delay_Req (R307). -/
def multicastLog (s : State) (d : Nat) (kind : GrantKind) : Int :=
  if d < 8 then
    match kind with
    | .announce => (s.dom d).cfg.mcastAnn
    | .sync => (s.dom d).cfg.mcastSync
    | .delayResp => (s.dom d).cfg.mcastDelay
  else (s.upD (d - 9)).cfg.delayLog

/-- The entry of a key whose grant is to be served now (R281, R282). -/
def grantLive (s : State) (k : GKey) (kind : GrantKind) : Option Nat :=
  (findEntry s k).filter (fun i =>
    bit (s.entry i).grants (kindBit kind) && !reached (ftSec (replicaTime s 0)) (s.entry i).expiry && domOn s k.domain k.port)

/-- A message of the transmit scheduler is wanted, with its interval and its flow key (R309, R310). -/
def schedWant (s : State) : SchedKey → Option (Int × List Byte)
  | .unicast k kind =>
    if kind = .delayResp then none else (grantLive s k kind).map (fun i => (entryLog (s.entry i) kind, flowEntry k))
  | .multicast d p kind =>
    if d < 8 then
      if kind ≠ .delayResp ∧ domOn s d p ∧ bit (s.dom d).cfg.flags 4 then some (multicastLog s d kind, flowMulticast d p) else none
    else if d ≤ 10 ∧ kind = .delayResp ∧ upOn s (d - 9) ∧ (s.upD (d - 9)).cfg.port = p ∧ (s.upD (d - 9)).chosen.isSome then
      some (multicastLog s d kind, flowUpstream d)
    else none
  | .followUp _ => none

/-- A message falls due (R309): its interval after its last due instant, at once when it has none. -/
def schedDue (key : SchedKey) (s : State) : State :=
  match schedWant s key with
  | none => s
  | some (log, flow) =>
    let last := (s.eng.sched.find? (fun e => decide (e.1 = key))).map (·.2)
    if last.any (fun t => decide (s.now < t + logNs log)) then s
    else pushInput ⟨.sched key, bucketOf s flow⟩
      { s with eng := { s.eng with sched := s.eng.sched.filter (fun e => decide (e.1 ≠ key)) ++ [(key, s.now)] } }

/-- The MAC address a message the module originates goes to (R276). -/
def originMac (s : State) (p d transport address : Nat) : Nat :=
  if transport ≠ 0 then (if d < 8 then (s.prof p).cfg.nextHop else (s.upD (d - 9)).cfg.nextHop)
  else if address = 0 then ptpGroupMac (altMcast s d) else address

/-- A Sync or Announce of an outbound domain (R278, R285, R286, R309): to an entry's client, or to the group. -/
def domMessage (s : State) (p d transport : Nat) (e : Option Nat) (kind : GrantKind) (m : TxMsg) (len : Nat) : TxFrame :=
  let en := (e.map s.entry).getD {}
  let address := if e.isSome then en.key.address else 0
  let oneStep := isOneStep m
  let hasBound := oneStep && (bit (s.dom d).cfg.flags 2 || en.boundTlv)
  let f := ptpFrame s p d transport (originMac s p d transport address) address len m hasBound
    (algOf s d en.authRequired) (if e.isSome then en.tenant else (s.dom d).cfg.tenant) ⟨address, p, numberOf s d⟩
  { f with
    own := oneStep, entry := e.map (fun _ => en.key), grant := e.map (fun _ => (en.key, kind))
    head := { f.head with log :=
      if e.isNone then multicastLog s d kind else if kind = .announce then en.annLog else 127 } }

/-- The record that a Sync or Follow_Up of a RECORD_SYNC domain asks for (R295). -/
def syncRecord (s : State) (f : TxFrame) (exchange seq : Nat) (t : Option FieldTime) (b : Bound) : Option EvData × State :=
  if bit (s.dom f.svcDomain).cfg.flags 3 then
    let r := sampleDom f.svcDomain s
    (if r.1 then some (evOf r.2 exchange f.svcDomain f.port f.tenant (clientId f.key f.transport) t b (decide (f.alg ≠ 0)) seq)
     else none, r.2)
  else (none, s)

/-- Send a Sync (R277, R286, R287, R295). -/
def sendSync (n p d transport : Nat) (e : Option Nat) (seq : Nat) (s : State) : State :=
  let oneStep := bit (s.dom d).cfg.flags 1
  let f := domMessage s p d transport e .sync (.sync seq oneStep) 44
  if oneStep then
    let r := syncRecord s f 2 seq none f.fields.bound
    sendFrame n { f with wants := r.1 } r.2
  else sendFrame n f s

/-- The transport a domain's multicast messages use (R302): its lowest. -/
def firstTransport (t : Nat) : Nat := if bit t 0 then 0 else if bit t 1 then 1 else 2

/-- Send a scheduled message to the client of a key (R280, R309, R310). -/
def sendUnicast (n : Nat) (key : GKey) (kind : GrantKind) (s : State) : State :=
  match grantLive s key kind with
  | none => finishTask n s
  | some i =>
    let e := s.entry i
    match kind with
    | .sync =>
      sendSync n e.key.port e.key.domain e.transport (some i) e.syncSeq
        (s.setEntry i { e with syncSeq := (e.syncSeq + 1) % 65536, gen := s.kcp.g })
    | .announce =>
      let t := s.setEntry i { e with annSeq := (e.annSeq + 1) % 65536, gen := s.kcp.g }
      sendFrame n (domMessage t e.key.port e.key.domain e.transport (some i) .announce (.announce e.annSeq) 64) t
    | .delayResp => finishTask n s

/-- Send a scheduled multicast message (R309), or the Delay_Req of an upstream domain (R297). -/
def sendMulticast (n d p : Nat) (kind : GrantKind) (s : State) : State :=
  if (schedWant s (.multicast d p kind)).isNone then finishTask n s
  else if 9 ≤ d then
    let u := s.upD (d - 9)
    let a := u.chosen.map (fun c => u.cfg.masters.getD c 0)
    let address := if bit u.cfg.flags 1 then a.getD 0 else 0
    let own := if address = 0 then 0 else ownAddress s p u.cfg.transport
    let f := ptpFrame s p d u.cfg.transport (originMac s p d u.cfg.transport address) address 44 (.delayReq u.delayReqSeq) false
      (algOf s d false) u.cfg.tenant ⟨own, p, u.cfg.domain⟩
    sendFrame n f (s.setUpD (d - 9) { u with delayReqSeq := (u.delayReqSeq + 1) % 65536 })
  else
    let tr := firstTransport (s.dom d).cfg.transport
    let x := s.dom d
    match kind with
    | .sync =>
      let q := tget 0 x.mcastSyncSeq p
      sendSync n p d tr none q (s.setDom d { x with mcastSyncSeq := tset 0 x.mcastSyncSeq p ((q + 1) % 65536) })
    | .announce =>
      let q := tget 0 x.mcastAnnSeq p
      let t := s.setDom d { x with mcastAnnSeq := tset 0 x.mcastAnnSeq p ((q + 1) % 65536) }
      sendFrame n (domMessage t p d tr none .announce (.announce q) 64) t
    | .delayResp => finishTask n s

/-- Send the Follow_Up of a Sync (R286, R295): preciseOriginTimestamp is the Sync's captured instant, if R39 serves it. -/
def sendFollowUp (n : Nat) (y : TxFrame) (s : State) : State :=
  let seq := (syncSeqOf y.msg).getD 0
  let en := ((y.entry.bind (findEntry s)).map s.entry).getD {}
  let hasBound := bit (s.dom y.svcDomain).cfg.flags 2 || en.boundTlv
  if !domOn s y.svcDomain y.port || !servable y.fields.time then finishTask n s
  else
    let dest := (y.entry.map (·.address)).getD 0
    let f := ptpFrame s y.port y.svcDomain y.transport y.dstMac dest 44 (.followUp seq) hasBound y.alg y.tenant y.key
    let r := syncRecord s f 3 seq (some y.fields.time) y.fields.bound
    sendFrame n { f with
      wants := r.1, grant := y.grant, head := { f.head with log := y.head.log }
      fields := { f.fields with
        time := y.fields.time, correction := ((ptpTime y.fields.time).2.2 : Nat), bound := y.fields.bound
        tlvFlags := tlvFlagsAt s y.fields.time false } } r.2

/-- CANCEL_UNICAST_TRANSMISSION for each grant of an entry among `bits` (R282, R304). -/
def cancelGrants (bits : Nat) (s : State) (i : Nat) : State :=
  let e := s.entry i
  let d := e.key.domain
  [GrantKind.announce, .sync, .delayResp].foldl (fun t kind =>
    if bit (e.grants &&& bits) (kindBit kind) then
      let f := numbered (ptpFrame t e.key.port d e.transport (originMac t e.key.port d e.transport e.key.address) e.key.address 50
        (.signaling (.cancel kind)) false (algOf t d e.authRequired) e.tenant ⟨e.key.address, e.key.port, numberOf t d⟩) t
      match signFrame f.1 f.2 with
      | (some g, u) => queueFree g u
      | (none, u) => countAuthFail e.key.port d u
    else t) s

/-- Entries of an outbound domain, by index. -/
def domEntries (s : State) (d : Nat) : List Nat :=
  (s.svc.granary.filter (fun e => e.2.valid && e.2.key.domain == d)).map (·.1)

/-- Entries that SVC_CLIENT_REMOVE names (R304). -/
def removeList (s : State) (mode : Nat) (k : GKey) (tenant : Nat) : List Nat :=
  match mode with
  | 0 => (findEntry s k).toList
  | 1 => (s.svc.granary.filter (fun e => e.2.valid && e.2.tenant == tenant)).map (·.1)
  | _ => domEntries s k.domain

/-- SVC_CLIENT_ADD's task (R283, R303): the entry is inserted, or what the command replaces of the one that exists. -/
def addClient (id : Nat) (e : Entry) (s : State) : State :=
  if !bit (s.dom e.key.domain).cfg.flags 0 then answerHeld id (fun _ t => err t stSTATE) s
  else match findEntry s e.key with
    | some i =>
      answerHeld id (fun _ t => ok t (le 4 i)) (writeEntry i { s.entry i with
        tenant := e.tenant, authRequired := e.authRequired, boundTlv := e.boundTlv, isStatic := e.isStatic } s)
    | none => match insertEntry e s with
      | (some i, t) => answerHeld id (fun _ u => ok u (le 4 i)) t
      | (none, t) => answerHeld id (fun _ u => err u stNORES) t

/-- A task of SVC_CLIENT_REMOVE (R283, R304): the matching entries of its bucket are removed; the command's last task answers it. -/
def removeClients (id mode : Nat) (k : GKey) (tenant bucket : Nat) (s : State) : State :=
  let l := (removeList s mode k tenant).filter (fun i => decide (bucketOf s (flowEntry (s.entry i).key) = bucket))
  let t := l.foldl (fun t i => freeEntry i (cancelGrants 7 t i)) s
  match t.svc.removals.find? (fun x => decide (x.id = id)) with
  | none => t
  | some x =>
    let rest := t.svc.removals.filter (fun y => decide (y.id ≠ id))
    let n := x.removed + l.length
    if x.left ≤ 1 then answerHeld id (fun _ u => ok u (le 4 n)) { t with svc := { t.svc with removals := rest } }
    else { t with svc := { t.svc with removals := rest ++ [⟨id, x.left - 1, n⟩] } }

/-- A task of a command (R283, R309); a command that has been answered meanwhile changes nothing (R489). -/
def runClientCmd (id : Nat) (c : ClientCmd) (bucket : Nat) (s : State) : State :=
  if !s.kcp.slots.any (fun x => decide (x.id = id)) then s
  else match c with
    | .add e => addClient id e s
    | .remove mode k tenant => removeClients id mode k tenant bucket s

/-- SCHEDULED_MESSAGE (R283, R309): a message falls due, or a scheduled message's or a command's task runs. -/
def scheduledMessage (w : Sched) (s : State) : State :=
  match w with
  | .unicast i kind => if (s.entry i).valid then schedDue (.unicast (s.entry i).key kind) s else s
  | .multicast d p kind => schedDue (.multicast d p kind) s
  | .run n =>
    match taskOf s n with
    | none => s
    | some k =>
      match k.msg with
      | .sched (.unicast key kind) => sendUnicast n key kind s
      | .sched (.multicast d p kind) => sendMulticast n d p kind s
      | .sched (.followUp f) => sendFollowUp n f s
      | .cmd id c => finishTask n (runClientCmd id c k.bucket s)
      | .rx _ _ _ _ _ => s

/-- The NTP or NTS request of a thread's task: port, receive timestamp and bound, IP version, source, frame, request. -/
def ntpIn (s : State) (n : Nat) : Option (Nat × FieldTime × Bound × Bool × Nat × RxFrame × NtpMsg) :=
  match (taskOf s n).bind rxOf with
  | some (p, _, t, b, f) =>
    match f.body with
    | .ntpUdp v6 src _ _ m => some (p, t, b, v6, src, f, m)
    | _ => none
  | none => none

/-- A mode 4 response's fields (R41 to R43, R291). -/
def ntpFields (s : State) (p : Nat) (rx : FieldTime) (m : NtpMsg) : TxFields :=
  ntpReference s { serveFields s (portBound s p) with
    poll := max m.poll s.svc.limits.minPoll, rxTime := rx, rx64 := ntpWord s rx }

/-- An NTP frame that answers another (R276, R290): `n` bytes of message, from the address that was asked to the source address and
port. -/
def ntpFrame (s : State) (p : Nat) (f : RxFrame) (n : Nat) (m : TxMsg) : TxFrame :=
  let q : Bool × Nat × Nat × Nat := match f.body with | .ntpUdp v6 src dst sport _ => (v6, src, dst, sport) | _ => (false, 0, 0, 0)
  let tr := if q.1 then 2 else 1
  { port := p, msg := m, svcDomain := 8, queue := (tagOf s p 8).pcp, bytes := frameLen s p 8 tr n, transport := tr, dstMac := f.src
    head := { netHead s p 8 tr 0 with srcIp := q.2.2.1, dstIp := q.2.1, dport := q.2.2.2 } }

/-- The client identity of an NTP or NTS exchange (R360). -/
def ntpClient (v6 : Bool) (src : Nat) : List Byte := be 16 (ipAddress v6 src) ++ be 1 0 ++ be 1 (if v6 then 2 else 1)

/-- A request that found no token is counted (R294). -/
def countRateDrop (p : Nat) (s : State) : State :=
  s.setProf p { s.prof p with rateDropped := satInc sat32 (s.prof p).rateDropped }

/-- A request the module answers: version 3 or 4, mode 3, without a symmetric-key MAC (R290). -/
def ntpOk (m : NtpMsg) : Bool := (decide (m.version = 3) || decide (m.version = 4)) && decide (m.mode = 3) && !m.mac

/-- A RATE kiss, at most once per bucket per second (R294). -/
def rateKiss (n p : Nat) (v6 : Bool) (src : Nat) (f : RxFrame) (m : NtpMsg) (s : State) : State :=
  let i := bucketIdx s v6 src
  let b : Bucket := tget {} s.svc.buckets i
  if s.svc.limits.kodMode = 1 ∧ b.kodAt.all (fun t => decide (t + 1000000000 ≤ s.now)) then
    let k := ntpFrame s p f 48 (.ntp m true)
    sendFrame n { k with fields := { leap := 3, stratum := 0, refId := refIdOf "RATE" } } (s.setBucket i { b with kodAt := some s.now })
  else finishTask n (countRateDrop p s)

/-- NTP_REQUEST (R290, R291, R294, R295). -/
def ntpRequest (n : Nat) (s : State) : State :=
  match ntpIn s n with
  | none => s
  | some (p, t, b, v6, src, f, m) =>
    if m.nts then s
    else if !ntpOk m then finishTask n s
    else
      let a := takeToken false v6 src s
      if !a.1 then rateKiss n p v6 src f m a.2
      else
        let c := sampleNtp p a.2
        let k := ntpFrame c.2 p f 48 (.ntp m false)
        sendFrame n { k with
          own := true, fields := ntpFields c.2 p t m
          wants := if c.1 then some (evOf c.2 4 8 p (s.prof p).cfg.tenant (ntpClient v6 src) (some t) b false 0) else none } c.2

/-- A cookie is of the form, and names a slot in ACCEPT or CURRENT with its GENERATION (R292, R293, R343). -/
def cookieNamed (s : State) (c : List Byte) : Bool :=
  let k := keySlot s 3 (rdBe c 0 4 % 16)
  decide (c.length = 104) && k.valid && decide (k.role ≠ 0) && decide (k.indexGen = rdBe c 0 4 / 16)

/-- The mask of an NTS master refuses it to the cookie unit (R340). -/
def masterDenied (s : State) (slot : Nat) : Bool := !bit (keySlot s 3 slot).recipients 3

/-- What a cookie holds (R292): TENANT, C2S, S2C; none when it is not of the form, its master is not held, or it does not
decrypt. -/
def openCookie (s : State) (c : List Byte) : Option (Nat × List Byte × List Byte) :=
  let id := rdBe c 0 4
  let k := keySlot s 3 (id % 16)
  if !cookieNamed s c || !bit k.recipients 3 then none
  else
    match sivOpen k.shares.open_ [c.take 4, (c.drop 4).take 16] ((c.drop 20).take 16) (c.drop 36) with
    | some x => if x.length = 68 ∧ rdBe x 0 2 = 15 then some (rdBe x 2 2, (x.drop 4).take 32, x.drop 36) else none
    | none => none

/-- One new cookie under a master slot (R292, R293). -/
def newCookie (slot tenant : Nat) (c2s s2c : List Byte) (s : State) : List Byte × State :=
  let k := keySlot s 3 slot
  let n := drawRandom 16 s
  let id := be 4 (k.indexGen * 16 + slot)
  let c := sivSeal k.shares.open_ [id, n.1] (be 2 15 ++ be 2 tenant ++ fit 32 c2s ++ fit 32 s2c)
  (id ++ n.1 ++ c.1 ++ c.2, n.2)

/-- `n` new cookies. -/
def newCookies (n slot tenant : Nat) (c2s s2c : List Byte) (s : State) : List (List Byte) × State :=
  (List.range n).foldl (fun a _ => let r := newCookie slot tenant c2s s2c a.2; (a.1 ++ [r.1], r.2)) ([], s)

/-- Bytes of an NTS response with `n` cookies (RFC 8915): header, Unique Identifier, Authenticator. -/
def ntsLen (uid : List Byte) (n : Nat) : Nat := 48 + 4 + divUp uid.length 4 * 4 + 8 + 16 + 16 + 108 * n

/-- How many cookies fit: 1 plus the placeholders, at most 8, no longer than the request (R293). -/
def cookieCount (m : NtpMsg) (uid : List Byte) : Nat :=
  (((List.range 9).reverse.map id).find? (fun n => decide (n ≤ min 8 (1 + m.placeholders)) && decide (ntsLen uid n ≤ m.length))).getD 0

/-- An NTS NAK (R293). -/
def ntsNak (n p : Nat) (f : RxFrame) (m : NtpMsg) (uid : List Byte) (s : State) : State :=
  let k := ntpFrame s p f (48 + 4 + divUp uid.length 4 * 4) (.ntsNak m uid)
  sendFrame n { k with fields := { leap := 3, stratum := 0, refId := refIdOf "NTSN" } } s

/-- The authenticator of a request verifies under C2S (R293). -/
def ntsAuthOk (a : NtsAuth) (c2s : List Byte) : Bool :=
  decide (a.nonce.length = 16) && (sivOpen c2s [a.ad, a.nonce] a.siv a.ciphertext).isSome

/-- The response to a verified NTS request (R293, R343, R344). -/
def ntsRespond (n p : Nat) (rx : FieldTime) (b : Bound) (v6 : Bool) (src : Nat) (f : RxFrame) (m : NtpMsg) (uid : List Byte)
    (k : Nat × List Byte × List Byte) (slot : Option (Nat × Nat)) (s : State) : State :=
  if s.key.rngFault then finishTask n (countNotSent s)
  else
    let c := sampleNtp p s
    let r := match slot with
      | some (i, g) =>
        if !(keySlot c.2 3 i).valid || decide ((keySlot c.2 3 i).indexGen ≠ g) then ([], c.2)
        else if masterDenied c.2 i then ([], countDenied c.2)
        else newCookies (cookieCount m uid) i k.1 k.2.1 k.2.2 c.2
      | none => ([], c.2)
    let g := ntpFrame r.2 p f (ntsLen uid r.1.length) (.nts m r.1.length)
    sendFrame n { g with
      own := true, s2c := k.2.2, fields := { ntpFields r.2 p rx m with cookies := r.1 }
      wants := if c.1 then some (evOf r.2 5 8 p k.1 (ntpClient v6 src) (some rx) b true 0) else none } r.2

/-- NTS_REQUEST (R293). -/
def ntsRequest (n : Nat) (s : State) : State :=
  match ntpIn s n with
  | none => s
  | some (p, t, b, v6, src, f, m) =>
    if !m.nts then s
    else if !ntpOk m || !bit (s.prof p).cfg.flags 2 then finishTask n s
    else
      let a := takeToken false v6 src s
      let slot := ((s.thread n).task.bind (·.ntsSlot))
      if !a.1 then finishTask n (countRateDrop p a.2)
      else match m.uniqueIds, m.cookies, m.auth with
        | [uid], [cookie], some au =>
          if uid.length < 32 ∨ !au.last then
            finishTask n (a.2.setProf p { a.2.prof p with malformed := satInc sat32 (a.2.prof p).malformed })
          else match openCookie a.2 cookie with
            | none => ntsNak n p f m uid (if cookieNamed a.2 cookie && masterDenied a.2 (rdBe cookie 0 4 % 16) then countDenied a.2 else a.2)
            | some k => if ntsAuthOk au k.2.1 then ntsRespond n p t b v6 src f m uid k slot (countHandled a.2) else ntsNak n p f m uid a.2
        | _, _, _ => finishTask n (a.2.setProf p { a.2.prof p with malformed := satInc sat32 (a.2.prof p).malformed })

/-- RECORD_CREATE (R295). -/
def execRecordCreate (thread : Nat) (s : State) : Out := guardUnit (thread < numThreads) s (done s (recordCreate thread s))
/-- ARP_REQUEST (R276). -/
def execArpRequest (thread : Nat) (s : State) : Out := guardUnit (thread < numThreads) s (done s (arpRequest thread s))
/-- REQUEST_UNICAST_TRANSMISSION (R281). -/
def execRequestUnicastTransmission (thread : Nat) (s : State) : Out :=
  guardUnit (thread < numThreads) s (done s (requestUnicast thread (noteVerified 1 thread s)))
/-- CANCEL_UNICAST_TRANSMISSION (R282). -/
def execCancelUnicastTransmission (thread : Nat) (s : State) : Out :=
  guardUnit (thread < numThreads) s (done s (cancelUnicast thread (noteVerified 2 thread s)))
/-- DELAY_REQ (R282). -/
def execDelayReq (thread : Nat) (s : State) : Out := guardUnit (thread < numThreads) s (done s (delayReq thread (noteVerified 3 thread s)))
/-- ANNOUNCE_RECEIVED (R278). -/
def execAnnounceReceived (thread : Nat) (s : State) : Out := guardUnit (thread < numThreads) s (done s (announceReceived thread (noteVerified 4 thread s)))
/-- GRANT_EXPIRY (R282). -/
def execGrantExpiry (entry : Nat) (s : State) : Out := guardUnit (entry < 1048576) s (done s (grantExpiry entry s))
/-- SCHEDULED_MESSAGE (R309). -/
def execScheduledMessage (what : Sched) (s : State) : Out := doneHeld s (scheduledMessage what s)
/-- NTP_REQUEST (R291). -/
def execNtpRequest (thread : Nat) (s : State) : Out := guardUnit (thread < numThreads) s (done s (ntpRequest thread s))
/-- NTS_REQUEST (R293). -/
def execNtsRequest (thread : Nat) (s : State) : Out := guardUnit (thread < numThreads) s (done s (ntsRequest thread s))

end Sys2Proof.Machine
end

