-- ==== Sys2Proof/Machine/Upstream.lean ====
section
/-! DEFINITION. Upstream PTP domains A and B: candidates, exchanges, grants (R296 to R298). -/

namespace Sys2Proof.Machine
open Sys2Proof

/-- Candidate `c` of an upstream domain. -/
def Up.cand (u : Up) (c : Nat) : Candidate := tget {} u.cands c
/-- Replace a candidate. -/
def Up.setCand (u : Up) (c : Nat) (x : Candidate) : Up := { u with cands := tset {} u.cands c x }

/-- A candidate's Announce is current: received within three announce intervals (R296). -/
def annCurrent (now : Nat) (x : Candidate) : Bool :=
  match x.announce with
  | some a => decide (now < x.annAt + 3 * logNs a.logInterval)
  | none => false

/-- The first field in which two datasets differ decides (R296); equal ones are not better. -/
def lexBetter : List Nat → List Nat → Bool
  | a :: s, b :: t => if a < b then true else if b < a then false else lexBetter s t
  | _, _ => false

/-- The dataset that a profile compares (R296): the default profile's order, or the alternate BMCA's with LOCAL_PRIO. -/
def dataset (profile : Nat) (a : Announce) (prio : Nat) : List Nat :=
  if profile = 0 then
    [a.priority1, a.clockClass, a.accuracy, a.variance, a.priority2, a.gmIdentity, a.stepsRemoved]
  else
    [a.clockClass, a.accuracy, a.variance, a.priority2, prio, a.gmIdentity, a.stepsRemoved]

/-- The best candidate whose Announce is current (R296); equal ones: the lower index. -/
def bestOf (now : Nat) (u : Up) : Option Nat :=
  ([0, 1, 2, 3].filterMap (fun c =>
    if annCurrent now (u.cand c) then (u.cand c).announce.map (fun a => (c, dataset u.cfg.profile a (u.cfg.prio.getD c 0))) else none)).foldl
    (fun (b : Option (Nat × List Nat)) x => match b with
      | none => some x
      | some y => if lexBetter x.2 y.2 then some x else some y) none |>.map (·.1)

/-- The chosen master follows the Announces (R296). -/
def choose (i : Nat) (s : State) : State :=
  let u := s.upD i
  let b := bestOf s.now u
  if b = u.chosen then s
  else s.setUpD i { u with
    chosen := b, pendingSync := none, lastSync := none, lastDelay := none, delayReqOut := none
    masterChanges := if u.chosen.isSome ∧ b.isSome then satInc sat32 u.masterChanges else u.masterChanges }

/-- The message of a thread's task on an upstream domain: domain, port, receive timestamp and bound, frame, message. -/
def upIn (s : State) (n : Nat) : Option (Nat × Nat × FieldTime × Bound × RxFrame × PtpMsg) :=
  match (taskOf s n).bind rxOf with
  | some (p, d, t, b, f) => if 9 ≤ d then (ptpOf f).map (fun m => (d - 9, p, t, b, f, m)) else none
  | none => none

/-- The candidate that sent a message (R296): by its address with UNICAST, else by its clockIdentity. -/
def candOf (u : Up) (f : RxFrame) (m : PtpMsg) : Option Nat :=
  if bit u.cfg.flags 1 then
    [0, 1, 2, 3].find? (fun c => decide (u.cfg.masters.getD c 0 = (senderOf f).1) && decide (u.cfg.prio.getD c 0 ≠ 0))
  else [0, 1, 2, 3].find? (fun c => (u.cand c).announce.isSome && decide ((u.cand c).clock = m.clock))

/-- A candidate place for a master heard in multicast: its own, else the first without a current Announce. -/
def candPlace (now : Nat) (u : Up) (f : RxFrame) (m : PtpMsg) : Option Nat :=
  match candOf u f m with
  | some c => some c
  | none => if bit u.cfg.flags 1 then none else [0, 1, 2, 3].find? (fun c => !annCurrent now (u.cand c))

/-- A message of an upstream domain passes authentication (R284); the requester of a unicast exchange is the module (R285). -/
def upAuth (s : State) (i p : Nat) (f : RxFrame) (at_ : FieldTime) (m : PtpMsg) : Bool :=
  let tr := (senderOf f).2
  let address := if isGroup s p f then 0 else ownAddress s p tr
  authPass s (9 + i) (s.upD i).cfg.tenant (clientId ⟨address, p, m.domain⟩ tr) false at_ m

/-- A message of an upstream domain fails authentication (R284, R340). -/
def upFail (i p : Nat) (at_ : FieldTime) (m : PtpMsg) (s : State) : State := failAuth p (9 + i) (s.upD i).cfg.tenant at_ m s

/-- A message of an upstream domain that is verified counts (R536). -/
def noteUpVerified (kinds : Nat → Bool) (n : Nat) (s : State) : State :=
  match upIn s n with
  | some (i, p, at_, _, f, m) =>
    if kinds (bodyKind m) ∧ versionOk m ∧ upOn s i ∧ m.auth.isSome ∧ (authCfg s (9 + i)).1 ≠ 0 ∧ upAuth s i p f at_ m then
      countHandled s else s
  | none => s

/-- What the chosen master's Announce says of UTC goes with the domain's events to ToD source 0x09 or 0x0A (R18, R127,
R298). -/
def announcedTod (u : Up) (sec : Nat) : Option TodFields :=
  (u.chosen.bind (fun c => (u.cand c).announce)).map (fun a => todFlags sec a.utcOffset a.utcValid a.leap61 a.leap59)

/-- UPSTREAM_ANNOUNCE (R296, R298). -/
def upstreamAnnounce (n : Nat) (s : State) : State :=
  match upIn s n with
  | none => s
  | some (i, p, at_, _, f, m) =>
    match m.body with
    | .announce a =>
      if !versionOk m || !upOn s i then finishTask n s
      else if !upAuth s i p f at_ m then finishTask n (upFail i p at_ m s)
      else match candPlace s.now (s.upD i) f m with
        | none => finishTask n s
        | some c =>
          let u := s.upD i
          let t := choose i (s.setUpD i (u.setCand c { u.cand c with clock := m.clock, announce := some a, annAt := s.now }))
          finishTask n t
    | _ => s

/-- ANNOUNCE_TIMEOUT (R296). -/
def announceTimeout (i c : Nat) (s : State) : State :=
  let u := s.upD i
  let x := u.cand c
  if x.announce.isSome ∧ !annCurrent s.now x then choose i (s.setUpD i (u.setCand c { x with announce := none })) else s

/-- The upstream bound of an event (R298); 0 is none. -/
def eventBound (u : Up) (a b : Option Nat) : Bound :=
  let cls := (u.chosen.bind (fun c => (u.cand c).announce)).map (·.clockClass)
  if cls.any (fun k => decide (u.cfg.maxClass < k)) then unbounded
  else match a, b with
    | some x, some y => maxB x y
    | _, _ => 0

/-- A completed Sync pairs with the latest Delay_Req exchange: one event of the slot (R297). The phase is half the difference
of t2 − t1 and t4 − t3, less LINK_ASYM. -/
def upEvent (i p : Nat) (t2 : FieldTime) (ms : Int) (tlv : Option Nat) (s : State) : State :=
  let u := s.upD i
  let a := s.setUpD i { u with lastSync := some (ms, tlv), pendingSync := none }
  match u.lastDelay with
  | none => a
  | some (sm, tlv2, at_) =>
    if at_ + 4 * logNs u.cfg.delayLog < s.now then a
    else
      let ub := eventBound u tlv tlv2
      let carried := (tlv.isSome && tlv2.isSome) || decide (ub = unbounded)
      let phase := satI (divTrunc (ms - sm) (2 ^ 17) - (s.ethP p).linkAsym)
      refEvent (9 + i)
        { at_ := t2, prov := (s.replica 0).frame.warmup, unlock := false, stale := tableStale s (s.interp (1024 + p))
          invalid := !tsGood s p false, phase := some phase, ub := ub, tod := announcedTod u (ftSec t2) }
        (a.setUpD i { a.upD i with upBound := if carried then ub else unbounded, exchanges := satInc sat32 u.exchanges })

/-- UPSTREAM_MESSAGE (R297): Sync, Follow_Up and Delay_Resp of the chosen master; other messages are discarded. -/
def upstreamMessage (n : Nat) (s : State) : State :=
  match upIn s n with
  | none => s
  | some (i, p, t2, _, f, m) =>
    let u := s.upD i
    let ours := upOn s i && versionOk m && u.chosen.isSome && decide (candOf u f m = u.chosen)
    match m.body with
    | .announce _ => s
    | .signaling _ => s
    | body =>
      if !ours then finishTask n s
      else if !upAuth s i p f t2 m then finishTask n (upFail i p t2 m s)
      else match body with
        | .sync true origin => finishTask n (upEvent i p t2 ((t2 : Int) - origin - m.correction * 2 ^ 16) m.bound s)
        | .sync false _ => finishTask n (s.setUpD i { u with pendingSync := some (m.seq, m.correction, t2, m.bound, s.now) })
        | .followUp precise =>
          match u.pendingSync with
          | some (q, c, t, b, at_) =>
            if q = m.seq ∧ s.now ≤ at_ + logNs u.cfg.syncLog then
              finishTask n (upEvent i p t ((t : Int) - precise - (c + m.correction) * 2 ^ 16)
                (match m.bound with | some x => some x | none => b) s)
            else finishTask n s
          | none => finishTask n s
        | .delayResp t4 clock =>
          match u.delayReqOut with
          | some (q, t3) =>
            if q = m.seq ∧ clock = rdBe (fit 8 Config.clockIdentity) 0 8 then
              finishTask n (s.setUpD i { u with
                delayReqOut := none, lastDelay := some ((t4 : Int) - m.correction * 2 ^ 16 - t3, m.bound, s.now) })
            else finishTask n s
          | none => finishTask n s
        | _ => finishTask n s

/-- UPSTREAM_GRANT (R296, R307): a GRANT of a candidate; a durationField of 0 denies. Other signalling is discarded. -/
def upstreamGrant (n : Nat) (s : State) : State :=
  match upIn s n with
  | none => s
  | some (i, p, at_, _, f, m) =>
    match m.body with
    | .signaling tlv =>
      if !versionOk m || !upOn s i then finishTask n s
      else if !upAuth s i p f at_ m then finishTask n (upFail i p at_ m s)
      else match tlv, candOf (s.upD i) f m with
        | .grant kind _ dur, some c =>
          let u := s.upD i
          let x := u.cand c
          if dur = 0 then
            finishTask n (s.setUpD i { u.setCand c { x with grants := clrBit x.grants (kindBit kind), denied := true } with
              grantsDenied := satInc sat32 u.grantsDenied })
          else
            finishTask n (s.setUpD i (u.setCand c { x with
              grants := setBit x.grants (kindBit kind), denied := false
              grantedAt := tset 0 x.grantedAt (kindBit kind) s.now, granted := tset 0 x.granted (kindBit kind) dur }))
        | .cancel kind, some c =>
          let u := s.upD i
          finishTask n (s.setUpD i (u.setCand c { u.cand c with grants := clrBit (u.cand c).grants (kindBit kind) }))
        | _, _ => finishTask n s
    | _ => s

/-- One REQUEST_UNICAST_TRANSMISSION to a candidate (R296). -/
def sendRequest (i c : Nat) (s : State) (kind : GrantKind) : State :=
  let u := s.upD i
  let address := u.cfg.masters.getD c 0
  let p := u.cfg.port
  let log := match kind with | .announce => u.cfg.annLog | .sync => u.cfg.syncLog | .delayResp => u.cfg.delayLog
  let f := numbered (ptpFrame s p (9 + i) u.cfg.transport (originMac s p (9 + i) u.cfg.transport address) address 54
    (.signaling (.request kind log u.cfg.duration)) false (algOf s (9 + i) false) u.cfg.tenant
    ⟨ownAddress s p u.cfg.transport, p, u.cfg.domain⟩) s
  match signFrame f.1 f.2 with
  | (some g, t) => queueFree g t
  | (none, t) => countAuthFail p (9 + i) t

/-- A grant has ended: its duration has passed (R296). -/
def grantOver (now : Nat) (x : Candidate) (k : Nat) : Bool :=
  decide (tget 0 x.grantedAt k + tget 0 x.granted k * 1000000000 ≤ now)

/-- A grant is to be asked for: it is not held, or half its duration has passed (R296). -/
def grantDue (now : Nat) (x : Candidate) (kind : GrantKind) : Bool :=
  let k := kindBit kind
  !bit x.grants k || decide (tget 0 x.grantedAt k * 2 + tget 0 x.granted k * 1000000000 ≤ now * 2)

/-- UPSTREAM_RENEWAL (R296): each grant that is not held is asked for, and each held one renewed at half its duration. -/
def upstreamRenewal (i c : Nat) (s : State) : State :=
  let u := s.upD i
  let x := u.cand c
  let due := [GrantKind.announce, .sync, .delayResp].filter (grantDue s.now x)
  if !upOn s i || !bit u.cfg.flags 1 || decide (u.cfg.prio.getD c 0 = 0) || decide (due = []) then s
  else
    let held := [0, 1, 2].foldl (fun g k => if grantOver s.now x k then clrBit g k else g) x.grants
    due.foldl (sendRequest i c) (s.setUpD i (u.setCand c { x with grants := held }))

/-- UPSTREAM_MESSAGE (R297). -/
def execUpstreamMessage (thread : Nat) (s : State) : Out := guardUnit (thread < numThreads) s (done s (upstreamMessage thread (noteUpVerified (fun k => k == 0 || k == 3) thread s)))
/-- UPSTREAM_ANNOUNCE (R296). -/
def execUpstreamAnnounce (thread : Nat) (s : State) : Out := guardUnit (thread < numThreads) s (done s (upstreamAnnounce thread (noteUpVerified (fun k => k == 4) thread s)))
/-- UPSTREAM_RENEWAL (R296). -/
def execUpstreamRenewal (up cand : Nat) (s : State) : Out := guardUnit (up < 2 ∧ cand < 4) s (done s (upstreamRenewal up cand s))
/-- ANNOUNCE_TIMEOUT (R296). -/
def execAnnounceTimeout (up cand : Nat) (s : State) : Out := guardUnit (up < 2 ∧ cand < 4) s (done s (announceTimeout up cand s))
/-- UPSTREAM_GRANT (R296). -/
def execUpstreamGrant (thread : Nat) (s : State) : Out := guardUnit (thread < numThreads) s (done s (upstreamGrant thread (noteUpVerified (fun k => k == 1 || k == 2 || k == 5) thread s)))

end Sys2Proof.Machine
end

