-- ==== Sys2Proof/Machine/SvcCmd.lean ====
section
/-! DEFINITION. The commands of group 0x09 (R300 to R307). -/

namespace Sys2Proof.Machine
open Sys2Proof

/-- A loop-back held by a port of a set forbids taking it into service (R560). -/
def loopHeld (s : State) (ports : Nat) : Bool := (List.range numEth).any (fun p => bit ports p && decide ((ethLoop s p).depth ≠ 0))

/-- A unicast MAC address in wire order at an offset: its group bit is clear. -/
def macOk (r : List Byte) (off : Nat) : Bool := !bit (rd r off 1) 0

/-- SVC_PROFILE's record (R301). -/
def profRecord (s : State) (p : Nat) : List Byte :=
  let c := (s.prof p).cfg
  le 1 p ++ le 1 c.flags ++ le 2 c.tenant ++ be 4 c.ipv4 ++ le 1 c.sampleLog ++ zeros 1 ++ be 6 c.nextHop ++ be 16 c.ipv6

/-- SVC_PROFILE's reply (R301). -/
def profReply (s : State) (p : Nat) : List Byte :=
  let x := s.prof p
  profRecord s p ++ le 4 x.ntpServed ++ le 4 x.ntsServed ++ le 4 x.ntsNak ++ le 4 x.rateDropped ++ le 4 x.kodSent ++ le 4 x.stomped ++
  le 4 x.authFail ++ le 4 x.noGrant

/-- SVC_PROFILE (R301). -/
def bodySvcProfile : Body := fun c s =>
  let r := c.req.payload
  let p := rd r 0 1
  let f := rd r 1 1
  if r.length ≠ 1 ∧ r.length ≠ 32 then badLen s
  else checked s [(0, p < numEth)]
    (if r.length = 1 then ok s (profReply s p)
     else checked s
       [(1, f < 64 ∧ (bit f 2 → bit f 1)), (2, rd r 2 2 < 4096), (4, rd r 4 1 < 224), (8, rd r 8 1 ≤ 10), zeroAt r 9 1,
        (10, macOk r 10), (16, rd r 16 1 ≠ 0xFF)]
       (if bit f 1 && !bit (s.prof p).cfg.flags 1 && loopHeld s (2 ^ p) then err s stSTATE
        else
          let t := rewriteWord 2 (16 + p) s
          let u := t.setProf p { t.prof p with
            cfg := ⟨f, rd r 2 2, rdBe r 4 4, rd r 8 1, rdBe r 10 6, rdBe r 16 16⟩ }
          ok u (profReply u p)))

/-- SVC_DOMAIN's record (R302). -/
def domRecord (s : State) (d : Nat) : List Byte :=
  let c := (s.dom d).cfg
  le 1 d ++ le 1 c.flags ++ le 1 c.profile ++ le 1 c.domain ++ le 2 c.ports ++ le 2 c.tenant ++ le 1 c.transport ++ le 1 c.priority1 ++
  le 1 c.priority2 ++ le 1 c.auth ++ le 1 c.spp ++ le 1 c.sampleLog ++ leI 1 c.mcastSync ++ leI 1 c.mcastAnn ++ leI 1 c.mcastDelay ++
  leI 1 c.minLog ++ leI 1 c.maxLog ++ zeros 1 ++ le 4 c.durationMax ++ le 4 c.maxClients ++ zeros 4

/-- SVC_DOMAIN's reply (R302). -/
def domReply (s : State) (d : Nat) : List Byte :=
  let x := s.dom d
  domRecord s d ++ le 4 (entriesOf s d) ++ le 4 x.grantsDenied ++ le 4 x.setFull ++ le 4 x.syncSent ++ le 4 x.delayRespSent ++
  le 4 x.authFail ++ le 4 x.announceIgnored ++ le 4 x.stomped

/-- The record a write asks for (R302). -/
def domParse (r : List Byte) : DomCfg :=
  { flags := rd r 1 1, profile := rd r 2 1, domain := rd r 3 1, ports := rd r 4 2, tenant := rd r 6 2, transport := rd r 8 1
    priority1 := rd r 9 1, priority2 := rd r 10 1, auth := rd r 11 1, spp := rd r 12 1, sampleLog := rd r 13 1
    mcastSync := rdI r 14 1, mcastAnn := rdI r 15 1, mcastDelay := rdI r 16 1, minLog := rdI r 17 1, maxLog := rdI r 18 1
    durationMax := rd r 20 4, maxClients := rd r 24 4 }

/-- domainNumber of a profile (R277). -/
def numberFits (profile n : Nat) : Bool :=
  match profile with | 0 => decide (n ≤ 127) | 1 => decide (24 ≤ n ∧ n ≤ 43) | _ => decide (44 ≤ n ∧ n ≤ 63)

/-- A grant duration of a profile, s (R277); G.8275.1 has none. -/
def durationFits (profile n : Nat) : Bool :=
  match profile with | 0 => decide (10 ≤ n ∧ n ≤ 1000) | 1 => true | _ => decide (60 ≤ n ∧ n ≤ 1000)

/-- AUTH: mode 0 to 2, ICV (R302). -/
def authFits (a : Nat) : Bool := decide (a < 8) && decide (a % 4 ≤ 2)

/-- The ranges of a written record (R277, R302). -/
def domChecks (r : List Byte) : List (Nat × Bool) :=
  let c := domParse r
  let pr := c.profile
  [(1, (pr ≠ 1 ∨ !bit c.flags 5) ∧ (pr ≠ 2 ∨ !bit c.flags 4) ∧ (pr = 1 ∨ !bit c.flags 7)), (2, pr ≤ 2), (3, numberFits pr c.domain), (6, c.tenant < 4096),
   (8, c.transport < 8 ∧ (pr ≠ 1 ∨ c.transport = 1) ∧ (pr ≠ 2 ∨ c.transport % 2 = 0)), (9, pr = 0 ∨ c.priority1 = 128),
   (11, authFits c.auth), (13, c.sampleLog ≤ 10), (14, logRange pr 1 c.mcastSync), (15, logRange pr 0 c.mcastAnn),
   (16, logRange pr 2 c.mcastDelay), (17, -7 ≤ c.minLog ∧ c.minLog ≤ c.maxLog),
   (18, c.maxLog ≤ (if pr = 2 then 0 else 4)), zeroAt r 19 1, (20, durationFits pr c.durationMax), (24, c.maxClients ≤ 1048576),
   zeroAt r 28 4]

/-- A domain is disabled (R282): its grants are cancelled and its entries that are not STATIC are freed. -/
def disableDom (d : Nat) (s : State) : State :=
  (domEntries s d).foldl (fun t i => clearGrant i 7 (cancelGrants 7 t i)) s

/-- SVC_DOMAIN (R282, R302, R560). -/
def bodySvcDomain : Body := fun c s =>
  let r := c.req.payload
  let d := rd r 0 1
  if r.length ≠ 1 ∧ r.length ≠ 32 then badLen s
  else checked s [(0, d < 8)]
    (if r.length = 1 then ok s (domReply s d)
     else checked s (domChecks r)
       (let o := (s.dom d).cfg
        let w := domParse r
        let keeps_ := bit o.flags 0 && bit w.flags 0
        if keeps_ && (decide (w.profile ≠ o.profile) || decide (w.domain ≠ o.domain) || decide (w.tenant ≠ o.tenant) ||
            decide (w.spp ≠ o.spp)) then err s stSTATE
        else if bit w.flags 0 && loopHeld s (w.ports - (if bit o.flags 0 then w.ports &&& o.ports else 0)) then err s stSTATE
        else
          let t := rewriteWord 2 d s
          let u := if bit o.flags 0 && !bit w.flags 0 then disableDom d t else t
          let v := u.setDom d { u.dom d with cfg := w }
          ok v (domReply v d)))

/-- An entry in the layout of R280. -/
def entryBytes280 (e : Entry) : List Byte :=
  be 16 e.key.address ++ le 1 (e.key.port * 16 + e.key.domain) ++
  le 1 (flag 0 e.valid + e.transport * 2 + flag 3 e.authRequired + flag 4 e.boundTlv + flag 5 e.isStatic) ++ le 2 e.tenant ++
  leI 1 e.syncLog ++ leI 1 e.annLog ++ leI 1 e.delayLog ++ le 1 e.grants ++ le 2 e.syncSeq ++ le 2 e.annSeq ++ le 4 e.expiry

/-- The key of ADDRESS and PORT_DOMAIN at two offsets (R280). -/
def keyAt (r : List Byte) (a pd : Nat) : GKey := ⟨rdBe r a 16, rd r pd 1 / 16, rd r pd 1 % 8⟩

/-- ADDRESS is of the encoding of a TRANSPORT (R280). -/
def addressFits (transport a : Nat) : Bool :=
  match transport with | 0 => decide (a < 2 ^ 48) | 1 => decide (a / 2 ^ 32 = 0xFFFF) | _ => true

/-- The entry that SVC_CLIENT_ADD's payload gives (R280, R303). -/
def entryParse (r : List Byte) : Entry :=
  let f := rd r 17 1
  { key := keyAt r 0 16, transport := bitsAt f 1 2, authRequired := bit f 3, boundTlv := bit f 4, isStatic := bit f 5
    tenant := rd r 18 2, syncLog := rdI r 20 1, annLog := rdI r 21 1, delayLog := rdI r 22 1 }

/-- SVC_CLIENT_ADD (R283, R303, R310): its task joins the queue of the entry's bucket. -/
def bodySvcClientAdd : Body := fun c s =>
  let r := c.req.payload
  let f := rd r 17 1
  let e := entryParse r
  if r.length ≠ 32 then badLen s
  else checked s
    [(0, addressFits e.transport e.key.address), (16, !bit (rd r 16 1) 3), (17, f < 64 ∧ bit f 0 ∧ bit f 5 ∧ e.transport ≤ 2),
     (18, e.tenant < 4096), zeroAt r 23 1, zeroAt r 24 2, zeroAt r 26 2, zeroAt r 28 4]
    (if !bit (s.dom e.key.domain).cfg.flags 0 then err s stSTATE
     else held (pushInput ⟨.cmd c.id (.add e), bucketOf s (flowEntry e.key)⟩ s))

/-- Each bucket once, with the first entry in it. -/
def firstPerBucket (s : State) : List Nat → List (Nat × GKey)
  | [] => []
  | i :: t =>
    let k := (s.entry i).key
    let b := bucketOf s (flowEntry k)
    (b, k) :: (firstPerBucket s t).filter (fun x => decide (x.1 ≠ b))

/-- SVC_CLIENT_REMOVE (R283, R304, R310): one task in the queue of the entry's bucket, or one in every bucket that holds a matching
entry; a bucket that holds none has nothing to do (DESIGN CHOICE, log entry 29). -/
def bodySvcClientRemove : Body := fun c s =>
  let r := c.req.payload
  let k := keyAt r 0 16
  let mode := rd r 17 1
  let tenant := rd r 18 2
  if r.length ≠ 20 then badLen s
  else checked s [(16, !bit (rd r 16 1) 3), (17, mode ≤ 2), (18, tenant < 4096)]
    (let l := if mode = 0 then [(bucketOf s (flowEntry k), k)] else firstPerBucket s (removeList s mode k tenant)
     if l = [] then ok s (le 4 0)
     else held (l.foldl (fun t x => pushInput ⟨.cmd c.id (.remove mode x.2 tenant), x.1⟩ t)
       { s with svc := { s.svc with removals := s.svc.removals ++ [⟨c.id, l.length, 0⟩] } }))

/-- A client record (R305). -/
def clientRecord (s : State) (i : Nat) : List Byte :=
  let e := s.entry i
  entryBytes280 e ++ le 4 i ++ le 2 e.lastTxSeq ++ le 1 (flag 0 e.committed + flag 1 e.stomped) ++ zeros 1 ++ le 8 e.gen

/-- SVC_CLIENT_QUERY (R305). -/
def bodySvcClientQuery : Body := fun c s =>
  let r := c.req.payload
  let n := rd r 2 2
  if r.length ≠ 28 then badLen s
  else checked s [(0, rd r 0 1 ≤ 1), zeroAt r 1 1]
    (if rd r 0 1 = 1 then
      checked s [(2, 1 ≤ n ∧ n ≤ 64), (4, rd r 4 4 < 1048576), zeroAt r 8 16, zeroAt r 24 4]
        (let l := (s.svc.granary.filter (fun e => e.2.valid && decide (rd r 4 4 ≤ e.1))).map (·.1)
         let out := l.take n
         ok s (le 4 (if l.length ≤ n then 0xFFFFFFFF else (l.getD n 0)) ++ out.flatMap (clientRecord s)))
     else
      checked s [zeroAt r 4 4, (24, !bit (rd r 24 1) 3), zeroAt r 25 3]
        (match findEntry s (keyAt r 8 24) with
         | some i => ok s (le 4 0xFFFFFFFF ++ clientRecord s i)
         | none => bad s 8))

/-- SVC_LIMITS' record (R306). -/
def limitsRecord (l : LimitsCfg) : List Byte :=
  le 4 l.ntpRate ++ le 4 l.ntpBurst ++ le 1 l.v4Prefix ++ le 1 l.v6Prefix ++ le 1 l.kodMode ++ le 1 l.minPoll ++ le 2 l.sigRate ++ zeros 2

/-- SVC_LIMITS (R306): every bucket is refilled under the former limits first. -/
def bodySvcLimits : Body := fun c s =>
  let r := c.req.payload
  if r.length ≠ 0 ∧ r.length ≠ 16 then badLen s
  else if r = [] then ok s (limitsRecord s.svc.limits)
  else checked s
    [(0, 1 ≤ rd r 0 4 ∧ rd r 0 4 ≤ 1024), (4, 1 ≤ rd r 4 4 ∧ rd r 4 4 ≤ 4096), (8, 16 ≤ rd r 8 1 ∧ rd r 8 1 ≤ 32),
     (9, 32 ≤ rd r 9 1 ∧ rd r 9 1 ≤ 128), (10, rd r 10 1 ≤ 1), (11, 3 ≤ rd r 11 1 ∧ rd r 11 1 ≤ 17),
     (12, 1 ≤ rd r 12 2 ∧ rd r 12 2 ≤ 256), zeroAt r 14 2]
    (let l : LimitsCfg := ⟨rd r 0 4, rd r 4 4, rd r 8 1, rd r 9 1, rd r 10 1, rd r 11 1, rd r 12 2⟩
     let b := s.svc.buckets.map (fun e => (e.1, refill s e.2))
     let t := { s with svc := { s.svc with limits := l, buckets := b } }
     ok t (limitsRecord l))

/-- UPSTREAM_CONFIG's record (R307). -/
def upRecord (i : Nat) (c : UpCfg) : List Byte :=
  le 1 i ++ le 1 c.flags ++ le 1 c.profile ++ le 1 c.domain ++ le 1 c.port ++ le 1 c.transport ++ leI 1 c.syncLog ++ leI 1 c.delayLog ++
  leI 1 c.annLog ++ le 1 c.auth ++ le 1 c.spp ++ le 1 c.maxClass ++ le 2 c.tenant ++ le 2 c.duration ++ c.masters.flatMap (be 16) ++
  c.prio.flatMap (le 1) ++ be 6 c.nextHop ++ zeros 6

/-- STATE of an upstream domain (R307). -/
def upState (s : State) (i : Nat) : Nat :=
  let u := s.upD i
  let cs := [0, 1, 2, 3].filter (fun c => decide (u.cfg.prio.getD c 0 ≠ 0))
  if !upOn s i then 0
  else if u.chosen.isSome ∧ u.lastDelay.isSome then 3
  else if bit u.cfg.flags 1 then
    (if cs ≠ [] ∧ cs.all (fun c => (u.cand c).denied) then 4 else if cs.any (fun c => decide ((u.cand c).grants = 7)) then 1 else 2)
  else 1

/-- UPSTREAM_CONFIG's reply (R307). -/
def upReply (s : State) (i : Nat) : List Byte :=
  let u := s.upD i
  let a := u.chosen.bind (fun c => (u.cand c).announce)
  upRecord i u.cfg ++ le 1 (upState s i) ++ le 1 (u.chosen.getD 0xFF) ++ le 1 ((a.map (·.clockClass)).getD 0) ++ zeros 1 ++
  be 8 ((a.map (·.gmIdentity)).getD 0) ++ le 4 u.upBound ++ le 4 u.exchanges ++ le 4 u.authFail ++ le 4 u.grantsDenied ++
  le 4 u.masterChanges

/-- The record a write asks for (R307). -/
def upParse (r : List Byte) : UpCfg :=
  { flags := rd r 1 1, profile := rd r 2 1, domain := rd r 3 1, port := rd r 4 1, transport := rd r 5 1, syncLog := rdI r 6 1
    delayLog := rdI r 7 1, annLog := rdI r 8 1, auth := rd r 9 1, spp := rd r 10 1, maxClass := rd r 11 1, tenant := rd r 12 2
    duration := rd r 14 2, masters := [0, 1, 2, 3].map (fun k => rdBe r (16 + 16 * k) 16)
    prio := [0, 1, 2, 3].map (fun k => rd r (80 + k) 1), nextHop := rdBe r 84 6 }

/-- The ranges of a written record (R277, R307). -/
def upChecks (r : List Byte) : List (Nat × Bool) :=
  let c := upParse r
  let pr := c.profile
  ([(1, c.flags < 8 ∧ (pr = 1 ∨ !bit c.flags 2)), (2, pr ≤ 2), (3, numberFits pr c.domain), (4, c.port < numEth),
   (5, c.transport ≤ 2 ∧ (pr ≠ 1 ∨ c.transport = 0) ∧ (pr ≠ 2 ∨ c.transport ≠ 0)), (6, logRange pr 1 c.syncLog),
   (7, logRange pr 2 c.delayLog), (8, logRange pr 0 c.annLog), (9, authFits c.auth), (11, 6 ≤ c.maxClass), (12, c.tenant < 4096),
   (14, durationFits pr c.duration)] : List (Nat × Bool)) ++
  [0, 1, 2, 3].map (fun k => (16 + 16 * k,
    addressFits c.transport (c.masters.getD k 0) || (decide (c.masters.getD k 0 = 0) && (decide (c.prio.getD k 0 = 0) || !bit c.flags 1)))) ++
  ([(84, macOk r 84), zeroAt r 90 6] : List (Nat × Bool))

/-- UPSTREAM_CONFIG (R307, R560). -/
def bodyUpstreamConfig : Body := fun c s =>
  let r := c.req.payload
  let i := rd r 0 1
  if r.length ≠ 1 ∧ r.length ≠ 96 then badLen s
  else checked s [(0, i ≤ 1)]
    (if r.length = 1 then ok s (upReply s i)
     else checked s (upChecks r)
       (let o := s.upD i
        let w := upParse r
        if bit w.flags 0 && (!bit o.cfg.flags 0 || decide (w.port ≠ o.cfg.port)) && loopHeld s (2 ^ w.port) then err s stSTATE
        else
          let t := rewriteWord 2 (32 + i) s
          let fresh : Up :=
            { exchanges := o.exchanges, authFail := o.authFail, grantsDenied := o.grantsDenied, masterChanges := o.masterChanges
              delayReqSeq := o.delayReqSeq }
          let u := if { w with prio := o.cfg.prio } = o.cfg then { o with cfg := w } else { fresh with cfg := w }
          let v := t.setUpD i u
          ok v (upReply v i)))

/-- SVC_PROFILE (R301). -/
def execSvcProfile (rq : Request) (s : State) : Out := kcpRow 0x0901 (leastPriv s 0x0901 rq.payload) bodySvcProfile rq s
/-- SVC_DOMAIN (R302). -/
def execSvcDomain (rq : Request) (s : State) : Out := kcpRow 0x0902 (leastPriv s 0x0902 rq.payload) bodySvcDomain rq s
/-- SVC_CLIENT_ADD (R303). -/
def execSvcClientAdd (rq : Request) (s : State) : Out := kcpRow 0x0903 (leastPriv s 0x0903 rq.payload) bodySvcClientAdd rq s
/-- SVC_CLIENT_REMOVE (R304). -/
def execSvcClientRemove (rq : Request) (s : State) : Out := kcpRow 0x0904 (leastPriv s 0x0904 rq.payload) bodySvcClientRemove rq s
/-- SVC_CLIENT_QUERY (R305). -/
def execSvcClientQuery (rq : Request) (s : State) : Out := kcpRow 0x0905 (leastPriv s 0x0905 rq.payload) bodySvcClientQuery rq s
/-- SVC_LIMITS (R306). -/
def execSvcLimits (rq : Request) (s : State) : Out := kcpRow 0x0906 (leastPriv s 0x0906 rq.payload) bodySvcLimits rq s
/-- UPSTREAM_CONFIG (R307). -/
def execUpstreamConfig (rq : Request) (s : State) : Out := kcpRow 0x0907 (leastPriv s 0x0907 rq.payload) bodyUpstreamConfig rq s

end Sys2Proof.Machine
end

