-- ==== Sys2Proof/Machine/Eng.lean ====
section
/-! DEFINITION. Sower engines: admission, waits, aborts, the stall census, activation, placement, fallowing and the
commands of group 0x0A (spec/12_sower_engines.md). -/

namespace Sys2Proof.Machine
open Sys2Proof

/-- Nanoseconds a task may take (R315). -/
def taskLimit : Nat := 4194304
/-- The longest wait (R314), ns. -/
def waitLimit : Nat := 1048576

/-- An internal event class (R313). -/
def internalCls (c : Nat) : Bool := decide (8 ≤ c)

/-- A thread is in the state the census times: no task, or in a wait on an internal class (R316). -/
def Thread.captive (t : Thread) : Bool := t.task.isNone || t.wait.any (fun w => internalCls w.cls)

/-- Begin a wait of `d` ns, 1 to 2^20, on an event class; it ends with the task at the latest (R314, R315). -/
def beginWait (now : Nat) (t : Thread) (next : Option (Nat × Nat)) : Thread :=
  match next, t.task with
  | some (cls, d), some k =>
    if cls < 10 ∧ 1 ≤ d ∧ d ≤ waitLimit then
      { t with wait := some ⟨cls, now, min (now + d) (k.admitted + taskLimit)⟩
               internalSince := if internalCls cls then now else t.internalSince }
    else t
  | _, _ => t

/-- Whether a bucket has a task in flight anywhere (R311). -/
def bucketBusy (s : State) (b : Nat) : Bool :=
  s.eng.engines.any (fun e => e.2.threads.any (fun t => t.2.task.any (fun k => decide (k.bucket = b))))

/-- A bucket is on the move (R322). -/
def bucketMoving (s : State) (b : Nat) : Bool := decide (tget 0 s.eng.moving b ≠ 0)

/-- The port on which a message's task can send, and its service domain (R311). -/
def outputOf : TaskMsg → Nat × Nat
  | .rx p d _ _ _ => (p, d)
  | .sched (.unicast k _) => (k.port, k.domain)
  | .sched (.multicast d p _) => (p, d)
  | .sched (.followUp f) => (f.port, f.svcDomain)
  | .cmd _ (.add e) => (e.key.port, e.key.domain)
  | .cmd _ (.remove _ k _) => (k.port, k.domain)

/-- A number for a message's kind, by which a program declares its output (R311). -/
def msgKind : TaskMsg → Nat
  | .rx _ d _ _ f =>
    match f.body with
    | .ptpL2 _ => 16 + d
    | .ptpUdp _ _ _ _ _ => 32 + d
    | .ntpUdp _ _ _ _ m => if m.nts then 1 else 0
    | .arp _ _ => 2
    | _ => 3
  | .sched (.unicast _ .announce) => 4
  | .sched (.unicast _ .sync) => 5
  | .sched (.unicast _ .delayResp) => 6
  | .sched (.multicast _ _ _) => 7
  | .sched (.followUp _) => 8
  | .cmd _ (.add _) => 9
  | .cmd _ (.remove _ _ _) => 10

/-- The CURRENT NTS slot and its GENERATION (R344). -/
def currentNts (s : State) : Option (Nat × Nat) :=
  ((List.range 16).find? (fun i => decide ((keySlot s 3 i).role = 2))).map (fun i => (i, (keySlot s 3 i).indexGen))

/-- The first message of an input queue whose bucket has no task in flight and is not on the move, with the queue without
it (R311, R312). -/
def firstReady (s : State) : List Waiting → Option (Waiting × List Waiting)
  | [] => none
  | w :: rest =>
    if bucketBusy s w.bucket || bucketMoving s w.bucket then (firstReady s rest).map (fun r => (r.1, w :: r.2))
    else some (w, rest)

/-- The lowest free thread of an engine. -/
def freeThread (s : State) (e : Nat) : Option Nat := (List.range 8).find? (fun i => (s.thread (8 * e + i)).task.isNone)

/-- TASK_ADMIT (R311, R312): the engine's first message that may start takes a thread, its output credit and a descriptor;
without credit it is dropped. The new task may begin in a wait. -/
def taskAdmit (e : Nat) (wait : Option (Nat × Nat)) (s : State) : State :=
  let x := s.engine e
  if x.state ≠ 2 ∨ s.eng.restarting.isSome then s
  else match freeThread s e, firstReady s x.input with
    | some i, some (w, rest) =>
      let (p, d) := outputOf w.msg
      let t := settleWire p (s.setEngine e { x with input := rest })
      let q := (tagOf t p d).pcp
      let units := Config.declaredOutput x.image.version (msgKind w.msg)
      if !creditFor t p units q then
        freeRx w.msg { t with eng := { t.eng with admitDrops := satInc sat32 t.eng.admitDrops } }
      else
        let y := t.ethP p
        let u := t.setEthP p { y with creditUsed := y.creditUsed + units, descUsed := tset 0 y.descUsed q (tget 0 y.descUsed q + 1) }
        let k : Task := { msg := w.msg, bucket := w.bucket, port := p, credit := units, desc := some q, admitted := u.now, counted := u.now
                          tag := u.eng.nextTag, ntsSlot := currentNts u }
        let v := { u with eng := { u.eng with nextTag := u.eng.nextTag + 1 } }
        v.setThread (8 * e + i) (beginWait v.now { task := some k, late := (v.thread (8 * e + i)).late } wait)
    | _, _ => s

/-- The meaning of TASK_ADMIT. -/
def execTaskAdmit (e : Nat) (wait : Option (Nat × Nat)) (s : State) : Out :=
  guardUnit (decide (e < numEngines)) s (done s (taskAdmit e wait s))

/-- Withdraw the frames of a task that are queued on a port and not committed (R315). -/
def withdrawTag (tag p : Nat) (s : State) : State :=
  let x := s.ethP p
  let gone := x.queues.flatMap (fun q => q.2.filter (fun f => f.tag == tag))
  if gone = [] then s
  else gone.foldl dropFrame (s.setEthP p { x with
    queues := (List.range 8).foldl (fun l q => tset [] l q ((tget [] l q).filter (fun f => f.tag != tag))) x.queues })

/-- Clear an aborted task (R315): its credit returns, its frames that are not committed are withdrawn and their records
become void, and its thread is free. -/
def clearTask (n : Nat) (s : State) : State :=
  match (s.thread n).task with
  | none => s
  | some k =>
    let a := (List.range 16).foldl (fun t p => withdrawTag k.tag p t) s
    let b := freeRx k.msg (returnCredit k.port k.credit k.desc a)
    let c := b.setThread n (idleThread b.now (b.thread n).late)
    let e := c.engine (n / 8)
    perfAdd (0x0200 + n / 8) (s.now - k.counted)
      (c.setEngine (n / 8) { e with longest := max e.longest (min sat32 (s.now - k.admitted)) })

/-- TASK_ABORT (R315): 2^22 ns after its admission. -/
def taskAbort (n : Nat) (s : State) : State :=
  match (s.thread n).task with
  | some k =>
    if k.admitted + taskLimit ≤ s.now then
      let t := clearTask n s
      { t with eng := { t.eng with taskAborts := satInc sat32 t.eng.taskAborts } }
    else s
  | none => s

/-- The meaning of TASK_ABORT. -/
def execTaskAbort (n : Nat) (s : State) : Out := guardUnit (decide (n < numThreads)) s (done s (taskAbort n s))

/-- A wait ends with TIMEOUT (R314); its event may still come. -/
def timeOut (n : Nat) (next : Option (Nat × Nat)) (s : State) : State :=
  let t := s.thread n
  let u := { s with eng := { s.eng with waitTimeouts := satInc sat32 s.eng.waitTimeouts } }
  u.setThread n (beginWait s.now { t with wait := none, late := t.late ++ (t.wait.map (·.cls)).toList } next)

/-- An event whose wait ended with TIMEOUT is discarded and counted (R314). -/
def lateEvent (n cls : Nat) (s : State) : State :=
  let t := s.thread n
  if t.late.contains cls then
    { s with eng := { s.eng with lateEvents := satInc sat32 s.eng.lateEvents } }.setThread n { t with late := t.late.erase cls }
  else s

/-- An event of a class arrives for a thread (R314): it ends a wait on its class up to the deadline itself. Past it the wait has
ended, with TIMEOUT or at its task's limit in the abort (R315). -/
def waitEvent (n cls : Nat) (next : Option (Nat × Nat)) (s : State) : State :=
  let t := s.thread n
  match t.wait with
  | some w =>
    if w.cls ≠ cls ∨ cls = 7 then lateEvent n cls s
    else if s.now ≤ w.deadline then s.setThread n (beginWait s.now { t with wait := none } next)
    else if t.task.any (fun k => decide (k.admitted + taskLimit ≤ s.now)) then taskAbort n s
    else lateEvent n cls (timeOut n none s)
  | none => lateEvent n cls s

/-- The meaning of WAIT_EVENT. -/
def execWaitEvent (n cls : Nat) (next : Option (Nat × Nat)) (s : State) : Out :=
  guardUnit (decide (n < numThreads)) s (done s (waitEvent n cls next s))

/-- A wait at its deadline ends with TIMEOUT (R314), unless its task's limit has come (R315). -/
def waitTimeout (n : Nat) (next : Option (Nat × Nat)) (s : State) : State :=
  match (s.thread n).wait, (s.thread n).task with
  | some w, some k => if w.deadline ≤ s.now ∧ s.now < k.admitted + taskLimit then timeOut n next s else s
  | _, _ => s

/-- The meaning of WAIT_TIMEOUT. -/
def execWaitTimeout (n : Nat) (next : Option (Nat × Nat)) (s : State) : Out :=
  guardUnit (decide (n < numThreads)) s (done s (waitTimeout n next s))

/-- The eight engines of a cluster. -/
def enginesOf (c : Nat) : List Nat := (List.range 8).map (8 * c + ·)
/-- A cluster is awake (R327): neither fallow nor waking. -/
def awake (s : State) (c : Nat) : Bool := decide (2 ≤ (s.engine (8 * c)).state)
/-- The awake clusters. -/
def awakeClusters (s : State) : List Nat := (List.range 12).filter (awake s)
/-- The threads of a cluster. -/
def threadsOf (c : Nat) : List Nat := (List.range 64).map (64 * c + ·)
/-- Threads of the awake clusters. -/
def awakeThreads (s : State) : List Nat := (awakeClusters s).flatMap threadsOf

/-- The newest activated image (R317, R321). -/
def newestImage (s : State) : SowerImage := s.eng.activation.getD s.eng.active

/-- An engine comes to run an image in its other bank (R308), unless its active bank holds it already; the old image stays in the
bank it had. -/
def loadImage (img : SowerImage) (x : Engine) : Engine :=
  if x.image = img then x else { x with image := img, other := some x.image, bank := 1 - x.bank }

/-- An engine that runs an image has no other one (R319). -/
def dropOld (img : SowerImage) (x : Engine) : Engine := if x.image = img then { x with other := none } else x

/-- An activation ends (R319): the old image is discarded and the staging area is empty. -/
def endActivation (s : State) : State :=
  match s.eng.activation with
  | some img =>
    let t := (List.range numEngines).foldl (fun t e => t.setEngine e (dropOld img (t.engine e))) s
    { t with eng := { t.eng with active := img, activation := none, staging := {} } }
  | none => s

/-- ENG_DEADLOCK's conditions at a sample (R316). -/
def deadlocked (s : State) : Bool :=
  let l := awakeThreads s
  l.all (fun n => (s.thread n).captive && decide ((s.thread n).internalSince + 10000 ≤ s.now)) &&
  l.any (fun n => (s.thread n).task.any (fun k => decide (k.admitted + 10000 ≤ s.now))) &&
  !s.eng.engines.any (fun e => decide (e.2.state = 3))

/-- The module's answer to ENG_DEADLOCK (R317, R321). -/
def declareDeadlock (s : State) : State :=
  let a := setSticky 2 1 { s with eng := { s.eng with
    deadlocks := satInc sat32 s.eng.deadlocks, lastDeadlock := ftSec (replicaTime s 0) } }
  let held := (awakeThreads a).filter (fun n => (a.thread n).task.isSome)
  let b := held.foldl (fun t n =>
    let u := clearTask n t
    { u with eng := { u.eng with deadlockDrops := satInc sat32 u.eng.deadlockDrops } }) a
  let c := ((awakeClusters b).flatMap enginesOf).foldl (fun t e =>
    t.setEngine e { loadImage (newestImage t) (t.engine e) with state := 4 }) b
  endActivation { c with eng := { c.eng with restarting := some c.now } }

/-- What one sample of the census shows (R331). -/
def censusSample (s : State) : State :=
  let l := awakeThreads s
  let longest := l.foldl (fun m n =>
    match (s.thread n).task, (s.thread n).wait with
    | some _, some w => if internalCls w.cls then max m (s.now - w.since) else m
    | _, _ => m) 0
  { s with eng := { s.eng with
      censusTick := s.tim.tick, censusLongest := min sat32 longest
      censusIdle := (l.filter (fun n => (s.thread n).task.isNone)).length
      censusWaiting := (List.range 120).map (fun j =>
        ((threadsOf (j / 10)).filter (fun n => (s.thread n).wait.any (fun w => w.cls == j % 10))).length) } }

/-- STALL_CENSUS (R316): the sample of an epoch marker, and ENG_DEADLOCK where it holds. -/
def stallCensus (s : State) : State :=
  let a := censusSample s
  if deadlocked a then declareDeadlock a else a

/-- The meaning of STALL_CENSUS. -/
def execStallCensus (s : State) : Out := done s (stallCensus s)

/-- The first engine of each awake cluster stops admitting (R319). -/
def beginSwitch (s : State) : State :=
  (awakeClusters s).foldl (fun t k =>
    if (t.engine (8 * k)).state = 2 then t.setEngine (8 * k) { t.engine (8 * k) with state := 3 } else t) s

/-- An activation with no engine left to switch ends (R319). -/
def settleActivation (s : State) : State :=
  if s.eng.activation.isSome && !s.eng.engines.any (fun y => decide (y.2.state = 3)) then endActivation s else s

/-- RESTART_COMPLETE (R317): the engines run again. -/
def restartComplete (s : State) : State :=
  match s.eng.restarting with
  | none => s
  | some _ =>
    let a := (List.range numEngines).foldl (fun t e =>
      if (t.engine e).state = 4 then t.setEngine e { t.engine e with state := 2 } else t) s
    let b := { a with eng := { a.eng with restarting := none } }
    if b.eng.activation.isSome then beginSwitch b else b

/-- The meaning of RESTART_COMPLETE. -/
def execRestartComplete (s : State) : Out := done s (restartComplete s)

/-- An engine holds no task. -/
def engineIdle (s : State) (e : Nat) : Bool := (List.range 8).all (fun i => (s.thread (8 * e + i)).task.isNone)

/-- ENGINE_SWITCH (R319): an engine that stopped admitting and holds no task runs the new image in its other bank; the next
engine of its cluster stops admitting, and with the last awake engine the activation ends. -/
def engineSwitch (e : Nat) (s : State) : State :=
  match s.eng.activation with
  | none => s
  | some img =>
    let x := s.engine e
    if x.state ≠ 3 ∨ !engineIdle s e then s
    else
      let a := s.setEngine e { loadImage img x with state := 2 }
      if e % 8 ≠ 7 then a.setEngine (e + 1) { a.engine (e + 1) with state := 3 }
      else settleActivation a

/-- The meaning of ENGINE_SWITCH. -/
def execEngineSwitch (e : Nat) (s : State) : Out := guardUnit (decide (e < numEngines)) s (done s (engineSwitch e s))

/-- The pin of a bucket (R324). -/
def pinOf (c : PlaceCfg) (b : Nat) : Option Nat :=
  (c.pins.find? (fun p => decide (p.first ≤ b) && decide (b < p.first + p.count))).map (·.engine)

/-- A bucket starts to move to an engine; one that is there already stops moving (R322). -/
def startMove (b e : Nat) (s : State) : State :=
  { s with eng := { s.eng with moving := if placed s b = e then terase s.eng.moving b else tset 0 s.eng.moving b (e + 1) } }

/-- A cluster is pinned awake (R324, R330): by policy, because a bucket is pinned to it, or because it holds a pinned bucket that
has not moved yet. -/
def pinnedAwake (s : State) (c : Nat) : Bool :=
  bit s.eng.policy.pinnedAwake c || s.eng.policy.pins.any (fun p => decide (p.engine / 8 = c)) ||
  s.eng.moving.any (fun m => (pinOf s.eng.policy m.1).isSome && decide (placed s m.1 / 8 = c))

/-- The march test of a fallow cluster runs: it counts as pinned awake (R565). -/
def marching (s : State) (c : Nat) : Bool :=
  decide ((tget {} s.tst.bist 2).state = 1) && decide ((tget {} s.tst.bist 2).instance_ = c)

/-- A cluster is awake and not on its way to fallow. -/
def stays (s : State) (c : Nat) : Bool := awake s c && !(tget {} s.eng.clusters c).fallowing

/-- The clusters that count as awake for a floor. -/
def countedAwake (s : State) : Nat := ((List.range 12).filter (fun c => stays s c || marching s c)).length

/-- A bucket is mapped to a cluster or on the move into or out of it. -/
def bucketsTouch (s : State) (c : Nat) : Bool :=
  s.eng.moving.any (fun m => decide (placed s m.1 / 8 = c) || decide ((m.2 - 1) / 8 = c))

/-- A cluster goes fallow once its last bucket has moved out (R325, R519), and none is on its way into it. -/
def settleFallow (c : Nat) (s : State) : State :=
  let x := tget {} s.eng.clusters c
  if x.fallowing && !bucketsTouch s c &&
      (threadsOf c).all (fun n => (s.thread n).task.isNone) then
    let a := (enginesOf c).foldl (fun t e => t.setEngine e { t.engine e with state := 0 }) s
    let g := a.irqG 4
    settleActivation ({ a with eng := { a.eng with clusters := tset {} a.eng.clusters c { x with fallowing := false } } }.setIrq 4
      { g with retained := setBit g.retained c })
  else s

/-- The floor and the pins of the policy in force hold (R330). -/
def policyMet (s : State) : Bool :=
  decide (s.eng.policy.minAwake ≤ countedAwake s) &&
  (List.range 12).all (fun c => !pinnedAwake s c || stays s c || marching s c) &&
  !s.eng.moving.any (fun m => (pinOf s.eng.policy m.1).isSome)

/-- The reply of ENG_PLACEMENT_POLICY (R330). -/
def placeBytes (c : PlaceCfg) : List Byte :=
  le 1 (flag 0 c.rebalance) ++ le 1 c.minAwake ++ le 2 c.pinnedAwake ++ le 1 c.pins.length ++ zeros 3 ++
  c.pins.flatMap (fun p => le 2 p.first ++ le 2 (p.count - 1) ++ le 1 p.engine ++ zeros 3)

/-- Answer a held ENG_PLACEMENT_POLICY whose policy is met (R330). -/
def settlePolicy (s : State) : State :=
  match s.eng.policyHeld with
  | some id =>
    if policyMet s then
      answerHeld id (fun _ t => ok t (placeBytes t.eng.policy)) { s with eng := { s.eng with policyHeld := none } }
    else s
  | none => s

/-- BUCKET_MOVE (R322): a bucket on the move with no task in flight goes to its new engine with its waiting messages. -/
def bucketMove (b : Nat) (s : State) : State :=
  if !bucketMoving s b || bucketBusy s b then s
  else
    let old := placed s b
    let x := s.engine old
    let waiting := x.input.filter (fun w => w.bucket == b)
    let a := s.setEngine old { x with input := x.input.filter (fun w => w.bucket != b) }
    let c := place b (tget 0 s.eng.moving b - 1) { a with eng := { a.eng with
      moving := terase a.eng.moving b, bucketMoves := satInc sat32 a.eng.bucketMoves } }
    settlePolicy (settleFallow (old / 8) (waiting.foldl (fun t w => pushInput w t) c))

/-- The meaning of BUCKET_MOVE. -/
def execBucketMove (b : Nat) (s : State) : Out := guardUnit (decide (b < 65536)) s (doneHeld s (bucketMove b s))

/-- Unmet targets are counted for a millisecond (R26). -/
def countUnmet (s : State) : State :=
  { s with eng := { s.eng with
      fallowUnmetMs := if s.eng.loadUnmet || s.eng.floorUnmet then satInc sat32 s.eng.fallowUnmetMs else s.eng.fallowUnmetMs
      placementUnmetMs := if s.eng.placementUnmet then satInc sat32 s.eng.placementUnmetMs else s.eng.placementUnmetMs } }

/-- Occupancy of an engine in 0.01 %, as the rebalancing loop measured it. -/
def occupancyOf (occ : List Nat) (e : Nat) : Nat := occ.getD e 0

/-- The awake engines. -/
def awakeEngines (s : State) : List Nat := (awakeClusters s).flatMap enginesOf

/-- An engine's occupancy is above a share of the mean over the awake engines: `num` / 8 of it (R323). -/
def aboveMean (s : State) (occ : List Nat) (num e : Nat) : Bool :=
  let l := awakeEngines s
  decide (num * (l.map (occupancyOf occ)).sum < 8 * l.length * occupancyOf occ e)

/-- An engine's occupancy is below the mean over the awake engines (R323). -/
def belowMean (s : State) (occ : List Nat) (e : Nat) : Bool :=
  let l := awakeEngines s
  decide (l.length * occupancyOf occ e < (l.map (occupancyOf occ)).sum)

/-- A move that the rebalancing loop may make (R323, R324): of an unpinned bucket, from an awake engine more than 12.5 % above the
mean to one below it that stays awake. -/
def moveAllowed (s : State) (occ : List Nat) (m : Nat × Nat) : Bool :=
  decide (m.1 < 65536) && decide (m.2 < numEngines) && (pinOf s.eng.policy m.1).isNone && !bucketMoving s m.1 &&
  stays s (m.2 / 8) && awake s (placed s m.1 / 8) && aboveMean s occ 9 (placed s m.1) && belowMean s occ m.2

/-- An engine holds a pinned bucket. -/
def holdsPinned (s : State) (e : Nat) : Bool := s.eng.policy.pins.any (fun p => decide (p.engine = e))

/-- REBALANCE (R26, R323): once each 1 ms, up to 64 buckets start to move as the occupancy of the engines over that 1 ms asks, and
the millisecond is counted for unmet targets: some engine more than 25 % above the mean holds pinned buckets. -/
def rebalanceStep (moves : List (Nat × Nat)) (occ : List Nat) (s : State) : State :=
  if s.now < s.eng.loopAt + 1000000 then s
  else
    let a := if s.eng.policy.rebalance then
        ((moves.filter (moveAllowed s occ)).take 64).foldl (fun t m => startMove m.1 m.2 t) s
      else s
    countUnmet { a with eng := { a.eng with
      loopAt := s.now
      placementUnmet := a.eng.policy.rebalance && (awakeEngines s).any (fun e => aboveMean s occ 10 e && holdsPinned s e) } }

/-- The meaning of REBALANCE. -/
def execRebalance (moves : List (Nat × Nat)) (occ : List Nat) (s : State) : Out := done s (rebalanceStep moves occ s)

/-- A fallow cluster begins to wake (R325); not while its march test runs (R565). -/
def wakeCluster (c : Nat) (s : State) : State :=
  if (s.engine (8 * c)).state = 0 ∧ !marching s c then
    let a := (enginesOf c).foldl (fun t e => t.setEngine e { t.engine e with state := 1 }) s
    { a with eng := { a.eng with clusters := tset {} a.eng.clusters c { (tget {} a.eng.clusters c : Cluster) with wakeAt := some a.now } } }
  else s

/-- A cluster stops going fallow: its buckets stay. -/
def keepCluster (c : Nat) (s : State) : State :=
  if (tget {} s.eng.clusters c).fallowing then
    { s with eng := { s.eng with
        clusters := tset {} s.eng.clusters c { (tget {} s.eng.clusters c : Cluster) with fallowing := false }
        moving := s.eng.moving.filter (fun m => decide (placed s m.1 / 8 ≠ c) || (pinOf s.eng.policy m.1).isSome) } }
  else s

/-- Whether load needs more clusters than the floor and the pins allow (R325). -/
def loadTarget (unmet : Bool) (s : State) : State := { s with eng := { s.eng with loadUnmet := unmet } }
/-- Whether the floor and the pins keep more clusters awake than load needs (R325). -/
def floorTarget (unmet : Bool) (s : State) : State := { s with eng := { s.eng with floorUnmet := unmet } }

/-- CLUSTER_WAKE (R325): `occupancy` is the mean thread occupancy of the awake clusters over 100 us, in 0.01 %. Above 75 %
a fallow cluster wakes; the target is unmet when none is fallow. -/
def clusterWake (c occupancy : Nat) (s : State) : State :=
  if occupancy ≤ 7500 then loadTarget false s
  else if (List.range 12).all (fun k => decide ((s.engine (8 * k)).state ≠ 0) || marching s k) then
    loadTarget ((awakeClusters s).length == 12) s
  else loadTarget false (wakeCluster c s)

/-- The meaning of CLUSTER_WAKE. -/
def execClusterWake (c occupancy : Nat) (s : State) : Out := guardUnit (decide (c < 12)) s (done s (clusterWake c occupancy s))

/-- A cluster has to be emptied of a bucket (R322, R324): one mapped to it that is not on its way out of it, or one on its way into
it; a pinned one goes where its pin says. -/
def mustLeave (s : State) (c b : Nat) : Bool :=
  let goal := tget 0 s.eng.moving b
  (pinOf s.eng.policy b).isNone &&
  (if goal = 0 then decide (placed s b / 8 = c) else decide ((goal - 1) / 8 = c))

/-- Every bucket of a cluster starts to move to some other awake cluster's engines; a move into it goes there instead. -/
def emptyCluster (c : Nat) (s : State) : State :=
  let into := ((List.range 12).filter (fun k => k ≠ c && stays s k)).flatMap enginesOf
  if into = [] then s
  else
    let a := (List.range 65536).foldl (fun t b =>
      if mustLeave t c b then startMove b (into.getD (Config.freeValue (t.free + b) % into.length) 0) t else t) s
    { a with free := a.free + 65536 }

/-- CLUSTER_FALLOW (R325): `occupancy` is the mean thread occupancy over 10 ms, in 0.01 %. Below 25 %, with the remaining
clusters below 50 %, a cluster that neither the floor nor a pin keeps awake moves its buckets out and goes fallow; the last
one that stays keeps them. -/
def clusterFallow (c occupancy : Nat) (s : State) : State :=
  let n := (awakeClusters s).length
  if 2500 ≤ occupancy then floorTarget false s
  else if ((List.range 12).filter (stays s)).length ≤ 1 ∨ 5000 * (n - 1) ≤ occupancy * n then floorTarget false s
  else if countedAwake s ≤ s.eng.policy.minAwake ∨ pinnedAwake s c then floorTarget true s
  else if !stays s c || s.eng.activation.isSome then s
  else
    let a := emptyCluster c s
    settleFallow c (floorTarget false { a with eng := { a.eng with
      clusters := tset {} a.eng.clusters c { (tget {} a.eng.clusters c : Cluster) with fallowing := true } } })

/-- The meaning of CLUSTER_FALLOW. -/
def execClusterFallow (c occupancy : Nat) (s : State) : Out :=
  guardUnit (decide (c < 12)) s (done s (clusterFallow c occupancy s))

/-- WAKE_COMPLETE (R319, R325, R519): a waking cluster holds the newest activated image, has its interrupt state back and
admits tasks. -/
def wakeComplete (c : Nat) (s : State) : State :=
  if (s.engine (8 * c)).state ≠ 1 then s
  else
    let a := (enginesOf c).foldl (fun t e =>
      t.setEngine e { (if t.eng.activation.isSome then id else dropOld t.eng.active) (loadImage (newestImage t) (t.engine e)) with
        state := 2, threads := (List.range 8).foldl (fun l i => tset {} l i (idleThread t.now [])) [] }) s
    let g := a.irqG 4
    settlePolicy ({ a with eng := { a.eng with
        clusters := tset {} a.eng.clusters c { (tget {} a.eng.clusters c : Cluster) with wakeAt := none } } }.setIrq 4
      { g with retained := clrBit g.retained c })

/-- The meaning of WAKE_COMPLETE. -/
def execWakeComplete (c : Nat) (s : State) : Out := guardUnit (decide (c < 12)) s (doneHeld s (wakeComplete c s))

/-- How many of 65,536 buckets an engine holds before any move. -/
def firstBuckets (e : Nat) : Nat := if e < 64 then 683 else 682

/-- Buckets mapped to an engine (R327). -/
def bucketsOn (s : State) (e : Nat) : Nat :=
  firstBuckets e - (s.eng.placement.filter (fun m => m.1 % numEngines == e)).length +
  (s.eng.placement.filter (fun m => m.2 == e)).length

/-- Of those, buckets pinned (R327). -/
def pinnedOn (s : State) (e : Nat) : Nat :=
  s.eng.policy.pins.foldl (fun a p =>
    a + ((List.range p.count).filter (fun i => placed s (p.first + i) == e)).length) 0

/-- An engine record of ENG_STATUS (R327). -/
def engineBytes (s : State) (e : Nat) : List Byte :=
  let x := s.engine e
  le 1 x.state ++ le 1 ((List.range 8).filter (fun i => (s.thread (8 * e + i)).task.isSome)).length ++ le 1 x.bank ++ zeros 1 ++
  le 2 (bucketsOn s e) ++ le 2 (pinnedOn s e) ++ le 4 x.completed ++ le 4 x.longest

/-- A bit for each cluster. -/
def clusterBits (f : Nat → Bool) : Nat := (List.range 12).foldl (fun a c => a + flag c (f c)) 0

/-- The reply of ENG_STATUS (R327). -/
def engStatusBytes (s : State) : List Byte :=
  let g := s.eng
  le 1 (flag 0 g.activation.isSome + flag 1 g.restarting.isSome + flag 2 (g.loadUnmet || g.floorUnmet) + flag 3 g.placementUnmet +
    flag 4 g.policy.rebalance) ++ zeros 3 ++
  le 4 g.active.version ++ le 4 ((g.staging.verified.map (·.version)).getD 0) ++
  le 2 (clusterBits (awake s)) ++ le 2 (clusterBits (pinnedAwake s)) ++
  le 4 g.deadlocks ++ le 4 g.deadlockDrops ++ le 4 g.admitDrops ++ le 4 g.inputDrops ++ le 4 g.taskAborts ++
  le 4 g.waitTimeouts ++ le 4 g.lateEvents ++ le 4 g.bucketMoves ++ le 4 g.fallowUnmetMs ++ le 4 g.placementUnmetMs ++
  zeros 8 ++ (List.range numEngines).flatMap (engineBytes s)

/-- ENG_STATUS (R327). -/
def bodyEngStatus : Body := fun c s => if c.req.payload.length = 0 then ok s (engStatusBytes s) else badLen s
/-- The meaning of ENG_STATUS. -/
def execEngStatus (rq : Request) (s : State) : Out := kcpRow 0x0A01 (leastPriv s 0x0A01 rq.payload) bodyEngStatus rq s

/-- The staging area's verdict on a whole image (R318). -/
def verifySower (s : State) (b : List Byte) : Option SowerImage :=
  let i := parseImage 2 b
  if imageAccepted s (s.pwr.minSvn.getD 2 0) i then some ⟨i.version, Config.stateFormat b, i.svn, i.digest⟩ else none

/-- PROG_STAGE (R318, R328). -/
def bodyProgStage : Body := fun c s =>
  let p := c.req.payload
  let n := p.length - 12
  let off := rd p 0 4
  let total := rd p 4 4
  let first := bit (rd p 8 1) 0
  let last := bit (rd p 8 1) 1
  let st := s.eng.staging
  let kept := if first then [] else st.bytes
  if p.length < 13 ∨ 12 + 4068 < p.length then badLen s
  else checked s
    [(8, decide (rd p 8 1 < 4)), zeroAt p 9 3, (4, decide (total ≤ 24576)),
     (0, decide (off = kept.length) && (first || decide (kept ≠ []))),
     (4, first || decide (total = st.total)), (4, decide (off + n ≤ total)), (8, last == decide (off + n = total))]
    (if s.eng.activation.isSome then busy s
     else
      let all := kept ++ p.drop 12
      if !last then ok { s with eng := { s.eng with staging := { st with total := total, bytes := all } } } []
      else
        match verifySower s all with
        | some img => ok { s with eng := { s.eng with staging := { total := 0, bytes := [], verified := some img } } } (le 4 img.version)
        | none => err s stINTEGRITY)

/-- The meaning of PROG_STAGE. -/
def execProgStage (rq : Request) (s : State) : Out := kcpRow 0x0A02 (leastPriv s 0x0A02 rq.payload) bodyProgStage rq s

/-- Some service domain of R275 is enabled (R321). -/
def anyDomain (s : State) : Bool :=
  (List.range 8).any (fun d => bit (s.dom d).cfg.flags 0) || (List.range 16).any (fun p => bit (s.prof p).cfg.flags 1) ||
  [0, 1].any (fun u => bit (s.upD u).cfg.flags 0)

/-- PROG_ACTIVATE (R319, R321, R329). -/
def bodyProgActivate : Body := fun c s =>
  let p := c.req.payload
  if p.length ≠ 4 then badLen s
  else match s.eng.staging.verified with
    | none => if s.eng.activation.isSome then busy s else err s stSTATE
    | some img =>
      if rd p 0 4 ≠ img.version then bad s 0
      else if img.stateFormat ≠ s.eng.active.stateFormat ∧ anyDomain s then err s stSTATE
      else if s.eng.activation.isSome then busy s
      else
        let a := { s with eng := { s.eng with activation := some img } }
        pend (beginSwitch a) []

/-- The meaning of PROG_ACTIVATE. -/
def execProgActivate (rq : Request) (s : State) : Out := kcpRow 0x0A03 (leastPriv s 0x0A03 rq.payload) bodyProgActivate rq s

/-- The pins of a payload. -/
def pinsOf (p : List Byte) (n : Nat) : List Pin :=
  (List.range n).map (fun i => ⟨rd p (8 + 8 * i) 2, rd p (10 + 8 * i) 2 + 1, rd p (12 + 8 * i) 1⟩)

/-- Two pins overlap. -/
def overlap (a b : Pin) : Bool := decide (a.first < b.first + b.count) && decide (b.first < a.first + a.count)

/-- Put a policy in force (R330): its pins start their moves, the clusters it needs begin to wake. -/
def applyPolicy (c : PlaceCfg) (s : State) : State :=
  let a := { s with eng := { s.eng with policy := c } }
  let b := (List.range 12).foldl (fun t k => if pinnedAwake t k then wakeCluster k (keepCluster k t) else t) a
  let up (t : State) : Nat := ((List.range 12).filter (fun k =>
    (decide ((t.engine (8 * k)).state ≠ 0) && !(tget {} t.eng.clusters k).fallowing) || marching t k)).length
  let d := (List.range 12).foldl (fun t k => if up t < c.minAwake then wakeCluster k (keepCluster k t) else t) b
  c.pins.foldl (fun t p => (List.range p.count).foldl (fun u i => startMove (p.first + i) p.engine u) t) d

/-- ENG_PLACEMENT_POLICY (R330). -/
def bodyEngPlacementPolicy : Body := fun c s =>
  let p := c.req.payload
  let n := rd p 4 1
  if p.length = 0 then ok s (placeBytes s.eng.policy)
  else if p.length < 8 then badLen s
  else if 32 < n then bad s 4
  else if p.length ≠ 8 + 8 * n then badLen s
  else
    let pins := pinsOf p n
    checked s
      ([(0, decide (rd p 0 1 < 2)), (1, decide (1 ≤ rd p 1 1) && decide (rd p 1 1 ≤ 12)), (2, decide (rd p 2 2 < 4096)), zeroAt p 5 3] ++
       (List.range n).flatMap (fun i =>
         let x := pins.getD i {}
         [(10 + 8 * i, decide (x.first + x.count ≤ 65536)), (12 + 8 * i, decide (x.engine < 96)), zeroAt p (13 + 8 * i) 3,
          (8 + 8 * i, !(pins.take i).any (overlap x))]))
      (if s.eng.policyHeld.isSome then busy s
       else
        let t := applyPolicy ⟨bit (rd p 0 1) 0, rd p 1 1, rd p 2 2, pins⟩ s
        if policyMet t then ok t (placeBytes t.eng.policy)
        else held { t with eng := { t.eng with policyHeld := some c.id } })

/-- The meaning of ENG_PLACEMENT_POLICY. -/
def execEngPlacementPolicy (rq : Request) (s : State) : Out :=
  kcpRow 0x0A04 (leastPriv s 0x0A04 rq.payload) bodyEngPlacementPolicy rq s

/-- The reply of ENG_CENSUS (R331). -/
def censusBytes (s : State) : List Byte :=
  let g := s.eng
  le 8 g.censusTick ++ le 4 g.censusLongest ++ le 2 g.censusIdle ++ zeros 2 ++
  fit 120 (g.censusWaiting.flatMap (le 1)) ++ le 8 g.lastDeadlock

/-- ENG_CENSUS (R331). -/
def bodyEngCensus : Body := fun c s => if c.req.payload.length = 0 then ok s (censusBytes s) else badLen s
/-- The meaning of ENG_CENSUS. -/
def execEngCensus (rq : Request) (s : State) : Out := kcpRow 0x0A05 (leastPriv s 0x0A05 rq.payload) bodyEngCensus rq s

end Sys2Proof.Machine
end

