-- ==== Sys2Proof/Machine/Arb.lean ====
section
/-! DEFINITION. The tally arbiter of the crypto pool and the Granary banks (spec/16_queues_arbitration_drain.md). -/

namespace Sys2Proof.Machine
open Sys2Proof

/-- Requesters (R407). -/
def numRequesters : Nat := 17

/-- The weight of a requester for a resource: 0 the crypto pool, 1 to 16 the Granary banks (R407). -/
def weightOf (s : State) (resource r : Nat) : Nat := if resource = 0 then s.arb.cryptoW.getD r 0 else s.arb.granW.getD r 0
/-- A requester's cap (R408). -/
def capOf (s : State) (resource r : Nat) : Int := s.arb.burst * weightOf s resource r
/-- A tally (R408). -/
def tally (s : State) (resource r : Nat) : Int := tget 0 s.arb.tallies (17 * resource + r)
/-- Saturation of a 24-bit tally (R408). -/
def satTally (v : Int) : Int := max (-8388608) v
/-- Replace a tally. -/
def setTally (resource r : Nat) (v : Int) (s : State) : State :=
  { s with arb := { s.arb with tallies := tset 0 s.arb.tallies (17 * resource + r) (satTally v) } }

/-- The requesters' numbers. -/
def requesters : List Nat := List.range numRequesters

/-- The highest of a resource's tallies. -/
def topTally (s : State) (resource : Nat) : Int := requesters.foldl (fun m r => max m (tally s resource r)) (tally s resource 0)

/-- Refill and renormalisation of one resource at a window's start (R408). -/
def refillTallies (resource : Nat) (s : State) : State :=
  let a := requesters.foldl (fun t r =>
    setTally resource r (min (tally t resource r + weightOf t resource r) (capOf t resource r)) t) s
  let top := topTally a resource
  if top < 0 then
    requesters.foldl (fun t r => setTally resource r (min (tally t resource r - top) (capOf t resource r)) t) a
  else a

/-- The arbitration record (R416): BURST, the weights; bits 0 and 1 of FLAGS. -/
def arbBytes (s : State) : List Byte :=
  let v := s.pwr.floor
  let cw := s.arb.cryptoW.foldl (· + ·) 0
  let gw := s.arb.granW.foldl (· + ·) 0
  let cryptoOver := if 650 ≤ v then decide (12288 < cw) else decide (716800 + 5120 * (v - 550) < 100 * cw)
  let granOver := if 650 ≤ v then decide (63 < gw) else decide (3900 + 24 * (v - 550) < 100 * gw)
  le 1 2 ++ le 1 s.arb.burst ++ le 2 (flag 0 cryptoOver + flag 1 granOver) ++
  requesters.flatMap (fun r => le 2 (weightOf s 0 r) ++ le 2 (weightOf s 1 r))

/-- Weights written before this window take effect, each tally within its new cap (R416). -/
def applyWeights (s : State) : State :=
  match s.arb.next with
  | none => s
  | some (b, cw, gw) =>
    let t := { s with arb := { s.arb with burst := b, cryptoW := cw, granW := gw, next := none } }
    (List.range 17).foldl (fun u k => requesters.foldl (fun v r => setTally k r (min (tally v k r) (capOf v k r)) v) u) t

/-- The last epoch marker of the S-tile replica, in µs of its field time (R408). -/
def windowMarker (s : State) : Nat := replicaTime s 0 / us1

/-- ARBITER_WINDOW (R408, R416): the window of an epoch marker starts, once; the writes that waited for it answer. -/
def arbiterWindow (s : State) : State :=
  if s.arb.window = some (windowMarker s) then s
  else
    let a := applyWeights s
    let b := (List.range 17).foldl (fun t k => refillTallies k t)
      { a with arb := { a.arb with held := [], window := some (windowMarker s) } }
    s.arb.held.foldl (fun t id => answerHeld id (fun _ u => ok u (arbBytes u)) t) b

/-- The meaning of ARBITER_WINDOW. -/
def execArbiterWindow (s : State) : Out := doneHeld s (arbiterWindow s)

/-- Cost of a grant (R410) by operation: 0 AES block, 1 SHA-256 block, 2 SHA-384 block, 3 Ed25519 signature, 4 Ed25519
verification, 5 ECDSA verification, the last three in chunks of 64; 6 a Granary access, 7 a read-modify-write. -/
def grantCost (op : Nat) : Nat :=
  match op with
  | 0 => 1 | 1 => 4 | 2 => 6 | 3 => 64 | 4 => 64 | 5 => 64 | 6 => 1 | _ => 2

/-- An operation of a resource: 0 to 5 of the crypto pool, 6 and 7 of a bank. -/
def opFits (resource op : Nat) : Bool := if resource = 0 then decide (op ≤ 5) else decide (op = 6) || decide (op = 7)

/-- The waiting request that the arbiter grants (R409): of the requester with the highest tally, the lower number on a tie,
its first. -/
def chooseGrant (s : State) (resource : Nat) (l : List (Nat × Nat × Nat)) : Option (Nat × Nat × Nat) :=
  l.foldl (fun best x =>
    match best with
    | none => some x
    | some y =>
      if tally s resource y.1 < tally s resource x.1 ∨ (tally s resource x.1 = tally s resource y.1 ∧ x.1 < y.1) then some x
      else best) none

/-- Raise a largest-value event (R415). -/
def perfMax (e v : Nat) (s : State) : State :=
  let x := tget {} s.regs.perf e
  { s with regs := { s.regs with perf := tset {} s.regs.perf e { x with count := max x.count v } } }

/-- What a grant counts (R415, R521, R522). -/
def countGrant (resource r op left waited : Nat) (s : State) : State :=
  let cost := grantCost op
  let k := if resource = 0 then 0 else 4
  let w := if resource = 0 then 2 else 5
  let a := perfAdd (0x0400 + 8 * r + k) 1 s
  let b := if resource = 0 then perfAdd (0x0400 + 8 * r + 1) cost a else perfAdd (0x0310 + (resource - 1)) cost a
  let c := if waited = 0 then b else perfMax (0x0400 + 8 * r + w + 1) waited (perfAdd (0x0400 + 8 * r + w) 1 b)
  let d := if resource = 0 ∧ left = 0 then perfAdd (0x0300 + op) 1 c else c
  filterCount { family := 2, req := r, resource := if resource = 0 then 0 else 1 } cost d

/-- ARBITER_GRANT (R409, R410): a unit of a resource is free and requests wait for it, oldest first: requester, operation
(8 times the operation's chunks still to come after this one, plus its number), ns waited. -/
def arbiterGrant (resource : Nat) (waiting : List (Nat × Nat × Nat)) (s : State) : State :=
  match chooseGrant s resource (waiting.filter (fun x => decide (x.1 < numRequesters) && opFits resource (x.2.1 % 8))) with
  | none => s
  | some (r, op, waited) =>
    countGrant resource r (op % 8) (op / 8) waited
      (setTally resource r (tally s resource r - grantCost (op % 8)) s)

/-- The meaning of ARBITER_GRANT. -/
def execArbiterGrant (resource : Nat) (waiting : List (Nat × Nat × Nat)) (s : State) : Out :=
  guardUnit (decide (resource < 17)) s (done s (arbiterGrant resource waiting s))

/-- SCRUB_BURST (R414): the scrubber takes a bank once in each 10 us; banks 0 to 95 are packet-buffer banks, 96 to 111
Granary banks. -/
def scrubBurst (bank : Nat) (s : State) : State :=
  let last := tget 0 s.arb.scrubbing bank
  if last ≠ 0 ∧ s.now < last + 10000 then s
  else { s with arb := { s.arb with scrubbing := tset 0 s.arb.scrubbing bank s.now } }

/-- The meaning of SCRUB_BURST. -/
def execScrubBurst (bank : Nat) (s : State) : Out := guardUnit (decide (bank < 112)) s (done s (scrubBurst bank s))

/-- The arbitration record of PWR_POLICY (R416). -/
def bodyArbPolicy : Body := fun c s =>
  let p := c.req.payload
  if p.length = 1 then ok s (arbBytes s)
  else if p.length ≠ 72 then badLen s
  else checked s
    ([(1, decide (1 ≤ rd p 1 1) && decide (rd p 1 1 ≤ 16)), zeroAt p 2 2] ++
     requesters.flatMap (fun r => [(4 + 4 * r, decide (rd p (4 + 4 * r) 2 ≤ 4095)), (6 + 4 * r, decide (rd p (6 + 4 * r) 2 ≤ 63))]))
    (held { s with arb := { s.arb with
      next := some (rd p 1 1, requesters.map (fun r => rd p (4 + 4 * r) 2), requesters.map (fun r => rd p (6 + 4 * r) 2))
      held := s.arb.held ++ [c.id] } })

/-- The meaning of PWR_POLICY with SELECT 0x02. -/
def execPwrPolicyArbitration (rq : Request) (s : State) : Out :=
  let q := withByte 0 2 rq
  kcpRow 0x0F01 (leastPriv s 0x0F01 q.payload) bodyArbPolicy q s

end Sys2Proof.Machine
end

