-- ==== Sys2Proof/Machine/Tan.lean ====
section
/-! DEFINITION. The tandem pair: claims, the link, slaving, comparison and the commands of group 0x0D
(spec/17_tandem_pairs.md). -/

namespace Sys2Proof.Machine
open Sys2Proof

/-- Replace the tandem pair's state. -/
def State.setTan (s : State) (x : Tan) : State := { s with tan := x }

/-- ENABLE of TAN_CONFIG (R441). -/
def tanOn (s : State) : Bool := bit s.tan.cfg.flags 0

/-- The own-fault condition that holds first, as DROP_CAUSE names it (R425, R442, R509); 0 none. -/
def ownFault (s : State) : Nat :=
  if !pinsHealthy s || inSafe s 8 0 then 1
  else if (s.replica 0).inLoss then 2
  else if s.pwr.sState ≠ 2 then 3
  else if s.tst.inForce then 4 else 0

/-- The own claim by the rows of R425, with DROP_CAUSE. -/
def claimRow (s : State) : Nat × Nat :=
  let t := s.tan
  if !tanOn s then (0, 0)
  else if ownFault s ≠ 0 then (0, ownFault s)
  else if t.dropped then (0, 5)
  else if t.release then (0, 6)
  else if t.maintenance then (255, 0)
  else if t.promoted then (t.cfg.active, 0) else (t.cfg.standby, 0)

/-- ROLE (R427). -/
def roleOf (s : State) : Nat :=
  let t := s.tan
  if !tanOn s then 0
  else if t.own = 0 then 4
  else if t.partner < t.own then 2
  else if t.own < t.partner then 1 else 3

/-- ROLE follows the claims; a standby with the link up treats slot 19 as forced (R427, R431). -/
def settleRole (s : State) : State :=
  let r := roleOf s
  s.setTan { s.tan with role := r, forced19 := decide (r = 1) && s.tan.linkUp }

/-- DRIVING changes (R428, R442). -/
def setDriving (v : Bool) (s : State) : State :=
  if s.tan.driving = v then s
  else s.setTan { s.tan with
    driving := v, lastHandover := ftSec (replicaTime s 0), handovers := if v then satInc sat32 s.tan.handovers else s.tan.handovers }

/-- The own claim is decided (R425, R426, R428): dropping to 0 ends promotion, a lowered claim stops the shared drivers. -/
def decideClaim (s : State) : State :=
  let r := claimRow s
  let a := s.setTan { s.tan with own := r.1, dropCause := r.2, promoted := s.tan.promoted && decide (r.1 ≠ 0) }
  settleRole (if r.1 < s.tan.own then
    setDriving false (a.setTan { a.tan with condRun := 0, armedAt := none }) else a)

/-- The conditions of fault block 8 follow the pair's state (R511); the lanes and claim lines are powered down while ENABLE
is clear (R537). -/
def tanConds (s : State) : State :=
  let put (n : Nat) (v : Bool) (t : State) : State := if bit (t.flt 8).cond n = v then t else setCond 8 n v t
  put 3 s.tan.tieStall (put 2 (tanOn s && !s.tan.linkUp) (put 1 (tanOn s && !s.tan.lineOk) s))

/-- CLAIM_DECISION (R425). -/
def execClaimDecision (s : State) : Out := done s (decideClaim s)

/-- Append the CRC-32 of a frame (R236, R423). -/
def withCrc (l : List Byte) : List Byte := l ++ be 4 (crc32 l)

/-- Flags of Nuheif's tandem report (R424): bit 0 SLAVED_SETTLED, bit 1 UNCHECKED, bit 2 DISC_LATCHED. The places of the
report's fields are the model's (DESIGN CHOICE, log entry 37). -/
def reportFlag (s : State) (i : Nat) : Bool := bit (rd s.bus.tandemReport 185 1) i

/-- A CLAIM_FRAME as sent at a marker (R423): the S tile's own field time and claim, SLAVED_SETTLED as Nuheif reports it. -/
def claimFrameBytes (s : State) : List Byte :=
  withCrc (be 1 1 ++ be 4 (ftUs (replicaTime s 0) % 2 ^ 32) ++ be 1 s.tan.own ++ be 1 s.tan.partner ++
    be 1 (flag 0 (decide (ownFault s ≠ 0)) + flag 1 (reportFlag s 0) + flag 2 s.tan.maintenance) ++ zeros 1 ++ be 4 (s.kcp.g % 2 ^ 32))

/-- The symbols of a microsecond on CLAIM_OUT (R420): a claim word while ENABLE is set, then D21.5. -/
def claimSymbols (on : Bool) (claim : Nat) : List (Bool × Nat) :=
  (if on then [(true, k28_5), (false, claim % 256), (false, 255 - claim % 256)] else []) ++
    List.replicate (if on then 122 else 125) (false, d21_5)

/-- The claim of a claim word received on CLAIM_IN (R421): the comma gives the running disparity, both data code groups decode
at it, and the third is the complement of the second. -/
def claimOfLine (groups : List Nat) : Option Nat :=
  let g := groups.headD 0
  let rd0 := if g = (encGroup true k28_5 false).1 then some false else if g = (encGroup true k28_5 true).1 then some true else none
  match rd0.bind (decSymbols (groups.take 3)) with
  | some [_, (false, a), (false, b)] => if a + b = 255 then some a else none
  | _ => none

/-- The S tile is READY or SERVING (R545). -/
def sReady (s : State) : Bool := decide (s.pwr.sState = 1 ∨ s.pwr.sState = 2)

/-- The comparison outputs and the claim line at a marker (R419, R420): TAN_PPS_OUT is high for 100 µs from each second. -/
def comparisonOut (s : State) : State :=
  let sy := claimSymbols (tanOn s) s.tan.own
  s.setTan { s.tan with
    ppsOut := sReady s && decide (replicaTime s 0 % s1 < 100 * us1), tenOut := sReady s
    outGroups := encSymbols sy s.tan.lineRd, lineRd := disparityAfter sy s.tan.lineRd }

/-- The reply of TAN_CLAIM_SET (R443). -/
def claimReply (s : State) : List Byte := le 1 s.tan.sentClaim ++ le 1 s.tan.partner ++ le 1 s.tan.role ++ zeros 1

/-- CLAIM_SEND (R420, R443): a claim word and a CLAIM_FRAME at a marker; the TAN_CLAIM_SETs it carries answer. -/
def claimSend (s : State) : State :=
  if !tanOn s then s.setTan { s.tan with sentValid := false, sentClaim := 0, outFrame := [] }
  else
    let a := s.setTan { s.tan with
      sentValid := true, sentClaim := s.tan.own, outFrame := claimFrameBytes s, claimsHeld := [] }
    s.tan.claimsHeld.foldl (fun t id => answerHeld id (fun _ u => ok u (claimReply u)) t) a

/-- The meaning of CLAIM_SEND: a marker of the unit's own timescale. -/
def execClaimSend (s : State) : Out := doneHeld s (claimSend (comparisonOut s))

/-- Whether this unit wins a tie (R426): the lower SERIAL with the link up, otherwise the unit with PREFER set. -/
def winsTie (s : State) : Bool :=
  match s.tan.linkUp, s.tan.word with
  | true, some w => decide (Config.serial < w.serial)
  | _, _ => bit s.tan.cfg.flags 1

/-- The run a tie has lasted (R426) and whether this unit's own act has not ended it. -/
def tieStalled (s : State) (standby active : Nat) : Bool :=
  !(s.tan.linkUp && s.tan.word.isSome) &&
  ((decide (2000 ≤ standby) && !winsTie s) || (decide (2000 ≤ active) && winsTie s))

/-- The claim of k at a check instant (R421): the claim line's, else the link's, else missed. -/
def judgeClaim (lineWord : Option Nat) (s : State) : State :=
  let t := s.tan
  let v := lineWord.or t.frameClaim
  let miss := if v.isSome then 0 else min 5 (t.missedRun + 1)
  let lost := decide (miss = 4)
  let bad := if lineWord.isSome then 0 else min 4 (t.lineMissRun + 1)
  let good := if lineWord.isSome then min 1000 (t.lineGoodRun + 1) else 0
  s.setTan { t with
    frameClaim := none, missedRun := miss
    partner := match v with | some c => c % 256 | none => if lost then 0 else t.partner
    timeouts := if lost then satInc sat32 t.timeouts else t.timeouts
    missedWords := if lineWord.isSome then t.missedWords else satInc sat32 t.missedWords
    lineMissRun := bad, lineGoodRun := good
    lineOk := if 4 ≤ bad then false else if 1000 ≤ good then true else t.lineOk }

/-- Promotion and its loss at a check instant (R426). -/
def judgeTie (s : State) : State :=
  let t := s.tan
  let run (c : Bool) (n : Nat) : Nat := if c then min 2000 (n + 1) else 0
  let nil := run (decide (t.partner = 0) && decide (t.own ≠ 0)) t.zeroRun
  let stand := run (decide (t.own = t.cfg.standby) && decide (t.partner = t.cfg.standby)) t.standbyRun
  let act := run (decide (t.own = t.cfg.active) && decide (t.partner = t.cfg.active)) t.activeRun
  let gains := decide (1000 ≤ nil) || (decide (1000 ≤ stand) && winsTie s)
  let loses := decide (1000 ≤ act) && !winsTie s
  s.setTan { t with
    zeroRun := nil, standbyRun := stand, activeRun := act, tieStall := tieStalled s stand act
    promoted := if loses then false else t.promoted || (gains && decide (t.own ≠ 0)) }

/-- The enable condition of the shared drivers at a check instant (R428). -/
def judgeDriver (s : State) : State :=
  let t := s.tan
  if t.sentValid ∧ t.partner < t.sentClaim then
    let n := min 2 (t.condRun + 1)
    s.setTan { t with
      condRun := n
      armedAt := if n = 2 ∧ !t.driving ∧ t.armedAt.isNone then some ((replicaTime s 0 / us1 + 1) * us1) else t.armedAt }
  else setDriving false (s.setTan { t with condRun := 0, armedAt := none })

/-- CLAIM_CHECK (R421, R426 to R428): a check instant; `words` are the triples of code groups received on CLAIM_IN since the
last one, of which the first valid one counts. -/
def claimCheck (words : List (List Nat)) (s : State) : State :=
  if !tanOn s then s
  else tanConds (settleRole (decideClaim (judgeDriver (judgeTie (judgeClaim (words.findSome? claimOfLine) s)))))

/-- The meaning of CLAIM_CHECK. -/
def execClaimCheck (words : List (List Nat)) (s : State) : Out := done s (claimCheck words s)

/-- SHARED_DRIVER_ENABLE (R428): the marker at which the armed drivers enable. -/
def sharedDriverEnable (s : State) : State :=
  match s.tan.armedAt with
  | some m =>
    if m ≤ replicaTime s 0 ∧ s.tan.sentValid then
      setDriving true ((List.range 16).foldl holdLow (s.setTan { s.tan with armedAt := none }))
    else s
  | none => s

/-- The meaning of SHARED_DRIVER_ENABLE. -/
def execSharedDriverEnable (s : State) : Out := done s (sharedDriverEnable s)

/-- A link frame of a type and length whose CRC is right (R423): its bytes before the CRC. -/
def linkFrame (type len : Nat) (b : List Byte) : Option (List Byte) :=
  let body := b.take (b.length - 4)
  if b.length = len ∧ rd b 0 1 = type ∧ b = withCrc body then some body else none

/-- CLAIM_FRAME (R421 to R423): one is received, or is missing. -/
def claimFrame (bytes : Option (List Byte)) (s : State) : State :=
  let t := s.tan
  if !tanOn s then s
  else tanConds (match bytes.bind (linkFrame 1 17) with
  | some b =>
    let good := min 1000 (t.linkGood + 1)
    settleRole (s.setTan { t with
      linkGood := good, linkBad := 0, linkUp := t.linkUp || decide (good = 1000)
      frameClaim := t.frameClaim.or (some (rd b 5 1)), echo := rd b 6 1
      cmp := { t.cmp with partnerSettled := bit (rd b 7 1) 1 } })
  | none =>
    let bad := min 4 (t.linkBad + 1)
    settleRole (s.setTan { t with linkGood := 0, linkBad := bad, linkUp := t.linkUp && decide (bad < 4) }))

/-- The meaning of CLAIM_FRAME. -/
def execClaimFrame (bytes : Option (List Byte)) (s : State) : Out := done s (claimFrame bytes s)

/-- An optional interval of a link frame (R423). -/
def rdBeOptIv (p : List Byte) (off : Nat) : Option Interval :=
  if rdBe p off 8 = noInterval then none else some (rdBeI p off 8)

/-- A TIME_WORD's fields (R423). -/
def tandemWord (b : List Byte) : TimeWord :=
  { boundary := rdBeTime b 1, bound := rdBe b 17 4, clockClass := rd b 21 1, mState := rd b 22 1, selected := rd b 23 1
    flags := rd b 24 1, utcOffset := rdBeI b 25 2, step := rdBeI b 27 8, effective := rdBeTime b 35
    phases := (List.range 20).map (fun i => rdBeOptIv b (51 + 8 * i)), verdict := rd b 211 1, serial := rdBe b 213 8 }

/-- Slot 19's event of a boundary (R18, R432), which waits for the slot's measurement report: the channel 13 edge that fell at it against the timescale's instant of it, with
the TIME_WORD's bound. -/
def tandemEvent (w : TimeWord) (s : State) : State :=
  match s.tan.edge13 with
  | none => s
  | some (at_, prov) =>
    tileEvent 19
      { at_ := at_, prov := prov, unlock := false, stale := false, invalid := false, phase := some (ftDiff at_ w.boundary)
        ub := w.bound
        tod := some (todFlags (ftSec w.boundary) w.utcOffset (bit w.flags 0) (bit w.flags 1) (bit w.flags 2)) }
      (s.setTan { s.tan with edge13 := none })

/-- TIME_WORD (R423, R424, R432): a good one is relayed to Nuheif; a verdict the partner alone has declared is counted (R442). -/
def timeWord (bytes : Option (List Byte)) (s : State) : State :=
  match bytes.bind (linkFrame 2 225) with
  | some b =>
    let w := tandemWord b
    let v := if w.verdict ≠ 0 ∧ s.tan.cmp.verdict = 0 then satInc sat32 s.tan.verdicts else s.tan.verdicts
    tandemEvent w (s.setTan { s.tan with word := some w, wordFresh := true, verdicts := v })
  | none => s

/-- The meaning of TIME_WORD. -/
def execTimeWord (bytes : Option (List Byte)) (s : State) : Out := done s (timeWord bytes s)

/-- MIRROR (R423, R438). -/
def mirrorFrame (bytes : Option (List Byte)) (s : State) : State :=
  match bytes.bind (linkFrame 3 77) with
  | some b => s.setTan { s.tan with mirror := (b.drop 1).take 64, partnerGen := rdBe b 65 8 }
  | none => s

/-- The meaning of MIRROR. -/
def execMirror (bytes : Option (List Byte)) (s : State) : Out := done s (mirrorFrame bytes s)

/-- The phase of a slot as TIME_WORD carries it (R423): of a QUALIFIED slot of COMMON_SLOTS. -/
def sharedPhase (s : State) (i : Nat) : Option Interval :=
  if bit s.tan.cfg.common i && qualified s i then (s.slot i).pts.head?.map (·.phase) else none

/-- The step a TIME_WORD carries (R433): the first pending one that is not zero. -/
def shownStep (s : State) : Option PendingStep := s.sel.steps.find? (fun p => decide (p.size ≠ 0))

/-- The TIME_WORD of the last computation (R423): clock state from the replica of the S tile, the rest from Nuheif. -/
def timeWordBytes (s : State) : List Byte :=
  let f := (s.replica 0).frame
  let st := shownStep s
  withCrc (be 1 2 ++ beTime (replicaTime s 0 / ms1 * ms1) ++ be 4 f.bound ++ be 1 f.clockClass ++ be 1 f.mState ++ be 1 f.selSlot ++
    be 1 (flag 0 f.utcValid + flag 1 f.leap61 + flag 2 f.leap59 + flag 3 f.uncertain + flag 4 f.warmup + flag 5 st.isSome) ++
    beI 2 f.utcOffset ++ beI 8 (satI ((st.map (·.size)).getD 0)) ++ beTime ((st.map (·.effective)).getD 0) ++
    (List.range 20).flatMap (fun i => beOptIv (sharedPhase s i)) ++ be 1 s.tan.cmp.verdict ++ zeros 1 ++ be 8 Config.serial)

/-- Nuheif's tandem report (R424) in 256 bytes: phases, step, verdict, SLAVED_SETTLED, and what TAN_STATUS shows of the
comparison and of slot 19. -/
def tandemReportBytes (s : State) : List Byte :=
  let st := shownStep s
  fit 256 ((List.range 20).flatMap (fun i => leOptIv (sharedPhase s i)) ++ leIv (satI ((st.map (·.size)).getD 0)) ++
    leTime ((st.map (·.effective)).getD 0) ++ le 1 s.tan.cmp.verdict ++
    le 1 (flag 0 s.tan.cmp.settled + flag 1 s.tan.cmp.unchecked + flag 2 s.tan.cmp.latched) ++ leOptIv (s.slot 19).phase)

/-- Seconds of REJOIN_HOLD left (R442). -/
def rejoinLeft (s : State) : Nat :=
  match s.tan.rejoinAt with
  | some t => if s.tan.dropped then divUp (t + s.tan.cfg.rejoin * 1000000000 - s.now) 1000000000 else 0
  | none => 0

/-- The reply of TAN_STATUS (R442). -/
def tanStatusBytes (s : State) : List Byte :=
  let t := s.tan
  le 1 t.role ++ le 1 t.sentClaim ++ le 1 t.partner ++ le 1 t.echo ++
  le 1 (flag 0 t.lineOk + flag 1 t.linkUp + flag 2 t.driving + flag 3 (decide ((s.replica 0).frame.selSlot = 19)) +
    flag 4 (reportFlag s 1) + flag 5 (reportFlag s 2) + flag 6 t.tieStall + flag 7 t.maintenance) ++
  le 1 t.dropCause ++ le 2 (min sat16 (rejoinLeft s)) ++ le 8 ((t.word.map (·.serial)).getD 0) ++
  le 4 t.missedWords ++ le 4 t.timeouts ++ le 4 t.handovers ++ le 4 t.verdicts ++ le 8 t.partnerGen ++
  le 4 ((t.word.map (·.bound)).getD 0) ++ le 1 ((t.word.map (·.mState)).getD 0) ++ le 1 ((t.word.map (·.clockClass)).getD 0) ++
  le 1 ((t.word.map (·.selected)).getD 0xFF) ++ zeros 1 ++ (if s.bus.tandemReport = [] then le 8 noInterval else (s.bus.tandemReport.drop 186).take 8) ++ le 8 t.lastHandover

/-- TANDEM_REPORT (R423, R424): the report of a computation, and the TIME_WORD and MIRROR that follow it. -/
def tandemReport (s : State) : State :=
  if !tanOn s then s
  else
    let t := { s with bus := { s.bus with tandemReport := tandemReportBytes s } }
    t.setTan { t.tan with outWord := timeWordBytes t, outMirror := withCrc (be 1 3 ++ tanStatusBytes t ++ be 8 t.kcp.g) }

/-- The meaning of TANDEM_REPORT. -/
def execTandemReport (s : State) : Out := done s (tandemReport s)

/-- SLAVED_SETTLED (R435): slot 19 is selected and no settle runs. -/
def slavedSettled (s : State) : Bool := decide (s.sel.st.selected = some 19) && !s.sel.settling

/-- The channel 12 edge of the last millisecond against the unit's own second, less CAL_DELAY (R435). -/
def ch12Phase (s : State) : Option Interval :=
  match (s.chan 12).last with
  | none => none
  | some r =>
    let age : Int := (s.tim.tick * 262144 : Nat) - edge5 r
    if r.invalid ∨ r.unlock ∨ 1250000 * 262144 < age then none
    else
      let t : Int := (s.acc : Int) - age * 65536 * (2 ^ 48 + s.osc.rate) / (5 * 2 ^ 48)
      let sec := divNear t.toNat s1 * s1
      some (satI (divTrunc (t - sec) (2 ^ 16) - (s.slot 19).cfg.calDelay))

/-- A phase beyond TAN_THRESHOLD (R435). -/
def beyond (s : State) (v : Interval) : Bool := decide (s.tan.lim.threshold * 1024 < v.natAbs)

/-- The compared event of this computation (R435): whether it disagrees; none when there is none. -/
def compared (s : State) : Option Bool :=
  let t := s.tan
  let settled := if t.role = 2 then t.cmp.partnerSettled else slavedSettled s
  if !tanOn s || !t.linkUp || !t.wordFresh || !settled then none
  else match (s.slot 19).phase with
    | none => none
    | some v => some (beyond s v || (ch12Phase s).any (beyond s))

/-- This unit is the farther one (R435). -/
def farther (s : State) : Bool :=
  let active := decide (s.tan.role = 2)
  let sel := if active then s.sel.st.selected else
    match s.tan.word with | some w => if w.selected = 0xFF then none else some w.selected | none => none
  match sel with
  | none => !active
  | some i =>
    match sharedPhase s i, s.tan.word.bind (fun w => (w.phases.getD i none)) with
    | some a, some b => if a.natAbs = b.natAbs then !active else decide (b.natAbs < a.natAbs)
    | _, _ => !active

/-- The verdict of a declaration (R435, R436): the farther unit drops its claim; none while a claim is 0. -/
def tandemVerdict (s : State) : State :=
  let t := s.tan
  if t.own = 0 ∨ t.partner = 0 then s
  else
    let far := farther s
    decideClaim (s.setTan { t with
      verdicts := satInc sat32 t.verdicts, dropped := t.dropped || far, rejoinAt := if far then none else t.rejoinAt
      cmp := { t.cmp with verdict := if far then 1 else 2 } })

/-- One compared event (R121, R435 to R437): it extends or ends the run; the N-th that disagrees declares. -/
def tandemCompare (disagree : Bool) (s : State) : State :=
  let c := s.tan.cmp
  let n := s.tan.lim.tDisc
  if disagree then
    let a := s.setTan { s.tan with cmp := { c with run := min sat32 (c.run + 1), unchecked := false } }
    if n ≤ c.run + 1 ∧ !c.latched then
      tandemVerdict (setSticky 0 7 (a.setTan { a.tan with cmp := { a.tan.cmp with
        latched := true, discCount := satInc sat16 c.discCount } }))
    else a
  else
    s.setTan { s.tan with
      cmp := { c with
        run := 0, latched := false, unchecked := false
        nearMiss := if c.run ≠ 0 ∧ c.run + 1 = n then satInc sat32 c.nearMiss else c.nearMiss }
      rejoinAt := if c.latched && s.tan.dropped then some s.now else s.tan.rejoinAt }

/-- The tandem's part of a computation (R435). -/
def tandemCompute (s : State) : State :=
  if !tanOn s then s
  else
    let e := compared s
    let a := s.setTan { s.tan with
      wordFresh := false, cmp := { s.tan.cmp with verdict := 0, settled := slavedSettled s, unchecked := true } }
    match e with
    | some d => tandemCompare d a
    | none => a

/-- REJOIN_HOLD_EXPIRY (R437): REJOIN_HOLD after the latch cleared. -/
def rejoinHoldExpiry (s : State) : State :=
  let t := s.tan
  match t.rejoinAt with
  | some r =>
    if t.dropped ∧ !t.cmp.latched ∧ t.cfg.rejoin ≠ 0 ∧ r + t.cfg.rejoin * 1000000000 ≤ s.now then
      decideClaim (s.setTan { t with dropped := false, rejoinAt := none })
    else s
  | none => s

/-- The meaning of REJOIN_HOLD_EXPIRY. -/
def execRejoinHoldExpiry (s : State) : Out := done s (rejoinHoldExpiry s)

/-- TAN_CONFIG's record (R441). -/
def tanRecord (c : TanCfg) : List Byte :=
  le 1 c.flags ++ le 1 c.active ++ le 1 c.standby ++ zeros 1 ++ le 2 c.shared ++ zeros 2 ++ le 4 c.slaveBw ++ le 4 c.rejoin ++
  le 4 c.common ++ zeros 4

/-- The record of a TAN_CONFIG payload. -/
def tanParse (p : List Byte) : TanCfg :=
  ⟨rd p 0 1, rd p 1 1, rd p 2 1, rd p 4 2, rd p 8 4, rd p 12 4, rd p 16 4⟩

/-- A loop-back is held on the tandem link (R571). -/
def tanLoop (s : State) : Bool := decide ((tget {} s.tst.loops (4096 * 7)).depth ≠ 0)

/-- A TAN_CONFIG in force: clearing ENABLE ends the pair's roles, setting it starts them at rest. -/
def putTan (c : TanCfg) (s : State) : State :=
  let a := s.setTan { s.tan with cfg := c }
  let b := if bit c.flags 0 = tanOn s then a else
    setDriving false (a.setTan { a.tan with
      promoted := false, release := false, maintenance := false, dropped := false, rejoinAt := none
      zeroRun := 0, standbyRun := 0, activeRun := 0, tieStall := false, condRun := 0, armedAt := none
      lineOk := false, lineMissRun := 0, lineGoodRun := 0, linkUp := false, linkGood := 0, linkBad := 0
      missedRun := 0, partner := 0, frameClaim := none, sentValid := false, sentClaim := 0
      cmp := { a.tan.cmp with run := 0, latched := false, unchecked := bit c.flags 0 } })
  tanConds (decideClaim (rewriteWord 8 0 b))

/-- TAN_CONFIG (R441). -/
def bodyTanConfig : Body := fun c s =>
  let p := c.req.payload
  let n := tanParse p
  let o := s.tan.cfg
  if p = [] then ok s (tanRecord o)
  else if p.length ≠ 24 then badLen s
  else checked s
    [(0, decide (n.flags < 4)), (1, decide (2 ≤ n.active) && decide (n.active ≤ 254)),
     (2, decide (1 ≤ n.standby) && decide (n.standby ≤ 253) && decide (n.standby < n.active)), zeroAt p 3 1, zeroAt p 6 2,
     (8, decide (1000 ≤ n.slaveBw) && decide (n.slaveBw ≤ 100000)), (12, decide (n.rejoin ≤ 86400)),
     (16, decide (n.common < 2 ^ 19)), zeroAt p 20 4]
    (if bit o.flags 0 && bit n.flags 0 && decide ((o.active, o.standby, o.shared) ≠ (n.active, n.standby, n.shared)) then err s stSTATE
     else if bit n.flags 0 && !bit o.flags 0 && tanLoop s then err s stSTATE
     else ok (putTan n s) (tanRecord n))

/-- The meaning of TAN_CONFIG. -/
def execTanConfig (rq : Request) (s : State) : Out := kcpRow 0x0D01 (leastPriv s 0x0D01 rq.payload) bodyTanConfig rq s

/-- TAN_STATUS (R442). -/
def bodyTanStatus : Body := fun c s => if c.req.payload = [] then ok s (tanStatusBytes s) else badLen s
/-- The meaning of TAN_STATUS. -/
def execTanStatus (rq : Request) (s : State) : Out := kcpRow 0x0D02 (leastPriv s 0x0D02 rq.payload) bodyTanStatus rq s

/-- TAN_CLAIM_SET (R437, R443): the reply comes with the first claim word that carries the result. -/
def bodyTanClaimSet : Body := fun c s =>
  let p := c.req.payload
  let m := rd p 0 1
  let t := s.tan
  if p.length ≠ 4 then badLen s
  else checked s [(0, decide (m ≤ 2)), zeroAt p 1 3]
    (if !tanOn s then err s stSTATE
     else if m = 2 ∧ (t.partner = 255 ∨ ownFault s ≠ 0) then err s stSTATE
     else
       let back := decide (m = 0) && decide (t.cfg.rejoin = 0) && !t.cmp.latched
       held (decideClaim (s.setTan { t with
         release := decide (m = 1), maintenance := decide (m = 2), dropped := t.dropped && !back
         claimsHeld := t.claimsHeld ++ [c.id] })))

/-- TAN_CLAIM_SET with MODE 0. -/
def execTanClaimAuto (rq : Request) (s : State) : Out := kcpRow 0x0D03 (leastPriv s 0x0D03 (withByte 0 0 rq).payload) bodyTanClaimSet (withByte 0 0 rq) s
/-- TAN_CLAIM_SET with MODE 1. -/
def execTanClaimRelease (rq : Request) (s : State) : Out := kcpRow 0x0D03 (leastPriv s 0x0D03 (withByte 0 1 rq).payload) bodyTanClaimSet (withByte 0 1 rq) s
/-- TAN_CLAIM_SET with MODE 2. -/
def execTanClaimMaintenance (rq : Request) (s : State) : Out := kcpRow 0x0D03 (leastPriv s 0x0D03 (withByte 0 2 rq).payload) bodyTanClaimSet (withByte 0 2 rq) s

/-- The reply of TAN_COMPARE_LIMITS (R444). -/
def tanLimBytes (s : State) : List Byte :=
  let l := s.tan.lim
  let c := s.tan.cmp
  le 4 l.threshold ++ le 4 l.tDisc ++ zeros 8 ++ le 4 l.tDisc ++ le 4 c.run ++ le 4 c.nearMiss ++ le 2 c.discCount ++
  le 1 (flag 0 c.latched + flag 1 c.unchecked) ++ zeros 1

/-- TAN_COMPARE_LIMITS (R122, R444): with P 1 ms, N is T_DISC in ms. -/
def bodyTanCompareLimits : Body := fun c s =>
  let p := c.req.payload
  if p = [] then ok s (tanLimBytes s)
  else if p.length ≠ 16 then badLen s
  else checked s
    [(0, decide (0x40 ≤ rd p 0 4) && decide (rd p 0 4 ≤ 0xFA00)), (4, decide (1 ≤ rd p 4 4) && decide (rd p 4 4 ≤ 60000)), zeroAt p 8 8]
    (let t := s.setTan { s.tan with lim := ⟨rd p 0 4, rd p 4 4⟩ }
     ok t (tanLimBytes t))

/-- The meaning of TAN_COMPARE_LIMITS. -/
def execTanCompareLimits (rq : Request) (s : State) : Out :=
  kcpRow 0x0D04 (leastPriv s 0x0D04 rq.payload) bodyTanCompareLimits rq s

end Sys2Proof.Machine
end

