-- ==== Sys2Proof/Machine/Comp.lean ====
section
/-! DEFINITION. The 1 ms computation of Nuheif (R57, R139, R165, R174, R183, R435, R593). -/

namespace Sys2Proof.Machine
open Sys2Proof

/-- COMPUTATION: a step whose marker has come takes effect first; the work of the instant that is due follows, and the
comparison with the tandem partner. Nothing happens while no computation is due. `tempM` is what the M-tile die sensor reads
(R72, R170). -/
def computation (tempM : Int) (s : State) : State :=
  if !computing s then s
  else
    let a := stepEffective s
    if a.acc < a.bnd.nextComp then a else tandemCompute (computeAt (computationAt a) (a.setTb { a.tim.tb with tempM := tempM }))

/-- The meaning of COMPUTATION; a TIME_SET that it commits or ends answers. -/
def execComputation (tempM : Int) (s : State) : Out := .next (answerTimeSet (commitG s (computation tempM s)))

end Sys2Proof.Machine
end

