-- ==== Sys2Proof/Machine/Syn.lean ====
section
/-! DEFINITION. Output APLLs, PPS and FOUT outputs, sample clocks, reference clocks and the commands of group 0x0E
(spec/18_synthesizers_outputs.md). -/

namespace Sys2Proof.Machine
open Sys2Proof

/-- The first whole second of field time at least 1 ms ahead (R448). -/
def resumeInstant (s : State) : FieldTime := divUp ((replicaTime s 0) + ms1) s1 * s1

/-- The outputs an APLL feeds. -/
def outputsOf (s : State) (a : Nat) : List Nat := (List.range 16).filter (fun o => outApll s o == a)

/-- The outputs of an APLL that loses its lock are gated, and no longer follow SYNC_IN (R447, R459). -/
def unsync (a : Nat) (s : State) : State :=
  (outputsOf s a).foldl (fun t o => t.setOutp o { t.outp o with synced := false }) s

/-- A phase error lies within `n` times LOCK_WIN (R447). -/
def withinWin (x : Apll) (n : Nat) (e : Interval) : Bool := decide (e.natAbs * 1000 ≤ n * x.cfg.lockWin * 65536)

/-- The phase error has stayed within LOCK_WIN for LOCK_N consecutive cycles (R447). -/
def lockReached (x : Apll) (runs : List (Nat × Interval)) : Bool :=
  decide (x.cfg.lockN ≤ ((runs.reverse.takeWhile (fun r => withinWin x 1 r.2)).map (·.1)).sum)

/-- Lock is lost (R447): the phase error exceeds LOCK_WIN at 4 consecutive cycles, or 4 × LOCK_WIN at any one. -/
def lockLost (x : Apll) (l : List Interval) : Bool :=
  l.any (fun e => !withinWin x 4 e) ||
  (List.range l.length).any (fun i => decide (i + 4 ≤ l.length) && ((l.drop i).take 4).all (fun e => !withinWin x 1 e))

/-- APLL_LOCK (R447, R448): lock is declared; its outputs resume at R. -/
def apllLock (w : ApllCycles) (s : State) : State :=
  let a := w.apll
  let x := s.apll a
  if !x.cfg.enable || x.locked || !lockReached x w.runs then s
  else setCond 6 (16 + a) false (s.setApll a { x with
    locked := true, inputLost := false, lockedAt := s.now, resumed := false, resumeAt := some (resumeInstant s) })

/-- The meaning of APLL_LOCK. -/
def execApllLock (w : ApllCycles) (s : State) : Out := guardUnit (decide (w.apll < 4)) s (done s (apllLock w s))

/-- The input of an APLL is lost. -/
def inputGone (w : ApllLoss) : Bool := match w with | .input => true | .errors _ => false

/-- What the row says loses the lock of an APLL (R447). -/
def lossHolds (x : Apll) (w : ApllLoss) : Bool := match w with | .input => true | .errors l => x.locked && lockLost x l

/-- APLL_UNLOCK (R447): loss of lock, or of input; the fault bit sets and every output it feeds is gated. -/
def apllUnlock (a : Nat) (w : ApllLoss) (s : State) : State :=
  let x := s.apll a
  if !x.cfg.enable || !lossHolds x w then s
  else
    unsync a (setCond 6 (16 + a) true (s.setApll a { x with
      locked := false, inputLost := inputGone w, resumed := false, resumeAt := none
      unlocks := if x.locked then satInc sat32 x.unlocks else x.unlocks }))

/-- The meaning of APLL_UNLOCK. -/
def execApllUnlock (a : Nat) (w : ApllLoss) (s : State) : Out :=
  guardUnit (decide (a < 4)) s (done s (apllUnlock a w s))

/-- OUTPUT_RESUME (R448, R459): at R the gated outputs of an APLL restart on their grids. -/
def outputResume (a : Nat) (s : State) : State :=
  let x := s.apll a
  match x.resumeAt with
  | some r =>
    if r ≤ (replicaTime s 0) ∧ x.locked then
      (outputsOf s a).foldl (fun t o => t.setOutp o { t.outp o with syncGate := false })
        (s.setApll a { x with resumed := true, resumeAt := none })
    else s
  | none => s

/-- The meaning of OUTPUT_RESUME. -/
def execOutputResume (a : Nat) (s : State) : Out := guardUnit (decide (a < 4)) s (done s (outputResume a s))

/-- The pulse now due at a PPS output (R452): its label and leading edge, under the OFFSET that applies to it. -/
def pulseDue (s : State) (i : Nat) : Option (Nat × Int) :=
  let x := s.outp i
  let edge (off : Interval) : Option (Nat × Int) :=
    (labelAt (replicaTime s 0) off).map (fun k => (k, (k * s1 : Nat) + off * 65536))
  match edge (ppsRec s i).offset with
  | some e => if (x.offsetFrom : Int) ≤ e.2 then some e else (edge x.prevOffset).filter (fun p => decide (p.2 < x.offsetFrom))
  | none => none

/-- PPS_EDGE (R450 to R452): the pulse of a second label, once; a label already emitted is suppressed. -/
def ppsEdge (i : Nat) (s : State) : State :=
  let x := s.outp i
  match pulseDue s i with
  | none => s
  | some (k, e) =>
    if e ≤ x.pulseAt ∨ outMarker s i then s
    else
      let y := { x with pulseAt := e.toNat, pulseEnd := e.toNat + pulseWidth s i, drove := false }
      if !outDrives s i then s.setOutp i y
      else if labelEmitted x.labels k then s.setOutp i { y with suppressed := satInc sat32 x.suppressed }
      else s.setOutp i { y with labels := addLabel x.labels k, drove := true }

/-- The meaning of PPS_EDGE. -/
def execPpsEdge (output : Nat) (s : State) : Out := guardUnit (decide (output < 4)) s (done s (ppsEdge output s))

/-- OUT_PATH holds (R454). -/
def outPath (s : State) : Bool := [0, 1].any (fun i => decide (tget 0 s.syn.loopBad i = 3))

/-- LOOP_ERR (R454): the measured instant of a looped edge against that of the pulse and the factory loop-path delay. -/
def loopErrOf (s : State) (i : Nat) (t : FieldTime) : Interval := ftDiff t (s.outp i).pulseAt - Config.loopPath i

/-- One compared second of PPS0 or PPS1 (R454); one that its own driver did not drive is not compared. -/
def loopSecond (i : Nat) (edge : Option FieldTime) (s : State) : State :=
  let y := s.syn
  match (if (s.outp i).drove && !outMarker s i then edge.map (loopErrOf s i) else none) with
  | none => { s with syn := { y with loopErr := tset none y.loopErr i none } }
  | some e =>
    let tooFar := decide (s.syn.checkLimit * 65536 < e.natAbs * 1000)
    let bad := tget 0 y.loopBad i
    let good := if tooFar then 0 else min 3 (tget 0 y.loopGood i + 1)
    let next := if tooFar then min 3 (bad + 1) else if bad = 3 ∧ good < 3 then 3 else 0
    { s with syn := { y with
        loopErr := tset none y.loopErr i (some e), loopBad := tset 0 y.loopBad i next, loopGood := tset 0 y.loopGood i good } }

/-- LOOP_CHECK (R454): the looped leading edges of PPS0 and PPS1 of a second, as channels 14 and 15 measure them. -/
def loopCheck (edge0 edge1 : Option FieldTime) (s : State) : State :=
  let a := loopSecond 1 edge1 (loopSecond 0 edge0 s)
  if outPath a = outPath s then a else setCond 0 8 (outPath a) a

/-- The meaning of LOOP_CHECK. -/
def execLoopCheck (edge0 edge1 : Option FieldTime) (s : State) : Out := done s (loopCheck edge0 edge1 s)

/-- A sample clock's start instant as a fraction of 2^-32 ns (R457): the first BCLK rising edge at or before
EPOCH_START − LEAD × T_f. -/
def startInstant (fvco : Nat) (c : SclkCfg) : Int × Nat :=
  ((c.epochStart * fvco : Nat) - (divUp (c.lead * c.frameB) c.frameA * c.bclkDiv * us1 : Nat), fvco)

/-- SAMPLE_CLOCK_START (R457). -/
def sampleClockStart (i : Nat) (s : State) : State :=
  let o := 8 + i
  let st := startInstant (outFvco s o) (sclkRec s i)
  if outEnabled s o && !(s.outp o).started && decide (st.1 ≤ (replicaTime s 0) * st.2) then
    s.setOutp o { s.outp o with started := true }
  else s

/-- The meaning of SAMPLE_CLOCK_START. -/
def execSampleClockStart (clock : Nat) (s : State) : Out := guardUnit (decide (clock < 8)) s (done s (sampleClockStart clock s))

/-- One frame of a sample clock, rounded to the nearest VCO period (R458). -/
def frameWidth (s : State) (o : Nat) : Nat :=
  let c := sclkRec s (o - 8)
  divNear (divNear (c.bclkDiv * c.frameB) c.frameA * us1) (outFvco s o)

/-- EPOCH_START_MARKER (R458): at EPOCH_START the PPS output named by MARKER_OUT emits one pulse, unless the sample clock
is gated or restarted by SYNC_IN. -/
def epochStartMarker (i : Nat) (s : State) : State :=
  let o := 8 + i
  let c := sclkRec s i
  let x := s.outp o
  if !outEnabled s o || decide (3 < c.markerOut) || decide ((replicaTime s 0) < c.epochStart) || decide (c.epochStart ≤ x.pulseAt) || x.synced then s
  else
    let t := s.setOutp o { x with pulseAt := c.epochStart }
    if outDrives s o then
      (if outDrives s c.markerOut && outMarker s c.markerOut then
        t.setOutp c.markerOut { t.outp c.markerOut with
          pulseAt := c.epochStart, pulseEnd := c.epochStart + frameWidth s o, drove := true } else t)
    else t.setOutp c.markerOut { t.outp c.markerOut with markerMissed := true }

/-- The meaning of EPOCH_START_MARKER. -/
def execEpochStartMarker (clock : Nat) (s : State) : Out := guardUnit (decide (clock < 8)) s (done s (epochStartMarker clock s))

/-- SYNC_IN_EDGE (R459): an armed SYNC_IN restarts every running output with SYNC_EN, from the 256th VCO edge after the capture
on its APLL's VCO clock; `wide` says the edge is a valid one. -/
def syncInEdge (wide : Bool) (s : State) : State :=
  if !s.syn.syncArmed || !wide then s
  else (List.range 16).foldl (fun t o =>
    if 4 ≤ o ∧ outSyncEn t o ∧ outDrives t o then t.setOutp o { t.outp o with
      synced := true, lengthen := 0, lengthenB := 0, syncEdge := divUp (replicaTime t 0 * outFvco t o) us1 + 256 } else t)
    { s with syn := { s.syn with syncArmed := false } }

/-- The meaning of SYNC_IN_EDGE. -/
def execSyncInEdge (wide : Bool) (s : State) : Out := done s (syncInEdge wide s)

/-- SEED's default (R464). -/
def seedBase (a : Nat) : Nat := 0x5A5A0000 + a
/-- SYN_CONFIG's record (R464). -/
def synRecord (s : State) (a : Nat) : List Byte :=
  let c := (s.apll a).cfg
  le 1 a ++ le 1 (flag 0 c.enable) ++ zeros 2 ++ le 4 c.fvco ++ le 4 c.bw ++ le 4 (c.seedDelta ^^^ seedBase a) ++ le 2 c.lockWin ++
  le 2 s.syn.checkLimit ++ le 4 c.lockN

/-- A SYN_CONFIG write in force (R464): a change of F_VCO, LOOP_BW, SEED or ENABLE restarts the APLL. -/
def putSyn (a : Nat) (c : SynCfg) (limit : Nat) (arm : Bool) (s : State) : State :=
  let x := s.apll a
  let o := x.cfg
  let restart := decide ((o.enable, o.fvco, o.bw, o.seedDelta) ≠ (c.enable, c.fvco, c.bw, c.seedDelta))
  let t := { s with syn := { s.syn with checkLimit := limit, syncArmed := s.syn.syncArmed || arm } }
  rewriteWord 6 a (if restart then
    let u := unsync a (t.setApll a { x with cfg := c, locked := false, resumed := false, resumeAt := none })
    if c.enable then u else setCond 6 (16 + a) false u
  else t.setApll a { x with cfg := c })

/-- SYN_CONFIG (R464). -/
def bodySynConfig : Body := fun c s =>
  let p := c.req.payload
  let a := rd p 0 1
  if p.length = 1 then checked s [(0, decide (a < 4))] (ok s (synRecord s a))
  else if p.length ≠ 24 then badLen s
  else
    let n : SynCfg := ⟨bit (rd p 1 1) 0, rd p 4 4, rd p 8 4, rd p 12 4 ^^^ seedBase a, rd p 16 2, rd p 20 4⟩
    checked s
      [(0, decide (a < 4)), (1, decide (rd p 1 1 < 2)), (2, decide (rd p 2 1 < 2)), zeroAt p 3 1,
       (4, decide (10000 ≤ n.fvco) && decide (n.fvco ≤ 12000)),
       (8, decide (100 ≤ n.bw) && decide (n.bw ≤ 2000) && decide (n.bw % 100 = 0)),
       (16, decide (10 ≤ n.lockWin) && decide (n.lockWin ≤ 1000)), (18, decide (100 ≤ rd p 18 2) && decide (rd p 18 2 ≤ 10000)),
       (20, decide (64 ≤ n.lockN) && decide (n.lockN ≤ 1048576))]
      (if !n.enable && (outputsOf s a).any (outEnabled s) then err s stSTATE
       else
         let t := putSyn a n (rd p 18 2) (rd p 2 1 == 1) s
         ok t (synRecord t a))

/-- The meaning of SYN_CONFIG. -/
def execSynConfig (rq : Request) (s : State) : Out := kcpRow 0x0E01 (leastPriv s 0x0E01 rq.payload) bodySynConfig rq s
/-- SYN_CONFIG with ACTION 1. -/
def execSyncInArm (rq : Request) (s : State) : Out :=
  let q := withByte 2 1 rq
  kcpRow 0x0E01 (leastPriv s 0x0E01 q.payload) bodySynConfig q s

/-- STATE of an APLL (R465). -/
def apllState (x : Apll) : Nat := if !x.cfg.enable then 0 else if !x.locked then 1 else if x.resumeAt.isSome then 3 else 2

/-- An APLL record of SYN_STATUS (R465); `err` is the phase error of the last cycle, which no rule gives. -/
def apllBytes (s : State) (a err : Nat) : List Byte :=
  let x := s.apll a
  le 1 (apllState x) ++ le 1 (flag 0 (s.tim.tb.running && !x.inputLost) + flag 1 (apllShared s a)) ++ zeros 2 ++ le 4 err ++ le 4 x.unlocks ++
  le 4 (if x.locked then min sat32 ((s.now - x.lockedAt) / 1000000000) else 0)

/-- STATE of an output (R465). -/
def outState (s : State) (o : Nat) : Nat :=
  if !outEnabled s o then 0
  else if outDrives s o then (if (s.outp o).synced then 4 else 3)
  else if 8 ≤ o ∧ !(s.outp o).started then 2 else 1

/-- An output record of SYN_STATUS (R465). -/
def outBytes (s : State) (o : Nat) : List Byte :=
  let x := s.outp o
  le 1 (outState s o) ++
  le 1 (flag 0 (outDrives s o) + flag 1 (shared s o) + flag 2 x.markerMissed + flag 3 (outSafe s o)) ++
  le 1 (outApll s o) ++ zeros 1 ++ le 4 x.steps ++ le 4 x.skipped ++ le 4 x.suppressed

/-- OUT_BOUND (R456): the frame's bound and the output path term of 6 steps (R455). -/
def outBound (s : State) : Bound :=
  let r := s.replica 0
  if r.unserved then unbounded else addB r.frame.bound 6

/-- SYN_STATUS (R465). -/
def bodySynStatus : Body := fun c s =>
  if c.req.payload ≠ [] then badLen s
  else
    let d := (List.range 4).foldl (fun (a : List Nat × State) _ =>
      let r := drawBelow (2 ^ 32) a.2
      (a.1 ++ [r.1], r.2)) ([], s)
    ok d.2 (le 4 (outBound s) ++ le 4 6 ++
      le 1 (flag 0 s.syn.syncArmed + flag 1 s.tim.tb.running + flag 2 (decide (s.syn.nvmeDownUsed ≠ 0))) ++ zeros 7 ++
      leOptIv (tget none s.syn.loopErr 0) ++ leOptIv (tget none s.syn.loopErr 1) ++
      (List.range 4).flatMap (fun a => apllBytes s a (d.1.getD a 0)) ++ (List.range 16).flatMap (outBytes s))

/-- The meaning of SYN_STATUS. -/
def execSynStatus (rq : Request) (s : State) : Out := kcpRow 0x0E02 (leastPriv s 0x0E02 rq.payload) bodySynStatus rq s

/-- OUT_PPS_CONFIG's record (R466). -/
def ppsBytes (s : State) (i : Nat) : List Byte :=
  let c := ppsRec s i
  le 1 i ++ le 1 c.flags ++ le 1 c.src ++ zeros 1 ++ leIv c.offset ++ le 4 c.width ++ le 8 c.divider

/-- A FOUT divider within R453: a whole number of hertz from 1 Hz to 1 GHz. -/
def dividerOk (fvco d : Nat) : Bool :=
  decide (10 ≤ d) && decide (d ≤ 12000000000) && decide (fvco * 1000000 % d = 0) && decide (fvco * 1000000 / d ≤ 1000000000)

/-- An OUT_PPS_CONFIG write in force (R452, R459). -/
def putPps (i : Nat) (c : PpsCfg) (s : State) : State :=
  let o := ppsRec s i
  let x := s.outp i
  let unset := bit o.flags 1 && !bit c.flags 1
  let a := { s with syn := { s.syn with pps := tset {} s.syn.pps i c } }
  let b := if i < 4 ∧ o.offset ≠ c.offset then
      a.setOutp i { x with
        prevOffset := if (x.offsetFrom : Int) ≤ (replicaTime s 0) then o.offset else x.prevOffset, offsetFrom := (replicaTime s 0) + ms1 }
    else a
  let d := if unset then
      let y := b.setOutp i { b.outp i with synced := false, syncGate := true }
      y.setApll c.src { y.apll c.src with resumeAt := (y.apll c.src).resumeAt.or (some (resumeInstant s)) }
    else b
  rewriteWord 6 (4 + i) d

/-- OUT_PPS_CONFIG (R466). -/
def bodyOutPpsConfig : Body := fun c s =>
  let p := c.req.payload
  let i := rd p 0 1
  if p.length = 1 then checked s [(0, decide (i < 8))] (ok s (ppsBytes s i))
  else if p.length ≠ 24 then badLen s
  else
    let n : PpsCfg := ⟨true, rd p 1 1, rd p 2 1, rdI p 4 8, rd p 12 4, rd p 16 8⟩
    let fvco := (s.apll n.src).cfg.fvco
    checked s
      [(0, decide (i < 8)), (1, decide (n.flags < 8) && !(decide (i < 4) && bit n.flags 1) && !(decide (4 ≤ i) && bit n.flags 2)),
       (2, decide (n.src < 4)), zeroAt p 3 1,
       (4, if i < 4 then decide (n.offset.natAbs ≤ 500000000 * 65536)
           else decide (0 ≤ n.offset) && decide (n.offset * fvco ≤ n.divider * 65536000)),
       (12, if i < 4 then decide (10 ≤ n.width) && decide (n.width ≤ 500000000) else n.width == 0),
       (16, if i < 4 then n.divider == 0 else dividerOk fvco n.divider)]
      (let t := putPps i n s
       ok t (ppsBytes t i))

/-- The meaning of OUT_PPS_CONFIG. -/
def execOutPpsConfig (rq : Request) (s : State) : Out := kcpRow 0x0E03 (leastPriv s 0x0E03 rq.payload) bodyOutPpsConfig rq s

/-- OUT_SAMPLE_CLOCK's record (R467). -/
def sclkBytes (s : State) (i : Nat) : List Byte :=
  let c := sclkRec s i
  le 1 i ++ le 1 c.flags ++ le 1 c.src ++ le 1 c.markerOut ++ le 4 c.bclkDiv ++ le 4 c.frameA ++ le 4 c.frameB ++ leTime c.epochStart ++
  le 4 c.lead ++ zeros 12

/-- A sample clock's dividers within R457. -/
def sclkOk (fvco : Nat) (c : SclkCfg) : Bool := decide (1 ≤ c.bclkDiv) && decide (c.bclkDiv ≤ fvco * 1000) && decide (fvco ≤ 100 * c.bclkDiv)

/-- MARKER_MISSED of the named PPS output clears when a sample clock that names it is enabled (R458). -/
def clearMissed (m : Nat) (s : State) : State := if m < 4 then s.setOutp m { s.outp m with markerMissed := false } else s

/-- OUT_SAMPLE_CLOCK (R457, R458, R467): what enables a sample clock, or changes one that waits, comes 2 ms before its start. -/
def bodyOutSampleClock : Body := fun c s =>
  let p := c.req.payload
  let i := rd p 0 1
  if p.length = 1 then checked s [(0, decide (i < 8))] (ok s (sclkBytes s i))
  else if p.length ≠ 48 then badLen s
  else
    let n : SclkCfg := ⟨rd p 1 1, rd p 2 1, rd p 3 1, rd p 4 4, rd p 8 4, rd p 12 4, rdTime p 16, rd p 32 4⟩
    let o := sclkRec s i
    let fvco := (s.apll n.src).cfg.fvco
    let st := startInstant fvco n
    let on := bit n.flags 0
    let was := bit o.flags 0
    let x := s.outp (8 + i)
    checked s
      [(0, decide (i < 8)), (1, decide (n.flags < 4)), (2, decide (n.src < 4)),
       (3, n.markerOut == 0xFF || (decide (n.markerOut < 4) && outMarker s n.markerOut && (ppsRec s n.markerOut).src == n.src)),
       (4, sclkOk fvco n), (8, decide (1 ≤ n.frameA)), (12, decide (2 * n.frameA ≤ n.frameB)),
       (16, rd p 16 4 == 0), (20, decide (rd p 20 4 % 1000 = 0) && decide (rd p 20 4 < 1000000000)),
       (32, decide (1024 ≤ n.lead) && decide (n.lead ≤ 16777216)), zeroAt p 36 12]
      (if was && x.started && decide (n ≠ o) && decide (n ≠ { o with flags := clrBit o.flags 0 }) then err s stSTATE
       else if on && !(was && x.started) && decide (n ≠ o) && decide (st.1 < ((replicaTime s 0) + 2 * ms1 : Nat) * st.2) then bad s 16
       else
         let t := { s with syn := { s.syn with sclk := tset {} s.syn.sclk i n } }
         let u := if on = was then t
           else if on then clearMissed n.markerOut (t.setOutp (8 + i) { x with started := false, synced := false, syncGate := false })
           else t.setOutp (8 + i) { x with stopAt := if outDrives s (8 + i) then frameEnd s (8 + i) else x.stopAt }
         ok (rewriteWord 6 (12 + i) u) (sclkBytes u i))

/-- The meaning of OUT_SAMPLE_CLOCK. -/
def execOutSampleClock (rq : Request) (s : State) : Out := kcpRow 0x0E04 (leastPriv s 0x0E04 rq.payload) bodyOutSampleClock rq s

/-- REFCLK_SPREAD's record (R468). -/
def spreadBytes (s : State) : List Byte :=
  le 1 s.syn.nvmeDown ++ le 1 s.syn.auxCentre ++ le 1 (flag 0 s.syn.auxEnable) ++ zeros 1 ++ le 4 s.syn.auxFreq

/-- REFCLK_SPREAD (R461, R468). -/
def bodyRefclkSpread : Body := fun c s =>
  let p := c.req.payload
  if p = [] then ok s (spreadBytes s)
  else if p.length ≠ 8 then badLen s
  else checked s
    [(0, decide (rd p 0 1 ≤ 50)), (1, decide (rd p 1 1 ≤ 25)), (2, decide (rd p 2 1 < 2)), zeroAt p 3 1,
     (4, decide (10000 ≤ rd p 4 4) && decide (rd p 4 4 ≤ 200000))]
    (if rd p 0 1 ≠ s.syn.nvmeDown ∧ 2 ≤ s.evd.store then err s stSTATE
     else
       let t := { s with syn := { s.syn with
         nvmeDown := rd p 0 1, auxCentre := rd p 1 1, auxEnable := bit (rd p 2 1) 0, auxFreq := rd p 4 4 } }
       ok t (spreadBytes t))

/-- The meaning of REFCLK_SPREAD. -/
def execRefclkSpread (rq : Request) (s : State) : Out := kcpRow 0x0E05 (leastPriv s 0x0E05 rq.payload) bodyRefclkSpread rq s

end Sys2Proof.Machine
end

