-- ==== Sys2Proof/Machine/Reset.lean ====
section
/-! DEFINITION. What a reset leaves: of the whole module (R531, R556), and of the S tile alone (R545). Kept are the OTP
fields, both flash devices, the drives of the evidence store, and what the model itself counts. -/

namespace Sys2Proof.Machine
open Sys2Proof

/-- The sealed fields of an Ethernet port (R397). -/
def sealedEth (x : Eth) : Eth := { rows := x.rows, linkAsym := x.linkAsym }

/-- The log in flash (R203, R205): what waited in memory is lost. -/
def storedLog (torn : Bool) (l : EventLog) : EventLog :=
  { l with queue := [], fault := false, overflow := false, torn := l.torn || torn }

/-- The drives stand as they are (R374); a write in progress does not land (DESIGN CHOICE, log entry 34). -/
def storedEvd (e : Evd) : Evd := { away := e.ns ++ e.away }

/-- The flash images, the provisioning record and the OTP fields (R538, R542, R549). -/
def storedPwr (p : Pwr) : Pwr :=
  { m := { p.m with run := {} }, st := { p.st with run := {} }, minSvn := p.minSvn, prov := p.prov, provNext := p.provNext, provB := p.provB, ownerBits := p.ownerBits
    lastOwner := p.lastOwner, recoveredLog := p.recoveredLog, bootMv := p.bootMv, fallback := p.fallback }

/-- The seal in flash and OTP (R195, R198, R200), each input not yet seen released (R201). -/
def storedSeal (s : State) : Seal :=
  { otpBits := s.sealing.otpBits, low := s.sealing.low, windowFault := s.sealing.windowFault
    newer := keptStore s, older := s.sealing.older
    sealN := { lowSince := some s.now }, verifyN := { lowSince := some s.now } }

/-- The module in reset (R531): State.reset but for what is stored. -/
def resetModule (torn : Bool) (s : State) : State :=
  { State.reset with
    now := s.now, free := s.free, pending := s.pending
    ref := { since := s.now }
    log := storedLog torn s.log
    sealing := storedSeal s
    key := { areaA := s.key.areaA, areaB := s.key.areaB, wrapGen := s.key.wrapGen }
    evd := storedEvd s.evd
    kcp := { nextId := s.kcp.nextId }
    pwr := storedPwr s.pwr }

/-- Fault blocks, with those of the S tile (1 to 8) at reset. -/
def mAndFBlocks (t : Tbl Flt) : Tbl Flt := t.filter (fun e => decide (e.1 = 0) || decide (8 < e.1))

/-- Loop-backs whose path is outside the S tile: furrow, GNSS, REFIN (R559). -/
def keepLoop (key : Nat) : Bool := decide (key / 4096 = 2) || decide (key / 4096 = 5) || decide (key / 4096 = 6)

/-- The S tile in reset (R545): the M tile and its timescale and the furrow ports run on. -/
def resetSTile (s : State) : State :=
  { s with
    bus := { s.bus with replicas := tset {} s.bus.replicas 0 {}, live := {}, reports := [], tandemReport := [] }
    tim := { s.tim with interps := s.tim.interps.filter (fun e => decide (e.1 < 1024)), measures := [] }
    svc := {}, eng := {}
    key := { areaA := s.key.areaA, areaB := s.key.areaB, wrapGen := s.key.wrapGen, portKeys := s.key.portKeys, fCycles := s.key.fCycles }
    evd := storedEvd s.evd
    eth := tkeep {} sealedEth s.eth
    arb := {}
    tan := { lim := s.tan.lim, cmp := s.tan.cmp }
    syn := {}
    kcp := { nextId := s.kcp.nextId, g := s.kcp.g, gg := s.kcp.gg, metroGen := s.kcp.metroGen, perst := s.kcp.perst }
    regs := { flt := mAndFBlocks s.regs.flt }
    pwr := { storedPwr s.pwr with
      m := s.pwr.m, released := s.pwr.released, nuheifUp := s.pwr.nuheifUp, mRecovery := s.pwr.mRecovery
      frag0 := s.pwr.frag0, tempS := s.pwr.tempS }
    tst := { loops := s.tst.loops.filter (fun e => keepLoop e.1), tap := s.tst.tap, boundary := s.tst.boundary
             pinsHeld := s.tst.pinsHeld, pinsOff := s.tst.pinsOff, tapReset := s.tst.tapReset } }

/-- Power-on reset is released (R531, R543): M-BOOT begins. -/
def release (s : State) : State :=
  { s with
    pwr := { s.pwr with released := true, m := { s.pwr.m with startAt := s.now } }
    tim := { s.tim with tb := { s.tim.tb with windowStart := s.now } }
    osc := { s.osc with mState := .mBoot } }

/-- POWER_ON_RESET_RELEASE (R531); the generations start at 0 (R486). -/
def execPowerOnResetRelease (s : State) : Out :=
  .next (if s.pwr.released then s else release (resetModule false s))

/-- SUPPLY_LOSS (R531); an entry waiting for its write may leave a torn one (R205). -/
def supplyLoss (s : State) : State :=
  let b := drawBelow 2 s
  resetModule (decide (s.log.queue ≠ []) && decide (b.1 = 1)) b.2

/-- The meaning of SUPPLY_LOSS. -/
def execSupplyLoss (s : State) : Out := .next (supplyLoss s)

/-- The whole module restarts from reset (R556). -/
def restartModule (s : State) : State := release (resetModule false s)

/-- The S tile restarts (R545). -/
def restartSTile (s : State) : State :=
  let t := resetSTile s
  { t with pwr := { t.pwr with st := { t.pwr.st with startAt := t.now } } }

end Sys2Proof.Machine
end

