-- ==== Sys2Proof/Machine/Boot.lean ====
section
/-! DEFINITION. Start-up of the M tile and of the S tile, trial images, recovery (R541 to R552). -/

namespace Sys2Proof.Machine
open Sys2Proof

/-- The copies of a tile's image. -/
def copiesOf (s : State) (kind : Nat) : Copies := if kind = 0 then s.pwr.m else s.pwr.st
/-- Replace the copies of a tile's image. -/
def setCopies (kind : Nat) (c : Copies) (s : State) : State :=
  if kind = 0 then { s with pwr := { s.pwr with m := c } } else { s with pwr := { s.pwr with st := c } }
/-- A copy of an image: B or A. -/
def Copies.at_ (c : Copies) (b : Bool) : Image := if b then c.b else c.a
/-- Replace a copy. -/
def Copies.put (c : Copies) (b : Bool) (i : Image) : Copies := if b then { c with b := i } else { c with a := i }

/-- A ROM accepts a copy of a tile's image (R540). -/
def copyOk (s : State) (kind : Nat) (b : Bool) : Bool := imageAccepted s (s.pwr.minSvn.getD kind 0) ((copiesOf s kind).at_ b)

/-- The copy the ROM starts (R541): the preferred one, else the other. -/
def bootCopy (s : State) (kind : Nat) : Option Bool :=
  let c := copiesOf s kind
  if copyOk s kind c.preferB then some c.preferB else if copyOk s kind (!c.preferB) then some (!c.preferB) else none

/-- A copy starts; a trial image that the ROM passes over ends its trial, and the other copy is preferred (R541). -/
def startCopy (kind : Nat) (b : Bool) (s : State) : State :=
  let c := copiesOf s kind
  let failed := c.trial && decide (b ≠ c.preferB)
  let t := setCopies kind { c with
    run := c.at_ b, startAt := s.now, trial := c.trial && !failed, preferB := if failed then b else c.preferB, staged := c.staged && decide (b = c.preferB) } s
  { t with pwr := { t.pwr with fallback := t.pwr.fallback || failed } }

/-- Field-time seconds of the newest entry of the sealed event log (R148). -/
def logSeconds (s : State) : Nat := ((s.log.entries.head?.map (·.timeUs)).getD 0) / 1000000

/-- The newest SEAL_OPEN or SEAL_CLOSE of the log is a SEAL_OPEN: the reset closed a window (R198). -/
def windowDangles (s : State) : Bool :=
  ((s.log.entries.find? (fun e => e.type == 1 || e.type == 2)).map (·.type)) == some 1

/-- The head of the log at boot and the BOOT entry (R204, R205). -/
def bootEntry (s : State) : State :=
  let t := logPut 0x0B (flag 0 s.log.torn) 0 (sealCount s) s
  { t with log := { t.log with torn := false } }

/-- The IMAGE entry of a Nuheif image (R204). -/
def imageEntry (i : Image) (s : State) : State := logPut 0x0A 0 0 (leVal (i.digest.take 8)) s

/-- What the first start of a recovered Nuheif writes (R552). -/
def recoveredEntries (s : State) : State :=
  if s.pwr.recoveredLog then
    let t := imageEntry (nuheifImage s) (logPut 0x01 0 0 (sealCount s) s)
    closeWindow 2 { t with pwr := { t.pwr with recoveredLog := false } }
  else s

/-- The timing mode at reset (R89). -/
def gnssAtReset (s : State) : State :=
  if s.gnss.position.isSome then { s with gnss := { s.gnss with mode := .hold } }
  else if s.gnss.cfg.autoSurvey = 1 then startSurvey 86400 1000 s else s

/-- The sealed parameters that a boot runs on (R195): those of the newer copy that verifies, else every default under
PARAM_FAULT. -/
def bootStore (newerOk olderOk : Bool) (s : State) : State :=
  if newerOk then loadStore s.sealing.newer s
  else if olderOk then loadStore s.sealing.older s
  else setCond 0 4 true { loadStore {} s with sealing := { s.sealing with paramFault := true } }

/-- The seal-break counter at a boot (R200): a count L that cannot be read or verified burns the next OTP bit and starts at 0;
with every bit burned the counter stays at its last value. -/
def bootCount (lowOk : Bool) (x : Seal) : Seal :=
  if lowOk then x else if x.otpBits < 65535 then { x with otpBits := x.otpBits + 1, low := 0 } else { x with low := 65535 }

/-- Nuheif starts (R148, R195, R200, R543): sealed parameters, seal-break counter, timescale, log. -/
def startNuheif (newerOk olderOk lowOk : Bool) (s0 : State) : State :=
  let s := { s0 with sealing := bootCount lowOk s0.sealing }
  let a := bootStore newerOk olderOk s
  let acc := logSeconds a * s1
  let b := { a with
    acc := acc, bus := { a.bus with nextMarker := acc }, bnd := { a.bnd with nextComp := acc }
    ref := { a.ref with nextEval := acc + 500 * ms1 }, pwr := { a.pwr with nuheifUp := true } }
  let c := bootEntry b
  let d := if windowDangles c then closeWindow 2 c else c
  sealedPortFields (gnssAtReset (recoveredEntries d))

/-- NUHEIF_BOOT (R541, R543, R552): which copies of the sealed parameter store verify, and whether L does. -/
def nuheifBoot (f : StoreCheck) (s : State) : State :=
  if s.osc.mState ≠ .mBoot ∨ s.pwr.nuheifUp then s
  else match bootCopy s 0 with
    | some b => startNuheif f.newerOk f.olderOk f.lowOk { startCopy 0 b s with pwr := { (startCopy 0 b s).pwr with mRecovery := false } }
    | none => { s with pwr := { s.pwr with mRecovery := true } }

/-- The meaning of NUHEIF_BOOT. -/
def execNuheifBoot (found : StoreCheck) (s : State) : Out := done s (nuheifBoot found s)

/-- BOOT_IMAGE_VERDICT (R541, R544): the S tile may execute the copy the M-tile ROM accepts. -/
def bootImageVerdict (s : State) : State :=
  if !s.pwr.released || decide (s.pwr.sState ≠ 0) || s.pwr.sImageOk then s
  else match bootCopy s 1 with
    | some b => { startCopy 1 b s with pwr := { (startCopy 1 b s).pwr with sImageOk := true, recovery := false } }
    | none => s

/-- The meaning of BOOT_IMAGE_VERDICT. -/
def execBootImageVerdict (s : State) : Out := done s (bootImageVerdict s)

/-- The members at the end of M-BOOT (R164): OSC0 is ACTIVE, one whose ENABLE is clear DISABLED, the others ABSENT until they show
themselves; the M tile enters WARM-UP. -/
def bootMembers (s : State) : State :=
  let put := fun (t : State) i => t.setOsci i { t.osci i with
    state := if !oscEnabled t i then .disabled else if i = 0 then .active else .absent }
  let t := (List.range numOsc).foldl put s
  { t with osc := { t.osc with mState := .warmUp } }

/-- M_BOOT_END (R541, R543): WARM-UP begins. -/
def mBootEnd (s : State) : State :=
  if s.osc.mState = .mBoot ∧ s.pwr.nuheifUp ∧ s.pwr.sImageOk ∧ s.tim.tb.running ∧ s.tim.tb.aplLock then
    { s with
      osc := (bootMembers s).osc
      pwr := { s.pwr with m := { s.pwr.m with trial := false } } }
  else s

/-- The meaning of M_BOOT_END. -/
def execMBootEnd (s : State) : Out := done s (mBootEnd s)

/-- What an area unwraps to (R334): nothing unless its CMAC verifies under the current WRAP_GEN. -/
def areaOk (s : State) (w : Option Wrapped) : Option (List Byte) := w.bind (openStore s.key.wrapGen)

/-- The key store at boot (R334, R338): the slots of the area that verifies, with the keys derived again. -/
def unwrapKeys (s : State) : State :=
  match (areaOk s s.key.areaA).or (areaOk s s.key.areaB) with
  | some b =>
    let e := { s with key := { s.key with tenants := [], links := [], nts := [], epoch := epochNow s } }
    let a := readSlots b.length b e
    a.key.tenants.foldl (fun t e => deriveEpochs t e.1) a
  | none => setCond 3 1 true { s with key := { s.key with epoch := epochNow s, storeFault := true } }

/-- Every VALID slot is invalidated, as one KEY_INVALIDATE (R345, R347, R550). -/
def invalidateAll (s : State) : State :=
  let each (cls : Nat) (t : State) : State :=
    ((slotsOf t cls).filter (fun e => e.2.valid)).foldl (fun u e => destroySlot cls u e.1) t
  let a := each 3 (each 2 (each 1 s))
  let g := a.key.wrapGen + 1
  writeArea (wrapImage a g) { a with key := { a.key with wrapGen := g } }

/-- The provisioning record takes effect at a start of the S tile; the first start under a new OWNER_GEN invalidates every
slot (R550). -/
def applyProvision (s : State) : State :=
  let p := s.pwr.provNext.getD s.pwr.prov
  let a := { s with pwr := { s.pwr with prov := p, provNext := none, lastOwner := p.ownerGen } }
  if p.ownerGen = s.pwr.lastOwner then a else invalidateAll a

/-- The engines load the image of the S-tile boot image (R318, R544). -/
def loadSower (s : State) : State :=
  let v := Config.sowerIn s.pwr.st.run.digest
  let i : SowerImage := ⟨v.1 % 2 ^ 32, v.2.1, v.2.2, fit 48 (Config.sowerDigest s.pwr.st.run.digest)⟩
  (List.range numEngines).foldl (fun t e => t.setEngine e { t.engine e with image := i }) { s with eng := { s.eng with active := i } }

/-- A voltage inside FLOOR and CEILING (R532, R533). -/
def clampV (s : State) (v : Nat) : Nat := max s.pwr.floor (min s.pwr.ceiling v)

/-- A Voltage write over AVSBus (R532). -/
def writeV (v : Nat) (s : State) : State :=
  { s with pwr := { s.pwr with vset := v, intended := v, avsWrites := satInc sat32 s.pwr.avsWrites } }

/-- S_TILE_BOOT (R279, R374, R544): the S tile enters READY. -/
def sTileBoot (s : State) : State :=
  if !s.pwr.sImageOk || decide (s.pwr.sState ≠ 0) then s
  else
    let a := loadSower (loadDevice (applyProvision (unwrapKeys s)))
    let h := drawRandom 8 a
    let b := { h.2 with
      svc := { h.2.svc with hashKey := leVal h.1 }, evd := { h.2.evd with enumDue := true }
      key := { h.2.key with lastVisit := h.2.now }
      pwr := { h.2.pwr with sState := 1, st := { h.2.pwr.st with trial := false }, lastWindow := h.2.now, handledAt := h.2.now } }
    writeV (clampV b b.pwr.bootMv) b

/-- The meaning of S_TILE_BOOT. -/
def execSTileBoot (s : State) : Out := done s (sTileBoot s)

/-- The trial of a tile's image has lasted 2 s (R541). -/
def trialOver (s : State) (c : Copies) : Bool := c.trial && decide (c.startAt + 2000000000 ≤ s.now)

/-- The other copy becomes preferred (R541). -/
def preferOther (kind : Nat) (s : State) : State :=
  let c := copiesOf s kind
  let t := setCopies kind { c with preferB := !c.preferB, trial := false, staged := false } s
  { t with pwr := { t.pwr with fallback := true } }

/-- TRIAL_FALLBACK (R541): the tile restarts on the other copy; a restart of the M tile is one of the module. -/
def execTrialFallback (tileS : Bool) (s : State) : Out :=
  if tileS then
    done s (if trialOver s s.pwr.st && decide (s.pwr.sState = 0) then restartSTile (preferOther 1 s) else s)
  else .next (if trialOver s s.pwr.m && decide (s.osc.mState = .mBoot) then restartModule (preferOther 0 s) else s)

/-- RECOVERY_RESPONDER (R551). -/
def recoveryResponder (s : State) : State :=
  if s.pwr.released ∧ s.pwr.sState = 0 ∧ !s.pwr.sImageOk ∧ bootCopy s 1 = none then
    { s with pwr := { s.pwr with recovery := true } }
  else s

/-- The meaning of RECOVERY_RESPONDER. -/
def execRecoveryResponder (s : State) : Out := done s (recoveryResponder s)

/-- A recovery image is written and preferred, and counted in the seal-break counter (R200, R552). -/
def acceptRecovery (i : Image) (s : State) : State :=
  let c := s.pwr.m
  { s with
    sealing := sealAdvance s.sealing
    pwr := { s.pwr with recoveredLog := true, m := { c.put (!c.preferB) i with preferB := !c.preferB, trial := false, staged := false } } }

/-- NUHEIF_RECOVERY (R552): the ROM takes an accepted KIND 0 image while the module is ARMED. -/
def nuheifRecovery (f : ImageFile) (s : State) : State :=
  let i : Image := ⟨true, f.verifies && decide (f.kind = 0), f.svn, f.version, f.countersigned, f.ownerOk, f.digest⟩
  if s.pwr.mRecovery ∧ armed s ∧ imageAccepted s (s.pwr.minSvn.getD 0 0) i then acceptRecovery i s else s

/-- The meaning of NUHEIF_RECOVERY. -/
def execNuheifRecovery (image : ImageFile) (s : State) : Out := done s (nuheifRecovery image s)

/-- ACTIVATION_RESTART (R545, R556): 10 ms after the reply. -/
def execActivationRestart (s : State) : Out :=
  match s.pwr.restartAt with
  | some (2, t) => .next (if t ≤ s.now then restartModule s else s)
  | some (_, t) => done s (if t ≤ s.now then restartSTile s else s)
  | none => .next s

end Sys2Proof.Machine
end

