-- ==== Sys2Proof/Machine/Pwr.lean ====
section
/-! DEFINITION. The commands and events of power, images and ownership (R530 to R558). -/

namespace Sys2Proof.Machine
open Sys2Proof

/-- The fragments of a KIND (R555). -/
def fragOf (s : State) (kind : Nat) : Frag := if kind = 0 then s.pwr.frag0 else if kind = 1 then s.pwr.frag1 else s.pwr.frag3
/-- Replace the fragments of a KIND. -/
def setFrag (kind : Nat) (f : Frag) (s : State) : State :=
  if kind = 0 then { s with pwr := { s.pwr with frag0 := f } }
  else if kind = 1 then { s with pwr := { s.pwr with frag1 := f } }
  else { s with pwr := { s.pwr with frag3 := f } }

/-- The largest TOTAL of a KIND (R539, R555). -/
def stageLimit (kind : Nat) : Nat := if kind = 0 then 4 * 2 ^ 20 else if kind = 1 then 8 * 2 ^ 20 else 4064

/-- The staged copy is discarded: the copy that is not preferred, or the record in SRAM (R555). -/
def discardStaged (kind : Nat) (s : State) : State :=
  let t := setFrag kind {} s
  if kind = 3 then { t with pwr := { t.pwr with provStaged := none } }
  else
    let c := copiesOf t kind
    setCopies kind { c.put (!c.preferB) {} with staged := false } t

/-- The fields of a provisioning record (R548). -/
def provOf (b : List Byte) : Prov :=
  { ownerGen := rd b 4 4, hostKeeper := rd b 8 1 == 1, plainClass := rd b 9 1, sessionClass := rd b 10 1, smbAddr := rd b 11 1
    ownerKey := (b.drop 12).take 96, imageKey := if rd b 108 96 = 0 then [] else (b.drop 108).take 96
    sbRoot := (b.drop 204).take 48 }

/-- A provisioning record's fields are within their ranges (R548). -/
def provFields (b : List Byte) : Bool :=
  decide (b.take 4 = ascii 4 "KTGP") && decide (rd b 8 1 < 2) && decide (rd b 9 1 < 2) && decide (1 ≤ rd b 10 1) &&
  decide (rd b 10 1 ≤ 2) && decide (0x08 ≤ rd b 11 1) && decide (rd b 11 1 ≤ 0x77) && decide (rd b 252 4 = 0)

/-- A whole provisioning record under R549: the staged record when one of the three ways accepts it. -/
def provAccept (s : State) (b : List Byte) : Option ProvStage :=
  let p := provOf b
  let cur := s.pwr.prov
  let own := Config.ecdsaVerify p.ownerKey (b.take 256) ((b.drop 256).take 96)
  let next := decide (p.ownerGen = s.pwr.ownerBits + 1)
  if !provFields b || !own then none
  else if !owned s then (if b.length = 352 ∧ next then some ⟨p, true⟩ else none)
  else if p.ownerKey = cur.ownerKey then (if b.length = 352 ∧ p.ownerGen = cur.ownerGen then some ⟨p, false⟩ else none)
  else if b.length = 448 ∧ next ∧ Config.ecdsaVerify cur.ownerKey (b.take 352) ((b.drop 352).take 96) then some ⟨p, true⟩
  else none

/-- INTEGRITY, with the staged copy discarded (R555). -/
def rejectStaged (kind : Nat) (s : State) : Res :=
  { st := discardStaged kind s, status := stINTEGRITY, keep := true }

/-- STATE for want of ARMED, with the staged record discarded (R555). -/
def notArmed (s : State) : Res := { st := discardStaged 3 s, status := stSTATE, keep := true }

/-- The reply to a LAST fragment (R555). -/
def stageReply (version svn : Nat) (copyB : Bool) : List Byte := le 4 version ++ le 1 svn ++ le 1 (flag 0 copyB) ++ zeros 2

/-- The LAST fragment of an image (R540, R552, R555). -/
def stageImage (kind : Nat) (b : List Byte) (s : State) : Res :=
  let i := parseImage kind b
  let c := copiesOf s kind
  if !imageAccepted s (s.pwr.minSvn.getD kind 0) i then rejectStaged kind s
  else
    let t := setFrag kind {} s
    let u := if kind = 0 ∧ s.pwr.mRecovery then acceptRecovery i t
      else setCopies kind { c.put (!c.preferB) i with staged := true } t
    ok u (stageReply i.version i.svn (!c.preferB))

/-- The LAST fragment of a provisioning record (R549, R555). -/
def stageRecord (b : List Byte) (s : State) : Res :=
  match provAccept s b with
  | none => rejectStaged 3 s
  | some r =>
    if r.newOwner ∧ s.pwr.ownerBits ≥ 16 then err s stNORES
    else if r.newOwner ∧ !armed s then notArmed s
    else
      let t := setFrag 3 {} s
      ok { t with pwr := { t.pwr with provStaged := some r } } (stageReply 0 0 (!s.pwr.provB))

/-- IMAGE_STAGE (R539, R552, R555). -/
def bodyImageStage : Body := fun c s =>
  let p := c.req.payload
  let n := p.length - 16
  let kind := rd p 0 1
  let first := bit (rd p 1 1) 0
  let last := bit (rd p 1 1) 1
  let off := rd p 4 4
  let total := rd p 8 4
  let f := fragOf s kind
  if p.length < 17 ∨ 4080 < p.length then badLen s
  else checked s
    [(0, kind == 0 || kind == 1 || kind == 3), (1, decide (rd p 1 1 < 4)), zeroAt p 2 2,
     (4, if first then decide (off = 0) else f.open_ && decide (off = f.bytes.length)),
     (8, decide (total ≤ stageLimit kind) && (first || decide (total = f.total)) && decide (off + n ≤ total)),
     (1, last == decide (off + n = total)), zeroAt p 12 4]
    (if kind = 0 ∧ s.pwr.mRecovery ∧ !armed s then err s stSTATE
     else
      let t := if first then discardStaged kind s else s
      let all := (if first then [] else f.bytes) ++ p.drop 16
      if !last then ok (setFrag kind ⟨true, total, all⟩ t) []
      else if kind = 3 then stageRecord all t
      else stageImage kind all t)

/-- The meaning of IMAGE_STAGE. -/
def execImageStage (rq : Request) (s : State) : Out := kcpRow 0x0008 (leastPriv s 0x0008 rq.payload) bodyImageStage rq s

/-- The KINDs an action of IMAGE_ACTIVATE takes (R556). -/
def actionTakes (action kind : Nat) : Bool :=
  match action with
  | 0 => kind == 0 || kind == 1 || kind == 3
  | 1 => kind == 1 || kind == 3
  | 2 => kind == 0 || kind == 1
  | _ => kind == 0 || kind == 1 || kind == 2

/-- VERSION and SVN of the active image of a KIND (R556). -/
def activeOf (s : State) (kind : Nat) : Nat × Nat :=
  match kind with
  | 0 => (s.pwr.m.run.version, s.pwr.m.run.svn)
  | 1 => (s.pwr.st.run.version, s.pwr.st.run.svn)
  | _ => (s.eng.active.version, s.eng.active.svn)

/-- Something of a KIND is staged: its VERSION (R555, R556). -/
def stagedVersion (s : State) (kind : Nat) : Option Nat :=
  if kind = 3 then s.pwr.provStaged.map (fun _ => 0)
  else
    let c := copiesOf s kind
    if c.staged then some (c.at_ (!c.preferB)).version else none

/-- The restart that follows an action by 10 ms (R556). -/
def dueRestart (action : Nat) (s : State) : State :=
  if action = 0 then s else { s with pwr := { s.pwr with restartAt := some (action, s.now + 10000000) } }

/-- The staged copy becomes preferred, on TRIAL (R541, R556). -/
def preferStaged (kind : Nat) (s : State) : State :=
  let c := copiesOf s kind
  setCopies kind { c with preferB := !c.preferB, trial := true, staged := false } s

/-- The staged record is written, to take effect at the next start of the S tile (R549, R550, R556). -/
def activateRecord (action : Nat) (r : ProvStage) (s : State) : Res :=
  if r.newOwner ∧ !armed s then notArmed s
  else if r.newOwner ∧ s.pwr.ownerBits ≥ 16 then err s stNORES
  else ok (dueRestart action { s with pwr := { s.pwr with
      provNext := some r.prov, provB := !s.pwr.provB, provStaged := none
      ownerBits := if r.newOwner then s.pwr.ownerBits + 1 else s.pwr.ownerBits } }) []

/-- Actions 0 to 2 on a staged image: that of Nuheif needs an open window and is logged (R199, R204, R556). -/
def activateImage (kind action : Nat) (s : State) : Res :=
  if kind = 0 ∧ !windowOpen s then err s stSEALED
  else
    let c := copiesOf s kind
    let t := if kind = 0 then imageEntry (c.at_ (!c.preferB)) s else s
    ok (dueRestart action (preferStaged kind t)) []

/-- IMAGE_ACTIVATE (R556). -/
def bodyImageActivate : Body := fun c s =>
  let p := c.req.payload
  let kind := rd p 0 1
  let action := rd p 1 1
  if p.length ≠ 8 then badLen s
  else checked s [(0, decide (kind ≤ 3)), (1, decide (action ≤ 3)), zeroAt p 2 2]
    (if !actionTakes action kind then err s stSTATE
     else if action = 3 then
      (if rd p 4 4 ≠ (activeOf s kind).1 then bad s 4
       else ok { s with pwr := { s.pwr with
          minSvn := s.pwr.minSvn.set kind (max (s.pwr.minSvn.getD kind 0) (activeOf s kind).2) } } [])
     else match stagedVersion s kind, s.pwr.provStaged with
      | none, _ => err s stSTATE
      | some v, r =>
        if rd p 4 4 ≠ v then bad s 4
        else match decide (kind = 3), r with
          | true, some rec_ => activateRecord action rec_ s
          | _, _ => activateImage kind action s)

/-- The meaning of IMAGE_ACTIVATE with ACTION 0. -/
def execImageActivate (rq : Request) (s : State) : Out :=
  let q := withByte 1 0 rq
  kcpRow 0x0009 (leastPriv s 0x0009 q.payload) bodyImageActivate q s

/-- The meaning of IMAGE_ACTIVATE with ACTION 1. -/
def execImageActivateSRestart (rq : Request) (s : State) : Out :=
  let q := withByte 1 1 rq
  kcpRow 0x0009 (leastPriv s 0x0009 q.payload) bodyImageActivate q s

/-- The meaning of IMAGE_ACTIVATE with ACTION 2. -/
def execImageActivateModuleRestart (rq : Request) (s : State) : Out :=
  let q := withByte 1 2 rq
  kcpRow 0x0009 (leastPriv s 0x0009 q.payload) bodyImageActivate q s

/-- The meaning of IMAGE_ACTIVATE with ACTION 3. -/
def execImageSvnRaise (rq : Request) (s : State) : Out :=
  let q := withByte 1 3 rq
  kcpRow 0x0009 (leastPriv s 0x0009 q.payload) bodyImageActivate q s

/-- The voltage policy record (R557). -/
def pwrBytes (s : State) : List Byte :=
  le 1 1 ++ zeros 3 ++ le 2 s.pwr.floor ++ le 2 s.pwr.ceiling ++ le 2 s.pwr.target ++ zeros 6

/-- VDD_S stands inside FLOOR and CEILING. -/
def voltageIn (s : State) : Bool := decide (s.pwr.floor ≤ s.pwr.vset) && decide (s.pwr.vset ≤ s.pwr.ceiling)

/-- A voltage of the policy: 550 to 850 mV in steps of 5 (R557). -/
def voltageOk (v : Nat) : Bool := decide (550 ≤ v) && decide (v ≤ 850) && decide (v % 5 = 0)

/-- PWR_POLICY with SELECT 0x01 (R27, R557): a write answers once VDD_S stands within it. -/
def bodyVoltagePolicy : Body := fun c s =>
  let p := c.req.payload
  if p.length = 1 then ok s (pwrBytes s)
  else if p.length ≠ 16 then badLen s
  else checked s
    [zeroAt p 1 3, (4, voltageOk (rd p 4 2) && decide (rd p 4 2 ≤ rd p 6 2)), (6, voltageOk (rd p 6 2)),
     (8, decide (10 ≤ rd p 8 2) && decide (rd p 8 2 ≤ 200)), zeroAt p 10 6]
    (let t := { s with pwr := { s.pwr with floor := rd p 4 2, ceiling := rd p 6 2, target := rd p 8 2 } }
     if voltageIn t then ok t (pwrBytes t) else held { t with pwr := { t.pwr with held := t.pwr.held ++ [c.id] } })

/-- PWR_POLICY (R416, R557), by SELECT. -/
def bodyPwrPolicy : Body := fun c s =>
  let p := c.req.payload
  if p = [] then badLen s
  else if rd p 0 1 = 1 then bodyVoltagePolicy c s
  else if rd p 0 1 = 2 then bodyArbPolicy c s
  else if p.length = 1 ∨ p.length = 16 ∨ p.length = 72 then bad s 0
  else badLen s

/-- The meaning of PWR_POLICY. -/
def execPwrPolicy (rq : Request) (s : State) : Out := kcpRow 0x0F01 (leastPriv s 0x0F01 rq.payload) bodyPwrPolicy rq s

/-- ENERGY (R536, R558), from a power in mW over 1 s and the messages handled in it, in pJ. -/
def energyPj (mw n : Nat) : Nat := if n = 0 then sat32 else min sat32 (mw * 1000000000 / n)

/-- The measured values of PWR_STATUS, which no rule computes: VDD_S_READ, CORE_POWER (free values). -/
def pwrMeasured (s : State) : (Nat × Nat) × State :=
  let v := drawBelow (2 ^ 48) s
  ((v.1 % 2 ^ 16, v.1 / 2 ^ 16), v.2)

/-- The completion-margin monitors' reports of the last 1 ms (R22, R558). -/
def freshMargins (s : State) : List (Nat × List Nat) := s.pwr.margins.filter (fun m => decide (s.now < m.1 + 1000000))

/-- MARGIN of a tile (R558): the smallest report of the last 1 ms; 0xFFFF without one (DESIGN CHOICE, log entry 44: the spec
gives no value). -/
def tileMargin (s : State) (tile : Nat) : Nat := (freshMargins s).foldl (fun a m => min a (m.2.getD tile 0xFFFF)) 0xFFFF

/-- The monitors report (R22): the loop takes note of the reports, which never override it (R533). -/
def noteMargins (l : List Nat) (s : State) : State :=
  { s with pwr := { s.pwr with margins := (s.now, l) :: freshMargins s } }

/-- FLAGS of PWR_STATUS (R558). -/
def pwrFlags (s : State) : Nat :=
  flag 0 s.pwr.unmet + flag 1 s.pwr.avsFault + flag 2 (decide (s.pwr.vset = s.pwr.floor)) +
  flag 3 (decide (s.pwr.vset = s.pwr.ceiling)) + flag 4 s.pwr.tempCrit + flag 5 s.pwr.fallback

/-- A die's temperature (R558): 0 M, 1 S, 2 to 5 F0 to F3. -/
def dieTemp (s : State) (die : Nat) : Int :=
  if die = 0 then s.tim.tb.tempM else if die = 1 then s.pwr.tempS else tget (-32768) s.fur.tileTemp (die - 2)

/-- A die sensor's reading. -/
def setDieTemp (die : Nat) (t : Int) (s : State) : State :=
  if die = 0 then s.setTb { s.tim.tb with tempM := t }
  else if die = 1 then { s with pwr := { s.pwr with tempS := t } }
  else { s with fur := { s.fur with tileTemp := tset (-32768) s.fur.tileTemp (die - 2) t } }

/-- PWR_STATUS (R558). -/
def bodyPwrStatus : Body := fun c s =>
  if c.req.payload ≠ [] then badLen s
  else
    let m := pwrMeasured s
    let t := m.2
    ok t (le 1 (pwrFlags s) ++ le 1 s.pwr.sState ++ le 2 s.pwr.vset ++ le 2 (if s.pwr.avsFault then 0xFFFF else m.1.1) ++
      le 2 s.pwr.p99 ++ le 4 s.pwr.unmetMs ++ le 4 s.pwr.avsWrites ++ (List.range 6).flatMap (fun d => leI 2 (dieTemp s d)) ++
      (List.range 6).flatMap (fun t => le 2 (tileMargin s t)) ++ le 4 m.1.2 ++ le 4 (energyPj m.1.2 s.pwr.handled))

/-- The meaning of PWR_STATUS. -/
def execPwrStatus (rq : Request) (s : State) : Out := kcpRow 0x0F02 (leastPriv s 0x0F02 rq.payload) bodyPwrStatus rq s

/-- AVS_FAULT sets (R534). -/
def avsFail (s : State) : State :=
  if s.pwr.avsFault then s
  else setCond 7 4 true { s with pwr := { s.pwr with avsFault := true, avsRetryAt := s.now, avsGood := 0 } }

/-- A window's transactions answered, or not: three in a row set or clear AVS_FAULT (R534). -/
def avsCount (good : Bool) (s : State) : State :=
  let t := { s with pwr := { s.pwr with
    avsFail := if good then 0 else s.pwr.avsFail + 1, avsGood := if good then s.pwr.avsGood + 1 else 0 } }
  if 3 ≤ t.pwr.avsFail then avsFail t
  else if t.pwr.avsFault ∧ 3 ≤ t.pwr.avsGood then setCond 7 4 false { t with pwr := { t.pwr with avsFault := false } }
  else t

/-- A Voltage write that the regulator answers or not (R532, R534). -/
def tryWrite (v : Nat) (good : Bool) (s : State) : State :=
  if good then writeV v s else { s with pwr := { s.pwr with intended := v } }

/-- Messages handled in the last full second (R536). -/
def rollHandled (s : State) : State :=
  if s.now < s.pwr.handledAt + 1000000000 then s
  else { s with pwr := { s.pwr with handled := s.pwr.handledRun, handledRun := 0, handledAt := s.now } }

/-- What the loop sees of a window (R533): L, the run below 0.7 of the target, TARGET_UNMET and its count. -/
def windowSeen (p99 : Nat) (s : State) : State :=
  let l := min 65535 p99
  let un := decide (s.pwr.vset = s.pwr.ceiling) && decide (10 * s.pwr.target < l)
  let ms := replicaTime s 0 / ms1
  { s with pwr := { s.pwr with
    p99 := l
    belowRun := if l < 7 * s.pwr.target then s.pwr.belowRun + 1 else 0
    unmet := un
    unmetMs := if un ∧ s.pwr.unmetLast ≠ some ms then satInc sat32 s.pwr.unmetMs else s.pwr.unmetMs
    unmetLast := if un then some ms else s.pwr.unmetLast
    lastWindow := s.now } }

/-- The voltage the loop wants (R533). -/
def wantedV (s : State) : Nat :=
  clampV s (if 10 * s.pwr.target < s.pwr.p99 then s.pwr.vset + 10 else if 10 ≤ s.pwr.belowRun then s.pwr.vset - 5 else s.pwr.vset)

/-- The loop's write, at most one per window; under AVS_FAULT only the retry of each 1 ms (R533, R534). -/
def windowWrite (good : Bool) (s : State) : State :=
  if s.pwr.avsFault then
    (if s.now < s.pwr.avsRetryAt + 1000000 then s
     else tryWrite s.pwr.intended good { s with pwr := { s.pwr with avsRetryAt := s.now } })
  else if wantedV s = s.pwr.vset then s
  else tryWrite (wantedV s) good s

/-- The PWR_POLICY writes whose voltage is reached answer (R27). -/
def answerPolicies (s : State) : State :=
  if voltageIn s then
    s.pwr.held.foldl (fun t id => answerHeld id (fun _ u => ok u (pwrBytes u)) t) { s with pwr := { s.pwr with held := [] } }
  else s

/-- VOLTAGE_WINDOW (R533): a window of 100 us has ended. -/
def voltageWindow (w : WindowReport) (avsOk : Bool) (s : State) : State :=
  if s.pwr.sState = 0 ∨ s.now < s.pwr.lastWindow + 100000 then s
  else answerPolicies (windowWrite avsOk (avsCount avsOk (windowSeen w.p99 (noteMargins w.margins (rollHandled s)))))

/-- The meaning of VOLTAGE_WINDOW. -/
def execVoltageWindow (seen : WindowReport) (avsOk : Bool) (s : State) : Out := doneHeld s (voltageWindow seen avsOk s)

/-- AVS_FAULT (R534): three failed transactions in a row, or a regulator alert. -/
def avsFaultEvent (alert : Bool) (s : State) : State :=
  if s.pwr.sState ≠ 0 ∧ (alert || decide (3 ≤ s.pwr.avsFail)) then avsFail s else s

/-- The meaning of AVS_FAULT. -/
def execAvsFault (alert : Bool) (s : State) : Out := done s (avsFaultEvent alert s)

/-- TEMP_CRIT (R535): a die sensor reads `temp` in 2^-7 degrees Celsius. -/
def tempCrit (die : Nat) (temp : Int) (s : State) : State :=
  let t := setDieTemp die temp s
  if 110 * 128 < temp then setCond 7 5 true { t with pwr := { t.pwr with tempCrit := true } } else t

/-- The meaning of TEMP_CRIT. -/
def execTempCrit (die : Nat) (temp : Int) (s : State) : Out := guardUnit (decide (die < 6)) s (done s (tempCrit die temp s))

/-- TEMP_CRIT_CLEAR (R535): the six sensors' readings; the fault ends once each is below 100 degrees. -/
def tempCritClear (temps : List Int) (s : State) : State :=
  let t := (List.range 6).foldl (fun u d => setDieTemp d (temps.getD d (-32768)) u) s
  if (List.range 6).all (fun d => decide (dieTemp t d ≠ -32768) && decide (dieTemp t d < 100 * 128)) then
    setCond 7 5 false { t with pwr := { t.pwr with tempCrit := false } }
  else t

/-- The meaning of TEMP_CRIT_CLEAR. -/
def execTempCritClear (temps : List Int) (s : State) : Out := done s (tempCritClear temps s)

end Sys2Proof.Machine
end

