-- ==== Sys2Proof/Machine/Tst.lean ====
section
/-! DEFINITION. Loop-backs, self-tests, test unlock and the JTAG TAP (spec/22_loopback_test.md). -/

namespace Sys2Proof.Machine
open Sys2Proof

/-- The key of an instance (R559). -/
def loopKey (iface inst : Nat) : Nat := 4096 * iface + inst
/-- The loop-back an instance holds. -/
def loopOf (s : State) (iface inst : Nat) : Loop := tget {} s.tst.loops (loopKey iface inst)
/-- Replace the loop-back of an instance. -/
def setLoop (iface inst : Nat) (l : Loop) (s : State) : State :=
  { s with tst := { s.tst with loops := tset {} s.tst.loops (loopKey iface inst) l } }

/-- DEPTHs a command sets on an interface (R559). -/
def depths (iface : Nat) : Nat :=
  match iface with
  | 1 => 4 | 2 => 3 | 3 => 1 | 4 => 2 | 5 => 1 | 6 => 1 | 7 => 2 | _ => 0
/-- Instances of an interface (R571). -/
def instances (iface : Nat) : Nat :=
  match iface with
  | 1 => 16 | 2 => 1024 | 6 => 8 | _ => 1

/-- The PCIe link goes down (R476, R511): the host rings stop fetching; what they have outstanding loses its replies. -/
def pcieDown (s : State) : State :=
  let isRing (x : Source) : Bool := match x with | .ring _ => true | _ => false
  setCond 7 2 true { s with kcp := { s.kcp with
    linkUp := false
    replies := s.kcp.replies.filter (fun r => !isRing r.src)
    slots := s.kcp.slots.map (fun c => if isRing c.req.src then { c with lost := true } else c) } }

/-- A loop-back ends (R560): a slot it held is released (R564). -/
def endLoop (iface inst : Nat) (s : State) : State :=
  if (loopOf s iface inst).depth = 0 then s
  else
    let t := setLoop iface inst {} s
    if iface = 6 then holdSlot inst t else t

/-- The condition of R559 for a loop-back holds; `host` says that a host ring asks. -/
def loopAllowed (iface depth inst : Nat) (host : Bool) (s : State) : Bool :=
  match iface with
  | 1 => !portServes s inst
  | 2 => decide (depth = 3) || decide ((s.port inst).st.state = .disabled)
  | 3 => !host
  | 4 => decide (s.evd.store ≤ 1)
  | 5 => decide (s.sel.st.selected ≠ some 8) && decide (s.gnss.mode ≠ .noPosition)
  | 6 => decide (s.sel.st.selected ≠ some inst)
  | _ => !tanOn s

/-- The ephemerides of the listed PRNs are adopted (R563). -/
def adoptedAll (s : State) (prns : List Nat) : Bool := prns.all (fun p => decide (p = 0) || (s.nav p).adopted.isSome)

/-- LOOPBACK_SET (R559, R560, R571). -/
def bodyLoopbackSet : Body := fun c s =>
  let p := c.req.payload
  let iface := rd p 0 1
  let depth := rd p 1 1
  let inst := rd p 2 2
  let prns := (List.range 8).map (fun i => rd p (16 + i) 1)
  let cn0s := (List.range 8).map (fun i => rd p (24 + i) 1)
  let host := match c.req.src with | .ring _ => true | _ => false
  let l : Loop := { depth := depth, endsAt := s.now + rd p 4 4 * 1000000000, lastUnit := s.now
                    offset := if iface = 5 ∨ iface = 6 then rdI p 8 8 else 0
                    prns := if iface = 5 then prns else [], cn0s := if iface = 5 then cn0s else [] }
  if p.length ≠ 32 then badLen s
  else checked s
    ([(0, decide (1 ≤ iface) && decide (iface ≤ 7)), (1, decide (1 ≤ depth) && decide (depth ≤ depths iface)),
      (2, decide (inst < instances iface)), (4, decide (1 ≤ rd p 4 4) && decide (rd p 4 4 ≤ 3600)),
      (8, iface != 6 || (decide (-32768000000000 ≤ rdI p 8 8) && decide (rdI p 8 8 ≤ 32768000000000)))] ++
     (if iface = 5 then
        (List.range 8).map (fun i => (16 + i, decide (prns.getD i 0 ≤ 32))) ++
        (List.range 8).map (fun i => (24 + i, prns.getD i 0 == 0 || (decide (20 ≤ cn0s.getD i 0) && decide (cn0s.getD i 0 ≤ 55))))
      else []))
    (if (loopOf s iface inst).depth ≠ 0 then busy s
     else if !loopAllowed iface depth inst host s || (iface == 5 && !adoptedAll s prns) then err s stSTATE
     else
       let t := setLoop iface inst l s
       ok (if iface = 6 then holdSlot inst t else if iface = 5 then dropLost t else if iface = 3 then pcieDown t else t) [])

/-- The meaning of LOOPBACK_SET. -/
def execLoopbackSet (rq : Request) (s : State) : Out := kcpRow 0x1001 (leastPriv s 0x1001 rq.payload) bodyLoopbackSet rq s

/-- The results of a loop-back (R572). -/
def loopReport (l : Loop) : List Byte :=
  let var := (l.n : Int) * l.sumSq - l.sum * l.sum
  le 4 l.sent ++ le 4 l.good ++ le 4 l.errors ++ le 4 l.echoed ++
  (if l.n = 0 then le 8 noInterval ++ le 8 noInterval
   else leIv (divNearI l.sum l.n) ++ leIv (isqrt (divNear var.toNat (l.n * l.n))))

/-- LOOPBACK_CLEAR (R572). -/
def bodyLoopbackClear : Body := fun c s =>
  let p := c.req.payload
  let iface := rd p 0 1
  let inst := rd p 2 2
  if p.length ≠ 4 then badLen s
  else checked s
    [(0, decide (1 ≤ iface) && decide (iface ≤ 7)), (1, decide (rd p 1 1 < 2)), (2, decide (inst < instances iface))]
    (if (loopOf s iface inst).depth = 0 then err s stSTATE
     else ok (if bit (rd p 1 1) 0 then s else endLoop iface inst s) (loopReport (loopOf s iface inst)))

/-- The meaning of LOOPBACK_CLEAR. -/
def execLoopbackClear (rq : Request) (s : State) : Out := kcpRow 0x1002 (leastPriv s 0x1002 rq.payload) bodyLoopbackClear rq s

/-- LOOPBACK_EXPIRY (R571). -/
def loopbackExpiry (iface inst : Nat) (s : State) : State :=
  let l := loopOf s iface inst
  if l.endsAt ≠ 0 ∧ l.endsAt ≤ s.now then endLoop iface inst s else s

/-- The meaning of LOOPBACK_EXPIRY. -/
def execLoopbackExpiry (iface inst : Nat) (s : State) : Out := done s (loopbackExpiry iface inst s)

/-- The port generates its own test traffic (R561). -/
def selfTraffic (iface depth : Nat) : Bool :=
  (iface == 1 && decide (1 ≤ depth) && decide (depth ≤ 3)) || (iface == 2 && decide (1 ≤ depth) && decide (depth ≤ 2))

/-- What a bad unit adds to ERRORS: 1, or its bit errors at Ethernet depth 3 (a free value, R572). -/
def unitErrors (iface depth : Nat) (s : State) : Nat × State :=
  if iface = 1 ∧ depth = 3 then
    let d := drawBelow 1024 s
    (d.1 + 1, d.2)
  else (1, s)

/-- LOOPBACK_TEST_UNIT (R561): one unit every 10 µs; `back` is its ingress instant minus its egress instant, none when it is
lost; `good` that its check passes. -/
def loopbackTestUnit (iface inst : Nat) (back : Option Interval) (good : Bool) (s : State) : State :=
  let l := loopOf s iface inst
  if !selfTraffic iface l.depth || decide (s.now < l.lastUnit + 10000) then s
  else
    let a := { l with sent := satInc sat32 l.sent, lastUnit := s.now }
    match back with
    | none => setLoop iface inst a s
    | some v =>
      let b := { a with n := a.n + 1, sum := a.sum + v, sumSq := a.sumSq + v.natAbs * v.natAbs }
      if good then setLoop iface inst { b with good := satInc sat32 b.good } s
      else
        let e := unitErrors iface l.depth s
        setLoop iface inst { b with errors := min sat32 (b.errors + e.1) } e.2

/-- The meaning of LOOPBACK_TEST_UNIT. -/
def execLoopbackTestUnit (iface inst : Nat) (back : Option Interval) (good : Bool) (s : State) : Out :=
  done s (loopbackTestUnit iface inst back good s)

/-- PCIE_LINK_LOOPBACK (R559): the endpoint complies as follower; the link is no longer up. -/
def pcieLinkLoopback (s : State) : State :=
  if (loopOf s 3 0).depth ≠ 0 then s else pcieDown (setLoop 3 0 { depth := 2 } s)

/-- The meaning of PCIE_LINK_LOOPBACK. -/
def execPcieLinkLoopback (s : State) : Out := done s (pcieLinkLoopback s)

/-- Test `t`. -/
def bistOf (s : State) (t : Nat) : Bist := tget {} s.tst.bist t
/-- Replace a test. -/
def setBist (t : Nat) (b : Bist) (s : State) : State := { s with tst := { s.tst with bist := tset {} s.tst.bist t b } }

/-- The reply of BIST_RUN (R573). -/
def bistReply (s : State) (t : Nat) : List Byte :=
  let b := bistOf s t
  le 1 b.state ++ zeros 1 ++ le 2 b.errors ++ le 4 b.elapsed ++ zeros 8

/-- An INSTANCE a test takes (R573): a cluster, a port or an F tile. -/
def bistInstance (t inst : Nat) : Bool :=
  match t with
  | 0 => decide (1 ≤ inst) && decide (inst ≤ 5)
  | 2 => decide (inst < 12)
  | 4 => decide (inst < 16)
  | 5 => decide (inst < 4)
  | _ => true

/-- The condition of a test holds (R565). -/
def bistAllowed (t inst : Nat) (s : State) : Bool :=
  match t with
  | 2 => decide ((s.engine (8 * inst)).state = 0)
  | 4 => decide ((s.ethP inst).state = 0)
  | _ => true

/-- BIST_RUN (R565, R573). -/
def bodyBistRun : Body := fun c s =>
  let p := c.req.payload
  let t := rd p 0 1
  let inst := rd p 2 2
  if p.length ≠ 4 then badLen s
  else checked s [(0, decide (t ≤ 5)), zeroAt p 1 1, (2, bistInstance t inst)]
    (if t = 0 then ok s (bistReply s inst)
     else if (bistOf s t).state = 1 then busy s
     else if !bistAllowed t inst s then err s stSTATE
     else
       let u := setBist t { state := 1, instance_ := inst, startAt := s.now } s
       pend u (bistReply u t))

/-- The meaning of BIST_RUN with TEST 0x00. -/
def execBistReport (rq : Request) (s : State) : Out :=
  let q := withByte 0 0 rq
  kcpRow 0x1003 (leastPriv s 0x1003 q.payload) bodyBistRun q s
/-- The meaning of BIST_RUN with TEST 0x01. -/
def execBistKat (rq : Request) (s : State) : Out :=
  let q := withByte 0 1 rq
  kcpRow 0x1003 (leastPriv s 0x1003 q.payload) bodyBistRun q s
/-- The meaning of BIST_RUN with TEST 0x02. -/
def execBistMarch (rq : Request) (s : State) : Out :=
  let q := withByte 0 2 rq
  kcpRow 0x1003 (leastPriv s 0x1003 q.payload) bodyBistRun q s
/-- The meaning of BIST_RUN with TEST 0x03. -/
def execBistRng (rq : Request) (s : State) : Out :=
  let q := withByte 0 3 rq
  kcpRow 0x1003 (leastPriv s 0x1003 q.payload) bodyBistRun q s
/-- The meaning of BIST_RUN with TEST 0x04. -/
def execBistPrbs (rq : Request) (s : State) : Out :=
  let q := withByte 0 4 rq
  kcpRow 0x1003 (leastPriv s 0x1003 q.payload) bodyBistRun q s
/-- The meaning of BIST_RUN with TEST 0x05. -/
def execBistReplica (rq : Request) (s : State) : Out :=
  let q := withByte 0 5 rq
  kcpRow 0x1003 (leastPriv s 0x1003 q.payload) bodyBistRun q s

/-- The shortest duration of a test in ns (R565). -/
def bistLeast (t : Nat) : Nat :=
  match t with
  | 2 => 120000000 | 3 => 10000000 | 4 => 1000000000 | 5 => 1000000 | _ => 0

/-- What follows the end of a test: RNG_FAULT (R349); a cluster that policy keeps awake wakes (R565). -/
def bistAfter (t inst errors : Nat) (s : State) : State :=
  match t with
  | 2 => if pinnedAwake s inst then wakeCluster inst s else s
  | 3 => if errors ≠ 0 then rngHealthFail s else if s.key.rngFault then rngRecover s else s
  | _ => s

/-- BIST_END (R565). -/
def bistEnd (t errors : Nat) (s : State) : State :=
  let b := bistOf s t
  if b.state ≠ 1 ∨ s.now < b.startAt + bistLeast t then s
  else bistAfter t b.instance_ errors (setBist t { b with
    state := if errors = 0 then 2 else 3, errors := min 65535 errors, elapsed := min sat32 ((s.now - b.startAt) / 1000000) } s)

/-- The meaning of BIST_END. -/
def execBistEnd (test errors : Nat) (s : State) : Out :=
  guardUnit (decide (1 ≤ test) && decide (test ≤ 5)) s (done s (bistEnd test errors s))

/-- The 52 bytes of a challenge (R568). -/
def challengeBytes (nonce : List Byte) (scope duration : Nat) (s : State) : List Byte :=
  fit 32 nonce ++ le 8 Config.serial ++ le 4 s.pwr.prov.ownerGen ++ le 1 scope ++ zeros 3 ++ le 4 duration

/-- A signature over a challenge verifies (R568). -/
def unlockVerifies (s : State) (challenge sig : List Byte) : Bool :=
  Config.ecdsaVerify Config.vendorTestKey challenge sig || (owned s && Config.ecdsaVerify s.pwr.prov.ownerKey challenge sig)

/-- TEST_UNLOCK ACTION 1 (R568). -/
def unlockChallenge (p : List Byte) (s : State) : Res :=
  let r := drawRandom 32 s
  let b := challengeBytes r.1 (rd p 1 1) (rd p 4 4) s
  checked s [(4, decide (60 ≤ rd p 4 4) && decide (rd p 4 4 ≤ 86400))]
    (ok { r.2 with tst := { r.2.tst with challenge := b, challengeAt := s.now } } b)

/-- A failed response (R568): the challenge is used up; the third denies the command for 10 min. -/
def unlockFails (s : State) : Res :=
  let n := s.tst.fails + 1
  { st := { s with tst := { s.tst with
      challenge := [], fails := if 3 ≤ n then 0 else n
      deniedUntil := if 3 ≤ n then s.now + 600000000000 else s.tst.deniedUntil } }
    status := stINTEGRITY, keep := true }

/-- TEST_UNLOCK ACTION 2 (R568, R569): a verified response is reported to Nuheif. -/
def unlockResponse (p : List Byte) (s : State) : Res :=
  let ch := (p.drop 4).take 52
  let seconds := rd ch 48 4
  if s.tst.challenge = [] ∨ s.tst.challengeAt + 60000000000 < s.now then err s stSTATE
  else if ch ≠ s.tst.challenge ∨ !unlockVerifies s ch ((p.drop 56).take 96) then unlockFails s
  else ok { s with tst := { s.tst with
      challenge := [], fails := 0, scope := rd ch 44 1, reported := some (s.now + seconds * 1000000000) } }
    (le 8 (ftSec (replicaTime s 0) + seconds))

/-- The test unlock ends (R569). -/
def endUnlock (s : State) : State := { s with tst := { s.tst with reported := none, inForce := false, scope := 0 } }

/-- TEST_UNLOCK (R568, R569, R574). -/
def bodyTestUnlock : Body := fun c s =>
  let p := c.req.payload
  let a := rd p 0 1
  let n := p.length
  if !(n == 4 || n == 8 || n == 152) then badLen s
  else if (a = 1 ∧ n ≠ 8) ∨ (a = 2 ∧ n ≠ 152) ∨ (a = 3 ∧ n ≠ 4) then badLen s
  else checked s [(0, decide (1 ≤ a) && decide (a ≤ 3)), (1, decide (rd p 1 1 < 4)), zeroAt p 2 2]
    (if s.now < s.tst.deniedUntil then { st := s, status := stDENIED, detail := 2 }
     else match a with
      | 1 => unlockChallenge p s
      | 2 => unlockResponse p s
      | _ => if s.tst.inForce then ok (endUnlock s) [] else err s stSTATE)

/-- The meaning of TEST_UNLOCK with ACTION 1. -/
def execTestUnlockChallenge (rq : Request) (s : State) : Out :=
  let q := withByte 0 1 rq
  kcpRow 0x1004 (leastPriv s 0x1004 q.payload) bodyTestUnlock q s
/-- The meaning of TEST_UNLOCK with ACTION 2. -/
def execTestUnlockResponse (rq : Request) (s : State) : Out :=
  let q := withByte 0 2 rq
  kcpRow 0x1004 (leastPriv s 0x1004 q.payload) bodyTestUnlock q s
/-- The meaning of TEST_UNLOCK with ACTION 3. -/
def execTestUnlockEnd (rq : Request) (s : State) : Out :=
  let q := withByte 0 3 rq
  kcpRow 0x1004 (leastPriv s 0x1004 q.payload) bodyTestUnlock q s

/-- UNLOCK_EFFECTIVE (R569): the marker whose frame carries TEST_UNLOCK. -/
def unlockEffective (s : State) : State :=
  if s.tst.reported.isSome ∧ (s.replica 0).frame.testUnlock then { s with tst := { s.tst with inForce := true } } else s

/-- The meaning of UNLOCK_EFFECTIVE. -/
def execUnlockEffective (s : State) : Out := done s (unlockEffective s)

/-- UNLOCK_EXPIRY (R569). -/
def unlockExpiry (s : State) : State :=
  match s.tst.reported with
  | some t => if t ≤ s.now then endUnlock s else s
  | none => s

/-- The meaning of UNLOCK_EXPIRY. -/
def execUnlockExpiry (s : State) : Out := done s (unlockExpiry s)

/-- An instruction becomes the TAP's (R566, R567): the pins are held by the boundary register, in high impedance, or
functional; `out` is what its register shifts out. -/
def tapLoad (i : TapInstr) (held_ off : Bool) (out : List Byte) (s : State) : State :=
  { s with tst := { s.tst with tap := i, tapReset := false, pinsHeld := held_, pinsOff := off, shifted := out } }

/-- The 32 bits of IDCODE (R566). -/
def idcode : Nat := Config.stepping % 16 * 2 ^ 28 + 0x1024 * 2 ^ 12 + Config.manufacturer % 2 ^ 11 * 2 + 1

/-- BYPASS (R566). -/
def execBypass (s : State) : Out := done s (tapLoad .bypass false false [0] s)
/-- IDCODE (R566). -/
def execIdcode (s : State) : Out := done s (tapLoad .idcode false false (le 4 idcode) s)
/-- SAMPLE/PRELOAD (R566): the sampled pins shift out, the preloaded values stay in the boundary register. -/
def execSamplePreload (pins preload : List Byte) (s : State) : Out :=
  let t := tapLoad .samplePreload false false pins s
  done s { t with tst := { t.tst with boundary := preload } }
/-- EXTEST (R567). -/
def execExtest (s : State) : Out := done s (tapLoad .extest true false s.tst.boundary s)
/-- CLAMP (R567): the bypass register is selected. -/
def execClamp (s : State) : Out := done s (tapLoad .clamp true false [0] s)
/-- HIGHZ (R567): the bypass register is selected. -/
def execHighz (s : State) : Out := done s (tapLoad .highz true true [0] s)
/-- EXTEST_PULSE (R566, R567). -/
def execExtestPulse (s : State) : Out := done s (tapLoad .extestPulse true false s.tst.boundary s)
/-- EXTEST_TRAIN (R566, R567). -/
def execExtestTrain (s : State) : Out := done s (tapLoad .extestTrain true false s.tst.boundary s)
/-- TAP_RESET (R566): the pins are functional. -/
def execTapReset (s : State) : Out :=
  done s { s with tst := { s.tst with tap := .idcode, tapReset := true, pinsHeld := false, pinsOff := false, shifted := [] } }

end Sys2Proof.Machine
end

