-- ==== Sys2Proof/Machine/Regs.lean ====
section
/-! DEFINITION. BAR0, the status mirror, configuration parity, fault blocks, the interrupt controller and the performance
counters (spec/20_registers_interrupts_faults.md). -/

namespace Sys2Proof.Machine
open Sys2Proof

/-- MSI-X vector `v`. -/
def State.vec (s : State) (v : Nat) : Msix := tget {} s.regs.msix v
/-- Replace a vector. -/
def State.setVec (s : State) (v : Nat) (x : Msix) : State := { s with regs := { s.regs with msix := tset {} s.regs.msix v x } }

/-- A vector's message can be sent (R518). -/
def sendable (s : State) (v : Nat) : Bool := s.regs.msixEnable && !s.regs.msixMask && !(s.vec v).masked

/-- A message is sent on a vector. -/
def sendMsi (v : Nat) (s : State) : State := s.setVec v { s.vec v with pending := false, sent := (s.vec v).sent + 1 }

/-- The pending bit of a masked vector sets (R518). -/
def waitMsi (v : Nat) (s : State) : State := if s.regs.msixEnable then s.setVec v { s.vec v with pending := true } else s

/-- PENDING sources move to IN_SERVICE at a delivery (R516), which also takes in what arrives in its nanosecond at the sources
`takes` that were not IN_SERVICE before it. -/
def serveSources (now bits takes : Nat) (x : Irq) : Irq :=
  { x with
    pend := x.pend &&& (x.pend ^^^ bits), insvc := x.insvc ||| bits, readyAt := now + x.holdoff * 1000
    delivAt := some now, takes := takes &&& (takes ^^^ x.insvc) }

/-- VECTOR of a group (R526). -/
def groupVector (g : Nat) (x : Irq) : Nat := x.vectorDelta ^^^ g

/-- IRQ_SB_N is asserted while a sideband group has a source IN_SERVICE (R518). -/
def refreshSb (s : State) : State :=
  { s with regs := { s.regs with
      irqSb := (List.range 9).any (fun g => (s.irqG g).sideband && decide ((s.irqG g).insvc ≠ 0)) } }

/-- A delivery of group 0 (R518): one message on each distinct vector that can be sent. -/
def deliverRings (s : State) : State :=
  let x := s.irqG 0
  let rings := (List.range 8).filter (bit x.pend)
  let vs := (rings.map (fun r => (s.ring r).vector)).eraseDups
  let a := (vs.filter (fun v => !sendable s v)).foldl (fun t v => waitMsi v t) s
  let go := rings.filter (fun r => sendable s (s.ring r).vector)
  if go = [] then a
  else (vs.filter (sendable s)).foldl (fun t v => sendMsi v t)
    (a.setIrq 0 (serveSources s.now (go.foldl setBit 0) (((List.range 8).filter (fun r => (go.map (fun k => (s.ring k).vector)).contains (s.ring r).vector)).foldl setBit 0) x))

/-- A delivery of a group (R516, R518): an enabled group with a PENDING source whose HOLDOFF has passed. -/
def irqDeliver (g : Nat) (s : State) : State :=
  let x := s.irqG g
  if !x.enable || x.pend == 0 || decide (s.now < x.readyAt) then s
  else if g = 0 then deliverRings s
  else if x.sideband then refreshSb (s.setIrq g (serveSources s.now x.pend (2 ^ irqSources g - 1) x))
  else if sendable s (groupVector g x) then sendMsi (groupVector g x) (s.setIrq g (serveSources s.now x.pend (2 ^ irqSources g - 1) x))
  else waitMsi (groupVector g x) s

/-- The meaning of IRQ_DELIVERY. -/
def execIrqDelivery (group : Nat) (s : State) : Out := guardUnit (decide (group < 9)) s (done s (irqDeliver group s))

/-- Every group that can deliver does. -/
def deliverAll (s : State) : State := (List.range 9).foldl (fun t g => irqDeliver g t) s

/-- MSIX_UNMASK (R518): a vector, or MSI-X as a whole. -/
def msixUnmask (vector : Option Nat) (s : State) : State :=
  match vector with
  | some v => deliverAll (s.setVec v { s.vec v with masked := false })
  | none => deliverAll { s with regs := { s.regs with msixEnable := true, msixMask := false } }

/-- The meaning of MSIX_UNMASK. -/
def execMsixUnmask (vector : Option Nat) (s : State) : Out :=
  guardUnit (decide (vector.getD 0 < 256)) s (done s (msixUnmask vector s))

/-- W1C of IRQ_INSVC (R517). -/
def insvcAck (g w v : Nat) (s : State) : State :=
  refreshSb (s.setIrq g (acknowledgeAll (s.irqG g) (irqSources g) (v % 2 ^ 32 * 2 ^ (32 * w))))

/-- The meaning of IRQ_INSVC_ACK. -/
def execIrqInsvcAck (group word value : Nat) (s : State) : Out :=
  guardUnit (decide (group < 9) && decide (word < 8)) s (done s (hostWrite (0x10040 + 0x200 * group + 4 * word) (insvcAck group word value) s))

/-- The functions of a block that have left their safe state resume (R509). -/
def resumeSafe (b before : Nat) (s : State) : State :=
  let left (i : Nat) : Bool := bit before i && !inSafe s b i
  if b = 5 then (List.range 16).foldl (fun t p => if left p then ethLeaveSafe p t else t) s
  else if 9 ≤ b then (List.range 256).foldl (fun t p => if left p then furLeaveSafe (256 * (b - 9) + p) t else t) s
  else s

/-- Bits of a fault word are cleared (R512, R525): a furrow port in calibration fault returns to CAL (R252). -/
def faultClear (b w bits : Nat) (s : State) : State :=
  let t := clearWord b w bits s
  let cleared := ((List.range 32).map (32 * w + ·)).filter (fun n => bit (s.flt b).status n && !bit (t.flt b).status n)
  let u := if 9 ≤ b then
      (cleared.filter (fun n => decide (16 ≤ n) && decide ((n - 16) % 4 < 2))).foldl
        (fun x n => furFaultCleared (256 * (b - 9) + (n - 16) / 4) x) t
    else t
  resumeSafe b (s.flt b).safe u

/-- The meaning of FLT_STATUS_CLEAR: block 0 is read-only in BAR0 (R510). -/
def execFltStatusClear (block word value : Nat) (s : State) : Out :=
  guardUnit (decide (block < 13) && decide (word < 64)) s
    (done s (hostWrite (0x100100 + 0x1000 * block + 4 * word) (if block = 0 then id else faultClear block word value) s))

/-- What an event has counted that its counter has not taken yet: a pause or tasks in progress (R521). -/
def perfRunning (s : State) (e : Nat) : Nat :=
  if e < 128 ∧ e % 8 = 6 then (if (s.ethP (e / 8)).pausedAny = 0 then 0 else s.now - (s.ethP (e / 8)).pausedAny)
  else if 0x200 ≤ e ∧ e < 0x200 + numEngines then
    ((List.range 8).map (fun i => ((s.thread (8 * (e - 0x200) + i)).task.map (fun k => s.now - k.counted)).getD 0)).sum
  else 0

/-- A counter as it stands, what is in progress counted in (R520). -/
def perfNow (s : State) (e : Nat) : Perf :=
  let x := tget {} s.regs.perf e
  let n := x.count + perfRunning s e
  ⟨n % 2 ^ 48, x.ovf || decide (2 ^ 48 ≤ n)⟩

/-- A counter's value: 8 bytes with OVF in bit 63 (R529). -/
def perfWord (s : State) (e : Nat) : Nat := (perfNow s e).count + flag 63 (perfNow s e).ovf

/-- A counter takes a value; what is in progress counts from now on. -/
def perfPut (e : Nat) (x : Perf) (s : State) : State :=
  let a := { s with regs := { s.regs with perf := tset {} s.regs.perf e x } }
  if e < 128 ∧ e % 8 = 6 then
    (if (a.ethP (e / 8)).pausedAny = 0 then a else a.setEthP (e / 8) { a.ethP (e / 8) with pausedAny := a.now })
  else if 0x200 ≤ e ∧ e < 0x200 + numEngines then
    (List.range 8).foldl (fun t i =>
      let n := 8 * (e - 0x200) + i
      match (t.thread n).task with
      | some k => t.setThread n { t.thread n with task := some { k with counted := t.now } }
      | none => t) a
  else a

/-- A counter is set to zero (R529). -/
def perfClear (s : State) (e : Nat) : State := perfPut e {} s

/-- W1C of PERF_HI bit 31 (R520): OVF clears, a wrap of what is in progress too. -/
def ovfClear (e v : Nat) (s : State) : State :=
  if bit v 31 then perfPut e { perfNow s e with ovf := false } s else s

/-- The meaning of PERF_OVF_CLEAR. -/
def execPerfOvfClear (event value : Nat) (s : State) : Out :=
  guardUnit (decide (event < 0x840)) s (done s (hostWrite (0x80004 + 8 * event) (ovfClear event value) s))

/-- The meaning of TIME_NS_READ (R46): an access of BAR0 offset 0x0004_0004. -/
def execTimeNsRead (s : State) : Out := done s (hostAccess (fun t => timeNsRead (countAccess false 0x40004 t)) s)

/-- An offset of the slow domain (R499). -/
def slowOffset (o : Nat) : Bool :=
  (decide (0x40000 ≤ o) && decide (o < 0x40020)) || (decide (0x109000 ≤ o) && decide (o < 0x10D000)) ||
  (decide (0x200000 ≤ o) && decide (o < 0x210000))

/-- SLOW_TIMEOUT (R502): a read completes with all ones, a write is dropped. -/
def slowTimeout (offset : Nat) (write : Bool) (s : State) : State :=
  if !slowOffset offset then s
  else
    let t := setSticky 7 3 (countAccess write offset s)
    if write then t else { t with regs := { t.regs with lastRead := 0xFFFFFFFF } }

/-- The meaning of SLOW_TIMEOUT. -/
def execSlowTimeout (offset : Nat) (write : Bool) (s : State) : Out := done s (hostAccess (slowTimeout offset write) s)

/-- A write of the MSI-X table (R499, R518). -/
def msixWrite (v off val : Nat) (s : State) : State :=
  let x := s.vec v
  match off with
  | 0 => s.setVec v { x with addr := half false x.addr (val / 4 * 4) }
  | 4 => s.setVec v { x with addr := half true x.addr val }
  | 8 => s.setVec v { x with data := val }
  | _ => if bit val 0 then s.setVec v { x with masked := true } else msixUnmask (some v) s

/-- Where a write of a whole 32-bit word goes (R499); every other location ignores it. -/
def wordWrite (o v : Nat) (s : State) : State :=
  if o = 0x20 then { s with regs := { s.regs with scratch := v } }
  else if 0x1000 ≤ o ∧ o < 0x1200 then ringWrite ((o - 0x1000) / 0x40) ((o - 0x1000) % 0x40) v s
  else if 0x10000 ≤ o ∧ o < 0x11200 then
    (let r := (o - 0x10000) % 0x200
     if 0x40 ≤ r ∧ r < 0x60 then insvcAck ((o - 0x10000) / 0x200) ((r - 0x40) / 4) v s else s)
  else if 0x18000 ≤ o ∧ o < 0x19000 then msixWrite ((o - 0x18000) / 16) ((o - 0x18000) % 16) v s
  else if 0x80000 ≤ o ∧ o < 0x84200 then
    (if (o - 0x80000) % 8 = 4 then ovfClear ((o - 0x80000) / 8) v s else s)
  else if 0x101000 ≤ o ∧ o < 0x10D000 then
    (let r := o % 0x1000
     if 0x100 ≤ r ∧ r < 0x200 then faultClear ((o - 0x100000) / 0x1000) ((r - 0x100) / 4) v s else s)
  else s

/-- REGISTER_WRITE (R500): a write whose byte enables do not cover the word is ignored. -/
def registerWrite (offset value byteEnables : Nat) (s : State) : State :=
  let t := countAccess true offset s
  if byteEnables = 15 ∧ offset % 4 = 0 then wordWrite offset (value % 2 ^ 32) t else t

/-- The meaning of REGISTER_WRITE. -/
def execRegisterWrite (offset value byteEnables : Nat) (s : State) : Out :=
  guardUnit (decide (offset < 2 ^ 24)) s (done s (hostAccess (registerWrite offset value byteEnables) s))

/-- A reference slot's function enters its safe state (R509): DISABLED. -/
def slotSafe (i : Nat) (s : State) : State := s.setSlot i (toState s.now s.acc (s.slot i) .disabled)

/-- Functions of a block that a configuration word serves (R509): FLT_SAFE_MAP bits. Block 0: slots 0 to 19, 32 the sealed
parameters; 2: domains 0 to 7, NTP of ports at 16, upstream domains at 32; 5: ports; 6: APLLs at 0, outputs at 4; 7: rings;
8: the tandem configuration; 9 to 12: furrow ports. -/
def hasFunction (b i : Nat) : Bool :=
  match b with
  | 0 => decide (i < 20) || decide (i = 32)
  | 2 => decide (i < 8) || (decide (16 ≤ i) && decide (i < 34))
  | 5 => decide (i < 16)
  | 6 => decide (i < 20)
  | 7 => decide (i < 8)
  | 8 => decide (i = 0)
  | 9 => decide (i < 256) | 10 => decide (i < 256) | 11 => decide (i < 256) | 12 => decide (i < 256)
  | _ => false

/-- The safe state of a function (R509). -/
def enterSafe (b i : Nat) (s : State) : State :=
  if b = 0 then (if i < 20 then slotSafe i s else s)
  else if b = 5 then ethSafe i s
  else if b = 7 then s.setRing i { s.ring i with enable := false }
  else if b = 8 then decideClaim s
  else if 9 ≤ b then furSafe (256 * (b - 9) + i) s
  else s

/-- A word of function `i` of block `b` fails its check (R508); number 2,047 stands for a word whose function R509 gives no safe
state: only CFG_PARITY sets. -/
def parityAt (b i : Nat) (s : State) : State := if i = 2047 then setSticky b 0 s else enterSafe b i (parityFail b i s)

/-- The meaning of PARITY_CHECK (R508): word of function `fn` mod 2,048 of block `fn` / 2,048 fails its check. -/
def execParityCheck (fn : Nat) (s : State) : Out :=
  guardUnit (hasFunction (fn / 2048) (fn % 2048) || (decide (fn / 2048 < 13) && fn % 2048 == 2047)) s
    (done s (parityAt (fn / 2048) (fn % 2048) s))

/-- A command as the mirror and SNAPSHOT ask it. -/
def plainCmd (p : List Byte) : Cmd := { req := ⟨.sideband, 0, 0, 0, 0, p⟩ }

/-- The marker of the latest 1 ms boundary on the S tile. -/
def lastBoundary (s : State) : FieldTime := replicaTime s 0 / ms1 * ms1

/-- The content of a mirror entry (R507). -/
def mirContent (s : State) (i : Nat) : List Byte :=
  match i with
  | 0 => fit 32 (timeSection s (lastBoundary s)) ++ (selStatus s).take 8 ++ ((boundStatus s).drop 4).take 4 ++ zeros 4
  | 1 => (tanStatusBytes s).take 48
  | 2 => (engStatusBytes s).take 48
  | 3 => (bodyEvdStatus (plainCmd []) s).payload.take 48
  | 4 => (bodyKeyStatus (plainCmd (le 4 1 ++ le 4 1)) s).payload.take 24 ++ (bodyHarrowStatus (plainCmd []) s).payload.take 8 ++ zeros 16
  | 5 => (List.range 16).flatMap (fun p => (ethStatus s p).take 3)
  | 6 => le 4 (faultSummary s) ++ le 4 (safeSummary s) ++ le 4 (fltPins s) ++ zeros 36
  | _ => (gnssStatus s).take 44 ++ zeros 4

/-- MIRROR_WRITE (R506, R507): the entry is rewritten as a whole; entries 8 to 15 read zero. -/
def mirrorWrite (i : Nat) (s : State) : State :=
  if 8 ≤ i then s
  else { s with regs := { s.regs with mir := tset {} s.regs.mir i ⟨s.kcp.g, mirContent s i, s.kcp.g % 2 ^ 32⟩ } }

/-- The meaning of MIRROR_WRITE. -/
def execMirrorWrite (entry : Nat) (s : State) : Out := guardUnit (decide (entry < 16)) s (done s (mirrorWrite entry s))

/-- Word `w` of a bit set. -/
def word32 (m w : Nat) : Nat := m / 2 ^ (32 * w) % 2 ^ 32

/-- FAULT_READ (R524). -/
def bodyFaultRead : Body := fun c s =>
  let p := c.req.payload
  let b := rd p 0 1
  let w := rd p 1 1
  let n := rd p 2 1
  let f := s.flt b
  if p.length ≠ 4 then badLen s
  else checked s
    [(0, decide (b ≤ 12)), (1, decide (w ≤ 63)), (2, decide (1 ≤ n) && decide (n ≤ 64) && decide (w + n ≤ 64)), zeroAt p 3 1]
    (ok s (le 4 (fltBlockId b) ++ le 4 (fltSevereWord s b) ++
      (List.range n).flatMap (fun i =>
        le 4 (word32 f.status (w + i)) ++ le 4 (fltClassWord s b (w + i)) ++ le 4 (word32 f.mask (w + i)) ++
        le 4 (word32 f.safe (w + i)))))

/-- The meaning of FAULT_READ. -/
def execFaultRead (rq : Request) (s : State) : Out := kcpRow 0x1101 (leastPriv s 0x1101 rq.payload) bodyFaultRead rq s

/-- FAULT_CLEAR (R525). -/
def bodyFaultClear : Body := fun c s =>
  let p := c.req.payload
  let b := rd p 0 1
  let w := rd p 1 1
  if p.length ≠ 8 then badLen s
  else checked s [(0, decide (b ≤ 12)), (1, decide (w ≤ 63)), zeroAt p 2 2]
    (let t := faultClear b w (rd p 4 4) s
     ok t (le 4 (word32 (t.flt b).status w)))

/-- The meaning of FAULT_CLEAR. -/
def execFaultClear (rq : Request) (s : State) : Out := kcpRow 0x1102 (leastPriv s 0x1102 rq.payload) bodyFaultClear rq s

/-- The sources a group has, as a bit set. -/
def allSources (g : Nat) : Nat := 2 ^ irqSources g - 1

/-- The record in force of IRQ_GROUP_CONFIG and what follows it, the maps and counters of `x` (R526). -/
def irqBytes (g : Nat) (c x : Irq) : List Byte :=
  le 1 g ++ zeros 1 ++ le 1 (flag 0 c.enable + flag 1 c.sideband) ++ le 1 (groupVector g c) ++ le 2 c.holdoff ++ zeros 2 ++
  le 32 (allSources g - c.disabled) ++ zeros 8 ++ le 32 x.pend ++ le 32 x.insvc ++
  (List.range (irqSources g)).flatMap (fun i => le 1 (tget 0 x.count i))

/-- The SOURCES bytes name only sources that the group has (R526). -/
def sourcesOk (g : Nat) (p : List Byte) : List (Nat × Bool) :=
  (List.range 32).map (fun k => (8 + k, decide (rd p (8 + k) 1 < 2 ^ min 8 (irqSources g - 8 * k))))

/-- ACTION 0 (R516, R526): a disabled PENDING source returns to IDLE. -/
def irqConfigure (g : Nat) (p : List Byte) (x : Irq) : Irq :=
  let en := rd p 8 32
  { x with
    enable := bit (rd p 2 1) 0, sideband := bit (rd p 2 1) 1, vectorDelta := rd p 3 1 ^^^ g, holdoff := rd p 4 2
    disabled := allSources g - en, pend := x.pend &&& en }

/-- IRQ_GROUP_CONFIG (R517, R526). -/
def bodyIrqGroupConfig : Body := fun c s =>
  let p := c.req.payload
  let g := rd p 0 1
  let a := rd p 1 1
  let x := s.irqG g
  if p.length ≠ 1 ∧ p.length ≠ 48 then badLen s
  else if p.length = 1 then checked s [(0, decide (g ≤ 8))] (ok s (irqBytes g x x))
  else checked s
    ([(0, decide (g ≤ 8)), (1, decide (a ≤ 1)),
      (2, a == 1 || (decide (rd p 2 1 < 4) && (g != 0 || !bit (rd p 2 1) 1))), (4, a == 1 || decide (rd p 4 2 ≤ 1000)),
      zeroAt p 6 2] ++ sourcesOk g p ++ [zeroAt p 40 8])
    (if a = 1 then ok (refreshSb (s.setIrq g (acknowledgeAll x (irqSources g) (rd p 8 32)))) (irqBytes g x x)
     else
       let y := irqConfigure g p x
       ok (refreshSb (s.setIrq g y)) (irqBytes g y y))

/-- The meaning of IRQ_GROUP_CONFIG with ACTION 0. -/
def execIrqGroupConfig (rq : Request) (s : State) : Out :=
  let q := withByte 1 0 rq
  kcpRow 0x1103 (leastPriv s 0x1103 q.payload) bodyIrqGroupConfig q s

/-- The meaning of IRQ_GROUP_CONFIG with ACTION 1. -/
def execIrqGroupAck (rq : Request) (s : State) : Out :=
  let q := withByte 1 1 rq
  kcpRow 0x1103 (leastPriv s 0x1103 q.payload) bodyIrqGroupConfig q s

/-- A mask names sources of class S only (R527). -/
def maskOk (s : State) (b w m : Nat) : Bool :=
  (List.range 32).all (fun i => !bit m i || decide (fltClass s b (32 * w + i) = .s))

/-- FLT_PIN_MASK (R527). -/
def bodyFltPinMask : Body := fun c s =>
  let p := c.req.payload
  let b := rd p 0 1
  let w := rd p 1 1
  let out (t : State) : List Byte :=
    le 4 (word32 (t.flt b).mask w) ++ le 4 (fltClassWord t b w) ++ le 4 (word32 (t.flt b).status w)
  if p.length ≠ 4 ∧ p.length ≠ 8 then badLen s
  else checked s
    [(0, decide (b ≤ 12)), (1, decide (w ≤ 63)), zeroAt p 2 2, (4, p.length == 4 || maskOk s b w (rd p 4 4))]
    (if p.length = 4 then ok s (out s)
     else
       let f := s.flt b
       let t := s.setFlt b { f with mask := f.mask - word32 f.mask w * 2 ^ (32 * w) + rd p 4 4 * 2 ^ (32 * w) }
       ok t (out t))

/-- The meaning of FLT_PIN_MASK. -/
def execFltPinMask (rq : Request) (s : State) : Out := kcpRow 0x1104 (leastPriv s 0x1104 rq.payload) bodyFltPinMask rq s

/-- A filter's record (R528). -/
def filterBytes (i : Nat) (f : Filter) : List Byte :=
  le 1 i ++ le 1 f.family ++ le 1 f.dir ++ le 1 f.tc ++ le 1 f.priv ++ zeros 1 ++ le 2 f.ports ++ le 2 f.sources ++ zeros 2 ++
  le 4 f.req ++ le 1 f.resource ++ zeros 3 ++ le 4 f.lo ++ le 4 f.hi ++ zeros 4

/-- The filter of a record (R528). -/
def filterParse (p : List Byte) : Filter :=
  ⟨rd p 1 1, rd p 2 1, rd p 3 1, rd p 4 1, rd p 6 2, rd p 8 2, rd p 12 4, rd p 16 1, rd p 20 4, rd p 24 4⟩

/-- PERF_FILTER (R522, R528). -/
def bodyPerfFilter : Body := fun c s =>
  let p := c.req.payload
  let i := rd p 0 1
  if p.length ≠ 1 ∧ p.length ≠ 32 then badLen s
  else checked s [(0, decide (i ≤ 63))]
    (if p.length = 1 then ok s (filterBytes i (tget {} s.regs.filters i))
     else checked s
      [(1, decide (rd p 1 1 ≤ 3) || decide (rd p 1 1 = 0xFF)), (2, decide (rd p 2 1 < 4)), (4, decide (rd p 4 1 < 8)), zeroAt p 5 1,
       (8, decide (rd p 8 2 < 512)), zeroAt p 10 2, (12, decide (rd p 12 4 < 2 ^ 17)), (16, decide (rd p 16 1 < 4)), zeroAt p 17 3,
       (24, decide (rd p 20 4 < rd p 24 4)), zeroAt p 28 4]
      (let f := filterParse p
       ok { s with regs := { s.regs with
            filters := tset {} s.regs.filters i f, perf := tset {} s.regs.perf (0x0800 + i) {} } } (filterBytes i f)))

/-- The meaning of PERF_FILTER. -/
def execPerfFilter (rq : Request) (s : State) : Out := kcpRow 0x0F03 (leastPriv s 0x0F03 rq.payload) bodyPerfFilter rq s

/-- PERF_READ (R529). -/
def bodyPerfRead : Body := fun c s =>
  let p := c.req.payload
  let f := rd p 0 2
  let n := rd p 2 2
  if p.length ≠ 8 then badLen s
  else checked s
    [(0, decide (f < 0x840)), (2, decide (1 ≤ n) && decide (n ≤ 256) && decide (f + n ≤ 0x840)), (4, decide (rd p 4 1 < 2)),
     zeroAt p 5 3]
    (ok (if bit (rd p 4 1) 0 then (List.range n).foldl (fun t i => perfClear t (f + i)) s else s)
      (le 8 s.tim.tick ++ (List.range n).flatMap (fun i => le 8 (perfWord s (f + i)))))

/-- The meaning of PERF_READ. -/
def execPerfRead (rq : Request) (s : State) : Out := kcpRow 0x0F04 (leastPriv s 0x0F04 rq.payload) bodyPerfRead rq s

end Sys2Proof.Machine
end

