-- ==== Sys2Proof/Machine/Sys.lean ====
section
/-! DEFINITION. The system group of commands: IDENTIFY, SNAPSHOT, ECHO, RESET_BLOCK, GET_GENERATION (R492 to R497). -/

namespace Sys2Proof.Machine
open Sys2Proof

/-- IDENTIFY (R493). -/
def bodyIdentify : Body := fun c s =>
  if c.req.payload ≠ [] then badLen s
  else ok s (ascii 16 "KTG-1024-AA-75" ++ le 8 Config.serial ++ fit 8 Config.clockIdentity ++ fit 3 Config.orgId ++
    le 1 Config.stepping ++ le 4 Config.enterprise ++ le 2 0x0100 ++ le 2 s.kcp.sbDiscards ++ le 4 s.pwr.st.run.version ++
    le 4 s.eng.active.version ++ le 4 (nuheifImage s).version ++ le 4 s.pwr.prov.ownerGen ++
    le 2 (flag 0 s.pwr.prov.hostKeeper + flag 1 (owned s) + 4 * ceiling s c.req.src) ++ le 2 s.kcp.sbReplyLost)

/-- The meaning of IDENTIFY. -/
def execIdentify (rq : Request) (s : State) : Out := kcpRow 0x0001 (leastPriv s 0x0001 rq.payload) bodyIdentify rq s

/-- A section: OPCODE, LENGTH, the first `n` bytes of the status command's reply (R496). -/
def section_ (opcode n : Nat) (body : Body) (p : List Byte) (s : State) : List Byte :=
  le 2 opcode ++ le 2 n ++ fit n (body (plainCmd p) s).payload

/-- The section of a bit of SECTIONS (R496). -/
def snapSection (i : Nat) (s : State) : List Byte :=
  match i with
  | 0 => section_ 0x0101 176 bodyTbStatus [] s
  | 1 => section_ 0x0202 44 bodyGnssStatus [] s
  | 2 => section_ 0x0302 896 bodyRefStatus (le 4 0x000FFFFF) s
  | 3 => section_ 0x0402 184 bodySelStatus [] s
  | 4 => section_ 0x0502 200 bodyEnsembleStatus [] s
  | 5 => section_ 0x0601 88 bodyBoundStatus [] s
  | 6 => section_ 0x0D02 64 bodyTanStatus [] s
  | 7 => section_ 0x0E02 352 bodySynStatus [] s
  | 8 => section_ 0x0C02 128 bodyEvdStatus [] s
  | _ => section_ 0x0A01 64 bodyEngStatus [] s

/-- The capture marker of a SNAPSHOT: the first on the S tile after its acceptance (R50). -/
def snapMarker (s : State) (c : Cmd) : FieldTime := (replicaTimeAt s 0 c.accAt / us1 + 1) * us1

/-- The instant of `now`, in 2^-16 ns, of a SNAPSHOT's capture marker. -/
def snapInstant (s : State) (c : Cmd) : Int :=
  c.accAt * 65536 +
    ((snapMarker s c - replicaTimeAt s 0 c.accAt : Nat) : Int) * 2 ^ 32 / (2 ^ 48 + (s.replica 0).frame.rate)

/-- The tick count at a SNAPSHOT's capture marker (R52, R496). -/
def snapTick (s : State) (c : Cmd) : Nat :=
  ((s.tim.tick : Int) + (snapInstant s c - s.now * 65536) * 5 / (4 * 65536)).toNat

/-- What a SNAPSHOT captures at its marker (R51, R496). -/
def snapPayload (c : Cmd) (s : State) : List Byte :=
  let t := { s with tim := { s.tim with tick := snapTick s c } }
  fit 32 (timeSection s (snapMarker s c)) ++
  ((List.range 10).filter (bit (rd c.req.payload 0 4))).flatMap (fun i => snapSection i t)

/-- The capture that has been taken for a command. -/
def captureOf (s : State) (id : Nat) : Option Snap := s.kcp.snaps.find? (fun x => x.id == id)

/-- A command's capture is no longer held. -/
def dropCapture (id : Nat) (s : State) : State :=
  { s with kcp := { s.kcp with snaps := s.kcp.snaps.filter (fun x => x.id != id) } }

/-- SNAPSHOT (R50, R496): the reply is the capture of its marker; with no good frame since reset there is none. -/
def bodySnapshot : Body := fun c s =>
  let p := c.req.payload
  if p.length ≠ 4 then badLen s
  else checked s [(0, decide (rd p 0 4 < 1024))]
    (if !(s.replica 0).anyGood then err s stSTATE
     else match captureOf s c.id with
       | some x => { ok (dropCapture c.id s) x.payload with gen := some x.gen }
       | none => held s)

/-- The meaning of SNAPSHOT. -/
def execSnapshot (rq : Request) (s : State) : Out := kcpRow 0x0002 (leastPriv s 0x0002 rq.payload) bodySnapshot rq s

/-- Accepted SNAPSHOTs whose capture has not been taken. -/
def uncaptured (s : State) : List Cmd :=
  if !(s.replica 0).anyGood then []
  else s.kcp.slots.filter (fun c => decide (c.opcode = 0x0002) && (captureOf s c.id).isNone)

/-- The captures whose markers have come by an instant of `now` are taken, under the generation of that moment (R50). -/
def latchSnaps (t : Nat) (s : State) : State :=
  let due := (uncaptured s).filter (fun c => decide (snapInstant s c ≤ t * 65536))
  if due = [] then s
  else { s with kcp := { s.kcp with snaps := s.kcp.snaps ++ due.map (fun c => ⟨c.id, s.kcp.g, snapPayload c s⟩) } }

/-- The answer to a held SNAPSHOT whose marker has come: its capture, or what stands now. -/
def snapAnswer (c : Cmd) (s : State) : Res :=
  match captureOf s c.id with
  | some x => { ok (dropCapture c.id s) x.payload with gen := some x.gen }
  | none => ok s (snapPayload c s)

/-- A SNAPSHOT that waits and whose capture marker has come. -/
def snapDue (s : State) (c : Cmd) : Bool :=
  decide (c.opcode = 0x0002) && c.phase == .held && decide (snapInstant s c ≤ s.now * 65536)

/-- SNAPSHOT_CAPTURE (R50): at the first epoch marker after acceptance. -/
def snapshotCapture (s : State) : State :=
  (s.kcp.slots.filter (snapDue s)).foldl (fun t c => answerHeld c.id snapAnswer t) s

/-- The meaning of SNAPSHOT_CAPTURE. -/
def execSnapshotCapture (s : State) : Out := done s (snapshotCapture s)

/-- ECHO (R494). -/
def bodyEcho : Body := fun c s => ok s c.req.payload

/-- The meaning of ECHO. -/
def execEcho (rq : Request) (s : State) : Out := kcpRow 0x0003 (leastPriv s 0x0003 rq.payload) bodyEcho rq s

/-- GET_GENERATION (R495). -/
def bodyGetGeneration : Body := fun c s =>
  if c.req.payload ≠ [] then badLen s
  else ok s (le 8 s.kcp.g ++ (List.range 18).flatMap (fun g => le 8 (groupGen s g)))

/-- The meaning of GET_GENERATION. -/
def execGetGeneration (rq : Request) (s : State) : Out :=
  kcpRow 0x0006 (leastPriv s 0x0006 rq.payload) bodyGetGeneration rq s

/-- A sticky bit clears with its block; it stays while its condition holds (R497, R512). -/
def resetSticky (b n : Nat) (s : State) : State :=
  if bit (s.flt b).cond n then s else s.setFlt b { s.flt b with status := clrBit (s.flt b).status n }

/-- A condition and its sticky bit clear with the block whose state they tell. -/
def resetCond (b n : Nat) (s : State) : State := resetSticky b n (setCond b n false s)

/-- The Ethernet port's reset (R389, R497). -/
def resetEth (p : Nat) (s : State) : State :=
  let a := disableEth p s
  let b := resetSticky 5 (16 + p) (resetSticky 1 (16 + p) (resetSticky 1 (32 + p) (endLoop 1 p (a.setEthP p (clearEth (a.ethP p))))))
  if bit (b.ethP p).cfg.flags 0 ∧ !inSafe b 5 p then enableEth p b else b

/-- The furrow port's reset (R248, R497). -/
def resetFur (p : Nat) (s : State) : State :=
  let b := portBlock p
  let n := 16 + 4 * (p % 256)
  let t := endLoop 2 p (clearCounters p (disablePort p s))
  let u := resetSticky b n (resetSticky b (n + 1) (resetSticky b (n + 2) (resetSticky b (n + 3) t)))
  if (u.port p).cfg.enable ∧ !inSafe u b (p % 256) then enablePort p u else u

/-- The output APLL's reset: its outputs are gated until it has locked again (R447, R497). -/
def resetApll (a : Nat) (s : State) : State :=
  unsync a (resetCond 6 (16 + a) (s.setApll a { cfg := (s.apll a).cfg, inputLost := (s.apll a).inputLost }))

/-- The NVMe root port's reset (R374, R497): the drives are enumerated again. -/
def resetNvme (s : State) : State :=
  resetSticky 4 1 (endLoop 4 0 { s with evd := { s.evd with
    ops := [], superDue := false, reserveTo := s.evd.reservedUpto, starting := false, stopping := false, enumDue := true, retries := 0
    staged := s.evd.staged.map (fun x => if x.phase = .writing then { x with phase := .sealed } else x) } })

/-- The tandem link's reset (R421, R422, R497): no frame or claim word has been seen, the counters are 0. -/
def resetTan (s : State) : State :=
  let t := endLoop 7 0 s
  let u := t.setTan { cfg := t.tan.cfg, lim := t.tan.lim, cmp := { unchecked := tanOn t } }
  decideClaim (resetCond 8 1 (resetCond 8 2 (resetCond 8 3 (setDriving false u))))

/-- The GNSS baseband's reset (R89, R497): acquisition starts cold, and slot 8 loses a prerequisite with its position (R116). -/
def resetGnss (s : State) : State :=
  let t := endLoop 5 0 (resetCond 0 2 { s with gnss := { cfg := s.gnss.cfg, terms := s.gnss.terms, position := s.gnss.position } })
  dropLost <| gnssAtReset { t with gnss := { t.gnss with
    acqThr := clampThr t.gnss.cfg t.gnss.acqThr, lossThr := clampThr t.gnss.cfg t.gnss.lossThr } }

/-- The cluster's reset (R315, R497): its tasks are aborted. -/
def resetCluster (c : Nat) (s : State) : State :=
  let l := (threadsOf c).filter (fun n => (s.thread n).task.isSome)
  let t := l.foldl (fun u n => clearTask n u) s
  let v := { t with eng := { t.eng with taskAborts := min sat32 (t.eng.taskAborts + l.length) } }
  (enginesOf c).foldl (fun u e => u.setEngine e { u.engine e with completed := 0, longest := 0 }) v

/-- The group of a block's commands. -/
def blockGroup (b : Nat) : Nat :=
  match b with
  | 1 => 0x08 | 2 => 0x07 | 3 => 0x0E | 4 => 0x0C | 5 => 0x0D | 6 => 0x02 | _ => 0x0A

/-- Instances of a block (R497). -/
def blockInstances (b : Nat) : Nat :=
  match b with
  | 1 => 16 | 2 => 1024 | 3 => 4 | 7 => 12 | _ => 1

/-- RESET_BLOCK returns STATE (R497). -/
def resetRefused (b i : Nat) (s : State) : Bool :=
  match b with
  | 3 => apllShared s i && decide (s.tan.role = 2)
  | 4 => decide (s.evd.store = 2)
  | 5 => decide (s.tan.role = 2)
  | 6 => decide ((s.replica 0).frame.selSlot = 8)
  | 7 => s.eng.activation.isSome
  | _ => false

/-- The reset of a block instance (R497). -/
def resetBlock (b i : Nat) (s : State) : State :=
  match b with
  | 1 => resetEth i s
  | 2 => resetFur i s
  | 3 => resetApll i s
  | 4 => resetNvme s
  | 5 => resetTan s
  | 6 => resetGnss s
  | _ => resetCluster i s

/-- Commands of a group that are queued and not yet executing. -/
def queuedOf (g : Nat) (c : Cmd) : Bool :=
  decide (groupOf c.opcode = g) && (c.phase == .accepted || c.phase == .relayQueue)

/-- They return ABORTED (R489, R497). -/
def abortQueued (g : Nat) (s : State) : State :=
  (s.kcp.slots.filter (queuedOf g)).foldl (fun t c => addReply c stABORTED 0 t.kcp.g [] t)
    { s with kcp := { s.kcp with slots := s.kcp.slots.filter (fun c => !queuedOf g c) } }

/-- RESET_BLOCK (R497). -/
def bodyResetBlock : Body := fun c s =>
  let p := c.req.payload
  let b := rd p 0 2
  let i := rd p 2 2
  if p.length ≠ 4 then badLen s
  else checked s [(0, decide (1 ≤ b) && decide (b ≤ 7)), (2, decide (i < blockInstances b))]
    (if resetRefused b i s then err s stSTATE else ok (abortQueued (blockGroup b) (resetBlock b i s)) [])

/-- The meaning of RESET_BLOCK. -/
def execResetBlock (rq : Request) (s : State) : Out := kcpRow 0x0004 (leastPriv s 0x0004 rq.payload) bodyResetBlock rq s

end Sys2Proof.Machine
end

