-- ==== Sys2Proof/Machine/Sideband.lean ====
section
/-! DEFINITION. The sideband's MCTP transport and the SPDM responder (R478 to R483). What MCTP and SPDM messages hold beyond
the spec's words follows DSP0236 and DSP0274 (log entry 12). -/

namespace Sys2Proof.Machine
open Sys2Proof

/-- Replace the sideband's assemblies. -/
def setAsm (l : List Assembly) (s : State) : State := { s with kcp := { s.kcp with assembly := l } }
/-- Discards are counted (R479). -/
def sbDiscard (n : Nat) (s : State) : State := { s with kcp := { s.kcp with sbDiscards := min 65535 (s.kcp.sbDiscards + n) } }

/-- A complete message is kept when the port takes it (R478, R480): KCP once the endpoint ID is assigned, with the module's
enterprise number, secured ones in a session only. The others have been answered by their own rows, or are discarded. -/
def keepsMessage (s : State) (b : List Byte) : Bool :=
  s.kcp.eid.isSome && ((decide (rd b 0 1 = 0x7F) && decide ((b.drop 1).take 4 = be 4 Config.enterprise)) ||
    (decide (rd b 0 1 = 0x06) && s.kcp.sb.session))

/-- A packet extends or completes the message of its tag (R479). -/
def takePacket (p : MctpPacket) (old : List Byte) (s : State) : State :=
  let rest := s.kcp.assembly.filter (fun a => a.complete || a.tag != p.tag)
  let all := old ++ p.bytes
  if p.eom then (if keepsMessage s all then setAsm (rest ++ [⟨p.tag, 0, all, true, s.now⟩]) s else setAsm rest s)
  else setAsm (rest ++ [⟨p.tag, (p.seq + 1) % 4, all, false, s.now⟩]) s

/-- The message of a tag in assembly (R479). -/
def asmOf (s : State) (tag : Nat) : Option Assembly := s.kcp.assembly.find? (fun a => !a.complete && a.tag == tag)

/-- MCTP_PACKET (R478, R479): a packet whose PEC fails is discarded; with two messages held, none is begun. -/
def mctpPacket (p : MctpPacket) (s : State) : State :=
  if !serving s || decide (p.dest ≠ s.pwr.prov.smbAddr) || !p.pec then s
  else match asmOf s p.tag with
    | some a =>
      if p.som then takePacket p [] (sbDiscard 1 s)
      else if p.seq ≠ a.seq then sbDiscard 1 (setAsm (s.kcp.assembly.filter (fun x => x != a)) s)
      else takePacket p a.bytes s
    | none =>
      if !p.som then sbDiscard 1 s
      else if 2 ≤ s.kcp.assembly.length then s
      else takePacket p [] s

/-- The meaning of MCTP_PACKET. -/
def execMctpPacket (p : MctpPacket) (s : State) : Out := done s (mctpPacket p s)

/-- MCTP_REASSEMBLY_TIMEOUT (R479): 100 ms without the next packet. -/
def reassemblyTimeout (s : State) : State :=
  let late (a : Assembly) : Bool := !a.complete && decide (a.lastAt + 100000000 ≤ s.now)
  sbDiscard (s.kcp.assembly.filter late).length (setAsm (s.kcp.assembly.filter (fun a => !late a)) s)

/-- The meaning of MCTP_REASSEMBLY_TIMEOUT. -/
def execMctpReassemblyTimeout (s : State) : Out := done s (reassemblyTimeout s)

/-- The body of an MCTP control response. -/
def mctpAnswer (b : List Byte) (s : State) : State := if serving s then { s with kcp := { s.kcp with mctpReply := b } } else s

/-- SET_ENDPOINT_ID (R478, R480): an ID from 8 to 254 is assigned. -/
def setEndpointId (op eid : Nat) (s : State) : State :=
  if !serving s then s
  else if op ≤ 1 ∧ 8 ≤ eid ∧ eid ≤ 254 then mctpAnswer ([0, 0] ++ le 1 eid ++ [0]) { s with kcp := { s.kcp with eid := some eid } }
  else mctpAnswer ([2, 0x10] ++ le 1 (s.kcp.eid.getD 0) ++ [0]) s

/-- The meaning of SET_ENDPOINT_ID. -/
def execSetEndpointId (operation eid : Nat) (s : State) : Out := done s (setEndpointId operation eid s)

/-- GET_ENDPOINT_ID (R480). -/
def execGetEndpointId (s : State) : Out := done s (mctpAnswer ([0] ++ le 1 (s.kcp.eid.getD 0) ++ [0, 0]) s)

/-- Message types of the port (R480). -/
def mctpTypes : List Byte := [0x00, 0x05, 0x06, 0x7F]

/-- GET_MCTP_VERSION_SUPPORT (R480): the version bytes are a free value. -/
def mctpVersions (t : Nat) (s : State) : State :=
  if mctpTypes.any (fun b => b.toNat == t) then
    let d := drawRandom 4 s
    mctpAnswer ([0, 1] ++ d.1) d.2
  else mctpAnswer [0x80, 0] s

/-- The meaning of GET_MCTP_VERSION_SUPPORT. -/
def execGetMctpVersionSupport (messageType : Nat) (s : State) : Out := done s (mctpVersions messageType s)

/-- GET_MESSAGE_TYPE_SUPPORT (R480). -/
def execGetMessageTypeSupport (s : State) : Out := done s (mctpAnswer ([0, 4] ++ mctpTypes) s)

/-- GET_VENDOR_DEFINED_MSG_SUPPORT (R478, R480): one set, by enterprise number; its version bytes are a free value. -/
def mctpVendor (selector : Nat) (s : State) : State :=
  if selector = 0 then
    let d := drawRandom 2 s
    mctpAnswer ([0, 0xFF, 1] ++ be 4 Config.enterprise ++ d.1) d.2
  else mctpAnswer [2] s

/-- The meaning of GET_VENDOR_DEFINED_MSG_SUPPORT. -/
def execGetVendorDefinedMsgSupport (selector : Nat) (s : State) : Out := done s (mctpVendor selector s)

/-- A reply or command of the sideband port: plain, or of its session. -/
def onSideband (x : Source) : Bool := match x with | .sideband => true | .session _ => true | _ => false
/-- A source that is the sideband session. -/
def isSession (x : Source) : Bool := match x with | .session _ => true | _ => false

/-- The first reply waiting for the sideband (R479). -/
def firstSideband (s : State) : Option Reply := s.kcp.replies.find? (fun r => onSideband r.src)

/-- A reply leaves its slot. -/
def dropReply (r : Reply) (s : State) : State := { s with kcp := { s.kcp with replies := s.kcp.replies.filter (fun x => x.id != r.id) } }

/-- A reply has been delivered: counted by status (R521). -/
def delivered (r : Reply) (s : State) : State := perfAdd (0x0610 + r.status) 1 (dropReply r s)

/-- SB_REPLY_RETRY (R479): acknowledged at last, or discarded 1 s after it was built. -/
def sbReplyRetry (acked : Bool) (s : State) : State :=
  match firstSideband s with
  | none => s
  | some r =>
    if acked then delivered r s
    else if r.builtAt + 1000000000 ≤ s.now then
      let t := dropReply r s
      { t with kcp := { t.kcp with sbReplyLost := satInc 65535 t.kcp.sbReplyLost } }
    else s

/-- The meaning of SB_REPLY_RETRY. -/
def execSbReplyRetry (acked : Bool) (s : State) : Out := done s (sbReplyRetry acked s)

/-- SPDM of a transport. -/
def spdmOf (s : State) (doe : Bool) : Spdm := if doe then s.kcp.doe else s.kcp.sb
/-- Replace SPDM of a transport. -/
def setSpdm (doe : Bool) (x : Spdm) (s : State) : State :=
  if doe then { s with kcp := { s.kcp with doe := x } } else { s with kcp := { s.kcp with sb := x } }

/-- Request `n` of R481's order is answered, when its condition holds; otherwise an ERROR response, and nothing changes. -/
def spdmAnswer (doe ok_ : Bool) (n : Nat) (body : List Byte) (f : Spdm → Spdm) (s : State) : State :=
  if !serving s then s
  else if ok_ then setSpdm doe { f (spdmOf s doe) with lastReply := some n, lastBytes := body } s
  else setSpdm doe { spdmOf s doe with lastReply := none, lastBytes := [] } s

/-- A session of the sideband ends (R483): its commands not yet executing are abandoned, those that await acceptance too; the
replies of the others are lost. -/
def endSession (doe : Bool) (s : State) : State :=
  let t := setSpdm doe { spdmOf s doe with session := false, mutual_ := false, keyed := false } s
  if doe then t
  else
    let waits (c : Cmd) : Bool := isSession c.req.src && (c.phase == .accepted || c.phase == .relayQueue)
    { t with kcp := { t.kcp with
        slots := (t.kcp.slots.filter (fun c => !waits c)).map (fun c => if isSession c.req.src then { c with lost := true } else c)
        replies := t.kcp.replies.filter (fun r => !isSession r.src)
        assembly := t.kcp.assembly.filter (fun a => !a.complete || rd a.bytes 0 1 != 0x06) } }

/-- The response body that the exchange so far gives request `n` (R481): a free value. -/
def spdmFree (n : Nat) (doe : Bool) (s : State) : List Byte := Config.spdmBody n (spdmOf s doe).lastBytes

/-- GET_VERSION (R481): the negotiation starts again. -/
def execGetVersion (doe : Bool) (s : State) : Out :=
  done s (spdmAnswer doe true 0 (spdmFree 0 doe s) (fun x => { x with version := true, caps := false, algos := false, keyed := false }) s)
/-- GET_CAPABILITIES (R481). -/
def execGetCapabilities (doe : Bool) (s : State) : Out :=
  done s (spdmAnswer doe (spdmOf s doe).version 1 (spdmFree 1 doe s) (fun x => { x with caps := true }) s)
/-- NEGOTIATE_ALGORITHMS (R481): `supported` says that the request offers the algorithms of R481. -/
def execNegotiateAlgorithms (doe supported : Bool) (s : State) : Out :=
  done s (spdmAnswer doe ((spdmOf s doe).caps && supported) 2 (spdmFree 2 doe s) (fun x => { x with algos := true }) s)
/-- GET_DIGESTS (R481). -/
def execGetDigests (doe : Bool) (s : State) : Out :=
  done s (spdmAnswer doe (spdmOf s doe).algos 3 (spdmFree 3 doe s) id s)

/-- A certificate slot holds a chain (R481): slot 1 once the module is owned. -/
def certSlot (s : State) (slot : Nat) : Bool := decide (slot = 0) || (decide (slot = 1) && owned s)

/-- GET_CERTIFICATE (R481). -/
def execGetCertificate (doe : Bool) (slot offset length : Nat) (s : State) : Out :=
  done s (spdmAnswer doe ((spdmOf s doe).algos && certSlot s slot) 4
    (((Config.spdmBody 4 (le 1 slot)).drop offset).take length) id s)
/-- CHALLENGE (R481). -/
def execChallenge (doe : Bool) (nonce : List Byte) (s : State) : Out :=
  done s (spdmAnswer doe (spdmOf s doe).algos 5 (Config.spdmBody 5 nonce) id s)

/-- The measurement of an index (R482). -/
def measurement (s : State) (i : Nat) : List Byte :=
  match i with
  | 1 => fit 48 (nuheifImage s).digest
  | 2 => sealedDigest s
  | 3 => fit 48 s.pwr.st.run.digest
  | 4 => fit 48 s.eng.active.digest
  | 5 => sha384 (le 4 (sealCount s) ++ s.log.headHash)
  | 6 => sha384 (signPublic s)
  | _ => sha384 (le 4 s.pwr.prov.ownerGen ++ s.pwr.minSvn.flatMap (fun v => le 1 v))

/-- The measurements an operation asks for (R482): 0 their number, 1 to 7 one, 0xFF all. -/
def measurements (s : State) (op : Nat) : Option (List Byte) :=
  if op = 0 then some [7]
  else if op = 0xFF then some ([1, 2, 3, 4, 5, 6, 7].flatMap (measurement s))
  else if op ≤ 7 then some (measurement s op) else none

/-- The signature of a GET_MEASUREMENTS that asks for one, by its nonce, under certificate slot 0 (R482): a free value of what it
is over. -/
def measureSignature (nonce body : List Byte) : List Byte := if nonce = [] then [] else Config.spdmBody 6 (nonce ++ body)

/-- GET_MEASUREMENTS (R482). -/
def execGetMeasurements (doe : Bool) (op : Nat) (nonce : List Byte) (s : State) : Out :=
  let m := (measurements s op).getD []
  done s (spdmAnswer doe ((spdmOf s doe).algos && (measurements s op).isSome) 6 (m ++ measureSignature nonce m) id s)

/-- KEY_EXCHANGE (R481): at most one session on a transport. -/
def execKeyExchange (doe : Bool) (exchange : List Byte) (s : State) : Out :=
  done s (spdmAnswer doe ((spdmOf s doe).algos && !(spdmOf s doe).session) 7 (Config.spdmBody 7 exchange)
    (fun x => { x with keyed := true }) s)

/-- The requester's chain ends at the owner sideband root (R483); `cert` is the chain's root certificate. -/
def ownerRoot (s : State) (cert : Option (List Byte)) : Bool :=
  match cert with
  | some c => owned s && decide (sha384 c = fit 48 s.pwr.prov.sbRoot)
  | none => false

/-- FINISH (R483): the session opens, with the class of its authentication; one whose MAC fails ends the exchange. -/
def finish (doe macOk : Bool) (cert : Option (List Byte)) (s : State) : State :=
  if (spdmOf s doe).keyed ∧ !macOk ∧ serving s then
    setSpdm doe { spdmOf s doe with keyed := false, lastReply := none, lastBytes := [] } s
  else spdmAnswer doe ((spdmOf s doe).keyed && macOk) 8 (spdmFree 8 doe s)
    (fun x => { x with keyed := false, session := true, mutual_ := ownerRoot s cert, heard := s.now, keyUpdates := 0 }) s

/-- The meaning of FINISH. -/
def execFinish (doe macOk : Bool) (cert : Option (List Byte)) (s : State) : Out := done s (finish doe macOk cert s)

/-- HEARTBEAT (R483). -/
def execHeartbeat (doe : Bool) (s : State) : Out :=
  done s (spdmAnswer doe (spdmOf s doe).session 9 (spdmFree 9 doe s) (fun x => { x with heard := s.now }) s)
/-- KEY_UPDATE (R481). -/
def execKeyUpdate (doe : Bool) (s : State) : Out :=
  done s (spdmAnswer doe (spdmOf s doe).session 10 (spdmFree 10 doe s)
    (fun x => { x with heard := s.now, keyUpdates := x.keyUpdates + 1 }) s)
/-- END_SESSION (R483). -/
def execEndSession (doe : Bool) (s : State) : Out :=
  done s (if (spdmOf s doe).session ∧ serving s then endSession doe (spdmAnswer doe true 11 (spdmFree 11 doe s) id s)
    else spdmAnswer doe false 11 [] id s)

/-- HEARTBEAT_TIMEOUT (R481, R483): two heartbeats of 10 s missed. -/
def heartbeatTimeout (doe : Bool) (s : State) : State :=
  let x := spdmOf s doe
  if x.session ∧ x.heard + 20000000000 ≤ s.now then endSession doe s else s

/-- The meaning of HEARTBEAT_TIMEOUT. -/
def execHeartbeatTimeout (doe : Bool) (s : State) : Out := done s (heartbeatTimeout doe s)

end Sys2Proof.Machine
end

