-- ==== Sys2Proof/Machine/Kcp.lean ====
section
/-! DEFINITION. How the command processor takes, runs and answers requests: acceptance, execution in order, the relay to
Nuheif, delivery, completion limits; the PCIe link's effect on the rings (R16, R469 to R491). -/

namespace Sys2Proof.Machine
open Sys2Proof

/-- The effect of each opcode the module implements (R498). -/
def bodyFor (opcode : Nat) : Option Body :=
  match opcode with
  | 0x0001 => some bodyIdentify | 0x0002 => some bodySnapshot | 0x0003 => some bodyEcho | 0x0004 => some bodyResetBlock
  | 0x0006 => some bodyGetGeneration | 0x0008 => some bodyImageStage | 0x0009 => some bodyImageActivate
  | 0x0101 => some bodyTbStatus | 0x0102 => some bodyTimConfig | 0x0103 => some bodyTimMeasure
  | 0x0104 => some bodyTimCalStatus | 0x0105 => some bodyTimCalRun
  | 0x0201 => some bodyGnssConfig | 0x0202 => some bodyGnssStatus | 0x0203 => some bodyGnssChannels
  | 0x0204 => some bodyGnssSetPosition | 0x0205 => some bodyGnssSurvey | 0x0206 => some bodyGnssPpsMsg
  | 0x0301 => some bodyRefConfig | 0x0302 => some bodyRefStatus | 0x0303 => some bodyRefLimits
  | 0x0304 => some bodyRefDuplex | 0x0305 => some bodyTodConfig
  | 0x0401 => some bodySelPolicy | 0x0402 => some bodySelStatus | 0x0403 => some bodySelForce
  | 0x0404 => some bodySelClearForce | 0x0405 => some bodyDpllConfig | 0x0406 => some bodyTimeSet
  | 0x0407 => some bodyTimeAdjust
  | 0x0501 => some bodyOscConfig | 0x0502 => some bodyEnsembleStatus | 0x0503 => some bodyHoldoverModel
  | 0x0504 => some bodyHoldoverLearn
  | 0x0601 => some bodyBoundStatus | 0x0602 => some bodyBoundParams | 0x0603 => some bodySealBreakOpen
  | 0x0604 => some bodySealClose | 0x0605 => some bodyLogRead | 0x0606 => some bodyMetrologyId
  | 0x0701 => some bodyFurPortConfig | 0x0702 => some bodyFurPortStatus | 0x0703 => some bodyFurRatePolicy
  | 0x0704 => some bodyFurCalibrate | 0x0705 => some bodyFurMailboxSend | 0x0706 => some bodyFurMailboxRecv
  | 0x0707 => some bodyFurBulkStatus
  | 0x0801 => some bodyEthPortConfig | 0x0802 => some bodyEthPortStatus | 0x0803 => some bodyEthTagConfig
  | 0x0804 => some bodyEthPauseConfig | 0x0805 => some bodyEthAsymCal
  | 0x0901 => some bodySvcProfile | 0x0902 => some bodySvcDomain | 0x0903 => some bodySvcClientAdd
  | 0x0904 => some bodySvcClientRemove | 0x0905 => some bodySvcClientQuery | 0x0906 => some bodySvcLimits
  | 0x0907 => some bodyUpstreamConfig
  | 0x0A01 => some bodyEngStatus | 0x0A02 => some bodyProgStage | 0x0A03 => some bodyProgActivate
  | 0x0A04 => some bodyEngPlacementPolicy | 0x0A05 => some bodyEngCensus
  | 0x0B01 => some bodyKeyWrite | 0x0B02 => some bodyKeyInvalidate | 0x0B03 => some bodyKeyStatus
  | 0x0B04 => some bodyKeyAttr | 0x0B05 => some bodyHarrowStatus | 0x0B06 => some bodyNtsMasterRotate
  | 0x0C01 => some bodyEvdStoreConfig | 0x0C02 => some bodyEvdStatus | 0x0C03 => some bodyEvdNamespaceAdd
  | 0x0C04 => some bodyEvdRetention | 0x0C05 => some bodyEvdSheafRead
  | 0x0D01 => some bodyTanConfig | 0x0D02 => some bodyTanStatus | 0x0D03 => some bodyTanClaimSet
  | 0x0D04 => some bodyTanCompareLimits
  | 0x0E01 => some bodySynConfig | 0x0E02 => some bodySynStatus | 0x0E03 => some bodyOutPpsConfig
  | 0x0E04 => some bodyOutSampleClock | 0x0E05 => some bodyRefclkSpread
  | 0x0F01 => some bodyPwrPolicy | 0x0F02 => some bodyPwrStatus | 0x0F03 => some bodyPerfFilter | 0x0F04 => some bodyPerfRead
  | 0x1001 => some bodyLoopbackSet | 0x1002 => some bodyLoopbackClear | 0x1003 => some bodyBistRun
  | 0x1004 => some bodyTestUnlock
  | 0x1101 => some bodyFaultRead | 0x1102 => some bodyFaultClear | 0x1103 => some bodyIrqGroupConfig
  | 0x1104 => some bodyFltPinMask
  | _ => none

/-- The place of a source in the order of R477: rings 0 to 7, then the sideband. -/
def sourcePlace (x : Source) : Nat := match x with | .ring r => r | _ => 8

/-- A message of the sideband awaits acceptance: KCP (type 0x7F), or secured (0x06) for a session (R478, R481). -/
def sidebandWaiting (s : State) (secured : Bool) : Option Assembly :=
  s.kcp.assembly.find? (fun a => a.complete && (rd a.bytes 0 1 == (if secured then 0x06 else 0x7F)))

/-- A source has a command waiting (R475, R477); the recovery responder serves ring 0 and the plain sideband (R551). -/
def sourceWaits (s : State) (k : Nat) : Bool :=
  if k < 8 then
    s.kcp.linkUp && (s.ring k).enable && decide ((s.ring k).sqTail ≠ (s.ring k).sqHead) && (!inRecovery s || k == 0)
  else s.kcp.assembly.any (·.complete)

/-- Command slots in use (R477): a command whose reply is PENDING has left its slot once that reply is delivered. -/
def slotsUsed (s : State) : Nat :=
  (s.kcp.slots.filter (fun c => !c.answered && c.req.src != .internal)).length +
  (s.kcp.replies.filter (fun r => r.src != .internal)).length
/-- Command slots in use by the host rings. -/
def ringSlotsUsed (s : State) : Nat :=
  (s.kcp.slots.filter (fun c => !c.answered && sourcePlace c.req.src < 8)).length +
  (s.kcp.replies.filter (fun r => sourcePlace r.src < 8)).length

/-- A slot is free for a source (R477): four are reserved for the sideband. -/
def slotFree (s : State) (k : Nat) : Bool := decide (slotsUsed s < 32) && (decide (k = 8) || decide (ringSlotsUsed s < 28))

/-- The source whose turn it is (R477). -/
def turnNow (s : State) : Option Nat :=
  ((List.range 9).map (fun i => (s.kcp.turn + i) % 9)).find? (fun k => sourceWaits s k && slotFree s k)

/-- An earlier command of the source has not ended (R485). -/
def fenced (s : State) (x : Source) : Bool :=
  s.kcp.slots.any (fun c => decide (c.req.src = x) && !c.answered) || s.kcp.replies.any (fun r => decide (r.src = x))

/-- The request of a KCP message (R469, R478). -/
def messagePacket (a : Assembly) : Packet :=
  let b := a.bytes.drop 5
  ⟨b.length, rd b 0 2, rd b 4 2, ⟨.sideband, rd b 2 2, rd b 6 1, rd b 7 1, rd b 8 8, b.drop 16⟩⟩


/-- Commands that have become first in their group's order (R484, R491). -/
def firsts (now : Nat) : List Nat → List Cmd → List Cmd
  | _, [] => []
  | seen, c :: t =>
    if c.phase == .held || c.phase == .background then c :: firsts now seen t
    else if seen.contains (groupOf c.opcode) then c :: firsts now seen t
    else { c with first := if c.first = 0 then now else c.first } :: firsts now (groupOf c.opcode :: seen) t

/-- The groups whose executor still runs a command (R484): the key group's while an invalidation waits for its flash write
(R347). -/
def groupsHeld (s : State) : List Nat := if s.key.invalidating = [] then [] else [0x0B]

/-- Note the commands that are first in their group's order from now on. -/
def markFirst (s : State) : State := { s with kcp := { s.kcp with slots := firsts s.now (groupsHeld s) s.kcp.slots } }

/-- Replace the commands in the slots. -/
def setSlots (l : List Cmd) (s : State) : State := { s with kcp := { s.kcp with slots := l } }

/-- Checks 1 to 5 of R470: the status and detail of the first that fails. -/
def acceptChecks (s : State) (pk : Packet) : Option (Nat × Nat) :=
  if pk.received ≠ 16 + pk.length ∨ 4080 < pk.length ∨ pk.req.payload.length ≠ pk.length then some (stBAD, 0xFF)
  else if pk.req.flags < 8 ∧ pk.req.priv ≤ 2 ∧ (bodyFor pk.opcode).isNone then some (stUNSUP, 0)
  else classChecks s { opcode := pk.opcode, req := pk.req } (leastPriv s pk.opcode pk.req.payload)

/-- The request leaves its ring or its buffer, and the turn passes on (R475, R477). -/
def takeRequest (x : Source) (s : State) : State :=
  let k := sourcePlace x
  let t := { s with kcp := { s.kcp with turn := (k + 1) % 9 } }
  if k < 8 then t.setRing k { t.ring k with sqHead := ((t.ring k).sqHead + 1) % 65536 }
  else match sidebandWaiting t (isSession x) with
    | some a => setAsm (t.kcp.assembly.filter (fun y => y != a)) t
    | none => t

/-- A request that passed its checks has a slot (R16, R477): a relayed one waits for the mailbox, the eighteenth is
rejected. -/
def admitPacket (pk : Packet) (s : State) : State :=
  let c : Cmd := { id := s.kcp.nextId, opcode := pk.opcode, req := pk.req, since := s.now, accAt := s.now, accGen := s.kcp.g }
  let t := perfAdd (0x0600 + sourcePlace pk.req.src) 1
    (filterCount { family := 1, priv := pk.req.priv, source := sourcePlace pk.req.src, value := pk.opcode } 1 (takeId s))
  if relayed pk.opcode pk.req.payload then
    (if 17 ≤ relayedOut s then addReply c stBUSY 1 t.kcp.g [] t
     else markFirst (setSlots (t.kcp.slots ++ [{ c with phase := .relayQueue }]) t))
  else markFirst (setSlots (t.kcp.slots ++ [c]) t)

/-- The waiting request is checked, and accepted or answered (R470, R477). -/
def acceptPacket (pk : Packet) (s : State) : State :=
  let t := takeRequest pk.req.src s
  match acceptChecks s pk with
  | some (st, d) =>
    addReply { id := t.kcp.nextId, opcode := pk.opcode, req := pk.req } st d t.kcp.g [] (takeId t)
  | none => admitPacket pk t

/-- The session of a request's source is the open one (R483). -/
def sessionOpen (s : State) (x : Source) : Bool :=
  match x with | .session m => s.kcp.sb.session && s.kcp.sb.mutual_ == m | .internal => false | _ => true

/-- The request that waits at a source: on the plain sideband that of its message. -/
def waitingPacket (s : State) (pk : Packet) : Option Packet :=
  match pk.req.src with
  | .ring _ => some pk
  | .sideband => (sidebandWaiting s false).map messagePacket
  | .session _ => (sidebandWaiting s true).map (fun _ => pk)
  | .internal => none

/-- COMMAND_ACCEPT (R470, R475, R477, R485): the source whose turn it is; `dmaOk` says that a ring's fetch succeeded. -/
def commandAccept (pk : Packet) (dmaOk : Bool) (s : State) : State :=
  let k := sourcePlace pk.req.src
  if !serving s || turnNow s != some k || !sessionOpen s pk.req.src then s
  else if k < 8 ∧ !dmaOk then s.setRing k { s.ring k with sqErr := true, enable := false }
  else match waitingPacket s pk with
    | none => s
    | some q =>
      if bit q.req.flags 2 ∧ q.req.flags < 8 ∧ fenced s q.req.src then { s with kcp := { s.kcp with turn := (k + 1) % 9 } }
      else acceptPacket q s

/-- The meaning of COMMAND_ACCEPT. -/
def execCommandAccept (packet : Packet) (dmaOk : Bool) (s : State) : Out :=
  guardUnit (match packet.req.src with | .ring r => decide (r < 8) | _ => true) s (done s (commandAccept packet dmaOk s))

/-- A command runs (R470 check 6, R484). -/
def runOpcode (c : Cmd) (s : State) : State :=
  match bodyFor c.opcode with
  | some body => runCmd body { c with first := if c.first = 0 then s.now else c.first } s
  | none => addReply c stUNSUP 0 s.kcp.g [] s

/-- COMMAND_EXECUTE (R484): the group's next accepted command. -/
def commandExecute (g : Nat) (s : State) : State :=
  match s.kcp.slots.find? (fun c => c.phase == .accepted && decide (groupOf c.opcode = g) && !(groupsHeld s).contains g) with
  | none => s
  | some c => markFirst (runOpcode c (setSlots (s.kcp.slots.filter (fun x => x.id != c.id)) s))

/-- The meaning of COMMAND_EXECUTE; the effects raise the generations themselves. -/
def execCommandExecute (group : Nat) (s : State) : Out :=
  guardUnit (decide (group < 18)) s (.next (if serving s then commandExecute group s else s))

/-- Someone serves the mailbox: Nuheif, or its ROM in recovery (R552). -/
def mailboxServed (s : State) : Bool := s.pwr.nuheifUp || s.pwr.mRecovery

/-- RELAY_COMMAND (R16): the first queued command goes into the free mailbox. -/
def relayCommand (s : State) : State :=
  if !mailboxServed s || s.kcp.slots.any (fun c => c.phase == .mailbox || c.phase == .waiting) then s
  else match s.kcp.slots.find? (fun c => c.phase == .relayQueue && !unreached s c.opcode c.req.payload) with
    | none => s
    | some c => setSlots (s.kcp.slots.map (fun x => if x.id = c.id then { x with phase := .mailbox, since := s.now } else x)) s

/-- The meaning of RELAY_COMMAND. -/
def execRelayCommand (s : State) : Out := done s (relayCommand s)

/-- A queued command's completion limit of 200 ms has passed (R16, R491). -/
def relayLate (now : Nat) (c : Cmd) : Bool := c.phase == .relayQueue && decide (c.first ≠ 0) && decide (c.first + 200000000 ≤ now)

/-- RELAY_TIMEOUT (R16). -/
def relayTimeout (s : State) : State :=
  let late := s.kcp.slots.filter (relayLate s.now)
  markFirst (late.foldl (fun t c => addReply c stTIMEOUT 0 t.kcp.g [] t)
    (setSlots (s.kcp.slots.filter (fun c => !relayLate s.now c)) s))

/-- The meaning of RELAY_TIMEOUT. -/
def execRelayTimeout (s : State) : Out := done s (relayTimeout s)

/-- The command Nuheif works on: that of the mailbox, else one it continues in the background (R16). -/
def nuheifWork (s : State) : Option Cmd :=
  (s.kcp.slots.find? (fun c => c.phase == .mailbox)).or (s.kcp.slots.find? (fun c => c.phase == .background))

/-- The interval of the bound computer now (R16), by the boundary that ends it: after a step R593 gives it 0.5 to 1.5 ms. Before
the bound computer runs, the ms of the model's clock. -/
def serviceInterval (s : State) : Nat :=
  if !computing s then s.now / 1000000
  else if s.acc < s.bnd.nextComp then s.bnd.nextComp
  else
    let b := gridFrom ms1 (s.bnd.nextComp + ms1 / 2)
    if s.acc < b then b else b + ((s.acc - b) / ms1 + 1) * ms1

/-- The FREQ_OFFSET of slots 11 to 18 for the LEAF_FREQ of leaf-mode ports (R263): the tiles hold what a relayed reading gave them
last, one with each service of the mailbox (DESIGN CHOICE, log entry 27: no rule says how they come by it). -/
def leafFreqs (s : State) : State :=
  { s with fur := { s.fur with slotFreqs := ((List.range 8).map (fun i => (11 + i, (s.slot (11 + i)).freq))).filter (fun e => e.2.isSome) } }

/-- MAILBOX_SERVICE (R16): at most 8 µs in each interval of the bound computer; how long a command needs is a free value. -/
def mailboxService (s0 : State) : State :=
  let s := if mailboxServed s0 then leafFreqs s0 else s0
  let iv := serviceInterval s
  let used := if iv = s.kcp.mbInterval then s.kcp.mbServed else 0
  if !mailboxServed s || decide (8000 ≤ used) then s
  else match nuheifWork s with
    | none => s
    | some c =>
      let d := drawBelow (8000 - used) s
      let e := drawBelow 2 d.2
      let t := { e.2 with kcp := { e.2.kcp with mbInterval := iv, mbServed := used + d.1 + 1 } }
      if e.1 = 0 then t
      else markFirst (runOpcode c (setSlots (t.kcp.slots.filter (fun x => x.id != c.id)) t))

/-- The meaning of MAILBOX_SERVICE; the command's effect raises the generations itself. -/
def execMailboxService (s : State) : Out := .next (mailboxService s)

/-- The command in the mailbox has been there for 10 ms (R16). -/
def pendingDue (now : Nat) (c : Cmd) : Bool :=
  (c.phase == .mailbox || c.phase == .waiting) && decide (c.since + 10000000 ≤ now)

/-- A command goes on in the background after PENDING: one that waits for its event is not run again. -/
def toBackground (c : Cmd) : Cmd :=
  { c with phase := if c.phase = .waiting then .held else .background, answered := true, lost := true }

/-- PENDING_REPLY (R16, R488): the work goes on in the background, with no second reply. -/
def pendingReply (s : State) : State :=
  match s.kcp.slots.find? (pendingDue s.now) with
  | none => s
  | some c =>
    addReply c stPENDING 0 c.accGen []
      (setSlots (s.kcp.slots.map (fun x => if x.id = c.id then toBackground x else x)) s)

/-- The meaning of PENDING_REPLY. -/
def execPendingReply (s : State) : Out := done s (pendingReply s)

/-- A reply is written to its ring (R475): the completion slot at the tail, the shadow record, the interrupt source. -/
def writeCompletion (k : Nat) (r : Reply) (s : State) : State :=
  let x := s.ring k
  let t := s.setRing k { x with cqTail := (x.cqTail + 1) % 65536, cqFull := false }
  irqArrive 0 k (delivered r { t with kcp := { t.kcp with lastComplete := some (k, x.cqTail % ringSlots x) } })

/-- The mark of a BOUND_VIOLATION entry as LOG_READ returns it (R203, R365). No message carries t_e and the effective marker
to the command processor: the mark has those of the discovery of that SEQ (DESIGN CHOICE, log entry 26). -/
def entryMark (s : State) (e : List Byte) : Option MarkDue :=
  if rd e 4 1 ≠ 7 then none
  else (s.bnd.found.find? (fun m => m.logSeq == rd e 0 4)).map (fun f => ⟨f.fromUs, f.toUs, rd e 16 8, rd e 0 4⟩)

/-- The entries of a LOG_READ reply (R212). -/
def replyEntries (p : List Byte) : List (List Byte) := (List.range (rd p 8 2)).map (fun i => (p.drop (64 + 32 * i)).take 32)

/-- The command processor takes the reply to its own LOG_READ (R365): the mark of the entry read; it reads on while another
discovery's entry is unread, or when the entry is not written yet. -/
def logHeard (r : Reply) (s : State) : State :=
  let t := dropReply r s
  if r.status = stOK then
    let m := (replyEntries r.payload).filterMap (entryMark t)
    let left := t.bnd.found.filter (fun x => !m.any (fun y => y.logSeq == x.logSeq))
    { t with
      evd := { t.evd with marksDue := t.evd.marksDue ++ m, announced := t.evd.announced || decide (left ≠ []) }
      bnd := { t.bnd with found := left } }
  else { t with evd := { t.evd with announced := true } }

/-- REPLY_DELIVER (R475, R479): the source's oldest reply; `ok_` says that the write or the packets succeeded. -/
def replyDeliver (src : Source) (ok_ : Bool) (s : State) : State :=
  match s.kcp.replies.find? (fun r => decide (r.src = src)) with
  | none => s
  | some r =>
    match src with
    | .ring k =>
      if !s.kcp.linkUp then s
      else if !ringSpace (s.ring k) then s.setRing k { s.ring k with cqFull := true }
      else if ok_ then writeCompletion k r s
      else s.setRing k { s.ring k with cqErr := true, enable := false }
    | .internal => logHeard r s
    | _ => if ok_ then delivered r s else s

/-- The meaning of REPLY_DELIVER. -/
def execReplyDeliver (src : Source) (ok_ : Bool) (s : State) : Out :=
  guardUnit (match src with | .ring r => decide (r < 8) | _ => true) s (done s (replyDeliver src ok_ s))

/-- The completion limit of a command in ns (R491): 1 ms, or the figure its chapter names plus 1 ms. -/
def limitNs (c : Cmd) : Nat :=
  let p := c.req.payload
  match c.opcode with
  | 0x0002 => 201000000
  | 0x0004 => 101000000
  | 0x0008 => if bit (rd p 1 1) 1 then 2001000000 else 101000000
  | 0x0103 => rd p 4 2 * 1000000 + 200000000
  | 0x0703 => 1064000
  | 0x0903 => 5194304
  | 0x0904 => 5194304
  | 0x0A04 => 1050000
  | 0x0B01 => 51000000
  | 0x0B02 => 501000000
  | 0x0B06 => 501000000
  | 0x0C05 => 2100000000
  | 0x0F01 => 1200000
  | _ => if relayed c.opcode p then 200000000 else 1000000

/-- The command waits in its slot past its limit, for a party outside the module or a starved requester (R489, R491). -/
def limitPassed (now : Nat) (c : Cmd) : Bool :=
  (c.phase == .accepted || c.phase == .held) && !c.answered && decide (c.first ≠ 0) && decide (c.first + limitNs c ≤ now)

/-- COMPLETION_LIMIT_EXPIRY (R489, R491). -/
def completionLimit (id : Nat) (s : State) : State :=
  match s.kcp.slots.find? (fun c => c.id == id && limitPassed s.now c) with
  | none => s
  | some c => markFirst (addReply c stTIMEOUT 0 s.kcp.g [] (setSlots (s.kcp.slots.filter (fun x => x.id != c.id)) s))

/-- The meaning of COMPLETION_LIMIT_EXPIRY. -/
def execCompletionLimitExpiry (id : Nat) (s : State) : Out := done s (completionLimit id s)

/-- PERST_ASSERT (R476). -/
def perstAssert (s : State) : State := pcieDown { s with kcp := { s.kcp with perst := true } }

/-- The meaning of PERST_ASSERT. -/
def execPerstAssert (s : State) : Out := done s (perstAssert s)

/-- A ring after PERST_N (R473, R476): every register at its reset value, but a locked class stays until module reset. -/
def ringAfterPerst (x : Ring) : Ring := if x.lock then { cls := x.cls, lock := true } else {}

/-- A group after PERST_N (R518): the IN_SERVICE sources of a host-routed group return to PENDING. -/
def irqAfterPerst (x : Irq) : Irq := if x.sideband then x else { x with pend := x.pend ||| x.insvc, insvc := 0, delivAt := none }

/-- PCIE_LINK_UP (R476, R518, R560): a link loopback directed by the host's port ends; the link stays down while the endpoint's own
loop-back holds it (R559). -/
def pcieLinkUp (s : State) : State :=
  if (s.pwr.sState = 0 ∧ !s.pwr.recovery) ∨ (loopOf s 3 0).depth = 1 then s
  else
    let a := if (loopOf s 3 0).depth = 2 then endLoop 3 0 s else s
    let b := setCond 7 2 false { a with kcp := { a.kcp with linkUp := true, perst := false } }
    if s.kcp.perst then
      (List.range 9).foldl (fun t g => t.setIrq g (irqAfterPerst (t.irqG g)))
        { b with
          kcp := { b.kcp with rings := (List.range 8).foldl (fun t r => tset {} t r (ringAfterPerst (tget {} t r))) b.kcp.rings }
          regs := { b.regs with msix := [], msixEnable := false, msixMask := false } }
    else b

/-- The meaning of PCIE_LINK_UP. -/
def execPcieLinkUp (s : State) : Out := done s (pcieLinkUp s)

end Sys2Proof.Machine
end

