-- ==== Sys2Proof/Machine/Bar0.lean ====
section
/-! DEFINITION. What a read of BAR0 returns, register by register (R499 to R520, R45, R265): pure reads of the state. The one
read with an effect, that of TIME_NS (R46), is a row of the table. -/

namespace Sys2Proof.Machine
open Sys2Proof

/-- GLB_STATE (R504). -/
def glbState (s : State) : Nat :=
  (s.replica 0).frame.mState % 16 * 2 ^ 24 + s.pwr.sState % 4 * 2 ^ 18 + flag 17 (owned s) +
  flag 16 s.pwr.prov.hostKeeper + flag 15 s.tst.inForce + flag 14 s.kcp.sb.session

/-- The global block (R503). -/
def glbRead (s : State) (off : Nat) : Nat :=
  match off with
  | 0x00 => 0x4B541024
  | 0x04 => 0x01000000 + Config.stepping % 256
  | 0x08 => Config.serial % 2 ^ 32
  | 0x0C => Config.serial / 2 ^ 32 % 2 ^ 32
  | 0x10 => glbState s
  | 0x14 => fltPins s
  | 0x18 => faultSummary s
  | 0x1C => safeSummary s
  | 0x20 => s.regs.scratch
  | _ => 0

/-- An interrupt group's registers (R515); groups 9 to 31 read zero. -/
def irqRead (s : State) (g off : Nat) : Nat :=
  let x := s.irqG g
  if 9 ≤ g then 0
  else if off = 0x00 then flag 31 x.enable + flag 30 x.sideband + x.holdoff * 2 ^ 16 + groupVector g x
  else if off = 0x04 then
    irqSources g * 2 ^ 16 + flag 2 (decide (s.now < x.readyAt)) + flag 1 (decide (x.insvc ≠ 0)) + flag 0 (decide (x.pend ≠ 0))
  else if 0x20 ≤ off ∧ off < 0x40 then word32 x.pend ((off - 0x20) / 4)
  else if 0x40 ≤ off ∧ off < 0x60 then word32 x.insvc ((off - 0x40) / 4)
  else if 0x60 ≤ off ∧ off < 0x80 then word32 (allSources g - x.disabled) ((off - 0x60) / 4)
  else if 0x80 ≤ off ∧ off < 0x180 then
    ((List.range 4).map (fun k => tget 0 x.count (off / 4 * 4 - 0x80 + k) * 256 ^ k)).sum
  else 0

/-- The MSI-X table (R499, R518): vector control bit 0 is the mask. -/
def msixRead (s : State) (v off : Nat) : Nat :=
  match off with
  | 0 => (s.vec v).addr % 2 ^ 32
  | 4 => (s.vec v).addr / 2 ^ 32
  | 8 => (s.vec v).data
  | _ => flag 0 (s.vec v).masked

/-- A word of the pending bit array (R518). -/
def pbaRead (s : State) (w : Nat) : Nat := (List.range 32).foldl (fun a i => a + flag i (s.vec (32 * w + i)).pending) 0

/-- A status mirror entry (R506); entries 8 to 15 read zero. -/
def mirRead (s : State) (i off : Nat) : Nat :=
  let x := tget {} s.regs.mir i
  match off with
  | 0x00 => x.gen % 2 ^ 32
  | 0x04 => x.gen / 2 ^ 32 % 2 ^ 32
  | 0x38 => 0
  | 0x3C => x.chk
  | _ => rd x.data (off - 8) 4

/-- The live time block (R45): seconds live, TIME_NS of the capture its read makes, the rest latched. -/
def timeRead (s : State) (off : Nat) : Nat :=
  match off with
  | 0x00 => s.bus.live.frac
  | 0x04 => ftNs (replicaTime s 0)
  | 0x08 => ftSec (replicaTime s 0) % 2 ^ 32
  | 0x0C => ftSec (replicaTime s 0) / 2 ^ 32 % 2 ^ 32
  | 0x10 => s.bus.live.bound
  | 0x14 => s.bus.live.state
  | 0x18 => s.bus.live.utc
  | _ => s.bus.live.gen

/-- A performance counter's registers (R520). -/
def perfRegRead (s : State) (e : Nat) (hi : Bool) : Nat :=
  if hi then perfWord s e / 2 ^ 32 else perfWord s e % 2 ^ 32

/-- PERF_OVF_MAP (R520). -/
def perfOvfMap (s : State) (w : Nat) : Nat := (List.range 32).foldl (fun a i => a + flag i (bit (perfWord s (32 * w + i)) 63)) 0

/-- The sticky bits a fault block shows in BAR0: those of block 0 are its replica's (R510). -/
def fltShown (s : State) (b : Nat) : Nat := if b = 0 then s.regs.replica else (s.flt b).status

/-- FLT_SUMMARY0 and FLT_SUMMARY1 (R510). -/
def fltSummary (m h : Nat) : Nat := (List.range 32).foldl (fun a i => a + flag i (decide (word32 m (32 * h + i) ≠ 0))) 0

/-- A fault block's registers (R510). -/
def fltRead (s : State) (b off : Nat) : Nat :=
  if off = 0x000 then fltBlockId b
  else if off = 0x004 then fltSummary (fltShown s b) 0
  else if off = 0x008 then fltSummary (fltShown s b) 1
  else if off = 0x00C then fltSevereWord s b
  else if 0x100 ≤ off ∧ off < 0x200 then word32 (fltShown s b) ((off - 0x100) / 4)
  else if 0x200 ≤ off ∧ off < 0x300 then fltClassWord s b ((off - 0x200) / 4)
  else if 0x300 ≤ off ∧ off < 0x400 then word32 (s.flt b).mask ((off - 0x300) / 4)
  else if 0x400 ≤ off ∧ off < 0x500 then word32 (s.flt b).safe ((off - 0x400) / 4)
  else 0

/-- The 32-bit word of BAR0 at an offset (R499, R500); a reserved location reads zero (R7). -/
def bar0Read (s : State) (o : Nat) : Nat :=
  let a := o / 4 * 4
  if a < 0x1000 then glbRead s a
  else if a < 0x1200 then ringRead s ((a - 0x1000) / 0x40) ((a - 0x1000) % 0x40)
  else if 0x10000 ≤ a ∧ a < 0x14000 then irqRead s ((a - 0x10000) / 0x200) ((a - 0x10000) % 0x200)
  else if 0x18000 ≤ a ∧ a < 0x19000 then msixRead s ((a - 0x18000) / 16) ((a - 0x18000) % 16)
  else if 0x19000 ≤ a ∧ a < 0x19020 then pbaRead s ((a - 0x19000) / 4)
  else if 0x20000 ≤ a ∧ a < 0x20400 then mirRead s ((a - 0x20000) / 0x40) ((a - 0x20000) % 0x40)
  else if 0x40000 ≤ a ∧ a < 0x40020 then timeRead s (a - 0x40000)
  else if 0x80000 ≤ a ∧ a < 0x84200 then perfRegRead s ((a - 0x80000) / 8) (a % 8 == 4)
  else if 0xF0000 ≤ a ∧ a < 0xF0108 then perfOvfMap s ((a - 0xF0000) / 4)
  else if 0x100000 ≤ a ∧ a < 0x10D000 then fltRead s ((a - 0x100000) / 0x1000) (a % 0x1000)
  else if 0x200000 ≤ a ∧ a < 0x210000 then rd (furArray s ((a - 0x200000) / 0x40)) (a % 0x40) 4
  else 0

end Sys2Proof.Machine
end

