-- ==== Sys2Proof/Machine/Dispatch.lean ====
section
/-! DEFINITION. The effect of each row of the table: one arm per constructor. -/

namespace Sys2Proof.Machine
open Sys2Proof

/-- The effect of a command on everything but the queue. -/
def exec (i : Instr) (s : State) : Host.Outcome State Fault Refusal :=
  match i with
  | .identify rq => Sys2Proof.Machine.execIdentify rq s
  | .snapshot rq => Sys2Proof.Machine.execSnapshot rq s
  | .snapshotCapture => Sys2Proof.Machine.execSnapshotCapture s
  | .echo rq => Sys2Proof.Machine.execEcho rq s
  | .resetBlock rq => Sys2Proof.Machine.execResetBlock rq s
  | .getGeneration rq => Sys2Proof.Machine.execGetGeneration rq s
  | .imageStage rq => Sys2Proof.Machine.execImageStage rq s
  | .imageActivate rq => Sys2Proof.Machine.execImageActivate rq s
  | .imageActivateSRestart rq => Sys2Proof.Machine.execImageActivateSRestart rq s
  | .imageActivateModuleRestart rq => Sys2Proof.Machine.execImageActivateModuleRestart rq s
  | .imageSvnRaise rq => Sys2Proof.Machine.execImageSvnRaise rq s
  | .tbStatus rq => Sys2Proof.Machine.execTbStatus rq s
  | .timConfig rq => Sys2Proof.Machine.execTimConfig rq s
  | .timMeasure rq => Sys2Proof.Machine.execTimMeasure rq s
  | .timMeasureResult => Sys2Proof.Machine.execTimMeasureResult s
  | .timCalStatus rq => Sys2Proof.Machine.execTimCalStatus rq s
  | .timCalRun rq => Sys2Proof.Machine.execTimCalRun rq s
  | .timCalVerifyEnd chan hist => Sys2Proof.Machine.execTimCalVerifyEnd chan hist s
  | .gnssConfig rq => Sys2Proof.Machine.execGnssConfig rq s
  | .gnssStatus rq => Sys2Proof.Machine.execGnssStatus rq s
  | .gnssChannels rq => Sys2Proof.Machine.execGnssChannels rq s
  | .gnssSetPosition rq => Sys2Proof.Machine.execGnssSetPosition rq s
  | .gnssSurveyStatus rq => Sys2Proof.Machine.execGnssSurveyStatus rq s
  | .gnssSurveyStart rq => Sys2Proof.Machine.execGnssSurveyStart rq s
  | .gnssSurveyAbort rq => Sys2Proof.Machine.execGnssSurveyAbort rq s
  | .gnssPpsMsg rq => Sys2Proof.Machine.execGnssPpsMsg rq s
  | .refConfig rq => Sys2Proof.Machine.execRefConfig rq s
  | .refStatus rq => Sys2Proof.Machine.execRefStatus rq s
  | .refLimits rq => Sys2Proof.Machine.execRefLimits rq s
  | .refDuplex rq => Sys2Proof.Machine.execRefDuplex rq s
  | .todConfig rq => Sys2Proof.Machine.execTodConfig rq s
  | .selPolicy rq => Sys2Proof.Machine.execSelPolicy rq s
  | .selStatus rq => Sys2Proof.Machine.execSelStatus rq s
  | .selForce rq => Sys2Proof.Machine.execSelForce rq s
  | .selClearForce rq => Sys2Proof.Machine.execSelClearForce rq s
  | .dpllConfig rq => Sys2Proof.Machine.execDpllConfig rq s
  | .timeSetMode0 rq => Sys2Proof.Machine.execTimeSetMode0 rq s
  | .timeSetMode1 rq => Sys2Proof.Machine.execTimeSetMode1 rq s
  | .timeAdjust rq => Sys2Proof.Machine.execTimeAdjust rq s
  | .oscConfig rq => Sys2Proof.Machine.execOscConfig rq s
  | .ensembleStatus rq => Sys2Proof.Machine.execEnsembleStatus rq s
  | .holdoverModel rq => Sys2Proof.Machine.execHoldoverModel rq s
  | .holdoverLearn rq => Sys2Proof.Machine.execHoldoverLearn rq s
  | .holdoverLearnFit rq => Sys2Proof.Machine.execHoldoverLearnFit rq s
  | .holdoverLearnDiscard rq => Sys2Proof.Machine.execHoldoverLearnDiscard rq s
  | .boundStatus rq => Sys2Proof.Machine.execBoundStatus rq s
  | .boundParams rq => Sys2Proof.Machine.execBoundParams rq s
  | .sealBreakOpen rq => Sys2Proof.Machine.execSealBreakOpen rq s
  | .sealClose rq => Sys2Proof.Machine.execSealClose rq s
  | .logRead rq => Sys2Proof.Machine.execLogRead rq s
  | .metrologyId rq => Sys2Proof.Machine.execMetrologyId rq s
  | .furPortConfig rq => Sys2Proof.Machine.execFurPortConfig rq s
  | .furPortStatus rq => Sys2Proof.Machine.execFurPortStatus rq s
  | .furRatePolicy rq => Sys2Proof.Machine.execFurRatePolicy rq s
  | .furCalibrate rq => Sys2Proof.Machine.execFurCalibrate rq s
  | .furMailboxSend rq => Sys2Proof.Machine.execFurMailboxSend rq s
  | .furMailboxRecv rq => Sys2Proof.Machine.execFurMailboxRecv rq s
  | .furBulkStatus rq => Sys2Proof.Machine.execFurBulkStatus rq s
  | .ethPortConfig rq => Sys2Proof.Machine.execEthPortConfig rq s
  | .ethPortStatus rq => Sys2Proof.Machine.execEthPortStatus rq s
  | .ethTagConfig rq => Sys2Proof.Machine.execEthTagConfig rq s
  | .ethPauseConfig rq => Sys2Proof.Machine.execEthPauseConfig rq s
  | .ethAsymCal rq => Sys2Proof.Machine.execEthAsymCal rq s
  | .loopMeasure rq => Sys2Proof.Machine.execLoopMeasure rq s
  | .loopMeasureEnd port samples => Sys2Proof.Machine.execLoopMeasureEnd port samples s
  | .loopResultRead rq => Sys2Proof.Machine.execLoopResultRead rq s
  | .svcProfile rq => Sys2Proof.Machine.execSvcProfile rq s
  | .svcDomain rq => Sys2Proof.Machine.execSvcDomain rq s
  | .svcClientAdd rq => Sys2Proof.Machine.execSvcClientAdd rq s
  | .svcClientRemove rq => Sys2Proof.Machine.execSvcClientRemove rq s
  | .svcClientQuery rq => Sys2Proof.Machine.execSvcClientQuery rq s
  | .svcLimits rq => Sys2Proof.Machine.execSvcLimits rq s
  | .upstreamConfig rq => Sys2Proof.Machine.execUpstreamConfig rq s
  | .engStatus rq => Sys2Proof.Machine.execEngStatus rq s
  | .progStage rq => Sys2Proof.Machine.execProgStage rq s
  | .progActivate rq => Sys2Proof.Machine.execProgActivate rq s
  | .engPlacementPolicy rq => Sys2Proof.Machine.execEngPlacementPolicy rq s
  | .engCensus rq => Sys2Proof.Machine.execEngCensus rq s
  | .keyWrite rq => Sys2Proof.Machine.execKeyWrite rq s
  | .keyInvalidate rq => Sys2Proof.Machine.execKeyInvalidate rq s
  | .keyStatus rq => Sys2Proof.Machine.execKeyStatus rq s
  | .keyAttr rq => Sys2Proof.Machine.execKeyAttr rq s
  | .harrowStatus rq => Sys2Proof.Machine.execHarrowStatus rq s
  | .ntsMasterRotate rq => Sys2Proof.Machine.execNtsMasterRotate rq s
  | .evdStoreConfig rq => Sys2Proof.Machine.execEvdStoreConfig rq s
  | .evdFormat rq => Sys2Proof.Machine.execEvdFormat rq s
  | .evdStart rq => Sys2Proof.Machine.execEvdStart rq s
  | .evdStop rq => Sys2Proof.Machine.execEvdStop rq s
  | .evdFlush rq => Sys2Proof.Machine.execEvdFlush rq s
  | .evdRelease rq => Sys2Proof.Machine.execEvdRelease rq s
  | .evdStatus rq => Sys2Proof.Machine.execEvdStatus rq s
  | .evdNamespaceAdd rq => Sys2Proof.Machine.execEvdNamespaceAdd rq s
  | .evdRetention rq => Sys2Proof.Machine.execEvdRetention rq s
  | .evdSheafRead rq => Sys2Proof.Machine.execEvdSheafRead rq s
  | .tanConfig rq => Sys2Proof.Machine.execTanConfig rq s
  | .tanStatus rq => Sys2Proof.Machine.execTanStatus rq s
  | .tanClaimAuto rq => Sys2Proof.Machine.execTanClaimAuto rq s
  | .tanClaimRelease rq => Sys2Proof.Machine.execTanClaimRelease rq s
  | .tanClaimMaintenance rq => Sys2Proof.Machine.execTanClaimMaintenance rq s
  | .tanCompareLimits rq => Sys2Proof.Machine.execTanCompareLimits rq s
  | .synConfig rq => Sys2Proof.Machine.execSynConfig rq s
  | .syncInArm rq => Sys2Proof.Machine.execSyncInArm rq s
  | .synStatus rq => Sys2Proof.Machine.execSynStatus rq s
  | .outPpsConfig rq => Sys2Proof.Machine.execOutPpsConfig rq s
  | .outSampleClock rq => Sys2Proof.Machine.execOutSampleClock rq s
  | .refclkSpread rq => Sys2Proof.Machine.execRefclkSpread rq s
  | .pwrPolicy rq => Sys2Proof.Machine.execPwrPolicy rq s
  | .pwrPolicyArbitration rq => Sys2Proof.Machine.execPwrPolicyArbitration rq s
  | .pwrStatus rq => Sys2Proof.Machine.execPwrStatus rq s
  | .perfFilter rq => Sys2Proof.Machine.execPerfFilter rq s
  | .perfRead rq => Sys2Proof.Machine.execPerfRead rq s
  | .loopbackSet rq => Sys2Proof.Machine.execLoopbackSet rq s
  | .loopbackClear rq => Sys2Proof.Machine.execLoopbackClear rq s
  | .bistReport rq => Sys2Proof.Machine.execBistReport rq s
  | .bistKat rq => Sys2Proof.Machine.execBistKat rq s
  | .bistMarch rq => Sys2Proof.Machine.execBistMarch rq s
  | .bistRng rq => Sys2Proof.Machine.execBistRng rq s
  | .bistPrbs rq => Sys2Proof.Machine.execBistPrbs rq s
  | .bistReplica rq => Sys2Proof.Machine.execBistReplica rq s
  | .bistEnd test errors => Sys2Proof.Machine.execBistEnd test errors s
  | .testUnlockChallenge rq => Sys2Proof.Machine.execTestUnlockChallenge rq s
  | .testUnlockResponse rq => Sys2Proof.Machine.execTestUnlockResponse rq s
  | .testUnlockEnd rq => Sys2Proof.Machine.execTestUnlockEnd rq s
  | .faultRead rq => Sys2Proof.Machine.execFaultRead rq s
  | .faultClear rq => Sys2Proof.Machine.execFaultClear rq s
  | .irqGroupConfig rq => Sys2Proof.Machine.execIrqGroupConfig rq s
  | .irqGroupAck rq => Sys2Proof.Machine.execIrqGroupAck rq s
  | .fltPinMask rq => Sys2Proof.Machine.execFltPinMask rq s
  | .cmdSqTailWrite ring value => Sys2Proof.Machine.execCmdSqTailWrite ring value s
  | .cmdCqHeadWrite ring value => Sys2Proof.Machine.execCmdCqHeadWrite ring value s
  | .cmdRingCfgWrite ring value => Sys2Proof.Machine.execCmdRingCfgWrite ring value s
  | .classLock ring => Sys2Proof.Machine.execClassLock ring s
  | .ringQuiesce ring => Sys2Proof.Machine.execRingQuiesce ring s
  | .cmdRingStatClear ring value => Sys2Proof.Machine.execCmdRingStatClear ring value s
  | .irqInsvcAck group word value => Sys2Proof.Machine.execIrqInsvcAck group word value s
  | .fltStatusClear block word value => Sys2Proof.Machine.execFltStatusClear block word value s
  | .perfOvfClear event value => Sys2Proof.Machine.execPerfOvfClear event value s
  | .timeNsRead => Sys2Proof.Machine.execTimeNsRead s
  | .slowTimeout offset write => Sys2Proof.Machine.execSlowTimeout offset write s
  | .registerWrite offset value byteEnables => Sys2Proof.Machine.execRegisterWrite offset value byteEnables s
  | .commandAccept packet dmaOk => Sys2Proof.Machine.execCommandAccept packet dmaOk s
  | .commandExecute group => Sys2Proof.Machine.execCommandExecute group s
  | .replyDeliver src ok => Sys2Proof.Machine.execReplyDeliver src ok s
  | .relayCommand => Sys2Proof.Machine.execRelayCommand s
  | .relayTimeout => Sys2Proof.Machine.execRelayTimeout s
  | .mailboxService => Sys2Proof.Machine.execMailboxService s
  | .pendingReply => Sys2Proof.Machine.execPendingReply s
  | .mctpPacket p => Sys2Proof.Machine.execMctpPacket p s
  | .mctpReassemblyTimeout => Sys2Proof.Machine.execMctpReassemblyTimeout s
  | .sbReplyRetry acked => Sys2Proof.Machine.execSbReplyRetry acked s
  | .setEndpointId operation eid => Sys2Proof.Machine.execSetEndpointId operation eid s
  | .getEndpointId => Sys2Proof.Machine.execGetEndpointId s
  | .getMctpVersionSupport messageType => Sys2Proof.Machine.execGetMctpVersionSupport messageType s
  | .getMessageTypeSupport => Sys2Proof.Machine.execGetMessageTypeSupport s
  | .getVendorDefinedMsgSupport selector => Sys2Proof.Machine.execGetVendorDefinedMsgSupport selector s
  | .getVersion doe => Sys2Proof.Machine.execGetVersion doe s
  | .getCapabilities doe => Sys2Proof.Machine.execGetCapabilities doe s
  | .negotiateAlgorithms doe supported => Sys2Proof.Machine.execNegotiateAlgorithms doe supported s
  | .getDigests doe => Sys2Proof.Machine.execGetDigests doe s
  | .getCertificate doe slot offset length => Sys2Proof.Machine.execGetCertificate doe slot offset length s
  | .challenge doe nonce => Sys2Proof.Machine.execChallenge doe nonce s
  | .getMeasurements doe op nonce => Sys2Proof.Machine.execGetMeasurements doe op nonce s
  | .keyExchange doe exchange => Sys2Proof.Machine.execKeyExchange doe exchange s
  | .finish doe macOk cert => Sys2Proof.Machine.execFinish doe macOk cert s
  | .heartbeat doe => Sys2Proof.Machine.execHeartbeat doe s
  | .keyUpdate doe => Sys2Proof.Machine.execKeyUpdate doe s
  | .endSession doe => Sys2Proof.Machine.execEndSession doe s
  | .heartbeatTimeout doe => Sys2Proof.Machine.execHeartbeatTimeout doe s
  | .powerOnResetRelease => Sys2Proof.Machine.execPowerOnResetRelease s
  | .supplyLoss => Sys2Proof.Machine.execSupplyLoss s
  | .nuheifBoot found => Sys2Proof.Machine.execNuheifBoot found s
  | .bootImageVerdict => Sys2Proof.Machine.execBootImageVerdict s
  | .mBootEnd => Sys2Proof.Machine.execMBootEnd s
  | .sTileBoot => Sys2Proof.Machine.execSTileBoot s
  | .trialFallback tileS => Sys2Proof.Machine.execTrialFallback tileS s
  | .recoveryResponder => Sys2Proof.Machine.execRecoveryResponder s
  | .nuheifRecovery image => Sys2Proof.Machine.execNuheifRecovery image s
  | .perstAssert => Sys2Proof.Machine.execPerstAssert s
  | .pcieLinkUp => Sys2Proof.Machine.execPcieLinkUp s
  | .msixUnmask vector => Sys2Proof.Machine.execMsixUnmask vector s
  | .apllFirstLock => Sys2Proof.Machine.execApllFirstLock s
  | .osc0Loss lockDetector => Sys2Proof.Machine.execOsc0Loss lockDetector s
  | .osc0Relock => Sys2Proof.Machine.execOsc0Relock s
  | .ovenRdyHigh => Sys2Proof.Machine.execOvenRdyHigh s
  | .ovenRdyLow => Sys2Proof.Machine.execOvenRdyLow s
  | .warmupWindowEnd source freq => Sys2Proof.Machine.execWarmupWindowEnd source freq s
  | .measuredEdge priv index edgePs hit => Sys2Proof.Machine.execMeasuredEdge priv index edgePs hit s
  | .conversionEnd priv index code endPs => Sys2Proof.Machine.execConversionEnd priv index code endPs s
  | .channelLockWindow chan fast slow => Sys2Proof.Machine.execChannelLockWindow chan fast slow s
  | .refreshStart interp => Sys2Proof.Machine.execRefreshStart interp s
  | .refreshComplete interp hist => Sys2Proof.Machine.execRefreshComplete interp hist s
  | .tableReplace interp => Sys2Proof.Machine.execTableReplace interp s
  | .interpolatorSelfcheck port diff => Sys2Proof.Machine.execInterpolatorSelfcheck port diff s
  | .gnssClkFault clock => Sys2Proof.Machine.execGnssClkFault clock s
  | .gnssClkClear clock => Sys2Proof.Machine.execGnssClkClear clock s
  | .acquisitionDwell prn first second rise fall => Sys2Proof.Machine.execAcquisitionDwell prn first second rise fall s
  | .trackingLoss chan cn0 => Sys2Proof.Machine.execTrackingLoss chan cn0 s
  | .multipathFit chan corr => Sys2Proof.Machine.execMultipathFit chan corr s
  | .ephemerisAdopt prn => Sys2Proof.Machine.execEphemerisAdopt prn s
  | .gnssSolution sol => Sys2Proof.Machine.execGnssSolution sol s
  | .quantisationPairing second instant => Sys2Proof.Machine.execQuantisationPairing second instant s
  | .refEvent slot ev => Sys2Proof.Machine.execRefEvent slot ev s
  | .activityWindowClose slot => Sys2Proof.Machine.execActivityWindowClose slot s
  | .freqEvaluation => Sys2Proof.Machine.execFreqEvaluation s
  | .uartMessage uart bytes stop => Sys2Proof.Machine.execUartMessage uart bytes stop s
  | .uartLabelTimeout uart => Sys2Proof.Machine.execUartLabelTimeout uart s
  | .utcHoldExpiry => Sys2Proof.Machine.execUtcHoldExpiry s
  | .leapSecond => Sys2Proof.Machine.execLeapSecond s
  | .computation tempM => Sys2Proof.Machine.execComputation tempM s
  | .stepEffective => Sys2Proof.Machine.execStepEffective s
  | .stepMirror => Sys2Proof.Machine.execStepMirror s
  | .settleEnd => Sys2Proof.Machine.execSettleEnd s
  | .guardExpiry => Sys2Proof.Machine.execGuardExpiry s
  | .wtrExpiry slot => Sys2Proof.Machine.execWtrExpiry slot s
  | .memberJoin osc => Sys2Proof.Machine.execMemberJoin osc s
  | .ensembleTest => Sys2Proof.Machine.execEnsembleTest s
  | .learningSample => Sys2Proof.Machine.execLearningSample s
  | .holdoverFit => Sys2Proof.Machine.execHoldoverFit s
  | .tempRead osc raw => Sys2Proof.Machine.execTempRead osc raw s
  | .timeBusFrame => Sys2Proof.Machine.execTimeBusFrame s
  | .frameReceive die noise => Sys2Proof.Machine.execFrameReceive die noise s
  | .claimWord tile noise => Sys2Proof.Machine.execClaimWord tile noise s
  | .slotMeasurementReport slot upTo => Sys2Proof.Machine.execSlotMeasurementReport slot upTo s
  | .faultReplicaUpdate => Sys2Proof.Machine.execFaultReplicaUpdate s
  | .sealedPortFields => Sys2Proof.Machine.execSealedPortFields s
  | .sealPress => Sys2Proof.Machine.execSealPress s
  | .armedExpiry => Sys2Proof.Machine.execArmedExpiry s
  | .verifyPress => Sys2Proof.Machine.execVerifyPress s
  | .pressStuck verify => Sys2Proof.Machine.execPressStuck verify s
  | .sealWindowTimeout => Sys2Proof.Machine.execSealWindowTimeout s
  | .logWrite type detail id value flashOk => Sys2Proof.Machine.execLogWrite type detail id value flashOk s
  | .logFlush flashOk => Sys2Proof.Machine.execLogFlush flashOk s
  | .boutEpoch port => Sys2Proof.Machine.execBoutEpoch port s
  | .burstBuild port => Sys2Proof.Machine.execBurstBuild port s
  | .downstreamBurst port b => Sys2Proof.Machine.execDownstreamBurst port b s
  | .upstreamLaunch port => Sys2Proof.Machine.execUpstreamLaunch port s
  | .upstreamBurst port b => Sys2Proof.Machine.execUpstreamBurst port b s
  | .leafDecision portA portB => Sys2Proof.Machine.execLeafDecision portA portB s
  | .searchTimeout port => Sys2Proof.Machine.execSearchTimeout port s
  | .listenTimeout port => Sys2Proof.Machine.execListenTimeout port s
  | .leanAfterIdle port => Sys2Proof.Machine.execLeanAfterIdle port s
  | .calRunStart port => Sys2Proof.Machine.execCalRunStart port s
  | .calMeasurement port interval => Sys2Proof.Machine.execCalMeasurement port interval s
  | .calRunEnd port => Sys2Proof.Machine.execCalRunEnd port s
  | .calApply port => Sys2Proof.Machine.execCalApply port s
  | .mailboxTlv port channel flags seq data => Sys2Proof.Machine.execMailboxTlv port channel flags seq data s
  | .mailboxResend port => Sys2Proof.Machine.execMailboxResend port s
  | .statusArrayRewrite => Sys2Proof.Machine.execStatusArrayRewrite s
  | .ethFrameReceive port f => Sys2Proof.Machine.execEthFrameReceive port f s
  | .taskAdmit engine wait => Sys2Proof.Machine.execTaskAdmit engine wait s
  | .arpRequest thread => Sys2Proof.Machine.execArpRequest thread s
  | .requestUnicastTransmission thread => Sys2Proof.Machine.execRequestUnicastTransmission thread s
  | .cancelUnicastTransmission thread => Sys2Proof.Machine.execCancelUnicastTransmission thread s
  | .delayReq thread => Sys2Proof.Machine.execDelayReq thread s
  | .announceReceived thread => Sys2Proof.Machine.execAnnounceReceived thread s
  | .grantExpiry entry => Sys2Proof.Machine.execGrantExpiry entry s
  | .scheduledMessage what => Sys2Proof.Machine.execScheduledMessage what s
  | .ntpRequest thread => Sys2Proof.Machine.execNtpRequest thread s
  | .ntsRequest thread => Sys2Proof.Machine.execNtsRequest thread s
  | .upstreamMessage thread => Sys2Proof.Machine.execUpstreamMessage thread s
  | .upstreamAnnounce thread => Sys2Proof.Machine.execUpstreamAnnounce thread s
  | .upstreamRenewal up cand => Sys2Proof.Machine.execUpstreamRenewal up cand s
  | .launchCommit port => Sys2Proof.Machine.execLaunchCommit port s
  | .startOfFrame port queue => Sys2Proof.Machine.execStartOfFrame port queue s
  | .frameStomp port => Sys2Proof.Machine.execFrameStomp port s
  | .txDownDrop port queue => Sys2Proof.Machine.execTxDownDrop port queue s
  | .waitEvent thread cls next => Sys2Proof.Machine.execWaitEvent thread cls next s
  | .waitTimeout thread next => Sys2Proof.Machine.execWaitTimeout thread next s
  | .taskAbort thread => Sys2Proof.Machine.execTaskAbort thread s
  | .stallCensus => Sys2Proof.Machine.execStallCensus s
  | .engineSwitch engine => Sys2Proof.Machine.execEngineSwitch engine s
  | .bucketMove bucket => Sys2Proof.Machine.execBucketMove bucket s
  | .rebalance moves met => Sys2Proof.Machine.execRebalance moves met s
  | .clusterWake cluster occupancy => Sys2Proof.Machine.execClusterWake cluster occupancy s
  | .clusterFallow cluster occupancy => Sys2Proof.Machine.execClusterFallow cluster occupancy s
  | .epochRoll => Sys2Proof.Machine.execEpochRoll s
  | .harrowVisit => Sys2Proof.Machine.execHarrowVisit s
  | .rngHealthFail => Sys2Proof.Machine.execRngHealthFail s
  | .recordCreate thread => Sys2Proof.Machine.execRecordCreate thread s
  | .recordResolve sheaf slot => Sys2Proof.Machine.execRecordResolve sheaf slot s
  | .markWrite => Sys2Proof.Machine.execMarkWrite s
  | .sheafClose => Sys2Proof.Machine.execSheafClose s
  | .sheafAgeClose => Sys2Proof.Machine.execSheafAgeClose s
  | .sheafSeal => Sys2Proof.Machine.execSheafSeal s
  | .sheafWrite => Sys2Proof.Machine.execSheafWrite s
  | .nvmeCompletion ok => Sys2Proof.Machine.execNvmeCompletion ok s
  | .nvmeWriteTimeout => Sys2Proof.Machine.execNvmeWriteTimeout s
  | .nvmeEnumerate found => Sys2Proof.Machine.execNvmeEnumerate found s
  | .scrubRead corrupt => Sys2Proof.Machine.execScrubRead corrupt s
  | .ethLinkUp port alignRx alignTx => Sys2Proof.Machine.execEthLinkUp port alignRx alignTx s
  | .ethLinkDown port => Sys2Proof.Machine.execEthLinkDown port s
  | .autoNegotiation port agreed => Sys2Proof.Machine.execAutoNegotiation port agreed s
  | .lpiReceived port => Sys2Proof.Machine.execLpiReceived port s
  | .pauseFrame port pfc enables quanta => Sys2Proof.Machine.execPauseFrame port pfc enables quanta s
  | .pauseWdog port => Sys2Proof.Machine.execPauseWdog port s
  | .pauseIgnoreExit port => Sys2Proof.Machine.execPauseIgnoreExit port s
  | .phaseSample port tx good => Sys2Proof.Machine.execPhaseSample port tx good s
  | .arbiterWindow => Sys2Proof.Machine.execArbiterWindow s
  | .arbiterGrant resource waiting => Sys2Proof.Machine.execArbiterGrant resource waiting s
  | .scrubBurst bank => Sys2Proof.Machine.execScrubBurst bank s
  | .claimSend => Sys2Proof.Machine.execClaimSend s
  | .claimDecision => Sys2Proof.Machine.execClaimDecision s
  | .claimCheck words => Sys2Proof.Machine.execClaimCheck words s
  | .sharedDriverEnable => Sys2Proof.Machine.execSharedDriverEnable s
  | .claimFrame bytes => Sys2Proof.Machine.execClaimFrame bytes s
  | .timeWord bytes => Sys2Proof.Machine.execTimeWord bytes s
  | .mirror bytes => Sys2Proof.Machine.execMirror bytes s
  | .tandemReport => Sys2Proof.Machine.execTandemReport s
  | .rejoinHoldExpiry => Sys2Proof.Machine.execRejoinHoldExpiry s
  | .apllLock cycles => Sys2Proof.Machine.execApllLock cycles s
  | .apllUnlock apll loss => Sys2Proof.Machine.execApllUnlock apll loss s
  | .outputResume apll => Sys2Proof.Machine.execOutputResume apll s
  | .ppsEdge output => Sys2Proof.Machine.execPpsEdge output s
  | .loopCheck edge0 edge1 => Sys2Proof.Machine.execLoopCheck edge0 edge1 s
  | .sampleClockStart clock => Sys2Proof.Machine.execSampleClockStart clock s
  | .epochStartMarker clock => Sys2Proof.Machine.execEpochStartMarker clock s
  | .syncInEdge wide => Sys2Proof.Machine.execSyncInEdge wide s
  | .irqDelivery group => Sys2Proof.Machine.execIrqDelivery group s
  | .parityCheck fn => Sys2Proof.Machine.execParityCheck fn s
  | .mirrorWrite entry => Sys2Proof.Machine.execMirrorWrite entry s
  | .voltageWindow seen avsOk => Sys2Proof.Machine.execVoltageWindow seen avsOk s
  | .avsFault alert => Sys2Proof.Machine.execAvsFault alert s
  | .tempCrit die temp => Sys2Proof.Machine.execTempCrit die temp s
  | .unlockEffective => Sys2Proof.Machine.execUnlockEffective s
  | .unlockExpiry => Sys2Proof.Machine.execUnlockExpiry s
  | .loopbackExpiry iface inst => Sys2Proof.Machine.execLoopbackExpiry iface inst s
  | .loopbackTestUnit iface inst back good => Sys2Proof.Machine.execLoopbackTestUnit iface inst back good s
  | .bypass => Sys2Proof.Machine.execBypass s
  | .idcode => Sys2Proof.Machine.execIdcode s
  | .samplePreload pins preload => Sys2Proof.Machine.execSamplePreload pins preload s
  | .extest => Sys2Proof.Machine.execExtest s
  | .clamp => Sys2Proof.Machine.execClamp s
  | .highz => Sys2Proof.Machine.execHighz s
  | .extestPulse => Sys2Proof.Machine.execExtestPulse s
  | .extestTrain => Sys2Proof.Machine.execExtestTrain s
  | .lnavSubframe prn sub => Sys2Proof.Machine.execLnavSubframe prn sub s
  | .bitSynchronisation chan => Sys2Proof.Machine.execBitSynchronisation chan s
  | .inputReleased verify => Sys2Proof.Machine.execInputReleased verify s
  | .smbAlertAcknowledge => Sys2Proof.Machine.execSmbAlertAcknowledge s
  | .pcieLinkLoopback => Sys2Proof.Machine.execPcieLinkLoopback s
  | .tempCritClear temps => Sys2Proof.Machine.execTempCritClear temps s
  | .tapReset => Sys2Proof.Machine.execTapReset s
  | .completionLimitExpiry id => Sys2Proof.Machine.execCompletionLimitExpiry id s
  | .wrappedStoreWritten => Sys2Proof.Machine.execWrappedStoreWritten s
  | .restartComplete => Sys2Proof.Machine.execRestartComplete s
  | .wakeComplete cluster => Sys2Proof.Machine.execWakeComplete cluster s
  | .announceTimeout up cand => Sys2Proof.Machine.execAnnounceTimeout up cand s
  | .upstreamGrant thread => Sys2Proof.Machine.execUpstreamGrant thread s
  | .pauseExpiry port queue => Sys2Proof.Machine.execPauseExpiry port queue s
  | .activationRestart => Sys2Proof.Machine.execActivationRestart s

end Sys2Proof.Machine
end

