-- ==== Sys2Proof/Machine/Idle.lean ====
section
/-! DEFINITION. The passage of a microsecond (log entry 1): the model's clock, the tick counter and the field time's phase
accumulator advance; everything else that happens at an instant is a row of the table. -/

namespace Sys2Proof.Machine
open Sys2Proof

/-- Ticks of the 1.25 GHz counter in a microsecond (R52). -/
def idleTicks : Nat := 1250

/-- What a microsecond of the time base adds to the field time at the timescale's rate (R32, R593). -/
def idlePhase (r : Freq) : Nat := ((us1 : Int) + (us1 : Int) * r / 2 ^ 48).toNat

/-- A microsecond of the clock; the counter and the field time stand until OSC0's APLL has locked once (R52). -/
def advance (s : State) : State :=
  if s.tim.tb.running then
    { s with now := s.now + 1000, acc := s.acc + idlePhase s.osc.rate, tim := { s.tim with tick := s.tim.tick + idleTicks } }
  else { s with now := s.now + 1000 }

/-- A microsecond passes. A capture whose marker has come is of the state before time goes on, so with what became current at that
marker: its frame and its computation (R50). The Ethernet ports go on by themselves (R389). -/
def idle (s : State) : State := portTicks (advance (latchSnaps s.now s))

end Sys2Proof.Machine
end

