-- ==== Sys2Proof/WellFormed.lean ====
section
/-! DEFINITION. Which commands name units that the module has, with field values that fit their widths. -/

namespace Sys2Proof

/-- A source the module has (R471): eight host rings. -/
def Source.wellFormed : Source → Bool
  | .ring r => decide (r < 8)
  | .sideband => true
  | .session _ => true
  | .internal => false

/-- A request whose header fields fit their bytes and whose payload fits a packet (R469). -/
def Request.wellFormed (q : Request) : Bool :=
  q.src.wellFormed && decide (q.tag < 2 ^ 16) && decide (q.flags < 256) && decide (q.priv < 256) &&
  decide (q.expGen < 2 ^ 64) && decide (q.payload.length ≤ 4080)

/-- A request packet as fetched or received (R469): its header fields fit; its LENGTH may be wrong (R470). -/
def Packet.wellFormed (k : Packet) : Bool :=
  k.req.wellFormed && decide (k.opcode < 2 ^ 16) && decide (k.length < 2 ^ 16)

/-- A 32-bit value (R500). -/
def word (v : Nat) : Bool := decide (v < 2 ^ 32)

/-- Function instance `i` of fault block `b` has configuration words (R508, R509; log entry 14). -/
def parityFunction (b i : Nat) : Bool :=
  match b with
  | 0 => decide (i < 20) || decide (i = 32)
  | 2 => decide (i < 8) || (decide (16 ≤ i) && decide (i < 34))
  | 5 => decide (i < 16)
  | 6 => decide (i < 20)
  | 7 => decide (i < 8)
  | 8 => decide (i = 0)
  | 9 => decide (i < 256) | 10 => decide (i < 256) | 11 => decide (i < 256) | 12 => decide (i < 256)
  | _ => false

/-- Every unit a command names exists, and its field values fit. -/
def Instr.wellFormed : Instr → Bool
  | .identify rq => rq.wellFormed
  | .snapshot rq => rq.wellFormed
  | .snapshotCapture => true
  | .echo rq => rq.wellFormed
  | .resetBlock rq => rq.wellFormed
  | .getGeneration rq => rq.wellFormed
  | .imageStage rq => rq.wellFormed
  | .imageActivate rq => rq.wellFormed
  | .imageActivateSRestart rq => rq.wellFormed
  | .imageActivateModuleRestart rq => rq.wellFormed
  | .imageSvnRaise rq => rq.wellFormed
  | .tbStatus rq => rq.wellFormed
  | .timConfig rq => rq.wellFormed
  | .timMeasure rq => rq.wellFormed
  | .timMeasureResult => true
  | .timCalStatus rq => rq.wellFormed
  | .timCalRun rq => rq.wellFormed
  | .timCalVerifyEnd chan _ => decide (chan < 16)
  | .gnssConfig rq => rq.wellFormed
  | .gnssStatus rq => rq.wellFormed
  | .gnssChannels rq => rq.wellFormed
  | .gnssSetPosition rq => rq.wellFormed
  | .gnssSurveyStatus rq => rq.wellFormed
  | .gnssSurveyStart rq => rq.wellFormed
  | .gnssSurveyAbort rq => rq.wellFormed
  | .gnssPpsMsg rq => rq.wellFormed
  | .refConfig rq => rq.wellFormed
  | .refStatus rq => rq.wellFormed
  | .refLimits rq => rq.wellFormed
  | .refDuplex rq => rq.wellFormed
  | .todConfig rq => rq.wellFormed
  | .selPolicy rq => rq.wellFormed
  | .selStatus rq => rq.wellFormed
  | .selForce rq => rq.wellFormed
  | .selClearForce rq => rq.wellFormed
  | .dpllConfig rq => rq.wellFormed
  | .timeSetMode0 rq => rq.wellFormed
  | .timeSetMode1 rq => rq.wellFormed
  | .timeAdjust rq => rq.wellFormed
  | .oscConfig rq => rq.wellFormed
  | .ensembleStatus rq => rq.wellFormed
  | .holdoverModel rq => rq.wellFormed
  | .holdoverLearn rq => rq.wellFormed
  | .holdoverLearnFit rq => rq.wellFormed
  | .holdoverLearnDiscard rq => rq.wellFormed
  | .boundStatus rq => rq.wellFormed
  | .boundParams rq => rq.wellFormed
  | .sealBreakOpen rq => rq.wellFormed
  | .sealClose rq => rq.wellFormed
  | .logRead rq => rq.wellFormed
  | .metrologyId rq => rq.wellFormed
  | .furPortConfig rq => rq.wellFormed
  | .furPortStatus rq => rq.wellFormed
  | .furRatePolicy rq => rq.wellFormed
  | .furCalibrate rq => rq.wellFormed
  | .furMailboxSend rq => rq.wellFormed
  | .furMailboxRecv rq => rq.wellFormed
  | .furBulkStatus rq => rq.wellFormed
  | .ethPortConfig rq => rq.wellFormed
  | .ethPortStatus rq => rq.wellFormed
  | .ethTagConfig rq => rq.wellFormed
  | .ethPauseConfig rq => rq.wellFormed
  | .ethAsymCal rq => rq.wellFormed
  | .loopMeasure rq => rq.wellFormed
  | .loopMeasureEnd port _ => decide (port < 16)
  | .loopResultRead rq => rq.wellFormed
  | .svcProfile rq => rq.wellFormed
  | .svcDomain rq => rq.wellFormed
  | .svcClientAdd rq => rq.wellFormed
  | .svcClientRemove rq => rq.wellFormed
  | .svcClientQuery rq => rq.wellFormed
  | .svcLimits rq => rq.wellFormed
  | .upstreamConfig rq => rq.wellFormed
  | .engStatus rq => rq.wellFormed
  | .progStage rq => rq.wellFormed
  | .progActivate rq => rq.wellFormed
  | .engPlacementPolicy rq => rq.wellFormed
  | .engCensus rq => rq.wellFormed
  | .keyWrite rq => rq.wellFormed
  | .keyInvalidate rq => rq.wellFormed
  | .keyStatus rq => rq.wellFormed
  | .keyAttr rq => rq.wellFormed
  | .harrowStatus rq => rq.wellFormed
  | .ntsMasterRotate rq => rq.wellFormed
  | .evdStoreConfig rq => rq.wellFormed
  | .evdFormat rq => rq.wellFormed
  | .evdStart rq => rq.wellFormed
  | .evdStop rq => rq.wellFormed
  | .evdFlush rq => rq.wellFormed
  | .evdRelease rq => rq.wellFormed
  | .evdStatus rq => rq.wellFormed
  | .evdNamespaceAdd rq => rq.wellFormed
  | .evdRetention rq => rq.wellFormed
  | .evdSheafRead rq => rq.wellFormed
  | .tanConfig rq => rq.wellFormed
  | .tanStatus rq => rq.wellFormed
  | .tanClaimAuto rq => rq.wellFormed
  | .tanClaimRelease rq => rq.wellFormed
  | .tanClaimMaintenance rq => rq.wellFormed
  | .tanCompareLimits rq => rq.wellFormed
  | .synConfig rq => rq.wellFormed
  | .syncInArm rq => rq.wellFormed
  | .synStatus rq => rq.wellFormed
  | .outPpsConfig rq => rq.wellFormed
  | .outSampleClock rq => rq.wellFormed
  | .refclkSpread rq => rq.wellFormed
  | .pwrPolicy rq => rq.wellFormed
  | .pwrPolicyArbitration rq => rq.wellFormed
  | .pwrStatus rq => rq.wellFormed
  | .perfFilter rq => rq.wellFormed
  | .perfRead rq => rq.wellFormed
  | .loopbackSet rq => rq.wellFormed
  | .loopbackClear rq => rq.wellFormed
  | .bistReport rq => rq.wellFormed
  | .bistKat rq => rq.wellFormed
  | .bistMarch rq => rq.wellFormed
  | .bistRng rq => rq.wellFormed
  | .bistPrbs rq => rq.wellFormed
  | .bistReplica rq => rq.wellFormed
  | .bistEnd test _ => decide (1 ≤ test) && decide (test ≤ 5)
  | .testUnlockChallenge rq => rq.wellFormed
  | .testUnlockResponse rq => rq.wellFormed
  | .testUnlockEnd rq => rq.wellFormed
  | .faultRead rq => rq.wellFormed
  | .faultClear rq => rq.wellFormed
  | .irqGroupConfig rq => rq.wellFormed
  | .irqGroupAck rq => rq.wellFormed
  | .fltPinMask rq => rq.wellFormed
  | .cmdSqTailWrite ring value => decide (ring < 8) && word value
  | .cmdCqHeadWrite ring value => decide (ring < 8) && word value
  | .cmdRingCfgWrite ring value => decide (ring < 8) && word value
  | .classLock ring => decide (ring < 8)
  | .ringQuiesce ring => decide (ring < 8)
  | .cmdRingStatClear ring value => decide (ring < 8) && word value
  | .irqInsvcAck group word_ value => decide (group < 9) && decide (word_ < 8) && word value
  | .fltStatusClear block word_ value => decide (block < 13) && decide (word_ < 64) && word value
  | .perfOvfClear event value => decide (event < 0x840) && word value
  | .timeNsRead => true
  | .slowTimeout offset _ => decide (offset < 2 ^ 24)
  | .registerWrite offset value byteEnables => decide (offset < 2 ^ 24) && word value && decide (byteEnables < 16)
  | .commandAccept packet _ => packet.wellFormed
  | .commandExecute group => decide (group < 18)
  | .replyDeliver src _ => src.wellFormed
  | .relayCommand => true
  | .relayTimeout => true
  | .mailboxService => true
  | .pendingReply => true
  | .mctpPacket _ => true
  | .mctpReassemblyTimeout => true
  | .sbReplyRetry _ => true
  | .setEndpointId operation eid => decide (operation < 256) && decide (eid < 256)
  | .getEndpointId => true
  | .getMctpVersionSupport _ => true
  | .getMessageTypeSupport => true
  | .getVendorDefinedMsgSupport _ => true
  | .getVersion _ => true
  | .getCapabilities _ => true
  | .negotiateAlgorithms _ _ => true
  | .getDigests _ => true
  | .getCertificate _ _ _ _ => true
  | .challenge _ _ => true
  | .getMeasurements _ _ _ => true
  | .keyExchange _ _ => true
  | .finish _ _ _ => true
  | .heartbeat _ => true
  | .keyUpdate _ => true
  | .endSession _ => true
  | .heartbeatTimeout _ => true
  | .powerOnResetRelease => true
  | .supplyLoss => true
  | .nuheifBoot _ => true
  | .bootImageVerdict => true
  | .mBootEnd => true
  | .sTileBoot => true
  | .trialFallback _ => true
  | .recoveryResponder => true
  | .nuheifRecovery _ => true
  | .perstAssert => true
  | .pcieLinkUp => true
  | .msixUnmask vector => decide (vector.getD 0 < 256)
  | .apllFirstLock => true
  | .osc0Loss _ => true
  | .osc0Relock => true
  | .ovenRdyHigh => true
  | .ovenRdyLow => true
  | .warmupWindowEnd _ _ => true
  | .measuredEdge priv index _ _ => decide (index < if priv then 16 else 1048)
  | .conversionEnd priv index _ _ => decide (index < if priv then 16 else 1048)
  | .channelLockWindow chan _ _ => decide (chan < 16)
  | .refreshStart interp => decide (interp < 1048)
  | .refreshComplete interp _ => decide (interp < 1048)
  | .tableReplace interp => decide (interp < 1048)
  | .interpolatorSelfcheck port _ => decide (port < 16)
  | .gnssClkFault _ => true
  | .gnssClkClear _ => true
  | .acquisitionDwell prn _ _ _ _ => decide (1 ≤ prn) && decide (prn ≤ 32)
  | .trackingLoss chan _ => decide (chan < 32)
  | .multipathFit chan _ => decide (chan < 32)
  | .ephemerisAdopt prn => decide (1 ≤ prn) && decide (prn ≤ 32)
  | .gnssSolution _ => true
  | .quantisationPairing _ _ => true
  | .refEvent slot _ => decide (slot < 20)
  | .activityWindowClose slot => decide (slot < 20)
  | .freqEvaluation => true
  | .uartMessage uart _ _ => decide (uart < 2)
  | .uartLabelTimeout uart => decide (uart < 2)
  | .utcHoldExpiry => true
  | .leapSecond => true
  | .computation _ => true
  | .stepEffective => true
  | .stepMirror => true
  | .settleEnd => true
  | .guardExpiry => true
  | .wtrExpiry slot => decide (slot < 20)
  | .memberJoin osc => decide (osc < 4)
  | .ensembleTest => true
  | .learningSample => true
  | .holdoverFit => true
  | .tempRead osc _ => decide (osc < 4)
  | .timeBusFrame => true
  | .frameReceive die _ => decide (die < 5)
  | .claimWord tile _ => decide (tile < 4)
  | .slotMeasurementReport slot _ => decide (9 ≤ slot) && decide (slot < 20)
  | .faultReplicaUpdate => true
  | .sealedPortFields => true
  | .sealPress => true
  | .armedExpiry => true
  | .verifyPress => true
  | .pressStuck _ => true
  | .sealWindowTimeout => true
  | .logWrite _ _ _ _ _ => true
  | .logFlush _ => true
  | .boutEpoch port => decide (port < 1024)
  | .burstBuild port => decide (port < 1024)
  | .downstreamBurst port _ => decide (port < 1024)
  | .upstreamLaunch port => decide (port < 1024)
  | .upstreamBurst port _ => decide (port < 1024)
  | .leafDecision portA portB => decide (portA < 1024) && decide (portB < 1024)
  | .searchTimeout port => decide (port < 1024)
  | .listenTimeout port => decide (port < 1024)
  | .leanAfterIdle port => decide (port < 1024)
  | .calRunStart port => decide (port < 1024)
  | .calMeasurement port _ => decide (port < 1024)
  | .calRunEnd port => decide (port < 1024)
  | .calApply port => decide (port < 1024)
  | .mailboxTlv port _ _ _ _ => decide (port < 1024)
  | .mailboxResend port => decide (port < 1024)
  | .statusArrayRewrite => true
  | .ethFrameReceive port f => decide (port < 16) && decide (f.pcp < 8)
  | .taskAdmit engine _ => decide (engine < 96)
  | .arpRequest thread => decide (thread < 768)
  | .requestUnicastTransmission thread => decide (thread < 768)
  | .cancelUnicastTransmission thread => decide (thread < 768)
  | .delayReq thread => decide (thread < 768)
  | .announceReceived thread => decide (thread < 768)
  | .grantExpiry entry => decide (entry < 1048576)
  | .scheduledMessage _ => true
  | .ntpRequest thread => decide (thread < 768)
  | .ntsRequest thread => decide (thread < 768)
  | .upstreamMessage thread => decide (thread < 768)
  | .upstreamAnnounce thread => decide (thread < 768)
  | .upstreamRenewal up cand => decide (up < 2) && decide (cand < 4)
  | .launchCommit port => decide (port < 16)
  | .startOfFrame port queue => decide (port < 16) && decide (queue < 8)
  | .frameStomp w => decide (w.port < 16)
  | .txDownDrop port queue => decide (port < 16) && decide (queue < 8)
  | .waitEvent thread _ _ => decide (thread < 768)
  | .waitTimeout thread _ => decide (thread < 768)
  | .taskAbort thread => decide (thread < 768)
  | .stallCensus => true
  | .engineSwitch engine => decide (engine < 96)
  | .bucketMove bucket => decide (bucket < 65536)
  | .rebalance _ _ => true
  | .clusterWake cluster _ => decide (cluster < 12)
  | .clusterFallow cluster _ => decide (cluster < 12)
  | .epochRoll => true
  | .harrowVisit => true
  | .rngHealthFail => true
  | .recordCreate thread => decide (thread < 768)
  | .recordResolve _ slot => decide (slot < 4064)
  | .markWrite => true
  | .sheafClose => true
  | .sheafAgeClose => true
  | .sheafSeal => true
  | .sheafWrite => true
  | .nvmeCompletion _ => true
  | .nvmeWriteTimeout => true
  | .nvmeEnumerate _ => true
  | .scrubRead _ => true
  | .ethLinkUp port _ _ => decide (port < 16)
  | .ethLinkDown port => decide (port < 16)
  | .autoNegotiation port _ => decide (port < 16)
  | .lpiReceived port => decide (port < 16)
  | .pauseFrame port _ _ _ => decide (port < 16)
  | .pauseWdog port => decide (port < 16)
  | .pauseIgnoreExit port => decide (port < 16)
  | .phaseSample port _ _ => decide (port < 16)
  | .arbiterWindow => true
  | .arbiterGrant resource _ => decide (resource < 17)
  | .scrubBurst bank => decide (bank < 112)
  | .claimSend => true
  | .claimDecision => true
  | .claimCheck _ => true
  | .sharedDriverEnable => true
  | .claimFrame _ => true
  | .timeWord _ => true
  | .mirror _ => true
  | .tandemReport => true
  | .rejoinHoldExpiry => true
  | .apllLock cycles => decide (cycles.apll < 4)
  | .apllUnlock apll _ => decide (apll < 4)
  | .outputResume apll => decide (apll < 4)
  | .ppsEdge output => decide (output < 4)
  | .loopCheck _ _ => true
  | .sampleClockStart clock => decide (clock < 8)
  | .epochStartMarker clock => decide (clock < 8)
  | .syncInEdge _ => true
  | .irqDelivery group => decide (group < 9)
  | .parityCheck fn => parityFunction (fn / 2048) (fn % 2048) || (decide (fn / 2048 < 13) && fn % 2048 == 2047)
  | .mirrorWrite entry => decide (entry < 16)
  | .voltageWindow _ _ => true
  | .avsFault _ => true
  | .tempCrit die _ => decide (die < 6)
  | .unlockEffective => true
  | .unlockExpiry => true
  | .loopbackExpiry _ _ => true
  | .loopbackTestUnit _ _ _ _ => true
  | .bypass => true
  | .idcode => true
  | .samplePreload _ _ => true
  | .extest => true
  | .clamp => true
  | .highz => true
  | .extestPulse => true
  | .extestTrain => true
  | .lnavSubframe prn _ => decide (1 ≤ prn) && decide (prn ≤ 32)
  | .bitSynchronisation chan => decide (chan < 32)
  | .inputReleased _ => true
  | .smbAlertAcknowledge => true
  | .pcieLinkLoopback => true
  | .tempCritClear _ => true
  | .tapReset => true
  | .completionLimitExpiry _ => true
  | .wrappedStoreWritten => true
  | .restartComplete => true
  | .wakeComplete cluster => decide (cluster < 12)
  | .announceTimeout up cand => decide (up < 2) && decide (cand < 4)
  | .upstreamGrant thread => decide (thread < 768)
  | .pauseExpiry port queue => decide (port < 16) && decide (queue < 8)
  | .activationRestart => true

end Sys2Proof
end

