-- ==== Sys2Proof/Safety.lean ====
section
/-! DEFINITION. What it means that a command ran and was answered, in the terms the statements use. -/

namespace Sys2Proof.Machine
open Sys2Proof

/-- An outcome that goes on in a state with a property. -/
def Goes (o : Host.Outcome State Fault Refusal) (P : State → Prop) : Prop := ∃ t, o = .next t ∧ P t

/-- Whenever the outcome goes on, the state has a property. -/
def Keeps (o : Host.Outcome State Fault Refusal) (P : State → Prop) : Prop := ∀ t, o = .next t → P t

/-- A command row of an opcode runs its effect: the module serves it, the checks of R470 and the condition of R487 pass, it
reaches its executor, and a reply is wanted (R490). -/
def runs (opcode : Nat) (rq : Request) (s : State) : Bool :=
  serving s && (classChecks s (rowCmd opcode rq s) (leastPriv s opcode rq.payload)).isNone &&
  !unreached s opcode rq.payload &&
  !((rowCmd opcode rq s).conditional && decide (rq.expGen < groupGen s (groupOf opcode))) && !(rowCmd opcode rq s).noReply

/-- The state with the OK reply of a command that changes nothing else. -/
def replied (opcode : Nat) (rq : Request) (p : List Byte) (s : State) : State :=
  { s with kcp := { s.kcp with
      nextId := s.kcp.nextId + 1
      replies := s.kcp.replies ++ [⟨s.kcp.nextId, rq.src, opcode, rq.tag, stOK, 0, s.kcp.g, p, s.now⟩] } }

/-- The command was answered OK with a payload, its reply bearing the generation after it (R488). -/
abbrev Answered (opcode : Nat) (rq : Request) (p : List Byte) (s t : State) : Prop :=
  t.kcp.replies = s.kcp.replies ++ [⟨s.kcp.nextId, rq.src, opcode, rq.tag, stOK, 0, t.kcp.g, p, s.now⟩]

/-- The command is held: its reply comes at a later event. -/
abbrev Held (opcode : Nat) (rq : Request) (s t : State) : Prop :=
  t.kcp.slots = s.kcp.slots ++ [{ rowCmd opcode rq s with phase := .held, since := s.now }]

/-- The command was answered PENDING (R489). -/
abbrev Pending (opcode : Nat) (rq : Request) (p : List Byte) (s t : State) : Prop :=
  t.kcp.replies = s.kcp.replies ++ [⟨s.kcp.nextId, rq.src, opcode, rq.tag, stPENDING, 0, s.kcp.g, p, s.now⟩]

/-- The frame queued last in a queue of an Ethernet port. -/
def lastQueued (s : State) (p q : Nat) : Option TxFrame := (tget [] (s.ethP p).queues q).getLast?

/-- The transmit queue of a service domain on a port (R391, R392). -/
def queueOf (s : State) (p d : Nat) : Nat := (tagOf s p d).pcp

/-- The parts of the state that commands change; `now` and `pending` are no part: only the passage of time and the queue's
own step change them. -/
inductive Part where
  | acc | free | utc | bus | tim | gnss | ref | sel | osc | bnd | log | sealing | fur | svc | eng | key | evd | eth | arb | tan | syn | kcp | regs | pwr | tst
  deriving DecidableEq, Repr

/-- A part is the same in two states. -/
def Part.same (p : Part) (a b : State) : Prop :=
  match p with
  | .acc => a.acc = b.acc
  | .free => a.free = b.free
  | .utc => a.utc = b.utc
  | .bus => a.bus = b.bus
  | .tim => a.tim = b.tim
  | .gnss => a.gnss = b.gnss
  | .ref => a.ref = b.ref
  | .sel => a.sel = b.sel
  | .osc => a.osc = b.osc
  | .bnd => a.bnd = b.bnd
  | .log => a.log = b.log
  | .sealing => a.sealing = b.sealing
  | .fur => a.fur = b.fur
  | .svc => a.svc = b.svc
  | .eng => a.eng = b.eng
  | .key => a.key = b.key
  | .evd => a.evd = b.evd
  | .eth => a.eth = b.eth
  | .arb => a.arb = b.arb
  | .tan => a.tan = b.tan
  | .syn => a.syn = b.syn
  | .kcp => a.kcp = b.kcp
  | .regs => a.regs = b.regs
  | .pwr => a.pwr = b.pwr
  | .tst => a.tst = b.tst

/-- Every part. -/
def Part.all : List Part := [.acc, .free, .utc, .bus, .tim, .gnss, .ref, .sel, .osc, .bnd, .log, .sealing, .fur, .svc, .eng, .key, .evd, .eth, .arb, .tan, .syn, .kcp, .regs, .pwr, .tst]

/-- Only the listed parts differ, and neither the model's clock nor the queue. -/
def Within (ps : List Part) (s t : State) : Prop :=
  t.now = s.now ∧ t.pending = s.pending ∧ ∀ p, p ∉ ps → p.same s t

/-- The parts that a command's rules let it change: the parts its effect and the events it raises are in, and the command
processor's replies and generations. -/
def touchesOf : Instr → List Part
  | .identify .. | .snapshot .. | .echo .. | .getGeneration .. | .tbStatus .. | .timCalStatus .. | .gnssStatus ..
  | .gnssChannels .. | .gnssPpsMsg .. | .refStatus .. | .selStatus .. | .ensembleStatus .. | .boundStatus ..
  | .furBulkStatus .. | .svcClientQuery .. | .engStatus .. | .engCensus .. | .keyStatus .. | .harrowStatus ..
  | .evdStatus .. | .tanStatus .. | .faultRead .. | .cmdSqTailWrite .. | .cmdCqHeadWrite .. | .ringQuiesce ..
  | .cmdRingStatClear .. | .relayCommand | .relayTimeout | .pendingReply | .mctpPacket .. | .mctpReassemblyTimeout
  | .setEndpointId .. | .getEndpointId | .getMessageTypeSupport | .getVersion .. | .getCapabilities ..
  | .negotiateAlgorithms .. | .getDigests .. | .getCertificate .. | .challenge .. | .getMeasurements ..
  | .keyExchange .. | .finish .. | .heartbeat .. | .keyUpdate .. | .endSession .. | .heartbeatTimeout ..
  | .completionLimitExpiry .. => [.kcp]
  | .snapshotCapture | .conversionEnd .. => [.free, .tim, .kcp]
  | .resetBlock .. => [.free, .bus, .tim, .gnss, .ref, .fur, .svc, .eng, .key, .evd, .eth, .tan, .syn, .kcp, .regs, .tst]
  | .imageStage .. | .nuheifRecovery .. => [.sealing, .kcp, .pwr]
  | .imageActivate .. | .imageActivateSRestart .. | .imageActivateModuleRestart .. | .imageSvnRaise ..
 => [.bus, .log, .kcp, .regs, .pwr]
  | .timConfig .. => [.bus, .tim, .log, .sealing, .kcp, .regs]
  | .timMeasure .. | .timMeasureResult | .apllFirstLock | .ovenRdyHigh | .warmupWindowEnd .. | .refreshStart ..
  | .tableReplace .. => [.tim, .kcp]
  | .timCalRun .. | .timCalVerifyEnd .. | .freqEvaluation => [.tim, .ref, .kcp]
  | .gnssConfig .. => [.bus, .gnss, .log, .sealing, .kcp, .regs]
  | .gnssSetPosition .. => [.bus, .gnss, .ref, .log, .sealing, .kcp, .regs]
  | .gnssSurveyStatus .. | .gnssSurveyStart .. | .gnssSurveyAbort .. => [.gnss, .ref, .kcp]
  | .refConfig .. | .refDuplex .. | .todConfig .. => [.bus, .ref, .log, .sealing, .kcp, .regs]
  | .refLimits .. => [.ref, .kcp, .regs]
  | .selPolicy .. | .selForce .. | .selClearForce .. | .dpllConfig .. | .guardExpiry => [.sel, .kcp]
  | .timeSetMode0 .. | .timeSetMode1 .. | .timeAdjust .. => [.bus, .sel, .log, .kcp, .regs]
  | .oscConfig .. | .holdoverModel .. | .holdoverLearn .. | .holdoverLearnFit .. | .holdoverLearnDiscard ..
 => [.bus, .osc, .log, .sealing, .kcp, .regs]
  | .boundParams .. => [.bus, .bnd, .log, .sealing, .kcp, .regs]
  | .sealBreakOpen .. | .sealClose .. | .sealWindowTimeout => [.bus, .log, .sealing, .kcp, .regs]
  | .logRead .. => [.log, .kcp]
  | .metrologyId .. | .sealPress | .armedExpiry | .smbAlertAcknowledge => [.sealing, .kcp]
  | .furPortConfig .. => [.free, .bus, .tim, .log, .sealing, .fur, .key, .kcp, .regs]
  | .furPortStatus .. | .furRatePolicy .. | .furMailboxSend .. | .furMailboxRecv .. | .listenTimeout ..
  | .leanAfterIdle .. | .calRunStart .. | .calMeasurement .. | .mailboxResend .. | .statusArrayRewrite => [.fur, .kcp]
  | .furCalibrate .. | .searchTimeout .. | .calRunEnd .. | .calApply .. => [.bus, .fur, .kcp, .regs]
  | .ethPortConfig .. => [.tim, .svc, .evd, .eth, .kcp, .regs]
  | .ethPortStatus .. | .ethTagConfig .. | .ethPauseConfig .. | .loopMeasureEnd .. | .ethLinkUp ..
  | .autoNegotiation .. | .lpiReceived .. | .pauseIgnoreExit .. | .phaseSample .. => [.eth, .kcp]
  | .ethAsymCal .. | .loopMeasure .. | .loopResultRead .. => [.bus, .log, .sealing, .eth, .kcp, .regs]
  | .svcProfile .. | .upstreamConfig .. => [.svc, .kcp, .regs]
  | .svcDomain .. | .arpRequest .. | .requestUnicastTransmission .. | .cancelUnicastTransmission .. | .delayReq ..
  | .scheduledMessage .. | .ntpRequest .. | .ntsRequest .. => [.free, .svc, .eng, .key, .eth, .kcp, .regs, .pwr]
  | .svcClientAdd .. | .taskAdmit .. => [.eng, .eth, .kcp]
  | .svcClientRemove .. => [.svc, .eng, .eth, .kcp]
  | .svcLimits .. | .grantExpiry .. | .announceTimeout .. => [.svc, .kcp]
  | .progStage .. | .progActivate .. | .engPlacementPolicy .. | .waitTimeout .. | .engineSwitch .. | .rebalance ..
  | .clusterWake .. | .restartComplete => [.eng, .kcp]
  | .keyWrite .. | .keyAttr .. => [.free, .bus, .key, .kcp, .regs]
  | .keyInvalidate .. | .ntsMasterRotate .. => [.key, .kcp]
  | .evdStoreConfig .. | .evdFormat .. | .evdStart .. | .evdStop .. | .evdFlush .. | .evdRelease ..
 => [.free, .evd, .kcp, .regs]
  | .evdNamespaceAdd .. | .evdRetention .. | .sheafClose | .sheafSeal | .sheafWrite | .scrubRead .. => [.evd, .kcp]
  | .evdSheafRead .. => [.free, .key, .evd, .kcp]
  | .tanConfig .. | .claimCheck .. | .claimFrame .. => [.bus, .tan, .kcp, .regs]
  | .tanClaimAuto .. | .tanClaimRelease .. | .tanClaimMaintenance .. | .tanCompareLimits .. | .claimSend
  | .claimDecision | .mirror .. | .rejoinHoldExpiry => [.tan, .kcp]
  | .synConfig .. | .syncInArm .. | .apllLock .. | .apllUnlock .. | .loopCheck .. => [.bus, .syn, .kcp, .regs]
  | .synStatus .. | .pwrStatus .. | .getMctpVersionSupport .. | .getVendorDefinedMsgSupport .. => [.free, .kcp]
  | .outPpsConfig .. | .outSampleClock .. => [.syn, .kcp, .regs]
  | .refclkSpread .. | .outputResume .. | .ppsEdge .. | .sampleClockStart .. | .epochStartMarker .. | .syncInEdge ..
 => [.syn, .kcp]
  | .pwrPolicy .. => [.arb, .kcp, .pwr]
  | .pwrPolicyArbitration .. | .arbiterWindow | .scrubBurst .. => [.arb, .kcp]
  | .perfFilter .. | .irqGroupConfig .. | .irqGroupAck .. | .fltPinMask .. | .cmdRingCfgWrite .. | .classLock ..
  | .irqInsvcAck .. | .sbReplyRetry .. | .msixUnmask .. | .faultReplicaUpdate | .irqDelivery .. | .mirrorWrite ..
 => [.kcp, .regs]
  | .perfRead .. | .perfOvfClear .. | .ethFrameReceive .. | .bucketMove .. => [.eng, .eth, .kcp, .regs]
  | .loopbackSet .. | .pcieLinkUp => [.bus, .ref, .kcp, .regs, .tst]
  | .loopbackClear .. | .loopbackExpiry .. => [.ref, .kcp, .tst]
  | .bistReport .. | .bistKat .. | .bistMarch .. | .bistRng .. | .bistPrbs .. | .bistReplica .. | .unlockEffective
  | .unlockExpiry | .bypass | .idcode | .samplePreload .. | .extest | .clamp | .highz | .extestPulse | .extestTrain
  | .tapReset => [.kcp, .tst]
  | .bistEnd .. => [.bus, .eng, .key, .kcp, .regs, .tst]
  | .testUnlockChallenge .. | .testUnlockResponse .. | .testUnlockEnd .. | .loopbackTestUnit .. => [.free, .kcp, .tst]
  | .faultClear .. | .fltStatusClear .. => [.bus, .tim, .fur, .eth, .kcp, .regs]
  | .timeNsRead | .slowTimeout .. | .perstAssert | .claimWord .. => [.bus, .kcp, .regs]
  | .registerWrite .. => [.bus, .tim, .fur, .eng, .eth, .kcp, .regs]
  | .commandAccept .. | .commandExecute .. | .mailboxService
 => [.free, .bus, .tim, .gnss, .ref, .sel, .osc, .bnd, .log, .sealing, .fur, .svc, .eng, .key, .evd, .eth, .arb, .tan, .syn, .kcp, .regs, .pwr, .tst]
  | .replyDeliver .. => [.bnd, .evd, .kcp, .regs]
  | .powerOnResetRelease | .supplyLoss | .trialFallback .. | .activationRestart => Part.all
  | .nuheifBoot .. => [.acc, .utc, .bus, .tim, .gnss, .ref, .osc, .bnd, .log, .sealing, .fur, .eth, .kcp, .regs, .pwr]
  | .bootImageVerdict | .recoveryResponder => [.kcp, .pwr]
  | .mBootEnd => [.osc, .kcp, .pwr]
  | .sTileBoot => [.free, .bus, .svc, .eng, .key, .evd, .kcp, .regs, .pwr]
  | .osc0Loss .. => [.bus, .tim, .ref, .sel, .log, .kcp, .regs]
  | .osc0Relock => [.bus, .tim, .osc, .log, .kcp, .regs]
  | .ovenRdyLow => [.bus, .tim, .ref, .osc, .log, .kcp, .regs]
  | .measuredEdge .. => [.tim, .gnss, .kcp]
  | .channelLockWindow .. => [.bus, .tim, .ref, .kcp, .regs]
  | .refreshComplete .. => [.bus, .tim, .fur, .kcp, .regs]
  | .interpolatorSelfcheck .. => [.bus, .tim, .kcp, .regs]
  | .gnssClkFault .. | .gnssClkClear .. => [.bus, .gnss, .kcp, .regs]
  | .acquisitionDwell .. => [.free, .gnss, .kcp]
  | .trackingLoss .. | .multipathFit .. | .ephemerisAdopt .. | .bitSynchronisation .. => [.gnss, .kcp]
  | .gnssSolution .. => [.free, .bus, .gnss, .ref, .log, .sealing, .kcp, .regs]
  | .quantisationPairing .. => [.utc, .bus, .gnss, .ref, .sel, .tan, .kcp, .regs]
  | .refEvent .. => [.utc, .bus, .ref, .sel, .tan, .kcp, .regs]
  | .activityWindowClose .. | .uartLabelTimeout .. | .wtrExpiry .. => [.ref, .kcp]
  | .uartMessage .. | .utcHoldExpiry => [.utc, .ref, .kcp]
  | .leapSecond => [.utc, .bus, .log, .sealing, .kcp, .regs]
  | .computation .. => [.acc, .utc, .bus, .tim, .gnss, .ref, .sel, .osc, .bnd, .log, .sealing, .tan, .syn, .kcp, .regs]
  | .stepEffective => [.acc, .bus, .ref, .sel, .osc, .bnd, .log, .syn, .kcp, .regs]
  | .stepMirror => [.bus, .sel, .bnd, .log, .kcp, .regs]
  | .settleEnd => [.sel, .osc, .bnd, .kcp]
  | .memberJoin .. | .ensembleTest | .learningSample | .holdoverFit | .tempRead .. => [.osc, .kcp]
  | .timeBusFrame | .slotMeasurementReport .. | .sealedPortFields => [.bus, .kcp]
  | .frameReceive .. => [.bus, .key, .evd, .kcp, .regs, .pwr]
  | .verifyPress => [.sealing, .kcp, .regs]
  | .pressStuck .. | .inputReleased .. => [.bus, .sealing, .kcp, .regs]
  | .logWrite .. | .logFlush .. => [.bus, .log, .kcp, .regs]
  | .boutEpoch .. => [.free, .bus, .tim, .fur, .key, .evd, .kcp, .regs, .tst]
  | .burstBuild .. => [.free, .bus, .tim, .fur, .key, .kcp, .regs]
  | .downstreamBurst .. | .leafDecision .. => [.utc, .bus, .ref, .sel, .fur, .tan, .kcp, .regs]
  | .upstreamLaunch .. => [.fur, .key, .kcp, .regs]
  | .upstreamBurst .. => [.bus, .fur, .kcp, .regs, .tst]
  | .mailboxTlv .. => [.fur, .kcp, .regs]
  | .announceReceived .. | .upstreamAnnounce .. | .upstreamGrant .. => [.svc, .eng, .key, .eth, .kcp, .regs, .pwr]
  | .upstreamMessage .. => [.utc, .bus, .ref, .sel, .svc, .eng, .key, .eth, .tan, .kcp, .regs, .pwr]
  | .upstreamRenewal .. => [.free, .svc, .eng, .key, .eth, .kcp, .pwr]
  | .launchCommit .. => [.free, .svc, .key, .evd, .eth, .kcp, .regs, .pwr]
  | .startOfFrame .. => [.svc, .eng, .evd, .eth, .kcp, .regs]
  | .frameStomp .. | .ethLinkDown .. => [.svc, .evd, .eth, .kcp, .regs]
  | .txDownDrop .. => [.evd, .eth, .kcp, .regs]
  | .waitEvent .. | .taskAbort .. => [.eng, .evd, .eth, .kcp, .regs]
  | .stallCensus => [.bus, .eng, .evd, .eth, .kcp, .regs]
  | .clusterFallow .. => [.free, .eng, .kcp, .regs]
  | .epochRoll | .harrowVisit => [.free, .key, .kcp]
  | .rngHealthFail | .wrappedStoreWritten => [.bus, .key, .kcp, .regs]
  | .recordCreate .. => [.free, .svc, .eng, .key, .evd, .eth, .kcp, .regs, .pwr]
  | .recordResolve .. | .markWrite | .sheafAgeClose => [.evd, .kcp, .regs]
  | .nvmeCompletion .. => [.free, .bus, .key, .evd, .kcp, .regs]
  | .nvmeWriteTimeout => [.bus, .evd, .kcp, .regs]
  | .nvmeEnumerate .. => [.free, .evd, .syn, .kcp]
  | .pauseFrame .. | .pauseExpiry .. => [.eth, .kcp, .regs]
  | .pauseWdog .. => [.bus, .eth, .kcp, .regs]
  | .arbiterGrant .. => [.arb, .kcp, .regs]
  | .sharedDriverEnable => [.tan, .syn, .kcp]
  | .timeWord .. => [.bus, .ref, .tan, .kcp]
  | .tandemReport => [.bus, .tan, .kcp]
  | .parityCheck .. => [.free, .bus, .tim, .ref, .fur, .svc, .key, .evd, .eth, .tan, .kcp, .regs]
  | .voltageWindow .. | .avsFault .. => [.bus, .kcp, .regs, .pwr]
  | .tempCrit .. | .tempCritClear .. => [.bus, .tim, .fur, .kcp, .regs, .pwr]
  | .lnavSubframe .. => [.utc, .gnss, .kcp]
  | .pcieLinkLoopback => [.bus, .kcp, .regs, .tst]
  | .wakeComplete .. => [.eng, .kcp, .regs]

end Sys2Proof.Machine
end

