-- ==== Sys2Proof/Certificates/Slice0/Obligations.lean ====
section
/-! DEFINITION. What is claimed of the model: first what holds of every command and every step, then that each command and each
event completes and what state it leaves, chapter by chapter, then further forms and cases of them. -/

open Sys2Proof Sys2Proof.Machine

/-- For every command c, queue rest and state s: a step of the state whose queue is c followed by rest is exec of c on the state whose queue is rest. -/
def Obligations.StepRunsTheFront : Prop :=
  ∀ (c : Instr) (rest : List Instr) (s : State),
    step { s with pending := c :: rest } = exec c { s with pending := rest }

/-- On an empty queue a step goes on 1,000 ns later; once the time base runs the tick counter grows by 1,250 and the phase accumulator by a microsecond at the rate in force, before that both stand; every other part is as before, but that the capture of an accepted SNAPSHOT whose marker has come is taken, and that an Ethernet port whose alignment or new record is due goes on. That the block idles a microsecond at a time is the model's choice (log entry 1). -/
def Obligations.IdleStepIsAMicrosecond : Prop :=
  ∀ s : State, s.pending = [] →
    Goes (step s) (fun t =>
      t.now = s.now + 1000 ∧ t.pending = [] ∧
      (∀ p, p ≠ Part.acc → p ≠ Part.tim → p ≠ Part.kcp → p ≠ Part.eth → p.same s t) ∧
      (∀ p, p < 16 → t.ethP p = (portTick { s with now := s.now + 1000 } p).ethP p) ∧
      ((∀ p, portDue { s with now := s.now + 1000 } p = false) →
        t.eth = s.eth ∧ t.kcp = { s.kcp with snaps := t.kcp.snaps } ∧
        (s.kcp.slots.all (fun c => c.opcode != 0x0002) = true → t.kcp = s.kcp)) ∧
      t.tim = { s.tim with tick := t.tim.tick } ∧
      (s.tim.tb.running = true → t.tim.tick = s.tim.tick + 1250 ∧ t.acc = s.acc + idlePhase s.osc.rate) ∧
      (s.tim.tb.running = false → t.tim.tick = s.tim.tick ∧ t.acc = s.acc))

/-- The state at reset: an empty queue; the time base not running, its tick count 0, the warm-up flag set; the UTC offset 37 s and not valid; every die's replica in time-bus loss with the bound 0xFFFFFFFF and clockClass 248; ROLE as the claims give it. The fuse counts of the unprovisioned part, 0, are the model's choice (log entry 7). -/
def Obligations.ResetLeaves : Prop :=
  State.reset.pending = [] ∧ State.reset.tim.tb.running = false ∧ State.reset.tim.tick = 0 ∧
  State.reset.tim.tb.warmup = true ∧ State.reset.utc.offset = 37 ∧ State.reset.utc.valid = false ∧
  (∀ d, (State.reset.replica d).inLoss = true ∧ dieBound State.reset d = 0xFFFFFFFF ∧
    ∀ b, servedClass State.reset d b = 248) ∧
  State.reset.tan.role = roleOf State.reset ∧
  sealCount State.reset = 0 ∧ State.reset.pwr.ownerBits = 0 ∧ State.reset.pwr.minSvn = [0, 0, 0]

/-- In every state every command answers a next state: none faults, none is refused. A command that names a unit the module does not have leaves the state as it was (the model's choice, log entry 5), as an event of furrow port 1,024 shows. -/
def Obligations.CommandsGoOn : Prop :=
  (∀ (i : Instr) (s : State), ∃ t, exec i s = .next t) ∧
  (∀ s : State, exec (.boutEpoch 1024) s = .next s)

/-- If every waiting command is well formed, a step answers a next state, takes the front command from the queue and no other, and every command still waiting is well formed. -/
def Obligations.QueueStaysWellFormed : Prop :=
  ∀ s : State, s.pending.all Instr.wellFormed = true →
    Goes (step s) (fun t => t.pending = s.pending.tail ∧ t.pending.all Instr.wellFormed = true)

/-- Whatever step the block takes, from any state whose count L fits its 16 bits: L fits them again and the seal-break counter never decreases; from any state the owner generation's burned bits never become fewer, and no minimum SVN falls. -/
def Obligations.FusesOnlyBurn : Prop :=
  ∀ s t : State, step s = .next t →
    (s.sealing.low < 65536 → t.sealing.low < 65536 ∧ sealCount s ≤ sealCount t) ∧ s.pwr.ownerBits ≤ t.pwr.ownerBits ∧
    ∀ k, s.pwr.minSvn.getD k 0 ≤ t.pwr.minSvn.getD k 0

/-- Every command leaves the clock of the model, the queue, and every part of the state that is not listed for it in touchesOf exactly as it was: each register, counter, buffer and flag in those parts. -/
def Obligations.CommandsKeepTheirFrame : Prop :=
  ∀ (i : Instr) (s t : State), exec i s = .next t → Within (touchesOf i) s t

/-- An ECHO that the module runs answers OK with its request payload, whatever it is, and nothing but that reply changes; no ECHO is relayed. -/
def Obligations.EchoReturnsItsPayload : Prop :=
  (∀ (rq : Request) (s : State), runs 0x0003 rq s = true → exec (.echo rq) s = .next (replied 0x0003 rq rq.payload s)) ∧
  (∀ p : List Byte, relayed 0x0003 p = false)

/-- A GET_GENERATION that the module runs answers, with an empty payload, 152 bytes: G in bytes 0 to 7, then GG[0x00] to GG[0x11], 8 bytes each; with any payload it answers BAD_PARAM with DETAIL 0xFF. Nothing but the reply changes. -/
def Obligations.GenerationReply : Prop :=
  ∀ (rq : Request) (s : State), runs 0x0006 rq s = true →
    (rq.payload = [] → ∃ p : List Byte, exec (.getGeneration rq) s = .next (replied 0x0006 rq p s) ∧ p.length = 152 ∧
      p.take 8 = le 8 s.kcp.g ∧ ∀ g, g < 18 → (p.drop (8 + 8 * g)).take 8 = le 8 (groupGen s g)) ∧
    (rq.payload ≠ [] → exec (.getGeneration rq) s = .next { s with kcp := { s.kcp with
      nextId := s.kcp.nextId + 1
      replies := s.kcp.replies ++ [⟨s.kcp.nextId, rq.src, 0x0006, rq.tag, stBAD, 0xFF, s.kcp.g, [], s.now⟩] } })

/-- With tandem operation enabled, ROLE is ACTIVE (2), STANDBY (1), TIE (3) or RELEASED (4) as the own claim and the partner's last-seen claim compare; and every step from a state whose ROLE is so leaves a state whose ROLE is so. -/
def Obligations.RoleFollowsTheClaims : Prop :=
  (∀ s : State, tanOn s = true → s.tan.role = roleOf s →
    (s.tan.partner < s.tan.own → s.tan.role = 2) ∧
    (s.tan.own < s.tan.partner ∧ s.tan.own ≠ 0 → s.tan.role = 1) ∧
    (s.tan.own = s.tan.partner ∧ s.tan.own ≠ 0 → s.tan.role = 3) ∧ (s.tan.own = 0 → s.tan.role = 4)) ∧
  (∀ s t : State, s.tan.role = roleOf s → step s = .next t → t.tan.role = roleOf t)

/-- Any operand 0xFFFFFFFF gives 0xFFFFFFFF, a sum above 0xFFFFFFFE gives 0xFFFFFFFF, any other sum is exact; and no bound served by a port, a burst, a timestamp or the outputs is smaller than the bound of the frame it was built from. -/
def Obligations.BoundSumsSaturate : Prop :=
  (∀ a b : Bound, (a = 0xFFFFFFFF ∨ b = 0xFFFFFFFF → addB a b = 0xFFFFFFFF) ∧ (0xFFFFFFFE < a + b → addB a b = 0xFFFFFFFF) ∧
    (a ≠ 0xFFFFFFFF → b ≠ 0xFFFFFFFF → a + b ≤ 0xFFFFFFFE → addB a b = a + b)) ∧
  (∀ (s : State) (p : Nat) (tx lean : Bool), (s.replica 0).frame.bound ≤ 0xFFFFFFFF → (s.replica (portDie p)).frame.bound ≤ 0xFFFFFFFF →
    (s.replica 0).frame.bound ≤ portBound s p ∧ (s.replica 0).frame.bound ≤ servedBound s p tx ∧
    (s.replica (portDie p)).frame.bound ≤ burstBound s p lean ∧ (s.replica 0).frame.bound ≤ outBound s)

/-- Each of TB_STATUS, TIM_CONFIG, TIM_MEASURE, TIM_MEASURE_RESULT, TIM_CAL_STATUS, TIM_CAL_RUN, TIM_CAL_VERIFY_END completes: for every state and operands that meet a clause's conditions, exec answers a next state, the one the clause gives or one with the effects it states. The choices under them are log entries 18 and 19. -/
def Obligations.TimeBaseAndIntervalCommandsComplete : Prop :=
  (∀ rq s, runs 0x0101 rq s = true → rq.payload = [] → 
    exec (.tbStatus rq) s = .next (replied 0x0101 rq (tbStatus s s.tim.tick) s)) ∧
  (∀ rq s, runs 0x0102 rq s = true → rq.payload.length = 16 → driftLimitOk (rdI rq.payload 0 8) = true → 1 ≤ rd rq.payload 8 2 → rd rq.payload 8 2 ≤ 60 → rd rq.payload 10 2 = 0 → rd rq.payload 12 4 ≤ 14400 → windowOpen s = true → s.log.fault = false → 
    Goes (exec (.timConfig rq) s) (fun t =>
      t.tim.cfg = ⟨rdI rq.payload 0 8, rd rq.payload 8 2, rd rq.payload 12 4⟩ ∧ Answered 0x0102 rq (timRecord t.tim.cfg) s t)) ∧
  (∀ rq s, runs 0x0103 rq s = true → rq.payload.length = 8 → rd rq.payload 0 2 ≤ 0x10 → rd rq.payload 2 2 ≤ 0x10 → 1 ≤ rd rq.payload 4 2 → rd rq.payload 4 2 ≤ 2000 → rd rq.payload 6 2 = 0 → s.tim.measures.length < 4 → 
    Goes (exec (.timMeasure rq) s) (fun t => Held 0x0103 rq s t ∧
      t.tim.measures = s.tim.measures ++ [(⟨s.kcp.nextId, rd rq.payload 0 2, rd rq.payload 2 2, s.tim.tick * 800,
      s.tim.tick * 800 + rd rq.payload 4 2 * 1000000000, s.now + rd rq.payload 4 2 * 1000000, none, none, []⟩ : Measure)])) ∧
  (∀ s m rest c st p, s.tim.measures = m :: rest → measureDue s m = some (st, p) → s.kcp.slots.find? (fun x => x.id == m.id) = some c → c.lost = false → c.noReply = false → 
    Goes (exec .timMeasureResult s) (fun t =>
      t.tim.measures = rest.filter (fun x => x.id != m.id) ∧
      t.kcp.replies = s.kcp.replies ++ [mkReply c s.now st 0 (if st = stOK then t.kcp.g else s.kcp.g) p])) ∧
  (∀ rq s, runs 0x0104 rq s = true → rq.payload.length = 4 → rd rq.payload 2 2 = 0 → 
    exec (.timCalStatus rq) s =
      .next (replied 0x0104 rq ((chanList (rd rq.payload 0 2)).flatMap (fun i => calRecord (s.chan i))) s)) ∧
  (∀ rq s, runs 0x0105 rq s = true → rq.payload.length = 4 → rd rq.payload 2 2 = 0 → (∀ n ∈ chanList (rd rq.payload 0 2), feedsSelected s n = false ∧ feedsTandem s n = false ∧ (s.chan n).lock = true ∧ (s.chan n).checking = false) → 
    Goes (exec (.timCalRun rq) s) (fun t => Pending 0x0105 rq [] s t ∧
      ∀ n ∈ chanList (rd rq.payload 0 2), (t.chan n).checking = true)) ∧
  (∀ chan hist s, chan < 16 → (s.chan chan).checking = true → hist.length = 256 → hist.sum = 2 ^ 18 → 
    Goes (exec (.timCalVerifyEnd chan hist) s) (fun t =>
      (t.chan chan).checking = false ∧ (t.chan chan).fail = !(t.chan chan).pass ∧
      (t.chan chan).pass = (decide (maxAbs (hist.map (fun h : Nat => (h : Int) - 1024)) ≤ 256) &&
      decide (maxAbs (inlSums hist 0) ≤ 512))))

/-- Each of APLL_FIRST_LOCK, OSC0_LOSS, OSC0_RELOCK, OVEN_RDY_HIGH, OVEN_RDY_LOW, WARMUP_WINDOW_END, MEASURED_EDGE, CONVERSION_END, CHANNEL_LOCK_WINDOW, REFRESH_START, REFRESH_COMPLETE, TABLE_REPLACE, INTERPOLATOR_SELFCHECK completes: for every state and operands that meet a clause's conditions, exec answers a next state, the one the clause gives or one with the effects it states. The choices under them are log entries 18 and 19. -/
def Obligations.TimeBaseAndIntervalEventsComplete : Prop :=
  (∀ s, s.pwr.released = true → s.tim.tb.running = false → 
    Goes (exec .apllFirstLock s) (fun t => t.tim.tick = 0 ∧ t.tim.tb.running = true ∧ t.tim.tb.aplLock = true)) ∧
  (∀ d s, s.tim.tb.running = true → s.tim.tb.oscLoss = false → 
    Goes (exec (.osc0Loss d) s) (fun t => t.tim.tb.oscLoss = true ∧ t.tim.tb.aplLock = false ∧ t.tim.tb.warmup = true ∧
      t.tim.tb.lossCount = satInc sat32 s.tim.tb.lossCount ∧ t.tim.tick = s.tim.tick ∧
      ∀ n ∈ List.range 16, (t.chan n).lock = false)) ∧
  (∀ s, s.tim.tb.oscLoss = true → 
    Goes (exec .osc0Relock s) (fun t => t.tim.tb.oscLoss = false ∧ t.tim.tb.aplLock = true ∧ t.tim.tb.warmup = true ∧
      t.tim.tb.run = 0 ∧ t.tim.tb.driftMet = false ∧ (laterState s.osc.mState = true → t.osc.mState = .warmUp))) ∧
  (∀ s, s.tim.tb.ovenHigh = false → 
    Goes (exec .ovenRdyHigh s) (fun t => t.tim.tb.ovenHigh = true ∧ t.tim.tb.ovenSince = s.now ∧
      t.tim.tb.holdStart = s.tim.tb.holdStart.or (some s.now) ∧ t.tim.tb.warmup = (s.tim.tb.warmup && !s.tim.tb.driftMet))) ∧
  (∀ s, s.tim.tb.ovenHigh = true → 
    Goes (exec .ovenRdyLow s) (fun t => t.tim.tb.ovenHigh = false ∧ t.tim.tb.warmup = true ∧ t.tim.tb.run = 0 ∧
      t.tim.tb.holdStart = none ∧ (laterState s.osc.mState = true → t.osc.mState = .warmUp))) ∧
  (∀ freq h s, comparisonSource s = 0 → s.tim.tb.running = true → s.tim.tb.oscLoss = false → s.tim.tb.windowStart + 10000000000 ≤ s.now → s.tim.tb.holdStart = some h → 
    Goes (exec (.warmupWindowEnd 0 freq) s) (fun t => t.tim.tb.run = 0 ∧ t.tim.tb.holdTimer = true ∧
      t.tim.tb.windowStart = s.now ∧ t.tim.tb.driftMet = decide (h + s.tim.judging.holdTime * 1000000000 ≤ s.now))) ∧
  (∀ n edge s, n < 16 → s.tim.tb.running = true → (s.chan n).checking = false → chanPrescale s n ≤ (s.chan n).edges + 1 → (s.chan n).converting = none → (s.chan n).freeAt ≤ edge → 
    Goes (exec (.measuredEdge true n edge none) s) (fun t => (t.chan n).converting = some (edge / 800 + 1) ∧
      (t.chan n).cycles = (s.chan n).cycles + 1 ∧ (t.chan n).passedPs = some edge)) ∧
  (∀ n k e s tk, n < 16 → (s.chan n).converting = some tk → 1 ≤ k → k ≤ 256 → 
    Goes (exec (.conversionEnd true n (some k) e) s) (fun t =>
      (t.chan n).converting = none ∧ (t.chan n).freeAt = (tk + k) * 800 + 40000 ∧
      (t.chan n).last = some ⟨tk, (divNear ((2 * k - 1) * 512) 5 : Nat), s.tim.tb.warmup,
      !(s.chan n).lock, false, !(s.chan n).lock, (s.chan n).missedPending⟩)) ∧
  (∀ n fast slow s, n < 16 → s.tim.tb.aplLock = true → withinPpm 5 fast = true → withinPpm 5 slow = true → withinPpm 2 fast = true → withinPpm 2 slow = true → 
    Goes (exec (.channelLockWindow n fast slow) s) (fun t =>
      (t.chan n).lockWindows = satInc sat16 (s.chan n).lockWindows ∧
      (t.chan n).lock = ((s.chan n).lock || decide (16 ≤ (t.chan n).lockWindows)))) ∧
  (∀ n s, n < 1048 → (s.interp n).started = false → 
    Goes (exec (.refreshStart n) s) (fun t => (t.interp n).running = true ∧ (t.interp n).start = s.now)) ∧
  (∀ n h s, n < 1048 → (s.interp n).running = true → refreshOk (s.interp n) h = true → 
    Goes (exec (.refreshComplete n h) s) (fun t => (t.interp n).running = false ∧ (t.interp n).accepted = some h ∧
      (t.interp n).rejectRun = 0 ∧ (t.interp n).calFault = false)) ∧
  (∀ n h s, n < 1048 → (s.interp n).accepted = some h → 
    Goes (exec (.tableReplace n) s) (fun t => (t.interp n).table = some h ∧ (t.interp n).accepted = none ∧
      (t.interp n).tableStart = (s.interp n).acceptedStart)) ∧
  (∀ p diff s, p < 16 → selfcheckDue s p = true → (spareFor s p).isSome = true → 
    Goes (exec (.interpolatorSelfcheck p diff) s) (fun t => (t.interp (1024 + p)).selfAt = some s.now ∧
      (t.interp (1024 + p)).selfFail = decide (10 * 65536 < diff.natAbs * 1000)))

/-- Each of GNSS_CONFIG, GNSS_STATUS, GNSS_CHANNELS, GNSS_SET_POSITION, GNSS_SURVEY_STATUS, GNSS_SURVEY_START, GNSS_SURVEY_ABORT, GNSS_PPS_MSG completes: for every state and operands that meet a clause's conditions, exec answers a next state, the one the clause gives or one with the effects it states. The choices under them are in log entry 20. -/
def Obligations.GnssCommandsComplete : Prop :=
  (∀ rq s g, runs 0x0201 rq s = true → rq.payload.length = 60 → g = gnssParse rq.payload → 16368000 ≤ g.sampleRate → g.sampleRate ≤ 65472000 → ifOk g = true → g.format < 16 → 1 ≤ g.elSpacing → g.elSpacing ≤ 32 → g.mpMode ≤ 1 → 1 ≤ g.minSv → g.minSv ≤ 12 → g.elevMask ≤ 60 → 1 ≤ g.acqDwell → g.acqDwell ≤ 64 → 200 ≤ g.cn0Mask → g.cn0Mask ≤ 450 → 2 ≤ g.pllBw → g.pllBw ≤ 20 → rd rq.payload 17 1 = 0 → 1 ≤ g.dllBw → g.dllBw ≤ 200 → 180 ≤ g.thrFloor → g.thrFloor ≤ 400 → g.thrFloor ≤ g.thrCeil → 180 ≤ g.thrCeil → g.thrCeil ≤ 400 → 10000 ≤ g.residLimit → g.residLimit ≤ 1000000 → g.autoSurvey ≤ 1 → rd rq.payload 31 1 = 0 → 0 ≤ g.antDelay → g.antDelay ≤ us10 → 0x280 ≤ g.surveyPosTerm → g.surveyPosTerm ≤ 0xFA00 → windowOpen s = true → s.log.fault = false → 
    Goes (exec (.gnssConfig rq) s) (fun t => t.gnss.cfg = g ∧ t.gnss.acqThr = clampThr g s.gnss.acqThr ∧
      t.gnss.lossThr = clampThr g s.gnss.lossThr ∧ Answered 0x0201 rq (gnssRecord g) s t)) ∧
  (∀ rq s, runs 0x0202 rq s = true → rq.payload = [] → 
    exec (.gnssStatus rq) s = .next (replied 0x0202 rq (gnssStatus s) s)) ∧
  (∀ rq s, runs 0x0203 rq s = true → rq.payload = [] → 
    exec (.gnssChannels rq) s =
      .next (replied 0x0203 rq ((List.range 32).flatMap (fun i => gnssChanRecord s (s.gch i))) s)) ∧
  (∀ rq s q, runs 0x0204 rq s = true → rq.payload.length = 32 → q = ⟨rdI rq.payload 0 8, rdI rq.payload 8 8, rdI rq.payload 16 8, rd rq.payload 24 4⟩ → radiusOk q.x q.y q.z = true → 1 ≤ q.unc → q.unc ≤ 100000 → rd rq.payload 28 4 = 0 → positionStatus s (sealedPairs 0x0204 0 (positionFields s.gnss.position) (positionFields (some q))) = 0 → 
    Goes (exec (.gnssSetPosition rq) s) (fun t => t.gnss.position = some q ∧ t.gnss.mode = .hold ∧ Answered 0x0204 rq [] s t)) ∧
  (∀ rq s, runs 0x0205 (withByte 0 0 rq) s = true → rq.payload.length = 8 → rd rq.payload 1 1 = 0 → rd rq.payload 6 2 = 0 → 
    exec (.gnssSurveyStatus rq) s = .next (replied 0x0205 (withByte 0 0 rq) (surveyReply s) s)) ∧
  (∀ rq s, runs 0x0205 (withByte 0 1 rq) s = true → rq.payload.length = 8 → rd rq.payload 1 1 = 0 → rd rq.payload 6 2 = 0 → 30 ≤ rd rq.payload 2 2 → rd rq.payload 2 2 ≤ 2880 → 100 ≤ rd rq.payload 4 2 → rd rq.payload 4 2 ≤ 10000 → rd rq.payload 4 2 % 100 = 0 → s.gnss.position = none → 
    Goes (exec (.gnssSurveyStart rq) s) (fun t => t.gnss.mode = .survey ∧
      t.gnss.survey = { start := s.now, time := rd rq.payload 2 2 * 60, sigma := rd rq.payload 4 2 } ∧
      Answered 0x0205 (withByte 0 1 rq) (surveyReply t) s t)) ∧
  (∀ rq s, runs 0x0205 (withByte 0 2 rq) s = true → rq.payload.length = 8 → rd rq.payload 1 1 = 0 → rd rq.payload 6 2 = 0 → s.gnss.mode = .survey → 
    Goes (exec (.gnssSurveyAbort rq) s) (fun t =>
      t.gnss.mode = (if s.gnss.position.isSome then .hold else .noPosition) ∧ t.gnss.survey = {} ∧
      t.gnss.position = s.gnss.position ∧ Answered 0x0205 (withByte 0 2 rq) (surveyReply t) s t)) ∧
  (∀ rq s, runs 0x0206 rq s = true → rq.payload.length = 1 → 1 ≤ rd rq.payload 0 1 → rd rq.payload 0 1 ≤ 16 → 
    exec (.gnssPpsMsg rq) s =
      .next (replied 0x0206 rq ((s.gnss.history.take (rd rq.payload 0 1)).flatMap quantRecord) s))

/-- Each of GNSS_CLK_FAULT, GNSS_CLK_CLEAR, ACQUISITION_DWELL, TRACKING_LOSS, BIT_SYNCHRONISATION, MULTIPATH_FIT, EPHEMERIS_ADOPT, LNAV_SUBFRAME, GNSS_SOLUTION, QUANTISATION_PAIRING completes: for every state and operands that meet a clause's conditions, exec answers a next state, the one the clause gives or one with the effects it states. The choices under them are in log entry 20. -/
def Obligations.GnssEventsComplete : Prop :=
  (∀ gap f s, clkOut s.gnss.cfg ⟨gap, f⟩ = true → 
    Goes (exec (.gnssClkFault ⟨gap, f⟩) s) (fun t => t.gnss.clkFault = true ∧ t.gnss.clock = some f ∧ t.gnss.faultAt = s.now ∧
      bit (t.flt 0).cond 2 = true ∧ bit (t.flt 0).status 2 = true)) ∧
  (∀ gap f s, s.gnss.clkFault = true → clkOut s.gnss.cfg ⟨gap, f⟩ = false → s.gnss.faultAt + 100000000 ≤ s.now → 
    Goes (exec (.gnssClkClear ⟨gap, f⟩) s) (fun t => t.gnss.clkFault = false ∧ t.gnss.clock = some f ∧ t.gnss.chans = [] ∧
      t.gnss.searched = [] ∧ bit (t.flt 0).cond 2 = false)) ∧
  (∀ prn a b ca cb s, s.gnss.clkFault = false → prn ∈ searching s → 
    exec (.acquisitionDwell prn a b ca cb) s = .next (judgeCells prn
      (dwellPeak s.gnss.cfg s.gnss.ifOffset prn (captureSpan s.gnss.cfg.format a b))
      (dwellCheck s.gnss.cfg s.gnss.ifOffset prn (dwellPeak s.gnss.cfg s.gnss.ifOffset prn (captureSpan s.gnss.cfg.format a b))
      (captureSpan s.gnss.cfg.format ca cb)) s)) ∧
  (∀ i l s, i < 32 → (s.gch i).state ≠ .idle → meanCn0 l < s.gnss.lossThr → 
    Goes (exec (.trackingLoss i l) s) (fun t => t.gch i = {} ∧
      t.gnss.searched = s.gnss.searched.filter (fun p => p ≠ (s.gch i).prn))) ∧
  (∀ i s, i < 32 → (s.gch i).state = .verify → 
    Goes (exec (.bitSynchronisation i) s) (fun t => (t.gch i).state = .pullIn)) ∧
  (∀ i sp s, i < 32 → s.gnss.clkFault = false → loopsRun (s.gch i).state = true → mpAvailable s.gnss.cfg = false → 
    exec (.multipathFit i sp) s = .next (steerChannel i
      (channelOutputs s.gnss.cfg (s.gch i) (captureSpan s.gnss.cfg.format sp.rise sp.fall)) none s)) ∧
  (∀ prn s e, 1 ≤ prn → prn ≤ 32 → consistent (s.nav prn) = some e → 
    Goes (exec (.ephemerisAdopt prn) s) (fun t => (t.nav prn).adopted = some e)) ∧
  (∀ prn d29 d30 w tlm how l x s, 1 ≤ prn → prn ≤ 32 → wordsOf d29 d30 w = some tlm :: some how :: l → navBits tlm 1 8 = 0x8B → l.length = 8 → navBits how 20 3 = 1 → navWord l 3 = some x → navBits x 17 6 = 0 → 
    Goes (exec (.lnavSubframe prn ⟨w, d29, d30⟩) s) (fun t => (t.nav prn).health = 0 ∧ (t.nav prn).sub1 = l ∧
      t.gnss.gpsAt = some (604800 * fullWeek s.gnss.cfg.wnBase (navBits x 1 10) + 6 * navBits how 1 17, s.now))) ∧
  (∀ g second s, dueSecond s = some second → s.gnss.mode = .hold → s.gnss.clkFault = false → 
    Goes (exec (.gnssSolution g) s) (fun t =>
      t.gnss.history.head?.map (fun m => (m.second, m.svUsed)) = some (second, (usedFixes s (solutionFixes s (second - 315964819) g.fixes)).length) ∧
      (s.gnss.cfg.minSv ≤ (usedFixes s (solutionFixes s (second - 315964819) g.fixes)).length →
      t.gnss.history.head?.map (fun m => m.valid) = some true ∧ t.gnss.lastSecond = second))) ∧
  (∀ second s m, messageOf s second = some m → 
    Goes (exec (.quantisationPairing second none) s) (fun t => t.gnss.unpaired = satInc sat16 s.gnss.unpaired))

/-- Each of REF_CONFIG, REF_STATUS, REF_LIMITS, REF_DUPLEX, TOD_CONFIG, REF_EVENT, ACTIVITY_WINDOW_CLOSE, FREQ_EVALUATION, UART_MESSAGE, UART_LABEL_TIMEOUT, UTC_HOLD_EXPIRY, LEAP_SECOND completes: for every state and operands that meet a clause's conditions, exec answers a next state, the one the clause gives or one with the effects it states. The choices under them are in log entries 21 and 22. -/
def Obligations.ReferencesComplete : Prop :=
  (∀ rq s i, runs 0x0301 rq s = true → rq.payload.length = 24 → rd rq.payload 0 1 = i → i < 8 → rd rq.payload 1 1 < 4 → rd rq.payload 2 1 ≤ 1 → rd rq.payload 3 1 ≤ 1 → 1000 ≤ rd rq.payload 4 4 → rd rq.payload 4 4 ≤ 250000000 → rd rq.payload 9 1 < 4 → rd rq.payload 10 2 = 0 → -655360000 ≤ rdI rq.payload 16 8 → rdI rq.payload 16 8 ≤ 655360000 → windowOpen s = true → s.log.fault = false → 
    Goes (exec (.refConfig rq) s) (fun t => refCfgOf t i = refParse rq.payload i (refCfgOf s i) ∧
      (t.slot i).cfg.enable = bit (rd rq.payload 1 1) 0 ∧ Answered 0x0301 rq (refRecord t i (refCfgOf t i)) s t)) ∧
  (∀ rq s, runs 0x0302 rq s = true → rq.payload.length = 4 → rd rq.payload 0 4 < 2 ^ 20 → 
    exec (.refStatus rq) s = .next (replied 0x0302 rq (refStatus s (rd rq.payload 0 4)) s)) ∧
  (∀ rq s l, runs 0x0303 rq s = true → rq.payload.length = 16 → l = ⟨rd rq.payload 1 1, rd rq.payload 2 2, rd rq.payload 4 2, rd rq.payload 6 2, rd rq.payload 8 1, rd rq.payload 9 1, rd rq.payload 12 4⟩ → rd rq.payload 0 1 < 20 → 1 ≤ l.actMiss → 1 ≤ l.accept → l.accept ≤ 10000 → 2 ≤ l.reject → l.reject ≤ 20000 → l.accept < l.reject → 1 ≤ l.qualPeriod → l.qualPeriod ≤ 3600 → l.warmupAllow ≤ 100 → 2 ≤ l.freqWindow → l.freqWindow ≤ 64 → rd rq.payload 10 2 = 0 → 64 ≤ l.phaseAlarm → l.phaseAlarm ≤ 64000000 → 
    Goes (exec (.refLimits rq) s) (fun t => limOf t (rd rq.payload 0 1) = l ∧
      (t.slot (rd rq.payload 0 1)).lim = (s.slot (rd rq.payload 0 1)).lim ∧
      Answered 0x0303 rq (limRecord (rd rq.payload 0 1) l) s t)) ∧
  (∀ rq s d, runs 0x0304 rq s = true → rq.payload.length = 20 → d = ⟨bit (rd rq.payload 1 1) 0, rd rq.payload 4 4, rd rq.payload 8 4, rdI rq.payload 12 8⟩ → rd rq.payload 0 1 < 4 → rd rq.payload 1 1 ≤ 1 → (d.bind = false ∨ bindable s (rd rq.payload 0 1) = true) → rd rq.payload 2 2 = 0 → 100 ≤ d.limit → d.limit ≤ 1000000 → 1 ≤ d.tDisc → d.tDisc ≤ 60000 → -65536000 ≤ d.offset → d.offset ≤ 65536000 → windowOpen s = true → s.log.fault = false → 
    Goes (exec (.refDuplex rq) s) (fun t => dupOf t (rd rq.payload 0 1) = d ∧
      (t.dup (rd rq.payload 0 1)).cfg = (s.dup (rd rq.payload 0 1)).cfg ∧
      Answered 0x0304 rq (dupRecord t (rd rq.payload 0 1) d) s t)) ∧
  (∀ rq s g, runs 0x0305 rq s = true → rq.payload.length = 36 → g = todParse rq.payload → (∀ i ∈ List.range 8, rd rq.payload i 1 = 0 ∨ todCode (rd rq.payload i 1) = true) → (∀ i ∈ List.range (utcListOf g.utcList).length, todCode (rd rq.payload (8 + i) 1) = true) → g.fmt0 < 4 → g.fmt1 < 4 → rd rq.payload 18 2 = 0 → 9600 ≤ g.baud0 → g.baud0 ≤ 921600 → 9600 ≤ g.baud1 → g.baud1 ≤ 921600 → g.hostLeap ≤ 2 → rd rq.payload 31 1 = 0 → g.utcHold ≤ 2592000 → windowOpen s = true → s.log.fault = false → 
    Goes (exec (.todConfig rq) s) (fun t => todOf t = g ∧ t.ref.tod = s.ref.tod ∧ Answered 0x0305 rq (todRecord g) s t)) ∧
  (∀ i ev s, i < 9 → chanOk s i = true → edgeGen s i = false → (s.slot i).cfg.enable = true → (s.slot i).st.held = false → inSafe s 0 i = false → ev.invalid = false → ev.unlock = false → 
    Goes (exec (.refEvent i ev) s) (fun t =>
      (t.slot i).act = activityEvent s.now (slotPeriodFt s i) ev.at_ (s.slot i).act ∧ (t.slot i).ub = ev.ub ∧
      (t.slot i).st.prov = ev.prov)) ∧
  (∀ i q s, i < 20 → (s.slot i).act.predict = some q → (s.slot i).cfg.enable = true → (s.slot i).st.held = false → q + slotPeriodFt s i / 4 < s.acc → 
    Goes (exec (.activityWindowClose i) s) (fun t =>
      (t.slot i).act = activityMiss (slotPeriodFt s i) (s.slot i).lim.actMiss (!chanOk s i) (s.slot i).act)) ∧
  (∀ s, s.ref.nextEval ≤ s.acc → 
    Goes (exec .freqEvaluation s) (fun t => s.acc < t.ref.nextEval ∧ t.ref.tod = todOf s ∧ t.ref.todNext = none ∧
      ∀ i ∈ List.range 20, (t.slot i).cfg = refCfgOf s i ∧ (t.slot i).cfgNext = none ∧ (t.slot i).lim = limOf s i)) ∧
  (∀ u bytes stop s m, u < 2 → (if u = 0 then s.ref.tod.fmt0 else s.ref.tod.fmt1) = 0 → uartSlots s u ≠ [] → parseBinary bytes = some m → 
    Goes (exec (.uartMessage u bytes stop) s) (fun t => (t.uart u).waiting = some ⟨m.second, stop, m.offset, m.leap⟩)) ∧
  (∀ u s, u < 2 → (tget ({} : Uart) s.ref.uarts u).last.isSome = true → (tget ({} : Uart) s.ref.uarts u).lastAt + 3000000000 ≤ s.now → 
    Goes (exec (.uartLabelTimeout u) s) (fun t => (tget {} t.ref.uarts u).valid = false ∧ (tget {} t.ref.uarts u).run = 0 ∧
      (tget {} t.ref.uarts u).last = none)) ∧
  (∀ s, s.utc.valid = true → s.utc.lastSupplied + s.ref.tod.utcHold * 1000000000 ≤ s.now → 
    Goes (exec .utcHoldExpiry s) (fun t => t.utc.valid = false ∧ t.utc.source = 0 ∧ t.utc.offset = s.utc.offset)) ∧
  (∀ s a, s.utc.announced = some a → (s.utc.leap61 || s.utc.leap59) = true → leapSec s a * s1 ≤ s.acc → 
    Goes (exec .leapSecond s) (fun t => t.utc.offset = s.utc.offset + (if a.positive then 1 else -1) ∧
      t.utc.leap61 = false ∧ t.utc.leap59 = false ∧ t.utc.announced = none))

/-- Each of SEL_POLICY, SEL_STATUS, SEL_FORCE, SEL_CLEAR_FORCE, DPLL_CONFIG, TIME_SET_MODE0, TIME_SET_MODE1, TIME_ADJUST, STEP_EFFECTIVE, STEP_MIRROR, SETTLE_END, GUARD_EXPIRY, WTR_EXPIRY completes: for every state and operands that meet a clause's conditions, exec answers a next state, the one the clause gives or one with the effects it states. The choices under them are in log entry 23. -/
def Obligations.SelectionComplete : Prop :=
  (∀ rq s n, runs 0x0401 rq s = true → rq.payload.length = 24 → n = ⟨rd rq.payload 0 4, rd rq.payload 4 4, rd rq.payload 8 4, rd rq.payload 12 4, bit (rd rq.payload 16 1) 0, rd rq.payload 20 4⟩ → n.wtr ≤ 3600 → n.wtrHoldover ≤ 3600 → n.margin ≤ 0xFA00 → 0x40 ≤ n.stepAlarm → n.stepAlarm ≤ 0x3D09000 → rd rq.payload 16 1 ≤ 1 → rd rq.payload 17 3 = 0 → 0x40 ≤ n.stepDetect → n.stepDetect ≤ 0x3D09000 → 
    Goes (exec (.selPolicy rq) s) (fun t => t.sel = { s.sel with policy := n } ∧ Answered 0x0401 rq (policyRecord n) s t)) ∧
  (∀ rq s, runs 0x0402 rq s = true → rq.payload = [] → 
    exec (.selStatus rq) s = .next (replied 0x0402 rq (selStatus s) s)) ∧
  (∀ rq s, runs 0x0403 rq s = true → rq.payload.length = 4 → rd rq.payload 0 1 < 20 → rd rq.payload 1 1 ≤ 1 → rd rq.payload 2 2 = 0 → (s.slot (rd rq.payload 0 1)).cfg.enable = true → (tget {} s.tst.loops (4096 * 5)).depth = 0 → (tget {} s.tst.loops (4096 * 6 + rd rq.payload 0 1)).depth = 0 → s.sel.switching = none → 
    Goes (exec (.selForce rq) s) (fun t => t.sel =
      { s.sel with st := { s.sel.st with forced := some (rd rq.payload 0 1), strict := bit (rd rq.payload 1 1) 0 } } ∧
      Answered 0x0403 rq [] s t)) ∧
  (∀ rq s, runs 0x0404 rq s = true → rq.payload = [] → s.sel.switching = none → 
    Goes (exec (.selClearForce rq) s) (fun t => t.sel = { s.sel with st := { s.sel.st with forced := none, strict := false } } ∧
      Answered 0x0404 rq [] s t)) ∧
  (∀ rq s d, runs 0x0405 rq s = true → rq.payload.length = 8 → d = ⟨rd rq.payload 0 4, rd rq.payload 4 2⟩ → 1 ≤ d.bandwidth → d.bandwidth ≤ 100000 → 5 ≤ d.damping → d.damping ≤ 50 → rd rq.payload 6 2 = 0 → 
    Goes (exec (.dpllConfig rq) s) (fun t => t.sel = { s.sel with dpll := d, dpllWritten := true } ∧
      Answered 0x0405 rq (dpllRecord d) s t)) ∧
  (∀ rq s i, runs 0x0406 (withByte 0 0 rq) s = true → (withByte 0 0 rq).payload.length = 16 → rd (withByte 0 0 rq).payload 0 1 = 0 → rd (withByte 0 0 rq).payload 1 7 = 0 → s.sel.st.waitSlot = some i → s.sel.timeSet = none → s.sel.switching = none → 
    Goes (exec (.timeSetMode0 rq) s) (fun t =>
      t.kcp.slots = s.kcp.slots ++ [{ rowCmd 0x0406 (withByte 0 0 rq) s with phase := .waiting }] ∧
      t.sel = { s.sel with timeSet := some (s.kcp.nextId, i) })) ∧
  (∀ rq s size eff, runs 0x0406 (withByte 0 1 rq) s = true → (withByte 0 1 rq).payload.length = 16 → rd (withByte 0 1 rq).payload 0 1 = 1 → rd (withByte 0 1 rq).payload 1 7 = 0 → s.sel.st.selected = none → size = ((rd rq.payload 8 8 : Int) - ftSec s.acc) * 1000000000 * 65536 → eff = markerFor s (s.acc + 2 * ms1) → ftOk (ftAdd eff size) = true → 
    Goes (exec (.timeSetMode1 rq) s) (fun t =>
      t.sel.steps = s.sel.steps ++ [{ size := size, effective := eff, kind := .operator, setsTime := true }] ∧ t.acc = s.acc ∧
      Answered 0x0406 (withByte 0 1 rq) (stepReply size eff) s t)) ∧
  (∀ rq s size eff, runs 0x0407 rq s = true → rq.payload.length = 8 → size = rdI rq.payload 0 8 → size ≠ 0 → size.natAbs ≤ 1000 * 1000000000 * 65536 → s.sel.st.selected = none → eff = markerFor s (s.acc + 2 * ms1) → ftOk (ftAdd eff size) = true → 
    Goes (exec (.timeAdjust rq) s) (fun t =>
      t.sel.steps = s.sel.steps ++ [{ size := size, effective := eff, kind := .operator, setsTime := false }] ∧ t.acc = s.acc ∧
      Answered 0x0407 rq (stepReply size eff) s t)) ∧
  (∀ s p rest, s.sel.steps = p :: rest → p.effective ≤ s.acc → p.kind = .operator → p.size ≠ 0 → ftOk (ftAdd s.acc p.size) = true → ftOk (ftAdd p.effective p.size) = true → 
    Goes (exec .stepEffective s) (fun t => (t.acc : Int) = s.acc + p.size * 65536 ∧ t.sel.steps = rest ∧
      t.sel.guardRun = true ∧ t.sel.guardEnd = s.now + s.sel.policy.wtr * 1000000000 ∧ t.sel.operatorUnbounded = true ∧
      t.sel.st.timeNotSet = (s.sel.st.timeNotSet && !p.setsTime) ∧ t.sel.st.selected = s.sel.st.selected)) ∧
  (∀ s w, s.tan.word = some w → s.sel.st.selected = some 19 → bit w.flags 5 = true → w.step ≠ 0 → s.sel.steps = [] → s.acc + 192 * us1 < w.effective → 
    Goes (exec .stepMirror s) (fun t => t.sel.steps = [{ size := w.step, effective := w.effective, kind := .mirrored, bStep := residue s 19 ((s.slot 19).pts.take 16) w.effective }] ∧
      t.acc = s.acc ∧ t.sel.st.stepAlarms =
      (if w.step.natAbs > s.sel.policy.stepAlarm * 1024 then satInc sat32 s.sel.st.stepAlarms else s.sel.st.stepAlarms))) ∧
  (∀ s, s.sel.settling = true → s.sel.settleEnd ≤ s.now → s.sel.lockEnd ≤ s.now → commitPhase s = false → s.osc.mState = .acquiring → s.sel.st.selected.isSome = true → 
    Goes (exec .settleEnd s) (fun t => t.sel.settling = false ∧ t.osc.mState = .locked ∧ t.bnd.hold = none ∧
      t.bnd.stepTerms = s.bnd.stepTerms.filter (fun x => decide (s.now < x.2)) ∧ (stepAhead s = false → t.sel.uncertainEnd.all (fun e => decide (s.now < e)) = true))) ∧
  (∀ s, s.sel.guardRun = true → s.sel.guardEnd ≤ s.now → 
    Goes (exec .guardExpiry s) (fun t => t.sel = { s.sel with guardRun := false } ∧ guardRuns t = false)) ∧
  (∀ s i, i < 20 → (s.slot i).wtrRun = true → wtrDone s i = true → 
    Goes (exec (.wtrExpiry i) s) (fun t => (t.slot i).wtrRun = false ∧ wtrDone t i = true ∧ (t.slot i).st = (s.slot i).st))

/-- Each of OSC_CONFIG, ENSEMBLE_STATUS, HOLDOVER_MODEL, HOLDOVER_LEARN, HOLDOVER_LEARN_FIT, HOLDOVER_LEARN_DISCARD, MEMBER_JOIN, ENSEMBLE_TEST, LEARNING_SAMPLE, HOLDOVER_FIT, TEMP_READ completes: for every state and operands that meet a clause's conditions, exec answers a next state, the one the clause gives or one with the effects it states. The choices under them are in log entries 24 and 25. -/
def Obligations.HoldoverComplete : Prop :=
  (∀ rq s e, runs 0x0501 rq s = true → rq.payload.length = 16 → rd rq.payload 0 1 = 0xFF → e = ⟨rd rq.payload 1 1, rd rq.payload 2 1, rd rq.payload 3 1, rd rq.payload 4 4, rd rq.payload 8 2, rd rq.payload 10 2⟩ → 10 ≤ e.horizon → e.horizon ≤ 17 → e.i2cSpeed ≤ 1 → 1 ≤ e.rejoin → e.rejoin ≤ 84 → 0x40 ≤ e.spec → e.spec ≤ 0x3D09000 → 1 ≤ e.holdAvg → e.holdAvg ≤ 3600 → e.holdGuard ≤ 600 → rd rq.payload 12 4 = 0 → windowOpen s = true → s.log.fault = false → 
    Goes (exec (.oscConfig rq) s) (fun t => t.osc = { s.osc with ens := e } ∧ Answered 0x0501 rq rq.payload s t)) ∧
  (∀ rq s, runs 0x0502 rq s = true → rq.payload = [] → 
    exec (.ensembleStatus rq) s = .next (replied 0x0502 rq (ensembleStatus s) s)) ∧
  (∀ rq s i, runs 0x0503 rq s = true → rq.payload.length = 72 → i = rd rq.payload 0 1 → i < 4 → rd rq.payload 1 1 < 32 → bit (rd rq.payload 1 1) 3 = true → 0 ≤ rdI rq.payload 16 8 → 0 ≤ rdI rq.payload 32 8 → 0 ≤ rdI rq.payload 48 8 → rd rq.payload 58 6 = 0 → rd rq.payload 64 8 ≤ ftSec s.acc → windowOpen s = true → s.log.fault = false → 
    Goes (exec (.holdoverModel rq) s) (fun t => (t.osci i).inForce = modelParse rq.payload ∧
      (t.osci i).learned = (s.osci i).learned ∧
      Answered 0x0503 rq (modelRecord s i (modelParse rq.payload) (fitAge s (modelParse rq.payload))) s t)) ∧
  (∀ rq s g, runs 0x0504 rq s = true → rq.payload.length = 16 → rd rq.payload 0 1 = 0 → g = ⟨rd rq.payload 1 1, rd rq.payload 2 2, rd rq.payload 4 4⟩ → g.mode ≤ 1 → 1 ≤ g.lookback → g.lookback ≤ 30 → 1 ≤ g.period → g.period ≤ 336 → rd rq.payload 8 8 = 0 → windowOpen s = true → s.log.fault = false → 
    Goes (exec (.holdoverLearn rq) s) (fun t => t.osc = { s.osc with learn := g } ∧ Answered 0x0504 rq (learnRecord t 0) s t)) ∧
  (∀ rq s g, runs 0x0504 (withByte 0 1 rq) s = true → (withByte 0 1 rq).payload.length = 16 → rd (withByte 0 1 rq).payload 0 1 = 1 → g = ⟨rd (withByte 0 1 rq).payload 1 1, rd (withByte 0 1 rq).payload 2 2, rd (withByte 0 1 rq).payload 4 4⟩ → g.mode = s.osc.learn.mode → g.lookback = s.osc.learn.lookback → g.mode ≤ 1 → 1 ≤ g.lookback → g.lookback ≤ 30 → 1 ≤ g.period → g.period ≤ 336 → rd (withByte 0 1 rq).payload 8 8 = 0 → s.osc.mState ≠ .holdover → s.osc.mState ≠ .freeRun → s.sealing.paramFault = false → 
    Goes (exec (.holdoverLearnFit rq) s) (fun t => t.osc = { s.osc with learn := g, fitDemand := true } ∧
      Pending 0x0504 (withByte 0 1 rq) (learnRecord t 1) s t)) ∧
  (∀ rq s, runs 0x0504 (withByte 0 2 rq) s = true → (withByte 0 2 rq).payload.length = 16 → rd (withByte 0 2 rq).payload 0 1 = 2 → rd (withByte 0 2 rq).payload 1 1 ≤ 1 → 1 ≤ rd (withByte 0 2 rq).payload 2 2 → rd (withByte 0 2 rq).payload 2 2 ≤ 30 → 1 ≤ rd (withByte 0 2 rq).payload 4 4 → rd (withByte 0 2 rq).payload 4 4 ≤ 336 → rd (withByte 0 2 rq).payload 8 8 = 0 → windowOpen s = true → s.log.fault = false → 
    Goes (exec (.holdoverLearnDiscard rq) s) (fun t => Answered 0x0504 (withByte 0 2 rq) (learnRecord t 2) s t ∧
      ∀ i ∈ List.range 4, (t.osci i).samples = [] ∧ (t.osci i).inForce = (s.osci i).inForce)) ∧
  (∀ i s t0, i < 4 → (s.osci i).state = .absent → (s.osci i).presentSince = some t0 → t0 + 1000000000 ≤ s.now → 
    Goes (exec (.memberJoin i) s) (fun t => (t.osci i).state = .joining ∧
      (t.osci i).joinEnd = s.now + s.osc.ens.rejoin * 1024 * 1000000000)) ∧
  (∀ s, ftSec s.acc / 1024 ≠ s.osc.test → 
    Goes (exec .ensembleTest s) (fun t => t.osc.test = ftSec s.acc / 1024 ∧
      ∀ i ∈ List.range 4, (t.osci i).eSum = 0 ∧ (t.osci i).eCount = 0)) ∧
  (∀ s, ftSec s.acc / 256 = s.osc.interval + 1 → 
    Goes (exec .learningSample s) (fun t => t.osc.interval = s.osc.interval + 1 ∧
      ∀ i ∈ List.range 4, (t.osci i).ySum = 0 ∧ (t.osci i).yCount = 0 ∧
      ((s.osci i).clean = false → (t.osci i).samples =
      (s.osci i).samples.filter (fun q => decide ((s.osc.interval + 1) * 256 ≤ q.endSec + 30 * 86400))) ∧
      ((s.osci i).clean = true → (s.osci i).yCount ≠ 0 → (t.osci i).samples =
      (⟨(s.osc.interval + 1) * 256, divNearI (s.osci i).ySum (max 1 (s.osci i).yCount),
      if (s.osci i).tCount = 0 then none else some (divNearI (s.osci i).tSum (s.osci i).tCount)⟩ ::
      ((s.osci i).samples.filter (fun q => decide ((s.osc.interval + 1) * 256 ≤ q.endSec + 30 * 86400)))).take 10125))) ∧
  (∀ s, s.osc.mState ≠ .holdover → s.osc.fitDemand = true → 
    Goes (exec .holdoverFit s) (fun t => t.osc.lastFit = some s.now ∧ t.osc.fitDemand = false ∧
      ∀ i ∈ List.range 4, ((s.osci i).inForce.override = true → (t.osci i).inForce = (s.osci i).inForce) ∧
      ((s.osci i).inForce.override = false → (t.osci i).inForce = (t.osci i).learned))) ∧
  (∀ i raw s, i < 4 → readDue s i = true → 
    Goes (exec (.tempRead i raw) s) (fun t =>
      (t.osci i).sensor = sensorRead (s.osci i).sensor (raw.map (convertTemp (s.osci i).cfg.format)) ∧
      t.osc.readSec = ftSec s.acc ∧ t.osc.readNext = i + 1))

/-- Each of BOUND_STATUS, BOUND_PARAMS, SEAL_BREAK_OPEN, SEAL_CLOSE, LOG_READ, METROLOGY_ID, SEAL_PRESS, ARMED_EXPIRY, VERIFY_PRESS, PRESS_STUCK, INPUT_RELEASED, SMB_ALERT_ACKNOWLEDGE, SEAL_WINDOW_TIMEOUT, LOG_WRITE, LOG_FLUSH completes: for every state and operands that meet a clause's conditions, exec answers a next state, the one the clause gives or one with the effects it states. The choices under them are in log entry 26. -/
def Obligations.BoundSealLogComplete : Prop :=
  (∀ rq s, runs 0x0601 rq s = true → rq.payload = [] → 
    exec (.boundStatus rq) s = .next (replied 0x0601 rq (boundStatus s) s)) ∧
  (∀ rq s, runs 0x0602 rq s = true → rq.payload.length = 16 → rd rq.payload 0 4 ≤ 0x3D09000 → rd rq.payload 4 4 = 0 → 0 ≤ rdI rq.payload 8 8 → rdI rq.payload 8 8 ≤ 281474977 → windowOpen s = true → s.log.fault = false → 
    Goes (exec (.boundParams rq) s) (fun t => t.bnd = { s.bnd with cfg := ⟨rd rq.payload 0 4, rdI rq.payload 8 8⟩ } ∧
      Answered 0x0602 rq rq.payload s t)) ∧
  (∀ rq s, runs 0x0603 rq s = true → rq.payload = [] → armed s = true → windowOpen s = false → sealCount s < sat32 → s.log.fault = false → s.log.refuses = false → 
    Goes (exec (.sealBreakOpen rq) s) (fun t => t.sealing.windowAt = some s.now ∧ sealCount t = sealCount s + 1 ∧
      (t.log.entries.head?.map (fun e => (e.type, e.value))) = some (0x01, sealCount t) ∧ Answered 0x0603 rq (sealReply t) s t)) ∧
  (∀ rq s, runs 0x0604 rq s = true → rq.payload = [] → windowOpen s = true → s.log.fault = false → s.log.refuses = false → 
    Goes (exec (.sealClose rq) s) (fun t => windowOpen t = false ∧ sealCount t = sealCount s ∧
      (t.log.entries.head?.map (fun e => (e.type, e.detail, e.value))) = some (0x02, 0, leVal ((sealedDigest s).take 8)) ∧
      Answered 0x0604 rq (sealReply t) s t)) ∧
  (∀ rq s, runs 0x0605 rq s = true → rq.payload.length = 8 → logOldest s ≤ rd rq.payload 0 4 → rd rq.payload 0 4 ≤ logNewest s → 1 ≤ rd rq.payload 4 2 → rd rq.payload 4 2 ≤ 125 → rd rq.payload 6 1 = 0 → rd rq.payload 7 1 = 0 → 
    exec (.logRead rq) s = .next (replied 0x0605 rq (le 4 (logOldest s) ++ le 4 (logNewest s) ++
      le 2 ((((s.log.entries.filter (fun e => decide (rd rq.payload 0 4 ≤ e.seq))).reverse).take (rd rq.payload 4 2))).length ++
      le 1 (flag 0 (logNearWrap s) + flag 1 s.log.fault) ++ zeros 5 ++ priorHash s (rd rq.payload 0 4) ++
      (((s.log.entries.filter (fun e => decide (rd rq.payload 0 4 ≤ e.seq))).reverse).take (rd rq.payload 4 2)).flatMap
      logEntryBytes) s)) ∧
  (∀ rq s, runs 0x0606 rq s = true → rq.payload = [] → (if fromHost rq.src then s.sealing.latchHost else s.sealing.latchSb) = false → 
    exec (.metrologyId rq) s = .next (replied 0x0606 rq (metrologyId s false) s)) ∧
  (∀ s, s.sealing.sealN.released = true → s.sealing.sealN.counted = false → s.sealing.sealN.stuck = false → 
    Goes (exec .sealPress s) (fun t => t.sealing.armedUntil = some (s.now + 60000000000) ∧ t.sealing.sealN.counted = true ∧
      t.sealing.low = s.sealing.low ∧ t.log = s.log)) ∧
  (∀ s a, s.sealing.armedUntil = some a → a ≤ s.now → 
    Goes (exec .armedExpiry s) (fun t => armed t = false ∧ t.sealing.windowAt = s.sealing.windowAt)) ∧
  (∀ s, s.sealing.verifyN.released = true → s.sealing.verifyN.counted = false → s.sealing.verifyN.stuck = false → 
    Goes (exec .verifyPress s) (fun t => t.sealing.latch = some (metrologyId s true) ∧ t.sealing.latchHost = true ∧
      t.sealing.latchSb = true ∧ t.sealing.smbAlert = true ∧ t.sealing.verifyN.counted = true ∧
      t.irqG 1 = arrival s.now (s.irqG 1) 1)) ∧
  (∀ verify s x t0, x = (if verify then s.sealing.verifyN else s.sealing.sealN) → x.lowSince = some t0 → t0 + 30000000000 ≤ s.now → 
    Goes (exec (.pressStuck verify) s) (fun t =>
      (if verify then t.sealing.verifyN else t.sealing.sealN) = { x with stuck := true, released := false } ∧
      bit (t.flt 0).cond (if verify then 9 else 10) = true ∧ bit (t.flt 0).status (if verify then 9 else 10) = true)) ∧
  (∀ verify s, 
    Goes (exec (.inputReleased verify) s) (fun t =>
      (if verify then t.sealing.verifyN else t.sealing.sealN) = { released := true, lowSince := none } ∧
      bit (t.flt 0).cond (if verify then 9 else 10) = false ∧ (t.flt 0).status = (s.flt 0).status)) ∧
  (∀ s, 
    Goes (exec .smbAlertAcknowledge s) (fun t => t.sealing = { s.sealing with smbAlert := false })) ∧
  (∀ s t0, s.sealing.windowAt = some t0 → t0 + 1800000000000 ≤ s.now → s.log.fault = false → s.log.refuses = false → 
    Goes (exec .sealWindowTimeout s) (fun t => windowOpen t = false ∧
      (t.log.entries.head?.map (fun e => (e.type, e.detail))) = some (0x02, 1))) ∧
  (∀ type detail id value s, s.log.fault = false → 
    Goes (exec (.logWrite type detail id value true) s) (fun t =>
      (t.log.entries.head?.map (fun e => (e.type, e.detail, e.id, e.timeUs, e.value))) = some (type, detail, id, ftUs s.acc, value) ∧
      t.log.head = t.log.entries.head?.map (·.hash) ∧ t.log.fault = false)) ∧
  (∀ s, s.log.fault = true → 
    Goes (exec (.logFlush true) s) (fun t => t.log.fault = false ∧ t.log.queue = [] ∧ bit (t.flt 0).cond 5 = false ∧
      t.log = s.log.queue.foldl logWrite { s.log with fault := false, queue := [], refuses := false }))

/-- Each of COMPUTATION, TIME_BUS_FRAME, FRAME_RECEIVE, CLAIM_WORD, SLOT_MEASUREMENT_REPORT, FAULT_REPLICA_UPDATE, SEALED_PORT_FIELDS completes: for every state and operands that meet a clause's conditions, exec answers a next state, the one the clause gives or one with the effects it states. The choices under them are in log entries 15 and 23. -/
def Obligations.ComputationAndBusComplete : Prop :=
  (∀ d s, computing s = true → s.sel.steps = [] → s.bnd.nextComp ≤ s.acc → 
    Goes (exec (.computation d) s) (fun t => t.tim.tb.tempM = d ∧ t.bnd.computations = s.bnd.computations + 1 ∧ t.acc = s.acc ∧
      s.bnd.nextComp < t.bnd.nextComp ∧ -rateClamp ≤ t.osc.rate ∧ t.osc.rate ≤ rateClamp ∧ t.bnd.clockClass = clockClassOf t)) ∧
  (∀ s, computing s = true → s.bus.nextMarker ≤ s.acc → 
    Goes (exec .timeBusFrame s) (fun t => t.bus.sent = frameAt s (markerNow s) ∧ t.bus.nextMarker = markerNow s + us1 ∧
      t.bus.frames = s.bus.frames + 1 ∧ t.bus.newSticky = false ∧ t.bus.newViolation = false ∧ t.bus.newLog = false)) ∧
  (∀ die e s w, die < 5 → s.bus.frames ≠ 0 → frameWaits s die = true → w = frameWord s.bus.sent ^^^ (e % 2 ^ 1000) → frameOk w = true → 
    Goes (exec (.frameReceive die (some e)) s) (fun t => (t.replica die).frame = decodeFrame w ∧
      (t.replica die).at_ = s.bus.sentEdge + (decodeFrame w).phase ∧
      (t.replica die).anyGood = true ∧ (t.replica die).missed = 0 ∧
      (t.replica die).goodRun = min 1000 ((s.replica die).goodRun + 1) ∧
      (t.replica die).inLoss = ((s.replica die).inLoss && decide ((s.replica die).goodRun + 1 < 1000)))) ∧
  (∀ tile e s c n, tile < 4 → goodClaim (s.claimPath tile) (claimWordOf (claimSent s) s.bus.claimCount ^^^ (e % 2 ^ 20)) = some (c, n) → 
    Goes (exec (.claimWord tile (some e)) s) (fun t => (t.claimPath tile).claim = c ∧ (t.claimPath tile).count = some n ∧
      (t.claimPath tile).prevClaim = (s.claimPath tile).claim ∧ (t.claimPath tile).missed = 0)) ∧
  (∀ slot up l z s, 9 ≤ slot → slot < 20 → l = (s.bus.gathered.filter (reportable slot up)).map (fun g => g.2) → l.getLast? = some z → 
    Goes (exec (.slotMeasurementReport slot up) s) (fun t => t.bus.reports = s.bus.reports.filter (fun q => q.slot != slot) ++
      [⟨slot, l.length, divNearI (l.map (·.phase)).sum l.length, l.drop (l.length - 16), z.hops, z.originId⟩] ∧
      t.bus.gathered = s.bus.gathered.filter (fun g => !reportable slot up g))) ∧
  (∀ s, 
    Goes (exec .faultReplicaUpdate s) (fun t => t.regs.replica = (s.flt 0).status ∧ t.regs.flt = s.regs.flt)) ∧
  (∀ s, 
    Goes (exec .sealedPortFields s) (fun t => t.bus.portCopies = portSealedFields s ∧ t.fur = s.fur ∧ t.eth = s.eth))

/-- Each of FUR_PORT_CONFIG, FUR_PORT_STATUS, FUR_RATE_POLICY, FUR_CALIBRATE, FUR_MAILBOX_SEND, FUR_MAILBOX_RECV, FUR_BULK_STATUS, CAL_RUN_START, CAL_MEASUREMENT, CAL_RUN_END, CAL_APPLY, STATUS_ARRAY_REWRITE completes: for every state and operands that meet a clause's conditions, exec answers a next state, the one the clause gives or one with the effects it states. The choices under them are in log entry 28. -/
def Obligations.FurrowCommandsAndCalibrationComplete : Prop :=
  (∀ rq s p n, runs 0x0701 rq s = true → rq.payload.length = 64 → p = rd rq.payload 0 2 → p < 1024 → n = furNorm p (furParse rq.payload) → firstBad (furChecks s p rq.payload) = none → (s.port p).st.state ≠ .disabled → n.leaf = (furCfgOf s p).leaf → n.enable = (furCfgOf s p).enable → windowOpen s = true → s.log.fault = false → 
    Goes (exec (.furPortConfig rq) s) (fun t => t.port p = { s.port p with cfgNext := some n } ∧
      Answered 0x0701 rq (furRecordOf p n) s t)) ∧
  (∀ rq s p, runs 0x0702 rq s = true → rq.payload.length = 4 → p = rd rq.payload 0 2 → p < 1024 → rd rq.payload 2 1 = 0 → rd rq.payload 3 1 = 0 → 
    exec (.furPortStatus rq) s = .next (replied 0x0702 rq (furArray s p ++ interpRecord s p ++ le 4 (s.port p).mb.delivered ++
      le 4 (s.port p).mb.messages ++ le 4 (s.port p).mb.discards ++ le 4 (s.port p).cal.rejects) s)) ∧
  (∀ rq s first n, runs 0x0703 rq s = true → rq.payload.length = 8 → first = rd rq.payload 0 2 → n = rd rq.payload 2 2 → 1 ≤ n → n ≤ 1024 → first + n ≤ 1024 → rd rq.payload 4 1 ≤ 1 → rd rq.payload 5 1 = 1 → rd rq.payload 6 2 = 0 → (∀ p ∈ portRange first n, sends (s.port p).st.state = false ∨ (s.port p).cfg.leaf = true) → 
    Goes (exec (.furRatePolicy rq) s) (fun t => Answered 0x0703 rq (policyBytes t first n) s t ∧
      ∀ p ∈ portRange first n, (t.port p).floor = rd rq.payload 4 1 ∧ (t.port p).ceiling = 1)) ∧
  (∀ rq s p, runs 0x0704 rq s = true → rq.payload.length = 8 → p = rd rq.payload 0 2 → p < 1024 → rd rq.payload 2 2 = 1 → rd rq.payload 4 1 = 0 → rd rq.payload 5 3 = 0 → (s.port p).st.state ≠ .disabled → (s.port p).st.state ≠ .cal → (s.port p).cal.running = false → 
    Goes (exec (.furCalibrate rq) s) (fun t => t.port p = startRun s.now false (s.port p) ∧ Pending 0x0704 rq [] s t)) ∧
  (∀ rq s p d l, runs 0x0705 rq s = true → 8 < rq.payload.length → p = rd rq.payload 0 2 → d = rq.payload.drop 8 → rd rq.payload 4 2 = d.length → p < 1024 → rd rq.payload 2 1 ≤ 15 → rd rq.payload 3 1 = 0 → d.length ≤ 1984 → rd rq.payload 6 2 = 0 → (s.port p).st.state ≠ .disabled → (s.port p).ceiling ≠ 0 → (s.port p).mb.txLens.length < 4 → poolUsed s + units d.length ≤ 2048 → l = cutMessage (mbChunk (s.port p).cfg.mbMax) (d.length + 1) (rd rq.payload 2 1) (s.port p).mb.txSeq true true d → 
    Goes (exec (.furMailboxSend rq) s) (fun t => (t.port p).mb = { (s.port p).mb with tx := (s.port p).mb.tx ++ l, txLens := (s.port p).mb.txLens ++ [d.length], txSeq := ((s.port p).mb.txSeq + l.length) % 65536 } ∧
      Answered 0x0705 rq (le 4 (3 - (s.port p).mb.txLens.length)) s t)) ∧
  (∀ rq s p m rest, runs 0x0706 rq s = true → rq.payload.length = 4 → p = rd rq.payload 0 2 → p < 1024 → rd rq.payload 2 2 = 0 → (s.port p).st.state ≠ .disabled → (s.port p).mb.rx = m :: rest → 
    Goes (exec (.furMailboxRecv rq) s) (fun t => (t.port p).mb = { (s.port p).mb with rx := rest } ∧
      Answered 0x0706 rq (le 1 m.channel ++ le 1 (flag 0 (decide (rest ≠ []))) ++ le 2 m.data.length ++ m.data) s t)) ∧
  (∀ rq s first n, runs 0x0707 rq s = true → rq.payload.length = 4 → first = rd rq.payload 0 2 → n = rd rq.payload 2 2 → 1 ≤ n → n ≤ 256 → first + n ≤ 1024 → 
    exec (.furBulkStatus rq) s = .next (replied 0x0707 rq ((portRange first n).flatMap (bulkRecord s)) s)) ∧
  (∀ p s, p < 1024 → inService (s.port p).st.state = true → (s.port p).cal.running = false → (s.port p).cal.startedAt + (s.port p).cfg.calPeriod * 1000000000 ≤ s.now → 
    Goes (exec (.calRunStart p) s) (fun t => t.port p = startRun s.now false (s.port p))) ∧
  (∀ p d s, p < 1024 → (s.port p).cal.running = true → (s.port p).cal.meas.length < 16 → (s.port p).cfg.leaf = false → (s.paux p).calDue = true → 
    Goes (exec (.calMeasurement p d) s) (fun t => (t.port p).cal.meas = (s.port p).cal.meas ++ [d] ∧ (t.paux p).calDue = false)) ∧
  (∀ p s m, p < 1024 → (s.port p).cal.running = true → (s.port p).cal.initial = true → (s.port p).st.state = .cal → (s.port p).cal.meas.length = 16 → m = (s.port p).cal.meas → (∀ k ∈ List.range 4, calTight (calQuantity m k) = true) → 
    Goes (exec (.calRunEnd p) s) (fun t => (t.port p).cal.full = some ⟨calMean (calQuantity m 0), calMean (calQuantity m 2)⟩ ∧
      (t.port p).cal.lean = some ⟨calMean (calQuantity m 1), calMean (calQuantity m 3)⟩ ∧ (t.port p).cal.running = false ∧
      (t.port p).st.state = (if (s.port p).cfg.leaf then .listen else .searching))) ∧
  (∀ p s a, p < 1024 → (s.port p).cal.waiting = some a → 
    Goes (exec (.calApply p) s) (fun t => (t.port p).cal.full = some a.1 ∧ (t.port p).cal.lean = some a.2 ∧
      (t.port p).cal.waiting = none)) ∧
  (∀ s, (s.replica 1).anyGood = true → replicaTime s 1 / ms1 ≠ s.fur.rewriteMs → 
    Goes (exec .statusArrayRewrite s) (fun t => t.fur.upd = (s.fur.upd + 1) % 16 ∧ t.fur.ports = s.fur.ports ∧
      ∀ p ∈ List.range 1024, furArray t p = furStatus s p ((s.fur.upd + 1) % 16)))

/-- Each of BOUT_EPOCH, BURST_BUILD, DOWNSTREAM_BURST, UPSTREAM_LAUNCH, UPSTREAM_BURST, LEAF_DECISION, SEARCH_TIMEOUT, LISTEN_TIMEOUT, LEAN_AFTER_IDLE, MAILBOX_TLV, MAILBOX_RESEND completes: for every state and operands that meet a clause's conditions, exec answers a next state, the one the clause gives or one with the effects it states. The choices under them are in log entry 27. -/
def Obligations.FurrowBoutsComplete : Prop :=
  (∀ p s e at_ b, p < 1024 → epochDue s p = some (e, at_) → sends (s.port p).st.state = true → (s.port p).cfg.leaf = false → (s.port p).cfgNext = none → isDark s p e = false → (s.port p).built = some b → b.epoch = e → (s.port p).cal.waiting = none → (s.pk p).nextIdx = [] → 
    Goes (exec (.boutEpoch p) s) (fun t => (t.port p).sent = some (withBytes s p (burstKey s p b) b) ∧ (t.port p).built = none ∧
      (t.port p).lastEpoch = some e ∧ (t.port p).lastBout = b.bout ∧ (t.port p).bout = ((s.port p).bout + 1) % 2 ^ 48)) ∧
  (∀ p s, p < 1024 → ((boundary p s).port p).cfg.leaf = false → sends ((boundary p s).port p).st.state = true → (nextEpoch s (portDie p) ((boundary p s).port p).cfg.period).2.1 ≤ us1 → (s.port p).built.map (·.epoch) ≠ some (nextEpoch s (portDie p) ((boundary p s).port p).cfg.period).1 → servable ((nextEpoch s (portDie p) ((boundary p s).port p).cfg.period).1 * us1) = true → 
    Goes (exec (.burstBuild p) s) (fun t => ∀ v ∈ [boundary p s],
      (t.port p).built.map (fun b => (b.epoch, b.bout, b.lean, b.bound, b.turn)) =
      some ((nextEpoch s (portDie p) (v.port p).cfg.period).1, (v.port p).bout, (v.port p).st.lean,
      burstBound v p (v.port p).st.lean, turnSym (v.port p).cfg (v.port p).st.lean (mbMaxOf (v.port p) (v.port p).st.lean)) ∧
      (t.port p).sent = (s.port p).sent)) ∧
  (∀ p b f s l, p < 1024 → (s.port p).cfg.leaf = true → (s.port p).st.state = .listen → lineFrame b.lean false (sdMax b.lean (if b.lean then 0 else (s.port p).cfg.mbMax)) b.groups = some f → frontChecks f 1 48 (linkIdOf s p) = none → fresh (s.port p).last (rdBe f 2 6) = true → frameTlvs f 48 = some l → 
    Goes (exec (.downstreamBurst p b) s) (fun t => if tagOk (linkKey s p (rd f 11 1)) f then
      (t.port p).last = some (rdBe f 2 6) ∧ (t.port p).err = (s.port p).err ∧ (t.port p).rx.map (·.ok) = some true
      else (t.port p).last = (s.port p).last ∧ (t.port p).err.auth = satInc sat16 (s.port p).err.auth ∧
      (t.port p).rx.map (·.ok) = some false)) ∧
  (∀ p s r, p < 1024 → (s.port p).cfg.leaf = true → (s.port p).rx = some r → r.launched = false → r.skip = false → r.answered = true → (s.port p).st.state ≠ .disabled → 
    Goes (exec (.upstreamLaunch p) s) (fun t => (t.port p).rx = some { r with launched := true } ∧
      (t.port p).lastBout = r.bout ∧ (t.paux p).prevAuthFail = !r.ok ∧ (t.paux p).prevMissed = false ∧
      (t.paux p).turnUsed = satI (divTrunc (upEdge s p r - r.arr) 65536) ∧ (t.port p).leaf.turn = (t.paux p).turnUsed)) ∧
  (∀ p b f s d l, p < 1024 → (s.port p).sent = some d → (s.port p).cfg.leaf = false → d.skip = false → lineFrame b.lean true (suMax d.lean (mbMaxOf (s.port p) d.lean)) b.groups = some f → frontChecks f 2 40 (linkIdOf s p) = none → rdBe f 2 6 = d.bout → frameTlvs f 40 = some l → 
    Goes (exec (.upstreamBurst p b) s) (fun t => if tagOk (linkKey s p d.keyIndex) f then
      (t.port p).sent = none ∧ (t.port p).leaf.state = rd f 8 1 ∧ (t.port p).leaf.turn = rdBeI f 20 8
      else (t.port p).sent = some d ∧ (t.port p).err.auth = satInc sat16 (s.port p).err.auth)) ∧
  (∀ a b s x y, a < 1024 → b < 1024 → a ≠ b → (s.port a).cfg.leaf = true → (s.port b).cfg.leaf = true → (s.port a).cfg.slot = (s.port b).cfg.slot → (s.port a).rx = some x → (s.port b).rx = some y → x.decided = false → y.decided = false → x.time = y.time → takeable x = true → takeable y = true → y.claim < x.claim → 
    Goes (exec (.leafDecision a b) s) (fun t => (t.paux a).acceptedLink = true ∧ (t.paux b).acceptedLink = false ∧
      (t.port a).accepted = x.claim ∧ (t.port b).accepted = x.claim ∧ (t.port a).sampled = true ∧
      (t.port b).rx = some { y with decided := true })) ∧
  (∀ p s, p < 1024 → ((s.port p).st.state = .serving ∨ (s.port p).st.state = .ranging) → 256 ≤ (s.port p).noSample → 
    Goes (exec (.searchTimeout p) s) (fun t => (t.port p).st.state = .searching ∧ (t.port p).st.delay = none ∧
      (t.port p).filter = [])) ∧
  (∀ p s, p < 1024 → (s.port p).st.state = .tracking → 1024 ≤ (s.port p).noAccept → 
    Goes (exec (.listenTimeout p) s) (fun t => (t.port p).st.state = .listen ∧ (t.port p).st.delay = none ∧
      (t.port p).st.bound = (s.port p).st.bound)) ∧
  (∀ p s, p < 1024 → (s.port p).cfg.leaf = false → sends (s.port p).st.state = true → 4096 ≤ (s.port p).idle → (s.port p).traffic = false → mbTraffic (s.port p) = false → 
    Goes (exec (.leanAfterIdle p) s) (fun t => (t.port p).wantLean = true ∧ (t.port p).mb = (s.port p).mb)) ∧
  (∀ p ch seq d s, p < 1024 → (s.port p).st.state ≠ .disabled → seq = (match (s.port p).mb.rxSeq with | some q => (q + 1) % 65536 | none => 0) → (s.port p).mb.rx.length < 4 → poolUsed s < 2048 → (s.port p).mb.asm = none → d.length ≤ 1984 → 
    Goes (exec (.mailboxTlv p ch 3 seq d) s) (fun t => (t.port p).mb.rx = (s.port p).mb.rx ++ [⟨ch, d⟩] ∧
      (t.port p).mb.rxSeq = some seq ∧ (t.port p).mb.ackDue = true ∧
      t.irqG (5 + p / 256) = arrival s.now (s.irqG (5 + p / 256)) (p % 256))) ∧
  (∀ p s q n rest, p < 1024 → (s.port p).mb.tx = q :: rest → q.sent = some n → 8 ≤ ((s.port p).lastBout + 2 ^ 48 - n) % 2 ^ 48 → 
    Goes (exec (.mailboxResend p) s) (fun t => (t.port p).mb.tx = (s.port p).mb.tx.map (fun q => { q with sent := none })))

/-- Each of ETH_PORT_CONFIG, ETH_PORT_STATUS, ETH_TAG_CONFIG, ETH_PAUSE_CONFIG, ETH_ASYM_CAL, LOOP_MEASURE, LOOP_RESULT_READ, ETH_LINK_UP, ETH_LINK_DOWN, AUTO_NEGOTIATION, LPI_RECEIVED, PAUSE_FRAME, PAUSE_EXPIRY, PAUSE_WDOG, PAUSE_IGNORE_EXIT, PHASE_SAMPLE, LOOP_MEASURE_END completes: for every state and operands that meet a clause's conditions, exec answers a next state, the one the clause gives or one with the effects it states. Frames end and links change as log entry 4 says. -/
def Obligations.EthernetComplete : Prop :=
  (∀ rq s p, runs 0x0801 rq s = true → rq.payload.length = 16 → p = rd rq.payload 0 1 → p < 16 → rd rq.payload 1 1 < 8 → bit (rd rq.payload 1 1) 0 = true → bit (s.ethP p).cfg.flags 0 = false → rd rq.payload 2 1 ≤ 3 → rd rq.payload 3 1 ≤ 1 → 1518 ≤ rd rq.payload 4 2 → rd rq.payload 4 2 ≤ 9216 → rd rq.payload 6 2 = 0 → bit (rd rq.payload 8 1) 0 = false → rd rq.payload 14 2 = 0 → (ethLoop s p).depth = 0 → (s.flt 5).safe = 0 → 
    Goes (exec (.ethPortConfig rq) s) (fun t => (t.ethP p).cfg = ethParse s p rq.payload ∧ (t.ethP p).state = 1 ∧
      (t.ethP p).ups = 0 ∧ (t.interp (1024 + p)).enabled = true ∧ Answered 0x0801 rq (ethRecord t p) s t)) ∧
  (∀ rq s p, runs 0x0802 rq s = true → rq.payload.length = 2 → p = rd rq.payload 0 1 → p < 16 → rd rq.payload 1 1 = 0 → 
    exec (.ethPortStatus rq) s = .next (replied 0x0802 rq (ethStatus s p) s)) ∧
  (∀ rq s g, runs 0x0803 rq s = true → rq.payload.length = 12 → rd rq.payload 0 1 < 16 → rd rq.payload 1 1 ≤ 10 → g = ⟨rd rq.payload 2 1, rd rq.payload 3 1, rd rq.payload 4 2, rd rq.payload 6 2⟩ → g.mode ≤ 3 → g.pcp ≤ 7 → g.cvid ≤ 4094 → g.svid ≤ 4094 → rd rq.payload 8 4 = 0 → 
    Goes (exec (.ethTagConfig rq) s) (fun t => tget {} (t.ethP (rd rq.payload 0 1)).tags (rd rq.payload 1 1) = g ∧
      Answered 0x0803 rq (tagRecord t (rd rq.payload 0 1) (rd rq.payload 1 1)) s t)) ∧
  (∀ rq s p, runs 0x0804 rq s = true → rq.payload.length = 8 → p = rd rq.payload 0 1 → p < 16 → rd rq.payload 1 1 < 4 → rd rq.payload 2 2 = 0 → 100 ≤ rd rq.payload 4 4 → rd rq.payload 4 4 ≤ 1000000 → rd rq.payload 4 4 % 10 = 0 → 
    Goes (exec (.ethPauseConfig rq) s) (fun t => (t.ethP p).pause = ⟨rd rq.payload 1 1, rd rq.payload 4 4⟩ ∧
      Answered 0x0804 rq (pauseRecord t p) s t)) ∧
  (∀ rq s p row g, runs 0x0805 rq s = true → rq.payload.length = 48 → rd rq.payload 0 1 = 1 → p = rd rq.payload 1 1 → p < 16 → rd rq.payload 2 1 ≤ 3 → rd rq.payload 3 1 ≤ 1 → fecFits (rd rq.payload 2 1) (rd rq.payload 3 1) = true → row = 2 * rd rq.payload 2 1 + rd rq.payload 3 1 → g = ⟨rd rq.payload 4 4, rdI rq.payload 8 8, rdI rq.payload 16 8⟩ → g.unc ≤ 0xFA00 → 0 ≤ g.boardTx → g.boardTx ≤ 6553600 → 0 ≤ g.boardRx → g.boardRx ≤ 6553600 → -65536000 ≤ rdI rq.payload 24 8 → rdI rq.payload 24 8 ≤ 65536000 → rd rq.payload 40 8 = 0 → windowOpen s = true → s.log.fault = false → 
    Goes (exec (.ethAsymCal rq) s) (fun t => tget {} (t.ethP p).rows row = g ∧ (t.ethP p).linkAsym = rdI rq.payload 24 8 ∧
      Answered 0x0805 rq (asymRecord t 1 p row) s t)) ∧
  (∀ rq s p, runs 0x0805 (withByte 0 2 rq) s = true → (withByte 0 2 rq).payload.length = 48 → rd (withByte 0 2 rq).payload 0 1 = 2 → p = rd (withByte 0 2 rq).payload 1 1 → p < 16 → rd (withByte 0 2 rq).payload 2 1 ≤ 3 → rd (withByte 0 2 rq).payload 3 1 ≤ 1 → fecFits (rd (withByte 0 2 rq).payload 2 1) (rd (withByte 0 2 rq).payload 3 1) = true → 0 ≤ rdI (withByte 0 2 rq).payload 32 8 → rdI (withByte 0 2 rq).payload 32 8 ≤ 6553600000 → rd (withByte 0 2 rq).payload 40 8 = 0 → portServes s p = false → (s.ethP p).state = 3 → (s.ethP p).lm.running = false → 
    Goes (exec (.loopMeasure rq) s) (fun t => Pending 0x0805 (withByte 0 2 rq) [] s t ∧ (t.ethP p).lm =
      { (s.ethP p).lm with running := true, delay := rdI (withByte 0 2 rq).payload 32 8, startAt := s.now })) ∧
  (∀ rq s, runs 0x0805 (withByte 0 3 rq) s = true → (withByte 0 3 rq).payload.length = 48 → rd (withByte 0 3 rq).payload 0 1 = 3 → rd (withByte 0 3 rq).payload 1 1 < 16 → rd (withByte 0 3 rq).payload 2 1 ≤ 3 → rd (withByte 0 3 rq).payload 3 1 ≤ 1 → fecFits (rd (withByte 0 3 rq).payload 2 1) (rd (withByte 0 3 rq).payload 3 1) = true → 
    exec (.loopResultRead rq) s =
      .next (replied 0x0805 (withByte 0 3 rq) (loopRecord s (rd (withByte 0 3 rq).payload 1 1)) s)) ∧
  (∀ p a b s, p < 16 → (((s.ethP p).state = 1 ∧ bit (s.ethP p).cfg.flags 1 = false) ∨ (s.ethP p).state = 2) → 
    Goes (exec (.ethLinkUp p a b) s) (fun t => (t.ethP p).state = 3 ∧ (t.ethP p).alignRx = a ∧ (t.ethP p).alignTx = b ∧
      (t.ethP p).ups = satInc sat32 (s.ethP p).ups ∧ (t.ethP p).rowUsed = tget {} (s.ethP p).rows (rowOf (s.ethP p).cfg))) ∧
  (∀ p s, p < 16 → 2 ≤ (s.ethP p).state → 
    Goes (exec (.ethLinkDown p) s) (fun t => (t.ethP p).state = 1 ∧ (t.ethP p).committedQ = [] ∧ (t.ethP p).lm.running = false)) ∧
  (∀ p s, p < 16 → (s.ethP p).state = 1 → bit (s.ethP p).cfg.flags 1 = true → 
    Goes (exec (.autoNegotiation p (some ((s.ethP p).cfg.rate, fecOn (s.ethP p).cfg))) s) (fun t =>
      (t.ethP p).state = 2 ∧ (t.ethP p).anDone = true)) ∧
  (∀ p s, p < 16 → (s.ethP p).state = 3 → 
    Goes (exec (.lpiReceived p) s) (fun t => (t.ethP p).lpiSeen = true ∧ (t.ethP p).lpiUntil = s.now + 100000)) ∧
  (∀ p en quanta s q, p < 16 → q < 8 → (s.ethP p).state = 3 → (s.ethP p).lpiUntil ≤ s.now → (s.ethP p).pauseIgnore = false → bit (s.ethP p).pause.flags 0 = true → quanta.getD 0 0 % 65536 ≠ 0 → 
    Goes (exec (.pauseFrame p false en quanta) s) (fun t =>
      tget 0 (t.ethP p).pausedUntil q = s.now + divUp (quanta.getD 0 0 % 65536 * 64 * wirePs (s.ethP p).cfg.rate) 1000 ∧
      (t.ethP p).pauseRx = satInc sat32 (s.ethP p).pauseRx ∧ (t.ethP p).lastFlow = s.now)) ∧
  (∀ p q s, p < 16 → q < 8 → tget 0 (s.ethP p).pausedUntil q ≠ 0 → tget 0 (s.ethP p).pausedUntil q ≤ s.now → 
    Goes (exec (.pauseExpiry p q) s) (fun t => tget 0 (t.ethP p).pausedUntil q = 0 ∧ tget 0 (t.ethP p).pausedSince q = 0)) ∧
  (∀ p q s, p < 16 → q < 8 → paused s (s.ethP p) q = true → tget 0 (s.ethP p).pausedSince q + (s.ethP p).pause.wdog * 1000 ≤ s.now → 
    Goes (exec (.pauseWdog p) s) (fun t => (t.ethP p).pauseIgnore = true ∧
      (t.ethP p).wdogTrips = satInc sat32 (s.ethP p).wdogTrips ∧ bit (t.flt 5).status (16 + p) = true ∧
      ∀ k ∈ List.range 8, tget 0 (t.ethP p).pausedUntil k = 0)) ∧
  (∀ p s, p < 16 → (s.ethP p).pauseIgnore = true → (s.ethP p).lastFlow + 10000000 ≤ s.now → 
    Goes (exec (.pauseIgnoreExit p) s) (fun t => t.ethP p = { s.ethP p with pauseIgnore := false })) ∧
  (∀ p s, p < 16 → (s.ethP p).state ≠ 0 → 
    Goes (exec (.phaseSample p true true) s) (fun t => t.ethP p = { s.ethP p with txSampleAt := some s.now })) ∧
  (∀ p l s, p < 16 → (s.ethP p).lm.running = true → (s.ethP p).lm.startAt + 40960000 ≤ s.now → l.length = 4096 → 0 < (l.filterMap id).length → 
    Goes (exec (.loopMeasureEnd p l) s) (fun t => (t.ethP p).lm.running = false ∧
      (t.ethP p).lm.frames = (l.filterMap id).length ∧
      (t.ethP p).lm.mean = divNearI (l.filterMap id).sum (l.filterMap id).length ∧
      (t.ethP p).lm.residual = (t.ethP p).lm.mean - (s.ethP p).lm.delay))

/-- Each of SVC_PROFILE, SVC_DOMAIN, SVC_CLIENT_ADD, SVC_CLIENT_REMOVE, SVC_CLIENT_QUERY, SVC_LIMITS, UPSTREAM_CONFIG completes: for every state and operands that meet a clause's conditions, exec answers a next state, the one the clause gives or one with the effects it states. The places of the two candidate sets are the model's uninterpreted hash (log entry 11). -/
def Obligations.PacketServiceCommandsComplete : Prop :=
  (∀ rq s p, runs 0x0901 rq s = true → rq.payload.length = 32 → p = rd rq.payload 0 1 → p < 16 → rd rq.payload 1 1 < 64 → ((bit (rd rq.payload 1 1) 2 = true → bit (rd rq.payload 1 1) 1 = true)) → rd rq.payload 2 2 < 4096 → rd rq.payload 4 1 < 224 → rd rq.payload 8 1 ≤ 10 → rd rq.payload 9 1 = 0 → macOk rq.payload 10 = true → rd rq.payload 16 1 ≠ 0xFF → loopHeld s (2 ^ p) = false → 
    Goes (exec (.svcProfile rq) s) (fun t => (t.prof p).cfg = ⟨rd rq.payload 1 1, rd rq.payload 2 2, rdBe rq.payload 4 4,
      rd rq.payload 8 1, rdBe rq.payload 10 6, rdBe rq.payload 16 16⟩ ∧ Answered 0x0901 rq (profReply t p) s t)) ∧
  (∀ rq s d, runs 0x0902 rq s = true → rq.payload.length = 32 → d = rd rq.payload 0 1 → d < 8 → (domChecks rq.payload).all (·.2) = true → bit (s.dom d).cfg.flags 0 = false → loopHeld s (domParse rq.payload).ports = false → 
    Goes (exec (.svcDomain rq) s) (fun t => (t.dom d).cfg = domParse rq.payload ∧ Answered 0x0902 rq (domReply t d) s t)) ∧
  (∀ rq s k, runs 0x0903 rq s = true → rq.payload.length = 32 → k = keyAt rq.payload 0 16 → addressFits (bitsAt (rd rq.payload 17 1) 1 2) k.address = true → bit (rd rq.payload 16 1) 3 = false → rd rq.payload 17 1 < 64 → bit (rd rq.payload 17 1) 0 = true → bit (rd rq.payload 17 1) 5 = true → bitsAt (rd rq.payload 17 1) 1 2 ≤ 2 → rd rq.payload 18 2 < 4096 → rd rq.payload 23 1 = 0 → rd rq.payload 24 2 = 0 → rd rq.payload 26 2 = 0 → rd rq.payload 28 4 = 0 → bit (s.dom k.domain).cfg.flags 0 = true → (s.engine (placed s (bucketOf s (flowEntry k)))).input.length < 192 → 
    Goes (exec (.svcClientAdd rq) s) (fun t => Held 0x0903 rq s t ∧ t.svc = s.svc ∧
      (t.engine (placed s (bucketOf s (flowEntry k)))).input = (s.engine (placed s (bucketOf s (flowEntry k)))).input ++
      [⟨.cmd s.kcp.nextId (.add { key := k, transport := bitsAt (rd rq.payload 17 1) 1 2, authRequired := bit (rd rq.payload 17 1) 3, boundTlv := bit (rd rq.payload 17 1) 4, isStatic := true, tenant := rd rq.payload 18 2, syncLog := rdI rq.payload 20 1, annLog := rdI rq.payload 21 1, delayLog := rdI rq.payload 22 1 }), bucketOf s (flowEntry k)⟩])) ∧
  (∀ rq s k, runs 0x0904 rq s = true → rq.payload.length = 20 → k = keyAt rq.payload 0 16 → bit (rd rq.payload 16 1) 3 = false → rd rq.payload 17 1 = 0 → rd rq.payload 18 2 < 4096 → (s.engine (placed s (bucketOf s (flowEntry k)))).input.length < 192 → 
    Goes (exec (.svcClientRemove rq) s) (fun t => Held 0x0904 rq s t ∧ t.svc.granary = s.svc.granary ∧
      t.svc.removals = s.svc.removals ++ [⟨s.kcp.nextId, 1, 0⟩] ∧
      (t.engine (placed s (bucketOf s (flowEntry k)))).input = (s.engine (placed s (bucketOf s (flowEntry k)))).input ++
      [⟨.cmd s.kcp.nextId (.remove 0 k (rd rq.payload 18 2)), bucketOf s (flowEntry k)⟩])) ∧
  (∀ rq s i, runs 0x0905 rq s = true → rq.payload.length = 28 → rd rq.payload 0 1 = 0 → rd rq.payload 1 1 = 0 → rd rq.payload 4 4 = 0 → bit (rd rq.payload 24 1) 3 = false → rd rq.payload 25 3 = 0 → findEntry s (keyAt rq.payload 8 24) = some i → 
    exec (.svcClientQuery rq) s = .next (replied 0x0905 rq (le 4 0xFFFFFFFF ++ clientRecord s i) s)) ∧
  (∀ rq s l, runs 0x0906 rq s = true → rq.payload.length = 16 → l = ⟨rd rq.payload 0 4, rd rq.payload 4 4, rd rq.payload 8 1, rd rq.payload 9 1, rd rq.payload 10 1, rd rq.payload 11 1, rd rq.payload 12 2⟩ → 1 ≤ l.ntpRate → l.ntpRate ≤ 1024 → 1 ≤ l.ntpBurst → l.ntpBurst ≤ 4096 → 16 ≤ l.v4Prefix → l.v4Prefix ≤ 32 → 32 ≤ l.v6Prefix → l.v6Prefix ≤ 128 → l.kodMode ≤ 1 → 3 ≤ l.minPoll → l.minPoll ≤ 17 → 1 ≤ l.sigRate → l.sigRate ≤ 256 → rd rq.payload 14 2 = 0 → 
    Goes (exec (.svcLimits rq) s) (fun t => t.svc = { s.svc with limits := l, buckets := s.svc.buckets.map (fun e => (e.1, refill s e.2)) } ∧
      Answered 0x0906 rq (limitsRecord l) s t)) ∧
  (∀ rq s i, runs 0x0907 rq s = true → rq.payload.length = 96 → i = rd rq.payload 0 1 → i ≤ 1 → (upChecks rq.payload).all (·.2) = true → loopHeld s (2 ^ (upParse rq.payload).port) = false → 
    Goes (exec (.upstreamConfig rq) s) (fun t => (t.upD i).cfg = upParse rq.payload ∧
      (t.upD i).exchanges = (s.upD i).exchanges ∧ Answered 0x0907 rq (upReply t i) s t))

/-- Each of ETH_FRAME_RECEIVE, ARP_REQUEST, REQUEST_UNICAST_TRANSMISSION, CANCEL_UNICAST_TRANSMISSION, DELAY_REQ, ANNOUNCE_RECEIVED, GRANT_EXPIRY, NTP_REQUEST, NTS_REQUEST completes: for every state and operands that meet a clause's conditions, exec answers a next state, the one the clause gives or one with the effects it states. That a frame is queued in the same event is the model's reading (log entries 4, 29); what decryption and authentication give is uninterpreted (log entry 11). -/
def Obligations.PacketServiceRequestsComplete : Prop :=
  (∀ p f s d, p < 16 → f.good = true → (s.ethP p).state = 3 → (s.ethP p).lpiUntil ≤ s.now → f.length ≤ (s.ethP p).cfg.maxFrame → f.body ≠ .pauseFrame → (s.ethP p).rxUsed + f.length ≤ 393216 → classify s p f = .ok d → (s.engine (placed s (rxBucket s p d f))).input.length < 192 → 
    Goes (exec (.ethFrameReceive p f) s) (fun t => (t.ethP p).rxUsed = (s.ethP p).rxUsed + f.length ∧
      (t.engine (placed s (rxBucket s p d f))).input = (s.engine (placed s (rxBucket s p d f))).input ++
      [⟨.rx p d (roundStamp (replicaTime s 0)) (servedBound s p false) f, rxBucket s p d f⟩])) ∧
  (∀ n s p d tm b f tg sd, n < 768 → (taskOf s n).bind rxOf = some (p, d, tm, b, f) → f.body = .arp tg sd → 
    Goes (exec (.arpRequest n) s) (fun t =>
      (lastQueued t p (queueOf s p d)).map (fun g => (g.msg, g.dstMac)) = some (.arpReply tg, f.src))) ∧
  (∀ n s x kind log dur i, n < 768 → ptpIn s n = some x → x.m.body = .signaling (.request kind log dur) → versionOk x.m = true → bit (s.dom x.d).cfg.flags 5 = true → (authCfg s x.d).1 = 0 → x.required = false → x.transport = 0 → (takeToken true false x.key.address s).1 = true → (s.dom x.d).cfg.minLog ≤ log → log ≤ (s.dom x.d).cfg.maxLog → logRange (s.dom x.d).cfg.profile (kindBit kind) log = true → bit (s.dom x.d).cfg.flags 6 = false → x.entry = some i → 
    Goes (exec (.requestUnicastTransmission n) s) (fun t =>
      t.entry i = { grantOn (s.entry i) kind log (ftSec x.time) ((ftSec x.time + min dur (s.dom x.d).cfg.durationMax) % 2 ^ 32) with gen := s.kcp.g + 1 } ∧
      (lastQueued t x.port (queueOf s x.port x.d)).map (fun g => (g.msg, g.dstMac)) =
      some (.signaling (.grant kind log (min dur (s.dom x.d).cfg.durationMax)), x.frame.src))) ∧
  (∀ n s x kind i, n < 768 → ptpIn s n = some x → x.m.body = .signaling (.cancel kind) → versionOk x.m = true → (authCfg s x.d).1 = 0 → x.required = false → x.entry = some i → (s.entry i).grants - ((s.entry i).grants &&& 2 ^ kindBit kind) ≠ 0 → 
    Goes (exec (.cancelUnicastTransmission n) s) (fun t =>
      t.entry i = { s.entry i with grants := (s.entry i).grants - ((s.entry i).grants &&& 2 ^ kindBit kind), gen := s.kcp.g + 1 } ∧
      (lastQueued t x.port (queueOf s x.port x.d)).map (·.msg) = some (.signaling (.ackCancel kind)))) ∧
  (∀ n s x, n < 768 → ptpIn s n = some x → x.m.body = .delayReq → versionOk x.m = true → (authCfg s x.d).1 = 0 → x.required = false → isGroup s x.port x.frame = false → servable x.time = true → (x.entry.any (fun i => bit (s.entry i).grants 2 && !reached (ftSec x.time) (s.entry i).expiry && (delayCount (s.entry i) (ftSec x.time)).1)) = true → 
    Goes (exec (.delayReq n) s) (fun t =>
      (lastQueued t x.port (queueOf s x.port x.d)).map (fun g => (g.msg, g.fields.time, g.fields.bound)) =
      some (.delayResp x.m.seq, x.time, x.bound))) ∧
  (∀ n s x a, n < 768 → ptpIn s n = some x → x.m.body = .announce a → (authCfg s x.d).1 = 0 → x.required = false → 
    Goes (exec (.announceReceived n) s) (fun t =>
      t.dom x.d = { s.dom x.d with announceIgnored := min 4294967295 ((s.dom x.d).announceIgnored + 1) } ∧
      (t.ethP x.port).queues = (s.ethP x.port).queues)) ∧
  (∀ i s, i < 1048576 → (s.entry i).valid = true → (s.entry i).grants ≠ 0 → (s.entry i).grants < 8 → reached (ftSec (replicaTime s 0)) (s.entry i).expiry = true → (s.entry i).isStatic = false → 
    Goes (exec (.grantExpiry i) s) (fun t => t.entry i = {})) ∧
  (∀ n s p d tm b v6 src dst sport f m, n < 768 → (taskOf s n).bind rxOf = some (p, d, tm, b, f) → f.body = .ntpUdp v6 src dst sport m → m.nts = false → ntpOk m = true → (takeToken false v6 src s).1 = true → 
    Goes (exec (.ntpRequest n) s) (fun t =>
      (lastQueued t p (queueOf s p 8)).map (fun g => (g.msg, g.own, g.fields.rxTime, g.dstMac)) = some (.ntp m false, true, tm, f.src))) ∧
  (∀ n s p d tm b v6 src dst sport f m uid cookie au, n < 768 → (taskOf s n).bind rxOf = some (p, d, tm, b, f) → f.body = .ntpUdp v6 src dst sport m → m.nts = true → ntpOk m = true → bit (s.prof p).cfg.flags 2 = true → (takeToken false v6 src s).1 = true → m.uniqueIds = [uid] → m.cookies = [cookie] → m.auth = some au → 32 ≤ uid.length → au.last = true → s.key.rngFault = false → 
    Goes (exec (.ntsRequest n) s) (fun t =>
      if (openCookie s cookie).any (fun k => ntsAuthOk au k.2.1) = true then
      (lastQueued t p (queueOf s p 8)).map (fun g => (g.msg, g.own, g.fields.rxTime)) =
      some (.nts m (if ((s.thread n).task.bind (·.ntsSlot)).any (fun z => (keySlot s 3 z.1).valid &&
      decide ((keySlot s 3 z.1).indexGen = z.2) && !masterDenied s z.1) then cookieCount m uid else 0), true, tm) else
      (lastQueued t p (queueOf s p 8)).map (·.msg) = some (.ntsNak m uid)))

/-- Each of UPSTREAM_ANNOUNCE, UPSTREAM_MESSAGE, UPSTREAM_GRANT, UPSTREAM_RENEWAL, ANNOUNCE_TIMEOUT, SCHEDULED_MESSAGE, RECORD_CREATE, LAUNCH_COMMIT, START_OF_FRAME, FRAME_STOMP, TX_DOWN_DROP completes: for every state and operands that meet a clause's conditions, exec answers a next state, the one the clause gives or one with the effects it states. Authentication is off in the upstream clauses; that scheduling and sending are one event each is the model's reading (log entries 4, 30). -/
def Obligations.UpstreamAndTransmissionComplete : Prop :=
  (∀ n s i p tm b f m a c, n < 768 → (taskOf s n).bind rxOf = some (p, 9 + i, tm, b, f) → ptpOf f = some m → m.body = .announce a → versionOk m = true → upOn s i = true → (authCfg s (9 + i)).1 = 0 → candPlace s.now (s.upD i) f m = some c → 
    Goes (exec (.upstreamAnnounce n) s) (fun t =>
      (t.upD i).cand c = { (s.upD i).cand c with clock := m.clock, announce := some a, annAt := s.now } ∧
      (t.upD i).chosen = bestOf s.now (t.upD i))) ∧
  (∀ n s i p tm b f m o, n < 768 → (taskOf s n).bind rxOf = some (p, 9 + i, tm, b, f) → ptpOf f = some m → m.body = .sync false o → versionOk m = true → upOn s i = true → (authCfg s (9 + i)).1 = 0 → (s.upD i).chosen.isSome = true → candOf (s.upD i) f m = (s.upD i).chosen → 
    Goes (exec (.upstreamMessage n) s) (fun t =>
      t.upD i = { s.upD i with pendingSync := some (m.seq, m.correction, tm, m.bound, s.now) })) ∧
  (∀ n s i p tm b f m kind log dur c, n < 768 → (taskOf s n).bind rxOf = some (p, 9 + i, tm, b, f) → ptpOf f = some m → m.body = .signaling (.grant kind log dur) → versionOk m = true → upOn s i = true → (authCfg s (9 + i)).1 = 0 → candOf (s.upD i) f m = some c → dur ≠ 0 → 
    Goes (exec (.upstreamGrant n) s) (fun t => (t.upD i).cand c = { (s.upD i).cand c with grants := setBit ((s.upD i).cand c).grants (kindBit kind), grantedAt := tset 0 ((s.upD i).cand c).grantedAt (kindBit kind) s.now, granted := tset 0 ((s.upD i).cand c).granted (kindBit kind) dur, denied := false } ∧
      (t.upD i).grantsDenied = (s.upD i).grantsDenied)) ∧
  (∀ i c s p q u, i < 2 → c < 4 → u = s.upD i → p = u.cfg.port → q = queueOf s p (9 + i) → upOn s i = true → bit u.cfg.flags 1 = true → u.cfg.prio.getD c 0 ≠ 0 → [GrantKind.announce, .sync, .delayResp].all (grantDue s.now (u.cand c)) = true → (authCfg s (9 + i)).1 = 0 → (s.ethP p).creditUsed + 6 ≤ 6144 → tget 0 (s.ethP p).descUsed q + 3 ≤ 128 → 
    Goes (exec (.upstreamRenewal i c) s) (fun t =>
      (tget [] (t.ethP p).queues q).map (·.msg) = (tget [] (s.ethP p).queues q).map (·.msg) ++
      [.signaling (.request .announce u.cfg.annLog u.cfg.duration), .signaling (.request .sync u.cfg.syncLog u.cfg.duration),
      .signaling (.request .delayResp u.cfg.delayLog u.cfg.duration)])) ∧
  (∀ i c s, i < 2 → c < 4 → ((s.upD i).cand c).announce.isSome = true → annCurrent s.now ((s.upD i).cand c) = false → 
    Goes (exec (.announceTimeout i c) s) (fun t => (t.upD i).cand c = { (s.upD i).cand c with announce := none } ∧
      (t.upD i).chosen = bestOf s.now (t.upD i))) ∧
  (∀ i kind s log flow k, (s.entry i).valid = true → (s.entry i).key = k → schedWant s (.unicast k kind) = some (log, flow) → s.eng.sched = [] → (s.engine (placed s (bucketOf s flow))).input.length < 192 → 
    Goes (exec (.scheduledMessage (.unicast i kind)) s) (fun t => t.eng.sched = [(.unicast k kind, s.now)] ∧
      (t.engine (placed s (bucketOf s flow))).input = (s.engine (placed s (bucketOf s flow))).input ++
      [⟨.sched (.unicast k kind), bucketOf s flow⟩])) ∧
  (∀ n s k f d, n < 768 → (s.thread n).task = some k → ((s.ethP k.port).queues.flatMap (·.2)).find? (fun f => f.tag == k.tag && f.wants.isSome && (f.own || f.alg == 0 || !keysAwaited s)) = some f → f.wants = some d → ((f.own = true ∨ f.alg = 0)) → 
    Goes (exec (.recordCreate n) s) (fun t => ∃ g ∈ (settleFrame f (createRecord d k.tag s).1 (createRecord d k.tag s).2).1.toList,
      g.wants = none ∧ g.record = (createRecord d k.tag s).1 ∧
      tget [] (t.ethP f.port).queues f.queue = (tget [] (s.ethP f.port).queues f.queue).map
      (fun h => if h.tag = f.tag ∧ h.wants.isSome = true then g else h))) ∧
  (∀ p s q f tp, p < 16 → commitCandidate (settleWire p s) p = some (q, f, tp) → f.alg = 0 → f.s2c = [] → grantHolds s f (ftSec (replicaAtPs s tp)) = true → 
    Goes (exec (.launchCommit p) s) (fun t => if servable (egressStamp s p tp) = true then
      (t.ethP p).committedQ = (s.ethP p).committedQ ++ [{ commitFields s p f tp with wire := frameBytes (commitFields s p f tp) }] ∧
      (t.ethP p).wireFree = tp + f.bytes * wirePs (s.ethP p).cfg.rate
      else (t.ethP p).committedQ = (s.ethP p).committedQ ∧ tget [] (t.ethP p).queues q = (tget [] (s.ethP p).queues q).drop 1)) ∧
  (∀ p q s f rest tp, p < 16 → q < 8 → (s.ethP p).committedQ = f :: rest → f.queue = q → f.port = p → f.committed = some tp → tp ≤ s.now * 1000 → 
    Goes (exec (.startOfFrame p q) s) (fun t => (t.ethP p).committedQ = rest ∧
      (t.ethP p).inFlight = some { f with ends := tp + f.bytes * wirePs (s.ethP p).cfg.rate })) ∧
  (∀ p s f rest, p < 16 → (s.ethP p).committedQ = f :: rest → f.port = p → f.record = none → 
    Goes (exec (.frameStomp ⟨p, 1⟩) s) (fun t => (t.ethP p).committedQ = rest ∧
      (t.ethP p).creditUsed = (s.ethP p).creditUsed - f.credit ∧ (t.prof p).stomped = min 4294967295 ((s.prof p).stomped + 1))) ∧
  (∀ p q s f rest, p < 16 → q < 8 → (s.ethP p).state ≠ 3 → tget [] (s.ethP p).queues q = f :: rest → f.record = none → 
    Goes (exec (.txDownDrop p q) s) (fun t => tget [] (t.ethP p).queues q = rest ∧
      (t.ethP p).txDownDrops = min 4294967295 ((s.ethP p).txDownDrops + 1) ∧
      (t.ethP p).creditUsed = (s.ethP p).creditUsed - f.credit))

/-- Each of ENG_STATUS, PROG_STAGE, PROG_ACTIVATE, ENG_PLACEMENT_POLICY, ENG_CENSUS, TASK_ADMIT, WAIT_EVENT, WAIT_TIMEOUT, TASK_ABORT, STALL_CENSUS completes: for every state and operands that meet a clause's conditions, exec answers a next state, the one the clause gives or one with the effects it states. The verdict on an image is the model's uninterpreted signature check (log entry 11). -/
def Obligations.EnginesAndTasksComplete : Prop :=
  (∀ rq s, runs 0x0A01 rq s = true → rq.payload = [] → 
    exec (.engStatus rq) s = .next (replied 0x0A01 rq (engStatusBytes s) s)) ∧
  (∀ rq s, runs 0x0A02 rq s = true → 13 ≤ rq.payload.length → rq.payload.length ≤ 4080 → rd rq.payload 8 1 = 1 → rd rq.payload 9 3 = 0 → rd rq.payload 4 4 ≤ 24576 → rd rq.payload 0 4 = 0 → rq.payload.length - 12 < rd rq.payload 4 4 → s.eng.activation = none → 
    Goes (exec (.progStage rq) s) (fun t =>
      t.eng.staging = { s.eng.staging with total := rd rq.payload 4 4, bytes := rq.payload.drop 12 } ∧ Answered 0x0A02 rq [] s t)) ∧
  (∀ rq s img, runs 0x0A03 rq s = true → rq.payload.length = 4 → s.eng.activation = none → s.eng.staging.verified = some img → rd rq.payload 0 4 = img.version → ((img.stateFormat = s.eng.active.stateFormat ∨ anyDomain s = false)) → 
    Goes (exec (.progActivate rq) s) (fun t => t.eng.activation = some img ∧ Pending 0x0A03 rq [] s t ∧
      ∀ k ∈ List.range 12, (s.engine (8 * k)).state = 2 → (t.engine (8 * k)).state = 3)) ∧
  (∀ rq s n g, runs 0x0A04 rq s = true → n = rd rq.payload 4 1 → n ≤ 32 → rq.payload.length = 8 + 8 * n → rd rq.payload 0 1 < 2 → 1 ≤ rd rq.payload 1 1 → rd rq.payload 1 1 ≤ 12 → rd rq.payload 2 2 < 4096 → rd rq.payload 5 3 = 0 → ((∀ i ∈ List.range n, rd rq.payload (8 + 8 * i) 2 + rd rq.payload (10 + 8 * i) 2 < 65536 ∧ rd rq.payload (12 + 8 * i) 1 < 96 ∧ rd rq.payload (13 + 8 * i) 3 = 0 ∧ ((pinsOf rq.payload n).take i).any (overlap ((pinsOf rq.payload n).getD i {})) = false)) → s.eng.policyHeld = none → g = ⟨bit (rd rq.payload 0 1) 0, rd rq.payload 1 1, rd rq.payload 2 2, pinsOf rq.payload n⟩ → 
    Goes (exec (.engPlacementPolicy rq) s) (fun t => t.eng.policy = g ∧
      if policyMet (applyPolicy g s) then Answered 0x0A04 rq (placeBytes g) s t else Held 0x0A04 rq s t ∧ t.eng.policyHeld = some s.kcp.nextId)) ∧
  (∀ rq s, runs 0x0A05 rq s = true → rq.payload = [] → 
    exec (.engCensus rq) s = .next (replied 0x0A05 rq (censusBytes s) s)) ∧
  (∀ e w s i x rest, e < 96 → (s.engine e).state = 2 → s.eng.restarting = none → freeThread s e = some i → (firstReady s (s.engine e).input).map (·.1) = some x → (firstReady s (s.engine e).input).map (·.2) = some rest → 
    Goes (exec (.taskAdmit e w) s) (fun t => (t.engine e).input = rest ∧
      if creditFor (settleWire (outputOf x.msg).1 s) (outputOf x.msg).1 (Config.declaredOutput (s.engine e).image.version (msgKind x.msg))
      (tagOf s (outputOf x.msg).1 (outputOf x.msg).2).pcp
      then (t.thread (8 * e + i)).task.map (fun k => (k.msg, k.bucket, k.admitted)) = some (x.msg, x.bucket, s.now)
      else t.eng.admitDrops = min 4294967295 (s.eng.admitDrops + 1))) ∧
  (∀ n k next s w, n < 768 → (s.thread n).wait = some w → w.cls = k → k ≠ 7 → s.now ≤ w.deadline → 
    Goes (exec (.waitEvent n k next) s) (fun t =>
      t.thread n = beginWait s.now { s.thread n with wait := none } next ∧ t.eng.waitTimeouts = s.eng.waitTimeouts)) ∧
  (∀ n next s w k, n < 768 → (s.thread n).wait = some w → (s.thread n).task = some k → w.deadline ≤ s.now → s.now < k.admitted + 4194304 → 
    Goes (exec (.waitTimeout n next) s) (fun t =>
      t.thread n = beginWait s.now { s.thread n with wait := none, late := (s.thread n).late ++ [w.cls] } next ∧
      t.eng.waitTimeouts = min 4294967295 (s.eng.waitTimeouts + 1))) ∧
  (∀ n s k, n < 768 → (s.thread n).task = some k → k.admitted + 4194304 ≤ s.now → 
    Goes (exec (.taskAbort n) s) (fun t => t.thread n = idleThread s.now (s.thread n).late ∧
      t.eng.taskAborts = min 4294967295 (s.eng.taskAborts + 1))) ∧
  (∀ s, deadlocked (censusSample s) = false → 
    Goes (exec .stallCensus s) (fun t => t.eng = (censusSample s).eng ∧ t.eng.censusTick = s.tim.tick ∧
      t.eng.censusIdle = ((awakeThreads s).filter (fun n => (s.thread n).task.isNone)).length))

/-- Each of ENGINE_SWITCH, RESTART_COMPLETE, BUCKET_MOVE, REBALANCE, CLUSTER_WAKE, CLUSTER_FALLOW, WAKE_COMPLETE, ARBITER_WINDOW, ARBITER_GRANT, SCRUB_BURST completes: for every state and operands that meet a clause's conditions, exec answers a next state, the one the clause gives or one with the effects it states. Which engines and clusters are chosen is the event's (log entry 32). -/
def Obligations.PlacementAndArbitersComplete : Prop :=
  (∀ e s img, e < 96 → e % 8 ≠ 7 → s.eng.activation = some img → (s.engine e).state = 3 → engineIdle s e = true → 
    Goes (exec (.engineSwitch e) s) (fun t =>
      t.engine e = { loadImage img (s.engine e) with state := 2 } ∧ (t.engine e).image = img ∧ (t.engine (e + 1)).state = 3 ∧
      t.eng.activation = some img)) ∧
  (∀ s x, s.eng.restarting = some x → 
    Goes (exec .restartComplete s) (fun t => t.eng.restarting = none ∧ ∀ e ∈ List.range 96, (s.engine e).state = 4 →
      (t.engine e).state = if s.eng.activation.isSome = true ∧ e % 8 = 0 then 3 else 2)) ∧
  (∀ b s, b < 65536 → tget 0 s.eng.moving b ≠ 0 → bucketBusy s b = false → 
    Goes (exec (.bucketMove b) s) (fun t => placed t b = tget 0 s.eng.moving b - 1 ∧ tget 0 t.eng.moving b = 0 ∧
      t.eng.bucketMoves = min 4294967295 (s.eng.bucketMoves + 1))) ∧
  (∀ occ s b e, s.eng.loopAt + 1000000 ≤ s.now → s.eng.policy.rebalance = true → b < 65536 → e < 96 → moveAllowed s occ (b, e) = true → 
    Goes (exec (.rebalance [(b, e)] occ) s) (fun t => tget 0 t.eng.moving b = e + 1 ∧ placed t b = placed s b ∧ t.eng.loopAt = s.now ∧
      t.eng.placementUnmet = (awakeEngines s).any (fun x => aboveMean s occ 10 x && holdsPinned s x))) ∧
  (∀ k o s, k < 12 → 7500 < o → (s.engine (8 * k)).state = 0 → marching s k = false → 
    Goes (exec (.clusterWake k o) s) (fun t => (∀ e ∈ enginesOf k, (t.engine e).state = 1) ∧
      (tget {} t.eng.clusters k).wakeAt = some s.now ∧ t.eng.loadUnmet = false)) ∧
  (∀ k o s, k < 12 → o < 2500 → 2 ≤ ((List.range 12).filter (stays s)).length → o * (awakeClusters s).length < 5000 * ((awakeClusters s).length - 1) → s.eng.policy.minAwake < countedAwake s → pinnedAwake s k = false → stays s k = true → s.eng.activation = none → 
    Goes (exec (.clusterFallow k o) s) (fun t => t.eng.floorUnmet = false ∧
      ((tget {} t.eng.clusters k).fallowing = true ∨ (t.engine (8 * k)).state = 0) ∧
      ∀ b ∈ List.range 65536, placed s b / 8 = k → pinOf s.eng.policy b = none → tget 0 t.eng.moving b ≠ 0)) ∧
  (∀ k s, k < 12 → (s.engine (8 * k)).state = 1 → 
    Goes (exec (.wakeComplete k) s) (fun t => (∀ e ∈ enginesOf k, (t.engine e).state = 2 ∧ (t.engine e).image = newestImage s) ∧
      (∀ n ∈ threadsOf k, t.thread n = idleThread s.now (s.thread n).late) ∧ (tget {} t.eng.clusters k).wakeAt = none ∧
      bit (t.irqG 4).retained k = false)) ∧
  (∀ s k r, s.arb.window ≠ some (windowMarker s) → s.arb.next = none → s.arb.held = [] → k < 17 → r < 17 → requesters.any (fun q => decide (0 ≤ min (tally s k q + weightOf s k q) (capOf s k q))) = true → 
    Goes (exec .arbiterWindow s) (fun t => tally t k r = satTally (min (tally s k r + weightOf s k r) (capOf s k r)))) ∧
  (∀ k l s r op wt, k < 17 → chooseGrant s k (l.filter (fun x => decide (x.1 < 17) && opFits k (x.2.1 % 8))) = some (r, op, wt) → 
    Goes (exec (.arbiterGrant k l) s) (fun t => tally t k r = satTally (tally s k r - grantCost (op % 8)))) ∧
  (∀ b s, b < 112 → ((tget 0 s.arb.scrubbing b = 0 ∨ tget 0 s.arb.scrubbing b + 10000 ≤ s.now)) → 
    Goes (exec (.scrubBurst b) s) (fun t => tget 0 t.arb.scrubbing b = s.now))

/-- Each of KEY_WRITE, KEY_INVALIDATE, KEY_STATUS, KEY_ATTR, HARROW_STATUS, NTS_MASTER_ROTATE, EPOCH_ROLL, HARROW_VISIT, RNG_HEALTH_FAIL, WRAPPED_STORE_WRITTEN completes: for every state and operands that meet a clause's conditions, exec answers a next state, the one the clause gives or one with the effects it states. Random masks and ciphers are free or uninterpreted (log entries 3, 11); times are those of log entry 1. -/
def Obligations.KeysComplete : Prop :=
  (∀ rq s k i, runs 0x0B01 rq s = true → k = rd rq.payload 0 1 → 1 ≤ k → k ≤ 3 → rq.payload.length = 12 + keyLen k → rd rq.payload 1 1 &&& maskAllowed k = rd rq.payload 1 1 → i = rd rq.payload 2 2 → i < slotCount k → ((if k = 1 then rd rq.payload 4 4 = 0 else if k = 2 then rd rq.payload 4 4 ≤ 254 else 1 ≤ rd rq.payload 4 4 ∧ rd rq.payload 4 4 < 268435456)) → rd rq.payload 8 4 = 0 → (keySlot s k i).valid = false → indexGenOk s k i (rd rq.payload 4 4) = true → s.key.rngFault = false → 
    Goes (exec (.keyWrite rq) s) (fun t => (keySlot t k i).valid = true ∧ (keySlot t k i).shares.open_ = rq.payload.drop 12 ∧
      (keySlot t k i).recipients = rd rq.payload 1 1 ∧ (keySlot t k i).indexGen = rd rq.payload 4 4 ∧
      (keySlot t k i).check = checkValue (rq.payload.drop 12) ∧
      Answered 0x0B01 rq (checkValue (rq.payload.drop 12) ++ [0] ++ le 4 s.key.wrapGen) s t)) ∧
  (∀ rq s k n l, runs 0x0B02 rq s = true → k = rd rq.payload 0 1 → 1 ≤ k → k ≤ 3 → n = rd rq.payload 1 1 → 1 ≤ n → n ≤ 64 → rq.payload.length = 4 + 2 * n → rd rq.payload 2 2 = 0 → l = (List.range n).map (fun i => rd rq.payload (4 + 2 * i) 2) → ((∀ i ∈ l, i < slotCount k ∧ (keySlot s k i).valid = true)) → s.key.wrapGen + s.key.invalidating.length < 65535 → 
    Goes (exec (.keyInvalidate rq) s) (fun t => Held 0x0B02 rq s t ∧ (∀ i ∈ l, keySlot t k i = { lastGen := (keySlot s k i).lastGen }) ∧
      t.key.invalidating = s.key.invalidating ++ [⟨s.kcp.nextId, false, l.map (fun i => (k, i, keySlot s k i))⟩])) ∧
  (∀ rq s k i n, runs 0x0B03 rq s = true → rq.payload.length = 8 → k = rd rq.payload 0 1 → 1 ≤ k → k ≤ 3 → rd rq.payload 1 1 = 0 → i = rd rq.payload 2 2 → i < slotCount k → n = rd rq.payload 4 2 → 1 ≤ n → n ≤ (if k = 1 then 128 else 16) → i + n ≤ slotCount k → rd rq.payload 6 2 = 0 → 
    exec (.keyStatus rq) s = .next (replied 0x0B03 rq (le 4 s.key.wrapGen ++ le 4 (gensLeft s) ++ le 4 s.key.epoch ++
      le 1 (flag 0 s.key.storeFault + flag 1 s.key.rngFault) ++ zeros 3 ++ le 4 s.key.recipientDenied ++ le 4 s.key.noKey ++
      signPublic s ++ zeros 8 ++ (List.range n).flatMap (fun j => keyRecord s k (i + j))) s)) ∧
  (∀ rq s k i, runs 0x0B04 rq s = true → rq.payload.length = 12 → k = rd rq.payload 0 1 → 1 ≤ k → k ≤ 3 → i = rd rq.payload 2 2 → i < slotCount k → rd rq.payload 4 2 < 1024 → rd rq.payload 6 2 ≤ 1024 → rd rq.payload 4 2 + rd rq.payload 6 2 ≤ 1024 → rd rq.payload 8 4 = 0 → (keySlot s k i).valid = true → rd rq.payload 1 1 &&& (keySlot s k i).recipients = rd rq.payload 1 1 → 
    Goes (exec (.keyAttr rq) s) (fun t => keySlot t k i = { keySlot s k i with recipients := rd rq.payload 1 1 } ∧
      (k = 2 → ∀ j ∈ List.range (rd rq.payload 6 2), (t.pk (rd rq.payload 4 2 + j)).nextIdx =
      (s.pk (rd rq.payload 4 2 + j)).nextIdx ++ [(keySlot s k i).indexGen + 1] ∨
      (t.pk (rd rq.payload 4 2 + j)).sendIdx = (keySlot s k i).indexGen + 1) ∧ Answered 0x0B04 rq (keyRecord t k i) s t)) ∧
  (∀ rq s, runs 0x0B05 rq s = true → rq.payload = [] → 
    exec (.harrowStatus rq) s = .next (replied 0x0B05 rq (le 4 s.key.cycles ++ le 2 s.key.position ++ le 1 (flag 0 s.key.paused) ++
      zeros 1 ++ s.key.fCycles.flatMap (fun x => le 4 x) ++ le 4 s.key.delayed ++ zeros 4) s)) ∧
  (∀ rq s i, runs 0x0B06 rq s = true → rq.payload.length = 4 → i = rd rq.payload 0 1 → i < 16 → rd rq.payload 1 1 = 255 → rd rq.payload 2 2 = 0 → (keySlot s 3 i).valid = true → s.key.rngFault = false → 
    Goes (exec (.ntsMasterRotate rq) s) (fun t => t.key = { s.key with rolesNext := some i } ∧
      Answered 0x0B06 rq ((rolesAfter s i).flatMap (fun r => le 1 r)) s t)) ∧
  (∀ s n, n = epochNow s → n ≠ s.key.epoch → 
    Goes (exec .epochRoll s) (fun t => t.key.epoch = n)) ∧
  (∀ s n, s.key.paused = false → s.pwr.sState ≠ 0 → s.key.lastVisit + 15625000 ≤ s.now → n = s.key.position → n < 4096 → (s.tenant n).valid = true → (s.tenant n).shares.s1.length = 16 → (s.tenant n).shares.s2.length = 16 → 
    Goes (exec .harrowVisit s) (fun t => t.key.position = n + 1 ∧ t.key.lastVisit = s.key.lastVisit + 15625000 ∧
      (t.tenant n).shares.open_ = (s.tenant n).shares.open_ ∧ t.key.cycles = s.key.cycles)) ∧
  (∀ s, 
    Goes (exec .rngHealthFail s) (fun t => t.key = { s.key with rngFault := true, paused := true } ∧ bit (t.flt 3).status 2 = true ∧
      bit (t.flt 3).cond 2 = true)) ∧
  (∀ s x rest k g, s.key.invalidating = x :: rest → g = s.key.wrapGen + 1 → x.rotate = false → s.kcp.slots.find? (fun y => y.id == x.slotId) = some k → k.lost = false → k.noReply = false → 
    Goes (exec .wrappedStoreWritten s) (fun t => t.key.wrapGen = g ∧ t.key.invalidating = rest ∧
      (∀ u ∈ [({ s with key := { s.key with wrapGen := g, invalidating := rest } } : State)],
      t.key.areaA = some (wrapImage u g) ∨ t.key.areaB = some (wrapImage u g)) ∧
      t.kcp.replies = s.kcp.replies ++ [mkReply k s.now stOK 0 t.kcp.g (le 4 g ++ le 4 (65535 - g))]))

/-- Each of EVD_STORE_CONFIG, EVD_FORMAT, EVD_START, EVD_STOP, EVD_FLUSH, EVD_RELEASE, EVD_STATUS, EVD_NAMESPACE_ADD, EVD_RETENTION, EVD_SHEAF_READ completes: for every state and operands that meet a clause's conditions, exec answers a next state, the one the clause gives or one with the effects it states. -/
def Obligations.EvidenceCommandsComplete : Prop :=
  (∀ rq s q g, q = rq → runs 0x0C01 q s = true → rd q.payload 0 1 = 0 → q.payload.length = 24 → rd q.payload 1 1 < 2 → rd q.payload 2 2 < 4096 → rd q.payload 4 1 ≤ 20 → rd q.payload 5 1 = 0 → rd q.payload 6 2 ≤ 8192 → 10 ≤ rd q.payload 8 4 → rd q.payload 8 4 ≤ 60000 → rd q.payload 12 4 = 0 → g = (⟨rd q.payload 1 1, rd q.payload 2 2, rd q.payload 4 1, rd q.payload 6 2, rd q.payload 8 4⟩ : EvdCfg) → 
    Goes (exec (.evdStoreConfig rq) s) (fun t => t.evd = { s.evd with cfg := g } ∧ Answered 0x0C01 rq (evdRecord t 0) s t)) ∧
  (∀ rq s q g, q = withByte 0 1 rq → runs 0x0C01 q s = true → q.payload.length = 24 → rd q.payload 1 1 < 2 → rd q.payload 2 2 < 4096 → rd q.payload 4 1 ≤ 20 → rd q.payload 5 1 = 0 → rd q.payload 6 2 ≤ 8192 → 10 ≤ rd q.payload 8 4 → rd q.payload 8 4 ≤ 60000 → rd q.payload 12 4 = 0 → g = (⟨rd q.payload 1 1, rd q.payload 2 2, rd q.payload 4 1, rd q.payload 6 2, rd q.payload 8 4⟩ : EvdCfg) → s.evd.store = 0 → ringWidth s ≠ 0 → writingSupers s = false → 
    Goes (exec (.evdFormat rq) s) (fun t => t.evd.cfg = g ∧ t.evd.ops.map (fun o => o.kind) = s.evd.ops.map (fun o => o.kind) ++
      (storeNs s).map (fun n => NvKind.super (n.ordinal.getD 0)
      { superNow s n with store := t.evd.storeId, reserved := 0, running := false }) ∧
      Pending 0x0C01 rq (evdRecord t 1) s t)) ∧
  (∀ rq s q g, q = withByte 0 2 rq → runs 0x0C01 q s = true → q.payload.length = 24 → rd q.payload 1 1 < 2 → rd q.payload 2 2 < 4096 → rd q.payload 4 1 ≤ 20 → rd q.payload 5 1 = 0 → rd q.payload 6 2 ≤ 8192 → 10 ≤ rd q.payload 8 4 → rd q.payload 8 4 ≤ 60000 → rd q.payload 12 4 = 0 → g = (⟨rd q.payload 1 1, rd q.payload 2 2, rd q.payload 4 1, rd q.payload 6 2, rd q.payload 8 4⟩ : EvdCfg) → s.evd.store = 1 → (tget ({} : Loop) s.tst.loops 16384).depth = 0 → s.evd.starting = false → 
    Goes (exec (.evdStart rq) s) (fun t => t.evd = { s.evd with cfg := g, starting := true } ∧ Pending 0x0C01 rq (evdRecord t 2) s t)) ∧
  (∀ rq s q g, q = withByte 0 3 rq → runs 0x0C01 q s = true → q.payload.length = 24 → rd q.payload 1 1 < 2 → rd q.payload 2 2 < 4096 → rd q.payload 4 1 ≤ 20 → rd q.payload 5 1 = 0 → rd q.payload 6 2 ≤ 8192 → 10 ≤ rd q.payload 8 4 → rd q.payload 8 4 ≤ 60000 → rd q.payload 12 4 = 0 → g = (⟨rd q.payload 1 1, rd q.payload 2 2, rd q.payload 4 1, rd q.payload 6 2, rd q.payload 8 4⟩ : EvdCfg) → s.evd.store = 2 → s.evd.staged = [] → s.evd.recordRunning = true → writingSupers s = false → 
    Goes (exec (.evdStop rq) s) (fun t => t.evd.stopping = true ∧ t.evd.cfg = g ∧ t.evd.ops.map (fun o => o.kind) =
      s.evd.ops.map (fun o => o.kind) ++ (storeNs s).map (fun n => NvKind.super (n.ordinal.getD 0) { superNow s n with running := false }) ∧
      Answered 0x0C01 rq (evdRecord t 3) s t)) ∧
  (∀ rq s q g x, q = withByte 0 4 rq → runs 0x0C01 q s = true → q.payload.length = 24 → rd q.payload 1 1 < 2 → rd q.payload 2 2 < 4096 → rd q.payload 4 1 ≤ 20 → rd q.payload 5 1 = 0 → rd q.payload 6 2 ≤ 8192 → 10 ≤ rd q.payload 8 4 → rd q.payload 8 4 ≤ 60000 → rd q.payload 12 4 = 0 → g = (⟨rd q.payload 1 1, rd q.payload 2 2, rd q.payload 4 1, rd q.payload 6 2, rd q.payload 8 4⟩ : EvdCfg) → filling s = some x → x.records.length < 4064 → s.evd.noStaging.count = 0 → s.evd.noKey.count = 0 → s.evd.marksDue = [] → 
    Goes (exec (.evdFlush rq) s) (fun t => t.evd.staged = s.evd.staged.map (fun y => if y.index = x.index then { y with phase := .closed, close := 2 } else y) ∧
      t.evd.store = s.evd.store ∧ Answered 0x0C01 rq (evdRecord t 4) s t)) ∧
  (∀ rq s q g, q = withByte 0 5 rq → runs 0x0C01 q s = true → q.payload.length = 24 → rd q.payload 1 1 < 2 → rd q.payload 2 2 < 4096 → rd q.payload 4 1 ≤ 20 → rd q.payload 5 1 = 0 → rd q.payload 6 2 ≤ 8192 → 10 ≤ rd q.payload 8 4 → rd q.payload 8 4 ≤ 60000 → rd q.payload 12 4 = 0 → g = (⟨rd q.payload 1 1, rd q.payload 2 2, rd q.payload 4 1, rd q.payload 6 2, rd q.payload 8 4⟩ : EvdCfg) → s.evd.store = 1 → 
    Goes (exec (.evdRelease rq) s) (fun t => t.evd.store = 0 ∧ t.evd.storeId = 0 ∧ (∀ n ∈ t.evd.ns, n.ordinal = none) ∧
      Answered 0x0C01 rq (evdRecord t 5) s t)) ∧
  (∀ rq s, runs 0x0C02 rq s = true → rq.payload = [] → 
    exec (.evdStatus rq) s = .next (replied 0x0C02 rq (le 1 s.evd.store ++ le 1 (ringWidth s) ++ le 1 (64 - s.evd.staged.length) ++
      le 1 s.evd.ns.length ++ le 4 (ringDepth s) ++ le 8 (nextSeal s) ++ le 8 (oldestIndex s) ++ le 8 s.evd.reservedUpto ++
      le 8 s.evd.served ++ le 8 s.evd.voids ++ le 8 s.evd.noStaging.total ++ le 8 s.evd.noKey.total ++ le 8 s.evd.sheaves ++
      le 8 s.evd.marks ++ le 8 s.evd.scrubbed ++ le 8 s.evd.scrubFail ++ le 8 s.evd.scrubLast ++ le 8 s.evd.retries ++ zeros 16 ++
      s.evd.ns.zipIdx.flatMap (fun x => nsRecord s x.2 x.1)) s)) ∧
  (∀ rq s i n, runs 0x0C03 rq s = true → rq.payload.length = 4 → i = rd rq.payload 0 2 → rd rq.payload 2 2 = 0 → s.evd.ns[i]? = some n → s.evd.store = 0 → writingSupers s = false → usable n = true → n.ordinal = none → ringWidth s < 32 → 
    Goes (exec (.evdNamespaceAdd rq) s) (fun t => t.evd = { s.evd with ns := s.evd.ns.set i { n with ordinal := some (ringWidth s) } } ∧
      Answered 0x0C03 rq (le 1 (ringWidth s)) s t)) ∧
  (∀ rq s m u, runs 0x0C04 rq s = true → rq.payload.length = 16 → m = rd rq.payload 0 4 → u = rd rq.payload 8 8 → m < 2147483648 → rd rq.payload 4 4 = 0 → ((m ≠ s.evd.minRetain ∨ u ≠ s.evd.holdFrom)) → ((2 ≤ rq.priv ∨ (s.evd.minRetain ≤ m ∧ u ≤ s.evd.holdFrom))) → 
    Goes (exec (.evdRetention rq) s) (fun t => t.evd.minRetain = m ∧ t.evd.holdFrom = u ∧
      t.evd.retEpoch = (s.evd.retEpoch + 1) % 4294967296 ∧ Answered 0x0C04 rq (retentionRecord t) s t)) ∧
  (∀ rq s i x n, runs 0x0C05 rq s = true → rq.payload.length = 16 → i = rd rq.payload 0 8 → oldestIndex s ≤ i → i < nextSeal s → rd rq.payload 8 4 % 32 = 0 → rd rq.payload 8 4 < 131072 → n = rd rq.payload 12 2 → n % 32 = 0 → 32 ≤ n → n ≤ 4032 → rd rq.payload 8 4 + n ≤ 131072 → rd rq.payload 14 1 < 4 → bit (rd rq.payload 14 1) 0 = false → rd rq.payload 15 1 = 0 → s.evd.staged.find? (fun y => y.index == i) = some x → 
    exec (.evdSheafRead rq) s = .next (replied 0x0C05 rq (le 8 x.index ++ le 1 (flag 0 (bit (rd rq.payload 14 1) 1 && sigOk x.header) +
      flag 1 (bit (rd rq.payload 14 1) 1 && rootOk x) + flag 2 true) ++ zeros 1 ++ le 2 (n / 32) ++ zeros 4 ++ le 16 0 ++
      (List.range (n / 32)).flatMap (fun k => ((sheafBytes x).drop (32 * (rd rq.payload 8 4 / 32 + k))).take 32)) s))

/-- Each of RECORD_RESOLVE, MARK_WRITE, SHEAF_CLOSE, SHEAF_AGE_CLOSE, SHEAF_SEAL, SHEAF_WRITE, NVME_COMPLETION, NVME_WRITE_TIMEOUT, NVME_ENUMERATE, SCRUB_READ completes: for every state and operands that meet a clause's conditions, exec answers a next state, the one the clause gives or one with the effects it states. The store's cipher and a sheaf's signature are uninterpreted (log entry 11). -/
def Obligations.EvidenceEventsComplete : Prop :=
  (∀ i k s r tg, k < 4064 → recordAt s (i, k) = some r → r.pending = some tg → r.started = true → onWire s (i, k) = false → 
    Goes (exec (.recordResolve i k) s) (fun t => recordAt t (i, k) = some { r with pending := none, started := false })) ∧
  (∀ s m rest x, s.evd.marksDue = m :: rest → filling s = some x → s.evd.staged.find? (fun y => y.index == x.index) = some x → x.records.length < 4064 → s.evd.noStaging.count = 0 → s.evd.noKey.count = 0 → 
    Goes (exec .markWrite s) (fun t => recordAt t (x.index, x.records.length) = some { kind := 4, body := markBody m } ∧
      t.evd.marksDue = rest ∧ t.evd.marks = min 18446744073709551615 (s.evd.marks + 1))) ∧
  (∀ s x, filling s = some x → 4064 ≤ x.records.length → 
    Goes (exec .sheafClose s) (fun t =>
      t.evd.staged = s.evd.staged.map (fun y => if y.index = x.index then { y with phase := .closed, close := 0 } else y))) ∧
  (∀ s x a, filling s = some x → x.records.length < 4064 → x.firstAt = some a → a + s.evd.cfg.sealAge * 1000000 ≤ s.now → s.evd.noStaging.count = 0 → s.evd.noKey.count = 0 → s.evd.marksDue = [] → 
    Goes (exec .sheafAgeClose s) (fun t =>
      t.evd.staged = s.evd.staged.map (fun y => if y.index = x.index then { y with phase := .closed, close := 1 } else y))) ∧
  (∀ s x y, s.evd.staged.find? (fun y => y.phase == .filling || y.phase == .closed) = some x → x.phase = .closed → x.records.all (fun r => r.pending.isNone) = true → y = { x with sealedAt := replicaTime s 0, restart := s.evd.restart } → 
    Goes (exec .sheafSeal s) (fun t => t.evd.staged = s.evd.staged.map (fun z => if z.index = x.index then
      { y with header := headerBody s y ++ sheafSign s.pwr.prov.ownerGen (headerBody s y) ++ zeros 512, phase := .sealed } else z) ∧
      t.evd.prevIndex = some x.index ∧ t.evd.restart = false ∧
      t.evd.prevHash = sheafHash (headerBody s y ++ sheafSign s.pwr.prov.ownerGen (headerBody s y) ++ zeros 512) ∧
      t.evd.sheaves = min 18446744073709551615 (s.evd.sheaves + 1))) ∧
  (∀ s x, s.evd.staged.find? (fun x => x.phase == .sealed) = some x → s.evd.store = 2 → ringSize s ≠ 0 → (storedAt s (ringPos s x.index)).any (retained s) = false → writingAt s (ringPos s x.index) = false → 
    Goes (exec .sheafWrite s) (fun t => t.evd.ops = s.evd.ops ++
      [⟨.sheaf x.index false, queueFree64 s (posOrdinal s (ringPos s x.index)), false, s.now⟩] ∧
      t.evd.staged = s.evd.staged.map (fun y => if y.index = x.index then { y with phase := .writing } else y))) ∧
  (∀ n s o i x, (s.evd.ops.filter (fun o => o.issued))[n]? = some o → o.kind = .sheaf i false → s.evd.staged.find? (fun y => y.index == i) = some x → 
    Goes (exec (.nvmeCompletion ⟨true, n⟩) s) (fun t => t.evd.ops.map (fun o => o.kind) = (s.evd.ops.erase o).map (fun o => o.kind) ++ [NvKind.sheaf i true] ∧
      t.evd.staged = s.evd.staged ∧
      driveAt t (ringPos s i) = (driveAt s (ringPos s i)).map (fun d => { d with high := x.records.drop 96 }))) ∧
  (∀ s o i d, s.evd.ops.find? (opLate s) = some o → o.retried = false → o.kind = .sheaf i d → 
    Goes (exec .nvmeWriteTimeout s) (fun t =>
      t.evd.ops = s.evd.ops.map (fun x => if x = o then { x with retried := true, since := s.now } else x) ∧
      t.evd.retries = min 18446744073709551615 (s.evd.retries + 1) ∧ t.evd.store = s.evd.store)) ∧
  (∀ l s, s.evd.enumDue = false → s.evd.starting = true → s.evd.store = 1 → allThere (enumerated l s) = true → 
    Goes (exec (.nvmeEnumerate l) s) (fun t => t.evd.recordRunning = true ∧ t.evd.restart = true ∧ t.evd.store = 1 ∧
      s.evd.reservedUpto ≤ t.evd.nextIndex ∧ t.evd.reserveTo = t.evd.nextIndex + 65536)) ∧
  (∀ bad_ s p x, s.evd.store = 2 → s.evd.cfg.scrubRate ≠ 0 → s.evd.scrubAt + 1000000000 / s.evd.cfg.scrubRate ≤ s.now → scrubNext s = some (p, x) → 
    Goes (exec (.scrubRead bad_) s) (fun t => t.evd.scrubPos = p + 1 ∧ t.evd.scrubAt = s.now ∧
      t.evd.scrubbed = min 18446744073709551615 (s.evd.scrubbed + 1) ∧
      (bad_ = true → t.evd.scrubFail = min 18446744073709551615 (s.evd.scrubFail + 1) ∧ t.evd.scrubLast = rd x.header 16 8)))

/-- Each of TAN_CONFIG, TAN_STATUS, TAN_CLAIM_AUTO, TAN_CLAIM_RELEASE, TAN_CLAIM_MAINTENANCE, TAN_COMPARE_LIMITS, CLAIM_SEND, CLAIM_DECISION, CLAIM_CHECK, SHARED_DRIVER_ENABLE, CLAIM_FRAME, TIME_WORD, MIRROR, TANDEM_REPORT, REJOIN_HOLD_EXPIRY completes: for every state and operands that meet a clause's conditions, exec answers a next state, the one the clause gives or one with the effects it states. The choices under them are in log entry 37. -/
def Obligations.TandemComplete : Prop :=
  (∀ rq s n, runs 0x0D01 rq s = true → rq.payload.length = 24 → n = tanParse rq.payload → n.flags < 4 → 2 ≤ n.active → n.active ≤ 254 → 1 ≤ n.standby → n.standby ≤ 253 → n.standby < n.active → rd rq.payload 3 1 = 0 → rd rq.payload 6 2 = 0 → 1000 ≤ n.slaveBw → n.slaveBw ≤ 100000 → n.rejoin ≤ 86400 → n.common < 524288 → rd rq.payload 20 4 = 0 → ((bit s.tan.cfg.flags 0 = true → (s.tan.cfg.active, s.tan.cfg.standby, s.tan.cfg.shared) = (n.active, n.standby, n.shared))) → tanLoop s = false → 
    Goes (exec (.tanConfig rq) s) (fun t => t.tan.cfg = n ∧ Answered 0x0D01 rq (tanRecord n) s t)) ∧
  (∀ rq s, runs 0x0D02 rq s = true → rq.payload = [] → 
    exec (.tanStatus rq) s = .next (replied 0x0D02 rq (tanStatusBytes s) s)) ∧
  (∀ rq q s, q = withByte 0 0 rq → runs 0x0D03 q s = true → q.payload.length = 4 → rd q.payload 1 3 = 0 → tanOn s = true → 
    Goes (exec (.tanClaimAuto rq) s) (fun t => t.tan.release = false ∧ t.tan.maintenance = false ∧ Held 0x0D03 q s t ∧
      t.tan.claimsHeld = s.tan.claimsHeld ++ [s.kcp.nextId])) ∧
  (∀ rq q s, q = withByte 0 1 rq → runs 0x0D03 q s = true → q.payload.length = 4 → rd q.payload 1 3 = 0 → tanOn s = true → 
    Goes (exec (.tanClaimRelease rq) s) (fun t => t.tan.release = true ∧ t.tan.own = 0 ∧ Held 0x0D03 q s t ∧
      t.tan.claimsHeld = s.tan.claimsHeld ++ [s.kcp.nextId])) ∧
  (∀ rq q s, q = withByte 0 2 rq → runs 0x0D03 q s = true → q.payload.length = 4 → rd q.payload 1 3 = 0 → tanOn s = true → s.tan.partner ≠ 255 → ownFault s = 0 → s.tan.dropped = false → 
    Goes (exec (.tanClaimMaintenance rq) s) (fun t => t.tan.maintenance = true ∧ t.tan.own = 255 ∧ Held 0x0D03 q s t ∧
      t.tan.claimsHeld = s.tan.claimsHeld ++ [s.kcp.nextId])) ∧
  (∀ rq s, runs 0x0D04 rq s = true → rq.payload.length = 16 → 64 ≤ rd rq.payload 0 4 → rd rq.payload 0 4 ≤ 64000 → 1 ≤ rd rq.payload 4 4 → rd rq.payload 4 4 ≤ 60000 → rd rq.payload 8 8 = 0 → 
    Goes (exec (.tanCompareLimits rq) s) (fun t => t.tan = { s.tan with lim := ⟨rd rq.payload 0 4, rd rq.payload 4 4⟩ } ∧
      Answered 0x0D04 rq (tanLimBytes t) s t)) ∧
  (∀ s, tanOn s = true → s.tan.claimsHeld = [] → 
    Goes (exec .claimSend s) (fun t => t.tan = { (comparisonOut s).tan with sentValid := true, sentClaim := s.tan.own, outFrame := claimFrameBytes s, claimsHeld := [] })) ∧
  (∀ s, tanOn s = true → 
    Goes (exec .claimDecision s) (fun t => t.tan.own = (claimRow s).1 ∧ t.tan.dropCause = (claimRow s).2 ∧ t.tan.role = roleOf t)) ∧
  (∀ s l w, tanOn s = true → l.findSome? claimOfLine = some w → 
    Goes (exec (.claimCheck l) s) (fun t => t.tan.partner = w % 256 ∧ t.tan.missedRun = 0 ∧ t.tan.lineMissRun = 0 ∧
      t.tan.missedWords = s.tan.missedWords ∧ t.tan.role = roleOf t)) ∧
  (∀ s m, s.tan.armedAt = some m → m ≤ replicaTime s 0 → s.tan.sentValid = true → s.tan.driving = false → 
    Goes (exec .sharedDriverEnable s) (fun t => t.tan.driving = true ∧ t.tan.armedAt = none ∧
      t.tan.handovers = min 4294967295 (s.tan.handovers + 1) ∧ t.tan.lastHandover = ftSec (replicaTime s 0))) ∧
  (∀ s f, tanOn s = true → f.length = 13 → rd f 0 1 = 1 → 
    Goes (exec (.claimFrame (some (withCrc f))) s) (fun t => t.tan.linkGood = min 1000 (s.tan.linkGood + 1) ∧ t.tan.linkBad = 0 ∧
      t.tan.frameClaim = some (s.tan.frameClaim.getD (rd f 5 1)) ∧ t.tan.echo = rd f 6 1 ∧
      t.tan.cmp.partnerSettled = bit (rd f 7 1) 1 ∧ (s.tan.linkGood = 999 → t.tan.linkUp = true))) ∧
  (∀ s f, f.length = 221 → rd f 0 1 = 2 → 
    Goes (exec (.timeWord (some (withCrc f))) s) (fun t => t.tan.word = some (tandemWord f) ∧ t.tan.wordFresh = true ∧ t.tan.edge13 = none)) ∧
  (∀ s f, f.length = 73 → rd f 0 1 = 3 → 
    Goes (exec (.mirror (some (withCrc f))) s) (fun t => t.tan = { s.tan with mirror := (f.drop 1).take 64, partnerGen := rdBe f 65 8 })) ∧
  (∀ s, tanOn s = true → 
    Goes (exec .tandemReport s) (fun t => t.bus.tandemReport = tandemReportBytes s ∧ t.tan.outWord = timeWordBytes s ∧
      t.tan.outMirror = withCrc (be 1 3 ++ tanStatusBytes s ++ be 8 s.kcp.g))) ∧
  (∀ s r, s.tan.rejoinAt = some r → s.tan.dropped = true → s.tan.cmp.latched = false → s.tan.cfg.rejoin ≠ 0 → r + s.tan.cfg.rejoin * 1000000000 ≤ s.now → 
    Goes (exec .rejoinHoldExpiry s) (fun t => t.tan.dropped = false ∧ t.tan.rejoinAt = none ∧ t.tan.role = roleOf t))

/-- Each of SYN_CONFIG, SYNC_IN_ARM, SYN_STATUS, OUT_PPS_CONFIG, OUT_SAMPLE_CLOCK, REFCLK_SPREAD completes: for every state and operands that meet a clause's conditions, exec answers a next state, the one the clause gives or one with the effects it states. The phase errors that SYN_STATUS reports are free values (log entry 3). -/
def Obligations.OutputCommandsComplete : Prop :=
  (∀ rq s a n, runs 0x0E01 rq s = true → rq.payload.length = 24 → a = rd rq.payload 0 1 → a < 4 → rd rq.payload 1 1 < 2 → rd rq.payload 2 1 = 0 → rd rq.payload 3 1 = 0 → n = (⟨bit (rd rq.payload 1 1) 0, rd rq.payload 4 4, rd rq.payload 8 4, rd rq.payload 12 4 ^^^ seedBase a, rd rq.payload 16 2, rd rq.payload 20 4⟩ : SynCfg) → 10000 ≤ n.fvco → n.fvco ≤ 12000 → 100 ≤ n.bw → n.bw ≤ 2000 → n.bw % 100 = 0 → 10 ≤ n.lockWin → n.lockWin ≤ 1000 → 100 ≤ rd rq.payload 18 2 → rd rq.payload 18 2 ≤ 10000 → 64 ≤ n.lockN → n.lockN ≤ 1048576 → ((n.enable = true ∨ (outputsOf s a).any (outEnabled s) = false)) → 
    Goes (exec (.synConfig rq) s) (fun t => (t.apll a).cfg = n ∧ t.syn.checkLimit = rd rq.payload 18 2 ∧ t.syn.syncArmed = s.syn.syncArmed ∧
      (((s.apll a).cfg.enable, (s.apll a).cfg.fvco, (s.apll a).cfg.bw, (s.apll a).cfg.seedDelta) ≠ (n.enable, n.fvco, n.bw, n.seedDelta) →
      (t.apll a).locked = false ∧ (t.apll a).resumed = false) ∧ Answered 0x0E01 rq (synRecord t a) s t)) ∧
  (∀ rq q s a n, q = withByte 2 1 rq → runs 0x0E01 q s = true → q.payload.length = 24 → a = rd q.payload 0 1 → a < 4 → rd q.payload 1 1 < 2 → rd q.payload 3 1 = 0 → n = (⟨bit (rd q.payload 1 1) 0, rd q.payload 4 4, rd q.payload 8 4, rd q.payload 12 4 ^^^ seedBase a, rd q.payload 16 2, rd q.payload 20 4⟩ : SynCfg) → n = (s.apll a).cfg → 10000 ≤ n.fvco → n.fvco ≤ 12000 → 100 ≤ n.bw → n.bw ≤ 2000 → n.bw % 100 = 0 → 10 ≤ n.lockWin → n.lockWin ≤ 1000 → 100 ≤ rd q.payload 18 2 → rd q.payload 18 2 ≤ 10000 → 64 ≤ n.lockN → n.lockN ≤ 1048576 → n.enable = true → 
    Goes (exec (.syncInArm rq) s) (fun t => t.syn.syncArmed = true ∧ t.apll a = s.apll a ∧ Answered 0x0E01 q (synRecord t a) s t)) ∧
  (∀ rq s, runs 0x0E02 rq s = true → rq.payload = [] → 
    exec (.synStatus rq) s = .next (replied 0x0E02 rq (le 4 (outBound s) ++ le 4 6 ++
      le 1 (flag 0 s.syn.syncArmed + flag 1 s.tim.tb.running + flag 2 (decide (s.syn.nvmeDownUsed ≠ 0))) ++ zeros 7 ++
      leOptIv (tget none s.syn.loopErr 0) ++ leOptIv (tget none s.syn.loopErr 1) ++
      (List.range 4).flatMap (fun a => apllBytes s a (Config.freeValue (s.free + a) % 4294967296)) ++
      (List.range 16).flatMap (outBytes s)) { s with free := s.free + 4 })) ∧
  (∀ rq s i n, runs 0x0E03 rq s = true → rq.payload.length = 24 → i = rd rq.payload 0 1 → i < 4 → n = (⟨true, rd rq.payload 1 1, rd rq.payload 2 1, rdI rq.payload 4 8, rd rq.payload 12 4, rd rq.payload 16 8⟩ : PpsCfg) → n.flags < 8 → bit n.flags 1 = false → n.src < 4 → rd rq.payload 3 1 = 0 → n.offset.natAbs ≤ 32768000000000 → 10 ≤ n.width → n.width ≤ 500000000 → n.divider = 0 → bit (ppsRec s i).flags 1 = false → 
    Goes (exec (.outPpsConfig rq) s) (fun t => ppsRec t i = n ∧
      (n.offset ≠ (ppsRec s i).offset → (t.outp i).offsetFrom = replicaTime s 0 + ms1) ∧ Answered 0x0E03 rq (ppsBytes t i) s t)) ∧
  (∀ rq s i n, runs 0x0E04 rq s = true → rq.payload.length = 48 → i = rd rq.payload 0 1 → i < 8 → n = (⟨rd rq.payload 1 1, rd rq.payload 2 1, rd rq.payload 3 1, rd rq.payload 4 4, rd rq.payload 8 4, rd rq.payload 12 4, rdTime rq.payload 16, rd rq.payload 32 4⟩ : SclkCfg) → n.flags < 4 → n.src < 4 → ((n.markerOut = 255 ∨ (n.markerOut < 4 ∧ outMarker s n.markerOut = true ∧ (ppsRec s n.markerOut).src = n.src))) → sclkOk (s.apll n.src).cfg.fvco n = true → 1 ≤ n.frameA → 2 * n.frameA ≤ n.frameB → rd rq.payload 16 4 = 0 → rd rq.payload 20 4 % 1000 = 0 → rd rq.payload 20 4 < 1000000000 → 1024 ≤ n.lead → n.lead ≤ 16777216 → rd rq.payload 36 12 = 0 → bit (sclkRec s i).flags 0 = false → (((replicaTime s 0 + 2 * ms1) * (s.apll n.src).cfg.fvco : Nat) : Int) ≤ (startInstant (s.apll n.src).cfg.fvco n).1 → 
    Goes (exec (.outSampleClock rq) s) (fun t => sclkRec t i = n ∧ (bit n.flags 0 = true → (t.outp (8 + i)).started = false ∧
      (n.markerOut < 4 → (t.outp n.markerOut).markerMissed = false)) ∧
      Answered 0x0E04 rq (sclkBytes t i) s t)) ∧
  (∀ rq s, runs 0x0E05 rq s = true → rq.payload.length = 8 → rd rq.payload 0 1 ≤ 50 → rd rq.payload 1 1 ≤ 25 → rd rq.payload 2 1 < 2 → rd rq.payload 3 1 = 0 → 10000 ≤ rd rq.payload 4 4 → rd rq.payload 4 4 ≤ 200000 → ((rd rq.payload 0 1 = s.syn.nvmeDown ∨ s.evd.store < 2)) → 
    Goes (exec (.refclkSpread rq) s) (fun t => t.syn = { s.syn with nvmeDown := rd rq.payload 0 1, auxCentre := rd rq.payload 1 1, auxEnable := bit (rd rq.payload 2 1) 0, auxFreq := rd rq.payload 4 4 } ∧ Answered 0x0E05 rq (spreadBytes t) s t))

/-- Each of APLL_LOCK, APLL_UNLOCK, OUTPUT_RESUME, PPS_EDGE, LOOP_CHECK, SAMPLE_CLOCK_START, EPOCH_START_MARKER, SYNC_IN_EDGE completes: for every state and operands that meet a clause's conditions, exec answers a next state, the one the clause gives or one with the effects it states. The cycles and edges that a measurement gives are the event's operands (log entry 38). -/
def Obligations.OutputEventsComplete : Prop :=
  (∀ w a s, w.apll = a → a < 4 → (s.apll a).cfg.enable = true → (s.apll a).locked = false → lockReached (s.apll a) w.runs = true → 
    Goes (exec (.apllLock w) s) (fun t => t.apll a = { s.apll a with locked := true, inputLost := false, lockedAt := s.now, resumed := false, resumeAt := some (resumeInstant s) } ∧ bit (t.flt 6).cond (16 + a) = false)) ∧
  (∀ a l s, a < 4 → (s.apll a).cfg.enable = true → (s.apll a).locked = true → lossHolds (s.apll a) l = true → 
    Goes (exec (.apllUnlock a l) s) (fun t => t.apll a = { s.apll a with locked := false, inputLost := inputGone l, resumed := false, resumeAt := none, unlocks := min 4294967295 ((s.apll a).unlocks + 1) } ∧ bit (t.flt 6).status (16 + a) = true ∧
      ∀ o ∈ outputsOf s a, (t.outp o).synced = false)) ∧
  (∀ a s r, a < 4 → (s.apll a).resumeAt = some r → r ≤ replicaTime s 0 → (s.apll a).locked = true → 
    Goes (exec (.outputResume a) s) (fun t => t.apll a = { s.apll a with resumed := true, resumeAt := none } ∧
      ∀ o ∈ outputsOf s a, (t.outp o).syncGate = false)) ∧
  (∀ i s k e, i < 4 → pulseDue s i = some (k, e) → (s.outp i).pulseAt < e → outMarker s i = false → outDrives s i = true → labelEmitted (s.outp i).labels k = false → 
    Goes (exec (.ppsEdge i) s) (fun t => t.outp i = { s.outp i with pulseAt := e.toNat, pulseEnd := e.toNat + pulseWidth s i, drove := true, labels := addLabel (s.outp i).labels k })) ∧
  (∀ x s, (s.outp 0).drove = true → outMarker s 0 = false → 
    Goes (exec (.loopCheck (some x) none) s) (fun t => tget none t.syn.loopErr 0 = some (loopErrOf s 0 x) ∧
      (s.syn.checkLimit * 65536 < (loopErrOf s 0 x).natAbs * 1000 → tget 0 t.syn.loopBad 0 = min 3 (tget 0 s.syn.loopBad 0 + 1)) ∧
      ((loopErrOf s 0 x).natAbs * 1000 ≤ s.syn.checkLimit * 65536 →
      tget 0 t.syn.loopBad 0 = if tget 0 s.syn.loopBad 0 = 3 ∧ tget 0 s.syn.loopGood 0 < 2 then 3 else 0) ∧
      (outPath s = false → outPath t = true → bit (t.flt 0).status 8 = true))) ∧
  (∀ i s, i < 8 → outEnabled s (8 + i) = true → (s.outp (8 + i)).started = false → (startInstant (outFvco s (8 + i)) (sclkRec s i)).1 ≤ replicaTime s 0 * outFvco s (8 + i) → 
    Goes (exec (.sampleClockStart i) s) (fun t => t.outp (8 + i) = { s.outp (8 + i) with started := true })) ∧
  (∀ i s, i < 8 → outEnabled s (8 + i) = true → (sclkRec s i).markerOut < 4 → (sclkRec s i).epochStart ≤ replicaTime s 0 → (s.outp (8 + i)).pulseAt < (sclkRec s i).epochStart → (s.outp (8 + i)).synced = false → outDrives s (8 + i) = true → outDrives s (sclkRec s i).markerOut = true → outMarker s (sclkRec s i).markerOut = true → 
    Goes (exec (.epochStartMarker i) s) (fun t => (t.outp (8 + i)).pulseAt = (sclkRec s i).epochStart ∧
      t.outp (sclkRec s i).markerOut = { s.outp (sclkRec s i).markerOut with pulseAt := (sclkRec s i).epochStart, pulseEnd := (sclkRec s i).epochStart + frameWidth s (8 + i), drove := true })) ∧
  (∀ s, s.syn.syncArmed = true → 
    Goes (exec (.syncInEdge true) s) (fun t => t.syn.syncArmed = false ∧ ∀ o ∈ List.range 16, 4 ≤ o → outSyncEn s o = true →
      outDrives s o = true → t.outp o = { s.outp o with synced := true, lengthen := 0, lengthenB := 0, syncEdge := divUp (replicaTime s 0 * outFvco s o) us1 + 256 }))

/-- Each of PWR_POLICY, PWR_POLICY_ARBITRATION, PWR_STATUS, VOLTAGE_WINDOW, AVS_FAULT, TEMP_CRIT, TEMP_CRIT_CLEAR completes: for every state and operands that meet a clause's conditions, exec answers a next state, the one the clause gives or one with the effects it states. Measured values are free values (log entry 3). -/
def Obligations.PowerAndTemperatureComplete : Prop :=
  (∀ rq s fl ce, runs 0x0F01 rq s = true → rq.payload.length = 16 → rd rq.payload 0 1 = 1 → rd rq.payload 1 3 = 0 → rd rq.payload 10 6 = 0 → fl = rd rq.payload 4 2 → ce = rd rq.payload 6 2 → voltageOk fl = true → voltageOk ce = true → fl ≤ ce → 10 ≤ rd rq.payload 8 2 → rd rq.payload 8 2 ≤ 200 → fl ≤ s.pwr.vset → s.pwr.vset ≤ ce → 
    Goes (exec (.pwrPolicy rq) s) (fun t => t.pwr = { s.pwr with floor := fl, ceiling := ce, target := rd rq.payload 8 2 } ∧ t.arb = s.arb ∧ t.kcp.slots = s.kcp.slots ∧ Answered 0x0F01 rq (pwrBytes t) s t)) ∧
  (∀ rq q s, q = withByte 0 2 rq → runs 0x0F01 q s = true → q.payload.length = 72 → 1 ≤ rd q.payload 1 1 → rd q.payload 1 1 ≤ 16 → rd q.payload 2 2 = 0 → (∀ r ∈ List.range 17, rd q.payload (4 + 4 * r) 2 ≤ 4095 ∧ rd q.payload (6 + 4 * r) 2 ≤ 63) → 
    Goes (exec (.pwrPolicyArbitration rq) s) (fun t =>
      t.arb.next = some (rd q.payload 1 1, (List.range 17).map (fun r => rd q.payload (4 + 4 * r) 2), (List.range 17).map (fun r => rd q.payload (6 + 4 * r) 2)) ∧
      t.arb.burst = s.arb.burst ∧ t.arb.cryptoW = s.arb.cryptoW ∧ t.arb.granW = s.arb.granW ∧ t.arb.held = s.arb.held ++ [s.kcp.nextId] ∧ Held 0x0F01 q s t)) ∧
  (∀ rq s, runs 0x0F02 rq s = true → rq.payload = [] → s.pwr.avsFault = true → 
    Goes (exec (.pwrStatus rq) s) (fun t => t.free = s.free + 1 ∧ t.pwr = s.pwr ∧ ∀ r ∈ (t.kcp.replies.drop s.kcp.replies.length).head?.toList, r.status = stOK ∧ r.tag = rq.tag ∧
      r.payload.take 16 = le 1 (pwrFlags s) ++ le 1 s.pwr.sState ++ le 2 s.pwr.vset ++ le 2 0xFFFF ++ le 2 s.pwr.p99 ++ le 4 s.pwr.unmetMs ++ le 4 s.pwr.avsWrites ∧
      (r.payload.drop 16).take 12 = (List.range 6).flatMap (fun d => leI 2 (dieTemp s d)))) ∧
  (∀ p99 ms s, s.pwr.sState ≠ 0 → s.pwr.lastWindow + 100000 ≤ s.now → s.pwr.avsFault = false → s.pwr.held = [] → p99 ≤ 65535 → 10 * s.pwr.target < p99 → s.pwr.floor ≤ s.pwr.vset → s.pwr.vset + 10 ≤ s.pwr.ceiling → 
    Goes (exec (.voltageWindow ⟨p99, ms⟩ true) s) (fun t => t.pwr.vset = s.pwr.vset + 10 ∧ t.pwr.avsWrites = satInc sat32 s.pwr.avsWrites ∧ t.pwr.p99 = p99 ∧ t.pwr.margins.head? = some (s.now, ms) ∧ t.pwr.lastWindow = s.now ∧ t.pwr.unmetMs = s.pwr.unmetMs)) ∧
  (∀ alert s, s.pwr.sState ≠ 0 → ((alert = true ∨ 3 ≤ s.pwr.avsFail)) → s.pwr.avsFault = false → bit (s.flt 7).status 4 = false → 
    Goes (exec (.avsFault alert) s) (fun t => t.pwr.avsFault = true ∧ bit (t.flt 7).status 4 = true ∧ bit (t.flt 7).cond 4 = true ∧ t.regs.irq = (irqArrive 2 6 s).regs.irq)) ∧
  (∀ die temp s, die < 6 → 110 * 128 < temp → 
    Goes (exec (.tempCrit die temp) s) (fun t => t.pwr.tempCrit = true ∧ dieTemp t die = temp ∧ bit (t.flt 7).status 5 = true ∧ bit (t.flt 7).cond 5 = true)) ∧
  (∀ a b c d e f s, (∀ x ∈ [a, b, c, d, e, f], x ≠ -32768 ∧ x < 100 * 128) → 
    Goes (exec (.tempCritClear [a, b, c, d, e, f]) s) (fun t => t.pwr.tempCrit = false ∧ bit (t.flt 7).cond 5 = false ∧ (t.flt 7).status = (s.flt 7).status))

/-- Each of LOOPBACK_SET, LOOPBACK_CLEAR, LOOPBACK_EXPIRY, LOOPBACK_TEST_UNIT, PCIE_LINK_LOOPBACK, BIST_REPORT, BIST_KAT, BIST_MARCH, BIST_RNG, BIST_PRBS, BIST_REPLICA, BIST_END, TEST_UNLOCK_CHALLENGE, TEST_UNLOCK_RESPONSE, TEST_UNLOCK_END, UNLOCK_EFFECTIVE, UNLOCK_EXPIRY, BYPASS, IDCODE, SAMPLE_PRELOAD, EXTEST, CLAMP, HIGHZ, EXTEST_PULSE, EXTEST_TRAIN, TAP_RESET completes: for every state and operands that meet a clause's conditions, exec answers a next state, the one the clause gives or one with the effects it states. Bit errors and nonces are free values (log entry 3); the check of a response is uninterpreted (log entry 11). -/
def Obligations.LoopbackAndTestComplete : Prop :=
  (∀ rq i d s, runs 0x1001 rq s = true → rq.payload.length = 32 → rd rq.payload 0 1 = 1 → d = rd rq.payload 1 1 → i = rd rq.payload 2 2 → 1 ≤ d → d ≤ 4 → i < 16 → 1 ≤ rd rq.payload 4 4 → rd rq.payload 4 4 ≤ 3600 → (loopOf s 1 i).depth = 0 → portServes s i = false → 
    Goes (exec (.loopbackSet rq) s) (fun t => loopOf t 1 i = { depth := d, endsAt := s.now + rd rq.payload 4 4 * 1000000000, lastUnit := s.now } ∧ Answered 0x1001 rq [] s t)) ∧
  (∀ rq f i s, runs 0x1002 rq s = true → rq.payload.length = 4 → f = rd rq.payload 0 1 → i = rd rq.payload 2 2 → 1 ≤ f → f ≤ 7 → rd rq.payload 1 1 = 0 → i < instances f → (loopOf s f i).depth ≠ 0 → 
    Goes (exec (.loopbackClear rq) s) (fun t => loopOf t f i = {} ∧ (f = 6 → (t.slot i).st.held = false) ∧ Answered 0x1002 rq (loopReport (loopOf s f i)) s t)) ∧
  (∀ f i s, (loopOf s f i).endsAt ≠ 0 → (loopOf s f i).endsAt ≤ s.now → (loopOf s f i).depth ≠ 0 → 
    Goes (exec (.loopbackExpiry f i) s) (fun t => loopOf t f i = {} ∧ (f = 6 → (t.slot i).st.held = false))) ∧
  (∀ f i x l s, l = loopOf s f i → selfTraffic f l.depth = true → l.lastUnit + 10000 ≤ s.now → 
    Goes (exec (.loopbackTestUnit f i (some x) true) s) (fun t => loopOf t f i = { l with sent := satInc sat32 l.sent, good := satInc sat32 l.good, lastUnit := s.now, n := l.n + 1, sum := l.sum + x, sumSq := l.sumSq + x.natAbs * x.natAbs })) ∧
  (∀ s, (loopOf s 3 0).depth = 0 → 
    Goes (exec .pcieLinkLoopback s) (fun t => loopOf t 3 0 = { depth := 2 } ∧ t.kcp.linkUp = false ∧ bit (t.flt 7).status 2 = true ∧ bit (t.flt 7).cond 2 = true ∧ (∀ r ∈ t.kcp.replies, ∀ n ∈ List.range 8, r.src ≠ .ring n) ∧ ∀ r ∈ s.kcp.replies, r.src = .sideband → r ∈ t.kcp.replies)) ∧
  (∀ rq q i s, q = withByte 0 0 rq → runs 0x1003 q s = true → q.payload.length = 4 → rd q.payload 1 1 = 0 → i = rd q.payload 2 2 → 1 ≤ i → i ≤ 5 → 
    exec (.bistReport rq) s = .next (replied 0x1003 q (bistReply s i) s)) ∧
  (∀ rq q i s, q = withByte 0 1 rq → runs 0x1003 q s = true → q.payload.length = 4 → rd q.payload 1 1 = 0 → i = rd q.payload 2 2 → (bistOf s 1).state ≠ 1 → 
    Goes (exec (.bistKat rq) s) (fun t => bistOf t 1 = { state := 1, instance_ := i, startAt := s.now } ∧ Pending 0x1003 q (bistReply t 1) s t)) ∧
  (∀ rq q i s, q = withByte 0 2 rq → runs 0x1003 q s = true → q.payload.length = 4 → rd q.payload 1 1 = 0 → i = rd q.payload 2 2 → i < 12 → (s.engine (8 * i)).state = 0 → (bistOf s 2).state ≠ 1 → 
    Goes (exec (.bistMarch rq) s) (fun t => bistOf t 2 = { state := 1, instance_ := i, startAt := s.now } ∧ Pending 0x1003 q (bistReply t 2) s t)) ∧
  (∀ rq q i s, q = withByte 0 3 rq → runs 0x1003 q s = true → q.payload.length = 4 → rd q.payload 1 1 = 0 → i = rd q.payload 2 2 → (bistOf s 3).state ≠ 1 → 
    Goes (exec (.bistRng rq) s) (fun t => bistOf t 3 = { state := 1, instance_ := i, startAt := s.now } ∧ Pending 0x1003 q (bistReply t 3) s t)) ∧
  (∀ rq q i s, q = withByte 0 4 rq → runs 0x1003 q s = true → q.payload.length = 4 → rd q.payload 1 1 = 0 → i = rd q.payload 2 2 → i < 16 → (s.ethP i).state = 0 → (bistOf s 4).state ≠ 1 → 
    Goes (exec (.bistPrbs rq) s) (fun t => bistOf t 4 = { state := 1, instance_ := i, startAt := s.now } ∧ Pending 0x1003 q (bistReply t 4) s t)) ∧
  (∀ rq q i s, q = withByte 0 5 rq → runs 0x1003 q s = true → q.payload.length = 4 → rd q.payload 1 1 = 0 → i = rd q.payload 2 2 → i < 4 → (bistOf s 5).state ≠ 1 → 
    Goes (exec (.bistReplica rq) s) (fun t => bistOf t 5 = { state := 1, instance_ := i, startAt := s.now } ∧ Pending 0x1003 q (bistReply t 5) s t)) ∧
  (∀ k e b s, k ∈ [1, 4, 5] → b = bistOf s k → b.state = 1 → b.startAt + bistLeast k ≤ s.now → 
    exec (.bistEnd k e) s = .next (commitG s (setBist k { b with state := if e = 0 then 2 else 3, errors := min 65535 e, elapsed := min sat32 ((s.now - b.startAt) / 1000000) } s))) ∧
  (∀ rq q s, q = withByte 0 1 rq → runs 0x1004 q s = true → q.payload.length = 8 → rd q.payload 1 1 < 4 → rd q.payload 2 2 = 0 → 60 ≤ rd q.payload 4 4 → rd q.payload 4 4 ≤ 86400 → s.tst.deniedUntil ≤ s.now → 
    Goes (exec (.testUnlockChallenge rq) s) (fun t => t.tst = { s.tst with challenge := challengeBytes (drawRandom 32 s).1 (rd q.payload 1 1) (rd q.payload 4 4) s, challengeAt := s.now } ∧ t.free = s.free + 1 ∧
      Answered 0x1004 q (challengeBytes (drawRandom 32 s).1 (rd q.payload 1 1) (rd q.payload 4 4) s) s t)) ∧
  (∀ rq q ch s, q = withByte 0 2 rq → runs 0x1004 q s = true → q.payload.length = 152 → rd q.payload 1 1 < 4 → rd q.payload 2 2 = 0 → s.tst.deniedUntil ≤ s.now → s.tst.challenge = ch → (q.payload.drop 4).take 52 = ch → s.now ≤ s.tst.challengeAt + 60000000000 → 
    Goes (exec (.testUnlockResponse rq) s) (fun t => if unlockVerifies s ch ((q.payload.drop 56).take 96) = true then
      t.tst = { s.tst with challenge := [], fails := 0, scope := rd ch 44 1, reported := some (s.now + rd ch 48 4 * 1000000000) } ∧ Answered 0x1004 q (le 8 (ftSec (replicaTime s 0) + rd ch 48 4)) s t
      else t.tst.challenge = [] ∧ t.tst.scope = s.tst.scope ∧ t.tst.reported = s.tst.reported ∧ t.tst.inForce = s.tst.inForce ∧ (s.tst.fails = 2 → t.tst.deniedUntil = s.now + 600000000000) ∧ t.kcp.replies.length = s.kcp.replies.length + 1)) ∧
  (∀ rq q s, q = withByte 0 3 rq → runs 0x1004 q s = true → q.payload.length = 4 → rd q.payload 1 1 < 4 → rd q.payload 2 2 = 0 → s.tst.deniedUntil ≤ s.now → s.tst.inForce = true → 
    Goes (exec (.testUnlockEnd rq) s) (fun t => t.tst = { s.tst with reported := none, inForce := false, scope := 0 } ∧ Answered 0x1004 q [] s t)) ∧
  (∀ s, s.tst.reported ≠ none → (s.replica 0).frame.testUnlock = true → 
    Goes (exec .unlockEffective s) (fun t => t.tst = { s.tst with inForce := true })) ∧
  (∀ e s, s.tst.reported = some e → e ≤ s.now → 
    Goes (exec .unlockExpiry s) (fun t => t.tst = { s.tst with reported := none, inForce := false, scope := 0 })) ∧
  (∀ s, 
    exec .bypass s = .next (commitG s { s with tst := { s.tst with tap := .bypass, tapReset := false, pinsHeld := false, pinsOff := false, shifted := [0] } })) ∧
  (∀ s, 
    exec .idcode s = .next (commitG s { s with tst := { s.tst with tap := .idcode, tapReset := false, pinsHeld := false, pinsOff := false, shifted := le 4 idcode } })) ∧
  (∀ a b s, 
    exec (.samplePreload a b) s = .next (commitG s { s with tst := { s.tst with tap := .samplePreload, tapReset := false, pinsHeld := false, pinsOff := false, shifted := a, boundary := b } })) ∧
  (∀ s, 
    exec .extest s = .next (commitG s { s with tst := { s.tst with tap := .extest, tapReset := false, pinsHeld := true, pinsOff := false, shifted := s.tst.boundary } })) ∧
  (∀ s, 
    exec .clamp s = .next (commitG s { s with tst := { s.tst with tap := .clamp, tapReset := false, pinsHeld := true, pinsOff := false, shifted := [0] } })) ∧
  (∀ s, 
    Goes (exec .highz s) (fun t => t.tst = { s.tst with tap := .highz, tapReset := false, pinsHeld := true, pinsOff := true, shifted := [0] } ∧ fltP t = true ∧ fltN t = false)) ∧
  (∀ s, 
    exec .extestPulse s = .next (commitG s { s with tst := { s.tst with tap := .extestPulse, tapReset := false, pinsHeld := true, pinsOff := false, shifted := s.tst.boundary } })) ∧
  (∀ s, 
    exec .extestTrain s = .next (commitG s { s with tst := { s.tst with tap := .extestTrain, tapReset := false, pinsHeld := true, pinsOff := false, shifted := s.tst.boundary } })) ∧
  (∀ s, 
    Goes (exec .tapReset s) (fun t => t.tst = { s.tst with tap := .idcode, tapReset := true, pinsHeld := false, pinsOff := false, shifted := [] } ∧ fltP t = !faultDriven s))

/-- Each of FAULT_READ, FAULT_CLEAR, IRQ_GROUP_CONFIG, IRQ_GROUP_ACK, FLT_PIN_MASK, PERF_FILTER, PERF_READ completes: for every state and operands that meet a clause's conditions, exec answers a next state, the one the clause gives or one with the effects it states. -/
def Obligations.FaultInterruptCounterCommandsComplete : Prop :=
  (∀ rq b w n s, runs 0x1101 rq s = true → rq.payload.length = 4 → b = rd rq.payload 0 1 → w = rd rq.payload 1 1 → n = rd rq.payload 2 1 → rd rq.payload 3 1 = 0 → b ≤ 12 → 1 ≤ n → w + n ≤ 64 → 
    exec (.faultRead rq) s = .next (replied 0x1101 rq (le 4 (fltBlockId b) ++ le 4 (fltSevereWord s b) ++ (List.range n).flatMap (fun i =>
      le 4 (word32 (s.flt b).status (w + i)) ++ le 4 (fltClassWord s b (w + i)) ++ le 4 (word32 (s.flt b).mask (w + i)) ++ le 4 (word32 (s.flt b).safe (w + i)))) s)) ∧
  (∀ rq b w s, runs 0x1102 rq s = true → rq.payload.length = 8 → b = rd rq.payload 0 1 → w = rd rq.payload 1 1 → rd rq.payload 2 2 = 0 → b ≤ 12 → w ≤ 63 → 
    Goes (exec (.faultClear rq) s) (fun t => (∀ i ∈ List.range 32, bit (t.flt b).status (32 * w + i) = (bit (s.flt b).status (32 * w + i) && !(bit (rd rq.payload 4 4) i && !bit (s.flt b).cond (32 * w + i)))) ∧
      (t.flt b).cond = (s.flt b).cond ∧ (t.flt b).mask = (s.flt b).mask ∧ Answered 0x1102 rq (le 4 (word32 (t.flt b).status w)) s t)) ∧
  (∀ rq q g s, q = withByte 1 0 rq → runs 0x1103 q s = true → q.payload.length = 48 → g = rd q.payload 0 1 → g ≤ 8 → rd q.payload 2 1 < 4 → ((g ≠ 0 ∨ bit (rd q.payload 2 1) 1 = false)) → rd q.payload 4 2 ≤ 1000 → rd q.payload 6 2 = 0 → (∀ k ∈ List.range 32, rd q.payload (8 + k) 1 < 2 ^ min 8 (irqSources g - 8 * k)) → rd q.payload 40 8 = 0 → 
    Goes (exec (.irqGroupConfig rq) s) (fun t => t.irqG g = { s.irqG g with enable := bit (rd q.payload 2 1) 0, sideband := bit (rd q.payload 2 1) 1, vectorDelta := rd q.payload 3 1 ^^^ g, holdoff := rd q.payload 4 2, disabled := allSources g - rd q.payload 8 32, pend := (s.irqG g).pend &&& rd q.payload 8 32 } ∧
      Answered 0x1103 q (irqBytes g (t.irqG g) (t.irqG g)) s t)) ∧
  (∀ rq q g s, q = withByte 1 1 rq → runs 0x1103 q s = true → q.payload.length = 48 → g = rd q.payload 0 1 → g ≤ 8 → rd q.payload 6 2 = 0 → (∀ k ∈ List.range 32, rd q.payload (8 + k) 1 < 2 ^ min 8 (irqSources g - 8 * k)) → rd q.payload 40 8 = 0 → 
    Goes (exec (.irqGroupAck rq) s) (fun t => t.irqG g = acknowledgeAll (s.irqG g) (irqSources g) (rd q.payload 8 32) ∧ Answered 0x1103 q (irqBytes g (s.irqG g) (s.irqG g)) s t)) ∧
  (∀ rq b w s, runs 0x1104 rq s = true → rq.payload.length = 4 → b = rd rq.payload 0 1 → w = rd rq.payload 1 1 → rd rq.payload 2 2 = 0 → b ≤ 12 → w ≤ 63 → 
    exec (.fltPinMask rq) s = .next (replied 0x1104 rq (le 4 (word32 (s.flt b).mask w) ++ le 4 (fltClassWord s b w) ++ le 4 (word32 (s.flt b).status w)) s)) ∧
  (∀ rq i s, runs 0x0F03 rq s = true → rq.payload.length = 32 → i = rd rq.payload 0 1 → i ≤ 63 → ((rd rq.payload 1 1 ≤ 3 ∨ rd rq.payload 1 1 = 0xFF)) → rd rq.payload 2 1 < 4 → rd rq.payload 4 1 < 8 → rd rq.payload 5 1 = 0 → rd rq.payload 8 2 < 512 → rd rq.payload 10 2 = 0 → rd rq.payload 12 4 < 2 ^ 17 → rd rq.payload 16 1 < 4 → rd rq.payload 17 3 = 0 → rd rq.payload 20 4 < rd rq.payload 24 4 → rd rq.payload 28 4 = 0 → 
    Goes (exec (.perfFilter rq) s) (fun t => tget ({} : Filter) t.regs.filters i = filterParse rq.payload ∧ tget ({} : Perf) t.regs.perf (0x0800 + i) = {} ∧ Answered 0x0F03 rq (filterBytes i (filterParse rq.payload)) s t)) ∧
  (∀ rq f n s, runs 0x0F04 rq s = true → rq.payload.length = 8 → f = rd rq.payload 0 2 → n = rd rq.payload 2 2 → 1 ≤ n → n ≤ 256 → f + n ≤ 0x840 → rd rq.payload 4 1 = 0 → rd rq.payload 5 3 = 0 → 
    exec (.perfRead rq) s = .next (replied 0x0F04 rq (le 8 s.tim.tick ++ (List.range n).flatMap (fun i => le 8 (perfWord s (f + i)))) s))

/-- Each of CMD_SQ_TAIL_WRITE, CMD_CQ_HEAD_WRITE, CMD_RING_CFG_WRITE, CLASS_LOCK, RING_QUIESCE, CMD_RING_STAT_CLEAR, IRQ_INSVC_ACK, FLT_STATUS_CLEAR, PERF_OVF_CLEAR, TIME_NS_READ, SLOW_TIMEOUT, REGISTER_WRITE, IRQ_DELIVERY, MSIX_UNMASK, PARITY_CHECK, MIRROR_WRITE completes: for every state and operands that meet a clause's conditions, exec answers a next state, the one the clause gives or one with the effects it states. -/
def Obligations.RegisterAccessesComplete : Prop :=
  (∀ r x s, r < 8 → serving s = true → (x % 65536 + 65536 - (s.ring r).sqHead) % 65536 ≤ 2 ^ (s.ring r).log2 → 
    Goes (exec (.cmdSqTailWrite r x) s) (fun t => t.ring r = { s.ring r with sqTail := x % 65536 } ∧ t.regs = (countAccess true (0x1020 + 0x40 * r) s).regs)) ∧
  (∀ r x s, r < 8 → serving s = true → (x % 65536 + 65536 - (s.ring r).cqHead) % 65536 ≤ ((s.ring r).cqTail + 65536 - (s.ring r).cqHead) % 65536 → 
    Goes (exec (.cmdCqHeadWrite r x) s) (fun t => (t.ring r).cqHead = x % 65536 ∧ (t.ring r).enable = (s.ring r).enable ∧ (t.ring r).cqFull = ((s.ring r).cqFull && decide (2 ^ (s.ring r).log2 ≤ ((s.ring r).cqTail + 65536 - x % 65536) % 65536)))) ∧
  (∀ r x s, r < 8 → serving s = true → (s.ring r).enable = false → bit x 31 = true → 1 ≤ x / 2 ^ 24 % 16 → x / 2 ^ 24 % 16 ≤ 8 → (s.ring r).lock = false → bit (s.flt 7).safe r = false → ((s.ring r).sqTail + 65536 - (s.ring r).sqHead) % 65536 ≤ 2 ^ (x / 2 ^ 24 % 16) → 
    Goes (exec (.cmdRingCfgWrite r x) s) (fun t => t.ring r = { s.ring r with enable := true, log2 := x / 2 ^ 24 % 16, cls := some (min (x / 2 ^ 20 % 4) (ringMax s r)), lock := bit x 16, vector := x % 256, quiesced := false })) ∧
  (∀ r s, r < 8 → serving s = true → 
    Goes (exec (.classLock r) s) (fun t => (t.ring r).lock = true ∧ (t.ring r).cls = some ((s.ring r).cls.getD (ringMax s r)) ∧ (t.ring r).enable = (s.ring r).enable)) ∧
  (∀ r s, r < 8 → (s.ring r).enable = false → (∀ y ∈ s.kcp.slots, y.req.src = .ring r → y.lost = true) → (∀ y ∈ s.kcp.replies, y.src ≠ .ring r) → 
    Goes (exec (.ringQuiesce r) s) (fun t => t.ring r = { s.ring r with quiesced := true })) ∧
  (∀ r x s, r < 8 → serving s = true → 
    Goes (exec (.cmdRingStatClear r x) s) (fun t => t.ring r = { s.ring r with sqErr := (s.ring r).sqErr && !bit x 7, cqErr := (s.ring r).cqErr && !bit x 6, badBell := (s.ring r).badBell && !bit x 5, cfgErr := (s.ring r).cfgErr && !bit x 3 })) ∧
  (∀ g w x s, g < 9 → w < 8 → serving s = true → 
    Goes (exec (.irqInsvcAck g w x) s) (fun t => t.irqG g = acknowledgeAll (s.irqG g) (irqSources g) (x % 2 ^ 32 * 2 ^ (32 * w)))) ∧
  (∀ b w x s, 1 ≤ b → b < 13 → w < 64 → serving s = true → 
    Goes (exec (.fltStatusClear b w x) s) (fun t => (∀ i ∈ List.range 32, bit (t.flt b).status (32 * w + i) = (bit (s.flt b).status (32 * w + i) && !(bit x i && !bit (s.flt b).cond (32 * w + i)))) ∧ (t.flt b).cond = (s.flt b).cond ∧ (t.flt b).mask = (s.flt b).mask)) ∧
  (∀ e x s, e < 0x840 → serving s = true → bit x 31 = true → 
    Goes (exec (.perfOvfClear e x) s) (fun t => tget ({} : Perf) t.regs.perf e = { tget ({} : Perf) (countAccess true (0x80004 + 8 * e) s).regs.perf e with ovf := false })) ∧
  (∀ s, serving s = true → 
    Goes (exec .timeNsRead s) (fun t => t.bus.live = ⟨ftFrac (replicaTime s 0), ftNs (replicaTime s 0), dieBound s 0, timeState s, timeUtc s, s.kcp.g % 4294967296⟩ ∧ t.regs.flt = s.regs.flt)) ∧
  (∀ o s, slowOffset o = true → serving s = true → 
    Goes (exec (.slowTimeout o false) s) (fun t => t.regs.lastRead = 0xFFFFFFFF ∧ bit (t.flt 7).status 3 = true)) ∧
  (∀ x s, serving s = true → x < 2 ^ 32 → 
    Goes (exec (.registerWrite 0x20 x 15) s) (fun t => t.regs.scratch = x ∧ glbRead t 0x20 = x ∧ t.regs.flt = s.regs.flt ∧ t.regs.irq = s.regs.irq ∧ t.kcp.rings = s.kcp.rings)) ∧
  (∀ g s, 1 ≤ g → g < 9 → (s.irqG g).enable = true → (s.irqG g).pend ≠ 0 → (s.irqG g).readyAt ≤ s.now → (s.irqG g).sideband = false → sendable s (groupVector g (s.irqG g)) = true → 
    Goes (exec (.irqDelivery g) s) (fun t => t.irqG g = { s.irqG g with pend := 0, insvc := (s.irqG g).insvc ||| (s.irqG g).pend, readyAt := s.now + (s.irqG g).holdoff * 1000, delivAt := some s.now, takes := (2 ^ irqSources g - 1) &&& ((2 ^ irqSources g - 1) ^^^ (s.irqG g).insvc) } ∧
      (t.vec (groupVector g (s.irqG g))).sent = (s.vec (groupVector g (s.irqG g))).sent + 1 ∧ (t.vec (groupVector g (s.irqG g))).pending = false)) ∧
  (∀ v s, v < 256 → (∀ g ∈ List.range 9, (s.irqG g).pend = 0) → 
    Goes (exec (.msixUnmask (some v)) s) (fun t => t.vec v = { s.vec v with masked := false } ∧ t.regs.irq = s.regs.irq)) ∧
  (∀ b i s, b < 13 → i < 2048 → hasFunction b i = true → 
    Goes (exec (.parityCheck (2048 * b + i)) s) (fun t => inSafe t b i = true ∧ bit (t.flt b).status 0 = true ∧ (b = 7 → (t.ring i).enable = false))) ∧
  (∀ i s, i < 8 → 
    Goes (exec (.mirrorWrite i) s) (fun t => tget ({} : Mir) t.regs.mir i = ⟨s.kcp.g, mirContent s i, s.kcp.g % 2 ^ 32⟩ ∧ t.regs.flt = s.regs.flt))

/-- Each of COMMAND_ACCEPT, COMMAND_EXECUTE, RELAY_COMMAND, RELAY_TIMEOUT, MAILBOX_SERVICE, PENDING_REPLY, REPLY_DELIVER, COMPLETION_LIMIT_EXPIRY completes: for every state and operands that meet a clause's conditions, exec answers a next state, the one the clause gives or one with the effects it states. How long Nuheif takes is a free value (log entry 3). -/
def Obligations.CommandProcessingCompletes : Prop :=
  (∀ r pk s, r < 8 → pk.req.src = .ring r → serving s = true → turnNow s = some r → acceptChecks s pk = none → bit pk.req.flags 2 = false → relayed pk.opcode pk.req.payload = false → 
    Goes (exec (.commandAccept pk true) s) (fun t => (t.ring r).sqHead = ((s.ring r).sqHead + 1) % 65536 ∧ t.kcp.turn = (r + 1) % 9 ∧ t.kcp.nextId = s.kcp.nextId + 1 ∧ t.kcp.replies = s.kcp.replies ∧
      t.kcp.slots.map (fun y => y.id) = s.kcp.slots.map (fun y => y.id) ++ [s.kcp.nextId] ∧
      ∀ y ∈ t.kcp.slots.getLast?.toList, y.opcode = pk.opcode ∧ y.req = pk.req ∧ y.phase = .accepted ∧ y.since = s.now ∧ y.accAt = s.now ∧ y.accGen = s.kcp.g ∧ y.answered = false ∧ y.lost = false)) ∧
  (∀ g k s, g < 18 → serving s = true → s.kcp.slots.find? (fun y => y.phase == .accepted && decide (groupOf y.opcode = g)) = some k → (groupsHeld s).contains g = false → (k.conditional && decide (k.req.expGen < groupGen s g)) = false → k.first ≠ 0 → 
    Goes (exec (.commandExecute g) s) (fun t => ∀ f ∈ (bodyFor k.opcode).toList, t = markFirst (conclude k (setSlots (s.kcp.slots.filter (fun y => y.id != k.id)) s) (f k (setSlots (s.kcp.slots.filter (fun y => y.id != k.id)) s))))) ∧
  (∀ k s, mailboxServed s = true → (∀ y ∈ s.kcp.slots, y.phase ≠ .mailbox) → s.kcp.slots.find? (fun y => y.phase == .relayQueue && !unreached s y.opcode y.req.payload) = some k → 
    Goes (exec .relayCommand s) (fun t => t.kcp.slots = s.kcp.slots.map (fun y => if y.id = k.id then { y with phase := .mailbox, since := s.now } else y) ∧ t.kcp.replies = s.kcp.replies)) ∧
  (∀ s, (∀ y ∈ s.kcp.slots, relayLate s.now y = true → y.lost = false) → 
    Goes (exec .relayTimeout s) (fun t => t.kcp.slots.map (fun y => y.id) = (s.kcp.slots.filter (fun y => !relayLate s.now y)).map (fun y => y.id) ∧
      t.kcp.replies = s.kcp.replies ++ (s.kcp.slots.filter (relayLate s.now)).map (fun y => ⟨y.id, y.req.src, y.opcode, y.req.tag, stTIMEOUT, 0, s.kcp.g, [], s.now⟩))) ∧
  (∀ k u s, mailboxServed s = true → nuheifWork s = some k → u = (if serviceInterval s = s.kcp.mbInterval then s.kcp.mbServed else 0) → u < 8000 → 
    Goes (exec .mailboxService s) (fun t => ∀ p ∈ [({ leafFreqs s with free := s.free + 2, kcp := { s.kcp with mbInterval := serviceInterval s, mbServed := u + (drawBelow (8000 - u) s).1 + 1 } } : State)],
      t = if (drawBelow 2 { s with free := s.free + 1 }).1 = 0 then p else markFirst (runOpcode k (setSlots (p.kcp.slots.filter (fun y => y.id != k.id)) p)))) ∧
  (∀ k s, s.kcp.slots.find? (pendingDue s.now) = some k → k.lost = false → 
    Goes (exec .pendingReply s) (fun t => t.kcp.slots = s.kcp.slots.map (fun y => if y.id = k.id then { y with phase := .background, answered := true, lost := true } else y) ∧
      t.kcp.replies = s.kcp.replies ++ [⟨k.id, k.req.src, k.opcode, k.req.tag, stPENDING, 0, k.accGen, [], s.now⟩])) ∧
  (∀ k r s, k < 8 → s.kcp.replies.find? (fun y => decide (y.src = .ring k)) = some r → s.kcp.linkUp = true → ((s.ring k).cqTail + 65536 - (s.ring k).cqHead) % 65536 < 2 ^ (s.ring k).log2 → bit (s.irqG 0).disabled k = false → bit (s.irqG 0).insvc k = false → 
    Goes (exec (.replyDeliver (.ring k) true) s) (fun t => t.ring k = { s.ring k with cqTail := ((s.ring k).cqTail + 1) % 65536, cqFull := false } ∧ t.kcp.replies = s.kcp.replies.filter (fun y => y.id != r.id) ∧
      t.kcp.lastComplete = some (k, (s.ring k).cqTail % 2 ^ (s.ring k).log2) ∧ bit (t.irqG 0).pend k = true)) ∧
  (∀ i k s, s.kcp.slots.find? (fun y => y.id == i && limitPassed s.now y) = some k → k.lost = false → 
    Goes (exec (.completionLimitExpiry i) s) (fun t => t.kcp.slots.map (fun y => y.id) = (s.kcp.slots.filter (fun y => y.id != i)).map (fun y => y.id) ∧ t.kcp.replies = s.kcp.replies ++ [⟨i, k.req.src, k.opcode, k.req.tag, stTIMEOUT, 0, s.kcp.g, [], s.now⟩]))

/-- Each of MCTP_PACKET, MCTP_REASSEMBLY_TIMEOUT, SB_REPLY_RETRY, SET_ENDPOINT_ID, GET_ENDPOINT_ID, GET_MCTP_VERSION_SUPPORT, GET_MESSAGE_TYPE_SUPPORT, GET_VENDOR_DEFINED_MSG_SUPPORT, GET_VERSION, GET_CAPABILITIES, NEGOTIATE_ALGORITHMS, GET_DIGESTS, GET_CERTIFICATE, CHALLENGE, GET_MEASUREMENTS, KEY_EXCHANGE, FINISH, HEARTBEAT, KEY_UPDATE, END_SESSION, HEARTBEAT_TIMEOUT completes: for every state and operands that meet a clause's conditions, exec answers a next state, the one the clause gives or one with the effects it states. Bodies the spec does not lay out are free or uninterpreted (log entry 12). -/
def Obligations.SidebandAndSpdmComplete : Prop :=
  (∀ p s, serving s = true → p.dest = s.pwr.prov.smbAddr → p.pec = true → p.som = true → p.eom = false → asmOf s p.tag = none → s.kcp.assembly.length < 2 → 
    Goes (exec (.mctpPacket p) s) (fun t => t.kcp.assembly = s.kcp.assembly.filter (fun y => y.complete || y.tag != p.tag) ++ [{ tag := p.tag, seq := (p.seq + 1) % 4, bytes := p.bytes, complete := false, lastAt := s.now }] ∧ t.kcp.sbDiscards = s.kcp.sbDiscards)) ∧
  (∀ s, 
    Goes (exec .mctpReassemblyTimeout s) (fun t => t.kcp.assembly = s.kcp.assembly.filter (fun y => y.complete || decide (s.now < y.lastAt + 100000000)) ∧
      t.kcp.sbDiscards = min 65535 (s.kcp.sbDiscards + (s.kcp.assembly.filter (fun y => !y.complete && decide (y.lastAt + 100000000 ≤ s.now))).length))) ∧
  (∀ r s, firstSideband s = some r → 
    Goes (exec (.sbReplyRetry true) s) (fun t => t.kcp.replies = s.kcp.replies.filter (fun y => y.id != r.id) ∧ t.kcp.sbReplyLost = s.kcp.sbReplyLost)) ∧
  (∀ o i s, serving s = true → o ≤ 1 → 8 ≤ i → i ≤ 254 → 
    Goes (exec (.setEndpointId o i) s) (fun t => t.kcp = { s.kcp with eid := some i, mctpReply := [0, 0] ++ le 1 i ++ [0] })) ∧
  (∀ s, serving s = true → 
    Goes (exec .getEndpointId s) (fun t => t.kcp = { s.kcp with mctpReply := [0] ++ le 1 (s.kcp.eid.getD 0) ++ [0, 0] })) ∧
  (∀ m s, serving s = true → m ∈ [0, 5, 6, 127] → 
    Goes (exec (.getMctpVersionSupport m) s) (fun t => t.kcp = { s.kcp with mctpReply := [0, 1] ++ (drawRandom 4 s).1 } ∧ t.free = s.free + 1)) ∧
  (∀ s, serving s = true → 
    Goes (exec .getMessageTypeSupport s) (fun t => t.kcp = { s.kcp with mctpReply := [0, 4, 0x00, 0x05, 0x06, 0x7F] })) ∧
  (∀ s, serving s = true → 
    Goes (exec (.getVendorDefinedMsgSupport 0) s) (fun t => t.kcp = { s.kcp with mctpReply := [0, 0xFF, 1] ++ be 4 Config.enterprise ++ (drawRandom 2 s).1 } ∧ t.free = s.free + 1)) ∧
  (∀ d s, serving s = true → 
    Goes (exec (.getVersion d) s) (fun t => spdmOf t d = { spdmOf s d with version := true, caps := false, algos := false, keyed := false, lastReply := some 0, lastBytes := spdmFree 0 d s } ∧ spdmOf t (!d) = spdmOf s (!d))) ∧
  (∀ d s, serving s = true → (spdmOf s d).version = true → 
    Goes (exec (.getCapabilities d) s) (fun t => spdmOf t d = { spdmOf s d with caps := true, lastReply := some 1, lastBytes := spdmFree 1 d s } ∧ spdmOf t (!d) = spdmOf s (!d))) ∧
  (∀ d s, serving s = true → (spdmOf s d).caps = true → 
    Goes (exec (.negotiateAlgorithms d true) s) (fun t => spdmOf t d = { spdmOf s d with algos := true, lastReply := some 2, lastBytes := spdmFree 2 d s } ∧ spdmOf t (!d) = spdmOf s (!d))) ∧
  (∀ d s, serving s = true → (spdmOf s d).algos = true → 
    Goes (exec (.getDigests d) s) (fun t => spdmOf t d = { spdmOf s d with lastReply := some 3, lastBytes := spdmFree 3 d s })) ∧
  (∀ d c a n s, serving s = true → (spdmOf s d).algos = true → ((c = 0 ∨ (c = 1 ∧ owned s = true))) → 
    Goes (exec (.getCertificate d c a n) s) (fun t => spdmOf t d = { spdmOf s d with lastReply := some 4, lastBytes := ((Config.spdmBody 4 (le 1 c)).drop a).take n })) ∧
  (∀ d n s, serving s = true → (spdmOf s d).algos = true → 
    Goes (exec (.challenge d n) s) (fun t => spdmOf t d = { spdmOf s d with lastReply := some 5, lastBytes := Config.spdmBody 5 n })) ∧
  (∀ d n s, serving s = true → (spdmOf s d).algos = true → 
    Goes (exec (.getMeasurements d 0 n) s) (fun t => spdmOf t d = { spdmOf s d with lastReply := some 6, lastBytes := [7] })) ∧
  (∀ d x s, serving s = true → (spdmOf s d).algos = true → (spdmOf s d).session = false → 
    Goes (exec (.keyExchange d x) s) (fun t => spdmOf t d = { spdmOf s d with keyed := true, lastReply := some 7, lastBytes := Config.spdmBody 7 x })) ∧
  (∀ d o s, serving s = true → (spdmOf s d).keyed = true → 
    Goes (exec (.finish d true o) s) (fun t => spdmOf t d = { spdmOf s d with keyed := false, session := true, mutual_ := ownerRoot s o, heard := s.now, keyUpdates := 0, lastReply := some 8, lastBytes := spdmFree 8 d s })) ∧
  (∀ d s, serving s = true → (spdmOf s d).session = true → 
    Goes (exec (.heartbeat d) s) (fun t => spdmOf t d = { spdmOf s d with heard := s.now, lastReply := some 9, lastBytes := spdmFree 9 d s })) ∧
  (∀ d s, serving s = true → (spdmOf s d).session = true → 
    Goes (exec (.keyUpdate d) s) (fun t => spdmOf t d = { spdmOf s d with heard := s.now, keyUpdates := (spdmOf s d).keyUpdates + 1, lastReply := some 10, lastBytes := spdmFree 10 d s })) ∧
  (∀ d s, serving s = true → (spdmOf s d).session = true → 
    Goes (exec (.endSession d) s) (fun t => (spdmOf t d).session = false ∧ (spdmOf t d).mutual_ = false ∧ (spdmOf t d).keyed = false ∧ (d = true → t.kcp.slots = s.kcp.slots ∧ t.kcp.replies = s.kcp.replies) ∧
      (d = false → t.kcp.replies = s.kcp.replies.filter (fun y => !isSession y.src) ∧ (∀ y ∈ t.kcp.slots, isSession y.req.src = true → y.lost = true) ∧ (∀ y ∈ s.kcp.slots, isSession y.req.src = false → y ∈ t.kcp.slots) ∧
      t.kcp.assembly = s.kcp.assembly.filter (fun y => !y.complete || rd y.bytes 0 1 != 0x06)))) ∧
  (∀ d s, (spdmOf s d).session = true → (spdmOf s d).heard + 20000000000 ≤ s.now → 
    Goes (exec (.heartbeatTimeout d) s) (fun t => (spdmOf t d).session = false ∧ (spdmOf t d).mutual_ = false ∧ (d = false → t.kcp.replies = s.kcp.replies.filter (fun y => !isSession y.src))))

/-- Each of POWER_ON_RESET_RELEASE, SUPPLY_LOSS, NUHEIF_BOOT, BOOT_IMAGE_VERDICT, M_BOOT_END, S_TILE_BOOT, TRIAL_FALLBACK, RECOVERY_RESPONDER, NUHEIF_RECOVERY, PERST_ASSERT, PCIE_LINK_UP, ACTIVATION_RESTART completes: for every state and operands that meet a clause's conditions, exec answers a next state, the one the clause gives or one with the effects it states. The verdict on an image is the model's uninterpreted signature check (log entry 11). -/
def Obligations.StartUpCompletes : Prop :=
  (∀ s, s.pwr.released = false → 
    Goes (exec .powerOnResetRelease s) (fun t => t.pwr.released = true ∧ t.osc.mState = .mBoot ∧ t.now = s.now ∧ t.pwr.prov = s.pwr.prov ∧ t.pwr.ownerBits = s.pwr.ownerBits ∧ t.pwr.minSvn = s.pwr.minSvn ∧ t.pwr.m.a = s.pwr.m.a ∧ t.pwr.m.b = s.pwr.m.b ∧
      t.log.entries = s.log.entries ∧ t.log.nextSeq = s.log.nextSeq ∧ t.sealing.low = s.sealing.low ∧ t.kcp = { nextId := s.kcp.nextId } ∧ t.pwr.sState = 0 ∧ t.regs = {})) ∧
  (∀ s, 
    Goes (exec .supplyLoss s) (fun t => t.pwr.released = false ∧ t.pwr.sState = 0 ∧ t.osc.mState = State.reset.osc.mState ∧ t.pwr.prov = s.pwr.prov ∧ t.pwr.ownerBits = s.pwr.ownerBits ∧ t.log.entries = s.log.entries ∧ t.sealing.low = s.sealing.low ∧ t.sealing.otpBits = s.sealing.otpBits ∧
      t.kcp = { nextId := s.kcp.nextId } ∧ t.regs = {} ∧ t.svc = {} ∧ t.eng = {} ∧ t.tst = {} ∧ t.pending = s.pending ∧ t.free = s.free + 1)) ∧
  (∀ b o l s, s.osc.mState = .mBoot → s.pwr.nuheifUp = false → bootCopy s 0 = some b → 
    Goes (exec (.nuheifBoot ⟨true, o, l⟩) s) (fun t => t.pwr.nuheifUp = true ∧ t.pwr.mRecovery = false ∧ t.pwr.m.run = (if b then s.pwr.m.b else s.pwr.m.a) ∧ t.acc = logSeconds s * s1 ∧ t.bus.nextMarker = logSeconds s * s1 ∧ t.utc.stored = s.sealing.newer.utc ∧ t.tim.cfg = s.sealing.newer.tim ∧ t.bnd.cfg = s.sealing.newer.bound ∧ t.osc.ens = s.sealing.newer.ens)) ∧
  (∀ b s, s.pwr.released = true → s.pwr.sState = 0 → s.pwr.sImageOk = false → bootCopy s 1 = some b → 
    Goes (exec .bootImageVerdict s) (fun t => t.pwr.sImageOk = true ∧ t.pwr.recovery = false ∧ t.pwr.st.run = (if b then s.pwr.st.b else s.pwr.st.a) ∧ t.pwr.st.startAt = s.now ∧ t.pwr.sState = 0)) ∧
  (∀ s, s.osc.mState = .mBoot → s.pwr.nuheifUp = true → s.pwr.sImageOk = true → s.tim.tb.running = true → s.tim.tb.aplLock = true → 
    Goes (exec .mBootEnd s) (fun t => t.osc = { s.osc with mState := .warmUp, members := t.osc.members } ∧
      (∀ i ∈ List.range 4, t.osci i = { s.osci i with state := if oscEnabled s i = false then .disabled else if i = 0 then .active else .absent }) ∧ t.pwr.m = { s.pwr.m with trial := false } ∧ t.tim = s.tim)) ∧
  (∀ s, s.pwr.sImageOk = true → s.pwr.sState = 0 → 
    Goes (exec .sTileBoot s) (fun t => t.pwr.sState = 1 ∧ t.pwr.vset = max s.pwr.floor (min s.pwr.ceiling s.pwr.bootMv) ∧ t.pwr.prov = s.pwr.provNext.getD s.pwr.prov ∧ t.pwr.provNext = none ∧ t.pwr.lastOwner = t.pwr.prov.ownerGen ∧
      t.pwr.st.trial = false ∧ t.evd.enumDue = true ∧ t.pwr.lastWindow = s.now ∧ t.osc = s.osc)) ∧
  (∀ s, s.pwr.st.trial = true → s.pwr.st.startAt + 2000000000 ≤ s.now → s.pwr.sState = 0 → 
    Goes (exec (.trialFallback true) s) (fun t => t.pwr.st.preferB = !s.pwr.st.preferB ∧ t.pwr.st.trial = false ∧ t.pwr.fallback = true ∧ t.pwr.sState = 0 ∧ t.pwr.sImageOk = false ∧ t.pwr.st.startAt = s.now ∧ t.osc = s.osc)) ∧
  (∀ s, s.pwr.released = true → s.pwr.sState = 0 → s.pwr.sImageOk = false → bootCopy s 1 = none → 
    Goes (exec .recoveryResponder s) (fun t => t.pwr = { s.pwr with recovery := true } ∧ serving t = true)) ∧
  (∀ f s, s.pwr.mRecovery = true → s.sealing.armedUntil ≠ none → imageAccepted s (s.pwr.minSvn.getD 0 0) ⟨true, f.verifies && decide (f.kind = 0), f.svn, f.version, f.countersigned, f.ownerOk, f.digest⟩ = true → 
    Goes (exec (.nuheifRecovery f) s) (fun t => t.pwr.m.preferB = !s.pwr.m.preferB ∧ (if s.pwr.m.preferB then t.pwr.m.a else t.pwr.m.b) = ⟨true, true, f.svn, f.version, f.countersigned, f.ownerOk, f.digest⟩ ∧ (s.sealing.low < 0xFFFF → sealCount t = sealCount s + 1) ∧ t.pwr.recoveredLog = true)) ∧
  (∀ s, 
    Goes (exec .perstAssert s) (fun t => t.kcp.perst = true ∧ t.kcp.linkUp = false ∧ bit (t.flt 7).status 2 = true ∧ bit (t.flt 7).cond 2 = true ∧ (∀ r ∈ t.kcp.replies, ∀ n ∈ List.range 8, r.src ≠ .ring n) ∧ (∀ y ∈ t.kcp.slots, ∀ n ∈ List.range 8, y.req.src = .ring n → y.lost = true) ∧ t.kcp.rings = s.kcp.rings)) ∧
  (∀ s, serving s = true → (loopOf s 3 0).depth ≠ 1 → s.kcp.perst = true → 
    Goes (exec .pcieLinkUp s) (fun t => t.kcp.linkUp = true ∧ t.kcp.perst = false ∧ bit (t.flt 7).cond 2 = false ∧ t.regs.msix = [] ∧ t.regs.msixEnable = false ∧
      (∀ r ∈ List.range 8, t.ring r = if (s.ring r).lock then { cls := (s.ring r).cls, lock := true } else {}) ∧ ∀ g ∈ List.range 9, (s.irqG g).sideband = false → (t.irqG g).insvc = 0 ∧ (t.irqG g).pend = (s.irqG g).pend ||| (s.irqG g).insvc)) ∧
  (∀ e s, s.pwr.restartAt = some (1, e) → e ≤ s.now → 
    Goes (exec .activationRestart s) (fun t => t.pwr.sState = 0 ∧ t.pwr.sImageOk = false ∧ t.pwr.restartAt = none ∧ t.pwr.nuheifUp = s.pwr.nuheifUp ∧ t.svc = {} ∧ t.eng = {} ∧ t.osc = s.osc ∧ t.log = s.log ∧ t.pwr.prov = s.pwr.prov))

/-- Each of IDENTIFY, ECHO, GET_GENERATION, SNAPSHOT, SNAPSHOT_CAPTURE, RESET_BLOCK, IMAGE_STAGE, IMAGE_ACTIVATE, IMAGE_ACTIVATE_S_RESTART, IMAGE_ACTIVATE_MODULE_RESTART, IMAGE_SVN_RAISE completes: for every state and operands that meet a clause's conditions, exec answers a next state, the one the clause gives or one with the effects it states. Verdicts on images and records are uninterpreted checks (log entry 11). -/
def Obligations.SystemAndImageCommandsComplete : Prop :=
  (∀ rq s, runs 0x0001 rq s = true → rq.payload = [] → 
    exec (.identify rq) s = .next (replied 0x0001 rq (ascii 16 "KTG-1024-AA-75" ++ le 8 Config.serial ++ fit 8 Config.clockIdentity ++ fit 3 Config.orgId ++
      le 1 Config.stepping ++ le 4 Config.enterprise ++ le 2 0x0100 ++ le 2 s.kcp.sbDiscards ++ le 4 s.pwr.st.run.version ++
      le 4 s.eng.active.version ++ le 4 s.pwr.m.run.version ++ le 4 s.pwr.prov.ownerGen ++
      le 2 (flag 0 s.pwr.prov.hostKeeper + flag 1 (owned s) + 4 * ceiling s rq.src) ++ le 2 s.kcp.sbReplyLost) s)) ∧
  (∀ rq s, runs 0x0003 rq s = true → 
    exec (.echo rq) s = .next (replied 0x0003 rq rq.payload s)) ∧
  (∀ rq s, runs 0x0006 rq s = true → rq.payload = [] → 
    exec (.getGeneration rq) s = .next (replied 0x0006 rq (le 8 s.kcp.g ++ (List.range 18).flatMap (fun g => le 8 (groupGen s g))) s)) ∧
  (∀ rq s, runs 0x0002 rq s = true → rq.payload.length = 4 → rd rq.payload 0 4 < 1024 → (s.replica 0).anyGood = true → captureOf s s.kcp.nextId = none → 
    Goes (exec (.snapshot rq) s) (fun t => t.kcp.snaps = s.kcp.snaps ∧ t.kcp.replies = s.kcp.replies ∧ Held 0x0002 rq s t)) ∧
  (∀ x k s, s.kcp.slots = [k] → snapDue s k = true → s.kcp.snaps = [x] → x.id = k.id → k.lost = false → k.noReply = false → 
    Goes (exec .snapshotCapture s) (fun t => t.kcp.snaps = [] ∧ t.kcp.slots = [] ∧ t.kcp.replies = s.kcp.replies ++ [mkReply k s.now stOK 0 x.gen x.payload])) ∧
  (∀ rq i s, runs 0x0004 rq s = true → rq.payload.length = 4 → rd rq.payload 0 2 = 2 → i = rd rq.payload 2 2 → i < 1024 → (s.port i).cfg.enable = false → s.kcp.slots = [] → 
    Goes (exec (.resetBlock rq) s) (fun t => (t.port i).st.state = .disabled ∧ loopOf t 2 i = {} ∧ (t.port i).cfg = (s.port i).cfg ∧ Answered 0x0004 rq [] s t)) ∧
  (∀ rq k s, runs 0x0008 rq s = true → 17 ≤ rq.payload.length → rq.payload.length ≤ 4080 → k = rd rq.payload 0 1 → k ∈ [0, 1, 3] → rd rq.payload 1 1 = 1 → rd rq.payload 2 2 = 0 → rd rq.payload 4 4 = 0 → rd rq.payload 8 4 ≤ stageLimit k → rq.payload.length - 16 < rd rq.payload 8 4 → rd rq.payload 12 4 = 0 → ((k ≠ 0 ∨ s.pwr.mRecovery = false ∨ armed s = true)) → 
    Goes (exec (.imageStage rq) s) (fun t => fragOf t k = ⟨true, rd rq.payload 8 4, rq.payload.drop 16⟩ ∧ (k = 3 → t.pwr.provStaged = none) ∧ (k ≠ 3 → (copiesOf t k).staged = false) ∧ Answered 0x0008 rq [] s t)) ∧
  (∀ rq q s, q = withByte 1 0 rq → runs 0x0009 q s = true → q.payload.length = 8 → rd q.payload 0 1 = 1 → rd q.payload 2 2 = 0 → s.pwr.st.staged = true → rd q.payload 4 4 = (s.pwr.st.at_ (!s.pwr.st.preferB)).version → 
    Goes (exec (.imageActivate rq) s) (fun t => t.pwr.st = { s.pwr.st with preferB := !s.pwr.st.preferB, trial := true, staged := false } ∧ t.pwr.restartAt = s.pwr.restartAt ∧ Answered 0x0009 q [] s t)) ∧
  (∀ rq q s, q = withByte 1 1 rq → runs 0x0009 q s = true → q.payload.length = 8 → rd q.payload 0 1 = 1 → rd q.payload 2 2 = 0 → s.pwr.st.staged = true → rd q.payload 4 4 = (s.pwr.st.at_ (!s.pwr.st.preferB)).version → 
    Goes (exec (.imageActivateSRestart rq) s) (fun t => t.pwr.st = { s.pwr.st with preferB := !s.pwr.st.preferB, trial := true, staged := false } ∧ t.pwr.restartAt = some (1, s.now + 10000000) ∧ Answered 0x0009 q [] s t)) ∧
  (∀ rq q s, q = withByte 1 2 rq → runs 0x0009 q s = true → q.payload.length = 8 → rd q.payload 0 1 = 1 → rd q.payload 2 2 = 0 → s.pwr.st.staged = true → rd q.payload 4 4 = (s.pwr.st.at_ (!s.pwr.st.preferB)).version → 
    Goes (exec (.imageActivateModuleRestart rq) s) (fun t => t.pwr.st = { s.pwr.st with preferB := !s.pwr.st.preferB, trial := true, staged := false } ∧ t.pwr.restartAt = some (2, s.now + 10000000) ∧ Answered 0x0009 q [] s t)) ∧
  (∀ rq q k s, q = withByte 1 3 rq → runs 0x0009 q s = true → q.payload.length = 8 → k = rd q.payload 0 1 → k ≤ 2 → rd q.payload 2 2 = 0 → rd q.payload 4 4 = (activeOf s k).1 → 
    Goes (exec (.imageSvnRaise rq) s) (fun t => t.pwr.minSvn = s.pwr.minSvn.set k (max (s.pwr.minSvn.getD k 0) (activeOf s k).2) ∧ t.pwr.st = s.pwr.st ∧ t.pwr.m = s.pwr.m ∧ Answered 0x0009 q [] s t))

/-- Further forms and cases of TIM_CONFIG, WARMUP_WINDOW_END, MEASURED_EDGE, CONVERSION_END, REFRESH_COMPLETE: for every state and operands that meet a clause's conditions, exec answers the next state the clause gives, or one with the effects, or the absence of effects, it states. The choices under them are log entries 18 and 19. -/
def Obligations.TimeBaseAndIntervalForms : Prop :=
  (∀ rq s, runs 0x0102 rq s = true → rq.payload = [] → 
    exec (.timConfig rq) s = .next (replied 0x0102 rq (timRecord s.tim.cfg) s)) ∧
  (∀ source freq s, s.tim.tb.running = true → s.tim.tb.oscLoss = false → s.tim.tb.windowStart + 10000000000 ≤ s.now → comparisonSource s = source → source ≠ 0 → s.tim.tb.prevSource = source → 
    Goes (exec (.warmupWindowEnd source freq) s) (fun t =>
      t.tim.tb.lastChange = freq - s.tim.tb.prevFreq ∧ t.tim.tb.freq = freq ∧
      t.tim.tb.run = (if (freq - s.tim.tb.prevFreq).natAbs ≤ s.tim.judging.driftLimit.toNat then satInc sat16 s.tim.tb.run else 0) ∧
      t.tim.tb.driftMet = decide (s.tim.judging.windowCount ≤ t.tim.tb.run) ∧
      t.tim.tb.warmup = (s.tim.tb.warmup && !(t.tim.tb.driftMet && s.tim.tb.ovenHigh)))) ∧
  (∀ n edge s, n < 1048 → s.tim.tb.running = true → (s.interp n).converting = none → (s.interp n).freeAt ≤ edge → 
    Goes (exec (.measuredEdge false n edge none) s) (fun t =>
      (t.interp n).converting = some (edge / 800 + 1) ∧ (t.interp n).convTable = (s.interp n).table)) ∧
  (∀ n edge hit s tk, n < 1048 → s.tim.tb.running = true → (s.interp n).converting = some tk → 
    Goes (exec (.measuredEdge false n edge hit) s) (fun t =>
      (t.interp n).missed = satInc sat32 (s.interp n).missed ∧ (t.interp n).missedPending = true)) ∧
  (∀ n c e s tk h, n < 1048 → (s.interp n).converting = some tk → (s.interp n).convTable = some h → c < 128 → 
    Goes (exec (.conversionEnd false n (some c) e) s) (fun t =>
      (t.interp n).converting = none ∧ (t.interp n).freeAt = e + 40000 ∧
      (t.interp n).last = some ⟨tk, (midpoint h c : Nat), s.tim.tb.warmup, false,
      olderTable s (s.interp n).convStart, (s.interp n).calFault, (s.interp n).missedPending⟩)) ∧
  (∀ n h s, n < 1048 → (s.interp n).running = true → refreshOk (s.interp n) h = false → 
    Goes (exec (.refreshComplete n h) s) (fun t => (t.interp n).running = false ∧
      (t.interp n).rejects = satInc sat16 (s.interp n).rejects ∧
      (t.interp n).calFault = ((s.interp n).calFault || decide (4 ≤ (s.interp n).rejectRun + 1))))

/-- Further forms and cases of GNSS_CONFIG, BIT_SYNCHRONISATION, MULTIPATH_FIT, LNAV_SUBFRAME, GNSS_SOLUTION, QUANTISATION_PAIRING, REF_CONFIG, REF_LIMITS, REF_DUPLEX, TOD_CONFIG, REF_EVENT, UART_MESSAGE: for every state and operands that meet a clause's conditions, exec answers the next state the clause gives, or one with the effects, or the absence of effects, it states. The choices under them are in log entry 20. The choices under them are in log entries 21 and 22. -/
def Obligations.GnssAndReferenceForms : Prop :=
  (∀ rq s, runs 0x0201 rq s = true → rq.payload = [] → 
    exec (.gnssConfig rq) s = .next (replied 0x0201 rq (gnssRecord s.gnss.cfg) s)) ∧
  (∀ prn x y s i, overThreshold s.gnss.acqThr x = true → overThreshold s.gnss.acqThr y = true → freeChan s = some i → i < 32 → 
    ((judgeCells prn x y s).gch i).prn = prn ∧ ((judgeCells prn x y s).gch i).state = .verify ∧
      ((judgeCells prn x y s).gch i).codePhase = y.code * 2 ^ 19 ∧
      ((judgeCells prn x y s).gch i).carrier = 1000 * (s.gnss.cfg.ifFreq + s.gnss.ifOffset + 500 * y.bin)) ∧
  (∀ prn x y s, overThreshold s.gnss.acqThr x = false → 
    (judgeCells prn x y s).gnss.chans = s.gnss.chans ∧ (judgeCells prn x y s).gnss.acqThr = s.gnss.acqThr) ∧
  (∀ i s, i < 32 → (s.gch i).state = .bitSync → 
    Goes (exec (.bitSynchronisation i) s) (fun t => (t.gch i).state = .nav)) ∧
  (∀ i sp s, i < 32 → s.gnss.clkFault = false → loopsRun (s.gch i).state = true → mpAvailable s.gnss.cfg = true → 
    exec (.multipathFit i sp) s = .next (steerChannel i
      (channelOutputs s.gnss.cfg (s.gch i) (captureSpan s.gnss.cfg.format sp.rise sp.fall))
      (some (pathFit s.gnss.cfg (channelOutputs s.gnss.cfg (s.gch i) (captureSpan s.gnss.cfg.format sp.rise sp.fall)))) s)) ∧
  (∀ i r x s, i < 32 → fitOk r x = true → 
    ((steerChannel i r (some x) s).gch i).mpActive = true ∧ ((steerChannel i r (some x) s).gch i).mpDelay = x.delay ∧
      ((steerChannel i r (some x) s).gch i).mpAmpl = x.ampl ∧ ((steerChannel i r (some x) s).gch i).codeError = x.direct) ∧
  (∀ i r x s, i < 32 → fitOk r x = false → 
    ((steerChannel i r (some x) s).gch i).mpActive = false ∧
      ((steerChannel i r (some x) s).gch i).mpFitFail = satInc sat16 (s.gch i).mpFitFail ∧
      ((steerChannel i r (some x) s).gch i).codeError = (r.late : Int) - r.early) ∧
  (∀ prn d29 d30 w tlm how l s, 1 ≤ prn → prn ≤ 32 → wordsOf d29 d30 w = some tlm :: some how :: l → navBits tlm 1 8 = 0x8B → l.length = 8 → navBits how 20 3 = 2 → 
    Goes (exec (.lnavSubframe prn ⟨w, d29, d30⟩) s) (fun t => (t.nav prn).sub2 = l ∧ (t.nav prn).adopted = (s.nav prn).adopted)) ∧
  (∀ g second s, dueSecond s = some second → s.gnss.mode = .noPosition → 
    Goes (exec (.gnssSolution g) s) (fun t => t.gnss.lastSecond = s.gnss.lastSecond ∧ t.gnss.ifOffset = g.ifOffset ∧
      (t.gnss.history.head?.map (fun m => (m.second, m.valid))) = some (second, false))) ∧
  (∀ second at_ s m r, messageOf s second = some m → m.valid = true → (s.chan 8).last = some r → r.invalid = false → within at_ (second * s1) (500 * ms1) = true → 
    Goes (exec (.quantisationPairing second (some at_)) s) (fun t => t.gnss.unpaired = s.gnss.unpaired ∧
      ∀ x ∈ t.gnss.history, x.second = second → x.applied = true)) ∧
  (∀ rq s, runs 0x0301 rq s = true → rq.payload.length = 1 → rd rq.payload 0 1 < 20 → 
    exec (.refConfig rq) s =
      .next (replied 0x0301 rq (refRecord s (rd rq.payload 0 1) (refCfgOf s (rd rq.payload 0 1))) s)) ∧
  (∀ rq s i, runs 0x0301 rq s = true → rq.payload.length = 24 → rd rq.payload 0 1 = i → 8 ≤ i → i < 20 → rd rq.payload 1 1 < 4 → rd rq.payload 2 1 = 2 → rd rq.payload 10 2 = 0 → -655360000 ≤ rdI rq.payload 16 8 → rdI rq.payload 16 8 ≤ 655360000 → windowOpen s = true → s.log.fault = false → 
    Goes (exec (.refConfig rq) s) (fun t => refCfgOf t i = refParse rq.payload i (refCfgOf s i) ∧
      (t.slot i).cfg.enable = bit (rd rq.payload 1 1) 0 ∧ Answered 0x0301 rq (refRecord t i (refCfgOf t i)) s t)) ∧
  (∀ rq s, runs 0x0303 rq s = true → rq.payload.length = 1 → rd rq.payload 0 1 < 20 → 
    exec (.refLimits rq) s =
      .next (replied 0x0303 rq (limRecord (rd rq.payload 0 1) (limOf s (rd rq.payload 0 1))) s)) ∧
  (∀ rq s, runs 0x0304 rq s = true → rq.payload.length = 1 → rd rq.payload 0 1 < 4 → 
    exec (.refDuplex rq) s =
      .next (replied 0x0304 rq (dupRecord s (rd rq.payload 0 1) (dupOf s (rd rq.payload 0 1))) s)) ∧
  (∀ rq s, runs 0x0305 rq s = true → rq.payload = [] → 
    exec (.todConfig rq) s = .next (replied 0x0305 rq (todRecord (todOf s)) s)) ∧
  (∀ i ev s ph, 9 ≤ i → i < 19 → (s.slot i).cfg.enable = true → (s.slot i).st.held = false → inSafe s 0 i = false → ev.invalid = false → ev.unlock = false → eventPhase s i ev.at_ ev.phase = some ph → 
    Goes (exec (.refEvent i ev) s) (fun t =>
      (t.slot i).act = activityEvent s.now (slotPeriodFt s i) ev.at_ (s.slot i).act ∧
      t.bus.gathered = s.bus.gathered ++ [(i, ⟨ev.at_, ph, ev.ub, ev.tod, ev.prov, ev.hops, ev.originId, false⟩)])) ∧
  (∀ ev s, ev.invalid = false → ev.unlock = false → chanOk s 19 = true → 
    Goes (exec (.refEvent 19 ev) s) (fun t => t.tan.edge13 = some (ev.at_, ev.prov) ∧ t.slot 19 = s.slot 19)) ∧
  (∀ u bytes stop s, u < 2 → (if u = 0 then s.ref.tod.fmt0 else s.ref.tod.fmt1) = 0 → parseBinary bytes = none → 
    Goes (exec (.uartMessage u bytes stop) s) (fun t => t.ref.discarded = satInc sat32 s.ref.discarded ∧
      t.ref.uarts = s.ref.uarts))

/-- Further forms and cases of SEL_POLICY, SEL_FORCE, DPLL_CONFIG, STEP_EFFECTIVE, OSC_CONFIG, HOLDOVER_MODEL, HOLDOVER_LEARN: for every state and operands that meet a clause's conditions, exec answers the next state the clause gives, or one with the effects, or the absence of effects, it states. The choices under them are in log entry 23. The choices under them are in log entries 24 and 25. -/
def Obligations.SelectionAndHoldoverForms : Prop :=
  (∀ rq s, runs 0x0401 rq s = true → rq.payload = [] → 
    exec (.selPolicy rq) s = .next (replied 0x0401 rq (policyRecord s.sel.policy) s)) ∧
  (∀ rq s w, runs 0x0403 rq s = true → rq.payload.length = 4 → rd rq.payload 0 1 < 20 → rd rq.payload 1 1 ≤ 1 → rd rq.payload 2 2 = 0 → (s.slot (rd rq.payload 0 1)).cfg.enable = true → (tget {} s.tst.loops (4096 * 5)).depth = 0 → (tget {} s.tst.loops (4096 * 6 + rd rq.payload 0 1)).depth = 0 → s.sel.switching = some w → 
    Goes (exec (.selForce rq) s) (fun t => t.sel.switching = none ∧ t.sel.steps = s.sel.steps ∧
      t.sel.st.forced = some (rd rq.payload 0 1) ∧ t.sel.st.strict = bit (rd rq.payload 1 1) 0 ∧
      t.sel.st.abortCount = satInc sat32 s.sel.st.abortCount ∧ Answered 0x0403 rq [] s t)) ∧
  (∀ rq s, runs 0x0405 rq s = true → rq.payload = [] → 
    exec (.dpllConfig rq) s = .next (replied 0x0405 rq (dpllRecord s.sel.dpll) s)) ∧
  (∀ s p rest i, s.sel.steps = p :: rest → p.effective ≤ s.acc → p.kind = .switch i → p.size ≠ 0 → ftOk (ftAdd s.acc p.size) = true → ftOk (ftAdd p.effective p.size) = true → 
    Goes (exec .stepEffective s) (fun t => (t.acc : Int) = s.acc + p.size * 65536 ∧ t.sel.steps = rest ∧
      t.sel.st.selected = some i ∧ t.sel.guardRun = true ∧ t.sel.guardEnd = s.now + s.sel.policy.wtr * 1000000000 ∧
      t.sel.settling = true ∧ t.sel.uncertainEnd = some t.sel.settleEnd ∧ t.sel.freeze = none ∧
      t.bnd.stepTerms = s.bnd.stepTerms ++ [(p.bStep, t.sel.settleEnd)])) ∧
  (∀ s p rest i, s.sel.steps = p :: rest → p.effective ≤ s.acc → p.kind = .switch i → p.size = 0 → 
    Goes (exec .stepEffective s) (fun t => t.acc = s.acc ∧ t.sel.steps = rest ∧
      t.sel.st.selected = some i ∧ t.sel.guardRun = true ∧ t.sel.uncertainEnd = s.sel.uncertainEnd)) ∧
  (∀ s p rest, s.sel.steps = p :: rest → p.effective ≤ s.acc → p.kind = .mirrored → p.size ≠ 0 → ftOk (ftAdd s.acc p.size) = true → ftOk (ftAdd p.effective p.size) = true → 
    Goes (exec .stepEffective s) (fun t => (t.acc : Int) = s.acc + p.size * 65536 ∧ t.sel.steps = rest ∧
      t.sel.settling = true ∧ t.sel.uncertainEnd = some t.sel.settleEnd ∧ t.sel.st.selected = s.sel.st.selected ∧
      t.slot 19 = shiftSlot s 19 p.size false)) ∧
  (∀ rq s, runs 0x0501 rq s = true → rq.payload.length = 1 → rd rq.payload 0 1 < 4 → 
    exec (.oscConfig rq) s =
      .next (replied 0x0501 rq (oscRecord (rd rq.payload 0 1) (s.osci (rd rq.payload 0 1)).cfg) s)) ∧
  (∀ rq s, runs 0x0501 rq s = true → rq.payload.length = 1 → rd rq.payload 0 1 = 0xFF → 
    exec (.oscConfig rq) s = .next (replied 0x0501 rq (ensRecord s.osc.ens) s)) ∧
  (∀ rq s i, runs 0x0501 rq s = true → rq.payload.length = 16 → i = rd rq.payload 0 1 → i < 4 → rd rq.payload 1 1 ≤ 1 → (i ≠ 0 ∨ rd rq.payload 1 1 = 1) → rd rq.payload 2 1 ≤ 3 → rd rq.payload 3 1 ≤ 2 → 8 ≤ rd rq.payload 4 1 → rd rq.payload 4 1 ≤ 0x77 → rd rq.payload 6 1 ≤ 2 → rd rq.payload 7 1 = 0 → 1 ≤ rd rq.payload 8 2 → rd rq.payload 8 2 ≤ 1280 → rdI rq.payload 10 2 < rdI rq.payload 12 2 → rd rq.payload 14 2 = 0 → windowOpen s = true → s.log.fault = false → 
    Goes (exec (.oscConfig rq) s) (fun t => (t.osci i).cfg = ⟨some (bit (rd rq.payload 1 1) 0), some (rd rq.payload 2 1),
      rd rq.payload 3 1, some (rd rq.payload 4 1), rd rq.payload 5 1, rd rq.payload 6 1, rd rq.payload 8 2, rdI rq.payload 10 2,
      rdI rq.payload 12 2⟩ ∧ ((t.osci i).cfg.tempSource = 2 → (t.osci i).sensor.valid = false) ∧
      Answered 0x0501 rq rq.payload s t)) ∧
  (∀ rq s m, runs 0x0503 rq s = true → rq.payload.length = 2 → rd rq.payload 0 1 < 4 → rd rq.payload 1 1 ≤ 1 → m = (if rd rq.payload 1 1 = 0 then (s.osci (rd rq.payload 0 1)).inForce else (s.osci (rd rq.payload 0 1)).learned) → 
    exec (.holdoverModel rq) s =
      .next (replied 0x0503 rq (modelRecord s (rd rq.payload 0 1) m (fitAge s m)) s)) ∧
  (∀ rq s i, runs 0x0503 rq s = true → rq.payload.length = 72 → i = rd rq.payload 0 1 → i < 4 → rd rq.payload 1 1 < 32 → bit (rd rq.payload 1 1) 3 = false → 0 ≤ rdI rq.payload 16 8 → 0 ≤ rdI rq.payload 32 8 → 0 ≤ rdI rq.payload 48 8 → rd rq.payload 58 6 = 0 → rd rq.payload 64 8 ≤ ftSec s.acc → windowOpen s = true → s.log.fault = false → 
    Goes (exec (.holdoverModel rq) s) (fun t => (t.osci i).inForce = { (s.osci i).learned with override := false } ∧
      (t.osci i).written = [] ∧ (t.osci i).learned = (s.osci i).learned)) ∧
  (∀ rq s, runs 0x0504 rq s = true → rq.payload = [] → 
    exec (.holdoverLearn rq) s = .next (replied 0x0504 rq (learnRecord s 0) s))

/-- Further forms and cases of BOUND_PARAMS, LOG_READ, METROLOGY_ID, LOG_WRITE, FRAME_RECEIVE, CLAIM_WORD: for every state and operands that meet a clause's conditions, exec answers the next state the clause gives, or one with the effects, or the absence of effects, it states. The choices under them are in log entry 26. The choices under them are in log entries 15 and 23. -/
def Obligations.BoundSealComputationForms : Prop :=
  (∀ rq s, runs 0x0602 rq s = true → rq.payload = [] → 
    exec (.boundParams rq) s = .next (replied 0x0602 rq (boundRecord s.bnd.cfg) s)) ∧
  (∀ rq s, runs 0x0605 rq s = true → rq.payload.length = 8 → logOldest s ≤ rd rq.payload 0 4 → rd rq.payload 0 4 ≤ logNewest s → 1 ≤ rd rq.payload 4 2 → rd rq.payload 4 2 ≤ 125 → rd rq.payload 6 1 = 1 → rd rq.payload 7 1 = 0 → 
    Goes (exec (.logRead rq) s) (fun t =>
      t.log = { s.log with sinceAck := min s.log.sinceAck (s.log.nextSeq - rd rq.payload 0 4) } ∧
      t.kcp.replies.length = s.kcp.replies.length + 1)) ∧
  (∀ rq s l, runs 0x0606 rq s = true → rq.payload = [] → s.sealing.latch = some l → (if fromHost rq.src then s.sealing.latchHost else s.sealing.latchSb) = true → 
    Goes (exec (.metrologyId rq) s) (fun t => Answered 0x0606 rq l s t ∧
      (if fromHost rq.src then t.sealing.latchHost else t.sealing.latchSb) = false ∧
      (if fromHost rq.src then t.sealing.latchSb else t.sealing.latchHost) =
      (if fromHost rq.src then s.sealing.latchSb else s.sealing.latchHost))) ∧
  (∀ type detail id value s, s.log.queue.length < 256 → 
    Goes (exec (.logWrite type detail id value false) s) (fun t => t.log.fault = true ∧ t.log.entries = s.log.entries ∧
      t.log.queue = s.log.queue ++ [⟨type, detail, id, ftUs s.acc, value⟩] ∧ bit (t.flt 0).cond 5 = true)) ∧
  (∀ die s, die < 5 → 
    Goes (exec (.frameReceive die none) s) (fun t => (t.replica die).frame = (s.replica die).frame ∧
      (t.replica die).missed = min 4 ((s.replica die).missed + 1) ∧ (t.replica die).goodRun = 0 ∧
      (t.replica die).inLoss = ((s.replica die).inLoss || decide (3 ≤ (s.replica die).missed)))) ∧
  (∀ tile s, tile < 4 → (s.claimPath tile).missed = 3 → 
    Goes (exec (.claimWord tile none) s) (fun t => (t.claimPath tile).down = true ∧ claimFor t tile = 0 ∧
      (t.claimPath tile).claim = (s.claimPath tile).claim))

/-- Further forms and cases of FUR_PORT_CONFIG, FUR_PORT_STATUS, FUR_RATE_POLICY, FUR_CALIBRATE, FUR_MAILBOX_RECV, CAL_MEASUREMENT, CAL_RUN_END, BOUT_EPOCH, DOWNSTREAM_BURST: for every state and operands that meet a clause's conditions, exec answers the next state the clause gives, or one with the effects, or the absence of effects, it states. The choices under them are in log entry 28. The choices under them are in log entry 27. -/
def Obligations.FurrowForms : Prop :=
  (∀ rq s, runs 0x0701 rq s = true → rq.payload.length = 2 → rd rq.payload 0 2 < 1024 → 
    exec (.furPortConfig rq) s =
      .next (replied 0x0701 rq (furRecordOf (rd rq.payload 0 2) (furCfgOf s (rd rq.payload 0 2))) s)) ∧
  (∀ rq s p n, runs 0x0701 rq s = true → rq.payload.length = 64 → p = rd rq.payload 0 2 → p < 1024 → n = furNorm p (furParse rq.payload) → firstBad (furChecks s p rq.payload) = none → (s.port p).st.state = .disabled → n.enable = false → n.leaf = (furCfgOf s p).leaf → windowOpen s = true → s.log.fault = false → 
    Goes (exec (.furPortConfig rq) s) (fun t => t.port p = { s.port p with cfg := n, cfgNext := none } ∧
      Answered 0x0701 rq (furRecordOf p n) s t)) ∧
  (∀ rq s p n, runs 0x0701 rq s = true → rq.payload.length = 64 → p = rd rq.payload 0 2 → p < 1024 → n = furNorm p (furParse rq.payload) → firstBad (furChecks s p rq.payload) = none → (s.port p).st.state = .disabled → (s.flt (portBlock p)).safe = 0 → n.enable = true → n.leaf = (furCfgOf s p).leaf → (furCfgOf s p).enable = false → (furLoop s p).depth = 0 → windowOpen s = true → s.log.fault = false → 
    Goes (exec (.furPortConfig rq) s) (fun t => (t.port p).cfg = n ∧ (t.port p).st.state = .cal ∧
      (t.port p).cal.running = true ∧ (t.port p).cal.initial = true ∧ (t.port p).bout = 0 ∧ (t.port p).err = {} ∧
      Answered 0x0701 rq (furRecordOf p n) s t)) ∧
  (∀ rq s p, runs 0x0702 rq s = true → rq.payload.length = 4 → p = rd rq.payload 0 2 → p < 1024 → rd rq.payload 2 1 = 1 → rd rq.payload 3 1 = 0 → 
    Goes (exec (.furPortStatus rq) s) (fun t => (t.port p).err = {} ∧ (t.port p).mb.delivered = 0 ∧
      (t.port p).mb.messages = 0 ∧ (t.port p).mb.discards = 0 ∧ (t.port p).cal.rejects = 0 ∧ (t.port p).st = (s.port p).st ∧
      Answered 0x0702 rq (furArray s p ++ interpRecord s p ++ le 4 (s.port p).mb.delivered ++ le 4 (s.port p).mb.messages ++
      le 4 (s.port p).mb.discards ++ le 4 (s.port p).cal.rejects) s t)) ∧
  (∀ rq s first n, runs 0x0703 rq s = true → rq.payload.length = 4 → first = rd rq.payload 0 2 → n = rd rq.payload 2 2 → 1 ≤ n → n ≤ 1024 → first + n ≤ 1024 → 
    exec (.furRatePolicy rq) s = .next (replied 0x0703 rq (policyBytes s first n) s)) ∧
  (∀ rq s first n, runs 0x0703 rq s = true → rq.payload.length = 8 → first = rd rq.payload 0 2 → n = rd rq.payload 2 2 → 1 ≤ n → n ≤ 1024 → first + n ≤ 1024 → rd rq.payload 4 1 ≤ 1 → rd rq.payload 5 1 = 1 → rd rq.payload 6 2 = 0 → (portRange first n).filter (fun p => sends (s.port p).st.state && !(s.port p).cfg.leaf) ≠ [] → 
    Goes (exec (.furRatePolicy rq) s) (fun t => Held 0x0703 rq s t ∧ t.fur.policyWait = s.fur.policyWait ++
      [(s.kcp.nextId, first, n, (portRange first n).filter (fun p => sends (s.port p).st.state && !(s.port p).cfg.leaf))] ∧
      ∀ p ∈ portRange first n, (t.port p).floor = rd rq.payload 4 1 ∧ (t.port p).ceiling = 1)) ∧
  (∀ rq s p, runs 0x0704 rq s = true → rq.payload.length = 8 → p = rd rq.payload 0 2 → p < 1024 → rd rq.payload 2 2 = 1 → rd rq.payload 4 1 = 1 → rd rq.payload 5 3 = 0 → (s.port p).st.state ≠ .disabled → (s.port p).st.state ≠ .cal → 
    Goes (exec (.furCalibrate rq) s) (fun t => (t.port p).st.state = .cal ∧ (t.port p).cal.initial = true ∧
      (t.port p).filter = [] ∧ Pending 0x0704 rq [] s t)) ∧
  (∀ rq s p, runs 0x0706 rq s = true → rq.payload.length = 4 → p = rd rq.payload 0 2 → p < 1024 → rd rq.payload 2 2 = 0 → (s.port p).st.state ≠ .disabled → (s.port p).mb.rx = [] → 
    exec (.furMailboxRecv rq) s = .next (replied 0x0706 rq (zeros 4) s)) ∧
  (∀ p d s, p < 1024 → (s.port p).cal.running = true → (s.port p).cal.meas.length < 16 → (s.port p).cfg.leaf = true → (s.port p).st.state = .cal → (s.port p).cal.startedAt + 1000 * (s.port p).cal.meas.length ≤ s.now → 
    Goes (exec (.calMeasurement p d) s) (fun t => (t.port p).cal.meas = (s.port p).cal.meas ++ [d])) ∧
  (∀ p s k, p < 1024 → (s.port p).cal.running = true → (s.port p).cal.initial = false → (s.port p).cal.meas.length = 16 → k < 4 → calTight (calQuantity (s.port p).cal.meas k) = false → (s.port p).cal.rejectRun = 3 → 
    Goes (exec (.calRunEnd p) s) (fun t => (t.port p).st.state = .fault ∧ (t.port p).st.calFault = true ∧
      (t.port p).cal.rejects = satInc sat32 (s.port p).cal.rejects ∧ bit (t.flt (portBlock p)).status (16 + 4 * (p % 256)) = true)) ∧
  (∀ p s e at_, p < 1024 → epochDue s p = some (e, at_) → sends (s.port p).st.state = true → (s.port p).cfg.leaf = false → isDark s p e = true → 
    Goes (exec (.boutEpoch p) s) (fun t => (t.port p).dark = some e ∧ (t.port p).built = none ∧
      (t.port p).sent = (s.port p).sent ∧ (t.port p).bout = ((s.port p).bout + 1) % 2 ^ 48)) ∧
  (∀ p b s, p < 1024 → (s.port p).cfg.leaf = true → (s.port p).st.state = .tracking → lineFrame b.lean false (sdMax b.lean (if b.lean then 0 else (s.port p).cfg.mbMax)) b.groups = none → 
    Goes (exec (.downstreamBurst p b) s) (fun t =>
      t.port p = { s.port p with err := { (s.port p).err with code := satInc sat16 (s.port p).err.code } }))

/-- Further forms and cases of ETH_PORT_CONFIG, ETH_PORT_STATUS, ETH_TAG_CONFIG, ETH_PAUSE_CONFIG, ETH_ASYM_CAL, AUTO_NEGOTIATION, PAUSE_FRAME, PHASE_SAMPLE: for every state and operands that meet a clause's conditions, exec answers the next state the clause gives, or one with the effects, or the absence of effects, it states. Frames end and links change as log entry 4 says. -/
def Obligations.EthernetForms : Prop :=
  (∀ rq s, runs 0x0801 rq s = true → rq.payload.length = 1 → rd rq.payload 0 1 < 16 → 
    exec (.ethPortConfig rq) s = .next (replied 0x0801 rq (ethRecord s (rd rq.payload 0 1)) s)) ∧
  (∀ rq s p, runs 0x0801 rq s = true → rq.payload.length = 16 → p = rd rq.payload 0 1 → p < 16 → rd rq.payload 1 1 < 8 → bit (rd rq.payload 1 1) 0 = true → bit (s.ethP p).cfg.flags 0 = true → rd rq.payload 2 1 ≠ (s.ethP p).cfg.rate → rd rq.payload 2 1 ≤ 3 → rd rq.payload 3 1 ≤ 1 → 1518 ≤ rd rq.payload 4 2 → rd rq.payload 4 2 ≤ 9216 → rd rq.payload 6 2 = 0 → bit (rd rq.payload 8 1) 0 = false → rd rq.payload 14 2 = 0 → (s.flt 5).safe = 0 → sending s p = false → 
    Goes (exec (.ethPortConfig rq) s) (fun t => (t.ethP p).cfg = ethParse s p rq.payload ∧ (t.ethP p).state = 1 ∧
      (t.ethP p).anDone = false)) ∧
  (∀ rq s p, runs 0x0801 rq s = true → rq.payload.length = 16 → p = rd rq.payload 0 1 → p < 16 → rd rq.payload 1 1 < 8 → bit (rd rq.payload 1 1) 0 = true → bit (s.ethP p).cfg.flags 0 = true → rd rq.payload 2 1 ≠ (s.ethP p).cfg.rate → rd rq.payload 2 1 ≤ 3 → rd rq.payload 3 1 ≤ 1 → 1518 ≤ rd rq.payload 4 2 → rd rq.payload 4 2 ≤ 9216 → rd rq.payload 6 2 = 0 → bit (rd rq.payload 8 1) 0 = false → rd rq.payload 14 2 = 0 → (s.flt 5).safe = 0 → sending s p = true → 
    Goes (exec (.ethPortConfig rq) s) (fun t => (t.ethP p).cfgNext = some (ethParse s p rq.payload) ∧
      (t.ethP p).cfg = (s.ethP p).cfg ∧ (t.ethP p).state = (s.ethP p).state)) ∧
  (∀ rq s p, runs 0x0802 rq s = true → rq.payload.length = 2 → p = rd rq.payload 0 1 → p < 16 → rd rq.payload 1 1 = 1 → 
    Goes (exec (.ethPortStatus rq) s) (fun t => t.ethP p = clearEth (s.ethP p) ∧ (t.ethP p).state = (s.ethP p).state ∧
      Answered 0x0802 rq (ethStatus s p) s t)) ∧
  (∀ rq s, runs 0x0803 rq s = true → rq.payload.length = 2 → rd rq.payload 0 1 < 16 → rd rq.payload 1 1 ≤ 10 → 
    exec (.ethTagConfig rq) s = .next (replied 0x0803 rq (tagRecord s (rd rq.payload 0 1) (rd rq.payload 1 1)) s)) ∧
  (∀ rq s, runs 0x0804 rq s = true → rq.payload.length = 1 → rd rq.payload 0 1 < 16 → 
    exec (.ethPauseConfig rq) s = .next (replied 0x0804 rq (pauseRecord s (rd rq.payload 0 1)) s)) ∧
  (∀ rq s, runs 0x0805 rq s = true → rq.payload.length = 48 → rd rq.payload 0 1 = 0 → rd rq.payload 1 1 < 16 → rd rq.payload 2 1 ≤ 3 → rd rq.payload 3 1 ≤ 1 → fecFits (rd rq.payload 2 1) (rd rq.payload 3 1) = true → 
    exec (.ethAsymCal rq) s =
      .next (replied 0x0805 rq (asymRecord s 0 (rd rq.payload 1 1) (2 * rd rq.payload 2 1 + rd rq.payload 3 1)) s)) ∧
  (∀ p s, p < 16 → (s.ethP p).state = 1 → bit (s.ethP p).cfg.flags 1 = true → 
    Goes (exec (.autoNegotiation p none) s) (fun t =>
      (t.ethP p).state = 1 ∧ (t.ethP p).anFail = satInc sat32 (s.ethP p).anFail)) ∧
  (∀ p en quanta s q, p < 16 → q < 8 → bit en q = false → (s.ethP p).state = 3 → (s.ethP p).lpiUntil ≤ s.now → 
    Goes (exec (.pauseFrame p true en quanta) s) (fun t =>
      tget 0 (t.ethP p).pausedUntil q = tget 0 (s.ethP p).pausedUntil q ∧ (t.ethP p).pfcRx = satInc sat32 (s.ethP p).pfcRx)) ∧
  (∀ p s, p < 16 → (s.ethP p).state ≠ 0 → 
    Goes (exec (.phaseSample p false true) s) (fun t => t.ethP p = { s.ethP p with rxSampleAt := some s.now }))

/-- Further forms and cases of SVC_PROFILE, SVC_DOMAIN, SVC_CLIENT_REMOVE, SVC_CLIENT_QUERY, SVC_LIMITS, UPSTREAM_CONFIG, ETH_FRAME_RECEIVE, ARP_REQUEST, REQUEST_UNICAST_TRANSMISSION, CANCEL_UNICAST_TRANSMISSION, DELAY_REQ, GRANT_EXPIRY, NTP_REQUEST: for every state and operands that meet a clause's conditions, exec answers the next state the clause gives, or one with the effects, or the absence of effects, it states. The places of the two candidate sets are the model's uninterpreted hash (log entry 11). That a frame is queued in the same event is the model's reading (log entries 4, 29); what decryption and authentication give is uninterpreted (log entry 11). -/
def Obligations.PacketServiceForms : Prop :=
  (∀ rq s, runs 0x0901 rq s = true → rq.payload.length = 1 → rd rq.payload 0 1 < 16 → 
    exec (.svcProfile rq) s = .next (replied 0x0901 rq (profReply s (rd rq.payload 0 1)) s)) ∧
  (∀ rq s, runs 0x0902 rq s = true → rq.payload.length = 1 → rd rq.payload 0 1 < 8 → 
    exec (.svcDomain rq) s = .next (replied 0x0902 rq (domReply s (rd rq.payload 0 1)) s)) ∧
  (∀ rq s d, runs 0x0902 rq s = true → rq.payload.length = 32 → d = rd rq.payload 0 1 → d < 8 → (domChecks rq.payload).all (·.2) = true → bit (s.dom d).cfg.flags 0 = true → bit (domParse rq.payload).flags 0 = true → (domParse rq.payload).profile = (s.dom d).cfg.profile → (domParse rq.payload).domain = (s.dom d).cfg.domain → (domParse rq.payload).tenant = (s.dom d).cfg.tenant → (domParse rq.payload).spp = (s.dom d).cfg.spp → (domParse rq.payload).ports = (s.dom d).cfg.ports → loopHeld s 0 = false → 
    Goes (exec (.svcDomain rq) s) (fun t => (t.dom d).cfg = domParse rq.payload ∧ Answered 0x0902 rq (domReply t d) s t)) ∧
  (∀ rq s d, runs 0x0902 rq s = true → rq.payload.length = 32 → d = rd rq.payload 0 1 → d < 8 → (domChecks rq.payload).all (·.2) = true → bit (s.dom d).cfg.flags 0 = true → bit (domParse rq.payload).flags 0 = false → 
    Goes (exec (.svcDomain rq) s) (fun t => (t.dom d).cfg = domParse rq.payload ∧
      ∀ i ∈ domEntries s d, (t.entry i).grants = 0)) ∧
  (∀ rq s, runs 0x0904 rq s = true → rq.payload.length = 20 → bit (rd rq.payload 16 1) 3 = false → rd rq.payload 17 1 = 1 → rd rq.payload 18 2 < 4096 → (s.svc.granary.filter (fun e => e.2.valid && e.2.tenant == rd rq.payload 18 2)) = [] → 
    exec (.svcClientRemove rq) s = .next (replied 0x0904 rq (le 4 0) s)) ∧
  (∀ rq s, runs 0x0904 rq s = true → rq.payload.length = 20 → bit (rd rq.payload 16 1) 3 = false → rd rq.payload 17 1 = 2 → rd rq.payload 18 2 < 4096 → domEntries s (rd rq.payload 16 1 % 8) = [] → 
    exec (.svcClientRemove rq) s = .next (replied 0x0904 rq (le 4 0) s)) ∧
  (∀ rq s l n, runs 0x0905 rq s = true → rq.payload.length = 28 → rd rq.payload 0 1 = 1 → rd rq.payload 1 1 = 0 → n = rd rq.payload 2 2 → 1 ≤ n → n ≤ 64 → rd rq.payload 4 4 < 1048576 → rd rq.payload 8 16 = 0 → rd rq.payload 24 4 = 0 → l = (s.svc.granary.filter (fun e => e.2.valid && decide (rd rq.payload 4 4 ≤ e.1))).map (·.1) → 
    exec (.svcClientQuery rq) s = .next (replied 0x0905 rq
      (le 4 (if l.length ≤ n then 0xFFFFFFFF else l.getD n 0) ++ (l.take n).flatMap (clientRecord s)) s)) ∧
  (∀ rq s, runs 0x0906 rq s = true → rq.payload = [] → 
    exec (.svcLimits rq) s = .next (replied 0x0906 rq (limitsRecord s.svc.limits) s)) ∧
  (∀ rq s, runs 0x0907 rq s = true → rq.payload.length = 1 → rd rq.payload 0 1 ≤ 1 → 
    exec (.upstreamConfig rq) s = .next (replied 0x0907 rq (upReply s (rd rq.payload 0 1)) s)) ∧
  (∀ p f s, p < 16 → f.good = true → (s.ethP p).state = 3 → (s.ethP p).lpiUntil ≤ s.now → f.length ≤ (s.ethP p).cfg.maxFrame → f.body ≠ .pauseFrame → (s.ethP p).rxUsed + f.length ≤ 393216 → classify s p f = .error true → 
    Goes (exec (.ethFrameReceive p f) s) (fun t => t.ethP p = { s.ethP p with tagMiss := min 4294967295 ((s.ethP p).tagMiss + 1) })) ∧
  (∀ n s p d tm b f tg sd, n < 768 → (taskOf s n).bind rxOf = some (p, d, tm, b, f) → f.body = .neighborSolicitation tg sd → 
    Goes (exec (.arpRequest n) s) (fun t =>
      (lastQueued t p (queueOf s p d)).map (fun g => (g.msg, g.dstMac)) = some (.neighborAdvertisement tg, f.src))) ∧
  (∀ n s x kind log dur, n < 768 → ptpIn s n = some x → x.m.body = .signaling (.request kind log dur) → versionOk x.m = true → bit (s.dom x.d).cfg.flags 5 = true → (authCfg s x.d).1 = 0 → x.required = false → x.transport = 0 → (takeToken true false x.key.address s).1 = true → log < (s.dom x.d).cfg.minLog → 
    Goes (exec (.requestUnicastTransmission n) s) (fun t => t.svc.granary = s.svc.granary ∧
      (t.dom x.d).grantsDenied = min 4294967295 ((s.dom x.d).grantsDenied + 1) ∧
      (lastQueued t x.port (queueOf s x.port x.d)).map (·.msg) = some (.signaling (.grant kind log 0)))) ∧
  (∀ n s x kind i, n < 768 → ptpIn s n = some x → x.m.body = .signaling (.cancel kind) → versionOk x.m = true → (authCfg s x.d).1 = 0 → x.required = false → x.entry = some i → (s.entry i).isStatic = false → (s.entry i).grants - ((s.entry i).grants &&& 2 ^ kindBit kind) = 0 → 
    Goes (exec (.cancelUnicastTransmission n) s) (fun t => t.entry i = {} ∧
      (lastQueued t x.port (queueOf s x.port x.d)).map (·.msg) = some (.signaling (.ackCancel kind)))) ∧
  (∀ n s x, n < 768 → ptpIn s n = some x → x.m.body = .delayReq → versionOk x.m = true → (authCfg s x.d).1 = 0 → x.required = false → isGroup s x.port x.frame = false → x.entry = none → 
    Goes (exec (.delayReq n) s) (fun t => (t.prof x.port).noGrant = min 4294967295 ((s.prof x.port).noGrant + 1) ∧
      (t.ethP x.port).queues = (s.ethP x.port).queues)) ∧
  (∀ n s x, n < 768 → ptpIn s n = some x → x.m.body = .delayReq → versionOk x.m = true → (authCfg s x.d).1 = 0 → x.required = false → isGroup s x.port x.frame = true → bit (s.dom x.d).cfg.flags 4 = false → 
    Goes (exec (.delayReq n) s) (fun t => (t.prof x.port).noGrant = min 4294967295 ((s.prof x.port).noGrant + 1) ∧
      (t.ethP x.port).queues = (s.ethP x.port).queues)) ∧
  (∀ i s, i < 1048576 → (s.entry i).valid = true → (s.entry i).grants ≠ 0 → (s.entry i).grants < 8 → reached (ftSec (replicaTime s 0)) (s.entry i).expiry = true → (s.entry i).isStatic = true → 
    Goes (exec (.grantExpiry i) s) (fun t => t.entry i = { s.entry i with grants := 0, gen := s.kcp.g + 1 })) ∧
  (∀ n s p d tm b v6 src dst sport f m, n < 768 → (taskOf s n).bind rxOf = some (p, d, tm, b, f) → f.body = .ntpUdp v6 src dst sport m → m.nts = false → ntpOk m = true → (takeToken false v6 src s).1 = false → s.svc.limits.kodMode = 0 → 
    Goes (exec (.ntpRequest n) s) (fun t => (t.prof p).rateDropped = min 4294967295 ((s.prof p).rateDropped + 1) ∧
      (t.ethP p).queues = (s.ethP p).queues))

/-- Further forms and cases of UPSTREAM_MESSAGE, UPSTREAM_GRANT, SCHEDULED_MESSAGE, START_OF_FRAME, FRAME_STOMP: for every state and operands that meet a clause's conditions, exec answers the next state the clause gives, or one with the effects, or the absence of effects, it states. Authentication is off in the upstream clauses; that scheduling and sending are one event each is the model's reading (log entries 4, 30). -/
def Obligations.UpstreamAndTransmissionForms : Prop :=
  (∀ n s i p tm b f m o, n < 768 → (taskOf s n).bind rxOf = some (p, 9 + i, tm, b, f) → ptpOf f = some m → m.body = .sync true o → versionOk m = true → upOn s i = true → (authCfg s (9 + i)).1 = 0 → (s.upD i).chosen.isSome = true → candOf (s.upD i) f m = (s.upD i).chosen → (s.upD i).lastDelay = none → 
    Goes (exec (.upstreamMessage n) s) (fun t =>
      t.upD i = { s.upD i with lastSync := some ((tm : Int) - o - m.correction * 2 ^ 16, m.bound), pendingSync := none })) ∧
  (∀ n s i p tm b f m o sm tlv at_, n < 768 → (taskOf s n).bind rxOf = some (p, 9 + i, tm, b, f) → ptpOf f = some m → m.body = .sync true o → versionOk m = true → upOn s i = true → (authCfg s (9 + i)).1 = 0 → (s.upD i).chosen.isSome = true → candOf (s.upD i) f m = (s.upD i).chosen → (s.upD i).lastDelay = some (sm, tlv, at_) → s.now ≤ at_ + 4 * logNs (s.upD i).cfg.delayLog → 
    Goes (exec (.upstreamMessage n) s) (fun t =>
      (t.upD i).lastSync = some ((tm : Int) - o - m.correction * 2 ^ 16, m.bound) ∧
      (t.upD i).exchanges = min 4294967295 ((s.upD i).exchanges + 1))) ∧
  (∀ n s i p tm b f m o c2 t2 bd at_, n < 768 → (taskOf s n).bind rxOf = some (p, 9 + i, tm, b, f) → ptpOf f = some m → m.body = .followUp o → versionOk m = true → upOn s i = true → (authCfg s (9 + i)).1 = 0 → (s.upD i).chosen.isSome = true → candOf (s.upD i) f m = (s.upD i).chosen → (s.upD i).pendingSync.map (fun y => (y.1, y.2.1)) = some (m.seq, c2) → (s.upD i).pendingSync.map (fun y => (y.2.2.1, y.2.2.2.1)) = some (t2, bd) → (s.upD i).pendingSync.map (fun y => y.2.2.2.2) = some at_ → s.now ≤ at_ + logNs (s.upD i).cfg.syncLog → 
    Goes (exec (.upstreamMessage n) s) (fun t =>
      (t.upD i).lastSync = some ((t2 : Int) - o - (c2 + m.correction) * 2 ^ 16, if m.bound.isSome then m.bound else bd) ∧
      (t.upD i).pendingSync = none)) ∧
  (∀ n s i p tm b f m t4 ck t3, n < 768 → (taskOf s n).bind rxOf = some (p, 9 + i, tm, b, f) → ptpOf f = some m → m.body = .delayResp t4 ck → versionOk m = true → upOn s i = true → (authCfg s (9 + i)).1 = 0 → (s.upD i).chosen.isSome = true → candOf (s.upD i) f m = (s.upD i).chosen → (s.upD i).delayReqOut = some (m.seq, t3) → 
    Goes (exec (.upstreamMessage n) s) (fun t => t.upD i = if ck = rdBe (fit 8 Config.clockIdentity) 0 8 then
      { s.upD i with delayReqOut := none, lastDelay := some ((t4 : Int) - m.correction * 2 ^ 16 - t3, m.bound, s.now) } else s.upD i)) ∧
  (∀ n s i p tm b f m kind log c, n < 768 → (taskOf s n).bind rxOf = some (p, 9 + i, tm, b, f) → ptpOf f = some m → m.body = .signaling (.grant kind log 0) → versionOk m = true → upOn s i = true → (authCfg s (9 + i)).1 = 0 → candOf (s.upD i) f m = some c → 
    Goes (exec (.upstreamGrant n) s) (fun t => ((t.upD i).cand c).denied = true ∧
      ((t.upD i).cand c).grants = clrBit ((s.upD i).cand c).grants (kindBit kind) ∧
      (t.upD i).grantsDenied = min 4294967295 ((s.upD i).grantsDenied + 1))) ∧
  (∀ n s i p tm b f m kind c, n < 768 → (taskOf s n).bind rxOf = some (p, 9 + i, tm, b, f) → ptpOf f = some m → m.body = .signaling (.cancel kind) → versionOk m = true → upOn s i = true → (authCfg s (9 + i)).1 = 0 → candOf (s.upD i) f m = some c → 
    Goes (exec (.upstreamGrant n) s) (fun t => (t.upD i).cand c = { (s.upD i).cand c with grants := clrBit ((s.upD i).cand c).grants (kindBit kind) })) ∧
  (∀ d p kind s log flow tm, schedWant s (.multicast d p kind) = some (log, flow) → s.eng.sched = [(.multicast d p kind, tm)] → tm + logNs log ≤ s.now → (s.engine (placed s (bucketOf s flow))).input.length < 192 → 
    Goes (exec (.scheduledMessage (.multicast d p kind)) s) (fun t => t.eng.sched = [(.multicast d p kind, s.now)] ∧
      (t.engine (placed s (bucketOf s flow))).input = (s.engine (placed s (bucketOf s flow))).input ++
      [⟨.sched (.multicast d p kind), bucketOf s flow⟩])) ∧
  (∀ n i k s e, n < 768 → (taskOf s n).map (·.msg) = some (.sched (.unicast k .sync)) → e = s.entry i → e.key = k → grantLive s k .sync = some i → e.authRequired = false → (authCfg s e.key.domain).1 = 0 → 
    Goes (exec (.scheduledMessage (.run n)) s) (fun t => (t.entry i).syncSeq = (e.syncSeq + 1) % 65536 ∧
      (lastQueued t e.key.port (queueOf s e.key.port e.key.domain)).map (fun g => (g.msg, g.entry)) =
      some (.sync e.syncSeq (bit (s.dom e.key.domain).cfg.flags 1), some k))) ∧
  (∀ n i k s e, n < 768 → (taskOf s n).map (·.msg) = some (.sched (.unicast k .announce)) → e = s.entry i → e.key = k → grantLive s k .announce = some i → e.authRequired = false → (authCfg s e.key.domain).1 = 0 → 
    Goes (exec (.scheduledMessage (.run n)) s) (fun t => (t.entry i).annSeq = (e.annSeq + 1) % 65536 ∧
      (lastQueued t e.key.port (queueOf s e.key.port e.key.domain)).map (fun g => (g.msg, g.entry)) =
      some (.announce e.annSeq, some k))) ∧
  (∀ n d p s q, n < 768 → (taskOf s n).map (·.msg) = some (.sched (.multicast d p .sync)) → (schedWant s (.multicast d p .sync)).isSome = true → d < 8 → q = tget 0 (s.dom d).mcastSyncSeq p → (authCfg s d).1 = 0 → 
    Goes (exec (.scheduledMessage (.run n)) s) (fun t => tget 0 (t.dom d).mcastSyncSeq p = (q + 1) % 65536 ∧
      (lastQueued t p (queueOf s p d)).map (fun g => (g.msg, g.entry)) = some (.sync q (bit (s.dom d).cfg.flags 1), none))) ∧
  (∀ n d p s u, n < 768 → (taskOf s n).map (·.msg) = some (.sched (.multicast d p .delayResp)) → (schedWant s (.multicast d p .delayResp)).isSome = true → 9 ≤ d → u = s.upD (d - 9) → (authCfg s d).1 = 0 → 
    Goes (exec (.scheduledMessage (.run n)) s) (fun t => (t.upD (d - 9)).delayReqSeq = (u.delayReqSeq + 1) % 65536 ∧
      (lastQueued t p (queueOf s p d)).map (·.msg) = some (.delayReq u.delayReqSeq))) ∧
  (∀ n s y, n < 768 → (taskOf s n).map (·.msg) = some (.sched (.followUp y)) → domOn s y.svcDomain y.port = true → servable y.fields.time = true → y.alg = 0 → 
    Goes (exec (.scheduledMessage (.run n)) s) (fun t =>
      (lastQueued t y.port (queueOf s y.port y.svcDomain)).map (fun g => (g.msg, g.fields.time)) =
      some (.followUp ((syncSeqOf y.msg).getD 0), y.fields.time))) ∧
  (∀ p q s f, p < 16 → q < 8 → (s.ethP p).committedQ = [] → (s.ethP p).state = 3 → (s.ethP p).cfgNext = none → (s.ethP p).wireFree + 20 * wirePs (s.ethP p).cfg.rate ≤ s.now * 1000 → commitCandidate (settleWire p s) p = none → topQueue s (s.ethP p) (fun l => l.any plain) = some q → (tget [] (s.ethP p).queues q).find? plain = some f → grantHolds s f (ftSec (replicaTime s 0)) = true → 
    Goes (exec (.startOfFrame p q) s) (fun t =>
      tget [] (t.ethP p).queues q = (tget [] (s.ethP p).queues q).erase f ∧
      (t.ethP p).inFlight.map (fun g => (g.msg, g.ends)) = some (f.msg, s.now * 1000 + f.bytes * wirePs (s.ethP p).cfg.rate))) ∧
  (∀ p s f, p < 16 → (s.ethP p).inFlight = some f → f.port = p → s.now * 1000 < f.ends → f.committed.isSome = true → f.stomped = false → f.record = none → 
    Goes (exec (.frameStomp ⟨p, 0⟩) s) (fun t => (t.ethP p).inFlight = some { f with stomped := true, wire := invertFcs f.wire } ∧
      (t.prof p).stomped = min 4294967295 ((s.prof p).stomped + 1))) ∧
  (∀ n k0 id e y s, n < 768 → taskOf s n = some k0 → k0.msg = .cmd id (.add e) → s.kcp.slots.find? (fun z => z.id == id) = some y → y.lost = false → y.noReply = false → bit (s.dom e.key.domain).cfg.flags 0 = true → findEntry s e.key = none → entriesOf s e.key.domain < (s.dom e.key.domain).cfg.maxClients → (placeFor s e.key).isSome = true → 
    Goes (exec (.scheduledMessage (.run n)) s) (fun t => ∃ p ∈ (placeFor s e.key).toList,
      t.entry p.2 = { e with valid := true, gen := s.kcp.g + 1 } ∧
      t.kcp.replies = s.kcp.replies ++ [mkReply y s.now stOK 0 t.kcp.g (le 4 p.2)])) ∧
  (∀ n k0 id e y s i, n < 768 → taskOf s n = some k0 → k0.msg = .cmd id (.add e) → s.kcp.slots.find? (fun z => z.id == id) = some y → y.lost = false → y.noReply = false → bit (s.dom e.key.domain).cfg.flags 0 = true → findEntry s e.key = some i → 
    Goes (exec (.scheduledMessage (.run n)) s) (fun t =>
      t.entry i = { s.entry i with tenant := e.tenant, authRequired := e.authRequired, boundTlv := e.boundTlv, isStatic := e.isStatic, gen := s.kcp.g + 1 } ∧ t.kcp.replies = s.kcp.replies ++ [mkReply y s.now stOK 0 t.kcp.g (le 4 i)])) ∧
  (∀ n k0 id k tn y s i, n < 768 → taskOf s n = some k0 → k0.msg = .cmd id (.remove 0 k tn) → s.kcp.slots.find? (fun z => z.id == id) = some y → y.lost = false → y.noReply = false → s.svc.removals = [⟨id, 1, 0⟩] → findEntry s k = some i → (s.entry i).key = k → (s.entry i).grants = 0 → 
    Goes (exec (.scheduledMessage (.run n)) s) (fun t => t.svc.removals = [] ∧
      t.entry i = (if k0.bucket = bucketOf s (flowEntry k) then {} else s.entry i) ∧
      t.kcp.replies = s.kcp.replies ++ [mkReply y s.now stOK 0 t.kcp.g (le 4 (if k0.bucket = bucketOf s (flowEntry k) then 1 else 0))]))

/-- Further forms and cases of PROG_STAGE, ENG_PLACEMENT_POLICY, WAIT_EVENT, STALL_CENSUS, ENGINE_SWITCH, REBALANCE, CLUSTER_WAKE, CLUSTER_FALLOW, ARBITER_WINDOW: for every state and operands that meet a clause's conditions, exec answers the next state the clause gives, or one with the effects, or the absence of effects, it states. The verdict on an image is the model's uninterpreted signature check (log entry 11). Which engines and clusters are chosen is the event's (log entry 32). -/
def Obligations.EngineForms : Prop :=
  (∀ rq s, runs 0x0A02 rq s = true → 13 ≤ rq.payload.length → rq.payload.length ≤ 4080 → rd rq.payload 8 1 = 2 → rd rq.payload 9 3 = 0 → rd rq.payload 4 4 ≤ 24576 → s.eng.staging.bytes ≠ [] → rd rq.payload 0 4 = s.eng.staging.bytes.length → rd rq.payload 4 4 = s.eng.staging.total → rd rq.payload 0 4 + (rq.payload.length - 12) = rd rq.payload 4 4 → s.eng.activation = none → 
    Goes (exec (.progStage rq) s) (fun t => ∀ img ∈ (verifySower s (s.eng.staging.bytes ++ rq.payload.drop 12)).toList,
      t.eng.staging = { total := 0, bytes := [], verified := some img } ∧ Answered 0x0A02 rq (le 4 img.version) s t)) ∧
  (∀ rq s, runs 0x0A04 rq s = true → rq.payload = [] → 
    exec (.engPlacementPolicy rq) s = .next (replied 0x0A04 rq (placeBytes s.eng.policy) s)) ∧
  (∀ n k next s, n < 768 → (s.thread n).wait.all (fun w => decide (w.cls ≠ k)) = true → k ∈ (s.thread n).late → 
    Goes (exec (.waitEvent n k next) s) (fun t => t.thread n = { s.thread n with late := (s.thread n).late.erase k } ∧
      t.eng.lateEvents = min 4294967295 (s.eng.lateEvents + 1))) ∧
  (∀ s, deadlocked (censusSample s) = true → 
    Goes (exec .stallCensus s) (fun t => t.eng.deadlocks = min 4294967295 (s.eng.deadlocks + 1) ∧
      t.eng.lastDeadlock = ftSec (replicaTime s 0) ∧ bit (t.flt 2).status 1 = true ∧ t.eng.restarting = some s.now ∧
      (∀ n ∈ awakeThreads s, (t.thread n).task = none) ∧ ∀ e ∈ (awakeClusters s).flatMap enginesOf, (t.engine e).state = 4)) ∧
  (∀ e s img, e < 96 → e % 8 = 7 → s.eng.activation = some img → engineIdle s e = true → s.eng.engines.filter (fun y => decide (y.2.state = 3)) = [(e, s.engine e)] → twf {} s.eng.engines = true → 
    Goes (exec (.engineSwitch e) s) (fun t => (t.engine e).image = img ∧ (t.engine e).state = 2 ∧ t.eng.activation = none ∧
      t.eng.active = img ∧ t.eng.staging = {})) ∧
  (∀ occ s b e, s.eng.loopAt + 1000000 ≤ s.now → s.eng.policy.rebalance = true → moveAllowed s occ (b, e) = false → 
    Goes (exec (.rebalance [(b, e)] occ) s) (fun t => t.eng.moving = s.eng.moving ∧ t.eng.loopAt = s.now)) ∧
  (∀ mv occ s, s.eng.loopAt + 1000000 ≤ s.now → s.eng.policy.rebalance = false → 
    Goes (exec (.rebalance mv occ) s) (fun t => t.eng.moving = s.eng.moving ∧ t.eng.placementUnmet = false ∧
      t.eng.fallowUnmetMs = if (s.eng.loadUnmet || s.eng.floorUnmet) = true then min 4294967295 (s.eng.fallowUnmetMs + 1) else s.eng.fallowUnmetMs)) ∧
  (∀ k o s, k < 12 → o ≤ 7500 → 
    exec (.clusterWake k o) s = .next (commitG s (loadTarget false s))) ∧
  (∀ k o s, k < 12 → o < 2500 → 2 ≤ ((List.range 12).filter (stays s)).length → o * (awakeClusters s).length < 5000 * ((awakeClusters s).length - 1) → ((countedAwake s ≤ s.eng.policy.minAwake ∨ pinnedAwake s k = true)) → 
    Goes (exec (.clusterFallow k o) s) (fun t => t.eng = { s.eng with floorUnmet := true })) ∧
  (∀ s b cw gw, s.arb.window ≠ some (windowMarker s) → s.arb.next = some (b, cw, gw) → 
    Goes (exec .arbiterWindow s) (fun t => t.arb.burst = b ∧ t.arb.cryptoW = cw ∧ t.arb.granW = gw ∧ t.arb.next = none ∧ t.arb.held = []))

/-- Further forms and cases of NTS_MASTER_ROTATE, EPOCH_ROLL, HARROW_VISIT: for every state and operands that meet a clause's conditions, exec answers the next state the clause gives, or one with the effects, or the absence of effects, it states. Random masks and ciphers are free or uninterpreted (log entries 3, 11); times are those of log entry 1. -/
def Obligations.KeyForms : Prop :=
  (∀ rq s i j, runs 0x0B06 rq s = true → rq.payload.length = 4 → i = rd rq.payload 0 1 → i < 16 → j = rd rq.payload 1 1 → j < 16 → j ≠ i → rd rq.payload 2 2 = 0 → (keySlot s 3 i).valid = true → (keySlot s 3 j).valid = true → (keySlot s 3 j).role ≠ 2 → s.key.rngFault = false → s.key.wrapGen + s.key.invalidating.length < 65535 → 
    Goes (exec (.ntsMasterRotate rq) s) (fun t => t.key.rolesNext = some i ∧
      keySlot t 3 j = { lastGen := (keySlot s 3 j).lastGen } ∧ Held 0x0B06 rq s t ∧
      t.key.invalidating = s.key.invalidating ++ [⟨s.kcp.nextId, true, [(3, j, keySlot s 3 j)]⟩])) ∧
  (∀ s i, epochNow s = (s.key.epoch + 1) % 4294967296 → twf {} s.key.tenants = true → (s.tenant i).valid = true → 
    Goes (exec .epochRoll s) (fun t => t.key.epoch = epochNow s ∧ (t.tenant i).epochCur = (s.tenant i).epochNext ∧
      (t.tenant i).shares = (s.tenant i).shares)) ∧
  (∀ s, s.key.paused = false → s.pwr.sState ≠ 0 → s.key.lastVisit + 15625000 ≤ s.now → s.key.position = 16383 → 
    Goes (exec .harrowVisit s) (fun t => t.key.position = 0 ∧ t.key.cycles = min 4294967295 (s.key.cycles + 1) ∧
      t.key.fCycles = s.key.fCycles.map (fun x => min 4294967295 (x + 1))))

/-- Further forms and cases of EVD_STORE_CONFIG, EVD_STOP, EVD_FLUSH, EVD_RETENTION, EVD_SHEAF_READ, RECORD_RESOLVE, NVME_COMPLETION, NVME_WRITE_TIMEOUT, NVME_ENUMERATE: for every state and operands that meet a clause's conditions, exec answers the next state the clause gives, or one with the effects, or the absence of effects, it states. The store's cipher and a sheaf's signature are uninterpreted (log entry 11). -/
def Obligations.EvidenceForms : Prop :=
  (∀ rq s, runs 0x0C01 rq s = true → rq.payload = [] → 
    exec (.evdStoreConfig rq) s = .next (replied 0x0C01 rq (evdRecord s 0) s)) ∧
  (∀ rq s q g x, q = withByte 0 3 rq → runs 0x0C01 q s = true → q.payload.length = 24 → rd q.payload 1 1 < 2 → rd q.payload 2 2 < 4096 → rd q.payload 4 1 ≤ 20 → rd q.payload 5 1 = 0 → rd q.payload 6 2 ≤ 8192 → 10 ≤ rd q.payload 8 4 → rd q.payload 8 4 ≤ 60000 → rd q.payload 12 4 = 0 → g = (⟨rd q.payload 1 1, rd q.payload 2 2, rd q.payload 4 1, rd q.payload 6 2, rd q.payload 8 4⟩ : EvdCfg) → s.evd.store = 2 → filling s = some x → x.records.length < 4064 → s.evd.noStaging.count = 0 → s.evd.noKey.count = 0 → s.evd.marksDue = [] → 
    Goes (exec (.evdStop rq) s) (fun t => t.evd.staged = s.evd.staged.map (fun y => if y.index = x.index then { y with phase := .closed, close := 3 } else y) ∧
      t.evd.stopping = true ∧ t.evd.store = 2 ∧ Answered 0x0C01 rq (evdRecord t 3) s t)) ∧
  (∀ rq s q g, q = withByte 0 4 rq → runs 0x0C01 q s = true → q.payload.length = 24 → rd q.payload 1 1 < 2 → rd q.payload 2 2 < 4096 → rd q.payload 4 1 ≤ 20 → rd q.payload 5 1 = 0 → rd q.payload 6 2 ≤ 8192 → 10 ≤ rd q.payload 8 4 → rd q.payload 8 4 ≤ 60000 → rd q.payload 12 4 = 0 → g = (⟨rd q.payload 1 1, rd q.payload 2 2, rd q.payload 4 1, rd q.payload 6 2, rd q.payload 8 4⟩ : EvdCfg) → filling s = none → 
    Goes (exec (.evdFlush rq) s) (fun t => t.evd = { s.evd with cfg := g } ∧ Answered 0x0C01 rq (evdRecord t 4) s t)) ∧
  (∀ rq s, runs 0x0C04 rq s = true → rq.payload = [] → 
    exec (.evdRetention rq) s = .next (replied 0x0C04 rq (retentionRecord s) s)) ∧
  (∀ rq s i x, runs 0x0C05 rq s = true → rq.payload.length = 16 → i = rd rq.payload 0 8 → oldestIndex s ≤ i → i < nextSeal s → rd rq.payload 8 4 % 32 = 0 → rd rq.payload 8 4 < 131072 → rd rq.payload 12 2 % 32 = 0 → 32 ≤ rd rq.payload 12 2 → rd rq.payload 12 2 ≤ 4032 → rd rq.payload 8 4 + rd rq.payload 12 2 ≤ 131072 → rd rq.payload 14 1 < 4 → rd rq.payload 15 1 = 0 → s.evd.staged.find? (fun y => y.index == i) = some x → 
    Goes (exec (.evdSheafRead rq) s) (fun t => Answered 0x0C05 rq (sheafReply rq.payload x true s).payload s t ∧ t.evd = s.evd)) ∧
  (∀ rq s i, runs 0x0C05 rq s = true → rq.payload.length = 16 → i = rd rq.payload 0 8 → oldestIndex s ≤ i → i < nextSeal s → rd rq.payload 8 4 % 32 = 0 → rd rq.payload 8 4 < 131072 → rd rq.payload 12 2 % 32 = 0 → 32 ≤ rd rq.payload 12 2 → rd rq.payload 12 2 ≤ 4032 → rd rq.payload 8 4 + rd rq.payload 12 2 ≤ 131072 → rd rq.payload 14 1 < 4 → rd rq.payload 15 1 = 0 → s.evd.staged.find? (fun y => y.index == i) = none → ringSize s ≠ 0 → 
    Goes (exec (.evdSheafRead rq) s) (fun t => Held 0x0C05 rq s t ∧ t.evd.ops = s.evd.ops ++
      [⟨.read s.kcp.nextId i, queueFree64 s (posOrdinal s (ringPos s i)), false, s.now⟩])) ∧
  (∀ i k s r tg, k < 4064 → recordAt s (i, k) = some r → r.kind = 1 → r.pending = some tg → r.started = false → messageGone s (i, k) tg = true → 
    Goes (exec (.recordResolve i k) s) (fun t => recordAt t (i, k) = some { encryptDraft id r with kind := 2, pending := none } ∧
      t.evd.voids = min 18446744073709551615 (s.evd.voids + 1))) ∧
  (∀ n s o i x, (s.evd.ops.filter (fun o => o.issued))[n]? = some o → o.kind = .sheaf i true → s.evd.staged.find? (fun y => y.index == i) = some x → s.evd.stopping = false → 
    Goes (exec (.nvmeCompletion ⟨true, n⟩) s) (fun t => t.evd.ops.map (fun o => o.kind) = (s.evd.ops.erase o).map (fun o => o.kind) ∧
      t.evd.staged = s.evd.staged.filter (fun y => y.index != i) ∧
      driveAt t (ringPos s i) = (driveAt s (ringPos s i)).map (fun d => { d with header := x.header, low := x.records.take 96 }))) ∧
  (∀ n s o k b, (s.evd.ops.filter (fun o => o.issued))[n]? = some o → o.kind = .super k b → writingSupers (retire o s) = false → s.evd.store = 0 → b.store = s.evd.storeId → s.evd.superDue = false → 
    Goes (exec (.nvmeCompletion ⟨true, n⟩) s) (fun t => t.evd.ops.map (fun o => o.kind) = (s.evd.ops.erase o).map (fun o => o.kind) ∧
      t.evd.store = 1 ∧ t.evd.reservedUpto = b.reserved ∧
      t.evd.ns = s.evd.ns.map (fun x => if x.ordinal = some k then placeSuper b x else x))) ∧
  (∀ n s o k b, (s.evd.ops.filter (fun o => o.issued))[n]? = some o → o.kind = .super k b → o.retried = false → 
    Goes (exec (.nvmeCompletion ⟨false, n⟩) s) (fun t =>
      t.evd.ops = s.evd.ops.map (fun x => if x = o then { x with retried := true, since := s.now } else x) ∧
      t.evd.retries = min 18446744073709551615 (s.evd.retries + 1) ∧ t.evd.store = s.evd.store)) ∧
  (∀ ok_ n s o c i k, (s.evd.ops.filter (fun o => o.issued))[n]? = some o → o.kind = .read c i → ((ok_ = true ∨ o.retried = true)) → s.kcp.slots.find? (fun y => y.id == c) = some k → k.lost = false → k.noReply = false → 
    Goes (exec (.nvmeCompletion ⟨ok_, n⟩) s) (fun t => t.evd.ops.map (fun o => o.kind) = (s.evd.ops.erase o).map (fun o => o.kind) ∧
      t.kcp.replies.length = s.kcp.replies.length + 1 ∧ t.kcp.slots = s.kcp.slots.filter (fun y => y.id != c))) ∧
  (∀ s o i d, s.evd.ops.find? (opLate s) = some o → o.retried = true → o.kind = .sheaf i d → 
    Goes (exec .nvmeWriteTimeout s) (fun t => t.evd.store = 3 ∧ bit (t.flt 4).status 1 = true ∧
      t.evd.staged = s.evd.staged.map (fun y => if y.index = i then { y with phase := .sealed } else y))) ∧
  (∀ l s, s.evd.enumDue = true → (enumerated l s).evd.ns.find? (fun n => completeSet (enumerated l s) (superStore n)) = none → 
    Goes (exec (.nvmeEnumerate l) s) (fun t => t.evd.enumDue = false ∧ t.evd.store = 0 ∧ t.evd.storeId = 0))

/-- Further forms and cases of TAN_CONFIG, TAN_COMPARE_LIMITS, CLAIM_SEND, CLAIM_CHECK, CLAIM_FRAME: for every state and operands that meet a clause's conditions, exec answers the next state the clause gives, or one with the effects, or the absence of effects, it states. The choices under them are in log entry 37. -/
def Obligations.TandemForms : Prop :=
  (∀ rq s, runs 0x0D01 rq s = true → rq.payload = [] → 
    exec (.tanConfig rq) s = .next (replied 0x0D01 rq (tanRecord s.tan.cfg) s)) ∧
  (∀ rq s, runs 0x0D04 rq s = true → rq.payload = [] → 
    exec (.tanCompareLimits rq) s = .next (replied 0x0D04 rq (tanLimBytes s) s)) ∧
  (∀ s i k, tanOn s = true → s.tan.claimsHeld = [i] → s.kcp.slots.find? (fun y => y.id == i) = some k → k.lost = false → k.noReply = false → 
    Goes (exec .claimSend s) (fun t => t.tan.sentClaim = s.tan.own ∧ t.tan.claimsHeld = [] ∧
      t.kcp.replies = s.kcp.replies ++ [mkReply k s.now stOK 0 t.kcp.g (le 1 s.tan.own ++ le 1 s.tan.partner ++ le 1 s.tan.role ++ zeros 1)])) ∧
  (∀ s, tanOn s = true → s.tan.frameClaim = none → s.tan.missedRun = 3 → s.tan.lineMissRun = 3 → 
    Goes (exec (.claimCheck []) s) (fun t => t.tan.partner = 0 ∧ t.tan.lineOk = false ∧
      t.tan.timeouts = min 4294967295 (s.tan.timeouts + 1) ∧ t.tan.missedWords = min 4294967295 (s.tan.missedWords + 1))) ∧
  (∀ s, tanOn s = true → s.tan.linkBad = 3 → 
    Goes (exec (.claimFrame none) s) (fun t => t.tan.linkUp = false ∧ t.tan.linkBad = 4 ∧ t.tan.linkGood = 0))

/-- Further forms and cases of SYN_CONFIG, OUT_PPS_CONFIG, OUT_SAMPLE_CLOCK, REFCLK_SPREAD, PPS_EDGE, LOOP_CHECK, EPOCH_START_MARKER, SYNC_IN_EDGE, PWR_POLICY, PWR_STATUS, VOLTAGE_WINDOW, AVS_FAULT, TEMP_CRIT, TEMP_CRIT_CLEAR: for every state and operands that meet a clause's conditions, exec answers the next state the clause gives, or one with the effects, or the absence of effects, it states. The phase errors that SYN_STATUS reports are free values (log entry 3). The cycles and edges that a measurement gives are the event's operands (log entry 38). Measured values are free values (log entry 3). -/
def Obligations.OutputAndPowerForms : Prop :=
  (∀ rq s, runs 0x0E01 rq s = true → rq.payload.length = 1 → rd rq.payload 0 1 < 4 → 
    exec (.synConfig rq) s = .next (replied 0x0E01 rq (synRecord s (rd rq.payload 0 1)) s)) ∧
  (∀ rq s, runs 0x0E03 rq s = true → rq.payload.length = 1 → rd rq.payload 0 1 < 8 → 
    exec (.outPpsConfig rq) s = .next (replied 0x0E03 rq (ppsBytes s (rd rq.payload 0 1)) s)) ∧
  (∀ rq s i n, runs 0x0E03 rq s = true → rq.payload.length = 24 → i = rd rq.payload 0 1 → 4 ≤ i → i < 8 → n = (⟨true, rd rq.payload 1 1, rd rq.payload 2 1, rdI rq.payload 4 8, rd rq.payload 12 4, rd rq.payload 16 8⟩ : PpsCfg) → n.flags < 4 → n.src < 4 → rd rq.payload 3 1 = 0 → 0 ≤ n.offset → n.offset * (s.apll n.src).cfg.fvco ≤ n.divider * 65536000 → n.width = 0 → dividerOk (s.apll n.src).cfg.fvco n.divider = true → 
    Goes (exec (.outPpsConfig rq) s) (fun t => ppsRec t i = n ∧
      (bit (ppsRec s i).flags 1 = true ∧ bit n.flags 1 = false → (t.outp i).synced = false ∧ (t.outp i).syncGate = true ∧
      (t.apll n.src).resumeAt = some (((s.apll n.src).resumeAt).getD (resumeInstant s))) ∧ Answered 0x0E03 rq (ppsBytes t i) s t)) ∧
  (∀ rq s, runs 0x0E04 rq s = true → rq.payload.length = 1 → rd rq.payload 0 1 < 8 → 
    exec (.outSampleClock rq) s = .next (replied 0x0E04 rq (sclkBytes s (rd rq.payload 0 1)) s)) ∧
  (∀ rq s i n, runs 0x0E04 rq s = true → rq.payload.length = 48 → i = rd rq.payload 0 1 → i < 8 → n = (⟨rd rq.payload 1 1, rd rq.payload 2 1, rd rq.payload 3 1, rd rq.payload 4 4, rd rq.payload 8 4, rd rq.payload 12 4, rdTime rq.payload 16, rd rq.payload 32 4⟩ : SclkCfg) → n = { sclkRec s i with flags := clrBit (sclkRec s i).flags 0 } → n.flags < 4 → n.src < 4 → ((n.markerOut = 255 ∨ (n.markerOut < 4 ∧ outMarker s n.markerOut = true ∧ (ppsRec s n.markerOut).src = n.src))) → sclkOk (s.apll n.src).cfg.fvco n = true → 1 ≤ n.frameA → 2 * n.frameA ≤ n.frameB → rd rq.payload 16 4 = 0 → rd rq.payload 20 4 % 1000 = 0 → rd rq.payload 20 4 < 1000000000 → 1024 ≤ n.lead → n.lead ≤ 16777216 → rd rq.payload 36 12 = 0 → bit (sclkRec s i).flags 0 = true → 
    Goes (exec (.outSampleClock rq) s) (fun t => sclkRec t i = n ∧
      t.outp (8 + i) = { s.outp (8 + i) with stopAt := if outDrives s (8 + i) = true then frameEnd s (8 + i) else (s.outp (8 + i)).stopAt } ∧
      Answered 0x0E04 rq (sclkBytes t i) s t)) ∧
  (∀ rq s, runs 0x0E05 rq s = true → rq.payload = [] → 
    exec (.refclkSpread rq) s = .next (replied 0x0E05 rq (spreadBytes s) s)) ∧
  (∀ i s k e, i < 4 → pulseDue s i = some (k, e) → (s.outp i).pulseAt < e → outMarker s i = false → outDrives s i = true → labelEmitted (s.outp i).labels k = true → 
    Goes (exec (.ppsEdge i) s) (fun t => t.outp i = { s.outp i with pulseAt := e.toNat, pulseEnd := e.toNat + pulseWidth s i, drove := false, suppressed := min 4294967295 ((s.outp i).suppressed + 1) })) ∧
  (∀ s, outPath s = false → 
    Goes (exec (.loopCheck none none) s) (fun t => tget none t.syn.loopErr 0 = none ∧ tget none t.syn.loopErr 1 = none ∧
      t.syn.loopBad = s.syn.loopBad ∧ t.regs = s.regs)) ∧
  (∀ i s, i < 8 → outEnabled s (8 + i) = true → (sclkRec s i).markerOut < 4 → (sclkRec s i).epochStart ≤ replicaTime s 0 → (s.outp (8 + i)).pulseAt < (sclkRec s i).epochStart → (s.outp (8 + i)).synced = false → outDrives s (8 + i) = false → 
    Goes (exec (.epochStartMarker i) s) (fun t => (t.outp (8 + i)).pulseAt = (sclkRec s i).epochStart ∧
      (t.outp (sclkRec s i).markerOut).markerMissed = true)) ∧
  (∀ s, s.syn.syncArmed = false → 
    exec (.syncInEdge true) s = .next (commitG s s)) ∧
  (∀ rq s, runs 0x0F01 rq s = true → rq.payload = [1] → 
    exec (.pwrPolicy rq) s = .next (replied 0x0F01 rq (pwrBytes s) s)) ∧
  (∀ rq s, runs 0x0F01 rq s = true → rq.payload = [2] → 
    exec (.pwrPolicy rq) s = .next (replied 0x0F01 rq (arbBytes s) s)) ∧
  (∀ rq s fl ce, runs 0x0F01 rq s = true → rq.payload.length = 16 → rd rq.payload 0 1 = 1 → rd rq.payload 1 3 = 0 → rd rq.payload 10 6 = 0 → fl = rd rq.payload 4 2 → ce = rd rq.payload 6 2 → voltageOk fl = true → voltageOk ce = true → fl ≤ ce → 10 ≤ rd rq.payload 8 2 → rd rq.payload 8 2 ≤ 200 → ((s.pwr.vset < fl ∨ ce < s.pwr.vset)) → 
    Goes (exec (.pwrPolicy rq) s) (fun t => t.pwr = { s.pwr with floor := fl, ceiling := ce, target := rd rq.payload 8 2, held := s.pwr.held ++ [s.kcp.nextId] } ∧ t.kcp.replies = s.kcp.replies ∧ Held 0x0F01 rq s t)) ∧
  (∀ rq s, runs 0x0F02 rq s = true → rq.payload = [] → s.pwr.avsFault = false → 
    Goes (exec (.pwrStatus rq) s) (fun t => t.free = s.free + 1 ∧ t.pwr = s.pwr ∧ t.kcp.replies.length = s.kcp.replies.length + 1 ∧ ∀ r ∈ (t.kcp.replies.drop s.kcp.replies.length).head?.toList, r.status = stOK ∧ r.tag = rq.tag ∧
      r.payload.take 4 = le 1 (pwrFlags s) ++ le 1 s.pwr.sState ++ le 2 s.pwr.vset ∧
      (r.payload.drop 6).take 34 = le 2 s.pwr.p99 ++ le 4 s.pwr.unmetMs ++ le 4 s.pwr.avsWrites ++ (List.range 6).flatMap (fun d => leI 2 (dieTemp s d)) ++ (List.range 6).flatMap (fun d => le 2 (tileMargin s d)))) ∧
  (∀ p99 ms s, s.pwr.sState ≠ 0 → s.pwr.lastWindow + 100000 ≤ s.now → s.pwr.avsFault = false → s.pwr.held = [] → p99 ≤ 65535 → p99 < 7 * s.pwr.target → 9 ≤ s.pwr.belowRun → s.pwr.floor + 5 ≤ s.pwr.vset → s.pwr.vset ≤ s.pwr.ceiling → 
    Goes (exec (.voltageWindow ⟨p99, ms⟩ true) s) (fun t => t.pwr.vset = s.pwr.vset - 5 ∧ t.pwr.unmet = false ∧ t.pwr.p99 = p99)) ∧
  (∀ p99 ok ms s, ((s.pwr.sState = 0 ∨ s.now < s.pwr.lastWindow + 100000)) → 
    Goes (exec (.voltageWindow ⟨p99, ms⟩ ok) s) (fun t => t.pwr = s.pwr ∧ t.regs = s.regs ∧ t.kcp.replies = s.kcp.replies)) ∧
  (∀ alert s, ((s.pwr.sState = 0 ∨ (alert = false ∧ s.pwr.avsFail < 3) ∨ s.pwr.avsFault = true)) → 
    exec (.avsFault alert) s = .next (commitG s s)) ∧
  (∀ die temp s, die < 6 → temp ≤ 110 * 128 → 
    Goes (exec (.tempCrit die temp) s) (fun t => t.pwr.tempCrit = s.pwr.tempCrit ∧ dieTemp t die = temp ∧ t.regs.flt = s.regs.flt)) ∧
  (∀ a b c d e f s, (∃ x ∈ [a, b, c, d, e, f], x = -32768 ∨ 100 * 128 ≤ x) → 
    Goes (exec (.tempCritClear [a, b, c, d, e, f]) s) (fun t => t.pwr.tempCrit = s.pwr.tempCrit ∧ t.regs.flt = s.regs.flt))

/-- Further forms and cases of LOOPBACK_SET, LOOPBACK_CLEAR, LOOPBACK_EXPIRY, LOOPBACK_TEST_UNIT, PCIE_LINK_LOOPBACK, BIST_END, UNLOCK_EFFECTIVE, UNLOCK_EXPIRY: for every state and operands that meet a clause's conditions, exec answers the next state the clause gives, or one with the effects, or the absence of effects, it states. Bit errors and nonces are free values (log entry 3); the check of a response is uninterpreted (log entry 11). -/
def Obligations.TestForms : Prop :=
  (∀ rq i d s, runs 0x1001 rq s = true → rq.payload.length = 32 → rd rq.payload 0 1 = 2 → d = rd rq.payload 1 1 → i = rd rq.payload 2 2 → 1 ≤ d → d ≤ 3 → i < 1024 → 1 ≤ rd rq.payload 4 4 → rd rq.payload 4 4 ≤ 3600 → (loopOf s 2 i).depth = 0 → ((d = 3 ∨ (s.port i).st.state = .disabled)) → 
    Goes (exec (.loopbackSet rq) s) (fun t => loopOf t 2 i = { depth := d, endsAt := s.now + rd rq.payload 4 4 * 1000000000, lastUnit := s.now } ∧ Answered 0x1001 rq [] s t)) ∧
  (∀ rq s, runs 0x1001 rq s = true → rq.payload.length = 32 → rd rq.payload 0 2 = 0x0103 → rd rq.payload 2 2 = 0 → 1 ≤ rd rq.payload 4 4 → rd rq.payload 4 4 ≤ 3600 → (loopOf s 3 0).depth = 0 → onSideband rq.src = true → 
    Goes (exec (.loopbackSet rq) s) (fun t => (loopOf t 3 0).depth = 1 ∧ t.kcp.linkUp = false ∧ bit (t.flt 7).status 2 = true)) ∧
  (∀ rq d s, runs 0x1001 rq s = true → rq.payload.length = 32 → rd rq.payload 0 1 = 4 → d = rd rq.payload 1 1 → 1 ≤ d → d ≤ 2 → rd rq.payload 2 2 = 0 → 1 ≤ rd rq.payload 4 4 → rd rq.payload 4 4 ≤ 3600 → (loopOf s 4 0).depth = 0 → s.evd.store ≤ 1 → 
    Goes (exec (.loopbackSet rq) s) (fun t => loopOf t 4 0 = { depth := d, endsAt := s.now + rd rq.payload 4 4 * 1000000000, lastUnit := s.now } ∧ Answered 0x1001 rq [] s t)) ∧
  (∀ rq i s, runs 0x1001 rq s = true → rq.payload.length = 32 → rd rq.payload 0 2 = 0x0106 → i = rd rq.payload 2 2 → i < 8 → 1 ≤ rd rq.payload 4 4 → rd rq.payload 4 4 ≤ 3600 → -32768000000000 ≤ rdI rq.payload 8 8 → rdI rq.payload 8 8 ≤ 32768000000000 → (loopOf s 6 i).depth = 0 → s.sel.st.selected ≠ some i → 
    Goes (exec (.loopbackSet rq) s) (fun t => loopOf t 6 i = { depth := 1, endsAt := s.now + rd rq.payload 4 4 * 1000000000, lastUnit := s.now, offset := rdI rq.payload 8 8 } ∧ (t.slot i).st.held = true ∧ Answered 0x1001 rq [] s t)) ∧
  (∀ rq s, runs 0x1001 rq s = true → rq.payload.length = 32 → rd rq.payload 0 2 = 0x0105 → rd rq.payload 2 2 = 0 → 1 ≤ rd rq.payload 4 4 → rd rq.payload 4 4 ≤ 3600 → (∀ i ∈ List.range 8, rd rq.payload (16 + i) 1 ≤ 32 ∧ (rd rq.payload (16 + i) 1 ≠ 0 → 20 ≤ rd rq.payload (24 + i) 1 ∧ rd rq.payload (24 + i) 1 ≤ 55 ∧ (s.nav (rd rq.payload (16 + i) 1)).adopted.isSome = true)) → (loopOf s 5 0).depth = 0 → s.sel.st.selected ≠ some 8 → s.gnss.mode ≠ .noPosition → 
    Goes (exec (.loopbackSet rq) s) (fun t => (loopOf t 5 0).depth = 1 ∧ (loopOf t 5 0).offset = rdI rq.payload 8 8 ∧ (loopOf t 5 0).endsAt = s.now + rd rq.payload 4 4 * 1000000000 ∧
      (loopOf t 5 0).prns = (List.range 8).map (fun i => rd rq.payload (16 + i) 1) ∧ (loopOf t 5 0).cn0s = (List.range 8).map (fun i => rd rq.payload (24 + i) 1) ∧ Answered 0x1001 rq [] s t)) ∧
  (∀ rq d s, runs 0x1001 rq s = true → rq.payload.length = 32 → rd rq.payload 0 1 = 7 → d = rd rq.payload 1 1 → 1 ≤ d → d ≤ 2 → rd rq.payload 2 2 = 0 → 1 ≤ rd rq.payload 4 4 → rd rq.payload 4 4 ≤ 3600 → (loopOf s 7 0).depth = 0 → tanOn s = false → 
    Goes (exec (.loopbackSet rq) s) (fun t => loopOf t 7 0 = { depth := d, endsAt := s.now + rd rq.payload 4 4 * 1000000000, lastUnit := s.now } ∧ Answered 0x1001 rq [] s t)) ∧
  (∀ rq f i s, runs 0x1002 rq s = true → rq.payload.length = 4 → f = rd rq.payload 0 1 → i = rd rq.payload 2 2 → 1 ≤ f → f ≤ 7 → rd rq.payload 1 1 = 1 → i < instances f → (loopOf s f i).depth ≠ 0 → 
    exec (.loopbackClear rq) s = .next (replied 0x1002 rq (loopReport (loopOf s f i)) s)) ∧
  (∀ f i s, (((loopOf s f i).endsAt = 0 ∨ s.now < (loopOf s f i).endsAt)) → 
    exec (.loopbackExpiry f i) s = .next (commitG s s)) ∧
  (∀ f i x l s, l = loopOf s f i → selfTraffic f l.depth = true → ((f = 2 ∨ l.depth ≠ 3)) → l.lastUnit + 10000 ≤ s.now → l.errors < sat32 → 
    Goes (exec (.loopbackTestUnit f i (some x) false) s) (fun t => loopOf t f i = { l with sent := satInc sat32 l.sent, errors := l.errors + 1, lastUnit := s.now, n := l.n + 1, sum := l.sum + x, sumSq := l.sumSq + x.natAbs * x.natAbs })) ∧
  (∀ i x l s, l = loopOf s 1 i → l.depth = 3 → l.lastUnit + 10000 ≤ s.now → 
    Goes (exec (.loopbackTestUnit 1 i (some x) false) s) (fun t => (loopOf t 1 i).sent = satInc sat32 l.sent ∧ (loopOf t 1 i).good = l.good ∧ (loopOf t 1 i).n = l.n + 1 ∧ t.free = s.free + 1)) ∧
  (∀ f i g l s, l = loopOf s f i → selfTraffic f l.depth = true → l.lastUnit + 10000 ≤ s.now → 
    Goes (exec (.loopbackTestUnit f i none g) s) (fun t => loopOf t f i = { l with sent := satInc sat32 l.sent, lastUnit := s.now })) ∧
  (∀ s, (loopOf s 3 0).depth ≠ 0 → 
    exec .pcieLinkLoopback s = .next (commitG s s)) ∧
  (∀ k e b s, k ∈ [2, 3] → b = bistOf s k → b.state = 1 → b.startAt + bistLeast k ≤ s.now → 
    Goes (exec (.bistEnd k e) s) (fun t => bistOf t k = { b with state := if e = 0 then 2 else 3, errors := min 65535 e, elapsed := min sat32 ((s.now - b.startAt) / 1000000) } ∧ (k = 3 → t.key.rngFault = decide (e ≠ 0)))) ∧
  (∀ k e s, 1 ≤ k → k ≤ 5 → (((bistOf s k).state ≠ 1 ∨ s.now < (bistOf s k).startAt + bistLeast k)) → 
    exec (.bistEnd k e) s = .next (commitG s s)) ∧
  (∀ s, ((s.tst.reported = none ∨ (s.replica 0).frame.testUnlock = false)) → 
    exec .unlockEffective s = .next (commitG s s)) ∧
  (∀ s, (∀ e ∈ s.tst.reported.toList, s.now < e) → 
    exec .unlockExpiry s = .next (commitG s s))

/-- Further forms and cases of IRQ_GROUP_CONFIG, FLT_PIN_MASK, PERF_FILTER, PERF_READ, CMD_SQ_TAIL_WRITE, CMD_CQ_HEAD_WRITE, CMD_RING_CFG_WRITE, FLT_STATUS_CLEAR, SLOW_TIMEOUT, REGISTER_WRITE, IRQ_DELIVERY, MSIX_UNMASK, PARITY_CHECK, MIRROR_WRITE: for every state and operands that meet a clause's conditions, exec answers the next state the clause gives, or one with the effects, or the absence of effects, it states. -/
def Obligations.RegisterForms : Prop :=
  (∀ rq q g s, q = withByte 1 0 rq → runs 0x1103 q s = true → q.payload = [BitVec.ofNat 8 g] → g ≤ 8 → 
    exec (.irqGroupConfig rq) s = .next (replied 0x1103 q (irqBytes g (s.irqG g) (s.irqG g)) s)) ∧
  (∀ rq b w s, runs 0x1104 rq s = true → rq.payload.length = 8 → b = rd rq.payload 0 1 → w = rd rq.payload 1 1 → rd rq.payload 2 2 = 0 → b ≤ 12 → w ≤ 63 → maskOk s b w (rd rq.payload 4 4) = true → 
    Goes (exec (.fltPinMask rq) s) (fun t => word32 (t.flt b).mask w = rd rq.payload 4 4 ∧ (∀ v ∈ List.range 64, v ≠ w → word32 (t.flt b).mask v = word32 (s.flt b).mask v) ∧ (t.flt b).status = (s.flt b).status ∧
      Answered 0x1104 rq (le 4 (rd rq.payload 4 4) ++ le 4 (fltClassWord s b w) ++ le 4 (word32 (s.flt b).status w)) s t)) ∧
  (∀ rq i s, runs 0x0F03 rq s = true → rq.payload.length = 1 → i = rd rq.payload 0 1 → i ≤ 63 → 
    exec (.perfFilter rq) s = .next (replied 0x0F03 rq (filterBytes i (tget ({} : Filter) s.regs.filters i)) s)) ∧
  (∀ rq f n s, runs 0x0F04 rq s = true → rq.payload.length = 8 → f = rd rq.payload 0 2 → n = rd rq.payload 2 2 → 1 ≤ n → n ≤ 256 → f + n ≤ 0x840 → rd rq.payload 4 1 = 1 → rd rq.payload 5 3 = 0 → 
    Goes (exec (.perfRead rq) s) (fun t => (∀ i, i < n → tget ({} : Perf) t.regs.perf (f + i) = {}) ∧ Answered 0x0F04 rq (le 8 s.tim.tick ++ (List.range n).flatMap (fun i => le 8 (perfWord s (f + i)))) s t)) ∧
  (∀ r x s, r < 8 → serving s = true → (s.ring r).enable = true → 2 ^ (s.ring r).log2 < (x % 65536 + 65536 - (s.ring r).sqHead) % 65536 → 
    Goes (exec (.cmdSqTailWrite r x) s) (fun t => t.ring r = { s.ring r with sqTail := x % 65536, badBell := true, enable := false })) ∧
  (∀ r x s, r < 8 → serving s = true → ((s.ring r).cqTail + 65536 - (s.ring r).cqHead) % 65536 < (x % 65536 + 65536 - (s.ring r).cqHead) % 65536 → 
    Goes (exec (.cmdCqHeadWrite r x) s) (fun t => (t.ring r).badBell = true ∧ (t.ring r).enable = false)) ∧
  (∀ r x s, r < 8 → serving s = true → (s.ring r).enable = true → bit x 31 = false → x / 2 ^ 24 % 16 = (s.ring r).log2 → 
    Goes (exec (.cmdRingCfgWrite r x) s) (fun t => (t.ring r).enable = false ∧ (t.ring r).log2 = (s.ring r).log2 ∧ (t.ring r).vector = x % 256 ∧ (t.ring r).cfgErr = (s.ring r).cfgErr)) ∧
  (∀ w x s, w < 64 → serving s = true → 
    Goes (exec (.fltStatusClear 0 w x) s) (fun t => t.regs = (countAccess true (0x100100 + 4 * w) s).regs ∧ t.fur = s.fur ∧ t.eth = s.eth)) ∧
  (∀ o s, slowOffset o = true → serving s = true → 
    Goes (exec (.slowTimeout o true) s) (fun t => t.regs.lastRead = s.regs.lastRead ∧ t.regs.scratch = s.regs.scratch ∧ bit (t.flt 7).status 3 = true)) ∧
  (∀ o x e s, o < 2 ^ 24 → serving s = true → ((e ≠ 15 ∨ o % 4 ≠ 0)) → 
    Goes (exec (.registerWrite o x e) s) (fun t => t.regs.scratch = s.regs.scratch ∧ t.regs.flt = s.regs.flt ∧ t.regs.irq = s.regs.irq ∧ t.regs.msix = s.regs.msix ∧ t.kcp.rings = s.kcp.rings)) ∧
  (∀ r g w x e s, serving s = false → r < 8 → g < 9 → w < 8 → e < 0x840 → 
    ∀ y ∈ ([.cmdSqTailWrite r x, .cmdCqHeadWrite r x, .cmdRingCfgWrite r x, .classLock r, .cmdRingStatClear r x, .irqInsvcAck g w x, .fltStatusClear g w x,
      .perfOvfClear e x, .timeNsRead, .registerWrite e x 15] : List Instr), Goes (exec y s) (fun t => t = commitG s s)) ∧
  (∀ g s, 1 ≤ g → g < 9 → (s.irqG g).enable = true → (s.irqG g).pend ≠ 0 → (s.irqG g).readyAt ≤ s.now → (s.irqG g).sideband = false → s.regs.msixEnable = true → sendable s (groupVector g (s.irqG g)) = false → 
    Goes (exec (.irqDelivery g) s) (fun t => t.irqG g = s.irqG g ∧ (t.vec (groupVector g (s.irqG g))).sent = (s.vec (groupVector g (s.irqG g))).sent ∧ (t.vec (groupVector g (s.irqG g))).pending = true)) ∧
  (∀ g s, 1 ≤ g → g < 9 → (s.irqG g).enable = true → (s.irqG g).pend ≠ 0 → (s.irqG g).readyAt ≤ s.now → (s.irqG g).sideband = true → 
    Goes (exec (.irqDelivery g) s) (fun t => t.irqG g = { s.irqG g with pend := 0, insvc := (s.irqG g).insvc ||| (s.irqG g).pend, readyAt := s.now + (s.irqG g).holdoff * 1000, delivAt := some s.now, takes := (2 ^ irqSources g - 1) &&& ((2 ^ irqSources g - 1) ^^^ (s.irqG g).insvc) } ∧ t.regs.irqSb = true ∧ t.regs.msix = s.regs.msix)) ∧
  (∀ s, (s.irqG 0).enable = true → (s.irqG 0).pend ≠ 0 → (s.irqG 0).readyAt ≤ s.now → (∀ r ∈ List.range 8, bit (s.irqG 0).pend r = true → sendable s (s.ring r).vector = true) → (s.irqG 0).pend < 256 → 
    Goes (exec (.irqDelivery 0) s) (fun t => (t.irqG 0).pend = 0 ∧ (∀ r ∈ List.range 8, bit (t.irqG 0).insvc r = (bit (s.irqG 0).insvc r || bit (s.irqG 0).pend r)) ∧
      ∀ r ∈ List.range 8, bit (s.irqG 0).pend r = true → (t.vec (s.ring r).vector).sent = (s.vec (s.ring r).vector).sent + 1)) ∧
  (∀ g s, g < 9 → (((s.irqG g).enable = false ∨ (s.irqG g).pend = 0 ∨ s.now < (s.irqG g).readyAt)) → 
    exec (.irqDelivery g) s = .next (commitG s s)) ∧
  (∀ s, (∀ g ∈ List.range 9, (s.irqG g).pend = 0) → 
    Goes (exec (.msixUnmask none) s) (fun t => t.regs.msixEnable = true ∧ t.regs.msixMask = false ∧ t.regs.msix = s.regs.msix ∧ t.regs.irq = s.regs.irq)) ∧
  (∀ b s, b < 13 → 
    Goes (exec (.parityCheck (2048 * b + 2047)) s) (fun t => bit (t.flt b).status 0 = true ∧ (t.flt b).safe = (s.flt b).safe ∧ (t.flt b).parity = (s.flt b).parity ∧ t.kcp.rings = s.kcp.rings)) ∧
  (∀ i s, 8 ≤ i → i < 16 → 
    exec (.mirrorWrite i) s = .next (commitG s s))

/-- Further forms and cases of COMMAND_ACCEPT, COMMAND_EXECUTE, RELAY_COMMAND, MAILBOX_SERVICE, PENDING_REPLY, REPLY_DELIVER, COMPLETION_LIMIT_EXPIRY: for every state and operands that meet a clause's conditions, exec answers the next state the clause gives, or one with the effects, or the absence of effects, it states. How long Nuheif takes is a free value (log entry 3). -/
def Obligations.CommandForms : Prop :=
  (∀ r pk s, r < 8 → pk.req.src = .ring r → serving s = true → turnNow s = some r → acceptChecks s pk = none → bit pk.req.flags 2 = false → relayed pk.opcode pk.req.payload = true → relayedOut s < 17 → 
    Goes (exec (.commandAccept pk true) s) (fun t => (t.ring r).sqHead = ((s.ring r).sqHead + 1) % 65536 ∧ t.kcp.replies = s.kcp.replies ∧
      t.kcp.slots.map (fun y => y.id) = s.kcp.slots.map (fun y => y.id) ++ [s.kcp.nextId] ∧
      ∀ y ∈ t.kcp.slots.getLast?.toList, y.opcode = pk.opcode ∧ y.req = pk.req ∧ y.phase = .relayQueue)) ∧
  (∀ r pk s, r < 8 → pk.req.src = .ring r → serving s = true → turnNow s = some r → acceptChecks s pk = none → bit pk.req.flags 2 = false → relayed pk.opcode pk.req.payload = true → 17 ≤ relayedOut s → 
    Goes (exec (.commandAccept pk true) s) (fun t => t.kcp.slots = s.kcp.slots ∧ t.kcp.replies = s.kcp.replies ++ [⟨s.kcp.nextId, .ring r, pk.opcode, pk.req.tag, stBUSY, 1, s.kcp.g, [], s.now⟩])) ∧
  (∀ r pk s x d, r < 8 → pk.req.src = .ring r → serving s = true → turnNow s = some r → acceptChecks s pk = some (x, d) → ((bit pk.req.flags 2 = false ∨ 8 ≤ pk.req.flags)) → 
    Goes (exec (.commandAccept pk true) s) (fun t => (t.ring r).sqHead = ((s.ring r).sqHead + 1) % 65536 ∧ t.kcp.slots = s.kcp.slots ∧ t.kcp.replies = s.kcp.replies ++ [⟨s.kcp.nextId, .ring r, pk.opcode, pk.req.tag, x, d, s.kcp.g, [], s.now⟩])) ∧
  (∀ r pk s, r < 8 → pk.req.src = .ring r → serving s = true → turnNow s = some r → bit pk.req.flags 2 = true → pk.req.flags < 8 → fenced s (.ring r) = true → 
    Goes (exec (.commandAccept pk true) s) (fun t => t.kcp = { s.kcp with turn := (r + 1) % 9 })) ∧
  (∀ r pk s, r < 8 → pk.req.src = .ring r → serving s = true → turnNow s = some r → 
    Goes (exec (.commandAccept pk false) s) (fun t => t.ring r = { s.ring r with sqErr := true, enable := false } ∧ t.kcp.slots = s.kcp.slots ∧ t.kcp.replies = s.kcp.replies)) ∧
  (∀ a pk s, pk.req.src = .sideband → serving s = true → turnNow s = some 8 → sidebandWaiting s false = some a → acceptChecks s (messagePacket a) = none → bit (messagePacket a).req.flags 2 = false → relayed (messagePacket a).opcode (messagePacket a).req.payload = false → 
    Goes (exec (.commandAccept pk true) s) (fun t => t.kcp.assembly = s.kcp.assembly.filter (fun y => y != a) ∧ t.kcp.turn = 0 ∧
      t.kcp.slots.map (fun y => y.id) = s.kcp.slots.map (fun y => y.id) ++ [s.kcp.nextId] ∧
      ∀ y ∈ t.kcp.slots.getLast?.toList, y.opcode = rd a.bytes 5 2 ∧ y.req.tag = rd a.bytes 7 2 ∧ y.req.src = .sideband ∧ y.req.payload = a.bytes.drop 21 ∧ y.phase = .accepted)) ∧
  (∀ r pk d s, r < 8 → pk.req.src = .ring r → turnNow s ≠ some r → 
    exec (.commandAccept pk d) s = .next (commitG s s)) ∧
  (∀ k s, serving s = true → s.kcp.slots = [k] → k.phase = .accepted → k.opcode = 3 → k.conditional = false → k.noReply = false → k.lost = false → k.req.payload ≠ [] → k.req.payload.length ≤ 4080 → 
    Goes (exec (.commandExecute 0) s) (fun t => t.kcp.slots = [] ∧ t.kcp.replies = s.kcp.replies ++ [⟨k.id, k.req.src, 3, k.req.tag, stOK, 0, s.kcp.g, k.req.payload, s.now⟩])) ∧
  (∀ g k s, g < 18 → serving s = true → s.kcp.slots.find? (fun y => y.phase == .accepted && decide (groupOf y.opcode = g)) = some k → (groupsHeld s).contains g = false → k.conditional = true → k.req.expGen < groupGen s g → bodyFor k.opcode ≠ none → k.lost = false → 
    Goes (exec (.commandExecute g) s) (fun t => t.kcp.replies = s.kcp.replies ++ [⟨k.id, k.req.src, k.opcode, k.req.tag, stGEN, g, s.kcp.g, [], s.now⟩] ∧ (∀ y ∈ t.kcp.slots, y.id ≠ k.id) ∧ t.pwr = s.pwr ∧ t.regs = s.regs)) ∧
  (∀ g s, g < 18 → ((serving s = false ∨ s.kcp.slots.find? (fun y => y.phase == .accepted && decide (groupOf y.opcode = g)) = none ∨ (groupsHeld s).contains g = true)) → 
    exec (.commandExecute g) s = .next s) ∧
  (∀ s, ((mailboxServed s = false ∨ (∃ y ∈ s.kcp.slots, y.phase = .mailbox) ∨ ∀ y ∈ s.kcp.slots, y.phase ≠ .relayQueue)) → 
    exec .relayCommand s = .next (commitG s s)) ∧
  (∀ s, mailboxServed s = false → 
    exec .mailboxService s = .next s) ∧
  (∀ s, mailboxServed s = true → ((nuheifWork s = none ∨ (serviceInterval s = s.kcp.mbInterval ∧ 8000 ≤ s.kcp.mbServed))) → 
    exec .mailboxService s = .next (leafFreqs s)) ∧
  (∀ s, (∀ y ∈ s.kcp.slots, y.phase ≠ .mailbox ∨ s.now < y.since + 10000000) → 
    exec .pendingReply s = .next (commitG s s)) ∧
  (∀ k o r s, k < 8 → s.kcp.replies.find? (fun y => decide (y.src = .ring k)) = some r → s.kcp.linkUp = true → 2 ^ (s.ring k).log2 ≤ ((s.ring k).cqTail + 65536 - (s.ring k).cqHead) % 65536 → 
    Goes (exec (.replyDeliver (.ring k) o) s) (fun t => t.ring k = { s.ring k with cqFull := true } ∧ t.kcp.replies = s.kcp.replies)) ∧
  (∀ k r s, k < 8 → s.kcp.replies.find? (fun y => decide (y.src = .ring k)) = some r → s.kcp.linkUp = true → ((s.ring k).cqTail + 65536 - (s.ring k).cqHead) % 65536 < 2 ^ (s.ring k).log2 → 
    Goes (exec (.replyDeliver (.ring k) false) s) (fun t => t.ring k = { s.ring k with cqErr := true, enable := false } ∧ t.kcp.replies = s.kcp.replies)) ∧
  (∀ x r s, onSideband x = true → s.kcp.replies.find? (fun y => decide (y.src = x)) = some r → 
    Goes (exec (.replyDeliver x true) s) (fun t => t.kcp.replies = s.kcp.replies.filter (fun y => y.id != r.id) ∧ t.kcp.rings = s.kcp.rings ∧ t.regs.irq = s.regs.irq)) ∧
  (∀ k o s, k < 8 → (((∀ y ∈ s.kcp.replies, y.src ≠ .ring k) ∨ s.kcp.linkUp = false)) → 
    exec (.replyDeliver (.ring k) o) s = .next (commitG s s)) ∧
  (∀ i s, (∀ y ∈ s.kcp.slots, y.id ≠ i ∨ limitPassed s.now y = false) → 
    exec (.completionLimitExpiry i) s = .next (commitG s s))

/-- Further forms and cases of MCTP_PACKET, SB_REPLY_RETRY, SET_ENDPOINT_ID, GET_MCTP_VERSION_SUPPORT, GET_VENDOR_DEFINED_MSG_SUPPORT, GET_MEASUREMENTS, FINISH, HEARTBEAT_TIMEOUT: for every state and operands that meet a clause's conditions, exec answers the next state the clause gives, or one with the effects, or the absence of effects, it states. Bodies the spec does not lay out are free or uninterpreted (log entry 12). -/
def Obligations.SidebandForms : Prop :=
  (∀ p a s, serving s = true → p.dest = s.pwr.prov.smbAddr → p.pec = true → p.som = false → p.eom = true → asmOf s p.tag = some a → p.seq = a.seq → 
    Goes (exec (.mctpPacket p) s) (fun t => t.kcp.sbDiscards = s.kcp.sbDiscards ∧ t.kcp.assembly = s.kcp.assembly.filter (fun y => y.complete || y.tag != p.tag) ++
      (if keepsMessage s (a.bytes ++ p.bytes) = true then [{ tag := p.tag, seq := 0, bytes := a.bytes ++ p.bytes, complete := true, lastAt := s.now }] else []))) ∧
  (∀ p a s, serving s = true → p.dest = s.pwr.prov.smbAddr → p.pec = true → p.som = false → asmOf s p.tag = some a → p.seq ≠ a.seq → 
    Goes (exec (.mctpPacket p) s) (fun t => t.kcp.sbDiscards = min 65535 (s.kcp.sbDiscards + 1) ∧ t.kcp.assembly = s.kcp.assembly.filter (fun y => y != a))) ∧
  (∀ p s, ((serving s = false ∨ p.dest ≠ s.pwr.prov.smbAddr ∨ p.pec = false ∨ (p.som = true ∧ asmOf s p.tag = none ∧ 2 ≤ s.kcp.assembly.length))) → 
    exec (.mctpPacket p) s = .next (commitG s s)) ∧
  (∀ r s, firstSideband s = some r → r.builtAt + 1000000000 ≤ s.now → 
    Goes (exec (.sbReplyRetry false) s) (fun t => t.kcp.replies = s.kcp.replies.filter (fun y => y.id != r.id) ∧ t.kcp.sbReplyLost = satInc 65535 s.kcp.sbReplyLost)) ∧
  (∀ a s, ((firstSideband s = none ∨ (a = false ∧ ∀ r ∈ (firstSideband s).toList, s.now < r.builtAt + 1000000000))) → 
    exec (.sbReplyRetry a) s = .next (commitG s s)) ∧
  (∀ o i s, serving s = true → ((2 ≤ o ∨ i < 8 ∨ 254 < i)) → 
    Goes (exec (.setEndpointId o i) s) (fun t => t.kcp.eid = s.kcp.eid ∧ t.kcp.mctpReply.head? = some 2)) ∧
  (∀ m s, serving s = true → m ∉ [0, 5, 6, 127] → 
    Goes (exec (.getMctpVersionSupport m) s) (fun t => t.kcp = { s.kcp with mctpReply := [0x80, 0] } ∧ t.free = s.free)) ∧
  (∀ n s, serving s = true → n ≠ 0 → 
    Goes (exec (.getVendorDefinedMsgSupport n) s) (fun t => t.kcp = { s.kcp with mctpReply := [2] } ∧ t.free = s.free)) ∧
  (∀ d i n s, serving s = true → (spdmOf s d).algos = true → 1 ≤ i → i ≤ 7 → 
    Goes (exec (.getMeasurements d i n) s) (fun t => (spdmOf t d).lastReply = some 6 ∧ (spdmOf t d).lastBytes = measurement s i)) ∧
  (∀ d o s, serving s = true → (spdmOf s d).keyed = true → 
    Goes (exec (.finish d false o) s) (fun t => spdmOf t d = { spdmOf s d with keyed := false, lastReply := none, lastBytes := [] })) ∧
  (∀ d s, (((spdmOf s d).session = false ∨ s.now < (spdmOf s d).heard + 20000000000)) → 
    exec (.heartbeatTimeout d) s = .next (commitG s s)) ∧
  (∀ d c a n b o s, serving s = true → spdmOf s d = {} → 
    ∀ y ∈ ([.getCapabilities d, .negotiateAlgorithms d true, .getDigests d, .getCertificate d c a n, .challenge d b, .getMeasurements d n b, .keyExchange d b, .finish d true o, .heartbeat d, .keyUpdate d, .endSession d] : List Instr), Goes (exec y s) (fun t => t.kcp = s.kcp))

/-- Further forms and cases of POWER_ON_RESET_RELEASE, NUHEIF_BOOT, BOOT_IMAGE_VERDICT, M_BOOT_END, S_TILE_BOOT, TRIAL_FALLBACK, RECOVERY_RESPONDER, NUHEIF_RECOVERY, PCIE_LINK_UP, ACTIVATION_RESTART, SNAPSHOT_CAPTURE, RESET_BLOCK, IMAGE_STAGE, IMAGE_ACTIVATE: for every state and operands that meet a clause's conditions, exec answers the next state the clause gives, or one with the effects, or the absence of effects, it states. The verdict on an image is the model's uninterpreted signature check (log entry 11). Verdicts on images and records are uninterpreted checks (log entry 11). -/
def Obligations.StartUpAndSystemForms : Prop :=
  (∀ s, s.pwr.released = true → 
    exec .powerOnResetRelease s = .next s) ∧
  (∀ b l s, s.osc.mState = .mBoot → s.pwr.nuheifUp = false → bootCopy s 0 = some b → s.sealing.windowFault = false → 
    Goes (exec (.nuheifBoot ⟨false, false, l⟩) s) (fun t => t.pwr.nuheifUp = true ∧ t.sealing.paramFault = true ∧ bit (t.flt 0).status 4 = true ∧ bit (t.flt 0).cond 4 = true ∧ t.gnss.cfg = {} ∧ t.bnd.cfg = {} ∧ t.osc.ens = {} ∧ t.utc.stored = 37)) ∧
  (∀ b l s, s.osc.mState = .mBoot → s.pwr.nuheifUp = false → bootCopy s 0 = some b → s.sealing.windowFault = false → 
    Goes (exec (.nuheifBoot ⟨false, true, l⟩) s) (fun t => t.pwr.nuheifUp = true ∧ t.sealing.paramFault = s.sealing.paramFault ∧ t.utc.stored = s.sealing.older.utc ∧ t.tim.cfg = s.sealing.older.tim ∧ t.bnd.cfg = s.sealing.older.bound ∧ t.osc.ens = s.sealing.older.ens)) ∧
  (∀ b n o s, s.osc.mState = .mBoot → s.pwr.nuheifUp = false → bootCopy s 0 = some b → s.sealing.windowFault = false → s.pwr.recoveredLog = false → 
    Goes (exec (.nuheifBoot ⟨n, o, false⟩) s) (fun t => t.pwr.nuheifUp = true ∧ t.sealing.otpBits = min 65535 (s.sealing.otpBits + 1) ∧ (s.sealing.otpBits < 65535 → t.sealing.low = 0))) ∧
  (∀ p o l s, s.osc.mState = .mBoot → s.pwr.nuheifUp = false → bootCopy s 0 = none → 
    Goes (exec (.nuheifBoot ⟨p, o, l⟩) s) (fun t => t.pwr = { s.pwr with mRecovery := true } ∧ t.log = s.log)) ∧
  (∀ p o l s, ((s.osc.mState ≠ .mBoot ∨ s.pwr.nuheifUp = true)) → 
    exec (.nuheifBoot ⟨p, o, l⟩) s = .next (commitG s s)) ∧
  (∀ s, ((s.pwr.released = false ∨ s.pwr.sState ≠ 0 ∨ s.pwr.sImageOk = true ∨ bootCopy s 1 = none)) → 
    exec .bootImageVerdict s = .next (commitG s s)) ∧
  (∀ s, ((s.osc.mState ≠ .mBoot ∨ s.pwr.nuheifUp = false ∨ s.pwr.sImageOk = false ∨ s.tim.tb.running = false ∨ s.tim.tb.aplLock = false)) → 
    exec .mBootEnd s = .next (commitG s s)) ∧
  (∀ s, ((s.pwr.sImageOk = false ∨ s.pwr.sState ≠ 0)) → 
    exec .sTileBoot s = .next (commitG s s)) ∧
  (∀ s, s.pwr.m.trial = true → s.pwr.m.startAt + 2000000000 ≤ s.now → s.osc.mState = .mBoot → 
    Goes (exec (.trialFallback false) s) (fun t => t.pwr.m.preferB = !s.pwr.m.preferB ∧ t.pwr.m.trial = false ∧ t.pwr.fallback = true ∧ t.pwr.sState = 0 ∧ t.pwr.nuheifUp = false ∧ t.pwr.released = true ∧ t.osc.mState = .mBoot)) ∧
  (∀ x s, (((x = true ∧ (trialOver s s.pwr.st = false ∨ s.pwr.sState ≠ 0)) ∨ (x = false ∧ (trialOver s s.pwr.m = false ∨ s.osc.mState ≠ .mBoot)))) → 
    Goes (exec (.trialFallback x) s) (fun t => t.pwr = s.pwr ∧ t.osc = s.osc ∧ t.log = s.log)) ∧
  (∀ s, ((s.pwr.released = false ∨ s.pwr.sState ≠ 0 ∨ s.pwr.sImageOk = true ∨ bootCopy s 1 ≠ none)) → 
    exec .recoveryResponder s = .next (commitG s s)) ∧
  (∀ f s, ((s.pwr.mRecovery = false ∨ s.sealing.armedUntil = none ∨ f.verifies = false ∨ f.kind ≠ 0)) → 
    exec (.nuheifRecovery f) s = .next (commitG s s)) ∧
  (∀ s, serving s = true → (loopOf s 3 0).depth ≠ 1 → s.kcp.perst = false → 
    Goes (exec .pcieLinkUp s) (fun t => t.kcp.linkUp = true ∧ bit (t.flt 7).cond 2 = false ∧ t.regs.msix = s.regs.msix ∧ t.regs.irq = s.regs.irq ∧ t.kcp.rings = s.kcp.rings)) ∧
  (∀ s, ((serving s = false ∨ (loopOf s 3 0).depth = 1)) → 
    exec .pcieLinkUp s = .next (commitG s s)) ∧
  (∀ e s, s.pwr.restartAt = some (2, e) → e ≤ s.now → 
    Goes (exec .activationRestart s) (fun t => t.pwr.sState = 0 ∧ t.pwr.nuheifUp = false ∧ t.pwr.restartAt = none ∧ t.osc.mState = .mBoot ∧ t.svc = {} ∧ t.log.entries = s.log.entries ∧ t.pwr.prov = s.pwr.prov ∧ t.pwr.released = true)) ∧
  (∀ s, (∀ x ∈ s.pwr.restartAt.toList, s.now < x.2) → 
    Goes (exec .activationRestart s) (fun t => t.pwr = s.pwr ∧ t.osc = s.osc ∧ t.kcp.replies = s.kcp.replies)) ∧
  (∀ k s, s.kcp.slots = [k] → snapDue s k = true → captureOf s k.id = none → k.lost = false → k.noReply = false → 
    Goes (exec .snapshotCapture s) (fun t => t.kcp.snaps = s.kcp.snaps ∧ t.kcp.slots = [] ∧ t.kcp.replies = s.kcp.replies ++ [mkReply k s.now stOK 0 t.kcp.g (snapPayload k s)])) ∧
  (∀ k s, s.kcp.slots = [k] → snapDue s k = true → captureOf s k.id = none → rd k.req.payload 0 4 = 0 → k.lost = false → k.noReply = false → 
    Goes (exec .snapshotCapture s) (fun t => t.kcp.slots = [] ∧ t.kcp.replies = s.kcp.replies ++ [mkReply k s.now stOK 0 t.kcp.g (fit 32 (timeSection { s with tim := { s.tim with tick := snapTick s k } } (snapMarker s k)))])) ∧
  (∀ s, (∀ k ∈ s.kcp.slots, snapDue s k = false) → 
    exec .snapshotCapture s = .next (commitG s s)) ∧
  (∀ rq b i s, runs 0x0004 rq s = true → rq.payload.length = 4 → b = rd rq.payload 0 2 → i = rd rq.payload 2 2 → 1 ≤ b → b ≤ 7 → i < blockInstances b → resetRefused b i s = false → s.kcp.slots = [] → 
    Goes (exec (.resetBlock rq) s) (fun t => t.kcp.slots = [] ∧ (b = 1 → loopOf t 1 i = {}) ∧ (b = 4 → t.evd.enumDue = true ∧ t.evd.ops = [] ∧ loopOf t 4 0 = {}) ∧ (b = 5 → t.tan.lim = s.tan.lim ∧ t.tan.cfg = s.tan.cfg) ∧ (b = 6 → t.gnss.cfg = s.gnss.cfg ∧ t.gnss.position = s.gnss.position ∧ loopOf t 5 0 = {}) ∧
      (b = 7 → ∀ e ∈ List.range 8, (t.engine (8 * i + e)).completed = 0))) ∧
  (∀ rq b i k s, runs 0x0004 rq s = true → rq.payload.length = 4 → b = rd rq.payload 0 2 → i = rd rq.payload 2 2 → b = 6 → i = 0 → s.sel.st.selected ≠ some 8 → s.kcp.slots = [k] → queuedOf 2 k = true → k.lost = false → 
    Goes (exec (.resetBlock rq) s) (fun t => t.kcp.slots = [] ∧ t.kcp.replies.head? = (s.kcp.replies ++ [mkReply k s.now stABORTED 0 s.kcp.g []]).head? ∧ t.kcp.replies.length = s.kcp.replies.length + 2)) ∧
  (∀ rq k f s, runs 0x0008 rq s = true → 17 ≤ rq.payload.length → rq.payload.length ≤ 4080 → k = rd rq.payload 0 1 → k ∈ [0, 1, 3] → f = fragOf s k → f.open_ = true → rd rq.payload 1 1 = 0 → rd rq.payload 2 2 = 0 → rd rq.payload 4 4 = f.bytes.length → rd rq.payload 8 4 = f.total → f.total ≤ stageLimit k → f.bytes.length + (rq.payload.length - 16) < f.total → rd rq.payload 12 4 = 0 → ((k ≠ 0 ∨ s.pwr.mRecovery = false ∨ armed s = true)) → 
    Goes (exec (.imageStage rq) s) (fun t => fragOf t k = ⟨true, f.total, f.bytes ++ rq.payload.drop 16⟩ ∧ Answered 0x0008 rq [] s t)) ∧
  (∀ rq k f s, runs 0x0008 rq s = true → 17 ≤ rq.payload.length → rq.payload.length ≤ 4080 → k = rd rq.payload 0 1 → ((k = 1 ∨ (k = 0 ∧ s.pwr.mRecovery = false))) → f = fragOf s k → f.open_ = true → rd rq.payload 1 1 = 2 → rd rq.payload 2 2 = 0 → rd rq.payload 4 4 = f.bytes.length → rd rq.payload 8 4 = f.total → f.total ≤ stageLimit k → f.bytes.length + (rq.payload.length - 16) = f.total → rd rq.payload 12 4 = 0 → 
    Goes (exec (.imageStage rq) s) (fun t => fragOf t k = {} ∧ (copiesOf t k).preferB = (copiesOf s k).preferB ∧ (copiesOf t k).run = (copiesOf s k).run ∧
      ∀ i ∈ [parseImage k (f.bytes ++ rq.payload.drop 16)], if imageAccepted s (s.pwr.minSvn.getD k 0) i = true then
      copiesOf t k = { (copiesOf s k).put (!(copiesOf s k).preferB) i with staged := true } ∧ Answered 0x0008 rq (stageReply i.version i.svn (!(copiesOf s k).preferB)) s t
      else (copiesOf t k).staged = false ∧ t.kcp.replies.length = s.kcp.replies.length + 1)) ∧
  (∀ rq f s, runs 0x0008 rq s = true → 17 ≤ rq.payload.length → rq.payload.length ≤ 4080 → rd rq.payload 0 2 = 0x0200 → s.pwr.mRecovery = true → armed s = true → f = s.pwr.frag0 → f.open_ = true → rd rq.payload 2 2 = 0 → rd rq.payload 4 4 = f.bytes.length → rd rq.payload 8 4 = f.total → f.total ≤ stageLimit 0 → f.bytes.length + (rq.payload.length - 16) = f.total → rd rq.payload 12 4 = 0 → 
    Goes (exec (.imageStage rq) s) (fun t => t.pwr.frag0 = {} ∧ ∀ i ∈ [parseImage 0 (f.bytes ++ rq.payload.drop 16)], if imageAccepted s (s.pwr.minSvn.getD 0 0) i = true then
      t.pwr.m.preferB = !s.pwr.m.preferB ∧ (if s.pwr.m.preferB then t.pwr.m.a else t.pwr.m.b) = i ∧ t.pwr.recoveredLog = true ∧ t.sealing = sealAdvance s.sealing
      else t.pwr.m.preferB = s.pwr.m.preferB ∧ t.sealing = s.sealing)) ∧
  (∀ rq f s, runs 0x0008 rq s = true → 17 ≤ rq.payload.length → rq.payload.length ≤ 4080 → rd rq.payload 0 2 = 0x0203 → f = s.pwr.frag3 → f.open_ = true → rd rq.payload 2 2 = 0 → rd rq.payload 4 4 = f.bytes.length → rd rq.payload 8 4 = f.total → f.total ≤ stageLimit 3 → f.bytes.length + (rq.payload.length - 16) = f.total → rd rq.payload 12 4 = 0 → 
    Goes (exec (.imageStage rq) s) (fun t => (provAccept s (f.bytes ++ rq.payload.drop 16) = none → t.pwr.frag3 = {} ∧ t.pwr.provStaged = none) ∧
      ∀ r ∈ (provAccept s (f.bytes ++ rq.payload.drop 16)).toList, (r.newOwner = false ∨ (s.pwr.ownerBits < 16 ∧ armed s = true)) → t.pwr.frag3 = {} ∧ t.pwr.provStaged = some r ∧ t.pwr.prov = s.pwr.prov ∧ Answered 0x0008 rq (stageReply 0 0 (!s.pwr.provB)) s t)) ∧
  (∀ rq q s, q = withByte 1 0 rq → runs 0x0009 q s = true → q.payload.length = 8 → rd q.payload 0 1 = 0 → rd q.payload 2 2 = 0 → windowOpen s = true → s.pwr.m.staged = true → rd q.payload 4 4 = (s.pwr.m.at_ (!s.pwr.m.preferB)).version → 
    Goes (exec (.imageActivate rq) s) (fun t => t.pwr.m = { s.pwr.m with preferB := !s.pwr.m.preferB, trial := true, staged := false } ∧ t.log = (imageEntry (s.pwr.m.at_ (!s.pwr.m.preferB)) s).log ∧ Answered 0x0009 q [] s t)) ∧
  (∀ rq q r s, q = withByte 1 0 rq → runs 0x0009 q s = true → q.payload.length = 8 → rd q.payload 0 1 = 3 → rd q.payload 2 2 = 0 → rd q.payload 4 4 = 0 → s.pwr.provStaged = some r → ((r.newOwner = false ∨ (armed s = true ∧ s.pwr.ownerBits < 16))) → 
    Goes (exec (.imageActivate rq) s) (fun t => t.pwr.provNext = some r.prov ∧ t.pwr.prov = s.pwr.prov ∧ t.pwr.provStaged = none ∧ t.pwr.provB = !s.pwr.provB ∧ t.pwr.ownerBits = (if r.newOwner then s.pwr.ownerBits + 1 else s.pwr.ownerBits) ∧ Answered 0x0009 q [] s t))
end

