-- ==== Sys2Proof/Laws/Gen.lean ====
section
/-! SUPPORT. The generations: what raising them leaves, and that nothing changed raises none. -/

namespace Sys2Proof.Machine
open Sys2Proof

@[simp] theorem commitG_now (a b : State) : (commitG a b).now = b.now := by simp only [commitG]
@[simp] theorem commitG_acc (a b : State) : (commitG a b).acc = b.acc := by simp only [commitG]
@[simp] theorem commitG_free (a b : State) : (commitG a b).free = b.free := by simp only [commitG]
@[simp] theorem commitG_utc (a b : State) : (commitG a b).utc = b.utc := by simp only [commitG]
@[simp] theorem commitG_bus (a b : State) : (commitG a b).bus = b.bus := by simp only [commitG]
@[simp] theorem commitG_tim (a b : State) : (commitG a b).tim = b.tim := by simp only [commitG]
@[simp] theorem commitG_gnss (a b : State) : (commitG a b).gnss = b.gnss := by simp only [commitG]
@[simp] theorem commitG_ref (a b : State) : (commitG a b).ref = b.ref := by simp only [commitG]
@[simp] theorem commitG_sel (a b : State) : (commitG a b).sel = b.sel := by simp only [commitG]
@[simp] theorem commitG_osc (a b : State) : (commitG a b).osc = b.osc := by simp only [commitG]
@[simp] theorem commitG_bnd (a b : State) : (commitG a b).bnd = b.bnd := by simp only [commitG]
@[simp] theorem commitG_log (a b : State) : (commitG a b).log = b.log := by simp only [commitG]
@[simp] theorem commitG_sealing (a b : State) : (commitG a b).sealing = b.sealing := by simp only [commitG]
@[simp] theorem commitG_fur (a b : State) : (commitG a b).fur = b.fur := by simp only [commitG]
@[simp] theorem commitG_svc (a b : State) : (commitG a b).svc = b.svc := by simp only [commitG]
@[simp] theorem commitG_eng (a b : State) : (commitG a b).eng = b.eng := by simp only [commitG]
@[simp] theorem commitG_key (a b : State) : (commitG a b).key = b.key := by simp only [commitG]
@[simp] theorem commitG_evd (a b : State) : (commitG a b).evd = b.evd := by simp only [commitG]
@[simp] theorem commitG_eth (a b : State) : (commitG a b).eth = b.eth := by simp only [commitG]
@[simp] theorem commitG_arb (a b : State) : (commitG a b).arb = b.arb := by simp only [commitG]
@[simp] theorem commitG_tan (a b : State) : (commitG a b).tan = b.tan := by simp only [commitG]
@[simp] theorem commitG_syn (a b : State) : (commitG a b).syn = b.syn := by simp only [commitG]
@[simp] theorem commitG_regs (a b : State) : (commitG a b).regs = b.regs := by simp only [commitG]
@[simp] theorem commitG_pwr (a b : State) : (commitG a b).pwr = b.pwr := by simp only [commitG]
@[simp] theorem commitG_tst (a b : State) : (commitG a b).tst = b.tst := by simp only [commitG]
@[simp] theorem commitG_pending (a b : State) : (commitG a b).pending = b.pending := by simp only [commitG]
@[simp] theorem commitG_kcp_rings (a b : State) : (commitG a b).kcp.rings = b.kcp.rings := by
  unfold commitG genKcp; split <;> rfl
@[simp] theorem commitG_kcp_slots (a b : State) : (commitG a b).kcp.slots = b.kcp.slots := by
  unfold commitG genKcp; split <;> rfl
@[simp] theorem commitG_kcp_replies (a b : State) : (commitG a b).kcp.replies = b.kcp.replies := by
  unfold commitG genKcp; split <;> rfl
@[simp] theorem commitG_kcp_nextId (a b : State) : (commitG a b).kcp.nextId = b.kcp.nextId := by
  unfold commitG genKcp; split <;> rfl
@[simp] theorem commitG_kcp_turn (a b : State) : (commitG a b).kcp.turn = b.kcp.turn := by
  unfold commitG genKcp; split <;> rfl
@[simp] theorem commitG_kcp_mbServed (a b : State) : (commitG a b).kcp.mbServed = b.kcp.mbServed := by
  unfold commitG genKcp; split <;> rfl
@[simp] theorem commitG_kcp_mbInterval (a b : State) : (commitG a b).kcp.mbInterval = b.kcp.mbInterval := by
  unfold commitG genKcp; split <;> rfl
@[simp] theorem commitG_kcp_snaps (a b : State) : (commitG a b).kcp.snaps = b.kcp.snaps := by
  unfold commitG genKcp; split <;> rfl
@[simp] theorem commitG_kcp_eid (a b : State) : (commitG a b).kcp.eid = b.kcp.eid := by
  unfold commitG genKcp; split <;> rfl
@[simp] theorem commitG_kcp_assembly (a b : State) : (commitG a b).kcp.assembly = b.kcp.assembly := by
  unfold commitG genKcp; split <;> rfl
@[simp] theorem commitG_kcp_sbDiscards (a b : State) : (commitG a b).kcp.sbDiscards = b.kcp.sbDiscards := by
  unfold commitG genKcp; split <;> rfl
@[simp] theorem commitG_kcp_sbReplyLost (a b : State) : (commitG a b).kcp.sbReplyLost = b.kcp.sbReplyLost := by
  unfold commitG genKcp; split <;> rfl
@[simp] theorem commitG_kcp_mctpReply (a b : State) : (commitG a b).kcp.mctpReply = b.kcp.mctpReply := by
  unfold commitG genKcp; split <;> rfl
@[simp] theorem commitG_kcp_sb (a b : State) : (commitG a b).kcp.sb = b.kcp.sb := by
  unfold commitG genKcp; split <;> rfl
@[simp] theorem commitG_kcp_doe (a b : State) : (commitG a b).kcp.doe = b.kcp.doe := by
  unfold commitG genKcp; split <;> rfl
@[simp] theorem commitG_kcp_linkUp (a b : State) : (commitG a b).kcp.linkUp = b.kcp.linkUp := by
  unfold commitG genKcp; split <;> rfl
@[simp] theorem commitG_kcp_perst (a b : State) : (commitG a b).kcp.perst = b.kcp.perst := by
  unfold commitG genKcp; split <;> rfl
@[simp] theorem commitG_kcp_lastComplete (a b : State) : (commitG a b).kcp.lastComplete = b.kcp.lastComplete := by
  unfold commitG genKcp; split <;> rfl

theorem sameOn_self {β : Type} [DecidableEq β] (f : State → β) (a : State) : sameOn f a a = true := by
  simp [sameOn]

theorem changedGroups_self (a : State) : changedGroups a a = [] := by
  simp [changedGroups, metroChanged, same00, same01, same02, same03, same04, same05, same06, same07, same08, same09,
    same0A, same0B, same0C, same0D, same0E, same0F, same10, same11, sameOn_self]

@[simp] theorem commitG_self (a : State) : commitG a a = a := by
  simp [commitG, genKcp, changedGroups_self]

/-- The command processor's own fields are in no view. -/
theorem changedGroups_kcp (a b : State) (k l : Kcp) :
    changedGroups { a with kcp := k } { b with kcp := l } = changedGroups a b := by
  unfold changedGroups metroChanged
  rfl


end Sys2Proof.Machine
end

