-- ==== Sys2Proof/Laws/Exec.lean ====
section
/-! SUPPORT. What a command row does once its checks pass. -/

namespace Sys2Proof.Machine
open Sys2Proof

/-- A command row that runs ends as `conclude` of its body's answer. -/
theorem kcpRow_runs (op : Nat) (body : Body) (rq : Request) (s : State) (h : runs op rq s = true) :
    kcpRow op (leastPriv s op rq.payload) body rq s =
      .next (conclude (rowCmd op rq s) (takeId s) (body (rowCmd op rq s) (takeId s))) := by
  simp only [runs, Bool.and_eq_true, Bool.not_eq_true', Option.isNone_iff_eq_none] at h
  obtain ⟨⟨⟨⟨h1, h2⟩, h3⟩, h4⟩, h5⟩ := h
  have h6 : ((rowCmd op rq s).conditional && decide ((rowCmd op rq s).req.expGen <
      groupGen (takeId s) (groupOf (rowCmd op rq s).opcode))) = false := h4
  simp only [kcpRow, runRow, h1, h2, h3, runCmd, h6]
  rfl

/-- A command that runs wants its reply. -/
theorem runs_reply (op : Nat) (rq : Request) (s : State) (h : runs op rq s = true) :
    (rowCmd op rq s).noReply = false := by
  simp only [runs, Bool.and_eq_true, Bool.not_eq_true'] at h
  exact h.2

/-- A command that reads: only its reply differs. -/
theorem kcpRow_reads (op : Nat) (body : Body) (rq : Request) (s : State) (p : List Byte) (h : runs op rq s = true)
    (hb : body (rowCmd op rq s) (takeId s) = ok (takeId s) p) :
    kcpRow op (leastPriv s op rq.payload) body rq s = .next (replied op rq p s) := by
  rw [kcpRow_runs op body rq s h, hb]
  simp only [conclude, ok, Bool.false_eq_true, if_false, stOK, if_true, commitG_self, addReply, runs_reply op rq s h]
  rfl

/-- A command that is answered OK: what it leaves outside the command processor is what its body leaves. -/
theorem kcpRow_ok (op : Nat) (body : Body) (rq : Request) (s : State) (r : Res) (h : runs op rq s = true)
    (hb : body (rowCmd op rq s) (takeId s) = r) (hh : r.hold = false) (hs : r.status = 0) (hd : r.detail = 0)
    (hg : r.gen = none) :
    ∃ t, kcpRow op (leastPriv s op rq.payload) body rq s = .next t ∧ t = { r.st with kcp := t.kcp } ∧
      t.kcp.replies = r.st.kcp.replies ++ [⟨s.kcp.nextId, rq.src, op, rq.tag, stOK, 0, t.kcp.g, r.payload, r.st.now⟩] ∧
      t.kcp.slots = r.st.kcp.slots := by
  have hn := runs_reply op rq s h
  refine ⟨_, kcpRow_runs op body rq s h, ?_⟩
  rw [hb]
  have hl : (rowCmd op rq s).lost = false := rfl
  simp only [conclude, hh, hs, hd, hg, Option.getD_none, stOK, if_true, Bool.false_eq_true, if_false, addReply, hn, hl, Bool.false_or, Bool.false_and]
  refine ⟨?_, ?_, ?_⟩
  · simp only [commitG]
  · simp only [commitG_kcp_replies]; rfl
  · simp only [commitG_kcp_slots]

/-- A command that is held: its slot waits for the event that answers it. -/
theorem kcpRow_held (op : Nat) (body : Body) (rq : Request) (s : State) (r : Res) (h : runs op rq s = true)
    (hb : body (rowCmd op rq s) (takeId s) = r) (hh : r.hold = true) (hw : r.wait = false) :
    ∃ t, kcpRow op (leastPriv s op rq.payload) body rq s = .next t ∧ t = { r.st with kcp := t.kcp } ∧
      t.kcp.slots = r.st.kcp.slots ++ [{ rowCmd op rq s with phase := .held, since := r.st.now }] ∧
      t.kcp.replies = r.st.kcp.replies := by
  refine ⟨_, kcpRow_runs op body rq s h, ?_⟩
  rw [hb]
  simp only [conclude, hh, hw, if_true, Bool.false_eq_true, if_false]
  refine ⟨?_, ?_, ?_⟩
  · simp only [commitG]
  · simp only [commitG_kcp_slots, commitG_now]
  · simp only [commitG_kcp_replies]

end Sys2Proof.Machine
end

