-- ==== Sys2Proof/Laws/Tbl.lean ====
section
/-! SUPPORT. Sparse numbered arrays: what is read after a write, and that the canonical form is kept. -/

namespace Sys2Proof.Machine
open Sys2Proof

variable {α : Type}

@[simp] theorem tget_nil (d : α) (i : Nat) : tget d [] i = d := rfl

theorem tget_terase_same (d : α) (t : Tbl α) (i : Nat) : tget d (terase t i) i = d := by
  induction t with
  | nil => rfl
  | cons e t ih =>
    obtain ⟨k, v⟩ := e
    by_cases h : k = i <;> simp [terase, tget, h, ih]

theorem tget_terase_other (d : α) (t : Tbl α) (i j : Nat) (h : j ≠ i) : tget d (terase t i) j = tget d t j := by
  induction t with
  | nil => rfl
  | cons e t ih =>
    obtain ⟨k, v⟩ := e
    by_cases hk : k = i
    · subst hk; simp [terase, tget, ih, Ne.symm h]
    · by_cases hj : k = j
      · subst hj; simp [terase, tget, hk]
      · simp [terase, tget, hk, hj, ih]

theorem tget_tinsert_other (d : α) (t : Tbl α) (i j : Nat) (x : α) (h : j ≠ i) :
    tget d (tinsert i x t) j = tget d t j := by
  induction t with
  | nil => simp [tinsert, tget, Ne.symm h]
  | cons e t ih =>
    obtain ⟨k, v⟩ := e
    by_cases hk : i < k
    · simp [tinsert, hk, tget, Ne.symm h]
    · by_cases hj : k = j
      · subst hj; simp [tinsert, hk, tget]
      · simp [tinsert, hk, tget, hj, ih]

theorem tget_tinsert_terase (d : α) (t : Tbl α) (i : Nat) (x : α) : tget d (tinsert i x (terase t i)) i = x := by
  induction t with
  | nil => simp [terase, tinsert, tget]
  | cons e t ih =>
    obtain ⟨k, v⟩ := e
    by_cases hk : k = i
    · simpa [terase, hk] using ih
    · by_cases hl : i < k <;> simp [terase, hk, tinsert, hl, tget, ih]

@[simp] theorem tget_tset_same [DecidableEq α] (d : α) (t : Tbl α) (i : Nat) (x : α) : tget d (tset d t i x) i = x := by
  by_cases h : x = d
  · simp [tset, h, tget_terase_same]
  · simp [tset, h, tget_tinsert_terase]

theorem tget_tset_other [DecidableEq α] (d : α) (t : Tbl α) (i j : Nat) (x : α) (h : j ≠ i) :
    tget d (tset d t i x) j = tget d t j := by
  by_cases hx : x = d
  · simp [tset, hx, tget_terase_other d t i j h]
  · simp [tset, hx, tget_tinsert_other d _ i j x h, tget_terase_other d t i j h]

theorem twfFrom_mono [DecidableEq α] (d : α) (t : Tbl α) (a b : Nat) (h : a ≤ b) (w : twfFrom d b t = true) :
    twfFrom d a t = true := by
  cases t with
  | nil => rfl
  | cons e t =>
    obtain ⟨k, v⟩ := e
    simp [twfFrom] at w ⊢
    exact ⟨⟨by omega, w.1.2⟩, w.2⟩

theorem twfFrom_terase [DecidableEq α] (d : α) (t : Tbl α) (i lo : Nat) (w : twfFrom d lo t = true) :
    twfFrom d lo (terase t i) = true := by
  induction t generalizing lo with
  | nil => rfl
  | cons e t ih =>
    obtain ⟨k, v⟩ := e
    simp [twfFrom] at w
    by_cases hk : k = i
    · simp [terase, hk]
      exact twfFrom_mono d _ lo (k + 1) (by omega) (ih _ w.2)
    · simp [terase, hk, twfFrom, w.1]
      exact ih _ w.2

theorem terase_fresh [DecidableEq α] (d : α) (t : Tbl α) (i lo : Nat) (w : twfFrom d lo t = true) (h : i < lo) :
    terase t i = t := by
  induction t generalizing lo with
  | nil => rfl
  | cons e t ih =>
    obtain ⟨k, v⟩ := e
    simp [twfFrom] at w
    have hk : k ≠ i := by omega
    simp [terase, hk, ih (k + 1) w.2 (by omega)]

theorem twfFrom_tinsert [DecidableEq α] (d : α) (t : Tbl α) (i lo : Nat) (x : α) (hx : x ≠ d) (hl : lo ≤ i)
    (w : twfFrom d lo t = true) : twfFrom d lo (tinsert i x (terase t i)) = true := by
  induction t generalizing lo with
  | nil => simp [terase, tinsert, twfFrom, hx, hl]
  | cons e t ih =>
    obtain ⟨k, v⟩ := e
    simp [twfFrom] at w
    by_cases hk : k = i
    · subst hk
      simp only [terase, if_true]
      exact twfFrom_mono d _ lo k w.1.1 (ih k (Nat.le_refl k) (twfFrom_mono d t k (k + 1) (by omega) w.2))
    · by_cases hi : i < k
      · simp [terase, hk, tinsert, hi, twfFrom, hx, hl, w.1.2]
        exact twfFrom_mono d _ _ _ (by omega) (twfFrom_terase d t i _ w.2)
      · simp [terase, hk, tinsert, hi, twfFrom, w.1]
        exact ih (k + 1) (by omega) w.2

/-- A write keeps the canonical form. -/
theorem twf_tset [DecidableEq α] (d : α) (t : Tbl α) (i : Nat) (x : α) (w : twf d t = true) : twf d (tset d t i x) = true := by
  by_cases h : x = d
  · simpa [tset, h, twf] using twfFrom_terase d t i 0 w
  · simpa [tset, h, twf] using twfFrom_tinsert d t i 0 x h (Nat.zero_le i) w

end Sys2Proof.Machine
end

