-- ==== Sys2Proof/Laws/State.lean ====
section
/-! SUPPORT. What each update of the state leaves of every other field, and what the accessors read after it. -/

namespace Sys2Proof.Machine
open Sys2Proof

@[simp] theorem setApll_now (s : State) (i : Nat) (x : Apll) : (s.setApll i x).now = s.now := rfl
@[simp] theorem setApll_acc (s : State) (i : Nat) (x : Apll) : (s.setApll i x).acc = s.acc := rfl
@[simp] theorem setApll_free (s : State) (i : Nat) (x : Apll) : (s.setApll i x).free = s.free := rfl
@[simp] theorem setApll_utc (s : State) (i : Nat) (x : Apll) : (s.setApll i x).utc = s.utc := rfl
@[simp] theorem setApll_bus (s : State) (i : Nat) (x : Apll) : (s.setApll i x).bus = s.bus := rfl
@[simp] theorem setApll_tim (s : State) (i : Nat) (x : Apll) : (s.setApll i x).tim = s.tim := rfl
@[simp] theorem setApll_gnss (s : State) (i : Nat) (x : Apll) : (s.setApll i x).gnss = s.gnss := rfl
@[simp] theorem setApll_ref (s : State) (i : Nat) (x : Apll) : (s.setApll i x).ref = s.ref := rfl
@[simp] theorem setApll_sel (s : State) (i : Nat) (x : Apll) : (s.setApll i x).sel = s.sel := rfl
@[simp] theorem setApll_osc (s : State) (i : Nat) (x : Apll) : (s.setApll i x).osc = s.osc := rfl
@[simp] theorem setApll_bnd (s : State) (i : Nat) (x : Apll) : (s.setApll i x).bnd = s.bnd := rfl
@[simp] theorem setApll_log (s : State) (i : Nat) (x : Apll) : (s.setApll i x).log = s.log := rfl
@[simp] theorem setApll_sealing (s : State) (i : Nat) (x : Apll) : (s.setApll i x).sealing = s.sealing := rfl
@[simp] theorem setApll_fur (s : State) (i : Nat) (x : Apll) : (s.setApll i x).fur = s.fur := rfl
@[simp] theorem setApll_svc (s : State) (i : Nat) (x : Apll) : (s.setApll i x).svc = s.svc := rfl
@[simp] theorem setApll_eng (s : State) (i : Nat) (x : Apll) : (s.setApll i x).eng = s.eng := rfl
@[simp] theorem setApll_key (s : State) (i : Nat) (x : Apll) : (s.setApll i x).key = s.key := rfl
@[simp] theorem setApll_evd (s : State) (i : Nat) (x : Apll) : (s.setApll i x).evd = s.evd := rfl
@[simp] theorem setApll_eth (s : State) (i : Nat) (x : Apll) : (s.setApll i x).eth = s.eth := rfl
@[simp] theorem setApll_arb (s : State) (i : Nat) (x : Apll) : (s.setApll i x).arb = s.arb := rfl
@[simp] theorem setApll_tan (s : State) (i : Nat) (x : Apll) : (s.setApll i x).tan = s.tan := rfl
@[simp] theorem setApll_kcp (s : State) (i : Nat) (x : Apll) : (s.setApll i x).kcp = s.kcp := rfl
@[simp] theorem setApll_regs (s : State) (i : Nat) (x : Apll) : (s.setApll i x).regs = s.regs := rfl
@[simp] theorem setApll_pwr (s : State) (i : Nat) (x : Apll) : (s.setApll i x).pwr = s.pwr := rfl
@[simp] theorem setApll_tst (s : State) (i : Nat) (x : Apll) : (s.setApll i x).tst = s.tst := rfl
@[simp] theorem setApll_pending (s : State) (i : Nat) (x : Apll) : (s.setApll i x).pending = s.pending := rfl
@[simp] theorem setApll_apll_same (s : State) (i : Nat) (x : Apll) : (s.setApll i x).apll i = x :=
  tget_tset_same _ _ _ _
theorem setApll_apll_other (s : State) (i : Nat) (x : Apll) (j : Nat) (h : j ≠ i) : (s.setApll i x).apll j = s.apll j :=
  tget_tset_other _ _ _ _ _ h

@[simp] theorem setBucket_now (s : State) (i : Nat) (x : Bucket) : (s.setBucket i x).now = s.now := rfl
@[simp] theorem setBucket_acc (s : State) (i : Nat) (x : Bucket) : (s.setBucket i x).acc = s.acc := rfl
@[simp] theorem setBucket_free (s : State) (i : Nat) (x : Bucket) : (s.setBucket i x).free = s.free := rfl
@[simp] theorem setBucket_utc (s : State) (i : Nat) (x : Bucket) : (s.setBucket i x).utc = s.utc := rfl
@[simp] theorem setBucket_bus (s : State) (i : Nat) (x : Bucket) : (s.setBucket i x).bus = s.bus := rfl
@[simp] theorem setBucket_tim (s : State) (i : Nat) (x : Bucket) : (s.setBucket i x).tim = s.tim := rfl
@[simp] theorem setBucket_gnss (s : State) (i : Nat) (x : Bucket) : (s.setBucket i x).gnss = s.gnss := rfl
@[simp] theorem setBucket_ref (s : State) (i : Nat) (x : Bucket) : (s.setBucket i x).ref = s.ref := rfl
@[simp] theorem setBucket_sel (s : State) (i : Nat) (x : Bucket) : (s.setBucket i x).sel = s.sel := rfl
@[simp] theorem setBucket_osc (s : State) (i : Nat) (x : Bucket) : (s.setBucket i x).osc = s.osc := rfl
@[simp] theorem setBucket_bnd (s : State) (i : Nat) (x : Bucket) : (s.setBucket i x).bnd = s.bnd := rfl
@[simp] theorem setBucket_log (s : State) (i : Nat) (x : Bucket) : (s.setBucket i x).log = s.log := rfl
@[simp] theorem setBucket_sealing (s : State) (i : Nat) (x : Bucket) : (s.setBucket i x).sealing = s.sealing := rfl
@[simp] theorem setBucket_fur (s : State) (i : Nat) (x : Bucket) : (s.setBucket i x).fur = s.fur := rfl
@[simp] theorem setBucket_eng (s : State) (i : Nat) (x : Bucket) : (s.setBucket i x).eng = s.eng := rfl
@[simp] theorem setBucket_key (s : State) (i : Nat) (x : Bucket) : (s.setBucket i x).key = s.key := rfl
@[simp] theorem setBucket_evd (s : State) (i : Nat) (x : Bucket) : (s.setBucket i x).evd = s.evd := rfl
@[simp] theorem setBucket_eth (s : State) (i : Nat) (x : Bucket) : (s.setBucket i x).eth = s.eth := rfl
@[simp] theorem setBucket_arb (s : State) (i : Nat) (x : Bucket) : (s.setBucket i x).arb = s.arb := rfl
@[simp] theorem setBucket_tan (s : State) (i : Nat) (x : Bucket) : (s.setBucket i x).tan = s.tan := rfl
@[simp] theorem setBucket_syn (s : State) (i : Nat) (x : Bucket) : (s.setBucket i x).syn = s.syn := rfl
@[simp] theorem setBucket_kcp (s : State) (i : Nat) (x : Bucket) : (s.setBucket i x).kcp = s.kcp := rfl
@[simp] theorem setBucket_regs (s : State) (i : Nat) (x : Bucket) : (s.setBucket i x).regs = s.regs := rfl
@[simp] theorem setBucket_pwr (s : State) (i : Nat) (x : Bucket) : (s.setBucket i x).pwr = s.pwr := rfl
@[simp] theorem setBucket_tst (s : State) (i : Nat) (x : Bucket) : (s.setBucket i x).tst = s.tst := rfl
@[simp] theorem setBucket_pending (s : State) (i : Nat) (x : Bucket) : (s.setBucket i x).pending = s.pending := rfl

@[simp] theorem setChan_now (s : State) (i : Nat) (x : PrivChan) : (s.setChan i x).now = s.now := rfl
@[simp] theorem setChan_acc (s : State) (i : Nat) (x : PrivChan) : (s.setChan i x).acc = s.acc := rfl
@[simp] theorem setChan_free (s : State) (i : Nat) (x : PrivChan) : (s.setChan i x).free = s.free := rfl
@[simp] theorem setChan_utc (s : State) (i : Nat) (x : PrivChan) : (s.setChan i x).utc = s.utc := rfl
@[simp] theorem setChan_bus (s : State) (i : Nat) (x : PrivChan) : (s.setChan i x).bus = s.bus := rfl
@[simp] theorem setChan_gnss (s : State) (i : Nat) (x : PrivChan) : (s.setChan i x).gnss = s.gnss := rfl
@[simp] theorem setChan_ref (s : State) (i : Nat) (x : PrivChan) : (s.setChan i x).ref = s.ref := rfl
@[simp] theorem setChan_sel (s : State) (i : Nat) (x : PrivChan) : (s.setChan i x).sel = s.sel := rfl
@[simp] theorem setChan_osc (s : State) (i : Nat) (x : PrivChan) : (s.setChan i x).osc = s.osc := rfl
@[simp] theorem setChan_bnd (s : State) (i : Nat) (x : PrivChan) : (s.setChan i x).bnd = s.bnd := rfl
@[simp] theorem setChan_log (s : State) (i : Nat) (x : PrivChan) : (s.setChan i x).log = s.log := rfl
@[simp] theorem setChan_sealing (s : State) (i : Nat) (x : PrivChan) : (s.setChan i x).sealing = s.sealing := rfl
@[simp] theorem setChan_fur (s : State) (i : Nat) (x : PrivChan) : (s.setChan i x).fur = s.fur := rfl
@[simp] theorem setChan_svc (s : State) (i : Nat) (x : PrivChan) : (s.setChan i x).svc = s.svc := rfl
@[simp] theorem setChan_eng (s : State) (i : Nat) (x : PrivChan) : (s.setChan i x).eng = s.eng := rfl
@[simp] theorem setChan_key (s : State) (i : Nat) (x : PrivChan) : (s.setChan i x).key = s.key := rfl
@[simp] theorem setChan_evd (s : State) (i : Nat) (x : PrivChan) : (s.setChan i x).evd = s.evd := rfl
@[simp] theorem setChan_eth (s : State) (i : Nat) (x : PrivChan) : (s.setChan i x).eth = s.eth := rfl
@[simp] theorem setChan_arb (s : State) (i : Nat) (x : PrivChan) : (s.setChan i x).arb = s.arb := rfl
@[simp] theorem setChan_tan (s : State) (i : Nat) (x : PrivChan) : (s.setChan i x).tan = s.tan := rfl
@[simp] theorem setChan_syn (s : State) (i : Nat) (x : PrivChan) : (s.setChan i x).syn = s.syn := rfl
@[simp] theorem setChan_kcp (s : State) (i : Nat) (x : PrivChan) : (s.setChan i x).kcp = s.kcp := rfl
@[simp] theorem setChan_regs (s : State) (i : Nat) (x : PrivChan) : (s.setChan i x).regs = s.regs := rfl
@[simp] theorem setChan_pwr (s : State) (i : Nat) (x : PrivChan) : (s.setChan i x).pwr = s.pwr := rfl
@[simp] theorem setChan_tst (s : State) (i : Nat) (x : PrivChan) : (s.setChan i x).tst = s.tst := rfl
@[simp] theorem setChan_pending (s : State) (i : Nat) (x : PrivChan) : (s.setChan i x).pending = s.pending := rfl
@[simp] theorem setChan_chan_same (s : State) (i : Nat) (x : PrivChan) : (s.setChan i x).chan i = x :=
  tget_tset_same _ _ _ _
theorem setChan_chan_other (s : State) (i : Nat) (x : PrivChan) (j : Nat) (h : j ≠ i) : (s.setChan i x).chan j = s.chan j :=
  tget_tset_other _ _ _ _ _ h

@[simp] theorem setClaimPath_now (s : State) (t : Nat) (x : ClaimPath) : (s.setClaimPath t x).now = s.now := rfl
@[simp] theorem setClaimPath_acc (s : State) (t : Nat) (x : ClaimPath) : (s.setClaimPath t x).acc = s.acc := rfl
@[simp] theorem setClaimPath_free (s : State) (t : Nat) (x : ClaimPath) : (s.setClaimPath t x).free = s.free := rfl
@[simp] theorem setClaimPath_utc (s : State) (t : Nat) (x : ClaimPath) : (s.setClaimPath t x).utc = s.utc := rfl
@[simp] theorem setClaimPath_tim (s : State) (t : Nat) (x : ClaimPath) : (s.setClaimPath t x).tim = s.tim := rfl
@[simp] theorem setClaimPath_gnss (s : State) (t : Nat) (x : ClaimPath) : (s.setClaimPath t x).gnss = s.gnss := rfl
@[simp] theorem setClaimPath_ref (s : State) (t : Nat) (x : ClaimPath) : (s.setClaimPath t x).ref = s.ref := rfl
@[simp] theorem setClaimPath_sel (s : State) (t : Nat) (x : ClaimPath) : (s.setClaimPath t x).sel = s.sel := rfl
@[simp] theorem setClaimPath_osc (s : State) (t : Nat) (x : ClaimPath) : (s.setClaimPath t x).osc = s.osc := rfl
@[simp] theorem setClaimPath_bnd (s : State) (t : Nat) (x : ClaimPath) : (s.setClaimPath t x).bnd = s.bnd := rfl
@[simp] theorem setClaimPath_log (s : State) (t : Nat) (x : ClaimPath) : (s.setClaimPath t x).log = s.log := rfl
@[simp] theorem setClaimPath_sealing (s : State) (t : Nat) (x : ClaimPath) : (s.setClaimPath t x).sealing = s.sealing := rfl
@[simp] theorem setClaimPath_fur (s : State) (t : Nat) (x : ClaimPath) : (s.setClaimPath t x).fur = s.fur := rfl
@[simp] theorem setClaimPath_svc (s : State) (t : Nat) (x : ClaimPath) : (s.setClaimPath t x).svc = s.svc := rfl
@[simp] theorem setClaimPath_eng (s : State) (t : Nat) (x : ClaimPath) : (s.setClaimPath t x).eng = s.eng := rfl
@[simp] theorem setClaimPath_key (s : State) (t : Nat) (x : ClaimPath) : (s.setClaimPath t x).key = s.key := rfl
@[simp] theorem setClaimPath_evd (s : State) (t : Nat) (x : ClaimPath) : (s.setClaimPath t x).evd = s.evd := rfl
@[simp] theorem setClaimPath_eth (s : State) (t : Nat) (x : ClaimPath) : (s.setClaimPath t x).eth = s.eth := rfl
@[simp] theorem setClaimPath_arb (s : State) (t : Nat) (x : ClaimPath) : (s.setClaimPath t x).arb = s.arb := rfl
@[simp] theorem setClaimPath_tan (s : State) (t : Nat) (x : ClaimPath) : (s.setClaimPath t x).tan = s.tan := rfl
@[simp] theorem setClaimPath_syn (s : State) (t : Nat) (x : ClaimPath) : (s.setClaimPath t x).syn = s.syn := rfl
@[simp] theorem setClaimPath_kcp (s : State) (t : Nat) (x : ClaimPath) : (s.setClaimPath t x).kcp = s.kcp := rfl
@[simp] theorem setClaimPath_regs (s : State) (t : Nat) (x : ClaimPath) : (s.setClaimPath t x).regs = s.regs := rfl
@[simp] theorem setClaimPath_pwr (s : State) (t : Nat) (x : ClaimPath) : (s.setClaimPath t x).pwr = s.pwr := rfl
@[simp] theorem setClaimPath_tst (s : State) (t : Nat) (x : ClaimPath) : (s.setClaimPath t x).tst = s.tst := rfl
@[simp] theorem setClaimPath_pending (s : State) (t : Nat) (x : ClaimPath) : (s.setClaimPath t x).pending = s.pending := rfl
@[simp] theorem setClaimPath_claimPath_same (s : State) (t : Nat) (x : ClaimPath) : (s.setClaimPath t x).claimPath t = x :=
  tget_tset_same _ _ _ _
theorem setClaimPath_claimPath_other (s : State) (t : Nat) (x : ClaimPath) (j : Nat) (h : j ≠ t) : (s.setClaimPath t x).claimPath j = s.claimPath j :=
  tget_tset_other _ _ _ _ _ h

@[simp] theorem setDom_now (s : State) (d : Nat) (x : Dom) : (s.setDom d x).now = s.now := rfl
@[simp] theorem setDom_acc (s : State) (d : Nat) (x : Dom) : (s.setDom d x).acc = s.acc := rfl
@[simp] theorem setDom_free (s : State) (d : Nat) (x : Dom) : (s.setDom d x).free = s.free := rfl
@[simp] theorem setDom_utc (s : State) (d : Nat) (x : Dom) : (s.setDom d x).utc = s.utc := rfl
@[simp] theorem setDom_bus (s : State) (d : Nat) (x : Dom) : (s.setDom d x).bus = s.bus := rfl
@[simp] theorem setDom_tim (s : State) (d : Nat) (x : Dom) : (s.setDom d x).tim = s.tim := rfl
@[simp] theorem setDom_gnss (s : State) (d : Nat) (x : Dom) : (s.setDom d x).gnss = s.gnss := rfl
@[simp] theorem setDom_ref (s : State) (d : Nat) (x : Dom) : (s.setDom d x).ref = s.ref := rfl
@[simp] theorem setDom_sel (s : State) (d : Nat) (x : Dom) : (s.setDom d x).sel = s.sel := rfl
@[simp] theorem setDom_osc (s : State) (d : Nat) (x : Dom) : (s.setDom d x).osc = s.osc := rfl
@[simp] theorem setDom_bnd (s : State) (d : Nat) (x : Dom) : (s.setDom d x).bnd = s.bnd := rfl
@[simp] theorem setDom_log (s : State) (d : Nat) (x : Dom) : (s.setDom d x).log = s.log := rfl
@[simp] theorem setDom_sealing (s : State) (d : Nat) (x : Dom) : (s.setDom d x).sealing = s.sealing := rfl
@[simp] theorem setDom_fur (s : State) (d : Nat) (x : Dom) : (s.setDom d x).fur = s.fur := rfl
@[simp] theorem setDom_eng (s : State) (d : Nat) (x : Dom) : (s.setDom d x).eng = s.eng := rfl
@[simp] theorem setDom_key (s : State) (d : Nat) (x : Dom) : (s.setDom d x).key = s.key := rfl
@[simp] theorem setDom_evd (s : State) (d : Nat) (x : Dom) : (s.setDom d x).evd = s.evd := rfl
@[simp] theorem setDom_eth (s : State) (d : Nat) (x : Dom) : (s.setDom d x).eth = s.eth := rfl
@[simp] theorem setDom_arb (s : State) (d : Nat) (x : Dom) : (s.setDom d x).arb = s.arb := rfl
@[simp] theorem setDom_tan (s : State) (d : Nat) (x : Dom) : (s.setDom d x).tan = s.tan := rfl
@[simp] theorem setDom_syn (s : State) (d : Nat) (x : Dom) : (s.setDom d x).syn = s.syn := rfl
@[simp] theorem setDom_kcp (s : State) (d : Nat) (x : Dom) : (s.setDom d x).kcp = s.kcp := rfl
@[simp] theorem setDom_regs (s : State) (d : Nat) (x : Dom) : (s.setDom d x).regs = s.regs := rfl
@[simp] theorem setDom_pwr (s : State) (d : Nat) (x : Dom) : (s.setDom d x).pwr = s.pwr := rfl
@[simp] theorem setDom_tst (s : State) (d : Nat) (x : Dom) : (s.setDom d x).tst = s.tst := rfl
@[simp] theorem setDom_pending (s : State) (d : Nat) (x : Dom) : (s.setDom d x).pending = s.pending := rfl
@[simp] theorem setDom_dom_same (s : State) (d : Nat) (x : Dom) : (s.setDom d x).dom d = x :=
  tget_tset_same _ _ _ _
theorem setDom_dom_other (s : State) (d : Nat) (x : Dom) (j : Nat) (h : j ≠ d) : (s.setDom d x).dom j = s.dom j :=
  tget_tset_other _ _ _ _ _ h

@[simp] theorem setDup_now (s : State) (i : Nat) (x : Duplex) : (s.setDup i x).now = s.now := rfl
@[simp] theorem setDup_acc (s : State) (i : Nat) (x : Duplex) : (s.setDup i x).acc = s.acc := rfl
@[simp] theorem setDup_free (s : State) (i : Nat) (x : Duplex) : (s.setDup i x).free = s.free := rfl
@[simp] theorem setDup_utc (s : State) (i : Nat) (x : Duplex) : (s.setDup i x).utc = s.utc := rfl
@[simp] theorem setDup_bus (s : State) (i : Nat) (x : Duplex) : (s.setDup i x).bus = s.bus := rfl
@[simp] theorem setDup_tim (s : State) (i : Nat) (x : Duplex) : (s.setDup i x).tim = s.tim := rfl
@[simp] theorem setDup_gnss (s : State) (i : Nat) (x : Duplex) : (s.setDup i x).gnss = s.gnss := rfl
@[simp] theorem setDup_sel (s : State) (i : Nat) (x : Duplex) : (s.setDup i x).sel = s.sel := rfl
@[simp] theorem setDup_osc (s : State) (i : Nat) (x : Duplex) : (s.setDup i x).osc = s.osc := rfl
@[simp] theorem setDup_bnd (s : State) (i : Nat) (x : Duplex) : (s.setDup i x).bnd = s.bnd := rfl
@[simp] theorem setDup_log (s : State) (i : Nat) (x : Duplex) : (s.setDup i x).log = s.log := rfl
@[simp] theorem setDup_sealing (s : State) (i : Nat) (x : Duplex) : (s.setDup i x).sealing = s.sealing := rfl
@[simp] theorem setDup_fur (s : State) (i : Nat) (x : Duplex) : (s.setDup i x).fur = s.fur := rfl
@[simp] theorem setDup_svc (s : State) (i : Nat) (x : Duplex) : (s.setDup i x).svc = s.svc := rfl
@[simp] theorem setDup_eng (s : State) (i : Nat) (x : Duplex) : (s.setDup i x).eng = s.eng := rfl
@[simp] theorem setDup_key (s : State) (i : Nat) (x : Duplex) : (s.setDup i x).key = s.key := rfl
@[simp] theorem setDup_evd (s : State) (i : Nat) (x : Duplex) : (s.setDup i x).evd = s.evd := rfl
@[simp] theorem setDup_eth (s : State) (i : Nat) (x : Duplex) : (s.setDup i x).eth = s.eth := rfl
@[simp] theorem setDup_arb (s : State) (i : Nat) (x : Duplex) : (s.setDup i x).arb = s.arb := rfl
@[simp] theorem setDup_tan (s : State) (i : Nat) (x : Duplex) : (s.setDup i x).tan = s.tan := rfl
@[simp] theorem setDup_syn (s : State) (i : Nat) (x : Duplex) : (s.setDup i x).syn = s.syn := rfl
@[simp] theorem setDup_kcp (s : State) (i : Nat) (x : Duplex) : (s.setDup i x).kcp = s.kcp := rfl
@[simp] theorem setDup_regs (s : State) (i : Nat) (x : Duplex) : (s.setDup i x).regs = s.regs := rfl
@[simp] theorem setDup_pwr (s : State) (i : Nat) (x : Duplex) : (s.setDup i x).pwr = s.pwr := rfl
@[simp] theorem setDup_tst (s : State) (i : Nat) (x : Duplex) : (s.setDup i x).tst = s.tst := rfl
@[simp] theorem setDup_pending (s : State) (i : Nat) (x : Duplex) : (s.setDup i x).pending = s.pending := rfl
@[simp] theorem setDup_dup_same (s : State) (i : Nat) (x : Duplex) : (s.setDup i x).dup i = x :=
  tget_tset_same _ _ _ _
theorem setDup_dup_other (s : State) (i : Nat) (x : Duplex) (j : Nat) (h : j ≠ i) : (s.setDup i x).dup j = s.dup j :=
  tget_tset_other _ _ _ _ _ h

@[simp] theorem setEngine_now (s : State) (e : Nat) (x : Engine) : (s.setEngine e x).now = s.now := rfl
@[simp] theorem setEngine_acc (s : State) (e : Nat) (x : Engine) : (s.setEngine e x).acc = s.acc := rfl
@[simp] theorem setEngine_free (s : State) (e : Nat) (x : Engine) : (s.setEngine e x).free = s.free := rfl
@[simp] theorem setEngine_utc (s : State) (e : Nat) (x : Engine) : (s.setEngine e x).utc = s.utc := rfl
@[simp] theorem setEngine_bus (s : State) (e : Nat) (x : Engine) : (s.setEngine e x).bus = s.bus := rfl
@[simp] theorem setEngine_tim (s : State) (e : Nat) (x : Engine) : (s.setEngine e x).tim = s.tim := rfl
@[simp] theorem setEngine_gnss (s : State) (e : Nat) (x : Engine) : (s.setEngine e x).gnss = s.gnss := rfl
@[simp] theorem setEngine_ref (s : State) (e : Nat) (x : Engine) : (s.setEngine e x).ref = s.ref := rfl
@[simp] theorem setEngine_sel (s : State) (e : Nat) (x : Engine) : (s.setEngine e x).sel = s.sel := rfl
@[simp] theorem setEngine_osc (s : State) (e : Nat) (x : Engine) : (s.setEngine e x).osc = s.osc := rfl
@[simp] theorem setEngine_bnd (s : State) (e : Nat) (x : Engine) : (s.setEngine e x).bnd = s.bnd := rfl
@[simp] theorem setEngine_log (s : State) (e : Nat) (x : Engine) : (s.setEngine e x).log = s.log := rfl
@[simp] theorem setEngine_sealing (s : State) (e : Nat) (x : Engine) : (s.setEngine e x).sealing = s.sealing := rfl
@[simp] theorem setEngine_fur (s : State) (e : Nat) (x : Engine) : (s.setEngine e x).fur = s.fur := rfl
@[simp] theorem setEngine_svc (s : State) (e : Nat) (x : Engine) : (s.setEngine e x).svc = s.svc := rfl
@[simp] theorem setEngine_key (s : State) (e : Nat) (x : Engine) : (s.setEngine e x).key = s.key := rfl
@[simp] theorem setEngine_evd (s : State) (e : Nat) (x : Engine) : (s.setEngine e x).evd = s.evd := rfl
@[simp] theorem setEngine_eth (s : State) (e : Nat) (x : Engine) : (s.setEngine e x).eth = s.eth := rfl
@[simp] theorem setEngine_arb (s : State) (e : Nat) (x : Engine) : (s.setEngine e x).arb = s.arb := rfl
@[simp] theorem setEngine_tan (s : State) (e : Nat) (x : Engine) : (s.setEngine e x).tan = s.tan := rfl
@[simp] theorem setEngine_syn (s : State) (e : Nat) (x : Engine) : (s.setEngine e x).syn = s.syn := rfl
@[simp] theorem setEngine_kcp (s : State) (e : Nat) (x : Engine) : (s.setEngine e x).kcp = s.kcp := rfl
@[simp] theorem setEngine_regs (s : State) (e : Nat) (x : Engine) : (s.setEngine e x).regs = s.regs := rfl
@[simp] theorem setEngine_pwr (s : State) (e : Nat) (x : Engine) : (s.setEngine e x).pwr = s.pwr := rfl
@[simp] theorem setEngine_tst (s : State) (e : Nat) (x : Engine) : (s.setEngine e x).tst = s.tst := rfl
@[simp] theorem setEngine_pending (s : State) (e : Nat) (x : Engine) : (s.setEngine e x).pending = s.pending := rfl
@[simp] theorem setEngine_engine_same (s : State) (e : Nat) (x : Engine) : (s.setEngine e x).engine e = x :=
  tget_tset_same _ _ _ _
theorem setEngine_engine_other (s : State) (e : Nat) (x : Engine) (j : Nat) (h : j ≠ e) : (s.setEngine e x).engine j = s.engine j :=
  tget_tset_other _ _ _ _ _ h

@[simp] theorem setEntry_now (s : State) (i : Nat) (x : Entry) : (s.setEntry i x).now = s.now := rfl
@[simp] theorem setEntry_acc (s : State) (i : Nat) (x : Entry) : (s.setEntry i x).acc = s.acc := rfl
@[simp] theorem setEntry_free (s : State) (i : Nat) (x : Entry) : (s.setEntry i x).free = s.free := rfl
@[simp] theorem setEntry_utc (s : State) (i : Nat) (x : Entry) : (s.setEntry i x).utc = s.utc := rfl
@[simp] theorem setEntry_bus (s : State) (i : Nat) (x : Entry) : (s.setEntry i x).bus = s.bus := rfl
@[simp] theorem setEntry_tim (s : State) (i : Nat) (x : Entry) : (s.setEntry i x).tim = s.tim := rfl
@[simp] theorem setEntry_gnss (s : State) (i : Nat) (x : Entry) : (s.setEntry i x).gnss = s.gnss := rfl
@[simp] theorem setEntry_ref (s : State) (i : Nat) (x : Entry) : (s.setEntry i x).ref = s.ref := rfl
@[simp] theorem setEntry_sel (s : State) (i : Nat) (x : Entry) : (s.setEntry i x).sel = s.sel := rfl
@[simp] theorem setEntry_osc (s : State) (i : Nat) (x : Entry) : (s.setEntry i x).osc = s.osc := rfl
@[simp] theorem setEntry_bnd (s : State) (i : Nat) (x : Entry) : (s.setEntry i x).bnd = s.bnd := rfl
@[simp] theorem setEntry_log (s : State) (i : Nat) (x : Entry) : (s.setEntry i x).log = s.log := rfl
@[simp] theorem setEntry_sealing (s : State) (i : Nat) (x : Entry) : (s.setEntry i x).sealing = s.sealing := rfl
@[simp] theorem setEntry_fur (s : State) (i : Nat) (x : Entry) : (s.setEntry i x).fur = s.fur := rfl
@[simp] theorem setEntry_eng (s : State) (i : Nat) (x : Entry) : (s.setEntry i x).eng = s.eng := rfl
@[simp] theorem setEntry_key (s : State) (i : Nat) (x : Entry) : (s.setEntry i x).key = s.key := rfl
@[simp] theorem setEntry_evd (s : State) (i : Nat) (x : Entry) : (s.setEntry i x).evd = s.evd := rfl
@[simp] theorem setEntry_eth (s : State) (i : Nat) (x : Entry) : (s.setEntry i x).eth = s.eth := rfl
@[simp] theorem setEntry_arb (s : State) (i : Nat) (x : Entry) : (s.setEntry i x).arb = s.arb := rfl
@[simp] theorem setEntry_tan (s : State) (i : Nat) (x : Entry) : (s.setEntry i x).tan = s.tan := rfl
@[simp] theorem setEntry_syn (s : State) (i : Nat) (x : Entry) : (s.setEntry i x).syn = s.syn := rfl
@[simp] theorem setEntry_kcp (s : State) (i : Nat) (x : Entry) : (s.setEntry i x).kcp = s.kcp := rfl
@[simp] theorem setEntry_regs (s : State) (i : Nat) (x : Entry) : (s.setEntry i x).regs = s.regs := rfl
@[simp] theorem setEntry_pwr (s : State) (i : Nat) (x : Entry) : (s.setEntry i x).pwr = s.pwr := rfl
@[simp] theorem setEntry_tst (s : State) (i : Nat) (x : Entry) : (s.setEntry i x).tst = s.tst := rfl
@[simp] theorem setEntry_pending (s : State) (i : Nat) (x : Entry) : (s.setEntry i x).pending = s.pending := rfl
@[simp] theorem setEntry_entry_same (s : State) (i : Nat) (x : Entry) : (s.setEntry i x).entry i = x :=
  tget_tset_same _ _ _ _
theorem setEntry_entry_other (s : State) (i : Nat) (x : Entry) (j : Nat) (h : j ≠ i) : (s.setEntry i x).entry j = s.entry j :=
  tget_tset_other _ _ _ _ _ h

@[simp] theorem setEthP_now (s : State) (i : Nat) (x : Eth) : (s.setEthP i x).now = s.now := rfl
@[simp] theorem setEthP_acc (s : State) (i : Nat) (x : Eth) : (s.setEthP i x).acc = s.acc := rfl
@[simp] theorem setEthP_free (s : State) (i : Nat) (x : Eth) : (s.setEthP i x).free = s.free := rfl
@[simp] theorem setEthP_utc (s : State) (i : Nat) (x : Eth) : (s.setEthP i x).utc = s.utc := rfl
@[simp] theorem setEthP_bus (s : State) (i : Nat) (x : Eth) : (s.setEthP i x).bus = s.bus := rfl
@[simp] theorem setEthP_tim (s : State) (i : Nat) (x : Eth) : (s.setEthP i x).tim = s.tim := rfl
@[simp] theorem setEthP_gnss (s : State) (i : Nat) (x : Eth) : (s.setEthP i x).gnss = s.gnss := rfl
@[simp] theorem setEthP_ref (s : State) (i : Nat) (x : Eth) : (s.setEthP i x).ref = s.ref := rfl
@[simp] theorem setEthP_sel (s : State) (i : Nat) (x : Eth) : (s.setEthP i x).sel = s.sel := rfl
@[simp] theorem setEthP_osc (s : State) (i : Nat) (x : Eth) : (s.setEthP i x).osc = s.osc := rfl
@[simp] theorem setEthP_bnd (s : State) (i : Nat) (x : Eth) : (s.setEthP i x).bnd = s.bnd := rfl
@[simp] theorem setEthP_log (s : State) (i : Nat) (x : Eth) : (s.setEthP i x).log = s.log := rfl
@[simp] theorem setEthP_sealing (s : State) (i : Nat) (x : Eth) : (s.setEthP i x).sealing = s.sealing := rfl
@[simp] theorem setEthP_fur (s : State) (i : Nat) (x : Eth) : (s.setEthP i x).fur = s.fur := rfl
@[simp] theorem setEthP_svc (s : State) (i : Nat) (x : Eth) : (s.setEthP i x).svc = s.svc := rfl
@[simp] theorem setEthP_eng (s : State) (i : Nat) (x : Eth) : (s.setEthP i x).eng = s.eng := rfl
@[simp] theorem setEthP_key (s : State) (i : Nat) (x : Eth) : (s.setEthP i x).key = s.key := rfl
@[simp] theorem setEthP_evd (s : State) (i : Nat) (x : Eth) : (s.setEthP i x).evd = s.evd := rfl
@[simp] theorem setEthP_arb (s : State) (i : Nat) (x : Eth) : (s.setEthP i x).arb = s.arb := rfl
@[simp] theorem setEthP_tan (s : State) (i : Nat) (x : Eth) : (s.setEthP i x).tan = s.tan := rfl
@[simp] theorem setEthP_syn (s : State) (i : Nat) (x : Eth) : (s.setEthP i x).syn = s.syn := rfl
@[simp] theorem setEthP_kcp (s : State) (i : Nat) (x : Eth) : (s.setEthP i x).kcp = s.kcp := rfl
@[simp] theorem setEthP_regs (s : State) (i : Nat) (x : Eth) : (s.setEthP i x).regs = s.regs := rfl
@[simp] theorem setEthP_pwr (s : State) (i : Nat) (x : Eth) : (s.setEthP i x).pwr = s.pwr := rfl
@[simp] theorem setEthP_tst (s : State) (i : Nat) (x : Eth) : (s.setEthP i x).tst = s.tst := rfl
@[simp] theorem setEthP_pending (s : State) (i : Nat) (x : Eth) : (s.setEthP i x).pending = s.pending := rfl
@[simp] theorem setEthP_ethP_same (s : State) (i : Nat) (x : Eth) : (s.setEthP i x).ethP i = x :=
  tget_tset_same _ _ _ _
theorem setEthP_ethP_other (s : State) (i : Nat) (x : Eth) (j : Nat) (h : j ≠ i) : (s.setEthP i x).ethP j = s.ethP j :=
  tget_tset_other _ _ _ _ _ h

@[simp] theorem setFlt_now (s : State) (b : Nat) (f : Flt) : (s.setFlt b f).now = s.now := rfl
@[simp] theorem setFlt_acc (s : State) (b : Nat) (f : Flt) : (s.setFlt b f).acc = s.acc := rfl
@[simp] theorem setFlt_free (s : State) (b : Nat) (f : Flt) : (s.setFlt b f).free = s.free := rfl
@[simp] theorem setFlt_utc (s : State) (b : Nat) (f : Flt) : (s.setFlt b f).utc = s.utc := rfl
@[simp] theorem setFlt_bus (s : State) (b : Nat) (f : Flt) : (s.setFlt b f).bus = s.bus := rfl
@[simp] theorem setFlt_tim (s : State) (b : Nat) (f : Flt) : (s.setFlt b f).tim = s.tim := rfl
@[simp] theorem setFlt_gnss (s : State) (b : Nat) (f : Flt) : (s.setFlt b f).gnss = s.gnss := rfl
@[simp] theorem setFlt_ref (s : State) (b : Nat) (f : Flt) : (s.setFlt b f).ref = s.ref := rfl
@[simp] theorem setFlt_sel (s : State) (b : Nat) (f : Flt) : (s.setFlt b f).sel = s.sel := rfl
@[simp] theorem setFlt_osc (s : State) (b : Nat) (f : Flt) : (s.setFlt b f).osc = s.osc := rfl
@[simp] theorem setFlt_bnd (s : State) (b : Nat) (f : Flt) : (s.setFlt b f).bnd = s.bnd := rfl
@[simp] theorem setFlt_log (s : State) (b : Nat) (f : Flt) : (s.setFlt b f).log = s.log := rfl
@[simp] theorem setFlt_sealing (s : State) (b : Nat) (f : Flt) : (s.setFlt b f).sealing = s.sealing := rfl
@[simp] theorem setFlt_fur (s : State) (b : Nat) (f : Flt) : (s.setFlt b f).fur = s.fur := rfl
@[simp] theorem setFlt_svc (s : State) (b : Nat) (f : Flt) : (s.setFlt b f).svc = s.svc := rfl
@[simp] theorem setFlt_eng (s : State) (b : Nat) (f : Flt) : (s.setFlt b f).eng = s.eng := rfl
@[simp] theorem setFlt_key (s : State) (b : Nat) (f : Flt) : (s.setFlt b f).key = s.key := rfl
@[simp] theorem setFlt_evd (s : State) (b : Nat) (f : Flt) : (s.setFlt b f).evd = s.evd := rfl
@[simp] theorem setFlt_eth (s : State) (b : Nat) (f : Flt) : (s.setFlt b f).eth = s.eth := rfl
@[simp] theorem setFlt_arb (s : State) (b : Nat) (f : Flt) : (s.setFlt b f).arb = s.arb := rfl
@[simp] theorem setFlt_tan (s : State) (b : Nat) (f : Flt) : (s.setFlt b f).tan = s.tan := rfl
@[simp] theorem setFlt_syn (s : State) (b : Nat) (f : Flt) : (s.setFlt b f).syn = s.syn := rfl
@[simp] theorem setFlt_kcp (s : State) (b : Nat) (f : Flt) : (s.setFlt b f).kcp = s.kcp := rfl
@[simp] theorem setFlt_pwr (s : State) (b : Nat) (f : Flt) : (s.setFlt b f).pwr = s.pwr := rfl
@[simp] theorem setFlt_tst (s : State) (b : Nat) (f : Flt) : (s.setFlt b f).tst = s.tst := rfl
@[simp] theorem setFlt_pending (s : State) (b : Nat) (f : Flt) : (s.setFlt b f).pending = s.pending := rfl
@[simp] theorem setFlt_flt_same (s : State) (b : Nat) (f : Flt) : (s.setFlt b f).flt b = f :=
  tget_tset_same _ _ _ _
theorem setFlt_flt_other (s : State) (b : Nat) (f : Flt) (j : Nat) (h : j ≠ b) : (s.setFlt b f).flt j = s.flt j :=
  tget_tset_other _ _ _ _ _ h

@[simp] theorem setFreeze_now (s : State) (f : Option Freeze) : (s.setFreeze f).now = s.now := rfl
@[simp] theorem setFreeze_acc (s : State) (f : Option Freeze) : (s.setFreeze f).acc = s.acc := rfl
@[simp] theorem setFreeze_free (s : State) (f : Option Freeze) : (s.setFreeze f).free = s.free := rfl
@[simp] theorem setFreeze_utc (s : State) (f : Option Freeze) : (s.setFreeze f).utc = s.utc := rfl
@[simp] theorem setFreeze_bus (s : State) (f : Option Freeze) : (s.setFreeze f).bus = s.bus := rfl
@[simp] theorem setFreeze_tim (s : State) (f : Option Freeze) : (s.setFreeze f).tim = s.tim := rfl
@[simp] theorem setFreeze_gnss (s : State) (f : Option Freeze) : (s.setFreeze f).gnss = s.gnss := rfl
@[simp] theorem setFreeze_ref (s : State) (f : Option Freeze) : (s.setFreeze f).ref = s.ref := rfl
@[simp] theorem setFreeze_osc (s : State) (f : Option Freeze) : (s.setFreeze f).osc = s.osc := rfl
@[simp] theorem setFreeze_bnd (s : State) (f : Option Freeze) : (s.setFreeze f).bnd = s.bnd := rfl
@[simp] theorem setFreeze_log (s : State) (f : Option Freeze) : (s.setFreeze f).log = s.log := rfl
@[simp] theorem setFreeze_sealing (s : State) (f : Option Freeze) : (s.setFreeze f).sealing = s.sealing := rfl
@[simp] theorem setFreeze_fur (s : State) (f : Option Freeze) : (s.setFreeze f).fur = s.fur := rfl
@[simp] theorem setFreeze_svc (s : State) (f : Option Freeze) : (s.setFreeze f).svc = s.svc := rfl
@[simp] theorem setFreeze_eng (s : State) (f : Option Freeze) : (s.setFreeze f).eng = s.eng := rfl
@[simp] theorem setFreeze_key (s : State) (f : Option Freeze) : (s.setFreeze f).key = s.key := rfl
@[simp] theorem setFreeze_evd (s : State) (f : Option Freeze) : (s.setFreeze f).evd = s.evd := rfl
@[simp] theorem setFreeze_eth (s : State) (f : Option Freeze) : (s.setFreeze f).eth = s.eth := rfl
@[simp] theorem setFreeze_arb (s : State) (f : Option Freeze) : (s.setFreeze f).arb = s.arb := rfl
@[simp] theorem setFreeze_tan (s : State) (f : Option Freeze) : (s.setFreeze f).tan = s.tan := rfl
@[simp] theorem setFreeze_syn (s : State) (f : Option Freeze) : (s.setFreeze f).syn = s.syn := rfl
@[simp] theorem setFreeze_kcp (s : State) (f : Option Freeze) : (s.setFreeze f).kcp = s.kcp := rfl
@[simp] theorem setFreeze_regs (s : State) (f : Option Freeze) : (s.setFreeze f).regs = s.regs := rfl
@[simp] theorem setFreeze_pwr (s : State) (f : Option Freeze) : (s.setFreeze f).pwr = s.pwr := rfl
@[simp] theorem setFreeze_tst (s : State) (f : Option Freeze) : (s.setFreeze f).tst = s.tst := rfl
@[simp] theorem setFreeze_pending (s : State) (f : Option Freeze) : (s.setFreeze f).pending = s.pending := rfl

@[simp] theorem setGch_now (s : State) (i : Nat) (x : GnssChan) : (s.setGch i x).now = s.now := rfl
@[simp] theorem setGch_acc (s : State) (i : Nat) (x : GnssChan) : (s.setGch i x).acc = s.acc := rfl
@[simp] theorem setGch_free (s : State) (i : Nat) (x : GnssChan) : (s.setGch i x).free = s.free := rfl
@[simp] theorem setGch_utc (s : State) (i : Nat) (x : GnssChan) : (s.setGch i x).utc = s.utc := rfl
@[simp] theorem setGch_bus (s : State) (i : Nat) (x : GnssChan) : (s.setGch i x).bus = s.bus := rfl
@[simp] theorem setGch_tim (s : State) (i : Nat) (x : GnssChan) : (s.setGch i x).tim = s.tim := rfl
@[simp] theorem setGch_ref (s : State) (i : Nat) (x : GnssChan) : (s.setGch i x).ref = s.ref := rfl
@[simp] theorem setGch_sel (s : State) (i : Nat) (x : GnssChan) : (s.setGch i x).sel = s.sel := rfl
@[simp] theorem setGch_osc (s : State) (i : Nat) (x : GnssChan) : (s.setGch i x).osc = s.osc := rfl
@[simp] theorem setGch_bnd (s : State) (i : Nat) (x : GnssChan) : (s.setGch i x).bnd = s.bnd := rfl
@[simp] theorem setGch_log (s : State) (i : Nat) (x : GnssChan) : (s.setGch i x).log = s.log := rfl
@[simp] theorem setGch_sealing (s : State) (i : Nat) (x : GnssChan) : (s.setGch i x).sealing = s.sealing := rfl
@[simp] theorem setGch_fur (s : State) (i : Nat) (x : GnssChan) : (s.setGch i x).fur = s.fur := rfl
@[simp] theorem setGch_svc (s : State) (i : Nat) (x : GnssChan) : (s.setGch i x).svc = s.svc := rfl
@[simp] theorem setGch_eng (s : State) (i : Nat) (x : GnssChan) : (s.setGch i x).eng = s.eng := rfl
@[simp] theorem setGch_key (s : State) (i : Nat) (x : GnssChan) : (s.setGch i x).key = s.key := rfl
@[simp] theorem setGch_evd (s : State) (i : Nat) (x : GnssChan) : (s.setGch i x).evd = s.evd := rfl
@[simp] theorem setGch_eth (s : State) (i : Nat) (x : GnssChan) : (s.setGch i x).eth = s.eth := rfl
@[simp] theorem setGch_arb (s : State) (i : Nat) (x : GnssChan) : (s.setGch i x).arb = s.arb := rfl
@[simp] theorem setGch_tan (s : State) (i : Nat) (x : GnssChan) : (s.setGch i x).tan = s.tan := rfl
@[simp] theorem setGch_syn (s : State) (i : Nat) (x : GnssChan) : (s.setGch i x).syn = s.syn := rfl
@[simp] theorem setGch_kcp (s : State) (i : Nat) (x : GnssChan) : (s.setGch i x).kcp = s.kcp := rfl
@[simp] theorem setGch_regs (s : State) (i : Nat) (x : GnssChan) : (s.setGch i x).regs = s.regs := rfl
@[simp] theorem setGch_pwr (s : State) (i : Nat) (x : GnssChan) : (s.setGch i x).pwr = s.pwr := rfl
@[simp] theorem setGch_tst (s : State) (i : Nat) (x : GnssChan) : (s.setGch i x).tst = s.tst := rfl
@[simp] theorem setGch_pending (s : State) (i : Nat) (x : GnssChan) : (s.setGch i x).pending = s.pending := rfl
@[simp] theorem setGch_gch_same (s : State) (i : Nat) (x : GnssChan) : (s.setGch i x).gch i = x :=
  tget_tset_same _ _ _ _
theorem setGch_gch_other (s : State) (i : Nat) (x : GnssChan) (j : Nat) (h : j ≠ i) : (s.setGch i x).gch j = s.gch j :=
  tget_tset_other _ _ _ _ _ h

@[simp] theorem setInterp_now (s : State) (i : Nat) (x : GenInterp) : (s.setInterp i x).now = s.now := rfl
@[simp] theorem setInterp_acc (s : State) (i : Nat) (x : GenInterp) : (s.setInterp i x).acc = s.acc := rfl
@[simp] theorem setInterp_free (s : State) (i : Nat) (x : GenInterp) : (s.setInterp i x).free = s.free := rfl
@[simp] theorem setInterp_utc (s : State) (i : Nat) (x : GenInterp) : (s.setInterp i x).utc = s.utc := rfl
@[simp] theorem setInterp_bus (s : State) (i : Nat) (x : GenInterp) : (s.setInterp i x).bus = s.bus := rfl
@[simp] theorem setInterp_gnss (s : State) (i : Nat) (x : GenInterp) : (s.setInterp i x).gnss = s.gnss := rfl
@[simp] theorem setInterp_ref (s : State) (i : Nat) (x : GenInterp) : (s.setInterp i x).ref = s.ref := rfl
@[simp] theorem setInterp_sel (s : State) (i : Nat) (x : GenInterp) : (s.setInterp i x).sel = s.sel := rfl
@[simp] theorem setInterp_osc (s : State) (i : Nat) (x : GenInterp) : (s.setInterp i x).osc = s.osc := rfl
@[simp] theorem setInterp_bnd (s : State) (i : Nat) (x : GenInterp) : (s.setInterp i x).bnd = s.bnd := rfl
@[simp] theorem setInterp_log (s : State) (i : Nat) (x : GenInterp) : (s.setInterp i x).log = s.log := rfl
@[simp] theorem setInterp_sealing (s : State) (i : Nat) (x : GenInterp) : (s.setInterp i x).sealing = s.sealing := rfl
@[simp] theorem setInterp_fur (s : State) (i : Nat) (x : GenInterp) : (s.setInterp i x).fur = s.fur := rfl
@[simp] theorem setInterp_svc (s : State) (i : Nat) (x : GenInterp) : (s.setInterp i x).svc = s.svc := rfl
@[simp] theorem setInterp_eng (s : State) (i : Nat) (x : GenInterp) : (s.setInterp i x).eng = s.eng := rfl
@[simp] theorem setInterp_key (s : State) (i : Nat) (x : GenInterp) : (s.setInterp i x).key = s.key := rfl
@[simp] theorem setInterp_evd (s : State) (i : Nat) (x : GenInterp) : (s.setInterp i x).evd = s.evd := rfl
@[simp] theorem setInterp_eth (s : State) (i : Nat) (x : GenInterp) : (s.setInterp i x).eth = s.eth := rfl
@[simp] theorem setInterp_arb (s : State) (i : Nat) (x : GenInterp) : (s.setInterp i x).arb = s.arb := rfl
@[simp] theorem setInterp_tan (s : State) (i : Nat) (x : GenInterp) : (s.setInterp i x).tan = s.tan := rfl
@[simp] theorem setInterp_syn (s : State) (i : Nat) (x : GenInterp) : (s.setInterp i x).syn = s.syn := rfl
@[simp] theorem setInterp_kcp (s : State) (i : Nat) (x : GenInterp) : (s.setInterp i x).kcp = s.kcp := rfl
@[simp] theorem setInterp_regs (s : State) (i : Nat) (x : GenInterp) : (s.setInterp i x).regs = s.regs := rfl
@[simp] theorem setInterp_pwr (s : State) (i : Nat) (x : GenInterp) : (s.setInterp i x).pwr = s.pwr := rfl
@[simp] theorem setInterp_tst (s : State) (i : Nat) (x : GenInterp) : (s.setInterp i x).tst = s.tst := rfl
@[simp] theorem setInterp_pending (s : State) (i : Nat) (x : GenInterp) : (s.setInterp i x).pending = s.pending := rfl
@[simp] theorem setInterp_interp_same (s : State) (i : Nat) (x : GenInterp) : (s.setInterp i x).interp i = x :=
  tget_tset_same _ _ _ _
theorem setInterp_interp_other (s : State) (i : Nat) (x : GenInterp) (j : Nat) (h : j ≠ i) : (s.setInterp i x).interp j = s.interp j :=
  tget_tset_other _ _ _ _ _ h

@[simp] theorem setIrq_now (s : State) (g : Nat) (x : Irq) : (s.setIrq g x).now = s.now := rfl
@[simp] theorem setIrq_acc (s : State) (g : Nat) (x : Irq) : (s.setIrq g x).acc = s.acc := rfl
@[simp] theorem setIrq_free (s : State) (g : Nat) (x : Irq) : (s.setIrq g x).free = s.free := rfl
@[simp] theorem setIrq_utc (s : State) (g : Nat) (x : Irq) : (s.setIrq g x).utc = s.utc := rfl
@[simp] theorem setIrq_bus (s : State) (g : Nat) (x : Irq) : (s.setIrq g x).bus = s.bus := rfl
@[simp] theorem setIrq_tim (s : State) (g : Nat) (x : Irq) : (s.setIrq g x).tim = s.tim := rfl
@[simp] theorem setIrq_gnss (s : State) (g : Nat) (x : Irq) : (s.setIrq g x).gnss = s.gnss := rfl
@[simp] theorem setIrq_ref (s : State) (g : Nat) (x : Irq) : (s.setIrq g x).ref = s.ref := rfl
@[simp] theorem setIrq_sel (s : State) (g : Nat) (x : Irq) : (s.setIrq g x).sel = s.sel := rfl
@[simp] theorem setIrq_osc (s : State) (g : Nat) (x : Irq) : (s.setIrq g x).osc = s.osc := rfl
@[simp] theorem setIrq_bnd (s : State) (g : Nat) (x : Irq) : (s.setIrq g x).bnd = s.bnd := rfl
@[simp] theorem setIrq_log (s : State) (g : Nat) (x : Irq) : (s.setIrq g x).log = s.log := rfl
@[simp] theorem setIrq_sealing (s : State) (g : Nat) (x : Irq) : (s.setIrq g x).sealing = s.sealing := rfl
@[simp] theorem setIrq_fur (s : State) (g : Nat) (x : Irq) : (s.setIrq g x).fur = s.fur := rfl
@[simp] theorem setIrq_svc (s : State) (g : Nat) (x : Irq) : (s.setIrq g x).svc = s.svc := rfl
@[simp] theorem setIrq_eng (s : State) (g : Nat) (x : Irq) : (s.setIrq g x).eng = s.eng := rfl
@[simp] theorem setIrq_key (s : State) (g : Nat) (x : Irq) : (s.setIrq g x).key = s.key := rfl
@[simp] theorem setIrq_evd (s : State) (g : Nat) (x : Irq) : (s.setIrq g x).evd = s.evd := rfl
@[simp] theorem setIrq_eth (s : State) (g : Nat) (x : Irq) : (s.setIrq g x).eth = s.eth := rfl
@[simp] theorem setIrq_arb (s : State) (g : Nat) (x : Irq) : (s.setIrq g x).arb = s.arb := rfl
@[simp] theorem setIrq_tan (s : State) (g : Nat) (x : Irq) : (s.setIrq g x).tan = s.tan := rfl
@[simp] theorem setIrq_syn (s : State) (g : Nat) (x : Irq) : (s.setIrq g x).syn = s.syn := rfl
@[simp] theorem setIrq_kcp (s : State) (g : Nat) (x : Irq) : (s.setIrq g x).kcp = s.kcp := rfl
@[simp] theorem setIrq_pwr (s : State) (g : Nat) (x : Irq) : (s.setIrq g x).pwr = s.pwr := rfl
@[simp] theorem setIrq_tst (s : State) (g : Nat) (x : Irq) : (s.setIrq g x).tst = s.tst := rfl
@[simp] theorem setIrq_pending (s : State) (g : Nat) (x : Irq) : (s.setIrq g x).pending = s.pending := rfl
@[simp] theorem setIrq_irqG_same (s : State) (g : Nat) (x : Irq) : (s.setIrq g x).irqG g = x :=
  tget_tset_same _ _ _ _
theorem setIrq_irqG_other (s : State) (g : Nat) (x : Irq) (j : Nat) (h : j ≠ g) : (s.setIrq g x).irqG j = s.irqG j :=
  tget_tset_other _ _ _ _ _ h

@[simp] theorem setNav_now (s : State) (p : Nat) (x : SvNav) : (s.setNav p x).now = s.now := rfl
@[simp] theorem setNav_acc (s : State) (p : Nat) (x : SvNav) : (s.setNav p x).acc = s.acc := rfl
@[simp] theorem setNav_free (s : State) (p : Nat) (x : SvNav) : (s.setNav p x).free = s.free := rfl
@[simp] theorem setNav_utc (s : State) (p : Nat) (x : SvNav) : (s.setNav p x).utc = s.utc := rfl
@[simp] theorem setNav_bus (s : State) (p : Nat) (x : SvNav) : (s.setNav p x).bus = s.bus := rfl
@[simp] theorem setNav_tim (s : State) (p : Nat) (x : SvNav) : (s.setNav p x).tim = s.tim := rfl
@[simp] theorem setNav_ref (s : State) (p : Nat) (x : SvNav) : (s.setNav p x).ref = s.ref := rfl
@[simp] theorem setNav_sel (s : State) (p : Nat) (x : SvNav) : (s.setNav p x).sel = s.sel := rfl
@[simp] theorem setNav_osc (s : State) (p : Nat) (x : SvNav) : (s.setNav p x).osc = s.osc := rfl
@[simp] theorem setNav_bnd (s : State) (p : Nat) (x : SvNav) : (s.setNav p x).bnd = s.bnd := rfl
@[simp] theorem setNav_log (s : State) (p : Nat) (x : SvNav) : (s.setNav p x).log = s.log := rfl
@[simp] theorem setNav_sealing (s : State) (p : Nat) (x : SvNav) : (s.setNav p x).sealing = s.sealing := rfl
@[simp] theorem setNav_fur (s : State) (p : Nat) (x : SvNav) : (s.setNav p x).fur = s.fur := rfl
@[simp] theorem setNav_svc (s : State) (p : Nat) (x : SvNav) : (s.setNav p x).svc = s.svc := rfl
@[simp] theorem setNav_eng (s : State) (p : Nat) (x : SvNav) : (s.setNav p x).eng = s.eng := rfl
@[simp] theorem setNav_key (s : State) (p : Nat) (x : SvNav) : (s.setNav p x).key = s.key := rfl
@[simp] theorem setNav_evd (s : State) (p : Nat) (x : SvNav) : (s.setNav p x).evd = s.evd := rfl
@[simp] theorem setNav_eth (s : State) (p : Nat) (x : SvNav) : (s.setNav p x).eth = s.eth := rfl
@[simp] theorem setNav_arb (s : State) (p : Nat) (x : SvNav) : (s.setNav p x).arb = s.arb := rfl
@[simp] theorem setNav_tan (s : State) (p : Nat) (x : SvNav) : (s.setNav p x).tan = s.tan := rfl
@[simp] theorem setNav_syn (s : State) (p : Nat) (x : SvNav) : (s.setNav p x).syn = s.syn := rfl
@[simp] theorem setNav_kcp (s : State) (p : Nat) (x : SvNav) : (s.setNav p x).kcp = s.kcp := rfl
@[simp] theorem setNav_regs (s : State) (p : Nat) (x : SvNav) : (s.setNav p x).regs = s.regs := rfl
@[simp] theorem setNav_pwr (s : State) (p : Nat) (x : SvNav) : (s.setNav p x).pwr = s.pwr := rfl
@[simp] theorem setNav_tst (s : State) (p : Nat) (x : SvNav) : (s.setNav p x).tst = s.tst := rfl
@[simp] theorem setNav_pending (s : State) (p : Nat) (x : SvNav) : (s.setNav p x).pending = s.pending := rfl
@[simp] theorem setNav_nav_same (s : State) (p : Nat) (x : SvNav) : (s.setNav p x).nav p = x :=
  tget_tset_same _ _ _ _
theorem setNav_nav_other (s : State) (p : Nat) (x : SvNav) (j : Nat) (h : j ≠ p) : (s.setNav p x).nav j = s.nav j :=
  tget_tset_other _ _ _ _ _ h

@[simp] theorem setOsci_now (s : State) (i : Nat) (x : Member) : (s.setOsci i x).now = s.now := rfl
@[simp] theorem setOsci_acc (s : State) (i : Nat) (x : Member) : (s.setOsci i x).acc = s.acc := rfl
@[simp] theorem setOsci_free (s : State) (i : Nat) (x : Member) : (s.setOsci i x).free = s.free := rfl
@[simp] theorem setOsci_utc (s : State) (i : Nat) (x : Member) : (s.setOsci i x).utc = s.utc := rfl
@[simp] theorem setOsci_bus (s : State) (i : Nat) (x : Member) : (s.setOsci i x).bus = s.bus := rfl
@[simp] theorem setOsci_tim (s : State) (i : Nat) (x : Member) : (s.setOsci i x).tim = s.tim := rfl
@[simp] theorem setOsci_gnss (s : State) (i : Nat) (x : Member) : (s.setOsci i x).gnss = s.gnss := rfl
@[simp] theorem setOsci_ref (s : State) (i : Nat) (x : Member) : (s.setOsci i x).ref = s.ref := rfl
@[simp] theorem setOsci_sel (s : State) (i : Nat) (x : Member) : (s.setOsci i x).sel = s.sel := rfl
@[simp] theorem setOsci_bnd (s : State) (i : Nat) (x : Member) : (s.setOsci i x).bnd = s.bnd := rfl
@[simp] theorem setOsci_log (s : State) (i : Nat) (x : Member) : (s.setOsci i x).log = s.log := rfl
@[simp] theorem setOsci_sealing (s : State) (i : Nat) (x : Member) : (s.setOsci i x).sealing = s.sealing := rfl
@[simp] theorem setOsci_fur (s : State) (i : Nat) (x : Member) : (s.setOsci i x).fur = s.fur := rfl
@[simp] theorem setOsci_svc (s : State) (i : Nat) (x : Member) : (s.setOsci i x).svc = s.svc := rfl
@[simp] theorem setOsci_eng (s : State) (i : Nat) (x : Member) : (s.setOsci i x).eng = s.eng := rfl
@[simp] theorem setOsci_key (s : State) (i : Nat) (x : Member) : (s.setOsci i x).key = s.key := rfl
@[simp] theorem setOsci_evd (s : State) (i : Nat) (x : Member) : (s.setOsci i x).evd = s.evd := rfl
@[simp] theorem setOsci_eth (s : State) (i : Nat) (x : Member) : (s.setOsci i x).eth = s.eth := rfl
@[simp] theorem setOsci_arb (s : State) (i : Nat) (x : Member) : (s.setOsci i x).arb = s.arb := rfl
@[simp] theorem setOsci_tan (s : State) (i : Nat) (x : Member) : (s.setOsci i x).tan = s.tan := rfl
@[simp] theorem setOsci_syn (s : State) (i : Nat) (x : Member) : (s.setOsci i x).syn = s.syn := rfl
@[simp] theorem setOsci_kcp (s : State) (i : Nat) (x : Member) : (s.setOsci i x).kcp = s.kcp := rfl
@[simp] theorem setOsci_regs (s : State) (i : Nat) (x : Member) : (s.setOsci i x).regs = s.regs := rfl
@[simp] theorem setOsci_pwr (s : State) (i : Nat) (x : Member) : (s.setOsci i x).pwr = s.pwr := rfl
@[simp] theorem setOsci_tst (s : State) (i : Nat) (x : Member) : (s.setOsci i x).tst = s.tst := rfl
@[simp] theorem setOsci_pending (s : State) (i : Nat) (x : Member) : (s.setOsci i x).pending = s.pending := rfl
@[simp] theorem setOsci_osci_same (s : State) (i : Nat) (x : Member) : (s.setOsci i x).osci i = x :=
  tget_tset_same _ _ _ _
theorem setOsci_osci_other (s : State) (i : Nat) (x : Member) (j : Nat) (h : j ≠ i) : (s.setOsci i x).osci j = s.osci j :=
  tget_tset_other _ _ _ _ _ h

@[simp] theorem setOutp_now (s : State) (o : Nat) (x : OutSt) : (s.setOutp o x).now = s.now := rfl
@[simp] theorem setOutp_acc (s : State) (o : Nat) (x : OutSt) : (s.setOutp o x).acc = s.acc := rfl
@[simp] theorem setOutp_free (s : State) (o : Nat) (x : OutSt) : (s.setOutp o x).free = s.free := rfl
@[simp] theorem setOutp_utc (s : State) (o : Nat) (x : OutSt) : (s.setOutp o x).utc = s.utc := rfl
@[simp] theorem setOutp_bus (s : State) (o : Nat) (x : OutSt) : (s.setOutp o x).bus = s.bus := rfl
@[simp] theorem setOutp_tim (s : State) (o : Nat) (x : OutSt) : (s.setOutp o x).tim = s.tim := rfl
@[simp] theorem setOutp_gnss (s : State) (o : Nat) (x : OutSt) : (s.setOutp o x).gnss = s.gnss := rfl
@[simp] theorem setOutp_ref (s : State) (o : Nat) (x : OutSt) : (s.setOutp o x).ref = s.ref := rfl
@[simp] theorem setOutp_sel (s : State) (o : Nat) (x : OutSt) : (s.setOutp o x).sel = s.sel := rfl
@[simp] theorem setOutp_osc (s : State) (o : Nat) (x : OutSt) : (s.setOutp o x).osc = s.osc := rfl
@[simp] theorem setOutp_bnd (s : State) (o : Nat) (x : OutSt) : (s.setOutp o x).bnd = s.bnd := rfl
@[simp] theorem setOutp_log (s : State) (o : Nat) (x : OutSt) : (s.setOutp o x).log = s.log := rfl
@[simp] theorem setOutp_sealing (s : State) (o : Nat) (x : OutSt) : (s.setOutp o x).sealing = s.sealing := rfl
@[simp] theorem setOutp_fur (s : State) (o : Nat) (x : OutSt) : (s.setOutp o x).fur = s.fur := rfl
@[simp] theorem setOutp_svc (s : State) (o : Nat) (x : OutSt) : (s.setOutp o x).svc = s.svc := rfl
@[simp] theorem setOutp_eng (s : State) (o : Nat) (x : OutSt) : (s.setOutp o x).eng = s.eng := rfl
@[simp] theorem setOutp_key (s : State) (o : Nat) (x : OutSt) : (s.setOutp o x).key = s.key := rfl
@[simp] theorem setOutp_evd (s : State) (o : Nat) (x : OutSt) : (s.setOutp o x).evd = s.evd := rfl
@[simp] theorem setOutp_eth (s : State) (o : Nat) (x : OutSt) : (s.setOutp o x).eth = s.eth := rfl
@[simp] theorem setOutp_arb (s : State) (o : Nat) (x : OutSt) : (s.setOutp o x).arb = s.arb := rfl
@[simp] theorem setOutp_tan (s : State) (o : Nat) (x : OutSt) : (s.setOutp o x).tan = s.tan := rfl
@[simp] theorem setOutp_kcp (s : State) (o : Nat) (x : OutSt) : (s.setOutp o x).kcp = s.kcp := rfl
@[simp] theorem setOutp_regs (s : State) (o : Nat) (x : OutSt) : (s.setOutp o x).regs = s.regs := rfl
@[simp] theorem setOutp_pwr (s : State) (o : Nat) (x : OutSt) : (s.setOutp o x).pwr = s.pwr := rfl
@[simp] theorem setOutp_tst (s : State) (o : Nat) (x : OutSt) : (s.setOutp o x).tst = s.tst := rfl
@[simp] theorem setOutp_pending (s : State) (o : Nat) (x : OutSt) : (s.setOutp o x).pending = s.pending := rfl
@[simp] theorem setOutp_outp_same (s : State) (o : Nat) (x : OutSt) : (s.setOutp o x).outp o = x :=
  tget_tset_same _ _ _ _
theorem setOutp_outp_other (s : State) (o : Nat) (x : OutSt) (j : Nat) (h : j ≠ o) : (s.setOutp o x).outp j = s.outp j :=
  tget_tset_other _ _ _ _ _ h

@[simp] theorem setPaux_now (s : State) (i : Nat) (x : FurAux) : (s.setPaux i x).now = s.now := rfl
@[simp] theorem setPaux_acc (s : State) (i : Nat) (x : FurAux) : (s.setPaux i x).acc = s.acc := rfl
@[simp] theorem setPaux_free (s : State) (i : Nat) (x : FurAux) : (s.setPaux i x).free = s.free := rfl
@[simp] theorem setPaux_utc (s : State) (i : Nat) (x : FurAux) : (s.setPaux i x).utc = s.utc := rfl
@[simp] theorem setPaux_bus (s : State) (i : Nat) (x : FurAux) : (s.setPaux i x).bus = s.bus := rfl
@[simp] theorem setPaux_tim (s : State) (i : Nat) (x : FurAux) : (s.setPaux i x).tim = s.tim := rfl
@[simp] theorem setPaux_gnss (s : State) (i : Nat) (x : FurAux) : (s.setPaux i x).gnss = s.gnss := rfl
@[simp] theorem setPaux_ref (s : State) (i : Nat) (x : FurAux) : (s.setPaux i x).ref = s.ref := rfl
@[simp] theorem setPaux_sel (s : State) (i : Nat) (x : FurAux) : (s.setPaux i x).sel = s.sel := rfl
@[simp] theorem setPaux_osc (s : State) (i : Nat) (x : FurAux) : (s.setPaux i x).osc = s.osc := rfl
@[simp] theorem setPaux_bnd (s : State) (i : Nat) (x : FurAux) : (s.setPaux i x).bnd = s.bnd := rfl
@[simp] theorem setPaux_log (s : State) (i : Nat) (x : FurAux) : (s.setPaux i x).log = s.log := rfl
@[simp] theorem setPaux_sealing (s : State) (i : Nat) (x : FurAux) : (s.setPaux i x).sealing = s.sealing := rfl
@[simp] theorem setPaux_svc (s : State) (i : Nat) (x : FurAux) : (s.setPaux i x).svc = s.svc := rfl
@[simp] theorem setPaux_eng (s : State) (i : Nat) (x : FurAux) : (s.setPaux i x).eng = s.eng := rfl
@[simp] theorem setPaux_key (s : State) (i : Nat) (x : FurAux) : (s.setPaux i x).key = s.key := rfl
@[simp] theorem setPaux_evd (s : State) (i : Nat) (x : FurAux) : (s.setPaux i x).evd = s.evd := rfl
@[simp] theorem setPaux_eth (s : State) (i : Nat) (x : FurAux) : (s.setPaux i x).eth = s.eth := rfl
@[simp] theorem setPaux_arb (s : State) (i : Nat) (x : FurAux) : (s.setPaux i x).arb = s.arb := rfl
@[simp] theorem setPaux_tan (s : State) (i : Nat) (x : FurAux) : (s.setPaux i x).tan = s.tan := rfl
@[simp] theorem setPaux_syn (s : State) (i : Nat) (x : FurAux) : (s.setPaux i x).syn = s.syn := rfl
@[simp] theorem setPaux_kcp (s : State) (i : Nat) (x : FurAux) : (s.setPaux i x).kcp = s.kcp := rfl
@[simp] theorem setPaux_regs (s : State) (i : Nat) (x : FurAux) : (s.setPaux i x).regs = s.regs := rfl
@[simp] theorem setPaux_pwr (s : State) (i : Nat) (x : FurAux) : (s.setPaux i x).pwr = s.pwr := rfl
@[simp] theorem setPaux_tst (s : State) (i : Nat) (x : FurAux) : (s.setPaux i x).tst = s.tst := rfl
@[simp] theorem setPaux_pending (s : State) (i : Nat) (x : FurAux) : (s.setPaux i x).pending = s.pending := rfl
@[simp] theorem setPaux_paux_same (s : State) (i : Nat) (x : FurAux) : (s.setPaux i x).paux i = x :=
  tget_tset_same _ _ _ _
theorem setPaux_paux_other (s : State) (i : Nat) (x : FurAux) (j : Nat) (h : j ≠ i) : (s.setPaux i x).paux j = s.paux j :=
  tget_tset_other _ _ _ _ _ h

@[simp] theorem setPk_now (s : State) (p : Nat) (x : PortKeys) : (s.setPk p x).now = s.now := rfl
@[simp] theorem setPk_acc (s : State) (p : Nat) (x : PortKeys) : (s.setPk p x).acc = s.acc := rfl
@[simp] theorem setPk_free (s : State) (p : Nat) (x : PortKeys) : (s.setPk p x).free = s.free := rfl
@[simp] theorem setPk_utc (s : State) (p : Nat) (x : PortKeys) : (s.setPk p x).utc = s.utc := rfl
@[simp] theorem setPk_bus (s : State) (p : Nat) (x : PortKeys) : (s.setPk p x).bus = s.bus := rfl
@[simp] theorem setPk_tim (s : State) (p : Nat) (x : PortKeys) : (s.setPk p x).tim = s.tim := rfl
@[simp] theorem setPk_gnss (s : State) (p : Nat) (x : PortKeys) : (s.setPk p x).gnss = s.gnss := rfl
@[simp] theorem setPk_ref (s : State) (p : Nat) (x : PortKeys) : (s.setPk p x).ref = s.ref := rfl
@[simp] theorem setPk_sel (s : State) (p : Nat) (x : PortKeys) : (s.setPk p x).sel = s.sel := rfl
@[simp] theorem setPk_osc (s : State) (p : Nat) (x : PortKeys) : (s.setPk p x).osc = s.osc := rfl
@[simp] theorem setPk_bnd (s : State) (p : Nat) (x : PortKeys) : (s.setPk p x).bnd = s.bnd := rfl
@[simp] theorem setPk_log (s : State) (p : Nat) (x : PortKeys) : (s.setPk p x).log = s.log := rfl
@[simp] theorem setPk_sealing (s : State) (p : Nat) (x : PortKeys) : (s.setPk p x).sealing = s.sealing := rfl
@[simp] theorem setPk_fur (s : State) (p : Nat) (x : PortKeys) : (s.setPk p x).fur = s.fur := rfl
@[simp] theorem setPk_svc (s : State) (p : Nat) (x : PortKeys) : (s.setPk p x).svc = s.svc := rfl
@[simp] theorem setPk_eng (s : State) (p : Nat) (x : PortKeys) : (s.setPk p x).eng = s.eng := rfl
@[simp] theorem setPk_evd (s : State) (p : Nat) (x : PortKeys) : (s.setPk p x).evd = s.evd := rfl
@[simp] theorem setPk_eth (s : State) (p : Nat) (x : PortKeys) : (s.setPk p x).eth = s.eth := rfl
@[simp] theorem setPk_arb (s : State) (p : Nat) (x : PortKeys) : (s.setPk p x).arb = s.arb := rfl
@[simp] theorem setPk_tan (s : State) (p : Nat) (x : PortKeys) : (s.setPk p x).tan = s.tan := rfl
@[simp] theorem setPk_syn (s : State) (p : Nat) (x : PortKeys) : (s.setPk p x).syn = s.syn := rfl
@[simp] theorem setPk_kcp (s : State) (p : Nat) (x : PortKeys) : (s.setPk p x).kcp = s.kcp := rfl
@[simp] theorem setPk_regs (s : State) (p : Nat) (x : PortKeys) : (s.setPk p x).regs = s.regs := rfl
@[simp] theorem setPk_pwr (s : State) (p : Nat) (x : PortKeys) : (s.setPk p x).pwr = s.pwr := rfl
@[simp] theorem setPk_tst (s : State) (p : Nat) (x : PortKeys) : (s.setPk p x).tst = s.tst := rfl
@[simp] theorem setPk_pending (s : State) (p : Nat) (x : PortKeys) : (s.setPk p x).pending = s.pending := rfl
@[simp] theorem setPk_pk_same (s : State) (p : Nat) (x : PortKeys) : (s.setPk p x).pk p = x :=
  tget_tset_same _ _ _ _
theorem setPk_pk_other (s : State) (p : Nat) (x : PortKeys) (j : Nat) (h : j ≠ p) : (s.setPk p x).pk j = s.pk j :=
  tget_tset_other _ _ _ _ _ h

@[simp] theorem setPort_now (s : State) (i : Nat) (x : FurPort) : (s.setPort i x).now = s.now := rfl
@[simp] theorem setPort_acc (s : State) (i : Nat) (x : FurPort) : (s.setPort i x).acc = s.acc := rfl
@[simp] theorem setPort_free (s : State) (i : Nat) (x : FurPort) : (s.setPort i x).free = s.free := rfl
@[simp] theorem setPort_utc (s : State) (i : Nat) (x : FurPort) : (s.setPort i x).utc = s.utc := rfl
@[simp] theorem setPort_bus (s : State) (i : Nat) (x : FurPort) : (s.setPort i x).bus = s.bus := rfl
@[simp] theorem setPort_tim (s : State) (i : Nat) (x : FurPort) : (s.setPort i x).tim = s.tim := rfl
@[simp] theorem setPort_gnss (s : State) (i : Nat) (x : FurPort) : (s.setPort i x).gnss = s.gnss := rfl
@[simp] theorem setPort_ref (s : State) (i : Nat) (x : FurPort) : (s.setPort i x).ref = s.ref := rfl
@[simp] theorem setPort_sel (s : State) (i : Nat) (x : FurPort) : (s.setPort i x).sel = s.sel := rfl
@[simp] theorem setPort_osc (s : State) (i : Nat) (x : FurPort) : (s.setPort i x).osc = s.osc := rfl
@[simp] theorem setPort_bnd (s : State) (i : Nat) (x : FurPort) : (s.setPort i x).bnd = s.bnd := rfl
@[simp] theorem setPort_log (s : State) (i : Nat) (x : FurPort) : (s.setPort i x).log = s.log := rfl
@[simp] theorem setPort_sealing (s : State) (i : Nat) (x : FurPort) : (s.setPort i x).sealing = s.sealing := rfl
@[simp] theorem setPort_svc (s : State) (i : Nat) (x : FurPort) : (s.setPort i x).svc = s.svc := rfl
@[simp] theorem setPort_eng (s : State) (i : Nat) (x : FurPort) : (s.setPort i x).eng = s.eng := rfl
@[simp] theorem setPort_key (s : State) (i : Nat) (x : FurPort) : (s.setPort i x).key = s.key := rfl
@[simp] theorem setPort_evd (s : State) (i : Nat) (x : FurPort) : (s.setPort i x).evd = s.evd := rfl
@[simp] theorem setPort_eth (s : State) (i : Nat) (x : FurPort) : (s.setPort i x).eth = s.eth := rfl
@[simp] theorem setPort_arb (s : State) (i : Nat) (x : FurPort) : (s.setPort i x).arb = s.arb := rfl
@[simp] theorem setPort_tan (s : State) (i : Nat) (x : FurPort) : (s.setPort i x).tan = s.tan := rfl
@[simp] theorem setPort_syn (s : State) (i : Nat) (x : FurPort) : (s.setPort i x).syn = s.syn := rfl
@[simp] theorem setPort_kcp (s : State) (i : Nat) (x : FurPort) : (s.setPort i x).kcp = s.kcp := rfl
@[simp] theorem setPort_regs (s : State) (i : Nat) (x : FurPort) : (s.setPort i x).regs = s.regs := rfl
@[simp] theorem setPort_pwr (s : State) (i : Nat) (x : FurPort) : (s.setPort i x).pwr = s.pwr := rfl
@[simp] theorem setPort_tst (s : State) (i : Nat) (x : FurPort) : (s.setPort i x).tst = s.tst := rfl
@[simp] theorem setPort_pending (s : State) (i : Nat) (x : FurPort) : (s.setPort i x).pending = s.pending := rfl
@[simp] theorem setPort_port_same (s : State) (i : Nat) (x : FurPort) : (s.setPort i x).port i = x :=
  tget_tset_same _ _ _ _
theorem setPort_port_other (s : State) (i : Nat) (x : FurPort) (j : Nat) (h : j ≠ i) : (s.setPort i x).port j = s.port j :=
  tget_tset_other _ _ _ _ _ h

@[simp] theorem setProf_now (s : State) (p : Nat) (x : Prof) : (s.setProf p x).now = s.now := rfl
@[simp] theorem setProf_acc (s : State) (p : Nat) (x : Prof) : (s.setProf p x).acc = s.acc := rfl
@[simp] theorem setProf_free (s : State) (p : Nat) (x : Prof) : (s.setProf p x).free = s.free := rfl
@[simp] theorem setProf_utc (s : State) (p : Nat) (x : Prof) : (s.setProf p x).utc = s.utc := rfl
@[simp] theorem setProf_bus (s : State) (p : Nat) (x : Prof) : (s.setProf p x).bus = s.bus := rfl
@[simp] theorem setProf_tim (s : State) (p : Nat) (x : Prof) : (s.setProf p x).tim = s.tim := rfl
@[simp] theorem setProf_gnss (s : State) (p : Nat) (x : Prof) : (s.setProf p x).gnss = s.gnss := rfl
@[simp] theorem setProf_ref (s : State) (p : Nat) (x : Prof) : (s.setProf p x).ref = s.ref := rfl
@[simp] theorem setProf_sel (s : State) (p : Nat) (x : Prof) : (s.setProf p x).sel = s.sel := rfl
@[simp] theorem setProf_osc (s : State) (p : Nat) (x : Prof) : (s.setProf p x).osc = s.osc := rfl
@[simp] theorem setProf_bnd (s : State) (p : Nat) (x : Prof) : (s.setProf p x).bnd = s.bnd := rfl
@[simp] theorem setProf_log (s : State) (p : Nat) (x : Prof) : (s.setProf p x).log = s.log := rfl
@[simp] theorem setProf_sealing (s : State) (p : Nat) (x : Prof) : (s.setProf p x).sealing = s.sealing := rfl
@[simp] theorem setProf_fur (s : State) (p : Nat) (x : Prof) : (s.setProf p x).fur = s.fur := rfl
@[simp] theorem setProf_eng (s : State) (p : Nat) (x : Prof) : (s.setProf p x).eng = s.eng := rfl
@[simp] theorem setProf_key (s : State) (p : Nat) (x : Prof) : (s.setProf p x).key = s.key := rfl
@[simp] theorem setProf_evd (s : State) (p : Nat) (x : Prof) : (s.setProf p x).evd = s.evd := rfl
@[simp] theorem setProf_eth (s : State) (p : Nat) (x : Prof) : (s.setProf p x).eth = s.eth := rfl
@[simp] theorem setProf_arb (s : State) (p : Nat) (x : Prof) : (s.setProf p x).arb = s.arb := rfl
@[simp] theorem setProf_tan (s : State) (p : Nat) (x : Prof) : (s.setProf p x).tan = s.tan := rfl
@[simp] theorem setProf_syn (s : State) (p : Nat) (x : Prof) : (s.setProf p x).syn = s.syn := rfl
@[simp] theorem setProf_kcp (s : State) (p : Nat) (x : Prof) : (s.setProf p x).kcp = s.kcp := rfl
@[simp] theorem setProf_regs (s : State) (p : Nat) (x : Prof) : (s.setProf p x).regs = s.regs := rfl
@[simp] theorem setProf_pwr (s : State) (p : Nat) (x : Prof) : (s.setProf p x).pwr = s.pwr := rfl
@[simp] theorem setProf_tst (s : State) (p : Nat) (x : Prof) : (s.setProf p x).tst = s.tst := rfl
@[simp] theorem setProf_pending (s : State) (p : Nat) (x : Prof) : (s.setProf p x).pending = s.pending := rfl
@[simp] theorem setProf_prof_same (s : State) (p : Nat) (x : Prof) : (s.setProf p x).prof p = x :=
  tget_tset_same _ _ _ _
theorem setProf_prof_other (s : State) (p : Nat) (x : Prof) (j : Nat) (h : j ≠ p) : (s.setProf p x).prof j = s.prof j :=
  tget_tset_other _ _ _ _ _ h

@[simp] theorem setReplica_now (s : State) (i : Nat) (x : Replica) : (s.setReplica i x).now = s.now := rfl
@[simp] theorem setReplica_acc (s : State) (i : Nat) (x : Replica) : (s.setReplica i x).acc = s.acc := rfl
@[simp] theorem setReplica_free (s : State) (i : Nat) (x : Replica) : (s.setReplica i x).free = s.free := rfl
@[simp] theorem setReplica_utc (s : State) (i : Nat) (x : Replica) : (s.setReplica i x).utc = s.utc := rfl
@[simp] theorem setReplica_tim (s : State) (i : Nat) (x : Replica) : (s.setReplica i x).tim = s.tim := rfl
@[simp] theorem setReplica_gnss (s : State) (i : Nat) (x : Replica) : (s.setReplica i x).gnss = s.gnss := rfl
@[simp] theorem setReplica_ref (s : State) (i : Nat) (x : Replica) : (s.setReplica i x).ref = s.ref := rfl
@[simp] theorem setReplica_sel (s : State) (i : Nat) (x : Replica) : (s.setReplica i x).sel = s.sel := rfl
@[simp] theorem setReplica_osc (s : State) (i : Nat) (x : Replica) : (s.setReplica i x).osc = s.osc := rfl
@[simp] theorem setReplica_bnd (s : State) (i : Nat) (x : Replica) : (s.setReplica i x).bnd = s.bnd := rfl
@[simp] theorem setReplica_log (s : State) (i : Nat) (x : Replica) : (s.setReplica i x).log = s.log := rfl
@[simp] theorem setReplica_sealing (s : State) (i : Nat) (x : Replica) : (s.setReplica i x).sealing = s.sealing := rfl
@[simp] theorem setReplica_fur (s : State) (i : Nat) (x : Replica) : (s.setReplica i x).fur = s.fur := rfl
@[simp] theorem setReplica_svc (s : State) (i : Nat) (x : Replica) : (s.setReplica i x).svc = s.svc := rfl
@[simp] theorem setReplica_eng (s : State) (i : Nat) (x : Replica) : (s.setReplica i x).eng = s.eng := rfl
@[simp] theorem setReplica_key (s : State) (i : Nat) (x : Replica) : (s.setReplica i x).key = s.key := rfl
@[simp] theorem setReplica_evd (s : State) (i : Nat) (x : Replica) : (s.setReplica i x).evd = s.evd := rfl
@[simp] theorem setReplica_eth (s : State) (i : Nat) (x : Replica) : (s.setReplica i x).eth = s.eth := rfl
@[simp] theorem setReplica_arb (s : State) (i : Nat) (x : Replica) : (s.setReplica i x).arb = s.arb := rfl
@[simp] theorem setReplica_tan (s : State) (i : Nat) (x : Replica) : (s.setReplica i x).tan = s.tan := rfl
@[simp] theorem setReplica_syn (s : State) (i : Nat) (x : Replica) : (s.setReplica i x).syn = s.syn := rfl
@[simp] theorem setReplica_kcp (s : State) (i : Nat) (x : Replica) : (s.setReplica i x).kcp = s.kcp := rfl
@[simp] theorem setReplica_regs (s : State) (i : Nat) (x : Replica) : (s.setReplica i x).regs = s.regs := rfl
@[simp] theorem setReplica_pwr (s : State) (i : Nat) (x : Replica) : (s.setReplica i x).pwr = s.pwr := rfl
@[simp] theorem setReplica_tst (s : State) (i : Nat) (x : Replica) : (s.setReplica i x).tst = s.tst := rfl
@[simp] theorem setReplica_pending (s : State) (i : Nat) (x : Replica) : (s.setReplica i x).pending = s.pending := rfl
@[simp] theorem setReplica_replica_same (s : State) (i : Nat) (x : Replica) : (s.setReplica i x).replica i = x :=
  tget_tset_same _ _ _ _
theorem setReplica_replica_other (s : State) (i : Nat) (x : Replica) (j : Nat) (h : j ≠ i) : (s.setReplica i x).replica j = s.replica j :=
  tget_tset_other _ _ _ _ _ h

@[simp] theorem setRing_now (s : State) (r : Nat) (x : Ring) : (s.setRing r x).now = s.now := rfl
@[simp] theorem setRing_acc (s : State) (r : Nat) (x : Ring) : (s.setRing r x).acc = s.acc := rfl
@[simp] theorem setRing_free (s : State) (r : Nat) (x : Ring) : (s.setRing r x).free = s.free := rfl
@[simp] theorem setRing_utc (s : State) (r : Nat) (x : Ring) : (s.setRing r x).utc = s.utc := rfl
@[simp] theorem setRing_bus (s : State) (r : Nat) (x : Ring) : (s.setRing r x).bus = s.bus := rfl
@[simp] theorem setRing_tim (s : State) (r : Nat) (x : Ring) : (s.setRing r x).tim = s.tim := rfl
@[simp] theorem setRing_gnss (s : State) (r : Nat) (x : Ring) : (s.setRing r x).gnss = s.gnss := rfl
@[simp] theorem setRing_ref (s : State) (r : Nat) (x : Ring) : (s.setRing r x).ref = s.ref := rfl
@[simp] theorem setRing_sel (s : State) (r : Nat) (x : Ring) : (s.setRing r x).sel = s.sel := rfl
@[simp] theorem setRing_osc (s : State) (r : Nat) (x : Ring) : (s.setRing r x).osc = s.osc := rfl
@[simp] theorem setRing_bnd (s : State) (r : Nat) (x : Ring) : (s.setRing r x).bnd = s.bnd := rfl
@[simp] theorem setRing_log (s : State) (r : Nat) (x : Ring) : (s.setRing r x).log = s.log := rfl
@[simp] theorem setRing_sealing (s : State) (r : Nat) (x : Ring) : (s.setRing r x).sealing = s.sealing := rfl
@[simp] theorem setRing_fur (s : State) (r : Nat) (x : Ring) : (s.setRing r x).fur = s.fur := rfl
@[simp] theorem setRing_svc (s : State) (r : Nat) (x : Ring) : (s.setRing r x).svc = s.svc := rfl
@[simp] theorem setRing_eng (s : State) (r : Nat) (x : Ring) : (s.setRing r x).eng = s.eng := rfl
@[simp] theorem setRing_key (s : State) (r : Nat) (x : Ring) : (s.setRing r x).key = s.key := rfl
@[simp] theorem setRing_evd (s : State) (r : Nat) (x : Ring) : (s.setRing r x).evd = s.evd := rfl
@[simp] theorem setRing_eth (s : State) (r : Nat) (x : Ring) : (s.setRing r x).eth = s.eth := rfl
@[simp] theorem setRing_arb (s : State) (r : Nat) (x : Ring) : (s.setRing r x).arb = s.arb := rfl
@[simp] theorem setRing_tan (s : State) (r : Nat) (x : Ring) : (s.setRing r x).tan = s.tan := rfl
@[simp] theorem setRing_syn (s : State) (r : Nat) (x : Ring) : (s.setRing r x).syn = s.syn := rfl
@[simp] theorem setRing_regs (s : State) (r : Nat) (x : Ring) : (s.setRing r x).regs = s.regs := rfl
@[simp] theorem setRing_pwr (s : State) (r : Nat) (x : Ring) : (s.setRing r x).pwr = s.pwr := rfl
@[simp] theorem setRing_tst (s : State) (r : Nat) (x : Ring) : (s.setRing r x).tst = s.tst := rfl
@[simp] theorem setRing_pending (s : State) (r : Nat) (x : Ring) : (s.setRing r x).pending = s.pending := rfl
@[simp] theorem setRing_ring_same (s : State) (r : Nat) (x : Ring) : (s.setRing r x).ring r = x :=
  tget_tset_same _ _ _ _
theorem setRing_ring_other (s : State) (r : Nat) (x : Ring) (j : Nat) (h : j ≠ r) : (s.setRing r x).ring j = s.ring j :=
  tget_tset_other _ _ _ _ _ h

@[simp] theorem setSel_now (s : State) (x : SelSt) : (s.setSel x).now = s.now := rfl
@[simp] theorem setSel_acc (s : State) (x : SelSt) : (s.setSel x).acc = s.acc := rfl
@[simp] theorem setSel_free (s : State) (x : SelSt) : (s.setSel x).free = s.free := rfl
@[simp] theorem setSel_utc (s : State) (x : SelSt) : (s.setSel x).utc = s.utc := rfl
@[simp] theorem setSel_bus (s : State) (x : SelSt) : (s.setSel x).bus = s.bus := rfl
@[simp] theorem setSel_tim (s : State) (x : SelSt) : (s.setSel x).tim = s.tim := rfl
@[simp] theorem setSel_gnss (s : State) (x : SelSt) : (s.setSel x).gnss = s.gnss := rfl
@[simp] theorem setSel_ref (s : State) (x : SelSt) : (s.setSel x).ref = s.ref := rfl
@[simp] theorem setSel_osc (s : State) (x : SelSt) : (s.setSel x).osc = s.osc := rfl
@[simp] theorem setSel_bnd (s : State) (x : SelSt) : (s.setSel x).bnd = s.bnd := rfl
@[simp] theorem setSel_log (s : State) (x : SelSt) : (s.setSel x).log = s.log := rfl
@[simp] theorem setSel_sealing (s : State) (x : SelSt) : (s.setSel x).sealing = s.sealing := rfl
@[simp] theorem setSel_fur (s : State) (x : SelSt) : (s.setSel x).fur = s.fur := rfl
@[simp] theorem setSel_svc (s : State) (x : SelSt) : (s.setSel x).svc = s.svc := rfl
@[simp] theorem setSel_eng (s : State) (x : SelSt) : (s.setSel x).eng = s.eng := rfl
@[simp] theorem setSel_key (s : State) (x : SelSt) : (s.setSel x).key = s.key := rfl
@[simp] theorem setSel_evd (s : State) (x : SelSt) : (s.setSel x).evd = s.evd := rfl
@[simp] theorem setSel_eth (s : State) (x : SelSt) : (s.setSel x).eth = s.eth := rfl
@[simp] theorem setSel_arb (s : State) (x : SelSt) : (s.setSel x).arb = s.arb := rfl
@[simp] theorem setSel_tan (s : State) (x : SelSt) : (s.setSel x).tan = s.tan := rfl
@[simp] theorem setSel_syn (s : State) (x : SelSt) : (s.setSel x).syn = s.syn := rfl
@[simp] theorem setSel_kcp (s : State) (x : SelSt) : (s.setSel x).kcp = s.kcp := rfl
@[simp] theorem setSel_regs (s : State) (x : SelSt) : (s.setSel x).regs = s.regs := rfl
@[simp] theorem setSel_pwr (s : State) (x : SelSt) : (s.setSel x).pwr = s.pwr := rfl
@[simp] theorem setSel_tst (s : State) (x : SelSt) : (s.setSel x).tst = s.tst := rfl
@[simp] theorem setSel_pending (s : State) (x : SelSt) : (s.setSel x).pending = s.pending := rfl

@[simp] theorem setSlot_now (s : State) (i : Nat) (x : Slot) : (s.setSlot i x).now = s.now := rfl
@[simp] theorem setSlot_acc (s : State) (i : Nat) (x : Slot) : (s.setSlot i x).acc = s.acc := rfl
@[simp] theorem setSlot_free (s : State) (i : Nat) (x : Slot) : (s.setSlot i x).free = s.free := rfl
@[simp] theorem setSlot_utc (s : State) (i : Nat) (x : Slot) : (s.setSlot i x).utc = s.utc := rfl
@[simp] theorem setSlot_bus (s : State) (i : Nat) (x : Slot) : (s.setSlot i x).bus = s.bus := rfl
@[simp] theorem setSlot_tim (s : State) (i : Nat) (x : Slot) : (s.setSlot i x).tim = s.tim := rfl
@[simp] theorem setSlot_gnss (s : State) (i : Nat) (x : Slot) : (s.setSlot i x).gnss = s.gnss := rfl
@[simp] theorem setSlot_sel (s : State) (i : Nat) (x : Slot) : (s.setSlot i x).sel = s.sel := rfl
@[simp] theorem setSlot_osc (s : State) (i : Nat) (x : Slot) : (s.setSlot i x).osc = s.osc := rfl
@[simp] theorem setSlot_bnd (s : State) (i : Nat) (x : Slot) : (s.setSlot i x).bnd = s.bnd := rfl
@[simp] theorem setSlot_log (s : State) (i : Nat) (x : Slot) : (s.setSlot i x).log = s.log := rfl
@[simp] theorem setSlot_sealing (s : State) (i : Nat) (x : Slot) : (s.setSlot i x).sealing = s.sealing := rfl
@[simp] theorem setSlot_fur (s : State) (i : Nat) (x : Slot) : (s.setSlot i x).fur = s.fur := rfl
@[simp] theorem setSlot_svc (s : State) (i : Nat) (x : Slot) : (s.setSlot i x).svc = s.svc := rfl
@[simp] theorem setSlot_eng (s : State) (i : Nat) (x : Slot) : (s.setSlot i x).eng = s.eng := rfl
@[simp] theorem setSlot_key (s : State) (i : Nat) (x : Slot) : (s.setSlot i x).key = s.key := rfl
@[simp] theorem setSlot_evd (s : State) (i : Nat) (x : Slot) : (s.setSlot i x).evd = s.evd := rfl
@[simp] theorem setSlot_eth (s : State) (i : Nat) (x : Slot) : (s.setSlot i x).eth = s.eth := rfl
@[simp] theorem setSlot_arb (s : State) (i : Nat) (x : Slot) : (s.setSlot i x).arb = s.arb := rfl
@[simp] theorem setSlot_tan (s : State) (i : Nat) (x : Slot) : (s.setSlot i x).tan = s.tan := rfl
@[simp] theorem setSlot_syn (s : State) (i : Nat) (x : Slot) : (s.setSlot i x).syn = s.syn := rfl
@[simp] theorem setSlot_kcp (s : State) (i : Nat) (x : Slot) : (s.setSlot i x).kcp = s.kcp := rfl
@[simp] theorem setSlot_regs (s : State) (i : Nat) (x : Slot) : (s.setSlot i x).regs = s.regs := rfl
@[simp] theorem setSlot_pwr (s : State) (i : Nat) (x : Slot) : (s.setSlot i x).pwr = s.pwr := rfl
@[simp] theorem setSlot_tst (s : State) (i : Nat) (x : Slot) : (s.setSlot i x).tst = s.tst := rfl
@[simp] theorem setSlot_pending (s : State) (i : Nat) (x : Slot) : (s.setSlot i x).pending = s.pending := rfl
@[simp] theorem setSlot_slot_same (s : State) (i : Nat) (x : Slot) : (s.setSlot i x).slot i = x :=
  tget_tset_same _ _ _ _
theorem setSlot_slot_other (s : State) (i : Nat) (x : Slot) (j : Nat) (h : j ≠ i) : (s.setSlot i x).slot j = s.slot j :=
  tget_tset_other _ _ _ _ _ h

@[simp] theorem setTan_now (s : State) (x : Tan) : (s.setTan x).now = s.now := rfl
@[simp] theorem setTan_acc (s : State) (x : Tan) : (s.setTan x).acc = s.acc := rfl
@[simp] theorem setTan_free (s : State) (x : Tan) : (s.setTan x).free = s.free := rfl
@[simp] theorem setTan_utc (s : State) (x : Tan) : (s.setTan x).utc = s.utc := rfl
@[simp] theorem setTan_bus (s : State) (x : Tan) : (s.setTan x).bus = s.bus := rfl
@[simp] theorem setTan_tim (s : State) (x : Tan) : (s.setTan x).tim = s.tim := rfl
@[simp] theorem setTan_gnss (s : State) (x : Tan) : (s.setTan x).gnss = s.gnss := rfl
@[simp] theorem setTan_ref (s : State) (x : Tan) : (s.setTan x).ref = s.ref := rfl
@[simp] theorem setTan_sel (s : State) (x : Tan) : (s.setTan x).sel = s.sel := rfl
@[simp] theorem setTan_osc (s : State) (x : Tan) : (s.setTan x).osc = s.osc := rfl
@[simp] theorem setTan_bnd (s : State) (x : Tan) : (s.setTan x).bnd = s.bnd := rfl
@[simp] theorem setTan_log (s : State) (x : Tan) : (s.setTan x).log = s.log := rfl
@[simp] theorem setTan_sealing (s : State) (x : Tan) : (s.setTan x).sealing = s.sealing := rfl
@[simp] theorem setTan_fur (s : State) (x : Tan) : (s.setTan x).fur = s.fur := rfl
@[simp] theorem setTan_svc (s : State) (x : Tan) : (s.setTan x).svc = s.svc := rfl
@[simp] theorem setTan_eng (s : State) (x : Tan) : (s.setTan x).eng = s.eng := rfl
@[simp] theorem setTan_key (s : State) (x : Tan) : (s.setTan x).key = s.key := rfl
@[simp] theorem setTan_evd (s : State) (x : Tan) : (s.setTan x).evd = s.evd := rfl
@[simp] theorem setTan_eth (s : State) (x : Tan) : (s.setTan x).eth = s.eth := rfl
@[simp] theorem setTan_arb (s : State) (x : Tan) : (s.setTan x).arb = s.arb := rfl
@[simp] theorem setTan_syn (s : State) (x : Tan) : (s.setTan x).syn = s.syn := rfl
@[simp] theorem setTan_kcp (s : State) (x : Tan) : (s.setTan x).kcp = s.kcp := rfl
@[simp] theorem setTan_regs (s : State) (x : Tan) : (s.setTan x).regs = s.regs := rfl
@[simp] theorem setTan_pwr (s : State) (x : Tan) : (s.setTan x).pwr = s.pwr := rfl
@[simp] theorem setTan_tst (s : State) (x : Tan) : (s.setTan x).tst = s.tst := rfl
@[simp] theorem setTan_pending (s : State) (x : Tan) : (s.setTan x).pending = s.pending := rfl

@[simp] theorem setTb_now (s : State) (x : TimeBase) : (s.setTb x).now = s.now := rfl
@[simp] theorem setTb_acc (s : State) (x : TimeBase) : (s.setTb x).acc = s.acc := rfl
@[simp] theorem setTb_free (s : State) (x : TimeBase) : (s.setTb x).free = s.free := rfl
@[simp] theorem setTb_utc (s : State) (x : TimeBase) : (s.setTb x).utc = s.utc := rfl
@[simp] theorem setTb_bus (s : State) (x : TimeBase) : (s.setTb x).bus = s.bus := rfl
@[simp] theorem setTb_gnss (s : State) (x : TimeBase) : (s.setTb x).gnss = s.gnss := rfl
@[simp] theorem setTb_ref (s : State) (x : TimeBase) : (s.setTb x).ref = s.ref := rfl
@[simp] theorem setTb_sel (s : State) (x : TimeBase) : (s.setTb x).sel = s.sel := rfl
@[simp] theorem setTb_osc (s : State) (x : TimeBase) : (s.setTb x).osc = s.osc := rfl
@[simp] theorem setTb_bnd (s : State) (x : TimeBase) : (s.setTb x).bnd = s.bnd := rfl
@[simp] theorem setTb_log (s : State) (x : TimeBase) : (s.setTb x).log = s.log := rfl
@[simp] theorem setTb_sealing (s : State) (x : TimeBase) : (s.setTb x).sealing = s.sealing := rfl
@[simp] theorem setTb_fur (s : State) (x : TimeBase) : (s.setTb x).fur = s.fur := rfl
@[simp] theorem setTb_svc (s : State) (x : TimeBase) : (s.setTb x).svc = s.svc := rfl
@[simp] theorem setTb_eng (s : State) (x : TimeBase) : (s.setTb x).eng = s.eng := rfl
@[simp] theorem setTb_key (s : State) (x : TimeBase) : (s.setTb x).key = s.key := rfl
@[simp] theorem setTb_evd (s : State) (x : TimeBase) : (s.setTb x).evd = s.evd := rfl
@[simp] theorem setTb_eth (s : State) (x : TimeBase) : (s.setTb x).eth = s.eth := rfl
@[simp] theorem setTb_arb (s : State) (x : TimeBase) : (s.setTb x).arb = s.arb := rfl
@[simp] theorem setTb_tan (s : State) (x : TimeBase) : (s.setTb x).tan = s.tan := rfl
@[simp] theorem setTb_syn (s : State) (x : TimeBase) : (s.setTb x).syn = s.syn := rfl
@[simp] theorem setTb_kcp (s : State) (x : TimeBase) : (s.setTb x).kcp = s.kcp := rfl
@[simp] theorem setTb_regs (s : State) (x : TimeBase) : (s.setTb x).regs = s.regs := rfl
@[simp] theorem setTb_pwr (s : State) (x : TimeBase) : (s.setTb x).pwr = s.pwr := rfl
@[simp] theorem setTb_tst (s : State) (x : TimeBase) : (s.setTb x).tst = s.tst := rfl
@[simp] theorem setTb_pending (s : State) (x : TimeBase) : (s.setTb x).pending = s.pending := rfl

@[simp] theorem setTenant_now (s : State) (t : Nat) (x : KeySlot) : (s.setTenant t x).now = s.now := rfl
@[simp] theorem setTenant_acc (s : State) (t : Nat) (x : KeySlot) : (s.setTenant t x).acc = s.acc := rfl
@[simp] theorem setTenant_free (s : State) (t : Nat) (x : KeySlot) : (s.setTenant t x).free = s.free := rfl
@[simp] theorem setTenant_utc (s : State) (t : Nat) (x : KeySlot) : (s.setTenant t x).utc = s.utc := rfl
@[simp] theorem setTenant_bus (s : State) (t : Nat) (x : KeySlot) : (s.setTenant t x).bus = s.bus := rfl
@[simp] theorem setTenant_tim (s : State) (t : Nat) (x : KeySlot) : (s.setTenant t x).tim = s.tim := rfl
@[simp] theorem setTenant_gnss (s : State) (t : Nat) (x : KeySlot) : (s.setTenant t x).gnss = s.gnss := rfl
@[simp] theorem setTenant_ref (s : State) (t : Nat) (x : KeySlot) : (s.setTenant t x).ref = s.ref := rfl
@[simp] theorem setTenant_sel (s : State) (t : Nat) (x : KeySlot) : (s.setTenant t x).sel = s.sel := rfl
@[simp] theorem setTenant_osc (s : State) (t : Nat) (x : KeySlot) : (s.setTenant t x).osc = s.osc := rfl
@[simp] theorem setTenant_bnd (s : State) (t : Nat) (x : KeySlot) : (s.setTenant t x).bnd = s.bnd := rfl
@[simp] theorem setTenant_log (s : State) (t : Nat) (x : KeySlot) : (s.setTenant t x).log = s.log := rfl
@[simp] theorem setTenant_sealing (s : State) (t : Nat) (x : KeySlot) : (s.setTenant t x).sealing = s.sealing := rfl
@[simp] theorem setTenant_fur (s : State) (t : Nat) (x : KeySlot) : (s.setTenant t x).fur = s.fur := rfl
@[simp] theorem setTenant_svc (s : State) (t : Nat) (x : KeySlot) : (s.setTenant t x).svc = s.svc := rfl
@[simp] theorem setTenant_eng (s : State) (t : Nat) (x : KeySlot) : (s.setTenant t x).eng = s.eng := rfl
@[simp] theorem setTenant_evd (s : State) (t : Nat) (x : KeySlot) : (s.setTenant t x).evd = s.evd := rfl
@[simp] theorem setTenant_eth (s : State) (t : Nat) (x : KeySlot) : (s.setTenant t x).eth = s.eth := rfl
@[simp] theorem setTenant_arb (s : State) (t : Nat) (x : KeySlot) : (s.setTenant t x).arb = s.arb := rfl
@[simp] theorem setTenant_tan (s : State) (t : Nat) (x : KeySlot) : (s.setTenant t x).tan = s.tan := rfl
@[simp] theorem setTenant_syn (s : State) (t : Nat) (x : KeySlot) : (s.setTenant t x).syn = s.syn := rfl
@[simp] theorem setTenant_kcp (s : State) (t : Nat) (x : KeySlot) : (s.setTenant t x).kcp = s.kcp := rfl
@[simp] theorem setTenant_regs (s : State) (t : Nat) (x : KeySlot) : (s.setTenant t x).regs = s.regs := rfl
@[simp] theorem setTenant_pwr (s : State) (t : Nat) (x : KeySlot) : (s.setTenant t x).pwr = s.pwr := rfl
@[simp] theorem setTenant_tst (s : State) (t : Nat) (x : KeySlot) : (s.setTenant t x).tst = s.tst := rfl
@[simp] theorem setTenant_pending (s : State) (t : Nat) (x : KeySlot) : (s.setTenant t x).pending = s.pending := rfl
@[simp] theorem setTenant_tenant_same (s : State) (t : Nat) (x : KeySlot) : (s.setTenant t x).tenant t = x :=
  tget_tset_same _ _ _ _
theorem setTenant_tenant_other (s : State) (t : Nat) (x : KeySlot) (j : Nat) (h : j ≠ t) : (s.setTenant t x).tenant j = s.tenant j :=
  tget_tset_other _ _ _ _ _ h

@[simp] theorem setThread_now (s : State) (n : Nat) (x : Thread) : (s.setThread n x).now = s.now := rfl
@[simp] theorem setThread_acc (s : State) (n : Nat) (x : Thread) : (s.setThread n x).acc = s.acc := rfl
@[simp] theorem setThread_free (s : State) (n : Nat) (x : Thread) : (s.setThread n x).free = s.free := rfl
@[simp] theorem setThread_utc (s : State) (n : Nat) (x : Thread) : (s.setThread n x).utc = s.utc := rfl
@[simp] theorem setThread_bus (s : State) (n : Nat) (x : Thread) : (s.setThread n x).bus = s.bus := rfl
@[simp] theorem setThread_tim (s : State) (n : Nat) (x : Thread) : (s.setThread n x).tim = s.tim := rfl
@[simp] theorem setThread_gnss (s : State) (n : Nat) (x : Thread) : (s.setThread n x).gnss = s.gnss := rfl
@[simp] theorem setThread_ref (s : State) (n : Nat) (x : Thread) : (s.setThread n x).ref = s.ref := rfl
@[simp] theorem setThread_sel (s : State) (n : Nat) (x : Thread) : (s.setThread n x).sel = s.sel := rfl
@[simp] theorem setThread_osc (s : State) (n : Nat) (x : Thread) : (s.setThread n x).osc = s.osc := rfl
@[simp] theorem setThread_bnd (s : State) (n : Nat) (x : Thread) : (s.setThread n x).bnd = s.bnd := rfl
@[simp] theorem setThread_log (s : State) (n : Nat) (x : Thread) : (s.setThread n x).log = s.log := rfl
@[simp] theorem setThread_sealing (s : State) (n : Nat) (x : Thread) : (s.setThread n x).sealing = s.sealing := rfl
@[simp] theorem setThread_fur (s : State) (n : Nat) (x : Thread) : (s.setThread n x).fur = s.fur := rfl
@[simp] theorem setThread_svc (s : State) (n : Nat) (x : Thread) : (s.setThread n x).svc = s.svc := rfl
@[simp] theorem setThread_key (s : State) (n : Nat) (x : Thread) : (s.setThread n x).key = s.key := rfl
@[simp] theorem setThread_evd (s : State) (n : Nat) (x : Thread) : (s.setThread n x).evd = s.evd := rfl
@[simp] theorem setThread_eth (s : State) (n : Nat) (x : Thread) : (s.setThread n x).eth = s.eth := rfl
@[simp] theorem setThread_arb (s : State) (n : Nat) (x : Thread) : (s.setThread n x).arb = s.arb := rfl
@[simp] theorem setThread_tan (s : State) (n : Nat) (x : Thread) : (s.setThread n x).tan = s.tan := rfl
@[simp] theorem setThread_syn (s : State) (n : Nat) (x : Thread) : (s.setThread n x).syn = s.syn := rfl
@[simp] theorem setThread_kcp (s : State) (n : Nat) (x : Thread) : (s.setThread n x).kcp = s.kcp := rfl
@[simp] theorem setThread_regs (s : State) (n : Nat) (x : Thread) : (s.setThread n x).regs = s.regs := rfl
@[simp] theorem setThread_pwr (s : State) (n : Nat) (x : Thread) : (s.setThread n x).pwr = s.pwr := rfl
@[simp] theorem setThread_tst (s : State) (n : Nat) (x : Thread) : (s.setThread n x).tst = s.tst := rfl
@[simp] theorem setThread_pending (s : State) (n : Nat) (x : Thread) : (s.setThread n x).pending = s.pending := rfl

@[simp] theorem setUpD_now (s : State) (u : Nat) (x : Up) : (s.setUpD u x).now = s.now := rfl
@[simp] theorem setUpD_acc (s : State) (u : Nat) (x : Up) : (s.setUpD u x).acc = s.acc := rfl
@[simp] theorem setUpD_free (s : State) (u : Nat) (x : Up) : (s.setUpD u x).free = s.free := rfl
@[simp] theorem setUpD_utc (s : State) (u : Nat) (x : Up) : (s.setUpD u x).utc = s.utc := rfl
@[simp] theorem setUpD_bus (s : State) (u : Nat) (x : Up) : (s.setUpD u x).bus = s.bus := rfl
@[simp] theorem setUpD_tim (s : State) (u : Nat) (x : Up) : (s.setUpD u x).tim = s.tim := rfl
@[simp] theorem setUpD_gnss (s : State) (u : Nat) (x : Up) : (s.setUpD u x).gnss = s.gnss := rfl
@[simp] theorem setUpD_ref (s : State) (u : Nat) (x : Up) : (s.setUpD u x).ref = s.ref := rfl
@[simp] theorem setUpD_sel (s : State) (u : Nat) (x : Up) : (s.setUpD u x).sel = s.sel := rfl
@[simp] theorem setUpD_osc (s : State) (u : Nat) (x : Up) : (s.setUpD u x).osc = s.osc := rfl
@[simp] theorem setUpD_bnd (s : State) (u : Nat) (x : Up) : (s.setUpD u x).bnd = s.bnd := rfl
@[simp] theorem setUpD_log (s : State) (u : Nat) (x : Up) : (s.setUpD u x).log = s.log := rfl
@[simp] theorem setUpD_sealing (s : State) (u : Nat) (x : Up) : (s.setUpD u x).sealing = s.sealing := rfl
@[simp] theorem setUpD_fur (s : State) (u : Nat) (x : Up) : (s.setUpD u x).fur = s.fur := rfl
@[simp] theorem setUpD_eng (s : State) (u : Nat) (x : Up) : (s.setUpD u x).eng = s.eng := rfl
@[simp] theorem setUpD_key (s : State) (u : Nat) (x : Up) : (s.setUpD u x).key = s.key := rfl
@[simp] theorem setUpD_evd (s : State) (u : Nat) (x : Up) : (s.setUpD u x).evd = s.evd := rfl
@[simp] theorem setUpD_eth (s : State) (u : Nat) (x : Up) : (s.setUpD u x).eth = s.eth := rfl
@[simp] theorem setUpD_arb (s : State) (u : Nat) (x : Up) : (s.setUpD u x).arb = s.arb := rfl
@[simp] theorem setUpD_tan (s : State) (u : Nat) (x : Up) : (s.setUpD u x).tan = s.tan := rfl
@[simp] theorem setUpD_syn (s : State) (u : Nat) (x : Up) : (s.setUpD u x).syn = s.syn := rfl
@[simp] theorem setUpD_kcp (s : State) (u : Nat) (x : Up) : (s.setUpD u x).kcp = s.kcp := rfl
@[simp] theorem setUpD_regs (s : State) (u : Nat) (x : Up) : (s.setUpD u x).regs = s.regs := rfl
@[simp] theorem setUpD_pwr (s : State) (u : Nat) (x : Up) : (s.setUpD u x).pwr = s.pwr := rfl
@[simp] theorem setUpD_tst (s : State) (u : Nat) (x : Up) : (s.setUpD u x).tst = s.tst := rfl
@[simp] theorem setUpD_pending (s : State) (u : Nat) (x : Up) : (s.setUpD u x).pending = s.pending := rfl
@[simp] theorem setUpD_upD_same (s : State) (u : Nat) (x : Up) : (s.setUpD u x).upD u = x :=
  tget_tset_same _ _ _ _
theorem setUpD_upD_other (s : State) (u : Nat) (x : Up) (j : Nat) (h : j ≠ u) : (s.setUpD u x).upD j = s.upD j :=
  tget_tset_other _ _ _ _ _ h

@[simp] theorem setVec_now (s : State) (v : Nat) (x : Msix) : (s.setVec v x).now = s.now := rfl
@[simp] theorem setVec_acc (s : State) (v : Nat) (x : Msix) : (s.setVec v x).acc = s.acc := rfl
@[simp] theorem setVec_free (s : State) (v : Nat) (x : Msix) : (s.setVec v x).free = s.free := rfl
@[simp] theorem setVec_utc (s : State) (v : Nat) (x : Msix) : (s.setVec v x).utc = s.utc := rfl
@[simp] theorem setVec_bus (s : State) (v : Nat) (x : Msix) : (s.setVec v x).bus = s.bus := rfl
@[simp] theorem setVec_tim (s : State) (v : Nat) (x : Msix) : (s.setVec v x).tim = s.tim := rfl
@[simp] theorem setVec_gnss (s : State) (v : Nat) (x : Msix) : (s.setVec v x).gnss = s.gnss := rfl
@[simp] theorem setVec_ref (s : State) (v : Nat) (x : Msix) : (s.setVec v x).ref = s.ref := rfl
@[simp] theorem setVec_sel (s : State) (v : Nat) (x : Msix) : (s.setVec v x).sel = s.sel := rfl
@[simp] theorem setVec_osc (s : State) (v : Nat) (x : Msix) : (s.setVec v x).osc = s.osc := rfl
@[simp] theorem setVec_bnd (s : State) (v : Nat) (x : Msix) : (s.setVec v x).bnd = s.bnd := rfl
@[simp] theorem setVec_log (s : State) (v : Nat) (x : Msix) : (s.setVec v x).log = s.log := rfl
@[simp] theorem setVec_sealing (s : State) (v : Nat) (x : Msix) : (s.setVec v x).sealing = s.sealing := rfl
@[simp] theorem setVec_fur (s : State) (v : Nat) (x : Msix) : (s.setVec v x).fur = s.fur := rfl
@[simp] theorem setVec_svc (s : State) (v : Nat) (x : Msix) : (s.setVec v x).svc = s.svc := rfl
@[simp] theorem setVec_eng (s : State) (v : Nat) (x : Msix) : (s.setVec v x).eng = s.eng := rfl
@[simp] theorem setVec_key (s : State) (v : Nat) (x : Msix) : (s.setVec v x).key = s.key := rfl
@[simp] theorem setVec_evd (s : State) (v : Nat) (x : Msix) : (s.setVec v x).evd = s.evd := rfl
@[simp] theorem setVec_eth (s : State) (v : Nat) (x : Msix) : (s.setVec v x).eth = s.eth := rfl
@[simp] theorem setVec_arb (s : State) (v : Nat) (x : Msix) : (s.setVec v x).arb = s.arb := rfl
@[simp] theorem setVec_tan (s : State) (v : Nat) (x : Msix) : (s.setVec v x).tan = s.tan := rfl
@[simp] theorem setVec_syn (s : State) (v : Nat) (x : Msix) : (s.setVec v x).syn = s.syn := rfl
@[simp] theorem setVec_kcp (s : State) (v : Nat) (x : Msix) : (s.setVec v x).kcp = s.kcp := rfl
@[simp] theorem setVec_pwr (s : State) (v : Nat) (x : Msix) : (s.setVec v x).pwr = s.pwr := rfl
@[simp] theorem setVec_tst (s : State) (v : Nat) (x : Msix) : (s.setVec v x).tst = s.tst := rfl
@[simp] theorem setVec_pending (s : State) (v : Nat) (x : Msix) : (s.setVec v x).pending = s.pending := rfl
@[simp] theorem setVec_vec_same (s : State) (v : Nat) (x : Msix) : (s.setVec v x).vec v = x :=
  tget_tset_same _ _ _ _
theorem setVec_vec_other (s : State) (v : Nat) (x : Msix) (j : Nat) (h : j ≠ v) : (s.setVec v x).vec j = s.vec j :=
  tget_tset_other _ _ _ _ _ h

end Sys2Proof.Machine
end

