-- ==== Sys2Proof/Laws/Within.lean ====
section
/-! SUPPORT. Which parts of the state an operation may change: the rules by which `Within` composes. For a function of the
model they are applied along its body: a choice by `Within.ite`, a fold by `Within.foldl`, an update by the part it writes, an
operation by its own lemma and `Within.op`. -/

namespace Sys2Proof.Machine
open Sys2Proof

/-- Nothing differs. -/
theorem Within.refl (ps : List Part) (s : State) : Within ps s s := ⟨rfl, rfl, fun p _ => by cases p <;> rfl⟩

/-- Two changes one after the other, each within the same parts. -/
theorem Within.trans {ps : List Part} {a b c : State} (h : Within ps a b) (k : Within ps b c) : Within ps a c := by
  refine ⟨k.1.trans h.1, k.2.1.trans h.2.1, fun p hp => ?_⟩
  have h1 := h.2.2 p hp
  have h2 := k.2.2 p hp
  cases p <;> exact Eq.trans h1 h2

/-- A change within some parts is within more. -/
theorem Within.mono {ps qs : List Part} {s t : State} (h : Within qs s t) (hs : qs ⊆ ps) : Within ps s t :=
  ⟨h.1, h.2.1, fun p hp => h.2.2 p (fun hq => hp (hs hq))⟩

/-- Parts that are all among others. -/
def covers (ps qs : List Part) : Bool := qs.all (fun p => ps.contains p)

/-- A last change, by an operation that keeps within parts that may differ. -/
theorem Within.op {ps qs : List Part} {a b c : State} (k : Within qs b c) (hs : covers ps qs = true) (h : Within ps a b)
    :
    Within ps a c := by
  refine h.trans (k.mono (fun p hp => ?_))
  simp only [covers, List.all_eq_true, List.contains_iff_mem] at hs
  exact hs p hp

/-- A choice between two changes. -/
theorem Within.ite {ps : List Part} {c : Prop} [Decidable c] {s a b : State} (h : Within ps s a) (k : Within ps s b) :
    Within ps s (if c then a else b) := by split <;> assumption

/-- A choice between two answers. -/
theorem Within.iteSt {ps : List Part} {c : Prop} [Decidable c] {s : State} {a b : Res} (h : Within ps s a.st)
    (k : Within ps s b.st) : Within ps s (if c then a else b).st := by split <;> assumption

/-- A choice between two changes that hand on a value. -/
theorem Within.iteSnd {α : Type} {ps : List Part} {c : Prop} [Decidable c] {s : State} {a b : α × State}
    (h : Within ps s a.2) (k : Within ps s b.2) : Within ps s (if c then a else b).2 := by split <;> assumption

/-- A change for each element of a list, after another. -/
theorem Within.foldl {α : Type} {ps : List Part} {f : State → α → State} {s b : State} (h : ∀ t a, Within ps t (f t a))
    (l : List α) (k : Within ps s b) : Within ps s (l.foldl f b) := by
  induction l generalizing b with
  | nil => exact k
  | cons a l ih => exact ih (k.trans (h b a))

/-- The same where the changes hand on a value beside the state. -/
theorem Within.foldlSnd {α β : Type} {ps : List Part} {f : β × State → α → β × State} {s : State} {b : β × State}
    (h : ∀ t a, Within ps t.2 (f t a).2) (l : List α) (k : Within ps s b.2) : Within ps s (l.foldl f b).2 := by
  induction l generalizing b with
  | nil => exact k
  | cons a l ih => exact ih (k.trans (h b a))

/-- A record update: each part is one that may differ, or is as it was. -/
theorem Within.lit {ps : List Part} {s t : State}
    {acc_ : FieldTime} {free_ : Nat} {utc_ : Utc} {bus_ : Bus} {tim_ : Tim} {gnss_ : Gnss} {ref_ : Ref} {sel_ : Sel}
    {osc_ : Osc} {bnd_ : Bnd} {log_ : EventLog} {sealing_ : Seal} {fur_ : Fur} {svc_ : Svc} {eng_ : Eng} {key_ : Key}
    {evd_ : Evd} {eth_ : Tbl Eth} {arb_ : Arb} {tan_ : Tan} {syn_ : Syn} {kcp_ : Kcp} {regs_ : Regs} {pwr_ : Pwr}
    {tst_ : Tst}
    (h : Within ps s t)
    (h0 : .acc ∈ ps ∨ acc_ = t.acc := by exact .inr rfl) (h1 : .free ∈ ps ∨ free_ = t.free := by exact .inr rfl)
    (h2 : .utc ∈ ps ∨ utc_ = t.utc := by exact .inr rfl) (h3 : .bus ∈ ps ∨ bus_ = t.bus := by exact .inr rfl)
    (h4 : .tim ∈ ps ∨ tim_ = t.tim := by exact .inr rfl) (h5 : .gnss ∈ ps ∨ gnss_ = t.gnss := by exact .inr rfl)
    (h6 : .ref ∈ ps ∨ ref_ = t.ref := by exact .inr rfl) (h7 : .sel ∈ ps ∨ sel_ = t.sel := by exact .inr rfl)
    (h8 : .osc ∈ ps ∨ osc_ = t.osc := by exact .inr rfl) (h9 : .bnd ∈ ps ∨ bnd_ = t.bnd := by exact .inr rfl)
    (h10 : .log ∈ ps ∨ log_ = t.log := by exact .inr rfl)
    (h11 : .sealing ∈ ps ∨ sealing_ = t.sealing := by exact .inr rfl)
    (h12 : .fur ∈ ps ∨ fur_ = t.fur := by exact .inr rfl) (h13 : .svc ∈ ps ∨ svc_ = t.svc := by exact .inr rfl)
    (h14 : .eng ∈ ps ∨ eng_ = t.eng := by exact .inr rfl) (h15 : .key ∈ ps ∨ key_ = t.key := by exact .inr rfl)
    (h16 : .evd ∈ ps ∨ evd_ = t.evd := by exact .inr rfl) (h17 : .eth ∈ ps ∨ eth_ = t.eth := by exact .inr rfl)
    (h18 : .arb ∈ ps ∨ arb_ = t.arb := by exact .inr rfl) (h19 : .tan ∈ ps ∨ tan_ = t.tan := by exact .inr rfl)
    (h20 : .syn ∈ ps ∨ syn_ = t.syn := by exact .inr rfl) (h21 : .kcp ∈ ps ∨ kcp_ = t.kcp := by exact .inr rfl)
    (h22 : .regs ∈ ps ∨ regs_ = t.regs := by exact .inr rfl) (h23 : .pwr ∈ ps ∨ pwr_ = t.pwr := by exact .inr rfl)
    (h24 : .tst ∈ ps ∨ tst_ = t.tst := by exact .inr rfl) :
    Within ps s ⟨t.now,
      acc_, free_, utc_, bus_, tim_, gnss_, ref_, sel_, osc_, bnd_, log_, sealing_, fur_, svc_, eng_, key_, evd_,
      eth_, arb_, tan_, syn_, kcp_, regs_, pwr_, tst_, t.pending⟩ := by
  refine ⟨h.1, h.2.1, fun p hp => ?_⟩
  have k := h.2.2 p hp
  cases p <;> simp only [Part.same] at k ⊢ <;> simp_all only [false_or]

/-! An update of one part. -/

theorem Within.acc {ps : List Part} {s t : State} {x : FieldTime} (hp : .acc ∈ ps) (h : Within ps s t) :
    Within ps s { t with acc := x } :=
  h.trans ⟨rfl, rfl, fun p hq => by cases p <;> first | exact absurd hp hq | rfl⟩
theorem Within.free {ps : List Part} {s t : State} {x : Nat} (hp : .free ∈ ps) (h : Within ps s t) :
    Within ps s { t with free := x } :=
  h.trans ⟨rfl, rfl, fun p hq => by cases p <;> first | exact absurd hp hq | rfl⟩
theorem Within.utc {ps : List Part} {s t : State} {x : Utc} (hp : .utc ∈ ps) (h : Within ps s t) :
    Within ps s { t with utc := x } :=
  h.trans ⟨rfl, rfl, fun p hq => by cases p <;> first | exact absurd hp hq | rfl⟩
theorem Within.bus {ps : List Part} {s t : State} {x : Bus} (hp : .bus ∈ ps) (h : Within ps s t) :
    Within ps s { t with bus := x } :=
  h.trans ⟨rfl, rfl, fun p hq => by cases p <;> first | exact absurd hp hq | rfl⟩
theorem Within.tim {ps : List Part} {s t : State} {x : Tim} (hp : .tim ∈ ps) (h : Within ps s t) :
    Within ps s { t with tim := x } :=
  h.trans ⟨rfl, rfl, fun p hq => by cases p <;> first | exact absurd hp hq | rfl⟩
theorem Within.gnss {ps : List Part} {s t : State} {x : Gnss} (hp : .gnss ∈ ps) (h : Within ps s t) :
    Within ps s { t with gnss := x } :=
  h.trans ⟨rfl, rfl, fun p hq => by cases p <;> first | exact absurd hp hq | rfl⟩
theorem Within.ref {ps : List Part} {s t : State} {x : Ref} (hp : .ref ∈ ps) (h : Within ps s t) :
    Within ps s { t with ref := x } :=
  h.trans ⟨rfl, rfl, fun p hq => by cases p <;> first | exact absurd hp hq | rfl⟩
theorem Within.sel {ps : List Part} {s t : State} {x : Sel} (hp : .sel ∈ ps) (h : Within ps s t) :
    Within ps s { t with sel := x } :=
  h.trans ⟨rfl, rfl, fun p hq => by cases p <;> first | exact absurd hp hq | rfl⟩
theorem Within.osc {ps : List Part} {s t : State} {x : Osc} (hp : .osc ∈ ps) (h : Within ps s t) :
    Within ps s { t with osc := x } :=
  h.trans ⟨rfl, rfl, fun p hq => by cases p <;> first | exact absurd hp hq | rfl⟩
theorem Within.bnd {ps : List Part} {s t : State} {x : Bnd} (hp : .bnd ∈ ps) (h : Within ps s t) :
    Within ps s { t with bnd := x } :=
  h.trans ⟨rfl, rfl, fun p hq => by cases p <;> first | exact absurd hp hq | rfl⟩
theorem Within.log {ps : List Part} {s t : State} {x : EventLog} (hp : .log ∈ ps) (h : Within ps s t) :
    Within ps s { t with log := x } :=
  h.trans ⟨rfl, rfl, fun p hq => by cases p <;> first | exact absurd hp hq | rfl⟩
theorem Within.sealing {ps : List Part} {s t : State} {x : Seal} (hp : .sealing ∈ ps) (h : Within ps s t) :
    Within ps s { t with sealing := x } :=
  h.trans ⟨rfl, rfl, fun p hq => by cases p <;> first | exact absurd hp hq | rfl⟩
theorem Within.fur {ps : List Part} {s t : State} {x : Fur} (hp : .fur ∈ ps) (h : Within ps s t) :
    Within ps s { t with fur := x } :=
  h.trans ⟨rfl, rfl, fun p hq => by cases p <;> first | exact absurd hp hq | rfl⟩
theorem Within.svc {ps : List Part} {s t : State} {x : Svc} (hp : .svc ∈ ps) (h : Within ps s t) :
    Within ps s { t with svc := x } :=
  h.trans ⟨rfl, rfl, fun p hq => by cases p <;> first | exact absurd hp hq | rfl⟩
theorem Within.eng {ps : List Part} {s t : State} {x : Eng} (hp : .eng ∈ ps) (h : Within ps s t) :
    Within ps s { t with eng := x } :=
  h.trans ⟨rfl, rfl, fun p hq => by cases p <;> first | exact absurd hp hq | rfl⟩
theorem Within.key {ps : List Part} {s t : State} {x : Key} (hp : .key ∈ ps) (h : Within ps s t) :
    Within ps s { t with key := x } :=
  h.trans ⟨rfl, rfl, fun p hq => by cases p <;> first | exact absurd hp hq | rfl⟩
theorem Within.evd {ps : List Part} {s t : State} {x : Evd} (hp : .evd ∈ ps) (h : Within ps s t) :
    Within ps s { t with evd := x } :=
  h.trans ⟨rfl, rfl, fun p hq => by cases p <;> first | exact absurd hp hq | rfl⟩
theorem Within.eth {ps : List Part} {s t : State} {x : Tbl Eth} (hp : .eth ∈ ps) (h : Within ps s t) :
    Within ps s { t with eth := x } :=
  h.trans ⟨rfl, rfl, fun p hq => by cases p <;> first | exact absurd hp hq | rfl⟩
theorem Within.arb {ps : List Part} {s t : State} {x : Arb} (hp : .arb ∈ ps) (h : Within ps s t) :
    Within ps s { t with arb := x } :=
  h.trans ⟨rfl, rfl, fun p hq => by cases p <;> first | exact absurd hp hq | rfl⟩
theorem Within.tan {ps : List Part} {s t : State} {x : Tan} (hp : .tan ∈ ps) (h : Within ps s t) :
    Within ps s { t with tan := x } :=
  h.trans ⟨rfl, rfl, fun p hq => by cases p <;> first | exact absurd hp hq | rfl⟩
theorem Within.syn {ps : List Part} {s t : State} {x : Syn} (hp : .syn ∈ ps) (h : Within ps s t) :
    Within ps s { t with syn := x } :=
  h.trans ⟨rfl, rfl, fun p hq => by cases p <;> first | exact absurd hp hq | rfl⟩
theorem Within.kcp {ps : List Part} {s t : State} {x : Kcp} (hp : .kcp ∈ ps) (h : Within ps s t) :
    Within ps s { t with kcp := x } :=
  h.trans ⟨rfl, rfl, fun p hq => by cases p <;> first | exact absurd hp hq | rfl⟩
theorem Within.regs {ps : List Part} {s t : State} {x : Regs} (hp : .regs ∈ ps) (h : Within ps s t) :
    Within ps s { t with regs := x } :=
  h.trans ⟨rfl, rfl, fun p hq => by cases p <;> first | exact absurd hp hq | rfl⟩
theorem Within.pwr {ps : List Part} {s t : State} {x : Pwr} (hp : .pwr ∈ ps) (h : Within ps s t) :
    Within ps s { t with pwr := x } :=
  h.trans ⟨rfl, rfl, fun p hq => by cases p <;> first | exact absurd hp hq | rfl⟩
theorem Within.tst {ps : List Part} {s t : State} {x : Tst} (hp : .tst ∈ ps) (h : Within ps s t) :
    Within ps s { t with tst := x } :=
  h.trans ⟨rfl, rfl, fun p hq => by cases p <;> first | exact absurd hp hq | rfl⟩

/-- What the host does to a ring's registers (R473). -/
theorem hostAccess_within {ps : List Part} {f : State → State} {a s : State} (k : Within ps a s) (h : ∀ t, Within ps t
    (f t)) :
    Within ps a (hostAccess f s) := by
  unfold hostAccess
  split
  · exact k.trans (h s)
  · exact k

/-- A body behind the checks of its payload (R489). -/
theorem checked_within {ps : List Part} {a s : State} {cs : List (Nat × Bool)} {k : Res} (h : Within ps a s)
    (hk : Within ps a k.st) : Within ps a (checked s cs k).st := by
  unfold checked
  split
  · exact h
  · exact hk

end Sys2Proof.Machine
end

