-- ==== Sys2Proof/Laws/WithinCore.lean ====
section
/-! SUPPORT. The parts of the state that an operation may change, one lemma for each operation: the operations that every chapter shares. -/

-- One theorem after another: elaborated side by side, their proofs wait on one another in dozens of threads.
set_option Elab.async false

namespace Sys2Proof.Machine
open Sys2Proof

theorem State.setIrq_within (s : State) (g : Nat) (x : Irq) :
    Within [.regs] s (State.setIrq s g x) := by
  unfold State.setIrq
  refine Within.regs (by decide) ?_
  exact Within.refl _ _

theorem irqArrive_within (g src : Nat) (s : State) :
    Within [.regs] s (irqArrive g src s) := by
  unfold irqArrive
  refine Within.op (State.setIrq_within _ _ _) rfl ?_
  exact Within.refl _ _

theorem fltArrive_within (b : Nat) (s : State) :
    Within [.bus, .regs] s (fltArrive b s) := by
  unfold fltArrive
  refine Within.ite ?_ ?_
  · refine Within.bus (by decide) ?_
    exact Within.refl _ _
  · refine Within.ite ?_ ?_
    · refine Within.op (irqArrive_within _ _ _) rfl ?_
      exact Within.refl _ _
    · refine Within.op (irqArrive_within _ _ _) rfl ?_
      exact Within.refl _ _

theorem State.setFlt_within (s : State) (b : Nat) (f : Flt) :
    Within [.regs] s (State.setFlt s b f) := by
  unfold State.setFlt
  refine Within.regs (by decide) ?_
  exact Within.refl _ _

theorem setSticky_within (b n : Nat) (s : State) :
    Within [.bus, .regs] s (setSticky b n s) := by
  unfold setSticky
  refine Within.ite ?_ ?_
  · exact Within.refl _ _
  · refine Within.op (fltArrive_within _ _) rfl ?_
    refine Within.op (State.setFlt_within _ _ _) rfl ?_
    exact Within.refl _ _

theorem setCond_within (b n : Nat) (v : Bool) (s : State) :
    Within [.bus, .regs] s (setCond b n v s) := by
  unfold setCond
  refine Within.ite ?_ ?_
  · refine Within.op (setSticky_within _ _ _) rfl ?_
    refine Within.op (State.setFlt_within _ _ _) rfl ?_
    exact Within.refl _ _
  · refine Within.op (State.setFlt_within _ _ _) rfl ?_
    exact Within.refl _ _

theorem rewriteWord_within (b i : Nat) (s : State) :
    Within [.regs] s (rewriteWord b i s) := by
  unfold rewriteWord
  dsimp only
  refine Within.op (State.setFlt_within _ _ _) rfl ?_
  exact Within.refl _ _

theorem clearWord_within (b w bits : Nat) (s : State) :
    Within [.regs] s (clearWord b w bits s) := by
  unfold clearWord
  dsimp only
  refine Within.op (State.setFlt_within _ _ _) rfl ?_
  exact Within.refl _ _

theorem parityFail_within (b i : Nat) (s : State) :
    Within [.bus, .regs] s (parityFail b i s) := by
  unfold parityFail
  dsimp only
  refine Within.op (setSticky_within _ _ _) rfl ?_
  refine Within.op (State.setFlt_within _ _ _) rfl ?_
  exact Within.refl _ _

theorem commitG_within (a b : State) :
    Within [.kcp] b (commitG a b) := by
  unfold commitG
  refine Within.kcp (by decide) ?_
  exact Within.refl _ _

theorem State.setEthP_within (s : State) (i : Nat) (x : Eth) :
    Within [.eth] s (State.setEthP s i x) := by
  unfold State.setEthP
  refine Within.eth (by decide) ?_
  exact Within.refl _ _

theorem State.setTb_within (s : State) (x : TimeBase) :
    Within [.tim] s (State.setTb s x) := by
  unfold State.setTb
  refine Within.tim (by decide) ?_
  exact Within.refl _ _

theorem State.setOsci_within (s : State) (i : Nat) (x : Member) :
    Within [.osc] s (State.setOsci s i x) := by
  unfold State.setOsci
  refine Within.osc (by decide) ?_
  exact Within.refl _ _

theorem logAt_within (us type detail id value : Nat) (s : State) :
    Within [.bus, .log, .regs] s (logAt us type detail id value s) := by
  unfold logAt
  dsimp only
  with_reducible refine Within.ite ?_ ?_
  · refine Within.lit ?_ (h3 := .inl (by decide)) (h10 := .inl (by decide))
    exact Within.refl _ _
  · refine Within.op (setCond_within _ _ _ _) rfl ?_
    refine Within.lit ?_ (h3 := .inl (by decide)) (h10 := .inl (by decide))
    exact Within.refl _ _

theorem logPut_within (type detail id value : Nat) (s : State) :
    Within [.bus, .log, .regs] s (logPut type detail id value s) := by
  unfold logPut
  refine Within.op (logAt_within _ _ _ _ _ _) rfl ?_
  exact Within.refl _ _

theorem drawRandom_within (n : Nat) (s : State) :
    Within [.free] s (drawRandom n s).2 := by
  unfold drawRandom
  try dsimp only
  refine Within.free (by decide) ?_
  exact Within.refl _ _

theorem State.setSlot_within (s : State) (i : Nat) (x : Slot) :
    Within [.ref] s (State.setSlot s i x) := by
  unfold State.setSlot
  refine Within.ref (by decide) ?_
  exact Within.refl _ _

theorem State.setPort_within (s : State) (i : Nat) (x : FurPort) :
    Within [.fur] s (State.setPort s i x) := by
  unfold State.setPort
  refine Within.fur (by decide) ?_
  exact Within.refl _ _

theorem State.setChan_within (s : State) (i : Nat) (x : PrivChan) :
    Within [.tim] s (State.setChan s i x) := by
  unfold State.setChan
  refine Within.tim (by decide) ?_
  exact Within.refl _ _

theorem drawBelow_within (n : Nat) (s : State) :
    Within [.free] s (drawBelow n s).2 := by
  unfold drawBelow
  try dsimp only
  refine Within.free (by decide) ?_
  exact Within.refl _ _

theorem State.setInterp_within (s : State) (i : Nat) (x : GenInterp) :
    Within [.tim] s (State.setInterp s i x) := by
  unfold State.setInterp
  refine Within.tim (by decide) ?_
  exact Within.refl _ _

theorem State.setRing_within (s : State) (r : Nat) (x : Machine.Ring) :
    Within [.kcp] s (State.setRing s r x) := by
  unfold State.setRing
  refine Within.kcp (by decide) ?_
  exact Within.refl _ _

theorem holdoverExit_within (row : Nat) (s : State) :
    Within [.bus, .log, .regs] s (holdoverExit row s) := by
  unfold holdoverExit
  refine Within.ite ?_ ?_
  · refine Within.op (logPut_within _ _ _ _ _) rfl ?_
    exact Within.refl _ _
  · exact Within.refl _ _

theorem State.setDup_within (s : State) (i : Nat) (x : Duplex) :
    Within [.ref] s (State.setDup s i x) := by
  unfold State.setDup
  refine Within.ref (by decide) ?_
  exact Within.refl _ _

theorem State.setPaux_within (s : State) (i : Nat) (x : FurAux) :
    Within [.fur] s (State.setPaux s i x) := by
  unfold State.setPaux
  refine Within.fur (by decide) ?_
  exact Within.refl _ _

theorem dropSteps_within (s : State) :
    Within [.sel] s (dropSteps s) := by
  unfold dropSteps
  dsimp only
  refine Within.sel (by decide) ?_
  exact Within.refl _ _

theorem State.setSel_within (s : State) (x : SelSt) :
    Within [.sel] s (State.setSel s x) := by
  unfold State.setSel
  refine Within.sel (by decide) ?_
  exact Within.refl _ _

theorem split_within (k : List Byte) (s : State) :
    Within [.free] s (split k s).2 := by
  unfold split
  dsimp only
  try dsimp only
  refine Within.op (drawRandom_within _ _) rfl ?_
  exact Within.refl _ _

theorem storeSound_within (s : State) :
    Within [.bus, .key, .regs] s (storeSound s) := by
  unfold storeSound
  refine Within.ite ?_ ?_
  · refine Within.op (setCond_within _ _ _ _) rfl ?_
    refine Within.key (by decide) ?_
    exact Within.refl _ _
  · exact Within.refl _ _

theorem writeArea_within (w : Wrapped) (s : State) :
    Within [.bus, .key, .regs] s (writeArea w s) := by
  unfold writeArea
  refine Within.op (storeSound_within _) rfl ?_
  refine Within.ite ?_ ?_
  · refine Within.key (by decide) ?_
    exact Within.refl _ _
  · refine Within.key (by decide) ?_
    exact Within.refl _ _

theorem keepSlots_within (s : State) :
    Within [.bus, .key, .regs] s (keepSlots s) := by
  unfold keepSlots
  refine Within.ite ?_ ?_
  · refine Within.op (writeArea_within _ _) rfl ?_
    exact Within.refl _ _
  · exact Within.refl _ _

theorem State.setTenant_within (s : State) (t : Nat) (x : KeySlot) :
    Within [.key] s (State.setTenant s t x) := by
  unfold State.setTenant
  refine Within.key (by decide) ?_
  exact Within.refl _ _

theorem setKeySlot_within (cls i : Nat) (x : KeySlot) (s : State) :
    Within [.key] s (setKeySlot cls i x s) := by
  unfold setKeySlot
  refine Within.ite ?_ ?_
  · refine Within.key (by decide) ?_
    exact Within.refl _ _
  · refine Within.ite ?_ ?_
    · refine Within.key (by decide) ?_
      exact Within.refl _ _
    · refine Within.key (by decide) ?_
      exact Within.refl _ _

theorem readSlots_within (n : Nat) (b : List Byte) (s : State) : Within [.free, .key] s (readSlots n b s) := by
  induction n generalizing b s with
  | zero => exact Within.refl _ _
  | succ n ih =>
    unfold readSlots
    dsimp only
    split
    · exact Within.refl _ _
    · refine Within.trans ?_ (ih _ _)
      refine Within.op (setKeySlot_within _ _ _ _) rfl ?_
      split
      · exact Within.op (split_within _ _) rfl (Within.refl _ _)
      · exact Within.refl _ _

theorem withHeld_within (s : State) :
    Within [.key] s (withHeld s) := by
  unfold withHeld
  refine Within.foldl (fun t a => ?_) _ ?_
  · refine Within.ite ?_ ?_
    · exact Within.refl _ _
    · refine Within.op (setKeySlot_within _ _ _ _) rfl ?_
      exact Within.refl _ _
  · exact Within.refl _ _

theorem sealedLog_within (ws : List SealedWrite) (s : State) :
    Within [.bus, .log, .sealing, .regs] s (sealedLog ws s) := by
  unfold sealedLog
  dsimp only
  refine Within.foldl (fun t a => ?_) _ ?_
  · refine Within.op (logPut_within _ _ _ _ _) rfl ?_
    exact Within.refl _ _
  · with_reducible refine Within.ite ?_ ?_
    · exact Within.refl _ _
    · refine Within.sealing (by decide) ?_
      exact Within.refl _ _

theorem loadStore_within (x : SealedStore) (s : State) :
    Within [.utc, .tim, .gnss, .ref, .osc, .bnd, .fur, .eth] s (loadStore x s) := by
  unfold loadStore
  dsimp only
  refine Within.foldl (fun t a => ?_) _ ?_
  · refine Within.op (State.setEthP_within _ _ _) rfl ?_
    exact Within.refl _ _
  · refine Within.foldl (fun t a => ?_) _ ?_
    · refine Within.op (State.setPort_within _ _ _) rfl ?_
      exact Within.refl _ _
    · refine Within.lit ?_ (h2 := .inl (by decide)) (h4 := .inl (by decide)) (h5 := .inl (by decide)) (h6 := .inl (by
        decide)) (h8 := .inl (by decide)) (h9 := .inl (by decide))
      exact Within.refl _ _

theorem addReply_within (c : Cmd) (status detail gen : Nat) (p : List Byte) (s : State) :
    Within [.kcp] s (addReply c status detail gen p s) := by
  unfold addReply
  refine Within.ite ?_ ?_
  · exact Within.refl _ _
  · refine Within.kcp (by decide) ?_
    exact Within.refl _ _

theorem takeId_within (s : State) :
    Within [.kcp] s (takeId s) := by
  unfold takeId
  refine Within.kcp (by decide) ?_
  exact Within.refl _ _

theorem conclude_within {ps : List Part} {a s0 : State} {c : Cmd} {r : Res} (hk : .kcp ∈ ps) (h0 : Within ps a s0)
    (h : Within ps a r.st) : Within ps a (conclude c s0 r) := by
  have hs : covers ps [.kcp] = true := by simp [covers, hk]
  have hg : Within ps a (commitG s0 r.st) := Within.op (commitG_within _ _) hs h
  unfold conclude
  refine Within.ite ?_ (Within.ite ?_ (Within.ite ?_ ?_))
  · exact Within.kcp hk hg
  · exact Within.op (addReply_within _ _ _ _ _ _) hs hg
  · exact Within.op (addReply_within _ _ _ _ _ _) hs hg
  · exact Within.op (addReply_within _ _ _ _ _ _) hs (Within.ite h h0)

theorem runCmd_within {ps : List Part} {a s : State} {body : Body} {c : Cmd} (hk : .kcp ∈ ps) (h : Within ps a s)
    (hb : ∀ c t, Within ps t (body c t).st) : Within ps a (runCmd body c s) := by
  unfold runCmd
  exact Within.ite (Within.op (addReply_within _ _ _ _ _ _) (by simp [covers, hk]) h)
    (conclude_within hk h (h.trans (hb _ _)))

theorem runRow_within {ps : List Part} {op least : Nat} {body : Body} {rq : Request} {s : State} (hk : .kcp ∈ ps)
    (hb : ∀ c t, Within ps t (body c t).st) : Within ps s (runRow op least body rq s) := by
  have hs : covers ps [.kcp] = true := by simp [covers, hk]
  have ht : Within ps s (takeId s) := Within.op (takeId_within s) hs (Within.refl _ _)
  unfold runRow
  refine Within.ite (Within.refl _ _) ?_
  split
  · exact Within.op (addReply_within _ _ _ _ _ _) hs ht
  · exact Within.ite (Within.op (addReply_within _ _ _ _ _ _) hs ht) (runCmd_within hk ht hb)

/-- A command row keeps within what its body keeps within, and the command processor. -/
theorem kcpRow_within {ps : List Part} {op least : Nat} {body : Body} {rq : Request} {s t : State} (hk : .kcp ∈ ps)
    (hb : ∀ c u, Within ps u (body c u).st) (h : kcpRow op least body rq s = .next t) : Within ps s t := by
  obtain rfl : _ = t := Host.Outcome.next.inj h
  exact runRow_within hk hb

/-- An event keeps within what its effect keeps within, and the command processor. -/
theorem done_within {ps : List Part} {s s' t : State} (hk : .kcp ∈ ps) (hs : Within ps s s') (h : done s s' = .next t) :
    Within ps s t := by
  obtain rfl : _ = t := Host.Outcome.next.inj h
  exact Within.op (commitG_within _ _) (by simp [covers, hk]) hs

/-- The same for an event that answers held commands. -/
theorem doneHeld_within {ps : List Part} {s s' t : State} (hk : .kcp ∈ ps) (hs : Within ps s s')
    (h : doneHeld s s' = .next t) : Within ps s t := by
  obtain rfl : _ = t := Host.Outcome.next.inj h
  exact Within.kcp hk (Within.op (commitG_within _ _) (by simp [covers, hk]) hs)

/-- An event at a numbered unit is the event where the module has the unit, and nothing elsewhere. -/
theorem guardUnit_next {ok : Bool} {r : Host.Outcome State Fault Refusal} {s t : State} (h : guardUnit ok s r = .next t)
    :
    (ok = true ∧ r = .next t) ∨ (ok = false ∧ t = s) := by
  cases ok
  · exact .inr ⟨rfl, (Host.Outcome.next.inj h).symm⟩
  · exact .inl ⟨rfl, h⟩

theorem badLen_within (s : State) :
    Within [] s (badLen s).st := by
  unfold badLen
  try dsimp only
  exact Within.refl _ _

theorem ok_within (s : State) (p : List Byte) :
    Within [] s (ok s p).st := by
  unfold ok
  try dsimp only
  exact Within.refl _ _

theorem bad_within (s : State) (off : Nat) :
    Within [] s (bad s off).st := by
  unfold bad
  try dsimp only
  exact Within.refl _ _

theorem held_within (s : State) :
    Within [] s (held s).st := by
  unfold held
  try dsimp only
  exact Within.refl _ _

theorem err_within (s : State) (status : Nat) :
    Within [] s (err s status).st := by
  unfold err
  try dsimp only
  exact Within.refl _ _

theorem pend_within (s : State) (p : List Byte) :
    Within [] s (pend s p).st := by
  unfold pend
  try dsimp only
  exact Within.refl _ _

theorem perfAdd_within (e n : Nat) (s : State) :
    Within [.regs] s (perfAdd e n s) := by
  unfold perfAdd
  dsimp only
  refine Within.regs (by decide) ?_
  exact Within.refl _ _

theorem answerHeld_within {ps : List Part} {a s : State} {id : Nat} {f : Cmd → State → Res} (hk : .kcp ∈ ps)
    (h : Within ps a s) (hf : ∀ c t, Within ps t (f c t).st) : Within ps a (answerHeld id f s) := by
  unfold answerHeld
  split
  · exact h
  · exact conclude_within hk (Within.kcp hk h) ((Within.kcp hk h).trans (hf _ _))

theorem stampReplies_within (s t : State) :
    Within [.kcp] t (stampReplies s t) := by
  unfold stampReplies
  dsimp only
  refine Within.kcp (by decide) ?_
  exact Within.refl _ _

theorem busy_within (s : State) :
    Within [] s (busy s).st := by
  unfold busy
  try dsimp only
  exact Within.refl _ _

theorem waits_within (s : State) :
    Within [] s (waits s).st := by
  unfold waits
  try dsimp only
  exact Within.refl _ _

theorem State.setOutp_within (s : State) (o : Nat) (x : OutSt) :
    Within [.syn] s (State.setOutp s o x) := by
  unfold State.setOutp
  refine Within.syn (by decide) ?_
  exact Within.refl _ _

theorem State.setApll_within (s : State) (i : Nat) (x : Apll) :
    Within [.syn] s (State.setApll s i x) := by
  unfold State.setApll
  refine Within.syn (by decide) ?_
  exact Within.refl _ _

theorem stepOutput_within (d : Sys2Proof.Interval) (e m : FieldTime) (s : State) (o : Nat) :
    Within [.syn] s (stepOutput d e m s o) := by
  unfold stepOutput
  dsimp only
  with_reducible refine Within.ite ?_ ?_
  · exact Within.refl _ _
  · with_reducible refine Within.ite ?_ ?_
    · refine Within.op (State.setOutp_within _ _ _) rfl ?_
      exact Within.refl _ _
    · refine Within.op (State.setOutp_within _ _ _) rfl ?_
      exact Within.refl _ _

theorem outputStep_within (d : Sys2Proof.Interval) (e m : FieldTime) (s : State) :
    Within [.syn] s (outputStep d e m s) := by
  unfold outputStep
  refine Within.foldl (fun t a => ?_) _ ?_
  · refine Within.op (stepOutput_within _ _ _ _ _) rfl ?_
    exact Within.refl _ _
  · exact Within.refl _ _

theorem holdLow_within (s : State) (o : Nat) :
    Within [.syn] s (holdLow s o) := by
  unfold holdLow
  refine Within.ite ?_ ?_
  · refine Within.op (State.setOutp_within _ _ _) rfl ?_
    exact Within.refl _ _
  · exact Within.refl _ _

theorem tailWrite_within (r v : Nat) (s : State) :
    Within [.kcp] s (tailWrite r v s) := by
  unfold tailWrite
  dsimp only
  refine Within.op (State.setRing_within _ _ _) rfl ?_
  exact Within.refl _ _

theorem ringQuiesce_within (r : Nat) (s : State) :
    Within [.kcp] s (ringQuiesce r s) := by
  unfold ringQuiesce
  refine Within.ite ?_ ?_
  · exact Within.refl _ _
  · refine Within.op (State.setRing_within _ _ _) rfl ?_
    exact Within.refl _ _

theorem classLock_within (r : Nat) (s0 : State) :
    Within [.kcp, .regs] s0 (classLock r s0) := by
  unfold classLock
  dsimp only
  refine Within.op (State.setRing_within _ _ _) rfl ?_
  refine Within.op (rewriteWord_within _ _ _) rfl ?_
  exact Within.refl _ _

theorem cfgWrite_within (r v : Nat) (s0 : State) :
    Within [.kcp, .regs] s0 (cfgWrite r v s0) := by
  unfold cfgWrite
  dsimp only
  with_reducible refine Within.ite ?_ ?_
  · with_reducible refine Within.ite ?_ ?_
    · refine Within.op (State.setRing_within _ _ _) rfl ?_
      refine Within.op (rewriteWord_within _ _ _) rfl ?_
      exact Within.refl _ _
    · refine Within.op (State.setRing_within _ _ _) rfl ?_
      refine Within.op (rewriteWord_within _ _ _) rfl ?_
      exact Within.refl _ _
  · with_reducible refine Within.ite ?_ ?_
    · refine Within.op (State.setRing_within _ _ _) rfl ?_
      refine Within.op (rewriteWord_within _ _ _) rfl ?_
      exact Within.refl _ _
    · with_reducible refine Within.ite ?_ ?_
      · refine Within.op (State.setRing_within _ _ _) rfl ?_
        refine Within.op (rewriteWord_within _ _ _) rfl ?_
        exact Within.refl _ _
      · with_reducible refine Within.ite ?_ ?_
        · refine Within.op (State.setRing_within _ _ _) rfl ?_
          refine Within.op (rewriteWord_within _ _ _) rfl ?_
          exact Within.refl _ _
        · refine Within.op (State.setRing_within _ _ _) rfl ?_
          refine Within.op (rewriteWord_within _ _ _) rfl ?_
          exact Within.refl _ _

theorem baseWrite_within (r off v : Nat) (s0 : State) :
    Within [.kcp, .regs] s0 (baseWrite r off v s0) := by
  unfold baseWrite
  dsimp only
  with_reducible refine Within.ite ?_ ?_
  · refine Within.op (State.setRing_within _ _ _) rfl ?_
    refine Within.op (rewriteWord_within _ _ _) rfl ?_
    exact Within.refl _ _
  · split
    · refine Within.op (State.setRing_within _ _ _) rfl ?_
      refine Within.op (rewriteWord_within _ _ _) rfl ?_
      exact Within.refl _ _
    · refine Within.op (State.setRing_within _ _ _) rfl ?_
      refine Within.op (rewriteWord_within _ _ _) rfl ?_
      exact Within.refl _ _
    · refine Within.op (State.setRing_within _ _ _) rfl ?_
      refine Within.op (rewriteWord_within _ _ _) rfl ?_
      exact Within.refl _ _
    · refine Within.op (State.setRing_within _ _ _) rfl ?_
      refine Within.op (rewriteWord_within _ _ _) rfl ?_
      exact Within.refl _ _
    · refine Within.op (State.setRing_within _ _ _) rfl ?_
      refine Within.op (rewriteWord_within _ _ _) rfl ?_
      exact Within.refl _ _
    · refine Within.op (State.setRing_within _ _ _) rfl ?_
      refine Within.op (rewriteWord_within _ _ _) rfl ?_
      exact Within.refl _ _

theorem statClear_within (r v : Nat) (s : State) :
    Within [.kcp] s (statClear r v s) := by
  unfold statClear
  dsimp only
  refine Within.op (State.setRing_within _ _ _) rfl ?_
  exact Within.refl _ _

theorem headWrite_within (r v : Nat) (s : State) :
    Within [.kcp] s (headWrite r v s) := by
  unfold headWrite
  dsimp only
  with_reducible refine Within.ite ?_ ?_
  · refine Within.op (State.setRing_within _ _ _) rfl ?_
    exact Within.refl _ _
  · refine Within.op (State.setRing_within _ _ _) rfl ?_
    exact Within.refl _ _

theorem ringWrite_within (r off v : Nat) (s : State) :
    Within [.kcp, .regs] s (ringWrite r off v s) := by
  unfold ringWrite
  refine Within.ite ?_ ?_
  · refine Within.op (baseWrite_within _ _ _ _) rfl ?_
    exact Within.refl _ _
  · split
    · refine Within.op (cfgWrite_within _ _ _) rfl ?_
      exact Within.refl _ _
    · refine Within.op (statClear_within _ _ _) rfl ?_
      exact Within.refl _ _
    · refine Within.op (tailWrite_within _ _ _) rfl ?_
      exact Within.refl _ _
    · refine Within.op (headWrite_within _ _ _) rfl ?_
      exact Within.refl _ _
    · exact Within.refl _ _

end Sys2Proof.Machine
end

