-- ==== Sys2Proof/Laws/WithinTime.lean ====
section
/-! SUPPORT. The parts of the state that an operation may change, one lemma for each operation: the time base, the references, selection, holdover, bounds and the time bus. -/

-- One theorem after another: elaborated side by side, their proofs wait on one another in dozens of threads.
set_option Elab.async false

namespace Sys2Proof.Machine
open Sys2Proof

theorem markDisagreed_within (i : Nat) (s : State) :
    Within [.ref] s (markDisagreed i s) := by
  unfold markDisagreed
  refine Within.ite ?_ ?_
  · refine Within.op (State.setSlot_within _ _ _) rfl ?_
    exact Within.refl _ _
  · exact Within.refl _ _

theorem dropOne_within (s : State) (i : Nat) :
    Within [.ref] s (dropOne s i) := by
  unfold dropOne
  dsimp only
  with_reducible refine Within.ite ?_ ?_
  · exact Within.refl _ _
  · split
    · with_reducible refine Within.ite ?_ ?_
      · exact Within.refl _ _
      · refine Within.op (State.setSlot_within _ _ _) rfl ?_
        exact Within.refl _ _
    · with_reducible refine Within.ite ?_ ?_
      · exact Within.refl _ _
      · refine Within.op (State.setSlot_within _ _ _) rfl ?_
        exact Within.refl _ _
    · exact Within.refl _ _

theorem dropLost_within (s : State) :
    Within [.ref] s (dropLost s) := by
  unfold dropLost
  refine Within.foldl (fun t a => ?_) _ ?_
  · refine Within.op (dropOne_within _ _) rfl ?_
    exact Within.refl _ _
  · exact Within.refl _ _

theorem takePhase_within (i : Nat) (pt : PhasePt) (s : State) :
    Within [.ref] s (takePhase i pt s) := by
  unfold takePhase
  dsimp only
  refine Within.op (State.setSlot_within _ _ _) rfl ?_
  exact Within.refl _ _

theorem enterPhases_within (i n k : Nat) (m : Option Sys2Proof.Interval) (s : State) :
    Within [.ref, .sel] s (enterPhases i n k m s) := by
  unfold enterPhases
  dsimp only
  with_reducible refine Within.ite ?_ ?_
  · refine Within.sel (by decide) ?_
    refine Within.op (State.setSlot_within _ _ _) rfl ?_
    exact Within.refl _ _
  · refine Within.op (State.setSlot_within _ _ _) rfl ?_
    exact Within.refl _ _

theorem offerLeap_within (code : Nat) (a : Option LeapAnn) (s : State) :
    Within [.utc] s (offerLeap code a s) := by
  unfold offerLeap
  dsimp only
  split
  · refine Within.utc (by decide) ?_
    exact Within.refl _ _
  · with_reducible refine Within.ite ?_ ?_
    · refine Within.utc (by decide) ?_
      exact Within.refl _ _
    · refine Within.utc (by decide) ?_
      exact Within.refl _ _

theorem offerUtc_within (code : Nat) (offset : Int) (s : State) :
    Within [.utc] s (offerUtc code offset s) := by
  unfold offerUtc
  refine Within.utc (by decide) ?_
  exact Within.refl _ _

theorem offerTod_within (code : Nat) (t : TodFields) (s : State) :
    Within [.utc] s (offerTod code t s) := by
  unfold offerTod
  refine Within.op (offerLeap_within _ _ _) rfl ?_
  split
  · refine Within.op (offerUtc_within _ _ _) rfl ?_
    exact Within.refl _ _
  · exact Within.refl _ _

theorem readReport_within (r : SlotReport) (s : State) :
    Within [.utc, .ref, .sel] s (readReport r s) := by
  unfold readReport
  dsimp only
  split
  · refine Within.op (offerTod_within _ _ _) rfl ?_
    refine Within.op (enterPhases_within _ _ _ _ _) rfl ?_
    refine Within.foldl (fun t a => ?_) _ ?_
    · refine Within.op (takePhase_within _ _ _) rfl ?_
      exact Within.refl _ _
    · refine Within.op (State.setSlot_within _ _ _) rfl ?_
      exact Within.refl _ _
  · refine Within.op (enterPhases_within _ _ _ _ _) rfl ?_
    refine Within.foldl (fun t a => ?_) _ ?_
    · refine Within.op (takePhase_within _ _ _) rfl ?_
      exact Within.refl _ _
    · refine Within.op (State.setSlot_within _ _ _) rfl ?_
      exact Within.refl _ _

theorem readReports_within (s : State) :
    Within [.utc, .bus, .ref, .sel] s (readReports s) := by
  unfold readReports
  refine Within.op (dropLost_within _) rfl ?_
  refine Within.foldl (fun t a => ?_) _ ?_
  · refine Within.op (readReport_within _ _) rfl ?_
    exact Within.refl _ _
  · refine Within.bus (by decide) ?_
    exact Within.refl _ _

theorem tileEvent_within (i : Nat) (ev : SlotEvent) (s : State) :
    Within [.bus, .ref] s (tileEvent i ev s) := by
  unfold tileEvent
  dsimp only
  with_reducible refine Within.ite ?_ ?_
  · exact Within.refl _ _
  · split
    · refine Within.op (State.setSlot_within _ _ _) rfl ?_
      exact Within.refl _ _
    · refine Within.bus (by decide) ?_
      refine Within.op (State.setSlot_within _ _ _) rfl ?_
      exact Within.refl _ _

theorem duplexEdge_within (i : Nat) (t : FieldTime) (phase : Sys2Proof.Interval) (s : State) :
    Within [.bus, .ref, .regs] s (duplexEdge i t phase s) := by
  unfold duplexEdge
  split
  · exact Within.refl _ _
  · dsimp only
    split
    · with_reducible refine Within.ite ?_ ?_
      · refine Within.op (dropLost_within _) rfl ?_
        with_reducible refine Within.ite ?_ ?_
        · refine Within.op (setSticky_within _ _ _) rfl ?_
          with_reducible refine Within.ite ?_ ?_
          · refine Within.op (markDisagreed_within _ _) rfl ?_
            refine Within.op (markDisagreed_within _ _) rfl ?_
            refine Within.op (State.setDup_within _ _ _) rfl ?_
            exact Within.refl _ _
          · refine Within.op (State.setDup_within _ _ _) rfl ?_
            exact Within.refl _ _
        · with_reducible refine Within.ite ?_ ?_
          · refine Within.op (markDisagreed_within _ _) rfl ?_
            refine Within.op (markDisagreed_within _ _) rfl ?_
            refine Within.op (State.setDup_within _ _ _) rfl ?_
            exact Within.refl _ _
          · refine Within.op (State.setDup_within _ _ _) rfl ?_
            exact Within.refl _ _
      · refine Within.op (State.setDup_within _ _ _) rfl ?_
        exact Within.refl _ _
    · refine Within.op (State.setDup_within _ _ _) rfl ?_
      exact Within.refl _ _

theorem generatedEdge_within (i : Nat) (ev : SlotEvent) (s : State) :
    Within [.bus, .ref, .regs] s (generatedEdge i ev s) := by
  unfold generatedEdge
  dsimp only
  with_reducible refine Within.ite ?_ ?_
  · exact Within.refl _ _
  · refine Within.op (duplexEdge_within _ _ _ _) rfl ?_
    split
    · exact Within.refl _ _
    · refine Within.op (State.setSlot_within _ _ _) rfl ?_
      exact Within.refl _ _

theorem State.setUart_within (s : State) (u : Nat) (x : Uart) :
    Within [.ref] s (State.setUart s u x) := by
  unfold State.setUart
  refine Within.ref (by decide) ?_
  exact Within.refl _ _

theorem todTaken_within (u second : Nat) (offset : Option Int) (leap : Option LeapAnn) (s : State) :
    Within [.utc, .ref] s (todTaken u second offset leap s) := by
  unfold todTaken
  dsimp only
  with_reducible refine Within.ite ?_ ?_
  · split
    · refine Within.op (offerUtc_within _ _ _) rfl ?_
      refine Within.op (State.setUart_within _ _ _) rfl ?_
      exact Within.refl _ _
    · refine Within.op (State.setUart_within _ _ _) rfl ?_
      exact Within.refl _ _
  · refine Within.op (offerLeap_within _ _ _) rfl ?_
    split
    · refine Within.op (offerUtc_within _ _ _) rfl ?_
      refine Within.op (State.setUart_within _ _ _) rfl ?_
      exact Within.refl _ _
    · refine Within.op (State.setUart_within _ _ _) rfl ?_
      exact Within.refl _ _

theorem nextTaken_within (u : Nat) (s : State) :
    Within [.utc, .ref] s (nextTaken u s) := by
  unfold nextTaken
  split
  · refine Within.op (todTaken_within _ _ _ _ _) rfl ?_
    refine Within.op (State.setUart_within _ _ _) rfl ?_
    exact Within.refl _ _
  · exact Within.refl _ _

theorem deliver_within (i : Nat) (pt : PhasePt) (s : State) :
    Within [.ref, .sel] s (deliver i pt s) := by
  unfold deliver
  refine Within.op (enterPhases_within _ _ _ _ _) rfl ?_
  refine Within.op (takePhase_within _ _ _) rfl ?_
  exact Within.refl _ _

theorem refreshUnchecked_within (s : State) :
    Within [.ref] s (refreshUnchecked s) := by
  unfold refreshUnchecked
  refine Within.foldl (fun t a => ?_) _ ?_
  · refine Within.op (State.setDup_within _ _ _) rfl ?_
    exact Within.refl _ _
  · exact Within.refl _ _

theorem slotEvent_within (i : Nat) (ev : SlotEvent) (s : State) :
    Within [.utc, .bus, .ref, .sel, .regs] s (slotEvent i ev s) := by
  unfold slotEvent
  dsimp only
  with_reducible refine Within.ite ?_ ?_
  · exact Within.refl _ _
  · with_reducible refine Within.ite ?_ ?_
    · refine Within.op (generatedEdge_within _ _ _) rfl ?_
      exact Within.refl _ _
    · with_reducible refine Within.ite ?_ ?_
      · exact Within.refl _ _
      · refine Within.op (dropLost_within _) rfl ?_
        refine Within.op (refreshUnchecked_within _) rfl ?_
        refine Within.op (duplexEdge_within _ _ _ _) rfl ?_
        split
        · refine Within.op (State.setSlot_within _ _ _) rfl ?_
          exact Within.refl _ _
        · with_reducible refine Within.ite ?_ ?_
          · refine Within.op (nextTaken_within _ _) rfl ?_
            refine Within.op (State.setSlot_within _ _ _) rfl ?_
            refine Within.op (State.setSlot_within _ _ _) rfl ?_
            exact Within.refl _ _
          · refine Within.op (deliver_within _ _ _) rfl ?_
            refine Within.op (State.setSlot_within _ _ _) rfl ?_
            exact Within.refl _ _

theorem refEvent_within (i : Nat) (ev : SlotEvent) (s : State) :
    Within [.utc, .bus, .ref, .sel, .tan, .regs] s (refEvent i ev s) := by
  unfold refEvent
  refine Within.ite ?_ ?_
  · refine Within.ite ?_ ?_
    · exact Within.refl _ _
    · refine Within.tan (by decide) ?_
      exact Within.refl _ _
  · refine Within.ite ?_ ?_
    · refine Within.op (tileEvent_within _ _ _) rfl ?_
      exact Within.refl _ _
    · refine Within.op (slotEvent_within _ _ _) rfl ?_
      exact Within.refl _ _

theorem startSurvey_within (time sigma : Nat) (s : State) :
    Within [.gnss] s (startSurvey time sigma s) := by
  unfold startSurvey
  refine Within.gnss (by decide) ?_
  exact Within.refl _ _

theorem State.setNav_within (s : State) (p : Nat) (x : SvNav) :
    Within [.gnss] s (State.setNav s p x) := by
  unfold State.setNav
  refine Within.gnss (by decide) ?_
  exact Within.refl _ _

theorem bodyGnssChannels_within (c : Cmd) (s : State) :
    Within [] s (bodyGnssChannels c s).st := by
  unfold bodyGnssChannels
  refine Within.iteSt ?_ ?_
  · refine Within.op (ok_within _ _) rfl ?_
    exact Within.refl _ _
  · refine Within.op (badLen_within _) rfl ?_
    exact Within.refl _ _

theorem adoptPosition_within (q : Machine.Position) (s : State) :
    Within [.bus, .gnss, .ref, .log, .sealing, .regs] s (adoptPosition q s) := by
  unfold adoptPosition
  dsimp only
  refine Within.op (dropLost_within _) rfl ?_
  refine Within.gnss (by decide) ?_
  refine Within.op (sealedLog_within _ _) rfl ?_
  exact Within.refl _ _

theorem bodyGnssSetPosition_within (c : Cmd) (s : State) :
    Within [.bus, .gnss, .ref, .log, .sealing, .regs] s (bodyGnssSetPosition c s).st := by
  unfold bodyGnssSetPosition
  dsimp only
  refine Within.iteSt ?_ ?_
  · refine Within.op (badLen_within _) rfl ?_
    exact Within.refl _ _
  · refine checked_within ?_ ?_
    · exact Within.refl _ _
    · refine Within.iteSt ?_ ?_
      · refine Within.op (err_within _ _) rfl ?_
        exact Within.refl _ _
      · refine Within.op (ok_within _ _) rfl ?_
        refine Within.op (adoptPosition_within _ _) rfl ?_
        exact Within.refl _ _

theorem subframe18_within (w : List Nat) (s : State) :
    Within [.utc, .gnss] s (subframe18 w s) := by
  unfold subframe18
  dsimp only
  refine Within.op (offerLeap_within _ _ _) rfl ?_
  refine Within.gnss (by decide) ?_
  exact Within.refl _ _

theorem State.setGch_within (s : State) (i : Nat) (x : GnssChan) :
    Within [.gnss] s (State.setGch s i x) := by
  unfold State.setGch
  refine Within.gnss (by decide) ?_
  exact Within.refl _ _

theorem standardChans_within (s : State) :
    Within [.gnss] s (standardChans s) := by
  unfold standardChans
  refine Within.foldl (fun t a => ?_) _ ?_
  · refine Within.op (State.setGch_within _ _ _) rfl ?_
    exact Within.refl _ _
  · exact Within.refl _ _

theorem gnssApply_within (new : GnssCfg) (s : State) :
    Within [.gnss] s (gnssApply new s) := by
  unfold gnssApply
  dsimp only
  with_reducible refine Within.ite ?_ ?_
  · refine Within.gnss (by decide) ?_
    exact Within.refl _ _
  · refine Within.op (standardChans_within _) rfl ?_
    refine Within.gnss (by decide) ?_
    exact Within.refl _ _

theorem bodyGnssConfig_within (c : Cmd) (s : State) :
    Within [.bus, .gnss, .log, .sealing, .regs] s (bodyGnssConfig c s).st := by
  unfold bodyGnssConfig
  dsimp only
  refine Within.iteSt ?_ ?_
  · refine Within.op (ok_within _ _) rfl ?_
    exact Within.refl _ _
  · refine Within.iteSt ?_ ?_
    · refine Within.op (badLen_within _) rfl ?_
      exact Within.refl _ _
    · refine checked_within ?_ ?_
      · exact Within.refl _ _
      · refine Within.iteSt ?_ ?_
        · refine Within.op (err_within _ _) rfl ?_
          exact Within.refl _ _
        · refine Within.op (ok_within _ _) rfl ?_
          refine Within.op (gnssApply_within _ _) rfl ?_
          refine Within.op (sealedLog_within _ _) rfl ?_
          exact Within.refl _ _

theorem subframePage_within (five : Bool) (l : List (Option Nat)) (s : State) :
    Within [.utc, .gnss] s (subframePage five l s) := by
  unfold subframePage
  split
  · exact Within.refl _ _
  · dsimp only
    with_reducible refine Within.ite ?_ ?_
    · refine Within.op (subframe18_within _ _) rfl ?_
      exact Within.refl _ _
    · with_reducible refine Within.ite ?_ ?_
      · refine Within.op (State.setNav_within _ _ _) rfl ?_
        exact Within.refl _ _
      · exact Within.refl _ _

theorem gnssPpsEdge_within (s : State) :
    Within [.gnss] s (gnssPpsEdge s) := by
  unfold gnssPpsEdge
  split
  · refine Within.ite ?_ ?_
    · refine Within.gnss (by decide) ?_
      exact Within.refl _ _
    · exact Within.refl _ _
  · exact Within.refl _ _

theorem howTime_within (tow : Nat) (s : State) :
    Within [.gnss] s (howTime tow s) := by
  unfold howTime
  split
  · refine Within.gnss (by decide) ?_
    exact Within.refl _ _
  · exact Within.refl _ _

theorem showHealth_within (prn : Nat) (h : Bool) (s : State) :
    Within [.gnss] s (showHealth prn h s) := by
  unfold showHealth
  split
  · refine Within.op (State.setGch_within _ _ _) rfl ?_
    exact Within.refl _ _
  · exact Within.refl _ _

theorem subframe1_within (prn tow : Nat) (l : List (Option Nat)) (s : State) :
    Within [.gnss] s (subframe1 prn tow l s) := by
  unfold subframe1
  split
  · refine Within.op (State.setNav_within _ _ _) rfl ?_
    exact Within.refl _ _
  · dsimp only
    with_reducible refine Within.ite ?_ ?_
    · refine Within.gnss (by decide) ?_
      refine Within.op (showHealth_within _ _ _) rfl ?_
      refine Within.op (State.setNav_within _ _ _) rfl ?_
      exact Within.refl _ _
    · refine Within.op (showHealth_within _ _ _) rfl ?_
      refine Within.op (State.setNav_within _ _ _) rfl ?_
      exact Within.refl _ _

theorem lnavSubframe_within (prn : Nat) (x : LnavWords) (s0 : State) :
    Within [.utc, .gnss] s0 (lnavSubframe prn x s0) := by
  unfold lnavSubframe
  split
  · refine Within.ite ?_ ?_
    · exact Within.refl _ _
    · dsimp only
      split
      · refine Within.op (subframe1_within _ _ _ _) rfl ?_
        with_reducible refine Within.ite ?_ ?_
        · refine Within.op (howTime_within _ _) rfl ?_
          exact Within.refl _ _
        · exact Within.refl _ _
      · refine Within.op (State.setNav_within _ _ _) rfl ?_
        with_reducible refine Within.ite ?_ ?_
        · refine Within.op (howTime_within _ _) rfl ?_
          exact Within.refl _ _
        · exact Within.refl _ _
      · refine Within.op (State.setNav_within _ _ _) rfl ?_
        with_reducible refine Within.ite ?_ ?_
        · refine Within.op (howTime_within _ _) rfl ?_
          exact Within.refl _ _
        · exact Within.refl _ _
      · refine Within.op (subframePage_within _ _ _) rfl ?_
        with_reducible refine Within.ite ?_ ?_
        · refine Within.op (howTime_within _ _) rfl ?_
          exact Within.refl _ _
        · exact Within.refl _ _
      · refine Within.op (subframePage_within _ _ _) rfl ?_
        with_reducible refine Within.ite ?_ ?_
        · refine Within.op (howTime_within _ _) rfl ?_
          exact Within.refl _ _
        · exact Within.refl _ _
      · with_reducible refine Within.ite ?_ ?_
        · refine Within.op (howTime_within _ _) rfl ?_
          exact Within.refl _ _
        · exact Within.refl _ _
  · exact Within.refl _ _

theorem surveyEnd_within (s : State) :
    Within [.bus, .gnss, .ref, .log, .sealing, .regs] s (surveyEnd s) := by
  unfold surveyEnd
  refine Within.ite ?_ ?_
  · refine Within.op (adoptPosition_within _ _) rfl ?_
    exact Within.refl _ _
  · exact Within.refl _ _

theorem countUnpaired_within (s : State) :
    Within [.gnss] s (countUnpaired s) := by
  unfold countUnpaired
  refine Within.gnss (by decide) ?_
  exact Within.refl _ _

theorem gnssClkClear_within (c : ClkSeen) (s : State) :
    Within [.bus, .gnss, .regs] s (gnssClkClear c s) := by
  unfold gnssClkClear
  dsimp only
  with_reducible refine Within.ite ?_ ?_
  · refine Within.lit ?_ (h5 := .inl (by decide))
    exact Within.refl _ _
  · with_reducible refine Within.ite ?_ ?_
    · refine Within.op (setCond_within _ _ _ _) rfl ?_
      refine Within.lit ?_ (h5 := .inl (by decide))
      exact Within.refl _ _
    · refine Within.gnss (by decide) ?_
      exact Within.refl _ _

theorem handOff_within (prn : Nat) (c : AcqCell) (s : State) :
    Within [.gnss] s (handOff prn c s) := by
  unfold handOff
  split
  · dsimp only
    refine Within.op (State.setGch_within _ _ _) rfl ?_
    exact Within.refl _ _
  · exact Within.refl _ _

theorem bodyGnssPpsMsg_within (c : Cmd) (s : State) :
    Within [] s (bodyGnssPpsMsg c s).st := by
  unfold bodyGnssPpsMsg
  dsimp only
  refine Within.iteSt ?_ ?_
  · refine Within.op (badLen_within _) rfl ?_
    exact Within.refl _ _
  · refine checked_within ?_ ?_
    · exact Within.refl _ _
    · refine Within.op (ok_within _ _) rfl ?_
      exact Within.refl _ _

theorem markApplied_within (second : Nat) (off : Sys2Proof.Interval) (s : State) :
    Within [.gnss] s (markApplied second off s) := by
  unfold markApplied
  refine Within.gnss (by decide) ?_
  exact Within.refl _ _

theorem quantisationPairing_within (second : Nat) (instant : Option FieldTime) (s : State) :
    Within [.utc, .bus, .gnss, .ref, .sel, .tan, .regs] s (quantisationPairing second instant s) := by
  unfold quantisationPairing
  dsimp only
  split
  · with_reducible refine Within.ite ?_ ?_
    · refine Within.op (countUnpaired_within _) rfl ?_
      refine Within.op (countUnpaired_within _) rfl ?_
      exact Within.refl _ _
    · with_reducible refine Within.ite ?_ ?_
      · exact Within.refl _ _
      · refine Within.op (refEvent_within _ _ _) rfl ?_
        refine Within.op (markApplied_within _ _ _) rfl ?_
        exact Within.refl _ _
  · exact Within.refl _ _
  · refine Within.op (countUnpaired_within _) rfl ?_
    exact Within.refl _ _

theorem steerChannel_within (i : Nat) (r : Correlation) (fit : Option PathFit) (s : State) :
    Within [.gnss] s (steerChannel i r fit s) := by
  unfold steerChannel
  dsimp only
  split
  · refine Within.op (State.setGch_within _ _ _) rfl ?_
    exact Within.refl _ _
  · refine Within.op (State.setGch_within _ _ _) rfl ?_
    exact Within.refl _ _

theorem multipathFit_within (i : Nat) (w : IfSpan) (s : State) :
    Within [.gnss] s (multipathFit i w s) := by
  unfold multipathFit
  dsimp only
  with_reducible refine Within.ite ?_ ?_
  · exact Within.refl _ _
  · refine Within.op (steerChannel_within _ _ _ _) rfl ?_
    exact Within.refl _ _

theorem showFix_within (all used : List FixTerm) (s : State) (i : Nat) :
    Within [.gnss] s (showFix all used s i) := by
  unfold showFix
  dsimp only
  split
  · refine Within.op (State.setGch_within _ _ _) rfl ?_
    exact Within.refl _ _
  · refine Within.op (State.setGch_within _ _ _) rfl ?_
    exact Within.refl _ _

theorem trackingLoss_within (i : Nat) (cn0 : List Nat) (s : State) :
    Within [.gnss] s (trackingLoss i cn0 s) := by
  unfold trackingLoss
  dsimp only
  with_reducible refine Within.ite ?_ ?_
  · exact Within.refl _ _
  · with_reducible refine Within.ite ?_ ?_
    · refine Within.gnss (by decide) ?_
      refine Within.op (State.setGch_within _ _ _) rfl ?_
      exact Within.refl _ _
    · refine Within.op (State.setGch_within _ _ _) rfl ?_
      exact Within.refl _ _

theorem markSearched_within (prn : Nat) (s : State) :
    Within [.gnss] s (markSearched prn s) := by
  unfold markSearched
  dsimp only
  refine Within.gnss (by decide) ?_
  exact Within.refl _ _

theorem bitSynchronisation_within (i : Nat) (s : State) :
    Within [.gnss] s (bitSynchronisation i s) := by
  unfold bitSynchronisation
  dsimp only
  split
  · refine Within.op (State.setGch_within _ _ _) rfl ?_
    exact Within.refl _ _
  · refine Within.op (State.setGch_within _ _ _) rfl ?_
    exact Within.refl _ _
  · refine Within.op (State.setGch_within _ _ _) rfl ?_
    exact Within.refl _ _
  · refine Within.op (State.setGch_within _ _ _) rfl ?_
    exact Within.refl _ _
  · exact Within.refl _ _

theorem bodyGnssSurvey_within (c : Cmd) (s : State) :
    Within [.gnss, .ref] s (bodyGnssSurvey c s).st := by
  unfold bodyGnssSurvey
  dsimp only
  refine Within.iteSt ?_ ?_
  · refine Within.op (badLen_within _) rfl ?_
    exact Within.refl _ _
  · refine checked_within ?_ ?_
    · exact Within.refl _ _
    · split
      · refine Within.op (ok_within _ _) rfl ?_
        exact Within.refl _ _
      · refine Within.iteSt ?_ ?_
        · refine Within.op (err_within _ _) rfl ?_
          exact Within.refl _ _
        · refine Within.op (ok_within _ _) rfl ?_
          refine Within.op (startSurvey_within _ _ _) rfl ?_
          exact Within.refl _ _
      · refine Within.op (ok_within _ _) rfl ?_
        with_reducible refine Within.ite ?_ ?_
        · refine Within.op (dropLost_within _) rfl ?_
          refine Within.gnss (by decide) ?_
          exact Within.refl _ _
        · exact Within.refl _ _

theorem moveThr_within (up : Bool) (s : State) :
    Within [.free, .gnss] s (moveThr up s) := by
  unfold moveThr
  dsimp only
  refine Within.lit ?_ (h1 := .inl (by decide)) (h5 := .inl (by decide))
  exact Within.refl _ _

theorem thresholdLoop_within (usable : Nat) (s : State) :
    Within [.free, .gnss] s (thresholdLoop usable s) := by
  unfold thresholdLoop
  dsimp only
  with_reducible refine Within.ite ?_ ?_
  · with_reducible refine Within.ite ?_ ?_
    · refine Within.gnss (by decide) ?_
      exact Within.refl _ _
    · refine Within.op (moveThr_within _ _) rfl ?_
      exact Within.refl _ _
  · refine Within.gnss (by decide) ?_
    exact Within.refl _ _

theorem surveyStep_within (sv : Nat) (fix : Option (Int × Int × Int × Nat)) (s : State) :
    Within [.gnss] s (surveyStep sv fix s) := by
  unfold surveyStep
  refine Within.ite ?_ ?_
  · dsimp only
    refine Within.gnss (by decide) ?_
    exact Within.refl _ _
  · exact Within.refl _ _

theorem gnssSolution_within (g : GnssSecond) (s0 : State) :
    Within [.free, .bus, .gnss, .ref, .log, .sealing, .regs] s0 (gnssSolution g s0) := by
  unfold gnssSolution
  split
  · refine Within.ite ?_ ?_
    · refine Within.op (thresholdLoop_within _ _) rfl ?_
      exact Within.refl _ _
    · exact Within.refl _ _
  · dsimp only
    refine Within.op (dropLost_within _) rfl ?_
    refine Within.op (thresholdLoop_within _ _) rfl ?_
    refine Within.lit ?_ (h1 := .inl (by decide)) (h5 := .inl (by decide))
    refine Within.foldl (fun t a => ?_) _ ?_
    · refine Within.op (showFix_within _ _ _ _) rfl ?_
      exact Within.refl _ _
    · refine Within.op (surveyStep_within _ _ _) rfl ?_
      refine Within.gnss (by decide) ?_
      refine Within.op (surveyEnd_within _) rfl ?_
      exact Within.refl _ _

theorem bodyGnssStatus_within (c : Cmd) (s : State) :
    Within [] s (bodyGnssStatus c s).st := by
  unfold bodyGnssStatus
  refine Within.iteSt ?_ ?_
  · refine Within.op (ok_within _ _) rfl ?_
    exact Within.refl _ _
  · refine Within.op (badLen_within _) rfl ?_
    exact Within.refl _ _

theorem gnssClkFault_within (c : ClkSeen) (s : State) :
    Within [.bus, .gnss, .regs] s (gnssClkFault c s) := by
  unfold gnssClkFault
  dsimp only
  with_reducible refine Within.ite ?_ ?_
  · refine Within.op (setCond_within _ _ _ _) rfl ?_
    refine Within.lit ?_ (h5 := .inl (by decide))
    exact Within.refl _ _
  · refine Within.gnss (by decide) ?_
    exact Within.refl _ _

theorem judgeCells_within (prn : Nat) (first second : AcqCell) (s : State) :
    Within [.free, .gnss] s (judgeCells prn first second s) := by
  unfold judgeCells
  dsimp only
  with_reducible refine Within.ite ?_ ?_
  · refine Within.op (markSearched_within _ _) rfl ?_
    exact Within.refl _ _
  · with_reducible refine Within.ite ?_ ?_
    · refine Within.op (handOff_within _ _ _) rfl ?_
      refine Within.op (markSearched_within _ _) rfl ?_
      exact Within.refl _ _
    · refine Within.op (moveThr_within _ _) rfl ?_
      refine Within.op (markSearched_within _ _) rfl ?_
      exact Within.refl _ _

theorem acquisitionDwell_within (prn : Nat) (rise fall checkRise checkFall : List IqLevels) (s : State) :
    Within [.free, .gnss] s (acquisitionDwell prn rise fall checkRise checkFall s) := by
  unfold acquisitionDwell
  dsimp only
  with_reducible refine Within.ite ?_ ?_
  · exact Within.refl _ _
  · refine Within.op (judgeCells_within _ _ _ _) rfl ?_
    exact Within.refl _ _

theorem ephemerisAdopt_within (prn : Nat) (s : State) :
    Within [.gnss] s (ephemerisAdopt prn s) := by
  unfold ephemerisAdopt
  split
  · refine Within.op (State.setNav_within _ _ _) rfl ?_
    exact Within.refl _ _
  · exact Within.refl _ _

theorem bodyRefLimits_within (c : Cmd) (s : State) :
    Within [.ref, .regs] s (bodyRefLimits c s).st := by
  unfold bodyRefLimits
  dsimp only
  refine Within.iteSt ?_ ?_
  · refine checked_within ?_ ?_
    · exact Within.refl _ _
    · refine Within.op (ok_within _ _) rfl ?_
      exact Within.refl _ _
  · refine Within.iteSt ?_ ?_
    · refine Within.op (badLen_within _) rfl ?_
      exact Within.refl _ _
    · refine checked_within ?_ ?_
      · exact Within.refl _ _
      · refine Within.op (ok_within _ _) rfl ?_
        refine Within.op (State.setSlot_within _ _ _) rfl ?_
        refine Within.op (rewriteWord_within _ _ _) rfl ?_
        exact Within.refl _ _

theorem discardTod_within (s : State) :
    Within [.ref] s (discardTod s) := by
  unfold discardTod
  refine Within.ref (by decide) ?_
  exact Within.refl _ _

theorem labelPreceding_within (second : Nat) (stop : FieldTime) (s : State) (i : Nat) :
    Within [.ref] s (labelPreceding second stop s i) := by
  unfold labelPreceding
  dsimp only
  split
  · refine Within.op (State.setSlot_within _ _ _) rfl ?_
    exact Within.refl _ _
  · exact Within.refl _ _

theorem labelNext_within (second : Nat) (stop : FieldTime) (s : State) (i : Nat) :
    Within [.ref] s (labelNext second stop s i) := by
  unfold labelNext
  refine Within.op (State.setSlot_within _ _ _) rfl ?_
  exact Within.refl _ _

theorem dropWaiting_within (u : Nat) (s : State) :
    Within [.ref] s (dropWaiting u s) := by
  unfold dropWaiting
  refine Within.ite ?_ ?_
  · refine Within.op (discardTod_within _) rfl ?_
    refine Within.op (State.setUart_within _ _ _) rfl ?_
    exact Within.refl _ _
  · exact Within.refl _ _

theorem uartMessage_within (u : Nat) (bytes : List Byte) (stop : FieldTime) (s : State) :
    Within [.utc, .ref] s (uartMessage u bytes stop s) := by
  unfold uartMessage
  dsimp only
  split
  · refine Within.op (discardTod_within _) rfl ?_
    exact Within.refl _ _
  · with_reducible refine Within.ite ?_ ?_
    · with_reducible refine Within.ite ?_ ?_
      · refine Within.op (dropLost_within _) rfl ?_
        refine Within.op (todTaken_within _ _ _ _ _) rfl ?_
        refine Within.foldl (fun t a => ?_) _ ?_
        · refine Within.op (labelPreceding_within _ _ _ _) rfl ?_
          exact Within.refl _ _
        · exact Within.refl _ _
      · refine Within.op (discardTod_within _) rfl ?_
        exact Within.refl _ _
    · with_reducible refine Within.ite ?_ ?_
      · refine Within.op (discardTod_within _) rfl ?_
        exact Within.refl _ _
      · refine Within.op (State.setUart_within _ _ _) rfl ?_
        refine Within.foldl (fun t a => ?_) _ ?_
        · refine Within.op (labelNext_within _ _ _ _) rfl ?_
          exact Within.refl _ _
        · refine Within.op (dropWaiting_within _ _) rfl ?_
          exact Within.refl _ _

theorem bodyRefStatus_within (c : Cmd) (s : State) :
    Within [] s (bodyRefStatus c s).st := by
  unfold bodyRefStatus
  dsimp only
  refine Within.iteSt ?_ ?_
  · refine Within.op (badLen_within _) rfl ?_
    exact Within.refl _ _
  · refine checked_within ?_ ?_
    · exact Within.refl _ _
    · refine Within.op (ok_within _ _) rfl ?_
      exact Within.refl _ _

theorem applyTod_within (s : State) :
    Within [.ref] s (applyTod s) := by
  unfold applyTod
  refine Within.ref (by decide) ?_
  exact Within.refl _ _

theorem utcHoldExpiry_within (s : State) :
    Within [.utc, .ref] s (utcHoldExpiry s) := by
  unfold utcHoldExpiry
  refine Within.ite ?_ ?_
  · refine Within.op (dropLost_within _) rfl ?_
    refine Within.utc (by decide) ?_
    exact Within.refl _ _
  · exact Within.refl _ _

theorem refEnable_within (s : State) (i : Nat) (new : RefCfg) :
    Within [.ref] s (refEnable s i new) := by
  unfold refEnable
  dsimp only
  with_reducible refine Within.ite ?_ ?_
  · refine Within.op (State.setSlot_within _ _ _) rfl ?_
    exact Within.refl _ _
  · with_reducible refine Within.ite ?_ ?_
    · refine Within.op (refreshUnchecked_within _) rfl ?_
      refine Within.op (State.setSlot_within _ _ _) rfl ?_
      exact Within.refl _ _
    · refine Within.op (State.setSlot_within _ _ _) rfl ?_
      exact Within.refl _ _

theorem bodyRefConfig_within (c : Cmd) (s : State) :
    Within [.bus, .ref, .log, .sealing, .regs] s (bodyRefConfig c s).st := by
  unfold bodyRefConfig
  dsimp only
  refine Within.iteSt ?_ ?_
  · refine checked_within ?_ ?_
    · exact Within.refl _ _
    · refine Within.op (ok_within _ _) rfl ?_
      exact Within.refl _ _
  · refine Within.iteSt ?_ ?_
    · refine Within.op (badLen_within _) rfl ?_
      exact Within.refl _ _
    · refine checked_within ?_ ?_
      · exact Within.refl _ _
      · refine Within.iteSt ?_ ?_
        · refine Within.op (err_within _ _) rfl ?_
          exact Within.refl _ _
        · refine Within.op (ok_within _ _) rfl ?_
          refine Within.op (refEnable_within _ _ _) rfl ?_
          refine Within.op (rewriteWord_within _ _ _) rfl ?_
          refine Within.op (sealedLog_within _ _) rfl ?_
          exact Within.refl _ _

theorem uartLabelTimeout_within (u : Nat) (s : State) :
    Within [.ref] s (uartLabelTimeout u s) := by
  unfold uartLabelTimeout
  dsimp only
  with_reducible refine Within.ite ?_ ?_
  · refine Within.op (dropLost_within _) rfl ?_
    refine Within.op (State.setUart_within _ _ _) rfl ?_
    exact Within.refl _ _
  · exact Within.refl _ _

theorem storeOffset_within (s : State) :
    Within [.utc, .bus, .log, .sealing, .regs] s (storeOffset s) := by
  unfold storeOffset
  dsimp only
  refine Within.utc (by decide) ?_
  refine Within.op (sealedLog_within _ _) rfl ?_
  exact Within.refl _ _

theorem leapSecond_within (s : State) :
    Within [.utc, .bus, .log, .sealing, .regs] s (leapSecond s) := by
  unfold leapSecond
  split
  · exact Within.refl _ _
  · refine Within.ite ?_ ?_
    · dsimp only
      with_reducible refine Within.ite ?_ ?_
      · refine Within.op (storeOffset_within _) rfl ?_
        refine Within.utc (by decide) ?_
        exact Within.refl _ _
      · refine Within.utc (by decide) ?_
        exact Within.refl _ _
    · exact Within.refl _ _

theorem nextLapsed_within (s : State) (u : Nat) :
    Within [.ref] s (nextLapsed s u) := by
  unfold nextLapsed
  split
  · refine Within.ite ?_ ?_
    · refine Within.op (dropWaiting_within _ _) rfl ?_
      exact Within.refl _ _
    · exact Within.refl _ _
  · exact Within.refl _ _

theorem utcCompute_within (s0 : State) :
    Within [.utc, .bus, .ref, .log, .sealing, .regs] s0 (utcCompute s0) := by
  unfold utcCompute
  dsimp only
  refine Within.lit ?_ (h2 := .inl (by decide)) (h6 := .inl (by decide))
  split
  · refine Within.utc (by decide) ?_
    refine Within.op (leapSecond_within _) rfl ?_
    refine Within.op (nextLapsed_within _ _) rfl ?_
    refine Within.op (nextLapsed_within _ _) rfl ?_
    exact Within.refl _ _
  · with_reducible refine Within.ite ?_ ?_
    · refine Within.op (storeOffset_within _) rfl ?_
      refine Within.utc (by decide) ?_
      refine Within.op (leapSecond_within _) rfl ?_
      refine Within.op (nextLapsed_within _ _) rfl ?_
      refine Within.op (nextLapsed_within _ _) rfl ?_
      exact Within.refl _ _
    · refine Within.utc (by decide) ?_
      refine Within.op (leapSecond_within _) rfl ?_
      refine Within.op (nextLapsed_within _ _) rfl ?_
      refine Within.op (nextLapsed_within _ _) rfl ?_
      exact Within.refl _ _

theorem activityWindowClose_within (i : Nat) (s : State) :
    Within [.ref] s (activityWindowClose i s) := by
  unfold activityWindowClose
  dsimp only
  split
  · exact Within.refl _ _
  · with_reducible refine Within.ite ?_ ?_
    · exact Within.refl _ _
    · refine Within.op (dropLost_within _) rfl ?_
      refine Within.op (refreshUnchecked_within _) rfl ?_
      refine Within.op (State.setSlot_within _ _ _) rfl ?_
      exact Within.refl _ _

theorem bodyTodConfig_within (c : Cmd) (s : State) :
    Within [.bus, .ref, .log, .sealing, .regs] s (bodyTodConfig c s).st := by
  unfold bodyTodConfig
  dsimp only
  refine Within.iteSt ?_ ?_
  · refine Within.op (ok_within _ _) rfl ?_
    exact Within.refl _ _
  · refine Within.iteSt ?_ ?_
    · refine Within.op (badLen_within _) rfl ?_
      exact Within.refl _ _
    · refine checked_within ?_ ?_
      · exact Within.refl _ _
      · refine Within.iteSt ?_ ?_
        · refine Within.op (err_within _ _) rfl ?_
          exact Within.refl _ _
        · refine Within.op (ok_within _ _) rfl ?_
          refine Within.ref (by decide) ?_
          refine Within.op (sealedLog_within _ _) rfl ?_
          exact Within.refl _ _

theorem applyDuplex_within (s : State) (i : Nat) :
    Within [.tim, .ref] s (applyDuplex s i) := by
  unfold applyDuplex
  dsimp only
  split
  · exact Within.refl _ _
  · with_reducible refine Within.ite ?_ ?_
    · refine Within.op (State.setDup_within _ _ _) rfl ?_
      exact Within.refl _ _
    · with_reducible refine Within.ite ?_ ?_
      · refine Within.op (State.setChan_within _ _ _) rfl ?_
        refine Within.op (State.setChan_within _ _ _) rfl ?_
        refine Within.op (refreshUnchecked_within _) rfl ?_
        refine Within.op (State.setDup_within _ _ _) rfl ?_
        exact Within.refl _ _
      · refine Within.op (refreshUnchecked_within _) rfl ?_
        refine Within.op (State.setDup_within _ _ _) rfl ?_
        exact Within.refl _ _

theorem bodyRefDuplex_within (c : Cmd) (s : State) :
    Within [.bus, .ref, .log, .sealing, .regs] s (bodyRefDuplex c s).st := by
  unfold bodyRefDuplex
  dsimp only
  refine Within.iteSt ?_ ?_
  · refine checked_within ?_ ?_
    · exact Within.refl _ _
    · refine Within.op (ok_within _ _) rfl ?_
      exact Within.refl _ _
  · refine Within.iteSt ?_ ?_
    · refine Within.op (badLen_within _) rfl ?_
      exact Within.refl _ _
    · refine checked_within ?_ ?_
      · exact Within.refl _ _
      · refine Within.iteSt ?_ ?_
        · refine Within.op (err_within _ _) rfl ?_
          exact Within.refl _ _
        · refine Within.op (ok_within _ _) rfl ?_
          refine Within.op (State.setDup_within _ _ _) rfl ?_
          refine Within.op (sealedLog_within _ _) rfl ?_
          exact Within.refl _ _

theorem applyWritten_within (i : Nat) (s : State) :
    Within [.ref] s (applyWritten i s) := by
  unfold applyWritten
  dsimp only
  refine Within.op (State.setSlot_within _ _ _) rfl ?_
  exact Within.refl _ _

theorem evaluate_within (restart : Bool) (s : State) (i : Nat) :
    Within [.ref] s (evaluate restart s i) := by
  unfold evaluate
  dsimp only
  with_reducible refine Within.ite ?_ ?_
  · refine Within.op (State.setSlot_within _ _ _) rfl ?_
    exact Within.refl _ _
  · with_reducible refine Within.ite ?_ ?_
    · exact Within.refl _ _
    · split
      · with_reducible refine Within.ite ?_ ?_
        · refine Within.op (State.setSlot_within _ _ _) rfl ?_
          exact Within.refl _ _
        · refine Within.op (State.setSlot_within _ _ _) rfl ?_
          exact Within.refl _ _
      · with_reducible refine Within.ite ?_ ?_
        · with_reducible refine Within.ite ?_ ?_
          · refine Within.op (State.setSlot_within _ _ _) rfl ?_
            exact Within.refl _ _
          · refine Within.op (State.setSlot_within _ _ _) rfl ?_
            exact Within.refl _ _
        · refine Within.op (State.setSlot_within _ _ _) rfl ?_
          exact Within.refl _ _
      · with_reducible refine Within.ite ?_ ?_
        · refine Within.op (State.setSlot_within _ _ _) rfl ?_
          exact Within.refl _ _
        · with_reducible refine Within.ite ?_ ?_
          · refine Within.op (State.setSlot_within _ _ _) rfl ?_
            exact Within.refl _ _
          · refine Within.op (State.setSlot_within _ _ _) rfl ?_
            exact Within.refl _ _
      · refine Within.op (State.setSlot_within _ _ _) rfl ?_
        exact Within.refl _ _

theorem freqEvaluation_within (s : State) :
    Within [.tim, .ref] s (freqEvaluation s) := by
  unfold freqEvaluation
  refine Within.ite ?_ ?_
  · exact Within.refl _ _
  · dsimp only
    refine Within.ref (by decide) ?_
    refine Within.foldl (fun t a => ?_) _ ?_
    · refine Within.op (evaluate_within _ _ _) rfl ?_
      exact Within.refl _ _
    · refine Within.foldl (fun t a => ?_) _ ?_
      · refine Within.op (applyDuplex_within _ _) rfl ?_
        exact Within.refl _ _
      · refine Within.foldl (fun t a => ?_) _ ?_
        · refine Within.op (applyWritten_within _ _) rfl ?_
          exact Within.refl _ _
        · refine Within.op (applyTod_within _) rfl ?_
          exact Within.refl _ _

theorem privEnd_within (n k tick : Nat) (s : State) :
    Within [.tim] s (privEnd n k tick s) := by
  unfold privEnd
  dsimp only
  refine Within.tim (by decide) ?_
  refine Within.op (State.setChan_within _ _ _) rfl ?_
  exact Within.refl _ _

theorem genEnd_within (n tick : Nat) (code : Option Nat) (endPs : Nat) (s : State) :
    Within [.free, .tim] s (genEnd n tick code endPs s) := by
  unfold genEnd
  dsimp only
  refine Within.op (State.setInterp_within _ _ _) rfl ?_
  with_reducible refine Within.ite ?_ ?_
  · exact Within.refl _ _
  · refine Within.op (drawBelow_within _ _) rfl ?_
    exact Within.refl _ _

theorem conversionEnd_within (priv : Bool) (n : Nat) (code : Option Nat) (endPs : Nat) (s : State) :
    Within [.free, .tim] s (conversionEnd priv n code endPs s) := by
  unfold conversionEnd
  refine Within.ite ?_ ?_
  · split
    · refine Within.ite ?_ ?_
      · refine Within.op (privEnd_within _ _ _ _) rfl ?_
        exact Within.refl _ _
      · exact Within.refl _ _
    · exact Within.refl _ _
  · split
    · refine Within.ite ?_ ?_
      · refine Within.op (genEnd_within _ _ _ _ _) rfl ?_
        exact Within.refl _ _
      · exact Within.refl _ _
    · exact Within.refl _ _

theorem bodyTimConfig_within (c : Cmd) (s : State) :
    Within [.bus, .tim, .log, .sealing, .regs] s (bodyTimConfig c s).st := by
  unfold bodyTimConfig
  dsimp only
  refine Within.iteSt ?_ ?_
  · refine Within.op (ok_within _ _) rfl ?_
    exact Within.refl _ _
  · refine Within.iteSt ?_ ?_
    · refine Within.op (badLen_within _) rfl ?_
      exact Within.refl _ _
    · refine checked_within ?_ ?_
      · exact Within.refl _ _
      · refine Within.iteSt ?_ ?_
        · refine Within.op (err_within _ _) rfl ?_
          exact Within.refl _ _
        · refine Within.op (ok_within _ _) rfl ?_
          refine Within.tim (by decide) ?_
          refine Within.op (sealedLog_within _ _) rfl ?_
          exact Within.refl _ _

theorem warmupWindowEnd_within (source : Nat) (freq : Freq) (s : State) :
    Within [.tim] s (warmupWindowEnd source freq s) := by
  unfold warmupWindowEnd
  dsimp only
  with_reducible refine Within.ite ?_ ?_
  · exact Within.refl _ _
  · with_reducible refine Within.ite ?_ ?_
    · refine Within.op (State.setTb_within _ _) rfl ?_
      exact Within.refl _ _
    · with_reducible refine Within.ite ?_ ?_
      · refine Within.op (State.setTb_within _ _) rfl ?_
        exact Within.refl _ _
      · refine Within.op (State.setTb_within _ _) rfl ?_
        exact Within.refl _ _

theorem holdSlot_within (i : Nat) (s : State) :
    Within [.ref] s (holdSlot i s) := by
  unfold holdSlot
  dsimp only
  with_reducible refine Within.ite ?_ ?_
  · exact Within.refl _ _
  · refine Within.op (State.setSlot_within _ _ _) rfl ?_
    exact Within.refl _ _

theorem timMeasureResult_within (s : State) :
    Within [.tim, .kcp] s (timMeasureResult s) := by
  unfold timMeasureResult
  split
  · exact Within.refl _ _
  · dsimp only
    refine answerHeld_within (by decide) ?_ (fun c t => ?_)
    · refine Within.tim (by decide) ?_
      exact Within.refl _ _
    · try dsimp only
      exact Within.refl _ _

theorem bodyTimCalStatus_within (c : Cmd) (s : State) :
    Within [] s (bodyTimCalStatus c s).st := by
  unfold bodyTimCalStatus
  dsimp only
  refine Within.iteSt ?_ ?_
  · refine Within.op (badLen_within _) rfl ?_
    exact Within.refl _ _
  · refine checked_within ?_ ?_
    · exact Within.refl _ _
    · refine Within.op (ok_within _ _) rfl ?_
      exact Within.refl _ _

theorem unlockChan_within (n : Nat) (s : State) :
    Within [.bus, .tim, .regs] s (unlockChan n s) := by
  unfold unlockChan
  dsimp only
  refine Within.op (setCond_within _ _ _ _) rfl ?_
  refine Within.op (State.setChan_within _ _ _) rfl ?_
  exact Within.refl _ _

theorem channelLockWindow_within (n : Nat) (fast slow : Freq) (s : State) :
    Within [.bus, .tim, .ref, .regs] s (channelLockWindow n fast slow s) := by
  unfold channelLockWindow
  dsimp only
  with_reducible refine Within.ite ?_ ?_
  · refine Within.op (dropLost_within _) rfl ?_
    refine Within.op (unlockChan_within _ _) rfl ?_
    refine Within.op (State.setChan_within _ _ _) rfl ?_
    exact Within.refl _ _
  · with_reducible refine Within.ite ?_ ?_
    · with_reducible refine Within.ite ?_ ?_
      · refine Within.op (setCond_within _ _ _ _) rfl ?_
        refine Within.op (State.setChan_within _ _ _) rfl ?_
        refine Within.op (State.setChan_within _ _ _) rfl ?_
        exact Within.refl _ _
      · refine Within.op (State.setChan_within _ _ _) rfl ?_
        refine Within.op (State.setChan_within _ _ _) rfl ?_
        exact Within.refl _ _
    · refine Within.op (State.setChan_within _ _ _) rfl ?_
      refine Within.op (State.setChan_within _ _ _) rfl ?_
      exact Within.refl _ _

theorem ovenRdyHigh_within (s : State) :
    Within [.tim] s (ovenRdyHigh s) := by
  unfold ovenRdyHigh
  dsimp only
  with_reducible refine Within.ite ?_ ?_
  · exact Within.refl _ _
  · refine Within.op (State.setTb_within _ _) rfl ?_
    exact Within.refl _ _

theorem interpFaultPort_within (n : Nat) (s : State) :
    Within [.fur] s (interpFaultPort n s) := by
  unfold interpFaultPort
  refine Within.ite ?_ ?_
  · dsimp only
    with_reducible refine Within.ite ?_ ?_
    · exact Within.refl _ _
    · refine Within.op (State.setPort_within _ _ _) rfl ?_
      exact Within.refl _ _
  · exact Within.refl _ _

theorem genEdge_within (n edgePs : Nat) (hit : Option Nat) (s : State) :
    Within [.tim] s (genEdge n edgePs hit s) := by
  unfold genEdge
  dsimp only
  with_reducible refine Within.ite ?_ ?_
  · refine Within.op (State.setInterp_within _ _ _) rfl ?_
    exact Within.refl _ _
  · refine Within.op (State.setInterp_within _ _ _) rfl ?_
    exact Within.refl _ _

theorem holdChan_within (n : Nat) (s : State) :
    Within [.ref] s (holdChan n s) := by
  unfold holdChan
  split
  · refine Within.op (holdSlot_within _ _) rfl ?_
    exact Within.refl _ _
  · exact Within.refl _ _

theorem timCalVerifyEnd_within (n : Nat) (hist : List Nat) (s : State) :
    Within [.tim, .ref] s (timCalVerifyEnd n hist s) := by
  unfold timCalVerifyEnd
  dsimp only
  with_reducible refine Within.ite ?_ ?_
  · exact Within.refl _ _
  · refine Within.op (holdChan_within _ _) rfl ?_
    refine Within.op (State.setChan_within _ _ _) rfl ?_
    exact Within.refl _ _

theorem chanEdge_within (n edgePs : Nat) (s : State) :
    Within [.tim] s (chanEdge n edgePs s) := by
  unfold chanEdge
  dsimp only
  with_reducible refine Within.ite ?_ ?_
  · refine Within.op (State.setChan_within _ _ _) rfl ?_
    exact Within.refl _ _
  · with_reducible refine Within.ite ?_ ?_
    · refine Within.op (State.setChan_within _ _ _) rfl ?_
      exact Within.refl _ _
    · refine Within.op (State.setChan_within _ _ _) rfl ?_
      exact Within.refl _ _

theorem privEdge_within (n edgePs : Nat) (s : State) :
    Within [.tim, .gnss] s (privEdge n edgePs s) := by
  unfold privEdge
  refine Within.ite ?_ ?_
  · refine Within.op (gnssPpsEdge_within _) rfl ?_
    refine Within.op (chanEdge_within _ _ _) rfl ?_
    exact Within.refl _ _
  · refine Within.op (chanEdge_within _ _ _) rfl ?_
    exact Within.refl _ _

theorem measuredEdge_within (priv : Bool) (n edgePs : Nat) (hit : Option Nat) (s : State) :
    Within [.tim, .gnss] s (measuredEdge priv n edgePs hit s) := by
  unfold measuredEdge
  refine Within.ite ?_ ?_
  · exact Within.refl _ _
  · refine Within.ite ?_ ?_
    · refine Within.op (privEdge_within _ _ _) rfl ?_
      exact Within.refl _ _
    · refine Within.op (genEdge_within _ _ _ _) rfl ?_
      exact Within.refl _ _

theorem bodyTbStatus_within (c : Cmd) (s : State) :
    Within [] s (bodyTbStatus c s).st := by
  unfold bodyTbStatus
  refine Within.iteSt ?_ ?_
  · refine Within.op (ok_within _ _) rfl ?_
    exact Within.refl _ _
  · refine Within.op (badLen_within _) rfl ?_
    exact Within.refl _ _

theorem startVerify_within (s : State) (n : Nat) :
    Within [.tim, .ref] s (startVerify s n) := by
  unfold startVerify
  refine Within.op (holdChan_within _ _) rfl ?_
  refine Within.op (State.setChan_within _ _ _) rfl ?_
  exact Within.refl _ _

theorem bodyTimCalRun_within (c : Cmd) (s : State) :
    Within [.tim, .ref] s (bodyTimCalRun c s).st := by
  unfold bodyTimCalRun
  dsimp only
  refine Within.iteSt ?_ ?_
  · refine Within.op (badLen_within _) rfl ?_
    exact Within.refl _ _
  · refine checked_within ?_ ?_
    · exact Within.refl _ _
    · refine Within.iteSt ?_ ?_
      · refine Within.op (err_within _ _) rfl ?_
        exact Within.refl _ _
      · refine Within.iteSt ?_ ?_
        · refine Within.op (busy_within _) rfl ?_
          exact Within.refl _ _
        · refine Within.op (pend_within _ _) rfl ?_
          refine Within.foldl (fun t a => ?_) _ ?_
          · refine Within.op (startVerify_within _ _) rfl ?_
            exact Within.refl _ _
          · exact Within.refl _ _

theorem tableReplace_within (n : Nat) (s : State) :
    Within [.tim] s (tableReplace n s) := by
  unfold tableReplace
  dsimp only
  split
  · exact Within.refl _ _
  · refine Within.op (State.setInterp_within _ _ _) rfl ?_
    exact Within.refl _ _

theorem osc0Loss_within (lockDetector : Bool) (s : State) :
    Within [.bus, .tim, .ref, .sel, .log, .regs] s (osc0Loss lockDetector s) := by
  unfold osc0Loss
  refine Within.ite ?_ ?_
  · exact Within.refl _ _
  · dsimp only
    refine Within.op (dropSteps_within _) rfl ?_
    refine Within.op (dropLost_within _) rfl ?_
    refine Within.foldl (fun t a => ?_) _ ?_
    · refine Within.op (unlockChan_within _ _) rfl ?_
      exact Within.refl _ _
    · refine Within.op (logPut_within _ _ _ _ _) rfl ?_
      refine Within.op (setCond_within _ _ _ _) rfl ?_
      refine Within.op (State.setTb_within _ _) rfl ?_
      exact Within.refl _ _

theorem apllFirstLock_within (s : State) :
    Within [.tim] s (apllFirstLock s) := by
  unfold apllFirstLock
  refine Within.ite ?_ ?_
  · exact Within.refl _ _
  · refine Within.tim (by decide) ?_
    exact Within.refl _ _

theorem interpolatorSelfcheck_within (p : Nat) (diff : Sys2Proof.Interval) (s : State) :
    Within [.bus, .tim, .regs] s (interpolatorSelfcheck p diff s) := by
  unfold interpolatorSelfcheck
  refine Within.ite ?_ ?_
  · dsimp only
    with_reducible refine Within.ite ?_ ?_
    · refine Within.op (setSticky_within _ _ _) rfl ?_
      refine Within.op (State.setInterp_within _ _ _) rfl ?_
      exact Within.refl _ _
    · refine Within.op (State.setInterp_within _ _ _) rfl ?_
      exact Within.refl _ _
  · exact Within.refl _ _

theorem osc0Relock_within (s : State) :
    Within [.bus, .tim, .osc, .log, .regs] s (osc0Relock s) := by
  unfold osc0Relock
  refine Within.ite ?_ ?_
  · exact Within.refl _ _
  · dsimp only
    with_reducible refine Within.ite ?_ ?_
    · refine Within.osc (by decide) ?_
      refine Within.op (holdoverExit_within _ _) rfl ?_
      refine Within.op (setCond_within _ _ _ _) rfl ?_
      refine Within.op (State.setTb_within _ _) rfl ?_
      exact Within.refl _ _
    · refine Within.op (holdoverExit_within _ _) rfl ?_
      refine Within.op (setCond_within _ _ _ _) rfl ?_
      refine Within.op (State.setTb_within _ _) rfl ?_
      exact Within.refl _ _

theorem bodyTimMeasure_within (c : Cmd) (s : State) :
    Within [.tim] s (bodyTimMeasure c s).st := by
  unfold bodyTimMeasure
  dsimp only
  refine Within.iteSt ?_ ?_
  · refine Within.op (badLen_within _) rfl ?_
    exact Within.refl _ _
  · refine checked_within ?_ ?_
    · exact Within.refl _ _
    · refine Within.iteSt ?_ ?_
      · refine Within.op (busy_within _) rfl ?_
        exact Within.refl _ _
      · refine Within.op (held_within _) rfl ?_
        refine Within.tim (by decide) ?_
        exact Within.refl _ _

theorem ovenRdyLow_within (s : State) :
    Within [.bus, .tim, .ref, .osc, .log, .regs] s (ovenRdyLow s) := by
  unfold ovenRdyLow
  dsimp only
  with_reducible refine Within.ite ?_ ?_
  · exact Within.refl _ _
  · refine Within.op (dropLost_within _) rfl ?_
    with_reducible refine Within.ite ?_ ?_
    · refine Within.osc (by decide) ?_
      refine Within.op (holdoverExit_within _ _) rfl ?_
      refine Within.op (State.setTb_within _ _) rfl ?_
      exact Within.refl _ _
    · refine Within.op (holdoverExit_within _ _) rfl ?_
      refine Within.op (State.setTb_within _ _) rfl ?_
      exact Within.refl _ _

theorem refreshComplete_within (n : Nat) (h : List Nat) (s : State) :
    Within [.bus, .tim, .fur, .regs] s (refreshComplete n h s) := by
  unfold refreshComplete
  dsimp only
  with_reducible refine Within.ite ?_ ?_
  · exact Within.refl _ _
  · with_reducible refine Within.ite ?_ ?_
    · refine Within.op (State.setInterp_within _ _ _) rfl ?_
      exact Within.refl _ _
    · with_reducible refine Within.ite ?_ ?_
      · refine Within.op (interpFaultPort_within _ _) rfl ?_
        refine Within.op (setSticky_within _ _ _) rfl ?_
        refine Within.op (State.setInterp_within _ _ _) rfl ?_
        exact Within.refl _ _
      · refine Within.op (State.setInterp_within _ _ _) rfl ?_
        exact Within.refl _ _

theorem refreshStart_within (n : Nat) (s : State) :
    Within [.tim] s (refreshStart n s) := by
  unfold refreshStart
  dsimp only
  with_reducible refine Within.ite ?_ ?_
  · exact Within.refl _ _
  · refine Within.op (State.setInterp_within _ _ _) rfl ?_
    exact Within.refl _ _

theorem judgeAlarm_within (size : Sys2Proof.Interval) (s : State) :
    Within [.bus, .sel, .regs] s (judgeAlarm size s) := by
  unfold judgeAlarm
  refine Within.ite ?_ ?_
  · refine Within.op (setSticky_within _ _ _) rfl ?_
    refine Within.sel (by decide) ?_
    exact Within.refl _ _
  · exact Within.refl _ _

theorem noteSwitched_within (s : State) :
    Within [.sel] s (noteSwitched s) := by
  unfold noteSwitched
  refine Within.sel (by decide) ?_
  exact Within.refl _ _

theorem startSettle_within (i : Nat) (s : State) :
    Within [.sel] s (startSettle i s) := by
  unfold startSettle
  dsimp only
  refine Within.sel (by decide) ?_
  exact Within.refl _ _

theorem settleStep_within (i : Nat) (size : Sys2Proof.Interval) (bStep : Nat) (s : State) :
    Within [.sel, .bnd] s (settleStep i size bStep s) := by
  unfold settleStep
  dsimp only
  with_reducible refine Within.ite ?_ ?_
  · refine Within.op (startSettle_within _ _) rfl ?_
    exact Within.refl _ _
  · refine Within.lit ?_ (h7 := .inl (by decide)) (h9 := .inl (by decide))
    refine Within.op (startSettle_within _ _) rfl ?_
    exact Within.refl _ _

theorem selectAt_within (i : Nat) (p : PendingStep) (s : State) :
    Within [.bus, .ref, .sel, .osc, .bnd, .log, .regs] s (selectAt i p s) := by
  unfold selectAt
  dsimp only
  split
  · refine Within.lit ?_ (h8 := .inl (by decide)) (h7 := .inl (by decide)) (h9 := .inl (by decide))
    refine Within.op (State.setSlot_within _ _ _) rfl ?_
    exact Within.refl _ _
  · refine Within.osc (by decide) ?_
    refine Within.op (holdoverExit_within _ _) rfl ?_
    refine Within.lit ?_ (h7 := .inl (by decide)) (h9 := .inl (by decide))
    refine Within.op (State.setSlot_within _ _ _) rfl ?_
    exact Within.refl _ _
  · refine Within.lit ?_ (h7 := .inl (by decide)) (h9 := .inl (by decide))
    refine Within.op (State.setSlot_within _ _ _) rfl ?_
    exact Within.refl _ _

theorem startGuard_within (s : State) :
    Within [.sel] s (startGuard s) := by
  unfold startGuard
  refine Within.sel (by decide) ?_
  exact Within.refl _ _

theorem atMarker_within (s : State) :
    Within [.bus, .sel, .bnd] s (atMarker s) := by
  unfold atMarker
  refine Within.lit ?_ (h3 := .inl (by decide)) (h7 := .inl (by decide)) (h9 := .inl (by decide))
  exact Within.refl _ _

theorem operatorMarked_within (setsTime : Bool) (s : State) :
    Within [.sel] s (operatorMarked setsTime s) := by
  unfold operatorMarked
  refine Within.sel (by decide) ?_
  exact Within.refl _ _

theorem markerEffects_within (p : PendingStep) (s : State) :
    Within [.bus, .ref, .sel, .osc, .bnd, .log, .regs] s (markerEffects p s) := by
  unfold markerEffects
  split
  · refine Within.op (noteSwitched_within _) rfl ?_
    refine Within.op (settleStep_within _ _ _ _) rfl ?_
    refine Within.op (selectAt_within _ _ _) rfl ?_
    refine Within.op (startGuard_within _) rfl ?_
    refine Within.op (atMarker_within _) rfl ?_
    exact Within.refl _ _
  · refine Within.op (operatorMarked_within _ _) rfl ?_
    refine Within.op (startGuard_within _) rfl ?_
    refine Within.op (atMarker_within _) rfl ?_
    exact Within.refl _ _
  · refine Within.op (settleStep_within _ _ _ _) rfl ?_
    refine Within.op (atMarker_within _) rfl ?_
    exact Within.refl _ _

theorem commitStep_within (p : PendingStep) (detail id : Nat) (s : State) :
    Within [.bus, .sel, .log, .regs] s (commitStep p detail id s) := by
  unfold commitStep
  dsimp only
  refine Within.sel (by decide) ?_
  refine Within.op (logAt_within _ _ _ _ _ _) rfl ?_
  exact Within.refl _ _

theorem discoverOne_within (s : State) (j : Judged) :
    Within [.bus, .bnd, .log, .regs] s (discoverOne s j) := by
  unfold discoverOne
  refine Within.ite ?_ ?_
  · dsimp only
    refine Within.lit ?_ (h3 := .inl (by decide)) (h9 := .inl (by decide))
    refine Within.op (setSticky_within _ _ _) rfl ?_
    refine Within.op (logPut_within _ _ _ _ _) rfl ?_
    exact Within.refl _ _
  · exact Within.refl _ _

theorem judgeMirrored_within (size : Sys2Proof.Interval) (eff : FieldTime) (s : State) :
    Within [.bus, .bnd, .log, .regs] s (judgeMirrored size eff s) := by
  unfold judgeMirrored
  refine Within.ite ?_ ?_
  · refine Within.op (discoverOne_within _ _) rfl ?_
    exact Within.refl _ _
  · exact Within.refl _ _

theorem stepMirror_within (s : State) :
    Within [.bus, .sel, .bnd, .log, .regs] s (stepMirror s) := by
  unfold stepMirror
  split
  · exact Within.refl _ _
  · refine Within.ite ?_ ?_
    · exact Within.refl _ _
    · dsimp only
      refine Within.op (judgeMirrored_within _ _ _) rfl ?_
      refine Within.op (judgeAlarm_within _ _) rfl ?_
      refine Within.op (commitStep_within _ _ _ _) rfl ?_
      exact Within.refl _ _

theorem decideSwitch_within (tk : FieldTime) (slot : Nat) (exempt freeze : Bool) (cmd : Option Nat) (s : State) :
    Within [.sel] s (decideSwitch tk slot exempt freeze cmd s) := by
  unfold decideSwitch
  refine Within.sel (by decide) ?_
  exact Within.refl _ _

theorem bodyDpllConfig_within (c : Cmd) (s : State) :
    Within [.sel] s (bodyDpllConfig c s).st := by
  unfold bodyDpllConfig
  dsimp only
  refine Within.iteSt ?_ ?_
  · refine Within.op (ok_within _ _) rfl ?_
    exact Within.refl _ _
  · refine Within.iteSt ?_ ?_
    · refine Within.op (badLen_within _) rfl ?_
      exact Within.refl _ _
    · refine checked_within ?_ ?_
      · exact Within.refl _ _
      · refine Within.op (ok_within _ _) rfl ?_
        refine Within.sel (by decide) ?_
        exact Within.refl _ _

theorem operatorStep_within (off detail : Nat) (size : Sys2Proof.Interval) (setsTime : Bool) (c : Cmd) (s : State) :
    Within [.bus, .sel, .log, .regs] s (operatorStep off detail size setsTime c s).st := by
  unfold operatorStep
  dsimp only
  refine Within.iteSt ?_ ?_
  · refine Within.op (bad_within _ _) rfl ?_
    exact Within.refl _ _
  · refine Within.op (ok_within _ _) rfl ?_
    refine Within.op (commitStep_within _ _ _ _) rfl ?_
    exact Within.refl _ _

theorem abortSwitch_within (s : State) :
    Within [.sel] s (abortSwitch s) := by
  unfold abortSwitch
  split
  · exact Within.refl _ _
  · refine Within.sel (by decide) ?_
    exact Within.refl _ _

theorem commitSwitch_within (tk : FieldTime) (w : Switching) (s : State) :
    Within [.bus, .sel, .bnd, .log, .regs] s (commitSwitch tk w s) := by
  unfold commitSwitch
  dsimp only
  with_reducible refine Within.ite ?_ ?_
  · refine Within.op (abortSwitch_within _) rfl ?_
    exact Within.refl _ _
  · refine Within.lit ?_ (h7 := .inl (by decide)) (h9 := .inl (by decide))
    with_reducible refine Within.ite ?_ ?_
    · refine Within.op (commitStep_within _ _ _ _) rfl ?_
      exact Within.refl _ _
    · refine Within.op (judgeAlarm_within _ _) rfl ?_
      refine Within.op (commitStep_within _ _ _ _) rfl ?_
      exact Within.refl _ _

theorem bodySelPolicy_within (c : Cmd) (s : State) :
    Within [.sel] s (bodySelPolicy c s).st := by
  unfold bodySelPolicy
  dsimp only
  refine Within.iteSt ?_ ?_
  · refine Within.op (ok_within _ _) rfl ?_
    exact Within.refl _ _
  · refine Within.iteSt ?_ ?_
    · refine Within.op (badLen_within _) rfl ?_
      exact Within.refl _ _
    · refine checked_within ?_ ?_
      · exact Within.refl _ _
      · refine Within.op (ok_within _ _) rfl ?_
        refine Within.sel (by decide) ?_
        exact Within.refl _ _

theorem shiftReports_within (d : Sys2Proof.Interval) (mirrored : Bool) (s : State) :
    Within [.bus] s (shiftReports d mirrored s) := by
  unfold shiftReports
  refine Within.bus (by decide) ?_
  exact Within.refl _ _

theorem shiftUarts_within (d : Sys2Proof.Interval) (s : State) :
    Within [.ref] s (shiftUarts d s) := by
  unfold shiftUarts
  refine Within.foldl (fun t a => ?_) _ ?_
  · refine Within.op (State.setUart_within _ _ _) rfl ?_
    exact Within.refl _ _
  · exact Within.refl _ _

theorem shiftAll_within (d : Sys2Proof.Interval) (mirrored : Bool) (s : State) :
    Within [.bus, .ref, .sel] s (shiftAll d mirrored s) := by
  unfold shiftAll
  dsimp only
  refine Within.foldl (fun t a => ?_) _ ?_
  · refine Within.op (State.setDup_within _ _ _) rfl ?_
    exact Within.refl _ _
  · refine Within.op (shiftReports_within _ _ _) rfl ?_
    refine Within.op (shiftUarts_within _ _) rfl ?_
    refine Within.sel (by decide) ?_
    refine Within.foldl (fun t a => ?_) _ ?_
    · refine Within.op (State.setSlot_within _ _ _) rfl ?_
      exact Within.refl _ _
    · exact Within.refl _ _

theorem applyStep_within (p : PendingStep) (s : State) :
    Within [.acc, .bus, .ref, .sel, .bnd, .syn, .kcp] s (applyStep p s) := by
  unfold applyStep
  dsimp only
  with_reducible refine Within.ite ?_ ?_
  · refine Within.bnd (by decide) ?_
    exact Within.refl _ _
  · refine Within.op (outputStep_within _ _ _ _) rfl ?_
    refine Within.lit ?_ (h0 := .inl (by decide)) (h3 := .inl (by decide)) (h6 := .inl (by decide)) (h9 := .inl (by
        decide)) (h21 := .inl (by decide))
    refine Within.op (shiftAll_within _ _ _) rfl ?_
    exact Within.refl _ _

theorem stepEffective_within (s : State) :
    Within [.acc, .bus, .ref, .sel, .osc, .bnd, .log, .syn, .kcp, .regs] s (stepEffective s) := by
  unfold stepEffective
  split
  · exact Within.refl _ _
  · refine Within.ite ?_ ?_
    · exact Within.refl _ _
    · dsimp only
      refine Within.op (markerEffects_within _ _) rfl ?_
      with_reducible refine Within.ite ?_ ?_
      · refine Within.sel (by decide) ?_
        exact Within.refl _ _
      · refine Within.op (applyStep_within _ _) rfl ?_
        refine Within.sel (by decide) ?_
        exact Within.refl _ _

theorem restartSettle_within (i : Nat) (s : State) :
    Within [.sel, .bnd] s (restartSettle i s) := by
  unfold restartSettle
  dsimp only
  refine Within.lit ?_ (h7 := .inl (by decide)) (h9 := .inl (by decide))
  refine Within.op (startSettle_within _ _) rfl ?_
  exact Within.refl _ _

theorem dpllApply_within (s : State) :
    Within [.sel, .bnd] s (dpllApply s) := by
  unfold dpllApply
  dsimp only
  split
  · refine Within.op (restartSettle_within _ _) rfl ?_
    refine Within.sel (by decide) ?_
    exact Within.refl _ _
  · refine Within.sel (by decide) ?_
    exact Within.refl _ _

theorem dropSelected_within (s : State) :
    Within [.sel] s (dropSelected s) := by
  unfold dropSelected
  refine Within.sel (by decide) ?_
  exact Within.refl _ _

theorem State.setFreeze_within (s : State) (f : Option Freeze) :
    Within [.sel] s (State.setFreeze s f) := by
  unfold State.setFreeze
  refine Within.sel (by decide) ?_
  exact Within.refl _ _

theorem trackPhase_within (i : Nat) (s : State) (j : Nat) :
    Within [.ref, .sel] s (trackPhase i s j) := by
  unfold trackPhase
  dsimp only
  split
  · with_reducible refine Within.ite ?_ ?_
    · refine Within.op (State.setSlot_within _ _ _) rfl ?_
      refine Within.op (State.setFreeze_within _ _) rfl ?_
      exact Within.refl _ _
    · refine Within.op (State.setFreeze_within _ _) rfl ?_
      exact Within.refl _ _
  · with_reducible refine Within.ite ?_ ?_
    · exact Within.refl _ _
    · with_reducible refine Within.ite ?_ ?_
      · refine Within.sel (by decide) ?_
        refine Within.op (State.setSlot_within _ _ _) rfl ?_
        exact Within.refl _ _
      · refine Within.op (State.setFreeze_within _ _) rfl ?_
        exact Within.refl _ _

theorem dpllUpdate_within (i : Nat) (tk : FieldTime) (s : State) :
    Within [.sel] s (dpllUpdate i tk s) := by
  unfold dpllUpdate
  dsimp only
  with_reducible refine Within.ite ?_ ?_
  · refine Within.sel (by decide) ?_
    exact Within.refl _ _
  · with_reducible refine Within.ite ?_ ?_
    · refine Within.sel (by decide) ?_
      exact Within.refl _ _
    · refine Within.sel (by decide) ?_
      exact Within.refl _ _

theorem trackSelected_within (tk : FieldTime) (s : State) :
    Within [.ref, .sel] s (trackSelected tk s) := by
  unfold trackSelected
  split
  · exact Within.refl _ _
  · dsimp only
    with_reducible refine Within.ite ?_ ?_
    · refine Within.op (dropSelected_within _) rfl ?_
      refine Within.op (State.setFreeze_within _ _) rfl ?_
      refine Within.sel (by decide) ?_
      refine Within.foldl (fun t a => ?_) _ ?_
      · refine Within.op (trackPhase_within _ _ _) rfl ?_
        exact Within.refl _ _
      · exact Within.refl _ _
    · refine Within.op (dpllUpdate_within _ _ _) rfl ?_
      refine Within.op (State.setFreeze_within _ _) rfl ?_
      refine Within.sel (by decide) ?_
      refine Within.foldl (fun t a => ?_) _ ?_
      · refine Within.op (trackPhase_within _ _ _) rfl ?_
        exact Within.refl _ _
      · exact Within.refl _ _

theorem startSwitch_within (tk : FieldTime) (cand : Option Nat) (s : State) :
    Within [.sel] s (startSwitch tk cand s) := by
  unfold startSwitch
  dsimp only
  with_reducible refine Within.ite ?_ ?_
  · refine Within.op (decideSwitch_within _ _ _ _ _ _) rfl ?_
    exact Within.refl _ _
  · with_reducible refine Within.ite ?_ ?_
    · with_reducible refine Within.ite ?_ ?_
      · exact Within.refl _ _
      · refine Within.sel (by decide) ?_
        exact Within.refl _ _
    · split
      · with_reducible refine Within.ite ?_ ?_
        · refine Within.op (decideSwitch_within _ _ _ _ _ _) rfl ?_
          refine Within.sel (by decide) ?_
          exact Within.refl _ _
        · refine Within.sel (by decide) ?_
          exact Within.refl _ _
      · refine Within.sel (by decide) ?_
        exact Within.refl _ _

theorem transaction_within (tk : FieldTime) (s : State) :
    Within [.bus, .sel, .bnd, .log, .regs] s (transaction tk s) := by
  unfold transaction
  refine Within.ite ?_ ?_
  · exact Within.refl _ _
  · split
    · refine Within.ite ?_ ?_
      · refine Within.op (abortSwitch_within _) rfl ?_
        exact Within.refl _ _
      · refine Within.ite ?_ ?_
        · refine Within.op (commitSwitch_within _ _ _) rfl ?_
          exact Within.refl _ _
        · exact Within.refl _ _
    · split
      · dsimp only
        with_reducible refine Within.ite ?_ ?_
        · refine Within.op (decideSwitch_within _ _ _ _ _ _) rfl ?_
          refine Within.sel (by decide) ?_
          exact Within.refl _ _
        · refine Within.lit ?_ (h7 := .inl (by decide))
          exact Within.refl _ _
      · refine Within.op (startSwitch_within _ _ _) rfl ?_
        exact Within.refl _ _

theorem selReport_within (tk : FieldTime) (s : State) :
    Within [.sel] s (selReport tk s) := by
  unfold selReport
  dsimp only
  refine Within.sel (by decide) ?_
  exact Within.refl _ _

theorem selCompute_within (tk : FieldTime) (s : State) :
    Within [.bus, .ref, .sel, .bnd, .log, .regs] s (selCompute tk s) := by
  unfold selCompute
  dsimp only
  refine Within.op (transaction_within _ _) rfl ?_
  refine Within.op (selReport_within _ _) rfl ?_
  refine Within.sel (by decide) ?_
  refine Within.op (trackSelected_within _ _) rfl ?_
  with_reducible refine Within.ite ?_ ?_
  · refine Within.op (dropSelected_within _) rfl ?_
    refine Within.op (dpllApply_within _) rfl ?_
    exact Within.refl _ _
  · refine Within.op (dpllApply_within _) rfl ?_
    exact Within.refl _ _

theorem abortByForce_within (s : State) :
    Within [.sel] s (abortByForce s) := by
  unfold abortByForce
  refine Within.ite ?_ ?_
  · refine Within.op (abortSwitch_within _) rfl ?_
    exact Within.refl _ _
  · exact Within.refl _ _

theorem bodySelClearForce_within (c : Cmd) (s : State) :
    Within [.sel] s (bodySelClearForce c s).st := by
  unfold bodySelClearForce
  refine Within.iteSt ?_ ?_
  · refine Within.op (badLen_within _) rfl ?_
    exact Within.refl _ _
  · dsimp only
    refine Within.op (ok_within _ _) rfl ?_
    refine Within.sel (by decide) ?_
    refine Within.op (abortByForce_within _) rfl ?_
    exact Within.refl _ _

theorem bodyTimeSet_within (c : Cmd) (s : State) :
    Within [.bus, .sel, .log, .regs] s (bodyTimeSet c s).st := by
  unfold bodyTimeSet
  dsimp only
  refine Within.iteSt ?_ ?_
  · refine Within.op (badLen_within _) rfl ?_
    exact Within.refl _ _
  · refine checked_within ?_ ?_
    · exact Within.refl _ _
    · refine Within.iteSt ?_ ?_
      · split
        · refine Within.op (err_within _ _) rfl ?_
          exact Within.refl _ _
        · refine Within.iteSt ?_ ?_
          · refine Within.op (busy_within _) rfl ?_
            exact Within.refl _ _
          · refine Within.op (waits_within _) rfl ?_
            refine Within.sel (by decide) ?_
            exact Within.refl _ _
      · refine Within.iteSt ?_ ?_
        · refine Within.op (err_within _ _) rfl ?_
          exact Within.refl _ _
        · refine Within.op (operatorStep_within _ _ _ _ _ _) rfl ?_
          exact Within.refl _ _

theorem guardExpiry_within (s : State) :
    Within [.sel] s (guardExpiry s) := by
  unfold guardExpiry
  refine Within.ite ?_ ?_
  · refine Within.sel (by decide) ?_
    exact Within.refl _ _
  · exact Within.refl _ _

theorem bodyTimeAdjust_within (c : Cmd) (s : State) :
    Within [.bus, .sel, .log, .regs] s (bodyTimeAdjust c s).st := by
  unfold bodyTimeAdjust
  dsimp only
  refine Within.iteSt ?_ ?_
  · refine Within.op (badLen_within _) rfl ?_
    exact Within.refl _ _
  · refine checked_within ?_ ?_
    · exact Within.refl _ _
    · refine Within.iteSt ?_ ?_
      · refine Within.op (err_within _ _) rfl ?_
        exact Within.refl _ _
      · refine Within.op (operatorStep_within _ _ _ _ _ _) rfl ?_
        exact Within.refl _ _

theorem settleEnd_within (s : State) :
    Within [.sel, .osc, .bnd] s (settleEnd s) := by
  unfold settleEnd
  dsimp only
  with_reducible refine Within.ite ?_ ?_
  · refine Within.lit ?_ (h8 := .inl (by decide)) (h9 := .inl (by decide)) (h7 := .inl (by decide))
    exact Within.refl _ _
  · refine Within.lit ?_ (h7 := .inl (by decide)) (h9 := .inl (by decide))
    exact Within.refl _ _

theorem bodySelForce_within (c : Cmd) (s : State) :
    Within [.sel] s (bodySelForce c s).st := by
  unfold bodySelForce
  dsimp only
  refine Within.iteSt ?_ ?_
  · refine Within.op (badLen_within _) rfl ?_
    exact Within.refl _ _
  · refine checked_within ?_ ?_
    · exact Within.refl _ _
    · refine Within.iteSt ?_ ?_
      · refine Within.op (err_within _ _) rfl ?_
        exact Within.refl _ _
      · refine Within.op (ok_within _ _) rfl ?_
        refine Within.sel (by decide) ?_
        refine Within.op (abortByForce_within _) rfl ?_
        exact Within.refl _ _

theorem wtrExpiry_within (i : Nat) (s : State) :
    Within [.ref] s (wtrExpiry i s) := by
  unfold wtrExpiry
  refine Within.ite ?_ ?_
  · refine Within.op (State.setSlot_within _ _ _) rfl ?_
    exact Within.refl _ _
  · exact Within.refl _ _

theorem answerTimeSet_within (s : State) :
    Within [.sel, .kcp] s (answerTimeSet s) := by
  unfold answerTimeSet
  split
  · exact Within.refl _ _
  · dsimp only
    refine answerHeld_within (by decide) ?_ (fun c t => ?_)
    · refine Within.sel (by decide) ?_
      exact Within.refl _ _
    · split
      · refine Within.op (ok_within _ _) rfl ?_
        exact Within.refl _ _
      · refine Within.op (err_within _ _) rfl ?_
        exact Within.refl _ _

theorem bodySelStatus_within (c : Cmd) (s : State) :
    Within [] s (bodySelStatus c s).st := by
  unfold bodySelStatus
  refine Within.iteSt ?_ ?_
  · refine Within.op (ok_within _ _) rfl ?_
    exact Within.refl _ _
  · refine Within.op (badLen_within _) rfl ?_
    exact Within.refl _ _

theorem tempRead_within (i : Nat) (raw : Option Nat) (s : State) :
    Within [.osc] s (tempRead i raw s) := by
  unfold tempRead
  dsimp only
  with_reducible refine Within.ite ?_ ?_
  · exact Within.refl _ _
  · refine Within.osc (by decide) ?_
    refine Within.op (State.setOsci_within _ _ _) rfl ?_
    exact Within.refl _ _

theorem sealedWrite_within {ps : List Part} {a s : State} {ws : List SealedWrite} {k : State → Res}
    (hs : covers ps [.bus, .log, .sealing, .regs] = true) (h : Within ps a s) (hk : ∀ t, Within ps t (k t).st) :
    Within ps a (sealedWrite ws s k).st := by
  unfold sealedWrite
  split
  · exact h
  · exact (Within.op (sealedLog_within ws s) hs h).trans (hk _)

theorem writeLearn_within (p : List Byte) (s : State) :
    Within [.bus, .osc, .log, .sealing, .regs] s (writeLearn p s).st := by
  unfold writeLearn
  dsimp only
  refine Within.iteSt ?_ ?_
  · refine Within.op (err_within _ _) rfl ?_
    exact Within.refl _ _
  · refine sealedWrite_within rfl ?_ (fun t => ?_)
    · exact Within.refl _ _
    · refine Within.iteSt ?_ ?_
      · refine Within.op (pend_within _ _) rfl ?_
        with_reducible refine Within.ite ?_ ?_
        · refine Within.foldl (fun t a => ?_) _ ?_
          · refine Within.op (State.setOsci_within _ _ _) rfl ?_
            exact Within.refl _ _
          · refine Within.osc (by decide) ?_
            exact Within.refl _ _
        · refine Within.osc (by decide) ?_
          exact Within.refl _ _
      · refine Within.op (ok_within _ _) rfl ?_
        with_reducible refine Within.ite ?_ ?_
        · refine Within.foldl (fun t a => ?_) _ ?_
          · refine Within.op (State.setOsci_within _ _ _) rfl ?_
            exact Within.refl _ _
          · refine Within.osc (by decide) ?_
            exact Within.refl _ _
        · refine Within.osc (by decide) ?_
          exact Within.refl _ _

theorem bodyHoldoverLearn_within (c : Cmd) (s : State) :
    Within [.bus, .osc, .log, .sealing, .regs] s (bodyHoldoverLearn c s).st := by
  unfold bodyHoldoverLearn
  dsimp only
  refine Within.iteSt ?_ ?_
  · refine Within.op (ok_within _ _) rfl ?_
    exact Within.refl _ _
  · refine Within.iteSt ?_ ?_
    · refine Within.op (badLen_within _) rfl ?_
      exact Within.refl _ _
    · refine checked_within ?_ ?_
      · exact Within.refl _ _
      · refine Within.op (writeLearn_within _ _) rfl ?_
        exact Within.refl _ _

theorem memberJoin_within (i : Nat) (s : State) :
    Within [.osc] s (memberJoin i s) := by
  unfold memberJoin
  dsimp only
  split
  · with_reducible refine Within.ite ?_ ?_
    · refine Within.op (State.setOsci_within _ _ _) rfl ?_
      exact Within.refl _ _
    · exact Within.refl _ _
  · exact Within.refl _ _

theorem writeOsc_within (i : Nat) (p : List Byte) (s : State) :
    Within [.bus, .osc, .log, .sealing, .regs] s (writeOsc i p s).st := by
  unfold writeOsc
  dsimp only
  refine sealedWrite_within rfl ?_ (fun t => ?_)
  · exact Within.refl _ _
  · refine Within.op (ok_within _ _) rfl ?_
    refine Within.op (State.setOsci_within _ _ _) rfl ?_
    exact Within.refl _ _

theorem sampleMember_within (endSec : Nat) (keep : Bool) (s : State) (i : Nat) :
    Within [.osc] s (sampleMember endSec keep s i) := by
  unfold sampleMember
  dsimp only
  refine Within.op (State.setOsci_within _ _ _) rfl ?_
  exact Within.refl _ _

theorem learningSample_within (s : State) :
    Within [.osc] s (learningSample s) := by
  unfold learningSample
  dsimp only
  with_reducible refine Within.ite ?_ ?_
  · exact Within.refl _ _
  · refine Within.osc (by decide) ?_
    refine Within.foldl (fun t a => ?_) _ ?_
    · refine Within.op (sampleMember_within _ _ _ _) rfl ?_
      exact Within.refl _ _
    · exact Within.refl _ _

theorem memberSums_within (r : Freq) (s : State) (i : Nat) :
    Within [.osc] s (memberSums r s i) := by
  unfold memberSums
  dsimp only
  refine Within.op (State.setOsci_within _ _ _) rfl ?_
  exact Within.refl _ _

theorem afterTest_within (s0 : State) (three : Bool) (s : State) (i : Nat) :
    Within [.osc] s (afterTest s0 three s i) := by
  unfold afterTest
  dsimp only
  refine Within.op (State.setOsci_within _ _ _) rfl ?_
  exact Within.refl _ _

theorem secondEnd_within (s : State) (i : Nat) :
    Within [.osc] s (secondEnd s i) := by
  unfold secondEnd
  dsimp only
  refine Within.op (State.setOsci_within _ _ _) rfl ?_
  exact Within.refl _ _

theorem rateCompute_within (s : State) :
    Within [.sel, .osc] s (rateCompute s) := by
  unfold rateCompute
  dsimp only
  refine Within.lit ?_ (h7 := .inl (by decide)) (h8 := .inl (by decide))
  exact Within.refl _ _

theorem loseMember_within (s : State) (i : Nat) (st : MemberState) (mark : Option (Nat × Int)) :
    Within [.osc] s (loseMember s i st mark) := by
  unfold loseMember
  dsimp only
  refine Within.op (State.setOsci_within _ _ _) rfl ?_
  exact Within.refl _ _

theorem memberStep_within (s : State) (i : Nat) :
    Within [.osc] s (memberStep s i) := by
  unfold memberStep
  dsimp only
  with_reducible refine Within.ite ?_ ?_
  · refine Within.op (State.setOsci_within _ _ _) rfl ?_
    exact Within.refl _ _
  · with_reducible refine Within.ite ?_ ?_
    · refine Within.op (State.setOsci_within _ _ _) rfl ?_
      exact Within.refl _ _
    · with_reducible refine Within.ite ?_ ?_
      · refine Within.op (loseMember_within _ _ _ _) rfl ?_
        exact Within.refl _ _
      · split
        · with_reducible refine Within.ite ?_ ?_
          · refine Within.op (State.setOsci_within _ _ _) rfl ?_
            exact Within.refl _ _
          · refine Within.op (loseMember_within _ _ _ _) rfl ?_
            exact Within.refl _ _
        · refine Within.op (State.setOsci_within _ _ _) rfl ?_
          exact Within.refl _ _

theorem newWeights_within (s : State) :
    Within [.osc] s (newWeights s) := by
  unfold newWeights
  dsimp only
  refine Within.osc (by decide) ?_
  refine Within.foldl (fun t a => ?_) _ ?_
  · refine Within.op (State.setOsci_within _ _ _) rfl ?_
    exact Within.refl _ _
  · exact Within.refl _ _

theorem reweigh_within (e : Nat → Freq) (s : State) :
    Within [.osc] s (reweigh e s) := by
  unfold reweigh
  dsimp only
  refine Within.osc (by decide) ?_
  refine Within.op (newWeights_within _) rfl ?_
  exact Within.refl _ _

theorem ensCompute_within (tk : FieldTime) (s : State) :
    Within [.osc] s (ensCompute tk s) := by
  unfold ensCompute
  dsimp only
  with_reducible refine Within.ite ?_ ?_
  · refine Within.osc (by decide) ?_
    refine Within.foldl (fun t a => ?_) _ ?_
    · refine Within.op (memberSums_within _ _ _) rfl ?_
      exact Within.refl _ _
    · with_reducible refine Within.ite ?_ ?_
      · refine Within.osc (by decide) ?_
        refine Within.foldl (fun t a => ?_) _ ?_
        · refine Within.op (State.setOsci_within _ _ _) rfl ?_
          exact Within.refl _ _
        · refine Within.foldl (fun t a => ?_) _ ?_
          · refine Within.op (memberStep_within _ _) rfl ?_
            exact Within.refl _ _
          · exact Within.refl _ _
      · refine Within.op (reweigh_within _ _) rfl ?_
        refine Within.foldl (fun t a => ?_) _ ?_
        · refine Within.op (State.setOsci_within _ _ _) rfl ?_
          exact Within.refl _ _
        · refine Within.foldl (fun t a => ?_) _ ?_
          · refine Within.op (memberStep_within _ _) rfl ?_
            exact Within.refl _ _
          · exact Within.refl _ _
  · refine Within.osc (by decide) ?_
    refine Within.foldl (fun t a => ?_) _ ?_
    · refine Within.op (secondEnd_within _ _) rfl ?_
      exact Within.refl _ _
    · refine Within.lit ?_ (h8 := .inl (by decide))
      refine Within.foldl (fun t a => ?_) _ ?_
      · refine Within.op (memberSums_within _ _ _) rfl ?_
        exact Within.refl _ _
      · with_reducible refine Within.ite ?_ ?_
        · refine Within.osc (by decide) ?_
          refine Within.foldl (fun t a => ?_) _ ?_
          · refine Within.op (State.setOsci_within _ _ _) rfl ?_
            exact Within.refl _ _
          · refine Within.foldl (fun t a => ?_) _ ?_
            · refine Within.op (memberStep_within _ _) rfl ?_
              exact Within.refl _ _
            · exact Within.refl _ _
        · refine Within.op (reweigh_within _ _) rfl ?_
          refine Within.foldl (fun t a => ?_) _ ?_
          · refine Within.op (State.setOsci_within _ _ _) rfl ?_
            exact Within.refl _ _
          · refine Within.foldl (fun t a => ?_) _ ?_
            · refine Within.op (memberStep_within _ _) rfl ?_
              exact Within.refl _ _
            · exact Within.refl _ _

theorem ensembleTest_within (s : State) :
    Within [.osc] s (ensembleTest s) := by
  unfold ensembleTest
  dsimp only
  with_reducible refine Within.ite ?_ ?_
  · exact Within.refl _ _
  · with_reducible refine Within.ite ?_ ?_
    · refine Within.osc (by decide) ?_
      refine Within.foldl (fun t a => ?_) _ ?_
      · refine Within.op (afterTest_within _ _ _ _) rfl ?_
        exact Within.refl _ _
      · exact Within.refl _ _
    · refine Within.op (reweigh_within _ _) rfl ?_
      refine Within.osc (by decide) ?_
      refine Within.foldl (fun t a => ?_) _ ?_
      · refine Within.op (afterTest_within _ _ _ _) rfl ?_
        exact Within.refl _ _
      · exact Within.refl _ _

theorem writeModel_within (i : Nat) (p : List Byte) (s : State) :
    Within [.bus, .osc, .log, .sealing, .regs] s (writeModel i p s).st := by
  unfold writeModel
  dsimp only
  refine sealedWrite_within rfl ?_ (fun t => ?_)
  · exact Within.refl _ _
  · refine Within.op (ok_within _ _) rfl ?_
    refine Within.op (State.setOsci_within _ _ _) rfl ?_
    exact Within.refl _ _

theorem bodyHoldoverModel_within (c : Cmd) (s : State) :
    Within [.bus, .osc, .log, .sealing, .regs] s (bodyHoldoverModel c s).st := by
  unfold bodyHoldoverModel
  dsimp only
  refine Within.iteSt ?_ ?_
  · refine checked_within ?_ ?_
    · exact Within.refl _ _
    · refine Within.op (ok_within _ _) rfl ?_
      exact Within.refl _ _
  · refine Within.iteSt ?_ ?_
    · refine Within.op (badLen_within _) rfl ?_
      exact Within.refl _ _
    · refine checked_within ?_ ?_
      · exact Within.refl _ _
      · refine Within.op (writeModel_within _ _ _) rfl ?_
        exact Within.refl _ _

theorem bodyOscConfig_within (c : Cmd) (s : State) :
    Within [.bus, .osc, .log, .sealing, .regs] s (bodyOscConfig c s).st := by
  unfold bodyOscConfig
  dsimp only
  refine Within.iteSt ?_ ?_
  · refine checked_within ?_ ?_
    · exact Within.refl _ _
    · refine Within.op (ok_within _ _) rfl ?_
      exact Within.refl _ _
  · refine Within.iteSt ?_ ?_
    · refine Within.op (badLen_within _) rfl ?_
      exact Within.refl _ _
    · refine Within.iteSt ?_ ?_
      · refine checked_within ?_ ?_
        · exact Within.refl _ _
        · refine sealedWrite_within rfl ?_ (fun t => ?_)
          · exact Within.refl _ _
          · refine Within.op (ok_within _ _) rfl ?_
            refine Within.osc (by decide) ?_
            exact Within.refl _ _
      · refine checked_within ?_ ?_
        · exact Within.refl _ _
        · refine Within.op (writeOsc_within _ _ _) rfl ?_
          exact Within.refl _ _

theorem fitMember_within (s : State) (i : Nat) :
    Within [.osc] s (fitMember s i) := by
  unfold fitMember
  dsimp only
  refine Within.op (State.setOsci_within _ _ _) rfl ?_
  refine Within.op (State.setOsci_within _ _ _) rfl ?_
  exact Within.refl _ _

theorem holdoverFit_within (s : State) :
    Within [.osc] s (holdoverFit s) := by
  unfold holdoverFit
  dsimp only
  with_reducible refine Within.ite ?_ ?_
  · exact Within.refl _ _
  · refine Within.osc (by decide) ?_
    refine Within.foldl (fun t a => ?_) _ ?_
    · refine Within.op (fitMember_within _ _) rfl ?_
      exact Within.refl _ _
    · exact Within.refl _ _

theorem bodyEnsembleStatus_within (c : Cmd) (s : State) :
    Within [] s (bodyEnsembleStatus c s).st := by
  unfold bodyEnsembleStatus
  refine Within.iteSt ?_ ?_
  · refine Within.op (ok_within _ _) rfl ?_
    exact Within.refl _ _
  · refine Within.op (badLen_within _) rfl ?_
    exact Within.refl _ _

theorem closeWindow_within (detail : Nat) (s : State) :
    Within [.bus, .log, .sealing, .regs] s (closeWindow detail s) := by
  unfold closeWindow
  dsimp only
  refine Within.sealing (by decide) ?_
  with_reducible refine Within.ite ?_ ?_
  · refine Within.op (setCond_within _ _ _ _) rfl ?_
    refine Within.op (logPut_within _ _ _ _ _) rfl ?_
    exact Within.refl _ _
  · refine Within.op (logPut_within _ _ _ _ _) rfl ?_
    exact Within.refl _ _

theorem sealedPortFields_within (s : State) :
    Within [.bus] s (sealedPortFields s) := by
  unfold sealedPortFields
  refine Within.bus (by decide) ?_
  exact Within.refl _ _

theorem reloadSealed_within (s : State) :
    Within [.regs] s (reloadSealed s) := by
  unfold reloadSealed
  refine Within.ite ?_ ?_
  · refine Within.op (rewriteWord_within _ _ _) rfl ?_
    exact Within.refl _ _
  · exact Within.refl _ _

theorem pressStuck_within (verify : Bool) (s : State) :
    Within [.bus, .sealing, .regs] s (pressStuck verify s) := by
  unfold pressStuck
  dsimp only
  split
  · with_reducible refine Within.ite ?_ ?_
    · refine Within.op (setCond_within _ _ _ _) rfl ?_
      refine Within.sealing (by decide) ?_
      exact Within.refl _ _
    · exact Within.refl _ _
  · exact Within.refl _ _

theorem logWriteEvent_within (type detail id value : Nat) (flashOk : Bool) (s : State) :
    Within [.bus, .log, .regs] s (logWriteEvent type detail id value flashOk s) := by
  unfold logWriteEvent
  refine Within.op (logPut_within _ _ _ _ _) rfl ?_
  refine Within.log (by decide) ?_
  exact Within.refl _ _

theorem bodyLogRead_within (c : Cmd) (s : State) :
    Within [.log] s (bodyLogRead c s).st := by
  unfold bodyLogRead
  dsimp only
  refine Within.iteSt ?_ ?_
  · refine Within.op (badLen_within _) rfl ?_
    exact Within.refl _ _
  · refine checked_within ?_ ?_
    · exact Within.refl _ _
    · refine Within.op (ok_within _ _) rfl ?_
      with_reducible refine Within.ite ?_ ?_
      · refine Within.log (by decide) ?_
        exact Within.refl _ _
      · exact Within.refl _ _

theorem enterFreeRun_within (b : Bound) (s : State) :
    Within [.bus, .sel, .osc, .bnd, .log, .regs] s (enterFreeRun b s) := by
  unfold enterFreeRun
  dsimp only
  refine Within.lit ?_ (h7 := .inl (by decide)) (h8 := .inl (by decide)) (h9 := .inl (by decide))
  refine Within.op (logPut_within _ _ _ _ _) rfl ?_
  exact Within.refl _ _

theorem holdoverEnd_within (prev : Bound) (s : State) :
    Within [.bus, .sel, .osc, .bnd, .log, .regs] s (holdoverEnd prev s) := by
  unfold holdoverEnd
  refine Within.ite ?_ ?_
  · dsimp only
    refine Within.bnd (by decide) ?_
    refine Within.op (enterFreeRun_within _ _) rfl ?_
    refine Within.op (holdoverExit_within _ _) rfl ?_
    exact Within.refl _ _
  · exact Within.refl _ _

theorem armedExpiry_within (s : State) :
    Within [.sealing] s (armedExpiry s) := by
  unfold armedExpiry
  split
  · refine Within.ite ?_ ?_
    · refine Within.sealing (by decide) ?_
      exact Within.refl _ _
    · exact Within.refl _ _
  · exact Within.refl _ _

theorem sealPress_within (s : State) :
    Within [.sealing] s (sealPress s) := by
  unfold sealPress
  dsimp only
  with_reducible refine Within.ite ?_ ?_
  · exact Within.refl _ _
  · refine Within.sealing (by decide) ?_
    exact Within.refl _ _

theorem bodyMetrologyId_within (c : Cmd) (s : State) :
    Within [.sealing] s (bodyMetrologyId c s).st := by
  unfold bodyMetrologyId
  refine Within.iteSt ?_ ?_
  · refine Within.op (badLen_within _) rfl ?_
    exact Within.refl _ _
  · dsimp only
    split
    · refine Within.op (ok_within _ _) rfl ?_
      refine Within.sealing (by decide) ?_
      exact Within.refl _ _
    · refine Within.op (ok_within _ _) rfl ?_
      exact Within.refl _ _

theorem smbAlertAcknowledge_within (s : State) :
    Within [.sealing] s (smbAlertAcknowledge s) := by
  unfold smbAlertAcknowledge
  refine Within.sealing (by decide) ?_
  exact Within.refl _ _

theorem logFlush_within (flashOk : Bool) (s : State) :
    Within [.bus, .log, .regs] s (logFlush flashOk s) := by
  unfold logFlush
  refine Within.ite ?_ ?_
  · exact Within.refl _ _
  · dsimp only
    refine Within.op (setCond_within _ _ _ _) rfl ?_
    refine Within.lit ?_ (h3 := .inl (by decide)) (h10 := .inl (by decide))
    exact Within.refl _ _

theorem verifyPress_within (s : State) :
    Within [.sealing, .regs] s (verifyPress s) := by
  unfold verifyPress
  dsimp only
  with_reducible refine Within.ite ?_ ?_
  · exact Within.refl _ _
  · refine Within.op (irqArrive_within _ _ _) rfl ?_
    refine Within.sealing (by decide) ?_
    exact Within.refl _ _

theorem deliverWaiting_within (s : State) (i : Nat) :
    Within [.ref, .sel] s (deliverWaiting s i) := by
  unfold deliverWaiting
  dsimp only
  refine Within.foldl (fun t a => ?_) _ ?_
  · refine Within.op (deliver_within _ _ _) rfl ?_
    exact Within.refl _ _
  · refine Within.op (State.setSlot_within _ _ _) rfl ?_
    exact Within.refl _ _

theorem computeStart_within (s : State) :
    Within [.tim, .gnss] s (computeStart s) := by
  unfold computeStart
  refine Within.lit ?_ (h4 := .inl (by decide)) (h5 := .inl (by decide))
  exact Within.refl _ _

theorem enterHoldover_within (tk : FieldTime) (frozen : Freq) (fromModel : Bool) (h0 : Nat) (s : State) :
    Within [.bus, .sel, .osc, .bnd, .log, .regs] s (enterHoldover tk frozen fromModel h0 s) := by
  unfold enterHoldover
  dsimp only
  refine Within.lit ?_ (h7 := .inl (by decide)) (h8 := .inl (by decide)) (h9 := .inl (by decide))
  refine Within.op (logAt_within _ _ _ _ _ _) rfl ?_
  exact Within.refl _ _

theorem lossState_within (tk : FieldTime) (s : State) :
    Within [.bus, .sel, .osc, .bnd, .log, .regs] s (lossState tk s) := by
  unfold lossState
  split
  · refine Within.ite ?_ ?_
    · dsimp only
      refine Within.op (enterHoldover_within _ _ _ _ _) rfl ?_
      exact Within.refl _ _
    · refine Within.ite ?_ ?_
      · refine Within.op (enterHoldover_within _ _ _ _ _) rfl ?_
        exact Within.refl _ _
      · refine Within.op (enterFreeRun_within _ _) rfl ?_
        exact Within.refl _ _
  · refine Within.ite ?_ ?_
    · refine Within.lit ?_ (h7 := .inl (by decide)) (h8 := .inl (by decide))
      exact Within.refl _ _
    · refine Within.op (enterFreeRun_within _ _) rfl ?_
      exact Within.refl _ _
  · exact Within.refl _ _

theorem mStateCompute_within (tk : FieldTime) (s : State) :
    Within [.bus, .sel, .osc, .bnd, .log, .regs] s (mStateCompute tk s) := by
  unfold mStateCompute
  refine Within.ite ?_ ?_
  · refine Within.ite ?_ ?_
    · split
      · refine Within.op (enterFreeRun_within _ _) rfl ?_
        exact Within.refl _ _
      · refine Within.op (startSettle_within _ _) rfl ?_
        refine Within.lit ?_ (h7 := .inl (by decide)) (h8 := .inl (by decide))
        exact Within.refl _ _
    · exact Within.refl _ _
  · refine Within.ite ?_ ?_
    · refine Within.op (lossState_within _ _) rfl ?_
      exact Within.refl _ _
    · exact Within.refl _ _

theorem discover_within (s : State) :
    Within [.bus, .bnd, .log, .regs] s (discover s) := by
  unfold discover
  refine Within.foldl (fun t a => ?_) _ ?_
  · refine Within.op (discoverOne_within _ _) rfl ?_
    exact Within.refl _ _
  · refine Within.bnd (by decide) ?_
    exact Within.refl _ _

theorem growthCompute_within (look : FieldTime) (s : State) :
    Within [.bnd] s (growthCompute look s) := by
  unfold growthCompute
  dsimp only
  refine Within.bnd (by decide) ?_
  exact Within.refl _ _

theorem boundCompute_within (tk : FieldTime) (s : State) :
    Within [.bnd] s (boundCompute tk s) := by
  unfold boundCompute
  dsimp only
  refine Within.bnd (by decide) ?_
  refine Within.op (growthCompute_within _ _) rfl ?_
  exact Within.refl _ _

theorem computeAt_within (tk : FieldTime) (s0 : State) :
    Within [.utc, .bus, .tim, .gnss, .ref, .sel, .osc, .bnd, .log, .sealing, .regs] s0 (computeAt tk s0) := by
  unfold computeAt
  dsimp only
  refine Within.lit ?_ (h8 := .inl (by decide)) (h9 := .inl (by decide))
  refine Within.op (holdoverEnd_within _ _) rfl ?_
  refine Within.op (discover_within _) rfl ?_
  refine Within.op (boundCompute_within _ _) rfl ?_
  refine Within.op (rateCompute_within _) rfl ?_
  refine Within.op (mStateCompute_within _ _) rfl ?_
  refine Within.op (selCompute_within _ _) rfl ?_
  refine Within.op (ensCompute_within _ _) rfl ?_
  refine Within.op (utcCompute_within _) rfl ?_
  refine Within.op (readReports_within _) rfl ?_
  refine Within.foldl (fun t a => ?_) _ ?_
  · refine Within.op (deliverWaiting_within _ _) rfl ?_
    exact Within.refl _ _
  · refine Within.op (dropLost_within _) rfl ?_
    refine Within.op (computeStart_within _) rfl ?_
    refine Within.op (reloadSealed_within _) rfl ?_
    exact Within.refl _ _

theorem inputReleased_within (verify : Bool) (s : State) :
    Within [.bus, .sealing, .regs] s (inputReleased verify s) := by
  unfold inputReleased
  dsimp only
  refine Within.op (setCond_within _ _ _ _) rfl ?_
  refine Within.sealing (by decide) ?_
  exact Within.refl _ _

theorem bodyBoundStatus_within (c : Cmd) (s : State) :
    Within [] s (bodyBoundStatus c s).st := by
  unfold bodyBoundStatus
  refine Within.iteSt ?_ ?_
  · refine Within.op (ok_within _ _) rfl ?_
    exact Within.refl _ _
  · refine Within.op (badLen_within _) rfl ?_
    exact Within.refl _ _

theorem bodyBoundParams_within (c : Cmd) (s : State) :
    Within [.bus, .bnd, .log, .sealing, .regs] s (bodyBoundParams c s).st := by
  unfold bodyBoundParams
  dsimp only
  refine Within.iteSt ?_ ?_
  · refine Within.op (ok_within _ _) rfl ?_
    exact Within.refl _ _
  · refine Within.iteSt ?_ ?_
    · refine Within.op (badLen_within _) rfl ?_
      exact Within.refl _ _
    · refine checked_within ?_ ?_
      · exact Within.refl _ _
      · refine sealedWrite_within rfl ?_ (fun t => ?_)
        · exact Within.refl _ _
        · refine Within.op (ok_within _ _) rfl ?_
          refine Within.bnd (by decide) ?_
          exact Within.refl _ _

theorem bodySealBreakOpen_within (c : Cmd) (s : State) :
    Within [.bus, .log, .sealing, .regs] s (bodySealBreakOpen c s).st := by
  unfold bodySealBreakOpen
  refine Within.iteSt ?_ ?_
  · refine Within.op (badLen_within _) rfl ?_
    exact Within.refl _ _
  · refine Within.iteSt ?_ ?_
    · refine Within.op (err_within _ _) rfl ?_
      exact Within.refl _ _
    · refine Within.iteSt ?_ ?_
      · refine Within.op (err_within _ _) rfl ?_
        exact Within.refl _ _
      · refine Within.iteSt ?_ ?_
        · refine Within.op (err_within _ _) rfl ?_
          exact Within.refl _ _
        · dsimp only
          refine Within.op (ok_within _ _) rfl ?_
          refine Within.sealing (by decide) ?_
          refine Within.op (logPut_within _ _ _ _ _) rfl ?_
          refine Within.sealing (by decide) ?_
          exact Within.refl _ _

theorem bodySealClose_within (c : Cmd) (s : State) :
    Within [.bus, .log, .sealing, .regs] s (bodySealClose c s).st := by
  unfold bodySealClose
  refine Within.iteSt ?_ ?_
  · refine Within.op (badLen_within _) rfl ?_
    exact Within.refl _ _
  · refine Within.iteSt ?_ ?_
    · refine Within.op (err_within _ _) rfl ?_
      exact Within.refl _ _
    · refine Within.op (ok_within _ _) rfl ?_
      refine Within.op (closeWindow_within _ _) rfl ?_
      exact Within.refl _ _

theorem sealWindowTimeout_within (s : State) :
    Within [.bus, .log, .sealing, .regs] s (sealWindowTimeout s) := by
  unfold sealWindowTimeout
  split
  · refine Within.ite ?_ ?_
    · refine Within.op (closeWindow_within _ _) rfl ?_
      exact Within.refl _ _
    · exact Within.refl _ _
  · exact Within.refl _ _

theorem faultReplicaUpdate_within (s : State) :
    Within [.regs] s (faultReplicaUpdate s) := by
  unfold faultReplicaUpdate
  dsimp only
  refine Within.foldl (fun t a => ?_) _ ?_
  · refine Within.op (irqArrive_within _ _ _) rfl ?_
    exact Within.refl _ _
  · refine Within.regs (by decide) ?_
    exact Within.refl _ _

theorem enterServing_within (s : State) :
    Within [.pwr] s (enterServing s) := by
  unfold enterServing
  refine Within.ite ?_ ?_
  · refine Within.pwr (by decide) ?_
    exact Within.refl _ _
  · exact Within.refl _ _

theorem applyRoles_within (s : State) :
    Within [.bus, .key, .regs] s (applyRoles s) := by
  unfold applyRoles
  split
  · exact Within.refl _ _
  · dsimp only
    refine Within.op (keepSlots_within _) rfl ?_
    refine Within.key (by decide) ?_
    exact Within.refl _ _

theorem hearViolation_within (s : State) :
    Within [.evd, .kcp] s (hearViolation s) := by
  unfold hearViolation
  dsimp only
  with_reducible refine Within.ite ?_ ?_
  · refine Within.lit ?_ (h16 := .inl (by decide)) (h21 := .inl (by decide))
    with_reducible refine Within.ite ?_ ?_
    · refine Within.evd (by decide) ?_
      exact Within.refl _ _
    · exact Within.refl _ _
  · with_reducible refine Within.ite ?_ ?_
    · refine Within.evd (by decide) ?_
      exact Within.refl _ _
    · exact Within.refl _ _

theorem sMarker_within (good : Bool) (s : State) :
    Within [.bus, .key, .evd, .kcp, .regs, .pwr] s (sMarker good s) := by
  unfold sMarker
  dsimp only
  refine Within.op (enterServing_within _) rfl ?_
  refine Within.op (applyRoles_within _) rfl ?_
  with_reducible refine Within.ite ?_ ?_
  · refine Within.op (hearViolation_within _) rfl ?_
    refine Within.bus (by decide) ?_
    exact Within.refl _ _
  · refine Within.bus (by decide) ?_
    exact Within.refl _ _

theorem State.setClaimPath_within (s : State) (t : Nat) (x : ClaimPath) :
    Within [.bus] s (State.setClaimPath s t x) := by
  unfold State.setClaimPath
  refine Within.bus (by decide) ?_
  exact Within.refl _ _

theorem claimWord_within (t : Nat) (noise : Option Nat) (s : State) :
    Within [.bus, .regs] s (claimWord t noise s) := by
  unfold claimWord
  dsimp only
  with_reducible refine Within.ite ?_ ?_
  · refine Within.op (setCond_within _ _ _ _) rfl ?_
    refine Within.op (State.setClaimPath_within _ _ _) rfl ?_
    exact Within.refl _ _
  · with_reducible refine Within.ite ?_ ?_
    · refine Within.op (setCond_within _ _ _ _) rfl ?_
      refine Within.op (State.setClaimPath_within _ _ _) rfl ?_
      exact Within.refl _ _
    · refine Within.op (State.setClaimPath_within _ _ _) rfl ?_
      exact Within.refl _ _

theorem State.setReplica_within (s : State) (i : Nat) (x : Replica) :
    Within [.bus] s (State.setReplica s i x) := by
  unfold State.setReplica
  refine Within.bus (by decide) ?_
  exact Within.refl _ _

theorem timeNsRead_within (s : State) :
    Within [.bus] s (timeNsRead s) := by
  unfold timeNsRead
  dsimp only
  refine Within.bus (by decide) ?_
  exact Within.refl _ _

theorem slotReport_within (i : Nat) (upTo : FieldTime) (s : State) :
    Within [.bus] s (slotReport i upTo s) := by
  unfold slotReport
  dsimp only
  split
  · exact Within.refl _ _
  · refine Within.bus (by decide) ?_
    exact Within.refl _ _

theorem goodFrame_within (die : Nat) (f : Frame) (s : State) :
    Within [.bus, .regs] s (goodFrame die f s) := by
  unfold goodFrame
  dsimp only
  with_reducible refine Within.ite ?_ ?_
  · refine Within.op (setCond_within _ _ _ _) rfl ?_
    refine Within.op (State.setReplica_within _ _ _) rfl ?_
    exact Within.refl _ _
  · refine Within.op (State.setReplica_within _ _ _) rfl ?_
    exact Within.refl _ _

theorem badFrame_within (die : Nat) (s : State) :
    Within [.bus, .regs] s (badFrame die s) := by
  unfold badFrame
  dsimp only
  with_reducible refine Within.ite ?_ ?_
  · refine Within.op (setCond_within _ _ _ _) rfl ?_
    refine Within.op (State.setReplica_within _ _ _) rfl ?_
    exact Within.refl _ _
  · refine Within.op (State.setReplica_within _ _ _) rfl ?_
    exact Within.refl _ _

theorem timeBusFrame_within (s : State) :
    Within [.bus] s (timeBusFrame s) := by
  unfold timeBusFrame
  refine Within.ite ?_ ?_
  · exact Within.refl _ _
  · dsimp only
    refine Within.bus (by decide) ?_
    exact Within.refl _ _

theorem frameReceive_within (die : Nat) (noise : Option Nat) (s : State) :
    Within [.bus, .key, .evd, .kcp, .regs, .pwr] s (frameReceive die noise s) := by
  unfold frameReceive
  split
  · dsimp only
    with_reducible refine Within.ite ?_ ?_
    · exact Within.refl _ _
    · with_reducible refine Within.ite ?_ ?_
      · refine Within.op (sMarker_within _ _) rfl ?_
        with_reducible refine Within.ite ?_ ?_
        · refine Within.op (goodFrame_within _ _ _) rfl ?_
          exact Within.refl _ _
        · refine Within.op (badFrame_within _ _) rfl ?_
          exact Within.refl _ _
      · with_reducible refine Within.ite ?_ ?_
        · refine Within.op (goodFrame_within _ _ _) rfl ?_
          exact Within.refl _ _
        · refine Within.op (badFrame_within _ _) rfl ?_
          exact Within.refl _ _
  · refine Within.ite ?_ ?_
    · refine Within.op (sMarker_within _ _) rfl ?_
      refine Within.op (badFrame_within _ _) rfl ?_
      exact Within.refl _ _
    · refine Within.op (badFrame_within _ _) rfl ?_
      exact Within.refl _ _

end Sys2Proof.Machine
end

