-- ==== Sys2Proof/Laws/WithinPorts.lean ====
section
/-! SUPPORT. The parts of the state that an operation may change, one lemma for each operation: keys, evidence, engines' shared operations, Ethernet and furrow ports. -/

-- One theorem after another: elaborated side by side, their proofs wait on one another in dozens of threads.
set_option Elab.async false

namespace Sys2Proof.Machine
open Sys2Proof

theorem countNoKey_within (s : State) :
    Within [.key] s (countNoKey s) := by
  unfold countNoKey
  refine Within.key (by decide) ?_
  exact Within.refl _ _

theorem rollEpoch_within (s : State) (t : Nat) :
    Within [.free, .key] s (rollEpoch s t) := by
  unfold rollEpoch
  refine Within.ite ?_ ?_
  · exact Within.refl _ _
  · dsimp only
    refine Within.op (State.setTenant_within _ _ _) rfl ?_
    refine Within.op (split_within _ _) rfl ?_
    exact Within.refl _ _

theorem deriveEpochs_within (s : State) (t : Nat) :
    Within [.free, .key] s (deriveEpochs s t) := by
  unfold deriveEpochs
  refine Within.ite ?_ ?_
  · exact Within.refl _ _
  · dsimp only
    refine Within.op (State.setTenant_within _ _ _) rfl ?_
    refine Within.op (split_within _ _) rfl ?_
    refine Within.op (split_within _ _) rfl ?_
    exact Within.refl _ _

theorem epochRoll_within (s : State) :
    Within [.free, .key] s (epochRoll s) := by
  unfold epochRoll
  dsimp only
  with_reducible refine Within.ite ?_ ?_
  · exact Within.refl _ _
  · with_reducible refine Within.ite ?_ ?_
    · refine Within.foldl (fun t a => ?_) _ ?_
      · refine Within.op (rollEpoch_within _ _) rfl ?_
        exact Within.refl _ _
      · refine Within.key (by decide) ?_
        exact Within.refl _ _
    · refine Within.foldl (fun t a => ?_) _ ?_
      · refine Within.op (deriveEpochs_within _ _) rfl ?_
        exact Within.refl _ _
      · refine Within.key (by decide) ?_
        exact Within.refl _ _

theorem countDenied_within (s : State) :
    Within [.key] s (countDenied s) := by
  unfold countDenied
  refine Within.key (by decide) ?_
  exact Within.refl _ _

theorem evidenceKey_within (t : Nat) (s : State) :
    Within [.free, .key] s (evidenceKey t s).2 := by
  unfold evidenceKey
  refine Within.iteSnd ?_ ?_
  · try dsimp only
    exact Within.refl _ _
  · refine Within.iteSnd ?_ ?_
    · try dsimp only
      refine Within.op (countDenied_within _) rfl ?_
      exact Within.refl _ _
    · split
      · try dsimp only
        exact Within.refl _ _
      · dsimp only
        try dsimp only
        refine Within.key (by decide) ?_
        refine Within.op (split_within _ _) rfl ?_
        exact Within.refl _ _

theorem deriveLink_within (p ix : Nat) (s : State) :
    Within [.free, .key] s (deriveLink p ix s).2 := by
  unfold deriveLink
  refine Within.iteSnd ?_ ?_
  · try dsimp only
    exact Within.refl _ _
  · split
    · try dsimp only
      exact Within.refl _ _
    · dsimp only
      refine Within.iteSnd ?_ ?_
      · try dsimp only
        refine Within.op (countDenied_within _) rfl ?_
        exact Within.refl _ _
      · try dsimp only
        refine Within.op (split_within _ _) rfl ?_
        exact Within.refl _ _

theorem State.setPk_within (s : State) (p : Nat) (x : PortKeys) :
    Within [.key] s (State.setPk s p x) := by
  unfold State.setPk
  refine Within.key (by decide) ?_
  exact Within.refl _ _

theorem assignNow_within (p : Nat) (s : State) (ix : Nat) :
    Within [.free, .key] s (assignNow p s ix) := by
  unfold assignNow
  dsimp only
  refine Within.op (State.setPk_within _ _ _) rfl ?_
  refine Within.op (deriveLink_within _ _ _) rfl ?_
  exact Within.refl _ _

theorem applyLinkIndex_within (p : Nat) (s : State) :
    Within [.free, .key] s (applyLinkIndex p s) := by
  unfold applyLinkIndex
  dsimp only
  refine Within.foldl (fun t a => ?_) _ ?_
  · refine Within.op (assignNow_within _ _ _) rfl ?_
    exact Within.refl _ _
  · refine Within.op (State.setPk_within _ _ _) rfl ?_
    exact Within.refl _ _

theorem destroySlot_within (cls : Nat) (s : State) (i : Nat) :
    Within [.key] s (destroySlot cls s i) := by
  unfold destroySlot
  dsimp only
  with_reducible refine Within.ite ?_ ?_
  · exact Within.refl _ _
  · with_reducible refine Within.ite ?_ ?_
    · refine Within.key (by decide) ?_
      refine Within.op (setKeySlot_within _ _ _ _) rfl ?_
      exact Within.refl _ _
    · with_reducible refine Within.ite ?_ ?_
      · refine Within.key (by decide) ?_
        refine Within.op (setKeySlot_within _ _ _ _) rfl ?_
        exact Within.refl _ _
      · refine Within.op (setKeySlot_within _ _ _ _) rfl ?_
        exact Within.refl _ _

theorem startInvalidation_within (id : Nat) (rotate : Bool) (cls : Nat) (slots : List Nat) (s : State) :
    Within [.key] s (startInvalidation id rotate cls slots s) := by
  unfold startInvalidation
  dsimp only
  refine Within.key (by decide) ?_
  refine Within.foldl (fun t a => ?_) _ ?_
  · refine Within.op (destroySlot_within _ _ _) rfl ?_
    exact Within.refl _ _
  · exact Within.refl _ _

theorem bodyKeyInvalidate_within (c : Cmd) (s : State) :
    Within [.key] s (bodyKeyInvalidate c s).st := by
  unfold bodyKeyInvalidate
  dsimp only
  refine Within.iteSt ?_ ?_
  · refine Within.op (badLen_within _) rfl ?_
    exact Within.refl _ _
  · refine checked_within ?_ ?_
    · exact Within.refl _ _
    · split
      · refine Within.op (bad_within _ _) rfl ?_
        exact Within.refl _ _
      · refine Within.iteSt ?_ ?_
        · refine Within.op (err_within _ _) rfl ?_
          exact Within.refl _ _
        · refine Within.op (held_within _) rfl ?_
          refine Within.op (startInvalidation_within _ _ _ _ _) rfl ?_
          exact Within.refl _ _

theorem assignIndex_within (idx : Nat) (s : State) (p : Nat) :
    Within [.free, .key] s (assignIndex idx s p) := by
  unfold assignIndex
  dsimp only
  with_reducible refine Within.ite ?_ ?_
  · refine Within.op (applyLinkIndex_within _ _) rfl ?_
    refine Within.op (State.setPk_within _ _ _) rfl ?_
    exact Within.refl _ _
  · refine Within.op (State.setPk_within _ _ _) rfl ?_
    exact Within.refl _ _

theorem rederiveLinks_within (p : Nat) (s : State) :
    Within [.free, .key] s (rederiveLinks p s) := by
  unfold rederiveLinks
  dsimp only
  refine Within.op (State.setPk_within _ _ _) rfl ?_
  refine Within.op (deriveLink_within _ _ _) rfl ?_
  refine Within.op (deriveLink_within _ _ _) rfl ?_
  exact Within.refl _ _

theorem bodyNtsMasterRotate_within (c : Cmd) (s : State) :
    Within [.key] s (bodyNtsMasterRotate c s).st := by
  unfold bodyNtsMasterRotate
  dsimp only
  refine Within.iteSt ?_ ?_
  · refine Within.op (badLen_within _) rfl ?_
    exact Within.refl _ _
  · refine checked_within ?_ ?_
    · exact Within.refl _ _
    · refine Within.iteSt ?_ ?_
      · refine Within.op (err_within _ _) rfl ?_
        exact Within.refl _ _
      · refine Within.iteSt ?_ ?_
        · refine Within.op (bad_within _ _) rfl ?_
          exact Within.refl _ _
        · refine Within.iteSt ?_ ?_
          · refine Within.op (err_within _ _) rfl ?_
            exact Within.refl _ _
          · refine Within.iteSt ?_ ?_
            · refine Within.op (err_within _ _) rfl ?_
              exact Within.refl _ _
            · refine Within.iteSt ?_ ?_
              · refine Within.op (held_within _) rfl ?_
                refine Within.op (startInvalidation_within _ _ _ _ _) rfl ?_
                refine Within.key (by decide) ?_
                exact Within.refl _ _
              · refine Within.op (ok_within _ _) rfl ?_
                refine Within.key (by decide) ?_
                exact Within.refl _ _

theorem writeKey_within (cls slot recipients ig : Nat) (k : List Byte) (s : State) :
    Within [.free, .bus, .key, .regs] s (writeKey cls slot recipients ig k s) := by
  unfold writeKey
  dsimp only
  with_reducible refine Within.ite ?_ ?_
  · refine Within.op (deriveEpochs_within _ _) rfl ?_
    refine Within.op (writeArea_within _ _) rfl ?_
    refine Within.op (setKeySlot_within _ _ _ _) rfl ?_
    refine Within.iteSnd ?_ ?_
    · refine Within.op (drawRandom_within _ _) rfl ?_
      refine Within.op (split_within _ _) rfl ?_
      exact Within.refl _ _
    · try dsimp only
      refine Within.op (split_within _ _) rfl ?_
      exact Within.refl _ _
  · refine Within.op (writeArea_within _ _) rfl ?_
    refine Within.op (setKeySlot_within _ _ _ _) rfl ?_
    refine Within.iteSnd ?_ ?_
    · refine Within.op (drawRandom_within _ _) rfl ?_
      refine Within.op (split_within _ _) rfl ?_
      exact Within.refl _ _
    · try dsimp only
      refine Within.op (split_within _ _) rfl ?_
      exact Within.refl _ _

theorem bodyKeyWrite_within (c : Cmd) (s : State) :
    Within [.free, .bus, .key, .regs] s (bodyKeyWrite c s).st := by
  unfold bodyKeyWrite
  dsimp only
  refine Within.iteSt ?_ ?_
  · refine Within.op (badLen_within _) rfl ?_
    exact Within.refl _ _
  · refine checked_within ?_ ?_
    · exact Within.refl _ _
    · refine Within.iteSt ?_ ?_
      · refine Within.op (badLen_within _) rfl ?_
        exact Within.refl _ _
      · refine checked_within ?_ ?_
        · exact Within.refl _ _
        · refine Within.iteSt ?_ ?_
          · refine Within.op (err_within _ _) rfl ?_
            exact Within.refl _ _
          · refine Within.iteSt ?_ ?_
            · refine Within.op (bad_within _ _) rfl ?_
              exact Within.refl _ _
            · refine Within.iteSt ?_ ?_
              · refine Within.op (err_within _ _) rfl ?_
                exact Within.refl _ _
              · refine Within.op (ok_within _ _) rfl ?_
                refine Within.op (writeKey_within _ _ _ _ _ _) rfl ?_
                exact Within.refl _ _

theorem rngHealthFail_within (s : State) :
    Within [.bus, .key, .regs] s (rngHealthFail s) := by
  unfold rngHealthFail
  refine Within.op (setCond_within _ _ _ _) rfl ?_
  refine Within.key (by decide) ?_
  exact Within.refl _ _

theorem rngRecover_within (s : State) :
    Within [.bus, .key, .regs] s (rngRecover s) := by
  unfold rngRecover
  refine Within.op (setCond_within _ _ _ _) rfl ?_
  refine Within.key (by decide) ?_
  exact Within.refl _ _

theorem loadDevice_within (s : State) :
    Within [.free, .key] s (loadDevice s) := by
  unfold loadDevice
  dsimp only
  refine Within.key (by decide) ?_
  refine Within.foldlSnd (fun t a => ?_) _ ?_
  · try dsimp only
    refine Within.op (split_within _ _) rfl ?_
    exact Within.refl _ _
  · try dsimp only
    exact Within.refl _ _

theorem visitShares_within (x : Shares) (valid : Bool) (n : Nat) (s : State) :
    Within [.free] s (visitShares x valid n s).2 := by
  unfold visitShares
  dsimp only
  refine Within.iteSnd ?_ ?_
  · try dsimp only
    refine Within.op (drawRandom_within _ _) rfl ?_
    exact Within.refl _ _
  · try dsimp only
    refine Within.op (drawRandom_within _ _) rfl ?_
    refine Within.op (drawRandom_within _ _) rfl ?_
    exact Within.refl _ _

theorem visitPort_within (s : State) (p : Nat) :
    Within [.free, .key] s (visitPort s p) := by
  unfold visitPort
  dsimp only
  refine Within.op (State.setPk_within _ _ _) rfl ?_
  split
  · try dsimp only
    refine Within.op (visitShares_within _ _ _ _) rfl ?_
    split
    · try dsimp only
      refine Within.op (visitShares_within _ _ _ _) rfl ?_
      exact Within.refl _ _
    · try dsimp only
      exact Within.refl _ _
  · try dsimp only
    split
    · try dsimp only
      refine Within.op (visitShares_within _ _ _ _) rfl ?_
      exact Within.refl _ _
    · try dsimp only
      exact Within.refl _ _

theorem wrappedStoreWritten_within (s : State) :
    Within [.bus, .key, .kcp, .regs] s (wrappedStoreWritten s) := by
  unfold wrappedStoreWritten
  split
  · exact Within.refl _ _
  · dsimp only
    refine answerHeld_within (by decide) ?_ (fun c t => ?_)
    · refine Within.op (writeArea_within _ _) rfl ?_
      refine Within.key (by decide) ?_
      exact Within.refl _ _
    · refine Within.op (ok_within _ _) rfl ?_
      exact Within.refl _ _

theorem visitPosition_within (n : Nat) (s : State) :
    Within [.free, .key] s (visitPosition n s) := by
  unfold visitPosition
  refine Within.ite ?_ ?_
  · dsimp only
    refine Within.op (State.setTenant_within _ _ _) rfl ?_
    refine Within.op (visitShares_within _ _ _ _) rfl ?_
    exact Within.refl _ _
  · refine Within.ite ?_ ?_
    · dsimp only
      refine Within.op (State.setTenant_within _ _ _) rfl ?_
      refine Within.op (visitShares_within _ _ _ _) rfl ?_
      exact Within.refl _ _
    · refine Within.ite ?_ ?_
      · split
        · dsimp only
          refine Within.key (by decide) ?_
          refine Within.op (visitShares_within _ _ _ _) rfl ?_
          exact Within.refl _ _
        · dsimp only
          refine Within.key (by decide) ?_
          refine Within.op (visitShares_within _ _ _ _) rfl ?_
          exact Within.refl _ _
      · refine Within.ite ?_ ?_
        · dsimp only
          refine Within.op (setKeySlot_within _ _ _ _) rfl ?_
          refine Within.op (visitShares_within _ _ _ _) rfl ?_
          exact Within.refl _ _
        · refine Within.ite ?_ ?_
          · split
            · dsimp only
              refine Within.key (by decide) ?_
              refine Within.op (visitShares_within _ _ _ _) rfl ?_
              exact Within.refl _ _
            · exact Within.refl _ _
          · exact Within.refl _ _

theorem harrowVisit_within (s : State) :
    Within [.free, .key] s (harrowVisit s) := by
  unfold harrowVisit
  dsimp only
  with_reducible refine Within.ite ?_ ?_
  · exact Within.refl _ _
  · refine Within.key (by decide) ?_
    with_reducible refine Within.ite ?_ ?_
    · refine Within.foldl (fun t a => ?_) _ ?_
      · refine Within.op (visitPort_within _ _) rfl ?_
        exact Within.refl _ _
      · refine Within.op (visitPosition_within _ _) rfl ?_
        exact Within.refl _ _
    · refine Within.op (visitPosition_within _ _) rfl ?_
      exact Within.refl _ _

theorem bodyHarrowStatus_within (c : Cmd) (s : State) :
    Within [] s (bodyHarrowStatus c s).st := by
  unfold bodyHarrowStatus
  refine Within.iteSt ?_ ?_
  · refine Within.op (badLen_within _) rfl ?_
    exact Within.refl _ _
  · refine Within.op (ok_within _ _) rfl ?_
    exact Within.refl _ _

theorem bodyKeyStatus_within (c : Cmd) (s : State) :
    Within [] s (bodyKeyStatus c s).st := by
  unfold bodyKeyStatus
  dsimp only
  refine Within.iteSt ?_ ?_
  · refine Within.op (badLen_within _) rfl ?_
    exact Within.refl _ _
  · refine checked_within ?_ ?_
    · exact Within.refl _ _
    · refine Within.op (ok_within _ _) rfl ?_
      exact Within.refl _ _

theorem bodyKeyAttr_within (c : Cmd) (s : State) :
    Within [.free, .bus, .key, .regs] s (bodyKeyAttr c s).st := by
  unfold bodyKeyAttr
  dsimp only
  refine Within.iteSt ?_ ?_
  · refine Within.op (badLen_within _) rfl ?_
    exact Within.refl _ _
  · refine checked_within ?_ ?_
    · exact Within.refl _ _
    · refine Within.iteSt ?_ ?_
      · refine Within.op (err_within _ _) rfl ?_
        exact Within.refl _ _
      · refine checked_within ?_ ?_
        · exact Within.refl _ _
        · refine Within.op (ok_within _ _) rfl ?_
          with_reducible refine Within.ite ?_ ?_
          · refine Within.foldl (fun t a => ?_) _ ?_
            · refine Within.op (assignIndex_within _ _ _) rfl ?_
              exact Within.refl _ _
            · refine Within.op (keepSlots_within _) rfl ?_
              refine Within.op (setKeySlot_within _ _ _ _) rfl ?_
              exact Within.refl _ _
          · refine Within.op (keepSlots_within _) rfl ?_
            refine Within.op (setKeySlot_within _ _ _ _) rfl ?_
            exact Within.refl _ _

theorem bodyEvdStatus_within (c : Cmd) (s : State) :
    Within [] s (bodyEvdStatus c s).st := by
  unfold bodyEvdStatus
  dsimp only
  refine Within.iteSt ?_ ?_
  · refine Within.op (badLen_within _) rfl ?_
    exact Within.refl _ _
  · refine Within.op (ok_within _ _) rfl ?_
    exact Within.refl _ _

theorem updSheaf_within (i : Nat) (f : Sheaf → Sheaf) (s : State) :
    Within [.evd] s (updSheaf i f s) := by
  unfold updSheaf
  refine Within.evd (by decide) ?_
  exact Within.refl _ _

theorem updRec_within (p : Nat × Nat) (f : EvRec → EvRec) (s : State) :
    Within [.evd] s (updRec p f s) := by
  unfold updRec
  refine Within.op (updSheaf_within _ _ _) rfl ?_
  exact Within.refl _ _

theorem voidRecord_within (p : Nat × Nat) (s : State) :
    Within [.evd, .regs] s (voidRecord p s) := by
  unfold voidRecord
  split
  · refine Within.ite ?_ ?_
    · dsimp only
      refine Within.op (perfAdd_within _ _ _) rfl ?_
      refine Within.evd (by decide) ?_
      refine Within.op (updRec_within _ _ _) rfl ?_
      exact Within.refl _ _
    · exact Within.refl _ _
  · exact Within.refl _ _

theorem recordResolve_within (p : Nat × Nat) (s : State) :
    Within [.evd, .regs] s (recordResolve p s) := by
  unfold recordResolve
  split
  · split
    · refine Within.ite ?_ ?_
      · refine Within.ite ?_ ?_
        · exact Within.refl _ _
        · refine Within.op (updRec_within _ _ _) rfl ?_
          exact Within.refl _ _
      · refine Within.ite ?_ ?_
        · refine Within.op (voidRecord_within _ _) rfl ?_
          exact Within.refl _ _
        · exact Within.refl _ _
    · exact Within.refl _ _
  · exact Within.refl _ _

theorem retire_within (x : NvOp) (s : State) :
    Within [.evd] s (retire x s) := by
  unfold retire
  dsimp only
  refine Within.evd (by decide) ?_
  exact Within.refl _ _

theorem retryOp_within (o : NvOp) (s : State) :
    Within [.evd] s (retryOp o s) := by
  unfold retryOp
  refine Within.evd (by decide) ?_
  exact Within.refl _ _

theorem writeFailed_within (o : NvOp) (s : State) :
    Within [.bus, .evd, .regs] s (writeFailed o s) := by
  unfold writeFailed
  refine Within.ite ?_ ?_
  · dsimp only
    refine Within.op (setCond_within _ _ _ _) rfl ?_
    split
    · refine Within.op (updSheaf_within _ _ _) rfl ?_
      refine Within.evd (by decide) ?_
      refine Within.op (retire_within _ _) rfl ?_
      exact Within.refl _ _
    · refine Within.evd (by decide) ?_
      refine Within.op (retire_within _ _) rfl ?_
      exact Within.refl _ _
  · dsimp only
    refine Within.evd (by decide) ?_
    refine Within.op (retryOp_within _ _) rfl ?_
    exact Within.refl _ _

theorem nvmeWriteTimeout_within (s : State) :
    Within [.bus, .evd, .kcp, .regs] s (nvmeWriteTimeout s) := by
  unfold nvmeWriteTimeout
  split
  · split
    · refine Within.ite ?_ ?_
      · refine answerHeld_within (by decide) ?_ (fun c t => ?_)
        · refine Within.op (retire_within _ _) rfl ?_
          exact Within.refl _ _
        · refine Within.op (err_within _ _) rfl ?_
          exact Within.refl _ _
      · refine Within.op (retryOp_within _ _) rfl ?_
        exact Within.refl _ _
    · refine Within.op (writeFailed_within _ _) rfl ?_
      exact Within.refl _ _
  · exact Within.refl _ _

theorem updNs_within (o : Nat) (f : Ns → Ns) (s : State) :
    Within [.evd] s (updNs o f s) := by
  unfold updNs
  refine Within.evd (by decide) ?_
  exact Within.refl _ _

theorem onDrive_within (i : Nat) (f : DriveSheaf → DriveSheaf) (s : State) :
    Within [.evd] s (onDrive i f s) := by
  unfold onDrive
  dsimp only
  refine Within.op (updNs_within _ _ _) rfl ?_
  exact Within.refl _ _

theorem noteTime_within (index : Nat) (t : Option FieldTime) (s : State) :
    Within [.evd] s (noteTime index t s) := by
  unfold noteTime
  split
  · exact Within.refl _ _
  · refine Within.op (updSheaf_within _ _ _) rfl ?_
    exact Within.refl _ _

theorem completeRecord_within (p : Nat × Nat) (d : EvData) (s : State) :
    Within [.evd] s (completeRecord p d s) := by
  unfold completeRecord
  refine Within.op (noteTime_within _ _ _) rfl ?_
  refine Within.op (updRec_within _ _ _) rfl ?_
  exact Within.refl _ _

theorem closeFull_within (s : State) :
    Within [.evd] s (closeFull s) := by
  unfold closeFull
  split
  · refine Within.ite ?_ ?_
    · refine Within.op (updSheaf_within _ _ _) rfl ?_
      exact Within.refl _ _
    · exact Within.refl _ _
  · exact Within.refl _ _

theorem issue_within (k : NvKind) (s : State) :
    Within [.evd] s (issue k s) := by
  unfold issue
  refine Within.evd (by decide) ?_
  exact Within.refl _ _

theorem writeSupers_within (s : State) :
    Within [.evd] s (writeSupers s) := by
  unfold writeSupers
  refine Within.ite ?_ ?_
  · refine Within.evd (by decide) ?_
    exact Within.refl _ _
  · refine Within.foldl (fun t a => ?_) _ ?_
    · refine Within.op (issue_within _ _) rfl ?_
      exact Within.refl _ _
    · refine Within.evd (by decide) ?_
      exact Within.refl _ _

theorem reserve_within (s : State) :
    Within [.evd] s (reserve s) := by
  unfold reserve
  dsimp only
  with_reducible refine Within.ite ?_ ?_
  · exact Within.refl _ _
  · refine Within.op (writeSupers_within _) rfl ?_
    refine Within.evd (by decide) ?_
    exact Within.refl _ _

theorem openSheaf_within (s : State) :
    Within [.evd] s (openSheaf s) := by
  unfold openSheaf
  dsimp only
  with_reducible refine Within.ite ?_ ?_
  · refine Within.evd (by decide) ?_
    refine Within.op (reserve_within _) rfl ?_
    exact Within.refl _ _
  · refine Within.op (reserve_within _) rfl ?_
    exact Within.refl _ _

theorem rotateSheaf_within (s : State) :
    Within [.evd] s (rotateSheaf s) := by
  unfold rotateSheaf
  dsimp only
  with_reducible refine Within.ite ?_ ?_
  · refine Within.op (openSheaf_within _) rfl ?_
    refine Within.op (closeFull_within _) rfl ?_
    exact Within.refl _ _
  · refine Within.op (closeFull_within _) rfl ?_
    exact Within.refl _ _

theorem pushRec_within (mk : Nat → Nat → EvRec) (s : State) :
    Within [.evd] s (pushRec mk s).2 := by
  unfold pushRec
  dsimp only
  split
  · try dsimp only
    refine Within.op (rotateSheaf_within _) rfl ?_
    exact Within.refl _ _
  · try dsimp only
    refine Within.op (updSheaf_within _ _ _) rfl ?_
    refine Within.op (rotateSheaf_within _) rfl ?_
    exact Within.refl _ _

theorem setDropAcc_within (cause : Nat) (a : DropAcc) (s : State) :
    Within [.evd] s (setDropAcc cause a s) := by
  unfold setDropAcc
  refine Within.ite ?_ ?_
  · refine Within.evd (by decide) ?_
    exact Within.refl _ _
  · refine Within.evd (by decide) ?_
    exact Within.refl _ _

theorem writeGap_within (s : State) (cause : Nat) :
    Within [.evd, .regs] s (writeGap s cause) := by
  unfold writeGap
  dsimp only
  split
  · rename_i t h
    obtain rfl : _ = t := congrArg Prod.snd h
    refine Within.op (pushRec_within _ _) rfl ?_
    exact Within.refl _ _
  · rename_i t h
    obtain rfl : _ = t := congrArg Prod.snd h
    refine Within.op (perfAdd_within _ _ _) rfl ?_
    refine Within.op (setDropAcc_within _ _ _) rfl ?_
    refine Within.op (pushRec_within _ _) rfl ?_
    exact Within.refl _ _

theorem readUnit_within (decrypt : Bool) (x : Sheaf) (a : List Byte × Nat × State) (k u : Nat) :
    Within [.free, .key] a.2.2 (readUnit decrypt x a k u).2.2 := by
  unfold readUnit
  dsimp only
  split
  · exact Within.refl _ _
  · split
    · rename_i t h
      obtain rfl : _ = t := congrArg Prod.snd h
      exact Within.op (evidenceKey_within _ _) rfl (Within.refl _ _)
    · rename_i t h
      obtain rfl : _ = t := congrArg Prod.snd h
      split <;> exact Within.op (evidenceKey_within _ _) rfl (Within.refl _ _)

theorem sheafReply_within (p : List Byte) (x : Sheaf) (staging : Bool) (s : State) :
    Within [.free, .key] s (sheafReply p x staging s).st := by
  have go : ∀ (f : Nat → Nat) (d : Bool) (l : List Nat) (a : List Byte × Nat × State),
      Within [.free, .key] a.2.2 (l.foldl (fun b k => readUnit d x b k (f k)) a).2.2 := by
    intro f d l
    induction l with
    | nil => exact fun a => Within.refl _ _
    | cons k l ih => exact fun a => (readUnit_within d x a k (f k)).trans (ih _)
  exact go (fun k => rd p 8 4 / 32 + k) (bit (rd p 14 1) 0) _ ([], 0, s)

theorem readAnswer_within (good : Bool) (c : Cmd) (s : State) :
    Within [.free, .key] s (readAnswer good c s).st := by
  unfold readAnswer
  dsimp only
  split
  · refine Within.iteSt ?_ ?_
    · refine Within.op (sheafReply_within _ _ _ _) rfl ?_
      exact Within.refl _ _
    · refine Within.op (err_within _ _) rfl ?_
      exact Within.refl _ _
  · refine Within.op (err_within _ _) rfl ?_
    exact Within.refl _ _

theorem stopCheck_within (s : State) :
    Within [.evd] s (stopCheck s) := by
  unfold stopCheck
  refine Within.ite ?_ ?_
  · refine Within.op (writeSupers_within _) rfl ?_
    refine Within.evd (by decide) ?_
    exact Within.refl _ _
  · exact Within.refl _ _

theorem sheafWritten_within (i : Nat) (head : Bool) (s : State) :
    Within [.evd, .regs] s (sheafWritten i head s) := by
  unfold sheafWritten
  split
  · exact Within.refl _ _
  · refine Within.ite ?_ ?_
    · dsimp only
      refine Within.op (stopCheck_within _) rfl ?_
      refine Within.op (perfAdd_within _ _ _) rfl ?_
      refine Within.op (perfAdd_within _ _ _) rfl ?_
      refine Within.evd (by decide) ?_
      refine Within.op (onDrive_within _ _ _) rfl ?_
      exact Within.refl _ _
    · refine Within.op (issue_within _ _) rfl ?_
      refine Within.op (perfAdd_within _ _ _) rfl ?_
      refine Within.op (onDrive_within _ _ _) rfl ?_
      exact Within.refl _ _

theorem supersDone_within (b : Super) (s : State) :
    Within [.evd] s (supersDone b s) := by
  unfold supersDone
  refine Within.ite ?_ ?_
  · exact Within.refl _ _
  · dsimp only
    with_reducible refine Within.ite ?_ ?_
    · refine Within.op (writeSupers_within _) rfl ?_
      refine Within.evd (by decide) ?_
      exact Within.refl _ _
    · refine Within.evd (by decide) ?_
      exact Within.refl _ _

theorem superWritten_within (o : Nat) (b : Super) (s : State) :
    Within [.evd, .regs] s (superWritten o b s) := by
  unfold superWritten
  dsimp only
  with_reducible refine Within.ite ?_ ?_
  · refine Within.op (perfAdd_within _ _ _) rfl ?_
    refine Within.op (updNs_within _ _ _) rfl ?_
    exact Within.refl _ _
  · refine Within.op (supersDone_within _ _) rfl ?_
    refine Within.op (perfAdd_within _ _ _) rfl ?_
    refine Within.op (updNs_within _ _ _) rfl ?_
    exact Within.refl _ _

theorem nvmeCompletion_within (w : NvmeDone) (s : State) :
    Within [.free, .bus, .key, .evd, .kcp, .regs] s (nvmeCompletion w s) := by
  unfold nvmeCompletion
  split
  · exact Within.refl _ _
  · split
    · refine Within.ite ?_ ?_
      · refine answerHeld_within (by decide) ?_ (fun c t => ?_)
        · refine Within.op (retire_within _ _) rfl ?_
          exact Within.refl _ _
        · refine Within.op (readAnswer_within _ _ _) rfl ?_
          exact Within.refl _ _
      · refine Within.op (retryOp_within _ _) rfl ?_
        exact Within.refl _ _
    · refine Within.ite ?_ ?_
      · refine Within.op (sheafWritten_within _ _ _) rfl ?_
        refine Within.op (retire_within _ _) rfl ?_
        exact Within.refl _ _
      · refine Within.op (writeFailed_within _ _) rfl ?_
        exact Within.refl _ _
    · refine Within.ite ?_ ?_
      · refine Within.op (superWritten_within _ _ _) rfl ?_
        refine Within.op (retire_within _ _) rfl ?_
        exact Within.refl _ _
      · refine Within.op (writeFailed_within _ _) rfl ?_
        exact Within.refl _ _

theorem bodyEvdSheafRead_within (c : Cmd) (s : State) :
    Within [.free, .key, .evd] s (bodyEvdSheafRead c s).st := by
  unfold bodyEvdSheafRead
  dsimp only
  refine Within.iteSt ?_ ?_
  · refine Within.op (badLen_within _) rfl ?_
    exact Within.refl _ _
  · refine checked_within ?_ ?_
    · exact Within.refl _ _
    · split
      · refine Within.op (sheafReply_within _ _ _ _) rfl ?_
        exact Within.refl _ _
      · refine Within.iteSt ?_ ?_
        · refine Within.op (err_within _ _) rfl ?_
          exact Within.refl _ _
        · refine Within.op (held_within _) rfl ?_
          refine Within.op (issue_within _ _) rfl ?_
          exact Within.refl _ _

theorem sheafSeal_within (s : State) :
    Within [.evd] s (sheafSeal s) := by
  unfold sheafSeal
  split
  · exact Within.refl _ _
  · refine Within.ite ?_ ?_
    · dsimp only
      refine Within.evd (by decide) ?_
      refine Within.op (updSheaf_within _ _ _) rfl ?_
      exact Within.refl _ _
    · exact Within.refl _ _

theorem evDrop_within (cause : Nat) (s : State) :
    Within [.evd] s (evDrop cause s) := by
  unfold evDrop
  dsimp only
  refine Within.op (setDropAcc_within _ _ _) rfl ?_
  exact Within.refl _ _

theorem dueGaps_within (s : State) :
    Within [.evd, .regs] s (dueGaps s) := by
  unfold dueGaps
  refine Within.foldl (fun t a => ?_) _ ?_
  · refine Within.ite ?_ ?_
    · refine Within.op (writeGap_within _ _) rfl ?_
      exact Within.refl _ _
    · exact Within.refl _ _
  · exact Within.refl _ _

theorem countRate_within (s : State) :
    Within [.evd] s (countRate s) := by
  unfold countRate
  dsimp only
  refine Within.evd (by decide) ?_
  exact Within.refl _ _

theorem createRecord_within (d : EvData) (tag : Nat) (s : State) :
    Within [.free, .key, .evd, .regs] s (createRecord d tag s).2 := by
  unfold createRecord
  split
  · rename_i t h
    obtain rfl : _ = t := congrArg Prod.snd h
    try dsimp only
    refine Within.op (evDrop_within _ _) rfl ?_
    refine Within.op (evidenceKey_within _ _) rfl ?_
    exact Within.refl _ _
  · rename_i t h
    obtain rfl : _ = t := congrArg Prod.snd h
    refine Within.iteSnd ?_ ?_
    · try dsimp only
      refine Within.op (evDrop_within _ _) rfl ?_
      refine Within.op (evidenceKey_within _ _) rfl ?_
      exact Within.refl _ _
    · split
      · rename_i t h
        obtain rfl : _ = t := congrArg Prod.snd h
        try dsimp only
        refine Within.op (evDrop_within _ _) rfl ?_
        refine Within.op (pushRec_within _ _) rfl ?_
        refine Within.op (dueGaps_within _) rfl ?_
        refine Within.op (evidenceKey_within _ _) rfl ?_
        exact Within.refl _ _
      · rename_i t h
        obtain rfl : _ = t := congrArg Prod.snd h
        dsimp only
        try dsimp only
        refine Within.op (perfAdd_within _ _ _) rfl ?_
        refine Within.evd (by decide) ?_
        refine Within.op (noteTime_within _ _ _) rfl ?_
        refine Within.op (countRate_within _) rfl ?_
        refine Within.op (pushRec_within _ _) rfl ?_
        refine Within.op (dueGaps_within _) rfl ?_
        refine Within.op (evidenceKey_within _ _) rfl ?_
        exact Within.refl _ _

theorem furBoutRecord_within (port : Nat) (d : EvData) (s : State) :
    Within [.free, .key, .evd, .regs] s (furBoutRecord port d s) := by
  unfold furBoutRecord
  refine Within.ite ?_ ?_
  · exact Within.refl _ _
  · dsimp only
    with_reducible refine Within.ite ?_ ?_
    · refine Within.evd (by decide) ?_
      exact Within.refl _ _
    · split
      · rename_i t h
        obtain rfl : _ = t := congrArg Prod.snd h
        refine Within.op (updRec_within _ _ _) rfl ?_
        refine Within.op (createRecord_within _ _ _) rfl ?_
        refine Within.evd (by decide) ?_
        exact Within.refl _ _
      · rename_i t h
        obtain rfl : _ = t := congrArg Prod.snd h
        refine Within.op (createRecord_within _ _ _) rfl ?_
        refine Within.evd (by decide) ?_
        exact Within.refl _ _

theorem startStore_within (s : State) :
    Within [.evd, .syn] s (startStore s) := by
  unfold startStore
  dsimp only
  refine Within.op (writeSupers_within _) rfl ?_
  refine Within.lit ?_ (h16 := .inl (by decide)) (h20 := .inl (by decide))
  exact Within.refl _ _

theorem sheafClose_within (s : State) :
    Within [.evd] s (sheafClose s) := by
  unfold sheafClose
  refine Within.op (closeFull_within _) rfl ?_
  exact Within.refl _ _

theorem sheafWrite_within (s : State) :
    Within [.evd] s (sheafWrite s) := by
  unfold sheafWrite
  split
  · exact Within.refl _ _
  · dsimp only
    with_reducible refine Within.ite ?_ ?_
    · exact Within.refl _ _
    · refine Within.op (issue_within _ _) rfl ?_
      refine Within.op (updSheaf_within _ _ _) rfl ?_
      exact Within.refl _ _

theorem startFormat_within (s : State) :
    Within [.free, .evd] s (startFormat s) := by
  unfold startFormat
  dsimp only
  refine Within.op (writeSupers_within _) rfl ?_
  refine Within.evd (by decide) ?_
  refine Within.op (drawRandom_within _ _) rfl ?_
  exact Within.refl _ _

theorem markWrite_within (s : State) :
    Within [.evd, .regs] s (markWrite s) := by
  unfold markWrite
  split
  · exact Within.refl _ _
  · split
    · rename_i t h
      obtain rfl : _ = t := congrArg Prod.snd h
      refine Within.op (pushRec_within _ _) rfl ?_
      refine Within.op (dueGaps_within _) rfl ?_
      exact Within.refl _ _
    · rename_i t h
      obtain rfl : _ = t := congrArg Prod.snd h
      refine Within.op (perfAdd_within _ _ _) rfl ?_
      refine Within.evd (by decide) ?_
      refine Within.op (pushRec_within _ _) rfl ?_
      refine Within.op (dueGaps_within _) rfl ?_
      exact Within.refl _ _

theorem fillDue_within (s : State) :
    Within [.evd, .regs] s (fillDue s) := by
  unfold fillDue
  dsimp only
  refine Within.foldl (fun t a => ?_) _ ?_
  · with_reducible refine Within.ite ?_ ?_
    · refine Within.op (markWrite_within _) rfl ?_
      exact Within.refl _ _
    · exact Within.refl _ _
  · refine Within.foldl (fun t a => ?_) _ ?_
    · with_reducible refine Within.ite ?_ ?_
      · refine Within.op (writeGap_within _ _) rfl ?_
        exact Within.refl _ _
      · exact Within.refl _ _
    · exact Within.refl _ _

theorem closeSheaf_within (why : Nat) (s : State) :
    Within [.evd, .regs] s (closeSheaf why s) := by
  unfold closeSheaf
  split
  · exact Within.refl _ _
  · refine Within.ite ?_ ?_
    · refine Within.op (closeFull_within _) rfl ?_
      exact Within.refl _ _
    · refine Within.op (updSheaf_within _ _ _) rfl ?_
      refine Within.op (fillDue_within _) rfl ?_
      exact Within.refl _ _

theorem runAction_within (a : Nat) (s : State) :
    Within [.free, .evd, .regs] s (runAction a s) := by
  unfold runAction
  split
  · refine Within.op (startFormat_within _) rfl ?_
    exact Within.refl _ _
  · refine Within.evd (by decide) ?_
    exact Within.refl _ _
  · dsimp only
    refine Within.op (stopCheck_within _) rfl ?_
    refine Within.evd (by decide) ?_
    refine Within.op (closeSheaf_within _ _) rfl ?_
    exact Within.refl _ _
  · refine Within.op (closeSheaf_within _ _) rfl ?_
    exact Within.refl _ _
  · refine Within.evd (by decide) ?_
    exact Within.refl _ _
  · exact Within.refl _ _

theorem bodyEvdStoreConfig_within (c : Cmd) (s : State) :
    Within [.free, .evd, .regs] s (bodyEvdStoreConfig c s).st := by
  unfold bodyEvdStoreConfig
  dsimp only
  refine Within.iteSt ?_ ?_
  · refine Within.op (badLen_within _) rfl ?_
    exact Within.refl _ _
  · refine Within.iteSt ?_ ?_
    · refine Within.op (ok_within _ _) rfl ?_
      exact Within.refl _ _
    · refine checked_within ?_ ?_
      · exact Within.refl _ _
      · split
        · refine Within.iteSt ?_ ?_
          · refine Within.op (busy_within _) rfl ?_
            exact Within.refl _ _
          · refine Within.op (err_within _ _) rfl ?_
            exact Within.refl _ _
        · refine Within.iteSt ?_ ?_
          · refine Within.op (pend_within _ _) rfl ?_
            refine Within.op (runAction_within _ _) rfl ?_
            refine Within.evd (by decide) ?_
            exact Within.refl _ _
          · refine Within.op (ok_within _ _) rfl ?_
            refine Within.op (runAction_within _ _) rfl ?_
            refine Within.evd (by decide) ?_
            exact Within.refl _ _

theorem bodyEvdNamespaceAdd_within (c : Cmd) (s : State) :
    Within [.evd] s (bodyEvdNamespaceAdd c s).st := by
  unfold bodyEvdNamespaceAdd
  dsimp only
  refine Within.iteSt ?_ ?_
  · refine Within.op (badLen_within _) rfl ?_
    exact Within.refl _ _
  · refine checked_within ?_ ?_
    · exact Within.refl _ _
    · split
      · refine Within.op (bad_within _ _) rfl ?_
        exact Within.refl _ _
      · refine Within.iteSt ?_ ?_
        · refine Within.op (err_within _ _) rfl ?_
          exact Within.refl _ _
        · refine Within.iteSt ?_ ?_
          · refine Within.op (bad_within _ _) rfl ?_
            exact Within.refl _ _
          · refine Within.iteSt ?_ ?_
            · refine Within.op (err_within _ _) rfl ?_
              exact Within.refl _ _
            · refine Within.op (ok_within _ _) rfl ?_
              refine Within.evd (by decide) ?_
              exact Within.refl _ _

theorem findStore_within (s : State) :
    Within [.evd, .syn] s (findStore s) := by
  unfold findStore
  dsimp only
  split
  · refine Within.evd (by decide) ?_
    exact Within.refl _ _
  · with_reducible refine Within.ite ?_ ?_
    · refine Within.op (startStore_within _) rfl ?_
      refine Within.evd (by decide) ?_
      exact Within.refl _ _
    · refine Within.evd (by decide) ?_
      exact Within.refl _ _

theorem unknownSuper_within (good : Bool) (n : Ns) (s : State) :
    Within [.free] s (unknownSuper good n s).2 := by
  unfold unknownSuper
  refine Within.iteSnd ?_ ?_
  · try dsimp only
    exact Within.refl _ _
  · dsimp only
    try dsimp only
    refine Within.op (drawBelow_within _ _) rfl ?_
    refine Within.op (drawBelow_within _ _) rfl ?_
    refine Within.op (drawBelow_within _ _) rfl ?_
    refine Within.op (drawBelow_within _ _) rfl ?_
    refine Within.op (drawBelow_within _ _) rfl ?_
    refine Within.op (drawBelow_within _ _) rfl ?_
    refine Within.op (drawBelow_within _ _) rfl ?_
    refine Within.op (drawBelow_within _ _) rfl ?_
    refine Within.op (drawBelow_within _ _) rfl ?_
    refine Within.op (drawBelow_within _ _) rfl ?_
    exact Within.refl _ _

theorem foundOne_within (old : List Ns) (a : List Ns × State) (f : NvmeFound) :
    Within [.free] a.2 (foundOne old a f).2 := by
  unfold foundOne
  dsimp only
  refine Within.op (drawBelow_within _ _) rfl ?_
  refine Within.op (drawBelow_within _ _) rfl ?_
  refine Within.op (drawBelow_within _ _) rfl ?_
  split
  · exact Within.refl _ _
  · exact Within.op (unknownSuper_within _ _ _) rfl (Within.refl _ _)

theorem setRetention_within (m h : Nat) (s : State) :
    Within [.evd] s (setRetention m h s) := by
  unfold setRetention
  refine Within.ite ?_ ?_
  · exact Within.refl _ _
  · dsimp only
    with_reducible refine Within.ite ?_ ?_
    · refine Within.op (writeSupers_within _) rfl ?_
      refine Within.evd (by decide) ?_
      exact Within.refl _ _
    · refine Within.evd (by decide) ?_
      exact Within.refl _ _

theorem bodyEvdRetention_within (c : Cmd) (s : State) :
    Within [.evd] s (bodyEvdRetention c s).st := by
  unfold bodyEvdRetention
  dsimp only
  refine Within.iteSt ?_ ?_
  · refine Within.op (badLen_within _) rfl ?_
    exact Within.refl _ _
  · refine Within.iteSt ?_ ?_
    · refine Within.op (ok_within _ _) rfl ?_
      exact Within.refl _ _
    · refine checked_within ?_ ?_
      · exact Within.refl _ _
      · refine Within.iteSt ?_ ?_
        · try dsimp only
          exact Within.refl _ _
        · refine Within.op (ok_within _ _) rfl ?_
          refine Within.op (setRetention_within _ _ _) rfl ?_
          exact Within.refl _ _

theorem startRecord_within (p : Nat × Nat) (s : State) :
    Within [.evd] s (startRecord p s) := by
  unfold startRecord
  refine Within.op (updRec_within _ _ _) rfl ?_
  exact Within.refl _ _

theorem enumerated_within (found : List NvmeFound) (s : State) : Within [.free, .evd] s (enumerated found s) := by
  unfold enumerated
  refine Within.evd (by decide) ?_
  exact Within.foldlSnd (fun t a => Within.op (foundOne_within _ t a) rfl (Within.refl _ _)) _ (Within.refl _ s)

theorem sheafAgeClose_within (s : State) :
    Within [.evd, .regs] s (sheafAgeClose s) := by
  unfold sheafAgeClose
  split
  · refine Within.ite ?_ ?_
    · refine Within.op (closeSheaf_within _ _) rfl ?_
      exact Within.refl _ _
    · exact Within.refl _ _
  · exact Within.refl _ _

theorem nvmeEnumerate_within (found : List NvmeFound) (s : State) :
    Within [.free, .evd, .syn] s (nvmeEnumerate found s) := by
  unfold nvmeEnumerate
  refine Within.ite ?_ ?_
  · dsimp only
    refine Within.op (findStore_within _) rfl ?_
    refine Within.evd (by decide) ?_
    refine Within.op (enumerated_within _ _) rfl ?_
    exact Within.refl _ _
  · refine Within.ite ?_ ?_
    · dsimp only
      with_reducible refine Within.ite ?_ ?_
      · refine Within.op (startStore_within _) rfl ?_
        refine Within.op (enumerated_within _ _) rfl ?_
        exact Within.refl _ _
      · refine Within.evd (by decide) ?_
        refine Within.op (enumerated_within _ _) rfl ?_
        exact Within.refl _ _
    · exact Within.refl _ _

theorem scrubRead_within (corrupt : Bool) (s : State) :
    Within [.evd] s (scrubRead corrupt s) := by
  unfold scrubRead
  refine Within.ite ?_ ?_
  · exact Within.refl _ _
  · split
    · exact Within.refl _ _
    · dsimp only
      refine Within.evd (by decide) ?_
      exact Within.refl _ _

theorem filterCount_within (e : FEvent) (n : Nat) (s : State) :
    Within [.regs] s (filterCount e n s) := by
  unfold filterCount
  refine Within.foldl (fun t a => ?_) _ ?_
  · refine Within.ite ?_ ?_
    · refine Within.op (perfAdd_within _ _ _) rfl ?_
      exact Within.refl _ _
    · exact Within.refl _ _
  · exact Within.refl _ _

theorem State.setEngine_within (s : State) (e : Nat) (x : Engine) :
    Within [.eng] s (State.setEngine s e x) := by
  unfold State.setEngine
  refine Within.eng (by decide) ?_
  exact Within.refl _ _

theorem returnCredit_within (port credit : Nat) (desc : Option Nat) (s : State) :
    Within [.eth] s (returnCredit port credit desc s) := by
  unfold returnCredit
  dsimp only
  refine Within.op (State.setEthP_within _ _ _) rfl ?_
  exact Within.refl _ _

theorem freeRx_within (m : TaskMsg) (s : State) :
    Within [.eth] s (freeRx m s) := by
  unfold freeRx
  split
  · refine Within.op (State.setEthP_within _ _ _) rfl ?_
    exact Within.refl _ _
  · exact Within.refl _ _

theorem State.setThread_within (s : State) (n : Nat) (x : Thread) :
    Within [.eng] s (State.setThread s n x) := by
  unfold State.setThread
  refine Within.op (State.setEngine_within _ _ _) rfl ?_
  exact Within.refl _ _

theorem pushInput_within (w : Waiting) (s : State) :
    Within [.eng, .eth] s (pushInput w s) := by
  unfold pushInput
  dsimp only
  with_reducible refine Within.ite ?_ ?_
  · refine Within.op (freeRx_within _ _) rfl ?_
    refine Within.eng (by decide) ?_
    exact Within.refl _ _
  · refine Within.op (State.setEngine_within _ _ _) rfl ?_
    exact Within.refl _ _

theorem setTask_within (n : Nat) (k : Machine.Task) (s : State) :
    Within [.eng] s (setTask n k s) := by
  unfold setTask
  refine Within.op (State.setThread_within _ _ _) rfl ?_
  exact Within.refl _ _

theorem endTask_within (n : Nat) (s : State) :
    Within [.eng, .eth, .regs] s (endTask n s) := by
  unfold endTask
  split
  · exact Within.refl _ _
  · dsimp only
    refine Within.op (perfAdd_within _ _ _) rfl ?_
    refine Within.op (perfAdd_within _ _ _) rfl ?_
    refine Within.op (State.setEngine_within _ _ _) rfl ?_
    refine Within.op (State.setThread_within _ _ _) rfl ?_
    refine Within.op (freeRx_within _ _) rfl ?_
    refine Within.op (returnCredit_within _ _ _ _) rfl ?_
    exact Within.refl _ _

theorem finishTask_within (n : Nat) (s : State) :
    Within [.eng, .eth, .regs] s (finishTask n s) := by
  unfold finishTask
  split
  · exact Within.refl _ _
  · dsimp only
    with_reducible refine Within.ite ?_ ?_
    · refine Within.op (setTask_within _ _ _) rfl ?_
      exact Within.refl _ _
    · refine Within.op (endTask_within _ _) rfl ?_
      exact Within.refl _ _

theorem queueFrame_within (n : Nat) (f : TxFrame) (s : State) :
    Within [.eng, .eth] s (queueFrame n f s) := by
  unfold queueFrame
  split
  · exact Within.refl _ _
  · dsimp only
    refine Within.op (setTask_within _ _ _) rfl ?_
    refine Within.op (State.setEthP_within _ _ _) rfl ?_
    exact Within.refl _ _

theorem place_within (b e : Nat) (s : State) :
    Within [.eng] s (place b e s) := by
  unfold place
  refine Within.eng (by decide) ?_
  exact Within.refl _ _

theorem State.setDom_within (s : State) (d : Nat) (x : Dom) :
    Within [.svc] s (State.setDom s d x) := by
  unfold State.setDom
  refine Within.svc (by decide) ?_
  exact Within.refl _ _

theorem State.setProf_within (s : State) (p : Nat) (x : Prof) :
    Within [.svc] s (State.setProf s p x) := by
  unfold State.setProf
  refine Within.svc (by decide) ?_
  exact Within.refl _ _

theorem touch_within (s : State) :
    Within [.svc] s (touch s) := by
  unfold touch
  refine Within.svc (by decide) ?_
  exact Within.refl _ _

theorem State.setEntry_within (s : State) (i : Nat) (x : Entry) :
    Within [.svc] s (State.setEntry s i x) := by
  unfold State.setEntry
  refine Within.svc (by decide) ?_
  exact Within.refl _ _

theorem writeEntry_within (i : Nat) (x : Entry) (s : State) :
    Within [.svc] s (writeEntry i x s) := by
  unfold writeEntry
  refine Within.op (touch_within _) rfl ?_
  refine Within.op (State.setEntry_within _ _ _) rfl ?_
  exact Within.refl _ _

theorem stompFrame_within (s : State) (f : TxFrame) :
    Within [.svc, .evd, .regs] s (stompFrame s f) := by
  unfold stompFrame
  dsimp only
  split
  · refine Within.op (writeEntry_within _ _ _) rfl ?_
    with_reducible refine Within.ite ?_ ?_
    · refine Within.op (State.setDom_within _ _ _) rfl ?_
      refine Within.op (State.setProf_within _ _ _) rfl ?_
      split
      · refine Within.op (voidRecord_within _ _) rfl ?_
        exact Within.refl _ _
      · exact Within.refl _ _
    · refine Within.op (State.setProf_within _ _ _) rfl ?_
      split
      · refine Within.op (voidRecord_within _ _) rfl ?_
        exact Within.refl _ _
      · exact Within.refl _ _
  · with_reducible refine Within.ite ?_ ?_
    · refine Within.op (State.setDom_within _ _ _) rfl ?_
      refine Within.op (State.setProf_within _ _ _) rfl ?_
      split
      · refine Within.op (voidRecord_within _ _) rfl ?_
        exact Within.refl _ _
      · exact Within.refl _ _
    · refine Within.op (State.setProf_within _ _ _) rfl ?_
      split
      · refine Within.op (voidRecord_within _ _) rfl ?_
        exact Within.refl _ _
      · exact Within.refl _ _

theorem stompInFlight_within (p : Nat) (s : State) :
    Within [.svc, .evd, .eth, .regs] s (stompInFlight p s) := by
  unfold stompInFlight
  dsimp only
  split
  · with_reducible refine Within.ite ?_ ?_
    · refine Within.op (stompFrame_within _ _) rfl ?_
      refine Within.op (State.setEthP_within _ _ _) rfl ?_
      exact Within.refl _ _
    · exact Within.refl _ _
  · exact Within.refl _ _

theorem withdraw_within (s : State) (f : TxFrame) :
    Within [.svc, .evd, .eth, .regs] s (withdraw s f) := by
  unfold withdraw
  refine Within.op (returnCredit_within _ _ _ _) rfl ?_
  refine Within.op (stompFrame_within _ _) rfl ?_
  exact Within.refl _ _

theorem frameStomp_within (w : FrameFault) (s : State) :
    Within [.svc, .evd, .eth, .regs] s (frameStomp w s) := by
  unfold frameStomp
  dsimp only
  split
  · refine Within.op (stompInFlight_within _ _) rfl ?_
    exact Within.refl _ _
  · split
    · refine Within.op (withdraw_within _ _) rfl ?_
      refine Within.op (State.setEthP_within _ _ _) rfl ?_
      exact Within.refl _ _
    · exact Within.refl _ _

theorem withdrawAll_within (p : Nat) (s : State) :
    Within [.svc, .evd, .eth, .regs] s (withdrawAll p s) := by
  unfold withdrawAll
  dsimp only
  refine Within.foldl (fun t a => ?_) _ ?_
  · refine Within.op (withdraw_within _ _) rfl ?_
    exact Within.refl _ _
  · refine Within.op (State.setEthP_within _ _ _) rfl ?_
    exact Within.refl _ _

theorem settleWire_within (p : Nat) (s : State) :
    Within [.eth] s (settleWire p s) := by
  unfold settleWire
  dsimp only
  split
  · with_reducible refine Within.ite ?_ ?_
    · refine Within.op (returnCredit_within _ _ _ _) rfl ?_
      refine Within.op (State.setEthP_within _ _ _) rfl ?_
      exact Within.refl _ _
    · exact Within.refl _ _
  · exact Within.refl _ _

theorem countNotSent_within (s : State) :
    Within [.key] s (countNotSent s) := by
  unfold countNotSent
  refine Within.key (by decide) ?_
  exact Within.refl _ _

theorem dropFrame_within (s : State) (f : TxFrame) :
    Within [.evd, .eth, .regs] s (dropFrame s f) := by
  unfold dropFrame
  refine Within.op (returnCredit_within _ _ _ _) rfl ?_
  split
  · refine Within.op (voidRecord_within _ _) rfl ?_
    exact Within.refl _ _
  · exact Within.refl _ _

theorem countHandled_within (s : State) :
    Within [.pwr] s (countHandled s) := by
  unfold countHandled
  refine Within.pwr (by decide) ?_
  exact Within.refl _ _

theorem signFrame_within (f : TxFrame) (s0 : State) :
    Within [.free, .key, .pwr] s0 (signFrame f s0).2 := by
  unfold signFrame
  refine Within.iteSnd ?_ ?_
  · try dsimp only
    exact Within.refl _ _
  · dsimp only
    split
    · try dsimp only
      with_reducible refine Within.ite ?_ ?_
      · refine Within.op (countDenied_within _) rfl ?_
        with_reducible refine Within.ite ?_ ?_
        · refine Within.op (epochRoll_within _) rfl ?_
          exact Within.refl _ _
        · exact Within.refl _ _
      · with_reducible refine Within.ite ?_ ?_
        · refine Within.op (epochRoll_within _) rfl ?_
          exact Within.refl _ _
        · exact Within.refl _ _
    · try dsimp only
      refine Within.op (countHandled_within _) rfl ?_
      with_reducible refine Within.ite ?_ ?_
      · refine Within.op (epochRoll_within _) rfl ?_
        exact Within.refl _ _
      · exact Within.refl _ _

theorem State.setUpD_within (s : State) (u : Nat) (x : Up) :
    Within [.svc] s (State.setUpD s u x) := by
  unfold State.setUpD
  refine Within.svc (by decide) ?_
  exact Within.refl _ _

theorem countAuthFail_within (p d : Nat) (s : State) :
    Within [.svc] s (countAuthFail p d s) := by
  unfold countAuthFail
  dsimp only
  with_reducible refine Within.ite ?_ ?_
  · refine Within.op (State.setDom_within _ _ _) rfl ?_
    refine Within.op (State.setProf_within _ _ _) rfl ?_
    exact Within.refl _ _
  · refine Within.op (State.setUpD_within _ _ _) rfl ?_
    refine Within.op (State.setProf_within _ _ _) rfl ?_
    exact Within.refl _ _

theorem sealNts_within (f : TxFrame) (s : State) :
    Within [.free, .pwr] s (sealNts f s).2 := by
  unfold sealNts
  refine Within.iteSnd ?_ ?_
  · try dsimp only
    exact Within.refl _ _
  · dsimp only
    try dsimp only
    refine Within.op (countHandled_within _) rfl ?_
    refine Within.op (drawRandom_within _ _) rfl ?_
    exact Within.refl _ _

theorem reportCommit_within (f : TxFrame) (s : State) :
    Within [.svc] s (reportCommit f s) := by
  unfold reportCommit
  split
  · refine Within.op (State.setEntry_within _ _ _) rfl ?_
    exact Within.refl _ _
  · exact Within.refl _ _

theorem recordCommit_within (f : TxFrame) (s : State) :
    Within [.evd] s (recordCommit f s) := by
  unfold recordCommit
  split
  · refine Within.ite ?_ ?_
    · refine Within.op (completeRecord_within _ _ _) rfl ?_
      exact Within.refl _ _
    · exact Within.refl _ _
  · exact Within.refl _ _

theorem launchCommit_within (p : Nat) (s : State) :
    Within [.free, .svc, .key, .evd, .eth, .regs, .pwr] s (launchCommit p s) := by
  unfold launchCommit
  dsimp only
  split
  · refine Within.op (settleWire_within _ _) rfl ?_
    exact Within.refl _ _
  · with_reducible refine Within.ite ?_ ?_
    · refine Within.op (countNotSent_within _) rfl ?_
      refine Within.op (dropFrame_within _ _) rfl ?_
      refine Within.op (State.setEthP_within _ _ _) rfl ?_
      refine Within.op (settleWire_within _ _) rfl ?_
      exact Within.refl _ _
    · with_reducible refine Within.ite ?_ ?_
      · refine Within.op (dropFrame_within _ _) rfl ?_
        refine Within.op (State.setEthP_within _ _ _) rfl ?_
        refine Within.op (settleWire_within _ _) rfl ?_
        exact Within.refl _ _
      · split
        · rename_i t h
          obtain rfl : _ = t := congrArg Prod.snd h
          refine Within.op (countAuthFail_within _ _ _) rfl ?_
          refine Within.op (dropFrame_within _ _) rfl ?_
          refine Within.op (signFrame_within _ _) rfl ?_
          refine Within.op (State.setEthP_within _ _ _) rfl ?_
          refine Within.op (settleWire_within _ _) rfl ?_
          exact Within.refl _ _
        · rename_i t h
          obtain rfl : _ = t := congrArg Prod.snd h
          refine Within.op (State.setEthP_within _ _ _) rfl ?_
          refine Within.op (reportCommit_within _ _) rfl ?_
          refine Within.op (recordCommit_within _ _) rfl ?_
          refine Within.op (sealNts_within _ _) rfl ?_
          refine Within.op (signFrame_within _ _) rfl ?_
          refine Within.op (State.setEthP_within _ _ _) rfl ?_
          refine Within.op (settleWire_within _ _) rfl ?_
          exact Within.refl _ _

theorem queueFree_within (f : TxFrame) (s : State) :
    Within [.eng, .eth] s (queueFree f s) := by
  unfold queueFree
  dsimp only
  with_reducible refine Within.ite ?_ ?_
  · refine Within.op (State.setEthP_within _ _ _) rfl ?_
    refine Within.op (settleWire_within _ _) rfl ?_
    exact Within.refl _ _
  · refine Within.eng (by decide) ?_
    refine Within.op (settleWire_within _ _) rfl ?_
    exact Within.refl _ _

theorem txDownDrop_within (p q : Nat) (s : State) :
    Within [.evd, .eth, .regs] s (txDownDrop p q s) := by
  unfold txDownDrop
  dsimp only
  split
  · with_reducible refine Within.ite ?_ ?_
    · exact Within.refl _ _
    · refine Within.op (perfAdd_within _ _ _) rfl ?_
      refine Within.op (returnCredit_within _ _ _ _) rfl ?_
      split
      · refine Within.op (voidRecord_within _ _) rfl ?_
        refine Within.op (State.setEthP_within _ _ _) rfl ?_
        exact Within.refl _ _
      · refine Within.op (State.setEthP_within _ _ _) rfl ?_
        exact Within.refl _ _
  · exact Within.refl _ _

theorem countStart_within (f : TxFrame) (s : State) :
    Within [.svc] s (countStart f s) := by
  unfold countStart
  dsimp only
  split
  · with_reducible refine Within.ite ?_ ?_
    · refine Within.op (State.setDom_within _ _ _) rfl ?_
      exact Within.refl _ _
    · exact Within.refl _ _
  · refine Within.op (State.setDom_within _ _ _) rfl ?_
    exact Within.refl _ _
  · with_reducible refine Within.ite ?_ ?_
    · refine Within.op (State.setProf_within _ _ _) rfl ?_
      exact Within.refl _ _
    · refine Within.op (State.setProf_within _ _ _) rfl ?_
      exact Within.refl _ _
  · refine Within.op (State.setProf_within _ _ _) rfl ?_
    exact Within.refl _ _
  · refine Within.op (State.setProf_within _ _ _) rfl ?_
    exact Within.refl _ _
  · exact Within.refl _ _

theorem afterStart_within (f : TxFrame) (s : State) :
    Within [.svc, .eng, .eth] s (afterStart f s) := by
  unfold afterStart
  split
  · dsimp only
    refine Within.op (pushInput_within _ _) rfl ?_
    exact Within.refl _ _
  · dsimp only
    refine Within.op (State.setUpD_within _ _ _) rfl ?_
    exact Within.refl _ _
  · exact Within.refl _ _

theorem startFrame_within (p : Nat) (f : TxFrame) (ps : Nat) (s : State) :
    Within [.svc, .eng, .evd, .eth, .regs] s (startFrame p f ps s) := by
  unfold startFrame
  dsimp only
  refine Within.op (afterStart_within _ _) rfl ?_
  refine Within.op (countStart_within _ _) rfl ?_
  refine Within.op (filterCount_within _ _ _) rfl ?_
  refine Within.op (perfAdd_within _ _ _) rfl ?_
  refine Within.op (perfAdd_within _ _ _) rfl ?_
  with_reducible refine Within.ite ?_ ?_
  · refine Within.op (perfAdd_within _ _ _) rfl ?_
    split
    · refine Within.op (startRecord_within _ _) rfl ?_
      refine Within.op (State.setEthP_within _ _ _) rfl ?_
      exact Within.refl _ _
    · refine Within.op (State.setEthP_within _ _ _) rfl ?_
      exact Within.refl _ _
  · split
    · refine Within.op (startRecord_within _ _) rfl ?_
      refine Within.op (State.setEthP_within _ _ _) rfl ?_
      exact Within.refl _ _
    · refine Within.op (State.setEthP_within _ _ _) rfl ?_
      exact Within.refl _ _

theorem startOfFrame_within (p q : Nat) (s : State) :
    Within [.svc, .eng, .evd, .eth, .regs] s (startOfFrame p q s) := by
  unfold startOfFrame
  dsimp only
  split
  · with_reducible refine Within.ite ?_ ?_
    · refine Within.op (startFrame_within _ _ _ _) rfl ?_
      refine Within.op (State.setEthP_within _ _ _) rfl ?_
      refine Within.op (settleWire_within _ _) rfl ?_
      exact Within.refl _ _
    · refine Within.op (settleWire_within _ _) rfl ?_
      exact Within.refl _ _
  · with_reducible refine Within.ite ?_ ?_
    · refine Within.op (settleWire_within _ _) rfl ?_
      exact Within.refl _ _
    · split
      · refine Within.op (settleWire_within _ _) rfl ?_
        exact Within.refl _ _
      · with_reducible refine Within.ite ?_ ?_
        · refine Within.op (startFrame_within _ _ _ _) rfl ?_
          refine Within.op (State.setEthP_within _ _ _) rfl ?_
          refine Within.op (settleWire_within _ _) rfl ?_
          exact Within.refl _ _
        · refine Within.op (dropFrame_within _ _) rfl ?_
          refine Within.op (State.setEthP_within _ _ _) rfl ?_
          refine Within.op (settleWire_within _ _) rfl ?_
          exact Within.refl _ _

theorem bodyEthPauseConfig_within (c : Cmd) (s : State) :
    Within [.eth] s (bodyEthPauseConfig c s).st := by
  unfold bodyEthPauseConfig
  dsimp only
  refine Within.iteSt ?_ ?_
  · refine Within.op (badLen_within _) rfl ?_
    exact Within.refl _ _
  · refine checked_within ?_ ?_
    · exact Within.refl _ _
    · refine Within.iteSt ?_ ?_
      · refine Within.op (ok_within _ _) rfl ?_
        exact Within.refl _ _
      · refine checked_within ?_ ?_
        · exact Within.refl _ _
        · refine Within.op (ok_within _ _) rfl ?_
          refine Within.op (State.setEthP_within _ _ _) rfl ?_
          exact Within.refl _ _

theorem unpause_within (p : Nat) (s : State) (q : Nat) :
    Within [.eth, .regs] s (unpause p s q) := by
  unfold unpause
  dsimp only
  with_reducible refine Within.ite ?_ ?_
  · refine Within.op (perfAdd_within _ _ _) rfl ?_
    refine Within.op (State.setEthP_within _ _ _) rfl ?_
    exact Within.refl _ _
  · refine Within.op (State.setEthP_within _ _ _) rfl ?_
    exact Within.refl _ _

theorem unpauseAll_within (p : Nat) (s : State) :
    Within [.eth, .regs] s (unpauseAll p s) := by
  unfold unpauseAll
  refine Within.foldl (fun t a => ?_) _ ?_
  · refine Within.op (unpause_within _ _ _) rfl ?_
    exact Within.refl _ _
  · exact Within.refl _ _

theorem disableEth_within (p : Nat) (s : State) :
    Within [.tim, .svc, .evd, .eth, .regs] s (disableEth p s) := by
  unfold disableEth
  dsimp only
  refine Within.op (State.setInterp_within _ _ _) rfl ?_
  refine Within.op (State.setEthP_within _ _ _) rfl ?_
  refine Within.op (withdrawAll_within _ _) rfl ?_
  refine Within.op (stompInFlight_within _ _) rfl ?_
  refine Within.op (unpauseAll_within _ _) rfl ?_
  exact Within.refl _ _

theorem enableEth_within (p : Nat) (s : State) :
    Within [.tim, .eth] s (enableEth p s) := by
  unfold enableEth
  refine Within.op (State.setInterp_within _ _ _) rfl ?_
  refine Within.op (State.setEthP_within _ _ _) rfl ?_
  exact Within.refl _ _

theorem phaseSample_within (p : Nat) (tx good : Bool) (s : State) :
    Within [.eth] s (phaseSample p tx good s) := by
  unfold phaseSample
  dsimp only
  with_reducible refine Within.ite ?_ ?_
  · exact Within.refl _ _
  · with_reducible refine Within.ite ?_ ?_
    · refine Within.op (State.setEthP_within _ _ _) rfl ?_
      exact Within.refl _ _
    · refine Within.op (State.setEthP_within _ _ _) rfl ?_
      exact Within.refl _ _

theorem relink_within (p : Nat) (c : EthCfg) (s : State) :
    Within [.eth] s (relink p c s) := by
  unfold relink
  dsimp only
  refine Within.op (State.setEthP_within _ _ _) rfl ?_
  exact Within.refl _ _

theorem portTick_within (s : State) (p : Nat) :
    Within [.eth] s (portTick s p) := by
  unfold portTick
  dsimp only
  with_reducible refine Within.ite ?_ ?_
  · split
    · refine Within.op (relink_within _ _ _) rfl ?_
      exact Within.refl _ _
    · refine Within.op (State.setEthP_within _ _ _) rfl ?_
      exact Within.refl _ _
  · exact Within.refl _ _

theorem ethWrite_within (p : Nat) (c : EthCfg) (s : State) :
    Within [.tim, .svc, .evd, .eth, .regs] s (ethWrite p c s) := by
  unfold ethWrite
  dsimp only
  with_reducible refine Within.ite ?_ ?_
  · refine Within.op (State.setEthP_within _ _ _) rfl ?_
    refine Within.op (rewriteWord_within _ _ _) rfl ?_
    exact Within.refl _ _
  · with_reducible refine Within.ite ?_ ?_
    · refine Within.op (enableEth_within _ _) rfl ?_
      refine Within.op (State.setEthP_within _ _ _) rfl ?_
      refine Within.op (rewriteWord_within _ _ _) rfl ?_
      exact Within.refl _ _
    · with_reducible refine Within.ite ?_ ?_
      · refine Within.op (State.setEthP_within _ _ _) rfl ?_
        refine Within.op (disableEth_within _ _) rfl ?_
        refine Within.op (rewriteWord_within _ _ _) rfl ?_
        exact Within.refl _ _
      · with_reducible refine Within.ite ?_ ?_
        · with_reducible refine Within.ite ?_ ?_
          · refine Within.op (State.setEthP_within _ _ _) rfl ?_
            refine Within.op (withdrawAll_within _ _) rfl ?_
            refine Within.op (rewriteWord_within _ _ _) rfl ?_
            exact Within.refl _ _
          · refine Within.op (relink_within _ _ _) rfl ?_
            refine Within.op (withdrawAll_within _ _) rfl ?_
            refine Within.op (rewriteWord_within _ _ _) rfl ?_
            exact Within.refl _ _
        · refine Within.op (State.setEthP_within _ _ _) rfl ?_
          refine Within.op (rewriteWord_within _ _ _) rfl ?_
          exact Within.refl _ _

theorem bodyEthPortConfig_within (c : Cmd) (s : State) :
    Within [.tim, .svc, .evd, .eth, .regs] s (bodyEthPortConfig c s).st := by
  unfold bodyEthPortConfig
  dsimp only
  refine Within.iteSt ?_ ?_
  · refine Within.op (badLen_within _) rfl ?_
    exact Within.refl _ _
  · refine checked_within ?_ ?_
    · exact Within.refl _ _
    · refine Within.iteSt ?_ ?_
      · refine Within.op (ok_within _ _) rfl ?_
        exact Within.refl _ _
      · refine checked_within ?_ ?_
        · exact Within.refl _ _
        · refine Within.iteSt ?_ ?_
          · refine Within.op (err_within _ _) rfl ?_
            exact Within.refl _ _
          · refine Within.op (ok_within _ _) rfl ?_
            refine Within.op (ethWrite_within _ _ _) rfl ?_
            exact Within.refl _ _

theorem linkDown_within (p : Nat) (s : State) :
    Within [.svc, .evd, .eth, .regs] s (linkDown p s) := by
  unfold linkDown
  dsimp only
  refine Within.op (State.setEthP_within _ _ _) rfl ?_
  refine Within.op (stompInFlight_within _ _) rfl ?_
  refine Within.foldl (fun t a => ?_) _ ?_
  · refine Within.op (withdraw_within _ _) rfl ?_
    exact Within.refl _ _
  · refine Within.op (State.setEthP_within _ _ _) rfl ?_
    exact Within.refl _ _

theorem ethLinkDown_within (p : Nat) (s : State) :
    Within [.svc, .evd, .eth, .regs] s (ethLinkDown p s) := by
  unfold ethLinkDown
  refine Within.ite ?_ ?_
  · exact Within.refl _ _
  · refine Within.op (linkDown_within _ _) rfl ?_
    exact Within.refl _ _

theorem pauseQueue_within (p quanta : Nat) (s : State) (q : Nat) :
    Within [.eth, .regs] s (pauseQueue p quanta s q) := by
  unfold pauseQueue
  dsimp only
  with_reducible refine Within.ite ?_ ?_
  · refine Within.op (unpause_within _ _ _) rfl ?_
    exact Within.refl _ _
  · refine Within.op (State.setEthP_within _ _ _) rfl ?_
    exact Within.refl _ _

theorem ethLinkUp_within (p : Nat) (alignRx alignTx : Sys2Proof.Interval) (s : State) :
    Within [.eth] s (ethLinkUp p alignRx alignTx s) := by
  unfold ethLinkUp
  dsimp only
  with_reducible refine Within.ite ?_ ?_
  · refine Within.op (State.setEthP_within _ _ _) rfl ?_
    exact Within.refl _ _
  · exact Within.refl _ _

theorem pauseExpiry_within (p q : Nat) (s : State) :
    Within [.eth, .regs] s (pauseExpiry p q s) := by
  unfold pauseExpiry
  dsimp only
  with_reducible refine Within.ite ?_ ?_
  · refine Within.op (unpause_within _ _ _) rfl ?_
    exact Within.refl _ _
  · exact Within.refl _ _

theorem asymWrite_within (p row : Nat) (g : AsymRow) (link : Sys2Proof.Interval) (s : State) :
    Within [.eth] s (asymWrite p row g link s) := by
  unfold asymWrite
  dsimp only
  refine Within.op (State.setEthP_within _ _ _) rfl ?_
  exact Within.refl _ _

theorem ethLeaveSafe_within (p : Nat) (s : State) :
    Within [.tim, .eth] s (ethLeaveSafe p s) := by
  unfold ethLeaveSafe
  refine Within.ite ?_ ?_
  · refine Within.op (enableEth_within _ _) rfl ?_
    exact Within.refl _ _
  · exact Within.refl _ _

theorem ethSafe_within (p : Nat) (s : State) :
    Within [.tim, .svc, .evd, .eth, .regs] s (ethSafe p s) := by
  unfold ethSafe
  refine Within.ite ?_ ?_
  · exact Within.refl _ _
  · refine Within.op (disableEth_within _ _) rfl ?_
    exact Within.refl _ _

theorem lpiReceived_within (p : Nat) (s : State) :
    Within [.eth] s (lpiReceived p s) := by
  unfold lpiReceived
  dsimp only
  with_reducible refine Within.ite ?_ ?_
  · refine Within.op (State.setEthP_within _ _ _) rfl ?_
    exact Within.refl _ _
  · exact Within.refl _ _

theorem loopMeasureEnd_within (p : Nat) (samples : List (Option Sys2Proof.Interval)) (s : State) :
    Within [.eth] s (loopMeasureEnd p samples s) := by
  unfold loopMeasureEnd
  dsimp only
  with_reducible refine Within.ite ?_ ?_
  · exact Within.refl _ _
  · refine Within.op (State.setEthP_within _ _ _) rfl ?_
    exact Within.refl _ _

theorem autoNegotiation_within (p : Nat) (agreed : Option (Nat × Bool)) (s : State) :
    Within [.eth] s (autoNegotiation p agreed s) := by
  unfold autoNegotiation
  dsimp only
  with_reducible refine Within.ite ?_ ?_
  · exact Within.refl _ _
  · with_reducible refine Within.ite ?_ ?_
    · refine Within.op (State.setEthP_within _ _ _) rfl ?_
      exact Within.refl _ _
    · refine Within.op (State.setEthP_within _ _ _) rfl ?_
      exact Within.refl _ _

theorem pauseIgnoreExit_within (p : Nat) (s : State) :
    Within [.eth] s (pauseIgnoreExit p s) := by
  unfold pauseIgnoreExit
  dsimp only
  with_reducible refine Within.ite ?_ ?_
  · refine Within.op (State.setEthP_within _ _ _) rfl ?_
    exact Within.refl _ _
  · exact Within.refl _ _

theorem pauseWdog_within (p : Nat) (s : State) :
    Within [.bus, .eth, .regs] s (pauseWdog p s) := by
  unfold pauseWdog
  dsimp only
  with_reducible refine Within.ite ?_ ?_
  · refine Within.op (setSticky_within _ _ _) rfl ?_
    refine Within.op (State.setEthP_within _ _ _) rfl ?_
    refine Within.op (unpauseAll_within _ _) rfl ?_
    exact Within.refl _ _
  · exact Within.refl _ _

theorem bodyEthPortStatus_within (c : Cmd) (s : State) :
    Within [.eth] s (bodyEthPortStatus c s).st := by
  unfold bodyEthPortStatus
  dsimp only
  refine Within.iteSt ?_ ?_
  · refine Within.op (badLen_within _) rfl ?_
    exact Within.refl _ _
  · refine checked_within ?_ ?_
    · exact Within.refl _ _
    · refine Within.op (ok_within _ _) rfl ?_
      with_reducible refine Within.ite ?_ ?_
      · refine Within.op (State.setEthP_within _ _ _) rfl ?_
        exact Within.refl _ _
      · exact Within.refl _ _

theorem bodyEthAsymCal_within (c : Cmd) (s : State) :
    Within [.bus, .log, .sealing, .eth, .regs] s (bodyEthAsymCal c s).st := by
  unfold bodyEthAsymCal
  dsimp only
  refine Within.iteSt ?_ ?_
  · refine Within.op (badLen_within _) rfl ?_
    exact Within.refl _ _
  · refine checked_within ?_ ?_
    · exact Within.refl _ _
    · split
      · refine Within.op (ok_within _ _) rfl ?_
        exact Within.refl _ _
      · refine Within.op (ok_within _ _) rfl ?_
        exact Within.refl _ _
      · refine checked_within ?_ ?_
        · exact Within.refl _ _
        · refine sealedWrite_within rfl ?_ (fun t => ?_)
          · exact Within.refl _ _
          · refine Within.op (ok_within _ _) rfl ?_
            refine Within.op (asymWrite_within _ _ _ _ _) rfl ?_
            exact Within.refl _ _
      · refine checked_within ?_ ?_
        · exact Within.refl _ _
        · refine Within.iteSt ?_ ?_
          · refine Within.op (err_within _ _) rfl ?_
            exact Within.refl _ _
          · refine Within.iteSt ?_ ?_
            · refine Within.op (busy_within _) rfl ?_
              exact Within.refl _ _
            · refine Within.op (pend_within _ _) rfl ?_
              refine Within.op (State.setEthP_within _ _ _) rfl ?_
              exact Within.refl _ _

theorem pauseFrame_within (p : Nat) (pfc : Bool) (enables : Nat) (quanta : List Nat) (s : State) :
    Within [.eth, .regs] s (pauseFrame p pfc enables quanta s) := by
  unfold pauseFrame
  dsimp only
  with_reducible refine Within.ite ?_ ?_
  · exact Within.refl _ _
  · with_reducible refine Within.ite ?_ ?_
    · refine Within.op (State.setEthP_within _ _ _) rfl ?_
      exact Within.refl _ _
    · with_reducible refine Within.ite ?_ ?_
      · refine Within.op (State.setEthP_within _ _ _) rfl ?_
        exact Within.refl _ _
      · with_reducible refine Within.ite ?_ ?_
        · refine Within.foldl (fun t a => ?_) _ ?_
          · with_reducible refine Within.ite ?_ ?_
            · refine Within.op (pauseQueue_within _ _ _ _) rfl ?_
              exact Within.refl _ _
            · exact Within.refl _ _
          · refine Within.op (State.setEthP_within _ _ _) rfl ?_
            exact Within.refl _ _
        · refine Within.foldl (fun t a => ?_) _ ?_
          · refine Within.op (pauseQueue_within _ _ _ _) rfl ?_
            exact Within.refl _ _
          · refine Within.op (State.setEthP_within _ _ _) rfl ?_
            exact Within.refl _ _

theorem bodyEthTagConfig_within (c : Cmd) (s : State) :
    Within [.eth] s (bodyEthTagConfig c s).st := by
  unfold bodyEthTagConfig
  dsimp only
  refine Within.iteSt ?_ ?_
  · refine Within.op (badLen_within _) rfl ?_
    exact Within.refl _ _
  · refine checked_within ?_ ?_
    · exact Within.refl _ _
    · refine Within.iteSt ?_ ?_
      · refine Within.op (ok_within _ _) rfl ?_
        exact Within.refl _ _
      · refine checked_within ?_ ?_
        · exact Within.refl _ _
        · refine Within.op (ok_within _ _) rfl ?_
          refine Within.op (State.setEthP_within _ _ _) rfl ?_
          exact Within.refl _ _

theorem portTicks_within (s : State) :
    Within [.eth, .kcp] s (portTicks s) := by
  unfold portTicks
  dsimp only
  with_reducible refine Within.ite ?_ ?_
  · exact Within.refl _ _
  · refine Within.op (commitG_within _ _) rfl ?_
    refine Within.foldl (fun t a => ?_) _ ?_
    · refine Within.op (portTick_within _ _) rfl ?_
      exact Within.refl _ _
    · exact Within.refl _ _

theorem insertEntry_within (e : Entry) (s : State) :
    Within [.svc] s (insertEntry e s).2 := by
  unfold insertEntry
  dsimp only
  refine Within.iteSnd ?_ ?_
  · try dsimp only
    exact Within.refl _ _
  · split
    · try dsimp only
      refine Within.op (writeEntry_within _ _ _) rfl ?_
      refine Within.svc (by decide) ?_
      exact Within.refl _ _
    · try dsimp only
      refine Within.op (State.setDom_within _ _ _) rfl ?_
      exact Within.refl _ _

theorem freeEntry_within (i : Nat) (s : State) :
    Within [.svc] s (freeEntry i s) := by
  unfold freeEntry
  refine Within.op (touch_within _) rfl ?_
  refine Within.op (State.setEntry_within _ _ _) rfl ?_
  exact Within.refl _ _

theorem State.setBucket_within (s : State) (i : Nat) (x : Bucket) :
    Within [.svc] s (State.setBucket s i x) := by
  unfold State.setBucket
  refine Within.svc (by decide) ?_
  exact Within.refl _ _

theorem takeToken_within (sig v6 : Bool) (address : Nat) (s : State) :
    Within [.svc] s (takeToken sig v6 address s).2 := by
  unfold takeToken
  dsimp only
  refine Within.iteSnd ?_ ?_
  · try dsimp only
    refine Within.op (State.setBucket_within _ _ _) rfl ?_
    exact Within.refl _ _
  · try dsimp only
    refine Within.op (State.setBucket_within _ _ _) rfl ?_
    exact Within.refl _ _

theorem ethFrameReceive_within (p : Nat) (f : RxFrame) (s0 : State) :
    Within [.eng, .eth, .regs] s0 (ethFrameReceive p f s0) := by
  unfold ethFrameReceive
  dsimp only
  with_reducible refine Within.ite ?_ ?_
  · exact Within.refl _ _
  · with_reducible refine Within.ite ?_ ?_
    · refine Within.op (State.setEthP_within _ _ _) rfl ?_
      refine Within.op (perfAdd_within _ _ _) rfl ?_
      refine Within.op (perfAdd_within _ _ _) rfl ?_
      refine Within.op (filterCount_within _ _ _) rfl ?_
      exact Within.refl _ _
    · with_reducible refine Within.ite ?_ ?_
      · refine Within.op (State.setEthP_within _ _ _) rfl ?_
        refine Within.op (perfAdd_within _ _ _) rfl ?_
        refine Within.op (perfAdd_within _ _ _) rfl ?_
        refine Within.op (filterCount_within _ _ _) rfl ?_
        exact Within.refl _ _
      · with_reducible refine Within.ite ?_ ?_
        · refine Within.op (perfAdd_within _ _ _) rfl ?_
          refine Within.op (perfAdd_within _ _ _) rfl ?_
          refine Within.op (filterCount_within _ _ _) rfl ?_
          exact Within.refl _ _
        · with_reducible refine Within.ite ?_ ?_
          · refine Within.op (State.setEthP_within _ _ _) rfl ?_
            refine Within.op (perfAdd_within _ _ _) rfl ?_
            refine Within.op (perfAdd_within _ _ _) rfl ?_
            refine Within.op (filterCount_within _ _ _) rfl ?_
            exact Within.refl _ _
          · split
            · refine Within.op (State.setEthP_within _ _ _) rfl ?_
              refine Within.op (perfAdd_within _ _ _) rfl ?_
              refine Within.op (perfAdd_within _ _ _) rfl ?_
              refine Within.op (filterCount_within _ _ _) rfl ?_
              exact Within.refl _ _
            · refine Within.op (State.setEthP_within _ _ _) rfl ?_
              refine Within.op (perfAdd_within _ _ _) rfl ?_
              refine Within.op (perfAdd_within _ _ _) rfl ?_
              refine Within.op (filterCount_within _ _ _) rfl ?_
              exact Within.refl _ _
            · refine Within.op (pushInput_within _ _) rfl ?_
              with_reducible refine Within.ite ?_ ?_
              · refine Within.op (perfAdd_within _ _ _) rfl ?_
                refine Within.op (State.setEthP_within _ _ _) rfl ?_
                refine Within.op (perfAdd_within _ _ _) rfl ?_
                refine Within.op (perfAdd_within _ _ _) rfl ?_
                refine Within.op (filterCount_within _ _ _) rfl ?_
                exact Within.refl _ _
              · refine Within.op (State.setEthP_within _ _ _) rfl ?_
                refine Within.op (perfAdd_within _ _ _) rfl ?_
                refine Within.op (perfAdd_within _ _ _) rfl ?_
                refine Within.op (filterCount_within _ _ _) rfl ?_
                exact Within.refl _ _

theorem driftUpdate_within (p : Nat) (s : State) :
    Within [.bus, .fur, .regs] s (driftUpdate p s) := by
  unfold driftUpdate
  dsimp only
  with_reducible refine Within.ite ?_ ?_
  · refine Within.op (setSticky_within _ _ _) rfl ?_
    refine Within.op (State.setPort_within _ _ _) rfl ?_
    exact Within.refl _ _
  · with_reducible refine Within.ite ?_ ?_
    · exact Within.refl _ _
    · refine Within.op (State.setPort_within _ _ _) rfl ?_
      exact Within.refl _ _

theorem disablePort_within (p : Nat) (s : State) :
    Within [.free, .bus, .tim, .fur, .key, .regs] s (disablePort p s) := by
  unfold disablePort
  dsimp only
  refine Within.op (applyLinkIndex_within _ _) rfl ?_
  refine Within.op (driftUpdate_within _ _) rfl ?_
  refine Within.op (State.setInterp_within _ _ _) rfl ?_
  refine Within.op (State.setPort_within _ _ _) rfl ?_
  exact Within.refl _ _

theorem enterCal_within (p : Nat) (s : State) :
    Within [.bus, .fur, .regs] s (enterCal p s) := by
  unfold enterCal
  dsimp only
  refine Within.op (driftUpdate_within _ _) rfl ?_
  refine Within.op (State.setPort_within _ _ _) rfl ?_
  exact Within.refl _ _

theorem enablePort_within (p : Nat) (s : State) :
    Within [.bus, .tim, .fur, .regs] s (enablePort p s) := by
  unfold enablePort
  dsimp only
  refine Within.op (enterCal_within _ _) rfl ?_
  refine Within.op (State.setInterp_within _ _ _) rfl ?_
  refine Within.op (State.setPort_within _ _ _) rfl ?_
  exact Within.refl _ _

theorem disturbLine_within (p : Nat) (s : State) :
    Within [.fur] s (disturbLine p s) := by
  unfold disturbLine
  dsimp only
  refine Within.op (State.setPaux_within _ _ _) rfl ?_
  exact Within.refl _ _

theorem undecided_within (p : Nat) (s : State) :
    Within [.fur] s (undecided p s) := by
  unfold undecided
  dsimp only
  with_reducible refine Within.ite ?_ ?_
  · exact Within.refl _ _
  · refine Within.op (State.setPaux_within _ _ _) rfl ?_
    refine Within.op (State.setPort_within _ _ _) rfl ?_
    exact Within.refl _ _

theorem calApply_within (p : Nat) (s : State) :
    Within [.bus, .fur, .regs] s (calApply p s) := by
  unfold calApply
  dsimp only
  split
  · exact Within.refl _ _
  · refine Within.op (driftUpdate_within _ _) rfl ?_
    refine Within.op (State.setPort_within _ _ _) rfl ?_
    exact Within.refl _ _

theorem applyFurCfg_within (p : Nat) (s : State) :
    Within [.free, .bus, .tim, .fur, .key, .regs] s (applyFurCfg p s) := by
  unfold applyFurCfg
  dsimp only
  split
  · exact Within.refl _ _
  · with_reducible refine Within.ite ?_ ?_
    · with_reducible refine Within.ite ?_ ?_
      · refine Within.op (rederiveLinks_within _ _) rfl ?_
        refine Within.op (driftUpdate_within _ _) rfl ?_
        refine Within.op (State.setPort_within _ _ _) rfl ?_
        exact Within.refl _ _
      · refine Within.op (driftUpdate_within _ _) rfl ?_
        refine Within.op (State.setPort_within _ _ _) rfl ?_
        exact Within.refl _ _
    · refine Within.op (disablePort_within _ _) rfl ?_
      with_reducible refine Within.ite ?_ ?_
      · refine Within.op (rederiveLinks_within _ _) rfl ?_
        refine Within.op (driftUpdate_within _ _) rfl ?_
        refine Within.op (State.setPort_within _ _ _) rfl ?_
        exact Within.refl _ _
      · refine Within.op (driftUpdate_within _ _) rfl ?_
        refine Within.op (State.setPort_within _ _ _) rfl ?_
        exact Within.refl _ _

theorem boundary_within (p : Nat) (s : State) :
    Within [.free, .bus, .tim, .fur, .key, .regs] s (boundary p s) := by
  unfold boundary
  dsimp only
  with_reducible refine Within.ite ?_ ?_
  · refine Within.op (calApply_within _ _) rfl ?_
    refine Within.op (applyLinkIndex_within _ _) rfl ?_
    refine Within.op (applyFurCfg_within _ _) rfl ?_
    exact Within.refl _ _
  · refine Within.op (State.setPort_within _ _ _) rfl ?_
    refine Within.op (calApply_within _ _) rfl ?_
    refine Within.op (applyLinkIndex_within _ _) rfl ?_
    refine Within.op (applyFurCfg_within _ _) rfl ?_
    exact Within.refl _ _

theorem policyPass_within (p : Nat) (s : State) :
    Within [.fur, .kcp] s (policyPass p s) := by
  unfold policyPass
  refine Within.ite ?_ ?_
  · exact Within.refl _ _
  · dsimp only
    refine Within.foldl (fun t a => ?_) _ ?_
    · refine answerHeld_within (by decide) ?_ (fun c t => ?_)
      · exact Within.refl _ _
      · refine Within.op (ok_within _ _) rfl ?_
        exact Within.refl _ _
    · refine Within.fur (by decide) ?_
      exact Within.refl _ _

theorem onLine_within (p : Nat) (lean : Bool) (groups : List Nat) (t : Int) (s : State) :
    Within [.fur] s (onLine p lean groups t s) := by
  unfold onLine
  dsimp only
  refine Within.op (State.setPaux_within _ _ _) rfl ?_
  exact Within.refl _ _

theorem calOnLine_within (p : Nat) (t : Int) (s : State) :
    Within [.fur] s (calOnLine p t s) := by
  unfold calOnLine
  dsimp only
  refine Within.op (State.setPaux_within _ _ _) rfl ?_
  refine Within.op (onLine_within _ _ _ _ _) rfl ?_
  exact Within.refl _ _

theorem setArrive_within (p : Nat) (lean : Bool) (lo hi : Int) (s : State) :
    Within [.fur] s (setArrive p lean lo hi s) := by
  unfold setArrive
  dsimp only
  refine Within.op (State.setPaux_within _ _ _) rfl ?_
  exact Within.refl _ _

theorem launchBurst_within (p : Nat) (b0 : Burst) (s0 : State) :
    Within [.free, .bus, .fur, .key, .evd, .regs, .tst] s0 (launchBurst p b0 s0) := by
  unfold launchBurst
  dsimp only
  refine Within.op (perfAdd_within _ _ _) rfl ?_
  refine Within.op (perfAdd_within _ _ _) rfl ?_
  with_reducible refine Within.ite ?_ ?_
  · refine Within.op (calOnLine_within _ _ _) rfl ?_
    with_reducible refine Within.ite ?_ ?_
    · refine Within.tst (by decide) ?_
      refine Within.op (State.setPort_within _ _ _) rfl ?_
      refine Within.op (onLine_within _ _ _ _ _) rfl ?_
      with_reducible refine Within.ite ?_ ?_
      · refine Within.op (countNoKey_within _) rfl ?_
        refine Within.op (furBoutRecord_within _ _ _) rfl ?_
        exact Within.refl _ _
      · refine Within.op (furBoutRecord_within _ _ _) rfl ?_
        exact Within.refl _ _
    · refine Within.op (State.setPort_within _ _ _) rfl ?_
      refine Within.op (onLine_within _ _ _ _ _) rfl ?_
      with_reducible refine Within.ite ?_ ?_
      · refine Within.op (countNoKey_within _) rfl ?_
        refine Within.op (furBoutRecord_within _ _ _) rfl ?_
        exact Within.refl _ _
      · refine Within.op (furBoutRecord_within _ _ _) rfl ?_
        exact Within.refl _ _
  · refine Within.op (setArrive_within _ _ _ _ _) rfl ?_
    with_reducible refine Within.ite ?_ ?_
    · refine Within.tst (by decide) ?_
      refine Within.op (State.setPort_within _ _ _) rfl ?_
      refine Within.op (onLine_within _ _ _ _ _) rfl ?_
      with_reducible refine Within.ite ?_ ?_
      · refine Within.op (countNoKey_within _) rfl ?_
        refine Within.op (furBoutRecord_within _ _ _) rfl ?_
        exact Within.refl _ _
      · refine Within.op (furBoutRecord_within _ _ _) rfl ?_
        exact Within.refl _ _
    · refine Within.op (State.setPort_within _ _ _) rfl ?_
      refine Within.op (onLine_within _ _ _ _ _) rfl ?_
      with_reducible refine Within.ite ?_ ?_
      · refine Within.op (countNoKey_within _) rfl ?_
        refine Within.op (furBoutRecord_within _ _ _) rfl ?_
        exact Within.refl _ _
      · refine Within.op (furBoutRecord_within _ _ _) rfl ?_
        exact Within.refl _ _

theorem boutEpoch_within (p : Nat) (s : State) :
    Within [.free, .bus, .tim, .fur, .key, .evd, .kcp, .regs, .tst] s (boutEpoch p s) := by
  unfold boutEpoch
  split
  · exact Within.refl _ _
  · dsimp only
    with_reducible refine Within.ite ?_ ?_
    · exact Within.refl _ _
    · with_reducible refine Within.ite ?_ ?_
      · refine Within.op (State.setPort_within _ _ _) rfl ?_
        exact Within.refl _ _
      · with_reducible refine Within.ite ?_ ?_
        · refine Within.op (policyPass_within _ _) rfl ?_
          refine Within.op (boundary_within _ _) rfl ?_
          refine Within.op (State.setPort_within _ _ _) rfl ?_
          refine Within.op (undecided_within _ _) rfl ?_
          exact Within.refl _ _
        · refine Within.op (policyPass_within _ _) rfl ?_
          with_reducible refine Within.ite ?_ ?_
          · refine Within.op (State.setPaux_within _ _ _) rfl ?_
            refine Within.op (State.setPort_within _ _ _) rfl ?_
            refine Within.op (boundary_within _ _) rfl ?_
            refine Within.op (State.setPort_within _ _ _) rfl ?_
            refine Within.op (undecided_within _ _) rfl ?_
            exact Within.refl _ _
          · with_reducible refine Within.ite ?_ ?_
            · refine Within.op (calOnLine_within _ _ _) rfl ?_
              refine Within.op (State.setPaux_within _ _ _) rfl ?_
              refine Within.op (State.setPort_within _ _ _) rfl ?_
              refine Within.op (boundary_within _ _) rfl ?_
              refine Within.op (State.setPort_within _ _ _) rfl ?_
              refine Within.op (undecided_within _ _) rfl ?_
              exact Within.refl _ _
            · split
              · with_reducible refine Within.ite ?_ ?_
                · refine Within.op (launchBurst_within _ _ _) rfl ?_
                  refine Within.op (State.setPaux_within _ _ _) rfl ?_
                  refine Within.op (State.setPort_within _ _ _) rfl ?_
                  refine Within.op (boundary_within _ _) rfl ?_
                  refine Within.op (State.setPort_within _ _ _) rfl ?_
                  refine Within.op (undecided_within _ _) rfl ?_
                  exact Within.refl _ _
                · refine Within.op (State.setPaux_within _ _ _) rfl ?_
                  refine Within.op (State.setPort_within _ _ _) rfl ?_
                  refine Within.op (boundary_within _ _) rfl ?_
                  refine Within.op (State.setPort_within _ _ _) rfl ?_
                  refine Within.op (undecided_within _ _) rfl ?_
                  exact Within.refl _ _
              · refine Within.op (State.setPaux_within _ _ _) rfl ?_
                refine Within.op (State.setPort_within _ _ _) rfl ?_
                refine Within.op (boundary_within _ _) rfl ?_
                refine Within.op (State.setPort_within _ _ _) rfl ?_
                refine Within.op (undecided_within _ _) rfl ?_
                exact Within.refl _ _

theorem leanAfterIdle_within (p : Nat) (s : State) :
    Within [.fur] s (leanAfterIdle p s) := by
  unfold leanAfterIdle
  dsimp only
  with_reducible refine Within.ite ?_ ?_
  · refine Within.op (State.setPort_within _ _ _) rfl ?_
    exact Within.refl _ _
  · exact Within.refl _ _

theorem searchTimeout_within (p : Nat) (s : State) :
    Within [.bus, .fur, .regs] s (searchTimeout p s) := by
  unfold searchTimeout
  dsimp only
  with_reducible refine Within.ite ?_ ?_
  · refine Within.op (driftUpdate_within _ _) rfl ?_
    refine Within.op (State.setPort_within _ _ _) rfl ?_
    exact Within.refl _ _
  · exact Within.refl _ _

theorem mailboxAck_within (p ack : Nat) (s : State) :
    Within [.fur] s (mailboxAck p ack s) := by
  unfold mailboxAck
  dsimp only
  with_reducible refine Within.ite ?_ ?_
  · refine Within.op (State.setPort_within _ _ _) rfl ?_
    exact Within.refl _ _
  · refine Within.op (State.setPort_within _ _ _) rfl ?_
    exact Within.refl _ _

theorem mailboxTlv_within (p : Nat) (t : MbTlv) (s : State) :
    Within [.fur, .regs] s (mailboxTlv p t s) := by
  unfold mailboxTlv
  dsimp only
  with_reducible refine Within.ite ?_ ?_
  · exact Within.refl _ _
  · with_reducible refine Within.ite ?_ ?_
    · refine Within.op (State.setPort_within _ _ _) rfl ?_
      exact Within.refl _ _
    · with_reducible refine Within.ite ?_ ?_
      · refine Within.op (State.setPort_within _ _ _) rfl ?_
        exact Within.refl _ _
      · with_reducible refine Within.ite ?_ ?_
        · refine Within.op (irqArrive_within _ _ _) rfl ?_
          refine Within.op (State.setPort_within _ _ _) rfl ?_
          exact Within.refl _ _
        · refine Within.op (State.setPort_within _ _ _) rfl ?_
          exact Within.refl _ _

theorem burstMail_within (p : Nat) (l : List (Nat × List Byte)) (s : State) :
    Within [.fur, .regs] s (burstMail p l s) := by
  unfold burstMail
  refine Within.foldl (fun t a => ?_) _ ?_
  · refine Within.ite ?_ ?_
    · refine Within.op (mailboxAck_within _ _ _) rfl ?_
      exact Within.refl _ _
    · refine Within.ite ?_ ?_
      · refine Within.op (mailboxTlv_within _ _ _) rfl ?_
        exact Within.refl _ _
      · exact Within.refl _ _
  · exact Within.refl _ _

theorem echoCount_within (p : Nat) (echo authFail : Bool) (d : Option Sys2Proof.Interval) (s : State) :
    Within [.tst] s (echoCount p echo authFail d s) := by
  unfold echoCount
  dsimp only
  with_reducible refine Within.ite ?_ ?_
  · exact Within.refl _ _
  · refine Within.tst (by decide) ?_
    exact Within.refl _ _

theorem filterSample_within (p : Nat) (d : DelaySample) (s : State) :
    Within [.bus, .fur, .regs] s (filterSample p d s) := by
  unfold filterSample
  dsimp only
  split
  · refine Within.op (driftUpdate_within _ _) rfl ?_
    refine Within.op (State.setPort_within _ _ _) rfl ?_
    exact Within.refl _ _
  · refine Within.op (driftUpdate_within _ _) rfl ?_
    refine Within.op (State.setPort_within _ _ _) rfl ?_
    exact Within.refl _ _
  · with_reducible refine Within.ite ?_ ?_
    · refine Within.op (driftUpdate_within _ _) rfl ?_
      refine Within.op (State.setPort_within _ _ _) rfl ?_
      exact Within.refl _ _
    · with_reducible refine Within.ite ?_ ?_
      · refine Within.op (setSticky_within _ _ _) rfl ?_
        refine Within.op (driftUpdate_within _ _) rfl ?_
        refine Within.op (State.setPort_within _ _ _) rfl ?_
        exact Within.refl _ _
      · refine Within.op (State.setPort_within _ _ _) rfl ?_
        exact Within.refl _ _
  · refine Within.op (State.setPort_within _ _ _) rfl ?_
    exact Within.refl _ _

theorem upstreamBurst_within (p : Nat) (b : RxBurst) (s : State) :
    Within [.bus, .fur, .regs, .tst] s (upstreamBurst p b s) := by
  unfold upstreamBurst
  dsimp only
  split
  · exact Within.refl _ _
  · with_reducible refine Within.ite ?_ ?_
    · exact Within.refl _ _
    · split
      · refine Within.op (State.setPort_within _ _ _) rfl ?_
        exact Within.refl _ _
      · split
        · refine Within.op (State.setPort_within _ _ _) rfl ?_
          exact Within.refl _ _
        · with_reducible refine Within.ite ?_ ?_
          · refine Within.op (State.setPort_within _ _ _) rfl ?_
            exact Within.refl _ _
          · split
            · refine Within.op (State.setPort_within _ _ _) rfl ?_
              exact Within.refl _ _
            · with_reducible refine Within.ite ?_ ?_
              · refine Within.op (State.setPort_within _ _ _) rfl ?_
                exact Within.refl _ _
              · with_reducible refine Within.ite ?_ ?_
                · refine Within.op (filterSample_within _ _ _) rfl ?_
                  refine Within.op (echoCount_within _ _ _ _ _) rfl ?_
                  refine Within.op (perfAdd_within _ _ _) rfl ?_
                  refine Within.op (burstMail_within _ _ _) rfl ?_
                  refine Within.op (State.setPort_within _ _ _) rfl ?_
                  exact Within.refl _ _
                · refine Within.op (echoCount_within _ _ _ _ _) rfl ?_
                  refine Within.op (perfAdd_within _ _ _) rfl ?_
                  refine Within.op (burstMail_within _ _ _) rfl ?_
                  refine Within.op (State.setPort_within _ _ _) rfl ?_
                  exact Within.refl _ _

theorem passOver_within (p accepted : Nat) (s : State) :
    Within [.fur] s (passOver p accepted s) := by
  unfold passOver
  dsimp only
  refine Within.op (State.setPaux_within _ _ _) rfl ?_
  refine Within.op (State.setPort_within _ _ _) rfl ?_
  exact Within.refl _ _

theorem acceptBurst_within (p : Nat) (r : LeafRx) (s : State) :
    Within [.utc, .bus, .ref, .sel, .fur, .tan, .regs] s (acceptBurst p r s) := by
  unfold acceptBurst
  dsimp only
  with_reducible refine Within.ite ?_ ?_
  · refine Within.op (refEvent_within _ _ _) rfl ?_
    refine Within.op (State.setPaux_within _ _ _) rfl ?_
    refine Within.op (State.setPort_within _ _ _) rfl ?_
    exact Within.refl _ _
  · refine Within.op (State.setPaux_within _ _ _) rfl ?_
    refine Within.op (State.setPort_within _ _ _) rfl ?_
    exact Within.refl _ _

theorem leafDecision_within (a b : Nat) (s : State) :
    Within [.utc, .bus, .ref, .sel, .fur, .tan, .regs] s (leafDecision a b s) := by
  unfold leafDecision
  dsimp only
  with_reducible refine Within.ite ?_ ?_
  · exact Within.refl _ _
  · split
    · exact Within.refl _ _
    · with_reducible refine Within.ite ?_ ?_
      · exact Within.refl _ _
      · with_reducible refine Within.ite ?_ ?_
        · refine Within.op (passOver_within _ _ _) rfl ?_
          refine Within.op (acceptBurst_within _ _ _) rfl ?_
          exact Within.refl _ _
        · refine Within.op (passOver_within _ _ _) rfl ?_
          refine Within.op (passOver_within _ _ _) rfl ?_
          exact Within.refl _ _
    · with_reducible refine Within.ite ?_ ?_
      · exact Within.refl _ _
      · with_reducible refine Within.ite ?_ ?_
        · refine Within.op (passOver_within _ _ _) rfl ?_
          refine Within.op (acceptBurst_within _ _ _) rfl ?_
          exact Within.refl _ _
        · refine Within.op (passOver_within _ _ _) rfl ?_
          refine Within.op (passOver_within _ _ _) rfl ?_
          exact Within.refl _ _
    · with_reducible refine Within.ite ?_ ?_
      · with_reducible refine Within.ite ?_ ?_
        · exact Within.refl _ _
        · with_reducible refine Within.ite ?_ ?_
          · refine Within.op (passOver_within _ _ _) rfl ?_
            refine Within.op (acceptBurst_within _ _ _) rfl ?_
            exact Within.refl _ _
          · refine Within.op (passOver_within _ _ _) rfl ?_
            refine Within.op (passOver_within _ _ _) rfl ?_
            exact Within.refl _ _
      · with_reducible refine Within.ite ?_ ?_
        · with_reducible refine Within.ite ?_ ?_
          · exact Within.refl _ _
          · with_reducible refine Within.ite ?_ ?_
            · refine Within.op (passOver_within _ _ _) rfl ?_
              refine Within.op (acceptBurst_within _ _ _) rfl ?_
              exact Within.refl _ _
            · refine Within.op (passOver_within _ _ _) rfl ?_
              refine Within.op (passOver_within _ _ _) rfl ?_
              exact Within.refl _ _
        · with_reducible refine Within.ite ?_ ?_
          · refine Within.op (passOver_within _ _ _) rfl ?_
            refine Within.op (acceptBurst_within _ _ _) rfl ?_
            exact Within.refl _ _
          · with_reducible refine Within.ite ?_ ?_
            · refine Within.op (passOver_within _ _ _) rfl ?_
              refine Within.op (acceptBurst_within _ _ _) rfl ?_
              exact Within.refl _ _
            · refine Within.op (passOver_within _ _ _) rfl ?_
              refine Within.op (passOver_within _ _ _) rfl ?_
              exact Within.refl _ _

theorem upstreamLaunch_within (p : Nat) (s : State) :
    Within [.fur, .key, .regs] s (upstreamLaunch p s) := by
  unfold upstreamLaunch
  dsimp only
  split
  · exact Within.refl _ _
  · with_reducible refine Within.ite ?_ ?_
    · exact Within.refl _ _
    · refine Within.op (perfAdd_within _ _ _) rfl ?_
      refine Within.op (perfAdd_within _ _ _) rfl ?_
      with_reducible refine Within.ite ?_ ?_
      · refine Within.op (countNoKey_within _) rfl ?_
        refine Within.op (onLine_within _ _ _ _ _) rfl ?_
        refine Within.op (State.setPaux_within _ _ _) rfl ?_
        refine Within.op (State.setPort_within _ _ _) rfl ?_
        exact Within.refl _ _
      · refine Within.op (onLine_within _ _ _ _ _) rfl ?_
        refine Within.op (State.setPaux_within _ _ _) rfl ?_
        refine Within.op (State.setPort_within _ _ _) rfl ?_
        exact Within.refl _ _

theorem burstBuild_within (p : Nat) (s : State) :
    Within [.free, .bus, .tim, .fur, .key, .regs] s (burstBuild p s) := by
  unfold burstBuild
  dsimp only
  with_reducible refine Within.ite ?_ ?_
  · exact Within.refl _ _
  · refine Within.op (State.setPort_within _ _ _) rfl ?_
    with_reducible refine Within.ite ?_ ?_
    · refine Within.op (drawBelow_within _ _) rfl ?_
      exact Within.refl _ _
    · exact Within.refl _ _

theorem listenTimeout_within (p : Nat) (s : State) :
    Within [.fur] s (listenTimeout p s) := by
  unfold listenTimeout
  dsimp only
  with_reducible refine Within.ite ?_ ?_
  · refine Within.op (State.setPort_within _ _ _) rfl ?_
    exact Within.refl _ _
  · exact Within.refl _ _

theorem mailboxResend_within (p : Nat) (s : State) :
    Within [.fur] s (mailboxResend p s) := by
  unfold mailboxResend
  dsimp only
  split
  · exact Within.refl _ _
  · split
    · exact Within.refl _ _
    · with_reducible refine Within.ite ?_ ?_
      · refine Within.op (State.setPort_within _ _ _) rfl ?_
        exact Within.refl _ _
      · exact Within.refl _ _

theorem decideSingle_within (p : Nat) (s : State) :
    Within [.utc, .bus, .ref, .sel, .fur, .tan, .regs] s (decideSingle p s) := by
  unfold decideSingle
  split
  · refine Within.ite ?_ ?_
    · refine Within.op (acceptBurst_within _ _ _) rfl ?_
      exact Within.refl _ _
    · refine Within.op (passOver_within _ _ _) rfl ?_
      exact Within.refl _ _
  · exact Within.refl _ _

theorem foretell_within (p : Nat) (r : LeafRx) (nextLean : Bool) (s : State) :
    Within [.fur] s (foretell p r nextLean s) := by
  unfold foretell
  dsimp only
  refine Within.op (setArrive_within _ _ _ _ _) rfl ?_
  refine Within.op (State.setPaux_within _ _ _) rfl ?_
  refine Within.op (State.setPort_within _ _ _) rfl ?_
  exact Within.refl _ _

theorem downstreamBurst_within (p : Nat) (b : RxBurst) (s0 : State) :
    Within [.utc, .bus, .ref, .sel, .fur, .tan, .regs] s0 (downstreamBurst p b s0) := by
  unfold downstreamBurst
  dsimp only
  with_reducible refine Within.ite ?_ ?_
  · exact Within.refl _ _
  · split
    · refine Within.op (State.setPort_within _ _ _) rfl ?_
      refine Within.op (State.setPaux_within _ _ _) rfl ?_
      exact Within.refl _ _
    · split
      · refine Within.op (State.setPort_within _ _ _) rfl ?_
        refine Within.op (State.setPaux_within _ _ _) rfl ?_
        exact Within.refl _ _
      · with_reducible refine Within.ite ?_ ?_
        · refine Within.op (State.setPort_within _ _ _) rfl ?_
          refine Within.op (State.setPaux_within _ _ _) rfl ?_
          exact Within.refl _ _
        · split
          · refine Within.op (decideSingle_within _ _) rfl ?_
            refine Within.op (State.setPort_within _ _ _) rfl ?_
            refine Within.op (State.setPaux_within _ _ _) rfl ?_
            exact Within.refl _ _
          · with_reducible refine Within.ite ?_ ?_
            · refine Within.op (decideSingle_within _ _) rfl ?_
              refine Within.op (State.setPort_within _ _ _) rfl ?_
              refine Within.op (State.setPaux_within _ _ _) rfl ?_
              exact Within.refl _ _
            · refine Within.op (decideSingle_within _ _) rfl ?_
              refine Within.op (perfAdd_within _ _ _) rfl ?_
              refine Within.op (burstMail_within _ _ _) rfl ?_
              refine Within.op (foretell_within _ _ _ _) rfl ?_
              refine Within.op (State.setPort_within _ _ _) rfl ?_
              refine Within.op (State.setPaux_within _ _ _) rfl ?_
              exact Within.refl _ _

theorem clearCounters_within (p : Nat) (s : State) :
    Within [.fur] s (clearCounters p s) := by
  unfold clearCounters
  dsimp only
  refine Within.op (State.setPort_within _ _ _) rfl ?_
  exact Within.refl _ _

theorem furCalibrate_within (initial : Bool) (s : State) (p : Nat) :
    Within [.bus, .fur, .regs] s (furCalibrate initial s p) := by
  unfold furCalibrate
  dsimp only
  with_reducible refine Within.ite ?_ ?_
  · exact Within.refl _ _
  · with_reducible refine Within.ite ?_ ?_
    · with_reducible refine Within.ite ?_ ?_
      · exact Within.refl _ _
      · refine Within.op (enterCal_within _ _) rfl ?_
        exact Within.refl _ _
    · with_reducible refine Within.ite ?_ ?_
      · exact Within.refl _ _
      · refine Within.op (State.setPort_within _ _ _) rfl ?_
        exact Within.refl _ _

theorem bodyFurCalibrate_within (c : Cmd) (s : State) :
    Within [.bus, .fur, .regs] s (bodyFurCalibrate c s).st := by
  unfold bodyFurCalibrate
  dsimp only
  refine Within.iteSt ?_ ?_
  · refine Within.op (badLen_within _) rfl ?_
    exact Within.refl _ _
  · refine checked_within ?_ ?_
    · exact Within.refl _ _
    · refine Within.op (pend_within _ _) rfl ?_
      refine Within.foldl (fun t a => ?_) _ ?_
      · refine Within.op (furCalibrate_within _ _ _) rfl ?_
        exact Within.refl _ _
      · exact Within.refl _ _

theorem calMeasurement_within (p : Nat) (v : Sys2Proof.Interval) (s : State) :
    Within [.fur] s (calMeasurement p v s) := by
  unfold calMeasurement
  dsimp only
  with_reducible refine Within.ite ?_ ?_
  · exact Within.refl _ _
  · with_reducible refine Within.ite ?_ ?_
    · with_reducible refine Within.ite ?_ ?_
      · exact Within.refl _ _
      · refine Within.op (onLine_within _ _ _ _ _) rfl ?_
        refine Within.op (State.setPort_within _ _ _) rfl ?_
        exact Within.refl _ _
    · with_reducible refine Within.ite ?_ ?_
      · refine Within.op (State.setPaux_within _ _ _) rfl ?_
        refine Within.op (State.setPort_within _ _ _) rfl ?_
        exact Within.refl _ _
      · exact Within.refl _ _

theorem bodyFurPortStatus_within (c : Cmd) (s : State) :
    Within [.fur] s (bodyFurPortStatus c s).st := by
  unfold bodyFurPortStatus
  dsimp only
  refine Within.iteSt ?_ ?_
  · refine Within.op (badLen_within _) rfl ?_
    exact Within.refl _ _
  · refine checked_within ?_ ?_
    · exact Within.refl _ _
    · refine Within.op (ok_within _ _) rfl ?_
      with_reducible refine Within.ite ?_ ?_
      · refine Within.op (clearCounters_within _ _) rfl ?_
        exact Within.refl _ _
      · exact Within.refl _ _

theorem bodyFurBulkStatus_within (c : Cmd) (s : State) :
    Within [] s (bodyFurBulkStatus c s).st := by
  unfold bodyFurBulkStatus
  dsimp only
  refine Within.iteSt ?_ ?_
  · refine Within.op (badLen_within _) rfl ?_
    exact Within.refl _ _
  · refine checked_within ?_ ?_
    · exact Within.refl _ _
    · refine Within.op (ok_within _ _) rfl ?_
      exact Within.refl _ _

theorem furFaultCleared_within (p : Nat) (s : State) :
    Within [.bus, .fur, .regs] s (furFaultCleared p s) := by
  unfold furFaultCleared
  refine Within.ite ?_ ?_
  · refine Within.op (enterCal_within _ _) rfl ?_
    exact Within.refl _ _
  · exact Within.refl _ _

theorem furLeaveSafe_within (p : Nat) (s : State) :
    Within [.bus, .tim, .fur, .regs] s (furLeaveSafe p s) := by
  unfold furLeaveSafe
  refine Within.ite ?_ ?_
  · refine Within.op (enablePort_within _ _) rfl ?_
    exact Within.refl _ _
  · exact Within.refl _ _

theorem furWrite_within (p : Nat) (c : FurCfg) (s : State) :
    Within [.free, .bus, .tim, .fur, .key, .regs] s (furWrite p c s) := by
  unfold furWrite
  dsimp only
  with_reducible refine Within.ite ?_ ?_
  · with_reducible refine Within.ite ?_ ?_
    · refine Within.op (enablePort_within _ _) rfl ?_
      with_reducible refine Within.ite ?_ ?_
      · refine Within.op (rederiveLinks_within _ _) rfl ?_
        refine Within.op (State.setPort_within _ _ _) rfl ?_
        refine Within.op (rewriteWord_within _ _ _) rfl ?_
        exact Within.refl _ _
      · refine Within.op (State.setPort_within _ _ _) rfl ?_
        refine Within.op (rewriteWord_within _ _ _) rfl ?_
        exact Within.refl _ _
    · with_reducible refine Within.ite ?_ ?_
      · refine Within.op (rederiveLinks_within _ _) rfl ?_
        refine Within.op (State.setPort_within _ _ _) rfl ?_
        refine Within.op (rewriteWord_within _ _ _) rfl ?_
        exact Within.refl _ _
      · refine Within.op (State.setPort_within _ _ _) rfl ?_
        refine Within.op (rewriteWord_within _ _ _) rfl ?_
        exact Within.refl _ _
  · refine Within.op (State.setPort_within _ _ _) rfl ?_
    refine Within.op (rewriteWord_within _ _ _) rfl ?_
    exact Within.refl _ _

theorem bodyFurPortConfig_within (c : Cmd) (s : State) :
    Within [.free, .bus, .tim, .log, .sealing, .fur, .key, .regs] s (bodyFurPortConfig c s).st := by
  unfold bodyFurPortConfig
  dsimp only
  refine Within.iteSt ?_ ?_
  · refine Within.op (badLen_within _) rfl ?_
    exact Within.refl _ _
  · refine checked_within ?_ ?_
    · exact Within.refl _ _
    · refine Within.iteSt ?_ ?_
      · refine Within.op (ok_within _ _) rfl ?_
        exact Within.refl _ _
      · refine checked_within ?_ ?_
        · exact Within.refl _ _
        · refine Within.iteSt ?_ ?_
          · refine Within.op (err_within _ _) rfl ?_
            exact Within.refl _ _
          · refine Within.iteSt ?_ ?_
            · refine Within.op (err_within _ _) rfl ?_
              exact Within.refl _ _
            · refine sealedWrite_within rfl ?_ (fun t => ?_)
              · exact Within.refl _ _
              · refine Within.op (ok_within _ _) rfl ?_
                refine Within.op (furWrite_within _ _ _) rfl ?_
                exact Within.refl _ _

theorem bodyFurMailboxRecv_within (c : Cmd) (s : State) :
    Within [.fur] s (bodyFurMailboxRecv c s).st := by
  unfold bodyFurMailboxRecv
  dsimp only
  refine Within.iteSt ?_ ?_
  · refine Within.op (badLen_within _) rfl ?_
    exact Within.refl _ _
  · refine checked_within ?_ ?_
    · exact Within.refl _ _
    · refine Within.iteSt ?_ ?_
      · refine Within.op (err_within _ _) rfl ?_
        exact Within.refl _ _
      · split
        · refine Within.op (ok_within _ _) rfl ?_
          exact Within.refl _ _
        · refine Within.op (ok_within _ _) rfl ?_
          refine Within.op (State.setPort_within _ _ _) rfl ?_
          exact Within.refl _ _

theorem bodyFurRatePolicy_within (c : Cmd) (s : State) :
    Within [.fur] s (bodyFurRatePolicy c s).st := by
  unfold bodyFurRatePolicy
  dsimp only
  refine Within.iteSt ?_ ?_
  · refine Within.op (badLen_within _) rfl ?_
    exact Within.refl _ _
  · refine checked_within ?_ ?_
    · exact Within.refl _ _
    · refine Within.iteSt ?_ ?_
      · refine Within.op (ok_within _ _) rfl ?_
        exact Within.refl _ _
      · refine checked_within ?_ ?_
        · exact Within.refl _ _
        · refine Within.iteSt ?_ ?_
          · refine Within.op (ok_within _ _) rfl ?_
            refine Within.foldl (fun t a => ?_) _ ?_
            · refine Within.op (State.setPort_within _ _ _) rfl ?_
              exact Within.refl _ _
            · exact Within.refl _ _
          · refine Within.op (held_within _) rfl ?_
            refine Within.fur (by decide) ?_
            refine Within.foldl (fun t a => ?_) _ ?_
            · refine Within.op (State.setPort_within _ _ _) rfl ?_
              exact Within.refl _ _
            · exact Within.refl _ _

theorem furSafe_within (p : Nat) (s : State) :
    Within [.free, .bus, .tim, .fur, .key, .regs] s (furSafe p s) := by
  unfold furSafe
  refine Within.ite ?_ ?_
  · exact Within.refl _ _
  · refine Within.op (disablePort_within _ _) rfl ?_
    refine Within.op (disturbLine_within _ _) rfl ?_
    exact Within.refl _ _

theorem statusArrayRewrite_within (s : State) :
    Within [.fur] s (statusArrayRewrite s) := by
  unfold statusArrayRewrite
  dsimp only
  with_reducible refine Within.ite ?_ ?_
  · exact Within.refl _ _
  · refine Within.fur (by decide) ?_
    exact Within.refl _ _

theorem bodyFurMailboxSend_within (c : Cmd) (s : State) :
    Within [.fur] s (bodyFurMailboxSend c s).st := by
  unfold bodyFurMailboxSend
  dsimp only
  refine Within.iteSt ?_ ?_
  · refine Within.op (badLen_within _) rfl ?_
    exact Within.refl _ _
  · refine checked_within ?_ ?_
    · exact Within.refl _ _
    · refine Within.iteSt ?_ ?_
      · refine Within.op (err_within _ _) rfl ?_
        exact Within.refl _ _
      · refine Within.iteSt ?_ ?_
        · refine Within.op (err_within _ _) rfl ?_
          exact Within.refl _ _
        · refine Within.op (ok_within _ _) rfl ?_
          refine Within.op (State.setPort_within _ _ _) rfl ?_
          exact Within.refl _ _

theorem calRunStart_within (p : Nat) (s : State) :
    Within [.fur] s (calRunStart p s) := by
  unfold calRunStart
  dsimp only
  with_reducible refine Within.ite ?_ ?_
  · refine Within.op (State.setPort_within _ _ _) rfl ?_
    exact Within.refl _ _
  · exact Within.refl _ _

theorem calRunEnd_within (p : Nat) (s : State) :
    Within [.bus, .fur, .regs] s (calRunEnd p s) := by
  unfold calRunEnd
  dsimp only
  with_reducible refine Within.ite ?_ ?_
  · exact Within.refl _ _
  · with_reducible refine Within.ite ?_ ?_
    · with_reducible refine Within.ite ?_ ?_
      · refine Within.op (State.setPort_within _ _ _) rfl ?_
        exact Within.refl _ _
      · refine Within.op (State.setPort_within _ _ _) rfl ?_
        exact Within.refl _ _
    · with_reducible refine Within.ite ?_ ?_
      · refine Within.op (setSticky_within _ _ _) rfl ?_
        refine Within.op (driftUpdate_within _ _) rfl ?_
        refine Within.op (State.setPort_within _ _ _) rfl ?_
        exact Within.refl _ _
      · refine Within.op (State.setPort_within _ _ _) rfl ?_
        exact Within.refl _ _

end Sys2Proof.Machine
end

