-- ==== Sys2Proof/Laws/WithinService.lean ====
section
/-! SUPPORT. The parts of the state that an operation may change, one lemma for each operation: packet time, sower engines, arbitration, tandem pairs and outputs. -/

-- One theorem after another: elaborated side by side, their proofs wait on one another in dozens of threads.
set_option Elab.async false

namespace Sys2Proof.Machine
open Sys2Proof

theorem sampleDom_within (d : Nat) (s : State) :
    Within [.svc] s (sampleDom d s).2 := by
  unfold sampleDom
  dsimp only
  try dsimp only
  refine Within.op (State.setDom_within _ _ _) rfl ?_
  exact Within.refl _ _

theorem syncRecord_within (s : State) (f : TxFrame) (exchange seq : Nat) (t : Option FieldTime) (b : Bound) :
    Within [.svc] s (syncRecord s f exchange seq t b).2 := by
  unfold syncRecord
  refine Within.iteSnd ?_ ?_
  · dsimp only
    try dsimp only
    refine Within.op (sampleDom_within _ _) rfl ?_
    exact Within.refl _ _
  · try dsimp only
    exact Within.refl _ _

theorem sendFrame_within (n : Nat) (f : TxFrame) (s : State) :
    Within [.free, .svc, .eng, .key, .eth, .regs, .pwr] s (sendFrame n f s) := by
  unfold sendFrame
  refine Within.ite ?_ ?_
  · refine Within.op (finishTask_within _ _) rfl ?_
    refine Within.op (queueFrame_within _ _ _) rfl ?_
    exact Within.refl _ _
  · split
    · rename_i t h
      obtain rfl : _ = t := congrArg Prod.snd h
      refine Within.op (finishTask_within _ _) rfl ?_
      refine Within.op (queueFrame_within _ _ _) rfl ?_
      refine Within.op (signFrame_within _ _) rfl ?_
      exact Within.refl _ _
    · rename_i t h
      obtain rfl : _ = t := congrArg Prod.snd h
      refine Within.op (finishTask_within _ _) rfl ?_
      refine Within.op (countAuthFail_within _ _ _) rfl ?_
      refine Within.op (signFrame_within _ _) rfl ?_
      exact Within.refl _ _

theorem sendSync_within (n p d transport : Nat) (e : Option Nat) (seq : Nat) (s : State) :
    Within [.free, .svc, .eng, .key, .eth, .regs, .pwr] s (sendSync n p d transport e seq s) := by
  unfold sendSync
  dsimp only
  with_reducible refine Within.ite ?_ ?_
  · refine Within.op (sendFrame_within _ _ _) rfl ?_
    refine Within.op (syncRecord_within _ _ _ _ _ _) rfl ?_
    exact Within.refl _ _
  · refine Within.op (sendFrame_within _ _ _) rfl ?_
    exact Within.refl _ _

theorem sampleNtp_within (p : Nat) (s : State) :
    Within [.svc] s (sampleNtp p s).2 := by
  unfold sampleNtp
  dsimp only
  try dsimp only
  refine Within.svc (by decide) ?_
  exact Within.refl _ _

theorem newCookie_within (slot tenant : Nat) (c2s s2c : List Byte) (s : State) :
    Within [.free] s (newCookie slot tenant c2s s2c s).2 := by
  unfold newCookie
  dsimp only
  try dsimp only
  refine Within.op (drawRandom_within _ _) rfl ?_
  exact Within.refl _ _

theorem newCookies_within (n slot tenant : Nat) (c2s s2c : List Byte) (s : State) :
    Within [.free] s (newCookies n slot tenant c2s s2c s).2 := by
  unfold newCookies
  refine Within.foldlSnd (fun t a => ?_) _ ?_
  · dsimp only
    try dsimp only
    refine Within.op (newCookie_within _ _ _ _ _) rfl ?_
    exact Within.refl _ _
  · try dsimp only
    exact Within.refl _ _

theorem ntsRespond_within (n p : Nat) (rx : FieldTime) (b : Bound) (v6 : Bool) (src : Nat) (f : RxFrame) (m : NtpMsg)
    (uid : List Byte) (k : Nat × List Byte × List Byte) (slot : Option (Nat × Nat)) (s : State) :
    Within [.free, .svc, .eng, .key, .eth, .regs, .pwr] s (ntsRespond n p rx b v6 src f m uid k slot s) := by
  unfold ntsRespond
  refine Within.ite ?_ ?_
  · refine Within.op (finishTask_within _ _) rfl ?_
    refine Within.op (countNotSent_within _) rfl ?_
    exact Within.refl _ _
  · dsimp only
    refine Within.op (sendFrame_within _ _ _) rfl ?_
    split
    · refine Within.iteSnd ?_ ?_
      · try dsimp only
        refine Within.op (sampleNtp_within _ _) rfl ?_
        exact Within.refl _ _
      · refine Within.iteSnd ?_ ?_
        · try dsimp only
          refine Within.op (countDenied_within _) rfl ?_
          refine Within.op (sampleNtp_within _ _) rfl ?_
          exact Within.refl _ _
        · refine Within.op (newCookies_within _ _ _ _ _ _) rfl ?_
          refine Within.op (sampleNtp_within _ _) rfl ?_
          exact Within.refl _ _
    · try dsimp only
      refine Within.op (sampleNtp_within _ _) rfl ?_
      exact Within.refl _ _

theorem clearGrant_within (i bits : Nat) (s : State) :
    Within [.svc] s (clearGrant i bits s) := by
  unfold clearGrant
  dsimp only
  with_reducible refine Within.ite ?_ ?_
  · refine Within.op (freeEntry_within _ _) rfl ?_
    exact Within.refl _ _
  · refine Within.op (writeEntry_within _ _ _) rfl ?_
    exact Within.refl _ _

theorem grantExpiry_within (i : Nat) (s : State) :
    Within [.svc] s (grantExpiry i s) := by
  unfold grantExpiry
  dsimp only
  with_reducible refine Within.ite ?_ ?_
  · refine Within.op (clearGrant_within _ _ _) rfl ?_
    exact Within.refl _ _
  · exact Within.refl _ _

theorem countRateDrop_within (p : Nat) (s : State) :
    Within [.svc] s (countRateDrop p s) := by
  unfold countRateDrop
  refine Within.op (State.setProf_within _ _ _) rfl ?_
  exact Within.refl _ _

theorem ntsNak_within (n p : Nat) (f : RxFrame) (m : NtpMsg) (uid : List Byte) (s : State) :
    Within [.free, .svc, .eng, .key, .eth, .regs, .pwr] s (ntsNak n p f m uid s) := by
  unfold ntsNak
  dsimp only
  refine Within.op (sendFrame_within _ _ _) rfl ?_
  exact Within.refl _ _

theorem ntsRequest_within (n : Nat) (s : State) :
    Within [.free, .svc, .eng, .key, .eth, .regs, .pwr] s (ntsRequest n s) := by
  unfold ntsRequest
  split
  · exact Within.refl _ _
  · refine Within.ite ?_ ?_
    · exact Within.refl _ _
    · refine Within.ite ?_ ?_
      · refine Within.op (finishTask_within _ _) rfl ?_
        exact Within.refl _ _
      · dsimp only
        with_reducible refine Within.ite ?_ ?_
        · refine Within.op (finishTask_within _ _) rfl ?_
          refine Within.op (countRateDrop_within _ _) rfl ?_
          refine Within.op (takeToken_within _ _ _ _) rfl ?_
          exact Within.refl _ _
        · split
          · with_reducible refine Within.ite ?_ ?_
            · refine Within.op (finishTask_within _ _) rfl ?_
              refine Within.op (State.setProf_within _ _ _) rfl ?_
              refine Within.op (takeToken_within _ _ _ _) rfl ?_
              exact Within.refl _ _
            · split
              · refine Within.op (ntsNak_within _ _ _ _ _ _) rfl ?_
                with_reducible refine Within.ite ?_ ?_
                · refine Within.op (countDenied_within _) rfl ?_
                  refine Within.op (takeToken_within _ _ _ _) rfl ?_
                  exact Within.refl _ _
                · refine Within.op (takeToken_within _ _ _ _) rfl ?_
                  exact Within.refl _ _
              · with_reducible refine Within.ite ?_ ?_
                · refine Within.op (ntsRespond_within _ _ _ _ _ _ _ _ _ _ _ _) rfl ?_
                  refine Within.op (countHandled_within _) rfl ?_
                  refine Within.op (takeToken_within _ _ _ _) rfl ?_
                  exact Within.refl _ _
                · refine Within.op (ntsNak_within _ _ _ _ _ _) rfl ?_
                  refine Within.op (takeToken_within _ _ _ _) rfl ?_
                  exact Within.refl _ _
          · refine Within.op (finishTask_within _ _) rfl ?_
            refine Within.op (State.setProf_within _ _ _) rfl ?_
            refine Within.op (takeToken_within _ _ _ _) rfl ?_
            exact Within.refl _ _

theorem failAuth_within (p d tenant : Nat) (at_ : FieldTime) (m : PtpMsg) (s : State) :
    Within [.svc, .key] s (failAuth p d tenant at_ m s) := by
  unfold failAuth
  refine Within.op (countAuthFail_within _ _ _) rfl ?_
  refine Within.ite ?_ ?_
  · refine Within.op (countDenied_within _) rfl ?_
    exact Within.refl _ _
  · exact Within.refl _ _

theorem numbered_within (f : TxFrame) (s : State) :
    Within [.svc] s (numbered f s).2 := by
  unfold numbered
  try dsimp only
  refine Within.svc (by decide) ?_
  exact Within.refl _ _

theorem cancelUnicast_within (n : Nat) (s : State) :
    Within [.free, .svc, .eng, .key, .eth, .regs, .pwr] s (cancelUnicast n s) := by
  unfold cancelUnicast
  split
  · exact Within.refl _ _
  · split
    · refine Within.ite ?_ ?_
      · refine Within.op (finishTask_within _ _) rfl ?_
        exact Within.refl _ _
      · refine Within.ite ?_ ?_
        · refine Within.op (finishTask_within _ _) rfl ?_
          refine Within.op (failAuth_within _ _ _ _ _ _) rfl ?_
          exact Within.refl _ _
        · dsimp only
          refine Within.op (sendFrame_within _ _ _) rfl ?_
          split
          · refine Within.op (clearGrant_within _ _ _) rfl ?_
            refine Within.op (numbered_within _ _) rfl ?_
            exact Within.refl _ _
          · refine Within.op (numbered_within _ _) rfl ?_
            exact Within.refl _ _
    · refine Within.op (finishTask_within _ _) rfl ?_
      exact Within.refl _ _
    · exact Within.refl _ _

theorem sendUnicast_within (n : Nat) (key : GKey) (kind : GrantKind) (s : State) :
    Within [.free, .svc, .eng, .key, .eth, .regs, .pwr] s (sendUnicast n key kind s) := by
  unfold sendUnicast
  split
  · refine Within.op (finishTask_within _ _) rfl ?_
    exact Within.refl _ _
  · dsimp only
    split
    · refine Within.op (sendSync_within _ _ _ _ _ _ _) rfl ?_
      refine Within.op (State.setEntry_within _ _ _) rfl ?_
      exact Within.refl _ _
    · refine Within.op (sendFrame_within _ _ _) rfl ?_
      refine Within.op (State.setEntry_within _ _ _) rfl ?_
      exact Within.refl _ _
    · refine Within.op (finishTask_within _ _) rfl ?_
      exact Within.refl _ _

theorem schedDue_within (key : SchedKey) (s : State) :
    Within [.eng, .eth] s (schedDue key s) := by
  unfold schedDue
  split
  · exact Within.refl _ _
  · dsimp only
    with_reducible refine Within.ite ?_ ?_
    · exact Within.refl _ _
    · refine Within.op (pushInput_within _ _) rfl ?_
      refine Within.eng (by decide) ?_
      exact Within.refl _ _

theorem sendMulticast_within (n d p : Nat) (kind : GrantKind) (s : State) :
    Within [.free, .svc, .eng, .key, .eth, .regs, .pwr] s (sendMulticast n d p kind s) := by
  unfold sendMulticast
  refine Within.ite ?_ ?_
  · refine Within.op (finishTask_within _ _) rfl ?_
    exact Within.refl _ _
  · refine Within.ite ?_ ?_
    · dsimp only
      refine Within.op (sendFrame_within _ _ _) rfl ?_
      refine Within.op (State.setUpD_within _ _ _) rfl ?_
      exact Within.refl _ _
    · dsimp only
      split
      · refine Within.op (sendSync_within _ _ _ _ _ _ _) rfl ?_
        refine Within.op (State.setDom_within _ _ _) rfl ?_
        exact Within.refl _ _
      · refine Within.op (sendFrame_within _ _ _) rfl ?_
        refine Within.op (State.setDom_within _ _ _) rfl ?_
        exact Within.refl _ _
      · refine Within.op (finishTask_within _ _) rfl ?_
        exact Within.refl _ _

theorem sendFollowUp_within (n : Nat) (y : TxFrame) (s : State) :
    Within [.free, .svc, .eng, .key, .eth, .regs, .pwr] s (sendFollowUp n y s) := by
  unfold sendFollowUp
  dsimp only
  with_reducible refine Within.ite ?_ ?_
  · refine Within.op (finishTask_within _ _) rfl ?_
    exact Within.refl _ _
  · refine Within.op (sendFrame_within _ _ _) rfl ?_
    refine Within.op (syncRecord_within _ _ _ _ _ _) rfl ?_
    exact Within.refl _ _

theorem addClient_within (id : Nat) (e : Entry) (s : State) :
    Within [.svc, .kcp] s (addClient id e s) := by
  unfold addClient
  refine Within.ite ?_ ?_
  · refine answerHeld_within (by decide) ?_ (fun c t => ?_)
    · exact Within.refl _ _
    · refine Within.op (err_within _ _) rfl ?_
      exact Within.refl _ _
  · split
    · refine answerHeld_within (by decide) ?_ (fun c t => ?_)
      · refine Within.op (writeEntry_within _ _ _) rfl ?_
        exact Within.refl _ _
      · refine Within.op (ok_within _ _) rfl ?_
        exact Within.refl _ _
    · split
      · rename_i t h
        obtain rfl : _ = t := congrArg Prod.snd h
        refine answerHeld_within (by decide) ?_ (fun c t => ?_)
        · refine Within.op (insertEntry_within _ _) rfl ?_
          exact Within.refl _ _
        · refine Within.op (ok_within _ _) rfl ?_
          exact Within.refl _ _
      · rename_i t h
        obtain rfl : _ = t := congrArg Prod.snd h
        refine answerHeld_within (by decide) ?_ (fun c t => ?_)
        · refine Within.op (insertEntry_within _ _) rfl ?_
          exact Within.refl _ _
        · refine Within.op (err_within _ _) rfl ?_
          exact Within.refl _ _

theorem cancelGrants_within (bits : Nat) (s : State) (i : Nat) :
    Within [.free, .svc, .eng, .key, .eth, .pwr] s (cancelGrants bits s i) := by
  unfold cancelGrants
  dsimp only
  refine Within.foldl (fun t a => ?_) _ ?_
  · with_reducible refine Within.ite ?_ ?_
    · split
      · rename_i t h
        obtain rfl : _ = t := congrArg Prod.snd h
        refine Within.op (queueFree_within _ _) rfl ?_
        refine Within.op (signFrame_within _ _) rfl ?_
        refine Within.op (numbered_within _ _) rfl ?_
        exact Within.refl _ _
      · rename_i t h
        obtain rfl : _ = t := congrArg Prod.snd h
        refine Within.op (countAuthFail_within _ _ _) rfl ?_
        refine Within.op (signFrame_within _ _) rfl ?_
        refine Within.op (numbered_within _ _) rfl ?_
        exact Within.refl _ _
    · exact Within.refl _ _
  · exact Within.refl _ _

theorem removeClients_within (id mode : Nat) (k : GKey) (tenant bucket : Nat) (s : State) :
    Within [.free, .svc, .eng, .key, .eth, .kcp, .pwr] s (removeClients id mode k tenant bucket s) := by
  unfold removeClients
  dsimp only
  split
  · refine Within.foldl (fun t a => ?_) _ ?_
    · refine Within.op (freeEntry_within _ _) rfl ?_
      refine Within.op (cancelGrants_within _ _ _) rfl ?_
      exact Within.refl _ _
    · exact Within.refl _ _
  · with_reducible refine Within.ite ?_ ?_
    · refine answerHeld_within (by decide) ?_ (fun c t => ?_)
      · refine Within.svc (by decide) ?_
        refine Within.foldl (fun t a => ?_) _ ?_
        · refine Within.op (freeEntry_within _ _) rfl ?_
          refine Within.op (cancelGrants_within _ _ _) rfl ?_
          exact Within.refl _ _
        · exact Within.refl _ _
      · refine Within.op (ok_within _ _) rfl ?_
        exact Within.refl _ _
    · refine Within.svc (by decide) ?_
      refine Within.foldl (fun t a => ?_) _ ?_
      · refine Within.op (freeEntry_within _ _) rfl ?_
        refine Within.op (cancelGrants_within _ _ _) rfl ?_
        exact Within.refl _ _
      · exact Within.refl _ _

theorem runClientCmd_within (id : Nat) (c : ClientCmd) (bucket : Nat) (s : State) :
    Within [.free, .svc, .eng, .key, .eth, .kcp, .pwr] s (runClientCmd id c bucket s) := by
  unfold runClientCmd
  refine Within.ite ?_ ?_
  · exact Within.refl _ _
  · split
    · refine Within.op (addClient_within _ _ _) rfl ?_
      exact Within.refl _ _
    · refine Within.op (removeClients_within _ _ _ _ _ _) rfl ?_
      exact Within.refl _ _

theorem scheduledMessage_within (w : Sched) (s : State) :
    Within [.free, .svc, .eng, .key, .eth, .kcp, .regs, .pwr] s (scheduledMessage w s) := by
  unfold scheduledMessage
  split
  · refine Within.ite ?_ ?_
    · refine Within.op (schedDue_within _ _) rfl ?_
      exact Within.refl _ _
    · exact Within.refl _ _
  · refine Within.op (schedDue_within _ _) rfl ?_
    exact Within.refl _ _
  · split
    · exact Within.refl _ _
    · split
      · refine Within.op (sendUnicast_within _ _ _ _) rfl ?_
        exact Within.refl _ _
      · refine Within.op (sendMulticast_within _ _ _ _ _) rfl ?_
        exact Within.refl _ _
      · refine Within.op (sendFollowUp_within _ _ _) rfl ?_
        exact Within.refl _ _
      · refine Within.op (finishTask_within _ _) rfl ?_
        refine Within.op (runClientCmd_within _ _ _ _) rfl ?_
        exact Within.refl _ _
      · exact Within.refl _ _

theorem settleFrame_within (f : TxFrame) (r : Option (Nat × Nat)) (s : State) :
    Within [.free, .key, .pwr] s (settleFrame f r s).2 := by
  unfold settleFrame
  dsimp only
  refine Within.iteSnd ?_ ?_
  · try dsimp only
    exact Within.refl _ _
  · refine Within.op (signFrame_within _ _) rfl ?_
    exact Within.refl _ _

theorem recordCreate_within (n : Nat) (s : State) :
    Within [.free, .svc, .eng, .key, .evd, .eth, .regs, .pwr] s (recordCreate n s) := by
  unfold recordCreate
  split
  · exact Within.refl _ _
  · dsimp only
    split
    · exact Within.refl _ _
    · split
      · exact Within.refl _ _
      · split
        · refine Within.op (finishTask_within _ _) rfl ?_
          refine Within.op (State.setEthP_within _ _ _) rfl ?_
          refine Within.op (settleFrame_within _ _ _) rfl ?_
          refine Within.op (createRecord_within _ _ _) rfl ?_
          exact Within.refl _ _
        · refine Within.op (finishTask_within _ _) rfl ?_
          refine Within.op (countAuthFail_within _ _ _) rfl ?_
          refine Within.op (returnCredit_within _ _ _ _) rfl ?_
          split
          · refine Within.op (voidRecord_within _ _) rfl ?_
            refine Within.op (State.setEthP_within _ _ _) rfl ?_
            refine Within.op (settleFrame_within _ _ _) rfl ?_
            refine Within.op (createRecord_within _ _ _) rfl ?_
            exact Within.refl _ _
          · refine Within.op (State.setEthP_within _ _ _) rfl ?_
            refine Within.op (settleFrame_within _ _ _) rfl ?_
            refine Within.op (createRecord_within _ _ _) rfl ?_
            exact Within.refl _ _

theorem announceReceived_within (n : Nat) (s : State) :
    Within [.svc, .eng, .key, .eth, .regs] s (announceReceived n s) := by
  unfold announceReceived
  split
  · exact Within.refl _ _
  · split
    · refine Within.ite ?_ ?_
      · refine Within.op (finishTask_within _ _) rfl ?_
        refine Within.op (State.setDom_within _ _ _) rfl ?_
        exact Within.refl _ _
      · refine Within.op (finishTask_within _ _) rfl ?_
        refine Within.op (failAuth_within _ _ _ _ _ _) rfl ?_
        exact Within.refl _ _
    · exact Within.refl _ _
    · exact Within.refl _ _
    · exact Within.refl _ _
    · exact Within.refl _ _
    · refine Within.op (finishTask_within _ _) rfl ?_
      exact Within.refl _ _

theorem noteVerified_within (kind n : Nat) (s : State) :
    Within [.pwr] s (noteVerified kind n s) := by
  unfold noteVerified
  split
  · refine Within.ite ?_ ?_
    · refine Within.op (countHandled_within _) rfl ?_
      exact Within.refl _ _
    · exact Within.refl _ _
  · exact Within.refl _ _

theorem arpRequest_within (n : Nat) (s : State) :
    Within [.free, .svc, .eng, .key, .eth, .regs, .pwr] s (arpRequest n s) := by
  unfold arpRequest
  split
  · split
    · refine Within.op (sendFrame_within _ _ _) rfl ?_
      exact Within.refl _ _
    · refine Within.op (sendFrame_within _ _ _) rfl ?_
      exact Within.refl _ _
    · exact Within.refl _ _
  · exact Within.refl _ _

theorem tryGrant_within (x : PtpIn) (kind : GrantKind) (log : Int) (d : Nat) (s : State) :
    Within [.svc] s (tryGrant x kind log d s).2 := by
  unfold tryGrant
  dsimp only
  refine Within.iteSnd ?_ ?_
  · try dsimp only
    refine Within.op (State.setProf_within _ _ _) rfl ?_
    refine Within.op (takeToken_within _ _ _ _) rfl ?_
    exact Within.refl _ _
  · refine Within.iteSnd ?_ ?_
    · try dsimp only
      refine Within.op (takeToken_within _ _ _ _) rfl ?_
      exact Within.refl _ _
    · split
      · try dsimp only
        refine Within.op (writeEntry_within _ _ _) rfl ?_
        refine Within.op (takeToken_within _ _ _ _) rfl ?_
        exact Within.refl _ _
      · split
        · rename_i t h
          obtain rfl : _ = t := congrArg Prod.snd h
          try dsimp only
          refine Within.op (insertEntry_within _ _) rfl ?_
          refine Within.op (takeToken_within _ _ _ _) rfl ?_
          exact Within.refl _ _
        · rename_i t h
          obtain rfl : _ = t := congrArg Prod.snd h
          try dsimp only
          refine Within.op (insertEntry_within _ _) rfl ?_
          refine Within.op (takeToken_within _ _ _ _) rfl ?_
          exact Within.refl _ _

theorem delayResp_within (n : Nat) (x : PtpIn) (s : State) :
    Within [.free, .svc, .eng, .key, .eth, .regs, .pwr] s (delayResp n x s) := by
  unfold delayResp
  refine Within.ite ?_ ?_
  · refine Within.op (finishTask_within _ _) rfl ?_
    exact Within.refl _ _
  · dsimp only
    refine Within.op (sendFrame_within _ _ _) rfl ?_
    refine Within.op (sampleDom_within _ _) rfl ?_
    exact Within.refl _ _

theorem delayReq_within (n : Nat) (s : State) :
    Within [.free, .svc, .eng, .key, .eth, .regs, .pwr] s (delayReq n s) := by
  unfold delayReq
  split
  · exact Within.refl _ _
  · split
    · dsimp only
      with_reducible refine Within.ite ?_ ?_
      · refine Within.op (finishTask_within _ _) rfl ?_
        exact Within.refl _ _
      · with_reducible refine Within.ite ?_ ?_
        · refine Within.op (finishTask_within _ _) rfl ?_
          refine Within.op (failAuth_within _ _ _ _ _ _) rfl ?_
          exact Within.refl _ _
        · with_reducible refine Within.ite ?_ ?_
          · with_reducible refine Within.ite ?_ ?_
            · refine Within.op (delayResp_within _ _ _) rfl ?_
              exact Within.refl _ _
            · refine Within.op (finishTask_within _ _) rfl ?_
              refine Within.op (State.setProf_within _ _ _) rfl ?_
              exact Within.refl _ _
          · split
            · refine Within.op (finishTask_within _ _) rfl ?_
              refine Within.op (State.setProf_within _ _ _) rfl ?_
              exact Within.refl _ _
            · with_reducible refine Within.ite ?_ ?_
              · refine Within.op (delayResp_within _ _ _) rfl ?_
                refine Within.op (State.setEntry_within _ _ _) rfl ?_
                exact Within.refl _ _
              · refine Within.op (finishTask_within _ _) rfl ?_
                refine Within.op (State.setProf_within _ _ _) rfl ?_
                refine Within.op (State.setEntry_within _ _ _) rfl ?_
                exact Within.refl _ _
    · exact Within.refl _ _

theorem rateKiss_within (n p : Nat) (v6 : Bool) (src : Nat) (f : RxFrame) (m : NtpMsg) (s : State) :
    Within [.free, .svc, .eng, .key, .eth, .regs, .pwr] s (rateKiss n p v6 src f m s) := by
  unfold rateKiss
  dsimp only
  with_reducible refine Within.ite ?_ ?_
  · refine Within.op (sendFrame_within _ _ _) rfl ?_
    refine Within.op (State.setBucket_within _ _ _) rfl ?_
    exact Within.refl _ _
  · refine Within.op (finishTask_within _ _) rfl ?_
    refine Within.op (countRateDrop_within _ _) rfl ?_
    exact Within.refl _ _

theorem ntpRequest_within (n : Nat) (s : State) :
    Within [.free, .svc, .eng, .key, .eth, .regs, .pwr] s (ntpRequest n s) := by
  unfold ntpRequest
  split
  · exact Within.refl _ _
  · refine Within.ite ?_ ?_
    · exact Within.refl _ _
    · refine Within.ite ?_ ?_
      · refine Within.op (finishTask_within _ _) rfl ?_
        exact Within.refl _ _
      · dsimp only
        with_reducible refine Within.ite ?_ ?_
        · refine Within.op (rateKiss_within _ _ _ _ _ _ _) rfl ?_
          refine Within.op (takeToken_within _ _ _ _) rfl ?_
          exact Within.refl _ _
        · refine Within.op (sendFrame_within _ _ _) rfl ?_
          refine Within.op (sampleNtp_within _ _) rfl ?_
          refine Within.op (takeToken_within _ _ _ _) rfl ?_
          exact Within.refl _ _

theorem requestUnicast_within (n : Nat) (s : State) :
    Within [.free, .svc, .eng, .key, .eth, .regs, .pwr] s (requestUnicast n s) := by
  unfold requestUnicast
  split
  · exact Within.refl _ _
  · split
    · refine Within.ite ?_ ?_
      · refine Within.op (finishTask_within _ _) rfl ?_
        exact Within.refl _ _
      · refine Within.ite ?_ ?_
        · refine Within.op (finishTask_within _ _) rfl ?_
          refine Within.op (failAuth_within _ _ _ _ _ _) rfl ?_
          exact Within.refl _ _
        · dsimp only
          refine Within.op (sendFrame_within _ _ _) rfl ?_
          refine Within.op (numbered_within _ _) rfl ?_
          with_reducible refine Within.ite ?_ ?_
          · refine Within.op (tryGrant_within _ _ _ _ _) rfl ?_
            exact Within.refl _ _
          · refine Within.op (State.setDom_within _ _ _) rfl ?_
            refine Within.op (tryGrant_within _ _ _ _ _) rfl ?_
            exact Within.refl _ _
    · exact Within.refl _ _

theorem beginSwitch_within (s : State) :
    Within [.eng] s (beginSwitch s) := by
  unfold beginSwitch
  refine Within.foldl (fun t a => ?_) _ ?_
  · refine Within.ite ?_ ?_
    · refine Within.op (State.setEngine_within _ _ _) rfl ?_
      exact Within.refl _ _
    · exact Within.refl _ _
  · exact Within.refl _ _

theorem restartComplete_within (s : State) :
    Within [.eng] s (restartComplete s) := by
  unfold restartComplete
  split
  · exact Within.refl _ _
  · dsimp only
    with_reducible refine Within.ite ?_ ?_
    · refine Within.op (beginSwitch_within _) rfl ?_
      refine Within.eng (by decide) ?_
      refine Within.foldl (fun t a => ?_) _ ?_
      · with_reducible refine Within.ite ?_ ?_
        · refine Within.op (State.setEngine_within _ _ _) rfl ?_
          exact Within.refl _ _
        · exact Within.refl _ _
      · exact Within.refl _ _
    · refine Within.eng (by decide) ?_
      refine Within.foldl (fun t a => ?_) _ ?_
      · with_reducible refine Within.ite ?_ ?_
        · refine Within.op (State.setEngine_within _ _ _) rfl ?_
          exact Within.refl _ _
        · exact Within.refl _ _
      · exact Within.refl _ _

theorem bodyEngStatus_within (c : Cmd) (s : State) :
    Within [] s (bodyEngStatus c s).st := by
  unfold bodyEngStatus
  refine Within.iteSt ?_ ?_
  · refine Within.op (ok_within _ _) rfl ?_
    exact Within.refl _ _
  · refine Within.op (badLen_within _) rfl ?_
    exact Within.refl _ _

theorem withdrawTag_within (tag p : Nat) (s : State) :
    Within [.evd, .eth, .regs] s (withdrawTag tag p s) := by
  unfold withdrawTag
  dsimp only
  with_reducible refine Within.ite ?_ ?_
  · exact Within.refl _ _
  · refine Within.foldl (fun t a => ?_) _ ?_
    · refine Within.op (dropFrame_within _ _) rfl ?_
      exact Within.refl _ _
    · refine Within.op (State.setEthP_within _ _ _) rfl ?_
      exact Within.refl _ _

theorem clearTask_within (n : Nat) (s : State) :
    Within [.eng, .evd, .eth, .regs] s (clearTask n s) := by
  unfold clearTask
  split
  · exact Within.refl _ _
  · dsimp only
    refine Within.op (perfAdd_within _ _ _) rfl ?_
    refine Within.op (State.setEngine_within _ _ _) rfl ?_
    refine Within.op (State.setThread_within _ _ _) rfl ?_
    refine Within.op (freeRx_within _ _) rfl ?_
    refine Within.op (returnCredit_within _ _ _ _) rfl ?_
    refine Within.foldl (fun t a => ?_) _ ?_
    · refine Within.op (withdrawTag_within _ _ _) rfl ?_
      exact Within.refl _ _
    · exact Within.refl _ _

theorem lateEvent_within (n cls : Nat) (s : State) :
    Within [.eng] s (lateEvent n cls s) := by
  unfold lateEvent
  dsimp only
  with_reducible refine Within.ite ?_ ?_
  · refine Within.op (State.setThread_within _ _ _) rfl ?_
    refine Within.eng (by decide) ?_
    exact Within.refl _ _
  · exact Within.refl _ _

theorem taskAbort_within (n : Nat) (s : State) :
    Within [.eng, .evd, .eth, .regs] s (taskAbort n s) := by
  unfold taskAbort
  split
  · refine Within.ite ?_ ?_
    · dsimp only
      refine Within.eng (by decide) ?_
      refine Within.op (clearTask_within _ _) rfl ?_
      exact Within.refl _ _
    · exact Within.refl _ _
  · exact Within.refl _ _

theorem timeOut_within (n : Nat) (next : Option (Nat × Nat)) (s : State) :
    Within [.eng] s (timeOut n next s) := by
  unfold timeOut
  dsimp only
  refine Within.op (State.setThread_within _ _ _) rfl ?_
  refine Within.eng (by decide) ?_
  exact Within.refl _ _

theorem waitEvent_within (n cls : Nat) (next : Option (Nat × Nat)) (s : State) :
    Within [.eng, .evd, .eth, .regs] s (waitEvent n cls next s) := by
  unfold waitEvent
  dsimp only
  split
  · with_reducible refine Within.ite ?_ ?_
    · refine Within.op (lateEvent_within _ _ _) rfl ?_
      exact Within.refl _ _
    · with_reducible refine Within.ite ?_ ?_
      · refine Within.op (State.setThread_within _ _ _) rfl ?_
        exact Within.refl _ _
      · with_reducible refine Within.ite ?_ ?_
        · refine Within.op (taskAbort_within _ _) rfl ?_
          exact Within.refl _ _
        · refine Within.op (lateEvent_within _ _ _) rfl ?_
          refine Within.op (timeOut_within _ _ _) rfl ?_
          exact Within.refl _ _
  · refine Within.op (lateEvent_within _ _ _) rfl ?_
    exact Within.refl _ _

theorem countUnmet_within (s : State) :
    Within [.eng] s (countUnmet s) := by
  unfold countUnmet
  refine Within.eng (by decide) ?_
  exact Within.refl _ _

theorem floorTarget_within (unmet : Bool) (s : State) :
    Within [.eng] s (floorTarget unmet s) := by
  unfold floorTarget
  refine Within.eng (by decide) ?_
  exact Within.refl _ _

theorem settlePolicy_within (s : State) :
    Within [.eng, .kcp] s (settlePolicy s) := by
  unfold settlePolicy
  split
  · refine Within.ite ?_ ?_
    · refine answerHeld_within (by decide) ?_ (fun c t => ?_)
      · refine Within.eng (by decide) ?_
        exact Within.refl _ _
      · refine Within.op (ok_within _ _) rfl ?_
        exact Within.refl _ _
    · exact Within.refl _ _
  · exact Within.refl _ _

theorem endActivation_within (s : State) :
    Within [.eng] s (endActivation s) := by
  unfold endActivation
  split
  · dsimp only
    refine Within.eng (by decide) ?_
    refine Within.foldl (fun t a => ?_) _ ?_
    · refine Within.op (State.setEngine_within _ _ _) rfl ?_
      exact Within.refl _ _
    · exact Within.refl _ _
  · exact Within.refl _ _

theorem settleActivation_within (s : State) :
    Within [.eng] s (settleActivation s) := by
  unfold settleActivation
  refine Within.ite ?_ ?_
  · refine Within.op (endActivation_within _) rfl ?_
    exact Within.refl _ _
  · exact Within.refl _ _

theorem settleFallow_within (c : Nat) (s : State) :
    Within [.eng, .regs] s (settleFallow c s) := by
  unfold settleFallow
  dsimp only
  with_reducible refine Within.ite ?_ ?_
  · refine Within.op (settleActivation_within _) rfl ?_
    refine Within.op (State.setIrq_within _ _ _) rfl ?_
    refine Within.eng (by decide) ?_
    refine Within.foldl (fun t a => ?_) _ ?_
    · refine Within.op (State.setEngine_within _ _ _) rfl ?_
      exact Within.refl _ _
    · exact Within.refl _ _
  · exact Within.refl _ _

theorem bucketMove_within (b : Nat) (s : State) :
    Within [.eng, .eth, .kcp, .regs] s (bucketMove b s) := by
  unfold bucketMove
  refine Within.ite ?_ ?_
  · exact Within.refl _ _
  · dsimp only
    refine Within.op (settlePolicy_within _) rfl ?_
    refine Within.op (settleFallow_within _ _) rfl ?_
    refine Within.foldl (fun t a => ?_) _ ?_
    · refine Within.op (pushInput_within _ _) rfl ?_
      exact Within.refl _ _
    · refine Within.op (place_within _ _ _) rfl ?_
      refine Within.eng (by decide) ?_
      refine Within.op (State.setEngine_within _ _ _) rfl ?_
      exact Within.refl _ _

theorem bodyProgStage_within (c : Cmd) (s : State) :
    Within [.eng] s (bodyProgStage c s).st := by
  unfold bodyProgStage
  dsimp only
  refine Within.iteSt ?_ ?_
  · refine Within.op (badLen_within _) rfl ?_
    exact Within.refl _ _
  · refine checked_within ?_ ?_
    · exact Within.refl _ _
    · refine Within.iteSt ?_ ?_
      · refine Within.op (busy_within _) rfl ?_
        exact Within.refl _ _
      · refine Within.iteSt ?_ ?_
        · refine Within.op (ok_within _ _) rfl ?_
          refine Within.eng (by decide) ?_
          exact Within.refl _ _
        · split
          · refine Within.op (ok_within _ _) rfl ?_
            refine Within.eng (by decide) ?_
            exact Within.refl _ _
          · refine Within.op (err_within _ _) rfl ?_
            exact Within.refl _ _

theorem waitTimeout_within (n : Nat) (next : Option (Nat × Nat)) (s : State) :
    Within [.eng] s (waitTimeout n next s) := by
  unfold waitTimeout
  split
  · refine Within.ite ?_ ?_
    · refine Within.op (timeOut_within _ _ _) rfl ?_
      exact Within.refl _ _
    · exact Within.refl _ _
  · exact Within.refl _ _

theorem wakeComplete_within (c : Nat) (s : State) :
    Within [.eng, .kcp, .regs] s (wakeComplete c s) := by
  unfold wakeComplete
  refine Within.ite ?_ ?_
  · exact Within.refl _ _
  · dsimp only
    refine Within.op (settlePolicy_within _) rfl ?_
    refine Within.op (State.setIrq_within _ _ _) rfl ?_
    refine Within.eng (by decide) ?_
    refine Within.foldl (fun t a => ?_) _ ?_
    · refine Within.op (State.setEngine_within _ _ _) rfl ?_
      exact Within.refl _ _
    · exact Within.refl _ _

theorem censusSample_within (s : State) :
    Within [.eng] s (censusSample s) := by
  unfold censusSample
  dsimp only
  refine Within.eng (by decide) ?_
  exact Within.refl _ _

theorem taskAdmit_within (e : Nat) (wait : Option (Nat × Nat)) (s : State) :
    Within [.eng, .eth] s (taskAdmit e wait s) := by
  unfold taskAdmit
  dsimp only
  with_reducible refine Within.ite ?_ ?_
  · exact Within.refl _ _
  · split
    · with_reducible refine Within.ite ?_ ?_
      · refine Within.op (freeRx_within _ _) rfl ?_
        refine Within.eng (by decide) ?_
        refine Within.op (settleWire_within _ _) rfl ?_
        refine Within.op (State.setEngine_within _ _ _) rfl ?_
        exact Within.refl _ _
      · refine Within.op (State.setThread_within _ _ _) rfl ?_
        refine Within.eng (by decide) ?_
        refine Within.op (State.setEthP_within _ _ _) rfl ?_
        refine Within.op (settleWire_within _ _) rfl ?_
        refine Within.op (State.setEngine_within _ _ _) rfl ?_
        exact Within.refl _ _
    · exact Within.refl _ _

theorem wakeCluster_within (c : Nat) (s : State) :
    Within [.eng] s (wakeCluster c s) := by
  unfold wakeCluster
  refine Within.ite ?_ ?_
  · dsimp only
    refine Within.eng (by decide) ?_
    refine Within.foldl (fun t a => ?_) _ ?_
    · refine Within.op (State.setEngine_within _ _ _) rfl ?_
      exact Within.refl _ _
    · exact Within.refl _ _
  · exact Within.refl _ _

theorem startMove_within (b e : Nat) (s : State) :
    Within [.eng] s (startMove b e s) := by
  unfold startMove
  refine Within.eng (by decide) ?_
  exact Within.refl _ _

theorem emptyCluster_within (c : Nat) (s : State) :
    Within [.free, .eng] s (emptyCluster c s) := by
  unfold emptyCluster
  dsimp only
  with_reducible refine Within.ite ?_ ?_
  · exact Within.refl _ _
  · refine Within.free (by decide) ?_
    refine Within.foldl (fun t a => ?_) _ ?_
    · with_reducible refine Within.ite ?_ ?_
      · refine Within.op (startMove_within _ _ _) rfl ?_
        exact Within.refl _ _
      · exact Within.refl _ _
    · exact Within.refl _ _

theorem clusterFallow_within (c occupancy : Nat) (s : State) :
    Within [.free, .eng, .regs] s (clusterFallow c occupancy s) := by
  unfold clusterFallow
  dsimp only
  with_reducible refine Within.ite ?_ ?_
  · refine Within.op (floorTarget_within _ _) rfl ?_
    exact Within.refl _ _
  · with_reducible refine Within.ite ?_ ?_
    · refine Within.op (floorTarget_within _ _) rfl ?_
      exact Within.refl _ _
    · with_reducible refine Within.ite ?_ ?_
      · refine Within.op (floorTarget_within _ _) rfl ?_
        exact Within.refl _ _
      · with_reducible refine Within.ite ?_ ?_
        · exact Within.refl _ _
        · refine Within.op (settleFallow_within _ _) rfl ?_
          refine Within.op (floorTarget_within _ _) rfl ?_
          refine Within.eng (by decide) ?_
          refine Within.op (emptyCluster_within _ _) rfl ?_
          exact Within.refl _ _

theorem rebalanceStep_within (moves : List (Nat × Nat)) (occ : List Nat) (s : State) :
    Within [.eng] s (rebalanceStep moves occ s) := by
  unfold rebalanceStep
  refine Within.ite ?_ ?_
  · exact Within.refl _ _
  · dsimp only
    refine Within.op (countUnmet_within _) rfl ?_
    refine Within.eng (by decide) ?_
    with_reducible refine Within.ite ?_ ?_
    · refine Within.foldl (fun t a => ?_) _ ?_
      · refine Within.op (startMove_within _ _ _) rfl ?_
        exact Within.refl _ _
      · exact Within.refl _ _
    · exact Within.refl _ _

theorem keepCluster_within (c : Nat) (s : State) :
    Within [.eng] s (keepCluster c s) := by
  unfold keepCluster
  refine Within.ite ?_ ?_
  · refine Within.eng (by decide) ?_
    exact Within.refl _ _
  · exact Within.refl _ _

theorem loadTarget_within (unmet : Bool) (s : State) :
    Within [.eng] s (loadTarget unmet s) := by
  unfold loadTarget
  refine Within.eng (by decide) ?_
  exact Within.refl _ _

theorem clusterWake_within (c occupancy : Nat) (s : State) :
    Within [.eng] s (clusterWake c occupancy s) := by
  unfold clusterWake
  refine Within.ite ?_ ?_
  · refine Within.op (loadTarget_within _ _) rfl ?_
    exact Within.refl _ _
  · refine Within.ite ?_ ?_
    · refine Within.op (loadTarget_within _ _) rfl ?_
      exact Within.refl _ _
    · refine Within.op (loadTarget_within _ _) rfl ?_
      refine Within.op (wakeCluster_within _ _) rfl ?_
      exact Within.refl _ _

theorem bodyEngCensus_within (c : Cmd) (s : State) :
    Within [] s (bodyEngCensus c s).st := by
  unfold bodyEngCensus
  refine Within.iteSt ?_ ?_
  · refine Within.op (ok_within _ _) rfl ?_
    exact Within.refl _ _
  · refine Within.op (badLen_within _) rfl ?_
    exact Within.refl _ _

theorem applyPolicy_within (c : PlaceCfg) (s : State) :
    Within [.eng] s (applyPolicy c s) := by
  unfold applyPolicy
  dsimp only
  refine Within.foldl (fun t a => ?_) _ ?_
  · refine Within.foldl (fun t a => ?_) _ ?_
    · refine Within.op (startMove_within _ _ _) rfl ?_
      exact Within.refl _ _
    · exact Within.refl _ _
  · refine Within.foldl (fun t a => ?_) _ ?_
    · with_reducible refine Within.ite ?_ ?_
      · refine Within.op (wakeCluster_within _ _) rfl ?_
        refine Within.op (keepCluster_within _ _) rfl ?_
        exact Within.refl _ _
      · exact Within.refl _ _
    · refine Within.foldl (fun t a => ?_) _ ?_
      · with_reducible refine Within.ite ?_ ?_
        · refine Within.op (wakeCluster_within _ _) rfl ?_
          refine Within.op (keepCluster_within _ _) rfl ?_
          exact Within.refl _ _
        · exact Within.refl _ _
      · refine Within.eng (by decide) ?_
        exact Within.refl _ _

theorem bodyProgActivate_within (c : Cmd) (s : State) :
    Within [.eng] s (bodyProgActivate c s).st := by
  unfold bodyProgActivate
  dsimp only
  refine Within.iteSt ?_ ?_
  · refine Within.op (badLen_within _) rfl ?_
    exact Within.refl _ _
  · split
    · refine Within.iteSt ?_ ?_
      · refine Within.op (busy_within _) rfl ?_
        exact Within.refl _ _
      · refine Within.op (err_within _ _) rfl ?_
        exact Within.refl _ _
    · refine Within.iteSt ?_ ?_
      · refine Within.op (bad_within _ _) rfl ?_
        exact Within.refl _ _
      · refine Within.iteSt ?_ ?_
        · refine Within.op (err_within _ _) rfl ?_
          exact Within.refl _ _
        · refine Within.iteSt ?_ ?_
          · refine Within.op (busy_within _) rfl ?_
            exact Within.refl _ _
          · refine Within.op (pend_within _ _) rfl ?_
            refine Within.op (beginSwitch_within _) rfl ?_
            refine Within.eng (by decide) ?_
            exact Within.refl _ _

theorem declareDeadlock_within (s : State) :
    Within [.bus, .eng, .evd, .eth, .regs] s (declareDeadlock s) := by
  unfold declareDeadlock
  dsimp only
  refine Within.op (endActivation_within _) rfl ?_
  refine Within.eng (by decide) ?_
  refine Within.foldl (fun t a => ?_) _ ?_
  · refine Within.op (State.setEngine_within _ _ _) rfl ?_
    exact Within.refl _ _
  · refine Within.foldl (fun t a => ?_) _ ?_
    · refine Within.eng (by decide) ?_
      refine Within.op (clearTask_within _ _) rfl ?_
      exact Within.refl _ _
    · refine Within.op (setSticky_within _ _ _) rfl ?_
      refine Within.eng (by decide) ?_
      exact Within.refl _ _

theorem stallCensus_within (s : State) :
    Within [.bus, .eng, .evd, .eth, .regs] s (stallCensus s) := by
  unfold stallCensus
  dsimp only
  with_reducible refine Within.ite ?_ ?_
  · refine Within.op (declareDeadlock_within _) rfl ?_
    refine Within.op (censusSample_within _) rfl ?_
    exact Within.refl _ _
  · refine Within.op (censusSample_within _) rfl ?_
    exact Within.refl _ _

theorem bodyEngPlacementPolicy_within (c : Cmd) (s : State) :
    Within [.eng] s (bodyEngPlacementPolicy c s).st := by
  unfold bodyEngPlacementPolicy
  dsimp only
  refine Within.iteSt ?_ ?_
  · refine Within.op (ok_within _ _) rfl ?_
    exact Within.refl _ _
  · refine Within.iteSt ?_ ?_
    · refine Within.op (badLen_within _) rfl ?_
      exact Within.refl _ _
    · refine Within.iteSt ?_ ?_
      · refine Within.op (bad_within _ _) rfl ?_
        exact Within.refl _ _
      · refine Within.iteSt ?_ ?_
        · refine Within.op (badLen_within _) rfl ?_
          exact Within.refl _ _
        · refine checked_within ?_ ?_
          · exact Within.refl _ _
          · refine Within.iteSt ?_ ?_
            · refine Within.op (busy_within _) rfl ?_
              exact Within.refl _ _
            · refine Within.iteSt ?_ ?_
              · refine Within.op (ok_within _ _) rfl ?_
                refine Within.op (applyPolicy_within _ _) rfl ?_
                exact Within.refl _ _
              · refine Within.op (held_within _) rfl ?_
                refine Within.eng (by decide) ?_
                refine Within.op (applyPolicy_within _ _) rfl ?_
                exact Within.refl _ _

theorem engineSwitch_within (e : Nat) (s : State) :
    Within [.eng] s (engineSwitch e s) := by
  unfold engineSwitch
  split
  · exact Within.refl _ _
  · dsimp only
    with_reducible refine Within.ite ?_ ?_
    · exact Within.refl _ _
    · with_reducible refine Within.ite ?_ ?_
      · refine Within.op (State.setEngine_within _ _ _) rfl ?_
        refine Within.op (State.setEngine_within _ _ _) rfl ?_
        exact Within.refl _ _
      · refine Within.op (settleActivation_within _) rfl ?_
        refine Within.op (State.setEngine_within _ _ _) rfl ?_
        exact Within.refl _ _

theorem bodyArbPolicy_within (c : Cmd) (s : State) :
    Within [.arb] s (bodyArbPolicy c s).st := by
  unfold bodyArbPolicy
  dsimp only
  refine Within.iteSt ?_ ?_
  · refine Within.op (ok_within _ _) rfl ?_
    exact Within.refl _ _
  · refine Within.iteSt ?_ ?_
    · refine Within.op (badLen_within _) rfl ?_
      exact Within.refl _ _
    · refine checked_within ?_ ?_
      · exact Within.refl _ _
      · refine Within.op (held_within _) rfl ?_
        refine Within.arb (by decide) ?_
        exact Within.refl _ _

theorem scrubBurst_within (bank : Nat) (s : State) :
    Within [.arb] s (scrubBurst bank s) := by
  unfold scrubBurst
  dsimp only
  with_reducible refine Within.ite ?_ ?_
  · exact Within.refl _ _
  · refine Within.arb (by decide) ?_
    exact Within.refl _ _

theorem setTally_within (resource r : Nat) (v : Int) (s : State) :
    Within [.arb] s (setTally resource r v s) := by
  unfold setTally
  refine Within.arb (by decide) ?_
  exact Within.refl _ _

theorem applyWeights_within (s : State) :
    Within [.arb] s (applyWeights s) := by
  unfold applyWeights
  split
  · exact Within.refl _ _
  · dsimp only
    refine Within.foldl (fun t a => ?_) _ ?_
    · refine Within.foldl (fun t a => ?_) _ ?_
      · refine Within.op (setTally_within _ _ _ _) rfl ?_
        exact Within.refl _ _
      · exact Within.refl _ _
    · refine Within.arb (by decide) ?_
      exact Within.refl _ _

theorem refillTallies_within (resource : Nat) (s : State) :
    Within [.arb] s (refillTallies resource s) := by
  unfold refillTallies
  dsimp only
  with_reducible refine Within.ite ?_ ?_
  · refine Within.foldl (fun t a => ?_) _ ?_
    · refine Within.op (setTally_within _ _ _ _) rfl ?_
      exact Within.refl _ _
    · refine Within.foldl (fun t a => ?_) _ ?_
      · refine Within.op (setTally_within _ _ _ _) rfl ?_
        exact Within.refl _ _
      · exact Within.refl _ _
  · refine Within.foldl (fun t a => ?_) _ ?_
    · refine Within.op (setTally_within _ _ _ _) rfl ?_
      exact Within.refl _ _
    · exact Within.refl _ _

theorem arbiterWindow_within (s : State) :
    Within [.arb, .kcp] s (arbiterWindow s) := by
  unfold arbiterWindow
  refine Within.ite ?_ ?_
  · exact Within.refl _ _
  · dsimp only
    refine Within.foldl (fun t a => ?_) _ ?_
    · refine answerHeld_within (by decide) ?_ (fun c t => ?_)
      · exact Within.refl _ _
      · refine Within.op (ok_within _ _) rfl ?_
        exact Within.refl _ _
    · refine Within.foldl (fun t a => ?_) _ ?_
      · refine Within.op (refillTallies_within _ _) rfl ?_
        exact Within.refl _ _
      · refine Within.arb (by decide) ?_
        refine Within.op (applyWeights_within _) rfl ?_
        exact Within.refl _ _

theorem perfMax_within (e v : Nat) (s : State) :
    Within [.regs] s (perfMax e v s) := by
  unfold perfMax
  dsimp only
  refine Within.regs (by decide) ?_
  exact Within.refl _ _

theorem countGrant_within (resource r op left waited : Nat) (s : State) :
    Within [.regs] s (countGrant resource r op left waited s) := by
  unfold countGrant
  dsimp only
  refine Within.op (filterCount_within _ _ _) rfl ?_
  with_reducible refine Within.ite ?_ ?_
  · refine Within.op (perfAdd_within _ _ _) rfl ?_
    with_reducible refine Within.ite ?_ ?_
    · with_reducible refine Within.ite ?_ ?_
      · refine Within.op (perfAdd_within _ _ _) rfl ?_
        refine Within.op (perfAdd_within _ _ _) rfl ?_
        exact Within.refl _ _
      · refine Within.op (perfAdd_within _ _ _) rfl ?_
        refine Within.op (perfAdd_within _ _ _) rfl ?_
        exact Within.refl _ _
    · refine Within.op (perfMax_within _ _ _) rfl ?_
      refine Within.op (perfAdd_within _ _ _) rfl ?_
      with_reducible refine Within.ite ?_ ?_
      · refine Within.op (perfAdd_within _ _ _) rfl ?_
        refine Within.op (perfAdd_within _ _ _) rfl ?_
        exact Within.refl _ _
      · refine Within.op (perfAdd_within _ _ _) rfl ?_
        refine Within.op (perfAdd_within _ _ _) rfl ?_
        exact Within.refl _ _
  · with_reducible refine Within.ite ?_ ?_
    · with_reducible refine Within.ite ?_ ?_
      · refine Within.op (perfAdd_within _ _ _) rfl ?_
        refine Within.op (perfAdd_within _ _ _) rfl ?_
        exact Within.refl _ _
      · refine Within.op (perfAdd_within _ _ _) rfl ?_
        refine Within.op (perfAdd_within _ _ _) rfl ?_
        exact Within.refl _ _
    · refine Within.op (perfMax_within _ _ _) rfl ?_
      refine Within.op (perfAdd_within _ _ _) rfl ?_
      with_reducible refine Within.ite ?_ ?_
      · refine Within.op (perfAdd_within _ _ _) rfl ?_
        refine Within.op (perfAdd_within _ _ _) rfl ?_
        exact Within.refl _ _
      · refine Within.op (perfAdd_within _ _ _) rfl ?_
        refine Within.op (perfAdd_within _ _ _) rfl ?_
        exact Within.refl _ _

theorem arbiterGrant_within (resource : Nat) (waiting : List (Nat × Nat × Nat)) (s : State) :
    Within [.arb, .regs] s (arbiterGrant resource waiting s) := by
  unfold arbiterGrant
  split
  · exact Within.refl _ _
  · refine Within.op (countGrant_within _ _ _ _ _ _) rfl ?_
    refine Within.op (setTally_within _ _ _ _) rfl ?_
    exact Within.refl _ _

theorem State.setTan_within (s : State) (x : Tan) :
    Within [.tan] s (State.setTan s x) := by
  unfold State.setTan
  refine Within.tan (by decide) ?_
  exact Within.refl _ _

theorem settleRole_within (s : State) :
    Within [.tan] s (settleRole s) := by
  unfold settleRole
  dsimp only
  refine Within.op (State.setTan_within _ _) rfl ?_
  exact Within.refl _ _

theorem setDriving_within (v : Bool) (s : State) :
    Within [.tan] s (setDriving v s) := by
  unfold setDriving
  refine Within.ite ?_ ?_
  · exact Within.refl _ _
  · refine Within.op (State.setTan_within _ _) rfl ?_
    exact Within.refl _ _

theorem decideClaim_within (s : State) :
    Within [.tan] s (decideClaim s) := by
  unfold decideClaim
  dsimp only
  refine Within.op (settleRole_within _) rfl ?_
  with_reducible refine Within.ite ?_ ?_
  · refine Within.op (setDriving_within _ _) rfl ?_
    refine Within.op (State.setTan_within _ _) rfl ?_
    refine Within.op (State.setTan_within _ _) rfl ?_
    exact Within.refl _ _
  · refine Within.op (State.setTan_within _ _) rfl ?_
    exact Within.refl _ _

theorem tandemVerdict_within (s : State) :
    Within [.tan] s (tandemVerdict s) := by
  unfold tandemVerdict
  dsimp only
  with_reducible refine Within.ite ?_ ?_
  · exact Within.refl _ _
  · refine Within.op (decideClaim_within _) rfl ?_
    refine Within.op (State.setTan_within _ _) rfl ?_
    exact Within.refl _ _

theorem tandemCompare_within (disagree : Bool) (s : State) :
    Within [.bus, .tan, .regs] s (tandemCompare disagree s) := by
  unfold tandemCompare
  dsimp only
  with_reducible refine Within.ite ?_ ?_
  · with_reducible refine Within.ite ?_ ?_
    · refine Within.op (tandemVerdict_within _) rfl ?_
      refine Within.op (setSticky_within _ _ _) rfl ?_
      refine Within.op (State.setTan_within _ _) rfl ?_
      refine Within.op (State.setTan_within _ _) rfl ?_
      exact Within.refl _ _
    · refine Within.op (State.setTan_within _ _) rfl ?_
      exact Within.refl _ _
  · refine Within.op (State.setTan_within _ _) rfl ?_
    exact Within.refl _ _

theorem tandemCompute_within (s : State) :
    Within [.bus, .tan, .regs] s (tandemCompute s) := by
  unfold tandemCompute
  refine Within.ite ?_ ?_
  · exact Within.refl _ _
  · dsimp only
    split
    · refine Within.op (tandemCompare_within _ _) rfl ?_
      refine Within.op (State.setTan_within _ _) rfl ?_
      exact Within.refl _ _
    · refine Within.op (State.setTan_within _ _) rfl ?_
      exact Within.refl _ _

theorem mirrorFrame_within (bytes : Option (List Byte)) (s : State) :
    Within [.tan] s (mirrorFrame bytes s) := by
  unfold mirrorFrame
  split
  · refine Within.op (State.setTan_within _ _) rfl ?_
    exact Within.refl _ _
  · exact Within.refl _ _

theorem bodyTanStatus_within (c : Cmd) (s : State) :
    Within [] s (bodyTanStatus c s).st := by
  unfold bodyTanStatus
  refine Within.iteSt ?_ ?_
  · refine Within.op (ok_within _ _) rfl ?_
    exact Within.refl _ _
  · refine Within.op (badLen_within _) rfl ?_
    exact Within.refl _ _

theorem comparisonOut_within (s : State) :
    Within [.tan] s (comparisonOut s) := by
  unfold comparisonOut
  dsimp only
  refine Within.op (State.setTan_within _ _) rfl ?_
  exact Within.refl _ _

theorem rejoinHoldExpiry_within (s : State) :
    Within [.tan] s (rejoinHoldExpiry s) := by
  unfold rejoinHoldExpiry
  dsimp only
  split
  · with_reducible refine Within.ite ?_ ?_
    · refine Within.op (decideClaim_within _) rfl ?_
      refine Within.op (State.setTan_within _ _) rfl ?_
      exact Within.refl _ _
    · exact Within.refl _ _
  · exact Within.refl _ _

theorem tanConds_within (s : State) :
    Within [.bus, .regs] s (tanConds s) := by
  unfold tanConds
  dsimp only
  with_reducible refine Within.ite ?_ ?_
  · with_reducible refine Within.ite ?_ ?_
    · with_reducible refine Within.ite ?_ ?_
      · exact Within.refl _ _
      · refine Within.op (setCond_within _ _ _ _) rfl ?_
        exact Within.refl _ _
    · refine Within.op (setCond_within _ _ _ _) rfl ?_
      with_reducible refine Within.ite ?_ ?_
      · exact Within.refl _ _
      · refine Within.op (setCond_within _ _ _ _) rfl ?_
        exact Within.refl _ _
  · refine Within.op (setCond_within _ _ _ _) rfl ?_
    with_reducible refine Within.ite ?_ ?_
    · with_reducible refine Within.ite ?_ ?_
      · exact Within.refl _ _
      · refine Within.op (setCond_within _ _ _ _) rfl ?_
        exact Within.refl _ _
    · refine Within.op (setCond_within _ _ _ _) rfl ?_
      with_reducible refine Within.ite ?_ ?_
      · exact Within.refl _ _
      · refine Within.op (setCond_within _ _ _ _) rfl ?_
        exact Within.refl _ _

theorem claimFrame_within (bytes : Option (List Byte)) (s : State) :
    Within [.bus, .tan, .regs] s (claimFrame bytes s) := by
  unfold claimFrame
  dsimp only
  with_reducible refine Within.ite ?_ ?_
  · exact Within.refl _ _
  · refine Within.op (tanConds_within _) rfl ?_
    split
    · refine Within.op (settleRole_within _) rfl ?_
      refine Within.op (State.setTan_within _ _) rfl ?_
      exact Within.refl _ _
    · refine Within.op (settleRole_within _) rfl ?_
      refine Within.op (State.setTan_within _ _) rfl ?_
      exact Within.refl _ _

theorem bodyTanClaimSet_within (c : Cmd) (s : State) :
    Within [.tan] s (bodyTanClaimSet c s).st := by
  unfold bodyTanClaimSet
  dsimp only
  refine Within.iteSt ?_ ?_
  · refine Within.op (badLen_within _) rfl ?_
    exact Within.refl _ _
  · refine checked_within ?_ ?_
    · exact Within.refl _ _
    · refine Within.iteSt ?_ ?_
      · refine Within.op (err_within _ _) rfl ?_
        exact Within.refl _ _
      · refine Within.iteSt ?_ ?_
        · refine Within.op (err_within _ _) rfl ?_
          exact Within.refl _ _
        · refine Within.op (held_within _) rfl ?_
          refine Within.op (decideClaim_within _) rfl ?_
          refine Within.op (State.setTan_within _ _) rfl ?_
          exact Within.refl _ _

theorem judgeDriver_within (s : State) :
    Within [.tan] s (judgeDriver s) := by
  unfold judgeDriver
  dsimp only
  with_reducible refine Within.ite ?_ ?_
  · refine Within.op (State.setTan_within _ _) rfl ?_
    exact Within.refl _ _
  · refine Within.op (setDriving_within _ _) rfl ?_
    refine Within.op (State.setTan_within _ _) rfl ?_
    exact Within.refl _ _

theorem judgeTie_within (s : State) :
    Within [.tan] s (judgeTie s) := by
  unfold judgeTie
  dsimp only
  refine Within.op (State.setTan_within _ _) rfl ?_
  exact Within.refl _ _

theorem judgeClaim_within (lineWord : Option Nat) (s : State) :
    Within [.tan] s (judgeClaim lineWord s) := by
  unfold judgeClaim
  dsimp only
  refine Within.op (State.setTan_within _ _) rfl ?_
  exact Within.refl _ _

theorem claimCheck_within (words : List (List Nat)) (s : State) :
    Within [.bus, .tan, .regs] s (claimCheck words s) := by
  unfold claimCheck
  refine Within.ite ?_ ?_
  · exact Within.refl _ _
  · refine Within.op (tanConds_within _) rfl ?_
    refine Within.op (settleRole_within _) rfl ?_
    refine Within.op (decideClaim_within _) rfl ?_
    refine Within.op (judgeDriver_within _) rfl ?_
    refine Within.op (judgeTie_within _) rfl ?_
    refine Within.op (judgeClaim_within _ _) rfl ?_
    exact Within.refl _ _

theorem sharedDriverEnable_within (s : State) :
    Within [.tan, .syn] s (sharedDriverEnable s) := by
  unfold sharedDriverEnable
  split
  · refine Within.ite ?_ ?_
    · refine Within.op (setDriving_within _ _) rfl ?_
      refine Within.foldl (fun t a => ?_) _ ?_
      · refine Within.op (holdLow_within _ _) rfl ?_
        exact Within.refl _ _
      · refine Within.op (State.setTan_within _ _) rfl ?_
        exact Within.refl _ _
    · exact Within.refl _ _
  · exact Within.refl _ _

theorem tandemReport_within (s : State) :
    Within [.bus, .tan] s (tandemReport s) := by
  unfold tandemReport
  refine Within.ite ?_ ?_
  · exact Within.refl _ _
  · dsimp only
    refine Within.op (State.setTan_within _ _) rfl ?_
    refine Within.bus (by decide) ?_
    exact Within.refl _ _

theorem tandemEvent_within (w : TimeWord) (s : State) :
    Within [.bus, .ref, .tan] s (tandemEvent w s) := by
  unfold tandemEvent
  split
  · exact Within.refl _ _
  · refine Within.op (tileEvent_within _ _ _) rfl ?_
    refine Within.op (State.setTan_within _ _) rfl ?_
    exact Within.refl _ _

theorem timeWord_within (bytes : Option (List Byte)) (s : State) :
    Within [.bus, .ref, .tan] s (timeWord bytes s) := by
  unfold timeWord
  split
  · dsimp only
    refine Within.op (tandemEvent_within _ _) rfl ?_
    refine Within.op (State.setTan_within _ _) rfl ?_
    exact Within.refl _ _
  · exact Within.refl _ _

theorem bodyTanCompareLimits_within (c : Cmd) (s : State) :
    Within [.tan] s (bodyTanCompareLimits c s).st := by
  unfold bodyTanCompareLimits
  dsimp only
  refine Within.iteSt ?_ ?_
  · refine Within.op (ok_within _ _) rfl ?_
    exact Within.refl _ _
  · refine Within.iteSt ?_ ?_
    · refine Within.op (badLen_within _) rfl ?_
      exact Within.refl _ _
    · refine checked_within ?_ ?_
      · exact Within.refl _ _
      · refine Within.op (ok_within _ _) rfl ?_
        refine Within.op (State.setTan_within _ _) rfl ?_
        exact Within.refl _ _

theorem claimSend_within (s : State) :
    Within [.tan, .kcp] s (claimSend s) := by
  unfold claimSend
  refine Within.ite ?_ ?_
  · refine Within.op (State.setTan_within _ _) rfl ?_
    exact Within.refl _ _
  · dsimp only
    refine Within.foldl (fun t a => ?_) _ ?_
    · refine answerHeld_within (by decide) ?_ (fun c t => ?_)
      · exact Within.refl _ _
      · refine Within.op (ok_within _ _) rfl ?_
        exact Within.refl _ _
    · refine Within.op (State.setTan_within _ _) rfl ?_
      exact Within.refl _ _

theorem putTan_within (c : TanCfg) (s : State) :
    Within [.bus, .tan, .regs] s (putTan c s) := by
  unfold putTan
  dsimp only
  refine Within.op (tanConds_within _) rfl ?_
  refine Within.op (decideClaim_within _) rfl ?_
  refine Within.op (rewriteWord_within _ _ _) rfl ?_
  with_reducible refine Within.ite ?_ ?_
  · refine Within.op (State.setTan_within _ _) rfl ?_
    exact Within.refl _ _
  · refine Within.op (setDriving_within _ _) rfl ?_
    refine Within.op (State.setTan_within _ _) rfl ?_
    refine Within.op (State.setTan_within _ _) rfl ?_
    exact Within.refl _ _

theorem bodyTanConfig_within (c : Cmd) (s : State) :
    Within [.bus, .tan, .regs] s (bodyTanConfig c s).st := by
  unfold bodyTanConfig
  dsimp only
  refine Within.iteSt ?_ ?_
  · refine Within.op (ok_within _ _) rfl ?_
    exact Within.refl _ _
  · refine Within.iteSt ?_ ?_
    · refine Within.op (badLen_within _) rfl ?_
      exact Within.refl _ _
    · refine checked_within ?_ ?_
      · exact Within.refl _ _
      · refine Within.iteSt ?_ ?_
        · refine Within.op (err_within _ _) rfl ?_
          exact Within.refl _ _
        · refine Within.iteSt ?_ ?_
          · refine Within.op (err_within _ _) rfl ?_
            exact Within.refl _ _
          · refine Within.op (ok_within _ _) rfl ?_
            refine Within.op (putTan_within _ _) rfl ?_
            exact Within.refl _ _

theorem computation_within (tempM : Int) (s : State) :
    Within [.acc, .utc, .bus, .tim, .gnss, .ref, .sel, .osc, .bnd, .log, .sealing, .tan, .syn, .kcp, .regs] s
        (computation tempM s) := by
  unfold computation
  refine Within.ite ?_ ?_
  · exact Within.refl _ _
  · dsimp only
    with_reducible refine Within.ite ?_ ?_
    · refine Within.op (stepEffective_within _) rfl ?_
      exact Within.refl _ _
    · refine Within.op (tandemCompute_within _) rfl ?_
      refine Within.op (computeAt_within _ _) rfl ?_
      refine Within.op (State.setTb_within _ _) rfl ?_
      refine Within.op (stepEffective_within _) rfl ?_
      exact Within.refl _ _

theorem clearMissed_within (m : Nat) (s : State) :
    Within [.syn] s (clearMissed m s) := by
  unfold clearMissed
  refine Within.ite ?_ ?_
  · refine Within.op (State.setOutp_within _ _ _) rfl ?_
    exact Within.refl _ _
  · exact Within.refl _ _

theorem outputResume_within (a : Nat) (s : State) :
    Within [.syn] s (outputResume a s) := by
  unfold outputResume
  dsimp only
  split
  · with_reducible refine Within.ite ?_ ?_
    · refine Within.foldl (fun t a => ?_) _ ?_
      · refine Within.op (State.setOutp_within _ _ _) rfl ?_
        exact Within.refl _ _
      · refine Within.op (State.setApll_within _ _ _) rfl ?_
        exact Within.refl _ _
    · exact Within.refl _ _
  · exact Within.refl _ _

theorem ppsEdge_within (i : Nat) (s : State) :
    Within [.syn] s (ppsEdge i s) := by
  unfold ppsEdge
  dsimp only
  split
  · exact Within.refl _ _
  · with_reducible refine Within.ite ?_ ?_
    · exact Within.refl _ _
    · with_reducible refine Within.ite ?_ ?_
      · refine Within.op (State.setOutp_within _ _ _) rfl ?_
        exact Within.refl _ _
      · with_reducible refine Within.ite ?_ ?_
        · refine Within.op (State.setOutp_within _ _ _) rfl ?_
          exact Within.refl _ _
        · refine Within.op (State.setOutp_within _ _ _) rfl ?_
          exact Within.refl _ _

theorem unsync_within (a : Nat) (s : State) :
    Within [.syn] s (unsync a s) := by
  unfold unsync
  refine Within.foldl (fun t a => ?_) _ ?_
  · refine Within.op (State.setOutp_within _ _ _) rfl ?_
    exact Within.refl _ _
  · exact Within.refl _ _

theorem putSyn_within (a : Nat) (c : SynCfg) (limit : Nat) (arm : Bool) (s : State) :
    Within [.bus, .syn, .regs] s (putSyn a c limit arm s) := by
  unfold putSyn
  dsimp only
  refine Within.op (rewriteWord_within _ _ _) rfl ?_
  with_reducible refine Within.ite ?_ ?_
  · with_reducible refine Within.ite ?_ ?_
    · refine Within.op (unsync_within _ _) rfl ?_
      refine Within.op (State.setApll_within _ _ _) rfl ?_
      refine Within.syn (by decide) ?_
      exact Within.refl _ _
    · refine Within.op (setCond_within _ _ _ _) rfl ?_
      refine Within.op (unsync_within _ _) rfl ?_
      refine Within.op (State.setApll_within _ _ _) rfl ?_
      refine Within.syn (by decide) ?_
      exact Within.refl _ _
  · refine Within.op (State.setApll_within _ _ _) rfl ?_
    refine Within.syn (by decide) ?_
    exact Within.refl _ _

theorem bodySynConfig_within (c : Cmd) (s : State) :
    Within [.bus, .syn, .regs] s (bodySynConfig c s).st := by
  unfold bodySynConfig
  dsimp only
  refine Within.iteSt ?_ ?_
  · refine checked_within ?_ ?_
    · exact Within.refl _ _
    · refine Within.op (ok_within _ _) rfl ?_
      exact Within.refl _ _
  · refine Within.iteSt ?_ ?_
    · refine Within.op (badLen_within _) rfl ?_
      exact Within.refl _ _
    · refine checked_within ?_ ?_
      · exact Within.refl _ _
      · refine Within.iteSt ?_ ?_
        · refine Within.op (err_within _ _) rfl ?_
          exact Within.refl _ _
        · refine Within.op (ok_within _ _) rfl ?_
          refine Within.op (putSyn_within _ _ _ _ _) rfl ?_
          exact Within.refl _ _

theorem loopSecond_within (i : Nat) (edge : Option FieldTime) (s : State) :
    Within [.syn] s (loopSecond i edge s) := by
  unfold loopSecond
  dsimp only
  split
  · refine Within.syn (by decide) ?_
    exact Within.refl _ _
  · refine Within.syn (by decide) ?_
    exact Within.refl _ _

theorem loopCheck_within (edge0 edge1 : Option FieldTime) (s : State) :
    Within [.bus, .syn, .regs] s (loopCheck edge0 edge1 s) := by
  unfold loopCheck
  dsimp only
  with_reducible refine Within.ite ?_ ?_
  · refine Within.op (loopSecond_within _ _ _) rfl ?_
    refine Within.op (loopSecond_within _ _ _) rfl ?_
    exact Within.refl _ _
  · refine Within.op (setCond_within _ _ _ _) rfl ?_
    refine Within.op (loopSecond_within _ _ _) rfl ?_
    refine Within.op (loopSecond_within _ _ _) rfl ?_
    exact Within.refl _ _

theorem apllLock_within (w : ApllCycles) (s : State) :
    Within [.bus, .syn, .regs] s (apllLock w s) := by
  unfold apllLock
  dsimp only
  with_reducible refine Within.ite ?_ ?_
  · exact Within.refl _ _
  · refine Within.op (setCond_within _ _ _ _) rfl ?_
    refine Within.op (State.setApll_within _ _ _) rfl ?_
    exact Within.refl _ _

theorem sampleClockStart_within (i : Nat) (s : State) :
    Within [.syn] s (sampleClockStart i s) := by
  unfold sampleClockStart
  dsimp only
  with_reducible refine Within.ite ?_ ?_
  · refine Within.op (State.setOutp_within _ _ _) rfl ?_
    exact Within.refl _ _
  · exact Within.refl _ _

theorem bodySynStatus_within (c : Cmd) (s : State) :
    Within [.free] s (bodySynStatus c s).st := by
  unfold bodySynStatus
  refine Within.iteSt ?_ ?_
  · refine Within.op (badLen_within _) rfl ?_
    exact Within.refl _ _
  · dsimp only
    refine Within.op (ok_within _ _) rfl ?_
    refine Within.foldlSnd (fun t a => ?_) _ ?_
    · try dsimp only
      refine Within.op (drawBelow_within _ _) rfl ?_
      exact Within.refl _ _
    · try dsimp only
      exact Within.refl _ _

theorem epochStartMarker_within (i : Nat) (s : State) :
    Within [.syn] s (epochStartMarker i s) := by
  unfold epochStartMarker
  dsimp only
  with_reducible refine Within.ite ?_ ?_
  · exact Within.refl _ _
  · with_reducible refine Within.ite ?_ ?_
    · with_reducible refine Within.ite ?_ ?_
      · refine Within.op (State.setOutp_within _ _ _) rfl ?_
        refine Within.op (State.setOutp_within _ _ _) rfl ?_
        exact Within.refl _ _
      · refine Within.op (State.setOutp_within _ _ _) rfl ?_
        exact Within.refl _ _
    · refine Within.op (State.setOutp_within _ _ _) rfl ?_
      refine Within.op (State.setOutp_within _ _ _) rfl ?_
      exact Within.refl _ _

theorem bodyRefclkSpread_within (c : Cmd) (s : State) :
    Within [.syn] s (bodyRefclkSpread c s).st := by
  unfold bodyRefclkSpread
  dsimp only
  refine Within.iteSt ?_ ?_
  · refine Within.op (ok_within _ _) rfl ?_
    exact Within.refl _ _
  · refine Within.iteSt ?_ ?_
    · refine Within.op (badLen_within _) rfl ?_
      exact Within.refl _ _
    · refine checked_within ?_ ?_
      · exact Within.refl _ _
      · refine Within.iteSt ?_ ?_
        · refine Within.op (err_within _ _) rfl ?_
          exact Within.refl _ _
        · refine Within.op (ok_within _ _) rfl ?_
          refine Within.syn (by decide) ?_
          exact Within.refl _ _

theorem putPps_within (i : Nat) (c : PpsCfg) (s : State) :
    Within [.syn, .regs] s (putPps i c s) := by
  unfold putPps
  dsimp only
  refine Within.op (rewriteWord_within _ _ _) rfl ?_
  with_reducible refine Within.ite ?_ ?_
  · refine Within.op (State.setApll_within _ _ _) rfl ?_
    refine Within.op (State.setOutp_within _ _ _) rfl ?_
    with_reducible refine Within.ite ?_ ?_
    · refine Within.op (State.setOutp_within _ _ _) rfl ?_
      refine Within.syn (by decide) ?_
      exact Within.refl _ _
    · refine Within.syn (by decide) ?_
      exact Within.refl _ _
  · with_reducible refine Within.ite ?_ ?_
    · refine Within.op (State.setOutp_within _ _ _) rfl ?_
      refine Within.syn (by decide) ?_
      exact Within.refl _ _
    · refine Within.syn (by decide) ?_
      exact Within.refl _ _

theorem bodyOutPpsConfig_within (c : Cmd) (s : State) :
    Within [.syn, .regs] s (bodyOutPpsConfig c s).st := by
  unfold bodyOutPpsConfig
  dsimp only
  refine Within.iteSt ?_ ?_
  · refine checked_within ?_ ?_
    · exact Within.refl _ _
    · refine Within.op (ok_within _ _) rfl ?_
      exact Within.refl _ _
  · refine Within.iteSt ?_ ?_
    · refine Within.op (badLen_within _) rfl ?_
      exact Within.refl _ _
    · refine checked_within ?_ ?_
      · exact Within.refl _ _
      · refine Within.op (ok_within _ _) rfl ?_
        refine Within.op (putPps_within _ _ _) rfl ?_
        exact Within.refl _ _

theorem syncInEdge_within (wide : Bool) (s : State) :
    Within [.syn] s (syncInEdge wide s) := by
  unfold syncInEdge
  refine Within.ite ?_ ?_
  · exact Within.refl _ _
  · refine Within.foldl (fun t a => ?_) _ ?_
    · refine Within.ite ?_ ?_
      · refine Within.op (State.setOutp_within _ _ _) rfl ?_
        exact Within.refl _ _
      · exact Within.refl _ _
    · refine Within.syn (by decide) ?_
      exact Within.refl _ _

theorem apllUnlock_within (a : Nat) (w : ApllLoss) (s : State) :
    Within [.bus, .syn, .regs] s (apllUnlock a w s) := by
  unfold apllUnlock
  dsimp only
  with_reducible refine Within.ite ?_ ?_
  · exact Within.refl _ _
  · refine Within.op (unsync_within _ _) rfl ?_
    refine Within.op (setCond_within _ _ _ _) rfl ?_
    refine Within.op (State.setApll_within _ _ _) rfl ?_
    exact Within.refl _ _

theorem bodyOutSampleClock_within (c : Cmd) (s : State) :
    Within [.syn, .regs] s (bodyOutSampleClock c s).st := by
  unfold bodyOutSampleClock
  dsimp only
  refine Within.iteSt ?_ ?_
  · refine checked_within ?_ ?_
    · exact Within.refl _ _
    · refine Within.op (ok_within _ _) rfl ?_
      exact Within.refl _ _
  · refine Within.iteSt ?_ ?_
    · refine Within.op (badLen_within _) rfl ?_
      exact Within.refl _ _
    · refine checked_within ?_ ?_
      · exact Within.refl _ _
      · refine Within.iteSt ?_ ?_
        · refine Within.op (err_within _ _) rfl ?_
          exact Within.refl _ _
        · refine Within.iteSt ?_ ?_
          · refine Within.op (bad_within _ _) rfl ?_
            exact Within.refl _ _
          · refine Within.op (ok_within _ _) rfl ?_
            refine Within.op (rewriteWord_within _ _ _) rfl ?_
            with_reducible refine Within.ite ?_ ?_
            · refine Within.syn (by decide) ?_
              exact Within.refl _ _
            · with_reducible refine Within.ite ?_ ?_
              · refine Within.op (clearMissed_within _ _) rfl ?_
                refine Within.op (State.setOutp_within _ _ _) rfl ?_
                refine Within.syn (by decide) ?_
                exact Within.refl _ _
              · refine Within.op (State.setOutp_within _ _ _) rfl ?_
                refine Within.syn (by decide) ?_
                exact Within.refl _ _

theorem sendRequest_within (i c : Nat) (s : State) (kind : GrantKind) :
    Within [.free, .svc, .eng, .key, .eth, .pwr] s (sendRequest i c s kind) := by
  unfold sendRequest
  dsimp only
  split
  · rename_i t h
    obtain rfl : _ = t := congrArg Prod.snd h
    refine Within.op (queueFree_within _ _) rfl ?_
    refine Within.op (signFrame_within _ _) rfl ?_
    refine Within.op (numbered_within _ _) rfl ?_
    exact Within.refl _ _
  · rename_i t h
    obtain rfl : _ = t := congrArg Prod.snd h
    refine Within.op (countAuthFail_within _ _ _) rfl ?_
    refine Within.op (signFrame_within _ _) rfl ?_
    refine Within.op (numbered_within _ _) rfl ?_
    exact Within.refl _ _

theorem upstreamRenewal_within (i c : Nat) (s : State) :
    Within [.free, .svc, .eng, .key, .eth, .pwr] s (upstreamRenewal i c s) := by
  unfold upstreamRenewal
  dsimp only
  with_reducible refine Within.ite ?_ ?_
  · exact Within.refl _ _
  · refine Within.foldl (fun t a => ?_) _ ?_
    · refine Within.op (sendRequest_within _ _ _ _) rfl ?_
      exact Within.refl _ _
    · refine Within.op (State.setUpD_within _ _ _) rfl ?_
      exact Within.refl _ _

theorem upEvent_within (i p : Nat) (t2 : FieldTime) (ms : Int) (tlv : Option Nat) (s : State) :
    Within [.utc, .bus, .ref, .sel, .svc, .tan, .regs] s (upEvent i p t2 ms tlv s) := by
  unfold upEvent
  dsimp only
  split
  · refine Within.op (State.setUpD_within _ _ _) rfl ?_
    exact Within.refl _ _
  · with_reducible refine Within.ite ?_ ?_
    · refine Within.op (State.setUpD_within _ _ _) rfl ?_
      exact Within.refl _ _
    · refine Within.op (refEvent_within _ _ _) rfl ?_
      refine Within.op (State.setUpD_within _ _ _) rfl ?_
      refine Within.op (State.setUpD_within _ _ _) rfl ?_
      exact Within.refl _ _

theorem upFail_within (i p : Nat) (at_ : FieldTime) (m : PtpMsg) (s : State) :
    Within [.svc, .key] s (upFail i p at_ m s) := by
  unfold upFail
  refine Within.op (failAuth_within _ _ _ _ _ _) rfl ?_
  exact Within.refl _ _

theorem upstreamGrant_within (n : Nat) (s : State) :
    Within [.svc, .eng, .key, .eth, .regs] s (upstreamGrant n s) := by
  unfold upstreamGrant
  split
  · exact Within.refl _ _
  · split
    · refine Within.ite ?_ ?_
      · refine Within.op (finishTask_within _ _) rfl ?_
        exact Within.refl _ _
      · refine Within.ite ?_ ?_
        · refine Within.op (finishTask_within _ _) rfl ?_
          refine Within.op (upFail_within _ _ _ _ _) rfl ?_
          exact Within.refl _ _
        · split
          · dsimp only
            with_reducible refine Within.ite ?_ ?_
            · refine Within.op (finishTask_within _ _) rfl ?_
              refine Within.op (State.setUpD_within _ _ _) rfl ?_
              exact Within.refl _ _
            · refine Within.op (finishTask_within _ _) rfl ?_
              refine Within.op (State.setUpD_within _ _ _) rfl ?_
              exact Within.refl _ _
          · dsimp only
            refine Within.op (finishTask_within _ _) rfl ?_
            refine Within.op (State.setUpD_within _ _ _) rfl ?_
            exact Within.refl _ _
          · refine Within.op (finishTask_within _ _) rfl ?_
            exact Within.refl _ _
    · exact Within.refl _ _

theorem noteUpVerified_within (kinds : Nat → Bool) (n : Nat) (s : State) :
    Within [.pwr] s (noteUpVerified kinds n s) := by
  unfold noteUpVerified
  split
  · refine Within.ite ?_ ?_
    · refine Within.op (countHandled_within _) rfl ?_
      exact Within.refl _ _
    · exact Within.refl _ _
  · exact Within.refl _ _

theorem choose_within (i : Nat) (s : State) :
    Within [.svc] s (choose i s) := by
  unfold choose
  dsimp only
  with_reducible refine Within.ite ?_ ?_
  · exact Within.refl _ _
  · refine Within.op (State.setUpD_within _ _ _) rfl ?_
    exact Within.refl _ _

theorem announceTimeout_within (i c : Nat) (s : State) :
    Within [.svc] s (announceTimeout i c s) := by
  unfold announceTimeout
  dsimp only
  with_reducible refine Within.ite ?_ ?_
  · refine Within.op (choose_within _ _) rfl ?_
    refine Within.op (State.setUpD_within _ _ _) rfl ?_
    exact Within.refl _ _
  · exact Within.refl _ _

theorem upstreamMessage_within (n : Nat) (s : State) :
    Within [.utc, .bus, .ref, .sel, .svc, .eng, .key, .eth, .tan, .regs] s (upstreamMessage n s) := by
  unfold upstreamMessage
  split
  · exact Within.refl _ _
  · dsimp only
    split
    · exact Within.refl _ _
    · exact Within.refl _ _
    · with_reducible refine Within.ite ?_ ?_
      · refine Within.op (finishTask_within _ _) rfl ?_
        exact Within.refl _ _
      · with_reducible refine Within.ite ?_ ?_
        · refine Within.op (finishTask_within _ _) rfl ?_
          refine Within.op (upFail_within _ _ _ _ _) rfl ?_
          exact Within.refl _ _
        · split
          · refine Within.op (finishTask_within _ _) rfl ?_
            refine Within.op (upEvent_within _ _ _ _ _ _) rfl ?_
            exact Within.refl _ _
          · refine Within.op (finishTask_within _ _) rfl ?_
            refine Within.op (State.setUpD_within _ _ _) rfl ?_
            exact Within.refl _ _
          · split
            · with_reducible refine Within.ite ?_ ?_
              · refine Within.op (finishTask_within _ _) rfl ?_
                refine Within.op (upEvent_within _ _ _ _ _ _) rfl ?_
                exact Within.refl _ _
              · refine Within.op (finishTask_within _ _) rfl ?_
                exact Within.refl _ _
            · refine Within.op (finishTask_within _ _) rfl ?_
              exact Within.refl _ _
          · split
            · with_reducible refine Within.ite ?_ ?_
              · refine Within.op (finishTask_within _ _) rfl ?_
                refine Within.op (State.setUpD_within _ _ _) rfl ?_
                exact Within.refl _ _
              · refine Within.op (finishTask_within _ _) rfl ?_
                exact Within.refl _ _
            · refine Within.op (finishTask_within _ _) rfl ?_
              exact Within.refl _ _
          · refine Within.op (finishTask_within _ _) rfl ?_
            exact Within.refl _ _

theorem upstreamAnnounce_within (n : Nat) (s : State) :
    Within [.svc, .eng, .key, .eth, .regs] s (upstreamAnnounce n s) := by
  unfold upstreamAnnounce
  split
  · exact Within.refl _ _
  · split
    · refine Within.ite ?_ ?_
      · refine Within.op (finishTask_within _ _) rfl ?_
        exact Within.refl _ _
      · refine Within.ite ?_ ?_
        · refine Within.op (finishTask_within _ _) rfl ?_
          refine Within.op (upFail_within _ _ _ _ _) rfl ?_
          exact Within.refl _ _
        · split
          · refine Within.op (finishTask_within _ _) rfl ?_
            exact Within.refl _ _
          · dsimp only
            refine Within.op (finishTask_within _ _) rfl ?_
            refine Within.op (choose_within _ _) rfl ?_
            refine Within.op (State.setUpD_within _ _ _) rfl ?_
            exact Within.refl _ _
    · exact Within.refl _ _

theorem bodySvcClientRemove_within (c : Cmd) (s : State) :
    Within [.svc, .eng, .eth] s (bodySvcClientRemove c s).st := by
  unfold bodySvcClientRemove
  dsimp only
  refine Within.iteSt ?_ ?_
  · refine Within.op (badLen_within _) rfl ?_
    exact Within.refl _ _
  · refine checked_within ?_ ?_
    · exact Within.refl _ _
    · refine Within.iteSt ?_ ?_
      · refine Within.op (ok_within _ _) rfl ?_
        exact Within.refl _ _
      · refine Within.op (held_within _) rfl ?_
        refine Within.foldl (fun t a => ?_) _ ?_
        · refine Within.op (pushInput_within _ _) rfl ?_
          exact Within.refl _ _
        · refine Within.svc (by decide) ?_
          exact Within.refl _ _

theorem bodySvcClientQuery_within (c : Cmd) (s : State) :
    Within [] s (bodySvcClientQuery c s).st := by
  unfold bodySvcClientQuery
  dsimp only
  refine Within.iteSt ?_ ?_
  · refine Within.op (badLen_within _) rfl ?_
    exact Within.refl _ _
  · refine checked_within ?_ ?_
    · exact Within.refl _ _
    · refine Within.iteSt ?_ ?_
      · refine checked_within ?_ ?_
        · exact Within.refl _ _
        · refine Within.op (ok_within _ _) rfl ?_
          exact Within.refl _ _
      · refine checked_within ?_ ?_
        · exact Within.refl _ _
        · split
          · refine Within.op (ok_within _ _) rfl ?_
            exact Within.refl _ _
          · refine Within.op (bad_within _ _) rfl ?_
            exact Within.refl _ _

theorem bodyUpstreamConfig_within (c : Cmd) (s : State) :
    Within [.svc, .regs] s (bodyUpstreamConfig c s).st := by
  unfold bodyUpstreamConfig
  dsimp only
  refine Within.iteSt ?_ ?_
  · refine Within.op (badLen_within _) rfl ?_
    exact Within.refl _ _
  · refine checked_within ?_ ?_
    · exact Within.refl _ _
    · refine Within.iteSt ?_ ?_
      · refine Within.op (ok_within _ _) rfl ?_
        exact Within.refl _ _
      · refine checked_within ?_ ?_
        · exact Within.refl _ _
        · refine Within.iteSt ?_ ?_
          · refine Within.op (err_within _ _) rfl ?_
            exact Within.refl _ _
          · refine Within.op (ok_within _ _) rfl ?_
            refine Within.op (State.setUpD_within _ _ _) rfl ?_
            refine Within.op (rewriteWord_within _ _ _) rfl ?_
            exact Within.refl _ _

theorem disableDom_within (d : Nat) (s : State) :
    Within [.free, .svc, .eng, .key, .eth, .pwr] s (disableDom d s) := by
  unfold disableDom
  refine Within.foldl (fun t a => ?_) _ ?_
  · refine Within.op (clearGrant_within _ _ _) rfl ?_
    refine Within.op (cancelGrants_within _ _ _) rfl ?_
    exact Within.refl _ _
  · exact Within.refl _ _

theorem bodySvcDomain_within (c : Cmd) (s : State) :
    Within [.free, .svc, .eng, .key, .eth, .regs, .pwr] s (bodySvcDomain c s).st := by
  unfold bodySvcDomain
  dsimp only
  refine Within.iteSt ?_ ?_
  · refine Within.op (badLen_within _) rfl ?_
    exact Within.refl _ _
  · refine checked_within ?_ ?_
    · exact Within.refl _ _
    · refine Within.iteSt ?_ ?_
      · refine Within.op (ok_within _ _) rfl ?_
        exact Within.refl _ _
      · refine checked_within ?_ ?_
        · exact Within.refl _ _
        · refine Within.iteSt ?_ ?_
          · refine Within.op (err_within _ _) rfl ?_
            exact Within.refl _ _
          · refine Within.iteSt ?_ ?_
            · refine Within.op (err_within _ _) rfl ?_
              exact Within.refl _ _
            · refine Within.op (ok_within _ _) rfl ?_
              refine Within.op (State.setDom_within _ _ _) rfl ?_
              with_reducible refine Within.ite ?_ ?_
              · refine Within.op (disableDom_within _ _) rfl ?_
                refine Within.op (rewriteWord_within _ _ _) rfl ?_
                exact Within.refl _ _
              · refine Within.op (rewriteWord_within _ _ _) rfl ?_
                exact Within.refl _ _

theorem bodySvcClientAdd_within (c : Cmd) (s : State) :
    Within [.eng, .eth] s (bodySvcClientAdd c s).st := by
  unfold bodySvcClientAdd
  dsimp only
  refine Within.iteSt ?_ ?_
  · refine Within.op (badLen_within _) rfl ?_
    exact Within.refl _ _
  · refine checked_within ?_ ?_
    · exact Within.refl _ _
    · refine Within.iteSt ?_ ?_
      · refine Within.op (err_within _ _) rfl ?_
        exact Within.refl _ _
      · refine Within.op (held_within _) rfl ?_
        refine Within.op (pushInput_within _ _) rfl ?_
        exact Within.refl _ _

theorem bodySvcProfile_within (c : Cmd) (s : State) :
    Within [.svc, .regs] s (bodySvcProfile c s).st := by
  unfold bodySvcProfile
  dsimp only
  refine Within.iteSt ?_ ?_
  · refine Within.op (badLen_within _) rfl ?_
    exact Within.refl _ _
  · refine checked_within ?_ ?_
    · exact Within.refl _ _
    · refine Within.iteSt ?_ ?_
      · refine Within.op (ok_within _ _) rfl ?_
        exact Within.refl _ _
      · refine checked_within ?_ ?_
        · exact Within.refl _ _
        · refine Within.iteSt ?_ ?_
          · refine Within.op (err_within _ _) rfl ?_
            exact Within.refl _ _
          · refine Within.op (ok_within _ _) rfl ?_
            refine Within.op (State.setProf_within _ _ _) rfl ?_
            refine Within.op (rewriteWord_within _ _ _) rfl ?_
            exact Within.refl _ _

theorem bodySvcLimits_within (c : Cmd) (s : State) :
    Within [.svc] s (bodySvcLimits c s).st := by
  unfold bodySvcLimits
  dsimp only
  refine Within.iteSt ?_ ?_
  · refine Within.op (badLen_within _) rfl ?_
    exact Within.refl _ _
  · refine Within.iteSt ?_ ?_
    · refine Within.op (ok_within _ _) rfl ?_
      exact Within.refl _ _
    · refine checked_within ?_ ?_
      · exact Within.refl _ _
      · refine Within.op (ok_within _ _) rfl ?_
        refine Within.svc (by decide) ?_
        exact Within.refl _ _

end Sys2Proof.Machine
end

