-- ==== Sys2Proof/Laws/WithinSystem.lean ====
section
/-! SUPPORT. The parts of the state that an operation may change, one lemma for each operation: resets, start-up, power, tests, registers and the command processor. -/

-- One theorem after another: elaborated side by side, their proofs wait on one another in dozens of threads.
set_option Elab.async false

namespace Sys2Proof.Machine
open Sys2Proof

theorem release_within (s : State) :
    Within [.tim, .osc, .pwr] s (release s) := by
  unfold release
  refine Within.lit ?_ (h4 := .inl (by decide)) (h8 := .inl (by decide)) (h23 := .inl (by decide))
  exact Within.refl _ _

theorem resetModule_within (torn : Bool) (s : State) : Within Part.all s (resetModule torn s) :=
  ⟨rfl, rfl, fun p hp => absurd (by cases p <;> decide) hp⟩

theorem restartModule_within (s : State) : Within Part.all s (restartModule s) :=
  Within.op (release_within _) rfl (resetModule_within false s)

theorem resetSTile_within (s : State) :
    Within [.bus, .tim, .svc, .eng, .key, .evd, .eth, .arb, .tan, .syn, .kcp, .regs, .pwr, .tst] s (resetSTile s) := by
  unfold resetSTile
  refine Within.lit ?_ (h3 := .inl (by decide)) (h4 := .inl (by decide)) (h13 := .inl (by decide)) (h14 := .inl (by
      decide)) (h15 := .inl (by decide)) (h16 := .inl (by decide)) (h17 := .inl (by decide)) (h18 := .inl (by decide))
      (h19 := .inl (by decide)) (h20 := .inl (by decide)) (h21 := .inl (by decide)) (h22 := .inl (by decide)) (h23 :=
      .inl (by decide)) (h24 := .inl (by decide))
  exact Within.refl _ _

theorem restartSTile_within (s : State) :
    Within [.bus, .tim, .svc, .eng, .key, .evd, .eth, .arb, .tan, .syn, .kcp, .regs, .pwr, .tst] s (restartSTile s) :=
        by
  unfold restartSTile
  dsimp only
  refine Within.pwr (by decide) ?_
  refine Within.op (resetSTile_within _) rfl ?_
  exact Within.refl _ _

theorem supplyLoss_within (s : State) : Within Part.all s (supplyLoss s) :=
  (Within.op (drawBelow_within _ s) rfl (Within.refl _ _)).trans (resetModule_within _ _)

theorem setCopies_within (kind : Nat) (c : Copies) (s : State) :
    Within [.pwr] s (setCopies kind c s) := by
  unfold setCopies
  refine Within.ite ?_ ?_
  · refine Within.pwr (by decide) ?_
    exact Within.refl _ _
  · refine Within.pwr (by decide) ?_
    exact Within.refl _ _

theorem startCopy_within (kind : Nat) (b : Bool) (s : State) :
    Within [.pwr] s (startCopy kind b s) := by
  unfold startCopy
  dsimp only
  refine Within.pwr (by decide) ?_
  refine Within.op (setCopies_within _ _ _) rfl ?_
  exact Within.refl _ _

theorem gnssAtReset_within (s : State) :
    Within [.gnss] s (gnssAtReset s) := by
  unfold gnssAtReset
  refine Within.ite ?_ ?_
  · refine Within.gnss (by decide) ?_
    exact Within.refl _ _
  · refine Within.ite ?_ ?_
    · refine Within.op (startSurvey_within _ _ _) rfl ?_
      exact Within.refl _ _
    · exact Within.refl _ _

theorem imageEntry_within (i : Image) (s : State) :
    Within [.bus, .log, .regs] s (imageEntry i s) := by
  unfold imageEntry
  refine Within.op (logPut_within _ _ _ _ _) rfl ?_
  exact Within.refl _ _

theorem acceptRecovery_within (i : Image) (s : State) :
    Within [.sealing, .pwr] s (acceptRecovery i s) := by
  unfold acceptRecovery
  dsimp only
  refine Within.lit ?_ (h11 := .inl (by decide)) (h23 := .inl (by decide))
  exact Within.refl _ _

theorem bootStore_within (newerOk olderOk : Bool) (s : State) :
    Within [.utc, .bus, .tim, .gnss, .ref, .osc, .bnd, .sealing, .fur, .eth, .regs] s (bootStore newerOk olderOk s) :=
        by
  unfold bootStore
  refine Within.ite ?_ ?_
  · refine Within.op (loadStore_within _ _) rfl ?_
    exact Within.refl _ _
  · refine Within.ite ?_ ?_
    · refine Within.op (loadStore_within _ _) rfl ?_
      exact Within.refl _ _
    · refine Within.op (setCond_within _ _ _ _) rfl ?_
      dsimp only
      refine Within.sealing (by decide) ?_
      refine Within.op (loadStore_within _ _) rfl ?_
      exact Within.refl _ _

theorem writeV_within (v : Nat) (s : State) :
    Within [.pwr] s (writeV v s) := by
  unfold writeV
  refine Within.pwr (by decide) ?_
  exact Within.refl _ _

theorem preferOther_within (kind : Nat) (s : State) :
    Within [.pwr] s (preferOther kind s) := by
  unfold preferOther
  dsimp only
  refine Within.pwr (by decide) ?_
  refine Within.op (setCopies_within _ _ _) rfl ?_
  exact Within.refl _ _

theorem bootEntry_within (s : State) :
    Within [.bus, .log, .regs] s (bootEntry s) := by
  unfold bootEntry
  dsimp only
  refine Within.log (by decide) ?_
  refine Within.op (logPut_within _ _ _ _ _) rfl ?_
  exact Within.refl _ _

theorem recoveredEntries_within (s : State) :
    Within [.bus, .log, .sealing, .regs, .pwr] s (recoveredEntries s) := by
  unfold recoveredEntries
  refine Within.ite ?_ ?_
  · dsimp only
    refine Within.op (closeWindow_within _ _) rfl ?_
    refine Within.pwr (by decide) ?_
    refine Within.op (imageEntry_within _ _) rfl ?_
    refine Within.op (logPut_within _ _ _ _ _) rfl ?_
    exact Within.refl _ _
  · exact Within.refl _ _

theorem startNuheif_within (newerOk olderOk lowOk : Bool) (s0 : State) :
    Within [.acc, .utc, .bus, .tim, .gnss, .ref, .osc, .bnd, .log, .sealing, .fur, .eth, .regs, .pwr] s0 (startNuheif
        newerOk olderOk lowOk s0) := by
  unfold startNuheif
  dsimp only
  refine Within.op (sealedPortFields_within _) rfl ?_
  refine Within.op (gnssAtReset_within _) rfl ?_
  refine Within.op (recoveredEntries_within _) rfl ?_
  with_reducible refine Within.ite ?_ ?_
  · refine Within.op (closeWindow_within _ _) rfl ?_
    refine Within.op (bootEntry_within _) rfl ?_
    refine Within.lit ?_ (h0 := .inl (by decide)) (h3 := .inl (by decide)) (h6 := .inl (by decide)) (h9 := .inl (by
        decide)) (h23 := .inl (by decide))
    refine Within.op (bootStore_within _ _ _) rfl ?_
    refine Within.sealing (by decide) ?_
    exact Within.refl _ _
  · refine Within.op (bootEntry_within _) rfl ?_
    refine Within.lit ?_ (h0 := .inl (by decide)) (h3 := .inl (by decide)) (h6 := .inl (by decide)) (h9 := .inl (by
        decide)) (h23 := .inl (by decide))
    refine Within.op (bootStore_within _ _ _) rfl ?_
    refine Within.sealing (by decide) ?_
    exact Within.refl _ _

theorem nuheifBoot_within (f : StoreCheck) (s : State) :
    Within [.acc, .utc, .bus, .tim, .gnss, .ref, .osc, .bnd, .log, .sealing, .fur, .eth, .regs, .pwr] s (nuheifBoot f s)
        := by
  unfold nuheifBoot
  refine Within.ite ?_ ?_
  · exact Within.refl _ _
  · split
    · refine Within.op (startNuheif_within _ _ _ _) rfl ?_
      dsimp only
      refine Within.pwr (by decide) ?_
      refine Within.op (startCopy_within _ _ _) rfl ?_
      exact Within.refl _ _
    · refine Within.pwr (by decide) ?_
      exact Within.refl _ _

theorem bootMembers_within (s : State) :
    Within [.osc] s (bootMembers s) := by
  unfold bootMembers
  dsimp only
  refine Within.osc (by decide) ?_
  refine Within.foldl (fun t a => ?_) _ ?_
  · refine Within.op (State.setOsci_within _ _ _) rfl ?_
    exact Within.refl _ _
  · exact Within.refl _ _

theorem loadSower_within (s : State) :
    Within [.eng] s (loadSower s) := by
  unfold loadSower
  dsimp only
  refine Within.foldl (fun t a => ?_) _ ?_
  · refine Within.op (State.setEngine_within _ _ _) rfl ?_
    exact Within.refl _ _
  · refine Within.eng (by decide) ?_
    exact Within.refl _ _

theorem invalidateAll_within (s : State) :
    Within [.bus, .key, .regs] s (invalidateAll s) := by
  unfold invalidateAll
  dsimp only
  refine Within.op (writeArea_within _ _) rfl ?_
  refine Within.key (by decide) ?_
  refine Within.foldl (fun t a => ?_) _ ?_
  · refine Within.op (destroySlot_within _ _ _) rfl ?_
    exact Within.refl _ _
  · refine Within.foldl (fun t a => ?_) _ ?_
    · refine Within.op (destroySlot_within _ _ _) rfl ?_
      exact Within.refl _ _
    · refine Within.foldl (fun t a => ?_) _ ?_
      · refine Within.op (destroySlot_within _ _ _) rfl ?_
        exact Within.refl _ _
      · exact Within.refl _ _

theorem applyProvision_within (s : State) :
    Within [.bus, .key, .regs, .pwr] s (applyProvision s) := by
  unfold applyProvision
  dsimp only
  with_reducible refine Within.ite ?_ ?_
  · refine Within.pwr (by decide) ?_
    exact Within.refl _ _
  · refine Within.op (invalidateAll_within _) rfl ?_
    refine Within.pwr (by decide) ?_
    exact Within.refl _ _

theorem unwrapKeys_within (s : State) :
    Within [.free, .bus, .key, .regs] s (unwrapKeys s) := by
  unfold unwrapKeys
  split
  · dsimp only
    refine Within.foldl (fun t a => ?_) _ ?_
    · refine Within.op (deriveEpochs_within _ _) rfl ?_
      exact Within.refl _ _
    · refine Within.op (readSlots_within _ _ _) rfl ?_
      refine Within.key (by decide) ?_
      exact Within.refl _ _
  · refine Within.op (setCond_within _ _ _ _) rfl ?_
    refine Within.key (by decide) ?_
    exact Within.refl _ _

theorem sTileBoot_within (s : State) :
    Within [.free, .bus, .svc, .eng, .key, .evd, .regs, .pwr] s (sTileBoot s) := by
  unfold sTileBoot
  refine Within.ite ?_ ?_
  · exact Within.refl _ _
  · dsimp only
    refine Within.op (writeV_within _ _) rfl ?_
    refine Within.lit ?_ (h13 := .inl (by decide)) (h15 := .inl (by decide)) (h16 := .inl (by decide)) (h23 := .inl (by
        decide))
    refine Within.op (drawRandom_within _ _) rfl ?_
    refine Within.op (loadSower_within _) rfl ?_
    refine Within.op (loadDevice_within _) rfl ?_
    refine Within.op (applyProvision_within _) rfl ?_
    refine Within.op (unwrapKeys_within _) rfl ?_
    exact Within.refl _ _

theorem recoveryResponder_within (s : State) :
    Within [.pwr] s (recoveryResponder s) := by
  unfold recoveryResponder
  refine Within.ite ?_ ?_
  · refine Within.pwr (by decide) ?_
    exact Within.refl _ _
  · exact Within.refl _ _

theorem mBootEnd_within (s : State) :
    Within [.osc, .pwr] s (mBootEnd s) := by
  unfold mBootEnd
  refine Within.ite ?_ ?_
  · refine Within.lit ?_ (h8 := .inl (by decide)) (h23 := .inl (by decide))
    exact Within.refl _ _
  · exact Within.refl _ _

theorem bootImageVerdict_within (s : State) :
    Within [.pwr] s (bootImageVerdict s) := by
  unfold bootImageVerdict
  refine Within.ite ?_ ?_
  · exact Within.refl _ _
  · split
    · dsimp only
      refine Within.pwr (by decide) ?_
      refine Within.op (startCopy_within _ _ _) rfl ?_
      exact Within.refl _ _
    · exact Within.refl _ _

theorem nuheifRecovery_within (f : ImageFile) (s : State) :
    Within [.sealing, .pwr] s (nuheifRecovery f s) := by
  unfold nuheifRecovery
  dsimp only
  with_reducible refine Within.ite ?_ ?_
  · refine Within.op (acceptRecovery_within _ _) rfl ?_
    exact Within.refl _ _
  · exact Within.refl _ _

theorem bodyVoltagePolicy_within (c : Cmd) (s : State) :
    Within [.pwr] s (bodyVoltagePolicy c s).st := by
  unfold bodyVoltagePolicy
  dsimp only
  refine Within.iteSt ?_ ?_
  · refine Within.op (ok_within _ _) rfl ?_
    exact Within.refl _ _
  · refine Within.iteSt ?_ ?_
    · refine Within.op (badLen_within _) rfl ?_
      exact Within.refl _ _
    · refine checked_within ?_ ?_
      · exact Within.refl _ _
      · refine Within.iteSt ?_ ?_
        · refine Within.op (ok_within _ _) rfl ?_
          refine Within.pwr (by decide) ?_
          exact Within.refl _ _
        · refine Within.op (held_within _) rfl ?_
          refine Within.lit ?_ (h23 := .inl (by decide))
          exact Within.refl _ _

theorem bodyPwrPolicy_within (c : Cmd) (s : State) :
    Within [.arb, .pwr] s (bodyPwrPolicy c s).st := by
  unfold bodyPwrPolicy
  dsimp only
  refine Within.iteSt ?_ ?_
  · refine Within.op (badLen_within _) rfl ?_
    exact Within.refl _ _
  · refine Within.iteSt ?_ ?_
    · refine Within.op (bodyVoltagePolicy_within _ _) rfl ?_
      exact Within.refl _ _
    · refine Within.iteSt ?_ ?_
      · refine Within.op (bodyArbPolicy_within _ _) rfl ?_
        exact Within.refl _ _
      · refine Within.iteSt ?_ ?_
        · refine Within.op (bad_within _ _) rfl ?_
          exact Within.refl _ _
        · refine Within.op (badLen_within _) rfl ?_
          exact Within.refl _ _

theorem setDieTemp_within (die : Nat) (t : Int) (s : State) :
    Within [.tim, .fur, .pwr] s (setDieTemp die t s) := by
  unfold setDieTemp
  refine Within.ite ?_ ?_
  · refine Within.op (State.setTb_within _ _) rfl ?_
    exact Within.refl _ _
  · refine Within.ite ?_ ?_
    · refine Within.pwr (by decide) ?_
      exact Within.refl _ _
    · refine Within.fur (by decide) ?_
      exact Within.refl _ _

theorem tempCritClear_within (temps : List Int) (s : State) :
    Within [.bus, .tim, .fur, .regs, .pwr] s (tempCritClear temps s) := by
  unfold tempCritClear
  dsimp only
  with_reducible refine Within.ite ?_ ?_
  · refine Within.op (setCond_within _ _ _ _) rfl ?_
    refine Within.pwr (by decide) ?_
    refine Within.foldl (fun t a => ?_) _ ?_
    · refine Within.op (setDieTemp_within _ _ _) rfl ?_
      exact Within.refl _ _
    · exact Within.refl _ _
  · refine Within.foldl (fun t a => ?_) _ ?_
    · refine Within.op (setDieTemp_within _ _ _) rfl ?_
      exact Within.refl _ _
    · exact Within.refl _ _

theorem avsFail_within (s : State) :
    Within [.bus, .regs, .pwr] s (avsFail s) := by
  unfold avsFail
  refine Within.ite ?_ ?_
  · exact Within.refl _ _
  · refine Within.op (setCond_within _ _ _ _) rfl ?_
    refine Within.pwr (by decide) ?_
    exact Within.refl _ _

theorem avsFaultEvent_within (alert : Bool) (s : State) :
    Within [.bus, .regs, .pwr] s (avsFaultEvent alert s) := by
  unfold avsFaultEvent
  refine Within.ite ?_ ?_
  · refine Within.op (avsFail_within _) rfl ?_
    exact Within.refl _ _
  · exact Within.refl _ _

theorem setFrag_within (kind : Nat) (f : Frag) (s : State) :
    Within [.pwr] s (setFrag kind f s) := by
  unfold setFrag
  refine Within.ite ?_ ?_
  · refine Within.pwr (by decide) ?_
    exact Within.refl _ _
  · refine Within.ite ?_ ?_
    · refine Within.pwr (by decide) ?_
      exact Within.refl _ _
    · refine Within.pwr (by decide) ?_
      exact Within.refl _ _

theorem discardStaged_within (kind : Nat) (s : State) :
    Within [.pwr] s (discardStaged kind s) := by
  unfold discardStaged
  dsimp only
  with_reducible refine Within.ite ?_ ?_
  · refine Within.pwr (by decide) ?_
    refine Within.op (setFrag_within _ _ _) rfl ?_
    exact Within.refl _ _
  · refine Within.op (setCopies_within _ _ _) rfl ?_
    refine Within.op (setFrag_within _ _ _) rfl ?_
    exact Within.refl _ _

theorem notArmed_within (s : State) :
    Within [.pwr] s (notArmed s).st := by
  unfold notArmed
  try dsimp only
  refine Within.op (discardStaged_within _ _) rfl ?_
  exact Within.refl _ _

theorem dueRestart_within (action : Nat) (s : State) :
    Within [.pwr] s (dueRestart action s) := by
  unfold dueRestart
  refine Within.ite ?_ ?_
  · exact Within.refl _ _
  · refine Within.pwr (by decide) ?_
    exact Within.refl _ _

theorem activateRecord_within (action : Nat) (r : ProvStage) (s : State) :
    Within [.pwr] s (activateRecord action r s).st := by
  unfold activateRecord
  refine Within.iteSt ?_ ?_
  · refine Within.op (notArmed_within _) rfl ?_
    exact Within.refl _ _
  · refine Within.iteSt ?_ ?_
    · refine Within.op (err_within _ _) rfl ?_
      exact Within.refl _ _
    · refine Within.op (ok_within _ _) rfl ?_
      refine Within.op (dueRestart_within _ _) rfl ?_
      refine Within.pwr (by decide) ?_
      exact Within.refl _ _

theorem preferStaged_within (kind : Nat) (s : State) :
    Within [.pwr] s (preferStaged kind s) := by
  unfold preferStaged
  dsimp only
  refine Within.op (setCopies_within _ _ _) rfl ?_
  exact Within.refl _ _

theorem activateImage_within (kind action : Nat) (s : State) :
    Within [.bus, .log, .regs, .pwr] s (activateImage kind action s).st := by
  unfold activateImage
  refine Within.iteSt ?_ ?_
  · refine Within.op (err_within _ _) rfl ?_
    exact Within.refl _ _
  · dsimp only
    refine Within.op (ok_within _ _) rfl ?_
    refine Within.op (dueRestart_within _ _) rfl ?_
    refine Within.op (preferStaged_within _ _) rfl ?_
    with_reducible refine Within.ite ?_ ?_
    · refine Within.op (imageEntry_within _ _) rfl ?_
      exact Within.refl _ _
    · exact Within.refl _ _

theorem bodyImageActivate_within (c : Cmd) (s : State) :
    Within [.bus, .log, .regs, .pwr] s (bodyImageActivate c s).st := by
  unfold bodyImageActivate
  dsimp only
  refine Within.iteSt ?_ ?_
  · refine Within.op (badLen_within _) rfl ?_
    exact Within.refl _ _
  · refine checked_within ?_ ?_
    · exact Within.refl _ _
    · refine Within.iteSt ?_ ?_
      · refine Within.op (err_within _ _) rfl ?_
        exact Within.refl _ _
      · refine Within.iteSt ?_ ?_
        · refine Within.iteSt ?_ ?_
          · refine Within.op (bad_within _ _) rfl ?_
            exact Within.refl _ _
          · refine Within.op (ok_within _ _) rfl ?_
            refine Within.pwr (by decide) ?_
            exact Within.refl _ _
        · split
          · refine Within.op (err_within _ _) rfl ?_
            exact Within.refl _ _
          · refine Within.iteSt ?_ ?_
            · refine Within.op (bad_within _ _) rfl ?_
              exact Within.refl _ _
            · split
              · refine Within.op (activateRecord_within _ _ _) rfl ?_
                exact Within.refl _ _
              · refine Within.op (activateImage_within _ _ _) rfl ?_
                exact Within.refl _ _

theorem pwrMeasured_within (s : State) :
    Within [.free] s (pwrMeasured s).2 := by
  unfold pwrMeasured
  dsimp only
  try dsimp only
  refine Within.op (drawBelow_within _ _) rfl ?_
  exact Within.refl _ _

theorem rejectStaged_within (kind : Nat) (s : State) :
    Within [.pwr] s (rejectStaged kind s).st := by
  unfold rejectStaged
  try dsimp only
  refine Within.op (discardStaged_within _ _) rfl ?_
  exact Within.refl _ _

theorem stageRecord_within (b : List Byte) (s : State) :
    Within [.pwr] s (stageRecord b s).st := by
  unfold stageRecord
  split
  · refine Within.op (rejectStaged_within _ _) rfl ?_
    exact Within.refl _ _
  · refine Within.iteSt ?_ ?_
    · refine Within.op (err_within _ _) rfl ?_
      exact Within.refl _ _
    · refine Within.iteSt ?_ ?_
      · refine Within.op (notArmed_within _) rfl ?_
        exact Within.refl _ _
      · dsimp only
        refine Within.op (ok_within _ _) rfl ?_
        refine Within.pwr (by decide) ?_
        refine Within.op (setFrag_within _ _ _) rfl ?_
        exact Within.refl _ _

theorem stageImage_within (kind : Nat) (b : List Byte) (s : State) :
    Within [.sealing, .pwr] s (stageImage kind b s).st := by
  unfold stageImage
  dsimp only
  refine Within.iteSt ?_ ?_
  · refine Within.op (rejectStaged_within _ _) rfl ?_
    exact Within.refl _ _
  · refine Within.op (ok_within _ _) rfl ?_
    with_reducible refine Within.ite ?_ ?_
    · refine Within.op (acceptRecovery_within _ _) rfl ?_
      refine Within.op (setFrag_within _ _ _) rfl ?_
      exact Within.refl _ _
    · refine Within.op (setCopies_within _ _ _) rfl ?_
      refine Within.op (setFrag_within _ _ _) rfl ?_
      exact Within.refl _ _

theorem bodyImageStage_within (c : Cmd) (s : State) :
    Within [.sealing, .pwr] s (bodyImageStage c s).st := by
  unfold bodyImageStage
  dsimp only
  refine Within.iteSt ?_ ?_
  · refine Within.op (badLen_within _) rfl ?_
    exact Within.refl _ _
  · refine checked_within ?_ ?_
    · exact Within.refl _ _
    · refine Within.iteSt ?_ ?_
      · refine Within.op (err_within _ _) rfl ?_
        exact Within.refl _ _
      · refine Within.iteSt ?_ ?_
        · refine Within.op (ok_within _ _) rfl ?_
          refine Within.op (setFrag_within _ _ _) rfl ?_
          with_reducible refine Within.ite ?_ ?_
          · refine Within.op (discardStaged_within _ _) rfl ?_
            exact Within.refl _ _
          · exact Within.refl _ _
        · refine Within.iteSt ?_ ?_
          · refine Within.op (stageRecord_within _ _) rfl ?_
            with_reducible refine Within.ite ?_ ?_
            · refine Within.op (discardStaged_within _ _) rfl ?_
              exact Within.refl _ _
            · exact Within.refl _ _
          · refine Within.op (stageImage_within _ _ _) rfl ?_
            with_reducible refine Within.ite ?_ ?_
            · refine Within.op (discardStaged_within _ _) rfl ?_
              exact Within.refl _ _
            · exact Within.refl _ _

theorem tryWrite_within (v : Nat) (good : Bool) (s : State) :
    Within [.pwr] s (tryWrite v good s) := by
  unfold tryWrite
  refine Within.ite ?_ ?_
  · refine Within.op (writeV_within _ _) rfl ?_
    exact Within.refl _ _
  · refine Within.pwr (by decide) ?_
    exact Within.refl _ _

theorem bodyPwrStatus_within (c : Cmd) (s : State) :
    Within [.free] s (bodyPwrStatus c s).st := by
  unfold bodyPwrStatus
  refine Within.iteSt ?_ ?_
  · refine Within.op (badLen_within _) rfl ?_
    exact Within.refl _ _
  · dsimp only
    refine Within.op (ok_within _ _) rfl ?_
    refine Within.op (pwrMeasured_within _) rfl ?_
    exact Within.refl _ _

theorem answerPolicies_within (s : State) :
    Within [.kcp, .pwr] s (answerPolicies s) := by
  unfold answerPolicies
  refine Within.ite ?_ ?_
  · refine Within.foldl (fun t a => ?_) _ ?_
    · refine answerHeld_within (by decide) ?_ (fun c t => ?_)
      · exact Within.refl _ _
      · refine Within.op (ok_within _ _) rfl ?_
        exact Within.refl _ _
    · refine Within.pwr (by decide) ?_
      exact Within.refl _ _
  · exact Within.refl _ _

theorem windowWrite_within (good : Bool) (s : State) :
    Within [.pwr] s (windowWrite good s) := by
  unfold windowWrite
  refine Within.ite ?_ ?_
  · refine Within.ite ?_ ?_
    · exact Within.refl _ _
    · refine Within.op (tryWrite_within _ _ _) rfl ?_
      refine Within.pwr (by decide) ?_
      exact Within.refl _ _
  · refine Within.ite ?_ ?_
    · exact Within.refl _ _
    · refine Within.op (tryWrite_within _ _ _) rfl ?_
      exact Within.refl _ _

theorem avsCount_within (good : Bool) (s : State) :
    Within [.bus, .regs, .pwr] s (avsCount good s) := by
  unfold avsCount
  dsimp only
  with_reducible refine Within.ite ?_ ?_
  · refine Within.op (avsFail_within _) rfl ?_
    refine Within.pwr (by decide) ?_
    exact Within.refl _ _
  · with_reducible refine Within.ite ?_ ?_
    · refine Within.op (setCond_within _ _ _ _) rfl ?_
      refine Within.lit ?_ (h23 := .inl (by decide))
      exact Within.refl _ _
    · refine Within.pwr (by decide) ?_
      exact Within.refl _ _

theorem windowSeen_within (p99 : Nat) (s : State) :
    Within [.pwr] s (windowSeen p99 s) := by
  unfold windowSeen
  dsimp only
  refine Within.pwr (by decide) ?_
  exact Within.refl _ _

theorem noteMargins_within (l : List Nat) (s : State) :
    Within [.pwr] s (noteMargins l s) := by
  unfold noteMargins
  refine Within.pwr (by decide) ?_
  exact Within.refl _ _

theorem rollHandled_within (s : State) :
    Within [.pwr] s (rollHandled s) := by
  unfold rollHandled
  refine Within.ite ?_ ?_
  · exact Within.refl _ _
  · refine Within.pwr (by decide) ?_
    exact Within.refl _ _

theorem voltageWindow_within (w : WindowReport) (avsOk : Bool) (s : State) :
    Within [.bus, .kcp, .regs, .pwr] s (voltageWindow w avsOk s) := by
  unfold voltageWindow
  refine Within.ite ?_ ?_
  · exact Within.refl _ _
  · refine Within.op (answerPolicies_within _) rfl ?_
    refine Within.op (windowWrite_within _ _) rfl ?_
    refine Within.op (avsCount_within _ _) rfl ?_
    refine Within.op (windowSeen_within _ _) rfl ?_
    refine Within.op (noteMargins_within _ _) rfl ?_
    refine Within.op (rollHandled_within _) rfl ?_
    exact Within.refl _ _

theorem tempCrit_within (die : Nat) (temp : Int) (s : State) :
    Within [.bus, .tim, .fur, .regs, .pwr] s (tempCrit die temp s) := by
  unfold tempCrit
  dsimp only
  with_reducible refine Within.ite ?_ ?_
  · refine Within.op (setCond_within _ _ _ _) rfl ?_
    refine Within.pwr (by decide) ?_
    refine Within.op (setDieTemp_within _ _ _) rfl ?_
    exact Within.refl _ _
  · refine Within.op (setDieTemp_within _ _ _) rfl ?_
    exact Within.refl _ _

theorem tapLoad_within (i : TapInstr) (held_ off : Bool) (out : List Byte) (s : State) :
    Within [.tst] s (tapLoad i held_ off out s) := by
  unfold tapLoad
  refine Within.tst (by decide) ?_
  exact Within.refl _ _

theorem setLoop_within (iface inst : Nat) (l : Machine.Loop) (s : State) :
    Within [.tst] s (setLoop iface inst l s) := by
  unfold setLoop
  refine Within.tst (by decide) ?_
  exact Within.refl _ _

theorem endLoop_within (iface inst : Nat) (s : State) :
    Within [.ref, .tst] s (endLoop iface inst s) := by
  unfold endLoop
  refine Within.ite ?_ ?_
  · exact Within.refl _ _
  · dsimp only
    with_reducible refine Within.ite ?_ ?_
    · refine Within.op (holdSlot_within _ _) rfl ?_
      refine Within.op (setLoop_within _ _ _ _) rfl ?_
      exact Within.refl _ _
    · refine Within.op (setLoop_within _ _ _ _) rfl ?_
      exact Within.refl _ _

theorem unlockEffective_within (s : State) :
    Within [.tst] s (unlockEffective s) := by
  unfold unlockEffective
  refine Within.ite ?_ ?_
  · refine Within.tst (by decide) ?_
    exact Within.refl _ _
  · exact Within.refl _ _

theorem pcieDown_within (s : State) :
    Within [.bus, .kcp, .regs] s (pcieDown s) := by
  unfold pcieDown
  dsimp only
  refine Within.op (setCond_within _ _ _ _) rfl ?_
  refine Within.kcp (by decide) ?_
  exact Within.refl _ _

theorem bodyLoopbackSet_within (c : Cmd) (s : State) :
    Within [.bus, .ref, .kcp, .regs, .tst] s (bodyLoopbackSet c s).st := by
  unfold bodyLoopbackSet
  dsimp only
  refine Within.iteSt ?_ ?_
  · refine Within.op (badLen_within _) rfl ?_
    exact Within.refl _ _
  · refine checked_within ?_ ?_
    · exact Within.refl _ _
    · refine Within.iteSt ?_ ?_
      · refine Within.op (busy_within _) rfl ?_
        exact Within.refl _ _
      · refine Within.iteSt ?_ ?_
        · refine Within.op (err_within _ _) rfl ?_
          exact Within.refl _ _
        · refine Within.op (ok_within _ _) rfl ?_
          with_reducible refine Within.ite ?_ ?_
          · refine Within.op (holdSlot_within _ _) rfl ?_
            refine Within.op (setLoop_within _ _ _ _) rfl ?_
            exact Within.refl _ _
          · with_reducible refine Within.ite ?_ ?_
            · refine Within.op (dropLost_within _) rfl ?_
              refine Within.op (setLoop_within _ _ _ _) rfl ?_
              exact Within.refl _ _
            · with_reducible refine Within.ite ?_ ?_
              · refine Within.op (pcieDown_within _) rfl ?_
                refine Within.op (setLoop_within _ _ _ _) rfl ?_
                exact Within.refl _ _
              · refine Within.op (setLoop_within _ _ _ _) rfl ?_
                exact Within.refl _ _

theorem setBist_within (t : Nat) (b : Bist) (s : State) :
    Within [.tst] s (setBist t b s) := by
  unfold setBist
  refine Within.tst (by decide) ?_
  exact Within.refl _ _

theorem bodyBistRun_within (c : Cmd) (s : State) :
    Within [.tst] s (bodyBistRun c s).st := by
  unfold bodyBistRun
  dsimp only
  refine Within.iteSt ?_ ?_
  · refine Within.op (badLen_within _) rfl ?_
    exact Within.refl _ _
  · refine checked_within ?_ ?_
    · exact Within.refl _ _
    · refine Within.iteSt ?_ ?_
      · refine Within.op (ok_within _ _) rfl ?_
        exact Within.refl _ _
      · refine Within.iteSt ?_ ?_
        · refine Within.op (busy_within _) rfl ?_
          exact Within.refl _ _
        · refine Within.iteSt ?_ ?_
          · refine Within.op (err_within _ _) rfl ?_
            exact Within.refl _ _
          · refine Within.op (pend_within _ _) rfl ?_
            refine Within.op (setBist_within _ _ _) rfl ?_
            exact Within.refl _ _

theorem unlockFails_within (s : State) :
    Within [.tst] s (unlockFails s).st := by
  unfold unlockFails
  dsimp only
  try dsimp only
  refine Within.tst (by decide) ?_
  exact Within.refl _ _

theorem unitErrors_within (iface depth : Nat) (s : State) :
    Within [.free] s (unitErrors iface depth s).2 := by
  unfold unitErrors
  refine Within.iteSnd ?_ ?_
  · dsimp only
    try dsimp only
    refine Within.op (drawBelow_within _ _) rfl ?_
    exact Within.refl _ _
  · try dsimp only
    exact Within.refl _ _

theorem loopbackTestUnit_within (iface inst : Nat) (back : Option Sys2Proof.Interval) (good : Bool) (s : State) :
    Within [.free, .tst] s (loopbackTestUnit iface inst back good s) := by
  unfold loopbackTestUnit
  dsimp only
  with_reducible refine Within.ite ?_ ?_
  · exact Within.refl _ _
  · split
    · refine Within.op (setLoop_within _ _ _ _) rfl ?_
      exact Within.refl _ _
    · with_reducible refine Within.ite ?_ ?_
      · refine Within.op (setLoop_within _ _ _ _) rfl ?_
        exact Within.refl _ _
      · refine Within.op (setLoop_within _ _ _ _) rfl ?_
        refine Within.op (unitErrors_within _ _ _) rfl ?_
        exact Within.refl _ _

theorem bistAfter_within (t inst errors : Nat) (s : State) :
    Within [.bus, .eng, .key, .regs] s (bistAfter t inst errors s) := by
  unfold bistAfter
  split
  · refine Within.ite ?_ ?_
    · refine Within.op (wakeCluster_within _ _) rfl ?_
      exact Within.refl _ _
    · exact Within.refl _ _
  · refine Within.ite ?_ ?_
    · refine Within.op (rngHealthFail_within _) rfl ?_
      exact Within.refl _ _
    · refine Within.ite ?_ ?_
      · refine Within.op (rngRecover_within _) rfl ?_
        exact Within.refl _ _
      · exact Within.refl _ _
  · exact Within.refl _ _

theorem bistEnd_within (t errors : Nat) (s : State) :
    Within [.bus, .eng, .key, .regs, .tst] s (bistEnd t errors s) := by
  unfold bistEnd
  dsimp only
  with_reducible refine Within.ite ?_ ?_
  · exact Within.refl _ _
  · refine Within.op (bistAfter_within _ _ _ _) rfl ?_
    refine Within.op (setBist_within _ _ _) rfl ?_
    exact Within.refl _ _

theorem endUnlock_within (s : State) :
    Within [.tst] s (endUnlock s) := by
  unfold endUnlock
  refine Within.tst (by decide) ?_
  exact Within.refl _ _

theorem unlockChallenge_within (p : List Byte) (s : State) :
    Within [.free, .tst] s (unlockChallenge p s).st := by
  unfold unlockChallenge
  dsimp only
  refine checked_within ?_ ?_
  · exact Within.refl _ _
  · refine Within.op (ok_within _ _) rfl ?_
    refine Within.tst (by decide) ?_
    refine Within.op (drawRandom_within _ _) rfl ?_
    exact Within.refl _ _

theorem unlockResponse_within (p : List Byte) (s : State) :
    Within [.tst] s (unlockResponse p s).st := by
  unfold unlockResponse
  dsimp only
  refine Within.iteSt ?_ ?_
  · refine Within.op (err_within _ _) rfl ?_
    exact Within.refl _ _
  · refine Within.iteSt ?_ ?_
    · refine Within.op (unlockFails_within _) rfl ?_
      exact Within.refl _ _
    · refine Within.op (ok_within _ _) rfl ?_
      refine Within.tst (by decide) ?_
      exact Within.refl _ _

theorem bodyTestUnlock_within (c : Cmd) (s : State) :
    Within [.free, .tst] s (bodyTestUnlock c s).st := by
  unfold bodyTestUnlock
  dsimp only
  refine Within.iteSt ?_ ?_
  · refine Within.op (badLen_within _) rfl ?_
    exact Within.refl _ _
  · refine Within.iteSt ?_ ?_
    · refine Within.op (badLen_within _) rfl ?_
      exact Within.refl _ _
    · refine checked_within ?_ ?_
      · exact Within.refl _ _
      · refine Within.iteSt ?_ ?_
        · try dsimp only
          exact Within.refl _ _
        · split
          · refine Within.op (unlockChallenge_within _ _) rfl ?_
            exact Within.refl _ _
          · refine Within.op (unlockResponse_within _ _) rfl ?_
            exact Within.refl _ _
          · refine Within.iteSt ?_ ?_
            · refine Within.op (ok_within _ _) rfl ?_
              refine Within.op (endUnlock_within _) rfl ?_
              exact Within.refl _ _
            · refine Within.op (err_within _ _) rfl ?_
              exact Within.refl _ _

theorem bodyLoopbackClear_within (c : Cmd) (s : State) :
    Within [.ref, .tst] s (bodyLoopbackClear c s).st := by
  unfold bodyLoopbackClear
  dsimp only
  refine Within.iteSt ?_ ?_
  · refine Within.op (badLen_within _) rfl ?_
    exact Within.refl _ _
  · refine checked_within ?_ ?_
    · exact Within.refl _ _
    · refine Within.iteSt ?_ ?_
      · refine Within.op (err_within _ _) rfl ?_
        exact Within.refl _ _
      · refine Within.op (ok_within _ _) rfl ?_
        with_reducible refine Within.ite ?_ ?_
        · exact Within.refl _ _
        · refine Within.op (endLoop_within _ _ _) rfl ?_
          exact Within.refl _ _

theorem unlockExpiry_within (s : State) :
    Within [.tst] s (unlockExpiry s) := by
  unfold unlockExpiry
  split
  · refine Within.ite ?_ ?_
    · refine Within.op (endUnlock_within _) rfl ?_
      exact Within.refl _ _
    · exact Within.refl _ _
  · exact Within.refl _ _

theorem pcieLinkLoopback_within (s : State) :
    Within [.bus, .kcp, .regs, .tst] s (pcieLinkLoopback s) := by
  unfold pcieLinkLoopback
  refine Within.ite ?_ ?_
  · exact Within.refl _ _
  · refine Within.op (pcieDown_within _) rfl ?_
    refine Within.op (setLoop_within _ _ _ _) rfl ?_
    exact Within.refl _ _

theorem loopbackExpiry_within (iface inst : Nat) (s : State) :
    Within [.ref, .tst] s (loopbackExpiry iface inst s) := by
  unfold loopbackExpiry
  dsimp only
  with_reducible refine Within.ite ?_ ?_
  · refine Within.op (endLoop_within _ _ _) rfl ?_
    exact Within.refl _ _
  · exact Within.refl _ _

theorem State.setVec_within (s : State) (v : Nat) (x : Msix) :
    Within [.regs] s (State.setVec s v x) := by
  unfold State.setVec
  refine Within.regs (by decide) ?_
  exact Within.refl _ _

theorem waitMsi_within (v : Nat) (s : State) :
    Within [.regs] s (waitMsi v s) := by
  unfold waitMsi
  refine Within.ite ?_ ?_
  · refine Within.op (State.setVec_within _ _ _) rfl ?_
    exact Within.refl _ _
  · exact Within.refl _ _

theorem sendMsi_within (v : Nat) (s : State) :
    Within [.regs] s (sendMsi v s) := by
  unfold sendMsi
  refine Within.op (State.setVec_within _ _ _) rfl ?_
  exact Within.refl _ _

theorem deliverRings_within (s : State) :
    Within [.regs] s (deliverRings s) := by
  unfold deliverRings
  dsimp only
  with_reducible refine Within.ite ?_ ?_
  · refine Within.foldl (fun t a => ?_) _ ?_
    · refine Within.op (waitMsi_within _ _) rfl ?_
      exact Within.refl _ _
    · exact Within.refl _ _
  · refine Within.foldl (fun t a => ?_) _ ?_
    · refine Within.op (sendMsi_within _ _) rfl ?_
      exact Within.refl _ _
    · refine Within.op (State.setIrq_within _ _ _) rfl ?_
      refine Within.foldl (fun t a => ?_) _ ?_
      · refine Within.op (waitMsi_within _ _) rfl ?_
        exact Within.refl _ _
      · exact Within.refl _ _

theorem refreshSb_within (s : State) :
    Within [.regs] s (refreshSb s) := by
  unfold refreshSb
  refine Within.regs (by decide) ?_
  exact Within.refl _ _

theorem irqDeliver_within (g : Nat) (s : State) :
    Within [.regs] s (irqDeliver g s) := by
  unfold irqDeliver
  dsimp only
  with_reducible refine Within.ite ?_ ?_
  · exact Within.refl _ _
  · with_reducible refine Within.ite ?_ ?_
    · refine Within.op (deliverRings_within _) rfl ?_
      exact Within.refl _ _
    · with_reducible refine Within.ite ?_ ?_
      · refine Within.op (refreshSb_within _) rfl ?_
        refine Within.op (State.setIrq_within _ _ _) rfl ?_
        exact Within.refl _ _
      · with_reducible refine Within.ite ?_ ?_
        · refine Within.op (sendMsi_within _ _) rfl ?_
          refine Within.op (State.setIrq_within _ _ _) rfl ?_
          exact Within.refl _ _
        · refine Within.op (waitMsi_within _ _) rfl ?_
          exact Within.refl _ _

theorem deliverAll_within (s : State) :
    Within [.regs] s (deliverAll s) := by
  unfold deliverAll
  refine Within.foldl (fun t a => ?_) _ ?_
  · refine Within.op (irqDeliver_within _ _) rfl ?_
    exact Within.refl _ _
  · exact Within.refl _ _

theorem msixUnmask_within (vector : Option Nat) (s : State) :
    Within [.regs] s (msixUnmask vector s) := by
  unfold msixUnmask
  split
  · refine Within.op (deliverAll_within _) rfl ?_
    refine Within.op (State.setVec_within _ _ _) rfl ?_
    exact Within.refl _ _
  · refine Within.op (deliverAll_within _) rfl ?_
    refine Within.regs (by decide) ?_
    exact Within.refl _ _

theorem perfPut_within (e : Nat) (x : Perf) (s : State) :
    Within [.eng, .eth, .regs] s (perfPut e x s) := by
  unfold perfPut
  dsimp only
  with_reducible refine Within.ite ?_ ?_
  · with_reducible refine Within.ite ?_ ?_
    · refine Within.regs (by decide) ?_
      exact Within.refl _ _
    · refine Within.op (State.setEthP_within _ _ _) rfl ?_
      refine Within.regs (by decide) ?_
      exact Within.refl _ _
  · with_reducible refine Within.ite ?_ ?_
    · refine Within.foldl (fun t a => ?_) _ ?_
      · split
        · refine Within.op (State.setThread_within _ _ _) rfl ?_
          exact Within.refl _ _
        · exact Within.refl _ _
      · refine Within.regs (by decide) ?_
        exact Within.refl _ _
    · refine Within.regs (by decide) ?_
      exact Within.refl _ _

theorem perfClear_within (s : State) (e : Nat) :
    Within [.eng, .eth, .regs] s (perfClear s e) := by
  unfold perfClear
  refine Within.op (perfPut_within _ _ _) rfl ?_
  exact Within.refl _ _

theorem bodyPerfRead_within (c : Cmd) (s : State) :
    Within [.eng, .eth, .regs] s (bodyPerfRead c s).st := by
  unfold bodyPerfRead
  dsimp only
  refine Within.iteSt ?_ ?_
  · refine Within.op (badLen_within _) rfl ?_
    exact Within.refl _ _
  · refine checked_within ?_ ?_
    · exact Within.refl _ _
    · refine Within.op (ok_within _ _) rfl ?_
      with_reducible refine Within.ite ?_ ?_
      · refine Within.foldl (fun t a => ?_) _ ?_
        · refine Within.op (perfClear_within _ _) rfl ?_
          exact Within.refl _ _
        · exact Within.refl _ _
      · exact Within.refl _ _

theorem bodyIrqGroupConfig_within (c : Cmd) (s : State) :
    Within [.regs] s (bodyIrqGroupConfig c s).st := by
  unfold bodyIrqGroupConfig
  dsimp only
  refine Within.iteSt ?_ ?_
  · refine Within.op (badLen_within _) rfl ?_
    exact Within.refl _ _
  · refine Within.iteSt ?_ ?_
    · refine checked_within ?_ ?_
      · exact Within.refl _ _
      · refine Within.op (ok_within _ _) rfl ?_
        exact Within.refl _ _
    · refine checked_within ?_ ?_
      · exact Within.refl _ _
      · refine Within.iteSt ?_ ?_
        · refine Within.op (ok_within _ _) rfl ?_
          refine Within.op (refreshSb_within _) rfl ?_
          refine Within.op (State.setIrq_within _ _ _) rfl ?_
          exact Within.refl _ _
        · refine Within.op (ok_within _ _) rfl ?_
          refine Within.op (refreshSb_within _) rfl ?_
          refine Within.op (State.setIrq_within _ _ _) rfl ?_
          exact Within.refl _ _

theorem countAccess_within (write : Bool) (offset : Nat) (s : State) :
    Within [.regs] s (countAccess write offset s) := by
  unfold countAccess
  refine Within.op (filterCount_within _ _ _) rfl ?_
  exact Within.refl _ _

theorem slowTimeout_within (offset : Nat) (write : Bool) (s : State) :
    Within [.bus, .regs] s (slowTimeout offset write s) := by
  unfold slowTimeout
  refine Within.ite ?_ ?_
  · exact Within.refl _ _
  · dsimp only
    with_reducible refine Within.ite ?_ ?_
    · refine Within.op (setSticky_within _ _ _) rfl ?_
      refine Within.op (countAccess_within _ _ _) rfl ?_
      exact Within.refl _ _
    · refine Within.regs (by decide) ?_
      refine Within.op (setSticky_within _ _ _) rfl ?_
      refine Within.op (countAccess_within _ _ _) rfl ?_
      exact Within.refl _ _

theorem ovfClear_within (e v : Nat) (s : State) :
    Within [.eng, .eth, .regs] s (ovfClear e v s) := by
  unfold ovfClear
  refine Within.ite ?_ ?_
  · refine Within.op (perfPut_within _ _ _) rfl ?_
    exact Within.refl _ _
  · exact Within.refl _ _

theorem bodyFaultRead_within (c : Cmd) (s : State) :
    Within [] s (bodyFaultRead c s).st := by
  unfold bodyFaultRead
  dsimp only
  refine Within.iteSt ?_ ?_
  · refine Within.op (badLen_within _) rfl ?_
    exact Within.refl _ _
  · refine checked_within ?_ ?_
    · exact Within.refl _ _
    · refine Within.op (ok_within _ _) rfl ?_
      exact Within.refl _ _

theorem insvcAck_within (g w v : Nat) (s : State) :
    Within [.regs] s (insvcAck g w v s) := by
  unfold insvcAck
  refine Within.op (refreshSb_within _) rfl ?_
  refine Within.op (State.setIrq_within _ _ _) rfl ?_
  exact Within.refl _ _

theorem msixWrite_within (v off val : Nat) (s : State) :
    Within [.regs] s (msixWrite v off val s) := by
  unfold msixWrite
  dsimp only
  split
  · refine Within.op (State.setVec_within _ _ _) rfl ?_
    exact Within.refl _ _
  · refine Within.op (State.setVec_within _ _ _) rfl ?_
    exact Within.refl _ _
  · refine Within.op (State.setVec_within _ _ _) rfl ?_
    exact Within.refl _ _
  · with_reducible refine Within.ite ?_ ?_
    · refine Within.op (State.setVec_within _ _ _) rfl ?_
      exact Within.refl _ _
    · refine Within.op (msixUnmask_within _ _) rfl ?_
      exact Within.refl _ _

theorem resumeSafe_within (b before : Nat) (s : State) :
    Within [.bus, .tim, .fur, .eth, .regs] s (resumeSafe b before s) := by
  unfold resumeSafe
  dsimp only
  with_reducible refine Within.ite ?_ ?_
  · refine Within.foldl (fun t a => ?_) _ ?_
    · with_reducible refine Within.ite ?_ ?_
      · refine Within.op (ethLeaveSafe_within _ _) rfl ?_
        exact Within.refl _ _
      · exact Within.refl _ _
    · exact Within.refl _ _
  · with_reducible refine Within.ite ?_ ?_
    · refine Within.foldl (fun t a => ?_) _ ?_
      · with_reducible refine Within.ite ?_ ?_
        · refine Within.op (furLeaveSafe_within _ _) rfl ?_
          exact Within.refl _ _
        · exact Within.refl _ _
      · exact Within.refl _ _
    · exact Within.refl _ _

theorem faultClear_within (b w bits : Nat) (s : State) :
    Within [.bus, .tim, .fur, .eth, .regs] s (faultClear b w bits s) := by
  unfold faultClear
  dsimp only
  refine Within.op (resumeSafe_within _ _ _) rfl ?_
  with_reducible refine Within.ite ?_ ?_
  · refine Within.foldl (fun t a => ?_) _ ?_
    · refine Within.op (furFaultCleared_within _ _) rfl ?_
      exact Within.refl _ _
    · refine Within.op (clearWord_within _ _ _ _) rfl ?_
      exact Within.refl _ _
  · refine Within.op (clearWord_within _ _ _ _) rfl ?_
    exact Within.refl _ _

theorem wordWrite_within (o v : Nat) (s : State) :
    Within [.bus, .tim, .fur, .eng, .eth, .kcp, .regs] s (wordWrite o v s) := by
  unfold wordWrite
  refine Within.ite ?_ ?_
  · refine Within.regs (by decide) ?_
    exact Within.refl _ _
  · refine Within.ite ?_ ?_
    · refine Within.op (ringWrite_within _ _ _ _) rfl ?_
      exact Within.refl _ _
    · refine Within.ite ?_ ?_
      · dsimp only
        with_reducible refine Within.ite ?_ ?_
        · refine Within.op (insvcAck_within _ _ _ _) rfl ?_
          exact Within.refl _ _
        · exact Within.refl _ _
      · refine Within.ite ?_ ?_
        · refine Within.op (msixWrite_within _ _ _ _) rfl ?_
          exact Within.refl _ _
        · refine Within.ite ?_ ?_
          · refine Within.ite ?_ ?_
            · refine Within.op (ovfClear_within _ _ _) rfl ?_
              exact Within.refl _ _
            · exact Within.refl _ _
          · refine Within.ite ?_ ?_
            · dsimp only
              with_reducible refine Within.ite ?_ ?_
              · refine Within.op (faultClear_within _ _ _ _) rfl ?_
                exact Within.refl _ _
              · exact Within.refl _ _
            · exact Within.refl _ _

theorem registerWrite_within (offset value byteEnables : Nat) (s : State) :
    Within [.bus, .tim, .fur, .eng, .eth, .kcp, .regs] s (registerWrite offset value byteEnables s) := by
  unfold registerWrite
  dsimp only
  with_reducible refine Within.ite ?_ ?_
  · refine Within.op (wordWrite_within _ _ _) rfl ?_
    refine Within.op (countAccess_within _ _ _) rfl ?_
    exact Within.refl _ _
  · refine Within.op (countAccess_within _ _ _) rfl ?_
    exact Within.refl _ _

theorem bodyPerfFilter_within (c : Cmd) (s : State) :
    Within [.regs] s (bodyPerfFilter c s).st := by
  unfold bodyPerfFilter
  dsimp only
  refine Within.iteSt ?_ ?_
  · refine Within.op (badLen_within _) rfl ?_
    exact Within.refl _ _
  · refine checked_within ?_ ?_
    · exact Within.refl _ _
    · refine Within.iteSt ?_ ?_
      · refine Within.op (ok_within _ _) rfl ?_
        exact Within.refl _ _
      · refine checked_within ?_ ?_
        · exact Within.refl _ _
        · refine Within.op (ok_within _ _) rfl ?_
          refine Within.regs (by decide) ?_
          exact Within.refl _ _

theorem slotSafe_within (i : Nat) (s : State) :
    Within [.ref] s (slotSafe i s) := by
  unfold slotSafe
  refine Within.op (State.setSlot_within _ _ _) rfl ?_
  exact Within.refl _ _

theorem bodyFaultClear_within (c : Cmd) (s : State) :
    Within [.bus, .tim, .fur, .eth, .regs] s (bodyFaultClear c s).st := by
  unfold bodyFaultClear
  dsimp only
  refine Within.iteSt ?_ ?_
  · refine Within.op (badLen_within _) rfl ?_
    exact Within.refl _ _
  · refine checked_within ?_ ?_
    · exact Within.refl _ _
    · refine Within.op (ok_within _ _) rfl ?_
      refine Within.op (faultClear_within _ _ _ _) rfl ?_
      exact Within.refl _ _

theorem enterSafe_within (b i : Nat) (s : State) :
    Within [.free, .bus, .tim, .ref, .fur, .svc, .key, .evd, .eth, .tan, .kcp, .regs] s (enterSafe b i s) := by
  unfold enterSafe
  refine Within.ite ?_ ?_
  · refine Within.ite ?_ ?_
    · refine Within.op (slotSafe_within _ _) rfl ?_
      exact Within.refl _ _
    · exact Within.refl _ _
  · refine Within.ite ?_ ?_
    · refine Within.op (ethSafe_within _ _) rfl ?_
      exact Within.refl _ _
    · refine Within.ite ?_ ?_
      · refine Within.op (State.setRing_within _ _ _) rfl ?_
        exact Within.refl _ _
      · refine Within.ite ?_ ?_
        · refine Within.op (decideClaim_within _) rfl ?_
          exact Within.refl _ _
        · refine Within.ite ?_ ?_
          · refine Within.op (furSafe_within _ _) rfl ?_
            exact Within.refl _ _
          · exact Within.refl _ _

theorem mirrorWrite_within (i : Nat) (s : State) :
    Within [.regs] s (mirrorWrite i s) := by
  unfold mirrorWrite
  refine Within.ite ?_ ?_
  · exact Within.refl _ _
  · refine Within.regs (by decide) ?_
    exact Within.refl _ _

theorem bodyFltPinMask_within (c : Cmd) (s : State) :
    Within [.regs] s (bodyFltPinMask c s).st := by
  unfold bodyFltPinMask
  dsimp only
  refine Within.iteSt ?_ ?_
  · refine Within.op (badLen_within _) rfl ?_
    exact Within.refl _ _
  · refine checked_within ?_ ?_
    · exact Within.refl _ _
    · refine Within.iteSt ?_ ?_
      · refine Within.op (ok_within _ _) rfl ?_
        exact Within.refl _ _
      · refine Within.op (ok_within _ _) rfl ?_
        refine Within.op (State.setFlt_within _ _ _) rfl ?_
        exact Within.refl _ _

theorem resetSticky_within (b n : Nat) (s : State) :
    Within [.regs] s (resetSticky b n s) := by
  unfold resetSticky
  refine Within.ite ?_ ?_
  · exact Within.refl _ _
  · refine Within.op (State.setFlt_within _ _ _) rfl ?_
    exact Within.refl _ _

theorem resetEth_within (p : Nat) (s : State) :
    Within [.tim, .ref, .svc, .evd, .eth, .regs, .tst] s (resetEth p s) := by
  unfold resetEth
  dsimp only
  with_reducible refine Within.ite ?_ ?_
  · refine Within.op (enableEth_within _ _) rfl ?_
    refine Within.op (resetSticky_within _ _ _) rfl ?_
    refine Within.op (resetSticky_within _ _ _) rfl ?_
    refine Within.op (resetSticky_within _ _ _) rfl ?_
    refine Within.op (endLoop_within _ _ _) rfl ?_
    refine Within.op (State.setEthP_within _ _ _) rfl ?_
    refine Within.op (disableEth_within _ _) rfl ?_
    exact Within.refl _ _
  · refine Within.op (resetSticky_within _ _ _) rfl ?_
    refine Within.op (resetSticky_within _ _ _) rfl ?_
    refine Within.op (resetSticky_within _ _ _) rfl ?_
    refine Within.op (endLoop_within _ _ _) rfl ?_
    refine Within.op (State.setEthP_within _ _ _) rfl ?_
    refine Within.op (disableEth_within _ _) rfl ?_
    exact Within.refl _ _

theorem abortQueued_within (g : Nat) (s : State) :
    Within [.kcp] s (abortQueued g s) := by
  unfold abortQueued
  refine Within.foldl (fun t a => ?_) _ ?_
  · refine Within.op (addReply_within _ _ _ _ _ _) rfl ?_
    exact Within.refl _ _
  · refine Within.kcp (by decide) ?_
    exact Within.refl _ _

theorem resetFur_within (p : Nat) (s : State) :
    Within [.free, .bus, .tim, .ref, .fur, .key, .regs, .tst] s (resetFur p s) := by
  unfold resetFur
  dsimp only
  with_reducible refine Within.ite ?_ ?_
  · refine Within.op (enablePort_within _ _) rfl ?_
    refine Within.op (resetSticky_within _ _ _) rfl ?_
    refine Within.op (resetSticky_within _ _ _) rfl ?_
    refine Within.op (resetSticky_within _ _ _) rfl ?_
    refine Within.op (resetSticky_within _ _ _) rfl ?_
    refine Within.op (endLoop_within _ _ _) rfl ?_
    refine Within.op (clearCounters_within _ _) rfl ?_
    refine Within.op (disablePort_within _ _) rfl ?_
    exact Within.refl _ _
  · refine Within.op (resetSticky_within _ _ _) rfl ?_
    refine Within.op (resetSticky_within _ _ _) rfl ?_
    refine Within.op (resetSticky_within _ _ _) rfl ?_
    refine Within.op (resetSticky_within _ _ _) rfl ?_
    refine Within.op (endLoop_within _ _ _) rfl ?_
    refine Within.op (clearCounters_within _ _) rfl ?_
    refine Within.op (disablePort_within _ _) rfl ?_
    exact Within.refl _ _

theorem resetCond_within (b n : Nat) (s : State) :
    Within [.bus, .regs] s (resetCond b n s) := by
  unfold resetCond
  refine Within.op (resetSticky_within _ _ _) rfl ?_
  refine Within.op (setCond_within _ _ _ _) rfl ?_
  exact Within.refl _ _

theorem resetApll_within (a : Nat) (s : State) :
    Within [.bus, .syn, .regs] s (resetApll a s) := by
  unfold resetApll
  refine Within.op (unsync_within _ _) rfl ?_
  refine Within.op (resetCond_within _ _ _) rfl ?_
  refine Within.op (State.setApll_within _ _ _) rfl ?_
  exact Within.refl _ _

theorem resetNvme_within (s : State) :
    Within [.ref, .evd, .regs, .tst] s (resetNvme s) := by
  unfold resetNvme
  refine Within.op (resetSticky_within _ _ _) rfl ?_
  refine Within.op (endLoop_within _ _ _) rfl ?_
  refine Within.evd (by decide) ?_
  exact Within.refl _ _

theorem resetTan_within (s : State) :
    Within [.bus, .ref, .tan, .regs, .tst] s (resetTan s) := by
  unfold resetTan
  dsimp only
  refine Within.op (decideClaim_within _) rfl ?_
  refine Within.op (resetCond_within _ _ _) rfl ?_
  refine Within.op (resetCond_within _ _ _) rfl ?_
  refine Within.op (resetCond_within _ _ _) rfl ?_
  refine Within.op (setDriving_within _ _) rfl ?_
  refine Within.op (State.setTan_within _ _) rfl ?_
  refine Within.op (endLoop_within _ _ _) rfl ?_
  exact Within.refl _ _

theorem resetGnss_within (s : State) :
    Within [.bus, .gnss, .ref, .regs, .tst] s (resetGnss s) := by
  unfold resetGnss
  dsimp only
  refine Within.op (dropLost_within _) rfl ?_
  refine Within.op (gnssAtReset_within _) rfl ?_
  refine Within.gnss (by decide) ?_
  refine Within.op (endLoop_within _ _ _) rfl ?_
  refine Within.op (resetCond_within _ _ _) rfl ?_
  refine Within.gnss (by decide) ?_
  exact Within.refl _ _

theorem resetCluster_within (c : Nat) (s : State) :
    Within [.eng, .evd, .eth, .regs] s (resetCluster c s) := by
  unfold resetCluster
  dsimp only
  refine Within.foldl (fun t a => ?_) _ ?_
  · refine Within.op (State.setEngine_within _ _ _) rfl ?_
    exact Within.refl _ _
  · refine Within.eng (by decide) ?_
    refine Within.foldl (fun t a => ?_) _ ?_
    · refine Within.op (clearTask_within _ _) rfl ?_
      exact Within.refl _ _
    · exact Within.refl _ _

theorem resetBlock_within (b i : Nat) (s : State) :
    Within [.free, .bus, .tim, .gnss, .ref, .fur, .svc, .eng, .key, .evd, .eth, .tan, .syn, .regs, .tst] s (resetBlock b
        i s) := by
  unfold resetBlock
  split
  · refine Within.op (resetEth_within _ _) rfl ?_
    exact Within.refl _ _
  · refine Within.op (resetFur_within _ _) rfl ?_
    exact Within.refl _ _
  · refine Within.op (resetApll_within _ _) rfl ?_
    exact Within.refl _ _
  · refine Within.op (resetNvme_within _) rfl ?_
    exact Within.refl _ _
  · refine Within.op (resetTan_within _) rfl ?_
    exact Within.refl _ _
  · refine Within.op (resetGnss_within _) rfl ?_
    exact Within.refl _ _
  · refine Within.op (resetCluster_within _ _) rfl ?_
    exact Within.refl _ _

theorem bodyResetBlock_within (c : Cmd) (s : State) :
    Within [.free, .bus, .tim, .gnss, .ref, .fur, .svc, .eng, .key, .evd, .eth, .tan, .syn, .kcp, .regs, .tst] s
        (bodyResetBlock c s).st := by
  unfold bodyResetBlock
  dsimp only
  refine Within.iteSt ?_ ?_
  · refine Within.op (badLen_within _) rfl ?_
    exact Within.refl _ _
  · refine checked_within ?_ ?_
    · exact Within.refl _ _
    · refine Within.iteSt ?_ ?_
      · refine Within.op (err_within _ _) rfl ?_
        exact Within.refl _ _
      · refine Within.op (ok_within _ _) rfl ?_
        refine Within.op (abortQueued_within _ _) rfl ?_
        refine Within.op (resetBlock_within _ _ _) rfl ?_
        exact Within.refl _ _

theorem latchSnaps_within (t : Nat) (s : State) :
    Within [.free, .tim, .kcp] s (latchSnaps t s) := by
  unfold latchSnaps
  dsimp only
  with_reducible refine Within.ite ?_ ?_
  · exact Within.refl _ _
  · refine Within.kcp (by decide) ?_
    exact Within.refl _ _

theorem dropCapture_within (id : Nat) (s : State) :
    Within [.kcp] s (dropCapture id s) := by
  unfold dropCapture
  refine Within.kcp (by decide) ?_
  exact Within.refl _ _

theorem bodySnapshot_within (c : Cmd) (s : State) :
    Within [.kcp] s (bodySnapshot c s).st := by
  unfold bodySnapshot
  dsimp only
  refine Within.iteSt ?_ ?_
  · refine Within.op (badLen_within _) rfl ?_
    exact Within.refl _ _
  · refine checked_within ?_ ?_
    · exact Within.refl _ _
    · refine Within.iteSt ?_ ?_
      · refine Within.op (err_within _ _) rfl ?_
        exact Within.refl _ _
      · split
        · try dsimp only
          refine Within.op (ok_within _ _) rfl ?_
          refine Within.op (dropCapture_within _ _) rfl ?_
          exact Within.refl _ _
        · refine Within.op (held_within _) rfl ?_
          exact Within.refl _ _

theorem snapAnswer_within (c : Cmd) (s : State) :
    Within [.free, .tim, .kcp] s (snapAnswer c s).st := by
  unfold snapAnswer
  split
  · dsimp only
    try dsimp only
    refine Within.op (ok_within _ _) rfl ?_
    refine Within.op (dropCapture_within _ _) rfl ?_
    exact Within.refl _ _
  · refine Within.op (ok_within _ _) rfl ?_
    exact Within.refl _ _

theorem snapshotCapture_within (s : State) :
    Within [.free, .tim, .kcp] s (snapshotCapture s) := by
  unfold snapshotCapture
  refine Within.foldl (fun t a => ?_) _ ?_
  · refine answerHeld_within (by decide) ?_ (fun c t => ?_)
    · exact Within.refl _ _
    · refine Within.op (snapAnswer_within _ _) rfl ?_
      exact Within.refl _ _
  · exact Within.refl _ _

theorem bodyIdentify_within (c : Cmd) (s : State) :
    Within [] s (bodyIdentify c s).st := by
  unfold bodyIdentify
  refine Within.iteSt ?_ ?_
  · refine Within.op (badLen_within _) rfl ?_
    exact Within.refl _ _
  · refine Within.op (ok_within _ _) rfl ?_
    exact Within.refl _ _

theorem bodyGetGeneration_within (c : Cmd) (s : State) :
    Within [] s (bodyGetGeneration c s).st := by
  unfold bodyGetGeneration
  refine Within.iteSt ?_ ?_
  · refine Within.op (badLen_within _) rfl ?_
    exact Within.refl _ _
  · refine Within.op (ok_within _ _) rfl ?_
    exact Within.refl _ _

theorem bodyEcho_within (c : Cmd) (s : State) :
    Within [] s (bodyEcho c s).st := by
  unfold bodyEcho
  refine Within.op (ok_within _ _) rfl ?_
  exact Within.refl _ _

theorem setSpdm_within (doe : Bool) (x : Spdm) (s : State) :
    Within [.kcp] s (setSpdm doe x s) := by
  unfold setSpdm
  refine Within.ite ?_ ?_
  · refine Within.kcp (by decide) ?_
    exact Within.refl _ _
  · refine Within.kcp (by decide) ?_
    exact Within.refl _ _

theorem endSession_within (doe : Bool) (s : State) :
    Within [.kcp] s (endSession doe s) := by
  unfold endSession
  dsimp only
  with_reducible refine Within.ite ?_ ?_
  · refine Within.op (setSpdm_within _ _ _) rfl ?_
    exact Within.refl _ _
  · refine Within.kcp (by decide) ?_
    refine Within.op (setSpdm_within _ _ _) rfl ?_
    exact Within.refl _ _

theorem heartbeatTimeout_within (doe : Bool) (s : State) :
    Within [.kcp] s (heartbeatTimeout doe s) := by
  unfold heartbeatTimeout
  dsimp only
  with_reducible refine Within.ite ?_ ?_
  · refine Within.op (endSession_within _ _) rfl ?_
    exact Within.refl _ _
  · exact Within.refl _ _

theorem spdmAnswer_within (doe ok_ : Bool) (n : Nat) (body : List Byte) (f : Spdm → Spdm) (s : State) :
    Within [.kcp] s (spdmAnswer doe ok_ n body f s) := by
  unfold spdmAnswer
  refine Within.ite ?_ ?_
  · exact Within.refl _ _
  · refine Within.ite ?_ ?_
    · refine Within.op (setSpdm_within _ _ _) rfl ?_
      exact Within.refl _ _
    · refine Within.op (setSpdm_within _ _ _) rfl ?_
      exact Within.refl _ _

theorem sbDiscard_within (n : Nat) (s : State) :
    Within [.kcp] s (sbDiscard n s) := by
  unfold sbDiscard
  refine Within.kcp (by decide) ?_
  exact Within.refl _ _

theorem setAsm_within (l : List Assembly) (s : State) :
    Within [.kcp] s (setAsm l s) := by
  unfold setAsm
  refine Within.kcp (by decide) ?_
  exact Within.refl _ _

theorem reassemblyTimeout_within (s : State) :
    Within [.kcp] s (reassemblyTimeout s) := by
  unfold reassemblyTimeout
  dsimp only
  refine Within.op (sbDiscard_within _ _) rfl ?_
  refine Within.op (setAsm_within _ _) rfl ?_
  exact Within.refl _ _

theorem mctpAnswer_within (b : List Byte) (s : State) :
    Within [.kcp] s (mctpAnswer b s) := by
  unfold mctpAnswer
  refine Within.ite ?_ ?_
  · refine Within.kcp (by decide) ?_
    exact Within.refl _ _
  · exact Within.refl _ _

theorem takePacket_within (p : MctpPacket) (old : List Byte) (s : State) :
    Within [.kcp] s (takePacket p old s) := by
  unfold takePacket
  dsimp only
  with_reducible refine Within.ite ?_ ?_
  · with_reducible refine Within.ite ?_ ?_
    · refine Within.op (setAsm_within _ _) rfl ?_
      exact Within.refl _ _
    · refine Within.op (setAsm_within _ _) rfl ?_
      exact Within.refl _ _
  · refine Within.op (setAsm_within _ _) rfl ?_
    exact Within.refl _ _

theorem mctpPacket_within (p : MctpPacket) (s : State) :
    Within [.kcp] s (mctpPacket p s) := by
  unfold mctpPacket
  refine Within.ite ?_ ?_
  · exact Within.refl _ _
  · split
    · refine Within.ite ?_ ?_
      · refine Within.op (takePacket_within _ _ _) rfl ?_
        refine Within.op (sbDiscard_within _ _) rfl ?_
        exact Within.refl _ _
      · refine Within.ite ?_ ?_
        · refine Within.op (sbDiscard_within _ _) rfl ?_
          refine Within.op (setAsm_within _ _) rfl ?_
          exact Within.refl _ _
        · refine Within.op (takePacket_within _ _ _) rfl ?_
          exact Within.refl _ _
    · refine Within.ite ?_ ?_
      · refine Within.op (sbDiscard_within _ _) rfl ?_
        exact Within.refl _ _
      · refine Within.ite ?_ ?_
        · exact Within.refl _ _
        · refine Within.op (takePacket_within _ _ _) rfl ?_
          exact Within.refl _ _

theorem dropReply_within (r : Reply) (s : State) :
    Within [.kcp] s (dropReply r s) := by
  unfold dropReply
  refine Within.kcp (by decide) ?_
  exact Within.refl _ _

theorem finish_within (doe macOk : Bool) (cert : Option (List Byte)) (s : State) :
    Within [.kcp] s (finish doe macOk cert s) := by
  unfold finish
  refine Within.ite ?_ ?_
  · refine Within.op (setSpdm_within _ _ _) rfl ?_
    exact Within.refl _ _
  · refine Within.op (spdmAnswer_within _ _ _ _ _ _) rfl ?_
    exact Within.refl _ _

theorem delivered_within (r : Reply) (s : State) :
    Within [.kcp, .regs] s (delivered r s) := by
  unfold delivered
  refine Within.op (perfAdd_within _ _ _) rfl ?_
  refine Within.op (dropReply_within _ _) rfl ?_
  exact Within.refl _ _

theorem sbReplyRetry_within (acked : Bool) (s : State) :
    Within [.kcp, .regs] s (sbReplyRetry acked s) := by
  unfold sbReplyRetry
  split
  · exact Within.refl _ _
  · refine Within.ite ?_ ?_
    · refine Within.op (delivered_within _ _) rfl ?_
      exact Within.refl _ _
    · refine Within.ite ?_ ?_
      · dsimp only
        refine Within.kcp (by decide) ?_
        refine Within.op (dropReply_within _ _) rfl ?_
        exact Within.refl _ _
      · exact Within.refl _ _

theorem setEndpointId_within (op eid : Nat) (s : State) :
    Within [.kcp] s (setEndpointId op eid s) := by
  unfold setEndpointId
  refine Within.ite ?_ ?_
  · exact Within.refl _ _
  · refine Within.ite ?_ ?_
    · refine Within.op (mctpAnswer_within _ _) rfl ?_
      refine Within.kcp (by decide) ?_
      exact Within.refl _ _
    · refine Within.op (mctpAnswer_within _ _) rfl ?_
      exact Within.refl _ _

theorem mctpVendor_within (selector : Nat) (s : State) :
    Within [.free, .kcp] s (mctpVendor selector s) := by
  unfold mctpVendor
  refine Within.ite ?_ ?_
  · dsimp only
    refine Within.op (mctpAnswer_within _ _) rfl ?_
    refine Within.op (drawRandom_within _ _) rfl ?_
    exact Within.refl _ _
  · refine Within.op (mctpAnswer_within _ _) rfl ?_
    exact Within.refl _ _

theorem mctpVersions_within (t : Nat) (s : State) :
    Within [.free, .kcp] s (mctpVersions t s) := by
  unfold mctpVersions
  refine Within.ite ?_ ?_
  · dsimp only
    refine Within.op (mctpAnswer_within _ _) rfl ?_
    refine Within.op (drawRandom_within _ _) rfl ?_
    exact Within.refl _ _
  · refine Within.op (mctpAnswer_within _ _) rfl ?_
    exact Within.refl _ _

theorem setSlots_within (l : List Cmd) (s : State) :
    Within [.kcp] s (setSlots l s) := by
  unfold setSlots
  refine Within.kcp (by decide) ?_
  exact Within.refl _ _

theorem relayCommand_within (s : State) :
    Within [.kcp] s (relayCommand s) := by
  unfold relayCommand
  refine Within.ite ?_ ?_
  · exact Within.refl _ _
  · split
    · exact Within.refl _ _
    · refine Within.op (setSlots_within _ _) rfl ?_
      exact Within.refl _ _

theorem perstAssert_within (s : State) :
    Within [.bus, .kcp, .regs] s (perstAssert s) := by
  unfold perstAssert
  refine Within.op (pcieDown_within _) rfl ?_
  refine Within.kcp (by decide) ?_
  exact Within.refl _ _

theorem takeRequest_within (x : Source) (s : State) :
    Within [.kcp] s (takeRequest x s) := by
  unfold takeRequest
  dsimp only
  with_reducible refine Within.ite ?_ ?_
  · refine Within.op (State.setRing_within _ _ _) rfl ?_
    refine Within.kcp (by decide) ?_
    exact Within.refl _ _
  · split
    · refine Within.op (setAsm_within _ _) rfl ?_
      refine Within.kcp (by decide) ?_
      exact Within.refl _ _
    · refine Within.kcp (by decide) ?_
      exact Within.refl _ _

theorem markFirst_within (s : State) :
    Within [.kcp] s (markFirst s) := by
  unfold markFirst
  refine Within.kcp (by decide) ?_
  exact Within.refl _ _

theorem admitPacket_within (pk : Packet) (s : State) :
    Within [.kcp, .regs] s (admitPacket pk s) := by
  unfold admitPacket
  dsimp only
  with_reducible refine Within.ite ?_ ?_
  · with_reducible refine Within.ite ?_ ?_
    · refine Within.op (addReply_within _ _ _ _ _ _) rfl ?_
      refine Within.op (perfAdd_within _ _ _) rfl ?_
      refine Within.op (filterCount_within _ _ _) rfl ?_
      refine Within.op (takeId_within _) rfl ?_
      exact Within.refl _ _
    · refine Within.op (markFirst_within _) rfl ?_
      refine Within.op (setSlots_within _ _) rfl ?_
      refine Within.op (perfAdd_within _ _ _) rfl ?_
      refine Within.op (filterCount_within _ _ _) rfl ?_
      refine Within.op (takeId_within _) rfl ?_
      exact Within.refl _ _
  · refine Within.op (markFirst_within _) rfl ?_
    refine Within.op (setSlots_within _ _) rfl ?_
    refine Within.op (perfAdd_within _ _ _) rfl ?_
    refine Within.op (filterCount_within _ _ _) rfl ?_
    refine Within.op (takeId_within _) rfl ?_
    exact Within.refl _ _

theorem acceptPacket_within (pk : Packet) (s : State) :
    Within [.free, .bus, .tim, .gnss, .ref, .sel, .osc, .bnd, .log, .sealing, .fur, .svc, .eng, .key, .evd, .eth, .arb,
        .tan, .syn, .kcp, .regs, .pwr, .tst] s (acceptPacket pk s) := by
  unfold acceptPacket
  dsimp only
  split
  · refine Within.op (addReply_within _ _ _ _ _ _) rfl ?_
    refine Within.op (takeId_within _) rfl ?_
    refine Within.op (takeRequest_within _ _) rfl ?_
    exact Within.refl _ _
  · refine Within.op (admitPacket_within _ _) rfl ?_
    refine Within.op (takeRequest_within _ _) rfl ?_
    exact Within.refl _ _

theorem leafFreqs_within (s : State) :
    Within [.fur] s (leafFreqs s) := by
  unfold leafFreqs
  refine Within.fur (by decide) ?_
  exact Within.refl _ _

theorem pcieLinkUp_within (s : State) :
    Within [.bus, .ref, .kcp, .regs, .tst] s (pcieLinkUp s) := by
  unfold pcieLinkUp
  refine Within.ite ?_ ?_
  · exact Within.refl _ _
  · dsimp only
    with_reducible refine Within.ite ?_ ?_
    · refine Within.foldl (fun t a => ?_) _ ?_
      · refine Within.op (State.setIrq_within _ _ _) rfl ?_
        exact Within.refl _ _
      · refine Within.lit ?_ (h21 := .inl (by decide)) (h22 := .inl (by decide))
        refine Within.op (setCond_within _ _ _ _) rfl ?_
        refine Within.kcp (by decide) ?_
        with_reducible refine Within.ite ?_ ?_
        · refine Within.op (endLoop_within _ _ _) rfl ?_
          exact Within.refl _ _
        · exact Within.refl _ _
    · refine Within.op (setCond_within _ _ _ _) rfl ?_
      refine Within.kcp (by decide) ?_
      with_reducible refine Within.ite ?_ ?_
      · refine Within.op (endLoop_within _ _ _) rfl ?_
        exact Within.refl _ _
      · exact Within.refl _ _

/-- The parts that the commands of the command processor change. -/
def commandParts : List Part :=
  [.free, .bus, .tim, .gnss, .ref, .sel, .osc, .bnd, .log, .sealing, .fur, .svc, .eng, .key, .evd, .eth, .arb, .tan,
      .syn,
   .kcp, .regs, .pwr, .tst]

theorem bodyFor_within (op : Nat) (b : Body) (h : bodyFor op = some b) (c : Cmd) (s : State) :
    Within commandParts s (b c s).st := by
  unfold bodyFor at h
  split at h
  · obtain rfl := Option.some.inj h; exact (bodyIdentify_within c s).op rfl (Within.refl _ _)
  · obtain rfl := Option.some.inj h; exact (bodySnapshot_within c s).op rfl (Within.refl _ _)
  · obtain rfl := Option.some.inj h; exact (bodyEcho_within c s).op rfl (Within.refl _ _)
  · obtain rfl := Option.some.inj h; exact (bodyResetBlock_within c s).op rfl (Within.refl _ _)
  · obtain rfl := Option.some.inj h; exact (bodyGetGeneration_within c s).op rfl (Within.refl _ _)
  · obtain rfl := Option.some.inj h; exact (bodyImageStage_within c s).op rfl (Within.refl _ _)
  · obtain rfl := Option.some.inj h; exact (bodyImageActivate_within c s).op rfl (Within.refl _ _)
  · obtain rfl := Option.some.inj h; exact (bodyTbStatus_within c s).op rfl (Within.refl _ _)
  · obtain rfl := Option.some.inj h; exact (bodyTimConfig_within c s).op rfl (Within.refl _ _)
  · obtain rfl := Option.some.inj h; exact (bodyTimMeasure_within c s).op rfl (Within.refl _ _)
  · obtain rfl := Option.some.inj h; exact (bodyTimCalStatus_within c s).op rfl (Within.refl _ _)
  · obtain rfl := Option.some.inj h; exact (bodyTimCalRun_within c s).op rfl (Within.refl _ _)
  · obtain rfl := Option.some.inj h; exact (bodyGnssConfig_within c s).op rfl (Within.refl _ _)
  · obtain rfl := Option.some.inj h; exact (bodyGnssStatus_within c s).op rfl (Within.refl _ _)
  · obtain rfl := Option.some.inj h; exact (bodyGnssChannels_within c s).op rfl (Within.refl _ _)
  · obtain rfl := Option.some.inj h; exact (bodyGnssSetPosition_within c s).op rfl (Within.refl _ _)
  · obtain rfl := Option.some.inj h; exact (bodyGnssSurvey_within c s).op rfl (Within.refl _ _)
  · obtain rfl := Option.some.inj h; exact (bodyGnssPpsMsg_within c s).op rfl (Within.refl _ _)
  · obtain rfl := Option.some.inj h; exact (bodyRefConfig_within c s).op rfl (Within.refl _ _)
  · obtain rfl := Option.some.inj h; exact (bodyRefStatus_within c s).op rfl (Within.refl _ _)
  · obtain rfl := Option.some.inj h; exact (bodyRefLimits_within c s).op rfl (Within.refl _ _)
  · obtain rfl := Option.some.inj h; exact (bodyRefDuplex_within c s).op rfl (Within.refl _ _)
  · obtain rfl := Option.some.inj h; exact (bodyTodConfig_within c s).op rfl (Within.refl _ _)
  · obtain rfl := Option.some.inj h; exact (bodySelPolicy_within c s).op rfl (Within.refl _ _)
  · obtain rfl := Option.some.inj h; exact (bodySelStatus_within c s).op rfl (Within.refl _ _)
  · obtain rfl := Option.some.inj h; exact (bodySelForce_within c s).op rfl (Within.refl _ _)
  · obtain rfl := Option.some.inj h; exact (bodySelClearForce_within c s).op rfl (Within.refl _ _)
  · obtain rfl := Option.some.inj h; exact (bodyDpllConfig_within c s).op rfl (Within.refl _ _)
  · obtain rfl := Option.some.inj h; exact (bodyTimeSet_within c s).op rfl (Within.refl _ _)
  · obtain rfl := Option.some.inj h; exact (bodyTimeAdjust_within c s).op rfl (Within.refl _ _)
  · obtain rfl := Option.some.inj h; exact (bodyOscConfig_within c s).op rfl (Within.refl _ _)
  · obtain rfl := Option.some.inj h; exact (bodyEnsembleStatus_within c s).op rfl (Within.refl _ _)
  · obtain rfl := Option.some.inj h; exact (bodyHoldoverModel_within c s).op rfl (Within.refl _ _)
  · obtain rfl := Option.some.inj h; exact (bodyHoldoverLearn_within c s).op rfl (Within.refl _ _)
  · obtain rfl := Option.some.inj h; exact (bodyBoundStatus_within c s).op rfl (Within.refl _ _)
  · obtain rfl := Option.some.inj h; exact (bodyBoundParams_within c s).op rfl (Within.refl _ _)
  · obtain rfl := Option.some.inj h; exact (bodySealBreakOpen_within c s).op rfl (Within.refl _ _)
  · obtain rfl := Option.some.inj h; exact (bodySealClose_within c s).op rfl (Within.refl _ _)
  · obtain rfl := Option.some.inj h; exact (bodyLogRead_within c s).op rfl (Within.refl _ _)
  · obtain rfl := Option.some.inj h; exact (bodyMetrologyId_within c s).op rfl (Within.refl _ _)
  · obtain rfl := Option.some.inj h; exact (bodyFurPortConfig_within c s).op rfl (Within.refl _ _)
  · obtain rfl := Option.some.inj h; exact (bodyFurPortStatus_within c s).op rfl (Within.refl _ _)
  · obtain rfl := Option.some.inj h; exact (bodyFurRatePolicy_within c s).op rfl (Within.refl _ _)
  · obtain rfl := Option.some.inj h; exact (bodyFurCalibrate_within c s).op rfl (Within.refl _ _)
  · obtain rfl := Option.some.inj h; exact (bodyFurMailboxSend_within c s).op rfl (Within.refl _ _)
  · obtain rfl := Option.some.inj h; exact (bodyFurMailboxRecv_within c s).op rfl (Within.refl _ _)
  · obtain rfl := Option.some.inj h; exact (bodyFurBulkStatus_within c s).op rfl (Within.refl _ _)
  · obtain rfl := Option.some.inj h; exact (bodyEthPortConfig_within c s).op rfl (Within.refl _ _)
  · obtain rfl := Option.some.inj h; exact (bodyEthPortStatus_within c s).op rfl (Within.refl _ _)
  · obtain rfl := Option.some.inj h; exact (bodyEthTagConfig_within c s).op rfl (Within.refl _ _)
  · obtain rfl := Option.some.inj h; exact (bodyEthPauseConfig_within c s).op rfl (Within.refl _ _)
  · obtain rfl := Option.some.inj h; exact (bodyEthAsymCal_within c s).op rfl (Within.refl _ _)
  · obtain rfl := Option.some.inj h; exact (bodySvcProfile_within c s).op rfl (Within.refl _ _)
  · obtain rfl := Option.some.inj h; exact (bodySvcDomain_within c s).op rfl (Within.refl _ _)
  · obtain rfl := Option.some.inj h; exact (bodySvcClientAdd_within c s).op rfl (Within.refl _ _)
  · obtain rfl := Option.some.inj h; exact (bodySvcClientRemove_within c s).op rfl (Within.refl _ _)
  · obtain rfl := Option.some.inj h; exact (bodySvcClientQuery_within c s).op rfl (Within.refl _ _)
  · obtain rfl := Option.some.inj h; exact (bodySvcLimits_within c s).op rfl (Within.refl _ _)
  · obtain rfl := Option.some.inj h; exact (bodyUpstreamConfig_within c s).op rfl (Within.refl _ _)
  · obtain rfl := Option.some.inj h; exact (bodyEngStatus_within c s).op rfl (Within.refl _ _)
  · obtain rfl := Option.some.inj h; exact (bodyProgStage_within c s).op rfl (Within.refl _ _)
  · obtain rfl := Option.some.inj h; exact (bodyProgActivate_within c s).op rfl (Within.refl _ _)
  · obtain rfl := Option.some.inj h; exact (bodyEngPlacementPolicy_within c s).op rfl (Within.refl _ _)
  · obtain rfl := Option.some.inj h; exact (bodyEngCensus_within c s).op rfl (Within.refl _ _)
  · obtain rfl := Option.some.inj h; exact (bodyKeyWrite_within c s).op rfl (Within.refl _ _)
  · obtain rfl := Option.some.inj h; exact (bodyKeyInvalidate_within c s).op rfl (Within.refl _ _)
  · obtain rfl := Option.some.inj h; exact (bodyKeyStatus_within c s).op rfl (Within.refl _ _)
  · obtain rfl := Option.some.inj h; exact (bodyKeyAttr_within c s).op rfl (Within.refl _ _)
  · obtain rfl := Option.some.inj h; exact (bodyHarrowStatus_within c s).op rfl (Within.refl _ _)
  · obtain rfl := Option.some.inj h; exact (bodyNtsMasterRotate_within c s).op rfl (Within.refl _ _)
  · obtain rfl := Option.some.inj h; exact (bodyEvdStoreConfig_within c s).op rfl (Within.refl _ _)
  · obtain rfl := Option.some.inj h; exact (bodyEvdStatus_within c s).op rfl (Within.refl _ _)
  · obtain rfl := Option.some.inj h; exact (bodyEvdNamespaceAdd_within c s).op rfl (Within.refl _ _)
  · obtain rfl := Option.some.inj h; exact (bodyEvdRetention_within c s).op rfl (Within.refl _ _)
  · obtain rfl := Option.some.inj h; exact (bodyEvdSheafRead_within c s).op rfl (Within.refl _ _)
  · obtain rfl := Option.some.inj h; exact (bodyTanConfig_within c s).op rfl (Within.refl _ _)
  · obtain rfl := Option.some.inj h; exact (bodyTanStatus_within c s).op rfl (Within.refl _ _)
  · obtain rfl := Option.some.inj h; exact (bodyTanClaimSet_within c s).op rfl (Within.refl _ _)
  · obtain rfl := Option.some.inj h; exact (bodyTanCompareLimits_within c s).op rfl (Within.refl _ _)
  · obtain rfl := Option.some.inj h; exact (bodySynConfig_within c s).op rfl (Within.refl _ _)
  · obtain rfl := Option.some.inj h; exact (bodySynStatus_within c s).op rfl (Within.refl _ _)
  · obtain rfl := Option.some.inj h; exact (bodyOutPpsConfig_within c s).op rfl (Within.refl _ _)
  · obtain rfl := Option.some.inj h; exact (bodyOutSampleClock_within c s).op rfl (Within.refl _ _)
  · obtain rfl := Option.some.inj h; exact (bodyRefclkSpread_within c s).op rfl (Within.refl _ _)
  · obtain rfl := Option.some.inj h; exact (bodyPwrPolicy_within c s).op rfl (Within.refl _ _)
  · obtain rfl := Option.some.inj h; exact (bodyPwrStatus_within c s).op rfl (Within.refl _ _)
  · obtain rfl := Option.some.inj h; exact (bodyPerfFilter_within c s).op rfl (Within.refl _ _)
  · obtain rfl := Option.some.inj h; exact (bodyPerfRead_within c s).op rfl (Within.refl _ _)
  · obtain rfl := Option.some.inj h; exact (bodyLoopbackSet_within c s).op rfl (Within.refl _ _)
  · obtain rfl := Option.some.inj h; exact (bodyLoopbackClear_within c s).op rfl (Within.refl _ _)
  · obtain rfl := Option.some.inj h; exact (bodyBistRun_within c s).op rfl (Within.refl _ _)
  · obtain rfl := Option.some.inj h; exact (bodyTestUnlock_within c s).op rfl (Within.refl _ _)
  · obtain rfl := Option.some.inj h; exact (bodyFaultRead_within c s).op rfl (Within.refl _ _)
  · obtain rfl := Option.some.inj h; exact (bodyFaultClear_within c s).op rfl (Within.refl _ _)
  · obtain rfl := Option.some.inj h; exact (bodyIrqGroupConfig_within c s).op rfl (Within.refl _ _)
  · obtain rfl := Option.some.inj h; exact (bodyFltPinMask_within c s).op rfl (Within.refl _ _)
  · cases h

theorem runOpcode_within (c : Cmd) (s : State) : Within commandParts s (runOpcode c s) := by
  unfold runOpcode
  split
  · rename_i body h
    exact runCmd_within (by decide) (Within.refl _ _) (bodyFor_within _ body h)
  · exact Within.op (addReply_within _ _ _ _ _ _) rfl (Within.refl _ _)

theorem mailboxService_within (s0 : State) :
    Within [.free, .bus, .tim, .gnss, .ref, .sel, .osc, .bnd, .log, .sealing, .fur, .svc, .eng, .key, .evd, .eth, .arb,
        .tan, .syn, .kcp, .regs, .pwr, .tst] s0 (mailboxService s0) := by
  unfold mailboxService
  dsimp only
  with_reducible refine Within.ite ?_ ?_
  · with_reducible refine Within.ite ?_ ?_
    · refine Within.op (leafFreqs_within _) rfl ?_
      exact Within.refl _ _
    · exact Within.refl _ _
  · split
    · with_reducible refine Within.ite ?_ ?_
      · refine Within.op (leafFreqs_within _) rfl ?_
        exact Within.refl _ _
      · exact Within.refl _ _
    · with_reducible refine Within.ite ?_ ?_
      · refine Within.kcp (by decide) ?_
        refine Within.op (drawBelow_within _ _) rfl ?_
        refine Within.op (drawBelow_within _ _) rfl ?_
        with_reducible refine Within.ite ?_ ?_
        · refine Within.op (leafFreqs_within _) rfl ?_
          exact Within.refl _ _
        · exact Within.refl _ _
      · refine Within.op (markFirst_within _) rfl ?_
        refine Within.op (runOpcode_within _ _) rfl ?_
        refine Within.op (setSlots_within _ _) rfl ?_
        refine Within.kcp (by decide) ?_
        refine Within.op (drawBelow_within _ _) rfl ?_
        refine Within.op (drawBelow_within _ _) rfl ?_
        with_reducible refine Within.ite ?_ ?_
        · refine Within.op (leafFreqs_within _) rfl ?_
          exact Within.refl _ _
        · exact Within.refl _ _

theorem relayTimeout_within (s : State) :
    Within [.kcp] s (relayTimeout s) := by
  unfold relayTimeout
  dsimp only
  refine Within.op (markFirst_within _) rfl ?_
  refine Within.foldl (fun t a => ?_) _ ?_
  · refine Within.op (addReply_within _ _ _ _ _ _) rfl ?_
    exact Within.refl _ _
  · refine Within.op (setSlots_within _ _) rfl ?_
    exact Within.refl _ _

theorem logHeard_within (r : Reply) (s : State) :
    Within [.bnd, .evd, .kcp] s (logHeard r s) := by
  unfold logHeard
  dsimp only
  with_reducible refine Within.ite ?_ ?_
  · refine Within.lit ?_ (h9 := .inl (by decide)) (h16 := .inl (by decide))
    refine Within.op (dropReply_within _ _) rfl ?_
    exact Within.refl _ _
  · refine Within.evd (by decide) ?_
    refine Within.op (dropReply_within _ _) rfl ?_
    exact Within.refl _ _

theorem pendingReply_within (s : State) :
    Within [.kcp] s (pendingReply s) := by
  unfold pendingReply
  split
  · exact Within.refl _ _
  · refine Within.op (addReply_within _ _ _ _ _ _) rfl ?_
    refine Within.op (setSlots_within _ _) rfl ?_
    exact Within.refl _ _

theorem completionLimit_within (id : Nat) (s : State) :
    Within [.kcp] s (completionLimit id s) := by
  unfold completionLimit
  split
  · exact Within.refl _ _
  · refine Within.op (markFirst_within _) rfl ?_
    refine Within.op (addReply_within _ _ _ _ _ _) rfl ?_
    refine Within.op (setSlots_within _ _) rfl ?_
    exact Within.refl _ _

theorem writeCompletion_within (k : Nat) (r : Reply) (s : State) :
    Within [.kcp, .regs] s (writeCompletion k r s) := by
  unfold writeCompletion
  dsimp only
  refine Within.op (irqArrive_within _ _ _) rfl ?_
  refine Within.op (delivered_within _ _) rfl ?_
  refine Within.kcp (by decide) ?_
  refine Within.op (State.setRing_within _ _ _) rfl ?_
  exact Within.refl _ _

theorem replyDeliver_within (src : Source) (ok_ : Bool) (s : State) :
    Within [.bnd, .evd, .kcp, .regs] s (replyDeliver src ok_ s) := by
  unfold replyDeliver
  split
  · exact Within.refl _ _
  · split
    · refine Within.ite ?_ ?_
      · exact Within.refl _ _
      · refine Within.ite ?_ ?_
        · refine Within.op (State.setRing_within _ _ _) rfl ?_
          exact Within.refl _ _
        · refine Within.ite ?_ ?_
          · refine Within.op (writeCompletion_within _ _ _) rfl ?_
            exact Within.refl _ _
          · refine Within.op (State.setRing_within _ _ _) rfl ?_
            exact Within.refl _ _
    · refine Within.op (logHeard_within _ _) rfl ?_
      exact Within.refl _ _
    · refine Within.ite ?_ ?_
      · refine Within.op (delivered_within _ _) rfl ?_
        exact Within.refl _ _
      · exact Within.refl _ _

theorem commandAccept_within (pk : Packet) (dmaOk : Bool) (s : State) :
    Within [.free, .bus, .tim, .gnss, .ref, .sel, .osc, .bnd, .log, .sealing, .fur, .svc, .eng, .key, .evd, .eth, .arb,
        .tan, .syn, .kcp, .regs, .pwr, .tst] s (commandAccept pk dmaOk s) := by
  unfold commandAccept
  dsimp only
  with_reducible refine Within.ite ?_ ?_
  · exact Within.refl _ _
  · with_reducible refine Within.ite ?_ ?_
    · refine Within.op (State.setRing_within _ _ _) rfl ?_
      exact Within.refl _ _
    · split
      · exact Within.refl _ _
      · with_reducible refine Within.ite ?_ ?_
        · refine Within.kcp (by decide) ?_
          exact Within.refl _ _
        · refine Within.op (acceptPacket_within _ _) rfl ?_
          exact Within.refl _ _

theorem commandExecute_within (g : Nat) (s : State) :
    Within [.free, .bus, .tim, .gnss, .ref, .sel, .osc, .bnd, .log, .sealing, .fur, .svc, .eng, .key, .evd, .eth, .arb,
        .tan, .syn, .kcp, .regs, .pwr, .tst] s (commandExecute g s) := by
  unfold commandExecute
  split
  · exact Within.refl _ _
  · refine Within.op (markFirst_within _) rfl ?_
    refine Within.op (runOpcode_within _ _) rfl ?_
    refine Within.op (setSlots_within _ _) rfl ?_
    exact Within.refl _ _

end Sys2Proof.Machine
end

