-- ==== Sys2Proof/Tests/Slice0.lean ====
section
/-! SUPPORT. Tests: an ill-formed term for each check, values of the spec's worked examples, and for each clause of each
statement a state and operands that meet its hypotheses. -/

open Sys2Proof Sys2Proof.Machine

section

set_option Elab.async false
set_option linter.unusedVariables false

/-- A module that serves, its owner enrolled, host ring 0 a keeper. -/
def st0 : State :=
  { State.reset with
    now := 1000000000000
    pwr := { State.reset.pwr with
      released := true, sState := 2, nuheifUp := true
      prov := { State.reset.pwr.prov with ownerGen := 1, hostKeeper := true } }
    kcp := { State.reset.kcp with rings := [(0, { enable := true, log2 := 4, cls := some 2 })], linkUp := true } }

/-- Received LNAV words of some data, parity and inversion added, after the last two bits of the word before. -/
def lnavWords : Bool → Bool → List Nat → List Nat
  | _, _, [] => []
  | a, b, d :: t =>
    let p := parityRows.map (fun r => oddBits 24 (d &&& r.2) != (if r.1 then a else b))
    ((if b then 0xFFFFFF - d else d) * 64 + p.foldl (fun n x => 2 * n + (if x then 1 else 0)) 0) ::
      lnavWords (p.getD 4 false) (p.getD 5 false) t

/-- A furrow frame and its CRC. -/
def furCrc (f : List Byte) : List Byte := f ++ be 4 (crc32 f)

/-- A keeper's request on ring 0. -/
def rq0 (p : List Byte) : Request := ⟨.ring 0, 7, 0, 2, 0, p⟩

/-- A PTP message with a body. -/
def msg0 (b : PtpBody) : PtpMsg := ⟨2, 1, 0, 0x1234, 1, 7, 0, none, none, [], b⟩

/-- A received frame with a body. -/
def frame0 (b : NetBody) : RxFrame := ⟨true, 0x0200, 0x0400, 100, [], false, false, b, 0⟩

/-- A thread that holds a task. -/
def task0 (n : Nat) (m : TaskMsg) (s : State) : State :=
  s.setThread n { task := some { msg := m, port := 3, credit := 24, desc := none, tag := 5 } }

/-- The received message of a domain on port 3. -/
def rx0 (d : Nat) (b : NetBody) : TaskMsg := .rx 3 d (100 * s1) 64 (frame0 b)

/-- A module whose port 3 serves outbound domain 0, NTP and NTS, and upstream domain A with one master. -/
def stSvc : State :=
  { st0 with
    svc := { st0.svc with
      prof := [(3, { cfg := { flags := 63 } })]
      dom := [(0, { cfg := { flags := 49, ports := 8, transport := 1, minLog := -7, maxLog := 0 } })]
      up := [(0, { cfg := { flags := 3, port := 3, transport := 0, masters := [0x0400, 0, 0, 0], prio := [1, 0, 0, 0] } })] }
    eth := [(3, { cfg := { flags := 1, mac := some 0x0200 }, state := 3 })]
    bus := { st0.bus with replicas := [(0, { anyGood := true, inLoss := false, unserved := false, at_ := 1000000000000 * 65536, frame := { marker := 100 * s1, bound := 64, clockClass := 6, mState := 5 } })] } }

/-- The Granary key of the client of `frame0` on domain 0. -/
def key0 : GKey := ⟨0x0400, 3, 0⟩

/-- `stSvc` with that client's entry. -/
def stEnt (e : Entry) : State := { stSvc with svc := { stSvc.svc with granary := [(9, { e with valid := true, key := key0 })] } }

/-- A PTP message of nothing. -/
def in0 : PtpIn := ⟨0, 0, 0, 0, frame0 .unknown, msg0 .other, ⟨0, 0, 0⟩, none, 0, false, 0, []⟩

/-- An NTP request. -/
def ntp0 : NtpMsg := ⟨4, 3, 6, 77, false, 48, false, [], [], 0, none⟩

/-- An NTS request. -/
def nts0 : NtpMsg := ⟨4, 3, 6, 77, false, 300, true, [List.replicate 32 1], [List.replicate 104 2], 0, some ⟨List.replicate 16 3, [], [], [], true⟩⟩

/-- A master's dataset. -/
def ann0 : Announce := ⟨128, 6, 0x21, 0x4E5D, 128, 5, 0, 37, true, false, false, -3⟩

/-- A frame in a queue of port 3. -/
def tx0 (m : TxMsg) : TxFrame := { port := 3, msg := m, queue := 0, bytes := 90, credit := 2, svcDomain := 0, tag := 5 }

/-- `stSvc` with frames in queue 0 of port 3. -/
def stTx (l : List TxFrame) : State :=
  stSvc.setEthP 3 { stSvc.ethP 3 with queues := tset [] [] 0 l, creditUsed := 24, descUsed := [(0, 1)] }

/-- A message of clock 0x1234 heard on upstream domain A. -/
def up0 (b : PtpBody) : TaskMsg := rx0 9 (.ptpL2 (msg0 b))

/-- `stSvc` with an upstream domain A whose candidate 0 is chosen. -/
def stUp : State :=
  stSvc.setUpD 0 { stSvc.upD 0 with chosen := some 0, cands := [(0, { clock := 0x1234, announce := some ann0, annAt := 1000000000000 })] }

/-- A VALID key slot. -/
def slot0 (r ig role : Nat) : KeySlot := { valid := true, shares := ⟨List.replicate 16 5, List.replicate 16 3⟩, recipients := r, indexGen := ig, role := role }

/-- `st0` with an evidence store. -/
def stEv (e : Evd) : State := { st0 with evd := e }

/-- A namespace of the store. -/
def ns0 : Ns := { ordinal := some 0, nsid := 1, lbas := 1000, serial := 9, copyA := some { body := { store := 77, n := 1 } } }

/-- A sheaf with one record. -/
def sheaf0 : Sheaf := { index := 5, records := [{ kind := 3 }], firstAt := some 5 }

/-- A request of EVD_STORE_CONFIG. -/
def evRq (a : Byte) : Request := rq0 ([a, 1] ++ le 2 4095 ++ [20, 0] ++ le 2 8192 ++ le 4 60000 ++ zeros 12)

/-- `st0` with the tandem pair enabled, as a standby. -/
def stTan (x : Tan) : State := { st0 with tan := { x with cfg := { flags := 1 } }, bus := stSvc.bus }

/-- `st0` with APLL 3 locked and resumed, its outputs 0, 7 and 8 enabled. -/
def stSyn (o : Tbl OutSt) : State :=
  { st0 with
    acc := 100 * s1
    bus := stSvc.bus
    syn := { st0.syn with
      apll := [(0, { locked := true, resumed := true })]
      pps := [(0, { written := true, flags := 1 }), (1, { written := true, flags := 5 }), (7, { written := true, flags := 3, divider := 1000, width := 0 })]
      sclk := [(0, { flags := 1, epochStart := 100 * s1, markerOut := 1 })]
      out := o } }

/-- A pair that is enabled, with two claims. -/
def stPair (own partner : Nat) : State :=
  let a := { st0 with tan := { st0.tan with cfg := { st0.tan.cfg with flags := 1 }, own := own, partner := partner } }
  a.setTan { a.tan with role := roleOf a }

/-! An ill-formed command for each check. -/

theorem test_wf_timCalVerifyEnd_chan : ∀ x1, (Instr.timCalVerifyEnd 16 x1).wellFormed = false := fun _ => rfl
theorem test_wf_loopMeasureEnd_port : ∀ x1, (Instr.loopMeasureEnd 16 x1).wellFormed = false := fun _ => rfl
theorem test_wf_bistEnd_test : ∀ x1, (Instr.bistEnd 0 x1).wellFormed = false := fun _ => rfl
theorem test_wf_bistEnd_test_low : ∀ x1, (Instr.bistEnd 6 x1).wellFormed = false := fun _ => rfl
theorem test_wf_cmdSqTailWrite_ring : (Instr.cmdSqTailWrite 8 0).wellFormed = false := by decide
theorem test_wf_cmdSqTailWrite_value : (Instr.cmdSqTailWrite 0 4294967296).wellFormed = false := by decide
theorem test_wf_classLock_ring : (Instr.classLock 8).wellFormed = false := by decide
theorem test_wf_irqInsvcAck_group : (Instr.irqInsvcAck 9 0 0).wellFormed = false := by decide
theorem test_wf_irqInsvcAck_word : (Instr.irqInsvcAck 0 8 0).wellFormed = false := by decide
theorem test_wf_irqInsvcAck_value : (Instr.irqInsvcAck 0 0 4294967296).wellFormed = false := by decide
theorem test_wf_fltStatusClear_block : (Instr.fltStatusClear 13 0 0).wellFormed = false := by decide
theorem test_wf_fltStatusClear_word : (Instr.fltStatusClear 0 64 0).wellFormed = false := by decide
theorem test_wf_fltStatusClear_value : (Instr.fltStatusClear 0 0 4294967296).wellFormed = false := by decide
theorem test_wf_perfOvfClear_event : (Instr.perfOvfClear 2112 0).wellFormed = false := by decide
theorem test_wf_perfOvfClear_value : (Instr.perfOvfClear 0 4294967296).wellFormed = false := by decide
theorem test_wf_slowTimeout_offset : ∀ x1, (Instr.slowTimeout 16777216 x1).wellFormed = false := fun _ => rfl
theorem test_wf_registerWrite_offset : (Instr.registerWrite 16777216 0 0).wellFormed = false := by decide
theorem test_wf_registerWrite_value : (Instr.registerWrite 0 4294967296 0).wellFormed = false := by decide
theorem test_wf_registerWrite_byteEnables : (Instr.registerWrite 0 0 16).wellFormed = false := by decide
theorem test_wf_commandExecute_group : (Instr.commandExecute 18).wellFormed = false := by decide
theorem test_wf_setEndpointId_operation : (Instr.setEndpointId 256 0).wellFormed = false := by decide
theorem test_wf_setEndpointId_eid : (Instr.setEndpointId 0 256).wellFormed = false := by decide
theorem test_wf_msixUnmask_vector : (Instr.msixUnmask (some 256)).wellFormed = false := by decide
theorem test_wf_measuredEdge_index : ∀ x2 x3, (Instr.measuredEdge true 16 x2 x3).wellFormed = false := fun _ _ => rfl
theorem test_wf_refreshStart_interp : (Instr.refreshStart 1048).wellFormed = false := by decide
theorem test_wf_acquisitionDwell_prn : ∀ x1 x2 x3 x4, (Instr.acquisitionDwell 0 x1 x2 x3 x4).wellFormed = false := fun _ _ _
    _ => rfl
theorem test_wf_acquisitionDwell_prn_low : ∀ x1 x2 x3 x4, (Instr.acquisitionDwell 33 x1 x2 x3 x4).wellFormed = false := fun
    _ _ _ _ => rfl
theorem test_wf_trackingLoss_chan : ∀ x1, (Instr.trackingLoss 32 x1).wellFormed = false := fun _ => rfl
theorem test_wf_refEvent_slot : ∀ x1, (Instr.refEvent 20 x1).wellFormed = false := fun _ => rfl
theorem test_wf_uartMessage_uart : ∀ x1 x2, (Instr.uartMessage 2 x1 x2).wellFormed = false := fun _ _ => rfl
theorem test_wf_memberJoin_osc : (Instr.memberJoin 4).wellFormed = false := by decide
theorem test_wf_frameReceive_die : ∀ x1, (Instr.frameReceive 5 x1).wellFormed = false := fun _ => rfl
theorem test_wf_claimWord_tile : ∀ x1, (Instr.claimWord 4 x1).wellFormed = false := fun _ => rfl
theorem test_wf_slotMeasurementReport_slot : ∀ x1, (Instr.slotMeasurementReport 8 x1).wellFormed = false := by simp
    [Instr.wellFormed]
theorem test_wf_slotMeasurementReport_slot_low : ∀ x1, (Instr.slotMeasurementReport 20 x1).wellFormed = false := by simp
    [Instr.wellFormed]
theorem test_wf_boutEpoch_port : (Instr.boutEpoch 1024).wellFormed = false := by decide
theorem test_wf_leafDecision_portA : (Instr.leafDecision 1024 0).wellFormed = false := by decide
theorem test_wf_leafDecision_portB : (Instr.leafDecision 0 1024).wellFormed = false := by decide
theorem test_wf_ethFrameReceive_port : ∀ x1, (Instr.ethFrameReceive 16 x1).wellFormed = false := fun _ => rfl
theorem test_wf_ethFrameReceive_f : (Instr.ethFrameReceive 0 ⟨true, 0, 0, 64, [], false, false, .unknown, 8⟩).wellFormed =
    false := by decide
theorem test_wf_taskAdmit_engine : ∀ x1, (Instr.taskAdmit 96 x1).wellFormed = false := fun _ => rfl
theorem test_wf_arpRequest_thread : (Instr.arpRequest 768).wellFormed = false := by decide
theorem test_wf_grantExpiry_entry : (Instr.grantExpiry 1048576).wellFormed = false := by decide
theorem test_wf_upstreamRenewal_up : (Instr.upstreamRenewal 2 0).wellFormed = false := by decide
theorem test_wf_upstreamRenewal_cand : (Instr.upstreamRenewal 0 4).wellFormed = false := by decide
theorem test_wf_startOfFrame_port : (Instr.startOfFrame 16 0).wellFormed = false := by decide
theorem test_wf_startOfFrame_queue : (Instr.startOfFrame 0 8).wellFormed = false := by decide
theorem test_wf_frameStomp_w : (Instr.frameStomp ⟨16, 0⟩).wellFormed = false := by decide
theorem test_wf_bucketMove_bucket : (Instr.bucketMove 65536).wellFormed = false := by decide
theorem test_wf_clusterWake_cluster : ∀ x1, (Instr.clusterWake 12 x1).wellFormed = false := fun _ => rfl
theorem test_wf_recordResolve_slot : ∀ x0, (Instr.recordResolve x0 4064).wellFormed = false := fun _ => rfl
theorem test_wf_arbiterGrant_resource : ∀ x1, (Instr.arbiterGrant 17 x1).wellFormed = false := fun _ => rfl
theorem test_wf_scrubBurst_bank : (Instr.scrubBurst 112).wellFormed = false := by decide
theorem test_wf_apllLock_cycles : (Instr.apllLock ⟨4, []⟩).wellFormed = false := by decide
theorem test_wf_apllUnlock_apll : ∀ x1, (Instr.apllUnlock 4 x1).wellFormed = false := fun _ => rfl
theorem test_wf_ppsEdge_output : (Instr.ppsEdge 4).wellFormed = false := by decide
theorem test_wf_sampleClockStart_clock : (Instr.sampleClockStart 8).wellFormed = false := by decide
theorem test_wf_irqDelivery_group : (Instr.irqDelivery 9).wellFormed = false := by decide
theorem test_wf_parityCheck_fn : (Instr.parityCheck (1 * 2048)).wellFormed = false := by decide
theorem test_wf_mirrorWrite_entry : (Instr.mirrorWrite 16).wellFormed = false := by decide
theorem test_wf_tempCrit_die : ∀ x1, (Instr.tempCrit 6 x1).wellFormed = false := fun _ => rfl

/-! A request's and a packet's own checks. -/

theorem test_wf_request_ring : (Instr.echo { rq0 [] with src := .ring 8 }).wellFormed = false := by decide
theorem test_wf_request_tag : (Instr.echo { rq0 [] with tag := 65536 }).wellFormed = false := by decide
theorem test_wf_request_flags : (Instr.echo { rq0 [] with flags := 256 }).wellFormed = false := by decide
theorem test_wf_request_priv : (Instr.echo { rq0 [] with priv := 256 }).wellFormed = false := by decide
theorem test_wf_request_expGen : (Instr.echo { rq0 [] with expGen := 2 ^ 64 }).wellFormed = false := by decide +kernel
theorem test_wf_request_payload : (Instr.echo (rq0 (zeros 4081))).wellFormed = false := by decide +kernel
theorem test_wf_packet_opcode : (Instr.commandAccept ⟨16, 65536, 16, rq0 []⟩ true).wellFormed = false := by decide
theorem test_wf_packet_length : (Instr.commandAccept ⟨16, 3, 65536, rq0 []⟩ true).wellFormed = false := by decide
theorem test_wf_reply_source : ∀ ok, (Instr.replyDeliver (.ring 8) ok).wellFormed = false := by intros; rfl

/-! Values of the spec's worked examples. -/

/-- The field time of spec/02's worked example: 1,735,689,637 s, 4,000,000.5 ns. -/
def time0 : FieldTime := 1735689637 * s1 + 4000000 * ns1 + 2 ^ 31

/-- spec/02, worked example: KCP bytes 0 to 15. -/
theorem test_time_little_endian :
    leTime time0 = [0, 0, 0, 0x80, 0, 0x09, 0x3D, 0, 0xA5, 0x85, 0x74, 0x67, 0, 0, 0, 0] := by decide +kernel
/-- spec/02, worked example: network order. -/
theorem test_time_network_order :
    beTime time0 = [0, 0, 0, 0, 0x67, 0x74, 0x85, 0xA5, 0, 0x3D, 0x09, 0, 0x80, 0, 0, 0] := by decide +kernel
/-- spec/02, worked example: PTP. -/
theorem test_time_ptp : ptpTime time0 = (0x677485A5, 0x003D0900, 0x8000) := by decide +kernel
/-- spec/02, worked example: NTP. -/
theorem test_time_ntp : ntpTime 37 false time0 = (0xEB1F0400, 0x010624DF) := by decide +kernel
/-- spec/03, worked example: coincidence at cycle 97. -/
theorem test_interval_of_cycle_97 : privD 97 = 19763 := by decide +kernel
/-- spec/04, after R98: a held position of 0.5 m gives 2,251 steps. -/
theorem test_declared_uncertainty :
    gnssUnc { State.reset with gnss := { State.reset.gnss with mode := .hold, position := some { unc := 500 } } } = 2251 := by
  decide +kernel
/-- spec/10, worked example: the furrow term is 25 steps, the burst's bound 2,879. -/
theorem test_furrow_term : addB 2854 (furTerm { cfg := { boardUnc := 16 } } false) = 2879 := by decide +kernel
/-- spec/10, worked example: P_min is 23,152 ns, so 24 µs. -/
theorem test_least_period : pMin { headland := 8, maxDelay := 10000 } false 256 = 24 := by decide +kernel
/-- spec/14, worked example: the sheaf positions of a namespace of 7,680,000,000,000 bytes. -/
theorem test_namespace_positions : nsPositions { lbas := 1875000000 } = 58593742 := by decide +kernel
/-- spec/15, worked example: 0.2144706 ns rounds to 14 steps of 15.625 ps. -/
theorem test_timestamp_rounds : roundStamp (4017196 * ns1 + 921144213) = 4017196 * ns1 + 0x38000000 := by decide +kernel
/-- R41: a bound of 0xFFFFFFFF is clockAccuracy 0xFE. -/
theorem test_accuracy_unknown : clockAccuracy 0xFFFFFFFF = 0xFE := by decide +kernel
/-- R41: 44.59375 ns is served as 100 ns, 0x21. -/
theorem test_accuracy_100_ns : clockAccuracy 2854 = 0x21 := by decide +kernel
/-- R236: the check value of the CRC. -/
theorem test_crc_check_value : crc32 [0x31, 0x32, 0x33, 0x34, 0x35, 0x36, 0x37, 0x38, 0x39] = 0xCBF43926 := by decide +kernel
/-- R35: a sum above 0xFFFFFFFE is unbounded. -/
theorem test_bound_sum_saturates : addB 0xFFFFFFFE 1 = 0xFFFFFFFF := by decide +kernel
/-- R200: 65,535 breaks, then the next burns an OTP bit. -/
theorem test_seal_count_wraps :
    (sealAdvance { otpBits := 0, low := 0xFFFF }).otpBits = 1 ∧ (sealAdvance { otpBits := 0, low := 0xFFFF }).low = 0 := by
  decide +kernel
/-- R427: the own claim 200 exceeds the partner's 100. -/
theorem test_role_active : roleOf (stPair 200 100) = 2 := by decide +kernel

/-! The hypotheses of the statements about every command and every step. -/

theorem test_hypotheses_of_IdleStep : State.reset.pending = [] := rfl
theorem test_hypotheses_of_CommandsGoOn : (Instr.echo (rq0 [1])).wellFormed = true := by decide
theorem test_hypotheses_of_QueueStaysWellFormed :
    ({ st0 with pending := [.echo (rq0 [1]), .tapReset] } : State).pending.all Instr.wellFormed = true := by decide
theorem test_hypotheses_of_FusesOnlyBurn : ∃ t, step State.reset = .next t := ⟨_, rfl⟩
theorem test_hypotheses_of_CommandsKeepTheirFrame : ∃ t, exec .tapReset st0 = .next t := ⟨_, rfl⟩
theorem test_hypotheses_of_EchoReturnsItsPayload : runs 0x0003 (rq0 [1, 2]) st0 = true := by decide +kernel
theorem test_hypotheses_of_GenerationReply_1 : runs 0x0006 (rq0 []) st0 = true := by decide +kernel
theorem test_hypotheses_of_GenerationReply_2 : runs 0x0006 (rq0 [1]) st0 = true ∧ (rq0 [1]).payload ≠ [] := by decide +kernel
theorem test_hypotheses_of_Role_active : let s := stPair 200 100
    tanOn s = true ∧ s.tan.role = roleOf s ∧ s.tan.partner < s.tan.own := by decide +kernel
theorem test_hypotheses_of_Role_standby : let s := stPair 100 200
    tanOn s = true ∧ s.tan.role = roleOf s ∧ s.tan.own < s.tan.partner ∧ s.tan.own ≠ 0 := by decide +kernel
theorem test_hypotheses_of_Role_tie : let s := stPair 100 100
    tanOn s = true ∧ s.tan.role = roleOf s ∧ s.tan.own = s.tan.partner ∧ s.tan.own ≠ 0 := by decide +kernel
theorem test_hypotheses_of_Role_released : let s := stPair 0 100
    tanOn s = true ∧ s.tan.role = roleOf s ∧ s.tan.own = 0 := by decide +kernel
theorem test_hypotheses_of_Role_step : let s := stPair 200 100
    s.tan.role = roleOf s ∧ ∃ t, step { s with pending := [.claimDecision] } = .next t := ⟨by decide +kernel, ⟨_, rfl⟩⟩
theorem test_hypotheses_of_BoundSums_1 : (0xFFFFFFFF : Bound) = 0xFFFFFFFF ∧ 0xFFFFFFFE < (0xFFFFFFFE : Bound) + 1 := by decide
theorem test_hypotheses_of_BoundSums_2 : (2854 : Bound) ≠ 0xFFFFFFFF ∧ (25 : Bound) ≠ 0xFFFFFFFF ∧ (2854 : Bound) + 25 ≤ 0xFFFFFFFE := by
  decide
theorem test_hypotheses_of_BoundSums_3 :
    (stSvc.replica 0).frame.bound ≤ 0xFFFFFFFF ∧ (stSvc.replica (portDie 700)).frame.bound ≤ 0xFFFFFFFF := by decide +kernel

/-! The hypotheses of the chapters' statements, clause by clause. -/

/-- The hypotheses of TimeBaseAndIntervalCommandsComplete can be met. -/
theorem test_hypotheses_of_TimeBaseAndIntervalCommandsComplete :
    (let rq := rq0 []
     let s := st0
     runs 0x0101 rq s = true ∧ rq.payload = []) ∧
    (let rq := rq0 (timRecord ⟨281475, 60, 14400⟩)
     let s := { st0 with sealing := { st0.sealing with windowAt := some 0 } }
     runs 0x0102 rq s = true ∧ rq.payload.length = 16 ∧ driftLimitOk (rdI rq.payload 0 8) = true ∧
     1 ≤ rd rq.payload 8 2 ∧ rd rq.payload 8 2 ≤ 60 ∧ rd rq.payload 10 2 = 0 ∧ rd rq.payload 12 4 ≤ 14400 ∧
     windowOpen s = true ∧ s.log.fault = false) ∧
    (let rq := rq0 [16, 0, 16, 0, 0xD0, 7, 0, 0]
     let s := st0
     runs 0x0103 rq s = true ∧ rq.payload.length = 8 ∧ rd rq.payload 0 2 ≤ 0x10 ∧ rd rq.payload 2 2 ≤ 0x10 ∧
     1 ≤ rd rq.payload 4 2 ∧ rd rq.payload 4 2 ≤ 2000 ∧ rd rq.payload 6 2 = 0 ∧ s.tim.measures.length < 4) ∧
    (let m := ({ id := 3, srcA := 16, srcB := 16, acceptedPs := 0, deadlinePs := 1000000000, deadline := 5 } : Measure)
     let rest := ([] : List Measure)
     let c := ({ id := 3 } : Cmd)
     let st := stOK
     let p := measureReply (usRec 1250 true) (usRec 1250 true)
     let s := { st0 with tim := { st0.tim with measures := [m], tick := 2000 }, kcp := { st0.kcp with slots := [c] } }
     s.tim.measures = m :: rest ∧ measureDue s m = some (st, p) ∧
     s.kcp.slots.find? (fun x => x.id == m.id) = some c ∧ c.lost = false ∧ c.noReply = false) ∧
    (let rq := rq0 [0xFF, 0xFF, 0, 0]
     let s := st0
     runs 0x0104 rq s = true ∧ rq.payload.length = 4 ∧ rd rq.payload 2 2 = 0) ∧
    (let rq := rq0 [0, 0x80, 0, 0]
     let s := st0.setChan 15 { lock := true }
     runs 0x0105 rq s = true ∧ rq.payload.length = 4 ∧ rd rq.payload 2 2 = 0 ∧
     (∀ n ∈ chanList (rd rq.payload 0 2), feedsSelected s n = false ∧ feedsTandem s n = false ∧ (s.chan n).lock = true ∧ (s.chan n).checking = false)) ∧
    (let chan := 15
     let hist := List.replicate 256 1024
     let s := st0.setChan 15 { checking := true }
     chan < 16 ∧ (s.chan chan).checking = true ∧ hist.length = 256 ∧ hist.sum = 2 ^ 18) :=
  by and_intros <;> decide +kernel

/-- The hypotheses of TimeBaseAndIntervalEventsComplete can be met. -/
theorem test_hypotheses_of_TimeBaseAndIntervalEventsComplete :
    (let s := { st0 with tim := { st0.tim with tick := 9 } }
     s.pwr.released = true ∧ s.tim.tb.running = false) ∧
    (let d := true
     let s := st0.setTb { running := true, aplLock := true }
     s.tim.tb.running = true ∧ s.tim.tb.oscLoss = false) ∧
    (let s := st0.setTb { running := true, oscLoss := true }
     s.tim.tb.oscLoss = true) ∧
    (let s := st0
     s.tim.tb.ovenHigh = false) ∧
    (let s := { st0.setTb { ovenHigh := true } with osc := { st0.osc with mState := .locked } }
     s.tim.tb.ovenHigh = true) ∧
    (let freq := (5 : Int)
     let h := 0
     let s := st0.setTb { running := true, holdStart := some 0, ovenHigh := true }
     comparisonSource s = 0 ∧ s.tim.tb.running = true ∧ s.tim.tb.oscLoss = false ∧
     s.tim.tb.windowStart + 10000000000 ≤ s.now ∧ s.tim.tb.holdStart = some h) ∧
    (let n := 15
     let edge := 800
     let s := st0.setTb { running := true }
     n < 16 ∧ s.tim.tb.running = true ∧ (s.chan n).checking = false ∧ chanPrescale s n ≤ (s.chan n).edges + 1 ∧
     (s.chan n).converting = none ∧ (s.chan n).freeAt ≤ edge) ∧
    (let n := 15
     let k := 256
     let e := 0
     let tk := 4
     let s := st0.setChan 15 { converting := some 4, lock := true }
     n < 16 ∧ (s.chan n).converting = some tk ∧ 1 ≤ k ∧ k ≤ 256) ∧
    (let n := 15
     let fast := (0 : Int)
     let slow := (0 : Int)
     let s := (st0.setTb { aplLock := true }).setChan 15 { lockWindows := 15 }
     n < 16 ∧ s.tim.tb.aplLock = true ∧ withinPpm 5 fast = true ∧ withinPpm 5 slow = true ∧
     withinPpm 2 fast = true ∧ withinPpm 2 slow = true) ∧
    (let n := 1047
     let s := st0
     n < 1048 ∧ (s.interp n).started = false) ∧
    (let n := 1047
     let h := List.replicate 128 2048
     let s := st0.setInterp 1047 { running := true, rejectRun := 3 }
     n < 1048 ∧ (s.interp n).running = true ∧ refreshOk (s.interp n) h = true) ∧
    (let n := 1047
     let h := [1]
     let s := st0.setInterp 1047 { accepted := some [1], acceptedStart := 6 }
     n < 1048 ∧ (s.interp n).accepted = some h) ∧
    (let p := 15
     let diff := (656 : Int)
     let s := (st0.setInterp 1039 { table := some [] }).setInterp 1047 { table := some [] }
     p < 16 ∧ selfcheckDue s p = true ∧ (spareFor s p).isSome = true) :=
  by and_intros <;> decide +kernel

/-- The hypotheses of GnssCommandsComplete can be met. -/
theorem test_hypotheses_of_GnssCommandsComplete :
    (let rq := rq0 (gnssRecord { surveyPosTerm := 0xFA00 })
     let s := { st0 with sealing := { st0.sealing with windowAt := some 0 } }
     let g := gnssParse rq.payload
     runs 0x0201 rq s = true ∧ rq.payload.length = 60 ∧ g = gnssParse rq.payload ∧ 16368000 ≤ g.sampleRate ∧
     g.sampleRate ≤ 65472000 ∧ ifOk g = true ∧ g.format < 16 ∧ 1 ≤ g.elSpacing ∧ g.elSpacing ≤ 32 ∧ g.mpMode ≤ 1 ∧
     1 ≤ g.minSv ∧ g.minSv ≤ 12 ∧ g.elevMask ≤ 60 ∧ 1 ≤ g.acqDwell ∧ g.acqDwell ≤ 64 ∧ 200 ≤ g.cn0Mask ∧
     g.cn0Mask ≤ 450 ∧ 2 ≤ g.pllBw ∧ g.pllBw ≤ 20 ∧ rd rq.payload 17 1 = 0 ∧ 1 ≤ g.dllBw ∧ g.dllBw ≤ 200 ∧
     180 ≤ g.thrFloor ∧ g.thrFloor ≤ 400 ∧ g.thrFloor ≤ g.thrCeil ∧ 180 ≤ g.thrCeil ∧ g.thrCeil ≤ 400 ∧
     10000 ≤ g.residLimit ∧ g.residLimit ≤ 1000000 ∧ g.autoSurvey ≤ 1 ∧ rd rq.payload 31 1 = 0 ∧ 0 ≤ g.antDelay ∧
     g.antDelay ≤ us10 ∧ 0x280 ≤ g.surveyPosTerm ∧ g.surveyPosTerm ≤ 0xFA00 ∧ windowOpen s = true ∧
     s.log.fault = false) ∧
    (let rq := rq0 []
     let s := st0
     runs 0x0202 rq s = true ∧ rq.payload = []) ∧
    (let rq := rq0 []
     let s := st0
     runs 0x0203 rq s = true ∧ rq.payload = []) ∧
    (let q := (⟨6300000000, 0, 0, 100000⟩ : Position)
     let rq := rq0 (leI 8 q.x ++ leI 8 q.y ++ leI 8 q.z ++ le 4 q.unc ++ zeros 4)
     let s := st0
     runs 0x0204 rq s = true ∧ rq.payload.length = 32 ∧
     q = ⟨rdI rq.payload 0 8, rdI rq.payload 8 8, rdI rq.payload 16 8, rd rq.payload 24 4⟩ ∧
     radiusOk q.x q.y q.z = true ∧ 1 ≤ q.unc ∧ q.unc ≤ 100000 ∧ rd rq.payload 28 4 = 0 ∧
     positionStatus s (sealedPairs 0x0204 0 (positionFields s.gnss.position) (positionFields (some q))) = 0) ∧
    (let rq := rq0 [0, 0, 0, 0, 0, 0, 0, 0]
     let s := st0
     runs 0x0205 (withByte 0 0 rq) s = true ∧ rq.payload.length = 8 ∧ rd rq.payload 1 1 = 0 ∧ rd rq.payload 6 2 = 0) ∧
    (let rq := rq0 [1, 0, 30, 0, 0x10, 0x27, 0, 0]
     let s := st0
     runs 0x0205 (withByte 0 1 rq) s = true ∧ rq.payload.length = 8 ∧ rd rq.payload 1 1 = 0 ∧
     rd rq.payload 6 2 = 0 ∧ 30 ≤ rd rq.payload 2 2 ∧ rd rq.payload 2 2 ≤ 2880 ∧ 100 ≤ rd rq.payload 4 2 ∧
     rd rq.payload 4 2 ≤ 10000 ∧ rd rq.payload 4 2 % 100 = 0 ∧ s.gnss.position = none) ∧
    (let rq := rq0 [2, 0, 0, 0, 0, 0, 0, 0]
     let s := { st0 with gnss := { st0.gnss with mode := .survey, position := some {} } }
     runs 0x0205 (withByte 0 2 rq) s = true ∧ rq.payload.length = 8 ∧ rd rq.payload 1 1 = 0 ∧
     rd rq.payload 6 2 = 0 ∧ s.gnss.mode = .survey) ∧
    (let rq := rq0 [16]
     let s := st0
     runs 0x0206 rq s = true ∧ rq.payload.length = 1 ∧ 1 ≤ rd rq.payload 0 1 ∧ rd rq.payload 0 1 ≤ 16) :=
  by and_intros <;> decide +kernel

/-- The hypotheses of GnssEventsComplete can be met. -/
theorem test_hypotheses_of_GnssEventsComplete :
    (let gap := 1000
     let f := 0
     let s := st0
     clkOut s.gnss.cfg ⟨gap, f⟩ = true) ∧
    (let gap := 999
     let f := 16368000000
     let s := { st0 with gnss := { st0.gnss with clkFault := true, chans := [(3, { prn := 9 })] } }
     s.gnss.clkFault = true ∧ clkOut s.gnss.cfg ⟨gap, f⟩ = false ∧ s.gnss.faultAt + 100000000 ≤ s.now) ∧
    (let prn := 4
     let a := ([⟨1, 0⟩] : List IqLevels)
     let b := ([⟨0, 0⟩] : List IqLevels)
     let ca := ([] : List IqLevels)
     let cb := ([⟨1, 1⟩] : List IqLevels)
     let s := st0
     s.gnss.clkFault = false ∧ prn ∈ searching s) ∧
    (let i := 31
     let l := [219, 220]
     let s := st0.setGch 31 { prn := 4, state := .track } |> (fun s => { s with gnss := { s.gnss with lossThr := 221 } })
     i < 32 ∧ (s.gch i).state ≠ .idle ∧ meanCn0 l < s.gnss.lossThr) ∧
    (let i := 31
     let s := st0.setGch 31 { prn := 4, state := .verify }
     i < 32 ∧ (s.gch i).state = .verify) ∧
    (let i := 31
     let sp := (⟨[⟨1, 0⟩], [⟨0, 1⟩]⟩ : IfSpan)
     let s := st0.setGch 31 { prn := 4, state := .nav }
     i < 32 ∧ s.gnss.clkFault = false ∧ loopsRun (s.gch i).state = true ∧ mpAvailable s.gnss.cfg = false) ∧
    (let prn := 32
     let e := List.replicate 24 0
     let s := st0.setNav 32 { sub1 := List.replicate 8 (some 0), sub2 := List.replicate 8 (some 0), sub3 := List.replicate 8 (some 0) }
     1 ≤ prn ∧ prn ≤ 32 ∧ consistent (s.nav prn) = some e) ∧
    (let prn := 32
     let d29 := true
     let d30 := false
     let w := lnavWords true false ([0x8B0000, 0x000024] ++ List.replicate 8 0)
     let tlm := 0x8B0000
     let how := 0x000024
     let l := List.replicate 8 (some 0)
     let x := 0
     let s := st0
     1 ≤ prn ∧ prn ≤ 32 ∧ wordsOf d29 d30 w = some tlm :: some how :: l ∧ navBits tlm 1 8 = 0x8B ∧ l.length = 8 ∧
     navBits how 20 3 = 1 ∧ navWord l 3 = some x ∧ navBits x 17 6 = 0) ∧
    (let g := (⟨[], 16368000000, 0, 5, none⟩ : GnssSecond)
     let second := 315964825
     let s := { st0 with now := 500000000, gnss := { st0.gnss with mode := .hold, position := some {}, gpsAt := some (5, 0) } }
     dueSecond s = some second ∧ s.gnss.mode = .hold ∧ s.gnss.clkFault = false) ∧
    (let second := 5
     let m := ({ second := 5, valid := true } : QuantMsg)
     let s := { st0 with gnss := { st0.gnss with history := [m] } }
     messageOf s second = some m) :=
  by and_intros <;> decide +kernel

/-- The hypotheses of ReferencesComplete can be met. -/
theorem test_hypotheses_of_ReferencesComplete :
    (let i := 7
     let rq := rq0 ([7, 3, 1, 1] ++ le 4 250000000 ++ [9, 3, 0, 0] ++ le 4 100 ++ leI 8 655360000)
     let s := { st0 with sealing := { st0.sealing with windowAt := some 0 } }
     runs 0x0301 rq s = true ∧ rq.payload.length = 24 ∧ rd rq.payload 0 1 = i ∧ i < 8 ∧ rd rq.payload 1 1 < 4 ∧
     rd rq.payload 2 1 ≤ 1 ∧ rd rq.payload 3 1 ≤ 1 ∧ 1000 ≤ rd rq.payload 4 4 ∧ rd rq.payload 4 4 ≤ 250000000 ∧
     rd rq.payload 9 1 < 4 ∧ rd rq.payload 10 2 = 0 ∧ -655360000 ≤ rdI rq.payload 16 8 ∧
     rdI rq.payload 16 8 ≤ 655360000 ∧ windowOpen s = true ∧ s.log.fault = false) ∧
    (let rq := rq0 [0xFF, 0xFF, 0x0F, 0]
     let s := st0
     runs 0x0302 rq s = true ∧ rq.payload.length = 4 ∧ rd rq.payload 0 4 < 2 ^ 20) ∧
    (let l := (⟨255, 10000, 20000, 3600, 100, 64, 64000000⟩ : RefLimits)
     let rq := rq0 (limRecord 19 l)
     let s := st0
     runs 0x0303 rq s = true ∧ rq.payload.length = 16 ∧
     l = ⟨rd rq.payload 1 1, rd rq.payload 2 2, rd rq.payload 4 2, rd rq.payload 6 2, rd rq.payload 8 1, rd rq.payload 9 1, rd rq.payload 12 4⟩ ∧
     rd rq.payload 0 1 < 20 ∧ 1 ≤ l.actMiss ∧ 1 ≤ l.accept ∧ l.accept ≤ 10000 ∧ 2 ≤ l.reject ∧ l.reject ≤ 20000 ∧
     l.accept < l.reject ∧ 1 ≤ l.qualPeriod ∧ l.qualPeriod ≤ 3600 ∧ l.warmupAllow ≤ 100 ∧ 2 ≤ l.freqWindow ∧
     l.freqWindow ≤ 64 ∧ rd rq.payload 10 2 = 0 ∧ 64 ≤ l.phaseAlarm ∧ l.phaseAlarm ≤ 64000000) ∧
    (let d := (⟨true, 1000000, 60000, 65536000⟩ : DuplexCfg)
     let rq := rq0 ([3, 1, 0, 0] ++ le 4 1000000 ++ le 4 60000 ++ leI 8 65536000)
     let s := { st0 with sealing := { st0.sealing with windowAt := some 0 } }
     runs 0x0304 rq s = true ∧ rq.payload.length = 20 ∧
     d = ⟨bit (rd rq.payload 1 1) 0, rd rq.payload 4 4, rd rq.payload 8 4, rdI rq.payload 12 8⟩ ∧
     rd rq.payload 0 1 < 4 ∧ rd rq.payload 1 1 ≤ 1 ∧ (d.bind = false ∨ bindable s (rd rq.payload 0 1) = true) ∧
     rd rq.payload 2 2 = 0 ∧ 100 ≤ d.limit ∧ d.limit ≤ 1000000 ∧ 1 ≤ d.tDisc ∧ d.tDisc ≤ 60000 ∧
     -65536000 ≤ d.offset ∧ d.offset ≤ 65536000 ∧ windowOpen s = true ∧ s.log.fault = false) ∧
    (let rq := rq0 (todRecord { labelSrc := [1, 2, 8, 0x13, 0x20, 0, 0, 0], utcList := [8, 1, 0, 0, 0, 0, 0, 0] })
     let g := todParse rq.payload
     let s := { st0 with sealing := { st0.sealing with windowAt := some 0 } }
     runs 0x0305 rq s = true ∧ rq.payload.length = 36 ∧ g = todParse rq.payload ∧
     (∀ i ∈ List.range 8, rd rq.payload i 1 = 0 ∨ todCode (rd rq.payload i 1) = true) ∧
     (∀ i ∈ List.range (utcListOf g.utcList).length, todCode (rd rq.payload (8 + i) 1) = true) ∧ g.fmt0 < 4 ∧
     g.fmt1 < 4 ∧ rd rq.payload 18 2 = 0 ∧ 9600 ≤ g.baud0 ∧ g.baud0 ≤ 921600 ∧ 9600 ≤ g.baud1 ∧ g.baud1 ≤ 921600 ∧
     g.hostLeap ≤ 2 ∧ rd rq.payload 31 1 = 0 ∧ g.utcHold ≤ 2592000 ∧ windowOpen s = true ∧ s.log.fault = false) ∧
    (let i := 8
     let ev := (⟨5 * s1, true, false, false, false, some 9, 0, none, 0, 0⟩ : SlotEvent)
     let s := (st0.setChan 8 { lock := true }).setSlot 8 { cfg := { enable := true } }
     i < 9 ∧ chanOk s i = true ∧ edgeGen s i = false ∧ (s.slot i).cfg.enable = true ∧ (s.slot i).st.held = false ∧
     inSafe s 0 i = false ∧ ev.invalid = false ∧ ev.unlock = false) ∧
    (let i := 0
     let q := 0
     let s := { st0.setSlot 0 { cfg := { enable := true }, act := { predict := some 0, missRun := 2 } } with acc := s1 / 4 + 1 }
     i < 20 ∧ (s.slot i).act.predict = some q ∧ (s.slot i).cfg.enable = true ∧ (s.slot i).st.held = false ∧
     q + slotPeriodFt s i / 4 < s.acc) ∧
    (let s := { st0.setSlot 3 { cfgNext := some { enable := false, nomFreq := 5 } } with acc := 2 * s1 }
     s.ref.nextEval ≤ s.acc) ∧
    (let u := 1
     let bytes := (let p : List Byte := [0xA5, 0x4B, 1, 24, 0, 0, 0, 0, 0x60, 0, 0, 0, 0, 37, 1, 0, 0, 0, 0, 0, 0, 0]; p ++ be 2 (crc16 p))
     let stop := 5
     let m := (parseBinary bytes).getD ⟨0, none, none⟩
     let s := { st0 with ref := { st0.ref with tod := { st0.ref.tod with labelSrc := [0, 2] } } }
     u < 2 ∧ (if u = 0 then s.ref.tod.fmt0 else s.ref.tod.fmt1) = 0 ∧ uartSlots s u ≠ [] ∧
     parseBinary bytes = some m) ∧
    (let u := 1
     let s := { st0 with ref := { st0.ref with uarts := [(1, { last := some 5, valid := true, lastAt := 0 })] } }
     u < 2 ∧ (tget ({} : Uart) s.ref.uarts u).last.isSome = true ∧
     (tget ({} : Uart) s.ref.uarts u).lastAt + 3000000000 ≤ s.now) ∧
    (let s := { st0 with utc := { st0.utc with valid := true, source := 8 }, now := 2592000000000000 }
     s.utc.valid = true ∧ s.utc.lastSupplied + s.ref.tod.utcHold * 1000000000 ≤ s.now) ∧
    (let a := (⟨1, true⟩ : LeapAnn)
     let s := { st0 with utc := { st0.utc with announced := some a, leap61 := true }, acc := 86438 * s1 }
     s.utc.announced = some a ∧ (s.utc.leap61 || s.utc.leap59) = true ∧ leapSec s a * s1 ≤ s.acc) :=
  by and_intros <;> decide +kernel

/-- The hypotheses of SelectionComplete can be met. -/
theorem test_hypotheses_of_SelectionComplete :
    (let n := (⟨3600, 0, 0xFA00, 0x40, false, 0x3D09000⟩ : SelPolicy)
     let rq := rq0 (policyRecord n)
     let s := st0
     runs 0x0401 rq s = true ∧ rq.payload.length = 24 ∧
     n = ⟨rd rq.payload 0 4, rd rq.payload 4 4, rd rq.payload 8 4, rd rq.payload 12 4, bit (rd rq.payload 16 1) 0, rd rq.payload 20 4⟩ ∧
     n.wtr ≤ 3600 ∧ n.wtrHoldover ≤ 3600 ∧ n.margin ≤ 0xFA00 ∧ 0x40 ≤ n.stepAlarm ∧ n.stepAlarm ≤ 0x3D09000 ∧
     rd rq.payload 16 1 ≤ 1 ∧ rd rq.payload 17 3 = 0 ∧ 0x40 ≤ n.stepDetect ∧ n.stepDetect ≤ 0x3D09000) ∧
    (let rq := rq0 []
     let s := st0
     runs 0x0402 rq s = true ∧ rq.payload = []) ∧
    (let rq := rq0 [19, 1, 0, 0]
     let s := st0.setSlot 19 { cfg := { enable := true } }
     runs 0x0403 rq s = true ∧ rq.payload.length = 4 ∧ rd rq.payload 0 1 < 20 ∧ rd rq.payload 1 1 ≤ 1 ∧
     rd rq.payload 2 2 = 0 ∧ (s.slot (rd rq.payload 0 1)).cfg.enable = true ∧
     (tget {} s.tst.loops (4096 * 5)).depth = 0 ∧ (tget {} s.tst.loops (4096 * 6 + rd rq.payload 0 1)).depth = 0 ∧
     s.sel.switching = none) ∧
    (let rq := rq0 []
     let s := { st0 with sel := { st0.sel with st := { st0.sel.st with forced := some 4, strict := true } } }
     runs 0x0404 rq s = true ∧ rq.payload = [] ∧ s.sel.switching = none) ∧
    (let d := (⟨100000, 5⟩ : DpllCfg)
     let rq := rq0 (dpllRecord d)
     let s := st0
     runs 0x0405 rq s = true ∧ rq.payload.length = 8 ∧ d = ⟨rd rq.payload 0 4, rd rq.payload 4 2⟩ ∧
     1 ≤ d.bandwidth ∧ d.bandwidth ≤ 100000 ∧ 5 ≤ d.damping ∧ d.damping ≤ 50 ∧ rd rq.payload 6 2 = 0) ∧
    (let i := 8
     let rq := rq0 (zeros 16)
     let s := { st0 with sel := { st0.sel with st := { st0.sel.st with waitSlot := some i } } }
     runs 0x0406 (withByte 0 0 rq) s = true ∧ (withByte 0 0 rq).payload.length = 16 ∧
     rd (withByte 0 0 rq).payload 0 1 = 0 ∧ rd (withByte 0 0 rq).payload 1 7 = 0 ∧ s.sel.st.waitSlot = some i ∧
     s.sel.timeSet = none ∧ s.sel.switching = none) ∧
    (let rq := rq0 ([1] ++ zeros 7 ++ le 8 1700000000)
     let s := { st0 with acc := 5 * s1 + 7 }
     let size := (1700000000 - 5) * 1000000000 * 65536
     let eff := markerFor s (s.acc + 2 * ms1)
     runs 0x0406 (withByte 0 1 rq) s = true ∧ (withByte 0 1 rq).payload.length = 16 ∧
     rd (withByte 0 1 rq).payload 0 1 = 1 ∧ rd (withByte 0 1 rq).payload 1 7 = 0 ∧ s.sel.st.selected = none ∧
     size = ((rd rq.payload 8 8 : Int) - ftSec s.acc) * 1000000000 * 65536 ∧ eff = markerFor s (s.acc + 2 * ms1) ∧
     ftOk (ftAdd eff size) = true) ∧
    (let rq := rq0 (leI 8 (-65536000))
     let s := { st0 with acc := 5 * s1 + 7 }
     let size := -65536000
     let eff := markerFor s (s.acc + 2 * ms1)
     runs 0x0407 rq s = true ∧ rq.payload.length = 8 ∧ size = rdI rq.payload 0 8 ∧ size ≠ 0 ∧
     size.natAbs ≤ 1000 * 1000000000 * 65536 ∧ s.sel.st.selected = none ∧ eff = markerFor s (s.acc + 2 * ms1) ∧
     ftOk (ftAdd eff size) = true) ∧
    (let p := ({ size := 65536000, effective := 3 * ms1, kind := .operator, setsTime := true } : PendingStep)
     let rest := ([] : List PendingStep)
     let s := { st0 with acc := 3 * ms1, sel := { st0.sel with steps := [p] } }
     s.sel.steps = p :: rest ∧ p.effective ≤ s.acc ∧ p.kind = .operator ∧ p.size ≠ 0 ∧
     ftOk (ftAdd s.acc p.size) = true ∧ ftOk (ftAdd p.effective p.size) = true) ∧
    (let w := ({ flags := 32, step := 65536, effective := 10 * ms1, clockClass := 6 } : TimeWord)
     let s := { st0 with tan := { st0.tan with word := some w }, sel := { st0.sel with st := { st0.sel.st with selected := some 19 } } }
     s.tan.word = some w ∧ s.sel.st.selected = some 19 ∧ bit w.flags 5 = true ∧ w.step ≠ 0 ∧ s.sel.steps = [] ∧
     s.acc + 192 * us1 < w.effective) ∧
    (let s := { st0 with sel := { st0.sel with settling := true, settleEnd := 5, uncertainEnd := some 5, st := { st0.sel.st with selected := some 8 } }, osc := { st0.osc with mState := .acquiring } }
     s.sel.settling = true ∧ s.sel.settleEnd ≤ s.now ∧ s.sel.lockEnd ≤ s.now ∧ commitPhase s = false ∧
     s.osc.mState = .acquiring ∧ s.sel.st.selected.isSome = true) ∧
    (let s := { st0 with sel := { st0.sel with guardRun := true, guardEnd := 1000000000000 } }
     s.sel.guardRun = true ∧ s.sel.guardEnd ≤ s.now) ∧
    (let i := 19
     let s := st0.setSlot 19 { wtrRun := true, wtrEnd := some 1000000000000 }
     i < 20 ∧ (s.slot i).wtrRun = true ∧ wtrDone s i = true) :=
  by and_intros <;> decide +kernel

/-- The hypotheses of HoldoverComplete can be met. -/
theorem test_hypotheses_of_HoldoverComplete :
    (let e := (⟨17, 0, 84, 0x40, 3600, 600⟩ : EnsCfg)
     let rq := rq0 (ensRecord e)
     let s := { st0 with sealing := { st0.sealing with windowAt := some 0 } }
     runs 0x0501 rq s = true ∧ rq.payload.length = 16 ∧ rd rq.payload 0 1 = 0xFF ∧
     e = ⟨rd rq.payload 1 1, rd rq.payload 2 1, rd rq.payload 3 1, rd rq.payload 4 4, rd rq.payload 8 2, rd rq.payload 10 2⟩ ∧
     10 ≤ e.horizon ∧ e.horizon ≤ 17 ∧ e.i2cSpeed ≤ 1 ∧ 1 ≤ e.rejoin ∧ e.rejoin ≤ 84 ∧ 0x40 ≤ e.spec ∧
     e.spec ≤ 0x3D09000 ∧ 1 ≤ e.holdAvg ∧ e.holdAvg ≤ 3600 ∧ e.holdGuard ≤ 600 ∧ rd rq.payload 12 4 = 0 ∧
     windowOpen s = true ∧ s.log.fault = false) ∧
    (let rq := rq0 []
     let s := st0
     runs 0x0502 rq s = true ∧ rq.payload = []) ∧
    (let i := 1
     let rq := rq0 ([1, 31, 20, 0] ++ zeros 4 ++ leI 8 (-5) ++ leI 8 6 ++ leI 8 7 ++ leI 8 8 ++ leI 8 9 ++ leI 8 10 ++ leI 2 (-1) ++ zeros 6 ++ le 8 3)
     let s := { st0 with acc := 100 * s1, sealing := { st0.sealing with windowAt := some 0 } }
     runs 0x0503 rq s = true ∧ rq.payload.length = 72 ∧ i = rd rq.payload 0 1 ∧ i < 4 ∧ rd rq.payload 1 1 < 32 ∧
     bit (rd rq.payload 1 1) 3 = true ∧ 0 ≤ rdI rq.payload 16 8 ∧ 0 ≤ rdI rq.payload 32 8 ∧
     0 ≤ rdI rq.payload 48 8 ∧ rd rq.payload 58 6 = 0 ∧ rd rq.payload 64 8 ≤ ftSec s.acc ∧ windowOpen s = true ∧
     s.log.fault = false) ∧
    (let g := (⟨1, 30, 336⟩ : LearnCfg)
     let rq := rq0 ([0, 1, 30, 0] ++ le 4 336 ++ zeros 8)
     let s := { st0 with sealing := { st0.sealing with windowAt := some 0 } }
     runs 0x0504 rq s = true ∧ rq.payload.length = 16 ∧ rd rq.payload 0 1 = 0 ∧
     g = ⟨rd rq.payload 1 1, rd rq.payload 2 2, rd rq.payload 4 4⟩ ∧ g.mode ≤ 1 ∧ 1 ≤ g.lookback ∧ g.lookback ≤ 30 ∧
     1 ≤ g.period ∧ g.period ≤ 336 ∧ rd rq.payload 8 8 = 0 ∧ windowOpen s = true ∧ s.log.fault = false) ∧
    (let g := (⟨0, 7, 14⟩ : LearnCfg)
     let rq := rq0 ([0, 0, 7, 0] ++ le 4 14 ++ zeros 8)
     let s := { st0 with osc := { st0.osc with mState := .locked } }
     runs 0x0504 (withByte 0 1 rq) s = true ∧ (withByte 0 1 rq).payload.length = 16 ∧
     rd (withByte 0 1 rq).payload 0 1 = 1 ∧
     g = ⟨rd (withByte 0 1 rq).payload 1 1, rd (withByte 0 1 rq).payload 2 2, rd (withByte 0 1 rq).payload 4 4⟩ ∧
     g.mode = s.osc.learn.mode ∧ g.lookback = s.osc.learn.lookback ∧ g.mode ≤ 1 ∧ 1 ≤ g.lookback ∧ g.lookback ≤ 30 ∧
     1 ≤ g.period ∧ g.period ≤ 336 ∧ rd (withByte 0 1 rq).payload 8 8 = 0 ∧ s.osc.mState ≠ .holdover ∧
     s.osc.mState ≠ .freeRun ∧ s.sealing.paramFault = false) ∧
    (let rq := rq0 ([0, 0, 7, 0] ++ le 4 14 ++ zeros 8)
     let s := { (st0.setOsci 2 { samples := [{}] }) with sealing := { st0.sealing with windowAt := some 0 } }
     runs 0x0504 (withByte 0 2 rq) s = true ∧ (withByte 0 2 rq).payload.length = 16 ∧
     rd (withByte 0 2 rq).payload 0 1 = 2 ∧ rd (withByte 0 2 rq).payload 1 1 ≤ 1 ∧
     1 ≤ rd (withByte 0 2 rq).payload 2 2 ∧ rd (withByte 0 2 rq).payload 2 2 ≤ 30 ∧
     1 ≤ rd (withByte 0 2 rq).payload 4 4 ∧ rd (withByte 0 2 rq).payload 4 4 ≤ 336 ∧
     rd (withByte 0 2 rq).payload 8 8 = 0 ∧ windowOpen s = true ∧ s.log.fault = false) ∧
    (let i := 3
     let t0 := 5
     let s := st0.setOsci 3 { presentSince := some 5 }
     i < 4 ∧ (s.osci i).state = .absent ∧ (s.osci i).presentSince = some t0 ∧ t0 + 1000000000 ≤ s.now) ∧
    (let s := { (st0.setOsci 0 { state := .active, eSum := 5, eCount := 3, w := 1 }) with acc := 1024 * s1 }
     ftSec s.acc / 1024 ≠ s.osc.test) ∧
    (let s := { (st0.setOsci 0 { state := .active, ySum := 5, yCount := 5, clean := true }) with acc := 256 * s1 }
     ftSec s.acc / 256 = s.osc.interval + 1) ∧
    (let s := { (st0.setOsci 0 { inForce := { override := true } }) with osc := { (st0.setOsci 0 { inForce := { override := true } }).osc with fitDemand := true } }
     s.osc.mState ≠ .holdover ∧ s.osc.fitDemand = true) ∧
    (let i := 0
     let raw := some 0x1900
     let s := { st0.setOsci 0 { cfg := { tempSource := 2 } } with acc := 5 * s1 + 100 * ms1 }
     i < 4 ∧ readDue s i = true) :=
  by and_intros <;> decide +kernel

/-- The hypotheses of BoundSealLogComplete can be met. -/
theorem test_hypotheses_of_BoundSealLogComplete :
    (let rq := rq0 []
     let s := st0
     runs 0x0601 rq s = true ∧ rq.payload = []) ∧
    (let rq := rq0 (boundRecord ⟨0x3D09000, 281474977⟩)
     let s := { st0 with sealing := { st0.sealing with windowAt := some 0 } }
     runs 0x0602 rq s = true ∧ rq.payload.length = 16 ∧ rd rq.payload 0 4 ≤ 0x3D09000 ∧ rd rq.payload 4 4 = 0 ∧
     0 ≤ rdI rq.payload 8 8 ∧ rdI rq.payload 8 8 ≤ 281474977 ∧ windowOpen s = true ∧ s.log.fault = false) ∧
    (let rq := rq0 []
     let s := { st0 with sealing := { st0.sealing with armedUntil := some 2000000000000, low := 0xFFFF } }
     runs 0x0603 rq s = true ∧ rq.payload = [] ∧ armed s = true ∧ windowOpen s = false ∧ sealCount s < sat32 ∧
     s.log.fault = false ∧ s.log.refuses = false) ∧
    (let rq := rq0 []
     let s := { st0 with sealing := { st0.sealing with windowAt := some 0 } }
     runs 0x0604 rq s = true ∧ rq.payload = [] ∧ windowOpen s = true ∧ s.log.fault = false ∧ s.log.refuses = false) ∧
    (let rq := rq0 [1, 0, 0, 0, 125, 0, 0, 0]
     let s := logPut 7 0 0 0 (logPut 8 0 0 0 st0)
     runs 0x0605 rq s = true ∧ rq.payload.length = 8 ∧ logOldest s ≤ rd rq.payload 0 4 ∧
     rd rq.payload 0 4 ≤ logNewest s ∧ 1 ≤ rd rq.payload 4 2 ∧ rd rq.payload 4 2 ≤ 125 ∧ rd rq.payload 6 1 = 0 ∧
     rd rq.payload 7 1 = 0) ∧
    (let rq := rq0 []
     let s := st0
     runs 0x0606 rq s = true ∧ rq.payload = [] ∧
     (if fromHost rq.src then s.sealing.latchHost else s.sealing.latchSb) = false) ∧
    (let s := { st0 with sealing := { st0.sealing with sealN := { released := true } } }
     s.sealing.sealN.released = true ∧ s.sealing.sealN.counted = false ∧ s.sealing.sealN.stuck = false) ∧
    (let a := 999
     let s := { st0 with sealing := { st0.sealing with armedUntil := some 999 } }
     s.sealing.armedUntil = some a ∧ a ≤ s.now) ∧
    (let s := { st0 with sealing := { st0.sealing with verifyN := { released := true } } }
     s.sealing.verifyN.released = true ∧ s.sealing.verifyN.counted = false ∧ s.sealing.verifyN.stuck = false) ∧
    (let verify := true
     let t0 := 5
     let x := ({ released := true, counted := true, lowSince := some 5 } : Press)
     let s := { st0 with sealing := { st0.sealing with verifyN := x } }
     x = (if verify then s.sealing.verifyN else s.sealing.sealN) ∧ x.lowSince = some t0 ∧ t0 + 30000000000 ≤ s.now) ∧
    (let t0 := 5
     let s := { st0 with now := 10 ^ 13, sealing := { st0.sealing with windowAt := some 5 } }
     s.sealing.windowAt = some t0 ∧ t0 + 1800000000000 ≤ s.now ∧ s.log.fault = false ∧ s.log.refuses = false) ∧
    (let type := 7
     let detail := 1
     let id := 2
     let value := 3
     let s := st0
     s.log.fault = false) ∧
    (let s := setCond 0 5 true { st0 with log := { st0.log with fault := true, queue := [{}, {}] } }
     s.log.fault = true) :=
  by and_intros <;> decide +kernel

/-- The hypotheses of ComputationAndBusComplete can be met. -/
theorem test_hypotheses_of_ComputationAndBusComplete :
    (let d := (3200 : Int)
     let s := { st0 with acc := 5 * ms1, osc := { st0.osc with mState := .freeRun }, tim := { st0.tim with tb := { st0.tim.tb with running := true } } }
     computing s = true ∧ s.sel.steps = [] ∧ s.bnd.nextComp ≤ s.acc) ∧
    (let s := { st0 with acc := 5 * us1, osc := { st0.osc with mState := .freeRun }, tim := { st0.tim with tb := { st0.tim.tb with running := true } }, bus := { st0.bus with nextMarker := 5 * us1, newLog := true } }
     computing s = true ∧ s.bus.nextMarker ≤ s.acc) ∧
    (let die := 4
     let e := 0
     let s := { st0 with bus := { st0.bus with frames := 1, sent := { marker := 7 * us1 }, sentEdge := 9, replicas := [(4, { goodRun := 999 })] } }
     let w := frameWord { marker := 7 * us1 }
     die < 5 ∧ s.bus.frames ≠ 0 ∧ frameWaits s die = true ∧ w = frameWord s.bus.sent ^^^ (e % 2 ^ 1000) ∧
     frameOk w = true) ∧
    (let tile := 3
     let e := 0
     let c := 200
     let n := 0
     let s := { st0 with bus := { st0.bus with claims := [(3, { missed := 3, claim := 100, count := some 15 })] } }
     tile < 4 ∧
     goodClaim (s.claimPath tile) (claimWordOf (claimSent s) s.bus.claimCount ^^^ (e % 2 ^ 20)) = some (c, n)) ∧
    (let slot := 19
     let up := 7
     let z := ({ at_ := 7, phase := 5, ub := 6, hops := 2, originId := 1 } : SlotPhase)
     let l := [({ at_ := 7, phase := 5, ub := 6, hops := 2, originId := 1 } : SlotPhase)]
     let s := { st0 with bus := { st0.bus with gathered := [(19, { at_ := 7, phase := 5, ub := 6, hops := 2, originId := 1 }), (19, { at_ := 8 })] } }
     9 ≤ slot ∧ slot < 20 ∧ l = (s.bus.gathered.filter (reportable slot up)).map (fun g => g.2) ∧
     l.getLast? = some z) :=
  by and_intros <;> decide +kernel

/-- The hypotheses of FurrowCommandsAndCalibrationComplete can be met. -/
theorem test_hypotheses_of_FurrowCommandsAndCalibrationComplete :
    (let p := 1023
     let n := ({ (furParse (furRecordOf 1023 { benLead := 0 })) with enable := true } : FurCfg)
     let rq := rq0 (furRecordOf 1023 n)
     let s := { st0.setPort 1023 { cfg := { enable := true }, st := { state := .serving } } with sealing := { st0.sealing with windowAt := some 0 } }
     let n := furNorm 1023 (furParse rq.payload)
     runs 0x0701 rq s = true ∧ rq.payload.length = 64 ∧ p = rd rq.payload 0 2 ∧ p < 1024 ∧
     n = furNorm p (furParse rq.payload) ∧ firstBad (furChecks s p rq.payload) = none ∧
     (s.port p).st.state ≠ .disabled ∧ n.leaf = (furCfgOf s p).leaf ∧ n.enable = (furCfgOf s p).enable ∧
     windowOpen s = true ∧ s.log.fault = false) ∧
    (let p := 5
     let rq := rq0 (le 2 5 ++ [0, 0])
     let s := st0
     runs 0x0702 rq s = true ∧ rq.payload.length = 4 ∧ p = rd rq.payload 0 2 ∧ p < 1024 ∧ rd rq.payload 2 1 = 0 ∧
     rd rq.payload 3 1 = 0) ∧
    (let first := 1020
     let n := 4
     let rq := rq0 (le 2 1020 ++ le 2 4 ++ [1, 1, 0, 0])
     let s := st0.setPort 1021 { st := { state := .tracking }, cfg := { leaf := true } }
     runs 0x0703 rq s = true ∧ rq.payload.length = 8 ∧ first = rd rq.payload 0 2 ∧ n = rd rq.payload 2 2 ∧ 1 ≤ n ∧
     n ≤ 1024 ∧ first + n ≤ 1024 ∧ rd rq.payload 4 1 ≤ 1 ∧ rd rq.payload 5 1 = 1 ∧ rd rq.payload 6 2 = 0 ∧
     (∀ p ∈ portRange first n, sends (s.port p).st.state = false ∨ (s.port p).cfg.leaf = true)) ∧
    (let p := 7
     let rq := rq0 (le 2 7 ++ le 2 1 ++ zeros 4)
     let s := st0.setPort 7 { st := { state := .serving } }
     runs 0x0704 rq s = true ∧ rq.payload.length = 8 ∧ p = rd rq.payload 0 2 ∧ p < 1024 ∧ rd rq.payload 2 2 = 1 ∧
     rd rq.payload 4 1 = 0 ∧ rd rq.payload 5 3 = 0 ∧ (s.port p).st.state ≠ .disabled ∧ (s.port p).st.state ≠ .cal ∧
     (s.port p).cal.running = false) ∧
    (let p := 7
     let d := List.replicate 300 (9 : Byte)
     let rq := rq0 (le 2 7 ++ [15, 0] ++ le 2 300 ++ [0, 0] ++ d)
     let s := st0.setPort 7 { st := { state := .serving } }
     let l := cutMessage 248 301 15 0 true true d
     runs 0x0705 rq s = true ∧ 8 < rq.payload.length ∧ p = rd rq.payload 0 2 ∧ d = rq.payload.drop 8 ∧
     rd rq.payload 4 2 = d.length ∧ p < 1024 ∧ rd rq.payload 2 1 ≤ 15 ∧ rd rq.payload 3 1 = 0 ∧ d.length ≤ 1984 ∧
     rd rq.payload 6 2 = 0 ∧ (s.port p).st.state ≠ .disabled ∧ (s.port p).ceiling ≠ 0 ∧
     (s.port p).mb.txLens.length < 4 ∧ poolUsed s + units d.length ≤ 2048 ∧
     l = cutMessage (mbChunk (s.port p).cfg.mbMax) (d.length + 1) (rd rq.payload 2 1) (s.port p).mb.txSeq true true d) ∧
    (let p := 7
     let m := (⟨3, [1, 2]⟩ : MbMsg)
     let rest := ([⟨4, [9]⟩] : List MbMsg)
     let rq := rq0 (le 2 7 ++ zeros 2)
     let s := st0.setPort 7 { st := { state := .serving }, mb := { rx := [⟨3, [1, 2]⟩, ⟨4, [9]⟩] } }
     runs 0x0706 rq s = true ∧ rq.payload.length = 4 ∧ p = rd rq.payload 0 2 ∧ p < 1024 ∧ rd rq.payload 2 2 = 0 ∧
     (s.port p).st.state ≠ .disabled ∧ (s.port p).mb.rx = m :: rest) ∧
    (let first := 1020
     let n := 4
     let rq := rq0 (le 2 1020 ++ le 2 4)
     let s := st0
     runs 0x0707 rq s = true ∧ rq.payload.length = 4 ∧ first = rd rq.payload 0 2 ∧ n = rd rq.payload 2 2 ∧ 1 ≤ n ∧
     n ≤ 256 ∧ first + n ≤ 1024) ∧
    (let p := 3
     let s := st0.setPort 3 { st := { state := .serving }, cfg := { calPeriod := 64 } }
     p < 1024 ∧ inService (s.port p).st.state = true ∧ (s.port p).cal.running = false ∧
     (s.port p).cal.startedAt + (s.port p).cfg.calPeriod * 1000000000 ≤ s.now) ∧
    (let p := 3
     let d := (655360 : Int)
     let s := st0.setPort 3 { st := { state := .cal }, cal := { running := true, meas := [1] } } |> (fun s => s.setPaux 3 { calDue := true })
     p < 1024 ∧ (s.port p).cal.running = true ∧ (s.port p).cal.meas.length < 16 ∧ (s.port p).cfg.leaf = false ∧
     (s.paux p).calDue = true) ∧
    (let p := 3
     let s := st0.setPort 3 { st := { state := .cal }, cal := { running := true, initial := true, meas := List.replicate 16 655360 } }
     let m := (s.port 3).cal.meas
     p < 1024 ∧ (s.port p).cal.running = true ∧ (s.port p).cal.initial = true ∧ (s.port p).st.state = .cal ∧
     (s.port p).cal.meas.length = 16 ∧ m = (s.port p).cal.meas ∧
     (∀ k ∈ List.range 4, calTight (calQuantity m k) = true)) ∧
    (let p := 3
     let a := ((⟨5, 6⟩, ⟨7, 8⟩) : CalResult × CalResult)
     let s := st0.setPort 3 { cal := { waiting := some (⟨5, 6⟩, ⟨7, 8⟩) } }
     p < 1024 ∧ (s.port p).cal.waiting = some a) ∧
    (let s := { st0 with bus := { st0.bus with replicas := [(1, { anyGood := true, at_ := 1000000000000 * 65536, frame := { marker := 4 * ms1 } })] } }
     (s.replica 1).anyGood = true ∧ replicaTime s 1 / ms1 ≠ s.fur.rewriteMs) :=
  by and_intros <;> decide +kernel

/-- The hypotheses of FurrowBoutsComplete can be met. -/
theorem test_hypotheses_of_FurrowBoutsComplete :
    (let p := 3
     let b := ({ epoch := 4, bout := 9 } : Burst)
     let s := { st0.setPort 3 { st := { state := .serving }, built := some { epoch := 4, bout := 9 }, bout := 9 } with bus := { st0.bus with replicas := [(1, { anyGood := true, at_ := 1000000000000 * 65536, frame := { marker := 4 * us1 } })] } }
     let e := 4
     let at_ := 1000000000000
     p < 1024 ∧ epochDue s p = some (e, at_) ∧ sends (s.port p).st.state = true ∧ (s.port p).cfg.leaf = false ∧
     (s.port p).cfgNext = none ∧ isDark s p e = false ∧ (s.port p).built = some b ∧ b.epoch = e ∧
     (s.port p).cal.waiting = none ∧ (s.pk p).nextIdx = []) ∧
    (let p := 3
     let s := { st0.setPort 3 { st := { state := .serving }, bout := 9 } with bus := { st0.bus with replicas := [(1, { anyGood := true, at_ := 1000000000000 * 65536, frame := { marker := 3 * us1 } })] } }
     p < 1024 ∧ ((boundary p s).port p).cfg.leaf = false ∧ sends ((boundary p s).port p).st.state = true ∧
     (nextEpoch s (portDie p) ((boundary p s).port p).cfg.period).2.1 ≤ us1 ∧
     (s.port p).built.map (·.epoch) ≠ some (nextEpoch s (portDie p) ((boundary p s).port p).cfg.period).1 ∧
     servable ((nextEpoch s (portDie p) ((boundary p s).port p).cfg.period).1 * us1) = true) ∧
    (let p := 3
     let f := furCrc (be 1 1 ++ be 1 1 ++ be 6 77 ++ be 1 200 ++ zeros 3 ++ be 2 0 ++ be 2 0 ++ be 4 3 ++ zeros 16 ++ zeros 8 ++ be 4 99 ++ zeros 12)
     let b := (⟨lineBurst false false f, 5, false, false, false, false⟩ : RxBurst)
     let l := ([] : List (Nat × List Byte))
     let s := st0.setPort 3 { cfg := { leaf := true }, st := { state := .listen } }
     p < 1024 ∧ (s.port p).cfg.leaf = true ∧ (s.port p).st.state = .listen ∧
     lineFrame b.lean false (sdMax b.lean (if b.lean then 0 else (s.port p).cfg.mbMax)) b.groups = some f ∧
     frontChecks f 1 48 (linkIdOf s p) = none ∧ fresh (s.port p).last (rdBe f 2 6) = true ∧ frameTlvs f 48 = some l) ∧
    (let p := 3
     let r := ({ answered := true, turnaround := 395, bout := 6 } : LeafRx)
     let s := st0.setPort 3 { cfg := { leaf := true }, st := { state := .tracking }, rx := some { answered := true, turnaround := 395, bout := 6 } }
     p < 1024 ∧ (s.port p).cfg.leaf = true ∧ (s.port p).rx = some r ∧ r.launched = false ∧ r.skip = false ∧
     r.answered = true ∧ (s.port p).st.state ≠ .disabled) ∧
    (let p := 3
     let d := ({ bout := 77, turn := 395 } : Burst)
     let f := furCrc (be 1 2 ++ be 1 1 ++ be 6 77 ++ be 1 3 ++ zeros 3 ++ be 2 0 ++ be 2 0 ++ be 4 3 ++ beI 8 103546880 ++ be 8 noInterval ++ zeros 4 ++ zeros 12)
     let b := (⟨lineBurst false true f, 5, false, false, false, false⟩ : RxBurst)
     let l := ([] : List (Nat × List Byte))
     let s := st0.setPort 3 { st := { state := .serving }, sent := some { bout := 77, turn := 395 } }
     p < 1024 ∧ (s.port p).sent = some d ∧ (s.port p).cfg.leaf = false ∧ d.skip = false ∧
     lineFrame b.lean true (suMax d.lean (mbMaxOf (s.port p) d.lean)) b.groups = some f ∧
     frontChecks f 2 40 (linkIdOf s p) = none ∧ rdBe f 2 6 = d.bout ∧ frameTlvs f 40 = some l) ∧
    (let a := 3
     let b := 4
     let x := ({ ok := true, claim := 200, delay := some 5, bound := 9, time := 7 } : LeafRx)
     let y := ({ ok := true, claim := 100, delay := some 5, bound := 9, time := 7 } : LeafRx)
     let s := (st0.setPort 3 { cfg := { leaf := true, slot := 11 }, st := { state := .tracking }, rx := some { ok := true, claim := 200, delay := some 5, bound := 9, time := 7 } }).setPort 4 { cfg := { leaf := true, slot := 11 }, st := { state := .tracking }, rx := some { ok := true, claim := 100, delay := some 5, bound := 9, time := 7 } }
     a < 1024 ∧ b < 1024 ∧ a ≠ b ∧ (s.port a).cfg.leaf = true ∧ (s.port b).cfg.leaf = true ∧
     (s.port a).cfg.slot = (s.port b).cfg.slot ∧ (s.port a).rx = some x ∧ (s.port b).rx = some y ∧
     x.decided = false ∧ y.decided = false ∧ x.time = y.time ∧ takeable x = true ∧ takeable y = true ∧
     y.claim < x.claim) ∧
    (let p := 3
     let s := st0.setPort 3 { st := { state := .serving, delay := some 7 }, noSample := 256, filter := [{}] }
     p < 1024 ∧ ((s.port p).st.state = .serving ∨ (s.port p).st.state = .ranging) ∧ 256 ≤ (s.port p).noSample) ∧
    (let p := 3
     let s := st0.setPort 3 { cfg := { leaf := true }, st := { state := .tracking, bound := 6 }, noAccept := 1024 }
     p < 1024 ∧ (s.port p).st.state = .tracking ∧ 1024 ≤ (s.port p).noAccept) ∧
    (let p := 3
     let s := st0.setPort 3 { st := { state := .serving }, idle := 4096 }
     p < 1024 ∧ (s.port p).cfg.leaf = false ∧ sends (s.port p).st.state = true ∧ 4096 ≤ (s.port p).idle ∧
     (s.port p).traffic = false ∧ mbTraffic (s.port p) = false) ∧
    (let p := 300
     let ch := 2
     let seq := 0
     let d := ([7, 8] : List Byte)
     let s := st0.setPort 300 { st := { state := .serving } }
     p < 1024 ∧ (s.port p).st.state ≠ .disabled ∧
     seq = (match (s.port p).mb.rxSeq with | some q => (q + 1) % 65536 | none => 0) ∧ (s.port p).mb.rx.length < 4 ∧
     poolUsed s < 2048 ∧ (s.port p).mb.asm = none ∧ d.length ≤ 1984) ∧
    (let p := 3
     let q := ({ sent := some 1 } : MbTlv)
     let n := 1
     let rest := ([{}] : List MbTlv)
     let s := st0.setPort 3 { lastBout := 9, mb := { tx := [{ sent := some 1 }, {}] } }
     p < 1024 ∧ (s.port p).mb.tx = q :: rest ∧ q.sent = some n ∧ 8 ≤ ((s.port p).lastBout + 2 ^ 48 - n) % 2 ^ 48) :=
  by and_intros <;> decide +kernel

/-- The hypotheses of EthernetComplete can be met. -/
theorem test_hypotheses_of_EthernetComplete :
    (let p := 15
     let rq := rq0 ([15, 1, 2, 0, 0xEE, 5, 0, 0] ++ be 6 2 ++ [0, 0])
     let s := st0
     runs 0x0801 rq s = true ∧ rq.payload.length = 16 ∧ p = rd rq.payload 0 1 ∧ p < 16 ∧ rd rq.payload 1 1 < 8 ∧
     bit (rd rq.payload 1 1) 0 = true ∧ bit (s.ethP p).cfg.flags 0 = false ∧ rd rq.payload 2 1 ≤ 3 ∧
     rd rq.payload 3 1 ≤ 1 ∧ 1518 ≤ rd rq.payload 4 2 ∧ rd rq.payload 4 2 ≤ 9216 ∧ rd rq.payload 6 2 = 0 ∧
     bit (rd rq.payload 8 1) 0 = false ∧ rd rq.payload 14 2 = 0 ∧ (ethLoop s p).depth = 0 ∧ (s.flt 5).safe = 0) ∧
    (let p := 3
     let rq := rq0 [3, 0]
     let s := st0.setEthP 3 { ups := 4 }
     runs 0x0802 rq s = true ∧ rq.payload.length = 2 ∧ p = rd rq.payload 0 1 ∧ p < 16 ∧ rd rq.payload 1 1 = 0) ∧
    (let rq := rq0 ([15, 10, 3, 7, 0xFE, 0x0F, 1, 0] ++ zeros 4)
     let g := (⟨3, 7, 4094, 1⟩ : TagCfg)
     let s := st0
     runs 0x0803 rq s = true ∧ rq.payload.length = 12 ∧ rd rq.payload 0 1 < 16 ∧ rd rq.payload 1 1 ≤ 10 ∧
     g = ⟨rd rq.payload 2 1, rd rq.payload 3 1, rd rq.payload 4 2, rd rq.payload 6 2⟩ ∧ g.mode ≤ 3 ∧ g.pcp ≤ 7 ∧
     g.cvid ≤ 4094 ∧ g.svid ≤ 4094 ∧ rd rq.payload 8 4 = 0) ∧
    (let p := 15
     let rq := rq0 ([15, 3, 0, 0] ++ le 4 1000000)
     let s := st0
     runs 0x0804 rq s = true ∧ rq.payload.length = 8 ∧ p = rd rq.payload 0 1 ∧ p < 16 ∧ rd rq.payload 1 1 < 4 ∧
     rd rq.payload 2 2 = 0 ∧ 100 ≤ rd rq.payload 4 4 ∧ rd rq.payload 4 4 ≤ 1000000 ∧ rd rq.payload 4 4 % 10 = 0) ∧
    (let p := 15
     let row := 7
     let g := (⟨5, 6553600, 7⟩ : AsymRow)
     let rq := rq0 ([1, 15, 3, 1] ++ le 4 5 ++ leI 8 6553600 ++ leI 8 7 ++ leI 8 (-65536000) ++ zeros 16)
     let s := { st0 with sealing := { st0.sealing with windowAt := some 0 } }
     runs 0x0805 rq s = true ∧ rq.payload.length = 48 ∧ rd rq.payload 0 1 = 1 ∧ p = rd rq.payload 1 1 ∧ p < 16 ∧
     rd rq.payload 2 1 ≤ 3 ∧ rd rq.payload 3 1 ≤ 1 ∧ fecFits (rd rq.payload 2 1) (rd rq.payload 3 1) = true ∧
     row = 2 * rd rq.payload 2 1 + rd rq.payload 3 1 ∧
     g = ⟨rd rq.payload 4 4, rdI rq.payload 8 8, rdI rq.payload 16 8⟩ ∧ g.unc ≤ 0xFA00 ∧ 0 ≤ g.boardTx ∧
     g.boardTx ≤ 6553600 ∧ 0 ≤ g.boardRx ∧ g.boardRx ≤ 6553600 ∧ -65536000 ≤ rdI rq.payload 24 8 ∧
     rdI rq.payload 24 8 ≤ 65536000 ∧ rd rq.payload 40 8 = 0 ∧ windowOpen s = true ∧ s.log.fault = false) ∧
    (let p := 15
     let rq := rq0 ([2, 15, 3, 1] ++ zeros 28 ++ leI 8 6553600000 ++ zeros 8)
     let s := st0.setEthP 15 { state := 3 }
     runs 0x0805 (withByte 0 2 rq) s = true ∧ (withByte 0 2 rq).payload.length = 48 ∧
     rd (withByte 0 2 rq).payload 0 1 = 2 ∧ p = rd (withByte 0 2 rq).payload 1 1 ∧ p < 16 ∧
     rd (withByte 0 2 rq).payload 2 1 ≤ 3 ∧ rd (withByte 0 2 rq).payload 3 1 ≤ 1 ∧
     fecFits (rd (withByte 0 2 rq).payload 2 1) (rd (withByte 0 2 rq).payload 3 1) = true ∧
     0 ≤ rdI (withByte 0 2 rq).payload 32 8 ∧ rdI (withByte 0 2 rq).payload 32 8 ≤ 6553600000 ∧
     rd (withByte 0 2 rq).payload 40 8 = 0 ∧ portServes s p = false ∧ (s.ethP p).state = 3 ∧
     (s.ethP p).lm.running = false) ∧
    (let rq := rq0 ([3, 15, 3, 1] ++ zeros 44)
     let s := st0
     runs 0x0805 (withByte 0 3 rq) s = true ∧ (withByte 0 3 rq).payload.length = 48 ∧
     rd (withByte 0 3 rq).payload 0 1 = 3 ∧ rd (withByte 0 3 rq).payload 1 1 < 16 ∧
     rd (withByte 0 3 rq).payload 2 1 ≤ 3 ∧ rd (withByte 0 3 rq).payload 3 1 ≤ 1 ∧
     fecFits (rd (withByte 0 3 rq).payload 2 1) (rd (withByte 0 3 rq).payload 3 1) = true) ∧
    (let p := 3
     let a := 5
     let b := 6
     let s := st0.setEthP 3 { state := 1, cfg := { flags := 1 } }
     p < 16 ∧ (((s.ethP p).state = 1 ∧ bit (s.ethP p).cfg.flags 1 = false) ∨ (s.ethP p).state = 2)) ∧
    (let p := 3
     let s := st0.setEthP 3 { state := 3, committedQ := [{ port := 3 }] }
     p < 16 ∧ 2 ≤ (s.ethP p).state) ∧
    (let p := 3
     let s := st0.setEthP 3 { state := 1, cfg := { flags := 3, rate := 2 } }
     p < 16 ∧ (s.ethP p).state = 1 ∧ bit (s.ethP p).cfg.flags 1 = true) ∧
    (let p := 3
     let s := st0.setEthP 3 { state := 3 }
     p < 16 ∧ (s.ethP p).state = 3) ∧
    (let p := 3
     let q := 7
     let en := 0
     let quanta := ([65535] : List Nat)
     let s := st0.setEthP 3 { state := 3 }
     p < 16 ∧ q < 8 ∧ (s.ethP p).state = 3 ∧ (s.ethP p).lpiUntil ≤ s.now ∧ (s.ethP p).pauseIgnore = false ∧
     bit (s.ethP p).pause.flags 0 = true ∧ quanta.getD 0 0 % 65536 ≠ 0) ∧
    (let p := 3
     let q := 2
     let s := st0.setEthP 3 { state := 3, pausedUntil := [(2, 77)] }
     p < 16 ∧ q < 8 ∧ tget 0 (s.ethP p).pausedUntil q ≠ 0 ∧ tget 0 (s.ethP p).pausedUntil q ≤ s.now) ∧
    (let p := 3
     let q := 2
     let s := st0.setEthP 3 { state := 3, pausedUntil := [(2, 10 ^ 13)], pausedSince := [(2, 5)] }
     p < 16 ∧ q < 8 ∧ paused s (s.ethP p) q = true ∧
     tget 0 (s.ethP p).pausedSince q + (s.ethP p).pause.wdog * 1000 ≤ s.now) ∧
    (let p := 3
     let s := st0.setEthP 3 { pauseIgnore := true, lastFlow := 5 }
     p < 16 ∧ (s.ethP p).pauseIgnore = true ∧ (s.ethP p).lastFlow + 10000000 ≤ s.now) ∧
    (let p := 3
     let s := st0.setEthP 3 { state := 3 }
     p < 16 ∧ (s.ethP p).state ≠ 0) ∧
    (let p := 3
     let l := List.replicate 4096 (some (655360 : Int))
     let s := st0.setEthP 3 { lm := { running := true, startAt := 5, delay := 7 } }
     p < 16 ∧ (s.ethP p).lm.running = true ∧ (s.ethP p).lm.startAt + 40960000 ≤ s.now ∧ l.length = 4096 ∧
     0 < (l.filterMap id).length) :=
  by and_intros <;> decide +kernel

/-- The hypotheses of PacketServiceCommandsComplete can be met. -/
theorem test_hypotheses_of_PacketServiceCommandsComplete :
    (let p := 15
     let rq := rq0 ([15, 63] ++ le 2 4095 ++ be 4 0x0A000001 ++ [10, 0] ++ be 6 0x0400 ++ be 16 1)
     let s := st0
     runs 0x0901 rq s = true ∧ rq.payload.length = 32 ∧ p = rd rq.payload 0 1 ∧ p < 16 ∧ rd rq.payload 1 1 < 64 ∧
     ((bit (rd rq.payload 1 1) 2 = true → bit (rd rq.payload 1 1) 1 = true)) ∧ rd rq.payload 2 2 < 4096 ∧
     rd rq.payload 4 1 < 224 ∧ rd rq.payload 8 1 ≤ 10 ∧ rd rq.payload 9 1 = 0 ∧ macOk rq.payload 10 = true ∧
     rd rq.payload 16 1 ≠ 0xFF ∧ loopHeld s (2 ^ p) = false) ∧
    (let d := 7
     let rq := rq0 ([7, 49, 0, 0] ++ le 2 8 ++ le 2 0 ++ [1, 128, 128, 0, 0, 0, 0, 1, 0, 0xF9, 0, 0] ++ le 4 300 ++ le 4 1048576 ++ zeros 4)
     let s := stSvc
     runs 0x0902 rq s = true ∧ rq.payload.length = 32 ∧ d = rd rq.payload 0 1 ∧ d < 8 ∧
     (domChecks rq.payload).all (·.2) = true ∧ bit (s.dom d).cfg.flags 0 = false ∧
     loopHeld s (domParse rq.payload).ports = false) ∧
    (let k := ⟨0x0400, 3, 0⟩
     let rq := rq0 (be 16 0x0400 ++ [48, 33] ++ le 2 4095 ++ [0, 1, 0, 0, 0, 0, 0, 0] ++ zeros 4)
     let s := stSvc
     runs 0x0903 rq s = true ∧ rq.payload.length = 32 ∧ k = keyAt rq.payload 0 16 ∧
     addressFits (bitsAt (rd rq.payload 17 1) 1 2) k.address = true ∧ bit (rd rq.payload 16 1) 3 = false ∧
     rd rq.payload 17 1 < 64 ∧ bit (rd rq.payload 17 1) 0 = true ∧ bit (rd rq.payload 17 1) 5 = true ∧
     bitsAt (rd rq.payload 17 1) 1 2 ≤ 2 ∧ rd rq.payload 18 2 < 4096 ∧ rd rq.payload 23 1 = 0 ∧
     rd rq.payload 24 2 = 0 ∧ rd rq.payload 26 2 = 0 ∧ rd rq.payload 28 4 = 0 ∧
     bit (s.dom k.domain).cfg.flags 0 = true ∧ (s.engine (placed s (bucketOf s (flowEntry k)))).input.length < 192) ∧
    (let k := ⟨0x0400, 3, 0⟩
     let rq := rq0 (be 16 0x0400 ++ [48, 0] ++ le 2 7)
     let s := stEnt { grants := 2, syncLog := 0 }
     runs 0x0904 rq s = true ∧ rq.payload.length = 20 ∧ k = keyAt rq.payload 0 16 ∧
     bit (rd rq.payload 16 1) 3 = false ∧ rd rq.payload 17 1 = 0 ∧ rd rq.payload 18 2 < 4096 ∧
     (s.engine (placed s (bucketOf s (flowEntry k)))).input.length < 192) ∧
    (let i := 9
     let rq := rq0 ([0, 0, 0, 0] ++ zeros 4 ++ be 16 0x0400 ++ [48, 0, 0, 0])
     let s := stEnt { grants := 2 }
     runs 0x0905 rq s = true ∧ rq.payload.length = 28 ∧ rd rq.payload 0 1 = 0 ∧ rd rq.payload 1 1 = 0 ∧
     rd rq.payload 4 4 = 0 ∧ bit (rd rq.payload 24 1) 3 = false ∧ rd rq.payload 25 3 = 0 ∧
     findEntry s (keyAt rq.payload 8 24) = some i) ∧
    (let l := (⟨1024, 4096, 32, 128, 1, 17, 256⟩ : LimitsCfg)
     let rq := rq0 (limitsRecord l)
     let s := { stSvc with svc := { stSvc.svc with buckets := [(4, { used := true, ntp := 5, at_ := 0 })] } }
     runs 0x0906 rq s = true ∧ rq.payload.length = 16 ∧
     l = ⟨rd rq.payload 0 4, rd rq.payload 4 4, rd rq.payload 8 1, rd rq.payload 9 1, rd rq.payload 10 1, rd rq.payload 11 1, rd rq.payload 12 2⟩ ∧
     1 ≤ l.ntpRate ∧ l.ntpRate ≤ 1024 ∧ 1 ≤ l.ntpBurst ∧ l.ntpBurst ≤ 4096 ∧ 16 ≤ l.v4Prefix ∧ l.v4Prefix ≤ 32 ∧
     32 ≤ l.v6Prefix ∧ l.v6Prefix ≤ 128 ∧ l.kodMode ≤ 1 ∧ 3 ≤ l.minPoll ∧ l.minPoll ≤ 17 ∧ 1 ≤ l.sigRate ∧
     l.sigRate ≤ 256 ∧ rd rq.payload 14 2 = 0) ∧
    (let i := 1
     let rq := rq0 (upRecord 1 { flags := 1, transport := 2, port := 15, masters := [7, 0, 0, 0], prio := [1, 0, 0, 0] })
     let s := stSvc
     runs 0x0907 rq s = true ∧ rq.payload.length = 96 ∧ i = rd rq.payload 0 1 ∧ i ≤ 1 ∧
     (upChecks rq.payload).all (·.2) = true ∧ loopHeld s (2 ^ (upParse rq.payload).port) = false) :=
  by and_intros <;> decide +kernel

/-- The hypotheses of PacketServiceRequestsComplete can be met. -/
theorem test_hypotheses_of_PacketServiceRequestsComplete :
    (let p := 3
     let f := frame0 (.ptpL2 (msg0 .delayReq))
     let s := stSvc
     let d := 0
     p < 16 ∧ f.good = true ∧ (s.ethP p).state = 3 ∧ (s.ethP p).lpiUntil ≤ s.now ∧
     f.length ≤ (s.ethP p).cfg.maxFrame ∧ f.body ≠ .pauseFrame ∧ (s.ethP p).rxUsed + f.length ≤ 393216 ∧
     classify s p f = .ok d ∧ (s.engine (placed s (rxBucket s p d f))).input.length < 192) ∧
    (let n := 767
     let tg := 0x0A000001
     let sd := 9
     let f := frame0 (.arp tg sd)
     let p := 3
     let d := 8
     let tm := 100 * s1
     let b := 64
     let s := task0 767 (.rx 3 8 (100 * s1) 64 f) stSvc
     n < 768 ∧ (taskOf s n).bind rxOf = some (p, d, tm, b, f) ∧ f.body = .arp tg sd) ∧
    (let n := 5
     let kind := .sync
     let log := -7
     let dur := 1000
     let i := 9
     let s := task0 5 (rx0 0 (.ptpL2 (msg0 (.signaling (.request kind log dur))))) (stEnt { grants := 1 })
     let x := (ptpIn s n).getD in0
     n < 768 ∧ ptpIn s n = some x ∧ x.m.body = .signaling (.request kind log dur) ∧ versionOk x.m = true ∧
     bit (s.dom x.d).cfg.flags 5 = true ∧ (authCfg s x.d).1 = 0 ∧ x.required = false ∧ x.transport = 0 ∧
     (takeToken true false x.key.address s).1 = true ∧ (s.dom x.d).cfg.minLog ≤ log ∧ log ≤ (s.dom x.d).cfg.maxLog ∧
     logRange (s.dom x.d).cfg.profile (kindBit kind) log = true ∧ bit (s.dom x.d).cfg.flags 6 = false ∧
     x.entry = some i) ∧
    (let n := 5
     let kind := .sync
     let i := 9
     let s := task0 5 (rx0 0 (.ptpL2 (msg0 (.signaling (.cancel kind))))) (stEnt { grants := 3 })
     let x := (ptpIn s n).getD in0
     n < 768 ∧ ptpIn s n = some x ∧ x.m.body = .signaling (.cancel kind) ∧ versionOk x.m = true ∧
     (authCfg s x.d).1 = 0 ∧ x.required = false ∧ x.entry = some i ∧
     (s.entry i).grants - ((s.entry i).grants &&& 2 ^ kindBit kind) ≠ 0) ∧
    (let n := 5
     let s := task0 5 (rx0 0 (.ptpL2 (msg0 .delayReq))) (stEnt { grants := 4, expiry := 200 })
     let s := { s with svc := { s.svc with dom := [(0, { cfg := { flags := 49, ports := 8, sampleLog := 10 } })] } }
     let x := (ptpIn s n).getD in0
     n < 768 ∧ ptpIn s n = some x ∧ x.m.body = .delayReq ∧ versionOk x.m = true ∧ (authCfg s x.d).1 = 0 ∧
     x.required = false ∧ isGroup s x.port x.frame = false ∧ servable x.time = true ∧
     (x.entry.any (fun i => bit (s.entry i).grants 2 && !reached (ftSec x.time) (s.entry i).expiry && (delayCount (s.entry i) (ftSec x.time)).1)) = true) ∧
    (let n := 5
     let a := ann0
     let s := task0 5 (rx0 0 (.ptpL2 (msg0 (.announce a)))) stSvc
     let x := (ptpIn s n).getD in0
     n < 768 ∧ ptpIn s n = some x ∧ x.m.body = .announce a ∧ (authCfg s x.d).1 = 0 ∧ x.required = false) ∧
    (let i := 9
     let s := stEnt { grants := 7, expiry := 5 }
     i < 1048576 ∧ (s.entry i).valid = true ∧ (s.entry i).grants ≠ 0 ∧ (s.entry i).grants < 8 ∧
     reached (ftSec (replicaTime s 0)) (s.entry i).expiry = true ∧ (s.entry i).isStatic = false) ∧
    (let n := 5
     let m := ntp0
     let f := frame0 (.ntpUdp false 9 1 123 m)
     let p := 3
     let tm := 100 * s1
     let b := 64
     let d := 8
     let dst := 1
     let sport := 123
     let v6 := false
     let src := 9
     let s := task0 5 (.rx 3 8 (100 * s1) 64 f) stSvc
     n < 768 ∧ (taskOf s n).bind rxOf = some (p, d, tm, b, f) ∧ f.body = .ntpUdp v6 src dst sport m ∧
     m.nts = false ∧ ntpOk m = true ∧ (takeToken false v6 src s).1 = true) ∧
    (let n := 5
     let m := nts0
     let f := frame0 (.ntpUdp false 9 1 123 m)
     let p := 3
     let tm := 100 * s1
     let b := 64
     let d := 8
     let dst := 1
     let sport := 123
     let v6 := false
     let src := 9
     let uid := List.replicate 32 1
     let cookie := List.replicate 104 2
     let au := m.auth.getD ⟨[], [], [], [], true⟩
     let s := task0 5 (.rx 3 8 (100 * s1) 64 f) stSvc
     n < 768 ∧ (taskOf s n).bind rxOf = some (p, d, tm, b, f) ∧ f.body = .ntpUdp v6 src dst sport m ∧ m.nts = true ∧
     ntpOk m = true ∧ bit (s.prof p).cfg.flags 2 = true ∧ (takeToken false v6 src s).1 = true ∧
     m.uniqueIds = [uid] ∧ m.cookies = [cookie] ∧ m.auth = some au ∧ 32 ≤ uid.length ∧ au.last = true ∧
     s.key.rngFault = false) :=
  by and_intros <;> decide +kernel

/-- The hypotheses of UpstreamAndTransmissionComplete can be met. -/
theorem test_hypotheses_of_UpstreamAndTransmissionComplete :
    (let n := 700
     let i := 0
     let p := 3
     let tm := 100 * s1
     let b := 64
     let f := frame0 (.ptpL2 (msg0 (.announce ann0)))
     let m := msg0 (.announce ann0)
     let a := ann0
     let c := 0
     let s := task0 700 (up0 (.announce ann0)) stSvc
     n < 768 ∧ (taskOf s n).bind rxOf = some (p, 9 + i, tm, b, f) ∧ ptpOf f = some m ∧ m.body = .announce a ∧
     versionOk m = true ∧ upOn s i = true ∧ (authCfg s (9 + i)).1 = 0 ∧ candPlace s.now (s.upD i) f m = some c) ∧
    (let n := 700
     let i := 0
     let p := 3
     let tm := 100 * s1
     let b := 64
     let o := 0
     let f := frame0 (.ptpL2 (msg0 (.sync false 0)))
     let m := msg0 (.sync false 0)
     let s := task0 700 (up0 (.sync false 0)) stUp
     n < 768 ∧ (taskOf s n).bind rxOf = some (p, 9 + i, tm, b, f) ∧ ptpOf f = some m ∧ m.body = .sync false o ∧
     versionOk m = true ∧ upOn s i = true ∧ (authCfg s (9 + i)).1 = 0 ∧ (s.upD i).chosen.isSome = true ∧
     candOf (s.upD i) f m = (s.upD i).chosen) ∧
    (let n := 700
     let i := 0
     let p := 3
     let tm := 100 * s1
     let b := 64
     let kind := .delayResp
     let log := -4
     let dur := 300
     let c := 0
     let f := frame0 (.ptpL2 (msg0 (.signaling (.grant kind log dur))))
     let m := msg0 (.signaling (.grant kind log dur))
     let s := task0 700 (up0 (.signaling (.grant kind log dur))) stUp
     n < 768 ∧ (taskOf s n).bind rxOf = some (p, 9 + i, tm, b, f) ∧ ptpOf f = some m ∧
     m.body = .signaling (.grant kind log dur) ∧ versionOk m = true ∧ upOn s i = true ∧ (authCfg s (9 + i)).1 = 0 ∧
     candOf (s.upD i) f m = some c ∧ dur ≠ 0) ∧
    (let i := 0
     let c := 0
     let u := stUp.upD 0
     let p := 3
     let s := stUp
     let q := 0
     i < 2 ∧ c < 4 ∧ u = s.upD i ∧ p = u.cfg.port ∧ q = queueOf s p (9 + i) ∧ upOn s i = true ∧
     bit u.cfg.flags 1 = true ∧ u.cfg.prio.getD c 0 ≠ 0 ∧
     [GrantKind.announce, .sync, .delayResp].all (grantDue s.now (u.cand c)) = true ∧ (authCfg s (9 + i)).1 = 0 ∧
     (s.ethP p).creditUsed + 6 ≤ 6144 ∧ tget 0 (s.ethP p).descUsed q + 3 ≤ 128) ∧
    (let i := 0
     let c := 0
     let s := stUp.setUpD 0 { stUp.upD 0 with cands := [(0, { announce := some ann0, annAt := 5 })] }
     i < 2 ∧ c < 4 ∧ ((s.upD i).cand c).announce.isSome = true ∧ annCurrent s.now ((s.upD i).cand c) = false) ∧
    (let i := 9
     let kind := .sync
     let s := stEnt { grants := 2, syncLog := 0, expiry := 2000 }
     let log := (0 : Int)
     let k := ⟨0x0400, 3, 0⟩
     let flow := flowEntry ⟨0x0400, 3, 0⟩
     (s.entry i).valid = true ∧ (s.entry i).key = k ∧ schedWant s (.unicast k kind) = some (log, flow) ∧
     s.eng.sched = [] ∧ (s.engine (placed s (bucketOf s flow))).input.length < 192) ∧
    (let n := 9
     let f := { tx0 (.ntp ntp0 false) with own := true, wants := some { exchange := 4 } }
     let d := ({ exchange := 4 } : EvData)
     let s := task0 9 (rx0 8 .unknown) (stTx [{ tx0 (.ntp ntp0 false) with own := true, wants := some { exchange := 4 } }])
     let k := (s.thread 9).task.getD {}
     n < 768 ∧ (s.thread n).task = some k ∧
     ((s.ethP k.port).queues.flatMap (·.2)).find? (fun f => f.tag == k.tag && f.wants.isSome && (f.own || f.alg == 0 || !keysAwaited s)) = some f ∧
     f.wants = some d ∧ ((f.own = true ∨ f.alg = 0))) ∧
    (let p := 3
     let s := stTx [{ tx0 (.ntp ntp0 false) with own := true }]
     let q := 0
     let f := { tx0 (.ntp ntp0 false) with own := true }
     let tp := 1000000000160320
     p < 16 ∧ commitCandidate (settleWire p s) p = some (q, f, tp) ∧ f.alg = 0 ∧ f.s2c = [] ∧
     grantHolds s f (ftSec (replicaAtPs s tp)) = true) ∧
    (let p := 3
     let q := 0
     let f := { tx0 (.ntp ntp0 false) with own := true, committed := some 999999999999999 }
     let tp := 999999999999999
     let rest := []
     let s := stSvc.setEthP 3 { stSvc.ethP 3 with committedQ := [{ tx0 (.ntp ntp0 false) with own := true, committed := some 999999999999999 }] }
     p < 16 ∧ q < 8 ∧ (s.ethP p).committedQ = f :: rest ∧ f.queue = q ∧ f.port = p ∧ f.committed = some tp ∧
     tp ≤ s.now * 1000) ∧
    (let p := 3
     let f := { tx0 (.ntp ntp0 false) with own := true, committed := some 1000000000000001 }
     let rest := []
     let s := stSvc.setEthP 3 { stSvc.ethP 3 with creditUsed := 9, committedQ := [{ tx0 (.ntp ntp0 false) with own := true, committed := some 1000000000000001 }] }
     p < 16 ∧ (s.ethP p).committedQ = f :: rest ∧ f.port = p ∧ f.record = none) ∧
    (let p := 3
     let q := 0
     let f := tx0 (.announce 4)
     let rest := []
     let s := (stTx [tx0 (.announce 4)]).setEthP 3 { (stTx [tx0 (.announce 4)]).ethP 3 with state := 1 }
     p < 16 ∧ q < 8 ∧ (s.ethP p).state ≠ 3 ∧ tget [] (s.ethP p).queues q = f :: rest ∧ f.record = none) :=
  by and_intros <;> decide +kernel

/-- The hypotheses of EnginesAndTasksComplete can be met. -/
theorem test_hypotheses_of_EnginesAndTasksComplete :
    (let rq := rq0 []
     let s := st0
     runs 0x0A01 rq s = true ∧ rq.payload = []) ∧
    (let rq := rq0 (le 4 0 ++ le 4 3 ++ [1, 0, 0, 0] ++ [9, 9])
     let s := st0
     runs 0x0A02 rq s = true ∧ 13 ≤ rq.payload.length ∧ rq.payload.length ≤ 4080 ∧ rd rq.payload 8 1 = 1 ∧
     rd rq.payload 9 3 = 0 ∧ rd rq.payload 4 4 ≤ 24576 ∧ rd rq.payload 0 4 = 0 ∧
     rq.payload.length - 12 < rd rq.payload 4 4 ∧ s.eng.activation = none) ∧
    (let img := (⟨7, 0, 0, []⟩ : SowerImage)
     let rq := rq0 (le 4 7)
     let s := { st0 with eng := { st0.eng with staging := { verified := some ⟨7, 0, 0, []⟩ } } }
     runs 0x0A03 rq s = true ∧ rq.payload.length = 4 ∧ s.eng.activation = none ∧ s.eng.staging.verified = some img ∧
     rd rq.payload 0 4 = img.version ∧ ((img.stateFormat = s.eng.active.stateFormat ∨ anyDomain s = false))) ∧
    (let n := 2
     let g := (⟨false, 3, 5, [⟨0, 2, 95⟩, ⟨65535, 1, 0⟩]⟩ : PlaceCfg)
     let rq := rq0 (placeBytes g)
     let s := st0
     runs 0x0A04 rq s = true ∧ n = rd rq.payload 4 1 ∧ n ≤ 32 ∧ rq.payload.length = 8 + 8 * n ∧
     rd rq.payload 0 1 < 2 ∧ 1 ≤ rd rq.payload 1 1 ∧ rd rq.payload 1 1 ≤ 12 ∧ rd rq.payload 2 2 < 4096 ∧
     rd rq.payload 5 3 = 0 ∧
     ((∀ i ∈ List.range n, rd rq.payload (8 + 8 * i) 2 + rd rq.payload (10 + 8 * i) 2 < 65536 ∧ rd rq.payload (12 + 8 * i) 1 < 96 ∧ rd rq.payload (13 + 8 * i) 3 = 0 ∧ ((pinsOf rq.payload n).take i).any (overlap ((pinsOf rq.payload n).getD i {})) = false)) ∧
     s.eng.policyHeld = none ∧
     g = ⟨bit (rd rq.payload 0 1) 0, rd rq.payload 1 1, rd rq.payload 2 2, pinsOf rq.payload n⟩) ∧
    (let rq := rq0 []
     let s := st0
     runs 0x0A05 rq s = true ∧ rq.payload = []) ∧
    (let e := 95
     let w := (none : Option (Nat × Nat))
     let i := 0
     let x := (⟨rx0 0 .unknown, 7⟩ : Waiting)
     let rest := ([] : List Waiting)
     let s := stSvc.setEngine 95 { input := [⟨rx0 0 .unknown, 7⟩] }
     e < 96 ∧ (s.engine e).state = 2 ∧ s.eng.restarting = none ∧ freeThread s e = some i ∧
     (firstReady s (s.engine e).input).map (·.1) = some x ∧ (firstReady s (s.engine e).input).map (·.2) = some rest) ∧
    (let n := 767
     let k := 3
     let next := (some (9, 100) : Option (Nat × Nat))
     let w := (⟨3, 0, 1000000000000⟩ : Wait)
     let s := stSvc.setThread 767 { task := some { admitted := 999999999999 }, wait := some ⟨3, 0, 1000000000000⟩ }
     n < 768 ∧ (s.thread n).wait = some w ∧ w.cls = k ∧ k ≠ 7 ∧ s.now ≤ w.deadline) ∧
    (let n := 767
     let next := (none : Option (Nat × Nat))
     let w := (⟨3, 0, 1000000000000⟩ : Wait)
     let k := ({ admitted := 999999999999 } : Task)
     let s := stSvc.setThread 767 { task := some { admitted := 999999999999 }, wait := some ⟨3, 0, 1000000000000⟩ }
     n < 768 ∧ (s.thread n).wait = some w ∧ (s.thread n).task = some k ∧ w.deadline ≤ s.now ∧
     s.now < k.admitted + 4194304) ∧
    (let n := 767
     let k := ({ admitted := 999995805696 } : Task)
     let s := stSvc.setThread 767 { task := some { admitted := 999995805696 } }
     n < 768 ∧ (s.thread n).task = some k ∧ k.admitted + 4194304 ≤ s.now) ∧
    (let s := stSvc.setThread 0 { task := some {}, wait := some ⟨3, 0, 0⟩ }
     deadlocked (censusSample s) = false) :=
  by and_intros <;> decide +kernel

/-- The hypotheses of PlacementAndArbitersComplete can be met. -/
theorem test_hypotheses_of_PlacementAndArbitersComplete :
    (let e := 9
     let img := (⟨7, 0, 0, []⟩ : SowerImage)
     let s := { (stSvc.setEngine 9 { state := 3 }) with eng := { (stSvc.setEngine 9 { state := 3 }).eng with activation := some ⟨7, 0, 0, []⟩ } }
     e < 96 ∧ e % 8 ≠ 7 ∧ s.eng.activation = some img ∧ (s.engine e).state = 3 ∧ engineIdle s e = true) ∧
    (let s := { (stSvc.setEngine 95 { state := 4 }) with eng := { (stSvc.setEngine 95 { state := 4 }).eng with restarting := some 5 } }
     let x := 5
     s.eng.restarting = some x) ∧
    (let b := 65535
     let s := { stSvc with eng := { stSvc.eng with moving := [(65535, 96)] } }
     b < 65536 ∧ tget 0 s.eng.moving b ≠ 0 ∧ bucketBusy s b = false) ∧
    (let b := 65535
     let e := 0
     let occ := (List.range 96).map (fun e => if e = 0 then 10 else 1000 + e * e)
     let s := stSvc
     s.eng.loopAt + 1000000 ≤ s.now ∧ s.eng.policy.rebalance = true ∧ b < 65536 ∧ e < 96 ∧
     moveAllowed s occ (b, e) = true) ∧
    (let k := 11
     let o := 7501
     let s := (enginesOf 11).foldl (fun t e => t.setEngine e { state := 0 }) stSvc
     k < 12 ∧ 7500 < o ∧ (s.engine (8 * k)).state = 0 ∧ marching s k = false) ∧
    (let k := 11
     let o := 2499
     let s := stSvc
     k < 12 ∧ o < 2500 ∧ 2 ≤ ((List.range 12).filter (stays s)).length ∧
     o * (awakeClusters s).length < 5000 * ((awakeClusters s).length - 1) ∧ s.eng.policy.minAwake < countedAwake s ∧
     pinnedAwake s k = false ∧ stays s k = true ∧ s.eng.activation = none) ∧
    (let k := 11
     let s := (enginesOf 11).foldl (fun t e => t.setEngine e { state := 1 }) { stSvc with eng := { stSvc.eng with active := ⟨7, 0, 0, []⟩ } }
     k < 12 ∧ (s.engine (8 * k)).state = 1) ∧
    (let s := { st0 with arb := { st0.arb with tallies := [(17, -5)] } }
     let k := 1
     let r := 0
     s.arb.window ≠ some (windowMarker s) ∧ s.arb.next = none ∧ s.arb.held = [] ∧ k < 17 ∧ r < 17 ∧
     requesters.any (fun q => decide (0 ≤ min (tally s k q + weightOf s k q) (capOf s k q))) = true) ∧
    (let k := 16
     let l := [(16, 7, 5)]
     let r := 16
     let op := 7
     let wt := 5
     let s := st0
     k < 17 ∧ chooseGrant s k (l.filter (fun x => decide (x.1 < 17) && opFits k (x.2.1 % 8))) = some (r, op, wt)) ∧
    (let b := 111
     let s := { st0 with arb := { st0.arb with scrubbing := [(111, 999999990000)] } }
     b < 112 ∧ ((tget 0 s.arb.scrubbing b = 0 ∨ tget 0 s.arb.scrubbing b + 10000 ≤ s.now))) :=
  by and_intros <;> decide +kernel

/-- The hypotheses of KeysComplete can be met. -/
theorem test_hypotheses_of_KeysComplete :
    (let k := 1
     let i := 4095
     let rq := rq0 ([1, 5] ++ le 2 4095 ++ le 4 0 ++ zeros 4 ++ List.replicate 16 9)
     let s := st0
     runs 0x0B01 rq s = true ∧ k = rd rq.payload 0 1 ∧ 1 ≤ k ∧ k ≤ 3 ∧ rq.payload.length = 12 + keyLen k ∧
     rd rq.payload 1 1 &&& maskAllowed k = rd rq.payload 1 1 ∧ i = rd rq.payload 2 2 ∧ i < slotCount k ∧
     ((if k = 1 then rd rq.payload 4 4 = 0 else if k = 2 then rd rq.payload 4 4 ≤ 254 else 1 ≤ rd rq.payload 4 4 ∧ rd rq.payload 4 4 < 268435456)) ∧
     rd rq.payload 8 4 = 0 ∧ (keySlot s k i).valid = false ∧ indexGenOk s k i (rd rq.payload 4 4) = true ∧
     s.key.rngFault = false) ∧
    (let k := 3
     let n := 2
     let l := [2, 15]
     let rq := rq0 [3, 2, 0, 0, 2, 0, 15, 0]
     let s := { st0 with key := { st0.key with nts := [(2, slot0 8 7 1), (15, slot0 8 8 2)] } }
     runs 0x0B02 rq s = true ∧ k = rd rq.payload 0 1 ∧ 1 ≤ k ∧ k ≤ 3 ∧ n = rd rq.payload 1 1 ∧ 1 ≤ n ∧ n ≤ 64 ∧
     rq.payload.length = 4 + 2 * n ∧ rd rq.payload 2 2 = 0 ∧
     l = (List.range n).map (fun i => rd rq.payload (4 + 2 * i) 2) ∧
     ((∀ i ∈ l, i < slotCount k ∧ (keySlot s k i).valid = true)) ∧ s.key.wrapGen + s.key.invalidating.length < 65535) ∧
    (let k := 2
     let i := 15
     let n := 1
     let rq := rq0 [2, 0, 15, 0, 1, 0, 0, 0]
     let s := st0
     runs 0x0B03 rq s = true ∧ rq.payload.length = 8 ∧ k = rd rq.payload 0 1 ∧ 1 ≤ k ∧ k ≤ 3 ∧
     rd rq.payload 1 1 = 0 ∧ i = rd rq.payload 2 2 ∧ i < slotCount k ∧ n = rd rq.payload 4 2 ∧ 1 ≤ n ∧
     n ≤ (if k = 1 then 128 else 16) ∧ i + n ≤ slotCount k ∧ rd rq.payload 6 2 = 0) ∧
    (let k := 2
     let i := 15
     let rq := rq0 ([2, 0, 15, 0] ++ le 2 1023 ++ le 2 1 ++ zeros 4)
     let s := { st0 with key := { st0.key with links := [(15, slot0 2 254 0)] } }
     runs 0x0B04 rq s = true ∧ rq.payload.length = 12 ∧ k = rd rq.payload 0 1 ∧ 1 ≤ k ∧ k ≤ 3 ∧
     i = rd rq.payload 2 2 ∧ i < slotCount k ∧ rd rq.payload 4 2 < 1024 ∧ rd rq.payload 6 2 ≤ 1024 ∧
     rd rq.payload 4 2 + rd rq.payload 6 2 ≤ 1024 ∧ rd rq.payload 8 4 = 0 ∧ (keySlot s k i).valid = true ∧
     rd rq.payload 1 1 &&& (keySlot s k i).recipients = rd rq.payload 1 1) ∧
    (let rq := rq0 []
     let s := { st0 with key := { st0.key with position := 16383, paused := true } }
     runs 0x0B05 rq s = true ∧ rq.payload = []) ∧
    (let i := 15
     let rq := rq0 [15, 255, 0, 0]
     let s := { st0 with key := { st0.key with nts := [(2, slot0 8 7 1), (15, slot0 8 8 2)] } }
     runs 0x0B06 rq s = true ∧ rq.payload.length = 4 ∧ i = rd rq.payload 0 1 ∧ i < 16 ∧ rd rq.payload 1 1 = 255 ∧
     rd rq.payload 2 2 = 0 ∧ (keySlot s 3 i).valid = true ∧ s.key.rngFault = false) ∧
    (let n := 0
     let s := { stSvc with key := { stSvc.key with epoch := 5 } }
     n = epochNow s ∧ n ≠ s.key.epoch) ∧
    (let n := 4095
     let s := { st0 with key := { st0.key with position := 4095, tenants := [(4095, slot0 5 0 0)] } }
     s.key.paused = false ∧ s.pwr.sState ≠ 0 ∧ s.key.lastVisit + 15625000 ≤ s.now ∧ n = s.key.position ∧ n < 4096 ∧
     (s.tenant n).valid = true ∧ (s.tenant n).shares.s1.length = 16 ∧ (s.tenant n).shares.s2.length = 16) ∧
    (let g := 1
     let x := (⟨9, false, [(2, 3, slot0 2 5 0)]⟩ : Invalidation)
     let rest := ([] : List Invalidation)
     let k := ({ id := 9, opcode := 0x0B02, req := rq0 [] } : Cmd)
     let s := { st0 with key := { st0.key with invalidating := [⟨9, false, [(2, 3, slot0 2 5 0)]⟩] }, kcp := { st0.kcp with slots := [{ id := 9, opcode := 0x0B02, req := rq0 [] }] } }
     s.key.invalidating = x :: rest ∧ g = s.key.wrapGen + 1 ∧ x.rotate = false ∧
     s.kcp.slots.find? (fun y => y.id == x.slotId) = some k ∧ k.lost = false ∧ k.noReply = false) :=
  by and_intros <;> decide +kernel

/-- The hypotheses of EvidenceCommandsComplete can be met. -/
theorem test_hypotheses_of_EvidenceCommandsComplete :
    (let rq := evRq 0
     let q := rq
     let g := (⟨1, 4095, 20, 8192, 60000⟩ : EvdCfg)
     let s := st0
     q = rq ∧ runs 0x0C01 q s = true ∧ rd q.payload 0 1 = 0 ∧ q.payload.length = 24 ∧ rd q.payload 1 1 < 2 ∧
     rd q.payload 2 2 < 4096 ∧ rd q.payload 4 1 ≤ 20 ∧ rd q.payload 5 1 = 0 ∧ rd q.payload 6 2 ≤ 8192 ∧
     10 ≤ rd q.payload 8 4 ∧ rd q.payload 8 4 ≤ 60000 ∧ rd q.payload 12 4 = 0 ∧
     g = (⟨rd q.payload 1 1, rd q.payload 2 2, rd q.payload 4 1, rd q.payload 6 2, rd q.payload 8 4⟩ : EvdCfg)) ∧
    (let rq := evRq 0
     let q := withByte 0 1 rq
     let g := (⟨1, 4095, 20, 8192, 60000⟩ : EvdCfg)
     let s := stEv { ns := [ns0] }
     q = withByte 0 1 rq ∧ runs 0x0C01 q s = true ∧ q.payload.length = 24 ∧ rd q.payload 1 1 < 2 ∧
     rd q.payload 2 2 < 4096 ∧ rd q.payload 4 1 ≤ 20 ∧ rd q.payload 5 1 = 0 ∧ rd q.payload 6 2 ≤ 8192 ∧
     10 ≤ rd q.payload 8 4 ∧ rd q.payload 8 4 ≤ 60000 ∧ rd q.payload 12 4 = 0 ∧
     g = (⟨rd q.payload 1 1, rd q.payload 2 2, rd q.payload 4 1, rd q.payload 6 2, rd q.payload 8 4⟩ : EvdCfg) ∧
     s.evd.store = 0 ∧ ringWidth s ≠ 0 ∧ writingSupers s = false) ∧
    (let rq := evRq 0
     let q := withByte 0 2 rq
     let g := (⟨1, 4095, 20, 8192, 60000⟩ : EvdCfg)
     let s := stEv { ns := [ns0], store := 1 }
     q = withByte 0 2 rq ∧ runs 0x0C01 q s = true ∧ q.payload.length = 24 ∧ rd q.payload 1 1 < 2 ∧
     rd q.payload 2 2 < 4096 ∧ rd q.payload 4 1 ≤ 20 ∧ rd q.payload 5 1 = 0 ∧ rd q.payload 6 2 ≤ 8192 ∧
     10 ≤ rd q.payload 8 4 ∧ rd q.payload 8 4 ≤ 60000 ∧ rd q.payload 12 4 = 0 ∧
     g = (⟨rd q.payload 1 1, rd q.payload 2 2, rd q.payload 4 1, rd q.payload 6 2, rd q.payload 8 4⟩ : EvdCfg) ∧
     s.evd.store = 1 ∧ (tget ({} : Loop) s.tst.loops 16384).depth = 0 ∧ s.evd.starting = false) ∧
    (let rq := evRq 0
     let q := withByte 0 3 rq
     let g := (⟨1, 4095, 20, 8192, 60000⟩ : EvdCfg)
     let s := stEv { ns := [ns0], store := 2, recordRunning := true }
     q = withByte 0 3 rq ∧ runs 0x0C01 q s = true ∧ q.payload.length = 24 ∧ rd q.payload 1 1 < 2 ∧
     rd q.payload 2 2 < 4096 ∧ rd q.payload 4 1 ≤ 20 ∧ rd q.payload 5 1 = 0 ∧ rd q.payload 6 2 ≤ 8192 ∧
     10 ≤ rd q.payload 8 4 ∧ rd q.payload 8 4 ≤ 60000 ∧ rd q.payload 12 4 = 0 ∧
     g = (⟨rd q.payload 1 1, rd q.payload 2 2, rd q.payload 4 1, rd q.payload 6 2, rd q.payload 8 4⟩ : EvdCfg) ∧
     s.evd.store = 2 ∧ s.evd.staged = [] ∧ s.evd.recordRunning = true ∧ writingSupers s = false) ∧
    (let rq := evRq 0
     let q := withByte 0 4 rq
     let g := (⟨1, 4095, 20, 8192, 60000⟩ : EvdCfg)
     let s := stEv { ns := [ns0], store := 2, staged := [sheaf0] }
     let x := sheaf0
     q = withByte 0 4 rq ∧ runs 0x0C01 q s = true ∧ q.payload.length = 24 ∧ rd q.payload 1 1 < 2 ∧
     rd q.payload 2 2 < 4096 ∧ rd q.payload 4 1 ≤ 20 ∧ rd q.payload 5 1 = 0 ∧ rd q.payload 6 2 ≤ 8192 ∧
     10 ≤ rd q.payload 8 4 ∧ rd q.payload 8 4 ≤ 60000 ∧ rd q.payload 12 4 = 0 ∧
     g = (⟨rd q.payload 1 1, rd q.payload 2 2, rd q.payload 4 1, rd q.payload 6 2, rd q.payload 8 4⟩ : EvdCfg) ∧
     filling s = some x ∧ x.records.length < 4064 ∧ s.evd.noStaging.count = 0 ∧ s.evd.noKey.count = 0 ∧
     s.evd.marksDue = []) ∧
    (let rq := evRq 0
     let q := withByte 0 5 rq
     let g := (⟨1, 4095, 20, 8192, 60000⟩ : EvdCfg)
     let s := stEv { ns := [ns0], store := 1, storeId := 77 }
     q = withByte 0 5 rq ∧ runs 0x0C01 q s = true ∧ q.payload.length = 24 ∧ rd q.payload 1 1 < 2 ∧
     rd q.payload 2 2 < 4096 ∧ rd q.payload 4 1 ≤ 20 ∧ rd q.payload 5 1 = 0 ∧ rd q.payload 6 2 ≤ 8192 ∧
     10 ≤ rd q.payload 8 4 ∧ rd q.payload 8 4 ≤ 60000 ∧ rd q.payload 12 4 = 0 ∧
     g = (⟨rd q.payload 1 1, rd q.payload 2 2, rd q.payload 4 1, rd q.payload 6 2, rd q.payload 8 4⟩ : EvdCfg) ∧
     s.evd.store = 1) ∧
    (let rq := rq0 []
     let s := stEv { ns := [ns0], staged := [sheaf0] }
     runs 0x0C02 rq s = true ∧ rq.payload = []) ∧
    (let i := 1
     let n := { ns0 with ordinal := none }
     let rq := rq0 [1, 0, 0, 0]
     let s := stEv { ns := [ns0, { ns0 with ordinal := none }] }
     runs 0x0C03 rq s = true ∧ rq.payload.length = 4 ∧ i = rd rq.payload 0 2 ∧ rd rq.payload 2 2 = 0 ∧
     s.evd.ns[i]? = some n ∧ s.evd.store = 0 ∧ writingSupers s = false ∧ usable n = true ∧ n.ordinal = none ∧
     ringWidth s < 32) ∧
    (let m := 2147483647
     let u := 5
     let rq := rq0 (le 4 2147483647 ++ zeros 4 ++ le 8 5)
     let s := stEv { ns := [ns0], retEpoch := 4294967295 }
     runs 0x0C04 rq s = true ∧ rq.payload.length = 16 ∧ m = rd rq.payload 0 4 ∧ u = rd rq.payload 8 8 ∧
     m < 2147483648 ∧ rd rq.payload 4 4 = 0 ∧ ((m ≠ s.evd.minRetain ∨ u ≠ s.evd.holdFrom)) ∧
     ((2 ≤ rq.priv ∨ (s.evd.minRetain ≤ m ∧ u ≤ s.evd.holdFrom)))) ∧
    (let i := 5
     let x := sheaf0
     let n := 64
     let rq := rq0 (le 8 5 ++ le 4 1024 ++ le 2 64 ++ [2, 0])
     let s := stEv { staged := [{ sheaf0 with phase := .sealed, header := [] }], nextIndex := 6 }
     let x := { sheaf0 with phase := .sealed, header := [] }
     runs 0x0C05 rq s = true ∧ rq.payload.length = 16 ∧ i = rd rq.payload 0 8 ∧ oldestIndex s ≤ i ∧ i < nextSeal s ∧
     rd rq.payload 8 4 % 32 = 0 ∧ rd rq.payload 8 4 < 131072 ∧ n = rd rq.payload 12 2 ∧ n % 32 = 0 ∧ 32 ≤ n ∧
     n ≤ 4032 ∧ rd rq.payload 8 4 + n ≤ 131072 ∧ rd rq.payload 14 1 < 4 ∧ bit (rd rq.payload 14 1) 0 = false ∧
     rd rq.payload 15 1 = 0 ∧ s.evd.staged.find? (fun y => y.index == i) = some x) :=
  by and_intros <;> decide +kernel

/-- The hypotheses of EvidenceEventsComplete can be met. -/
theorem test_hypotheses_of_EvidenceEventsComplete :
    (let i := 5
     let k := 0
     let tg := 7
     let r := ({ kind := 1, pending := some 7, started := true } : EvRec)
     let s := stEv { staged := [{ sheaf0 with records := [{ kind := 1, pending := some 7, started := true }] }] }
     k < 4064 ∧ recordAt s (i, k) = some r ∧ r.pending = some tg ∧ r.started = true ∧ onWire s (i, k) = false) ∧
    (let m := ({ toUs := 9, excess := 3 } : MarkDue)
     let rest := ([] : List MarkDue)
     let x := sheaf0
     let s := stEv { staged := [sheaf0], marksDue := [{ toUs := 9, excess := 3 }] }
     s.evd.marksDue = m :: rest ∧ filling s = some x ∧ s.evd.staged.find? (fun y => y.index == x.index) = some x ∧
     x.records.length < 4064 ∧ s.evd.noStaging.count = 0 ∧ s.evd.noKey.count = 0) ∧
    (let x := { sheaf0 with records := List.replicate 4064 { kind := 3 } }
     let s := stEv { staged := [{ sheaf0 with records := List.replicate 4064 { kind := 3 } }] }
     filling s = some x ∧ 4064 ≤ x.records.length) ∧
    (let x := sheaf0
     let a := 5
     let s := stEv { staged := [sheaf0] }
     filling s = some x ∧ x.records.length < 4064 ∧ x.firstAt = some a ∧ a + s.evd.cfg.sealAge * 1000000 ≤ s.now ∧
     s.evd.noStaging.count = 0 ∧ s.evd.noKey.count = 0 ∧ s.evd.marksDue = []) ∧
    (let x := { sheaf0 with phase := .closed }
     let s := stEv { staged := [{ sheaf0 with phase := .closed }] }
     let y := { x with sealedAt := replicaTime s 0, restart := s.evd.restart }
     s.evd.staged.find? (fun y => y.phase == .filling || y.phase == .closed) = some x ∧ x.phase = .closed ∧
     x.records.all (fun r => r.pending.isNone) = true ∧
     y = { x with sealedAt := replicaTime s 0, restart := s.evd.restart }) ∧
    (let x := { sheaf0 with phase := .sealed }
     let s := stEv { ns := [ns0], store := 2, staged := [{ sheaf0 with phase := .sealed }] }
     s.evd.staged.find? (fun x => x.phase == .sealed) = some x ∧ s.evd.store = 2 ∧ ringSize s ≠ 0 ∧
     (storedAt s (ringPos s x.index)).any (retained s) = false ∧ writingAt s (ringPos s x.index) = false) ∧
    (let n := 0
     let o := (⟨.sheaf 5 false, true, false, 0⟩ : NvOp)
     let i := 5
     let x := { sheaf0 with phase := .writing }
     let s := stEv { ns := [ns0], store := 2, staged := [{ sheaf0 with phase := .writing }], ops := [⟨.sheaf 5 false, true, false, 0⟩] }
     (s.evd.ops.filter (fun o => o.issued))[n]? = some o ∧ o.kind = .sheaf i false ∧
     s.evd.staged.find? (fun y => y.index == i) = some x) ∧
    (let o := (⟨.sheaf 5 false, true, false, 0⟩ : NvOp)
     let i := 5
     let d := false
     let s := stEv { ns := [ns0], store := 2, staged := [{ sheaf0 with phase := .writing }], ops := [⟨.sheaf 5 false, true, false, 0⟩] }
     s.evd.ops.find? (opLate s) = some o ∧ o.retried = false ∧ o.kind = .sheaf i d) ∧
    (let l := [(⟨1, 9, 1000, 4096, false, true⟩ : NvmeFound)]
     let s := stEv { ns := [ns0], store := 1, starting := true }
     s.evd.enumDue = false ∧ s.evd.starting = true ∧ s.evd.store = 1 ∧ allThere (enumerated l s) = true) ∧
    (let bad_ := true
     let p := 5
     let x := ({ header := zeros 24 } : DriveSheaf)
     let s := stEv { ns := [{ ns0 with sheaves := [(416, { header := zeros 24 })] }], store := 2, scrubPos := 6 }
     s.evd.store = 2 ∧ s.evd.cfg.scrubRate ≠ 0 ∧ s.evd.scrubAt + 1000000000 / s.evd.cfg.scrubRate ≤ s.now ∧
     scrubNext s = some (p, x)) :=
  by and_intros <;> decide +kernel

/-- The hypotheses of TandemComplete can be met. -/
theorem test_hypotheses_of_TandemComplete :
    (let n := (⟨3, 254, 253, 65535, 100000, 86400, 524287⟩ : TanCfg)
     let rq := rq0 (tanRecord n)
     let s := st0
     runs 0x0D01 rq s = true ∧ rq.payload.length = 24 ∧ n = tanParse rq.payload ∧ n.flags < 4 ∧ 2 ≤ n.active ∧
     n.active ≤ 254 ∧ 1 ≤ n.standby ∧ n.standby ≤ 253 ∧ n.standby < n.active ∧ rd rq.payload 3 1 = 0 ∧
     rd rq.payload 6 2 = 0 ∧ 1000 ≤ n.slaveBw ∧ n.slaveBw ≤ 100000 ∧ n.rejoin ≤ 86400 ∧ n.common < 524288 ∧
     rd rq.payload 20 4 = 0 ∧
     ((bit s.tan.cfg.flags 0 = true → (s.tan.cfg.active, s.tan.cfg.standby, s.tan.cfg.shared) = (n.active, n.standby, n.shared))) ∧
     tanLoop s = false) ∧
    (let rq := rq0 []
     let s := stTan { own := 100 }
     runs 0x0D02 rq s = true ∧ rq.payload = []) ∧
    (let rq := rq0 [9, 0, 0, 0]
     let q := withByte 0 0 rq
     let s := stTan { own := 0, release := true }
     q = withByte 0 0 rq ∧ runs 0x0D03 q s = true ∧ q.payload.length = 4 ∧ rd q.payload 1 3 = 0 ∧ tanOn s = true) ∧
    (let rq := rq0 [9, 0, 0, 0]
     let q := withByte 0 1 rq
     let s := stTan { own := 100 }
     q = withByte 0 1 rq ∧ runs 0x0D03 q s = true ∧ q.payload.length = 4 ∧ rd q.payload 1 3 = 0 ∧ tanOn s = true) ∧
    (let rq := rq0 [9, 0, 0, 0]
     let q := withByte 0 2 rq
     let s := stTan { own := 100 }
     q = withByte 0 2 rq ∧ runs 0x0D03 q s = true ∧ q.payload.length = 4 ∧ rd q.payload 1 3 = 0 ∧ tanOn s = true ∧
     s.tan.partner ≠ 255 ∧ ownFault s = 0 ∧ s.tan.dropped = false) ∧
    (let rq := rq0 (le 4 64 ++ le 4 60000 ++ zeros 8)
     let s := stTan { own := 100 }
     runs 0x0D04 rq s = true ∧ rq.payload.length = 16 ∧ 64 ≤ rd rq.payload 0 4 ∧ rd rq.payload 0 4 ≤ 64000 ∧
     1 ≤ rd rq.payload 4 4 ∧ rd rq.payload 4 4 ≤ 60000 ∧ rd rq.payload 8 8 = 0) ∧
    (let s := stTan { own := 100, promoted := true }
     tanOn s = true ∧ s.tan.claimsHeld = []) ∧
    (let s := stTan { own := 0, partner := 100, promoted := true }
     tanOn s = true) ∧
    (let w := 199
     let l := [[0], encSymbols ((claimSymbols true 199).take 3) true]
     let s := stTan { own := 100, missedRun := 3 }
     tanOn s = true ∧ l.findSome? claimOfLine = some w) ∧
    (let m := 5
     let s := stTan { own := 200, armedAt := some 5, sentValid := true }
     let s := { s with acc := 5 }
     s.tan.armedAt = some m ∧ m ≤ replicaTime s 0 ∧ s.tan.sentValid = true ∧ s.tan.driving = false) ∧
    (let f := [1] ++ zeros 4 ++ [100, 200, 2] ++ zeros 5
     let s := stTan { own := 100, linkGood := 999 }
     tanOn s = true ∧ f.length = 13 ∧ rd f 0 1 = 1) ∧
    (let f := [2] ++ zeros 220
     let s := stTan { own := 100, edge13 := some (5, false) }
     f.length = 221 ∧ rd f 0 1 = 2) ∧
    (let f := [3] ++ zeros 72
     let s := stTan { own := 100 }
     f.length = 73 ∧ rd f 0 1 = 3) ∧
    (let s := stTan { own := 100 }
     tanOn s = true) ∧
    (let r := 700000000000
     let s := stTan { dropped := true, rejoinAt := some 700000000000 }
     s.tan.rejoinAt = some r ∧ s.tan.dropped = true ∧ s.tan.cmp.latched = false ∧ s.tan.cfg.rejoin ≠ 0 ∧
     r + s.tan.cfg.rejoin * 1000000000 ≤ s.now) :=
  by and_intros <;> decide +kernel

/-- The hypotheses of OutputCommandsComplete can be met. -/
theorem test_hypotheses_of_OutputCommandsComplete :
    (let a := 3
     let n := (⟨true, 12000, 2000, 5 ^^^ seedBase 3, 1000, 1048576⟩ : SynCfg)
     let rq := rq0 ([3, 1, 0, 0] ++ le 4 12000 ++ le 4 2000 ++ le 4 5 ++ le 2 1000 ++ le 2 10000 ++ le 4 1048576)
     let s := (stSyn []).setApll 3 { locked := true }
     runs 0x0E01 rq s = true ∧ rq.payload.length = 24 ∧ a = rd rq.payload 0 1 ∧ a < 4 ∧ rd rq.payload 1 1 < 2 ∧
     rd rq.payload 2 1 = 0 ∧ rd rq.payload 3 1 = 0 ∧
     n = (⟨bit (rd rq.payload 1 1) 0, rd rq.payload 4 4, rd rq.payload 8 4, rd rq.payload 12 4 ^^^ seedBase a, rd rq.payload 16 2, rd rq.payload 20 4⟩ : SynCfg) ∧
     10000 ≤ n.fvco ∧ n.fvco ≤ 12000 ∧ 100 ≤ n.bw ∧ n.bw ≤ 2000 ∧ n.bw % 100 = 0 ∧ 10 ≤ n.lockWin ∧
     n.lockWin ≤ 1000 ∧ 100 ≤ rd rq.payload 18 2 ∧ rd rq.payload 18 2 ≤ 10000 ∧ 64 ≤ n.lockN ∧ n.lockN ≤ 1048576 ∧
     ((n.enable = true ∨ (outputsOf s a).any (outEnabled s) = false))) ∧
    (let a := 0
     let n := (⟨true, 10000, 500, 0, 50, 4096⟩ : SynCfg)
     let rq := rq0 ([0, 1, 0, 0] ++ le 4 10000 ++ le 4 500 ++ le 4 (seedBase 0) ++ le 2 50 ++ le 2 1000 ++ le 4 4096)
     let q := withByte 2 1 rq
     let s := stSyn []
     q = withByte 2 1 rq ∧ runs 0x0E01 q s = true ∧ q.payload.length = 24 ∧ a = rd q.payload 0 1 ∧ a < 4 ∧
     rd q.payload 1 1 < 2 ∧ rd q.payload 3 1 = 0 ∧
     n = (⟨bit (rd q.payload 1 1) 0, rd q.payload 4 4, rd q.payload 8 4, rd q.payload 12 4 ^^^ seedBase a, rd q.payload 16 2, rd q.payload 20 4⟩ : SynCfg) ∧
     n = (s.apll a).cfg ∧ 10000 ≤ n.fvco ∧ n.fvco ≤ 12000 ∧ 100 ≤ n.bw ∧ n.bw ≤ 2000 ∧ n.bw % 100 = 0 ∧
     10 ≤ n.lockWin ∧ n.lockWin ≤ 1000 ∧ 100 ≤ rd q.payload 18 2 ∧ rd q.payload 18 2 ≤ 10000 ∧ 64 ≤ n.lockN ∧
     n.lockN ≤ 1048576 ∧ n.enable = true) ∧
    (let rq := rq0 []
     let s := stSyn []
     runs 0x0E02 rq s = true ∧ rq.payload = []) ∧
    (let i := 3
     let n := (⟨true, 5, 3, -32768000000000, 500000000, 0⟩ : PpsCfg)
     let rq := rq0 ([3, 5, 3, 0] ++ leI 8 (-32768000000000) ++ le 4 500000000 ++ zeros 8)
     let s := stSyn []
     runs 0x0E03 rq s = true ∧ rq.payload.length = 24 ∧ i = rd rq.payload 0 1 ∧ i < 4 ∧
     n = (⟨true, rd rq.payload 1 1, rd rq.payload 2 1, rdI rq.payload 4 8, rd rq.payload 12 4, rd rq.payload 16 8⟩ : PpsCfg) ∧
     n.flags < 8 ∧ bit n.flags 1 = false ∧ n.src < 4 ∧ rd rq.payload 3 1 = 0 ∧ n.offset.natAbs ≤ 32768000000000 ∧
     10 ≤ n.width ∧ n.width ≤ 500000000 ∧ n.divider = 0 ∧ bit (ppsRec s i).flags 1 = false) ∧
    (let i := 7
     let n := (⟨1, 0, 1, 100, 1, 1024, 101 * s1, 1024⟩ : SclkCfg)
     let rq := rq0 ([7, 1, 0, 1] ++ le 4 100 ++ le 4 1 ++ le 4 1024 ++ leTime (101 * s1) ++ le 4 1024 ++ zeros 12)
     let s := stSyn []
     runs 0x0E04 rq s = true ∧ rq.payload.length = 48 ∧ i = rd rq.payload 0 1 ∧ i < 8 ∧
     n = (⟨rd rq.payload 1 1, rd rq.payload 2 1, rd rq.payload 3 1, rd rq.payload 4 4, rd rq.payload 8 4, rd rq.payload 12 4, rdTime rq.payload 16, rd rq.payload 32 4⟩ : SclkCfg) ∧
     n.flags < 4 ∧ n.src < 4 ∧
     ((n.markerOut = 255 ∨ (n.markerOut < 4 ∧ outMarker s n.markerOut = true ∧ (ppsRec s n.markerOut).src = n.src))) ∧
     sclkOk (s.apll n.src).cfg.fvco n = true ∧ 1 ≤ n.frameA ∧ 2 * n.frameA ≤ n.frameB ∧ rd rq.payload 16 4 = 0 ∧
     rd rq.payload 20 4 % 1000 = 0 ∧ rd rq.payload 20 4 < 1000000000 ∧ 1024 ≤ n.lead ∧ n.lead ≤ 16777216 ∧
     rd rq.payload 36 12 = 0 ∧ bit (sclkRec s i).flags 0 = false ∧
     (((replicaTime s 0 + 2 * ms1) * (s.apll n.src).cfg.fvco : Nat) : Int) ≤ (startInstant (s.apll n.src).cfg.fvco n).1) ∧
    (let rq := rq0 ([50, 25, 0, 0] ++ le 4 200000)
     let s := stSyn []
     runs 0x0E05 rq s = true ∧ rq.payload.length = 8 ∧ rd rq.payload 0 1 ≤ 50 ∧ rd rq.payload 1 1 ≤ 25 ∧
     rd rq.payload 2 1 < 2 ∧ rd rq.payload 3 1 = 0 ∧ 10000 ≤ rd rq.payload 4 4 ∧ rd rq.payload 4 4 ≤ 200000 ∧
     ((rd rq.payload 0 1 = s.syn.nvmeDown ∨ s.evd.store < 2))) :=
  by and_intros <;> decide +kernel

/-- The hypotheses of OutputEventsComplete can be met. -/
theorem test_hypotheses_of_OutputEventsComplete :
    (let a := 3
     let w := (⟨3, [(4000, 3276), (5, 3277), (4096, -3276)]⟩ : ApllCycles)
     let s := (stSyn []).setFlt 6 { cond := 524288 }
     w.apll = a ∧ a < 4 ∧ (s.apll a).cfg.enable = true ∧ (s.apll a).locked = false ∧
     lockReached (s.apll a) w.runs = true) ∧
    (let a := 0
     let l := .errors [3276, -13108, 0]
     let s := stSyn []
     a < 4 ∧ (s.apll a).cfg.enable = true ∧ (s.apll a).locked = true ∧ lossHolds (s.apll a) l = true) ∧
    (let a := 0
     let r := 100 * s1
     let s := (stSyn [(7, { syncGate := true })]).setApll 0 { locked := true, resumeAt := some (100 * s1) }
     a < 4 ∧ (s.apll a).resumeAt = some r ∧ r ≤ replicaTime s 0 ∧ (s.apll a).locked = true) ∧
    (let i := 0
     let k := 100
     let e := ((100 * s1 : Nat) : Int)
     let s := stSyn []
     i < 4 ∧ pulseDue s i = some (k, e) ∧ (s.outp i).pulseAt < e ∧ outMarker s i = false ∧ outDrives s i = true ∧
     labelEmitted (s.outp i).labels k = false) ∧
    (let x := 100 * s1
     let s := { (stSyn [(0, { pulseAt := 100 * s1, drove := true })]) with syn := { (stSyn [(0, { pulseAt := 100 * s1, drove := true })]).syn with loopBad := [(0, 2)] } }
     (s.outp 0).drove = true ∧ outMarker s 0 = false) ∧
    (let i := 0
     let s := stSyn []
     i < 8 ∧ outEnabled s (8 + i) = true ∧ (s.outp (8 + i)).started = false ∧
     (startInstant (outFvco s (8 + i)) (sclkRec s i)).1 ≤ replicaTime s 0 * outFvco s (8 + i)) ∧
    (let i := 0
     let s := stSyn [(8, { started := true })]
     i < 8 ∧ outEnabled s (8 + i) = true ∧ (sclkRec s i).markerOut < 4 ∧
     (sclkRec s i).epochStart ≤ replicaTime s 0 ∧ (s.outp (8 + i)).pulseAt < (sclkRec s i).epochStart ∧
     (s.outp (8 + i)).synced = false ∧ outDrives s (8 + i) = true ∧ outDrives s (sclkRec s i).markerOut = true ∧
     outMarker s (sclkRec s i).markerOut = true) ∧
    (let s := { (stSyn [(7, { lengthen := 4 })]) with syn := { (stSyn [(7, { lengthen := 4 })]).syn with syncArmed := true } }
     s.syn.syncArmed = true) :=
  by and_intros <;> decide +kernel

/-- The hypotheses of PowerAndTemperatureComplete can be met. -/
theorem test_hypotheses_of_PowerAndTemperatureComplete :
    (let fl := 600
     let ce := 800
     let rq := rq0 ([1, 0, 0, 0] ++ le 2 600 ++ le 2 800 ++ le 2 50 ++ zeros 6)
     let s := { st0 with pwr := { st0.pwr with vset := 700 } }
     runs 0x0F01 rq s = true ∧ rq.payload.length = 16 ∧ rd rq.payload 0 1 = 1 ∧ rd rq.payload 1 3 = 0 ∧
     rd rq.payload 10 6 = 0 ∧ fl = rd rq.payload 4 2 ∧ ce = rd rq.payload 6 2 ∧ voltageOk fl = true ∧
     voltageOk ce = true ∧ fl ≤ ce ∧ 10 ≤ rd rq.payload 8 2 ∧ rd rq.payload 8 2 ≤ 200 ∧ fl ≤ s.pwr.vset ∧
     s.pwr.vset ≤ ce) ∧
    (let rq := rq0 ([2, 4, 0, 0] ++ zeros 68)
     let q := withByte 0 2 rq
     let s := st0
     q = withByte 0 2 rq ∧ runs 0x0F01 q s = true ∧ q.payload.length = 72 ∧ 1 ≤ rd q.payload 1 1 ∧
     rd q.payload 1 1 ≤ 16 ∧ rd q.payload 2 2 = 0 ∧
     (∀ r ∈ List.range 17, rd q.payload (4 + 4 * r) 2 ≤ 4095 ∧ rd q.payload (6 + 4 * r) 2 ≤ 63)) ∧
    (let rq := rq0 []
     let s := { st0 with pwr := { st0.pwr with avsFault := true, vset := 700 } }
     runs 0x0F02 rq s = true ∧ rq.payload = [] ∧ s.pwr.avsFault = true) ∧
    (let p99 := 500
     let ms := ([40, 41, 42, 43, 44, 45] : List Nat)
     let s := { st0 with pwr := { st0.pwr with vset := 700, bootMv := 800, handledAt := st0.now } }
     s.pwr.sState ≠ 0 ∧ s.pwr.lastWindow + 100000 ≤ s.now ∧ s.pwr.avsFault = false ∧ s.pwr.held = [] ∧ p99 ≤ 65535 ∧
     10 * s.pwr.target < p99 ∧ s.pwr.floor ≤ s.pwr.vset ∧ s.pwr.vset + 10 ≤ s.pwr.ceiling) ∧
    (let alert := true
     let s := st0
     s.pwr.sState ≠ 0 ∧ ((alert = true ∨ 3 ≤ s.pwr.avsFail)) ∧ s.pwr.avsFault = false ∧
     bit (s.flt 7).status 4 = false) ∧
    (let die := 1
     let temp := (111 * 128 : Int)
     let s := st0
     die < 6 ∧ 110 * 128 < temp) ∧
    (let a := (1 : Int)
     let b := (1 : Int)
     let c := (1 : Int)
     let d := (1 : Int)
     let e := (1 : Int)
     let f := (99 * 128 : Int)
     let s := { st0 with pwr := { st0.pwr with tempCrit := true } }
     (∀ x ∈ [a, b, c, d, e, f], x ≠ -32768 ∧ x < 100 * 128)) :=
  by and_intros <;> decide +kernel

/-- The hypotheses of LoopbackAndTestComplete can be met. -/
theorem test_hypotheses_of_LoopbackAndTestComplete :
    (let rq := rq0 ([1, 2] ++ le 2 5 ++ le 4 60 ++ zeros 24)
     let i := 5
     let d := 2
     let s := st0
     runs 0x1001 rq s = true ∧ rq.payload.length = 32 ∧ rd rq.payload 0 1 = 1 ∧ d = rd rq.payload 1 1 ∧
     i = rd rq.payload 2 2 ∧ 1 ≤ d ∧ d ≤ 4 ∧ i < 16 ∧ 1 ≤ rd rq.payload 4 4 ∧ rd rq.payload 4 4 ≤ 3600 ∧
     (loopOf s 1 i).depth = 0 ∧ portServes s i = false) ∧
    (let rq := rq0 ([2, 0] ++ le 2 500)
     let f := 2
     let i := 500
     let s := setLoop 2 500 { depth := 3, sent := 9 } st0
     runs 0x1002 rq s = true ∧ rq.payload.length = 4 ∧ f = rd rq.payload 0 1 ∧ i = rd rq.payload 2 2 ∧ 1 ≤ f ∧
     f ≤ 7 ∧ rd rq.payload 1 1 = 0 ∧ i < instances f ∧ (loopOf s f i).depth ≠ 0) ∧
    (let f := 2
     let i := 500
     let s := setLoop 2 500 { depth := 3, sent := 9, endsAt := 1000 } st0
     (loopOf s f i).endsAt ≠ 0 ∧ (loopOf s f i).endsAt ≤ s.now ∧ (loopOf s f i).depth ≠ 0) ∧
    (let f := 1
     let i := 5
     let x := (70 : Int)
     let l := ({ depth := 3, sent := 9 } : Loop)
     let s := setLoop 1 5 { depth := 3, sent := 9 } st0
     l = loopOf s f i ∧ selfTraffic f l.depth = true ∧ l.lastUnit + 10000 ≤ s.now) ∧
    (let s := { st0 with kcp := { st0.kcp with replies := [⟨3, .ring 1, 0x0003, 5, 0, 0, 0, [], 9⟩, ⟨4, .sideband, 0x0003, 5, 0, 0, 0, [], 9⟩] } }
     (loopOf s 3 0).depth = 0) ∧
    (let rq := rq0 ([9, 0] ++ le 2 3)
     let q := withByte 0 0 rq
     let i := 3
     let s := setBist 3 { state := 2 } st0
     q = withByte 0 0 rq ∧ runs 0x1003 q s = true ∧ q.payload.length = 4 ∧ rd q.payload 1 1 = 0 ∧
     i = rd q.payload 2 2 ∧ 1 ≤ i ∧ i ≤ 5) ∧
    (let rq := rq0 ([9, 0] ++ le 2 3)
     let q := withByte 0 1 rq
     let i := 3
     let s := st0
     q = withByte 0 1 rq ∧ runs 0x1003 q s = true ∧ q.payload.length = 4 ∧ rd q.payload 1 1 = 0 ∧
     i = rd q.payload 2 2 ∧ (bistOf s 1).state ≠ 1) ∧
    (let rq := rq0 ([9, 0] ++ le 2 3)
     let q := withByte 0 2 rq
     let i := 3
     let s := { st0 with eng := { st0.eng with engines := tset ({} : Engine) st0.eng.engines 24 { (tget ({} : Engine) st0.eng.engines 24) with state := 0 } } }
     q = withByte 0 2 rq ∧ runs 0x1003 q s = true ∧ q.payload.length = 4 ∧ rd q.payload 1 1 = 0 ∧
     i = rd q.payload 2 2 ∧ i < 12 ∧ (s.engine (8 * i)).state = 0 ∧ (bistOf s 2).state ≠ 1) ∧
    (let rq := rq0 ([9, 0] ++ le 2 3)
     let q := withByte 0 3 rq
     let i := 3
     let s := st0
     q = withByte 0 3 rq ∧ runs 0x1003 q s = true ∧ q.payload.length = 4 ∧ rd q.payload 1 1 = 0 ∧
     i = rd q.payload 2 2 ∧ (bistOf s 3).state ≠ 1) ∧
    (let rq := rq0 ([9, 0] ++ le 2 3)
     let q := withByte 0 4 rq
     let i := 3
     let s := st0
     q = withByte 0 4 rq ∧ runs 0x1003 q s = true ∧ q.payload.length = 4 ∧ rd q.payload 1 1 = 0 ∧
     i = rd q.payload 2 2 ∧ i < 16 ∧ (s.ethP i).state = 0 ∧ (bistOf s 4).state ≠ 1) ∧
    (let rq := rq0 ([9, 0] ++ le 2 3)
     let q := withByte 0 5 rq
     let i := 3
     let s := st0
     q = withByte 0 5 rq ∧ runs 0x1003 q s = true ∧ q.payload.length = 4 ∧ rd q.payload 1 1 = 0 ∧
     i = rd q.payload 2 2 ∧ i < 4 ∧ (bistOf s 5).state ≠ 1) ∧
    (let k := 4
     let e := 12
     let b := ({ state := 1, instance_ := 3, startAt := 5 } : Bist)
     let s := setBist 4 { state := 1, instance_ := 3, startAt := 5 } st0
     k ∈ [1, 4, 5] ∧ b = bistOf s k ∧ b.state = 1 ∧ b.startAt + bistLeast k ≤ s.now) ∧
    (let rq := rq0 ([9, 2, 0, 0] ++ le 4 600)
     let q := withByte 0 1 rq
     let s := st0
     q = withByte 0 1 rq ∧ runs 0x1004 q s = true ∧ q.payload.length = 8 ∧ rd q.payload 1 1 < 4 ∧
     rd q.payload 2 2 = 0 ∧ 60 ≤ rd q.payload 4 4 ∧ rd q.payload 4 4 ≤ 86400 ∧ s.tst.deniedUntil ≤ s.now) ∧
    (let ch := zeros 48 ++ le 4 600
     let rq := rq0 ([2, 0, 0, 0] ++ zeros 48 ++ le 4 600 ++ zeros 96)
     let q := withByte 0 2 rq
     let s := { st0 with tst := { st0.tst with challenge := zeros 48 ++ le 4 600, challengeAt := st0.now } }
     q = withByte 0 2 rq ∧ runs 0x1004 q s = true ∧ q.payload.length = 152 ∧ rd q.payload 1 1 < 4 ∧
     rd q.payload 2 2 = 0 ∧ s.tst.deniedUntil ≤ s.now ∧ s.tst.challenge = ch ∧ (q.payload.drop 4).take 52 = ch ∧
     s.now ≤ s.tst.challengeAt + 60000000000) ∧
    (let rq := rq0 [9, 0, 0, 0]
     let q := withByte 0 3 rq
     let s := { st0 with tst := { st0.tst with inForce := true, scope := 2, reported := some 5 } }
     q = withByte 0 3 rq ∧ runs 0x1004 q s = true ∧ q.payload.length = 4 ∧ rd q.payload 1 1 < 4 ∧
     rd q.payload 2 2 = 0 ∧ s.tst.deniedUntil ≤ s.now ∧ s.tst.inForce = true) ∧
    (let s := { st0 with tst := { st0.tst with reported := some 5 }, bus := { st0.bus with replicas := [(0, { frame := { testUnlock := true } })] } }
     s.tst.reported ≠ none ∧ (s.replica 0).frame.testUnlock = true) ∧
    (let e := 5
     let s := { st0 with tst := { st0.tst with inForce := true, scope := 2, reported := some 5 } }
     s.tst.reported = some e ∧ e ≤ s.now) :=
  by and_intros <;> decide +kernel

/-- The hypotheses of FaultInterruptCounterCommandsComplete can be met. -/
theorem test_hypotheses_of_FaultInterruptCounterCommandsComplete :
    (let rq := rq0 [7, 0, 2, 0]
     let b := 7
     let w := 0
     let n := 2
     let s := setSticky 7 4 st0
     runs 0x1101 rq s = true ∧ rq.payload.length = 4 ∧ b = rd rq.payload 0 1 ∧ w = rd rq.payload 1 1 ∧
     n = rd rq.payload 2 1 ∧ rd rq.payload 3 1 = 0 ∧ b ≤ 12 ∧ 1 ≤ n ∧ w + n ≤ 64) ∧
    (let rq := rq0 ([7, 0, 0, 0] ++ le 4 0x30)
     let b := 7
     let w := 0
     let s := setCond 7 5 true (setSticky 7 4 st0)
     runs 0x1102 rq s = true ∧ rq.payload.length = 8 ∧ b = rd rq.payload 0 1 ∧ w = rd rq.payload 1 1 ∧
     rd rq.payload 2 2 = 0 ∧ b ≤ 12 ∧ w ≤ 63) ∧
    (let rq := rq0 ([4, 0, 1, 9] ++ le 2 500 ++ zeros 2 ++ le 32 5 ++ zeros 8)
     let q := withByte 1 0 rq
     let g := 4
     let s := irqArrive 4 3 st0
     q = withByte 1 0 rq ∧ runs 0x1103 q s = true ∧ q.payload.length = 48 ∧ g = rd q.payload 0 1 ∧ g ≤ 8 ∧
     rd q.payload 2 1 < 4 ∧ ((g ≠ 0 ∨ bit (rd q.payload 2 1) 1 = false)) ∧ rd q.payload 4 2 ≤ 1000 ∧
     rd q.payload 6 2 = 0 ∧ (∀ k ∈ List.range 32, rd q.payload (8 + k) 1 < 2 ^ min 8 (irqSources g - 8 * k)) ∧
     rd q.payload 40 8 = 0) ∧
    (let rq := rq0 ([4, 0, 1, 9] ++ le 2 500 ++ zeros 2 ++ le 32 8 ++ zeros 8)
     let q := withByte 1 1 rq
     let g := 4
     let s := irqArrive 4 3 (irqDeliver 4 { (irqArrive 4 3 st0) with regs := { (irqArrive 4 3 st0).regs with msixEnable := true, msix := [(4, { masked := false })] } })
     q = withByte 1 1 rq ∧ runs 0x1103 q s = true ∧ q.payload.length = 48 ∧ g = rd q.payload 0 1 ∧ g ≤ 8 ∧
     rd q.payload 6 2 = 0 ∧ (∀ k ∈ List.range 32, rd q.payload (8 + k) 1 < 2 ^ min 8 (irqSources g - 8 * k)) ∧
     rd q.payload 40 8 = 0) ∧
    (let rq := rq0 [7, 0, 0, 0]
     let b := 7
     let w := 0
     let s := setSticky 7 4 st0
     runs 0x1104 rq s = true ∧ rq.payload.length = 4 ∧ b = rd rq.payload 0 1 ∧ w = rd rq.payload 1 1 ∧
     rd rq.payload 2 2 = 0 ∧ b ≤ 12 ∧ w ≤ 63) ∧
    (let rq := rq0 (filterBytes 5 { family := 2, hi := 9 })
     let i := 5
     let s := perfAdd 0x805 3 st0
     runs 0x0F03 rq s = true ∧ rq.payload.length = 32 ∧ i = rd rq.payload 0 1 ∧ i ≤ 63 ∧
     ((rd rq.payload 1 1 ≤ 3 ∨ rd rq.payload 1 1 = 0xFF)) ∧ rd rq.payload 2 1 < 4 ∧ rd rq.payload 4 1 < 8 ∧
     rd rq.payload 5 1 = 0 ∧ rd rq.payload 8 2 < 512 ∧ rd rq.payload 10 2 = 0 ∧ rd rq.payload 12 4 < 2 ^ 17 ∧
     rd rq.payload 16 1 < 4 ∧ rd rq.payload 17 3 = 0 ∧ rd rq.payload 20 4 < rd rq.payload 24 4 ∧
     rd rq.payload 28 4 = 0) ∧
    (let rq := rq0 (le 2 0x400 ++ le 2 4 ++ zeros 4)
     let f := 0x400
     let n := 4
     let s := perfAdd 0x401 3 st0
     runs 0x0F04 rq s = true ∧ rq.payload.length = 8 ∧ f = rd rq.payload 0 2 ∧ n = rd rq.payload 2 2 ∧ 1 ≤ n ∧
     n ≤ 256 ∧ f + n ≤ 0x840 ∧ rd rq.payload 4 1 = 0 ∧ rd rq.payload 5 3 = 0) :=
  by and_intros <;> decide +kernel

/-- The hypotheses of RegisterAccessesComplete can be met. -/
theorem test_hypotheses_of_RegisterAccessesComplete :
    (let r := 0
     let x := 5
     let s := st0
     r < 8 ∧ serving s = true ∧ (x % 65536 + 65536 - (s.ring r).sqHead) % 65536 ≤ 2 ^ (s.ring r).log2) ∧
    (let r := 0
     let x := 5
     let s := { st0 with kcp := { st0.kcp with rings := [(0, { enable := true, log2 := 4, cqTail := 6, cqHead := 2 })] } }
     r < 8 ∧ serving s = true ∧
     (x % 65536 + 65536 - (s.ring r).cqHead) % 65536 ≤ ((s.ring r).cqTail + 65536 - (s.ring r).cqHead) % 65536) ∧
    (let r := 1
     let x := 2 ^ 31 + 4 * 2 ^ 24 + 3 * 2 ^ 20 + 7
     let s := st0
     r < 8 ∧ serving s = true ∧ (s.ring r).enable = false ∧ bit x 31 = true ∧ 1 ≤ x / 2 ^ 24 % 16 ∧
     x / 2 ^ 24 % 16 ≤ 8 ∧ (s.ring r).lock = false ∧ bit (s.flt 7).safe r = false ∧
     ((s.ring r).sqTail + 65536 - (s.ring r).sqHead) % 65536 ≤ 2 ^ (x / 2 ^ 24 % 16)) ∧
    (let r := 3
     let s := st0
     r < 8 ∧ serving s = true) ∧
    (let r := 1
     let s := { st0 with kcp := { st0.kcp with rings := tset ({} : Ring) st0.kcp.rings 1 { quiesced := false } } }
     r < 8 ∧ (s.ring r).enable = false ∧ (∀ y ∈ s.kcp.slots, y.req.src = .ring r → y.lost = true) ∧
     (∀ y ∈ s.kcp.replies, y.src ≠ .ring r)) ∧
    (let r := 1
     let x := 0xE8
     let s := { st0 with kcp := { st0.kcp with rings := tset ({} : Ring) st0.kcp.rings 1 { badBell := true, cqFull := true } } }
     r < 8 ∧ serving s = true) ∧
    (let g := 5
     let w := 7
     let x := 2 ^ 31
     let s := st0.setIrq 5 { insvc := 2 ^ 255, count := [(255, 3)] }
     g < 9 ∧ w < 8 ∧ serving s = true) ∧
    (let b := 7
     let w := 0
     let x := 0x30
     let s := setCond 7 5 true (setSticky 7 4 st0)
     1 ≤ b ∧ b < 13 ∧ w < 64 ∧ serving s = true) ∧
    (let e := 5
     let x := 2 ^ 31
     let s := { st0 with regs := { st0.regs with perf := [(5, ⟨7, true⟩)] } }
     e < 0x840 ∧ serving s = true ∧ bit x 31 = true) ∧
    (let s := stSvc
     serving s = true) ∧
    (let o := 0x40004
     let s := st0
     slowOffset o = true ∧ serving s = true) ∧
    (let x := 0x12345678
     let s := st0
     serving s = true ∧ x < 2 ^ 32) ∧
    (let g := 4
     let s := { (irqArrive 4 3 st0) with regs := { (irqArrive 4 3 st0).regs with msixEnable := true, msix := [(4, { masked := false })] } }
     1 ≤ g ∧ g < 9 ∧ (s.irqG g).enable = true ∧ (s.irqG g).pend ≠ 0 ∧ (s.irqG g).readyAt ≤ s.now ∧
     (s.irqG g).sideband = false ∧ sendable s (groupVector g (s.irqG g)) = true) ∧
    (let v := 9
     let s := st0
     v < 256 ∧ (∀ g ∈ List.range 9, (s.irqG g).pend = 0)) ∧
    (let b := 7
     let i := 1
     let s := st0
     b < 13 ∧ i < 2048 ∧ hasFunction b i = true) ∧
    (let i := 3
     let s := stSvc
     i < 8) :=
  by and_intros <;> decide +kernel

/-- The hypotheses of CommandProcessingCompletes can be met. -/
theorem test_hypotheses_of_CommandProcessingCompletes :
    (let r := 0
     let pk := (⟨18, 3, 2, rq0 [4, 5]⟩ : Packet)
     let s := st0.setRing 0 { st0.ring 0 with sqTail := 1 }
     r < 8 ∧ pk.req.src = .ring r ∧ serving s = true ∧ turnNow s = some r ∧ acceptChecks s pk = none ∧
     bit pk.req.flags 2 = false ∧ relayed pk.opcode pk.req.payload = false) ∧
    (let g := 0
     let k := ({ id := 4, opcode := 3, req := rq0 [4, 5], first := 7 } : Cmd)
     let s := { st0 with kcp := { st0.kcp with slots := [{ id := 4, opcode := 3, req := rq0 [4, 5], first := 7 }] } }
     g < 18 ∧ serving s = true ∧
     s.kcp.slots.find? (fun y => y.phase == .accepted && decide (groupOf y.opcode = g)) = some k ∧
     (groupsHeld s).contains g = false ∧ (k.conditional && decide (k.req.expGen < groupGen s g)) = false ∧
     k.first ≠ 0) ∧
    (let k := ({ id := 4, opcode := 0x0101, req := rq0 [], phase := .relayQueue } : Cmd)
     let s := { st0 with pwr := { st0.pwr with nuheifUp := true }, kcp := { st0.kcp with slots := [{ id := 4, opcode := 0x0101, req := rq0 [], phase := .relayQueue }] } }
     mailboxServed s = true ∧ (∀ y ∈ s.kcp.slots, y.phase ≠ .mailbox) ∧
     s.kcp.slots.find? (fun y => y.phase == .relayQueue && !unreached s y.opcode y.req.payload) = some k) ∧
    (let s := { st0 with kcp := { st0.kcp with slots := [{ id := 4, opcode := 0x0101, req := rq0 [], phase := .relayQueue, first := 7 }, { id := 5, opcode := 0x0101, req := rq0 [] }] } }
     (∀ y ∈ s.kcp.slots, relayLate s.now y = true → y.lost = false)) ∧
    (let k := ({ id := 4, opcode := 0x0101, req := rq0 [], phase := .mailbox } : Cmd)
     let u := 0
     let s := { st0 with acc := 100 * s1, pwr := { st0.pwr with nuheifUp := true }, kcp := { st0.kcp with slots := [{ id := 4, opcode := 0x0101, req := rq0 [], phase := .mailbox }] } }
     mailboxServed s = true ∧ nuheifWork s = some k ∧
     u = (if serviceInterval s = s.kcp.mbInterval then s.kcp.mbServed else 0) ∧ u < 8000) ∧
    (let k := ({ id := 4, opcode := 0x0101, req := rq0 [], phase := .mailbox, since := 7, accGen := 3 } : Cmd)
     let s := { st0 with kcp := { st0.kcp with slots := [{ id := 4, opcode := 0x0101, req := rq0 [], phase := .mailbox, since := 7, accGen := 3 }] } }
     s.kcp.slots.find? (pendingDue s.now) = some k ∧ k.lost = false) ∧
    (let k := 0
     let r := (⟨4, .ring 0, 3, 7, 0, 0, 1, [8], 7⟩ : Reply)
     let s := { st0 with kcp := { st0.kcp with replies := [⟨4, .ring 0, 3, 7, 0, 0, 1, [8], 7⟩] } }
     k < 8 ∧ s.kcp.replies.find? (fun y => decide (y.src = .ring k)) = some r ∧ s.kcp.linkUp = true ∧
     ((s.ring k).cqTail + 65536 - (s.ring k).cqHead) % 65536 < 2 ^ (s.ring k).log2 ∧
     bit (s.irqG 0).disabled k = false ∧ bit (s.irqG 0).insvc k = false) ∧
    (let i := 4
     let k := ({ id := 4, opcode := 3, req := rq0 [], first := 7 } : Cmd)
     let s := { st0 with kcp := { st0.kcp with slots := [{ id := 4, opcode := 3, req := rq0 [], first := 7 }] } }
     s.kcp.slots.find? (fun y => y.id == i && limitPassed s.now y) = some k ∧ k.lost = false) :=
  by and_intros <;> decide +kernel

/-- The hypotheses of SidebandAndSpdmComplete can be met. -/
theorem test_hypotheses_of_SidebandAndSpdmComplete :
    (let p := (⟨0x1D, 1, 0, true, false, true, [0x7F, 1, 2]⟩ : MctpPacket)
     let s := st0
     serving s = true ∧ p.dest = s.pwr.prov.smbAddr ∧ p.pec = true ∧ p.som = true ∧ p.eom = false ∧
     asmOf s p.tag = none ∧ s.kcp.assembly.length < 2) ∧
    (let r := (⟨4, .sideband, 3, 7, 0, 0, 1, [8], 7⟩ : Reply)
     let s := { st0 with kcp := { st0.kcp with replies := [⟨4, .sideband, 3, 7, 0, 0, 1, [8], 7⟩] } }
     firstSideband s = some r) ∧
    (let o := 1
     let i := 8
     let s := st0
     serving s = true ∧ o ≤ 1 ∧ 8 ≤ i ∧ i ≤ 254) ∧
    (let s := { st0 with kcp := { st0.kcp with eid := some 9 } }
     serving s = true) ∧
    (let m := 127
     let s := st0
     serving s = true ∧ m ∈ [0, 5, 6, 127]) ∧
    (let s := st0
     serving s = true) ∧
    (let s := st0
     serving s = true) ∧
    (let d := true
     let s := st0
     serving s = true) ∧
    (let d := true
     let s := setSpdm true { version := true } st0
     serving s = true ∧ (spdmOf s d).version = true) ∧
    (let d := true
     let s := setSpdm true { version := true, caps := true } st0
     serving s = true ∧ (spdmOf s d).caps = true) ∧
    (let d := true
     let s := setSpdm true { algos := true } st0
     serving s = true ∧ (spdmOf s d).algos = true) ∧
    (let d := true
     let c := 1
     let a := 5
     let n := 40
     let s := setSpdm true { algos := true } st0
     serving s = true ∧ (spdmOf s d).algos = true ∧ ((c = 0 ∨ (c = 1 ∧ owned s = true)))) ∧
    (let d := true
     let n := ([7, 7] : List Byte)
     let s := setSpdm true { algos := true } st0
     serving s = true ∧ (spdmOf s d).algos = true) ∧
    (let d := true
     let n := ([7, 7] : List Byte)
     let s := setSpdm true { algos := true } st0
     serving s = true ∧ (spdmOf s d).algos = true) ∧
    (let d := true
     let x := ([7, 7] : List Byte)
     let s := setSpdm true { algos := true } st0
     serving s = true ∧ (spdmOf s d).algos = true ∧ (spdmOf s d).session = false) ∧
    (let d := false
     let o := some ([1] : List Byte)
     let s := setSpdm false { keyed := true } st0
     serving s = true ∧ (spdmOf s d).keyed = true) ∧
    (let d := false
     let s := setSpdm false { session := true } st0
     serving s = true ∧ (spdmOf s d).session = true) ∧
    (let d := false
     let s := setSpdm false { session := true } st0
     serving s = true ∧ (spdmOf s d).session = true) ∧
    (let d := false
     let s := setSpdm false { session := true, mutual_ := true } { st0 with kcp := { st0.kcp with slots := [{ id := 4, opcode := 3, req := { rq0 [] with src := .session true } }, { id := 5, opcode := 3, req := rq0 [] }], replies := [⟨4, .session true, 3, 7, 0, 0, 1, [8], 7⟩] } }
     serving s = true ∧ (spdmOf s d).session = true) ∧
    (let d := false
     let s := setSpdm false { session := true, heard := 5 } st0
     (spdmOf s d).session = true ∧ (spdmOf s d).heard + 20000000000 ≤ s.now) :=
  by and_intros <;> decide +kernel

/-- The hypotheses of StartUpCompletes can be met. -/
theorem test_hypotheses_of_StartUpCompletes :
    (let s := { State.reset with log := { State.reset.log with nextSeq := 9 }, pwr := { State.reset.pwr with prov := { ownerGen := 3 }, ownerBits := 3, minSvn := [1, 2, 3] }, kcp := { g := 8, nextId := 5 } }
     s.pwr.released = false) ∧
    (let b := false
     let o := true
     let l := true
     let s := { State.reset with pwr := { State.reset.pwr with released := true }, osc := { State.reset.osc with mState := .mBoot } }
     s.osc.mState = .mBoot ∧ s.pwr.nuheifUp = false ∧ bootCopy s 0 = some b) ∧
    (let b := false
     let s := { State.reset with pwr := { State.reset.pwr with released := true } }
     s.pwr.released = true ∧ s.pwr.sState = 0 ∧ s.pwr.sImageOk = false ∧ bootCopy s 1 = some b) ∧
    (let s := { State.reset with pwr := { State.reset.pwr with released := true, nuheifUp := true, sImageOk := true }, osc := { State.reset.osc with mState := .mBoot }, tim := { State.reset.tim with tb := { State.reset.tim.tb with running := true, aplLock := true } } }
     s.osc.mState = .mBoot ∧ s.pwr.nuheifUp = true ∧ s.pwr.sImageOk = true ∧ s.tim.tb.running = true ∧
     s.tim.tb.aplLock = true) ∧
    (let s := { State.reset with pwr := { State.reset.pwr with released := true, sImageOk := true, provNext := some { ownerGen := 1, smbAddr := 9 } } }
     s.pwr.sImageOk = true ∧ s.pwr.sState = 0) ∧
    (let s := { State.reset with now := 2000000000, pwr := { State.reset.pwr with released := true, st := { State.reset.pwr.st with trial := true, preferB := true } } }
     s.pwr.st.trial = true ∧ s.pwr.st.startAt + 2000000000 ≤ s.now ∧ s.pwr.sState = 0) ∧
    (let s := { State.reset with pwr := { State.reset.pwr with released := true, st := {} } }
     s.pwr.released = true ∧ s.pwr.sState = 0 ∧ s.pwr.sImageOk = false ∧ bootCopy s 1 = none) ∧
    (let f := (⟨true, 0, 5, 9, false, [], [1]⟩ : ImageFile)
     let s := { State.reset with pwr := { State.reset.pwr with mRecovery := true }, sealing := { State.reset.sealing with armedUntil := some 5 } }
     s.pwr.mRecovery = true ∧ s.sealing.armedUntil ≠ none ∧
     imageAccepted s (s.pwr.minSvn.getD 0 0) ⟨true, f.verifies && decide (f.kind = 0), f.svn, f.version, f.countersigned, f.ownerOk, f.digest⟩ = true) ∧
    (let s := setCond 7 2 true { st0 with kcp := { st0.kcp with perst := true, linkUp := false, rings := [(0, { log2 := 4, enable := true, sqTail := 9, cls := some 1, lock := true }), (1, { log2 := 4, sqTail := 9 })] } }
     serving s = true ∧ (loopOf s 3 0).depth ≠ 1 ∧ s.kcp.perst = true) ∧
    (let e := 5
     let s := { st0 with pwr := { st0.pwr with released := true, restartAt := some (1, 5) } }
     s.pwr.restartAt = some (1, e) ∧ e ≤ s.now) :=
  by and_intros <;> decide +kernel

/-- The hypotheses of SystemAndImageCommandsComplete can be met. -/
theorem test_hypotheses_of_SystemAndImageCommandsComplete :
    (let rq := rq0 []
     let s := st0
     runs 0x0001 rq s = true ∧ rq.payload = []) ∧
    (let rq := rq0 [1, 2, 3]
     let s := st0
     runs 0x0003 rq s = true) ∧
    (let rq := rq0 []
     let s := st0
     runs 0x0006 rq s = true ∧ rq.payload = []) ∧
    (let rq := rq0 (le 4 0x3FF)
     let s := stSvc
     runs 0x0002 rq s = true ∧ rq.payload.length = 4 ∧ rd rq.payload 0 4 < 1024 ∧ (s.replica 0).anyGood = true ∧
     captureOf s s.kcp.nextId = none) ∧
    (let x := (⟨4, 9, [1, 2, 3]⟩ : Snap)
     let k := ({ id := 4, opcode := 2, req := rq0 (le 4 0x3FF), phase := .held, accAt := stSvc.now - 1000000 } : Cmd)
     let s := { stSvc with kcp := { stSvc.kcp with snaps := [⟨4, 9, [1, 2, 3]⟩], slots := [{ id := 4, opcode := 2, req := rq0 (le 4 0x3FF), phase := .held, accAt := stSvc.now - 1000000 }] } }
     s.kcp.slots = [k] ∧ snapDue s k = true ∧ s.kcp.snaps = [x] ∧ x.id = k.id ∧ k.lost = false ∧ k.noReply = false) ∧
    (let i := 500
     let rq := rq0 (le 2 2 ++ le 2 500)
     let s := (setLoop 2 500 { depth := 1 } st0).setPort 500 { st0.port 500 with cfg := { enable := false } }
     runs 0x0004 rq s = true ∧ rq.payload.length = 4 ∧ rd rq.payload 0 2 = 2 ∧ i = rd rq.payload 2 2 ∧ i < 1024 ∧
     (s.port i).cfg.enable = false ∧ s.kcp.slots = []) ∧
    (let k := 1
     let rq := rq0 ([1, 1, 0, 0] ++ le 4 0 ++ le 4 9 ++ zeros 4 ++ [7, 8])
     let s := st0
     runs 0x0008 rq s = true ∧ 17 ≤ rq.payload.length ∧ rq.payload.length ≤ 4080 ∧ k = rd rq.payload 0 1 ∧
     k ∈ [0, 1, 3] ∧ rd rq.payload 1 1 = 1 ∧ rd rq.payload 2 2 = 0 ∧ rd rq.payload 4 4 = 0 ∧
     rd rq.payload 8 4 ≤ stageLimit k ∧ rq.payload.length - 16 < rd rq.payload 8 4 ∧ rd rq.payload 12 4 = 0 ∧
     ((k ≠ 0 ∨ s.pwr.mRecovery = false ∨ armed s = true))) ∧
    (let rq := rq0 ([1, 9, 0, 0] ++ le 4 5)
     let q := withByte 1 0 rq
     let s := { st0 with pwr := { st0.pwr with st := { st0.pwr.st with b := { version := 5 }, staged := true } } }
     q = withByte 1 0 rq ∧ runs 0x0009 q s = true ∧ q.payload.length = 8 ∧ rd q.payload 0 1 = 1 ∧
     rd q.payload 2 2 = 0 ∧ s.pwr.st.staged = true ∧ rd q.payload 4 4 = (s.pwr.st.at_ (!s.pwr.st.preferB)).version) ∧
    (let rq := rq0 ([1, 9, 0, 0] ++ le 4 5)
     let q := withByte 1 1 rq
     let s := { st0 with pwr := { st0.pwr with st := { st0.pwr.st with b := { version := 5 }, staged := true } } }
     q = withByte 1 1 rq ∧ runs 0x0009 q s = true ∧ q.payload.length = 8 ∧ rd q.payload 0 1 = 1 ∧
     rd q.payload 2 2 = 0 ∧ s.pwr.st.staged = true ∧ rd q.payload 4 4 = (s.pwr.st.at_ (!s.pwr.st.preferB)).version) ∧
    (let rq := rq0 ([1, 9, 0, 0] ++ le 4 5)
     let q := withByte 1 2 rq
     let s := { st0 with pwr := { st0.pwr with st := { st0.pwr.st with b := { version := 5 }, staged := true } } }
     q = withByte 1 2 rq ∧ runs 0x0009 q s = true ∧ q.payload.length = 8 ∧ rd q.payload 0 1 = 1 ∧
     rd q.payload 2 2 = 0 ∧ s.pwr.st.staged = true ∧ rd q.payload 4 4 = (s.pwr.st.at_ (!s.pwr.st.preferB)).version) ∧
    (let k := 1
     let rq := rq0 ([1, 9, 0, 0] ++ le 4 5)
     let q := withByte 1 3 rq
     let s := { st0 with pwr := { st0.pwr with st := { st0.pwr.st with run := { version := 5, svn := 9 } } } }
     q = withByte 1 3 rq ∧ runs 0x0009 q s = true ∧ q.payload.length = 8 ∧ k = rd q.payload 0 1 ∧ k ≤ 2 ∧
     rd q.payload 2 2 = 0 ∧ rd q.payload 4 4 = (activeOf s k).1) :=
  by and_intros <;> decide +kernel

/-- The hypotheses of TimeBaseAndIntervalForms can be met. -/
theorem test_hypotheses_of_TimeBaseAndIntervalForms :
    (let rq := rq0 []
     let s := st0
     runs 0x0102 rq s = true ∧ rq.payload = []) ∧
    (let source := 1
     let freq := (281475 : Int)
     let s := st0.setTb { running := true, prevSource := 1, run := 5, ovenHigh := true, oscGood := [some 0, none, none] }
     s.tim.tb.running = true ∧ s.tim.tb.oscLoss = false ∧ s.tim.tb.windowStart + 10000000000 ≤ s.now ∧
     comparisonSource s = source ∧ source ≠ 0 ∧ s.tim.tb.prevSource = source) ∧
    (let n := 1047
     let edge := 799
     let s := st0.setTb { running := true }
     n < 1048 ∧ s.tim.tb.running = true ∧ (s.interp n).converting = none ∧ (s.interp n).freeAt ≤ edge) ∧
    (let n := 1047
     let edge := 799
     let hit := some 100
     let tk := 4
     let s := (st0.setTb { running := true }).setInterp 1047 { converting := some 4 }
     n < 1048 ∧ s.tim.tb.running = true ∧ (s.interp n).converting = some tk) ∧
    (let n := 1047
     let c := 127
     let e := 900
     let tk := 4
     let h := List.replicate 128 2048
     let s := st0.setInterp 1047 { converting := some 4, convTable := some (List.replicate 128 2048) }
     n < 1048 ∧ (s.interp n).converting = some tk ∧ (s.interp n).convTable = some h ∧ c < 128) ∧
    (let n := 1047
     let h := List.replicate 128 2047
     let s := st0.setInterp 1047 { running := true, rejectRun := 3 }
     n < 1048 ∧ (s.interp n).running = true ∧ refreshOk (s.interp n) h = false) :=
  by and_intros <;> decide +kernel

/-- The hypotheses of GnssAndReferenceForms can be met. -/
theorem test_hypotheses_of_GnssAndReferenceForms :
    (let rq := rq0 []
     let s := st0
     runs 0x0201 rq s = true ∧ rq.payload = []) ∧
    (let prn := 4
     let x := (⟨2045, -20, 100, 10⟩ : AcqCell)
     let y := (⟨2044, -19, 100, 10⟩ : AcqCell)
     let i := 0
     let s := st0
     overThreshold s.gnss.acqThr x = true ∧ overThreshold s.gnss.acqThr y = true ∧ freeChan s = some i ∧ i < 32) ∧
    (let prn := 4
     let x := (⟨2045, -20, 11, 10⟩ : AcqCell)
     let y := (⟨0, -19, 321, 10⟩ : AcqCell)
     let s := st0
     overThreshold s.gnss.acqThr x = false) ∧
    (let i := 31
     let s := st0.setGch 31 { prn := 4, state := .bitSync }
     i < 32 ∧ (s.gch i).state = .bitSync) ∧
    (let i := 31
     let sp := (⟨[⟨1, 0⟩], [⟨0, 1⟩]⟩ : IfSpan)
     let s := (st0.setGch 31 { prn := 4, state := .nav }) |> (fun s => { s with gnss := { s.gnss with cfg := { s.gnss.cfg with sampleRate := 32736000 } } })
     i < 32 ∧ s.gnss.clkFault = false ∧ loopsRun (s.gch i).state = true ∧ mpAvailable s.gnss.cfg = true) ∧
    (let i := 31
     let r := (⟨5, 100, 0, 5, [0, 0, 0, 0, 0, 0, 0, 0]⟩ : Correlation)
     let x := (⟨3, 16, 230, 0, 1⟩ : PathFit)
     let s := st0.setGch 31 { prn := 4, state := .nav }
     i < 32 ∧ fitOk r x = true) ∧
    (let i := 31
     let r := (⟨5, 100, 0, 5, [0, 0, 0, 0, 0, 0, 0, 0]⟩ : Correlation)
     let x := (⟨3, 16, 230, 100, 1⟩ : PathFit)
     let s := st0.setGch 31 { prn := 4, state := .nav, mpFitFail := 65535 }
     i < 32 ∧ fitOk r x = false) ∧
    (let prn := 1
     let d29 := false
     let d30 := true
     let w := lnavWords false true ([0x8B0000, 0x000028] ++ List.replicate 8 5)
     let tlm := 0x8B0000
     let how := 0x000028
     let l := List.replicate 8 (some 5)
     let s := st0
     1 ≤ prn ∧ prn ≤ 32 ∧ wordsOf d29 d30 w = some tlm :: some how :: l ∧ navBits tlm 1 8 = 0x8B ∧ l.length = 8 ∧
     navBits how 20 3 = 2) ∧
    (let g := (⟨[], 16368000000, 0, 5, none⟩ : GnssSecond)
     let second := 315964825
     let s := { st0 with now := 500000000, gnss := { st0.gnss with gpsAt := some (5, 0) } }
     dueSecond s = some second ∧ s.gnss.mode = .noPosition) ∧
    (let second := 5
     let at_ := 5 * s1
     let m := ({ second := 5, valid := true } : QuantMsg)
     let r := ({} : Rec)
     let s := { (st0.setChan 8 { last := some {} }) with gnss := { st0.gnss with history := [m] } }
     messageOf s second = some m ∧ m.valid = true ∧ (s.chan 8).last = some r ∧ r.invalid = false ∧
     within at_ (second * s1) (500 * ms1) = true) ∧
    (let rq := rq0 [19]
     let s := st0
     runs 0x0301 rq s = true ∧ rq.payload.length = 1 ∧ rd rq.payload 0 1 < 20) ∧
    (let i := 19
     let rq := rq0 ([19, 3, 2, 1] ++ le 4 250000000 ++ [9, 3, 0, 0] ++ le 4 100 ++ leI 8 (-655360000))
     let s := { st0 with sealing := { st0.sealing with windowAt := some 0 } }
     runs 0x0301 rq s = true ∧ rq.payload.length = 24 ∧ rd rq.payload 0 1 = i ∧ 8 ≤ i ∧ i < 20 ∧
     rd rq.payload 1 1 < 4 ∧ rd rq.payload 2 1 = 2 ∧ rd rq.payload 10 2 = 0 ∧ -655360000 ≤ rdI rq.payload 16 8 ∧
     rdI rq.payload 16 8 ≤ 655360000 ∧ windowOpen s = true ∧ s.log.fault = false) ∧
    (let rq := rq0 [19]
     let s := st0
     runs 0x0303 rq s = true ∧ rq.payload.length = 1 ∧ rd rq.payload 0 1 < 20) ∧
    (let rq := rq0 [3]
     let s := st0
     runs 0x0304 rq s = true ∧ rq.payload.length = 1 ∧ rd rq.payload 0 1 < 4) ∧
    (let rq := rq0 []
     let s := st0
     runs 0x0305 rq s = true ∧ rq.payload = []) ∧
    (let i := 10
     let ev := (⟨5 * s1, true, false, false, false, some 9, 3, none, 2, 1⟩ : SlotEvent)
     let s := st0.setSlot 10 { cfg := { enable := true } }
     let ph := (9 : Int)
     9 ≤ i ∧ i < 19 ∧ (s.slot i).cfg.enable = true ∧ (s.slot i).st.held = false ∧ inSafe s 0 i = false ∧
     ev.invalid = false ∧ ev.unlock = false ∧ eventPhase s i ev.at_ ev.phase = some ph) ∧
    (let ev := (⟨5 * s1, true, false, false, false, some 9, 0, none, 0, 0⟩ : SlotEvent)
     let s := st0.setChan 13 { lock := true }
     ev.invalid = false ∧ ev.unlock = false ∧ chanOk s 19 = true) ∧
    (let u := 1
     let bytes := ([1] : List Byte)
     let stop := 5
     let s := st0
     u < 2 ∧ (if u = 0 then s.ref.tod.fmt0 else s.ref.tod.fmt1) = 0 ∧ parseBinary bytes = none) :=
  by and_intros <;> decide +kernel

/-- The hypotheses of SelectionAndHoldoverForms can be met. -/
theorem test_hypotheses_of_SelectionAndHoldoverForms :
    (let rq := rq0 []
     let s := st0
     runs 0x0401 rq s = true ∧ rq.payload = []) ∧
    (let w := ({ slot := 3, decidedAt := 0, exempt := false } : Switching)
     let rq := rq0 [0, 0, 0, 0]
     let s := { st0.setSlot 0 { cfg := { enable := true } } with sel := { st0.sel with switching := some w } }
     runs 0x0403 rq s = true ∧ rq.payload.length = 4 ∧ rd rq.payload 0 1 < 20 ∧ rd rq.payload 1 1 ≤ 1 ∧
     rd rq.payload 2 2 = 0 ∧ (s.slot (rd rq.payload 0 1)).cfg.enable = true ∧
     (tget {} s.tst.loops (4096 * 5)).depth = 0 ∧ (tget {} s.tst.loops (4096 * 6 + rd rq.payload 0 1)).depth = 0 ∧
     s.sel.switching = some w) ∧
    (let rq := rq0 []
     let s := st0
     runs 0x0405 rq s = true ∧ rq.payload = []) ∧
    (let i := 8
     let p := ({ size := 65536, effective := 3 * ms1, kind := .switch 8, setsTime := true, bStep := 9 } : PendingStep)
     let rest := ([] : List PendingStep)
     let s := { st0 with acc := 3 * ms1, sel := { st0.sel with steps := [p] } }
     s.sel.steps = p :: rest ∧ p.effective ≤ s.acc ∧ p.kind = .switch i ∧ p.size ≠ 0 ∧
     ftOk (ftAdd s.acc p.size) = true ∧ ftOk (ftAdd p.effective p.size) = true) ∧
    (let i := 8
     let p := ({ size := 0, effective := 3 * ms1, kind := .switch 8, setsTime := true } : PendingStep)
     let rest := ([] : List PendingStep)
     let s := { st0 with acc := 3 * ms1, sel := { st0.sel with steps := [p] } }
     s.sel.steps = p :: rest ∧ p.effective ≤ s.acc ∧ p.kind = .switch i ∧ p.size = 0) ∧
    (let p := ({ size := -65536, effective := 3 * ms1, kind := .mirrored, bStep := 0 } : PendingStep)
     let rest := ([] : List PendingStep)
     let s := { st0 with acc := 3 * ms1, sel := { st0.sel with steps := [p] } }
     s.sel.steps = p :: rest ∧ p.effective ≤ s.acc ∧ p.kind = .mirrored ∧ p.size ≠ 0 ∧
     ftOk (ftAdd s.acc p.size) = true ∧ ftOk (ftAdd p.effective p.size) = true) ∧
    (let rq := rq0 [3]
     let s := st0
     runs 0x0501 rq s = true ∧ rq.payload.length = 1 ∧ rd rq.payload 0 1 < 4) ∧
    (let rq := rq0 [0xFF]
     let s := st0
     runs 0x0501 rq s = true ∧ rq.payload.length = 1 ∧ rd rq.payload 0 1 = 0xFF) ∧
    (let i := 2
     let rq := rq0 [2, 1, 3, 2, 0x77, 9, 1, 0, 0, 5, 0x00, 0xFF, 0x01, 0, 0, 0]
     let s := { st0 with sealing := { st0.sealing with windowAt := some 0 } }
     runs 0x0501 rq s = true ∧ rq.payload.length = 16 ∧ i = rd rq.payload 0 1 ∧ i < 4 ∧ rd rq.payload 1 1 ≤ 1 ∧
     (i ≠ 0 ∨ rd rq.payload 1 1 = 1) ∧ rd rq.payload 2 1 ≤ 3 ∧ rd rq.payload 3 1 ≤ 2 ∧ 8 ≤ rd rq.payload 4 1 ∧
     rd rq.payload 4 1 ≤ 0x77 ∧ rd rq.payload 6 1 ≤ 2 ∧ rd rq.payload 7 1 = 0 ∧ 1 ≤ rd rq.payload 8 2 ∧
     rd rq.payload 8 2 ≤ 1280 ∧ rdI rq.payload 10 2 < rdI rq.payload 12 2 ∧ rd rq.payload 14 2 = 0 ∧
     windowOpen s = true ∧ s.log.fault = false) ∧
    (let rq := rq0 [3, 1]
     let s := st0
     let m := (s.osci 3).learned
     runs 0x0503 rq s = true ∧ rq.payload.length = 2 ∧ rd rq.payload 0 1 < 4 ∧ rd rq.payload 1 1 ≤ 1 ∧
     m = (if rd rq.payload 1 1 = 0 then (s.osci (rd rq.payload 0 1)).inForce else (s.osci (rd rq.payload 0 1)).learned)) ∧
    (let i := 1
     let rq := rq0 ([1, 0, 20, 0] ++ zeros 68)
     let s := { (st0.setOsci 1 { inForce := { override := true } }) with sealing := { st0.sealing with windowAt := some 0 } }
     runs 0x0503 rq s = true ∧ rq.payload.length = 72 ∧ i = rd rq.payload 0 1 ∧ i < 4 ∧ rd rq.payload 1 1 < 32 ∧
     bit (rd rq.payload 1 1) 3 = false ∧ 0 ≤ rdI rq.payload 16 8 ∧ 0 ≤ rdI rq.payload 32 8 ∧
     0 ≤ rdI rq.payload 48 8 ∧ rd rq.payload 58 6 = 0 ∧ rd rq.payload 64 8 ≤ ftSec s.acc ∧ windowOpen s = true ∧
     s.log.fault = false) ∧
    (let rq := rq0 []
     let s := st0
     runs 0x0504 rq s = true ∧ rq.payload = []) :=
  by and_intros <;> decide +kernel

/-- The hypotheses of BoundSealComputationForms can be met. -/
theorem test_hypotheses_of_BoundSealComputationForms :
    (let rq := rq0 []
     let s := st0
     runs 0x0602 rq s = true ∧ rq.payload = []) ∧
    (let rq := rq0 [2, 0, 0, 0, 1, 0, 1, 0]
     let s := logPut 7 0 0 0 (logPut 8 0 0 0 st0)
     runs 0x0605 rq s = true ∧ rq.payload.length = 8 ∧ logOldest s ≤ rd rq.payload 0 4 ∧
     rd rq.payload 0 4 ≤ logNewest s ∧ 1 ≤ rd rq.payload 4 2 ∧ rd rq.payload 4 2 ≤ 125 ∧ rd rq.payload 6 1 = 1 ∧
     rd rq.payload 7 1 = 0) ∧
    (let rq := rq0 []
     let l := ([1, 2, 3] : List Byte)
     let s := { st0 with sealing := { st0.sealing with latch := some l, latchHost := true, latchSb := true } }
     runs 0x0606 rq s = true ∧ rq.payload = [] ∧ s.sealing.latch = some l ∧
     (if fromHost rq.src then s.sealing.latchHost else s.sealing.latchSb) = true) ∧
    (let type := 7
     let detail := 1
     let id := 2
     let value := 3
     let s := st0
     s.log.queue.length < 256) ∧
    (let die := 2
     let s := { st0 with bus := { st0.bus with replicas := [(2, { inLoss := false, missed := 3, everLeft := true })] } }
     die < 5) ∧
    (let tile := 3
     let s := { st0 with bus := { st0.bus with claims := [(3, { missed := 3, claim := 200 })] } }
     tile < 4 ∧ (s.claimPath tile).missed = 3) :=
  by and_intros <;> decide +kernel

/-- The hypotheses of FurrowForms can be met. -/
theorem test_hypotheses_of_FurrowForms :
    (let rq := rq0 (le 2 1023)
     let s := st0
     runs 0x0701 rq s = true ∧ rq.payload.length = 2 ∧ rd rq.payload 0 2 < 1024) ∧
    (let p := 0
     let rq := rq0 (furRecordOf 0 { boardTx := 6553600, boardUnc := 0xFA00 })
     let s := { st0 with sealing := { st0.sealing with windowAt := some 0 } }
     let n := furNorm 0 (furParse rq.payload)
     runs 0x0701 rq s = true ∧ rq.payload.length = 64 ∧ p = rd rq.payload 0 2 ∧ p < 1024 ∧
     n = furNorm p (furParse rq.payload) ∧ firstBad (furChecks s p rq.payload) = none ∧
     (s.port p).st.state = .disabled ∧ n.enable = false ∧ n.leaf = (furCfgOf s p).leaf ∧ windowOpen s = true ∧
     s.log.fault = false) ∧
    (let p := 256
     let rq := rq0 (furRecordOf 256 { enable := true })
     let s := { st0 with sealing := { st0.sealing with windowAt := some 0 } }
     let n := furNorm 256 (furParse rq.payload)
     runs 0x0701 rq s = true ∧ rq.payload.length = 64 ∧ p = rd rq.payload 0 2 ∧ p < 1024 ∧
     n = furNorm p (furParse rq.payload) ∧ firstBad (furChecks s p rq.payload) = none ∧
     (s.port p).st.state = .disabled ∧ (s.flt (portBlock p)).safe = 0 ∧ n.enable = true ∧
     n.leaf = (furCfgOf s p).leaf ∧ (furCfgOf s p).enable = false ∧ (furLoop s p).depth = 0 ∧ windowOpen s = true ∧
     s.log.fault = false) ∧
    (let p := 5
     let rq := rq0 (le 2 5 ++ [1, 0])
     let s := st0.setPort 5 { err := { crc := 4 } }
     runs 0x0702 rq s = true ∧ rq.payload.length = 4 ∧ p = rd rq.payload 0 2 ∧ p < 1024 ∧ rd rq.payload 2 1 = 1 ∧
     rd rq.payload 3 1 = 0) ∧
    (let first := 1020
     let n := 4
     let rq := rq0 (le 2 1020 ++ le 2 4)
     let s := st0
     runs 0x0703 rq s = true ∧ rq.payload.length = 4 ∧ first = rd rq.payload 0 2 ∧ n = rd rq.payload 2 2 ∧ 1 ≤ n ∧
     n ≤ 1024 ∧ first + n ≤ 1024) ∧
    (let first := 1020
     let n := 4
     let rq := rq0 (le 2 1020 ++ le 2 4 ++ [0, 1, 0, 0])
     let s := st0.setPort 1021 { st := { state := .serving } }
     runs 0x0703 rq s = true ∧ rq.payload.length = 8 ∧ first = rd rq.payload 0 2 ∧ n = rd rq.payload 2 2 ∧ 1 ≤ n ∧
     n ≤ 1024 ∧ first + n ≤ 1024 ∧ rd rq.payload 4 1 ≤ 1 ∧ rd rq.payload 5 1 = 1 ∧ rd rq.payload 6 2 = 0 ∧
     (portRange first n).filter (fun p => sends (s.port p).st.state && !(s.port p).cfg.leaf) ≠ []) ∧
    (let p := 7
     let rq := rq0 (le 2 7 ++ le 2 1 ++ [1, 0, 0, 0])
     let s := st0.setPort 7 { st := { state := .serving } }
     runs 0x0704 rq s = true ∧ rq.payload.length = 8 ∧ p = rd rq.payload 0 2 ∧ p < 1024 ∧ rd rq.payload 2 2 = 1 ∧
     rd rq.payload 4 1 = 1 ∧ rd rq.payload 5 3 = 0 ∧ (s.port p).st.state ≠ .disabled ∧ (s.port p).st.state ≠ .cal) ∧
    (let p := 7
     let rq := rq0 (le 2 7 ++ zeros 2)
     let s := st0.setPort 7 { st := { state := .serving } }
     runs 0x0706 rq s = true ∧ rq.payload.length = 4 ∧ p = rd rq.payload 0 2 ∧ p < 1024 ∧ rd rq.payload 2 2 = 0 ∧
     (s.port p).st.state ≠ .disabled ∧ (s.port p).mb.rx = []) ∧
    (let p := 3
     let d := (655360 : Int)
     let s := st0.setPort 3 { cfg := { leaf := true }, st := { state := .cal }, cal := { running := true, meas := [1] } }
     p < 1024 ∧ (s.port p).cal.running = true ∧ (s.port p).cal.meas.length < 16 ∧ (s.port p).cfg.leaf = true ∧
     (s.port p).st.state = .cal ∧ (s.port p).cal.startedAt + 1000 * (s.port p).cal.meas.length ≤ s.now) ∧
    (let p := 3
     let k := 2
     let s := st0.setPort 3 { st := { state := .serving }, cal := { running := true, rejectRun := 3, meas := [0, 0, 9000, 0, 0, 0, 0, 0, 0, 0, 0, 0, 0, 0, 0, 0] } }
     p < 1024 ∧ (s.port p).cal.running = true ∧ (s.port p).cal.initial = false ∧ (s.port p).cal.meas.length = 16 ∧
     k < 4 ∧ calTight (calQuantity (s.port p).cal.meas k) = false ∧ (s.port p).cal.rejectRun = 3) ∧
    (let p := 3
     let s := { st0.setPort 3 { st := { state := .serving }, lastEpoch := some 3, lastEpochAt := 999999999000, bout := 9 } with bus := { st0.bus with replicas := [(1, { anyGood := true, at_ := 1000000000000 * 65536, past := some (999999999600 * 65536, ⟨6553600, 3500 * ns1⟩), frame := { marker := 4 * us1 } })] } }
     let e := 4
     let at_ := 1000000000000
     p < 1024 ∧ epochDue s p = some (e, at_) ∧ sends (s.port p).st.state = true ∧ (s.port p).cfg.leaf = false ∧
     isDark s p e = true) ∧
    (let p := 3
     let b := (⟨[0], 5, false, false, false, false⟩ : RxBurst)
     let s := st0.setPort 3 { cfg := { leaf := true }, st := { state := .tracking } }
     p < 1024 ∧ (s.port p).cfg.leaf = true ∧ (s.port p).st.state = .tracking ∧
     lineFrame b.lean false (sdMax b.lean (if b.lean then 0 else (s.port p).cfg.mbMax)) b.groups = none) :=
  by and_intros <;> decide +kernel

/-- The hypotheses of EthernetForms can be met. -/
theorem test_hypotheses_of_EthernetForms :
    (let rq := rq0 [15]
     let s := st0
     runs 0x0801 rq s = true ∧ rq.payload.length = 1 ∧ rd rq.payload 0 1 < 16) ∧
    (let p := 3
     let rq := rq0 ([3, 1, 2, 0, 0xEE, 5, 0, 0] ++ be 6 2 ++ [0, 0])
     let s := st0.setEthP 3 { cfg := { flags := 1, rate := 3 }, state := 3 }
     runs 0x0801 rq s = true ∧ rq.payload.length = 16 ∧ p = rd rq.payload 0 1 ∧ p < 16 ∧ rd rq.payload 1 1 < 8 ∧
     bit (rd rq.payload 1 1) 0 = true ∧ bit (s.ethP p).cfg.flags 0 = true ∧
     rd rq.payload 2 1 ≠ (s.ethP p).cfg.rate ∧ rd rq.payload 2 1 ≤ 3 ∧ rd rq.payload 3 1 ≤ 1 ∧
     1518 ≤ rd rq.payload 4 2 ∧ rd rq.payload 4 2 ≤ 9216 ∧ rd rq.payload 6 2 = 0 ∧
     bit (rd rq.payload 8 1) 0 = false ∧ rd rq.payload 14 2 = 0 ∧ (s.flt 5).safe = 0 ∧ sending s p = false) ∧
    (let p := 3
     let rq := rq0 ([3, 1, 2, 0, 0xEE, 5, 0, 0] ++ be 6 2 ++ [0, 0])
     let s := st0.setEthP 3 { cfg := { flags := 1, rate := 3 }, state := 3, inFlight := some { port := 3, ends := 10 ^ 18 } }
     runs 0x0801 rq s = true ∧ rq.payload.length = 16 ∧ p = rd rq.payload 0 1 ∧ p < 16 ∧ rd rq.payload 1 1 < 8 ∧
     bit (rd rq.payload 1 1) 0 = true ∧ bit (s.ethP p).cfg.flags 0 = true ∧
     rd rq.payload 2 1 ≠ (s.ethP p).cfg.rate ∧ rd rq.payload 2 1 ≤ 3 ∧ rd rq.payload 3 1 ≤ 1 ∧
     1518 ≤ rd rq.payload 4 2 ∧ rd rq.payload 4 2 ≤ 9216 ∧ rd rq.payload 6 2 = 0 ∧
     bit (rd rq.payload 8 1) 0 = false ∧ rd rq.payload 14 2 = 0 ∧ (s.flt 5).safe = 0 ∧ sending s p = true) ∧
    (let p := 3
     let rq := rq0 [3, 1]
     let s := st0.setEthP 3 { ups := 4, rxOverflow := 3, state := 3 }
     runs 0x0802 rq s = true ∧ rq.payload.length = 2 ∧ p = rd rq.payload 0 1 ∧ p < 16 ∧ rd rq.payload 1 1 = 1) ∧
    (let rq := rq0 [15, 10]
     let s := st0
     runs 0x0803 rq s = true ∧ rq.payload.length = 2 ∧ rd rq.payload 0 1 < 16 ∧ rd rq.payload 1 1 ≤ 10) ∧
    (let rq := rq0 [15]
     let s := st0
     runs 0x0804 rq s = true ∧ rq.payload.length = 1 ∧ rd rq.payload 0 1 < 16) ∧
    (let rq := rq0 ([0, 15, 3, 1] ++ zeros 44)
     let s := st0
     runs 0x0805 rq s = true ∧ rq.payload.length = 48 ∧ rd rq.payload 0 1 = 0 ∧ rd rq.payload 1 1 < 16 ∧
     rd rq.payload 2 1 ≤ 3 ∧ rd rq.payload 3 1 ≤ 1 ∧ fecFits (rd rq.payload 2 1) (rd rq.payload 3 1) = true) ∧
    (let p := 3
     let s := st0.setEthP 3 { state := 1, cfg := { flags := 3, rate := 2 } }
     p < 16 ∧ (s.ethP p).state = 1 ∧ bit (s.ethP p).cfg.flags 1 = true) ∧
    (let p := 3
     let q := 5
     let en := 4
     let quanta := ([0, 0, 100] : List Nat)
     let s := st0.setEthP 3 { state := 3, pausedUntil := [(5, 77)] }
     p < 16 ∧ q < 8 ∧ bit en q = false ∧ (s.ethP p).state = 3 ∧ (s.ethP p).lpiUntil ≤ s.now) ∧
    (let p := 3
     let s := st0.setEthP 3 { state := 3 }
     p < 16 ∧ (s.ethP p).state ≠ 0) :=
  by and_intros <;> decide +kernel

/-- The hypotheses of PacketServiceForms can be met. -/
theorem test_hypotheses_of_PacketServiceForms :
    (let rq := rq0 [3]
     let s := stSvc
     runs 0x0901 rq s = true ∧ rq.payload.length = 1 ∧ rd rq.payload 0 1 < 16) ∧
    (let rq := rq0 [7]
     let s := stSvc
     runs 0x0902 rq s = true ∧ rq.payload.length = 1 ∧ rd rq.payload 0 1 < 8) ∧
    (let d := 0
     let rq := rq0 ([0, 49, 0, 0] ++ le 2 8 ++ le 2 0 ++ [1, 127, 128, 0, 0, 0, 0, 1, 0, 0xF9, 0, 0] ++ le 4 300 ++ le 4 1048576 ++ zeros 4)
     let s := stSvc
     runs 0x0902 rq s = true ∧ rq.payload.length = 32 ∧ d = rd rq.payload 0 1 ∧ d < 8 ∧
     (domChecks rq.payload).all (·.2) = true ∧ bit (s.dom d).cfg.flags 0 = true ∧
     bit (domParse rq.payload).flags 0 = true ∧ (domParse rq.payload).profile = (s.dom d).cfg.profile ∧
     (domParse rq.payload).domain = (s.dom d).cfg.domain ∧ (domParse rq.payload).tenant = (s.dom d).cfg.tenant ∧
     (domParse rq.payload).spp = (s.dom d).cfg.spp ∧ (domParse rq.payload).ports = (s.dom d).cfg.ports ∧
     loopHeld s 0 = false) ∧
    (let d := 0
     let rq := rq0 ([0, 48, 0, 0] ++ le 2 8 ++ le 2 0 ++ [1, 127, 128, 0, 0, 0, 0, 1, 0, 0xF9, 0, 0] ++ le 4 300 ++ le 4 1048576 ++ zeros 4)
     let s := stEnt { isStatic := true, grants := 3 }
     runs 0x0902 rq s = true ∧ rq.payload.length = 32 ∧ d = rd rq.payload 0 1 ∧ d < 8 ∧
     (domChecks rq.payload).all (·.2) = true ∧ bit (s.dom d).cfg.flags 0 = true ∧
     bit (domParse rq.payload).flags 0 = false) ∧
    (let rq := rq0 (be 16 0x0400 ++ [48, 1] ++ le 2 7)
     let s := stEnt { grants := 2, tenant := 6 }
     runs 0x0904 rq s = true ∧ rq.payload.length = 20 ∧ bit (rd rq.payload 16 1) 3 = false ∧
     rd rq.payload 17 1 = 1 ∧ rd rq.payload 18 2 < 4096 ∧
     (s.svc.granary.filter (fun e => e.2.valid && e.2.tenant == rd rq.payload 18 2)) = []) ∧
    (let rq := rq0 (be 16 0x0400 ++ [48, 2] ++ le 2 7)
     let s := stSvc
     runs 0x0904 rq s = true ∧ rq.payload.length = 20 ∧ bit (rd rq.payload 16 1) 3 = false ∧
     rd rq.payload 17 1 = 2 ∧ rd rq.payload 18 2 < 4096 ∧ domEntries s (rd rq.payload 16 1 % 8) = []) ∧
    (let l := [9]
     let n := 64
     let rq := rq0 ([1, 0] ++ le 2 64 ++ le 4 9 ++ zeros 20)
     let s := stEnt { grants := 2 }
     runs 0x0905 rq s = true ∧ rq.payload.length = 28 ∧ rd rq.payload 0 1 = 1 ∧ rd rq.payload 1 1 = 0 ∧
     n = rd rq.payload 2 2 ∧ 1 ≤ n ∧ n ≤ 64 ∧ rd rq.payload 4 4 < 1048576 ∧ rd rq.payload 8 16 = 0 ∧
     rd rq.payload 24 4 = 0 ∧
     l = (s.svc.granary.filter (fun e => e.2.valid && decide (rd rq.payload 4 4 ≤ e.1))).map (·.1)) ∧
    (let rq := rq0 []
     let s := stSvc
     runs 0x0906 rq s = true ∧ rq.payload = []) ∧
    (let rq := rq0 [1]
     let s := stSvc
     runs 0x0907 rq s = true ∧ rq.payload.length = 1 ∧ rd rq.payload 0 1 ≤ 1) ∧
    (let p := 15
     let f := { frame0 .unknown with tags := [(0x8100, 5)] }
     let s := { stSvc with eth := [(15, { state := 3, tagMiss := 4294967295 })] }
     p < 16 ∧ f.good = true ∧ (s.ethP p).state = 3 ∧ (s.ethP p).lpiUntil ≤ s.now ∧
     f.length ≤ (s.ethP p).cfg.maxFrame ∧ f.body ≠ .pauseFrame ∧ (s.ethP p).rxUsed + f.length ≤ 393216 ∧
     classify s p f = .error true) ∧
    (let n := 0
     let tg := 1
     let sd := 9
     let f := frame0 (.neighborSolicitation tg sd)
     let p := 3
     let d := 8
     let tm := 100 * s1
     let b := 64
     let s := task0 0 (.rx 3 8 (100 * s1) 64 f) stSvc
     n < 768 ∧ (taskOf s n).bind rxOf = some (p, d, tm, b, f) ∧ f.body = .neighborSolicitation tg sd) ∧
    (let n := 5
     let kind := .delayResp
     let log := -8
     let dur := 1000
     let s := task0 5 (rx0 0 (.ptpL2 (msg0 (.signaling (.request kind log dur))))) stSvc
     let x := (ptpIn s n).getD in0
     n < 768 ∧ ptpIn s n = some x ∧ x.m.body = .signaling (.request kind log dur) ∧ versionOk x.m = true ∧
     bit (s.dom x.d).cfg.flags 5 = true ∧ (authCfg s x.d).1 = 0 ∧ x.required = false ∧ x.transport = 0 ∧
     (takeToken true false x.key.address s).1 = true ∧ log < (s.dom x.d).cfg.minLog) ∧
    (let n := 5
     let kind := .sync
     let i := 9
     let s := task0 5 (rx0 0 (.ptpL2 (msg0 (.signaling (.cancel kind))))) (stEnt { grants := 2 })
     let x := (ptpIn s n).getD in0
     n < 768 ∧ ptpIn s n = some x ∧ x.m.body = .signaling (.cancel kind) ∧ versionOk x.m = true ∧
     (authCfg s x.d).1 = 0 ∧ x.required = false ∧ x.entry = some i ∧ (s.entry i).isStatic = false ∧
     (s.entry i).grants - ((s.entry i).grants &&& 2 ^ kindBit kind) = 0) ∧
    (let n := 5
     let s := task0 5 (rx0 0 (.ptpL2 (msg0 .delayReq))) stSvc
     let x := (ptpIn s n).getD in0
     n < 768 ∧ ptpIn s n = some x ∧ x.m.body = .delayReq ∧ versionOk x.m = true ∧ (authCfg s x.d).1 = 0 ∧
     x.required = false ∧ isGroup s x.port x.frame = false ∧ x.entry = none) ∧
    (let n := 5
     let s := task0 5 (.rx 3 0 (100 * s1) 64 { frame0 (.ptpL2 (msg0 .delayReq)) with dst := 0x011B19000000 }) { stSvc with svc := { stSvc.svc with dom := [(0, { cfg := { flags := 33, ports := 8 } })] } }
     let x := (ptpIn s n).getD in0
     n < 768 ∧ ptpIn s n = some x ∧ x.m.body = .delayReq ∧ versionOk x.m = true ∧ (authCfg s x.d).1 = 0 ∧
     x.required = false ∧ isGroup s x.port x.frame = true ∧ bit (s.dom x.d).cfg.flags 4 = false) ∧
    (let i := 9
     let s := stEnt { grants := 7, expiry := 5, isStatic := true }
     i < 1048576 ∧ (s.entry i).valid = true ∧ (s.entry i).grants ≠ 0 ∧ (s.entry i).grants < 8 ∧
     reached (ftSec (replicaTime s 0)) (s.entry i).expiry = true ∧ (s.entry i).isStatic = true) ∧
    (let n := 5
     let m := ntp0
     let f := frame0 (.ntpUdp false 9 1 123 m)
     let p := 3
     let tm := 100 * s1
     let b := 64
     let d := 8
     let dst := 1
     let sport := 123
     let v6 := false
     let src := 9
     let s := task0 5 (.rx 3 8 (100 * s1) 64 f) { stSvc with svc := { stSvc.svc with limits := { ntpBurst := 0, kodMode := 0 } } }
     n < 768 ∧ (taskOf s n).bind rxOf = some (p, d, tm, b, f) ∧ f.body = .ntpUdp v6 src dst sport m ∧
     m.nts = false ∧ ntpOk m = true ∧ (takeToken false v6 src s).1 = false ∧ s.svc.limits.kodMode = 0) :=
  by and_intros <;> decide +kernel

/-- The hypotheses of UpstreamAndTransmissionForms can be met. -/
theorem test_hypotheses_of_UpstreamAndTransmissionForms :
    (let n := 700
     let i := 0
     let p := 3
     let tm := 100 * s1
     let b := 64
     let o := 99 * s1
     let f := frame0 (.ptpL2 (msg0 (.sync true (99 * s1))))
     let m := msg0 (.sync true (99 * s1))
     let s := task0 700 (up0 (.sync true (99 * s1))) stUp
     n < 768 ∧ (taskOf s n).bind rxOf = some (p, 9 + i, tm, b, f) ∧ ptpOf f = some m ∧ m.body = .sync true o ∧
     versionOk m = true ∧ upOn s i = true ∧ (authCfg s (9 + i)).1 = 0 ∧ (s.upD i).chosen.isSome = true ∧
     candOf (s.upD i) f m = (s.upD i).chosen ∧ (s.upD i).lastDelay = none) ∧
    (let n := 700
     let i := 0
     let p := 3
     let tm := 100 * s1
     let b := 64
     let o := 99 * s1
     let sm := (5 : Int)
     let tlv := (some 7 : Option Nat)
     let at_ := 999900000000
     let f := frame0 (.ptpL2 (msg0 (.sync true (99 * s1))))
     let m := msg0 (.sync true (99 * s1))
     let s := task0 700 (up0 (.sync true (99 * s1))) (stUp.setUpD 0 { stUp.upD 0 with lastDelay := some (5, some 7, 999900000000) })
     n < 768 ∧ (taskOf s n).bind rxOf = some (p, 9 + i, tm, b, f) ∧ ptpOf f = some m ∧ m.body = .sync true o ∧
     versionOk m = true ∧ upOn s i = true ∧ (authCfg s (9 + i)).1 = 0 ∧ (s.upD i).chosen.isSome = true ∧
     candOf (s.upD i) f m = (s.upD i).chosen ∧ (s.upD i).lastDelay = some (sm, tlv, at_) ∧
     s.now ≤ at_ + 4 * logNs (s.upD i).cfg.delayLog) ∧
    (let n := 700
     let i := 0
     let p := 3
     let tm := 100 * s1
     let b := 64
     let o := 99 * s1
     let c2 := (3 : Int)
     let t2 := 98 * s1
     let bd := (some 9 : Option Nat)
     let at_ := 999990000000
     let f := frame0 (.ptpL2 (msg0 (.followUp (99 * s1))))
     let m := msg0 (.followUp (99 * s1))
     let s := task0 700 (up0 (.followUp (99 * s1))) (stUp.setUpD 0 { stUp.upD 0 with pendingSync := some (7, 3, 98 * s1, some 9, 999990000000) })
     n < 768 ∧ (taskOf s n).bind rxOf = some (p, 9 + i, tm, b, f) ∧ ptpOf f = some m ∧ m.body = .followUp o ∧
     versionOk m = true ∧ upOn s i = true ∧ (authCfg s (9 + i)).1 = 0 ∧ (s.upD i).chosen.isSome = true ∧
     candOf (s.upD i) f m = (s.upD i).chosen ∧
     (s.upD i).pendingSync.map (fun y => (y.1, y.2.1)) = some (m.seq, c2) ∧
     (s.upD i).pendingSync.map (fun y => (y.2.2.1, y.2.2.2.1)) = some (t2, bd) ∧
     (s.upD i).pendingSync.map (fun y => y.2.2.2.2) = some at_ ∧ s.now ≤ at_ + logNs (s.upD i).cfg.syncLog) ∧
    (let n := 700
     let i := 0
     let p := 3
     let tm := 100 * s1
     let b := 64
     let t4 := 99 * s1
     let t3 := 98 * s1
     let ck := 0
     let f := frame0 (.ptpL2 (msg0 (.delayResp (99 * s1) 0)))
     let m := msg0 (.delayResp (99 * s1) 0)
     let s := task0 700 (up0 (.delayResp (99 * s1) 0)) (stUp.setUpD 0 { stUp.upD 0 with delayReqOut := some (7, 98 * s1) })
     n < 768 ∧ (taskOf s n).bind rxOf = some (p, 9 + i, tm, b, f) ∧ ptpOf f = some m ∧ m.body = .delayResp t4 ck ∧
     versionOk m = true ∧ upOn s i = true ∧ (authCfg s (9 + i)).1 = 0 ∧ (s.upD i).chosen.isSome = true ∧
     candOf (s.upD i) f m = (s.upD i).chosen ∧ (s.upD i).delayReqOut = some (m.seq, t3)) ∧
    (let n := 700
     let i := 0
     let p := 3
     let tm := 100 * s1
     let b := 64
     let kind := .delayResp
     let log := -4
     let c := 0
     let f := frame0 (.ptpL2 (msg0 (.signaling (.grant kind log 0))))
     let m := msg0 (.signaling (.grant kind log 0))
     let s := task0 700 (up0 (.signaling (.grant kind log 0))) stUp
     n < 768 ∧ (taskOf s n).bind rxOf = some (p, 9 + i, tm, b, f) ∧ ptpOf f = some m ∧
     m.body = .signaling (.grant kind log 0) ∧ versionOk m = true ∧ upOn s i = true ∧ (authCfg s (9 + i)).1 = 0 ∧
     candOf (s.upD i) f m = some c) ∧
    (let n := 700
     let i := 0
     let p := 3
     let tm := 100 * s1
     let b := 64
     let kind := .announce
     let c := 0
     let f := frame0 (.ptpL2 (msg0 (.signaling (.cancel kind))))
     let m := msg0 (.signaling (.cancel kind))
     let s := task0 700 (up0 (.signaling (.cancel kind))) stUp
     n < 768 ∧ (taskOf s n).bind rxOf = some (p, 9 + i, tm, b, f) ∧ ptpOf f = some m ∧
     m.body = .signaling (.cancel kind) ∧ versionOk m = true ∧ upOn s i = true ∧ (authCfg s (9 + i)).1 = 0 ∧
     candOf (s.upD i) f m = some c) ∧
    (let d := 0
     let p := 3
     let kind := .sync
     let tm := 999000000000
     let log := (0 : Int)
     let flow := flowMulticast 0 3
     let s := { stSvc with eng := { stSvc.eng with sched := [(.multicast 0 3 .sync, 999000000000)] } }
     schedWant s (.multicast d p kind) = some (log, flow) ∧ s.eng.sched = [(.multicast d p kind, tm)] ∧
     tm + logNs log ≤ s.now ∧ (s.engine (placed s (bucketOf s flow))).input.length < 192) ∧
    (let n := 9
     let i := 9
     let k := key0
     let s := task0 9 (.sched (.unicast key0 .sync)) (stEnt { grants := 2, syncSeq := 65535, expiry := 2000 })
     let e := s.entry 9
     n < 768 ∧ (taskOf s n).map (·.msg) = some (.sched (.unicast k .sync)) ∧ e = s.entry i ∧ e.key = k ∧
     grantLive s k .sync = some i ∧ e.authRequired = false ∧ (authCfg s e.key.domain).1 = 0) ∧
    (let n := 9
     let i := 9
     let k := key0
     let s := task0 9 (.sched (.unicast key0 .announce)) (stEnt { grants := 1, annSeq := 65535, expiry := 2000 })
     let e := s.entry 9
     n < 768 ∧ (taskOf s n).map (·.msg) = some (.sched (.unicast k .announce)) ∧ e = s.entry i ∧ e.key = k ∧
     grantLive s k .announce = some i ∧ e.authRequired = false ∧ (authCfg s e.key.domain).1 = 0) ∧
    (let n := 9
     let d := 0
     let p := 3
     let s := task0 9 (.sched (.multicast 0 3 .sync)) stSvc
     let q := 0
     n < 768 ∧ (taskOf s n).map (·.msg) = some (.sched (.multicast d p .sync)) ∧
     (schedWant s (.multicast d p .sync)).isSome = true ∧ d < 8 ∧ q = tget 0 (s.dom d).mcastSyncSeq p ∧
     (authCfg s d).1 = 0) ∧
    (let n := 9
     let d := 9
     let p := 3
     let s := task0 9 (.sched (.multicast 9 3 .delayResp)) stUp
     let u := s.upD 0
     n < 768 ∧ (taskOf s n).map (·.msg) = some (.sched (.multicast d p .delayResp)) ∧
     (schedWant s (.multicast d p .delayResp)).isSome = true ∧ 9 ≤ d ∧ u = s.upD (d - 9) ∧ (authCfg s d).1 = 0) ∧
    (let n := 9
     let y := { tx0 (.sync 7 false) with fields := { time := 99 * s1 } }
     let s := task0 9 (.sched (.followUp { tx0 (.sync 7 false) with fields := { time := 99 * s1 } })) stSvc
     n < 768 ∧ (taskOf s n).map (·.msg) = some (.sched (.followUp y)) ∧ domOn s y.svcDomain y.port = true ∧
     servable y.fields.time = true ∧ y.alg = 0) ∧
    (let p := 3
     let q := 0
     let f := tx0 (.announce 4)
     let s := stTx [tx0 (.announce 4)]
     p < 16 ∧ q < 8 ∧ (s.ethP p).committedQ = [] ∧ (s.ethP p).state = 3 ∧ (s.ethP p).cfgNext = none ∧
     (s.ethP p).wireFree + 20 * wirePs (s.ethP p).cfg.rate ≤ s.now * 1000 ∧
     commitCandidate (settleWire p s) p = none ∧ topQueue s (s.ethP p) (fun l => l.any plain) = some q ∧
     (tget [] (s.ethP p).queues q).find? plain = some f ∧ grantHolds s f (ftSec (replicaTime s 0)) = true) ∧
    (let p := 3
     let f := { tx0 (.ntp ntp0 false) with own := true, committed := some 999999999999999, ends := 1000000000000001 }
     let s := stSvc.setEthP 3 { stSvc.ethP 3 with inFlight := some { tx0 (.ntp ntp0 false) with own := true, committed := some 999999999999999, ends := 1000000000000001 } }
     p < 16 ∧ (s.ethP p).inFlight = some f ∧ f.port = p ∧ s.now * 1000 < f.ends ∧ f.committed.isSome = true ∧
     f.stomped = false ∧ f.record = none) ∧
    (let n := 9
     let id := 7
     let e := ({ key := ⟨0x0400, 3, 0⟩, transport := 0, isStatic := true, tenant := 5 } : Entry)
     let y := ({ id := 7, opcode := 0x0903, req := rq0 [] } : Cmd)
     let s := (task0 9 (.cmd 7 (.add { key := ⟨0x0400, 3, 0⟩, transport := 0, isStatic := true, tenant := 5 })) stSvc) |> (fun s => { s with kcp := { s.kcp with slots := [{ id := 7, opcode := 0x0903, req := rq0 [] }] } })
     let k0 := (s.thread 9).task.getD {}
     n < 768 ∧ taskOf s n = some k0 ∧ k0.msg = .cmd id (.add e) ∧ s.kcp.slots.find? (fun z => z.id == id) = some y ∧
     y.lost = false ∧ y.noReply = false ∧ bit (s.dom e.key.domain).cfg.flags 0 = true ∧ findEntry s e.key = none ∧
     entriesOf s e.key.domain < (s.dom e.key.domain).cfg.maxClients ∧ (placeFor s e.key).isSome = true) ∧
    (let n := 9
     let id := 7
     let i := 9
     let e := ({ key := ⟨0x0400, 3, 0⟩, transport := 0, isStatic := true, tenant := 5, authRequired := true } : Entry)
     let y := ({ id := 7, opcode := 0x0903, req := rq0 [] } : Cmd)
     let s := (task0 9 (.cmd 7 (.add { key := ⟨0x0400, 3, 0⟩, transport := 0, isStatic := true, tenant := 5, authRequired := true })) (stEnt { grants := 2 })) |> (fun s => { s with kcp := { s.kcp with slots := [{ id := 7, opcode := 0x0903, req := rq0 [] }] } })
     let k0 := (s.thread 9).task.getD {}
     n < 768 ∧ taskOf s n = some k0 ∧ k0.msg = .cmd id (.add e) ∧ s.kcp.slots.find? (fun z => z.id == id) = some y ∧
     y.lost = false ∧ y.noReply = false ∧ bit (s.dom e.key.domain).cfg.flags 0 = true ∧ findEntry s e.key = some i) ∧
    (let n := 9
     let id := 7
     let i := 9
     let tn := 0
     let k := key0
     let y := ({ id := 7, opcode := 0x0904, req := rq0 [] } : Cmd)
     let s := (task0 9 (.cmd 7 (.remove 0 key0 0)) (stEnt { grants := 0 })) |> (fun s => { s with kcp := { s.kcp with slots := [{ id := 7, opcode := 0x0904, req := rq0 [] }] }, svc := { s.svc with removals := [⟨7, 1, 0⟩] } })
     let k0 := (s.thread 9).task.getD {}
     n < 768 ∧ taskOf s n = some k0 ∧ k0.msg = .cmd id (.remove 0 k tn) ∧
     s.kcp.slots.find? (fun z => z.id == id) = some y ∧ y.lost = false ∧ y.noReply = false ∧
     s.svc.removals = [⟨id, 1, 0⟩] ∧ findEntry s k = some i ∧ (s.entry i).key = k ∧ (s.entry i).grants = 0) :=
  by and_intros <;> decide +kernel

/-- The hypotheses of EngineForms can be met. -/
theorem test_hypotheses_of_EngineForms :
    (let rq := rq0 (le 4 2 ++ le 4 3 ++ [2, 0, 0, 0] ++ [9])
     let s := { st0 with eng := { st0.eng with staging := { total := 3, bytes := [8, 8] } } }
     runs 0x0A02 rq s = true ∧ 13 ≤ rq.payload.length ∧ rq.payload.length ≤ 4080 ∧ rd rq.payload 8 1 = 2 ∧
     rd rq.payload 9 3 = 0 ∧ rd rq.payload 4 4 ≤ 24576 ∧ s.eng.staging.bytes ≠ [] ∧
     rd rq.payload 0 4 = s.eng.staging.bytes.length ∧ rd rq.payload 4 4 = s.eng.staging.total ∧
     rd rq.payload 0 4 + (rq.payload.length - 12) = rd rq.payload 4 4 ∧ s.eng.activation = none) ∧
    (let rq := rq0 []
     let s := st0
     runs 0x0A04 rq s = true ∧ rq.payload = []) ∧
    (let n := 767
     let k := 3
     let next := (none : Option (Nat × Nat))
     let s := stSvc.setThread 767 { task := some {}, wait := some ⟨4, 0, 2000000000000⟩, late := [5, 3] }
     n < 768 ∧ (s.thread n).wait.all (fun w => decide (w.cls ≠ k)) = true ∧ k ∈ (s.thread n).late) ∧
    (let s := stSvc.setThread 0 { task := some {}, wait := some ⟨8, 0, 2000000000000⟩ }
     deadlocked (censusSample s) = true) ∧
    (let e := 95
     let img := (⟨7, 0, 0, []⟩ : SowerImage)
     let s := { (stSvc.setEngine 95 { state := 3 }) with eng := { (stSvc.setEngine 95 { state := 3 }).eng with activation := some ⟨7, 0, 0, []⟩ } }
     e < 96 ∧ e % 8 = 7 ∧ s.eng.activation = some img ∧ engineIdle s e = true ∧
     s.eng.engines.filter (fun y => decide (y.2.state = 3)) = [(e, s.engine e)] ∧ twf {} s.eng.engines = true) ∧
    (let b := 3
     let e := 0
     let occ := List.replicate 96 50
     let s := stSvc
     s.eng.loopAt + 1000000 ≤ s.now ∧ s.eng.policy.rebalance = true ∧ moveAllowed s occ (b, e) = false) ∧
    (let mv := [(1, 1)]
     let occ := ([] : List Nat)
     let s := { stSvc with eng := { stSvc.eng with loadUnmet := true, policy := { rebalance := false } } }
     s.eng.loopAt + 1000000 ≤ s.now ∧ s.eng.policy.rebalance = false) ∧
    (let k := 11
     let o := 7500
     let s := stSvc
     k < 12 ∧ o ≤ 7500) ∧
    (let k := 11
     let o := 2499
     let s := { stSvc with eng := { stSvc.eng with policy := { minAwake := 12 } } }
     k < 12 ∧ o < 2500 ∧ 2 ≤ ((List.range 12).filter (stays s)).length ∧
     o * (awakeClusters s).length < 5000 * ((awakeClusters s).length - 1) ∧
     ((countedAwake s ≤ s.eng.policy.minAwake ∨ pinnedAwake s k = true))) ∧
    (let b := 16
     let cw := List.replicate 17 4095
     let gw := List.replicate 17 63
     let s := { st0 with arb := { st0.arb with next := some (16, List.replicate 17 4095, List.replicate 17 63) } }
     s.arb.window ≠ some (windowMarker s) ∧ s.arb.next = some (b, cw, gw)) :=
  by and_intros <;> decide +kernel

/-- The hypotheses of KeyForms can be met. -/
theorem test_hypotheses_of_KeyForms :
    (let i := 15
     let j := 2
     let rq := rq0 [15, 2, 0, 0]
     let s := { st0 with key := { st0.key with nts := [(2, slot0 8 7 1), (15, slot0 8 8 1)] } }
     runs 0x0B06 rq s = true ∧ rq.payload.length = 4 ∧ i = rd rq.payload 0 1 ∧ i < 16 ∧ j = rd rq.payload 1 1 ∧
     j < 16 ∧ j ≠ i ∧ rd rq.payload 2 2 = 0 ∧ (keySlot s 3 i).valid = true ∧ (keySlot s 3 j).valid = true ∧
     (keySlot s 3 j).role ≠ 2 ∧ s.key.rngFault = false ∧ s.key.wrapGen + s.key.invalidating.length < 65535) ∧
    (let i := 4095
     let s := { stSvc with key := { stSvc.key with epoch := 4294967295, tenants := [(4095, slot0 5 0 0)] } }
     epochNow s = (s.key.epoch + 1) % 4294967296 ∧ twf {} s.key.tenants = true ∧ (s.tenant i).valid = true) ∧
    (let s := { st0 with key := { st0.key with position := 16383 } }
     s.key.paused = false ∧ s.pwr.sState ≠ 0 ∧ s.key.lastVisit + 15625000 ≤ s.now ∧ s.key.position = 16383) :=
  by and_intros <;> decide +kernel

/-- The hypotheses of EvidenceForms can be met. -/
theorem test_hypotheses_of_EvidenceForms :
    (let rq := rq0 []
     let s := st0
     runs 0x0C01 rq s = true ∧ rq.payload = []) ∧
    (let rq := evRq 0
     let q := withByte 0 3 rq
     let g := (⟨1, 4095, 20, 8192, 60000⟩ : EvdCfg)
     let s := stEv { ns := [ns0], store := 2, staged := [sheaf0] }
     let x := sheaf0
     q = withByte 0 3 rq ∧ runs 0x0C01 q s = true ∧ q.payload.length = 24 ∧ rd q.payload 1 1 < 2 ∧
     rd q.payload 2 2 < 4096 ∧ rd q.payload 4 1 ≤ 20 ∧ rd q.payload 5 1 = 0 ∧ rd q.payload 6 2 ≤ 8192 ∧
     10 ≤ rd q.payload 8 4 ∧ rd q.payload 8 4 ≤ 60000 ∧ rd q.payload 12 4 = 0 ∧
     g = (⟨rd q.payload 1 1, rd q.payload 2 2, rd q.payload 4 1, rd q.payload 6 2, rd q.payload 8 4⟩ : EvdCfg) ∧
     s.evd.store = 2 ∧ filling s = some x ∧ x.records.length < 4064 ∧ s.evd.noStaging.count = 0 ∧
     s.evd.noKey.count = 0 ∧ s.evd.marksDue = []) ∧
    (let rq := evRq 0
     let q := withByte 0 4 rq
     let g := (⟨1, 4095, 20, 8192, 60000⟩ : EvdCfg)
     let s := stEv { ns := [ns0], store := 2 }
     q = withByte 0 4 rq ∧ runs 0x0C01 q s = true ∧ q.payload.length = 24 ∧ rd q.payload 1 1 < 2 ∧
     rd q.payload 2 2 < 4096 ∧ rd q.payload 4 1 ≤ 20 ∧ rd q.payload 5 1 = 0 ∧ rd q.payload 6 2 ≤ 8192 ∧
     10 ≤ rd q.payload 8 4 ∧ rd q.payload 8 4 ≤ 60000 ∧ rd q.payload 12 4 = 0 ∧
     g = (⟨rd q.payload 1 1, rd q.payload 2 2, rd q.payload 4 1, rd q.payload 6 2, rd q.payload 8 4⟩ : EvdCfg) ∧
     filling s = none) ∧
    (let rq := rq0 []
     let s := st0
     runs 0x0C04 rq s = true ∧ rq.payload = []) ∧
    (let i := 5
     let rq := rq0 (le 8 5 ++ le 4 1024 ++ le 2 64 ++ [1, 0])
     let s := stEv { staged := [{ sheaf0 with phase := .sealed, header := [] }], nextIndex := 6 }
     let x := { sheaf0 with phase := .sealed, header := [] }
     runs 0x0C05 rq s = true ∧ rq.payload.length = 16 ∧ i = rd rq.payload 0 8 ∧ oldestIndex s ≤ i ∧ i < nextSeal s ∧
     rd rq.payload 8 4 % 32 = 0 ∧ rd rq.payload 8 4 < 131072 ∧ rd rq.payload 12 2 % 32 = 0 ∧
     32 ≤ rd rq.payload 12 2 ∧ rd rq.payload 12 2 ≤ 4032 ∧ rd rq.payload 8 4 + rd rq.payload 12 2 ≤ 131072 ∧
     rd rq.payload 14 1 < 4 ∧ rd rq.payload 15 1 = 0 ∧ s.evd.staged.find? (fun y => y.index == i) = some x) ∧
    (let i := 5
     let rq := rq0 (le 8 5 ++ le 4 1024 ++ le 2 64 ++ [1, 0])
     let s := stEv { ns := [ns0], staged := [{ sheaf0 with index := 4, phase := .sealed }], nextIndex := 6 }
     runs 0x0C05 rq s = true ∧ rq.payload.length = 16 ∧ i = rd rq.payload 0 8 ∧ oldestIndex s ≤ i ∧ i < nextSeal s ∧
     rd rq.payload 8 4 % 32 = 0 ∧ rd rq.payload 8 4 < 131072 ∧ rd rq.payload 12 2 % 32 = 0 ∧
     32 ≤ rd rq.payload 12 2 ∧ rd rq.payload 12 2 ≤ 4032 ∧ rd rq.payload 8 4 + rd rq.payload 12 2 ≤ 131072 ∧
     rd rq.payload 14 1 < 4 ∧ rd rq.payload 15 1 = 0 ∧ s.evd.staged.find? (fun y => y.index == i) = none ∧
     ringSize s ≠ 0) ∧
    (let i := 5
     let k := 0
     let tg := 7
     let r := ({ kind := 1, pending := some 7 } : EvRec)
     let s := stEv { staged := [{ sheaf0 with records := [{ kind := 1, pending := some 7 }] }] }
     k < 4064 ∧ recordAt s (i, k) = some r ∧ r.kind = 1 ∧ r.pending = some tg ∧ r.started = false ∧
     messageGone s (i, k) tg = true) ∧
    (let n := 0
     let o := (⟨.sheaf 5 true, true, false, 0⟩ : NvOp)
     let i := 5
     let x := { sheaf0 with phase := .writing }
     let s := stEv { ns := [ns0], store := 2, staged := [{ sheaf0 with phase := .writing }], ops := [⟨.sheaf 5 true, true, false, 0⟩] }
     (s.evd.ops.filter (fun o => o.issued))[n]? = some o ∧ o.kind = .sheaf i true ∧
     s.evd.staged.find? (fun y => y.index == i) = some x ∧ s.evd.stopping = false) ∧
    (let n := 0
     let o := (⟨.super 0 { store := 5 }, true, false, 0⟩ : NvOp)
     let k := 0
     let b := ({ store := 5 } : Super)
     let s := stEv { ns := [ns0], storeId := 5, ops := [⟨.super 0 { store := 5 }, true, false, 0⟩] }
     (s.evd.ops.filter (fun o => o.issued))[n]? = some o ∧ o.kind = .super k b ∧
     writingSupers (retire o s) = false ∧ s.evd.store = 0 ∧ b.store = s.evd.storeId ∧ s.evd.superDue = false) ∧
    (let n := 0
     let o := (⟨.super 0 { store := 5 }, true, false, 0⟩ : NvOp)
     let k := 0
     let b := ({ store := 5 } : Super)
     let s := stEv { ns := [ns0], storeId := 5, ops := [⟨.super 0 { store := 5 }, true, false, 0⟩] }
     (s.evd.ops.filter (fun o => o.issued))[n]? = some o ∧ o.kind = .super k b ∧ o.retried = false) ∧
    (let ok_ := true
     let n := 0
     let o := (⟨.read 9 5, true, true, 0⟩ : NvOp)
     let c := 9
     let i := 5
     let k := ({ id := 9, opcode := 0x0C05, req := rq0 (le 8 5 ++ le 4 1024 ++ le 2 64 ++ [1, 0]) } : Cmd)
     let s := { (stEv { ns := [ns0], ops := [⟨.read 9 5, true, true, 0⟩] }) with kcp := { st0.kcp with slots := [{ id := 9, opcode := 0x0C05, req := rq0 (le 8 5 ++ le 4 1024 ++ le 2 64 ++ [1, 0]) }] } }
     (s.evd.ops.filter (fun o => o.issued))[n]? = some o ∧ o.kind = .read c i ∧ ((ok_ = true ∨ o.retried = true)) ∧
     s.kcp.slots.find? (fun y => y.id == c) = some k ∧ k.lost = false ∧ k.noReply = false) ∧
    (let o := (⟨.sheaf 5 true, true, true, 0⟩ : NvOp)
     let i := 5
     let d := true
     let s := stEv { ns := [ns0], store := 2, staged := [{ sheaf0 with phase := .writing }], ops := [⟨.sheaf 5 true, true, true, 0⟩] }
     s.evd.ops.find? (opLate s) = some o ∧ o.retried = true ∧ o.kind = .sheaf i d) ∧
    (let l := ([] : List NvmeFound)
     let s := stEv { ns := [ns0], store := 1, enumDue := true }
     s.evd.enumDue = true ∧
     (enumerated l s).evd.ns.find? (fun n => completeSet (enumerated l s) (superStore n)) = none) :=
  by and_intros <;> decide +kernel

/-- The hypotheses of TandemForms can be met. -/
theorem test_hypotheses_of_TandemForms :
    (let rq := rq0 []
     let s := st0
     runs 0x0D01 rq s = true ∧ rq.payload = []) ∧
    (let rq := rq0 []
     let s := stTan { own := 100 }
     runs 0x0D04 rq s = true ∧ rq.payload = []) ∧
    (let i := 9
     let k := ({ id := 9, opcode := 0x0D03, req := rq0 [] } : Cmd)
     let s := { (stTan { own := 100, claimsHeld := [9] }) with kcp := { st0.kcp with slots := [{ id := 9, opcode := 0x0D03, req := rq0 [] }] } }
     tanOn s = true ∧ s.tan.claimsHeld = [i] ∧ s.kcp.slots.find? (fun y => y.id == i) = some k ∧ k.lost = false ∧
     k.noReply = false) ∧
    (let s := stTan { own := 100, partner := 200, missedRun := 3, lineMissRun := 3 }
     tanOn s = true ∧ s.tan.frameClaim = none ∧ s.tan.missedRun = 3 ∧ s.tan.lineMissRun = 3) ∧
    (let s := stTan { own := 100, linkUp := true, linkBad := 3 }
     tanOn s = true ∧ s.tan.linkBad = 3) :=
  by and_intros <;> decide +kernel

/-- The hypotheses of OutputAndPowerForms can be met. -/
theorem test_hypotheses_of_OutputAndPowerForms :
    (let rq := rq0 [3]
     let s := st0
     runs 0x0E01 rq s = true ∧ rq.payload.length = 1 ∧ rd rq.payload 0 1 < 4) ∧
    (let rq := rq0 [7]
     let s := stSyn []
     runs 0x0E03 rq s = true ∧ rq.payload.length = 1 ∧ rd rq.payload 0 1 < 8) ∧
    (let i := 7
     let n := (⟨true, 1, 0, 0, 0, 10⟩ : PpsCfg)
     let rq := rq0 ([7, 1, 0, 0] ++ leI 8 0 ++ le 4 0 ++ le 8 10)
     let s := stSyn [(7, { synced := true })]
     runs 0x0E03 rq s = true ∧ rq.payload.length = 24 ∧ i = rd rq.payload 0 1 ∧ 4 ≤ i ∧ i < 8 ∧
     n = (⟨true, rd rq.payload 1 1, rd rq.payload 2 1, rdI rq.payload 4 8, rd rq.payload 12 4, rd rq.payload 16 8⟩ : PpsCfg) ∧
     n.flags < 4 ∧ n.src < 4 ∧ rd rq.payload 3 1 = 0 ∧ 0 ≤ n.offset ∧
     n.offset * (s.apll n.src).cfg.fvco ≤ n.divider * 65536000 ∧ n.width = 0 ∧
     dividerOk (s.apll n.src).cfg.fvco n.divider = true) ∧
    (let rq := rq0 [7]
     let s := stSyn []
     runs 0x0E04 rq s = true ∧ rq.payload.length = 1 ∧ rd rq.payload 0 1 < 8) ∧
    (let i := 0
     let n := (⟨0, 0, 1, 100, 1, 1024, 100 * s1, 1024⟩ : SclkCfg)
     let rq := rq0 ([0, 0, 0, 1] ++ le 4 100 ++ le 4 1 ++ le 4 1024 ++ leTime (100 * s1) ++ le 4 1024 ++ zeros 12)
     let s := stSyn [(8, { started := true })]
     runs 0x0E04 rq s = true ∧ rq.payload.length = 48 ∧ i = rd rq.payload 0 1 ∧ i < 8 ∧
     n = (⟨rd rq.payload 1 1, rd rq.payload 2 1, rd rq.payload 3 1, rd rq.payload 4 4, rd rq.payload 8 4, rd rq.payload 12 4, rdTime rq.payload 16, rd rq.payload 32 4⟩ : SclkCfg) ∧
     n = { sclkRec s i with flags := clrBit (sclkRec s i).flags 0 } ∧ n.flags < 4 ∧ n.src < 4 ∧
     ((n.markerOut = 255 ∨ (n.markerOut < 4 ∧ outMarker s n.markerOut = true ∧ (ppsRec s n.markerOut).src = n.src))) ∧
     sclkOk (s.apll n.src).cfg.fvco n = true ∧ 1 ≤ n.frameA ∧ 2 * n.frameA ≤ n.frameB ∧ rd rq.payload 16 4 = 0 ∧
     rd rq.payload 20 4 % 1000 = 0 ∧ rd rq.payload 20 4 < 1000000000 ∧ 1024 ≤ n.lead ∧ n.lead ≤ 16777216 ∧
     rd rq.payload 36 12 = 0 ∧ bit (sclkRec s i).flags 0 = true) ∧
    (let rq := rq0 []
     let s := stSyn []
     runs 0x0E05 rq s = true ∧ rq.payload = []) ∧
    (let i := 0
     let k := 100
     let e := ((100 * s1 : Nat) : Int)
     let s := stSyn [(0, { labels := [(100, 101)] })]
     i < 4 ∧ pulseDue s i = some (k, e) ∧ (s.outp i).pulseAt < e ∧ outMarker s i = false ∧ outDrives s i = true ∧
     labelEmitted (s.outp i).labels k = true) ∧
    (let s := { (stSyn []) with syn := { (stSyn []).syn with loopErr := [(0, some 5)] } }
     outPath s = false) ∧
    (let i := 0
     let s := stSyn []
     i < 8 ∧ outEnabled s (8 + i) = true ∧ (sclkRec s i).markerOut < 4 ∧
     (sclkRec s i).epochStart ≤ replicaTime s 0 ∧ (s.outp (8 + i)).pulseAt < (sclkRec s i).epochStart ∧
     (s.outp (8 + i)).synced = false ∧ outDrives s (8 + i) = false) ∧
    (let s := stSyn []
     s.syn.syncArmed = false) ∧
    (let rq := rq0 [1]
     let s := st0
     runs 0x0F01 rq s = true ∧ rq.payload = [1]) ∧
    (let rq := rq0 [2]
     let s := st0
     runs 0x0F01 rq s = true ∧ rq.payload = [2]) ∧
    (let fl := 600
     let ce := 800
     let rq := rq0 ([1, 0, 0, 0] ++ le 2 600 ++ le 2 800 ++ le 2 50 ++ zeros 6)
     let s := { st0 with pwr := { st0.pwr with vset := 820 } }
     runs 0x0F01 rq s = true ∧ rq.payload.length = 16 ∧ rd rq.payload 0 1 = 1 ∧ rd rq.payload 1 3 = 0 ∧
     rd rq.payload 10 6 = 0 ∧ fl = rd rq.payload 4 2 ∧ ce = rd rq.payload 6 2 ∧ voltageOk fl = true ∧
     voltageOk ce = true ∧ fl ≤ ce ∧ 10 ≤ rd rq.payload 8 2 ∧ rd rq.payload 8 2 ≤ 200 ∧
     ((s.pwr.vset < fl ∨ ce < s.pwr.vset))) ∧
    (let rq := rq0 []
     let s := { st0 with pwr := { st0.pwr with vset := 700 } }
     runs 0x0F02 rq s = true ∧ rq.payload = [] ∧ s.pwr.avsFault = false) ∧
    (let p99 := 100
     let ms := ([40, 41, 42, 43, 44, 45] : List Nat)
     let s := { st0 with pwr := { st0.pwr with vset := 700, belowRun := 9, handledAt := st0.now } }
     s.pwr.sState ≠ 0 ∧ s.pwr.lastWindow + 100000 ≤ s.now ∧ s.pwr.avsFault = false ∧ s.pwr.held = [] ∧ p99 ≤ 65535 ∧
     p99 < 7 * s.pwr.target ∧ 9 ≤ s.pwr.belowRun ∧ s.pwr.floor + 5 ≤ s.pwr.vset ∧ s.pwr.vset ≤ s.pwr.ceiling) ∧
    (let p99 := 100
     let ms := ([] : List Nat)
     let ok := true
     let s := { st0 with pwr := { st0.pwr with lastWindow := st0.now } }
     ((s.pwr.sState = 0 ∨ s.now < s.pwr.lastWindow + 100000))) ∧
    (let alert := false
     let s := st0
     ((s.pwr.sState = 0 ∨ (alert = false ∧ s.pwr.avsFail < 3) ∨ s.pwr.avsFault = true))) ∧
    (let die := 3
     let temp := (109 * 128 : Int)
     let s := st0
     die < 6 ∧ temp ≤ 110 * 128) ∧
    (let a := (1 : Int)
     let b := (1 : Int)
     let c := (1 : Int)
     let d := (1 : Int)
     let e := (1 : Int)
     let f := (100 * 128 : Int)
     let s := { st0 with pwr := { st0.pwr with tempCrit := true } }
     (∃ x ∈ [a, b, c, d, e, f], x = -32768 ∨ 100 * 128 ≤ x)) :=
  by and_intros <;> decide +kernel

/-- The hypotheses of TestForms can be met. -/
theorem test_hypotheses_of_TestForms :
    (let rq := rq0 ([2, 3] ++ le 2 500 ++ le 4 60 ++ zeros 24)
     let i := 500
     let d := 3
     let s := st0
     runs 0x1001 rq s = true ∧ rq.payload.length = 32 ∧ rd rq.payload 0 1 = 2 ∧ d = rd rq.payload 1 1 ∧
     i = rd rq.payload 2 2 ∧ 1 ≤ d ∧ d ≤ 3 ∧ i < 1024 ∧ 1 ≤ rd rq.payload 4 4 ∧ rd rq.payload 4 4 ≤ 3600 ∧
     (loopOf s 2 i).depth = 0 ∧ ((d = 3 ∨ (s.port i).st.state = .disabled))) ∧
    (let rq := { rq0 ([3, 1] ++ le 2 0 ++ le 4 60 ++ zeros 24) with src := .sideband, priv := 1 }
     let s := { st0 with pwr := { st0.pwr with prov := { st0.pwr.prov with plainClass := 1 } } }
     runs 0x1001 rq s = true ∧ rq.payload.length = 32 ∧ rd rq.payload 0 2 = 0x0103 ∧ rd rq.payload 2 2 = 0 ∧
     1 ≤ rd rq.payload 4 4 ∧ rd rq.payload 4 4 ≤ 3600 ∧ (loopOf s 3 0).depth = 0 ∧ onSideband rq.src = true) ∧
    (let rq := rq0 ([4, 2] ++ le 2 0 ++ le 4 60 ++ zeros 24)
     let d := 2
     let s := st0
     runs 0x1001 rq s = true ∧ rq.payload.length = 32 ∧ rd rq.payload 0 1 = 4 ∧ d = rd rq.payload 1 1 ∧ 1 ≤ d ∧
     d ≤ 2 ∧ rd rq.payload 2 2 = 0 ∧ 1 ≤ rd rq.payload 4 4 ∧ rd rq.payload 4 4 ≤ 3600 ∧ (loopOf s 4 0).depth = 0 ∧
     s.evd.store ≤ 1) ∧
    (let rq := rq0 ([6, 1] ++ le 2 3 ++ le 4 60 ++ leI 8 (-5) ++ zeros 16)
     let i := 3
     let s := st0
     runs 0x1001 rq s = true ∧ rq.payload.length = 32 ∧ rd rq.payload 0 2 = 0x0106 ∧ i = rd rq.payload 2 2 ∧ i < 8 ∧
     1 ≤ rd rq.payload 4 4 ∧ rd rq.payload 4 4 ≤ 3600 ∧ -32768000000000 ≤ rdI rq.payload 8 8 ∧
     rdI rq.payload 8 8 ≤ 32768000000000 ∧ (loopOf s 6 i).depth = 0 ∧ s.sel.st.selected ≠ some i) ∧
    (let rq := rq0 ([5, 1] ++ le 2 0 ++ le 4 60 ++ leI 8 77 ++ zeros 16)
     let s := { st0 with gnss := { st0.gnss with mode := .survey } }
     runs 0x1001 rq s = true ∧ rq.payload.length = 32 ∧ rd rq.payload 0 2 = 0x0105 ∧ rd rq.payload 2 2 = 0 ∧
     1 ≤ rd rq.payload 4 4 ∧ rd rq.payload 4 4 ≤ 3600 ∧
     (∀ i ∈ List.range 8, rd rq.payload (16 + i) 1 ≤ 32 ∧ (rd rq.payload (16 + i) 1 ≠ 0 → 20 ≤ rd rq.payload (24 + i) 1 ∧ rd rq.payload (24 + i) 1 ≤ 55 ∧ (s.nav (rd rq.payload (16 + i) 1)).adopted.isSome = true)) ∧
     (loopOf s 5 0).depth = 0 ∧ s.sel.st.selected ≠ some 8 ∧ s.gnss.mode ≠ .noPosition) ∧
    (let rq := rq0 ([7, 2] ++ le 2 0 ++ le 4 60 ++ zeros 24)
     let d := 2
     let s := st0
     runs 0x1001 rq s = true ∧ rq.payload.length = 32 ∧ rd rq.payload 0 1 = 7 ∧ d = rd rq.payload 1 1 ∧ 1 ≤ d ∧
     d ≤ 2 ∧ rd rq.payload 2 2 = 0 ∧ 1 ≤ rd rq.payload 4 4 ∧ rd rq.payload 4 4 ≤ 3600 ∧ (loopOf s 7 0).depth = 0 ∧
     tanOn s = false) ∧
    (let rq := rq0 ([2, 1] ++ le 2 500)
     let f := 2
     let i := 500
     let s := setLoop 2 500 { depth := 3, sent := 9 } st0
     runs 0x1002 rq s = true ∧ rq.payload.length = 4 ∧ f = rd rq.payload 0 1 ∧ i = rd rq.payload 2 2 ∧ 1 ≤ f ∧
     f ≤ 7 ∧ rd rq.payload 1 1 = 1 ∧ i < instances f ∧ (loopOf s f i).depth ≠ 0) ∧
    (let f := 2
     let i := 500
     let s := setLoop 2 500 { depth := 3, sent := 9, endsAt := 10000000000000 } st0
     (((loopOf s f i).endsAt = 0 ∨ s.now < (loopOf s f i).endsAt))) ∧
    (let f := 1
     let i := 5
     let x := (70 : Int)
     let l := ({ depth := 2, sent := 9 } : Loop)
     let s := setLoop 1 5 { depth := 2, sent := 9 } st0
     l = loopOf s f i ∧ selfTraffic f l.depth = true ∧ ((f = 2 ∨ l.depth ≠ 3)) ∧ l.lastUnit + 10000 ≤ s.now ∧
     l.errors < sat32) ∧
    (let i := 5
     let x := (70 : Int)
     let l := ({ depth := 3, sent := 9 } : Loop)
     let s := setLoop 1 5 { depth := 3, sent := 9 } st0
     l = loopOf s 1 i ∧ l.depth = 3 ∧ l.lastUnit + 10000 ≤ s.now) ∧
    (let f := 1
     let i := 5
     let g := true
     let l := ({ depth := 3, sent := 9 } : Loop)
     let s := setLoop 1 5 { depth := 3, sent := 9 } st0
     l = loopOf s f i ∧ selfTraffic f l.depth = true ∧ l.lastUnit + 10000 ≤ s.now) ∧
    (let s := setLoop 3 0 { depth := 1 } st0
     (loopOf s 3 0).depth ≠ 0) ∧
    (let k := 2
     let e := 0
     let b := ({ state := 1, instance_ := 3, startAt := 5 } : Bist)
     let s := setBist 2 { state := 1, instance_ := 3, startAt := 5 } st0
     k ∈ [2, 3] ∧ b = bistOf s k ∧ b.state = 1 ∧ b.startAt + bistLeast k ≤ s.now) ∧
    (let k := 2
     let e := 0
     let s := setBist 2 { state := 1, startAt := st0.now } st0
     1 ≤ k ∧ k ≤ 5 ∧ (((bistOf s k).state ≠ 1 ∨ s.now < (bistOf s k).startAt + bistLeast k))) ∧
    (let s := st0
     ((s.tst.reported = none ∨ (s.replica 0).frame.testUnlock = false))) ∧
    (let s := { st0 with tst := { st0.tst with reported := some (st0.now + 1) } }
     (∀ e ∈ s.tst.reported.toList, s.now < e)) :=
  by and_intros <;> decide +kernel

/-- The hypotheses of RegisterForms can be met. -/
theorem test_hypotheses_of_RegisterForms :
    (let rq := rq0 [4]
     let q := withByte 1 0 rq
     let g := 4
     let s := irqArrive 4 3 st0
     q = withByte 1 0 rq ∧ runs 0x1103 q s = true ∧ q.payload = [BitVec.ofNat 8 g] ∧ g ≤ 8) ∧
    (let rq := rq0 ([7, 0, 0, 0] ++ le 4 0x10)
     let b := 7
     let w := 0
     let s := setSticky 7 4 st0
     runs 0x1104 rq s = true ∧ rq.payload.length = 8 ∧ b = rd rq.payload 0 1 ∧ w = rd rq.payload 1 1 ∧
     rd rq.payload 2 2 = 0 ∧ b ≤ 12 ∧ w ≤ 63 ∧ maskOk s b w (rd rq.payload 4 4) = true) ∧
    (let rq := rq0 [5]
     let i := 5
     let s := st0
     runs 0x0F03 rq s = true ∧ rq.payload.length = 1 ∧ i = rd rq.payload 0 1 ∧ i ≤ 63) ∧
    (let rq := rq0 (le 2 0x400 ++ le 2 4 ++ [1] ++ zeros 3)
     let f := 0x400
     let n := 4
     let s := perfAdd 0x401 3 st0
     runs 0x0F04 rq s = true ∧ rq.payload.length = 8 ∧ f = rd rq.payload 0 2 ∧ n = rd rq.payload 2 2 ∧ 1 ≤ n ∧
     n ≤ 256 ∧ f + n ≤ 0x840 ∧ rd rq.payload 4 1 = 1 ∧ rd rq.payload 5 3 = 0) ∧
    (let r := 0
     let x := 17
     let s := st0
     r < 8 ∧ serving s = true ∧ (s.ring r).enable = true ∧
     2 ^ (s.ring r).log2 < (x % 65536 + 65536 - (s.ring r).sqHead) % 65536) ∧
    (let r := 0
     let x := 9
     let s := { st0 with kcp := { st0.kcp with rings := [(0, { enable := true, log2 := 4, cqTail := 6, cqHead := 2 })] } }
     r < 8 ∧ serving s = true ∧
     ((s.ring r).cqTail + 65536 - (s.ring r).cqHead) % 65536 < (x % 65536 + 65536 - (s.ring r).cqHead) % 65536) ∧
    (let r := 0
     let x := 4 * 2 ^ 24
     let s := st0
     r < 8 ∧ serving s = true ∧ (s.ring r).enable = true ∧ bit x 31 = false ∧ x / 2 ^ 24 % 16 = (s.ring r).log2) ∧
    (let w := 0
     let x := 0xFF
     let s := setSticky 0 2 st0
     w < 64 ∧ serving s = true) ∧
    (let o := 0x200010
     let s := st0
     slowOffset o = true ∧ serving s = true) ∧
    (let o := 0x20
     let x := 0x12345678
     let e := 7
     let s := st0
     o < 2 ^ 24 ∧ serving s = true ∧ ((e ≠ 15 ∨ o % 4 ≠ 0))) ∧
    (let r := 1
     let g := 5
     let w := 7
     let x := 2 ^ 31
     let e := 5
     let s := { st0 with pwr := { st0.pwr with sState := 0 } }
     serving s = false ∧ r < 8 ∧ g < 9 ∧ w < 8 ∧ e < 0x840) ∧
    (let g := 4
     let s := { (irqArrive 4 3 st0) with regs := { (irqArrive 4 3 st0).regs with msixEnable := true } }
     1 ≤ g ∧ g < 9 ∧ (s.irqG g).enable = true ∧ (s.irqG g).pend ≠ 0 ∧ (s.irqG g).readyAt ≤ s.now ∧
     (s.irqG g).sideband = false ∧ s.regs.msixEnable = true ∧ sendable s (groupVector g (s.irqG g)) = false) ∧
    (let g := 4
     let s := (irqArrive 4 3 st0).setIrq 4 { (irqArrive 4 3 st0).irqG 4 with sideband := true }
     1 ≤ g ∧ g < 9 ∧ (s.irqG g).enable = true ∧ (s.irqG g).pend ≠ 0 ∧ (s.irqG g).readyAt ≤ s.now ∧
     (s.irqG g).sideband = true) ∧
    (let s := { (irqArrive 0 0 st0) with regs := { (irqArrive 0 0 st0).regs with msixEnable := true, msix := [(0, { masked := false })] } }
     (s.irqG 0).enable = true ∧ (s.irqG 0).pend ≠ 0 ∧ (s.irqG 0).readyAt ≤ s.now ∧
     (∀ r ∈ List.range 8, bit (s.irqG 0).pend r = true → sendable s (s.ring r).vector = true) ∧
     (s.irqG 0).pend < 256) ∧
    (let g := 4
     let s := st0
     g < 9 ∧ (((s.irqG g).enable = false ∨ (s.irqG g).pend = 0 ∨ s.now < (s.irqG g).readyAt))) ∧
    (let s := st0
     (∀ g ∈ List.range 9, (s.irqG g).pend = 0)) ∧
    (let b := 3
     let s := st0
     b < 13) ∧
    (let i := 9
     let s := st0
     8 ≤ i ∧ i < 16) :=
  by and_intros <;> decide +kernel

/-- The hypotheses of CommandForms can be met. -/
theorem test_hypotheses_of_CommandForms :
    (let r := 0
     let pk := (⟨16, 0x0101, 0, rq0 []⟩ : Packet)
     let s := st0.setRing 0 { st0.ring 0 with sqTail := 1 }
     r < 8 ∧ pk.req.src = .ring r ∧ serving s = true ∧ turnNow s = some r ∧ acceptChecks s pk = none ∧
     bit pk.req.flags 2 = false ∧ relayed pk.opcode pk.req.payload = true ∧ relayedOut s < 17) ∧
    (let r := 0
     let pk := (⟨16, 0x0101, 0, rq0 []⟩ : Packet)
     let s := { st0.setRing 0 { st0.ring 0 with sqTail := 1 } with kcp := { (st0.setRing 0 { st0.ring 0 with sqTail := 1 }).kcp with slots := List.replicate 17 { phase := .relayQueue } } }
     r < 8 ∧ pk.req.src = .ring r ∧ serving s = true ∧ turnNow s = some r ∧ acceptChecks s pk = none ∧
     bit pk.req.flags 2 = false ∧ relayed pk.opcode pk.req.payload = true ∧ 17 ≤ relayedOut s) ∧
    (let r := 0
     let pk := (⟨18, 3, 3, rq0 [4, 5]⟩ : Packet)
     let x := 6
     let d := 255
     let s := st0.setRing 0 { st0.ring 0 with sqTail := 1 }
     r < 8 ∧ pk.req.src = .ring r ∧ serving s = true ∧ turnNow s = some r ∧ acceptChecks s pk = some (x, d) ∧
     ((bit pk.req.flags 2 = false ∨ 8 ≤ pk.req.flags))) ∧
    (let r := 0
     let pk := (⟨16, 0x0101, 0, { rq0 [] with flags := 4 }⟩ : Packet)
     let s := { st0.setRing 0 { st0.ring 0 with sqTail := 1 } with kcp := { (st0.setRing 0 { st0.ring 0 with sqTail := 1 }).kcp with slots := [{ req := rq0 [] }] } }
     r < 8 ∧ pk.req.src = .ring r ∧ serving s = true ∧ turnNow s = some r ∧ bit pk.req.flags 2 = true ∧
     pk.req.flags < 8 ∧ fenced s (.ring r) = true) ∧
    (let r := 0
     let pk := (⟨16, 0x0101, 0, rq0 []⟩ : Packet)
     let s := st0.setRing 0 { st0.ring 0 with sqTail := 1 }
     r < 8 ∧ pk.req.src = .ring r ∧ serving s = true ∧ turnNow s = some r) ∧
    (let a := ({ tag := 1, bytes := [0x7F, 0, 0, 0, 0] ++ le 2 3 ++ le 2 7 ++ le 2 2 ++ [0, 0] ++ le 8 0 ++ [9, 9], complete := true } : Assembly)
     let pk := (⟨0, 0, 0, { rq0 [] with src := .sideband }⟩ : Packet)
     let s := { st0 with kcp := { st0.kcp with assembly := [{ tag := 1, bytes := [0x7F, 0, 0, 0, 0] ++ le 2 3 ++ le 2 7 ++ le 2 2 ++ [0, 0] ++ le 8 0 ++ [9, 9], complete := true }] } }
     pk.req.src = .sideband ∧ serving s = true ∧ turnNow s = some 8 ∧ sidebandWaiting s false = some a ∧
     acceptChecks s (messagePacket a) = none ∧ bit (messagePacket a).req.flags 2 = false ∧
     relayed (messagePacket a).opcode (messagePacket a).req.payload = false) ∧
    (let r := 0
     let pk := (⟨16, 0x0101, 0, rq0 []⟩ : Packet)
     let d := true
     let s := st0
     r < 8 ∧ pk.req.src = .ring r ∧ turnNow s ≠ some r) ∧
    (let k := ({ id := 4, opcode := 3, req := rq0 [4, 5], first := 7 } : Cmd)
     let s := { st0 with kcp := { st0.kcp with slots := [{ id := 4, opcode := 3, req := rq0 [4, 5], first := 7 }] } }
     serving s = true ∧ s.kcp.slots = [k] ∧ k.phase = .accepted ∧ k.opcode = 3 ∧ k.conditional = false ∧
     k.noReply = false ∧ k.lost = false ∧ k.req.payload ≠ [] ∧ k.req.payload.length ≤ 4080) ∧
    (let g := 0
     let k := ({ id := 4, opcode := 3, req := { rq0 [4, 5] with flags := 1 }, first := 7 } : Cmd)
     let s := { st0 with kcp := { st0.kcp with gg := [(0, 5)], slots := [{ id := 4, opcode := 3, req := { rq0 [4, 5] with flags := 1 }, first := 7 }] } }
     g < 18 ∧ serving s = true ∧
     s.kcp.slots.find? (fun y => y.phase == .accepted && decide (groupOf y.opcode = g)) = some k ∧
     (groupsHeld s).contains g = false ∧ k.conditional = true ∧ k.req.expGen < groupGen s g ∧
     bodyFor k.opcode ≠ none ∧ k.lost = false) ∧
    (let g := 5
     let s := st0
     g < 18 ∧
     ((serving s = false ∨ s.kcp.slots.find? (fun y => y.phase == .accepted && decide (groupOf y.opcode = g)) = none ∨ (groupsHeld s).contains g = true))) ∧
    (let s := st0
     ((mailboxServed s = false ∨ (∃ y ∈ s.kcp.slots, y.phase = .mailbox) ∨ ∀ y ∈ s.kcp.slots, y.phase ≠ .relayQueue))) ∧
    (let s := { st0 with pwr := { st0.pwr with nuheifUp := false } }
     mailboxServed s = false) ∧
    (let s := { st0 with pwr := { st0.pwr with nuheifUp := true } }
     mailboxServed s = true ∧
     ((nuheifWork s = none ∨ (serviceInterval s = s.kcp.mbInterval ∧ 8000 ≤ s.kcp.mbServed)))) ∧
    (let s := st0
     (∀ y ∈ s.kcp.slots, y.phase ≠ .mailbox ∨ s.now < y.since + 10000000)) ∧
    (let k := 0
     let o := true
     let r := (⟨4, .ring 0, 3, 7, 0, 0, 1, [8], 7⟩ : Reply)
     let s := { st0.setRing 0 { st0.ring 0 with cqTail := 16 } with kcp := { (st0.setRing 0 { st0.ring 0 with cqTail := 16 }).kcp with replies := [⟨4, .ring 0, 3, 7, 0, 0, 1, [8], 7⟩] } }
     k < 8 ∧ s.kcp.replies.find? (fun y => decide (y.src = .ring k)) = some r ∧ s.kcp.linkUp = true ∧
     2 ^ (s.ring k).log2 ≤ ((s.ring k).cqTail + 65536 - (s.ring k).cqHead) % 65536) ∧
    (let k := 0
     let r := (⟨4, .ring 0, 3, 7, 0, 0, 1, [8], 7⟩ : Reply)
     let s := { st0 with kcp := { st0.kcp with replies := [⟨4, .ring 0, 3, 7, 0, 0, 1, [8], 7⟩] } }
     k < 8 ∧ s.kcp.replies.find? (fun y => decide (y.src = .ring k)) = some r ∧ s.kcp.linkUp = true ∧
     ((s.ring k).cqTail + 65536 - (s.ring k).cqHead) % 65536 < 2 ^ (s.ring k).log2) ∧
    (let x := Source.sideband
     let r := (⟨4, .sideband, 3, 7, 0, 0, 1, [8], 7⟩ : Reply)
     let s := { st0 with kcp := { st0.kcp with replies := [⟨4, .sideband, 3, 7, 0, 0, 1, [8], 7⟩] } }
     onSideband x = true ∧ s.kcp.replies.find? (fun y => decide (y.src = x)) = some r) ∧
    (let k := 0
     let o := true
     let s := { st0 with kcp := { st0.kcp with linkUp := false } }
     k < 8 ∧ (((∀ y ∈ s.kcp.replies, y.src ≠ .ring k) ∨ s.kcp.linkUp = false))) ∧
    (let i := 4
     let s := st0
     (∀ y ∈ s.kcp.slots, y.id ≠ i ∨ limitPassed s.now y = false)) :=
  by and_intros <;> decide +kernel

/-- The hypotheses of SidebandForms can be met. -/
theorem test_hypotheses_of_SidebandForms :
    (let p := (⟨0x1D, 1, 1, false, true, true, [4, 5]⟩ : MctpPacket)
     let a := ({ tag := 1, seq := 1, bytes := [6, 2], lastAt := 5 } : Assembly)
     let s := { st0 with kcp := { st0.kcp with assembly := [{ tag := 1, seq := 1, bytes := [6, 2], lastAt := 5 }] } }
     serving s = true ∧ p.dest = s.pwr.prov.smbAddr ∧ p.pec = true ∧ p.som = false ∧ p.eom = true ∧
     asmOf s p.tag = some a ∧ p.seq = a.seq) ∧
    (let p := (⟨0x1D, 1, 2, false, true, true, [4, 5]⟩ : MctpPacket)
     let a := ({ tag := 1, seq := 1, bytes := [6, 2], lastAt := 5 } : Assembly)
     let s := { st0 with kcp := { st0.kcp with assembly := [{ tag := 1, seq := 1, bytes := [6, 2], lastAt := 5 }] } }
     serving s = true ∧ p.dest = s.pwr.prov.smbAddr ∧ p.pec = true ∧ p.som = false ∧ asmOf s p.tag = some a ∧
     p.seq ≠ a.seq) ∧
    (let p := (⟨0x1E, 1, 2, false, true, true, [4, 5]⟩ : MctpPacket)
     let s := st0
     ((serving s = false ∨ p.dest ≠ s.pwr.prov.smbAddr ∨ p.pec = false ∨ (p.som = true ∧ asmOf s p.tag = none ∧ 2 ≤ s.kcp.assembly.length)))) ∧
    (let r := (⟨4, .sideband, 3, 7, 0, 0, 1, [8], 7⟩ : Reply)
     let s := { st0 with kcp := { st0.kcp with replies := [⟨4, .sideband, 3, 7, 0, 0, 1, [8], 7⟩] } }
     firstSideband s = some r ∧ r.builtAt + 1000000000 ≤ s.now) ∧
    (let a := true
     let s := st0
     ((firstSideband s = none ∨ (a = false ∧ ∀ r ∈ (firstSideband s).toList, s.now < r.builtAt + 1000000000)))) ∧
    (let o := 1
     let i := 255
     let s := st0
     serving s = true ∧ ((2 ≤ o ∨ i < 8 ∨ 254 < i))) ∧
    (let m := 1
     let s := st0
     serving s = true ∧ m ∉ [0, 5, 6, 127]) ∧
    (let n := 1
     let s := st0
     serving s = true ∧ n ≠ 0) ∧
    (let d := true
     let i := 4
     let n := ([7, 7] : List Byte)
     let s := setSpdm true { algos := true } st0
     serving s = true ∧ (spdmOf s d).algos = true ∧ 1 ≤ i ∧ i ≤ 7) ∧
    (let d := false
     let o := some ([1] : List Byte)
     let s := setSpdm false { keyed := true } st0
     serving s = true ∧ (spdmOf s d).keyed = true) ∧
    (let d := false
     let s := setSpdm false { session := true, heard := 999000000000 } st0
     (((spdmOf s d).session = false ∨ s.now < (spdmOf s d).heard + 20000000000))) ∧
    (let d := false
     let c := 0
     let a := 0
     let n := 4
     let b := ([1] : List Byte)
     let o := some ([1] : List Byte)
     let s := st0
     serving s = true ∧ spdmOf s d = {}) :=
  by and_intros <;> decide +kernel

/-- The hypotheses of StartUpAndSystemForms can be met. -/
theorem test_hypotheses_of_StartUpAndSystemForms :
    (let s := st0
     s.pwr.released = true) ∧
    (let b := false
     let l := true
     let s := { State.reset with pwr := { State.reset.pwr with released := true }, osc := { State.reset.osc with mState := .mBoot } }
     s.osc.mState = .mBoot ∧ s.pwr.nuheifUp = false ∧ bootCopy s 0 = some b ∧ s.sealing.windowFault = false) ∧
    (let b := false
     let l := true
     let s := { State.reset with sealing := { State.reset.sealing with older := { bound := { warmTerm := 77 } } }, pwr := { State.reset.pwr with released := true }, osc := { State.reset.osc with mState := .mBoot } }
     s.osc.mState = .mBoot ∧ s.pwr.nuheifUp = false ∧ bootCopy s 0 = some b ∧ s.sealing.windowFault = false) ∧
    (let b := false
     let n := true
     let o := true
     let s := { State.reset with pwr := { State.reset.pwr with released := true }, osc := { State.reset.osc with mState := .mBoot } }
     s.osc.mState = .mBoot ∧ s.pwr.nuheifUp = false ∧ bootCopy s 0 = some b ∧ s.sealing.windowFault = false ∧
     s.pwr.recoveredLog = false) ∧
    (let p := true
     let o := true
     let l := true
     let s := { State.reset with pwr := { State.reset.pwr with released := true, m := {} }, osc := { State.reset.osc with mState := .mBoot } }
     s.osc.mState = .mBoot ∧ s.pwr.nuheifUp = false ∧ bootCopy s 0 = none) ∧
    (let p := true
     let o := true
     let l := true
     let s := st0
     ((s.osc.mState ≠ .mBoot ∨ s.pwr.nuheifUp = true))) ∧
    (let s := st0
     ((s.pwr.released = false ∨ s.pwr.sState ≠ 0 ∨ s.pwr.sImageOk = true ∨ bootCopy s 1 = none))) ∧
    (let s := st0
     ((s.osc.mState ≠ .mBoot ∨ s.pwr.nuheifUp = false ∨ s.pwr.sImageOk = false ∨ s.tim.tb.running = false ∨ s.tim.tb.aplLock = false))) ∧
    (let s := st0
     ((s.pwr.sImageOk = false ∨ s.pwr.sState ≠ 0))) ∧
    (let s := { State.reset with now := 2000000000, pwr := { State.reset.pwr with released := true, m := { State.reset.pwr.m with trial := true, preferB := true } }, osc := { State.reset.osc with mState := .mBoot } }
     s.pwr.m.trial = true ∧ s.pwr.m.startAt + 2000000000 ≤ s.now ∧ s.osc.mState = .mBoot) ∧
    (let x := true
     let s := st0
     (((x = true ∧ (trialOver s s.pwr.st = false ∨ s.pwr.sState ≠ 0)) ∨ (x = false ∧ (trialOver s s.pwr.m = false ∨ s.osc.mState ≠ .mBoot))))) ∧
    (let s := st0
     ((s.pwr.released = false ∨ s.pwr.sState ≠ 0 ∨ s.pwr.sImageOk = true ∨ bootCopy s 1 ≠ none))) ∧
    (let f := (⟨true, 0, 5, 9, false, [], [1]⟩ : ImageFile)
     let s := st0
     ((s.pwr.mRecovery = false ∨ s.sealing.armedUntil = none ∨ f.verifies = false ∨ f.kind ≠ 0))) ∧
    (let s := setCond 7 2 true { st0 with kcp := { st0.kcp with perst := false, linkUp := false } }
     serving s = true ∧ (loopOf s 3 0).depth ≠ 1 ∧ s.kcp.perst = false) ∧
    (let s := State.reset
     ((serving s = false ∨ (loopOf s 3 0).depth = 1))) ∧
    (let e := 5
     let s := { st0 with pwr := { st0.pwr with released := true, restartAt := some (2, 5) } }
     s.pwr.restartAt = some (2, e) ∧ e ≤ s.now) ∧
    (let s := { st0 with pwr := { st0.pwr with restartAt := some (2, st0.now + 1) } }
     (∀ x ∈ s.pwr.restartAt.toList, s.now < x.2)) ∧
    (let k := ({ id := 4, opcode := 2, req := rq0 (le 4 0x3FF), phase := .held, accAt := stSvc.now - 1000000 } : Cmd)
     let s := { stSvc with kcp := { stSvc.kcp with slots := [{ id := 4, opcode := 2, req := rq0 (le 4 0x3FF), phase := .held, accAt := stSvc.now - 1000000 }] } }
     s.kcp.slots = [k] ∧ snapDue s k = true ∧ captureOf s k.id = none ∧ k.lost = false ∧ k.noReply = false) ∧
    (let k := ({ id := 4, opcode := 2, req := rq0 (le 4 0), phase := .held, accAt := stSvc.now - 1000000 } : Cmd)
     let s := { stSvc with kcp := { stSvc.kcp with slots := [{ id := 4, opcode := 2, req := rq0 (le 4 0), phase := .held, accAt := stSvc.now - 1000000 }] } }
     s.kcp.slots = [k] ∧ snapDue s k = true ∧ captureOf s k.id = none ∧ rd k.req.payload 0 4 = 0 ∧ k.lost = false ∧
     k.noReply = false) ∧
    (let s := { stSvc with kcp := { stSvc.kcp with slots := [{ id := 4, opcode := 2, req := rq0 (le 4 0), phase := .held, accAt := stSvc.now }] } }
     (∀ k ∈ s.kcp.slots, snapDue s k = false)) ∧
    (let b := 4
     let i := 0
     let rq := rq0 (le 2 4 ++ le 2 0)
     let s := setLoop 4 0 { depth := 1 } st0
     runs 0x0004 rq s = true ∧ rq.payload.length = 4 ∧ b = rd rq.payload 0 2 ∧ i = rd rq.payload 2 2 ∧ 1 ≤ b ∧
     b ≤ 7 ∧ i < blockInstances b ∧ resetRefused b i s = false ∧ s.kcp.slots = []) ∧
    (let b := 6
     let i := 0
     let k := ({ id := 9, opcode := 0x0201, req := rq0 [], phase := .relayQueue } : Cmd)
     let rq := rq0 (le 2 6 ++ le 2 0)
     let s := { st0 with kcp := { st0.kcp with slots := [{ id := 9, opcode := 0x0201, req := rq0 [], phase := .relayQueue }] } }
     runs 0x0004 rq s = true ∧ rq.payload.length = 4 ∧ b = rd rq.payload 0 2 ∧ i = rd rq.payload 2 2 ∧ b = 6 ∧
     i = 0 ∧ s.sel.st.selected ≠ some 8 ∧ s.kcp.slots = [k] ∧ queuedOf 2 k = true ∧ k.lost = false) ∧
    (let k := 1
     let f := (⟨true, 9, [7, 8]⟩ : Frag)
     let rq := rq0 ([1, 0, 0, 0] ++ le 4 2 ++ le 4 9 ++ zeros 4 ++ [7, 8])
     let s := setFrag 1 ⟨true, 9, [7, 8]⟩ st0
     runs 0x0008 rq s = true ∧ 17 ≤ rq.payload.length ∧ rq.payload.length ≤ 4080 ∧ k = rd rq.payload 0 1 ∧
     k ∈ [0, 1, 3] ∧ f = fragOf s k ∧ f.open_ = true ∧ rd rq.payload 1 1 = 0 ∧ rd rq.payload 2 2 = 0 ∧
     rd rq.payload 4 4 = f.bytes.length ∧ rd rq.payload 8 4 = f.total ∧ f.total ≤ stageLimit k ∧
     f.bytes.length + (rq.payload.length - 16) < f.total ∧ rd rq.payload 12 4 = 0 ∧
     ((k ≠ 0 ∨ s.pwr.mRecovery = false ∨ armed s = true))) ∧
    (let k := 1
     let f := (⟨true, 4, [7, 8]⟩ : Frag)
     let rq := rq0 ([1, 2, 0, 0] ++ le 4 2 ++ le 4 4 ++ zeros 4 ++ [7, 8])
     let s := setFrag 1 ⟨true, 4, [7, 8]⟩ st0
     runs 0x0008 rq s = true ∧ 17 ≤ rq.payload.length ∧ rq.payload.length ≤ 4080 ∧ k = rd rq.payload 0 1 ∧
     ((k = 1 ∨ (k = 0 ∧ s.pwr.mRecovery = false))) ∧ f = fragOf s k ∧ f.open_ = true ∧ rd rq.payload 1 1 = 2 ∧
     rd rq.payload 2 2 = 0 ∧ rd rq.payload 4 4 = f.bytes.length ∧ rd rq.payload 8 4 = f.total ∧
     f.total ≤ stageLimit k ∧ f.bytes.length + (rq.payload.length - 16) = f.total ∧ rd rq.payload 12 4 = 0) ∧
    (let f := (⟨true, 4, [7, 8]⟩ : Frag)
     let rq := rq0 ([0, 2, 0, 0] ++ le 4 2 ++ le 4 4 ++ zeros 4 ++ [7, 8])
     let s := setFrag 0 ⟨true, 4, [7, 8]⟩ { st0 with pwr := { st0.pwr with mRecovery := true }, sealing := { st0.sealing with armedUntil := some 9 } }
     runs 0x0008 rq s = true ∧ 17 ≤ rq.payload.length ∧ rq.payload.length ≤ 4080 ∧ rd rq.payload 0 2 = 0x0200 ∧
     s.pwr.mRecovery = true ∧ armed s = true ∧ f = s.pwr.frag0 ∧ f.open_ = true ∧ rd rq.payload 2 2 = 0 ∧
     rd rq.payload 4 4 = f.bytes.length ∧ rd rq.payload 8 4 = f.total ∧ f.total ≤ stageLimit 0 ∧
     f.bytes.length + (rq.payload.length - 16) = f.total ∧ rd rq.payload 12 4 = 0) ∧
    (let f := (⟨true, 4, [7, 8]⟩ : Frag)
     let rq := rq0 ([3, 2, 0, 0] ++ le 4 2 ++ le 4 4 ++ zeros 4 ++ [7, 8])
     let s := setFrag 3 ⟨true, 4, [7, 8]⟩ st0
     runs 0x0008 rq s = true ∧ 17 ≤ rq.payload.length ∧ rq.payload.length ≤ 4080 ∧ rd rq.payload 0 2 = 0x0203 ∧
     f = s.pwr.frag3 ∧ f.open_ = true ∧ rd rq.payload 2 2 = 0 ∧ rd rq.payload 4 4 = f.bytes.length ∧
     rd rq.payload 8 4 = f.total ∧ f.total ≤ stageLimit 3 ∧ f.bytes.length + (rq.payload.length - 16) = f.total ∧
     rd rq.payload 12 4 = 0) ∧
    (let rq := rq0 ([0, 9, 0, 0] ++ le 4 5)
     let q := withByte 1 0 rq
     let s := { st0 with sealing := { st0.sealing with windowAt := some 5 }, pwr := { st0.pwr with nuheifUp := true, m := { st0.pwr.m with b := { version := 5 }, staged := true } } }
     q = withByte 1 0 rq ∧ runs 0x0009 q s = true ∧ q.payload.length = 8 ∧ rd q.payload 0 1 = 0 ∧
     rd q.payload 2 2 = 0 ∧ windowOpen s = true ∧ s.pwr.m.staged = true ∧
     rd q.payload 4 4 = (s.pwr.m.at_ (!s.pwr.m.preferB)).version) ∧
    (let rq := rq0 ([3, 9, 0, 0] ++ le 4 0)
     let q := withByte 1 0 rq
     let r := (⟨{ ownerGen := 7 }, false⟩ : ProvStage)
     let s := { st0 with pwr := { st0.pwr with provStaged := some ⟨{ ownerGen := 7 }, false⟩ } }
     q = withByte 1 0 rq ∧ runs 0x0009 q s = true ∧ q.payload.length = 8 ∧ rd q.payload 0 1 = 3 ∧
     rd q.payload 2 2 = 0 ∧ rd q.payload 4 4 = 0 ∧ s.pwr.provStaged = some r ∧
     ((r.newOwner = false ∨ (armed s = true ∧ s.pwr.ownerBits < 16)))) :=
  by and_intros <;> decide +kernel

end
end

section
/-! SUPPORT. How a row's outcome is stated: an event under the generations, a command answered at once or left waiting. -/

namespace Sys2Proof.Machine
open Sys2Proof

/-- A part outside those that an operation may change is as it was. -/
theorem Within.keeps {ps : List Part} {s t : State} (h : Within ps s t) (p : Part) (hp : p ∉ ps) : p.same s t :=
  h.2.2 p hp

/-- No operation changes the model's clock. -/
theorem Within.now_eq {ps : List Part} {s t : State} (h : Within ps s t) : t.now = s.now := h.1

/-- Raising the generations changes the command processor only. -/
theorem commitG_eq (a b : State) : commitG a b = { b with kcp := genKcp a b } := by
  rw [commitG]

/-- An event goes on in its effect's state, but for the command processor's generations. -/
theorem goes_done {s s' : State} {P : State → Prop} (h : ∀ k : Kcp, P { s' with kcp := k }) : Goes (done s s') P := by
  refine ⟨commitG s s', rfl, ?_⟩
  rw [commitG_eq]
  exact h _

/-- The same for an event that may answer held commands. -/
theorem goes_doneHeld {s s' : State} {P : State → Prop} (h : ∀ k : Kcp, P { s' with kcp := k }) :
    Goes (doneHeld s s') P := by
  refine ⟨stampReplies s (commitG s s'), rfl, ?_⟩
  rw [stampReplies, commitG_eq]
  exact h _

/-- An event at a unit that the module has. -/
theorem goes_unit {ok : Bool} (hok : ok = true) {s s' : State} {P : State → Prop} (h : ∀ k : Kcp, P { s' with kcp := k }) :
    Goes (guardUnit ok s (done s s')) P := by
  rw [guardUnit, hok, if_pos rfl]
  exact goes_done h

/-- A body behind checks of its payload that all pass. -/
theorem checked_of_all {cs : List (Nat × Bool)} (h : ∀ c ∈ cs, c.2 = true) (s : State) (k : Res) : checked s cs k = k := by
  have hn : firstBad cs = none := by
    induction cs with
    | nil => rfl
    | cons c cs ih =>
      rw [firstBad, if_pos (h c (by simp))]
      exact ih (fun d hd => h d (by simp [hd]))
  rw [checked, hn]

/-- A command row whose body answers OK goes on in the body's state with its reply. -/
theorem goes_of_ok {op : Nat} {body : Body} {rq : Request} {s u : State} {p : List Byte} {P : State → Prop}
    (h : runs op rq s = true) (hb : body (rowCmd op rq s) (takeId s) = ok u p)
    (hP : ∀ t : State, t = { u with kcp := t.kcp } → t.kcp.slots = u.kcp.slots →
      t.kcp.replies = u.kcp.replies ++ [⟨s.kcp.nextId, rq.src, op, rq.tag, stOK, 0, t.kcp.g, p, u.now⟩] → P t) :
    Goes (kcpRow op (leastPriv s op rq.payload) body rq s) P := by
  obtain ⟨t, ht, hu, hr, hsl⟩ := kcpRow_ok op body rq s (ok u p) h hb rfl rfl rfl rfl
  exact ⟨t, ht, hP t hu hsl hr⟩

/-- A command row whose body holds its reply goes on in the body's state with the command held. -/
theorem goes_of_held {op : Nat} {body : Body} {rq : Request} {s u : State} {P : State → Prop}
    (h : runs op rq s = true) (hb : body (rowCmd op rq s) (takeId s) = held u)
    (hP : ∀ t : State, t = { u with kcp := t.kcp } →
      t.kcp.slots = u.kcp.slots ++ [{ rowCmd op rq s with phase := .held, since := u.now }] → P t) :
    Goes (kcpRow op (leastPriv s op rq.payload) body rq s) P := by
  obtain ⟨t, ht, hu, hsl, -⟩ := kcpRow_held op body rq s (held u) h hb rfl rfl
  exact ⟨t, ht, hP t hu hsl⟩

/-- A command row whose body occupies the mailbox until a later event (R16). -/
theorem goes_of_waits {op : Nat} {body : Body} {rq : Request} {s u : State} {P : State → Prop}
    (h : runs op rq s = true) (hb : body (rowCmd op rq s) (takeId s) = waits u)
    (hP : ∀ t : State, t = { u with kcp := t.kcp } →
      t.kcp.slots = u.kcp.slots ++ [{ rowCmd op rq s with phase := .waiting }] → P t) :
    Goes (kcpRow op (leastPriv s op rq.payload) body rq s) P := by
  refine ⟨_, kcpRow_runs op body rq s h, hP _ ?_ ?_⟩ <;> rw [hb]
  · rfl
  · simp only [conclude, waits, if_true, commitG_kcp_slots]

end Sys2Proof.Machine
end

section
/-! SUPPORT. What reset leaves. -/

namespace Sys2Proof.Machine
open Sys2Proof

/-- Every die's replica stands at its reset value: no entry is listed. -/
theorem reset_replica (d : Nat) : State.reset.replica d = {} := rfl

/-- Before the first frame a die serves the bound 0xFFFFFFFF (R13). -/
theorem reset_dieBound (d : Nat) : dieBound State.reset d = 0xFFFFFFFF := rfl

/-- Before the first frame a die serves clockClass 248, whatever the bound (R13). -/
theorem reset_servedClass (d : Nat) (b : Bound) : servedClass State.reset d b = 248 := by
  simp [servedClass, reset_replica]

/-- Settles O3: each field stands at the value its declaration gives, and the dies' replicas are not yet served. -/
theorem resetLeaves : Obligations.ResetLeaves :=
  ⟨rfl, rfl, rfl, rfl, rfl, rfl,
    fun d => ⟨congrArg Replica.inLoss (reset_replica d), reset_dieBound d, reset_servedClass d⟩,
    rfl, rfl, rfl, rfl⟩

end Sys2Proof.Machine
end

section
/-! SUPPORT. The refutation of O39: the mailbox stays occupied by a command that waits for its event (R16). -/

namespace Sys2Proof.Machine
open Sys2Proof

/-- A TIME_SET waits in the mailbox for its event, and a TB_STATUS stands in the queue behind it. -/
def waitingMailbox : State :=
  { State.reset with
    pwr := { State.reset.pwr with nuheifUp := true }
    kcp := { State.reset.kcp with slots := [
      { id := 1, opcode := 0x0406, phase := .waiting }, { id := 2, opcode := 0x0101, phase := .relayQueue }] } }

/-- While a command waits in the mailbox for its event, RELAY_COMMAND moves none into it. -/
theorem relayCommand_of_waiting {s : State} (h : ∃ c ∈ s.kcp.slots, c.phase = .waiting) : relayCommand s = s := by
  obtain ⟨c, hc, hp⟩ := h
  have hany : s.kcp.slots.any (fun c => c.phase == .mailbox || c.phase == .waiting) = true :=
    List.any_eq_true.mpr ⟨c, hc, by simp [hp]⟩
  rw [relayCommand, hany, Bool.or_true, if_pos rfl]

/-- In that state RELAY_COMMAND leaves the command slots as they are. -/
theorem exec_relayCommand_waitingMailbox : exec .relayCommand waitingMailbox = .next waitingMailbox := by
  have h : relayCommand waitingMailbox = waitingMailbox := relayCommand_of_waiting ⟨_, List.mem_cons_self, rfl⟩
  change done waitingMailbox (relayCommand waitingMailbox) = _
  rw [h, done, commitG_self]

/-- Refutes O39: its clause on RELAY_COMMAND asks only that no command is in phase `mailbox`, but a command in phase `waiting`
occupies the mailbox too (R16), and then the queued command stays where it is. -/
theorem not_commandProcessingCompletes : ¬ Obligations.CommandProcessingCompletes := by
  unfold Obligations.CommandProcessingCompletes
  rintro ⟨-, -, hrelay, -⟩
  obtain ⟨t, ht, hslots, -⟩ := hrelay { id := 2, opcode := 0x0101, phase := .relayQueue } waitingMailbox rfl (by decide) rfl
  rw [exec_relayCommand_waitingMailbox] at ht
  obtain rfl := Host.Outcome.next.inj ht
  exact absurd hslots (by decide)

end Sys2Proof.Machine
end

section
/-! SUPPORT. What the selection commands, a step at its marker and the selection timers leave (R139 to R162, R433). -/

namespace Sys2Proof.Machine
open Sys2Proof

/-- A payload read past its first byte does not see a new first byte. -/
theorem rd_set_zero (p : List Byte) (v : Byte) (off n : Nat) : rd (p.set 0 v) (off + 1) n = rd p (off + 1) n := by
  cases p <;> rfl

/-! An operator's step (R149, R160, R161). -/

/-- A committed step stands last among the pending ones; nothing else of selection differs. -/
theorem commitStep_sel (p : PendingStep) (detail id : Nat) (s : State) :
    (commitStep p detail id s).sel = { s.sel with steps := s.sel.steps ++ [p] } := by
  have h : s.sel = (logAt (p.effective / us1) 0x04 detail id (word64 (satI p.size)) s).sel :=
    (logAt_within _ _ _ _ _ _).keeps .sel (by decide)
  simp only [commitStep, ← h]

/-- A command executed at its acceptance takes its marker 2 ms after it (R160). -/
theorem operatorStep_at_acceptance {off detail : Nat} {size : Sys2Proof.Interval} {setsTime : Bool} {c : Cmd} {s : State}
    (hc : c.accAt = s.now) (hok : ftOk (ftAdd (markerFor s (s.acc + 2 * ms1)) size) = true) :
    operatorStep off detail size setsTime c s =
      ok (commitStep { size := size, effective := markerFor s (s.acc + 2 * ms1), kind := .operator, setsTime := setsTime }
        detail 0xFF s) (stepReply size (markerFor s (s.acc + 2 * ms1))) := by
  have hacc : acceptedAt c s = s.acc := by simp [acceptedAt, hc]
  have hmax : max (s.acc + 2 * ms1) (s.acc + ms1) = s.acc + 2 * ms1 := Nat.max_eq_left (Nat.add_le_add_left (by decide) s.acc)
  simp only [operatorStep, hacc, hmax, hok, Bool.not_true, Bool.false_eq_true, if_false]

/-- What an operator's step leaves, apart from the command processor. -/
theorem goes_of_operatorStep {op off detail : Nat} {size : Sys2Proof.Interval} {setsTime : Bool} {body : Body} {rq : Request}
    {s : State} (h : runs op rq s = true)
    (hb : body (rowCmd op rq s) (takeId s) = operatorStep off detail size setsTime (rowCmd op rq s) (takeId s))
    (hok : ftOk (ftAdd (markerFor s (s.acc + 2 * ms1)) size) = true) :
    Goes (kcpRow op (leastPriv s op rq.payload) body rq s) (fun t =>
      t.sel.steps = s.sel.steps ++ [{ size := size, effective := markerFor s (s.acc + 2 * ms1), kind := .operator
                                      setsTime := setsTime }] ∧ t.acc = s.acc ∧
      Answered op rq (stepReply size (markerFor s (s.acc + 2 * ms1))) s t) := by
  refine goes_of_ok h (hb.trans (operatorStep_at_acceptance (s := takeId s) rfl hok)) (fun t ht _ hr => ?_)
  have hw := commitStep_within { size := size, effective := markerFor (takeId s) ((takeId s).acc + 2 * ms1), kind := .operator
                                 setsTime := setsTime } detail 0xFF (takeId s)
  refine ⟨?_, ?_, ?_⟩
  · rw [ht]; exact congrArg Sel.steps (commitStep_sel _ _ _ _)
  · rw [ht]; exact (hw.keeps .acc (by decide)).symm
  · rw [Answered, hr, hw.now_eq, ← congrArg Kcp.replies (hw.keeps .kcp (by decide))]
    rfl

/-! A step at its marker (R20, R144, R593). -/

/-- A sum inside the field-time range is no negative number. -/
theorem nonneg_of_ftOk {t : Int} (h : ftOk t = true) : 0 ≤ t := by
  simp only [ftOk, Bool.and_eq_true, decide_eq_true_eq] at h
  exact h.1

/-- The shift of what is stored shifts selection's own phases and leaves the rest of selection. -/
theorem shiftAll_sel (d : Sys2Proof.Interval) (mirrored : Bool) (s : State) :
    (shiftAll d mirrored s).sel = shiftSel s d mirrored := by
  unfold shiftAll
  extract_lets s1 s2
  have hw : Within [.bus, .ref] s2 _ := Within.foldl
    (fun t i => Within.op (State.setDup_within t i { t.dup i with
      waiting := (t.dup i).waiting.map (fun w => (w.1, (ftAdd w.2.1 d).toNat, w.2.2 + d)) }) rfl (Within.refl _ _))
    (List.range 4) (Within.op (shiftReports_within d mirrored _) rfl (Within.op (shiftUarts_within d _) rfl (Within.refl _ _)))
  exact (hw.keeps .sel (by decide)).symm

@[simp] theorem outputStep_acc (d : Sys2Proof.Interval) (e m : FieldTime) (s : State) : (outputStep d e m s).acc = s.acc :=
  ((outputStep_within d e m s).keeps .acc (by decide)).symm
@[simp] theorem outputStep_sel (d : Sys2Proof.Interval) (e m : FieldTime) (s : State) : (outputStep d e m s).sel = s.sel :=
  ((outputStep_within d e m s).keeps .sel (by decide)).symm

section ApplyStep
variable {p : PendingStep} {s : State} (ha : ftOk (ftAdd s.acc p.size) = true) (hm : ftOk (ftAdd p.effective p.size) = true)
include ha hm

/-- The accumulator takes a step that stays inside the field-time range. -/
theorem applyStep_acc : ((applyStep p s).acc : Int) = s.acc + p.size * 65536 := by
  have h : (applyStep p s).acc = (ftAdd s.acc p.size).toNat := by
    simp only [applyStep, ha, hm, Bool.not_true, Bool.or_false, Bool.false_eq_true, if_false, outputStep_acc]
  rw [h, Int.toNat_of_nonneg (nonneg_of_ftOk ha)]
  rfl

/-- Such a step shifts selection's phases. -/
theorem applyStep_sel : (applyStep p s).sel = shiftSel s p.size (decide (p.kind = .mirrored)) := by
  simp only [applyStep, ha, hm, Bool.not_true, Bool.or_false, Bool.false_eq_true, if_false, outputStep_sel, shiftAll_sel]

end ApplyStep

/-- An operator's step at its marker: the accumulator takes it, the guard starts, the bound is left unbounded. -/
theorem stepEffective_operator {s : State} {p : PendingStep} {rest : List PendingStep} (hs : s.sel.steps = p :: rest)
    (he : p.effective ≤ s.acc) (hk : p.kind = .operator) (hz : p.size ≠ 0) :
    stepEffective s = operatorMarked p.setsTime (startGuard (atMarker (applyStep p { s with sel := { s.sel with steps := rest } }))) := by
  simp only [stepEffective, hs, Nat.not_lt.mpr he, if_false, hz, markerEffects, hk]

/-! A mirrored step (R147, R433). -/

/-- A step beyond STEP_ALARM is counted; nothing else of selection differs. -/
theorem judgeAlarm_sel (size : Sys2Proof.Interval) (s : State) :
    (judgeAlarm size s).sel = { s.sel with st := { s.sel.st with
      stepAlarms := if size.natAbs > s.sel.policy.stepAlarm * 1024 then satInc sat32 s.sel.st.stepAlarms
        else s.sel.st.stepAlarms } } := by
  unfold judgeAlarm
  split
  · exact ((setSticky_within _ _ _).keeps .sel (by decide)).symm
  · rfl

/-- A mirrored step that is announced in time is committed and judged. -/
theorem stepMirror_announced {s : State} {w : TimeWord} (hw : s.tan.word = some w) (h19 : s.sel.st.selected = some 19)
    (hf : bit w.flags 5 = true) (hz : w.step ≠ 0) (hs : s.sel.steps = []) (ha : s.acc + 192 * us1 < w.effective) :
    stepMirror s = judgeMirrored w.step w.effective (judgeAlarm w.step (commitStep
      { size := w.step, effective := w.effective, kind := .mirrored
        bStep := residue s 19 ((s.slot 19).pts.take 16) w.effective } 0 19 s)) := by
  simp [stepMirror, hw, h19, hf, hz, hs, Nat.not_le.mpr ha]

/-- What selection holds after a mirrored step. -/
theorem judgeMirrored_sel (size : Sys2Proof.Interval) (eff : FieldTime) (s : State) : (judgeMirrored size eff s).sel = s.sel :=
  ((judgeMirrored_within _ _ _).keeps .sel (by decide)).symm

end Sys2Proof.Machine
end

section
/-! SUPPORT. Selection commands, steps and timers, each from its conditions. -/

namespace Sys2Proof.Machine
open Sys2Proof

/-- With no switch being measured a force aborts none (R145, R158). -/
theorem abortByForce_idle {s : State} (h : s.sel.switching = none) : abortByForce s = s := by
  rw [abortByForce, h, if_neg (by simp)]

/-- What an operator's step at its marker leaves. -/
theorem stepEffective_operator_leaves {s : State} {p : PendingStep} {rest : List PendingStep} (hs : s.sel.steps = p :: rest)
    (he : p.effective ≤ s.acc) (hk : p.kind = .operator) (hz : p.size ≠ 0) (ha : ftOk (ftAdd s.acc p.size) = true)
    (hm : ftOk (ftAdd p.effective p.size) = true) :
    ((stepEffective s).acc : Int) = s.acc + p.size * 65536 ∧ (stepEffective s).sel.steps = rest ∧
      (stepEffective s).sel.guardRun = true ∧ (stepEffective s).sel.guardEnd = s.now + s.sel.policy.wtr * 1000000000 ∧
      (stepEffective s).sel.operatorUnbounded = true ∧
      (stepEffective s).sel.st.timeNotSet = (s.sel.st.timeNotSet && !p.setsTime) ∧
      (stepEffective s).sel.st.selected = s.sel.st.selected := by
  have hacc := applyStep_acc (s := { s with sel := { s.sel with steps := rest } }) ha hm
  have hsel := applyStep_sel (s := { s with sel := { s.sel with steps := rest } }) ha hm
  have hnow := (applyStep_within p { s with sel := { s.sel with steps := rest } }).now_eq
  rw [stepEffective_operator hs he hk hz]
  simp only [operatorMarked, startGuard, atMarker, hacc, hsel, hnow, shiftSel, and_self]

/-- What a mirrored step that is announced in time leaves. -/
theorem stepMirror_leaves {s : State} {w : TimeWord} (hw : s.tan.word = some w) (h19 : s.sel.st.selected = some 19)
    (hf : bit w.flags 5 = true) (hz : w.step ≠ 0) (hs : s.sel.steps = []) (ha : s.acc + 192 * us1 < w.effective) :
    (stepMirror s).sel.steps = [{ size := w.step, effective := w.effective, kind := .mirrored
                                  bStep := residue s 19 ((s.slot 19).pts.take 16) w.effective }] ∧
      (stepMirror s).acc = s.acc ∧ (stepMirror s).sel.st.stepAlarms =
        (if w.step.natAbs > s.sel.policy.stepAlarm * 1024 then satInc sat32 s.sel.st.stepAlarms
          else s.sel.st.stepAlarms) := by
  have hacc : s.acc = (stepMirror s).acc := (stepMirror_within s).keeps .acc (by decide)
  refine ⟨?_, hacc.symm, ?_⟩ <;>
    simp only [stepMirror_announced hw h19 hf hz hs ha, judgeMirrored_sel, judgeAlarm_sel, commitStep_sel, hs, List.nil_append]

/-- What the end of the settle that LOCKED waits for leaves (R139). -/
theorem settleEnd_leaves {s : State} (he : s.sel.settleEnd ≤ s.now) (hl : s.sel.lockEnd ≤ s.now)
    (hc : commitPhase s = false) (hm : s.osc.mState = .acquiring) (hsel : s.sel.st.selected.isSome = true) :
    (settleEnd s).sel.settling = false ∧ (settleEnd s).osc.mState = .locked ∧ (settleEnd s).bnd.hold = none ∧
      (settleEnd s).bnd.stepTerms = s.bnd.stepTerms.filter (fun x => decide (s.now < x.2)) ∧
      (stepAhead s = false → (settleEnd s).sel.uncertainEnd.all (fun e => decide (s.now < e)) = true) := by
  have hrun : (s.sel.settling && decide (s.now < s.sel.settleEnd)) = false := by simp [Nat.not_lt.mpr he]
  simp only [settleEnd, hrun, hl, hc, hm, hsel, decide_true, Bool.not_false, Bool.and_self, if_true, true_and]
  intro ha
  rw [ha, if_neg Bool.false_ne_true]
  cases s.sel.uncertainEnd with
  | none => rfl
  | some e => by_cases h : s.now < e <;> simp [Option.filter, h]

/-- The step guard that has run out no longer runs (R144). -/
theorem guardExpiry_leaves {s : State} (hg : s.sel.guardRun = true) (he : s.sel.guardEnd ≤ s.now) :
    (guardExpiry s).sel = { s.sel with guardRun := false } ∧ guardRuns (guardExpiry s) = false := by
  simp [guardExpiry, guardRuns, hg, he]

/-- A wait-to-restore timer that is done stops, and stays done (R135). -/
theorem wtrExpiry_leaves {s : State} {i : Nat} (hr : (s.slot i).wtrRun = true) (hd : wtrDone s i = true) :
    ((wtrExpiry i s).slot i).wtrRun = false ∧ wtrDone (wtrExpiry i s) i = true ∧
      ((wtrExpiry i s).slot i).st = (s.slot i).st := by
  have h : wtrExpiry i s = s.setSlot i { s.slot i with wtrRun := false } := if_pos (by rw [hr, hd]; rfl)
  simp [h, wtrDone]

/-- Settles O17: each command's body under its checks, each event's effect under its conditions. -/
theorem selectionComplete : Obligations.SelectionComplete := by
  refine ⟨?_, ?_, ?_, ?_, ?_, ?_, ?_, ?_, ?_, ?_, ?_, ?_, ?_⟩
  · intro rq s n h hl hn h1 h2 h3 h4 h5 h6 h7 h8 h9
    have hb : bodySelPolicy (rowCmd 0x0401 rq s) (takeId s) =
        ok { takeId s with sel := { s.sel with policy := n } } (policyRecord n) := by
      subst hn
      refine (if_neg (List.ne_nil_of_length_eq_add_one hl)).trans ((if_neg (not_not.mpr hl)).trans (checked_of_all ?_ _ _))
      simp [zeroAt, rowCmd, *]
    exact goes_of_ok h hb (fun t ht _ hr => ⟨congrArg State.sel ht, hr⟩)
  · intro rq s h hl
    exact kcpRow_reads 0x0402 bodySelStatus rq s (selStatus s) h (if_pos hl)
  · intro rq s h hl h1 h2 h3 he hl5 hl6 hw
    have hb : bodySelForce (rowCmd 0x0403 rq s) (takeId s) = ok { takeId s with sel := { s.sel with st := { s.sel.st with
        forced := some (rd rq.payload 0 1), strict := bit (rd rq.payload 1 1) 0 } } } [] := by
      have hgo : (!bodySelForce.refCfgEnabled (takeId s) (rd rq.payload 0 1) ||
          bodySelForce.slotLooped (takeId s) (rd rq.payload 0 1)) = false := by
        simp only [bodySelForce.refCfgEnabled, bodySelForce.slotLooped, Bool.or_eq_false_iff, Bool.not_eq_false']
        exact ⟨he, by simp [takeId, hl5], by simp [takeId, hl6]⟩
      refine (if_neg (not_not.mpr hl)).trans ((checked_of_all (by simp [zeroAt, rowCmd, *]) _ _).trans ?_)
      refine (if_neg (Bool.not_eq_true _ ▸ hgo)).trans ?_
      rw [abortByForce_idle (show (takeId s).sel.switching = none from hw)]
      rfl
    exact goes_of_ok h hb (fun t ht _ hr => ⟨congrArg State.sel ht, hr⟩)
  · intro rq s h hl hw
    have hb : bodySelClearForce (rowCmd 0x0404 rq s) (takeId s) =
        ok { takeId s with sel := { s.sel with st := { s.sel.st with forced := none, strict := false } } } [] := by
      refine (if_neg (not_not.mpr hl)).trans ?_
      rw [abortByForce_idle (show (takeId s).sel.switching = none from hw)]
      rfl
    exact goes_of_ok h hb (fun t ht _ hr => ⟨congrArg State.sel ht, hr⟩)
  · intro rq s d h hl hd h1 h2 h3 h4 h5
    have hb : bodyDpllConfig (rowCmd 0x0405 rq s) (takeId s) =
        ok { takeId s with sel := { s.sel with dpll := d, dpllWritten := true } } (dpllRecord d) := by
      subst hd
      refine (if_neg (List.ne_nil_of_length_eq_add_one hl)).trans ((if_neg (not_not.mpr hl)).trans (checked_of_all ?_ _ _))
      simp [zeroAt, rowCmd, *]
    exact goes_of_ok h hb (fun t ht _ hr => ⟨congrArg State.sel ht, hr⟩)
  · intro rq s i h hl h0 hz hi ht hw
    have hb : bodyTimeSet (rowCmd 0x0406 (withByte 0 0 rq) s) (takeId s) =
        waits { takeId s with sel := { s.sel with timeSet := some (s.kcp.nextId, i) } } := by
      refine (if_neg (not_not.mpr hl)).trans ((checked_of_all (by simp [zeroAt, rowCmd, h0, hz]) _ _).trans ?_)
      simp [rowCmd, takeId, h0, hi, ht, hw]
    exact goes_of_waits h hb (fun t ht hs => ⟨hs, congrArg State.sel ht⟩)
  · intro rq s size eff h hl h1 hz hn hsize heff hok
    subst hsize heff
    have hrd : rd (withByte 0 1 rq).payload 8 8 = rd rq.payload 8 8 := rd_set_zero _ _ 7 8
    have hacc : acceptedAt (rowCmd 0x0406 (withByte 0 1 rq) s) (takeId s) = s.acc := by simp [acceptedAt, rowCmd, takeId]
    refine goes_of_operatorStep (off := 8) (detail := 3) (setsTime := true) h ?_ hok
    refine (if_neg (not_not.mpr hl)).trans ((checked_of_all (by simp [zeroAt, rowCmd, h1, hz]) _ _).trans ?_)
    rw [hacc]
    simp [rowCmd, takeId, h1, hn, hrd]
  · intro rq s size eff h hl hsize hz hle hn heff hok
    subst hsize heff
    refine goes_of_operatorStep (off := 0) (detail := 4) (setsTime := false) h ?_ hok
    refine (if_neg (not_not.mpr hl)).trans ((checked_of_all (by simp [rowCmd, hz, hle]) _ _).trans ?_)
    simp [rowCmd, takeId, hn]
  · intro s p rest hs he hk hz ha hm
    exact goes_done (fun _ => stepEffective_operator_leaves hs he hk hz ha hm)
  · intro s w hw h19 hf hz hs ha
    exact goes_done (fun _ => stepMirror_leaves hw h19 hf hz hs ha)
  · intro s _ he hl hc hm hsel
    exact goes_done (fun _ => settleEnd_leaves he hl hc hm hsel)
  · intro s hg he
    exact goes_done (fun _ => guardExpiry_leaves hg he)
  · intro s i hi hr hd
    exact goes_unit (decide_eq_true hi) (fun _ => wtrExpiry_leaves hr hd)

end Sys2Proof.Machine
end

section
/-! SUPPORT. Bit sets, fault conditions and what a fault arrival leaves (R512, R514). -/

namespace Sys2Proof.Machine
open Sys2Proof

@[simp] theorem bit_setBit (m i : Nat) : bit (setBit m i) i = true := by
  unfold bit setBit
  split
  · assumption
  · next h => rw [Nat.add_comm, Nat.testBit_two_pow_add_eq]; simpa using h

@[simp] theorem bit_clrBit (m i : Nat) : bit (clrBit m i) i = false := by
  unfold bit clrBit
  split
  · next h =>
    have hm : m - 2 ^ i + 2 ^ i = m := Nat.sub_add_cancel (Nat.ge_two_pow_of_testBit h)
    have hb := Nat.testBit_two_pow_add_eq (m - 2 ^ i) i
    rw [Nat.add_comm, hm, h] at hb
    simpa using hb.symm
  · next h => simpa using h

/-- An arrival of a sticky bit leaves the fault blocks. -/
@[simp] theorem fltArrive_flt (b j : Nat) (s : State) : (fltArrive b s).flt j = s.flt j := by
  unfold fltArrive
  split
  · rfl
  · split <;> rfl

/-- A source's sticky bit is set, and its block's conditions stand. -/
theorem setSticky_flt (b n : Nat) (s : State) :
    bit ((setSticky b n s).flt b).status n = true ∧ ((setSticky b n s).flt b).cond = (s.flt b).cond := by
  unfold setSticky
  split
  · next h => exact ⟨h, rfl⟩
  · simp

/-- A condition that begins stands, with its sticky bit (R512). -/
theorem setCond_true_flt (b n : Nat) (s : State) :
    bit ((setCond b n true s).flt b).status n = true ∧ bit ((setCond b n true s).flt b).cond n = true := by
  simp only [setCond, if_true]
  obtain ⟨hs, hc⟩ := setSticky_flt b n (s.setFlt b { s.flt b with cond := setBit (s.flt b).cond n })
  exact ⟨hs, by simp [hc]⟩

/-- A condition that ends leaves its sticky bit (R512). -/
theorem setCond_false_flt (b n : Nat) (s : State) :
    bit ((setCond b n false s).flt b).cond n = false ∧ ((setCond b n false s).flt b).status = (s.flt b).status := by
  simp [setCond]

/-- A condition whose sticky bit is clear arrives at its block's interrupt source (R514). -/
theorem setCond_irq {b n : Nat} {s : State} (hb0 : b ≠ 0) (hb : b ≤ 8) (h : bit (s.flt b).status n = false) :
    (setCond b n true s).regs.irq = (irqArrive 2 (b - 1) s).regs.irq := by
  rw [setCond, if_pos rfl, setSticky, if_neg (by simp [h]), fltArrive, if_neg hb0, if_pos hb]
  rfl

end Sys2Proof.Machine
end

section
/-! SUPPORT. The voltage loop's window, the power status and the dies' temperatures (R532 to R536, R557, R558). -/

namespace Sys2Proof.Machine
open Sys2Proof

/-! The payload of PWR_STATUS (R558). -/

@[simp] theorem le_length (n v : Nat) : (le n v).length = n := by
  induction n generalizing v with
  | zero => rfl
  | succ n ih => simp [le, ih]

@[simp] theorem leI_length (n : Nat) (v : Int) : (leI n v).length = n := le_length _ _

/-- The first bytes of a payload, and the bytes that follow them. -/
theorem take_drop_of_prefix {m n : Nat} {a b p : List Byte} (hp : a ++ b <+: p) (ha : a.length = m) (hb : b.length = n) :
    p.take m = a ∧ (p.drop m).take n = b := by
  obtain ⟨c, rfl⟩ := hp
  subst ha hb
  simp [List.append_assoc]

/-- PWR_STATUS uses up a free value for what is measured, and reports no VDD_S reading under AVS_FAULT (R534, R558). -/
theorem bodyPwrStatus_avsFault {c : Cmd} {s : State} (hp : c.req.payload = []) (ha : s.pwr.avsFault = true) :
    ∃ p, bodyPwrStatus c s = ok { s with free := s.free + 1 } p ∧
      p.take 16 = le 1 (pwrFlags s) ++ le 1 s.pwr.sState ++ le 2 s.pwr.vset ++ le 2 0xFFFF ++ le 2 s.pwr.p99 ++
        le 4 s.pwr.unmetMs ++ le 4 s.pwr.avsWrites ∧
      (p.drop 16).take 12 = (List.range 6).flatMap (fun d => leI 2 (dieTemp s d)) := by
  refine ⟨_, if_neg (not_not.mpr hp), take_drop_of_prefix ?_ (by simp) (by simp)⟩
  rw [ha, if_pos rfl]
  exact (List.prefix_append _ _).trans ((List.prefix_append _ _).trans (List.prefix_append _ _))

/-! The voltage loop (R533). -/

/-- What the loop takes note of at a window below the ceiling; what its write rests on stands as before. -/
theorem window_noted {p99 : Nat} {s : State} (ms : List Nat) (hp : p99 ≤ 65535) (hc : s.pwr.vset ≠ s.pwr.ceiling) :
    let x := (windowSeen p99 (noteMargins ms (rollHandled s))).pwr
    (x.p99 = p99 ∧ x.margins.head? = some (s.now, ms) ∧ x.lastWindow = s.now ∧ x.unmetMs = s.pwr.unmetMs) ∧
      (x.avsFault = s.pwr.avsFault ∧ x.held = s.pwr.held ∧ x.avsWrites = s.pwr.avsWrites) ∧
      x.target = s.pwr.target ∧ x.floor = s.pwr.floor ∧ x.ceiling = s.pwr.ceiling ∧ x.vset = s.pwr.vset := by
  unfold rollHandled
  split <;> simp [windowSeen, noteMargins, hc, Nat.min_eq_right hp]

/-- A window answered while AVS_FAULT does not hold counts as good (R534). -/
theorem avsCount_good {s : State} (h : s.pwr.avsFault = false) :
    avsCount true s = { s with pwr := { s.pwr with avsFail := 0, avsGood := s.pwr.avsGood + 1 } } := by
  simp [avsCount, h]

/-- Latency above the target asks for 10 mV more, where the ceiling allows it (R533). -/
theorem wantedV_raise {s : State} (hl : 10 * s.pwr.target < s.pwr.p99) (hf : s.pwr.floor ≤ s.pwr.vset)
    (hc : s.pwr.vset + 10 ≤ s.pwr.ceiling) : wantedV s = s.pwr.vset + 10 := by
  rw [wantedV, if_pos hl, clampV]
  omega

/-- The loop writes the voltage raised by 10 mV, and the regulator takes it (R532, R533). -/
theorem windowWrite_raise {s : State} (ha : s.pwr.avsFault = false) (hl : 10 * s.pwr.target < s.pwr.p99)
    (hf : s.pwr.floor ≤ s.pwr.vset) (hc : s.pwr.vset + 10 ≤ s.pwr.ceiling) :
    windowWrite true s = writeV (s.pwr.vset + 10) s := by
  simp [windowWrite, tryWrite, ha, wantedV_raise hl hf hc]

/-- With no PWR_POLICY held none is answered. -/
theorem answerPolicies_none {s : State} (h : s.pwr.held = []) : (answerPolicies s).pwr = { s.pwr with held := [] } := by
  unfold answerPolicies
  split
  · rw [h]; rfl
  · rw [← h]

/-- What the loop leaves where the latency asks for more voltage and the ceiling allows it (R533). -/
theorem loop_raises {s : State} (ha : s.pwr.avsFault = false) (hh : s.pwr.held = []) (hl : 10 * s.pwr.target < s.pwr.p99)
    (hf : s.pwr.floor ≤ s.pwr.vset) (hc : s.pwr.vset + 10 ≤ s.pwr.ceiling) :
    let x := (answerPolicies (windowWrite true (avsCount true s))).pwr
    x.vset = s.pwr.vset + 10 ∧ x.avsWrites = satInc sat32 s.pwr.avsWrites ∧ x.p99 = s.pwr.p99 ∧
      x.margins = s.pwr.margins ∧ x.lastWindow = s.pwr.lastWindow ∧ x.unmetMs = s.pwr.unmetMs := by
  have hw : windowWrite true (avsCount true s) = writeV (s.pwr.vset + 10) (avsCount true s) := by
    rw [avsCount_good ha]
    exact windowWrite_raise ha hl hf hc
  have hh' : (writeV (s.pwr.vset + 10) (avsCount true s)).pwr.held = [] := by rw [avsCount_good ha]; exact hh
  simp only [hw, answerPolicies_none hh']
  simp only [writeV, avsCount_good ha, and_self]

/-- What a window above the latency target leaves (R533). -/
theorem voltageWindow_raise {p99 : Nat} {ms : List Nat} {s : State} (hs : s.pwr.sState ≠ 0)
    (hw : s.pwr.lastWindow + 100000 ≤ s.now) (ha : s.pwr.avsFault = false) (hh : s.pwr.held = []) (hp : p99 ≤ 65535)
    (hl : 10 * s.pwr.target < p99) (hf : s.pwr.floor ≤ s.pwr.vset) (hc : s.pwr.vset + 10 ≤ s.pwr.ceiling) :
    let x := (voltageWindow ⟨p99, ms⟩ true s).pwr
    x.vset = s.pwr.vset + 10 ∧ x.avsWrites = satInc sat32 s.pwr.avsWrites ∧ x.p99 = p99 ∧
      x.margins.head? = some (s.now, ms) ∧ x.lastWindow = s.now ∧ x.unmetMs = s.pwr.unmetMs := by
  have hrun : ¬(s.pwr.sState = 0 ∨ s.now < s.pwr.lastWindow + 100000) := by omega
  obtain ⟨⟨hp99, hmar, hlast, hun⟩, ⟨hfault, hheld, hwr⟩, htgt, hfl, hce, hv⟩ := window_noted ms hp (s := s) (by omega)
  rw [voltageWindow, if_neg hrun]
  generalize windowSeen p99 (noteMargins ms (rollHandled s)) = x at *
  obtain ⟨h1, h2, h3, h4, h5, h6⟩ := loop_raises (hfault.trans ha) (hheld.trans hh) (by omega) (by omega) (by omega)
  exact ⟨by rw [h1, hv], by rw [h2, hwr], h3.trans hp99, by rw [h4, hmar], h5.trans hlast, h6.trans hun⟩

/-! The dies' temperatures (R535, R558). -/

/-- A sensor's reading leaves the fault blocks and interrupts. -/
@[simp] theorem setDieTemp_regs (die : Nat) (temp : Int) (s : State) : (setDieTemp die temp s).regs = s.regs := by
  unfold setDieTemp
  split
  · rfl
  · split <;> rfl

/-- A die's temperature is what its sensor read last. -/
theorem dieTemp_setDieTemp_same (die : Nat) (temp : Int) (s : State) : dieTemp (setDieTemp die temp s) die = temp := by
  unfold dieTemp setDieTemp
  split
  · rfl
  · split
    · rfl
    · exact tget_tset_same _ _ _ _

/-- Another die's reading leaves a die's temperature. -/
theorem dieTemp_setDieTemp_other {die d : Nat} (temp : Int) (s : State) (h : d ≠ die) :
    dieTemp (setDieTemp die temp s) d = dieTemp s d := by
  unfold dieTemp setDieTemp
  split
  · split
    · omega
    · split <;> rfl
  · split
    · split
      · rfl
      · split
        · omega
        · rfl
    · split
      · rfl
      · split
        · rfl
        · exact tget_tset_other _ _ _ _ _ (by omega)

/-- A fault condition leaves the dies' temperatures and the power state. -/
theorem setCond_dieTemp (b n : Nat) (v : Bool) (s : State) (d : Nat) : dieTemp (setCond b n v s) d = dieTemp s d := by
  have hw := setCond_within b n v s
  have ht : s.tim = _ := hw.keeps .tim (by decide)
  have hp : s.pwr = _ := hw.keeps .pwr (by decide)
  have hf : s.fur = _ := hw.keeps .fur (by decide)
  rw [dieTemp, dieTemp, ← ht, ← hp, ← hf]

theorem setCond_pwr (b n : Nat) (v : Bool) (s : State) : (setCond b n v s).pwr = s.pwr :=
  ((setCond_within b n v s).keeps .pwr (by decide)).symm

/-- A reading above 110 degrees sets TEMP_CRIT (R535). -/
theorem tempCrit_hot {temp : Int} (die : Nat) (s : State) (h : 110 * 128 < temp) :
    (tempCrit die temp s).pwr.tempCrit = true ∧ dieTemp (tempCrit die temp s) die = temp ∧
      bit ((tempCrit die temp s).flt 7).status 5 = true ∧ bit ((tempCrit die temp s).flt 7).cond 5 = true := by
  rw [tempCrit, if_pos h, setCond_pwr, setCond_dieTemp]
  exact ⟨rfl, dieTemp_setDieTemp_same die temp s, setCond_true_flt _ _ _⟩

/-- Readings of several dies: each that is read has its reading. -/
theorem dieTemp_foldl_setDieTemp (f : Nat → Int) (l : List Nat) (s : State) (d : Nat) :
    dieTemp (l.foldl (fun u e => setDieTemp e (f e) u) s) d = if d ∈ l then f d else dieTemp s d := by
  induction l generalizing s with
  | nil => rfl
  | cons a l ih =>
    rw [List.foldl_cons, ih]
    by_cases hl : d ∈ l
    · simp [hl]
    · by_cases ha : d = a
      · subst ha; simp [hl, dieTemp_setDieTemp_same]
      · simp [hl, ha, dieTemp_setDieTemp_other]

theorem foldl_setDieTemp_regs (f : Nat → Int) (l : List Nat) (s : State) :
    (l.foldl (fun u e => setDieTemp e (f e) u) s).regs = s.regs := by
  induction l generalizing s with
  | nil => rfl
  | cons a l ih => rw [List.foldl_cons, ih, setDieTemp_regs]

/-- Six valid readings below 100 degrees end TEMP_CRIT (R535). -/
theorem tempCritClear_cool {temps : List Int} (s : State) (hn : temps.length = 6)
    (h : ∀ x ∈ temps, x ≠ -32768 ∧ x < 100 * 128) :
    (tempCritClear temps s).pwr.tempCrit = false ∧ bit ((tempCritClear temps s).flt 7).cond 5 = false ∧
      ((tempCritClear temps s).flt 7).status = (s.flt 7).status := by
  have hall : (List.range 6).all (fun d =>
      decide (dieTemp ((List.range 6).foldl (fun u e => setDieTemp e (temps.getD e (-32768)) u) s) d ≠ -32768) &&
      decide (dieTemp ((List.range 6).foldl (fun u e => setDieTemp e (temps.getD e (-32768)) u) s) d < 100 * 128)) = true := by
    refine List.all_eq_true.mpr (fun d hd => ?_)
    have hlt : d < temps.length := hn ▸ List.mem_range.mp hd
    rw [dieTemp_foldl_setDieTemp, if_pos hd, List.getD_eq_getElem _ _ hlt]
    simpa using h _ (List.getElem_mem hlt)
  rw [tempCritClear, if_pos hall, setCond_pwr]
  obtain ⟨hc, hs⟩ := setCond_false_flt 7 5 { (List.range 6).foldl (fun u e => setDieTemp e (temps.getD e (-32768)) u) s with
    pwr := { ((List.range 6).foldl (fun u e => setDieTemp e (temps.getD e (-32768)) u) s).pwr with tempCrit := false } }
  refine ⟨rfl, hc, hs.trans ?_⟩
  simp only [State.flt, foldl_setDieTemp_regs]

/-! AVS_FAULT (R534). -/

/-- A regulator alert or a third failed transaction sets AVS_FAULT, with its interrupt arrival (R514, R534). -/
theorem avsFaultEvent_sets {alert : Bool} {s : State} (hs : s.pwr.sState ≠ 0) (hc : alert = true ∨ 3 ≤ s.pwr.avsFail)
    (ha : s.pwr.avsFault = false) (hb : bit (s.flt 7).status 4 = false) :
    (avsFaultEvent alert s).pwr.avsFault = true ∧ bit ((avsFaultEvent alert s).flt 7).status 4 = true ∧
      bit ((avsFaultEvent alert s).flt 7).cond 4 = true ∧
      (avsFaultEvent alert s).regs.irq = (irqArrive 2 6 s).regs.irq := by
  have he : avsFaultEvent alert s =
      setCond 7 4 true { s with pwr := { s.pwr with avsFault := true, avsRetryAt := s.now, avsGood := 0 } } := by
    rw [avsFaultEvent, if_pos ⟨hs, by simpa using hc⟩, avsFail, ha, if_neg Bool.false_ne_true]
  obtain ⟨hst, hco⟩ := setCond_true_flt 7 4 { s with pwr := { s.pwr with avsFault := true, avsRetryAt := s.now, avsGood := 0 } }
  rw [he]
  exact ⟨by rw [setCond_pwr], hst, hco, setCond_irq (by decide) (by decide) hb⟩

/-- A voltage policy that VDD_S meets is taken and answered at once (R27, R557). -/
theorem bodyPwrPolicy_met {c : Cmd} {s u : State} {p : List Byte} (hc : c.req.payload = p) (hl : p.length = 16)
    (hu : u = { s with pwr := { s.pwr with floor := rd p 4 2, ceiling := rd p 6 2, target := rd p 8 2 } })
    (h1 : rd p 0 1 = 1) (hz1 : rd p 1 3 = 0) (hz2 : rd p 10 6 = 0) (hvf : voltageOk (rd p 4 2) = true)
    (hvc : voltageOk (rd p 6 2) = true) (hle : rd p 4 2 ≤ rd p 6 2) (h10 : 10 ≤ rd p 8 2) (h200 : rd p 8 2 ≤ 200)
    (hin1 : rd p 4 2 ≤ s.pwr.vset) (hin2 : s.pwr.vset ≤ rd p 6 2) : bodyPwrPolicy c s = ok u (pwrBytes u) := by
  subst hc
  have hv : voltageIn u = true := by simp [voltageIn, hu, hin1, hin2]
  have hne1 : c.req.payload.length ≠ 1 := by omega
  refine (if_neg (List.ne_nil_of_length_eq_add_one hl)).trans ((if_pos h1).trans ?_)
  rw [bodyVoltagePolicy]
  dsimp only
  rw [if_neg hne1, if_neg (not_not.mpr hl), checked_of_all (by simp [zeroAt, *]), ← hu, if_pos hv]

/-- An arbitration policy is held for the next window (R416). -/
theorem bodyArbPolicy_write {c : Cmd} {s : State} {p : List Byte} (hc : c.req.payload = p) (hl : p.length = 72)
    (h1 : 1 ≤ rd p 1 1) (h16 : rd p 1 1 ≤ 16) (hz : rd p 2 2 = 0)
    (hr : ∀ r ∈ requesters, rd p (4 + 4 * r) 2 ≤ 4095 ∧ rd p (6 + 4 * r) 2 ≤ 63) :
    bodyArbPolicy c s = held { s with arb := { s.arb with
      next := some (rd p 1 1, requesters.map (fun r => rd p (4 + 4 * r) 2), requesters.map (fun r => rd p (6 + 4 * r) 2))
      held := s.arb.held ++ [c.id] } } := by
  subst hc
  have hne1 : c.req.payload.length ≠ 1 := by omega
  refine (if_neg hne1).trans ((if_neg (not_not.mpr hl)).trans (checked_of_all (fun x hx => ?_) _ _))
  rcases List.mem_append.mp hx with hx | hx
  · simp only [List.mem_cons, List.not_mem_nil, or_false] at hx
    rcases hx with rfl | rfl
    · simp [h1, h16]
    · simp [zeroAt, hz]
  · obtain ⟨r, hmem, hx⟩ := List.mem_flatMap.mp hx
    simp only [List.mem_cons, List.not_mem_nil, or_false] at hx
    rcases hx with rfl | rfl
    · simp [(hr r hmem).1]
    · simp [(hr r hmem).2]

/-- Settles O35: each command's body under its checks, the loop's window, and the fault conditions. -/
theorem powerAndTemperatureComplete : Obligations.PowerAndTemperatureComplete := by
  refine ⟨?_, ?_, ?_, ?_, ?_, ?_, ?_⟩
  · intro rq s fl ce h hl h1 hz1 hz2 hfl hce hvf hvc hle h10 h200 hin1 hin2
    subst hfl hce
    have hb := bodyPwrPolicy_met (c := rowCmd 0x0F01 rq s) (s := takeId s) rfl hl rfl h1 hz1 hz2 hvf hvc hle h10 h200 hin1 hin2
    refine goes_of_ok h hb (fun t ht hs hr => ⟨(congrArg State.pwr ht :), (congrArg State.arb ht :), hs, ?_⟩)
    rw [ht] at hr ⊢
    exact hr
  · intro rq q s hq h hl h1 h2 hz hr
    subst hq
    refine goes_of_held h (bodyArbPolicy_write rfl hl h1 h2 hz hr) (fun t ht hs => ?_)
    have harb := congrArg State.arb ht
    exact ⟨(congrArg Arb.next harb :), (congrArg Arb.burst harb :), (congrArg Arb.cryptoW harb :),
      (congrArg Arb.granW harb :), (congrArg Arb.held harb :), hs⟩
  · intro rq s h hp ha
    obtain ⟨p, hb, h16, h12⟩ := bodyPwrStatus_avsFault (c := rowCmd 0x0F02 rq s) (s := takeId s) hp ha
    refine goes_of_ok h hb (fun t ht _ hr => ⟨(congrArg State.free ht :), (congrArg State.pwr ht :), fun r hmem => ?_⟩)
    rw [hr, show s.kcp.replies = (takeId s).kcp.replies from rfl, List.drop_left] at hmem
    obtain rfl : r = _ := by simpa using hmem
    exact ⟨rfl, rfl, h16, h12⟩
  · intro p99 ms s hs hw ha hh hp hl hf hc
    exact goes_doneHeld (fun _ => voltageWindow_raise hs hw ha hh hp hl hf hc)
  · intro alert s hs hc ha hb
    exact goes_done (fun _ => avsFaultEvent_sets hs hc ha hb)
  · intro die temp s hd ht
    exact goes_unit (decide_eq_true hd) (fun _ => tempCrit_hot die s ht)
  · intro a b c d e f s h
    exact goes_done (fun _ => tempCritClear_cool s rfl h)

end Sys2Proof.Machine
end

section
/-! SUPPORT. What an arrival of frames, claim words and reports leaves at the dies (R11 to R18, R510). -/

namespace Sys2Proof.Machine
open Sys2Proof

/-! Fault conditions and the paths between the dies. -/

/-- An arrival of a sticky bit is all that a fault leaves of the paths between the dies (R514). -/
theorem fltArrive_bus (b : Nat) (s : State) : ∃ v, (fltArrive b s).bus = { s.bus with newSticky := v } := by
  unfold fltArrive
  split
  · exact ⟨_, rfl⟩
  · split <;> exact ⟨s.bus.newSticky, rfl⟩

theorem setSticky_bus (b n : Nat) (s : State) : ∃ v, (setSticky b n s).bus = { s.bus with newSticky := v } := by
  unfold setSticky
  split
  · exact ⟨s.bus.newSticky, rfl⟩
  · exact fltArrive_bus b (s.setFlt b _)

theorem setCond_bus (b n : Nat) (c : Bool) (s : State) : ∃ v, (setCond b n c s).bus = { s.bus with newSticky := v } := by
  unfold setCond
  split
  · exact setSticky_bus b n (s.setFlt b _)
  · exact ⟨s.bus.newSticky, rfl⟩

@[simp] theorem setCond_replica (b n : Nat) (c : Bool) (s : State) (d : Nat) : (setCond b n c s).replica d = s.replica d := by
  obtain ⟨v, h⟩ := setCond_bus b n c s
  rw [State.replica, h, State.replica]

@[simp] theorem setCond_claimPath (b n : Nat) (c : Bool) (s : State) (t : Nat) :
    (setCond b n c s).claimPath t = s.claimPath t := by
  obtain ⟨v, h⟩ := setCond_bus b n c s
  rw [State.claimPath, h, State.claimPath]

/-! A marker at the S tile leaves the replicas. -/

/-- An operation that leaves the paths between the dies leaves the replicas. -/
theorem Within.replica_eq {ps : List Part} {s t : State} (h : Within ps s t) (hp : Part.bus ∉ ps) (d : Nat) :
    t.replica d = s.replica d := by
  have hb : s.bus = t.bus := h.keeps .bus hp
  rw [State.replica, ← hb, State.replica]

theorem keepSlots_replica (s : State) (d : Nat) : (keepSlots s).replica d = s.replica d := by
  have hsound (t : State) : (storeSound t).replica d = t.replica d := by
    unfold storeSound
    split
    · rw [setCond_replica]; rfl
    · rfl
  unfold keepSlots writeArea
  split
  · rw [hsound]; split <;> rfl
  · rfl

theorem applyRoles_replica (s : State) (d : Nat) : (applyRoles s).replica d = s.replica d := by
  unfold applyRoles
  split
  · rfl
  · rw [keepSlots_replica]
    simp only [State.replica]

theorem hearViolation_replica (s : State) (d : Nat) : (hearViolation s).replica d = s.replica d :=
  (hearViolation_within s).replica_eq (by decide) d

theorem enterServing_replica (s : State) (d : Nat) : (enterServing s).replica d = s.replica d :=
  (enterServing_within s).replica_eq (by decide) d

theorem sMarker_replica (good : Bool) (s : State) (d : Nat) : (sMarker good s).replica d = s.replica d := by
  rw [sMarker, enterServing_replica, applyRoles_replica]
  split
  · rw [hearViolation_replica]; rfl
  · rfl

/-! A good frame (R12, R13). -/

/-- The replica of a die after a good frame: its frame, and the run that ends time-bus loss at the 1,000th. -/
theorem goodFrame_replica (die : Nat) (f : Frame) (s : State) :
    let x := (goodFrame die f s).replica die
    x.frame = f ∧ x.at_ = s.bus.sentEdge + f.phase ∧ x.anyGood = true ∧ x.missed = 0 ∧
      x.goodRun = min 1000 ((s.replica die).goodRun + 1) ∧
      x.inLoss = ((s.replica die).inLoss && decide ((s.replica die).goodRun + 1 < 1000)) := by
  have hloss (b : Bool) (n : Nat) : (b && !(b && decide (1000 ≤ min 1000 (n + 1)))) = (b && decide (n + 1 < 1000)) := by
    have hn : 1000 ≤ min 1000 (n + 1) ↔ ¬n + 1 < 1000 := by omega
    cases b
    · rfl
    · simp only [Bool.true_and, hn, decide_not, Bool.not_not]
  unfold goodFrame
  dsimp only
  split
  · rw [setCond_replica, setReplica_replica_same]
    exact ⟨rfl, rfl, rfl, rfl, rfl, hloss _ _⟩
  · rw [setReplica_replica_same]
    exact ⟨rfl, rfl, rfl, rfl, rfl, hloss _ _⟩

/-- A frame that passes its CRC is a good frame at the die that waits for it. -/
theorem frameReceive_replica {die e w : Nat} {s : State} (hf : s.bus.frames ≠ 0) (hw : frameWaits s die = true)
    (he : w = frameWord s.bus.sent ^^^ (e % 2 ^ 1000)) (hok : frameOk w = true) :
    (frameReceive die (some e) s).replica die = (goodFrame die (decodeFrame w) s).replica die := by
  have hgo : (!frameWaits s die || decide (s.bus.frames = 0)) = false := by simp [hw, hf]
  simp only [frameReceive, ← he, hgo, hok, Bool.false_eq_true, if_false, if_true]
  split
  · rw [sMarker_replica]
  · rfl

/-! A claim word (R15). -/

/-- A good claim word is taken with its count. -/
theorem claimWord_good {tile e c n : Nat} {s : State}
    (h : goodClaim (s.claimPath tile) (claimWordOf (claimSent s) s.bus.claimCount ^^^ (e % 2 ^ 20)) = some (c, n)) :
    let x := (claimWord tile (some e) s).claimPath tile
    x.claim = c ∧ x.count = some n ∧ x.prevClaim = (s.claimPath tile).claim ∧ x.missed = 0 := by
  have hcond (p q : Prop) [Decidable p] [Decidable q] (u : State) :
      (if p then setCond (9 + tile) 3 true u else if q then setCond (9 + tile) 3 false u else u).claimPath tile =
        u.claimPath tile := by
    split
    · exact setCond_claimPath _ _ _ _ _
    · split
      · exact setCond_claimPath _ _ _ _ _
      · rfl
  simp only [claimWord, Option.bind_some, h, hcond, setClaimPath_claimPath_same]
  exact ⟨rfl, rfl, trivial, rfl⟩

/-! Frames sent, reports, the fault replica. -/

/-- The frame of the marker that is due is sent, and what it announced is new no more (R11). -/
theorem timeBusFrame_due {s : State} (hc : computing s = true) (hm : s.bus.nextMarker ≤ s.acc) :
    let x := (timeBusFrame s).bus
    x.sent = frameAt s (markerNow s) ∧ x.nextMarker = markerNow s + us1 ∧ x.frames = s.bus.frames + 1 ∧
      x.newSticky = false ∧ x.newViolation = false ∧ x.newLog = false := by
  have hgo : ¬(!computing s || decide (s.acc < s.bus.nextMarker)) = true := by simp [hc, Nat.not_lt.mpr hm]
  rw [timeBusFrame, if_neg hgo]
  exact ⟨rfl, rfl, rfl, rfl, rfl, rfl⟩

/-- The events of a slot up to an instant go into its report, and the others stay (R18). -/
theorem slotReport_gathered {slot : Nat} {up : FieldTime} {l : List SlotPhase} {z : SlotPhase} {s : State}
    (hl : l = (s.bus.gathered.filter (reportable slot up)).map (fun g => g.2)) (hz : l.getLast? = some z) :
    (slotReport slot up s).bus.reports = s.bus.reports.filter (fun q => q.slot != slot) ++
        [⟨slot, l.length, divNearI (l.map (·.phase)).sum l.length, l.drop (l.length - 16), z.hops, z.originId⟩] ∧
      (slotReport slot up s).bus.gathered = s.bus.gathered.filter (fun g => !reportable slot up g) := by
  subst hl
  simp only [slotReport, hz, and_self]

/-- Arrivals leave the fault blocks and the replica of block 0. -/
theorem foldl_irqArrive_regs (l : List Nat) (s : State) :
    (l.foldl (fun t _ => irqArrive 1 0 t) s).regs.replica = s.regs.replica ∧
      (l.foldl (fun t _ => irqArrive 1 0 t) s).regs.flt = s.regs.flt := by
  induction l generalizing s with
  | nil => exact ⟨rfl, rfl⟩
  | cons a l ih => exact ih (irqArrive 1 0 s)

end Sys2Proof.Machine
end

section
/-! SUPPORT. The 1 ms computation: what its parts leave of the bound computer's count, the die temperature, the rate and the
clockClass (R15, R42, R153, R183, R184, R593). -/

namespace Sys2Proof.Machine
open Sys2Proof

/-! The count of computations is raised once, at the end. -/

/-- An operation that leaves the bound computer leaves its count. -/
theorem Within.computations_eq {ps : List Part} {s t : State} (h : Within ps s t) (hp : Part.bnd ∉ ps) :
    t.bnd.computations = s.bnd.computations := by
  have hb : s.bnd = t.bnd := h.keeps .bnd hp
  rw [hb]

theorem dpllApply_computations (s : State) : (dpllApply s).bnd.computations = s.bnd.computations := by
  unfold dpllApply
  dsimp only
  split <;> rfl

theorem commitSwitch_computations (tk : FieldTime) (w : Switching) (s : State) :
    (commitSwitch tk w s).bnd.computations = s.bnd.computations := by
  unfold commitSwitch
  dsimp only
  split
  · exact (abortSwitch_within s).computations_eq (by decide)
  · split
    · exact (commitStep_within _ _ _ s).computations_eq (by decide)
    · exact ((judgeAlarm_within _ _).computations_eq (by decide)).trans ((commitStep_within _ _ _ s).computations_eq (by decide))

theorem transaction_computations (tk : FieldTime) (s : State) : (transaction tk s).bnd.computations = s.bnd.computations := by
  unfold transaction
  split
  · rfl
  · split
    · split
      · exact (abortSwitch_within s).computations_eq (by decide)
      · split
        · exact commitSwitch_computations _ _ _
        · rfl
    · split
      · dsimp only
        split
        · exact (decideSwitch_within _ _ _ _ _ _).computations_eq (by decide)
        · rfl
      · exact (startSwitch_within _ _ _).computations_eq (by decide)

theorem selCompute_computations (tk : FieldTime) (s : State) : (selCompute tk s).bnd.computations = s.bnd.computations := by
  have hdrop (t : State) : (if mustDrop t then dropSelected t else t).bnd.computations = t.bnd.computations := by
    split <;> rfl
  rw [selCompute, transaction_computations, (selReport_within _ _).computations_eq (by decide)]
  exact ((trackSelected_within _ _).computations_eq (by decide)).trans ((hdrop _).trans (dpllApply_computations s))

end Sys2Proof.Machine
end

section
/-! SUPPORT. The parts of the 1 ms computation, in order, and what they leave (R15, R36, R183, R593). -/

namespace Sys2Proof.Machine
open Sys2Proof

theorem enterFreeRun_computations (b : Bound) (s : State) : (enterFreeRun b s).bnd.computations = s.bnd.computations :=
  (logPut_within 0x08 0 0 b s).computations_eq (by decide)

theorem enterHoldover_computations (tk : FieldTime) (frozen : Freq) (m : Bool) (h0 : Nat) (s : State) :
    (enterHoldover tk frozen m h0 s).bnd.computations = s.bnd.computations :=
  (logAt_within (tk / us1) 0x05 (if m then 1 else 0) 0 (word64 frozen) s).computations_eq (by decide)

theorem lossState_computations (tk : FieldTime) (s : State) : (lossState tk s).bnd.computations = s.bnd.computations := by
  unfold lossState
  split
  · split
    · exact enterHoldover_computations _ _ _ _ _
    · split
      · exact enterHoldover_computations _ _ _ _ _
      · exact enterFreeRun_computations _ _
  · split
    · rfl
    · exact enterFreeRun_computations _ _
  · rfl

theorem mStateCompute_computations (tk : FieldTime) (s : State) :
    (mStateCompute tk s).bnd.computations = s.bnd.computations := by
  unfold mStateCompute
  split
  · split
    · split
      · exact enterFreeRun_computations _ _
      · exact (startSettle_within _ _).computations_eq (by decide)
    · rfl
  · split
    · exact lossState_computations _ _
    · rfl

theorem boundCompute_computations (tk : FieldTime) (s : State) :
    (boundCompute tk s).bnd.computations = s.bnd.computations := rfl

theorem discoverOne_computations (s : State) (j : Judged) : (discoverOne s j).bnd.computations = s.bnd.computations := by
  unfold discoverOne
  split
  · exact ((setSticky_within _ _ _).computations_eq (by decide)).trans ((logPut_within _ _ _ _ s).computations_eq (by decide))
  · rfl

theorem discover_computations (s : State) : (discover s).bnd.computations = s.bnd.computations := by
  have hfold (l : List Judged) (t : State) : (l.foldl discoverOne t).bnd.computations = t.bnd.computations := by
    induction l generalizing t with
    | nil => rfl
    | cons j l ih => exact (ih _).trans (discoverOne_computations t j)
  exact hfold _ _

theorem holdoverEnd_computations (prev : Bound) (s : State) :
    (holdoverEnd prev s).bnd.computations = s.bnd.computations := by
  unfold holdoverEnd
  split
  · exact (enterFreeRun_computations _ _).trans ((holdoverExit_within 1 s).computations_eq (by decide))
  · rfl

/-! The work of a computation before the bound, and the bound's own part. -/

/-- What a computation does before it selects (R36, R116, R124, R165). -/
def computeInputs (tk : FieldTime) (s : State) : State :=
  ensCompute tk (utcCompute (readReports ((List.range numSlots).foldl deliverWaiting (dropLost (computeStart (reloadSealed s))))))

/-- A computation up to the rate of the timescale. -/
def computeRate (tk : FieldTime) (s : State) : State := rateCompute (mStateCompute tk (selCompute tk (computeInputs tk s)))

/-- A computation up to its bound. -/
def computeBound (tk : FieldTime) (s : State) : State :=
  holdoverEnd (computeRate tk s).bnd.bound (discover (boundCompute tk (computeRate tk s)))

/-- A computation ends with its record, its clockClass and the instant of the next. -/
theorem computeAt_eq (tk : FieldTime) (s : State) : computeAt tk s = { computeBound tk s with
    osc := { (computeBound tk s).osc with
      hist := (ratePoint tk (computeBound tk s) :: (computeBound tk s).osc.hist).take 4200000 }
    bnd := { (computeBound tk s).bnd with
      clockClass := clockClassOf (computeBound tk s), nextComp := gridFrom ms1 (tk + ms1 / 2)
      computations := (computeBound tk s).bnd.computations + 1 } } := by
  unfold computeAt computeBound computeRate computeInputs
  rfl

theorem computeInputs_within (tk : FieldTime) (s : State) :
    Within [.utc, .bus, .tim, .gnss, .ref, .sel, .osc, .log, .sealing, .regs] s (computeInputs tk s) := by
  refine Within.op (ensCompute_within _ _) rfl (Within.op (utcCompute_within _) rfl (Within.op (readReports_within _) rfl
    (Within.foldl (fun t i => ?_) _ ?_)))
  · exact Within.op (deliverWaiting_within _ _) rfl (Within.refl _ _)
  · exact Within.op (dropLost_within _) rfl (Within.op (computeStart_within _) rfl
      (Within.op (reloadSealed_within _) rfl (Within.refl _ _)))

theorem computeBound_computations (tk : FieldTime) (s : State) :
    (computeBound tk s).bnd.computations = s.bnd.computations := by
  rw [computeBound, holdoverEnd_computations, discover_computations, boundCompute_computations, computeRate,
    (rateCompute_within _).computations_eq (by decide), mStateCompute_computations, selCompute_computations,
    (computeInputs_within tk s).computations_eq (by decide)]

end Sys2Proof.Machine
end

section
/-! SUPPORT. What a computation ends with: the rate within its clamp, the die temperature it read, its clockClass, the instant of
the next (R36, R42, R139, R165, R183), and what the tandem comparison and a TIME_SET's answer leave of it. -/

namespace Sys2Proof.Machine
open Sys2Proof

/-! The rate of the timescale stays within its clamp (R165). -/

/-- A rate within the clamp of R165. -/
def Clamped (s : State) : Prop := -rateClamp ≤ s.osc.rate ∧ s.osc.rate ≤ rateClamp

theorem clamped_congr {s t : State} (h : t.osc.rate = s.osc.rate) : Clamped t ↔ Clamped s := by rw [Clamped, h, Clamped]

theorem rateCompute_clamped (s : State) : Clamped (rateCompute s) :=
  ⟨le_max_left _ _, max_le (by decide) (min_le_left _ _)⟩

theorem enterFreeRun_rate (b : Bound) (s : State) : (enterFreeRun b s).osc.rate = s.osc.rate := by
  have h : s.osc = (logPut 0x08 0 0 b s).osc := (logPut_within 0x08 0 0 b s).keeps .osc (by decide)
  rw [h]
  rfl

theorem holdoverEnd_rate (prev : Bound) (s : State) : (holdoverEnd prev s).osc.rate = s.osc.rate := by
  have h : s.osc = (holdoverExit 1 s).osc := (holdoverExit_within 1 s).keeps .osc (by decide)
  unfold holdoverEnd
  split
  · exact (enterFreeRun_rate prev (holdoverExit 1 s)).trans (congrArg Osc.rate h.symm :)
  · rfl

theorem computeBound_clamped (tk : FieldTime) (s : State) : Clamped (computeBound tk s) := by
  have hd : (computeRate tk s).osc = (discover (boundCompute tk (computeRate tk s))).osc :=
    ((boundCompute_within tk _).keeps .osc (by decide)).trans ((discover_within _).keeps .osc (by decide))
  rw [computeBound, clamped_congr (holdoverEnd_rate _ _), clamped_congr (congrArg Osc.rate hd.symm :), computeRate]
  exact rateCompute_clamped _

/-! The temperature of the M-tile die (R72, R170). -/

theorem computeInputs_tempM (tk : FieldTime) (s : State) : (computeInputs tk s).tim.tb.tempM = s.tim.tb.tempM := by
  have hstart : (computeStart (reloadSealed s)).tim.tb.tempM = s.tim.tb.tempM := by
    have h : s.tim = (reloadSealed s).tim := (reloadSealed_within s).keeps .tim (by decide)
    rw [h]
    rfl
  have hrest : Within [.utc, .bus, .ref, .sel, .osc, .log, .sealing, .regs] (computeStart (reloadSealed s)) (computeInputs tk s) :=
    Within.op (ensCompute_within _ _) rfl (Within.op (utcCompute_within _) rfl (Within.op (readReports_within _) rfl
      (Within.foldl (fun t i => Within.op (deliverWaiting_within t i) rfl (Within.refl _ _)) _
        (Within.op (dropLost_within _) rfl (Within.refl _ _)))))
  have h : (computeStart (reloadSealed s)).tim = (computeInputs tk s).tim := hrest.keeps .tim (by decide)
  rw [← h, hstart]

theorem computeBound_tim (tk : FieldTime) (s : State) : (computeBound tk s).tim = (computeInputs tk s).tim := by
  have hw : Within [.bus, .ref, .sel, .osc, .bnd, .log, .regs] (computeInputs tk s) (computeBound tk s) :=
    Within.op (holdoverEnd_within _ _) rfl (Within.op (discover_within _) rfl (Within.op (boundCompute_within _ _) rfl
      (Within.op (rateCompute_within _) rfl (Within.op (mStateCompute_within _ _) rfl
        (Within.op (selCompute_within _ _) rfl (Within.refl _ _))))))
  exact (hw.keeps .tim (by decide)).symm

/-! The clockClass (R42). -/

/-- What the clockClass of the M tile follows from. -/
theorem clockClassOf_congr {s t : State} (hb : t.bnd.bound = s.bnd.bound) (hm : t.osc.mState = s.osc.mState)
    (hp : t.osc.ens.spec = s.osc.ens.spec) (hs : t.sel.st.selected = s.sel.st.selected) (hr : t.ref = s.ref)
    (hw : t.tan.word = s.tan.word) : clockClassOf t = clockClassOf s := by
  have hprimary : primaryNow t = primaryNow s := by simp only [primaryNow, State.slot, hs, hr, hw]
  simp only [clockClassOf, hb, hm, hp, hprimary]

/-! What a computation ends with. -/

theorem computeAt_tempM (tk : FieldTime) (s : State) : (computeAt tk s).tim.tb.tempM = s.tim.tb.tempM := by
  rw [computeAt_eq]
  exact (congrArg (·.tb.tempM) (computeBound_tim tk s)).trans (computeInputs_tempM tk s)

theorem computeAt_computations (tk : FieldTime) (s : State) : (computeAt tk s).bnd.computations = s.bnd.computations + 1 := by
  rw [computeAt_eq, ← computeBound_computations tk s]

theorem computeAt_nextComp (tk : FieldTime) (s : State) : (computeAt tk s).bnd.nextComp = gridFrom ms1 (tk + ms1 / 2) := by
  rw [computeAt_eq]

theorem computeAt_clamped (tk : FieldTime) (s : State) : Clamped (computeAt tk s) :=
  (clamped_congr (by rw [computeAt_eq])).mpr (computeBound_clamped tk s)

theorem computeAt_clockClass (tk : FieldTime) (s : State) : (computeAt tk s).bnd.clockClass = clockClassOf (computeAt tk s) := by
  have hsame : clockClassOf (computeAt tk s) = clockClassOf (computeBound tk s) := by
    apply clockClassOf_congr <;> rw [computeAt_eq]
  rw [hsame, computeAt_eq]

theorem computeAt_acc (tk : FieldTime) (s : State) : (computeAt tk s).acc = s.acc :=
  ((computeAt_within tk s).keeps .acc (by decide)).symm

/-! The word of the tandem partner stays (R434). -/

theorem settleRole_word (s : State) : (settleRole s).tan.word = s.tan.word := rfl

theorem setDriving_word (v : Bool) (s : State) : (setDriving v s).tan.word = s.tan.word := by
  unfold setDriving
  split <;> rfl

theorem decideClaim_word (s : State) : (decideClaim s).tan.word = s.tan.word := by
  unfold decideClaim
  dsimp only
  rw [settleRole_word]
  split
  · exact setDriving_word _ _
  · rfl

theorem tandemVerdict_word (s : State) : (tandemVerdict s).tan.word = s.tan.word := by
  unfold tandemVerdict
  dsimp only
  split
  · rfl
  · exact decideClaim_word _

theorem setSticky_tan (b n : Nat) (s : State) : (setSticky b n s).tan = s.tan :=
  ((setSticky_within b n s).keeps .tan (by decide)).symm

theorem tandemCompare_word (d : Bool) (s : State) : (tandemCompare d s).tan.word = s.tan.word := by
  unfold tandemCompare
  dsimp only
  split
  · split
    · rw [tandemVerdict_word, setSticky_tan]
      rfl
    · rfl
  · rfl

theorem tandemCompute_word (s : State) : (tandemCompute s).tan.word = s.tan.word := by
  unfold tandemCompute
  split
  · rfl
  · dsimp only
    split
    · exact tandemCompare_word _ _
    · rfl

/-! A TIME_SET that is done answers. -/

/-- The answer of a TIME_SET leaves the queue of commands and the answered TIME_SET changed, and nothing else (R161). -/
theorem answerTimeSet_kcp (s : State) :
    ∃ d, Within [.kcp] { s with sel := { s.sel with timeDone := d } } (answerTimeSet s) := by
  unfold answerTimeSet
  split
  · exact ⟨s.sel.timeDone, Within.refl _ _⟩
  · refine ⟨none, answerHeld_within (by decide) (Within.refl _ _) (fun c t => ?_)⟩
    split
    · exact Within.op (ok_within _ _) rfl (Within.refl _ _)
    · exact Within.op (err_within _ _) rfl (Within.refl _ _)

/-! The instant of a computation. -/

theorem le_gridFrom {g : Nat} (hg : 0 < g) (t : Nat) : t ≤ gridFrom g t := by
  rw [gridFrom, divUp, Nat.mul_comm]
  have h := Nat.lt_mul_div_succ (t + g - 1) hg
  rw [Nat.mul_add_one] at h
  omega

theorem nextComp_le_computationAt (s : State) : s.bnd.nextComp ≤ computationAt s := by
  unfold computationAt
  split
  · exact le_rfl
  · rename_i hlt
    have hdiv := Nat.lt_mul_div_succ s.acc (show 0 < ms1 by decide)
    rw [Nat.mul_add_one, Nat.mul_comm] at hdiv
    have hle : s.bnd.nextComp + ms1 ≤ s.acc := Nat.le_of_not_lt hlt
    exact Nat.le_of_lt (Nat.lt_of_add_lt_add_right (Nat.lt_of_le_of_lt hle hdiv))

theorem nextComp_advances (s : State) : s.bnd.nextComp < gridFrom ms1 (computationAt s + ms1 / 2) :=
  calc s.bnd.nextComp ≤ computationAt s := nextComp_le_computationAt s
    _ < computationAt s + ms1 / 2 := Nat.lt_add_of_pos_right (by decide)
    _ ≤ gridFrom ms1 (computationAt s + ms1 / 2) := le_gridFrom (by decide) _

end Sys2Proof.Machine
end

section
/-! SUPPORT. A computation and the paths between the dies complete (R11 to R18, R510, R593). -/

namespace Sys2Proof.Machine
open Sys2Proof

/-- The work of a computation that is due and that no step precedes. -/
theorem computation_due {d : Int} {s : State} (hrun : computing s = true) (hsteps : s.sel.steps = [])
    (hdue : s.bnd.nextComp ≤ s.acc) :
    computation d s = tandemCompute (computeAt (computationAt s) (s.setTb { s.tim.tb with tempM := d })) := by
  have hstep : stepEffective s = s := by simp only [stepEffective, hsteps]
  have hgo : ¬(!computing s) = true := by simp [hrun]
  simp only [computation, if_neg hgo, hstep, if_neg (Nat.not_lt.mpr hdue)]

/-- What a computation leaves outside the tandem comparison's parts, and its clockClass. -/
structure Computed (d : Int) (s t : State) : Prop where
  tempM : t.tim.tb.tempM = d
  computations : t.bnd.computations = s.bnd.computations + 1
  acc : t.acc = s.acc
  nextComp : s.bnd.nextComp < t.bnd.nextComp
  clamped : Clamped t
  clockClass : t.bnd.clockClass = clockClassOf t

theorem computeAt_computed (d : Int) (s : State) :
    Computed d s (computeAt (computationAt s) (s.setTb { s.tim.tb with tempM := d })) where
  tempM := computeAt_tempM _ _
  computations := computeAt_computations _ _
  acc := computeAt_acc _ _
  nextComp := by
    rw [computeAt_nextComp]
    exact nextComp_advances s
  clamped := computeAt_clamped _ _
  clockClass := computeAt_clockClass _ _

/-- What a computation leaves is kept where its parts stay. -/
theorem Computed.of_same {d : Int} {s t u : State} (h : Computed d s t) (htim : u.tim = t.tim) (hacc : u.acc = t.acc)
    (hosc : u.osc = t.osc) (hbnd : u.bnd = t.bnd) (hsel : u.sel.st = t.sel.st) (href : u.ref = t.ref)
    (hword : u.tan.word = t.tan.word) : Computed d s u where
  tempM := by rw [htim, h.tempM]
  computations := by rw [hbnd, h.computations]
  acc := by rw [hacc, h.acc]
  nextComp := by
    rw [hbnd]
    exact h.nextComp
  clamped := (clamped_congr (by rw [hosc])).mpr h.clamped
  clockClass := by
    rw [clockClassOf_congr (by rw [hbnd]) (by rw [hosc]) (by rw [hosc]) (by rw [hsel]) href hword, hbnd]
    exact h.clockClass

theorem tandemCompute_computed {d : Int} {s t : State} (h : Computed d s t) : Computed d s (tandemCompute t) :=
  have hw := tandemCompute_within t
  h.of_same (hw.keeps .tim (by decide)).symm (hw.keeps .acc (by decide)).symm (hw.keeps .osc (by decide)).symm
    (hw.keeps .bnd (by decide)).symm (congrArg Sel.st (hw.keeps .sel (by decide)).symm :) (hw.keeps .ref (by decide)).symm
    (tandemCompute_word t)

theorem commitG_computed {d : Int} {s t : State} (a : State) (h : Computed d s t) : Computed d s (commitG a t) := by
  rw [commitG_eq]
  exact h.of_same rfl rfl rfl rfl rfl rfl rfl

theorem answerTimeSet_computed {d : Int} {s t : State} (h : Computed d s t) : Computed d s (answerTimeSet t) := by
  obtain ⟨done, hw⟩ := answerTimeSet_kcp t
  have hsel : (answerTimeSet t).sel = { t.sel with timeDone := done } := (hw.keeps .sel (by decide)).symm
  have htan : (answerTimeSet t).tan = t.tan := (hw.keeps .tan (by decide)).symm
  exact h.of_same (hw.keeps .tim (by decide)).symm (hw.keeps .acc (by decide)).symm (hw.keeps .osc (by decide)).symm
    (hw.keeps .bnd (by decide)).symm (by rw [hsel]) (hw.keeps .ref (by decide)).symm (by rw [htan])

/-- The replica of fault block 0 takes the block's status (R510). -/
theorem faultReplicaUpdate_regs (s : State) :
    (faultReplicaUpdate s).regs.replica = (s.flt 0).status ∧ (faultReplicaUpdate s).regs.flt = s.regs.flt := by
  unfold faultReplicaUpdate
  exact foldl_irqArrive_regs _ _

/-- Settles O20: a computation through what its parts leave in turn, the other events through what they leave at the dies. -/
theorem computationAndBusComplete : Obligations.ComputationAndBusComplete := by
  unfold Obligations.ComputationAndBusComplete
  refine ⟨?_, ?_, ?_, ?_, ?_, ?_, ?_⟩
  · intro d s hrun hsteps hdue
    have h : Computed d s (answerTimeSet (commitG s (computation d s))) := by
      rw [computation_due hrun hsteps hdue]
      exact answerTimeSet_computed (commitG_computed s (tandemCompute_computed (computeAt_computed d s)))
    obtain ⟨htemp, hcount, hacc, hnext, ⟨hlow, hhigh⟩, hclass⟩ := h
    exact ⟨_, rfl, htemp, hcount, hacc, hnext, hlow, hhigh, hclass⟩
  · intro s hrun hdue
    exact goes_done fun _ => timeBusFrame_due hrun hdue
  · intro die e s w hdie hframes hwaits he hok
    refine goes_unit (decide_eq_true hdie) fun k => ?_
    have hrep : ({ frameReceive die (some e) s with kcp := k } : State).replica die = (goodFrame die (decodeFrame w) s).replica die :=
      frameReceive_replica hframes hwaits he hok
    rw [hrep]
    exact goodFrame_replica die (decodeFrame w) s
  · intro tile e s c n htile hgood
    exact goes_unit (decide_eq_true htile) fun _ => claimWord_good hgood
  · intro slot up l z s hlow hhigh hl hz
    exact goes_unit (by simp [hlow, hhigh]) fun _ => slotReport_gathered hl hz
  · intro s
    exact goes_done fun _ => faultReplicaUpdate_regs s
  · intro s
    refine goes_done fun _ => ?_
    simp only [sealedPortFields, and_self]

end Sys2Proof.Machine
end

section
/-! SUPPORT. Sums of bound words, and the bounds that are built from a frame's (R4, R13, R35). -/

namespace Sys2Proof.Machine
open Sys2Proof

/-- A sum of bound words is no smaller than its first word. -/
theorem le_addB {a : Bound} (b : Bound) (ha : a ≤ unbounded) : a ≤ addB a b := by
  unfold addB
  split
  · exact ha
  · exact Nat.le_add_right a b

theorem addB_of_unbounded {a b : Bound} (h : a = unbounded ∨ b = unbounded) : addB a b = unbounded :=
  if_pos (h.imp_right .inl)

theorem addB_of_large {a b : Bound} (h : 0xFFFFFFFE < a + b) : addB a b = unbounded :=
  if_pos (.inr (.inr h))

theorem addB_exact {a b : Bound} (ha : a ≠ unbounded) (hb : b ≠ unbounded) (h : a + b ≤ 0xFFFFFFFE) : addB a b = a + b :=
  if_neg fun hor => hor.elim ha (Or.rec hb (Nat.not_lt.mpr h))

/-- A die serves no smaller bound than its frame's. -/
theorem frame_le_dieBound {s : State} {die : Nat} (h : (s.replica die).frame.bound ≤ unbounded) :
    (s.replica die).frame.bound ≤ dieBound s die := by
  unfold dieBound
  split
  · exact h
  · exact le_rfl

/-- A die serves a bound word. -/
theorem dieBound_le {s : State} {die : Nat} (h : (s.replica die).frame.bound ≤ unbounded) : dieBound s die ≤ unbounded := by
  unfold dieBound
  split
  · exact le_rfl
  · exact h

/-- A term added to what a die serves leaves it no smaller than the frame's bound. -/
theorem frame_le_dieBound_addB {s : State} {die : Nat} (b : Bound) (h : (s.replica die).frame.bound ≤ unbounded) :
    (s.replica die).frame.bound ≤ addB (dieBound s die) b :=
  (frame_le_dieBound h).trans (le_addB b (dieBound_le h))

/-- Settles O11: the three cases of `addB`, and each served bound is unbounded or a sum that starts from its frame's. -/
theorem boundSumsSaturate : Obligations.BoundSumsSaturate := by
  refine ⟨fun a b => ⟨addB_of_unbounded, addB_of_large, addB_exact⟩, fun s p tx lean h0 hp => ⟨?_, ?_, ?_, ?_⟩⟩
  · unfold portBound
    split
    · exact h0
    · exact frame_le_dieBound_addB _ h0
  · unfold servedBound
    split
    · exact frame_le_dieBound_addB _ h0
    · exact h0
  · unfold burstBound
    dsimp only
    split
    · exact hp
    · exact frame_le_dieBound_addB _ hp
  · unfold outBound
    dsimp only
    split
    · exact h0
    · exact le_addB _ h0

end Sys2Proof.Machine
end

section
/-! SUPPORT. A microsecond of the block: what the captures, the clock and the Ethernet ports leave (R32, R50, R52, R389). -/

namespace Sys2Proof.Machine
open Sys2Proof

/-- Captures that are taken stand in the command processor. -/
theorem latchSnaps_eq (t : Nat) (s : State) :
    ∃ l, latchSnaps t s = { s with kcp := { s.kcp with snaps := l } } := by
  unfold latchSnaps
  dsimp only
  split
  · exact ⟨s.kcp.snaps, rfl⟩
  · exact ⟨_, rfl⟩

/-- With no SNAPSHOT accepted none is captured. -/
theorem latchSnaps_of_none {s : State} (t : Nat) (h : s.kcp.slots.all (fun c => c.opcode != 0x0002) = true) :
    latchSnaps t s = s := by
  have hun : uncaptured s = [] := by
    unfold uncaptured
    split
    · rfl
    · refine List.filter_eq_nil_iff.mpr fun c hc => ?_
      have hop : c.opcode ≠ 0x0002 := by simpa using List.all_eq_true.mp h c hc
      simp [hop]
  simp [latchSnaps, hun]

/-- What a microsecond changes is the clock, and once the time base runs the tick count and the accumulator. -/
theorem advance_eq (s : State) : advance s = { s with
    now := s.now + 1000
    acc := if s.tim.tb.running then s.acc + idlePhase s.osc.rate else s.acc
    tim := { s.tim with tick := if s.tim.tb.running then s.tim.tick + idleTicks else s.tim.tick } } := by
  unfold advance
  split <;> rfl

/-! A port goes on by itself: it changes its own record only, from its own record and the clock. -/

/-- A port that goes on replaces its record. -/
theorem portTick_eq (s : State) (p : Nat) : portTick s p = s ∨ ∃ x, portTick s p = s.setEthP p x := by
  unfold portTick relink
  dsimp only
  split
  · split
    · exact .inr ⟨_, rfl⟩
    · exact .inr ⟨_, rfl⟩
  · exact .inl rfl

theorem portDue_congr {s t : State} {p : Nat} (hn : t.now = s.now) (he : t.ethP p = s.ethP p) : portDue t p = portDue s p := by
  simp only [portDue, sending, hn, he]

theorem portTick_ethP_congr {s t : State} {p : Nat} (hn : t.now = s.now) (he : t.ethP p = s.ethP p) :
    (portTick t p).ethP p = (portTick s p).ethP p := by
  simp only [portTick, relink, portDue_congr hn he, he]
  split
  · split
    · rw [setEthP_ethP_same, setEthP_ethP_same]
    · rw [setEthP_ethP_same, setEthP_ethP_same]
  · exact he

theorem portTick_ethP_other (s : State) {p q : Nat} (h : q ≠ p) : (portTick s p).ethP q = s.ethP q := by
  obtain ht | ⟨x, ht⟩ := portTick_eq s p
  · rw [ht]
  · rw [ht, setEthP_ethP_other _ _ _ _ h]

theorem portTick_of_not_due {s : State} {p : Nat} (h : portDue s p = false) : portTick s p = s :=
  if_neg (Bool.eq_false_iff.mp h)

/-- Ports that go on one after another: each goes on from its own record. -/
theorem foldl_portTick_ethP {l : List Nat} (hl : l.Nodup) (s : State) (p : Nat) :
    (l.foldl portTick s).ethP p = if p ∈ l then (portTick s p).ethP p else s.ethP p := by
  induction l generalizing s with
  | nil => rfl
  | cons q l ih =>
    obtain ⟨hq, hl⟩ := List.nodup_cons.mp hl
    rw [List.foldl_cons, ih hl]
    by_cases hpq : p = q
    · subst hpq
      simp [hq]
    · have ho := portTick_ethP_other s hpq
      simp [hpq, ho, portTick_ethP_congr (portTick_within s q).now_eq ho]

/-- Each port of the module goes on if it is due. -/
theorem portTicks_ethP (s : State) {p : Nat} (hp : p < numEth) : (portTicks s).ethP p = (portTick s p).ethP p := by
  have hnodup : ((List.range numEth).filter (portDue s)).Nodup := List.nodup_range.filter _
  have hmem : p ∈ (List.range numEth).filter (portDue s) ↔ portDue s p = true := by simp [hp]
  unfold portTicks
  dsimp only
  split
  · next hnil =>
    rw [portTick_of_not_due]
    simpa [hnil] using hmem
  · have he : ∀ t : State, (commitG s t).ethP p = t.ethP p := fun t => by simp only [State.ethP, commitG_eth]
    rw [he, foldl_portTick_ethP hnodup]
    split
    · rfl
    · next hn => rw [portTick_of_not_due (Bool.eq_false_iff.mpr (mt hmem.mpr hn))]

/-- With no port due none goes on. -/
theorem portTicks_of_not_due {s : State} (h : ∀ p, portDue s p = false) : portTicks s = s :=
  if_pos (List.filter_eq_nil_iff.mpr fun p _ => by simp [h p])

/-- Settles O2: the captures, the clock and the ports in turn. -/
theorem idleStepIsAMicrosecond : Obligations.IdleStepIsAMicrosecond := by
  intro s hs
  obtain ⟨l, hl⟩ := latchSnaps_eq s.now s
  have hstep : step s = .next (idle s) := by rw [step, hs]
  have hw : Within [.eth, .kcp] (advance (latchSnaps s.now s)) (idle s) := portTicks_within _
  have hsame (p : Part) (he : p ≠ .eth) (hk : p ≠ .kcp) := hw.keeps p (by simp [he, hk])
  have htim : (idle s).tim = (advance (latchSnaps s.now s)).tim := (hsame .tim nofun nofun).symm
  have hacc : (idle s).acc = (advance (latchSnaps s.now s)).acc := (hsame .acc nofun nofun).symm
  have hdue (p : Nat) : portDue (advance (latchSnaps s.now s)) p = portDue { s with now := s.now + 1000 } p := by
    rw [hl, advance_eq]; rfl
  refine ⟨idle s, hstep, ?_, ?_, ?_, ?_, ?_, ?_, ?_, ?_⟩
  · rw [hw.now_eq, hl, advance_eq]
  · rw [hw.2.1, hl, advance_eq, hs]
  · intro p ha ht hk he
    have hp := hsame p he hk
    rw [hl, advance_eq] at hp
    cases p with
    | acc => exact absurd rfl ha
    | tim => exact absurd rfl ht
    | kcp => exact absurd rfl hk
    | eth => exact absurd rfl he
    | _ => exact hp
  · intro p hp
    rw [idle, portTicks_ethP _ hp]
    exact portTick_ethP_congr (by rw [hl, advance_eq]) (by rw [hl, advance_eq]; rfl)
  · intro hnone
    have hidle : idle s = advance (latchSnaps s.now s) := portTicks_of_not_due fun p => (hdue p).trans (hnone p)
    refine ⟨by rw [hidle, hl, advance_eq], by rw [hidle, hl, advance_eq], fun hslots => ?_⟩
    rw [hidle, latchSnaps_of_none _ hslots, advance_eq]
  · rw [htim, hl, advance_eq]
  · intro hr
    rw [htim, hacc, hl, advance_eq]
    simp [hr, idleTicks]
  · intro hr
    rw [htim, hacc, hl, advance_eq]
    simp [hr]

end Sys2Proof.Machine
end

section
/-! SUPPORT. The refutation of O38: a counter whose pause is in progress is counted up when its OVF is cleared (R520, R521). -/

namespace Sys2Proof.Machine
open Sys2Proof

/-- A counter of a port's pause holds the value that is put into it. -/
theorem perfPut_pause {e : Nat} (he : e < 128 ∧ e % 8 = 6) (x : Perf) (s : State) :
    tget ({} : Perf) (perfPut e x s).regs.perf e = x := by
  unfold perfPut
  dsimp only
  rw [if_pos he]
  split
  · exact tget_tset_same _ _ _ _
  · exact tget_tset_same _ _ _ _

/-- Clearing OVF of a counter of a port's pause takes in what is in progress. -/
theorem ovfClear_pause {e v : Nat} (he : e < 128 ∧ e % 8 = 6) (hv : bit v 31 = true) (s : State) :
    tget ({} : Perf) (ovfClear e v s).regs.perf e = { perfNow s e with ovf := false } := by
  rw [ovfClear, if_pos hv, perfPut_pause he]

/-- The module serves, and Ethernet port 0 has been paused for 10 ns. -/
def pausedPort : State :=
  { State.reset with now := 11, pwr := { State.reset.pwr with sState := 1 }, eth := [(0, { pausedAny := 1 })] }

/-- In that state the 10 ns are counted when OVF of the port's pause counter is cleared. -/
theorem exec_perfOvfClear_pausedPort : exec (.perfOvfClear 6 (2 ^ 31)) pausedPort =
    done pausedPort (ovfClear 6 (2 ^ 31) (countAccess true 0x80034 pausedPort)) := rfl

/-- Refutes O38: its clause on PERF_OVF_CLEAR says that the stored count stays, but the row first takes in what is in progress:
port 0 has been paused for 10 ns that its counter has not taken yet, and the counter goes from 0 to 10. -/
theorem not_registerAccessesComplete : ¬ Obligations.RegisterAccessesComplete := by
  unfold Obligations.RegisterAccessesComplete
  rintro ⟨-, -, -, -, -, -, -, -, hperf, -⟩
  obtain ⟨t, ht, hcount⟩ := hperf 6 (2 ^ 31) pausedPort (by decide) (by decide) (by decide)
  rw [exec_perfOvfClear_pausedPort] at ht
  obtain rfl := Host.Outcome.next.inj ht
  rw [commitG_regs, ovfClear_pause (by decide) (by decide)] at hcount
  exact absurd hcount (by decide)

end Sys2Proof.Machine
end

section
/-! SUPPORT. The refutation of O42: the reset of a furrow port ends a loop-back only where one is set (R497, R560). -/

namespace Sys2Proof.Machine
open Sys2Proof

/-- Where no loop-back is set there is none to end. -/
theorem endLoop_of_depth_zero {iface inst : Nat} {s : State} (h : (loopOf s iface inst).depth = 0) : endLoop iface inst s = s :=
  if_pos h

/-- The reset of a furrow port without a loop-back leaves the test block. -/
theorem resetFur_tst {p : Nat} {s : State} (h : (loopOf s 2 p).depth = 0) : (resetFur p s).tst = s.tst := by
  have hclear : Within [.free, .bus, .tim, .fur, .key, .regs] s (clearCounters p (disablePort p s)) :=
    Within.op (clearCounters_within _ _) rfl (disablePort_within _ _)
  have htst : (clearCounters p (disablePort p s)).tst = s.tst := (hclear.keeps .tst (by decide)).symm
  have hend : endLoop 2 p (clearCounters p (disablePort p s)) = clearCounters p (disablePort p s) :=
    endLoop_of_depth_zero (by rw [loopOf, htst]; exact h)
  have hsticky (b n : Nat) (t : State) : (resetSticky b n t).tst = t.tst :=
    ((resetSticky_within b n t).keeps .tst (by decide)).symm
  have henable (t : State) : (enablePort p t).tst = t.tst := ((enablePort_within p t).keeps .tst (by decide)).symm
  unfold resetFur
  dsimp only
  split
  · rw [henable, hsticky, hsticky, hsticky, hsticky, hend, htst]
  · rw [hsticky, hsticky, hsticky, hsticky, hend, htst]

/-- Aborting the queued commands of a group leaves the test block. -/
theorem abortQueued_tst (g : Nat) (s : State) : (abortQueued g s).tst = s.tst :=
  ((abortQueued_within g s).keeps .tst (by decide)).symm

/-- The module serves; furrow port 0 has no loop-back, but its entry still holds a count. -/
def countedLoop : State :=
  { State.reset with
    pwr := { State.reset.pwr with sState := 1 }
    tst := { State.reset.tst with loops := [(8192, { sent := 1 })] } }

/-- The request to reset furrow port 0. -/
def resetPort0 : Request := { src := .ring 0, tag := 0, flags := 0, priv := 1, expGen := 0, payload := [2, 0, 0, 0] }

/-- In that state RESET_BLOCK of furrow port 0 leaves the count where it is. -/
theorem exec_resetBlock_countedLoop :
    Goes (exec (.resetBlock resetPort0) countedLoop) (fun t => (loopOf t 2 0).sent = 1) := by
  have hb : bodyResetBlock (rowCmd 0x0004 resetPort0 countedLoop) (takeId countedLoop) =
      ok (abortQueued 0x07 (resetFur 0 (takeId countedLoop))) [] := rfl
  refine goes_of_ok (op := 0x0004) (by decide) hb fun t ht _ _ => ?_
  have htst : t.tst = countedLoop.tst := by
    rw [ht]
    exact (abortQueued_tst _ _).trans (resetFur_tst rfl)
  rw [loopOf, htst]
  rfl

/-- Refutes O42: its clause on RESET_BLOCK says of every state that the port's loop-back entry is empty afterwards, but an entry
whose DEPTH is 0 is no loop-back to end, and what it holds stays. The clause has no hypothesis that excludes such an entry. -/
theorem not_systemAndImageCommandsComplete : ¬ Obligations.SystemAndImageCommandsComplete := by
  unfold Obligations.SystemAndImageCommandsComplete
  rintro ⟨-, -, -, -, -, hreset, -⟩
  obtain ⟨t, ht, -, hloop, -⟩ := hreset resetPort0 0 countedLoop (by decide) rfl (by decide) (by decide) (by decide) rfl rfl
  obtain ⟨u, hu, hsent⟩ := exec_resetBlock_countedLoop
  obtain rfl := Host.Outcome.next.inj (hu.symm.trans ht)
  rw [hloop] at hsent
  exact absurd hsent (by decide)

end Sys2Proof.Machine
end

section
/-! SUPPORT. What the operations of group 0x03 leave of the slots, the pairs and the time of day (R108 to R128). -/

namespace Sys2Proof.Machine
open Sys2Proof

/-! What every step of a fold leaves, the fold leaves. -/

theorem foldl_keeps {α β : Type} {f : State → α → State} (g : State → β) (h : ∀ s a, g (f s a) = g s) (l : List α)
    (s : State) : g (l.foldl f s) = g s := by
  induction l generalizing s with
  | nil => rfl
  | cons a l ih => rw [List.foldl_cons, ih, h]

/-- An operation outside the references leaves the slots. -/
theorem Within.slot_eq {ps : List Part} {s t : State} (h : Within ps s t) (hp : Part.ref ∉ ps) (j : Nat) :
    t.slot j = s.slot j := by
  have hr : s.ref = t.ref := h.keeps .ref hp
  rw [State.slot, ← hr, State.slot]

/-- A replaced slot that keeps a feature leaves every slot's. -/
theorem setSlot_keeps {β : Type} (f : Slot → β) {s : State} {i : Nat} {x : Slot} (h : f x = f (s.slot i)) (j : Nat) :
    f ((s.setSlot i x).slot j) = f (s.slot j) := by
  by_cases hj : j = i
  · subst hj; rw [setSlot_slot_same, h]
  · rw [setSlot_slot_other _ _ _ _ hj]

@[simp] theorem setDup_slot (s : State) (p : Nat) (d : Duplex) (j : Nat) : (s.setDup p d).slot j = s.slot j := rfl
@[simp] theorem setUart_slot (s : State) (u : Nat) (x : Uart) (j : Nat) : (s.setUart u x).slot j = s.slot j := rfl
@[simp] theorem setUart_uart_same (s : State) (u : Nat) (x : Uart) : (s.setUart u x).uart u = x := tget_tset_same _ _ _ _

/-- UNCHECKED of the pairs is no part of a slot (R120). -/
@[simp] theorem refreshUnchecked_slot (s : State) (j : Nat) : (refreshUnchecked s).slot j = s.slot j := by
  unfold refreshUnchecked
  exact foldl_keeps (State.slot · j) (by intro t p; rfl) _ _

/-! A change of a slot's state (R116, R133). -/

/-- What a change of state leaves of a slot: its records, its monitor, its last event. -/
structure SlotKept (x y : Slot) : Prop where
  cfg : y.cfg = x.cfg
  cfgNext : y.cfgNext = x.cfgNext
  lim : y.lim = x.lim
  act : y.act = x.act
  ub : y.ub = x.ub
  prov : y.st.prov = x.st.prov

theorem SlotKept.refl (x : Slot) : SlotKept x x := ⟨rfl, rfl, rfl, rfl, rfl, rfl⟩

theorem SlotKept.trans {x y z : Slot} (h : SlotKept x y) (k : SlotKept y z) : SlotKept x z :=
  ⟨k.cfg.trans h.cfg, k.cfgNext.trans h.cfgNext, k.lim.trans h.lim, k.act.trans h.act, k.ub.trans h.ub, k.prov.trans h.prov⟩

theorem toState_kept (now : Nat) (acc : FieldTime) (x : Slot) (q : QualState) : SlotKept x (toState now acc x q) := by
  unfold toState
  split
  · exact .refl x
  · exact ⟨rfl, rfl, rfl, rfl, rfl, rfl⟩

theorem dropSlot_kept (now : Nat) (acc : FieldTime) (x : Slot) : SlotKept x (dropSlot now acc x) := by
  have h := toState_kept now acc x .unqualified
  unfold dropSlot
  dsimp only
  split
  · exact ⟨h.cfg, h.cfgNext, h.lim, h.act, h.ub, h.prov⟩
  · exact h

/-- A slot replaced by one that is kept so leaves every slot so. -/
theorem setSlot_kept {s : State} {i : Nat} {x : Slot} (h : SlotKept (s.slot i) x) (j : Nat) :
    SlotKept (s.slot j) ((s.setSlot i x).slot j) := by
  by_cases hj : j = i
  · subst hj; rwa [setSlot_slot_same]
  · rw [setSlot_slot_other _ _ _ _ hj]; exact .refl _

theorem foldl_kept {α : Type} {f : State → α → State} {j : Nat} (h : ∀ s a, SlotKept (s.slot j) ((f s a).slot j))
    (l : List α) (s : State) : SlotKept (s.slot j) ((l.foldl f s).slot j) := by
  induction l generalizing s with
  | nil => exact .refl _
  | cons a l ih => exact (h s a).trans (ih (f s a))

theorem dropOne_kept (s : State) (i j : Nat) : SlotKept (s.slot j) ((dropOne s i).slot j) := by
  have hd := setSlot_kept (dropSlot_kept s.now s.acc (s.slot i)) j
  unfold dropOne
  dsimp only
  split
  · exact .refl _
  · split
    · split
      · exact .refl _
      · exact hd
    · split
      · exact .refl _
      · exact hd
    · exact .refl _

/-- The check of lost prerequisites changes the slots' states only (R116). -/
theorem dropLost_kept (s : State) (j : Nat) : SlotKept (s.slot j) ((dropLost s).slot j) := by
  unfold dropLost
  exact foldl_kept (fun t i => dropOne_kept t i j) _ _

@[simp] theorem setSlot_uarts (s : State) (i : Nat) (x : Slot) : (s.setSlot i x).ref.uarts = s.ref.uarts := rfl

theorem dropOne_uarts (s : State) (i : Nat) : (dropOne s i).ref.uarts = s.ref.uarts := by
  unfold dropOne
  dsimp only
  split
  · rfl
  · split
    · split
      · rfl
      · exact setSlot_uarts _ _ _
    · split
      · rfl
      · exact setSlot_uarts _ _ _
    · rfl

/-- The check of lost prerequisites leaves the UARTs. -/
@[simp] theorem dropLost_uarts (s : State) : (dropLost s).ref.uarts = s.ref.uarts := by
  unfold dropLost
  exact foldl_keeps (·.ref.uarts) dropOne_uarts _ _

/-- The check of lost prerequisites leaves UTC. -/
@[simp] theorem dropLost_utc (s : State) : (dropLost s).utc = s.utc := ((dropLost_within s).keeps .utc (by decide)).symm

/-! An event of a slot (R108, R111, R120, R124). -/

theorem takePhase_kept (i : Nat) (pt : PhasePt) (s : State) (j : Nat) : SlotKept (s.slot j) ((takePhase i pt s).slot j) := by
  unfold takePhase
  exact setSlot_kept (by constructor <;> rfl) j

theorem enterPhases_kept (i n k : Nat) (m : Option Sys2Proof.Interval) (s : State) (j : Nat) :
    SlotKept (s.slot j) ((enterPhases i n k m s).slot j) := by
  have h : SlotKept (s.slot i) { s.slot i with sinceQual := if (s.slot i).st.state = .qualifying ∨
      (s.slot i).st.state = .qualified then (s.slot i).sinceQual + n else (s.slot i).sinceQual } := ⟨rfl, rfl, rfl, rfl, rfl, rfl⟩
  unfold enterPhases
  dsimp only
  split
  · exact setSlot_kept h j
  · exact setSlot_kept h j

theorem deliver_kept (i : Nat) (pt : PhasePt) (s : State) (j : Nat) : SlotKept (s.slot j) ((deliver i pt s).slot j) :=
  (takePhase_kept i pt s j).trans (enterPhases_kept _ _ _ _ _ j)

/-- What a ToD message says of UTC is no part of a slot. -/
theorem todTaken_slot (u second : Nat) (offset : Option Int) (leap : Option LeapAnn) (s : State) (j : Nat) :
    (todTaken u second offset leap s).slot j = s.slot j := by
  have ho (t : State) (o : Int) := (offerUtc_within (u + 1) o t).slot_eq (by decide) j
  have hl (t : State) := (offerLeap_within (u + 1) leap t).slot_eq (by decide) j
  unfold todTaken
  generalize (if u = 0 then s.ref.tod.fmt0 else s.ref.tod.fmt1) = fmt
  cases offset with
  | none =>
    dsimp only
    split
    · exact setUart_slot _ _ _ _
    · exact (hl _).trans (setUart_slot _ _ _ _)
  | some o =>
    dsimp only
    split
    · exact (ho _ _).trans (setUart_slot _ _ _ _)
    · exact (hl _).trans ((ho _ _).trans (setUart_slot _ _ _ _))

theorem nextTaken_slot (u : Nat) (s : State) (j : Nat) : (nextTaken u s).slot j = s.slot j := by
  unfold nextTaken
  split
  · rw [todTaken_slot, setUart_slot]
  · rfl

theorem markDisagreed_kept (i : Nat) (s : State) (j : Nat) : SlotKept (s.slot j) ((markDisagreed i s).slot j) := by
  unfold markDisagreed
  split
  · exact setSlot_kept (by constructor <;> rfl) j
  · exact .refl _

/-- The duplex check changes the slots' states and marks only (R121). -/
theorem duplexEdge_kept (i : Nat) (t : FieldTime) (phase : Sys2Proof.Interval) (s : State) (j : Nat) :
    SlotKept (s.slot j) ((duplexEdge i t phase s).slot j) := by
  have hsticky (c : Bool) (u : State) : (if c then setSticky 0 7 u else u).slot j = u.slot j := by
    split
    · exact (setSticky_within 0 7 u).slot_eq (by decide) j
    · rfl
  have hmark (c : Bool) (p : Nat) (d : Duplex) : SlotKept (s.slot j)
      ((if c then markDisagreed (2 * p) (markDisagreed (2 * p + 1) (s.setDup p d)) else s.setDup p d).slot j) := by
    rw [← setDup_slot s p d j]
    split
    · exact (markDisagreed_kept _ _ j).trans (markDisagreed_kept _ _ j)
    · exact .refl _
  unfold duplexEdge
  split
  · exact .refl _
  · dsimp only
    split
    · split
      · refine SlotKept.trans ?_ (dropLost_kept _ j)
        rw [hsticky]
        exact hmark _ _ _
      · rw [setDup_slot]
        exact .refl _
    · rw [setDup_slot]
      exact .refl _

/-- A measurement event of a slot: its activity monitor takes it, with its bound and its provenance (R108, R111). -/
theorem refEvent_slot {i : Nat} {ev : SlotEvent} {s : State} (hi : i < 9) (hc : chanOk s i = true) (hg : edgeGen s i = false)
    (he : (s.slot i).cfg.enable = true) (hh : (s.slot i).st.held = false) (hs : inSafe s 0 i = false)
    (hv : ev.invalid = false) (hu : ev.unlock = false) :
    ((refEvent i ev s).slot i).act = activityEvent s.now (slotPeriodFt s i) ev.at_ (s.slot i).act ∧
      ((refEvent i ev s).slot i).ub = ev.ub ∧ ((refEvent i ev s).slot i).st.prov = ev.prov := by
  have hrow : refEvent i ev s = slotEvent i ev s := by
    rw [refEvent, if_neg (by omega), if_neg (by omega)]
  rw [hrow]
  unfold slotEvent
  simp only [hc, hg, he, hh, hs, hv, hu, Bool.not_true, Bool.or_self, Bool.false_eq_true, if_false]
  generalize hs1 : s.setSlot i _ = t
  have ht : ∀ y, SlotKept (t.slot i) y → y.act = activityEvent s.now (slotPeriodFt s i) ev.at_ (s.slot i).act ∧
      y.ub = ev.ub ∧ y.st.prov = ev.prov := fun y hy => by
    rw [hy.act, hy.ub, hy.prov, ← hs1, setSlot_slot_same]
    exact ⟨rfl, rfl, rfl⟩
  refine ht _ (SlotKept.trans ?_ (dropLost_kept _ i))
  rw [refreshUnchecked_slot]
  refine SlotKept.trans ?_ (duplexEdge_kept _ _ _ _ i)
  split
  · exact .refl _
  · split
    · rw [nextTaken_slot]
      exact setSlot_kept (by constructor <;> rfl) i
    · exact deliver_kept _ _ _ i

end Sys2Proof.Machine
end
section
/-! SUPPORT. The evaluation of the slots, what a written record leaves, and the UARTs and UTC (R111, R112, R119, R123, R127). -/

namespace Sys2Proof.Machine
open Sys2Proof

/-- A closed activity window counts a miss (R111). -/
theorem activityWindowClose_slot {i : Nat} {q : FieldTime} {s : State} (hq : (s.slot i).act.predict = some q)
    (he : (s.slot i).cfg.enable = true) (hh : (s.slot i).st.held = false) (hd : q + slotPeriodFt s i / 4 < s.acc) :
    ((activityWindowClose i s).slot i).act =
      activityMiss (slotPeriodFt s i) (s.slot i).lim.actMiss (!chanOk s i) (s.slot i).act := by
  have hgo : (!(s.slot i).cfg.enable || (s.slot i).st.held || decide (s.acc ≤ q + slotPeriodFt s i / 4)) = false := by
    simp [he, hh, hd]
  simp only [activityWindowClose, hq, hgo, Bool.false_eq_true, if_false]
  rw [(dropLost_kept _ i).act, refreshUnchecked_slot, setSlot_slot_same]

/-! FREQ_EVALUATION (R112, R116, R119). -/

/-- A slot whose written record has taken effect. -/
def slotWritten (x : Slot) : Slot :=
  { x with cfg := x.cfgNext.getD x.cfg, cfgNext := none, lim := x.limNext.getD x.lim, limNext := none }

theorem applyWritten_slot_same (s : State) (i : Nat) : (applyWritten i s).slot i = slotWritten (s.slot i) := by
  unfold applyWritten
  exact setSlot_slot_same _ _ _

theorem applyWritten_slot_other (s : State) {i j : Nat} (h : j ≠ i) : (applyWritten i s).slot j = s.slot j := by
  unfold applyWritten
  exact setSlot_slot_other _ _ _ _ h

/-- Each slot of a list takes its written record. -/
theorem foldl_applyWritten_slot (l : List Nat) (s : State) (j : Nat) :
    (l.foldl (fun t i => applyWritten i t) s).slot j = if j ∈ l then slotWritten (s.slot j) else s.slot j := by
  have htwice (x : Slot) : slotWritten (slotWritten x) = slotWritten x := rfl
  induction l generalizing s with
  | nil => rfl
  | cons i l ih =>
    rw [List.foldl_cons, ih]
    by_cases hj : j = i
    · subst hj
      simp [applyWritten_slot_same, htwice]
    · simp [hj, applyWritten_slot_other s hj]

/-- The pairs' records are no part of a slot. -/
theorem applyDuplex_slot (s : State) (p j : Nat) : (applyDuplex s p).slot j = s.slot j := by
  have hchan (t : State) (n : Nat) (x : PrivChan) : (t.setChan n x).slot j = t.slot j := rfl
  unfold applyDuplex
  dsimp only
  split
  · rfl
  · split
    · rw [setDup_slot]
    · split
      · rw [hchan, hchan, refreshUnchecked_slot, setDup_slot]
      · rw [refreshUnchecked_slot, setDup_slot]

/-- An evaluation replaces the slot by one with its estimates and its state, or leaves it (R112, R116, R118). -/
theorem evaluate_eq (restart : Bool) (s : State) (i : Nat) :
    evaluate restart s i = s ∨ ∃ y, SlotKept (s.slot i) y ∧ evaluate restart s i = s.setSlot i y := by
  unfold evaluate
  extract_lets x e warm wide inA inJ _ x1 s1 t _ y
  have hx1 : SlotKept (s.slot i) x1 := by constructor <;> rfl
  have hstate (q : QualState) : SlotKept (s.slot i) (toState s.now s.acc x1 q) := hx1.trans (toState_kept _ _ _ _)
  have hdrop : SlotKept (s.slot i) y := hx1.trans (dropSlot_kept _ _ _)
  split
  · exact .inr ⟨_, toState_kept _ _ _ _, rfl⟩
  · split
    · exact .inl rfl
    · refine .inr ?_
      split
      · split
        · exact ⟨_, hstate _, rfl⟩
        · exact ⟨_, hx1, rfl⟩
      · split
        · split
          · exact ⟨_, (hstate _).trans (by constructor <;> rfl), rfl⟩
          · exact ⟨_, hx1.trans (by constructor <;> rfl), rfl⟩
        · exact ⟨_, hdrop, rfl⟩
      · split
        · exact ⟨_, hdrop, rfl⟩
        · split
          · exact ⟨_, hdrop.trans (by constructor <;> rfl), rfl⟩
          · exact ⟨_, hx1.trans (by constructor <;> rfl), rfl⟩
      · exact ⟨_, hstate _, rfl⟩

theorem evaluate_kept (restart : Bool) (s : State) (i j : Nat) : SlotKept (s.slot j) ((evaluate restart s i).slot j) := by
  obtain h | ⟨y, hy, h⟩ := evaluate_eq restart s i
  · rw [h]
    exact .refl _
  · rw [h]
    exact setSlot_kept hy j

/-- The time-of-day record in force and the one that waits. -/
def todPair (s : State) : TodCfg × Option TodCfg := (s.ref.tod, s.ref.todNext)

theorem setSlot_todPair (s : State) (i : Nat) (x : Slot) : todPair (s.setSlot i x) = todPair s := rfl

theorem refreshUnchecked_todPair (s : State) : todPair (refreshUnchecked s) = todPair s := by
  unfold refreshUnchecked
  exact foldl_keeps todPair (by intro t p; rfl) _ _

theorem applyWritten_todPair (s : State) (i : Nat) : todPair (applyWritten i s) = todPair s := by
  unfold applyWritten
  exact setSlot_todPair _ _ _

theorem applyDuplex_todPair (s : State) (p : Nat) : todPair (applyDuplex s p) = todPair s := by
  have hdup (t : State) (n : Nat) (x : Duplex) : todPair (t.setDup n x) = todPair t := rfl
  have hchan (t : State) (n : Nat) (x : PrivChan) : todPair (t.setChan n x) = todPair t := rfl
  unfold applyDuplex
  dsimp only
  split
  · rfl
  · split
    · rw [hdup]
    · split
      · rw [hchan, hchan, refreshUnchecked_todPair, hdup]
      · rw [refreshUnchecked_todPair, hdup]

theorem evaluate_todPair (restart : Bool) (s : State) (i : Nat) : todPair (evaluate restart s i) = todPair s := by
  obtain h | ⟨y, -, h⟩ := evaluate_eq restart s i
  · rw [h]
  · rw [h, setSlot_todPair]

/-- An evaluation that is due: each slot's written record takes effect, then the pairs', then the slots are judged. -/
theorem freqEvaluation_due {s : State} (hd : s.ref.nextEval ≤ s.acc) :
    ∃ t : State, freqEvaluation s = { t with ref := { t.ref with
        nextEval := (s.acc + freqEvaluation.s1half) / freqEvaluation.s1ft * freqEvaluation.s1ft + freqEvaluation.s1half } } ∧
      todPair t = (todOf s, none) ∧ ∀ i ∈ List.range 20, SlotKept (slotWritten (s.slot i)) (t.slot i) := by
  refine ⟨_, if_neg (Nat.not_lt.mpr hd), ?_, fun i hi => ?_⟩
  · rw [foldl_keeps todPair (fun t i => evaluate_todPair _ t i), foldl_keeps todPair applyDuplex_todPair,
      foldl_keeps todPair applyWritten_todPair]
    rfl
  · refine SlotKept.trans ?_ (foldl_kept (fun t k => evaluate_kept _ t k i) _ _)
    rw [foldl_keeps (State.slot · i) (fun t p => applyDuplex_slot t p i), foldl_applyWritten_slot,
      if_pos (show i ∈ List.range numSlots from hi)]
    exact .refl _

/-- The next evaluation lies ahead: 500 ms after a second. -/
theorem nextEval_ahead (a : FieldTime) :
    a < (a + freqEvaluation.s1half) / freqEvaluation.s1ft * freqEvaluation.s1ft + freqEvaluation.s1half := by
  have hft : freqEvaluation.s1ft = freqEvaluation.s1half + freqEvaluation.s1half := by decide
  have hdiv := Nat.lt_div_mul_add (a := a + freqEvaluation.s1half) (show 0 < freqEvaluation.s1ft by decide)
  refine Nat.lt_of_add_lt_add_right (n := freqEvaluation.s1half) ?_
  rw [Nat.add_assoc, ← hft]
  exact hdiv

/-! The UARTs and UTC (R38, R123, R124, R127). -/

/-- A NEXT-mode message of the binary format waits for the edges it labels (R124, R126). -/
theorem uartMessage_waits {u : Nat} {bytes : List Byte} {stop : FieldTime} {s : State} {m : TodParsed}
    (hf : (if u = 0 then s.ref.tod.fmt0 else s.ref.tod.fmt1) = 0) (hs : uartSlots s u ≠ []) (hm : parseBinary bytes = some m) :
    ((uartMessage u bytes stop s).uart u).waiting = some ⟨m.second, stop, m.offset, m.leap⟩ := by
  have hbit (n : Nat) : bit 0 n = false := Nat.zero_testBit n
  simp only [uartMessage, hf, hbit, hm, Bool.false_eq_true, if_false, if_neg hs, setUart_uart_same]

/-- A UART source without a label for 3 s is not valid (R123). -/
theorem uartLabelTimeout_lapsed {u : Nat} {s : State} (hl : (s.uart u).last.isSome = true)
    (ha : (s.uart u).lastAt + 3000000000 ≤ s.now) :
    (uartLabelTimeout u s).uart u = { s.uart u with valid := false, run := 0, last := none } := by
  rw [uartLabelTimeout, if_pos ⟨hl, ha⟩, State.uart, dropLost_uarts]
  exact setUart_uart_same _ _ _

/-- UTC that no source has supplied for UTC_HOLD is not valid, and its offset stays (R127). -/
theorem utcHoldExpiry_lapsed {s : State} (hv : s.utc.valid = true)
    (ha : s.utc.lastSupplied + s.ref.tod.utcHold * 1000000000 ≤ s.now) :
    (utcHoldExpiry s).utc = { s.utc with valid := false, source := 0 } := by
  rw [utcHoldExpiry, if_pos ⟨hv, ha⟩, dropLost_utc]

/-- Storing the offset leaves the rest of UTC (R36). -/
theorem storeOffset_utc (s : State) : (storeOffset s).utc = { s.utc with stored := s.utc.offset } := by
  have h (ws : List SealedWrite) : (sealedLog ws s).utc = s.utc := ((sealedLog_within ws s).keeps .utc (by decide)).symm
  simp only [storeOffset, h]

/-- An announced leap second whose marker has come is made (R38). -/
theorem leapSecond_made {s : State} {a : LeapAnn} (ha : s.utc.announced = some a)
    (hl : (s.utc.leap61 || s.utc.leap59) = true) (hd : leapSec s a * s1 ≤ s.acc) :
    let x := (leapSecond s).utc
    x.offset = s.utc.offset + (if a.positive then 1 else -1) ∧ x.leap61 = false ∧ x.leap59 = false ∧ x.announced = none := by
  have hgo : ((s.utc.leap61 || s.utc.leap59) && decide (leapSec s a * s1 ≤ s.acc)) = true := by simp [hl, hd]
  simp only [leapSecond, ha, hgo, if_true]
  split
  · simp only [storeOffset_utc, and_self]
  · simp only [and_self]

end Sys2Proof.Machine
end
section
/-! SUPPORT. What the commands of group 0x03 leave once their body has written (R119, R128 to R132). -/

namespace Sys2Proof.Machine
open Sys2Proof

/-- A command row whose body answers OK and leaves the command processor: the reply is the payload at the time of the request. -/
theorem goes_of_ok_within {ps : List Part} {op : Nat} {body : Body} {rq : Request} {s u : State} {p : List Byte}
    {P : State → Prop} (h : runs op rq s = true) (hb : body (rowCmd op rq s) (takeId s) = ok u p)
    (hw : Within ps (takeId s) u) (hk : Part.kcp ∉ ps)
    (hP : ∀ k : Kcp, Answered op rq p s { u with kcp := k } → P { u with kcp := k }) :
    Goes (kcpRow op (leastPriv s op rq.payload) body rq s) P := by
  refine goes_of_ok h hb fun t ht _ hr => ?_
  have hkcp : (takeId s).kcp = u.kcp := hw.keeps .kcp hk
  rw [ht]
  refine hP t.kcp ?_
  rw [Answered, hr, hw.now_eq, ← hkcp]
  rfl

/-! REF_CONFIG (R114, R128, R129). -/

/-- A slot's written record: its sealed fields are logged, ENABLE is taken at once, the rest waits for the next evaluation. -/
def refWritten (ws : List SealedWrite) (i : Nat) (new : RefCfg) (s : State) : State :=
  refEnable (rewriteWord 0 i (sealedLog ws s)) i new

theorem refWritten_within (ws : List SealedWrite) (i : Nat) (new : RefCfg) (s : State) :
    Within [.bus, .ref, .log, .sealing, .regs] s (refWritten ws i new s) :=
  Within.op (refEnable_within _ _ _) rfl (Within.op (rewriteWord_within _ _ _) rfl
    (Within.op (sealedLog_within _ _) rfl (Within.refl _ _)))

theorem refEnable_slot (s : State) (i : Nat) (new : RefCfg) :
    ((refEnable s i new).slot i).cfgNext = some new ∧ ((refEnable s i new).slot i).cfg.enable = new.enable := by
  have hstate (x : Slot) (q : QualState) (hn : x.cfgNext = some new) (he : x.cfg.enable = new.enable) :
      (toState s.now s.acc x q).cfgNext = some new ∧ (toState s.now s.acc x q).cfg.enable = new.enable := by
    have hk := toState_kept s.now s.acc x q
    rw [hk.cfgNext, hk.cfg]
    exact ⟨hn, he⟩
  unfold refEnable
  dsimp only
  split
  · rw [setSlot_slot_same]
    exact ⟨rfl, rfl⟩
  · split
    · rw [refreshUnchecked_slot, setSlot_slot_same]
      exact hstate _ _ rfl rfl
    · rw [setSlot_slot_same]
      exact hstate _ _ rfl rfl

theorem goes_of_refWritten {op i : Nat} {body : Body} {rq : Request} {s : State} {ws : List SealedWrite} {new : RefCfg}
    (h : runs op rq s = true) (hb : body (rowCmd op rq s) (takeId s) =
      ok (refWritten ws i new (takeId s)) (refRecord (refWritten ws i new (takeId s)) i new)) :
    Goes (kcpRow op (leastPriv s op rq.payload) body rq s) (fun t => refCfgOf t i = new ∧
      (t.slot i).cfg.enable = new.enable ∧ Answered op rq (refRecord t i (refCfgOf t i)) s t) := by
  refine goes_of_ok_within h hb (refWritten_within _ _ _ _) (by decide) fun k hans => ?_
  obtain ⟨hnext, henable⟩ : ((refWritten ws i new (takeId s)).slot i).cfgNext = some new ∧ _ := refEnable_slot _ i new
  have hcfg : refCfgOf { refWritten ws i new (takeId s) with kcp := k } i = new :=
    (congrArg (·.getD ((refWritten ws i new (takeId s)).slot i).cfg) hnext :)
  rw [hcfg]
  exact ⟨rfl, henable, hans⟩

/-! REF_LIMITS (R119, R130). -/

/-- A slot's written limits wait for the next evaluation. -/
def limWritten (i : Nat) (l : RefLimits) (s : State) : State :=
  (rewriteWord 0 i s).setSlot i { s.slot i with limNext := some l }

theorem goes_of_limWritten {op i : Nat} {body : Body} {rq : Request} {s : State} {l : RefLimits} {p : List Byte}
    (h : runs op rq s = true) (hb : body (rowCmd op rq s) (takeId s) = ok (limWritten i l (takeId s)) p) :
    Goes (kcpRow op (leastPriv s op rq.payload) body rq s) (fun t => limOf t i = l ∧
      (t.slot i).lim = (s.slot i).lim ∧ Answered op rq p s t) := by
  have hw : Within [.ref, .regs] (takeId s) (limWritten i l (takeId s)) :=
    Within.op (State.setSlot_within _ _ _) rfl (Within.op (rewriteWord_within _ _ _) rfl (Within.refl _ _))
  have hslot : (limWritten i l (takeId s)).slot i = { s.slot i with limNext := some l } := setSlot_slot_same _ _ _
  exact goes_of_ok_within h hb hw (by decide) fun k hans =>
    ⟨(congrArg (fun x : Slot => x.limNext.getD x.lim) hslot :), (congrArg Slot.lim hslot :), hans⟩

/-! REF_DUPLEX (R120, R122, R131). -/

/-- A pair's written record: OFFSET is logged, and the record waits for the next evaluation. -/
def dupWritten (ws : List SealedWrite) (i : Nat) (d : DuplexCfg) (s : State) : State :=
  (sealedLog ws s).setDup i { (sealedLog ws s).dup i with cfgNext := some d }

theorem goes_of_dupWritten {op i : Nat} {body : Body} {rq : Request} {s : State} {ws : List SealedWrite} {d : DuplexCfg}
    (h : runs op rq s = true) (hb : body (rowCmd op rq s) (takeId s) =
      ok (dupWritten ws i d (takeId s)) (dupRecord (dupWritten ws i d (takeId s)) i d)) :
    Goes (kcpRow op (leastPriv s op rq.payload) body rq s) (fun t => dupOf t i = d ∧
      (t.dup i).cfg = (s.dup i).cfg ∧ Answered op rq (dupRecord t i d) s t) := by
  have hw : Within [.bus, .ref, .log, .sealing, .regs] (takeId s) (dupWritten ws i d (takeId s)) :=
    Within.op (State.setDup_within _ _ _) rfl (Within.op (sealedLog_within _ _) rfl (Within.refl _ _))
  have hdup : (dupWritten ws i d (takeId s)).dup i = { (sealedLog ws (takeId s)).dup i with cfgNext := some d } :=
    setDup_dup_same _ _ _
  have hcfg : ((sealedLog ws (takeId s)).dup i).cfg = (s.dup i).cfg := by
    have href : s.ref = _ := (sealedLog_within ws (takeId s)).keeps .ref (by decide)
    rw [State.dup, ← href, State.dup]
  exact goes_of_ok_within h hb hw (by decide) fun k hans =>
    ⟨(congrArg (fun x : Duplex => x.cfgNext.getD x.cfg) hdup :), ((congrArg Duplex.cfg hdup).trans hcfg :), hans⟩

/-! TOD_CONFIG (R132). -/

/-- A written time-of-day record: HOST_UTC_OFFSET is logged, and the record waits for the next evaluation. -/
def todWritten (ws : List SealedWrite) (g : TodCfg) (s : State) : State :=
  { sealedLog ws s with ref := { (sealedLog ws s).ref with todNext := some g } }

theorem goes_of_todWritten {op : Nat} {body : Body} {rq : Request} {s : State} {ws : List SealedWrite} {g : TodCfg}
    {p : List Byte} (h : runs op rq s = true) (hb : body (rowCmd op rq s) (takeId s) = ok (todWritten ws g (takeId s)) p) :
    Goes (kcpRow op (leastPriv s op rq.payload) body rq s) (fun t => todOf t = g ∧ t.ref.tod = s.ref.tod ∧
      Answered op rq p s t) := by
  have hlog := sealedLog_within ws (takeId s)
  have href : s.ref = _ := hlog.keeps .ref (by decide)
  have hw : Within [.bus, .ref, .log, .sealing, .regs] (takeId s) (todWritten ws g (takeId s)) :=
    Within.ref (by decide) (Within.op hlog rfl (Within.refl _ _))
  exact goes_of_ok_within h hb hw (by decide) fun k hans => ⟨rfl, (congrArg Ref.tod href.symm :), hans⟩

end Sys2Proof.Machine
end

section
/-! SUPPORT. The rows of group 0x03 complete (R108 to R133, R195, R198). -/

namespace Sys2Proof.Machine
open Sys2Proof

/-- A write under an open window is accepted unless the log is at fault (R195, R205). -/
theorem sealedStatus_open {s : State} (hw : windowOpen s = true) (hl : s.log.fault = false) (ws : List SealedWrite) :
    sealedStatus s ws = 0 := by
  simp [sealedStatus, hw, hl]

/-- Settles O16: each command's body under its checks, each event's effect under its conditions. -/
theorem referencesComplete : Obligations.ReferencesComplete := by
  unfold Obligations.ReferencesComplete
  refine ⟨?_, ?_, ?_, ?_, ?_, ?_, ?_, ?_, ?_, ?_, ?_, ?_⟩
  · intro rq s i h hl hi h8 hflags hkind hedge hf1 hf2 hin hz hd1 hd2 hw hlog
    have hopen (ws : List SealedWrite) : ¬sealedStatus (takeId s) ws ≠ 0 := not_not.mpr (sealedStatus_open hw hlog ws)
    have hne1 : (rowCmd 0x0301 rq s).req.payload.length ≠ 1 := by rw [rowCmd, hl]; decide
    have h20 : i < 20 := by omega
    subst hi
    refine goes_of_refWritten h ((if_neg hne1).trans ((if_neg (not_not.mpr hl)).trans
      ((checked_of_all ?_ _ _).trans (if_neg (hopen _)))))
    simp [zeroAt, rowCmd, bodyRefConfig.us10i, *]
  · intro rq s h hl hm
    refine kcpRow_reads 0x0302 bodyRefStatus rq s _ h ((if_neg (not_not.mpr hl)).trans (checked_of_all ?_ _ _))
    intro c hc
    obtain rfl := List.mem_singleton.mp hc
    exact decide_eq_true hm
  · intro rq s l h hl hlim h20 hmiss ha1 ha2 hr1 hr2 har hq1 hq2 hwarm hf1 hf2 hz hp1 hp2
    have hne1 : (rowCmd 0x0303 rq s).req.payload.length ≠ 1 := by rw [rowCmd, hl]; decide
    subst hlim
    refine goes_of_limWritten h ((if_neg hne1).trans ((if_neg (not_not.mpr hl)).trans (checked_of_all ?_ _ _)))
    simp [zeroAt, rowCmd, *]
  · intro rq s d h hl hd h4 h1 hbind hz hl1 hl2 ht1 ht2 ho1 ho2 hw hlog
    have hopen (ws : List SealedWrite) : ¬sealedStatus (takeId s) ws ≠ 0 := not_not.mpr (sealedStatus_open hw hlog ws)
    have hne1 : (rowCmd 0x0304 rq s).req.payload.length ≠ 1 := by rw [rowCmd, hl]; decide
    subst hd
    have hpair : (!bit (rd rq.payload 1 1) 0 || bindable (takeId s) (rd rq.payload 0 1)) = true := by
      rcases hbind with hfree | hok
      · rw [show bit (rd rq.payload 1 1) 0 = false from hfree]; rfl
      · rw [show bindable (takeId s) (rd rq.payload 0 1) = true from hok, Bool.or_true]
    refine goes_of_dupWritten h ((if_neg hne1).trans ((if_neg (not_not.mpr hl)).trans
      ((checked_of_all ?_ _ _).trans (if_neg (hopen _)))))
    simp [zeroAt, rowCmd, *]
  · intro rq s g h hl hg hsrc hlist hf0 hf1 hz1 hb1 hb2 hb3 hb4 hleap hz2 hhold hw hlog
    have hopen (ws : List SealedWrite) : ¬sealedStatus (takeId s) ws ≠ 0 := not_not.mpr (sealedStatus_open hw hlog ws)
    subst hg
    refine goes_of_todWritten h ((if_neg (List.ne_nil_of_length_eq_add_one hl)).trans ((if_neg (not_not.mpr hl)).trans
      ((checked_of_all ?_ _ _).trans (if_neg (hopen _)))))
    refine List.forall_mem_append.mpr ⟨List.forall_mem_append.mpr ⟨?_, ?_⟩, ?_⟩
    · exact List.forall_mem_map.mpr fun i hi => by simpa [rowCmd] using hsrc i hi
    · exact List.forall_mem_map.mpr hlist
    · simp [zeroAt, rowCmd, *]
  · intro i ev s hi hc hg he hh hs hv hu
    exact goes_unit (decide_eq_true (Nat.lt_trans hi (by decide))) fun k => refEvent_slot hi hc hg he hh hs hv hu
  · intro i q s hi hq he hh hd
    exact goes_unit (decide_eq_true hi) fun k => activityWindowClose_slot hq he hh hd
  · intro s hd
    obtain ⟨t, ht, htod, hslots⟩ := freqEvaluation_due hd
    obtain ⟨htod, hnext⟩ := Prod.mk.inj htod
    refine goes_done fun k => ?_
    rw [ht]
    exact ⟨nextEval_ahead _, htod, hnext, fun i hi => ⟨(hslots i hi).cfg, (hslots i hi).cfgNext, (hslots i hi).lim⟩⟩
  · intro u bytes stop s m hu hf hs hm
    exact goes_unit (decide_eq_true hu) fun k => uartMessage_waits hf hs hm
  · intro u s hu hl ha
    have h := uartLabelTimeout_lapsed hl ha
    exact goes_unit (decide_eq_true hu) fun k => ⟨congrArg Uart.valid h, congrArg Uart.run h, congrArg Uart.last h⟩
  · intro s hv ha
    have h := utcHoldExpiry_lapsed hv ha
    exact goes_done fun k => ⟨congrArg Utc.valid h, congrArg Utc.source h, (congrArg Utc.offset h :)⟩
  · intro s a ha hl hd
    exact goes_done fun k => leapSecond_made ha hl hd

end Sys2Proof.Machine
end

section
/-! SUPPORT. What group 0x01 changes of the channels, the interpolators and the time base, and what leaves them (R52 to R76). -/

namespace Sys2Proof.Machine
open Sys2Proof

/-- An operation outside the time base leaves it. -/
theorem Within.tim_eq {ps : List Part} {s t : State} (h : Within ps s t) (hp : Part.tim ∉ ps) : t.tim = s.tim :=
  (h.keeps .tim hp).symm

/-- An operation outside the time base leaves the privileged channels. -/
theorem Within.chan_eq {ps : List Part} {s t : State} (h : Within ps s t) (hp : Part.tim ∉ ps) (n : Nat) :
    t.chan n = s.chan n := by
  rw [State.chan, h.tim_eq hp, State.chan]

/-- An operation outside the time base leaves the general interpolators. -/
theorem Within.interp_eq {ps : List Part} {s t : State} (h : Within ps s t) (hp : Part.tim ∉ ps) (n : Nat) :
    t.interp n = s.interp n := by
  rw [State.interp, h.tim_eq hp, State.interp]

/-- A fold establishes a fact of each element of its list: the element's own step establishes it and every step keeps it. -/
theorem foldl_establishes {α : Type} {f : State → α → State} {P : State → α → Prop} (hset : ∀ s a, P (f s a) a)
    (hkeep : ∀ s a b, P s b → P (f s a) b) (l : List α) (s : State) : ∀ a ∈ l, P (l.foldl f s) a := by
  induction l using List.reverseRecOn with
  | nil => simp
  | append_singleton l a ih =>
    intro b hb
    rw [List.foldl_concat]
    rcases List.mem_append.mp hb with hb | hb
    · exact hkeep _ _ _ (ih b hb)
    · rw [List.mem_singleton.mp hb]
      exact hset _ _

/-! A verification starts (R75). -/

theorem startVerify_chan_same (s : State) (n : Nat) :
    (startVerify s n).chan n = { s.chan n with checking := true, converting := none } := by
  rw [startVerify, (holdChan_within _ _).chan_eq (by decide), setChan_chan_same]

theorem startVerify_chan_other (s : State) {n j : Nat} (h : j ≠ n) : (startVerify s n).chan j = s.chan j := by
  rw [startVerify, (holdChan_within _ _).chan_eq (by decide), setChan_chan_other _ _ _ _ h]

/-- Every channel of a list is under verification once each of them has been started. -/
theorem foldl_startVerify_checking (l : List Nat) (s : State) : ∀ n ∈ l, ((l.foldl startVerify s).chan n).checking = true := by
  refine foldl_establishes (P := fun s n => (s.chan n).checking = true) (fun s n => ?_) (fun s n j hj => ?_) l s
  · rw [startVerify_chan_same]
  · by_cases h : j = n
    · rw [h, startVerify_chan_same]
    · rwa [startVerify_chan_other s h]

/-- The verification's end gives the channel its verdict (R75). -/
theorem timCalVerifyEnd_chan {n : Nat} {hist : List Nat} {s : State} (hc : (s.chan n).checking = true)
    (hl : hist.length = 256) (hs : hist.sum = 2 ^ 18) :
    let x := (timCalVerifyEnd n hist s).chan n
    x.checking = false ∧ x.fail = !x.pass ∧
      x.pass = (decide (maxAbs (hist.map (fun h : Nat => (h : Int) - 1024)) ≤ 256) &&
        decide (maxAbs (inlSums hist 0) ≤ 512)) := by
  have hgo : (!(s.chan n).checking || decide (hist.length ≠ 256) || decide (hist.sum ≠ 2 ^ 18)) = false := by
    simp [hc, hl, hs]
  simp only [timCalVerifyEnd, hgo, Bool.false_eq_true, if_false, (holdChan_within _ _).chan_eq (by decide),
    setChan_chan_same, and_self]

/-! A channel unlocks (R63). -/

theorem unlockChan_chan_lock (n : Nat) (s : State) : ((unlockChan n s).chan n).lock = false := by
  rw [unlockChan, (setCond_within _ _ _ _).chan_eq (by decide), setChan_chan_same]

theorem unlockChan_chan_other (s : State) {n j : Nat} (h : j ≠ n) : (unlockChan n s).chan j = s.chan j := by
  rw [unlockChan, (setCond_within _ _ _ _).chan_eq (by decide), setChan_chan_other _ _ _ _ h]

/-- Every channel of a list is unlocked once each of them has been. -/
theorem foldl_unlockChan_lock (l : List Nat) (s : State) :
    ∀ n ∈ l, ((l.foldl (fun s n => unlockChan n s) s).chan n).lock = false := by
  refine foldl_establishes (P := fun s n => (s.chan n).lock = false) (fun s n => unlockChan_chan_lock n s)
    (fun s n j hj => ?_) l s
  by_cases h : j = n
  · rw [h, unlockChan_chan_lock]
  · rwa [unlockChan_chan_other s h]

/-- The tick counter and the time base, without the channels and the interpolators. -/
def tickAndBase (s : State) : Nat × TimeBase := (s.tim.tick, s.tim.tb)

theorem unlockChan_tickAndBase (s : State) (n : Nat) : tickAndBase (unlockChan n s) = tickAndBase s := by
  rw [tickAndBase, unlockChan, (setCond_within _ _ _ _).tim_eq (by decide)]
  rfl

/-- A window within ±2 ppm counts, and the sixteenth locks the channel (R63). -/
theorem channelLockWindow_chan {n : Nat} {fast slow : Freq} {s : State} (ha : s.tim.tb.aplLock = true)
    (hf5 : withinPpm 5 fast = true) (hs5 : withinPpm 5 slow = true) (hf2 : withinPpm 2 fast = true)
    (hs2 : withinPpm 2 slow = true) :
    (channelLockWindow n fast slow s).chan n = { s.chan n with
      fastErr := fast, slowErr := slow, lockWindows := satInc sat16 (s.chan n).lockWindows
      lock := (s.chan n).lock || decide (16 ≤ satInc sat16 (s.chan n).lockWindows) } := by
  simp only [channelLockWindow, ha, hf5, hs5, hf2, hs2, Bool.not_true, Bool.and_self, Bool.or_self, Bool.false_eq_true,
    if_false, if_true, setChan_chan_same]
  split
  · rw [(setCond_within _ _ _ _).chan_eq (by decide), setChan_chan_same]
  · rw [setChan_chan_same]

end Sys2Proof.Machine
end

section
/-! SUPPORT. The commands of group 0x01 complete (R72 to R76). -/

namespace Sys2Proof.Machine
open Sys2Proof

/-- A command that wants its reply, and whose requester is there, is given it. -/
theorem addReply_wanted {c : Cmd} (hl : c.lost = false) (hn : c.noReply = false) (st d g : Nat) (p : List Byte) (s : State) :
    addReply c st d g p s = { s with kcp := { s.kcp with replies := s.kcp.replies ++ [mkReply c s.now st d g p] } } := by
  rw [addReply, hl, hn, Bool.false_and, Bool.or_self, if_neg Bool.false_ne_true]

/-- A command row whose body answers PENDING and leaves the command processor: the reply bears the generation of its
acceptance (R488). -/
theorem goes_of_pend_within {ps : List Part} {op : Nat} {body : Body} {rq : Request} {s u : State} {p : List Byte}
    {P : State → Prop} (h : runs op rq s = true) (hb : body (rowCmd op rq s) (takeId s) = pend u p)
    (hw : Within ps (takeId s) u) (hk : Part.kcp ∉ ps)
    (hP : ∀ k : Kcp, Pending op rq p s { u with kcp := k } → P { u with kcp := k }) :
    Goes (kcpRow op (leastPriv s op rq.payload) body rq s) P := by
  have hkcp : (takeId s).kcp = u.kcp := hw.keeps .kcp hk
  have hans : conclude (rowCmd op rq s) (takeId s) (pend u p) =
      addReply (rowCmd op rq s) stPENDING 0 s.kcp.g p (commitG (takeId s) u) := rfl
  refine ⟨_, kcpRow_runs op body rq s h, ?_⟩
  rw [hb, hans, addReply_wanted rfl (runs_reply op rq s h), commitG_kcp_replies, ← hkcp, commitG_eq]
  refine hP _ ?_
  rw [Pending, hw.now_eq]
  rfl

/-! TIM_MEASURE_RESULT (R74). -/

/-- The commands that Nuheif holds are in no view of the generations (R486). -/
theorem genKcp_measures (s : State) (ms : List Measure) (k : Kcp) :
    genKcp s { s with tim := { s.tim with measures := ms }, kcp := k } = k := by
  have h : changedGroups s { s with tim := { s.tim with measures := ms }, kcp := k } = changedGroups s s := by
    unfold changedGroups metroChanged
    rfl
  rw [genKcp, h, changedGroups_self, if_pos rfl]

/-- A reply due to a TIM_MEASURE is OK or TIMEOUT. -/
theorem measureDue_status {s : State} {m : Measure} {st : Nat} {p : List Byte} (h : measureDue s m = some (st, p)) :
    st = stOK ∨ st = stTIMEOUT := by
  unfold measureDue at h
  split at h
  · exact .inl (congrArg Prod.fst (Option.some.inj h)).symm
  · split at h
    · exact .inr (congrArg Prod.fst (Option.some.inj h)).symm
    · cases h

/-- A held command that is answered OK or TIMEOUT, in a state that the answer leaves as it is. -/
theorem conclude_timed {c : Cmd} {s : State} {st : Nat} {p : List Byte} (hst : st = stOK ∨ st = stTIMEOUT)
    (hl : c.lost = false) (hn : c.noReply = false) :
    conclude c s { st := s, status := st, payload := p } =
      { s with kcp := { s.kcp with replies := s.kcp.replies ++ [mkReply c s.now st 0 s.kcp.g p] } } := by
  rcases hst with rfl | rfl
  · simp only [conclude, Bool.false_eq_true, if_false, if_true, Option.getD_none, commitG_self, addReply_wanted hl hn]
  · exact addReply_wanted hl hn _ _ _ _ _

/-- The first TIM_MEASURE, once it is due, leaves the held ones and its reply is delivered. -/
theorem timMeasureResult_due {s : State} {m : Measure} {rest : List Measure} {c : Cmd} {st : Nat} {p : List Byte}
    (hm : s.tim.measures = m :: rest) (hd : measureDue s m = some (st, p))
    (hc : s.kcp.slots.find? (fun x => x.id == m.id) = some c) (hl : c.lost = false) (hn : c.noReply = false) :
    timMeasureResult s = { s with
      tim := { s.tim with measures := rest.filter (fun x => x.id != m.id) }
      kcp := { s.kcp with
        slots := s.kcp.slots.filter (fun x => x.id != m.id)
        replies := s.kcp.replies ++ [mkReply c s.now st 0 s.kcp.g p] } } := by
  have hfind : s.tim.measures.find? (fun m => (measureDue s m).isSome) = some m := by simp [hm, hd]
  have hrest : s.tim.measures.filter (fun x => x.id != m.id) = rest.filter (fun x => x.id != m.id) := by simp [hm]
  simp only [timMeasureResult, hfind, hd, hrest, Option.getD_some, answerHeld, hc, conclude_timed (measureDue_status hd) hl hn]

/-! TIM_CAL_RUN (R75). -/

/-- Where every named channel is locked, feeds neither the selected reference nor a comparison and is not under verification,
the verifications start. -/
theorem bodyTimCalRun_free {c : Cmd} {s : State} (hl : c.req.payload.length = 4) (hz : rd c.req.payload 2 2 = 0)
    (hfree : ∀ n ∈ chanList (rd c.req.payload 0 2), feedsSelected s n = false ∧ feedsTandem s n = false ∧
      (s.chan n).lock = true ∧ (s.chan n).checking = false) :
    bodyTimCalRun c s = pend ((chanList (rd c.req.payload 0 2)).foldl startVerify s) [] := by
  have hserves : ¬(chanList (rd c.req.payload 0 2)).any
      (fun n => feedsSelected s n || feedsTandem s n || !(s.chan n).lock) = true := by
    rw [List.any_eq_true]
    rintro ⟨n, hn, hbad⟩
    obtain ⟨hsel, htan, hlock, -⟩ := hfree n hn
    simp [hsel, htan, hlock] at hbad
  have hchecking : ¬(chanList (rd c.req.payload 0 2)).any (fun n => (s.chan n).checking) = true := by
    rw [List.any_eq_true]
    rintro ⟨n, hn, hbad⟩
    obtain ⟨-, -, -, hcheck⟩ := hfree n hn
    exact absurd hbad (Bool.eq_false_iff.mp hcheck)
  refine (if_neg (not_not.mpr hl)).trans ((checked_of_all ?_ _ _).trans ((if_neg hserves).trans (if_neg hchecking)))
  simp [zeroAt, hz]

/-! TIM_CONFIG (R73). -/

/-- A warm-up configuration written with its sealed fields logged. -/
def timWritten (ws : List SealedWrite) (g : TimCfg) (s : State) : State :=
  { sealedLog ws s with tim := { (sealedLog ws s).tim with cfg := g } }

theorem timWritten_within (ws : List SealedWrite) (g : TimCfg) (s : State) :
    Within [.bus, .tim, .log, .sealing, .regs] s (timWritten ws g s) :=
  Within.tim (by decide) (Within.op (sealedLog_within ws s) rfl (Within.refl _ _))

/-- Settles O12: each command's body under its checks, the held and the running measurements through what they leave. -/
theorem timeBaseAndIntervalCommandsComplete : Obligations.TimeBaseAndIntervalCommandsComplete := by
  unfold Obligations.TimeBaseAndIntervalCommandsComplete
  refine ⟨?_, ?_, ?_, ?_, ?_, ?_, ?_⟩
  · intro rq s h hp
    exact kcpRow_reads 0x0101 bodyTbStatus rq s (tbStatus s s.tim.tick) h (if_pos hp)
  · intro rq s h hl hdrift hw1 hw2 hz hhold hopen hlog
    refine goes_of_ok_within h (u := timWritten _ ⟨rdI rq.payload 0 8, rd rq.payload 8 2, rd rq.payload 12 4⟩ (takeId s))
      ((if_neg (List.ne_nil_of_length_eq_add_one hl)).trans ((if_neg (not_not.mpr hl)).trans
        ((checked_of_all ?_ _ _).trans (if_neg (not_not.mpr (sealedStatus_open hopen hlog _))))))
      (timWritten_within _ _ _) (by decide) (fun k hans => ⟨rfl, hans⟩)
    simp [zeroAt, rowCmd, *]
  · intro rq s h hl ha hb ht1 ht2 hz hroom
    refine goes_of_held h (u := { takeId s with tim := { s.tim with measures := s.tim.measures ++ [_] } })
      ((if_neg (not_not.mpr hl)).trans ((checked_of_all ?_ _ _).trans ((if_neg (Nat.not_le.mpr hroom)).trans ?_)))
      (fun t ht hs => ⟨hs, (congrArg (·.tim.measures) ht :)⟩)
    · simp [zeroAt, rowCmd, *]
    · simp [rowCmd, takeId]
  · intro s m rest c st p hm hd hc hl hn
    refine ⟨commitG s (timMeasureResult s), rfl, ?_⟩
    rw [timMeasureResult_due hm hd hc hl hn, commitG_eq, genKcp_measures]
    exact ⟨rfl, by rw [ite_self]⟩
  · intro rq s h hl hz
    refine kcpRow_reads 0x0104 bodyTimCalStatus rq s _ h ((if_neg (not_not.mpr hl)).trans (checked_of_all ?_ _ _))
    simp [zeroAt, rowCmd, hz]
  · intro rq s h hl hz hfree
    exact goes_of_pend_within h (bodyTimCalRun_free hl hz hfree)
      (Within.foldl (ps := [.tim, .ref]) startVerify_within _ (Within.refl _ _)) (by decide)
      (fun k hans => ⟨hans, fun n hn => foldl_startVerify_checking _ _ n hn⟩)
  · intro chan hist s hn hc hl hs
    exact goes_unit (decide_eq_true hn) fun k => timCalVerifyEnd_chan hc hl hs

end Sys2Proof.Machine
end

section
/-! SUPPORT. What the events of the time base, the warm-up procedure and the interpolators leave (R52 to R71). -/

namespace Sys2Proof.Machine
open Sys2Proof

/-- The first lock starts the tick counter at zero (R52). -/
theorem apllFirstLock_tim {s : State} (hp : s.pwr.released = true) (hr : s.tim.tb.running = false) :
    (apllFirstLock s).tim = { s.tim with
      tick := 0, tb := { s.tim.tb with running := true, aplLock := true, oscPresent := true } } := by
  rw [apllFirstLock, hp, hr, if_neg (by decide)]

/-- OSC0 loss: what it leaves of the tick counter and the time base, and no channel locked (R54, R63). -/
theorem osc0Loss_leaves {d : Bool} {s : State} (hr : s.tim.tb.running = true) (ho : s.tim.tb.oscLoss = false) :
    tickAndBase (osc0Loss d s) = (s.tim.tick, { s.tim.tb with
      oscLoss := true, aplLock := false, oscPresent := d, warmup := true, lossCount := satInc sat32 s.tim.tb.lossCount }) ∧
    ∀ n ∈ List.range 16, ((osc0Loss d s).chan n).lock = false := by
  rw [osc0Loss, hr, ho, if_neg (by decide)]
  extract_lets b s1 s2
  have hdrops (t : State) : Within [.sel, .ref] t (dropSteps (dropLost t)) :=
    Within.op (dropSteps_within _) rfl (Within.op (dropLost_within _) rfl (Within.refl _ _))
  have hdeclared : Within [.bus, .log, .regs] s1 s2 :=
    Within.op (logPut_within _ _ _ _ _) rfl (Within.op (setCond_within _ _ _ _) rfl (Within.refl _ _))
  refine ⟨?_, fun n hn => ?_⟩
  · rw [tickAndBase, (hdrops _).tim_eq (by decide)]
    refine (foldl_keeps tickAndBase unlockChan_tickAndBase _ s2).trans ?_
    rw [tickAndBase, hdeclared.tim_eq (by decide)]
    rfl
  · rw [(hdrops _).chan_eq (by decide)]
    exact foldl_unlockChan_lock _ _ n hn

/-- The relock restarts warm-up (R54, R56). -/
theorem osc0Relock_tb {s : State} (ho : s.tim.tb.oscLoss = true) :
    (osc0Relock s).tim.tb =
      restartWarmup s { s.tim.tb with oscLoss := false, aplLock := true, oscPresent := true, warmup := true } := by
  have hw (u : State) : Within [.bus, .log, .regs] u (holdoverExit 3 (setCond 0 1 false u)) :=
    Within.op (holdoverExit_within _ _) rfl (Within.op (setCond_within _ _ _ _) rfl (Within.refl _ _))
  rw [osc0Relock, ho, if_neg (by decide)]
  dsimp only
  split <;> exact congrArg Tim.tb ((hw _).tim_eq (by decide))

/-- The relock returns the M tile to WARM-UP from any later state (R57). -/
theorem osc0Relock_mState {s : State} (ho : s.tim.tb.oscLoss = true) (hm : laterState s.osc.mState = true) :
    (osc0Relock s).osc.mState = .warmUp := by
  simp only [osc0Relock, ho, hm, Bool.not_true, Bool.false_eq_true, if_false, if_true]

/-- OVEN_RDY counts as high: the hold starts where none has, and the flag clears where the drift criterion is met (R55, R56). -/
theorem ovenRdyHigh_tb {s : State} (ho : s.tim.tb.ovenHigh = false) :
    (ovenRdyHigh s).tim.tb = { s.tim.tb with
      ovenHigh := true, ovenPin := true, ovenSince := s.now, holdStart := s.tim.tb.holdStart.or (some s.now)
      warmup := s.tim.tb.warmup && !s.tim.tb.driftMet } := by
  simp only [ovenRdyHigh, ho, Bool.false_eq_true, if_false, State.setTb]

/-- OVEN_RDY counts as low: warm-up restarts (R55, R56). -/
theorem ovenRdyLow_tb {s : State} (ho : s.tim.tb.ovenHigh = true) :
    (ovenRdyLow s).tim.tb = restartWarmup s { s.tim.tb with ovenHigh := false, ovenPin := false, warmup := true } := by
  rw [ovenRdyLow, ho]
  simp only [Bool.not_true, Bool.false_eq_true, if_false, (dropLost_within _).tim_eq (by decide)]
  split <;> exact congrArg Tim.tb ((holdoverExit_within _ _).tim_eq (by decide))

/-- OVEN_RDY counting as low returns the M tile to WARM-UP from any later state (R57). -/
theorem ovenRdyLow_mState {s : State} (ho : s.tim.tb.ovenHigh = true) (hm : laterState s.osc.mState = true) :
    (ovenRdyLow s).osc.mState = .warmUp := by
  have hdrop (u : State) : (dropLost u).osc = u.osc := ((dropLost_within u).keeps .osc (by decide)).symm
  simp only [ovenRdyLow, ho, hm, Bool.not_true, Bool.false_eq_true, if_false, if_true, hdrop]

/-- A window without a comparison source: the criterion is the hold time (R56). -/
theorem warmupWindowEnd_hold {freq : Freq} {h : Nat} {s : State} (hc : comparisonSource s = 0)
    (hr : s.tim.tb.running = true) (ho : s.tim.tb.oscLoss = false) (hw : s.tim.tb.windowStart + 10000000000 ≤ s.now)
    (hh : s.tim.tb.holdStart = some h) :
    let x := (warmupWindowEnd 0 freq s).tim.tb
    x.run = 0 ∧ x.holdTimer = true ∧ x.windowStart = s.now ∧
      x.driftMet = decide (h + s.tim.judging.holdTime * 1000000000 ≤ s.now) := by
  have hgo : (!s.tim.tb.running || s.tim.tb.oscLoss || decide (s.now < s.tim.tb.windowStart + 10000000000) ||
      decide (0 ≠ comparisonSource s)) = false := by
    simp [hr, ho, hw, hc]
  simp only [warmupWindowEnd, hgo, hh, Bool.false_eq_true, if_false, if_true, State.setTb, and_self, ge_iff_le]

/-- A passed edge at a channel that takes a start begins its conversion (R59, R65). -/
theorem chanEdge_starts {n edge : Nat} {s : State} (hc : (s.chan n).checking = false)
    (hp : chanPrescale s n ≤ (s.chan n).edges + 1) (hv : (s.chan n).converting = none) (hf : (s.chan n).freeAt ≤ edge) :
    (chanEdge n edge s).chan n = { s.chan n with
      cycles := (s.chan n).cycles + 1, edges := 0, passedPs := some edge
      converting := some (stopTick edge), startCycles := (s.chan n).cycles + 1 } := by
  simp [chanEdge, hc, hp, hv, Nat.not_lt.mpr hf]

/-- The internal PPS rises beside channel 8's conversion: the channel's own edge is all that it takes (R96). -/
theorem measuredEdge_chan {n edge : Nat} {hit : Option Nat} {s : State} (hr : s.tim.tb.running = true) :
    (measuredEdge true n edge hit s).chan n = (chanEdge n edge s).chan n := by
  rw [measuredEdge, hr, if_neg (by decide), if_pos rfl, privEdge]
  split
  · exact (gnssPpsEdge_within _).chan_eq (by decide) n
  · rfl

/-- The end of a privileged conversion (R60, R61, R64). -/
theorem conversionEnd_chan {n k e tk : Nat} {s : State} (hc : (s.chan n).converting = some tk) (h1 : 1 ≤ k) (h2 : k ≤ 256) :
    (conversionEnd true n (some k) e s).chan n = { s.chan n with
      converting := none, freeAt := (tk + k) * 800 + 40000, missedPending := false, recCycles := (s.chan n).startCycles
      last := some ⟨tk, privD k, s.tim.tb.warmup, !(s.chan n).lock, false, !(s.chan n).lock, (s.chan n).missedPending⟩ } := by
  have hgo : conversionEnd true n (some k) e s = privEnd n k tk s := by
    simp only [conversionEnd, hc, h1, h2, and_self, if_true]
  rw [hgo]
  exact setChan_chan_same _ _ _

/-- The first refresh starts (R67). -/
theorem refreshStart_interp {n : Nat} {s : State} (hs : (s.interp n).started = false) :
    (refreshStart n s).interp n = { s.interp n with
      running := true, started := true, start := s.now, hits := 0, discards := 0
      abandoned := if (s.interp n).running then satInc sat16 (s.interp n).abandoned else (s.interp n).abandoned } := by
  simp only [refreshStart, hs, Bool.false_and, Bool.false_eq_true, if_false, setInterp_interp_same]

/-- A refresh that is accepted waits for the marker that takes it (R68). -/
theorem refreshComplete_interp {n : Nat} {h : List Nat} {s : State} (hr : (s.interp n).running = true)
    (hok : refreshOk (s.interp n) h = true) :
    (refreshComplete n h s).interp n = { s.interp n with
      running := false, hits := 2 ^ 18, accepted := some h, acceptedStart := (s.interp n).start, rejectRun := 0
      calFault := false } := by
  simp only [refreshComplete, hr, hok, Bool.not_true, Bool.false_eq_true, if_false, if_true, setInterp_interp_same]

/-- An accepted table is taken (R68). -/
theorem tableReplace_interp {n : Nat} {h : List Nat} {s : State} (ha : (s.interp n).accepted = some h) :
    (tableReplace n s).interp n = { s.interp n with
      table := some h, tableStart := (s.interp n).acceptedStart, accepted := none } := by
  simp only [tableReplace, ha, setInterp_interp_same]

/-- A self-check that is due and finds a spare (R71). -/
theorem interpolatorSelfcheck_interp {p : Nat} {diff : Sys2Proof.Interval} {s : State} (hd : selfcheckDue s p = true)
    (hs : (spareFor s p).isSome = true) :
    let x := s.interp (1024 + p)
    let fail := decide (10 * 65536 < diff.natAbs * 1000)
    (interpolatorSelfcheck p diff s).interp (1024 + p) = { x with
      selfAt := some s.now, selfFail := fail, selfPassed := x.selfPassed || !fail } := by
  simp only [interpolatorSelfcheck, hd, hs, Bool.and_self, if_true, gt_iff_lt]
  split
  · rw [(setSticky_within _ _ _).interp_eq (by decide), setInterp_interp_same]
  · rw [setInterp_interp_same]

/-- Settles O13: each event's effect under its conditions, at the time base, at a channel or at an interpolator. -/
theorem timeBaseAndIntervalEventsComplete : Obligations.TimeBaseAndIntervalEventsComplete := by
  unfold Obligations.TimeBaseAndIntervalEventsComplete
  refine ⟨?_, ?_, ?_, ?_, ?_, ?_, ?_, ?_, ?_, ?_, ?_, ?_, ?_⟩
  · intro s hp hr
    have h := apllFirstLock_tim hp hr
    exact goes_done fun k => ⟨congrArg Tim.tick h, congrArg (·.tb.running) h, congrArg (·.tb.aplLock) h⟩
  · intro d s hr ho
    obtain ⟨h, hlock⟩ := osc0Loss_leaves (d := d) hr ho
    obtain ⟨htick, htb⟩ := Prod.mk.inj h
    exact goes_done fun k => ⟨congrArg TimeBase.oscLoss htb, congrArg TimeBase.aplLock htb, congrArg TimeBase.warmup htb,
      congrArg TimeBase.lossCount htb, htick, hlock⟩
  · intro s ho
    have h := osc0Relock_tb ho
    exact goes_done fun k => ⟨congrArg TimeBase.oscLoss h, congrArg TimeBase.aplLock h, congrArg TimeBase.warmup h,
      congrArg TimeBase.run h, congrArg TimeBase.driftMet h, osc0Relock_mState ho⟩
  · intro s ho
    have h := ovenRdyHigh_tb ho
    exact goes_done fun k => ⟨congrArg TimeBase.ovenHigh h, congrArg TimeBase.ovenSince h, congrArg TimeBase.holdStart h,
      congrArg TimeBase.warmup h⟩
  · intro s ho
    have h := ovenRdyLow_tb ho
    exact goes_done fun k => ⟨congrArg TimeBase.ovenHigh h, congrArg TimeBase.warmup h, congrArg TimeBase.run h,
      congrArg TimeBase.holdStart h, ovenRdyLow_mState ho⟩
  · intro freq h s hc hr ho hw hh
    exact goes_done fun k => warmupWindowEnd_hold hc hr ho hw hh
  · intro n edge s hn hr hc hp hv hf
    have h := (measuredEdge_chan (hit := none) hr).trans (chanEdge_starts hc hp hv hf)
    exact goes_unit (decide_eq_true hn) fun k => ⟨(congrArg PrivChan.converting h :), (congrArg PrivChan.cycles h :),
      (congrArg PrivChan.passedPs h :)⟩
  · intro n k e s tk hn hc h1 h2
    have h := conversionEnd_chan (e := e) hc h1 h2
    exact goes_unit (decide_eq_true hn) fun k => ⟨(congrArg PrivChan.converting h :), (congrArg PrivChan.freeAt h :),
      (congrArg PrivChan.last h :)⟩
  · intro n fast slow s hn ha hf5 hs5 hf2 hs2
    have h := channelLockWindow_chan (n := n) ha hf5 hs5 hf2 hs2
    have hw := congrArg PrivChan.lockWindows h
    refine goes_unit (decide_eq_true hn) fun k => ⟨hw, ?_⟩
    exact (congrArg PrivChan.lock h).trans (hw ▸ rfl)
  · intro n s hn hs
    have h := refreshStart_interp hs
    exact goes_unit (decide_eq_true hn) fun k => ⟨(congrArg GenInterp.running h :), (congrArg GenInterp.start h :)⟩
  · intro n h s hn hr hok
    have hi := refreshComplete_interp hr hok
    exact goes_unit (decide_eq_true hn) fun k => ⟨(congrArg GenInterp.running hi :), (congrArg GenInterp.accepted hi :),
      (congrArg GenInterp.rejectRun hi :), (congrArg GenInterp.calFault hi :)⟩
  · intro n h s hn ha
    have hi := tableReplace_interp ha
    exact goes_unit (decide_eq_true hn) fun k => ⟨(congrArg GenInterp.table hi :), (congrArg GenInterp.accepted hi :),
      (congrArg GenInterp.tableStart hi :)⟩
  · intro p diff s hp hd hs
    have hi := interpolatorSelfcheck_interp (diff := diff) hd hs
    exact goes_unit (decide_eq_true hp) fun k => ⟨(congrArg GenInterp.selfAt hi :), (congrArg GenInterp.selfFail hi :)⟩

end Sys2Proof.Machine
end

section
/-! SUPPORT. What the commands of group 0x02 leave of the GNSS baseband (R85, R88, R93, R94, R100, R103). -/

namespace Sys2Proof.Machine
open Sys2Proof

/-- An operation outside the GNSS baseband leaves it. -/
theorem Within.gnss_eq {ps : List Part} {s t : State} (h : Within ps s t) (hp : Part.gnss ∉ ps) : t.gnss = s.gnss :=
  (h.keeps .gnss hp).symm

/-- The configuration and both thresholds, without the channels. -/
def cfgAndThresholds (s : State) : GnssCfg × Nat × Nat := (s.gnss.cfg, s.gnss.acqThr, s.gnss.lossThr)

/-- The discriminator of the channels is no part of them (R88). -/
theorem standardChans_cfgAndThresholds (s : State) : cfgAndThresholds (standardChans s) = cfgAndThresholds s := by
  unfold standardChans
  exact foldl_keeps cfgAndThresholds (by intro t i; rfl) _ _

/-- A configuration takes effect with both thresholds clamped, whether or not the channels restart (R85, R100). -/
theorem gnssApply_cfgAndThresholds (g : GnssCfg) (s : State) :
    cfgAndThresholds (gnssApply g s) = (g, clampThr g s.gnss.acqThr, clampThr g s.gnss.lossThr) := by
  unfold gnssApply
  extract_lets old g0 g1 restart s1
  have hs1 : cfgAndThresholds s1 = (g, clampThr g s.gnss.acqThr, clampThr g s.gnss.lossThr) := by
    by_cases hr : restart
    · simp only [cfgAndThresholds, s1, if_pos hr, restartChans, g1]
    · simp only [cfgAndThresholds, s1, if_neg hr, g1]
  by_cases hm : mpAvailable g = true
  · rw [if_pos hm, hs1]
  · rw [if_neg hm, standardChans_cfgAndThresholds, hs1]

/-- GNSS_CONFIG's effect: the sealed fields are logged, then the record takes effect. -/
theorem sealedLog_gnssApply_within (g : GnssCfg) (ws : List SealedWrite) (s : State) :
    Within [.bus, .gnss, .log, .sealing, .regs] s (gnssApply g (sealedLog ws s)) :=
  Within.op (gnssApply_within _ _) rfl (Within.op (sealedLog_within _ _) rfl (Within.refl _ _))

/-- The check of lost prerequisites leaves the baseband. -/
@[simp] theorem dropLost_gnss (s : State) : (dropLost s).gnss = s.gnss := (dropLost_within s).gnss_eq (by decide)

/-- An adopted position is held, and no survey is in progress (R93, R94). -/
theorem adoptPosition_gnss (q : Machine.Position) (s : State) :
    (adoptPosition q s).gnss = { s.gnss with position := some q, mode := .hold, survey := {}, surveyDone := false } := by
  unfold adoptPosition
  dsimp only
  rw [dropLost_gnss, (sealedLog_within _ s).gnss_eq (by decide)]

/-- GNSS_SURVEY of ACTION 2 during a survey: the survey ends, and the mode is that of the held position (R93, R104). -/
def surveyAborted (s : State) : State :=
  dropLost { s with gnss := { s.gnss with
    mode := if s.gnss.position.isSome then .hold else .noPosition, survey := {}, surveyDone := false } }

theorem surveyAborted_within (s : State) : Within [.gnss, .ref] s (surveyAborted s) :=
  Within.op (dropLost_within _) rfl (Within.gnss (by decide) (Within.refl _ _))

/-- A survey's reply reads nothing of the command processor. -/
theorem surveyReply_kcp (s : State) (k : Kcp) : surveyReply { s with kcp := k } = surveyReply s := rfl

theorem surveyAborted_gnss (s : State) : (surveyAborted s).gnss = { s.gnss with
    mode := if s.gnss.position.isSome then .hold else .noPosition, survey := {}, surveyDone := false } :=
  dropLost_gnss _

/-! A request that is one ACTION of GNSS_SURVEY (R104). -/

theorem rd_withByte_zero_same {rq : Request} {v : Nat} (hl : 0 < rq.payload.length) (hv : v < 256) :
    rd (withByte 0 v rq).payload 0 1 = v := by
  obtain ⟨b, p, hp⟩ := List.exists_cons_of_length_pos hl
  simp [withByte, hp, rd, leVal, Nat.mod_eq_of_lt hv]

theorem rd_withByte_zero_past (rq : Request) (v off n : Nat) :
    rd (withByte 0 v rq).payload (off + 1) n = rd rq.payload (off + 1) n :=
  rd_set_zero _ _ _ _

/-- A checked GNSS_SURVEY: the reserved bytes are zero, and for ACTION 1 both end conditions are in range. -/
theorem surveyPayload_checked {a : Nat} {rq : Request} (ha : a ≤ 2) (hl : rq.payload.length = 8)
    (hz1 : rd rq.payload 1 1 = 0) (hz2 : rd rq.payload 6 2 = 0)
    (htime : a = 1 → 30 ≤ rd rq.payload 2 2 ∧ rd rq.payload 2 2 ≤ 2880)
    (hsigma : a = 1 → (100 ≤ rd rq.payload 4 2 ∧ rd rq.payload 4 2 ≤ 10000) ∧ rd rq.payload 4 2 % 100 = 0)
    (s : State) (k : Res) :
    let p := (withByte 0 a rq).payload
    checked s [(0, rd p 0 1 ≤ 2), zeroAt p 1 1,
        (2, rd p 0 1 != 1 || (decide (30 ≤ rd p 2 2) && decide (rd p 2 2 ≤ 2880))),
        (4, rd p 0 1 != 1 || (decide (100 ≤ rd p 4 2) && decide (rd p 4 2 ≤ 10000) && decide (rd p 4 2 % 100 = 0))),
        zeroAt p 6 2] k = k := by
  intro p
  have h0 : rd p 0 1 = a := rd_withByte_zero_same (by omega) (by omega)
  have hpast (off n : Nat) : rd p (off + 1) n = rd rq.payload (off + 1) n := rd_withByte_zero_past rq a off n
  refine checked_of_all ?_ s k
  by_cases h1 : a = 1
  · obtain ⟨ht1, ht2⟩ := htime h1
    obtain ⟨⟨hs1, hs2⟩, hs3⟩ := hsigma h1
    simp [zeroAt, hpast 0, hpast 1, hpast 3, hpast 5, *]
  · simp [zeroAt, hpast 0, hpast 5, *]

theorem bodyGnssSurvey_status {rq : Request} (hl : rq.payload.length = 8) (hz1 : rd rq.payload 1 1 = 0)
    (hz2 : rd rq.payload 6 2 = 0) (s : State) :
    bodyGnssSurvey (rowCmd 0x0205 (withByte 0 0 rq) s) (takeId s) = ok (takeId s) (surveyReply s) := by
  have h0 : rd (withByte 0 0 rq).payload 0 1 = 0 := rd_withByte_zero_same (by omega) (by decide)
  have hl8 : (withByte 0 0 rq).payload.length = 8 := (List.length_set ..).trans hl
  refine (if_neg (not_not.mpr hl8)).trans
    ((surveyPayload_checked (a := 0) (by decide) hl hz1 hz2 nofun nofun _ _).trans ?_)
  simp only [rowCmd, h0]
  rfl

theorem bodyGnssSurvey_start {rq : Request} (hl : rq.payload.length = 8) (hz1 : rd rq.payload 1 1 = 0)
    (hz2 : rd rq.payload 6 2 = 0) (ht : 30 ≤ rd rq.payload 2 2 ∧ rd rq.payload 2 2 ≤ 2880)
    (hs : (100 ≤ rd rq.payload 4 2 ∧ rd rq.payload 4 2 ≤ 10000) ∧ rd rq.payload 4 2 % 100 = 0) {s : State}
    (hpos : s.gnss.position = none) :
    bodyGnssSurvey (rowCmd 0x0205 (withByte 0 1 rq) s) (takeId s) =
      ok (startSurvey (rd rq.payload 2 2 * 60) (rd rq.payload 4 2) (takeId s))
        (surveyReply (startSurvey (rd rq.payload 2 2 * 60) (rd rq.payload 4 2) (takeId s))) := by
  have h0 : rd (withByte 0 1 rq).payload 0 1 = 1 := rd_withByte_zero_same (by omega) (by decide)
  have hl8 : (withByte 0 1 rq).payload.length = 8 := (List.length_set ..).trans hl
  have htime : rd (withByte 0 1 rq).payload 2 2 = rd rq.payload 2 2 := rd_withByte_zero_past rq 1 1 2
  have hsigma : rd (withByte 0 1 rq).payload 4 2 = rd rq.payload 4 2 := rd_withByte_zero_past rq 1 3 2
  refine (if_neg (not_not.mpr hl8)).trans
    ((surveyPayload_checked (a := 1) (by decide) hl hz1 hz2 (fun _ => ht) (fun _ => hs) _ _).trans ?_)
  simp only [rowCmd, h0, htime, hsigma, takeId, hpos]
  rfl

theorem bodyGnssSurvey_abort {rq : Request} (hl : rq.payload.length = 8) (hz1 : rd rq.payload 1 1 = 0)
    (hz2 : rd rq.payload 6 2 = 0) {s : State} (hmode : s.gnss.mode = .survey) :
    bodyGnssSurvey (rowCmd 0x0205 (withByte 0 2 rq) s) (takeId s) =
      ok (surveyAborted (takeId s)) (surveyReply (surveyAborted (takeId s))) := by
  have h0 : rd (withByte 0 2 rq).payload 0 1 = 2 := rd_withByte_zero_same (by omega) (by decide)
  have hl8 : (withByte 0 2 rq).payload.length = 8 := (List.length_set ..).trans hl
  refine (if_neg (not_not.mpr hl8)).trans
    ((surveyPayload_checked (a := 2) (by decide) hl hz1 hz2 nofun nofun _ _).trans ?_)
  simp only [rowCmd, h0, takeId, hmode, if_true, surveyAborted]

end Sys2Proof.Machine
end

section
/-! SUPPORT. The commands of group 0x02 complete (R100 to R105). -/

namespace Sys2Proof.Machine
open Sys2Proof

/-- Settles O14: each command's body under its checks, the writes through what they leave of the baseband. -/
theorem gnssCommandsComplete : Obligations.GnssCommandsComplete := by
  unfold Obligations.GnssCommandsComplete
  refine ⟨?_, ?_, ?_, ?_, ?_, ?_, ?_, ?_⟩
  · intro rq s g h hl hg hr1 hr2 hif hfmt he1 he2 hmp hv1 hv2 hmask hd1 hd2 hc1 hc2 hp1 hp2 hz1 hb1 hb2 hf1 hf2 hf3
      ht1 ht2 hres1 hres2 hauto hz2 ha1 ha2 hu1 hu2 hopen hlog
    subst hg
    let ws := sealedPairs 0x0201 0 (gnssSealed s.gnss.cfg) (gnssSealed (gnssParse rq.payload))
    have hgnss : (sealedLog ws (takeId s)).gnss = s.gnss := (sealedLog_within ws (takeId s)).gnss_eq (by decide)
    refine goes_of_ok_within h (u := gnssApply (gnssParse rq.payload) (sealedLog ws (takeId s)))
      ((if_neg (List.ne_nil_of_length_eq_add_one hl)).trans ((if_neg (not_not.mpr hl)).trans
        ((checked_of_all ?_ _ _).trans (if_neg (not_not.mpr (sealedStatus_open hopen hlog _))))))
      (sealedLog_gnssApply_within _ _ _) (by decide) (fun k hans => ?_)
    · simp [zeroAt, rowCmd, *]
    · have heff := gnssApply_cfgAndThresholds (gnssParse rq.payload) (sealedLog ws (takeId s))
      rw [hgnss] at heff
      obtain ⟨hcfg, hthr⟩ := Prod.mk.inj heff
      obtain ⟨hacq, hloss⟩ := Prod.mk.inj hthr
      exact ⟨hcfg, hacq, hloss, hans⟩
  · intro rq s h hp
    exact kcpRow_reads 0x0202 bodyGnssStatus rq s (gnssStatus s) h (if_pos hp)
  · intro rq s h hp
    exact kcpRow_reads 0x0203 bodyGnssChannels rq s _ h (if_pos hp)
  · intro rq s q h hl hq hr hu1 hu2 hz hst
    have hb : bodyGnssSetPosition (rowCmd 0x0204 rq s) (takeId s) = ok (adoptPosition q (takeId s)) [] := by
      subst hq
      refine (if_neg (not_not.mpr hl)).trans ((checked_of_all ?_ _ _).trans (if_neg (not_not.mpr hst)))
      simp [zeroAt, rowCmd, *]
    refine goes_of_ok_within h hb (adoptPosition_within _ _) (by decide) fun k hans => ⟨?_, ?_, hans⟩
    · simp only [adoptPosition_gnss]
    · simp only [adoptPosition_gnss]
  · intro rq s h hl hz1 hz2
    exact kcpRow_reads 0x0205 bodyGnssSurvey _ s (surveyReply s) h (bodyGnssSurvey_status hl hz1 hz2 s)
  · intro rq s h hl hz1 hz2 ht1 ht2 hs1 hs2 hs3 hpos
    exact goes_of_ok_within h (bodyGnssSurvey_start hl hz1 hz2 ⟨ht1, ht2⟩ ⟨⟨hs1, hs2⟩, hs3⟩ hpos)
      (startSurvey_within _ _ _) (by decide) fun k hans => ⟨rfl, rfl, hans⟩
  · intro rq s h hl hz1 hz2 hmode
    refine goes_of_ok_within h (bodyGnssSurvey_abort hl hz1 hz2 hmode) (surveyAborted_within _) (by decide)
      fun k hans => ⟨?_, ?_, ?_, ?_⟩
    · simp only [surveyAborted_gnss, takeId]
    · simp only [surveyAborted_gnss]
    · simp only [surveyAborted_gnss, takeId]
    · rwa [surveyReply_kcp]
  · intro rq s h hl hn1 hn2
    refine kcpRow_reads 0x0206 bodyGnssPpsMsg rq s _ h ((if_neg (not_not.mpr hl)).trans (checked_of_all ?_ _ _))
    simp [rowCmd, hn1, hn2]

end Sys2Proof.Machine
end

section
/-! SUPPORT. The refutation of O15: a written WN_BASE resolves the week from the next computation on (R91, R199). -/

namespace Sys2Proof.Machine
open Sys2Proof

/-- The time of a HOW leaves the configuration in force and the model's clock. -/
theorem howTime_terms_now (tow : Nat) (s : State) :
    (howTime tow s).gnss.terms = s.gnss.terms ∧ (howTime tow s).now = s.now := by
  unfold howTime
  split
  · exact ⟨rfl, rfl⟩
  · exact ⟨rfl, rfl⟩

/-- A healthy satellite's subframe 1 sets the time by the WN_BASE in force, that of the last computation (R81, R91, R199). -/
theorem subframe1_gpsAt {l : List (Option Nat)} {x : Nat} (hx : navWord l 3 = some x) (hh : navBits x 17 6 = 0) (prn tow : Nat)
    (s : State) : (subframe1 prn tow l s).gnss.gpsAt =
      some (604800 * fullWeek s.gnss.terms.wnBase (navBits x 1 10) + 6 * tow, s.now) := by
  simp only [subframe1, hx, hh, if_true]

/-- The same of the ten received words. -/
theorem lnavSubframe_gpsAt {r : LnavWords} {tlm how x : Nat} {l : List (Option Nat)}
    (hw : wordsOf r.d29 r.d30 r.words = some tlm :: some how :: l) (hp : navBits tlm 1 8 = 0x8B) (hl : l.length = 8)
    (hid : navBits how 20 3 = 1) (hx : navWord l 3 = some x) (hh : navBits x 17 6 = 0) (prn : Nat) (s : State) :
    (lnavSubframe prn r s).gnss.gpsAt =
      some (604800 * fullWeek s.gnss.terms.wnBase (navBits x 1 10) + 6 * navBits how 1 17, s.now) := by
  have hgood : ¬(navBits tlm 1 8 ≠ 0x8B ∨ l.length ≠ 8) := not_or.mpr ⟨not_not.mpr hp, not_not.mpr hl⟩
  obtain ⟨hterms, hnow⟩ := howTime_terms_now (navBits how 1 17) s
  simp only [lnavSubframe, hw, if_neg hgood, hid, subframe1_gpsAt hx hh]
  split
  · rw [hterms, hnow]
  · rfl

/-- GNSS_CONFIG has written a WN_BASE of 1,024, and no computation has followed. -/
def weekBaseWritten : State := gnssApply { wnBase := 1024 } State.reset

/-- A subframe 1 with the preamble, TOW 0, week 0 and health 0. -/
def weekZero : LnavWords :=
  { words := [583008274, 2363] ++ List.replicate 8 (2 ^ 30 - 1), d29 := false, d30 := false }

/-- Its words pass parity, and words 3 to 10 are zero. -/
theorem wordsOf_weekZero : wordsOf weekZero.d29 weekZero.d30 weekZero.words =
    some 0x8B0000 :: some 0x24 :: List.replicate 8 (some 0) := by
  decide

/-- From that state the subframe sets GPS second 0: the week is resolved by the WN_BASE in force, 0. -/
theorem lnavSubframe_weekBaseWritten : (lnavSubframe 1 weekZero weekBaseWritten).gnss.gpsAt = some (0, 0) := by
  rw [lnavSubframe_gpsAt wordsOf_weekZero (x := 0) (by decide) (by decide) (by decide) (by decide) (by decide)]
  decide

/-- Refutes O15: its clause on LNAV_SUBFRAME resolves the week by the WN_BASE that GNSS_CONFIG wrote last, but a sealed write takes
effect at the next computation (R199). Before it, with 1,024 written and 0 in force, a broadcast week 0 is week 0, not week 1,024. -/
theorem not_gnssEventsComplete : ¬ Obligations.GnssEventsComplete := by
  unfold Obligations.GnssEventsComplete
  rintro ⟨-, -, -, -, -, -, -, hsub, -⟩
  obtain ⟨t, ht, -, -, htime⟩ := hsub 1 weekZero.d29 weekZero.d30 weekZero.words 0x8B0000 0x24 (List.replicate 8 (some 0)) 0
    weekBaseWritten (by decide) (by decide) wordsOf_weekZero (by decide) (by decide) (by decide) (by decide) (by decide)
  have hrow : exec (.lnavSubframe 1 weekZero) weekBaseWritten =
      done weekBaseWritten (lnavSubframe 1 weekZero weekBaseWritten) := rfl
  obtain rfl := Host.Outcome.next.inj (hrow.symm.trans ht)
  rw [commitG_gnss, lnavSubframe_weekBaseWritten] at htime
  exact absurd htime (by decide)

end Sys2Proof.Machine
end

section
/-! SUPPORT. The refutation of O41: a recovery image does not advance a seal-break counter that is at its end (R200, R552). -/

namespace Sys2Proof.Machine
open Sys2Proof

/-- The seal-break counter stays once it is at 0xFFFF_FFFF or past it. -/
theorem sealAdvance_of_full {x : Seal} (h : sat32 ≤ x.otpBits * 65536 + x.low) : sealAdvance x = x := if_pos h

/-- NUHEIF_RECOVERY leaves the seal and its counter where the counter is full, whether the image is accepted or not. -/
theorem nuheifRecovery_sealing_of_full {s : State} (h : sat32 ≤ sealCount s) (f : ImageFile) :
    (nuheifRecovery f s).sealing = s.sealing := by
  unfold nuheifRecovery
  dsimp only
  split
  · exact sealAdvance_of_full h
  · rfl

/-- The M-tile ROM waits for a recovery image and the module is ARMED. Every OTP bit of R200's field of 65,536 is burned and L is 0. -/
def burnedField : State :=
  { State.reset with
    pwr := { State.reset.pwr with mRecovery := true }
    sealing := { State.reset.sealing with armedUntil := some 5, otpBits := 65536 } }

/-- A Nuheif image of KIND 0 that verifies. -/
def recoveryImage : ImageFile := ⟨true, 0, 0, 1, false, [], [1]⟩

/-- Refutes O41: its clause on NUHEIF_RECOVERY says that the seal-break counter advances whenever L is below 0xFFFF, but the counter
stays once it is at its end (R200). The clause bounds only L: with 65,536 bits burned and L at 0, L has room and the counter has not.
Commands and events of the model burn at most 65,535 bits, and up to there the counter advances as the clause says. -/
theorem not_startUpCompletes : ¬ Obligations.StartUpCompletes := by
  unfold Obligations.StartUpCompletes
  rintro ⟨-, -, -, -, -, -, -, -, hrecovery, -⟩
  obtain ⟨t, ht, -, -, hcount, -⟩ := hrecovery recoveryImage burnedField rfl (by decide) (by decide)
  have hrow : exec (.nuheifRecovery recoveryImage) burnedField =
      done burnedField (nuheifRecovery recoveryImage burnedField) := rfl
  obtain rfl := Host.Outcome.next.inj (hrow.symm.trans ht)
  have hstays : sealCount (commitG burnedField (nuheifRecovery recoveryImage burnedField)) = sealCount burnedField := by
    rw [sealCount, commitG_sealing, nuheifRecovery_sealing_of_full (by decide), ← sealCount]
  rw [hstays] at hcount
  exact absurd (hcount (by decide)) (Nat.ne_of_lt (Nat.lt_succ_self _))

end Sys2Proof.Machine
end

section
/-! SUPPORT. What the ensemble's events leave of its members (R164, R167 to R173). -/

namespace Sys2Proof.Machine
open Sys2Proof

/-! Members one at a time. -/

/-- A replaced member that keeps a feature leaves every member's. -/
theorem setOsci_keeps {β : Type} (f : Member → β) {s : State} {i : Nat} {x : Member} (h : f x = f (s.osci i)) (j : Nat) :
    f ((s.setOsci i x).osci j) = f (s.osci j) := by
  by_cases hj : j = i
  · subst hj; rw [setOsci_osci_same, h]
  · rw [setOsci_osci_other _ _ _ _ hj]

/-- A fold whose steps each change their own member only leaves a member that is not in its list. -/
theorem foldl_osci_of_not_mem {f : State → Nat → State} (hother : ∀ s i j, j ≠ i → (f s i).osci j = s.osci j) {l : List Nat}
    {j : Nat} (hj : j ∉ l) (s : State) : (l.foldl f s).osci j = s.osci j := by
  induction l generalizing s with
  | nil => rfl
  | cons i l ih =>
    rw [List.foldl_cons, ih (List.not_mem_of_not_mem_cons hj), hother s i j (List.ne_of_not_mem_cons hj)]

/-- What each step of such a fold does to its own member, the fold does to every member of its list. -/
theorem foldl_osci {f : State → Nat → State} {R : Member → Member → Prop}
    (hother : ∀ s i j, j ≠ i → (f s i).osci j = s.osci j) (hown : ∀ s i, R (s.osci i) ((f s i).osci i)) {l : List Nat}
    (hl : l.Nodup) (s : State) : ∀ i ∈ l, R (s.osci i) ((l.foldl f s).osci i) := by
  induction l generalizing s with
  | nil => nofun
  | cons i l ih =>
    obtain ⟨hi, hl⟩ := List.nodup_cons.mp hl
    intro j hj
    rw [List.foldl_cons]
    rcases List.mem_cons.mp hj with rfl | hj
    · rw [foldl_osci_of_not_mem hother hi]
      exact hown s j
    · have hstep := ih hl (f s i) j hj
      rwa [hother s i j (fun h => hi (h ▸ hj))] at hstep

/-! MEMBER_JOIN and TEMP_READ (R164, R172, R173). -/

/-- An ABSENT member that has been present for 1 s starts to join. -/
theorem memberJoin_present {i t : Nat} {s : State} (ha : (s.osci i).state = .absent) (hp : (s.osci i).presentSince = some t)
    (hd : t + 1000000000 ≤ s.now) : (memberJoin i s).osci i = { s.osci i with
      state := .joining, joinEnd := s.now + s.osc.ens.rejoin * 1024 * 1000000000 } := by
  simp only [memberJoin, ha, hp, if_pos hd, setOsci_osci_same]

/-- A sensor read that is due enters its member, and no earlier member is read again in that second. -/
theorem tempRead_due {i : Nat} {raw : Option Nat} {s : State} (hd : readDue s i = true) :
    ((tempRead i raw s).osci i).sensor =
        sensorRead (s.osci i).sensor (raw.map (convertTemp (s.osci i).cfg.format)) ∧
      (tempRead i raw s).osc.readSec = ftSec s.acc ∧ (tempRead i raw s).osc.readNext = i + 1 := by
  have hgo : ¬(!readDue s i) = true := by rw [hd]; decide
  rw [tempRead, if_neg hgo]
  exact ⟨congrArg Member.sensor (setOsci_osci_same s i _), rfl, rfl⟩

/-! ENSEMBLE_TEST (R167 to R169). -/

/-- The number of the running test interval, and a member's sum of e_i over it. -/
def testSums (j : Nat) (s : State) : Nat × Int × Nat := (s.osc.test, (s.osci j).eSum, (s.osci j).eCount)

theorem setOsci_testSums {s : State} {i : Nat} {x : Member} (hs : x.eSum = (s.osci i).eSum) (hc : x.eCount = (s.osci i).eCount)
    (j : Nat) : testSums j (s.setOsci i x) = testSums j s := by
  rw [testSums, setOsci_keeps Member.eSum hs, setOsci_keeps Member.eCount hc]
  rfl

/-- New weights are no part of them. -/
theorem newWeights_testSums (j : Nat) (s : State) : testSums j (newWeights s) = testSums j s := by
  unfold newWeights
  extract_lets act sig num s1
  have hstep (t : State) (i : Nat) : testSums j (t.setOsci i { t.osci i with w := num i }) = testSums j t :=
    setOsci_testSums (by rfl) (by rfl) j
  have hs1 : testSums j s1 = testSums j s := foldl_keeps (testSums j) hstep (List.range numOsc) s
  clear_value s1
  exact hs1

theorem reweigh_testSums (e : Nat → Freq) (j : Nat) (s : State) : testSums j (reweigh e s) = testSums j s := by
  unfold reweigh
  extract_lets old s1 new
  have hs1 : testSums j s1 = testSums j s := newWeights_testSums j s
  clear_value new s1
  exact hs1

/-- A member's sums start anew after its test, whatever its state. -/
theorem afterTest_osci_same (s0 : State) (three : Bool) (s : State) (i : Nat) :
    ((afterTest s0 three s i).osci i).eSum = 0 ∧ ((afterTest s0 three s i).osci i).eCount = 0 := by
  rw [afterTest, setOsci_osci_same]
  cases (s.osci i).state with
  | active => dsimp only; split <;> exact ⟨rfl, rfl⟩
  | joining => dsimp only; split <;> exact ⟨rfl, rfl⟩
  | excluded => dsimp only; split <;> exact ⟨rfl, rfl⟩
  | disabled => exact ⟨rfl, rfl⟩
  | absent => exact ⟨rfl, rfl⟩

theorem afterTest_osci_other (s0 : State) (three : Bool) (s : State) (i j : Nat) (h : j ≠ i) :
    (afterTest s0 three s i).osci j = s.osci j := setOsci_osci_other _ _ _ _ h

/-- Every member's sums start anew once each member has been tested. -/
theorem foldl_afterTest_osci (s0 : State) (three : Bool) (s : State) : ∀ i ∈ List.range numOsc,
    (((List.range numOsc).foldl (afterTest s0 three) s).osci i).eSum = 0 ∧
      (((List.range numOsc).foldl (afterTest s0 three) s).osci i).eCount = 0 :=
  foldl_osci (R := fun _ y => y.eSum = 0 ∧ y.eCount = 0) (afterTest_osci_other s0 three) (afterTest_osci_same s0 three)
    List.nodup_range s

/-- A test at a new multiple of 1,024 s starts its members' next interval, whether new weights follow or not. -/
theorem ensembleTest_due {s : State} (hd : ftSec s.acc / 1024 ≠ s.osc.test) :
    ∀ i ∈ List.range 4, testSums i (ensembleTest s) = (ftSec s.acc / 1024, 0, 0) := by
  intro i hi
  have hweights (t : State) (e : Nat → Freq) (c : Bool) : testSums i (if c then t else reweigh e t) = testSums i t := by
    cases c with
    | true => rfl
    | false => exact reweigh_testSums e i t
  have hmember := foldl_afterTest_osci s (decide (3 ≤ (activeSet s).length)) s i hi
  rw [ensembleTest, if_neg hd]
  dsimp only
  generalize (List.range numOsc).foldl _ s = s1 at hmember ⊢
  obtain ⟨hsum, hcount⟩ := hmember
  exact (hweights _ _ _).trans (congrArg (Prod.mk _) (Prod.ext hsum hcount))

/-! LEARNING_SAMPLE (R171). -/

/-- A member after the sample of an interval that ends at `endSec`. -/
def sampledMember (endSec : Nat) (keep : Bool) (x : Member) : Member :=
  let old := x.samples.filter (fun q => decide (endSec ≤ q.endSec + 30 * 86400))
  { x with
    samples := if keep && x.clean && decide (x.yCount ≠ 0) then
        (⟨endSec, divNearI x.ySum (max 1 x.yCount),
          if x.tCount = 0 then none else some (divNearI x.tSum x.tCount)⟩ :: old).take 10125
      else old
    ySum := 0, yCount := 0, tSum := 0, tCount := 0, clean := true }

theorem sampleMember_osci_same (endSec : Nat) (keep : Bool) (s : State) (i : Nat) :
    (sampleMember endSec keep s i).osci i = sampledMember endSec keep (s.osci i) := setOsci_osci_same _ _ _

theorem sampleMember_osci_other (endSec : Nat) (keep : Bool) (s : State) (i j : Nat) (h : j ≠ i) :
    (sampleMember endSec keep s i).osci j = s.osci j := setOsci_osci_other _ _ _ _ h

/-- At the end of the running interval every member takes its sample. -/
theorem learningSample_next {s : State} (hd : ftSec s.acc / 256 = s.osc.interval + 1) :
    ∃ t : State, learningSample s = { t with osc := { t.osc with interval := s.osc.interval + 1, learning := learnOk t } } ∧
      ∀ i ∈ List.range 4, t.osci i = sampledMember ((s.osc.interval + 1) * 256) true (s.osci i) := by
  rw [learningSample, hd, if_neg (Nat.succ_ne_self _), decide_eq_true rfl]
  exact ⟨_, rfl, foldl_osci (R := fun x y => y = sampledMember _ true x) (sampleMember_osci_other _ _)
    (sampleMember_osci_same _ _) List.nodup_range s⟩

/-! HOLDOVER_FIT (R171, R181, R182). -/

/-- An override stays in force over a fit; else the learned model comes into force. -/
theorem fitMember_osci_same (s : State) (i : Nat) :
    ((s.osci i).inForce.override = true → ((fitMember s i).osci i).inForce = (s.osci i).inForce) ∧
      ((s.osci i).inForce.override = false → ((fitMember s i).osci i).inForce = ((fitMember s i).osci i).learned) := by
  rw [fitMember, setOsci_osci_same]
  refine ⟨fun h => if_pos h, fun h => if_neg ?_⟩
  rw [h]
  decide

theorem fitMember_osci_other (s : State) (i j : Nat) (h : j ≠ i) : (fitMember s i).osci j = s.osci j :=
  (setOsci_osci_other _ _ _ _ h).trans (setOsci_osci_other _ _ _ _ h)

/-- A fit on demand outside HOLDOVER is made for every member. -/
theorem holdoverFit_demanded {s : State} (hm : s.osc.mState ≠ .holdover) (hf : s.osc.fitDemand = true) :
    ∃ t : State, holdoverFit s = { t with osc := { t.osc with lastFit := some t.now, fitDemand := false } } ∧
      t.now = s.now ∧ ∀ i ∈ List.range 4,
        ((s.osci i).inForce.override = true → (t.osci i).inForce = (s.osci i).inForce) ∧
        ((s.osci i).inForce.override = false → (t.osci i).inForce = (t.osci i).learned) :=
  ⟨_, if_neg (by simp [hm, hf]), foldl_keeps State.now (fun t i => (fitMember_within t i).now_eq) _ s,
    foldl_osci (R := fun x y => (x.inForce.override = true → y.inForce = x.inForce) ∧
      (x.inForce.override = false → y.inForce = y.learned)) fitMember_osci_other fitMember_osci_same List.nodup_range s⟩

end Sys2Proof.Machine
end

section
/-! SUPPORT. What the commands of group 0x05 leave (R178 to R182, R195, R198). -/

namespace Sys2Proof.Machine
open Sys2Proof

/-- An operation outside the oscillators leaves them. -/
theorem Within.osc_eq {ps : List Part} {s t : State} (h : Within ps s t) (hp : Part.osc ∉ ps) : t.osc = s.osc :=
  (h.keeps .osc hp).symm

/-- The command processor is no part of a member. -/
theorem osci_kcp (s : State) (k : Kcp) (i : Nat) : State.osci { s with kcp := k } i = s.osci i := rfl

/-- A log entry of a sealed write is no part of the oscillators. -/
@[simp] theorem sealedLog_osc (ws : List SealedWrite) (s : State) : (sealedLog ws s).osc = s.osc :=
  (sealedLog_within ws s).osc_eq (by decide)

/-- A sealed write that the seal lets through is logged, then made. -/
theorem sealedWrite_of_status {ws : List SealedWrite} {s : State} (h : sealedStatus s ws = 0) (k : State → Res) :
    sealedWrite ws s k = k (sealedLog ws s) := if_neg (not_not.mpr h)

/-! OSC_CONFIG (R179). -/

/-- The written ensemble record, its sealed fields logged. -/
def ensWritten (ws : List SealedWrite) (e : EnsCfg) (s : State) : State :=
  { sealedLog ws s with osc := { (sealedLog ws s).osc with ens := e } }

theorem ensWritten_osc (ws : List SealedWrite) (e : EnsCfg) (s : State) : (ensWritten ws e s).osc = { s.osc with ens := e } := by
  simp only [ensWritten, sealedLog_osc]

theorem ensWritten_within (ws : List SealedWrite) (e : EnsCfg) (s : State) :
    Within [.bus, .osc, .log, .sealing, .regs] s (ensWritten ws e s) :=
  Within.osc (by decide) (Within.op (sealedLog_within ws s) rfl (Within.refl _ _))

/-! HOLDOVER_MODEL (R181). -/

/-- The member with the override of a payload in force, the record logged and kept. -/
def modelWritten (i : Nat) (p : List Byte) (s : State) : State :=
  let r := modelRecord s i (modelParse p) 0
  (sealedLog [⟨0x0503, i, 0, [], r⟩] s).setOsci i { s.osci i with inForce := modelParse p, written := r }

theorem modelWritten_within (i : Nat) (p : List Byte) (s : State) :
    Within [.bus, .osc, .log, .sealing, .regs] s (modelWritten i p s) :=
  Within.op (State.setOsci_within _ _ _) rfl (Within.op (sealedLog_within _ s) rfl (Within.refl _ _))

theorem modelWritten_osci (i : Nat) (p : List Byte) (s : State) : (modelWritten i p s).osci i =
    { s.osci i with inForce := modelParse p, written := modelRecord s i (modelParse p) 0 } := setOsci_osci_same _ _ _

/-- A parsed record gives its own half-widths, so that it is reported alike in every state of the same field time. -/
theorem modelRecord_modelParse (i : Nat) (p : List Byte) {s t : State} (h : t.acc = s.acc) :
    modelRecord t i (modelParse p) (fitAge t (modelParse p)) = modelRecord s i (modelParse p) (fitAge s (modelParse p)) := by
  rw [fitAge, h]
  rfl

/-- A written override comes into force as it was parsed. -/
theorem writeModel_override {i : Nat} {p : List Byte} {s : State} (ho : bit (rd p 1 1) 3 = true) (hw : windowOpen s = true)
    (hl : s.log.fault = false) : writeModel i p s =
      ok (modelWritten i p s) (modelRecord s i (modelParse p) (fitAge s (modelParse p))) := by
  have hov : (modelParse p).override = true := ho
  have hacc : s.acc = (modelWritten i p s).acc := (modelWritten_within i p s).keeps .acc (by decide)
  rw [← modelRecord_modelParse i p hacc.symm]
  unfold writeModel
  dsimp only
  rw [sealedWrite_of_status (sealedStatus_open hw hl _), if_pos hov, if_pos hov, setOsci_osci_same]
  rfl

/-! HOLDOVER_LEARN (R182). -/

/-- The record of a payload. -/
def learnParse (p : List Byte) : LearnCfg := ⟨rd p 1 1, rd p 2 2, rd p 4 4⟩

/-- The sealed fields of a write: MODE, LOOKBACK, and the discard of the samples. -/
def learnWrites (p : List Byte) (s : State) : List SealedWrite :=
  sealedOf 0x0504 0 [(1, 1), (2, 2)] (learnRecord s 0) p ++ (if rd p 0 1 = 2 then [⟨0x0504, 0, 0, [0], [2]⟩] else [])

/-- The written record, its sealed fields logged; ACTION 1 asks for a fit. -/
def learnWritten (p : List Byte) (s : State) : State :=
  let t := sealedLog (learnWrites p s) s
  { t with osc := { t.osc with learn := learnParse p, fitDemand := t.osc.fitDemand || decide (rd p 0 1 = 1) } }

theorem learnWritten_osc (p : List Byte) (s : State) : (learnWritten p s).osc =
    { s.osc with learn := learnParse p, fitDemand := s.osc.fitDemand || decide (rd p 0 1 = 1) } := by
  simp only [learnWritten, sealedLog_osc]

theorem learnWritten_within (p : List Byte) (s : State) : Within [.bus, .osc, .log, .sealing, .regs] s (learnWritten p s) :=
  Within.osc (by decide) (Within.op (sealedLog_within _ s) rfl (Within.refl _ _))

/-- The reply reads nothing of the command processor. -/
theorem learnRecord_kcp (s : State) (k : Kcp) (a : Nat) : learnRecord { s with kcp := k } a = learnRecord s a := rfl

/-- Every member's samples are discarded. -/
def samplesDiscarded (s : State) : State :=
  (List.range numOsc).foldl (fun u i => u.setOsci i { u.osci i with samples := [] }) s

theorem samplesDiscarded_within (s : State) : Within [.osc] s (samplesDiscarded s) :=
  Within.foldl (fun _ _ => State.setOsci_within _ _ _) _ (Within.refl _ _)

theorem samplesDiscarded_osci (s : State) : ∀ i ∈ List.range numOsc,
    ((samplesDiscarded s).osci i).samples = [] ∧ ((samplesDiscarded s).osci i).inForce = (s.osci i).inForce := by
  refine foldl_osci (R := fun x y => y.samples = [] ∧ y.inForce = x.inForce) (fun t i j h => setOsci_osci_other _ _ _ _ h)
    (fun t i => ?_) List.nodup_range s
  rw [setOsci_osci_same]
  exact ⟨rfl, rfl⟩

/-- The ranges of a HOLDOVER_LEARN write. -/
structure LearnRanges (p : List Byte) : Prop where
  len : p.length = 16
  action : rd p 0 1 ≤ 2
  mode : rd p 1 1 ≤ 1
  lookback : 1 ≤ rd p 2 2 ∧ rd p 2 2 ≤ 30
  period : 1 ≤ rd p 4 4 ∧ rd p 4 4 ≤ 336
  zero : rd p 8 8 = 0

/-- A payload inside its ranges is written. -/
theorem bodyHoldoverLearn_checked {rq : Request} (h : LearnRanges rq.payload) (s : State) :
    bodyHoldoverLearn (rowCmd 0x0504 rq s) (takeId s) = writeLearn rq.payload (takeId s) := by
  obtain ⟨hl, ha, hm, hb, hp, hz⟩ := h
  refine (if_neg (List.ne_nil_of_length_eq_add_one hl)).trans ((if_neg (not_not.mpr hl)).trans (checked_of_all ?_ _ _))
  simp [zeroAt, rowCmd, *]

/-- A write that the seal lets through: the record, with ACTION 2 the discard, and the reply of its ACTION. -/
theorem writeLearn_of_status {a : Nat} {p : List Byte} {s : State} (ha : rd p 0 1 = a)
    (hstate : ¬(a = 1 ∧ (s.osc.mState = .holdover ∨ s.osc.mState = .freeRun))) (hst : sealedStatus s (learnWrites p s) = 0) :
    writeLearn p s =
      let t := if a = 2 then samplesDiscarded (learnWritten p s) else learnWritten p s
      if a = 1 then pend t (learnRecord t 1) else ok t (learnRecord t a) := by
  subst ha
  exact (if_neg hstate).trans (sealedWrite_of_status hst _)

/-! A fit on demand changes no sealed field, so that it wants no open window (R178, R182). -/

/-- Bytes are those of their value. -/
theorem le_leVal (l : List Byte) : le l.length (leVal l) = l := by
  induction l with
  | nil => rfl
  | cons b l ih =>
    have hb : BitVec.ofNat 8 (b.toNat + 256 * leVal l) = b := BitVec.eq_of_toNat_eq (by
      rw [BitVec.toNat_ofNat]
      have := b.isLt
      omega)
    have hl : (b.toNat + 256 * leVal l) / 256 = leVal l := by
      have := b.isLt
      omega
    rw [List.length_cons, leVal, le, hb, hl, ih]

/-- A payload's bytes at an offset are those of the value read there. -/
theorem le_rd {p : List Byte} {off n : Nat} (h : off + n ≤ p.length) : le n (rd p off n) = (p.drop off).take n := by
  have hn : ((p.drop off).take n).length = n := by
    rw [List.length_take, List.length_drop]
    omega
  have hbytes := le_leVal ((p.drop off).take n)
  rwa [hn] at hbytes

/-- A write of sealed fields that changes none is let through whether or not the window is open, unless PARAM_FAULT holds. -/
theorem sealedStatus_unchanged {s : State} {ws : List SealedWrite} (hf : s.sealing.paramFault = false)
    (h : ∀ w ∈ ws, w.old = w.new) : sealedStatus s ws = 0 := by
  have hall : ws.all (fun w => w.old = w.new) = true := by simpa using h
  rw [sealedStatus, hf, hall]
  rfl

/-- ACTION 1 with the MODE and LOOKBACK in force. -/
theorem learnWrites_unchanged {p : List Byte} {s : State} (hl : p.length = 16) (ha : rd p 0 1 = 1)
    (hm : rd p 1 1 = s.osc.learn.mode) (hb : rd p 2 2 = s.osc.learn.lookback) : ∀ w ∈ learnWrites p s, w.old = w.new := by
  have hmode : le 1 s.osc.learn.mode = (p.drop 1).take 1 := by rw [← hm, le_rd (by omega)]
  have hback : le 2 s.osc.learn.lookback = (p.drop 2).take 2 := by rw [← hb, le_rd (by omega)]
  intro w hw
  rw [learnWrites, ha, if_neg (by decide)] at hw
  rcases List.mem_cons.mp hw with rfl | hw
  · exact hmode
  · obtain rfl := List.mem_singleton.mp hw
    exact hback

end Sys2Proof.Machine
end

section
/-! SUPPORT. The rows of group 0x05 and the events of the ensemble complete (R163 to R182). -/

namespace Sys2Proof.Machine
open Sys2Proof

/-- Settles O18: each command's body under its checks, each event's effect on the members under its conditions. -/
theorem holdoverComplete : Obligations.HoldoverComplete := by
  unfold Obligations.HoldoverComplete
  refine ⟨?_, ?_, ?_, ?_, ?_, ?_, ?_, ?_, ?_, ?_, ?_⟩
  · intro rq s e h hl hff he hz1 hz2 hi hr1 hr2 hs1 hs2 ha1 ha2 hg hz hw hlog
    have hne1 : (rowCmd 0x0501 rq s).req.payload.length ≠ 1 := by rw [rowCmd, hl]; decide
    subst he
    refine goes_of_ok_within h (u := ensWritten _ _ (takeId s)) ((if_neg hne1).trans ((if_neg (not_not.mpr hl)).trans
      ((if_pos hff).trans ((checked_of_all ?_ _ _).trans
        (sealedWrite_of_status (s := takeId s) (sealedStatus_open hw hlog _) _))))) (ensWritten_within _ _ _) (by decide)
      fun k hans => ⟨ensWritten_osc _ _ (takeId s), hans⟩
    simp [zeroAt, rowCmd, *]
  · intro rq s h hp
    exact kcpRow_reads 0x0502 bodyEnsembleStatus rq s (ensembleStatus s) h (if_pos hp)
  · intro rq s i h hl hi h4 h32 ho hf ha ht hz he hw hlog
    have hne2 : (rowCmd 0x0503 rq s).req.payload.length ≠ 2 := by rw [rowCmd, hl]; decide
    subst hi
    refine goes_of_ok_within h ((if_neg hne2).trans ((if_neg (not_not.mpr hl)).trans
      ((checked_of_all ?_ _ _).trans (writeModel_override ho hw hlog)))) (modelWritten_within _ _ _) (by decide) fun k hans => ?_
    · simp [zeroAt, rowCmd, takeId, *]
    · have hx := (osci_kcp _ k _).trans (modelWritten_osci (rd rq.payload 0 1) rq.payload (takeId s))
      exact ⟨(congrArg Member.inForce hx :), (congrArg Member.learned hx :), hans⟩
  · intro rq s g h hl ha hg hm hb1 hb2 hp1 hp2 hz hw hlog
    subst hg
    have hb := (bodyHoldoverLearn_checked ⟨hl, by omega, hm, ⟨hb1, hb2⟩, ⟨hp1, hp2⟩, hz⟩ s).trans
      (writeLearn_of_status ha (fun hn => absurd hn.1 (by decide)) (sealedStatus_open hw hlog _))
    refine goes_of_ok_within h hb (learnWritten_within _ _) (by decide) fun k hans => ⟨?_, by rwa [learnRecord_kcp]⟩
    exact (learnWritten_osc _ (takeId s)).trans (by rw [ha, decide_eq_false (by decide), Bool.or_false]; rfl)
  · intro rq s g h hl ha hg hsm hsb hm hb1 hb2 hp1 hp2 hz hh hr hf
    subst hg
    have hb := (bodyHoldoverLearn_checked ⟨hl, by omega, hm, ⟨hb1, hb2⟩, ⟨hp1, hp2⟩, hz⟩ s).trans
      (writeLearn_of_status ha (fun hn => hn.2.elim hh hr) (sealedStatus_unchanged hf (learnWrites_unchanged hl ha hsm hsb)))
    refine goes_of_pend_within h hb (learnWritten_within _ _) (by decide) fun k hans => ⟨?_, by rwa [learnRecord_kcp]⟩
    exact (learnWritten_osc _ (takeId s)).trans (by rw [ha, decide_eq_true rfl, Bool.or_true]; rfl)
  · intro rq s h hl ha hm hb1 hb2 hp1 hp2 hz hw hlog
    have hb := (bodyHoldoverLearn_checked ⟨hl, by omega, hm, ⟨hb1, hb2⟩, ⟨hp1, hp2⟩, hz⟩ s).trans
      (writeLearn_of_status ha (fun hn => absurd hn.1 (by decide)) (sealedStatus_open hw hlog _))
    refine goes_of_ok_within h hb (Within.op (samplesDiscarded_within _) rfl (learnWritten_within _ _)) (by decide)
      fun k hans => ⟨by rwa [learnRecord_kcp], fun i hi => ?_⟩
    obtain ⟨hsamples, hforce⟩ := samplesDiscarded_osci (learnWritten (withByte 0 2 rq).payload (takeId s)) i hi
    rw [osci_kcp]
    refine ⟨hsamples, hforce.trans (congrArg Member.inForce ?_)⟩
    rw [State.osci, learnWritten_osc, State.osci]
    rfl
  · intro i s t0 hi ha hp hd
    have hx := memberJoin_present ha hp hd
    exact goes_unit (decide_eq_true hi) fun k => ⟨(congrArg Member.state hx :), (congrArg Member.joinEnd hx :)⟩
  · intro s hd
    have hx := ensembleTest_due hd
    refine goes_done fun k => ⟨congrArg Prod.fst (hx 0 (by decide)), fun i hi => ?_⟩
    exact ⟨congrArg (·.2.1) (hx i hi), congrArg (·.2.2) (hx i hi)⟩
  · intro s hd
    obtain ⟨t, ht, hx⟩ := learningSample_next hd
    refine goes_done fun k => ?_
    rw [ht]
    refine ⟨rfl, fun i hi => ?_⟩
    have hxi := hx i hi
    refine ⟨(congrArg Member.ySum hxi :), (congrArg Member.yCount hxi :), fun hc => ?_, fun hc hy => ?_⟩
    · refine (congrArg Member.samples hxi).trans (if_neg ?_)
      simp [hc]
    · refine (congrArg Member.samples hxi).trans (if_pos ?_)
      simp [hc, hy]
  · intro s hm hf
    obtain ⟨t, ht, hnow, hx⟩ := holdoverFit_demanded hm hf
    refine goes_done fun k => ?_
    rw [ht]
    exact ⟨congrArg some hnow, rfl, hx⟩
  · intro i raw s hi hd
    exact goes_unit (decide_eq_true hi) fun k => tempRead_due hd

end Sys2Proof.Machine
end

section
/-! SUPPORT. What is burned in OTP stays burned (R200, R542, R549): the relation between the states before and after an
operation, and how it composes. -/

namespace Sys2Proof.Machine
open Sys2Proof

/-- Between two states nothing burned was lost: where L fits its 16 bits it fits them again and the seal-break counter has
not fallen; the owner generation's burned bits are no fewer and no minimum SVN has fallen. -/
structure Burns (s t : State) : Prop where
  count : s.sealing.low < 65536 → t.sealing.low < 65536 ∧ sealCount s ≤ sealCount t
  owner : s.pwr.ownerBits ≤ t.pwr.ownerBits
  svn : ∀ k, s.pwr.minSvn.getD k 0 ≤ t.pwr.minSvn.getD k 0

namespace Burns
variable {s t u : State}

theorem refl (s : State) : Burns s s := ⟨fun h => ⟨h, le_rfl⟩, le_rfl, fun _ => le_rfl⟩

theorem trans (h : Burns s t) (k : Burns t u) : Burns s u := by
  refine ⟨fun hs => ?_, h.owner.trans k.owner, fun n => (h.svn n).trans (k.svn n)⟩
  obtain ⟨ht, hc⟩ := h.count hs
  obtain ⟨hu, hd⟩ := k.count ht
  exact ⟨hu, hc.trans hd⟩

/-- A last change. -/
theorem step (k : Burns t u) (h : Burns s t) : Burns s u := h.trans k

/-- A change outside the seal and the power state burns nothing. -/
theorem within {ps : List Part} (h : Within ps s t) (hs : .sealing ∉ ps := by decide) (hp : .pwr ∉ ps := by decide) :
    Burns s t := by
  have hseal : s.sealing = t.sealing := h.keeps .sealing hs
  have hpwr : s.pwr = t.pwr := h.keeps .pwr hp
  refine ⟨fun hl => ?_, by rw [hpwr], fun k => by rw [hpwr]⟩
  rw [sealCount, sealCount, ← hseal]
  exact ⟨hl, le_rfl⟩

/-- A last change outside the seal and the power state. -/
theorem op {ps : List Part} (k : Within ps t u) (h : Burns s t) (hs : .sealing ∉ ps := by decide)
    (hp : .pwr ∉ ps := by decide) : Burns s u := h.trans (.within k hs hp)

/-- A record update that leaves the four fields. -/
theorem lit {acc_ : FieldTime} {free_ : Nat} {utc_ : Utc} {bus_ : Bus} {tim_ : Tim} {gnss_ : Gnss} {ref_ : Ref}
    {sel_ : Sel} {osc_ : Osc} {bnd_ : Bnd} {log_ : EventLog} {sealing_ : Seal} {fur_ : Fur} {svc_ : Svc} {eng_ : Eng}
    {key_ : Key} {evd_ : Evd} {eth_ : Tbl Eth} {arb_ : Arb} {tan_ : Tan} {syn_ : Syn} {kcp_ : Kcp} {regs_ : Regs}
    {pwr_ : Pwr} {tst_ : Tst} {pending_ : List Instr} (h : Burns s t)
    (hb : sealing_.otpBits = t.sealing.otpBits := by exact rfl) (hl : sealing_.low = t.sealing.low := by exact rfl)
    (ho : pwr_.ownerBits = t.pwr.ownerBits := by exact rfl) (hm : pwr_.minSvn = t.pwr.minSvn := by exact rfl) :
    Burns s ⟨t.now, acc_, free_, utc_, bus_, tim_, gnss_, ref_, sel_, osc_, bnd_, log_, sealing_, fur_, svc_, eng_,
      key_, evd_, eth_, arb_, tan_, syn_, kcp_, regs_, pwr_, tst_, pending_⟩ := by
  refine h.trans ⟨fun hs => ⟨hl ▸ hs, ?_⟩, ho.ge, fun k => by rw [hm]⟩
  simp only [sealCount, hb, hl, le_refl]

/-- A choice between two changes. -/
theorem ite {c : Prop} [Decidable c] (h : Burns s t) (k : Burns s u) : Burns s (if c then t else u) := by
  split <;> assumption

/-- A choice between two answers. -/
theorem iteSt {c : Prop} [Decidable c] {a b : Res} (h : Burns s a.st) (k : Burns s b.st) :
    Burns s (if c then a else b).st := by split <;> assumption

/-- A choice between two changes that hand on a value. -/
theorem iteSnd {α : Type} {c : Prop} [Decidable c] {a b : α × State} (h : Burns s a.2) (k : Burns s b.2) :
    Burns s (if c then a else b).2 := by split <;> assumption

/-- A change that hands on a value, by the name its state is given. -/
theorem snd {α : Type} {a : α} {x : α × State} (h : x = (a, t)) (k : Burns s x.2) : Burns s t := by rwa [h] at k

/-- A change for each element of a list, after another. -/
theorem foldl {α : Type} {f : State → α → State} (h : ∀ t a, Burns t (f t a)) (l : List α) (k : Burns s t) :
    Burns s (l.foldl f t) := by
  induction l generalizing t with
  | nil => exact k
  | cons a l ih => exact ih (k.trans (h t a))

/-- A body behind the checks of its payload (R489). -/
theorem checked {cs : List (Nat × Bool)} {k : Res} (h : Burns s k.st) : Burns s (checked s cs k).st := by
  unfold Machine.checked
  split
  · exact .refl s
  · exact h

/-- The end of a command (R486, R488). -/
theorem conclude {c : Cmd} {r : Res} (h0 : Burns s t) (h : Burns s r.st) : Burns s (conclude c t r) :=
  have hg : Burns s (commitG t r.st) := .op (commitG_within ..) h
  .ite (.lit hg) (.ite (.op (addReply_within ..) hg) (.ite (.op (addReply_within ..) hg)
    (.op (addReply_within ..) (.ite h h0))))

/-- The answer of a held command (R16). -/
theorem answerHeld {id : Nat} {f : Cmd → State → Res} (h : Burns s t) (hf : ∀ c u, Burns u (f c u).st) :
    Burns s (answerHeld id f t) := by
  unfold Machine.answerHeld
  split
  · exact h
  · exact .conclude (.lit h) ((Burns.lit h).trans (hf _ _))

end Burns

end Sys2Proof.Machine
end

section
/-! SUPPORT. The operations that write the seal or the power state only burn, one lemma for each. -/

-- One theorem after another: elaborated side by side, their proofs wait on one another in dozens of threads.
set_option Elab.async false

namespace Sys2Proof.Machine
open Sys2Proof

/-- The seal-break counter does not fall as it advances, and L keeps its width (R200). -/
theorem sealAdvance_rises (x : Seal) (h : x.low < 65536) : (sealAdvance x).low < 65536 ∧
    x.otpBits * 65536 + x.low ≤ (sealAdvance x).otpBits * 65536 + (sealAdvance x).low := by
  unfold sealAdvance
  split
  · exact ⟨h, le_rfl⟩
  · split
    · dsimp only; omega
    · dsimp only; omega

/-- A boot that cannot verify L burns the next bit in its place (R200). -/
theorem bootCount_rises (lowOk : Bool) (x : Seal) (h : x.low < 65536) : (bootCount lowOk x).low < 65536 ∧
    x.otpBits * 65536 + x.low ≤ (bootCount lowOk x).otpBits * 65536 + (bootCount lowOk x).low := by
  unfold bootCount
  split
  · exact ⟨h, le_rfl⟩
  · split
    · dsimp only; omega
    · dsimp only; omega

/-! Writes of sealed parameters (R195, R198). -/

theorem sealedLog_burns (ws : List SealedWrite) (s : State) : Burns s (sealedLog ws s) :=
  .foldl (fun _ _ => .within (logPut_within ..)) _ <| .ite (.refl _) <| .lit (.refl _)

/-- A body behind the seal of the fields it writes. -/
theorem Burns.sealedWrite {ws : List SealedWrite} {s : State} {k : State → Res} (hk : ∀ t, Burns t (k t).st) :
    Burns s (sealedWrite ws s k).st := by
  unfold Machine.sealedWrite
  split
  · exact .refl s
  · exact (sealedLog_burns ws s).trans (hk _)

theorem adoptPosition_burns (q : Machine.Position) (s : State) : Burns s (adoptPosition q s) :=
  .op (dropLost_within ..) <| .lit (sealedLog_burns ..)

theorem bodyGnssSetPosition_burns (c : Cmd) (s : State) : Burns s (bodyGnssSetPosition c s).st := by
  unfold bodyGnssSetPosition
  exact .iteSt (.refl _) <| .checked <| .iteSt (.refl _) <| .op (ok_within ..) (adoptPosition_burns ..)

theorem bodyGnssConfig_burns (c : Cmd) (s : State) : Burns s (bodyGnssConfig c s).st :=
  .iteSt (.refl _) <| .iteSt (.refl _) <| .checked <| .iteSt (.refl _) <| .op (gnssApply_within ..) (sealedLog_burns ..)

theorem surveyEnd_burns (s : State) : Burns s (surveyEnd s) :=
  .ite (adoptPosition_burns ..) (.refl _)

theorem gnssSolution_burns (g : GnssSecond) (s0 : State) : Burns s0 (gnssSolution g s0) := by
  unfold gnssSolution
  split
  · exact .ite (.within (thresholdLoop_within ..)) (.refl _)
  · exact .op (dropLost_within ..) <| .op (thresholdLoop_within ..) <| .lit <|
      .foldl (fun _ _ => .within (showFix_within ..)) _ <| .op (surveyStep_within ..) <| .lit (surveyEnd_burns ..)

theorem bodyRefConfig_burns (c : Cmd) (s : State) : Burns s (bodyRefConfig c s).st :=
  .iteSt (.checked (.refl _)) <| .iteSt (.refl _) <| .checked <| .iteSt (.refl _) <| .op (refEnable_within ..) <|
    .op (rewriteWord_within ..) (sealedLog_burns ..)

theorem storeOffset_burns (s : State) : Burns s (storeOffset s) :=
  .lit (sealedLog_burns ..)

theorem leapSecond_burns (s : State) : Burns s (leapSecond s) := by
  unfold leapSecond
  split
  · exact .refl _
  · exact .ite (.ite (.step (storeOffset_burns ..) <| .lit (.refl _)) <| .lit (.refl _)) (.refl _)

theorem utcCompute_burns (s0 : State) : Burns s0 (utcCompute s0) := by
  unfold utcCompute
  dsimp only
  refine .lit ?_
  split
  · exact .lit <| .step (leapSecond_burns ..) <| .op (nextLapsed_within ..) (.within (nextLapsed_within ..))
  · exact .ite (.step (storeOffset_burns ..) <| .lit <| .step (leapSecond_burns ..) <|
      .op (nextLapsed_within ..) (.within (nextLapsed_within ..))) <| .lit <| .step (leapSecond_burns ..) <|
      .op (nextLapsed_within ..) (.within (nextLapsed_within ..))

theorem bodyTodConfig_burns (c : Cmd) (s : State) : Burns s (bodyTodConfig c s).st :=
  .iteSt (.refl _) <| .iteSt (.refl _) <| .checked <| .iteSt (.refl _) <| .lit (sealedLog_burns ..)

theorem bodyRefDuplex_burns (c : Cmd) (s : State) : Burns s (bodyRefDuplex c s).st :=
  .iteSt (.checked (.refl _)) <| .iteSt (.refl _) <| .checked <| .iteSt (.refl _) <|
    .op (State.setDup_within ..) (sealedLog_burns ..)

theorem bodyTimConfig_burns (c : Cmd) (s : State) : Burns s (bodyTimConfig c s).st :=
  .iteSt (.refl _) <| .iteSt (.refl _) <| .checked <| .iteSt (.refl _) <| .lit (sealedLog_burns ..)

theorem writeLearn_burns (p : List Byte) (s : State) : Burns s (writeLearn p s).st :=
  .iteSt (.refl _) <| .sealedWrite (fun _ => .iteSt
    (.ite (.foldl (fun _ _ => .within (State.setOsci_within ..)) _ <| .lit (.refl _)) <| .lit (.refl _)) <|
    .ite (.foldl (fun _ _ => .within (State.setOsci_within ..)) _ <| .lit (.refl _)) <| .lit (.refl _))

theorem bodyHoldoverLearn_burns (c : Cmd) (s : State) : Burns s (bodyHoldoverLearn c s).st :=
  .iteSt (.refl _) <| .iteSt (.refl _) <| .checked (writeLearn_burns ..)

theorem writeOsc_burns (i : Nat) (p : List Byte) (s : State) : Burns s (writeOsc i p s).st :=
  .sealedWrite (fun _ => .within (State.setOsci_within ..))

theorem writeModel_burns (i : Nat) (p : List Byte) (s : State) : Burns s (writeModel i p s).st :=
  .sealedWrite (fun _ => .within (State.setOsci_within ..))

theorem bodyHoldoverModel_burns (c : Cmd) (s : State) : Burns s (bodyHoldoverModel c s).st :=
  .iteSt (.checked (.refl _)) <| .iteSt (.refl _) <| .checked (writeModel_burns ..)

theorem bodyOscConfig_burns (c : Cmd) (s : State) : Burns s (bodyOscConfig c s).st :=
  .iteSt (.checked (.refl _)) <| .iteSt (.refl _) <| .iteSt (.checked <|
    .sealedWrite (fun _ => .lit (.refl _))) <| .checked (writeOsc_burns ..)

/-! The seal and its inputs (R198 to R202). -/

theorem closeWindow_burns (detail : Nat) (s : State) : Burns s (closeWindow detail s) :=
  .lit <| .ite (.op (setCond_within ..) (.within (logPut_within ..))) (.within (logPut_within ..))

theorem pressStuck_burns (verify : Bool) (s : State) : Burns s (pressStuck verify s) := by
  unfold pressStuck
  dsimp only
  split
  · cases verify <;> exact .ite (.op (setCond_within ..) (.lit (.refl _))) (.refl _)
  · exact .refl _

theorem armedExpiry_burns (s : State) : Burns s (armedExpiry s) := by
  unfold armedExpiry
  split
  · exact .ite (.lit (.refl _)) (.refl _)
  · exact .refl _

theorem sealPress_burns (s : State) : Burns s (sealPress s) :=
  .ite (.refl _) <| .lit (.refl _)

theorem bodyMetrologyId_burns (c : Cmd) (s : State) : Burns s (bodyMetrologyId c s).st := by
  unfold bodyMetrologyId
  refine .iteSt ?_ ?_
  · exact .refl _
  · dsimp only
    split
    · exact .lit (.refl _)
    · exact .refl _

theorem smbAlertAcknowledge_burns (s : State) : Burns s (smbAlertAcknowledge s) :=
  .lit (.refl _)

theorem verifyPress_burns (s : State) : Burns s (verifyPress s) :=
  .ite (.refl _) <| .op (irqArrive_within ..) <| .lit (.refl _)

theorem computeAt_burns (tk : FieldTime) (s0 : State) : Burns s0 (computeAt tk s0) :=
  .lit <| .op (holdoverEnd_within ..) <| .op (discover_within ..) <| .op (boundCompute_within ..) <|
    .op (rateCompute_within ..) <| .op (mStateCompute_within ..) <| .op (selCompute_within ..) <|
    .op (ensCompute_within ..) <| .step (utcCompute_burns ..) <| .op (readReports_within ..) <|
    .foldl (fun _ _ => .within (deliverWaiting_within ..)) _ <| .op (dropLost_within ..) <|
    .op (computeStart_within ..) (.within (reloadSealed_within ..))

theorem inputReleased_burns (verify : Bool) (s : State) : Burns s (inputReleased verify s) := by
  cases verify <;> exact .op (setCond_within ..) (.lit (.refl _))

theorem bodyBoundParams_burns (c : Cmd) (s : State) : Burns s (bodyBoundParams c s).st :=
  .iteSt (.refl _) <| .iteSt (.refl _) <| .checked <| .sealedWrite (fun _ => .lit (.refl _))

theorem bodySealBreakOpen_burns (c : Cmd) (s : State) : Burns s (bodySealBreakOpen c s).st :=
  .iteSt (.refl _) (.iteSt (.refl _) (.iteSt (.refl _) (.iteSt (.refl _)
    (.lit (.op (logPut_within ..) ⟨sealAdvance_rises s.sealing, le_rfl, fun _ => le_rfl⟩)))))

theorem bodySealClose_burns (c : Cmd) (s : State) : Burns s (bodySealClose c s).st :=
  .iteSt (.refl _) <| .iteSt (.refl _) (closeWindow_burns ..)

theorem sealWindowTimeout_burns (s : State) : Burns s (sealWindowTimeout s) := by
  unfold sealWindowTimeout
  split
  · exact .ite (closeWindow_burns ..) (.refl _)
  · exact .refl _

/-! Markers at the S tile (R545). -/

theorem enterServing_burns (s : State) : Burns s (enterServing s) :=
  .ite (.lit (.refl _)) (.refl _)

theorem sMarker_burns (good : Bool) (s : State) : Burns s (sMarker good s) :=
  .step (enterServing_burns ..) <| .op (applyRoles_within ..) <| .ite (.op (hearViolation_within ..) <|
    .lit (.refl _)) <| .lit (.refl _)

theorem frameReceive_burns (die : Nat) (noise : Option Nat) (s : State) : Burns s (frameReceive die noise s) := by
  unfold frameReceive
  split
  · exact .ite (.refl _) <| .ite (.step (sMarker_burns ..) <|
      .ite (.within (goodFrame_within ..)) (.within (badFrame_within ..))) <|
      .ite (.within (goodFrame_within ..)) (.within (badFrame_within ..))
  · exact .ite (.step (sMarker_burns ..) (.within (badFrame_within ..))) (.within (badFrame_within ..))

/-! Frames that are signed and sent: the power loop counts what was handled (R536). -/

theorem countHandled_burns (s : State) : Burns s (countHandled s) :=
  .lit (.refl _)

theorem signFrame_burns (f : TxFrame) (s0 : State) : Burns s0 (signFrame f s0).2 := by
  unfold signFrame
  refine .iteSnd ?_ ?_
  · exact .refl _
  · dsimp only
    split
    · exact .ite (.op (countDenied_within ..) <| .ite (.within (epochRoll_within ..)) (.refl _)) <|
        .ite (.within (epochRoll_within ..)) (.refl _)
    · exact .step (countHandled_burns ..) <| .ite (.within (epochRoll_within ..)) (.refl _)

theorem sealNts_burns (f : TxFrame) (s : State) : Burns s (sealNts f s).2 :=
  .iteSnd (.refl _) <| .step (countHandled_burns ..) (.within (drawRandom_within ..))

theorem launchCommit_burns (p : Nat) (s : State) : Burns s (launchCommit p s) := by
  unfold launchCommit
  dsimp only
  split
  · exact .within (settleWire_within ..)
  · refine .ite ?_ ?_
    · exact .op (countNotSent_within ..) <| .op (dropFrame_within ..) <|
        .op (State.setEthP_within ..) (.within (settleWire_within ..))
    · refine .ite ?_ ?_
      · exact .op (dropFrame_within ..) <| .op (State.setEthP_within ..) (.within (settleWire_within ..))
      · split
        · exact .op (countAuthFail_within ..) <| .op (dropFrame_within ..) (.snd ‹_› <|
            .step (signFrame_burns ..) <| .op (State.setEthP_within ..) (.within (settleWire_within ..)))
        · exact .op (State.setEthP_within ..) <| .op (reportCommit_within ..) <| .op (recordCommit_within ..) <|
            .step (sealNts_burns ..) (.snd ‹_› <| .step (signFrame_burns ..) <|
            .op (State.setEthP_within ..) (.within (settleWire_within ..)))

theorem bodyEthAsymCal_burns (c : Cmd) (s : State) : Burns s (bodyEthAsymCal c s).st := by
  unfold bodyEthAsymCal
  dsimp only
  refine .iteSt ?_ ?_
  · exact .refl _
  · refine .checked ?_
    split
    · exact .refl _
    · exact .refl _
    · exact .checked <| .sealedWrite (fun _ => .within (asymWrite_within ..))
    · exact .checked <| .iteSt (.refl _) <| .iteSt (.refl _) (.within (State.setEthP_within ..))

theorem bodyFurPortConfig_burns (c : Cmd) (s : State) : Burns s (bodyFurPortConfig c s).st :=
  .iteSt (.refl _) <| .checked <| .iteSt (.refl _) <| .checked <| .iteSt (.refl _) <| .iteSt (.refl _) <|
    .sealedWrite (fun _ => .within (furWrite_within ..))

theorem sendFrame_burns (n : Nat) (f : TxFrame) (s : State) : Burns s (sendFrame n f s) := by
  unfold sendFrame
  refine .ite ?_ ?_
  · exact .op (finishTask_within ..) (.within (queueFrame_within ..))
  · split
    · exact .op (finishTask_within ..) <| .op (queueFrame_within ..) (.snd ‹_› (signFrame_burns ..))
    · exact .op (finishTask_within ..) <| .op (countAuthFail_within ..) (.snd ‹_› (signFrame_burns ..))

theorem sendSync_burns (n p d transport : Nat) (e : Option Nat) (seq : Nat) (s : State) :
    Burns s (sendSync n p d transport e seq s) :=
  .ite (.step (sendFrame_burns ..) (.within (syncRecord_within ..))) (sendFrame_burns ..)

theorem ntsRespond_burns (n p : Nat) (rx : FieldTime) (b : Bound) (v6 : Bool) (src : Nat) (f : RxFrame) (m : NtpMsg)
    (uid : List Byte) (k : Nat × List Byte × List Byte) (slot : Option (Nat × Nat)) (s : State) :
    Burns s (ntsRespond n p rx b v6 src f m uid k slot s) := by
  unfold ntsRespond
  refine .ite ?_ ?_
  · exact .op (finishTask_within ..) (.within (countNotSent_within ..))
  · dsimp only
    refine .step (sendFrame_burns ..) ?_
    split
    · exact .iteSnd (.within (sampleNtp_within ..)) <|
        .iteSnd (.op (countDenied_within ..) (.within (sampleNtp_within ..))) <|
        .op (newCookies_within ..) (.within (sampleNtp_within ..))
    · exact .within (sampleNtp_within ..)

theorem ntsNak_burns (n p : Nat) (f : RxFrame) (m : NtpMsg) (uid : List Byte) (s : State) :
    Burns s (ntsNak n p f m uid s) :=
  sendFrame_burns ..

theorem ntsRequest_burns (n : Nat) (s : State) : Burns s (ntsRequest n s) := by
  unfold ntsRequest
  split
  · exact .refl _
  · refine .ite ?_ ?_
    · exact .refl _
    · refine .ite ?_ ?_
      · exact .within (finishTask_within ..)
      · dsimp only
        refine .ite ?_ ?_
        · exact .op (finishTask_within ..) <| .op (countRateDrop_within ..) (.within (takeToken_within ..))
        · split
          · refine .ite ?_ ?_
            · exact .op (finishTask_within ..) <| .op (State.setProf_within ..) (.within (takeToken_within ..))
            · split
              · exact .step (ntsNak_burns ..) <| .ite
                  (.op (countDenied_within ..) (.within (takeToken_within ..))) (.within (takeToken_within ..))
              · exact .ite (.step (ntsRespond_burns ..) <|
                  .step (countHandled_burns ..) (.within (takeToken_within ..))) <|
                  .step (ntsNak_burns ..) (.within (takeToken_within ..))
          · exact .op (finishTask_within ..) <| .op (State.setProf_within ..) (.within (takeToken_within ..))

theorem cancelUnicast_burns (n : Nat) (s : State) : Burns s (cancelUnicast n s) := by
  unfold cancelUnicast
  split
  · exact .refl _
  · split
    · refine .ite ?_ ?_
      · exact .within (finishTask_within ..)
      · refine .ite ?_ ?_
        · exact .op (finishTask_within ..) (.within (failAuth_within ..))
        · dsimp only
          refine .step (sendFrame_burns ..) ?_
          split
          · exact .op (clearGrant_within ..) (.within (numbered_within ..))
          · exact .within (numbered_within ..)
    · exact .within (finishTask_within ..)
    · exact .refl _

theorem sendUnicast_burns (n : Nat) (key : GKey) (kind : GrantKind) (s : State) :
    Burns s (sendUnicast n key kind s) := by
  unfold sendUnicast
  split
  · exact .within (finishTask_within ..)
  · dsimp only
    split
    · exact .step (sendSync_burns ..) (.within (State.setEntry_within ..))
    · exact .step (sendFrame_burns ..) (.within (State.setEntry_within ..))
    · exact .within (finishTask_within ..)

theorem sendMulticast_burns (n d p : Nat) (kind : GrantKind) (s : State) : Burns s (sendMulticast n d p kind s) := by
  unfold sendMulticast
  refine .ite ?_ ?_
  · exact .within (finishTask_within ..)
  · refine .ite ?_ ?_
    · exact .step (sendFrame_burns ..) (.within (State.setUpD_within ..))
    · dsimp only
      split
      · exact .step (sendSync_burns ..) (.within (State.setDom_within ..))
      · exact .step (sendFrame_burns ..) (.within (State.setDom_within ..))
      · exact .within (finishTask_within ..)

theorem sendFollowUp_burns (n : Nat) (y : TxFrame) (s : State) : Burns s (sendFollowUp n y s) :=
  .ite (.within (finishTask_within ..)) <| .step (sendFrame_burns ..) (.within (syncRecord_within ..))

theorem cancelGrants_burns (bits : Nat) (s : State) (i : Nat) : Burns s (cancelGrants bits s i) := by
  unfold cancelGrants
  dsimp only
  refine .foldl (fun t a => ?_) _ ?_
  · refine .ite ?_ ?_
    · split
      · exact .op (queueFree_within ..) (.snd ‹_› <| .step (signFrame_burns ..) (.within (numbered_within ..)))
      · exact .op (countAuthFail_within ..) (.snd ‹_› <| .step (signFrame_burns ..) (.within (numbered_within ..)))
    · exact .refl _
  · exact .refl _

theorem removeClients_burns (id mode : Nat) (k : GKey) (tenant bucket : Nat) (s : State) :
    Burns s (removeClients id mode k tenant bucket s) := by
  unfold removeClients
  dsimp only
  split
  · exact .foldl (fun _ _ => .op (freeEntry_within ..) (cancelGrants_burns ..)) _ (.refl _)
  · exact .ite (.answerHeld (.lit <| .foldl (fun _ _ => .op (freeEntry_within ..) (cancelGrants_burns ..)) _
      (.refl _)) (fun _ _ => .refl _)) <| .lit <|
      .foldl (fun _ _ => .op (freeEntry_within ..) (cancelGrants_burns ..)) _ (.refl _)

theorem runClientCmd_burns (id : Nat) (c : ClientCmd) (bucket : Nat) (s : State) :
    Burns s (runClientCmd id c bucket s) := by
  unfold runClientCmd
  refine .ite ?_ ?_
  · exact .refl _
  · split
    · exact .within (addClient_within ..)
    · exact removeClients_burns ..

theorem scheduledMessage_burns (w : Sched) (s : State) : Burns s (scheduledMessage w s) := by
  unfold scheduledMessage
  split
  · exact .ite (.within (schedDue_within ..)) (.refl _)
  · exact .within (schedDue_within ..)
  · split
    · exact .refl _
    · split
      · exact sendUnicast_burns ..
      · exact sendMulticast_burns ..
      · exact sendFollowUp_burns ..
      · exact .op (finishTask_within ..) (runClientCmd_burns ..)
      · exact .refl _

theorem settleFrame_burns (f : TxFrame) (r : Option (Nat × Nat)) (s : State) : Burns s (settleFrame f r s).2 :=
  .iteSnd (.refl _) (signFrame_burns ..)

theorem recordCreate_burns (n : Nat) (s : State) : Burns s (recordCreate n s) := by
  unfold recordCreate
  split
  · exact .refl _
  · dsimp only
    split
    · exact .refl _
    · split
      · exact .refl _
      · split
        · exact .op (finishTask_within ..) <| .op (State.setEthP_within ..) <|
            .step (settleFrame_burns ..) (.within (createRecord_within ..))
        · refine .op (finishTask_within ..) ?_
          refine .op (countAuthFail_within ..) ?_
          refine .op (returnCredit_within ..) ?_
          split
          · exact .op (voidRecord_within ..) <| .op (State.setEthP_within ..) <|
              .step (settleFrame_burns ..) (.within (createRecord_within ..))
          · exact .op (State.setEthP_within ..) <| .step (settleFrame_burns ..) (.within (createRecord_within ..))

theorem noteVerified_burns (kind n : Nat) (s : State) : Burns s (noteVerified kind n s) := by
  unfold noteVerified
  split
  · exact .ite (countHandled_burns ..) (.refl _)
  · exact .refl _

theorem arpRequest_burns (n : Nat) (s : State) : Burns s (arpRequest n s) := by
  unfold arpRequest
  split
  · split
    · exact sendFrame_burns ..
    · exact sendFrame_burns ..
    · exact .refl _
  · exact .refl _

theorem delayResp_burns (n : Nat) (x : PtpIn) (s : State) : Burns s (delayResp n x s) :=
  .ite (.within (finishTask_within ..)) <| .step (sendFrame_burns ..) (.within (sampleDom_within ..))

theorem delayReq_burns (n : Nat) (s : State) : Burns s (delayReq n s) := by
  unfold delayReq
  split
  · exact .refl _
  · split
    · dsimp only
      refine .ite ?_ ?_
      · exact .within (finishTask_within ..)
      · refine .ite ?_ ?_
        · exact .op (finishTask_within ..) (.within (failAuth_within ..))
        · refine .ite ?_ ?_
          · exact .ite (delayResp_burns ..) <| .op (finishTask_within ..) (.within (State.setProf_within ..))
          · split
            · exact .op (finishTask_within ..) (.within (State.setProf_within ..))
            · exact .ite (.step (delayResp_burns ..) (.within (State.setEntry_within ..))) <|
                .op (finishTask_within ..) <| .op (State.setProf_within ..) (.within (State.setEntry_within ..))
    · exact .refl _

theorem rateKiss_burns (n p : Nat) (v6 : Bool) (src : Nat) (f : RxFrame) (m : NtpMsg) (s : State) :
    Burns s (rateKiss n p v6 src f m s) :=
  .ite (.step (sendFrame_burns ..) (.within (State.setBucket_within ..))) <|
    .op (finishTask_within ..) (.within (countRateDrop_within ..))

theorem ntpRequest_burns (n : Nat) (s : State) : Burns s (ntpRequest n s) := by
  unfold ntpRequest
  split
  · exact .refl _
  · exact .ite (.refl _) <| .ite (.within (finishTask_within ..)) <|
      .ite (.step (rateKiss_burns ..) (.within (takeToken_within ..))) <| .step (sendFrame_burns ..) <|
      .op (sampleNtp_within ..) (.within (takeToken_within ..))

theorem requestUnicast_burns (n : Nat) (s : State) : Burns s (requestUnicast n s) := by
  unfold requestUnicast
  split
  · exact .refl _
  · split
    · exact .ite (.within (finishTask_within ..)) <|
        .ite (.op (finishTask_within ..) (.within (failAuth_within ..))) <| .step (sendFrame_burns ..) <|
        .op (numbered_within ..) <| .ite (.within (tryGrant_within ..)) <|
        .op (State.setDom_within ..) (.within (tryGrant_within ..))
    · exact .refl _

theorem computation_burns (tempM : Int) (s : State) : Burns s (computation tempM s) :=
  .ite (.refl _) <| .ite (.within (stepEffective_within ..)) <| .op (tandemCompute_within ..) <|
    .step (computeAt_burns ..) <| .op (State.setTb_within ..) (.within (stepEffective_within ..))

theorem sendRequest_burns (i c : Nat) (s : State) (kind : GrantKind) : Burns s (sendRequest i c s kind) := by
  unfold sendRequest
  dsimp only
  split
  · exact .op (queueFree_within ..) (.snd ‹_› <| .step (signFrame_burns ..) (.within (numbered_within ..)))
  · exact .op (countAuthFail_within ..) (.snd ‹_› <| .step (signFrame_burns ..) (.within (numbered_within ..)))

theorem upstreamRenewal_burns (i c : Nat) (s : State) : Burns s (upstreamRenewal i c s) :=
  .ite (.refl _) <| .foldl (fun _ _ => sendRequest_burns ..) _ (.within (State.setUpD_within ..))

theorem noteUpVerified_burns (kinds : Nat → Bool) (n : Nat) (s : State) : Burns s (noteUpVerified kinds n s) := by
  unfold noteUpVerified
  split
  · exact .ite (countHandled_burns ..) (.refl _)
  · exact .refl _

theorem disableDom_burns (d : Nat) (s : State) : Burns s (disableDom d s) :=
  .foldl (fun _ _ => .op (clearGrant_within ..) (cancelGrants_burns ..)) _ (.refl _)

theorem bodySvcDomain_burns (c : Cmd) (s : State) : Burns s (bodySvcDomain c s).st :=
  .iteSt (.refl _) <| .checked <| .iteSt (.refl _) <| .checked <| .iteSt (.refl _) <| .iteSt (.refl _) <|
    .op (State.setDom_within ..) <| .ite (.step (disableDom_burns ..) (.within (rewriteWord_within ..)))
    (.within (rewriteWord_within ..))

/-! Resets and start-up (R531 to R552). -/

theorem release_burns (s : State) : Burns s (release s) := .lit (.refl _)

theorem resetSTile_burns (s : State) : Burns s (resetSTile s) :=
  .lit (.refl _)

theorem restartSTile_burns (s : State) : Burns s (restartSTile s) :=
  .lit (resetSTile_burns ..)

theorem setCopies_burns (kind : Nat) (c : Copies) (s : State) : Burns s (setCopies kind c s) :=
  .ite (.lit (.refl _)) <| .lit (.refl _)

theorem startCopy_burns (kind : Nat) (b : Bool) (s : State) : Burns s (startCopy kind b s) :=
  .lit (setCopies_burns ..)

theorem acceptRecovery_burns (i : Image) (s : State) : Burns s (acceptRecovery i s) :=
  ⟨sealAdvance_rises s.sealing, le_rfl, fun _ => le_rfl⟩

theorem bootStore_burns (newerOk olderOk : Bool) (s : State) : Burns s (bootStore newerOk olderOk s) :=
  .ite (.within (loadStore_within ..)) <| .ite (.within (loadStore_within ..)) <| .op (setCond_within ..) <|
    .lit (.within (loadStore_within ..))

theorem writeV_burns (v : Nat) (s : State) : Burns s (writeV v s) :=
  .lit (.refl _)

theorem preferOther_burns (kind : Nat) (s : State) : Burns s (preferOther kind s) :=
  .lit (setCopies_burns ..)

theorem recoveredEntries_burns (s : State) : Burns s (recoveredEntries s) :=
  .ite (.step (closeWindow_burns ..) <| .lit <| .op (imageEntry_within ..) (.within (logPut_within ..))) (.refl _)

theorem startNuheif_burns (newerOk olderOk lowOk : Bool) (s : State) :
    Burns s (startNuheif newerOk olderOk lowOk s) := by
  have hcount : Burns s { s with sealing := bootCount lowOk s.sealing } :=
    ⟨bootCount_rises lowOk s.sealing, le_rfl, fun _ => le_rfl⟩
  unfold startNuheif
  dsimp only
  refine .op (sealedPortFields_within ..) (.op (gnssAtReset_within ..) (.step (recoveredEntries_burns ..) ?_))
  have hboot := hcount.trans (bootStore_burns newerOk olderOk _)
  exact .ite (.step (closeWindow_burns ..) <| .op (bootEntry_within ..) (.lit hboot)) <|
    .op (bootEntry_within ..) (.lit hboot)

theorem nuheifBoot_burns (f : StoreCheck) (s : State) : Burns s (nuheifBoot f s) := by
  unfold nuheifBoot
  refine .ite ?_ ?_
  · exact .refl _
  · split
    · exact .step (startNuheif_burns ..) <| .lit (startCopy_burns ..)
    · exact .lit (.refl _)

theorem applyProvision_burns (s : State) : Burns s (applyProvision s) :=
  .ite (.lit (.refl _)) <| .op (invalidateAll_within ..) <| .lit (.refl _)

theorem sTileBoot_burns (s : State) : Burns s (sTileBoot s) :=
  .ite (.refl _) <| .step (writeV_burns ..) <| .lit <| .op (drawRandom_within ..) <| .op (loadSower_within ..) <|
    .op (loadDevice_within ..) <| .step (applyProvision_burns ..) (.within (unwrapKeys_within ..))

theorem recoveryResponder_burns (s : State) : Burns s (recoveryResponder s) :=
  .ite (.lit (.refl _)) (.refl _)

theorem mBootEnd_burns (s : State) : Burns s (mBootEnd s) :=
  .ite (.lit (.refl _)) (.refl _)

theorem bootImageVerdict_burns (s : State) : Burns s (bootImageVerdict s) := by
  unfold bootImageVerdict
  refine .ite ?_ ?_
  · exact .refl _
  · split
    · exact .lit (startCopy_burns ..)
    · exact .refl _

theorem nuheifRecovery_burns (f : ImageFile) (s : State) : Burns s (nuheifRecovery f s) :=
  .ite (acceptRecovery_burns ..) (.refl _)

/-! Voltage and temperature (R532 to R535, R557). -/

theorem bodyVoltagePolicy_burns (c : Cmd) (s : State) : Burns s (bodyVoltagePolicy c s).st :=
  .iteSt (.refl _) <| .iteSt (.refl _) <| .checked <| .iteSt (.lit (.refl _)) <| .lit <| .lit (.refl _)

theorem bodyPwrPolicy_burns (c : Cmd) (s : State) : Burns s (bodyPwrPolicy c s).st :=
  .iteSt (.refl _) <| .iteSt (bodyVoltagePolicy_burns ..) <| .iteSt (.within (bodyArbPolicy_within ..)) <|
    .iteSt (.refl _) (.refl _)

theorem setDieTemp_burns (die : Nat) (t : Int) (s : State) : Burns s (setDieTemp die t s) :=
  .ite (.within (State.setTb_within ..)) <| .ite (.lit (.refl _)) <| .lit (.refl _)

theorem tempCritClear_burns (temps : List Int) (s : State) : Burns s (tempCritClear temps s) :=
  .ite (.op (setCond_within ..) <| .lit <| .foldl (fun _ _ => setDieTemp_burns ..) _ (.refl _)) <|
    .foldl (fun _ _ => setDieTemp_burns ..) _ (.refl _)

theorem avsFail_burns (s : State) : Burns s (avsFail s) :=
  .ite (.refl _) <| .op (setCond_within ..) <| .lit (.refl _)

theorem avsFaultEvent_burns (alert : Bool) (s : State) : Burns s (avsFaultEvent alert s) :=
  .ite (avsFail_burns ..) (.refl _)

/-! Images and the provisioning record (R549, R555, R556). -/

theorem setFrag_burns (kind : Nat) (f : Frag) (s : State) : Burns s (setFrag kind f s) :=
  .ite (.lit (.refl _)) <| .ite (.lit (.refl _)) <| .lit (.refl _)

theorem discardStaged_burns (kind : Nat) (s : State) : Burns s (discardStaged kind s) :=
  .ite (.lit (setFrag_burns ..)) <| .step (setCopies_burns ..) (setFrag_burns ..)

theorem notArmed_burns (s : State) : Burns s (notArmed s).st :=
  discardStaged_burns 3 s

theorem dueRestart_burns (action : Nat) (s : State) : Burns s (dueRestart action s) :=
  .ite (.refl _) <| .lit (.refl _)

theorem activateRecord_burns (action : Nat) (r : ProvStage) (s : State) : Burns s (activateRecord action r s).st := by
  refine .iteSt (notArmed_burns ..) (.iteSt (.refl _)
    (.step (dueRestart_burns ..) ⟨fun h => ⟨h, le_rfl⟩, ?_, fun _ => le_rfl⟩))
  dsimp only
  split
  · exact Nat.le_succ _
  · exact le_rfl

theorem preferStaged_burns (kind : Nat) (s : State) : Burns s (preferStaged kind s) :=
  setCopies_burns ..

theorem activateImage_burns (kind action : Nat) (s : State) : Burns s (activateImage kind action s).st :=
  .iteSt (.refl _) <| .step (dueRestart_burns ..) <| .step (preferStaged_burns ..) <|
    .ite (.within (imageEntry_within ..)) (.refl _)

/-- A field of the minimum SVNs that is raised to a greater value leaves none lower. -/
theorem getD_le_getD_set_max (l : List Nat) (i k v : Nat) : l.getD k 0 ≤ (l.set i (max (l.getD i 0) v)).getD k 0 := by
  rcases eq_or_ne i k with rfl | h
  · rcases lt_or_ge i l.length with hi | hi
    · simp [List.getD_eq_getElem?_getD, hi]
    · rw [List.set_eq_of_length_le hi]
  · simp [List.getD_eq_getElem?_getD, List.getElem?_set_ne h]

theorem bodyImageActivate_burns (c : Cmd) (s : State) : Burns s (bodyImageActivate c s).st := by
  unfold bodyImageActivate
  dsimp only
  refine .iteSt (.refl _) (.checked (.iteSt (.refl _) (.iteSt (.iteSt (.refl _) ?_) ?_)))
  · exact ⟨fun h => ⟨h, le_rfl⟩, le_rfl, fun k => getD_le_getD_set_max ..⟩
  · split
    · exact .refl _
    · refine .iteSt (.refl _) ?_
      split
      · exact activateRecord_burns ..
      · exact activateImage_burns ..

theorem rejectStaged_burns (kind : Nat) (s : State) : Burns s (rejectStaged kind s).st :=
  discardStaged_burns ..

theorem stageRecord_burns (b : List Byte) (s : State) : Burns s (stageRecord b s).st := by
  unfold stageRecord
  split
  · exact rejectStaged_burns ..
  · exact .iteSt (.refl _) <| .iteSt (notArmed_burns ..) <| .lit (setFrag_burns ..)

theorem stageImage_burns (kind : Nat) (b : List Byte) (s : State) : Burns s (stageImage kind b s).st :=
  .iteSt (rejectStaged_burns ..) <| .ite (.step (acceptRecovery_burns ..) (setFrag_burns ..)) <|
    .step (setCopies_burns ..) (setFrag_burns ..)

theorem bodyImageStage_burns (c : Cmd) (s : State) : Burns s (bodyImageStage c s).st :=
  .iteSt (.refl _) <| .checked <| .iteSt (.refl _) <| .iteSt (.step (setFrag_burns ..) <|
    .ite (discardStaged_burns ..) (.refl _)) <| .iteSt (.step (stageRecord_burns ..) <|
    .ite (discardStaged_burns ..) (.refl _)) <| .step (stageImage_burns ..) <| .ite (discardStaged_burns ..) (.refl _)

/-! The window of the voltage loop (R532). -/

theorem tryWrite_burns (v : Nat) (good : Bool) (s : State) : Burns s (tryWrite v good s) :=
  .ite (writeV_burns ..) <| .lit (.refl _)

theorem answerPolicies_burns (s : State) : Burns s (answerPolicies s) :=
  .ite (.foldl (fun _ _ => .answerHeld (.refl _) (fun _ _ => .refl _)) _ <| .lit (.refl _)) (.refl _)

theorem windowWrite_burns (good : Bool) (s : State) : Burns s (windowWrite good s) :=
  .ite (.ite (.refl _) <| .step (tryWrite_burns ..) <| .lit (.refl _)) <| .ite (.refl _) (tryWrite_burns ..)

theorem avsCount_burns (good : Bool) (s : State) : Burns s (avsCount good s) :=
  .ite (.step (avsFail_burns ..) <| .lit (.refl _)) <| .ite (.op (setCond_within ..) <| .lit <| .lit (.refl _)) <|
    .lit (.refl _)

theorem windowSeen_burns (p99 : Nat) (s : State) : Burns s (windowSeen p99 s) :=
  .lit (.refl _)

theorem noteMargins_burns (l : List Nat) (s : State) : Burns s (noteMargins l s) :=
  .lit (.refl _)

theorem rollHandled_burns (s : State) : Burns s (rollHandled s) :=
  .ite (.refl _) <| .lit (.refl _)

theorem voltageWindow_burns (w : WindowReport) (avsOk : Bool) (s : State) : Burns s (voltageWindow w avsOk s) :=
  .ite (.refl _) <| .step (answerPolicies_burns ..) <| .step (windowWrite_burns ..) <|
    .step (avsCount_burns ..) <| .step (windowSeen_burns ..) <| .step (noteMargins_burns ..) (rollHandled_burns ..)

theorem tempCrit_burns (die : Nat) (temp : Int) (s : State) : Burns s (tempCrit die temp s) :=
  .ite (.op (setCond_within ..) <| .lit (setDieTemp_burns ..)) (setDieTemp_burns ..)

/-! The command processor (R470, R475, R16). -/

theorem acceptPacket_burns (pk : Packet) (s : State) : Burns s (acceptPacket pk s) := by
  unfold acceptPacket
  dsimp only
  split
  · exact .op (addReply_within ..) <| .op (takeId_within ..) (.within (takeRequest_within ..))
  · exact .op (admitPacket_within ..) (.within (takeRequest_within ..))

/-- Every command of the command processor only burns. -/
theorem bodyFor_burns (op : Nat) (b : Body) (h : bodyFor op = some b) (c : Cmd) (s : State) : Burns s (b c s).st := by
  unfold bodyFor at h
  split at h
  all_goals cases h
  exacts [.within (bodyIdentify_within ..), .within (bodySnapshot_within ..), .within (bodyEcho_within ..),
    .within (bodyResetBlock_within ..), .within (bodyGetGeneration_within ..), bodyImageStage_burns ..,
    bodyImageActivate_burns .., .within (bodyTbStatus_within ..), bodyTimConfig_burns ..,
    .within (bodyTimMeasure_within ..), .within (bodyTimCalStatus_within ..), .within (bodyTimCalRun_within ..),
    bodyGnssConfig_burns .., .within (bodyGnssStatus_within ..), .within (bodyGnssChannels_within ..),
    bodyGnssSetPosition_burns .., .within (bodyGnssSurvey_within ..), .within (bodyGnssPpsMsg_within ..),
    bodyRefConfig_burns .., .within (bodyRefStatus_within ..), .within (bodyRefLimits_within ..),
    bodyRefDuplex_burns .., bodyTodConfig_burns .., .within (bodySelPolicy_within ..),
    .within (bodySelStatus_within ..), .within (bodySelForce_within ..), .within (bodySelClearForce_within ..),
    .within (bodyDpllConfig_within ..), .within (bodyTimeSet_within ..), .within (bodyTimeAdjust_within ..),
    bodyOscConfig_burns .., .within (bodyEnsembleStatus_within ..), bodyHoldoverModel_burns ..,
    bodyHoldoverLearn_burns .., .within (bodyBoundStatus_within ..), bodyBoundParams_burns ..,
    bodySealBreakOpen_burns .., bodySealClose_burns .., .within (bodyLogRead_within ..), bodyMetrologyId_burns ..,
    bodyFurPortConfig_burns .., .within (bodyFurPortStatus_within ..), .within (bodyFurRatePolicy_within ..),
    .within (bodyFurCalibrate_within ..), .within (bodyFurMailboxSend_within ..),
    .within (bodyFurMailboxRecv_within ..), .within (bodyFurBulkStatus_within ..),
    .within (bodyEthPortConfig_within ..), .within (bodyEthPortStatus_within ..),
    .within (bodyEthTagConfig_within ..), .within (bodyEthPauseConfig_within ..), bodyEthAsymCal_burns ..,
    .within (bodySvcProfile_within ..), bodySvcDomain_burns .., .within (bodySvcClientAdd_within ..),
    .within (bodySvcClientRemove_within ..), .within (bodySvcClientQuery_within ..),
    .within (bodySvcLimits_within ..), .within (bodyUpstreamConfig_within ..), .within (bodyEngStatus_within ..),
    .within (bodyProgStage_within ..), .within (bodyProgActivate_within ..),
    .within (bodyEngPlacementPolicy_within ..), .within (bodyEngCensus_within ..), .within (bodyKeyWrite_within ..),
    .within (bodyKeyInvalidate_within ..), .within (bodyKeyStatus_within ..), .within (bodyKeyAttr_within ..),
    .within (bodyHarrowStatus_within ..), .within (bodyNtsMasterRotate_within ..),
    .within (bodyEvdStoreConfig_within ..), .within (bodyEvdStatus_within ..),
    .within (bodyEvdNamespaceAdd_within ..), .within (bodyEvdRetention_within ..),
    .within (bodyEvdSheafRead_within ..), .within (bodyTanConfig_within ..), .within (bodyTanStatus_within ..),
    .within (bodyTanClaimSet_within ..), .within (bodyTanCompareLimits_within ..),
    .within (bodySynConfig_within ..), .within (bodySynStatus_within ..), .within (bodyOutPpsConfig_within ..),
    .within (bodyOutSampleClock_within ..), .within (bodyRefclkSpread_within ..), bodyPwrPolicy_burns ..,
    .within (bodyPwrStatus_within ..), .within (bodyPerfFilter_within ..), .within (bodyPerfRead_within ..),
    .within (bodyLoopbackSet_within ..), .within (bodyLoopbackClear_within ..), .within (bodyBistRun_within ..),
    .within (bodyTestUnlock_within ..), .within (bodyFaultRead_within ..), .within (bodyFaultClear_within ..),
    .within (bodyIrqGroupConfig_within ..), .within (bodyFltPinMask_within ..)]

/-- A command that runs (R470, R487). -/
theorem Burns.runCmd {body : Body} {c : Cmd} {s : State} (hb : ∀ c t, Burns t (body c t).st) :
    Burns s (runCmd body c s) :=
  .ite (.within (addReply_within ..)) (.conclude (.refl s) (hb ..))

theorem runOpcode_burns (c : Cmd) (s : State) : Burns s (runOpcode c s) := by
  unfold runOpcode
  split
  · exact .runCmd (bodyFor_burns _ _ ‹_›)
  · exact .within (addReply_within ..)

theorem mailboxService_burns (s0 : State) : Burns s0 (mailboxService s0) := by
  unfold mailboxService
  dsimp only
  refine .ite ?_ ?_
  · exact .ite (.within (leafFreqs_within ..)) (.refl _)
  · split
    · exact .ite (.within (leafFreqs_within ..)) (.refl _)
    · exact .ite (.lit <| .op (drawBelow_within ..) <| .op (drawBelow_within ..) <|
        .ite (.within (leafFreqs_within ..)) (.refl _)) <| .op (markFirst_within ..) <|
        .step (runOpcode_burns ..) <| .op (setSlots_within ..) <| .lit <| .op (drawBelow_within ..) <|
        .op (drawBelow_within ..) <| .ite (.within (leafFreqs_within ..)) (.refl _)

theorem commandAccept_burns (pk : Packet) (dmaOk : Bool) (s : State) : Burns s (commandAccept pk dmaOk s) := by
  unfold commandAccept
  dsimp only
  refine .ite ?_ ?_
  · exact .refl _
  · refine .ite ?_ ?_
    · exact .within (State.setRing_within ..)
    · split
      · exact .refl _
      · exact .ite (.lit (.refl _)) (acceptPacket_burns ..)

theorem commandExecute_burns (g : Nat) (s : State) : Burns s (commandExecute g s) := by
  unfold commandExecute
  split
  · exact .refl _
  · exact .op (markFirst_within ..) <| .step (runOpcode_burns ..) (.within (setSlots_within ..))

end Sys2Proof.Machine
end

section
/-! SUPPORT. Every row only burns, and so does every step. -/

-- One theorem after another: elaborated side by side, their proofs wait on one another in dozens of threads.
set_option Elab.async false

namespace Sys2Proof.Machine
open Sys2Proof

section
variable {s s' t : State} {ok : Bool}

/-- A command row changes what its body changes, and the replies (R470). -/
theorem bodyRow_burns {op least : Nat} {body : Body} {rq : Request} (hb : ∀ c u, Burns u (body c u).st)
    (h : kcpRow op least body rq s = .next t) : Burns s t := by
  obtain rfl : _ = t := Host.Outcome.next.inj h
  have ht : Burns s (takeId s) := .within (takeId_within s)
  unfold runRow
  refine .ite (.refl s) ?_
  split
  · exact .op (addReply_within ..) ht
  · exact .ite (.op (addReply_within ..) ht) <| .step (.runCmd hb) ht

/-- A command row runs the body of its opcode. -/
theorem row_burns {op least : Nat} {body : Body} {rq : Request} (hb : bodyFor op = some body)
    (h : kcpRow op least body rq s = .next t) : Burns s t := bodyRow_burns (bodyFor_burns op body hb) h

/-- An event changes what its effect changes, and the generations (R486). -/
theorem event_burns (hs : Burns s s') (h : done s s' = .next t) : Burns s t :=
  Host.Outcome.next.inj h ▸ .op (commitG_within ..) hs

/-- The same for an event that may answer held commands. -/
theorem eventHeld_burns (hs : Burns s s') (h : doneHeld s s' = .next t) : Burns s t :=
  Host.Outcome.next.inj h ▸ .op (stampReplies_within ..) (.op (commitG_within ..) hs)

/-- An event at a numbered unit. -/
theorem eventAt_burns (hs : Burns s s') (h : guardUnit ok s (done s s') = .next t) : Burns s t := by
  obtain ⟨-, h⟩ | ⟨-, rfl⟩ := guardUnit_next h
  · exact event_burns hs h
  · exact .refl _

/-- An event at a numbered unit that may answer held commands. -/
theorem eventHeldAt_burns (hs : Burns s s') (h : guardUnit ok s (doneHeld s s') = .next t) : Burns s t := by
  obtain ⟨-, h⟩ | ⟨-, rfl⟩ := guardUnit_next h
  · exact eventHeld_burns hs h
  · exact .refl _

/-- A row that goes on in a state as it stands. -/
theorem next_burns (hs : Burns s s') (h : (.next s' : Out) = .next t) : Burns s t := Host.Outcome.next.inj h ▸ hs

/-- A host's access to BAR0 (R473). -/
theorem hostAccess_burns {f : State → State} (hf : ∀ u, Burns u (f u)) : Burns s (hostAccess f s) :=
  .ite (hf s) (.refl s)

/-- A host's write of a register (R522). -/
theorem hostWrite_burns {f : State → State} {offset : Nat} (hf : ∀ u, Burns u (f u)) : Burns s (hostWrite offset f s) :=
  hostAccess_burns fun u => (Burns.within (countAccess_within true offset u)).trans (hf _)

end

/-! Resets (R531, R545, R556). -/

theorem resetModule_burns (torn : Bool) (s : State) : Burns s (resetModule torn s) :=
  ⟨fun h => ⟨h, le_rfl⟩, le_rfl, fun _ => le_rfl⟩

theorem restartModule_burns (s : State) : Burns s (restartModule s) :=
  (resetModule_burns false s).trans (release_burns _)

theorem supplyLoss_burns (s : State) : Burns s (supplyLoss s) :=
  (Burns.within (drawBelow_within 2 s)).trans (resetModule_burns _ _)

/-- Every row only burns: a command through the body of its opcode, an event through its effect. -/
theorem exec_burns {i : Instr} {s t : State} (h : exec i s = .next t) : Burns s t := by
  cases i with
  | identify _ | snapshot _ | echo _ | resetBlock _ | getGeneration _ | imageStage _ | imageActivate _
  | imageActivateSRestart _ | imageActivateModuleRestart _ | imageSvnRaise _ | tbStatus _ | timConfig _
  | timMeasure _ | timCalStatus _ | timCalRun _ | gnssConfig _ | gnssStatus _ | gnssChannels _ | gnssSetPosition _
  | gnssSurveyStatus _ | gnssSurveyStart _ | gnssSurveyAbort _ | gnssPpsMsg _ | refConfig _ | refStatus _
  | refLimits _ | refDuplex _ | todConfig _ | selPolicy _ | selStatus _ | selForce _ | selClearForce _ | dpllConfig _
  | timeSetMode0 _ | timeSetMode1 _ | timeAdjust _ | oscConfig _ | ensembleStatus _ | holdoverModel _
  | holdoverLearn _ | holdoverLearnFit _ | holdoverLearnDiscard _ | boundStatus _ | boundParams _ | sealBreakOpen _
  | sealClose _ | logRead _ | metrologyId _ | furPortConfig _ | furPortStatus _ | furRatePolicy _ | furCalibrate _
  | furMailboxSend _ | furMailboxRecv _ | furBulkStatus _ | ethPortConfig _ | ethPortStatus _ | ethTagConfig _
  | ethPauseConfig _ | ethAsymCal _ | loopMeasure _ | loopResultRead _ | svcProfile _ | svcDomain _ | svcClientAdd _
  | svcClientRemove _ | svcClientQuery _ | svcLimits _ | upstreamConfig _ | engStatus _ | progStage _
  | progActivate _ | engPlacementPolicy _ | engCensus _ | keyWrite _ | keyInvalidate _ | keyStatus _ | keyAttr _
  | harrowStatus _ | ntsMasterRotate _ | evdStoreConfig _ | evdFormat _ | evdStart _ | evdStop _ | evdFlush _
  | evdRelease _ | evdStatus _ | evdNamespaceAdd _ | evdRetention _ | evdSheafRead _ | tanConfig _ | tanStatus _
  | tanClaimAuto _ | tanClaimRelease _ | tanClaimMaintenance _ | tanCompareLimits _ | synConfig _ | syncInArm _
  | synStatus _ | outPpsConfig _ | outSampleClock _ | refclkSpread _ | pwrPolicy _ | pwrStatus _ | perfFilter _
  | perfRead _ | loopbackSet _ | loopbackClear _ | bistReport _ | bistKat _ | bistMarch _ | bistRng _ | bistPrbs _
  | bistReplica _ | testUnlockChallenge _ | testUnlockResponse _ | testUnlockEnd _ | faultRead _ | faultClear _
  | irqGroupConfig _ | irqGroupAck _ | fltPinMask _ =>
    exact row_burns rfl h
  | snapshotCapture => exact event_burns (.within (snapshotCapture_within ..)) h
  | timMeasureResult => exact event_burns (.within (timMeasureResult_within ..)) h
  | timCalVerifyEnd _ _ => exact eventAt_burns (.within (timCalVerifyEnd_within ..)) h
  | loopMeasureEnd _ _ => exact eventAt_burns (.within (loopMeasureEnd_within ..)) h
  | pwrPolicyArbitration _ => exact bodyRow_burns (fun _ _ => .within (bodyArbPolicy_within ..)) h
  | bistEnd _ _ => exact eventAt_burns (.within (bistEnd_within ..)) h
  | cmdSqTailWrite _ _ => exact eventAt_burns (hostWrite_burns fun _ => .within (tailWrite_within ..)) h
  | cmdCqHeadWrite _ _ => exact eventAt_burns (hostWrite_burns fun _ => .within (headWrite_within ..)) h
  | cmdRingCfgWrite _ _ => exact eventAt_burns (hostWrite_burns fun _ => .within (cfgWrite_within ..)) h
  | classLock _ => exact eventAt_burns (hostWrite_burns fun _ => .within (classLock_within ..)) h
  | ringQuiesce _ => exact eventAt_burns (.within (ringQuiesce_within ..)) h
  | cmdRingStatClear _ _ => exact eventAt_burns (hostWrite_burns fun _ => .within (statClear_within ..)) h
  | irqInsvcAck _ _ _ => exact eventAt_burns (hostWrite_burns fun _ => .within (insvcAck_within ..)) h
  | fltStatusClear block _ _ =>
    refine eventAt_burns (hostWrite_burns fun u => ?_) h
    split
    · exact .refl u
    · exact .within (faultClear_within ..)
  | perfOvfClear _ _ => exact eventAt_burns (hostWrite_burns fun _ => .within (ovfClear_within ..)) h
  | timeNsRead =>
    exact event_burns (hostAccess_burns fun _ => .op (timeNsRead_within ..) (.within (countAccess_within ..))) h
  | slowTimeout _ _ => exact event_burns (hostAccess_burns fun _ => .within (slowTimeout_within ..)) h
  | registerWrite _ _ _ => exact eventAt_burns (hostAccess_burns fun _ => .within (registerWrite_within ..)) h
  | commandAccept _ _ => exact eventAt_burns (commandAccept_burns ..) h
  | commandExecute _ =>
    obtain ⟨-, h⟩ | ⟨-, rfl⟩ := guardUnit_next h
    · exact next_burns (.ite (commandExecute_burns ..) (.refl s)) h
    · exact .refl _
  | replyDeliver _ _ => exact eventAt_burns (.within (replyDeliver_within ..)) h
  | relayCommand => exact event_burns (.within (relayCommand_within ..)) h
  | relayTimeout => exact event_burns (.within (relayTimeout_within ..)) h
  | mailboxService => exact next_burns (mailboxService_burns s) h
  | pendingReply => exact event_burns (.within (pendingReply_within ..)) h
  | mctpPacket _ => exact event_burns (.within (mctpPacket_within ..)) h
  | mctpReassemblyTimeout => exact event_burns (.within (reassemblyTimeout_within ..)) h
  | sbReplyRetry _ => exact event_burns (.within (sbReplyRetry_within ..)) h
  | setEndpointId _ _ => exact event_burns (.within (setEndpointId_within ..)) h
  | getEndpointId => exact event_burns (.within (mctpAnswer_within ..)) h
  | getMctpVersionSupport _ => exact event_burns (.within (mctpVersions_within ..)) h
  | getMessageTypeSupport => exact event_burns (.within (mctpAnswer_within ..)) h
  | getVendorDefinedMsgSupport _ => exact event_burns (.within (mctpVendor_within ..)) h
  | getVersion _ => exact event_burns (.within (spdmAnswer_within ..)) h
  | getCapabilities _ => exact event_burns (.within (spdmAnswer_within ..)) h
  | negotiateAlgorithms _ _ => exact event_burns (.within (spdmAnswer_within ..)) h
  | getDigests _ => exact event_burns (.within (spdmAnswer_within ..)) h
  | getCertificate _ _ _ _ => exact event_burns (.within (spdmAnswer_within ..)) h
  | challenge _ _ => exact event_burns (.within (spdmAnswer_within ..)) h
  | getMeasurements _ _ _ => exact event_burns (.within (spdmAnswer_within ..)) h
  | keyExchange _ _ => exact event_burns (.within (spdmAnswer_within ..)) h
  | finish _ _ _ => exact event_burns (.within (finish_within ..)) h
  | heartbeat _ => exact event_burns (.within (spdmAnswer_within ..)) h
  | keyUpdate _ => exact event_burns (.within (spdmAnswer_within ..)) h
  | endSession _ =>
    exact event_burns (.ite (.op (endSession_within ..) (.within (spdmAnswer_within ..)))
      (.within (spdmAnswer_within ..))) h
  | heartbeatTimeout _ => exact event_burns (.within (heartbeatTimeout_within ..)) h
  | powerOnResetRelease => exact next_burns (.ite (.refl s) (.step (release_burns _) (resetModule_burns false s))) h
  | supplyLoss => exact next_burns (supplyLoss_burns s) h
  | nuheifBoot _ => exact event_burns (nuheifBoot_burns ..) h
  | bootImageVerdict => exact event_burns (bootImageVerdict_burns ..) h
  | mBootEnd => exact event_burns (mBootEnd_burns ..) h
  | sTileBoot => exact event_burns (sTileBoot_burns ..) h
  | trialFallback tileS =>
    cases tileS with
    | true => exact event_burns (.ite (.step (restartSTile_burns ..) (preferOther_burns ..)) (.refl s)) h
    | false => exact next_burns (.ite (.step (restartModule_burns _) (preferOther_burns ..)) (.refl s)) h
  | recoveryResponder => exact event_burns (recoveryResponder_burns ..) h
  | nuheifRecovery _ => exact event_burns (nuheifRecovery_burns ..) h
  | perstAssert => exact event_burns (.within (perstAssert_within ..)) h
  | pcieLinkUp => exact event_burns (.within (pcieLinkUp_within ..)) h
  | msixUnmask _ => exact eventAt_burns (.within (msixUnmask_within ..)) h
  | apllFirstLock => exact event_burns (.within (apllFirstLock_within ..)) h
  | osc0Loss _ => exact event_burns (.within (osc0Loss_within ..)) h
  | osc0Relock => exact event_burns (.within (osc0Relock_within ..)) h
  | ovenRdyHigh => exact event_burns (.within (ovenRdyHigh_within ..)) h
  | ovenRdyLow => exact event_burns (.within (ovenRdyLow_within ..)) h
  | warmupWindowEnd _ _ => exact event_burns (.within (warmupWindowEnd_within ..)) h
  | measuredEdge _ _ _ _ => exact eventAt_burns (.within (measuredEdge_within ..)) h
  | conversionEnd _ _ _ _ => exact eventAt_burns (.within (conversionEnd_within ..)) h
  | channelLockWindow _ _ _ => exact eventAt_burns (.within (channelLockWindow_within ..)) h
  | refreshStart _ => exact eventAt_burns (.within (refreshStart_within ..)) h
  | refreshComplete _ _ => exact eventAt_burns (.within (refreshComplete_within ..)) h
  | tableReplace _ => exact eventAt_burns (.within (tableReplace_within ..)) h
  | interpolatorSelfcheck _ _ => exact eventAt_burns (.within (interpolatorSelfcheck_within ..)) h
  | gnssClkFault _ => exact event_burns (.within (gnssClkFault_within ..)) h
  | gnssClkClear _ => exact event_burns (.within (gnssClkClear_within ..)) h
  | acquisitionDwell _ _ _ _ _ => exact eventAt_burns (.within (acquisitionDwell_within ..)) h
  | trackingLoss _ _ => exact eventAt_burns (.within (trackingLoss_within ..)) h
  | multipathFit _ _ => exact eventAt_burns (.within (multipathFit_within ..)) h
  | ephemerisAdopt _ => exact eventAt_burns (.within (ephemerisAdopt_within ..)) h
  | gnssSolution _ => exact event_burns (gnssSolution_burns ..) h
  | quantisationPairing _ _ => exact event_burns (.within (quantisationPairing_within ..)) h
  | refEvent _ _ => exact eventAt_burns (.within (refEvent_within ..)) h
  | activityWindowClose _ => exact eventAt_burns (.within (activityWindowClose_within ..)) h
  | freqEvaluation => exact event_burns (.within (freqEvaluation_within ..)) h
  | uartMessage _ _ _ => exact eventAt_burns (.within (uartMessage_within ..)) h
  | uartLabelTimeout _ => exact eventAt_burns (.within (uartLabelTimeout_within ..)) h
  | utcHoldExpiry => exact event_burns (.within (utcHoldExpiry_within ..)) h
  | leapSecond => exact event_burns (leapSecond_burns ..) h
  | computation tempM =>
    exact next_burns (.op (answerTimeSet_within ..) (.op (commitG_within ..) (computation_burns tempM s))) h
  | stepEffective => exact event_burns (.within (stepEffective_within ..)) h
  | stepMirror => exact event_burns (.within (stepMirror_within ..)) h
  | settleEnd => exact event_burns (.within (settleEnd_within ..)) h
  | guardExpiry => exact event_burns (.within (guardExpiry_within ..)) h
  | wtrExpiry _ => exact eventAt_burns (.within (wtrExpiry_within ..)) h
  | memberJoin _ => exact eventAt_burns (.within (memberJoin_within ..)) h
  | ensembleTest => exact event_burns (.within (ensembleTest_within ..)) h
  | learningSample => exact event_burns (.within (learningSample_within ..)) h
  | holdoverFit => exact event_burns (.within (holdoverFit_within ..)) h
  | tempRead _ _ => exact eventAt_burns (.within (tempRead_within ..)) h
  | timeBusFrame => exact event_burns (.within (timeBusFrame_within ..)) h
  | frameReceive _ _ => exact eventAt_burns (frameReceive_burns ..) h
  | claimWord _ _ => exact eventAt_burns (.within (claimWord_within ..)) h
  | slotMeasurementReport _ _ => exact eventAt_burns (.within (slotReport_within ..)) h
  | faultReplicaUpdate => exact event_burns (.within (faultReplicaUpdate_within ..)) h
  | sealedPortFields => exact event_burns (.within (sealedPortFields_within ..)) h
  | sealPress => exact event_burns (sealPress_burns ..) h
  | armedExpiry => exact event_burns (armedExpiry_burns ..) h
  | verifyPress => exact event_burns (verifyPress_burns ..) h
  | pressStuck _ => exact event_burns (pressStuck_burns ..) h
  | sealWindowTimeout => exact event_burns (sealWindowTimeout_burns ..) h
  | logWrite _ _ _ _ _ => exact event_burns (.within (logWriteEvent_within ..)) h
  | logFlush _ => exact event_burns (.within (logFlush_within ..)) h
  | boutEpoch _ => exact eventHeldAt_burns (.within (boutEpoch_within ..)) h
  | burstBuild _ => exact eventAt_burns (.within (burstBuild_within ..)) h
  | downstreamBurst _ _ => exact eventAt_burns (.within (downstreamBurst_within ..)) h
  | upstreamLaunch _ => exact eventAt_burns (.within (upstreamLaunch_within ..)) h
  | upstreamBurst _ _ => exact eventAt_burns (.within (upstreamBurst_within ..)) h
  | leafDecision _ _ => exact eventAt_burns (.within (leafDecision_within ..)) h
  | searchTimeout _ => exact eventAt_burns (.within (searchTimeout_within ..)) h
  | listenTimeout _ => exact eventAt_burns (.within (listenTimeout_within ..)) h
  | leanAfterIdle _ => exact eventAt_burns (.within (leanAfterIdle_within ..)) h
  | calRunStart _ => exact eventAt_burns (.within (calRunStart_within ..)) h
  | calMeasurement _ _ => exact eventAt_burns (.within (calMeasurement_within ..)) h
  | calRunEnd _ => exact eventAt_burns (.within (calRunEnd_within ..)) h
  | calApply _ => exact eventAt_burns (.within (calApply_within ..)) h
  | mailboxTlv _ _ _ _ _ => exact eventAt_burns (.within (mailboxTlv_within ..)) h
  | mailboxResend _ => exact eventAt_burns (.within (mailboxResend_within ..)) h
  | statusArrayRewrite => exact event_burns (.within (statusArrayRewrite_within ..)) h
  | ethFrameReceive _ _ => exact eventAt_burns (.within (ethFrameReceive_within ..)) h
  | taskAdmit _ _ => exact eventAt_burns (.within (taskAdmit_within ..)) h
  | arpRequest _ => exact eventAt_burns (arpRequest_burns ..) h
  | requestUnicastTransmission _ => exact eventAt_burns (.step (requestUnicast_burns ..) (noteVerified_burns ..)) h
  | cancelUnicastTransmission _ => exact eventAt_burns (.step (cancelUnicast_burns ..) (noteVerified_burns ..)) h
  | delayReq _ => exact eventAt_burns (.step (delayReq_burns ..) (noteVerified_burns ..)) h
  | announceReceived _ => exact eventAt_burns (.op (announceReceived_within ..) (noteVerified_burns ..)) h
  | grantExpiry _ => exact eventAt_burns (.within (grantExpiry_within ..)) h
  | scheduledMessage _ => exact eventHeld_burns (scheduledMessage_burns ..) h
  | ntpRequest _ => exact eventAt_burns (ntpRequest_burns ..) h
  | ntsRequest _ => exact eventAt_burns (ntsRequest_burns ..) h
  | upstreamMessage _ => exact eventAt_burns (.op (upstreamMessage_within ..) (noteUpVerified_burns ..)) h
  | upstreamAnnounce _ => exact eventAt_burns (.op (upstreamAnnounce_within ..) (noteUpVerified_burns ..)) h
  | upstreamRenewal _ _ => exact eventAt_burns (upstreamRenewal_burns ..) h
  | launchCommit _ => exact eventAt_burns (launchCommit_burns ..) h
  | startOfFrame _ _ => exact eventAt_burns (.within (startOfFrame_within ..)) h
  | frameStomp _ => exact eventAt_burns (.within (frameStomp_within ..)) h
  | txDownDrop _ _ => exact eventAt_burns (.within (txDownDrop_within ..)) h
  | waitEvent _ _ _ => exact eventAt_burns (.within (waitEvent_within ..)) h
  | waitTimeout _ _ => exact eventAt_burns (.within (waitTimeout_within ..)) h
  | taskAbort _ => exact eventAt_burns (.within (taskAbort_within ..)) h
  | stallCensus => exact event_burns (.within (stallCensus_within ..)) h
  | engineSwitch _ => exact eventAt_burns (.within (engineSwitch_within ..)) h
  | bucketMove _ => exact eventHeldAt_burns (.within (bucketMove_within ..)) h
  | rebalance _ _ => exact event_burns (.within (rebalanceStep_within ..)) h
  | clusterWake _ _ => exact eventAt_burns (.within (clusterWake_within ..)) h
  | clusterFallow _ _ => exact eventAt_burns (.within (clusterFallow_within ..)) h
  | epochRoll => exact event_burns (.within (epochRoll_within ..)) h
  | harrowVisit => exact event_burns (.within (harrowVisit_within ..)) h
  | rngHealthFail => exact event_burns (.within (rngHealthFail_within ..)) h
  | recordCreate _ => exact eventAt_burns (recordCreate_burns ..) h
  | recordResolve _ _ => exact eventAt_burns (.within (recordResolve_within ..)) h
  | markWrite => exact event_burns (.within (markWrite_within ..)) h
  | sheafClose => exact event_burns (.within (sheafClose_within ..)) h
  | sheafAgeClose => exact event_burns (.within (sheafAgeClose_within ..)) h
  | sheafSeal => exact event_burns (.within (sheafSeal_within ..)) h
  | sheafWrite => exact event_burns (.within (sheafWrite_within ..)) h
  | nvmeCompletion _ => exact event_burns (.within (nvmeCompletion_within ..)) h
  | nvmeWriteTimeout => exact event_burns (.within (nvmeWriteTimeout_within ..)) h
  | nvmeEnumerate _ => exact event_burns (.within (nvmeEnumerate_within ..)) h
  | scrubRead _ => exact event_burns (.within (scrubRead_within ..)) h
  | ethLinkUp _ _ _ => exact eventAt_burns (.within (ethLinkUp_within ..)) h
  | ethLinkDown _ => exact eventAt_burns (.within (ethLinkDown_within ..)) h
  | autoNegotiation _ _ => exact eventAt_burns (.within (autoNegotiation_within ..)) h
  | lpiReceived _ => exact eventAt_burns (.within (lpiReceived_within ..)) h
  | pauseFrame _ _ _ _ => exact eventAt_burns (.within (pauseFrame_within ..)) h
  | pauseWdog _ => exact eventAt_burns (.within (pauseWdog_within ..)) h
  | pauseIgnoreExit _ => exact eventAt_burns (.within (pauseIgnoreExit_within ..)) h
  | phaseSample _ _ _ => exact eventAt_burns (.within (phaseSample_within ..)) h
  | arbiterWindow => exact eventHeld_burns (.within (arbiterWindow_within ..)) h
  | arbiterGrant _ _ => exact eventAt_burns (.within (arbiterGrant_within ..)) h
  | scrubBurst _ => exact eventAt_burns (.within (scrubBurst_within ..)) h
  | claimSend => exact eventHeld_burns (.op (claimSend_within ..) (.within (comparisonOut_within ..))) h
  | claimDecision => exact event_burns (.within (decideClaim_within ..)) h
  | claimCheck _ => exact event_burns (.within (claimCheck_within ..)) h
  | sharedDriverEnable => exact event_burns (.within (sharedDriverEnable_within ..)) h
  | claimFrame _ => exact event_burns (.within (claimFrame_within ..)) h
  | timeWord _ => exact event_burns (.within (timeWord_within ..)) h
  | mirror _ => exact event_burns (.within (mirrorFrame_within ..)) h
  | tandemReport => exact event_burns (.within (tandemReport_within ..)) h
  | rejoinHoldExpiry => exact event_burns (.within (rejoinHoldExpiry_within ..)) h
  | apllLock _ => exact eventAt_burns (.within (apllLock_within ..)) h
  | apllUnlock _ _ => exact eventAt_burns (.within (apllUnlock_within ..)) h
  | outputResume _ => exact eventAt_burns (.within (outputResume_within ..)) h
  | ppsEdge _ => exact eventAt_burns (.within (ppsEdge_within ..)) h
  | loopCheck _ _ => exact event_burns (.within (loopCheck_within ..)) h
  | sampleClockStart _ => exact eventAt_burns (.within (sampleClockStart_within ..)) h
  | epochStartMarker _ => exact eventAt_burns (.within (epochStartMarker_within ..)) h
  | syncInEdge _ => exact event_burns (.within (syncInEdge_within ..)) h
  | irqDelivery _ => exact eventAt_burns (.within (irqDeliver_within ..)) h
  | parityCheck _ =>
    exact eventAt_burns (.ite (.within (setSticky_within ..))
      (.op (enterSafe_within ..) (.within (parityFail_within ..)))) h
  | mirrorWrite _ => exact eventAt_burns (.within (mirrorWrite_within ..)) h
  | voltageWindow _ _ => exact eventHeld_burns (voltageWindow_burns ..) h
  | avsFault _ => exact event_burns (avsFaultEvent_burns ..) h
  | tempCrit _ _ => exact eventAt_burns (tempCrit_burns ..) h
  | unlockEffective => exact event_burns (.within (unlockEffective_within ..)) h
  | unlockExpiry => exact event_burns (.within (unlockExpiry_within ..)) h
  | loopbackExpiry _ _ => exact event_burns (.within (loopbackExpiry_within ..)) h
  | loopbackTestUnit _ _ _ _ => exact event_burns (.within (loopbackTestUnit_within ..)) h
  | bypass => exact event_burns (.within (tapLoad_within ..)) h
  | idcode => exact event_burns (.within (tapLoad_within ..)) h
  | samplePreload _ _ => exact event_burns (.lit (.within (tapLoad_within ..))) h
  | extest => exact event_burns (.within (tapLoad_within ..)) h
  | clamp => exact event_burns (.within (tapLoad_within ..)) h
  | highz => exact event_burns (.within (tapLoad_within ..)) h
  | extestPulse => exact event_burns (.within (tapLoad_within ..)) h
  | extestTrain => exact event_burns (.within (tapLoad_within ..)) h
  | lnavSubframe _ _ => exact eventAt_burns (.within (lnavSubframe_within ..)) h
  | bitSynchronisation _ => exact eventAt_burns (.within (bitSynchronisation_within ..)) h
  | inputReleased _ => exact event_burns (inputReleased_burns ..) h
  | smbAlertAcknowledge => exact event_burns (smbAlertAcknowledge_burns ..) h
  | pcieLinkLoopback => exact event_burns (.within (pcieLinkLoopback_within ..)) h
  | tempCritClear _ => exact event_burns (tempCritClear_burns ..) h
  | tapReset => exact event_burns (.lit (.refl s)) h
  | completionLimitExpiry _ => exact event_burns (.within (completionLimit_within ..)) h
  | wrappedStoreWritten => exact eventHeld_burns (.within (wrappedStoreWritten_within ..)) h
  | restartComplete => exact event_burns (.within (restartComplete_within ..)) h
  | wakeComplete _ => exact eventHeldAt_burns (.within (wakeComplete_within ..)) h
  | announceTimeout _ _ => exact eventAt_burns (.within (announceTimeout_within ..)) h
  | upstreamGrant _ => exact eventAt_burns (.op (upstreamGrant_within ..) (noteUpVerified_burns ..)) h
  | pauseExpiry _ _ => exact eventAt_burns (.within (pauseExpiry_within ..)) h
  | activationRestart =>
    change execActivationRestart s = .next t at h
    unfold execActivationRestart at h
    split at h
    · exact next_burns (.ite (restartModule_burns s) (.refl s)) h
    · exact event_burns (.ite (restartSTile_burns s) (.refl s)) h
    · exact next_burns (.refl s) h

/-! The passage of a microsecond, and a step. -/

theorem advance_burns (s : State) : Burns s (advance s) :=
  .ite ⟨fun h => ⟨h, le_rfl⟩, le_rfl, fun _ => le_rfl⟩ ⟨fun h => ⟨h, le_rfl⟩, le_rfl, fun _ => le_rfl⟩

theorem idle_burns (s : State) : Burns s (idle s) :=
  .op (portTicks_within ..) <| .step (advance_burns _) (.within (latchSnaps_within ..))

/-- A step takes the front command from the queue, or lets a microsecond pass. -/
theorem step_burns {s t : State} (h : step s = .next t) : Burns s t := by
  unfold step at h
  split at h
  · exact next_burns (idle_burns s) h
  · exact .step (exec_burns h) (.lit (.refl s))

/-- Settles O6: only the seal-break counter, the owner bits and the minimum SVNs are burned, and each only upward. -/
theorem fusesOnlyBurn : Obligations.FusesOnlyBurn :=
  fun _ _ h => ⟨(step_burns h).count, (step_burns h).owner, (step_burns h).svn⟩

end Sys2Proof.Machine
end

section
/-! SUPPORT. The sealed event log, the seal and its inputs (R198 to R205, R211). -/

namespace Sys2Proof.Machine
open Sys2Proof

/-! The sealed event log (R203 to R205). -/

/-- The head of the log is an entry of what was to be written, and the log's head hash is its. -/
def Newest (w : LogWait) (l : EventLog) : Prop :=
  ∃ n h, l.entries.head? = some ⟨n, w.type, w.detail, w.id, w.timeUs, w.value, h⟩ ∧ l.head = some h

theorem logWrite_newest (l : EventLog) (w : LogWait) : Newest w (logWrite l w) := by
  unfold logWrite
  split <;> exact ⟨_, _, rfl, rfl⟩

/-- Writing an entry leaves LOG_FAULT and the queue. -/
theorem logWrite_fault_queue (l : EventLog) (w : LogWait) :
    (logWrite l w).fault = l.fault ∧ (logWrite l w).queue = l.queue := by
  unfold logWrite
  split <;> exact ⟨rfl, rfl⟩

theorem foldl_logWrite_fault_queue (ws : List LogWait) (l : EventLog) :
    (ws.foldl logWrite l).fault = l.fault ∧ (ws.foldl logWrite l).queue = l.queue := by
  induction ws generalizing l with
  | nil => exact ⟨rfl, rfl⟩
  | cons w ws ih =>
    obtain ⟨hf, hq⟩ := logWrite_fault_queue l w
    exact ⟨(ih _).1.trans hf, (ih _).2.trans hq⟩

/-- An entry that the flash takes is written at once (R205). -/
theorem logPut_log {s : State} (hf : s.log.fault = false) (hr : s.log.refuses = false) (type detail id value : Nat) :
    (logPut type detail id value s).log = logWrite s.log ⟨type, detail, id, ftUs s.acc, value⟩ := by
  simp [logPut, logAt, logEvent, logTakes, hf, hr]

/-- An entry of the log is no part of the seal. -/
theorem logPut_sealing (type detail id value : Nat) (s : State) : (logPut type detail id value s).sealing = s.sealing :=
  ((logPut_within type detail id value s).keeps .sealing (by decide)).symm

/-! The seal-break counter and the window (R198, R200). -/

theorem sealAdvance_count {x : Seal} (h : x.otpBits * 65536 + x.low < sat32) :
    (sealAdvance x).otpBits * 65536 + (sealAdvance x).low = x.otpBits * 65536 + x.low + 1 := by
  rw [sealAdvance, if_neg (by omega)]
  split <;> (dsimp only; omega)

/-- Only the burned bits and L count. -/
theorem sealCount_congr {s t : State} (hb : t.sealing.otpBits = s.sealing.otpBits) (hl : t.sealing.low = s.sealing.low) :
    sealCount t = sealCount s := by rw [sealCount, hb, hl, sealCount]

/-- The window closed by a detail: its entry in the log, the counter as it was. -/
theorem closeWindow_leaves {s : State} (hf : s.log.fault = false) (hr : s.log.refuses = false) (detail : Nat) :
    windowOpen (closeWindow detail s) = false ∧ sealCount (closeWindow detail s) = sealCount s ∧
      Newest ⟨2, detail, 0, ftUs s.acc, leVal ((sealedDigest s).take 8)⟩ (closeWindow detail s).log := by
  have hnew := logPut_log hf hr 2 detail 0 (leVal ((sealedDigest s).take 8)) ▸ logWrite_newest s.log _
  have hseal := logPut_sealing 2 detail 0 (leVal ((sealedDigest s).take 8)) s
  have hb := congrArg Seal.otpBits hseal
  have hl := congrArg Seal.low hseal
  unfold closeWindow
  cases s.sealing.windowFault <;> exact ⟨rfl, sealCount_congr hb hl, hnew⟩

/-- The window opened: the counter advanced, its entry in the log. -/
def windowOpened (s : State) : State :=
  let t := logPut 1 0 0 (sealCount { s with sealing := sealAdvance s.sealing }) { s with sealing := sealAdvance s.sealing }
  { t with sealing := { t.sealing with windowAt := some t.now, windowFault := t.sealing.paramFault } }

theorem windowOpened_within (s : State) : Within [.bus, .log, .sealing, .regs] s (windowOpened s) :=
  Within.sealing (by decide) (Within.op (logPut_within ..) rfl (Within.sealing (by decide) (Within.refl _ s)))

theorem windowOpened_leaves {s : State} (hc : sealCount s < sat32) (hf : s.log.fault = false) (hr : s.log.refuses = false) :
    (windowOpened s).sealing.windowAt = some s.now ∧ sealCount (windowOpened s) = sealCount s + 1 ∧
      Newest ⟨1, 0, 0, ftUs s.acc, sealCount (windowOpened s)⟩ (windowOpened s).log := by
  let a : State := { s with sealing := sealAdvance s.sealing }
  have hput := logPut_sealing 1 0 0 (sealCount a) a
  have hb := congrArg Seal.otpBits hput
  have hl := congrArg Seal.low hput
  have hcount : sealCount (windowOpened s) = sealCount a := sealCount_congr hb hl
  refine ⟨congrArg some (logPut_within 1 0 0 (sealCount a) a).now_eq, hcount.trans (sealAdvance_count hc), ?_⟩
  rw [hcount]
  exact logPut_log (s := a) hf hr 1 0 0 (sealCount a) ▸ logWrite_newest ..

/-- SEAL_BREAK_OPEN of an armed module whose counter can advance opens the window (R211). -/
theorem bodySealBreakOpen_armed {c : Cmd} {s : State} (hp : c.req.payload = []) (ha : armed s = true)
    (hw : windowOpen s = false) (hc : sealCount s < sat32) (hf : s.log.fault = false) :
    bodySealBreakOpen c s = ok (windowOpened s) (sealReply (windowOpened s)) := by
  rw [bodySealBreakOpen, if_neg (not_not.mpr hp), if_neg (by simp [ha, hw]), if_neg (not_le.mpr hc), if_neg (by simp [hf])]
  rfl

/-- SEAL_CLOSE closes an open window (R211). -/
theorem bodySealClose_open {c : Cmd} {s : State} (hp : c.req.payload = []) (hw : windowOpen s = true) :
    bodySealClose c s = ok (closeWindow 0 s) (sealReply (closeWindow 0 s)) := by
  rw [bodySealClose, if_neg (not_not.mpr hp), if_neg (by simp [hw])]

/-! SEAL_N and VERIFY_N (R201, R202). -/

/-- The state of an input. -/
def inputOf (verify : Bool) (s : State) : Press := if verify then s.sealing.verifyN else s.sealing.sealN

/-- A condition is no part of the seal. -/
theorem setCond_sealing (b n : Nat) (v : Bool) (s : State) : (setCond b n v s).sealing = s.sealing :=
  ((setCond_within b n v s).keeps .sealing (by decide)).symm

theorem pressStuck_late {verify : Bool} {s : State} {t0 : Nat} (hl : (inputOf verify s).lowSince = some t0)
    (hd : t0 + 30000000000 ≤ s.now) :
    inputOf verify (pressStuck verify s) = { inputOf verify s with stuck := true, released := false } ∧
      bit ((pressStuck verify s).flt 0).cond (if verify then 9 else 10) = true ∧
      bit ((pressStuck verify s).flt 0).status (if verify then 9 else 10) = true := by
  have hlow : (if verify then s.sealing.verifyN else s.sealing.sealN).lowSince = some t0 := hl
  simp only [pressStuck, hlow, if_pos hd]
  refine ⟨?_, (setCond_true_flt ..).2, (setCond_true_flt ..).1⟩
  cases verify <;> simp [inputOf, setCond_sealing, ← hlow]

theorem inputReleased_leaves (verify : Bool) (s : State) :
    inputOf verify (inputReleased verify s) = { released := true, lowSince := none } ∧
      bit ((inputReleased verify s).flt 0).cond (if verify then 9 else 10) = false ∧
      ((inputReleased verify s).flt 0).status = (s.flt 0).status := by
  refine ⟨?_, (setCond_false_flt ..).1, (setCond_false_flt ..).2⟩
  cases verify <;> simp [inputReleased, inputOf, setCond_sealing]

/-- A press of VERIFY_N that counts latches the identification for both masters (R202). -/
def verifyLatched (s : State) : State :=
  { s with sealing := { s.sealing with
      verifyN := { s.sealing.verifyN with counted := true, lowSince := some (s.now - 20 * 1000000) }
      latch := some (metrologyId s true), latchHost := true, latchSb := true, smbAlert := true } }

theorem verifyPress_counts {s : State} (hr : s.sealing.verifyN.released = true) (hc : s.sealing.verifyN.counted = false)
    (hs : s.sealing.verifyN.stuck = false) : verifyPress s = irqArrive 1 1 (verifyLatched s) :=
  if_neg (by simp [hr, hc, hs])

/-! The commands of group 0x06 (R202, R210, R212). -/

/-- The record of BOUND_PARAMS with its sealed fields logged. -/
def bndWritten (ws : List SealedWrite) (g : BoundCfg) (s : State) : State :=
  { sealedLog ws s with bnd := { (sealedLog ws s).bnd with cfg := g } }

theorem bndWritten_within (ws : List SealedWrite) (g : BoundCfg) (s : State) :
    Within [.bus, .bnd, .log, .sealing, .regs] s (bndWritten ws g s) :=
  Within.bnd (by decide) (Within.op (sealedLog_within ws s) rfl (Within.refl _ _))

theorem bndWritten_bnd (ws : List SealedWrite) (g : BoundCfg) (s : State) :
    (bndWritten ws g s).bnd = { s.bnd with cfg := g } := by
  have hbnd : s.bnd = (sealedLog ws s).bnd := (sealedLog_within ws s).keeps .bnd (by decide)
  rw [bndWritten, ← hbnd]

/-- The retained entries from START, oldest first, at most COUNT of them (R212). -/
def entriesFrom (start count : Nat) (s : State) : List LogEntry :=
  ((s.log.entries.filter (fun e => decide (start ≤ e.seq))).reverse).take count

/-- The reply of LOG_READ without ACK (R212). -/
def logReply (start count : Nat) (s : State) : List Byte :=
  le 4 (logOldest s) ++ le 4 (logNewest s) ++ le 2 (entriesFrom start count s).length ++
    le 1 (flag 0 (logNearWrap s) + flag 1 s.log.fault) ++ zeros 5 ++ priorHash s start ++
    (entriesFrom start count s).flatMap logEntryBytes

theorem bodyLogRead_noAck {c : Cmd} {s : State} (hl : c.req.payload.length = 8)
    (ho : logOldest s ≤ rd c.req.payload 0 4) (hn : rd c.req.payload 0 4 ≤ logNewest s)
    (h1 : 1 ≤ rd c.req.payload 4 2) (h125 : rd c.req.payload 4 2 ≤ 125) (ha : rd c.req.payload 6 1 = 0)
    (hz : rd c.req.payload 7 1 = 0) :
    bodyLogRead c s = ok s (logReply (rd c.req.payload 0 4) (rd c.req.payload 4 2) s) := by
  refine (if_neg (not_not.mpr hl)).trans ((checked_of_all ?_ _ _).trans ?_)
  · simp [zeroAt, *]
  · rw [if_neg (by rw [ha]; decide)]
    rfl

/-- METROLOGY_ID returns the present state where no latch waits for its master (R202). -/
theorem bodyMetrologyId_unlatched {c : Cmd} {s : State} (hp : c.req.payload = [])
    (hl : (if fromHost c.req.src then s.sealing.latchHost else s.sealing.latchSb) = false) :
    bodyMetrologyId c s = ok s (metrologyId s false) := by
  simp only [bodyMetrologyId, hp, hl, ne_eq, not_true_eq_false, if_false]

/-! LOG_FLUSH (R205). -/

theorem logFlush_leaves {s : State} (hf : s.log.fault = true) :
    (logFlush true s).log = s.log.queue.foldl logWrite { s.log with fault := false, queue := [], refuses := false } ∧
      bit ((logFlush true s).flt 0).cond 5 = false := by
  rw [logFlush, hf]
  exact ⟨rfl, (setCond_false_flt ..).1⟩

end Sys2Proof.Machine
end

section
/-! SUPPORT. Bound, seal and log: every command and event completes (R198 to R213). -/

namespace Sys2Proof.Machine
open Sys2Proof

/-- Settles O19: each command's body under its checks, each event's effect under its conditions. -/
theorem boundSealLogComplete : Obligations.BoundSealLogComplete := by
  unfold Obligations.BoundSealLogComplete
  refine ⟨?_, ?_, ?_, ?_, ?_, ?_, ?_, ?_, ?_, ?_, ?_, ?_, ?_, ?_, ?_⟩
  · intro rq s h hp
    exact kcpRow_reads 0x0601 bodyBoundStatus rq s (boundStatus s) h (if_pos hp)
  · intro rq s h hl hw1 hz hs1 hs2 hw hlog
    have hne : (rowCmd 0x0602 rq s).req.payload ≠ [] := List.ne_nil_of_length_eq_add_one hl
    refine goes_of_ok_within h (u := bndWritten _ _ (takeId s)) ((if_neg hne).trans ((if_neg (not_not.mpr hl)).trans
      ((checked_of_all ?_ _ _).trans (sealedWrite_of_status (s := takeId s) (sealedStatus_open hw hlog _) _))))
      (bndWritten_within _ _ _) (by decide) fun k hans => ⟨bndWritten_bnd _ _ (takeId s), hans⟩
    simp [zeroAt, rowCmd, *]
  · intro rq s h hp ha hw hc hf hr
    obtain ⟨hat, hcount, n, hash, hnew, -⟩ := windowOpened_leaves (s := takeId s) hc hf hr
    exact goes_of_ok_within h (bodySealBreakOpen_armed hp ha hw hc hf) (windowOpened_within _) (by decide)
      fun k hans => ⟨hat, hcount, congrArg (Option.map _) hnew, hans⟩
  · intro rq s h hp hw hf hr
    obtain ⟨hopen, hcount, n, hash, hnew, -⟩ := closeWindow_leaves (s := takeId s) hf hr 0
    exact goes_of_ok_within h (bodySealClose_open hp hw) (closeWindow_within _ _) (by decide)
      fun k hans => ⟨hopen, hcount, congrArg (Option.map _) hnew, hans⟩
  · intro rq s h hl h1 h2 h3 h4 h5 h6
    exact kcpRow_reads 0x0605 bodyLogRead rq s _ h (bodyLogRead_noAck hl h1 h2 h3 h4 h5 h6)
  · intro rq s h hp hlatch
    exact kcpRow_reads 0x0606 bodyMetrologyId rq s _ h (bodyMetrologyId_unlatched hp hlatch)
  · intro s hr hc hs
    refine goes_done fun k => ?_
    simp [sealPress, hr, hc, hs]
  · intro s a ha hd
    refine goes_done fun k => ?_
    simp [armedExpiry, ha, hd, armed]
  · intro s hr hc hs
    refine goes_done fun k => ?_
    rw [verifyPress_counts hr hc hs]
    exact ⟨rfl, rfl, rfl, rfl, rfl, setIrq_irqG_same ..⟩
  · intro verify s x t0 hx hl hd
    subst hx
    exact goes_done fun k => pressStuck_late hl hd
  · intro verify s
    exact goes_done fun k => inputReleased_leaves verify s
  · intro s
    exact goes_done fun k => rfl
  · intro s t0 hw hd hf hr
    obtain ⟨hopen, -, n, hash, hnew, -⟩ := closeWindow_leaves hf hr 1
    have ht : sealWindowTimeout s = closeWindow 1 s := by simp [sealWindowTimeout, hw, hd]
    refine goes_done fun k => ?_
    rw [ht]
    exact ⟨hopen, congrArg (Option.map _) hnew⟩
  · intro type detail id value s hf
    have hlog : (logWriteEvent type detail id value true s).log =
      logWrite { s.log with refuses := false } ⟨type, detail, id, ftUs s.acc, value⟩ :=
      logPut_log (s := { s with log := { s.log with refuses := false } }) hf rfl type detail id value
    obtain ⟨n, hash, hnew, hhead⟩ :=
      logWrite_newest { s.log with refuses := false } ⟨type, detail, id, ftUs s.acc, value⟩
    refine goes_done fun k => ?_
    dsimp only
    rw [hlog]
    exact ⟨congrArg (Option.map _) hnew, hhead.trans (congrArg (Option.map LogEntry.hash) hnew).symm,
      (logWrite_fault_queue _ _).1.trans hf⟩
  · intro s hf
    obtain ⟨hlog, hcond⟩ := logFlush_leaves hf
    obtain ⟨hfault, hqueue⟩ :=
      foldl_logWrite_fault_queue s.log.queue { s.log with fault := false, queue := [], refuses := false }
    refine goes_done fun k => ?_
    dsimp only
    rw [hlog]
    exact ⟨hfault, hqueue, hcond, rfl⟩

end Sys2Proof.Machine
end

section
/-! SUPPORT. What bouts, bursts, decisions, timeouts and mailbox events leave of a furrow port (R221 to R263). -/

namespace Sys2Proof.Machine
open Sys2Proof

/-! What leaves every furrow port as it is. -/

/-- An operation that does not reach the furrow tiles leaves every port as it is. -/
theorem Within.port_eq {ps : List Part} {s t : State} (h : Within ps s t) (hf : .fur ∉ ps) (p : Nat) :
    t.port p = s.port p := by
  rw [State.port, State.port, show s.fur = t.fur from h.keeps .fur hf]

@[simp] theorem setTst_port (s : State) (x : Tst) (p : Nat) : State.port { s with tst := x } p = s.port p := rfl
@[simp] theorem setPaux_port (s : State) (i : Nat) (x : FurAux) (p : Nat) : (s.setPaux i x).port p = s.port p := rfl
@[simp] theorem setPk_port (s : State) (i : Nat) (x : PortKeys) (p : Nat) : (s.setPk i x).port p = s.port p := rfl
@[simp] theorem perfAdd_port (e n : Nat) (s : State) (p : Nat) : (perfAdd e n s).port p = s.port p := rfl
@[simp] theorem perfAdd_paux (e n : Nat) (s : State) (p : Nat) : (perfAdd e n s).paux p = s.paux p := rfl
@[simp] theorem countNoKey_port (s : State) (p : Nat) : (countNoKey s).port p = s.port p := rfl
@[simp] theorem countNoKey_paux (s : State) (p : Nat) : (countNoKey s).paux p = s.paux p := rfl
@[simp] theorem irqArrive_port (g src : Nat) (s : State) (p : Nat) : (irqArrive g src s).port p = s.port p := rfl
@[simp] theorem onLine_port (q : Nat) (lean : Bool) (g : List Nat) (t : Int) (s : State) (p : Nat) :
    (onLine q lean g t s).port p = s.port p := rfl
@[simp] theorem calOnLine_port (q : Nat) (t : Int) (s : State) (p : Nat) : (calOnLine q t s).port p = s.port p := rfl
@[simp] theorem setArrive_port (q : Nat) (lean : Bool) (lo hi : Int) (s : State) (p : Nat) :
    (setArrive q lean lo hi s).port p = s.port p := rfl
@[simp] theorem setSticky_port (b n : Nat) (s : State) (p : Nat) : (setSticky b n s).port p = s.port p :=
  (setSticky_within b n s).port_eq (by decide) p
@[simp] theorem furBoutRecord_port (q : Nat) (d : EvData) (s : State) (p : Nat) :
    (furBoutRecord q d s).port p = s.port p :=
  (furBoutRecord_within q d s).port_eq (by decide) p
@[simp] theorem echoCount_port (q : Nat) (e a : Bool) (d : Option Sys2Proof.Interval) (s : State) (p : Nat) :
    (echoCount q e a d s).port p = s.port p :=
  (echoCount_within q e a d s).port_eq (by decide) p

/-- Commands that were held on a rate policy are answered in the command processor (R271). -/
@[simp] theorem policyPass_port (q : Nat) (s : State) (p : Nat) : (policyPass q s).port p = s.port p := by
  unfold policyPass
  split
  · rfl
  · exact (Within.foldl (ps := [.kcp])
      (fun t w => answerHeld_within (by decide) (Within.refl _ t) fun c u => Within.refl _ u) _ (Within.refl _ _)).port_eq
      (by decide) p

/-- DRIFT is all that R256 changes of a port. -/
theorem driftUpdate_port (p : Nat) (s : State) :
    ∃ c, (driftUpdate p s).port p = { s.port p with st := { (s.port p).st with drift := c } } := by
  unfold driftUpdate
  dsimp only
  split_ifs
  · exact ⟨_, (setSticky_port ..).trans (setPort_port_same ..)⟩
  · exact ⟨_, rfl⟩
  · exact ⟨_, setPort_port_same ..⟩

/-- Two states show the same furrow ports, side state of the ports and interrupt groups. -/
def SamePorts (a b : State) : Prop :=
  (∀ p, a.port p = b.port p) ∧ (∀ p, a.paux p = b.paux p) ∧ ∀ g, a.irqG g = b.irqG g

/-- The command processor is no part of these. -/
theorem samePorts_setKcp (s : State) (k : Kcp) : SamePorts { s with kcp := k } s :=
  ⟨fun _ => rfl, fun _ => rfl, fun _ => rfl⟩

/-- An event at ports that the module has (R8) shows in them as its effect leaves them. -/
theorem goes_port {ok : Bool} (hok : ok = true) {s s' : State} {P : State → Prop} (h : ∀ u, SamePorts u s' → P u) :
    Goes (guardUnit ok s (done s s')) P :=
  goes_unit hok fun k => h _ (samePorts_setKcp s' k)

/-- The same of one that may answer held commands. -/
theorem goes_portHeld {ok : Bool} (hok : ok = true) {s s' : State} {P : State → Prop} (h : ∀ u, SamePorts u s' → P u) :
    Goes (guardUnit ok s (doneHeld s s')) P := by
  rw [guardUnit, hok, if_pos rfl]
  exact goes_doneHeld fun k => h _ (samePorts_setKcp s' k)

/-! A head end's bout epoch (R221 to R226). -/

/-- What enters a port's bursts beside what they were built from (R225, R240). -/
def burstView (x : FurPort) : FurCfg × List DelaySample × PortState × Option Sys2Proof.Interval × Bool :=
  (x.cfg, x.filter, x.st.state, x.st.delay, x.st.drift)

/-- BOUND of a burst follows from the die's replica, the port's interpolator and what enters its bursts (R240). -/
theorem burstBound_congr {s t : State} {p : Nat} (hr : t.replica (portDie p) = s.replica (portDie p)) (ht : t.tim = s.tim)
    (hv : burstView (t.port p) = burstView (s.port p)) (lean : Bool) : burstBound t p lean = burstBound s p lean := by
  simp only [burstView, Prod.mk.injEq] at hv
  obtain ⟨hcfg, hfilter, hstate, hdelay, hdrift⟩ := hv
  simp only [burstBound, furTerm, dieBound, tableValid, State.interp, hr, ht, hcfg, hfilter, hstate, hdelay, hdrift]
  congr

/-- The bytes of a burst follow from these and the loop-back of its port (R225). -/
theorem downBody_congr {s t : State} {p : Nat} (hr : t.replica (portDie p) = s.replica (portDie p)) (ht : t.tim = s.tim)
    (hl : t.tst = s.tst) (hv : burstView (t.port p) = burstView (s.port p)) (b : Burst) : downBody t p b = downBody s p b := by
  have hb := burstBound_congr hr ht hv b.lean
  simp only [burstView, Prod.mk.injEq] at hv
  obtain ⟨hcfg, -, -, hdelay, -⟩ := hv
  simp only [downBody, clockState, servedClass, traceability, furLoop, linkIdOf, hb, hr, hl, hcfg, hdelay]
  rfl

/-- A burst finished for its epoch is the same in states that agree on these. -/
theorem withBytes_congr {s t : State} {p : Nat} (ht : t.tim = s.tim) (hl : t.tst = s.tst)
    (hv : burstView (t.port p) = burstView (s.port p)) (key : Option (List Byte)) (b : Burst) :
    withBytes t p key b = withBytes s p key b := by
  have hr : (t.setReplica (portDie p) b.src).replica (portDie p) = (s.setReplica (portDie p) b.src).replica (portDie p) := by
    simp only [setReplica_replica_same]
  simp only [withBytes, burstBound_congr hr ht hv, downBody_congr hr ht hl hv]

/-- The tag's key of a burst follows from the port's link keys (R341). -/
theorem burstKey_congr {s t : State} {p : Nat} (h : t.pk p = s.pk p) (b : Burst) : burstKey t p b = burstKey s p b := by
  simp only [burstKey, linkKey, h]

/-- A launch sends the built burst, with its bytes of the epoch, and counts the bout (R221, R226). -/
theorem launchBurst_port (p : Nat) (b : Burst) (s : State) :
    ((launchBurst p b s).port p).sent = some (withBytes s p (burstKey s p b) b) ∧
    ((launchBurst p b s).port p).built = none ∧
    ((launchBurst p b s).port p).lastEpoch = (s.port p).lastEpoch ∧
    ((launchBurst p b s).port p).lastBout = b.bout ∧
    ((launchBurst p b s).port p).bout = ((s.port p).bout + 1) % 2 ^ 48 := by
  unfold launchBurst
  extract_lets key b' r g v x t l lp st s1 tst s2 up s3
  have hx : x = s.port p := by
    simp only [x, v, onLine_port]
    split <;> simp [r]
  have h3 : s3.port p = s2.port p := by
    simp only [s3]
    split
    · exact calOnLine_port ..
    · exact setArrive_port ..
  have h2 : s2.port p = s1.port p := by
    simp only [s2]
    split
    · exact setTst_port ..
    · rfl
  rw [perfAdd_port, perfAdd_port, h3, h2, setPort_port_same, ← hx]
  exact ⟨rfl, rfl, rfl, rfl, rfl⟩

/-- What an epoch's launch reads of its port (R221, R225, R226, R243). -/
def launchView (x : FurPort) := (burstView x, x.built, x.bout, x.cal)

/-- A boundary at which neither a record nor a calibration nor a key waits keeps what a head end's launch reads (R243). -/
theorem boundary_keeps {p : Nat} {s : State} (hc : (s.port p).cfgNext = none) (hw : (s.port p).cal.waiting = none)
    (hk : (s.pk p).nextIdx = []) :
    (boundary p s).tim = s.tim ∧ (boundary p s).tst = s.tst ∧ (boundary p s).pk p = s.pk p ∧
    launchView ((boundary p s).port p) = launchView (s.port p) := by
  have hrec : applyFurCfg p s = s := by simp only [applyFurCfg, hc]
  have hindex : applyLinkIndex p s = s.setPk p (s.pk p) := by
    simp only [applyLinkIndex, hk, List.foldl_nil]
    rw [← hk]
  have hcal : calApply p (s.setPk p (s.pk p)) = s.setPk p (s.pk p) := by simp only [calApply, setPk_port, hw]
  have hpk : (s.setPk p (s.pk p)).pk p = s.pk p := setPk_pk_same ..
  unfold boundary
  rw [hrec, hindex, hcal]
  dsimp only
  split
  · exact ⟨rfl, rfl, hpk, rfl⟩
  · exact ⟨rfl, rfl, hpk, by rw [setPort_port_same]; rfl⟩

/-- The end of a head end's bout keeps it too. -/
theorem launchView_closeBout {x : FurPort} (hl : x.cfg.leaf = false) :
    launchView (closeBout x) = launchView x ∧ (closeBout x).cfgNext = x.cfgNext := by
  simp only [closeBout, hl]
  split <;> exact ⟨rfl, rfl⟩

section Epoch

variable {p e at_ : Nat} {s : State} {b : Burst} (hdue : epochDue s p = some (e, at_))
    (hs : sends (s.port p).st.state = true) (hl : (s.port p).cfg.leaf = false) (hc : (s.port p).cfgNext = none)
    (hd : isDark s p e = false) (hb : (s.port p).built = some b) (he : b.epoch = e)
    (hw : (s.port p).cal.waiting = none) (hk : (s.pk p).nextIdx = [])
include hdue hs hl hc hd hb he hw hk

/-- A head end's epoch that is due and not dark launches the burst built for it, from a state whose bursts and keys are as
before (R221, R226). -/
theorem boutEpoch_launches:
    ∃ u, boutEpoch p s = policyPass p (launchBurst p b u) ∧ u.tim = s.tim ∧ u.tst = s.tst ∧ u.pk p = s.pk p ∧
      launchView (u.port p) = launchView (s.port p) ∧ (u.port p).lastEpoch = some e := by
  have hne : (s.port p).st.state ≠ .disabled := by intro h; simp [h, sends] at hs
  have hnc : (s.port p).st.state ≠ .cal := by intro h; simp [h, sends] at hs
  have hund : undecided p s = s := by simp [undecided, hl]
  obtain ⟨hclose, hnext⟩ := launchView_closeBout hl
  obtain ⟨htim, htst, hpk, hview⟩ := boundary_keeps (p := p) (s := s.setPort p (closeBout (s.port p)))
    (by rw [setPort_port_same, hnext, hc])
    (by rw [setPort_port_same, show (closeBout (s.port p)).cal = (s.port p).cal from congrArg (·.2.2.2) hclose, hw]) hk
  rw [setPort_port_same, hclose] at hview
  unfold boutEpoch
  rw [hdue]
  dsimp -zeta only
  extract_lets x due missed s0 v y0 y aux u s3
  rw [if_neg hne, if_neg (by simp [hd])]
  have hv : v = boundary p (s.setPort p (closeBout (s.port p))) := by simp only [v, s0, hund]
  rw [← hv] at htim htst hpk hview
  clear_value v missed
  have hy : launchView y = launchView (s.port p) := hview
  have hview' := hy
  simp only [launchView, burstView, Prod.mk.injEq] at hview'
  obtain ⟨⟨hcfg, -, hstate, -, -⟩, hbuilt, -, -⟩ := hview'
  have hs3 : s3 = launchBurst p b u := by
    simp only [s3, hcfg, hl, calOpen, hstate, hnc, hbuilt, hb, he, hs]
    simp
  have hy0 : y0.st.state = (s.port p).st.state := hstate
  have hu : u.port p = y := setPort_port_same ..
  refine ⟨u, by rw [if_neg (hy0 ▸ hne), hs3], htim, htst, hpk, by rw [hu, hy], by rw [hu]; rfl⟩

/-- What the epoch's launch leaves (R221, R226). -/
theorem boutEpoch_port:
    ((boutEpoch p s).port p).sent = some (withBytes s p (burstKey s p b) b) ∧ ((boutEpoch p s).port p).built = none ∧
    ((boutEpoch p s).port p).lastEpoch = some e ∧ ((boutEpoch p s).port p).lastBout = b.bout ∧
    ((boutEpoch p s).port p).bout = ((s.port p).bout + 1) % 2 ^ 48 := by
  obtain ⟨u, hu, htim, htst, hpk, hview, hepoch⟩ := boutEpoch_launches hdue hs hl hc hd hb he hw hk
  obtain ⟨hsent, hbuilt, hlast, hbout, hnext⟩ := launchBurst_port p b u
  have hburst : burstView (u.port p) = burstView (s.port p) := congrArg (·.1) hview
  have hn : (u.port p).bout = (s.port p).bout := congrArg (·.2.2.1) hview
  rw [hu, policyPass_port]
  refine ⟨?_, hbuilt, hlast.trans hepoch, hbout, by rw [hnext, hn]⟩
  rw [hsent, burstKey_congr hpk, withBytes_congr htim htst hburst]

end Epoch

/-- A build within 1 µs of the epoch finishes the burst under what its boundary makes effective (R226, R241). -/
theorem burstBuild_port {p : Nat} {s v : State} {ep : Nat × Nat × Option StepAnn} (hv : v = boundary p s)
    (hep : ep = nextEpoch s (portDie p) (v.port p).cfg.period) (hl : (v.port p).cfg.leaf = false)
    (hs : sends (v.port p).st.state = true) (hnear : ep.2.1 ≤ us1) (hnew : (s.port p).built.map (·.epoch) ≠ some ep.1)
    (hserve : servable (ep.1 * us1) = true) :
    ((burstBuild p s).port p).built.map (fun b => (b.epoch, b.bout, b.lean, b.bound, b.turn)) =
      some (ep.1, (v.port p).bout, (v.port p).st.lean, burstBound v p (v.port p).st.lean,
        turnSym (v.port p).cfg (v.port p).st.lean (mbMaxOf (v.port p) (v.port p).st.lean)) ∧
    ((burstBuild p s).port p).sent = (s.port p).sent := by
  unfold burstBuild
  rw [← hv]
  extract_lets v' x ep' x0 want v1 nl skip k key free idx s1 area b
  have hep' : ep' = ep := hep.symm
  rw [hep', if_neg (by simp [x, v', hl, hs, hnear, hnew, hserve]), setPort_port_same]
  have hbound : burstBound (v1.setReplica (portDie p) b.src) p b.lean = burstBound v p b.lean := by
    refine burstBound_congr (t := v1.setReplica (portDie p) b.src) (s := v) (setReplica_replica_same ..) rfl ?_ b.lean
    show burstView (v1.port p) = burstView (v.port p)
    rw [setPort_port_same]
    rfl
  simp only [Option.map_some, withBytes, hbound]
  exact ⟨by simp only [b, hep', x, v'], rfl⟩

/-! Mailbox TLVs and acknowledgements (R233, R234, R260). -/

/-- A port without what mailbox traffic changes of it. -/
def mailless (x : FurPort) : FurPort := { x with traffic := false, wantLean := false, mb := {} }

theorem mailboxTlv_mailless (p : Nat) (t : MbTlv) (s : State) :
    mailless ((mailboxTlv p t s).port p) = mailless (s.port p) := by
  unfold mailboxTlv
  extract_lets x want y r s1
  split_ifs
  · rfl
  · rw [setPort_port_same]; rfl
  · rw [setPort_port_same]; rfl
  · rw [irqArrive_port, setPort_port_same]; rfl
  · rw [setPort_port_same]; rfl

theorem mailboxAck_mailless (p ack : Nat) (s : State) : mailless ((mailboxAck p ack s).port p) = mailless (s.port p) := by
  unfold mailboxAck
  extract_lets x y upTo n
  split_ifs <;> · rw [setPort_port_same]; rfl

/-- The mailbox TLVs of a burst change nothing else of its port. -/
theorem burstMail_mailless (p : Nat) (l : List (Nat × List Byte)) (s : State) :
    mailless ((burstMail p l s).port p) = mailless (s.port p) := by
  unfold burstMail
  induction l generalizing s with
  | nil => rfl
  | cons q l ih =>
    rw [List.foldl_cons, ih]
    split_ifs
    · exact mailboxAck_mailless ..
    · exact mailboxTlv_mailless ..
    · rfl

/-- What mailbox traffic leaves as it was. -/
theorem mailless_keeps {x y : FurPort} (h : mailless x = mailless y) :
    x.sent = y.sent ∧ x.leaf = y.leaf ∧ x.rx = y.rx ∧ x.last = y.last ∧ x.err = y.err :=
  ⟨(congrArg FurPort.sent h :), (congrArg FurPort.leaf h :), (congrArg FurPort.rx h :), (congrArg FurPort.last h :),
    (congrArg FurPort.err h :)⟩

/-- A message of one TLV, the next in order and with room for it, is complete and its arrival is signalled (R234, R260). -/
theorem mailboxTlv_whole_message {p ch seq : Nat} {d : List Byte} {s : State} (hs : (s.port p).st.state ≠ .disabled)
    (hseq : seq = match (s.port p).mb.rxSeq with | some q => (q + 1) % 65536 | none => 0)
    (hroom : (s.port p).mb.rx.length < 4) (hpool : poolUsed s < 2048) (hasm : (s.port p).mb.asm = none)
    (hd : d.length ≤ 1984) :
    ((mailboxTlv p ⟨ch, true, true, seq, d, none, false⟩ s).port p).mb.rx = (s.port p).mb.rx ++ [⟨ch, d⟩] ∧
    ((mailboxTlv p ⟨ch, true, true, seq, d, none, false⟩ s).port p).mb.rxSeq = some seq ∧
    ((mailboxTlv p ⟨ch, true, true, seq, d, none, false⟩ s).port p).mb.ackDue = true ∧
    (mailboxTlv p ⟨ch, true, true, seq, d, none, false⟩ s).irqG (5 + p / 256) =
      arrival s.now (s.irqG (5 + p / 256)) (p % 256) := by
  have hfull : ¬(4 ≤ (s.port p).mb.rx.length ∨ poolUnits ≤ poolUsed s) := by simp only [poolUnits]; omega
  have hlen : ¬1984 < d.length := by omega
  have h : ∃ mb, mailboxTlv p ⟨ch, true, true, seq, d, none, false⟩ s = irqArrive (5 + p / 256) (p % 256)
      (s.setPort p { s.port p with traffic := true, wantLean := false, mb := mb }) ∧
      mb.rx = (s.port p).mb.rx ++ [⟨ch, d⟩] ∧ mb.rxSeq = some seq ∧ mb.ackDue = true := by
    unfold mailboxTlv
    extract_lets x want y mb r s1
    have hr : r.2 = true ∧ r.1.rx = x.mb.rx ++ [⟨ch, d⟩] ∧ r.1.rxSeq = some seq ∧ r.1.ackDue = true := by
      simp [r, mb, x, assemble, hasm, hlen]
    have hwant : seq = want := hseq
    rw [if_neg hs, if_neg (not_not_intro hwant), if_neg (fun h => hfull h.2), if_pos hr.1]
    exact ⟨r.1, rfl, hr.2⟩
  obtain ⟨mb, hmb, hrx, hrxSeq, hack⟩ := h
  rw [hmb, irqArrive_port, setPort_port_same]
  exact ⟨hrx, hrxSeq, hack, setIrq_irqG_same ..⟩

/-! A leaf's decision (R246). -/

/-- Accepting a port's burst writes its port and its side state, and no other of the furrow tiles (R246, R262). -/
theorem acceptBurst_fur (p : Nat) (r : LeafRx) (s : State) :
    ∃ st aux, aux.acceptedLink = true ∧ (acceptBurst p r s).fur = ((s.setPort p { s.port p with
      rx := some { r with decided := true }, sampled := true, noAccept := 0, accepted := r.claim, st := st }).setPaux p
      aux).fur := by
  unfold acceptBurst
  extract_lets x st run s1 aux s2
  refine ⟨_, _, ?_, show _ = s2.fur from ?_⟩
  · rfl
  · split
    · exact ((refEvent_within ..).keeps .fur (by decide)).symm
    · rfl

theorem acceptBurst_port (p : Nat) (r : LeafRx) (s : State) :
    ∃ st, (acceptBurst p r s).port p = { s.port p with
      rx := some { r with decided := true }, sampled := true, noAccept := 0, accepted := r.claim, st := st } := by
  obtain ⟨st, aux, -, h⟩ := acceptBurst_fur p r s
  exact ⟨st, by rw [State.port, h]; exact setPort_port_same ..⟩

theorem acceptBurst_port_other {p q : Nat} (hq : q ≠ p) (r : LeafRx) (s : State) :
    (acceptBurst p r s).port q = s.port q := by
  obtain ⟨st, aux, -, h⟩ := acceptBurst_fur p r s
  rw [State.port, h]
  exact setPort_port_other _ _ _ _ hq

theorem acceptBurst_acceptedLink (p : Nat) (r : LeafRx) (s : State) : ((acceptBurst p r s).paux p).acceptedLink = true := by
  obtain ⟨st, aux, haux, h⟩ := acceptBurst_fur p r s
  rw [State.paux, h, ← haux]
  exact congrArg FurAux.acceptedLink (setPaux_paux_same ..)

/-- Passing over a port's burst keeps it as decided too (R246). -/
theorem passOver_port (p c : Nat) (s : State) : (passOver p c s).port p =
    { s.port p with accepted := c, rx := (s.port p).rx.map (fun r => { r with decided := true }) } :=
  setPort_port_same ..

theorem passOver_port_other {p q : Nat} (h : q ≠ p) (c : Nat) (s : State) : (passOver p c s).port q = s.port q :=
  setPort_port_other _ _ _ _ h

theorem passOver_acceptedLink (p c : Nat) (s : State) : ((passOver p c s).paux p).acceptedLink = false :=
  congrArg FurAux.acceptedLink (setPaux_paux_same ..)

theorem passOver_paux_other {p q : Nat} (h : q ≠ p) (c : Nat) (s : State) : (passOver p c s).paux q = s.paux q :=
  setPaux_paux_other _ _ _ _ h

/-- A single link's decision keeps LAST, the error counters and what the checks found (R246). -/
theorem decideSingle_port {p : Nat} {s : State} {r : LeafRx} (hr : (s.port p).rx = some r) :
    ((decideSingle p s).port p).last = (s.port p).last ∧ ((decideSingle p s).port p).err = (s.port p).err ∧
    ((decideSingle p s).port p).rx.map (·.ok) = some r.ok := by
  unfold decideSingle
  rw [hr]
  cases partnerPort s p with
  | some q => exact ⟨rfl, rfl, by rw [hr]; rfl⟩
  | none =>
    dsimp only
    split
    · obtain ⟨st, h⟩ := acceptBurst_port p r s
      rw [h]
      exact ⟨rfl, rfl, rfl⟩
    · rw [passOver_port, hr]
      exact ⟨rfl, rfl, rfl⟩

/-- Of two bursts of one bout the one with the larger claim is accepted, the other passed over (R246). -/
theorem leafDecision_larger_claim {a b : Nat} {s : State} {x y : LeafRx} (hab : a ≠ b) (hla : (s.port a).cfg.leaf = true)
    (hlb : (s.port b).cfg.leaf = true) (hslot : (s.port a).cfg.slot = (s.port b).cfg.slot) (hx : (s.port a).rx = some x)
    (hy : (s.port b).rx = some y) (hdx : x.decided = false) (hdy : y.decided = false) (ht : x.time = y.time)
    (htx : takeable x = true) (hc : y.claim < x.claim) :
    leafDecision a b s = passOver b x.claim (acceptBurst a x s) := by
  have hwins : firstWins s a b x y = true := by
    rw [firstWins, if_pos (Nat.ne_of_gt hc)]
    exact decide_eq_true hc
  have hra : (s.port a).rx.filter (fun r => !r.decided) = some x := by simp [hx, hdx, Option.filter_some]
  have hrb : (s.port b).rx.filter (fun r => !r.decided) = some y := by simp [hy, hdy, Option.filter_some]
  unfold leafDecision
  rw [hra, hrb]
  simp [hab, hla, hlb, hslot, ht, htx, hwins]

/-- What accepting the burst of one link and passing over that of the other leaves (R246). -/
theorem acceptBurst_passOver {a b : Nat} {s : State} {x y : LeafRx} (hab : a ≠ b) (hy : (s.port b).rx = some y) :
    ((passOver b x.claim (acceptBurst a x s)).paux a).acceptedLink = true ∧
    ((passOver b x.claim (acceptBurst a x s)).paux b).acceptedLink = false ∧
    ((passOver b x.claim (acceptBurst a x s)).port a).accepted = x.claim ∧
    ((passOver b x.claim (acceptBurst a x s)).port b).accepted = x.claim ∧
    ((passOver b x.claim (acceptBurst a x s)).port a).sampled = true ∧
    ((passOver b x.claim (acceptBurst a x s)).port b).rx = some { y with decided := true } := by
  obtain ⟨st, ha⟩ := acceptBurst_port a x s
  rw [passOver_port_other hab, passOver_port, acceptBurst_port_other hab.symm, passOver_paux_other hab, ha, hy]
  exact ⟨acceptBurst_acceptedLink .., passOver_acceptedLink .., rfl, rfl, rfl, rfl⟩

/-! A leaf's downstream burst (R237, R238). -/

theorem foretell_port (p : Nat) (r : LeafRx) (nextLean : Bool) (s : State) : (foretell p r nextLean s).port p =
    { s.port p with st := { (s.port p).st with nextLean := nextLean } } :=
  setPort_port_same ..

section Downstream

variable {p : Nat} {b : RxBurst} {f : List Byte} {l : List (Nat × List Byte)} {s : State}
    (hleaf : (s.port p).cfg.leaf = true) (hst : (s.port p).st.state = .listen)
    (hf : lineFrame b.lean false (sdMax b.lean (if b.lean then 0 else (s.port p).cfg.mbMax)) b.groups = some f)
    (hfront : frontChecks f 1 48 (linkIdOf s p) = none) (hfresh : fresh (s.port p).last (rdBe f 2 6) = true)
    (hl : frameTlvs f 48 = some l)
include hleaf hst hf hfront hfresh hl

/-- A burst that passes the first six checks goes on to its tag, the seventh: with it, it becomes the port's burst and the
next is predicted; without it, it counts as an authentication failure (R237, R238). -/
theorem downstreamBurst_checked:
    ∃ u ok bad e n, ok.ok = true ∧ bad.ok = false ∧ downstreamBurst p b s =
      if tagOk (linkKey s p (rd f 11 1)) f then
        decideSingle p (perfAdd e 1 (burstMail p l (foretell p ok n
          (State.setPort u p { s.port p with last := some (rdBe f 2 6), rx := some ok }))))
      else decideSingle p (State.setPort u p { s.port p with err := countErr .auth (s.port p).err, rx := some bad }) := by
  unfold downstreamBurst
  extract_lets aux u x fail leafOn y
  have hx : x = s.port p := rfl
  have hon : leafOn = true := by simp only [leafOn, hx, hst]
  rw [if_neg (by simp [hon, hx, hleaf]), hx, hf]
  have hfront' : frontChecks f 1 48 (linkIdOf u p) = none := hfront
  have hkey : linkKey u p (rd f 11 1) = linkKey s p (rd f 11 1) := rfl
  refine ⟨u, leafRx u p b f l true, leafRx u p b f [] false, 0x0701 + 4 * (p / 256), bit (rd f 10 1) 0, rfl, rfl, ?_⟩
  dsimp only
  rw [hfront']
  dsimp only
  rw [if_neg (by simp [hfresh]), hl, hkey]
  cases tagOk (linkKey s p (rd f 11 1)) f <;> rfl

/-- What such a burst leaves of LAST, the error counters and the port's burst (R237, R238). -/
theorem downstreamBurst_port:
    if tagOk (linkKey s p (rd f 11 1)) f then
      ((downstreamBurst p b s).port p).last = some (rdBe f 2 6) ∧
      ((downstreamBurst p b s).port p).err = (s.port p).err ∧
      ((downstreamBurst p b s).port p).rx.map (·.ok) = some true
    else ((downstreamBurst p b s).port p).last = (s.port p).last ∧
      ((downstreamBurst p b s).port p).err.auth = satInc sat16 (s.port p).err.auth ∧
      ((downstreamBurst p b s).port p).rx.map (·.ok) = some false := by
  obtain ⟨u, ok, bad, e, n, hok, hbad, h⟩ := downstreamBurst_checked hleaf hst hf hfront hfresh hl
  rw [h]
  split_ifs
  · have hm := burstMail_mailless p l
      (foretell p ok n (State.setPort u p { s.port p with last := some (rdBe f 2 6), rx := some ok }))
    rw [foretell_port, setPort_port_same, ← perfAdd_port e 1] at hm
    obtain ⟨-, -, hmrx, hmlast, hmerr⟩ := mailless_keeps hm
    obtain ⟨hlast, herr, hrx⟩ := decideSingle_port hmrx
    exact ⟨hlast.trans hmlast, herr.trans hmerr, hrx.trans (congrArg some hok)⟩
  · obtain ⟨hlast, herr, hrx⟩ := decideSingle_port (p := p) (r := bad)
      (s := State.setPort u p { s.port p with err := countErr .auth (s.port p).err, rx := some bad })
      (congrArg FurPort.rx (setPort_port_same ..))
    rw [setPort_port_same] at hlast herr
    exact ⟨hlast, by rw [herr]; rfl, hrx.trans (congrArg some hbad)⟩

end Downstream

/-! A leaf's answer (R242, R263). -/

/-- An answer that is due is launched: the bout is answered, and the next answer's alarms and turnaround are its own (R227). -/
theorem upstreamLaunch_answers {p : Nat} {s : State} {r : LeafRx} (hl : (s.port p).cfg.leaf = true)
    (hr : (s.port p).rx = some r) (hlaunched : r.launched = false) (hskip : r.skip = false) (hanswered : r.answered = true)
    (hst : (s.port p).st.state ≠ .disabled) :
    ∃ y a, y.rx = some { r with launched := true } ∧ y.lastBout = r.bout ∧ a.prevAuthFail = (!r.ok) ∧ a.prevMissed = false ∧
      a.turnUsed = satI (divTrunc (upEdge s p r - r.arr) 65536) ∧ y.leaf.turn = a.turnUsed ∧
      (upstreamLaunch p s).port p = y ∧ (upstreamLaunch p s).paux p = a := by
  unfold upstreamLaunch
  extract_lets x cal st rep
  rw [show x.rx = some r from hr]
  dsimp -zeta only
  extract_lets edge turn key area f s1 aux s2 s3 s4
  rw [if_neg (by simp [x, hl, hlaunched, hskip, hanswered, hst]), perfAdd_port, perfAdd_port, perfAdd_paux, perfAdd_paux]
  have hkey : s4.port p = s3.port p ∧ s4.paux p = s3.paux p := by
    simp only [s4]
    split
    · exact ⟨countNoKey_port .., countNoKey_paux ..⟩
    · exact ⟨rfl, rfl⟩
  have hport : s4.port p = s1.port p := hkey.1.trans ((onLine_port ..).trans (setPaux_port ..))
  have h3 : s3.paux p = { s2.paux p with lines := (s3.paux p).lines } := by
    simp only [s3, onLine, setPaux_paux_same]
  have h2 : s2.paux p = { aux with
      prevAuthFail := !r.ok, prevMissed := false, turnUsed := turn, upFrame := f, calDue := cal } := setPaux_paux_same ..
  rw [h2] at h3
  exact ⟨_, _, rfl, rfl, rfl, rfl, rfl, rfl, hport.trans (setPort_port_same ..), hkey.2.trans h3⟩

/-! A head end's upstream burst (R237, R239, R254 to R256). -/

/-- The end of RANGING touches neither the burst of the bout in progress nor what the leaf reported. -/
theorem rangeDone_keeps (x : FurPort) : (rangeDone x).sent = x.sent ∧ (rangeDone x).leaf = x.leaf := by
  unfold rangeDone
  split <;> exact ⟨rfl, rfl⟩

/-- Nor does a delay sample (R254, R255, R256). -/
theorem filterSample_keeps (p : Nat) (d : DelaySample) (s : State) :
    ((filterSample p d s).port p).sent = (s.port p).sent ∧ ((filterSample p d s).port p).leaf = (s.port p).leaf := by
  have hdrift : ∀ y : FurPort, ((driftUpdate p (s.setPort p y)).port p).sent = y.sent ∧
      ((driftUpdate p (s.setPort p y)).port p).leaf = y.leaf := fun y => by
    obtain ⟨c, h⟩ := driftUpdate_port p (s.setPort p y)
    rw [h, setPort_port_same]
    exact ⟨rfl, rfl⟩
  unfold filterSample
  dsimp only
  split
  · rw [(hdrift _).1, (hdrift _).2, (rangeDone_keeps _).1, (rangeDone_keeps _).2]
    exact ⟨rfl, rfl⟩
  · rw [(hdrift _).1, (hdrift _).2, (rangeDone_keeps _).1, (rangeDone_keeps _).2]
    exact ⟨rfl, rfl⟩
  · split_ifs
    · exact hdrift _
    · rw [setSticky_port]
      exact hdrift _
    · rw [setPort_port_same]
      exact ⟨rfl, rfl⟩
  · rw [setPort_port_same]
    exact ⟨rfl, rfl⟩

section Upstream

variable {p : Nat} {b : RxBurst} {f : List Byte} {l : List (Nat × List Byte)} {s : State} {d : Burst}
    (hsent : (s.port p).sent = some d) (hleaf : (s.port p).cfg.leaf = false) (hskip : d.skip = false)
    (hf : lineFrame b.lean true (suMax d.lean (mbMaxOf (s.port p) d.lean)) b.groups = some f)
    (hfront : frontChecks f 2 40 (linkIdOf s p) = none) (hbout : rdBe f 2 6 = d.bout) (hl : frameTlvs f 40 = some l)
include hsent hleaf hskip hf hfront hbout hl

/-- A burst that passes the first six checks goes on to its tag, the seventh: with it, the leaf's report is taken and the bout
is answered; without it, it counts as an authentication failure (R237, R239). -/
theorem upstreamBurst_checked:
    ∃ (u w : State) (q : Option DelaySample),
      ((u.port p).sent = none ∧ (u.port p).leaf.state = rd f 8 1 ∧ (u.port p).leaf.turn = rdBeI f 20 8) ∧
      ((w.port p).sent = some d ∧ (w.port p).err.auth = satInc sat16 (s.port p).err.auth) ∧
      upstreamBurst p b s = if tagOk (linkKey s p d.keyIndex) f then q.elim u (fun x => filterSample p x u) else w := by
  unfold upstreamBurst
  extract_lets x fail rt
  rw [show x.sent = some d from hsent]
  dsimp -zeta only
  rw [if_neg (by simp [x, hleaf, hskip]), hf]
  dsimp -zeta only
  rw [hfront]
  dsimp -zeta only
  rw [if_neg (not_not_intro hbout), hl]
  dsimp -zeta only
  extract_lets turn pend dl good s1 s2 s3
  have hm := burstMail_mailless p l s1
  have hu : s3.port p = (burstMail p l s1).port p := echoCount_port ..
  obtain ⟨hmsent, hmleaf, -⟩ := mailless_keeps hm
  rw [← hu, setPort_port_same] at hmsent hmleaf
  have hw : (fail .auth).port p = { x with err := countErr .auth x.err } := setPort_port_same ..
  refine ⟨s3, fail .auth, if good then some ⟨dl, d.lean, b.stale⟩ else none,
    ⟨hmsent, by rw [hmleaf], by rw [hmleaf]⟩, ⟨by rw [hw]; exact hsent, by rw [hw]; rfl⟩, ?_⟩
  clear_value s3 good
  cases tagOk (linkKey s p d.keyIndex) f with
  | false => rfl
  | true => cases good <;> rfl

/-- What such a burst leaves of the bout in progress and of the leaf's report (R227, R237). -/
theorem upstreamBurst_port:
    if tagOk (linkKey s p d.keyIndex) f then
      ((upstreamBurst p b s).port p).sent = none ∧ ((upstreamBurst p b s).port p).leaf.state = rd f 8 1 ∧
      ((upstreamBurst p b s).port p).leaf.turn = rdBeI f 20 8
    else ((upstreamBurst p b s).port p).sent = some d ∧
      ((upstreamBurst p b s).port p).err.auth = satInc sat16 (s.port p).err.auth := by
  obtain ⟨u, w, q, hu, hw, h⟩ := upstreamBurst_checked hsent hleaf hskip hf hfront hbout hl
  rw [h]
  split_ifs
  · cases q with
    | none => exact hu
    | some x =>
      obtain ⟨hs, hr⟩ := filterSample_keeps p x u
      rw [Option.elim_some, hs, hr]
      exact hu
  · exact hw

end Upstream

/-! Timeouts and resending (R234, R244, R248). -/

/-- After 256 bouts without a sample a port searches, its delay measurements left behind (R248, R255). -/
theorem searchTimeout_port {p : Nat} {s : State} (hs : (s.port p).st.state = .serving ∨ (s.port p).st.state = .ranging)
    (hn : 256 ≤ (s.port p).noSample) :
    ((searchTimeout p s).port p).st.state = .searching ∧ ((searchTimeout p s).port p).st.delay = none ∧
    ((searchTimeout p s).port p).filter = [] := by
  unfold searchTimeout
  extract_lets x y
  rw [if_pos ⟨hs, hn⟩]
  obtain ⟨c, h⟩ := driftUpdate_port p (s.setPort p { y with st := { y.st with state := .searching } })
  rw [h, setPort_port_same]
  exact ⟨rfl, rfl, rfl⟩

/-- After 1,024 bouts without an accepted burst a leaf listens again, its bound kept (R238, R248). -/
theorem listenTimeout_port {p : Nat} {s : State} (hs : (s.port p).st.state = .tracking) (hn : 1024 ≤ (s.port p).noAccept) :
    ((listenTimeout p s).port p).st.state = .listen ∧ ((listenTimeout p s).port p).st.delay = none ∧
    ((listenTimeout p s).port p).st.bound = (s.port p).st.bound := by
  unfold listenTimeout
  extract_lets x
  rw [if_pos ⟨hs, hn⟩, setPort_port_same]
  exact ⟨rfl, rfl, rfl⟩

/-- After 4,096 bouts without mailbox traffic a head end's rate target is lean (R244). -/
theorem leanAfterIdle_port {p : Nat} {s : State} (hl : (s.port p).cfg.leaf = false) (hs : sends (s.port p).st.state = true)
    (hidle : 4096 ≤ (s.port p).idle) (ht : (s.port p).traffic = false) (hm : mbTraffic (s.port p) = false) :
    ((leanAfterIdle p s).port p).wantLean = true ∧ ((leanAfterIdle p s).port p).mb = (s.port p).mb := by
  unfold leanAfterIdle
  extract_lets x
  rw [if_pos (by simp [x, hl, hs, hidle, ht, hm]), setPort_port_same]
  exact ⟨rfl, rfl⟩

/-- A TLV that has waited 8 bouts for its acknowledgement is sent again, with every one behind it (R234). -/
theorem mailboxResend_port {p n : Nat} {s : State} {q : MbTlv} {rest : List MbTlv} (htx : (s.port p).mb.tx = q :: rest)
    (hsent : q.sent = some n) (h8 : 8 ≤ ((s.port p).lastBout + 2 ^ 48 - n) % 2 ^ 48) :
    ((mailboxResend p s).port p).mb.tx = (s.port p).mb.tx.map (fun q => { q with sent := none }) := by
  simp only [mailboxResend, htx, hsent]
  rw [if_pos h8, setPort_port_same]

/-- Settles O22: each event's effect on its port, the port's side state and its interrupt group under its conditions. -/
theorem furrowBoutsComplete : Obligations.FurrowBoutsComplete := by
  unfold Obligations.FurrowBoutsComplete
  refine ⟨?_, ?_, ?_, ?_, ?_, ?_, ?_, ?_, ?_, ?_, ?_⟩
  · intro p s e at_ b hp hdue hs hl hc hd hb he hw hk
    refine goes_portHeld (decide_eq_true hp) fun u ⟨hport, _, _⟩ => ?_
    simp only [hport]
    exact boutEpoch_port hdue hs hl hc hd hb he hw hk
  · intro p s hp hl hs hnear hnew hserve
    refine goes_port (decide_eq_true hp) fun u ⟨hport, _, _⟩ v hv => ?_
    rw [List.mem_singleton.mp hv, hport]
    exact burstBuild_port rfl rfl hl hs hnear hnew hserve
  · intro p b f s l hp hleaf hst hf hfront hfresh hl
    refine goes_port (decide_eq_true hp) fun u ⟨hport, _, _⟩ => ?_
    simp only [hport]
    exact downstreamBurst_port hleaf hst hf hfront hfresh hl
  · intro p s r hp hl hr hlaunched hskip hanswered hst
    obtain ⟨y, a, hrx, hbout, hauth, hmissed, hturn, hleaf, hy, ha⟩ :=
      upstreamLaunch_answers hl hr hlaunched hskip hanswered hst
    refine goes_port (decide_eq_true hp) fun u ⟨hport, hpaux, _⟩ => ?_
    simp only [hport, hpaux, hy, ha]
    exact ⟨hrx, hbout, hauth, hmissed, hturn, hleaf⟩
  · intro p b f s d l hp hsent hleaf hskip hf hfront hbout hl
    refine goes_port (decide_eq_true hp) fun u ⟨hport, _, _⟩ => ?_
    simp only [hport]
    exact upstreamBurst_port hsent hleaf hskip hf hfront hbout hl
  · intro a b s x y ha hb hab hla hlb hslot hx hy hdx hdy ht htx hty hc
    refine goes_port (decide_eq_true ⟨ha, hb⟩) fun u ⟨hport, hpaux, _⟩ => ?_
    simp only [hport, hpaux, leafDecision_larger_claim hab hla hlb hslot hx hy hdx hdy ht htx hc]
    exact acceptBurst_passOver hab hy
  · intro p s hp hs hn
    refine goes_port (decide_eq_true hp) fun u ⟨hport, _, _⟩ => ?_
    simp only [hport]
    exact searchTimeout_port hs hn
  · intro p s hp hs hn
    refine goes_port (decide_eq_true hp) fun u ⟨hport, _, _⟩ => ?_
    simp only [hport]
    exact listenTimeout_port hs hn
  · intro p s hp hl hs hidle ht hm
    refine goes_port (decide_eq_true hp) fun u ⟨hport, _, _⟩ => ?_
    simp only [hport]
    exact leanAfterIdle_port hl hs hidle ht hm
  · intro p ch seq d s hp hs hseq hroom hpool hasm hd
    refine goes_port (decide_eq_true hp) fun u ⟨hport, _, hirq⟩ => ?_
    simp only [hport, hirq]
    exact mailboxTlv_whole_message hs hseq hroom hpool hasm hd
  · intro p s q n rest hp htx hsent h8
    refine goes_port (decide_eq_true hp) fun u ⟨hport, _, _⟩ => ?_
    simp only [hport]
    exact mailboxResend_port htx hsent h8

end Sys2Proof.Machine
end

section
/-! SUPPORT. What the commands of group 0x07 leave of a furrow port (R258 to R261, R269 to R274). -/

namespace Sys2Proof.Machine
open Sys2Proof

/-! A command row whose body never writes the command processor. -/

section Row

variable {ps : List Part} {op : Nat} {body : Body} {rq : Request} {s u : State} {p : List Byte} {P : State → Prop}
    (hbody : ∀ c s, Within ps s (body c s).st) (hk : Part.kcp ∉ ps) (h : runs op rq s = true)
include hbody hk h

/-- Where the body answers OK, the row goes on in the body's state with its reply (R488). -/
theorem goes_of_ok_body (hb : body (rowCmd op rq s) (takeId s) = ok u p)
    (hP : ∀ k : Kcp, Answered op rq p s { u with kcp := k } → P { u with kcp := k }) :
    Goes (kcpRow op (leastPriv s op rq.payload) body rq s) P := by
  have hw := hbody (rowCmd op rq s) (takeId s)
  rw [hb] at hw
  exact goes_of_ok_within h hb hw hk hP

/-- Where it answers PENDING, with that reply (R489). -/
theorem goes_of_pend_body (hb : body (rowCmd op rq s) (takeId s) = pend u p)
    (hP : ∀ k : Kcp, Pending op rq p s { u with kcp := k } → P { u with kcp := k }) :
    Goes (kcpRow op (leastPriv s op rq.payload) body rq s) P := by
  have hw := hbody (rowCmd op rq s) (takeId s)
  rw [hb] at hw
  exact goes_of_pend_within h hb hw hk hP

end Row

/-! FUR_PORT_CONFIG (R198, R248, R261, R269). -/

/-- A record written to a port that is not DISABLED, its sealed fields logged, waits for the next bout boundary (R248, R269). -/
theorem furWrite_logged_port {p : Nat} {s : State} (h : (s.port p).st.state ≠ .disabled) (c : FurCfg)
    (ws : List SealedWrite) : (furWrite p c (sealedLog ws s)).port p = { s.port p with cfgNext := some c } := by
  have hport : (rewriteWord (portBlock p) (p % 256) (sealedLog ws s)).port p = s.port p :=
    ((rewriteWord_within ..).port_eq (by decide) p).trans ((sealedLog_within ws s).port_eq (by decide) p)
  simp only [furWrite, hport, if_neg h, setPort_port_same]

/-- The sealed fields of a port's record (R269). -/
def sealedChanges (p : Nat) (old : FurCfg) (r : List Byte) : List SealedWrite :=
  sealedOf 0x0701 p [(40, 8), (48, 8), (56, 4)] (furRecordOf p old) r

/-- Under an open window a record that keeps the mode and ENABLE of its port is written (R198, R261, R269). -/
theorem bodyFurPortConfig_open {c : Cmd} {s : State} {p : Nat} {new : FurCfg} (hl : c.req.payload.length = 64)
    (hp : p = rd c.req.payload 0 2) (hlt : p < 1024) (hnew : new = furNorm p (furParse c.req.payload))
    (hchecks : firstBad (furChecks s p c.req.payload) = none) (hleaf : new.leaf = (furCfgOf s p).leaf)
    (henable : new.enable = (furCfgOf s p).enable) (hw : windowOpen s = true) (hlog : s.log.fault = false) :
    bodyFurPortConfig c s =
      ok (furWrite p new (sealedLog (sealedChanges p (furCfgOf s p) c.req.payload) s)) (furRecordOf p new) := by
  subst hp hnew
  have hstart (q : Prop) : ¬((furNorm (rd c.req.payload 0 2) (furParse c.req.payload)).enable = true ∧
      (!(furCfgOf s (rd c.req.payload 0 2)).enable) = true ∧ q) := by
    rw [henable]
    rintro ⟨hon, hoff, -⟩
    simp [hon] at hoff
  refine (if_neg (fun h => h.2 hl)).trans ((checked_of_all (by simp [numPorts, hlt]) _ _).trans
    ((if_neg (by rw [hl]; decide)).trans ?_))
  rw [checked, hchecks]
  exact (if_neg (fun h => h.1 hleaf)).trans ((if_neg (hstart _)).trans (sealedWrite_of_status (sealedStatus_open hw hlog _) _))

/-! FUR_RATE_POLICY (R258, R271). -/

/-- A port under a written policy (R258). -/
def withPolicy (fl ce : Nat) (x : FurPort) : FurPort := unmetUpdate { x with floor := fl, ceiling := ce }

/-- A policy written to ports FIRST to FIRST + COUNT − 1 (R271). -/
def policyWritten (fl ce first n : Nat) (s : State) : State :=
  (portRange first n).foldl (fun t p => t.setPort p (withPolicy fl ce (t.port p))) s

/-- A replaced port that keeps a feature leaves every port's. -/
theorem setPort_keeps {β : Type} (f : FurPort → β) {s : State} {p : Nat} {x : FurPort} (h : f x = f (s.port p)) (q : Nat) :
    f ((s.setPort p x).port q) = f (s.port q) := by
  by_cases hq : q = p
  · rw [hq, setPort_port_same, h]
  · rw [setPort_port_other _ _ _ _ hq]

/-- A written policy leaves the states and the records of the ports. -/
theorem policyWritten_state_cfg (fl ce first n : Nat) (s : State) (q : Nat) :
    ((policyWritten fl ce first n s).port q).st.state = (s.port q).st.state ∧
    ((policyWritten fl ce first n s).port q).cfg = (s.port q).cfg :=
  ⟨foldl_keeps (fun t => (t.port q).st.state)
      (fun t p => setPort_keeps (x := withPolicy fl ce (t.port p)) (·.st.state) rfl q) _ _,
    foldl_keeps (fun t => (t.port q).cfg)
      (fun t p => setPort_keeps (x := withPolicy fl ce (t.port p)) FurPort.cfg rfl q) _ _⟩

/-- Every port of the range is under the written policy (R258). -/
theorem policyWritten_policy (fl ce first n : Nat) (s : State) :
    ∀ p ∈ portRange first n, ((policyWritten fl ce first n s).port p).floor = fl ∧
      ((policyWritten fl ce first n s).port p).ceiling = ce := by
  refine foldl_establishes (P := fun t p => (t.port p).floor = fl ∧ (t.port p).ceiling = ce)
    (fun t p => ?_) (fun t p q hq => ?_) _ s
  · rw [setPort_port_same]
    exact ⟨rfl, rfl⟩
  · by_cases h : q = p
    · rw [h, setPort_port_same]
      exact ⟨rfl, rfl⟩
    · rwa [setPort_port_other _ _ _ _ h]

/-- A policy for ports none of which runs bouts as a head end is answered at once (R27, R271). -/
theorem bodyFurRatePolicy_quiet {c : Cmd} {s : State} {first n : Nat} (hl : c.req.payload.length = 8)
    (hfirst : first = rd c.req.payload 0 2) (hn : n = rd c.req.payload 2 2) (h1 : 1 ≤ n) (h1024 : n ≤ 1024)
    (hrange : first + n ≤ 1024) (hfl : rd c.req.payload 4 1 ≤ 1) (hce : rd c.req.payload 5 1 = 1)
    (hz : rd c.req.payload 6 2 = 0)
    (hquiet : ∀ p ∈ portRange first n, sends (s.port p).st.state = false ∨ (s.port p).cfg.leaf = true) :
    bodyFurRatePolicy c s = ok (policyWritten (rd c.req.payload 4 1) 1 first n s)
      (policyBytes (policyWritten (rd c.req.payload 4 1) 1 first n s) first n) := by
  have hlt : first < 1024 := by omega
  have hwait : (portRange first n).filter (fun p => sends ((policyWritten (rd c.req.payload 4 1) 1 first n s).port p).st.state &&
      !((policyWritten (rd c.req.payload 4 1) 1 first n s).port p).cfg.leaf) = [] := by
    refine List.filter_eq_nil_iff.mpr fun p hp => ?_
    obtain ⟨hstate, hcfg⟩ := policyWritten_state_cfg (rd c.req.payload 4 1) 1 first n s p
    rw [hstate, hcfg]
    rcases hquiet p hp with h | h <;> simp [h]
  subst hfirst hn
  refine (if_neg (fun h => h.2 hl)).trans ((checked_of_all (by simp [numPorts, *]) _ _).trans
    ((if_neg (by rw [hl]; decide)).trans ((checked_of_all (by simp [zeroAt, *]) _ _).trans ?_)))
  rw [hce]
  exact if_pos hwait

/-! FUR_CALIBRATE (R272). -/

/-- A run on demand starts at an in-service port without one (R251, R272). -/
theorem furCalibrate_starts {p : Nat} {s : State} (hd : (s.port p).st.state ≠ .disabled) (hc : (s.port p).st.state ≠ .cal)
    (hr : (s.port p).cal.running = false) : furCalibrate false s p = s.setPort p (startRun s.now false (s.port p)) := by
  simp [furCalibrate, hd, hc, hr]

/-- FUR_CALIBRATE of one port (R272). -/
theorem bodyFurCalibrate_single {c : Cmd} {s : State} {p : Nat} (hl : c.req.payload.length = 8)
    (hp : p = rd c.req.payload 0 2) (hlt : p < 1024) (hone : rd c.req.payload 2 2 = 1) (hflags : rd c.req.payload 4 1 = 0)
    (hz : rd c.req.payload 5 3 = 0) : bodyFurCalibrate c s = pend (furCalibrate false s p) [] := by
  subst hp
  refine (if_neg (not_not.mpr hl)).trans ((checked_of_all ?_ _ _).trans ?_)
  · simp [zeroAt, numPorts, *]
  · rw [hone, hflags]
    rfl

/-! FUR_MAILBOX_SEND and FUR_MAILBOX_RECV (R259, R260, R273). -/

/-- A port's mailbox with a message queued as its TLVs (R259). -/
def queued (l : List MbTlv) (n : Nat) (x : FurPort) : FurPort :=
  unmetUpdate { x with
    wantLean := false
    mb := { x.mb with tx := x.mb.tx ++ l, txLens := x.mb.txLens ++ [n], txSeq := (x.mb.txSeq + l.length) % 65536 } }

/-- A message for which the port and the pool have room is queued (R259, R273). -/
theorem bodyFurMailboxSend_room {c : Cmd} {s : State} {p : Nat} {d : List Byte} {l : List MbTlv}
    (h8 : 8 < c.req.payload.length) (hp : p = rd c.req.payload 0 2) (hd : d = c.req.payload.drop 8)
    (hn : rd c.req.payload 4 2 = d.length) (hlt : p < 1024) (hch : rd c.req.payload 2 1 ≤ 15)
    (hz1 : rd c.req.payload 3 1 = 0) (hmax : d.length ≤ 1984) (hz2 : rd c.req.payload 6 2 = 0)
    (hst : (s.port p).st.state ≠ .disabled) (hce : (s.port p).ceiling ≠ 0) (hfour : (s.port p).mb.txLens.length < 4)
    (hpool : poolUsed s + units d.length ≤ 2048)
    (hcut : l = cutMessage (mbChunk (s.port p).cfg.mbMax) (d.length + 1) (rd c.req.payload 2 1) (s.port p).mb.txSeq true true d) :
    bodyFurMailboxSend c s =
      ok (s.setPort p (queued l d.length (s.port p))) (le 4 (3 - (s.port p).mb.txLens.length)) := by
  have hlen : d.length = c.req.payload.length - 8 := by rw [hd, List.length_drop]
  have hleft : 3 - (s.port p).mb.txLens.length = 4 - ((s.port p).mb.txLens ++ [d.length]).length := by
    rw [List.length_append, List.length_singleton]
    omega
  rw [hleft]
  subst hp hcut
  refine (if_neg (by omega)).trans ((checked_of_all ?_ _ _).trans
    ((if_neg (not_or.mpr ⟨hst, hce⟩)).trans ((if_neg ?_).trans ?_)))
  · simp [zeroAt, numPorts, *]
    omega
  · rw [hn, poolUnits]
    omega
  · rw [hn, ← hd]
    rfl

/-- The oldest complete message is handed over (R260, R273). -/
theorem bodyFurMailboxRecv_message {c : Cmd} {s : State} {p : Nat} {m : MbMsg} {rest : List MbMsg}
    (hl : c.req.payload.length = 4) (hp : p = rd c.req.payload 0 2) (hlt : p < 1024) (hz : rd c.req.payload 2 2 = 0)
    (hst : (s.port p).st.state ≠ .disabled) (hrx : (s.port p).mb.rx = m :: rest) :
    bodyFurMailboxRecv c s = ok (s.setPort p { s.port p with mb := { (s.port p).mb with rx := rest } })
      (le 1 m.channel ++ le 1 (flag 0 (decide (rest ≠ []))) ++ le 2 m.data.length ++ m.data) := by
  subst hp
  refine (if_neg (not_not.mpr hl)).trans ((checked_of_all (by simp [zeroAt, numPorts, *]) _ _).trans ((if_neg hst).trans ?_))
  rw [hrx]

/-! FUR_PORT_STATUS and FUR_BULK_STATUS (R270, R274). -/

/-- A status read that does not clear answers the port's records and counters (R270). -/
theorem bodyFurPortStatus_keeping {c : Cmd} {s : State} {p : Nat} (hl : c.req.payload.length = 4)
    (hp : p = rd c.req.payload 0 2) (hlt : p < 1024) (hkeep : rd c.req.payload 2 1 = 0) (hz : rd c.req.payload 3 1 = 0) :
    bodyFurPortStatus c s = ok s (furArray s p ++ interpRecord s p ++ le 4 (s.port p).mb.delivered ++
      le 4 (s.port p).mb.messages ++ le 4 (s.port p).mb.discards ++ le 4 (s.port p).cal.rejects) := by
  subst hp
  refine (if_neg (not_not.mpr hl)).trans ((checked_of_all (by simp [zeroAt, numPorts, *]) _ _).trans ?_)
  rw [hkeep]
  rfl

/-- A read of ports in range answers a record for each (R274). -/
theorem bodyFurBulkStatus_range {c : Cmd} {s : State} {first n : Nat} (hl : c.req.payload.length = 4)
    (hfirst : first = rd c.req.payload 0 2) (hn : n = rd c.req.payload 2 2) (h1 : 1 ≤ n) (h256 : n ≤ 256)
    (hrange : first + n ≤ 1024) : bodyFurBulkStatus c s = ok s ((portRange first n).flatMap (bulkRecord s)) := by
  have hlt : first < 1024 := by omega
  subst hfirst hn
  exact (if_neg (not_not.mpr hl)).trans (checked_of_all (by simp [numPorts, *]) _ _)

end Sys2Proof.Machine
end

section
/-! SUPPORT. What the calibration events and the rewrite of the status array leave (R250 to R253, R265, R266). -/

namespace Sys2Proof.Machine
open Sys2Proof

/-- CAL_PERIOD after the last start an in-service port starts a run (R251). -/
theorem calRunStart_due {p : Nat} {s : State} (hs : inService (s.port p).st.state = true)
    (hr : (s.port p).cal.running = false)
    (hd : (s.port p).cal.startedAt + (s.port p).cfg.calPeriod * 1000000000 ≤ s.now) :
    calRunStart p s = s.setPort p (startRun s.now false (s.port p)) :=
  if_pos (by simp [hs, hr, hd])

/-- A head end's calibration burst that waits is measured (R250, R251). -/
theorem calMeasurement_head {p : Nat} {v : Sys2Proof.Interval} {s : State} (hr : (s.port p).cal.running = true)
    (h16 : (s.port p).cal.meas.length < 16) (hl : (s.port p).cfg.leaf = false) (hd : (s.paux p).calDue = true) :
    ((calMeasurement p v s).port p).cal.meas = (s.port p).cal.meas ++ [v] ∧
    ((calMeasurement p v s).paux p).calDue = false := by
  unfold calMeasurement
  extract_lets x y lean s1
  rw [if_neg (by simp [x, hr, h16]), if_neg (by simp [x, hl]), if_pos hd, setPaux_port, setPort_port_same, setPaux_paux_same]
  exact ⟨rfl, rfl⟩

/-- A run in CAL whose quantities are tight is accepted at once, its values the rounded means (log entry 27), and
the port goes on to look for its partner (R248, R250, R252). -/
theorem calRunEnd_initial {p : Nat} {s : State} (hr : (s.port p).cal.running = true) (hi : (s.port p).cal.initial = true)
    (hs : (s.port p).st.state = .cal) (h16 : (s.port p).cal.meas.length = 16)
    (ht : ∀ k ∈ List.range 4, calTight (calQuantity (s.port p).cal.meas k) = true) :
    ((calRunEnd p s).port p).cal.full =
      some ⟨calMean (calQuantity (s.port p).cal.meas 0), calMean (calQuantity (s.port p).cal.meas 2)⟩ ∧
    ((calRunEnd p s).port p).cal.lean =
      some ⟨calMean (calQuantity (s.port p).cal.meas 1), calMean (calQuantity (s.port p).cal.meas 3)⟩ ∧
    ((calRunEnd p s).port p).cal.running = false ∧
    ((calRunEnd p s).port p).st.state = if (s.port p).cfg.leaf then .listen else .searching := by
  unfold calRunEnd
  extract_lets x q f l good c y z
  have hgood : good = true := by
    have htight : [0, 1, 2, 3].all (fun i => calTight (q i)) = true := List.all_eq_true.mpr ht
    simp only [good, htight, x, hi, Bool.true_or, Bool.and_self]
  rw [if_neg (by simp [x, hr, hi, hs, h16]), if_pos hgood, if_pos hi, setPort_port_same]
  exact ⟨rfl, rfl, rfl, rfl⟩

/-- An accepted run takes effect (R253). -/
theorem calApply_waiting {p : Nat} {s : State} {a : CalResult × CalResult} (hw : (s.port p).cal.waiting = some a) :
    ((calApply p s).port p).cal = { (s.port p).cal with full := some a.1, lean := some a.2, waiting := none } := by
  unfold calApply
  extract_lets x
  rw [show x.cal.waiting = some a from hw]
  dsimp only
  obtain ⟨d, h⟩ := driftUpdate_port p (s.setPort p
    (moveFilter p x { x with cal := { x.cal with full := some a.1, lean := some a.2, waiting := none } }))
  rw [h, setPort_port_same]
  rfl

/-- What an array built entry by entry shows at a built index. -/
theorem tget_map_entry {α : Type} (d : α) {f : Nat → Nat × α} (hf : ∀ j, (f j).1 = j) {l : List Nat} {i : Nat} (h : i ∈ l) :
    tget d (l.map f) i = (f i).2 := by
  induction l with
  | nil => cases h
  | cons j l ih =>
    rw [List.map_cons, tget, hf]
    by_cases hj : j = i
    · rw [if_pos hj, hj]
    · rw [if_neg hj, ih ((List.mem_cons.mp h).resolve_left (Ne.symm hj))]

/-- A record of the status array is not empty (R266). -/
theorem furStatus_ne_nil (s : State) (p upd : Nat) : furStatus s p upd ≠ [] := by
  refine List.ne_nil_of_length_pos ?_
  unfold furStatus
  extract_lets x e
  simp only [List.length_append, le_length]
  omega

/-- A port whose record has been written shows it, whatever else of the tiles is as it was (R266). -/
theorem furArray_written {f : Nat → Nat × FurAux} {l : List Nat} {p : Nat} (hf : ∀ j, (f j).1 = j) (hp : p ∈ l)
    (hne : (f p).2.record ≠ []) (s : State) (ms upd : Nat) :
    furArray { s with fur := { s.fur with rewriteMs := ms, upd := upd, aux := l.map f } } p = (f p).2.record := by
  have hpaux : State.paux { s with fur := { s.fur with rewriteMs := ms, upd := upd, aux := l.map f } } p = (f p).2 :=
    tget_map_entry _ hf hp
  rw [furArray, hpaux, if_neg hne]

/-- A new millisecond of a replica that has had a good frame rewrites the status array: UPD counts, the ports stay and every
record is written afresh (R265, R266). -/
theorem statusArrayRewrite_rewrites {s : State} (hg : (s.replica 1).anyGood = true)
    (hms : replicaTime s 1 / ms1 ≠ s.fur.rewriteMs) :
    (statusArrayRewrite s).fur.upd = (s.fur.upd + 1) % 16 ∧ (statusArrayRewrite s).fur.ports = s.fur.ports ∧
    ∀ p ∈ List.range 1024, furArray (statusArrayRewrite s) p = furStatus s p ((s.fur.upd + 1) % 16) := by
  unfold statusArrayRewrite
  extract_lets ms upd row
  rw [if_neg (by simp [ms, hms, hg])]
  refine ⟨rfl, rfl, fun p hp => ?_⟩
  exact furArray_written (f := row) (fun _ => rfl) (List.mem_range.mpr (List.mem_range.mp hp)) (furStatus_ne_nil s p upd)
    s ms upd

/-- Settles O21: each command's body under its checks, each event's effect on its port under its conditions. -/
theorem furrowCommandsAndCalibrationComplete : Obligations.FurrowCommandsAndCalibrationComplete := by
  unfold Obligations.FurrowCommandsAndCalibrationComplete
  refine ⟨?_, ?_, ?_, ?_, ?_, ?_, ?_, ?_, ?_, ?_, ?_, ?_⟩
  · intro rq s p n h hl hp hlt hn hchecks hst hleaf henable hw hlog
    have hb := bodyFurPortConfig_open (c := rowCmd 0x0701 rq s) (s := takeId s) hl hp hlt hn hchecks hleaf henable hw hlog
    exact goes_of_ok_body bodyFurPortConfig_within (by decide) h hb
      fun k hans => ⟨((samePorts_setKcp _ k).1 p).trans (furWrite_logged_port (s := takeId s) hst n _), hans⟩
  · intro rq s p h hl hp hlt hkeep hz
    exact kcpRow_reads 0x0702 bodyFurPortStatus rq s _ h (bodyFurPortStatus_keeping hl hp hlt hkeep hz)
  · intro rq s first n h hl hfirst hn h1 h1024 hrange hfl hce hz hquiet
    have hb := bodyFurRatePolicy_quiet (c := rowCmd 0x0703 rq s) (s := takeId s) hl hfirst hn h1 h1024 hrange hfl hce hz hquiet
    exact goes_of_ok_body bodyFurRatePolicy_within (by decide) h hb
      fun k hans => ⟨hans, policyWritten_policy _ _ _ _ _⟩
  · intro rq s p h hl hp hlt hone hflags hz hd hc hr
    have hb := (bodyFurCalibrate_single (c := rowCmd 0x0704 rq s) (s := takeId s) hl hp hlt hone hflags hz).trans
      (congrArg (pend · []) (furCalibrate_starts hd hc hr))
    exact goes_of_pend_body bodyFurCalibrate_within (by decide) h hb
      fun k hans => ⟨setPort_port_same _ _ _, hans⟩
  · intro rq s p d l h h8 hp hd hn hlt hch hz1 hmax hz2 hst hce hfour hpool hcut
    have hb := bodyFurMailboxSend_room (c := rowCmd 0x0705 rq s) (s := takeId s) h8 hp hd hn hlt hch hz1 hmax hz2 hst hce
      hfour hpool hcut
    exact goes_of_ok_body bodyFurMailboxSend_within (by decide) h hb
      fun k hans => ⟨congrArg FurPort.mb (setPort_port_same _ _ _), hans⟩
  · intro rq s p m rest h hl hp hlt hz hst hrx
    have hb := bodyFurMailboxRecv_message (c := rowCmd 0x0706 rq s) (s := takeId s) hl hp hlt hz hst hrx
    exact goes_of_ok_body bodyFurMailboxRecv_within (by decide) h hb
      fun k hans => ⟨congrArg FurPort.mb (setPort_port_same _ _ _), hans⟩
  · intro rq s first n h hl hfirst hn h1 h256 hrange
    exact kcpRow_reads 0x0707 bodyFurBulkStatus rq s _ h (bodyFurBulkStatus_range hl hfirst hn h1 h256 hrange)
  · intro p s hp hs hr hd
    refine goes_port (decide_eq_true hp) fun u ⟨hport, _, _⟩ => ?_
    rw [hport, calRunStart_due hs hr hd, setPort_port_same]
  · intro p d s hp hr h16 hl hd
    refine goes_port (decide_eq_true hp) fun u ⟨hport, hpaux, _⟩ => ?_
    rw [hport, hpaux]
    exact calMeasurement_head hr h16 hl hd
  · intro p s m hp hr hi hs h16 hm ht
    subst hm
    refine goes_port (decide_eq_true hp) fun u ⟨hport, _, _⟩ => ?_
    rw [hport]
    exact calRunEnd_initial hr hi hs h16 ht
  · intro p s a hp hw
    refine goes_port (decide_eq_true hp) fun u ⟨hport, _, _⟩ => ?_
    rw [hport, calApply_waiting hw]
    exact ⟨rfl, rfl, rfl⟩
  · intro s hg hms
    exact goes_done fun k => statusArrayRewrite_rewrites hg hms

end Sys2Proof.Machine
end
section
/-! SUPPORT. What operations on threads, engines and port buffers leave of the Ethernet ports and the packet service
(R309, R311, R405). -/

namespace Sys2Proof.Machine
open Sys2Proof

/-! Parts that an operation does not reach. -/

theorem Within.entry_eq {ps : List Part} {s t : State} (h : Within ps s t) (hp : Part.svc ∉ ps) (i : Nat) :
    t.entry i = s.entry i := by
  rw [State.entry, State.entry, show s.svc = t.svc from h.keeps .svc hp]

theorem Within.dom_eq {ps : List Part} {s t : State} (h : Within ps s t) (hp : Part.svc ∉ ps) (d : Nat) :
    t.dom d = s.dom d := by
  rw [State.dom, State.dom, show s.svc = t.svc from h.keeps .svc hp]

theorem Within.upD_eq {ps : List Part} {s t : State} (h : Within ps s t) (hp : Part.svc ∉ ps) (i : Nat) :
    t.upD i = s.upD i := by
  rw [State.upD, State.upD, show s.svc = t.svc from h.keeps .svc hp]

theorem Within.prof_eq {ps : List Part} {s t : State} (h : Within ps s t) (hp : Part.svc ∉ ps) (p : Nat) :
    t.prof p = s.prof p := by
  rw [State.prof, State.prof, show s.svc = t.svc from h.keeps .svc hp]

theorem Within.ethP_eq {ps : List Part} {s t : State} (h : Within ps s t) (hp : Part.eth ∉ ps) (p : Nat) :
    t.ethP p = s.ethP p := by
  rw [State.ethP, State.ethP, show s.eth = t.eth from h.keeps .eth hp]

theorem Within.thread_eq {ps : List Part} {s t : State} (h : Within ps s t) (hp : Part.eng ∉ ps) (n : Nat) :
    t.thread n = s.thread n := by
  simp only [State.thread, State.engine, show s.eng = t.eng from h.keeps .eng hp]

@[simp] theorem perfAdd_ethP (e n : Nat) (s : State) (p : Nat) : (perfAdd e n s).ethP p = s.ethP p := rfl
@[simp] theorem setEngine_ethP (s : State) (e : Nat) (x : Engine) (p : Nat) : (s.setEngine e x).ethP p = s.ethP p := rfl
@[simp] theorem setThread_ethP (s : State) (n : Nat) (x : Thread) (p : Nat) : (s.setThread n x).ethP p = s.ethP p := rfl

/-- A replaced port that keeps a feature leaves every port's. -/
theorem setEthP_keeps {β : Type} (g : Eth → β) {s : State} {p : Nat} {x : Eth} (h : g x = g (s.ethP p)) (q : Nat) :
    g ((s.setEthP p x).ethP q) = g (s.ethP q) := by
  by_cases hq : q = p
  · rw [hq, setEthP_ethP_same, h]
  · rw [setEthP_ethP_other _ _ _ _ hq]

/-! Buffers: credits, descriptors and received bytes (R311, R405). -/

/-- A port without the credits, descriptors and bytes of its buffers that are taken. -/
def unmetered (x : Eth) : Eth := { x with creditUsed := 0, descUsed := [], rxUsed := 0 }

theorem freeRx_unmetered (m : TaskMsg) (s : State) (p : Nat) : unmetered ((freeRx m s).ethP p) = unmetered (s.ethP p) := by
  unfold freeRx
  split
  · refine setEthP_keeps unmetered ?_ p
    rfl
  · rfl

theorem returnCredit_unmetered (port credit : Nat) (d : Option Nat) (s : State) (p : Nat) :
    unmetered ((returnCredit port credit d s).ethP p) = unmetered (s.ethP p) := by
  refine setEthP_keeps unmetered ?_ p
  rfl

/-- The end of a task only returns what it held of the buffers (R309, R311). -/
theorem endTask_unmetered (n : Nat) (s : State) (p : Nat) : unmetered ((endTask n s).ethP p) = unmetered (s.ethP p) := by
  unfold endTask
  split
  · rfl
  next k _ =>
    simp only [perfAdd_ethP, setEngine_ethP, setThread_ethP]
    exact (freeRx_unmetered ..).trans (returnCredit_unmetered ..)

theorem finishTask_unmetered (n : Nat) (s : State) (p : Nat) :
    unmetered ((finishTask n s).ethP p) = unmetered (s.ethP p) := by
  unfold finishTask
  split
  · rfl
  · dsimp only
    split
    · rfl
    · exact endTask_unmetered n s p

@[simp] theorem finishTask_queues (n : Nat) (s : State) (p : Nat) :
    ((finishTask n s).ethP p).queues = (s.ethP p).queues :=
  (congrArg Eth.queues (finishTask_unmetered n s p) :)

/-- A frame that starts or a message that comes puts nothing on a port but, where the input queue is full, its receive buffer
back (R311). -/
theorem pushInput_unmetered (w : Waiting) (s : State) (p : Nat) :
    unmetered ((pushInput w s).ethP p) = unmetered (s.ethP p) := by
  unfold pushInput
  dsimp only
  split
  · exact freeRx_unmetered ..
  · rfl

/-- A message joins an input queue that has room at its end (R311). -/
theorem pushInput_room {w : Waiting} {s : State} (h : (s.engine (placed s w.bucket)).input.length < 192) :
    pushInput w s = s.setEngine (placed s w.bucket) { s.engine (placed s w.bucket) with
      input := (s.engine (placed s w.bucket)).input ++ [w] } :=
  if_neg (Nat.not_le.mpr h)

theorem pushInput_input {w : Waiting} {s : State} (h : (s.engine (placed s w.bucket)).input.length < 192) :
    ((pushInput w s).engine (placed s w.bucket)).input = (s.engine (placed s w.bucket)).input ++ [w] := by
  rw [pushInput_room h, setEngine_engine_same]

end Sys2Proof.Machine
end

section
/-! SUPPORT. The commands of group 0x09, each from its conditions (R300 to R307). -/

namespace Sys2Proof.Machine
open Sys2Proof

/-! SVC_PROFILE (R301). -/

/-- A port with a written profile, its configuration word checked as written (R301, R509). -/
def profWritten (p : Nat) (c : ProfCfg) (s : State) : State :=
  (rewriteWord 2 (16 + p) s).setProf p { (rewriteWord 2 (16 + p) s).prof p with cfg := c }

theorem bodySvcProfile_write {c : Cmd} {s : State} {p : Nat} {r : List Byte} (hr : c.req.payload = r) (hl : r.length = 32)
    (hp : p = rd r 0 1) (h16 : p < 16) (hf : rd r 1 1 < 64) (hnts : bit (rd r 1 1) 2 = true → bit (rd r 1 1) 1 = true)
    (ht : rd r 2 2 < 4096) (hv4 : rd r 4 1 < 224) (hlog : rd r 8 1 ≤ 10) (hz : rd r 9 1 = 0) (hmac : macOk r 10 = true)
    (hv6 : rd r 16 1 ≠ 0xFF) (hloop : loopHeld s (2 ^ p) = false) :
    bodySvcProfile c s =
      ok (profWritten p ⟨rd r 1 1, rd r 2 2, rdBe r 4 4, rd r 8 1, rdBe r 10 6, rdBe r 16 16⟩ s)
        (profReply (profWritten p ⟨rd r 1 1, rd r 2 2, rdBe r 4 4, rd r 8 1, rdBe r 10 6, rdBe r 16 16⟩ s) p) := by
  subst hr hp
  have hflags : bit (rd c.req.payload 1 1) 2 = false ∨ bit (rd c.req.payload 1 1) 1 = true := by
    cases h : bit (rd c.req.payload 1 1) 2 with
    | false => exact .inl rfl
    | true => exact .inr (hnts h)
  refine (if_neg (fun h => h.2 hl)).trans ((checked_of_all (by simp [numEth, h16]) _ _).trans
    ((if_neg (by rw [hl]; decide)).trans ((checked_of_all ?_ _ _).trans (if_neg (by simp [hloop])))))
  simp [zeroAt, *]

/-! SVC_DOMAIN (R302). -/

/-- An outbound domain with a written record. -/
def domWritten (d : Nat) (c : DomCfg) (s : State) : State :=
  (rewriteWord 2 d s).setDom d { (rewriteWord 2 d s).dom d with cfg := c }

/-- A domain that was not enabled takes any record in range, and nothing is cancelled (R282, R302). -/
theorem bodySvcDomain_write {c : Cmd} {s : State} {d : Nat} {r : List Byte} (hr : c.req.payload = r) (hl : r.length = 32)
    (hd : d = rd r 0 1) (h8 : d < 8) (hchecks : (domChecks r).all (·.2) = true) (hoff : bit (s.dom d).cfg.flags 0 = false)
    (hloop : loopHeld s (domParse r).ports = false) :
    bodySvcDomain c s = ok (domWritten d (domParse r) s) (domReply (domWritten d (domParse r) s) d) := by
  subst hr hd
  refine (if_neg (fun h => h.2 hl)).trans ((checked_of_all (by simp [h8]) _ _).trans
    ((if_neg (by rw [hl]; decide)).trans ((checked_of_all (List.all_eq_true.mp hchecks) _ _).trans
      ((if_neg (by simp [hoff])).trans ((if_neg (by simp [hoff, hloop])).trans ?_)))))
  simp only [hoff, Bool.false_and, Bool.false_eq_true, if_false]
  rfl

/-! SVC_CLIENT_ADD and SVC_CLIENT_REMOVE (R283, R303, R304, R310). -/

/-- The entry that a command with STATIC set asks for (R280, R303). -/
theorem entryParse_static {r : List Byte} (h : bit (rd r 17 1) 5 = true) :
    entryParse r = { key := keyAt r 0 16, transport := bitsAt (rd r 17 1) 1 2, authRequired := bit (rd r 17 1) 3
                     boundTlv := bit (rd r 17 1) 4, isStatic := true, tenant := rd r 18 2, syncLog := rdI r 20 1
                     annLog := rdI r 21 1, delayLog := rdI r 22 1 } := by
  rw [entryParse, h]

/-- The entry of an enabled domain goes to the engine of its bucket as the command's task. -/
theorem bodySvcClientAdd_queued {c : Cmd} {s : State} {r : List Byte} (hr : c.req.payload = r) (hl : r.length = 32)
    (hfit : addressFits (bitsAt (rd r 17 1) 1 2) (keyAt r 0 16).address = true) (hpd : bit (rd r 16 1) 3 = false)
    (hf : rd r 17 1 < 64) (hvalid : bit (rd r 17 1) 0 = true) (hstatic : bit (rd r 17 1) 5 = true)
    (htr : bitsAt (rd r 17 1) 1 2 ≤ 2) (ht : rd r 18 2 < 4096) (hz1 : rd r 23 1 = 0) (hz2 : rd r 24 2 = 0)
    (hz3 : rd r 26 2 = 0) (hz4 : rd r 28 4 = 0) (hon : bit (s.dom (keyAt r 0 16).domain).cfg.flags 0 = true) :
    bodySvcClientAdd c s =
      held (pushInput ⟨.cmd c.id (.add (entryParse r)), bucketOf s (flowEntry (keyAt r 0 16))⟩ s) := by
  subst hr
  have hcond : (!bit (s.dom (entryParse c.req.payload).key.domain).cfg.flags 0) = false := by rw [Bool.not_eq_false']; exact hon
  refine (if_neg (not_not.mpr hl)).trans ((checked_of_all ?_ _ _).trans (if_neg (by rw [hcond]; exact Bool.false_ne_true)))
  simp [zeroAt, entryParse, *]

/-- A command that removes one entry has one task, in the queue of the entry's bucket (R304, R310). -/
theorem bodySvcClientRemove_single {c : Cmd} {s : State} {r : List Byte} (hr : c.req.payload = r) (hl : r.length = 20)
    (hpd : bit (rd r 16 1) 3 = false) (hmode : rd r 17 1 = 0) (ht : rd r 18 2 < 4096) :
    bodySvcClientRemove c s =
      held (pushInput ⟨.cmd c.id (.remove 0 (keyAt r 0 16) (rd r 18 2)), bucketOf s (flowEntry (keyAt r 0 16))⟩
        { s with svc := { s.svc with removals := s.svc.removals ++ [⟨c.id, 1, 0⟩] } }) := by
  subst hr
  refine (if_neg (not_not.mpr hl)).trans ((checked_of_all (by simp [*]) _ _).trans ?_)
  rw [hmode]
  rfl

/-! SVC_CLIENT_QUERY (R305). -/

/-- A query by key answers the record of the entry found. -/
theorem bodySvcClientQuery_found {c : Cmd} {s : State} {i : Nat} {r : List Byte} (hr : c.req.payload = r)
    (hl : r.length = 28) (hmode : rd r 0 1 = 0) (hz1 : rd r 1 1 = 0) (hz2 : rd r 4 4 = 0) (hpd : bit (rd r 24 1) 3 = false)
    (hz3 : rd r 25 3 = 0) (hi : findEntry s (keyAt r 8 24) = some i) :
    bodySvcClientQuery c s = ok s (le 4 0xFFFFFFFF ++ clientRecord s i) := by
  subst hr
  refine (if_neg (not_not.mpr hl)).trans ((checked_of_all (by simp [zeroAt, *]) _ _).trans
    ((if_neg (by rw [hmode]; decide)).trans ((checked_of_all (by simp [zeroAt, *]) _ _).trans ?_)))
  rw [hi]

/-! SVC_LIMITS (R306). -/

/-- The limits as written, every bucket refilled under the former ones (log entry 29). -/
def limitsWritten (l : LimitsCfg) (s : State) : State :=
  { s with svc := { s.svc with limits := l, buckets := s.svc.buckets.map (fun e => (e.1, refill s e.2)) } }

theorem bodySvcLimits_write {c : Cmd} {s : State} {l : LimitsCfg} {r : List Byte} (hr : c.req.payload = r)
    (hlen : r.length = 16)
    (hl : l = ⟨rd r 0 4, rd r 4 4, rd r 8 1, rd r 9 1, rd r 10 1, rd r 11 1, rd r 12 2⟩) (h1 : 1 ≤ l.ntpRate ∧ l.ntpRate ≤ 1024)
    (h2 : 1 ≤ l.ntpBurst ∧ l.ntpBurst ≤ 4096) (h3 : 16 ≤ l.v4Prefix ∧ l.v4Prefix ≤ 32)
    (h4 : 32 ≤ l.v6Prefix ∧ l.v6Prefix ≤ 128) (h5 : l.kodMode ≤ 1) (h6 : 3 ≤ l.minPoll ∧ l.minPoll ≤ 17)
    (h7 : 1 ≤ l.sigRate ∧ l.sigRate ≤ 256) (hz : rd r 14 2 = 0) :
    bodySvcLimits c s = ok (limitsWritten l s) (limitsRecord l) := by
  subst hr hl
  refine (if_neg (fun h => h.2 hlen)).trans ((if_neg (List.ne_nil_of_length_eq_add_one hlen)).trans (checked_of_all ?_ _ _))
  simp [zeroAt, *]

/-! UPSTREAM_CONFIG (R307). -/

/-- A written upstream domain: a change of anything but LOCAL_PRIO starts it afresh, its counters kept (R307, log entry 30). -/
def upRewritten (o : Up) (w : UpCfg) : Up :=
  if { w with prio := o.cfg.prio } = o.cfg then { o with cfg := w }
  else { cfg := w, exchanges := o.exchanges, authFail := o.authFail, grantsDenied := o.grantsDenied
         masterChanges := o.masterChanges, delayReqSeq := o.delayReqSeq }

theorem upRewritten_cfg (o : Up) (w : UpCfg) : (upRewritten o w).cfg = w := by
  unfold upRewritten
  split <;> rfl

theorem upRewritten_exchanges (o : Up) (w : UpCfg) : (upRewritten o w).exchanges = o.exchanges := by
  unfold upRewritten
  split <;> rfl

/-- Upstream domain `i` with a written record. -/
def upWritten (i : Nat) (w : UpCfg) (s : State) : State := (rewriteWord 2 (32 + i) s).setUpD i (upRewritten (s.upD i) w)

theorem bodyUpstreamConfig_write {c : Cmd} {s : State} {i : Nat} {r : List Byte} (hr : c.req.payload = r)
    (hl : r.length = 96) (hi : i = rd r 0 1) (h1 : i ≤ 1) (hchecks : (upChecks r).all (·.2) = true)
    (hloop : loopHeld s (2 ^ (upParse r).port) = false) :
    bodyUpstreamConfig c s = ok (upWritten i (upParse r) s) (upReply (upWritten i (upParse r) s) i) := by
  subst hr hi
  exact (if_neg (fun h => h.2 hl)).trans ((checked_of_all (by simp [h1]) _ _).trans
    ((if_neg (by rw [hl]; decide)).trans ((checked_of_all (List.all_eq_true.mp hchecks) _ _).trans
      (if_neg (by simp [hloop])))))

/-- Settles O24: each command's body under its checks. -/
theorem packetServiceCommandsComplete : Obligations.PacketServiceCommandsComplete := by
  unfold Obligations.PacketServiceCommandsComplete
  refine ⟨?_, ?_, ?_, ?_, ?_, ?_, ?_⟩
  · intro rq s p h hl hp h16 hf hnts ht hv4 hlog hz hmac hv6 hloop
    have hb := bodySvcProfile_write (c := rowCmd 0x0901 rq s) (s := takeId s) rfl hl hp h16 hf hnts ht hv4 hlog hz hmac hv6 hloop
    exact goes_of_ok_body bodySvcProfile_within (by decide) h hb
      fun k hans => ⟨congrArg Prof.cfg (setProf_prof_same ..), hans⟩
  · intro rq s d h hl hd h8 hchecks hoff hloop
    have hb := bodySvcDomain_write (c := rowCmd 0x0902 rq s) (s := takeId s) rfl hl hd h8 hchecks hoff hloop
    exact goes_of_ok_body bodySvcDomain_within (by decide) h hb
      fun k hans => ⟨congrArg Dom.cfg (setDom_dom_same ..), hans⟩
  · intro rq s key h hl hk hfit hpd hf hvalid hstatic htr ht hz1 hz2 hz3 hz4 hon hroom
    subst hk
    have hb := bodySvcClientAdd_queued (c := rowCmd 0x0903 rq s) (s := takeId s) (r := rq.payload) rfl hl hfit hpd hf hvalid
      hstatic htr ht hz1 hz2 hz3 hz4 hon
    rw [pushInput_room hroom, entryParse_static hstatic] at hb
    refine goes_of_held h hb fun t ht hslots => ⟨hslots, (congrArg State.svc ht :), ?_⟩
    rw [ht]
    exact congrArg Engine.input (setEngine_engine_same (takeId s) _ _)
  · intro rq s key h hl hk hpd hmode ht hroom
    subst hk
    have hb := bodySvcClientRemove_single (c := rowCmd 0x0904 rq s) (s := takeId s) rfl hl hpd hmode ht
    rw [pushInput_room hroom] at hb
    refine goes_of_held h hb fun t ht hslots => ⟨hslots, ?_, ?_, ?_⟩ <;> rw [ht]
    · rfl
    · rfl
    · exact congrArg Engine.input (setEngine_engine_same _ _ _)
  · intro rq s i h hl hmode hz1 hz2 hpd hz3 hi
    exact kcpRow_reads 0x0905 bodySvcClientQuery rq s _ h (bodySvcClientQuery_found rfl hl hmode hz1 hz2 hpd hz3 hi)
  · intro rq s l h hlen hl h1 h1' h2 h2' h3 h3' h4 h4' h5 h6 h6' h7 h7' hz
    have hb := bodySvcLimits_write (c := rowCmd 0x0906 rq s) (s := takeId s) rfl hlen hl ⟨h1, h1'⟩ ⟨h2, h2'⟩ ⟨h3, h3'⟩
      ⟨h4, h4'⟩ h5 ⟨h6, h6'⟩ ⟨h7, h7'⟩ hz
    exact goes_of_ok_body bodySvcLimits_within (by decide) h hb fun k hans => ⟨rfl, hans⟩
  · intro rq s i h hl hi h1 hchecks hloop
    have hb := bodyUpstreamConfig_write (c := rowCmd 0x0907 rq s) (s := takeId s) rfl hl hi h1 hchecks hloop
    refine goes_of_ok_body bodyUpstreamConfig_within (by decide) h hb fun k hans => ⟨?_, ?_, hans⟩
    · exact (congrArg Up.cfg (setUpD_upD_same ..)).trans (upRewritten_cfg ..)
    · exact (congrArg Up.exchanges (setUpD_upD_same ..)).trans (upRewritten_exchanges ..)

end Sys2Proof.Machine
end
section
/-! SUPPORT. What handling a received message leaves: the frame it sends, and what of the task, the port and the service the
sending changes (R276 to R295, R311, R392). -/

namespace Sys2Proof.Machine
open Sys2Proof

/-! A frame that the task of a thread sends. -/

/-- A frame joins its queue at the end, with its task's tag and the credit of its length (R311, R392). -/
theorem queueFrame_queue {n : Nat} {f : TxFrame} {s : State} {k : Task} (h : (s.thread n).task = some k) :
    tget [] ((queueFrame n f s).ethP f.port).queues f.queue =
      tget [] (s.ethP f.port).queues f.queue ++ [{ f with tag := k.tag, credit := divUp f.bytes 64 }] := by
  unfold queueFrame
  rw [h]
  exact (congrArg (fun x : Eth => tget [] x.queues f.queue) (setEthP_ethP_same ..)).trans (tget_tset_same ..)

/-- A frame without an AUTHENTICATION TLV is queued as it is. -/
theorem sendFrame_unsigned {n : Nat} {f : TxFrame} {s : State} (ha : f.alg = 0) :
    sendFrame n f s = finishTask n (queueFrame n f s) := by
  rw [sendFrame, show signFrame f s = (some f, s) from if_pos ha]
  exact ite_self _

/-- `t` is what thread `n` leaves when it sends `f`, a frame of port `p` and queue `q` without an ICV, in `u`. -/
structure Sends (n p q : Nat) (f : TxFrame) (u t : State) : Prop where
  sent : t = sendFrame n f u
  unsigned : f.alg = 0
  port : f.port = p
  queue : f.queue = q

/-- The frame then stands last in its queue. -/
theorem Sends.last {n p q : Nat} {f : TxFrame} {u t : State} {k : Task} (h : Sends n p q f u t)
    (ht : (u.thread n).task = some k) :
    lastQueued t p q = some { f with tag := k.tag, credit := divUp f.bytes 64 } := by
  obtain ⟨rfl, ha, rfl, rfl⟩ := h
  rw [sendFrame_unsigned ha, lastQueued, finishTask_queues, queueFrame_queue ht, List.getLast?_concat]

/-- Sending it changes threads, ports and counters only. -/
theorem Sends.within {n p q : Nat} {f : TxFrame} {u t : State} (h : Sends n p q f u t) : Within [.eng, .eth, .regs] u t := by
  rw [h.sent, sendFrame_unsigned h.unsigned]
  exact Within.op (finishTask_within _ _) rfl (Within.op (queueFrame_within _ _ _) rfl (Within.refl _ _))

/-! The message of a thread's task. -/

theorem task_of_rxOf {s : State} {n : Nat} {r : Nat × Nat × FieldTime × Bound × RxFrame}
    (h : (taskOf s n).bind rxOf = some r) : ∃ k, (s.thread n).task = some k := by
  unfold taskOf at h
  cases ht : (s.thread n).task with
  | none => simp [ht] at h
  | some k => exact ⟨k, rfl⟩

theorem task_of_ptpIn {s : State} {n : Nat} {x : PtpIn} (h : ptpIn s n = some x) : ∃ k, (s.thread n).task = some k := by
  unfold ptpIn at h
  split at h
  next hr => exact task_of_rxOf hr
  next => cases h

theorem ntpIn_of_ntpUdp {s : State} {n p d src dst sport : Nat} {tm : FieldTime} {b : Bound} {f : RxFrame} {v6 : Bool}
    {m : NtpMsg} (h : (taskOf s n).bind rxOf = some (p, d, tm, b, f)) (hb : f.body = .ntpUdp v6 src dst sport m) :
    ntpIn s n = some (p, tm, b, v6, src, f, m) := by
  unfold ntpIn
  rw [h]
  dsimp only
  rw [hb]

/-! Authentication that is off (R284). -/

theorem authPass_off {s : State} {d : Nat} (h : (authCfg s d).1 = 0) (tenant : Nat) (id : List Byte) (at_ : FieldTime)
    (m : PtpMsg) : authPass s d tenant id false at_ m = true :=
  if_pos ⟨h, rfl⟩

theorem algOf_off {s : State} {d : Nat} (h : (authCfg s d).1 = 0) : algOf s d false = 0 := if_pos ⟨h, rfl⟩

/-- No message of a domain or entry without authentication is a verified one (R536). -/
theorem noteVerified_off {s : State} {n : Nat} {x : PtpIn} (hx : ptpIn s n = some x) (h : (authCfg s x.d).1 = 0)
    (hr : x.required = false) (kind : Nat) : noteVerified kind n s = s := by
  simp [noteVerified, hx, h, hr]

/-- The records of the domains decide the authentication. -/
theorem authCfg_congr {s t : State} {d : Nat} (hd : (t.dom d).cfg = (s.dom d).cfg) (hu : t.upD (d - 9) = s.upD (d - 9)) :
    authCfg t d = authCfg s d := by
  simp only [authCfg, hd, hu]

/-! ETH_FRAME_RECEIVE (R276, R311, R390, R391, R394, R405). -/

/-- Filtered counting changes nothing but the counters (R522). -/
theorem filterCount_perf (e : FEvent) (n : Nat) (s : State) :
    ∃ q, filterCount e n s = { s with regs := { s.regs with perf := q } } := by
  unfold filterCount
  induction s.regs.filters using List.reverseRecOn with
  | nil => exact ⟨_, rfl⟩
  | append_singleton l f ih =>
    obtain ⟨q, hq⟩ := ih
    rw [List.foldl_concat, hq]
    split
    · exact ⟨_, rfl⟩
    · exact ⟨_, rfl⟩

/-- A received frame is counted, and nothing else changes by that. -/
theorem received_perf (e : FEvent) (a b c d n : Nat) (s : State) :
    ∃ q, perfAdd a b (perfAdd c d (filterCount e n s)) = { s with regs := { s.regs with perf := q } } := by
  obtain ⟨q, hq⟩ := filterCount_perf e n s
  rw [hq]
  exact ⟨_, rfl⟩

/-- A good frame of a service domain that fits the receive buffer becomes a message, stamped and bounded on receipt. -/
theorem ethFrameReceive_accepts {p d : Nat} {f : RxFrame} {s : State} (hg : f.good = true) (hup : (s.ethP p).state = 3)
    (hlpi : (s.ethP p).lpiUntil ≤ s.now) (hmax : f.length ≤ (s.ethP p).cfg.maxFrame) (hbody : f.body ≠ .pauseFrame)
    (hroom : (s.ethP p).rxUsed + f.length ≤ 393216) (hd : classify s p f = .ok d) :
    ∃ q, ethFrameReceive p f s =
      pushInput ⟨.rx p d (roundStamp (replicaTime s 0)) (servedBound s p false) f, rxBucket s p d f⟩
        { s.setEthP p { s.ethP p with rxUsed := (s.ethP p).rxUsed + f.length } with
          regs := { s.regs with perf := q } } := by
  obtain ⟨q, hq⟩ := received_perf { family := 3, dir := 0, tc := f.pcp, port := p } (8 * p + 2) f.length (8 * p) 1 1 s
  have hclass : classify { s with regs := { s.regs with perf := q } } p f = .ok d := hd
  unfold ethFrameReceive
  rw [hq]
  dsimp only
  rw [if_neg (not_not.mpr hup), if_neg (by simp [hg]), if_neg (Nat.not_lt.mpr hlpi),
    if_neg (not_or.mpr ⟨Nat.not_lt.mpr hmax, hbody⟩), if_neg (Nat.not_lt.mpr hroom), hclass]
  dsimp only
  split <;> exact ⟨_, rfl⟩

/-- Its bytes are held of the receive buffer, and the message joins an input that has room. -/
theorem ethFrameReceive_queues {p d : Nat} {f : RxFrame} {s : State} (hg : f.good = true) (hup : (s.ethP p).state = 3)
    (hlpi : (s.ethP p).lpiUntil ≤ s.now) (hmax : f.length ≤ (s.ethP p).cfg.maxFrame) (hbody : f.body ≠ .pauseFrame)
    (hroom : (s.ethP p).rxUsed + f.length ≤ 393216) (hd : classify s p f = .ok d)
    (hinput : (s.engine (placed s (rxBucket s p d f))).input.length < 192) :
    ((ethFrameReceive p f s).ethP p).rxUsed = (s.ethP p).rxUsed + f.length ∧
      ((ethFrameReceive p f s).engine (placed s (rxBucket s p d f))).input =
        (s.engine (placed s (rxBucket s p d f))).input ++
          [⟨.rx p d (roundStamp (replicaTime s 0)) (servedBound s p false) f, rxBucket s p d f⟩] := by
  obtain ⟨q, hq⟩ := ethFrameReceive_accepts hg hup hlpi hmax hbody hroom hd
  rw [hq]
  generalize ht : ({ s.setEthP p _ with regs := _ } : State) = t
  have heng : t.eng = s.eng := ht ▸ rfl
  have hused : (t.ethP p).rxUsed = (s.ethP p).rxUsed + f.length := by
    rw [← ht]
    exact congrArg Eth.rxUsed (setEthP_ethP_same s p _)
  have hin (e : Nat) : t.engine e = s.engine e := by rw [State.engine, heng, ← State.engine]
  have hplaced : placed t (rxBucket s p d f) = placed s (rxBucket s p d f) := by rw [placed, heng, ← placed]
  rw [pushInput_room (by rw [hplaced, hin]; exact hinput), setEngine_ethP, hplaced, setEngine_engine_same, hin]
  exact ⟨hused, rfl⟩

/-! ARP_REQUEST (R276). -/

theorem arpRequest_sends {n p d tg sd : Nat} {s : State} {tm : FieldTime} {b : Bound} {f : RxFrame}
    (h : (taskOf s n).bind rxOf = some (p, d, tm, b, f)) (hb : f.body = .arp tg sd) :
    ∃ g, Sends n p (queueOf s p d) g s (arpRequest n s) ∧ g.msg = .arpReply tg ∧ g.dstMac = f.src := by
  unfold arpRequest
  rw [h]
  dsimp only
  rw [hb]
  exact ⟨_, ⟨rfl, rfl, rfl, rfl⟩, rfl, rfl⟩

/-! Answers to a PTP message in unicast (R277, R278). -/

theorem Within.queueOf_eq {ps : List Part} {s t : State} (h : Within ps s t) (hp : Part.eth ∉ ps) (p d : Nat) :
    queueOf t p d = queueOf s p d := by
  simp only [queueOf, tagOf, h.ethP_eq hp]

/-- A signalling message that answers one of a domain without authentication. -/
theorem sends_answer {ps : List Part} {s t : State} {x : PtpIn} (hw : Within ps s t) (he : Part.eth ∉ ps)
    (hauth : (authCfg t x.d).1 = 0) (hreq : x.required = false) (n len : Nat) (m : TxMsg) (hasBound : Bool) (u : State) :
    Sends n x.port (queueOf s x.port x.d) (numbered (answerPtp t x len m hasBound) t).1 u
      (sendFrame n (numbered (answerPtp t x len m hasBound) t).1 u) :=
  ⟨rfl, (congrArg (algOf t x.d) hreq).trans (algOf_off hauth), rfl, hw.queueOf_eq he _ _⟩

/-! Grants on an entry (R281, R282). -/

/-- A token is taken of a bucket, and nothing else changes (R294). -/
theorem takeToken_bucket (sig v6 : Bool) (address : Nat) (s : State) :
    ∃ i b, (takeToken sig v6 address s).2 = s.setBucket i b := by
  unfold takeToken
  dsimp only
  split <;> exact ⟨_, _, rfl⟩

theorem writeEntry_entry_same (i : Nat) (x : Entry) (s : State) :
    (writeEntry i x s).entry i = { x with gen := s.kcp.g + 1 } :=
  setEntry_entry_same s i _

theorem freeEntry_entry_same (i : Nat) (s : State) : (freeEntry i s).entry i = {} := setEntry_entry_same s i {}

/-- A request with a token, a logInterval in range and an entry of its own is granted there. -/
theorem tryGrant_entry {s : State} {x : PtpIn} {kind : GrantKind} {log : Int} {i : Nat} (d : Nat) (htr : x.transport = 0)
    (htok : (takeToken true false x.key.address s).1 = true) (hmin : (s.dom x.d).cfg.minLog ≤ log)
    (hmax : log ≤ (s.dom x.d).cfg.maxLog) (hrange : logRange (s.dom x.d).cfg.profile (kindBit kind) log = true)
    (hlisted : bit (s.dom x.d).cfg.flags 6 = false) (hi : x.entry = some i) :
    tryGrant x kind log d s = (true, writeEntry i (grantOn (s.entry i) kind log (ftSec x.time) ((ftSec x.time + d) % 2 ^ 32))
      (takeToken true false x.key.address s).2) := by
  have htoken : takeToken true (decide (x.transport = 2))
      (if x.transport = 1 then x.key.address % 2 ^ 32 else x.key.address) s = takeToken true false x.key.address s := by
    rw [htr]
    rfl
  unfold tryGrant
  dsimp only
  rw [htoken, if_neg (by simp [htok]), if_neg (by simp [hmin, hmax, hrange, hlisted]), hi]
  rfl

/-- A granted request is answered with its grant. -/
theorem requestUnicast_grants {s : State} {n i dur : Nat} {x : PtpIn} {kind : GrantKind} {log : Int}
    (hx : ptpIn s n = some x) (hbody : x.m.body = .signaling (.request kind log dur)) (hver : versionOk x.m = true)
    (huni : bit (s.dom x.d).cfg.flags 5 = true) (hauth : (authCfg s x.d).1 = 0) (hreq : x.required = false)
    (htr : x.transport = 0) (htok : (takeToken true false x.key.address s).1 = true)
    (hmin : (s.dom x.d).cfg.minLog ≤ log) (hmax : log ≤ (s.dom x.d).cfg.maxLog)
    (hrange : logRange (s.dom x.d).cfg.profile (kindBit kind) log = true)
    (hlisted : bit (s.dom x.d).cfg.flags 6 = false) (hi : x.entry = some i) :
    ∃ g u, Sends n x.port (queueOf s x.port x.d) g u (requestUnicast n s) ∧ u.thread n = s.thread n ∧
      u.entry i = { grantOn (s.entry i) kind log (ftSec x.time)
        ((ftSec x.time + min dur (s.dom x.d).cfg.durationMax) % 2 ^ 32) with gen := s.kcp.g + 1 } ∧
      g.msg = .signaling (.grant kind log (min dur (s.dom x.d).cfg.durationMax)) ∧ g.dstMac = x.frame.src := by
  unfold requestUnicast
  rw [hx]
  dsimp only
  rw [hbody]
  dsimp only
  rw [if_neg (by simp [hver, huni]), hreq, if_neg (by simp [authPass_off hauth]),
    tryGrant_entry _ htr htok hmin hmax hrange hlisted hi]
  obtain ⟨j, b, hb⟩ := takeToken_bucket true false x.key.address s
  rw [hb]
  simp only [if_true]
  generalize ht : writeEntry i (grantOn _ _ _ _ _) (s.setBucket j b) = t
  have hw : Within [.svc] s t := ht ▸
    Within.op (writeEntry_within _ _ _) rfl (Within.op (State.setBucket_within _ _ _) rfl (Within.refl _ _))
  have hentry : t.entry i = _ := (congrArg (State.entry · i) ht).symm.trans (writeEntry_entry_same ..)
  have hoff : (authCfg t x.d).1 = 0 := by
    rw [authCfg_congr (s := s) (by rw [← ht]; rfl) (by rw [← ht]; rfl), hauth]
  exact ⟨_, _, sends_answer hw (by decide) hoff hreq n 56 _ false _, hw.thread_eq (by decide) n, hentry, rfl, rfl⟩

/-- An entry that keeps another grant keeps its place (R282). -/
theorem clearGrant_keeps {i bits : Nat} {s : State} (h : (s.entry i).grants - ((s.entry i).grants &&& bits) ≠ 0) :
    clearGrant i bits s =
      writeEntry i { s.entry i with grants := (s.entry i).grants - ((s.entry i).grants &&& bits) } s :=
  if_neg (fun hc => h hc.1)

/-- A cancelled grant is acknowledged. -/
theorem cancelUnicast_acknowledges {s : State} {n i : Nat} {x : PtpIn} {kind : GrantKind} (hx : ptpIn s n = some x)
    (hbody : x.m.body = .signaling (.cancel kind)) (hver : versionOk x.m = true) (hauth : (authCfg s x.d).1 = 0)
    (hreq : x.required = false) (hi : x.entry = some i)
    (hmore : (s.entry i).grants - ((s.entry i).grants &&& 2 ^ kindBit kind) ≠ 0) :
    ∃ g u, Sends n x.port (queueOf s x.port x.d) g u (cancelUnicast n s) ∧ u.thread n = s.thread n ∧
      u.entry i = { s.entry i with
        grants := (s.entry i).grants - ((s.entry i).grants &&& 2 ^ kindBit kind), gen := s.kcp.g + 1 } ∧
      g.msg = .signaling (.ackCancel kind) := by
  unfold cancelUnicast
  rw [hx]
  dsimp only
  rw [hbody]
  dsimp only
  rw [if_neg (by simp [hver]), hreq, if_neg (by simp [authPass_off hauth]), hi]
  dsimp only
  rw [clearGrant_keeps (s := (numbered _ s).2) hmore]
  exact ⟨_, _, sends_answer (Within.refl [] s) (by decide) hauth hreq n 50 _ false _, rfl, writeEntry_entry_same .., rfl⟩

/-- The last grants of an entry that is not STATIC end with the entry (R282). -/
theorem grantExpiry_frees {i : Nat} {s : State} (hv : (s.entry i).valid = true) (h0 : (s.entry i).grants ≠ 0)
    (h8 : (s.entry i).grants < 8) (he : reached (ftSec (replicaTime s 0)) (s.entry i).expiry = true)
    (hs : (s.entry i).isStatic = false) : (grantExpiry i s).entry i = {} := by
  have hall : (s.entry i).grants - ((s.entry i).grants &&& 7) = 0 := by
    rw [show (7 : Nat) = 2 ^ 3 - 1 from rfl, Nat.and_two_pow_sub_one_of_lt_two_pow h8, Nat.sub_self]
  have hfree : clearGrant i 7 s = freeEntry i s := if_pos ⟨hall, by simp [hs]⟩
  rw [grantExpiry, if_pos ⟨hv, h0, he⟩, hfree, freeEntry_entry_same]

/-! DELAY_REQ (R278, R282). -/

/-- Counting an exchange leaves the domains' records (R295). -/
theorem sampleDom_cfg (d : Nat) (s : State) (j : Nat) : ((sampleDom d s).2.dom j).cfg = (s.dom j).cfg := by
  show ((s.setDom d { s.dom d with exchanges := (sampled (s.dom d).exchanges (s.dom d).cfg.sampleLog).2 }).dom j).cfg = _
  by_cases h : j = d
  · rw [h, setDom_dom_same]
  · rw [setDom_dom_other _ _ _ _ h]

/-- A receiveTimestamp that R39 serves is answered, with its bound. -/
theorem delayResp_sends {s : State} {n : Nat} {x : PtpIn} (hserve : servable x.time = true)
    (hauth : (authCfg s x.d).1 = 0) (hreq : x.required = false) :
    ∃ g u, Sends n x.port (queueOf s x.port x.d) g u (delayResp n x s) ∧ u.thread n = s.thread n ∧
      g.msg = .delayResp x.m.seq ∧ g.fields.time = x.time ∧ g.fields.bound = x.bound := by
  unfold delayResp
  rw [if_neg (by simp [hserve])]
  refine ⟨_, _, ⟨rfl, ?_, rfl, rfl⟩, rfl, rfl, rfl, rfl⟩
  refine (congrArg (algOf _ x.d) hreq).trans (algOf_off ?_)
  rw [authCfg_congr (sampleDom_cfg x.d s x.d) rfl, hauth]

/-- A unicast Delay_Req under a grant, within twice its rate, is answered. -/
theorem delayReq_sends {s : State} {n : Nat} {x : PtpIn} (hx : ptpIn s n = some x) (hbody : x.m.body = .delayReq)
    (hver : versionOk x.m = true) (hauth : (authCfg s x.d).1 = 0) (hreq : x.required = false)
    (hgroup : isGroup s x.port x.frame = false) (hserve : servable x.time = true)
    (hgrant : (x.entry.any (fun i => bit (s.entry i).grants 2 && !reached (ftSec x.time) (s.entry i).expiry &&
      (delayCount (s.entry i) (ftSec x.time)).1)) = true) :
    ∃ g u, Sends n x.port (queueOf s x.port x.d) g u (delayReq n s) ∧ u.thread n = s.thread n ∧
      g.msg = .delayResp x.m.seq ∧ g.fields.time = x.time ∧ g.fields.bound = x.bound := by
  cases hi : x.entry with
  | none => simp [hi] at hgrant
  | some i =>
    simp only [hi, Option.any_some, Bool.and_eq_true] at hgrant
    obtain ⟨hlive, hcount⟩ := hgrant
    unfold delayReq
    rw [hx]
    dsimp only
    rw [hbody]
    dsimp only
    rw [if_neg (by simp [hver]), hreq, if_neg (by simp [authPass_off hauth]), hgroup, if_neg Bool.false_ne_true, hi,
      Option.filter_some, if_pos (by simpa using hlive)]
    dsimp only
    rw [if_pos hcount]
    exact delayResp_sends (s := s.setEntry i _) hserve hauth hreq

/-! ANNOUNCE_RECEIVED (R278). -/

theorem announceReceived_counts {s : State} {n : Nat} {x : PtpIn} {a : Announce} (hx : ptpIn s n = some x)
    (hbody : x.m.body = .announce a) (hauth : (authCfg s x.d).1 = 0) (hreq : x.required = false) :
    announceReceived n s = finishTask n
      (s.setDom x.d { s.dom x.d with announceIgnored := satInc sat32 (s.dom x.d).announceIgnored }) := by
  unfold announceReceived
  rw [hx]
  dsimp only
  rw [hbody]
  dsimp only
  rw [hreq, if_pos (authPass_off hauth ..)]

/-- A saturating increment (R301, R302, R401). -/
theorem satInc_sat32 (v : Nat) : satInc sat32 v = min 4294967295 (v + 1) := by
  unfold satInc sat32
  split <;> omega

/-! NTP_REQUEST (R290, R291, R294). -/

/-- What a response names as its reference leaves the receive timestamp (R291). -/
theorem ntpReference_rxTime (s : State) (f : TxFields) : (ntpReference s f).rxTime = f.rxTime := by
  unfold ntpReference
  dsimp only
  split <;> rfl

theorem ntpRequest_sends {s : State} {n p d src dst sport : Nat} {tm : FieldTime} {b : Bound} {f : RxFrame} {v6 : Bool}
    {m : NtpMsg} (h : (taskOf s n).bind rxOf = some (p, d, tm, b, f)) (hb : f.body = .ntpUdp v6 src dst sport m)
    (hnts : m.nts = false) (hok : ntpOk m = true) (htok : (takeToken false v6 src s).1 = true) :
    ∃ g u, Sends n p (queueOf s p 8) g u (ntpRequest n s) ∧ u.thread n = s.thread n ∧ g.msg = .ntp m false ∧
      g.own = true ∧ g.fields.rxTime = tm ∧ g.dstMac = f.src := by
  unfold ntpRequest
  rw [ntpIn_of_ntpUdp h hb]
  dsimp only
  rw [hnts, if_neg Bool.false_ne_true, if_neg (by simp [hok]), if_neg (by simp [htok])]
  exact ⟨_, _, ⟨rfl, rfl, rfl, rfl⟩, rfl, rfl, rfl, ntpReference_rxTime .., rfl⟩

/-! NTS_REQUEST (R293, R343, R344). -/

theorem newCookies_length (n slot tenant : Nat) (c2s s2c : List Byte) (s : State) :
    (newCookies n slot tenant c2s s2c s).1.length = n := by
  induction n generalizing s with
  | zero => rfl
  | succ n ih =>
    rw [newCookies, List.range_succ, List.foldl_concat]
    exact (List.length_append ..).trans (congrArg (· + 1) (ih s))

/-- How many cookies a response to a request gets: none where the CURRENT slot of its admission is gone or its mask refuses
it (R340, R343, R344). -/
def cookiesGiven (s : State) (m : NtpMsg) (uid : List Byte) (slot : Option (Nat × Nat)) : Nat :=
  if slot.any (fun z => (keySlot s 3 z.1).valid && decide ((keySlot s 3 z.1).indexGen = z.2) && !masterDenied s z.1) = true
  then cookieCount m uid else 0

theorem ntsRespond_sends {s : State} (n p : Nat) (rx : FieldTime) (b : Bound) (v6 : Bool) (src : Nat) (f : RxFrame)
    (m : NtpMsg) (uid : List Byte) (k : Nat × List Byte × List Byte) (slot : Option (Nat × Nat))
    (hrng : s.key.rngFault = false) :
    ∃ g u, Sends n p (queueOf s p 8) g u (ntsRespond n p rx b v6 src f m uid k slot s) ∧ u.thread n = s.thread n ∧
      g.msg = .nts m (cookiesGiven s m uid slot) ∧ g.own = true ∧ g.fields.rxTime = rx := by
  unfold ntsRespond
  rw [if_neg (by simp [hrng])]
  extract_lets c r g
  have hcookies : r.1.length = cookiesGiven s m uid slot ∧ Within [.free, .svc, .key] s r.2 := by
    have hc : Within [.free, .svc, .key] s c.2 := Within.op (sampleNtp_within p s) rfl (Within.refl _ _)
    cases slot with
    | none => exact ⟨rfl, hc⟩
    | some z =>
      obtain ⟨i, gen⟩ := z
      have hslot : keySlot c.2 3 i = keySlot s 3 i := rfl
      have hmask : masterDenied c.2 i = masterDenied s i := rfl
      simp only [r, hslot, hmask, cookiesGiven, Option.any_some]
      split_ifs with hgone hdenied hall hall
      · simp_all
      · exact ⟨rfl, hc⟩
      · simp_all
      · exact ⟨rfl, Within.op (countDenied_within _) rfl hc⟩
      · exact ⟨newCookies_length .., Within.op (newCookies_within ..) rfl hc⟩
      · simp_all
  obtain ⟨hlen, hw⟩ := hcookies
  exact ⟨_, r.2, ⟨rfl, rfl, rfl, hw.queueOf_eq (by decide) p 8⟩, hw.thread_eq (by decide) n, congrArg (TxMsg.nts m) hlen, rfl,
    ntpReference_rxTime ..⟩

/-- An NTS NAK is sent in the state of the request. -/
theorem ntsNak_sends (n p : Nat) (f : RxFrame) (m : NtpMsg) (uid : List Byte) (s : State) :
    ∃ g, Sends n p (queueOf s p 8) g s (ntsNak n p f m uid s) ∧ g.msg = .ntsNak m uid :=
  ⟨_, ⟨rfl, rfl, rfl, rfl⟩, rfl⟩

section Nts

variable {s : State} {n p d src dst sport : Nat} {tm : FieldTime} {b : Bound} {f : RxFrame} {v6 : Bool}
    {m : NtpMsg} {uid cookie : List Byte} {au : NtsAuth}
    (h : (taskOf s n).bind rxOf = some (p, d, tm, b, f)) (hb : f.body = .ntpUdp v6 src dst sport m)
    (hnts : m.nts = true) (hok : ntpOk m = true) (hon : bit (s.prof p).cfg.flags 2 = true)
    (htok : (takeToken false v6 src s).1 = true) (huid : m.uniqueIds = [uid]) (hcookie : m.cookies = [cookie])
    (hau : m.auth = some au) (hlong : 32 ≤ uid.length) (hlast : au.last = true)
include h hb hnts hok hon htok huid hcookie hau hlong hlast

/-- A well-formed request with a token goes on to its cookie and authenticator. -/
theorem ntsRequest_formed : ntsRequest n s = match openCookie s cookie with
    | none => ntsNak n p f m uid
        (if cookieNamed s cookie && masterDenied s (rdBe cookie 0 4 % 16) then countDenied (takeToken false v6 src s).2
         else (takeToken false v6 src s).2)
    | some k => if ntsAuthOk au k.2.1 then ntsRespond n p tm b v6 src f m uid k ((s.thread n).task.bind (·.ntsSlot))
        (countHandled (takeToken false v6 src s).2) else ntsNak n p f m uid (takeToken false v6 src s).2 := by
  unfold ntsRequest
  rw [ntpIn_of_ntpUdp h hb]
  dsimp only
  rw [hnts, if_neg (by simp), if_neg (by simp [hok, hon]), if_neg (by simp [htok]), huid, hcookie, hau]
  dsimp only
  rw [if_neg (by simp [hlast, hlong])]
  rfl

/-- One whose cookie opens and whose authenticator verifies is answered. -/
theorem ntsRequest_sends (hrng : s.key.rngFault = false)
    (hver : (openCookie s cookie).any (fun k => ntsAuthOk au k.2.1) = true) :
    ∃ g u, Sends n p (queueOf s p 8) g u (ntsRequest n s) ∧ u.thread n = s.thread n ∧
      g.msg = .nts m (cookiesGiven s m uid ((s.thread n).task.bind (·.ntsSlot))) ∧ g.own = true ∧ g.fields.rxTime = tm := by
  rw [ntsRequest_formed h hb hnts hok hon htok huid hcookie hau hlong hlast]
  cases hk : openCookie s cookie with
  | none => simp [hk] at hver
  | some k =>
    have hk' : ntsAuthOk au k.2.1 = true := by simpa [hk] using hver
    dsimp only
    rw [if_pos hk']
    exact ntsRespond_sends (s := countHandled (takeToken false v6 src s).2) n p tm b v6 src f m uid k _ hrng

/-- Any other is answered with a NAK. -/
theorem ntsRequest_naks (hver : (openCookie s cookie).any (fun k => ntsAuthOk au k.2.1) ≠ true) :
    ∃ g u, Sends n p (queueOf s p 8) g u (ntsRequest n s) ∧ u.thread n = s.thread n ∧ g.msg = .ntsNak m uid := by
  have hnak (u : State) (hw : Within [.svc, .key] s u) : ∃ g v, Sends n p (queueOf s p 8) g v (ntsNak n p f m uid u) ∧
      v.thread n = s.thread n ∧ g.msg = .ntsNak m uid := by
    obtain ⟨g, hg, hmsg⟩ := ntsNak_sends n p f m uid u
    rw [hw.queueOf_eq (by decide)] at hg
    exact ⟨g, u, hg, hw.thread_eq (by decide) n, hmsg⟩
  have htoken : Within [.svc, .key] s (takeToken false v6 src s).2 :=
    Within.op (takeToken_within ..) rfl (Within.refl _ _)
  rw [ntsRequest_formed h hb hnts hok hon htok huid hcookie hau hlong hlast]
  cases hk : openCookie s cookie with
  | none => exact hnak _ (.ite (.op (countDenied_within _) rfl htoken) htoken)
  | some k =>
    have hk' : ¬ntsAuthOk au k.2.1 = true := by simpa [hk] using hver
    dsimp only
    rw [if_neg hk']
    exact hnak _ htoken

end Nts

/-- Settles O25: a received frame becomes a message, and each message is handled with the frame it is answered with. -/
theorem packetServiceRequestsComplete : Obligations.PacketServiceRequestsComplete := by
  unfold Obligations.PacketServiceRequestsComplete
  refine ⟨?_, ?_, ?_, ?_, ?_, ?_, ?_, ?_, ?_⟩
  · intro p f s d hp hg hup hlpi hmax hbody hroom hd hinput
    exact goes_unit (decide_eq_true hp) fun _ => ethFrameReceive_queues hg hup hlpi hmax hbody hroom hd hinput
  · intro n s p d tm b f tg sd hn h hb
    obtain ⟨k, hk⟩ := task_of_rxOf h
    obtain ⟨g, hs, hmsg, hdst⟩ := arpRequest_sends h hb
    refine goes_unit (decide_eq_true hn) fun _ => ?_
    exact (congrArg (Option.map _) (hs.last hk)).trans (by rw [Option.map_some, hmsg, hdst])
  · intro n s x kind log dur i hn hx hbody hver huni hauth hreq htr htok hmin hmax hrange hlisted hi
    obtain ⟨k, hk⟩ := task_of_ptpIn hx
    obtain ⟨g, u, hs, hthread, hentry, hmsg, hdst⟩ := requestUnicast_grants hx hbody hver huni hauth hreq htr htok hmin hmax
      hrange hlisted hi
    refine goes_unit (decide_eq_true hn) fun _ => ?_
    rw [noteVerified_off hx hauth hreq]
    exact ⟨(hs.within.entry_eq (by decide) i).trans hentry,
      (congrArg (Option.map _) (hs.last (hthread ▸ hk))).trans (by rw [Option.map_some, hmsg, hdst])⟩
  · intro n s x kind i hn hx hbody hver hauth hreq hi hmore
    obtain ⟨k, hk⟩ := task_of_ptpIn hx
    obtain ⟨g, u, hs, hthread, hentry, hmsg⟩ := cancelUnicast_acknowledges hx hbody hver hauth hreq hi hmore
    refine goes_unit (decide_eq_true hn) fun _ => ?_
    rw [noteVerified_off hx hauth hreq]
    exact ⟨(hs.within.entry_eq (by decide) i).trans hentry,
      (congrArg (Option.map _) (hs.last (hthread ▸ hk))).trans (by rw [Option.map_some, hmsg])⟩
  · intro n s x hn hx hbody hver hauth hreq hgroup hserve hgrant
    obtain ⟨k, hk⟩ := task_of_ptpIn hx
    obtain ⟨g, u, hs, hthread, hmsg, htime, hbound⟩ := delayReq_sends hx hbody hver hauth hreq hgroup hserve hgrant
    refine goes_unit (decide_eq_true hn) fun _ => ?_
    rw [noteVerified_off hx hauth hreq]
    exact (congrArg (Option.map _) (hs.last (hthread ▸ hk))).trans (by rw [Option.map_some, hmsg, htime, hbound])
  · intro n s x a hn hx hbody hauth hreq
    refine goes_unit (decide_eq_true hn) fun _ => ?_
    rw [noteVerified_off hx hauth hreq, announceReceived_counts hx hbody hauth hreq, ← satInc_sat32]
    exact ⟨((finishTask_within n _).dom_eq (by decide) x.d).trans (setDom_dom_same ..), finishTask_queues n _ x.port⟩
  · intro i s hi hv h0 h8 he hs
    exact goes_unit (decide_eq_true hi) fun _ => grantExpiry_frees hv h0 h8 he hs
  · intro n s p d tm b v6 src dst sport f m hn h hb hnts hok htok
    obtain ⟨k, hk⟩ := task_of_rxOf h
    obtain ⟨g, u, hs, hthread, hmsg, hown, hrx, hdst⟩ := ntpRequest_sends h hb hnts hok htok
    refine goes_unit (decide_eq_true hn) fun _ => ?_
    exact (congrArg (Option.map _) (hs.last (hthread ▸ hk))).trans (by rw [Option.map_some, hmsg, hown, hrx, hdst])
  · intro n s p d tm b v6 src dst sport f m uid cookie au hn h hb hnts hok hon htok huid hcookie hau hlong hlast hrng
    obtain ⟨k, hk⟩ := task_of_rxOf h
    refine goes_unit (decide_eq_true hn) fun _ => ?_
    split
    next hver =>
      obtain ⟨g, u, hs, hthread, hmsg, hown, hrx⟩ := ntsRequest_sends h hb hnts hok hon htok huid hcookie hau hlong hlast hrng hver
      exact (congrArg (Option.map _) (hs.last (hthread ▸ hk))).trans (by rw [Option.map_some, hmsg, hown, hrx]; rfl)
    next hver =>
      obtain ⟨g, u, hs, hthread, hmsg⟩ := ntsRequest_naks h hb hnts hok hon htok huid hcookie hau hlong hlast hver
      exact (congrArg (Option.map _) (hs.last (hthread ▸ hk))).trans (by rw [Option.map_some, hmsg])

end Sys2Proof.Machine
end
section
/-! SUPPORT. Upstream domains: what a message of a master, a timeout and a renewal leave (R284, R296 to R298). -/

namespace Sys2Proof.Machine
open Sys2Proof

@[simp] theorem setCand_cand_same (u : Up) (c : Nat) (x : Candidate) : (u.setCand c x).cand c = x :=
  tget_tset_same _ _ _ _

/-! A message of an upstream domain without authentication (R284). -/

theorem upIn_of_rx {s : State} {n i p : Nat} {tm : FieldTime} {b : Bound} {f : RxFrame} {m : PtpMsg}
    (h : (taskOf s n).bind rxOf = some (p, 9 + i, tm, b, f)) (hm : ptpOf f = some m) :
    upIn s n = some (i, p, tm, b, f, m) := by
  simp [upIn, h, hm]

theorem noteUpVerified_off {s : State} {n i p : Nat} {tm : FieldTime} {b : Bound} {f : RxFrame} {m : PtpMsg}
    (h : upIn s n = some (i, p, tm, b, f, m)) (ha : (authCfg s (9 + i)).1 = 0) (kinds : Nat → Bool) :
    noteUpVerified kinds n s = s := by
  simp [noteUpVerified, h, ha]

theorem upAuth_off {s : State} {i : Nat} (ha : (authCfg s (9 + i)).1 = 0) (p : Nat) (f : RxFrame) (at_ : FieldTime)
    (m : PtpMsg) : upAuth s i p f at_ m = true :=
  authPass_off ha ..

/-- The record of an upstream domain decides its authentication. -/
theorem authCfg_upstream {s t : State} {i : Nat} (h : (t.upD i).cfg = (s.upD i).cfg) :
    authCfg t (9 + i) = authCfg s (9 + i) := by
  simp only [authCfg, Nat.not_lt.mpr (show 8 ≤ 9 + i by omega), if_false, Nat.add_sub_cancel_left, h]

/-! The chosen master (R296). -/

/-- The choice is the best of the candidates, which it leaves as they are. -/
theorem choose_leaves (i : Nat) (s : State) :
    ((choose i s).upD i).cands = (s.upD i).cands ∧ ((choose i s).upD i).chosen = bestOf s.now ((choose i s).upD i) := by
  unfold choose
  dsimp only
  split
  next h => exact ⟨rfl, h.symm⟩
  next => rw [setUpD_upD_same]; exact ⟨rfl, rfl⟩

/-- After a candidate is replaced and the master chosen again. -/
theorem choose_setCand (i c : Nat) (x : Candidate) (s : State) :
    ((choose i (s.setUpD i ((s.upD i).setCand c x))).upD i).cand c = x ∧
      ((choose i (s.setUpD i ((s.upD i).setCand c x))).upD i).chosen =
        bestOf s.now ((choose i (s.setUpD i ((s.upD i).setCand c x))).upD i) := by
  obtain ⟨hcands, hchosen⟩ := choose_leaves i (s.setUpD i ((s.upD i).setCand c x))
  refine ⟨?_, hchosen⟩
  rw [Up.cand, hcands, setUpD_upD_same]
  exact setCand_cand_same ..

/-- An Announce is kept with its candidate, and the master chosen again. -/
theorem upstreamAnnounce_chooses {s : State} {n i p c : Nat} {tm : FieldTime} {b : Bound} {f : RxFrame} {m : PtpMsg}
    {a : Announce} (h : upIn s n = some (i, p, tm, b, f, m)) (hb : m.body = .announce a) (hver : versionOk m = true)
    (hon : upOn s i = true) (ha : (authCfg s (9 + i)).1 = 0) (hc : candPlace s.now (s.upD i) f m = some c) :
    upstreamAnnounce n s = finishTask n (choose i (s.setUpD i
      ((s.upD i).setCand c { (s.upD i).cand c with clock := m.clock, announce := some a, annAt := s.now }))) := by
  unfold upstreamAnnounce
  rw [h]
  dsimp only
  rw [hb]
  dsimp only
  rw [if_neg (by simp [hver, hon]), if_neg (by simp [upAuth_off ha]), hc]

/-- A candidate whose Announce is no longer current has none, and the master is chosen again. -/
theorem announceTimeout_chooses {s : State} {i c : Nat} (hsome : ((s.upD i).cand c).announce.isSome = true)
    (hcur : annCurrent s.now ((s.upD i).cand c) = false) :
    ((announceTimeout i c s).upD i).cand c = { (s.upD i).cand c with announce := none } ∧
      ((announceTimeout i c s).upD i).chosen = bestOf s.now ((announceTimeout i c s).upD i) := by
  unfold announceTimeout
  dsimp only
  rw [if_pos ⟨hsome, by simp [hcur]⟩]
  exact choose_setCand i c _ s

/-- A two-step Sync of the chosen master waits for its Follow_Up (R297). -/
theorem upstreamMessage_waits {s : State} {n i p : Nat} {tm o : FieldTime} {b : Bound} {f : RxFrame} {m : PtpMsg}
    (h : upIn s n = some (i, p, tm, b, f, m)) (hb : m.body = .sync false o) (hver : versionOk m = true)
    (hon : upOn s i = true) (ha : (authCfg s (9 + i)).1 = 0) (hsome : (s.upD i).chosen.isSome = true)
    (hours : candOf (s.upD i) f m = (s.upD i).chosen) :
    upstreamMessage n s = finishTask n
      (s.setUpD i { s.upD i with pendingSync := some (m.seq, m.correction, tm, m.bound, s.now) }) := by
  unfold upstreamMessage
  rw [h]
  dsimp only
  rw [hb]
  dsimp only
  rw [if_neg (by simp [hver, hon, hsome, hours]), if_neg (by simp [upAuth_off ha])]

/-- A grant is kept with its candidate (R296). -/
theorem upstreamGrant_keeps {s : State} {n i p c dur : Nat} {tm : FieldTime} {b : Bound} {f : RxFrame} {m : PtpMsg}
    {kind : GrantKind} {log : Int} (h : upIn s n = some (i, p, tm, b, f, m))
    (hb : m.body = .signaling (.grant kind log dur)) (hver : versionOk m = true) (hon : upOn s i = true)
    (ha : (authCfg s (9 + i)).1 = 0) (hc : candOf (s.upD i) f m = some c) (hdur : dur ≠ 0) :
    upstreamGrant n s = finishTask n (s.setUpD i ((s.upD i).setCand c { (s.upD i).cand c with
      grants := setBit ((s.upD i).cand c).grants (kindBit kind), denied := false
      grantedAt := tset 0 ((s.upD i).cand c).grantedAt (kindBit kind) s.now
      granted := tset 0 ((s.upD i).cand c).granted (kindBit kind) dur })) := by
  unfold upstreamGrant
  rw [h]
  dsimp only
  rw [hb]
  dsimp only
  rw [if_neg (by simp [hver, hon]), if_neg (by simp [upAuth_off ha]), hc]
  exact if_neg hdur

/-! Frames that no task sends (R311, R405). -/

/-- The frame that has ended on the wire returns its credit; nothing else of the port changes (R405). -/
theorem settleWire_ethP (p : Nat) (s : State) : ∃ k g, k ≤ (s.ethP p).creditUsed ∧
    (settleWire p s).ethP p = { s.ethP p with creditUsed := k, inFlight := g } := by
  unfold settleWire
  dsimp only
  split
  next f _ =>
    split
    · refine ⟨(s.ethP p).creditUsed - f.credit, none, Nat.sub_le .., ?_⟩
      rw [returnCredit]
      simp only [setEthP_ethP_same]
    · exact ⟨_, _, Nat.le_refl _, rfl⟩
  next => exact ⟨_, _, Nat.le_refl _, rfl⟩

/-- Where the port has room, the frame joins its queue at the end and takes its credit and a descriptor. -/
theorem queueFree_room {f : TxFrame} {s : State} {p q : Nat} (hp : f.port = p) (hq : f.queue = q)
    (hc : (s.ethP p).creditUsed + divUp f.bytes 64 ≤ 6144) (hd : tget 0 (s.ethP p).descUsed q < 128) :
    ((queueFree f s).ethP p).tags = (s.ethP p).tags ∧
      ((queueFree f s).ethP p).creditUsed ≤ (s.ethP p).creditUsed + divUp f.bytes 64 ∧
      tget 0 ((queueFree f s).ethP p).descUsed q = tget 0 (s.ethP p).descUsed q + 1 ∧
      tget [] ((queueFree f s).ethP p).queues q = tget [] (s.ethP p).queues q ++ [{ f with credit := divUp f.bytes 64 }] := by
  subst hp hq
  obtain ⟨k, g, hk, hport⟩ := settleWire_ethP f.port s
  have hroom : creditFor (settleWire f.port s) f.port (divUp f.bytes 64) f.queue = true := by
    simp only [creditFor, hport, Bool.and_eq_true, decide_eq_true_eq]
    exact ⟨by omega, hd⟩
  unfold queueFree
  dsimp only
  rw [if_pos hroom, setEthP_ethP_same, hport]
  refine ⟨rfl, Nat.add_le_add_right hk _, ?_, ?_⟩ <;> rw [tget_tset_same]

/-! Requests to a candidate (R296). -/

/-- The request that an upstream domain sends for a grant. -/
def grantRequest (u : UpCfg) (kind : GrantKind) : TxMsg :=
  .signaling (.request kind (match kind with | .announce => u.annLog | .sync => u.syncLog | .delayResp => u.delayLog) u.duration)

/-- A request over any transport, under any tags, takes two units of credit at most (R288, R391). -/
theorem request_credit (s : State) (p d transport : Nat) : divUp (frameLen s p d transport 54) 64 ≤ 2 := by
  have htags : (tagStack (tagOf s p d)).length ≤ 2 := by
    unfold tagStack
    split <;> simp only [List.length_cons, List.length_nil] <;> omega
  have hlen : frameLen s p d transport 54 ≤ 128 := by
    unfold frameLen
    split <;> omega
  simp only [divUp]
  omega

/-- Without authentication a request is queued as it is. -/
theorem sendRequest_queues {i c : Nat} {s : State} {kind : GrantKind} (ha : (authCfg s (9 + i)).1 = 0) :
    ∃ f u, sendRequest i c s kind = queueFree f u ∧ Within [.svc] s u ∧ u.upD i = s.upD i ∧
      f.port = (s.upD i).cfg.port ∧ f.queue = queueOf s (s.upD i).cfg.port (9 + i) ∧
      divUp f.bytes 64 ≤ 2 ∧ f.msg = grantRequest (s.upD i).cfg kind := by
  have halg : algOf s (9 + i) false = 0 := algOf_off ha
  unfold sendRequest
  dsimp only
  rw [halg, show ∀ (f : TxFrame) (u : State), f.alg = 0 → signFrame f u = (some f, u) from fun _ _ h => if_pos h]
  · exact ⟨_, _, rfl, numbered_within .., rfl, rfl, rfl, request_credit .., rfl⟩
  · rfl

/-- What requests for the grants `l` leave of an upstream domain's record and of its port. -/
structure Requested (i p q : Nat) (l : List GrantKind) (s t : State) : Prop where
  cfg : (t.upD i).cfg = (s.upD i).cfg
  msgs : (tget [] (t.ethP p).queues q).map (·.msg) =
    (tget [] (s.ethP p).queues q).map (·.msg) ++ l.map (grantRequest (s.upD i).cfg)

/-- With room on the port every request of a list is queued, in order. -/
theorem foldl_sendRequest {i p q c : Nat} (l : List GrantKind) {s : State} (ha : (authCfg s (9 + i)).1 = 0)
    (hp : (s.upD i).cfg.port = p) (hq : queueOf s p (9 + i) = q) (hc : (s.ethP p).creditUsed + 2 * l.length ≤ 6144)
    (hd : tget 0 (s.ethP p).descUsed q + l.length ≤ 128) : Requested i p q l s (l.foldl (sendRequest i c) s) := by
  induction l generalizing s with
  | nil => exact ⟨rfl, (List.append_nil _).symm⟩
  | cons kind l ih =>
    subst hp hq
    rw [List.length_cons] at hc hd
    obtain ⟨f, u, hsend, hw, hup, hport, hqueue, hunits, hmsg⟩ := sendRequest_queues (c := c) (kind := kind) ha
    have heth := hw.ethP_eq (by decide) (s.upD i).cfg.port
    obtain ⟨htags, hcredit, hdesc, hlist⟩ := queueFree_room (s := u) hport hqueue (by rw [heth]; omega) (by rw [heth]; omega)
    have hupd : (queueFree f u).upD i = s.upD i := ((queueFree_within f u).upD_eq (by decide) i).trans hup
    rw [heth] at htags hcredit hdesc hlist
    rw [← hsend] at htags hcredit hdesc hlist hupd
    have hcfg : ((sendRequest i c s kind).upD i).cfg = (s.upD i).cfg := congrArg Up.cfg hupd
    obtain ⟨hcfg', hmsgs⟩ := ih (s := sendRequest i c s kind) (by rw [authCfg_upstream hcfg, ha]) (by rw [hcfg])
      (by simp only [queueOf, tagOf, htags]) (by omega) (by omega)
    refine ⟨hcfg'.trans hcfg, ?_⟩
    rw [List.foldl_cons, hmsgs, hlist, hcfg, List.map_append, List.append_assoc]
    simp only [List.map_cons, List.map_nil, List.singleton_append, hmsg]

/-- With every grant due and room on the port, all three are asked for (R296). -/
theorem upstreamRenewal_asks {i c q : Nat} {s : State} (hq : q = queueOf s (s.upD i).cfg.port (9 + i))
    (hon : upOn s i = true) (huni : bit (s.upD i).cfg.flags 1 = true) (hprio : (s.upD i).cfg.prio.getD c 0 ≠ 0)
    (hdue : [GrantKind.announce, .sync, .delayResp].all (grantDue s.now ((s.upD i).cand c)) = true)
    (ha : (authCfg s (9 + i)).1 = 0) (hc : (s.ethP (s.upD i).cfg.port).creditUsed + 6 ≤ 6144)
    (hd : tget 0 (s.ethP (s.upD i).cfg.port).descUsed q + 3 ≤ 128) :
    (tget [] ((upstreamRenewal i c s).ethP (s.upD i).cfg.port).queues q).map (·.msg) =
      (tget [] (s.ethP (s.upD i).cfg.port).queues q).map (·.msg) ++
        [GrantKind.announce, .sync, .delayResp].map (grantRequest (s.upD i).cfg) := by
  have hall : [GrantKind.announce, .sync, .delayResp].filter (grantDue s.now ((s.upD i).cand c)) =
      [.announce, .sync, .delayResp] := List.filter_eq_self.mpr (List.all_eq_true.mp hdue)
  unfold upstreamRenewal
  dsimp only
  rw [hall, if_neg (by simp only [hon, huni, hprio]; decide)]
  generalize hx : ([0, 1, 2].foldl _ _ : Nat) = held
  have hup := setUpD_upD_same s i ((s.upD i).setCand c { (s.upD i).cand c with grants := held })
  have hcfg := congrArg Up.cfg hup
  have h := foldl_sendRequest (c := c) [.announce, .sync, .delayResp]
    (s := s.setUpD i ((s.upD i).setCand c { (s.upD i).cand c with grants := held }))
    (by rw [authCfg_upstream hcfg, ha]) (by rw [hcfg]; rfl) hq.symm hc hd
  rw [h.msgs, hcfg]
  rfl

end Sys2Proof.Machine
end
section
/-! SUPPORT. Scheduling, commit and transmission: what each event leaves of a port's frames (R287 to R289, R295, R309, R418). -/

namespace Sys2Proof.Machine
open Sys2Proof

/-! Scheduled messages (R309). -/

/-- The first message of a schedule that is wanted becomes a task of the engine that its flow is placed on. -/
theorem schedDue_first {s : State} {key : SchedKey} {log : Int} {flow : List Byte} (h : schedWant s key = some (log, flow))
    (hs : s.eng.sched = []) :
    schedDue key s = pushInput ⟨.sched key, bucketOf s flow⟩ { s with eng := { s.eng with sched := [(key, s.now)] } } := by
  unfold schedDue
  rw [h]
  dsimp only
  rw [hs]
  rfl

/-- It joins that engine's input where there is room, and the schedule starts. -/
theorem schedDue_queues {s : State} {key : SchedKey} {log : Int} {flow : List Byte} (h : schedWant s key = some (log, flow))
    (hs : s.eng.sched = []) (hroom : (s.engine (placed s (bucketOf s flow))).input.length < 192) :
    (schedDue key s).eng.sched = [(key, s.now)] ∧
      ((schedDue key s).engine (placed s (bucketOf s flow))).input =
        (s.engine (placed s (bucketOf s flow))).input ++ [⟨.sched key, bucketOf s flow⟩] := by
  rw [schedDue_first h hs]
  have hroom' : (({ s with eng := { s.eng with sched := [(key, s.now)] } } : State).engine
      (placed { s with eng := { s.eng with sched := [(key, s.now)] } } (bucketOf s flow))).input.length < 192 := hroom
  exact ⟨by rw [pushInput_room hroom']; rfl, pushInput_input hroom'⟩

/-! The record of a frame (R295, R405). -/

/-- A frame of the module's own or without authentication is settled as it is, with its record. -/
theorem settleFrame_unsigned {f : TxFrame} (h : f.own = true ∨ f.alg = 0) (r : Option (Nat × Nat)) (s : State) :
    ∃ g, settleFrame f r s = (some g, s) ∧ g.wants = none ∧ g.record = r := by
  unfold settleFrame
  dsimp only
  split
  · exact ⟨_, rfl, rfl, rfl⟩
  next hown => exact ⟨_, if_pos (h.resolve_left hown), rfl, rfl⟩

/-- The frame that waits for its record is replaced in its queue by the frame with it. -/
theorem recordCreate_settles {n : Nat} {s : State} {k : Task} {f : TxFrame} {d : EvData} (hk : (s.thread n).task = some k)
    (hf : ((s.ethP k.port).queues.flatMap (·.2)).find?
      (fun f => f.tag == k.tag && f.wants.isSome && (f.own || f.alg == 0 || !keysAwaited s)) = some f)
    (hd : f.wants = some d) (h : f.own = true ∨ f.alg = 0) :
    ∃ g, settleFrame f (createRecord d k.tag s).1 (createRecord d k.tag s).2 = (some g, (createRecord d k.tag s).2) ∧
      g.wants = none ∧ g.record = (createRecord d k.tag s).1 ∧
      tget [] ((recordCreate n s).ethP f.port).queues f.queue =
        (tget [] (s.ethP f.port).queues f.queue).map (fun h => if h.tag = f.tag ∧ h.wants.isSome = true then g else h) := by
  obtain ⟨g, hg, hwants, hrecord⟩ := settleFrame_unsigned h (createRecord d k.tag s).1 (createRecord d k.tag s).2
  refine ⟨g, hg, hwants, hrecord, ?_⟩
  have heth := (createRecord_within d k.tag s).ethP_eq (by decide) f.port
  unfold recordCreate
  rw [hk]
  dsimp only
  rw [hf]
  dsimp only
  rw [hd]
  dsimp only
  rw [hg]
  dsimp only
  rw [finishTask_queues, setEthP_ethP_same, heth]
  exact tget_tset_same [] (s.ethP f.port).queues f.queue _

/-! The fields of a frame at its commit (R287, R288). -/

/-- A port without its frames and its buffers' meters: what the stamps and bounds of its frames are taken from. -/
def idlePort (x : Eth) : Eth := { unmetered x with queues := [], inFlight := none, committedQ := [], wireFree := 0 }

theorem settleWire_idlePort (p : Nat) (s : State) : idlePort ((settleWire p s).ethP p) = idlePort (s.ethP p) := by
  obtain ⟨k, g, -, h⟩ := settleWire_ethP p s
  rw [h]
  rfl

theorem settleWire_eth (p : Nat) (s : State) : ∃ e, settleWire p s = { s with eth := e } := by
  unfold settleWire
  dsimp only
  split
  · split <;> exact ⟨_, rfl⟩
  · exact ⟨_, rfl⟩

/-- Frames that come and go at the ports leave the fields that a frame is committed with. -/
theorem commitFields_congr {s : State} {e : Tbl Eth} {p : Nat}
    (hx : idlePort (({ s with eth := e } : State).ethP p) = idlePort (s.ethP p)) (f : TxFrame) (tp : Nat) :
    commitFields { s with eth := e } p f tp = commitFields s p f tp := by
  have hcfg : (({ s with eth := e } : State).ethP p).cfg = (s.ethP p).cfg := (congrArg Eth.cfg hx :)
  have hrow : (({ s with eth := e } : State).ethP p).rowUsed = (s.ethP p).rowUsed := (congrArg Eth.rowUsed hx :)
  have halign : (({ s with eth := e } : State).ethP p).alignTx = (s.ethP p).alignTx := (congrArg Eth.alignTx hx :)
  have hstate : (({ s with eth := e } : State).ethP p).state = (s.ethP p).state := (congrArg Eth.state hx :)
  have hsample : (({ s with eth := e } : State).ethP p).txSampleAt = (s.ethP p).txSampleAt := (congrArg Eth.txSampleAt hx :)
  have hstamp : egressStamp { s with eth := e } p tp = egressStamp s p tp := by
    unfold egressStamp egressCorr
    dsimp only
    rw [hcfg, hrow, halign]
    rfl
  have hgood : tsGood { s with eth := e } p true = tsGood s p true := by
    unfold tsGood
    dsimp only
    rw [if_pos rfl, if_pos rfl, hstate, hsample]
    rfl
  have hterm : ethTerm { s with eth := e } p = ethTerm s p := by
    unfold ethTerm
    dsimp only
    rw [hrow]
    rfl
  have hbound : servedBound { s with eth := e } p true = servedBound s p true := by
    simp only [servedBound, hgood, hterm]
    rfl
  unfold commitFields
  rw [hstamp, hbound]
  rfl

/-- The time that a frame is committed with is its egress stamp (R287). -/
theorem commitFields_time (s : State) (p : Nat) (f : TxFrame) (tp : Nat) :
    (commitFields s p f tp).fields.time = egressStamp s p tp := by
  unfold commitFields
  dsimp only
  split
  · unfold ntpReference
    dsimp only
    split <;> rfl
  · rfl

/-- A frame that is taken off returns its buffer and nothing else of the ports (R405). -/
theorem dropFrame_unmetered (s : State) (f : TxFrame) (p : Nat) :
    unmetered ((dropFrame s f).ethP p) = unmetered (s.ethP p) := by
  refine (returnCredit_unmetered ..).trans (congrArg unmetered ?_)
  split
  next r _ => exact (voidRecord_within r s).ethP_eq (by decide) p
  next => rfl

/-! LAUNCH_COMMIT (R287). -/

/-- Port `p` with the head of queue `q` taken off. -/
def headTaken (p q : Nat) (s : State) : State :=
  s.setEthP p { s.ethP p with queues := tset [] (s.ethP p).queues q ((tget [] (s.ethP p).queues q).drop 1) }

/-- With the credit of the frame that has ended settled, only the head of queue `q` is gone. -/
theorem headTaken_settled (p q : Nat) (s : State) :
    ((headTaken p q (settleWire p s)).ethP p).committedQ = (s.ethP p).committedQ ∧
      tget [] ((headTaken p q (settleWire p s)).ethP p).queues q = (tget [] (s.ethP p).queues q).drop 1 := by
  obtain ⟨k, g, -, hwire⟩ := settleWire_ethP p s
  rw [headTaken, setEthP_ethP_same, hwire]
  exact ⟨rfl, tget_tset_same [] (s.ethP p).queues q _⟩

/-- The frame that port `p` may commit, with its credit settled, is committed where its time can be served, and dropped where not. -/
theorem launchCommit_unsigned {p q tp : Nat} {f : TxFrame} {s : State}
    (h : commitCandidate (settleWire p s) p = some (q, f, tp)) (ha : f.alg = 0) (hs2c : f.s2c = [])
    (hg : grantHolds s f (ftSec (replicaAtPs s tp)) = true) :
    let a := headTaken p q (settleWire p s)
    let g := { commitFields s p f tp with wire := frameBytes (commitFields s p f tp) }
    let c := reportCommit g (recordCommit g a)
    launchCommit p s = if servable (egressStamp s p tp) = true then
      c.setEthP p { a.ethP p with committedQ := (s.ethP p).committedQ ++ [g], wireFree := tp + f.bytes * wirePs (s.ethP p).cfg.rate }
    else dropFrame a f := by
  intro a g c
  have hport : idlePort (a.ethP p) = idlePort (s.ethP p) := by
    rw [show a.ethP p = _ from setEthP_ethP_same ..]
    exact settleWire_idlePort p s
  obtain ⟨e, he⟩ : ∃ e, a = { s with eth := e } := by
    obtain ⟨e, he⟩ := settleWire_eth p s
    exact ⟨_, by rw [show a = headTaken p q (settleWire p s) from rfl, he, headTaken, State.setEthP]⟩
  have hfields : commitFields a p f tp = commitFields s p f tp := by
    rw [he] at hport ⊢
    exact commitFields_congr hport f tp
  have hgrant : grantHolds a f (ftSec (replicaAtPs a tp)) = true := by rw [he]; exact hg
  have hc : c.ethP p = a.ethP p :=
    ((reportCommit_within g _).ethP_eq (by decide) p).trans ((recordCommit_within g a).ethP_eq (by decide) p)
  have hcommitted : (a.ethP p).committedQ = (s.ethP p).committedQ := (headTaken_settled p q s).1
  have hrate : (a.ethP p).cfg.rate = (s.ethP p).cfg.rate := congrArg (·.cfg.rate) hport
  have hstopped : ntsStopped a f = false := by simp [ntsStopped, hs2c]
  unfold launchCommit
  dsimp only
  rw [h]
  dsimp only
  rw [show (settleWire p s).setEthP p _ = a from rfl, if_neg (by simp [hstopped]), hgrant, hfields, commitFields_time]
  by_cases hs : servable (egressStamp s p tp) = true
  · rw [if_neg (by simp [hs]), if_pos hs, show signFrame (commitFields s p f tp) a = (some (commitFields s p f tp), a) from if_pos ha]
    dsimp only
    rw [show sealNts (commitFields s p f tp) a = (commitFields s p f tp, a) from if_pos hs2c]
    dsimp only
    rw [show (reportCommit _ (recordCommit _ _)) = c from rfl, hc, hcommitted, hrate]
    rfl
  · rw [if_pos (by simp [hs]), if_neg hs]

/-- A committed frame joins the committed queue and takes the wire to its end; a dropped one leaves its queue (R287). -/
theorem launchCommit_leaves {p q tp : Nat} {f : TxFrame} {s : State}
    (h : commitCandidate (settleWire p s) p = some (q, f, tp)) (ha : f.alg = 0) (hs2c : f.s2c = [])
    (hg : grantHolds s f (ftSec (replicaAtPs s tp)) = true) :
    if servable (egressStamp s p tp) = true then
      ((launchCommit p s).ethP p).committedQ =
        (s.ethP p).committedQ ++ [{ commitFields s p f tp with wire := frameBytes (commitFields s p f tp) }] ∧
      ((launchCommit p s).ethP p).wireFree = tp + f.bytes * wirePs (s.ethP p).cfg.rate
    else ((launchCommit p s).ethP p).committedQ = (s.ethP p).committedQ ∧
      tget [] ((launchCommit p s).ethP p).queues q = (tget [] (s.ethP p).queues q).drop 1 := by
  rw [launchCommit_unsigned h ha hs2c hg]
  split
  next => rw [setEthP_ethP_same]; exact ⟨rfl, rfl⟩
  next =>
    obtain ⟨hcommitted, hqueue⟩ := headTaken_settled p q s
    have hdrop := dropFrame_unmetered (headTaken p q (settleWire p s)) f p
    have hqueues : ((dropFrame (headTaken p q (settleWire p s)) f).ethP p).queues = _ := (congrArg Eth.queues hdrop :)
    exact ⟨(congrArg Eth.committedQ hdrop :).trans hcommitted, by rw [hqueues]; exact hqueue⟩

end Sys2Proof.Machine
end
section
/-! SUPPORT. The start, the loss and the drop of a frame: what each event leaves of a port's frames (R288, R289, R418). -/

namespace Sys2Proof.Machine
open Sys2Proof

/-! START_OF_FRAME (R288). -/

/-- What follows the start of a frame returns at most a receive buffer of the ports. -/
theorem afterStart_unmetered (f : TxFrame) (s : State) (p : Nat) :
    unmetered ((afterStart f s).ethP p) = unmetered (s.ethP p) := by
  unfold afterStart
  split
  · exact pushInput_unmetered ..
  · rfl
  · rfl

/-- A committed frame that starts is in flight to its end. -/
theorem startFrame_flies {p : Nat} {f : TxFrame} (h : f.committed.isSome = true) (ps : Nat) (s : State) :
    ∃ w, unmetered ((startFrame p f ps s).ethP p) = unmetered { s.ethP p with
      inFlight := some { f with ends := ps + f.bytes * wirePs (s.ethP p).cfg.rate }, wireFree := w } := by
  unfold startFrame
  dsimp only
  rw [if_pos h, afterStart_unmetered, (countStart_within _ _).ethP_eq (by decide), (filterCount_within _ _ _).ethP_eq (by decide)]
  simp only [perfAdd_ethP]
  generalize ha : s.setEthP p _ = a
  have hport : a.ethP p = _ := (congrArg (State.ethP · p) ha).symm.trans (setEthP_ethP_same ..)
  have hstart (r : Nat × Nat) : (startRecord r a).ethP p = a.ethP p := (startRecord_within r a).ethP_eq (by decide) p
  refine ⟨max (s.ethP p).wireFree (ps + f.bytes * wirePs (s.ethP p).cfg.rate), ?_⟩
  split <;> split <;> simp only [perfAdd_ethP, hstart, hport] <;> rfl

/-- The first committed frame starts once its time has come. -/
theorem startOfFrame_flies {p q tp : Nat} {s : State} {f : TxFrame} {rest : List TxFrame}
    (h : (s.ethP p).committedQ = f :: rest) (hq : f.queue = q) (htp : f.committed = some tp) (hle : tp ≤ s.now * 1000) :
    ((startOfFrame p q s).ethP p).committedQ = rest ∧
      ((startOfFrame p q s).ethP p).inFlight = some { f with ends := tp + f.bytes * wirePs (s.ethP p).cfg.rate } := by
  obtain ⟨k, g, -, hwire⟩ := settleWire_ethP p s
  have hnow : (settleWire p s).now = s.now := (settleWire_within p s).now_eq
  unfold startOfFrame
  dsimp only
  rw [hwire]
  dsimp only
  rw [h]
  dsimp only
  rw [show f.committed.getD 0 = tp by rw [htp]; rfl, if_pos ⟨hq, hnow ▸ hle⟩]
  generalize ht : (settleWire p s).setEthP p _ = t
  have hp : t.ethP p = _ := (congrArg (State.ethP · p) ht).symm.trans (setEthP_ethP_same ..)
  obtain ⟨w, hw⟩ := startFrame_flies (p := p) (f := f) (by rw [htp]; rfl) tp t
  rw [hp] at hw
  exact ⟨(congrArg Eth.committedQ hw :), (congrArg Eth.inFlight hw :)⟩

/-! FRAME_STOMP (R289). -/

/-- A stomped frame without a record is counted once in the profile of its port. -/
theorem stompFrame_stomped {f : TxFrame} (h : f.record = none) (s : State) :
    ((stompFrame s f).prof f.port).stomped = min 4294967295 ((s.prof f.port).stomped + 1) := by
  unfold stompFrame
  rw [h]
  dsimp only
  generalize hb : s.setProf f.port _ = b
  have hprof : (b.prof f.port).stomped = min 4294967295 ((s.prof f.port).stomped + 1) := by
    rw [← hb, setProf_prof_same, satInc_sat32]
  split <;> split <;> exact hprof

/-- The first committed frame of a port is withdrawn. -/
theorem frameStomp_withdraws {p : Nat} {s : State} {f : TxFrame} {rest : List TxFrame}
    (h : (s.ethP p).committedQ = f :: rest) (hp : f.port = p) (hr : f.record = none) :
    ((frameStomp ⟨p, 1⟩ s).ethP p).committedQ = rest ∧
      ((frameStomp ⟨p, 1⟩ s).ethP p).creditUsed = (s.ethP p).creditUsed - f.credit ∧
      ((frameStomp ⟨p, 1⟩ s).prof p).stomped = min 4294967295 ((s.prof p).stomped + 1) := by
  subst hp
  unfold frameStomp
  dsimp only
  rw [h]
  rw [List.getElem?_cons_zero]
  dsimp only [List.eraseIdx_cons_zero, withdraw, returnCredit]
  rw [setEthP_ethP_same, (stompFrame_within _ _).ethP_eq (by decide), setEthP_ethP_same]
  exact ⟨rfl, rfl, stompFrame_stomped hr _⟩

/-! TX_DOWN_DROP (R418). -/

/-- The first frame of a queue of a port that is not up is dropped. -/
theorem txDownDrop_drops {p q : Nat} {s : State} {f : TxFrame} {rest : List TxFrame} (hs : (s.ethP p).state ≠ 3)
    (h : tget [] (s.ethP p).queues q = f :: rest) (hr : f.record = none) :
    tget [] ((txDownDrop p q s).ethP p).queues q = rest ∧
      ((txDownDrop p q s).ethP p).txDownDrops = min 4294967295 ((s.ethP p).txDownDrops + 1) ∧
      ((txDownDrop p q s).ethP p).creditUsed = (s.ethP p).creditUsed - f.credit := by
  unfold txDownDrop
  dsimp only
  rw [h]
  dsimp only
  rw [if_neg hs, hr]
  dsimp only [perfAdd_ethP, returnCredit]
  rw [setEthP_ethP_same, setEthP_ethP_same]
  exact ⟨tget_tset_same [] (s.ethP p).queues q rest, satInc_sat32 _, rfl⟩

/-- Settles O26: messages of the masters above, scheduled messages, and the frames of a port from their record to the wire. -/
theorem upstreamAndTransmissionComplete : Obligations.UpstreamAndTransmissionComplete := by
  unfold Obligations.UpstreamAndTransmissionComplete
  refine ⟨?_, ?_, ?_, ?_, ?_, ?_, ?_, ?_, ?_, ?_, ?_⟩
  · intro n s i p tm b f m a c hn hx hm hb hver hon ha hc
    have h := upIn_of_rx hx hm
    refine goes_unit (decide_eq_true hn) fun _ => ?_
    rw [noteUpVerified_off h ha, upstreamAnnounce_chooses h hb hver hon ha hc]
    have hup {t : State} : ∀ k : Kcp, ({ finishTask n t with kcp := k } : State).upD i = t.upD i :=
      fun _ => (finishTask_within n t).upD_eq (by decide) i
    rw [hup]
    obtain ⟨hcand, hchosen⟩ := choose_setCand i c { (s.upD i).cand c with clock := m.clock, announce := some a, annAt := s.now } s
    exact ⟨hcand, hchosen⟩
  · intro n s i p tm b f m o hn hx hm hb hver hon ha hsome hours
    have h := upIn_of_rx hx hm
    refine goes_unit (decide_eq_true hn) fun _ => ?_
    rw [noteUpVerified_off h ha, upstreamMessage_waits h hb hver hon ha hsome hours]
    exact ((finishTask_within n _).upD_eq (by decide) i).trans (setUpD_upD_same ..)
  · intro n s i p tm b f m kind log dur c hn hx hm hb hver hon ha hc hdur
    have h := upIn_of_rx hx hm
    refine goes_unit (decide_eq_true hn) fun k => ?_
    rw [noteUpVerified_off h ha, upstreamGrant_keeps h hb hver hon ha hc hdur]
    have hup := ((finishTask_within n _).upD_eq (by decide) i).trans (setUpD_upD_same s i ((s.upD i).setCand c { (s.upD i).cand c with
      grants := setBit ((s.upD i).cand c).grants (kindBit kind), denied := false
      grantedAt := tset 0 ((s.upD i).cand c).grantedAt (kindBit kind) s.now
      granted := tset 0 ((s.upD i).cand c).granted (kindBit kind) dur }))
    exact ⟨(congrArg (Up.cand · c) hup).trans (setCand_cand_same ..), (congrArg Up.grantsDenied hup :)⟩
  · rintro i c s p q u hi hc rfl rfl hq hon huni hprio hdue ha hcredit hdesc
    exact goes_unit (decide_eq_true ⟨hi, hc⟩) fun _ => upstreamRenewal_asks hq hon huni hprio hdue ha hcredit hdesc
  · intro i c s hi hc hsome hcur
    exact goes_unit (decide_eq_true ⟨hi, hc⟩) fun _ => announceTimeout_chooses hsome hcur
  · intro i kind s log flow k hv hk hwant hsched hroom
    subst hk
    refine goes_doneHeld fun _ => ?_
    rw [show scheduledMessage (.unicast i kind) s = schedDue (.unicast (s.entry i).key kind) s from if_pos hv]
    exact schedDue_queues hwant hsched hroom
  · intro n s k f d hn hk hf hd h
    obtain ⟨g, hg, hwants, hrecord, hqueue⟩ := recordCreate_settles hk hf hd h
    exact goes_unit (decide_eq_true hn) fun _ => ⟨g, by rw [hg]; exact List.mem_singleton_self g, hwants, hrecord, hqueue⟩
  · intro p s q f tp hp h ha hs2c hg
    refine goes_unit (decide_eq_true hp) fun _ => ?_
    exact launchCommit_leaves h ha hs2c hg
  · intro p q s f rest tp hp hq h hfq hfp htp hle
    exact goes_unit (decide_eq_true ⟨hp, hq⟩) fun _ => startOfFrame_flies h hfq htp hle
  · intro p s f rest hp h hfp hr
    exact goes_unit (decide_eq_true hp) fun _ => frameStomp_withdraws h hfp hr
  · intro p q s f rest hp hq hs h hr
    exact goes_unit (decide_eq_true ⟨hp, hq⟩) fun _ => txDownDrop_drops hs h hr

end Sys2Proof.Machine
end

section
/-! SUPPORT. Engines and threads: what is read after a write, and what an activation, a placement policy and the end of a task
leave of them (R311 to R315, R319, R325, R330). -/

namespace Sys2Proof.Machine
open Sys2Proof

@[simp] theorem setThread_thread_same (s : State) (n : Nat) (x : Thread) : (s.setThread n x).thread n = x := by
  rw [State.thread, State.setThread, setEngine_engine_same, tget_tset_same]

/-- A replaced engine that keeps its threads leaves every thread. -/
theorem setEngine_thread {s : State} {e : Nat} {x : Engine} (h : x.threads = (s.engine e).threads) (n : Nat) :
    (s.setEngine e x).thread n = s.thread n := by
  rw [State.thread, State.thread]
  by_cases hn : n / 8 = e
  · rw [hn, setEngine_engine_same, h]
  · rw [setEngine_engine_other _ _ _ _ hn]

/-- An operation outside the engines leaves each of them. -/
theorem Within.engine_eq {ps : List Part} {s t : State} (h : Within ps s t) (hp : Part.eng ∉ ps) (e : Nat) :
    t.engine e = s.engine e := by
  rw [State.engine, State.engine, show s.eng = t.eng from h.keeps .eng hp]

/-! An activation (R319). -/

/-- The first engine of a running cluster stops admitting. -/
def stopFirst (s : State) (k : Nat) : State :=
  if (s.engine (8 * k)).state = 2 then s.setEngine (8 * k) { s.engine (8 * k) with state := 3 } else s

/-- An activation begins with that in every awake cluster. -/
theorem beginSwitch_eq (s : State) : beginSwitch s = (awakeClusters s).foldl stopFirst s := rfl

theorem stopFirst_same {s : State} {k : Nat} (h : (s.engine (8 * k)).state = 2) :
    ((stopFirst s k).engine (8 * k)).state = 3 := by
  rw [stopFirst, if_pos h, setEngine_engine_same]

theorem stopFirst_other (s : State) {k j : Nat} (h : j ≠ k) : (stopFirst s k).engine (8 * j) = s.engine (8 * j) := by
  unfold stopFirst
  split
  · exact setEngine_engine_other _ _ _ _ (by omega)
  · rfl

/-- An engine that has stopped stays so. -/
theorem stopFirst_stopped {s : State} {j : Nat} (h : (s.engine (8 * j)).state = 3) (k : Nat) :
    ((stopFirst s k).engine (8 * j)).state = 3 := by
  by_cases hj : j = k
  · subst hj
    rwa [stopFirst, if_neg (by rw [h]; decide)]
  · rwa [stopFirst_other s hj]

theorem foldl_stopFirst_stopped (l : List Nat) {s : State} {j : Nat} (h : (s.engine (8 * j)).state = 3) :
    ((l.foldl stopFirst s).engine (8 * j)).state = 3 := by
  induction l generalizing s with
  | nil => exact h
  | cons k l ih => exact ih (stopFirst_stopped h k)

/-- Of every cluster in the list the first engine stops, where it runs. -/
theorem foldl_stopFirst_running {l : List Nat} {s : State} {j : Nat} (hj : j ∈ l) (h : (s.engine (8 * j)).state = 2) :
    ((l.foldl stopFirst s).engine (8 * j)).state = 3 := by
  induction l generalizing s with
  | nil => nomatch hj
  | cons k l ih =>
    by_cases hk : j = k
    · subst hk
      exact foldl_stopFirst_stopped l (stopFirst_same h)
    · exact ih ((List.mem_cons.mp hj).resolve_left hk) (by rwa [stopFirst_other s hk])

/-- When an activation begins, the first engine of each running cluster stops admitting (R319). -/
theorem beginSwitch_stops {s : State} {k : Nat} (hk : k < 12) (h : (s.engine (8 * k)).state = 2) :
    ((beginSwitch s).engine (8 * k)).state = 3 := by
  have hawake : awake s k = true := by rw [awake, h]; rfl
  rw [beginSwitch_eq]
  exact foldl_stopFirst_running (List.mem_filter.mpr ⟨List.mem_range.mpr hk, hawake⟩) h

theorem beginSwitch_activation (s : State) : (beginSwitch s).eng.activation = s.eng.activation := by
  rw [beginSwitch_eq]
  refine foldl_keeps (fun t => t.eng.activation) (fun t k => ?_) _ s
  unfold stopFirst
  split <;> rfl

/-! A placement policy (R330): it stays as it was written, and neither what it starts nor whether it is met depends on the command
processor. -/

/-- An engine begins to wake. -/
def wakeEngine (s : State) (e : Nat) : State := s.setEngine e { s.engine e with state := 1 }

/-- A cluster's wake begins now. -/
def stampWake (c : Nat) (s : State) : State :=
  { s with eng := { s.eng with
      clusters := tset {} s.eng.clusters c { (tget {} s.eng.clusters c : Cluster) with wakeAt := some s.now } } }

theorem wakeCluster_eq (c : Nat) (s : State) : wakeCluster c s =
    if (s.engine (8 * c)).state = 0 ∧ !marching s c then stampWake c ((enginesOf c).foldl wakeEngine s) else s := rfl

/-- A cluster that has to be awake stays, or wakes. -/
def holdAwake (c : Nat) (s : State) : State := wakeCluster c (keepCluster c s)

/-- A pinned cluster is held awake. -/
def holdPinned (s : State) (c : Nat) : State := if pinnedAwake s c then holdAwake c s else s

/-- The clusters that are awake or waking, and do not go fallow. -/
def upClusters (s : State) : Nat := ((List.range 12).filter (fun c =>
  (decide ((s.engine (8 * c)).state ≠ 0) && !(tget {} s.eng.clusters c).fallowing) || marching s c)).length

/-- A cluster is held awake while the floor wants more. -/
def holdFloor (floor : Nat) (s : State) (c : Nat) : State := if upClusters s < floor then holdAwake c s else s

/-- The buckets of a pin start to move to its engine. -/
def movePin (s : State) (p : Pin) : State := (List.range p.count).foldl (fun t i => startMove (p.first + i) p.engine t) s

/-- A policy is written, the clusters it pins and then those its floor wants are held awake, and its pins start their moves. -/
theorem applyPolicy_eq (g : PlaceCfg) (s : State) : applyPolicy g s =
    g.pins.foldl movePin ((List.range 12).foldl (holdFloor g.minAwake) ((List.range 12).foldl holdPinned
      { s with eng := { s.eng with policy := g } })) := rfl

theorem wakeCluster_policy (c : Nat) (s : State) : (wakeCluster c s).eng.policy = s.eng.policy := by
  have hstamp (t : State) : (stampWake c t).eng.policy = t.eng.policy := rfl
  have hwake (t : State) (e : Nat) : (wakeEngine t e).eng.policy = t.eng.policy := rfl
  rw [wakeCluster_eq]
  split
  · rw [hstamp, foldl_keeps (fun t => t.eng.policy) hwake]
  · rfl

theorem keepCluster_policy (c : Nat) (s : State) : (keepCluster c s).eng.policy = s.eng.policy := by
  unfold keepCluster
  split <;> rfl

theorem holdAwake_policy (c : Nat) (s : State) : (holdAwake c s).eng.policy = s.eng.policy := by
  rw [holdAwake, wakeCluster_policy, keepCluster_policy]

theorem holdPinned_policy (s : State) (c : Nat) : (holdPinned s c).eng.policy = s.eng.policy := by
  rw [holdPinned]
  split
  · exact holdAwake_policy c s
  · rfl

theorem holdFloor_policy (n : Nat) (s : State) (c : Nat) : (holdFloor n s c).eng.policy = s.eng.policy := by
  rw [holdFloor]
  split
  · exact holdAwake_policy c s
  · rfl

theorem movePin_policy (s : State) (p : Pin) : (movePin s p).eng.policy = s.eng.policy :=
  foldl_keeps (f := fun t i => startMove (p.first + i) p.engine t) (fun t => t.eng.policy) (fun _ _ => rfl) _ s

theorem applyPolicy_policy (g : PlaceCfg) (s : State) : (applyPolicy g s).eng.policy = g := by
  rw [applyPolicy_eq, foldl_keeps (fun t => t.eng.policy) movePin_policy,
    foldl_keeps (fun t => t.eng.policy) (holdFloor_policy g.minAwake), foldl_keeps (fun t => t.eng.policy) holdPinned_policy]

/-- The state with another command processor. -/
def withKcp (k : Kcp) (s : State) : State := { s with kcp := k }

theorem holdAwake_withKcp (k : Kcp) (c : Nat) (s : State) : holdAwake c (withKcp k s) = withKcp k (holdAwake c s) := by
  have hkeep : keepCluster c (withKcp k s) = withKcp k (keepCluster c s) := by
    rw [keepCluster, keepCluster, apply_ite (withKcp k)]
    rfl
  have hfold (t : State) : (enginesOf c).foldl wakeEngine (withKcp k t) = withKcp k ((enginesOf c).foldl wakeEngine t) :=
    List.foldl_hom (withKcp k) (fun _ _ => rfl)
  have hwake (t : State) : wakeCluster c (withKcp k t) = withKcp k (wakeCluster c t) := by
    rw [wakeCluster_eq, wakeCluster_eq, hfold, apply_ite (withKcp k)]
    rfl
  rw [holdAwake, hkeep, hwake, holdAwake]

theorem holdPinned_withKcp (k : Kcp) (s : State) (c : Nat) : holdPinned (withKcp k s) c = withKcp k (holdPinned s c) := by
  rw [holdPinned, holdPinned, holdAwake_withKcp, apply_ite (withKcp k)]
  rfl

theorem holdFloor_withKcp (n : Nat) (k : Kcp) (s : State) (c : Nat) :
    holdFloor n (withKcp k s) c = withKcp k (holdFloor n s c) := by
  rw [holdFloor, holdFloor, holdAwake_withKcp, apply_ite (withKcp k)]
  rfl

theorem movePin_withKcp (k : Kcp) (s : State) (p : Pin) : movePin (withKcp k s) p = withKcp k (movePin s p) :=
  List.foldl_hom (withKcp k) (fun _ _ => rfl)

theorem applyPolicy_withKcp (g : PlaceCfg) (k : Kcp) (s : State) :
    applyPolicy g (withKcp k s) = withKcp k (applyPolicy g s) := by
  rw [applyPolicy_eq, applyPolicy_eq, ← List.foldl_hom (withKcp k) (movePin_withKcp k),
    ← List.foldl_hom (withKcp k) (holdFloor_withKcp g.minAwake k), ← List.foldl_hom (withKcp k) (holdPinned_withKcp k)]
  rfl

/-- Whether a policy is met once it is put in force does not depend on the number that its command takes. -/
theorem policyMet_applyPolicy_takeId (g : PlaceCfg) (s : State) :
    policyMet (applyPolicy g (takeId s)) = policyMet (applyPolicy g s) := by
  have h : takeId s = withKcp (takeId s).kcp s := rfl
  rw [h, applyPolicy_withKcp]
  rfl

end Sys2Proof.Machine
end

section
/-! SUPPORT. What the commands of group 0x0A and the ends of waits and tasks leave (R311 to R315, R318, R319, R328 to R330). -/

namespace Sys2Proof.Machine
open Sys2Proof

/-! The commands of group 0x0A. -/

/-- A first fragment that is not the last is staged as it came (R318, R328). -/
theorem bodyProgStage_first {c : Cmd} {s : State} (h13 : 13 ≤ c.req.payload.length) (h4080 : c.req.payload.length ≤ 4080)
    (hflags : rd c.req.payload 8 1 = 1) (hz : rd c.req.payload 9 3 = 0) (htotal : rd c.req.payload 4 4 ≤ 24576)
    (hoff : rd c.req.payload 0 4 = 0) (hmore : c.req.payload.length - 12 < rd c.req.payload 4 4)
    (hact : s.eng.activation = none) :
    bodyProgStage c s = ok { s with eng := { s.eng with
      staging := { s.eng.staging with total := rd c.req.payload 4 4, bytes := c.req.payload.drop 12 } } } [] := by
  have hfirst : bit 1 0 = true := rfl
  have hlast : bit 1 1 = false := rfl
  have hidle : ¬s.eng.activation.isSome = true := by rw [hact]; decide
  refine (if_neg (by omega)).trans ((checked_of_all ?_ _ _).trans ((if_neg hidle).trans ?_))
  · simp [zeroAt, *]
    omega
  · rw [hflags]
    rfl

/-- A staged image whose version and state format fit is activated: each awake cluster's first engine stops (R319, R321). -/
theorem bodyProgActivate_starts {c : Cmd} {s : State} {img : SowerImage} (hl : c.req.payload.length = 4)
    (hact : s.eng.activation = none) (himg : s.eng.staging.verified = some img) (hv : rd c.req.payload 0 4 = img.version)
    (hf : img.stateFormat = s.eng.active.stateFormat ∨ anyDomain s = false) :
    bodyProgActivate c s = pend (beginSwitch { s with eng := { s.eng with activation := some img } }) [] := by
  have hfit : ¬(img.stateFormat ≠ s.eng.active.stateFormat ∧ anyDomain s = true) := by
    rintro ⟨hne, hany⟩
    rcases hf with h | h
    · exact hne h
    · simp [h] at hany
  have hidle : ¬s.eng.activation.isSome = true := by rw [hact]; decide
  unfold bodyProgActivate
  dsimp only
  rw [if_neg (not_not.mpr hl), himg]
  exact (if_neg (not_not.mpr hv)).trans ((if_neg hfit).trans (if_neg hidle))

/-- The checks that ENG_PLACEMENT_POLICY makes of pin `i` of a payload (R330). -/
def pinGood (p : List Byte) (n i : Nat) : Prop :=
  rd p (8 + 8 * i) 2 + rd p (10 + 8 * i) 2 < 65536 ∧ rd p (12 + 8 * i) 1 < 96 ∧ rd p (13 + 8 * i) 3 = 0 ∧
    ((pinsOf p n).take i).any (overlap ((pinsOf p n).getD i {})) = false

/-- The checks of pin `i` in the payload's order (R330, R489). -/
def pinChecks (p : List Byte) (n i : Nat) : List (Nat × Bool) :=
  let x := (pinsOf p n).getD i {}
  [(10 + 8 * i, decide (x.first + x.count ≤ 65536)), (12 + 8 * i, decide (x.engine < 96)), zeroAt p (13 + 8 * i) 3,
   (8 + 8 * i, !((pinsOf p n).take i).any (overlap x))]

theorem pinChecks_pass {p : List Byte} {n i : Nat} (hi : i < n) (h : pinGood p n i) : ∀ x ∈ pinChecks p n i, x.2 = true := by
  obtain ⟨hrange, hengine, hzero, hapart⟩ := h
  have hpin : (pinsOf p n).getD i {} = ⟨rd p (8 + 8 * i) 2, rd p (10 + 8 * i) 2 + 1, rd p (12 + 8 * i) 1⟩ := by
    simp [pinsOf, hi]
  rw [pinChecks, hapart, hpin]
  simp [zeroAt, hengine, hzero]
  omega

/-- A policy within its ranges is put in force; its reply waits until it is met (R330). -/
theorem bodyEngPlacementPolicy_applies {c : Cmd} {s : State} {n : Nat} (hn : n = rd c.req.payload 4 1) (h32 : n ≤ 32)
    (hl : c.req.payload.length = 8 + 8 * n) (hflags : rd c.req.payload 0 1 < 2) (hmin : 1 ≤ rd c.req.payload 1 1)
    (hmax : rd c.req.payload 1 1 ≤ 12) (hpinned : rd c.req.payload 2 2 < 4096) (hz : rd c.req.payload 5 3 = 0)
    (hpins : ∀ i ∈ List.range n, pinGood c.req.payload n i) (hheld : s.eng.policyHeld = none) {t : State}
    (ht : t = applyPolicy ⟨bit (rd c.req.payload 0 1) 0, rd c.req.payload 1 1, rd c.req.payload 2 2,
      pinsOf c.req.payload n⟩ s) :
    bodyEngPlacementPolicy c s = if policyMet t then ok t (placeBytes t.eng.policy)
      else held { t with eng := { t.eng with policyHeld := some c.id } } := by
  subst hn ht
  have hidle : ¬s.eng.policyHeld.isSome = true := by rw [hheld]; decide
  refine (if_neg (by omega)).trans ((if_neg (by omega)).trans ((if_neg (by omega)).trans ((if_neg (not_not.mpr hl)).trans
    ((checked_of_all ?_ _ _).trans (if_neg hidle)))))
  refine List.forall_mem_append.mpr ⟨by simp [zeroAt, *], fun x hx => ?_⟩
  obtain ⟨i, hi, hx⟩ := List.mem_flatMap.mp hx
  exact pinChecks_pass (List.mem_range.mp hi) (hpins i hi) x hx

/-! Waits (R314). -/

/-- A wait at its deadline ends with TIMEOUT before its task's limit (R314). -/
theorem waitTimeout_ends {n : Nat} {s : State} {w : Wait} {k : Task} (next : Option (Nat × Nat))
    (hw : (s.thread n).wait = some w) (hk : (s.thread n).task = some k) (hdue : w.deadline ≤ s.now)
    (hlimit : s.now < k.admitted + taskLimit) : waitTimeout n next s = timeOut n next s := by
  unfold waitTimeout
  rw [hw, hk]
  exact if_pos ⟨hdue, hlimit⟩

/-- The wait's class is kept among those whose events have not come, and the timeout is counted. -/
theorem timeOut_leaves {n : Nat} {s : State} {w : Wait} (next : Option (Nat × Nat)) (hw : (s.thread n).wait = some w) :
    (timeOut n next s).thread n =
        beginWait s.now { s.thread n with wait := none, late := (s.thread n).late ++ [w.cls] } next ∧
      (timeOut n next s).eng.waitTimeouts = satInc sat32 s.eng.waitTimeouts := by
  refine ⟨?_, rfl⟩
  unfold timeOut
  dsimp only
  rw [setThread_thread_same, hw]
  rfl

/-- An event of the wait's class ends it up to the deadline (R314). -/
theorem waitEvent_ends {n : Nat} {s : State} {w : Wait} (next : Option (Nat × Nat)) (hw : (s.thread n).wait = some w)
    (h7 : w.cls ≠ 7) (hdue : s.now ≤ w.deadline) :
    waitEvent n w.cls next s = s.setThread n (beginWait s.now { s.thread n with wait := none } next) := by
  unfold waitEvent
  dsimp only
  rw [hw]
  exact (if_neg (by simp [h7])).trans (if_pos hdue)

/-- A wait keeps the task of its thread. -/
theorem beginWait_task (now : Nat) (t : Thread) (next : Option (Nat × Nat)) : (beginWait now t next).task = t.task := by
  unfold beginWait
  split
  · split <;> simp [*]
  · rfl

/-! The abort of a task (R315). -/

theorem foldl_withdrawTag_within (tag : Nat) (l : List Nat) (s : State) :
    Within [.evd, .eth, .regs] s (l.foldl (fun t p => withdrawTag tag p t) s) :=
  Within.foldl (fun t p => withdrawTag_within tag p t) l (Within.refl _ s)

/-- What a cleared task's thread and the counter of aborts are left as. -/
theorem clearTask_leaves {n : Nat} {s : State} {k : Task} (hk : (s.thread n).task = some k) :
    (clearTask n s).thread n = idleThread s.now (s.thread n).late ∧
      (clearTask n s).eng.taskAborts = s.eng.taskAborts := by
  have hw : Within [.evd, .eth, .regs] s (freeRx k.msg (returnCredit k.port k.credit k.desc
      ((List.range 16).foldl (fun t p => withdrawTag k.tag p t) s))) :=
    Within.op (freeRx_within _ _) rfl (Within.op (returnCredit_within _ _ _ _) rfl (foldl_withdrawTag_within _ _ _))
  have heng := hw.keeps .eng (by decide)
  unfold clearTask
  rw [hk]
  dsimp only
  generalize freeRx k.msg _ = b at hw heng
  constructor
  · rw [(perfAdd_within _ _ _).thread_eq (by decide)]
    refine (setEngine_thread (by rfl) n).trans ?_
    rw [setThread_thread_same, hw.now_eq, hw.thread_eq (by decide)]
  · exact (congrArg Eng.taskAborts heng.symm :)

/-- A task at its limit is aborted (R315). -/
theorem taskAbort_leaves {n : Nat} {s : State} {k : Task} (hk : (s.thread n).task = some k)
    (hlimit : k.admitted + taskLimit ≤ s.now) :
    (taskAbort n s).thread n = idleThread s.now (s.thread n).late ∧
      (taskAbort n s).eng.taskAborts = satInc sat32 s.eng.taskAborts := by
  obtain ⟨hthread, hcount⟩ := clearTask_leaves hk
  unfold taskAbort
  rw [hk]
  dsimp only
  rw [if_pos hlimit, ← hcount]
  exact ⟨hthread, rfl⟩

/-! Admission (R311, R312). -/

theorem settleWire_setEngine (p : Nat) (s : State) (e : Nat) (x : Engine) :
    settleWire p (s.setEngine e x) = (settleWire p s).setEngine e x := by
  unfold settleWire
  dsimp only
  rw [setEngine_ethP]
  cases (s.ethP p).inFlight with
  | none => rfl
  | some f =>
    dsimp only
    rw [apply_ite (fun t : State => t.setEngine e x)]
    rfl

/-- Whether a port has credit for a message's output, in the queue of its tag, is the same once the message is taken from its
engine's queue. -/
theorem creditFor_setEngine (s : State) (e : Nat) (x : Engine) (p d units : Nat) :
    creditFor (settleWire p (s.setEngine e x)) p units (tagOf (settleWire p (s.setEngine e x)) p d).pcp =
      creditFor (settleWire p s) p units (tagOf s p d).pcp := by
  have hport : (settleWire p (s.setEngine e x)).ethP p = (settleWire p s).ethP p := by
    rw [settleWire_setEngine, setEngine_ethP]
  obtain ⟨_, _, _, hwire⟩ := settleWire_ethP p s
  have htags : tagOf (settleWire p (s.setEngine e x)) p d = tagOf s p d := by
    rw [tagOf, hport, hwire, tagOf]
  rw [htags, creditFor, hport, creditFor]

theorem freeThread_lt {s : State} {e i : Nat} (h : freeThread s e = some i) : i < 8 :=
  List.mem_range.mp (List.mem_of_find?_eq_some h)

/-- A message without credit for its output is dropped and counted (R311). -/
def refuseWaiting (w : Waiting) (t : State) : State :=
  freeRx w.msg { t with eng := { t.eng with admitDrops := satInc sat32 t.eng.admitDrops } }

/-- A message becomes the task of a thread, with credit on a port and a descriptor of a queue (R311, R405). -/
def startTask (w : Waiting) (p q units n : Nat) (wait : Option (Nat × Nat)) (t : State) : State :=
  let u := t.setEthP p { t.ethP p with
    creditUsed := (t.ethP p).creditUsed + units, descUsed := tset 0 (t.ethP p).descUsed q (tget 0 (t.ethP p).descUsed q + 1) }
  let k : Task := { msg := w.msg, bucket := w.bucket, port := p, credit := units, desc := some q, admitted := u.now
                    counted := u.now, tag := u.eng.nextTag, ntsSlot := currentNts u }
  let v := { u with eng := { u.eng with nextTag := u.eng.nextTag + 1 } }
  v.setThread n (beginWait v.now { task := some k, late := (v.thread n).late } wait)

/-- TASK_ADMIT takes the first message that may start from its queue; with credit for its output it is the task of the lowest
free thread, without it is dropped (R311, R312). -/
theorem taskAdmit_eq {e i : Nat} {s : State} {x : Waiting} {rest : List Waiting} {p d : Nat} (wait : Option (Nat × Nat))
    (hrun : (s.engine e).state = 2) (hup : s.eng.restarting = none) (hi : freeThread s e = some i)
    (hx : firstReady s (s.engine e).input = some (x, rest)) (hout : outputOf x.msg = (p, d)) {t : State}
    (ht : t = settleWire p (s.setEngine e { s.engine e with input := rest })) :
    taskAdmit e wait s =
      if creditFor t p (Config.declaredOutput (s.engine e).image.version (msgKind x.msg)) (tagOf t p d).pcp then
        startTask x p (tagOf t p d).pcp (Config.declaredOutput (s.engine e).image.version (msgKind x.msg)) (8 * e + i) wait t
      else refuseWaiting x t := by
  have hgo : ¬((s.engine e).state ≠ 2 ∨ s.eng.restarting.isSome = true) := by simp [hrun, hup]
  subst ht
  unfold taskAdmit
  dsimp only
  rw [if_neg hgo, hi, hx]
  dsimp only
  rw [hout]
  dsimp only
  cases creditFor _ _ _ _ <;> rfl

theorem refuseWaiting_leaves (w : Waiting) (t : State) (e : Nat) :
    (refuseWaiting w t).engine e = t.engine e ∧ (refuseWaiting w t).eng.admitDrops = satInc sat32 t.eng.admitDrops := by
  have hfree := freeRx_within w.msg { t with eng := { t.eng with admitDrops := satInc sat32 t.eng.admitDrops } }
  exact ⟨hfree.engine_eq (by decide) e, (congrArg Eng.admitDrops (hfree.keeps .eng (by decide)).symm :)⟩

theorem startTask_leaves (w : Waiting) (p q units n : Nat) (wait : Option (Nat × Nat)) (t : State) :
    ((startTask w p q units n wait t).engine (n / 8)).input = (t.engine (n / 8)).input ∧
      ((startTask w p q units n wait t).thread n).task.map (fun k => (k.msg, k.bucket, k.admitted)) =
        some (w.msg, w.bucket, t.now) := by
  unfold startTask
  dsimp only
  rw [setThread_thread_same, beginWait_task, State.setThread, setEngine_engine_same]
  exact ⟨rfl, rfl⟩

/-- Either way the message has left its queue. -/
theorem taskAdmit_leaves {e i : Nat} {s : State} {x : Waiting} {rest : List Waiting} {p d : Nat} (wait : Option (Nat × Nat))
    (hrun : (s.engine e).state = 2) (hup : s.eng.restarting = none) (hi : freeThread s e = some i)
    (hx : firstReady s (s.engine e).input = some (x, rest)) (hout : outputOf x.msg = (p, d)) :
    ((taskAdmit e wait s).engine e).input = rest ∧
      if creditFor (settleWire p s) p (Config.declaredOutput (s.engine e).image.version (msgKind x.msg)) (tagOf s p d).pcp
      then ((taskAdmit e wait s).thread (8 * e + i)).task.map (fun k => (k.msg, k.bucket, k.admitted)) =
        some (x.msg, x.bucket, s.now)
      else (taskAdmit e wait s).eng.admitDrops = satInc sat32 s.eng.admitDrops := by
  have hdiv : (8 * e + i) / 8 = e := by have := freeThread_lt hi; omega
  have hw := settleWire_within p (s.setEngine e { s.engine e with input := rest })
  have hinput := congrArg Engine.input ((hw.engine_eq (by decide) e).trans (setEngine_engine_same ..))
  rw [← creditFor_setEngine s e { s.engine e with input := rest }, taskAdmit_eq wait hrun hup hi hx hout rfl]
  generalize settleWire p (s.setEngine e { s.engine e with input := rest }) = t at hw hinput ⊢
  split
  · obtain ⟨hkept, htask⟩ := startTask_leaves x p (tagOf t p d).pcp
      (Config.declaredOutput (s.engine e).image.version (msgKind x.msg)) (8 * e + i) wait t
    rw [hdiv] at hkept
    exact ⟨hkept.trans hinput, htask.trans (by rw [hw.now_eq]; rfl)⟩
  · obtain ⟨hkept, hdrops⟩ := refuseWaiting_leaves x t e
    have hcount := (congrArg Eng.admitDrops (hw.keeps .eng (by decide)).symm :)
    exact ⟨(congrArg Engine.input hkept).trans hinput, hdrops.trans (congrArg (satInc sat32) hcount)⟩

end Sys2Proof.Machine
end

section
/-! SUPPORT. Group 0x0A and the task events, each from its conditions (R308 to R331). -/

namespace Sys2Proof.Machine
open Sys2Proof

/-- A command row whose body leaves the command processor and holds its reply. -/
theorem goes_of_held_within {ps : List Part} {op : Nat} {body : Body} {rq : Request} {s u : State} {P : State → Prop}
    (h : runs op rq s = true) (hb : body (rowCmd op rq s) (takeId s) = held u) (hw : Within ps (takeId s) u)
    (hk : Part.kcp ∉ ps) (hP : ∀ k : Kcp, Held op rq s { u with kcp := k } → P { u with kcp := k }) :
    Goes (kcpRow op (leastPriv s op rq.payload) body rq s) P := by
  refine goes_of_held h hb fun t ht hsl => ?_
  have hkcp : (takeId s).kcp = u.kcp := hw.keeps .kcp hk
  rw [ht]
  refine hP t.kcp ?_
  rw [Held, hsl, hw.now_eq, ← hkcp]
  rfl

/-- A written policy goes into force; the command answers at once where it is met, or is held (R330). -/
theorem goes_engPlacementPolicy {rq : Request} {s : State} {g : PlaceCfg} (h : runs 0x0A04 rq s = true)
    (hb : bodyEngPlacementPolicy (rowCmd 0x0A04 rq s) (takeId s) =
      if policyMet (applyPolicy g (takeId s)) then
        ok (applyPolicy g (takeId s)) (placeBytes (applyPolicy g (takeId s)).eng.policy)
      else held { applyPolicy g (takeId s) with
        eng := { (applyPolicy g (takeId s)).eng with policyHeld := some s.kcp.nextId } }) :
    Goes (exec (.engPlacementPolicy rq) s) (fun t => t.eng.policy = g ∧
      if policyMet (applyPolicy g s) then Answered 0x0A04 rq (placeBytes g) s t
      else Held 0x0A04 rq s t ∧ t.eng.policyHeld = some s.kcp.nextId) := by
  have hg := applyPolicy_policy g (takeId s)
  rw [policyMet_applyPolicy_takeId, hg] at hb
  split
  next hmet =>
    rw [if_pos hmet] at hb
    exact goes_of_ok_body bodyEngPlacementPolicy_within (by decide) h hb fun _ ha => ⟨hg, ha⟩
  next hunmet =>
    rw [if_neg hunmet] at hb
    have hw := bodyEngPlacementPolicy_within (rowCmd 0x0A04 rq s) (takeId s)
    rw [hb] at hw
    exact goes_of_held_within h hb hw (by decide) fun _ ha => ⟨hg, ha, rfl⟩

/-- Settles O27: the commands of group 0x0A, and the admission, the waits and the end of tasks. -/
theorem enginesAndTasksComplete : Obligations.EnginesAndTasksComplete := by
  unfold Obligations.EnginesAndTasksComplete
  refine ⟨?_, ?_, ?_, ?_, ?_, ?_, ?_, ?_, ?_, ?_⟩
  · intro rq s h hp
    exact kcpRow_reads _ _ rq s _ h (if_pos (congrArg List.length hp))
  · intro rq s h h13 h4080 hflags hz htotal hoff hmore hact
    exact goes_of_ok_body bodyProgStage_within (by decide) h
      (bodyProgStage_first h13 h4080 hflags hz htotal hoff hmore hact) fun _ ha => ⟨rfl, ha⟩
  · intro rq s img h hl hact himg hv hf
    refine goes_of_pend_body bodyProgActivate_within (by decide) h (bodyProgActivate_starts hl hact himg hv hf) fun _ ha => ?_
    exact ⟨beginSwitch_activation _, ha, fun k hk hrun => beginSwitch_stops (List.mem_range.mp hk) hrun⟩
  · rintro rq s n g h hn h32 hl hflags hmin hmax hpinned hz hpins hheld rfl
    subst hn
    exact goes_engPlacementPolicy h (bodyEngPlacementPolicy_applies (c := rowCmd 0x0A04 rq s) (s := takeId s) rfl h32 hl hflags
      hmin hmax hpinned hz hpins hheld rfl)
  · intro rq s h hp
    exact kcpRow_reads _ _ rq s _ h (if_pos (congrArg List.length hp))
  · intro e w s i x rest he hrun hup hi hx hrest
    obtain ⟨⟨x', rest'⟩, hready, rfl⟩ := Option.map_eq_some_iff.mp hx
    obtain rfl : rest' = rest := by simpa [hready] using hrest
    refine goes_unit (decide_eq_true he) fun _ => ?_
    rw [← satInc_sat32]
    exact taskAdmit_leaves w hrun hup hi hready rfl
  · rintro n k next s w hn hw rfl h7 hdue
    refine goes_unit (decide_eq_true hn) fun _ => ?_
    rw [waitEvent_ends next hw h7 hdue]
    exact ⟨setThread_thread_same .., rfl⟩
  · intro n next s w k hn hw hk hdue hlimit
    refine goes_unit (decide_eq_true hn) fun _ => ?_
    rw [waitTimeout_ends next hw hk hdue hlimit, ← satInc_sat32]
    exact timeOut_leaves next hw
  · intro n s k hn hk hlimit
    refine goes_unit (decide_eq_true hn) fun _ => ?_
    rw [← satInc_sat32]
    exact taskAbort_leaves hk hlimit
  · intro s hd
    refine goes_done fun _ => ?_
    rw [stallCensus, if_neg (by simp [hd])]
    exact ⟨rfl, rfl, rfl⟩

end Sys2Proof.Machine
end

section
/-! SUPPORT. The refutation of O28: a cluster that wakes holds no wait's class from before it went fallow (R314, R325). -/

namespace Sys2Proof.Machine
open Sys2Proof

/-- Cluster 0 wakes; a wait of its thread 0 on event class 3 ended with TIMEOUT before the cluster went fallow, and its event
has not come. -/
def wakingCluster : State :=
  ((enginesOf 0).foldl wakeEngine State.reset).setThread 0 { late := [3] }

/-- With its wake complete, the thread is idle and expects no such event. -/
theorem wakeComplete_wakingCluster_thread : (wakeComplete 0 wakingCluster).thread 0 = idleThread 0 [] := by decide

/-- WAKE_COMPLETE leaves that thread so. -/
theorem exec_wakeComplete_wakingCluster :
    Goes (exec (.wakeComplete 0) wakingCluster) (fun t => t.thread 0 = idleThread 0 []) := by
  change Goes (guardUnit (decide (0 < 12)) wakingCluster (doneHeld wakingCluster (wakeComplete 0 wakingCluster))) _
  have h := wakeComplete_wakingCluster_thread
  generalize wakeComplete 0 wakingCluster = t at h ⊢
  exact goes_doneHeld fun _ => h

/-- Refutes O28: its clause on WAKE_COMPLETE says that a waking cluster's threads keep the classes of their waits that ended with
TIMEOUT, but a fallow cluster's data memory is not kept (R325), and its threads start anew with none. The clause has no
hypothesis that excludes a thread that still had one. -/
theorem not_placementAndArbitersComplete : ¬ Obligations.PlacementAndArbitersComplete := by
  unfold Obligations.PlacementAndArbitersComplete
  rintro ⟨-, -, -, -, -, -, hwake, -⟩
  obtain ⟨t, ht, -, hthreads, -⟩ := hwake 0 wakingCluster (by decide) (by decide)
  obtain ⟨u, hu, hthread⟩ := exec_wakeComplete_wakingCluster
  obtain rfl := Host.Outcome.next.inj (hu.symm.trans ht)
  have hkept := hthreads 0 (by decide)
  rw [hthread] at hkept
  exact absurd hkept (by decide)

end Sys2Proof.Machine
end

section
/-! SUPPORT. Every row goes on (log entry 5); what ECHO and GET_GENERATION answer (R494, R495). -/

namespace Sys2Proof.Machine
open Sys2Proof

/-- An event at a numbered unit goes on where the module has the unit, and elsewhere leaves the state. -/
theorem guardUnit_goes {ok : Bool} {s s' : State} : ∃ t, guardUnit ok s (.next s') = .next t := by
  cases ok
  · exact ⟨s, rfl⟩
  · exact ⟨s', rfl⟩

/-- Every row goes on. -/
theorem exec_goes (i : Instr) (s : State) : ∃ t, exec i s = .next t := by
  cases i with
  | timCalVerifyEnd _ _ | loopMeasureEnd _ _ | bistEnd _ _ | cmdSqTailWrite _ _ | cmdCqHeadWrite _ _
  | cmdRingCfgWrite _ _ | classLock _ | ringQuiesce _ | cmdRingStatClear _ _ | irqInsvcAck _ _ _
  | fltStatusClear _ _ _ | perfOvfClear _ _ | registerWrite _ _ _ | commandAccept _ _ | commandExecute _
  | replyDeliver _ _ | msixUnmask _ | measuredEdge _ _ _ _ | conversionEnd _ _ _ _ | channelLockWindow _ _ _
  | refreshStart _ | refreshComplete _ _ | tableReplace _ | interpolatorSelfcheck _ _ | acquisitionDwell _ _ _ _ _
  | trackingLoss _ _ | multipathFit _ _ | ephemerisAdopt _ | refEvent _ _ | activityWindowClose _
  | uartMessage _ _ _ | uartLabelTimeout _ | wtrExpiry _ | memberJoin _ | tempRead _ _ | frameReceive _ _
  | claimWord _ _ | slotMeasurementReport _ _ | boutEpoch _ | burstBuild _ | downstreamBurst _ _ | upstreamLaunch _
  | upstreamBurst _ _ | leafDecision _ _ | searchTimeout _ | listenTimeout _ | leanAfterIdle _ | calRunStart _
  | calMeasurement _ _ | calRunEnd _ | calApply _ | mailboxTlv _ _ _ _ _ | mailboxResend _ | ethFrameReceive _ _
  | taskAdmit _ _ | arpRequest _ | requestUnicastTransmission _ | cancelUnicastTransmission _ | delayReq _
  | announceReceived _ | grantExpiry _ | ntpRequest _ | ntsRequest _ | upstreamMessage _ | upstreamAnnounce _
  | upstreamRenewal _ _ | launchCommit _ | startOfFrame _ _ | frameStomp _ | txDownDrop _ _ | waitEvent _ _ _
  | waitTimeout _ _ | taskAbort _ | engineSwitch _ | bucketMove _ | clusterWake _ _ | clusterFallow _ _
  | recordCreate _ | recordResolve _ _ | ethLinkUp _ _ _ | ethLinkDown _ | autoNegotiation _ _ | lpiReceived _
  | pauseFrame _ _ _ _ | pauseWdog _ | pauseIgnoreExit _ | phaseSample _ _ _ | arbiterGrant _ _ | scrubBurst _
  | apllLock _ | apllUnlock _ _ | outputResume _ | ppsEdge _ | sampleClockStart _ | epochStartMarker _
  | irqDelivery _ | parityCheck _ | mirrorWrite _ | tempCrit _ _ | lnavSubframe _ _ | bitSynchronisation _
  | wakeComplete _ | announceTimeout _ _ | upstreamGrant _ | pauseExpiry _ _ => exact guardUnit_goes
  | trialFallback tileS => cases tileS <;> exact ⟨_, rfl⟩
  | activationRestart =>
    change ∃ t, execActivationRestart s = .next t
    unfold execActivationRestart
    split <;> exact ⟨_, rfl⟩
  | _ => exact ⟨_, rfl⟩

/-- Settles O4: each row's meaning is a next state, and furrow port 1,024 is none of the module's. -/
theorem commandsGoOn : Obligations.CommandsGoOn := ⟨exec_goes, fun _ => rfl⟩

/-- Settles O1: a step takes the front of the queue by definition. -/
theorem stepRunsTheFront : Obligations.StepRunsTheFront := fun _ _ _ => rfl

/-- Settles O8: the body answers the payload and leaves the state. -/
theorem echoReturnsItsPayload : Obligations.EchoReturnsItsPayload :=
  ⟨fun rq s h => kcpRow_reads 0x0003 bodyEcho rq s rq.payload h rfl, fun _ => rfl⟩

/-! GET_GENERATION (R495). -/

/-- Record `i` of records of one length that stand one after another. -/
theorem take_drop_flatMap_range {f : Nat → List Byte} {w : Nat} (hf : ∀ i, (f i).length = w) {n i : Nat} (h : i < n) :
    (((List.range n).flatMap f).drop (w * i)).take w = f i := by
  induction n with
  | zero => exact absurd h (Nat.not_lt_zero i)
  | succ n ih =>
    have hlen : ((List.range n).flatMap f).length = w * n := by
      simp [List.length_flatMap, hf, Nat.mul_comm]
    rw [List.range_succ, List.flatMap_append, List.flatMap_singleton]
    rcases Nat.lt_succ_iff_lt_or_eq.mp h with hi | rfl
    · have hle : w * i + w ≤ w * n := by rw [← Nat.mul_succ]; exact Nat.mul_le_mul_left w hi
      rw [List.drop_append_of_le_length (by omega), List.take_append_of_le_length (by rw [List.length_drop]; omega), ih hi]
    · rw [← hlen, List.drop_left, List.take_of_length_le (hf i).le]

/-- A command that is refused for its payload's length: only its reply differs (R489). -/
theorem kcpRow_badLen {op : Nat} {body : Body} {rq : Request} {s : State} (h : runs op rq s = true)
    (hb : body (rowCmd op rq s) (takeId s) = badLen (takeId s)) :
    kcpRow op (leastPriv s op rq.payload) body rq s = .next { s with kcp := { s.kcp with
      nextId := s.kcp.nextId + 1
      replies := s.kcp.replies ++ [⟨s.kcp.nextId, rq.src, op, rq.tag, stBAD, 0xFF, s.kcp.g, [], s.now⟩] } } := by
  have hlost : (rowCmd op rq s).lost = false := rfl
  have hok : (stBAD == stOK) = false := rfl
  rw [kcpRow_runs op body rq s h, hb]
  simp only [conclude, badLen, addReply, hlost, hok, Bool.and_false, Bool.or_false, Bool.false_eq_true, if_false]
  rfl

/-- Settles O9: G's eight bytes stand before the eighteen records of the group generations. -/
theorem generationReply : Obligations.GenerationReply := by
  intro rq s h
  refine ⟨fun hp => ⟨_, kcpRow_reads 0x0006 bodyGetGeneration rq s _ h (if_neg (not_not.mpr hp)), ?_, ?_, fun g hg => ?_⟩,
    fun hp => kcpRow_badLen h (if_pos hp)⟩
  · simp [List.length_flatMap]
  · exact List.take_left' (le_length 8 _)
  · rw [← List.drop_drop, List.drop_left' (le_length 8 _)]
    exact take_drop_flatMap_range (fun i => le_length 8 _) hg

end Sys2Proof.Machine
end

section
/-! SUPPORT. A ROLE that follows the claims (R427), and the queue: the relation between the states before and after an operation,
how it composes, and the operations of the tandem pair under it. -/

-- One theorem after another: elaborated side by side, their proofs wait on one another in dozens of threads.
set_option Elab.async false

namespace Sys2Proof.Machine
open Sys2Proof

/-- ROLE is what the claims make it (R427). -/
def RoleStands (s : State) : Prop := s.tan.role = roleOf s

/-- What ROLE is read from, and ROLE. -/
def roleView (x : Tan) : Bool × Nat × Nat × Nat := (bit x.cfg.flags 0, x.own, x.partner, x.role)

theorem roleStands_congr {s t : State} (h : roleView t.tan = roleView s.tan) : RoleStands t ↔ RoleStands s := by
  simp only [roleView, Prod.mk.injEq] at h
  obtain ⟨hon, hown, hpartner, hrole⟩ := h
  simp only [RoleStands, roleOf, tanOn, hon, hown, hpartner, hrole]
  exact Iff.rfl

/-- Between two states the queue is as it was, and a ROLE that followed the claims still does. -/
structure Follows (s t : State) : Prop where
  queue : t.pending = s.pending
  role : RoleStands s → RoleStands t

namespace Follows
variable {s t u : State}

theorem refl (s : State) : Follows s s := ⟨rfl, id⟩

theorem trans (h : Follows s t) (k : Follows t u) : Follows s u := ⟨k.queue.trans h.queue, k.role ∘ h.role⟩

/-- A last change. -/
theorem step (k : Follows t u) (h : Follows s t) : Follows s u := h.trans k

/-- A change outside the tandem pair. -/
theorem within {ps : List Part} (h : Within ps s t) (hp : .tan ∉ ps := by decide) : Follows s t :=
  ⟨h.2.1, (roleStands_congr (congrArg roleView (h.keeps .tan hp).symm)).mpr⟩

/-- A last change outside the tandem pair. -/
theorem op {ps : List Part} (k : Within ps t u) (h : Follows s t) (hp : .tan ∉ ps := by decide) : Follows s u :=
  h.trans (.within k hp)

/-- A change that ends with ROLE settled. -/
theorem settles {ps : List Part} (h : Within ps s t) (k : RoleStands t) : Follows s t := ⟨h.2.1, fun _ => k⟩

/-- A record update that leaves the queue, the claims, ENABLE and ROLE. -/
theorem lit {now_ : Nat} {acc_ : FieldTime} {free_ : Nat} {utc_ : Utc} {bus_ : Bus} {tim_ : Tim} {gnss_ : Gnss} {ref_ : Ref}
    {sel_ : Sel} {osc_ : Osc} {bnd_ : Bnd} {log_ : EventLog} {sealing_ : Seal} {fur_ : Fur} {svc_ : Svc} {eng_ : Eng}
    {key_ : Key} {evd_ : Evd} {eth_ : Tbl Eth} {arb_ : Arb} {tan_ : Tan} {syn_ : Syn} {kcp_ : Kcp} {regs_ : Regs}
    {pwr_ : Pwr} {tst_ : Tst} {pending_ : List Instr} (h : Follows s t)
    (hq : pending_ = t.pending := by exact rfl) (hv : roleView tan_ = roleView t.tan := by exact rfl) :
    Follows s ⟨now_, acc_, free_, utc_, bus_, tim_, gnss_, ref_, sel_, osc_, bnd_, log_, sealing_, fur_, svc_, eng_,
      key_, evd_, eth_, arb_, tan_, syn_, kcp_, regs_, pwr_, tst_, pending_⟩ :=
  h.trans ⟨hq, (roleStands_congr hv).mpr⟩

/-- The tandem pair's state is replaced by one of the same claims, ENABLE and ROLE. -/
theorem setTan {x : Tan} (h : Follows s t) (hv : roleView x = roleView t.tan := by exact rfl) : Follows s (t.setTan x) :=
  .lit h rfl hv

/-- A choice between two changes. -/
theorem ite {c : Prop} [Decidable c] (h : Follows s t) (k : Follows s u) : Follows s (if c then t else u) := by
  split <;> assumption

/-- A choice between two answers. -/
theorem iteSt {c : Prop} [Decidable c] {a b : Res} (h : Follows s a.st) (k : Follows s b.st) :
    Follows s (if c then a else b).st := by split <;> assumption

/-- A change for each element of a list, after another. -/
theorem foldl {α : Type} {f : State → α → State} (h : ∀ t a, Follows t (f t a)) (l : List α) (k : Follows s t) :
    Follows s (l.foldl f t) := by
  induction l generalizing t with
  | nil => exact k
  | cons a l ih => exact ih (k.trans (h t a))

/-- A body behind the checks of its payload (R489). -/
theorem checked {cs : List (Nat × Bool)} {k : Res} (h : Follows s k.st) : Follows s (checked s cs k).st := by
  unfold Machine.checked
  split
  · exact .refl s
  · exact h

/-- The end of a command (R486, R488). -/
theorem conclude {c : Cmd} {r : Res} (h0 : Follows s t) (h : Follows s r.st) : Follows s (conclude c t r) :=
  have hg : Follows s (commitG t r.st) := .op (commitG_within ..) h
  .ite (.lit hg) (.ite (.op (addReply_within ..) hg) (.ite (.op (addReply_within ..) hg)
    (.op (addReply_within ..) (.ite h h0))))

/-- The answer of a held command (R16). -/
theorem answerHeld {id : Nat} {f : Cmd → State → Res} (h : Follows s t) (hf : ∀ c u, Follows u (f c u).st) :
    Follows s (answerHeld id f t) := by
  unfold Machine.answerHeld
  split
  · exact h
  · exact .conclude (.lit h) ((Follows.lit h).trans (hf _ _))

/-- A command that runs (R470, R487). -/
theorem runCmd {body : Body} {c : Cmd} (hb : ∀ c t, Follows t (body c t).st) : Follows s (runCmd body c s) :=
  .ite (.within (addReply_within ..)) (.conclude (.refl s) (hb ..))

end Follows

/-! The claims and ROLE (R425 to R428). -/

theorem settleRole_stands (s : State) : RoleStands (settleRole s) := rfl

theorem decideClaim_stands (s : State) : RoleStands (decideClaim s) := settleRole_stands _

theorem tanConds_stands {s : State} (h : RoleStands s) : RoleStands (tanConds s) :=
  (Follows.within (tanConds_within s)).role h

theorem decideClaim_follows (s : State) : Follows s (decideClaim s) := .settles (decideClaim_within s) (decideClaim_stands s)

theorem settleRole_follows (s : State) : Follows s (settleRole s) := .settles (settleRole_within s) (settleRole_stands s)

theorem setDriving_follows (v : Bool) (s : State) : Follows s (setDriving v s) := .ite (.refl s) (.setTan (.refl s))

theorem claimCheck_follows (words : List (List Nat)) (s : State) : Follows s (claimCheck words s) := by
  have hw := claimCheck_within words s
  unfold claimCheck at hw ⊢
  split at hw
  next h => exact if_pos h ▸ .refl s
  next h => exact if_neg h ▸ .settles hw (tanConds_stands (settleRole_stands _))

theorem claimFrame_follows (bytes : Option (List Byte)) (s : State) : Follows s (claimFrame bytes s) := by
  unfold claimFrame
  refine .ite (.refl s) (.op (tanConds_within _) ?_)
  split
  · exact .step (settleRole_follows _) (.setTan (.refl s))
  · exact .step (settleRole_follows _) (.setTan (.refl s))

theorem comparisonOut_follows (s : State) : Follows s (comparisonOut s) := .setTan (.refl s)

theorem claimSend_follows (s : State) : Follows s (claimSend s) :=
  .ite (.setTan (.refl s)) (.foldl (fun _ _ => .answerHeld (.refl _) fun _ _ => .refl _) _ (.setTan (.refl s)))

theorem sharedDriverEnable_follows (s : State) : Follows s (sharedDriverEnable s) := by
  unfold sharedDriverEnable
  split
  · exact .ite (.step (setDriving_follows _ _) (.foldl (fun _ _ => .within (holdLow_within ..)) _ (.setTan (.refl s))))
      (.refl s)
  · exact .refl s

theorem tandemReport_follows (s : State) : Follows s (tandemReport s) := .ite (.refl s) (.setTan (.lit (.refl s)))

theorem mirrorFrame_follows (bytes : Option (List Byte)) (s : State) : Follows s (mirrorFrame bytes s) := by
  unfold mirrorFrame
  split
  · exact .setTan (.refl s)
  · exact .refl s

theorem tandemEvent_follows (w : TimeWord) (s : State) : Follows s (tandemEvent w s) := by
  unfold tandemEvent
  split
  · exact .refl s
  · exact .op (tileEvent_within ..) (.setTan (.refl s))

theorem timeWord_follows (bytes : Option (List Byte)) (s : State) : Follows s (timeWord bytes s) := by
  unfold timeWord
  split
  · exact .step (tandemEvent_follows _ _) (.setTan (.refl s))
  · exact .refl s

theorem rejoinHoldExpiry_follows (s : State) : Follows s (rejoinHoldExpiry s) := by
  unfold rejoinHoldExpiry
  dsimp only
  split
  · exact .ite (.step (decideClaim_follows _) (.setTan (.refl s))) (.refl s)
  · exact .refl s

theorem tandemVerdict_follows (s : State) : Follows s (tandemVerdict s) :=
  .ite (.refl s) (.step (decideClaim_follows _) (.setTan (.refl s)))

theorem tandemCompare_follows (disagree : Bool) (s : State) : Follows s (tandemCompare disagree s) :=
  .ite (.ite (.step (tandemVerdict_follows _) (.op (setSticky_within ..) (.setTan (.setTan (.refl s))))) (.setTan (.refl s)))
    (.setTan (.refl s))

theorem tandemCompute_follows (s : State) : Follows s (tandemCompute s) := by
  unfold tandemCompute
  refine .ite (.refl s) ?_
  dsimp only
  split
  · exact .step (tandemCompare_follows _ _) (.setTan (.refl s))
  · exact .setTan (.refl s)

/-! Commands of group 0x0D (R441 to R444). -/

theorem putTan_follows (c : TanCfg) (s : State) : Follows s (putTan c s) :=
  .settles (putTan_within c s) (tanConds_stands (decideClaim_stands _))

theorem bodyTanConfig_follows (c : Cmd) (s : State) : Follows s (bodyTanConfig c s).st :=
  .iteSt (.refl s) <| .iteSt (.refl s) <| .checked <| .iteSt (.refl s) <| .iteSt (.refl s) (putTan_follows _ s)

theorem bodyTanClaimSet_follows (c : Cmd) (s : State) : Follows s (bodyTanClaimSet c s).st :=
  .iteSt (.refl s) <| .checked <| .iteSt (.refl s) <| .iteSt (.refl s) (.step (decideClaim_follows _) (.setTan (.refl s)))

theorem bodyTanCompareLimits_follows (c : Cmd) (s : State) : Follows s (bodyTanCompareLimits c s).st :=
  .iteSt (.refl s) <| .iteSt (.refl s) <| .checked (.setTan (.refl s))

/-! An event of slot 19 waits in the tandem pair for its TIME_WORD (R432). -/

theorem refEvent_follows (i : Nat) (ev : SlotEvent) (s : State) : Follows s (refEvent i ev s) :=
  .ite (.ite (.refl s) (.lit (.refl s))) (.ite (.within (tileEvent_within ..)) (.within (slotEvent_within ..)))

theorem quantisationPairing_follows (second : Nat) (instant : Option FieldTime) (s : State) :
    Follows s (quantisationPairing second instant s) := by
  unfold quantisationPairing
  dsimp only
  split
  · exact .ite (.op (countUnpaired_within _) (.within (countUnpaired_within _)))
      (.ite (.refl s) (.step (refEvent_follows ..) (.within (markApplied_within ..))))
  · exact .refl s
  · exact .within (countUnpaired_within _)

theorem acceptBurst_follows (p : Nat) (r : LeafRx) (s : State) : Follows s (acceptBurst p r s) :=
  have h : Follows s _ := .op (State.setPaux_within ..) (.within (State.setPort_within ..))
  .ite (.step (refEvent_follows ..) h) h

theorem decideSingle_follows (p : Nat) (s : State) : Follows s (decideSingle p s) := by
  unfold decideSingle
  split
  · exact .ite (acceptBurst_follows ..) (.within (passOver_within ..))
  · exact .refl s

theorem downstreamBurst_follows (p : Nat) (b : RxBurst) (s : State) : Follows s (downstreamBurst p b s) := by
  have hseen : Follows s (s.setPaux p { s.paux p with seen := true }) := .within (State.setPaux_within ..)
  have hset (x : FurPort) : Follows s ((s.setPaux p { s.paux p with seen := true }).setPort p x) :=
    .op (State.setPort_within ..) hseen
  unfold downstreamBurst
  dsimp only
  refine .ite (.refl s) ?_
  split
  · exact hset _
  · split
    · exact hset _
    · refine .ite (hset _) ?_
      split
      · exact .step (decideSingle_follows ..) (hset _)
      · exact .ite (.step (decideSingle_follows ..) (hset _)) <| .step (decideSingle_follows ..) <|
          .op (perfAdd_within ..) <| .op (burstMail_within ..) <| .op (foretell_within ..) (hset _)

theorem leafDecision_follows (a b : Nat) (s : State) : Follows s (leafDecision a b s) := by
  have htake (p q : Nat) (r : LeafRx) : Follows s (passOver q r.claim (acceptBurst p r s)) :=
    .op (passOver_within ..) (acceptBurst_follows ..)
  have hpass (p q : Nat) : Follows s (passOver q 0 (passOver p 0 s)) :=
    .op (passOver_within ..) (.within (passOver_within ..))
  have hone (p q : Nat) (r : LeafRx) : Follows s (if !overdue s q r then s
      else if takeable r then passOver q r.claim (acceptBurst p r s) else passOver q 0 (passOver p 0 s)) :=
    .ite (.refl s) (.ite (htake p q r) (hpass p q))
  unfold leafDecision
  dsimp only
  refine .ite (.refl s) ?_
  split
  · exact .refl s
  · exact hone ..
  · exact hone ..
  · exact .ite (hone ..) (.ite (hone ..) (.ite (htake ..) (.ite (htake ..) (hpass ..))))

theorem upEvent_follows (i p : Nat) (t2 : FieldTime) (ms : Int) (tlv : Option Nat) (s : State) :
    Follows s (upEvent i p t2 ms tlv s) := by
  unfold upEvent
  dsimp only
  split
  · exact .within (State.setUpD_within ..)
  · exact .ite (.within (State.setUpD_within ..)) <| .step (refEvent_follows ..) <| .op (State.setUpD_within ..) <|
      .within (State.setUpD_within ..)

theorem upstreamMessage_follows (n : Nat) (s : State) : Follows s (upstreamMessage n s) := by
  have hend : Follows s (finishTask n s) := .within (finishTask_within ..)
  have hset (i : Nat) (x : Up) : Follows s (finishTask n (s.setUpD i x)) :=
    .op (finishTask_within ..) (.within (State.setUpD_within ..))
  have hevent (i p : Nat) (t2 : FieldTime) (ms : Int) (tlv : Option Nat) :
      Follows s (finishTask n (upEvent i p t2 ms tlv s)) := .op (finishTask_within ..) (upEvent_follows ..)
  unfold upstreamMessage
  split
  · exact .refl s
  · dsimp only
    split
    · exact .refl s
    · exact .refl s
    · refine .ite hend (.ite (.op (finishTask_within ..) (.within (upFail_within ..))) ?_)
      split
      · exact hevent ..
      · exact hset ..
      · split
        · exact .ite (hevent ..) hend
        · exact hend
      · split
        · exact .ite (hset ..) hend
        · exact hend
      · exact hend

theorem computation_follows (tempM : Int) (s : State) : Follows s (computation tempM s) :=
  .ite (.refl s) <| .ite (.within (stepEffective_within _)) <| .step (tandemCompute_follows _) <|
    .op (computeAt_within ..) <| .op (State.setTb_within ..) (.within (stepEffective_within _))

/-! Resets and safe states (R497, R509, R531, R545). -/

theorem resetTan_follows (s : State) : Follows s (resetTan s) := .settles (resetTan_within s) (decideClaim_stands _)

theorem resetBlock_follows (b i : Nat) (s : State) : Follows s (resetBlock b i s) := by
  unfold resetBlock
  split
  · exact .within (resetEth_within ..)
  · exact .within (resetFur_within ..)
  · exact .within (resetApll_within ..)
  · exact .within (resetNvme_within ..)
  · exact resetTan_follows s
  · exact .within (resetGnss_within ..)
  · exact .within (resetCluster_within ..)

theorem bodyResetBlock_follows (c : Cmd) (s : State) : Follows s (bodyResetBlock c s).st :=
  .iteSt (.refl s) <| .checked <| .iteSt (.refl s) <| .op (abortQueued_within ..) (resetBlock_follows ..)

theorem enterSafe_follows (b i : Nat) (s : State) : Follows s (enterSafe b i s) :=
  .ite (.ite (.within (slotSafe_within ..)) (.refl s)) <| .ite (.within (ethSafe_within ..)) <|
    .ite (.within (State.setRing_within ..)) <| .ite (decideClaim_follows s) <| .ite (.within (furSafe_within ..)) (.refl s)

theorem parityAt_follows (b i : Nat) (s : State) : Follows s (parityAt b i s) :=
  .ite (.within (setSticky_within ..)) (.step (enterSafe_follows ..) (.within (parityFail_within ..)))

theorem reset_stands : RoleStands State.reset := by unfold RoleStands; decide

theorem resetModule_follows (torn : Bool) (s : State) : Follows s (resetModule torn s) :=
  ⟨rfl, fun _ => (roleStands_congr rfl).mpr reset_stands⟩

theorem restartModule_follows (s : State) : Follows s (restartModule s) :=
  .op (release_within _) (resetModule_follows false s)

theorem supplyLoss_follows (s : State) : Follows s (supplyLoss s) :=
  (Follows.within (drawBelow_within 2 s)).trans (resetModule_follows _ _)

theorem restartSTile_follows (s : State) : Follows s (restartSTile s) :=
  ⟨rfl, fun _ => (roleStands_congr rfl).mpr reset_stands⟩

end Sys2Proof.Machine
end


section
/-! SUPPORT. The queue and a ROLE that follows the claims, under every row and every step. -/

-- One theorem after another: elaborated side by side, their proofs wait on one another in dozens of threads.
set_option Elab.async false

namespace Sys2Proof.Machine
open Sys2Proof

/-! The command processor (R470, R475, R16). -/

theorem acceptPacket_follows (pk : Packet) (s : State) : Follows s (acceptPacket pk s) := by
  unfold acceptPacket
  dsimp only
  split
  · exact .op (addReply_within ..) <| .op (takeId_within ..) (.within (takeRequest_within ..))
  · exact .op (admitPacket_within ..) (.within (takeRequest_within ..))

/-- Every command of the command processor keeps a ROLE that follows the claims. -/
theorem bodyFor_follows (op : Nat) (b : Body) (h : bodyFor op = some b) (c : Cmd) (s : State) : Follows s (b c s).st := by
  unfold bodyFor at h
  split at h
  all_goals cases h
  exacts [.within (bodyIdentify_within ..), .within (bodySnapshot_within ..), .within (bodyEcho_within ..),
    bodyResetBlock_follows .., .within (bodyGetGeneration_within ..), .within (bodyImageStage_within ..),
    .within (bodyImageActivate_within ..), .within (bodyTbStatus_within ..), .within (bodyTimConfig_within ..),
    .within (bodyTimMeasure_within ..), .within (bodyTimCalStatus_within ..), .within (bodyTimCalRun_within ..),
    .within (bodyGnssConfig_within ..), .within (bodyGnssStatus_within ..), .within (bodyGnssChannels_within ..),
    .within (bodyGnssSetPosition_within ..), .within (bodyGnssSurvey_within ..), .within (bodyGnssPpsMsg_within ..),
    .within (bodyRefConfig_within ..), .within (bodyRefStatus_within ..), .within (bodyRefLimits_within ..),
    .within (bodyRefDuplex_within ..), .within (bodyTodConfig_within ..), .within (bodySelPolicy_within ..),
    .within (bodySelStatus_within ..), .within (bodySelForce_within ..), .within (bodySelClearForce_within ..),
    .within (bodyDpllConfig_within ..), .within (bodyTimeSet_within ..), .within (bodyTimeAdjust_within ..),
    .within (bodyOscConfig_within ..), .within (bodyEnsembleStatus_within ..), .within (bodyHoldoverModel_within ..),
    .within (bodyHoldoverLearn_within ..), .within (bodyBoundStatus_within ..), .within (bodyBoundParams_within ..),
    .within (bodySealBreakOpen_within ..), .within (bodySealClose_within ..), .within (bodyLogRead_within ..),
    .within (bodyMetrologyId_within ..),
    .within (bodyFurPortConfig_within ..), .within (bodyFurPortStatus_within ..), .within (bodyFurRatePolicy_within ..),
    .within (bodyFurCalibrate_within ..), .within (bodyFurMailboxSend_within ..),
    .within (bodyFurMailboxRecv_within ..), .within (bodyFurBulkStatus_within ..),
    .within (bodyEthPortConfig_within ..), .within (bodyEthPortStatus_within ..),
    .within (bodyEthTagConfig_within ..), .within (bodyEthPauseConfig_within ..), .within (bodyEthAsymCal_within ..),
    .within (bodySvcProfile_within ..), .within (bodySvcDomain_within ..), .within (bodySvcClientAdd_within ..),
    .within (bodySvcClientRemove_within ..), .within (bodySvcClientQuery_within ..),
    .within (bodySvcLimits_within ..), .within (bodyUpstreamConfig_within ..), .within (bodyEngStatus_within ..),
    .within (bodyProgStage_within ..), .within (bodyProgActivate_within ..),
    .within (bodyEngPlacementPolicy_within ..), .within (bodyEngCensus_within ..), .within (bodyKeyWrite_within ..),
    .within (bodyKeyInvalidate_within ..), .within (bodyKeyStatus_within ..), .within (bodyKeyAttr_within ..),
    .within (bodyHarrowStatus_within ..), .within (bodyNtsMasterRotate_within ..),
    .within (bodyEvdStoreConfig_within ..), .within (bodyEvdStatus_within ..),
    .within (bodyEvdNamespaceAdd_within ..), .within (bodyEvdRetention_within ..),
    .within (bodyEvdSheafRead_within ..), bodyTanConfig_follows .., .within (bodyTanStatus_within ..),
    bodyTanClaimSet_follows .., bodyTanCompareLimits_follows ..,
    .within (bodySynConfig_within ..), .within (bodySynStatus_within ..), .within (bodyOutPpsConfig_within ..),
    .within (bodyOutSampleClock_within ..), .within (bodyRefclkSpread_within ..), .within (bodyPwrPolicy_within ..),
    .within (bodyPwrStatus_within ..), .within (bodyPerfFilter_within ..), .within (bodyPerfRead_within ..),
    .within (bodyLoopbackSet_within ..), .within (bodyLoopbackClear_within ..), .within (bodyBistRun_within ..),
    .within (bodyTestUnlock_within ..), .within (bodyFaultRead_within ..), .within (bodyFaultClear_within ..),
    .within (bodyIrqGroupConfig_within ..), .within (bodyFltPinMask_within ..)]

theorem runOpcode_follows (c : Cmd) (s : State) : Follows s (runOpcode c s) := by
  unfold runOpcode
  split
  · exact .runCmd (bodyFor_follows _ _ ‹_›)
  · exact .within (addReply_within ..)

theorem mailboxService_follows (s0 : State) : Follows s0 (mailboxService s0) := by
  unfold mailboxService
  dsimp only
  refine .ite ?_ ?_
  · exact .ite (.within (leafFreqs_within ..)) (.refl _)
  · split
    · exact .ite (.within (leafFreqs_within ..)) (.refl _)
    · exact .ite (.lit <| .op (drawBelow_within ..) <| .op (drawBelow_within ..) <|
        .ite (.within (leafFreqs_within ..)) (.refl _)) <| .op (markFirst_within ..) <|
        .step (runOpcode_follows ..) <| .op (setSlots_within ..) <| .lit <| .op (drawBelow_within ..) <|
        .op (drawBelow_within ..) <| .ite (.within (leafFreqs_within ..)) (.refl _)

theorem commandAccept_follows (pk : Packet) (dmaOk : Bool) (s : State) : Follows s (commandAccept pk dmaOk s) := by
  unfold commandAccept
  dsimp only
  refine .ite ?_ ?_
  · exact .refl _
  · refine .ite ?_ ?_
    · exact .within (State.setRing_within ..)
    · split
      · exact .refl _
      · exact .ite (.lit (.refl _)) (acceptPacket_follows ..)

theorem commandExecute_follows (g : Nat) (s : State) : Follows s (commandExecute g s) := by
  unfold commandExecute
  split
  · exact .refl _
  · exact .op (markFirst_within ..) <| .step (runOpcode_follows ..) (.within (setSlots_within ..))


section
variable {s s' t : State} {ok : Bool}

/-- A command row changes what its body changes, and the replies (R470). -/
theorem bodyRow_follows {op least : Nat} {body : Body} {rq : Request} (hb : ∀ c u, Follows u (body c u).st)
    (h : kcpRow op least body rq s = .next t) : Follows s t := by
  obtain rfl : _ = t := Host.Outcome.next.inj h
  have ht : Follows s (takeId s) := .within (takeId_within s)
  unfold runRow
  refine .ite (.refl s) ?_
  split
  · exact .op (addReply_within ..) ht
  · exact .ite (.op (addReply_within ..) ht) <| .step (.runCmd hb) ht

/-- A command row runs the body of its opcode. -/
theorem row_follows {op least : Nat} {body : Body} {rq : Request} (hb : bodyFor op = some body)
    (h : kcpRow op least body rq s = .next t) : Follows s t := bodyRow_follows (bodyFor_follows op body hb) h

/-- An event changes what its effect changes, and the generations (R486). -/
theorem event_follows (hs : Follows s s') (h : done s s' = .next t) : Follows s t :=
  Host.Outcome.next.inj h ▸ .op (commitG_within ..) hs

/-- The same for an event that may answer held commands. -/
theorem eventHeld_follows (hs : Follows s s') (h : doneHeld s s' = .next t) : Follows s t :=
  Host.Outcome.next.inj h ▸ .op (stampReplies_within ..) (.op (commitG_within ..) hs)

/-- An event at a numbered unit. -/
theorem eventAt_follows (hs : Follows s s') (h : guardUnit ok s (done s s') = .next t) : Follows s t := by
  obtain ⟨-, h⟩ | ⟨-, rfl⟩ := guardUnit_next h
  · exact event_follows hs h
  · exact .refl _

/-- An event at a numbered unit that may answer held commands. -/
theorem eventHeldAt_follows (hs : Follows s s') (h : guardUnit ok s (doneHeld s s') = .next t) : Follows s t := by
  obtain ⟨-, h⟩ | ⟨-, rfl⟩ := guardUnit_next h
  · exact eventHeld_follows hs h
  · exact .refl _

/-- A row that goes on in a state as it stands. -/
theorem next_follows (hs : Follows s s') (h : (.next s' : Out) = .next t) : Follows s t := Host.Outcome.next.inj h ▸ hs

/-- A host's access to BAR0 (R473). -/
theorem hostAccess_follows {f : State → State} (hf : ∀ u, Follows u (f u)) : Follows s (hostAccess f s) :=
  .ite (hf s) (.refl s)

/-- A host's write of a register (R522). -/
theorem hostWrite_follows {f : State → State} {offset : Nat} (hf : ∀ u, Follows u (f u)) : Follows s (hostWrite offset f s) :=
  hostAccess_follows fun u => (Follows.within (countAccess_within true offset u)).trans (hf _)

end


theorem exec_follows {i : Instr} {s t : State} (h : exec i s = .next t) : Follows s t := by
  cases i with
  | identify _ | snapshot _ | echo _ | resetBlock _ | getGeneration _ | imageStage _ | imageActivate _
  | imageActivateSRestart _ | imageActivateModuleRestart _ | imageSvnRaise _ | tbStatus _ | timConfig _
  | timMeasure _ | timCalStatus _ | timCalRun _ | gnssConfig _ | gnssStatus _ | gnssChannels _ | gnssSetPosition _
  | gnssSurveyStatus _ | gnssSurveyStart _ | gnssSurveyAbort _ | gnssPpsMsg _ | refConfig _ | refStatus _
  | refLimits _ | refDuplex _ | todConfig _ | selPolicy _ | selStatus _ | selForce _ | selClearForce _ | dpllConfig _
  | timeSetMode0 _ | timeSetMode1 _ | timeAdjust _ | oscConfig _ | ensembleStatus _ | holdoverModel _
  | holdoverLearn _ | holdoverLearnFit _ | holdoverLearnDiscard _ | boundStatus _ | boundParams _ | sealBreakOpen _
  | sealClose _ | logRead _ | metrologyId _ | furPortConfig _ | furPortStatus _ | furRatePolicy _ | furCalibrate _
  | furMailboxSend _ | furMailboxRecv _ | furBulkStatus _ | ethPortConfig _ | ethPortStatus _ | ethTagConfig _
  | ethPauseConfig _ | ethAsymCal _ | loopMeasure _ | loopResultRead _ | svcProfile _ | svcDomain _ | svcClientAdd _
  | svcClientRemove _ | svcClientQuery _ | svcLimits _ | upstreamConfig _ | engStatus _ | progStage _
  | progActivate _ | engPlacementPolicy _ | engCensus _ | keyWrite _ | keyInvalidate _ | keyStatus _ | keyAttr _
  | harrowStatus _ | ntsMasterRotate _ | evdStoreConfig _ | evdFormat _ | evdStart _ | evdStop _ | evdFlush _
  | evdRelease _ | evdStatus _ | evdNamespaceAdd _ | evdRetention _ | evdSheafRead _ | tanConfig _ | tanStatus _
  | tanClaimAuto _ | tanClaimRelease _ | tanClaimMaintenance _ | tanCompareLimits _ | synConfig _ | syncInArm _
  | synStatus _ | outPpsConfig _ | outSampleClock _ | refclkSpread _ | pwrPolicy _ | pwrStatus _ | perfFilter _
  | perfRead _ | loopbackSet _ | loopbackClear _ | bistReport _ | bistKat _ | bistMarch _ | bistRng _ | bistPrbs _
  | bistReplica _ | testUnlockChallenge _ | testUnlockResponse _ | testUnlockEnd _ | faultRead _ | faultClear _
  | irqGroupConfig _ | irqGroupAck _ | fltPinMask _ =>
    exact row_follows rfl h
  | snapshotCapture => exact event_follows (.within (snapshotCapture_within ..)) h
  | timMeasureResult => exact event_follows (.within (timMeasureResult_within ..)) h
  | timCalVerifyEnd _ _ => exact eventAt_follows (.within (timCalVerifyEnd_within ..)) h
  | loopMeasureEnd _ _ => exact eventAt_follows (.within (loopMeasureEnd_within ..)) h
  | pwrPolicyArbitration _ => exact bodyRow_follows (fun _ _ => .within (bodyArbPolicy_within ..)) h
  | bistEnd _ _ => exact eventAt_follows (.within (bistEnd_within ..)) h
  | cmdSqTailWrite _ _ => exact eventAt_follows (hostWrite_follows fun _ => .within (tailWrite_within ..)) h
  | cmdCqHeadWrite _ _ => exact eventAt_follows (hostWrite_follows fun _ => .within (headWrite_within ..)) h
  | cmdRingCfgWrite _ _ => exact eventAt_follows (hostWrite_follows fun _ => .within (cfgWrite_within ..)) h
  | classLock _ => exact eventAt_follows (hostWrite_follows fun _ => .within (classLock_within ..)) h
  | ringQuiesce _ => exact eventAt_follows (.within (ringQuiesce_within ..)) h
  | cmdRingStatClear _ _ => exact eventAt_follows (hostWrite_follows fun _ => .within (statClear_within ..)) h
  | irqInsvcAck _ _ _ => exact eventAt_follows (hostWrite_follows fun _ => .within (insvcAck_within ..)) h
  | fltStatusClear block _ _ =>
    refine eventAt_follows (hostWrite_follows fun u => ?_) h
    split
    · exact .refl u
    · exact .within (faultClear_within ..)
  | perfOvfClear _ _ => exact eventAt_follows (hostWrite_follows fun _ => .within (ovfClear_within ..)) h
  | timeNsRead =>
    exact event_follows (hostAccess_follows fun _ => .op (timeNsRead_within ..) (.within (countAccess_within ..))) h
  | slowTimeout _ _ => exact event_follows (hostAccess_follows fun _ => .within (slowTimeout_within ..)) h
  | registerWrite _ _ _ => exact eventAt_follows (hostAccess_follows fun _ => .within (registerWrite_within ..)) h
  | commandAccept _ _ => exact eventAt_follows (commandAccept_follows ..) h
  | commandExecute _ =>
    obtain ⟨-, h⟩ | ⟨-, rfl⟩ := guardUnit_next h
    · exact next_follows (.ite (commandExecute_follows ..) (.refl s)) h
    · exact .refl _
  | replyDeliver _ _ => exact eventAt_follows (.within (replyDeliver_within ..)) h
  | relayCommand => exact event_follows (.within (relayCommand_within ..)) h
  | relayTimeout => exact event_follows (.within (relayTimeout_within ..)) h
  | mailboxService => exact next_follows (mailboxService_follows s) h
  | pendingReply => exact event_follows (.within (pendingReply_within ..)) h
  | mctpPacket _ => exact event_follows (.within (mctpPacket_within ..)) h
  | mctpReassemblyTimeout => exact event_follows (.within (reassemblyTimeout_within ..)) h
  | sbReplyRetry _ => exact event_follows (.within (sbReplyRetry_within ..)) h
  | setEndpointId _ _ => exact event_follows (.within (setEndpointId_within ..)) h
  | getEndpointId => exact event_follows (.within (mctpAnswer_within ..)) h
  | getMctpVersionSupport _ => exact event_follows (.within (mctpVersions_within ..)) h
  | getMessageTypeSupport => exact event_follows (.within (mctpAnswer_within ..)) h
  | getVendorDefinedMsgSupport _ => exact event_follows (.within (mctpVendor_within ..)) h
  | getVersion _ => exact event_follows (.within (spdmAnswer_within ..)) h
  | getCapabilities _ => exact event_follows (.within (spdmAnswer_within ..)) h
  | negotiateAlgorithms _ _ => exact event_follows (.within (spdmAnswer_within ..)) h
  | getDigests _ => exact event_follows (.within (spdmAnswer_within ..)) h
  | getCertificate _ _ _ _ => exact event_follows (.within (spdmAnswer_within ..)) h
  | challenge _ _ => exact event_follows (.within (spdmAnswer_within ..)) h
  | getMeasurements _ _ _ => exact event_follows (.within (spdmAnswer_within ..)) h
  | keyExchange _ _ => exact event_follows (.within (spdmAnswer_within ..)) h
  | finish _ _ _ => exact event_follows (.within (finish_within ..)) h
  | heartbeat _ => exact event_follows (.within (spdmAnswer_within ..)) h
  | keyUpdate _ => exact event_follows (.within (spdmAnswer_within ..)) h
  | endSession _ =>
    exact event_follows (.ite (.op (endSession_within ..) (.within (spdmAnswer_within ..)))
      (.within (spdmAnswer_within ..))) h
  | heartbeatTimeout _ => exact event_follows (.within (heartbeatTimeout_within ..)) h
  | powerOnResetRelease => exact next_follows (.ite (.refl s) (.op (release_within _) (resetModule_follows false s))) h
  | supplyLoss => exact next_follows (supplyLoss_follows s) h
  | nuheifBoot _ => exact event_follows (.within (nuheifBoot_within ..)) h
  | bootImageVerdict => exact event_follows (.within (bootImageVerdict_within ..)) h
  | mBootEnd => exact event_follows (.within (mBootEnd_within ..)) h
  | sTileBoot => exact event_follows (.within (sTileBoot_within ..)) h
  | trialFallback tileS =>
    cases tileS with
    | true => exact event_follows (.ite (.step (restartSTile_follows ..) (.within (preferOther_within ..))) (.refl s)) h
    | false => exact next_follows (.ite (.step (restartModule_follows _) (.within (preferOther_within ..))) (.refl s)) h
  | recoveryResponder => exact event_follows (.within (recoveryResponder_within ..)) h
  | nuheifRecovery _ => exact event_follows (.within (nuheifRecovery_within ..)) h
  | perstAssert => exact event_follows (.within (perstAssert_within ..)) h
  | pcieLinkUp => exact event_follows (.within (pcieLinkUp_within ..)) h
  | msixUnmask _ => exact eventAt_follows (.within (msixUnmask_within ..)) h
  | apllFirstLock => exact event_follows (.within (apllFirstLock_within ..)) h
  | osc0Loss _ => exact event_follows (.within (osc0Loss_within ..)) h
  | osc0Relock => exact event_follows (.within (osc0Relock_within ..)) h
  | ovenRdyHigh => exact event_follows (.within (ovenRdyHigh_within ..)) h
  | ovenRdyLow => exact event_follows (.within (ovenRdyLow_within ..)) h
  | warmupWindowEnd _ _ => exact event_follows (.within (warmupWindowEnd_within ..)) h
  | measuredEdge _ _ _ _ => exact eventAt_follows (.within (measuredEdge_within ..)) h
  | conversionEnd _ _ _ _ => exact eventAt_follows (.within (conversionEnd_within ..)) h
  | channelLockWindow _ _ _ => exact eventAt_follows (.within (channelLockWindow_within ..)) h
  | refreshStart _ => exact eventAt_follows (.within (refreshStart_within ..)) h
  | refreshComplete _ _ => exact eventAt_follows (.within (refreshComplete_within ..)) h
  | tableReplace _ => exact eventAt_follows (.within (tableReplace_within ..)) h
  | interpolatorSelfcheck _ _ => exact eventAt_follows (.within (interpolatorSelfcheck_within ..)) h
  | gnssClkFault _ => exact event_follows (.within (gnssClkFault_within ..)) h
  | gnssClkClear _ => exact event_follows (.within (gnssClkClear_within ..)) h
  | acquisitionDwell _ _ _ _ _ => exact eventAt_follows (.within (acquisitionDwell_within ..)) h
  | trackingLoss _ _ => exact eventAt_follows (.within (trackingLoss_within ..)) h
  | multipathFit _ _ => exact eventAt_follows (.within (multipathFit_within ..)) h
  | ephemerisAdopt _ => exact eventAt_follows (.within (ephemerisAdopt_within ..)) h
  | gnssSolution _ => exact event_follows (.within (gnssSolution_within ..)) h
  | quantisationPairing _ _ => exact event_follows (quantisationPairing_follows ..) h
  | refEvent _ _ => exact eventAt_follows (refEvent_follows ..) h
  | activityWindowClose _ => exact eventAt_follows (.within (activityWindowClose_within ..)) h
  | freqEvaluation => exact event_follows (.within (freqEvaluation_within ..)) h
  | uartMessage _ _ _ => exact eventAt_follows (.within (uartMessage_within ..)) h
  | uartLabelTimeout _ => exact eventAt_follows (.within (uartLabelTimeout_within ..)) h
  | utcHoldExpiry => exact event_follows (.within (utcHoldExpiry_within ..)) h
  | leapSecond => exact event_follows (.within (leapSecond_within ..)) h
  | computation tempM =>
    exact next_follows (.op (answerTimeSet_within ..) (.op (commitG_within ..) (computation_follows tempM s))) h
  | stepEffective => exact event_follows (.within (stepEffective_within ..)) h
  | stepMirror => exact event_follows (.within (stepMirror_within ..)) h
  | settleEnd => exact event_follows (.within (settleEnd_within ..)) h
  | guardExpiry => exact event_follows (.within (guardExpiry_within ..)) h
  | wtrExpiry _ => exact eventAt_follows (.within (wtrExpiry_within ..)) h
  | memberJoin _ => exact eventAt_follows (.within (memberJoin_within ..)) h
  | ensembleTest => exact event_follows (.within (ensembleTest_within ..)) h
  | learningSample => exact event_follows (.within (learningSample_within ..)) h
  | holdoverFit => exact event_follows (.within (holdoverFit_within ..)) h
  | tempRead _ _ => exact eventAt_follows (.within (tempRead_within ..)) h
  | timeBusFrame => exact event_follows (.within (timeBusFrame_within ..)) h
  | frameReceive _ _ => exact eventAt_follows (.within (frameReceive_within ..)) h
  | claimWord _ _ => exact eventAt_follows (.within (claimWord_within ..)) h
  | slotMeasurementReport _ _ => exact eventAt_follows (.within (slotReport_within ..)) h
  | faultReplicaUpdate => exact event_follows (.within (faultReplicaUpdate_within ..)) h
  | sealedPortFields => exact event_follows (.within (sealedPortFields_within ..)) h
  | sealPress => exact event_follows (.within (sealPress_within ..)) h
  | armedExpiry => exact event_follows (.within (armedExpiry_within ..)) h
  | verifyPress => exact event_follows (.within (verifyPress_within ..)) h
  | pressStuck _ => exact event_follows (.within (pressStuck_within ..)) h
  | sealWindowTimeout => exact event_follows (.within (sealWindowTimeout_within ..)) h
  | logWrite _ _ _ _ _ => exact event_follows (.within (logWriteEvent_within ..)) h
  | logFlush _ => exact event_follows (.within (logFlush_within ..)) h
  | boutEpoch _ => exact eventHeldAt_follows (.within (boutEpoch_within ..)) h
  | burstBuild _ => exact eventAt_follows (.within (burstBuild_within ..)) h
  | downstreamBurst _ _ => exact eventAt_follows (downstreamBurst_follows ..) h
  | upstreamLaunch _ => exact eventAt_follows (.within (upstreamLaunch_within ..)) h
  | upstreamBurst _ _ => exact eventAt_follows (.within (upstreamBurst_within ..)) h
  | leafDecision _ _ => exact eventAt_follows (leafDecision_follows ..) h
  | searchTimeout _ => exact eventAt_follows (.within (searchTimeout_within ..)) h
  | listenTimeout _ => exact eventAt_follows (.within (listenTimeout_within ..)) h
  | leanAfterIdle _ => exact eventAt_follows (.within (leanAfterIdle_within ..)) h
  | calRunStart _ => exact eventAt_follows (.within (calRunStart_within ..)) h
  | calMeasurement _ _ => exact eventAt_follows (.within (calMeasurement_within ..)) h
  | calRunEnd _ => exact eventAt_follows (.within (calRunEnd_within ..)) h
  | calApply _ => exact eventAt_follows (.within (calApply_within ..)) h
  | mailboxTlv _ _ _ _ _ => exact eventAt_follows (.within (mailboxTlv_within ..)) h
  | mailboxResend _ => exact eventAt_follows (.within (mailboxResend_within ..)) h
  | statusArrayRewrite => exact event_follows (.within (statusArrayRewrite_within ..)) h
  | ethFrameReceive _ _ => exact eventAt_follows (.within (ethFrameReceive_within ..)) h
  | taskAdmit _ _ => exact eventAt_follows (.within (taskAdmit_within ..)) h
  | arpRequest _ => exact eventAt_follows (.within (arpRequest_within ..)) h
  | requestUnicastTransmission _ => exact eventAt_follows (.op (requestUnicast_within ..) (.within (noteVerified_within ..))) h
  | cancelUnicastTransmission _ => exact eventAt_follows (.op (cancelUnicast_within ..) (.within (noteVerified_within ..))) h
  | delayReq _ => exact eventAt_follows (.op (delayReq_within ..) (.within (noteVerified_within ..))) h
  | announceReceived _ => exact eventAt_follows (.op (announceReceived_within ..) (.within (noteVerified_within ..))) h
  | grantExpiry _ => exact eventAt_follows (.within (grantExpiry_within ..)) h
  | scheduledMessage _ => exact eventHeld_follows (.within (scheduledMessage_within ..)) h
  | ntpRequest _ => exact eventAt_follows (.within (ntpRequest_within ..)) h
  | ntsRequest _ => exact eventAt_follows (.within (ntsRequest_within ..)) h
  | upstreamMessage _ => exact eventAt_follows (.step (upstreamMessage_follows ..) (.within (noteUpVerified_within ..))) h
  | upstreamAnnounce _ => exact eventAt_follows (.op (upstreamAnnounce_within ..) (.within (noteUpVerified_within ..))) h
  | upstreamRenewal _ _ => exact eventAt_follows (.within (upstreamRenewal_within ..)) h
  | launchCommit _ => exact eventAt_follows (.within (launchCommit_within ..)) h
  | startOfFrame _ _ => exact eventAt_follows (.within (startOfFrame_within ..)) h
  | frameStomp _ => exact eventAt_follows (.within (frameStomp_within ..)) h
  | txDownDrop _ _ => exact eventAt_follows (.within (txDownDrop_within ..)) h
  | waitEvent _ _ _ => exact eventAt_follows (.within (waitEvent_within ..)) h
  | waitTimeout _ _ => exact eventAt_follows (.within (waitTimeout_within ..)) h
  | taskAbort _ => exact eventAt_follows (.within (taskAbort_within ..)) h
  | stallCensus => exact event_follows (.within (stallCensus_within ..)) h
  | engineSwitch _ => exact eventAt_follows (.within (engineSwitch_within ..)) h
  | bucketMove _ => exact eventHeldAt_follows (.within (bucketMove_within ..)) h
  | rebalance _ _ => exact event_follows (.within (rebalanceStep_within ..)) h
  | clusterWake _ _ => exact eventAt_follows (.within (clusterWake_within ..)) h
  | clusterFallow _ _ => exact eventAt_follows (.within (clusterFallow_within ..)) h
  | epochRoll => exact event_follows (.within (epochRoll_within ..)) h
  | harrowVisit => exact event_follows (.within (harrowVisit_within ..)) h
  | rngHealthFail => exact event_follows (.within (rngHealthFail_within ..)) h
  | recordCreate _ => exact eventAt_follows (.within (recordCreate_within ..)) h
  | recordResolve _ _ => exact eventAt_follows (.within (recordResolve_within ..)) h
  | markWrite => exact event_follows (.within (markWrite_within ..)) h
  | sheafClose => exact event_follows (.within (sheafClose_within ..)) h
  | sheafAgeClose => exact event_follows (.within (sheafAgeClose_within ..)) h
  | sheafSeal => exact event_follows (.within (sheafSeal_within ..)) h
  | sheafWrite => exact event_follows (.within (sheafWrite_within ..)) h
  | nvmeCompletion _ => exact event_follows (.within (nvmeCompletion_within ..)) h
  | nvmeWriteTimeout => exact event_follows (.within (nvmeWriteTimeout_within ..)) h
  | nvmeEnumerate _ => exact event_follows (.within (nvmeEnumerate_within ..)) h
  | scrubRead _ => exact event_follows (.within (scrubRead_within ..)) h
  | ethLinkUp _ _ _ => exact eventAt_follows (.within (ethLinkUp_within ..)) h
  | ethLinkDown _ => exact eventAt_follows (.within (ethLinkDown_within ..)) h
  | autoNegotiation _ _ => exact eventAt_follows (.within (autoNegotiation_within ..)) h
  | lpiReceived _ => exact eventAt_follows (.within (lpiReceived_within ..)) h
  | pauseFrame _ _ _ _ => exact eventAt_follows (.within (pauseFrame_within ..)) h
  | pauseWdog _ => exact eventAt_follows (.within (pauseWdog_within ..)) h
  | pauseIgnoreExit _ => exact eventAt_follows (.within (pauseIgnoreExit_within ..)) h
  | phaseSample _ _ _ => exact eventAt_follows (.within (phaseSample_within ..)) h
  | arbiterWindow => exact eventHeld_follows (.within (arbiterWindow_within ..)) h
  | arbiterGrant _ _ => exact eventAt_follows (.within (arbiterGrant_within ..)) h
  | scrubBurst _ => exact eventAt_follows (.within (scrubBurst_within ..)) h
  | claimSend => exact eventHeld_follows (.step (claimSend_follows ..) (comparisonOut_follows ..)) h
  | claimDecision => exact event_follows (decideClaim_follows ..) h
  | claimCheck _ => exact event_follows (claimCheck_follows ..) h
  | sharedDriverEnable => exact event_follows (sharedDriverEnable_follows ..) h
  | claimFrame _ => exact event_follows (claimFrame_follows ..) h
  | timeWord _ => exact event_follows (timeWord_follows ..) h
  | mirror _ => exact event_follows (mirrorFrame_follows ..) h
  | tandemReport => exact event_follows (tandemReport_follows ..) h
  | rejoinHoldExpiry => exact event_follows (rejoinHoldExpiry_follows ..) h
  | apllLock _ => exact eventAt_follows (.within (apllLock_within ..)) h
  | apllUnlock _ _ => exact eventAt_follows (.within (apllUnlock_within ..)) h
  | outputResume _ => exact eventAt_follows (.within (outputResume_within ..)) h
  | ppsEdge _ => exact eventAt_follows (.within (ppsEdge_within ..)) h
  | loopCheck _ _ => exact event_follows (.within (loopCheck_within ..)) h
  | sampleClockStart _ => exact eventAt_follows (.within (sampleClockStart_within ..)) h
  | epochStartMarker _ => exact eventAt_follows (.within (epochStartMarker_within ..)) h
  | syncInEdge _ => exact event_follows (.within (syncInEdge_within ..)) h
  | irqDelivery _ => exact eventAt_follows (.within (irqDeliver_within ..)) h
  | parityCheck _ => exact eventAt_follows (parityAt_follows ..) h
  | mirrorWrite _ => exact eventAt_follows (.within (mirrorWrite_within ..)) h
  | voltageWindow _ _ => exact eventHeld_follows (.within (voltageWindow_within ..)) h
  | avsFault _ => exact event_follows (.within (avsFaultEvent_within ..)) h
  | tempCrit _ _ => exact eventAt_follows (.within (tempCrit_within ..)) h
  | unlockEffective => exact event_follows (.within (unlockEffective_within ..)) h
  | unlockExpiry => exact event_follows (.within (unlockExpiry_within ..)) h
  | loopbackExpiry _ _ => exact event_follows (.within (loopbackExpiry_within ..)) h
  | loopbackTestUnit _ _ _ _ => exact event_follows (.within (loopbackTestUnit_within ..)) h
  | bypass => exact event_follows (.within (tapLoad_within ..)) h
  | idcode => exact event_follows (.within (tapLoad_within ..)) h
  | samplePreload _ _ => exact event_follows (.lit (.within (tapLoad_within ..))) h
  | extest => exact event_follows (.within (tapLoad_within ..)) h
  | clamp => exact event_follows (.within (tapLoad_within ..)) h
  | highz => exact event_follows (.within (tapLoad_within ..)) h
  | extestPulse => exact event_follows (.within (tapLoad_within ..)) h
  | extestTrain => exact event_follows (.within (tapLoad_within ..)) h
  | lnavSubframe _ _ => exact eventAt_follows (.within (lnavSubframe_within ..)) h
  | bitSynchronisation _ => exact eventAt_follows (.within (bitSynchronisation_within ..)) h
  | inputReleased _ => exact event_follows (.within (inputReleased_within ..)) h
  | smbAlertAcknowledge => exact event_follows (.within (smbAlertAcknowledge_within ..)) h
  | pcieLinkLoopback => exact event_follows (.within (pcieLinkLoopback_within ..)) h
  | tempCritClear _ => exact event_follows (.within (tempCritClear_within ..)) h
  | tapReset => exact event_follows (.lit (.refl s)) h
  | completionLimitExpiry _ => exact event_follows (.within (completionLimit_within ..)) h
  | wrappedStoreWritten => exact eventHeld_follows (.within (wrappedStoreWritten_within ..)) h
  | restartComplete => exact event_follows (.within (restartComplete_within ..)) h
  | wakeComplete _ => exact eventHeldAt_follows (.within (wakeComplete_within ..)) h
  | announceTimeout _ _ => exact eventAt_follows (.within (announceTimeout_within ..)) h
  | upstreamGrant _ => exact eventAt_follows (.op (upstreamGrant_within ..) (.within (noteUpVerified_within ..))) h
  | pauseExpiry _ _ => exact eventAt_follows (.within (pauseExpiry_within ..)) h
  | activationRestart =>
    change execActivationRestart s = .next t at h
    unfold execActivationRestart at h
    split at h
    · exact next_follows (.ite (restartModule_follows s) (.refl s)) h
    · exact event_follows (.ite (restartSTile_follows s) (.refl s)) h
    · exact next_follows (.refl s) h

/-! A step. -/

theorem advance_follows (s : State) : Follows s (advance s) := .ite (.lit (.refl s)) (.lit (.refl s))


/-- A microsecond without a command. -/
theorem idle_follows (s : State) : Follows s (idle s) :=
  .op (portTicks_within _) <| .step (advance_follows _) (.within (latchSnaps_within ..))

/-- A step goes on, takes the front command from the queue and no other, and keeps a ROLE that follows the claims. -/
theorem step_goes (s : State) :
    Goes (step s) (fun t => t.pending = s.pending.tail ∧ (RoleStands s → RoleStands t)) := by
  unfold step
  split
  next h =>
    obtain ⟨hq, hrole⟩ := idle_follows s
    exact ⟨_, rfl, by rw [hq, h, List.tail_nil], hrole⟩
  next i rest h =>
    obtain ⟨t, ht⟩ := exec_goes i { s with pending := rest }
    obtain ⟨hq, hrole⟩ := exec_follows ht
    exact ⟨t, ht, by rw [hq, h, List.tail_cons], hrole⟩

/-- Settles O10: with ENABLE set, `roleOf` compares the claims; a step keeps ROLE at what `roleOf` gives. -/
theorem roleFollowsTheClaims : Obligations.RoleFollowsTheClaims := by
  refine ⟨fun s hon hrole => ?_, fun s t hrole ht => ?_⟩
  · simp only [hrole, roleOf, hon, Bool.not_true, Bool.false_eq_true, if_false]
    refine ⟨fun h => ?_, fun ⟨h, hown⟩ => ?_, fun ⟨h, hown⟩ => ?_, fun h => if_pos h⟩
    · rw [if_neg (Nat.ne_of_gt (Nat.zero_lt_of_lt h)), if_pos h]
    · rw [if_neg hown, if_neg h.not_gt, if_pos h]
    · rw [if_neg hown, h, if_neg (Nat.lt_irrefl _), if_neg (Nat.lt_irrefl _)]
  · obtain ⟨u, hu, -, hstands⟩ := step_goes s
    obtain rfl := Host.Outcome.next.inj (hu.symm.trans ht)
    exact hstands hrole

/-- Settles O5: a step goes on, and what stands behind the front command was in the queue before it. -/
theorem queueStaysWellFormed : Obligations.QueueStaysWellFormed := by
  intro s h
  obtain ⟨t, ht, hq, -⟩ := step_goes s
  refine ⟨t, ht, hq, ?_⟩
  rw [hq]
  exact List.all_eq_true.mpr fun i hi => List.all_eq_true.mp h i (List.mem_of_mem_tail hi)


end Sys2Proof.Machine
end

section
/-! SUPPORT. A part that a doorbell changes and `touchesOf` does not list: the counters of the filters (R522, R528). -/

namespace Sys2Proof.Machine
open Sys2Proof

/-- The S tile serves, and filter 0 counts every write of the host (R522, R528). -/
def countingWrites : State :=
  { State.reset with
    pwr := { State.reset.pwr with sState := 2 }
    regs := { State.reset.regs with filters := [(0, { family := 0 })] } }

theorem perf_tailWrite_countingWrites :
    (tget {} (hostWrite (ringOffset 0 0x20) (tailWrite 0 0) countingWrites).regs.perf 0x800).count = 1 := by
  decide +kernel

/-- A doorbell is a host write, so the filtered counter 0x0800 counts it. -/
theorem exec_cmdSqTailWrite_countingWrites :
    Goes (exec (.cmdSqTailWrite 0 0) countingWrites) (fun t => (tget {} t.regs.perf 0x800).count = 1) :=
  goes_unit rfl fun _ => perf_tailWrite_countingWrites

/-- Refutes O7: `touchesOf` lists the command processor alone for CMD_SQ_TAIL_WRITE, but a host's write is counted by the
filters of family 0 (R522), whose counters are registers. -/
theorem not_commandsKeepTheirFrame : ¬ Obligations.CommandsKeepTheirFrame := by
  intro h
  obtain ⟨t, ht, hcount⟩ := exec_cmdSqTailWrite_countingWrites
  have hregs : countingWrites.regs = t.regs := (h _ _ _ ht).keeps .regs (by decide)
  rw [← hregs] at hcount
  exact absurd hcount (by decide +kernel)

end Sys2Proof.Machine
end

section
/-! SUPPORT. Shares of a key, the length of an AES-CMAC, and folds over units that do not touch one another. -/

namespace Sys2Proof.Machine
open Sys2Proof

/-! The length of an AES-CMAC (R336). -/

/-- Words of four bytes each. -/
def FourByteWords (l : List (List Nat)) : Prop := ∀ w ∈ l, w.length = 4

/-- The next word has four bytes where the last word and the one `nk` before it have. -/
theorem nextWord_length {nk i rc : Nat} {p q : List Nat} (hp : p.length = 4) (hq : q.length = 4) :
    (xorNats q (if i % nk = 0 then xorNats ((p.drop 1 ++ p.take 1).map subByte) [rc, 0, 0, 0]
      else if nk = 8 ∧ i % 8 = 4 then p.map subByte else p)).length = 4 := by
  split
  · simp [xorNats, hp, hq]
  · split <;> simp [xorNats, hp, hq]

theorem expandKey_words {nk : Nat} (hnk : 0 < nk) (n : Nat) :
    ∀ (i rc : Nat) {acc : List (List Nat)}, FourByteWords acc → nk ≤ acc.length →
    FourByteWords (expandKey nk n i rc acc) ∧ (expandKey nk n i rc acc).length = acc.length + n := by
  induction n with
  | zero => exact fun _ _ _ h _ => ⟨h, rfl⟩
  | succ n ih =>
    intro i rc acc h hl
    have hhead : (acc.headD []).length = 4 := by
      cases acc with
      | nil => exact absurd (hnk.trans_le hl) (Nat.lt_irrefl 0)
      | cons w acc => exact h w List.mem_cons_self
    have hget : (acc.getD (nk - 1) []).length = 4 := by
      rw [List.getD_eq_getElem _ _ (by omega)]
      exact h _ (List.getElem_mem _)
    obtain ⟨hall, hlen⟩ := ih (i + 1) (if i % nk = 0 then xtime rc else rc)
      (List.forall_mem_cons.mpr ⟨nextWord_length (nk := nk) (i := i) (rc := rc) hhead hget, h⟩) (hl.trans (Nat.le_succ _))
    exact ⟨hall, by rw [expandKey, hlen, List.length_cons]; omega⟩

theorem keyWords_words (n : Nat) :
    ∀ {l : List Nat}, l.length = 4 * n → FourByteWords (keyWords n l) ∧ (keyWords n l).length = n := by
  induction n with
  | zero => exact fun _ => ⟨List.forall_mem_nil _, rfl⟩
  | succ n ih =>
    intro l hl
    obtain ⟨hall, hlen⟩ := ih (l := l.drop 4) (by rw [List.length_drop]; omega)
    exact ⟨List.forall_mem_cons.mpr ⟨by rw [List.length_take]; omega, hall⟩, by rw [keyWords, List.length_cons, hlen]⟩

theorem flatten_length_of_words {l : List (List Nat)} (h : FourByteWords l) : l.flatten.length = 4 * l.length := by
  rw [List.length_flatten, List.map_congr_left (g := fun _ => 4) h, List.map_const', List.sum_replicate, smul_eq_mul, Nat.mul_comm]

/-- Each round key has 16 bytes, and there are `nk + 7` of them. -/
theorem roundKeys_length {nk : Nat} (hnk : 0 < nk) {key : List Nat} (h : key.length = 4 * nk) :
    (roundKeys nk key).length = nk + 7 ∧ ∀ k ∈ roundKeys nk key, k.length = 16 := by
  obtain ⟨hall, hlen⟩ := keyWords_words nk h
  obtain ⟨hx, hxl⟩ := expandKey_words hnk (4 * (nk + 7) - nk) nk 1 (acc := (keyWords nk key).reverse)
    (fun w hw => hall w (List.mem_reverse.mp hw)) (by rw [List.length_reverse, hlen])
  refine ⟨by rw [roundKeys, List.length_map, List.length_range], fun k hk => ?_⟩
  obtain ⟨r, hr, rfl⟩ := List.mem_map.mp hk
  have hr := List.mem_range.mp hr
  rw [flatten_length_of_words fun w hw => hx w (List.mem_reverse.mp (List.mem_of_mem_drop (List.mem_of_mem_take hw)))]
  rw [List.length_take, List.length_drop, List.length_reverse, hxl, List.length_reverse, hlen]
  omega

theorem aesRounds_length : ∀ {ks : List (List Nat)} (s : List Nat), ks ≠ [] → (∀ k ∈ ks, k.length = 16) →
    (aesRounds ks s).length = 16
  | [], _, h, _ => absurd rfl h
  | [k], s, _, h => by
    rw [aesRounds, xorNats, List.length_zipWith, h k List.mem_cons_self, shiftRows, List.length_map]
    rfl
  | _ :: k :: ks, _, _, h => aesRounds_length (ks := k :: ks) _ (List.cons_ne_nil _ _) fun x hx => h x (List.mem_cons_of_mem _ hx)

theorem aesBlock_length {ks : List (List Nat)} (hl : 2 ≤ ks.length) (h : ∀ k ∈ ks, k.length = 16) (b : List Nat) :
    (aesBlock ks b).length = 16 :=
  aesRounds_length _ (List.ne_nil_of_length_pos (by rw [List.length_drop]; omega)) fun k hk => h k (List.mem_of_mem_drop hk)

theorem cmacGo_length {ks : List (List Nat)} (hl : 2 ≤ ks.length) (h : ∀ k ∈ ks, k.length = 16) (k1 k2 : List Nat) (n : Nat) :
    ∀ m c : List Nat, (cmacGo ks k1 k2 n m c).length = 16 := by
  induction n with
  | zero => exact fun _ _ => aesBlock_length hl h _
  | succ n ih => exact fun _ _ => ih _ _

@[simp] theorem fit_length (n : Nat) (l : List Byte) : (fit n l).length = n := by simp [fit, zeros]

theorem fit_of_length {n : Nat} {l : List Byte} (h : l.length = n) : fit n l = l := List.take_left' h

theorem cmac_length (k m : List Byte) : (cmac k m).length = 16 := by
  obtain ⟨hl, h⟩ := roundKeys_length (nk := 4) (by decide) (key := toNats (fit 16 k))
    (by rw [toNats, List.length_map, fit_length])
  rw [cmac, toBytes, List.length_map]
  exact cmacGo_length (le_of_le_of_eq (by decide : 2 ≤ 4 + 7) hl.symm) h _ _ _ _ _

theorem checkValue_length (k : List Byte) : (checkValue k).length = 3 := by
  rw [checkValue, List.length_take, cmac_length]
  rfl

/-! Shares (R348, R349). -/

theorem xorBytes_length (a b : List Byte) : (xorBytes a b).length = min a.length b.length := List.length_zipWith

theorem xorBytes_cancel {a m : List Byte} (h : a.length = m.length) : xorBytes (xorBytes a m) m = a := by
  refine List.ext_getElem (by rw [xorBytes_length, xorBytes_length]; omega) fun i _ _ => ?_
  simp only [xorBytes, List.getElem_zipWith, BitVec.xor_assoc, BitVec.xor_self, BitVec.xor_zero]

/-- A key split into shares opens as itself. -/
theorem split_open (k : List Byte) (s : State) : (split k s).1.open_ = k := xorBytes_cancel (fit_length _ _).symm

/-- A visit keeps the key that two shares of its length hold. -/
theorem remask_open {x : Shares} {m : List Byte} (h1 : x.s1.length = m.length) (h2 : x.s2.length = m.length) :
    (remask x m).open_ = x.open_ :=
  xorBytes_cancel (by rw [xorBytes_length, h1, h2, Nat.min_self])

/-! Folds over units. -/

section
variable {α β : Type} {f : State → α → State} {g : α → State → β} (hother : ∀ s a b, b ≠ a → g b (f s a) = g b s)
include hother

/-- A fold over units other than one leaves what is seen of that one. -/
theorem foldl_other {l : List α} {a : α} (ha : a ∉ l) (s : State) : g a (l.foldl f s) = g a s := by
  induction l generalizing s with
  | nil => rfl
  | cons b l ih => exact (ih (fun h => ha (List.mem_cons_of_mem _ h)) _).trans (hother _ _ _ fun h => ha (h ▸ List.mem_cons_self))

/-- A fold over different units, each step of which leaves what is seen of another unit: what is seen of a unit of the list is
what its own step makes of a state where it still was as before. -/
theorem foldl_local {l : List α} (hl : l.Nodup) (s : State) :
    ∀ a ∈ l, ∃ u, g a u = g a s ∧ g a (l.foldl f s) = g a (f u a) := by
  induction l generalizing s with
  | nil => exact fun _ h => absurd h List.not_mem_nil
  | cons b l ih =>
    obtain ⟨hb, hl⟩ := List.nodup_cons.mp hl
    intro a ha
    by_cases hab : a = b
    · exact ⟨s, rfl, hab ▸ foldl_other hother hb _⟩
    · obtain ⟨u, hu, ht⟩ := ih hl (f s b) a (List.mem_of_ne_of_mem hab ha)
      exact ⟨u, hu.trans (hother _ _ _ hab), ht⟩

end

end Sys2Proof.Machine
end

section
/-! SUPPORT. The key store (R332 to R357): what its operations leave of the slots and of the link keys, and what its commands and
events answer. -/

namespace Sys2Proof.Machine
open Sys2Proof

/-- An event that answers a held command OK: the reply it adds bears G with the row's own increment (R16, R488). -/
theorem goes_doneHeld_answered {s t : State} {id : Nat} {k : Cmd} {f : Cmd → State → Res} {p : List Byte} {P : State → Prop}
    (hr : t.kcp.replies = s.kcp.replies) (hk : t.kcp.slots.find? (fun c => c.id == id) = some k) (hl : k.lost = false)
    (hn : k.noReply = false) (hf : ∀ l : Kcp, f k { t with kcp := l } = ok { t with kcp := l } p)
    (hP : ∀ l : Kcp, l.replies = s.kcp.replies ++ [mkReply k t.now stOK 0 l.g p] → P { t with kcp := l }) :
    Goes (doneHeld s (answerHeld id f t)) P := by
  have ha : ∃ l g, answerHeld id f t = { t with kcp := l } ∧ l.replies = s.kcp.replies ++ [mkReply k t.now stOK 0 g p] := by
    simp only [answerHeld, hk, hf, conclude, ok, stOK, Bool.false_eq_true, if_false, if_true, commitG_self, Option.getD_none,
      addReply_wanted hl hn, ← hr]
    exact ⟨_, _, rfl, rfl⟩
  obtain ⟨l, g, ha, hl⟩ := ha
  obtain ⟨m, hm, hmr⟩ : ∃ m, commitG s { t with kcp := l } = { t with kcp := m } ∧ m.replies = l.replies :=
    ⟨_, commitG_eq s { t with kcp := l }, commitG_kcp_replies s { t with kcp := l }⟩
  refine ⟨_, rfl, ?_⟩
  rw [ha, hm, stampReplies]
  refine hP _ ?_
  simp only [hmr, hl, List.take_left', List.drop_left', List.map_cons, List.map_nil]
  rfl

/-! Slots of the key store. -/

/-- The three classes of slots. -/
def keyTables (s : State) : Tbl KeySlot × Tbl KeySlot × Tbl KeySlot := (s.key.tenants, s.key.links, s.key.nts)

theorem keySlot_congr {s t : State} (h : keyTables t = keyTables s) (c i : Nat) : keySlot t c i = keySlot s c i := by
  simp only [keyTables, Prod.mk.injEq] at h
  obtain ⟨ht, hl, hn⟩ := h
  simp only [keySlot, slotsOf, ht, hl, hn]

theorem keySlot_setKeySlot_same (c i : Nat) (x : KeySlot) (s : State) : keySlot (setKeySlot c i x s) c i = x := by
  unfold keySlot slotsOf setKeySlot
  split
  · exact tget_tset_same ..
  · split
    · exact tget_tset_same ..
    · exact tget_tset_same ..

theorem keySlot_setKeySlot_other {i j : Nat} (h : j ≠ i) (c : Nat) (x : KeySlot) (s : State) :
    keySlot (setKeySlot c i x s) c j = keySlot s c j := by
  unfold keySlot slotsOf setKeySlot
  split
  · exact tget_tset_other _ _ _ _ _ h
  · split
    · exact tget_tset_other _ _ _ _ _ h
    · exact tget_tset_other _ _ _ _ _ h

/-- What a write of a slot leaves of the key store. -/
theorem setKeySlot_rest (c i : Nat) (x : KeySlot) (s : State) :
    (setKeySlot c i x s).key.wrapGen = s.key.wrapGen ∧ (setKeySlot c i x s).key.invalidating = s.key.invalidating ∧
      (setKeySlot c i x s).key.portKeys = s.key.portKeys := by
  unfold setKeySlot
  split
  · exact ⟨rfl, rfl, rfl⟩
  · split <;> exact ⟨rfl, rfl, rfl⟩

/-! The wrapped store (R334). -/

theorem storeSound_key (s : State) : (storeSound s).key = { s.key with storeFault := false } := by
  unfold storeSound
  split
  next => exact ((setCond_within ..).keeps .key (by decide)).symm
  next h => rw [← Bool.eq_false_of_not_eq_true h]

/-- A written image stands in one of the areas; of the key store only the areas and STORE_FAULT differ. -/
theorem writeArea_key (w : Wrapped) (s : State) :
    ∃ a b, (writeArea w s).key = { s.key with areaA := a, areaB := b, storeFault := false } ∧ (a = some w ∨ b = some w) := by
  rw [writeArea, storeSound_key]
  split
  · exact ⟨none, some w, rfl, .inr rfl⟩
  · exact ⟨some w, none, rfl, .inl rfl⟩

theorem keepSlots_key (s : State) :
    ∃ a b f, (keepSlots s).key = { s.key with areaA := a, areaB := b, storeFault := f } := by
  unfold keepSlots
  split
  · obtain ⟨a, b, h, -⟩ := writeArea_key (wrapImage s s.key.wrapGen) s
    exact ⟨a, b, false, h⟩
  · exact ⟨_, _, _, rfl⟩

/-! KEY_WRITE (R336, R338, R352). -/

theorem deriveEpochs_tenant (s : State) (n : Nat) :
    (∃ a b, (deriveEpochs s n).tenant n = { s.tenant n with epochCur := a, epochNext := b }) ∧
      (deriveEpochs s n).key.wrapGen = s.key.wrapGen ∧ (deriveEpochs s n).key.epoch = s.key.epoch := by
  unfold deriveEpochs
  split
  · exact ⟨⟨_, _, rfl⟩, rfl, rfl⟩
  · exact ⟨⟨_, _, tget_tset_same ..⟩, rfl, rfl⟩

/-- A written slot: VALID, and its shares open as the key (R336). -/
structure Holds (recipients ig : Nat) (key : List Byte) (x : KeySlot) : Prop where
  valid : x.valid = true
  opens : x.shares.open_ = key
  recipients : x.recipients = recipients
  indexGen : x.indexGen = ig
  check : x.check = checkValue key

/-- A written slot whose image has gone into the wrapped store. -/
theorem slot_writeArea_setKeySlot (k i : Nat) (w : KeySlot) (g : Wrapped) (s : State) :
    keySlot (writeArea g (setKeySlot k i w s)) k i = w ∧ (writeArea g (setKeySlot k i w s)).key.wrapGen = s.key.wrapGen := by
  obtain ⟨a, b, hkey, -⟩ := writeArea_key g (setKeySlot k i w s)
  have ht : keyTables (writeArea g (setKeySlot k i w s)) = keyTables (setKeySlot k i w s) := by
    rw [keyTables, hkey]
    rfl
  rw [keySlot_congr ht, keySlot_setKeySlot_same, hkey]
  exact ⟨rfl, (setKeySlot_rest k i w s).1⟩

theorem writeKey_slot (k i r ig : Nat) (key : List Byte) (s : State) :
    Holds r ig key (keySlot (writeKey k i r ig key s) k i) ∧ (writeKey k i r ig key s).key.wrapGen = s.key.wrapGen := by
  unfold writeKey
  extract_lets x q w s1 s2
  have hw : Holds r ig key w := ⟨rfl, split_open key s, rfl, rfl, rfl⟩
  have hq : q.2.key = s.key := by
    unfold q
    split <;> rfl
  obtain ⟨hslot, hgen⟩ := slot_writeArea_setKeySlot k i w (wrapImage s1 s1.key.wrapGen) q.2
  rw [hq] at hgen
  split
  next hk =>
    subst hk
    obtain ⟨⟨a, b, hslot'⟩, hgen', -⟩ := deriveEpochs_tenant s2 i
    have hs : keySlot (deriveEpochs s2 i) 1 i = { w with epochCur := a, epochNext := b } := by
      rw [← hslot]
      exact hslot'
    rw [hs]
    exact ⟨⟨hw.valid, hw.opens, hw.recipients, hw.indexGen, hw.check⟩, hgen'.trans hgen⟩
  next => exact ⟨hslot ▸ hw, hgen⟩

end Sys2Proof.Machine
end

section
/-! SUPPORT. What the commands and events of the key store leave and answer (R334 to R357). -/

namespace Sys2Proof.Machine
open Sys2Proof

/-! KEY_WRITE (R336, R352). -/

theorem bodyKeyWrite_written {c : Cmd} {s : State} {p : List Byte} {k i : Nat} (hc : c.req.payload = p) (hk : k = rd p 0 1)
    (hk1 : 1 ≤ k) (hk3 : k ≤ 3) (hl : p.length = 12 + keyLen k) (hr : rd p 1 1 &&& maskAllowed k = rd p 1 1) (hi : i = rd p 2 2)
    (hslot : i < slotCount k)
    (hig : if k = 1 then rd p 4 4 = 0 else if k = 2 then rd p 4 4 ≤ 254 else 1 ≤ rd p 4 4 ∧ rd p 4 4 < 268435456)
    (hz : rd p 8 4 = 0) (hv : (keySlot s k i).valid = false) (hg : indexGenOk s k i (rd p 4 4) = true)
    (hf : s.key.rngFault = false) :
    bodyKeyWrite c s = ok (writeKey k i (rd p 1 1) (rd p 4 4) (p.drop 12) s)
      (checkValue (p.drop 12) ++ [0] ++ le 4 s.key.wrapGen) := by
  obtain ⟨hw, hgen⟩ := writeKey_slot k i (rd p 1 1) (rd p 4 4) (p.drop 12) s
  have hlen : ¬(p.length ≠ 28 ∧ p.length ≠ 44) := by
    rw [hl, keyLen]
    split <;> decide
  simp only [bodyKeyWrite, hc, ← hk, ← hi]
  rw [if_neg hlen, checked_of_all (by simp [hk1, hk3]), if_neg (not_not.mpr hl),
    checked_of_all (by simpa [hr, hslot, zeroAt, hz] using hig), hv, if_neg Bool.false_ne_true, hg, if_neg (by decide), hf,
    if_neg Bool.false_ne_true, hw.check, fit_of_length (checkValue_length _), hgen]
  rfl

/-! KEY_INVALIDATE (R345, R347, R353). -/

/-- An emptied slot keeps its last generation (R334). -/
def emptied (x : KeySlot) : KeySlot := { lastGen := x.lastGen }

theorem destroySlot_empty {c i : Nat} {s : State} (h : (keySlot s c i).valid = false) : destroySlot c s i = s := by
  rw [destroySlot, h]
  rfl

/-- A VALID slot is emptied, whatever its descendants are. -/
theorem destroySlot_valid {c i : Nat} {s : State} (h : (keySlot s c i).valid = true) :
    keyTables (destroySlot c s i) = keyTables (setKeySlot c i (emptied (keySlot s c i)) s) ∧
      (destroySlot c s i).key.invalidating = s.key.invalidating := by
  have hrest := (setKeySlot_rest c i (emptied (keySlot s c i)) s).2.1
  unfold destroySlot
  extract_lets k s1
  have hk : (!k.valid) = false := by rw [show k.valid = true from h]; rfl
  rw [hk, if_neg Bool.false_ne_true]
  split
  · exact ⟨rfl, hrest⟩
  · split <;> exact ⟨rfl, hrest⟩

theorem destroySlot_same {c i : Nat} {s : State} (h : (keySlot s c i).valid = true) :
    keySlot (destroySlot c s i) c i = emptied (keySlot s c i) := by
  rw [keySlot_congr (destroySlot_valid h).1, keySlot_setKeySlot_same]

theorem destroySlot_other {c i j : Nat} (h : j ≠ i) (s : State) : keySlot (destroySlot c s i) c j = keySlot s c j := by
  cases hv : (keySlot s c i).valid with
  | false => rw [destroySlot_empty hv]
  | true => rw [keySlot_congr (destroySlot_valid hv).1, keySlot_setKeySlot_other h]

theorem destroySlot_invalidating (c i : Nat) (s : State) : (destroySlot c s i).key.invalidating = s.key.invalidating := by
  cases hv : (keySlot s c i).valid with
  | false => rw [destroySlot_empty hv]
  | true => exact (destroySlot_valid hv).2

/-- Slots emptied one after another, some named twice: each of the list ends empty, the others stay. -/
theorem foldl_destroySlot {c : Nat} {x : Nat → KeySlot} (l : List Nat) {s : State} (hx : ∀ i ∈ l, (x i).valid = true)
    (hs : ∀ i, keySlot s c i = x i ∨ keySlot s c i = emptied (x i)) (i : Nat) :
    keySlot (l.foldl (destroySlot c) s) c i = emptied (x i) ∨
      (i ∉ l ∧ keySlot (l.foldl (destroySlot c) s) c i = keySlot s c i) := by
  induction l generalizing s with
  | nil => exact .inr ⟨List.not_mem_nil, rfl⟩
  | cons a l ih =>
    obtain ⟨ha, hl⟩ := List.forall_mem_cons.mp hx
    have hsame : keySlot (destroySlot c s a) c a = emptied (x a) := by
      rcases hs a with h | h
      · rw [destroySlot_same (h ▸ ha), h]
      · rw [destroySlot_empty (by rw [h]; rfl), h]
    have hnext : ∀ j, keySlot (destroySlot c s a) c j = x j ∨ keySlot (destroySlot c s a) c j = emptied (x j) := by
      intro j
      by_cases hj : j = a
      · rw [hj]
        exact .inr hsame
      · rw [destroySlot_other hj]
        exact hs j
    rcases ih hl hnext with h | ⟨hn, h⟩
    · exact .inl h
    · by_cases hi : i = a
      · subst hi
        exact .inl (h.trans hsame)
      · exact .inr ⟨fun hm => (List.mem_cons.mp hm).elim hi hn, h.trans (destroySlot_other hi s)⟩

/-- Slots that were VALID are empty, and the command waits for its flash write. -/
theorem startInvalidation_leaves {c : Nat} {l : List Nat} {s : State} (hl : ∀ i ∈ l, (keySlot s c i).valid = true) (id : Nat)
    (rotate : Bool) :
    (∀ i ∈ l, keySlot (startInvalidation id rotate c l s) c i = emptied (keySlot s c i)) ∧
      (startInvalidation id rotate c l s).key.invalidating =
        s.key.invalidating ++ [⟨id, rotate, l.map (fun i => (c, i, keySlot s c i))⟩] := by
  refine ⟨fun i hi => ?_, ?_⟩
  · rcases foldl_destroySlot l hl (fun _ => .inl rfl) i with h | ⟨hn, -⟩
    · exact h
    · exact absurd hi hn
  · exact congrArg (· ++ _) (foldl_keeps (fun s => s.key.invalidating) (fun s i => destroySlot_invalidating c i s) l s)

theorem emptyAt_none {s : State} {c : Nat} {l : List Nat} (h : ∀ i ∈ l, (keySlot s c i).valid = true) (n : Nat) :
    emptyAt s c n l = none := by
  induction l generalizing n with
  | nil => rfl
  | cons a l ih =>
    obtain ⟨ha, hl⟩ := List.forall_mem_cons.mp h
    rw [emptyAt, if_pos ha, ih hl]

theorem bodyKeyInvalidate_held {c : Cmd} {s : State} {p : List Byte} {k n : Nat} {l : List Nat} (hc : c.req.payload = p)
    (hk : k = rd p 0 1) (hk1 : 1 ≤ k) (hk3 : k ≤ 3) (hn : n = rd p 1 1) (hn1 : 1 ≤ n) (hn64 : n ≤ 64)
    (hl : p.length = 4 + 2 * n) (hz : rd p 2 2 = 0) (hs : l = (List.range n).map (fun i => rd p (4 + 2 * i) 2))
    (hv : ∀ i ∈ l, i < slotCount k ∧ (keySlot s k i).valid = true) (hg : s.key.wrapGen + s.key.invalidating.length < 65535) :
    bodyKeyInvalidate c s = held (startInvalidation c.id false k l s) := by
  have hlt : ∀ i < n, rd p (4 + 2 * i) 2 < slotCount k := fun i hi =>
    (hv _ (hs ▸ List.mem_map_of_mem (List.mem_range.mpr hi))).1
  simp only [bodyKeyInvalidate, hc, ← hk, ← hn, ← hs]
  rw [if_neg (by omega), checked_of_all, emptyAt_none fun i hi => (hv i hi).2]
  · exact if_neg (by simp [gensOut, hg])
  · simpa [hk1, hk3, hn1, hn64, zeroAt, hz] using hlt

/-! KEY_ATTR (R340, R341, R355). -/

/-- Only link keys and the count of refused requests may differ, and of the link keys only those of port `p`. -/
structure LinksAt (p : Nat) (s t : State) : Prop where
  slots : keyTables t = keyTables s
  fur : t.fur = s.fur
  other : ∀ q, q ≠ p → t.pk q = s.pk q

namespace LinksAt
variable {p : Nat} {s t u : State}

theorem refl (s : State) : LinksAt p s s := ⟨rfl, rfl, fun _ _ => rfl⟩

theorem trans (h : LinksAt p s t) (k : LinksAt p t u) : LinksAt p s u :=
  ⟨k.slots.trans h.slots, k.fur.trans h.fur, fun q hq => (k.other q hq).trans (h.other q hq)⟩

theorem setPk (s : State) (x : PortKeys) : LinksAt p s (s.setPk p x) := ⟨rfl, rfl, setPk_pk_other s p x⟩

end LinksAt

theorem deriveLink_links (p ix q : Nat) (s : State) : LinksAt q s (deriveLink p ix s).2 := by
  unfold deriveLink
  split
  · exact .refl s
  · split
    · exact .refl s
    · extract_lets k x
      split
      · exact ⟨rfl, rfl, fun _ _ => rfl⟩
      · exact ⟨rfl, rfl, fun _ _ => rfl⟩

theorem assignNow_links (p ix : Nat) (s : State) : LinksAt p s (assignNow p s ix) ∧ ((assignNow p s ix).pk p).sendIdx = ix :=
  ⟨(deriveLink_links p ix p s).trans (.setPk _ _), congrArg PortKeys.sendIdx (setPk_pk_same ..)⟩

theorem foldl_assignNow_links (p : Nat) (l : List Nat) (s : State) : LinksAt p s (l.foldl (assignNow p) s) := by
  induction l generalizing s with
  | nil => exact .refl s
  | cons ix l ih => exact (assignNow_links p ix s).1.trans (ih _)

/-- An assigned index waits last in the port's list, or is the one that the port sends under. -/
def Assigned (old : List Nat) (ix : Nat) (k : PortKeys) : Prop := k.nextIdx = old ++ [ix] ∨ k.sendIdx = ix

theorem assignIndex_links (ix p : Nat) (s : State) :
    LinksAt p s (assignIndex ix s p) ∧ Assigned (s.pk p).nextIdx (ix + 1) ((assignIndex ix s p).pk p) := by
  unfold assignIndex
  extract_lets k s1
  have h1 : LinksAt p s s1 := .setPk s _
  have hpk : (s1.pk p).nextIdx = (s.pk p).nextIdx ++ [ix + 1] := congrArg PortKeys.nextIdx (setPk_pk_same ..)
  split
  · refine ⟨(h1.trans (.setPk _ _)).trans (foldl_assignNow_links ..), .inr ?_⟩
    rw [applyLinkIndex, hpk, List.foldl_concat]
    exact (assignNow_links ..).2
  · exact ⟨h1, .inl hpk⟩

theorem foldl_assignIndex_tables (ix : Nat) (l : List Nat) (s : State) :
    keyTables (l.foldl (assignIndex ix) s) = keyTables s :=
  foldl_keeps keyTables (fun s p => (assignIndex_links ix p s).1.slots) l s

/-- Each port of a list is assigned the index. -/
theorem foldl_assignIndex_assigned (ix : Nat) {l : List Nat} (hl : l.Nodup) (s : State) :
    ∀ p ∈ l, Assigned (s.pk p).nextIdx (ix + 1) ((l.foldl (assignIndex ix) s).pk p) := by
  intro p hp
  obtain ⟨u, hu, ht⟩ := foldl_local (g := fun p s => s.pk p)
    (fun s a b hb => (assignIndex_links ix a s).1.other b hb) hl s p hp
  rw [← hu, ht]
  exact (assignIndex_links ix p u).2

/-- What KEY_ATTR does: the mask, and the index to the ports of a link master slot. -/
def attrWritten (k i r first n : Nat) (s : State) : State :=
  let s1 := keepSlots (setKeySlot k i { keySlot s k i with recipients := r } s)
  if k = 2 then ((List.range n).map (first + ·)).foldl (assignIndex (keySlot s k i).indexGen) s1 else s1

theorem attrWritten_leaves (k i r first n : Nat) (s : State) :
    keySlot (attrWritten k i r first n s) k i = { keySlot s k i with recipients := r } ∧
      (k = 2 → ∀ j ∈ List.range n, Assigned (s.pk (first + j)).nextIdx ((keySlot s k i).indexGen + 1)
        ((attrWritten k i r first n s).pk (first + j))) := by
  obtain ⟨a, b, f, hkey⟩ := keepSlots_key (setKeySlot k i { keySlot s k i with recipients := r } s)
  unfold attrWritten
  extract_lets k0 s1
  have ht : keyTables s1 = keyTables (setKeySlot k i { keySlot s k i with recipients := r } s) := by
    rw [keyTables, hkey]
    rfl
  have hslot : keySlot s1 k i = { keySlot s k i with recipients := r } := by
    rw [keySlot_congr ht, keySlot_setKeySlot_same]
  have hpk : ∀ p, s1.pk p = s.pk p := by
    intro p
    have h : s1.key.portKeys = s.key.portKeys := by
      rw [hkey]
      exact (setKeySlot_rest k i _ s).2.2
    rw [State.pk, h]
    rfl
  split
  next hk =>
    refine ⟨by rw [keySlot_congr (foldl_assignIndex_tables ..), hslot], fun _ j hj => ?_⟩
    rw [← hpk]
    refine foldl_assignIndex_assigned _ ?_ _ _ (List.mem_map_of_mem hj)
    exact List.nodup_range.map (fun _ _ h => Nat.add_left_cancel h)
  next hk => exact ⟨hslot, fun h => absurd h hk⟩

theorem bodyKeyAttr_written {c : Cmd} {s : State} {p : List Byte} {k i : Nat} (hc : c.req.payload = p) (hl : p.length = 12)
    (hk : k = rd p 0 1) (hk1 : 1 ≤ k) (hk3 : k ≤ 3) (hi : i = rd p 2 2) (hslot : i < slotCount k) (hf : rd p 4 2 < 1024)
    (hn : rd p 6 2 ≤ 1024) (hfn : rd p 4 2 + rd p 6 2 ≤ 1024) (hz : rd p 8 4 = 0) (hv : (keySlot s k i).valid = true)
    (hr : rd p 1 1 &&& (keySlot s k i).recipients = rd p 1 1) :
    bodyKeyAttr c s = ok (attrWritten k i (rd p 1 1) (rd p 4 2) (rd p 6 2) s)
      (keyRecord (attrWritten k i (rd p 1 1) (rd p 4 2) (rd p 6 2) s) k i) := by
  simp only [bodyKeyAttr, hc, ← hk, ← hi]
  rw [if_neg (not_not.mpr hl), checked_of_all (by simp [hk1, hk3, hslot, hf, hn, hfn, zeroAt, hz]),
    if_neg (by simp [hv]), checked_of_all (by simp [hr])]
  rfl

/-! NTS_MASTER_ROTATE (R344, R357). -/

theorem bodyNtsMasterRotate_new {c : Cmd} {s : State} {p : List Byte} {i : Nat} (hc : c.req.payload = p) (hl : p.length = 4)
    (hi : i = rd p 0 1) (hi16 : i < 16) (hz : rd p 2 2 = 0) (hv : (keySlot s 3 i).valid = true) (hf : s.key.rngFault = false)
    (hr : rd p 1 1 = 255) :
    bodyNtsMasterRotate c s = ok { s with key := { s.key with rolesNext := some i } }
      ((rolesAfter s i).flatMap (fun r => le 1 r)) := by
  have hne : ¬(255 : Nat) < 16 := by decide
  simp only [bodyNtsMasterRotate, hc, ← hi, hr]
  rw [if_neg (not_not.mpr hl), checked_of_all (by simp [hi16, zeroAt, hz]; omega), hv, hf]
  simp [hne]

/-! EPOCH_ROLL (R338). -/

theorem rollEpoch_epoch (s : State) (n : Nat) : (rollEpoch s n).key.epoch = s.key.epoch := by
  unfold rollEpoch
  split <;> rfl

theorem epochRoll_epoch {s : State} (h : epochNow s ≠ s.key.epoch) : (epochRoll s).key.epoch = epochNow s := by
  unfold epochRoll
  extract_lets n ts k s1
  rw [if_neg h]
  split
  · exact foldl_keeps (fun s => s.key.epoch) rollEpoch_epoch ts s1
  · exact foldl_keeps (fun s => s.key.epoch) (fun s t => (deriveEpochs_tenant s t).2.2) ts s1

/-! HARROW_VISIT (R348). -/

/-- The slots, the visits' cycle counts and the position, which a visit of a port's link keys leaves. -/
def harrowView (s : State) := (s.key.tenants, s.key.cycles, s.key.fCycles)

theorem visitPort_view (s : State) (p : Nat) : harrowView (visitPort s p) = harrowView s := by
  unfold visitPort
  extract_lets k a b
  have ha : harrowView a.2 = harrowView s := by
    unfold a
    split <;> rfl
  have hb : harrowView b.2 = harrowView a.2 := by
    unfold b
    split <;> rfl
  exact hb.trans ha

/-- A visit that is due: the position is visited and the next one follows; at the last a cycle ends. -/
theorem harrowVisit_due {s : State} (hp : s.key.paused = false) (hs : s.pwr.sState ≠ 0)
    (hd : s.key.lastVisit + 15625000 ≤ s.now) :
    let u := visitPosition s.key.position s
    let t := harrowVisit s
    t.key.position = (s.key.position + 1) % 16384 ∧ t.key.lastVisit = s.key.lastVisit + 15625000 ∧
      t.key.tenants = u.key.tenants ∧
      t.key.cycles = (if s.key.position = 16383 then satInc sat32 u.key.cycles else u.key.cycles) ∧
      t.key.fCycles = (if s.key.position = 16383 then u.key.fCycles.map (satInc sat32) else u.key.fCycles) := by
  intro u t
  have hgo : (s.key.paused || decide (s.pwr.sState = 0) || decide (s.now < s.key.lastVisit + visitNs)) = false := by
    simp only [hp, hs, decide_false, Bool.or_self, Bool.false_or, decide_eq_false_iff_not, not_lt]
    exact hd
  have hview : harrowView (if s.key.position % 64 = 0 then
      [0, 1, 2, 3].foldl (fun t f => visitPort t (f * 256 + s.key.position / 64)) u else u) = harrowView u := by
    split
    · exact foldl_keeps harrowView (fun t f => visitPort_view t _) _ u
    · rfl
  simp only [harrowView, Prod.mk.injEq] at hview
  obtain ⟨ht, hc, hf⟩ := hview
  simp only [t, harrowVisit, hgo, Bool.false_eq_true, if_false, decide_eq_true_eq]
  exact ⟨trivial, rfl, ht, by rw [← hc], by rw [← hf]⟩

theorem harrowVisit_tenant {s : State} (hp : s.key.paused = false) (hs : s.pwr.sState ≠ 0)
    (hd : s.key.lastVisit + 15625000 ≤ s.now) (hn : s.key.position < 4096) (hv : (s.tenant s.key.position).valid = true)
    (h1 : (s.tenant s.key.position).shares.s1.length = 16) (h2 : (s.tenant s.key.position).shares.s2.length = 16) :
    ((harrowVisit s).tenant s.key.position).shares.open_ = (s.tenant s.key.position).shares.open_ ∧
      (harrowVisit s).key.cycles = s.key.cycles := by
  obtain ⟨-, -, ht, hc, -⟩ := harrowVisit_due hp hs hd
  have hvisit : visitPosition s.key.position s = ({ s with free := s.free + 1 } : State).setTenant s.key.position
      { s.tenant s.key.position with shares := remask (s.tenant s.key.position).shares (drawRandom 16 s).1 } := by
    simp only [visitPosition, hn, if_true, visitShares, hv]
    rfl
  rw [hvisit] at ht hc
  refine ⟨?_, hc.trans (if_neg (by omega))⟩
  rw [State.tenant, ht]
  refine (congrArg (fun k : KeySlot => k.shares.open_) (tget_tset_same ..)).trans (remask_open ?_ ?_)
  · exact h1.trans (fit_length ..).symm
  · exact h2.trans (fit_length ..).symm

/-! WRAPPED_STORE_WRITTEN (R347). -/

/-- The state in which the new image has been written. -/
def storeWritten (g : Nat) (rest : List Invalidation) (s : State) : State :=
  let t := { s with key := { s.key with wrapGen := g, invalidating := rest } }
  writeArea (wrapImage t g) t

theorem storeWritten_key (g : Nat) (rest : List Invalidation) (s : State) :
    (storeWritten g rest s).key.wrapGen = g ∧ (storeWritten g rest s).key.invalidating = rest ∧
      ((storeWritten g rest s).key.areaA =
          some (wrapImage { s with key := { s.key with wrapGen := g, invalidating := rest } } g) ∨
        (storeWritten g rest s).key.areaB =
          some (wrapImage { s with key := { s.key with wrapGen := g, invalidating := rest } } g)) := by
  obtain ⟨a, b, hkey, harea⟩ := writeArea_key (wrapImage { s with key := { s.key with wrapGen := g, invalidating := rest } } g)
    { s with key := { s.key with wrapGen := g, invalidating := rest } }
  simp only [storeWritten, hkey]
  exact ⟨trivial, trivial, harea⟩

theorem storeWritten_within (g : Nat) (rest : List Invalidation) (s : State) :
    Within [.bus, .key, .regs] s (storeWritten g rest s) :=
  Within.op (writeArea_within ..) rfl (Within.key (by decide) (Within.refl _ s))

/-- Settles O29: per command the row lemma with its body's answer, per event its effect. -/
theorem keysComplete : Obligations.KeysComplete := by
  unfold Obligations.KeysComplete
  refine ⟨?_, ?_, ?_, ?_, ?_, ?_, ?_, ?_, ?_, ?_⟩
  · intro rq s k i h hk hk1 hk3 hl hr hi hslot hig hz hv hg hf
    refine goes_of_ok_body bodyKeyWrite_within (by decide) h
      (bodyKeyWrite_written rfl hk hk1 hk3 hl hr hi hslot hig hz hv hg hf) fun l ha => ?_
    obtain ⟨hw, -⟩ := writeKey_slot k i (rd rq.payload 1 1) (rd rq.payload 4 4) (rq.payload.drop 12) (takeId s)
    exact ⟨hw.valid, hw.opens, hw.recipients, hw.indexGen, hw.check, ha⟩
  · intro rq s k n l h hk hk1 hk3 hn hn1 hn64 hl hz hs hv hg
    obtain ⟨hslots, hwait⟩ := startInvalidation_leaves (s := takeId s) (fun i hi => (hv i hi).2) s.kcp.nextId false
    exact goes_of_held_within h (bodyKeyInvalidate_held rfl hk hk1 hk3 hn hn1 hn64 hl hz hs hv hg)
      (startInvalidation_within ..) (by decide) fun _ hh => ⟨hh, hslots, hwait⟩
  · intro rq s k i n h hl hk hk1 hk3 hz hi hslot hn hn1 hnk hin hz6
    refine kcpRow_reads 0x0B03 bodyKeyStatus rq s _ h ?_
    simp only [bodyKeyStatus, rowCmd, ← hk, ← hi, ← hn]
    rw [if_neg (not_not.mpr hl), checked_of_all (by simp [hk1, hk3, hslot, hn1, hnk, hin, zeroAt, hz, hz6])]
    rfl
  · intro rq s k i h hl hk hk1 hk3 hi hslot hf hn hfn hz hv hr
    refine goes_of_ok_body bodyKeyAttr_within (by decide) h
      (bodyKeyAttr_written rfl hl hk hk1 hk3 hi hslot hf hn hfn hz hv hr) fun l ha => ?_
    obtain ⟨hattr, hports⟩ :=
      attrWritten_leaves k i (rd rq.payload 1 1) (rd rq.payload 4 2) (rd rq.payload 6 2) (takeId s)
    exact ⟨hattr, hports, ha⟩
  · exact fun rq s h hp => kcpRow_reads 0x0B05 bodyHarrowStatus rq s _ h (if_neg (not_not.mpr hp))
  · intro rq s i h hl hi hi16 hr hz hv hf
    exact goes_of_ok_body bodyNtsMasterRotate_within (by decide) h
      (bodyNtsMasterRotate_new rfl hl hi hi16 hz hv hf hr) fun _ ha => ⟨rfl, ha⟩
  · rintro s n rfl hn
    exact goes_done fun _ => epochRoll_epoch hn
  · rintro s n hp hs hd rfl hn hv h1 h2
    obtain ⟨hpos, hlast, -⟩ := harrowVisit_due hp hs hd
    obtain ⟨hopen, hcycles⟩ := harrowVisit_tenant hp hs hd hn hv h1 h2
    exact goes_done fun _ => ⟨hpos.trans (Nat.mod_eq_of_lt (by omega)), hlast, hopen, hcycles⟩
  · intro s
    obtain ⟨hstatus, hcond⟩ := setCond_true_flt 3 2 { s with key := { s.key with rngFault := true, paused := true } }
    exact goes_done fun _ => ⟨((setCond_within ..).keeps .key (by decide)).symm, hstatus, hcond⟩
  · rintro s x rest k g hx rfl hrot hk hlost hno
    have hw := storeWritten_within (s.key.wrapGen + 1) rest s
    obtain ⟨hgen, hrest, harea⟩ := storeWritten_key (s.key.wrapGen + 1) rest s
    have heq : wrappedStoreWritten s = answerHeld x.slotId (fun _ t => ok t (le 4 t.key.wrapGen ++ le 4 (gensLeft t)))
        (storeWritten (s.key.wrapGen + 1) rest s) := by
      simp only [wrappedStoreWritten, hx, hrot, Bool.false_eq_true, if_false]
      rfl
    change Goes (doneHeld s (wrappedStoreWritten s)) _
    have hkcp : s.kcp = (storeWritten (s.key.wrapGen + 1) rest s).kcp := hw.keeps .kcp (by decide)
    rw [heq]
    refine goes_doneHeld_answered (p := le 4 (s.key.wrapGen + 1) ++ le 4 (65535 - (s.key.wrapGen + 1)))
      (by rw [← hkcp]) (by rw [← hkcp]; exact hk) hlost hno (fun l => ?_) fun l hl => ?_
    · simp only [gensLeft, hgen]
    · exact ⟨hgen, hrest, fun u hu => List.mem_singleton.mp hu ▸ harea, by rw [← hw.now_eq]; exact hl⟩

/-! Further forms (R338, R344, R348). -/

theorem bodyNtsMasterRotate_retires {c : Cmd} {s : State} {p : List Byte} {i j : Nat} (hc : c.req.payload = p)
    (hl : p.length = 4) (hi : i = rd p 0 1) (hi16 : i < 16) (hj : j = rd p 1 1) (hj16 : j < 16) (hji : j ≠ i)
    (hz : rd p 2 2 = 0) (hvi : (keySlot s 3 i).valid = true) (hvj : (keySlot s 3 j).valid = true)
    (hrole : (keySlot s 3 j).role ≠ 2) (hf : s.key.rngFault = false)
    (hg : s.key.wrapGen + s.key.invalidating.length < 65535) :
    bodyNtsMasterRotate c s =
      held (startInvalidation c.id true 3 [j] { s with key := { s.key with rolesNext := some i } }) := by
  have hroles : ¬(j < 16 ∧ ((keySlot s 3 j).role = 2 ∨ (!(keySlot s 3 j).valid) = true)) := by simp [hrole, hvj]
  have hgens : ¬(j < 16 ∧ gensOut s = true) := by simp [gensOut, hg]
  simp only [bodyNtsMasterRotate, hc, ← hi, ← hj]
  rw [if_neg (not_not.mpr hl), checked_of_all (by simp [hi16, hj16, hji, zeroAt, hz]), if_neg (by simp [hvi]),
    if_neg hroles, if_neg (by simp [hf]), if_neg hgens, if_pos hj16]

theorem destroySlot_rolesNext (c i : Nat) (s : State) : (destroySlot c s i).key.rolesNext = s.key.rolesNext := by
  have h : (setKeySlot c i (emptied (keySlot s c i)) s).key.rolesNext = s.key.rolesNext := by
    unfold setKeySlot
    split
    · rfl
    · split <;> rfl
  unfold destroySlot
  extract_lets k s1
  split
  · rfl
  · split
    · exact h
    · split <;> exact h

/-- The numbers of a canonical table are in order, and so differ. -/
theorem nodup_of_twfFrom {α : Type} [DecidableEq α] {d : α} {t : Tbl α} {lo : Nat} (h : twfFrom d lo t = true) :
    (t.map (·.1)).Nodup ∧ ∀ e ∈ t, lo ≤ e.1 := by
  induction t generalizing lo with
  | nil => exact ⟨List.nodup_nil, List.forall_mem_nil _⟩
  | cons e t ih =>
    obtain ⟨k, v⟩ := e
    simp only [twfFrom, Bool.and_eq_true, decide_eq_true_eq] at h
    obtain ⟨⟨hlo, -⟩, ht⟩ := h
    obtain ⟨hn, hge⟩ := ih ht
    refine ⟨List.nodup_cons.mpr ⟨fun hk => ?_, hn⟩, List.forall_mem_cons.mpr ⟨hlo, fun e he => ?_⟩⟩
    · obtain ⟨e, he, hek⟩ := List.mem_map.mp hk
      exact absurd (hge e he) (by rw [hek]; exact Nat.not_succ_le_self k)
    · exact (hlo.trans (Nat.le_succ k)).trans (hge e he)

/-- A number that a table does not list reads as the default. -/
theorem mem_of_tget_ne {α : Type} {d : α} {t : Tbl α} {i : Nat} (h : tget d t i ≠ d) : i ∈ t.map (·.1) := by
  induction t with
  | nil => exact absurd rfl h
  | cons e t ih =>
    obtain ⟨k, v⟩ := e
    by_cases hk : k = i
    · exact hk ▸ List.mem_cons_self
    · rw [tget, if_neg hk] at h
      exact List.mem_cons_of_mem _ (ih h)

theorem rollEpoch_other (s : State) (a b : Nat) (h : b ≠ a) : (rollEpoch s a).tenant b = s.tenant b := by
  unfold rollEpoch
  split
  · rfl
  · exact tget_tset_other _ _ _ _ _ h

theorem rollEpoch_same {s : State} {a : Nat} (h : (s.tenant a).valid = true) :
    ((rollEpoch s a).tenant a).epochCur = (s.tenant a).epochNext ∧ ((rollEpoch s a).tenant a).shares = (s.tenant a).shares := by
  have hroll : ∃ x, (rollEpoch s a).tenant a = { s.tenant a with epochCur := (s.tenant a).epochNext, epochNext := x } := by
    unfold rollEpoch
    rw [if_neg (by simp [h])]
    exact ⟨_, tget_tset_same ..⟩
  obtain ⟨x, hx⟩ := hroll
  rw [hx]
  exact ⟨rfl, rfl⟩

/-- At the next epoch the next key of a tenant becomes current. -/
theorem epochRoll_tenant {s : State} {i : Nat} (he : epochNow s = (s.key.epoch + 1) % 4294967296)
    (hw : twf {} s.key.tenants = true) (hv : (s.tenant i).valid = true) :
    ((epochRoll s).tenant i).epochCur = (s.tenant i).epochNext ∧ ((epochRoll s).tenant i).shares = (s.tenant i).shares := by
  have hne : epochNow s ≠ s.key.epoch := by omega
  have hi : i ∈ s.key.tenants.map (·.1) := mem_of_tget_ne fun h => by
    rw [State.tenant, h] at hv
    exact absurd hv (by decide)
  obtain ⟨u, hu, ht⟩ := foldl_local (g := fun i s => s.tenant i) rollEpoch_other (nodup_of_twfFrom hw).1
    { s with key := { s.key with epoch := epochNow s } } i hi
  have hroll : (epochRoll s).tenant i = (rollEpoch u i).tenant i := by
    have he' : epochNow s = (s.key.epoch + 1) % 2 ^ 32 := he
    rw [← ht, epochRoll, if_neg hne, if_pos he']
  have hui : u.tenant i = s.tenant i := hu
  rw [hroll, ← hui]
  exact rollEpoch_same (by rw [hui, hv])

/-- Settles O52: a rotation that retires a slot is held; a roll by one epoch; the last position's visit ends the cycle. -/
theorem keyForms : Obligations.KeyForms := by
  unfold Obligations.KeyForms
  refine ⟨?_, ?_, ?_⟩
  · intro rq s i j h hl hi hi16 hj hj16 hji hz hvi hvj hrole hf hg
    obtain ⟨hslots, hwait⟩ := startInvalidation_leaves (c := 3) (l := [j])
      (s := { takeId s with key := { s.key with rolesNext := some i } }) (List.forall_mem_singleton.mpr hvj) s.kcp.nextId true
    refine goes_of_held_within h (bodyNtsMasterRotate_retires rfl hl hi hi16 hj hj16 hji hz hvi hvj hrole hf hg)
      (Within.op (startInvalidation_within ..) rfl (Within.key (by decide) (Within.refl [.key] _))) (by decide)
      fun _ hh => ⟨destroySlot_rolesNext 3 j _, hslots j (List.mem_singleton_self j), hh, hwait⟩
  · intro s i he hw hv
    obtain ⟨hcur, hshares⟩ := epochRoll_tenant he hw hv
    exact goes_done fun _ => ⟨epochRoll_epoch (by omega), hcur, hshares⟩
  · intro s hp hs hd hn
    obtain ⟨hpos, -, -, hc, hf⟩ := harrowVisit_due hp hs hd
    have hvisit : visitPosition s.key.position s = s := by simp [visitPosition, hn]
    rw [hvisit, if_pos hn] at hc hf
    refine goes_done fun _ => ⟨hpos.trans (by rw [hn]), hc.trans (satInc_sat32 _), hf.trans ?_⟩
    exact List.map_congr_left fun x _ => satInc_sat32 x

end Sys2Proof.Machine
end

section
/-! SUPPORT. A MIRROR that does not carry the TAN_STATUS of the state before the report (R423, R424). -/

namespace Sys2Proof.Machine
open Sys2Proof

/-- ENABLE is set and the comparison is unchecked, which no report has told the S tile yet. -/
def uncheckedPair : State :=
  { State.reset with tan := { State.reset.tan with cfg := { State.reset.tan.cfg with flags := 1 }, cmp := { unchecked := true } } }

/-- The MIRROR's status byte 4 shows UNCHECKED of the report that it follows. -/
theorem outMirror_uncheckedPair : (tandemReport uncheckedPair).tan.outMirror[5]? = some 16 := by decide +kernel

/-- The status before the report does not show it. -/
theorem mirror_status_uncheckedPair :
    (withCrc (be 1 3 ++ tanStatusBytes uncheckedPair ++ be 8 uncheckedPair.kcp.g))[5]? = some 0 := by decide +kernel

/-- Refutes O32: its clause on TANDEM_REPORT gives the MIRROR the TAN_STATUS of the state before the row, but a report reaches the
S tile before the MIRROR is built (R424), and TAN_STATUS shows what it says of the comparison (R442). -/
theorem not_tandemComplete : ¬ Obligations.TandemComplete := by
  unfold Obligations.TandemComplete
  rintro ⟨-, -, -, -, -, -, -, -, -, -, -, -, -, hreport, -⟩
  obtain ⟨t, ht, -, -, hmirror⟩ := hreport uncheckedPair (by decide)
  obtain rfl := Host.Outcome.next.inj ht
  have h : (tandemReport uncheckedPair).tan.outMirror[5]? = some 0 :=
    (congrArg (fun l : List Byte => l[5]?) hmirror).trans mirror_status_uncheckedPair
  exact absurd (outMirror_uncheckedPair.symm.trans h) (by decide)

end Sys2Proof.Machine
end

section
/-! SUPPORT. Further forms of the tandem pair: a claim sent with a TAN_CLAIM_SET that it carries, and a claim or link lost
(R420 to R422, R443). -/

namespace Sys2Proof.Machine
open Sys2Proof

theorem tanConds_tan (s : State) : (tanConds s).tan = s.tan := ((tanConds_within s).keeps .tan (by decide)).symm

/-- What a check instant has judged of the claim line and the link. -/
def lineView (x : Tan) : Nat × Bool × Nat × Nat := (x.partner, x.lineOk, x.timeouts, x.missedWords)

theorem settleRole_lineView (s : State) : lineView (settleRole s).tan = lineView s.tan := rfl

theorem setDriving_lineView (v : Bool) (s : State) : lineView (setDriving v s).tan = lineView s.tan := by
  unfold setDriving
  split <;> rfl

theorem judgeTie_lineView (s : State) : lineView (judgeTie s).tan = lineView s.tan := rfl

theorem judgeDriver_lineView (s : State) : lineView (judgeDriver s).tan = lineView s.tan := by
  unfold judgeDriver
  extract_lets x n
  split
  · rfl
  · exact setDriving_lineView _ _

theorem decideClaim_lineView (s : State) : lineView (decideClaim s).tan = lineView s.tan := by
  unfold decideClaim
  rw [settleRole_lineView]
  split
  · exact setDriving_lineView _ _
  · rfl

theorem claimCheck_lineView {s : State} (h : tanOn s = true) (l : List (List Nat)) :
    lineView (claimCheck l s).tan = lineView (judgeClaim (l.findSome? claimOfLine) s).tan := by
  rw [claimCheck, if_neg (by simp [h]), tanConds_tan, settleRole_lineView, decideClaim_lineView, judgeDriver_lineView,
    judgeTie_lineView]

/-- Settles O54: the reads; a held claim answers at the claim it is sent with; the fourth miss in a row loses the line or the link. -/
theorem tandemForms : Obligations.TandemForms := by
  unfold Obligations.TandemForms
  refine ⟨?_, ?_, ?_, ?_, ?_⟩
  · exact fun rq s h hp => kcpRow_reads 0x0D01 bodyTanConfig rq s _ h (if_pos hp)
  · exact fun rq s h hp => kcpRow_reads 0x0D04 bodyTanCompareLimits rq s _ h (if_pos hp)
  · intro s i k hon hheld hk hlost hno
    have hsend : claimSend (comparisonOut s) = answerHeld i (fun _ u => ok u (claimReply u)) ((comparisonOut s).setTan
        { (comparisonOut s).tan with sentValid := true, sentClaim := s.tan.own
                                     outFrame := claimFrameBytes (comparisonOut s), claimsHeld := [] }) := by
      have hon' : tanOn (comparisonOut s) = true := hon
      have hheld' : (comparisonOut s).tan.claimsHeld = [i] := hheld
      rw [claimSend, if_neg (by simp [hon']), hheld']
      rfl
    change Goes (doneHeld s (claimSend (comparisonOut s))) _
    rw [hsend]
    exact goes_doneHeld_answered rfl hk hlost hno (fun _ => rfl) fun _ hl => ⟨rfl, rfl, hl⟩
  · intro s hon hframe hmiss hline
    have hview := claimCheck_lineView hon []
    refine goes_done fun _ => ?_
    have hjudge : lineView (judgeClaim none s).tan =
        (0, false, min 4294967295 (s.tan.timeouts + 1), min 4294967295 (s.tan.missedWords + 1)) := by
      simp [judgeClaim, State.setTan, lineView, hframe, hmiss, hline, satInc_sat32]
    have hall := hview.trans hjudge
    rw [lineView, Prod.mk.injEq, Prod.mk.injEq, Prod.mk.injEq] at hall
    exact hall
  · intro s hon hbad
    refine goes_done fun _ => ?_
    have hframe : (claimFrame none s).tan = (settleRole (s.setTan { s.tan with
        linkGood := 0, linkBad := 4, linkUp := false })).tan := by
      rw [claimFrame, if_neg (by simp [hon]), tanConds_tan]
      simp [hbad]
    exact ⟨congrArg Tan.linkUp hframe, congrArg Tan.linkBad hframe, congrArg Tan.linkGood hframe⟩

end Sys2Proof.Machine
end

section
/-! SUPPORT. Single bits of a bit set, and the words of one (R510). -/

namespace Sys2Proof.Machine
open Sys2Proof

/-- A power of two added where its bit is clear changes no other bit. -/
theorem testBit_two_pow_add_of_clear {x i j : Nat} (hi : x.testBit i = false) (h : j ≠ i) :
    (2 ^ i + x).testBit j = x.testBit j := by
  rcases Nat.lt_or_gt_of_ne h with hlt | hgt
  · exact Nat.testBit_two_pow_add_gt hlt x
  · obtain ⟨k, rfl⟩ := Nat.exists_eq_add_of_le' (Nat.succ_le_of_lt hgt)
    rw [Nat.testBit_add, Nat.testBit_add]
    have hmod : x % 2 ^ (i + 1) = x % 2 ^ i := by
      have hbit : x / 2 ^ i % 2 = 0 := by simpa [Nat.testBit_eq_decide_div_mod_eq] using hi
      rw [Nat.mod_pow_succ, hbit, Nat.mul_zero, Nat.add_zero]
    have hlt : 2 ^ i + x % 2 ^ (i + 1) < 2 ^ (i + 1) := by
      rw [hmod, Nat.pow_succ, Nat.mul_two]
      exact Nat.add_lt_add_left (Nat.mod_lt _ (Nat.two_pow_pos i)) _
    have hsplit : 2 ^ i + x = (2 ^ i + x % 2 ^ (i + 1)) + 2 ^ (i + 1) * (x / 2 ^ (i + 1)) := by
      rw [Nat.add_assoc, Nat.mod_add_div]
    rw [hsplit, Nat.add_mul_div_left _ _ (Nat.two_pow_pos _), Nat.div_eq_of_lt hlt, Nat.zero_add]

theorem bit_setBit_other {i j : Nat} (h : j ≠ i) (m : Nat) : bit (setBit m i) j = bit m j := by
  unfold bit setBit
  split
  · rfl
  next hi =>
    rw [Nat.add_comm]
    exact testBit_two_pow_add_of_clear (Bool.eq_false_of_not_eq_true hi) h

theorem bit_clrBit_other {i j : Nat} (h : j ≠ i) (m : Nat) : bit (clrBit m i) j = bit m j := by
  have hclear := bit_clrBit m i
  unfold bit clrBit at *
  split
  next hi =>
    rw [if_pos hi] at hclear
    have hm : 2 ^ i + (m - 2 ^ i) = m := Nat.add_sub_cancel' (Nat.ge_two_pow_of_testBit hi)
    rw [← testBit_two_pow_add_of_clear hclear h, hm]
  · rfl

/-- Bits of one word cleared where a condition holds. -/
theorem bit_foldl_clrBit (c : Nat → Bool) (k m n j : Nat) :
    bit ((List.range n).foldl (fun a i => if c i then clrBit a (k + i) else a) m) j =
      (bit m j && !(decide (k ≤ j ∧ j < k + n) && c (j - k))) := by
  induction n with
  | zero =>
    have hno : decide (k ≤ j ∧ j < k + 0) = false := decide_eq_false (by omega)
    rw [hno]
    simp
  | succ n ih =>
    rw [List.range_succ, List.foldl_concat]
    by_cases hj : j = k + n
    · subst hj
      cases hc : c n with
      | true => simp [hc]
      | false => simp [hc, ih]
    · have hrest : bit (if c n then clrBit ((List.range n).foldl (fun a i => if c i then clrBit a (k + i) else a) m) (k + n)
          else (List.range n).foldl (fun a i => if c i then clrBit a (k + i) else a) m) j =
          bit ((List.range n).foldl (fun a i => if c i then clrBit a (k + i) else a) m) j := by
        split
        · exact bit_clrBit_other hj _
        · rfl
      have hlt : (k ≤ j ∧ j < k + (n + 1)) ↔ (k ≤ j ∧ j < k + n) := by omega
      rw [hrest, ih, decide_eq_decide.mpr hlt]

end Sys2Proof.Machine
end
section
/-! SUPPORT. The commands of faults, interrupt groups and counters (R510 to R529). -/

namespace Sys2Proof.Machine
open Sys2Proof

theorem Answered.congr {op : Nat} {rq : Request} {p q : List Byte} {s t : State} (h : Answered op rq p s t) (hpq : p = q) :
    Answered op rq q s t := hpq ▸ h

theorem Within.flt_eq {ps : List Part} {s t : State} (h : Within ps s t) (hp : Part.regs ∉ ps) (b : Nat) : t.flt b = s.flt b := by
  rw [State.flt, ← (show s.regs = t.regs from h.keeps .regs hp)]
  rfl

/-! FAULT_CLEAR (R509, R512, R525). -/

/-- The word's bits that no condition holds are cleared; conditions and mask stay. -/
theorem clearWord_flt (b w bits : Nat) (s : State) :
    ((clearWord b w bits s).flt b).cond = (s.flt b).cond ∧ ((clearWord b w bits s).flt b).mask = (s.flt b).mask ∧
      ∀ i ∈ List.range 32, bit ((clearWord b w bits s).flt b).status (32 * w + i) =
        (bit (s.flt b).status (32 * w + i) && !(bit bits i && !bit (s.flt b).cond (32 * w + i))) := by
  unfold clearWord
  extract_lets f st f1
  rw [setFlt_flt_same]
  have hst : ∀ i ∈ List.range 32, bit st (32 * w + i) =
      (bit f.status (32 * w + i) && !(bit bits i && !bit f.cond (32 * w + i))) := by
    intro i hi
    have hi := List.mem_range.mp hi
    have h := bit_foldl_clrBit (fun i => bit bits i && !bit f.cond (32 * w + i)) (32 * w) f.status 32 (32 * w + i)
    rw [show st = _ from rfl, h]
    simp [hi]
  split <;> exact ⟨rfl, rfl, hst⟩

/-- A furrow port that leaves its delay measurements behind raises no drift. -/
theorem driftUpdate_flt {p : Nat} {s : State} (h : (s.port p).st.delay = none) (b : Nat) : (driftUpdate p s).flt b = s.flt b := by
  unfold driftUpdate
  simp only [h, Bool.false_and, Bool.false_eq_true, if_false]
  split <;> rfl

theorem enterCal_flt (p : Nat) (s : State) (b : Nat) : (enterCal p s).flt b = s.flt b :=
  driftUpdate_flt (by rw [setPort_port_same]; rfl) b

theorem furFaultCleared_flt (p : Nat) (s : State) (b : Nat) : (furFaultCleared p s).flt b = s.flt b := by
  unfold furFaultCleared
  split
  · exact enterCal_flt p s b
  · rfl

theorem furLeaveSafe_flt (p : Nat) (s : State) (b : Nat) : (furLeaveSafe p s).flt b = s.flt b := by
  unfold furLeaveSafe
  split
  · exact enterCal_flt p _ b
  · rfl

theorem resumeSafe_flt (c before : Nat) (s : State) (b : Nat) : (resumeSafe c before s).flt b = s.flt b := by
  unfold resumeSafe
  extract_lets left
  split
  · refine foldl_keeps (fun s => s.flt b) (fun s p => ?_) _ s
    split
    · exact (ethLeaveSafe_within p s).flt_eq (by decide) b
    · rfl
  · split
    · refine foldl_keeps (fun s => s.flt b) (fun s p => ?_) _ s
      split
      · exact furLeaveSafe_flt _ s b
      · rfl
    · rfl

theorem faultClear_flt (b w bits : Nat) (s : State) : (faultClear b w bits s).flt b = (clearWord b w bits s).flt b := by
  unfold faultClear
  extract_lets t cleared u
  rw [resumeSafe_flt]
  unfold u
  split
  · exact foldl_keeps (fun s => s.flt b) (fun s n => furFaultCleared_flt _ s b) _ t
  · rfl

/-! IRQ_GROUP_CONFIG (R516, R517, R526). -/

theorem refreshSb_irqG (g : Nat) (s : State) : (refreshSb s).irqG g = s.irqG g := rfl

theorem rd_withByte_one {v : Nat} {rq : Request} (hl : 1 < rq.payload.length) (hv : v < 256) :
    rd (withByte 1 v rq).payload 1 1 = v := by
  obtain ⟨a, b, l, hp⟩ : ∃ a b l, rq.payload = a :: b :: l := by
    match h : rq.payload with
    | [] => simp [h] at hl
    | [a] => simp [h] at hl
    | a :: b :: l => exact ⟨a, b, l, rfl⟩
  simp [rd, withByte, hp, leVal, Nat.mod_eq_of_lt hv]

theorem withByte_length (off v : Nat) (rq : Request) : (withByte off v rq).payload.length = rq.payload.length := List.length_set

theorem sourcesOk_checked {g : Nat} {p : List Byte}
    (h : ∀ k ∈ List.range 32, rd p (8 + k) 1 < 2 ^ min 8 (irqSources g - 8 * k)) : ∀ c ∈ sourcesOk g p, c.2 = true := by
  intro c hc
  obtain ⟨k, hk, rfl⟩ := List.mem_map.mp hc
  exact decide_eq_true (h k hk)

/-- An ACTION 0 record (R526). -/
theorem bodyIrqGroupConfig_config {c : Cmd} {s : State} {p : List Byte} {g : Nat} (hc : c.req.payload = p) (hl : p.length = 48)
    (hg : g = rd p 0 1) (ha : rd p 1 1 = 0) (hg8 : g ≤ 8) (hf : rd p 2 1 < 4) (hside : g ≠ 0 ∨ bit (rd p 2 1) 1 = false)
    (hhold : rd p 4 2 ≤ 1000) (hz : rd p 6 2 = 0)
    (hsrc : ∀ k ∈ List.range 32, rd p (8 + k) 1 < 2 ^ min 8 (irqSources g - 8 * k)) (hz40 : rd p 40 8 = 0) :
    bodyIrqGroupConfig c s = ok (refreshSb (s.setIrq g (irqConfigure g p (s.irqG g))))
      (irqBytes g (irqConfigure g p (s.irqG g)) (irqConfigure g p (s.irqG g))) := by
  have hside' : (g != 0 || !bit (rd p 2 1) 1) = true := by simpa using hside
  simp only [bodyIrqGroupConfig, hc, ← hg, ha]
  rw [if_neg (by omega), if_neg (by omega), checked_of_all, if_neg (by decide)]
  simp only [List.forall_mem_append, List.forall_mem_singleton]
  exact ⟨⟨by simp [hg8, hf, hside', hhold, zeroAt, hz], sourcesOk_checked hsrc⟩, by simp [zeroAt, hz40]⟩

/-- An ACTION 1 record (R517, R526). -/
theorem bodyIrqGroupConfig_ack {c : Cmd} {s : State} {p : List Byte} {g : Nat} (hc : c.req.payload = p) (hl : p.length = 48)
    (hg : g = rd p 0 1) (ha : rd p 1 1 = 1) (hg8 : g ≤ 8) (hz : rd p 6 2 = 0)
    (hsrc : ∀ k ∈ List.range 32, rd p (8 + k) 1 < 2 ^ min 8 (irqSources g - 8 * k)) (hz40 : rd p 40 8 = 0) :
    bodyIrqGroupConfig c s = ok (refreshSb (s.setIrq g (acknowledgeAll (s.irqG g) (irqSources g) (rd p 8 32))))
      (irqBytes g (s.irqG g) (s.irqG g)) := by
  simp only [bodyIrqGroupConfig, hc, ← hg, ha]
  rw [if_neg (by omega), if_neg (by omega), checked_of_all, if_pos trivial]
  simp only [List.forall_mem_append, List.forall_mem_singleton]
  exact ⟨⟨by simp [hg8, zeroAt, hz], sourcesOk_checked hsrc⟩, by simp [zeroAt, hz40]⟩

/-! PERF_FILTER (R522, R528). -/

/-- The state in which a filter is written and its counter is zero. -/
def filterWritten (i : Nat) (f : Filter) (s : State) : State :=
  { s with regs := { s.regs with filters := tset {} s.regs.filters i f, perf := tset {} s.regs.perf (0x0800 + i) {} } }

theorem filterWritten_regs (i : Nat) (f : Filter) (s : State) :
    tget ({} : Filter) (filterWritten i f s).regs.filters i = f ∧ tget ({} : Perf) (filterWritten i f s).regs.perf (0x0800 + i) = {} :=
  ⟨tget_tset_same .., tget_tset_same ({} : Perf) s.regs.perf (0x0800 + i) {}⟩

theorem bodyPerfFilter_written {c : Cmd} {s : State} {p : List Byte} {i : Nat} (hc : c.req.payload = p) (hl : p.length = 32)
    (hi : i = rd p 0 1) (hi63 : i ≤ 63) (hfam : rd p 1 1 ≤ 3 ∨ rd p 1 1 = 0xFF) (hdir : rd p 2 1 < 4) (hpriv : rd p 4 1 < 8)
    (hz5 : rd p 5 1 = 0) (hports : rd p 8 2 < 512) (hz10 : rd p 10 2 = 0) (hreq : rd p 12 4 < 2 ^ 17) (hres : rd p 16 1 < 4)
    (hz17 : rd p 17 3 = 0) (hlo : rd p 20 4 < rd p 24 4) (hz28 : rd p 28 4 = 0) :
    bodyPerfFilter c s = ok (filterWritten i (filterParse p) s) (filterBytes i (filterParse p)) := by
  have hfam' : (decide (rd p 1 1 ≤ 3) || decide (rd p 1 1 = 0xFF)) = true := by simpa using hfam
  simp only [bodyPerfFilter, hc, ← hi]
  rw [if_neg (by omega), checked_of_all (by simp [hi63]), if_neg (by omega), checked_of_all]
  · rfl
  · simp only [hfam', hdir, hpriv, hports, hreq, hres, hlo, zeroAt, hz5, hz10, hz17, hz28]
    simp

/-- Settles O37: the reads by their bodies; a clear through `clearWord`; a record or an acknowledgement stands in the group. -/
theorem faultInterruptCounterCommandsComplete : Obligations.FaultInterruptCounterCommandsComplete := by
  unfold Obligations.FaultInterruptCounterCommandsComplete
  refine ⟨?_, ?_, ?_, ?_, ?_, ?_, ?_⟩
  · intro rq b w n s h hl hb hw hn hz hb12 hn1 hwn
    refine kcpRow_reads 0x1101 bodyFaultRead rq s _ h ?_
    simp only [bodyFaultRead, rowCmd, ← hb, ← hw, ← hn]
    rw [if_neg (not_not.mpr hl), checked_of_all (by simp [hb12, hn1, hwn, zeroAt, hz]; omega)]
    rfl
  · intro rq b w s h hl hb hw hz hb12 hw63
    have hbody : bodyFaultClear (rowCmd 0x1102 rq s) (takeId s) =
        ok (faultClear b w (rd rq.payload 4 4) (takeId s))
          (le 4 (word32 ((faultClear b w (rd rq.payload 4 4) (takeId s)).flt b).status w)) := by
      simp only [bodyFaultClear, rowCmd, ← hb, ← hw]
      rw [if_neg (not_not.mpr hl), checked_of_all (by simp [hb12, hw63, zeroAt, hz])]
    refine goes_of_ok_body bodyFaultClear_within (by decide) h hbody fun k ha => ?_
    have hflt := faultClear_flt b w (rd rq.payload 4 4) (takeId s)
    obtain ⟨hcond, hmask, hstatus⟩ := clearWord_flt b w (rd rq.payload 4 4) (takeId s)
    refine ⟨fun i hi => ?_, ?_, ?_, ha⟩
    · exact (congrArg (fun f : Flt => bit f.status (32 * w + i)) hflt).trans (hstatus i hi)
    · exact (congrArg Flt.cond hflt).trans hcond
    · exact (congrArg Flt.mask hflt).trans hmask
  · rintro rq q g s rfl h hl hg hg8 hf hside hhold hz hsrc hz40
    have ha : rd (withByte 1 0 rq).payload 1 1 = 0 :=
      rd_withByte_one (by rw [← withByte_length 1 0, hl]; decide) (by decide)
    have hirq : State.irqG (refreshSb ((takeId s).setIrq g (irqConfigure g (withByte 1 0 rq).payload (s.irqG g)))) g = _ :=
      setIrq_irqG_same ..
    refine goes_of_ok_body bodyIrqGroupConfig_within (by decide) h
      (bodyIrqGroupConfig_config rfl hl hg ha hg8 hf hside hhold hz hsrc hz40) fun k hr => ⟨hirq, ?_⟩
    exact Answered.congr hr (congrArg (fun x => irqBytes g x x) hirq).symm
  · rintro rq q g s rfl h hl hg hg8 hz hsrc hz40
    have ha : rd (withByte 1 1 rq).payload 1 1 = 1 :=
      rd_withByte_one (by rw [← withByte_length 1 1, hl]; decide) (by decide)
    exact goes_of_ok_body bodyIrqGroupConfig_within (by decide) h
      (bodyIrqGroupConfig_ack rfl hl hg ha hg8 hz hsrc hz40) fun k hr => ⟨setIrq_irqG_same .., hr⟩
  · intro rq b w s h hl hb hw hz hb12 hw63
    refine kcpRow_reads 0x1104 bodyFltPinMask rq s _ h ?_
    simp only [bodyFltPinMask, rowCmd, ← hb, ← hw, hl]
    rw [if_neg (by decide), checked_of_all (by simp [hb12, hw63, zeroAt, hz])]
    rfl
  · intro rq i s h hl hi hi63 hfam hdir hpriv hz5 hports hz10 hreq hres hz17 hlo hz28
    obtain ⟨hfilter, hperf⟩ := filterWritten_regs i (filterParse rq.payload) (takeId s)
    exact goes_of_ok_body bodyPerfFilter_within (by decide) h
      (bodyPerfFilter_written rfl hl hi hi63 hfam hdir hpriv hz5 hports hz10 hreq hres hz17 hlo hz28)
      fun k hr => ⟨hfilter, hperf, hr⟩
  · intro rq f n s h hl hf hn hn1 hn256 hfn hclr hz
    refine kcpRow_reads 0x0F04 bodyPerfRead rq s _ h ?_
    simp only [bodyPerfRead, rowCmd, ← hf, ← hn, hclr]
    rw [if_neg (not_not.mpr hl), checked_of_all (by simp [hn1, hn256, hfn, zeroAt, hz]; omega), if_neg (by decide)]
    rfl

end Sys2Proof.Machine
end

section
/-! SUPPORT. Further forms of the registers: host accesses, deliveries of interrupt groups, words of a bit set (R499 to R529). -/

namespace Sys2Proof.Machine
open Sys2Proof

/-! A host's access (R473, R522). -/

/-- The state without what the filtered counters have counted. -/
def sansPerf (s : State) : State := { s with regs := { s.regs with perf := [] } }

theorem countAccess_sansPerf (w : Bool) (o : Nat) (s : State) : sansPerf (countAccess w o s) = sansPerf s := by
  refine foldl_keeps sansPerf (fun s f => ?_) s.regs.filters s
  exact apply_ite sansPerf _ _ _ |>.trans (ite_self _)

theorem hostAccess_of_serving {s : State} (h : serving s = true) (f : State → State) : hostAccess f s = f s := if_pos h

theorem countAccess_ring (w : Bool) (o : Nat) (s : State) (r : Nat) : (countAccess w o s).ring r = s.ring r :=
  (congrArg (fun s : State => s.ring r) (countAccess_sansPerf w o s) :)

/-- An event at a unit that the module has. -/
theorem goes_at {ok : Bool} {s u : State} {P : State → Prop} (hok : ok = true) (hP : P (commitG s u)) :
    Goes (guardUnit ok s (done s u)) P := by
  subst hok
  exact ⟨_, rfl, hP⟩

/-- An event at a unit by the host while the S tile serves. -/
theorem goes_hostWrite {ok : Bool} {s : State} {o : Nat} {f : State → State} {P : State → Prop} (hok : ok = true)
    (h : serving s = true) (hP : P (commitG s (f (countAccess true o s)))) :
    Goes (guardUnit ok s (done s (hostWrite o f s))) P :=
  goes_at hok (by rw [hostWrite, hostAccess_of_serving h]; exact hP)

/-- No access of the host does anything while the S tile does not serve it. -/
theorem goes_unserved {ok : Bool} {s : State} {f : State → State} (hok : ok = true) (h : serving s = false) :
    Goes (guardUnit ok s (done s (hostAccess f s))) (fun t => t = commitG s s) := by
  subst hok
  exact ⟨_, rfl, congrArg (commitG s) (if_neg (by simp [h]))⟩

/-! Words of a bit set (R510). -/

theorem rd_lt (p : List Byte) (off n : Nat) : rd p off n < 256 ^ n := by
  have h : ∀ l : List Byte, leVal l < 256 ^ l.length := by
    intro l
    induction l with
    | nil => decide
    | cons b l ih =>
      have hb : b.toNat < 256 := b.isLt
      rw [leVal, List.length_cons, Nat.pow_succ]
      omega
  exact (h _).trans_le (Nat.pow_le_pow_right (by decide) (List.length_take_le n _))

/-- A bit of a number put together from what stands above a word, the word, and what stands below it. -/
theorem testBit_words {hi x lo w : Nat} (hx : x < 2 ^ 32) (hlo : lo < 2 ^ (32 * w)) (k : Nat) :
    (2 ^ (32 * w) * (2 ^ 32 * hi + x) + lo).testBit k =
      if k < 32 * w then lo.testBit k else if k - 32 * w < 32 then x.testBit (k - 32 * w) else hi.testBit (k - 32 * w - 32) := by
  rw [Nat.testBit_two_pow_mul_add _ hlo, Nat.testBit_two_pow_mul_add _ hx]

theorem testBit_word32 (m j i : Nat) : (word32 m j).testBit i = (decide (i < 32) && m.testBit (32 * j + i)) := by
  rw [word32, Nat.testBit_mod_two_pow, Nat.testBit_div_two_pow, Nat.add_comm]

/-- Word `w` replaced: it reads as written, every other as before. -/
theorem word32_replace {v : Nat} (hv : v < 2 ^ 32) (m w j : Nat) :
    word32 (m - word32 m w * 2 ^ (32 * w) + v * 2 ^ (32 * w)) j = if j = w then v else word32 m j := by
  have hx : word32 m w < 2 ^ 32 := Nat.mod_lt _ (by decide)
  have hlo : m % 2 ^ (32 * w) < 2 ^ (32 * w) := Nat.mod_lt _ (Nat.two_pow_pos _)
  have hm : m = 2 ^ (32 * w) * (2 ^ 32 * (m / 2 ^ (32 * w) / 2 ^ 32) + word32 m w) + m % 2 ^ (32 * w) := by
    rw [word32, Nat.div_add_mod, Nat.div_add_mod]
  have hn : m - word32 m w * 2 ^ (32 * w) + v * 2 ^ (32 * w) =
      2 ^ (32 * w) * (2 ^ 32 * (m / 2 ^ (32 * w) / 2 ^ 32) + v) + m % 2 ^ (32 * w) := by
    generalize word32 m w = x at *
    generalize m / 2 ^ (32 * w) / 2 ^ 32 = hi at *
    generalize m % 2 ^ (32 * w) = lo at *
    subst hm
    rw [Nat.mul_add, Nat.mul_add, Nat.mul_comm x, Nat.mul_comm v]
    omega
  refine Nat.eq_of_testBit_eq fun i => ?_
  by_cases hi : i < 32
  · rw [testBit_word32, hn, testBit_words hv hlo]
    by_cases hj : j = w
    · subst hj
      simp [hi]
    · rw [if_neg hj, testBit_word32]
      conv_rhs => rw [hm, testBit_words hx hlo]
      by_cases hlt : j < w
      · have h : 32 * j + i < 32 * w := by omega
        simp [h]
      · have h : ¬32 * j + i < 32 * w := by omega
        have h' : ¬32 * j + i - 32 * w < 32 := by omega
        simp [h, h']
  · rw [testBit_word32]
    split
    · exact (by simp [hi, Nat.testBit_lt_two_pow (hv.trans_le (Nat.pow_le_pow_right (by decide) (Nat.le_of_not_lt hi)))])
    · rw [testBit_word32]
      simp [hi]

/-! FLT_PIN_MASK (R527). -/

/-- The state in which word `w` of a block's mask has been written. -/
def maskWritten (b w v : Nat) (s : State) : State :=
  s.setFlt b { s.flt b with
    mask := (s.flt b).mask - word32 (s.flt b).mask w * 2 ^ (32 * w) + v * 2 ^ (32 * w) }

theorem maskWritten_flt {v : Nat} (hv : v < 2 ^ 32) (b w : Nat) (s : State) :
    ((maskWritten b w v s).flt b).status = (s.flt b).status ∧
      ∀ j, word32 ((maskWritten b w v s).flt b).mask j = if j = w then v else word32 (s.flt b).mask j := by
  rw [maskWritten, setFlt_flt_same]
  exact ⟨rfl, word32_replace hv _ _⟩

theorem bodyFltPinMask_written {c : Cmd} {s : State} {p : List Byte} {b w : Nat} (hc : c.req.payload = p) (hl : p.length = 8)
    (hb : b = rd p 0 1) (hw : w = rd p 1 1) (hz : rd p 2 2 = 0) (hb12 : b ≤ 12) (hw63 : w ≤ 63)
    (hm : maskOk s b w (rd p 4 4) = true) :
    bodyFltPinMask c s = ok (maskWritten b w (rd p 4 4) s)
      (le 4 (rd p 4 4) ++ le 4 (fltClassWord s b w) ++ le 4 (word32 (s.flt b).status w)) := by
  obtain ⟨hstatus, hmask⟩ := maskWritten_flt (v := rd p 4 4) (rd_lt p 4 4) b w s
  have hword := hmask w
  rw [if_pos rfl] at hword
  have hok : bodyFltPinMask c s = ok (maskWritten b w (rd p 4 4) s)
      (le 4 (word32 ((maskWritten b w (rd p 4 4) s).flt b).mask w) ++ le 4 (fltClassWord (maskWritten b w (rd p 4 4) s) b w) ++
        le 4 (word32 ((maskWritten b w (rd p 4 4) s).flt b).status w)) := by
    simp only [bodyFltPinMask, hc, ← hb, ← hw]
    rw [if_neg (by omega), checked_of_all (by simp [hb12, hw63, zeroAt, hz, hm]), if_neg (by omega)]
    rfl
  rw [hok, hword, hstatus]
  rfl

/-! PERF_READ that clears (R529). -/

/-- A counter is set; no other is. -/
theorem perfPut_perf (e : Nat) (x : Perf) (s : State) : (perfPut e x s).regs.perf = tset {} s.regs.perf e x := by
  unfold perfPut
  extract_lets r a
  split
  · split <;> rfl
  · split
    · refine foldl_keeps (fun s => s.regs.perf) (fun s i => ?_) _ a
      dsimp only
      split <;> rfl
    · rfl

theorem foldl_perfClear (f n : Nat) (s : State) :
    ∀ i ∈ List.range n, tget ({} : Perf) ((List.range n).foldl (fun t i => perfClear t (f + i)) s).regs.perf (f + i) = {} := by
  refine foldl_establishes (P := fun s i => tget ({} : Perf) s.regs.perf (f + i) = {}) (fun s i => ?_) (fun s i j hj => ?_) _ s
  · rw [perfClear, perfPut_perf, tget_tset_same]
  · rw [perfClear, perfPut_perf]
    by_cases h : f + j = f + i
    · rw [h, tget_tset_same]
    · rwa [tget_tset_other _ _ _ _ _ h]

/-! Deliveries of interrupt groups (R516, R518). -/

theorem nodup_eraseDups : ∀ l : List Nat, l.eraseDups.Nodup
  | [] => List.nodup_nil
  | a :: l => by
    rw [List.eraseDups_cons, List.nodup_cons]
    exact ⟨fun h => by simp [List.mem_eraseDups] at h, nodup_eraseDups _⟩
termination_by l => l.length
decreasing_by exact Nat.lt_succ_of_le (List.length_filter_le _ _)

/-- A group that is disabled, has nothing PENDING or waits for its HOLDOFF delivers nothing. -/
theorem irqDeliver_waits {g : Nat} {s : State}
    (h : (s.irqG g).enable = false ∨ (s.irqG g).pend = 0 ∨ s.now < (s.irqG g).readyAt) : irqDeliver g s = s := by
  refine if_pos ?_
  rcases h with h | h | h <;> simp [h]

/-- The group that delivers. -/
theorem irqDeliver_goes {g : Nat} {s : State} (he : (s.irqG g).enable = true) (hp : (s.irqG g).pend ≠ 0)
    (hr : (s.irqG g).readyAt ≤ s.now) : irqDeliver g s =
      if g = 0 then deliverRings s
      else if (s.irqG g).sideband then
        refreshSb (s.setIrq g (serveSources s.now (s.irqG g).pend (2 ^ irqSources g - 1) (s.irqG g)))
      else if sendable s (groupVector g (s.irqG g)) then
        sendMsi (groupVector g (s.irqG g))
          (s.setIrq g (serveSources s.now (s.irqG g).pend (2 ^ irqSources g - 1) (s.irqG g)))
      else waitMsi (groupVector g (s.irqG g)) s := by
  refine if_neg ?_
  simp [he, hp, hr]

theorem bit_foldl_setBit (l : List Nat) (m j : Nat) : bit (l.foldl setBit m) j = (bit m j || decide (j ∈ l)) := by
  induction l generalizing m with
  | nil => simp
  | cons a l ih =>
    rw [List.foldl_cons, ih]
    by_cases h : j = a
    · subst h
      simp
    · simp [bit_setBit_other h, h]

/-- The bit set built from the bits of a set that fits `n` is that set. -/
theorem foldl_setBit_filter {m n : Nat} (h : m < 2 ^ n) : ((List.range n).filter (bit m)).foldl setBit 0 = m := by
  refine Nat.eq_of_testBit_eq fun j => (bit_foldl_setBit _ 0 j).trans ?_
  by_cases hj : j < n
  · simp [bit, hj]
  · have hclear : m.testBit j = false := Nat.testBit_lt_two_pow (h.trans_le (Nat.pow_le_pow_right (by decide) (Nat.le_of_not_lt hj)))
    simp [bit, hj, hclear]

/-- The vectors of the rings whose source is PENDING, each once. -/
def ringVectors (s : State) : List Nat :=
  (((List.range 8).filter (bit (s.irqG 0).pend)).map (fun r => (s.ring r).vector)).eraseDups

/-- Every PENDING ring's vector can be sent: all move to IN_SERVICE, and each vector is sent once. -/
theorem deliverRings_all {s : State} (hp : (s.irqG 0).pend ≠ 0) (h256 : (s.irqG 0).pend < 256)
    (hsend : ∀ r ∈ List.range 8, bit (s.irqG 0).pend r = true → sendable s (s.ring r).vector = true) :
    ∃ takes, deliverRings s = (ringVectors s).foldl (fun t v => sendMsi v t)
      (s.setIrq 0 (serveSources s.now (s.irqG 0).pend takes (s.irqG 0))) := by
  have hrings : ∀ r ∈ (List.range 8).filter (bit (s.irqG 0).pend), sendable s (s.ring r).vector = true :=
    fun r hr => hsend r (List.mem_filter.mp hr).1 (List.mem_filter.mp hr).2
  have hvs : ∀ v ∈ ringVectors s, sendable s v = true := by
    intro v hv
    obtain ⟨r, hr, rfl⟩ := List.mem_map.mp (List.mem_eraseDups.mp hv)
    exact hrings r hr
  have hne : (List.range 8).filter (bit (s.irqG 0).pend) ≠ [] := fun h => hp <| by
    rw [← foldl_setBit_filter (n := 8) h256, h]
    rfl
  have hgo : ((List.range 8).filter (bit (s.irqG 0).pend)).filter (fun r => sendable s (s.ring r).vector) =
      (List.range 8).filter (bit (s.irqG 0).pend) := List.filter_eq_self.mpr hrings
  have hall : (ringVectors s).filter (sendable s) = ringVectors s := List.filter_eq_self.mpr hvs
  have hnone : (ringVectors s).filter (fun v => !sendable s v) = [] := List.filter_eq_nil_iff.mpr fun v hv => by simp [hvs v hv]
  unfold deliverRings
  extract_lets x rings vs a go
  rw [show go = rings from hgo, if_neg hne, show vs.filter (sendable s) = ringVectors s from hall,
    show a = s from congrArg (List.foldl _ s) hnone, show rings.foldl setBit 0 = (s.irqG 0).pend from foldl_setBit_filter (n := 8) h256]
  exact ⟨_, rfl⟩

theorem serveSources_pend (now takes : Nat) (x : Irq) : (serveSources now x.pend takes x).pend = 0 := by
  simp [serveSources]

theorem sendMsi_vec_same (v : Nat) (s : State) : ((sendMsi v s).vec v).sent = (s.vec v).sent + 1 := by
  rw [sendMsi, setVec_vec_same]

theorem sendMsi_vec_other (s : State) (v u : Nat) (h : u ≠ v) : ((sendMsi v s).vec u).sent = (s.vec u).sent :=
  congrArg Msix.sent (tget_tset_other _ _ _ _ _ h)

/-- A delivery of group 0 whose vectors can all be sent. -/
theorem deliverRings_leaves {s : State} (hp : (s.irqG 0).pend ≠ 0) (h256 : (s.irqG 0).pend < 256)
    (hsend : ∀ r ∈ List.range 8, bit (s.irqG 0).pend r = true → sendable s (s.ring r).vector = true) :
    ((deliverRings s).irqG 0).pend = 0 ∧ ((deliverRings s).irqG 0).insvc = (s.irqG 0).insvc ||| (s.irqG 0).pend ∧
      ∀ r ∈ List.range 8, bit (s.irqG 0).pend r = true →
        ((deliverRings s).vec (s.ring r).vector).sent = (s.vec (s.ring r).vector).sent + 1 := by
  obtain ⟨takes, h⟩ := deliverRings_all hp h256 hsend
  have hirq : (deliverRings s).irqG 0 = serveSources s.now (s.irqG 0).pend takes (s.irqG 0) := by
    rw [h]
    exact (foldl_keeps (f := fun t v => sendMsi v t) (fun s : State => s.irqG 0) (fun _ _ => rfl) _ _).trans
      (setIrq_irqG_same ..)
  refine ⟨?_, ?_, fun r hr hb => ?_⟩
  · rw [hirq, serveSources_pend]
  · rw [hirq]
    rfl
  · have hv : (s.ring r).vector ∈ ringVectors s :=
      List.mem_eraseDups.mpr (List.mem_map_of_mem (List.mem_filter.mpr ⟨hr, hb⟩))
    obtain ⟨u, hu, ht⟩ := foldl_local (f := fun t v => sendMsi v t) (g := fun v s => (s.vec v).sent) sendMsi_vec_other
      (nodup_eraseDups _) (s.setIrq 0 (serveSources s.now (s.irqG 0).pend takes (s.irqG 0))) _ hv
    rw [h]
    exact ht.trans ((sendMsi_vec_same _ u).trans (congrArg (· + 1) hu))

/-! The other events. -/

theorem setSticky_flt_rest (b n : Nat) (s : State) :
    ((setSticky b n s).flt b).safe = (s.flt b).safe ∧ ((setSticky b n s).flt b).parity = (s.flt b).parity := by
  unfold setSticky
  split
  · exact ⟨rfl, rfl⟩
  · rw [fltArrive_flt, setFlt_flt_same]
    exact ⟨rfl, rfl⟩

theorem setSticky_lastRead (b n : Nat) (s : State) :
    (setSticky b n s).regs.lastRead = s.regs.lastRead ∧ (setSticky b n s).regs.scratch = s.regs.scratch := by
  unfold setSticky
  split
  · exact ⟨rfl, rfl⟩
  · unfold fltArrive
    split
    · exact ⟨rfl, rfl⟩
    · split <;> exact ⟨rfl, rfl⟩

/-- Nothing is PENDING: no group delivers. -/
theorem deliverAll_none {s : State} (h : ∀ g ∈ List.range 9, (s.irqG g).pend = 0) : deliverAll s = s := by
  suffices hl : ∀ l : List Nat, (∀ g ∈ l, (s.irqG g).pend = 0) → l.foldl (fun t g => irqDeliver g t) s = s from hl _ h
  intro l
  induction l with
  | nil => exact fun _ => rfl
  | cons g l ih =>
    intro h
    obtain ⟨hg, hl⟩ := List.forall_mem_cons.mp h
    rw [List.foldl_cons, irqDeliver_waits (.inr (.inl hg))]
    exact ih hl

/-! The ring registers (R473 to R475). -/

theorem commitG_ring (a b : State) (r : Nat) : (commitG a b).ring r = b.ring r := by
  rw [State.ring, commitG_kcp_rings]
  rfl

theorem commitG_flt (a b : State) (i : Nat) : (commitG a b).flt i = b.flt i := by
  rw [State.flt, commitG_regs]
  rfl

theorem tailWrite_overrun {r : Nat} {s : State} (he : (s.ring r).enable = true) {v : Nat}
    (ho : 2 ^ (s.ring r).log2 < (v % 65536 + 65536 - (s.ring r).sqHead) % 65536) :
    (tailWrite r v s).ring r = { s.ring r with sqTail := v % 65536, badBell := true, enable := false } := by
  unfold tailWrite
  extract_lets y x
  rw [if_pos (show (x.enable && overrun x) = true from Bool.and_eq_true_iff.mpr ⟨he, decide_eq_true ho⟩), setRing_ring_same]

theorem headWrite_past {r v : Nat} {s : State}
    (ho : ((s.ring r).cqTail + 65536 - (s.ring r).cqHead) % 65536 < (v % 65536 + 65536 - (s.ring r).cqHead) % 65536) :
    (headWrite r v s).ring r = { s.ring r with cqHead := v % 65536, badBell := true, enable := false } := by
  unfold headWrite
  extract_lets x h y
  rw [if_pos ho, setRing_ring_same]

theorem cfgWrite_disables {r v : Nat} {s : State} (he : (s.ring r).enable = true) (hv : bit v 31 = false)
    (hl : v / 2 ^ 24 % 16 = (s.ring r).log2) :
    ((cfgWrite r v s).ring r).enable = false ∧ ((cfgWrite r v s).ring r).log2 = (s.ring r).log2 ∧
      ((cfgWrite r v s).ring r).vector = v % 256 ∧ ((cfgWrite r v s).ring r).cfgErr = (s.ring r).cfgErr := by
  unfold cfgWrite
  extract_lets u x cls log2 en y
  have hx : x = s.ring r := rfl
  rw [if_pos (show x.enable = true from he), if_neg (show ¬log2 ≠ x.log2 from not_not.mpr hl), setRing_ring_same]
  exact ⟨by simp [en, hv], rfl, rfl, rfl⟩

/-- A sideband group takes its sources IN_SERVICE, and IRQ_SB_N is asserted. -/
theorem irqDeliver_sideband {g : Nat} {s : State} (hg1 : 1 ≤ g) (hg9 : g < 9) (he : (s.irqG g).enable = true)
    (hp : (s.irqG g).pend ≠ 0) (hr : (s.irqG g).readyAt ≤ s.now) (hside : (s.irqG g).sideband = true) :
    (irqDeliver g s).irqG g = serveSources s.now (s.irqG g).pend (2 ^ irqSources g - 1) (s.irqG g) ∧
      (irqDeliver g s).regs.irqSb = true ∧ (irqDeliver g s).regs.msix = s.regs.msix := by
  have hgo := irqDeliver_goes he hp hr
  rw [if_neg (by omega), if_pos hside] at hgo
  have hirq := setIrq_irqG_same s g (serveSources s.now (s.irqG g).pend (2 ^ irqSources g - 1) (s.irqG g))
  rw [hgo]
  refine ⟨hirq, List.any_eq_true.mpr ⟨g, List.mem_range.mpr hg9, ?_⟩, rfl⟩
  have hserved : (s.irqG g).insvc ||| (s.irqG g).pend ≠ 0 := fun h => hp (Nat.eq_zero_of_le_zero (h ▸ Nat.right_le_or))
  rw [hirq]
  simp [serveSources, hside, hserved]

/-! Rows of the registers. -/

/-- A write that the slow domain does not take is dropped (R502). -/
theorem goes_slowTimeout {o : Nat} {s : State} (ho : slowOffset o = true) (hs : serving s = true) :
    Goes (exec (.slowTimeout o true) s) (fun t =>
      t.regs.lastRead = s.regs.lastRead ∧ t.regs.scratch = s.regs.scratch ∧ bit (t.flt 7).status 3 = true) := by
  have hslow : hostAccess (slowTimeout o true) s = setSticky 7 3 (countAccess true o s) := by
    rw [hostAccess_of_serving hs, slowTimeout, if_neg (by simp [ho])]
    rfl
  have hsans := countAccess_sansPerf true o s
  obtain ⟨hread, hscratch⟩ := setSticky_lastRead 7 3 (countAccess true o s)
  have hstatus := (setSticky_flt 7 3 (countAccess true o s)).1
  rw [← hslow] at hread hscratch hstatus
  exact goes_done fun _ => ⟨hread.trans (congrArg (fun s : State => s.regs.lastRead) hsans :),
    hscratch.trans (congrArg (fun s : State => s.regs.scratch) hsans :), hstatus⟩

/-- A write that does not cover its word is ignored (R500). -/
theorem goes_registerWrite_partial {o x e : Nat} {s : State} (ho : o < 2 ^ 24) (hs : serving s = true) (he : e ≠ 15 ∨ o % 4 ≠ 0) :
    Goes (exec (.registerWrite o x e) s) (fun t => t.regs.scratch = s.regs.scratch ∧ t.regs.flt = s.regs.flt ∧
      t.regs.irq = s.regs.irq ∧ t.regs.msix = s.regs.msix ∧ t.kcp.rings = s.kcp.rings) := by
  have hwrite : hostAccess (registerWrite o x e) s = countAccess true o s := by
    rw [hostAccess_of_serving hs, registerWrite]
    exact if_neg (by tauto)
  have hsans := countAccess_sansPerf true o s
  have hregs := congrArg State.regs hsans
  refine goes_at (decide_eq_true ho) ?_
  rw [hwrite, commitG_regs, commitG_kcp_rings]
  exact ⟨(congrArg Regs.scratch hregs :), (congrArg Regs.flt hregs :), (congrArg Regs.irq hregs :),
    (congrArg Regs.msix hregs :), (congrArg (fun s : State => s.kcp.rings) hsans :)⟩

/-- A group whose vector is masked waits with its pending bit (R518). -/
theorem goes_irqDelivery_masked {g : Nat} {s : State} (hg1 : 1 ≤ g) (hg9 : g < 9) (he : (s.irqG g).enable = true)
    (hp : (s.irqG g).pend ≠ 0) (hr : (s.irqG g).readyAt ≤ s.now) (hside : (s.irqG g).sideband = false)
    (hmsix : s.regs.msixEnable = true) (hsend : sendable s (groupVector g (s.irqG g)) = false) :
    Goes (exec (.irqDelivery g) s) (fun t => t.irqG g = s.irqG g ∧
      (t.vec (groupVector g (s.irqG g))).sent = (s.vec (groupVector g (s.irqG g))).sent ∧
      (t.vec (groupVector g (s.irqG g))).pending = true) := by
  have hgo : irqDeliver g s = s.setVec (groupVector g (s.irqG g)) { s.vec (groupVector g (s.irqG g)) with pending := true } := by
    rw [irqDeliver_goes he hp hr, if_neg (by omega), if_neg (by simp [hside]), if_neg (by simp [hsend]), waitMsi, if_pos hmsix]
  have hvec := congrArg (fun t : State => t.vec (groupVector g (s.irqG g))) hgo
  simp only [setVec_vec_same] at hvec
  exact goes_unit (decide_eq_true hg9) fun k =>
    ⟨(congrArg (fun t : State => t.irqG g) hgo :), (congrArg Msix.sent hvec :), (congrArg Msix.pending hvec :)⟩

/-- A word of a function that R509 gives no safe state sets CFG_PARITY alone (R508). -/
theorem goes_parityCheck_unserved {b : Nat} {s : State} (hb : b < 13) :
    Goes (exec (.parityCheck (2048 * b + 2047)) s) (fun t => bit (t.flt b).status 0 = true ∧ (t.flt b).safe = (s.flt b).safe ∧
      (t.flt b).parity = (s.flt b).parity ∧ t.kcp.rings = s.kcp.rings) := by
  have hdiv : (2048 * b + 2047) / 2048 = b := by omega
  have hmod : (2048 * b + 2047) % 2048 = 2047 := by omega
  have hgo : parityAt ((2048 * b + 2047) / 2048) ((2048 * b + 2047) % 2048) s = setSticky b 0 s := by
    rw [hdiv, hmod, parityAt, if_pos rfl]
  have hstatus := (setSticky_flt b 0 s).1
  obtain ⟨hsafe, hparity⟩ := setSticky_flt_rest b 0 s
  have hkcp : s.kcp = (setSticky b 0 s).kcp := (setSticky_within b 0 s).keeps .kcp (by decide)
  refine goes_at (by simp [hdiv, hmod, hb]) ?_
  rw [hgo, commitG_kcp_rings, ← hkcp, commitG_flt]
  exact ⟨hstatus, hsafe, hparity, rfl⟩

/-- Settles O57: the reads and writes by their bodies, the host's accesses through `countAccess`, the deliveries by what may
be sent. -/
theorem registerForms : Obligations.RegisterForms := by
  unfold Obligations.RegisterForms
  refine ⟨?_, ?_, ?_, ?_, ?_, ?_, ?_, ?_, ?_, ?_, ?_, ?_, ?_, ?_, ?_, ?_, ?_, ?_⟩
  · rintro rq q g s rfl h hp hg
    refine kcpRow_reads 0x1103 bodyIrqGroupConfig _ s _ h ?_
    have hrd : rd [BitVec.ofNat 8 g] 0 1 = g := by
      simp [rd, leVal, Nat.mod_eq_of_lt (show g < 256 by omega)]
    simp only [bodyIrqGroupConfig, rowCmd, hp, hrd]
    rw [if_neg (by simp), if_pos (by simp), checked_of_all (by simp [hg])]
    rfl
  · intro rq b w s h hl hb hw hz hb12 hw63 hm
    obtain ⟨hstatus, hmask⟩ := maskWritten_flt (v := rd rq.payload 4 4) (rd_lt rq.payload 4 4) b w (takeId s)
    exact goes_of_ok_body bodyFltPinMask_within (by decide) h (bodyFltPinMask_written rfl hl hb hw hz hb12 hw63 hm)
      fun k ha => ⟨(hmask w).trans (if_pos rfl), fun v _ hv => (hmask v).trans (if_neg hv), hstatus, ha⟩
  · intro rq i s h hl hi hi63
    refine kcpRow_reads 0x0F03 bodyPerfFilter rq s _ h ?_
    simp only [bodyPerfFilter, rowCmd, ← hi]
    rw [if_neg (by omega), checked_of_all (by simp [hi63]), if_pos hl]
    rfl
  · intro rq f n s h hl hf hn hn1 hn256 hfn hclr hz
    have hbody : bodyPerfRead (rowCmd 0x0F04 rq s) (takeId s) =
        ok ((List.range n).foldl (fun t i => perfClear t (f + i)) (takeId s))
          (le 8 s.tim.tick ++ (List.range n).flatMap (fun i => le 8 (perfWord s (f + i)))) := by
      simp only [bodyPerfRead, rowCmd, ← hf, ← hn, hclr]
      rw [if_neg (not_not.mpr hl), checked_of_all (by simp [hn1, hn256, hfn, zeroAt, hz]; omega), if_pos (by decide)]
      rfl
    exact goes_of_ok_body bodyPerfRead_within (by decide) h hbody
      fun k ha => ⟨fun i hi => foldl_perfClear f n (takeId s) i (List.mem_range.mpr hi), ha⟩
  · intro r x s hr hs he ho
    refine goes_hostWrite (decide_eq_true hr) hs ?_
    have hring := countAccess_ring true (ringOffset r 0x20) s r
    have htail := tailWrite_overrun (s := countAccess true (ringOffset r 0x20) s) (r := r) (v := x) (by rw [hring, he])
      (by rw [hring]; exact ho)
    rw [commitG_ring, htail, hring]
  · intro r x s hr hs ho
    refine goes_hostWrite (decide_eq_true hr) hs ?_
    have hring := countAccess_ring true (ringOffset r 0x2C) s r
    have hhead := headWrite_past (s := countAccess true (ringOffset r 0x2C) s) (r := r) (v := x) (by rw [hring]; exact ho)
    rw [commitG_ring, hhead]
    exact ⟨rfl, rfl⟩
  · intro r x s hr hs he hx hlog
    refine goes_hostWrite (decide_eq_true hr) hs ?_
    have hring := countAccess_ring true (ringOffset r 0x18) s r
    have hcfg := cfgWrite_disables (s := countAccess true (ringOffset r 0x18) s) (r := r) (by rw [hring, he]) hx
      (by rw [hring]; exact hlog)
    rwa [hring, ← commitG_ring s] at hcfg
  · intro w x s hw hs
    refine goes_hostWrite (by simp [hw]) hs ?_
    have hsans := countAccess_sansPerf true (0x100100 + 4 * w) s
    rw [if_pos rfl, id, Nat.mul_zero, Nat.add_zero, commitG_regs, commitG_fur, commitG_eth]
    exact ⟨rfl, (congrArg State.fur hsans :), (congrArg State.eth hsans :)⟩
  · exact fun o s ho hs => goes_slowTimeout ho hs
  · exact fun o x e s ho hs he => goes_registerWrite_partial ho hs he
  · intro r g w x e s hs hr hg hw he y hy
    simp only [List.mem_cons, List.not_mem_nil, or_false] at hy
    rcases hy with rfl | rfl | rfl | rfl | rfl | rfl | rfl | rfl | rfl | rfl
    · exact goes_unserved (decide_eq_true hr) hs
    · exact goes_unserved (decide_eq_true hr) hs
    · exact goes_unserved (decide_eq_true hr) hs
    · exact goes_unserved (decide_eq_true hr) hs
    · exact goes_unserved (decide_eq_true hr) hs
    · exact goes_unserved (by simp [hg, hw]) hs
    · exact goes_unserved (by simp; omega) hs
    · exact goes_unserved (decide_eq_true he) hs
    · exact goes_unserved (ok := true) rfl hs
    · exact goes_unserved (decide_eq_true (by omega)) hs
  · exact fun g s hg1 hg9 he hp hr hside hmsix hsend => goes_irqDelivery_masked hg1 hg9 he hp hr hside hmsix hsend
  · intro g s hg1 hg9 he hp hr hside
    obtain ⟨hirq, hsb, hmsix⟩ := irqDeliver_sideband hg1 hg9 he hp hr hside
    refine goes_unit (decide_eq_true hg9) fun k => ?_
    exact ⟨hirq.trans (by simp [serveSources]), hsb, hmsix⟩
  · intro s he hp hr hsend h256
    have hgo : irqDeliver 0 s = deliverRings s := by rw [irqDeliver_goes he hp hr, if_pos rfl]
    obtain ⟨hpend, hinsvc, hvec⟩ := deliverRings_leaves hp h256 hsend
    rw [← hgo] at hpend hinsvc hvec
    refine goes_unit (ok := decide (0 < 9)) rfl fun k => ?_
    exact ⟨hpend, fun r _ => (congrArg (fun m => bit m r) hinsvc).trans (Nat.testBit_or ..), hvec⟩
  · intro g s hg h
    have hgo := irqDeliver_waits h
    change guardUnit (decide (g < 9)) s (done s (irqDeliver g s)) = _
    rw [hgo, decide_eq_true hg]
    rfl
  · intro s h
    have hnone : msixUnmask none s = { s with regs := { s.regs with msixEnable := true, msixMask := false } } := deliverAll_none h
    refine goes_unit (ok := decide ((none : Option Nat).getD 0 < 256)) rfl fun k => ?_
    rw [hnone]
    exact ⟨rfl, rfl, rfl, rfl⟩
  · exact fun b s hb => goes_parityCheck_unserved hb
  · intro i s hi hi16
    change guardUnit (decide (i < 16)) s (done s (mirrorWrite i s)) = _
    rw [mirrorWrite, if_pos hi, decide_eq_true hi16]
    rfl

end Sys2Proof.Machine
end

section
/-! SUPPORT. Group 0x08 and the Ethernet events: links, pauses, records, measurements (R388 to R404). -/

namespace Sys2Proof.Machine
open Sys2Proof

/-! Frames that are withdrawn or stomped (R289). -/

theorem stompFrame_ethP (s : State) (f : TxFrame) (p : Nat) : (stompFrame s f).ethP p = s.ethP p :=
  (stompFrame_within s f).ethP_eq (by decide) p

theorem withdraw_unmetered (s : State) (f : TxFrame) (p : Nat) : unmetered ((withdraw s f).ethP p) = unmetered (s.ethP p) :=
  (returnCredit_unmetered ..).trans (congrArg unmetered (stompFrame_ethP ..))

theorem foldl_withdraw_unmetered (l : List TxFrame) (s : State) (p : Nat) :
    unmetered ((l.foldl withdraw s).ethP p) = unmetered (s.ethP p) :=
  foldl_keeps (fun s => unmetered (s.ethP p)) (fun s f => withdraw_unmetered s f p) l s

theorem stompInFlight_committedQ (p : Nat) (s : State) : ((stompInFlight p s).ethP p).committedQ = (s.ethP p).committedQ := by
  unfold stompInFlight
  dsimp only
  split
  · split
    · rw [stompFrame_ethP, setEthP_ethP_same]
    · rfl
  · rfl

theorem withdrawAll_inFlight (p : Nat) (s : State) : ((withdrawAll p s).ethP p).inFlight = (s.ethP p).inFlight := by
  refine (congrArg Eth.inFlight (foldl_withdraw_unmetered _ _ p) :).trans ?_
  rw [setEthP_ethP_same]
  rfl

theorem withdrawAll_link (p : Nat) (s : State) :
    ((withdrawAll p s).ethP p).cfg = (s.ethP p).cfg ∧ ((withdrawAll p s).ethP p).state = (s.ethP p).state := by
  have h := foldl_withdraw_unmetered ((s.ethP p).committedQ ++ (s.ethP p).queues.flatMap (·.2)) (s.setEthP p
    { s.ethP p with committedQ := [], queues := [], wireFree := match (s.ethP p).inFlight with
        | some f => f.ends
        | none => s.now * 1000 }) p
  rw [setEthP_ethP_same] at h
  exact ⟨(congrArg Eth.cfg h :), (congrArg Eth.state h :)⟩

theorem withdrawAll_sending (p : Nat) (s : State) : sending (withdrawAll p s) p = sending s p := by
  rw [sending, withdrawAll_inFlight, (withdrawAll_within p s).now_eq, sending]

theorem linkDown_leaves (p : Nat) (s : State) :
    ((linkDown p s).ethP p).state = 1 ∧ ((linkDown p s).ethP p).committedQ = [] ∧ ((linkDown p s).ethP p).lm.running = false := by
  unfold linkDown
  dsimp only
  rw [setEthP_ethP_same]
  refine ⟨rfl, ?_, rfl⟩
  dsimp only
  rw [stompInFlight_committedQ]
  refine (congrArg Eth.committedQ (foldl_withdraw_unmetered _ _ p) :).trans ?_
  rw [setEthP_ethP_same]
  rfl

/-! Pauses of the queues (R392, R393). -/

/-- A port without the pauses of its queues. -/
def unpausedEth (x : Eth) : Eth := { x with pausedUntil := [], pausedSince := [], pausedAny := 0 }

/-- What is seen of a queue's pause, and of what its end is reckoned from. -/
def pauseView (p q : Nat) (s : State) : Nat × Eth × Nat :=
  (tget 0 (s.ethP p).pausedUntil q, unpausedEth (s.ethP p), s.now)

theorem unpause_ethP (p : Nat) (s : State) (q : Nat) : ∃ a, (unpause p s q).ethP p = { s.ethP p with
    pausedUntil := tset 0 (s.ethP p).pausedUntil q 0, pausedSince := tset 0 (s.ethP p).pausedSince q 0, pausedAny := a } := by
  unfold unpause
  dsimp only
  split
  · rw [perfAdd_ethP, setEthP_ethP_same]
    exact ⟨0, rfl⟩
  · rw [setEthP_ethP_same]
    exact ⟨_, rfl⟩

theorem unpause_same (p : Nat) (s : State) (q : Nat) :
    tget 0 ((unpause p s q).ethP p).pausedUntil q = 0 ∧ tget 0 ((unpause p s q).ethP p).pausedSince q = 0 := by
  obtain ⟨a, h⟩ := unpause_ethP p s q
  rw [h]
  dsimp only
  rw [tget_tset_same, tget_tset_same]
  trivial

theorem pauseView_unpause_other (p : Nat) (s : State) (a b : Nat) (h : b ≠ a) :
    pauseView p b (unpause p s a) = pauseView p b s := by
  obtain ⟨n, he⟩ := unpause_ethP p s a
  rw [pauseView, he, tget_tset_other _ _ _ _ _ h, (unpause_within p s a).now_eq]
  rfl

theorem unpauseAll_queue (p : Nat) (s : State) {q : Nat} (hq : q < 8) : tget 0 ((unpauseAll p s).ethP p).pausedUntil q = 0 := by
  obtain ⟨u, -, h⟩ := foldl_local (f := unpause p) (g := pauseView p) (pauseView_unpause_other p) List.nodup_range s q
    (List.mem_range.mpr hq)
  obtain ⟨h, -⟩ := Prod.mk.inj h
  rw [unpauseAll, h, (unpause_same p u q).1]

theorem pauseQueue_ethP {p n : Nat} (hn : n ≠ 0) (s : State) (q : Nat) : ∃ a l, (pauseQueue p n s q).ethP p = { s.ethP p with
    pausedAny := a, pausedSince := l
    pausedUntil := tset 0 (s.ethP p).pausedUntil q (s.now + divUp (n * 64 * wirePs (s.ethP p).cfg.rate) 1000) } := by
  unfold pauseQueue
  dsimp only
  rw [if_neg hn, setEthP_ethP_same]
  exact ⟨_, _, rfl⟩

theorem pauseView_pauseQueue_other {p n : Nat} (hn : n ≠ 0) (s : State) (a b : Nat) (h : b ≠ a) :
    pauseView p b (pauseQueue p n s a) = pauseView p b s := by
  obtain ⟨_, _, he⟩ := pauseQueue_ethP (p := p) hn s a
  rw [pauseView, he, tget_tset_other _ _ _ _ _ h, (pauseQueue_within p n s a).now_eq]
  rfl

theorem unpausedEth_pauseQueue (p n : Nat) (s : State) (q : Nat) :
    unpausedEth ((pauseQueue p n s q).ethP p) = unpausedEth (s.ethP p) := by
  by_cases hn : n = 0
  · obtain ⟨_, h⟩ := unpause_ethP p s q
    rw [pauseQueue, if_pos hn, h]
    rfl
  · obtain ⟨_, _, h⟩ := pauseQueue_ethP (p := p) hn s q
    rw [h]
    rfl

/-- Each of the eight queues is paused from now. -/
theorem foldl_pauseQueue {p n : Nat} (hn : n ≠ 0) (s : State) {q : Nat} (hq : q < 8) :
    tget 0 (((List.range 8).foldl (pauseQueue p n) s).ethP p).pausedUntil q =
      s.now + divUp (n * 64 * wirePs (s.ethP p).cfg.rate) 1000 := by
  obtain ⟨u, hu, h⟩ := foldl_local (f := pauseQueue p n) (g := pauseView p) (pauseView_pauseQueue_other hn) List.nodup_range s q
    (List.mem_range.mpr hq)
  obtain ⟨_, _, he⟩ := pauseQueue_ethP (p := p) hn u q
  obtain ⟨-, hu⟩ := Prod.mk.inj hu
  obtain ⟨heth, hnow⟩ := Prod.mk.inj hu
  obtain ⟨h, -⟩ := Prod.mk.inj h
  have hcfg : (u.ethP p).cfg = (s.ethP p).cfg := (congrArg Eth.cfg heth :)
  rw [h, he, tget_tset_same, hnow, hcfg]

/-- A pause frame for one queue of several leaves a queue that it does not enable. -/
theorem pauseView_enabled {p : Nat} {en : Nat} {quanta : List Nat} {q : Nat} (h : bit en q = false) (s : State) :
    tget 0 (((List.range 8).foldl (fun u k => if bit en k then pauseQueue p (quanta.getD k 0 % 65536) u k else u) s).ethP
      p).pausedUntil q = tget 0 (s.ethP p).pausedUntil q := by
  refine foldl_keeps (fun s => tget 0 (s.ethP p).pausedUntil q) (fun t k => ?_) _ s
  split
  next hk =>
    have hne : q ≠ k := fun e => by rw [← e, h] at hk; cases hk
    by_cases hn : quanta.getD k 0 % 65536 = 0
    · rw [hn, pauseQueue, if_pos rfl]
      exact (congrArg Prod.fst (pauseView_unpause_other p t k q hne) :)
    · exact (congrArg Prod.fst (pauseView_pauseQueue_other hn t k q hne) :)
  next => rfl

theorem unpausedEth_enabled (p en : Nat) (quanta : List Nat) (s : State) :
    unpausedEth (((List.range 8).foldl (fun u k => if bit en k then pauseQueue p (quanta.getD k 0 % 65536) u k else u) s).ethP p) =
      unpausedEth (s.ethP p) := by
  refine foldl_keeps (fun s => unpausedEth (s.ethP p)) (fun t k => ?_) _ s
  split
  · exact unpausedEth_pauseQueue ..
  · rfl

/-! ETH_PORT_CONFIG (R389, R400). -/

theorem rewriteWord_ethP (b i : Nat) (s : State) (p : Nat) : (rewriteWord b i s).ethP p = s.ethP p :=
  (rewriteWord_within b i s).ethP_eq (by decide) p

theorem sealedLog_ethP (ws : List SealedWrite) (s : State) (p : Nat) : (sealedLog ws s).ethP p = s.ethP p :=
  (sealedLog_within ws s).ethP_eq (by decide) p

theorem inSafe_rewriteWord {b i : Nat} {s : State} (h : (s.flt b).safe = 0) : inSafe (rewriteWord b i s) b i = false := by
  rw [inSafe, rewriteWord]
  simp only [setFlt_flt_same]
  split
  · dsimp only
    rw [h]
    exact Nat.zero_testBit i
  · exact bit_clrBit _ _

theorem enableEth_leaves (p : Nat) (s : State) :
    ((enableEth p s).ethP p).cfg = (s.ethP p).cfg ∧ ((enableEth p s).ethP p).state = 1 ∧ ((enableEth p s).ethP p).ups = 0 ∧
      ((enableEth p s).interp (1024 + p)).enabled = true := by
  have heth : (enableEth p s).ethP p =
      { clearEth (s.ethP p) with state := 1, lpiSeen := false, txSampleAt := none, rxSampleAt := none } :=
    setEthP_ethP_same s p _
  have hint := congrArg (·.enabled) (setInterp_interp_same (s.setEthP p
    { clearEth (s.ethP p) with state := 1, lpiSeen := false, txSampleAt := none, rxSampleAt := none }) (1024 + p)
    { (s.interp (1024 + p)).fresh with enabled := true })
  rw [heth]
  exact ⟨rfl, rfl, rfl, hint⟩

/-- A record that enables a port (R389). -/
theorem ethWrite_enables {p : Nat} {c : EthCfg} {s : State} (hs : (s.flt 5).safe = 0) (hn : bit c.flags 0 = true)
    (ho : bit (s.ethP p).cfg.flags 0 = false) :
    ((ethWrite p c s).ethP p).cfg = c ∧ ((ethWrite p c s).ethP p).state = 1 ∧ ((ethWrite p c s).ethP p).ups = 0 ∧
      ((ethWrite p c s).interp (1024 + p)).enabled = true := by
  unfold ethWrite
  dsimp only
  rw [if_neg (by rw [inSafe_rewriteWord hs]; decide), if_pos (by rw [hn, ho]; rfl)]
  obtain ⟨hcfg, hrest⟩ := enableEth_leaves p
    ((rewriteWord 5 p s).setEthP p { (rewriteWord 5 p s).ethP p with cfg := c, cfgNext := none })
  exact ⟨hcfg.trans (by rw [setEthP_ethP_same]), hrest⟩

/-- A record that restarts the link of an enabled port: at once, or after the frame in progress (R389). -/
theorem ethWrite_relinks {p : Nat} {c : EthCfg} {s : State} (hs : (s.flt 5).safe = 0) (hn : bit c.flags 0 = true)
    (ho : bit (s.ethP p).cfg.flags 0 = true) (hr : c.rate ≠ (s.ethP p).cfg.rate) :
    ethWrite p c s =
      if sending s p then (withdrawAll p (rewriteWord 5 p s)).setEthP p
        { (withdrawAll p (rewriteWord 5 p s)).ethP p with cfgNext := some c }
      else relink p c (withdrawAll p (rewriteWord 5 p s)) := by
  have hsend : sending (withdrawAll p (rewriteWord 5 p s)) p = sending s p := by
    rw [withdrawAll_sending, sending, rewriteWord_ethP, (rewriteWord_within 5 p s).now_eq, sending]
  unfold ethWrite
  dsimp only
  rw [if_neg (by rw [inSafe_rewriteWord hs]; decide), if_neg (by simp [ho]), if_neg (by simp [hn]),
    if_pos (by simp [relinks, hn, hr]), hsend]

section
variable {p : Nat} {c : EthCfg} {s : State} (hs : (s.flt 5).safe = 0) (hn : bit c.flags 0 = true)
    (ho : bit (s.ethP p).cfg.flags 0 = true) (hr : c.rate ≠ (s.ethP p).cfg.rate)
include hs hn ho hr

theorem ethWrite_relinks_now (hsend : sending s p = false) :
    ((ethWrite p c s).ethP p).cfg = c ∧ ((ethWrite p c s).ethP p).state = 1 ∧ ((ethWrite p c s).ethP p).anDone = false := by
  rw [ethWrite_relinks hs hn ho hr, hsend, if_neg (by decide), relink]
  dsimp only
  rw [setEthP_ethP_same]
  exact ⟨rfl, rfl, rfl⟩

theorem ethWrite_relinks_later (hsend : sending s p = true) :
    ((ethWrite p c s).ethP p).cfgNext = some c ∧ ((ethWrite p c s).ethP p).cfg = (s.ethP p).cfg ∧
      ((ethWrite p c s).ethP p).state = (s.ethP p).state := by
  rw [ethWrite_relinks hs hn ho hr, if_pos hsend, setEthP_ethP_same]
  obtain ⟨hcfg, hstate⟩ := withdrawAll_link p (rewriteWord 5 p s)
  rw [rewriteWord_ethP] at hcfg hstate
  exact ⟨rfl, hcfg, hstate⟩

end

theorem bodyEthPortConfig_written {c : Cmd} {s : State} {r : List Byte} {p : Nat} (hc : c.req.payload = r) (hl : r.length = 16)
    (hp : p = rd r 0 1) (h16 : p < 16) (hf : rd r 1 1 < 8) (hrate : rd r 2 1 ≤ 3) (hpmd : rd r 3 1 ≤ 1) (hlo : 1518 ≤ rd r 4 2)
    (hhi : rd r 4 2 ≤ 9216) (hz6 : rd r 6 2 = 0) (hmac : bit (rd r 8 1) 0 = false) (hz14 : rd r 14 2 = 0)
    (hloop : bit (s.ethP p).cfg.flags 0 = true ∨ (ethLoop s p).depth = 0) :
    bodyEthPortConfig c s = ok (ethWrite p (ethParse s p r) s) (ethRecord (ethWrite p (ethParse s p r) s) p) := by
  simp only [bodyEthPortConfig, hc, ← hp]
  rw [if_neg (by omega), checked_of_all (by simp [numEth, h16]), if_neg (by omega),
    checked_of_all (by simp [hf, hrate, hpmd, hlo, hhi, hmac, zeroAt, hz6, hz14]), if_neg]
  rcases hloop with h | h <;> simp [h]

/-! Events at a port. -/

/-- An event at a port, seen in the port's record only. -/
theorem goes_ethP {p : Nat} {s u : State} {P : Eth → Prop} (hp : p < 16) (h : P (u.ethP p)) :
    Goes (guardUnit (p < numEth) s (done s u)) (fun t => P (t.ethP p)) :=
  goes_unit (decide_eq_true hp) fun _ => h

theorem goes_ethP_set {p : Nat} {s u : State} {x : Eth} {P : Eth → Prop} (hp : p < 16) (hu : u = s.setEthP p x) (h : P x) :
    Goes (guardUnit (p < numEth) s (done s u)) (fun t => P (t.ethP p)) := by
  refine goes_ethP hp ?_
  rw [hu, setEthP_ethP_same]
  exact h

theorem pauseFrame_pauses {p en : Nat} {quanta : List Nat} {s : State} {q : Nat} (hq : q < 8) (hup : (s.ethP p).state = 3)
    (hlpi : (s.ethP p).lpiUntil ≤ s.now) (hig : (s.ethP p).pauseIgnore = false) (hen : bit (s.ethP p).pause.flags 0 = true)
    (hn : quanta.getD 0 0 % 65536 ≠ 0) :
    tget 0 ((pauseFrame p false en quanta s).ethP p).pausedUntil q =
        s.now + divUp (quanta.getD 0 0 % 65536 * 64 * wirePs (s.ethP p).cfg.rate) 1000 ∧
      ((pauseFrame p false en quanta s).ethP p).pauseRx = satInc sat32 (s.ethP p).pauseRx ∧
      ((pauseFrame p false en quanta s).ethP p).lastFlow = s.now := by
  have hpf : pauseFrame p false en quanta s = (List.range 8).foldl (pauseQueue p (quanta.getD 0 0 % 65536))
      (s.setEthP p { s.ethP p with pauseRx := satInc sat32 (s.ethP p).pauseRx, lastFlow := s.now }) := by
    simp only [pauseFrame]
    rw [if_neg (not_not.mpr hup), if_neg (by omega), if_neg (by simp [hig, hen])]
    rfl
  have hkeep : unpausedEth ((pauseFrame p false en quanta s).ethP p) = unpausedEth
      { s.ethP p with pauseRx := satInc sat32 (s.ethP p).pauseRx, lastFlow := s.now } := by
    rw [hpf]
    refine (foldl_keeps (fun s => unpausedEth (s.ethP p)) (unpausedEth_pauseQueue p _) _ _).trans ?_
    rw [setEthP_ethP_same]
  refine ⟨?_, (congrArg Eth.pauseRx hkeep :), (congrArg Eth.lastFlow hkeep :)⟩
  rw [hpf, foldl_pauseQueue hn _ hq, setEthP_ethP_same]
  rfl

theorem pauseFrame_enabled {p en : Nat} {quanta : List Nat} {s : State} {q : Nat} (hen : bit en q = false)
    (hup : (s.ethP p).state = 3) (hlpi : (s.ethP p).lpiUntil ≤ s.now) :
    tget 0 ((pauseFrame p true en quanta s).ethP p).pausedUntil q = tget 0 (s.ethP p).pausedUntil q ∧
      ((pauseFrame p true en quanta s).ethP p).pfcRx = satInc sat32 (s.ethP p).pfcRx := by
  simp only [pauseFrame]
  rw [if_neg (not_not.mpr hup), if_neg (by omega)]
  simp only [if_true]
  split
  · rw [setEthP_ethP_same]
    exact ⟨rfl, rfl⟩
  · have hkeep := unpausedEth_enabled p en quanta
      (s.setEthP p { s.ethP p with pfcRx := satInc sat32 (s.ethP p).pfcRx, lastFlow := s.now })
    rw [pauseView_enabled hen, setEthP_ethP_same]
    refine ⟨rfl, (congrArg Eth.pfcRx hkeep :).trans ?_⟩
    rw [setEthP_ethP_same]
    rfl

theorem pauseWdog_trips {p q : Nat} {s : State} (hq : q < 8) (hpaused : paused s (s.ethP p) q = true)
    (hlate : tget 0 (s.ethP p).pausedSince q + (s.ethP p).pause.wdog * 1000 ≤ s.now) :
    ((pauseWdog p s).ethP p).pauseIgnore = true ∧ ((pauseWdog p s).ethP p).wdogTrips = satInc sat32 (s.ethP p).wdogTrips ∧
      bit ((pauseWdog p s).flt 5).status (16 + p) = true ∧
      ∀ k ∈ List.range 8, tget 0 ((pauseWdog p s).ethP p).pausedUntil k = 0 := by
  have hany : (List.range 8).any (fun q =>
      paused s (s.ethP p) q && decide (tget 0 (s.ethP p).pausedSince q + (s.ethP p).pause.wdog * 1000 ≤ s.now)) = true :=
    List.any_eq_true.mpr ⟨q, List.mem_range.mpr hq, by simp [hpaused, hlate]⟩
  have heth : (pauseWdog p s).ethP p =
      { (unpauseAll p s).ethP p with wdogTrips := satInc sat32 (s.ethP p).wdogTrips, pauseIgnore := true } := by
    simp only [pauseWdog]
    rw [if_pos hany, (setSticky_within _ _ _).ethP_eq (by decide), setEthP_ethP_same]
  refine ⟨congrArg Eth.pauseIgnore heth, congrArg Eth.wdogTrips heth, ?_, fun k hk => ?_⟩
  · simp only [pauseWdog]
    rw [if_pos hany]
    exact (setSticky_flt _ _ _).1
  · rw [heth]
    dsimp only
    exact unpauseAll_queue p s (List.mem_range.mp hk)

theorem loopMeasureEnd_ethP {p : Nat} {l : List (Option Interval)} {s : State} (hr : (s.ethP p).lm.running = true)
    (hs : (s.ethP p).lm.startAt + 40960000 ≤ s.now) (hl : l.length = 4096) (h0 : 0 < (l.filterMap id).length) :
    ∃ dev, (loopMeasureEnd p l s).ethP p = { s.ethP p with lm := { (s.ethP p).lm with
      running := false, mean := divNearI (l.filterMap id).sum (l.filterMap id).length, stddev := dev
      residual := divNearI (l.filterMap id).sum (l.filterMap id).length - (s.ethP p).lm.delay
      frames := (l.filterMap id).length } } := by
  have hmax : max 1 (l.filterMap id).length = (l.filterMap id).length := by omega
  simp only [loopMeasureEnd]
  rw [if_neg (by simp [hr, hl]; omega), setEthP_ethP_same, hmax]
  simp only [Nat.ne_of_gt h0, if_false]
  exact ⟨_, rfl⟩

/-! ETH_TAG_CONFIG (R402). -/

/-- A tag entry written. -/
def tagWritten (p d : Nat) (g : TagCfg) (s : State) : State :=
  s.setEthP p { s.ethP p with tags := tset {} (s.ethP p).tags d g }

theorem tagWritten_tag (p d : Nat) (g : TagCfg) (s : State) : tget {} ((tagWritten p d g s).ethP p).tags d = g := by
  rw [tagWritten, setEthP_ethP_same]
  exact tget_tset_same ..

theorem bodyEthTagConfig_written {c : Cmd} {s : State} {r : List Byte} (hc : c.req.payload = r) (hl : r.length = 12)
    (hp : rd r 0 1 < 16) (hd : rd r 1 1 ≤ 10) (hmode : rd r 2 1 ≤ 3) (hpcp : rd r 3 1 ≤ 7) (hcvid : rd r 4 2 ≤ 4094)
    (hsvid : rd r 6 2 ≤ 4094) (hz : rd r 8 4 = 0) :
    bodyEthTagConfig c s = ok (tagWritten (rd r 0 1) (rd r 1 1) ⟨rd r 2 1, rd r 3 1, rd r 4 2, rd r 6 2⟩ s)
      (tagRecord (tagWritten (rd r 0 1) (rd r 1 1) ⟨rd r 2 1, rd r 3 1, rd r 4 2, rd r 6 2⟩ s) (rd r 0 1) (rd r 1 1)) := by
  simp only [bodyEthTagConfig, hc]
  rw [if_neg (by omega), checked_of_all (by simp [numEth, hp, hd]), if_neg (by omega),
    checked_of_all (by simp [zeroAt, hz, hmode, hpcp, hcvid, hsvid])]
  rfl

/-! ETH_ASYM_CAL (R397, R398, R404). -/

theorem asymWrite_row (p row : Nat) (g : AsymRow) (link : Interval) (s : State) :
    tget {} ((asymWrite p row g link s).ethP p).rows row = g ∧ ((asymWrite p row g link s).ethP p).linkAsym = link := by
  rw [asymWrite, setEthP_ethP_same]
  exact ⟨tget_tset_same .., rfl⟩

section
variable {c : Cmd} {s : State} {r : List Byte} {p : Nat} (hc : c.req.payload = r) (hl : r.length = 48) (hp : p = rd r 1 1)
    (h16 : p < 16) (hrate : rd r 2 1 ≤ 3) (hfec : rd r 3 1 ≤ 1) (hfit : fecFits (rd r 2 1) (rd r 3 1) = true)
include hc hl hp h16 hrate hfec hfit

theorem bodyEthAsymCal_read (ha : rd r 0 1 = 0) :
    bodyEthAsymCal c s = ok s (asymRecord s 0 p (2 * rd r 2 1 + rd r 3 1)) := by
  simp only [bodyEthAsymCal, hc, ← hp, ha]
  rw [if_neg (not_not.mpr hl), checked_of_all (by simp [numEth, h16, hrate, hfec, hfit])]

theorem bodyEthAsymCal_result (ha : rd r 0 1 = 3) : bodyEthAsymCal c s = ok s (loopRecord s p) := by
  simp only [bodyEthAsymCal, hc, ← hp, ha]
  rw [if_neg (not_not.mpr hl), checked_of_all (by simp [numEth, h16, hrate, hfec, hfit])]

theorem bodyEthAsymCal_write (ha : rd r 0 1 = 1) (hunc : rd r 4 4 ≤ 0xFA00) (htx : 0 ≤ rdI r 8 8) (htx' : rdI r 8 8 ≤ 6553600)
    (hrx : 0 ≤ rdI r 16 8) (hrx' : rdI r 16 8 ≤ 6553600) (hlink : -65536000 ≤ rdI r 24 8) (hlink' : rdI r 24 8 ≤ 65536000)
    (hz : rd r 40 8 = 0) (hw : windowOpen s = true) (hlog : s.log.fault = false) :
    ∃ t, (∀ q, t.ethP q = s.ethP q) ∧ bodyEthAsymCal c s =
      ok (asymWrite p (2 * rd r 2 1 + rd r 3 1) ⟨rd r 4 4, rdI r 8 8, rdI r 16 8⟩ (rdI r 24 8) t)
        (asymRecord (asymWrite p (2 * rd r 2 1 + rd r 3 1) ⟨rd r 4 4, rdI r 8 8, rdI r 16 8⟩ (rdI r 24 8) t) 1 p
          (2 * rd r 2 1 + rd r 3 1)) := by
  refine ⟨sealedLog (sealedOf 0x0805 p [(4, 4), (8, 8), (16, 8), (24, 8)] (asymRecord s 1 p (2 * rd r 2 1 + rd r 3 1)) r) s,
    sealedLog_ethP _ _, ?_⟩
  simp only [bodyEthAsymCal, hc, ← hp, ha]
  rw [if_neg (not_not.mpr hl), checked_of_all (by simp [numEth, h16, hrate, hfec, hfit]),
    checked_of_all (by simp [hunc, htx, htx', hrx, hrx', hlink, hlink', zeroAt, hz]),
    sealedWrite_of_status (sealedStatus_open hw hlog _)]

theorem bodyEthAsymCal_measure (ha : rd r 0 1 = 2) (hd : 0 ≤ rdI r 32 8) (hd' : rdI r 32 8 ≤ 6553600000) (hz : rd r 40 8 = 0)
    (hserve : portServes s p = false) (hup : (s.ethP p).state = 3) (hidle : (s.ethP p).lm.running = false) :
    bodyEthAsymCal c s = pend (s.setEthP p { s.ethP p with
      lm := { (s.ethP p).lm with running := true, delay := rdI r 32 8, startAt := s.now } }) [] := by
  simp only [bodyEthAsymCal, hc, ← hp, ha]
  rw [if_neg (not_not.mpr hl), checked_of_all (by simp [numEth, h16, hrate, hfec, hfit]),
    checked_of_all (by simp [hd, hd', zeroAt, hz]), if_neg (by simp [hserve, hup]), if_neg (by simp [hidle])]

end

/-- Settles O23: a record by its body, a link by its next state, a pause by what each queue's own step leaves. -/
theorem ethernetComplete : Obligations.EthernetComplete := by
  unfold Obligations.EthernetComplete
  refine ⟨?_, ?_, ?_, ?_, ?_, ?_, ?_, ?_, ?_, ?_, ?_, ?_, ?_, ?_, ?_, ?_, ?_⟩
  · intro rq s p h hl hp h16 hf hn ho hrate hpmd hlo hhi hz6 hmac hz14 hloop hsafe
    refine goes_of_ok_body bodyEthPortConfig_within (by decide) h
      (bodyEthPortConfig_written rfl hl hp h16 hf hrate hpmd hlo hhi hz6 hmac hz14 (.inr hloop)) fun k hans => ?_
    obtain ⟨hcfg, hstate, hups, hint⟩ := ethWrite_enables (p := p) (c := ethParse s p rq.payload) (s := takeId s) hsafe hn ho
    exact ⟨hcfg, hstate, hups, hint, hans⟩
  · intro rq s p h hl hp h16 hclr
    refine kcpRow_reads 0x0802 bodyEthPortStatus rq s _ h ?_
    simp only [bodyEthPortStatus, rowCmd, ← hp, hclr]
    rw [if_neg (not_not.mpr hl), checked_of_all (by simp [numEth, h16]), if_neg (by decide)]
    rfl
  · rintro rq s g h hl hp hd rfl hmode hpcp hc hs hz
    have hbody := bodyEthTagConfig_written (c := rowCmd 0x0803 rq s) (s := takeId s) rfl hl hp hd hmode hpcp hc hs hz
    refine goes_of_ok_body bodyEthTagConfig_within (by decide) h hbody fun k hans => ⟨?_, hans⟩
    exact tagWritten_tag ..
  · intro rq s p h hl hp h16 hf hz hlo hhi hten
    have hbody : bodyEthPauseConfig (rowCmd 0x0804 rq s) (takeId s) =
        let t := (takeId s).setEthP p { s.ethP p with pause := ⟨rd rq.payload 1 1, rd rq.payload 4 4⟩ }
        ok t (pauseRecord t p) := by
      simp only [bodyEthPauseConfig, rowCmd, ← hp]
      rw [if_neg (by omega), checked_of_all (by simp [numEth, h16]), if_neg (by omega),
        checked_of_all (by simp [zeroAt, hz, hf, hlo, hhi, hten])]
      rfl
    exact goes_of_ok_body bodyEthPauseConfig_within (by decide) h hbody fun k hans =>
      ⟨congrArg Eth.pause (setEthP_ethP_same ..), hans⟩
  · rintro rq s p row g h hl ha hp h16 hrate hfec hfit rfl rfl hunc htx htx' hrx hrx' hlink hlink' hz hw hlog
    obtain ⟨t, -, hbody⟩ := bodyEthAsymCal_write (c := rowCmd 0x0805 rq s) (s := takeId s) rfl hl hp h16 hrate hfec hfit ha hunc
      htx htx' hrx hrx' hlink hlink' hz hw hlog
    refine goes_of_ok_body bodyEthAsymCal_within (by decide) h hbody fun k hans => ?_
    obtain ⟨hrow, hlinkAsym⟩ := asymWrite_row p (2 * rd rq.payload 2 1 + rd rq.payload 3 1)
      ⟨rd rq.payload 4 4, rdI rq.payload 8 8, rdI rq.payload 16 8⟩ (rdI rq.payload 24 8) t
    exact ⟨hrow, hlinkAsym, hans⟩
  · intro rq s p h hl ha hp h16 hrate hfec hfit hd hd' hz hserve hup hidle
    exact goes_of_pend_body bodyEthAsymCal_within (by decide) h
      (bodyEthAsymCal_measure rfl hl hp h16 hrate hfec hfit ha hd hd' hz hserve hup hidle) fun k hpend =>
      ⟨hpend, congrArg Eth.lm (setEthP_ethP_same ..)⟩
  · intro rq s h hl ha h16 hrate hfec hfit
    exact kcpRow_reads 0x0805 bodyEthAsymCal _ s _ h (bodyEthAsymCal_result rfl hl rfl h16 hrate hfec hfit ha)
  · intro p a b s hp hs
    exact goes_ethP_set (P := fun x => x.state = 3 ∧ x.alignRx = a ∧ x.alignTx = b ∧ x.ups = satInc sat32 (s.ethP p).ups ∧
      x.rowUsed = tget {} (s.ethP p).rows (rowOf (s.ethP p).cfg)) hp (if_pos (by simpa using hs)) ⟨rfl, rfl, rfl, rfl, rfl⟩
  · intro p s hp hs
    refine goes_ethP (P := fun x => x.state = 1 ∧ x.committedQ = [] ∧ x.lm.running = false) hp ?_
    rw [ethLinkDown, if_neg (by omega)]
    exact linkDown_leaves p s
  · intro p s hp hs hf
    refine goes_ethP_set (x := { s.ethP p with state := 2, anDone := true }) (P := fun x => x.state = 2 ∧ x.anDone = true)
      hp ?_ ⟨rfl, rfl⟩
    exact (if_neg (by simp [hs, hf])).trans (if_pos rfl)
  · intro p s hp hs
    exact goes_ethP_set (P := fun x => x.lpiSeen = true ∧ x.lpiUntil = s.now + 100000) hp (if_pos hs) ⟨rfl, rfl⟩
  · intro p en quanta s q hp hq hup hlpi hig hen hn
    exact goes_ethP (P := fun x => tget 0 x.pausedUntil q = _ ∧ x.pauseRx = _ ∧ x.lastFlow = _) hp
      (pauseFrame_pauses hq hup hlpi hig hen hn)
  · intro p q s hp hq hu hle
    refine goes_unit (by simp [numEth, hp, hq]) fun k => ?_
    have h : pauseExpiry p q s = unpause p s q := if_pos ⟨hu, hle⟩
    rw [h]
    exact unpause_same p s q
  · intro p q s hp hq hpaused hlate
    exact goes_unit (decide_eq_true hp) fun k => pauseWdog_trips hq hpaused hlate
  · intro p s hp hig hlast
    exact goes_ethP_set (P := (· = _)) hp (if_pos ⟨hig, hlast⟩) rfl
  · intro p s hp hs
    exact goes_ethP_set (P := (· = _)) hp ((if_neg (by simp [hs])).trans (if_pos rfl)) rfl
  · intro p l s hp hr hs hl h0
    obtain ⟨dev, h⟩ := loopMeasureEnd_ethP hr hs hl h0
    refine goes_unit (decide_eq_true hp) fun k => ?_
    have h : State.ethP { loopMeasureEnd p l s with kcp := k } p = _ := h
    simp only [h]
    trivial

/-- Settles O48: the reads by their bodies, a written rate by where the frame in progress stands. -/
theorem ethernetForms : Obligations.EthernetForms := by
  unfold Obligations.EthernetForms
  refine ⟨?_, ?_, ?_, ?_, ?_, ?_, ?_, ?_, ?_, ?_⟩
  · intro rq s h hl h16
    refine kcpRow_reads 0x0801 bodyEthPortConfig rq s _ h ?_
    exact (if_neg (fun hb => hb.1 hl)).trans ((checked_of_all (by simp [numEth, h16, rowCmd]) _ _).trans (if_pos hl))
  · intro rq s p h hl hp h16 hf hn ho hr hrate hpmd hlo hhi hz6 hmac hz14 hsafe hsend
    refine goes_of_ok_body bodyEthPortConfig_within (by decide) h
      (bodyEthPortConfig_written rfl hl hp h16 hf hrate hpmd hlo hhi hz6 hmac hz14 (.inl ho)) fun k hans => ?_
    exact ethWrite_relinks_now (s := takeId s) hsafe hn ho hr hsend
  · intro rq s p h hl hp h16 hf hn ho hr hrate hpmd hlo hhi hz6 hmac hz14 hsafe hsend
    refine goes_of_ok_body bodyEthPortConfig_within (by decide) h
      (bodyEthPortConfig_written rfl hl hp h16 hf hrate hpmd hlo hhi hz6 hmac hz14 (.inl ho)) fun k hans => ?_
    exact ethWrite_relinks_later (s := takeId s) hsafe hn ho hr hsend
  · intro rq s p h hl hp h16 hclr
    have hbody : bodyEthPortStatus (rowCmd 0x0802 rq s) (takeId s) =
        ok ((takeId s).setEthP p (clearEth (s.ethP p))) (ethStatus s p) := by
      simp only [bodyEthPortStatus, rowCmd, ← hp, hclr]
      rw [if_neg (not_not.mpr hl), checked_of_all (by simp [numEth, h16]), if_pos (by decide)]
      rfl
    have heth := setEthP_ethP_same (takeId s) p (clearEth (s.ethP p))
    exact goes_of_ok_body bodyEthPortStatus_within (by decide) h hbody fun k hans => ⟨heth, (congrArg Eth.state heth :), hans⟩
  · intro rq s h hl h16 hd
    refine kcpRow_reads 0x0803 bodyEthTagConfig rq s _ h ?_
    exact (if_neg (fun hb => hb.1 hl)).trans ((checked_of_all (by simp [numEth, h16, hd, rowCmd]) _ _).trans (if_pos hl))
  · intro rq s h hl h16
    refine kcpRow_reads 0x0804 bodyEthPauseConfig rq s _ h ?_
    exact (if_neg (fun hb => hb.1 hl)).trans ((checked_of_all (by simp [numEth, h16, rowCmd]) _ _).trans (if_pos hl))
  · intro rq s h hl ha h16 hrate hfec hfit
    exact kcpRow_reads 0x0805 bodyEthAsymCal _ s _ h (bodyEthAsymCal_read rfl hl rfl h16 hrate hfec hfit ha)
  · intro p s hp hs hf
    refine goes_ethP_set (x := { s.ethP p with anFail := satInc sat32 (s.ethP p).anFail })
      (P := fun x => x.state = 1 ∧ x.anFail = satInc sat32 (s.ethP p).anFail) hp ?_ ⟨hs, rfl⟩
    exact (if_neg (by simp [hs, hf])).trans (if_neg (by simp))
  · intro p en quanta s q hp hq hen hup hlpi
    exact goes_ethP (P := fun x => tget 0 x.pausedUntil q = _ ∧ x.pfcRx = _) hp (pauseFrame_enabled hen hup hlpi)
  · intro p s hp hs
    exact goes_ethP_set (P := (· = _)) hp ((if_neg (by simp [hs])).trans (if_neg (by decide))) rfl

end Sys2Proof.Machine
end

section
/-! SUPPORT. Group 0x0E and the events of the outputs: APLLs, pulses, sample clocks (R445 to R468). -/

namespace Sys2Proof.Machine
open Sys2Proof

theorem rd_withByte_same {off v : Nat} {rq : Request} (hl : off < rq.payload.length) (hv : v < 256) :
    rd (withByte off v rq).payload off 1 = v := by
  have hlen : (rq.payload.take off).length = off := by rw [List.length_take]; omega
  rw [rd, withByte, List.set_eq_take_append_cons_drop, if_pos hl, List.drop_left' hlen]
  simp [leVal, Nat.mod_eq_of_lt hv]

/-! What the outputs stand on: the synthesisers' state without what the outputs do. -/

/-- The state without what the outputs do. -/
def sansOuts (s : State) : State := { s with syn := { s.syn with out := [] } }

/-- The synthesisers without what the outputs do. -/
def synRest (s : State) : Syn := { s.syn with out := [] }

theorem Within.syn_eq {ps : List Part} {s t : State} (h : Within ps s t) (hp : Part.syn ∉ ps) : t.syn = s.syn :=
  (h.keeps .syn hp).symm

theorem setCond_syn (b n : Nat) (v : Bool) (s : State) : (setCond b n v s).syn = s.syn :=
  (setCond_within b n v s).syn_eq (by decide)

theorem rewriteWord_syn (b i : Nat) (s : State) : (rewriteWord b i s).syn = s.syn :=
  (rewriteWord_within b i s).syn_eq (by decide)

theorem synRest_of_sansOuts {s t : State} (h : sansOuts t = sansOuts s) : synRest t = synRest s := congrArg State.syn h

/-- Writing one output after another leaves all else. -/
theorem foldl_setOutp_sansOuts (f : State → Nat → OutSt) (l : List Nat) (s : State) :
    sansOuts (l.foldl (fun t o => t.setOutp o (f t o)) s) = sansOuts s :=
  foldl_keeps (f := fun t o => t.setOutp o (f t o)) sansOuts (fun _ _ => rfl) l s

theorem unsync_sansOuts (a : Nat) (s : State) : sansOuts (unsync a s) = sansOuts s := foldl_setOutp_sansOuts ..

/-- Writing one output after another: what the written record has, each of them has. -/
theorem foldl_setOutp_establishes {f : OutSt → OutSt} {P : OutSt → Prop} (hf : ∀ x, P (f x)) (l : List Nat) (s : State) :
    ∀ o ∈ l, P ((l.foldl (fun t o => t.setOutp o (f (t.outp o))) s).outp o) := by
  refine foldl_establishes (f := fun t o => t.setOutp o (f (t.outp o))) (P := fun t o => P (t.outp o)) (fun t b => ?_)
    (fun t b c hc => ?_) l s
  · rw [setOutp_outp_same]
    exact hf _
  · by_cases hcb : c = b
    · rw [hcb, setOutp_outp_same]
      exact hf _
    · rwa [setOutp_outp_other _ _ _ _ hcb]

theorem unsync_outp (a : Nat) (s : State) : ∀ o ∈ outputsOf s a, ((unsync a s).outp o).synced = false :=
  foldl_setOutp_establishes (f := fun x => { x with synced := false }) (P := fun x => x.synced = false) (fun _ => rfl)
    (outputsOf s a) s

theorem outputsOf_congr {s t : State} (h : t.syn = s.syn) (a : Nat) : outputsOf t a = outputsOf s a := by
  simp only [outputsOf, outApll, h]

/-! APLL_LOCK, APLL_UNLOCK, OUTPUT_RESUME (R447, R448). -/

theorem apllLock_locks {w : ApllCycles} {s : State} (hen : (s.apll w.apll).cfg.enable = true)
    (hlock : (s.apll w.apll).locked = false) (hr : lockReached (s.apll w.apll) w.runs = true) :
    (apllLock w s).apll w.apll = { s.apll w.apll with
        locked := true, inputLost := false, lockedAt := s.now, resumed := false, resumeAt := some (resumeInstant s) } ∧ bit ((apllLock w s).flt 6).cond (16 + w.apll) = false := by
  unfold apllLock
  dsimp only
  rw [if_neg (by simp [hen, hlock, hr])]
  refine ⟨?_, (setCond_false_flt ..).1⟩
  rw [State.apll, setCond_syn]
  exact setApll_apll_same ..

theorem apllUnlock_gates {a : Nat} {l : ApllLoss} {s : State} (hen : (s.apll a).cfg.enable = true)
    (hlock : (s.apll a).locked = true) (hl : lossHolds (s.apll a) l = true) :
    (apllUnlock a l s).apll a = { s.apll a with
        locked := false, inputLost := inputGone l, resumed := false, resumeAt := none, unlocks := min 4294967295 ((s.apll a).unlocks + 1) } ∧
      bit ((apllUnlock a l s).flt 6).status (16 + a) = true ∧
      ∀ o ∈ outputsOf s a, ((apllUnlock a l s).outp o).synced = false := by
  unfold apllUnlock
  dsimp only
  rw [if_neg (by simp [hen, hl]), if_pos hlock, satInc_sat32]
  generalize ({ s.apll a with
    locked := false, inputLost := inputGone l, resumed := false, resumeAt := none, unlocks := min 4294967295 ((s.apll a).unlocks + 1) } : Apll) = x
  generalize ht : setCond 6 (16 + a) true (s.setApll a x) = t
  have hsyn : t.syn = (s.setApll a x).syn := ht ▸ setCond_syn ..
  have happ : (unsync a t).apll a = t.apll a := (congrArg (fun t => t.apll a) (unsync_sansOuts a t) :)
  have hflt : (unsync a t).flt 6 = t.flt 6 := (congrArg (fun t => t.flt 6) (unsync_sansOuts a t) :)
  refine ⟨?_, ?_, fun o ho => unsync_outp a t o ?_⟩
  · rw [happ, State.apll, hsyn]
    exact setApll_apll_same ..
  · rw [hflt, ← ht]
    exact (setCond_true_flt ..).1
  · rw [outputsOf_congr hsyn]
    exact ho

theorem outputResume_resumes {a : Nat} {r : FieldTime} {s : State} (hr : (s.apll a).resumeAt = some r)
    (hle : r ≤ replicaTime s 0) (hlock : (s.apll a).locked = true) :
    (outputResume a s).apll a = { s.apll a with resumed := true, resumeAt := none } ∧
      ∀ o ∈ outputsOf s a, ((outputResume a s).outp o).syncGate = false := by
  unfold outputResume
  dsimp only
  rw [hr]
  dsimp only
  rw [if_pos ⟨hle, hlock⟩]
  refine ⟨?_, ?_⟩
  · refine (congrArg (fun t => t.apll a) (foldl_setOutp_sansOuts (fun t o => { t.outp o with syncGate := false }) _ _) :).trans ?_
    exact setApll_apll_same ..
  · exact foldl_setOutp_establishes (f := fun x => { x with syncGate := false }) (P := fun x => x.syncGate = false)
      (fun _ => rfl) _ _

/-! SYN_CONFIG (R464). -/

/-- Whether a written record restarts the APLL. -/
abbrev Restarts (o c : SynCfg) : Prop := (o.enable, o.fvco, o.bw, o.seedDelta) ≠ (c.enable, c.fvco, c.bw, c.seedDelta)

/-- An APLL under a written record. -/
def synWritten (x : Apll) (c : SynCfg) : Apll :=
  if Restarts x.cfg c then { x with cfg := c, locked := false, resumed := false, resumeAt := none } else { x with cfg := c }

theorem putSyn_rest (a : Nat) (c : SynCfg) (limit : Nat) (arm : Bool) (s : State) :
    synRest (putSyn a c limit arm s) = { synRest s with
      apll := tset {} s.syn.apll a (synWritten (s.apll a) c), checkLimit := limit, syncArmed := s.syn.syncArmed || arm } := by
  unfold putSyn
  dsimp only
  rw [synRest, rewriteWord_syn, synWritten]
  by_cases h : Restarts (s.apll a).cfg c
  · rw [if_pos (decide_eq_true h), if_pos h]
    have hu (t : State) : synRest (unsync a t) = synRest t := synRest_of_sansOuts (unsync_sansOuts a t)
    split
    · exact hu _
    · rw [setCond_syn]
      exact hu _
  · rw [if_neg (by simpa using h), if_neg h]
    rfl

theorem putSyn_apll (a : Nat) (c : SynCfg) (limit : Nat) (arm : Bool) (s : State) :
    (putSyn a c limit arm s).apll a = synWritten (s.apll a) c :=
  (congrArg (fun y : Syn => tget {} y.apll a) (putSyn_rest a c limit arm s) :).trans (tget_tset_same ..)

theorem synWritten_cfg (x : Apll) (c : SynCfg) : (synWritten x c).cfg = c := by
  unfold synWritten
  split <;> rfl

theorem synWritten_same (x : Apll) : synWritten x x.cfg = x := if_neg (not_not.mpr rfl)

theorem putSyn_leaves (a : Nat) (c : SynCfg) (limit : Nat) (arm : Bool) (s : State) :
    ((putSyn a c limit arm s).apll a).cfg = c ∧ (putSyn a c limit arm s).syn.checkLimit = limit ∧
      (putSyn a c limit arm s).syn.syncArmed = (s.syn.syncArmed || arm) ∧
      (Restarts (s.apll a).cfg c →
        ((putSyn a c limit arm s).apll a).locked = false ∧ ((putSyn a c limit arm s).apll a).resumed = false) := by
  have hrest := putSyn_rest a c limit arm s
  rw [putSyn_apll]
  refine ⟨synWritten_cfg .., (congrArg Syn.checkLimit hrest :), (congrArg Syn.syncArmed hrest :), fun h => ?_⟩
  rw [synWritten, if_pos h]
  exact ⟨rfl, rfl⟩

/-- The record that a write of SYN_CONFIG asks for. -/
def synParse (p : List Byte) : SynCfg :=
  ⟨bit (rd p 1 1) 0, rd p 4 4, rd p 8 4, rd p 12 4 ^^^ seedBase (rd p 0 1), rd p 16 2, rd p 20 4⟩

theorem bodySynConfig_written {c : Cmd} {s : State} {p : List Byte} (hc : c.req.payload = p) (hl : p.length = 24)
    (h4 : rd p 0 1 < 4) (hf : rd p 1 1 < 2) (hact : rd p 2 1 < 2) (hz : rd p 3 1 = 0) (hv : 10000 ≤ rd p 4 4)
    (hv' : rd p 4 4 ≤ 12000) (hb : 100 ≤ rd p 8 4) (hb' : rd p 8 4 ≤ 2000) (hb'' : rd p 8 4 % 100 = 0) (hw : 10 ≤ rd p 16 2)
    (hw' : rd p 16 2 ≤ 1000) (hlim : 100 ≤ rd p 18 2) (hlim' : rd p 18 2 ≤ 10000) (hk : 64 ≤ rd p 20 4)
    (hk' : rd p 20 4 ≤ 1048576) (hen : bit (rd p 1 1) 0 = true ∨ (outputsOf s (rd p 0 1)).any (outEnabled s) = false) :
    bodySynConfig c s = ok (putSyn (rd p 0 1) (synParse p) (rd p 18 2) (rd p 2 1 == 1) s)
      (synRecord (putSyn (rd p 0 1) (synParse p) (rd p 18 2) (rd p 2 1 == 1) s) (rd p 0 1)) := by
  simp only [bodySynConfig, hc]
  rw [if_neg (by omega), if_neg (not_not.mpr hl), checked_of_all, if_neg]
  · rfl
  · rcases hen with h | h <;> simp [h]
  · simp [zeroAt, hz, h4, hf, hact, hv, hv', hb, hb', hb'', hw, hw', hlim, hlim', hk, hk']

/-! SYN_STATUS (R465). -/

theorem draws_of_range (n m : Nat) (s : State) :
    (List.range n).foldl (fun (a : List Nat × State) _ => (a.1 ++ [(drawBelow m a.2).1], (drawBelow m a.2).2)) ([], s) =
      ((List.range n).map (fun i => Config.freeValue (s.free + i) % m), { s with free := s.free + n }) := by
  induction n with
  | zero => rfl
  | succ n ih => rw [List.range_succ, List.foldl_concat, ih, List.map_append]; rfl

/-- The free values are in no view of the generations (R487). -/
theorem changedGroups_free (s : State) (n : Nat) : changedGroups s { s with free := n } = [] :=
  (changedGroups_self s : _)

theorem bodySynStatus_reads {c : Cmd} {s : State} (hp : c.req.payload = []) :
    bodySynStatus c s = ok { s with free := s.free + 4 } (le 4 (outBound s) ++ le 4 6 ++
      le 1 (flag 0 s.syn.syncArmed + flag 1 s.tim.tb.running + flag 2 (decide (s.syn.nvmeDownUsed ≠ 0))) ++ zeros 7 ++
      leOptIv (tget none s.syn.loopErr 0) ++ leOptIv (tget none s.syn.loopErr 1) ++
      (List.range 4).flatMap (fun a => apllBytes s a (Config.freeValue (s.free + a) % 4294967296)) ++
      (List.range 16).flatMap (outBytes s)) := by
  rw [bodySynStatus, if_neg (not_not.mpr hp)]
  simp only [draws_of_range]
  rfl

/-- A row that only takes free values answers with the generations as they were. -/
theorem kcpRow_draws {op n : Nat} {body : Body} {rq : Request} {s : State} {p : List Byte} (h : runs op rq s = true)
    (hb : body (rowCmd op rq s) (takeId s) = ok { takeId s with free := n } p) :
    kcpRow op (leastPriv s op rq.payload) body rq s = .next (replied op rq p { s with free := n }) := by
  have hcommit : commitG (takeId s) { takeId s with free := n } = { takeId s with free := n } := by
    rw [commitG, genKcp, if_pos (changedGroups_free (takeId s) n)]
  rw [kcpRow_runs op body rq s h, hb]
  simp only [conclude, ok, Bool.false_eq_true, if_false, stOK, if_true, hcommit, addReply, runs_reply op rq s h]
  rfl

/-! OUT_PPS_CONFIG (R466). -/

theorem putPps_pps (i : Nat) (c : PpsCfg) (s : State) : (putPps i c s).syn.pps = tset {} s.syn.pps i c := by
  unfold putPps
  dsimp only
  rw [rewriteWord_syn]
  split <;> split <;> rfl

theorem putPps_rec {i : Nat} {c : PpsCfg} {s : State} (h : c.written = true) : ppsRec (putPps i c s) i = c := by
  rw [ppsRec, putPps_pps, tget_tset_same]
  exact if_pos h

/-- A pulse's new OFFSET applies from 1 ms on (R452). -/
theorem putPps_offset {i : Nat} {c : PpsCfg} {s : State} (hi : i < 4) (hf : bit (ppsRec s i).flags 1 = false)
    (ho : c.offset ≠ (ppsRec s i).offset) : ((putPps i c s).outp i).offsetFrom = replicaTime s 0 + ms1 := by
  unfold putPps
  dsimp only
  rw [State.outp, rewriteWord_syn, if_neg (by simp [hf]), if_pos ⟨hi, Ne.symm ho⟩]
  exact congrArg OutSt.offsetFrom (setOutp_outp_same ..)

/-- An output that no longer follows SYNC_IN waits for a resume instant (R459). -/
theorem putPps_unset {i : Nat} {c : PpsCfg} {s : State} (hi : 4 ≤ i) (hf : bit (ppsRec s i).flags 1 = true)
    (hc : bit c.flags 1 = false) :
    ((putPps i c s).outp i).synced = false ∧ ((putPps i c s).outp i).syncGate = true ∧
      ((putPps i c s).apll c.src).resumeAt = some ((s.apll c.src).resumeAt.getD (resumeInstant s)) := by
  have hsyn := rewriteWord_syn 6 (4 + i)
  have hlow : ¬(i < 4 ∧ (ppsRec s i).offset ≠ c.offset) := fun h => absurd h.1 (by omega)
  unfold putPps
  dsimp only
  rw [if_pos (by simp [hf, hc]), if_neg hlow, State.outp, State.apll, hsyn]
  refine ⟨congrArg OutSt.synced (setOutp_outp_same ..), congrArg OutSt.syncGate (setOutp_outp_same ..), ?_⟩
  refine (congrArg Apll.resumeAt (setApll_apll_same ..)).trans ?_
  dsimp only
  exact Option.or_some

/-- The record that a write of OUT_PPS_CONFIG asks for. -/
def ppsParse (p : List Byte) : PpsCfg := ⟨true, rd p 1 1, rd p 2 1, rdI p 4 8, rd p 12 4, rd p 16 8⟩

theorem bodyOutPpsConfig_written {c : Cmd} {s : State} {p : List Byte} {i : Nat} (hc : c.req.payload = p) (hl : p.length = 24)
    (hi : i = rd p 0 1) (h8 : i < 8) (hf : rd p 1 1 < 8) (hf1 : i < 4 → bit (rd p 1 1) 1 = false)
    (hf2 : 4 ≤ i → bit (rd p 1 1) 2 = false) (hsrc : rd p 2 1 < 4) (hz : rd p 3 1 = 0)
    (hoff : if i < 4 then (rdI p 4 8).natAbs ≤ 32768000000000
      else 0 ≤ rdI p 4 8 ∧ rdI p 4 8 * (s.apll (rd p 2 1)).cfg.fvco ≤ rd p 16 8 * 65536000)
    (hw : if i < 4 then 10 ≤ rd p 12 4 ∧ rd p 12 4 ≤ 500000000 else rd p 12 4 = 0)
    (hd : if i < 4 then rd p 16 8 = 0 else dividerOk (s.apll (rd p 2 1)).cfg.fvco (rd p 16 8) = true) :
    bodyOutPpsConfig c s = ok (putPps i (ppsParse p) s) (ppsBytes (putPps i (ppsParse p) s) i) := by
  simp only [bodyOutPpsConfig, hc, ← hi]
  rw [if_neg (by omega), if_neg (not_not.mpr hl)]
  refine (checked_of_all ?_ _ _).trans rfl
  by_cases h4 : i < 4
  · rw [if_pos h4] at hoff hw hd
    simp [h4, h8, hf, hf1 h4, hsrc, zeroAt, hz, hoff, hw, hd]
  · rw [if_neg h4] at hoff hw hd
    simp [h4, h8, hf, hf2 (Nat.le_of_not_lt h4), hsrc, zeroAt, hz, hoff, hw, hd]

/-! OUT_SAMPLE_CLOCK (R457, R458, R467). -/

/-- A sample clock's written record in force: what is enabled starts anew, what is disabled goes on to its frame's end. -/
def sclkPut (i : Nat) (n : SclkCfg) (s : State) : State :=
  let x := s.outp (8 + i)
  let t := { s with syn := { s.syn with sclk := tset {} s.syn.sclk i n } }
  if bit n.flags 0 = bit (sclkRec s i).flags 0 then t
  else if bit n.flags 0 then clearMissed n.markerOut (t.setOutp (8 + i) { x with started := false, synced := false, syncGate := false })
  else t.setOutp (8 + i) { x with stopAt := if outDrives s (8 + i) then frameEnd s (8 + i) else x.stopAt }

/-- The record that a write of OUT_SAMPLE_CLOCK asks for. -/
def sclkParse (p : List Byte) : SclkCfg :=
  ⟨rd p 1 1, rd p 2 1, rd p 3 1, rd p 4 4, rd p 8 4, rd p 12 4, rdTime p 16, rd p 32 4⟩

theorem sclkPut_rec (i : Nat) (n : SclkCfg) (s : State) : sclkRec (rewriteWord 6 (12 + i) (sclkPut i n s)) i = n := by
  have h : (sclkPut i n s).syn.sclk = tset {} s.syn.sclk i n := by
    unfold sclkPut clearMissed
    dsimp only
    split
    · rfl
    · split
      · split <;> rfl
      · rfl
  rw [sclkRec, rewriteWord_syn, h, tget_tset_same]

theorem clearMissed_other {m o : Nat} (s : State) (h : m < 4 → o ≠ m) : (clearMissed m s).outp o = s.outp o := by
  unfold clearMissed
  split
  next hm => exact setOutp_outp_other _ _ _ _ (h hm)
  next => rfl

theorem sclkPut_enables {i : Nat} {n : SclkCfg} {s : State} (hn : bit n.flags 0 = true) (ho : bit (sclkRec s i).flags 0 = false) :
    ((rewriteWord 6 (12 + i) (sclkPut i n s)).outp (8 + i)).started = false ∧
      (n.markerOut < 4 → ((rewriteWord 6 (12 + i) (sclkPut i n s)).outp n.markerOut).markerMissed = false) := by
  have hput : sclkPut i n s = clearMissed n.markerOut
      (State.setOutp { s with syn := { s.syn with sclk := tset {} s.syn.sclk i n } } (8 + i)
        { s.outp (8 + i) with started := false, synced := false, syncGate := false }) := by
    unfold sclkPut
    dsimp only
    rw [if_neg (by rw [hn, ho]; decide), if_pos hn]
  rw [State.outp, State.outp, rewriteWord_syn, hput]
  refine ⟨?_, fun hm => ?_⟩
  · refine (congrArg OutSt.started (clearMissed_other _ fun _ => by omega)).trans ?_
    exact congrArg OutSt.started (setOutp_outp_same ..)
  · rw [clearMissed, if_pos hm]
    exact congrArg OutSt.markerMissed (setOutp_outp_same ..)

theorem sclkPut_disables {i : Nat} {n : SclkCfg} {s : State} (hn : bit n.flags 0 = false) (ho : bit (sclkRec s i).flags 0 = true) :
    (rewriteWord 6 (12 + i) (sclkPut i n s)).outp (8 + i) = { s.outp (8 + i) with
      stopAt := if outDrives s (8 + i) = true then frameEnd s (8 + i) else (s.outp (8 + i)).stopAt } := by
  rw [State.outp, rewriteWord_syn]
  unfold sclkPut
  dsimp only
  rw [if_neg (by rw [hn, ho]; decide), if_neg (by rw [hn]; decide)]
  exact setOutp_outp_same ..

/-- A write within its ranges that neither changes a running clock nor comes too late. -/
theorem bodyOutSampleClock_written {c : Cmd} {s : State} {p : List Byte} {i : Nat} (hc : c.req.payload = p) (hl : p.length = 48)
    (hi : i = rd p 0 1) (h8 : i < 8) (hf : rd p 1 1 < 4) (hsrc : rd p 2 1 < 4)
    (hm : rd p 3 1 = 255 ∨ (rd p 3 1 < 4 ∧ outMarker s (rd p 3 1) = true ∧ (ppsRec s (rd p 3 1)).src = rd p 2 1))
    (hdiv : sclkOk (s.apll (rd p 2 1)).cfg.fvco (sclkParse p) = true) (ha : 1 ≤ rd p 8 4) (hab : 2 * rd p 8 4 ≤ rd p 12 4)
    (hz16 : rd p 16 4 = 0) (hus : rd p 20 4 % 1000 = 0) (hns : rd p 20 4 < 1000000000) (hlead : 1024 ≤ rd p 32 4)
    (hlead' : rd p 32 4 ≤ 16777216) (hz36 : rd p 36 12 = 0)
    (hrun : ¬(bit (sclkRec s i).flags 0 && (s.outp (8 + i)).started && decide (sclkParse p ≠ sclkRec s i) &&
      decide (sclkParse p ≠ { sclkRec s i with flags := clrBit (sclkRec s i).flags 0 })) = true)
    (hlate : bit (rd p 1 1) 0 = true → (((replicaTime s 0 + 2 * ms1) * (s.apll (rd p 2 1)).cfg.fvco : Nat) : Int) ≤
      (startInstant (s.apll (rd p 2 1)).cfg.fvco (sclkParse p)).1) :
    bodyOutSampleClock c s = ok (rewriteWord 6 (12 + i) (sclkPut i (sclkParse p) s))
      (sclkBytes (rewriteWord 6 (12 + i) (sclkPut i (sclkParse p) s)) i) := by
  have hbytes (u : State) : sclkBytes (rewriteWord 6 (12 + i) u) i = sclkBytes u i := by
    rw [sclkBytes, sclkRec, rewriteWord_syn]
    rfl
  rw [hbytes]
  simp only [bodyOutSampleClock, hc, ← hi]
  rw [if_neg (by omega), if_neg (not_not.mpr hl)]
  refine (checked_of_all ?_ _ _).trans ((if_neg hrun).trans ((if_neg ?_).trans rfl))
  · have hdiv : sclkOk (s.apll (rd p 2 1)).cfg.fvco ⟨rd p 1 1, rd p 2 1, rd p 3 1, rd p 4 4, rd p 8 4, rd p 12 4,
        rdTime p 16, rd p 32 4⟩ = true := hdiv
    have hm : (rd p 3 1 == 255 || (decide (rd p 3 1 < 4) && outMarker s (rd p 3 1) &&
        (ppsRec s (rd p 3 1)).src == rd p 2 1)) = true := by
      rcases hm with h | ⟨h1, h2, h3⟩
      · simp [h]
      · simp [h1, h2, h3]
    simp only [hm, hdiv, zeroAt, hz36, hz16, hus, hns]
    simp [h8, hf, hsrc, ha, hab, hlead, hlead']
  · intro hbad
    simp only [Bool.and_eq_true, decide_eq_true_eq] at hbad
    obtain ⟨⟨⟨hon, -⟩, -⟩, hlt⟩ := hbad
    have h := hlate hon
    rw [Nat.cast_mul] at h
    exact absurd hlt (not_lt.mpr h)

/-! PPS_EDGE, LOOP_CHECK, EPOCH_START_MARKER, SYNC_IN_EDGE (R451 to R459). -/

theorem outDrives_congr {s t : State} {o : Nat} (h : sansOuts t = sansOuts s) (ho : t.outp o = s.outp o) :
    outDrives t o = outDrives s o := by
  have hsans (u : State) (x : OutSt) (hx : u.outp o = x) :
      outDrives u o = outDrives ((sansOuts u).setOutp o x) o := by
    subst hx
    simp only [outDrives, outOn, setOutp_outp_same]
    rfl
  rw [hsans t _ ho, hsans s _ rfl, h]

/-- One output restarted by SYNC_IN (R459). -/
def syncOut (t : State) (o : Nat) : State :=
  if 4 ≤ o ∧ outSyncEn t o ∧ outDrives t o then t.setOutp o { t.outp o with
    synced := true, lengthen := 0, lengthenB := 0, syncEdge := divUp (replicaTime t 0 * outFvco t o) us1 + 256 } else t

theorem syncOut_other (t : State) (a b : Nat) (h : b ≠ a) :
    ((syncOut t a).outp b, sansOuts (syncOut t a)) = (t.outp b, sansOuts t) := by
  unfold syncOut
  split
  · rw [setOutp_outp_other _ _ _ _ h]
    rfl
  · rfl

theorem syncInEdge_restarts {s : State} (ha : s.syn.syncArmed = true) :
    (syncInEdge true s).syn.syncArmed = false ∧ ∀ o ∈ List.range 16, 4 ≤ o → outSyncEn s o = true → outDrives s o = true →
      (syncInEdge true s).outp o = { s.outp o with
        synced := true, lengthen := 0, lengthenB := 0, syncEdge := divUp (replicaTime s 0 * outFvco s o) us1 + 256 } := by
  have hsync : syncInEdge true s = (List.range 16).foldl syncOut { s with syn := { s.syn with syncArmed := false } } :=
    if_neg (by simp [ha])
  rw [hsync]
  refine ⟨?_, fun o ho h4 hen hdr => ?_⟩
  · refine (foldl_keeps (fun t => t.syn.syncArmed) (fun t o => ?_) _ _)
    unfold syncOut
    split <;> rfl
  · obtain ⟨u, hu, h⟩ := foldl_local (f := syncOut) (g := fun o t => (t.outp o, sansOuts t)) (fun t a b hb => syncOut_other t a b hb)
      List.nodup_range { s with syn := { s.syn with syncArmed := false } } o ho
    obtain ⟨hout, hsans⟩ := Prod.mk.inj hu
    obtain ⟨h, -⟩ := Prod.mk.inj h
    have hdr' : outDrives u o = true := (outDrives_congr hsans hout).trans hdr
    have hen' : outSyncEn u o = true := (congrArg (fun t => outSyncEn t o) hsans :).trans hen
    have htime : replicaTime u 0 = replicaTime s 0 := (congrArg (fun t => replicaTime t 0) hsans :)
    have hvco : outFvco u o = outFvco s o := (congrArg (fun t => outFvco t o) hsans :)
    rw [h, syncOut, if_pos ⟨h4, hen', hdr'⟩, setOutp_outp_same, hout, htime, hvco]
    rfl

theorem epochStartMarker_pulses {i : Nat} {s : State} (hen : outEnabled s (8 + i) = true) (hm : (sclkRec s i).markerOut < 4)
    (hdue : (sclkRec s i).epochStart ≤ replicaTime s 0) (hnew : (s.outp (8 + i)).pulseAt < (sclkRec s i).epochStart)
    (hsync : (s.outp (8 + i)).synced = false) (hdr : outDrives s (8 + i) = true)
    (hdm : outDrives s (sclkRec s i).markerOut = true) (hmark : outMarker s (sclkRec s i).markerOut = true) :
    ((epochStartMarker i s).outp (8 + i)).pulseAt = (sclkRec s i).epochStart ∧
      (epochStartMarker i s).outp (sclkRec s i).markerOut = { s.outp (sclkRec s i).markerOut with
        pulseAt := (sclkRec s i).epochStart, pulseEnd := (sclkRec s i).epochStart + frameWidth s (8 + i), drove := true } := by
  have hne : 8 + i ≠ (sclkRec s i).markerOut := by omega
  unfold epochStartMarker
  dsimp only
  rw [if_neg (by simpa [hen, hsync] using ⟨⟨Nat.le_of_lt_succ hm, hdue⟩, hnew⟩), if_pos hdr, if_pos (by simp [hdm, hmark])]
  rw [setOutp_outp_other _ _ _ _ hne, setOutp_outp_same, setOutp_outp_same, setOutp_outp_other _ _ _ _ hne.symm]
  exact ⟨rfl, rfl⟩

theorem epochStartMarker_missed {i : Nat} {s : State} (hen : outEnabled s (8 + i) = true) (hm : (sclkRec s i).markerOut < 4)
    (hdue : (sclkRec s i).epochStart ≤ replicaTime s 0) (hnew : (s.outp (8 + i)).pulseAt < (sclkRec s i).epochStart)
    (hsync : (s.outp (8 + i)).synced = false) (hdr : outDrives s (8 + i) = false) :
    ((epochStartMarker i s).outp (8 + i)).pulseAt = (sclkRec s i).epochStart ∧
      ((epochStartMarker i s).outp (sclkRec s i).markerOut).markerMissed = true := by
  have hne : 8 + i ≠ (sclkRec s i).markerOut := by omega
  unfold epochStartMarker
  dsimp only
  rw [if_neg (by simpa [hen, hsync] using ⟨⟨Nat.le_of_lt_succ hm, hdue⟩, hnew⟩), if_neg (by simp [hdr])]
  rw [setOutp_outp_other _ _ _ _ hne, setOutp_outp_same, setOutp_outp_same]
  exact ⟨rfl, rfl⟩

/-- What a second of a looped output leaves where it is compared (R454). -/
theorem loopSecond_compared {i : Nat} {x : FieldTime} {s : State} (hd : (s.outp i).drove = true) (hm : outMarker s i = false) :
    tget none (loopSecond i (some x) s).syn.loopErr i = some (loopErrOf s i x) ∧
      (s.syn.checkLimit * 65536 < (loopErrOf s i x).natAbs * 1000 →
        tget 0 (loopSecond i (some x) s).syn.loopBad i = min 3 (tget 0 s.syn.loopBad i + 1)) ∧
      ((loopErrOf s i x).natAbs * 1000 ≤ s.syn.checkLimit * 65536 →
        tget 0 (loopSecond i (some x) s).syn.loopBad i =
          if tget 0 s.syn.loopBad i = 3 ∧ tget 0 s.syn.loopGood i < 2 then 3 else 0) := by
  have hgood : (min 3 (tget 0 s.syn.loopGood i + 1) < 3) ↔ tget 0 s.syn.loopGood i < 2 := by omega
  have hcmp : (if (s.outp i).drove && !outMarker s i then (some x).map (loopErrOf s i) else none) = some (loopErrOf s i x) := by
    rw [hd, hm]
    rfl
  unfold loopSecond
  dsimp only
  rw [hcmp]
  dsimp only
  rw [tget_tset_same, tget_tset_same]
  refine ⟨rfl, fun h => ?_, fun h => ?_⟩
  · rw [decide_eq_true h, if_pos rfl]
  · simp only [decide_eq_false (Nat.not_lt.mpr h), Bool.false_eq_true, if_false, hgood]

/-- A second that is not compared leaves the judgement of the output. -/
theorem loopSecond_none (i : Nat) (s : State) :
    loopSecond i none s = { s with syn := { s.syn with loopErr := tset none s.syn.loopErr i none } } := by
  unfold loopSecond
  dsimp only
  split
  · rfl
  next h => split at h <;> simp at h

theorem loopCheck_first {x : FieldTime} {s : State} (hd : (s.outp 0).drove = true) (hm : outMarker s 0 = false) :
    tget none (loopCheck (some x) none s).syn.loopErr 0 = some (loopErrOf s 0 x) ∧
      (s.syn.checkLimit * 65536 < (loopErrOf s 0 x).natAbs * 1000 →
        tget 0 (loopCheck (some x) none s).syn.loopBad 0 = min 3 (tget 0 s.syn.loopBad 0 + 1)) ∧
      ((loopErrOf s 0 x).natAbs * 1000 ≤ s.syn.checkLimit * 65536 →
        tget 0 (loopCheck (some x) none s).syn.loopBad 0 =
          if tget 0 s.syn.loopBad 0 = 3 ∧ tget 0 s.syn.loopGood 0 < 2 then 3 else 0) ∧
      (outPath s = false → outPath (loopCheck (some x) none s) = true → bit ((loopCheck (some x) none s).flt 0).status 8 = true) := by
  obtain ⟨herr, hbad, hgood⟩ := loopSecond_compared (x := x) hd hm
  have hsyn : (loopCheck (some x) none s).syn = (loopSecond 1 none (loopSecond 0 (some x) s)).syn := by
    unfold loopCheck
    dsimp only
    split
    · rfl
    · exact setCond_syn ..
  have hpath : outPath (loopCheck (some x) none s) = outPath (loopSecond 1 none (loopSecond 0 (some x) s)) := by
    rw [outPath, hsyn, outPath]
  rw [hsyn, hpath, loopSecond_none]
  refine ⟨?_, hbad, hgood, fun h0 h1 => ?_⟩
  · dsimp only
    rw [tget_tset_other _ _ _ _ _ (by decide : 0 ≠ 1), herr]
  rw [← loopSecond_none] at h1
  unfold loopCheck
  dsimp only
  rw [if_neg (by rw [h0, h1]; decide), h1]
  exact (setCond_true_flt _ _ _).1

theorem loopCheck_none (s : State) :
    tget none (loopCheck none none s).syn.loopErr 0 = none ∧ tget none (loopCheck none none s).syn.loopErr 1 = none ∧
      (loopCheck none none s).syn.loopBad = s.syn.loopBad ∧ (loopCheck none none s).regs = s.regs := by
  have hcheck : loopCheck none none s = loopSecond 1 none (loopSecond 0 none s) := by
    rw [loopSecond_none, loopSecond_none]
    unfold loopCheck
    dsimp only
    rw [loopSecond_none, loopSecond_none, if_pos]
    rfl
  rw [hcheck, loopSecond_none, loopSecond_none]
  refine ⟨?_, ?_, rfl, rfl⟩
  · dsimp only
    rw [tget_tset_other _ _ _ _ _ (by decide : 0 ≠ 1), tget_tset_same]
  · dsimp only
    exact tget_tset_same ..

theorem ppsEdge_due {i k : Nat} {e : Int} {s : State} (h : pulseDue s i = some (k, e)) (hn : (s.outp i).pulseAt < e)
    (hm : outMarker s i = false) (hd : outDrives s i = true) :
    ppsEdge i s = s.setOutp i (if labelEmitted (s.outp i).labels k then
        { s.outp i with pulseAt := e.toNat, pulseEnd := e.toNat + pulseWidth s i, drove := false,
                        suppressed := satInc sat32 (s.outp i).suppressed }
      else { s.outp i with pulseAt := e.toNat, pulseEnd := e.toNat + pulseWidth s i, drove := true,
                           labels := addLabel (s.outp i).labels k }) := by
  unfold ppsEdge
  dsimp only
  rw [h]
  dsimp only
  rw [if_neg (by simp [hm]; omega), if_neg (by simp [hd])]
  split <;> rfl

end Sys2Proof.Machine
end

section
/-! SUPPORT. Outputs, power and temperature: the voltage loop below its target, the rows (R445 to R468, R532 to R558). -/

namespace Sys2Proof.Machine
open Sys2Proof

/-! The voltage loop (R533). -/

/-- What the loop takes note of at a window whose latency lies below 0.7 of the target. -/
theorem window_low {p99 : Nat} {s : State} (ms : List Nat) (hp : p99 ≤ 65535) (hl : p99 < 7 * s.pwr.target) :
    let x := (windowSeen p99 (noteMargins ms (rollHandled s))).pwr
    (x.p99 = p99 ∧ x.unmet = false ∧ x.belowRun = s.pwr.belowRun + 1) ∧
      (x.avsFault = s.pwr.avsFault ∧ x.held = s.pwr.held) ∧
      x.target = s.pwr.target ∧ x.floor = s.pwr.floor ∧ x.ceiling = s.pwr.ceiling ∧ x.vset = s.pwr.vset := by
  have hl' : ¬10 * s.pwr.target < p99 := by omega
  unfold rollHandled
  split <;> simp [windowSeen, noteMargins, Nat.min_eq_right hp, hl, hl']

theorem wantedV_lower {s : State} (hl : s.pwr.p99 ≤ 10 * s.pwr.target) (hr : 10 ≤ s.pwr.belowRun)
    (hf : s.pwr.floor + 5 ≤ s.pwr.vset) (hc : s.pwr.vset ≤ s.pwr.ceiling) : wantedV s = s.pwr.vset - 5 := by
  rw [wantedV, if_neg (by omega), if_pos hr, clampV]
  omega

theorem windowWrite_lower {s : State} (ha : s.pwr.avsFault = false) (hl : s.pwr.p99 ≤ 10 * s.pwr.target)
    (hr : 10 ≤ s.pwr.belowRun) (hf : s.pwr.floor + 5 ≤ s.pwr.vset) (hc : s.pwr.vset ≤ s.pwr.ceiling) :
    windowWrite true s = writeV (s.pwr.vset - 5) s := by
  rw [windowWrite, if_neg (by simp [ha]), wantedV_lower hl hr hf hc, if_neg (by omega), tryWrite, if_pos rfl]

/-- What the loop leaves where the latency has let the voltage go down (R533). -/
theorem loop_lowers {s : State} (ha : s.pwr.avsFault = false) (hh : s.pwr.held = []) (hl : s.pwr.p99 ≤ 10 * s.pwr.target)
    (hr : 10 ≤ s.pwr.belowRun) (hf : s.pwr.floor + 5 ≤ s.pwr.vset) (hc : s.pwr.vset ≤ s.pwr.ceiling) :
    let x := (answerPolicies (windowWrite true (avsCount true s))).pwr
    x.vset = s.pwr.vset - 5 ∧ x.unmet = s.pwr.unmet ∧ x.p99 = s.pwr.p99 := by
  have hw : windowWrite true (avsCount true s) = writeV (s.pwr.vset - 5) (avsCount true s) := by
    rw [avsCount_good ha]
    exact windowWrite_lower ha hl hr hf hc
  have hh' : (writeV (s.pwr.vset - 5) (avsCount true s)).pwr.held = [] := by rw [avsCount_good ha]; exact hh
  simp only [hw, answerPolicies_none hh']
  simp only [writeV, avsCount_good ha, and_self]

theorem voltageWindow_lower {p99 : Nat} {ms : List Nat} {s : State} (hs : s.pwr.sState ≠ 0)
    (hw : s.pwr.lastWindow + 100000 ≤ s.now) (ha : s.pwr.avsFault = false) (hh : s.pwr.held = []) (hp : p99 ≤ 65535)
    (hl : p99 < 7 * s.pwr.target) (hr : 9 ≤ s.pwr.belowRun) (hf : s.pwr.floor + 5 ≤ s.pwr.vset)
    (hc : s.pwr.vset ≤ s.pwr.ceiling) :
    let x := (voltageWindow ⟨p99, ms⟩ true s).pwr
    x.vset = s.pwr.vset - 5 ∧ x.unmet = false ∧ x.p99 = p99 := by
  have hrun : ¬(s.pwr.sState = 0 ∨ s.now < s.pwr.lastWindow + 100000) := by omega
  obtain ⟨⟨hp99, hun, hbelow⟩, ⟨hfault, hheld⟩, htgt, hfl, hce, hv⟩ := window_low ms hp hl
  rw [voltageWindow, if_neg hrun]
  generalize windowSeen p99 (noteMargins ms (rollHandled s)) = x at *
  obtain ⟨h1, h2, h3⟩ := loop_lowers (hfault.trans ha) (hheld.trans hh) (by omega) (by omega) (by omega) (by omega)
  exact ⟨by rw [h1, hv], h2.trans hun, h3.trans hp99⟩

/-- A fault event that changes nothing: the S tile is off, nothing is amiss, or AVS_FAULT holds already (R534). -/
theorem avsFaultEvent_idle {alert : Bool} {s : State}
    (h : s.pwr.sState = 0 ∨ (alert = false ∧ s.pwr.avsFail < 3) ∨ s.pwr.avsFault = true) : avsFaultEvent alert s = s := by
  by_cases hc : s.pwr.sState ≠ 0 ∧ (alert || decide (3 ≤ s.pwr.avsFail))
  · have hf : s.pwr.avsFault = true := by
      rcases h with h | ⟨h, hl⟩ | h
      · exact absurd h hc.1
      · simp [h] at hc
        omega
      · exact h
    rw [avsFaultEvent, if_pos hc, avsFail, if_pos hf]
  · exact if_neg hc

/-! PWR_POLICY and PWR_STATUS (R557, R558). -/

/-- A voltage policy that VDD_S does not meet is held (R27). -/
theorem bodyPwrPolicy_unmet {c : Cmd} {s u : State} {p : List Byte} (hc : c.req.payload = p) (hl : p.length = 16)
    (hu : u = { s with pwr := { s.pwr with floor := rd p 4 2, ceiling := rd p 6 2, target := rd p 8 2 } })
    (h1 : rd p 0 1 = 1) (hz1 : rd p 1 3 = 0) (hz2 : rd p 10 6 = 0) (hvf : voltageOk (rd p 4 2) = true)
    (hvc : voltageOk (rd p 6 2) = true) (hle : rd p 4 2 ≤ rd p 6 2) (h10 : 10 ≤ rd p 8 2) (h200 : rd p 8 2 ≤ 200)
    (hout : s.pwr.vset < rd p 4 2 ∨ rd p 6 2 < s.pwr.vset) :
    bodyPwrPolicy c s = held { u with pwr := { u.pwr with held := u.pwr.held ++ [c.id] } } := by
  subst hc
  have hv : voltageIn u = false := by
    simp only [voltageIn, hu, Bool.and_eq_false_iff, decide_eq_false_iff_not]
    omega
  have hne1 : c.req.payload.length ≠ 1 := by omega
  refine (if_neg (List.ne_nil_of_length_eq_add_one hl)).trans ((if_pos h1).trans ?_)
  rw [bodyVoltagePolicy]
  dsimp only
  rw [if_neg hne1, if_neg (not_not.mpr hl), checked_of_all (by simp [zeroAt, *]), ← hu, if_neg (by simp [hv]), hu]

/-- PWR_STATUS outside AVS_FAULT: a measured VDD_S stands in bytes 4 and 5 (R558). -/
theorem bodyPwrStatus_reads {c : Cmd} {s : State} (hp : c.req.payload = []) (ha : s.pwr.avsFault = false) :
    ∃ p, bodyPwrStatus c s = ok { s with free := s.free + 1 } p ∧
      p.take 4 = le 1 (pwrFlags s) ++ le 1 s.pwr.sState ++ le 2 s.pwr.vset ∧
      (p.drop 6).take 34 = le 2 s.pwr.p99 ++ le 4 s.pwr.unmetMs ++ le 4 s.pwr.avsWrites ++
        (List.range 6).flatMap (fun d => leI 2 (dieTemp s d)) ++ (List.range 6).flatMap (fun d => le 2 (tileMargin s d)) := by
  refine ⟨_, if_neg (not_not.mpr hp), ?_, ?_⟩
  · rw [ha, if_neg (by decide)]
    refine (take_drop_of_prefix (n := 2) (b := le 2 (pwrMeasured s).1.1) ?_ (by simp) (by simp)).1
    iterate 7 refine List.IsPrefix.trans ?_ (List.prefix_append _ _)
    exact List.prefix_rfl
  · refine (take_drop_of_prefix (a := le 1 (pwrFlags s) ++ le 1 s.pwr.sState ++ le 2 s.pwr.vset ++ le 2 (pwrMeasured s).1.1)
      ⟨le 4 (pwrMeasured s).1.2 ++ le 4 (energyPj (pwrMeasured s).1.2 s.pwr.handled), ?_⟩ (by simp) (by simp)).2
    rw [ha, if_neg (by decide)]
    simp only [List.append_assoc]

/-! The dies' temperatures (R535). -/

theorem setDieTemp_tempCrit (die : Nat) (temp : Int) (s : State) :
    (setDieTemp die temp s).pwr.tempCrit = s.pwr.tempCrit := by
  unfold setDieTemp
  split
  · rfl
  · split <;> rfl

/-- A reading of 110 degrees or less is only noted. -/
theorem tempCrit_warm {temp : Int} (die : Nat) (s : State) (h : temp ≤ 110 * 128) :
    (tempCrit die temp s).pwr.tempCrit = s.pwr.tempCrit ∧ dieTemp (tempCrit die temp s) die = temp ∧
      (tempCrit die temp s).regs.flt = s.regs.flt := by
  rw [tempCrit, if_neg (by omega), setDieTemp_tempCrit, dieTemp_setDieTemp_same, setDieTemp_regs]
  exact ⟨rfl, rfl, rfl⟩

/-- One sensor that reads nothing, or 100 degrees and more, holds TEMP_CRIT (R535). -/
theorem tempCritClear_warm {temps : List Int} (s : State) (hn : temps.length = 6)
    (h : ∃ x ∈ temps, x = -32768 ∨ 100 * 128 ≤ x) :
    (tempCritClear temps s).pwr.tempCrit = s.pwr.tempCrit ∧ (tempCritClear temps s).regs.flt = s.regs.flt := by
  obtain ⟨x, hmem, hx⟩ := h
  obtain ⟨d, hd, rfl⟩ := List.getElem_of_mem hmem
  have hd6 : d ∈ List.range 6 := List.mem_range.mpr (hn ▸ hd)
  have hall : ¬(List.range 6).all (fun d =>
      decide (dieTemp ((List.range 6).foldl (fun u e => setDieTemp e (temps.getD e (-32768)) u) s) d ≠ -32768) &&
      decide (dieTemp ((List.range 6).foldl (fun u e => setDieTemp e (temps.getD e (-32768)) u) s) d < 100 * 128)) = true := by
    intro hall
    have hok := List.all_eq_true.mp hall d hd6
    rw [dieTemp_foldl_setDieTemp, if_pos hd6, List.getD_eq_getElem _ _ hd, Bool.and_eq_true, decide_eq_true_eq,
      decide_eq_true_eq] at hok
    omega
  rw [tempCritClear, if_neg hall, foldl_setDieTemp_regs]
  exact ⟨foldl_keeps (f := fun u e => setDieTemp e (temps.getD e (-32768)) u) (fun u => u.pwr.tempCrit)
    (fun u e => setDieTemp_tempCrit e _ u) _ _, rfl⟩

end Sys2Proof.Machine
end

section
/-! SUPPORT. The rows of the outputs, of power and of temperature (R445 to R468, R532 to R558). -/

namespace Sys2Proof.Machine
open Sys2Proof

/-- A written record like the one in force that arms SYNC_IN (R459, R464). -/
theorem goes_of_syncArmed {q : Request} {s : State} {a limit : Nat} {n : SynCfg} {arm : Bool} (h : runs 0x0E01 q s = true)
    (hn : n = (s.apll a).cfg) (harm : arm = true) (hbody : bodySynConfig (rowCmd 0x0E01 q s) (takeId s) =
      ok (putSyn a n limit arm (takeId s)) (synRecord (putSyn a n limit arm (takeId s)) a)) :
    Goes (kcpRow 0x0E01 (leastPriv s 0x0E01 q.payload) bodySynConfig q s)
      (fun t => t.syn.syncArmed = true ∧ t.apll a = s.apll a ∧ Answered 0x0E01 q (synRecord t a) s t) := by
  subst hn harm
  refine goes_of_ok_body bodySynConfig_within (by decide) h hbody fun k hans => ⟨?_, ?_, hans⟩
  · exact (putSyn_leaves a _ limit true (takeId s)).2.2.1.trans (Bool.or_true _)
  · exact (putSyn_apll a _ limit true (takeId s)).trans (synWritten_same _)

theorem bodyPwrPolicy_voltage {c : Cmd} (s : State) (hp : c.req.payload = [1]) : bodyPwrPolicy c s = ok s (pwrBytes s) := by
  simp [bodyPwrPolicy, hp, rd, leVal, bodyVoltagePolicy]

theorem bodyPwrPolicy_arbitration {c : Cmd} (s : State) (hp : c.req.payload = [2]) : bodyPwrPolicy c s = ok s (arbBytes s) := by
  simp [bodyPwrPolicy, hp, rd, leVal, bodyArbPolicy]

/-- Settles O33: a written record stands where its body puts it; a restart and an enabled clock leave what they reset. -/
theorem outputCommandsComplete : Obligations.OutputCommandsComplete := by
  unfold Obligations.OutputCommandsComplete
  refine ⟨?_, ?_, ?_, ?_, ?_, ?_⟩
  · rintro rq s a n h hl rfl h4 hf hact hz rfl hv hv' hb hb' hb'' hw hw' hlim hlim' hk hk' hen
    refine goes_of_ok_body bodySynConfig_within (by decide) h (bodySynConfig_written rfl hl h4 hf
      (Nat.lt_of_le_of_lt (Nat.le_of_eq hact) (by decide)) hz hv hv' hb hb' hb'' hw hw' hlim hlim' hk hk' hen) fun k hans => ?_
    obtain ⟨hcfg, hlimit, harm, hrestart⟩ := putSyn_leaves (rd rq.payload 0 1) (synParse rq.payload) (rd rq.payload 18 2)
      (rd rq.payload 2 1 == 1) (takeId s)
    exact ⟨hcfg, hlimit, harm.trans (by rw [hact]; exact Bool.or_false _), hrestart, hans⟩
  · rintro rq q s a n rfl h hl rfl h4 hf hz rfl hn hv hv' hb hb' hb'' hw hw' hlim hlim' hk hk' hen
    have hact : rd (withByte 2 1 rq).payload 2 1 = 1 :=
      rd_withByte_same (by rw [← withByte_length 2 1, hl]; decide) (by decide)
    have hbody := bodySynConfig_written (c := rowCmd 0x0E01 (withByte 2 1 rq) s) (s := takeId s) rfl hl h4 hf
      (Nat.lt_of_le_of_lt (Nat.le_of_eq hact) (by decide)) hz hv hv' hb hb' hb'' hw hw' hlim hlim' hk hk' (.inl hen)
    exact goes_of_syncArmed h hn (decide_eq_true hact) hbody
  · intro rq s h hp
    exact kcpRow_draws h (bodySynStatus_reads hp)
  · rintro rq s i n h hl hi h4 rfl hf hf1 hsrc hz hoff hw hw' hdiv hold
    refine goes_of_ok_body bodyOutPpsConfig_within (by decide) h (bodyOutPpsConfig_written rfl hl hi (by omega) hf (fun _ => hf1)
      (fun h => absurd h4 (Nat.not_lt.mpr h)) hsrc hz ((if_pos h4).mpr hoff) ((if_pos h4).mpr ⟨hw, hw'⟩) ((if_pos h4).mpr hdiv))
      fun k hans => ⟨putPps_rec rfl, fun ho => ?_, hans⟩
    exact putPps_offset (s := takeId s) h4 hold ho
  · rintro rq s i n h hl hi h8 rfl hf hsrc hm hdiv ha hab hz16 hus hns hlead hlead' hz36 hold hlate
    have hm' := hm
    refine goes_of_ok_body bodyOutSampleClock_within (by decide) h
      (bodyOutSampleClock_written rfl hl hi h8 hf hsrc hm hdiv ha hab hz16 hus hns hlead hlead' hz36
        (by rw [show bit (sclkRec (takeId s) i).flags 0 = false from hold, Bool.false_and, Bool.false_and, Bool.false_and]; decide) fun _ => hlate) fun k hans => ?_
    refine ⟨sclkPut_rec i (sclkParse rq.payload) (takeId s), fun hon => ?_, hans⟩
    exact sclkPut_enables (s := takeId s) hon hold
  · intro rq s h hl h50 h25 hf hz hlo hhi hstore
    have hbody : bodyRefclkSpread (rowCmd 0x0E05 rq s) (takeId s) =
        let t := { takeId s with syn := { s.syn with
          nvmeDown := rd rq.payload 0 1, auxCentre := rd rq.payload 1 1, auxEnable := bit (rd rq.payload 2 1) 0, auxFreq := rd rq.payload 4 4 } }
        ok t (spreadBytes t) := by
      refine (if_neg (List.ne_nil_of_length_eq_add_one hl)).trans ((if_neg (not_not.mpr hl)).trans
        ((checked_of_all ?_ _ _).trans (if_neg ?_)))
      · simp [rowCmd, zeroAt, hz, h50, h25, hf, hlo, hhi]
      · rintro ⟨h1, h2⟩
        rcases hstore with h | h
        · exact h1 h
        · exact absurd h (Nat.not_lt.mpr h2)
    exact goes_of_ok_body bodyRefclkSpread_within (by decide) h hbody fun k hans => ⟨rfl, hans⟩

/-- Settles O34: each event's next state under its conditions, output by output. -/
theorem outputEventsComplete : Obligations.OutputEventsComplete := by
  unfold Obligations.OutputEventsComplete
  refine ⟨?_, ?_, ?_, ?_, ?_, ?_, ?_, ?_⟩
  · rintro w a s rfl h4 hen hlock hr
    exact goes_unit (decide_eq_true h4) fun _ => apllLock_locks hen hlock hr
  · intro a l s h4 hen hlock hl
    exact goes_unit (decide_eq_true h4) fun _ => apllUnlock_gates hen hlock hl
  · intro a s r h4 hr hle hlock
    exact goes_unit (decide_eq_true h4) fun _ => outputResume_resumes hr hle hlock
  · intro i s k e h4 hp hn hm hd hl
    refine goes_unit (decide_eq_true h4) fun k => ?_
    rw [ppsEdge_due hp hn hm hd, if_neg (by simp [hl])]
    exact setOutp_outp_same ..
  · intro x s hd hm
    exact goes_done fun _ => loopCheck_first hd hm
  · intro i s h8 hen hst hdue
    refine goes_unit (decide_eq_true h8) fun k => ?_
    have h : sampleClockStart i s = s.setOutp (8 + i) { s.outp (8 + i) with started := true } :=
      if_pos (by simp only [hen, hst, Bool.not_false, Bool.and_true, Bool.true_and]; exact decide_eq_true hdue)
    rw [h]
    exact setOutp_outp_same ..
  · intro i s h8 hen hm hdue hnew hsync hdr hdm hmark
    exact goes_unit (decide_eq_true h8) fun _ => epochStartMarker_pulses hen hm hdue hnew hsync hdr hdm hmark
  · intro s ha
    exact goes_done fun _ => syncInEdge_restarts ha

/-- Settles O55: the reads and the writes that are held or change nothing; the loop lowers the voltage; a warm die holds. -/
theorem outputAndPowerForms : Obligations.OutputAndPowerForms := by
  unfold Obligations.OutputAndPowerForms
  refine ⟨?_, ?_, ?_, ?_, ?_, ?_, ?_, ?_, ?_, ?_, ?_, ?_, ?_, ?_, ?_, ?_, ?_, ?_, ?_⟩
  · intro rq s h hl h4
    refine kcpRow_reads 0x0E01 bodySynConfig rq s _ h ?_
    exact (if_pos hl).trans (checked_of_all (by simp [rowCmd, h4]) _ _)
  · intro rq s h hl h8
    refine kcpRow_reads 0x0E03 bodyOutPpsConfig rq s _ h ?_
    exact (if_pos hl).trans (checked_of_all (by simp [rowCmd, h8]) _ _)
  · rintro rq s i n h hl hi h4 h8 rfl hf hsrc hz hoff hoff' hw hdiv
    have hlow : ¬i < 4 := Nat.not_lt.mpr h4
    have hflags : bit (rd rq.payload 1 1) 2 = false := Nat.testBit_lt_two_pow hf
    refine goes_of_ok_body bodyOutPpsConfig_within (by decide) h (bodyOutPpsConfig_written rfl hl hi h8
      (Nat.lt_trans hf (by decide)) (fun h => absurd h hlow) (fun _ => hflags) hsrc hz ((if_neg hlow).mpr ⟨hoff, hoff'⟩)
      ((if_neg hlow).mpr hw) ((if_neg hlow).mpr hdiv)) fun k hans => ⟨putPps_rec rfl, fun hset => ?_, hans⟩
    exact putPps_unset (s := takeId s) h4 hset.1 hset.2
  · intro rq s h hl h8
    refine kcpRow_reads 0x0E04 bodyOutSampleClock rq s _ h ?_
    exact (if_pos hl).trans (checked_of_all (by simp [rowCmd, h8]) _ _)
  · rintro rq s i n h hl hi h8 rfl hn hf hsrc hm hdiv ha hab hz16 hus hns hlead hlead' hz36 hold
    have hoff : bit (sclkParse rq.payload).flags 0 = false :=
      (congrArg (fun c : SclkCfg => bit c.flags 0) hn).trans (bit_clrBit _ _)
    refine goes_of_ok_body bodyOutSampleClock_within (by decide) h
      (bodyOutSampleClock_written rfl hl hi h8 hf hsrc hm hdiv ha hab hz16 hus hns hlead hlead' hz36 ?_
        fun hon => absurd (hon.symm.trans hoff) (by decide)) fun k hans => ?_
    · rw [Bool.and_eq_true, decide_eq_true_eq]
      exact fun hne => hne.2 hn
    · exact ⟨sclkPut_rec i (sclkParse rq.payload) (takeId s), sclkPut_disables (s := takeId s) hoff hold, hans⟩
  · intro rq s h hp
    exact kcpRow_reads 0x0E05 bodyRefclkSpread rq s _ h (if_pos hp)
  · intro i s k e h4 hp hn hm hd hl
    refine goes_unit (decide_eq_true h4) fun k => ?_
    rw [ppsEdge_due hp hn hm hd, if_pos hl, satInc_sat32]
    exact setOutp_outp_same ..
  · intro s _
    exact goes_done fun _ => loopCheck_none s
  · intro i s h8 hen hm hdue hnew hsync hdr
    exact goes_unit (decide_eq_true h8) fun _ => epochStartMarker_missed hen hm hdue hnew hsync hdr
  · intro s ha
    exact congrArg (done s) (if_pos (by simp [ha]))
  · intro rq s h hp
    exact kcpRow_reads 0x0F01 bodyPwrPolicy rq s _ h (bodyPwrPolicy_voltage _ hp)
  · intro rq s h hp
    exact kcpRow_reads 0x0F01 bodyPwrPolicy rq s _ h (bodyPwrPolicy_arbitration _ hp)
  · rintro rq s fl ce h hl h1 hz1 hz2 rfl rfl hvf hvc hle h10 h200 hout
    obtain ⟨t, ht, hu, hsl, hrep⟩ := kcpRow_held 0x0F01 bodyPwrPolicy rq s _ h (bodyPwrPolicy_unmet (c := rowCmd 0x0F01 rq s)
      (s := takeId s) rfl hl rfl h1 hz1 hz2 hvf hvc hle h10 h200 hout) rfl rfl
    exact ⟨t, ht, (congrArg State.pwr hu :), hrep, hsl⟩
  · intro rq s h hp ha
    obtain ⟨p, hb, h4, h34⟩ := bodyPwrStatus_reads (c := rowCmd 0x0F02 rq s) (s := takeId s) hp ha
    refine goes_of_ok h hb (fun t ht _ hr => ⟨(congrArg State.free ht :), (congrArg State.pwr ht :), ?_, fun r hmem => ?_⟩)
    · rw [hr]
      exact List.length_append
    · rw [hr, show s.kcp.replies = (takeId s).kcp.replies from rfl, List.drop_left] at hmem
      obtain rfl : r = _ := by simpa using hmem
      exact ⟨rfl, rfl, h4, h34⟩
  · intro p99 ms s hs hw ha hh hp hl hr hf hc
    exact goes_doneHeld (fun _ => voltageWindow_lower hs hw ha hh hp hl hr hf hc)
  · intro p99 ok ms s hs
    have h : voltageWindow ⟨p99, ms⟩ ok s = s := if_pos hs
    refine ⟨stampReplies s s, congrArg Host.Outcome.next ?_, rfl, rfl, ?_⟩
    · rw [h, commitG_self]
    · simp [stampReplies]
  · intro alert s h
    exact congrArg (done s) (avsFaultEvent_idle h)
  · intro die temp s hd ht
    exact goes_unit (decide_eq_true hd) (fun _ => tempCrit_warm die s ht)
  · intro a b c d e f s h
    exact goes_done (fun _ => tempCritClear_warm s rfl h)

end Sys2Proof.Machine
end

section
/-! SUPPORT. Evidence: staged sheaves and their records, operations on the drives, superblocks, the store (R358 to R387). -/

namespace Sys2Proof.Machine
open Sys2Proof

theorem satInc_sat64 (v : Nat) : satInc sat64 v = min 18446744073709551615 (v + 1) := by
  unfold satInc sat64
  split <;> omega

theorem Within.evd_eq {ps : List Part} {s t : State} (h : Within ps s t) (hp : Part.evd ∉ ps) : t.evd = s.evd :=
  (h.keeps .evd hp).symm

theorem perfAdd_evd (e n : Nat) (s : State) : (perfAdd e n s).evd = s.evd := (perfAdd_within e n s).evd_eq (by decide)

/-! Staged sheaves and their records (R366, R368). -/

/-- A staged sheaf of an index after a change of the sheaves that keeps every index. -/
theorem find_index_map {l : List Sheaf} {f : Sheaf → Sheaf} (hf : ∀ x, (f x).index = x.index) (i : Nat) :
    (l.map f).find? (fun x => x.index == i) = (l.find? (fun x => x.index == i)).map f := by
  rw [List.find?_map]
  refine congrArg (Option.map f) (congrArg (fun p => List.find? p l) (funext fun x => ?_))
  exact congrArg (· == i) (hf x)

theorem updSheaf_find {i : Nat} {f : Sheaf → Sheaf} (hf : ∀ x, (f x).index = x.index) (s : State) :
    (updSheaf i f s).evd.staged.find? (fun x => x.index == i) = (s.evd.staged.find? (fun x => x.index == i)).map f := by
  unfold updSheaf
  dsimp only
  rw [find_index_map]
  · cases h : s.evd.staged.find? (fun x => x.index == i) with
    | none => rfl
    | some x => exact congrArg some (if_pos (by simpa using List.find?_some h))
  · intro x
    split
    · exact hf x
    · rfl

theorem recordAt_of_evd {s t : State} (h : t.evd = s.evd) (p : Nat × Nat) : recordAt t p = recordAt s p := by
  rw [recordAt, h, recordAt]

theorem recordAt_updRec (p : Nat × Nat) (f : EvRec → EvRec) (s : State) : recordAt (updRec p f s) p = (recordAt s p).map f := by
  have hfind := updSheaf_find (i := p.1) (f := fun x => { x with records := x.records.modify p.2 f }) (fun _ => rfl) s
  rw [recordAt, updRec, hfind, recordAt]
  cases s.evd.staged.find? (fun x => x.index == p.1) with
  | none => rfl
  | some x => simp

theorem recordResolve_started {p : Nat × Nat} {s : State} {r : EvRec} {tag : Nat} (hr : recordAt s p = some r)
    (hp : r.pending = some tag) (hst : r.started = true) (hw : onWire s p = false) :
    recordAt (recordResolve p s) p = some { r with pending := none, started := false } := by
  have h : recordResolve p s = updRec p (fun r => { r with pending := none, started := false }) s := by
    simp [recordResolve, hr, hp, hst, hw]
  rw [h, recordAt_updRec, hr]
  rfl

theorem recordResolve_gone {p : Nat × Nat} {s : State} {r : EvRec} {tag : Nat} (hr : recordAt s p = some r) (hk : r.kind = 1)
    (hp : r.pending = some tag) (hst : r.started = false) (hg : messageGone s p tag = true) :
    recordAt (recordResolve p s) p = some { encryptDraft id r with kind := 2, pending := none } ∧
      (recordResolve p s).evd.voids = min 18446744073709551615 (s.evd.voids + 1) := by
  have hstarted : (encryptDraft id r).started = false := by
    unfold encryptDraft
    split
    · exact hst
    · exact hst
  have h : recordResolve p s = voidRecord p s := by simp [recordResolve, hr, hp, hst, hg]
  rw [h, voidRecord, hr]
  dsimp only
  rw [if_pos ⟨hk, .inl (by rw [hp]; rfl)⟩, perfAdd_evd, ← satInc_sat64]
  refine ⟨?_, rfl⟩
  rw [recordAt_of_evd (perfAdd_evd ..)]
  have hrec := recordAt_updRec p (fun r => { encryptDraft id r with kind := 2, pending := none, started := false }) s
  rw [hr] at hrec
  refine Eq.trans hrec (congrArg some ?_)
  rw [← hstarted]

/-! The FILLING sheaf (R368, R369). -/

theorem closeFull_room {s : State} {x : Sheaf} (hf : filling s = some x) (hl : x.records.length < 4064) : closeFull s = s := by
  rw [closeFull, hf]
  exact if_neg (Nat.not_le.mpr hl)

theorem rotateSheaf_room {s : State} {x : Sheaf} (hf : filling s = some x) (hl : x.records.length < 4064) : rotateSheaf s = s := by
  rw [rotateSheaf, closeFull_room hf hl, if_neg]
  simp [hf]

/-- With no drop counted no GAP record is due (R364). -/
theorem gapDue_none {s : State} (hs : s.evd.noStaging.count = 0) (hk : s.evd.noKey.count = 0) (c : Nat) : gapDue s c = false := by
  unfold gapDue dropAcc
  split
  · simp [hs]
  · simp [hk]

theorem dueGaps_none {s : State} (hs : s.evd.noStaging.count = 0) (hk : s.evd.noKey.count = 0) : dueGaps s = s := by
  simp [dueGaps, gapDue_none hs hk]

/-- A slot allocated in a sheaf with room: the record stands after those before it (R368). -/
theorem pushRec_room {s : State} {x : Sheaf} (mk : Nat → Nat → EvRec) (hf : filling s = some x) (hl : x.records.length < 4064) :
    pushRec mk s = (some (x.index, x.records.length), updSheaf x.index (fun y => { y with
      records := y.records ++ [mk x.index x.records.length], firstAt := some (y.firstAt.getD s.now) }) s) := by
  rw [pushRec, rotateSheaf_room hf hl, hf]

theorem markWrite_writes {s : State} {m : MarkDue} {rest : List MarkDue} {x : Sheaf} (hm : s.evd.marksDue = m :: rest)
    (hf : filling s = some x) (hx : s.evd.staged.find? (fun y => y.index == x.index) = some x) (hl : x.records.length < 4064)
    (hs : s.evd.noStaging.count = 0) (hk : s.evd.noKey.count = 0) :
    recordAt (markWrite s) (x.index, x.records.length) = some { kind := 4, body := markBody m } ∧
      (markWrite s).evd.marksDue = rest ∧ (markWrite s).evd.marks = min 18446744073709551615 (s.evd.marks + 1) := by
  unfold markWrite
  rw [hm]
  dsimp only
  rw [dueGaps_none hs hk, pushRec_room _ hf hl]
  dsimp only
  rw [perfAdd_evd, ← satInc_sat64, recordAt_of_evd (perfAdd_evd ..)]
  refine ⟨?_, rfl, rfl⟩
  have hfind := updSheaf_find (i := x.index) (f := fun y => { y with
    records := y.records ++ [{ kind := 4, body := markBody m }], firstAt := some (y.firstAt.getD s.now) }) (fun _ => rfl) s
  rw [hx] at hfind
  rw [recordAt]
  refine (congrArg (fun o : Option Sheaf => o.bind (fun y => y.records[x.records.length]?)) hfind).trans ?_
  simp

/-- Nothing is due before a sheaf is closed (R364, R368). -/
theorem fillDue_none {s : State} (hs : s.evd.noStaging.count = 0) (hk : s.evd.noKey.count = 0) (hm : s.evd.marksDue = []) :
    fillDue s = s := by
  have hacc (c : Nat) : (dropAcc s c).count = 0 := by
    unfold dropAcc
    split
    · exact hs
    · exact hk
  simp [fillDue, hacc, hm]

theorem closeSheaf_room {s : State} {x : Sheaf} (why : Nat) (hf : filling s = some x) (hl : x.records.length < 4064)
    (hs : s.evd.noStaging.count = 0) (hk : s.evd.noKey.count = 0) (hm : s.evd.marksDue = []) :
    closeSheaf why s = updSheaf x.index (fun y => { y with phase := .closed, close := why }) s := by
  rw [closeSheaf, hf]
  dsimp only
  rw [if_neg (Nat.not_le.mpr (show x.records.length < sheafSlots from hl)), fillDue_none hs hk hm]

theorem closeSheaf_none {s : State} (why : Nat) (hf : filling s = none) : closeSheaf why s = s := by
  rw [closeSheaf, hf]

/-! Operations on the drives (R374, R375). -/

/-- The drives' operations, by what they do. -/
def opKinds (s : State) : List NvKind := s.evd.ops.map (fun o => o.kind)

theorem issue_kinds (k : NvKind) (s : State) : opKinds (issue k s) = opKinds s ++ [k] := List.map_append

/-- The store without the operations on the drives. -/
def sansOps (s : State) : State := { s with evd := { s.evd with ops := [] } }

theorem retire_sansOps (o : NvOp) (s : State) : sansOps (retire o s) = sansOps s := rfl

theorem retire_kinds (o : NvOp) (s : State) : opKinds (retire o s) = (s.evd.ops.erase o).map (fun o => o.kind) := by
  refine List.ext_getElem? fun j => ?_
  simp only [opKinds, retire, List.getElem?_map, List.getElem?_modify]
  rcases (s.evd.ops.erase o)[j]? with - | y
  · rfl
  · refine congrArg some ?_
    dsimp only
    split <;> rfl

/-! Superblocks (R376). -/

theorem foldl_issue_kinds (f : Ns → NvKind) (l : List Ns) (s : State) :
    opKinds (l.foldl (fun t n => issue (f n) t) s) = opKinds s ++ l.map f := by
  induction l generalizing s with
  | nil => simp
  | cons n l ih => rw [List.foldl_cons, ih, issue_kinds, List.map_cons, List.append_assoc, List.singleton_append]

theorem foldl_issue_sansOps (f : Ns → NvKind) (l : List Ns) (s : State) :
    sansOps (l.foldl (fun t n => issue (f n) t) s) = sansOps s :=
  foldl_keeps (f := fun t n => issue (f n) t) sansOps (fun _ _ => rfl) l s

/-- What a write of the superblocks asks of the drives, where none is in progress. -/
theorem writeSupers_kinds {s : State} (h : writingSupers s = false) :
    opKinds (writeSupers s) = opKinds s ++ (storeNs s).map (fun n => .super (n.ordinal.getD 0) (superNow s n)) := by
  rw [writeSupers, if_neg (by simp [h]), foldl_issue_kinds]
  rfl

/-- The store without the operations on the drives and the mark that superblocks are due. -/
def sansWrites (s : State) : Evd := { s.evd with ops := [], superDue := false }

theorem writeSupers_rest (s : State) : sansWrites (writeSupers s) = sansWrites s := by
  unfold writeSupers
  split
  · rfl
  · exact (congrArg sansWrites (foldl_issue_sansOps _ _ _) : _)

theorem superNow_congr {s t : State} (hns : t.evd.ns = s.evd.ns) (hret : t.evd.minRetain = s.evd.minRetain)
    (hhold : t.evd.holdFrom = s.evd.holdFrom) (hep : t.evd.retEpoch = s.evd.retEpoch) (n : Ns) :
    superNow t n = { superNow s n with
      store := t.evd.storeId, reserved := t.evd.reserveTo, running := t.evd.recordRunning } := by
  have hwidth : ringWidth t = ringWidth s := by rw [ringWidth, hns, ringWidth]
  have hstore : storeNs t = storeNs s := by rw [storeNs, hns, storeNs]
  have hdepth : ringDepth t = ringDepth s := by rw [ringDepth, hstore, hwidth, ringDepth]
  simp only [superNow, hwidth, hdepth, hret, hhold, hep]

/-! What stands at a ring position (R371, R373). -/

/-- Only the namespaces say what stands on the drives. -/
theorem driveAt_of_ns {s t : State} (h : t.evd.ns = s.evd.ns) (p : Nat) : driveAt t p = driveAt s p := by
  simp only [driveAt, posOrdinal, posLba, ringWidth, h]

theorem ringPos_of_ns {s t : State} (h : t.evd.ns = s.evd.ns) (i : Nat) : ringPos t i = ringPos s i := by
  simp only [ringPos, ringSize, ringDepth, storeNs, ringWidth, h]

theorem onDrive_width (i : Nat) (f : DriveSheaf → DriveSheaf) (s : State) : ringWidth (onDrive i f s) = ringWidth s := by
  unfold ringWidth onDrive updNs
  dsimp only
  rw [List.filter_map, List.length_map]
  refine congrArg (fun p => (List.filter p s.evd.ns).length) (funext fun n => ?_)
  dsimp only [Function.comp_apply]
  split <;> rfl

theorem driveAt_onDrive (i : Nat) (f : DriveSheaf → DriveSheaf) (s : State) :
    driveAt (onDrive i f s) (ringPos s i) = (driveAt s (ringPos s i)).map f := by
  have hord : posOrdinal (onDrive i f s) (ringPos s i) = posOrdinal s (ringPos s i) := by
    rw [posOrdinal, onDrive_width, posOrdinal]
  have hlba : posLba (onDrive i f s) (ringPos s i) = posLba s (ringPos s i) := by rw [posLba, onDrive_width, posLba]
  rw [driveAt, driveAt, hord, hlba]
  generalize hp : ringPos s i = p
  generalize ho : posOrdinal s p = o
  have hns : (onDrive i f s).evd.ns = s.evd.ns.map (fun n =>
      if n.ordinal = some o then { n with sheaves := tmod {} n.sheaves (posLba s p) f } else n) := by
    rw [onDrive, hp, ho]
    rfl
  rw [hns, List.find?_map]
  have hpred : ((fun n : Ns => n.ordinal == some o) ∘ fun n =>
      if n.ordinal = some o then { n with sheaves := tmod {} n.sheaves (posLba s p) f } else n) =
      fun n => n.ordinal == some o := by
    funext n
    dsimp only [Function.comp_apply]
    split <;> rfl
  rw [hpred]
  cases h : s.evd.ns.find? (fun n => n.ordinal == some o) with
  | none => rfl
  | some n =>
    simp only [Option.map_some]
    rw [if_pos (by simpa using List.find?_some h)]
    exact congrArg some (tget_tset_same ..)

/-! Evidence keys do not depend on the command processor (R337, R387). -/

theorem evidenceKey_kcp (t : Nat) (s : State) (k : Kcp) :
    evidenceKey t { s with kcp := k } = ((evidenceKey t s).1, { (evidenceKey t s).2 with kcp := k }) := by
  have htenant : State.tenant { s with kcp := k } t = s.tenant t := rfl
  unfold evidenceKey
  rw [htenant]
  dsimp only
  split
  · rfl
  · split
    · rfl
    · split <;> rfl

/-- A read in progress, its state under another command processor. -/
def underKcp (l : Kcp) (a : List Byte × Nat × State) : List Byte × Nat × State := (a.1, a.2.1, { a.2.2 with kcp := l })

theorem readUnit_kcp (d : Bool) (x : Sheaf) (a : List Byte × Nat × State) (l : Kcp) (k u : Nat) :
    readUnit d x (underKcp l a) k u = underKcp l (readUnit d x a k u) := by
  unfold readUnit underKcp
  dsimp only
  rw [evidenceKey_kcp]
  split
  · rfl
  · rcases evidenceKey (x.records.getD (u - 32) {}).tenant a.2.2 with ⟨- | key, t⟩
    · rfl
    · dsimp only
      split <;> rfl

theorem foldl_readUnit_kcp (d : Bool) (x : Sheaf) (f : Nat → Nat) (l : Kcp) (ks : List Nat) (a : List Byte × Nat × State) :
    ks.foldl (fun a k => readUnit d x a k (f k)) (underKcp l a) = underKcp l (ks.foldl (fun a k => readUnit d x a k (f k)) a) := by
  induction ks generalizing a with
  | nil => rfl
  | cons k ks ih => rw [List.foldl_cons, readUnit_kcp, ih, List.foldl_cons]

theorem sheafReply_kcp (p : List Byte) (x : Sheaf) (staging : Bool) (s : State) (l : Kcp) :
    (sheafReply p x staging { s with kcp := l }).payload = (sheafReply p x staging s).payload := by
  have h := foldl_readUnit_kcp (bit (rd p 14 1) 0) x (fun k => rd p 8 4 / 32 + k) l (List.range (rd p 12 2 / 32)) ([], 0, s)
  simp only [sheafReply, ok]
  rw [show (([], 0, { s with kcp := l }) : List Byte × Nat × State) = underKcp l ([], 0, s) from rfl, h]
  rfl

/-- Without DECRYPT the units are the sheaf's bytes as they stand (R387). -/
theorem foldl_readUnit_plain (x : Sheaf) (f : Nat → Nat) (s : State) (ks : List Nat) (a : List Byte) :
    ks.foldl (fun a k => readUnit false x a k (f k)) (a, 0, s) =
      (a ++ ks.flatMap (fun k => ((sheafBytes x).drop (32 * f k)).take 32), 0, s) := by
  induction ks generalizing a with
  | nil => simp
  | cons k ks ih =>
    have hunit : readUnit false x (a, 0, s) k (f k) = (a ++ ((sheafBytes x).drop (32 * f k)).take 32, 0, s) := by
      unfold readUnit
      exact if_pos rfl
    rw [List.foldl_cons, hunit, ih, List.flatMap_cons, List.append_assoc]

end Sys2Proof.Machine
end

section
/-! SUPPORT. The commands of group 0x0C, each from its conditions (R368 to R387). -/

namespace Sys2Proof.Machine
open Sys2Proof

/-! EVD_STORE_CONFIG (R383). -/

/-- The configuration that a write of EVD_STORE_CONFIG asks for. -/
def evdParse (p : List Byte) : EvdCfg := ⟨rd p 1 1, rd p 2 2, rd p 4 1, rd p 6 2, rd p 8 4⟩

/-- The state with the configuration in force. -/
def evdConfigured (g : EvdCfg) (s : State) : State := { s with evd := { s.evd with cfg := g } }

/-- The checks of a write of EVD_STORE_CONFIG pass (R383). -/
structure StoreWrite (p : List Byte) : Prop where
  length : p.length = 24
  flags : rd p 1 1 < 2
  tenant : rd p 2 2 < 4096
  sample : rd p 4 1 ≤ 20
  zero5 : rd p 5 1 = 0
  scrub : rd p 6 2 ≤ 8192
  ageLow : 10 ≤ rd p 8 4
  ageHigh : rd p 8 4 ≤ 60000
  zero12 : rd p 12 4 = 0

theorem bodyEvdStoreConfig_runs {c : Cmd} {s : State} {p : List Byte} {a : Nat} (hc : c.req.payload = p) (hw : StoreWrite p)
    (ha : rd p 0 1 = a) (h5 : a ≤ 5) (hst : actionStatus s a = none) :
    bodyEvdStoreConfig c s = if a = 1 ∨ a = 2
      then pend (runAction a (evdConfigured (evdParse p) s)) (evdRecord (runAction a (evdConfigured (evdParse p) s)) a)
      else ok (runAction a (evdConfigured (evdParse p) s)) (evdRecord (runAction a (evdConfigured (evdParse p) s)) a) := by
  obtain ⟨hl, hf, ht, hs, hz5, hr, hlo, hhi, hz12⟩ := hw
  have hne : p ≠ [] := List.ne_nil_of_length_eq_add_one hl
  simp only [bodyEvdStoreConfig, hc, ha]
  rw [if_neg (by omega), if_neg hne, checked_of_all (by simp [h5, hf, ht, hs, hr, hlo, hhi, zeroAt, hz5, hz12]), hst]
  rfl

theorem storeWrite_of {p : List Byte} (hl : p.length = 24) (hf : rd p 1 1 < 2) (ht : rd p 2 2 < 4096) (hs : rd p 4 1 ≤ 20)
    (hz5 : rd p 5 1 = 0) (hr : rd p 6 2 ≤ 8192) (hlo : 10 ≤ rd p 8 4) (hhi : rd p 8 4 ≤ 60000) (hz12 : rd p 12 4 = 0) :
    StoreWrite p := ⟨hl, hf, ht, hs, hz5, hr, hlo, hhi, hz12⟩

section
variable {rq : Request} {s : State} {a : Nat} {P : State → Prop}
    (h : runs 0x0C01 (withByte 0 a rq) s = true) (hw : StoreWrite (withByte 0 a rq).payload) (h5 : a ≤ 5)
include h hw h5

/-- An ACTION that answers at once. -/
theorem goes_of_action (h12 : ¬(a = 1 ∨ a = 2)) (hst : actionStatus s a = none)
    (hP : ∀ k : Kcp,
      let u := runAction a (evdConfigured (evdParse (withByte 0 a rq).payload) (takeId s))
      Answered 0x0C01 rq (evdRecord u a) s { u with kcp := k } → P { u with kcp := k }) :
    Goes (kcpRow 0x0C01 (leastPriv s 0x0C01 (withByte 0 a rq).payload) bodyEvdStoreConfig (withByte 0 a rq) s) P := by
  have ha : rd (withByte 0 a rq).payload 0 1 = a :=
    rd_withByte_same (by rw [← withByte_length 0 a, hw.length]; decide) (by omega)
  have hbody := bodyEvdStoreConfig_runs (c := rowCmd 0x0C01 (withByte 0 a rq) s) (s := takeId s) rfl hw ha h5 hst
  rw [if_neg h12] at hbody
  exact goes_of_ok_body bodyEvdStoreConfig_within (by decide) h hbody hP

/-- FORMAT and START answer PENDING. -/
theorem goes_of_pendingAction (h12 : a = 1 ∨ a = 2) (hst : actionStatus s a = none)
    (hP : ∀ k : Kcp,
      let u := runAction a (evdConfigured (evdParse (withByte 0 a rq).payload) (takeId s))
      Pending 0x0C01 rq (evdRecord u a) s { u with kcp := k } → P { u with kcp := k }) :
    Goes (kcpRow 0x0C01 (leastPriv s 0x0C01 (withByte 0 a rq).payload) bodyEvdStoreConfig (withByte 0 a rq) s) P := by
  have ha : rd (withByte 0 a rq).payload 0 1 = a :=
    rd_withByte_same (by rw [← withByte_length 0 a, hw.length]; decide) (by omega)
  have hbody := bodyEvdStoreConfig_runs (c := rowCmd 0x0C01 (withByte 0 a rq) s) (s := takeId s) rfl hw ha h5 hst
  rw [if_pos h12] at hbody
  exact goes_of_pend_body bodyEvdStoreConfig_within (by decide) h hbody hP

end

/-- FORMAT draws a STORE_ID and asks for the superblock of every namespace, RESERVED_UPTO 0 (R377). -/
theorem startFormat_leaves {s : State} (hw : writingSupers s = false) :
    (startFormat s).evd.cfg = s.evd.cfg ∧ opKinds (startFormat s) = opKinds s ++ (storeNs s).map (fun n =>
      .super (n.ordinal.getD 0)
        { superNow s n with store := (startFormat s).evd.storeId, reserved := 0, running := false }) := by
  unfold startFormat
  dsimp only
  generalize hu : ({ (drawRandom 8 s).2 with evd := { (drawRandom 8 s).2.evd with
    storeId := leVal (drawRandom 8 s).1, reserveTo := 0, recordRunning := false } } : State) = u
  have hns : u.evd.ns = s.evd.ns := by subst hu; rfl
  have hops : u.evd.ops = s.evd.ops := by subst hu; rfl
  have hret : u.evd.minRetain = s.evd.minRetain ∧ u.evd.holdFrom = s.evd.holdFrom ∧ u.evd.retEpoch = s.evd.retEpoch := by
    subst hu
    exact ⟨rfl, rfl, rfl⟩
  have hto : u.evd.reserveTo = 0 ∧ u.evd.recordRunning = false ∧ u.evd.cfg = s.evd.cfg := by
    subst hu
    exact ⟨rfl, rfl, rfl⟩
  obtain ⟨hmin, hhold, hep⟩ := hret
  obtain ⟨hres, hrun, hcfg⟩ := hto
  have hwu : writingSupers u = false := by rw [writingSupers, hops]; exact hw
  have hstore : storeNs u = storeNs s := by rw [storeNs, hns, storeNs]
  have hrest := writeSupers_rest u
  have hid : (writeSupers u).evd.storeId = u.evd.storeId := (congrArg Evd.storeId hrest :)
  refine ⟨(congrArg Evd.cfg hrest :).trans hcfg, ?_⟩
  rw [writeSupers_kinds hwu, hstore, hid, opKinds, hops, opKinds]
  refine congrArg _ (congrArg (fun f => (storeNs s).map f) (funext fun n => ?_))
  rw [superNow_congr hns hmin hhold hep, hres, hrun]

/-- STOP with nothing staged asks at once for superblocks that say STOPPED (R383). -/
theorem stopCheck_staged_none {s : State} (hs : s.evd.staged = []) (hst : s.evd.stopping = true) (hr : s.evd.recordRunning = true)
    (hw : writingSupers s = false) :
    (stopCheck s).evd.stopping = true ∧ (stopCheck s).evd.cfg = s.evd.cfg ∧ opKinds (stopCheck s) = opKinds s ++
      (storeNs s).map (fun n => .super (n.ordinal.getD 0) { superNow s n with running := false }) := by
  have hcheck : stopCheck s = writeSupers { s with evd := { s.evd with recordRunning := false } } :=
    if_pos (by simp [hst, hr, stagingWritten, hs])
  rw [hcheck]
  have hrest := writeSupers_rest { s with evd := { s.evd with recordRunning := false } }
  refine ⟨(congrArg Evd.stopping hrest :).trans hst, (congrArg Evd.cfg hrest :), ?_⟩
  exact writeSupers_kinds (s := { s with evd := { s.evd with recordRunning := false } }) hw

/-- Whether or not superblocks are written with it, the end of STOP leaves staging and the store. -/
theorem stopCheck_leaves (s : State) :
    (stopCheck s).evd.staged = s.evd.staged ∧ (stopCheck s).evd.stopping = s.evd.stopping ∧ (stopCheck s).evd.store = s.evd.store := by
  unfold stopCheck
  split
  · have hrest := writeSupers_rest { s with evd := { s.evd with recordRunning := false } }
    exact ⟨(congrArg Evd.staged hrest :), (congrArg Evd.stopping hrest :), (congrArg Evd.store hrest :)⟩
  · exact ⟨rfl, rfl, rfl⟩

theorem setRetention_leaves {m u : Nat} {s : State} (h : m ≠ s.evd.minRetain ∨ u ≠ s.evd.holdFrom) :
    (setRetention m u s).evd.minRetain = m ∧ (setRetention m u s).evd.holdFrom = u ∧
      (setRetention m u s).evd.retEpoch = (s.evd.retEpoch + 1) % 4294967296 := by
  unfold setRetention
  rw [if_neg (by tauto)]
  dsimp only
  split
  · have hrest := writeSupers_rest { s with evd := { s.evd with
      minRetain := m, holdFrom := u, retEpoch := (s.evd.retEpoch + 1) % 2 ^ 32 } }
    exact ⟨(congrArg Evd.minRetain hrest :), (congrArg Evd.holdFrom hrest :), (congrArg Evd.retEpoch hrest :)⟩
  · exact ⟨rfl, rfl, rfl⟩

theorem bodyEvdSheafRead_checked {c : Cmd} {s : State} {p : List Byte} {i : Nat} (hc : c.req.payload = p) (hl : p.length = 16)
    (hi : i = rd p 0 8) (hlo : oldestIndex s ≤ i) (hhi : i < nextSeal s) (ho : rd p 8 4 % 32 = 0) (ho' : rd p 8 4 < 131072)
    (hn : rd p 12 2 % 32 = 0) (hn' : 32 ≤ rd p 12 2) (hn'' : rd p 12 2 ≤ 4032) (hend : rd p 8 4 + rd p 12 2 ≤ 131072)
    (hf : rd p 14 1 < 4) (hz : rd p 15 1 = 0) :
    bodyEvdSheafRead c s = match s.evd.staged.find? (fun x => x.index == i) with
      | some x => sheafReply p x true s
      | none => if ringSize s = 0 then err s stINTEGRITY else held (issue (.read c.id i) s) := by
  simp only [bodyEvdSheafRead, hc, ← hi]
  rw [if_neg (not_not.mpr hl), checked_of_all (by simp [hlo, hhi, ho, ho', hn, hn', hn'', hend, hf, zeroAt, hz])] <;> rfl

theorem bodyEvdNamespaceAdd_adds {c : Cmd} {s : State} {p : List Byte} {n : Ns} (hc : c.req.payload = p) (hl : p.length = 4)
    (hz : rd p 2 2 = 0) (hn : s.evd.ns[rd p 0 2]? = some n) (h0 : s.evd.store = 0) (hws : writingSupers s = false)
    (hu : usable n = true) (ho : n.ordinal = none) (hwid : ringWidth s < 32) :
    bodyEvdNamespaceAdd c s = ok { s with evd := { s.evd with
      ns := s.evd.ns.set (rd p 0 2) { n with ordinal := some (ringWidth s) } } } (le 1 (ringWidth s)) := by
  have hlt : rd p 0 2 < s.evd.ns.length := (List.getElem?_eq_some_iff.mp hn).1
  simp only [bodyEvdNamespaceAdd, hc]
  rw [if_neg (not_not.mpr hl), checked_of_all (by simp [hlt, zeroAt, hz]), hn]
  dsimp only
  rw [if_neg (by simp [h0, hws]), if_neg (by simp [hu, ho]), if_neg (by omega)]

theorem bodyEvdRetention_sets {c : Cmd} {s : State} {p : List Byte} (hc : c.req.payload = p) (hl : p.length = 16)
    (hm : rd p 0 4 < 2147483648) (hz : rd p 4 4 = 0)
    (hauth : 2 ≤ c.req.priv ∨ (s.evd.minRetain ≤ rd p 0 4 ∧ rd p 8 8 ≤ s.evd.holdFrom)) :
    bodyEvdRetention c s = ok (setRetention (rd p 0 4) (rd p 8 8) s) (retentionRecord (setRetention (rd p 0 4) (rd p 8 8) s)) := by
  simp only [bodyEvdRetention, hc]
  rw [if_neg (by omega), if_neg (List.ne_nil_of_length_eq_add_one hl), checked_of_all (by simp [hm, zeroAt, hz]),
    if_neg (by omega)]

theorem sheafReply_plain {p : List Byte} (x : Sheaf) (staging : Bool) (s : State) (h : bit (rd p 14 1) 0 = false) :
    sheafReply p x staging s = ok s (le 8 x.index ++
      le 1 (flag 0 (bit (rd p 14 1) 1 && sigOk x.header) + flag 1 (bit (rd p 14 1) 1 && rootOk x) + flag 2 staging) ++
      zeros 1 ++ le 2 (rd p 12 2 / 32) ++ zeros 4 ++ le 16 0 ++
      (List.range (rd p 12 2 / 32)).flatMap (fun k => ((sheafBytes x).drop (32 * (rd p 8 4 / 32 + k))).take 32)) := by
  simp only [sheafReply, h, foldl_readUnit_plain x (fun k => rd p 8 4 / 32 + k), List.nil_append]

/-- Settles O30: each ACTION by what it runs, each other command by its body. -/
theorem evidenceCommandsComplete : Obligations.EvidenceCommandsComplete := by
  unfold Obligations.EvidenceCommandsComplete
  refine ⟨?_, ?_, ?_, ?_, ?_, ?_, ?_, ?_, ?_, ?_⟩
  · rintro rq s q g rfl h ha hl hf ht hs hz5 hr hlo hhi hz12 rfl
    have hbody := bodyEvdStoreConfig_runs (c := rowCmd 0x0C01 q s) (s := takeId s) rfl
      (storeWrite_of hl hf ht hs hz5 hr hlo hhi hz12) ha (Nat.zero_le _) rfl
    rw [if_neg (by decide)] at hbody
    exact goes_of_ok_body bodyEvdStoreConfig_within (by decide) h hbody fun k hans => ⟨rfl, hans⟩
  · rintro rq s q g rfl h hl hf ht hs hz5 hr hlo hhi hz12 rfl h0 hwid hws
    have hst : actionStatus s 1 = none := by simp [actionStatus, h0, hwid, hws]
    refine goes_of_pendingAction h (storeWrite_of hl hf ht hs hz5 hr hlo hhi hz12) (by decide) (.inl rfl) hst fun k hpend => ?_
    obtain ⟨hcfg, hops⟩ := startFormat_leaves (s := evdConfigured (evdParse (withByte 0 1 rq).payload) (takeId s)) hws
    exact ⟨hcfg, hops, hpend⟩
  · rintro rq s q g rfl h hl hf ht hs hz5 hr hlo hhi hz12 rfl h1 hloop hstart
    have hst : actionStatus s 2 = none := by simp [actionStatus, h1, hloop, hstart]
    exact goes_of_pendingAction h (storeWrite_of hl hf ht hs hz5 hr hlo hhi hz12) (by decide) (.inr rfl) hst
      fun k hpend => ⟨rfl, hpend⟩
  · rintro rq s q g rfl h hl hf ht hs hz5 hr hlo hhi hz12 rfl h2 hstaged hrun hws
    have hst : actionStatus s 3 = none := by simp [actionStatus, h2]
    refine goes_of_action h (storeWrite_of hl hf ht hs hz5 hr hlo hhi hz12) (by decide) (by decide) hst fun k hans => ?_
    have hact : runAction 3 (evdConfigured (evdParse (withByte 0 3 rq).payload) (takeId s)) =
        stopCheck { evdConfigured (evdParse (withByte 0 3 rq).payload) (takeId s) with
          evd := { s.evd with cfg := evdParse (withByte 0 3 rq).payload, stopping := true } } := by
      rw [runAction, closeSheaf_none]
      · rfl
      · rw [filling]
        exact congrArg (List.find? _) hstaged
    obtain ⟨hstop, hcfg, hops⟩ := stopCheck_staged_none (s := { evdConfigured (evdParse (withByte 0 3 rq).payload) (takeId s) with
      evd := { s.evd with cfg := evdParse (withByte 0 3 rq).payload, stopping := true } }) hstaged rfl hrun hws
    rw [hact] at hans ⊢
    exact ⟨hstop, hcfg, hops, hans⟩
  · rintro rq s q g x rfl h hl hf ht hs hz5 hr hlo hhi hz12 rfl hfill hlen hns hnk hm
    refine goes_of_action h (storeWrite_of hl hf ht hs hz5 hr hlo hhi hz12) (by decide) (by decide) rfl fun k hans => ?_
    have hact := closeSheaf_room (s := evdConfigured (evdParse (withByte 0 4 rq).payload) (takeId s)) 2 hfill hlen hns hnk hm
    exact ⟨(congrArg (fun u => u.evd.staged) hact :), (congrArg (fun u => u.evd.store) hact :), hans⟩
  · rintro rq s q g rfl h hl hf ht hs hz5 hr hlo hhi hz12 rfl h1
    have hst : actionStatus s 5 = none := by simp [actionStatus, h1]
    refine goes_of_action h (storeWrite_of hl hf ht hs hz5 hr hlo hhi hz12) (by decide) (by decide) hst fun k hans =>
      ⟨rfl, rfl, fun n hn => ?_, hans⟩
    obtain ⟨m, -, rfl⟩ := List.mem_map.mp hn
    rfl
  · intro rq s h hp
    exact kcpRow_reads 0x0C02 bodyEvdStatus rq s _ h (if_neg (not_not.mpr hp))
  · rintro rq s i n h hl rfl hz hn h0 hws hu ho hwid
    exact goes_of_ok_body bodyEvdNamespaceAdd_within (by decide) h
      (bodyEvdNamespaceAdd_adds rfl hl hz hn h0 hws hu ho hwid) fun k hans => ⟨rfl, hans⟩
  · rintro rq s m u h hl rfl rfl hm hz hne hauth
    refine goes_of_ok_body bodyEvdRetention_within (by decide) h (bodyEvdRetention_sets rfl hl hm hz hauth) fun k hans => ?_
    obtain ⟨hmin, hhold, hep⟩ := setRetention_leaves (s := takeId s) hne
    exact ⟨hmin, hhold, hep, hans⟩
  · rintro rq s i x n h hl hi hlo hhi ho ho' rfl hn hn' hn'' hend hf hdec hz hx
    refine kcpRow_reads 0x0C05 bodyEvdSheafRead rq s _ h ?_
    have hbody := bodyEvdSheafRead_checked (c := rowCmd 0x0C05 rq s) (s := takeId s) rfl hl hi hlo hhi ho ho' hn hn' hn'' hend hf hz
    rw [show (takeId s).evd.staged.find? (fun y => y.index == i) = some x from hx] at hbody
    exact hbody.trans (sheafReply_plain x true (takeId s) hdec)

end Sys2Proof.Machine
end

section
/-! SUPPORT. The evidence events, each from its conditions (R362 to R380). -/

namespace Sys2Proof.Machine
open Sys2Proof

/-! SHEAF_SEAL, SHEAF_WRITE, SCRUB_READ (R368, R373, R380). -/

theorem sheafSeal_seals {s : State} {x y : Sheaf}
    (hx : s.evd.staged.find? (fun x => x.phase == .filling || x.phase == .closed) = some x) (hp : x.phase = .closed)
    (hall : x.records.all (fun r => r.pending.isNone) = true)
    (hy : y = { x with sealedAt := replicaTime s 0, restart := s.evd.restart }) :
    (sheafSeal s).evd.staged = s.evd.staged.map (fun z => if z.index = x.index then { y with
        header := headerBody s y ++ sheafSign s.pwr.prov.ownerGen (headerBody s y) ++ zeros 512, phase := .sealed } else z) ∧
      (sheafSeal s).evd.prevIndex = some x.index ∧ (sheafSeal s).evd.restart = false ∧
      (sheafSeal s).evd.prevHash =
        sheafHash (headerBody s y ++ sheafSign s.pwr.prov.ownerGen (headerBody s y) ++ zeros 512) ∧
      (sheafSeal s).evd.sheaves = min 18446744073709551615 (s.evd.sheaves + 1) := by
  unfold sheafSeal
  rw [hx]
  dsimp only
  rw [if_pos ⟨hp, hall⟩, ← satInc_sat64, hy]
  exact ⟨rfl, rfl, rfl, rfl, rfl⟩

theorem sheafWrite_issues {s : State} {x : Sheaf} (hx : s.evd.staged.find? (fun x => x.phase == .sealed) = some x)
    (h2 : s.evd.store = 2) (hr : ringSize s ≠ 0) (hret : (storedAt s (ringPos s x.index)).any (retained s) = false)
    (hw : writingAt s (ringPos s x.index) = false) :
    sheafWrite s = issue (.sheaf x.index false) (updSheaf x.index (fun y => { y with phase := .writing }) s) := by
  unfold sheafWrite
  rw [hx]
  dsimp only
  rw [if_neg (by simp [h2, hr, hret, hw])]

theorem scrubRead_reads {bad : Bool} {s : State} {e : Nat × DriveSheaf} (h2 : s.evd.store = 2) (hr : s.evd.cfg.scrubRate ≠ 0)
    (hdue : s.evd.scrubAt + 1000000000 / s.evd.cfg.scrubRate ≤ s.now) (he : scrubNext s = some e) :
    (scrubRead bad s).evd = { s.evd with
      scrubPos := e.1 + 1, scrubAt := s.now, scrubbed := satInc sat64 s.evd.scrubbed
      scrubFail := if bad || !scrubOk s e then satInc sat64 s.evd.scrubFail else s.evd.scrubFail
      scrubLast := if bad || !scrubOk s e then rd e.2.header 16 8 else s.evd.scrubLast } := by
  unfold scrubRead
  rw [if_neg (by simp [h2, hr]; omega), he]

/-! NVME_COMPLETION and NVME_WRITE_TIMEOUT (R374, R375). -/

section
variable {ok_ : Bool} {n : Nat} {s : State} {o : NvOp} (ho : (s.evd.ops.filter (fun o => o.issued))[n]? = some o)
include ho

theorem nvmeCompletion_sheaf {i : Nat} {head : Bool} (hk : o.kind = .sheaf i head) :
    nvmeCompletion ⟨ok_, n⟩ s = if ok_ then sheafWritten i head (retire o s) else writeFailed o s := by
  rw [nvmeCompletion, ho]
  dsimp only
  rw [hk]

theorem nvmeCompletion_super {k : Nat} {b : Super} (hk : o.kind = .super k b) :
    nvmeCompletion ⟨ok_, n⟩ s = if ok_ then superWritten k b (retire o s) else writeFailed o s := by
  rw [nvmeCompletion, ho]
  dsimp only
  rw [hk]

theorem nvmeCompletion_read {c i : Nat} (hk : o.kind = .read c i) (hok : ok_ = true ∨ o.retried = true) :
    nvmeCompletion ⟨ok_, n⟩ s = answerHeld c (readAnswer ok_) (retire o s) := by
  rw [nvmeCompletion, ho]
  dsimp only
  rw [hk]
  exact if_pos (by simpa using hok)

end

theorem opKinds_of_evd {s t : State} (h : t.evd = s.evd) : opKinds t = opKinds s := by rw [opKinds, h, opKinds]

/-- LBAs 1 to 31 of a sheaf stand; its LBA 0 is asked for (R373). -/
theorem sheafWritten_body {o : NvOp} {i : Nat} {s : State} {x : Sheaf}
    (hx : s.evd.staged.find? (fun y => y.index == i) = some x) :
    opKinds (sheafWritten i false (retire o s)) = (s.evd.ops.erase o).map (fun o => o.kind) ++ [NvKind.sheaf i true] ∧
      (sheafWritten i false (retire o s)).evd.staged = s.evd.staged ∧
      driveAt (sheafWritten i false (retire o s)) (ringPos s i) =
        (driveAt s (ringPos s i)).map (fun d => { d with high := x.records.drop 96 }) := by
  generalize hd : onDrive i (fun d => { d with high := x.records.drop 96 }) (retire o s) = d
  have hw : sheafWritten i false (retire o s) = issue (.sheaf i true) (perfAdd 0x0505 31 d) := by
    rw [sheafWritten, show (retire o s).evd.staged.find? (fun y => y.index == i) = some x from hx, ← hd]
    rfl
  have hperf := perfAdd_evd 0x0505 31 d
  rw [hw]
  refine ⟨?_, ?_, ?_⟩
  · rw [issue_kinds, opKinds_of_evd hperf, ← hd, ← retire_kinds]
    rfl
  · refine (congrArg Evd.staged hperf :).trans ?_
    rw [← hd]
    rfl
  · have hns : (issue (.sheaf i true) (perfAdd 0x0505 31 d)).evd.ns = d.evd.ns := (congrArg Evd.ns hperf :)
    rw [driveAt_of_ns hns, ← hd]
    exact driveAt_onDrive i _ (retire o s)

/-- LBA 0 of a sheaf stands: the sheaf is stored and its buffer FREE (R369, R373). -/
theorem sheafWritten_head {o : NvOp} {i : Nat} {s : State} {x : Sheaf}
    (hx : s.evd.staged.find? (fun y => y.index == i) = some x) (hst : s.evd.stopping = false) :
    opKinds (sheafWritten i true (retire o s)) = (s.evd.ops.erase o).map (fun o => o.kind) ∧
      (sheafWritten i true (retire o s)).evd.staged = s.evd.staged.filter (fun y => y.index != i) ∧
      driveAt (sheafWritten i true (retire o s)) (ringPos s i) =
        (driveAt s (ringPos s i)).map (fun d => { d with header := x.header, low := x.records.take 96 }) := by
  generalize hd : onDrive i (fun d => { d with header := x.header, low := x.records.take 96 }) (retire o s) = d
  generalize hu : ({ d with evd := { d.evd with staged := d.evd.staged.filter (fun y => y.index != i) } } : State) = u
  have hperf : (perfAdd 0x0504 1 (perfAdd 0x0505 1 u)).evd = u.evd := (perfAdd_evd ..).trans (perfAdd_evd ..)
  have hstop : (perfAdd 0x0504 1 (perfAdd 0x0505 1 u)).evd.stopping = false := by
    rw [hperf, ← hu, ← hd]
    exact hst
  have hw : sheafWritten i true (retire o s) = perfAdd 0x0504 1 (perfAdd 0x0505 1 u) := by
    rw [sheafWritten, show (retire o s).evd.staged.find? (fun y => y.index == i) = some x from hx]
    dsimp only
    rw [if_pos rfl, hd, hu, stopCheck, if_neg (by simp [hstop])]
  rw [hw]
  refine ⟨?_, ?_, ?_⟩
  · rw [opKinds_of_evd hperf, ← hu, ← hd, ← retire_kinds]
    rfl
  · rw [hperf, ← hu, ← hd]
    rfl
  · have hns : (perfAdd 0x0504 1 (perfAdd 0x0505 1 u)).evd.ns = d.evd.ns := by rw [hperf, ← hu]
    rw [driveAt_of_ns hns, ← hd]
    exact driveAt_onDrive i _ (retire o s)

/-- The last superblock of a FORMAT stands: the store is STOPPED (R376, R377). -/
theorem superWritten_formats {o : NvOp} {k : Nat} {b : Super} {s : State} (hws : writingSupers (retire o s) = false)
    (h0 : s.evd.store = 0) (hid : b.store = s.evd.storeId) (hdue : s.evd.superDue = false) :
    opKinds (superWritten k b (retire o s)) = (s.evd.ops.erase o).map (fun o => o.kind) ∧
      (superWritten k b (retire o s)).evd.store = 1 ∧ (superWritten k b (retire o s)).evd.reservedUpto = b.reserved ∧
      (superWritten k b (retire o s)).evd.ns = s.evd.ns.map (fun x => if x.ordinal = some k then placeSuper b x else x) := by
  generalize hd : updNs k (placeSuper b) (retire o s) = d
  generalize hp : perfAdd 0x0505 1 d = t
  have hperf : t.evd = d.evd := by rw [← hp]; exact perfAdd_evd ..
  have hwt : writingSupers t = false := by rw [writingSupers, hperf, ← hd]; exact hws
  have hstore : t.evd.store = 0 := by rw [hperf, ← hd]; exact h0
  have hids : b.store = t.evd.storeId := by rw [hperf, ← hd]; exact hid
  have hdue' : t.evd.superDue = false := by rw [hperf, ← hd]; exact hdue
  have hw : superWritten k b (retire o s) = supersDone b t := by
    rw [superWritten, hd, hp]
    exact if_neg (by simp [hwt])
  have hdone : supersDone b t = { t with evd := { t.evd with
      reservedUpto := b.reserved, store := 1, prevIndex := none, prevHash := []
      nextIndex := if t.evd.staged = [] then 0 else t.evd.nextIndex } } := by
    unfold supersDone
    dsimp only
    rw [if_neg (by rw [hstore]; decide), if_pos (show t.evd.store = 0 ∧ b.store = t.evd.storeId from ⟨hstore, hids⟩)]
    dsimp only
    rw [if_neg (by simp [hdue'])]
  rw [hw, hdone]
  refine ⟨?_, rfl, rfl, ?_⟩
  · rw [← retire_kinds]
    refine (opKinds_of_evd (s := t) (t := t) rfl).trans ?_
    rw [opKinds_of_evd hperf, ← hd]
    rfl
  · dsimp only
    rw [hperf, ← hd]
    rfl

theorem writeFailed_retries {o : NvOp} {s : State} (h : o.retried = false) :
    (writeFailed o s).evd = { s.evd with
      ops := s.evd.ops.map (fun x => if x = o then { x with retried := true, since := s.now } else x)
      retries := min 18446744073709551615 (s.evd.retries + 1) } := by
  rw [writeFailed, if_neg (by simp [h]), ← satInc_sat64]
  rfl

/-- A second failure puts the store in FAULT; the sheaf goes back to be written (R375). -/
theorem writeFailed_faults {o : NvOp} {i : Nat} {d : Bool} {s : State} (h : o.retried = true) (hk : o.kind = .sheaf i d) :
    (writeFailed o s).evd.store = 3 ∧ bit ((writeFailed o s).flt 4).status 1 = true ∧
      (writeFailed o s).evd.staged = s.evd.staged.map (fun y => if y.index = i then { y with phase := .sealed } else y) := by
  have hevd (u : State) : (setCond 4 1 true u).evd = u.evd := (setCond_within ..).evd_eq (by decide)
  rw [writeFailed, if_pos h, hk]
  dsimp only
  refine ⟨?_, (setCond_true_flt ..).1, ?_⟩
  · rw [hevd]
    rfl
  · rw [hevd]
    rfl

/-- A reply that the requester awaits is one reply more; nothing else of the command processor's slots changes. -/
theorem conclude_replies {c : Cmd} {s0 : State} {r : Res} (hl : c.lost = false) (hn : c.noReply = false) (hh : r.hold = false)
    (hk : r.st.kcp = s0.kcp) :
    (conclude c s0 r).kcp.replies.length = s0.kcp.replies.length + 1 ∧ (conclude c s0 r).kcp.slots = s0.kcp.slots := by
  have hadd (st d g : Nat) (p : List Byte) (u : State) (hr : u.kcp.replies = s0.kcp.replies) (hs : u.kcp.slots = s0.kcp.slots) :
      (addReply c st d g p u).kcp.replies.length = s0.kcp.replies.length + 1 ∧
        (addReply c st d g p u).kcp.slots = s0.kcp.slots := by
    rw [addReply_wanted hl hn]
    exact ⟨by simp [hr], hs⟩
  have hrep : r.st.kcp.replies = s0.kcp.replies := by rw [hk]
  have hsl : r.st.kcp.slots = s0.kcp.slots := by rw [hk]
  unfold conclude
  rw [if_neg (by simp [hh])]
  split
  · exact hadd _ _ _ _ _ ((commitG_kcp_replies ..).trans hrep) ((commitG_kcp_slots ..).trans hsl)
  · split
    · exact hadd _ _ _ _ _ ((commitG_kcp_replies ..).trans hrep) ((commitG_kcp_slots ..).trans hsl)
    · refine hadd _ _ _ _ _ ?_ ?_ <;> split
      · exact hrep
      · rfl
      · exact hsl
      · rfl

theorem readAnswer_hold (good : Bool) (c : Cmd) (s : State) : (readAnswer good c s).hold = false := by
  unfold readAnswer
  dsimp only
  split
  · split <;> rfl
  · rfl

/-- A read of the drives that is over answers its command, and takes its slot (R387). -/
theorem answerHeld_read {o : NvOp} {c : Nat} {ok_ : Bool} {s : State} {k : Cmd} (hk : s.kcp.slots.find? (fun y => y.id == c) = some k)
    (hl : k.lost = false) (hn : k.noReply = false) :
    opKinds (answerHeld c (readAnswer ok_) (retire o s)) = (s.evd.ops.erase o).map (fun o => o.kind) ∧
      (answerHeld c (readAnswer ok_) (retire o s)).kcp.replies.length = s.kcp.replies.length + 1 ∧
      (answerHeld c (readAnswer ok_) (retire o s)).kcp.slots = s.kcp.slots.filter (fun y => y.id != c) := by
  have hans : answerHeld c (readAnswer ok_) (retire o s) =
      let s1 := { retire o s with kcp := { s.kcp with slots := s.kcp.slots.filter (fun x => x.id != c) } }
      conclude k s1 (readAnswer ok_ k s1) := by
    rw [answerHeld, show (retire o s).kcp.slots.find? (fun y => y.id == c) = some k from hk]
    rfl
  rw [hans]
  generalize hs1 : ({ retire o s with kcp := { s.kcp with slots := s.kcp.slots.filter (fun x => x.id != c) } } : State) = s1
  have hwithin := readAnswer_within ok_ k s1
  obtain ⟨hlen, hslots⟩ := conclude_replies (c := k) (s0 := s1) (r := readAnswer ok_ k s1) hl hn (readAnswer_hold ..)
    (hwithin.keeps .kcp (by decide)).symm
  have hevd : (conclude k s1 (readAnswer ok_ k s1)).evd = s1.evd :=
    (conclude_within (ps := [.free, .key, .kcp]) (by decide) (Within.refl _ _) (hwithin.mono (by decide))).evd_eq (by decide)
  refine ⟨?_, ?_, ?_⟩
  · rw [opKinds_of_evd hevd, ← hs1, ← retire_kinds]
    rfl
  · rw [hlen, ← hs1]
  · rw [hslots, ← hs1]

/-! NVME_ENUMERATE (R370, R377). -/

theorem le_reserveFor (r i : Nat) : r ≤ reserveFor r i := by
  unfold reserveFor
  split <;> omega

theorem le_startIndex (s : State) : s.evd.reservedUpto ≤ startIndex s := by
  unfold startIndex
  split
  · exact le_reserveFor _ _
  · exact Nat.le_refl _

theorem startStore_leaves (s : State) :
    (startStore s).evd.recordRunning = true ∧ (startStore s).evd.restart = true ∧ (startStore s).evd.store = s.evd.store ∧
      s.evd.reservedUpto ≤ (startStore s).evd.nextIndex ∧
      (startStore s).evd.reserveTo = (startStore s).evd.nextIndex + 65536 := by
  have hrest := writeSupers_rest { s with
    syn := { s.syn with nvmeDownUsed := s.syn.nvmeDown }
    evd := { s.evd with
      nextIndex := startIndex s, reserveTo := startIndex s + 65536, recordRunning := true, restart := true
      prevIndex := (newestStored s).map (·.index)
      prevHash := ((newestStored s).map (fun x => sheafHash x.header)).getD [] } }
  have hnext : (startStore s).evd.nextIndex = startIndex s := (congrArg Evd.nextIndex hrest :)
  refine ⟨(congrArg Evd.recordRunning hrest :), (congrArg Evd.restart hrest :), (congrArg Evd.store hrest :), ?_, ?_⟩
  · rw [hnext]
    exact le_startIndex s
  · rw [hnext]
    exact (congrArg Evd.reserveTo hrest :)

/-- What enumeration finds says nothing of the store but its namespaces. -/
theorem enumerated_evd (l : List NvmeFound) (s : State) :
    (enumerated l s).evd.store = s.evd.store ∧ (enumerated l s).evd.reservedUpto = s.evd.reservedUpto := by
  have hone (old : List Ns) (a : List Ns × State) (f : NvmeFound) : (foundOne old a f).2.evd = a.2.evd := by
    exact (foundOne_within old a f).evd_eq (by decide)
  have hfold (old : List Ns) (l : List NvmeFound) (a : List Ns × State) : (l.foldl (foundOne old) a).2.evd = a.2.evd := by
    induction l generalizing a with
    | nil => rfl
    | cons f l ih => rw [List.foldl_cons, ih, hone]
  have h := hfold (s.evd.ns ++ s.evd.away) (l.take 62) ([], s)
  exact ⟨(congrArg Evd.store h :), (congrArg Evd.reservedUpto h :)⟩

theorem nvmeEnumerate_starts {l : List NvmeFound} {s : State} (he : s.evd.enumDue = false) (hs : s.evd.starting = true)
    (h1 : s.evd.store = 1) (hall : allThere (enumerated l s) = true) : nvmeEnumerate l s = startStore (enumerated l s) := by
  unfold nvmeEnumerate
  rw [if_neg (by simp [he]), if_pos hs]
  exact if_pos ⟨(enumerated_evd l s).1.trans h1, hall⟩

theorem findStore_none {t : State} (h : (t.evd.ns.find? (fun n => completeSet t (superStore n))).bind superOf = none) :
    (findStore t).evd.enumDue = t.evd.enumDue ∧ (findStore t).evd.store = 0 ∧ (findStore t).evd.storeId = 0 := by
  unfold findStore
  dsimp only
  rw [h]
  exact ⟨rfl, rfl, rfl⟩

theorem nvmeEnumerate_finds_none {l : List NvmeFound} {s : State} (he : s.evd.enumDue = true)
    (hn : (enumerated l s).evd.ns.find? (fun n => completeSet (enumerated l s) (superStore n)) = none) :
    (nvmeEnumerate l s).evd.enumDue = false ∧ (nvmeEnumerate l s).evd.store = 0 ∧ (nvmeEnumerate l s).evd.storeId = 0 := by
  unfold nvmeEnumerate
  rw [if_pos he]
  dsimp only
  generalize enumerated l s = u at hn ⊢
  have hset (n : Ns) : completeSet { u with evd := { u.evd with enumDue := false } } (superStore n) =
      completeSet u (superStore n) := by simp only [completeSet]
  refine findStore_none ?_
  simp only [hset, hn, Option.bind_none]

end Sys2Proof.Machine
end

section
/-! SUPPORT. The evidence events and the further forms of group 0x0C complete (R362 to R387). -/

namespace Sys2Proof.Machine
open Sys2Proof

theorem goes_evd {s u : State} {P : Evd → Prop} (h : P u.evd) : Goes (done s u) (fun t => P t.evd) := goes_done fun _ => h

theorem nvmeWriteTimeout_sheaf {s : State} {o : NvOp} {i : Nat} {d : Bool} (ho : s.evd.ops.find? (opLate s) = some o)
    (hk : o.kind = .sheaf i d) : nvmeWriteTimeout s = writeFailed o s := by
  rw [nvmeWriteTimeout, ho]
  dsimp only
  rw [hk]

/-- Settles O31: a record by its slot, a sheaf by its phase, an operation by its kind, a start by what it reserves. -/
theorem evidenceEventsComplete : Obligations.EvidenceEventsComplete := by
  unfold Obligations.EvidenceEventsComplete
  refine ⟨?_, ?_, ?_, ?_, ?_, ?_, ?_, ?_, ?_, ?_⟩
  · intro i k s r tg hk hr hp hst hw
    exact goes_unit (decide_eq_true hk) fun _ => recordResolve_started hr hp hst hw
  · intro s m rest x hm hf hx hl hns hnk
    exact goes_done fun _ => markWrite_writes hm hf hx hl hns hnk
  · intro s x hf hl
    refine goes_evd (P := fun e => e.staged = _) ?_
    have h : sheafClose s = updSheaf x.index (fun y => { y with phase := .closed, close := 0 }) s := by
      rw [sheafClose, closeFull, hf]
      exact if_pos hl
    rw [h]
    rfl
  · intro s x a hf hl ha hdue hns hnk hm
    refine goes_evd (P := fun e => e.staged = _) ?_
    have h : sheafAgeClose s = closeSheaf 1 s := by
      rw [sheafAgeClose, hf]
      dsimp only
      rw [ha, Option.any_some]
      exact if_pos (decide_eq_true hdue)
    rw [h, closeSheaf_room 1 hf hl hns hnk hm]
    rfl
  · intro s x y hx hp hall hy
    exact goes_done fun _ => sheafSeal_seals hx hp hall hy
  · intro s x hx h2 hr hret hw
    refine goes_evd (P := fun e => e.ops = _ ∧ e.staged = _) ?_
    rw [sheafWrite_issues hx h2 hr hret hw]
    exact ⟨rfl, rfl⟩
  · intro n s o i x ho hk hx
    refine goes_done fun k => ?_
    rw [nvmeCompletion_sheaf ho hk, if_pos rfl]
    exact sheafWritten_body hx
  · intro s o i d ho hr hk
    refine goes_evd (P := fun e => e.ops = _ ∧ e.retries = _ ∧ e.store = _) ?_
    rw [nvmeWriteTimeout_sheaf ho hk, writeFailed_retries hr]
    exact ⟨rfl, rfl, rfl⟩
  · intro l s he hs h1 hall
    obtain ⟨hstore, hres⟩ := enumerated_evd l s
    obtain ⟨hrun, hrestart, hst, hle, hto⟩ := startStore_leaves (enumerated l s)
    refine goes_evd (P := fun e => e.recordRunning = true ∧ e.restart = true ∧ e.store = 1 ∧ s.evd.reservedUpto ≤ e.nextIndex ∧
      e.reserveTo = e.nextIndex + 65536) ?_
    rw [nvmeEnumerate_starts he hs h1 hall]
    exact ⟨hrun, hrestart, hst.trans (hstore.trans h1), hres ▸ hle, hto⟩
  · intro bad_ s p x h2 hr hdue he
    refine goes_evd (P := fun e => e.scrubPos = _ ∧ e.scrubAt = _ ∧ e.scrubbed = _ ∧
      (bad_ = true → e.scrubFail = _ ∧ e.scrubLast = _)) ?_
    rw [scrubRead_reads h2 hr hdue he, ← satInc_sat64, ← satInc_sat64]
    exact ⟨rfl, rfl, rfl, fun hbad => by simp [hbad]⟩

/-- Settles O53: the reads; what STOP and FLUSH close; a unit read from staging or asked of a drive; the ends of operations. -/
theorem evidenceForms : Obligations.EvidenceForms := by
  unfold Obligations.EvidenceForms
  refine ⟨?_, ?_, ?_, ?_, ?_, ?_, ?_, ?_, ?_, ?_, ?_, ?_, ?_⟩
  · intro rq s h hp
    refine kcpRow_reads 0x0C01 bodyEvdStoreConfig rq s _ h ?_
    exact (if_neg (fun hb => hb.1 (by rw [rowCmd, hp]; rfl))).trans (if_pos hp)
  · rintro rq s q g x rfl h hl hf ht hs hz5 hr hlo hhi hz12 rfl h2 hfill hlen hns hnk hm
    have hst : actionStatus s 3 = none := by simp [actionStatus, h2]
    refine goes_of_action h (storeWrite_of hl hf ht hs hz5 hr hlo hhi hz12) (by decide) (by decide) hst fun k hans => ?_
    have hclose := closeSheaf_room (s := evdConfigured (evdParse (withByte 0 3 rq).payload) (takeId s)) 3 hfill hlen hns hnk hm
    generalize hg : evdParse (withByte 0 3 rq).payload = g at *
    have hact : runAction 3 (evdConfigured g (takeId s)) = stopCheck
        { closeSheaf 3 (evdConfigured g (takeId s)) with
          evd := { (closeSheaf 3 (evdConfigured g (takeId s))).evd with stopping := true } } := rfl
    obtain ⟨hstaged, hstop, hstore⟩ := stopCheck_leaves { closeSheaf 3 (evdConfigured g (takeId s)) with
      evd := { (closeSheaf 3 (evdConfigured g (takeId s))).evd with stopping := true } }
    rw [hact] at hans ⊢
    refine ⟨hstaged.trans ?_, hstop, hstore.trans ?_, hans⟩
    · rw [hclose]
      rfl
    · rw [hclose]
      exact h2
  · rintro rq s q g rfl h hl hf ht hs hz5 hr hlo hhi hz12 rfl hfill
    refine goes_of_action h (storeWrite_of hl hf ht hs hz5 hr hlo hhi hz12) (by decide) (by decide) rfl fun k hans => ?_
    have hact := closeSheaf_none (s := evdConfigured (evdParse (withByte 0 4 rq).payload) (takeId s)) 2 hfill
    exact ⟨(congrArg State.evd hact :), hans⟩
  · intro rq s h hp
    refine kcpRow_reads 0x0C04 bodyEvdRetention rq s _ h ?_
    exact (if_neg (fun hb => hb.1 (by rw [rowCmd, hp]; rfl))).trans (if_pos hp)
  · intro rq s i x h hl hi hlo hhi ho ho' hn hn' hn'' hend hf hz hx
    have hbody := bodyEvdSheafRead_checked (c := rowCmd 0x0C05 rq s) (s := takeId s) rfl hl hi hlo hhi ho ho' hn hn' hn'' hend hf hz
    rw [show (takeId s).evd.staged.find? (fun y => y.index == i) = some x from hx] at hbody
    have hwithin := sheafReply_within rq.payload x true (takeId s)
    refine goes_of_ok_body bodyEvdSheafRead_within (by decide) h hbody fun k hans => ⟨?_, hwithin.evd_eq (by decide)⟩
    exact Answered.congr hans (sheafReply_kcp rq.payload x true s (takeId s).kcp)
  · intro rq s i h hl hi hlo hhi ho ho' hn hn' hn'' hend hf hz hx hring
    have hbody := bodyEvdSheafRead_checked (c := rowCmd 0x0C05 rq s) (s := takeId s) rfl hl hi hlo hhi ho ho' hn hn' hn'' hend hf hz
    rw [show (takeId s).evd.staged.find? (fun y => y.index == i) = none from hx] at hbody
    refine goes_of_held_within h (hbody.trans (if_neg hring)) (issue_within _ _) (by decide) fun k hheld => ⟨hheld, rfl⟩
  · intro i k s r tg hk hr hk1 hp hst hg
    exact goes_unit (decide_eq_true hk) fun _ => recordResolve_gone hr hk1 hp hst hg
  · intro n s o i x ho hk hx hst
    refine goes_done fun k => ?_
    rw [nvmeCompletion_sheaf ho hk, if_pos rfl]
    exact sheafWritten_head hx hst
  · intro n s o k b ho hk hws h0 hid hdue
    refine goes_done fun l => ?_
    rw [nvmeCompletion_super ho hk, if_pos rfl]
    exact superWritten_formats hws h0 hid hdue
  · intro n s o k b ho hk hr
    refine goes_evd (P := fun e => e.ops = _ ∧ e.retries = _ ∧ e.store = _) ?_
    rw [nvmeCompletion_super ho hk, if_neg (by decide), writeFailed_retries hr]
    exact ⟨rfl, rfl, rfl⟩
  · intro ok_ n s o c i k ho hk hok hc hl hn
    obtain ⟨hkinds, hlen, hslots⟩ := answerHeld_read (o := o) (ok_ := ok_) hc hl hn
    have hevd (u : State) : (commitG s u).evd = u.evd := by rw [commitG]
    refine ⟨commitG s (nvmeCompletion ⟨ok_, n⟩ s), rfl, ?_⟩
    beta_reduce
    rw [hevd, commitG_kcp_replies, commitG_kcp_slots, nvmeCompletion_read ho hk hok]
    exact ⟨hkinds, hlen, hslots⟩
  · intro s o i d ho hr hk
    refine goes_done fun k => ?_
    rw [nvmeWriteTimeout_sheaf ho hk]
    exact writeFailed_faults hr hk
  · intro l s he hn
    exact goes_evd (P := fun e => e.enumDue = false ∧ e.store = 0 ∧ e.storeId = 0) (nvmeEnumerate_finds_none he hn)

end Sys2Proof.Machine
end

section
/-! SUPPORT. Loop-backs and self-tests (R559 to R573): where a loop-back is held, what a command that sets one leaves, and what a test
leaves of the others. -/

namespace Sys2Proof.Machine
open Sys2Proof

/-! A slot that is held for two reasons at once (R118, R564). -/

/-- The edge generator's loop-back of slot 0 is due, while channel 0, which times the slot, is verified. -/
def verifiedLoopedSlot : State :=
  { setLoop 6 0 { depth := 1, endsAt := 1 } (startVerify State.reset 0) with now := 1 }

theorem held_loopbackExpiry_verifiedLoopedSlot :
    (loopOf verifiedLoopedSlot 6 0).endsAt = 1 ∧ (loopOf verifiedLoopedSlot 6 0).depth = 1 ∧
      ((loopbackExpiry 6 0 verifiedLoopedSlot).slot 0).st.held = true := by
  decide +kernel

/-- Refutes O36: its clause on LOOPBACK_EXPIRY releases the slot, but a slot stays held while its channel is verified (R118). -/
theorem not_loopbackAndTestComplete : ¬ Obligations.LoopbackAndTestComplete := by
  unfold Obligations.LoopbackAndTestComplete
  rintro ⟨-, -, hexpiry, -⟩
  obtain ⟨hends, hdepth, hheld⟩ := held_loopbackExpiry_verifiedLoopedSlot
  obtain ⟨t, ht, -, hfree⟩ := hexpiry 6 0 verifiedLoopedSlot (by rw [hends]; decide) (by rw [hends]; decide) (by rw [hdepth]; decide)
  obtain rfl := Host.Outcome.next.inj ht
  have hslot : ((loopbackExpiry 6 0 verifiedLoopedSlot).slot 0).st.held = false := hfree rfl
  rw [hheld] at hslot
  exact Bool.noConfusion hslot

/-! What a write of a loop-back leaves. -/

theorem loopOf_setLoop (f i : Nat) (l : Loop) (s : State) : loopOf (setLoop f i l s) f i = l := tget_tset_same ..

theorem loopOf_congr {s t : State} (h : t.tst = s.tst) (f i : Nat) : loopOf t f i = loopOf s f i := by
  rw [loopOf, h]
  rfl

theorem bistOf_setBist (k : Nat) (b : Bist) (s : State) : bistOf (setBist k b s) k = b := tget_tset_same ..

theorem bistOf_congr {s t : State} (h : t.tst = s.tst) (k : Nat) : bistOf t k = bistOf s k := by
  rw [bistOf, h]
  rfl

theorem Within.tst_eq {ps : List Part} {s t : State} (h : Within ps s t) (hp : Part.tst ∉ ps) : t.tst = s.tst :=
  (h.keeps .tst hp).symm

/-- The PCIe link is down, and its fault source is set (R476). -/
theorem pcieDown_down (s : State) : (pcieDown s).kcp.linkUp = false ∧ bit ((pcieDown s).flt 7).status 2 = true := by
  unfold pcieDown
  extract_lets isRing
  generalize hu : ({ s with kcp := _ } : State) = u
  refine ⟨?_, (setCond_true_flt ..).1⟩
  rw [← show u.kcp = _ from (setCond_within 7 2 true u).keeps .kcp (by decide), ← hu]

theorem edgeGen_of_depth {s : State} {i : Nat} (hi : i < 8) (hd : (loopOf s 6 i).depth ≠ 0) : edgeGen s i = true := by
  rw [edgeGen, decide_eq_true hi, Bool.true_and]
  exact decide_eq_true hd

/-- A slot whose edge generator runs is held (R564). -/
theorem holdSlot_held {s : State} {i : Nat} (h : edgeGen s i = true) : ((holdSlot i s).slot i).st.held = true := by
  unfold holdSlot
  simp only [h, Bool.or_true]
  split
  next hv => exact hv.symm
  next => rw [setSlot_slot_same]

/-! LOOPBACK_SET (R559, R571). -/

/-- The loop-back that a request sets. -/
def requestedLoop (p : List Byte) (now : Nat) : Loop where
  depth := rd p 1 1
  endsAt := now + rd p 4 4 * 1000000000
  lastUnit := now
  offset := if rd p 0 1 = 5 ∨ rd p 0 1 = 6 then rdI p 8 8 else 0
  prns := if rd p 0 1 = 5 then (List.range 8).map (fun i => rd p (16 + i) 1) else []
  cn0s := if rd p 0 1 = 5 then (List.range 8).map (fun i => rd p (24 + i) 1) else []

/-- An interface whose records have no OFFSET, no PRN and no CN0. -/
theorem requestedLoop_plain {p : List Byte} (h5 : rd p 0 1 ≠ 5) (h6 : rd p 0 1 ≠ 6) (now : Nat) :
    requestedLoop p now = { depth := rd p 1 1, endsAt := now + rd p 4 4 * 1000000000, lastUnit := now } := by
  simp only [requestedLoop, h5, h6, or_self, if_false]

/-- What follows a loop-back that is set, by its interface (R559, R564). -/
def loopSettled (f i : Nat) (t : State) : State :=
  if f = 6 then holdSlot i t else if f = 5 then dropLost t else if f = 3 then pcieDown t else t

theorem loopSettled_tst (f i : Nat) (t : State) : (loopSettled f i t).tst = t.tst := by
  unfold loopSettled
  split
  · exact (holdSlot_within i t).tst_eq (by decide)
  · split
    · exact (dropLost_within t).tst_eq (by decide)
    · split
      · exact (pcieDown_within t).tst_eq (by decide)
      · rfl

/-- The limits that R571 sets on a request, for its interface `f`, depth `d` and unit `i`. -/
structure LoopRequest (p : List Byte) (f d i : Nat) : Prop where
  length : p.length = 32
  iface : rd p 0 1 = f
  depth : rd p 1 1 = d
  inst : rd p 2 2 = i
  known : 1 ≤ f ∧ f ≤ 7
  deep : 1 ≤ d ∧ d ≤ depths f
  exists_ : i < instances f
  lasts : 1 ≤ rd p 4 4 ∧ rd p 4 4 ≤ 3600
  offset : f = 6 → -32768000000000 ≤ rdI p 8 8 ∧ rdI p 8 8 ≤ 32768000000000
  simulated : f = 5 → ∀ i ∈ List.range 8, rd p (16 + i) 1 ≤ 32 ∧
    (rd p (16 + i) 1 ≠ 0 → 20 ≤ rd p (24 + i) 1 ∧ rd p (24 + i) 1 ≤ 55)

/-- A host ring asks. -/
def fromRing (c : Cmd) : Bool := match c.req.src with | .ring _ => true | _ => false

/-- What the request's interface asks of the state (R559, R563). -/
def LoopGranted (p : List Byte) (f d i : Nat) (c : Cmd) (s : State) : Prop :=
  loopAllowed f d i (fromRing c) s = true ∧ (f = 5 → adoptedAll s ((List.range 8).map fun i => rd p (16 + i) 1) = true)

theorem getD_map_range {f : Nat → Nat} {n i : Nat} (h : i < n) : ((List.range n).map f).getD i 0 = f i := by
  simp [List.getD, h]

theorem bodyLoopbackSet_sets {c : Cmd} {s : State} {p : List Byte} {f d i : Nat} (hc : c.req.payload = p)
    (hp : LoopRequest p f d i) (hfree : (loopOf s f i).depth = 0) (hg : LoopGranted p f d i c s) :
    bodyLoopbackSet c s = ok (loopSettled f i (setLoop f i (requestedLoop p s.now) s)) [] := by
  obtain ⟨hallow, hadopt⟩ := hg
  obtain ⟨hk1, hk7⟩ := hp.known
  obtain ⟨hd1, hdf⟩ := hp.deep
  obtain ⟨ht1, ht2⟩ := hp.lasts
  have hoff : (f != 6 || (decide (-32768000000000 ≤ rdI p 8 8) && decide (rdI p 8 8 ≤ 32768000000000))) = true := by
    by_cases h6 : f = 6
    · obtain ⟨hlo, hhi⟩ := hp.offset h6
      simp [hlo, hhi]
    · simp [h6]
  have hprns : (f == 5 && !adoptedAll s ((List.range 8).map fun i => rd p (16 + i) 1)) = false := by
    by_cases h5 : f = 5
    · simp [hadopt h5]
    · simp [h5]
  simp only [bodyLoopbackSet, hc, hp.iface, hp.depth, hp.inst, hfree]
  refine (if_neg (not_not.mpr hp.length)).trans ((checked_of_all ?_ _ _).trans ((if_neg (by decide)).trans ((if_neg ?_).trans ?_)))
  · refine List.forall_mem_append.mpr ⟨?_, ?_⟩
    · simp [hk1, hk7, hd1, hdf, hp.exists_, ht1, ht2]
      simpa using hoff
    · split
      next h5 =>
        have hsim := hp.simulated h5
        refine List.forall_mem_append.mpr ⟨?_, ?_⟩
        · intro x hx
          obtain ⟨j, hj, rfl⟩ := List.mem_map.mp hx
          simp only [getD_map_range (List.mem_range.mp hj)]
          exact decide_eq_true (hsim j hj).1
        · intro x hx
          obtain ⟨j, hj, rfl⟩ := List.mem_map.mp hx
          simp only [getD_map_range (List.mem_range.mp hj), Bool.or_eq_true, beq_iff_eq, Bool.and_eq_true, decide_eq_true_eq]
          exact or_iff_not_imp_left.mpr (hsim j hj).2
      next => exact List.forall_mem_nil _
  · have hno : (!loopAllowed f d i (fromRing c) s || (f == 5 && !adoptedAll s ((List.range 8).map fun i => rd p (16 + i) 1))) = false := by
      rw [hallow, hprns]
      rfl
    exact fun hyes => Bool.noConfusion (hno.symm.trans hyes)
  · simp only [requestedLoop, loopSettled, hp.iface, hp.depth]

theorem loopSettled_within {f : Nat} (hf : f ≠ 3) (i : Nat) (t : State) : Within [.bus, .ref, .regs] t (loopSettled f i t) := by
  unfold loopSettled
  split
  · exact (holdSlot_within i t).mono (by decide)
  · split
    · exact (dropLost_within t).mono (by decide)
    · exact Within.refl _ t

section
variable {rq : Request} {s : State} {f d i : Nat} (h : runs 0x1001 rq s = true) (hp : LoopRequest rq.payload f d i)
  (hfree : (loopOf s f i).depth = 0) (hg : LoopGranted rq.payload f d i (rowCmd 0x1001 rq s) (takeId s))
include h hp hfree hg

/-- LOOPBACK_SET answers OK and leaves the loop-back as it was requested. -/
theorem goes_loopbackSet {P : State → Prop} (hf : f ≠ 3)
    (hP : ∀ t : State, t.tst = (setLoop f i (requestedLoop rq.payload s.now) s).tst →
      t.ref = (loopSettled f i (setLoop f i (requestedLoop rq.payload s.now) (takeId s))).ref →
      Answered 0x1001 rq [] s t → P t) : Goes (exec (.loopbackSet rq) s) P := by
  have hbody := bodyLoopbackSet_sets (c := rowCmd 0x1001 rq s) (s := takeId s) rfl hp hfree hg
  have hset := setLoop_within f i (requestedLoop rq.payload s.now) (takeId s)
  refine goes_of_ok_within (ps := [.bus, .ref, .regs, .tst]) h hbody
    ((hset.mono (by decide)).trans ((loopSettled_within hf i _).mono (by decide))) (by decide) fun k hans => ?_
  exact hP _ (loopSettled_tst f i _) rfl hans

end

/-- An answer leaves all but the command processor, and there the link. -/
theorem conclude_ok_link (c : Cmd) (s u : State) (p : List Byte) :
    ∃ k, conclude c s (ok u p) = { u with kcp := k } ∧ k.linkUp = u.kcp.linkUp := by
  have hadd (g : Nat) (v : State) : ∃ k, addReply c stOK 0 g p v = { v with kcp := k } ∧ k.linkUp = v.kcp.linkUp := by
    unfold addReply
    split
    · exact ⟨v.kcp, rfl, rfl⟩
    · exact ⟨_, rfl, rfl⟩
  have hc : conclude c s (ok u p) = addReply c stOK 0 (commitG s u).kcp.g p (commitG s u) := by
    simp only [conclude, ok, Bool.false_eq_true, if_false, stOK, if_true, Option.getD_none]
  obtain ⟨k, hk, hlink⟩ := hadd (commitG s u).kcp.g (commitG s u)
  refine ⟨k, ?_, hlink.trans (commitG_kcp_linkUp s u)⟩
  rw [hc, hk, commitG_eq]

/-- The PCIe link is in loop-back and down, on the word of LOOPBACK_SET (R559). -/
theorem goes_loopbackSet_pcie {rq : Request} {s : State} (h : runs 0x1001 rq s = true) (hp : LoopRequest rq.payload 3 1 0)
    (hfree : (loopOf s 3 0).depth = 0) (hg : LoopGranted rq.payload 3 1 0 (rowCmd 0x1001 rq s) (takeId s)) :
    Goes (exec (.loopbackSet rq) s) (fun t => (loopOf t 3 0).depth = 1 ∧ t.kcp.linkUp = false ∧ bit (t.flt 7).status 2 = true) := by
  have hbody := bodyLoopbackSet_sets (c := rowCmd 0x1001 rq s) (s := takeId s) rfl hp hfree hg
  obtain ⟨hlink, hflt⟩ := pcieDown_down (setLoop 3 0 (requestedLoop rq.payload s.now) (takeId s))
  have htst := loopSettled_tst 3 0 (setLoop 3 0 (requestedLoop rq.payload s.now) (takeId s))
  have hdepth : (loopOf (setLoop 3 0 (requestedLoop rq.payload s.now) (takeId s)) 3 0).depth = 1 := by
    rw [loopOf_setLoop]
    exact hp.depth
  obtain ⟨k, hk, hkl⟩ := conclude_ok_link (rowCmd 0x1001 rq s) (takeId s)
    (loopSettled 3 0 (setLoop 3 0 (requestedLoop rq.payload s.now) (takeId s))) []
  refine ⟨_, (kcpRow_runs 0x1001 bodyLoopbackSet rq s h).trans (congrArg Host.Outcome.next
    ((congrArg (conclude (rowCmd 0x1001 rq s) (takeId s)) hbody).trans hk)), ?_⟩
  exact ⟨(congrArg Loop.depth (loopOf_congr htst 3 0)).trans hdepth, hkl.trans hlink, hflt⟩

/-! What the rest of this family leaves. -/

theorem rd_two (p : List Byte) (off : Nat) : rd p off 2 = rd p off 1 + 256 * rd p (off + 1) 1 := by
  rw [rd, rd, rd, ← List.drop_drop]
  match p.drop off with
  | [] => rfl
  | [a] => simp [leVal]
  | a :: b :: _ => simp [leVal]

/-- A test unit that returns damaged counts as sent and timed; what it adds to ERRORS is the interface's. -/
theorem loopbackTestUnit_bad {f i : Nat} {x : Interval} {s : State} (hself : selfTraffic f (loopOf s f i).depth = true)
    (hdue : (loopOf s f i).lastUnit + 10000 ≤ s.now) :
    loopbackTestUnit f i (some x) false s =
      setLoop f i { loopOf s f i with
          sent := satInc sat32 (loopOf s f i).sent, lastUnit := s.now
          n := (loopOf s f i).n + 1, sum := (loopOf s f i).sum + x, sumSq := (loopOf s f i).sumSq + x.natAbs * x.natAbs
          errors := min sat32 ((loopOf s f i).errors + (unitErrors f (loopOf s f i).depth s).1) }
        (unitErrors f (loopOf s f i).depth s).2 :=
  (if_neg (by simp [hself]; omega)).trans (if_neg Bool.false_ne_true)

theorem loopbackTestUnit_lost {f i : Nat} {g : Bool} {s : State} (hself : selfTraffic f (loopOf s f i).depth = true)
    (hdue : (loopOf s f i).lastUnit + 10000 ≤ s.now) :
    loopbackTestUnit f i none g s =
      setLoop f i { loopOf s f i with sent := satInc sat32 (loopOf s f i).sent, lastUnit := s.now } s :=
  if_neg (by simp [hself]; omega)

theorem drawBelow_leaves (n : Nat) (s : State) : (drawBelow n s).2 = { s with free := s.free + 1 } := rfl

theorem wakeCluster_tst (c : Nat) (s : State) : (wakeCluster c s).tst = s.tst := (wakeCluster_within c s).tst_eq (by decide)

theorem bistAfter_tst (k i e : Nat) (s : State) : (bistAfter k i e s).tst = s.tst := (bistAfter_within k i e s).tst_eq (by decide)

theorem bistEnd_ends {k e : Nat} {s : State} (h1 : (bistOf s k).state = 1) (h2 : (bistOf s k).startAt + bistLeast k ≤ s.now) :
    bistEnd k e s = bistAfter k (bistOf s k).instance_ e (setBist k { bistOf s k with
      state := if e = 0 then 2 else 3, errors := min 65535 e, elapsed := min sat32 ((s.now - (bistOf s k).startAt) / 1000000) } s) :=
  if_neg (by omega)

/-- After the start-up tests of the random source, RNG_FAULT tells whether they failed (R349). -/
theorem bistAfter_rngFault (i e : Nat) (s : State) : (bistAfter 3 i e s).key.rngFault = decide (e ≠ 0) := by
  have hcond (v : Bool) (u : State) : (setCond 3 2 v u).key = u.key := ((setCond_within 3 2 v u).keeps .key (by decide)).symm
  simp only [bistAfter]
  split
  next he => rw [rngHealthFail, hcond, decide_eq_true he]
  next he =>
    rw [decide_eq_false he]
    split
    · rw [rngRecover, hcond]
    next hr => exact Bool.eq_false_of_not_eq_true hr

/-- Settles O56: each interface's loop-back by `goes_loopbackSet`; a test unit's counts by its own branch; what is not due does nothing. -/
theorem testForms : Obligations.TestForms := by
  unfold Obligations.TestForms
  refine ⟨?_, ?_, ?_, ?_, ?_, ?_, ?_, ?_, ?_, ?_, ?_, ?_, ?_, ?_, ?_, ?_⟩
  · intro rq i d s h hl hf hd hi hd1 hd3 hi' ht1 ht2 hfree hcase
    have hp : LoopRequest rq.payload 2 d i :=
      ⟨hl, hf, hd.symm, hi.symm, by decide, ⟨hd1, hd3⟩, hi', ⟨ht1, ht2⟩, nofun, nofun⟩
    refine goes_loopbackSet h hp hfree ⟨Bool.or_eq_true_iff.mpr (hcase.imp (decide_eq_true ·) (decide_eq_true ·)), nofun⟩
      (by decide) fun t ht _ hans => ⟨?_, hans⟩
    rw [loopOf_congr ht, loopOf_setLoop, requestedLoop_plain (by omega) (by omega), ← hd]
  · intro rq s h hl hf hi ht1 ht2 hfree hside
    have hlow : rd rq.payload 0 1 < 256 := rd_lt _ 0 1
    have hpair : rd rq.payload 0 2 = rd rq.payload 0 1 + 256 * rd rq.payload 1 1 := rd_two _ 0
    have hp : LoopRequest rq.payload 3 1 0 :=
      ⟨hl, by omega, by omega, hi, by decide, by decide, by decide, ⟨ht1, ht2⟩, nofun, nofun⟩
    refine goes_loopbackSet_pcie h hp hfree ⟨?_, nofun⟩
    have hhost : fromRing (rowCmd 0x1001 rq s) = false := by
      rw [fromRing, show (rowCmd 0x1001 rq s).req.src = rq.src from rfl]
      cases hsrc : rq.src <;> simp_all [onSideband]
    rw [hhost]
    rfl
  · intro rq d s h hl hf hd hd1 hd2 hi ht1 ht2 hfree hstore
    have hp : LoopRequest rq.payload 4 d 0 :=
      ⟨hl, hf, hd.symm, hi, by decide, ⟨hd1, hd2⟩, by decide, ⟨ht1, ht2⟩, nofun, nofun⟩
    refine goes_loopbackSet h hp hfree ⟨decide_eq_true hstore, nofun⟩ (by decide) fun t ht _ hans => ⟨?_, hans⟩
    rw [loopOf_congr ht, loopOf_setLoop, requestedLoop_plain (by omega) (by omega), ← hd]
  · intro rq i s h hl hf hi hi8 ht1 ht2 ho1 ho2 hfree hsel
    have hlow : rd rq.payload 0 1 < 256 := rd_lt _ 0 1
    have hpair : rd rq.payload 0 2 = rd rq.payload 0 1 + 256 * rd rq.payload 1 1 := rd_two _ 0
    have hface : rd rq.payload 0 1 = 6 := by omega
    have hdepth : rd rq.payload 1 1 = 1 := by omega
    have hp : LoopRequest rq.payload 6 1 i :=
      ⟨hl, hface, hdepth, hi.symm, by decide, by decide, hi8, ⟨ht1, ht2⟩, fun _ => ⟨ho1, ho2⟩, nofun⟩
    have hrec : requestedLoop rq.payload s.now =
        { depth := 1, endsAt := s.now + rd rq.payload 4 4 * 1000000000, lastUnit := s.now, offset := rdI rq.payload 8 8 } := by
      simp [requestedLoop, hface, hdepth]
    refine goes_loopbackSet h hp hfree ⟨decide_eq_true hsel, nofun⟩ (by decide) fun t ht href hans => ⟨?_, ?_, hans⟩
    · rw [loopOf_congr ht, loopOf_setLoop, hrec]
    · rw [State.slot, href]
      refine holdSlot_held (edgeGen_of_depth hi8 ?_)
      rw [loopOf_setLoop, hrec]
      exact Nat.one_ne_zero
  · intro rq s h hl hf hi ht1 ht2 hsim hfree hsel hmode
    have hlow : rd rq.payload 0 1 < 256 := rd_lt _ 0 1
    have hpair : rd rq.payload 0 2 = rd rq.payload 0 1 + 256 * rd rq.payload 1 1 := rd_two _ 0
    have hface : rd rq.payload 0 1 = 5 := by omega
    have hdepth : rd rq.payload 1 1 = 1 := by omega
    have hp : LoopRequest rq.payload 5 1 0 :=
      ⟨hl, hface, hdepth, hi, by decide, by decide, by decide, ⟨ht1, ht2⟩, nofun, fun _ j hj =>
        ⟨(hsim j hj).1, fun hne => ⟨((hsim j hj).2 hne).1, ((hsim j hj).2 hne).2.1⟩⟩⟩
    have hadopt : adoptedAll (takeId s) ((List.range 8).map fun i => rd rq.payload (16 + i) 1) = true := by
      refine List.all_eq_true.mpr fun n hn => ?_
      obtain ⟨j, hj, rfl⟩ := List.mem_map.mp hn
      simp only [Bool.or_eq_true, decide_eq_true_eq]
      exact or_iff_not_imp_left.mpr fun hne => ((hsim j hj).2 hne).2.2
    refine goes_loopbackSet h hp hfree ⟨?_, fun _ => hadopt⟩ (by decide) fun t ht _ hans => ?_
    · exact Bool.and_eq_true_iff.mpr ⟨decide_eq_true hsel, decide_eq_true hmode⟩
    · rw [loopOf_congr ht, loopOf_setLoop]
      refine ⟨hdepth, ?_, rfl, ?_, ?_, hans⟩ <;> simp [requestedLoop, hface]
  · intro rq d s h hl hf hd hd1 hd2 hi ht1 ht2 hfree hoff
    have hp : LoopRequest rq.payload 7 d 0 :=
      ⟨hl, hf, hd.symm, hi, by decide, ⟨hd1, hd2⟩, by decide, ⟨ht1, ht2⟩, nofun, nofun⟩
    refine goes_loopbackSet h hp hfree ⟨(congrArg (!·) hoff :), nofun⟩ (by decide)
      fun t ht _ hans => ⟨?_, hans⟩
    rw [loopOf_congr ht, loopOf_setLoop, requestedLoop_plain (by omega) (by omega), ← hd]
  · intro rq f i s h hl hf hi h1 h7 hkeep hinst hd
    refine kcpRow_reads 0x1002 bodyLoopbackClear rq s _ h ?_
    simp only [bodyLoopbackClear, rowCmd, ← hf, ← hi, hkeep]
    exact (if_neg (not_not.mpr hl)).trans ((checked_of_all (by simp [h1, h7, hinst]) _ _).trans (if_neg hd))
  · intro f i s hidle
    exact congrArg (fun t => Host.Outcome.next (commitG s t)) (if_neg (by omega))
  · rintro f i x l s rfl hself hface hdue herr
    refine goes_done fun k => ?_
    have hone : unitErrors f (loopOf s f i).depth s = (1, s) := if_neg (by omega)
    rw [loopbackTestUnit_bad hself hdue, hone]
    refine (loopOf_setLoop ..).trans ?_
    rw [Nat.min_eq_right (by omega)]
  · rintro i x l s rfl hd hdue
    refine goes_done fun k => ?_
    have hdraw : unitErrors 1 (loopOf s 1 i).depth s = ((drawBelow 1024 s).1 + 1, (drawBelow 1024 s).2) := if_pos ⟨rfl, hd⟩
    rw [loopbackTestUnit_bad (by rw [hd]; decide) hdue, hdraw]
    have hloop (l : Loop) (u : State) : loopOf { setLoop 1 i l u with kcp := k } 1 i = l := loopOf_setLoop ..
    rw [hloop]
    exact ⟨rfl, rfl, rfl, rfl⟩
  · rintro f i g l s rfl hself hdue
    refine goes_done fun k => ?_
    rw [loopbackTestUnit_lost hself hdue]
    exact loopOf_setLoop ..
  · intro s hd
    exact congrArg (fun t => Host.Outcome.next (commitG s t)) (if_pos hd)
  · rintro k e b s hk rfl hst hdue
    have hk5 : (decide (1 ≤ k) && decide (k ≤ 5)) = true := by
      rcases List.mem_pair.mp hk with rfl | rfl <;> rfl
    refine goes_unit hk5 fun l => ⟨?_, ?_⟩
    · rw [bistEnd_ends hst hdue]
      exact (bistOf_congr (bistAfter_tst ..) k).trans (bistOf_setBist ..)
    · rintro rfl
      rw [bistEnd_ends hst hdue]
      exact bistAfter_rngFault ..
  · intro k e s h1 h5 hidle
    have hk5 : (decide (1 ≤ k) && decide (k ≤ 5)) = true := by simp [h1, h5]
    have hno : bistEnd k e s = s := if_pos hidle
    change guardUnit _ s (done s (bistEnd k e s)) = _
    rw [hk5, hno]
    rfl
  · intro s hidle
    refine congrArg (fun t => Host.Outcome.next (commitG s t)) (if_neg ?_)
    rcases hidle with hno | hno <;> simp [hno]
  · intro s hlater
    have hno : unlockExpiry s = s := by
      unfold unlockExpiry
      split
      next e he => exact if_neg (Nat.not_le.mpr (hlater e (by rw [he]; exact List.mem_cons_self)))
      next => rfl
    exact congrArg (fun t => Host.Outcome.next (commitG s t)) hno

end Sys2Proof.Machine
end

section
/-! SUPPORT. Further forms of the time base and of interval measurement (R56, R59, R60, R66, R68, R69). -/

namespace Sys2Proof.Machine
open Sys2Proof

/-- A window against the same source as the last one measures the change of OSC0 (R56). -/
theorem warmupWindowEnd_compared {source : Nat} {freq : Freq} {s : State} (hr : s.tim.tb.running = true)
    (ho : s.tim.tb.oscLoss = false) (hw : s.tim.tb.windowStart + 10000000000 ≤ s.now) (hc : comparisonSource s = source)
    (h0 : source ≠ 0) (hp : s.tim.tb.prevSource = source) :
    let run := if (freq - s.tim.tb.prevFreq).natAbs ≤ s.tim.judging.driftLimit.toNat then satInc sat16 s.tim.tb.run else 0
    let met := decide (s.tim.judging.windowCount ≤ run)
    (warmupWindowEnd source freq s).tim.tb = { s.tim.tb with
      windowStart := s.now, source := source, prevSource := source, prevFreq := freq
      run := run, holdTimer := false, freq := freq, lastChange := freq - s.tim.tb.prevFreq, driftMet := met
      warmup := s.tim.tb.warmup && !(met && s.tim.tb.ovenHigh) } := by
  have hgo : (!s.tim.tb.running || s.tim.tb.oscLoss || decide (s.now < s.tim.tb.windowStart + 10000000000) ||
      decide (source ≠ comparisonSource s)) = false := by
    simp [hr, ho, hw, hc]
  simp only [warmupWindowEnd, hgo, h0, hp, Bool.false_eq_true, if_false, if_true, State.setTb, ge_iff_le]

/-- An edge at a free interpolator begins its conversion (R59). -/
theorem measuredEdge_starts {n edge : Nat} {s : State} (hr : s.tim.tb.running = true) (hc : (s.interp n).converting = none)
    (hf : (s.interp n).freeAt ≤ edge) :
    (measuredEdge false n edge none s).interp n = { s.interp n with
      converting := some (stopTick edge), convTable := (s.interp n).table, convStart := (s.interp n).tableStart } := by
  have hfree : ¬ (hitRuns s n edge none || (s.interp n).converting.isSome || decide (edge < (s.interp n).freeAt)) = true := by
    simp [hitRuns, hc, hf]
  have hgo : measuredEdge false n edge none s = genEdge n edge none s :=
    (if_neg (by simp [hr])).trans (if_neg Bool.false_ne_true)
  rw [hgo, genEdge, if_neg hfree, setInterp_interp_same]

/-- An edge during a conversion is missed (R60). -/
theorem measuredEdge_misses {n edge tk : Nat} {hit : Option Nat} {s : State} (hr : s.tim.tb.running = true)
    (hc : (s.interp n).converting = some tk) :
    let x := (measuredEdge false n edge hit s).interp n
    x.missed = satInc sat32 (s.interp n).missed ∧ x.missedPending = true := by
  have hbusy : (hitRuns s n edge hit || (s.interp n).converting.isSome || decide (edge < (s.interp n).freeAt)) = true := by
    simp [hc]
  have hgo : measuredEdge false n edge hit s = genEdge n edge hit s :=
    (if_neg (by simp [hr])).trans (if_neg Bool.false_ne_true)
  rw [hgo, genEdge, if_pos hbusy, setInterp_interp_same]
  exact ⟨rfl, rfl⟩

/-- The end of a general conversion with a coincidence and a table (R66, R69). -/
theorem conversionEnd_interp {n c e tk : Nat} {h : List Nat} {s : State} (hc : (s.interp n).converting = some tk)
    (ht : (s.interp n).convTable = some h) (h128 : c < 128) :
    (conversionEnd false n (some c) e s).interp n = { s.interp n with
      converting := none, convTable := none, freeAt := e + 40000, missedPending := false
      last := some ⟨tk, (midpoint h c : Nat), s.tim.tb.warmup, false, olderTable s (s.interp n).convStart,
        (s.interp n).calFault, (s.interp n).missedPending⟩ } := by
  simp [conversionEnd, hc, h128, genEnd, ht]

theorem interpFaultPort_interp (k n : Nat) (s : State) : (interpFaultPort k s).interp n = s.interp n :=
  (interpFaultPort_within k s).interp_eq (by decide) n

/-- A refresh that is rejected counts; the fourth in a row is a calibration fault (R68, R69). -/
theorem refreshComplete_rejects {n : Nat} {h : List Nat} {s : State} (hr : (s.interp n).running = true)
    (hno : refreshOk (s.interp n) h = false) :
    (refreshComplete n h s).interp n = { s.interp n with
      running := false, hits := 2 ^ 18, rejects := satInc sat16 (s.interp n).rejects, rejectRun := (s.interp n).rejectRun + 1
      calFault := (s.interp n).calFault || decide (4 ≤ (s.interp n).rejectRun + 1) } := by
  simp only [refreshComplete, hr, hno, Bool.not_true, Bool.false_eq_true, if_false]
  split
  · rw [interpFaultPort_interp, (setSticky_within _ _ _).interp_eq (by decide), setInterp_interp_same]
  · rw [setInterp_interp_same]

/-- Settles O43: the read by its body; each event by what it leaves of the time base or of its interpolator. -/
theorem timeBaseAndIntervalForms : Obligations.TimeBaseAndIntervalForms := by
  unfold Obligations.TimeBaseAndIntervalForms
  refine ⟨?_, ?_, ?_, ?_, ?_, ?_⟩
  · exact fun rq s h hp => kcpRow_reads 0x0102 bodyTimConfig rq s _ h (if_pos hp)
  · intro source freq s hr ho hw hc h0 hp
    have h := warmupWindowEnd_compared (freq := freq) hr ho hw hc h0 hp
    refine goes_done fun k => ?_
    dsimp only at h ⊢
    rw [h]
    exact ⟨rfl, rfl, rfl, rfl, rfl⟩
  · intro n edge s hn hr hc hf
    have h := measuredEdge_starts hr hc hf
    exact goes_unit (decide_eq_true hn) fun k => ⟨(congrArg GenInterp.converting h :), (congrArg GenInterp.convTable h :)⟩
  · intro n edge hit s tk hn hr hc
    exact goes_unit (decide_eq_true hn) fun k => measuredEdge_misses hr hc
  · intro n c e s tk h hn hc ht h128
    have hi := conversionEnd_interp (e := e) hc ht h128
    exact goes_unit (decide_eq_true hn) fun k => ⟨(congrArg GenInterp.converting hi :), (congrArg GenInterp.freeAt hi :),
      (congrArg GenInterp.last hi :)⟩
  · intro n h s hn hr hno
    have hi := refreshComplete_rejects hr hno
    exact goes_unit (decide_eq_true hn) fun k => ⟨(congrArg GenInterp.running hi :), (congrArg GenInterp.rejects hi :),
      (congrArg GenInterp.calFault hi :)⟩

end Sys2Proof.Machine
end

section
/-! SUPPORT. A multipath fit whose outcome differs from the channel's last one shows in GNSS_CHANNELS, so the generations rise (R88,
R102, R486). -/

namespace Sys2Proof.Machine
open Sys2Proof

/-- A tracking channel 0 whose last fit was kept, or was not, while fits are available. -/
def fittedChannel (kept : Bool) : State :=
  { State.reset with gnss := { State.reset.gnss with
      cfg := { State.reset.gnss.cfg with mpMode := 1, sampleRate := 32736000 }
      chans := [(0, { state := .track, mpActive := kept })] } }

/-- What it correlates over a span that brought no sample. -/
def emptySpanOutputs : Correlation :=
  channelOutputs (fittedChannel false).gnss.cfg ((fittedChannel false).gch 0) (captureSpan (fittedChannel false).gnss.cfg.format [] [])

/-- The fit to them. -/
def emptySpanFit : PathFit := pathFit (fittedChannel false).gnss.cfg emptySpanOutputs

/-- Whether the last fit was kept is no part of what a channel correlates. -/
theorem channelOutputs_fittedChannel (kept : Bool) :
    channelOutputs (fittedChannel kept).gnss.cfg ((fittedChannel kept).gch 0) (captureSpan (fittedChannel kept).gnss.cfg.format [] []) =
      emptySpanOutputs := rfl

/-- No generation rises: what every group shows is as before. -/
theorem same02_of_commitG_self {a b : State} (h : commitG a b = b) : same02 a b = true := by
  have hg : (genKcp a b).g = b.kcp.g := congrArg (fun s : State => s.kcp.g) h
  unfold genKcp at hg
  split at hg
  next hnone =>
    have hmetro : metroChanged a b = false := by
      by_contra hm
      rw [changedGroups, if_pos (Bool.eq_true_of_not_eq_false hm)] at hnone
      simp at hnone
    simp only [metroChanged, Bool.or_eq_false_iff, Bool.not_eq_false'] at hmetro
    exact hmetro.1.1.1.1.2
  next => exact absurd hg (Nat.succ_ne_self _)

theorem setGch_chans_of_one {s : State} {x z : GnssChan} (hs : s.gnss.chans = [(0, x)]) (hz : z.state = .track) :
    (s.setGch 0 z).gnss.chans = [(0, z)] := by
  have hne : z ≠ {} := fun h => by rw [h] at hz; exact nomatch hz
  rw [State.setGch, hs, tset, if_neg hne]
  rfl

/-- The channel after a fit, which was kept where its residual allows. -/
theorem steerChannel_chans (r : Correlation) (f : PathFit) (kept : Bool) :
    ∃ x : GnssChan, (steerChannel 0 r (some f) (fittedChannel kept)).gnss.chans = [(0, x)] ∧ x.mpActive = fitOk r f ∧
      x.excluded = false := by
  unfold steerChannel
  cases hf : fitOk r f with
  | true =>
    simp only [Option.filter_some, hf, if_true]
    exact ⟨_, setGch_chans_of_one rfl rfl, rfl, rfl⟩
  | false =>
    simp only [Option.filter_some, hf, Bool.false_eq_true, if_false]
    exact ⟨_, setGch_chans_of_one rfl rfl, rfl, rfl⟩

/-- Where the generations do not rise, the channel's flag is as before. -/
theorem kept_of_commitG_self {r : Correlation} {f : PathFit} {kept : Bool}
    (h : commitG (fittedChannel kept) (steerChannel 0 r (some f) (fittedChannel kept)) = steerChannel 0 r (some f) (fittedChannel kept)) :
    kept = fitOk r f := by
  obtain ⟨x, hchans, hx, hex⟩ := steerChannel_chans r f kept
  have hview := same02_of_commitG_self h
  simp only [same02, sameOn, Bool.and_eq_true, decide_eq_true_eq] at hview
  have hflags := hview.2
  rw [hchans] at hflags
  simp only [fittedChannel, tview, List.map_cons, List.map_nil, hx, hex] at hflags
  revert hflags
  cases kept <;> cases fitOk r f <;> decide

/-- A running channel correlates and, where fits are available, fits. -/
theorem multipathFit_fits {i : Nat} {w : IfSpan} {s : State} (hclk : s.gnss.clkFault = false) (hrun : loopsRun (s.gch i).state = true)
    (hmp : mpAvailable s.gnss.cfg = true) :
    multipathFit i w s = steerChannel i (channelOutputs s.gnss.cfg (s.gch i) (captureSpan s.gnss.cfg.format w.rise w.fall))
      (some (pathFit s.gnss.cfg (channelOutputs s.gnss.cfg (s.gch i) (captureSpan s.gnss.cfg.format w.rise w.fall)))) s := by
  rw [multipathFit]
  dsimp only
  rw [if_neg (by simp [hclk, hrun]), if_pos hmp]

/-- Refutes O44: its clause on MULTIPATH_FIT leaves the generations, but MP_ACTIVE is shown by GNSS_CHANNELS (R102), so they rise
where a fit turns it over (R486). -/
theorem not_gnssAndReferenceForms : ¬ Obligations.GnssAndReferenceForms := by
  unfold Obligations.GnssAndReferenceForms
  rintro ⟨-, -, -, -, hfit, -⟩
  have hsame (kept : Bool) : kept = fitOk emptySpanOutputs emptySpanFit := by
    have h := hfit 0 ⟨[], []⟩ (fittedChannel kept) (by decide) rfl rfl rfl
    have hrun := multipathFit_fits (i := 0) (w := ⟨[], []⟩) (s := fittedChannel kept) rfl rfl rfl
    have hrow : exec (.multipathFit 0 ⟨[], []⟩) (fittedChannel kept) =
        .next (commitG (fittedChannel kept) (multipathFit 0 ⟨[], []⟩ (fittedChannel kept))) := rfl
    rw [hrow, hrun] at h
    simp only [channelOutputs_fittedChannel] at h
    exact kept_of_commitG_self (Host.Outcome.next.inj h)
  exact Bool.noConfusion ((hsame true).trans (hsame false).symm)

end Sys2Proof.Machine
end

section
/-! SUPPORT. Further forms of selection, steps and holdover: a force, a marker with its step, and the records of members and models
(R20, R139 to R158, R173, R179, R181). -/

namespace Sys2Proof.Machine
open Sys2Proof

/-! A force during measure (R145, R158). -/

theorem abortByForce_sel {s : State} {w : Switching} (h : s.sel.switching = some w) :
    (abortByForce s).sel = { s.sel with
      switching := none
      timeDone := match w.cmd with | some id => some (id, none) | none => s.sel.timeDone
      st := { s.sel.st with abortCount := satInc sat32 s.sel.st.abortCount } } := by
  rw [abortByForce, if_pos (by rw [h]; rfl), abortSwitch, h] <;> rfl

/-! A marker and its step (R20, R139, R144, R148, R433). -/

/-- What a marker may leave of selection as it was. -/
def markerView (x : Sel) : Option Nat × Option Freeze × List PendingStep × Bool × Nat × Option Nat :=
  (x.st.selected, x.freeze, x.steps, x.guardRun, x.guardEnd, x.uncertainEnd)

theorem selectAt_markerView (i : Nat) (p : PendingStep) (s : State) : markerView (selectAt i p s).sel =
    (some i, none, s.sel.steps, s.sel.guardRun, s.sel.guardEnd, s.sel.uncertainEnd) := by
  have hexit (u : State) : (holdoverExit 0 u).sel = u.sel := ((holdoverExit_within 0 u).keeps .sel (by decide)).symm
  unfold selectAt
  dsimp only
  split
  · rfl
  · exact congrArg markerView (hexit _)
  · rfl

theorem selectAt_stepTerms (i : Nat) (p : PendingStep) (s : State) : (selectAt i p s).bnd.stepTerms = s.bnd.stepTerms := by
  have hexit (u : State) : (holdoverExit 0 u).bnd = u.bnd := ((holdoverExit_within 0 u).keeps .bnd (by decide)).symm
  unfold selectAt
  dsimp only
  split
  · rfl
  · simp only [hexit]
    rfl
  · rfl

/-- What is stored of a slot moves with the step (R20). -/
theorem shiftAll_slot (d : Interval) (mirrored : Bool) (s : State) : ∀ i ∈ List.range numSlots,
    (shiftAll d mirrored s).slot i = shiftSlot s i d (!(mirrored && decide (i = 19))) := by
  intro i hi
  have hset : ((List.range numSlots).foldl (fun t i => t.setSlot i (shiftSlot s i d (!(mirrored && decide (i = 19))))) s).slot i =
      shiftSlot s i d (!(mirrored && decide (i = 19))) := by
    refine foldl_establishes (f := fun t i => t.setSlot i (shiftSlot s i d (!(mirrored && decide (i = 19)))))
      (P := fun t i => t.slot i = shiftSlot s i d (!(mirrored && decide (i = 19)))) (fun t b => setSlot_slot_same ..)
      (fun t b c hc => ?_) (List.range numSlots) s i hi
    by_cases hcb : c = b
    · rw [hcb, setSlot_slot_same]
    · rwa [setSlot_slot_other _ _ _ _ hcb]
  have huarts (u : State) : (shiftUarts d u).slot i = u.slot i :=
    foldl_keeps (f := fun t v => t.setUart v { t.uart v with
      waiting := (t.uart v).waiting.map (fun w => { w with stop := (ftAdd w.stop d).toNat }) })
      (fun u : State => u.slot i) (fun _ _ => rfl) [0, 1] u
  have hdup (u : State) : ((List.range 4).foldl (fun t i => t.setDup i { t.dup i with
      waiting := (t.dup i).waiting.map (fun w => (w.1, (ftAdd w.2.1 d).toNat, w.2.2 + d)) }) u).slot i = u.slot i :=
    foldl_keeps (f := fun t i => t.setDup i { t.dup i with
      waiting := (t.dup i).waiting.map (fun w => (w.1, (ftAdd w.2.1 d).toNat, w.2.2 + d)) })
      (fun u : State => u.slot i) (fun _ _ => rfl) (List.range 4) u
  exact (hdup _).trans ((huarts _).trans hset)

section ApplyStep
variable {p : PendingStep} {s : State} (ha : ftOk (ftAdd s.acc p.size) = true) (hm : ftOk (ftAdd p.effective p.size) = true)
include ha hm

theorem applyStep_stepTerms : (applyStep p s).bnd.stepTerms = s.bnd.stepTerms := by
  have hout (d : Interval) (e m : FieldTime) (u : State) : (outputStep d e m u).bnd = u.bnd :=
    ((outputStep_within d e m u).keeps .bnd (by decide)).symm
  have hshift := ((shiftAll_within p.size (decide (p.kind = .mirrored)) s).keeps .bnd (by decide))
  simp only [applyStep, ha, hm, Bool.not_true, Bool.or_false, Bool.false_eq_true, if_false, hout]
  exact congrArg Bnd.stepTerms hshift.symm

/-- A mirrored step moves slot 19's instants and leaves its phases (R433). -/
theorem applyStep_slot19 (hk : p.kind = .mirrored) : (applyStep p s).slot 19 = shiftSlot s 19 p.size false := by
  have hout (d : Interval) (e m : FieldTime) (u : State) : (outputStep d e m u).slot 19 = u.slot 19 :=
    (outputStep_within d e m u).slot_eq (by decide) 19
  simp only [applyStep, ha, hm, Bool.not_true, Bool.or_false, Bool.false_eq_true, if_false, hout]
  have h := shiftAll_slot p.size (decide (p.kind = .mirrored)) s 19 (by decide)
  have hflag : (!(decide (p.kind = .mirrored) && decide (19 = 19))) = false := by rw [hk]; rfl
  exact h.trans (congrArg (shiftSlot s 19 p.size) hflag)

end ApplyStep

/-- A switch's marker with a step. -/
theorem stepEffective_switch {s : State} {p : PendingStep} {rest : List PendingStep} {i : Nat} (hs : s.sel.steps = p :: rest)
    (he : p.effective ≤ s.acc) (hk : p.kind = .switch i) :
    stepEffective s = noteSwitched (settleStep i p.size p.bStep (selectAt i p (startGuard (atMarker
      (if p.size = 0 then { s with sel := { s.sel with steps := rest } }
        else applyStep p { s with sel := { s.sel with steps := rest } }))))) := by
  simp only [stepEffective, hs, Nat.not_lt.mpr he, if_false, markerEffects, hk]

theorem stepEffective_mirrored {s : State} {p : PendingStep} {rest : List PendingStep} (hs : s.sel.steps = p :: rest)
    (he : p.effective ≤ s.acc) (hk : p.kind = .mirrored) (hz : p.size ≠ 0) :
    stepEffective s = settleStep 19 p.size p.bStep (atMarker (applyStep p { s with sel := { s.sel with steps := rest } })) := by
  simp only [stepEffective, hs, Nat.not_lt.mpr he, if_false, hz, markerEffects, hk]

theorem settleStep_now (i : Nat) (size : Interval) (b : Nat) (s : State) : (settleStep i size b s).now = s.now :=
  (settleStep_within i size b s).now_eq

/-- A step's settle (R149, R152). -/
theorem settleStep_steps {i : Nat} {size : Interval} {b : Nat} {s : State} (hz : size ≠ 0) :
    let t := settleStep i size b s
    t.sel.settling = true ∧ t.sel.uncertainEnd = some t.sel.settleEnd ∧
      t.bnd.stepTerms = s.bnd.stepTerms ++ [(b, t.sel.settleEnd)] ∧ t.sel.st = s.sel.st ∧ t.sel.steps = s.sel.steps ∧
      t.sel.guardRun = s.sel.guardRun ∧ t.sel.guardEnd = s.sel.guardEnd ∧ t.sel.freeze = s.sel.freeze := by
  rw [settleStep, if_neg hz]
  exact ⟨rfl, rfl, rfl, rfl, rfl, rfl, rfl, rfl⟩

theorem settleStep_zero (i b : Nat) (s : State) : settleStep i 0 b s = startSettle i s := rfl

theorem startGuard_sel (u : State) :
    (startGuard u).sel = { u.sel with guardRun := true, guardEnd := u.now + u.sel.policy.wtr * 1000000000 } := by
  rw [startGuard]

theorem startGuard_atMarker (u : State) :
    (startGuard (atMarker u)).sel.steps = u.sel.steps ∧ (startGuard (atMarker u)).sel.guardRun = true ∧
      (startGuard (atMarker u)).sel.guardEnd = u.now + u.sel.policy.wtr * 1000000000 ∧
      (startGuard (atMarker u)).sel.uncertainEnd = u.sel.uncertainEnd := by
  have hnow : (atMarker u).now = u.now := rfl
  have hpolicy : (atMarker u).sel.policy = u.sel.policy := rfl
  have hsteps : (atMarker u).sel.steps = u.sel.steps := rfl
  have hunc : (atMarker u).sel.uncertainEnd = u.sel.uncertainEnd := rfl
  simp only [startGuard_sel, hnow, hpolicy, hsteps, hunc, and_self]

/-- The state at a switch's marker, its step taken, with the guard started and the slot selected. -/
abbrev atSwitch (i : Nat) (p : PendingStep) (u : State) : State := selectAt i p (startGuard (atMarker u))

theorem atSwitch_leaves (i : Nat) (p : PendingStep) (u : State) :
    markerView (atSwitch i p u).sel =
        (some i, none, u.sel.steps, true, u.now + u.sel.policy.wtr * 1000000000, u.sel.uncertainEnd) ∧
      (atSwitch i p u).bnd.stepTerms = u.bnd.stepTerms ∧ (atSwitch i p u).acc = u.acc := by
  obtain ⟨hsteps, hrun, hend, hunc⟩ := startGuard_atMarker u
  refine ⟨?_, selectAt_stepTerms i p _, ((selectAt_within i p _).keeps .acc (by decide)).symm⟩
  rw [selectAt_markerView, hsteps, hrun, hend, hunc]

/-- A switch's marker with a step of non-zero size (R20, R139, R144, R149). -/
theorem stepEffective_switch_moved {s : State} {p : PendingStep} {rest : List PendingStep} {i : Nat} (hs : s.sel.steps = p :: rest)
    (he : p.effective ≤ s.acc) (hk : p.kind = .switch i) (hz : p.size ≠ 0) (ha : ftOk (ftAdd s.acc p.size) = true)
    (hm : ftOk (ftAdd p.effective p.size) = true) :
    let t := stepEffective s
    (t.acc : Int) = s.acc + p.size * 65536 ∧ t.sel.steps = rest ∧ t.sel.st.selected = some i ∧ t.sel.guardRun = true ∧
      t.sel.guardEnd = s.now + s.sel.policy.wtr * 1000000000 ∧ t.sel.uncertainEnd = some t.sel.settleEnd ∧
      t.sel.settling = true ∧ t.sel.freeze = none ∧ t.bnd.stepTerms = s.bnd.stepTerms ++ [(p.bStep, t.sel.settleEnd)] := by
  intro t
  have hacc := applyStep_acc (s := { s with sel := { s.sel with steps := rest } }) ha hm
  have hsel := applyStep_sel (s := { s with sel := { s.sel with steps := rest } }) ha hm
  have hterms := applyStep_stepTerms (s := { s with sel := { s.sel with steps := rest } }) ha hm
  have hnow := (applyStep_within p { s with sel := { s.sel with steps := rest } }).now_eq
  have ht : t = noteSwitched (settleStep i p.size p.bStep (atSwitch i p (applyStep p { s with sel := { s.sel with steps := rest } }))) := by
    rw [show t = stepEffective s from rfl, stepEffective_switch hs he hk, if_neg hz]
  clear_value t
  generalize applyStep p { s with sel := { s.sel with steps := rest } } = u at hacc hsel hterms hnow ht
  have husteps : u.sel.steps = rest := by rw [hsel]; rfl
  have huwtr : u.sel.policy = s.sel.policy := by rw [hsel]; rfl
  obtain ⟨hview, hat, hatacc⟩ := atSwitch_leaves i p u
  generalize atSwitch i p u = v at hview hat hatacc ht
  simp only [markerView, Prod.mk.injEq] at hview
  obtain ⟨hv1, hv2, hv3, hv4, hv5, -⟩ := hview
  obtain ⟨hset, hunc, hst, hsel', hsteps, hrun, hend, hfr⟩ := settleStep_steps (i := i) (b := p.bStep) (s := v) hz
  have hsacc : (settleStep i p.size p.bStep v).acc = v.acc := ((settleStep_within i p.size p.bStep v).keeps .acc (by decide)).symm
  subst ht
  generalize settleStep i p.size p.bStep v = w at hset hunc hst hsel' hsteps hrun hend hfr hsacc
  refine ⟨?_, hsteps.trans (hv3.trans husteps), (congrArg SelSt.selected hsel').trans hv1, hrun.trans hv4, ?_, hunc, hset,
    hfr.trans hv2, ?_⟩
  · have h : (noteSwitched w).acc = u.acc := hsacc.trans hatacc
    rw [h]
    exact hacc
  · rw [show (noteSwitched w).sel.guardEnd = w.sel.guardEnd from rfl, hend, hv5, hnow, huwtr]
  · rw [show (noteSwitched w).bnd.stepTerms = w.bnd.stepTerms from rfl, hst, hat, hterms]
    rfl

/-- A switch's marker without a step. -/
theorem stepEffective_switch_still {s : State} {p : PendingStep} {rest : List PendingStep} {i : Nat} (hs : s.sel.steps = p :: rest)
    (he : p.effective ≤ s.acc) (hk : p.kind = .switch i) (hz : p.size = 0) :
    let t := stepEffective s
    t.acc = s.acc ∧ t.sel.steps = rest ∧ t.sel.st.selected = some i ∧ t.sel.guardRun = true ∧
      t.sel.uncertainEnd = s.sel.uncertainEnd := by
  intro t
  have ht : t = noteSwitched (startSettle i (atSwitch i p { s with sel := { s.sel with steps := rest } })) := by
    rw [show t = stepEffective s from rfl, stepEffective_switch hs he hk, if_pos hz, hz, settleStep_zero]
  clear_value t
  obtain ⟨hview, -, hatacc⟩ := atSwitch_leaves i p { s with sel := { s.sel with steps := rest } }
  generalize atSwitch i p { s with sel := { s.sel with steps := rest } } = v at hview hatacc ht
  simp only [markerView, Prod.mk.injEq] at hview
  obtain ⟨hv1, -, hv3, hv4, -, hv6⟩ := hview
  subst ht
  simp only [noteSwitched, startSettle]
  exact ⟨hatacc, hv3, hv1, hv4, hv6⟩

/-- A mirrored step at its marker (R433). -/
theorem stepEffective_mirrored_moved {s : State} {p : PendingStep} {rest : List PendingStep} (hs : s.sel.steps = p :: rest)
    (he : p.effective ≤ s.acc) (hk : p.kind = .mirrored) (hz : p.size ≠ 0) (ha : ftOk (ftAdd s.acc p.size) = true)
    (hm : ftOk (ftAdd p.effective p.size) = true) :
    let t := stepEffective s
    (t.acc : Int) = s.acc + p.size * 65536 ∧ t.sel.steps = rest ∧ t.sel.settling = true ∧
      t.sel.uncertainEnd = some t.sel.settleEnd ∧ t.sel.st.selected = s.sel.st.selected ∧
      t.slot 19 = shiftSlot s 19 p.size false := by
  intro t
  have hacc := applyStep_acc (s := { s with sel := { s.sel with steps := rest } }) ha hm
  have hsel := applyStep_sel (s := { s with sel := { s.sel with steps := rest } }) ha hm
  have hslot := applyStep_slot19 (s := { s with sel := { s.sel with steps := rest } }) ha hm hk
  have ht : t = settleStep 19 p.size p.bStep (atMarker (applyStep p { s with sel := { s.sel with steps := rest } })) :=
    stepEffective_mirrored hs he hk hz
  clear_value t
  generalize applyStep p { s with sel := { s.sel with steps := rest } } = u at hacc hsel hslot ht
  have hw := settleStep_within 19 p.size p.bStep (atMarker u)
  obtain ⟨hset, hunc, -, hst, hsteps, -, -, -⟩ := settleStep_steps (i := 19) (b := p.bStep) (s := atMarker u) hz
  rw [← ht] at hw hset hunc hst hsteps
  have htacc : t.acc = u.acc := (hw.keeps .acc (by decide)).symm
  have htslot : t.slot 19 = u.slot 19 := hw.slot_eq (by decide) 19
  refine ⟨by rw [htacc]; exact hacc, ?_, hset, hunc, ?_, htslot.trans hslot⟩
  · rw [hsteps, show (atMarker u).sel.steps = u.sel.steps from rfl, hsel]
    rfl
  · rw [hst, show (atMarker u).sel.st = u.sel.st from rfl, hsel]
    rfl

/-! Members and models (R173, R179, R181). -/

/-- The member's record of a payload. -/
def oscParse (p : List Byte) : OscCfg :=
  ⟨some (bit (rd p 1 1) 0), some (rd p 2 1), rd p 3 1, some (rd p 4 1), rd p 5 1, rd p 6 1, rd p 8 2, rdI p 10 2, rdI p 12 2⟩

/-- A member with its written record, its sealed fields logged. -/
def oscWritten (i : Nat) (p : List Byte) (s : State) : State :=
  (sealedLog (sealedOf 0x0501 i oscSealed (oscRecord i (s.osci i).cfg) p) s).setOsci i { s.osci i with
    cfg := oscParse p
    sensor := if (oscParse p).tempSource = 2 then sensorAfresh (s.osci i).sensor else (s.osci i).sensor }

theorem oscWritten_within (i : Nat) (p : List Byte) (s : State) :
    Within [.bus, .osc, .log, .sealing, .regs] s (oscWritten i p s) :=
  Within.op (State.setOsci_within _ _ _) rfl (Within.op (sealedLog_within _ s) rfl (Within.refl _ _))

theorem writeOsc_writes {i : Nat} {p : List Byte} {s : State} (hw : windowOpen s = true) (hl : s.log.fault = false) :
    writeOsc i p s = ok (oscWritten i p s) p := by
  unfold writeOsc
  dsimp only
  rw [sealedWrite_of_status (sealedStatus_open hw hl _)]
  rfl

theorem oscWritten_osci (i : Nat) (p : List Byte) (s : State) :
    ((oscWritten i p s).osci i).cfg = oscParse p ∧
      (((oscWritten i p s).osci i).cfg.tempSource = 2 → ((oscWritten i p s).osci i).sensor.valid = false) := by
  rw [oscWritten, setOsci_osci_same]
  refine ⟨rfl, fun h => ?_⟩
  rw [if_pos h]
  rfl

/-- A model without OVERRIDE: the learned one is in force again. -/
def modelReleased (i : Nat) (p : List Byte) (s : State) : State :=
  (sealedLog [⟨0x0503, i, 0, [], modelRecord s i (modelParse p) 0⟩] s).setOsci i { s.osci i with
    inForce := { (s.osci i).learned with override := false }, written := [] }

theorem modelReleased_within (i : Nat) (p : List Byte) (s : State) :
    Within [.bus, .osc, .log, .sealing, .regs] s (modelReleased i p s) :=
  Within.op (State.setOsci_within _ _ _) rfl (Within.op (sealedLog_within _ s) rfl (Within.refl _ _))

theorem writeModel_released {i : Nat} {p : List Byte} {s : State} (ho : bit (rd p 1 1) 3 = false) (hw : windowOpen s = true)
    (hl : s.log.fault = false) : ∃ q, writeModel i p s = ok (modelReleased i p s) q := by
  have hov : (modelParse p).override = false := ho
  refine ⟨modelRecord (modelReleased i p s) i ((modelReleased i p s).osci i).inForce
    (fitAge (modelReleased i p s) (s.osci i).learned), ?_⟩
  unfold writeModel
  dsimp only
  rw [sealedWrite_of_status (sealedStatus_open hw hl _), hov, if_neg Bool.false_ne_true, if_neg Bool.false_ne_true]
  rfl

/-- A force on slot `i`, strict or not, of a state whose measurement it has ended (R158). -/
def forcedOn (i : Nat) (strict : Bool) (s : State) : State :=
  { abortByForce s with sel := { (abortByForce s).sel with st := { (abortByForce s).sel.st with forced := some i, strict := strict } } }

theorem bodySelForce_forces {rq : Request} {s : State} (hl : rq.payload.length = 4) (hi : rd rq.payload 0 1 < 20)
    (hf : rd rq.payload 1 1 ≤ 1) (hz : rd rq.payload 2 2 = 0) (hen : (s.slot (rd rq.payload 0 1)).cfg.enable = true)
    (h5 : (tget {} s.tst.loops (4096 * 5)).depth = 0) (h6 : (tget {} s.tst.loops (4096 * 6 + rd rq.payload 0 1)).depth = 0) :
    bodySelForce (rowCmd 0x0403 rq s) (takeId s) =
      ok (forcedOn (rd rq.payload 0 1) (bit (rd rq.payload 1 1) 0) (takeId s)) [] := by
  have hgo : (!bodySelForce.refCfgEnabled (takeId s) (rd rq.payload 0 1) ||
      bodySelForce.slotLooped (takeId s) (rd rq.payload 0 1)) = false := by
    have hen' : bodySelForce.refCfgEnabled (takeId s) (rd rq.payload 0 1) = true := hen
    have hloop : bodySelForce.slotLooped (takeId s) (rd rq.payload 0 1) = false := by
      have h5' : (tget {} (takeId s).tst.loops (4096 * 5)).depth = 0 := h5
      have h6' : (tget {} (takeId s).tst.loops (4096 * 6 + rd rq.payload 0 1)).depth = 0 := h6
      simp [bodySelForce.slotLooped, h5', h6']
    rw [hen', hloop]
    rfl
  refine (if_neg (not_not.mpr hl)).trans ((checked_of_all (by simp [rowCmd, zeroAt, hi, hf, hz]) _ _).trans (if_neg ?_))
  exact fun hno => Bool.noConfusion (hgo.symm.trans hno)

theorem bodyHoldoverModel_reads {c : Cmd} {s : State} {p : List Byte} (hc : c.req.payload = p) (hl : p.length = 2)
    (hi : rd p 0 1 < 4) (hm : rd p 1 1 ≤ 1) :
    let m := if rd p 1 1 = 0 then (s.osci (rd p 0 1)).inForce else (s.osci (rd p 0 1)).learned
    bodyHoldoverModel c s = ok s (modelRecord s (rd p 0 1) m (fitAge s m)) := by
  simp only [bodyHoldoverModel, hc]
  rw [if_pos hl, checked_of_all (by simp [hi, hm])]

theorem bodyHoldoverModel_writes {c : Cmd} {s : State} {p : List Byte} {i : Nat} (hc : c.req.payload = p) (hl : p.length = 72)
    (hi : i = rd p 0 1) (h4 : i < 4) (h32 : rd p 1 1 < 32) (hf : 0 ≤ rdI p 16 8) (ha : 0 ≤ rdI p 32 8) (ht : 0 ≤ rdI p 48 8)
    (hz : rd p 58 6 = 0) (he : rd p 64 8 ≤ ftSec s.acc) : bodyHoldoverModel c s = writeModel i p s := by
  simp only [bodyHoldoverModel, hc, ← hi]
  rw [if_neg (by omega), if_neg (by omega), checked_of_all (by simp [zeroAt, h4, h32, hf, ha, ht, hz, he])]

/-- Settles O45: the reads by their bodies; a marker by what its step and its settle leave; a written record by the member it writes. -/
theorem selectionAndHoldoverForms : Obligations.SelectionAndHoldoverForms := by
  unfold Obligations.SelectionAndHoldoverForms
  refine ⟨?_, ?_, ?_, ?_, ?_, ?_, ?_, ?_, ?_, ?_, ?_, ?_⟩
  · exact fun rq s h hp => kcpRow_reads 0x0401 bodySelPolicy rq s _ h (if_pos hp)
  · intro rq s w h hl hi hf hz hen h5 h6 hsw
    have hab : (abortByForce (takeId s)).sel = _ := abortByForce_sel hsw
    refine goes_of_ok_body bodySelForce_within (by decide) h (bodySelForce_forces hl hi hf hz hen h5 h6) fun k hans => ?_
    rw [forcedOn, hab]
    exact ⟨rfl, rfl, rfl, rfl, rfl, hans⟩
  · exact fun rq s h hp => kcpRow_reads 0x0405 bodyDpllConfig rq s _ h (if_pos hp)
  · intro s p rest i hs he hk hz ha hm
    obtain ⟨hacc, hsteps, hsel, hrun, hend, hunc, hset, hfr, hterms⟩ := stepEffective_switch_moved hs he hk hz ha hm
    exact goes_done fun k => ⟨hacc, hsteps, hsel, hrun, hend, hset, hunc, hfr, hterms⟩
  · intro s p rest i hs he hk hz
    exact goes_done fun k => stepEffective_switch_still hs he hk hz
  · intro s p rest hs he hk hz ha hm
    exact goes_done fun k => stepEffective_mirrored_moved hs he hk hz ha hm
  · intro rq s h hl hi
    refine kcpRow_reads 0x0501 bodyOscConfig rq s _ h ((if_pos hl).trans ((checked_of_all (by simp [rowCmd, hi]) _ _).trans ?_))
    have hne : rd rq.payload 0 1 ≠ 0xFF := by omega
    exact congrArg (ok (takeId s)) (if_neg hne)
  · intro rq s h hl hi
    refine kcpRow_reads 0x0501 bodyOscConfig rq s _ h ((if_pos hl).trans ((checked_of_all (by simp [rowCmd, hi]) _ _).trans ?_))
    exact congrArg (ok (takeId s)) (if_pos hi)
  · intro rq s i h hl hi h4 hen h0 hsrc hcls ha1 ha2 hfmt hz hu1 hu2 hr hz2 hw hlog
    have hl1 : (rowCmd 0x0501 rq s).req.payload.length ≠ 1 := by rw [rowCmd, hl]; decide
    have hff : rd (rowCmd 0x0501 rq s).req.payload 0 1 ≠ 0xFF := by rw [rowCmd, ← hi]; omega
    have hbody : bodyOscConfig (rowCmd 0x0501 rq s) (takeId s) = ok (oscWritten i rq.payload (takeId s)) rq.payload := by
      subst hi
      refine (if_neg hl1).trans ((if_neg (not_not.mpr hl)).trans ((if_neg hff).trans ((checked_of_all ?_ _ _).trans
        (writeOsc_writes hw hlog))))
      simp [zeroAt, rowCmd, h4, hen, h0, hsrc, hcls, ha1, ha2, hfmt, hz, hu1, hu2, hr, hz2]
    obtain ⟨hcfg, hsens⟩ := oscWritten_osci i rq.payload (takeId s)
    refine goes_of_ok_within h hbody (oscWritten_within _ _ _) (by decide) fun k hans => ?_
    rw [osci_kcp]
    exact ⟨hcfg, hsens, hans⟩
  · rintro rq s m h hl hi hm rfl
    exact kcpRow_reads 0x0503 bodyHoldoverModel rq s _ h (bodyHoldoverModel_reads rfl hl hi hm)
  · intro rq s i h hl hi h4 h32 ho hf ha ht hz he hw hlog
    obtain ⟨q, hq⟩ := writeModel_released (i := i) (s := takeId s) ho hw hlog
    have hbody := (bodyHoldoverModel_writes (c := rowCmd 0x0503 rq s) (s := takeId s) rfl hl hi h4 h32 hf ha ht hz he).trans hq
    refine goes_of_ok_within h hbody (modelReleased_within _ _ _) (by decide) fun k hans => ?_
    have hx : (modelReleased i rq.payload (takeId s)).osci i = _ := setOsci_osci_same ..
    rw [osci_kcp, hx]
    exact ⟨rfl, rfl, rfl⟩
  · exact fun rq s h hp => kcpRow_reads 0x0504 bodyHoldoverLearn rq s _ h (if_pos hp)

end Sys2Proof.Machine
end

section
/-! SUPPORT. A log write while LOG_FAULT holds: it is queued, and no condition is raised anew (R205, R512). -/

namespace Sys2Proof.Machine
open Sys2Proof

/-- The log has failed, and no fault source shows it. -/
def failedLog : State := { State.reset with log := { State.reset.log with fault := true } }

theorem logWriteEvent_failedLog : bit ((logWriteEvent 0 0 0 0 false failedLog).flt 0).cond 5 = false := by decide +kernel

/-- Refutes O46: its clause on LOG_WRITE raises LOG_FAULT's condition in every state, but a failed flash write raises it only where
the log had not failed before (R205). -/
theorem not_boundSealComputationForms : ¬ Obligations.BoundSealComputationForms := by
  unfold Obligations.BoundSealComputationForms
  rintro ⟨-, -, -, hwrite, -⟩
  obtain ⟨t, ht, -, -, -, hcond⟩ := hwrite 0 0 0 0 failedLog (by decide)
  have hrow : exec (.logWrite 0 0 0 0 false) failedLog = .next (commitG failedLog (logWriteEvent 0 0 0 0 false failedLog)) := rfl
  obtain rfl := Host.Outcome.next.inj (hrow.symm.trans ht)
  have hflt : bit ((logWriteEvent 0 0 0 0 false failedLog).flt 0).cond 5 = true := hcond
  rw [logWriteEvent_failedLog] at hflt
  exact Bool.noConfusion hflt

end Sys2Proof.Machine
end

section
/-! SUPPORT. Further forms of the furrow ports: a record that disables or enables a port, counters cleared, a policy that waits, a
calibration anew, and what a burst or a run that fails leaves (R219 to R258, R266 to R273). -/

namespace Sys2Proof.Machine
open Sys2Proof

/-! What a condition, and so a log entry, leaves of the other fault blocks. -/

theorem setSticky_flt_other {b j : Nat} (h : j ≠ b) (n : Nat) (s : State) : (setSticky b n s).flt j = s.flt j := by
  unfold setSticky
  split
  · rfl
  · rw [fltArrive_flt, setFlt_flt_other _ _ _ _ h]

theorem setCond_flt_other {b j : Nat} (h : j ≠ b) (n : Nat) (v : Bool) (s : State) : (setCond b n v s).flt j = s.flt j := by
  unfold setCond
  split
  · rw [setSticky_flt_other h, setFlt_flt_other _ _ _ _ h]
  · rw [setFlt_flt_other _ _ _ _ h]

/-- A log entry raises LOG_FAULT of block 0 and no source of another block. -/
theorem sealedLog_flt_other {j : Nat} (h : j ≠ 0) (ws : List SealedWrite) (s : State) : (sealedLog ws s).flt j = s.flt j := by
  have hput (ty d i v : Nat) (u : State) : (logPut ty d i v u).flt j = u.flt j := by
    unfold logPut logAt
    dsimp only
    split
    · rfl
    · rw [setCond_flt_other h]
      rfl
  unfold sealedLog
  dsimp only
  refine (foldl_keeps (fun u : State => u.flt j) (fun u w => hput _ _ _ _ u) _ _).trans ?_
  split <;> rfl

/-- The command processor is no part of a furrow port. -/
theorem port_kcp (s : State) (k : Kcp) (p : Nat) : State.port { s with kcp := k } p = s.port p := rfl

/-! FUR_PORT_CONFIG at a DISABLED port (R248, R269). -/

/-- A record written to a DISABLED port, in force at once, before the port starts. -/
def recordInForce (p : Nat) (c : FurCfg) (s : State) : State :=
  let s1 := rewriteWord (portBlock p) (p % 256) s
  let s2 := s1.setPort p { s1.port p with cfg := c, cfgNext := none }
  if c.linkId ≠ (s1.port p).cfg.linkId then rederiveLinks p s2 else s2

theorem furWrite_disabled {p : Nat} {s : State} (h : (s.port p).st.state = .disabled) (c : FurCfg) :
    furWrite p c s = if c.enable && !inSafe (recordInForce p c s) (portBlock p) (p % 256) then enablePort p (recordInForce p c s)
      else recordInForce p c s := by
  have hport : (rewriteWord (portBlock p) (p % 256) s).port p = s.port p := (rewriteWord_within ..).port_eq (by decide) p
  rw [furWrite]
  dsimp only
  rw [if_pos (by rw [hport]; exact h)]
  rfl

theorem recordInForce_port (p : Nat) (c : FurCfg) (s : State) :
    (recordInForce p c s).port p = { s.port p with cfg := c, cfgNext := none } := by
  have hport : (rewriteWord (portBlock p) (p % 256) s).port p = s.port p := (rewriteWord_within ..).port_eq (by decide) p
  unfold recordInForce
  dsimp only
  split
  · rw [(rederiveLinks_within p _).port_eq (by decide), setPort_port_same, hport]
  · rw [setPort_port_same, hport]

theorem recordInForce_inSafe {p : Nat} {s : State} (h : (s.flt (portBlock p)).safe = 0) (c : FurCfg) :
    inSafe (recordInForce p c s) (portBlock p) (p % 256) = false := by
  have hsafe := inSafe_rewriteWord (i := p % 256) h
  unfold recordInForce
  dsimp only
  split
  · rw [inSafe, (rederiveLinks_within p _).flt_eq (by decide)]
    exact hsafe
  · exact hsafe

/-- A calibration starts afresh (R248). -/
theorem enterCal_port (p : Nat) (s : State) : ∃ c, (enterCal p s).port p =
    let x := startRun s.now true (clearFilter (s.port p))
    { x with built := none, sent := none, rx := none, st := { x.st with state := .cal, calFault := false, drift := c }
             cal := { x.cal with rejectRun := 0 } } := by
  obtain ⟨c, hc⟩ := driftUpdate_port p (s.setPort p (let x := startRun s.now true (clearFilter (s.port p))
    { x with built := none, sent := none, rx := none, st := { x.st with state := .cal, calFault := false }
             cal := { x.cal with rejectRun := 0 } }))
  rw [setPort_port_same] at hc
  exact ⟨c, hc⟩

/-- An enabled port starts in CAL with its record and its counters at zero (R248). -/
theorem enablePort_port (p : Nat) (s : State) :
    let x := (enablePort p s).port p
    x.cfg = (s.port p).cfg ∧ x.st.state = .cal ∧ x.cal.running = true ∧ x.cal.initial = true ∧ x.bout = 0 ∧ x.err = {} := by
  obtain ⟨c, hc⟩ := enterCal_port p ((s.setPort p (let x := s.port p
    let y : FurPort := { cfg := x.cfg, floor := x.floor, ceiling := x.ceiling, cal := { temp := x.cal.temp } }
    { y with st := { y.st with ref := x.cfg.delayRef } })).setInterp p { (s.interp p).fresh with enabled := true })
  have hx : (enablePort p s).port p = _ := hc
  intro x
  rw [show x = _ from hx]
  have hport (u : State) (i : Nat) (y : GenInterp) : (u.setInterp i y).port p = u.port p := rfl
  simp only [startRun, clearFilter, hport, setPort_port_same, and_self]

/-- A record without ENABLE, its sealed fields logged. -/
theorem furWrite_logged_off {p : Nat} {s : State} {c : FurCfg} (h : (s.port p).st.state = .disabled) (hoff : c.enable = false)
    (ws : List SealedWrite) : (furWrite p c (sealedLog ws s)).port p = { s.port p with cfg := c, cfgNext := none } := by
  have hport : (sealedLog ws s).port p = s.port p := (sealedLog_within ws s).port_eq (by decide) p
  rw [furWrite_disabled (by rw [hport]; exact h), if_neg (by simp [hoff]), recordInForce_port, hport]

/-- A record with ENABLE, where no configuration fault keeps the port safe. -/
theorem furWrite_logged_on {p : Nat} {s : State} {c : FurCfg} (h : (s.port p).st.state = .disabled) (hon : c.enable = true)
    (hsafe : (s.flt (portBlock p)).safe = 0) (ws : List SealedWrite) :
    let x := (furWrite p c (sealedLog ws s)).port p
    x.cfg = c ∧ x.st.state = .cal ∧ x.cal.running = true ∧ x.cal.initial = true ∧ x.bout = 0 ∧ x.err = {} := by
  have hport : (sealedLog ws s).port p = s.port p := (sealedLog_within ws s).port_eq (by decide) p
  have hflt : ((sealedLog ws s).flt (portBlock p)).safe = 0 := by
    rw [sealedLog_flt_other (by rw [portBlock]; omega)]
    exact hsafe
  have hstart := enablePort_port p (recordInForce p c (sealedLog ws s))
  rw [recordInForce_port] at hstart
  rw [furWrite_disabled (by rw [hport]; exact h), if_pos (by simp [hon, recordInForce_inSafe hflt])]
  exact hstart

/-- Under an open window a record that keeps the mode of a DISABLED port is written (R198, R269). -/
theorem bodyFurPortConfig_disabled {c : Cmd} {s : State} {r : List Byte} {p : Nat} {new : FurCfg} (hc : c.req.payload = r)
    (hl : r.length = 64) (hp : p = rd r 0 2) (hlt : p < 1024) (hnew : new = furNorm p (furParse r))
    (hchecks : firstBad (furChecks s p r) = none) (hleaf : new.leaf = (furCfgOf s p).leaf)
    (hloop : new.enable = false ∨ (furLoop s p).depth = 0) (hw : windowOpen s = true) (hlog : s.log.fault = false) :
    bodyFurPortConfig c s = ok (furWrite p new (sealedLog (sealedChanges p (furCfgOf s p) r) s)) (furRecordOf p new) := by
  subst hc hp hnew
  refine (if_neg (fun h => h.2 hl)).trans ((checked_of_all (by simp [numPorts, hlt]) _ _).trans
    ((if_neg (by rw [hl]; decide)).trans ?_))
  rw [checked, hchecks]
  refine (if_neg (fun h => h.1 hleaf)).trans ((if_neg ?_).trans (sealedWrite_of_status (sealedStatus_open hw hlog _) _))
  rintro ⟨hon, -, hheld⟩
  rcases hloop with hoff | hfree
  · rw [hoff] at hon
    exact Bool.noConfusion hon
  · exact hheld hfree

/-! The other commands of group 0x07 (R258, R270 to R273). -/

theorem clearCounters_port (p : Nat) (s : State) :
    let x := (clearCounters p s).port p
    x.err = {} ∧ x.mb.delivered = 0 ∧ x.mb.messages = 0 ∧ x.mb.discards = 0 ∧ x.cal.rejects = 0 ∧ x.st = (s.port p).st := by
  rw [clearCounters, setPort_port_same]
  exact ⟨rfl, rfl, rfl, rfl, rfl, rfl⟩

theorem bodyFurPortStatus_clearing {c : Cmd} {s : State} {r : List Byte} {p : Nat} (hc : c.req.payload = r) (hl : r.length = 4)
    (hp : p = rd r 0 2) (hlt : p < 1024) (hclr : rd r 2 1 = 1) (hz : rd r 3 1 = 0) :
    bodyFurPortStatus c s = ok (clearCounters p s) (furArray s p ++ interpRecord s p ++ le 4 (s.port p).mb.delivered ++
      le 4 (s.port p).mb.messages ++ le 4 (s.port p).mb.discards ++ le 4 (s.port p).cal.rejects) := by
  simp only [bodyFurPortStatus, hc, ← hp, hclr]
  exact (if_neg (not_not.mpr hl)).trans (checked_of_all (by simp [zeroAt, numPorts, hlt, hz]) _ _)

theorem bodyFurRatePolicy_reads {c : Cmd} {s : State} {r : List Byte} {first n : Nat} (hc : c.req.payload = r) (hl : r.length = 4)
    (hfirst : first = rd r 0 2) (hn : n = rd r 2 2) (h1 : 1 ≤ n) (h1024 : n ≤ 1024) (hrange : first + n ≤ 1024) :
    bodyFurRatePolicy c s = ok s (policyBytes s first n) := by
  have hlt : first < 1024 := by omega
  simp only [bodyFurRatePolicy, hc, ← hfirst, ← hn]
  exact (if_neg (fun h => h.1 hl)).trans ((checked_of_all (by simp [numPorts, hlt, h1, h1024, hrange]) _ _).trans (if_pos hl))

/-- The head ends of a range that run bouts: a written policy waits for their next boundaries (R271). -/
def waitingPorts (first n : Nat) (s : State) : List Nat :=
  (portRange first n).filter (fun p => sends (s.port p).st.state && !(s.port p).cfg.leaf)

theorem policyWritten_policyWait (fl ce first n : Nat) (s : State) :
    (policyWritten fl ce first n s).fur.policyWait = s.fur.policyWait :=
  foldl_keeps (f := fun t p => t.setPort p (withPolicy fl ce (t.port p))) (fun t : State => t.fur.policyWait) (fun _ _ => rfl) _ _

/-- The state in which a written policy waits. -/
def policyHeld (id fl first n : Nat) (s : State) : State :=
  let u := policyWritten fl 1 first n s
  { u with fur := { u.fur with policyWait := u.fur.policyWait ++ [(id, first, n, waitingPorts first n s)] } }

theorem policyHeld_within (id fl first n : Nat) (s : State) : Within [.fur] s (policyHeld id fl first n s) :=
  Within.fur (by decide) (Within.foldl (fun _ _ => State.setPort_within _ _ _) _ (Within.refl _ _))

theorem bodyFurRatePolicy_waits {c : Cmd} {s : State} {r : List Byte} {first n : Nat} (hc : c.req.payload = r) (hl : r.length = 8)
    (hfirst : first = rd r 0 2) (hn : n = rd r 2 2) (h1 : 1 ≤ n) (h1024 : n ≤ 1024) (hrange : first + n ≤ 1024)
    (hfl : rd r 4 1 ≤ 1) (hce : rd r 5 1 = 1) (hz : rd r 6 2 = 0) (hwait : waitingPorts first n s ≠ []) :
    bodyFurRatePolicy c s = held (policyHeld c.id (rd r 4 1) first n s) := by
  have hlt : first < 1024 := by omega
  have hsame : (portRange first n).filter (fun p => sends ((policyWritten (rd r 4 1) 1 first n s).port p).st.state &&
      !((policyWritten (rd r 4 1) 1 first n s).port p).cfg.leaf) = waitingPorts first n s := by
    refine List.filter_congr fun p _ => ?_
    obtain ⟨hstate, hcfg⟩ := policyWritten_state_cfg (rd r 4 1) 1 first n s p
    rw [hstate, hcfg]
  have hgo : bodyFurRatePolicy c s =
      if (portRange first n).filter (fun p => sends ((policyWritten (rd r 4 1) 1 first n s).port p).st.state &&
          !((policyWritten (rd r 4 1) 1 first n s).port p).cfg.leaf) = []
      then ok (policyWritten (rd r 4 1) 1 first n s) (policyBytes (policyWritten (rd r 4 1) 1 first n s) first n)
      else held { policyWritten (rd r 4 1) 1 first n s with fur := { (policyWritten (rd r 4 1) 1 first n s).fur with
        policyWait := (policyWritten (rd r 4 1) 1 first n s).fur.policyWait ++ [(c.id, first, n,
          (portRange first n).filter (fun p => sends ((policyWritten (rd r 4 1) 1 first n s).port p).st.state &&
            !((policyWritten (rd r 4 1) 1 first n s).port p).cfg.leaf))] } } := by
    subst hfirst hn hc
    refine (if_neg (fun h => h.2 hl)).trans ((checked_of_all (by simp [numPorts, *]) _ _).trans
      ((if_neg (by rw [hl]; decide)).trans ((checked_of_all (by simp [zeroAt, *]) _ _).trans ?_)))
    rw [hce]
    rfl
  rw [hgo, hsame, if_neg hwait, policyHeld]

theorem furCalibrate_afresh {p : Nat} {s : State} (hd : (s.port p).st.state ≠ .disabled) (hc : (s.port p).st.state ≠ .cal) :
    furCalibrate true s p = enterCal p s :=
  (if_neg hd).trans ((if_pos rfl).trans (if_neg fun h => hc h.1))

theorem bodyFurCalibrate_initial {c : Cmd} {s : State} {r : List Byte} {p : Nat} (hc : c.req.payload = r) (hl : r.length = 8)
    (hp : p = rd r 0 2) (hlt : p < 1024) (hone : rd r 2 2 = 1) (hflags : rd r 4 1 = 1) (hz : rd r 5 3 = 0) :
    bodyFurCalibrate c s = pend (furCalibrate true s p) [] := by
  simp only [bodyFurCalibrate, hc, ← hp, hone, hflags]
  rw [if_neg (not_not.mpr hl), checked_of_all (by simp [zeroAt, numPorts, hlt, hz])]
  rfl

theorem bodyFurMailboxRecv_empty {c : Cmd} {s : State} {r : List Byte} {p : Nat} (hc : c.req.payload = r) (hl : r.length = 4)
    (hp : p = rd r 0 2) (hlt : p < 1024) (hz : rd r 2 2 = 0) (hst : (s.port p).st.state ≠ .disabled) (hrx : (s.port p).mb.rx = []) :
    bodyFurMailboxRecv c s = ok s (zeros 4) := by
  simp only [bodyFurMailboxRecv, hc, ← hp, hrx]
  exact (if_neg (not_not.mpr hl)).trans ((checked_of_all (by simp [zeroAt, numPorts, hlt, hz]) _ _).trans (if_neg hst))

/-! Calibration, bouts and bursts (R221, R237, R250, R252). -/

theorem calMeasurement_leaf {p : Nat} {d : Interval} {s : State} (hr : (s.port p).cal.running = true)
    (h16 : (s.port p).cal.meas.length < 16) (hl : (s.port p).cfg.leaf = true) (hs : (s.port p).st.state = .cal)
    (hd : (s.port p).cal.startedAt + 1000 * (s.port p).cal.meas.length ≤ s.now) :
    ((calMeasurement p d s).port p).cal.meas = (s.port p).cal.meas ++ [d] := by
  unfold calMeasurement
  extract_lets x y lean
  rw [if_neg (by simp [x, hr, h16]), if_pos (by simp [x, hl, hs]), if_neg (Nat.not_lt.mpr hd), onLine_port, setPort_port_same]

/-- A port whose fourth run in a row is rejected (R252). -/
def runFailed (x : FurPort) : FurPort :=
  let z := clearFilter { x with cal := { x.cal with
    running := false, meas := [], rejects := satInc sat32 x.cal.rejects, rejectRun := x.cal.rejectRun + 1 } }
  { z with st := { z.st with state := .fault, calFault := true } }

theorem calRunEnd_fourth {p k : Nat} {s : State} (hr : (s.port p).cal.running = true) (hi : (s.port p).cal.initial = false)
    (h16 : (s.port p).cal.meas.length = 16) (hk : k < 4) (hloose : calTight (calQuantity (s.port p).cal.meas k) = false)
    (h3 : (s.port p).cal.rejectRun = 3) :
    calRunEnd p s = setSticky (portBlock p) (16 + 4 * (p % 256)) (driftUpdate p (s.setPort p (runFailed (s.port p)))) := by
  have htight : [0, 1, 2, 3].all (fun i => calTight (calQuantity (s.port p).cal.meas i)) = false :=
    List.all_eq_false.mpr ⟨k, by simp only [List.mem_cons, List.not_mem_nil]; omega, by rw [hloose]; decide⟩
  unfold calRunEnd
  dsimp only
  rw [if_neg (by simp [hr, hi, h16]), if_neg (by simp [htight]), if_pos (by omega)]
  rfl

theorem calRunEnd_fails {p k : Nat} {s : State} (hr : (s.port p).cal.running = true) (hi : (s.port p).cal.initial = false)
    (h16 : (s.port p).cal.meas.length = 16) (hk : k < 4) (hloose : calTight (calQuantity (s.port p).cal.meas k) = false)
    (h3 : (s.port p).cal.rejectRun = 3) :
    let t := calRunEnd p s
    (t.port p).st.state = .fault ∧ (t.port p).st.calFault = true ∧ (t.port p).cal.rejects = satInc sat32 (s.port p).cal.rejects ∧
      bit (t.flt (portBlock p)).status (16 + 4 * (p % 256)) = true := by
  obtain ⟨b, hb⟩ := driftUpdate_port p (s.setPort p (runFailed (s.port p)))
  rw [setPort_port_same] at hb
  rw [calRunEnd_fourth hr hi h16 hk hloose h3]
  intro t
  have hport : t.port p = { runFailed (s.port p) with st := { (runFailed (s.port p)).st with drift := b } } :=
    (setSticky_port ..).trans hb
  rw [hport]
  exact ⟨rfl, rfl, rfl, (setSticky_flt ..).1⟩

/-- A dark epoch counts its bout and sends nothing (R221). -/
theorem boutEpoch_dark {p e at_ : Nat} {s : State} (he : epochDue s p = some (e, at_)) (hs : sends (s.port p).st.state = true)
    (hl : (s.port p).cfg.leaf = false) (hd : isDark s p e = true) :
    (boutEpoch p s).port p = { s.port p with dark := some e, built := none, bout := ((s.port p).bout + 1) % 2 ^ 48 } := by
  have hon : (s.port p).st.state ≠ .disabled := fun h => by rw [h] at hs; exact Bool.noConfusion hs
  unfold boutEpoch
  rw [he]
  dsimp only
  rw [if_neg hon, if_pos (by simp [hl, hs, hd]), setPort_port_same, if_pos hs]

/-- A burst whose symbols do not decode counts as a code error (R237). -/
theorem downstreamBurst_code {p : Nat} {b : RxBurst} {s : State} (hl : (s.port p).cfg.leaf = true)
    (hs : (s.port p).st.state = .tracking)
    (hf : lineFrame b.lean false (sdMax b.lean (if b.lean then 0 else (s.port p).cfg.mbMax)) b.groups = none) :
    (downstreamBurst p b s).port p = { s.port p with err := { (s.port p).err with code := satInc sat16 (s.port p).err.code } } := by
  simp only [downstreamBurst, setPaux_port, hl, hs, Bool.not_true, Bool.or_self, Bool.false_eq_true, if_false, hf, setPort_port_same,
    countErr]

/-- Settles O47: the commands by their bodies, a record in force through `furWrite_disabled`; the events by what they leave of the port. -/
theorem furrowForms : Obligations.FurrowForms := by
  unfold Obligations.FurrowForms
  refine ⟨?_, ?_, ?_, ?_, ?_, ?_, ?_, ?_, ?_, ?_, ?_, ?_⟩
  · intro rq s h hl hlt
    exact kcpRow_reads 0x0701 bodyFurPortConfig rq s _ h ((if_neg (fun hn => hn.1 hl)).trans
      ((checked_of_all (by simp [rowCmd, numPorts, hlt]) _ _).trans (if_pos hl)))
  · intro rq s p n h hl hp hlt hn hchecks hst hoff hleaf hw hlog
    have hb := bodyFurPortConfig_disabled (c := rowCmd 0x0701 rq s) (s := takeId s) rfl hl hp hlt hn hchecks hleaf (.inl hoff) hw hlog
    exact goes_of_ok_body bodyFurPortConfig_within (by decide) h hb
      fun k hans => ⟨((samePorts_setKcp _ k).1 p).trans (furWrite_logged_off (s := takeId s) hst hoff _), hans⟩
  · intro rq s p n h hl hp hlt hn hchecks hst hsafe hon hleaf hold hfree hw hlog
    have hb := bodyFurPortConfig_disabled (c := rowCmd 0x0701 rq s) (s := takeId s) rfl hl hp hlt hn hchecks hleaf (.inr hfree) hw hlog
    refine goes_of_ok_body bodyFurPortConfig_within (by decide) h hb fun k hans => ?_
    obtain ⟨h1, h2, h3, h4, h5, h6⟩ := furWrite_logged_on (s := takeId s) (c := n) hst hon hsafe
      (sealedChanges p (furCfgOf (takeId s) p) (rowCmd 0x0701 rq s).req.payload)
    rw [port_kcp]
    exact ⟨h1, h2, h3, h4, h5, h6, hans⟩
  · intro rq s p h hl hp hlt hclr hz
    have hb := bodyFurPortStatus_clearing (c := rowCmd 0x0702 rq s) (s := takeId s) rfl hl hp hlt hclr hz
    refine goes_of_ok_body bodyFurPortStatus_within (by decide) h hb fun k hans => ?_
    obtain ⟨h1, h2, h3, h4, h5, h6⟩ := clearCounters_port p (takeId s)
    rw [port_kcp]
    exact ⟨h1, h2, h3, h4, h5, h6, hans⟩
  · intro rq s first n h hl hfirst hn h1 h1024 hrange
    exact kcpRow_reads 0x0703 bodyFurRatePolicy rq s _ h (bodyFurRatePolicy_reads rfl hl hfirst hn h1 h1024 hrange)
  · intro rq s first n h hl hfirst hn h1 h1024 hrange hfl hce hz hwait
    have hb := bodyFurRatePolicy_waits (c := rowCmd 0x0703 rq s) (s := takeId s) rfl hl hfirst hn h1 h1024 hrange hfl hce hz hwait
    refine goes_of_held_within h hb (policyHeld_within ..) (by decide) fun k hheld => ⟨hheld, ?_, ?_⟩
    · exact congrArg (· ++ [(s.kcp.nextId, first, n, waitingPorts first n s)]) (policyWritten_policyWait (rd rq.payload 4 1) 1 first n (takeId s))
    · exact policyWritten_policy (rd rq.payload 4 1) 1 first n (takeId s)
  · intro rq s p h hl hp hlt hone hflags hz hd hc
    have hb := (bodyFurCalibrate_initial (c := rowCmd 0x0704 rq s) (s := takeId s) rfl hl hp hlt hone hflags hz).trans
      (congrArg (pend · []) (furCalibrate_afresh hd hc))
    obtain ⟨c, hc⟩ := enterCal_port p (takeId s)
    refine goes_of_pend_body bodyFurCalibrate_within (by decide) h hb fun k hans => ?_
    rw [port_kcp, hc]
    exact ⟨rfl, rfl, rfl, hans⟩
  · intro rq s p h hl hp hlt hz hst hrx
    exact kcpRow_reads 0x0706 bodyFurMailboxRecv rq s _ h
      (bodyFurMailboxRecv_empty (c := rowCmd 0x0706 rq s) (s := takeId s) rfl hl hp hlt hz hst hrx)
  · intro p d s hp hr h16 hl hs hd
    exact goes_unit (decide_eq_true hp) fun k => calMeasurement_leaf hr h16 hl hs hd
  · intro p s k hp hr hi h16 hk hloose h3
    exact goes_unit (decide_eq_true hp) fun _ => calRunEnd_fails hr hi h16 hk hloose h3
  · intro p s e at_ hp he hs hl hd
    refine goes_portHeld (decide_eq_true hp) fun u ⟨hport, _, _⟩ => ?_
    rw [hport, boutEpoch_dark he hs hl hd]
    exact ⟨rfl, rfl, rfl, rfl⟩
  · intro p b s hp hl hs hf
    exact goes_unit (decide_eq_true hp) fun k => downstreamBurst_code hl hs hf

end Sys2Proof.Machine
end

section
/-! SUPPORT. A domain that is disabled while an entry of it holds a grant bit above the three of R282: SVC_DOMAIN clears the three, and
the entry keeps its place and the other bit (R302). -/

namespace Sys2Proof.Machine
open Sys2Proof

/-- An enabled domain 0 whose one entry holds grant bit 3, in the S tile that serves. -/
def foreignGrant : State :=
  { State.reset with
    pwr := { State.reset.pwr with sState := 2, nuheifUp := true }
    svc := { State.reset.svc with
      granary := [(0, { valid := true, grants := 8 })], dom := [(0, { cfg := { flags := 1 } })] } }

/-- SVC_DOMAIN for domain 0, not enabled, of the default profile with a DURATION_MAX of 10 s. -/
def disableRequest : Request :=
  { src := .ring 0, tag := 0, flags := 0, priv := 1, expGen := 0, payload := zeros 20 ++ le 4 10 ++ zeros 8 }

/-- The grants of entry 0 in the next state. -/
def grantsAfter : Out → Nat
  | .next t => (t.entry 0).grants
  | _ => 0

theorem grantsAfter_disable : grantsAfter (exec (.svcDomain disableRequest) foreignGrant) = 8 := by decide +kernel

/-- Refutes O49: its clause on a domain that SVC_DOMAIN disables clears all 8 bits of GRANTS in every state, but only bits 2:0 are
cancelled, so an entry with bit 3 set keeps it. -/
theorem not_packetServiceForms : ¬ Obligations.PacketServiceForms := by
  unfold Obligations.PacketServiceForms
  rintro ⟨-, -, -, hdisable, -⟩
  obtain ⟨t, ht, -, hnone⟩ := hdisable disableRequest foreignGrant 0 (by decide +kernel) (by decide) (by decide) (by decide)
    (by decide +kernel) (by decide) (by decide)
  have hkept : grantsAfter (.next t) = 8 := ht ▸ grantsAfter_disable
  have hcleared : grantsAfter (.next t) = 0 := hnone 0 (by decide)
  exact absurd (hkept.symm.trans hcleared) (by decide)

end Sys2Proof.Machine
end

section
/-! SUPPORT. RESET_BLOCK of the baseband while the S tile's replica of the time still shows the GNSS slot as selected: the command is
refused by what the replica shows (R12, R492), which need not be what the M tile has selected. -/

namespace Sys2Proof.Machine
open Sys2Proof

/-- A command of group 0x02 that is accepted and has not run. -/
def waitingGnss : Cmd := { id := 7, opcode := 0x0202 }

/-- The M tile has nothing selected, and the last good time-bus frame of the S tile's replica names slot 8. -/
def staleSelection : State :=
  { State.reset with
    pwr := { State.reset.pwr with sState := 2, nuheifUp := true }
    bus := { State.reset.bus with replicas := [(0, { frame := { selSlot := 8 } })] }
    kcp := { State.reset.kcp with slots := [waitingGnss] } }

/-- RESET_BLOCK for block 6, unit 0. -/
def resetBaseband : Request := { src := .ring 0, tag := 0, flags := 0, priv := 1, expGen := 0, payload := le 2 6 ++ le 2 0 }

/-- The commands that wait in the next state. -/
def slotsAfter : Out → List Cmd
  | .next t => t.kcp.slots
  | _ => []

theorem slotsAfter_resetBaseband : slotsAfter (exec (.resetBlock resetBaseband) staleSelection) = [waitingGnss] := by
  decide +kernel

/-- Refutes O60: its clause on RESET_BLOCK of the baseband excludes the M tile's own selection of slot 8, but the command is refused
by the selection that the S tile's replica shows, and then aborts no waiting command. -/
theorem not_startUpAndSystemForms : ¬ Obligations.StartUpAndSystemForms := by
  unfold Obligations.StartUpAndSystemForms
  rintro ⟨-, -, -, -, -, -, -, -, -, -, -, -, -, -, -, -, -, -, -, -, -, hbaseband, -⟩
  obtain ⟨t, ht, hempty, -⟩ := hbaseband resetBaseband 6 0 waitingGnss staleSelection (by decide +kernel) (by decide) (by decide)
    (by decide) rfl rfl (by decide) rfl (by decide) rfl
  have hkept : slotsAfter (.next t) = [waitingGnss] := ht ▸ slotsAfter_resetBaseband
  exact List.cons_ne_nil _ _ (hkept.symm.trans hempty)

end Sys2Proof.Machine
end

section
/-! SUPPORT. What the death of the awake clusters, an engine's switch, the rebalancer, the fallowing of clusters and an arbiter's window
leave (R314 to R327, R408). -/

namespace Sys2Proof.Machine
open Sys2Proof

/-! PROG_STAGE: the last fragment (R318). -/

/-- The last fragment that completes the image has it verified, and its version answered. -/
theorem bodyProgStage_last {c : Cmd} {s : State} (h13 : 13 ≤ c.req.payload.length) (h4080 : c.req.payload.length ≤ 4080)
    (hflags : rd c.req.payload 8 1 = 2) (hz : rd c.req.payload 9 3 = 0) (htotal : rd c.req.payload 4 4 ≤ 24576)
    (hsome : s.eng.staging.bytes ≠ []) (hoff : rd c.req.payload 0 4 = s.eng.staging.bytes.length)
    (hsame : rd c.req.payload 4 4 = s.eng.staging.total)
    (hend : rd c.req.payload 0 4 + (c.req.payload.length - 12) = rd c.req.payload 4 4) (hact : s.eng.activation = none) :
    bodyProgStage c s = match verifySower s (s.eng.staging.bytes ++ c.req.payload.drop 12) with
      | some img => ok { s with eng := { s.eng with staging := { total := 0, bytes := [], verified := some img } } } (le 4 img.version)
      | none => err s stINTEGRITY := by
  have hfirst : bit 2 0 = false := rfl
  have hlast : bit 2 1 = true := rfl
  have hidle : ¬s.eng.activation.isSome = true := by rw [hact]; decide
  have hends : s.eng.staging.bytes.length + (c.req.payload.length - 12) = s.eng.staging.total := by omega
  refine (if_neg (by omega)).trans ((checked_of_all ?_ _ _).trans ((if_neg hidle).trans ?_))
  · rw [hsame] at htotal
    simp [zeroAt, hflags, hfirst, hlast, hz, htotal, hsome, hoff, hsame, hends]
  · rw [hflags]
    rfl

/-- A row of the command processor ends in a next state, whatever its body is. -/
theorem goes_kcpRow {op least : Nat} {body : Body} {rq : Request} {s : State} {P : State → Prop}
    (h : P (runRow op least body rq s)) : Goes (kcpRow op least body rq s) P := ⟨_, rfl, h⟩

/-! Waits (R314). -/

/-- The event of a wait that ended with TIMEOUT is late, and counted. -/
theorem lateEvent_eq {n k : Nat} {s : State} (h : k ∈ (s.thread n).late) : lateEvent n k s =
    { s with eng := { s.eng with lateEvents := satInc sat32 s.eng.lateEvents } }.setThread n
      { s.thread n with late := (s.thread n).late.erase k } :=
  if_pos (List.contains_iff_mem.mpr h)

/-- An event that the thread does not wait for is late. -/
theorem waitEvent_late {n k : Nat} {s : State} (next : Option (Nat × Nat))
    (h : (s.thread n).wait.all (fun w => decide (w.cls ≠ k)) = true) : waitEvent n k next s = lateEvent n k s := by
  unfold waitEvent
  dsimp only
  cases hw : (s.thread n).wait with
  | none => rfl
  | some w =>
    rw [hw, Option.all_some, decide_eq_true_eq] at h
    exact if_pos (.inl h)

/-! Threads and engines, one by one. -/

theorem setThread_thread_other (s : State) {n m : Nat} (h : m ≠ n) (x : Thread) : (s.setThread n x).thread m = s.thread m := by
  rw [State.thread, State.setThread, State.thread]
  by_cases he : m / 8 = n / 8
  · rw [he, setEngine_engine_same, tget_tset_other _ _ _ _ _ (by omega)]
  · rw [setEngine_engine_other _ _ _ _ he]

theorem setThread_state (s : State) (n : Nat) (x : Thread) (e : Nat) : ((s.setThread n x).engine e).state = (s.engine e).state := by
  rw [State.setThread]
  by_cases he : e = n / 8
  · rw [he, setEngine_engine_same]
  · rw [setEngine_engine_other _ _ _ _ he]

/-- What a step leaves of the deadlock's counters. -/
structure KeepsDeadlocks (s t : State) : Prop where
  deadlocks : t.eng.deadlocks = s.eng.deadlocks
  last : t.eng.lastDeadlock = s.eng.lastDeadlock

/-- What a cleared task leaves of the engines: of its own thread no task, of the others what they had, and no engine's state. -/
theorem clearTask_engines (n : Nat) (s : State) :
    ((clearTask n s).thread n).task = none ∧ (∀ m, (s.thread m).task = none → ((clearTask n s).thread m).task = none) ∧
      (∀ e, ((clearTask n s).engine e).state = (s.engine e).state) ∧
      KeepsDeadlocks s (clearTask n s) := by
  cases hk : (s.thread n).task with
  | none =>
    have hs : clearTask n s = s := by rw [clearTask, hk]
    rw [hs]
    exact ⟨hk, fun _ h => h, fun _ => rfl, rfl, rfl⟩
  | some k =>
    have hw : Within [.evd, .eth, .regs] s (freeRx k.msg (returnCredit k.port k.credit k.desc
        ((List.range 16).foldl (fun t p => withdrawTag k.tag p t) s))) :=
      Within.op (freeRx_within _ _) rfl (Within.op (returnCredit_within _ _ _ _) rfl (foldl_withdrawTag_within _ _ _))
    have heng := hw.keeps .eng (by decide)
    have hsame : ((clearTask n s).thread n).task = none := congrArg Thread.task (clearTask_leaves hk).1
    refine ⟨hsame, fun m hm => ?_, fun e => ?_, ?_⟩
    · by_cases hn : m = n
      · rw [hn, hsame]
      · rw [clearTask, hk]
        dsimp only
        generalize freeRx k.msg _ = b at hw heng
        rw [(perfAdd_within _ _ _).thread_eq (by decide), setEngine_thread (by rfl), setThread_thread_other _ hn,
          hw.thread_eq (by decide), hm]
    · rw [clearTask, hk]
      dsimp only
      generalize freeRx k.msg _ = b at hw heng
      rw [(perfAdd_within _ _ _).engine_eq (by decide)]
      have hrest : ((b.setThread n (idleThread b.now (b.thread n).late)).engine e).state = (s.engine e).state := by
        rw [setThread_state, hw.engine_eq (by decide)]
      by_cases he : e = n / 8
      · rw [he, setEngine_engine_same, ← he]
        exact hrest
      · rw [setEngine_engine_other _ _ _ _ he, hrest]
    · rw [clearTask, hk]
      dsimp only
      generalize freeRx k.msg _ = b at hw heng
      exact ⟨(congrArg Eng.deadlocks heng.symm :), (congrArg Eng.lastDeadlock heng.symm :)⟩

/-! The fault sources stay while a task is dropped. -/

theorem voidRecord_faults (r : Nat × Nat) (s : State) : (voidRecord r s).regs.flt = s.regs.flt := by
  unfold voidRecord
  split
  next =>
    split
    · generalize hu : updRec r _ s = u
      have hw : Within [.evd] s u := hu ▸ updRec_within ..
      exact (congrArg Regs.flt (hw.keeps .regs (by decide)).symm :)
    · rfl
  next => rfl

theorem dropFrame_faults (s : State) (f : TxFrame) : (dropFrame s f).regs.flt = s.regs.flt := by
  unfold dropFrame
  split
  next r _ => exact voidRecord_faults r s
  next => rfl

theorem withdrawTag_faults (tag p : Nat) (s : State) : (withdrawTag tag p s).regs.flt = s.regs.flt := by
  unfold withdrawTag
  dsimp only
  split
  · rfl
  · exact foldl_keeps (fun t => t.regs.flt) dropFrame_faults _ _

theorem clearTask_faults (n : Nat) (s : State) : (clearTask n s).regs.flt = s.regs.flt := by
  unfold clearTask
  split
  · rfl
  next k _ =>
    refine Eq.trans (b := ((List.range 16).foldl (fun t p => withdrawTag k.tag p t) s).regs.flt) ?_
      (foldl_keeps (f := fun t p => withdrawTag k.tag p t) (fun t => t.regs.flt) (fun t p => withdrawTag_faults k.tag p t) _ s)
    generalize (List.range 16).foldl _ s = a
    have hw : Within [.eth] a (freeRx k.msg (returnCredit k.port k.credit k.desc a)) :=
      Within.op (freeRx_within _ _) rfl (returnCredit_within ..)
    exact (congrArg Regs.flt (hw.keeps .regs (by decide)).symm :)

/-! A deadlock (R317). -/

/-- A thread's task is dropped and counted. -/
def dropTask (t : State) (n : Nat) : State :=
  { clearTask n t with eng := { (clearTask n t).eng with deadlockDrops := satInc sat32 (clearTask n t).eng.deadlockDrops } }

/-- An engine restarts with the newest image. -/
def restartEngine (t : State) (e : Nat) : State := t.setEngine e { loadImage (newestImage t) (t.engine e) with state := 4 }

/-- A deadlock is shown and counted. -/
def noteDeadlock (s : State) : State :=
  setSticky 2 1 { s with eng := { s.eng with deadlocks := satInc sat32 s.eng.deadlocks, lastDeadlock := ftSec (replicaTime s 0) } }

/-- The awake threads lose their tasks. -/
def dropTasks (s : State) : State := ((awakeThreads s).filter (fun n => (s.thread n).task.isSome)).foldl dropTask s

/-- The engines of the awake clusters restart. -/
def restartEngines (s : State) : State := ((awakeClusters s).flatMap enginesOf).foldl restartEngine s

theorem declareDeadlock_eq (s : State) : declareDeadlock s =
    endActivation { restartEngines (dropTasks (noteDeadlock s)) with eng :=
      { (restartEngines (dropTasks (noteDeadlock s))).eng with restarting := some (restartEngines (dropTasks (noteDeadlock s))).now } } := by
  unfold restartEngines dropTasks noteDeadlock dropTask restartEngine declareDeadlock
  dsimp only

theorem dropTask_thread (s : State) (n m : Nat) : (dropTask s n).thread m = (clearTask n s).thread m := rfl
theorem dropTask_engine (s : State) (n e : Nat) : (dropTask s n).engine e = (clearTask n s).engine e := rfl

theorem dropTask_keepsDeadlocks (s : State) (n : Nat) : KeepsDeadlocks s (dropTask s n) := by
  obtain ⟨-, -, -, hcount, hlast⟩ := clearTask_engines n s
  exact ⟨hcount, hlast⟩

/-- No awake thread keeps a task; the engines' states and the deadlock's counters stay. -/
theorem dropTasks_leaves (s : State) :
    (∀ n ∈ awakeThreads s, ((dropTasks s).thread n).task = none) ∧
      (∀ e, ((dropTasks s).engine e).state = (s.engine e).state) ∧ KeepsDeadlocks s (dropTasks s) := by
  have hempty (t : State) (n m : Nat) (h : (t.thread m).task = none) : ((dropTask t n).thread m).task = none :=
    (clearTask_engines n t).2.1 m h
  refine ⟨fun n hn => ?_, fun e => ?_, ?_, ?_⟩
  · by_cases hs : (s.thread n).task.isSome = true
    · exact foldl_establishes (f := dropTask) (P := fun t n => (t.thread n).task = none) (fun t n => (clearTask_engines n t).1)
        (fun t n m h => hempty t n m h) _ s n (List.mem_filter.mpr ⟨hn, hs⟩)
    · refine List.foldlRecOn (motive := fun t => (t.thread n).task = none) _ dropTask (by simpa using hs) ?_
      exact fun t h m _ => hempty t m n h
  · exact foldl_keeps (f := dropTask) (fun t => (t.engine e).state) (fun t n => (clearTask_engines n t).2.2.1 e) _ s
  · exact foldl_keeps (fun t => t.eng.deadlocks) (fun t n => (dropTask_keepsDeadlocks t n).deadlocks) _ s
  · exact foldl_keeps (fun t => t.eng.lastDeadlock) (fun t n => (dropTask_keepsDeadlocks t n).last) _ s

theorem restartEngine_thread (s : State) (e m : Nat) : (restartEngine s e).thread m = s.thread m := by
  refine setEngine_thread ?_ m
  show (loadImage _ _).threads = _
  unfold loadImage
  split <;> rfl

theorem restartEngine_state (s : State) (e j : Nat) (h : (s.engine j).state = 4) : ((restartEngine s e).engine j).state = 4 := by
  rw [restartEngine]
  by_cases hj : j = e
  · rw [hj, setEngine_engine_same]
  · rw [setEngine_engine_other _ _ _ _ hj, h]

/-- The awake clusters' engines are in restart; the threads and the deadlock's counters stay. -/
theorem restartEngines_leaves (s : State) :
    (∀ e ∈ (awakeClusters s).flatMap enginesOf, ((restartEngines s).engine e).state = 4) ∧
      (∀ m, (restartEngines s).thread m = s.thread m) ∧ KeepsDeadlocks s (restartEngines s) := by
  refine ⟨?_, fun m => ?_, ?_, ?_⟩
  · exact foldl_establishes (P := fun t e => (t.engine e).state = 4)
      (fun t e => congrArg Engine.state (setEngine_engine_same ..)) (fun t e j h => restartEngine_state t e j h) _ s
  · exact foldl_keeps (fun t => t.thread m) (fun t e => restartEngine_thread t e m) _ s
  · exact foldl_keeps (f := restartEngine) (fun t => t.eng.deadlocks) (fun _ _ => rfl) _ s
  · exact foldl_keeps (f := restartEngine) (fun t => t.eng.lastDeadlock) (fun _ _ => rfl) _ s

/-- An engine drops the image before the activated one. -/
def dropOldAt (img : SowerImage) (t : State) (e : Nat) : State := t.setEngine e (dropOld img (t.engine e))

theorem dropOldAt_engine (img : SowerImage) (t : State) (e j : Nat) :
    ((dropOldAt img t e).engine j).state = (t.engine j).state ∧ ((dropOldAt img t e).engine j).image = (t.engine j).image := by
  rw [dropOldAt]
  by_cases hj : j = e
  · rw [hj, setEngine_engine_same, dropOld]
    split <;> exact ⟨rfl, rfl⟩
  · rw [setEngine_engine_other _ _ _ _ hj]
    exact ⟨rfl, rfl⟩

theorem dropOldAt_thread (img : SowerImage) (t : State) (e m : Nat) : (dropOldAt img t e).thread m = t.thread m := by
  refine setEngine_thread ?_ m
  unfold dropOld
  split <;> rfl

/-- The end of an activation: what it leaves of engines, threads and the restart's counters (R319). -/
theorem endActivation_leaves (s : State) :
    (∀ e, ((endActivation s).engine e).state = (s.engine e).state ∧ ((endActivation s).engine e).image = (s.engine e).image) ∧
      (∀ m, (endActivation s).thread m = s.thread m) ∧ KeepsDeadlocks s (endActivation s) ∧
      (endActivation s).eng.restarting = s.eng.restarting := by
  unfold endActivation
  cases s.eng.activation with
  | none => exact ⟨fun _ => ⟨rfl, rfl⟩, fun _ => rfl, ⟨rfl, rfl⟩, rfl⟩
  | some img =>
    generalize List.range numEngines = l
    refine ⟨fun e => ⟨?_, ?_⟩, fun m => ?_, ⟨?_, ?_⟩, ?_⟩
    · exact foldl_keeps (f := dropOldAt img) (fun t => (t.engine e).state) (fun t j => (dropOldAt_engine img t j e).1) _ s
    · exact foldl_keeps (f := dropOldAt img) (fun t => (t.engine e).image) (fun t j => (dropOldAt_engine img t j e).2) _ s
    · exact foldl_keeps (f := dropOldAt img) (fun t => t.thread m) (fun t j => dropOldAt_thread img t j m) _ s
    · exact foldl_keeps (f := dropOldAt img) (fun t => t.eng.deadlocks) (fun _ _ => rfl) _ s
    · exact foldl_keeps (f := dropOldAt img) (fun t => t.eng.lastDeadlock) (fun _ _ => rfl) _ s
    · exact foldl_keeps (f := dropOldAt img) (fun t => t.eng.restarting) (fun _ _ => rfl) _ s

/-- Clusters are awake by the states of their engines. -/
theorem awakeClusters_congr {s t : State} (h : ∀ e, (t.engine e).state = (s.engine e).state) : awakeClusters t = awakeClusters s := by
  have ha (c : Nat) : awake t c = awake s c := by rw [awake, h, awake]
  rw [awakeClusters, awakeClusters, funext ha]

/-- The fault sources and the time stay. -/
theorem restartEngines_rest (s : State) :
    (restartEngines (dropTasks s)).regs.flt = s.regs.flt ∧ (restartEngines (dropTasks s)).now = s.now := by
  have hdrop (t : State) (n : Nat) : (dropTask t n).regs.flt = t.regs.flt ∧ (dropTask t n).now = t.now :=
    ⟨clearTask_faults n t, (clearTask_within n t).now_eq⟩
  rw [restartEngines, dropTasks]
  constructor
  · rw [foldl_keeps (f := restartEngine) (fun t => t.regs.flt) (fun _ _ => rfl),
      foldl_keeps (f := dropTask) (fun t => t.regs.flt) (fun t n => (hdrop t n).1)]
  · rw [foldl_keeps (f := restartEngine) (fun t => t.now) (fun _ _ => rfl),
      foldl_keeps (f := dropTask) (fun t => t.now) (fun t n => (hdrop t n).2)]

/-- A deadlock is counted and shown, the awake threads lose their tasks, and the awake clusters' engines restart (R317). -/
theorem declareDeadlock_leaves (s : State) :
    (declareDeadlock s).eng.deadlocks = satInc sat32 s.eng.deadlocks ∧
      (declareDeadlock s).eng.lastDeadlock = ftSec (replicaTime s 0) ∧ bit ((declareDeadlock s).flt 2).status 1 = true ∧
      (declareDeadlock s).eng.restarting = some s.now ∧ (∀ n ∈ awakeThreads s, ((declareDeadlock s).thread n).task = none) ∧
      ∀ e ∈ (awakeClusters s).flatMap enginesOf, ((declareDeadlock s).engine e).state = 4 := by
  have hnote : Within [.bus, .regs] { s with eng := { s.eng with
      deadlocks := satInc sat32 s.eng.deadlocks, lastDeadlock := ftSec (replicaTime s 0) } } (noteDeadlock s) := setSticky_within ..
  have heng := hnote.keeps .eng (by decide)
  have hflt : bit ((noteDeadlock s).flt 2).status 1 = true := (setSticky_flt ..).1
  have hstate (e : Nat) : ((noteDeadlock s).engine e).state = (s.engine e).state := congrArg Engine.state (hnote.engine_eq (by decide) e)
  have hwake := awakeClusters_congr hstate
  have hthreads : awakeThreads (noteDeadlock s) = awakeThreads s := by rw [awakeThreads, hwake, awakeThreads]
  rw [declareDeadlock_eq]
  obtain ⟨hempty, hkept, hcount, hlast⟩ := dropTasks_leaves (noteDeadlock s)
  obtain ⟨hrestart, hthread, hcount', hlast'⟩ := restartEngines_leaves (dropTasks (noteDeadlock s))
  rw [hthreads] at hempty
  rw [awakeClusters_congr hkept, hwake] at hrestart
  obtain ⟨hfaults, hnow⟩ := restartEngines_rest (noteDeadlock s)
  rw [hnote.now_eq] at hnow
  generalize restartEngines (dropTasks (noteDeadlock s)) = u at hrestart hthread hcount' hlast' hfaults hnow ⊢
  obtain ⟨hend, hendThread, ⟨hendCount, hendLast⟩, hendAt⟩ :=
    endActivation_leaves { u with eng := { u.eng with restarting := some u.now } }
  refine ⟨?_, ?_, ?_, ?_, fun n hn => ?_, fun e he => ?_⟩
  · exact hendCount.trans (hcount'.trans (hcount.trans (congrArg Eng.deadlocks heng.symm)))
  · exact hendLast.trans (hlast'.trans (hlast.trans (congrArg Eng.lastDeadlock heng.symm)))
  · rw [← hflt, State.flt, ← (endActivation_within _).keeps .regs (by decide)]
    exact congrArg (fun l => bit (tget {} l 2 : Flt).status 1) hfaults
  · rw [hendAt, ← hnow]
  · rw [hendThread]
    exact (congrArg Thread.task (hthread n)).trans (hempty n hn)
  · rw [(hend e).1]
    exact hrestart e he

/-! ENGINE_SWITCH (R319). -/

theorem mem_terase {α : Type} {t : Tbl α} {i : Nat} {y : Nat × α} (h : y ∈ terase t i) : y ∈ t ∧ y.1 ≠ i := by
  induction t with
  | nil => nomatch h
  | cons kv t ih =>
    obtain ⟨k, v⟩ := kv
    rw [terase] at h
    split at h
    · exact ⟨List.mem_cons_of_mem _ (ih h).1, (ih h).2⟩
    next hk =>
      rcases List.mem_cons.mp h with rfl | h
      · exact ⟨List.mem_cons_self, hk⟩
      · exact ⟨List.mem_cons_of_mem _ (ih h).1, (ih h).2⟩

theorem mem_tinsert {α : Type} {t : Tbl α} {i : Nat} {x : α} {y : Nat × α} (h : y ∈ tinsert i x t) : y = (i, x) ∨ y ∈ t := by
  induction t with
  | nil => exact .inl (List.mem_singleton.mp h)
  | cons kv t ih =>
    rw [tinsert] at h
    split at h
    · exact (List.mem_cons.mp h).imp_right id
    · rcases List.mem_cons.mp h with rfl | h
      · exact .inr List.mem_cons_self
      · exact (ih h).imp_right (List.mem_cons_of_mem _)

/-- What a written table holds: what is written, or an entry of another index. -/
theorem mem_tset {α : Type} [DecidableEq α] {d : α} {t : Tbl α} {i : Nat} {x : α} {y : Nat × α} (h : y ∈ tset d t i x) :
    y = (i, x) ∨ (y ∈ t ∧ y.1 ≠ i) := by
  rw [tset] at h
  split at h
  · exact .inr (mem_terase h)
  · exact (mem_tinsert h).imp_right mem_terase

theorem loadImage_image (img : SowerImage) (x : Engine) : (loadImage img x).image = img := by
  unfold loadImage
  split
  next h => exact h
  next => rfl

/-- An engine runs with an image. -/
def switchEngine (e : Nat) (img : SowerImage) (s : State) : State := s.setEngine e { loadImage img (s.engine e) with state := 2 }

/-- When the last engine that had stopped switches, the activation ends. -/
theorem engineSwitch_ends {e : Nat} {s : State} {img : SowerImage} (h7 : e % 8 = 7) (hact : s.eng.activation = some img)
    (hidle : engineIdle s e = true)
    (honly : s.eng.engines.filter (fun y => decide (y.2.state = 3)) = [(e, s.engine e)]) :
    engineSwitch e s = endActivation (switchEngine e img s) := by
  have hmem : (e, s.engine e) ∈ s.eng.engines ∧ decide ((s.engine e).state = 3) = true :=
    List.mem_filter.mp (honly ▸ List.mem_cons_self)
  have hstate : (s.engine e).state = 3 := of_decide_eq_true hmem.2
  have hnone : (switchEngine e img s).eng.engines.any (fun y => decide (y.2.state = 3)) = false := by
    refine List.any_eq_false.mpr fun y hy => ?_
    rcases mem_tset hy with rfl | ⟨hold, hother⟩
    · simp
    · intro h3
      have hy : y ∈ [(e, s.engine e)] := honly ▸ List.mem_filter.mpr ⟨hold, h3⟩
      exact hother (congrArg Prod.fst (List.mem_singleton.mp hy))
  have hsome : (switchEngine e img s).eng.activation.isSome = true := by
    rw [show (switchEngine e img s).eng.activation = some img from hact]
    rfl
  unfold engineSwitch
  rw [hact]
  dsimp only
  rw [if_neg (by simp [hstate, hidle]), if_neg (not_not.mpr h7)]
  have hends : ((switchEngine e img s).eng.activation.isSome &&
      !(switchEngine e img s).eng.engines.any (fun y => decide (y.2.state = 3))) = true := by rw [hnone, hsome]; rfl
  exact if_pos hends

theorem endActivation_image {s : State} {img : SowerImage} (h : s.eng.activation = some img) :
    (endActivation s).eng.activation = none ∧ (endActivation s).eng.active = img ∧ (endActivation s).eng.staging = {} := by
  rw [endActivation, h]
  exact ⟨rfl, rfl, rfl⟩

/-! REBALANCE (R323). -/

/-- A pass of the rebalancer that moves no bucket leaves the moves, and counts what is not met. -/
theorem rebalanceStep_still {mv : List (Nat × Nat)} {occ : List Nat} {s : State} (hdue : s.eng.loopAt + 1000000 ≤ s.now)
    (h : s.eng.policy.rebalance = false ∨ mv.filter (moveAllowed s occ) = []) :
    rebalanceStep mv occ s = countUnmet { s with eng := { s.eng with
      loopAt := s.now
      placementUnmet := s.eng.policy.rebalance && (awakeEngines s).any (fun e => aboveMean s occ 10 e && holdsPinned s e) } } := by
  have ha : (if s.eng.policy.rebalance = true then
      ((mv.filter (moveAllowed s occ)).take 64).foldl (fun t m => startMove m.1 m.2 t) s else s) = s := by
    rcases h with h | h
    · rw [h]
      rfl
    · rw [h]
      exact ite_self s
  unfold rebalanceStep
  rw [if_neg (Nat.not_lt.mpr hdue)]
  dsimp only
  rw [ha]

/-! CLUSTER_FALLOW (R325). -/

/-- Where the floor or a pin keeps the cluster, its target is noted as not met. -/
theorem clusterFallow_kept {k o : Nat} {s : State} (ho : o < 2500) (h2 : 2 ≤ ((List.range 12).filter (stays s)).length)
    (hload : o * (awakeClusters s).length < 5000 * ((awakeClusters s).length - 1))
    (hkeep : countedAwake s ≤ s.eng.policy.minAwake ∨ pinnedAwake s k = true) : clusterFallow k o s = floorTarget true s := by
  unfold clusterFallow
  dsimp only
  rw [if_neg (Nat.not_le.mpr ho), if_neg (by omega), if_pos hkeep]

/-! ARBITER_WINDOW (R408). -/

/-- An arbiter's settings and what waits for its window. -/
def arbSettings (s : State) : Nat × List Nat × List Nat × Option (Nat × List Nat × List Nat) × List Nat :=
  (s.arb.burst, s.arb.cryptoW, s.arb.granW, s.arb.next, s.arb.held)

/-- Writing the tallies leaves the settings. -/
theorem foldl_setTally_settings {α : Type} (k r : State → α → Nat) (v : State → α → Int) (l : List α) (s : State) :
    arbSettings (l.foldl (fun t a => setTally (k t a) (r t a) (v t a) t) s) = arbSettings s :=
  foldl_keeps (f := fun t a => setTally (k t a) (r t a) (v t a) t) arbSettings (fun _ _ => rfl) l s

theorem refillTallies_settings (k : Nat) (s : State) : arbSettings (refillTallies k s) = arbSettings s := by
  unfold refillTallies
  dsimp only
  split
  · exact (foldl_setTally_settings (fun _ _ => k) (fun _ r => r) _ _ _).trans
      (foldl_setTally_settings (fun _ _ => k) (fun _ r => r) _ _ _)
  · exact foldl_setTally_settings (fun _ _ => k) (fun _ r => r) _ _ _

theorem applyWeights_settings {s : State} {b : Nat} {cw gw : List Nat} (h : s.arb.next = some (b, cw, gw)) :
    arbSettings (applyWeights s) = (b, cw, gw, none, s.arb.held) := by
  unfold applyWeights
  rw [h]
  dsimp only
  exact foldl_keeps arbSettings (fun u k => foldl_setTally_settings (fun _ _ => k) (fun _ r => r) _ _ u) _ _

/-- A window takes the weights that wait, and answers the commands that wait for it. -/
theorem arbiterWindow_leaves {s : State} {b : Nat} {cw gw : List Nat} (hnew : s.arb.window ≠ some (windowMarker s))
    (hnext : s.arb.next = some (b, cw, gw)) :
    (arbiterWindow s).arb.burst = b ∧ (arbiterWindow s).arb.cryptoW = cw ∧ (arbiterWindow s).arb.granW = gw ∧
      (arbiterWindow s).arb.next = none ∧ (arbiterWindow s).arb.held = [] := by
  have happly := applyWeights_settings hnext
  simp only [arbSettings, Prod.mk.injEq] at happly
  obtain ⟨hburst, hcrypto, hgran, hnone, -⟩ := happly
  have hset : arbSettings (arbiterWindow s) = (b, cw, gw, none, []) := by
    unfold arbiterWindow
    rw [if_neg hnew]
    dsimp only
    generalize hb : (List.range 17).foldl _ _ = u
    have hu : arbSettings u = (b, cw, gw, none, []) := by
      rw [← hb, foldl_keeps (f := fun t k => refillTallies k t) arbSettings (fun t k => refillTallies_settings k t)]
      simp only [arbSettings, hburst, hcrypto, hgran, hnone]
    have hw : Within [.kcp] u (s.arb.held.foldl (fun t id => answerHeld id (fun _ v => ok v (arbBytes v)) t) u) :=
      Within.foldl (fun t id => answerHeld_within (by decide) (Within.refl _ _) fun _ _ => Within.refl _ _) _ (Within.refl _ _)
    rw [← hu, arbSettings, ← hw.keeps .arb (by decide), arbSettings]
  simpa only [arbSettings, Prod.mk.injEq] using hset

/-- Settles O51: the last fragment of an image, late events, deadlocks, the end of an activation, and what the loops over engines
and clusters leave where they do not move or wake. -/
theorem engineForms : Obligations.EngineForms := by
  unfold Obligations.EngineForms
  refine ⟨?_, ?_, ?_, ?_, ?_, ?_, ?_, ?_, ?_, ?_⟩
  · intro rq s h h13 h4080 hflags hz htotal hsome hoff hsame hend hact
    have hb := bodyProgStage_last (c := rowCmd 0x0A02 rq s) (s := takeId s) h13 h4080 hflags hz htotal hsome hoff hsame hend hact
    have hverify : verifySower (takeId s) ((takeId s).eng.staging.bytes ++ (rowCmd 0x0A02 rq s).req.payload.drop 12) =
      verifySower s (s.eng.staging.bytes ++ rq.payload.drop 12) := rfl
    rw [hverify] at hb
    cases hv : verifySower s (s.eng.staging.bytes ++ rq.payload.drop 12) with
    | none => exact goes_kcpRow (by simp)
    | some img =>
      rw [hv] at hb
      refine goes_of_ok_body bodyProgStage_within (by decide) h hb fun _ hans i hi => ?_
      obtain rfl : i = img := by simpa using hi
      exact ⟨rfl, hans⟩
  · intro rq s h hp
    exact kcpRow_reads _ _ rq s _ h (if_pos (congrArg List.length hp))
  · intro n k next s hn hw hk
    refine goes_unit (decide_eq_true hn) fun _ => ?_
    rw [waitEvent_late next hw, lateEvent_eq hk, ← satInc_sat32]
    exact ⟨setThread_thread_same .., rfl⟩
  · intro s hd
    refine goes_done fun _ => ?_
    have hclusters : awakeClusters (censusSample s) = awakeClusters s := awakeClusters_congr fun _ => rfl
    have hthreads : awakeThreads (censusSample s) = awakeThreads s := by rw [awakeThreads, hclusters, awakeThreads]
    have h := declareDeadlock_leaves (censusSample s)
    rw [hclusters, hthreads] at h
    rw [stallCensus, if_pos hd, ← satInc_sat32]
    generalize declareDeadlock (censusSample s) = t at h ⊢
    exact h
  · intro e s img he h7 hact hidle honly _
    have hactive : (switchEngine e img s).eng.activation = some img := hact
    obtain ⟨hnone, himg, hstaging⟩ := endActivation_image hactive
    obtain ⟨hstate, himage⟩ := (endActivation_leaves (switchEngine e img s)).1 e
    refine goes_unit (decide_eq_true he) fun _ => ?_
    rw [engineSwitch_ends h7 hact hidle honly]
    refine ⟨himage.trans ?_, hstate.trans ?_, hnone, himg, hstaging⟩ <;> rw [switchEngine, setEngine_engine_same]
    exact loadImage_image ..
  · intro occ s b e hdue _ hnot
    refine goes_done fun _ => ?_
    rw [rebalanceStep_still hdue (.inr (by simp [hnot]))]
    exact ⟨rfl, rfl⟩
  · intro mv occ s hdue hoff
    refine goes_done fun _ => ?_
    rw [rebalanceStep_still hdue (.inl hoff), hoff, ← satInc_sat32]
    exact ⟨rfl, rfl, rfl⟩
  · intro k o s hk ho
    have hwake : clusterWake k o s = loadTarget false s := if_pos ho
    show execClusterWake k o s = _
    rw [execClusterWake, guardUnit, decide_eq_true hk, if_pos rfl, hwake]
    rfl
  · intro k o s hk ho h2 hload hkeep
    refine goes_unit (decide_eq_true hk) fun _ => ?_
    rw [clusterFallow_kept ho h2 hload hkeep]
    rfl
  · intro s b cw gw hnew hnext
    exact goes_doneHeld fun _ => arbiterWindow_leaves hnew hnext

end Sys2Proof.Machine
end

section
/-! SUPPORT. A command that waits in the M tile for its completion is answered PENDING as one in the mailbox is (R16). -/

namespace Sys2Proof.Machine
open Sys2Proof

/-- A command has waited 10 ms for its completion in the M tile, and the mailbox is free. -/
def longWait : State :=
  { State.reset with now := 10000000, kcp := { State.reset.kcp with slots := [{ id := 7, opcode := 0x0103, phase := .waiting }] } }

/-- The command goes on in the background, answered. -/
theorem pendingReply_longWait : (pendingReply longWait).kcp.slots.map (·.answered) = [true] := by decide +kernel

/-- Refutes O58: its clause on PENDING_REPLY excludes only commands in the mailbox that are due, but a command that waits in the M tile
is answered after the same 10 ms, so the step does not leave the state as it was. -/
theorem not_commandForms : ¬ Obligations.CommandForms := by
  unfold Obligations.CommandForms
  rintro ⟨-, -, -, -, -, -, -, -, -, -, -, -, -, hpending, -⟩
  have hstill := hpending longWait (by decide)
  have hrow : exec .pendingReply longWait = .next (commitG longWait (pendingReply longWait)) := rfl
  have hsame : commitG longWait (pendingReply longWait) = commitG longWait longWait := Host.Outcome.next.inj (hrow.symm.trans hstill)
  have hslots := congrArg (fun t : State => t.kcp.slots.map (·.answered)) hsame
  simp only [commitG_kcp_slots, pendingReply_longWait] at hslots
  exact absurd hslots (by decide)

end Sys2Proof.Machine
end

section
/-! SUPPORT. Further messages of the masters above: what each leaves of an upstream domain (R296 to R298). -/

namespace Sys2Proof.Machine
open Sys2Proof

/-! An exchange of an upstream domain (R297). -/

/-- A reference event leaves the packet service. -/
theorem refEvent_upD (i : Nat) (ev : SlotEvent) (s : State) (j : Nat) : (refEvent i ev s).upD j = s.upD j :=
  (refEvent_within i ev s).upD_eq (by decide) j

/-- A Sync's instant is kept, and no Sync waits for its Follow_Up. -/
theorem upEvent_sync (i p : Nat) (t2 : FieldTime) (ms : Int) (tlv : Option Nat) (s : State) :
    ((upEvent i p t2 ms tlv s).upD i).lastSync = some (ms, tlv) ∧ ((upEvent i p t2 ms tlv s).upD i).pendingSync = none := by
  unfold upEvent
  dsimp only
  split
  · rw [setUpD_upD_same]
    exact ⟨rfl, rfl⟩
  · split
    · rw [setUpD_upD_same]
      exact ⟨rfl, rfl⟩
    · rw [refEvent_upD, setUpD_upD_same, setUpD_upD_same]
      exact ⟨rfl, rfl⟩

/-- Without a path delay it is kept alone. -/
theorem upEvent_alone {i : Nat} {s : State} (h : (s.upD i).lastDelay = none) (p : Nat) (t2 : FieldTime) (ms : Int) (tlv : Option Nat) :
    upEvent i p t2 ms tlv s = s.setUpD i { s.upD i with lastSync := some (ms, tlv), pendingSync := none } := by
  unfold upEvent
  dsimp only
  rw [h]

/-- With a path delay that is recent it is an exchange. -/
theorem upEvent_exchange {i : Nat} {s : State} {sm : Int} {tlv' : Option Nat} {at_ : Nat}
    (h : (s.upD i).lastDelay = some (sm, tlv', at_)) (hdue : s.now ≤ at_ + 4 * logNs (s.upD i).cfg.delayLog) (p : Nat)
    (t2 : FieldTime) (ms : Int) (tlv : Option Nat) :
    ((upEvent i p t2 ms tlv s).upD i).exchanges = satInc sat32 (s.upD i).exchanges := by
  unfold upEvent
  dsimp only
  rw [h]
  dsimp only
  rw [if_neg (Nat.not_lt.mpr hdue), refEvent_upD, setUpD_upD_same]

section Master

variable {s : State} {n i p : Nat} {tm : FieldTime} {b : Bound} {f : RxFrame} {m : PtpMsg} (h : upIn s n = some (i, p, tm, b, f, m))
  (hver : versionOk m = true) (hon : upOn s i = true) (ha : (authCfg s (9 + i)).1 = 0)
include h hver hon ha

section Chosen

variable (hsome : (s.upD i).chosen.isSome = true) (hours : candOf (s.upD i) f m = (s.upD i).chosen)
include hsome hours

/-- A one-step Sync of the chosen master is an exchange (R297). -/
theorem upstreamMessage_oneStep {o : FieldTime} (hb : m.body = .sync true o) : upstreamMessage n s =
    finishTask n (upEvent i p tm ((tm : Int) - o - m.correction * 2 ^ 16) m.bound s) := by
  unfold upstreamMessage
  rw [h]
  dsimp only
  rw [hb]
  dsimp only
  rw [if_neg (by simp [hver, hon, hsome, hours]), if_neg (by simp [upAuth_off ha])]

/-- The Follow_Up of the Sync that waits for it is (R297). -/
theorem upstreamMessage_followUp {o t2 : FieldTime} {c2 : Int} {bd : Option Nat} {at_ : Nat} (hb : m.body = .followUp o)
    (hpending : (s.upD i).pendingSync = some (m.seq, c2, t2, bd, at_)) (hdue : s.now ≤ at_ + logNs (s.upD i).cfg.syncLog) :
    upstreamMessage n s = finishTask n (upEvent i p t2 ((t2 : Int) - o - (c2 + m.correction) * 2 ^ 16)
      (if m.bound.isSome then m.bound else bd) s) := by
  unfold upstreamMessage
  rw [h]
  dsimp only
  rw [hb]
  dsimp only
  rw [if_neg (by simp [hver, hon, hsome, hours]), if_neg (by simp [upAuth_off ha]), hpending]
  dsimp only
  rw [if_pos ⟨rfl, hdue⟩]
  cases m.bound <;> rfl

/-- The answer to the Delay_Req that is out gives the path delay, where it is to this clock (R297). -/
theorem upstreamMessage_delay {t4 t3 : FieldTime} {ck : Nat} (hb : m.body = .delayResp t4 ck)
    (hout : (s.upD i).delayReqOut = some (m.seq, t3)) : upstreamMessage n s =
    if ck = rdBe (fit 8 Config.clockIdentity) 0 8 then finishTask n (s.setUpD i { s.upD i with
      delayReqOut := none, lastDelay := some ((t4 : Int) - m.correction * 2 ^ 16 - t3, m.bound, s.now) })
    else finishTask n s := by
  unfold upstreamMessage
  rw [h]
  dsimp only
  rw [hb]
  dsimp only
  rw [if_neg (by simp [hver, hon, hsome, hours]), if_neg (by simp [upAuth_off ha]), hout]
  dsimp only
  simp only [true_and]

end Chosen

/-- A grant of no duration is a denial (R296). -/
theorem upstreamGrant_denies {kind : GrantKind} {log : Int} {c : Nat} (hb : m.body = .signaling (.grant kind log 0))
    (hc : candOf (s.upD i) f m = some c) : upstreamGrant n s = finishTask n (s.setUpD i
      { (s.upD i).setCand c { (s.upD i).cand c with
          grants := clrBit ((s.upD i).cand c).grants (kindBit kind), denied := true } with
        grantsDenied := satInc sat32 (s.upD i).grantsDenied }) := by
  unfold upstreamGrant
  rw [h]
  dsimp only
  rw [hb]
  dsimp only
  rw [if_neg (by simp [hver, hon]), if_neg (by simp [upAuth_off ha]), hc]
  exact if_pos rfl

/-- A cancelled grant is gone (R296). -/
theorem upstreamGrant_cancels {kind : GrantKind} {c : Nat} (hb : m.body = .signaling (.cancel kind))
    (hc : candOf (s.upD i) f m = some c) : upstreamGrant n s = finishTask n (s.setUpD i
      ((s.upD i).setCand c { (s.upD i).cand c with grants := clrBit ((s.upD i).cand c).grants (kindBit kind) })) := by
  unfold upstreamGrant
  rw [h]
  dsimp only
  rw [hb]
  dsimp only
  rw [if_neg (by simp [hver, hon]), if_neg (by simp [upAuth_off ha]), hc]

end Master

theorem finishTask_upD (n : Nat) (s : State) (j : Nat) : (finishTask n s).upD j = s.upD j :=
  (finishTask_within n s).upD_eq (by decide) j

end Sys2Proof.Machine
end

section
/-! SUPPORT. Further scheduled messages, the tasks of client commands, and the frames that no commit has fixed: what each event leaves
(R280 to R289, R295, R303, R304, R309). -/

namespace Sys2Proof.Machine
open Sys2Proof

/-! A schedule that has run before (R309). -/

/-- A message falls due again once its interval is over. -/
theorem schedDue_again {s : State} {key : SchedKey} {log : Int} {flow : List Byte} {tm : Nat}
    (h : schedWant s key = some (log, flow)) (hs : s.eng.sched = [(key, tm)]) (hdue : tm + logNs log ≤ s.now) :
    schedDue key s = pushInput ⟨.sched key, bucketOf s flow⟩ { s with eng := { s.eng with sched := [(key, s.now)] } } := by
  unfold schedDue
  rw [h]
  dsimp only
  rw [hs]
  simp [Nat.not_lt.mpr hdue]

/-! Sending a scheduled message (R280, R286, R295, R309). -/

/-- A sampled exchange keeps the domains' sequence numbers and the entries. -/
theorem syncRecord_leaves (s : State) (f : TxFrame) (exchange seq : Nat) (t : Option FieldTime) (b : Bound) :
    Within [.svc] s (syncRecord s f exchange seq t b).2 ∧ (∀ i, (syncRecord s f exchange seq t b).2.entry i = s.entry i) ∧
      ∀ j, ((syncRecord s f exchange seq t b).2.dom j).mcastSyncSeq = (s.dom j).mcastSyncSeq := by
  unfold syncRecord
  split
  · refine ⟨State.setDom_within .., fun _ => rfl, fun j => ?_⟩
    show ((s.setDom f.svcDomain _).dom j).mcastSyncSeq = _
    by_cases hj : j = f.svcDomain
    · rw [hj, setDom_dom_same]
    · rw [setDom_dom_other _ _ _ _ hj]
  · exact ⟨Within.refl _ _, fun _ => rfl, fun _ => rfl⟩

/-- A Sync of a domain without authentication is sent, to the entry it is for or to the group. -/
theorem sendSync_sends (n p d transport : Nat) (e : Option Nat) (seq : Nat) (s : State)
    (ha : algOf s d ((e.map s.entry).getD {}).authRequired = 0) :
    ∃ g u, Sends n p (queueOf s p d) g u (sendSync n p d transport e seq s) ∧ Within [.svc] s u ∧ (∀ i, u.entry i = s.entry i) ∧
      (∀ j, (u.dom j).mcastSyncSeq = (s.dom j).mcastSyncSeq) ∧ g.msg = .sync seq (bit (s.dom d).cfg.flags 1) ∧
      g.entry = e.map (fun _ => ((e.map s.entry).getD {}).key) := by
  unfold sendSync
  dsimp only
  split
  · obtain ⟨hw, hentry, hseq⟩ := syncRecord_leaves s
      (domMessage s p d transport e .sync (.sync seq (bit (s.dom d).cfg.flags 1)) 44) 2 seq none
      (domMessage s p d transport e .sync (.sync seq (bit (s.dom d).cfg.flags 1)) 44).fields.bound
    exact ⟨_, _, ⟨rfl, ha, rfl, rfl⟩, hw, hentry, hseq, rfl, rfl⟩
  · exact ⟨_, _, ⟨rfl, ha, rfl, rfl⟩, Within.refl _ _, fun _ => rfl, fun _ => rfl, rfl, rfl⟩

/-- An entry without authentication, of a domain without, sends none. -/
theorem algOf_entry {s : State} {d i : Nat} {x : Entry} (ha : (authCfg s d).1 = 0) (hx : x.authRequired = false) :
    algOf (s.setEntry i x) d ((((some i).map (s.setEntry i x).entry).getD {}).authRequired) = 0 := by
  rw [Option.map_some, Option.getD_some, setEntry_entry_same, hx]
  exact algOf_off (s := s.setEntry i x) ha

section Unicast

variable {n i : Nat} {k : GKey} {s : State} {e : Entry} (he : e = s.entry i) (hreq : e.authRequired = false)
  (ha : (authCfg s e.key.domain).1 = 0)
include he hreq ha

/-- A client's Sync has the entry's sequence number, which goes on. -/
theorem sendUnicast_sync (hlive : grantLive s k .sync = some i) :
    ∃ g u, Sends n e.key.port (queueOf s e.key.port e.key.domain) g u (sendUnicast n k .sync s) ∧ u.thread n = s.thread n ∧
      (u.entry i).syncSeq = (e.syncSeq + 1) % 65536 ∧ g.msg = .sync e.syncSeq (bit (s.dom e.key.domain).cfg.flags 1) ∧
      g.entry = some e.key := by
  subst he
  unfold sendUnicast
  rw [hlive]
  dsimp only
  obtain ⟨g, u, hs, hw, hentry, -, hmsg, hkey⟩ := sendSync_sends n (s.entry i).key.port (s.entry i).key.domain
    (s.entry i).transport (some i) (s.entry i).syncSeq
    (s.setEntry i { s.entry i with syncSeq := ((s.entry i).syncSeq + 1) % 65536, gen := s.kcp.g }) (algOf_entry ha hreq)
  refine ⟨g, u, hs, (hw.thread_eq (by decide) n).trans rfl, ?_, hmsg, ?_⟩
  · rw [hentry, setEntry_entry_same]
  · rw [hkey, Option.map_some, Option.map_some, Option.getD_some, setEntry_entry_same]

/-- A client's Announce has its own. -/
theorem sendUnicast_announce (hlive : grantLive s k .announce = some i) :
    ∃ g u, Sends n e.key.port (queueOf s e.key.port e.key.domain) g u (sendUnicast n k .announce s) ∧ u.thread n = s.thread n ∧
      (u.entry i).annSeq = (e.annSeq + 1) % 65536 ∧ g.msg = .announce e.annSeq ∧ g.entry = some e.key := by
  subst he
  unfold sendUnicast
  rw [hlive]
  dsimp only
  generalize hx : ({ s.entry i with annSeq := _, gen := _ } : Entry) = x
  have hentry : (s.setEntry i x).entry i = x := setEntry_entry_same ..
  have hoff := algOf_entry (i := i) (x := x) ha (by rw [← hx]; exact hreq)
  refine ⟨_, _, ⟨rfl, hoff, rfl, rfl⟩, rfl, ?_, rfl, ?_⟩
  · rw [hentry, ← hx]
  · show some (((some i).map (s.setEntry i x).entry).getD {}).key = _
    rw [Option.map_some, Option.getD_some, hentry, ← hx]

end Unicast

/-- A group's Sync has the domain's sequence number on the port, which goes on. -/
theorem sendMulticast_sync {n d p : Nat} {s : State} (hwant : (schedWant s (.multicast d p .sync)).isSome = true) (hd : d < 8)
    (ha : (authCfg s d).1 = 0) :
    ∃ g u, Sends n p (queueOf s p d) g u (sendMulticast n d p .sync s) ∧ u.thread n = s.thread n ∧
      tget 0 (u.dom d).mcastSyncSeq p = (tget 0 (s.dom d).mcastSyncSeq p + 1) % 65536 ∧
      g.msg = .sync (tget 0 (s.dom d).mcastSyncSeq p) (bit (s.dom d).cfg.flags 1) ∧ g.entry = none := by
  have hnone : ¬(schedWant s (.multicast d p .sync)).isNone = true := by rw [← Option.not_isSome, hwant]; decide
  unfold sendMulticast
  rw [if_neg hnone, if_neg (by omega)]
  dsimp only
  generalize hx : ({ s.dom d with mcastSyncSeq := _ } : Dom) = x
  have hcfg : ((s.setDom d x).dom d).cfg = (s.dom d).cfg := by rw [setDom_dom_same, ← hx]
  have hoff : algOf (s.setDom d x) d (((none : Option Nat).map (s.setDom d x).entry).getD {}).authRequired = 0 :=
    algOf_off (by rw [authCfg_congr hcfg rfl, ha])
  obtain ⟨g, u, hs, hw, -, hseq, hmsg, hkey⟩ := sendSync_sends n p d (firstTransport (s.dom d).cfg.transport) none
    (tget 0 (s.dom d).mcastSyncSeq p) (s.setDom d x) hoff
  refine ⟨g, u, hs, (hw.thread_eq (by decide) n).trans rfl, ?_, ?_, hkey⟩
  · rw [hseq, setDom_dom_same, ← hx]
    exact tget_tset_same ..
  · rw [hmsg, hcfg]

/-- An upstream domain's Delay_Req has the domain's own. -/
theorem sendMulticast_delayReq {n d p : Nat} {s : State} (hwant : (schedWant s (.multicast d p .delayResp)).isSome = true)
    (hd : 9 ≤ d) (ha : (authCfg s d).1 = 0) :
    ∃ g u, Sends n p (queueOf s p d) g u (sendMulticast n d p .delayResp s) ∧ u.thread n = s.thread n ∧
      (u.upD (d - 9)).delayReqSeq = ((s.upD (d - 9)).delayReqSeq + 1) % 65536 ∧ g.msg = .delayReq (s.upD (d - 9)).delayReqSeq := by
  have hnone : ¬(schedWant s (.multicast d p .delayResp)).isNone = true := by rw [← Option.not_isSome, hwant]; decide
  unfold sendMulticast
  rw [if_neg hnone, if_pos hd]
  dsimp only
  exact ⟨_, _, ⟨rfl, algOf_off ha, rfl, rfl⟩, rfl, congrArg Up.delayReqSeq (setUpD_upD_same ..), rfl⟩

/-- The Follow_Up of a Sync has the instant the Sync was sent (R286). -/
theorem sendFollowUp_sends {n : Nat} {y : TxFrame} {s : State} (hon : domOn s y.svcDomain y.port = true)
    (hserve : servable y.fields.time = true) (ha : y.alg = 0) :
    ∃ g u, Sends n y.port (queueOf s y.port y.svcDomain) g u (sendFollowUp n y s) ∧ u.thread n = s.thread n ∧
      g.msg = .followUp ((syncSeqOf y.msg).getD 0) ∧ g.fields.time = y.fields.time := by
  unfold sendFollowUp
  dsimp only
  rw [if_neg (by simp [hon, hserve])]
  exact ⟨_, _, ⟨rfl, ha, rfl, rfl⟩, (syncRecord_leaves s _ 3 _ _ _).1.thread_eq (by decide) n, rfl, rfl⟩

/-! A task that runs (R309). -/

theorem task_of_taskOf {s : State} {n : Nat} {k : Task} (h : taskOf s n = some k) : (s.thread n).task = some k := by
  unfold taskOf at h
  cases ht : (s.thread n).task with
  | none => simp [ht] at h
  | some k' =>
    rw [ht] at h
    dsimp only at h
    split at h
    · cases h
    · exact h

/-- What the task of a scheduled message does. -/
def sendScheduled (n : Nat) (key : SchedKey) (s : State) : State :=
  match key with
  | .unicast k kind => sendUnicast n k kind s
  | .multicast d p kind => sendMulticast n d p kind s
  | .followUp f => sendFollowUp n f s

theorem scheduledMessage_run {s : State} {n : Nat} {k : Task} {key : SchedKey} (h : taskOf s n = some k) (hmsg : k.msg = .sched key) :
    scheduledMessage (.run n) s = sendScheduled n key s := by
  unfold scheduledMessage sendScheduled
  dsimp only
  rw [h]
  dsimp only
  rw [hmsg]
  cases key <;> rfl

/-- A scheduled message's task sends it. -/
theorem goes_scheduled {s : State} {n p q : Nat} {key : SchedKey} {g : TxFrame} {u : State} {P : State → Prop}
    (h : (taskOf s n).map (·.msg) = some (.sched key)) (hs : Sends n p q g u (sendScheduled n key s)) (hu : u.thread n = s.thread n)
    (hP : ∀ t : State, Within [.eng, .eth, .regs, .kcp] u t →
      (∃ tag credit, lastQueued t p q = some { g with tag := tag, credit := credit }) → P t) :
    Goes (exec (.scheduledMessage (.run n)) s) P := by
  obtain ⟨k, hk, hmsg⟩ := Option.map_eq_some_iff.mp h
  refine goes_doneHeld (s' := scheduledMessage (.run n) s) fun l => ?_
  rw [scheduledMessage_run hk hmsg]
  refine hP _ ?_ ⟨_, _, hs.last (hu ▸ task_of_taskOf hk)⟩
  exact Within.kcp (by decide) (hs.within.mono (by decide))

/-! The task of a client command (R283, R303, R304). -/

/-- A task that ends with its command's answer: the reply bears G with the row's own increment (R488). -/
theorem goes_doneHeld_finished {s t : State} {n id : Nat} {k : Cmd} {f : Cmd → State → Res} {p : List Byte} {P : State → Prop}
    (hr : t.kcp.replies = s.kcp.replies) (hk : t.kcp.slots.find? (fun c => c.id == id) = some k) (hl : k.lost = false)
    (hn : k.noReply = false) (hf : ∀ l : Kcp, f k { t with kcp := l } = ok { t with kcp := l } p)
    (hP : ∀ u : State, u.svc = t.svc → u.kcp.replies = s.kcp.replies ++ [mkReply k t.now stOK 0 u.kcp.g p] → P u) :
    Goes (doneHeld s (finishTask n (answerHeld id f t))) P := by
  have ha : ∃ l g, answerHeld id f t = { t with kcp := l } ∧ l.replies = s.kcp.replies ++ [mkReply k t.now stOK 0 g p] := by
    simp only [answerHeld, hk, hf, conclude, ok, stOK, Bool.false_eq_true, if_false, if_true, commitG_self, Option.getD_none,
      addReply_wanted hl hn, ← hr]
    exact ⟨_, _, rfl, rfl⟩
  obtain ⟨l, g, ha, hlr⟩ := ha
  have hw := finishTask_within n (answerHeld id f t)
  rw [ha] at hw ⊢
  generalize finishTask n { t with kcp := l } = v at hw ⊢
  have hkcp : l = v.kcp := hw.keeps .kcp (by decide)
  have hsvc : t.svc = v.svc := hw.keeps .svc (by decide)
  obtain ⟨m, hm, hmr⟩ : ∃ m, commitG s v = { v with kcp := m } ∧ m.replies = l.replies :=
    ⟨_, commitG_eq s v, (commitG_kcp_replies s v).trans (congrArg Kcp.replies hkcp.symm)⟩
  refine ⟨_, rfl, ?_⟩
  rw [hm, stampReplies]
  refine hP _ hsvc.symm ?_
  simp only [hmr, hlr, List.take_left', List.drop_left', List.map_cons, List.map_nil]
  rfl

/-- What the task of a client command does. -/
def clientTask (id : Nat) (c : ClientCmd) (bucket : Nat) (s : State) : State :=
  match c with
  | .add e => addClient id e s
  | .remove mode key tenant => removeClients id mode key tenant bucket s

/-- A client command's task is run for its command, which is still in its slot. -/
theorem scheduledMessage_command {s : State} {n id : Nat} {k : Task} {c : ClientCmd} {y : Cmd} (h : taskOf s n = some k)
    (hmsg : k.msg = .cmd id c) (hy : s.kcp.slots.find? (fun z => z.id == id) = some y) :
    scheduledMessage (.run n) s = finishTask n (clientTask id c k.bucket s) := by
  have hany : s.kcp.slots.any (fun x => decide (x.id = id)) = true :=
    List.any_eq_true.mpr ⟨y, List.mem_of_find?_eq_some hy, by simpa using List.find?_some hy⟩
  unfold scheduledMessage
  dsimp only
  rw [h]
  dsimp only
  rw [hmsg]
  dsimp only
  unfold runClientCmd
  rw [if_neg (by simp [hany])]
  cases c <;> rfl

/-- A new client is written where there is a place for it. -/
theorem addClient_new {s : State} {id : Nat} {e : Entry} {r : Tbl Entry × Nat}
    (hon : bit (s.dom e.key.domain).cfg.flags 0 = true) (hnew : findEntry s e.key = none)
    (hroom : entriesOf s e.key.domain < (s.dom e.key.domain).cfg.maxClients) (hplace : placeFor s e.key = some r) :
    addClient id e s = answerHeld id (fun _ u => ok u (le 4 r.2))
      (writeEntry r.2 { e with valid := true } { s with svc := { s.svc with granary := r.1 } }) := by
  obtain ⟨t, i⟩ := r
  have hinsert : insertEntry e s = (some i, writeEntry i { e with valid := true } { s with svc := { s.svc with granary := t } }) := by
    unfold insertEntry
    dsimp only
    rw [if_neg (Nat.not_le.mpr hroom), hplace]
  unfold addClient
  rw [if_neg (by simp [hon]), hnew]
  dsimp only
  rw [hinsert]

/-- Of a client that is there the command's fields are replaced. -/
theorem addClient_known {s : State} {id i : Nat} {e : Entry} (hon : bit (s.dom e.key.domain).cfg.flags 0 = true)
    (hi : findEntry s e.key = some i) :
    addClient id e s = answerHeld id (fun _ t => ok t (le 4 i)) (writeEntry i { s.entry i with
      tenant := e.tenant, authRequired := e.authRequired, boundTlv := e.boundTlv, isStatic := e.isStatic } s) := by
  unfold addClient
  rw [if_neg (by simp [hon]), hi]

/-- An entry without grants has none to cancel. -/
theorem cancelGrants_none {s : State} {i : Nat} (h : (s.entry i).grants = 0) (bits : Nat) : cancelGrants bits s i = s := by
  have hbit (n : Nat) : bit (0 &&& bits) n = false := by simp [bit]
  unfold cancelGrants
  simp only [h, hbit, Bool.false_eq_true, if_false]
  rfl

/-- The entries that the last task of a removal by key removes: the one of the key, where the task's bucket is its own. -/
def removedEntries (s : State) (i bucket : Nat) (k : GKey) : List Nat := if bucket = bucketOf s (flowEntry k) then [i] else []

/-- A state after the removal of its entry, with no task of a removal left. -/
def removalEnded (s : State) (l : List Nat) : State :=
  { l.foldl (fun t i => freeEntry i t) s with svc := { (l.foldl (fun t i => freeEntry i t) s).svc with removals := [] } }

theorem removeClients_last {s : State} {id tn i bucket : Nat} {k : GKey} (hrem : s.svc.removals = [⟨id, 1, 0⟩])
    (hi : findEntry s k = some i) (hkey : (s.entry i).key = k) (hg : (s.entry i).grants = 0) :
    removeClients id 0 k tn bucket s = answerHeld id (fun _ u => ok u (le 4 (removedEntries s i bucket k).length))
      (removalEnded s (removedEntries s i bucket k)) := by
  have hlist : (removeList s 0 k tn).filter (fun j => decide (bucketOf s (flowEntry (s.entry j).key) = bucket)) =
      removedEntries s i bucket k := by
    simp only [removeList, hi, Option.toList_some, List.filter_cons, hkey, List.filter_nil, removedEntries, decide_eq_true_eq,
      eq_comm (a := bucket)]
  have hfold : (removedEntries s i bucket k).foldl (fun t i => freeEntry i (cancelGrants 7 t i)) s =
      (removedEntries s i bucket k).foldl (fun t i => freeEntry i t) s := by
    unfold removedEntries
    split
    · simp only [List.foldl_cons, List.foldl_nil, cancelGrants_none hg]
    · rfl
  have hkeep : ((removedEntries s i bucket k).foldl (fun t i => freeEntry i t) s).svc.removals = [⟨id, 1, 0⟩] := by
    rw [foldl_keeps (f := fun t i => freeEntry i t) (fun t => t.svc.removals) (fun _ _ => rfl), hrem]
  unfold removeClients
  dsimp only
  rw [hlist, hfold, hkeep]
  simp only [List.find?_cons, decide_true]
  rw [if_pos (Nat.le_refl 1)]
  simp [removalEnded]

end Sys2Proof.Machine
end

section
/-! SUPPORT. The start of a frame that no commit has fixed, the loss of one in flight, and the further forms of upstream messages and
transmission from their conditions (R288, R289, R296 to R298, R309). -/

namespace Sys2Proof.Machine
open Sys2Proof

/-! START_OF_FRAME (R288). -/

/-- A frame on the wire from `ps`: one that was not committed takes its bytes and its times there (R288). -/
def frameFrom (p : Nat) (f : TxFrame) (ps : Nat) (s : State) : TxFrame :=
  if f.committed.isSome then { f with ends := ps + f.bytes * wirePs (s.ethP p).cfg.rate }
  else { f with
    ends := ps + f.bytes * wirePs (s.ethP p).cfg.rate, wire := frameBytes f
    fields := { f.fields with
      time := if isEvent f.msg then egressStamp s p ps else f.fields.time
      bound := if isEvent f.msg then servedBound s p true else f.fields.bound } }

/-- It has its message and its end either way. -/
theorem frameFrom_flight (p : Nat) (f : TxFrame) (ps : Nat) (s : State) :
    (frameFrom p f ps s).msg = f.msg ∧ (frameFrom p f ps s).ends = ps + f.bytes * wirePs (s.ethP p).cfg.rate := by
  unfold frameFrom
  split <;> exact ⟨rfl, rfl⟩

/-- A frame that starts is in flight, and takes the wire to its end. -/
theorem startFrame_unmetered (p : Nat) (f : TxFrame) (ps : Nat) (s : State) :
    ∃ w, unmetered ((startFrame p f ps s).ethP p) =
      unmetered { s.ethP p with inFlight := some (frameFrom p f ps s), wireFree := w } := by
  unfold startFrame frameFrom
  dsimp only
  rw [afterStart_unmetered, (countStart_within _ _).ethP_eq (by decide), (filterCount_within _ _ _).ethP_eq (by decide)]
  simp only [perfAdd_ethP]
  generalize ha : s.setEthP p _ = a
  have hport : a.ethP p = _ := (congrArg (State.ethP · p) ha).symm.trans (setEthP_ethP_same ..)
  have hstart (r : Nat × Nat) : (startRecord r a).ethP p = a.ethP p := (startRecord_within r a).ethP_eq (by decide) p
  refine ⟨max (s.ethP p).wireFree (ps + f.bytes * wirePs (s.ethP p).cfg.rate), ?_⟩
  split <;> split <;> simp only [perfAdd_ethP, hstart, hport] <;> rfl

theorem startFrame_flight (p : Nat) (f : TxFrame) (ps : Nat) (s : State) :
    ((startFrame p f ps s).ethP p).queues = (s.ethP p).queues ∧
      ((startFrame p f ps s).ethP p).inFlight = some (frameFrom p f ps s) := by
  obtain ⟨w, hw⟩ := startFrame_unmetered p f ps s
  exact ⟨(congrArg Eth.queues hw :), (congrArg Eth.inFlight hw :)⟩

/-- A frame that needs no commit starts where it is first on the port's wire (R288). -/
theorem startOfFrame_plain {p q : Nat} {s : State} {f : TxFrame} (hempty : (s.ethP p).committedQ = []) (hup : (s.ethP p).state = 3)
    (hcfg : (s.ethP p).cfgNext = none) (hfree : (s.ethP p).wireFree + 20 * wirePs (s.ethP p).cfg.rate ≤ s.now * 1000)
    (hnone : commitCandidate (settleWire p s) p = none) (htop : topQueue s (s.ethP p) (fun l => l.any plain) = some q)
    (hf : (tget [] (s.ethP p).queues q).find? plain = some f) (hgrant : grantHolds s f (ftSec (replicaTime s 0)) = true) :
    tget [] ((startOfFrame p q s).ethP p).queues q = (tget [] (s.ethP p).queues q).erase f ∧
      ((startOfFrame p q s).ethP p).inFlight.map (fun g => (g.msg, g.ends)) =
        some (f.msg, s.now * 1000 + f.bytes * wirePs (s.ethP p).cfg.rate) := by
  obtain ⟨k, g, -, hwire⟩ := settleWire_ethP p s
  obtain ⟨e, he⟩ := settleWire_eth p s
  have hnow : (settleWire p s).now = s.now := (settleWire_within p s).now_eq
  have htop' : topQueue (settleWire p s) ((settleWire p s).ethP p) (fun l => l.any plain) = some q := by
    rw [← htop, hwire]
    simp only [topQueue, paused, hnow]
  have hgrant' : grantHolds (settleWire p s) f (ftSec (replicaTime (settleWire p s) 0)) = true := by
    rw [he]
    exact hgrant
  have hgo : ¬(((settleWire p s).ethP p).cfgNext.isSome = true ∨ ((settleWire p s).ethP p).state ≠ 3 ∨
      (settleWire p s).now * 1000 < ((settleWire p s).ethP p).wireFree + 20 * wirePs ((settleWire p s).ethP p).cfg.rate ∨
      (commitCandidate (settleWire p s) p).isSome = true ∨
      topQueue (settleWire p s) ((settleWire p s).ethP p) (fun l => l.any plain) ≠ some q) := by
    rw [htop', hnone, hnow, hwire]
    simp [hcfg, hup, Nat.not_lt.mpr hfree]
  unfold startOfFrame
  dsimp only
  rw [show ((settleWire p s).ethP p).committedQ = [] by rw [hwire]; exact hempty]
  dsimp only
  rw [if_neg hgo, show ((settleWire p s).ethP p).queues = (s.ethP p).queues by rw [hwire], hf]
  dsimp only
  rw [if_pos hgrant', hnow]
  generalize ha : (settleWire p s).setEthP p _ = a
  have hport : a.ethP p = _ := (congrArg (State.ethP · p) ha).symm.trans (setEthP_ethP_same ..)
  obtain ⟨hqueues, hflight⟩ := startFrame_flight p f (s.now * 1000) a
  obtain ⟨hmsg, hends⟩ := frameFrom_flight p f (s.now * 1000) a
  rw [hqueues, hflight, Option.map_some, hmsg, hends, hport, hwire]
  exact ⟨tget_tset_same .., rfl⟩

/-! FRAME_STOMP (R289). -/

/-- A committed frame in flight is stomped on the wire. -/
theorem frameStomp_inFlight {p : Nat} {s : State} {f : TxFrame} (hf : (s.ethP p).inFlight = some f) (hp : f.port = p)
    (hend : s.now * 1000 < f.ends) (hc : f.committed.isSome = true) (hs : f.stomped = false) (hr : f.record = none) :
    ((frameStomp ⟨p, 0⟩ s).ethP p).inFlight = some { f with stomped := true, wire := invertFcs f.wire } ∧
      ((frameStomp ⟨p, 0⟩ s).prof p).stomped = min 4294967295 ((s.prof p).stomped + 1) := by
  subst hp
  unfold frameStomp stompInFlight
  dsimp only
  rw [hf]
  dsimp only
  rw [if_pos ⟨hend, hc, by simp [hs]⟩, (stompFrame_within _ _).ethP_eq (by decide), setEthP_ethP_same]
  exact ⟨rfl, stompFrame_stomped hr _⟩

/-- Settles O50: messages of the masters above, scheduled messages and client commands, and frames without a commit. -/
theorem upstreamAndTransmissionForms : Obligations.UpstreamAndTransmissionForms := by
  unfold Obligations.UpstreamAndTransmissionForms
  refine ⟨?_, ?_, ?_, ?_, ?_, ?_, ?_, ?_, ?_, ?_, ?_, ?_, ?_, ?_, ?_, ?_, ?_⟩
  · intro n s i p tm b f m o hn hx hm hb hver hon ha hsome hours hdelay
    have h := upIn_of_rx hx hm
    refine goes_unit (decide_eq_true hn) fun _ => ?_
    rw [noteUpVerified_off h ha, upstreamMessage_oneStep h hver hon ha hsome hours hb, upEvent_alone hdelay]
    exact (finishTask_upD ..).trans (setUpD_upD_same ..)
  · intro n s i p tm b f m o sm tlv at_ hn hx hm hb hver hon ha hsome hours hdelay hdue
    have h := upIn_of_rx hx hm
    refine goes_unit (decide_eq_true hn) fun _ => ?_
    rw [noteUpVerified_off h ha, upstreamMessage_oneStep h hver hon ha hsome hours hb, ← satInc_sat32]
    exact ⟨(congrArg Up.lastSync (finishTask_upD ..)).trans (upEvent_sync ..).1,
      (congrArg Up.exchanges (finishTask_upD ..)).trans (upEvent_exchange hdelay hdue ..)⟩
  · intro n s i p tm b f m o c2 t2 bd at_ hn hx hm hb hver hon ha hsome hours hseq htime hat hdue
    have h := upIn_of_rx hx hm
    have hpending : (s.upD i).pendingSync = some (m.seq, c2, t2, bd, at_) := by
      cases hy : (s.upD i).pendingSync with
      | none => simp [hy] at hseq
      | some y =>
        obtain ⟨a, b, c, d, e⟩ := y
        simp only [hy, Option.map_some, Option.some.injEq, Prod.mk.injEq] at hseq htime hat
        obtain ⟨⟨rfl, rfl⟩, ⟨rfl, rfl⟩, rfl⟩ := And.intro hseq (And.intro htime hat)
        rfl
    refine goes_unit (decide_eq_true hn) fun _ => ?_
    rw [noteUpVerified_off h ha, upstreamMessage_followUp h hver hon ha hsome hours hb hpending hdue]
    exact ⟨(congrArg Up.lastSync (finishTask_upD ..)).trans (upEvent_sync ..).1,
      (congrArg Up.pendingSync (finishTask_upD ..)).trans (upEvent_sync ..).2⟩
  · intro n s i p tm b f m t4 ck t3 hn hx hm hb hver hon ha hsome hours hout
    have h := upIn_of_rx hx hm
    refine goes_unit (decide_eq_true hn) fun _ => ?_
    rw [noteUpVerified_off h ha, upstreamMessage_delay h hver hon ha hsome hours hb hout]
    split
    · exact (finishTask_upD ..).trans (setUpD_upD_same ..)
    · exact finishTask_upD ..
  · intro n s i p tm b f m kind log c hn hx hm hb hver hon ha hc
    have h := upIn_of_rx hx hm
    refine goes_unit (decide_eq_true hn) fun _ => ?_
    rw [noteUpVerified_off h ha, upstreamGrant_denies h hver hon ha hb hc, ← satInc_sat32]
    have hup := (finishTask_upD n (s.setUpD i _) i).trans (setUpD_upD_same s i { (s.upD i).setCand c { (s.upD i).cand c with
          grants := clrBit ((s.upD i).cand c).grants (kindBit kind), denied := true } with
        grantsDenied := satInc sat32 (s.upD i).grantsDenied })
    have hcand := (congrArg (Up.cand · c) hup).trans (setCand_cand_same ..)
    exact ⟨congrArg Candidate.denied hcand, congrArg Candidate.grants hcand, congrArg Up.grantsDenied hup⟩
  · intro n s i p tm b f m kind c hn hx hm hb hver hon ha hc
    have h := upIn_of_rx hx hm
    refine goes_unit (decide_eq_true hn) fun _ => ?_
    rw [noteUpVerified_off h ha, upstreamGrant_cancels h hver hon ha hb hc]
    exact (congrArg (Up.cand · c) ((finishTask_upD ..).trans (setUpD_upD_same ..))).trans (setCand_cand_same ..)
  · intro d p kind s log flow tm h hs hdue hroom
    refine goes_doneHeld (s' := schedDue (.multicast d p kind) s) fun _ => ?_
    rw [schedDue_again h hs hdue]
    have hroom' : (({ s with eng := { s.eng with sched := [(.multicast d p kind, s.now)] } } : State).engine
        (placed { s with eng := { s.eng with sched := [(.multicast d p kind, s.now)] } } (bucketOf s flow))).input.length < 192 := hroom
    exact ⟨by rw [pushInput_room hroom']; rfl, pushInput_input hroom'⟩
  · intro n i k s e hn h he hk hlive hreq ha
    obtain ⟨g, u, hs, hthread, hseq, hmsg, hkey⟩ := sendUnicast_sync (n := n) he hreq ha hlive
    refine goes_scheduled h hs hthread fun t hw ⟨_, _, hlast⟩ => ⟨?_, ?_⟩
    · rw [hw.entry_eq (by decide), hseq]
    · rw [hlast, Option.map_some, ← hk, ← hmsg, ← hkey]
  · intro n i k s e hn h he hk hlive hreq ha
    obtain ⟨g, u, hs, hthread, hseq, hmsg, hkey⟩ := sendUnicast_announce (n := n) he hreq ha hlive
    refine goes_scheduled h hs hthread fun t hw ⟨_, _, hlast⟩ => ⟨?_, ?_⟩
    · rw [hw.entry_eq (by decide), hseq]
    · rw [hlast, Option.map_some, ← hk, ← hmsg, ← hkey]
  · rintro n d p s q hn h hwant hd rfl ha
    obtain ⟨g, u, hs, hthread, hseq, hmsg, hkey⟩ := sendMulticast_sync (n := n) hwant hd ha
    refine goes_scheduled h hs hthread fun t hw ⟨_, _, hlast⟩ => ⟨?_, ?_⟩
    · rw [hw.dom_eq (by decide), hseq]
    · rw [hlast, Option.map_some, ← hmsg, ← hkey]
  · rintro n d p s u hn h hwant hd rfl ha
    obtain ⟨g, v, hs, hthread, hseq, hmsg⟩ := sendMulticast_delayReq (n := n) hwant hd ha
    refine goes_scheduled h hs hthread fun t hw ⟨_, _, hlast⟩ => ⟨?_, ?_⟩
    · rw [hw.upD_eq (by decide), hseq]
    · rw [hlast, Option.map_some, ← hmsg]
  · intro n s y hn h hon hserve ha
    obtain ⟨g, u, hs, hthread, hmsg, htime⟩ := sendFollowUp_sends (n := n) hon hserve ha
    refine goes_scheduled h hs hthread fun t _ ⟨_, _, hlast⟩ => ?_
    rw [hlast, Option.map_some, ← hmsg, ← htime]
  · intro p q s f hp hq hempty hup hcfg hfree hnone htop hf hgrant
    exact goes_unit (decide_eq_true ⟨hp, hq⟩) fun _ => startOfFrame_plain hempty hup hcfg hfree hnone htop hf hgrant
  · intro p s f hp hf hport hend hc hs hr
    exact goes_unit (decide_eq_true hp) fun _ => frameStomp_inFlight hf hport hend hc hs hr
  · intro n k0 id e y s hn hk hmsg hy hlost hreply hon hnew hroom hplace
    obtain ⟨r, hr⟩ := Option.isSome_iff_exists.mp hplace
    have hrow := scheduledMessage_command hk hmsg hy
    rw [clientTask, addClient_new hon hnew hroom hr] at hrow
    show Goes (doneHeld s (scheduledMessage (.run n) s)) _
    rw [hrow]
    refine goes_doneHeld_finished rfl hy hlost hreply (fun _ => rfl) fun u hsvc hreplies => ⟨r, by simp [hr], ?_, hreplies⟩
    rw [State.entry, hsvc, ← State.entry]
    exact writeEntry_entry_same r.2 { e with valid := true } { s with svc := { s.svc with granary := r.1 } }
  · intro n k0 id e y s i hn hk hmsg hy hlost hreply hon hi
    have hrow := scheduledMessage_command hk hmsg hy
    rw [clientTask, addClient_known hon hi] at hrow
    show Goes (doneHeld s (scheduledMessage (.run n) s)) _
    rw [hrow]
    refine goes_doneHeld_finished rfl hy hlost hreply (fun _ => rfl) fun u hsvc hreplies => ⟨?_, hreplies⟩
    rw [State.entry, hsvc, ← State.entry]
    exact writeEntry_entry_same ..
  · intro n k0 id k tn y s i hn hk hmsg hy hlost hreply hrem hi hkey hg
    have hrow := scheduledMessage_command hk hmsg hy
    rw [clientTask, removeClients_last hrem hi hkey hg] at hrow
    show Goes (doneHeld s (scheduledMessage (.run n) s)) _
    rw [hrow]
    have hended : (removalEnded s (removedEntries s i k0.bucket k)).svc.removals = [] ∧
        (removalEnded s (removedEntries s i k0.bucket k)).entry i =
          (if k0.bucket = bucketOf s (flowEntry k) then {} else s.entry i) ∧
        (removedEntries s i k0.bucket k).length = (if k0.bucket = bucketOf s (flowEntry k) then 1 else 0) ∧
        (removalEnded s (removedEntries s i k0.bucket k)).kcp = s.kcp ∧
        (removalEnded s (removedEntries s i k0.bucket k)).now = s.now := by
      unfold removalEnded removedEntries
      split
      · exact ⟨rfl, freeEntry_entry_same i s, rfl, rfl, rfl⟩
      · exact ⟨rfl, rfl, rfl, rfl, rfl⟩
    obtain ⟨hnone, hentry, hlen, hkcp, hnow⟩ := hended
    rw [hlen]
    refine goes_doneHeld_finished (congrArg Kcp.replies hkcp) (by rw [hkcp]; exact hy) hlost hreply (fun _ => rfl)
      fun u hsvc hreplies => ⟨?_, ?_, ?_⟩
    · rw [hsvc, hnone]
    · rw [State.entry, hsvc, ← State.entry, hentry]
    · rw [hreplies, hnow]

end Sys2Proof.Machine
end
